-- ==== Sys2Proof/Word.lean ====
section
/-! DEFINITION. The words of the CRV6464 and the one shape of sparse storage.
Only what the manual treats as bits is a bit vector: register contents, bytes, block-memory words. -/

namespace Sys2Proof

/-- One byte of a frame, of a memory or of a DOMAIN object. -/
abbrev Byte := BitVec 8

/-- The contents of one block register. The widest register of the device is 128 bits
(event log entries, capture buffer entries, engine post and completion records); a narrower
register uses the low bits and its upper bits are 0. -/
abbrev RegVal := BitVec 128

/-- A 32-bit word of an engine register or of a 64-bit block memory half. -/
abbrev W32 := BitVec 32

/-- Sparse storage: (key, value) pairs, keys strictly rising, no pair whose value is what an
unlisted key reads as.  The key is a plain number (an address, an object key, a path). -/
abbrev Sparse (α : Type) := List (Nat × α)

end Sys2Proof
end

