-- ==== Sys2Proof/Syntax.lean ====
section
/-! DEFINITION. The commands of the block: `Instr` has one constructor per row of spec/opcode_table.json, with the
operands of the happening.  What the outside world decides (a measured value, a check's outcome the device computes
on signals the model does not carry, a received frame) is an operand.  Above it stand the operand types. -/

namespace Sys2Proof

/-- The roles of the object dictionary (R474). -/
inductive Role where
  | tenant (n : Nat)
  | operator
  | service
deriving DecidableEq, Repr

/-- A transport over which Diong frames arrive (R474, R476). -/
inductive Transport where
  | port (n : Nat)
  | t1s
  | spi
deriving DecidableEq, Repr

/-- Who issues a transaction on the memory fabric or the control network (R33, R35). -/
inductive Master where
  /-- control core pair A (0) or B (1) -/
  | pair (b : Nat)
  | sec
  | engine (e : Nat)
  | dma
  | debug
  | tile (t : Nat)
  | lane (c : Nat)
  | link
deriving DecidableEq, Repr

/-- The value of a dictionary object: a number in the object's size (signed values in two's complement), or bytes. -/
inductive ObjVal where
  | num (n : Nat)
  | bytes (b : List Byte)
deriving DecidableEq, Repr

/-- The number an object holds; 0 for a byte value. -/
def ObjVal.toNat : ObjVal → Nat
  | .num n => n
  | .bytes _ => 0

/-- The bytes an object holds; empty for a number. -/
def ObjVal.toBytes : ObjVal → List Byte
  | .num _ => []
  | .bytes b => b

/-- The fields of a Diong request frame that every operation shares (R479, R480). -/
structure DHdr where
  transport : Transport
  /-- VER, byte 0 bits 7 to 4 -/
  ver : Nat
  /-- LAST, byte 0 bit 2 -/
  last : Bool
  session : Nat
  seq : Nat
  key : Nat
  /-- PC_ID of the eCPRI type 3 header; on other transports not looked at -/
  pcId : Nat
  /-- SEQ_ID of the eCPRI type 3 header; on other transports not looked at -/
  seqId : Nat
  /-- TAG, 16 bytes -/
  tag : List Byte
deriving DecidableEq, Repr

/-- A complex sample or resource element: I and Q in two's complement of the format's width. -/
structure Cplx where
  re : Int
  im : Int
deriving DecidableEq, Repr







/-- What the slice calibrator measured in a step (R125, R132): offset in 1/16 LSB, gain in 2⁻¹⁴, delay in 0.05 ps,
bandwidth in 0.1 %, noise above the median in 0.01 dB; rms difference of the spare from the active slice and from the
interpolation, in 1/16 LSB; the spur estimate in 0.1 dBc; and, of a converter with no spare, offset and gain of the slice at each
position as blind tracking found them (R137). -/
structure SliceEst where
  offset : Int
  gain : Int
  delay : Int
  bw : Int
  noise : Int
  diff : Nat
  dev : Nat
  spur : Int
  blind : List (Int × Int)
  /-- phase trim of the position shadowed, 0.05 ps -/
  trim : Int
deriving DecidableEq, Repr









/-- A compute slot operation: engine, fields DST, SA, SB, CJ and NG, whether it ends its bundle (R300), and what
ECC found in the words it reads: 0 nothing, 1 a corrected error, 2 an uncorrectable one (R322). -/
structure GeC where
  e : Nat
  dst : Nat
  sa : Nat
  sb : Nat
  cj : Bool
  ng : Bool
  last : Bool
  ecc : Nat
deriving DecidableEq, Repr

/-- A memory slot operation: engine, slot X or Y, REG, PTR, AM, whether it ends its bundle (R300), and what
ECC found in the words it reads: 0 nothing, 1 a corrected error, 2 an uncorrectable one (R322). -/
structure GeM where
  e : Nat
  y : Bool
  reg : Nat
  ptr : Nat
  am : Nat
  last : Bool
  ecc : Nat
deriving DecidableEq, Repr

/-- An address slot operation: engine, AT, AV, whether it ends its bundle (R300), and what
ECC found in the words it reads: 0 nothing, 1 a corrected error, 2 an uncorrectable one (R322). -/
structure GeA where
  e : Nat
  t : Nat
  v : Nat
  last : Bool
  ecc : Nat
deriving DecidableEq, Repr

/-- A control operation: engine, IMM, whether it ends its bundle (R300), and what
ECC found in the words it reads: 0 nothing, 1 a corrected error, 2 an uncorrectable one (R322). -/
structure GeK where
  e : Nat
  imm : Nat
  last : Bool
  ecc : Nat
deriving DecidableEq, Repr

/-- The value of a calibration item, in 10⁻⁶ of its units: gains dB, phases degrees, delays ps, other numbers. -/
structure CalMeas where
  g : List Int
  ph : List Int
  d : List Int
  x : List Int
deriving DecidableEq, Repr

/-- What a top-note window measured (R349): offsets in 1/16 LSB, loop gain in 0.001 dB, image and LO leakage in 0.1 dB, and for
the three phases whether their samples were free of the mirage flag. -/
structure TopMeas where
  rxI : Int
  rxQ : Int
  txI : Int
  txQ : Int
  loop : Int
  image : Int
  leak : Int
  dcOk : Bool
  loOk : Bool
  toneOk : Bool
deriving DecidableEq, Repr

/-- What a heart run found for a path (R363, R374, R375): the value V, the correlation SNR in 0.1 dB, and its figures: object
item and value, 0x101 and 0x102 for the array residuals of object 0x7001. -/
structure HeartRes where
  path : Nat
  v : CalMeas
  snr : Int
  figures : List (Nat × Int)
deriving DecidableEq, Repr

/-- A received frame: port, arrival tick (its ingress timestamp, R395), bytes from destination address to FCS, FCS good,
protected by MACsec, its MACsec checks good, EtherType, and the bytes from the eCPRI common header on, without ICV and FCS. -/
structure LnkFrame where
  port : Nat
  tick : Nat
  len : Nat
  fcsOk : Bool
  isProtected : Bool
  secOk : Bool
  etype : Nat
  data : List Byte
deriving DecidableEq, Repr













/-- What the power-up self-tests of step 2 and the calibrations of step 5 find (R632): banks, lanes (cluster, lane), tiles and engines
that fail, whether REFCLK is qualified, the core voltage target in mV, and for each path whether item 0x30 passes, with its
results. -/
structure BootIn where
  banks : List Nat
  lanes : List (Nat × Nat)
  tiles : List Nat
  engines : List Nat
  refclk : Bool
  vtarget : Nat
  fg : List (Nat × Bool × List (Nat × CalMeas))
deriving DecidableEq, Repr

/-- The commands of the block, one constructor per row of the table. -/
inductive Instr where
  /-- REGISTER_WRITE (R5): A write to a register field that has no row of its own acts according to its access code, with reserved bits ignored. -/
  | registerWrite (m : Master) (tag addr value : Nat)
  /-- SRAM_ACCESS (R441): A fabric master's load or store is firewall-checked, arbitrated and performed as a tenure of 1 to 16 beats on one bank. -/
  | sramAccess (port tag addr n : Nat) (data : Option (List Byte)) (ce ue : List Nat)
  /-- ARBITRATION_PHASE (R442): A bank arbiter decides in 2 cycles which requesting port is granted, by level and then round-robin. -/
  | arbitrationPhase (a : Nat) (ports : List Nat) (beats : Nat)
  /-- CROSSING_PULSE (R19): A pulse crosses between islands; a burst is counted, and the lost flag is set when the count saturates at 15. -/
  | crossingPulse (src dst burst : Nat)
  /-- CROSSING_WAKE_REQUEST (R16): A crossing's asynchronous wake request starts the stopped receiving clock within 8 cycles. -/
  | crossingWakeRequest (dst : Nat)
  /-- ISLAND_RESET_COMMAND (R17): The island reset command resets both halves of every crossing of the island, and in-flight transactions receive RESET_ABORT.  `inFlight`: the transactions in flight, each by the bytes it reads, 0 for a write. -/
  | islandResetCommand (island : Nat) (inFlight : List Nat)
  /-- LOCKSTEP_FAULT (R24): A comparator mismatch stops the control core pair within 2 cycles, discards its outgoing transactions and raises the lockstep-fault event. -/
  | lockstepFault (pair : Nat)
  /-- PAIR_PROMOTION (R25): At the next slot boundary after a lockstep fault, the other pair is promoted if it holds a verified image. -/
  | pairPromotion
  /-- LOST_FLAG_CLEAR (R20): A write of 1 to a bit of object 0xF010 clears that crossing's lost flag. -/
  | lostFlagClear (role : Role) (island bits : Nat)
  /-- PTP_CORRECTION_REQUEST (R38): The PTP servo requests a correction, which is steered, applied at once, or held pending as a step. -/
  | ptpCorrectionRequest (quarterNs : Int)
  /-- TIMELINE_STEP_APPLY (R38): A pending timeline step is applied at the first frame boundary at or after the boundary of the COMMIT that armed it. -/
  | timelineStepApply
  /-- TL_NOW_LO_READ (R36): A read of TL_NOW_LO returns counter bits [31:0] and latches bits [63:32] into TL_NOW_HI. -/
  | tlNowLoRead
  /-- PATTERN_ENTRY_BOUNDARY (R44): At a pattern entry boundary each path takes its new path state and its pin phase change starts. -/
  | patternEntryBoundary
  /-- TURNAROUND_STEP (R103): At t+40, t+60 and t+80 of a turnaround, FEB takes the position code, FEA rises and the pins take their new meaning. -/
  | turnaroundStep (p : Nat)
  /-- GUARD_END (R51): At every guard end the device checks for a serial transaction in progress and for an unlocked serving synthesiser. -/
  | guardEnd
  /-- BDAC_STROBE (R540): The timeline event strobes one bias DAC group, loading pending codes into the output targets. -/
  | bdacStrobe (n : Nat)
  /-- WEIGHT_HANDOVER (R246): The timeline event swaps current and shadow weight sets of its carrier and direction. -/
  | weightHandover (n : Nat)
  /-- TILE_START (R243): The timeline event arms runs of its carrier and direction for the symbols of the next D or U entry. -/
  | tileStart (n : Nat)
  /-- CAPTURE_OPEN (R162): The timeline event opens a capture of its length into a buffer on one or all paths. -/
  | captureOpen (n : Nat)
  /-- DMA_START (R455): The timeline event triggers a DMA ring with TRIG_TL set. -/
  | dmaStart (n : Nat)
  /-- SYNC (R173): The SYNC timeline event requests a decimator and interpolator SYNC. -/
  | sync (n : Nat)
  /-- LO_HOP (R92): The timeline event hops both trunks to the standby synthesiser if it is LOCKED on the named preset. -/
  | loHop (n : Nat)
  /-- LO_TUNE (R91): The timeline event tunes a synthesiser to a preset as a band change through CALIBRATING. -/
  | loTune (n : Nat)
  /-- FE_SERIAL (R121): The timeline event queues a front-end transaction list for one or all paths. -/
  | feSerial (n : Nat)
  /-- ORX_VISIT (R152): The timeline event switches an observation receiver's multiplexer to a path and starts a capture visit. -/
  | orxVisit (n : Nat)
  /-- CAL_WINDOW (R346): The timeline event places a path in CAL for its marked guard and schedules a top-note window. -/
  | calWindow (n : Nat)
  /-- COMMIT (R53): A Diong COMMIT snapshots the staged copies of the caller's scope and starts admission, or is refused before it. -/
  | commit (d : DHdr) (boundary tick : Nat)
  /-- ADMISSION_RESULT (R62): Admission ends with acceptance or refusal, the result is recorded in 0x2F00 and the response sent. -/
  | admissionResult
  /-- COMMIT_BOUNDARY (R61): At the boundary tick the new configuration governs events, the epoch increments and digests are recomputed. -/
  | commitBoundary
  /-- ABORT (R57): Diong ABORT discards the staged copies of the caller's scope. -/
  | abort (d : DHdr)
  /-- CAPACITY_LOSS_READMISSION (R82): A permanent loss of capacity without a spare repeats admission on the committed configuration. -/
  | capacityLossReadmission
  /-- CARRIER_DROP_REMOVAL (R82): At the next frame boundary carriers are removed by drop rank until admission passes, and the epoch increments. -/
  | carrierDropRemoval
  /-- LO_SYN_ENABLE (R90): Setting EN of a synthesiser moves it from OFF to CALIBRATING. -/
  | loSynEnable (n : Nat)
  /-- LO_SYN_DISABLE (R90): Clearing EN, or a power state below DOZE, moves a synthesiser to OFF and clears FAULT. -/
  | loSynDisable (n : Nat)
  /-- VCO_CALIBRATION_DONE (R90): The VCO sub-band and amplitude are found and the synthesiser enters SETTLING. -/
  | vcoCalibrationDone (n : Nat)
  /-- SYN_LOCK_ACHIEVED (R90): Phase error inside the lock window for 2 µs moves the synthesiser to LOCKED. -/
  | synLockAchieved (n : Nat)
  /-- SYN_SETTLE_TIMEOUT (R90): 30 µs without lock returns to CALIBRATING once, and a second timeout goes to OFF with FAULT. -/
  | synSettleTimeout (n : Nat)
  /-- SYN_LOCK_LOSS (R97): A LOCKED synthesiser loses lock, enters SETTLING and its served paths blank transmit within 64 ticks. -/
  | synLockLoss (n : Nat)
  /-- REFCLK_LOSS (R90): The REFCLK monitor window finds a loss and synthesisers enter HOLDOVER. -/
  | refclkLoss (edges : Nat)
  /-- REFCLK_RECOVERY (R90): Eight good monitor windows return a HOLDOVER synthesiser to SETTLING. -/
  | refclkRecovery (edges : List Nat)
  /-- HOP_RESYNC_PULSE (R92): 737 ticks after a hop the resynchronisation pulse reaches all per-path dividers. -/
  | hopResyncPulse
  /-- HOP_DIVIDER_CHECK (R95): Each path checks its divider state, and a failing path treats its synthesiser as not LOCKED. -/
  | hopDividerCheck (failed : List Nat)
  /-- HOP_COMPLETE (R92): 1,967 ticks after the hop the serving synthesiser is reported LOCKED at the paths. -/
  | hopComplete
  /-- DIVIDER_RESYNC (R95): At the next symbol boundary a path whose divider check failed resynchronises its divider alone. -/
  | dividerResync
  /-- TX_SYMBOL_START (R96): A transmit symbol starts; it is blanked and counted if the TX trunk synthesiser is not LOCKED. -/
  | txSymbolStart (p cc : Nat)
  /-- FORCED_RETUNE (R99): An operator forced retune through object 0x3010 tunes a synthesiser outside admission. -/
  | forcedRetune (role : Role) (syn preset go : Nat)
  /-- LNA_BYPASS (R106): The device bypasses the LNA by driving FEA low and then FEB low 20 ticks later. -/
  | lnaBypass (p : Nat)
  /-- LNA_RETURN (R106): The device puts the LNA back by driving FEA high and releasing FEB 20 ticks later. -/
  | lnaReturn (p : Nat)
  /-- OVERLOAD_ASSERT (R107): Two consecutive low samples of the overload input assert overload. -/
  | overloadAssert (p : Nat)
  /-- STRAP_SAMPLE (R108): The device samples FEA and FEB of every path, eight times at 6-cycle intervals. -/
  | strapSample (fea feb : List Nat)
  /-- RESET_PHASE_END (R111): 72 RTC cycles after PWRGOOD every path enters OFF through a turnaround to its safe levels. -/
  | resetPhaseEnd
  /-- SERIAL_TRANSACTION (R114): A front-end serial transaction runs START, CMD, ADDR, data bytes and STOP on a path's bus. -/
  | serialTransaction (p : Nat) (febLow : Bool)
  /-- SERIAL_TRANSACTION_DONE (R118): A serial transaction ends with a code, recorded and counted, and is scheduled for retry on error. -/
  | serialTransactionDone (p : Nat) (feb : List Bool) (rdata : List Byte)
  /-- ROTATION_STEP_END (R127): At the end of a 256 ms barchan step the calibrator evaluates the spare against the active slice. -/
  | rotationStepEnd (k : Nat) (est : SliceEst)
  /-- SLICE_SWAP (R130): The spare takes over its position at the 8-sample boundary after the next symbol boundary, with recentring. -/
  | sliceSwap (k : Nat)
  /-- STUCK_SLICE_DETECT (R133): A slice holding one code for 1,024 samples is judged stuck. -/
  | stuckSliceDetect (k slice : Nat)
  /-- EMERGENCY_SWAP (R134): The spare replaces a faulty or stuck active slice within 64 cycles and the faulty slice is retired. -/
  | emergencySwap (k slice : Nat)
  /-- DAC_DWELL_START (R143): The check spare takes over a unary cell's switching and the cell goes to the current monitor. -/
  | dacDwellStart (d : Nat)
  /-- DAC_DWELL_END (R144): At the end of a 4 ms dwell the cell is trimmed and returned, or replaced if it failed. -/
  | dacDwellEnd (d trim : Nat) (dev : Int) (follows : Bool)
  /-- ORX_VISIT_END (R153): A visit's hold ends and a waiting visit starts. -/
  | orxVisitEnd (r : Nat)
  /-- BEST_EFFORT_VISIT (R154): A firmware best-effort visit runs only while no timeline visit runs or waits. -/
  | bestEffortVisit (r path n : Nat)
  /-- ORX_FAILURE (R155): A failed ORX converter takes its receiver out of service and admission runs again. -/
  | orxFailure (r : Nat)
  /-- CAPTURE_DRAIN_COMPLETE (R164): The drain of a capture's last byte makes the buffer FULL and writes its status record. -/
  | captureDrainComplete (b : Nat) (xs zs : List Cplx) (ovr : Bool)
  /-- CAPTURE_RELEASE (R162): A write of PCc_CAP_REL returns a buffer to FREE if the tag matches. -/
  | captureRelease (tag c value : Nat)
  /-- SYNC_PIN_EDGE (R173): A rising edge on SYNC while PIN_EN is set requests a SYNC. -/
  | syncPinEdge (tick : Nat)
  /-- SYNC_NOW (R173): A write of TL_SYNC.NOW requests a SYNC. -/
  | syncNow (tag : Nat)
  /-- SYNC_REQUEST_OBJECT (R173): An operator write of object 0x4010 sub-index 2 requests a SYNC at a tick. -/
  | syncRequestObject (role : Role) (tick : Nat)
  /-- SYNC_TAKE_EFFECT (R172): At t_s every decimator, interpolator and NCO of every lane is cleared and phased to the frame grid. -/
  | syncTakeEffect
  /-- SYNC_FILL_END (R175): At the first symbol boundary 16,384 ticks after t_s a channel's output stops carrying the mirage flag. -/
  | syncFillEnd (cc : Nat)
  /-- FAST_PATH_ESTIMATE (R176): Every 32 samples the fast coarse path forms a power estimate and counts overrange samples. -/
  | fastPathEstimate (p : Nat) (xi xq : List Int) (ovr ovrNew : Nat)
  /-- AGC_RELEASE (R180): In AGC mode, at each symbol boundary the attenuator falls 1 dB if every estimate was below REL_TH. -/
  | agcRelease (p : Nat)
  /-- LIMITER_LNA_RETURN (R184): At a symbol boundary after LNA_HOLD quiet symbols the limiter puts the LNA back in circuit. -/
  | limiterLnaReturn (p : Nat)
  /-- RX_FFT_WINDOW_END (R189): At the end of a symbol's FFT window the channel transforms it and delivers corrected REs. -/
  | rxFftWindowEnd (p cc : Nat) (xi xq : List Int) (sat : Nat)
  /-- PRACH_OCCASION (R194): At an occasion offset the extractor removes the CP and transforms each repetition. -/
  | prachOccasion (p j occ : Nat) (reps : List Cplx) (sat : Nat)
  /-- LANE_MOVE_REQUEST (R197): A write of PCc_MOVE requests a lane move, ending at once with NO_SPARE or BUSY if it cannot run. -/
  | laneMoveRequest (tag c value : Nat)
  /-- LANE_WARM_START (R197): At the next common boundary the spare lane enters WARMING on the position's inputs. -/
  | laneWarmStart (c : Nat)
  /-- LANE_SWITCH (R197): At the first common boundary after warm-up the position's outputs switch to the spare lane. -/
  | laneSwitch (c : Nat) (differ : Bool)
  /-- COEFFICIENT_ROLL (R200): Each cluster loads the spare and moves positions 0 to 7 in turn to new coefficients. -/
  | coefficientRoll
  /-- COEFFICIENT_WRITE (R196): A write to a lane's coefficient memory is performed only while the lane is SPARE. -/
  | coefficientWrite (tag addr value : Nat)
  /-- TX_SYMBOL_READ (R211): At t_air - LAT a channel reads the symbol's antenna REs, zeroing late ones, limits and transforms them. -/
  | txSymbolRead (p cc : Nat) (late : List Nat)
  /-- SLOT_BOUNDARY (R227): At each slot boundary the clip and clamp fractions of the slot are checked per path. -/
  | slotBoundary (p : Nat) (chans hist ahead past nbs : Unit) (cal : List Cplx)
  /-- DL_RUN_START (R244): At t_air - LEAD_DL tile positions start a downlink run of one symbol with the current weight set. -/
  | dlRunStart (cc : Nat)
  /-- UL_RUN_START (R245): 8,192 ticks after a symbol's FFT window ends the uplink run combines antennas into layers. -/
  | ulRunStart (cc : Nat)
  /-- WEIGHT_BLOCK (R252): A weight block arrives by eCPRI type 3 or Diong and is checked and written vector by vector. -/
  | weightBlock (role : Role) (block : List Byte)
  /-- WEIGHT_VECTOR_LAND (R248): A weight vector lands atomically in the shadow set or codebook. -/
  | weightVectorLand (sameCycle : Bool)
  /-- ERG_DECLARED (R257): A path's analogue failure reaches the beam matrix, sets its mask bit and starts erg repair. -/
  | ergDeclared (p : Nat)
  /-- ERG_PATH_OFF (R258): The declared path enters OFF at the first symbol boundary 64 ticks after t_d. -/
  | ergPathOff (p : Nat)
  /-- ERG_RESYNTH_START (R260): Stage 2 resynthesis of STEER beams starts on the two reserved engines. -/
  | ergResynthStart
  /-- ERG_RESYNTH_DONE (R260): Stage 2 resynthesis completes. -/
  | ergResynthDone
  /-- HEAL_DECLARE (R267): BF_HEAL_CMD OP 1, from object 0x5901, declares a path failed. -/
  | healDeclare (tag : Nat) (request : Bool) (value : Nat)
  /-- HEAL_CLEAR (R264): BF_HEAL_CMD OP 2 clears a failed path for return after foreground calibration. -/
  | healClear (tag : Nat) (request : Bool) (value : Nat)
  /-- ERG_PATH_RESTORED (R264): A cleared path leaves OFF and unmasks at a symbol boundary after calibration passes. -/
  | ergPathRestored (p : Nat)
  /-- TILE_FAIL (R605): A tile failing its parity or run check is retired and its runs in progress lose their REs. -/
  | tileFail (t : Nat)
  /-- TILE_SPARE_TAKEOVER (R266): The spare tile takes over from the first run 2,048 ticks after the failure. -/
  | tileSpareTakeover
  /-- PRACH_COMBINE (R265): The PRACH combiner forms beam streams from 64 antennas and writes them to SRAM. -/
  | prachCombine (j : Nat)
  /-- DPD_THERMAL_UPDATE (R274): Every 512 ticks the amplifier thermal state is updated from the interval's signal statistics. -/
  | dpdThermalUpdate (p : Nat) (msq mabs : Unit)
  /-- DPD_BANK_WRITE (R279): A write to a predistortion bank is performed only into an unlocked shadow. -/
  | dpdBankWrite (tag addr value : Nat)
  /-- DPD_HO_REQUEST (R280): A write of PCc_Lk_DPD_HO.GO locks the shadow and starts its check. -/
  | dpdHoRequest (tag p value : Nat)
  /-- DPD_HO_CHECK_DONE (R280): Within 3,200 cycles the shadow set is accepted into RAMP or refused. -/
  | dpdHoCheckDone (p : Nat)
  /-- DPD_RAMP_STEP (R281): At a TX symbol start the blend factor of a predistortion ramp advances one step. -/
  | dpdRampStep (p : Nat)
  /-- DPD_DIVERGENCE_WINDOW (R284): A 4,096-sample window's error E_w is formed and checked against the divergence bound. -/
  | dpdDivergenceWindow (p : Nat) (z : List Cplx) (age : Nat)
  /-- DPD_PROBATION_END (R282): Probation ends without divergence and the new set becomes the last good set. -/
  | dpdProbationEnd (p : Nat)
  /-- DPD_FALLBACK (R286): At the next symbol boundary after divergence in ramp or probation the fall-back set returns. -/
  | dpdFallback (p : Nat)
  /-- DPD_IDENTITY (R287): At the next symbol boundary after divergence identity and backoff come into force. -/
  | dpdIdentity (p : Nat)
  /-- DPD_FALLBACK_CHECK_END (R283): DIV_COUNT windows of the fall-back set without divergence return the path to GOOD or IDENTITY. -/
  | dpdFallbackCheckEnd (p : Nat)
  /-- DPD_REQ (R292): Firmware sets a path's bit in DPD_REQ, making it pending for adaptation. -/
  | dpdReq (tag bits : Nat)
  /-- DPD_JOB_START (R293): When a job slot is free the dispatcher starts the hottest unserved pending path of the round. -/
  | dpdJobStart
  /-- NOP (R306): The slot does nothing. -/
  | nop (g : GeC)
  /-- ADD (R311): Adds two complex registers part by part, wrapping. -/
  | add (g : GeC)
  /-- SUB (R311): Subtracts two complex registers part by part, wrapping. -/
  | sub (g : GeC)
  /-- ADDH (R310): Adds and halves, truncating. -/
  | addh (g : GeC)
  /-- SUBH (R310): Subtracts and halves, truncating. -/
  | subh (g : GeC)
  /-- NEG (R311): Negates a complex register. -/
  | neg (g : GeC)
  /-- CONJ (R311): Conjugates a complex register. -/
  | conj (g : GeC)
  /-- SWAP (R311): Exchanges I and Q of a register. -/
  | swap (g : GeC)
  /-- SHL (R311): Shifts both parts left by an immediate. -/
  | shl (g : GeC)
  /-- SHR (R310): Shifts both parts right arithmetically by an immediate. -/
  | shr (g : GeC)
  /-- MOV (R306): Copies a D register. -/
  | mov (g : GeC)
  /-- CMUL (R312): Forms the complex product shifted right 15. -/
  | cmul (g : GeC)
  /-- MAG2 (R310): Forms (I² + Q²) >> 15 as an unsigned integer. -/
  | mag2 (g : GeC)
  /-- IADD (R311): 32-bit integer add, wrapping. -/
  | iadd (g : GeC)
  /-- ISUB (R311): 32-bit integer subtract, wrapping. -/
  | isub (g : GeC)
  /-- AND (R311): 32-bit bitwise AND. -/
  | andOp (g : GeC)
  /-- OR (R311): 32-bit bitwise OR. -/
  | orOp (g : GeC)
  /-- XOR (R311): 32-bit bitwise XOR. -/
  | xorOp (g : GeC)
  /-- ISHL (R311): 32-bit left shift. -/
  | ishl (g : GeC)
  /-- ISHR (R310): 32-bit arithmetic right shift. -/
  | ishr (g : GeC)
  /-- ICMP (R298): Sets Z and N from a signed 32-bit difference. -/
  | icmp (g : GeC)
  /-- CLRA (R308): Clears accumulators A0–A3. -/
  | clra (g : GeC)
  /-- CMAC4 (R312): Four complex MACs of paired registers into A0–A3. -/
  | cmac4 (g : GeC)
  /-- CMACB (R312): Four complex MACs of one register by four into A0–A3. -/
  | cmacb (g : GeC)
  /-- CDOT (R312): Accumulates a four-term complex dot product into one accumulator. -/
  | cdot (g : GeC)
  /-- ACCA (R311): Adds one accumulator to another. -/
  | acca (g : GeC)
  /-- ASHR (R310): Shifts accumulator parts right. -/
  | ashr (g : GeC)
  /-- MOVA (R311): Loads an accumulator from a D register shifted left 15. -/
  | mova (g : GeC)
  /-- EXTR (R311): Extracts the low 16 bits of shifted accumulator parts. -/
  | extr (g : GeC)
  /-- SAT (R311): Extracts shifted accumulator parts saturated to 16 bits, setting SOV when clamping. -/
  | sat (g : GeC)
  /-- NORM (R313): Normalises accumulator parts by a signed shift into a D register. -/
  | norm (g : GeC)
  /-- EXPA (R313): Returns the accumulator exponent. -/
  | expa (g : GeC)
  /-- EXP (R313): Returns the exponent of a D register. -/
  | exp (g : GeC)
  /-- BEXP (R315): Reads BX.HR into a register and resets it to 15. -/
  | bexp (g : GeC)
  /-- BXADD (R298): Adds a value to the block exponent BX.BE. -/
  | bxadd (g : GeC)
  /-- SETBS (R314): Sets the butterfly shift SW.BS. -/
  | setbs (g : GeC)
  /-- BFLY (R314): Performs a radix-2 butterfly on a register pair with a twiddle. -/
  | bfly (g : GeC)
  /-- MFR (R298): Moves a named control register into a D register. -/
  | mfr (g : GeC)
  /-- MTR (R298): Moves a D register into a named control register, truncated. -/
  | mtr (g : GeC)
  /-- LD_W (R302): Loads a 32-bit word and post-modifies the pointer. -/
  | ldW (g : GeM)
  /-- ST_W (R315): Stores a 32-bit word, updating BX.HR while BXEN is set. -/
  | stW (g : GeM)
  /-- LD_D (R302): Loads 8 bytes into a register pair. -/
  | ldD (g : GeM)
  /-- ST_D (R315): Stores a register pair as 8 bytes. -/
  | stD (g : GeM)
  /-- LD_H (R302): Loads a sign-extended 16-bit value into I with Q zero. -/
  | ldH (g : GeM)
  /-- ADDI (R302): Adds four times an immediate to a pointer. -/
  | addi (g : GeA)
  /-- ADDM (R302): Adds a modifier to a pointer. -/
  | addm (g : GeA)
  /-- MOVP (R302): Loads a pointer from a D register. -/
  | movp (g : GeA)
  /-- MOVM (R302): Loads a modifier from a D register. -/
  | movm (g : GeA)
  /-- MOVB (R302): Loads a circular base from a D register. -/
  | movb (g : GeA)
  /-- MOVL (R302): Loads a circular length from a D register. -/
  | movl (g : GeA)
  /-- SETM (R302): Sets a modifier to four times an immediate. -/
  | setm (g : GeA)
  /-- NOPC (R300): The control slot does nothing. -/
  | nopc (g : GeK)
  /-- JMP (R307): Jumps to a kernel-relative target. -/
  | jmp (g : GeK)
  /-- JZ (R307): Jumps if Z is set. -/
  | jz (g : GeK)
  /-- JNZ (R307): Jumps if Z is clear. -/
  | jnz (g : GeK)
  /-- JN (R307): Jumps if N is set. -/
  | jn (g : GeK)
  /-- JNN (R307): Jumps if N is clear. -/
  | jnn (g : GeK)
  /-- CALL (R307): Pushes the next address and jumps, faulting RSTACK when the stack is full. -/
  | call (g : GeK)
  /-- RET (R307): Pops a return address and jumps, faulting RSTACK when the stack is empty. -/
  | ret (g : GeK)
  /-- LOOP0 (R316): Starts hardware loop 0 with an immediate count. -/
  | loop0 (g : GeK)
  /-- LOOP1 (R316): Starts hardware loop 1 with an immediate count. -/
  | loop1 (g : GeK)
  /-- LOOPR0 (R316): Starts loop 0 with a count from a register. -/
  | loopr0 (g : GeK)
  /-- LOOPR1 (R316): Starts loop 1 with a count from a register. -/
  | loopr1 (g : GeK)
  /-- EI (R318): Sets SW.IE. -/
  | ei (g : GeK)
  /-- DI (R318): Clears SW.IE. -/
  | di (g : GeK)
  /-- RETI (R320): Jumps to IRA and sets SW.IE. -/
  | reti (g : GeK)
  /-- XFER (R323): Reads a descriptor and queues a fabric transfer, stalling on a full queue. -/
  | xfer (g : GeK)
  /-- XWAIT (R319): Waits until every named transfer queue is empty. -/
  | xwait (g : GeK)
  /-- DONE (R330): Ends the job with a result code and writes its completion record. -/
  | done (g : GeK)
  /-- YIELD (R329): Gives up the engine to the class-0 job after PREEMPT. -/
  | yield (g : GeK)
  /-- LDI (R300): Loads a 32-bit immediate into a D register. -/
  | ldi (g : GeK) (reg : Nat)
  /-- TRANSFER_COMPLETE (R323): A queued engine transfer completes, raising XF if its descriptor asks. -/
  | transferComplete (e q : Nat)
  /-- INTERRUPT_ACCEPT (R318): A pending enabled request is accepted at a bundle boundary, draining and entering its handler. -/
  | interruptAccept (e : Nat)
  /-- GE_DOORBELL (R337): A write of GE_DOORBELL.RING raises the DOORBELL interrupt request. -/
  | geDoorbell (tag e value : Nat)
  /-- GE_POST (R326): An atomic 16-byte write posts a job to an engine queue or is refused. -/
  | gePost (tag e value : Nat)
  /-- RELEASE_ENTRY_FIRE (R327): A release entry's period tick releases a class-0 job with its deadline. -/
  | releaseEntryFire (e r : Nat)
  /-- JOB_START (R328): When idle or at a job end the engine starts the next job by EDF and class order. -/
  | jobStart (e : Nat)
  /-- PREEMPT_LATE (R329): No YIELD within 2,048 cycles of PREEMPT ends the job with a fault. -/
  | preemptLate (e : Nat)
  /-- JOB_OVERRUN (R331): A job running for twice its declared cycles ends with fault OVERRUN. -/
  | jobOverrun (e : Nat)
  /-- GE_CPL_READ (R330): A read of GE_CPL returns and pops the oldest completion record. -/
  | geCplRead (e : Nat)
  /-- ENGINE_ROLL_MOVE (R335): At an engine's next job end its work moves to the spare, the engine is loaded and the work moves back. -/
  | engineRollMove (e : Nat)
  /-- BASE_REEVALUATION (R340): Every 100 ms B(T_p) is re-evaluated for every item and path. -/
  | baseReevaluation
  /-- TRACE_GATE (R342): Each 1 s gate publishes the REFCLK and crystal offsets and updates the crystal table. -/
  | traceGate (edges : Nat) (steer txo : Int)
  /-- TOP_NOTE_WINDOW (R349): A 738-tick window runs RX DC, TX LO leakage and a tone point on the loopback, or is skipped. -/
  | topNoteWindow (p : Nat) (meas : TopMeas)
  /-- CAL_HRX_ARM (R358): A write of CAL_HRX.ARM arms one heart injection. -/
  | calHrxArm (tag value : Nat)
  /-- HEART_INJECTION (R358): In the first suitable guard the unit injects the PN sequence and paths capture it. -/
  | heartInjection
  /-- HEART_SNAPSHOT (R361): A snapshot capture is taken on all TX paths and on CALRX for items 0x11 and 0x14. -/
  | heartSnapshot
  /-- HEART_RUN_COMPLETE (R363): A heart run's solve ends and its new values come into force together. -/
  | heartRunComplete (item : Nat) (lowRank : Bool) (results : List HeartRes)
  /-- CAL_RAMP_STEP (R368): At a symbol boundary a correction ramp takes its next step. -/
  | calRampStep
  /-- CAL_ITEM_STALE (R371): An item whose age exceeds STALE_AGE becomes stale. -/
  | calItemStale (p item : Nat)
  /-- FOREGROUND_REQUEST (R376): A foreground calibration request is submitted and queued, run or declined. -/
  | foregroundRequest (who : Option Role) (path item flags : Nat)
  /-- FOREGROUND_WINDOW_TIMEOUT (R377): A request without a window within 1 s ends DECLINED_NO_WINDOW. -/
  | foregroundWindowTimeout (p : Nat)
  /-- SERVICE_WINDOW_START (R380): At a service window start named paths enter OFF and their requests run. -/
  | serviceWindowStart
  /-- FOREGROUND_RUN_END (R379): A foreground item ends PASSED, PASSED_MASKED or FAILED and its status is stored. -/
  | foregroundRunEnd (p : Nat) (pass : Bool) (results : List (Nat × CalMeas))
  /-- IQ_DATA_MESSAGE (R396): A received eCPRI type 0 section is checked in order and written to the symbol buffer or dropped. -/
  | iqDataMessage (f : LnkFrame)
  /-- DL_WINDOW_CLOSE (R397): At window close every uncovered PRB of every layer is zeroed and counted. -/
  | dlWindowClose (cc : Nat)
  /-- UL_SECTION_SEND (R402): Uplink, export and PRACH sections are assembled, compressed and sent. -/
  | ulSectionSend (prach : Bool) (n : Nat)
  /-- REAL_TIME_CONTROL_MESSAGE (R405): A type 2 message's control entries set uplink beam codes, each checked on its own. -/
  | realTimeControlMessage (f : LnkFrame)
  /-- GENERIC_DATA_MESSAGE (R407): A type 3 message carries a Diong frame or a weight block by its service. -/
  | genericDataMessage (f : LnkFrame)
  /-- CAPTURE_STREAM (R408): A full tenant capture buffer is sent on its port and then returned to FREE. -/
  | captureStream (b : Nat)
  /-- DELAY_REQUEST (R409): A type 5 Request is answered with a Response carrying its ingress timestamp. -/
  | delayRequest (f : LnkFrame)
  /-- REQUEST_WITH_FOLLOW_UP (R409): A type 5 Request with follow-up waits for its Follow_Up. -/
  | requestWithFollowUp (f : LnkFrame)
  /-- FOLLOW_UP (R409): A Follow_Up supplies t1 and the pending Response is sent. -/
  | followUp (f : LnkFrame)
  /-- REMOTE_REQUEST (R409): A Remote request makes the device send a Request within 20 µs. -/
  | remoteRequest (f : LnkFrame)
  /-- EVENT_INDICATION_SEND (R410): A firing delivered to a tenant is sent as a type 7 Fault indication. -/
  | eventIndicationSend (n : Nat)
  /-- INDICATION_ACK (R410): A type 7 acknowledgement matched on Event ID stops resends. -/
  | indicationAck (f : LnkFrame)
  /-- INDICATION_RESEND (R410): An indication unacknowledged for 100 ms is sent again, up to 3 times. -/
  | indicationResend (n id : Nat)
  /-- SYNCHRONISATION_REQUEST (R410): A type 7 synchronisation request is answered by acknowledge, raised faults and end. -/
  | synchronisationRequest (f : LnkFrame)
  /-- PORT_STATE_CHANGE (R414): A port comes up or goes down as PCS alignment and SA validity change. -/
  | portStateChange (n : Nat) (aligned saValid : Bool)
  /-- SAK_INSTALL (R413): A new SAK agreed by MKA is installed on a new AN. -/
  | sakInstall (n an : Nat)
  /-- PTP_SYNC_INTERVAL (R417): Each Sync interval updates the offset and the LOCKED state. -/
  | ptpSyncInterval (quarterNs : Int)
  /-- PTP_MASTER_CHANGE (R417): The BMCA selects another master. -/
  | ptpMasterChange (n clockClass identity : Nat)
  /-- PTP_HOLDOVER_ENTRY (R418): With no qualified master the device enters holdover. -/
  | ptpHoldoverEntry
  /-- SYNCE_SQUELCH (R420): A squelch condition drives SYNCE_OUT low within 10 µs. -/
  | synceSquelch (cause : Nat)
  /-- SYNCE_RESUME (R420): 10 s after every condition clears SYNCE_OUT resumes. -/
  | synceResume
  /-- ESMC_SEND (R421): An ESMC PDU is sent once per second and on each QL change. -/
  | esmcSend (n : Nat)
  /-- ESMC_RECEIVE (R421): A received ESMC PDU updates the received QL. -/
  | esmcReceive (ql : Nat)
  /-- PPS_OUT_EDGE (R422): PPS_OUT rises at each whole second of the counter. -/
  | ppsOutEdge
  /-- PPS_IN_EDGE (R422): A PPS_IN edge is timestamped, measured or steered to. -/
  | ppsInEdge (tick : Nat)
  /-- LNK_PPS_IN_LOSS (R422): Two seconds without a PPS_IN edge. -/
  | lnkPpsInLoss
  /-- LINK_LANE_FAILURE (R423): A port lane fails and is retired in both directions. -/
  | linkLaneFailure (lane : Nat)
  /-- LINK_LANE_TX_MOVE (R424): The failed lane's transmit moves to the spare at a FEC codeword boundary. -/
  | linkLaneTxMove (n : Nat)
  /-- LINK_LANE_RX_MOVE (R424): The failed lane's receive moves to the spare's receiver with the measured deskew. -/
  | linkLaneRxMove (n : Nat)
  /-- LNK_LANE_SPARED (R424): The PCS realigns and the lane map is updated. -/
  | lnkLaneSpared (n lost : Nat)
  /-- LINK_REALIGN_TIMEOUT (R424): Realignment not complete by t0 + 24,576 takes the port down. -/
  | linkRealignTimeout (n : Nat)
  /-- LANE_RETURN_TO_SPARE (R423): A service write of object 0x9011 sub-index 2 returns a retired lane to SPARE. -/
  | laneReturnToSpare (role : Role) (lane : Nat)
  /-- SCRUB_PASS (R434): The scrubber reads each word once per period and writes corrected words back. -/
  | scrubPass (ce ue : List Nat)
  /-- MEM_ROW_REPAIRED (R435): A row is copied into a spare row and remapped under freeze. -/
  | memRowRepaired (b row : Nat)
  /-- BANK_MIGRATION_START (R437): A physical bank to be spared enters MIGRATING and writes are mirrored. -/
  | bankMigrationStart (b : Nat)
  /-- MEM_BANK_SPARED (R437): The copier finishes, the bank map is swapped under freeze and the old bank is retired. -/
  | memBankSpared (b : Nat)
  /-- SERVICE_BANK_SPARE (R436): A service write of object 0xD011 spares a physical bank. -/
  | serviceBankSpare (role : Role) (b : Nat)
  /-- MEM_LOCK (R449): A set request of the control cores is granted whole in the global order, waits or is refused. -/
  | memLock (tag value : Nat)
  /-- MEM_LOCK_RELEASE (R449): MEM_LOCK with REL releases every held member. -/
  | memLockRelease (tag value : Nat)
  /-- MEM_HOLD_FAULT (R451): A hold reaching 1 ms is ended by the watchdog and its port masked. -/
  | memHoldFault (a : Nat)
  /-- DMA_RING_KICK (R455): A write of DMA_RINGr_KICK.GO triggers the ring. -/
  | dmaRingKick (tag r value : Nat)
  /-- DMA_DESCRIPTOR (R457): A ring fetches the descriptor at HEAD, performs it and writes it back. -/
  | dmaDescriptor (r : Nat)
  /-- DMA_HALF_COMPLETION (R461): Half of a descriptor's destination bytes are written. -/
  | dmaHalfCompletion (r : Nat)
  /-- DMA_RING_DISABLE (R462): Disabling an active ring stops it at the next beat without write-back. -/
  | dmaRingDisable (r : Nat)
  /-- MAIN_MOVER_PARITY (R610): A context buffer parity error puts the main mover under repair. -/
  | mainMoverParity
  /-- DMA_MAIN_RESTORED (R610): The repair and march test complete and rings return to the main mover. -/
  | dmaMainRestored (marchOk : Bool)
  /-- READ (R481): Diong READ returns an object's type and value. -/
  | read (d : DHdr) (index sub : Nat)
  /-- WRITE (R481): Diong WRITE writes a value to an object or its staged copy. -/
  | write (d : DHdr) (index sub type : Nat) (value : List Byte)
  /-- READ_BLOCK (R484): Diong READ_BLOCK returns a segment of a domain object with its generation. -/
  | readBlock (d : DHdr) (index sub offset maxLen : Nat)
  /-- WRITE_BLOCK (R483): Diong WRITE_BLOCK adds a segment to a block transfer, writing atomically on LAST. -/
  | writeBlock (d : DHdr) (index sub type offset total : Nat) (data : List Byte)
  /-- STORE (R486): Diong STORE writes configuration or calibration state to the NV store. -/
  | store (d : DHdr) (selector : Nat) (nvOk : Bool)
  /-- RESTORE (R486): Diong RESTORE loads stored configuration or defaults into staged copies. -/
  | restore (d : DHdr) (mode : Nat)
  /-- SUBSCRIBE (R487): Diong SUBSCRIBE adds, changes or cancels a subscription. -/
  | subscribe (d : DHdr) (index sub mode period : Nat)
  /-- DIGEST (R490): Diong DIGEST returns the epoch and the requested digests. -/
  | digest (d : DHdr) (scope : Nat)
  /-- SESSION_TIMEOUT (R476): A session with no frame for 300 s closes. -/
  | sessionTimeout (t : Transport) (key id : Nat)
  /-- BLOCK_TRANSFER_TIMEOUT (R483): A block transfer with no segment for 5 s is discarded. -/
  | blockTransferTimeout (t : Transport) (key id : Nat)
  /-- SUBSCRIPTION_NOTIFY (R487): A subscription sends its value at its period or on change. -/
  | subscriptionNotify (t : Transport) (key id index sub : Nat)
  /-- RW_DIGEST_RECOMPUTE (R490): Within 10 ms of a write to an RW object the digests are recomputed. -/
  | rwDigestRecompute
  /-- REPLICA_REWRITE (R491): At the next slot boundary a mismatched cluster is rewritten and its coefficients rolled. -/
  | replicaRewrite (c : Nat)
  /-- EVENT_FIRING_PRESENT (R492): A waiting firing of a source is presented in its cycle and delivered or coalesced per destination. -/
  | eventFiringPresent (src : Nat)
  /-- EVENT_CEASE (R496): A persisting source's status returns to 0 and cease indications are sent. -/
  | eventCease (src inst aux : Nat)
  /-- STICKY_FLAG_CLEAR (R494): A write of 1 clears a sticky flag and its repeat count. -/
  | stickyFlagClear (d src : Nat) (same : Bool)
  /-- COUNTER_FOLD (R500): Each hardware copy is folded into its 48-bit counter at least once per 1 ms. -/
  | counterFold
  /-- STATISTICS_COUNTER_CLEAR (R500): An operator or service write of 0 clears a statistics counter and its SAT bit. -/
  | statisticsCounterClear (role : Role) (index sub : Nat)
  /-- WRITE_FRAME (R503): SPI command 0x01 writes a Diong frame into a request buffer. -/
  | writeFrame (len : Nat) (frame : List Byte)
  /-- READ_FRAME (R503): SPI command 0x02 returns the oldest queued response or notification. -/
  | readFrame
  /-- SPI_STATUS (R503): SPI command 0x03 returns the queue and buffer state. -/
  | spiStatus
  /-- POWER_REQUEST (R512): A power-state request is accepted, queued, refused or acts as a wake. -/
  | powerRequest (by_ : Option Role) (tag value : Nat)
  /-- POWER_ENTRY_STEP (R513): A step of a downward entry completes and the next runs, or the entry stops at an abort point. -/
  | powerEntryStep
  /-- POWER_EXIT (R519): A wake runs the exit sequence back towards depth 1. -/
  | powerExit
  /-- WARM_START (R520): A wake from LISTEN or HIBERNATE boots, seeds the counter and commits the stored configuration. -/
  | warmStart
  /-- WAKE_TO_TRANSITION (R521): After lock or LOCK_WAIT the device goes from DOZE to the wake-to state at a frame boundary. -/
  | wakeToTransition
  /-- SLOTGATE_CHANGE (R511): A change between RUN and SLOTGATE takes effect at a frame boundary. -/
  | slotgateChange
  /-- SECTION_GATE_OFF (R509): 256 ticks into an idle span a path section is powered down. -/
  | sectionGateOff (p : Nat) (rx : Bool)
  /-- SECTION_GATE_ON (R509): 2,048 ticks before an idle span ends the section is powered up. -/
  | sectionGateOn (p : Nat) (rx : Bool)
  /-- WAKE_PIN (R524): WAKE held at its asserted level for 3 RTC cycles fires a wake. -/
  | wakePin (cycles : Nat)
  /-- RTC_ALARM (R525): The RTC equals ALARM while enabled and fires once. -/
  | rtcAlarm
  /-- LINK_SIGNAL_DETECT (R527): A lane of an enabled port holds signal for 10 µs in NAP. -/
  | linkSignalDetect (lane : Nat)
  /-- T1S_FRAME_WAKE (R527): A valid T1S frame addressed to the device wakes it from NAP. -/
  | t1sFrameWake (dst : Nat) (fcsOk : Bool)
  /-- DEBUG_WAKE_WORD (R528): A valid JTAG debug wake word wakes the device. -/
  | debugWakeWord (word : List Byte)
  /-- THERMAL_ALARM (R526): A die temperature outside THM_LOW to THM_HIGH fires a wake. -/
  | thermalAlarm (t : Int)
  /-- WRX_SNIFF (R531): Every 4 ms the wake receiver sniffs WRXA and WRXB for an envelope. -/
  | wrxSniff (hit : Bool) (envA envB : Int)
  /-- WRX_SYNC_TIMEOUT (R531): No sync within 12 ms of detection returns to sniffing and counts NO_SYNC. -/
  | wrxSyncTimeout
  /-- WAKE_FRAME (R532): A received wake frame is checked for ID, tag and counter and fires source 3 when it passes. -/
  | wakeFrame (frame : List Byte) (rssi : Int)
  /-- WRX_TRIM (R533): Every 10 s the receiver trims its oscillator against OSC32. -/
  | wrxTrim
  /-- HOUSEKEEPING_ROUND (R536): Every 1 ms sensors are read, T_die and throttling formed, amplifier values delivered and fans checked. -/
  | housekeepingRound (readings : List Int) (stopped : List Nat) (shared : Option (Int × Int)) (vddCore : Nat) (replicas : List Nat)
  /-- THERMAL_CARRIER_DROP (R563): At a frame boundary in level 3 with POLICY DROP the highest-ranked carrier is removed. -/
  | thermalCarrierDrop
  /-- LDAC_EDGE (R540): A falling LDAC_N edge strobes the groups in the mask. -/
  | ldacEdge
  /-- BDAC_STROBE_WRITE (R540): A write of BDAC_STROBE strobes every group in its mask. -/
  | bdacStrobeWrite (tag value : Nat)
  /-- BDAC_CODE_WRITE (R540): A write of a channel's CODE changes its input register and sets PEND. -/
  | bdacCodeWrite (tag c value : Nat)
  /-- BDAC_SHORT (R542): A channel enters current limit. -/
  | bdacShort (c : Nat) (on : Bool)
  /-- BDAC_SHORT_TIMEOUT (R542): 64 µs of limiting with drain enabled causes an amplifier fault. -/
  | bdacShortTimeout (c : Nat)
  /-- BDAC_SUPPLY_LOW (R543): VNEG_OK or VPOS_OK falls. -/
  | bdacSupplyLow (which : Nat)
  /-- BDAC_SUPPLIES_GOOD (R548): Both bias supplies become good and channels take their SAFE codes. -/
  | bdacSuppliesGood
  /-- DRAIN_REQUEST (R544): A drain request bit is set or cleared, and DRN_EN follows when the interlock allows. -/
  | drainRequest (tag value : Nat)
  /-- AMPLIFIER_FAULT (R546): An amplifier fault drives its drain low, latches and declares the path failed. -/
  | amplifierFault (a cause : Nat)
  /-- FAULT_SAFE_CODE (R546): 10 ms after an amplifier fault every channel of it takes its SAFE code. -/
  | faultSafeCode (a : Nat)
  /-- DRAIN_READBACK_MISMATCH (R546): DRN_EN read back wrong for 4 cycles causes an amplifier fault. -/
  | drainReadbackMismatch (a : Nat)
  /-- DRAIN_FAULT_CLEAR (R547): A write of 1 clears a latched amplifier fault, which relatches if its cause persists. -/
  | drainFaultClear (tag value : Nat)
  /-- MON_TRIGGER (R553): A trigger starts a monitor sequence, or is held or lost. -/
  | monTrigger (tag m : Nat)
  /-- MON_ENTRY_RESULT (R552): A monitor entry delivers its result to DATA or its consumer and checks its window. -/
  | monEntryResult (m : Nat) (result : Int) (meanAbs : Nat)
  /-- MON_DATA_READ (R552): A read of MONm_DATA returns the result and clears VALID. -/
  | monDataRead (m : Nat)
  /-- FAN_WATCHDOG_EXPIRY (R566): DUTY unwritten for FAN_WDOG seconds puts the output in fail-safe. -/
  | fanWatchdogExpiry (n : Nat)
  /-- THM_FAN_STALL (R567): A fan input with no edge for 1 s shows a stall. -/
  | thmFanStall (n : Nat)
  /-- TRANSITION_TOKEN (R572): A submitted lifecycle token is checked, fuses written, keys wiped and a cold start made. -/
  | transitionToken (role : Role) (token : List Byte)
  /-- KEY_ENVELOPE (R576): A key envelope is checked and written to its slot. -/
  | keyEnvelope (role : Role) (k : Nat) (envelope : List Byte)
  /-- ROOT_RECORD (R580): A root record enrols or revokes an operator root. -/
  | rootRecord (role : Role) (record : List Byte)
  /-- ATTESTATION (R585): A nonce write yields a signed attestation report within 50 ms. -/
  | attestation (nonce : List Byte)
  /-- RAISE_MINIMUMS (R584): A write of object 0xC070 sub-index 2 raises firmware minimum versions. -/
  | raiseMinimums (role : Role)
  /-- VERIFY_IMAGE (R582): Mailbox command 1 verifies an image. -/
  | verifyImage (m : Master) (len : Nat)
  /-- CHECK_DIONG_TAG (R475): Mailbox command 2 checks a Diong tag. -/
  | checkDiongTag (m : Master) (t : Transport) (len : Nat)
  /-- MAKE_DIONG_TAG (R475): Mailbox command 3 makes a Diong tag. -/
  | makeDiongTag (m : Master) (t : Transport) (len : Nat)
  /-- MBOX_KEY_ENVELOPE (R576): Mailbox command 4 processes a key envelope. -/
  | mboxKeyEnvelope (m : Master) (role : Role) (len : Nat)
  /-- MBOX_ATTESTATION (R585): Mailbox command 5 produces an attestation report. -/
  | mboxAttestation (m : Master) (len : Nat)
  /-- LIFECYCLE_TOKEN (R572): Mailbox command 6 processes a lifecycle token. -/
  | lifecycleToken (m : Master) (len : Nat)
  /-- MBOX_ROOT_RECORD (R580): Mailbox command 7 processes a root record. -/
  | mboxRootRecord (m : Master) (len : Nat)
  /-- RANDOM_BYTES (R589): Mailbox command 8 returns random bytes. -/
  | randomBytes (m : Master) (len : Nat)
  /-- EXTEST (R588): TAP instruction EXTEST drives boundary cells while every path is OFF. -/
  | extest (cells capture : Nat)
  /-- SAMPLE_PRELOAD (R587): TAP instruction SAMPLE/PRELOAD captures and preloads the boundary register. -/
  | samplePreload (cells capture : Nat)
  /-- IDCODE (R587): TAP instruction IDCODE selects the identity register. -/
  | idcode
  /-- CLAMP (R588): TAP instruction CLAMP holds outputs and selects bypass. -/
  | clamp
  /-- HIGHZ (R588): TAP instruction HIGHZ floats outputs and selects bypass. -/
  | highz
  /-- DBG_CHAL (R589): TAP instruction DBG_CHAL returns the current challenge. -/
  | dbgChal
  /-- DBG_RESP (R591): TAP instruction DBG_RESP submits a debug response for checking. -/
  | dbgResp (response : List Byte)
  /-- DBG_PORT (R587): TAP instruction DBG_PORT performs a debug-tagged read or write. -/
  | dbgPort (addr op : Nat) (wide : Bool) (data : Nat)
  /-- DBG_STATUS (R587): TAP instruction DBG_STATUS returns DBG_STAT. -/
  | dbgStatus
  /-- BYPASS (R587): TAP BYPASS, and every unpermitted code, selects the one-bit bypass register. -/
  | bypass (ir : Nat)
  /-- CHALLENGE_READ (R589): A read of object 0xC050 sub-index 3 issues or returns the current challenge. -/
  | challengeRead (role : Role)
  /-- DEBUG_RESPONSE (R591): A debug response written to object 0xC050 sub-index 4 is checked and a session granted. -/
  | debugResponse (t : Transport) (session : Nat) (response : List Byte)
  /-- DEBUG_TUNNEL (R586): A write of object 0xC060 performs a list of debug-tagged accesses. -/
  | debugTunnel (t : Transport) (session : Nat) (list : List Byte)
  /-- DBG_CLOSE (R596): A write of DBG_CLOSE or object 0xC050 sub-index 5 ends the debug session. -/
  | dbgClose (tag : Nat)
  /-- DEBUG_SESSION_EXPIRY (R596): A session's DURATION expires and the session ends. -/
  | debugSessionExpiry
  /-- CORE_HALT (R598): DBG_CORE_CTRL HALT halts or resumes a control core pair. -/
  | coreHalt (tag value : Nat)
  /-- CORE_STEP (R598): DBG_CORE_CTRL STEP executes one instruction on a halted pair. -/
  | coreStep (tag value : Nat)
  /-- ENGINE_HALT (R598): DBG_ENG_HALT sends an engine to HALTED at its next bundle boundary. -/
  | engineHalt (tag value : Nat)
  /-- LANE_FAULT (R600): A lane detects a fault and, if ACTIVE, requests a FAULT move. -/
  | laneFault (c k : Nat)
  /-- ENGINE_RETIRE (R606): An engine is retired on ECC faults, self-test, GE_SVC.RETIRE or object 0xD130. -/
  | engineRetire (e tag : Nat) (ecc : Bool)
  /-- ENGINE_SPARE_TAKEOVER (R607): Within 4,096 cycles the lowest SPARE engine takes over the retired engine's work. -/
  | engineSpareTakeover (e : Nat)
  /-- STANDBY_IMAGE_WRITE (R613): A policy image written to object 0xD200 is checked and loaded into the standby slot. -/
  | standbyImageWrite (role : Role) (image : List Byte)
  /-- FW_STANDBY_READY (R613): The standby image writes CTL_FW_SIG.READY. -/
  | fwStandbyReady (pair : Nat)
  /-- HANDOVER_REQUEST (R614): A firmware hand-over request names its boundary or is refused. -/
  | handoverRequest (tag boundary tick : Nat)
  /-- HANDOVER_SAVING (R615): At t_b - 491,520 the active pair saves its state to the hand-over block. -/
  | handoverSaving
  /-- FW_SAVED (R615): The active pair writes CTL_FW_SIG.SAVED. -/
  | fwSaved (pair : Nat)
  /-- HANDOVER_ACTIVATE (R615): At t_b the active pair halts, the standby is activated and probation starts. -/
  | handoverActivate
  /-- FW_ALIVE (R616): The new active pair writes CTL_FW_SIG.ALIVE. -/
  | fwAlive (pair : Nat)
  /-- FW_HANDOVER_DONE (R616): Probation passes after PROB_S seconds. -/
  | fwHandoverDone
  /-- FW_REVERTED (R617): A missing ALIVE or a lockstep fault in probation reverts the hand-over. -/
  | fwReverted
  /-- POWERED_HOUR (R620): Each powered hour H is stored and forecasts recomputed. -/
  | poweredHour
  /-- NV_WORD_WRITE (R624): An NV word write is counted, verified and repeated on another word if it fails. -/
  | nvWordWrite (kind : Nat) (tried : List Nat) (ok : Bool)
  /-- COLD_START (R629): PWRGOOD or NRESET rising starts a cold start that discards every island's state. -/
  | coldStart (pin : Nat)
  /-- RESET_ASSERT (R629): A fall of PWRGOOD or low NRESET ends whatever runs and drives drains and DACs off. -/
  | resetAssert (pin ns : Nat)
  /-- OSC32_QUALIFIED (R630): After 32,768 good cycles the oasis switches to OSC32 and the RTC starts. -/
  | osc32Qualified
  /-- BOOT_STEP (R632): A boot step completes and the next begins. -/
  | bootStep (x : BootIn)
  /-- REFCLK_QUALIFIED (R633): A boot held for REFCLK continues once it qualifies. -/
  | refclkQualified
  /-- LOADER_IMAGE (R635): A loader WRITE_BLOCK to object 0x1070 delivers a firmware image for verification. -/
  | loaderImage (sub : Nat) (image : List Byte)
  /-- PWR_BOOT_GO (R635): A debug write of PWR_BOOT.GO starts step 3 with boot source 3. -/
  | pwrBootGo (tag value : Nat)
  /-- VTARGET_UPDATE (R627): The device moves VTARGET by at most 10 mV, at most once per 100 ms. -/
  | vtargetUpdate (mv : Nat)
  /-- DPD_MIN_RATE_VISIT (R291): In FDD the dispatcher makes one of a path's R_MIN visits of 8,192 samples per second, spread evenly, ranking as a timeline visit. -/
  | dpdMinRateVisit (p : Nat)
  /-- DPD_STALE_AGE_EXPIRY (R295): A pending path's adaptation request grows older than STALE_AGE and its stale flag is set, raising DPD_STALE. -/
  | dpdStaleAgeExpiry (p : Nat)
  /-- BDAC_OUTPUT_STEP (R541): A slewing bias DAC output moves one step toward its target, clearing MOVING on arrival, and may satisfy the drain interlock so that DRN_EN rises. -/
  | bdacOutputStep (c : Nat)
  /-- TACH_EDGE (R567): A rising edge on TACHn ends a period measurement, updating PERIOD and the fan speed. -/
  | tachEdge (n : Nat)
  /-- OVERLOAD_DEASSERT (R107): The module releases the FEB overload status input and OVL returns to 0. -/
  | overloadDeassert (p : Nat)
  /-- OLD_CAK_TIMEOUT (R578): 60 s after a MACsec slot write with no SAK agreed under the new CAK, the device deletes the old CAK, and the port may go down. -/
  | oldCakTimeout (n : Nat) (down : Bool)
  /-- ARP_REQUEST (R502): An ARP frame received on the 10BASE-T1S port is answered for the device's IPv4 address. -/
  | arpRequest (senderMac senderIp targetIp : Nat)
  /-- ICMP_ECHO_REQUEST (R502): An ICMP echo request received on the 10BASE-T1S port is answered with an echo reply. -/
  | icmpEchoRequest (srcMac srcIp dstIp ident seq : Nat) (fragment : Bool) (data : List Byte)
  /-- TAP_RESET (R587): TRST_N asserted, or TMS held high, resets the TAP to Test-Logic-Reset and selects IDCODE. -/
  | tapReset
  /-- DEBUG_CHALLENGE_EXPIRY (R589): A debug challenge reaches 60 s unconsumed and expires, so the next read issues a new one. -/
  | debugChallengeExpiry
  /-- DEBUG_LOCKOUT_END (R591): 60 s after the 8th authentication failure within 600 s, challenges are issued again. -/
  | debugLockoutEnd
  /-- BASE_NOTE_SAVE (R366): Learned base-note sets held in SRAM are written to the NV store, at most once per 3,600 s. -/
  | baseNoteSave (j : Nat)
deriving DecidableEq, Repr

end Sys2Proof
end

