-- ==== Sys2Proof/Decode.lean ====
section
/-! DEFINITION. The command a word spells by the table's bits.  The commands of this block are happenings of its buses, protocols, pins
and engines, and spec/opcode_table.json gives none of its rows any bits. -/

namespace Sys2Proof

/-- The rows of the table that give bits: mask, pattern and the command; there is none. -/
def bitRows : List (Nat × Nat × Instr) := []

/-- The command of the first row whose pattern a word matches. -/
def decodeTableWord (nbits w : Nat) : Option Instr :=
  (bitRows.find? (fun r => w < 2 ^ nbits ∧ Nat.land w r.1 = r.2.1)).map (fun r => r.2.2)

end Sys2Proof
end

