-- ==== Sys2Proof/Machine/Sparse.lean ====
section
/-! DEFINITION. Sparse storage in one canonical form, and the bit fields of a register value.
Register files, object stores, counters, block memories and per-path records are all kept this way. -/

namespace Sys2Proof.Machine

/-- The value at a key; an unlisted key reads as `d`. -/
def spGet {α : Type} (d : α) : Sparse α → Nat → α
  | [], _ => d
  | (k', v) :: t, k => if k' = k then v else spGet d t k

/-- Every pair of a key taken out. -/
def spErase {α : Type} (m : Sparse α) (k : Nat) : Sparse α := m.filter (fun p => p.1 ≠ k)

/-- A pair put before the first larger key. -/
def spInsert {α : Type} (k : Nat) (v : α) : Sparse α → Sparse α
  | [] => [(k, v)]
  | (k', v') :: t => if k < k' then (k, v) :: (k', v') :: t else (k', v') :: spInsert k v t

/-- A write: the value the unlisted key reads as is not listed. -/
def spPut {α : Type} [DecidableEq α] (d : α) (m : Sparse α) (k : Nat) (v : α) : Sparse α :=
  if v = d then spErase m k else spInsert k v (spErase m k)

/-- A change of the value at one key. -/
def spMod {α : Type} [DecidableEq α] (d : α) (m : Sparse α) (k : Nat) (f : α → α) : Sparse α :=
  spPut d m k (f (spGet d m k))

/-- The keys listed rise strictly. -/
def spSorted {α : Type} : Sparse α → Bool
  | [] => true
  | (k, _) :: t => t.all (fun p => decide (k < p.1)) && spSorted t

/-- The canonical form: keys strictly rising and no value equal to what an unlisted key reads as. -/
def spWf {α : Type} [DecidableEq α] (d : Nat → α) (m : Sparse α) : Bool :=
  spSorted m && m.all (fun p => decide (p.2 ≠ d p.1))

/-- Bits [hi:lo] of a number. -/
def bitsOf (w hi lo : Nat) : Nat := (w >>> lo) % 2 ^ (hi - lo + 1)

/-- A number with bits [hi:lo] replaced by `v` (its low bits). -/
def setBits (w hi lo v : Nat) : Nat :=
  w - (bitsOf w hi lo) * 2 ^ lo + (v % 2 ^ (hi - lo + 1)) * 2 ^ lo

/-- Bit `i` of a number. -/
def bitOf (w i : Nat) : Bool := (w >>> i) % 2 = 1

/-- 1 for true. -/
def b2n (b : Bool) : Nat := if b then 1 else 0

/-- A number of `bits` bits read as two's complement. -/
def toSigned (bits v : Nat) : Int :=
  let m := v % 2 ^ bits
  if m < 2 ^ (bits - 1) then (m : Int) else (m : Int) - (2 ^ bits : Nat)

/-- The two's complement of an integer in `bits` bits. -/
def ofSigned (bits : Nat) (v : Int) : Nat := (v % (2 ^ bits : Nat)).toNat

/-- An integer clamped to [lo, hi]. -/
def clampI (lo hi v : Int) : Int := if v < lo then lo else if hi < v then hi else v

/-- Division rounded up. -/
def ceilDiv (a b : Nat) : Nat := if b = 0 then 0 else (a + b - 1) / b

/-- Bytes of a number, most significant first (R470). -/
def beBytes (n v : Nat) : List Byte :=
  (List.range n).map (fun i => BitVec.ofNat 8 (v >>> (8 * (n - 1 - i))))

/-- The number of a byte list, most significant first. -/
def beNum (l : List Byte) : Nat := l.foldl (fun a b => a * 256 + b.toNat) 0

/-- Bytes of a number, least significant first. -/
def leBytes (n v : Nat) : List Byte := (List.range n).map (fun i => BitVec.ofNat 8 (v >>> (8 * i)))

/-- The number of a byte list, least significant first. -/
def leNum (l : List Byte) : Nat := l.foldr (fun b a => a * 256 + b.toNat) 0

/-- `n` bytes of a list from offset `o`; bytes beyond its end are 0. -/
def sliceBytes (l : List Byte) (o n : Nat) : List Byte :=
  (List.range n).map (fun i => l.getD (o + i) 0)

/-- Big-endian number of `n` bytes of a list from offset `o`. -/
def beAt (l : List Byte) (o n : Nat) : Nat := beNum (sliceBytes l o n)

/-- Little-endian number of `n` bytes of a list from offset `o`. -/
def leAt (l : List Byte) (o n : Nat) : Nat := leNum (sliceBytes l o n)

/-- A number list without repeats, kept in ascending order: insertion of one member. -/
def setIns (x : Nat) : List Nat → List Nat
  | [] => [x]
  | y :: t => if x < y then x :: y :: t else if x = y then y :: t else y :: setIns x t

end Sys2Proof.Machine
end

