-- ==== Sys2Proof/Machine/FixMath.lean ====
section
/-! DEFINITION. Powers of ten and the circular functions in fixed point, for the formulas of the manual that hold them (R218, R255,
R273, R280).  `fxBits` fraction bits; the rounding of these formulas is finer than any result they form. -/

namespace Sys2Proof.Machine

/-- Fraction bits of the fixed-point numbers. -/
def fxBits : Nat := 40

/-- Product of two numbers in fixed point. -/
def fxMul (a b : Int) : Int := a * b / 2 ^ fxBits

/-- 10^(2^k / 1000) times 2^64, k = 0 to 9. -/
def pow10Consts : List Nat :=
  [18489268210561536987, 18531890375673023371, 18617429695109339415,
   18789694651118867538, 19139021155796183517, 19857278300080642989,
   21375669327403393734, 24769641589254725920, 33259806825994437632,
   59968021764830161471]

/-- 10^(x / 1000): the power ratio of x hundredths of a dB. -/
def pow10 (x : Int) : Nat :=
  let q := x / 1000
  let r := (x % 1000).toNat
  let f := (pow10Consts.zip (List.range 10)).foldl (fun a p => if bitOf r p.2 then a * p.1 / 2 ^ 64 else a) (2 ^ 64)
  if 0 ≤ q then f * 10 ^ q.toNat / 2 ^ (64 - fxBits) else f / (10 ^ (-q).toNat * 2 ^ (64 - fxBits))

/-- 2π times 2^80. -/
def twoPi : Int := 7595904947272677161575987

/-- The Taylor series Σ (-1)^n x^(2n + first) / (2n + first)! of a number with 80 fraction bits, `n` more terms. -/
def circSeries (x2 : Int) : Nat → Nat → Int → Int
  | 0, _, _ => 0
  | n + 1, k, t => t + circSeries x2 n (k + 2) (-(t * x2 / 2 ^ 80) / ((k + 1) * (k + 2) : Nat))

/-- The angle of a turn in (-π, π], 80 fraction bits; the turn in `fxBits` fraction bits. -/
def angleOf (t : Int) : Int :=
  let f := t % 2 ^ fxBits
  let g := if f < 2 ^ (fxBits - 1) then f else f - 2 ^ fxBits
  g * twoPi / 2 ^ fxBits

/-- Cosine of a turn. -/
def fxCosTurn (t : Int) : Int :=
  let x := angleOf t
  circSeries (x * x / 2 ^ 80) 24 0 (2 ^ 80) / 2 ^ (80 - fxBits)

/-- Sine of a turn. -/
def fxSinTurn (t : Int) : Int :=
  let x := angleOf t
  circSeries (x * x / 2 ^ 80) 24 1 x / 2 ^ (80 - fxBits)

/-- Cosine of an angle in hundredths of a degree. -/
def fxCosDeg (d : Int) : Int := fxCosTurn (d * 2 ^ fxBits / 36000)
/-- Sine of an angle in hundredths of a degree. -/
def fxSinDeg (d : Int) : Int := fxSinTurn (d * 2 ^ fxBits / 36000)

end Sys2Proof.Machine
end

