-- ==== Sys2Proof/Config.lean ====
section
/-! DEFINITION. What one device fixes and the manual does not give, and the free values.
Every constant here is `opaque` and has no body: no proof can see a value of it, so a claim holds for every value.
The assumption log names each (notes/assumptions). -/

namespace Sys2Proof.Config

/-- Free values: the value of draw `n`.  A meaning draws by reading `State.freeCtr` and advancing it. -/
opaque freeNat : Nat → Nat

/-- Free bytes: byte `i` of draw `n` (random bytes, challenges, signatures of the device). -/
opaque freeByte : Nat → Nat → Byte

/-- The rate of the oasis's RC oscillator, within the 5 % of R630, as ticks of a cycle above the least. -/
opaque rcOscillator : Nat
/-- Corrections of a slice of a converter as the base note interpolates the stored ones at power-up: offset, gain, delay, bandwidth (R139). -/
opaque sliceAtStart (k slice : Nat) (stored : Int × Int × Int × Int) : Int × Int × Int × Int
/-- Whether a stage of the signal chains rounds an ideal value with 40 fraction bits up, to the integer above it, or down: the manual gives
neither its word lengths inside nor, but for R168, R189, R213 and R276, its rounding. -/
opaque dspRoundsUp (site : Nat) (v : Int) : Bool
/-- 10^(g / 20) of a calibrated gain in 10⁻⁶ dB, 40 fraction bits, in the resolution of the device (R181, R188). -/
opaque linearGain (g : Int) : Int
/-- A corrector's DC value in LSB, 40 fraction bits, from the calibrated values it holds, I and Q (R165, R341): the manual gives no layout of
the values. -/
opaque correctorDc (tx : Bool) (v : List Int) : Int × Int
/-- Tap `k` of a corrector's 8-tap I/Q-imbalance FIR from the calibrated values: I to I, Q to I, I to Q and Q to Q, 40 fraction bits (R165, R341). -/
opaque correctorTap (tx : Bool) (v : List Int) (k : Nat) : Int × Int × Int × Int
/-- Off-centre coefficients 0 to 10, outermost first, of HB0, 40 fraction bits (R208): given by its response alone. -/
opaque hb0Half (i : Nat) : Int
/-- Coefficients of the fixed filters the manual gives by their place alone: of halfband `s` of the PRACH extractors (0 its D5, R193), and of the
divergence monitor's halfband (`s` = 9, R284); outermost first, 40 fraction bits. -/
opaque fixedFilter (s i : Nat) : Int
/-- The ratio E_w of a window of a path at an elapsed tick in which the input was silent (R284): not defined. -/
opaque silentError (p t : Nat) : Int
/-- Samples moved by a fraction of a sample, in 10⁻⁶ of one (R284): the manual gives no interpolator. -/
opaque aligned (frac : Int) (z : List Cplx) : List Cplx
/-- Right shifts inside the FFT of a PRACH extractor (R193): not given. -/
opaque prachShift : Nat
/-- Clock of the QSPI port in MHz once the flash's SFDP table has been read, up to 100 (R504). -/
opaque qspiClock : Nat
/-- Vendor code of object 0x1000 sub-index 1 ("from the device"). -/
opaque vendorCode : Nat
/-- Silicon revision of object 0x1000 sub-index 3. -/
opaque siliconRev : Nat
/-- Serial number of object 0x1000 sub-index 4. -/
opaque serial : Nat
/-- T1S MAC address of object 0x1000 sub-index 7. -/
opaque t1sMac : Nat
/-- The link-local IPv4 address the device selects when its address object is 0 (R502). -/
opaque linkLocal : Nat
/-- The default kernel images of slots 0 to 3 (object 0xD140 + s) and of object 0x5904. -/
opaque defaultKernel : Nat → List Byte
/-- Latency in ticks of transmit channel of carrier `cc` on path `p` with an FFT size and tap counts (R211): the device fixes it from the
configuration, and the manual gives only its bound. -/
opaque txLatency : (p cc fft taps : Nat) → Nat
/-- Public key of the vendor root in the boot ROM (R579), 97 bytes. -/
opaque vendorRoot : List Byte
/-- The bytes of a base-note set (object 0x7021 + j), whose layout the manual does not give: the entries are path, item and value. -/
opaque baseSetBytes : List (Nat × Nat × CalMeas) → List Byte
/-- The entries that the bytes of a base-note set hold. -/
opaque baseSetEntries : List Byte → List (Nat × Nat × CalMeas)

end Sys2Proof.Config
end

