-- ==== Sys2Proof/Machine/ObjMap.lean ====
section
/-! DEFINITION. The object dictionary (R469 to R471): the object tables of the chapters, row by row, with
type, access per role, numeric default and commit class.  A default the table does not give as a number
(from the device, from NV, a DOMAIN) is `objDefault`'s, in Machine/Objects.lean. -/

namespace Sys2Proof.Machine

/-- The object types of R470. -/
inductive OTy where
  | bool | u8 | u16 | u32 | u64 | i8 | i16 | i32 | i64 | q15 | q31 | f32 | time64 | string | domain
deriving DecidableEq, Repr

/-- The access of one role to an object; `none` is the dash of the tables (R471). -/
inductive OAcc where
  | none | ro | rw | wo | rws
deriving DecidableEq, Repr

/-- The commit class of R60; `none` is the dash of the tables. -/
inductive CClass where
  | none | s | l | f
deriving DecidableEq, Repr

/-- One row of an object table: index `base + stride * i` for `i < count`, sub-indices `sub0` to `sub1`. -/
structure ObjRow where
  base : Nat
  stride : Nat
  count : Nat
  sub0 : Nat
  sub1 : Nat
  ty : OTy
  accT : OAcc
  accO : OAcc
  accS : OAcc
  cls : CClass
  dflt : Nat
deriving DecidableEq, Repr

/-- Object tables, part 1. -/
def objRows1 : List ObjRow :=
  [
    -- lost flags of the pulse crossings into island (sub-index − 1); bit s for source island s; a write of 1 clears a flag
    ⟨0xf010, 0, 1, 1, 36, .u64, .none, .rw, .rw, .none, 0⟩,
    -- array pattern configuration, TL_PATTERN_CFG layout; ENTRIES is set by the device from sub-index 3
    ⟨0x2000, 0, 1, 1, 1, .u32, .ro, .rws, .rws, .f, 0⟩,
    -- TL_FRAME_OFS, ticks
    ⟨0x2000, 0, 1, 2, 2, .u32, .ro, .rws, .rws, .f, 0⟩,
    -- pattern entries, 1 to 512 × U32 in TL_PATn layout
    ⟨0x2000, 0, 1, 3, 3, .domain, .ro, .rws, .rws, .f, 0⟩,
    -- timeline event entries, up to 4,096 × U64 in TL_EVTn layout
    ⟨0x2001, 0, 1, 1, 1, .domain, .none, .rws, .rws, .l, 0⟩,
    -- enable of CCn: 0 off, 1 downlink, 2 uplink, 3 both; tenant access for its own carrier
    ⟨0x2010, 1, 8, 1, 1, .u8, .rws, .rws, .rws, .l, 0⟩,
    -- owning tenant 0–3; 0xFF none
    ⟨0x2010, 1, 8, 2, 2, .u8, .ro, .rws, .rws, .f, 255⟩,
    -- centre frequency, Hz
    ⟨0x2010, 1, 8, 3, 3, .u64, .ro, .rws, .rws, .f, 0⟩,
    -- channel bandwidth B, MHz, 5–400
    ⟨0x2010, 1, 8, 4, 4, .u16, .ro, .rws, .rws, .f, 0⟩,
    -- N, PRBs, 1–275
    ⟨0x2010, 1, 8, 5, 5, .u16, .ro, .rws, .rws, .f, 0⟩,
    -- numerology μ in [1:0]; extended CP in bit 7
    ⟨0x2010, 1, 8, 6, 6, .u8, .ro, .rws, .rws, .f, 0⟩,
    -- the carrier's own TDD pattern, TL_PATn layout; tenant access for its own carrier
    ⟨0x2010, 1, 8, 7, 7, .domain, .rws, .rws, .rws, .f, 0⟩,
    -- drop rank of CC0–CC7; the highest rank is removed first under R82 and R563, and among equal ranks the higher carrier number
    ⟨0x2020, 0, 1, 1, 8, .u8, .ro, .rws, .rws, .s, 0⟩,
    -- per path, item 0x1: path enable; 0 holds path p in OFF
    ⟨0x8001, 0x40, 64, 1, 1, .bool, .ro, .rws, .rws, .l, 1⟩,
    -- boot source, PLCA node ID, tenant count
    ⟨0x1010, 0, 1, 1, 3, .u8, .ro, .ro, .ro, .none, 0⟩,
    -- serving member in TDD; start preset of the TX trunk; start preset of the RX trunk in FDD; under R655
    ⟨0x3000, 0, 1, 1, 3, .u8, .ro, .rws, .rws, .f, 0⟩,
    -- LO band: 0 low, 1 high
    ⟨0x3001, 0, 1, 1, 1, .u8, .ro, .rws, .rws, .f, 0⟩,
    -- preset k − 1 of SYNn, in mHz at the LO frequency
    ⟨0x3002, 1, 4, 1, 16, .u64, .ro, .rws, .rws, .l, 0⟩,
    -- forced retune: synthesiser, preset, 1 to execute
    ⟨0x3010, 0, 1, 1, 3, .u8, .none, .wo, .wo, .none, 0⟩,
    -- state of SYNn, encoded as STATE
    ⟨0x3020, 1, 4, 1, 1, .u8, .ro, .ro, .ro, .none, 0⟩,
    -- per path, item 0x10: blanked transmit symbols
    ⟨0x8010, 0x40, 64, 1, 1, .u64, .ro, .ro, .ro, .none, 0⟩,
    -- per path, item 0x11: serial transaction errors
    ⟨0x8011, 0x40, 64, 1, 1, .u64, .ro, .ro, .ro, .none, 0⟩,
    -- per path, item 0x12: serial read data; serial write data
    ⟨0x8012, 0x40, 64, 1, 1, .u64, .ro, .rw, .rw, .s, 0⟩,
    -- per path, item 0x13: serial read data; serial write data
    ⟨0x8013, 0x40, 64, 1, 1, .u64, .ro, .rw, .rw, .s, 0⟩,
    -- per path, item 0x14: safe levels, FEA_SAFE and FEB_SAFE layout; STORE writes them to NV
    ⟨0x8014, 0x40, 64, 1, 1, .u8, .none, .rw, .rw, .s, 0⟩,
    -- per path, item 0x15: overload assertions
    ⟨0x8015, 0x40, 64, 1, 1, .u64, .ro, .ro, .ro, .none, 0⟩,
    -- barchan rotation enable, all converters
    ⟨0x4000, 0, 1, 1, 1, .bool, .ro, .ro, .rw, .s, 1⟩,
    -- slice mismatch spur limit, 0.1 dBc
    ⟨0x4001, 0, 1, 1, 1, .i16, .ro, .rw, .rw, .s, 64836⟩,
    -- state of ORX0–ORX3, encoded as STATE
    ⟨0x4002, 0, 1, 1, 4, .u8, .ro, .ro, .ro, .none, 0⟩,
    -- buffer i: base, size in bytes, owner, source
    ⟨0x4100, 1, 256, 1, 1, .u64, .ro, .rws, .rws, .s, 0⟩,
    -- buffer i: base, size in bytes, owner, source
    ⟨0x4100, 1, 256, 2, 2, .u32, .ro, .rws, .rws, .s, 0⟩,
    -- buffer i: base, size in bytes, owner, source
    ⟨0x4100, 1, 256, 3, 4, .u8, .ro, .rws, .rws, .s, 0⟩,
    -- status of buffer i: first tick, valid length, state, flags
    ⟨0x4200, 1, 256, 1, 1, .u64, .ro, .ro, .ro, .none, 0⟩,
    -- status of buffer i: first tick, valid length, state, flags
    ⟨0x4200, 1, 256, 2, 2, .u16, .ro, .ro, .ro, .none, 0⟩,
    -- status of buffer i: first tick, valid length, state, flags
    ⟨0x4200, 1, 256, 3, 3, .u8, .ro, .ro, .ro, .none, 0⟩,
    -- status of buffer i: first tick, valid length, state, flags
    ⟨0x4200, 1, 256, 4, 4, .u32, .ro, .ro, .ro, .none, 0⟩,
    -- per path, item 0x18: ADC status, ADC_STAT layout
    ⟨0x8018, 0x40, 64, 1, 1, .u32, .ro, .ro, .ro, .none, 0⟩,
    -- per path, item 0x19: slice mismatch spur, 0.1 dBc
    ⟨0x8019, 0x40, 64, 1, 1, .i16, .ro, .ro, .ro, .none, 0⟩,
    -- per path, item 0x1a: DAC status, DAC_STAT layout
    ⟨0x801a, 0x40, 64, 1, 1, .u32, .ro, .ro, .ro, .none, 131328⟩,
    -- per path, item 0x1b: observation attenuation, dB
    ⟨0x801b, 0x40, 64, 1, 1, .u8, .ro, .rws, .rws, .l, 20⟩,
    -- per path, item 0x1c: loop delay, ADC samples
    ⟨0x801c, 0x40, 64, 1, 1, .u32, .ro, .ro, .ro, .none, 0⟩
  ]

/-- Object tables, part 2. -/
def objRows2 : List ObjRow :=
  [
    -- per path, item 0x1d: emergency slice swaps
    ⟨0x801d, 0x40, 64, 1, 1, .u64, .ro, .ro, .ro, .none, 0⟩,
    -- per path, item 0x1e: captures discarded
    ⟨0x801e, 0x40, 64, 1, 1, .u64, .ro, .ro, .ro, .none, 0⟩,
    -- per path, item 0x1f: overrange samples
    ⟨0x801f, 0x40, 64, 1, 1, .u64, .ro, .ro, .ro, .none, 0⟩,
    -- SYNC pin enable
    ⟨0x4010, 0, 1, 1, 1, .bool, .ro, .rw, .rw, .s, 0⟩,
    -- request a SYNC at this tick
    ⟨0x4010, 0, 1, 2, 2, .time64, .none, .wo, .wo, .none, 0⟩,
    -- lane map of cluster c
    ⟨0x4020, 1, 8, 1, 1, .u64, .ro, .ro, .ro, .none, 36344967696⟩,
    -- carrier CCn: FFT size in points under R167; DLY
    ⟨0x4400, 1, 8, 1, 2, .u16, .ro, .rws, .rws, .f, 0⟩,
    -- WIN_OFS; tenant access for its own carrier
    ⟨0x4400, 1, 8, 3, 3, .u16, .rws, .rws, .rws, .l, 0⟩,
    -- shifts, tap counts
    ⟨0x4400, 1, 8, 4, 4, .u64, .ro, .rws, .rws, .f, 847540213077⟩,
    -- shifts, tap counts
    ⟨0x4400, 1, 8, 5, 5, .u64, .ro, .rws, .rws, .f, 257⟩,
    -- coefficients in index order
    ⟨0x4400, 1, 8, 6, 6, .domain, .ro, .rws, .rws, .f, 0⟩,
    -- extractor j, PRCHj layout; tenant access for its own carrier
    ⟨0x4480, 1, 4, 1, 1, .u64, .rws, .rws, .rws, .l, 0⟩,
    -- occasion offsets
    ⟨0x4480, 1, 4, 2, 2, .domain, .rws, .rws, .rws, .l, 0⟩,
    -- per path, item 0x20: BASE_ATT, dB
    ⟨0x8020, 0x40, 64, 1, 1, .u8, .ro, .rws, .rws, .l, 0⟩,
    -- per path, item 0x21: gain control, RXG_CTRL layout
    ⟨0x8021, 0x40, 64, 1, 1, .u64, .ro, .rws, .rws, .l, 155581132765856⟩,
    -- per path, item 0x22: gain status, RXG_STAT layout
    ⟨0x8022, 0x40, 64, 1, 1, .u32, .ro, .ro, .ro, .none, 0⟩,
    -- per path, item 0x23: attacks; LNA bypasses
    ⟨0x8023, 0x40, 64, 1, 1, .u64, .ro, .ro, .ro, .none, 0⟩,
    -- per path, item 0x24: attacks; LNA bypasses
    ⟨0x8024, 0x40, 64, 1, 1, .u64, .ro, .ro, .ro, .none, 0⟩,
    -- per path, item 0x25: stage and FFT saturations
    ⟨0x8025, 0x40, 64, 1, 1, .u64, .ro, .ro, .ro, .none, 0⟩,
    -- per path, item 0x26: antenna REs marked with the mirage flag
    ⟨0x8026, 0x40, 64, 1, 1, .u64, .ro, .ro, .ro, .none, 0⟩,
    -- per path, item 0x27: fine-path power of the latest symbol, 0.1 dBFS, per enabled carrier in ascending CC order
    ⟨0x8027, 0x40, 64, 1, 1, .i16, .ro, .ro, .ro, .none, 0⟩,
    -- P_dec of CCn, 0.01 dBm; tenant access for its own carrier
    ⟨0x2100, 1, 8, 1, 1, .i16, .rws, .rws, .rws, .l, 0⟩,
    -- REF of CCn, 0.01 dBFS
    ⟨0x2100, 1, 8, 2, 2, .i16, .rws, .rws, .rws, .l, 64036⟩,
    -- WIN_LEN
    ⟨0x2100, 1, 8, 3, 3, .u8, .rws, .rws, .rws, .l, 0⟩,
    -- transmit shifts, tap counts
    ⟨0x4500, 1, 8, 1, 1, .u64, .ro, .rws, .rws, .f, 847540213077⟩,
    -- transmit shifts, tap counts
    ⟨0x4500, 1, 8, 2, 2, .u64, .ro, .rws, .rws, .f, 257⟩,
    -- transmit coefficients in index order
    ⟨0x4500, 1, 8, 3, 3, .domain, .ro, .rws, .rws, .f, 0⟩,
    -- CFR, CFR_CTRL layout, all paths
    ⟨0x4800, 0, 1, 1, 1, .u64, .ro, .rws, .rws, .l, 18446744069420753183⟩,
    -- PMAX_PATH, 0.01 dBm; converted to the nearest µW
    ⟨0xa010, 0, 1, 1, 1, .i16, .ro, .rws, .rws, .l, 3000⟩,
    -- per path, item 0x28: share of T0–T3, 0.01 %
    ⟨0x8028, 0x40, 64, 1, 1, .u16, .ro, .rws, .rws, .l, 0⟩,
    -- per path, item 0x29: share of T0–T3, 0.01 %
    ⟨0x8029, 0x40, 64, 1, 1, .u16, .ro, .rws, .rws, .l, 0⟩,
    -- per path, item 0x2a: share of T0–T3, 0.01 %
    ⟨0x802a, 0x40, 64, 1, 1, .u16, .ro, .rws, .rws, .l, 0⟩,
    -- per path, item 0x2b: share of T0–T3, 0.01 %
    ⟨0x802b, 0x40, 64, 1, 1, .u16, .ro, .rws, .rws, .l, 0⟩,
    -- per path, item 0x2c: TX_ATT, 0.5 dB
    ⟨0x802c, 0x40, 64, 1, 1, .u8, .ro, .rws, .rws, .l, 63⟩,
    -- per path, item 0x2d: P_FS, 0.01 dBm, from calibration
    ⟨0x802d, 0x40, 64, 1, 1, .i16, .ro, .ro, .ro, .none, 0⟩,
    -- per path, item 0x2e: carrier-limiter scalings
    ⟨0x802e, 0x40, 64, 1, 1, .u64, .ro, .ro, .ro, .none, 0⟩,
    -- per path, item 0x2f: symbols with late REs
    ⟨0x802f, 0x40, 64, 1, 1, .u64, .ro, .ro, .ro, .none, 0⟩,
    -- per path, item 0x30: clipped samples
    ⟨0x8030, 0x40, 64, 1, 1, .u64, .ro, .ro, .ro, .none, 0⟩,
    -- per path, item 0x31: uncancelled peaks
    ⟨0x8031, 0x40, 64, 1, 1, .u64, .ro, .ro, .ro, .none, 0⟩,
    -- per path, item 0x32: transmit saturations
    ⟨0x8032, 0x40, 64, 1, 1, .u64, .ro, .ro, .ro, .none, 0⟩,
    -- per path, item 0x33: composite power of the latest TX slot at the antenna port, 0.01 dBm
    ⟨0x8033, 0x40, 64, 1, 1, .i16, .ro, .ro, .ro, .none, 32768⟩,
    -- CCn, BF_CCn_CFG layout; tenant access for its own carrier
    ⟨0x5000, 1, 8, 1, 1, .u64, .rws, .rws, .rws, .l, 0⟩,
    -- codebook, DLA, DLB, ULA, ULB bases
    ⟨0x5000, 1, 8, 2, 6, .u64, .ro, .rws, .rws, .l, 0⟩,
    -- UL default codes per layer
    ⟨0x5010, 1, 8, 1, 1, .domain, .rws, .rws, .rws, .s, 0⟩
  ]

/-- Object tables, part 3. -/
def objRows3 : List ObjRow :=
  [
    -- collisions, split blocks, saturations, beam errors
    ⟨0x5020, 1, 8, 1, 4, .u64, .ro, .ro, .ro, .none, 0⟩,
    -- current sets, BF_CCn_SET layout
    ⟨0x5030, 1, 8, 1, 1, .u8, .ro, .ro, .ro, .none, 0⟩,
    -- weight block to the shadow set of direction d
    ⟨0x5100, 1, 16, 1, 1, .domain, .wo, .wo, .wo, .none, 0⟩,
    -- codebook; write is a block with TARGET = 1, read returns 262,144 bytes
    ⟨0x5200, 1, 8, 1, 1, .domain, .rw, .rw, .rw, .none, 0⟩,
    -- codebook descriptors under R255
    ⟨0x5400, 1, 8, 1, 1, .domain, .rw, .rw, .rw, .s, 0⟩,
    -- geometry under R254
    ⟨0x5800, 1, 4, 1, 1, .domain, .ro, .rws, .rws, .f, 0⟩,
    -- elements in service, array gain, mask, stage
    ⟨0x5900, 0, 1, 1, 1, .u8, .ro, .ro, .ro, .none, 64⟩,
    -- elements in service, array gain, mask, stage
    ⟨0x5900, 0, 1, 2, 2, .i16, .ro, .ro, .ro, .none, 0⟩,
    -- elements in service, array gain, mask, stage
    ⟨0x5900, 0, 1, 3, 3, .u64, .ro, .ro, .ro, .none, 0⟩,
    -- elements in service, array gain, mask, stage
    ⟨0x5900, 0, 1, 4, 4, .u8, .ro, .ro, .ro, .none, 0⟩,
    -- minimum elements in service
    ⟨0x5900, 0, 1, 5, 5, .u8, .ro, .rw, .rw, .s, 48⟩,
    -- heal command: path; 1 declare, 2 clear
    ⟨0x5901, 0, 1, 1, 2, .u8, .none, .wo, .wo, .none, 0⟩,
    -- resynthesis kernel image
    ⟨0x5904, 0, 1, 1, 1, .domain, .none, .rws, .rws, .f, 0⟩,
    -- PRACH beam list of extractor j
    ⟨0x5910, 1, 4, 1, 1, .domain, .rws, .rws, .rws, .l, 0⟩,
    -- dispatcher, DPD_DISP_CTRL layout
    ⟨0x6000, 0, 1, 1, 1, .u32, .ro, .rw, .rw, .s, 32009⟩,
    -- pending bitmap; stale bitmap
    ⟨0x6000, 0, 1, 2, 3, .u64, .ro, .ro, .ro, .none, 0⟩,
    -- CTRL; RAMP and PROB apply as class S
    ⟨0x6100, 1, 64, 1, 1, .u32, .none, .rws, .rws, .f, 57456⟩,
    -- taps and lags; neighbours
    ⟨0x6100, 1, 64, 2, 2, .u64, .none, .rws, .rws, .f, 340158598872051841⟩,
    -- taps and lags; neighbours
    ⟨0x6100, 1, 64, 3, 3, .u64, .none, .rws, .rws, .f, 0⟩,
    -- limits
    ⟨0x6100, 1, 64, 4, 4, .u64, .none, .rws, .rws, .l, 26431946889420⟩,
    -- THM0, THM1
    ⟨0x6100, 1, 64, 5, 6, .u64, .none, .ro, .rw, .s, 0⟩,
    -- R_MIN, adaptations per second, 0–10
    ⟨0x6100, 1, 64, 7, 7, .u8, .none, .rws, .rws, .l, 0⟩,
    -- set in force, 12,608 bytes under R278
    ⟨0x6200, 1, 64, 1, 1, .domain, .none, .ro, .ro, .none, 0⟩,
    -- write the shadow and request a hand-over
    ⟨0x6200, 1, 64, 2, 2, .domain, .none, .none, .wo, .none, 0⟩,
    -- per path, item 0x34: state, STATE encoding, BACKOFF_ON in bit 7
    ⟨0x8034, 0x40, 64, 1, 1, .u8, .ro, .ro, .ro, .none, 0⟩,
    -- per path, item 0x35: E_w; E_REF, 0.1 dB
    ⟨0x8035, 0x40, 64, 1, 1, .i16, .none, .ro, .ro, .none, 0⟩,
    -- per path, item 0x36: E_w; E_REF, 0.1 dB
    ⟨0x8036, 0x40, 64, 1, 1, .i16, .none, .ro, .ro, .none, 0⟩,
    -- per path, item 0x37: Θ, 1/64 °C
    ⟨0x8037, 0x40, 64, 1, 1, .i16, .none, .ro, .ro, .none, 0⟩,
    -- per path, item 0x38: clamped samples
    ⟨0x8038, 0x40, 64, 1, 1, .u64, .none, .ro, .ro, .none, 0⟩,
    -- per path, item 0x39: fall-backs under R286
    ⟨0x8039, 0x40, 64, 1, 1, .u64, .none, .ro, .ro, .none, 0⟩,
    -- per path, item 0x3a: identity entries with backoff under R287
    ⟨0x803a, 0x40, 64, 1, 1, .u64, .none, .ro, .ro, .none, 0⟩,
    -- per path, item 0x3b: GEN of the set in force
    ⟨0x803b, 0x40, 64, 1, 1, .u32, .none, .ro, .ro, .none, 0⟩,
    -- per path, item 0x3c: stale causes: bit 0 request age, 1 identity, 2 scale, 3 temperature span, 4 after erg repair
    ⟨0x803c, 0x40, 64, 1, 1, .u8, .ro, .ro, .ro, .none, 0⟩,
    -- state of GEe, STATE encoding
    ⟨0xd100, 1, 18, 1, 1, .u8, .none, .ro, .ro, .none, 0⟩,
    -- jobs completed; jobs ended by fault
    ⟨0xd100, 1, 18, 2, 3, .u64, .none, .ro, .ro, .none, 0⟩,
    -- deadline cycles per second placed by admission
    ⟨0xd100, 1, 18, 4, 4, .u32, .none, .ro, .ro, .none, 0⟩,
    -- deadline misses
    ⟨0xd100, 1, 18, 5, 5, .u64, .none, .ro, .ro, .none, 0⟩,
    -- roll state: 0 idle, 1 rolling
    ⟨0xd120, 0, 1, 1, 1, .u8, .none, .ro, .ro, .none, 0⟩,
    -- bundles used; persistent bytes used
    ⟨0xd120, 0, 1, 2, 2, .u16, .none, .ro, .ro, .none, 0⟩,
    -- bundles used; persistent bytes used
    ⟨0xd120, 0, 1, 3, 3, .u32, .none, .ro, .ro, .none, 0⟩,
    -- kernel image of slot s under R333
    ⟨0xd140, 1, 16, 1, 1, .domain, .none, .rws, .rws, .f, 0⟩
  ]

/-- Object tables, part 4. -/
def objRows4 : List ObjRow :=
  [
    -- kernel ID, version, CYC, root of slot s
    ⟨0xd160, 1, 16, 1, 2, .u16, .none, .ro, .ro, .none, 0⟩,
    -- kernel ID, version, CYC, root of slot s
    ⟨0xd160, 1, 16, 3, 3, .u32, .none, .ro, .ro, .none, 0⟩,
    -- kernel ID, version, CYC, root of slot s
    ⟨0xd160, 1, 16, 4, 4, .u8, .none, .ro, .ro, .none, 0⟩,
    -- BASE_LEARN; RAMP_CAL; CAL_STALE_MAX
    ⟨0x7000, 0, 1, 1, 1, .u8, .ro, .rw, .rw, .s, 0⟩,
    -- BASE_LEARN; RAMP_CAL; CAL_STALE_MAX
    ⟨0x7000, 0, 1, 2, 2, .u8, .ro, .rw, .rw, .s, 4⟩,
    -- BASE_LEARN; RAMP_CAL; CAL_STALE_MAX
    ⟨0x7000, 0, 1, 3, 3, .u8, .ro, .rw, .rw, .s, 2⟩,
    -- array phase and delay residuals
    ⟨0x7001, 0, 1, 1, 2, .i16, .ro, .ro, .ro, .none, 0⟩,
    -- network declaration under R356
    ⟨0x7010, 0, 1, 1, 1, .domain, .none, .rws, .rws, .f, 0⟩,
    -- TSET0–TSET7
    ⟨0x7020, 0, 1, 1, 1, .domain, .ro, .rws, .rws, .f, 0⟩,
    -- base-note set j
    ⟨0x7021, 1, 8, 1, 1, .domain, .none, .ro, .rw, .s, 0⟩,
    -- service window: start, length in ms, path mask
    ⟨0x7030, 0, 1, 1, 1, .time64, .none, .rws, .rws, .s, 0⟩,
    -- service window: start, length in ms, path mask
    ⟨0x7030, 0, 1, 2, 2, .u32, .none, .rws, .rws, .s, 0⟩,
    -- service window: start, length in ms, path mask
    ⟨0x7030, 0, 1, 3, 3, .u64, .none, .rws, .rws, .s, 0⟩,
    -- REFCLK offset; crystal offset, ppb
    ⟨0x7040, 0, 1, 1, 2, .i32, .ro, .ro, .ro, .none, 0⟩,
    -- crystal table, 32 × I32 ppb
    ⟨0x7040, 0, 1, 3, 3, .domain, .none, .ro, .ro, .none, 0⟩,
    -- request: path, item, flags (bit 0 FORCE, bit 1 AUTO_CLEAR), submit
    ⟨0x7050, 0, 1, 1, 3, .u8, .none, .wo, .wo, .none, 0⟩,
    -- request: path, item, flags (bit 0 FORCE, bit 1 AUTO_CLEAR), submit
    ⟨0x7050, 0, 1, 4, 4, .bool, .none, .wo, .wo, .none, 0⟩,
    -- interval; STALE_AGE in ms
    ⟨0x7100, 1, 256, 1, 2, .u32, .none, .rw, .rw, .s, 0⟩,
    -- last run tick; result 0 OK, 1 LOW_RANK, 2 NO_GUARD, 3 LIMIT
    ⟨0x7100, 1, 256, 3, 3, .time64, .ro, .ro, .ro, .none, 0⟩,
    -- last run tick; result 0 OK, 1 LOW_RANK, 2 NO_GUARD, 3 LIMIT
    ⟨0x7100, 1, 256, 4, 4, .u8, .ro, .ro, .ro, .none, 0⟩,
    -- per path, item 0x2: quality figures under R374
    ⟨0x8002, 0x40, 64, 1, 1, .i16, .ro, .ro, .ro, .none, 0⟩,
    -- per path, item 0x3: quality figures under R374
    ⟨0x8003, 0x40, 64, 1, 1, .i16, .ro, .ro, .ro, .none, 0⟩,
    -- per path, item 0x4: quality figures under R374
    ⟨0x8004, 0x40, 64, 1, 1, .i16, .ro, .ro, .ro, .none, 0⟩,
    -- per path, item 0x5: quality figures under R374
    ⟨0x8005, 0x40, 64, 1, 1, .i16, .ro, .ro, .ro, .none, 0⟩,
    -- per path, item 0x6: quality figures under R374
    ⟨0x8006, 0x40, 64, 1, 1, .i16, .ro, .ro, .ro, .none, 0⟩,
    -- per path, item 0x7: quality figures under R374
    ⟨0x8007, 0x40, 64, 1, 1, .i16, .ro, .ro, .ro, .none, 0⟩,
    -- per path, item 0x8: quality figures under R374
    ⟨0x8008, 0x40, 64, 1, 1, .i16, .ro, .ro, .ro, .none, 0⟩,
    -- per path, item 0x9: quality figures under R374
    ⟨0x8009, 0x40, 64, 1, 1, .i16, .ro, .ro, .ro, .none, 0⟩,
    -- per path, item 0xc: quality figures under R374
    ⟨0x800c, 0x40, 64, 1, 1, .i16, .ro, .ro, .ro, .none, 0⟩,
    -- per path, item 0xd: quality figures under R374
    ⟨0x800d, 0x40, 64, 1, 1, .i16, .ro, .ro, .ro, .none, 0⟩,
    -- per path, item 0x3d: quality figures under R374
    ⟨0x803d, 0x40, 64, 1, 1, .i16, .ro, .ro, .ro, .none, 0⟩,
    -- per path, item 0xa: stale items under R372
    ⟨0x800a, 0x40, 64, 1, 1, .u8, .ro, .ro, .ro, .none, 0⟩,
    -- per path, item 0xe: T_p, 1/64 °C
    ⟨0x800e, 0x40, 64, 1, 1, .i16, .ro, .ro, .ro, .none, 0⟩,
    -- per path, item 0xf: foreground status under R381
    ⟨0x800f, 0x40, 64, 1, 1, .u8, .ro, .ro, .ro, .none, 0⟩,
    -- port n, LNK_PORTn_CFG layout
    ⟨0x9000, 1, 4, 1, 1, .u64, .ro, .rws, .rws, .f, 618515136640⟩,
    -- destination address; tenant access for its own port
    ⟨0x9000, 1, 4, 2, 2, .u64, .rws, .rws, .rws, .l, 0⟩,
    -- MACsec options
    ⟨0x9000, 1, 4, 3, 3, .u32, .ro, .rws, .rws, .f, 4194563⟩,
    -- state, LNK_PORTn_STAT layout
    ⟨0x9000, 1, 4, 4, 4, .u32, .ro, .ro, .ro, .none, 0⟩,
    -- lane map
    ⟨0x9010, 0, 1, 1, 1, .u64, .ro, .ro, .ro, .none, 36344967696⟩,
    -- lane states
    ⟨0x9011, 0, 1, 1, 1, .u32, .ro, .ro, .ro, .none, 0⟩,
    -- return lane 0–8 from RETIRED to SPARE
    ⟨0x9011, 0, 1, 2, 2, .u8, .none, .none, .wo, .none, 0⟩,
    -- WIN_OPEN, WIN_CLOSE of CCn; tenant access for its own carrier
    ⟨0x9020, 1, 8, 1, 2, .u32, .rws, .rws, .rws, .l, 0⟩,
    -- uplink plan, LNK_CCn_UL layout
    ⟨0x9030, 1, 8, 1, 1, .u32, .rws, .rws, .rws, .l, 9216⟩,
    -- downlink plan, LNK_CCn_DL layout, under R657
    ⟨0x9030, 1, 8, 2, 2, .u32, .rws, .rws, .rws, .l, 1024⟩,
    -- capture stream rate of port n, Mb/s
    ⟨0x9040, 1, 4, 1, 1, .u32, .ro, .rws, .rws, .l, 0⟩,
    -- stream buffer i, i = 128–255, to its owner; tenant access for its own buffers
    ⟨0x9100, 1, 256, 1, 1, .bool, .rws, .rws, .rws, .s, 0⟩,
    -- carrier CCn: drops by cause code of R396; sub-indices 1–6 read 0
    ⟨0x9200, 1, 8, 1, 12, .u64, .ro, .ro, .ro, .none, 0⟩,
    -- carrier CCn: missing PRBs, BFP saturations, overlaps, WSET mismatches, uplink sections discarded
    ⟨0x9200, 1, 8, 13, 17, .u64, .ro, .ro, .ro, .none, 0⟩
  ]

/-- Object tables, part 5. -/
def objRows5 : List ObjRow :=
  [
    -- port n: drops by cause code of R396; undecodable frames lost to sparing; type 0 sequence gaps; frames received
    ⟨0x9210, 1, 4, 1, 12, .u64, .ro, .ro, .ro, .none, 0⟩,
    -- port n: drops by cause code of R396; undecodable frames lost to sparing; type 0 sequence gaps; frames received
    ⟨0x9210, 1, 4, 18, 20, .u64, .ro, .ro, .ro, .none, 0⟩,
    -- PTP configuration
    ⟨0x9300, 0, 1, 1, 1, .u64, .none, .rws, .rws, .f, 141289400041496⟩,
    -- state, offset in 0.25 ns, clockClass, master clockIdentity
    ⟨0x9301, 0, 1, 1, 1, .u8, .ro, .ro, .ro, .none, 0⟩,
    -- state, offset in 0.25 ns, clockClass, master clockIdentity
    ⟨0x9301, 0, 1, 2, 2, .i32, .ro, .ro, .ro, .none, 0⟩,
    -- state, offset in 0.25 ns, clockClass, master clockIdentity
    ⟨0x9301, 0, 1, 3, 3, .u8, .ro, .ro, .ro, .none, 0⟩,
    -- state, offset in 0.25 ns, clockClass, master clockIdentity
    ⟨0x9301, 0, 1, 4, 4, .u64, .ro, .ro, .ro, .none, 0⟩,
    -- timestamp adjustments of port n
    ⟨0x9302, 1, 4, 1, 1, .u32, .none, .rws, .rws, .s, 0⟩,
    -- SyncE configuration
    ⟨0x9310, 0, 1, 1, 1, .u32, .none, .rws, .rws, .f, 0⟩,
    -- SyncE state
    ⟨0x9311, 0, 1, 1, 1, .u32, .ro, .ro, .ro, .none, 0⟩,
    -- PPS control: OUT_EN in bit 0, IN_MODE in bit 1; PPS_OUT width in µs, 1–65,535; under R422
    ⟨0x9320, 0, 1, 1, 1, .u8, .none, .rws, .rws, .l, 0⟩,
    -- PPS control: OUT_EN in bit 0, IN_MODE in bit 1; PPS_OUT width in µs, 1–65,535; under R422
    ⟨0x9320, 0, 1, 2, 2, .u16, .none, .rws, .rws, .l, 1000⟩,
    -- time of day at the next PPS_IN edge, SOURCE mode
    ⟨0x9320, 0, 1, 3, 3, .time64, .none, .wo, .wo, .none, 0⟩,
    -- offset of the last PPS_IN edge, ticks
    ⟨0x9321, 0, 1, 1, 1, .i32, .ro, .ro, .ro, .none, 0⟩,
    -- FIRST, COUNT of Tn
    ⟨0xa020, 1, 4, 1, 2, .u8, .ro, .rws, .rws, .f, 0⟩,
    -- ring r, DMA_RINGr_CFG layout; tenant access for its own rings, OWNER not writable by a tenant
    ⟨0xa100, 1, 128, 1, 1, .u64, .rws, .rws, .rws, .s, 0⟩,
    -- descriptor ring contents; a tenant writes SRC and DST as byte offsets in its partition, which the device converts to addresses
    ⟨0xa100, 1, 128, 2, 2, .domain, .rws, .rws, .rws, .s, 0⟩,
    -- ring status, DMA_RINGr_STAT layout
    ⟨0xa180, 1, 128, 1, 1, .u32, .ro, .ro, .ro, .none, 0⟩,
    -- trigger the ring
    ⟨0xa180, 1, 128, 2, 2, .bool, .wo, .wo, .wo, .none, 0⟩,
    -- banks in service, spare banks left, spare rows left
    ⟨0xd010, 0, 1, 1, 1, .u8, .none, .ro, .ro, .none, 96⟩,
    -- banks in service, spare banks left, spare rows left
    ⟨0xd010, 0, 1, 2, 2, .u8, .none, .ro, .ro, .none, 4⟩,
    -- banks in service, spare banks left, spare rows left
    ⟨0xd010, 0, 1, 3, 3, .u16, .none, .ro, .ro, .none, 800⟩,
    -- SCRUB_PERIOD, s
    ⟨0xd010, 0, 1, 4, 4, .u16, .none, .rw, .rw, .s, 10⟩,
    -- spare physical bank 0–95 under R436
    ⟨0xd011, 0, 1, 1, 1, .u8, .none, .none, .wo, .none, 0⟩,
    -- physical bank b, MEM_BANKb_STAT layout
    ⟨0xd020, 1, 100, 1, 1, .u32, .none, .ro, .ro, .none, 0⟩,
    -- corrected errors; poisoned words
    ⟨0xd020, 1, 100, 2, 3, .u64, .none, .ro, .ro, .none, 0⟩,
    -- vendor code, part "CRV6464", silicon revision, serial number
    ⟨0x1000, 0, 1, 1, 1, .u32, .ro, .ro, .ro, .none, 0⟩,
    -- vendor code, part "CRV6464", silicon revision, serial number
    ⟨0x1000, 0, 1, 2, 2, .string, .ro, .ro, .ro, .none, 0⟩,
    -- vendor code, part "CRV6464", silicon revision, serial number
    ⟨0x1000, 0, 1, 3, 3, .u16, .ro, .ro, .ro, .none, 0⟩,
    -- vendor code, part "CRV6464", silicon revision, serial number
    ⟨0x1000, 0, 1, 4, 4, .u64, .ro, .ro, .ro, .none, 0⟩,
    -- T1S MAC address in [47:0]
    ⟨0x1000, 0, 1, 7, 7, .u64, .ro, .ro, .ro, .none, 0⟩,
    -- IPv4 address, mask, gateway
    ⟨0x1020, 0, 1, 1, 3, .u32, .none, .rw, .rw, .s, 0⟩,
    -- Diong UDP port
    ⟨0x1020, 0, 1, 4, 4, .u16, .none, .rw, .rw, .s, 50321⟩,
    -- PLCA settings under R501
    ⟨0x1020, 0, 1, 5, 5, .u8, .none, .rw, .rw, .s, 8⟩,
    -- PLCA settings under R501
    ⟨0x1020, 0, 1, 6, 6, .u8, .none, .rw, .rw, .s, 32⟩,
    -- PLCA settings under R501
    ⟨0x1020, 0, 1, 7, 7, .u8, .none, .rw, .rw, .s, 0⟩,
    -- PLCA settings under R501
    ⟨0x1020, 0, 1, 8, 8, .u8, .none, .rw, .rw, .s, 128⟩,
    -- open sessions on P0–P3, T1S, SPI
    ⟨0x1040, 0, 1, 1, 6, .u8, .ro, .ro, .ro, .none, 0⟩,
    -- authentication failures; stale sequence numbers; format errors
    ⟨0x1050, 0, 1, 1, 3, .u64, .none, .ro, .ro, .none, 0⟩,
    -- epoch; global digest, 32 bytes
    ⟨0x2f10, 0, 1, 1, 1, .u64, .ro, .ro, .ro, .none, 0⟩
  ]

/-- Object tables, part 6. -/
def objRows6 : List ObjRow :=
  [
    -- epoch; global digest, 32 bytes
    ⟨0x2f10, 0, 1, 2, 2, .domain, .ro, .ro, .ro, .none, 0⟩,
    -- digest of Tn's scope, 32 bytes; own tenant only
    ⟨0x2f11, 1, 4, 1, 1, .domain, .ro, .ro, .ro, .none, 0⟩,
    -- CRCs of clusters 0–7; persistent mismatches
    ⟨0x2f20, 0, 1, 1, 9, .u64, .none, .ro, .ro, .none, 0⟩,
    -- event log under R497, oldest first
    ⟨0xe000, 0, 1, 1, 1, .domain, .ro, .ro, .ro, .none, 0⟩,
    -- entries written
    ⟨0xe000, 0, 1, 2, 2, .u64, .ro, .ro, .ro, .none, 0⟩,
    -- status of bank b; tenant reads show entitled sources only
    ⟨0xe010, 1, 8, 1, 1, .u32, .ro, .ro, .ro, .none, 0⟩,
    -- sticky flags of the caller's destination; a write of 1 clears
    ⟨0xe010, 1, 8, 2, 2, .u32, .rw, .rw, .rw, .none, 0⟩,
    -- enables of the caller's destination
    ⟨0xe010, 1, 8, 3, 3, .u32, .rw, .rw, .rw, .s, 0⟩,
    -- 32 repeat counts of the caller's destination
    ⟨0xe010, 1, 8, 4, 4, .domain, .ro, .ro, .ro, .none, 0⟩,
    -- device-wide statistics counters under R500
    ⟨0xe100, 1, 256, 1, 1, .u64, .none, .rw, .rw, .none, 0⟩,
    -- request: target, wake-to, submit
    ⟨0xb100, 0, 1, 1, 2, .u8, .none, .wo, .wo, .none, 0⟩,
    -- request: target, wake-to, submit
    ⟨0xb100, 0, 1, 3, 3, .bool, .none, .wo, .wo, .none, 0⟩,
    -- state; last request status; queued target, 0xFF none; level
    ⟨0xb101, 0, 1, 1, 4, .u8, .ro, .ro, .ro, .none, 0⟩,
    -- wake enables, AON_WAKE_EN layout; WAKE_POL
    ⟨0xb102, 0, 1, 1, 1, .u8, .none, .rw, .rw, .s, 6⟩,
    -- wake enables, AON_WAKE_EN layout; WAKE_POL
    ⟨0xb102, 0, 1, 2, 2, .bool, .none, .rw, .rw, .s, 1⟩,
    -- last-wake record: source, from, entry abandoned, RTC
    ⟨0xb103, 0, 1, 1, 2, .u8, .ro, .ro, .ro, .none, 0⟩,
    -- last-wake record: source, from, entry abandoned, RTC
    ⟨0xb103, 0, 1, 3, 3, .bool, .ro, .ro, .ro, .none, 0⟩,
    -- last-wake record: source, from, entry abandoned, RTC
    ⟨0xb103, 0, 1, 4, 4, .u64, .ro, .ro, .ro, .none, 0⟩,
    -- RTC alarm; 0 disables
    ⟨0xb104, 0, 1, 1, 1, .u64, .none, .rw, .rw, .s, 0⟩,
    -- THM_LOW, THM_HIGH, °C
    ⟨0xb105, 0, 1, 1, 1, .i8, .none, .rw, .rw, .s, 226⟩,
    -- THM_LOW, THM_HIGH, °C
    ⟨0xb105, 0, 1, 2, 2, .i8, .none, .rw, .rw, .s, 100⟩,
    -- AUTO_STORE; LOCK_WAIT, s
    ⟨0xb106, 0, 1, 1, 1, .bool, .none, .rw, .rw, .s, 1⟩,
    -- AUTO_STORE; LOCK_WAIT, s
    ⟨0xb106, 0, 1, 2, 2, .u16, .none, .rw, .rw, .s, 60⟩,
    -- wakes by source 1–8
    ⟨0xb107, 0, 1, 1, 8, .u64, .none, .ro, .ro, .none, 0⟩,
    -- receiver enable, frequency in kHz, wake ID
    ⟨0xb110, 0, 1, 1, 1, .bool, .none, .rw, .rw, .s, 0⟩,
    -- receiver enable, frequency in kHz, wake ID
    ⟨0xb110, 0, 1, 2, 2, .u32, .none, .rw, .rw, .s, 868000⟩,
    -- receiver enable, frequency in kHz, wake ID
    ⟨0xb110, 0, 1, 3, 3, .u32, .none, .rw, .rw, .s, 0⟩,
    -- accepted frames, replays, bad tags, wrong IDs, no sync, debug wake words rejected
    ⟨0xb111, 0, 1, 1, 6, .u64, .none, .ro, .ro, .none, 0⟩,
    -- T_throttle in 0.01 °C; POLICY
    ⟨0xb000, 0, 1, 1, 1, .i16, .ro, .rw, .rw, .s, 10500⟩,
    -- T_throttle in 0.01 °C; POLICY
    ⟨0xb000, 0, 1, 2, 2, .u8, .ro, .rw, .rw, .s, 0⟩,
    -- HEAT_MAX in 0.01 °C; FAN_WDOG in s
    ⟨0xb000, 0, 1, 3, 3, .i16, .none, .rw, .rw, .s, 1000⟩,
    -- HEAT_MAX in 0.01 °C; FAN_WDOG in s
    ⟨0xb000, 0, 1, 4, 4, .u8, .none, .rw, .rw, .s, 10⟩,
    -- T_die in 1/64 °C; level; hottest sensor; broken sensors
    ⟨0xb001, 0, 1, 1, 1, .i16, .ro, .ro, .ro, .none, 0⟩,
    -- T_die in 1/64 °C; level; hottest sensor; broken sensors
    ⟨0xb001, 0, 1, 2, 4, .u8, .ro, .ro, .ro, .none, 0⟩,
    -- declared ambient, 0.01 °C
    ⟨0xb010, 0, 1, 1, 1, .i16, .ro, .rws, .rws, .l, 5500⟩,
    -- declared θ_JA, 0.001 °C/W, 1–65,535; a write of 0 receives RANGE
    ⟨0xb011, 0, 1, 1, 1, .u16, .ro, .rws, .rws, .l, 450⟩,
    -- channel c, BDAC_CHc_CFG layout
    ⟨0xb200, 1, 128, 1, 1, .u64, .none, .rws, .rws, .f, 0⟩,
    -- CODE; present output code
    ⟨0xb200, 1, 128, 2, 2, .u16, .none, .rw, .rw, .none, 0⟩,
    -- CODE; present output code
    ⟨0xb200, 1, 128, 3, 3, .u16, .none, .ro, .ro, .none, 0⟩,
    -- SAFE, PINCH, RANGE; STORE writes them to NV
    ⟨0xb200, 1, 128, 4, 5, .u16, .none, .ro, .rw, .none, 0⟩
  ]

/-- Object tables, part 7. -/
def objRows7 : List ObjRow :=
  [
    -- SAFE, PINCH, RANGE; STORE writes them to NV
    ⟨0xb200, 1, 128, 6, 6, .bool, .none, .ro, .rw, .none, 0⟩,
    -- strobe mask
    ⟨0xb300, 0, 1, 1, 1, .u8, .none, .wo, .wo, .none, 0⟩,
    -- BDAC_LDAC layout; BDAC_STAT layout
    ⟨0xb300, 0, 1, 2, 2, .u32, .none, .rw, .rw, .s, 65280⟩,
    -- BDAC_LDAC layout; BDAC_STAT layout
    ⟨0xb300, 0, 1, 3, 3, .u32, .none, .ro, .ro, .s, 0⟩,
    -- drain requests; drain status
    ⟨0xb301, 0, 1, 1, 1, .u64, .none, .rw, .rw, .none, 0⟩,
    -- drain requests; drain status
    ⟨0xb301, 0, 1, 2, 2, .u64, .none, .ro, .ro, .none, 0⟩,
    -- latched faults; a write of 1 clears
    ⟨0xb301, 0, 1, 3, 3, .u64, .none, .rw, .rw, .none, 0⟩,
    -- MONm_CTRL layout; 16 entries of MONm_SEQi
    ⟨0xb400, 1, 2, 1, 1, .u32, .none, .rw, .rw, .s, 0⟩,
    -- MONm_CTRL layout; 16 entries of MONm_SEQi
    ⟨0xb400, 1, 2, 2, 2, .domain, .none, .rw, .rw, .s, 0⟩,
    -- 16 windows; DATA; trigger
    ⟨0xb400, 1, 2, 3, 3, .domain, .none, .rw, .rw, .s, 0⟩,
    -- 16 windows; DATA; trigger
    ⟨0xb400, 1, 2, 4, 4, .u64, .none, .ro, .ro, .none, 0⟩,
    -- 16 windows; DATA; trigger
    ⟨0xb400, 1, 2, 5, 5, .bool, .none, .wo, .wo, .none, 0⟩,
    -- MON_SHARED layout
    ⟨0xb410, 0, 1, 1, 1, .u64, .none, .rw, .rw, .s, 65538593⟩,
    -- THM_AMPa_CFG, THM_AMPa_SCL layouts
    ⟨0xb500, 1, 64, 1, 1, .u64, .none, .rw, .rw, .s, 2702159776489406464⟩,
    -- THM_AMPa_CFG, THM_AMPa_SCL layouts
    ⟨0xb500, 1, 64, 2, 2, .u64, .none, .rw, .rw, .s, 0⟩,
    -- reported value; STATE; neighbour list
    ⟨0xb600, 1, 96, 1, 1, .i16, .ro, .ro, .ro, .none, 0⟩,
    -- reported value; STATE; neighbour list
    ⟨0xb600, 1, 96, 2, 2, .u8, .ro, .ro, .ro, .none, 0⟩,
    -- reported value; STATE; neighbour list
    ⟨0xb600, 1, 96, 3, 3, .domain, .ro, .ro, .ro, .none, 0⟩,
    -- THM_PWMn_CFG layout; DUTY
    ⟨0xb700, 1, 4, 1, 1, .u64, .none, .rw, .rw, .s, 17179852800⟩,
    -- THM_PWMn_CFG layout; DUTY
    ⟨0xb700, 1, 4, 2, 2, .u16, .none, .rw, .rw, .s, 0⟩,
    -- fan speed, revolutions per minute
    ⟨0xb700, 1, 4, 3, 3, .u32, .none, .ro, .ro, .none, 0⟩,
    -- per path, item 0x3e: T_MOD of amplifier p, 1/64 °C
    ⟨0x803e, 0x40, 64, 1, 1, .i16, .ro, .ro, .ro, .none, 0⟩,
    -- per path, item 0x3f: latest drain current, mA
    ⟨0x803f, 0x40, 64, 1, 1, .u16, .none, .ro, .ro, .none, 0⟩,
    -- lifecycle state
    ⟨0xc000, 0, 1, 1, 1, .u8, .ro, .ro, .ro, .none, 0⟩,
    -- transition token under R571
    ⟨0xc000, 0, 1, 2, 2, .domain, .none, .wo, .wo, .none, 0⟩,
    -- REENTRY
    ⟨0xc000, 0, 1, 3, 3, .u8, .none, .ro, .ro, .none, 0⟩,
    -- identity public key, 97 bytes
    ⟨0xc010, 0, 1, 1, 1, .domain, .ro, .ro, .ro, .none, 0⟩,
    -- SHA-384 of the vendor root and operator roots 1, 2
    ⟨0xc011, 0, 1, 1, 3, .domain, .ro, .ro, .ro, .none, 0⟩,
    -- root states, SEC_ROOTSTAT layout
    ⟨0xc011, 0, 1, 4, 4, .u8, .ro, .ro, .ro, .none, 0⟩,
    -- root record under R579
    ⟨0xc012, 0, 1, 1, 1, .domain, .none, .wo, .none, .none, 0⟩,
    -- attestation nonce; report under R585
    ⟨0xc020, 0, 1, 1, 1, .domain, .wo, .wo, .wo, .none, 0⟩,
    -- attestation nonce; report under R585
    ⟨0xc020, 0, 1, 2, 2, .domain, .ro, .ro, .ro, .none, 0⟩,
    -- key envelope of slot k, k = 1–12, under R576
    ⟨0xc030, 1, 13, 1, 1, .domain, .none, .wo, .wo, .none, 0⟩,
    -- slots held, SEC_KEYSTAT layout
    ⟨0xc040, 0, 1, 1, 1, .u32, .none, .ro, .ro, .none, 0⟩,
    -- generation of slots 1–12
    ⟨0xc040, 0, 1, 2, 13, .u32, .none, .ro, .ro, .none, 0⟩,
    -- debug level; SUSP in bit 7, SUSP_LEVEL in bits 5–4
    ⟨0xc050, 0, 1, 1, 2, .u8, .ro, .ro, .ro, .none, 0⟩,
    -- CHAL_ID U32 and challenge
    ⟨0xc050, 0, 1, 3, 3, .domain, .none, .ro, .ro, .none, 0⟩,
    -- debug response under R590
    ⟨0xc050, 0, 1, 4, 4, .domain, .none, .wo, .wo, .none, 0⟩,
    -- end the session
    ⟨0xc050, 0, 1, 5, 5, .bool, .none, .wo, .wo, .none, 0⟩,
    -- authentication failures
    ⟨0xc050, 0, 1, 6, 6, .u64, .none, .ro, .ro, .none, 0⟩
  ]

/-- Object tables, part 8. -/
def objRows8 : List ObjRow :=
  [
    -- debug tunnel list
    ⟨0xc060, 0, 1, 1, 1, .domain, .none, .rw, .rw, .none, 0⟩,
    -- minimum VERSION of security firmware, policy firmware, then KERNEL_ID and VERSION pairs
    ⟨0xc070, 0, 1, 1, 1, .domain, .none, .ro, .ro, .none, 0⟩,
    -- raise the firmware minimums under R584
    ⟨0xc070, 0, 1, 2, 2, .bool, .none, .wo, .none, .none, 0⟩,
    -- SEC_BOOT layout
    ⟨0xc080, 0, 1, 1, 1, .u32, .ro, .ro, .ro, .none, 0⟩,
    -- summary under R622
    ⟨0xd000, 0, 1, 1, 1, .u8, .ro, .ro, .ro, .none, 64⟩,
    -- summary under R622
    ⟨0xd000, 0, 1, 2, 2, .i16, .ro, .ro, .ro, .none, 0⟩,
    -- summary under R622
    ⟨0xd000, 0, 1, 3, 4, .u16, .ro, .ro, .ro, .none, 0⟩,
    -- summary under R622
    ⟨0xd000, 0, 1, 5, 5, .u32, .ro, .ro, .ro, .none, 4294967295⟩,
    -- summary under R622
    ⟨0xd000, 0, 1, 6, 6, .u64, .ro, .ro, .ro, .none, 0⟩,
    -- HORIZON, hours
    ⟨0xd001, 0, 1, 1, 1, .u32, .none, .rw, .rw, .s, 17520⟩,
    -- retire engine 0–17
    ⟨0xd130, 0, 1, 1, 1, .u8, .none, .none, .wo, .none, 0⟩,
    -- standby image under R613; OBJECT_RESULT 0x10–0x13
    ⟨0xd200, 0, 1, 1, 1, .domain, .none, .wo, .wo, .none, 0⟩,
    -- hand-over: boundary, tick, submit
    ⟨0xd201, 0, 1, 1, 1, .u8, .none, .wo, .wo, .none, 0⟩,
    -- hand-over: boundary, tick, submit
    ⟨0xd201, 0, 1, 2, 2, .time64, .none, .wo, .wo, .none, 0⟩,
    -- hand-over: boundary, tick, submit
    ⟨0xd201, 0, 1, 3, 3, .bool, .none, .wo, .wo, .none, 0⟩,
    -- active slot; standby state; hand-over state; result, CTL_FW_STAT encodings
    ⟨0xd202, 0, 1, 1, 4, .u8, .ro, .ro, .ro, .none, 0⟩,
    -- PROB_S, seconds, 1–600
    ⟨0xd202, 0, 1, 5, 5, .u16, .none, .rw, .rw, .s, 10⟩,
    -- 378 records of 8 bytes: INITIAL U8, LEFT U8, uses U16, F U32 in hours (0xFFFF_FFFF undefined)
    ⟨0xd300, 0, 1, 1, 1, .domain, .none, .ro, .ro, .none, 0⟩,
    -- total, STORE, learning and other word writes; highest word count
    ⟨0xd400, 0, 1, 1, 4, .u64, .none, .ro, .ro, .none, 0⟩,
    -- total, STORE, learning and other word writes; highest word count
    ⟨0xd400, 0, 1, 5, 5, .u32, .none, .ro, .ro, .none, 0⟩,
    -- life used, 0.01 %
    ⟨0xd400, 0, 1, 6, 6, .u16, .none, .ro, .ro, .none, 0⟩,
    -- PHASE, CODE, ms from the start of the last boot to DOZE
    ⟨0x1060, 0, 1, 1, 2, .u8, .ro, .ro, .ro, .none, 0⟩,
    -- PHASE, CODE, ms from the start of the last boot to DOZE
    ⟨0x1060, 0, 1, 3, 3, .u32, .ro, .ro, .ro, .none, 0⟩,
    -- loader images under R635; loader phase only
    ⟨0x1070, 0, 1, 1, 2, .domain, .none, .none, .none, .none, 0⟩,
    -- VTARGET, VMEAS in mV
    ⟨0xb020, 0, 1, 1, 1, .u16, .none, .ro, .ro, .none, 750⟩,
    -- VTARGET, VMEAS in mV
    ⟨0xb020, 0, 1, 2, 2, .u16, .none, .ro, .ro, .none, 0⟩,
    -- cold-start target: 0 RUN, 1 SLOTGATE, 2 DOZE
    ⟨0xb108, 0, 1, 1, 1, .u8, .none, .rw, .rw, .s, 0⟩
  ]

/-- Object 0x2F00, the result of admission (R654): its table stands in the rule. -/
def objRowsAdm : List ObjRow :=
  [ ⟨0x2f00, 0, 1, 1, 1, .u8, .ro, .ro, .ro, .none, 0⟩,
    ⟨0x2f00, 0, 1, 2, 2, .u16, .ro, .ro, .ro, .none, 0⟩,
    ⟨0x2f00, 0, 1, 3, 7, .u64, .ro, .ro, .ro, .none, 0⟩ ]

/-- Every row of the dictionary. -/
def objRows : List ObjRow := objRowsAdm ++ objRows1 ++ objRows2 ++ objRows3 ++ objRows4 ++ objRows5 ++ objRows6 ++ objRows7 ++ objRows8

/-- Whether a row holds the object at an index. -/
def ObjRow.hasIndex (r : ObjRow) (index : Nat) : Bool :=
  r.base ≤ index && (if r.stride = 0 then index = r.base
    else (index - r.base) % r.stride = 0 && (index - r.base) / r.stride < r.count)

/-- Which of the row's objects an index is. -/
def ObjRow.pos (r : ObjRow) (index : Nat) : Nat := if r.stride = 0 then 0 else (index - r.base) / r.stride

/-- The row of an object; none where the index or the sub-index is not defined. -/
def objRow (index sub : Nat) : Option ObjRow :=
  objRows.find? (fun r => r.hasIndex index && decide (r.sub0 ≤ sub) && decide (sub ≤ r.sub1))

/-- Whether any object has this index. -/
def objIndexDefined (index : Nat) : Bool := objRows.any (·.hasIndex index)

/-- Sub-index 0 of R469: the highest sub-index in use of an index. -/
def objHighestSub (index : Nat) : Nat :=
  (objRows.filter (·.hasIndex index)).foldl (fun m r => max m r.sub1) 0

/-- Bytes of a value of a type (R470); STRING and DOMAIN values carry their own length. -/
def OTy.bytes : OTy → Nat
  | .bool | .u8 | .i8 => 1
  | .u16 | .i16 | .q15 => 2
  | .u32 | .i32 | .q31 | .f32 => 4
  | .u64 | .i64 | .time64 => 8
  | .string | .domain => 0

/-- The type codes of R470. -/
def OTy.code : OTy → Nat
  | .bool => 0x01 | .u8 => 0x02 | .u16 => 0x03 | .u32 => 0x04 | .u64 => 0x05
  | .i8 => 0x06 | .i16 => 0x07 | .i32 => 0x08 | .i64 => 0x09 | .q15 => 0x0A
  | .q31 => 0x0B | .f32 => 0x0C | .time64 => 0x0D | .string => 0x0E | .domain => 0x0F

end Sys2Proof.Machine
end

