-- ==== Sys2Proof/Machine/RegMap.lean ====
section
/-! DEFINITION. The register map of the device: the register tables and field tables of the chapters
(02 to 18 of spec/), one row per register family, with the global address of R33.
Every index of a family (cluster, lane, carrier, ring ...) is one dimension: a stride and a count. -/

namespace Sys2Proof.Machine

/-- The access codes of R5. -/
inductive Acc where
  | ro | rw | w1c | w1s | wo | rws
deriving DecidableEq, Repr

/-- One register family of the map.  The constructor's docstring gives the manual's name. -/
inductive RegId where
  /-- TL_ID: block identity and revision (02_timeline_and_admission.md). -/
  | tlId
  /-- TL_CTRL: run control (02_timeline_and_admission.md). -/
  | tlCtrl
  /-- TL_STATUS: state (02_timeline_and_admission.md). -/
  | tlStatus
  /-- TL_NOW_LO: counter [31:0]; a read latches [63:32] (02_timeline_and_admission.md). -/
  | tlNowLo
  /-- TL_NOW_HI: counter [63:32] latched by the last TL_NOW_LO read (02_timeline_and_admission.md). -/
  | tlNowHi
  /-- TL_FRAME_OFS: frame offset in ticks, 0 to 4,915,199 (02_timeline_and_admission.md). -/
  | tlFrameOfs
  /-- TL_PATTERN_CFG: pattern configuration (02_timeline_and_admission.md). -/
  | tlPatternCfg
  /-- TL_GUARD_OVR: guard overruns under R51, saturating at 0xFFFF_FFFF (02_timeline_and_admission.md). -/
  | tlGuardOvr
  /-- TL_EVT_DROP: events discarded under R50, saturating (02_timeline_and_admission.md). -/
  | tlEvtDrop
  /-- TL_PATn: pattern entries (02_timeline_and_admission.md). -/
  | tlPat
  /-- TL_EVTn: event entries, 64 bits each (02_timeline_and_admission.md). -/
  | tlEvt
  /-- LO_ID: block identity and revision (03_rf_paths_and_lo.md). -/
  | loId
  /-- LO_TREE: trunk sources and band; both trunks on SYN0, low band (03_rf_paths_and_lo.md). -/
  | loTree
  /-- LO_STATUS: serving synthesisers (03_rf_paths_and_lo.md). -/
  | loStatus
  /-- LO_FORCE: forced retune request (03_rf_paths_and_lo.md). -/
  | loForce
  /-- LO_SYNn_CTRL: enable (03_rf_paths_and_lo.md). -/
  | loSynCtrl
  /-- LO_SYNn_STATUS: state (03_rf_paths_and_lo.md). -/
  | loSynStatus
  /-- LO_SYNn_UNLOCKS: lock losses, saturating at 0xFFFF_FFFF; a write of 1 clears it (03_rf_paths_and_lo.md). -/
  | loSynUnlocks
  /-- LO_SYNn_PREk: preset k, k = 0–15 (03_rf_paths_and_lo.md). -/
  | loSynPre
  /-- PCc_FE_CTRL: serial engine control (03_rf_paths_and_lo.md). -/
  | feCtrl
  /-- PCc_FE_LISTi: list entry i, i = 0–1,023, under R122 (03_rf_paths_and_lo.md). -/
  | feList
  /-- PCc_Lk_FE_STAT: pin and bus status (03_rf_paths_and_lo.md). -/
  | feStat
  /-- PCc_Lk_FE_WDATA: per-path write bytes 0–7, byte 0 in [7:0] (03_rf_paths_and_lo.md). -/
  | feWdata
  /-- PCc_Lk_FE_RDATA: last read bytes, byte 0 in [7:0] (03_rf_paths_and_lo.md). -/
  | feRdata
  /-- PCc_Lk_FE_SAFE: safe levels in effect (03_rf_paths_and_lo.md). -/
  | feSafe
  /-- PCc_Lk_ADC_CTRL: rotation control (04_converters.md). -/
  | adcCtrl
  /-- PCc_Lk_ADC_STAT: slice status (04_converters.md). -/
  | adcStat
  /-- PCc_Lk_ADC_MAPI: I converter slice map (04_converters.md). -/
  | adcMapi
  /-- PCc_Lk_ADC_MAPQ: Q converter slice map (04_converters.md). -/
  | adcMapq
  /-- PCc_Lk_DAC_STAT: cell status (04_converters.md). -/
  | dacStat
  /-- PCc_Lk_OBS_CTRL: observation attenuator (04_converters.md). -/
  | obsCtrl
  /-- PCc_Lk_OBS_LD: loop delay (04_converters.md). -/
  | obsLd
  /-- PCc_Lk_ADC_OVR: overrange samples, saturating at 0xFFFF_FFFF; a write of 1 clears it (04_converters.md). -/
  | adcOvr
  /-- PCc_ORX_CTRL: ORX control (c even) (04_converters.md). -/
  | orxCtrl
  /-- PCc_ORX_STAT: ORX status (c even) (04_converters.md). -/
  | orxStat
  /-- PCc_ORX_DROP: visits dropped under R153, saturating; a write of 1 clears it (04_converters.md). -/
  | orxDrop
  /-- PCc_CAP_DESCi: buffer table entry i, i = 0–255 (04_converters.md). -/
  | capDesc
  /-- PCc_CAP_STATi: status record of entry i (04_converters.md). -/
  | capStat
  /-- PCc_CAP_REL: buffer release (04_converters.md). -/
  | capRel
  /-- PCc_Lk_RXG_CTRL: gain control (05_receive_chain.md). -/
  | rxgCtrl
  /-- PCc_Lk_RXG_STAT: gain state and fast path (05_receive_chain.md). -/
  | rxgStat
  /-- PCc_Lk_RXG_CNT: attack and bypass counts (05_receive_chain.md). -/
  | rxgCnt
  /-- PCc_Lk_RX_STAT: lane state (05_receive_chain.md). -/
  | rxStat
  /-- PCc_Lk_RX_SAT: saturations, saturating at 0xFFFF_FFFF; a write of 1 clears it (05_receive_chain.md). -/
  | rxSat
  /-- PCc_Lk_CHn_CFG: channel n (05_receive_chain.md). -/
  | chCfg
  /-- PCc_Lk_CHn_SH: stage shifts (05_receive_chain.md). -/
  | chSh
  /-- PCc_Lk_CHn_TAPS: tap counts (05_receive_chain.md). -/
  | chTaps
  /-- PCc_Lk_CHn_FFT: FFT and window (05_receive_chain.md). -/
  | chFft
  /-- PCc_Lk_PRCHj: PRACH extractor j, j = 0–3 (05_receive_chain.md). -/
  | prch
  /-- PCc_Lk_COEFn_i: coefficient i of channel n, i = 0–175 (05_receive_chain.md). -/
  | coef
  /-- PCc_LANE_MAP: lane map (05_receive_chain.md). -/
  | laneMap
  /-- PCc_MOVE: move request (05_receive_chain.md). -/
  | laneMoveReq
  /-- PCc_MOVE_STAT: move status (05_receive_chain.md). -/
  | moveStat
  /-- PCc_PRCH_OCCj_m: occasion m of extractor j, m = 0–15 (05_receive_chain.md). -/
  | prchOcc
  /-- PCc_Lk_TXA: transmit attenuator (06_transmit_chain.md). -/
  | txa
  /-- PCc_Lk_TX_STAT: transmit state (06_transmit_chain.md). -/
  | txStat
  /-- PCc_Lk_TX_LIMCNT: carrier-limiter scalings, saturating at 0xFFFF_FFFF; a write of 1 clears it (06_transmit_chain.md). -/
  | txLimcnt
  /-- PCc_Lk_TX_MISS: symbols with late REs under R211, saturating; a write of 1 clears it (06_transmit_chain.md). -/
  | txMiss
  /-- PCc_Lk_TX_CLIP: clipped samples, saturating; a write of 1 clears it (06_transmit_chain.md). -/
  | txClip
  /-- PCc_Lk_TX_SAT: saturations, saturating; a write of 1 clears it (06_transmit_chain.md). -/
  | txSat
  /-- PCc_Lk_CFR_MISS: uncancelled peaks, saturating; a write of 1 clears it (06_transmit_chain.md). -/
  | cfrMiss
  /-- PCc_Lk_TXCHn_CFG: channel n (06_transmit_chain.md). -/
  | txchCfg
  /-- PCc_Lk_TXCHn_SH: stage shifts (06_transmit_chain.md). -/
  | txchSh
  /-- PCc_Lk_TXCHn_TAPS: tap counts (06_transmit_chain.md). -/
  | txchTaps
  /-- PCc_Lk_TXCHn_RUN: gain and latency in force (06_transmit_chain.md). -/
  | txchRun
  /-- PCc_Lk_CFR_CTRL: CFR and limiter (06_transmit_chain.md). -/
  | cfrCtrl
  /-- PCc_Lk_CFR_STAT: CFR state (06_transmit_chain.md). -/
  | cfrStat
  /-- PCc_Lk_TXCOEFn_i: coefficient i of channel n, i = 0–175 (06_transmit_chain.md). -/
  | txcoef
  /-- BF_ID: block identity and revision (07_beamforming.md). -/
  | bfId
  /-- BF_TILE_MAP: tile map, PCc_Lk_ADC_MAPI layout (07_beamforming.md). -/
  | bfTileMap
  /-- BF_TILE_STAT: tile states (07_beamforming.md). -/
  | bfTileStat
  /-- BF_ELEM_MASK: bit p: path p masked (07_beamforming.md). -/
  | bfElemMask
  /-- BF_HEAL_STAT: erg repair state (07_beamforming.md). -/
  | bfHealStat
  /-- BF_HEAL_CMD: declare or clear (07_beamforming.md). -/
  | bfHealCmd
  /-- BF_SAT: saturations, saturating; a write of 1 clears it (07_beamforming.md). -/
  | bfSat
  /-- BF_BEAM_ERR: beam code errors, saturating; a write of 1 clears it (07_beamforming.md). -/
  | bfBeamErr
  /-- BF_NULL_VEC: null vectors, saturating; a write of 1 clears it (07_beamforming.md). -/
  | bfNullVec
  /-- BF_WREJ: dropped blocks, saturating; a write of 1 clears it (07_beamforming.md). -/
  | bfWrej
  /-- BF_CCn_CFG: carrier configuration (07_beamforming.md). -/
  | bfCcCfg
  /-- BF_CCn_CBBASE: codebook base [39:0] (07_beamforming.md). -/
  | bfCcCbbase
  /-- BF_CCn_DLA: DL set bases [39:0] (07_beamforming.md). -/
  | bfCcDla
  /-- BF_CCn_DLB: DL set bases [39:0] (07_beamforming.md). -/
  | bfCcDlb
  /-- BF_CCn_ULA: UL set bases [39:0] (07_beamforming.md). -/
  | bfCcUla
  /-- BF_CCn_ULB: UL set bases [39:0] (07_beamforming.md). -/
  | bfCcUlb
  /-- BF_CCn_SET: current sets (07_beamforming.md). -/
  | bfCcSet
  /-- BF_CCn_COLL: collisions: DL [15:0], UL [31:16], saturating; a write of 1 to bit 0 or bit 16 clears that field (07_beamforming.md). -/
  | bfCcColl
  /-- BF_CCn_SPLIT: split blocks, COLL layout (07_beamforming.md). -/
  | bfCcSplit
  /-- BF_CCn_ULDEFq: UL default codes of layers 4q to 4q + 3, 16 bits each, q = 0–3 (07_beamforming.md). -/
  | bfCcUldef
  /-- BF_PRBj_m: beam m of extractor j, m = 0–15 (07_beamforming.md). -/
  | bfPrb
  /-- BF_PRBj_CFG: extractor j combining (07_beamforming.md). -/
  | bfPrbCfg
  /-- PCc_Lk_DPD_CTRL: enable, structure flags, ramp and probation (08_predistortion.md). -/
  | dpdCtrl
  /-- PCc_Lk_DPD_TAPS: taps, lags, cross delay (08_predistortion.md). -/
  | dpdTaps
  /-- PCc_Lk_DPD_NB: neighbours (08_predistortion.md). -/
  | dpdNb
  /-- PCc_Lk_DPD_LIM: limits and thresholds (08_predistortion.md). -/
  | dpdLim
  /-- PCc_Lk_DPD_THM0: thermal poles 0 and 1 (08_predistortion.md). -/
  | dpdThm0
  /-- PCc_Lk_DPD_THM1: pole 1 resistance, drain model (08_predistortion.md). -/
  | dpdThm1
  /-- PCc_Lk_DPD_THM2: output-power correction (08_predistortion.md). -/
  | dpdThm2
  /-- PCc_Lk_DPD_STAT: state and errors (08_predistortion.md). -/
  | dpdStat
  /-- PCc_Lk_DPD_THETA: thermal state (08_predistortion.md). -/
  | dpdTheta
  /-- PCc_Lk_DPD_HO: hand-over request (08_predistortion.md). -/
  | dpdHo
  /-- PCc_Lk_DPD_CLAMP: clamped samples, saturating at 0xFFFF_FFFF; a write of 1 clears it (08_predistortion.md). -/
  | dpdClamp
  /-- PCc_Lk_DPD_WREJ: rejected bank writes, saturating; a write of 1 clears it (08_predistortion.md). -/
  | dpdWrej
  /-- PCc_Lk_DPD_BANKb: coefficient bank b, b = 0–1, under R278 (08_predistortion.md). -/
  | dpdBank
  /-- DPD_ID: block identity and revision (08_predistortion.md). -/
  | dpdId
  /-- DPD_DISP_CTRL: dispatcher control (08_predistortion.md). -/
  | dpdDispCtrl
  /-- DPD_REQ: bit p: request adaptation of path p (08_predistortion.md). -/
  | dpdReq
  /-- DPD_PEND: bit p: path p pending (08_predistortion.md). -/
  | dpdPend
  /-- DPD_STALE: bit p: stale flag of path p (08_predistortion.md). -/
  | dpdStale
  /-- DPD_DISP_STAT: dispatcher state (08_predistortion.md). -/
  | dpdDispStat
  /-- GE_DMEM: data memory, 256 KiB (09_gulas_engines.md). -/
  | geDmem
  /-- GE_PMEM: program memory, 64 KiB, under R336 (09_gulas_engines.md). -/
  | gePmem
  /-- GE_ID: block identity and revision (09_gulas_engines.md). -/
  | geId
  /-- GE_STAT: engine state (09_gulas_engines.md). -/
  | geStat
  /-- GE_PC: next bundle address, kernel-relative; valid while HALTED (09_gulas_engines.md). -/
  | gePc
  /-- GE_CYC: running cycles since power-up (09_gulas_engines.md). -/
  | geCyc
  /-- GE_POST: job post under R326 (09_gulas_engines.md). -/
  | gePost
  /-- GE_POST_STAT: queue state (09_gulas_engines.md). -/
  | gePostStat
  /-- GE_CPL: completion record; a read pops it (09_gulas_engines.md). -/
  | geCpl
  /-- GE_DOORBELL: doorbell (09_gulas_engines.md). -/
  | geDoorbell
  /-- GE_ECC: corrected ECC errors, saturating at 0xFFFF_FFFF; a write of 1 clears it (09_gulas_engines.md). -/
  | geEcc
  /-- GE_KTABs: kernel slot s, s = 0–15 (09_gulas_engines.md). -/
  | geKtab
  /-- GE_RELr: release entry r, r = 0–7 (09_gulas_engines.md). -/
  | geRel
  /-- CAL_ID: block identity and revision (10_calibration.md). -/
  | calId
  /-- CAL_CTRL: CALTX level and enables (10_calibration.md). -/
  | calCtrl
  /-- CAL_HRX: heart injection request (10_calibration.md). -/
  | calHrx
  /-- CAL_HRX_STAT: injection state (10_calibration.md). -/
  | calHrxStat
  /-- CAL_HRX_TICK: tick s of the last injection (10_calibration.md). -/
  | calHrxTick
  /-- CAL_XO: REFCLK and crystal offsets (10_calibration.md). -/
  | calXo
  /-- CAL_XO_STAT: crystal state (10_calibration.md). -/
  | calXoStat
  /-- CAL_CALRX_STAT: CALRX ADC status, PCc_Lk_ADC_STAT layout (10_calibration.md). -/
  | calCalrxStat
  /-- PCc_Lk_CAL_STAT: top-note state (10_calibration.md). -/
  | calStat
  /-- PCc_Lk_CAL_DC: DC corrections in force (10_calibration.md). -/
  | calDc
  /-- PCc_Lk_CAL_TRIM: gain trims in force (10_calibration.md). -/
  | calTrim
  /-- PCc_Lk_CAL_RAMP: ramp state (10_calibration.md). -/
  | calRamp
  /-- PCc_Lk_CAL_SKIP: skipped windows, saturating at 0xFFFF_FFFF; a write of 1 clears it (10_calibration.md). -/
  | calSkip
  /-- LNK_ID: block identity and revision (11_packet_link.md). -/
  | lnkId
  /-- LNK_LANE_MAP: logical to physical lanes, PCc_Lk_ADC_MAPI layout (11_packet_link.md). -/
  | lnkLaneMap
  /-- LNK_LANE_STAT: physical lane states (11_packet_link.md). -/
  | lnkLaneStat
  /-- LNK_PORTn_CFG: port n configuration (11_packet_link.md). -/
  | lnkPortCfg
  /-- LNK_PORTn_DA: destination address [47:0] (11_packet_link.md). -/
  | lnkPortDa
  /-- LNK_PORTn_STAT: port state (11_packet_link.md). -/
  | lnkPortStat
  /-- LNK_PORTn_LATE: late [15:0], early [31:16] sections, saturating; a write of 1 to bit 0 or bit 16 clears that field (11_packet_link.md). -/
  | lnkPortLate
  /-- LNK_PORTn_DROP: dropped messages, all causes, saturating at 0xFFFF_FFFF; a write of 1 clears it (11_packet_link.md). -/
  | lnkPortDrop
  /-- LNK_PORTn_MSEC: MACsec options (11_packet_link.md). -/
  | lnkPortMsec
  /-- LNK_CCn_WIN: downlink window of CCn (11_packet_link.md). -/
  | lnkCcWin
  /-- LNK_CCn_UL: uplink section plan of CCn (11_packet_link.md). -/
  | lnkCcUl
  /-- LNK_CCn_DL: downlink section plan of CCn under R657 (11_packet_link.md). -/
  | lnkCcDl
  /-- LNK_PTP_CFG: PTP configuration (11_packet_link.md). -/
  | lnkPtpCfg
  /-- LNK_PTP_STAT: PTP state (11_packet_link.md). -/
  | lnkPtpStat
  /-- LNK_PTP_LATn: timestamp adjustments of port n (11_packet_link.md). -/
  | lnkPtpLat
  /-- LNK_SYNCE_CFG: SyncE configuration (11_packet_link.md). -/
  | lnkSynceCfg
  /-- LNK_SYNCE_STAT: SyncE state (11_packet_link.md). -/
  | lnkSynceStat
  /-- LNK_PPS: PPS configuration (11_packet_link.md). -/
  | lnkPps
  /-- MEM_ID: block identity and revision (12_memory_dma_arbitration.md). -/
  | memId
  /-- MEM_CTRL: scrubber (12_memory_dma_arbitration.md). -/
  | memCtrl
  /-- MEM_PARTn: partition of Tn (12_memory_dma_arbitration.md). -/
  | memPart
  /-- MEM_PRIOq: port q, q = 0–45 (12_memory_dma_arbitration.md). -/
  | memPrio
  /-- MEM_HOLD_MASK: bit q: port q masked under R451; a write of 1 unmasks it (12_memory_dma_arbitration.md). -/
  | memHoldMask
  /-- MEM_LOCK: set request of the control cores (12_memory_dma_arbitration.md). -/
  | memLock
  /-- MEM_LOCK_STAT: set state (12_memory_dma_arbitration.md). -/
  | memLockStat
  /-- MEM_FAULT: last fault (12_memory_dma_arbitration.md). -/
  | memFault
  /-- MEM_BANKb_CTRL: freeze, physical bank b = 0–99 (12_memory_dma_arbitration.md). -/
  | memBankCtrl
  /-- MEM_BANKb_STAT: bank state (12_memory_dma_arbitration.md). -/
  | memBankStat
  /-- MEM_BANKb_CE: corrected errors, saturating at 0xFFFF_FFFF; a write of 1 clears it (12_memory_dma_arbitration.md). -/
  | memBankCe
  /-- MEM_BANKb_UE: poisoned words, saturating; a write of 1 clears it (12_memory_dma_arbitration.md). -/
  | memBankUe
  /-- DMA_CTRL: mover control (12_memory_dma_arbitration.md). -/
  | dmaCtrl
  /-- DMA_STAT: mover state (12_memory_dma_arbitration.md). -/
  | dmaStat
  /-- DMA_TRIG_DROP: triggers discarded under R455, saturating; a write of 1 clears it (12_memory_dma_arbitration.md). -/
  | dmaTrigDrop
  /-- DMA_RINGr_CFG: ring r configuration (12_memory_dma_arbitration.md). -/
  | dmaRingCfg
  /-- DMA_RINGr_BASE: BASE [39:0], 32-byte aligned (12_memory_dma_arbitration.md). -/
  | dmaRingBase
  /-- DMA_RINGr_STAT: ring state (12_memory_dma_arbitration.md). -/
  | dmaRingStat
  /-- DMA_RINGr_KICK: trigger (12_memory_dma_arbitration.md). -/
  | dmaRingKick
  /-- DMA_RINGr_GRANT: grant mask of R431 (12_memory_dma_arbitration.md). -/
  | dmaRingGrant
  /-- EVT_ID: block identity and revision (13_dictionary_and_events.md). -/
  | evtId
  /-- EVT_STATb: status of sources 32b to 32b + 31 (13_dictionary_and_events.md). -/
  | evtStat
  /-- EVT_ENd_b: enables of destination d (13_dictionary_and_events.md). -/
  | evtEn
  /-- EVT_STKd_b: sticky flags of destination d, under R494 (13_dictionary_and_events.md). -/
  | evtStk
  /-- EVT_ROUTEs: routing class of source s (13_dictionary_and_events.md). -/
  | evtRoute
  /-- EVT_RPTd_s: repeat count of source s at destination d (13_dictionary_and_events.md). -/
  | evtRpt
  /-- EVT_LOG_HEAD: entries written since power-up (13_dictionary_and_events.md). -/
  | evtLogHead
  /-- EVT_LOGi: log entry i, i = 0–1,023, under R497 (13_dictionary_and_events.md). -/
  | evtLog
  /-- T1S_CTRL: T1S port control (13_dictionary_and_events.md). -/
  | t1sCtrl
  /-- T1S_STAT: T1S port state (13_dictionary_and_events.md). -/
  | t1sStat
  /-- T1S_PLCA: PLCA settings (13_dictionary_and_events.md). -/
  | t1sPlca
  /-- PWR_ID: block identity and revision (14_power_states.md). -/
  | pwrId
  /-- PWR_REQ: request (14_power_states.md). -/
  | pwrReq
  /-- PWR_STAT: state (14_power_states.md). -/
  | pwrStat
  /-- PWR_REQ_STAT: request status (14_power_states.md). -/
  | pwrReqStat
  /-- PWR_CFG: AUTO_STORE, LOCK_WAIT (14_power_states.md). -/
  | pwrCfg
  /-- AON_WAKE_EN: wake enables (14_power_states.md). -/
  | aonWakeEn
  /-- AON_LASTWAKE: last-wake record (14_power_states.md). -/
  | aonLastwake
  /-- AON_RTC: RTC [47:0] (14_power_states.md). -/
  | aonRtc
  /-- AON_ALARM: RTC alarm (14_power_states.md). -/
  | aonAlarm
  /-- AON_THM: thermal alarm thresholds (14_power_states.md). -/
  | aonThm
  /-- AON_WCNTs: wakes by source s, s = 1–8, saturating at 0xFFFF_FFFF; a write of 1 clears it (14_power_states.md). -/
  | aonWcnt
  /-- WRX_CFG: wake receiver (14_power_states.md). -/
  | wrxCfg
  /-- WRX_ID: wake ID (14_power_states.md). -/
  | wrxId
  /-- WRX_LASTCNT: last accepted counter (14_power_states.md). -/
  | wrxLastcnt
  /-- WRX_STAT: receiver state (14_power_states.md). -/
  | wrxStat
  /-- WRX_CNTj: j = 0 accepted, 1 replays, 2 bad tags, 3 wrong IDs, 4 no sync; saturating; a write of 1 clears it (14_power_states.md). -/
  | wrxCnt
  /-- MON_ID: block identity and revision (15_housekeeping_bias_thermal.md). -/
  | monId
  /-- BDAC_STAT: supplies (15_housekeeping_bias_thermal.md). -/
  | bdacStat
  /-- BDAC_STROBE: command strobe (15_housekeeping_bias_thermal.md). -/
  | bdacStrobe
  /-- BDAC_LDAC: LDAC_N pin (15_housekeeping_bias_thermal.md). -/
  | bdacLdac
  /-- BDAC_DRN_REQ: bit a: drain request (15_housekeeping_bias_thermal.md). -/
  | bdacDrnReq
  /-- BDAC_DRN_STAT: bit a: DRN_ENa high (15_housekeeping_bias_thermal.md). -/
  | bdacDrnStat
  /-- BDAC_DRN_FAULT: bit a: fault latched (15_housekeeping_bias_thermal.md). -/
  | bdacDrnFault
  /-- BDAC_SC0: SC of channels 0–63, 64–127 (15_housekeeping_bias_thermal.md). -/
  | bdacSc0
  /-- BDAC_SC1: SC of channels 0–63, 64–127 (15_housekeeping_bias_thermal.md). -/
  | bdacSc1
  /-- BDAC_CHc_CFG: channel c (15_housekeeping_bias_thermal.md). -/
  | bdacChCfg
  /-- BDAC_CHc_CODE: code and output (15_housekeeping_bias_thermal.md). -/
  | bdacChCode
  /-- MONm_CTRL: converter m control (15_housekeeping_bias_thermal.md). -/
  | monCtrl
  /-- MONm_STAT: state (15_housekeeping_bias_thermal.md). -/
  | monStat
  /-- MONm_DATA: result (15_housekeeping_bias_thermal.md). -/
  | monData
  /-- MONm_TRIG: command trigger (15_housekeeping_bias_thermal.md). -/
  | monTrig
  /-- MONm_LOST: lost triggers, saturating at 0xFFFF_FFFF; a write of 1 clears it (15_housekeeping_bias_thermal.md). -/
  | monLost
  /-- MONm_SEQi: entry i, i = 0–15 (15_housekeeping_bias_thermal.md). -/
  | monSeq
  /-- MONm_LIMi: window of entry i (15_housekeeping_bias_thermal.md). -/
  | monLim
  /-- MON_SHARED: shared channel (15_housekeeping_bias_thermal.md). -/
  | monShared
  /-- THM_CTRL: thermal control (15_housekeeping_bias_thermal.md). -/
  | thmCtrl
  /-- THM_STAT: thermal state (15_housekeeping_bias_thermal.md). -/
  | thmStat
  /-- THM_BROKEN0: broken sensors 0–63, 64–95 (15_housekeeping_bias_thermal.md). -/
  | thmBroken0
  /-- THM_BROKEN1: broken sensors 0–63, 64–95 (15_housekeeping_bias_thermal.md). -/
  | thmBroken1
  /-- THM_SENSs: sensor s, s = 0–95 (15_housekeeping_bias_thermal.md). -/
  | thmSens
  /-- THM_AMPa_CFG: amplifier a (15_housekeeping_bias_thermal.md). -/
  | thmAmpCfg
  /-- THM_AMPa_SCL: scales (15_housekeeping_bias_thermal.md). -/
  | thmAmpScl
  /-- THM_PWMn_CFG: output n, n = 0–3 (15_housekeeping_bias_thermal.md). -/
  | thmPwmCfg
  /-- THM_PWMn_DUTY: duty (15_housekeeping_bias_thermal.md). -/
  | thmPwmDuty
  /-- THM_TACHn: tachometer n (15_housekeeping_bias_thermal.md). -/
  | thmTach
  /-- SEC_ID: block identity and revision (16_security_and_debug.md). -/
  | secId
  /-- SEC_LC: lifecycle state (16_security_and_debug.md). -/
  | secLc
  /-- SEC_MBOX_CMD: mailbox command (16_security_and_debug.md). -/
  | secMboxCmd
  /-- SEC_MBOX_STAT: mailbox state (16_security_and_debug.md). -/
  | secMboxStat
  /-- SEC_KEYSTAT: key slots held (16_security_and_debug.md). -/
  | secKeystat
  /-- SEC_ROOTSTAT: operator root states (16_security_and_debug.md). -/
  | secRootstat
  /-- SEC_BOOT: policy image in use (16_security_and_debug.md). -/
  | secBoot
  /-- SEC_MBOX_BUF: mailbox buffer, 1 KiB (16_security_and_debug.md). -/
  | secMboxBuf
  /-- DBG_ID: block identity and revision (16_security_and_debug.md). -/
  | dbgId
  /-- DBG_STAT: session state (16_security_and_debug.md). -/
  | dbgStat
  /-- DBG_CHAL_ID: current CHAL_ID (16_security_and_debug.md). -/
  | dbgChalId
  /-- DBG_CLOSE: end the session (16_security_and_debug.md). -/
  | dbgClose
  /-- DBG_CORE_CTRL: control core pairs (16_security_and_debug.md). -/
  | dbgCoreCtrl
  /-- DBG_ENG_HALT: engine halts (16_security_and_debug.md). -/
  | dbgEngHalt
  /-- DBG_FAILS: refused instructions and accesses, saturating at 0xFFFF_FFFF; a write of 1 clears it (16_security_and_debug.md). -/
  | dbgFails
  /-- DBG_CHAL: challenge, 48 bytes (16_security_and_debug.md). -/
  | dbgChal
  /-- CTL_FW_STAT: pairs, standby and hand-over state (17_service_life.md). -/
  | ctlFwStat
  /-- CTL_FW_HO: hand-over request (17_service_life.md). -/
  | ctlFwHo
  /-- CTL_FW_HO_TICK: tick for AT_TICK (17_service_life.md). -/
  | ctlFwHoTick
  /-- CTL_FW_SIG: firmware signals (17_service_life.md). -/
  | ctlFwSig
  /-- PWR_BOOT: boot progress (18_startup_pins_electrical.md). -/
  | pwrBoot
  /-- PWR_AVS: core voltage target (18_startup_pins_electrical.md). -/
  | pwrAvs
  /-- TL_SYNC: SYNC control (05_receive_chain.md). -/
  | tlSync
  /-- TL_SYNC_LAST: tick of the last SYNC (05_receive_chain.md). -/
  | tlSyncLast
  /-- GE_SVC: engine retirement (17_service_life.md). -/
  | geSvc
deriving DecidableEq, Repr

/-- A row of a register table: the address of the first register of the family, its dimensions
(stride, count) from the outermost inwards, the width in bits, the access code and reset value of the
table, and the fields the field table lists (high bit, low bit, access). -/
structure RegRow where
  addr : Nat
  dims : List (Nat × Nat)
  width : Nat
  acc : Acc
  reset : Nat
  fields : List (Nat × Nat × Acc)
deriving DecidableEq, Repr

/-- The register tables of the chapters, row by row. -/
def regRow : RegId → RegRow
  | .tlId => ⟨0x1300000000, [], 32, .ro, 0x10200, []⟩
  | .tlCtrl => ⟨0x1300000008, [], 32, .rw, 0x0, [(0, 0, .rw), (1, 1, .rw), (2, 2, .w1s)]⟩
  | .tlStatus => ⟨0x1300000010, [], 32, .ro, 0x0, [(0, 0, .ro), (1, 1, .ro), (2, 2, .ro), (3, 3, .ro), (4, 4, .ro)]⟩
  | .tlNowLo => ⟨0x1300000018, [], 32, .ro, 0x0, []⟩
  | .tlNowHi => ⟨0x130000001c, [], 32, .ro, 0x0, []⟩
  | .tlFrameOfs => ⟨0x1300000020, [], 32, .rws, 0x0, []⟩
  | .tlPatternCfg => ⟨0x1300000028, [], 32, .rws, 0x0, [(0, 0, .rws), (2, 1, .rws), (3, 3, .rws), (12, 4, .rws)]⟩
  | .tlGuardOvr => ⟨0x1300000040, [], 32, .w1c, 0x0, []⟩
  | .tlEvtDrop => ⟨0x1300000044, [], 32, .w1c, 0x0, []⟩
  | .tlPat => ⟨0x1300000100, [(4, 512)], 32, .rws, 0x0, [(22, 0, .rws), (24, 23, .rws), (25, 25, .rws)]⟩
  | .tlEvt => ⟨0x1300001000, [(8, 4096)], 64, .rws, 0x0, [(22, 0, .rws), (23, 23, .rws), (29, 24, .rws), (39, 32, .rws), (63, 40, .rws)]⟩
  | .loId => ⟨0x1200000000, [], 32, .ro, 0x10100, []⟩
  | .loTree => ⟨0x1200000008, [], 32, .rws, 0x0, [(1, 0, .rws), (3, 2, .rws), (4, 4, .rws)]⟩
  | .loStatus => ⟨0x1200000010, [], 32, .ro, 0x0, [(1, 0, .ro), (3, 2, .ro), (4, 4, .ro)]⟩
  | .loForce => ⟨0x1200000018, [], 32, .wo, 0x0, [(1, 0, .wo), (5, 2, .wo), (6, 6, .wo)]⟩
  | .loSynCtrl => ⟨0x1200000100, [(256, 4)], 32, .rw, 0x0, [(0, 0, .rw)]⟩
  | .loSynStatus => ⟨0x1200000108, [(256, 4)], 32, .ro, 0x0, [(2, 0, .ro), (7, 4, .ro), (8, 8, .ro), (9, 9, .ro), (10, 10, .ro)]⟩
  | .loSynUnlocks => ⟨0x1200000110, [(256, 4)], 32, .w1c, 0x0, []⟩
  | .loSynPre => ⟨0x1200000180, [(256, 4), (8, 16)], 64, .rws, 0x0, [(47, 0, .rws)]⟩
  | .feCtrl => ⟨0x1000200000, [(16777216, 8)], 32, .rw, 0x0, [(0, 0, .rw)]⟩
  | .feList => ⟨0x1000210000, [(16777216, 8), (16, 1024)], 128, .rws, 0x0, [(20, 0, .rws), (127, 32, .rws)]⟩
  | .feStat => ⟨0x1000300000, [(16777216, 8), (4096, 8)], 32, .ro, 0x0, [(2, 0, .ro), (3, 3, .ro), (4, 4, .w1c), (5, 5, .ro), (8, 6, .ro), (12, 9, .ro), (13, 13, .w1c)]⟩
  | .feWdata => ⟨0x1000300008, [(16777216, 8), (4096, 8)], 64, .rw, 0x0, []⟩
  | .feRdata => ⟨0x1000300010, [(16777216, 8), (4096, 8)], 64, .ro, 0x0, []⟩
  | .feSafe => ⟨0x1000300018, [(16777216, 8), (4096, 8)], 32, .ro, 0x0, [(1, 0, .ro), (3, 2, .ro)]⟩
  | .adcCtrl => ⟨0x1000400000, [(16777216, 8), (4096, 8)], 32, .rw, 0x1, [(0, 0, .rw)]⟩
  | .adcStat => ⟨0x1000400008, [(16777216, 8), (4096, 8)], 32, .ro, 0x0, [(3, 0, .ro), (5, 4, .ro), (6, 6, .ro), (11, 8, .ro), (13, 12, .ro), (14, 14, .ro), (15, 15, .ro), (31, 16, .ro)]⟩
  | .adcMapi => ⟨0x1000400010, [(16777216, 8), (4096, 8)], 64, .ro, 0x876543210, [(31, 0, .ro), (35, 32, .ro), (44, 36, .ro)]⟩
  | .adcMapq => ⟨0x1000400018, [(16777216, 8), (4096, 8)], 64, .ro, 0x876543210, [(31, 0, .ro), (35, 32, .ro), (44, 36, .ro)]⟩
  | .dacStat => ⟨0x1000400020, [(16777216, 8), (4096, 8)], 32, .ro, 0x20100, [(6, 0, .ro), (8, 7, .ro), (15, 9, .ro), (17, 16, .ro)]⟩
  | .obsCtrl => ⟨0x1000400028, [(16777216, 8), (4096, 8)], 32, .rws, 0x14, [(4, 0, .rws)]⟩
  | .obsLd => ⟨0x1000400030, [(16777216, 8), (4096, 8)], 32, .ro, 0x0, [(11, 0, .ro)]⟩
  | .adcOvr => ⟨0x1000400038, [(16777216, 8), (4096, 8)], 32, .w1c, 0x0, []⟩
  | .orxCtrl => ⟨0x1000500000, [(16777216, 8)], 32, .rw, 0x0, [(0, 0, .rw)]⟩
  | .orxStat => ⟨0x1000500008, [(16777216, 8)], 32, .ro, 0x0, [(1, 0, .ro), (5, 2, .ro), (6, 6, .ro), (7, 7, .ro)]⟩
  | .orxDrop => ⟨0x1000500010, [(16777216, 8)], 32, .w1c, 0x0, []⟩
  | .capDesc => ⟨0x1000600000, [(16777216, 8), (32, 256)], 128, .rws, 0x0, [(39, 0, .rws), (57, 40, .rws), (60, 58, .rws), (61, 61, .rws)]⟩
  | .capStat => ⟨0x1000600010, [(16777216, 8), (32, 256)], 128, .ro, 0x0, [(63, 0, .ro), (79, 64, .ro), (91, 80, .ro), (92, 92, .ro), (93, 93, .ro), (95, 94, .ro), (96, 96, .ro), (97, 97, .ro), (98, 98, .ro), (99, 99, .ro), (100, 100, .ro), (106, 101, .ro)]⟩
  | .capRel => ⟨0x1000700000, [(16777216, 8)], 32, .wo, 0x0, [(7, 0, .wo), (8, 8, .wo)]⟩
  | .rxgCtrl => ⟨0x1000400040, [(16777216, 8), (4096, 8)], 64, .rws, 0x8d800e26faa0, [(4, 0, .rws), (6, 5, .rws), (7, 7, .rws), (15, 8, .rws), (19, 16, .rws), (27, 20, .rws), (35, 28, .rws), (43, 36, .rws), (47, 44, .rws)]⟩
  | .rxgStat => ⟨0x1000400048, [(16777216, 8), (4096, 8)], 32, .ro, 0x0, [(4, 0, .ro), (5, 5, .ro), (6, 6, .ro), (15, 8, .ro), (31, 16, .ro)]⟩
  | .rxgCnt => ⟨0x1000400050, [(16777216, 8), (4096, 8)], 32, .w1c, 0x0, [(15, 0, .w1c), (31, 16, .w1c)]⟩
  | .rxStat => ⟨0x1000800000, [(16777216, 8), (65536, 9)], 32, .ro, 0x0, [(2, 0, .ro), (5, 3, .ro), (6, 6, .w1c), (7, 7, .ro)]⟩
  | .rxSat => ⟨0x1000800008, [(16777216, 8), (65536, 9)], 32, .w1c, 0x0, []⟩
  | .chCfg => ⟨0x1000800100, [(16777216, 8), (65536, 9), (32, 8)], 64, .rws, 0x0, [(0, 0, .rws), (3, 1, .rws), (6, 4, .rws), (8, 7, .rws), (9, 9, .rws), (10, 10, .rws), (16, 11, .rws), (19, 17, .ro), (63, 32, .rws)]⟩
  | .chSh => ⟨0x1000800108, [(16777216, 8), (65536, 9), (32, 8)], 64, .rws, 0xc555555555, [(3, 0, .rws), (7, 4, .rws), (11, 8, .rws), (15, 12, .rws), (19, 16, .rws), (23, 20, .rws), (27, 24, .rws), (31, 28, .rws), (35, 32, .rws), (39, 36, .rws)]⟩
  | .chTaps => ⟨0x1000800110, [(16777216, 8), (65536, 9), (32, 8)], 64, .rws, 0x101, [(6, 0, .rws), (13, 8, .rws), (19, 16, .rws), (23, 20, .rws), (27, 24, .rws), (31, 28, .rws), (35, 32, .rws), (39, 36, .rws), (43, 40, .rws)]⟩
  | .chFft => ⟨0x1000800118, [(16777216, 8), (65536, 9), (32, 8)], 32, .rws, 0x200000, [(8, 0, .rws), (20, 9, .rws), (21, 21, .rws)]⟩
  | .prch => ⟨0x1000800400, [(16777216, 8), (65536, 9), (16, 4)], 64, .rws, 0x0, [(0, 0, .rws), (3, 1, .rws), (7, 4, .rws), (9, 8, .rws), (10, 10, .rws), (15, 12, .rws), (63, 32, .rws)]⟩
  | .coef => ⟨0x1000801000, [(16777216, 8), (65536, 9), (1024, 8), (4, 176)], 32, .rw, 0x0, [(17, 0, .rw)]⟩
  | .laneMap => ⟨0x1000900000, [(16777216, 8)], 64, .ro, 0x876543210, []⟩
  | .laneMoveReq => ⟨0x1000900008, [(16777216, 8)], 32, .wo, 0x0, [(2, 0, .wo), (3, 3, .wo), (4, 4, .wo)]⟩
  | .moveStat => ⟨0x1000900010, [(16777216, 8)], 32, .ro, 0x0, [(1, 0, .ro), (4, 2, .ro), (7, 5, .ro), (8, 8, .ro)]⟩
  | .prchOcc => ⟨0x1000920000, [(16777216, 8), (64, 4), (4, 16)], 32, .rws, 0x0, [(22, 0, .rws)]⟩
  | .txa => ⟨0x1000400060, [(16777216, 8), (4096, 8)], 32, .rws, 0x3f, [(5, 0, .rws)]⟩
  | .txStat => ⟨0x1000804000, [(16777216, 8), (65536, 9)], 32, .ro, 0x0, [(7, 0, .ro), (15, 8, .w1c), (16, 16, .ro), (17, 17, .ro)]⟩
  | .txLimcnt => ⟨0x1000804008, [(16777216, 8), (65536, 9)], 32, .w1c, 0x0, []⟩
  | .txMiss => ⟨0x1000804010, [(16777216, 8), (65536, 9)], 32, .w1c, 0x0, []⟩
  | .txClip => ⟨0x1000804018, [(16777216, 8), (65536, 9)], 32, .w1c, 0x0, []⟩
  | .txSat => ⟨0x1000804020, [(16777216, 8), (65536, 9)], 32, .w1c, 0x0, []⟩
  | .cfrMiss => ⟨0x1000804028, [(16777216, 8), (65536, 9)], 32, .w1c, 0x0, []⟩
  | .txchCfg => ⟨0x1000804100, [(16777216, 8), (65536, 9), (32, 8)], 64, .rws, 0x100000, [(0, 0, .rws), (3, 1, .rws), (6, 4, .rws), (8, 7, .rws), (9, 9, .rws), (10, 10, .rws), (19, 17, .ro), (20, 20, .rws), (28, 21, .rws), (63, 32, .rws)]⟩
  | .txchSh => ⟨0x1000804108, [(16777216, 8), (65536, 9), (32, 8)], 64, .rws, 0xc555555555, [(3, 0, .rws), (7, 4, .rws), (11, 8, .rws), (15, 12, .rws), (19, 16, .rws), (23, 20, .rws), (27, 24, .rws), (31, 28, .rws), (35, 32, .rws), (39, 36, .rws)]⟩
  | .txchTaps => ⟨0x1000804110, [(16777216, 8), (65536, 9), (32, 8)], 64, .rws, 0x101, [(6, 0, .rws), (13, 8, .rws), (19, 16, .rws), (23, 20, .rws), (27, 24, .rws), (31, 28, .rws), (35, 32, .rws), (39, 36, .rws), (43, 40, .rws)]⟩
  | .txchRun => ⟨0x1000804118, [(16777216, 8), (65536, 9), (32, 8)], 64, .ro, 0x0, [(31, 0, .ro), (47, 32, .ro)]⟩
  | .cfrCtrl => ⟨0x1000804400, [(16777216, 8), (65536, 9)], 64, .rws, 0xffffffff005e211f, [(0, 0, .rws), (6, 1, .rws), (8, 7, .rws), (16, 9, .rws), (20, 17, .rws), (24, 21, .rws), (35, 32, .rws), (39, 36, .rws), (43, 40, .rws), (47, 44, .rws), (51, 48, .rws), (55, 52, .rws), (59, 56, .rws), (63, 60, .rws)]⟩
  | .cfrStat => ⟨0x1000804408, [(16777216, 8), (65536, 9)], 64, .ro, 0x0, [(15, 0, .ro), (31, 16, .ro), (32, 32, .ro)]⟩
  | .txcoef => ⟨0x1000805000, [(16777216, 8), (65536, 9), (1024, 8), (4, 176)], 32, .rw, 0x0, []⟩
  | .bfId => ⟨0x1100000000, [], 32, .ro, 0x10100, []⟩
  | .bfTileMap => ⟨0x1100000008, [], 64, .ro, 0x876543210, []⟩
  | .bfTileStat => ⟨0x1100000010, [], 32, .ro, 0x10000, [(1, 0, .ro), (3, 2, .ro), (5, 4, .ro), (7, 6, .ro), (9, 8, .ro), (11, 10, .ro), (13, 12, .ro), (15, 14, .ro), (17, 16, .ro)]⟩
  | .bfElemMask => ⟨0x1100000018, [], 64, .ro, 0x0, []⟩
  | .bfHealStat => ⟨0x1100000020, [], 32, .ro, 0x40, [(6, 0, .ro), (8, 7, .ro), (9, 9, .ro)]⟩
  | .bfHealCmd => ⟨0x1100000028, [], 32, .wo, 0x0, [(5, 0, .wo), (7, 6, .wo), (8, 8, .wo)]⟩
  | .bfSat => ⟨0x1100000030, [], 32, .w1c, 0x0, []⟩
  | .bfBeamErr => ⟨0x1100000038, [], 32, .w1c, 0x0, []⟩
  | .bfNullVec => ⟨0x1100000040, [], 32, .w1c, 0x0, []⟩
  | .bfWrej => ⟨0x1100000048, [], 32, .w1c, 0x0, []⟩
  | .bfCcCfg => ⟨0x1100000100, [(128, 8)], 64, .rws, 0x0, [(0, 0, .rws), (1, 1, .rws), (4, 2, .rws), (8, 5, .rws), (12, 9, .rws), (15, 13, .rws), (18, 16, .rws), (19, 19, .rws), (21, 20, .rws), (47, 32, .rws), (58, 48, .ro)]⟩
  | .bfCcCbbase => ⟨0x1100000108, [(128, 8)], 64, .rws, 0x0, [(39, 0, .rws)]⟩
  | .bfCcDla => ⟨0x1100000110, [(128, 8)], 64, .rws, 0x0, [(39, 0, .rws)]⟩
  | .bfCcDlb => ⟨0x1100000118, [(128, 8)], 64, .rws, 0x0, [(39, 0, .rws)]⟩
  | .bfCcUla => ⟨0x1100000120, [(128, 8)], 64, .rws, 0x0, [(39, 0, .rws)]⟩
  | .bfCcUlb => ⟨0x1100000128, [(128, 8)], 64, .rws, 0x0, [(39, 0, .rws)]⟩
  | .bfCcSet => ⟨0x1100000130, [(128, 8)], 32, .ro, 0x0, [(0, 0, .ro), (1, 1, .ro)]⟩
  | .bfCcColl => ⟨0x1100000138, [(128, 8)], 32, .w1c, 0x0, [(15, 0, .w1c), (31, 16, .w1c)]⟩
  | .bfCcSplit => ⟨0x1100000140, [(128, 8)], 32, .w1c, 0x0, [(15, 0, .w1c), (31, 16, .w1c)]⟩
  | .bfCcUldef => ⟨0x1100000148, [(128, 8), (8, 4)], 64, .rws, 0xfff0fff0fff0fff, []⟩
  | .bfPrb => ⟨0x1100000800, [(128, 4), (4, 16)], 32, .rws, 0xfff, [(11, 0, .rws)]⟩
  | .bfPrbCfg => ⟨0x1100000840, [(128, 4)], 32, .rws, 0x0, [(2, 0, .rws)]⟩
  | .dpdCtrl => ⟨0x1000a00000, [(16777216, 8), (65536, 8)], 32, .rws, 0xe070, [(0, 0, .rws), (1, 1, .rws), (2, 2, .rws), (10, 3, .rws), (18, 11, .rws)]⟩
  | .dpdTaps => ⟨0x1000a00008, [(16777216, 8), (65536, 8)], 64, .rws, 0x4b87c7185103081, [(5, 0, .rws), (11, 6, .rws), (17, 12, .rws), (23, 18, .rws), (29, 24, .rws), (35, 30, .rws), (41, 36, .rws), (45, 42, .rws), (49, 46, .rws), (53, 50, .rws), (57, 54, .rws), (61, 58, .rws)]⟩
  | .dpdNb => ⟨0x1000a00010, [(16777216, 8), (65536, 8)], 64, .rws, 0x0, [(5, 0, .rws), (13, 8, .rws), (21, 16, .rws), (29, 24, .rws), (7, 7, .rws), (15, 15, .rws), (23, 23, .rws), (31, 31, .rws)]⟩
  | .dpdLim => ⟨0x1000a00018, [(16777216, 8), (65536, 8)], 64, .rws, 0x180a2ace18cc, [(4, 0, .rws), (9, 5, .rws), (15, 10, .rws), (23, 16, .rws), (26, 24, .rws), (31, 27, .rws), (36, 32, .rws), (44, 37, .rws)]⟩
  | .dpdThm0 => ⟨0x1000a00020, [(16777216, 8), (65536, 8)], 64, .rw, 0x0, []⟩
  | .dpdThm1 => ⟨0x1000a00028, [(16777216, 8), (65536, 8)], 64, .rw, 0x0, []⟩
  | .dpdThm2 => ⟨0x1000a00030, [(16777216, 8), (65536, 8)], 64, .rw, 0x4000, [(15, 0, .rw)]⟩
  | .dpdStat => ⟨0x1000a00040, [(16777216, 8), (65536, 8)], 64, .ro, 0x0, [(2, 0, .ro), (3, 3, .ro), (4, 4, .ro), (12, 5, .ro), (13, 13, .ro), (16, 14, .ro), (47, 32, .ro), (63, 48, .ro)]⟩
  | .dpdTheta => ⟨0x1000a00048, [(16777216, 8), (65536, 8)], 32, .ro, 0x0, [(15, 0, .ro), (31, 16, .ro)]⟩
  | .dpdHo => ⟨0x1000a00050, [(16777216, 8), (65536, 8)], 32, .wo, 0x0, [(0, 0, .wo)]⟩
  | .dpdClamp => ⟨0x1000a00058, [(16777216, 8), (65536, 8)], 32, .w1c, 0x0, []⟩
  | .dpdWrej => ⟨0x1000a00060, [(16777216, 8), (65536, 8)], 32, .w1c, 0x0, []⟩
  | .dpdBank => ⟨0x1000a08000, [(16777216, 8), (65536, 8), (16384, 2)], 64, .rw, 0x0, []⟩
  | .dpdId => ⟨0x1100800000, [], 32, .ro, 0x10100, []⟩
  | .dpdDispCtrl => ⟨0x1100800008, [], 32, .rw, 0x7d09, [(0, 0, .rw), (4, 1, .rw), (24, 5, .rw)]⟩
  | .dpdReq => ⟨0x1100800010, [], 64, .w1s, 0x0, []⟩
  | .dpdPend => ⟨0x1100800018, [], 64, .ro, 0x0, []⟩
  | .dpdStale => ⟨0x1100800020, [], 64, .ro, 0x0, []⟩
  | .dpdDispStat => ⟨0x1100800028, [], 32, .ro, 0x0, [(3, 0, .ro), (9, 4, .ro), (10, 10, .ro)]⟩
  | .geDmem => ⟨0x1400000000, [(1048576, 18)], 64, .rw, 0x0, []⟩
  | .gePmem => ⟨0x1400040000, [(1048576, 18)], 64, .rw, 0x0, []⟩
  | .geId => ⟨0x1400080000, [(1048576, 18)], 32, .ro, 0x10100, []⟩
  | .geStat => ⟨0x1400080008, [(1048576, 18)], 32, .ro, 0x0, [(2, 0, .ro), (3, 3, .ro), (7, 4, .ro), (10, 8, .ro), (11, 11, .ro), (15, 12, .ro), (31, 16, .ro)]⟩
  | .gePc => ⟨0x1400080010, [(1048576, 18)], 32, .ro, 0x0, []⟩
  | .geCyc => ⟨0x1400080018, [(1048576, 18)], 64, .ro, 0x0, []⟩
  | .gePost => ⟨0x1400080020, [(1048576, 18)], 128, .wo, 0x0, [(3, 0, .wo), (6, 4, .wo), (23, 8, .wo), (63, 32, .wo), (127, 64, .wo)]⟩
  | .gePostStat => ⟨0x1400080030, [(1048576, 18)], 32, .ro, 0x0, [(4, 0, .ro), (5, 5, .ro)]⟩
  | .geCpl => ⟨0x1400080040, [(1048576, 18)], 128, .ro, 0x0, [(15, 0, .ro), (19, 16, .ro), (22, 20, .ro), (23, 23, .ro), (31, 24, .ro), (62, 32, .ro), (63, 63, .ro), (127, 64, .ro)]⟩
  | .geDoorbell => ⟨0x1400080050, [(1048576, 18)], 32, .w1s, 0x0, [(0, 0, .w1s)]⟩
  | .geEcc => ⟨0x1400080058, [(1048576, 18)], 32, .w1c, 0x0, []⟩
  | .geKtab => ⟨0x1400080100, [(1048576, 18), (16, 16)], 128, .ro, 0x0, [(12, 0, .ro), (29, 16, .ro), (47, 32, .ro), (63, 48, .ro), (81, 64, .ro), (82, 82, .ro)]⟩
  | .geRel => ⟨0x1400080200, [(1048576, 18), (16, 8)], 128, .ro, 0x0, []⟩
  | .calId => ⟨0x1200400000, [], 32, .ro, 0x10100, []⟩
  | .calCtrl => ⟨0x1200400008, [], 32, .rw, 0xa, [(4, 0, .rw), (5, 5, .rw), (6, 6, .rw)]⟩
  | .calHrx => ⟨0x1200400010, [], 32, .ro, 0x0, [(0, 0, .w1s), (1, 1, .rw), (6, 2, .rw)]⟩
  | .calHrxStat => ⟨0x1200400018, [], 32, .ro, 0x0, [(1, 0, .ro), (2, 2, .ro)]⟩
  | .calHrxTick => ⟨0x1200400020, [], 64, .ro, 0x0, []⟩
  | .calXo => ⟨0x1200400028, [], 64, .ro, 0x0, [(31, 0, .ro), (63, 32, .ro)]⟩
  | .calXoStat => ⟨0x1200400030, [], 32, .ro, 0x0, [(0, 0, .ro), (1, 1, .ro), (31, 16, .ro)]⟩
  | .calCalrxStat => ⟨0x1200400038, [], 32, .ro, 0x0, []⟩
  | .calStat => ⟨0x1000b00000, [(16777216, 8), (4096, 8)], 32, .ro, 0x0, [(7, 0, .ro), (11, 8, .ro), (12, 12, .ro), (13, 13, .ro), (14, 14, .w1c)]⟩
  | .calDc => ⟨0x1000b00008, [(16777216, 8), (4096, 8)], 64, .ro, 0x0, [(15, 0, .ro), (31, 16, .ro), (47, 32, .ro), (63, 48, .ro)]⟩
  | .calTrim => ⟨0x1000b00010, [(16777216, 8), (4096, 8)], 32, .ro, 0x0, [(15, 0, .ro), (31, 16, .ro)]⟩
  | .calRamp => ⟨0x1000b00018, [(16777216, 8), (4096, 8)], 32, .ro, 0x0, [(7, 0, .ro), (15, 8, .ro)]⟩
  | .calSkip => ⟨0x1000b00020, [(16777216, 8), (4096, 8)], 32, .w1c, 0x0, []⟩
  | .lnkId => ⟨0x1500000000, [], 32, .ro, 0x10100, []⟩
  | .lnkLaneMap => ⟨0x1500000008, [], 64, .ro, 0x876543210, []⟩
  | .lnkLaneStat => ⟨0x1500000010, [], 32, .ro, 0x0, [(1, 0, .ro), (3, 2, .ro), (5, 4, .ro), (7, 6, .ro), (9, 8, .ro), (11, 10, .ro), (13, 12, .ro), (15, 14, .ro), (17, 16, .ro)]⟩
  | .lnkPortCfg => ⟨0x1500000100, [(64, 4)], 64, .rws, 0x9002600080, [(0, 0, .rws), (2, 1, .rws), (5, 3, .rws), (6, 6, .rws), (7, 7, .rws), (19, 8, .rws), (22, 20, .rws), (23, 23, .rws), (24, 24, .rws), (25, 25, .rws), (39, 26, .rws), (40, 40, .rws)]⟩
  | .lnkPortDa => ⟨0x1500000108, [(64, 4)], 64, .rws, 0x0, [(47, 0, .rws)]⟩
  | .lnkPortStat => ⟨0x1500000110, [(64, 4)], 32, .ro, 0x0, [(0, 0, .ro), (1, 1, .ro), (2, 2, .ro), (4, 3, .ro), (5, 5, .ro)]⟩
  | .lnkPortLate => ⟨0x1500000118, [(64, 4)], 32, .w1c, 0x0, [(15, 0, .w1c), (31, 16, .w1c)]⟩
  | .lnkPortDrop => ⟨0x1500000120, [(64, 4)], 32, .w1c, 0x0, []⟩
  | .lnkPortMsec => ⟨0x1500000128, [(64, 4)], 32, .rws, 0x400103, [(0, 0, .rws), (1, 1, .rws), (17, 2, .rws), (25, 18, .rws)]⟩
  | .lnkCcWin => ⟨0x1500000400, [(16, 8)], 64, .rws, 0x0, [(22, 0, .rws), (54, 32, .rws)]⟩
  | .lnkCcUl => ⟨0x1500000408, [(16, 8)], 32, .rws, 0x2400, [(8, 0, .rws), (11, 9, .rws), (14, 12, .rws)]⟩
  | .lnkCcDl => ⟨0x150000040c, [(16, 8)], 32, .rws, 0x400, [(8, 0, .rws), (11, 9, .rws)]⟩
  | .lnkPtpCfg => ⟨0x1500000800, [], 64, .rws, 0x808080800018, [(7, 0, .rws), (8, 8, .rws), (23, 16, .rws), (31, 24, .rws), (39, 32, .rws), (47, 40, .rws)]⟩
  | .lnkPtpStat => ⟨0x1500000808, [], 64, .ro, 0x0, [(2, 0, .ro), (4, 3, .ro), (12, 5, .ro), (63, 32, .ro)]⟩
  | .lnkPtpLat => ⟨0x1500000810, [(8, 4)], 32, .rws, 0x0, [(15, 0, .rws), (31, 16, .rws)]⟩
  | .lnkSynceCfg => ⟨0x1500000840, [], 32, .rws, 0x0, [(0, 0, .rws), (1, 1, .rws), (3, 2, .rws), (4, 4, .rws), (8, 5, .rws)]⟩
  | .lnkSynceStat => ⟨0x1500000848, [], 32, .ro, 0x0, [(1, 0, .ro), (5, 2, .ro)]⟩
  | .lnkPps => ⟨0x1500000850, [], 32, .rws, 0xfa0, [(0, 0, .rws), (1, 1, .rws), (17, 2, .rws)]⟩
  | .memId => ⟨0x1600000000, [], 32, .ro, 0x10100, []⟩
  | .memCtrl => ⟨0x1600000008, [], 32, .rw, 0x15, [(0, 0, .rw), (12, 1, .rw)]⟩
  | .memPart => ⟨0x1600000100, [(8, 4)], 32, .rws, 0x0, [(6, 0, .rws), (13, 7, .rws)]⟩
  | .memPrio => ⟨0x1600000200, [(8, 46)], 32, .ro, 0x0, [(1, 0, .ro), (3, 2, .rw)]⟩
  | .memHoldMask => ⟨0x1600000400, [], 64, .w1c, 0x0, []⟩
  | .memLock => ⟨0x1600000408, [], 64, .wo, 0x0, [(7, 0, .wo), (8, 8, .wo), (13, 9, .wo), (14, 14, .wo), (42, 15, .wo), (46, 43, .wo), (47, 47, .wo), (48, 48, .wo)]⟩
  | .memLockStat => ⟨0x1600000410, [], 32, .ro, 0x0, [(0, 0, .ro), (1, 1, .ro)]⟩
  | .memFault => ⟨0x1600000418, [], 64, .ro, 0x0, [(39, 0, .ro), (42, 40, .ro), (48, 43, .ro), (50, 49, .ro)]⟩
  | .memBankCtrl => ⟨0x1600001000, [(32, 100)], 32, .rw, 0x0, [(0, 0, .rw)]⟩
  | .memBankStat => ⟨0x1600001008, [(32, 100)], 32, .ro, 0x8000, [(1, 0, .ro), (8, 2, .ro), (12, 9, .ro), (15, 13, .ro), (16, 16, .ro)]⟩
  | .memBankCe => ⟨0x1600001010, [(32, 100)], 32, .w1c, 0x0, []⟩
  | .memBankUe => ⟨0x1600001018, [(32, 100)], 32, .w1c, 0x0, []⟩
  | .dmaCtrl => ⟨0x1600002000, [], 32, .rw, 0x0, [(0, 0, .rw)]⟩
  | .dmaStat => ⟨0x1600002008, [], 32, .ro, 0x0, [(1, 0, .ro), (2, 2, .ro), (10, 3, .ro)]⟩
  | .dmaTrigDrop => ⟨0x1600002010, [], 32, .w1c, 0x0, []⟩
  | .dmaRingCfg => ⟨0x1600004000, [(64, 128)], 64, .rws, 0x10, [(0, 0, .rws), (3, 1, .rws), (5, 4, .rws), (6, 6, .rws), (7, 7, .rws), (8, 8, .rws), (12, 9, .rws), (55, 32, .rws)]⟩
  | .dmaRingBase => ⟨0x1600004008, [(64, 128)], 64, .rws, 0x0, [(39, 0, .rws)]⟩
  | .dmaRingStat => ⟨0x1600004010, [(64, 128)], 32, .ro, 0x0, [(1, 0, .ro), (5, 2, .ro), (6, 6, .w1c), (7, 7, .w1c), (8, 8, .w1c), (11, 9, .ro), (23, 12, .ro)]⟩
  | .dmaRingKick => ⟨0x1600004018, [(64, 128)], 32, .w1s, 0x0, [(0, 0, .w1s)]⟩
  | .dmaRingGrant => ⟨0x1600004020, [(64, 128)], 32, .ro, 0x0, [(3, 0, .ro)]⟩
  | .evtId => ⟨0x1700000000, [], 32, .ro, 0x10100, []⟩
  | .evtStat => ⟨0x1700000100, [(8, 8)], 32, .ro, 0x0, []⟩
  | .evtEn => ⟨0x1700001000, [(256, 5), (8, 8)], 32, .rw, 0xffffffff, []⟩
  | .evtStk => ⟨0x1700002000, [(256, 5), (8, 8)], 32, .w1c, 0x0, []⟩
  | .evtRoute => ⟨0x1700003000, [(4, 256)], 32, .ro, 0x0, [(1, 0, .ro), (3, 2, .ro)]⟩
  | .evtRpt => ⟨0x1700004000, [(1024, 5), (4, 256)], 32, .ro, 0x0, [(7, 0, .ro)]⟩
  | .evtLogHead => ⟨0x1700005000, [], 64, .ro, 0x0, []⟩
  | .evtLog => ⟨0x1700006000, [(16, 1024)], 128, .ro, 0x0, []⟩
  | .t1sCtrl => ⟨0x1700800000, [], 32, .rw, 0x0, [(0, 0, .rw)]⟩
  | .t1sStat => ⟨0x1700800008, [], 32, .ro, 0x0, [(0, 0, .ro), (1, 1, .ro), (9, 2, .ro)]⟩
  | .t1sPlca => ⟨0x1700800010, [], 32, .rw, 0x20800008, [(7, 0, .rw), (15, 8, .rw), (23, 16, .rw), (31, 24, .rw)]⟩
  | .pwrId => ⟨0x1900000000, [], 32, .ro, 0x10100, []⟩
  | .pwrReq => ⟨0x1900000008, [], 32, .wo, 0x0, [(2, 0, .wo), (3, 3, .wo), (4, 4, .wo)]⟩
  | .pwrStat => ⟨0x1900000010, [], 32, .ro, 0x0, [(2, 0, .ro), (3, 3, .ro), (6, 4, .ro)]⟩
  | .pwrReqStat => ⟨0x1900000018, [], 32, .ro, 0x0, [(3, 0, .ro), (6, 4, .ro), (7, 7, .ro), (10, 8, .ro)]⟩
  | .pwrCfg => ⟨0x1900000020, [], 32, .rw, 0x79, [(0, 0, .rw), (16, 1, .rw)]⟩
  | .aonWakeEn => ⟨0x1900000100, [], 32, .rw, 0x106, [(7, 0, .rw), (8, 8, .rw)]⟩
  | .aonLastwake => ⟨0x1900000108, [], 64, .ro, 0x0, [(3, 0, .ro), (6, 4, .ro), (7, 7, .ro), (55, 8, .ro)]⟩
  | .aonRtc => ⟨0x1900000110, [], 64, .ro, 0x0, []⟩
  | .aonAlarm => ⟨0x1900000118, [], 64, .rw, 0x0, [(47, 0, .rw), (48, 48, .rw)]⟩
  | .aonThm => ⟨0x1900000120, [], 32, .rw, 0x64e2, [(7, 0, .rw), (15, 8, .rw)]⟩
  | .aonWcnt => ⟨0x1900000140, [(4, 9)], 32, .w1c, 0x0, []⟩
  | .wrxCfg => ⟨0x1900000200, [], 32, .rw, 0x1a7d40, [(0, 0, .rw), (20, 1, .rw)]⟩
  | .wrxId => ⟨0x1900000208, [], 32, .rw, 0x0, []⟩
  | .wrxLastcnt => ⟨0x1900000210, [], 32, .ro, 0x0, []⟩
  | .wrxStat => ⟨0x1900000218, [], 32, .ro, 0x0, [(1, 0, .ro), (2, 2, .ro), (10, 3, .ro)]⟩
  | .wrxCnt => ⟨0x1900000220, [(8, 5)], 32, .w1c, 0x0, []⟩
  | .monId => ⟨0x1800000000, [], 32, .ro, 0x10100, []⟩
  | .bdacStat => ⟨0x1800001000, [], 32, .ro, 0x0, [(0, 0, .ro), (1, 1, .ro)]⟩
  | .bdacStrobe => ⟨0x1800001008, [], 32, .wo, 0x0, [(7, 0, .wo), (8, 8, .wo)]⟩
  | .bdacLdac => ⟨0x1800001010, [], 32, .rw, 0xff00, [(0, 0, .rw), (15, 8, .rw)]⟩
  | .bdacDrnReq => ⟨0x1800001018, [], 64, .rw, 0x0, []⟩
  | .bdacDrnStat => ⟨0x1800001020, [], 64, .ro, 0x0, []⟩
  | .bdacDrnFault => ⟨0x1800001028, [], 64, .w1c, 0x0, []⟩
  | .bdacSc0 => ⟨0x1800001030, [], 64, .w1c, 0x0, []⟩
  | .bdacSc1 => ⟨0x1800001038, [], 64, .w1c, 0x0, []⟩
  | .bdacChCfg => ⟨0x1800001100, [(16, 128)], 64, .ro, 0x0, [(2, 0, .rws), (4, 3, .rws), (10, 5, .rws), (14, 11, .rws), (15, 15, .ro), (31, 16, .ro), (47, 32, .ro)]⟩
  | .bdacChCode => ⟨0x1800001108, [(16, 128)], 64, .ro, 0x0, [(15, 0, .rw), (16, 16, .ro), (17, 17, .ro), (47, 32, .ro)]⟩
  | .monCtrl => ⟨0x1800002000, [(512, 2)], 32, .rw, 0x0, [(0, 0, .rw), (3, 1, .rw), (4, 4, .rw), (7, 5, .rw), (15, 8, .rw), (19, 16, .rw)]⟩
  | .monStat => ⟨0x1800002008, [(512, 2)], 32, .ro, 0x0, [(0, 0, .ro), (1, 1, .ro), (2, 2, .w1c), (3, 3, .w1c), (7, 4, .ro)]⟩
  | .monData => ⟨0x1800002010, [(512, 2)], 64, .ro, 0x0, [(31, 0, .ro), (35, 32, .ro), (36, 36, .ro)]⟩
  | .monTrig => ⟨0x1800002018, [(512, 2)], 32, .w1s, 0x0, [(0, 0, .w1s)]⟩
  | .monLost => ⟨0x1800002020, [(512, 2)], 32, .w1c, 0x0, []⟩
  | .monSeq => ⟨0x1800002100, [(512, 2), (8, 16)], 64, .rw, 0x0, [(5, 0, .rw), (11, 6, .rw), (14, 12, .rw), (18, 15, .rw), (26, 19, .rw), (28, 27, .rw), (34, 29, .rw), (35, 35, .rw)]⟩
  | .monLim => ⟨0x1800002180, [(512, 2), (8, 16)], 64, .rw, 0x7fff8000, [(15, 0, .rw), (31, 16, .rw), (32, 32, .rw), (33, 33, .rw)]⟩
  | .monShared => ⟨0x1800002400, [], 64, .ro, 0x3e80a21, [(5, 0, .rw), (15, 6, .rw), (31, 16, .rw), (32, 32, .ro)]⟩
  | .thmCtrl => ⟨0x1800003000, [], 64, .rw, 0x2800a001a40, [(15, 0, .rw), (17, 16, .rw), (31, 24, .rw), (47, 32, .rw)]⟩
  | .thmStat => ⟨0x1800003008, [], 32, .ro, 0x0, [(15, 0, .ro), (17, 16, .ro), (18, 18, .ro), (25, 19, .ro)]⟩
  | .thmBroken0 => ⟨0x1800003010, [], 64, .ro, 0x0, []⟩
  | .thmBroken1 => ⟨0x1800003018, [], 64, .ro, 0x0, []⟩
  | .thmSens => ⟨0x1800003100, [(4, 96)], 32, .ro, 0x0, [(15, 0, .ro), (17, 16, .ro)]⟩
  | .thmAmpCfg => ⟨0x1800003400, [(16, 64)], 64, .ro, 0x2580000004000000, [(1, 0, .rw), (2, 2, .rw), (3, 3, .rw), (4, 4, .ro), (31, 16, .rw), (47, 32, .rw), (63, 48, .rw)]⟩
  | .thmAmpScl => ⟨0x1800003408, [(16, 64)], 64, .rw, 0x0, [(15, 0, .rw), (31, 16, .rw)]⟩
  | .thmPwmCfg => ⟨0x1800003800, [(16, 4)], 64, .rw, 0x3ffffc000, [(1, 0, .rw), (3, 2, .rw), (13, 4, .rw), (23, 14, .rw), (33, 24, .rw), (35, 34, .rw)]⟩
  | .thmPwmDuty => ⟨0x1800003808, [(16, 4)], 32, .ro, 0x0, [(9, 0, .rw), (19, 10, .ro), (20, 20, .ro), (21, 21, .ro)]⟩
  | .thmTach => ⟨0x1800003900, [(8, 4)], 32, .ro, 0x0, [(23, 0, .ro), (24, 24, .w1c)]⟩
  | .secId => ⟨0x1a00000000, [], 32, .ro, 0x10100, []⟩
  | .secLc => ⟨0x1a00000008, [], 32, .ro, 0x0, [(2, 0, .ro), (4, 3, .ro)]⟩
  | .secMboxCmd => ⟨0x1a00000010, [], 32, .wo, 0x0, [(7, 0, .wo), (18, 8, .wo), (19, 19, .wo)]⟩
  | .secMboxStat => ⟨0x1a00000018, [], 32, .ro, 0x0, [(1, 0, .ro), (15, 8, .ro), (26, 16, .ro)]⟩
  | .secKeystat => ⟨0x1a00000020, [], 32, .ro, 0x0, [(12, 0, .ro)]⟩
  | .secRootstat => ⟨0x1a00000028, [], 32, .ro, 0x0, [(1, 0, .ro), (3, 2, .ro)]⟩
  | .secBoot => ⟨0x1a00000030, [], 32, .ro, 0x0, [(0, 0, .ro), (1, 1, .ro), (2, 2, .ro), (3, 3, .ro), (31, 16, .ro)]⟩
  | .secMboxBuf => ⟨0x1a00000100, [(8, 128)], 64, .rw, 0x0, []⟩
  | .dbgId => ⟨0x1b00000000, [], 32, .ro, 0x10100, []⟩
  | .dbgStat => ⟨0x1b00000008, [], 32, .ro, 0x0, [(1, 0, .ro), (2, 2, .ro), (3, 3, .ro), (5, 4, .ro), (8, 6, .ro), (23, 16, .ro)]⟩
  | .dbgChalId => ⟨0x1b00000010, [], 32, .ro, 0x0, []⟩
  | .dbgClose => ⟨0x1b00000018, [], 32, .w1s, 0x0, [(0, 0, .w1s)]⟩
  | .dbgCoreCtrl => ⟨0x1b00000020, [], 32, .rw, 0x0, [(0, 0, .rw), (1, 1, .rw), (2, 2, .w1s), (3, 3, .w1s)]⟩
  | .dbgEngHalt => ⟨0x1b00000028, [], 32, .rw, 0x0, [(17, 0, .rw)]⟩
  | .dbgFails => ⟨0x1b00000030, [], 32, .w1c, 0x0, []⟩
  | .dbgChal => ⟨0x1b00000040, [(8, 6)], 64, .ro, 0x0, []⟩
  | .ctlFwStat => ⟨0x1700810000, [], 32, .ro, 0x0, [(0, 0, .ro), (1, 1, .ro), (4, 2, .ro), (7, 5, .ro), (11, 8, .ro), (12, 12, .ro)]⟩
  | .ctlFwHo => ⟨0x1700810008, [], 32, .wo, 0x0, [(1, 0, .wo), (2, 2, .wo)]⟩
  | .ctlFwHoTick => ⟨0x1700810010, [], 64, .rw, 0x0, []⟩
  | .ctlFwSig => ⟨0x1700810018, [], 32, .w1s, 0x0, [(0, 0, .w1s), (1, 1, .w1s), (2, 2, .w1s)]⟩
  | .pwrBoot => ⟨0x1900000030, [], 32, .ro, 0x0, [(3, 0, .ro), (7, 4, .ro), (8, 8, .ro), (9, 9, .w1s)]⟩
  | .pwrAvs => ⟨0x1900000038, [], 32, .ro, 0x2ee, [(9, 0, .ro), (10, 10, .ro), (25, 16, .ro)]⟩
  | .tlSync => ⟨0x1300000050, [], 32, .rw, 0x0, [(0, 0, .rw), (1, 1, .w1s)]⟩
  | .tlSyncLast => ⟨0x1300000058, [], 64, .ro, 0x0, [(63, 0, .ro)]⟩
  | .geSvc => ⟨0x1400080060, [(1048576, 18)], 32, .w1s, 0x0, [(0, 0, .w1s)]⟩

/-- Register families, part 1. -/
def regIds1 : List RegId :=
  [.tlId, .tlCtrl, .tlStatus, .tlNowLo, .tlNowHi, .tlFrameOfs, .tlPatternCfg, .tlGuardOvr, .tlEvtDrop, .tlPat, .tlEvt, .loId, .loTree, .loStatus, .loForce, .loSynCtrl, .loSynStatus, .loSynUnlocks, .loSynPre, .feCtrl, .feList, .feStat, .feWdata, .feRdata, .feSafe, .adcCtrl, .adcStat, .adcMapi, .adcMapq, .dacStat, .obsCtrl, .obsLd, .adcOvr, .orxCtrl, .orxStat, .orxDrop, .capDesc, .capStat, .capRel, .rxgCtrl, .rxgStat, .rxgCnt, .rxStat, .rxSat, .chCfg, .chSh, .chTaps, .chFft, .prch, .coef]

/-- Register families, part 2. -/
def regIds2 : List RegId :=
  [.laneMap, .laneMoveReq, .moveStat, .prchOcc, .txa, .txStat, .txLimcnt, .txMiss, .txClip, .txSat, .cfrMiss, .txchCfg, .txchSh, .txchTaps, .txchRun, .cfrCtrl, .cfrStat, .txcoef, .bfId, .bfTileMap, .bfTileStat, .bfElemMask, .bfHealStat, .bfHealCmd, .bfSat, .bfBeamErr, .bfNullVec, .bfWrej, .bfCcCfg, .bfCcCbbase, .bfCcDla, .bfCcDlb, .bfCcUla, .bfCcUlb, .bfCcSet, .bfCcColl, .bfCcSplit, .bfCcUldef, .bfPrb, .bfPrbCfg, .dpdCtrl, .dpdTaps, .dpdNb, .dpdLim, .dpdThm0, .dpdThm1, .dpdThm2, .dpdStat, .dpdTheta, .dpdHo]

/-- Register families, part 3. -/
def regIds3 : List RegId :=
  [.dpdClamp, .dpdWrej, .dpdBank, .dpdId, .dpdDispCtrl, .dpdReq, .dpdPend, .dpdStale, .dpdDispStat, .geDmem, .gePmem, .geId, .geStat, .gePc, .geCyc, .gePost, .gePostStat, .geCpl, .geDoorbell, .geEcc, .geKtab, .geRel, .calId, .calCtrl, .calHrx, .calHrxStat, .calHrxTick, .calXo, .calXoStat, .calCalrxStat, .calStat, .calDc, .calTrim, .calRamp, .calSkip, .lnkId, .lnkLaneMap, .lnkLaneStat, .lnkPortCfg, .lnkPortDa, .lnkPortStat, .lnkPortLate, .lnkPortDrop, .lnkPortMsec, .lnkCcWin, .lnkCcUl, .lnkCcDl, .lnkPtpCfg, .lnkPtpStat, .lnkPtpLat]

/-- Register families, part 4. -/
def regIds4 : List RegId :=
  [.lnkSynceCfg, .lnkSynceStat, .lnkPps, .memId, .memCtrl, .memPart, .memPrio, .memHoldMask, .memLock, .memLockStat, .memFault, .memBankCtrl, .memBankStat, .memBankCe, .memBankUe, .dmaCtrl, .dmaStat, .dmaTrigDrop, .dmaRingCfg, .dmaRingBase, .dmaRingStat, .dmaRingKick, .dmaRingGrant, .evtId, .evtStat, .evtEn, .evtStk, .evtRoute, .evtRpt, .evtLogHead, .evtLog, .t1sCtrl, .t1sStat, .t1sPlca, .pwrId, .pwrReq, .pwrStat, .pwrReqStat, .pwrCfg, .aonWakeEn, .aonLastwake, .aonRtc, .aonAlarm, .aonThm, .aonWcnt, .wrxCfg, .wrxId, .wrxLastcnt, .wrxStat, .wrxCnt]

/-- Register families, part 5. -/
def regIds5 : List RegId :=
  [.monId, .bdacStat, .bdacStrobe, .bdacLdac, .bdacDrnReq, .bdacDrnStat, .bdacDrnFault, .bdacSc0, .bdacSc1, .bdacChCfg, .bdacChCode, .monCtrl, .monStat, .monData, .monTrig, .monLost, .monSeq, .monLim, .monShared, .thmCtrl, .thmStat, .thmBroken0, .thmBroken1, .thmSens, .thmAmpCfg, .thmAmpScl, .thmPwmCfg, .thmPwmDuty, .thmTach, .secId, .secLc, .secMboxCmd, .secMboxStat, .secKeystat, .secRootstat, .secBoot, .secMboxBuf, .dbgId, .dbgStat, .dbgChalId, .dbgClose, .dbgCoreCtrl, .dbgEngHalt, .dbgFails, .dbgChal, .ctlFwStat, .ctlFwHo, .ctlFwHoTick, .ctlFwSig, .pwrBoot]

/-- Register families, part 6. -/
def regIds6 : List RegId :=
  [.pwrAvs, .tlSync, .tlSyncLast, .geSvc]

/-- Every register family of the device. -/
def allRegIds : List RegId := regIds1 ++ regIds2 ++ regIds3 ++ regIds4 ++ regIds5 ++ regIds6

/-- The address of register `ix` of a family: its base plus index times stride, dimension by dimension.  An index is taken within the
family's number of registers, so that no index leads to an address of another family. -/
def regAddrFrom : Nat → List (Nat × Nat) → List Nat → Nat
  | a, (s, n) :: ds, i :: is => regAddrFrom (a + s * (i % n)) ds is
  | a, _, _ => a

/-- The global address of a register (R33 and the chapter's register table). -/
def regAddr (id : RegId) (ix : List Nat) : Nat := regAddrFrom (regRow id).addr (regRow id).dims ix

/-- The indices of offset `off` in the dimensions `ds`; none where the offset is no register of the family. -/
def regIndices : Nat → List (Nat × Nat) → Option (List Nat)
  | off, [] => if off = 0 then some [] else none
  | off, (s, n) :: ds =>
    let i := off / s
    if i < n then (regIndices (off - s * i) ds).map (i :: ·) else none

/-- The register a global address names, when it names one of the family. -/
def regAt (a : Nat) (id : RegId) : Option (RegId × List Nat) :=
  let r := regRow id
  if r.addr ≤ a then (regIndices (a - r.addr) r.dims).map (id, ·) else none

/-- The register at a global address: the one row of the register tables that holds it. -/
def regDecode (a : Nat) : Option (RegId × List Nat) := allRegIds.findSome? (regAt a)

end Sys2Proof.Machine
end

