-- ==== Sys2Proof/Machine/Parts.lean ====
section
/-! DEFINITION. The parts of the machine's state, block by block: what each chapter of spec/ gives the device that is not
a register of the register tables (those are `State.regs`) and not a dictionary value (those are `State.objs`).
Every part is plain data; a record per path, lane, ring, ... is sparse, an unlisted one being at its reset value. -/

namespace Sys2Proof.Machine

/-! ## Time and outputs -/

/-- Time.  `elapsed` counts ticks since power-up and never jumps: every duration of the manual is measured on it.
`count` is the timeline counter of R36, which a step of R38 moves. -/
structure Clk where
  elapsed : Nat
  count : Nat
  /-- when a happening that falls on a boundary last happened: elapsed tick plus 1, by happening and instance -/
  seen : Sparse Nat
deriving DecidableEq, Repr

/-- What the device sends or returns to the outside.  The list `State.out` is the model's own record, newest last. -/
inductive OutMsg where
  /-- response of a fabric or control-network transaction: 0 OK, 1 OFF, 2 RESET_ABORT, and the read data -/
  | bus (status : Nat) (data : List Byte)
  /-- a Diong frame on a transport: a response or a notification (R479) -/
  | diong (t : Transport) (frame : List Byte)
  /-- a frame of the link: port, eCPRI message type (16 ESMC), and the bytes
  from the destination address on, without SecTAG, ICV and FCS; of an ESMC PDU its QL -/
  | link (port kind : Nat) (payload : List Byte)
  /-- a frame on the 10BASE-T1S port (R502) -/
  | t1s (payload : List Byte)
  /-- bytes on the management SPI (R503) -/
  | spi (payload : List Byte)
  /-- the answer to an action asked for through an object or the mailbox: its result code and data -/
  | result (code : Nat) (data : List Byte)
  /-- TAP register contents shifted out (R587) -/
  | tap (bits : Nat) (value : Nat)
  /-- a pulse on an output pin: pin number of the model (0 PPS_OUT) and width in microseconds -/
  | pulse (pin width : Nat)
deriving DecidableEq, Repr

/-! ## Islands, crossings, control complex (chapter 1) -/

/-- One island of R11 (R10, R13, R16, R22). -/
structure Island where
  /-- the power switch is closed -/
  power : Bool
  /-- the island is held in reset -/
  inReset : Bool
  /-- incoming crossings accept requests -/
  openX : Bool
  /-- isolation clamps set -/
  clamped : Bool
  /-- the island's clock runs -/
  clock : Bool
deriving DecidableEq, Repr

/-- The state an unlisted island is in: running. -/
def Island.up : Island := ⟨true, false, true, false, true⟩

/-- A sub-domain: a lane, a tile, a bank or a SerDes lane (R13).  Its clock is its island's. -/
structure SubDom where
  /-- the power switch is closed -/
  power : Bool
  /-- held in reset -/
  inReset : Bool
deriving DecidableEq, Repr

/-- The state an unlisted sub-domain is in: running. -/
def SubDom.up : SubDom := ⟨true, false⟩

/-- What hardware and software did to single flags in the tick `at_` (R6, R7): the flags of W1C fields that hardware set, and the W1S
bits written with 1 while their action was pending, as register address and bit. -/
structure SameTick where
  at_ : Nat
  bits : List (Nat × Nat)
deriving DecidableEq, Repr

/-- A pulse crossing from one island to another (R19). -/
structure Crossing where
  /-- pulses accumulated at the source during the acknowledge phase, 0 to 15 -/
  held : Nat
  /-- pulses delivered to the receiving island -/
  delivered : Nat
deriving DecidableEq, Repr

/-- A pulse crossing that has carried nothing. -/
def Crossing.idle : Crossing := ⟨0, 0⟩

/-- How the QSPI controller drives its lines: command, address and data widths (R504). -/
inductive QspiMode where
  | q111 | q114 | q144 | q444
deriving DecidableEq, Repr

/-- The QSPI controller (R504): mode, address bytes 3 or 4, and clock in MHz. -/
structure Qspi where
  mode : QspiMode
  addr : Nat
  mhz : Nat
deriving DecidableEq, Repr

/-- The controller as it starts: 1-1-1 at 25 MHz (R504). -/
def Qspi.reset : Qspi := ⟨.q111, 3, 25⟩

/-- The two control core pairs (R24 to R26), and their flash controller. -/
structure Ctl where
  /-- the active pair: 0 A, 1 B -/
  active : Nat
  /-- stopped by a lockstep fault -/
  stoppedA : Bool
  stoppedB : Bool
  /-- the pair holds a verified image -/
  verifiedA : Bool
  verifiedB : Bool
  /-- policy firmware runs -/
  fwRuns : Bool
  /-- a lockstep fault of the active pair awaits its promotion at a slot boundary -/
  promoteDue : Bool
  /-- outputs governed by firmware hold their last values and carry the mirage flag (R26) -/
  governedStale : Bool
  qspi : Qspi
deriving DecidableEq, Repr

/-! ## Timeline and admission (chapter 2) -/

/-- The path states of R44. -/
inductive PathState where
  | tx | rx | guard | cal | off
deriving DecidableEq, Repr

/-- The timeline engine (R38, R44, R50). -/
structure Tl where
  /-- a held correction, in ticks (R38) -/
  pendStep : Option Int
  /-- boundary tick of the COMMIT that armed the pending step -/
  stepArmed : Option Nat
  /-- path states, unlisted OFF -/
  path : Sparse PathState
  /-- start tick of the pattern period in which TL_EVT_DROPPED was last raised (R50) -/
  dropPeriod : Option Nat
deriving DecidableEq, Repr

/-- The result of an admission (R62 to R64, R654). -/
structure AdmResult where
  code : Nat
  inst : Nat
  demand : Nat
  capacity : Nat
  shortfall : Nat
  bitmap : Nat
  epoch : Nat
deriving DecidableEq, Repr

/-- The result before any COMMIT: zeros (R654). -/
def AdmResult.zero : AdmResult := ⟨0, 0, 0, 0, 0, 0, 0⟩

/-- A COMMIT under way: who asked, the boundary it names, and the snapshot (R53). -/
structure CommitJob where
  role : Role
  transport : Transport
  session : Nat
  seq : Nat
  /-- 0 NEXT_SYMBOL, 1 NEXT_SLOT, 2 NEXT_FRAME, 3 AT_TICK -/
  boundary : Nat
  tick : Nat
  /-- tick of receipt -/
  receipt : Nat
  /-- the staged object values of the scope at the snapshot -/
  objs : Sparse ObjVal
  /-- the staged register values at the snapshot (operator and service) -/
  regs : Sparse RegVal
  /-- the boundary tick, once accepted (0 before) -/
  at_ : Nat
deriving DecidableEq, Repr

/-- Admission (R55, R61, R82, R654). -/
structure Adm where
  running : Option CommitJob
  waiting : Option CommitJob
  epoch : Nat
  /-- a capacity loss asks for repeated admission (R82) -/
  again : Bool
  /-- last result of any role -/
  last : AdmResult
  /-- last result of tenant n -/
  perTenant : Sparse AdmResult
  /-- repeated admission failed: carriers are removed at the next frame boundary (R82) -/
  dropDue : Bool
  /-- staged objects (by key) and registers (by address) written since the running COMMIT's snapshot (R53) -/
  touched : List Nat
deriving DecidableEq, Repr

/-! ## Events, counters, sessions (chapter 13) -/

/-- A firing waiting to be presented (R492); `tick` is when it happened. -/
structure Firing where
  src : Nat
  inst : Nat
  aux : Nat
  tick : Nat
deriving DecidableEq, Repr

/-- An entry of the event log (R497). -/
structure LogEntry where
  tick : Nat
  src : Nat
  dest : Nat
  inst : Nat
  aux : Nat
  rpt : Nat
deriving DecidableEq, Repr

/-- The event unit; enables, sticky flags and repeat counts are the registers EVT_ENd_b, EVT_STKd_b, EVT_RPTd_s. -/
structure Evt where
  /-- conditions that persist: source, inst, aux (R492) -/
  cond : List (Nat × Nat × Nat)
  waiting : List Firing
  /-- sources presented at `shownAt` (elapsed ticks) -/
  shown : List Nat
  shownAt : Nat
  /-- firings that destinations counted at `shownAt`, their flag set already (R494) -/
  counted : List (Nat × Firing)
  /-- the log, oldest first, at most 1,024 entries -/
  log : List LogEntry
  /-- entries written since power-up -/
  head : Nat
  overwrites : Nat
deriving DecidableEq, Repr

/-- A block transfer under way (R483). -/
structure Transfer where
  index : Nat
  sub : Nat
  ty : Nat
  total : Nat
  data : List Byte
  lastAt : Nat
deriving DecidableEq, Repr

/-- A subscription (R487). -/
structure Subscription where
  index : Nat
  sub : Nat
  /-- 1 periodic, 2 on change -/
  mode : Nat
  /-- ms -/
  period : Nat
  lastSent : Nat
  lastVal : ObjVal
deriving DecidableEq, Repr

/-- A Diong session (R476 to R478). -/
structure Session where
  transport : Transport
  key : Nat
  id : Nat
  /-- S, the last accepted sequence number -/
  seq : Nat
  /-- the response sent to S: op, status, payload -/
  resp : Option (Nat × Nat × List Byte)
  /-- a request is in progress -/
  busy : Bool
  lastFrame : Nat
  transfer : Option Transfer
  subs : List Subscription
  notifySeq : Nat
deriving DecidableEq, Repr

/-- The Diong endpoint and the management SPI (R476, R486, R503). -/
structure Diong where
  sessions : List Session
  /-- SPI request buffers in use, 0 to 2: frames received -/
  spiIn : List (List Byte)
  /-- SPI outgoing frames, oldest first, at most 8; `true` marks a notification -/
  spiOut : List (Bool × List Byte)
  /-- a queued frame was dropped since the last STATUS -/
  spiDropped : Bool
  /-- digests in force: scope 0 to 3 tenants, 4 global -/
  digests : Sparse (List Byte)
  /-- an RW object of a scope was written and the digests are due within 10 ms (R490): elapsed tick of the write -/
  digestDue : Option Nat
  /-- clusters whose replica CRC differed in the last round, awaiting their rewrite (R491) -/
  mismatch : List Nat
  /-- clusters rewritten in answer to a mismatch -/
  rewritten : List Nat
  /-- committed replica CRC and cluster CRCs, 64 bits -/
  crc : Sparse Nat
deriving DecidableEq, Repr

/-! ## Synthesisers and front-end pins (chapter 3) -/

/-- The states of a synthesiser (R90). -/
inductive SynSt where
  | off | calibrating | settling | locked | holdover
deriving DecidableEq, Repr

/-- A synthesiser (R88, R90); the enable is LO_SYNn_CTRL.EN. -/
structure Syn where
  st : SynSt
  preset : Nat
  /-- the frequency word it is tuned to -/
  word : Nat
  fault : Bool
  /-- SETTLING has timed out once -/
  retried : Bool
  /-- elapsed tick of entry to the state -/
  since : Nat
deriving DecidableEq, Repr

/-- A synthesiser at reset. -/
def Syn.reset : Syn := ⟨.off, 0, 0, false, false, 0⟩

/-- A hop under way (R92): its tick, the synthesiser it goes to, and the last step done. -/
structure Hop where
  start : Nat
  target : Nat
  step : Nat
deriving DecidableEq, Repr

/-- What a commit waiting for its boundary has serve from there (R655): the synthesisers of the TX and RX trunks, the presets they start
on, and whether the LO band changes. -/
structure ServeAt where
  tx : Nat
  rx : Nat
  txPreset : Nat
  rxPreset : Nat
  band : Bool
deriving DecidableEq, Repr

/-- The LO island (R86 to R100). -/
structure Lo where
  syn : Sparse Syn
  txServe : Nat
  rxServe : Nat
  hop : Option Hop
  /-- REFCLK is lost -/
  refLoss : Bool
  /-- paths whose divider failed its check (R95) -/
  divFail : List Nat
  /-- transmit symbols that start before this elapsed tick raise no SYN_LATE (R100) -/
  quietUntil : Nat
  /-- a commit waiting for its boundary has the trunks change hands there (R655) -/
  serveAt : Option ServeAt
  /-- a carrier has been enabled by a commit since the last cold or warm start (R655) -/
  started : Bool
  /-- a retune waiting until it can be applied (R99, R655): preset and word -/
  forced : Sparse (Option (Nat × Nat))
  /-- elapsed tick since which the TX trunk has been LOCKED, and those at which the trunks last lost it -/
  txFrom : Nat
  txLostAt : Nat
  rxLostAt : Nat
deriving DecidableEq, Repr

/-- The LO island at reset. -/
def Lo.reset : Lo := ⟨[], 0, 0, none, false, [], 0, none, false, [], 0, 0, 0⟩

/-- Pin phases (R101): GUARD and CAL are one. -/
inductive PinPhase where
  | reset | tx | rx | guard | off
deriving DecidableEq, Repr

/-- What the device does with a pin: drive low or high, release it (high impedance, the pull-up or pull-down acts). -/
inductive Drive where
  | low | high | z
deriving DecidableEq, Repr

/-- A turnaround (R103): the phase it leads to, its start (elapsed), and the last of its steps done: 0 at t+0, 40, 60, 80. -/
structure Turn where
  upto : PinPhase
  start : Nat
  step : Nat
deriving DecidableEq, Repr

/-- A serial transaction waiting for its retry (R119); `guard` is the one it failed in. -/
structure Retry where
  entry : Nat
  fails : Nat
  defers : Nat
  /-- the guard in which it may run: not the one it failed in -/
  guard : Nat
deriving DecidableEq, Repr

/-- A transaction on a path's bus (R114, R115, R121, R122): its list entry and, where it is one, the retry; the elapsed tick of its START; and
what it sends: CMD, ADDR and the data bytes of a write. -/
structure Txn where
  entry : Nat
  retry : Option Retry
  start : Nat
  cmd : Nat
  addr : Nat
  data : List Byte
deriving DecidableEq, Repr

/-- The front end of a path (R101 to R122). -/
structure PathFe where
  phase : PinPhase
  turn : Option Turn
  fea : Drive
  feb : Drive
  /-- LNA bypassed (R106) -/
  lnaByp : Bool
  /-- an LNA change asked for during a turnaround -/
  lnaPend : Option Bool
  /-- elapsed tick of the last LNA change -/
  lnaAt : Option Nat
  /-- FEB keeps this level until this elapsed tick: 20 ticks behind FEA at an LNA change (R106) -/
  febLag : Option (Nat × Drive)
  /-- overload asserted now (R107) -/
  ovl : Bool
  /-- the overload input is ignored before this elapsed tick -/
  ovlFrom : Nat
  /-- lists queued: the next entry of each (R121) -/
  lists : List Nat
  /-- the transaction on the bus -/
  bus : Option Txn
  retries : List Retry
  /-- guards entered since reset, and the guard in which a list last ran -/
  guardNo : Nat
  listGuard : Nat
  /-- guard of the last mismatch of each SAFETY entry (R120) -/
  safety : Sparse (Option Nat)
  lastErr : Nat
  /-- DACs at zero and FEA low until the first symbol boundary after lock (R96) -/
  blanked : Bool
  /-- elapsed tick at which its divider was last resynchronised alone (R95) -/
  divAt : Nat
  /-- the path's analogue is declared failed -/
  failed : Bool
  /-- safe levels stored in NV (R111) -/
  safeNv : Nat
deriving DecidableEq, Repr

/-- A path's front end at reset: the reset phase of R108, both pins inputs with pull-down. -/
def PathFe.reset : PathFe :=
  ⟨.reset, none, .z, .z, false, none, none, none, false, 0, [], none, [], 0, 0, [], 0, false, 0, false, 0⟩

/-- The straps as sampled (R108, R109). -/
structure Straps where
  bootSource : Nat
  plcaNode : Nat
  tenants : Nat
deriving DecidableEq, Repr

/-- The defaults of R109. -/
def Straps.dflt : Straps := ⟨0, 255, 1⟩

/-! ## Converters, observation, captures (chapter 4) -/

/-- The intrinsic corrections of a slice: offset in 1/16 LSB, gain in 2⁻¹⁴, delay in 0.05 ps, bandwidth in 0.1 % (R125). -/
structure SliceCorr where
  offset : Int
  gain : Int
  delay : Int
  bw : Int
deriving DecidableEq, Repr

/-- No correction. -/
def SliceCorr.zero : SliceCorr := ⟨0, 0, 0, 0⟩

/-- An ADC (R124 to R141): converters 2p and 2p + 1 are I and Q of path p, 128 + 2r and 129 + 2r those of ORXr. -/
structure Conv where
  /-- the physical slice at each position -/
  pos : List Nat
  spare : Option Nat
  retired : List Nat
  failed : Bool
  /-- the position the spare shadows -/
  shadow : Nat
  /-- ticks of converter running time left to the end of the step, or of the blind tracking window, at `runs`; none while the timer stands
  still (R128) -/
  left : Nat
  runs : Option Nat
  /-- the spare has failed the last step -/
  missed : Bool
  /-- the spare waits to be swapped in at a boundary (R130) -/
  swapDue : Bool
  /-- corrections are held (R137) -/
  held : Bool
  corr : Sparse SliceCorr
  /-- position phase trims, 0.05 ps -/
  trim : Sparse Int
  /-- spur estimate, 0.1 dBc -/
  spur : Int
  /-- a stuck slice that awaits its emergency swap (R133, R134) -/
  stuck : Option Nat
  /-- elapsed tick of the first sample of its stuck-detection window (R135) -/
  stuckFrom : Nat
deriving DecidableEq, Repr

/-- A converter of an observation receiver; the others, the CALRX pair among them, are as a path's (R149, R354). -/
def orxConv (k : Nat) : Bool := decide (128 ≤ k ∧ k < 136)

/-- Ticks of a rotation step: 256 ms, 128 ms in an ORX (R127, R149). -/
def stepTicks (k : Nat) : Nat := if orxConv k then 62914560 else 125829120

/-- A converter at reset: slices at their own positions, the last the spare; the steps of path p end p × 1,966,080 ticks behind those of
path 0 (R124, R129). -/
def Conv.reset (k : Nat) : Conv :=
  let n := if orxConv k then 16 else 8
  ⟨List.range n, some n, [], false, 0, stepTicks k + (if k < 128 then k / 2 * 1966080 else 0), none, false, false, false, [], [], 0, none, 0⟩

/-- A DAC's unary cells (R142 to R145): converters 2p and 2p + 1 are I and Q of path p. -/
structure DacCells where
  /-- the physical cell at each of the 63 thermometer positions, where it differs from the position -/
  map : Sparse Nat
  /-- the cell that checks, none when none is left -/
  check : Option Nat
  /-- the other spare -/
  other : Option Nat
  /-- the thermometer position under check -/
  at_ : Nat
  /-- the check spare holds that position's switching -/
  dwelling : Bool
  /-- elapsed tick of the dwell's start -/
  dwellAt : Nat
  /-- the new check spare is in its trim dwell (R144) -/
  trimming : Bool
  trims : Sparse Nat
  failedCells : List Nat
deriving DecidableEq, Repr

/-- A DAC at reset: cells 0 to 62 active, 63 and 64 spare. -/
def DacCells.reset : DacCells := ⟨[], some 63, some 64, 0, false, 0, false, [], []⟩

/-- The receive input of a path (R146). -/
inductive RxInput where
  | obsin | rxin | calnet | off
deriving DecidableEq, Repr

/-- The input switch of a path: position, attenuation in dB, and the elapsed tick by which it has settled (R147). -/
structure InSwitch where
  input : RxInput
  att : Nat
  settled : Nat
deriving DecidableEq, Repr

/-- A switch at reset. -/
def InSwitch.reset : InSwitch := ⟨.off, 0, 0⟩

/-- A visit of an observation receiver (R152): path, samples, elapsed tick of its start, best effort, buffer. -/
structure Visit where
  path : Nat
  n : Nat
  start : Nat
  bestEffort : Bool
  buffer : Nat
  /-- the dispatcher's visit (R291), which ranks as a timeline visit -/
  dpd : Bool
  /-- its capture has begun (R152) -/
  opened : Bool
deriving DecidableEq, Repr

/-- An observation receiver (R149 to R155). -/
structure Orx where
  failed : Bool
  input : Nat
  running : Option Visit
  waiting : Option Visit
deriving DecidableEq, Repr

/-- A receiver at reset. -/
def Orx.reset : Orx := ⟨false, 0, none, none⟩

/-- The states of a capture buffer (R162). -/
inductive BufState where
  | free | filling | full
deriving DecidableEq, Repr

/-- A capture buffer and the capture it holds (R157 to R164). -/
structure CapBuf where
  st : BufState
  path : Nat
  /-- staging buffer it drains from: path 0 to 63, 64 + r for ORXr -/
  staging : Nat
  n : Nat
  src : Nat
  /-- counter value of the first X sample -/
  first : Nat
  /-- elapsed tick of the opening -/
  opened : Nat
  ld : Nat
  bank : Nat
  ramping : Bool
  trunc : Bool
  notTx : Bool
  emerg : Bool
  /-- samples valid when cut short -/
  valid : Nat
  /-- elapsed tick at which a turnaround cut it short (R163) -/
  cut : Nat
  /-- spans of elapsed ticks in which the input switch settled: their received samples are not captured (R147) -/
  gaps : List (Nat × Nat)
  /-- elapsed tick at which the buffer became FULL, and ticks its host stream has waited (R81) -/
  fullAt : Nat
  waited : Nat
deriving DecidableEq, Repr

/-- An empty buffer. -/
def CapBuf.reset : CapBuf := ⟨.free, 0, 0, 0, 0, 0, 0, 0, 0, false, false, false, false, 0, 0, [], 0, 0⟩

/-- Converters and captures. -/
structure Cvt where
  conv : Sparse Conv
  dac : Sparse DacCells
  sw : Sparse InSwitch
  orx : Sparse Orx
  buf : Sparse CapBuf
  /-- paths (64 + r for an ORX) whose staging buffer holds undrained data, with the buffer it goes to -/
  staging : Sparse (Option Nat)
  /-- next buffer of a path's pair: 0 or 1 (R152) -/
  pairNext : Sparse Nat
deriving DecidableEq, Repr

/-- Converters at reset. -/
def Cvt.reset : Cvt := ⟨[], [], [], [], [], [], []⟩

/-! ## Receive chain (chapter 5) -/

/-- The lanes of a cluster and the move that runs (R195 to R199). -/
structure Lanes where
  /-- the physical lane at each position 0 to 7 -/
  map : List Nat
  spare : Option Nat
  retired : List Nat
  /-- MOVE_STAT: 0 idle, 1 waiting for the boundary, 2 warming, 3 switching -/
  move : Nat
  pos : Nat
  /-- the move's reason is FAULT -/
  fault : Bool
  result : Nat
  /-- elapsed tick at which warm-up (re)started -/
  warmAt : Nat
  /-- position moves waiting (R600: one fault move per cluster at a time) -/
  waiting : List Nat
  /-- elapsed tick, plus 1, of the last commit boundary that changed a channel of the cluster (R199) -/
  chanAt : Nat
deriving DecidableEq, Repr

/-- Lanes at reset: 0 to 7 active at their own positions, 8 the spare. -/
def Lanes.reset : Lanes := ⟨List.range 8, some 8, [], 0, 0, false, 0, 0, [], 0⟩

/-- SYNC (R172 to R175): requests that wait for their t_s (counter values), and the carriers whose channels still fill
after the last, with its elapsed tick and counter value. -/
structure Sync where
  pending : List Nat
  filling : List Nat
  at_ : Nat
  last : Nat
deriving DecidableEq, Repr

/-- Gain control and limiter of a path (R176 to R186). -/
structure Rxg where
  /-- receive attenuation held, dB -/
  att : Nat
  /-- the previous estimate exceeded ATK_TH -/
  high : Bool
  /-- no attack before this elapsed tick -/
  noAttack : Nat
  /-- no release before this elapsed tick -/
  noRelease : Nat
  /-- every estimate since the last release check was below REL_TH -/
  below : Bool
  /-- every estimate since the last limiter check was below LNA_RET, and symbols of which that held -/
  quiet : Bool
  quietSyms : Nat
  /-- elapsed tick of the last attenuator or LNA change, and the gain state before it: attenuation, 31 with the LNA bypassed -/
  changed : Nat
  was : Nat
  /-- earlier changes and the gain states before them, newest first, at most 32 -/
  hist : List (Nat × Nat)
  /-- latest estimate, 0.25 dBFS, its overrange count, and EARLY -/
  est : Int
  ovr : Nat
  early : Bool
deriving DecidableEq, Repr

/-- Gain control at reset. -/
def Rxg.reset : Rxg := ⟨0, false, 0, 0, true, true, 0, 0, 0, [], 0, 0, false⟩

/-- The antenna REs of one symbol of a carrier on a path (R188 to R190), or of one PRACH occasion. -/
structure ReSym where
  /-- counter value and elapsed tick of the end of the FFT window -/
  tick : Nat
  at_ : Nat
  res : List Cplx
  mirage : Bool
deriving DecidableEq, Repr

/-- No symbol yet. -/
def ReSym.none_ : ReSym := ⟨0, 0, [], false⟩

/-- The receive chain. -/
structure Rx where
  lanes : Sparse Lanes
  /-- receive coefficients: key lane * 8 + channel with lane = c * 9 + k -/
  coef : Sparse (List Nat)
  txcoef : Sparse (List Nat)
  sync : Sync
  gain : Sparse Rxg
  /-- uplink antenna REs of the symbols not yet beamformed, oldest first, key path * 8 + carrier (R245) -/
  re : Sparse (List ReSym)
  /-- latest PRACH REs, key path * 4 + extractor: the repetitions one after the other -/
  prach : Sparse ReSym
  /-- fine-path power of the latest symbol, 0.1 dBFS, key path * 8 + carrier -/
  fine : Sparse Int
  /-- elapsed tick from which the RX trunk has been LOCKED -/
  goodFrom : Nat
  /-- a coefficient roll is due before or after the boundary of a commit, or runs (R200 to R203): the channels it changes -/
  rollPre : List Nat
  rollPost : List Nat
  rolling : Bool
  /-- clusters whose coefficient memories a roll of their own rewrites (R491) -/
  rollOf : List Nat
  /-- elapsed tick up to which a channel's saturations are counted: key path * 16 + channel, 8 on for PRACH extractors (R170) -/
  satAt : Sparse Nat
deriving DecidableEq, Repr

/-- The receive chain at reset. -/
def Rx.reset : Rx := ⟨[], [], [], ⟨[], [], 0, 0⟩, [], [], [], [], 0, [], [], false, [], []⟩

/-! ## Transmit chain (chapter 6) -/

/-- A symbol that a transmit channel read (R211 to R220): its air start as counter value and as elapsed tick, REs with late ones zero, limiter
factor in 2⁻¹². -/
structure TxSym where
  tick : Nat
  at_ : Nat
  res : List Cplx
  scale : Nat
  /-- P_dec and REF of the configuration it starts under, 0.01 dB (R220) -/
  pdec : Int
  ref : Int
  /-- its samples at the carrier rate with their cyclic prefix, and its own postfix, which the next symbol's head adds to (R212 to R214) -/
  wave : List Cplx
  post : List Cplx
deriving DecidableEq, Repr

/-- The carrier spectrum a pulse is synthesised from, and the values that enter A_th but P_FS (R223, R225): weight, band in Hz and centre of each
carrier; the sum of the declared powers as a fixed-point number of mW; PAPR and PL_MARGIN in 0.01 dB. -/
structure CfrBank where
  bands : List (Nat × Nat × Nat)
  pref : Nat
  papr : Nat
  margin : Nat
deriving DecidableEq, Repr

/-- The transmit chain. -/
structure Tx where
  /-- the RE buffer: antenna REs of the symbols next on air, at most two, oldest first; key path * 8 + carrier (R211); the flag says that some of
  the REs are missing (R266) -/
  buf : Sparse (List ReSym)
  /-- the symbols read, oldest first, as long as their samples may still be in the chain; same key -/
  sym : Sparse (List TxSym)
  /-- composite power of the latest TX slot per path, 0.01 dBm, unlisted -32768 -/
  power : Sparse Int
  /-- pulse bank in use, the banks' contents by path (a path not listed: those of the configuration in force), and the counter value of the
  boundary at which the other bank takes over (R225) -/
  bank : Nat
  bank0 : List CfrBank
  bank1 : List CfrBank
  swapAt : Option Nat
  /-- DAC input of a path in the last slot, at 4.9152 GS/s (R215) -/
  dac : Sparse (List Cplx)
  /-- transmit attenuation in force per path, 0.5 dB, unlisted 63 (R222) -/
  att : Sparse Nat
deriving DecidableEq, Repr

/-- Nothing read, nothing transmitted. -/
def Tx.reset : Tx := ⟨[], [], [], 0, [], [], none, [], []⟩

/-- A transmit channel of a path (R208): the delay lines of CF, HB1 to HB7 and I5, newest first, and its samples at 2.4576 GS/s not yet due. -/
structure ChanLine where
  lines : List (List Cplx)
  out : List Cplx
deriving DecidableEq, Repr

/-- Delay lines cleared (R210). -/
def ChanLine.none_ : ChanLine := ⟨List.replicate 9 [], []⟩

/-- A cancellation stage (R224): its last samples, newest first, the number of the next, the peak last kept, and the peaks that generators took, with
the scale of their pulse in fixed point. -/
structure CfrLine where
  line : List Cplx
  n : Nat
  last : Option Nat
  gens : List (Nat × Cplx)
deriving DecidableEq, Repr

/-- No sample seen. -/
def CfrLine.none_ : CfrLine := ⟨[], 0, none, []⟩

/-- What a path's stream has counted and not yet reported: saturations, peaks uncancelled, samples clipped and clamped. -/
structure AirTally where
  sat : Nat
  miss : Nat
  clipped : Nat
  clamped : Nat
deriving DecidableEq, Repr

/-- The stream of a path from its accord to the DACs (R205, stages 5 to 9). -/
structure AirPath where
  /-- channels by carrier -/
  chans : Sparse ChanLine
  /-- delay line of HB0, newest first -/
  hb0 : List Cplx
  stages : List CfrLine
  /-- input of predistortion, newest first, at most `airKeep` samples: stage 8 where the path is in TX, zero elsewhere (R274) -/
  x : List Cplx
  /-- the same as its neighbours see it, the newest samples alone (R273) -/
  seen : List Cplx
  /-- DAC interface of the newest samples, before its corrector -/
  raw : List Cplx
  tally : AirTally
  /-- TX samples clipped and clamped in the running slot (R227, R276) -/
  slotClip : Nat
  slotClamp : Nat
  /-- Σ |composite|² over the running slot (R217) -/
  energy : Nat
  /-- Σ |x|² in 2⁻³⁰ and Σ |x| in 2⁻¹⁶ over the running 512 ticks, and over the 512 before them (R274) -/
  sq : Nat
  mag : Nat
  sqWas : Nat
  magWas : Nat
  /-- DAC input of the running slot, newest first; none where the calibration generator drives it (R215) -/
  dac : List (Option Cplx)
deriving DecidableEq, Repr

/-- A silent path. -/
def AirPath.none_ : AirPath :=
  ⟨[], [], List.replicate 3 CfrLine.none_, [], [], [], ⟨0, 0, 0, 0⟩, 0, 0, 0, 0, 0, 0, 0, []⟩

/-- The streams of all paths: the ticks for which some chain may still hold a sample, and the paths with a stream. -/
structure Air where
  left : Nat
  paths : Sparse AirPath
deriving DecidableEq, Repr

/-- Silence. -/
def Air.reset : Air := ⟨0, []⟩

/-! ## Beam matrix and erg repair (chapter 7) -/

/-- Runs armed by a TILE_START (R243): carrier, direction (0 DL, 1 UL), first group, group count (0 all), and the span of
counter values of the entry they are for. -/
structure Arm where
  cc : Nat
  dir : Nat
  first : Nat
  count : Nat
  from_ : Nat
  upto : Nat
deriving DecidableEq, Repr

/-- A weight vector on its way to the beam matrix (R248 to R250). -/
structure Landing where
  cc : Nat
  dir : Nat
  layer : Nat
  /-- 0 shadow set, 1 codebook -/
  target : Nat
  index : Nat
  words : List Nat
  /-- the block it belongs to, and whether it is the block's last vector -/
  block : Nat
  isLast : Bool
deriving DecidableEq, Repr

/-- The weight sets of a carrier direction (R246 to R250). -/
structure WSet where
  /-- current set: 0 A, 1 B -/
  cur : Nat
  /-- hand-overs so far, and the elapsed tick of the last -/
  count : Nat
  at_ : Nat
  /-- the block now landing and the hand-over count at its first vector -/
  block : Option (Nat × Nat)
deriving DecidableEq, Repr

/-- Set A is current (R246). -/
def WSet.reset : WSet := ⟨0, 0, 0, none⟩

/-- Array healing (R257 to R264). -/
structure Heal where
  /-- 0 idle, 1 stage 1 only, 2 stage 2 running -/
  stage : Nat
  /-- elapsed tick of the latest declaration -/
  td : Nat
  late : Bool
  /-- write generations of every codebook beam at the start of stage 2: key cc * 1024 + beam -/
  gens : Sparse Nat
  /-- elapsed tick at which stage 2 began -/
  begun : Nat
deriving DecidableEq, Repr

/-- The beam matrix. -/
structure Bm where
  /-- the tile at each position 0 to 7 -/
  map : List Nat
  spare : Option Nat
  retired : List Nat
  /-- positions whose tile failed, with the elapsed tick, until the spare takes over (R266) -/
  dead : Sparse Nat
  /-- BF_ELEM_MASK -/
  mask : Nat
  /-- paths whose declaration travels to the beam matrix -/
  declaring : List Nat
  /-- masked paths not yet OFF: elapsed tick t_d, plus 1 -/
  goingOff : Sparse Nat
  /-- paths held OFF by a declaration -/
  held : List Nat
  /-- paths the operator cleared, and the elapsed tick, plus 1, at which their foreground calibration passed -/
  clearing : Sparse Nat
  heal : Heal
  /-- weight sets, key cc * 2 + direction -/
  sets : Sparse WSet
  landing : List Landing
  blocks : Nat
  /-- write generations of codebook beams, key cc * 1024 + beam (R253) -/
  gens : Sparse Nat
  arms : List Arm
  /-- the latest runs: key cc * 2 + direction, elapsed tick of the start plus 1 -/
  runs : Sparse Nat
  /-- the positions that hold groups: position, carrier, direction, group, as admission assigned them (R231) -/
  assign : List (Nat × Nat × Nat × Nat)
  /-- elapsed tick, plus 2, at which a masked path passed its foreground calibration uncleared (R264) -/
  passed : Sparse Nat
deriving DecidableEq, Repr

/-- The beam matrix at reset. -/
def Bm.reset : Bm :=
  ⟨List.range 8, some 8, [], [], 0, [], [], [], [], ⟨0, 0, false, [], 0⟩, [], [], 0, [], [], [], [], []⟩

/-! ## Array predistortion (chapter 8) -/

/-- The predistortion states (R283). -/
inductive DpdSt where
  | identity | ramp | probation | good | fallback | backoffRamp
deriving DecidableEq, Repr

/-- What a detected divergence makes happen at the next symbol boundary (R286, R287). -/
inductive DpdDue where
  | none_ | fallback | identity
deriving DecidableEq, Repr

/-- The predistortion unit of a path (R268 to R290, R295). -/
structure Dpd where
  st : DpdSt
  /-- bank of the set in force, or of the incoming set in RAMP -/
  bank : Nat
  /-- the set in force is identity -/
  ident : Bool
  /-- the fall-back set is identity -/
  oldIdent : Bool
  backoff : Bool
  /-- steps of the backoff ramp taken -/
  backoffStep : Nat
  rampStep : Nat
  /-- step count the ramp began with -/
  rampLen : Nat
  /-- this is the second probation, after the backoff ramp -/
  second : Bool
  result : Nat
  /-- a hand-over check runs, and the elapsed tick of its request -/
  checking : Option Nat
  /-- the bank that is not the set in force holds the fall-back set and is locked -/
  locked : Bool
  /-- E_w of the last counted windows, newest first, at most 64 -/
  hist : List Int
  ew : Int
  eref : Int
  /-- consecutive windows over the bound -/
  overN : Nat
  /-- counted windows of the fall-back check -/
  wins : Nat
  /-- counter value of the last ramp step, from which probation counts (R282) -/
  probAt : Nat
  /-- sum and number of the probation windows -/
  probSum : Int
  probN : Nat
  due : DpdDue
  /-- stale causes, 5 bits (object item 0x3C) -/
  stale : Nat
  /-- the banks' words: key bank * 4096 + word -/
  words : Sparse Nat
  /-- thermal poles and the drive temperature, 2⁻²⁴ °C; T_MOD in 1/64 °C -/
  t0 : Int
  t1 : Int
  theta : Int
  tmod : Int
  /-- the bank in force and whether a ramp ran before they last changed, and the elapsed tick of that change (R164) -/
  was : Nat × Bool
  wasAt : Nat
deriving DecidableEq, Repr

/-- A ramp runs. -/
def Dpd.ramps (x : Dpd) : Bool := decide (x.st = .ramp) || decide (x.st = .backoffRamp)

/-- A unit at reset: IDENTITY, bank 0 (R283). -/
def Dpd.reset : Dpd :=
  ⟨.identity, 0, true, true, false, 0, 0, 14, false, 0, none, false, [], 0, 0, 0, 0, 0, 0, 0, .none_, 0, [], 0, 0, 0, 0, (0, false), 0⟩

/-- A best-effort adaptation job (R293, R294): its path, the elapsed tick of its start and the capture it uses. -/
structure DpdJob where
  path : Nat
  start : Nat
  buf : Option Nat
deriving DecidableEq, Repr

/-- The dispatcher (R291 to R295). -/
structure Disp where
  /-- pending paths: elapsed tick of the request plus 1 -/
  pending : Sparse Nat
  served : List Nat
  jobs : List DpdJob
  last : Nat
  round : Bool
deriving DecidableEq, Repr

/-- The dispatcher at reset. -/
def Disp.reset : Disp := ⟨[], [], [], 0, false⟩

/-! ## Gulas engines (chapter 9) -/

/-- Engine states (GE_STAT.STATE). -/
inductive EngSt where
  | off | loading | idle | running | draining | spare | retired | halted
deriving DecidableEq, Repr

/-- Who a job's completion record goes to (R330). -/
inductive JobFrom where
  | firmware | release | dispatcher | erg
deriving DecidableEq, Repr

/-- A job (R326 to R331). -/
structure Job where
  slot : Nat
  cls : Nat
  id : Nat
  arg : Nat
  deadline : Nat
  src : JobFrom
  /-- running cycles so far -/
  cycles : Nat
  /-- elapsed tick of its post or release (R328) -/
  at_ : Nat
deriving DecidableEq, Repr

/-- A value on its way to a register (R306). -/
inductive FVal where
  | num (n : Nat)
  | acc (c : Cplx)
  /-- sticky SW bits to set -/
  | flags (mask : Nat)
  /-- bits of SW: high, low, value -/
  | sw (hi lo v : Nat)
  /-- addition to BX.BE, or HR set to 15 -/
  | be (v : Nat)
  | hr15
deriving DecidableEq, Repr

/-- A result in flight: the bundle count at which it is seen, the register (D 0-31, accumulators 32-35, register codes
64-95), whether a MAC or CLRA of the last bundle made it. -/
structure Flight where
  due : Nat
  key : Nat
  val : FVal
  mac : Bool
  issued : Nat
deriving DecidableEq, Repr

/-- The bundle being issued: slots taken (0 compute, 1 X, 2 Y, 3 address, 4 control), registers written with their latency,
pointer updates, memory words touched, stores, and where control goes. -/
structure Bundle where
  slots : List Nat
  writes : List (Nat × Nat)
  ptrs : List Nat
  words : List Nat
  /-- slot, address, bytes -/
  stores : List (Nat × Nat × List Byte)
  /-- words stored, for BX.HR -/
  stored : List Nat
  target : Option Nat
  /-- where a loop of count 0 goes, at no cost -/
  skip : Option Nat
  /-- the job ends with the bundle: DONE's result -/
  fin : Option Nat
  /-- the job yields with the bundle: its resume address -/
  yieldTo : Option Nat
  /-- an XFER or XWAIT of it waits: the bundle has not issued (R319, R323) -/
  waiting : Bool
deriving DecidableEq, Repr

/-- No bundle begun. -/
def Bundle.empty : Bundle := ⟨[], [], [], [], [], [], none, none, none, none, false⟩

/-- A transfer descriptor (R323). -/
structure GeXfer where
  faddr : Nat
  out : Bool
  irq : Bool
  laddr : Nat
  len : Nat
  /-- its job has ended: it completes, and tells no other job (R324) -/
  orphan : Bool
deriving DecidableEq, Repr

/-- A kernel slot of an engine (R333). -/
structure Kernel where
  base : Nat
  code : Nat
  id : Nat
  version : Nat
  pbase : Nat
  entry : Nat
  hPreempt : Nat
  hXf : Nat
  hDb : Nat
  cyc : Nat
  persist : Nat
  scratch : Nat
  init : Nat
  fabric : Nat
  root : Nat
  classes : Nat
deriving DecidableEq, Repr

/-- A release entry (R327). -/
structure Release where
  slot : Nat
  arg : Nat
  period : Nat
  phase : Nat
deriving DecidableEq, Repr

/-- An engine. -/
structure Eng where
  st : EngSt
  d : Sparse Nat
  acc : Sparse Cplx
  /-- P, M, B, L, LC, LS, LE, SW, BX by register code -/
  ctl : Sparse Nat
  ira : Nat
  rstack : List Nat
  flight : List Flight
  issue : Nat
  bundle : Bundle
  pc : Nat
  dmem : Sparse Byte
  pmem : Sparse Nat
  kset : Sparse (Option Kernel)
  queue : List Job
  rels : List Release
  /-- class-0 jobs released -/
  ready : List Job
  yielded : Option (Job × Nat)
  job : Option Job
  /-- pending interrupt requests, bit 0 PREEMPT, 1 XF, 2 DOORBELL -/
  irq : Nat
  /-- the job's cycle count at the PREEMPT request -/
  preemptAt : Option Nat
  inPreempt : Bool
  xq : Sparse (List GeXfer)
  cpl : List Nat
  cyc : Nat
  lastRefused : Bool
  moved : Bool
  /-- deadline cycles per second that admission placed -/
  placed : Nat
  /-- it was SPARE when debug halted it -/
  wasSpare : Bool
deriving DecidableEq, Repr

/-- An engine at reset: OFF. -/
def Eng.reset : Eng :=
  ⟨.off, [], [], [], 0, [], [], 0, Bundle.empty, 0, [], [], [], [], [], [], none, none, 0, none, false, [], [], 0, false, false, 0, false⟩

/-- The kernel roll (R335): the spare, the engines still to roll, the kernel objects' bytes of the new set, and the slots it changes. -/
structure Roll where
  spare : Nat
  todo : List Nat
  images : Sparse (List Byte)
  changed : List Nat
deriving DecidableEq, Repr

/-- The engine pool. -/
structure Ge where
  eng : Sparse Eng
  roll : Option Roll
  /-- anti-rollback minimum version by kernel ID (R334); NV -/
  minVer : Sparse Nat
  /-- the number, plus 1, of the engine that an engine replaced (R608); unlisted: its own -/
  number : Sparse Nat
deriving DecidableEq, Repr

/-- The pool at reset. -/
def Ge.reset : Ge := ⟨[], none, [], []⟩

/-! ## Calibration (chapter 10) -/

/-- The value of a calibration item (R338). -/
abbrev CalVal := CalMeas

/-- The nominal value: nothing corrected (R365). -/
def calZero : CalVal := ⟨[], [], [], []⟩

/-- An item on a path (R338, R368, R369): heart term, top-note term, base note at its last evaluation, the ramp's ends and
steps, and the elapsed tick of its last refresh, plus 1. -/
structure CalItem where
  h : CalVal
  p : CalVal
  b : CalVal
  old : CalVal
  tgt : CalVal
  k : Nat
  n : Nat
  last : Nat
deriving DecidableEq, Repr

/-- An item never measured. -/
def CalItem.reset : CalItem := ⟨calZero, calZero, calZero, calZero, calZero, 0, 0, 0⟩

/-- A path's top-note state (R348 to R350, R341). -/
structure TopNote where
  /-- a window placed: counter value of its event plus 1, and its item -/
  due : Option (Nat × Nat)
  /-- windows of item 0x01 so far -/
  count : Nat
  /-- loop gain of the window before, and those at the last heart runs of TX gain and of RX gain, 0.001 dB -/
  prev : Option Int
  ref : Option Int
  refRx : Option Int
  /-- windows of item 0x02 gathered -/
  cells : Nat
deriving DecidableEq, Repr

/-- No window yet. -/
def TopNote.reset : TopNote := ⟨none, 0, none, none, none, 0⟩

/-- A foreground request (R376 to R381). -/
structure FgReq where
  path : Nat
  item : Nat
  force : Bool
  auto : Bool
  /-- elapsed tick of acceptance, then of the run's start -/
  at_ : Nat
  running : Bool
deriving DecidableEq, Repr

/-- Calibration. -/
structure Cal where
  /-- key path * 256 + item -/
  item : Sparse CalItem
  /-- base-note sets: key (set * 64 + path) * 256 + item; unlisted: not valid -/
  base : Sparse (Option CalVal)
  /-- the share of loop-gain drift the TX trim takes, in 1/1000 (base note) -/
  split : Sparse Int
  /-- T_p, 1/64 °C -/
  tp : Sparse Int
  top : Sparse TopNote
  /-- stale bits by path (R372) -/
  stale : Sparse Nat
  /-- consecutive heart runs outside limits: key path * 256 + item -/
  bad : Sparse Nat
  /-- slots of the snapshots taken in this run (R361) -/
  snaps : List Nat
  fg : List FgReq
  /-- paths a service window holds OFF -/
  window : List Nat
  /-- base-note sets changed since their last save, and its elapsed tick plus 1 -/
  dirty : List Nat
  saved : Sparse Nat
  /-- the crystal: gates' offsets newest first, the table and the bins written, last offset and its temperature -/
  gates : List Int
  table : Sparse Int
  written : List Nat
  oLast : Int
  tLast : Int
  /-- the correction the counter runs on in holdover, ppb (R344) -/
  hold : Int
deriving DecidableEq, Repr

/-- Calibration at reset. -/
def Cal.reset : Cal := ⟨[], [], [], [], [], [], [], [], [], [], [], [], [], [], [], 0, 0, 0⟩

/-! ## Packet link and timing (chapter 11) -/

/-- An accepted downlink section, or what later sections of its symbol left of it (R396, R398): air start, layer, first PRB,
BEAM, WSET, REs. -/
structure DlSec where
  tick : Nat
  layer : Nat
  start : Nat
  beam : Nat
  wset : Nat
  res : List Cplx
deriving DecidableEq, Repr

/-- An accepted uplink control entry (R405): air start, layer, PRB range, BEAM code. -/
structure UlCtl where
  tick : Nat
  layer : Nat
  start : Nat
  count : Nat
  code : Nat
deriving DecidableEq, Repr

/-- An uplink symbol in the buffer (R235, R265): start of the symbol or occasion, kind 1 layers, 2 export, 3 PRACH, the streams'
REs, the stale flag per PRB or stream, and the codes. -/
structure UlSym where
  tick : Nat
  kind : Nat
  streams : List (List Cplx)
  flags : List (List Bool)
  codes : List (List Nat)
  /-- the uplink weight set current at the run start -/
  wset : Nat
deriving DecidableEq, Repr

/-- Nothing buffered. -/
def UlSym.none_ : UlSym := ⟨0, 0, [], [], [], 0⟩

/-- A type 7 indication (R410): Event ID, source, instance, aux, additional information, whether it is a cease, the elapsed tick
it was last sent, and its resends. -/
structure Indication where
  id : Nat
  fault : Nat
  element : Nat
  info : Nat
  cease : Bool
  sentAt : Nat
  tries : Nat
deriving DecidableEq, Repr

/-- A port (R390, R406, R409, R410). -/
structure Port where
  /-- the policing bucket: bytes × 491,520, and the elapsed tick it was counted at -/
  tokens : Nat
  tokAt : Nat
  /-- last sequence number received plus 1, by PC_ID; next sequence number to send, by PC_ID -/
  rxSeq : Sparse Nat
  txSeq : Sparse Nat
  /-- indications waiting to be sent: source, instance, repeat count, cease -/
  queue : List (Nat × Nat × Nat × Bool)
  eventId : Nat
  eventSeq : Nat
  unacked : List Indication
  /-- type 5 Requests that wait for their Follow_Up: measurement ID and ingress tick -/
  pending5 : List (Nat × Nat)
  /-- elapsed tick of the last ESMC PDU sent, plus 1, and its QL -/
  esmcAt : Nat
  esmcQl : Nat
  /-- frames sent under the SAK in use: its transmit PN (R413) -/
  pn : Nat
  /-- a rekey has been requested for the SAK in use (R413) -/
  rekey : Bool
deriving DecidableEq, Repr

/-- A port at reset: its bucket is full. -/
def Port.reset : Port := ⟨65536 * 491520, 0, [], [], [], 0, 0, [], [], 0, 0, 0, false⟩

/-- A lane move (R424): port, logical lane, failed and spare physical lane, elapsed failure tick, and the steps done. -/
structure LaneMove where
  port : Nat
  logical : Nat
  failed : Nat
  spare : Nat
  t0 : Nat
  txDone : Bool
  rxDone : Bool
deriving DecidableEq, Repr

/-- The link island.  Port, lane, PTP and SyncE states are the registers LNK_PORTn_STAT, LNK_LANE_STAT, LNK_LANE_MAP,
LNK_PTP_STAT, LNK_SYNCE_STAT and TL_STATUS. -/
structure Lnk where
  dl : Sparse (List DlSec)
  ulCtl : Sparse (List UlCtl)
  ul : Sparse UlSym
  prach : Sparse UlSym
  port : Sparse Port
  moves : List LaneMove
  /-- consecutive Sync intervals within 50 ns, and beyond 200 ns (R417) -/
  good : Nat
  bad : Nat
  /-- identity of the selected master; none without a qualified one -/
  master : Option Nat
  /-- elapsed tick of the squelch (R420), and of the last ESMC PDU received, plus 1 -/
  squelchAt : Nat
  esmcRx : Nat
  /-- elapsed tick of the last PPS_IN edge, plus 1, and a time of day waiting for the next (R422) -/
  ppsAt : Nat
  tod : Option Nat
  /-- capture number of a buffer's next stream (R408) -/
  capNo : Sparse Nat
  /-- the buffer whose stream a port sent last, for the round robin (R80) -/
  capLast : Sparse Nat
  /-- elapsed tick from which a port's granted rate admits its next capture stream (R408) -/
  capAt : Sparse Nat
deriving DecidableEq, Repr

/-- The link at reset. -/
def Lnk.reset : Lnk := ⟨[], [], [], [], [], [], 0, 0, none, 0, 0, 0, none, [], [], []⟩

/-! ## Memory, arbiters, rings (chapter 12) -/

/-- A bank arbiter (R441 to R448): the port that owns the tenure in progress or the parked grant, whether a tenure is in
progress, its beats and the elapsed tick of its grant, and the last port granted at each level. -/
structure Arb where
  owner : Option Nat
  busy : Bool
  beats : Nat
  since : Nat
  last : Sparse Nat
deriving DecidableEq, Repr

/-- An idle arbiter with no parked grant. -/
def Arb.reset : Arb := ⟨none, false, 0, 0, []⟩

/-- A set of resources of the lock manager (R449). -/
structure LockSet where
  buf : Option Nat
  eng : Option Nat
  banks : List Nat
  /-- elapsed tick of the grant -/
  since : Nat
deriving DecidableEq, Repr

/-- A batch of a ring (R454 to R467): started by the timeline; bytes moved in the batch; destination bytes of the present descriptor already
written, and whether its half completion has been; the context of the mover: beats read, those read and not yet written with their
source offsets, and the elapsed tick since which the main mover serves it; gone to the split movers until the next descriptor. -/
structure Batch where
  tl : Bool
  moved : Nat
  done : Nat
  halfDone : Bool
  read : Nat
  held : List (Nat × List Byte)
  since : Nat
  split : Bool
deriving DecidableEq, Repr

/-- No batch. -/
def Batch.none_ : Batch := ⟨false, 0, 0, false, 0, [], 0, false⟩

/-- The memory island.  Bank states, maps and ring states are the registers MEM_BANKb_STAT and DMA_RINGr_STAT. -/
structure Mem where
  /-- SRAM bytes by offset from 0x01_0000_0000; an unlisted byte reads 0 -/
  data : Sparse Byte
  /-- poisoned 8-byte words: offset / 8 (R433) -/
  poison : List Nat
  /-- corrected errors by physical bank: row, word of the bank, elapsed tick (R435) -/
  hist : Sparse (List (Nat × Nat × Nat))
  /-- elapsed tick of a physical bank's latest poisoned word, plus 1 (R436) -/
  poisonAt : Sparse Nat
  /-- physical banks with a second word poisoned within 86,400 s of the first: to be spared (R436) -/
  due : List Nat
  arb : Sparse Arb
  /-- migrations under way: old and new physical bank (R437) -/
  migr : List (Nat × Nat)
  lock : Option LockSet
  lockWait : Option LockSet
  batch : Sparse Batch
  /-- the main mover: 0 in service, 1 under repair, 2 retired -/
  mainMover : Nat
  /-- the ring that has its turn at each level of the main mover (R464) -/
  turn : Sparse Nat
  /-- poisoned words that a repair or a migration has carried over: they ask for no repair any more (R435, R437) -/
  carried : List Nat
  /-- elapsed tick of the scrubber's last pass, plus 1 (R434) -/
  scrubAt : Nat
deriving DecidableEq, Repr

/-- The memory island at reset. -/
def Mem.reset : Mem := ⟨[], [], [], [], [], [], [], none, none, [], 0, [], [], 0⟩

/-! ## Power states (chapter 14) -/

/-- A power-state request (R512): target and the state it was made in, by the codes of PWR_REQ.TARGET; `back` asks for the state at
request as wake-to; `hot` marks the entry of a thermal shutdown, which is no request (R564). -/
structure PwrReq where
  target : Nat
  back : Bool
  from_ : Nat
  hot : Bool
deriving DecidableEq, Repr

/-- The power-state sequencer and the oasis (R506 to R534).  STATE, MOVING and LEVEL are in PWR_STAT. -/
structure Pwr where
  /-- depth of the level; 1 while the paths may not leave OFF -/
  depth : Nat
  req : Option PwrReq
  /-- an upward request waiting for the next abort point (R517) -/
  up : Option PwrReq
  queue : Option PwrReq
  /-- the entry step that runs, 0 none, and the last step of the entry -/
  step : Nat
  last : Nat
  /-- counter value and elapsed tick of acceptance -/
  accepted : Nat
  acceptedAt : Nat
  /-- a wake held for an abort point or the target -/
  wake : Option Nat
  /-- where a wake takes the settled device -/
  wakeTo : Nat
  /-- an exit runs to this state -/
  exit : Option Nat
  /-- the exit has reached DOZE and waits for lock since this elapsed tick (R521) -/
  lockSince : Option Nat
  /-- a change between RUN and SLOTGATE runs to this state (R511) -/
  switch : Option Nat
  /-- steps 3 and 6 are done and not undone -/
  linkIdle : Bool
  down : Bool
  /-- elapsed tick at which DRN_EN fell in step 2 -/
  drnAt : Nat
  /-- the timeline counter, RTC value and epoch recorded at the entry to LISTEN (R513, R520) -/
  ve : Nat
  re : Nat
  /-- the latest wake: RTC cycle since power-up, plus 1, and source (R516) -/
  wakeCycle : Nat
  wakeSrc : Nat
  /-- gated sections, 2p transmit, 2p + 1 receive: elapsed tick of the gating, plus 1 (R509) -/
  gated : Sparse Nat
  /-- elapsed tick of the wake receiver's detection, plus 1, and of its last trim; a trim is due after the frame (R531, R533) -/
  detect : Nat
  trimAt : Nat
  trimDue : Bool
  /-- kinds of rejection since the control complex last ran (R534) -/
  rejected : List Nat
  /-- the last accepted counter of the debug wake word -/
  dbgCount : Nat
deriving DecidableEq, Repr

/-- The sequencer at reset: settled, nothing requested. -/
def Pwr.reset : Pwr :=
  ⟨0, none, none, none, 0, 0, 0, 0, none, 0, none, none, none, false, false, 0, 0, 0, 0, 0, [], 0, 0, false, [], 0⟩

/-! ## Housekeeping: bias, monitors, temperature, fans (chapter 15) -/

/-- A bias channel.  CODE, PEND, MOVING and OUT are in BDAC_CHc_CODE; SAFE, PINCH and RANGE in BDAC_CHc_CFG. -/
structure Bias where
  /-- output target (R540) -/
  target : Nat
  /-- the output is high impedance -/
  hiZ : Bool
  /-- limiting its current since this elapsed tick, plus 1 (R542); 0 not limiting -/
  lim : Nat
  /-- elapsed tick at which the movement began, and steps taken (R541) -/
  from_ : Nat
  steps : Nat
  /-- elapsed tick of the last CODE write, plus 1, and bits 16:0 of CODE before it (R547) -/
  wrote : Nat
  old : Nat
  /-- elapsed tick of the last strobe that loaded, plus 1, and the CODE word and the target before it (R547) -/
  struck : Nat
  word : Nat
  aim : Nat
deriving DecidableEq, Repr

/-- A channel at reset: high impedance. -/
def Bias.reset : Bias := ⟨0, true, 0, 0, 0, 0, 0, 0, 0, 0⟩

/-- A monitor converter (R550 to R554); RUNNING, HELD and ENTRY are in MONm_STAT. -/
structure Mon where
  /-- elapsed tick at which the entry in progress began -/
  since : Nat
  /-- a strobe of its group awaits the next round (R553) -/
  strobed : Bool
  /-- entries with ACT = 1 whose last result lies outside the window -/
  out : List Nat
deriving DecidableEq, Repr

/-- An idle converter. -/
def Mon.reset : Mon := ⟨0, false, []⟩

/-- The thermal and drain model of an amplifier (R556 to R558): T_MOD (1/64 °C), the elapsed tick of its source's last value plus 1,
T_MOD above TMAX, the latest drain current (mA) and voltage (mV), and the drain-current fit: pairs taken and the sums of weight, x,
y, x² and xy with forgetting 63/64, each times 2⁶⁴, x in 2⁻¹⁵. -/
structure Amp where
  tmod : Int
  at_ : Nat
  hot : Bool
  im : Int
  vm : Int
  pairs : Nat
  sums : List Int
deriving DecidableEq, Repr

/-- An amplifier never measured. -/
def Amp.reset : Amp := ⟨0, 0, false, 0, 0, 0, [0, 0, 0, 0, 0]⟩

/-- A fan or heater output (R565 to R567): elapsed ticks of the last DUTY write, of the duty's last rise from 0, and of the last
tachometer edge plus 1. -/
structure Fan where
  wrote : Nat
  rose : Nat
  edge : Nat
deriving DecidableEq, Repr

/-- An output at reset. -/
def Fan.reset : Fan := ⟨0, 0, 0⟩

/-- Housekeeping. -/
structure Hk where
  ch : Sparse Bias
  mon : Sparse Mon
  amp : Sparse Amp
  fan : Sparse Fan
  /-- amplifiers whose channels take their SAFE codes 10 ms after their fault: elapsed tick of the fault, plus 1 -/
  safeAt : Sparse Nat
  /-- every channel takes its SAFE code at this elapsed tick (step 2 of R513) -/
  safeAll : Option Nat
  /-- elapsed tick of the last round, and rounds so far -/
  roundAt : Nat
  rounds : Nat
  /-- consecutive rounds of a broken sensor within 4 °C of its median -/
  good : Sparse Nat
  /-- consecutive rounds below the level's threshold less 2 °C -/
  cool : Nat
  /-- the last round read 115 °C or more -/
  hot : Bool
  /-- elapsed tick of the last carrier drop, plus 1 (R563) -/
  dropAt : Nat
  /-- sums of the path sensors' reported values since the last base evaluation, and their number (R340) -/
  tsum : Sparse Int
  tn : Nat
  /-- consecutive rounds with VDD_CORE off VTARGET, and the elapsed tick of VTARGET's last move plus 1 (R627) -/
  avs : Nat
  avsAt : Nat
deriving DecidableEq, Repr

/-- Housekeeping at reset. -/
def Hk.reset : Hk := ⟨[], [], [], [], [], none, 0, 0, [], 0, false, 0, [], 0, 0, 0⟩

/-! ## Security, debug (chapter 16) -/

/-- An operator root (R579): 0 EMPTY, 1 ENROLLED, 2 REVOKED, and its public key. -/
structure RootSlot where
  st : Nat
  key : List Byte
deriving DecidableEq, Repr

/-- A debug session (R591, R596): its level and path, the elapsed tick at which it expires, and the Diong session that opened it. -/
structure DbgSession where
  level : Nat
  path : Nat
  expiry : Nat
  owner : Option (Transport × Nat)
deriving DecidableEq, Repr

/-- The security core's volatile state and the debug complex.  DBG_STAT holds level, path, suspension and result; SEC_MBOX_STAT and
SEC_MBOX_BUF the mailbox. -/
structure Sec where
  /-- the debug level in force -/
  dbgLevel : Nat
  session : Option DbgSession
  /-- the current challenge: CHAL_ID, 48 bytes, elapsed tick of issue (R589) -/
  chal : Option (Nat × List Byte × Nat)
  chalNo : Nat
  /-- elapsed ticks of the failures of the last 600 s, newest first, and the elapsed tick until which none is issued (R591) -/
  fails : List Nat
  lockout : Option Nat
  /-- the latest attestation report (R585) -/
  report : List Byte
  /-- results of the latest tunnel list (R588) -/
  tunnel : List Byte
  /-- the TAP's instruction, the boundary cells preloaded, and DBG_PORT's last status and data (R587) -/
  tapIr : Nat
  cells : Nat
  portStatus : Nat
  portData : Nat
  /-- banks whose FREEZE the debug tag has set (R596) -/
  frozen : List Nat
  /-- the old CAK and CKN of a tenant's slot, and the elapsed tick of the write of the new one (R578) -/
  oldCak : Sparse (Nat × List Byte)
  /-- version of the running security core firmware -/
  secVersion : Nat
deriving DecidableEq, Repr

/-- The security core at reset: D0, IDCODE selected. -/
def Sec.reset : Sec := ⟨0, none, none, 0, [], none, [], [], 0x02, 0, 0, 0, [], [], 0⟩

/-! ## Spares and live update (chapter 17) -/

/-- Policy firmware hand-over and service life (R599 to R624).  CTL_FW_STAT holds pairs, standby, hand-over state and result;
CTL_FW_SIG the signals. -/
structure Svc where
  /-- the hand-over's boundary: kind (1 slot, 2 frame, 3 tick), and t_b in counter value -/
  tb : Nat
  /-- elapsed tick at which probation (re)started, and ticks of it already passed (R616, R618) -/
  probAt : Nat
  probDone : Nat
  probPaused : Bool
  /-- elapsed tick, plus 1, of an engine's last ECC fault (R606), and of the main mover's last parity error (R611) -/
  eccAt : Sparse Nat
  /-- engines whose second ECC fault came within 86,400 s (R606) -/
  eccDue : List Nat
  moverAt : Nat
  /-- retired engines awaiting a spare: engine, and whether it was retired by command (R607) -/
  takeover : List (Nat × Bool)
  /-- lanes of a cluster that await their fault move (R600): cluster, position -/
  faulty : List (Nat × Nat)
  /-- elapsed tick from which the running powered hour counts (R620) -/
  hourAt : Nat
  /-- pools whose forecast lies below HORIZON (R621) -/
  low : List Nat
deriving DecidableEq, Repr

/-- Nothing under way. -/
def Svc.reset : Svc := ⟨0, 0, 0, false, [], [], 0, [], [], 0, []⟩

/-! ## Start-up (chapter 18) -/

/-- Reset inputs and boot (R629 to R635).  PHASE, CODE and WARM are in PWR_BOOT. -/
structure Boot where
  pwrgood : Bool
  nreset : Bool
  /-- OSC32 has qualified (R630): the elapsed tick at which the RTC started -/
  rtcFrom : Option Nat
  /-- elapsed tick of the start of the last boot -/
  startAt : Nat
  /-- ms from the start of the last boot to DOZE -/
  dozeMs : Nat
  /-- REFCLK is qualified -/
  refclk : Bool
  /-- the loader runs (R635) -/
  loader : Bool
  /-- a warm start's wake-to state; none in a cold start -/
  warmTo : Option Nat
  /-- lifecycle state before the transition that caused this cold start (R572) -/
  oldLc : Option Nat
  /-- boot source 3 waits for GO (R635) -/
  go : Bool
  /-- the actions of step 2 are done -/
  done2 : Bool
  /-- images the loader has taken: 1 security core firmware, 2 policy firmware -/
  images : Sparse (List Byte)
deriving DecidableEq, Repr

/-- Before any start. -/
def Boot.reset : Boot := ⟨false, false, none, 0, 0, true, false, none, none, false, false, []⟩

/-! ## The NV store -/

/-- What the NV store holds, beyond the SRAM-backed state: it survives every start. -/
structure Nv where
  conv : Sparse Conv
  dac : Sparse DacCells
  laneRetired : Sparse (List Nat)
  tileRetired : List Nat
  engRetired : List Nat
  banks : Sparse Nat
  linkLanes : List Nat
  base : Sparse (Option CalVal)
  /-- the crystal table and the bins written (R367) -/
  table : Sparse Int
  written : List Nat
  /-- last good predistortion sets by path (R367) -/
  dpdSets : Sparse (Sparse Nat)
  /-- committed configuration as the last STORE left it (R486) -/
  stored : Option (Sparse ObjVal)
  /-- front-end safe levels by path (R111) -/
  safe : Sparse Nat
  /-- bias channel configuration, SAFE, PINCH and RANGE: BDAC_CHc_CFG by channel -/
  bdac : Sparse Nat
  /-- lifecycle fuses and re-entry fuses used (R569, R572) -/
  lc : Nat
  reentry : Nat
  /-- key slots 1 to 12: generation and material (R573) -/
  keys : Sparse (Nat × List Byte)
  roots : Sparse RootSlot
  /-- private part of the device identity key; 0 before it is generated -/
  idKey : Nat
  /-- minimum VERSION of security core and policy firmware (R584) -/
  minSec : Nat
  minPol : Nat
  wrxCount : Nat
  /-- powered hours, and the hours of each pool's uses (R619, R620) -/
  hours : Nat
  uses : Sparse (List Nat)
  /-- word writes: total, STORE, learning, other; writes by physical word; words taken out of use (R623, R624) -/
  wTotal : Nat
  wStore : Nat
  wLearn : Nat
  wOther : Nat
  words : Sparse Nat
  badWords : List Nat
  /-- images in flash: 0, 1 security core firmware copies, 2, 3 policy slots A, B -/
  flash : Sparse (List Byte)
  /-- the JESD216 SFDP table of the flash on the QSPI port, empty when it has none (R504) -/
  sfdp : List Byte
deriving DecidableEq, Repr

/-- An NV store never written. -/
def Nv.reset : Nv :=
  ⟨[], [], [], [], [], [], [], [], [], [], [], none, [], [], 0, 0, [], [], 0, 0, 0, 0, 0, [], 0, 0, 0, 0, [], [], [], []⟩

end Sys2Proof.Machine
end

