-- ==== Sys2Proof/Machine/State.lean ====
section
/-! DEFINITION. The state of the block, its faults and refusals, and the state at reset.  Plain data throughout.
A register of the register tables lives in `regs` by its address, an object without a register in `objs` by its key; the parts
hold everything else the manual gives the device. -/

namespace Sys2Proof.Machine

/-- The faults of a command.  The manual describes what follows every happening of its table, so no meaning ends in one; the type
has one constructor, which no meaning uses (safe). -/
inductive Fault where
  /-- Raised by no command. -/
  | none_
deriving DecidableEq, Repr

/-- The refusals of a command. -/
inductive Refusal where
  /-- The command's meaning is not written yet: raised by the dispatch alone (safe). -/
  | notModelled (mnemonic : String)
deriving DecidableEq, Repr

/-- The state of the CRV6464. -/
structure State where
  /-- commands waiting, first in first out -/
  pending : List Instr
  clk : Clk
  /-- the model's own: free values drawn so far -/
  freeCtr : Nat
  /-- registers, active copies, by address; an unlisted one holds its reset value -/
  regs : Sparse RegVal
  /-- staged copies of RWS registers (R8) -/
  regsStaged : Sparse RegVal
  /-- dictionary values in force, by index * 256 + sub-index; unlisted: the default -/
  objs : Sparse ObjVal
  /-- staged copies of RWS objects (R8) -/
  objsStaged : Sparse ObjVal
  /-- write generations of objects (R484) -/
  objGen : Sparse Nat
  /-- 48-bit statistics counters, SAT in bit 63 (R499) -/
  stats : Sparse Nat
  islands : Sparse Island
  /-- sub-domains: lane k of cluster c at 9 c + k, tile t at 72 + t, bank b at 81 + b, link lane at 181 + it (R13) -/
  subs : Sparse SubDom
  /-- flags set, and actions asked for again, in the present tick (R6, R7) -/
  fresh : SameTick
  /-- pulse crossings, key destination * 64 + source -/
  xing : Sparse Crossing
  /-- lost flags of R20 by island -/
  lost : Sparse Nat
  /-- the address-fault record of R34: origin tag, address -/
  addrFaultRec : Option (Nat × Nat)
  ctl : Ctl
  evt : Evt
  /-- what the device has sent, newest last -/
  out : List OutMsg
  tl : Tl
  adm : Adm
  diong : Diong
  straps : Straps
  sec : Sec
  lo : Lo
  /-- path front ends -/
  fe : Sparse PathFe
  cvt : Cvt
  rx : Rx
  tx : Tx
  bm : Bm
  /-- predistortion units by path -/
  dpds : Sparse Dpd
  disp : Disp
  ge : Ge
  cal : Cal
  lnk : Lnk
  mem : Mem
  pwr : Pwr
  hk : Hk
  svc : Svc
  boot : Boot
  nv : Nv
  /-- spans of elapsed ticks in which what flags samples held, by key, the newest first; one that still holds has no end -/
  marks : Sparse (List (Nat × Option Nat))
  /-- the transmit streams of the paths -/
  air : Air
deriving DecidableEq, Repr

/-- The machine right after reset: every register at its reset value, nothing listed, nothing waiting. -/
def State.reset : State :=
  { pending := [], clk := ⟨0, 0, []⟩, freeCtr := 0, regs := [], regsStaged := [], objs := [], objsStaged := [],
    objGen := [], stats := [], islands := [], subs := [], fresh := ⟨0, []⟩, xing := [], lost := [], addrFaultRec := none,
    ctl := ⟨0, false, false, false, false, false, false, false, Qspi.reset⟩,
    evt := ⟨[], [], [], 0, [], [], 0, 0⟩, out := [], tl := ⟨none, none, [], none⟩,
    adm := ⟨none, none, 0, false, AdmResult.zero, [], false, []⟩,
    diong := ⟨[], [], [], false, [], none, [], [], []⟩, straps := Straps.dflt, sec := Sec.reset, lo := Lo.reset, fe := [],
    cvt := Cvt.reset, rx := Rx.reset, tx := Tx.reset, bm := Bm.reset, dpds := [], disp := Disp.reset, ge := Ge.reset,
    cal := Cal.reset, lnk := Lnk.reset, mem := Mem.reset, pwr := Pwr.reset, hk := Hk.reset, svc := Svc.reset,
    boot := Boot.reset, nv := Nv.reset, marks := [], air := Air.reset }

end Sys2Proof.Machine
end

