-- ==== Sys2Proof/Machine/Ops.lean ====
section
/-! DEFINITION. The named operations every family of commands shares: registers and their fields, dictionary values,
statistics counters, raising events, time and the frame grid, the pattern, islands and the address map. -/

namespace Sys2Proof.Machine

/-- The outcome of a meaning. -/
abbrev Out := Host.Outcome State Fault Refusal

/-! ## Registers -/

/-- Reset level of fabric port `q` (R440): the engines and the mover ports idle at 0, the maintenance port at the scrubber's. -/
def prioReset (q : Nat) : Nat :=
  if q ≤ 16 then 3 else if q = 17 then 2 else if q ≤ 19 then 3 else if q < 42 then 0 else if q ≤ 43 then 2 else 0

/-- The fixed base of capture buffer `b`, 0 to 127, in the device reserve (R157, R429). -/
def bufBase (b : Nat) : Nat := 0x0100000000 + b * 0x10000

/-- The value a register has at reset.  `tc` is the tenant count of the straps, on which R32 makes the
default OWNER of a ring depend. -/
def regResetVal (tc : Nat) (id : RegId) (ix : List Nat) : Nat :=
  match id, ix with
  | .evtEn, d :: _ => if d = 4 then 0xFFFFFFFF else 0
  | .dmaRingCfg, r :: _ => 0x10 + 2 * (if r / 32 < tc then r / 32 else 4)
  | .memPrio, q :: _ => prioReset q + 4 * prioReset q
  | .memBankStat, b :: _ => if b < 96 then 0x8000 + 4 * b else 0x81FD
  | .capDesc, [_, b] => 2 ^ 60 + (if b < 128 then bufBase b + 1024 * 2 ^ 40 else 0)
  | .memPart, n :: _ => if n < tc then 24 + n * (72 / tc) + (72 / tc) * 128 else 0
  | _, _ => (regRow id).reset

/-- The tenant count of the straps (R109). -/
def State.tenants (s : State) : Nat := s.straps.tenants

/-- The stored value of a register, active copy. -/
def rd (s : State) (id : RegId) (ix : List Nat) : Nat :=
  (spGet (BitVec.ofNat 128 (regResetVal s.tenants id ix)) s.regs (regAddr id ix)).toNat

/-- A write of a register's active copy: the value is cut to the register's width. -/
def wr (s : State) (id : RegId) (ix : List Nat) (v : Nat) : State :=
  let x := BitVec.ofNat 128 (v % 2 ^ (regRow id).width)
  { s with regs := spPut (BitVec.ofNat 128 (regResetVal s.tenants id ix)) s.regs (regAddr id ix) x }

/-- A field of a register. -/
def rf (s : State) (id : RegId) (ix : List Nat) (hi lo : Nat) : Nat := bitsOf (rd s id ix) hi lo

/-- A write of a field by hardware. -/
def wf (s : State) (id : RegId) (ix : List Nat) (hi lo v : Nat) : State :=
  wr s id ix (setBits (rd s id ix) hi lo v)

/-- A field holding a flag. -/
def rbit (s : State) (id : RegId) (ix : List Nat) (i : Nat) : Bool := bitOf (rd s id ix) i

/-- A flag set or cleared by hardware. -/
def wbit (s : State) (id : RegId) (ix : List Nat) (i : Nat) (b : Bool) : State := wf s id ix i i (b2n b)

/-- A flag of the present tick noted (R6, R7): those of an earlier tick are forgotten. -/
def noteBit (s : State) (id : RegId) (ix : List Nat) (i : Nat) : State :=
  let old := if s.fresh.at_ = s.clk.elapsed then s.fresh.bits else []
  { s with fresh := ⟨s.clk.elapsed, (regAddr id ix, i) :: old.filter (· ≠ (regAddr id ix, i))⟩ }

/-- The bits of a register noted in the present tick, as a mask. -/
def State.freshMask (s : State) (id : RegId) (ix : List Nat) : Nat :=
  if s.fresh.at_ = s.clk.elapsed then
    s.fresh.bits.foldl (fun m b => if b.1 = regAddr id ix then Nat.lor m (2 ^ b.2) else m) 0
  else 0

/-- Hardware sets a flag that software clears by writing 1 (R6). -/
def setFlag (s : State) (id : RegId) (ix : List Nat) (i : Nat) : State := noteBit (wbit s id ix i true) id ix i

/-- Software asks again for an action of a W1S bit that is pending: a completion in the same tick leaves it pending (R7). -/
def askAgain (s : State) (id : RegId) (ix : List Nat) (i : Nat) (pending : Bool) : State := if pending then noteBit s id ix i else s

/-- Hardware completes the action of a W1S bit: whether software asked again in the same tick, so that the bit stays set and the action is
performed once more (R7). -/
def State.askedAgain (s : State) (id : RegId) (ix : List Nat) (i : Nat) : Bool := bitOf (s.freshMask id ix) i

/-- That request is taken: it asks for one action more. -/
def takeAgain (s : State) (id : RegId) (ix : List Nat) (i : Nat) : State :=
  { s with fresh := { s.fresh with bits := s.fresh.bits.filter (· ≠ (regAddr id ix, i)) } }

/-- The staged copy of a register: what was staged, else the active value (R8). -/
def rdStaged (s : State) (id : RegId) (ix : List Nat) : Nat :=
  match s.regsStaged.find? (fun p => p.1 = regAddr id ix) with
  | some p => p.2.toNat
  | none => rd s id ix

/-- A staged copy is written: while admission runs on a snapshot, it is noted as written since (R53).  An object's key lies below every
register's address. -/
def State.touch (s : State) (k : Nat) : State :=
  if s.adm.running.isSome then { s with adm := { s.adm with touched := setIns k s.adm.touched } } else s

/-- A write of the staged copy of a register. -/
def wrStaged (s : State) (id : RegId) (ix : List Nat) (v : Nat) : State :=
  let x := BitVec.ofNat 128 (v % 2 ^ (regRow id).width)
  ({ s with regsStaged := spInsert (regAddr id ix) x (spErase s.regsStaged (regAddr id ix)) }).touch (regAddr id ix)

/-- A 32-bit hardware copy counts up and holds at its limit (R499). -/
def bump (s : State) (id : RegId) (ix : List Nat) (n : Nat := 1) : State :=
  wr s id ix (min 0xFFFFFFFF (rd s id ix + n))

/-- A count held in a field counts up and holds at the field's limit. -/
def bumpField (s : State) (id : RegId) (ix : List Nat) (hi lo : Nat) (n : Nat := 1) : State :=
  wf s id ix hi lo (min (2 ^ (hi - lo + 1) - 1) (rf s id ix hi lo + n))

/-- The fields of a register by access: the field table's, or the whole register under the table's code. -/
def regFields (id : RegId) : List (Nat × Nat × Acc) :=
  let r := regRow id
  if r.fields = [] then [(r.width - 1, 0, r.acc)] else r.fields

/-- W1C registers whose bits are flags of their own; every other wide W1C field is a count, and a write of 1
to its lowest bit clears it whole. -/
def w1cBitwise : RegId → Bool
  | .evtStk | .memHoldMask | .bdacDrnFault | .bdacSc0 | .bdacSc1 | .txStat => true
  | _ => false

/-- W1S and WO registers whose action is a command of its own in the table: the plain register write leaves them. -/
def ownCommand : RegId → Bool
  | .laneMoveReq | .coef | .txcoef | .loForce | .capRel | .bfHealCmd | .dpdHo | .dpdReq | .dpdBank | .gePost | .geDoorbell
  | .calHrx | .memLock | .dmaRingKick | .pwrReq | .bdacStrobe | .monTrig | .secMboxCmd | .dbgClose
  | .dbgCoreCtrl | .dbgEngHalt | .ctlFwHo | .ctlFwSig | .geSvc | .pwrBoot | .tlSync | .loSynCtrl
  | .bdacDrnReq | .bdacChCode | .bdacDrnFault | .evtStk => true
  | _ => false

/-- The active value after a write of `v` by software, one field (R5).  Flags of `keep` were set by hardware in the same tick and
remain set (R6). -/
def writeField (bitwise : Bool) (keep v old : Nat) (f : Nat × Nat × Acc) : Nat :=
  match f with
  | (hi, lo, .rw) => setBits old hi lo (bitsOf v hi lo)
  | (hi, lo, .w1c) =>
    if ¬ bitwise then (if bitOf v lo ∧ ¬ bitOf keep lo then setBits old hi lo 0 else old)
    else setBits old hi lo (Nat.lor (bitsOf old hi lo - (Nat.land (bitsOf old hi lo) (bitsOf v hi lo)))
                                    (Nat.land (bitsOf old hi lo) (bitsOf keep hi lo)))
  | (hi, lo, .w1s) => setBits old hi lo (Nat.lor (bitsOf old hi lo) (bitsOf v hi lo))
  | _ => old

/-- The staged value after a write of `v` by software, one field (R5). -/
def stageField (v old : Nat) (f : Nat × Nat × Acc) : Nat :=
  match f with
  | (hi, lo, .rws) => setBits old hi lo (bitsOf v hi lo)
  | _ => old

/-- Hardware puts a whole value into a register: its reserved bits stay 0 (R9). -/
def wrFields (s : State) (id : RegId) (ix : List Nat) (v : Nat) : State :=
  wr s id ix ((regFields id).foldl (fun o f => setBits o f.1 f.2.1 (bitsOf v f.1 f.2.1)) (rd s id ix))

/-- A software write of a register: every field acts by its access code, reserved bits are ignored (R5, R9). -/
def writeFields (s : State) (id : RegId) (ix : List Nat) (v : Nat) : State :=
  let fs := regFields id
  let s1 := if fs.any (fun f => f.2.2 = .rws) then
      wrStaged s id ix (fs.foldl (fun o f => stageField v o f) (rdStaged s id ix)) else s
  if fs.any (fun f => f.2.2 = .rw ∨ f.2.2 = .w1c ∨ f.2.2 = .w1s) then
    wr s1 id ix (fs.foldl (fun o f => writeField (w1cBitwise id) (s.freshMask id ix) v o f) (rd s1 id ix)) else s1

/-! ## Dictionary values -/

/-- The key of an object: index and sub-index. -/
def okey (index sub : Nat) : Nat := index * 256 + sub

/-- `n` copies of the big-endian bytes of `v`. -/
def repBytes (n width v : Nat) : List Byte := (List.replicate n (beBytes width v)).flatten

/-- The register, or the field of one, that is the home of a dictionary value given in a register's layout:
such an object has no value of its own. -/
def objHome (index sub : Nat) : Option (RegId × List Nat × Nat × Nat) :=
  let path (id : RegId) (hi lo : Nat) : Option (RegId × List Nat × Nat × Nat) :=
    let p := (index - 0x8000) / 0x40
    some (id, [p / 8, p % 8], hi, lo)
  if 0x8000 ≤ index ∧ index < 0x9000 then
    if sub ≠ 1 then none else
    match (index - 0x8000) % 0x40 with
    | 0x13 => path .feWdata 63 0
    | 0x1B => path .obsCtrl 4 0
    | 0x20 => path .rxgCtrl 4 0
    | 0x2C => path .txa 5 0
    | _ => none
  else match index, sub with
  | 0x2000, 1 => some (.tlPatternCfg, [], 31, 0)
  | 0x2000, 2 => some (.tlFrameOfs, [], 31, 0)
  | 0x3000, 1 => none
  | 0x4010, 1 => some (.tlSync, [], 0, 0)
  | 0x6000, 1 => some (.dpdDispCtrl, [], 31, 0)
  | 0x9300, 1 => some (.lnkPtpCfg, [], 63, 0)
  | 0x9310, 1 => some (.lnkSynceCfg, [], 31, 0)
  | 0xB000, 2 => some (.thmCtrl, [], 17, 16)
  | 0xB000, 4 => some (.thmCtrl, [], 31, 24)
  | 0xB001, 1 => some (.thmStat, [], 15, 0)
  | 0xB001, 2 => some (.thmStat, [], 17, 16)
  | 0xB001, 3 => some (.thmStat, [], 25, 19)
  | 0xB020, 1 => some (.pwrAvs, [], 9, 0)
  | 0xB020, 2 => some (.pwrAvs, [], 25, 16)
  | 0xB101, 1 => some (.pwrStat, [], 2, 0)
  | 0xB101, 2 => some (.pwrReqStat, [], 3, 0)
  | 0xB101, 4 => some (.pwrStat, [], 6, 4)
  | 0xB103, 1 => some (.aonLastwake, [], 3, 0)
  | 0xB103, 2 => some (.aonLastwake, [], 6, 4)
  | 0xB103, 3 => some (.aonLastwake, [], 7, 7)
  | 0xB103, 4 => some (.aonLastwake, [], 55, 8)
  | 0xC000, 1 => some (.secLc, [], 2, 0)
  | 0xC000, 3 => some (.secLc, [], 4, 3)
  | 0xC011, 4 => some (.secRootstat, [], 7, 0)
  | 0xC040, 1 => some (.secKeystat, [], 31, 0)
  | 0xC080, 1 => some (.secBoot, [], 31, 0)
  | 0xC050, 1 => some (.dbgStat, [], 1, 0)
  | 0x1060, 1 => some (.pwrBoot, [], 3, 0)
  | 0x1060, 2 => some (.pwrBoot, [], 7, 4)
  | 0xD202, 1 => some (.ctlFwStat, [], 1, 1)
  | 0xD202, 2 => some (.ctlFwStat, [], 4, 2)
  | 0xD202, 3 => some (.ctlFwStat, [], 7, 5)
  | 0xD202, 4 => some (.ctlFwStat, [], 11, 8)
  | 0xB102, 1 => some (.aonWakeEn, [], 7, 0)
  | 0xB102, 2 => some (.aonWakeEn, [], 8, 8)
  | 0xB104, 1 => some (.aonAlarm, [], 47, 0)
  | 0xB105, 1 => some (.aonThm, [], 7, 0)
  | 0xB105, 2 => some (.aonThm, [], 15, 8)
  | 0xB106, 1 => some (.pwrCfg, [], 0, 0)
  | 0xB106, 2 => some (.pwrCfg, [], 16, 1)
  | 0xB110, 1 => some (.wrxCfg, [], 0, 0)
  | 0xB110, 2 => some (.wrxCfg, [], 20, 1)
  | 0xB110, 3 => some (.wrxId, [], 31, 0)
  | 0xB300, 2 => some (.bdacLdac, [], 31, 0)
  | 0xB301, 1 => some (.bdacDrnReq, [], 63, 0)
  | 0xB300, 3 => some (.bdacStat, [], 31, 0)
  | 0xB301, 2 => some (.bdacDrnStat, [], 63, 0)
  | 0xB301, 3 => some (.bdacDrnFault, [], 63, 0)
  | 0xB410, 1 => some (.monShared, [], 63, 0)
  | 0xD010, 4 => some (.memCtrl, [], 12, 1)
  | 0x1020, 5 => some (.t1sPlca, [], 7, 0)
  | 0x1020, 6 => some (.t1sPlca, [], 31, 24)
  | 0x1020, 7 => some (.t1sPlca, [], 15, 8)
  | 0x1020, 8 => some (.t1sPlca, [], 23, 16)
  | i, sb =>
    if 0x5000 ≤ i ∧ i < 0x5008 then
      match sb with
      | 1 => some (.bfCcCfg, [i - 0x5000], 63, 0)
      | 2 => some (.bfCcCbbase, [i - 0x5000], 63, 0)
      | 3 => some (.bfCcDla, [i - 0x5000], 63, 0)
      | 4 => some (.bfCcDlb, [i - 0x5000], 63, 0)
      | 5 => some (.bfCcUla, [i - 0x5000], 63, 0)
      | 6 => some (.bfCcUlb, [i - 0x5000], 63, 0)
      | _ => none
    else if 0x6100 ≤ i ∧ i < 0x6140 then
      let p := i - 0x6100
      match sb with
      | 1 => some (.dpdCtrl, [p / 8, p % 8], 31, 0)
      | 2 => some (.dpdTaps, [p / 8, p % 8], 63, 0)
      | 3 => some (.dpdNb, [p / 8, p % 8], 63, 0)
      | 4 => some (.dpdLim, [p / 8, p % 8], 63, 0)
      | 5 => some (.dpdThm0, [p / 8, p % 8], 63, 0)
      | 6 => some (.dpdThm1, [p / 8, p % 8], 63, 0)
      | _ => none
    else if 0x9000 ≤ i ∧ i < 0x9004 then
      match sb with
      | 1 => some (.lnkPortCfg, [i - 0x9000], 63, 0)
      | 2 => some (.lnkPortDa, [i - 0x9000], 47, 0)
      | 3 => some (.lnkPortMsec, [i - 0x9000], 31, 0)
      | _ => none
    else if 0x9020 ≤ i ∧ i < 0x9028 then
      match sb with
      | 1 => some (.lnkCcWin, [i - 0x9020], 22, 0)
      | 2 => some (.lnkCcWin, [i - 0x9020], 54, 32)
      | _ => none
    else if 0x9030 ≤ i ∧ i < 0x9038 then
      match sb with
      | 1 => some (.lnkCcUl, [i - 0x9030], 31, 0)
      | 2 => some (.lnkCcDl, [i - 0x9030], 31, 0)
      | _ => none
    else if 0x9302 ≤ i ∧ i < 0x9306 then some (.lnkPtpLat, [i - 0x9302], 31, 0)
    else if 0xA020 ≤ i ∧ i < 0xA024 then
      match sb with
      | 1 => some (.memPart, [i - 0xA020], 6, 0)
      | 2 => some (.memPart, [i - 0xA020], 13, 7)
      | _ => none
    else if 0xA100 ≤ i ∧ i < 0xA180 then
      match sb with
      | 1 => some (.dmaRingCfg, [i - 0xA100], 63, 0)
      | _ => none
    else if 0xB200 ≤ i ∧ i < 0xB280 then
      match sb with
      | 1 => some (.bdacChCfg, [i - 0xB200], 63, 0)
      | 2 => some (.bdacChCode, [i - 0xB200], 15, 0)
      | 3 => some (.bdacChCode, [i - 0xB200], 47, 32)
      | 4 => some (.bdacChCfg, [i - 0xB200], 31, 16)
      | 5 => some (.bdacChCfg, [i - 0xB200], 47, 32)
      | _ => none
    else if 0xB400 ≤ i ∧ i < 0xB402 then
      match sb with
      | 1 => some (.monCtrl, [i - 0xB400], 31, 0)
      | 4 => some (.monData, [i - 0xB400], 63, 0)
      | _ => none
    else if 0xB500 ≤ i ∧ i < 0xB540 then
      match sb with
      | 1 => some (.thmAmpCfg, [i - 0xB500], 63, 0)
      | 2 => some (.thmAmpScl, [i - 0xB500], 63, 0)
      | _ => none
    else if 0xB600 ≤ i ∧ i < 0xB660 then
      match sb with
      | 1 => some (.thmSens, [i - 0xB600], 15, 0)
      | 2 => some (.thmSens, [i - 0xB600], 17, 16)
      | _ => none
    else if 0xE010 ≤ i ∧ i < 0xE018 ∧ sb = 3 then some (.evtEn, [4, i - 0xE010], 31, 0)
    else if 0xB700 ≤ i ∧ i < 0xB704 then
      match sb with
      | 1 => some (.thmPwmCfg, [i - 0xB700], 63, 0)
      | 2 => some (.thmPwmDuty, [i - 0xB700], 9, 0)
      | _ => none
    else none

/-- The catalogue's default intervals in ms (R341): what runs at no fixed interval has 0. -/
def calInterval : Nat → Nat
  | 0x10 | 0x11 | 0x15 => 2000
  | 0x12 => 4000
  | 0x13 => 1000
  | 0x14 | 0x17 => 10000
  | _ => 0

/-- The default set temperatures TSET0 to TSET7, 0.01 °C (R364). -/
def tsetDefault : List Byte := ([-4000, -2000, 0, 2500, 5000, 7500, 9500, 11000].map (fun v => beBytes 2 (ofSigned 16 v))).flatten

/-- The default kernel image of a slot, 16 for object 0x5904: the device's own, whose header is that of a kernel image (R333); that of slot 0, the
adaptation kernel, declares 1,200,000 cycles (R296). -/
def defaultImage (slot : Nat) : List Byte :=
  let b := Config.defaultKernel slot
  let be (n v : Nat) : List Byte := (List.range n).map (fun i => BitVec.ofNat 8 (v >>> (8 * (n - 1 - i))))
  let head := be 4 0x47554C4B ++ be 2 1
  let cyc := if slot = 0 then be 4 1200000 else sliceBytes b 0x14 4
  if sliceBytes b 0 6 = head ∧ sliceBytes b 0x14 4 = cyc then b else head ++ sliceBytes b 6 14 ++ cyc ++ b.drop 0x18

/-- The default of an object (the Default column; R32, R84, R215 for those that depend on the straps). -/
def objDefault (tc index sub : Nat) : ObjVal :=
  if 0x8000 ≤ index ∧ index < 0x9000 then
    match (index - 0x8000) % 0x40 with
    | 0x28 => .num (if 0 < tc then 10000 / tc else 0)
    | 0x29 => .num (if 1 < tc then 10000 / tc else 0)
    | 0x2A => .num (if 2 < tc then 10000 / tc else 0)
    | 0x2B => .num (if 3 < tc then 10000 / tc else 0)
    | item => match objRow (0x8000 + item) 1 with
      | some r => .num r.dflt
      | none => .num 0
  else if index = 0x2020 then .num (sub - 1)
  else if 0x4100 ≤ index ∧ index < 0x4200 then .num (match sub with
    | 1 => if index < 0x4180 then bufBase (index - 0x4100) else 0
    | 2 => if index < 0x4180 then 65536 else 0
    | 3 => 4
    | _ => 0)
  else if 0x4400 ≤ index ∧ index < 0x4408 ∧ sub = 6 then .bytes (repBytes 176 4 0)
  -- WIN_OFS not written: no number, it follows the carrier (R187)
  else if 0x4400 ≤ index ∧ index < 0x4408 ∧ sub = 3 then .bytes []
  else if 0x4500 ≤ index ∧ index < 0x4508 ∧ sub = 3 then .bytes (repBytes 176 4 0)
  else if 0x4480 ≤ index ∧ index < 0x4484 ∧ sub = 2 then .bytes (repBytes 16 4 0)
  else if 0x5010 ≤ index ∧ index < 0x5018 then .bytes (repBytes 16 2 0xFFF)
  else if 0x5910 ≤ index ∧ index < 0x5914 then .bytes (repBytes 16 2 0xFFF)
  else if 0x5400 ≤ index ∧ index < 0x5408 then .bytes (repBytes 1024 8 0)
  else if index = 0x7020 then .bytes tsetDefault
  else if 0x7100 ≤ index ∧ index < 0x7200 ∧ sub = 1 then .num (calInterval (index - 0x7100))
  else if 0x7100 ≤ index ∧ index < 0x7200 ∧ sub = 2 then .num (if index = 0x7101 then 100 else 4 * calInterval (index - 0x7100))
  else if index = 0x5800 then .bytes (repBytes 768 1 0)
  else if index = 0x5801 then .bytes (repBytes 64 1 0)
  else if index = 0x5802 then .bytes ((List.range 64).map (fun p => BitVec.ofNat 8 p))
  else if index = 0x5803 then .bytes (repBytes 1024 1 0)
  else if index = 0x5904 then .bytes (defaultImage 16)
  else if 0xD140 ≤ index ∧ index < 0xD150 then
    .bytes (if index < 0xD144 then defaultImage (index - 0xD140) else [])
  else match objRow index sub with
    | some r => if r.ty = .domain ∨ r.ty = .string then .bytes [] else .num r.dflt
    | none => .num 0

/-- The registers whose values a DOMAIN object lists, 8 bytes each: the sequences and windows of the monitors. -/
def objBlock (index sub : Nat) : Option (List (RegId × List Nat)) :=
  if (index = 0xB400 ∨ index = 0xB401) ∧ (sub = 2 ∨ sub = 3) then
    some ((List.range 16).map (fun e => (if sub = 2 then RegId.monSeq else RegId.monLim, [index - 0xB400, e])))
  else none

/-- The value of an object at reset: its register's reset value where it has a register. -/
def dfltObj (s : State) (index sub : Nat) : ObjVal :=
  match objBlock index sub with
  | some l => .bytes ((l.map (fun r => beBytes 8 (regResetVal s.tenants r.1 r.2))).flatten)
  | none => match objHome index sub with
    | some (id, ix, hi, lo) => .num (bitsOf (regResetVal s.tenants id ix) hi lo)
    | none => objDefault s.tenants index sub

/-- The committed value of a dictionary object, or of its register. -/
def State.obj (s : State) (index sub : Nat) : ObjVal :=
  match objBlock index sub with
  | some l => .bytes ((l.map (fun r => beBytes 8 (rd s r.1 r.2))).flatten)
  | none =>
    match objHome index sub with
    | some (id, ix, hi, lo) => .num (rf s id ix hi lo)
    | none =>
      let v := spGet (objDefault s.tenants index sub) s.objs (okey index sub)
      if 0x4400 ≤ index ∧ index < 0x4408 ∧ sub = 3 ∧ v = .bytes [] then .num (winDefault s (index - 0x4400)) else v
where
  /-- ⌊normal CP / 4⌋ of a carrier, in samples of its rate: the CP is 144 / 2048 of the FFT size, an extended one a quarter (R187). -/
  winDefault (s : State) (cc : Nat) : Nat :=
    let n := (spGet (.num 0) s.objs (okey (0x4400 + cc) 1)).toNat
    if bitOf (spGet (.num 0) s.objs (okey (0x2010 + cc) 6)).toNat 7 then n / 16 else 9 * n / 512

/-- A committed number. -/
def State.onum (s : State) (index sub : Nat) : Nat := (s.obj index sub).toNat

/-- Committed bytes. -/
def State.obytes (s : State) (index sub : Nat) : List Byte := (s.obj index sub).toBytes

/-- The per-path object with an item number (R469). -/
def State.pobj (s : State) (p item : Nat) : Nat := s.onum (0x8000 + p * 0x40 + item) 1

/-- A committed value set: in the writable fields of its register when it has one, else in the object store; its generation
rises (R484). -/
def State.setObj (s : State) (index sub : Nat) (v : ObjVal) : State :=
  let s1 := { s with objGen := spMod 0 s.objGen (okey index sub) (fun g => (g + 1) % 2 ^ 32) }
  match objBlock index sub with
  | some l => (l.zip (List.range l.length)).foldl (fun t x => wrFields t x.1.1 x.1.2 (beNum (sliceBytes v.toBytes (8 * x.2) 8))) s1
  | none =>
  match objHome index sub with
  | some (id, ix, hi, lo) =>
    let w := setBits (rd s id ix) hi lo v.toNat
    wr s1 id ix ((regFields id).foldl (fun o f => match f.2.2 with
      | .rw | .rws => setBits o f.1 f.2.1 (bitsOf w f.1 f.2.1)
      | _ => o) (rd s id ix))
  | none => { s1 with objs := spPut (objDefault s.tenants index sub) s.objs (okey index sub) v }

/-- A per-path object set. -/
def State.setPobj (s : State) (p item v : Nat) : State := s.setObj (0x8000 + p * 0x40 + item) 1 (.num v)

/-! ## Events (R492) -/

/-- The order of firings of one cycle: by instance, then aux (R492). -/
def firingBefore (a b : Firing) : Bool :=
  a.tick < b.tick || (a.tick = b.tick && (a.inst < b.inst || (a.inst = b.inst && a.aux < b.aux)))

/-- A firing put in its place among the firings waiting; one that equals a waiting one of its cycle is the same firing. -/
def insFiring (f : Firing) : List Firing → List Firing
  | [] => [f]
  | g :: t => if f = g then g :: t else
      if g.src = f.src && firingBefore f g then f :: g :: t else g :: insFiring f t

/-- The carrier, port, ring and buffer classes of R495: 0 management only, 1 all, 2 tenant by carrier,
3 by port, 4 by ring. -/
def evtClass (src : Nat) : Nat :=
  if src = 0 ∨ (5 ≤ src ∧ src ≤ 9) ∨ src = 140 ∨ src = 141 ∨ src = 143 then 1
  else if src = 50 ∨ src = 51 ∨ (64 ≤ src ∧ src ≤ 68) ∨ (132 ≤ src ∧ src ≤ 136) then 2
  else if src = 1 ∨ (128 ≤ src ∧ src ≤ 130) ∨ (137 ≤ src ∧ src ≤ 139) ∨ src = 145 then 3
  else if (167 ≤ src ∧ src ≤ 170) ∨ src = 172 ∨ src = 173 ∨ src = 174 then 4
  else 0

/-- The tenant that owns a carrier, or 0xFF (object 0x2010 + n sub-index 2). -/
def State.ccOwner (s : State) (cc : Nat) : Nat := if cc < 8 then s.onum (0x2010 + cc) 2 else 0xFF

/-- The owner of a ring (DMA_RINGr_CFG.OWNER); a half completion's instance is the ring number plus 128. -/
def State.ringOwner (s : State) (r : Nat) : Nat := if r < 256 then rf s .dmaRingCfg [r % 128] 3 1 else 0xFF

/-- Whether a firing is entitled at a destination (R493): 0 to 3 tenants, 4 management. -/
def entitled (s : State) (src inst d : Nat) : Bool :=
  if d = 4 then true
  else if ¬ d < s.tenants then false
  else match evtClass src with
    | 1 => true
    | 2 => decide (s.ccOwner inst = d)
    | 3 => decide (inst = d)
    | 4 => decide (s.ringOwner inst = d)
    | _ => false

/-- The enable of a source at a destination. -/
def evtEnabled (s : State) (src d : Nat) : Bool := rbit s .evtEn [d, src / 32] (src % 32)

/-- The sticky flag of a source at a destination. -/
def evtSticky (s : State) (src d : Nat) : Bool := rbit s .evtStk [d, src / 32] (src % 32)

/-- A firing counted at a destination whose flag is set, or that finds 16 waiting: the repeat count rises to 255 (R493). -/
def coalesceAt (s : State) (src d : Nat) : State := bumpField s .evtRpt [d, src] 7 0

/-- The five destinations. -/
def dests : List Nat := [0, 1, 2, 3, 4]

/-- Raise an event: one firing of a source with its instance and aux (R492).  A source holds up to 16 waiting;
the seventeenth is counted as coalesced at each entitled destination whose enable is 1. -/
def raise (s : State) (src inst aux : Nat) : State :=
  let f : Firing := ⟨src, inst, aux, s.clk.elapsed⟩
  if 16 ≤ (s.evt.waiting.filter (fun g => g.src = src)).length ∧ f ∉ s.evt.waiting then
    dests.foldl (fun s d => if entitled s src inst d && evtEnabled s src d then coalesceAt s src d else s) s
  else { s with evt := { s.evt with waiting := insFiring f s.evt.waiting } }

/-- "Not applicable" of R492. -/
def NA : Nat := 0xFFFF

/-- A persisting condition begins: its status rises, which is a firing (R492). -/
def condOn (s : State) (src inst aux : Nat) : State :=
  if (src, inst, aux) ∈ s.evt.cond then s
  else raise { s with evt := { s.evt with cond := s.evt.cond ++ [(src, inst, aux)] } } src inst aux

/-- A port. -/
def State.port (s : State) (n : Nat) : Port := spGet Port.reset s.lnk.port n
/-- A port set. -/
def State.setPort (s : State) (n : Nat) (x : Port) : State :=
  { s with lnk := { s.lnk with port := spPut Port.reset s.lnk.port n x } }
/-- The status of a source has returned to 0: a cease indication to each tenant destination that holds the flag set (R496). -/
def cease (s : State) (src inst : Nat) : State :=
  [0, 1, 2, 3].foldl (fun s d =>
    if evtSticky s src d then
      s.setPort d { s.port d with queue := (s.port d).queue ++ [(src, inst, rf s .evtRpt [d, src] 7 0, true)] }
    else s) s

/-- A persisting condition ends; with the last one of its source the status returns to 0 (R492, R496). -/
def condOff (s : State) (src inst aux : Nat) : State :=
  if (src, inst, aux) ∈ s.evt.cond then
    let s1 := { s with evt := { s.evt with cond := s.evt.cond.filter (fun c => c ≠ (src, inst, aux)) } }
    if s1.evt.cond.any (fun c => c.1 = src) then s1 else cease s1 src inst
  else s

/-! ## Counters (R499, R500) -/

/-- The limit of a statistics counter. -/
def statMax : Nat := 2 ^ 48 - 1

/-- A statistics counter counts up: at its limit it holds, sets SAT (bit 63) and raises CTR_SATURATED once. -/
def stat (s : State) (index sub : Nat) (n : Nat := 1) : State :=
  let v := spGet 0 s.stats (okey index sub)
  if bitOf v 63 then s
  else if v + n > statMax then
    raise { s with stats := spPut 0 s.stats (okey index sub) (statMax + 2 ^ 63) } 230 index sub
  else { s with stats := spPut 0 s.stats (okey index sub) (v + n) }

/-- A per-path statistics counter. -/
def statPath (s : State) (p item : Nat) (n : Nat := 1) : State := stat s (0x8000 + p * 0x40 + item) 1 n

/-! ## Free values and outputs -/

/-- Draw a free value: a number below `bound` of which nothing is known. -/
def draw (s : State) (bound : Nat) : Nat × State :=
  (Config.freeNat s.freeCtr % bound, { s with freeCtr := s.freeCtr + 1 })

/-- Draw free bytes. -/
def drawBytes (s : State) (n : Nat) : List Byte × State :=
  ((List.range n).map (Config.freeByte s.freeCtr), { s with freeCtr := s.freeCtr + 1 })

/-- Something the device sends. -/
def emit (s : State) (m : OutMsg) : State := { s with out := s.out ++ [m] }

/-! ## Time (R40, R41) -/

/-- Ticks in a radio frame. -/
def frameTicks : Nat := 4915200
/-- Ticks in half a subframe, 0.5 ms. -/
def halfTicks : Nat := 245760
/-- Ticks in a millisecond. -/
def msTicks : Nat := 491520
/-- Ticks in a second. -/
def secTicks : Nat := 491520000
/-- Ticks in a cycle of the RTC: 32.768 kHz. -/
def rtcTicks : Nat := 15000

/-- The symbol length without the long-CP extra (R41). -/
def symTicks (mu : Nat) (ecp : Bool) : Nat := if ecp then 10240 else 35072 / 2 ^ mu

/-- Symbols in a slot. -/
def symsPerSlot (ecp : Bool) : Nat := if ecp then 12 else 14

/-- Position of a tick in its frame (R40). -/
def framePos (ofs t : Nat) : Nat := (t + frameTicks - ofs % frameTicks) % frameTicks

/-- The symbol boundary a position in half a subframe is, counted from the half subframe's start. -/
def symAt (mu : Nat) (ecp : Bool) (h : Nat) : Option Nat :=
  if ecp then (if h % 10240 = 0 then some (h / 10240) else none)
  else if h = 0 then some 0
  else if 256 < h ∧ (h - 256) % symTicks mu false = 0 then some ((h - 256) / symTicks mu false) else none

/-- Whether a tick is a symbol boundary of a numerology. -/
def isSymbol (ofs mu : Nat) (ecp : Bool) (t : Nat) : Bool := (symAt mu ecp (framePos ofs t % halfTicks)).isSome

/-- Whether a tick is a slot boundary of a numerology. -/
def isSlot (ofs mu : Nat) (ecp : Bool) (t : Nat) : Bool :=
  if mu = 0 then framePos ofs t % 491520 = 0
  else match symAt mu ecp (framePos ofs t % halfTicks) with
    | some k => k % symsPerSlot ecp = 0
    | none => false

/-- Whether a tick is a frame boundary (R40). -/
def isFrame (ofs t : Nat) : Bool := framePos ofs t = 0

/-- The first symbol boundary at or after a tick. -/
def nextSymbol (ofs mu : Nat) (ecp : Bool) (t : Nat) : Nat :=
  let h := framePos ofs t % halfTicks
  if ecp then t + (ceilDiv h 10240 * 10240 - h)
  else if h = 0 then t
  else t + (256 + max 1 (ceilDiv (h - 256) (symTicks mu false)) * symTicks mu false - h)

/-- The first slot boundary at or after a tick. -/
def nextSlot (ofs mu : Nat) (ecp : Bool) (t : Nat) : Nat :=
  if mu = 0 then
    let h := framePos ofs t % 491520
    t + (ceilDiv h 491520 * 491520 - h)
  else
    let h := framePos ofs t % halfTicks
    if ecp then t + (ceilDiv h 122880 * 122880 - h)
    else if h = 0 then t
    else
      let l := 14 * symTicks mu false
      t + (256 + max 1 (ceilDiv (h - 256) l) * l - h)

/-- The first frame boundary at or after a tick. -/
def nextFrame (ofs t : Nat) : Nat :=
  let h := framePos ofs t
  if h = 0 then t else t + (frameTicks - h)

/-- The frame offset in force. -/
def State.frameOfs (s : State) : Nat := rd s .tlFrameOfs []
/-- The reference numerology in force. -/
def State.refMu (s : State) : Nat := rf s .tlPatternCfg [] 2 1
/-- Extended CP of the reference numerology. -/
def State.refEcp (s : State) : Bool := rbit s .tlPatternCfg [] 3
/-- FDD in force. -/
def State.fdd (s : State) : Bool := rbit s .tlPatternCfg [] 0
/-- The timeline counter now. -/
def State.now (s : State) : Nat := s.clk.count
/-- The present tick is a frame boundary. -/
def State.atFrame (s : State) : Bool := isFrame s.frameOfs s.now
/-- The present tick is a slot boundary of the reference numerology. -/
def State.atSlot (s : State) : Bool := isSlot s.frameOfs s.refMu s.refEcp s.now
/-- The present tick is a symbol boundary of the reference numerology. -/
def State.atSymbol (s : State) : Bool := isSymbol s.frameOfs s.refMu s.refEcp s.now

/-! ## The pattern (R42, R44) -/

/-- A pattern entry: duration, direction (0 D, 1 U, 2 G), CAL. -/
structure PatEntry where
  dur : Nat
  dir : Nat
  cal : Bool
deriving DecidableEq, Repr

/-- A pattern entry read from its 32-bit word (TL_PATn). -/
def patOfWord (w : Nat) : PatEntry := ⟨bitsOf w 22 0, bitsOf w 24 23, bitOf w 25⟩

/-- The committed pattern; empty while entry 0 has no duration. -/
def State.pattern (s : State) : List PatEntry :=
  if rf s .tlPat [0] 22 0 = 0 then []
  else (List.range (rf s .tlPatternCfg [] 12 4 + 1)).map (fun n => patOfWord (rd s .tlPat [n]))

/-- The pattern period. -/
def patPeriod (p : List PatEntry) : Nat := (p.map (·.dur)).sum

/-- The entry that a position in the period lies in: its index, start and the entry. -/
def patFind : List PatEntry → Nat → Nat → Nat → Option (Nat × Nat × PatEntry)
  | [], _, _, _ => none
  | e :: t, i, st, pos => if pos < st + e.dur then some (i, st, e) else patFind t (i + 1) (st + e.dur) pos

/-- Position of a tick in the pattern period; the pattern restarts at every frame boundary (R43). -/
def patPos (p : List PatEntry) (ofs t : Nat) : Nat :=
  if patPeriod p = 0 then 0 else framePos ofs t % patPeriod p

/-- The entry now running. -/
def State.entryNow (s : State) : Option (Nat × Nat × PatEntry) :=
  patFind s.pattern 0 0 (patPos s.pattern s.frameOfs s.now)

/-- The timeline fires events and derives path states (R42). -/
def State.tlRuns (s : State) : Bool := rbit s .tlCtrl [] 0 && decide (s.pattern ≠ [])

/-! ## Islands and the address map (R11, R33, R35) -/

/-- An island's record. -/
def State.island (s : State) (i : Nat) : Island := spGet Island.up s.islands i

/-- An island's record set. -/
def State.setIsland (s : State) (i : Nat) (x : Island) : State :=
  { s with islands := spPut Island.up s.islands i x }

/-! ## What flags samples (R98, R135, R137, R164, R295)

A span of elapsed ticks is kept for each reason to flag samples, so that a capture or window is judged by what held while its samples were
taken, however late it is evaluated. -/

/-- The key of a reason: 1 RX trunk not LOCKED, 2 TX trunk not LOCKED, 4 policy firmware stopped; by path or pair of converters 3 divider failed, 5
stuck slice, 6 spur estimate beyond its limit, 7 predistortion set stale, 8 lane faulty, 10 OFF or blanked, 11 OFF; by carrier 9 SYNC fill. -/
def markKey (reason i : Nat) : Nat := reason * 65536 + i
/-- The spans of a reason, newest first. -/
def State.spans (s : State) (k : Nat) : List (Nat × Option Nat) := spGet [] s.marks k
/-- A reason holds from now on. -/
def markOn (s : State) (k : Nat) : State :=
  match s.spans k with
  | (_, none) :: _ => s
  | l => { s with marks := spPut [] s.marks k ((s.clk.elapsed, none) :: l) }
/-- A reason holds no more. -/
def markOff (s : State) (k : Nat) : State :=
  match s.spans k with
  | (a, none) :: l => { s with marks := spPut [] s.marks k (if a < s.clk.elapsed then (a, some s.clk.elapsed) :: l else l) }
  | _ => s
/-- A reason holds, or does not, from now on. -/
def markIf (s : State) (k : Nat) (b : Bool) : State := if b then markOn s k else markOff s k
/-- A reason held from elapsed tick `a` up to `b`. -/
def markSpan (s : State) (k a b : Nat) : State := if a < b then { s with marks := spPut [] s.marks k ((a, some b) :: s.spans k) } else s
/-- A reason held at an elapsed tick from `a` up to `b`. -/
def State.marked (s : State) (k a b : Nat) : Bool :=
  (s.spans k).any (fun x => decide (x.1 < b) && (match x.2 with
    | none => true
    | some e => decide (a < e)))

/-- Requests to the island receive OFF (R21, R22). -/
def Island.off (i : Island) : Bool := ¬ i.power || i.inReset || ¬ i.openX

/-- The windows of R33, with the island that decodes each. -/
inductive Window where
  | rom | sram | nv
  | cluster (c : Nat)
  | bm | lo | tl
  | engine (e : Nat)
  | link | fabric | events | hk | aon | sec | dbg
deriving DecidableEq, Repr

/-- The window of a 40-bit address (R33); none outside every window (R34). -/
def windowOf (a : Nat) : Option Window :=
  if a ≤ 0x3FFFF then some .rom
  else if 0x0100000000 ≤ a ∧ a ≤ 0x0102FFFFFF then some .sram
  else if 0x0200000000 ≤ a ∧ a ≤ 0x02003FFFFF then some .nv
  else if 0x1000000000 ≤ a ∧ a ≤ 0x1007FFFFFF then some (.cluster ((a - 0x1000000000) / 0x1000000))
  else if 0x1100000000 ≤ a ∧ a ≤ 0x1100FFFFFF then some .bm
  else if 0x1200000000 ≤ a ∧ a ≤ 0x1200FFFFFF then some .lo
  else if 0x1300000000 ≤ a ∧ a ≤ 0x1300FFFFFF then some .tl
  else if 0x1400000000 ≤ a ∧ a < 0x1400000000 + 18 * 0x100000 then some (.engine ((a - 0x1400000000) / 0x100000))
  else if 0x1500000000 ≤ a ∧ a ≤ 0x1500FFFFFF then some .link
  else if 0x1600000000 ≤ a ∧ a ≤ 0x1600FFFFFF then some .fabric
  else if 0x1700000000 ≤ a ∧ a ≤ 0x1700FFFFFF then some .events
  else if 0x1800000000 ≤ a ∧ a ≤ 0x1800FFFFFF then some .hk
  else if 0x1900000000 ≤ a ∧ a ≤ 0x1900FFFFFF then some .aon
  else if 0x1A00000000 ≤ a ∧ a ≤ 0x1A00FFFFFF then some .sec
  else if 0x1B00000000 ≤ a ∧ a ≤ 0x1B00FFFFFF then some .dbg
  else none

/-- The island of a window (R11).  R11 and R33 do not say which island decodes the events window: CTL is taken, whose control network
carries the events (DESIGN CHOICE, assumption 93). -/
def Window.island : Window → Nat
  | .rom | .nv | .events => 31
  | .sram | .fabric => 12
  | .cluster c => c
  | .bm => 8
  | .lo => 9
  | .tl => 10
  | .engine e => 13 + e
  | .link => 11
  | .hk => 33
  | .aon => 35
  | .sec => 32
  | .dbg => 34

/-- The last column of R33: who reaches a window.  The mailbox, offsets 0 to 0xFFF, is the part of the security
window that the control cores reach (chapter 16, Registers).  Nothing writes the boot ROM: R33 puts "read only" after the debug port
alone, and a control core's write is taken as one R35 turns away (DESIGN CHOICE, assumption 94).  The NV store's top 64 KiB are the
security core's (R574). -/
def reaches (m : Master) (a : Nat) (write : Bool) : Window → Bool
  | .rom => match m with
    | .pair _ | .debug => ¬ write
    | _ => false
  | .sram => true
  | .nv => match m with
    | .pair _ => a < 0x02003F0000
    | .sec => true
    | _ => false
  | .cluster _ | .bm => match m with
    | .pair _ | .engine _ | .dma | .debug => true
    | _ => false
  | .lo | .tl | .link | .fabric | .events | .hk | .aon => match m with
    | .pair _ | .debug => true
    | _ => false
  | .engine _ => match m with
    | .pair _ | .dma | .debug => true
    | _ => false
  | .sec => match m with
    | .sec => true
    | .pair _ => a - 0x1A00000000 < 0x1000
    | _ => false
  | .dbg => match m with
    | .pair _ | .debug => true
    | _ => false

/-- The address fault of R34 and R35: the event carries the origin tag and address bits [39:24], and the record keeps
both. -/
def addrFault (s : State) (tag a : Nat) : State :=
  raise { s with addrFaultRec := some (tag, a) } 225 tag (bitsOf a 39 24)

/-- A pair is stopped. -/
def State.pairStopped (s : State) (p : Nat) : Bool := if p = 0 then s.ctl.stoppedA else s.ctl.stoppedB
/-- A master whose transactions are discarded: a pair that a lockstep fault has stopped (R24). -/
def State.silenced (s : State) : Master → Bool
  | .pair p => s.pairStopped p
  | _ => false

/-! ## Sub-domains (R13) -/

/-- Key of lane `k` of cluster `c`, of a tile, a bank, a link lane. -/
def subLane (c k : Nat) : Nat := 9 * c + k
/-- Key of a tile. -/
def subTile (t : Nat) : Nat := 72 + t
/-- Key of a physical bank. -/
def subBank (b : Nat) : Nat := 81 + b
/-- Key of a SerDes lane. -/
def subSerdes (l : Nat) : Nat := 181 + l

/-- A sub-domain's record. -/
def State.sub (s : State) (k : Nat) : SubDom := spGet SubDom.up s.subs k
/-- Requests to a sub-domain receive OFF, and its port is masked (R21, R445). -/
def SubDom.off (x : SubDom) : Bool := ¬ x.power || x.inReset
/-- A sub-domain powers down; its island's clock and the other sub-domains go on (R13). -/
def subDown (s : State) (k : Nat) : State := { s with subs := spPut SubDom.up s.subs k ⟨false, true⟩ }
/-- A sub-domain powers up and leaves reset (R13). -/
def subUp (s : State) (k : Nat) : State := { s with subs := spPut SubDom.up s.subs k SubDom.up }

/-- The firewall violation of R30. -/
def firewall (s : State) (tag : Nat) : State := raise s 224 tag NA

/-- Whether a device register may be written with an origin tag: the device tag, or the debug tag at D2 or above. -/
def State.tagDeviceOrD2 (s : State) (tag : Nat) : Bool := tag = 4 || (tag = 5 && decide (2 ≤ s.sec.dbgLevel))

/-- The island that decodes a register is powered down, in reset or clamped: requests to it receive OFF (R21, R22). -/
def State.regOff (s : State) (id : RegId) (ix : List Nat) : Bool :=
  (windowOf (regAddr id ix)).any (fun w => (s.island w.island).off)

/-- A write of a device register that is a command of its own (R21, R30): OFF has no effect at the target, a tag that may not write it is
a firewall violation, else the write does what it asks. -/
def tagged (s : State) (id : RegId) (ix : List Nat) (tag : Nat) (f : State → State) : State :=
  if s.regOff id ix then emit s (.bus 1 [])
  else if s.tagDeviceOrD2 tag then f s
  else firewall s tag

end Sys2Proof.Machine
end

