-- ==== Sys2Proof/Machine/Signal.lean ====
section
/-! DEFINITION. Signal arithmetic of the chains (chapters 5, 6 and 8): samples, filters, mixers, transforms, peaks.  Samples are integers; ideal
values carry `fxBits` fraction bits.  Where the manual gives an ideal value and not the word lengths or the rounding that reach it, which of the
two integers beside it comes out is free (assumption 111). -/

namespace Sys2Proof.Machine

/-! ## Complex numbers -/

/-- Complex sum. -/
def cadd (a b : Cplx) : Cplx := ⟨a.re + b.re, a.im + b.im⟩

/-- Complex product. -/
def cmul (a b : Cplx) : Cplx := ⟨a.re * b.re - a.im * b.im, a.re * b.im + a.im * b.re⟩

/-- Complex conjugate. -/
def cconj (a : Cplx) : Cplx := ⟨a.re, -a.im⟩

/-! ## Samples -/

/-- The integer that a stage makes of an ideal value: itself when it is one, else one of the two beside it, which is free. -/
def dspRound (site : Nat) (v : Int) : Int :=
  let q := v / 2 ^ fxBits
  if v % 2 ^ fxBits = 0 then q else if Config.dspRoundsUp site v then q + 1 else q

/-- Both parts. -/
def dspRoundC (site : Nat) (c : Cplx) : Cplx := ⟨dspRound site c.re, dspRound site c.im⟩

/-- A sample saturated to a width. -/
def satC (bits : Nat) (c : Cplx) : Cplx :=
  ⟨clampI (-(2 ^ (bits - 1))) (2 ^ (bits - 1) - 1) c.re, clampI (-(2 ^ (bits - 1))) (2 ^ (bits - 1) - 1) c.im⟩

/-- Samples saturated to a width, and how many of the newest `n` saturated. -/
def satNew (bits n : Nat) (l : List Cplx) : List Cplx × Nat :=
  (l.map (satC bits), ((l.drop (l.length - n)).filter (fun c => satC bits c ≠ c)).length)
/-- Samples saturated to a width, and how many saturated. -/
def satAll (bits : Nat) (l : List Cplx) : List Cplx × Nat := (l.map (satC bits), (l.filter (fun c => satC bits c ≠ c)).length)

/-- Complex product of fixed-point numbers. -/
def fxCMul (a b : Cplx) : Cplx := ⟨fxMul a.re b.re - fxMul a.im b.im, fxMul a.re b.im + fxMul a.im b.re⟩

/-- The unit vector of a turn. -/
def fxUnit (t : Int) : Cplx := ⟨fxCosTurn t, fxSinTurn t⟩

/-- A sample as a fixed-point number. -/
def fxOf (c : Cplx) : Cplx := ⟨c.re * 2 ^ fxBits, c.im * 2 ^ fxBits⟩

/-- I² + Q². -/
def magSq (c : Cplx) : Nat := (c.re * c.re + c.im * c.im).toNat

/-- The elements whose distance from the end is a multiple of `m`: the samples on a grid of `m` that the last one lies on. -/
def everyM {α : Type} (m : Nat) (l : List α) : List α :=
  ((l.reverse.zip (List.range l.length)).filter (fun e => e.2 % m = 0)).reverse.map (·.1)

/-- The last `n` elements. -/
def lastN {α : Type} (n : Nat) (l : List α) : List α := l.drop (l.length - n)

/-- The greatest number of hundredths of a dB, from -20,000 up, whose power ratio is at most a / b. -/
def dbFloor (a b : Nat) : Int := go 16 (-20000) 20000
where
  /-- Halving the span. -/
  go : Nat → Int → Int → Int
    | 0, lo, _ => lo
    | f + 1, lo, hi =>
      let m := (lo + hi) / 2
      if m = lo then lo else if b * pow10 m ≤ a * 2 ^ fxBits then go f m hi else go f lo m

/-! ## Filters (R168, R169, R208) -/

/-- A stage's output from an accumulator: round half up, shift (R168). -/
def accOut (sh : Nat) (a : Int) : Int := (a + 2 ^ (sh - 1)) / 2 ^ sh

/-- acc = Σ x c over the taps, `w` the samples newest first. -/
def firAcc (c : List Int) (w : List Cplx) : Cplx := (c.zip w).foldl (fun a e => ⟨a.re + e.1 * e.2.re, a.im + e.1 * e.2.im⟩) ⟨0, 0⟩

/-- A filter over samples oldest first, its delay line `w` newest first. -/
def firGo (c : List Int) (sh : Nat) : List Cplx → List Cplx → List Cplx
  | _, [] => []
  | w, x :: t =>
    let w' := (x :: w).take c.length
    let a := firAcc c w'
    ⟨accOut sh a.re, accOut sh a.im⟩ :: firGo c sh w' t

/-- The delay line of `n` taps after the samples. -/
def lineAfter (n : Nat) (w x : List Cplx) : List Cplx := (x.reverse ++ w).take n

/-- The taps of a symmetric filter from its stored half, outermost first (R169). -/
def symTaps (n : Nat) (half : List Int) : List Int := (List.range n).map (fun k => half.getD (min k (n - 1 - k)) 0)

/-- The taps of a halfband of 4m + 3 from its m + 1 off-centre coefficients, outermost first; the centre is 2¹⁶ (R169). -/
def hbTaps (m : Nat) (half : List Int) : List Int :=
  (List.range (4 * m + 3)).map (fun k =>
    let d := (max k (2 * m + 1)) - (min k (2 * m + 1))
    if d = 0 then 65536 else if d % 2 = 1 then half.getD ((2 * m + 1 - d) / 2) 0 else 0)

/-- Coefficients `i` to `i + n - 1` of a channel's memory, 18-bit two's complement. -/
def coefSlice (l : List Nat) (i n : Nat) : List Int := (List.range n).map (fun k => toSigned 18 (l.getD (i + k) 0))

/-- The filters of a channel: taps and shift of D5 or I5, of HB1 to HB7, and of CF when it is enabled (R169, R208). -/
structure ChanFilters where
  five : List Int × Nat
  hb : List (List Int × Nat)
  cf : Option (List Int × Nat)
deriving DecidableEq, Repr

/-- The filters from the words of CHn_TAPS and CHn_SH and the coefficient memory. -/
def chanFilters (taps sh : Nat) (cfEn : Bool) (coef : List Nat) : ChanFilters :=
  let shift (i : Nat) : Nat := 12 + bitsOf sh (4 * i + 3) (4 * i)
  let t5 := bitsOf taps 6 0
  let tc := bitsOf taps 13 8
  ⟨(symTaps t5 (coefSlice coef 0 ((t5 + 1) / 2)), shift 0),
   (List.range 7).map (fun i =>
     let m := bitsOf taps (4 * i + 19) (4 * i + 16)
     (hbTaps m (coefSlice coef (60 + 12 * i) (m + 1)), shift (i + 1))),
   if cfEn then some (symTaps tc (coefSlice coef 144 ((tc + 1) / 2)), shift 8) else none⟩

/-- One stage after another, each decimating by `m`, its delay line cleared before the first sample (R168, R172); the saturations of the outputs
that the newest `fresh` samples make. -/
def decimate (m fresh : Nat) (st : List (List Int × Nat)) (x : List Cplx) : List Cplx × Nat × Nat :=
  st.foldl (fun a c =>
    let n := a.2.1 / m
    let y := satNew 18 n (everyM m (firGo c.1 c.2 [] a.1))
    (y.1, n, a.2.2 + y.2)) (x, fresh, 0)

/-- A sample and the `m - 1` zeros that follow it. -/
def stuff (m : Nat) (x : List Cplx) : List Cplx := x.flatMap (fun c => c :: List.replicate (m - 1) ⟨0, 0⟩)

/-- A stage that interpolates by `m`, its delay line kept: the outputs, the saturations, the line after them (R208). -/
def interpolate (m : Nat) (c : List Int × Nat) (w x : List Cplx) : List Cplx × Nat × List Cplx :=
  let x1 := stuff m x
  let y := satAll 18 (firGo c.1 c.2 w x1)
  (y.1, y.2, lineAfter c.1.length w x1)

/-! ## Mixers and transforms -/

/-- The turn of an NCO with word `fcw` at sample `m` of its run (R166, R206). -/
def ncoTurn (fcw : Int) (m : Nat) : Int := (fcw * m) % 2 ^ 32 * 2 ^ (fxBits - 32)

/-- Samples mixed by ∓f, the last of them sample `last` of the run: 18 bits, `gain` the fraction bits gained; the saturations of the newest
`fresh`. -/
def mix (fcw : Int) (last gain site fresh : Nat) (x : List Cplx) : List Cplx × Nat :=
  satNew 18 fresh ((x.zip (List.range x.length)).map (fun e =>
    if e.1 = ⟨0, 0⟩ then ⟨0, 0⟩ else
      let u := fxUnit (ncoTurn fcw (last - (x.length - 1 - e.2)))
      dspRoundC site (cmul ⟨e.1.re * 2 ^ gain, e.1.im * 2 ^ gain⟩ u)))

/-- A right shift of one bit that rounds half up (R189, R213). -/
def halfUp (c : Cplx) : Cplx := ⟨(c.re + 1) / 2, (c.im + 1) / 2⟩

/-- Two lists taken in turn. -/
def interleave : List Cplx → List Cplx → List Cplx
  | a :: s, b :: t => a :: b :: interleave s t
  | _, _ => []

/-- A transform of 2^a points in radix-2 stages, decimation in frequency: Σ x e^(s j 2π k i / 2^a), `s` the sign, the first `sh` stages shifting
right by one bit (R189, R213).  What the twiddle products round to is free. -/
def fft (s : Int) (site : Nat) : Nat → Nat → List Cplx → List Cplx
  | 0, _, x => x
  | a + 1, sh, x =>
    let u := x.take (2 ^ a)
    let v := x.drop (2 ^ a)
    let half (c : Cplx) : Cplx := if sh = 0 then c else halfUp c
    let sum := (u.zip v).map (fun e => half (cadd e.1 e.2))
    let diff := ((u.zip v).zip (List.range (2 ^ a))).map (fun e =>
      let d := half ⟨e.1.1.re - e.1.2.re, e.1.1.im - e.1.2.im⟩
      if d = ⟨0, 0⟩ then d else dspRoundC site (cmul d (fxUnit (s * e.2 * 2 ^ fxBits / 2 ^ (a + 1)))))
    interleave (fft s site a (sh - 1) sum) (fft s site a (sh - 1) diff)

/-- A transform of any length as the sum it is, fixed point (R193's 1,536 points): silence stays silence. -/
def dftSum (n : Nat) (s b : Int) (x : List (Cplx × Int)) : Cplx :=
  x.foldl (fun a e => if e.1 = ⟨0, 0⟩ ∨ n = 0 then a else
    cadd a (cmul e.1 (fxUnit (s * (b * e.2 % n) * 2 ^ fxBits / n)))) ⟨0, 0⟩

/-- Weight `i` of the raised-cosine ramp of `w` samples that rises from 0 to 1, sampled in the middle of its steps (R214; where a sample lies in
its step is a DESIGN CHOICE, assumption 162). -/
def rampWeight (w i : Nat) : Int := (2 ^ fxBits - fxCosTurn ((2 * i + 1) * 2 ^ fxBits / (4 * w : Nat))) / 2

/-- The 47 taps of HB0, fixed point: a halfband whose centre and whose other phase both pass a constant unchanged; the off-centre values but the
last are free, as the manual gives its response alone (R208; assumption 111). -/
def hb0Taps : List Int :=
  let half := (List.range 11).map Config.hb0Half
  let all := half ++ [2 ^ fxBits / 2 - half.foldl (· + ·) 0]
  (List.range 47).map (fun k =>
    let d := max k 23 - min k 23
    if d = 0 then 2 ^ fxBits else if d % 2 = 1 then all.getD ((23 - d) / 2) 0 else 0)

/-- A corrector over samples, oldest first, of which the newest `fresh` are new: DC and an 8-tap I/Q-imbalance FIR, the 16-bit sample brought to
`bits` bits by `drop` and saturated (R165, R341).  Toward the DACs the DC comes after the FIR, behind the ADCs before it.  Values that are all
0 correct nothing. -/
def corrector (tx : Bool) (dc fir : List Int) (bits drop fresh : Nat) (x : List Cplx) : List Cplx × Nat :=
  let fit (c : Cplx) : Cplx := dspRoundC 18 ⟨c.re / 2 ^ drop, c.im / 2 ^ drop⟩
  if (dc ++ fir).all (· = 0) then satNew bits fresh (x.map (fun c => fit (fxOf c)))
  else
    let d := Config.correctorDc tx dc
    let shift (c : Cplx) : Cplx := if tx then c else ⟨c.re - d.1, c.im - d.2⟩
    let back (c : Cplx) : Cplx := if tx then ⟨c.re + d.1, c.im + d.2⟩ else c
    let xs := (x.map (fun c => shift (fxOf c)))
    satNew bits fresh ((List.range x.length).map (fun i => fit (back ((List.range 8).foldl (fun a k =>
      if i < k then a else
        let v := xs.getD (i - k) ⟨0, 0⟩
        let t := Config.correctorTap tx fir k
        ⟨a.re + fxMul t.1 v.re + fxMul t.2.1 v.im, a.im + fxMul t.2.2.1 v.re + fxMul t.2.2.2 v.im⟩) ⟨0, 0⟩))))

/-- 10^(g / 20) of a gain in 10⁻⁶ dB, fixed point; the manual gives no resolution, the value is free but for 0 dB. -/
def calFactor (g : Int) : Int := if g = 0 then 2 ^ fxBits else Config.linearGain g

/-- A fixed-point vector scaled by a factor. -/
def fxScale (f : Int) (c : Cplx) : Cplx := ⟨fxMul f c.re, fxMul f c.im⟩

/-- A delay in 10⁻⁶ ps in samples of 491.52 MS/s / 2^h, fixed point. -/
def delaySamples (d : Int) (h : Nat) : Int := d * 491520000 * 2 ^ fxBits / (10 ^ 18 * 2 ^ h)

/-- The turn of a phase in 10⁻⁶ degrees. -/
def phaseTurn (ph : Int) : Int := ph * 2 ^ fxBits / 360000000

/-- The turn that upconversion at frequency f₀ gives the useful start of a symbol, `t` ticks into its subframe: TS 38.211's phase term of the
symbol (R188, R212). -/
def symbolTurn (f0 t : Nat) : Int := f0 * (t % 491520) % 491520000 * 2 ^ fxBits / 491520000

/-! ## Crest-factor reduction (R223 to R226) -/

/-- Sample `i` of the newest-first line is above the threshold and a local maximum, the first of equal ones (R224). -/
def isPeak (a : Nat) (w : List Cplx) (i : Nat) : Bool :=
  let m (k : Nat) : Nat := magSq (w.getD k ⟨0, 0⟩)
  decide (a * a < m i) && decide (m (i + 1) < m i) && decide (m (i - 1) ≤ m i)

/-- (|x| - A) x / |x| in fixed point. -/
def overshoot (a : Nat) (c : Cplx) : Cplx :=
  let m : Int := (Nat.sqrt (magSq c * 2 ^ (2 * fxBits)) : Nat)
  if m = 0 then ⟨0, 0⟩ else ⟨(m - a * 2 ^ fxBits) * c.re * 2 ^ fxBits / m, (m - a * 2 ^ fxBits) * c.im * 2 ^ fxBits / m⟩

/-- π in fixed point. -/
def fxPi : Int := twoPi / 2 ^ (81 - fxBits)

/-- A peak at sample `i` meets the generators (R224): kept when it lies `sep` samples or more after the peak kept before, and then taken by a free
generator, each busy for 255 samples, or missed. -/
def takePeak (sep ngen : Nat) (g : CfrLine) (i : Nat) (v : Cplx) : CfrLine × Nat :=
  if (match g.last with
    | some j => decide (i < j + sep)
    | none => false) then (g, 0)
  else if (g.gens.filter (fun e => i < e.1 + 255)).length < ngen then ({ g with last := some i, gens := g.gens ++ [(i, v)] }, 0)
  else ({ g with last := some i }, 1)

/-- Samples that a cancellation stage holds back: those a pulse centred on a later peak still reaches, in whole ticks. -/
def cfrHold : Nat := 130

/-- One cancellation stage over one new sample (R224): its line, the sample it puts out, whether a peak found no generator.  A stage not in use
only holds back. -/
def cfrStep (on : Bool) (a sep ngen : Nat) (pulse : List Cplx) (g : CfrLine) (x : Cplx) : CfrLine × Cplx × Nat :=
  let line := (x :: g.line).take (cfrHold + 2)
  let g1 := { g with line := line, n := g.n + 1 }
  let pk := if on && isPeak a line 1 then takePeak sep ngen g1 (g.n - 1) (overshoot a (line.getD 1 ⟨0, 0⟩)) else (g1, 0)
  let gens := pk.1.gens.filter (fun e => g.n < e.1 + 2 * cfrHold)
  -- the sample that leaves now
  let j := g.n - cfrHold
  let v := line.getD cfrHold ⟨0, 0⟩
  let near := gens.filter (fun e => cfrHold ≤ g.n ∧ e.1 ≤ j + 127 ∧ j ≤ e.1 + 127)
  let y := if near = [] then v else dspRoundC 10 (near.foldl (fun v e =>
    let q := cmul (pulse.getD (j + 127 - e.1) ⟨0, 0⟩) e.2
    ⟨v.re - q.re / 2 ^ 15, v.im - q.im / 2 ^ 15⟩) (fxOf v))
  ({ pk.1 with gens := gens }, y, pk.2)

/-- A sample whose magnitude exceeds a level brought to that magnitude at the same phase, and never above it (R226, R276, R277). -/
def clipTo (site lvl : Nat) (c : Cplx) : Cplx :=
  if lvl * lvl < magSq c then
    let m : Int := (Nat.sqrt (magSq c * 2 ^ (2 * fxBits)) : Nat) + 1
    let part (v : Int) : Int := v * lvl * 2 ^ (2 * fxBits) / m
    let r := dspRoundC site ⟨part c.re, part c.im⟩
    if magSq r ≤ lvl * lvl then r else ⟨Int.tdiv (part c.re) (2 ^ fxBits), Int.tdiv (part c.im) (2 ^ fxBits)⟩
  else c

/-! ## Predistortion (R269 to R276) -/

/-- |x| of a Q15 sample in 2⁻¹⁶ of full scale, an error below 2⁻¹⁶ (R271). -/
def lutMag (c : Cplx) : Nat := Nat.sqrt (4 * magSq c)

/-- The value that a LUT of 64 entries gives at a magnitude, in Q19 (R271): u = 64 r / SCALE, entry ⌊u⌋, six fraction bits, interpolated. -/
def lutAt (scale : Nat) (entry : Nat → Cplx) (r : Nat) : Cplx :=
  let u := 64 * r * 64 / scale
  let i := min 63 (u / 64)
  let f : Int := (u % 64 : Nat)
  let a := entry i
  if i < 63 ∧ scale ≠ 0 then
    let b := entry (i + 1)
    ⟨64 * a.re + f * (b.re - a.re), 64 * a.im + f * (b.im - a.im)⟩
  else ⟨64 * a.re, 64 * a.im⟩

/-- The taps τ_m, the lags λ_b and κ_1 of a path (R269, PCc_Lk_DPD_TAPS). -/
def dpdTau (w m : Nat) : Nat := if m = 0 then 0 else bitsOf w (6 * m - 1) (6 * m - 6)

/-- λ_b. -/
def dpdLam (w b : Nat) : Int := if b = 0 then 0 else toSigned 4 (bitsOf w (4 * b + 41) (4 * b + 38))

/-- κ_m. -/
def dpdKap (w m : Nat) : Nat := if m = 0 then 0 else bitsOf w 61 58

/-- A sample of a list by a signed index; nothing outside it. -/
def sampleAt (x : List Cplx) (i : Int) : Cplx := if i < 0 then ⟨0, 0⟩ else x.getD i.toNat ⟨0, 0⟩

end Sys2Proof.Machine
end

