-- ==== Sys2Proof/Machine/ReadOps.lean ====
section
/-! DEFINITION. What the chains read of the state: paths, carriers, lanes, synthesisers, calibration values, predistortion units. -/

namespace Sys2Proof.Machine

/-! ## Paths and carriers -/

/-- The path state a path is in. -/
def State.pathState (s : State) (p : Nat) : PathState := spGet PathState.off s.tl.path p

/-- The front end of a path. -/
def State.pathFe (s : State) (p : Nat) : PathFe := spGet PathFe.reset s.fe p

/-- The downlink of a carrier is enabled. -/
def State.dlOn (s : State) (cc : Nat) : Bool := cc < 8 && bitOf (s.onum (0x2010 + cc) 1) 0

/-- The uplink of a carrier is enabled. -/
def State.ulOn (s : State) (cc : Nat) : Bool := cc < 8 && bitOf (s.onum (0x2010 + cc) 1) 1

/-- The numerology of a carrier. -/
def State.ccMu (s : State) (cc : Nat) : Nat := s.onum (0x2010 + cc) 6 % 4

/-- Extended CP of a carrier. -/
def State.ccEcp (s : State) (cc : Nat) : Bool := bitOf (s.onum (0x2010 + cc) 6) 7

/-- A carrier is active: enabled at depth 0 (R38). -/
def State.ccActive (s : State) (cc : Nat) : Bool := decide (s.onum (0x2010 + cc) 1 ≠ 0) && decide (s.pwr.depth = 0)

/-- FFT size exponent of a carrier: object 0x4400 + n sub-index 1 (R167). -/
def State.ccFftExp (s : State) (cc : Nat) : Nat := Nat.log2 (s.onum (0x4400 + cc) 1)

/-- Halfband stages of a carrier (R167). -/
def State.ccHalfbands (s : State) (cc : Nat) : Nat := 15 - s.ccFftExp cc - s.ccMu cc

/-- WIN_OFS of a carrier: object 0x4400 + n sub-index 3 (R187). -/
def State.ccWinOfs (s : State) (cc : Nat) : Nat := s.onum (0x4400 + cc) 3

/-- PRBs of a carrier. -/
def State.ccN (s : State) (cc : Nat) : Nat := s.onum (0x2010 + cc) 5

/-- The lanes of a cluster. -/
def State.lanes (s : State) (c : Nat) : Lanes := spGet Lanes.reset s.rx.lanes c

/-- The physical lane that serves a path. -/
def State.laneOf (s : State) (p : Nat) : Nat := (s.lanes (p / 8)).map.getD (p % 8) (p % 8)

/-- The lane of a path runs: its cluster is on. -/
def State.laneWorks (s : State) (p : Nat) : Bool := ¬ (s.island (p / 8)).off

/-- The coefficient part of D, in ADC samples, with `h` halfbands in use; `cf` when CF is enabled (R171, R202). -/
def groupDelay (taps h : Nat) (cf : Bool) : Nat :=
  (bitsOf taps 6 0 - 1) / 2 + ((List.range h).map (fun i => (4 * bitsOf taps (4 * i + 19) (4 * i + 16) + 2) / 2 * 5 * 2 ^ i)).sum +
    (if cf then (bitsOf taps 13 8 - 1) / 2 * 5 * 2 ^ h else 0)

/-- The path's receive chain delivers: RX in TDD, a D entry in FDD (R190). -/
def State.receives (s : State) (p : Nat) : Bool :=
  if s.fdd then decide (s.pathState p = .tx) else decide (s.pathState p = .rx)

/-! ## Synthesisers -/

/-- A synthesiser. -/
def State.syn (s : State) (n : Nat) : Syn := spGet Syn.reset s.lo.syn n

/-- Synthesiser `n` is LOCKED and no hop runs. -/
def State.trunkLocked (s : State) (n : Nat) : Bool := decide ((s.syn n).st = .locked) && s.lo.hop.isNone

/-- The trunk synthesiser `n` is seen LOCKED by path `p`. -/
def State.seenLocked (s : State) (n p : Nat) : Bool :=
  s.trunkLocked n && decide (p ∉ s.lo.divFail)

/-- The TX trunk is LOCKED as path `p` sees it. -/
def State.txLocked (s : State) (p : Nat) : Bool := s.seenLocked s.lo.txServe p

/-- The same of the TX trunk. -/
def State.txGoodFrom (s : State) (p : Nat) : Nat := max s.lo.txFrom (s.pathFe p).divAt

/-- The first symbol boundary of the reference numerology since the TX trunk was LOCKED, from which a path transmits again (R96). -/
def State.resumeAt (s : State) (p : Nat) : Nat :=
  nextSymbol s.frameOfs s.refMu s.refEcp (s.now - (s.clk.elapsed - s.txGoodFrom p))

/-- The NCO word for a carrier centre of `f` in the units of object 0x2010: its distance from the frequency of the serving synthesiser, to the nearest
LSB (R166, R206). -/
def ncoOf (s : State) (f : Nat) (tx : Bool) : Nat :=
  let k := if tx then s.lo.txServe else s.lo.rxServe
  let w := (s.syn k).word
  let num : Int := (f : Int) * 2 ^ 40 - (w : Int) * 245760000
  let den : Int := 2457600000 * 2 ^ 8
  ofSigned 32 ((2 * num + den) / (2 * den))
/-- The NCO word of a carrier. -/
def ncoWord (s : State) (n : Nat) (tx : Bool) : Nat := ncoOf s (s.onum (0x2010 + n) 3) tx

/-! ## Calibration values (R338, R364, R365) -/

/-- Two lists combined part by part; a missing part is 0. -/
def zipI (f : Int → Int → Int) (a b : List Int) : List Int :=
  (List.range (max a.length b.length)).map (fun i => f (a.getD i 0) (b.getD i 0))

/-- Two values combined part by part. -/
def calZip (f : Int → Int → Int) (a b : CalVal) : CalVal := ⟨zipI f a.g b.g, zipI f a.ph b.ph, zipI f a.d b.d, zipI f a.x b.x⟩

/-- Sum of values. -/
def calAdd (a b : CalVal) : CalVal := calZip (· + ·) a b

/-- Difference of values. -/
def calSub (a b : CalVal) : CalVal := calZip (· - ·) a b

/-- A value times a fraction. -/
def calScale (num den : Int) (a : CalVal) : CalVal :=
  ⟨a.g.map (· * num / den), a.ph.map (· * num / den), a.d.map (· * num / den), a.x.map (· * num / den)⟩

/-- An item of a path. -/
def State.calItem (s : State) (p i : Nat) : CalItem := spGet CalItem.reset s.cal.item (p * 256 + i)

/-- The value in force of an item: on its ramp. -/
def CalItem.now (x : CalItem) : CalVal :=
  if x.n ≤ x.k then x.tgt else calAdd x.old (calScale x.k x.n (calSub x.tgt x.old))

/-- Set temperature `j` in 1/6400 °C, the common unit of 0.01 °C and 1/64 °C. -/
def tset (s : State) (j : Nat) : Int := toSigned 16 (beAt (s.obytes 0x7020 1) (2 * j) 2) * 64

/-- T_p in 1/6400 °C, clamped to the sets' span. -/
def tOf (s : State) (p : Nat) : Int := clampI (tset s 0) (tset s 7) (spGet 0 s.cal.tp p * 100)

/-- A set's value of an item; none when it is not valid. -/
def baseSet (s : State) (j p i : Nat) : Option CalVal := spGet none s.cal.base ((j * 64 + p) * 256 + i)

/-- The valid sets on both sides of T: the nearest at or below, and the nearest above. -/
def bracket (s : State) (p i : Nat) : Option (Nat × CalVal) × Option (Nat × CalVal) :=
  let t := tOf s p
  let valid := (List.range 8).filterMap (fun j => (baseSet s j p i).map (fun v => (j, v)))
  ((valid.filter (fun x => tset s x.1 ≤ t)).getLast?, (valid.filter (fun x => t < tset s x.1)).head?)

/-- B(T_p) (R365). -/
def baseNote (s : State) (p i : Nat) : CalVal :=
  match bracket s p i with
  | (some (a, va), some (b, vb)) =>
    let ta := tset s a
    let tb := tset s b
    calAdd va (calScale (tOf s p - ta) (tb - ta) (calSub vb va))
  | (some (_, v), none) => v
  | (none, some (_, v)) => v
  | (none, none) => calZero

/-- The value of an item `j` steps of its ramp later. -/
def CalItem.after (x : CalItem) (j : Nat) : CalVal := CalItem.now { x with k := x.k + j }

/-- P_FS, 0.01 dBm, under a transmit attenuation `att`, `j` ramp steps from now: item 0x14 on its ramp, the TX gain trim of item 0x01, and the gain of
the attenuator state, which the base note holds beside its items (R217, R221, R350, R368; DEDUCED, assumption 163: as item 0x16). -/
def State.pFsAt (s : State) (p att j : Nat) : Int :=
  Int.tdiv (((s.calItem p 0x14).after j).x.getD 0 0) 1000000 + Int.tdiv (((s.calItem p 0x01).after j).g.getD 0 0) 10000 +
    Int.tdiv ((baseNote s p 0x16).g.getD att 0) 10000
/-- P_FS in force. -/
def State.pFs (s : State) (p : Nat) : Int := s.pFsAt p (spGet 63 s.tx.att p) 0

/-! ## Transmit channels and limiter levels (R205 to R226) -/

/-- Ticks that stages 6 to 9 take: HB0 and predistortion 31 samples, three cancellation stages 130 each, at 10 a tick. -/
def airLatency : Nat := 42

/-- Ticks from a carrier sample's entry into stage 3 to its air tick: the group delay of R209, and stages 6 to 9. -/
def State.txLead (s : State) (p cc : Nat) : Nat :=
  let ix := [p / 8, s.laneOf p, cc]
  (groupDelay (rd s .txchTaps ix) (s.ccHalfbands cc) (rbit s .txchCfg ix 10) + 2) / 5 + airLatency

/-- LAT of a channel: the device fixes it, at least what its stages take, and at most 16,384 ticks (R211). -/
def State.txLat (s : State) (p cc : Nat) : Nat :=
  min 16384 (max (s.txLead p cc) (Config.txLatency p cc (s.onum (0x4400 + cc) 1) (s.onum (0x4500 + cc) 2)))

/-- The filters of a transmit channel. -/
def State.txFilters (s : State) (p cc : Nat) : ChanFilters :=
  let ix := [p / 8, s.laneOf p, cc]
  chanFilters (rd s .txchTaps ix) (rd s .txchSh ix) (rbit s .txchCfg ix 10) (spGet [] s.rx.txcoef ((p / 8 * 9 + s.laneOf p) * 8 + cc))

/-- The carrier gain in 2⁻²⁴: a symbol of `n` REs whose mean |RE|² is E_ref leaves the antenna port with P_dec, full scale being `pfs` (R217).  IFFT_SH,
and the gain that each later stage gives a constant, are taken out (DEDUCED, assumption 164). -/
def carrierGain (s : State) (p cc : Nat) (pdec ref : Int) (n : Nat) (pfs : Int) : Nat :=
  let f := s.txFilters p cc
  let st : List (Nat × List Int × Nat) := (f.cf.toList.map (fun c => (1, c))) ++ ((f.hb.take (s.ccHalfbands cc)).map (fun c => (2, c))) ++ [(5, f.five)]
  let num := (st.map (fun c => (c.2.1.foldl (· + ·) 0).natAbs)).foldl (· * ·) 1
  let den := (st.map (fun c => c.1 * 2 ^ c.2.2)).foldl (· * ·) 1
  let ish := rf s .txchSh [p / 8, s.laneOf p, cc] 39 36
  if n = 0 ∨ num = 0 then 0
  else Nat.sqrt (pow10 (pdec - pfs - ref) * 2 ^ (2 * ish + 48) * den * den / (n * 2 ^ fxBits * num * num))

/-- What admission puts into a pulse bank of a path: the spectrum of its carriers and the values that enter A_th (R223, R225). -/
def cfrBankOf (s : State) (p : Nat) : CfrBank :=
  let w := rd s .cfrCtrl [p / 8, s.laneOf p]
  let on := (List.range 8).filter s.dlOn
  ⟨on.map (fun n => (bitsOf w (4 * n + 35) (4 * n + 32), 12 * s.ccN n * 15000 * 2 ^ s.ccMu n, s.onum (0x2010 + n) 3)),
   (on.map (fun n => pow10 (toSigned 16 (s.onum (0x2100 + n) 1)))).sum, 650 + 10 * bitsOf w 6 1, 25 * bitsOf w 24 21⟩

/-- The contents of a pulse bank of a path. -/
def bankIn (s : State) (p b : Nat) : CfrBank :=
  match (if b = 0 then s.tx.bank0 else s.tx.bank1)[p]? with
  | some x => x
  | none => cfrBankOf s p

/-- A_th and the limiter level L in 2⁻¹⁶ of full scale: min of the target and L_max, with the margin (R223, R226). -/
def cfrLevelsOf (b : CfrBank) (pfs : Int) : Nat × Nat :=
  -- squares in 2^fxBits: A² = Σ 10^(P_dec/10) · 10^((PAPR - P_FS)/10), cap² = 10^(-0.5/10) · 10^(-margin/10)
  let a2 := b.pref * pow10 ((b.papr : Int) - pfs) / 2 ^ fxBits
  let cap2 := pow10 (-(50 + b.margin : Nat) : Int)
  let a := min a2 cap2
  let lim := a * pow10 (b.margin : Int) / 2 ^ fxBits
  (Nat.sqrt (a * 2 ^ 32 / 2 ^ fxBits), Nat.sqrt (lim * 2 ^ 32 / 2 ^ fxBits))

/-- The levels in force on a path. -/
def cfrLevels (s : State) (p : Nat) : Nat × Nat := cfrLevelsOf (bankIn s p s.tx.bank) (s.pFs p)

/-! ## Predistortion units (R268 to R290) -/

/-- The unit of a path. -/
def State.dpd (s : State) (p : Nat) : Dpd := spGet Dpd.reset s.dpds p

/-- The reset contents of a bank's words: bank 0 holds the identity set, L_{0,0} of 1 in Q13 (R270, R278). -/
def bankReset (b i : Nat) : Nat := if b = 0 ∧ 16 ≤ i ∧ i < 80 then 0x2000 else 0

/-- A word of a bank. -/
def Dpd.word (x : Dpd) (b i : Nat) : Nat := spGet (bankReset b i) x.words (b * 4096 + i)

/-- SCALE of a bank. -/
def Dpd.scale (x : Dpd) (b : Nat) : Nat := x.word b 0 % 2 ^ 16

/-- THETA_REF of a bank, 1/64 °C. -/
def Dpd.thetaRef (x : Dpd) (b : Nat) : Int := toSigned 16 (x.word b 0 >>> 16)

/-- I and Q of an entry. -/
def entryIQ (w : Nat) : Cplx := ⟨toSigned 16 w, toSigned 16 (w >>> 16)⟩

end Sys2Proof.Machine
end

