-- ==== Sys2Proof/Machine/Air.lean ====
section
/-! DEFINITION. The transmit stream (chapters 6 and 8): what the chain of every path does tick by tick, from the carrier samples of the symbols
read to the DACs, under the state in force at each tick. -/

namespace Sys2Proof.Machine

/-! ## Carrier channels (R205 to R210, R217, R220, R221) -/

/-- The symbol of a channel on air at an elapsed tick: the latest that has started. -/
def symOnAir (q : List TxSym) (g : Nat) : Option TxSym := (q.filter (fun y => y.at_ ≤ g)).getLast?

/-- The carrier sample of elapsed tick `g`: the symbols' samples and postfixes, which overlap, added (R214). -/
def carrierSample (h : Nat) (q : List TxSym) (g : Nat) : Cplx :=
  (q.filter (fun y => y.at_ ≤ g)).foldl (fun a y => cadd a ((y.wave ++ y.post).getD ((g - y.at_) / 2 ^ h) ⟨0, 0⟩)) ⟨0, 0⟩

/-- A carrier symbol makes no output: it started before the end of the fill after a SYNC (R210). -/
def State.fillsAt (s : State) (y : TxSym) : Bool := decide (s.rx.sync.at_ ≠ 0) && decide (y.at_ < s.rx.sync.at_ + 16384)

/-- The transmit attenuation that a sample of a later tick meets: one that a commit has set comes in with the path's next TX phase or guard (R221,
R222). -/
def State.attAhead (s : State) (p : Nat) : Nat := if s.pathState p = .tx then spGet 63 s.tx.att p else s.pobj p 0x2C

/-- Reference symbol boundaries in (a, b], at most 16: steps that ramps take between (R368). -/
def stepsBetween (s : State) (a b : Nat) : Nat := go s 16 a
where
  /-- Boundary by boundary. -/
  go (s : State) : Nat → Nat → Nat
    | 0, _ => 0
    | f + 1, t =>
      let n := nextSymbol s.frameOfs s.refMu s.refEcp (t + 1)
      if n ≤ b then 1 + go s f n else 0

/-- One carrier sample enters stage 3 (R168, R205, R208, R217): CF, the carrier gain of the power and attenuation that the sample meets at TXOUT,
HBh to HB1 and I5, their delay lines kept; the samples at 2.4576 GS/s, and the saturations. -/
def chanFeed (s : State) (p cc : Nat) (gain : Nat) (x : Cplx) (lines : List (List Cplx)) : List Cplx × Nat × List (List Cplx) :=
  let f := s.txFilters p cc
  let x0 := satAll 18 [⟨4 * x.re, 4 * x.im⟩]
  let stage (a : List Cplx × Nat × List (List Cplx)) (k m : Nat) (c : List Int × Nat) : List Cplx × Nat × List (List Cplx) :=
    let y := interpolate m c (a.2.2.getD k []) a.1
    (y.1, a.2.1 + y.2.1, a.2.2.set k y.2.2)
  let a1 := match f.cf with
    | some c => stage (x0.1, x0.2, lines) 0 1 c
    | none => (x0.1, x0.2, lines)
  let g := satAll 18 (a1.1.map (fun c => dspRoundC 7 ⟨c.re * gain * 2 ^ (fxBits - 24), c.im * gain * 2 ^ (fxBits - 24)⟩))
  let a3 := ((f.hb.take (s.ccHalfbands cc)).zip (List.range 7)).reverse.foldl (fun a c => stage a (c.2 + 1) 2 c.1) (g.1, a1.2.1 + g.2, a1.2.2)
  stage a3 8 5 f.five

/-- A tick of a channel: a carrier sample enters when its air tick lies on the frame grid of the carrier's rate, and five samples leave, mixed
by +f (R206, R210).  `e` and `c` are the tick as elapsed tick and as counter value. -/
def chanTick (s : State) (p cc e c : Nat) (l : ChanLine) : ChanLine × List Cplx × Nat :=
  let h := s.ccHalfbands cc
  let q := spGet [] s.tx.sym (p * 8 + cc)
  let lead := s.txLead p cc
  let fed := if framePos s.frameOfs (c + lead) % 2 ^ h = 0 then
      let gain := match symOnAir q (e + lead) with
        | some y => if s.fillsAt y then 0 else
            carrierGain s p cc y.pdec y.ref y.res.length (s.pFsAt p (s.attAhead p) (stepsBetween s c (c + lead)))
        | none => 0
      chanFeed s p cc gain (carrierSample h q (e + lead)) l.lines
    else ([], 0, l.lines)
  let out := l.out ++ fed.1
  let now := (out ++ List.replicate 5 (⟨0, 0⟩ : Cplx)).take 5
  -- a symbol that started before its carrier may transmit again is blanked (R96)
  let silent := match symOnAir q (e + airLatency) with
    | some y => decide (y.tick < s.resumeAt p)
    | none => false
  let y := mix (toSigned 32 (ncoWord s cc true)) (5 * (e - s.rx.sync.at_) + 4) 0 8 5 now
  (⟨fed.2.2, out.drop 5⟩, if silent then List.replicate 5 ⟨0, 0⟩ else y.1, fed.2.1 + y.2)

/-! ## Accord and crest-factor reduction (R216, R223 to R226) -/

/-- HB0 over the composite's samples: it doubles the rate (R205, R208). -/
def hb0 (w x : List Cplx) : List Cplx × Nat × List Cplx :=
  let y := go w (stuff 2 x)
  let z := satAll 18 y
  (z.1, z.2, lineAfter 47 w (stuff 2 x))
where
  /-- Sample by sample, the delay line newest first. -/
  go : List Cplx → List Cplx → List Cplx
    | _, [] => []
    | w, a :: t => dspRoundC 9 (firAcc hb0Taps ((a :: w).take 47)) :: go ((a :: w).take 47) t

/-- The pulse of a bank: 255 samples at 4.9152 GS/s in 2⁻¹⁵ of its peak, the inverse transform of the bands, each weighted by WGTn (R225). -/
def cfrPulse (s : State) (b : CfrBank) : List Cplx :=
  -- weight, band and centre of a carrier in turns a sample, fixed point
  let bands : List (Int × Int × Int) := b.bands.map (fun x =>
    ((x.1 : Int), ((x.2.1 * 2 ^ fxBits / 4915200000 : Nat) : Int), toSigned 32 (ncoOf s x.2.2 true) * 2 ^ (fxBits - 33)))
  let peak : Int := (bands.map (fun b => b.1 * b.2.1)).sum
  (List.range 255).map (fun i =>
    let d : Int := (i : Int) - 127
    if peak = 0 then ⟨0, 0⟩
    else if d = 0 then ⟨2 ^ 15, 0⟩
    else
      let v := bands.foldl (fun a b => cadd a (fxScale (b.1 * (fxSinTurn (b.2.1 * d / 2) * 2 ^ fxBits / (fxPi * d))) (fxUnit (b.2.2 * d)))) (⟨0, 0⟩ : Cplx)
      dspRoundC 17 ⟨v.re * 2 ^ fxBits / peak * 2 ^ 15, v.im * 2 ^ fxBits / peak * 2 ^ 15⟩)

/-- The bank that serves samples which are on air at a counter value: both swap at the first sample of the boundary tick (R225). -/
def State.bankAt (s : State) (c : Nat) : Nat :=
  match s.tx.swapAt with
  | some t => if t ≤ c then 1 - s.tx.bank else s.tx.bank
  | none => s.tx.bank

/-- Samples through the three cancellation stages (R224); one not in use, by EN and STAGES, only delays.  The samples, the saturations, the peaks
uncancelled and the stages after them. -/
def cfrTick (s : State) (p c : Nat) (st : List CfrLine) (x : List Cplx) : List Cplx × Nat × Nat × List CfrLine :=
  let w := rd s .cfrCtrl [p / 8, s.laneOf p]
  (st.zip (List.range st.length)).foldl (fun (a : List Cplx × Nat × Nat × List CfrLine) g =>
    let b := bankIn s p (s.bankAt (c + 13 * (3 - g.2) + 1))
    let on := bitOf w 0 && decide (g.2 < bitsOf w 8 7)
    let r := a.1.foldl (fun (v : CfrLine × List Cplx × Nat) y =>
      let z := cfrStep on (2 * (cfrLevelsOf b (s.pFs p)).1) (bitsOf w 16 9) (bitsOf w 20 17 + 1) (cfrPulse s b) v.1 y
      (z.1, v.2.1 ++ [z.2.1], v.2.2 + z.2.2)) (g.1, [], 0)
    let k := satAll 18 r.2.1
    (k.1, a.2.1 + k.2, a.2.2.1 + r.2.2, a.2.2.2 ++ [r.1])) (x, 0, 0, [])

/-! ## Predistortion (R268 to R277) -/

/-- Samples a unit's models look at: taps of up to 63 samples, lags of 8 each way, and the 10 of a tick. -/
def streamKeep : Nat := 96

/-- y(n) of a set (R269 to R275) in 2⁻⁶³: own terms, cross terms of the neighbours given, and the thermal term with drive `d` in 2⁻²⁹. -/
def dpdModel (u : Dpd) (bank taps : Nat) (x : List Cplx) (nbs : List (Nat × List Cplx)) (d : Int) (n : Int) : Cplx :=
  let sc := u.scale bank
  let lut (base : Nat) (r : Nat) : Cplx := lutAt sc (fun i => entryIQ (u.word bank (base + i))) r
  let at29 (c : Cplx) : Cplx := ⟨c.re * 2 ^ 29, c.im * 2 ^ 29⟩
  let own := (List.range 40).foldl (fun a j =>
    let b := j / 8
    let m := j % 8
    let t : Int := n - dpdTau taps m
    let v := sampleAt x t
    if v = ⟨0, 0⟩ then a else cadd a (at29 (cmul v (lut (16 + j * 64) (lutMag (sampleAt x (t - dpdLam taps b))))))) ⟨0, 0⟩
  let r0 := lutMag (sampleAt x n)
  let cross := nbs.foldl (fun a q => [0, 1].foldl (fun a m =>
    let v := sampleAt q.2 (n - dpdKap taps m)
    if v = ⟨0, 0⟩ then a else cadd a (at29 (cmul v (lut (16 + 2560 + (q.1 * 2 + m) * 64) r0)))) a) own
  let v := sampleAt x n
  if d = 0 ∨ v = ⟨0, 0⟩ then cross else
    let h := cmul v (lut (16 + 3072) r0)
    cadd cross ⟨h.re * d, h.im * d⟩

/-- The thermal drive d(n) of a set in 2⁻²⁹ (R275): (Θ - THETA_REF) / 32 °C within ±1, 0 with THM_EN = 0. -/
def thermalDrive (u : Dpd) (bank : Nat) (en : Bool) : Int := if en then clampI (-(2 ^ 29)) (2 ^ 29) (u.theta - u.thetaRef bank * 2 ^ 18) else 0

/-- The DAC input of a path is forced to zero: its TX trunk is not LOCKED or it is blanked (R96, R97), its lane's fault awaits the switch (R601),
or a thermal shutdown is in effect (R564). -/
def State.dacZero (s : State) (p : Nat) : Bool :=
  (s.pathFe p).blanked || ¬ s.txLocked p || decide ((p / 8, p % 8) ∈ s.svc.faulty) || rbit s .thmStat [] 18

/-- A stream of `streamKeep` samples, oldest first, from the samples of a path, newest first. -/
def streamOf (l : List Cplx) : List Cplx := ((l ++ List.replicate streamKeep (⟨0, 0⟩ : Cplx)).take streamKeep).reverse

/-- The neighbour streams of a path that its cross terms see, aligned by tick (R272, R273): none with NB_EN = 0. -/
def dpdNeighbours (s : State) (p : Nat) (seen : Nat → List Cplx) : List (Nat × List Cplx) :=
  let w := rd s .dpdNb [p / 8, p % 8]
  if ¬ rbit s .dpdCtrl [p / 8, p % 8] 1 then []
  else (List.range 4).filterMap (fun q => if bitOf w (8 * q + 7) then some (q, streamOf (seen (bitsOf w (8 * q + 5) (8 * q)))) else none)

/-- 10^(-BACKOFF / 20), stepped back to 1 in the backoff's ramp, fixed point (R276, R287). -/
def backoffGain (s : State) (p : Nat) : Int :=
  let u := s.dpd p
  let g : Int := (Nat.sqrt (pow10 (-(50 * rf s .dpdLim [p / 8, p % 8] 9 5 : Nat) : Int) * 2 ^ fxBits) : Nat)
  if u.st = .backoffRamp ∧ 0 < u.rampLen then g + (2 ^ fxBits - g) * u.backoffStep / u.rampLen
  else if u.backoff then g else 2 ^ fxBits

/-- The unit's output before the clamp at sample `n`: the identity with EN = 0, else the set in force, blended with the old one in a ramp with
α = k / RAMP in 2⁻¹⁵; rounded half up to Q15, times the backoff gain (R270, R276, R281).  A sum beyond 16 bits is saturated, which the manual does
not say (DESIGN CHOICE, assumption 157). -/
def dpdSample (s : State) (p : Nat) (x : List Cplx) (nbs : List (Nat × List Cplx)) (n : Int) : Cplx :=
  let u := s.dpd p
  let w := rd s .dpdCtrl [p / 8, p % 8]
  let taps := rd s .dpdTaps [p / 8, p % 8]
  let v := sampleAt x n
  let same : Cplx := ⟨v.re * 2 ^ 48, v.im * 2 ^ 48⟩
  let set (id : Bool) (b : Nat) : Cplx := if id then same else dpdModel u b taps x nbs (thermalDrive u b (bitOf w 2)) n
  let y := if ¬ bitOf w 0 then same
    else if u.st = .ramp then
      let old := set u.oldIdent (1 - u.bank)
      let new := set false u.bank
      let a : Int := u.rampStep * 2 ^ 15 / u.rampLen
      cadd old ⟨(new.re - old.re) * a / 2 ^ 15, (new.im - old.im) * a / 2 ^ 15⟩
    else set u.ident u.bank
  let q : Cplx := satC 16 ⟨accOut 48 y.re, accOut 48 y.im⟩
  let g := backoffGain s p
  if g = 2 ^ fxBits then q else dspRoundC 12 ⟨q.re * g, q.im * g⟩

/-- The clamp magnitude C = min(0.999, L 10^(PEAK_EXP / 20)) in Q15 (R276, R277). -/
def clampLevel (s : State) (p : Nat) : Nat :=
  let l := (cfrLevels s p).2
  let e := Nat.sqrt (pow10 (25 * rf s .dpdLim [p / 8, p % 8] 4 0 : Nat) * 2 ^ fxBits)
  min 32735 (l * e / 2 ^ (fxBits + 1))

/-! ## The stream of a path -/

/-- Samples of the predistortion input kept: a divergence window and the longest loop delay behind it (R284). -/
def airKeep : Nat := 13000

/-- The 512-tick intervals of the thermal state that end between two counter values are over (R274). -/
def AirPath.intervals (c n : Nat) (a : AirPath) : AirPath :=
  let k := (c + n) / 512 - c / 512
  if k = 0 then a
  else { a with sqWas := if k = 1 then a.sq else 0, magWas := if k = 1 then a.mag else 0, sq := 0, mag := 0 }

/-- A tick of a path's stages 3 to 8 (R205, R208, R215, R216, R226): the input of predistortion grows by ten samples, zero outside TX. -/
def streamTick (s : State) (p e c : Nat) (a : AirPath) : AirPath :=
  let ch := (List.range 8).map (fun cc => (cc, chanTick s p cc e c (spGet ChanLine.none_ a.chans cc)))
  let comp := satAll 18 (ch.foldl (fun v x => (v.zip x.2.2.1).map (fun e => cadd e.1 e.2)) (List.replicate 5 ⟨0, 0⟩))
  let up := hb0 a.hb0 comp.1
  let cf := cfrTick s p c a.stages up.1
  let lvl := 2 * (cfrLevelsOf (bankIn s p (s.bankAt (c + 1))) (s.pFs p)).2
  let clip := (cf.1.filter (fun v => lvl * lvl < magSq v)).length
  let x16 := cf.1.map (fun v => satC 16 (dspRoundC 13 (⟨(clipTo 11 lvl v).re * 2 ^ (fxBits - 2), (clipTo 11 lvl v).im * 2 ^ (fxBits - 2)⟩)))
  let tx := decide (s.pathState p = .tx)
  let quiet : List Cplx := List.replicate 10 ⟨0, 0⟩
  let x := if tx then x16 else quiet
  AirPath.intervals c 1 { a with
    chans := ch.foldl (fun m v => spPut ChanLine.none_ m v.1 v.2.1) a.chans,
    hb0 := up.2.2, stages := cf.2.2.2,
    x := (x.reverse ++ a.x).take airKeep,
    seen := ((if s.dacZero p then quiet else x).reverse ++ a.seen).take streamKeep,
    tally := { a.tally with
               sat := a.tally.sat + (ch.map (·.2.2.2)).sum + comp.2 + up.2.1 + cf.2.1, miss := a.tally.miss + cf.2.2.1,
               clipped := a.tally.clipped + clip },
    slotClip := a.slotClip + if tx then clip else 0,
    energy := a.energy + if tx then (comp.1.map magSq).sum else 0,
    sq := a.sq + (x.map magSq).sum, mag := a.mag + (x.map lutMag).sum }

/-- A tick of a path's stage 9 (R215, R269 to R277, R341): predistortion, 8 samples behind its input, the backoff, the clamp, the DAC-side corrector.
Outside TX, and where it is forced to zero, the DAC input is zero; in CAL the generator drives it. -/
def dacTick (s : State) (p : Nat) (seen : Nat → List Cplx) (a : AirPath) : AirPath :=
  let x := streamOf a.x
  let near := dpdNeighbours s p seen
  let raw := (List.range 10).map (fun (k : Nat) => dpdSample s p x near ((streamKeep - 18 + k : Nat) : Int))
  let lvl := clampLevel s p
  let clamp := (raw.filter (fun v => lvl * lvl < magSq v)).length
  let tx := decide (s.pathState p = .tx)
  let drive := raw.map (fun v => if tx && ¬ s.dacZero p then clipTo 14 lvl v else ⟨0, 0⟩)
  let all := a.raw.reverse ++ drive
  let fix := corrector true ((s.calItem p 0x01).now.x.drop 2) (s.calItem p 0x12).now.x 14 2 10 all
  let out := lastN 10 fix.1
  { a with
    raw := all.reverse.take 7,
    tally := { a.tally with sat := a.tally.sat + fix.2, clamped := a.tally.clamped + clamp },
    slotClamp := a.slotClamp + if tx then clamp else 0,
    dac := (out.map (fun v => if s.pathState p = .cal then none else some (if tx && ¬ s.dacZero p then v else ⟨0, 0⟩))).reverse ++ a.dac }

/-- The paths with a stream. -/
def Air.active (s : State) (a : Air) : List Nat :=
  (List.range 64).filter (fun p => a.paths.any (fun x => x.1 = p) || s.tx.sym.any (fun x => x.1 / 8 = p))

/-- One tick of all streams: stages 3 to 8 of every path, then stage 9, which sees the neighbours' (R272). -/
def airTick (s : State) (a : Air) (e c : Nat) : Air :=
  let ps := Air.active s a
  let a1 := ps.foldl (fun (m : Sparse AirPath) p => spPut AirPath.none_ m p (streamTick s p e c (spGet AirPath.none_ m p))) a.paths
  let seen (p : Nat) : List Cplx := (spGet AirPath.none_ a1 p).seen
  { left := a.left - 1, paths := ps.foldl (fun (m : Sparse AirPath) p => spPut AirPath.none_ m p (dacTick s p seen (spGet AirPath.none_ m p))) a1 }

/-- Ticks of all streams, one after another from `i` ticks on. -/
def airTicks (s : State) : Nat → Nat → Air → Air
  | 0, _, a => a
  | n + 1, i, a => airTicks s n (i + 1) (airTick s a (s.clk.elapsed + i) (s.clk.count + i))

/-- `n` ticks from counter value `c` on, after the last sample has left: the stream is zero. -/
def AirPath.silence (c n : Nat) (cal : Bool) (a : AirPath) : AirPath :=
  let zeros : List Cplx := List.replicate (min (10 * n) airKeep) ⟨0, 0⟩
  AirPath.intervals c n { a with
    chans := [], hb0 := [], stages := List.replicate 3 CfrLine.none_, x := (zeros ++ a.x).take airKeep, seen := (zeros ++ a.seen).take streamKeep,
    raw := [], dac := List.replicate (min (10 * n) 1228800) (if cal then none else some ⟨0, 0⟩) ++ a.dac }

/-- The streams after `n` more ticks under the state in force: as long as some chain holds a sample tick by tick, then silence. -/
def airAfter (s : State) (n : Nat) : Air :=
  if s.air.left = 0 ∧ s.air.paths = [] then s.air
  else
    let k := min n s.air.left
    let a := airTicks s k 0 s.air
    if n = k then a
    else { a with paths := a.paths.map (fun x => (x.1, x.2.silence (s.clk.count + k) (n - k) (decide (s.pathState x.1 = .cal)))) }

end Sys2Proof.Machine
end

