-- ==== Sys2Proof/Machine/CoreOps.lean ====
section
/-! DEFINITION. Time, boundaries, block memory bytes, declarations and service accounting that every block uses. -/

namespace Sys2Proof.Machine

/-! ## Time -/

/-- `n` ticks pass: the counters count, and the transmit streams go on under the state in force. -/
def passTicks (s : State) (n : Nat) : State :=
  { s with clk := { s.clk with elapsed := s.clk.elapsed + n, count := s.clk.count + n }, air := airAfter s n }

/-- Time passes to an elapsed tick, unless it has passed. -/
def reachElapsed (s : State) (t : Nat) : State := passTicks s (t - s.clk.elapsed)

/-- Time passes to a counter value, unless it has passed. -/
def reachCount (s : State) (t : Nat) : State := passTicks s (t - s.clk.count)

/-- Time passes to the boundary at which a happening falls: the first at or after now, `f` giving the first boundary at or after a
counter value; a happening that has had this boundary takes the next.  `key` and `inst` name the happening. -/
def toBoundary (s : State) (key inst : Nat) (f : Nat → Nat) : State :=
  let k := key * 65536 + inst
  let t := f s.clk.count
  let t' := if t = s.clk.count ∧ spGet 0 s.clk.seen k = s.clk.elapsed + 1 then f (s.clk.count + 1) else t
  let s1 := reachCount s t'
  { s1 with clk := { s1.clk with seen := spPut 0 s1.clk.seen k (s1.clk.elapsed + 1) } }

/-- A slot boundary of the reference numerology. -/
def toSlot (s : State) (key inst : Nat) : State := toBoundary s key inst (nextSlot s.frameOfs s.refMu s.refEcp)
/-- A symbol boundary of the reference numerology. -/
def toSymbol (s : State) (key inst : Nat) : State := toBoundary s key inst (nextSymbol s.frameOfs s.refMu s.refEcp)
/-- A frame boundary. -/
def toFrame (s : State) (key inst : Nat) : State := toBoundary s key inst (nextFrame s.frameOfs)

/-- The RTC (R525, R630): cycles of OSC32 since it qualified, 48 bits. -/
def State.rtc (s : State) : Nat :=
  match s.boot.rtcFrom with
  | some t => (s.clk.elapsed - t) / rtcTicks % 2 ^ 48
  | none => 0

/-- A cycle of the oscillator the oasis runs on (R108, R630): OSC32 once it has qualified, else the RC oscillator, whose rate within 5 % of
32,768 Hz is not given. -/
def State.strapCycle (s : State) : Nat := if s.boot.rtcFrom.isSome then rtcTicks else 14286 + Config.rcOscillator % 1504

/-! ## SRAM bytes -/

/-- `n` bytes of the SRAM from a global address, as the device reads them inside; bytes outside the SRAM are 0. -/
def sramPeek (s : State) (addr n : Nat) : List Byte :=
  (List.range n).map (fun i => if 0x0100000000 ≤ addr + i then spGet 0 s.mem.data (addr + i - 0x0100000000) else 0)

/-- Bytes written to the SRAM inside the device. -/
def sramPoke (s : State) (addr : Nat) (b : List Byte) : State :=
  { s with mem := { s.mem with data := (b.zip (List.range b.length)).foldl (fun m x =>
                                 let a := addr + x.2
                                 if 0x0100000000 ≤ a ∧ a < 0x0103000000 then spPut 0 m (a - 0x0100000000) x.1 else m) s.mem.data } }

/-- A capture's samples written to the SRAM. -/
def sramWrite (s : State) (addr : Nat) (b : List Byte) : State := sramPoke s addr b

/-! ## Paths and carriers -/

/-- A path is held OFF: by a declaration, a service window, or a power state below depth 0 (R257, R377, R507). -/
def State.pathHeldOff (s : State) (p : Nat) : Bool :=
  decide (p ∈ s.bm.held) || decide (p ∈ s.cal.window) || decide (s.pwr.depth ≠ 0)

/-! ## Calibration values (R338) -/

/-- LD, the loop delay of a path in ADC samples: item 0x13 on its ramp (R161). -/
def State.loopDelay (s : State) (p : Nat) : Nat := (clampI 0 4095 (Int.tdiv ((s.calItem p 0x13).now.x.getD 0 0) 1000000)).toNat

/-- The receive attenuation of a path. -/
def State.rxAtt (s : State) (p : Nat) : Nat := (spGet Rxg.reset s.rx.gain p).att

/-- The predistortion bank in force on a path. -/
def State.dpdBank (s : State) (p : Nat) : Nat := (spGet Dpd.reset s.dpds p).bank

/-- A predistortion ramp runs on a path. -/
def State.dpdRamping (s : State) (p : Nat) : Bool :=
  (spGet Dpd.reset s.dpds p).ramps

/-- A foreground calibration runs on a path. -/
def State.calRunning (s : State) (p : Nat) : Bool := s.cal.fg.any (fun r => decide (r.path = p) && r.running)

/-- The bytes of an object that a coefficient roll loads: those of the accepted commit that waits for its boundary, else the
committed ones (R200). -/
def State.rollBytes (s : State) (index sub : Nat) : List Byte :=
  let j : Option (Nat × ObjVal) := match s.adm.waiting with
    | some w => w.objs.find? (fun p => p.1 = okey index sub)
    | none => none
  match j with
  | some (_, v) => v.toBytes
  | none => s.obytes index sub

/-- A tenant's MACsec slot holds a key. -/
def State.hasCak (s : State) (n : Nat) : Bool := (s.nv.keys.find? (fun p => p.1 = 7 + n)).isSome

/-- A path's analogue is declared failed (R257): its declaration travels to the beam matrix. -/
def failPath (s : State) (p : Nat) : State :=
  let fe := spGet PathFe.reset s.fe p
  if p < 64 ∧ ¬ fe.failed then
    { s with fe := spPut PathFe.reset s.fe p { fe with failed := true },
             bm := { s.bm with declaring := if p ∈ s.bm.declaring then s.bm.declaring else s.bm.declaring ++ [p] } }
  else s

/-- A loss of capacity: admission repeats (R82). -/
def readmit (s : State) : State := { s with adm := { s.adm with again := true } }

/-! ## The event log and sticky flags (R494, R497) -/

/-- A log entry is written (R497); past 1,024 the oldest goes, and each 1,024th overwrite raises EVT_LOG_WRAP. -/
def logWrite (s : State) (e : LogEntry) : State :=
  let full := decide (1024 ≤ s.evt.log.length)
  let overs := s.evt.overwrites + b2n full
  let s1 := { s with evt := { s.evt with log := (if full then s.evt.log.tail else s.evt.log) ++ [e],
                                         head := s.evt.head + 1, overwrites := overs } }
  if full ∧ overs % 1024 = 0 then raise s1 229 NA NA else s1

/-- A firing that no destination took adds 1 to the source's newest entry (R497); the newest stands first here. -/
def repeatNewest (src : Nat) : List LogEntry → List LogEntry
  | [] => []
  | e :: t => if e.src = src then { e with rpt := min 255 (e.rpt + 1) } :: t else e :: repeatNewest src t

/-- A counting of a firing in the newest entry is taken back: the firing is delivered after all (R494). -/
def uncountNewest (src : Nat) : List LogEntry → List LogEntry
  | [] => []
  | e :: t => if e.src = src then { e with rpt := e.rpt - 1 } :: t else e :: uncountNewest src t

/-- The log entry of a firing, if it has one. -/
def LogEntry.ofFiring (e : LogEntry) (f : Firing) (at_ : Nat) : Bool :=
  decide (e.src = f.src ∧ e.inst = f.inst ∧ e.aux = f.aux ∧ e.tick = at_)

/-- A firing that a destination counted in this tick is delivered there as a new one: a write of 1 cleared its flag in the same cycle, so
the flag stays set and the repeat count becomes 1 (R6, R494).  In the log the destination joins the firing's entry; a firing that no
destination had taken is an entry of its own and no longer counted in the newest (DEDUCED, assumption 149). -/
def deliverCounted (s : State) (d : Nat) (f : Firing) : State :=
  let s1 := wf s .evtRpt [d, f.src] 7 0 1
  let s2 := if d < 4 then s1.setPort d { s1.port d with queue := (s1.port d).queue ++ [(f.src, f.inst, 1, false)] } else s1
  let at_ := s.now - (s.clk.elapsed - f.tick)
  let s3 : State := { s2 with evt := { s2.evt with counted := s2.evt.counted.filter (fun c => ¬ (c.1 = d ∧ c.2.src = f.src)) } }
  if s3.evt.log.any (fun e => e.ofFiring f at_) then
    { s3 with evt := { s3.evt with log := s3.evt.log.map (fun e =>
        if e.ofFiring f at_ then { e with dest := Nat.lor e.dest (2 ^ d) } else e) } }
  else
    logWrite { s3 with evt := { s3.evt with log := (uncountNewest f.src s3.evt.log.reverse).reverse } } ⟨at_, f.src, 2 ^ d, f.inst, f.aux, 0⟩

/-- A write of 1 to the sticky flag of a source at a destination (R494): the flag and its repeat count are cleared, unless hardware set
the flag, or a firing reached it, in the same tick (R6). -/
def clearFlag (s : State) (d src : Nat) : State :=
  let b := src / 32
  let i := src % 32
  let same := if s.evt.shownAt = s.clk.elapsed then s.evt.counted else []
  if ¬ rbit s .evtStk [d, b] i ∨ bitOf (s.freshMask .evtStk [d, b]) i then s
  else match same.find? (fun c => c.1 = d ∧ c.2.src = src) with
    | some c => deliverCounted s d c.2
    | none => wf (wbit s .evtStk [d, b] i false) .evtRpt [d, src] 7 0 0

/-- A write of 1 to sticky flags of a destination (R494). -/
def clearSticky (s : State) (d b bits : Nat) : State :=
  (List.range 32).foldl (fun s i => if bitOf bits i then clearFlag s d (32 * b + i) else s) s

/-! ## Service life (R619 to R622) -/

/-- The pool of a spare: 0 ADC slice of converter i, 1 cell of DAC i, 2 lane of cluster i, 3 tile, 4 bank, 5 row of bank i, 6 link
lane, 7 engine. -/
def poolOf (kind i : Nat) : Nat :=
  match kind with
  | 0 => i
  | 1 => 138 + i
  | 2 => 266 + i
  | 3 => 274
  | 4 => 276
  | 5 => 277 + i
  | 6 => 377
  | _ => 275

/-- The spares a pool begins with (R599). -/
def poolInitial (pool : Nat) : Nat :=
  if pool < 138 then 1 else if pool < 266 then 2 else if pool < 275 then 1 else if pool = 275 then 2
  else if pool = 276 then 4 else if pool < 377 then 8 else 1

/-- The hours of a pool's uses. -/
def State.poolUses (s : State) (pool : Nat) : List Nat := spGet [] s.nv.uses pool
/-- The spares left in a pool. -/
def State.poolLeft (s : State) (pool : Nat) : Nat := poolInitial pool - (s.poolUses pool).length

/-- The forecast of a pool in hours; none while undefined (R620). -/
def State.forecast (s : State) (pool : Nat) : Option Nat :=
  let h := s.nv.hours
  let w := min h 8760
  let u := ((s.poolUses pool).filter (fun x => h - w < x)).length
  if u = 0 ∨ s.poolLeft pool = 0 then none else some (s.poolLeft pool * w / u)

/-- The forecast of a pool against HORIZON (R621). -/
def checkForecast (s : State) (pool : Nat) : State :=
  let low : Bool := match s.forecast pool with
    | some f => decide (f < s.onum 0xD001 1)
    | none => false
  if low ∧ pool ∉ s.svc.low then
    let f := (s.forecast pool).getD 0
    condOn { s with svc := { s.svc with low := setIns pool s.svc.low } } 244 pool (min 0xFFFF (f / 24))
  else if ¬ low ∧ pool ∈ s.svc.low then
    (s.evt.cond.filter (fun c => c.1 = 244 ∧ c.2.1 = pool)).foldl (fun s c => condOff s c.1 c.2.1 c.2.2)
      { s with svc := { s.svc with low := s.svc.low.filter (· ≠ pool) } }
  else s

/-- A use of a spare is recorded and reported (R619, R621). -/
def spareUsed (s : State) (kind i : Nat) : State :=
  let pool := poolOf kind i
  let s1 := { s with nv := { s.nv with uses := spPut [] s.nv.uses pool (s.poolUses pool ++ [s.nv.hours]) } }
  let left := s1.poolLeft pool
  let s2 := raise s1 242 pool left
  checkForecast (if left = 0 then raise s2 243 pool NA else s2) pool

end Sys2Proof.Machine
end

