-- ==== Sys2Proof/Machine/MemOps.lean ====
section
/-! DEFINITION. Memory banks, the firewall of SRAM, bank arbitration, repair and sparing, set requests (chapter 12). -/

namespace Sys2Proof.Machine

/-! ## Banks and partitions (R428 to R431) -/

/-- The SRAM window. -/
def sramBase : Nat := 0x100000000
/-- Bytes of SRAM. -/
def sramSize : Nat := 96 * 0x80000

/-- A bank of an SRAM offset. -/
def bankOfOffset (off : Nat) : Nat := off / 0x80000

/-- A physical bank's field of MEM_BANKb_STAT. -/
def bankState (s : State) (b : Nat) : Nat := rf s .memBankStat [b] 1 0
/-- The bank that a physical bank serves. -/
def bankServed (s : State) (b : Nat) : Nat := rf s .memBankStat [b] 8 2

/-- The physical bank that serves a bank, by the bank map (R428, R439). -/
def State.physBank (s : State) (a : Nat) : Option Nat :=
  (List.range 100).find? (fun b => decide (bankServed s b = a) && (decide (bankState s b = 0) || decide (bankState s b = 2)) &&
    ¬ (s.sub (subBank b)).off)

/-- The tenant whose partition holds a bank (R430). -/
def State.partOf (s : State) (a : Nat) : Option Nat :=
  (List.range 4).find? (fun n =>
    let first := rf s .memPart [n] 6 0
    decide (first ≤ a) && decide (a < first + rf s .memPart [n] 13 7))

/-- Tenant `n` owns an enabled carrier. -/
def State.tenantCarries (s : State) (n : Nat) : Bool :=
  (List.range 8).any (fun cc => decide (s.ccOwner cc = n) && decide (s.onum (0x2010 + cc) 1 ≠ 0))

/-- An engine has a queued or running job that admission or a unit placed, and tenant `n` carries (R31).  Every such kernel works on a
path, which carries every enabled carrier, or on the whole array: it is assigned to each tenant that has an enabled carrier (DEDUCED,
assumption 95). -/
def State.engineFor (s : State) (e n : Nat) : Bool :=
  let x := spGet Eng.reset s.ge.eng e
  s.tenantCarries n && (x.queue ++ x.ready ++ x.job.toList).any (fun j => decide (j.src = .release) || decide (j.src = .erg))

/-- The firewall of SRAM (R30, R31, R431): by the tag, the master, and the ring it acts for. -/
def State.sramAllowed (s : State) (m : Master) (tag : Nat) (ring : Option Nat) (a : Nat) : Bool :=
  if tag < 4 then decide (s.partOf a = some tag)
  else if tag = 4 then
    match s.partOf a with
    | none => true
    | some n => match m, ring with
      | .engine e, _ => s.engineFor e n
      | .dma, some r => rbit s .dmaRingGrant [r] n
      | _, _ => false
  else decide (tag = 5)

/-- MEM_FAULT: address, tag, port and kind of the last fault. -/
def memFault (s : State) (addr tag port kind : Nat) : State :=
  wr s .memFault [] (addr % 2 ^ 40 + tag % 8 * 2 ^ 40 + port % 64 * 2 ^ 43 + kind % 4 * 2 ^ 49)

/-! ## ECC (R432, R433) -/

/-- A corrected error of a word: counted, remembered for its row, MEM_CE (R432, R435). -/
def correctedError (s : State) (w : Nat) : State :=
  match s.physBank (bankOfOffset (8 * w)) with
  | some b =>
    let in_ := w % 0x10000
    let s1 := { s with mem := { s.mem with hist := spMod [] s.mem.hist b (fun l => l ++ [(in_ / 128, in_, s.clk.elapsed)]) } }
    raise (bump s1 .memBankCe [b]) 160 (bankOfOffset (8 * w)) NA
  | none => s

/-- Ticks in 86,400 s. -/
def dayTicks : Nat := 86400 * secTicks

/-- A word found uncorrectable is poisoned (R433); the second of a physical bank within 86,400 s asks for the bank's sparing (R436). -/
def poisonWord (s : State) (w : Nat) : State :=
  match s.physBank (bankOfOffset (8 * w)) with
  | some b =>
    if w ∈ s.mem.poison then s
    else
      let last := spGet 0 s.mem.poisonAt b
      let again := decide (last ≠ 0) && decide (s.clk.elapsed + 1 ≤ last + dayTicks)
      bump { s with mem := { s.mem with poison := setIns w s.mem.poison, poisonAt := spPut 0 s.mem.poisonAt b (s.clk.elapsed + 1),
                                        due := if again then setIns b s.mem.due else s.mem.due } }
        .memBankUe [b]
  | none => s

/-- What a read's ECC found: corrected words, and uncorrectable ones. -/
def eccFound (s : State) (ce ue : List Nat) : State :=
  let ok (w : Nat) : Bool := decide (8 * w < sramSize)
  (ue.filter ok).foldl poisonWord ((ce.filter ok).foldl correctedError s)

/-- The bytes of SRAM from an offset; a poisoned word reads zero (R433). -/
def sramBytes (s : State) (off n : Nat) : List Byte :=
  (List.range n).map (fun i => if (off + i) / 8 ∈ s.mem.poison then 0 else spGet 0 s.mem.data (off + i))

/-- The poisoned words of a span. -/
def poisonIn (s : State) (off n : Nat) : List Nat := s.mem.poison.filter (fun w => off < 8 * w + 8 ∧ 8 * w < off + n)

/-- Bytes written to SRAM: a poisoned word that is written whole, or in part with its other bytes zero, is clean again (R433). -/
def sramStore (s : State) (off : Nat) (b : List Byte) : State :=
  let hit := poisonIn s off b.length
  let d0 := hit.foldl (fun d w => (List.range 8).foldl (fun d i => spPut 0 d (8 * w + i) 0) d) s.mem.data
  let d1 := (b.zip (List.range b.length)).foldl (fun d p => spPut 0 d (off + p.2) p.1) d0
  { s with mem := { s.mem with data := d1, poison := s.mem.poison.filter (fun w => w ∉ hit), carried := s.mem.carried.filter (fun w => w ∉ hit) } }

/-- Reads of poisoned words: the record and MEM_UE, once per word (R433). -/
def poisonRead (s : State) (off n tag port : Nat) : State :=
  (poisonIn s off n).foldl (fun s w => raise (memFault s (sramBase + 8 * w) tag port 1) 161 (bankOfOffset (8 * w)) NA) s

/-! ## Arbitration (R440 to R448) -/

/-- The master behind a requester port (R440). -/
def portMaster (q : Nat) : Master :=
  if q < 8 then .lane q
  else if q ≤ 16 then .tile (q - 8)
  else if q = 17 then .tile 0
  else if q ≤ 19 then .link
  else if q ≤ 23 then .dma
  else if q ≤ 41 then .engine (q - 24)
  else if q = 42 then .pair 0
  else if q = 43 then .sec
  else if q = 44 then .debug
  else .dma

/-- The main mover is in service (R467). -/
def mainUp (s : State) : Bool := decide (s.mem.mainMover = 0) && ¬ rbit s .dmaCtrl [] 0

/-- A ring that is ACTIVE on the main mover: MOVER = 0, and not gone to the split movers until its next descriptor (R466, R467, R610). -/
def onMain (s : State) (r : Nat) : Bool :=
  decide (rf s .dmaRingStat [r] 1 0 = 2) && ¬ rbit s .dmaRingCfg [r] 8 && ¬ (spGet Batch.none_ s.mem.batch r).split

/-- The level of a ring (R440): a timeline ring's is the highest. -/
def ringLevel (s : State) (r : Nat) : Nat := if rbit s .dmaRingCfg [r] 6 then 3 else rf s .dmaRingCfg [r] 5 4

/-- The level of the highest ACTIVE ring of a mover (R440, R464). -/
def moverLevel (s : State) (split : Nat) : Nat :=
  (List.range 128).foldl (fun l r =>
    if rf s .dmaRingStat [r] 1 0 = 2 ∧ onMain s r = decide (split = 0) then max l (ringLevel s r) else l) 0

/-- The level of an engine's port, by the class of its running job (R440). -/
def engineLevel (s : State) (e : Nat) : Nat :=
  match (spGet Eng.reset s.ge.eng e).job with
  | some j => if j.cls = 0 then 3 else if j.cls = 1 then 2 else if j.cls = 2 then 1 else 0
  | none => 0

/-- The level of a port now (R440); the maintenance port's is the copier's while it works. -/
def State.portLevel (s : State) (q : Nat) : Nat :=
  if q = 20 ∨ q = 21 then moverLevel s 0
  else if q = 22 ∨ q = 23 then moverLevel s 1
  else if 24 ≤ q ∧ q ≤ 41 then engineLevel s (q - 24)
  else if q = 45 ∧ s.mem.migr ≠ [] then 2
  else if 42 ≤ q then rf s .memPrio [q] 3 2
  else prioReset q

/-- The island of a port (R445). -/
def portIsland (q : Nat) : Nat :=
  if q < 8 then q else if q ≤ 17 then 8 else if q ≤ 19 then 11 else if q ≤ 23 then 12 else if q ≤ 41 then 13 + (q - 24)
  else if q = 42 then 31 else if q = 43 then 32 else if q = 44 then 34 else 12

/-- A port that the arbiters do not see: masked by the watchdog, or its island or its tile off (R445, R451). -/
def State.portMasked (s : State) (q : Nat) : Bool :=
  rbit s .memHoldMask [] q || (s.island (portIsland q)).off || (decide (8 ≤ q) && decide (q ≤ 16) && (s.sub (subTile (q - 8))).off)

/-- A bank starts no phase: its physical bank is frozen, or a set holds it (R446, R450). -/
def bankClosed (s : State) (a : Nat) : Bool :=
  (match s.physBank a with
    | some b => rbit s .memBankCtrl [b] 0
    | none => false)
  || (match s.mem.lock with
    | some l => decide (a ∈ l.banks)
    | none => false)

/-- The winner among requesting ports: the highest level, and within it the first after the last granted there, in ascending
order with wrap-around (R442). -/
def arbPick (level : Nat → Nat) (last : Sparse Nat) (ports : List Nat) : Option Nat :=
  let top := ports.foldl (fun m q => max m (level q)) 0
  let cand := (List.range 46).filter (fun q => decide (q ∈ ports) && decide (level q = top))
  let start := spGet 0 last top  -- the last port granted, plus 1
  match cand.find? (fun q => start ≤ q) with
  | some q => some q
  | none => cand.head?

/-- An arbitration phase of a bank (R442 to R446): the tenure in progress ends; with no request its grant parks; the owner alone
goes on without a phase; else the winner's tenure starts. -/
def arbPhase (s : State) (a : Nat) (ports : List Nat) (beats : Nat) : State :=
  if bankClosed s a then s
  else
    let x := spGet Arb.reset s.mem.arb a
    let req := ports.filter (fun q => q < 46 ∧ ¬ s.portMasked q)
    let owner := match x.owner with
      | some o => if s.portMasked o then none else some o
      | none => none
    let set (y : Arb) : State := { s with mem := { s.mem with arb := spPut Arb.reset s.mem.arb a y } }
    match arbPick s.portLevel x.last req with
    | none => set { x with owner := owner, busy := false, beats := 0 }
    | some w =>
      let last := if owner = some w ∧ req.all (· = w) then x.last else spPut 0 x.last (s.portLevel w) (w + 1)
      set { x with owner := some w, busy := true, beats := min 16 (max 1 beats), since := s.clk.elapsed, last := last }

/-- A tenure ends and its grant parks (R444). -/
def arbEnd (s : State) (a : Nat) : State :=
  { s with mem := { s.mem with arb := spMod Arb.reset s.mem.arb a (fun x => { x with busy := false, beats := 0 }) } }

/-- The parked grants of the ports that `p` holds of are dropped (R445, R446). -/
def dropParked (s : State) (p : Nat → Nat → Bool) : State :=
  { s with mem := { s.mem with arb := (List.range 96).foldl (fun m a =>
                                 let x := spGet Arb.reset s.mem.arb a
                                 if ¬ x.busy ∧ x.owner.any (p a) then spPut Arb.reset m a { x with owner := none } else m) s.mem.arb } }

/-- A port can be served by a bank now: not masked and the bank open (R445, R446). -/
def portServed (s : State) (q a : Nat) : Bool := ¬ s.portMasked q && ¬ bankClosed s a

/-! ## Accesses (R30, R34, R431, R441) -/

/-- A response: 0 OK, 1 OFF, 2 RESET_ABORT, 3 refused by a firewall, 4 address fault. -/
abbrev Resp := Nat

/-- A read of SRAM by a master: firewall, then OFF where the bank or the island does not serve, then the data (R21, R30, R431,
R433, R439). -/
def sramRead (s : State) (m : Master) (tag : Nat) (ring : Option Nat) (port off n : Nat) : Resp × List Byte × State :=
  let banks := (List.range 96).filter (fun a => off < (a + 1) * 0x80000 ∧ a * 0x80000 < off + n)
  let zero := List.replicate n (0 : Byte)
  if ¬ banks.all (s.sramAllowed m tag ring) then (3, zero, firewall s tag)
  else if (s.island 12).off ∨ banks.any (fun a => (s.physBank a).isNone) then (1, zero, s)
  else if tag = 5 ∧ s.sec.dbgLevel ≤ 2 ∧ banks.any (fun a => (s.partOf a).isSome) then (0, zero, s)
  else (0, sramBytes s off n, poisonRead s off n tag port)

/-- A write of SRAM by a master. -/
def sramWriteBy (s : State) (m : Master) (tag : Nat) (ring : Option Nat) (off : Nat) (b : List Byte) : Resp × State :=
  let banks := (List.range 96).filter (fun a => off < (a + 1) * 0x80000 ∧ a * 0x80000 < off + b.length)
  if ¬ banks.all (s.sramAllowed m tag ring) then (3, firewall s tag)
  else if (s.island 12).off ∨ banks.any (fun a => (s.physBank a).isNone) then (1, s)
  else (0, sramStore s off b)

/-! ## Repair and sparing (R435 to R439) -/

/-- The words of a row that reported corrected errors within a day. -/
def rowErrors (s : State) (b row : Nat) : Nat :=
  (((spGet [] s.mem.hist b).filter (fun x => x.1 = row ∧ s.clk.elapsed < x.2.2 + dayTicks)).map (fun x => x.2.1)).dedup.length

/-- Whether a word of a row is poisoned, other than by what its repair carried over (R435). -/
def rowPoisoned (s : State) (b row : Nat) : Bool :=
  s.mem.poison.any (fun w => decide (w ∉ s.mem.carried) && decide (s.physBank (w / 0x10000) = some b) && decide (w % 0x10000 / 128 = row))

/-- A row needs repair (R435). -/
def rowNeeds (s : State) (b row : Nat) : Bool := decide (4 ≤ rowErrors s b row) || rowPoisoned s b row

/-- Bank states, maps and rows in the NV store (R435, R439). -/
def saveBanks (s : State) : State :=
  { s with nv := { s.nv with banks := (List.range 100).foldl (fun m b => spPut 0 m b (rd s .memBankStat [b] + 1)) s.nv.banks } }

/-- The lowest SPARE physical bank that no migration fills (R436). -/
def spareBank (s : State) : Option Nat :=
  (List.range 100).find? (fun b => decide (bankState s b = 1) && s.mem.migr.all (fun m => decide (m.2 ≠ b)))

/-- A physical bank becomes RETIRED: it serves no bank and is powered down (R13, R436). -/
def retireBank (s : State) (b : Nat) : State :=
  let s1 := subDown (wf (wf s .memBankStat [b] 1 0 3) .memBankStat [b] 8 2 127) (subBank b)
  { s1 with mem := { s1.mem with due := s1.mem.due.filter (· ≠ b) } }

/-- A physical bank is to be spared: it migrates to the lowest SPARE bank, or is retired with its bank lost (R436, R437, R439). -/
def spareBankOut (s : State) (b : Nat) : State :=
  if b < 100 ∧ bankState s b = 0 then
    match spareBank s with
    | some n =>
      let s1 := wf s .memBankStat [b] 1 0 2
      { s1 with mem := { s1.mem with migr := s1.mem.migr ++ [(b, n)] } }
    | none =>
      let a := bankServed s b
      let s1 := retireBank s b
      readmit (saveBanks (raise s1 164 a NA))
  else s

/-- A migration completes: the map is swapped under freeze and the old physical bank is retired (R437). -/
def migrationEnd (s : State) (b n : Nat) : State :=
  let a := bankServed s b
  let s1 := wf (wf s .memBankStat [n] 1 0 0) .memBankStat [n] 8 2 a
  let s2 := retireBank s1 b
  let s3 := { s2 with mem := { s2.mem with migr := s2.mem.migr.filter (fun p => p.1 ≠ b), hist := spErase s2.mem.hist b,
                                           carried := (s2.mem.poison.filter (fun w => w / 0x10000 = a)).foldl (fun l w => setIns w l) s2.mem.carried,
                                           poisonAt := spPut 0 s2.mem.poisonAt b 0 } }
  spareUsed (saveBanks (raise s3 163 a NA)) 4 a

/-! ## Set requests (R449, R450) -/

/-- A member's place in the global order: capture buffers, engines, banks. -/
def LockSet.keys (l : LockSet) : List Nat :=
  l.buf.toList ++ (l.eng.toList).map (fun e => 1000 + e) ++ l.banks.map (fun a => 2000 + a)

/-- Every member is free: no dispatcher job uses the buffer, the engine's queue has room, no tenure is in progress. -/
def setFree (s : State) (l : LockSet) : Bool :=
  (match l.buf with
    | some b => ¬ s.disp.jobs.any (fun j => decide (j.buf = some b))
    | none => true)
  && (match l.eng with
    | some e => decide ((spGet Eng.reset s.ge.eng e).queue.length < 16)
    | none => true)
  && l.banks.all (fun a => ¬ (spGet Arb.reset s.mem.arb a).busy)

/-- A waiting set request is granted once every member is free (R449). -/
def grantSet (s : State) : State :=
  match s.mem.lockWait with
  | some l =>
    if setFree s l then
      let h := match s.mem.lock with
        | some x => (⟨x.buf <|> l.buf, x.eng <|> l.eng, x.banks ++ l.banks, x.since⟩ : LockSet)
        | none => { l with since := s.clk.elapsed }
      { s with mem := { s.mem with lock := some h, lockWait := none } }
    else s
  | none => s

/-- The members a MEM_LOCK word names. -/
def lockOfWord (v : Nat) : LockSet :=
  ⟨if bitOf v 8 then some (bitsOf v 7 0) else none, if bitOf v 14 then some (bitsOf v 13 9) else none,
   ((List.range 4).filter (fun i => bitOf v (43 + i))).map (fun i => bitsOf v (21 + 7 * i) (15 + 7 * i)), 0⟩

/-- Whether a request keeps the global order over what is held, and names members that exist (R449). -/
def lockOrdered (held : Option LockSet) (l : LockSet) : Bool :=
  let top := match held with
    | some h => h.keys.foldl max 0
    | none => 0
  (held.isNone || l.keys.all (fun k => top < k)) && l.buf.all (· < 256) && l.eng.all (· < 18) && l.banks.all (· < 96)

end Sys2Proof.Machine
end

