-- ==== Sys2Proof/Machine/PathOps.lean ====
section
/-! DEFINITION. Shared operations of the RF paths: path states, pins, synthesisers, the guard serial bus, converters and
captures (chapters 2 to 4). -/

namespace Sys2Proof.Machine

/-! ## Records -/

/-- The front end of a path set. -/
def State.setFe (s : State) (p : Nat) (x : PathFe) : State := { s with fe := spPut PathFe.reset s.fe p x }
/-- A synthesiser set. -/
def State.setSyn (s : State) (n : Nat) (x : Syn) : State :=
  { s with lo := { s.lo with syn := spPut Syn.reset s.lo.syn n x } }
/-- A converter. -/
def State.conv (s : State) (k : Nat) : Conv := spGet (Conv.reset k) s.cvt.conv k
/-- A converter set. -/
def State.setConv (s : State) (k : Nat) (x : Conv) : State :=
  { s with cvt := { s.cvt with conv := spPut (Conv.reset k) s.cvt.conv k x } }
/-- A DAC's cells. -/
def State.dac (s : State) (d : Nat) : DacCells := spGet DacCells.reset s.cvt.dac d
/-- A DAC's cells set. -/
def State.setDac (s : State) (d : Nat) (x : DacCells) : State :=
  { s with cvt := { s.cvt with dac := spPut DacCells.reset s.cvt.dac d x } }
/-- An observation receiver. -/
def State.orx (s : State) (r : Nat) : Orx := spGet Orx.reset s.cvt.orx r
/-- An observation receiver set. -/
def State.setOrx (s : State) (r : Nat) (x : Orx) : State :=
  { s with cvt := { s.cvt with orx := spPut Orx.reset s.cvt.orx r x } }
/-- A capture buffer. -/
def State.buf (s : State) (b : Nat) : CapBuf := spGet CapBuf.reset s.cvt.buf b
/-- A capture buffer set. -/
def State.setBuf (s : State) (b : Nat) (x : CapBuf) : State :=
  { s with cvt := { s.cvt with buf := spPut CapBuf.reset s.cvt.buf b x } }
/-- The input switch of a path. -/
def State.inSwitch (s : State) (p : Nat) : InSwitch := spGet InSwitch.reset s.cvt.sw p

/-! ## Path states (R44) -/

/-- An event entry. -/
structure EvtEntry where
  offset : Nat
  valid : Bool
  type : Nat
  target : Nat
  arg : Nat
deriving DecidableEq, Repr

/-- An event entry from its word (TL_EVTn). -/
def evtOfWord (w : Nat) : EvtEntry := ⟨bitsOf w 22 0, bitOf w 23, bitsOf w 29 24, bitsOf w 39 32, bitsOf w 63 40⟩

/-- A CAL_WINDOW event that targets a path fires inside an entry (R346). -/
def calTargets (s : State) (st dur p : Nat) : Bool :=
  (List.range 4096).any (fun n =>
    let e := evtOfWord (rd s .tlEvt [n])
    e.valid && e.type = 11 && decide (st ≤ e.offset ∧ e.offset < st + dur) && (e.target = 255 || e.target = p))

/-- The path state that the entry now running gives a path (R44, R46). -/
def pathTarget (s : State) (p : Nat) : PathState :=
  if ¬ s.tlRuns ∨ s.pobj p 1 = 0 ∨ (s.island (p / 8)).off ∨ s.pathHeldOff p then .off
  else match s.entryNow with
    | none => .off
    | some (_, st, e) =>
      if e.dir = 0 then .tx
      else if e.dir = 1 then .rx
      else if e.cal ∧ calTargets s st e.dur p ∧ ¬ s.calRunning p then .cal
      else .guard

/-- The pin phase of a path state (R45, R101). -/
def phaseOf : PathState → PinPhase
  | .tx => .tx
  | .rx => .rx
  | .guard | .cal => .guard
  | .off => .off

/-- A pin level from its two safe bits (R111). -/
def safeDrive : Nat → Drive
  | 0 => .low
  | 1 => .high
  | _ => .z

/-! ## Lock (R90, R92, R95, R96) -/

/-- The RX trunk is LOCKED as path `p` sees it; samples taken while it is not carry the mirage flag (R98). -/
def State.rxLocked (s : State) (p : Nat) : Bool := s.seenLocked s.lo.rxServe p

/-- Any carrier is active. -/
def State.anyCarrierActive (s : State) : Bool := (List.range 8).any s.ccActive

/-- The time a path does not transmit: OFF, or blanked (R281, R282). -/
def markSilent (s : State) (p : Nat) : State :=
  markIf (markIf s (markKey 10 p) (decide (s.pathState p = .off) || (s.pathFe p).blanked)) (markKey 11 p) (decide (s.pathState p = .off))

/-- A path transmits again after it was blanked: FEA takes its PA-enable level (R96). -/
def resumeTx (s : State) (p : Nat) : State :=
  let fe := s.pathFe p
  markSilent (s.setFe p { fe with blanked := false, fea := if fe.turn.isNone ∧ fe.phase = .tx then .high else fe.fea }) p

/-- `n` symbols of a path are blanked: DACs at zero, FEA not at its PA level, counted, with SYN_LATE unless within the
quiet span of a band change (R96, R100). -/
def blankSymbols (s : State) (p n : Nat) : State :=
  let fe := s.pathFe p
  let pa : Bool := match fe.turn with
    | none => decide (fe.phase = .tx)
    | some t => decide (t.upto = .tx ∧ 60 ≤ t.step)
  let s1 := markSilent (s.setFe p { fe with blanked := true, fea := if pa then .low else fe.fea }) p
  if n = 0 then s1
  else
    let s2 := statPath s1 p 0x10 n
    if s.clk.elapsed < s.lo.quietUntil then s2 else raise s2 7 NA p

/-- The name under which a symbol of carrier `cc` starts on path `p`: the key, the path its instance. -/
def symbolKey (cc : Nat) : Nat := 44 * 64 + cc

/-- A transmit symbol of carrier `cc` is under way on path `p`: at the tick of a symbol boundary, only once it has started. -/
def symbolOpen (s : State) (p cc : Nat) : Bool :=
  ¬ isSymbol s.frameOfs (s.ccMu cc) (s.ccEcp cc) s.now || decide (spGet 0 s.clk.seen (symbolKey cc * 65536 + p) = s.clk.elapsed + 1)

/-- The TX trunk is not LOCKED from now on; an earlier span in which it was not is kept (R98). -/
def txLost (s : State) : State :=
  let s1 := markSpan s (markKey 2 0) s.lo.txLostAt s.lo.txFrom
  if s.lo.txFrom ≤ s.lo.txLostAt then s1 else { s1 with lo := { s1.lo with txLostAt := s.clk.elapsed } }

/-- The TX trunk leaves LOCKED: every path in TX outputs zero and drops FEA, and the rest of the symbol under way of each downlink carrier
is blanked and counted (R97).  The latency, within 64 ticks and not fixed, is taken as 0 (DESIGN CHOICE, assumption 103). -/
def txDrop (s : State) : State :=
  (List.range 64).foldl (fun s p =>
    if s.pathState p = .tx ∧ ¬ (s.pathFe p).blanked then
      blankSymbols s p ((List.range 8).filter (fun c => s.dlOn c && symbolOpen s p c)).length else s)
    (txLost s)

/-! ## Captures that run (R163) -/

/-- Ticks from the first sample to the end of the last Z sample of a capture (R159 to R161): n periods at 10 a tick and, for source 0, LD
in ADC samples: 5 a tick on a path, 10 on an ORX. -/
def captureTicks (x : CapBuf) : Nat := ceilDiv (x.n + if x.src ≠ 0 then 0 else if x.staging < 64 then 2 * x.ld else x.ld) 10

/-- The elapsed tick at which a capture ends. -/
def captureEnd (x : CapBuf) : Nat := if x.trunc then x.cut else if x.notTx then x.opened else x.opened + captureTicks x

/-- The capture of a path's or ORX's staging buffer takes samples at an elapsed tick. -/
def captureAt (s : State) (st t : Nat) : Bool :=
  match spGet none s.cvt.staging st with
  | some b => decide ((s.buf b).st = .filling) && decide ((s.buf b).opened ≤ t) && decide (t < captureEnd (s.buf b))
  | none => false

/-- A capture is taking samples on a path or ORX. -/
def captureOpen (s : State) (st : Nat) : Bool := captureAt s st s.clk.elapsed

/-- The RX trunk is not LOCKED from now on: samples taken carry the mirage flag; an earlier span in which it was not is kept (R98). -/
def rxDrop (s : State) : State :=
  let s1 := markSpan s (markKey 1 0) s.lo.rxLostAt s.rx.goodFrom
  if s.rx.goodFrom ≤ s.lo.rxLostAt then s1 else { s1 with lo := { s1.lo with rxLostAt := s.clk.elapsed } }

/-- Synthesiser `n` leaves LOCKED: so do the trunks it serves (R86, R97, R98, R149). -/
def trunkDrop (s : State) (n : Nat) : State :=
  let s1 := if n = s.lo.txServe then txDrop s else s
  if n = s1.lo.rxServe then rxDrop s1 else s1

/-! ## Tunes (R90, R91, R99) -/

/-- A synthesiser goes to HOLDOVER (R90). -/
def synHoldover (s : State) (n : Nat) : State :=
  let x := s.syn n
  match x.st with
  | .calibrating | .settling | .locked =>
    let s1 := raise (s.setSyn n { x with st := .holdover, since := s.clk.elapsed }) 9 NA NA
    if x.st = .locked then trunkDrop s1 n else s1
  | _ => s

/-- A preset's word in force. -/
def State.presetOf (s : State) (n k : Nat) : Nat := rf s .loSynPre [n, k] 47 0

/-- A preset that a synthesiser has and that is set (R88). -/
def presetSet (s : State) (n k : Nat) : Bool := decide (n < 4) && decide (k < 16) && decide (s.presetOf n k ≠ 0)

/-- A tune: from OFF or LOCKED, and from no other state, CALIBRATING toward a word; with REFCLK lost, on to HOLDOVER (R90, R91). -/
def tuneWord (s : State) (n preset w : Nat) : State :=
  let x := s.syn n
  if n < 4 ∧ (x.st = .off ∨ x.st = .locked) then
    let s1 := s.setSyn n { x with st := .calibrating, preset := preset, word := w, retried := false, since := s.clk.elapsed }
    let s2 := if x.st = .locked then trunkDrop s1 n else s1
    if s2.lo.refLoss then synHoldover s2 n else s2
  else s

/-- A tune to a preset in force. -/
def tuneSyn (s : State) (n preset : Nat) : State := tuneWord s n preset (s.presetOf n preset)

/-- A synthesiser OFF, its FAULT clear (R90). -/
def synOff (s : State) (n : Nat) : State :=
  let x := s.syn n
  let s1 := s.setSyn n { x with st := .off, fault := false, retried := false, since := s.clk.elapsed }
  if x.st = .locked then trunkDrop s1 n else s1

/-- A retune that acts at the next tick at which it can be applied: now while LOCKED, else once LOCKED again, the last asked for standing
(R90, R99). -/
def retune (s : State) (n preset w : Nat) : State :=
  if (s.syn n).st = .locked then tuneWord s n preset w
  else { s with lo := { s.lo with forced := spPut none s.lo.forced n (some (preset, w)) } }

/-- A forced retune (R99). -/
def forceTune (s : State) (n preset : Nat) : State := retune s n preset (s.presetOf n preset)

/-- The tune that an accepted commit starts (R655): an OFF synthesiser is tuned as a LO_TUNE would, one that is not LOCKED once it is. -/
def commitTune (s : State) (n preset w : Nat) : State := if (s.syn n).st = .off then tuneWord s n preset w else retune s n preset w

/-- The RX trunk is LOCKED from now on. -/
def rxGood (s : State) : State := { s with rx := { s.rx with goodFrom := s.clk.elapsed } }

/-- The TX trunk is LOCKED from now on. -/
def txGood (s : State) : State := { s with lo := { s.lo with txFrom := s.clk.elapsed } }

/-- The trunks that synthesiser `n` serves are LOCKED from now on. -/
def trunkGood (s : State) (n : Nat) : State :=
  let s1 := if n = s.lo.txServe then txGood s else s
  if n = s1.lo.rxServe then rxGood s1 else s1

/-- Elapsed tick since which the RX trunk has been LOCKED as path `p` sees it: its divider may have been resynchronised alone (R95). -/
def State.rxGoodFrom (s : State) (p : Nat) : Nat := max s.rx.goodFrom (s.pathFe p).divAt

/-- A retune that waited is applied (R99). -/
def applyForced (s : State) (n : Nat) : State :=
  match spGet none s.lo.forced n with
  | some (preset, w) => tuneWord { s with lo := { s.lo with forced := spPut none s.lo.forced n none } } n preset w
  | none => s

/-! ## Captures cut by a turnaround (R163) -/

/-- A source-0 capture open on a path ends now, TRUNC (R163). -/
def truncCapture (s : State) (p : Nat) : State :=
  match spGet none s.cvt.staging p with
  | some b =>
    let x := s.buf b
    if x.src = 0 ∧ captureOpen s p then
      s.setBuf b { x with trunc := true, cut := s.clk.elapsed, valid := min x.n (10 * (s.clk.elapsed - x.opened)) }
    else s
  | none => s

/-! ## Pins (R101 to R106) -/

/-- The input, attenuator or LNA of a path changes now: the fast path discards its window, estimates for 48 ticks are early, and the gain state
so far is kept for the samples that passed it (R177, R181, R182). -/
def gainChanged (s : State) (p : Nat) : State :=
  let byp := (s.pathFe p).lnaByp
  { s with rx := { s.rx with gain := spMod Rxg.reset s.rx.gain p (fun g =>
      { g with changed := s.clk.elapsed, was := if byp then 31 else g.att, high := false,
               hist := if g.changed = 0 then g.hist else ((g.changed, g.was) :: g.hist).take 32 }) } }

/-- An island is on and its clock runs. -/
def State.islandRuns (s : State) (i : Nat) : Bool := ¬ (s.island i).off && (s.island i).clock

/-- A converter converts (R128): a path's while its receive section is powered and its input not OFF, an ORX's in FDD and in service, the
CALRX pair's with island LO. -/
def converting (s : State) (k : Nat) : Bool :=
  ¬ (s.conv k).failed &&
    (if k < 128 then s.islandRuns (k / 16) && decide ((s.inSwitch (k / 2)).input ≠ .off) &&
        decide (spGet 0 s.pwr.gated (2 * (k / 2) + 1) = 0)
     else if orxConv k then s.fdd && ¬ (s.orx ((k - 128) / 2)).failed && s.islandRuns (2 * ((k - 128) / 2))
     else s.islandRuns 9)

/-- The rotation of a converter is enabled: ROT_EN of its path, or object 0x4000 for the others. -/
def rotEnabled (s : State) (k : Nat) : Bool :=
  if k < 128 then rbit s .adcCtrl [k / 16, (k / 2) % 8] 0 else decide (s.onum 0x4000 1 = 1)

/-- The timer of a converter's step, or of its blind tracking window, advances (R128, R137). -/
def stepRuns (s : State) (k : Nat) : Bool := converting s k && ((s.conv k).spare.isNone || rotEnabled s k)

/-- The timer of a converter stops, keeping what is left, or goes on (R128). -/
def clockConv (s : State) (k : Nat) : State :=
  let c := s.conv k
  match c.runs, stepRuns s k with
  | some t, false => s.setConv k { c with left := c.left - (s.clk.elapsed - t), runs := none }
  | none, true => s.setConv k { c with runs := some s.clk.elapsed }
  | _, _ => s

/-- Both converters of a path. -/
def clockPath (s : State) (p : Nat) : State := clockConv (clockConv s (2 * p)) (2 * p + 1)

/-- Every converter. -/
def clockAll (s : State) : State := (List.range 138).foldl clockConv s

/-- The converters that run on an island: those of a cluster's paths and of its observation receiver, and the CALRX pair on island LO (R128,
R149, R354). -/
def islandConvs (i : Nat) : List Nat :=
  if i < 8 then (List.range 16).map (16 * i + ·) ++ (if i % 2 = 0 then [128 + i, 129 + i] else []) else if i = 9 then [136, 137] else []

/-- An island's record set: its converters convert, or stand still, from now on (R128). -/
def islandSet (s : State) (i : Nat) (x : Island) : State := (islandConvs i).foldl clockConv (s.setIsland i x)

/-- The input switch of a path takes an input and its attenuation; a change settles in 48 ticks, the samples of which an open capture leaves
out (R146, R147). -/
def setInput (s : State) (p : Nat) (i : RxInput) : State :=
  let att := match i with
    | .obsin => rf s .obsCtrl [p / 8, p % 8] 4 0
    | _ => s.rxAtt p
  if (s.inSwitch p).input = i ∧ (s.inSwitch p).att = att then s
  else
    let s1 := match spGet none s.cvt.staging p with
      | some b => if captureOpen s p then
          s.setBuf b { s.buf b with gaps := (s.buf b).gaps ++ [(s.clk.elapsed, s.clk.elapsed + 48)] } else s
      | none => s
    clockPath (gainChanged { s1 with cvt := { s1.cvt with sw := spPut InSwitch.reset s1.cvt.sw p ⟨i, att, s.clk.elapsed + 48⟩ } } p) p

/-- The receive input of a pin phase (R146, R150). -/
def phaseInput (fdd : Bool) (ps : PathState) : RxInput :=
  match ps with
  | .tx => if fdd then .rxin else .obsin
  | .rx | .guard => .rxin
  | .cal => .calnet
  | .off => .off

/-- A turnaround that started at an elapsed tick: FEA is driven low; the input switch changes, and a capture of source 0 ends when TX ends
(R103, R147, R163). -/
def startTurnAt (s : State) (p : Nat) (ph : PinPhase) (start : Nat) : State :=
  let fe := s.pathFe p
  let s1 := if fe.phase = .tx ∧ ph ≠ .tx ∧ ¬ s.fdd then truncCapture s p else s
  let s2 := s1.setFe p { fe with turn := some ⟨ph, start, 0⟩, fea := .low, bus := none, ovl := false }
  match ph with
  | .tx => setInput s2 p (phaseInput s.fdd .tx)
  | .off | .reset => setInput s2 p .off
  | .rx => setInput s2 p .rxin
  | .guard => setInput s2 p (if s.pathState p = .cal then .calnet else .rxin)

/-- A turnaround starts now. -/
def startTurn (s : State) (p : Nat) (ph : PinPhase) : State := startTurnAt s p ph s.clk.elapsed

/-- Ticks after its start of the step that follows the last one done (R103). -/
def turnDue (t : Turn) : Nat :=
  if t.step < 40 then 40 else if t.step < 60 then 60 else if t.step < 80 then 80 else 100

/-- The next step of a turnaround: FEB takes the position code, FEA rises, the pins take their meaning; into OFF, FEA follows
20 ticks later (R103, R96, R106). -/
def turnStep (s : State) (p : Nat) : State :=
  let fe := s.pathFe p
  match fe.turn with
  | none => s
  | some t =>
    if t.step < 40 then
      s.setFe p { fe with turn := some { t with step := 40 }, feb := if t.upto = .tx then .high else .low }
    else if t.step < 60 then
      -- blanked unless LOCKED since a boundary of the reference numerology (R96)
      if t.upto = .tx ∧ ((fe.blanked ∧ s.now < s.resumeAt p) ∨ ¬ s.txLocked p) then
        markSilent (s.setFe p { fe with turn := some { t with step := 60 }, fea := .low, blanked := true }) p
      else markSilent (s.setFe p { fe with turn := some { t with step := 60 }, fea := .high, blanked := decide (t.upto ≠ .tx) && fe.blanked }) p
    else if t.step < 80 then
      match t.upto with
      | .tx => s.setFe p { fe with turn := none, phase := .tx, fea := if fe.blanked then .low else fe.fea, febLag := none }
      | .rx =>
        let b := fe.lnaPend.getD fe.lnaByp
        -- a change asked for in the turnaround is made now, FEB 20 ticks behind FEA (R106)
        let turns := decide (b ≠ fe.lnaByp)
        let s1 := if turns then gainChanged s p else s
        s1.setFe p { fe with turn := none, phase := .rx, lnaPend := none, lnaByp := b, fea := if b then .low else .high,
                             feb := if b then .low else .z, ovlFrom := t.start + if turns then 140 else 120,
                             febLag := if turns then some (t.start + 100, if b then .z else .low) else none,
                             lnaAt := if turns then some (t.start + 80) else fe.lnaAt }
      | .guard => s.setFe p { fe with turn := none, phase := .guard, fea := .high, feb := .z, febLag := none }
      | .off => s.setFe p { fe with turn := some { t with step := 80 }, phase := .off, feb := safeDrive (bitsOf fe.safeNv 3 2), febLag := none }
      | .reset => s.setFe p { fe with turn := none, phase := .reset, fea := .z, feb := .z }
    else s.setFe p { fe with turn := none, fea := safeDrive (bitsOf fe.safeNv 1 0) }

/-- A path goes OFF: the cell check does not run in OFF, and a dwell under way is given up with no trim (R143; DESIGN CHOICE, assumption
109). -/
def dwellsOff (s : State) (p : Nat) : State :=
  [2 * p, 2 * p + 1].foldl (fun s d => if (s.dac d).dwelling then s.setDac d { s.dac d with dwelling := false } else s) s

/-- Every remaining step of a turnaround at once: it has filled the time before now. -/
def finishTurn (s : State) (p : Nat) : State := turnStep (turnStep (turnStep (turnStep s p) p) p) p

/-- The turnaround out of the guard now running, toward the entry that follows it (R104); none outside a guard, or where
another guard follows. -/
def startExitTurn (s : State) (p : Nat) : State :=
  if (s.pathFe p).phase = .guard then
    match s.entryNow with
    | some (i, st, e) =>
      let pat := s.pattern
      let nxt := (pat.getD (if i + 1 < pat.length then i + 1 else 0) ⟨0, 2, false⟩).dir
      if e.dir = 2 ∧ nxt ≠ 2 then
        let due := s.now + (st + e.dur - patPos pat s.frameOfs s.now) - 80
        let s1 := reachCount s due
        let ph : PinPhase := if nxt = 0 then .tx else .rx
        let fe := s1.pathFe p
        setInput (s1.setFe p { fe with turn := some ⟨ph, s1.clk.elapsed, 0⟩, fea := if fe.bus.isSome then fe.fea else .low }) p
          (phaseInput s1.fdd (if nxt = 0 then .tx else .rx))
      else s
    | none => s
  else s

/-- A path OFF now: its state, its DACs and receive input, and the turnaround to its safe levels (R44, R111). -/
def pathOff (s : State) (p : Nat) : State :=
  let s1 := markSilent (dwellsOff { s with tl := { s.tl with path := spPut PathState.off s.tl.path p .off } } p) p
  let there : Bool := match (s1.pathFe p).turn with
    | some t => decide (t.upto = .off)
    | none => decide ((s1.pathFe p).phase = .off ∨ (s1.pathFe p).phase = .reset)
  if there then s1 else startTurn s1 p .off

/-- Every path OFF (R42). -/
def allPathsOff (s : State) : State := (List.range 64).foldl pathOff s

/-- The committed transmit attenuation of a path takes effect inside a guard, or at the entry into TX (R222). -/
def attApplies (s : State) (p : Nat) (ps : PathState) : State :=
  if ps = .guard ∨ (ps = .tx ∧ s.pathState p ≠ .tx) then { s with tx := { s.tx with att := spPut 63 s.tx.att p (s.pobj p 0x2C) } } else s

/-- A path takes the path state of the entry now running, and its pin phase change starts (R44, R103, R104). -/
def enterPathState (s : State) (p : Nat) : State :=
  let ps := pathTarget s p
  let sa := attApplies s p ps
  let s0 := { sa with tl := { sa.tl with path := spPut PathState.off sa.tl.path p ps } }
  let s1 := markSilent (if ps = .off then dwellsOff s0 p else s0) p
  let ph := phaseOf ps
  let fe := s1.pathFe p
  let switched := setInput s1 p (phaseInput s.fdd ps)
  match fe.turn with
  | none =>
    if fe.phase = ph then switched
    -- the turnaround out of a guard has filled its last 80 ticks
    else if fe.phase = .guard then finishTurn (startTurnAt s1 p ph (s.clk.elapsed - 80)) p
    else startTurn s1 p ph
  | some t =>
    if t.upto = ph then (if fe.phase = .guard then finishTurn switched p else switched)
    else if fe.phase = .guard ∧ ph ≠ .guard then finishTurn (startTurnAt s1 p ph (s.clk.elapsed - 80)) p
    else startTurn s1 p ph

/-- The LNA control of a path changes, at least 40 ticks after the last change, FEB 20 ticks behind FEA; one asked for in a turnaround waits
for its end (R106).  Not available in FDD. -/
def lnaChange (s : State) (p : Nat) (byp : Bool) : State :=
  let fe := s.pathFe p
  if s.fdd then s
  else if fe.turn.isSome then s.setFe p { fe with lnaPend := some byp }
  else if fe.phase ≠ .rx ∨ fe.lnaByp = byp then s
  else
    let s1 := match fe.lnaAt with
      | some t => reachElapsed s (t + 40)
      | none => s
    let now := s1.clk.elapsed
    let s2 := gainChanged s1 p
    if byp then s2.setFe p { fe with lnaByp := true, fea := .low, feb := .low, febLag := some (now + 20, .z), ovl := false, lnaAt := some now }
    else s2.setFe p { fe with lnaByp := false, fea := .high, feb := .z, febLag := some (now + 20, .low), lnaAt := some now, ovlFrom := now + 60 }

/-! ## Timeline events (R48 to R50) -/

/-- The tick, at or after `t`, at an offset of the pattern period. -/
def nextOffset (p : List PatEntry) (ofs offset t : Nat) : Nat :=
  let per := patPeriod p
  t + (offset + per - patPos p ofs t) % per

/-- The event entries that are valid, of a known type and within the pattern period, by number. -/
def liveEvents (s : State) : List (Nat × EvtEntry) :=
  (List.range 4096).filterMap (fun n =>
    let e := evtOfWord (rd s .tlEvt [n])
    if e.valid ∧ 1 ≤ e.type ∧ e.type ≤ 11 ∧ e.offset < patPeriod s.pattern then some (n, e) else none)

/-- The name under which entry `n` of a type fires. -/
def evtKey (type n : Nat) : Nat := type * 16 * 65536 + n

/-- Entry `n` of a type has fired on the present tick. -/
def firedNow (s : State) (type n : Nat) : Bool := decide (spGet 0 s.clk.seen (evtKey type n) = s.clk.elapsed + 1)

/-- Events fire on the timeline: at depth 0 with RUN = 1 and a pattern committed (R42, R507). -/
def eventsRun (s : State) : Bool := s.tlRuns && decide (s.pwr.depth = 0)

/-- An event entry whose tick lies before `b` has yet to fire (R39). -/
def eventDueBefore (s : State) (b : Nat) : Bool :=
  eventsRun s && (liveEvents s).any (fun x =>
    decide (nextOffset s.pattern s.frameOfs x.2.offset (if firedNow s x.2.type x.1 then s.now + 1 else s.now) < b))

/-- On the present tick entry `n` does not fire yet: it waits for an entry of the same tick that goes before it, by type code (R49) or,
among visits of one receiver, by entry number (R153), or the tick belongs to the configuration of a commit that waits (R61). -/
def eventHeld (s : State) (n : Nat) (e : EvtEntry) : Bool :=
  (match s.adm.waiting with
    | some j => decide (j.at_ ≤ s.now)
    | none => false) ||
  (liveEvents s).any (fun x => decide (x.2.offset = e.offset) &&
    (decide (x.2.type < e.type) || (decide (e.type = 10) && decide (x.2.type = 10) && decide (x.2.target = e.target) && decide (x.1 < n))) &&
    ¬ firedNow s x.2.type x.1)

/-- A discarded event: counted, and reported once per pattern period (R50). -/
def dropEvent (s : State) : State :=
  let s1 := bump s .tlEvtDrop []
  let start := s.now - patPos s.pattern s.frameOfs s.now
  if s.tl.dropPeriod = some start then s1
  else raise { s1 with tl := { s1.tl with dropPeriod := some start } } 3 NA NA

/-- The event entry `n` fires (R42, R48 to R50, R61, R507): at the tick of its offset, at depth 0, while RUN = 1 and a pattern is committed, when it is
valid and of the type named.  It is discarded when every island it goes to is off, and counted for each that is.  Entries of one tick
fire in their order and never at or after a waiting commit's boundary: a firing asked for out of turn has no effect. -/
def fireEvent (s : State) (n type : Nat) (islands : EvtEntry → List Nat) (act : EvtEntry → State → State) : State :=
  let e := evtOfWord (rd s .tlEvt [n])
  let s1 := toBoundary s (type * 16) n (nextOffset s.pattern s.frameOfs e.offset)
  if eventsRun s ∧ n < 4096 ∧ e.valid ∧ e.type = type ∧ e.offset < patPeriod s.pattern ∧ ¬ eventHeld s1 n e then
    let off := (islands e).filter (fun i => (s1.island i).off)
    let s2 := off.foldl (fun s _ => dropEvent s) s1
    if off.length = (islands e).length ∧ islands e ≠ [] then s2 else act e s2
  else s

/-- The paths of a target: one, or all for 0xFF (R48). -/
def targetPaths (t : Nat) : List Nat := if t = 255 then List.range 64 else if t < 64 then [t] else []
/-- The cluster islands of a target. -/
def targetClusters (t : Nat) : List Nat := if t = 255 then List.range 8 else if t < 64 then [t / 8] else []

/-! ## Converters (R124 to R145) -/

/-- The path of a converter; 0xFFFF for an ORX. -/
def convPath (k : Nat) : Nat := if k < 128 then k / 2 else NA

/-- The staging buffer of a converter's captures; none for the CALRX pair. -/
def convStaging (k : Nat) : Option Nat := if k < 128 then some (k / 2) else if orxConv k then some (64 + (k - 128) / 2) else none

/-- An observation receiver goes out of service: its converters stand still and admission repeats (R155). -/
def orxFails (s : State) (r : Nat) : State :=
  let s1 := s.setOrx r { s.orx r with failed := true, running := none, waiting := none }
  readmit (raise (clockConv (clockConv s1 (128 + 2 * r)) (129 + 2 * r)) 39 NA NA)

/-- A converter rotates: it holds a spare, its rotation is enabled, and it converts (R127, R128, R137). -/
def rotates (s : State) (k : Nat) : Bool := k < 138 && (s.conv k).spare.isSome && stepRuns s k

/-- Slice maps, retirements and corrections go to the NV store at each retirement (R139). -/
def saveConv (s : State) (k : Nat) : State :=
  { s with nv := { s.nv with conv := spPut (Conv.reset k) s.nv.conv k (s.conv k) } }

/-- A converter has a correction held: without a spare, or with its rotation suspended (R137, PCc_Lk_ADC_CTRL). -/
def corrHeld (s : State) (k : Nat) : Bool := (s.conv k).held || ¬ rotEnabled s k

/-- The samples of a converter over a span of elapsed ticks meet a stuck window (R135), or were taken while the spur estimate of its path
exceeded the limit with a correction held (R137). -/
def convMirage (s : State) (k a b : Nat) : Bool :=
  let c := s.conv k
  (c.stuck.isSome && decide (c.stuckFrom < b)) || s.marked (markKey 5 k) a b || s.marked (markKey 6 (k / 2)) a b

/-- What the samples of a pair of converters carry from now on for its spur estimate, the worse of I and Q: the flag while it exceeds the limit
and a correction is held (R137, R140). -/
def spurEdge (s : State) (j : Nat) : State :=
  markIf s (markKey 6 j) ((corrHeld s (2 * j) || corrHeld s (2 * j + 1)) &&
    decide (toSigned 16 (s.onum 0x4001 1) < max (s.conv (2 * j)).spur (s.conv (2 * j + 1)).spur))

/-- The same of every pair. -/
def spurEdges (s : State) : State := (List.range 69).foldl spurEdge s

/-- A converter fails: its slice is retired, a path's is declared failed, an ORX goes out of service (R138, R139, R155). -/
def convFails (s : State) (k slice : Nat) : State :=
  let c := s.conv k
  let s0 := if c.stuck.isSome then markSpan s (markKey 5 k) c.stuckFrom s.clk.elapsed else s
  let s1 := saveConv (clockConv (s0.setConv k
    { c with failed := true, retired := setIns slice c.retired, stuck := none, swapDue := false }) k) k
  if k < 128 then failPath (raise s1 39 NA (convPath k)) (convPath k)
  else if orxConv k then orxFails s1 ((k - 128) / 2)
  else raise s1 39 NA NA

/-- A retired slice: event, spare accounting, and the NV store (R132, R137, R139, R619). -/
def sliceRetired (s : State) (k : Nat) : State :=
  spareUsed (saveConv (raise s 33 NA (convPath k)) k) 0 k

/-- Ticks of 2²⁴ samples of a converter, over which one with no spare tracks offset and gain (R137): samples at 2.4576 GS/s, the converter's
(DESIGN CHOICE, assumption 107), an ORX's at 4.9152 GS/s. -/
def blindTicks (k : Nat) : Nat := if orxConv k then 1677722 else 3355444

/-- A spare is retired: the converter holds no spare, its corrections hold (R132, R133, R137).  A stuck active slice that awaited it has no spare to
take its place: the converter fails (R134, R138). -/
def retireSpare (s : State) (k slice : Nat) : State :=
  let c := s.conv k
  let s1 := s.setConv k { c with spare := none, retired := setIns slice c.retired, held := true, missed := false, swapDue := false,
                                 left := blindTicks k, runs := none }
  let s2 := spurEdge (raise (sliceRetired (clockConv s1 k) k) 35 NA (convPath k)) (k / 2)
  match c.stuck with
  | some x => convFails s2 k x
  | none => s2

/-- The mean of a list of integers, rounded toward minus infinity. -/
def meanI (l : List Int) : Int := if l.length = 0 then 0 else l.sum / (l.length : Int)

/-- A correction kept within the ranges of R125: ±128 LSB, ±6 %, ±6 ps, ±5 %. -/
def SliceCorr.clamp (x : SliceCorr) : SliceCorr :=
  let c (m v : Int) : Int := max (-m) (min m v)
  ⟨c 2048 x.offset, c 983 x.gain, c 120 x.delay, c 50 x.bw⟩

/-- The active slices recentred: mean offset and delay taken off each, gains divided by the mean gain (R126), within R125's ranges.  Means and
quotients round toward minus infinity (DESIGN CHOICE, assumption 108: R126 states no rounding). -/
def recentre (pos : List Nat) (corr : Sparse SliceCorr) : Sparse SliceCorr :=
  let get (i : Nat) := spGet SliceCorr.zero corr i
  let mo := meanI (pos.map (fun i => (get i).offset))
  let md := meanI (pos.map (fun i => (get i).delay))
  let mg := meanI (pos.map (fun i => (get i).gain))
  pos.foldl (fun c i =>
    let x := spGet SliceCorr.zero c i
    spPut SliceCorr.zero c i (SliceCorr.clamp { x with offset := x.offset - mo, delay := x.delay - md,
                                                       gain := ((16384 + x.gain) * 16384) / (16384 + mg) - 16384 })) corr

/-- The end of a dwell (R143 to R145).  In the dwell in which the other spare is trimmed, that spare becomes the check spare whatever its trim and
its switch showed: the manual names an outcome for a failed unary cell only (DESIGN CHOICE, assumption 152). -/
def dwellEnd (s : State) (d trim : Nat) (good : Bool) : State :=
  let c := s.dac d
  let p := d / 2
  if c.trimming then
    s.setDac d { c with trimming := false, dwelling := false,
                        trims := spPut 0 c.trims (c.check.getD 0) (trim % 256) }
  else
    let cell := spGet c.at_ c.map c.at_
    if good then
      s.setDac d { c with dwelling := false, at_ := (c.at_ + 1) % 63, trims := spPut 0 c.trims cell (trim % 256) }
    else
      let s1 := s.setDac d { c with map := spPut c.at_ c.map c.at_ (c.check.getD 0), check := c.other, other := none,
                                    dwelling := false, trimming := c.other.isSome, at_ := (c.at_ + 1) % 63,
                                    failedCells := setIns cell c.failedCells }
      let s2 := { s1 with nv := { s1.nv with dac := spPut DacCells.reset s1.nv.dac d (s1.dac d) } }
      let s3 := spareUsed (raise s2 37 NA p) 1 d
      if c.other.isNone then raise s3 38 NA p else s3

/-! ## Visits and captures (R149 to R164) -/

/-- The predistortion bank in force and whether a ramp runs on a path, for a capture's record (R164). -/
def bankFlags (s : State) (p : Nat) : Nat × Bool := (s.dpdBank p, s.dpdRamping p)

/-- A capture is discarded (R162). -/
def discardCapture (s : State) (p b : Nat) : State := raise (statPath s p 0x1E) 40 b p

/-- A capture opens on path `p` through staging buffer `st` into buffer `b` (R159, R162, R163): on a buffer that is not FREE,
or with data undrained in the staging buffer, it is discarded. -/
def openCapture (s : State) (p st b n src : Nat) : State :=
  if (s.buf b).st ≠ .free ∨ (spGet none s.cvt.staging st).isSome then discardCapture s p b
  else
    let notTx := decide (src = 0) && decide (st < 64) && ¬ s.fdd && decide (s.pathState p ≠ .tx)
    let (bank, ramp) := bankFlags s p
    -- an input switch that has yet to settle hides the first received samples (R147)
    let gaps := if st < 64 ∧ s.clk.elapsed < (s.inSwitch p).settled then [(s.clk.elapsed, (s.inSwitch p).settled)] else []
    let x : CapBuf := ⟨.filling, p, st, n, src, s.now, s.clk.elapsed, s.loopDelay p, bank, ramp, false, notTx,
      false, if notTx then 0 else n, 0, gaps, 0, 0⟩
    let s1 := { s.setBuf b x with cvt := { (s.setBuf b x).cvt with staging := spPut none s.cvt.staging st (some b) } }
    wf s1 .capStat [p / 8, b] 95 94 1

/-- The capture of a visit begins, 491 ticks after the visit, once that time has come: its buffer and staging buffer are looked at then, and it
records the coefficient bank and ramp of that tick (R152, R162, R164). -/
def openDue (s : State) (r : Nat) : State :=
  match (s.orx r).running with
  | none => s
  | some v =>
    let t := v.start + 491
    if v.opened ∨ s.clk.elapsed < t then s
    else
      let s1 := openCapture (s.setOrx r { s.orx r with running := some { v with opened := true } }) v.path (64 + r) v.buffer v.n 0
      let x := s1.buf v.buffer
      let d := spGet Dpd.reset s.dpds x.path
      let f := if d.wasAt ≤ t then (d.bank, d.ramps) else d.was
      if x.st = .filling ∧ x.staging = 64 + r then
        s1.setBuf v.buffer { x with first := s.now - (s.clk.elapsed - t), opened := t, bank := f.1, ramping := f.2 }
      else s1

/-- The captures of every receiver's visit that have begun. -/
def openVisits (s : State) : State := (List.range 4).foldl openDue s

/-- The spare takes the faulty slice's position, the slice is retired, and the rotation goes on from the next position; a
converter with no spare fails (R134, R136, R138). -/
def emergencySwap (s : State) (k slice : Nat) : State :=
  let c := s.conv k
  match c.spare with
  | none => convFails s k slice
  | some sp =>
    let j := c.pos.findIdx (· = slice)
    let pos := c.pos.set j sp
    let s0 := if c.stuck.isSome then markSpan s (markKey 5 k) c.stuckFrom s.clk.elapsed else s
    let s1 := s0.setConv k { c with pos := pos, spare := none, retired := setIns slice c.retired, held := true,
                                    corr := recentre pos c.corr, shadow := (j + 1) % c.pos.length, missed := false, swapDue := false,
                                    stuck := none, left := blindTicks k, runs := none }
    let s2 := raise (sliceRetired (spurEdge (clockConv s1 k) (k / 2)) k) 34 NA (convPath k)
    let s3 := openVisits (if k < 128 then statPath s2 (k / 2) 0x1D else s2)
    let s4 := match convStaging k with
      | some st => (match spGet none s3.cvt.staging st with
        | some b => if captureOpen s3 st then s3.setBuf b { s3.buf b with emerg := true } else s3
        | none => s3)
      | none => s3
    raise s4 35 NA (convPath k)

/-- The bytes of a capture of n periods (R160): X of 4 n bytes for source 0, then Z: n / 2 samples from a path's ADC, n from an ORX. -/
def captureBytes (src : Nat) (orx : Bool) (n : Nat) : Nat := (if src = 0 then 4 * n else 0) + if orx then 4 * n else 2 * n

/-- The buffer a CAPTURE_OPEN names on a path: for all paths, 2p or 2p + 1 by the index's low bit. -/
def captureBuffer (all : Bool) (b p : Nat) : Nat := if all then 2 * p + b % 2 else b

/-- Elapsed tick at which Z sample `i` of a capture is taken: LD samples behind the opening, 5 a tick on a path, 10 on an ORX (R161). -/
def zTick (x : CapBuf) (i : Nat) : Nat :=
  let per := if x.staging < 64 then 5 else 10
  x.opened + ((if x.src = 0 then x.ld else 0) + i) / per

/-- The sample periods of a capture whose received samples a settling switch hid (R147): LEN_VALID, the samples valid, is without them
(DEDUCED, assumption 151). -/
def gapPeriods (x : CapBuf) : Nat :=
  let total := if x.staging < 64 then x.n / 2 else x.n
  if x.gaps = [] ∨ x.notTx then 0
  else ((List.range total).filter (fun i => (¬ x.trunc || decide (zTick x i < x.cut)) &&
    x.gaps.any (fun g => decide (g.1 ≤ zTick x i ∧ zTick x i < g.2)))).length * (if x.staging < 64 then 2 else 1)

/-- The status record of a FULL buffer (R164). -/
def capRecord (x : CapBuf) (mirage ovr : Bool) : Nat :=
  x.first % 2 ^ 64 + (x.valid - gapPeriods x) % 2 ^ 16 * 2 ^ 64 + x.ld % 2 ^ 12 * 2 ^ 80 + x.bank % 2 * 2 ^ 92 + b2n x.ramping * 2 ^ 93 + 2 * 2 ^ 94
    + b2n x.trunc * 2 ^ 96 + b2n x.notTx * 2 ^ 97 + b2n mirage * 2 ^ 98 + b2n x.emerg * 2 ^ 99 + b2n ovr * 2 ^ 100
    + x.path % 64 * 2 ^ 101

/-- A sample of a capture: I in [15:0], Q in [31:16] (R160). -/
def sampleBytes (c : Cplx) : List Byte := leBytes 4 (ofSigned 16 c.re + ofSigned 16 c.im * 65536)

/-- The pieces of a capture: offset from the buffer's base, and bytes (R160).  X has 4 bytes a sample from the base, and Z follows at 4 n,
its 12-bit codes left-aligned; source 1 has Z only.  A capture cut short holds what was taken before the cut, one that records nothing
holds nothing (R163), and samples of a settling switch are left out (R147). -/
def capturePieces (x : CapBuf) (xs zs : List Cplx) : List (Nat × List Byte) :=
  if x.notTx then []
  else
    let total := if x.staging < 64 then x.n / 2 else x.n
    let kept (i : Nat) : Bool := (¬ x.trunc || decide (zTick x i < x.cut)) && ¬ x.gaps.any (fun g => decide (g.1 ≤ zTick x i ∧ zTick x i < g.2))
    let base := if x.src = 0 then 4 * x.n else 0
    let z := (zs.take total).zip (List.range total)
    let zb (c : Cplx) : List Byte := sampleBytes ⟨16 * c.re, 16 * c.im⟩
    (if x.src = 0 then [(0, (xs.take x.valid).flatMap sampleBytes)] else []) ++
      (if x.gaps = [] then [(base, (z.filter (fun e => kept e.2)).flatMap (fun e => zb e.1))]
       else (z.filter (fun e => kept e.2)).map (fun e => (base + 4 * e.2, zb e.1)))

/-- A span of elapsed ticks from `a` up to `b` meets the last one in which a trunk was not LOCKED: it lost lock at `lost` and has it since
`good`. -/
def spanUnlocked (locked : Bool) (lost good a b : Nat) : Bool := decide (lost < b) && (¬ locked || decide (a < good))

/-- The RX trunk was not LOCKED, as path `p` sees it, at an elapsed tick from `a` up to `b` (R95, R98). -/
def State.rxUnlocked (s : State) (p a b : Nat) : Bool :=
  spanUnlocked (s.trunkLocked s.lo.rxServe) s.lo.rxLostAt s.rx.goodFrom a b || s.marked (markKey 1 0) a b || s.marked (markKey 3 p) a b
/-- The same of the TX trunk (R86, R149). -/
def State.txUnlocked (s : State) (p a b : Nat) : Bool :=
  spanUnlocked (s.trunkLocked s.lo.txServe) s.lo.txLostAt s.lo.txFrom a b || s.marked (markKey 2 0) a b || s.marked (markKey 3 p) a b

/-- A sample of path `p` taken from elapsed tick `a` up to `b` lies in an FFT window of an uplink carrier: the first window that ends after `a`
starts before `b` (R182, R187). -/
def State.inWindow (s : State) (p a b : Nat) : Bool :=
  s.receives p && (List.range 8).any (fun cc => s.ulOn cc &&
    (let ofs := s.ccWinOfs cc * 2 ^ s.ccHalfbands cc
     let back := s.clk.elapsed - s.now
     let e := nextSymbol s.frameOfs (s.ccMu cc) (s.ccEcp cc) (a - back + ofs + 1) + back
     decide (e < b + ofs + 32768 / 2 ^ s.ccMu cc)))

/-- Samples of path `p` from elapsed tick `a` up to `b` were taken within 48 ticks of an attenuator or LNA change, and in an FFT window
(R182). -/
def State.gainMirage (s : State) (p a b : Nat) : Bool :=
  let g := spGet Rxg.reset s.rx.gain p
  (g.changed :: g.hist.map (·.1)).any (fun t => decide (0 < t) && decide (t < b) && decide (a < t + 48) && s.inWindow p (max a t) (min b (t + 48)))

/-- A sample of a capture carried the mirage flag (R98, R135, R137, R149, R164, R182), or the capture was taken while the predistortion set of
its path was stale (R26, R295).  A path's samples take their LO from the RX trunk, an ORX's from the TX trunk (R86).  A capture that records
nothing has no sample to flag (R163). -/
def captureMirage (s : State) (x : CapBuf) : Bool :=
  let k := if x.staging < 64 then 2 * x.path else 128 + 2 * (x.staging - 64)
  let e := captureEnd x
  ¬ x.notTx &&
    (convMirage s k x.opened e || convMirage s (k + 1) x.opened e ||
      (if x.staging < 64 then s.rxUnlocked x.path x.opened e || (decide (x.src = 1) && s.gainMirage x.path x.opened e)
       else s.txUnlocked x.path x.opened e) ||
      s.marked (markKey 7 x.path) x.opened e || (s.marked (markKey 4 0) x.opened e && rbit s .dpdCtrl [x.path / 8, x.path % 8] 0))

/-- TX ticks of a path among the `len` ticks before a counter value: those of D entries, none while it is OFF (R44, R227). -/
def State.txTicks (s : State) (p t len : Nat) : Nat :=
  let per := patPeriod s.pattern
  if s.pathState p = .off ∨ ¬ s.tlRuns ∨ per = 0 then 0
  else
    let a := patPos s.pattern s.frameOfs (t - len)
    -- the entries of this pattern period and the next, as [start, end)
    let go := s.pattern.foldl (fun (v : Nat × Nat) e =>
      let common (o : Nat) : Nat := min (v.1 + o + e.dur) (a + len) - max (v.1 + o) a
      (v.1 + e.dur, v.2 + if e.dir = 0 then common 0 + common per else 0)) (0, 0)
    go.2

/-- A capture that is drained before this one: an earlier one of the same cluster (R156). -/
def olderCapture (s : State) (b : Nat) : Bool :=
  let cl (x : CapBuf) : Nat := if x.staging < 64 then x.staging / 8 else 2 * (x.staging - 64)
  s.cvt.staging.any (fun e => match e.2 with
    | some a => decide (a ≠ b) && decide ((s.buf a).st = .filling) && decide (cl (s.buf a) = cl (s.buf b)) &&
        decide ((s.buf a).opened < (s.buf b).opened)
    | none => false)

/-- The samples go to the buffer through the capture port under its OWNER's tag: a piece that the tag may not write is a firewall violation, one
to banks that are OFF is lost, one outside SRAM an address fault (R21, R29, R30, R34). -/
def storePieces (s : State) (cl d : Nat) (l : List (Nat × List Byte)) : State :=
  l.foldl (fun s e =>
    let a := bitsOf d 39 0 + e.1
    if e.2 = [] then s
    else if a < sramBase ∨ sramBase + sramSize < a + e.2.length then addrFault s (bitsOf d 60 58) a
    else (sramWriteBy s (.lane cl) (bitsOf d 60 58) none (a - sramBase) e.2).2) s

/-- The drain of a capture ends: samples in SRAM, status record, FULL (R160, R164).  X samples are 16-bit, Z samples 12-bit codes. -/
def drainCapture (s' : State) (b : Nat) (xs zs : List Cplx) (ovr : Bool) : State :=
  let s := openVisits s'
  let x := s.buf b
  let d := rd s .capDesc [x.path / 8, b]
  let cl := if x.staging < 64 then x.staging / 8 else 2 * (x.staging - 64)
  let rec_ := capRecord x (captureMirage s x) ovr
  let s1 := storePieces s cl d (capturePieces x xs zs)
  let s2 := s1.setBuf b { x with st := .full, fullAt := s.clk.elapsed, waited := 0 }
  let s3 := { s2 with cvt := { s2.cvt with staging := spPut none s2.cvt.staging x.staging none } }
  wr s3 .capStat [x.path / 8, b] rec_

/-- A buffer returns to FREE (R162). -/
def releaseBuffer (s' : State) (b : Nat) : State :=
  let s := openVisits s'
  let x := s.buf b
  wf (s.setBuf b { x with st := if x.st = .full then .free else x.st }) .capStat [x.path / 8, b] 95 94
    (if x.st = .full then 0 else if x.st = .filling then 1 else 0)

/-- A visit starts: the multiplexer switches, and the capture begins 491 ticks later in the next buffer of the path's pair
(R152). -/
def startVisit (s : State) (r path n : Nat) (be : Bool) : State :=
  let b := 2 * path + spGet 0 s.cvt.pairNext path
  let s1 := s.setOrx r { s.orx r with input := path % 16, running := some ⟨path, n, s.clk.elapsed, be, b, false, false⟩ }
  { s1 with cvt := { s1.cvt with pairNext := spPut 0 s1.cvt.pairNext path (1 - spGet 0 s1.cvt.pairNext path) } }

/-- A visit is aborted and its capture's buffer returns to FREE (R154). -/
def abortVisit (s' : State) (r : Nat) : State :=
  let s := openDue s' r
  match (s.orx r).running with
  | none => s
  | some v =>
    let s1 := s.setOrx r { s.orx r with running := none }
    let x := s1.buf v.buffer
    if x.st = .filling ∧ x.staging = 64 + r then
      let s2 := wf (s1.setBuf v.buffer { x with st := .free }) .capStat [v.path / 8, v.buffer] 95 94 0
      { s2 with cvt := { s2.cvt with staging := spPut none s2.cvt.staging (64 + r) none } }
    else s1

/-- A timeline visit, or one that ranks as one, arrives: it starts, aborts a best-effort visit, waits, or is dropped (R153,
R154). -/
def requestVisit (s : State) (r path n : Nat) (dpd : Bool) : State :=
  let o := s.orx r
  if o.failed then s
  else match o.running with
    | none => startVisit s r path n false
    | some v =>
      if v.bestEffort then startVisit (abortVisit s r) r path n false
      else if o.waiting.isNone then
        s.setOrx r { o with waiting := some ⟨path, n, s.clk.elapsed, false, 0, dpd, false⟩ }
      else raise (bump s .orxDrop [2 * r]) 41 NA path

end Sys2Proof.Machine
end

