-- ==== Sys2Proof/Machine/RxOps.lean ====
section
/-! DEFINITION. Shared operations of the receive and transmit chains (chapters 5 and 6). -/

namespace Sys2Proof.Machine

/-- The lanes of a cluster set. -/
def State.setLanes (s : State) (c : Nat) (x : Lanes) : State :=
  { s with rx := { s.rx with lanes := spPut Lanes.reset s.rx.lanes c x } }
/-- Gain control of a path. -/
def State.rxg (s : State) (p : Nat) : Rxg := spGet Rxg.reset s.rx.gain p
/-- Gain control of a path set. -/
def State.setRxg (s : State) (p : Nat) (x : Rxg) : State := { s with rx := { s.rx with gain := spPut Rxg.reset s.rx.gain p x } }

/-- RXG_CTRL in force on a path (R178). -/
def State.rxgCtrl (s : State) (p : Nat) : Nat := rd s .rxgCtrl [p / 8, p % 8]

/-- PRCHj in force. -/
def State.prachCfg (s : State) (j : Nat) : Nat := s.onum (0x4480 + j) 1

/-! ## SYNC -/

/-- A SYNC requested at a tick: its t_s is the first grid step of 256 ticks at or after it; requests of one t_s merge
(R173). -/
def requestSync (s : State) (t : Nat) : State :=
  let ts := t + (256 - (t + frameTicks - s.frameOfs % frameTicks) % 256) % 256
  { s with rx := { s.rx with sync := { s.rx.sync with pending := setIns ts s.rx.sync.pending } } }

/-- TL_SYNC.NOW written with 1: a SYNC is requested.  In the tick in which an earlier one takes effect the bit stays set and another
SYNC follows at the next grid step (R7). -/
def syncWrite (s : State) : State :=
  requestSync (wbit s .tlSync [] 1 true) (if s.now ∈ s.rx.sync.pending then s.now + 1 else s.now)

/-- A SYNC, or a commit that changes a channel, in warm-up restarts it; warm-up that is over only waits for its switch (R199). -/
def restartWarm (s : State) (c : Nat) : State :=
  if (s.lanes c).move = 2 ∧ s.clk.elapsed < (s.lanes c).warmAt + 49152 then s.setLanes c { s.lanes c with warmAt := s.clk.elapsed } else s

/-! ## Gain control -/

/-- The attenuator of a path changes (R177, R179). -/
def setAtt (s : State) (p att : Nat) : State :=
  let s0 := gainChanged s p
  let s1 := s0.setRxg p { s0.rxg p with att := att }
  let sw := s1.inSwitch p
  if sw.input = .rxin then
    { s1 with cvt := { s1.cvt with sw := spPut InSwitch.reset s1.cvt.sw p { sw with att := att, settled := s.clk.elapsed + 48 } } }
  else s1

/-- The limiter bypasses the LNA: counted, reported; no attack for 64 samples (R183, R185). -/
def limiterBypass (s : State) (p : Nat) : State :=
  if (s.pathFe p).lnaByp then s
  else
    let s1 := bumpField s .rxgCnt [p / 8, p % 8] 31 16
    let s2 := s1.setRxg p { s1.rxg p with noAttack := s.clk.elapsed + 13, quietSyms := 0, quiet := true }
    raise (lnaChange s2 p true) 49 NA p

/-- An attack: the attenuator rises by ATK_STEP up to 30 dB (R179). -/
def attack (s : State) (p : Nat) : State :=
  let w := s.rxgCtrl p
  let s1 := setAtt s p (min 30 ((s.rxg p).att + bitsOf w 19 16))
  let s2 := s1.setRxg p { s1.rxg p with noAttack := s.clk.elapsed + 13, noRelease := s.clk.elapsed + symTicks s.refMu s.refEcp }
  raise (bumpField s2 .rxgCnt [p / 8, p % 8] 15 0) 48 NA p

/-- One estimate of the fast coarse path (R176 to R179, R183, R185, R186). -/
def fastEstimate (s : State) (p : Nat) (est ref : Int) (ovr ovrNew : Nat) : State :=
  let w := s.rxgCtrl p
  let g := s.rxg p
  let th (lo : Nat) : Int := 2 * toSigned 8 (w >>> lo)
  let high := decide (th 8 < est)
  let s1 := bump s .adcOvr [p / 8, p % 8] ovrNew
  let s2 := s1.setRxg p { g with est := est, ovr := min 255 ovr, early := decide (s.clk.elapsed < g.changed + 48), high := high,
                                 below := g.below && decide (est < th 20), quiet := g.quiet && decide (ref < th 36) }
  -- outside RX gain control and the limiter hold their state (R186)
  if ¬ s.receives p then s1.setRxg p { s2.rxg p with high := g.high, below := g.below, quiet := g.quiet }
  else if (s.pathFe p).phase = .rx ∧ ¬ s.fdd ∧ bitOf w 7 ∧ g.att = 30 ∧ th 28 < est ∧ ¬ (s.pathFe p).lnaByp then
    limiterBypass s2 p
  else if bitsOf w 6 5 ≠ 0 ∧ g.noAttack ≤ s.clk.elapsed ∧ ((high ∧ g.high) ∨ 2 ≤ ovr) then attack s2 p
  else s2

/-! ## FFT windows -/

/-- Whether a window from elapsed tick `start` to `stop` holds a sample with the mirage flag: RX trunk not LOCKED, stuck
slice or spur, gain change, SYNC fill, and a lane whose fault awaits its move (R137, R190, R601). -/
def windowMirage (s : State) (p cc start stop : Nat) : Bool :=
  s.rxUnlocked p start stop || convMirage s (2 * p) start stop || convMirage s (2 * p + 1) start stop
    || ((s.rxg p).changed :: (s.rxg p).hist.map (·.1)).any (fun t => decide (0 < t) && decide (t < stop) && decide (start < t + 48))
    || s.marked (markKey 9 cc) start stop || s.marked (markKey 8 p) start stop

/-- Saturations of the receive chain are counted and reported (R170). -/
def rxSat (s : State) (p n : Nat) : State :=
  if n = 0 then s else raise (bump s .rxSat [p / 8, s.laneOf p] n) 42 NA p

/-! ## Lane moves (R195 to R203) -/

/-- The first common boundary at or after a tick: a symbol boundary of every enabled carrier (R197). -/
def nextCommon (s : State) (t : Nat) : Nat :=
  let ccs := (List.range 8).filter (fun cc => s.dlOn cc || s.ulOn cc)
  go s ccs 64 t
where
  /-- Each carrier's next boundary in turn until one serves all; half-subframe boundaries are always common. -/
  go (s : State) (ccs : List Nat) : Nat → Nat → Nat
    | 0, t => t + (halfTicks - framePos s.frameOfs t % halfTicks) % halfTicks
    | f + 1, t =>
      let t' := ccs.foldl (fun a cc => max a (nextSymbol s.frameOfs (s.ccMu cc) (s.ccEcp cc) t)) t
      if t' = t then t else go s ccs f t'

/-- To the next common boundary. -/
def toCommon (s : State) (key inst : Nat) : State := toBoundary s key inst (nextCommon s)

/-- A lane move asked for (R197, R199): BUSY while a move or a coefficient roll, which is eight of them, is to run or runs; planned moves stop while no policy firmware runs (R26, R599). -/
def requestMove (s : State) (c j : Nat) (fault : Bool) : State :=
  let l := s.lanes c
  if ¬ fault ∧ ¬ s.ctl.fwRuns then s
  else if l.move ≠ 0 ∨ s.rx.rolling then s.setLanes c { l with result := 4 }
  else if l.spare.isNone then raise (s.setLanes c { l with pos := j, fault := fault, result := 3 }) 45 NA (8 * c + j)
  else s.setLanes c { l with move := 1, pos := j, fault := fault, result := 0 }

/-- The coefficient memories of two lanes of a cluster agree. -/
def lanesAgree (s : State) (c a b : Nat) : Bool :=
  (List.range 8).all (fun n =>
    decide (spGet [] s.rx.coef ((c * 9 + a) * 8 + n) = spGet [] s.rx.coef ((c * 9 + b) * 8 + n)) &&
    decide (spGet [] s.rx.txcoef ((c * 9 + a) * 8 + n) = spGet [] s.rx.txcoef ((c * 9 + b) * 8 + n)))

/-- A lane is retired (R195, R198, R600): NV and the spare accounts. -/
def retireLane (s : State) (c k : Nat) : State :=
  let l := s.lanes c
  let s1 := s.setLanes c { l with spare := if l.spare = some k then none else l.spare, retired := setIns k l.retired }
  spareUsed (subDown { s1 with nv := { s1.nv with laneRetired := spPut [] s1.nv.laneRetired c (setIns k l.retired) } } (subLane c k)) 2 c

/-- The fault move of a position whose lane failed while another move ran (R199, R600); with no spare left its lane retires and its path
fails (R603). -/
def nextFault (s : State) (c : Nat) : State :=
  match (s.lanes c).waiting with
  | [] => s
  | pos :: rest =>
    let s1 := s.setLanes c { s.lanes c with waiting := rest }
    if s1.rx.rolling then s else if (s1.lanes c).spare.isNone then failPath (retireLane s1 c ((s1.lanes c).map.getD pos pos)) (8 * c + pos) else requestMove s1 c pos true

/-- The switch at the end of warm-up (R197, R198, R601): the old lane is SPARE, a faulty one RETIRED, and the path sounds again. -/
def laneSwitch (s : State) (c : Nat) (differ : Bool) : State :=
  let l := s.lanes c
  match l.spare with
  | none => nextFault (s.setLanes c { l with move := 0, result := 3 }) c
  | some sp =>
    let old := l.map.getD l.pos 0
    if ¬ l.fault ∧ differ ∧ lanesAgree s c old sp then
      nextFault (raise (retireLane (s.setLanes c { l with move := 0, result := 2 }) c sp) 45 NA (8 * c + l.pos)) c
    else
      let s1 := s.setLanes c { l with map := l.map.set l.pos sp, spare := some old, move := 0, result := 1 }
      let s2 := if (c, l.pos) ∈ s.svc.faulty then
          retireLane (markOff { s1 with svc := { s1.svc with faulty := s1.svc.faulty.filter (· ≠ (c, l.pos)) } } (markKey 8 (8 * c + l.pos))) c old else s1
      nextFault (raise s2 44 NA (8 * c + l.pos)) c

/-- Coefficient `i` of a channel of a lane written (R196, R204, R229). -/
def coefWrite (s : State) (tag c k n i value : Nat) (tx : Bool) : State :=
  if ¬ s.tagDeviceOrD2 tag then firewall s tag
  else if (s.lanes c).spare = some k ∧ (s.lanes c).move ≠ 2 then
    let key := (c * 9 + k) * 8 + n
    let put (m : Sparse (List Nat)) : Sparse (List Nat) :=
      let l := spGet [] m key
      let l' := (List.range 176).map (fun x => if x = i then value % 2 ^ 18 else l.getD x 0)
      spPut [] m key (if l'.all (· = 0) then [] else l')
    if tx then { s with rx := { s.rx with txcoef := put s.rx.txcoef } }
    else { s with rx := { s.rx with coef := put s.rx.coef } }
  else
    let s1 := raise (setFlag s .rxStat [c, k] 6) 47 NA NA
    if tx then firewall s1 tag else s1

/-- 176 coefficients of a channel as the object gives them: I32 each, cut to 18 bits; all zero is the reset contents. -/
def coefList (b : List Byte) : List Nat :=
  let l := (List.range 176).map (fun i => beAt b (4 * i) 4 % 2 ^ 18)
  if l.all (· = 0) then [] else l

/-- A lane takes the committed coefficients of a channel: receive channel n, transmit channel 8 + n (R200). -/
def rollChannel (s : State) (lane ch : Nat) : State :=
  if ch < 8 then { s with rx := { s.rx with coef := spPut [] s.rx.coef (lane * 8 + ch) (coefList (s.rollBytes (0x4400 + ch) 6)) } }
  else
    let n := ch - 8
    { s with rx := { s.rx with txcoef := spPut [] s.rx.txcoef (lane * 8 + n) (coefList (s.rollBytes (0x4500 + n) 3)) } }

/-- The spare lane of a cluster, and no other, takes the committed coefficients of the channels named (R196, R200). -/
def loadSpare (s : State) (chans : List Nat) (c : Nat) : State :=
  match (s.lanes c).spare with
  | some k => chans.foldl (fun s ch => rollChannel s (c * 9 + k) ch) s
  | none => s

/-- Position `j` of a cluster goes over to the spare lane, and its old lane is SPARE (R197 step 4). -/
def laneRollSwitch (s : State) (j c : Nat) : State :=
  let l := s.lanes c
  match l.spare with
  | some k => raise (s.setLanes c { l with map := l.map.set j k, spare := some (l.map.getD j j), pos := j, result := 1 }) 44 NA (8 * c + j)
  | none => s

/-- The lane move of position `j` in the clusters of a roll: the spare is loaded, warms up from a common boundary for 49,152 ticks and is switched
in at the next (R197, R200). -/
def laneRollMove (cs chans : List Nat) (s : State) (j : Nat) : State :=
  let s1 := cs.foldl (fun s c => loadSpare s chans c) s
  let s2 := reachCount s1 (nextCommon s1 s1.now)
  let s3 := reachElapsed s2 (s2.clk.elapsed + 49152)
  let s4 := reachCount s3 (nextCommon s3 s3.now)
  cs.foldl (fun s c => laneRollSwitch s j c) s4

/-- A roll of some clusters: the spare is loaded and positions 0 to 7 move in turn, each path changing at its own move; the lane left over is
loaded last (R200, R201, R209).  A cluster without a spare ends its first move with NO_SPARE. -/
def rollClusters (cs chans : List Nat) (s : State) : State :=
  let s1 := cs.foldl rollMoveNone s
  let s2 := (List.range 8).foldl (laneRollMove cs chans) s1
  cs.foldl (fun s c => loadSpare s chans c) s2
where
  /-- A cluster without a spare: NO_SPARE (R197 step 1). -/
  rollMoveNone (s : State) (c : Nat) : State :=
    let l := s.lanes c
    if l.spare.isNone then raise (s.setLanes c { l with pos := 0, result := 3 }) 45 NA (8 * c) else s

/-- A coefficient roll of every cluster.  A commit with channels of both kinds rolls twice, those rolled before its boundary first (R201); with
none due, the clusters whose replica differed roll alone (R491).  Fault moves that waited for the roll follow it (R199). -/
def coefficientRoll (s : State) : State :=
  let pre := decide (s.rx.rollPre ≠ [])
  let chans := if pre then s.rx.rollPre else s.rx.rollPost
  let own := decide (chans = [])
  let s1 := if own then rollClusters s.rx.rollOf (List.range 16) s else rollClusters (List.range 8) chans s
  let post := if pre then s1.rx.rollPost else []
  let of_ := if own then [] else s1.rx.rollOf
  let s2 := raise { s1 with rx := { s1.rx with rollPre := [], rollPost := post, rollOf := of_, rolling := decide (post ≠ [] ∨ of_ ≠ []) } } 46 NA NA
  (List.range 8).foldl nextFault s2

end Sys2Proof.Machine
end

