-- ==== Sys2Proof/Machine/BeamOps.lean ====
section
/-! DEFINITION. Shared operations of the beam matrix (chapter 7): weight vectors, beam selection, combining, repair. -/

namespace Sys2Proof.Machine

/-- A weight set record. -/
def State.wset (s : State) (cc d : Nat) : WSet := spGet WSet.reset s.bm.sets (cc * 2 + d)
/-- A weight set record set. -/
def State.setWset (s : State) (cc d : Nat) (x : WSet) : State :=
  { s with bm := { s.bm with sets := spPut WSet.reset s.bm.sets (cc * 2 + d) x } }

/-! ## Carrier configuration (BF_CCn_CFG) -/

/-- PRB group size. -/
def State.bfG (s : State) (cc : Nat) : Nat := 2 ^ rf s .bfCcCfg [cc] 4 2
/-- PRB groups of a carrier (R232). -/
def State.bfNg (s : State) (cc : Nat) : Nat := ceilDiv (s.ccN cc) (s.bfG cc)
/-- Layers of a carrier in a direction. -/
def State.bfLayers (s : State) (cc d : Nat) : Nat :=
  if d = 0 then rf s .bfCcCfg [cc] 8 5 + 1 else rf s .bfCcCfg [cc] 12 9 + 1
/-- Beamforming of a direction is enabled. -/
def State.bfOn (s : State) (cc d : Nat) : Bool := rbit s .bfCcCfg [cc] d
/-- Per-antenna uplink export. -/
def State.bfExport (s : State) (cc : Nat) : Bool := rbit s .bfCcCfg [cc] 19
/-- Run lead. -/
def State.bfLead (s : State) (cc : Nat) : Nat := rf s .bfCcCfg [cc] 47 32
/-- Base of a weight set. -/
def State.setBase (s : State) (cc d set : Nat) : Nat :=
  match d, set with
  | 0, 0 => rf s .bfCcDla [cc] 39 0
  | 0, _ => rf s .bfCcDlb [cc] 39 0
  | _, 0 => rf s .bfCcUla [cc] 39 0
  | _, _ => rf s .bfCcUlb [cc] 39 0
/-- Base of the codebook. -/
def State.cbBase (s : State) (cc : Nat) : Nat := rf s .bfCcCbbase [cc] 39 0

/-! ## Vectors (R238, R259) -/

/-- A weight vector: 64 mantissas in Q11 and the shared exponent. -/
structure WVec where
  m : List Cplx
  e : Nat
deriving DecidableEq, Repr

/-- A vector from its 64 words. -/
def vecOfWords (w : List Nat) : WVec :=
  ⟨w.map (fun x => ⟨toSigned 12 x, toSigned 12 (x >>> 12)⟩), bitsOf (w.getD 0 0) 28 24⟩

/-- The logical banks of `n` bytes at an SRAM address. -/
def spanBanks (a n : Nat) : List Nat :=
  (List.range 96).filter (fun k => a - sramBase < (k + 1) * 0x80000 ∧ k * 0x80000 < a - sramBase + n)

/-- The firewall turns a tile's access for a carrier away: its transactions carry the tenant's tag (R29, R30). -/
def tileRefused (s : State) (cc a n : Nat) : Bool :=
  decide (sramBase ≤ a) && decide (a + n ≤ sramBase + sramSize) && (spanBanks a n).any (fun k => ¬ s.sramAllowed (.tile 0) (s.ccOwner cc) none k)

/-- A tile may move `n` bytes at an SRAM address for a carrier: the firewall lets it, and the banks serve (R29, R30). -/
def tileSpan (s : State) (cc a n : Nat) : Bool :=
  decide (sramBase ≤ a) && decide (a + n ≤ sramBase + sramSize) && ¬ (s.island 12).off && ¬ tileRefused s cc a n &&
    (spanBanks a n).all (fun k => (s.physBank k).isSome)

/-- The 64 words of a carrier's vector at an SRAM address; a read that is not performed gives zeros, and so does a poisoned word (R30, R433). -/
def readVec (s : State) (cc a : Nat) : WVec :=
  let b := if tileSpan s cc a 256 then sramBytes s (a - sramBase) 256 else List.replicate 256 0
  vecOfWords ((List.range 64).map (fun i => leAt b (4 * i) 4))

/-- The mask that runs starting now apply (R258): a bit counts from 64 ticks after its declaration. -/
def State.runMask (s : State) : Nat :=
  (List.range 64).foldl (fun m p =>
    let t := spGet 0 s.bm.goingOff p
    if bitOf s.bm.mask p ∧ (t = 0 ∨ t - 1 + 64 ≤ s.clk.elapsed) then m + 2 ^ p else m) 0

/-- I² + Q². -/
def norm2 (c : Cplx) : Nat := (c.re * c.re + c.im * c.im).toNat

/-- The rescale caps of RS_CAP in 2⁻¹⁴: 2.0, 1.4142, 1.0 (R259). -/
def capOf : Nat → Nat
  | 0 => 32768
  | 1 => 23170
  | _ => 16384

/-- Working mantissas under a mask; none for a vector with nothing left (R259). -/
def workVec (mask cap : Nat) (v : WVec) : Option WVec :=
  let ix := (List.range 64).zip v.m
  let all := (v.m.map norm2).sum
  let rem := ((ix.filter (fun p => ¬ bitOf mask p.1)).map (fun p => norm2 p.2)).sum
  if rem = 0 then none
  else if mask = 0 then some v
  else
      let sc : Int := (min (capOf cap) (Nat.sqrt (all * 2 ^ 28 / rem)) : Nat)
      some ⟨ix.map (fun p => if bitOf mask p.1 then ⟨0, 0⟩
        else ⟨(p.2.re * sc) / 2 ^ 14, (p.2.im * sc) / 2 ^ 14⟩), v.e⟩

/-- Arithmetic shift of both parts. -/
def cshr (c : Cplx) (e : Nat) : Cplx := ⟨c.re / 2 ^ e, c.im / 2 ^ e⟩

/-- A 40-bit accumulator wraps. -/
def wrap40 (v : Int) : Int := toSigned 40 (ofSigned 40 v)

/-- The output stage of R233 and R234: round, shift, saturate to 16 bits; the count of parts that saturated. -/
def bfOut (acc : Cplx) (osh : Nat) : Cplx × Nat :=
  let f (v : Int) : Int := (wrap40 v + 2 ^ (10 + osh)) / 2 ^ (11 + osh)
  let re := f acc.re
  let im := f acc.im
  let c (v : Int) : Int := clampI (-32768) 32767 v
  (⟨c re, c im⟩, if c re ≠ re ∨ c im ≠ im then 1 else 0)

/-- One antenna RE (R233): the layer REs with the mantissa and exponent of each layer's vector for the antenna. -/
def dlRe (xs : List (Cplx × Cplx × Nat)) (osh : Nat) : Cplx × Nat :=
  bfOut (xs.foldl (fun a x => cadd a (cshr (cmul x.1 x.2.1) x.2.2)) ⟨0, 0⟩) osh

/-- One layer RE (R234): antenna REs with the conjugate mantissas. -/
def ulRe (r : List Cplx) (v : WVec) (osh : Nat) : Cplx × Nat :=
  bfOut ((r.zip v.m).foldl (fun a x => cadd a (cshr (cmul x.1 (cconj x.2)) v.e)) ⟨0, 0⟩) osh

/-! ## Beam selection (R240 to R242) -/

/-- What a run resolves its codes to: the vector of each (layer, PRB), and what it counted. -/
structure Sel where
  vecs : List ((Nat × Nat) × WVec)
  /-- codebook beams copied so far -/
  beams : List (Nat × Option WVec)
  /-- explicit vectors read so far -/
  expl : List ((Nat × Nat) × Option WVec)
  errs : Nat
  overflow : Bool
  nulls : Nat
  /-- vectors whose read the firewall turned away (R30) -/
  refused : Nat
deriving DecidableEq, Repr

/-- The vector that a code selects for a layer's PRB (R240 to R242, R259). -/
def selectBeam (s : State) (cc d mask : Nat) (x : Sel) (layer prb code : Nat) : Sel :=
  let cap := rf s .bfCcCfg [cc] 21 20
  let put (x : Sel) (v : Option WVec) : Sel := match v with
    | some w => { x with vecs := x.vecs ++ [((layer, prb), w)] }
    | none => x
  if code < 0x400 then
    match x.beams.find? (fun b => b.1 = code) with
    | some b => put x b.2
    | none =>
      if 256 ≤ x.beams.length then { x with errs := x.errs + 1, overflow := true }
      else
        let a := s.cbBase cc + code * 256
        let v := workVec mask cap (readVec s cc a)
        put { x with beams := x.beams ++ [(code, v)], nulls := x.nulls + b2n v.isNone, refused := x.refused + b2n (tileRefused s cc a 256) } v
  else if code = 0x400 then
    let g := prb / s.bfG cc
    match x.expl.find? (fun b => b.1 = (layer, g)) with
    | some b => put x b.2
    | none =>
      let a := s.setBase cc d (s.wset cc d).cur + (layer * s.bfNg cc + g) * 256
      let v := workVec mask cap (readVec s cc a)
      put { x with expl := x.expl ++ [((layer, g), v)], nulls := x.nulls + b2n v.isNone, refused := x.refused + b2n (tileRefused s cc a 256) } v
  else if code = 0xFFF then x
  else { x with errs := x.errs + 1, overflow := true }

/-- Nothing selected. -/
def Sel.empty : Sel := ⟨[], [], [], 0, false, 0, 0⟩

/-- What a run counted: accesses refused, beam errors, null vectors, saturations (R30, R236, R240, R242, R259). -/
def countRun (s : State) (cc : Nat) (x : Sel) (sats : Nat) : State :=
  let s := (List.range x.refused).foldl (fun s _ => firewall s (s.ccOwner cc)) s
  let s1 := if 0 < x.errs then raise (stat (bump s .bfBeamErr [] x.errs) (0x5020 + cc) 4 x.errs) 67 cc NA else s
  let s2 := if 0 < x.nulls then raise (bump s1 .bfNullVec [] x.nulls) 69 cc NA else s1
  if 0 < sats then raise (stat (bump s2 .bfSat [] sats) (0x5020 + cc) 3 sats) 66 cc NA else s2

/-! ## Runs (R231, R243 to R245) -/

/-- A unit of MHz·layer in which the load of every group is a whole number: how many make one. -/
def loadUnit (s : State) : Nat := (List.range 8).foldl (fun m c => Nat.lcm m (max 1 (s.ccN c))) 1

/-- Load of a group of a carrier direction in those units: B × L × (PRBs of the group / N) (R231). -/
def groupLoad (s : State) (unit cc d g : Nat) : Nat :=
  let l := if d = 1 ∧ s.bfExport cc then 64 else s.bfLayers cc d
  s.onum (0x2010 + cc) 4 * l * (min (s.ccN cc) ((g + 1) * s.bfG cc) - g * s.bfG cc) * (unit / max 1 (s.ccN cc))

/-- The tile positions in service: those with a working tile, and those whose tile the spare is about to replace (R231, R266). -/
def State.positionsServing (s : State) : List Nat :=
  let gone := (s.bm.dead.map (·.1)).drop (b2n s.bm.spare.isSome)
  (List.range 8).filter (· ∉ gone)

/-- The assignment of PRB groups to the tile positions in service (R231): in each direction a position is filled until its load reaches 1,600 MHz·layer. -/
def assignTiles (s : State) : List (Nat × Nat × Nat × Nat) :=
  let u := loadUnit s
  let dirs : List (Nat × Nat) := ((List.range 8).map (fun cc => [(cc, 0), (cc, 1)])).flatten
  let step (d : Nat) (st : List (Nat × Nat × Nat × Nat) × Nat × Nat) (cd : Nat × Nat) : List (Nat × Nat × Nat × Nat) × Nat × Nat :=
    let on := (if cd.2 = 0 then s.dlOn cd.1 else s.ulOn cd.1) && s.bfOn cd.1 cd.2 && decide (cd.2 = d)
    if on then
      (List.range (s.bfNg cd.1)).foldl (fun st g =>
        let (l, pos, load) := st
        let pos' := if 1600 * u ≤ load then pos + 1 else pos
        let load' := if 1600 * u ≤ load then 0 else load
        (l ++ [(pos', cd.1, cd.2, g)], pos', load' + groupLoad s u cd.1 cd.2 g)) st
    else st
  let place := s.positionsServing
  ((dirs.foldl (step 0) ([], 0, 0)).1 ++ (dirs.foldl (step 1) ([], 0, 0)).1).map (fun x => (place.getD x.1 x.1, x.2))

/-- The tick span of the next entry of a direction: the entry now running, if it starts now, or the next. -/
def nextEntryOf (s : State) (dir : Nat) : Option (Nat × Nat) :=
  let p := s.pattern
  go s dir p (2 * p.length) (nextEntryAt p s.frameOfs s.now)
where
  /-- The first entry boundary at or after a tick. -/
  nextEntryAt (p : List PatEntry) (ofs t : Nat) : Nat :=
    match patFind p 0 0 (patPos p ofs t) with
    | some (_, st, e) => if patPos p ofs t = st then t else t + (st + e.dur - patPos p ofs t)
    | none => t
  /-- Entry by entry from a boundary. -/
  go (s : State) (dir : Nat) (p : List PatEntry) : Nat → Nat → Option (Nat × Nat)
    | 0, _ => none
    | f + 1, t =>
      match patFind p 0 0 (patPos p s.frameOfs t) with
      | some (_, _, e) => if e.dir = dir then some (t, t + e.dur) else go s dir p f (t + e.dur)
      | none => none

/-- The arm that covers the symbol that starts at a counter value.  Of several, which may name different groups, the first alone: R243 does not say
how they combine (DESIGN CHOICE, assumption 155). -/
def State.armFor (s : State) (cc d t : Nat) : Option Arm :=
  s.bm.arms.find? (fun a => a.cc = cc ∧ a.dir = d ∧ a.from_ ≤ t ∧ t < a.upto)

/-- A group lies in an arm's range. -/
def Arm.covers (a : Arm) (g : Nat) : Bool := a.count = 0 || (decide (a.first ≤ g) && decide (g < a.first + a.count))

/-- A group's tile position has a working tile. -/
def groupAlive (s : State) (cc d g : Nat) : Bool :=
  match s.bm.assign.find? (fun x => x.2 = (cc, d, g)) with
  | some x => decide ((spGet 0 s.bm.dead x.1) = 0)
  | none => true

/-- Length of the symbol that starts at a counter value. -/
def symLenAt (ofs mu : Nat) (ecp : Bool) (t : Nat) : Nat := nextSymbol ofs mu ecp (t + 1) - t

/-- The start of the symbol that ends at a boundary (R41). -/
def symStartOf (ofs mu : Nat) (ecp : Bool) (b : Nat) : Nat :=
  let h := framePos ofs b % halfTicks
  if ecp then b - 10240 else if h = 256 + symTicks mu false then b - h else b - symTicks mu false

/-- The downlink run of one symbol (R233, R240, R242, R243, R399): the layer REs of the sections of the symbol that starts at
`air`, spread over the 64 antennas, go to the lanes' RE buffers. -/
def dlRun (s : State) (cc air : Nat) (a : Arm) : State :=
  let n := s.ccN cc
  let osh := rf s .bfCcCfg [cc] 15 13
  let secs := (spGet [] s.lnk.dl cc).filter (fun x => x.tick = air)
  let mask := s.runMask
  let prbs (x : DlSec) := (List.range (x.res.length / 12)).map (· + x.start)
  let used := fun (prb : Nat) => a.covers (prb / s.bfG cc) && groupAlive s cc 0 (prb / s.bfG cc)
  let sel := secs.foldl (fun sl x => (prbs x).foldl (fun sl prb =>
    if used prb then selectBeam s cc 0 mask sl x.layer prb x.beam else sl) sl) Sel.empty
  let reOf (layer k : Nat) : Cplx :=
    match secs.find? (fun x => x.layer = layer ∧ 12 * x.start ≤ k ∧ k < 12 * x.start + x.res.length) with
    | some x => x.res.getD (k - 12 * x.start) ⟨0, 0⟩
    | none => ⟨0, 0⟩
  let out (ant : Nat) : List (Cplx × Nat) := (List.range (12 * n)).map (fun k =>
    dlRe ((sel.vecs.filter (fun v => v.1.2 = k / 12)).map (fun v => (reOf v.1.1 k, v.2.m.getD ant ⟨0, 0⟩, v.2.e))) osh)
  let all := (List.range 64).map out
  let sats := (all.map (fun l => (l.map (·.2)).sum)).sum
  -- groups of a tile that has failed are missing (R266)
  let missing := (List.range (s.bfNg cc)).any (fun g => a.covers g && ¬ groupAlive s cc 0 g)
  let wsets := secs.filter (fun x => x.beam = 0x400 ∧ x.wset ≠ (s.wset cc 0).cur)
  let buf := ((List.range 64).zip all).foldl (fun (b : Sparse (List ReSym)) x =>
    let old : List ReSym := (spGet [] b (x.1 * 8 + cc)).filter (fun y => y.tick ≠ air)
    let new : ReSym := ⟨air, s.clk.elapsed, x.2.map (·.1), missing⟩
    -- the buffer holds two symbols, the older of which the run overwrites (R211)
    spPut [] b (x.1 * 8 + cc) (old.drop (old.length - 1) ++ [new])) s.tx.buf
  let s1 := { s with tx := { s.tx with buf := buf },
                     bm := { s.bm with runs := spPut 0 s.bm.runs (cc * 2) (s.clk.elapsed + 1) },
                     lnk := { s.lnk with dl := spPut [] s.lnk.dl cc ((spGet [] s.lnk.dl cc).filter (fun x => air < x.tick)) } }
  let s2 := wsets.foldl (fun s _ => raise (stat s (0x9200 + cc) 16) 135 cc NA) s1
  countRun s2 cc sel sats

/-- The uplink run of one symbol (R234, R235, R237, R241): the antenna REs of the symbol that started at `start` are combined
into layers, or passed through for export, and lie in the uplink symbol buffer.  Of two control entries that name one layer PRB the later applies,
on which R405 is silent (DESIGN CHOICE, assumption 161). -/
def ulRun (s : State) (cc start tick : Nat) (a : Arm) : State :=
  let n := s.ccN cc
  let osh := rf s .bfCcCfg [cc] 18 16
  let mask := s.runMask
  let ant (p : Nat) : ReSym :=
    ((spGet [] s.rx.re (p * 8 + cc)).find? (fun x => x.tick = tick)).getD ReSym.none_
  let ants := (List.range 64).map ant
  if s.bfExport cc then
    -- groups outside the armed range, and those of a dead position, which also carry the flag, are zero (R243, R266)
    let on (prb : Nat) : Bool := a.covers (prb / s.bfG cc) && groupAlive s cc 1 (prb / s.bfG cc)
    let streams := ants.map (fun x => (List.range (12 * n)).map (fun k => if on (k / 12) then x.res.getD k ⟨0, 0⟩ else ⟨0, 0⟩))
    let flags := ants.map (fun x => (List.range n).map (fun prb => x.mirage || ¬ groupAlive s cc 1 (prb / s.bfG cc)))
    { s with lnk := { s.lnk with ul := spPut UlSym.none_ s.lnk.ul cc ⟨start, 2, streams, flags, [], 0⟩ },
             bm := { s.bm with runs := spPut 0 s.bm.runs (cc * 2 + 1) (s.clk.elapsed + 1) } }
  else
    let ctl := (spGet [] s.lnk.ulCtl cc).filter (fun x => x.tick = start)
    let dflt := s.obytes (0x5010 + cc) 1
    let code (layer prb : Nat) : Nat :=
      match ctl.reverse.find? (fun x => x.layer = layer ∧ x.start ≤ prb ∧ prb < x.start + x.count) with
      | some x => x.code
      | none => beAt dflt (2 * layer) 2 % 4096
    let layers := List.range (s.bfLayers cc 1)
    let used := fun (prb : Nat) => a.covers (prb / s.bfG cc) && groupAlive s cc 1 (prb / s.bfG cc)
    let sel := layers.foldl (fun sl l => (List.range n).foldl (fun sl prb =>
      if used prb then selectBeam s cc 1 mask sl l prb (code l prb) else sl) sl) Sel.empty
    let vec (l prb : Nat) : Option WVec := (sel.vecs.find? (fun v => v.1 = (l, prb))).map (·.2)
    let outs := layers.map (fun l => (List.range (12 * n)).map (fun k =>
      match vec l (k / 12) with
      | some v => ulRe (ants.map (fun (x : ReSym) => x.res.getD k ⟨0, 0⟩)) v osh
      | none => (⟨0, 0⟩, 0)))
    let flags := layers.map (fun l => (List.range n).map (fun prb =>
      (¬ groupAlive s cc 1 (prb / s.bfG cc) && a.covers (prb / s.bfG cc)) ||
      match vec l prb with
      | some v => (ants.zip v.m).any (fun x => x.1.mirage && decide (x.2 ≠ ⟨0, 0⟩))
      | none => false))
    let sats := (outs.map (fun l => (l.map (·.2)).sum)).sum
    let codes := layers.map (fun l => (List.range n).map (code l))
    let s1 := { s with lnk := { s.lnk with ul := spPut UlSym.none_ s.lnk.ul cc ⟨start, 1, outs.map (·.map (·.1)), flags, codes, (s.wset cc 1).cur⟩,
                                           ulCtl := spPut [] s.lnk.ulCtl cc ((spGet [] s.lnk.ulCtl cc).filter (fun x => start < x.tick)) },
                       bm := { s.bm with runs := spPut 0 s.bm.runs (cc * 2 + 1) (s.clk.elapsed + 1) } }
    countRun s1 cc sel sats

/-! ## Weight blocks (R251 to R253) -/

/-- A block is dropped (R252). -/
def rejectBlock (s : State) (cc : Nat) (foreign : Bool) (tag : Nat) : State :=
  let s1 := raise (bump s .bfWrej []) 68 cc NA
  if foreign then firewall s1 tag else s1

/-- A weight block arrives: it is dropped whole, or its vectors wait to land (R251, R252).  `tenant` is the tenant of the
port or session, none for the operator and service roles. -/
def weightBlock (s : State) (tenant : Option Nat) (b : List Byte) : State :=
  let b0 := beAt b 0 1
  let cc := bitsOf b0 7 5
  let dir := bitsOf b0 4 4
  let layer := bitsOf b0 3 0
  let target := bitsOf (beAt b 1 1) 7 7
  let first := beAt b 2 2
  let count := beAt b 4 1
  let own : Bool := match tenant with
    | none => true
    | some t => decide (s.ccOwner cc = t)
  let enabled := if target = 1 then s.dlOn cc || s.ulOn cc else if dir = 0 then s.dlOn cc else s.ulOn cc
  let limit := if target = 1 then 1024 else s.bfNg cc
  let good := decide (1 ≤ count) && decide (count ≤ 32) && decide (b.length = 8 + 256 * count) &&
    (decide (target = 0) || (decide (dir = 0) && decide (layer = 0))) &&
    (decide (target = 1) || decide (layer < s.bfLayers cc dir)) && decide (first + count ≤ limit)
  if ¬ own then rejectBlock s cc true (tenant.getD 4)
  else if ¬ good ∨ ¬ enabled then rejectBlock s cc false 4
  else
    let vs := (List.range count).map (fun i => (⟨cc, dir, layer, target, first + i,
      (List.range 64).map (fun k => beAt b (8 + 256 * i + 4 * k) 4), s.bm.blocks, decide (i + 1 = count)⟩ : Landing))
    { s with bm := { s.bm with landing := s.bm.landing ++ vs, blocks := s.bm.blocks + 1 } }

/-- The little-endian bytes of a vector's words. -/
def vecBytes (w : List Nat) : List Byte := (w.map (leBytes 4)).flatten

/-- A carrier's vector written to the SRAM (R248): under its tenant's tag, on banks that serve. -/
def storeVec (s : State) (cc a : Nat) (w : List Nat) : State :=
  if tileRefused s cc a 256 then firewall s (s.ccOwner cc)
  else if tileSpan s cc a 256 then sramStore s (a - sramBase) (vecBytes w)
  else s

/-- A vector lands (R247 to R250, R253). -/
def landVector (s : State) (v : Landing) (collide : Bool) : State :=
  if v.target = 1 then
    let s1 := storeVec s v.cc (s.cbBase v.cc + v.index * 256) v.words
    { s1 with bm := { s1.bm with gens := spMod 0 s1.bm.gens (v.cc * 1024 + v.index) (fun g => (g + 1) % 2 ^ 16) } }
  else
    let w := s.wset v.cc v.dir
    let lo := 16 * v.dir
    let s1 := storeVec s v.cc (s.setBase v.cc v.dir (1 - w.cur) + (v.layer * s.bfNg v.cc + v.index) * 256) v.words
    let s2 := if collide then raise (bumpField s1 .bfCcColl [v.cc] (lo + 15) lo) 64 v.cc NA else s1
    let began := match w.block with
      | some (b, n) => if b = v.block then n else w.count
      | none => w.count
    let s3 := if v.isLast ∧ began ≠ w.count then raise (bumpField s2 .bfCcSplit [v.cc] (lo + 15) lo) 65 v.cc NA else s2
    s3.setWset v.cc v.dir { w with block := if v.isLast then none else some (v.block, began) }

/-! ## Erg repair (R256 to R264) -/

/-- Elements in service. -/
def State.inService (s : State) : Nat := 64 - ((List.range 64).filter (bitOf s.bm.mask)).length

/-- BF_ARRAY_MARGIN while fewer elements serve than the minimum (R263). -/
def arrayMargin (s : State) : State :=
  if s.inService < s.onum 0x5900 5 then condOn s 74 NA NA else condOff s 74 NA NA

/-- Elements in service that a STEER beam may use: an element whose path is not masked. -/
def elementPath (s : State) (a : Nat) : Nat :=
  let m := s.obytes 0x5802 1
  if m = [] then a else (m.getD a 0).toNat

/-- The 64 words of a STEER beam over the elements in service (R255, R256).  Where no EXP leaves every component below 1, EXP is 0 and mantissas are
clamped to 12 bits, as is one that rounds to 2,048: R256 gives no encoding for them (DESIGN CHOICE, assumption 156). -/
def steerWords (s : State) (cc beam : Nat) : List Nat :=
  let d := beAt (s.obytes (0x5400 + cc) 1) (8 * beam) 8
  let polm := bitsOf d 2 1
  let taper := s.obytes 0x5803 1
  let tabl := bitsOf d 5 3
  let pols := s.obytes 0x5801 1
  let pos := s.obytes 0x5800 1
  let az := toSigned 16 (bitsOf d 21 6)
  let el := toSigned 16 (bitsOf d 37 22)
  let t (a : Nat) : Nat := beAt taper (tabl * 128 + 2 * a) 2
  let fits (a : Nat) : Bool := bitOf polm (if beAt pols a 1 = 0 then 0 else 1)
  let inE (a : Nat) : Bool := ¬ bitOf s.bm.mask (elementPath s a)
  let full := ((List.range 64).map (fun a => if fits a then t a * t a else 0)).sum
  let part := ((List.range 64).map (fun a => if fits a && inE a then t a * t a else 0)).sum
  let ce := fxCosDeg el
  let ux := fxMul ce (fxCosDeg az)
  let uy := fxMul ce (fxSinDeg az)
  let uz := fxSinDeg el
  let f := s.onum (0x2010 + cc) 3
  let w (a : Nat) : Int × Int :=
    if fits a && inE a && decide (0 < part) then
      let x := toSigned 32 (beAt pos (12 * a) 4)
      let y := toSigned 32 (beAt pos (12 * a + 4) 4)
      let z := toSigned 32 (beAt pos (12 * a + 8) 4)
      -- turns: f (r·u) / c with r in 10⁻⁵ m
      let turns := ((x * ux + y * uy + z * uz) * (f : Int)) / (299792458 * 100000)
      let amp : Int := (Nat.sqrt (full * 2 ^ (2 * fxBits) / part) * t a / 2 ^ 15 : Nat)
      (fxMul amp (fxCosTurn (-turns)), fxMul amp (fxSinTurn (-turns)))
    else (0, 0)
  let ws := (List.range 64).map (fun p => w ((List.range 64).findIdx (fun a => elementPath s a = p)))
  let peak := ws.foldl (fun m x => max m (max x.1.natAbs x.2.natAbs)) 0
  let e := ((List.range 32).filter (fun k => peak * 2 ^ k < 2 ^ fxBits)).foldl max 0
  let q (v : Int) : Nat := ofSigned 12 (clampI (-2048) 2047 ((v * 2 ^ (e + 12) / 2 ^ fxBits + 1) / 2))
  (ws.zip (List.range 64)).map (fun x => q x.1.1 + q x.1.2 * 2 ^ 12 + if x.2 = 0 then e * 2 ^ 24 else 0)

/-- The STEER beams of the enabled carriers' codebooks. -/
def steerBeams (s : State) : List (Nat × Nat) :=
  ((List.range 8).filter (fun cc => s.dlOn cc || s.ulOn cc)).flatMap (fun cc =>
    let d := s.obytes (0x5400 + cc) 1
    ((List.range 1024).filter (fun b => bitOf (beAt d (8 * b + 7) 1) 0)).map (fun b => (cc, b)))

/-- Stage 2 ends: every STEER beam whose write generation has not changed since stage 2 began is rewritten (R260, R261). -/
def resynthDone (s : State) : State :=
  let beams := (steerBeams s).filter (fun b => spGet 0 s.bm.gens (b.1 * 1024 + b.2) = spGet 0 s.bm.heal.gens (b.1 * 1024 + b.2))
  let s1 := beams.foldl (fun s b => storeVec s b.1 (s.cbBase b.1 + b.2 * 256) (steerWords s b.1 b.2)) s
  let late := decide (s.bm.heal.td + 983040 < s.clk.elapsed)
  let s2 := { s1 with bm := { s1.bm with heal := { s1.bm.heal with stage := 0, late := late, gens := [] } } }
  let s3 := raise s2 72 NA NA
  if late then raise s3 73 NA NA else s3

/-! ## Tiles (R266) -/

/-- A tile fails: its positions' groups of runs in progress are missing, and stay so until the spare takes over (R266). -/
def tileFail (s : State) (t : Nat) : State :=
  let pos := (List.range 8).filter (fun j => s.bm.map.getD j 9 = t)
  let wasSpare := decide (s.bm.spare = some t)
  let s1 := { s with bm := { s.bm with
                             retired := setIns t s.bm.retired,
                             spare := if wasSpare then none else s.bm.spare,
                             dead := pos.foldl (fun d j => spPut 0 d j (s.clk.elapsed + 1)) s.bm.dead } }
  let hit (cc d : Nat) : Bool := s.bm.assign.any (fun x => decide (x.1 ∈ pos) && decide (x.2.1 = cc) && decide (x.2.2.1 = d))
  let inRun (cc d : Nat) : Bool :=
    let r := spGet 0 s.bm.runs (cc * 2 + d)
    decide (0 < r) && decide (s.clk.elapsed < r - 1 + symTicks (s.ccMu cc) (s.ccEcp cc) + 2048)
  let groups (cc d : Nat) : List Nat := (s.bm.assign.filter (fun x => x.1 ∈ pos ∧ x.2.1 = cc ∧ x.2.2.1 = d)).map (·.2.2.2)
  let zeroDl (s : State) (cc : Nat) : State :=
    if hit cc 0 then
      let gs := groups cc 0
      -- a symbol whose run is in progress
      let cut (y : ReSym) : ReSym :=
        if s.clk.elapsed < y.at_ + symTicks (s.ccMu cc) (s.ccEcp cc) + 2048 then
          { y with res := (y.res.zip (List.range y.res.length)).map (fun x => if x.2 / 12 / s.bfG cc ∈ gs then ⟨0, 0⟩ else x.1), mirage := true }
        else y
      { s with tx := { s.tx with buf := s.tx.buf.map (fun p => if p.1 % 8 = cc then (p.1, p.2.map cut) else p) } }
    else s
  let zeroUl (s : State) (cc : Nat) : State :=
    if hit cc 1 && inRun cc 1 then
      let gs := groups cc 1
      let u := spGet UlSym.none_ s.lnk.ul cc
      let streams := u.streams.map (fun l => (l.zip (List.range l.length)).map (fun x =>
        if x.2 / 12 / s.bfG cc ∈ gs then (⟨0, 0⟩ : Cplx) else x.1))
      let flags := u.flags.map (fun l => (l.zip (List.range l.length)).map (fun x => x.1 || decide (x.2 / s.bfG cc ∈ gs)))
      { s with lnk := { s.lnk with ul := spPut UlSym.none_ s.lnk.ul cc { u with streams := streams, flags := flags } } }
    else s
  let s2 := (List.range 8).foldl (fun s cc => zeroUl (zeroDl s cc) cc) s1
  let s3 := spareUsed (raise (subDown { s2 with nv := { s2.nv with tileRetired := s2.bm.retired } } (subTile t)) 70 NA NA) 3 t
  -- a position is left that no spare replaces
  if b2n s.bm.spare.isSome < s3.bm.dead.length + b2n wasSpare ∧ (s3.bm.dead ≠ []) then readmit s3 else s3

/-- An operator clear: a failed path awaits its foreground calibration, unless that has passed; then the path returns at the first boundary from now
on (R264, R379). -/
def healClear (s : State) (p : Nat) : State :=
  if p ∈ s.bm.held ∨ bitOf s.bm.mask p then
    let t := spGet 0 s.bm.passed p
    { s with bm := { s.bm with clearing := spPut 0 s.bm.clearing p (if t = 0 then 1 else max t (s.clk.elapsed + 2 - 64)) } }
  else s

/-- The oldest uplink symbol of a carrier whose run is due: the antenna's record that came last of those of its tick. -/
def oldestRe (s : State) (cc : Nat) : Option ReSym :=
  let all := (List.range 64).flatMap (fun p => spGet [] s.rx.re (p * 8 + cc))
  all.foldl (fun b y => match b with
    | none => some y
    | some x => if y.tick < x.tick ∨ (y.tick = x.tick ∧ x.at_ < y.at_) then some y else some x) none

/-- Uplink symbols of a carrier up to a tick have had their run. -/
def dropRe (s : State) (cc tick : Nat) : State :=
  { s with rx := { s.rx with re := (List.range 64).foldl (fun m p =>
                               let k := p * 8 + cc
                               spPut [] m k ((spGet [] m k).filter (fun y => tick < y.tick))) s.rx.re } }

/-- Cycles of the default resynthesis kernel: 20,000 and 240 a STEER beam (R262). -/
def State.defaultResynth (s : State) : Nat := 20000 + 240 * (steerBeams s).length

/-- The resynthesis kernel is the default one: object 0x5904 has not been written. -/
def State.resynthDefault (s : State) : Bool := s.objs.all (fun x => x.1 ≠ okey 0x5904 1)

/-- Ticks that stage 2 takes at least: the default kernel's cycles over two engines, three cycles a tick (R260, R262); a substituted kernel declares a
worst case alone. -/
def State.resynthTicks (s : State) : Nat := if s.resynthDefault then ceilDiv s.defaultResynth 6 else 0

/-- The PRACH combiner (R265): streams of the latest occasion of extractor `j`. -/
def prachCombine (s : State) (j : Nat) : State :=
  let cc := bitsOf (s.prachCfg j) 3 1
  let ants := (List.range 64).map (fun p => spGet ReSym.none_ s.rx.prach (p * 4 + j))
  let tick := (ants.map (·.tick)).foldl max 0
  let at_ := (ants.map (·.at_)).foldl max 0
  let s1 := reachElapsed s at_
  let len := (ants.map (fun x => if x.tick = tick then x.res.length else 0)).foldl max 0
  let re (x : ReSym) (k : Nat) : Cplx := if x.tick = tick then x.res.getD k ⟨0, 0⟩ else ⟨0, 0⟩
  let mir := ants.any (fun x => decide (x.tick = tick) && x.mirage)
  if tick = 0 then s
  else if bitOf (s.prachCfg j) 10 then
    let streams := ants.map (fun x => (List.range len).map (re x))
    { s1 with lnk := { s1.lnk with prach := spPut UlSym.none_ s1.lnk.prach j ⟨tick, 3, streams, ants.map (fun x => [x.mirage]), [], 0⟩ } }
  else
    let osh := rf s1 .bfPrbCfg [j] 2 0
    let list := s1.obytes (0x5910 + j) 1
    let codes := (List.range 16).map (fun m => beAt list (2 * m) 2)
    let used := codes.filter (· < 0x400)
    let cap := rf s1 .bfCcCfg [cc] 21 20
    let vecs := used.map (fun b => workVec s1.runMask cap (readVec s1 cc (s1.cbBase cc + b * 256)))
    let outs := vecs.map (fun v => (List.range len).map (fun k => match v with
      | some w => ulRe (ants.map (fun x => re x k)) w osh
      | none => (⟨0, 0⟩, 0)))
    let sel : Sel := ⟨[], [], [], 0, false, (vecs.filter (·.isNone)).length,
      (used.filter (fun b => tileRefused s1 cc (s1.cbBase cc + b * 256) 256)).length⟩
    let s2 := { s1 with lnk := { s1.lnk with prach := spPut UlSym.none_ s1.lnk.prach j ⟨tick, 3, outs.map (·.map (·.1)), outs.map (fun _ => [mir]), used.map (fun b => [b]), 0⟩ } }
    countRun s2 cc sel ((outs.map (fun l => (l.map (·.2)).sum)).sum)

end Sys2Proof.Machine
end

