-- ==== Sys2Proof/Machine/DpdOps.lean ====
section
/-! DEFINITION. Shared operations of predistortion (chapter 8). -/

namespace Sys2Proof.Machine

/-- The unit of a path set; what its bank and its ramps were before a change is kept for samples already taken (R164). -/
def State.setDpd (s : State) (p : Nat) (x : Dpd) : State :=
  let o := spGet Dpd.reset s.dpds p
  let y := if o.bank = x.bank ∧ o.ramps = x.ramps then x else { x with was := (o.bank, o.ramps), wasAt := s.clk.elapsed }
  { s with dpds := spPut Dpd.reset s.dpds p y }

/-- A word of a bank set; the reserved words 4 to 15 stay 0 (R278). -/
def Dpd.setWord (x : Dpd) (b i v : Nat) : Dpd :=
  if 4 ≤ i ∧ i < 16 then x else { x with words := spPut (bankReset b i) x.words (b * 4096 + i) (v % 2 ^ 32) }

/-- Words of a bank (R278). -/
def bankWords : Nat := 3152

/-- The stale flag of a path: a cause of R295, or adaptation that has stopped with the firmware (R26). -/
def State.dpdStale (s : State) (p : Nat) : Bool := decide ((s.dpd p).stale ≠ 0) || (s.ctl.governedStale && rbit s .dpdCtrl [p / 8, p % 8] 0)

/-- A stale cause of a path set or cleared; DPD_STALE when the flag goes from 0 to 1 (R295). -/
def setStale (s : State) (p cause : Nat) (b : Bool) : State :=
  let x := s.dpd p
  let v := setBits x.stale cause cause (b2n b)
  let s1 := markIf (s.setDpd p { x with stale := v }) (markKey 7 p) (decide (v ≠ 0))
  if x.stale = 0 ∧ v ≠ 0 then raise s1 81 NA p else s1

/-- A path returns from erg repair: its unit is GOOD with the set that it held, stale until a new set passes probation (R288; which set that is
when the repair fell into a ramp or a probation, the manual leaves open: the incoming one, DESIGN CHOICE, assumption 114). -/
def dpdReturns (s : State) (p : Nat) : State :=
  setStale (s.setDpd p { s.dpd p with st := .good, due := .none_, checking := none, locked := false, second := false, overN := 0 }) p 4 true

/-- A path becomes pending for best-effort adaptation (R292). -/
def makePending (s : State) (p : Nat) : State :=
  if spGet 0 s.disp.pending p = 0 then
    { s with disp := { s.disp with pending := spPut 0 s.disp.pending p (s.clk.elapsed + 1) } }
  else s

/-- A path is stale and pending for a cause of R290 or R295 that R292 names. -/
def staleAndPending (s : State) (p cause : Nat) : State := makePending (setStale s p cause true) p

/-- The limiter level against SCALE: more than 0.5 dB apart (R290). -/
def scaleOff (scale lvl : Nat) : Bool :=
  let r := pow10 50
  decide (lvl * lvl * r < scale * scale * 2 ^ fxBits) || decide (scale * scale * r < lvl * lvl * 2 ^ fxBits)

/-! ## Thermal state (R274, R275) -/

/-- One update from the means over 512 ticks: `msq` of |x|² and `mabs` of |x|, both in 2⁻³⁰. -/
def thermalUpdate (s : State) (p msq mabs : Nat) : State :=
  let x := s.dpd p
  let ix := [p / 8, p % 8]
  let t0w := rd s .dpdThm0 ix
  let t1w := rd s .dpdThm1 ix
  let cobs := rf s .dpdThm2 ix 15 0
  let pfs := pow10 (s.pFs p)
  -- P_out in 2⁻²⁴ W: COBS 2⁻¹⁴ · P_FS mW / 1000 · mean |x|² 2⁻³⁰
  let pout : Int := (cobs * pfs * msq * 2 ^ 24 / (1000 * 2 ^ 14 * 2 ^ 30 * 2 ^ fxBits) : Nat)
  -- V_DD mV · I_D mA, in 2⁻²⁴ W
  let pin : Int := (bitsOf t1w 31 16 * (bitsOf t1w 47 32 * 2 ^ 30 + bitsOf t1w 63 48 * mabs) / (1000000 * 2 ^ 6) : Nat)
  let pd := max 0 (pin - pout)
  let upd (t : Int) (a r : Nat) : Int := t + (a : Int) * ((r : Int) * pd / 1000 - t) / 2 ^ 24
  let n0 := upd x.t0 (bitsOf t0w 23 0) (bitsOf t0w 39 24)
  let n1 := upd x.t1 (bitsOf t0w 63 40) (bitsOf t1w 15 0)
  let th := x.tmod * 2 ^ 18 + n0 + n1
  let s1 := s.setDpd p { x with t0 := n0, t1 := n1, theta := th }
  let far := decide (32 * 2 ^ 24 < (th - x.thetaRef x.bank * 2 ^ 18).natAbs) && ¬ x.ident
  if far then (if bitOf x.stale 3 then s1 else setStale s1 p 3 true) else setStale s1 p 3 false

/-! ## Banks and hand-over (R278 to R282) -/

/-- The path, bank and word of an address in a bank window. -/
def bankAddr (a : Nat) : Option (Nat × Nat × Nat) :=
  if 0x1000000000 ≤ a ∧ a < 0x1008000000 then
    let c := (a - 0x1000000000) / 0x1000000
    let o := (a - 0x1000000000) % 0x1000000
    if 0xA00000 ≤ o ∧ o < 0xA80000 then
      let k := (o - 0xA00000) / 0x10000
      let q := (o - 0xA00000) % 0x10000
      if 0x8000 ≤ q ∧ (q - 0x8000) % 0x4000 / 4 < bankWords then some (8 * c + k, (q - 0x8000) / 0x4000, (q - 0x8000) % 0x4000 / 4)
      else none
    else none
  else none

/-- A bank is the shadow and not locked; a write in the cycle of a hand-over request, here its tick, is still performed and checked (R279,
R288). -/
def Dpd.writable (x : Dpd) (b now : Nat) : Bool :=
  decide (b ≠ x.bank) && ¬ x.locked && (x.checking.isNone || decide (x.checking = some now))

/-- The unit of a path that erg repair holds OFF: its state, banks and thermal state stay (R288). -/
def State.dpdHeld (s : State) (p : Nat) : Bool := decide (p ∈ s.bm.held)

/-- A bank write that is not performed (R279). -/
def bankReject (s : State) (p tag : Nat) : State :=
  let s1 := raise (bump s .dpdWrej [p / 8, p % 8]) 83 NA p
  if tag = 4 ∨ tag = 5 then s1 else firewall s1 tag

/-- The shadow bank: the other one than the bank last in force, also while identity is in force and neither holds the set that is (DESIGN CHOICE,
assumption 153). -/
def Dpd.shadow (x : Dpd) : Nat := 1 - x.bank

/-- A hand-over refused (R280). -/
def refuseHo (s : State) (p result : Nat) : State :=
  raise (s.setDpd p { s.dpd p with result := result, checking := none }) 76 NA p

/-- A hand-over requested (R280, R288): BUSY outside IDENTITY and GOOD, after divergence, and while the unit is held.  A request while a check
runs is refused too, and ends that check (DESIGN CHOICE, assumption 154). -/
def requestHo (s : State) (p : Nat) : State :=
  let x := s.dpd p
  if (x.st ≠ .identity ∧ x.st ≠ .good) ∨ x.checking.isSome ∨ x.due ≠ .none_ ∨ s.dpdHeld p then refuseHo s p 2
  else s.setDpd p { x with checking := some s.clk.elapsed }

/-- Magnitude bound of a word's entry in Q13 (R280). -/
def entryBound (i : Nat) : Option Nat :=
  if i < 16 then none
  else if i < 80 then some 16384
  else if i < 16 + 512 then some 4096
  else some 2048

/-- An entry lies outside its bound, or SCALE is 0. -/
def boundFails (x : Dpd) (b : Nat) : Bool :=
  decide (x.scale b = 0) || (List.range bankWords).any (fun i => match entryBound i with
    | some m => let e := entryIQ (x.word b i); decide ((m : Int) * m < e.re * e.re + e.im * e.im)
    | none => false)

/-- The small-signal gain lies outside GAIN_TOL or PHASE_TOL (R280). -/
def gainFails (s : State) (p : Nat) (x : Dpd) (b : Nat) : Bool :=
  let g := ((List.range 40).map (fun j => entryIQ (x.word b (16 + j * 64)))).foldl cadd ⟨0, 0⟩
  let lim := rd s .dpdLim [p / 8, p % 8]
  let tol := bitsOf lim 31 27
  let ph := bitsOf lim 36 32
  let m := (g.re * g.re + g.im * g.im).toNat * 2 ^ fxBits
  let hi := 2 ^ 26 * pow10 (tol : Int)
  let lo := 2 ^ 26 * pow10 (-(tol : Int))
  decide (hi < m) || decide (m < lo) || decide (g.re ≤ 0) ||
    decide (g.re * fxSinDeg (10 * ph) < (g.im.natAbs : Int) * fxCosDeg (10 * ph))

/-- The mean of the last counted windows. -/
def histMean (l : List Int) : Int := meanI l

/-- The check of a hand-over ends: accepted into RAMP, or refused (R280, R281, R285); divergence meanwhile makes it BUSY (R288). -/
def hoCheckDone (s : State) (p : Nat) : State :=
  let x := s.dpd p
  let b := x.shadow
  if (x.st ≠ .identity ∧ x.st ≠ .good) ∨ x.due ≠ .none_ then refuseHo s p 2
  else if boundFails x b then refuseHo s p 3
  else if gainFails s p x b then refuseHo s p 4
  else
    let s1 := s.setDpd p { x with st := .ramp, bank := b, oldIdent := x.ident, ident := false, rampStep := 0,
                                  rampLen := rf s .dpdCtrl [p / 8, p % 8] 10 3, second := false, result := 1, checking := none, locked := true,
                                  eref := histMean x.hist, overN := 0, probSum := 0, probN := 0 }
    setStale s1 p 1 false

/-! ## TX symbol starts (R281) -/

/-- The first TX symbol start at or after a counter value: a symbol boundary of the reference numerology in a D entry. -/
def nextTxStart (s : State) (t : Nat) : Nat := go s 8000 t
where
  /-- Boundary by boundary; without a D entry the last boundary tried. -/
  go (s : State) : Nat → Nat → Nat
    | 0, t => t
    | f + 1, t =>
      let b := nextSymbol s.frameOfs s.refMu s.refEcp t
      match patFind s.pattern 0 0 (patPos s.pattern s.frameOfs b) with
      | some (_, _, e) => if e.dir = 0 then b else go s f (b + 1)
      | none => b

/-- The `n`-th TX symbol start of a path after a counter value (R281): starts at which it was OFF or blanked do not count; none while it is so
and starts are still to come. -/
def nthTxStart (s : State) (p n t : Nat) : Option Nat := go s p 20000 n t
where
  /-- Start by start. -/
  go (s : State) (p : Nat) : Nat → Nat → Nat → Option Nat
    | 0, _, _ => none
    | _, 0, t => some t
    | f + 1, n + 1, t =>
      let b := nextTxStart s (t + 1)
      let e := s.clk.elapsed - (s.now - b)
      if b ≤ s.now then go s p f (if s.marked (markKey 10 p) e (e + 1) then n + 1 else n) b
      else if s.pathState p = .off ∨ (s.pathFe p).blanked then none
      else go s p f n b

/-! ## The divergence monitor's error (R284) -/

/-- Ticks of a window: 4,096 input samples. -/
def windowTicks : Nat := 410

/-- The 47 taps of the monitor's halfband, 17 fraction bits; the manual gives no coefficients. -/
def monitorTaps : List Int := hbTaps 11 ((List.range 12).map (fun i => Config.fixedFilter 9 i / 2 ^ (fxBits - 17)))

/-- Every second sample of `n` outputs of the monitor's halfband in 2⁻¹⁷, newest first; `at_` is how far back the newest lies. -/
def halved (n at_ : Nat) (x : List Cplx) : List Cplx :=
  let y := List.replicate (23 - at_) (⟨0, 0⟩ : Cplx) ++ x.drop (at_ - 23)
  (List.range n).map (fun i => firAcc monitorTaps ((y.drop (2 * i)).take 47))

/-- E_w of a window in 0.1 dB, rounded down, from its observation samples, oldest first, the last taken `age` ticks ago: the input decimated by 2,
LD behind; the observation, which an ORX takes at twice the rate, aligned by the calibrated fractional delay and scaled by the calibrated loop
gain of item 0x13 (R284).  A window in which the input was silent has no ratio: its E_w is free. -/
def windowError (s : State) (p : Nat) (z : List Cplx) (age : Nat) : Int :=
  let ld := s.loopDelay p
  let v := (s.calItem p 0x13).now
  let back := 10 * age + if s.fdd then ld else 2 * ld
  let x := (spGet AirPath.none_ s.air.paths p).x
  let seen := (x.drop (back - 23)).take (4096 + 46)
  if seen.all (fun c => decide (c = (⟨0, 0⟩ : Cplx))) then Config.silentError p s.clk.elapsed
  else
    let xs := halved 2048 back x
    let gain := fxCMul ⟨Config.linearGain (-(v.g.getD 0 0)), 0⟩ (fxUnit (-(phaseTurn (v.ph.getD 0 0))))
    -- ADC codes of 12 bits against Q15, in 2⁻¹⁷
    let raw := (Config.aligned (Int.tmod (v.x.getD 0 0) 1000000) z).reverse
    let zs := if s.fdd then halved 2048 0 raw else (List.range 2048).map (fun i => let c := raw.getD i ⟨0, 0⟩; ⟨c.re * 2 ^ 17, c.im * 2 ^ 17⟩)
    let err := (zs.zip xs).map (fun e =>
      let c := fxCMul ⟨e.1.re * 16, e.1.im * 16⟩ gain
      (⟨c.re - e.2.re, c.im - e.2.im⟩ : Cplx))
    dbFloor (err.map magSq).sum (xs.map magSq).sum / 10

/-- A window whose last observation sample was taken `age` ticks ago counts: the path in TX from its first input sample on, and no observation
sample flagged (R284).  In FDD the samples are those of a visit to the path. -/
def windowCounts (s' : State) (p age : Nat) : Bool :=
  let s := openVisits s'
  let e := s.clk.elapsed - age
  let a := e - windowTicks
  let lead := ceilDiv (s.loopDelay p) (if s.fdd then 10 else 5)
  let k := if s.fdd then 128 + 2 * (p / 16) else 2 * p
  decide (age ≤ 60) && decide (s.txTicks p (s.now - age) (windowTicks + lead) = windowTicks + lead) && ¬ s.marked (markKey 11 p) (a - lead) e &&
    ¬ convMirage s k a e && ¬ convMirage s (k + 1) a e &&
    (if s.fdd then
      ¬ s.txUnlocked p a e && [2 * p, 2 * p + 1].any (fun b =>
        let x := s.buf b
        decide (64 ≤ x.staging) && decide (x.path = p) && decide (x.st ≠ .free) && decide (x.opened ≤ a) && decide (e ≤ captureEnd x))
     else ¬ s.rxUnlocked p a e)

/-! ## Divergence (R285) -/

/-- Probation, the ramps and the monitor of a path (R282 to R287): divergence of the state it is in. -/
def divergence (s : State) (p : Nat) : State :=
  let x := s.dpd p
  match x.st with
  | .ramp => s.setDpd p { x with due := .fallback, overN := 0 }
  | .probation => s.setDpd p { x with due := if x.second then .identity else .fallback, overN := 0 }
  | .good | .fallback => s.setDpd p { x with due := .identity, overN := 0 }
  | .identity | .backoffRamp => s.setDpd p { x with overN := 0 }

/-- The bound of the state in force, 0.1 dB (R285). -/
def divBound (s : State) (p : Nat) : Int :=
  let x := s.dpd p
  let lim := rd s .dpdLim [p / 8, p % 8]
  let abs := 5 * toSigned 8 (bitsOf lim 23 16)
  match x.st with
  | .ramp | .probation => min (x.eref + 5 * bitsOf lim 15 10) abs
  | _ => abs

/-- A counted window (R284, R285, R292). -/
def countWindow (s : State) (p : Nat) (ew : Int) : State :=
  let x := s.dpd p
  let lim := rd s .dpdLim [p / 8, p % 8]
  let n := bitsOf lim 26 24
  let overN := if divBound s p < ew then x.overN + 1 else 0
  let hist := (ew :: x.hist).take 64
  let s1 := s.setDpd p { x with ew := ew, hist := hist, overN := overN,
                                wins := if x.st = .fallback then x.wins + 1 else x.wins,
                                probSum := if x.st = .probation then x.probSum + ew else x.probSum,
                                probN := if x.st = .probation then x.probN + 1 else x.probN }
  let th : Int := 5 * toSigned 8 (bitsOf lim 44 37)
  let s2 := if 16 ≤ hist.length ∧ 16 * th < (hist.take 16).sum then makePending s1 p else s1
  if n ≤ overN ∧ x.due = .none_ then divergence s2 p else s2

/-! ## Adaptation jobs (R292 to R294) -/

/-- A capture buffer is held by the control cores' set (R449, R450). -/
def bufHeld (s : State) (b : Nat) : Bool :=
  match s.mem.lock with
  | some l => decide (l.buf = some b)
  | none => false

/-- A capture a job may use: newest FULL of the path's pair, taken after the request, long enough, unflagged, with the bank in
force (R294). -/
def jobCapture (s : State) (p request : Nat) : Option Nat :=
  let ok (b : Nat) : Bool :=
    let x := s.buf b
    let r := rd s .capStat [p / 8, b]
    decide (x.st = .full) && ¬ bufHeld s b && decide (request < x.opened) && decide (4096 ≤ bitsOf r 79 64) && ¬ bitOf r 98 && ¬ bitOf r 97
      && ¬ bitOf r 99 && ¬ bitOf r 93 && decide (bitsOf r 92 92 = (s.dpd p).bank)
  match ok (2 * p), ok (2 * p + 1) with
  | true, true => if (s.buf (2 * p)).opened < (s.buf (2 * p + 1)).opened then some (2 * p + 1) else some (2 * p)
  | true, false => some (2 * p)
  | false, true => some (2 * p + 1)
  | false, false => none

/-- A capture requested for a job: in TDD into the FREE buffer of the pair, in FDD by a best-effort visit (R294). -/
def jobRequestCapture (s : State) (p : Nat) : State :=
  if s.fdd then
    let r := p / 16
    if rbit s .orxCtrl [2 * r] 0 ∧ (s.orx r).running.isNone ∧ (s.orx r).waiting.isNone ∧ ¬ (s.orx r).failed then
      startVisit s r p 8192 true
    else s
  else
    let b := if (s.buf (2 * p)).st = .free then 2 * p else 2 * p + 1
    if (s.buf b).st = .free ∧ s.tlRuns then
      openCapture (reachCount s (nextTxStart s (s.now + 64))) p p b 8192 0
    else s

/-- The round ends when no pending path is left unserved in it, and the next begins (R293). -/
def endRound (s : State) : State :=
  if s.disp.pending.all (fun x => x.1 ∈ s.disp.served) then { s with disp := { s.disp with served := [], round := ¬ s.disp.round } } else s

/-- The pending path to serve: not served in the round, highest latest E_w, lower number on ties (R293). -/
def hottest (s : State) : Option Nat :=
  let cand := (s.disp.pending.map (·.1)).filter (· ∉ s.disp.served)
  cand.foldl (fun b p => match b with
    | none => some p
    | some q => if (s.dpd q).ew < (s.dpd p).ew then some p else some q) none

end Sys2Proof.Machine
end

