-- ==== Sys2Proof/Machine/HkOps.lean ====
section
/-! DEFINITION. Bias channels, the drain interlock, monitors, sensors and fans (chapter 15). -/

namespace Sys2Proof.Machine

/-! ## Records -/

/-- A bias channel. -/
def State.bias (s : State) (c : Nat) : Bias := spGet Bias.reset s.hk.ch c
/-- A bias channel set. -/
def State.setBias (s : State) (c : Nat) (x : Bias) : State := { s with hk := { s.hk with ch := spPut Bias.reset s.hk.ch c x } }
/-- A monitor converter. -/
def State.mon (s : State) (m : Nat) : Mon := spGet Mon.reset s.hk.mon m
/-- A monitor converter set. -/
def State.setMon (s : State) (m : Nat) (x : Mon) : State := { s with hk := { s.hk with mon := spPut Mon.reset s.hk.mon m x } }
/-- An amplifier's models. -/
def State.amp (s : State) (a : Nat) : Amp := spGet Amp.reset s.hk.amp a
/-- An amplifier's models set. -/
def State.setAmp (s : State) (a : Nat) (x : Amp) : State := { s with hk := { s.hk with amp := spPut Amp.reset s.hk.amp a x } }
/-- A fan output. -/
def State.fan (s : State) (n : Nat) : Fan := spGet Fan.reset s.hk.fan n
/-- A fan output set. -/
def State.setFan (s : State) (n : Nat) (x : Fan) : State := { s with hk := { s.hk with fan := spPut Fan.reset s.hk.fan n x } }

/-! ## Channels (R537 to R541) -/

/-- The role of a channel: 0 UNUSED, 1 GATE, 2 AUX. -/
def State.biasRole (s : State) (c : Nat) : Nat := rf s .bdacChCfg [c] 4 3
/-- The amplifier of a channel. -/
def State.biasAmp (s : State) (c : Nat) : Nat := rf s .bdacChCfg [c] 10 5
/-- The strobe group of a channel. -/
def State.biasGroup (s : State) (c : Nat) : Nat := rf s .bdacChCfg [c] 2 0
/-- The present output code. -/
def State.biasOut (s : State) (c : Nat) : Nat := rf s .bdacChCode [c] 47 32
/-- The channels of an amplifier: those with a role. -/
def State.ampChannels (s : State) (a : Nat) : List Nat :=
  (List.range 128).filter (fun c => s.biasRole c ≠ 0 && decide (s.biasAmp c = a))
/-- The GATE channels of an amplifier. -/
def State.gates (s : State) (a : Nat) : List Nat :=
  (List.range 128).filter (fun c => s.biasRole c = 1 && decide (s.biasAmp c = a))

/-- A code at or beyond pinch-off (R539): at or above PINCH in the gate range, at or below it in the positive range. -/
def beyondPinch (positive : Bool) (pinch code : Nat) : Bool := if positive then code ≤ pinch else pinch ≤ code

/-- The supply of a channel is good (R543, R544): VNEG for the gate range, VPOS for the positive one. -/
def State.biasSupply (s : State) (c : Nat) : Bool := rbit s .bdacStat [] (if rbit s .bdacChCfg [c] 15 then 1 else 0)

/-- An amplifier's fault is latched. -/
def State.ampFaulted (s : State) (a : Nat) : Bool := rbit s .bdacDrnFault [] a

/-- EXTEST, CLAMP or HIGHZ is in force: every DRN_EN is low (R588). -/
def State.scanInForce (s : State) : Bool := decide (s.sec.tapIr = 0x00 ∨ s.sec.tapIr = 0x03 ∨ s.sec.tapIr = 0x04)

/-- The interlock of R544 for an amplifier, beside its request. -/
def State.drainAllowed (s : State) (a : Nat) : Bool :=
  s.gates a ≠ [] && (s.gates a).all (fun c => ¬ (s.bias c).hiZ &&
      beyondPinch (rbit s .bdacChCfg [c] 15) (rf s .bdacChCfg [c] 47 32) (s.biasOut c) && s.biasSupply c)
    && ¬ s.ampFaulted a && decide (s.pwr.depth = 0) && ¬ s.scanInForce

/-- A drain rises: the time for which a channel of it has limited with the drain high starts now (R542). -/
def drainUp (s : State) (a : Nat) : State :=
  (s.ampChannels a).foldl (fun s c => if (s.bias c).lim = 0 then s else s.setBias c { s.bias c with lim := s.clk.elapsed + 1 })
    (wbit s .bdacDrnStat [] a true)

/-- Every drain that is requested and allowed rises; one that is high stays high (R544). -/
def drainRise (s : State) : State :=
  (List.range 64).foldl (fun s a =>
    if rbit s .bdacDrnReq [] a ∧ ¬ rbit s .bdacDrnStat [] a ∧ s.drainAllowed a then drainUp s a else s) s

/-- A drain falls. -/
def drainFall (s : State) (a : Nat) : State := wbit s .bdacDrnStat [] a false

/-- Every drain falls. -/
def allDrainsFall (s : State) : State := wr s .bdacDrnStat [] 0

/-- A channel's output steps to a code at once, its movement over. -/
def outputTo (s : State) (c code : Nat) : State :=
  let s1 := wf (wbit s .bdacChCode [c] 17 false) .bdacChCode [c] 47 32 code
  s1.setBias c { s1.bias c with target := code, hiZ := s1.biasRole c = 0 }

/-- A channel takes its SAFE code in one step, its pending code discarded (R546, R548). -/
def safeCode (s : State) (c : Nat) : State :=
  if s.biasRole c = 0 then s.setBias c { s.bias c with hiZ := true }
  else outputTo (wbit s .bdacChCode [c] 16 false) c (rf s .bdacChCfg [c] 31 16)

/-- SAFE codes due since step 2 of an entry (R513). -/
def safeDue (s : State) : State :=
  match s.hk.safeAll with
  | some t => if t ≤ s.clk.elapsed then (List.range 128).foldl safeCode { s with hk := { s.hk with safeAll := none } } else s
  | none => s

/-- An elapsed tick, plus 1, lies in the present cycle of the housekeeping clock (ten ticks). -/
def State.thisHkCycle (s : State) (t : Nat) : Bool := decide (t ≠ 0) && decide ((t - 1) / 10 = s.clk.elapsed / 10)

/-- What a strobe sees of a channel's CODE, PEND above it: the input register as it stood before a write of the same cycle (R547). -/
def State.codeSeen (s : State) (c : Nat) : Nat := if s.thisHkCycle (s.bias c).wrote then (s.bias c).old else rf s .bdacChCode [c] 16 0

/-- A load strobe of one group (R540, R541, R546, R547): the input registers with PEND become the targets; a write of the same cycle stays
pending; channels of a faulted amplifier do not act. -/
def strobeGroup (s : State) (g : Nat) : State :=
  let s1 := (List.range 128).foldl (fun s c =>
    let seen := s.codeSeen c
    if s.biasGroup c = g ∧ bitOf seen 16 ∧ s.biasRole c ≠ 0 ∧ ¬ s.ampFaulted (s.biasAmp c) then
      let t := seen % 2 ^ 16
      let s0 := s.setBias c { s.bias c with struck := s.clk.elapsed + 1, word := rd s .bdacChCode [c], aim := (s.bias c).target, old := t }
      let s1 := if s.thisHkCycle (s.bias c).wrote then s0 else wbit s0 .bdacChCode [c] 16 false
      let x := s1.bias c
      if rf s1 .bdacChCfg [c] 14 11 = 0 ∨ s1.biasOut c = t then outputTo s1 c t
      else if rbit s1 .bdacChCode [c] 17 then s1.setBias c { x with target := t }
      else (wbit s1 .bdacChCode [c] 17 true).setBias c { x with target := t, from_ := s1.clk.elapsed, steps := 0 }
    else s) s
  let s2 := [0, 1].foldl (fun s m =>
    if rf s .monCtrl [m] 3 1 = 4 ∧ rf s .monCtrl [m] 7 5 = g then s.setMon m { s.mon m with strobed := true } else s) s1
  drainRise s2

/-- A strobe of every group in a mask, one load per group (R540, R547). -/
def strobeMask (s : State) (mask : Nat) : State :=
  (List.range 8).foldl (fun s g => if bitOf mask g then strobeGroup s g else s) s

/-- A write of CODE: the input register, and PEND (R540); what stood before the cycle's first write is kept for its strobes (R547). -/
def codeWrite (s : State) (c v : Nat) : State :=
  let x := s.bias c
  let s1 := s.setBias c (if s.thisHkCycle x.wrote then x else { x with wrote := s.clk.elapsed + 1, old := rf s .bdacChCode [c] 16 0 })
  wbit (wf s1 .bdacChCode [c] 15 0 v) .bdacChCode [c] 16 true

/-- The fault acts on a channel: a strobe of the same cycle is ignored, its output and target as before it, and the pending code is
discarded (R547). -/
def strobeUndone (s : State) (c : Nat) : State :=
  let x := s.bias c
  if s.thisHkCycle x.struck then
    wr (s.setBias c { x with target := x.aim, struck := 0 }) .bdacChCode [c] (setBits x.word 16 16 0)
  else s

/-- One step of a slewing output: 2^(SLEW - 1) codes toward the target, the `n`th step `n` µs after the movement began (R541). -/
def outputStep (s : State) (c : Nat) : State :=
  if rbit s .bdacChCode [c] 17 then
    let x := s.bias c
    let s1 := reachElapsed s (x.from_ + (x.steps + 1) * 49152 / 100)
    let n := rf s1 .bdacChCfg [c] 14 11
    let d := if n = 0 then 65536 else 2 ^ (n - 1)
    let o := s1.biasOut c
    let o' := if o < x.target then min x.target (o + d) else max x.target (o - d)
    let s2 := wf s1 .bdacChCode [c] 47 32 o'
    drainRise ((wbit s2 .bdacChCode [c] 17 (decide (o' ≠ x.target))).setBias c { x with steps := x.steps + 1 })
  else s

/-! ## Amplifier faults (R542 to R547) -/

/-- An amplifier fault: the drain goes low, the fault latches, the request clears, the path's analogue is declared failed, and the
SAFE codes follow 10 ms later (R546). -/
def ampFault (s : State) (a cause : Nat) : State :=
  if s.ampFaulted a then s
  else
    let s0 := (s.ampChannels a).foldl strobeUndone s
    let s1 := wbit (setFlag (drainFall s0 a) .bdacDrnFault [] a) .bdacDrnReq [] a false
    let s2 := raise { s1 with hk := { s1.hk with safeAt := spPut 0 s1.hk.safeAt a (s1.clk.elapsed + 1) } } 193 a cause
    failPath s2 a

/-- A cause of an amplifier fault that is still present (R547): a short held 64 µs with the drain high, a limit entry outside its
window, or T_MOD above TMAX with HOT_ACT. -/
def faultCause (s : State) (a : Nat) : Option Nat :=
  let short := (s.ampChannels a).any (fun c =>
    decide ((s.bias c).lim ≠ 0 ∧ (s.bias c).lim + 31457 ≤ s.clk.elapsed + 1) && rbit s .bdacDrnStat [] a)
  let limit := [0, 1].any (fun m => (s.mon m).out.any (fun e =>
    decide (rf s .monSeq [m, e] 34 29 = a) && rbit s .monLim [m, e] 32 && rbit s .monLim [m, e] 33))
  if short then some 0 else if limit then some 2
  else if (s.amp a).hot ∧ rbit s .thmAmpCfg [a] 3 then some 4 else none

/-- A supply falls: every amplifier with its drain high and a GATE channel in the range faults (R543). -/
def supplyLow (s : State) (which : Nat) : State :=
  if rbit s .bdacStat [] which then
    let s1 := raise (wbit s .bdacStat [] which false) 194 which NA
    (List.range 64).foldl (fun s a =>
      if rbit s .bdacDrnStat [] a ∧ (s.gates a).any (fun c => rbit s .bdacChCfg [c] 15 = decide (which = 1)) then ampFault s a 1 else s) s1
  else s

/-- A write of the drain requests: a drain whose request clears falls; those allowed rise (R544); the request of an amplifier that faults
in the same cycle is cleared (R547). -/
def drainRequest (s : State) (v : Nat) : State :=
  let w := (List.range 64).foldl (fun w a => if s.thisHkCycle (spGet 0 s.hk.safeAt a) then setBits w a a 0 else w) v
  let s1 := wr s .bdacDrnReq [] w
  drainRise (wr s1 .bdacDrnStat [] (Nat.land (rd s1 .bdacDrnStat []) (w % 2 ^ 64)))

/-- A write of 1 clears latched faults, but not one that latches in the same tick (R6); a fault whose cause is present latches again
(R547). -/
def faultClear (s : State) (v : Nat) : State :=
  let keep := s.freshMask .bdacDrnFault []
  drainRise ((List.range 64).foldl (fun s a =>
    if bitOf v a ∧ s.ampFaulted a ∧ ¬ bitOf keep a then
      let s1 := wbit s .bdacDrnFault [] a false
      match faultCause s1 a with
      | some cause => ampFault s1 a cause
      | none => s1
    else s) s)

/-! ## Monitors (R549 to R555) -/

/-- A code of R549's inputs. -/
def monInput (c : Nat) : Bool := decide (c ≤ 23 ∨ (32 ≤ c ∧ c ≤ 46))

/-- A sequence entry with an input, gain or rate code that is refused (R549, R550). -/
def monSeqBad (w : Nat) : Bool :=
  ¬ monInput (bitsOf w 5 0) || ¬ monInput (bitsOf w 11 6) || decide (6 ≤ bitsOf w 14 12) || decide (14 ≤ bitsOf w 18 15)

/-- The entry `e` of converter `m` begins. -/
def monEntry (s : State) (m e : Nat) : State :=
  (wf (wbit s .monStat [m] 0 true) .monStat [m] 7 4 e).setMon m { s.mon m with since := s.clk.elapsed }

/-- A trigger (R553): it starts a sequence, is held one deep, or is lost. -/
def monTrigger (s : State) (m : Nat) : State :=
  if ¬ rbit s .monCtrl [m] 0 then s
  else if ¬ rbit s .monStat [m] 0 then monEntry s m 0
  else if ¬ rbit s .monStat [m] 1 then wbit s .monStat [m] 1 true
  else raise (bump (setFlag s .monStat [m] 3) .monLost [m]) 196 m NA

/-- Ticks of an entry: SETTLE × 16 µs and 3 output periods (R550). -/
def monTicks (w : Nat) : Nat :=
  let rate := bitsOf w 18 15
  bitsOf w 26 19 * 16 * 49152 / 100 + 3 * (if rate ≤ 9 then 30720 * 2 ^ rate else 30720000 * 2 ^ (min rate 13 - 10))

/-- T_MOD delivered by a source (R556): raw × TGAIN / 65,536 + TOFS. -/
def deliverTmod (s : State) (a : Nat) (raw : Int) : State :=
  let w := rd s .thmAmpCfg [a]
  let t := raw * (bitsOf w 31 16 : Int) / 1024 + toSigned 16 (w >>> 32)
  wbit (s.setAmp a { s.amp a with tmod := t, at_ := s.clk.elapsed + 1 }) .thmAmpCfg [a] 4 false

/-- Bytes 0 and 1 of a read marked TEMP are the module temperature of a path whose amplifier takes it (R122, R556); `v` holds byte 0
lowest. -/
def moduleTemp (s : State) (p v n : Nat) : State :=
  if p < 64 ∧ rf s .thmAmpCfg [p] 1 0 = 1 ∧ 0 < n then
    deliverTmod s p (toSigned 16 ((v % 256) * 256 + (if 1 < n then v / 256 % 256 else 0)))
  else s

/-- One pair taken by the drain-current fit (R557): I in mA, mean |x| in 2⁻¹⁵. -/
def fitPair (x : Amp) (y xm : Int) : Amp :=
  let add := [1, xm, y, xm * xm, xm * y]
  { x with pairs := x.pairs + 1,
           sums := (List.range 5).map (fun k => x.sums.getD k 0 * 63 / 64 + add.getD k 0 * 2 ^ 64) }

/-- The fit's I_Q and K_I in mA, none while the pairs do not determine a line. -/
def fitValues (x : Amp) : Option (Int × Int) :=
  let g (k : Nat) := x.sums.getD k 0
  let det := g 0 * g 3 - g 1 * g 1
  if det ≤ 0 then none
  else
    let slope := (g 0 * g 4 - g 1 * g 2) * 2 ^ 15 / det
    some ((g 3 * g 2 - g 1 * g 4) / det, slope)

/-- A result reaches the consumer its KIND names (R556, R557). -/
def monConsumer (s : State) (w : Nat) (raw meanAbs : Int) : State :=
  let a := bitsOf w 34 29
  let scl := rd s .thmAmpScl [a]
  match bitsOf w 28 27 with
  | 1 =>
    let im := raw * (bitsOf scl 15 0 : Int) / 65536
    let x := { s.amp a with im := im }
    s.setAmp a (if rbit s .thmAmpCfg [a] 2 then fitPair x im meanAbs else x)
  | 2 => s.setAmp a { s.amp a with vm := raw * (bitsOf scl 31 16 : Int) / 65536 }
  | 3 => if rf s .thmAmpCfg [a] 1 0 = 2 then deliverTmod s a raw else s
  | _ => s

/-- MONm_DATA takes a result (R551, R552). -/
def monDeliver (s : State) (m e v : Nat) (single : Bool) : State :=
  let s1 := if rbit s .monData [m] 36 then raise (setFlag s .monStat [m] 2) 195 m e else s
  let val := if rbit s1 .monCtrl [m] 4 then v * 256 else if single then v else ofSigned 32 (toSigned 24 v)
  wr s1 .monData [m] (val + e * 2 ^ 32 + 2 ^ 36)

/-- A sequence's last entry is done: a held trigger, or the continuous setting, starts the next (R553). -/
def monEnd (s : State) (m : Nat) : State :=
  let s1 := wbit s .monStat [m] 0 false
  if rbit s1 .monStat [m] 1 then monEntry (wbit s1 .monStat [m] 1 false) m 0
  else if rf s1 .monCtrl [m] 3 1 = 3 ∧ rbit s1 .monCtrl [m] 0 then monEntry s1 m 0
  else s1

/-- An entry's result (R550 to R554, R557). -/
def monResult (s : State) (m : Nat) (result meanAbs : Int) : State :=
  if rbit s .monStat [m] 0 then
    let e := rf s .monStat [m] 7 4
    let w := rd s .monSeq [m, e]
    let s0 := reachElapsed s ((s.mon m).since + monTicks w)
    let v := ofSigned 24 result
    let raw := toSigned 16 (v >>> 8)
    let s1 := if bitOf w 35 then s0 else monDeliver s0 m e v (decide (bitsOf w 11 6 = 32))
    let s2 := monConsumer s1 w raw meanAbs
    let l := rd s2 .monLim [m, e]
    let bad := bitOf l 32 && (decide (raw < toSigned 16 l) || decide (toSigned 16 (l >>> 16) < raw))
    let x := s2.mon m
    let s3 := s2.setMon m { x with out := if bad ∧ bitOf l 33 then setIns e x.out else x.out.filter (· ≠ e) }
    let s4 := if bad then
        let r := raise s3 198 (e + 16 * m) (bitsOf w 34 29)
        if bitOf l 33 then ampFault r (bitsOf w 34 29) 2 else r
      else s3
    if rf s4 .monCtrl [m] 19 16 ≤ e then monEnd s4 m else monEntry s4 m (e + 1)
  else s

/-- The shared channel's two results are compared (R555): TOL in ppm of full scale; code 33 against AGND is single-ended. -/
def sharedResults (s : State) (a b : Int) : State :=
  let tol := rf s .monShared [] 31 16
  if (2 ^ 24 : Int) * tol < ((a - b).natAbs : Int) * 1000000 then
    raise (wbit s .monShared [] 32 true) 197 NA NA
  else wbit s .monShared [] 32 false

/-! ## Sensors and throttling (R559 to R564, R658) -/

/-- The neighbours of a sensor in ascending order (R658). -/
def neighbours (x : Nat) : List Nat :=
  if x < 64 then
    (if 8 ≤ x then [x - 8] else []) ++ (if x % 8 ≠ 0 then [x - 1] else []) ++ (if x % 8 ≠ 7 then [x + 1] else [])
      ++ (if x + 8 < 64 then [x + 8] else [])
  else if x < 68 then [64, 65, 66, 67].filter (· ≠ x)
  else if x < 72 then [68, 69, 70, 71].filter (· ≠ x)
  else if x < 78 then [72, 73, 74, 75, 76, 77].filter (· ≠ x)
  else if x < 82 then [78, 79, 80, 81].filter (· ≠ x)
  else if x < 90 then
    (if 86 ≤ x then [x - 4] else []) ++ (if x ≠ 82 ∧ x ≠ 86 then [x - 1] else []) ++ (if x ≠ 85 ∧ x ≠ 89 then [x + 1] else [])
      ++ (if x < 86 then [x + 4] else [])
  else match x with
    | 90 => [91, 92]
    | 91 => [90, 92, 93]
    | 92 => [90, 91]
    | 93 => [91, 94, 95]
    | 94 => [93, 95]
    | _ => [93, 94]

/-- An integer put in its place in an ascending list. -/
def insInt (x : Int) : List Int → List Int
  | [] => [x]
  | y :: t => if x ≤ y then x :: y :: t else y :: insInt x t

/-- The median of a list of readings; with an even count the mean of the two middle ones, rounded down. -/
def median (l : List Int) : Option Int :=
  let a := l.foldl (fun a x => insInt x a) []
  let n := a.length
  if n = 0 then none
  else if n % 2 = 1 then a[n / 2]?
  else some ((a.getD (n / 2 - 1) 0 + a.getD (n / 2) 0) / 2)

/-- T_throttle in 1/64 °C. -/
def State.tThrottle (s : State) : Int := toSigned 16 (rf s .thmCtrl [] 15 0)

/-- One sensor of a round (R560): `valid` are the sensors valid at the round's start. -/
def senseOne (valid : List Nat) (readings : List Int) (stopped : List Nat) (s : State) (x : Nat) : State :=
  let r := readings.getD x 0
  let nb := (neighbours x).filter (· ∈ valid)
  let med := (median (nb.map (fun i => readings.getD i 0))).getD 0
  let wasValid := decide (x ∈ valid)
  let outside := decide (x ∈ stopped) || decide (r < -55 * 64) || decide (150 * 64 < r)
  let far := decide (2 ≤ nb.length) && decide (512 < (r - med).natAbs)
  let near := ¬ outside && nb ≠ [] && decide ((r - med).natAbs ≤ 256)
  let good := if wasValid then 0 else if near then spGet 0 s.hk.good x + 1 else 0
  let nowValid := if wasValid then ¬ (outside || far) else decide (1000 ≤ good)
  let s1 := { s with hk := { s.hk with good := spPut 0 s.hk.good x (if nowValid then 0 else good) } }
  let s2 := if nowValid then wr s1 .thmSens [x] (ofSigned 16 r)
    else if 2 ≤ nb.length then wr s1 .thmSens [x] (ofSigned 16 med + 2 ^ 16)
    else wr s1 .thmSens [x] (ofSigned 16 s1.tThrottle + 2 * 2 ^ 16)
  let s3 := if x < 64 then wbit s2 .thmBroken0 [] x (¬ nowValid) else wbit s2 .thmBroken1 [] (x - 64) (¬ nowValid)
  if wasValid ∧ ¬ nowValid then raise s3 199 x NA
  else if ¬ wasValid ∧ nowValid then raise s3 200 x NA
  else s3

/-- The reported value of a sensor. -/
def State.sensor (s : State) (x : Nat) : Int := toSigned 16 (rf s .thmSens [x] 15 0)

/-- T_die of the round, and the first sensor that gives it. -/
def dieTemp (s : State) : Int × Nat :=
  (List.range 96).foldl (fun (m : Int × Nat) x => if m.1 < s.sensor x then (s.sensor x, x) else m) (s.sensor 0, 0)

/-- The throttle level: it rises to the highest threshold reached, and falls one level after 100 rounds below the present one's
threshold less 2 °C (R562). -/
def throttle (s : State) (t : Int) : State :=
  let old := rf s .thmStat [] 17 16
  let thr (l : Nat) : Int := s.tThrottle + 128 * ((l : Int) - 1)
  let up := if thr 3 ≤ t then 3 else if thr 2 ≤ t then 2 else if thr 1 ≤ t then 1 else 0
  if old < up then raise (wf { s with hk := { s.hk with cool := 0 } } .thmStat [] 17 16 up) 201 up old
  else if 0 < old ∧ t < thr old - 128 then
    if 99 ≤ s.hk.cool then raise (wf { s with hk := { s.hk with cool := 0 } } .thmStat [] 17 16 (old - 1)) 201 (old - 1) old
    else { s with hk := { s.hk with cool := s.hk.cool + 1 } }
  else { s with hk := { s.hk with cool := 0 } }

/-- The round delivers T_MOD and the fit of an amplifier (R556 to R558). -/
def ampRound (s : State) (a : Nat) : State :=
  let w := rd s .thmAmpCfg [a]
  let src := bitsOf w 1 0
  let s1 := if src = 0 ∨ src = 3 then s.setAmp a { s.amp a with tmod := s.sensor a, at_ := s.clk.elapsed + 1 } else s
  let x := s1.amp a
  let stale := decide (src = 1 ∨ src = 2) && decide (x.at_ + 100 * msTicks ≤ s1.clk.elapsed + 1)
  let s2 := wbit s1 .thmAmpCfg [a] 4 stale
  let s3 := s2.setDpd a { s2.dpd a with tmod := x.tmod }
  let hot := decide (toSigned 16 (w >>> 48) < x.tmod)
  let s4 := s3.setAmp a { x with hot := hot }
  let s5 := if hot ∧ ¬ x.hot then
      let r := raise s4 206 a NA
      if bitOf w 3 then ampFault r a 4 else r
    else s4
  if bitOf w 2 ∧ 16 ≤ x.pairs then
    let ix := [a / 8, a % 8]
    match fitValues x with
    | some (iq, ki) => wf (wf (wf s5 .dpdThm1 ix 47 32 (ofSigned 16 iq)) .dpdThm1 ix 63 48 (ofSigned 16 ki)) .dpdThm1 ix 31 16 (ofSigned 16 x.vm)
    | none =>
      -- the pairs fix no line: the manual states no fit for them
      let (iq, s6) := draw s5 65536
      let (ki, s7) := draw s6 65536
      wf (wf (wf s7 .dpdThm1 ix 47 32 iq) .dpdThm1 ix 63 48 ki) .dpdThm1 ix 31 16 (ofSigned 16 x.vm)
  else s5

/-! ## Fans (R565 to R567) -/

/-- The duty in force and the override of an output (R565, R566). -/
def fanDuty (s : State) (n : Nat) : Nat × Bool :=
  let w := rd s .thmPwmCfg [n]
  let lim (d : Nat) : Nat := min (max d (bitsOf w 13 4)) (bitsOf w 23 14)
  let level := rf s .thmStat [] 17 16
  let tdie := toSigned 16 (rf s .thmStat [] 15 0)
  match bitsOf w 1 0 with
  | 1 =>
    if 1 ≤ level then (bitsOf w 23 14, true)
    else if rbit s .thmPwmDuty [n] 21 then (bitsOf w 33 24, false)
    else (lim (rf s .thmPwmDuty [n] 9 0), false)
  | 2 =>
    if 1 ≤ level ∨ toSigned 16 (rf s .thmCtrl [] 47 32) < tdie then (0, true)
    else if rbit s .thmPwmDuty [n] 21 then (bitsOf w 33 24, false)
    else (lim (rf s .thmPwmDuty [n] 9 0), false)
  | _ => (0, false)

/-- The output takes its duty. -/
def fanUpdate (s : State) (n : Nat) : State :=
  let (d, o) := fanDuty s n
  let s1 := if rf s .thmPwmDuty [n] 19 10 = 0 ∧ d ≠ 0 then s.setFan n { s.fan n with rose := s.clk.elapsed } else s
  wbit (wf s1 .thmPwmDuty [n] 19 10 d) .thmPwmDuty [n] 20 o

/-- The watchdog of an output (R566): FAN_WDOG seconds without a write of DUTY. -/
def fanWatchdog (s : State) (n : Nat) : State :=
  let w := max 1 (rf s .thmCtrl [] 31 24)
  let role := rf s .thmPwmCfg [n] 1 0
  if (role = 1 ∨ role = 2) ∧ ¬ rbit s .thmPwmDuty [n] 21 ∧ (s.fan n).wrote + w * secTicks ≤ s.clk.elapsed then
    fanUpdate (raise (wbit s .thmPwmDuty [n] 21 true) 205 n NA) n
  else s

/-- A write of DUTY ends the fail-safe (R566). -/
def dutyWritten (s : State) (n : Nat) : State :=
  fanUpdate (wbit (s.setFan n { s.fan n with wrote := s.clk.elapsed }) .thmPwmDuty [n] 21 false) n

/-- The time from which a missing edge is a stall (R567): 3 s after the duty rose, then 1 s with no edge. -/
def stallAt (s : State) (n : Nat) : Nat :=
  max ((s.fan n).rose + 3 * secTicks) ((s.fan n).edge - 1) + secTicks

/-- A fan shows a stall (R567). -/
def fanStall (s : State) (n : Nat) : State :=
  if rf s .thmPwmCfg [n] 1 0 = 1 ∧ 1 ≤ rf s .thmPwmDuty [n] 19 10 ∧ ¬ rbit s .thmTach [n] 24 ∧ stallAt s n ≤ s.clk.elapsed then
    raise (setFlag s .thmTach [n] 24) 204 n NA
  else s

/-! ## The core voltage (R627) -/

/-- VDD_CORE is measured: off VTARGET by more than 25 mV for 1,000 consecutive rounds sets MISMATCH. -/
def coreVoltage (s : State) (mv : Nat) : State :=
  let s1 := wf s .pwrAvs [] 25 16 mv
  let vt := rf s1 .pwrAvs [] 9 0
  if vt + 25 < mv % 1024 ∨ mv % 1024 + 25 < vt then
    let n := s1.hk.avs + 1
    let s2 := { s1 with hk := { s1.hk with avs := n } }
    if n = 1000 then raise (wbit s2 .pwrAvs [] 10 true) 207 (mv % 1024) vt else s2
  else { s1 with hk := { s1.hk with avs := 0 } }

end Sys2Proof.Machine
end

