-- ==== Sys2Proof/Machine/GeOps.lean ====
section
/-! DEFINITION. The Gulas engines (chapter 9): registers, pipeline, bundles, jobs, transfers. -/

namespace Sys2Proof.Machine

/-- An engine. -/
def State.eng (s : State) (e : Nat) : Eng := spGet Eng.reset s.ge.eng e
/-- An engine set. -/
def State.setEng (s : State) (e : Nat) (x : Eng) : State := { s with ge := { s.ge with eng := spPut Eng.reset s.ge.eng e x } }

/-! ## Registers (R298) -/

/-- The width of a register code. -/
def codeBits (c : Nat) : Nat := if c < 24 then 18 else if c < 26 then 16 else if c < 30 then 13 else 32
/-- A D register. -/
def Eng.dr (x : Eng) (i : Nat) : Nat := spGet 0 x.d (i % 32)
/-- An accumulator. -/
def Eng.ac (x : Eng) (k : Nat) : Cplx := spGet ⟨0, 0⟩ x.acc (k % 4)
/-- A register by its code; BX reads HR 15 before its first change. -/
def Eng.cr (x : Eng) (c : Nat) : Nat := spGet (if c = 31 then 15 else 0) x.ctl c
/-- A register by its code set, cut to its width; the reserved bits of SW and BX stay 0. -/
def Eng.setCr (x : Eng) (c v : Nat) : Eng :=
  let w := if c = 30 then v % 2 ^ 12 else if c = 31 then bitsOf v 31 16 * 2 ^ 16 + v % 16 else v % 2 ^ codeBits c
  { x with ctl := spPut (if c = 31 then 15 else 0) x.ctl c w }
/-- SW. -/
def Eng.sw (x : Eng) : Nat := x.cr 30
/-- BX. -/
def Eng.bx (x : Eng) : Nat := x.cr 31
/-- A complex register's parts. -/
def cOf (w : Nat) : Cplx := ⟨toSigned 16 w, toSigned 16 (w >>> 16)⟩
/-- The word of two parts. -/
def wordOf (c : Cplx) : Nat := ofSigned 16 c.re + ofSigned 16 c.im * 2 ^ 16
/-- Both parts fit 16 bits. -/
def fits16 (c : Cplx) : Bool := decide (-32768 ≤ c.re ∧ c.re ≤ 32767 ∧ -32768 ≤ c.im ∧ c.im ≤ 32767)
/-- An accumulator part keeps its low 40 bits. -/
def acc40 (c : Cplx) : Cplx := ⟨toSigned 40 (ofSigned 40 c.re), toSigned 40 (ofSigned 40 c.im)⟩

/-- A result written to its register. -/
def Eng.land (x : Eng) (f : Flight) : Eng :=
  match f.val with
  | .num v => if f.key < 32 then { x with d := spPut 0 x.d f.key (v % 2 ^ 32) }
              else if 64 ≤ f.key then x.setCr (f.key - 64) v else x
  | .acc c => { x with acc := spPut ⟨0, 0⟩ x.acc (f.key - 32) c }
  | .flags m => x.setCr 30 (Nat.lor x.sw m)
  | .sw hi lo v => x.setCr 30 (setBits x.sw hi lo v)
  | .be v => x.setCr 31 (setBits x.bx 31 16 (bitsOf x.bx 31 16 + v))
  | .hr15 => x.setCr 31 (setBits x.bx 3 0 15)

/-- Every result in flight is written (R318, R330). -/
def Eng.drain (x : Eng) : Eng := { x.flight.foldl Eng.land x with flight := [] }

/-- The results that bundle `issue` sees are written, in order of issue (R306, R309). -/
def Eng.landDue (x : Eng) : Eng :=
  let x1 := (x.flight.filter (fun f => f.due ≤ x.issue)).foldl Eng.land x
  { x1 with flight := x.flight.filter (fun f => x.issue < f.due) }

/-! ## Data memory -/

/-- Bytes of data memory, least significant first. -/
def Eng.load (x : Eng) (a n : Nat) : Nat := leNum ((List.range n).map (fun i => spGet 0 x.dmem ((a + i) % 2 ^ 18)))
/-- Bytes stored. -/
def Eng.store (x : Eng) (a : Nat) (b : List Byte) : Eng :=
  { x with dmem := (b.zip (List.range b.length)).foldl (fun m p => spPut 0 m ((a + p.2) % 2 ^ 18) p.1) x.dmem }

/-! ## Exponents (R313, R315) -/

/-- Bits after the sign bit that equal it, of a value of `n` bits. -/
def signRun (n : Nat) (v : Int) : Nat :=
  let m : Nat := if v < 0 then (-v - 1).toNat else v.toNat
  (n - 1) - (if m = 0 then 0 else Nat.log2 m + 1)

/-- EXP of a word. -/
def expWord (w : Nat) : Nat := min (signRun 16 (cOf w).re) (signRun 16 (cOf w).im)
/-- r - 9 of an accumulator. -/
def expAcc (c : Cplx) : Int := (min (signRun 40 c.re) (signRun 40 c.im) : Nat) - 9

/-! ## Job ends (R330 to R332) -/

/-- The registers of a job's start (R298, R329). -/
def Eng.clearRegs (x : Eng) : Eng :=
  { x with d := [], acc := [], ctl := [], ira := 0, rstack := [], flight := [], bundle := Bundle.empty, pc := 0, irq := 0,
           preemptAt := none, inPreempt := false }

/-- The completion record of a job (GE_CPL). -/
def cplWord (j : Job) (result : Nat) (miss : Bool) (tick : Nat) : Nat :=
  j.id % 2 ^ 16 + j.slot % 16 * 2 ^ 16 + j.cls % 8 * 2 ^ 20 + 2 ^ 23 + result % 256 * 2 ^ 24
    + min j.cycles (2 ^ 31 - 1) * 2 ^ 32 + b2n miss * 2 ^ 63 + tick % 2 ^ 64 * 2 ^ 64

/-- A job's record goes where it belongs (R330). -/
def deliverCpl (s : State) (e : Nat) (j : Job) (result : Nat) (miss : Bool) : State :=
  match j.src with
  | .firmware | .release =>
    let x := s.eng e
    let w := cplWord j result miss s.now
    if x.cpl.length < 16 then s.setEng e { x with cpl := x.cpl ++ [w] }
    else raise (s.setEng e { x with cpl := x.cpl.drop 1 ++ [w] }) 99 e NA
  | .dispatcher => { s with disp := { s.disp with jobs := s.disp.jobs.filter (fun d => d.path ≠ j.arg) } }
  | .erg => s

/-- A job has ended with a result: its record, the engine's counts, and the events of a fault and of a missed deadline (R330, R332). -/
def jobEnded (s : State) (e : Nat) (j : Job) (result : Nat) : State :=
  let miss := decide (j.cls = 0) && decide (j.deadline < s.now)
  let s1 := deliverCpl s e j result miss
  let s2 := if result < 0x80 then stat s1 (0xD100 + e) 2 else raise (stat s1 (0xD100 + e) 3) 96 e NA
  if miss then raise (stat s2 (0xD100 + e) 5) 97 e NA else s2

/-- The running job ends with DONE or a fault code: pipeline drained, record written, queued descriptors discarded while the transfers in
progress complete; the engine is idle.  The stores of every bundle issued are in memory; a bundle that has not issued stores nothing
(R324, R330, R332). -/
def endJob (s : State) (e result : Nat) : State :=
  let x := s.eng e
  match x.job with
  | none => s
  | some j =>
    let x1 : Eng := { x.drain.clearRegs with
                      job := none, st := if x.st = .running then .idle else x.st,
                      xq := (x.xq.map (fun q => (q.1, (q.2.take 1).map (fun d => { d with orphan := true })))).filter (fun q => q.2 ≠ []) }
    wbit (jobEnded (s.setEng e x1) e j result) .geDoorbell [e] 0 false

/-- Every job of an engine, running, yielded, queued or released, ends with ABORTED: the engine is reset, retired or powered down (R332). -/
def abortJobs (s : State) (e : Nat) : State :=
  let s1 := endJob s e 0x88
  let x := s1.eng e
  let s2 := (x.queue ++ x.ready ++ (x.yielded.map (·.1)).toList).foldl (fun s j => jobEnded s e j 0x88) s1
  s2.setEng e { s2.eng e with queue := [], ready := [], yielded := none }

/-! ## Bundles (R300, R301, R306 to R309, R316) -/

/-- The kernel of a slot on an engine. -/
def Eng.kernel (x : Eng) (slot : Nat) : Option Kernel := spGet none x.kset slot

/-- CODE of the running kernel. -/
def Eng.codeSize (x : Eng) : Nat :=
  match x.job with
  | some j => match x.kernel j.slot with
    | some k => k.code
    | none => 0
  | none => 0

/-- Bank conflict of the bundle's two accesses (R304). -/
def bankConflict (words : List Nat) : Bool :=
  match words with
  | [a, b] => decide (a / 8 ≠ b / 8) && decide ((a / 8) % 16 = (b / 8) % 16)
  | _ => false

/-- The loops that end at this bundle, and what their counters become; they act independently (R316). -/
def loopNext (x : Eng) : List (Nat × Nat) :=
  [0, 1].filterMap (fun n => if x.cr (28 + n) = x.pc ∧ x.cr (24 + n) ≠ 0 then some (n, x.cr (24 + n) - 1) else none)

/-- A bundle has two writers of one register with one latency, or two updates of one pointer (R301). -/
def dupWrites (b : Bundle) : Bool := ¬ b.writes.Nodup || ¬ b.ptrs.Nodup

/-- YIELD gives up the engine: the job waits with its resume address; its scratch stays (R299, R329). -/
def yieldJob (s : State) (e a : Nat) : State :=
  let x := s.eng e
  match x.job with
  | none => s
  | some j =>
    if j.cls = 0 ∨ ¬ x.inPreempt then endJob s e 0x89
    else if x.codeSize ≤ a then endJob s e 0x82
    else
      let y := x.drain
      s.setEng e { y.clearRegs with job := none, yielded := some (j, a), st := .idle }

/-- The bundle issues: stores and the headroom they leave, loops and jumps, results due at the next bundle (R304, R306, R307,
R315, R316). -/
def endBundle (s : State) (e : Nat) : State :=
  let x := s.eng e
  match x.job with
  | none => s
  | some j =>
    if dupWrites x.bundle then endJob s e 0x81
    else if x.bundle.slots.contains 4 ∧ loopNext x ≠ [] then endJob s e 0x81
    else
      let sts := (x.bundle.stores.filter (fun t => t.1 = 1)) ++ (x.bundle.stores.filter (fun t => t.1 = 2))
      let x1 := sts.foldl (fun x t => x.store t.2.1 t.2.2) x
      let loop := loopNext x1
      let back := loop.find? (fun r => r.2 ≠ 0)
      let next := match x1.bundle.target, x1.bundle.skip, back with
        | some t, _, _ => t
        | none, some t, _ => t
        | none, none, some (n, _) => x1.cr (26 + n)
        | none, none, none => x1.pc + 1
      let cost := 1 + b2n (bankConflict x1.bundle.words) + (if x1.bundle.target.isSome then 2 else 0)
      let x2 := loop.foldl (fun x r => x.setCr (24 + r.1) r.2) x1
      let bxen := bitOf x.sw 6
      let stored := x.bundle.stored
      let x3 := ({ x2 with issue := x2.issue + 1, bundle := Bundle.empty, pc := next % 2 ^ 13, cyc := x2.cyc + cost,
                           job := some { j with cycles := j.cycles + cost } } : Eng).landDue
      let x4 := if bxen then stored.foldl (fun x w => x.setCr 31 (setBits x.bx 3 0 (min (bitsOf x.bx 3 0) (expWord w)))) x3 else x3
      let s1 := s.setEng e x4
      match x.bundle.fin, x.bundle.yieldTo with
      | some r, _ => endJob s1 e r
      | none, some a => yieldJob s1 e a
      | none, none =>
        if (x.bundle.target.isSome || (x.bundle.skip.isNone && back.isSome)) && decide (x4.codeSize ≤ next) then endJob s1 e 0x82 else s1

/-- Two slots cannot stand in one bundle: one slot twice, or memory or address slots beside control (R300). -/
def slotClash (taken : List Nat) (slot : Nat) : Bool :=
  taken.contains slot || (slot = 4 && taken.any (fun t => t = 1 || t = 2 || t = 3)) || ((slot = 1 || slot = 2 || slot = 3) && taken.contains 4)

/-- An uncorrectable error ends the job with fault ECC (R322); a second such fault within 86,400 s asks for the engine's retirement
(R606). -/
def eccFault (s : State) (e : Nat) : State :=
  let last := spGet 0 s.svc.eccAt e
  let again := decide (last ≠ 0) && decide (s.clk.elapsed + 1 < last + 86400 * secTicks)
  let s1 := { s with svc := { s.svc with eccAt := spPut 0 s.svc.eccAt e (s.clk.elapsed + 1),
                                         eccDue := if again then setIns e s.svc.eccDue else s.svc.eccDue } }
  endJob s1 e 0x87

/-- One slot operation of a running engine: a slot that cannot join the bundle begun starts the next; `act` gives the engine
with its bundle and flight extended, or a fault code. -/
def slotOp (s : State) (e slot : Nat) (last : Bool) (ecc : Nat) (act : Eng → Nat ⊕ Eng) : State :=
  if (s.eng e).st = .running ∧ e < 18 then
    let s0 := if slotClash (s.eng e).bundle.slots slot then endBundle s e else s
    if (s0.eng e).st = .running then
      let s1 := if ecc = 1 then bump s0 .geEcc [e] else s0
      if ecc = 2 then eccFault s1 e
      else match act (s1.eng e) with
      | .inl code => endJob s1 e code
      | .inr x =>
        let s2 := s1.setEng e { x with bundle := { x.bundle with slots := x.bundle.slots ++ [slot] } }
        if last then endBundle s2 e else s2
    else s0
  else s

/-- An XFER or XWAIT waits: its bundle does not issue (R319, R323). -/
def stallBundle (s : State) (e : Nat) : State :=
  if (s.eng e).st = .running then s.setEng e { s.eng e with bundle := { (s.eng e).bundle with waiting := true } } else s

/-- A bundle that waits is abandoned: nothing of it has issued (R319). -/
def Eng.abandon (x : Eng) : Eng := { x with bundle := Bundle.empty, flight := x.flight.filter (fun f => f.issued ≠ x.issue) }

/-- A result of latency `l` to a register. -/
def Eng.send (x : Eng) (l key : Nat) (v : FVal) (mac : Bool := false) : Eng :=
  { x with flight := x.flight ++ [⟨x.issue + l, key, v, mac, x.issue⟩],
           bundle := { x.bundle with writes := x.bundle.writes ++ [(key, l)] } }

/-- A sticky flag to be set with a result. -/
def Eng.flag (x : Eng) (l mask : Nat) : Eng :=
  if mask = 0 then x else { x with flight := x.flight ++ [⟨x.issue + l, 94, .flags mask, false, x.issue⟩] }

/-- A complex result of latency `l` to a D register, wrapped; EOV when a part does not fit (R311). -/
def Eng.sendC (x : Eng) (l d : Nat) (c : Cplx) : Eng := (x.send l (d % 32) (.num (wordOf c))).flag l (if fits16 c then 0 else 16)

/-- An accumulator result of latency 2, wrapped; AOV when bits are lost (R311). -/
def Eng.sendA (x : Eng) (l k : Nat) (c : Cplx) (mac : Bool) : Eng :=
  (x.send l (32 + k % 4) (.acc (acc40 c)) mac).flag l (if acc40 c = c then 0 else 8)

/-- An accumulator as a MAC reads it: with the result of a MAC of the bundle before (R308). -/
def Eng.macAcc (x : Eng) (k : Nat) : Cplx :=
  match (x.flight.filter (fun f => f.key = 32 + k % 4 ∧ f.mac ∧ f.issued + 1 = x.issue)).getLast? with
  | some ⟨_, _, .acc c, _, _⟩ => c
  | _ => x.ac k

/-- The second operand, conjugated under CJ (R312). -/
def cjOf (cj : Bool) (c : Cplx) : Cplx := if cj then cconj c else c
/-- Difference of two complex values. -/
def csub (a b : Cplx) : Cplx := ⟨a.re - b.re, a.im - b.im⟩
/-- Plus or minus a product. -/
def ngAdd (ng : Bool) (a b : Cplx) : Cplx := if ng then csub a b else cadd a b

/-- CMUL: the exact product shifted right 15 (R310, R312). -/
def cmul15 (a b : Cplx) : Cplx := cshr (cmul a b) 15

/-- A compute operation with two complex operands and a complex result of latency `l`. -/
def geBin (g : GeC) (l : Nat) (f : Cplx → Cplx → Cplx) (s : State) : State :=
  slotOp s g.e 0 g.last g.ecc (fun x => .inr (x.sendC l g.dst (f (cOf (x.dr g.sa)) (cOf (x.dr g.sb)))))

/-- A compute operation on 32-bit integers (R311). -/
def geInt (g : GeC) (f : Nat → Nat → Nat) (s : State) : State :=
  slotOp s g.e 0 g.last g.ecc (fun x => .inr (x.send 1 (g.dst % 32) (.num (f (x.dr g.sa) (x.dr g.sb) % 2 ^ 32))))

/-! ## Memory slots (R302, R303) -/

/-- The pointer after a post-modify (R302). -/
def postModify (x : Eng) (p am : Nat) : Nat :=
  let P := x.cr p
  let M := x.cr (8 + p)
  match am with
  | 0 => P
  | 1 => (P + M) % 2 ^ 18
  | 2 =>
    let B := x.cr (16 + p)
    let L := x.cr (20 + p)
    if L = 0 then (P + M) % 2 ^ 18
    else
      let v : Int := (P : Int) + toSigned 18 M
      let w := if (B + L : Nat) ≤ v then v - L else if v < (B : Int) then v + L else v
      ofSigned 18 w
  | _ => revAdd P M + P % 4
where
  /-- Bits [17:2] of a value in reverse order. -/
  rev (v : Nat) : Nat := ((List.range 16).map (fun i => if bitOf v (2 + i) then 2 ^ (15 - i) else 0)).sum
  /-- Reverse-carry addition over bits [17:2]. -/
  revAdd (a b : Nat) : Nat :=
    let t := (rev a + rev b) % 2 ^ 16
    ((List.range 16).map (fun i => if bitOf t (15 - i) then 2 ^ (2 + i) else 0)).sum

/-- A memory slot operation: the address checked for alignment, the pointer post-modified (R301 to R303). -/
def geMem (g : GeM) (size : Nat) (pair : Bool) (s : State) (act : Eng → Nat → Eng) : State :=
  slotOp s g.e (if g.y then 2 else 1) g.last g.ecc (fun x =>
    let p := g.ptr % 8
    let a := x.cr p
    if (pair ∧ g.reg % 2 = 1) ∨ (g.am = 2 ∧ 4 ≤ p) then .inl 0x81
    else if a % size ≠ 0 then .inl 0x82
    else
      let x1 := act { x with bundle := { x.bundle with words := x.bundle.words ++ [a] } } a
      .inr (if g.am % 4 = 0 then x1 else
        let x2 := x1.send 1 (64 + p) (.num (postModify x p (g.am % 4)))
        { x2 with bundle := { x2.bundle with ptrs := x2.bundle.ptrs ++ [p] } }))

/-- A store waits for the bundle's end (R304, R315). -/
def Eng.queueStore (x : Eng) (y : Bool) (a : Nat) (words : List Nat) : Eng :=
  { x with bundle := { x.bundle with
                       stores := x.bundle.stores ++ [(if y then 2 else 1, a, (words.map (leBytes 4)).flatten)],
                       stored := x.bundle.stored ++ words } }

/-! ## Address and control slots -/

/-- An address slot operation: the register code updated, with latency 1 (R301). -/
def geAdr (g : GeA) (s : State) (code : Nat) (ok : Bool) (v : Eng → Nat) : State :=
  slotOp s g.e 3 g.last g.ecc (fun x =>
    if ok then
      let x1 := x.send 1 (64 + code) (.num (v x))
      .inr { x1 with bundle := { x1.bundle with ptrs := x1.bundle.ptrs ++ [code] } }
    else .inl 0x81)

/-- `v` as 5-bit two's complement times 4, in 18 bits. -/
def imm5 (v : Nat) : Nat := ofSigned 18 (4 * toSigned 5 v)

/-- A control operation that jumps when its condition holds (R307). -/
def geJump (g : GeK) (s : State) (cond : Eng → Bool) : State :=
  slotOp s g.e 4 g.last g.ecc (fun x =>
    .inr (if cond x then { x with bundle := { x.bundle with target := some (g.imm % 2 ^ 13) } } else x))

/-- LOOPn: the loop's registers, and past its end for a count of 0; a loop end outside CODE is fault ADDR (R299, R301, R316). -/
def geLoop (g : GeK) (s : State) (n : Nat) (count : Eng → Nat) : State :=
  slotOp s g.e 4 g.last g.ecc (fun x =>
    let o := bitsOf g.imm 28 16
    let c := count x % 2 ^ 16
    let le := x.pc + 1 + o
    if c ≠ 0 ∧ x.cr (24 + (1 - n)) ≠ 0 ∧ x.cr (28 + (1 - n)) = le then .inl 0x81
    else if x.codeSize ≤ le then .inl 0x82
    else
      let x1 := ((x.send 1 (64 + 26 + n) (.num (x.pc + 1))).send 1 (64 + 28 + n) (.num le)).send 1 (64 + 24 + n) (.num c)
      .inr (if c = 0 then { x1 with bundle := { x1.bundle with skip := some (le + 1) } } else x1))

/-! ## Jobs (R326 to R331) -/

/-- Engines in service: neither OFF, SPARE, halted as a SPARE, nor RETIRED (R74). -/
def State.engInService (s : State) (e : Nat) : Bool :=
  match (s.eng e).st with
  | .off | .spare | .retired => false
  | .halted => ! (s.eng e).wasSpare
  | _ => true
/-- The number an engine has for R73, R74 and R327: its own, or that of the engine it replaced (R608). -/
def State.engNumber (s : State) (e : Nat) : Nat :=
  let n := spGet 0 s.ge.number e
  if n = 0 then e else n - 1

/-- The engine with the highest number of a list. -/
def topEngine (s : State) (l : List Nat) : Option Nat :=
  l.foldl (fun b e => match b with
    | none => some e
    | some f => if s.engNumber f < s.engNumber e then some e else some f) none

/-- The two engines in service with the highest numbers, which R74 holds. -/
def State.heldEngines (s : State) : List Nat :=
  let l := (List.range 18).filter (fun e => s.engInService e || ((s.eng e).st = .off && e ∉ s.nv.engRetired))
  match topEngine s l with
  | none => []
  | some a => match topEngine s (l.filter (· ≠ a)) with
    | none => [a]
    | some b => [a, b]

/-- A class-0 job becomes ready on an engine that runs a best-effort job: PREEMPT (R329). -/
def preemptIf (s : State) (e : Nat) : State :=
  let x := s.eng e
  match x.job with
  | some j => if j.cls ≠ 0 ∧ x.preemptAt.isNone then
      s.setEng e { x with irq := setBits x.irq 0 0 1, preemptAt := some j.cycles } else s
  | none => s

/-- A post is refused (R326). -/
def refusePost (s : State) (e : Nat) (full : Bool) : State :=
  let s1 := s.setEng e { s.eng e with lastRefused := true }
  if full then raise s1 98 e NA else s1

/-- A queue slot of an engine is held by the control cores' set: another's post does not find it (R449, R450). -/
def slotHeld (s : State) (e : Nat) (src : JobFrom) : Bool :=
  decide (src ≠ .firmware) && (match s.mem.lock with
    | some l => decide (l.eng = some e)
    | none => false)

/-- A job posted, with its grounds for refusal (R326); below depth 0 best-effort posts are refused (R513). -/
def postJob (s : State) (e : Nat) (j : Job) (tag : Nat) : State :=
  let x := s.eng e
  if ¬ s.tagDeviceOrD2 tag then firewall (refusePost s e false) tag
  else if 16 ≤ x.queue.length + b2n (slotHeld s e j.src) then refusePost s e true
  else if x.st = .spare ∨ x.st = .retired ∨ x.st = .loading ∨ x.st = .off ∨ 5 ≤ j.cls ∨ (j.cls ≠ 0 ∧ s.pwr.depth ≠ 0) then refusePost s e false
  else match x.kernel j.slot with
    | none => refusePost s e false
    | some k =>
      if ¬ bitOf k.classes j.cls then refusePost s e false
      else
        let s1 := s.setEng e { x with queue := x.queue ++ [j], lastRefused := false }
        if j.cls = 0 then preemptIf s1 e else s1

/-- The dispatcher's post (R326, R327): the engine in service, outside those R74 holds, with the fewest jobs queued.  The spec gives the
job no ID: a free value (DESIGN CHOICE, assumption 115). -/
def dispatchPost (s : State) (p : Nat) : State :=
  let cand := (List.range 18).filter (fun e => s.engInService e && decide (e ∉ s.heldEngines))
  let best := cand.foldl (fun b e => match b with
    | none => some e
    | some f => if (s.eng e).queue.length < (s.eng f).queue.length then some e else some f) none
  match best with
  | some e =>
    let (id, s1) := draw s (2 ^ 16)
    postJob s1 e ⟨0, 2, id, p, 0, .dispatcher, 0, s1.clk.elapsed⟩ 4
  | none => s

/-- The dispatcher's jobs that wait for a capture take the one that serves them, and are posted (R294, R326). -/
def postWaiting (s : State) : State :=
  s.disp.jobs.foldl (fun s j => match j.buf, jobCapture s j.path j.start with
    | none, some b =>
      dispatchPost { s with disp := { s.disp with jobs := s.disp.jobs.map (fun d => if d.path = j.path then { d with buf := some b } else d) } } j.path
    | _, _ => s) s

/-- The dispatcher's jobs that wait with no capture under way: one taken for them that does not serve is released, and another requested where a
buffer of the pair is FREE (R294). -/
def askWaiting (s : State) : State :=
  s.disp.jobs.foldl (fun s j =>
    let pair := [2 * j.path, 2 * j.path + 1]
    if j.buf.isSome ∨ (jobCapture s j.path j.start).isSome ∨ pair.any (fun b => decide ((s.buf b).st = .filling)) then s
    else jobRequestCapture (pair.foldl (fun s b =>
      if (s.buf b).st = .full ∧ j.start < (s.buf b).opened ∧ ¬ bufHeld s b then releaseBuffer s b else s) s) j.path) s

/-- Stage 2 of erg repair posts its jobs to the engines R74 holds, with the deadline its declaration sets (R326).  The spec gives them
neither ID nor argument: free values (DESIGN CHOICE, assumption 115). -/
def ergPost (s : State) : State :=
  s.heldEngines.foldl (fun s e =>
    let (id, s1) := draw s (2 ^ 16)
    let (arg, s2) := draw s1 (2 ^ 32)
    postJob s2 e ⟨1, 0, id, arg, s2.now + 983040 - (s2.clk.elapsed - s2.bm.heal.td), .erg, 0, s2.clk.elapsed⟩ 4) s

/-- The next class-0 job: earliest deadline, then lower slot, then the earlier release or post (R328); of one tick, that which comes first in
the list, a released job before a posted one (DESIGN CHOICE, assumption 171). -/
def edf (l : List Job) : Option Job :=
  l.foldl (fun b j => match b with
    | none => some j
    | some k => if j.deadline < k.deadline ∨ (j.deadline = k.deadline ∧ (j.slot < k.slot ∨ (j.slot = k.slot ∧ j.at_ < k.at_))) then some j else some k) none

/-- The first queued best-effort job of the lowest class (R328). -/
def bestEffort (q : List Job) : Option Job :=
  match (List.range 5).filterMap (fun c => if c = 0 then none else q.find? (fun j => j.cls = c)) with
  | j :: _ => some j
  | [] => none

/-- Best-effort work of a class before `k` waits (R80): calibration jobs; before captures for hosts, adaptation jobs and paths that await the
dispatcher too. -/
def earlierWork (s : State) (k : Nat) : Bool :=
  (List.range 18).any (fun e => ((s.eng e).queue ++ ((s.eng e).yielded.map (·.1)).toList).any (fun j => decide (1 ≤ j.cls ∧ j.cls < k))) ||
    (decide (1 < k) && decide (rf s .calHrxStat [] 1 0 = 1)) || (decide (2 < k) && rbit s .dpdDispCtrl [] 0 && decide (s.disp.pending ≠ []))

/-- The registers of a job's start (R298). -/
def Eng.startJob (x : Eng) (j : Job) (pc : Nat) : Eng :=
  let k := (x.kernel j.slot).getD ⟨0, 0, 0, 0, 0, 0, 0, 0, 0, 0, 0, 0, 0, 0, 0, 0⟩
  let be := decide (j.cls ≠ 0)
  let y := x.clearRegs
  let y1 := { y with d := spPut 0 (spPut 0 [] 0 (j.arg % 2 ^ 32)) 1 (j.id % 2 ^ 32), st := .running, job := some j, pc := pc }
  let y2 := (y1.setCr 0 (if be then 0x28000 else 0x10000)).setCr 1 k.pbase
  y2.setCr 30 (if be then 4 + 2 ^ 9 else 0)

/-- A roll has come to an engine: it starts no new job (R335). -/
def State.rollHolds (s : State) (e : Nat) : Bool :=
  match s.ge.roll with
  | some r => decide (r.todo.head? = some e)
  | none => false

/-- The next job starts on an idle engine that no roll holds (R328, R329, R335). -/
def startNext (s : State) (e : Nat) : State :=
  let x := s.eng e
  if x.st ≠ .idle ∨ s.rollHolds e then s
  else
    let zero := x.ready ++ x.queue.filter (fun j => j.cls = 0)
    match edf zero with
    | some j =>
      let entry := match x.kernel j.slot with
        | some k => k.entry
        | none => 0
      if j ∈ x.ready then s.setEng e ({ x with ready := x.ready.erase j }.startJob j entry)
      else s.setEng e ({ x with queue := x.queue.erase j }.startJob j entry)
    | none =>
      match x.yielded with
      -- D0, D1, P0, P1 and SW as at job start, every other register 0 (R329)
      | some (j, pc) => s.setEng e (({ x with yielded := none }.startJob j pc).setCr 31 0)
      | none =>
        match bestEffort x.queue with
        | some j =>
          -- best-effort work waits for every class before its own (R80)
          if earlierWork s j.cls then s else
          let entry := match x.kernel j.slot with
            | some k => k.entry
            | none => 0
          s.setEng e ({ x with queue := x.queue.erase j }.startJob j entry)
        | none => s

/-! ## Kernel images and loading (R333, R335) -/

/-- The header of an image. -/
def kernelOf (img : List Byte) (base pbase : Nat) : Kernel :=
  ⟨base, beAt img 0x0A 2, beAt img 6 2, beAt img 8 2, pbase, beAt img 0x0C 2, beAt img 0x0E 2, beAt img 0x10 2, beAt img 0x12 2,
   beAt img 0x14 4, beAt img 0x18 4, beAt img 0x1C 4, beAt img 0x20 4, beAt img 0x24 4, beAt img 0x28 1, beAt img 0x29 1⟩

/-- The images of a kernel set, slot by slot: those given, else the committed objects. -/
def State.kernelImage (s : State) (ovr : Sparse (List Byte)) (slot : Nat) : List Byte :=
  match ovr.find? (fun p => p.1 = slot) with
  | some p => p.2
  | none => if slot = 1 ∧ s.obytes 0x5904 1 ≠ [] then s.obytes 0x5904 1 else s.obytes (0xD140 + slot) 1

/-- An engine loaded with a kernel set: program memory, table, and persistent data of the slots (R333, R335). -/
def loadEngine (s : State) (ovr : Sparse (List Byte)) (x : Eng) : Eng :=
  let step (st : Eng × Nat × Nat) (slot : Nat) : Eng × Nat × Nat :=
    let (x, base, pbase) := st
    let img := s.kernelImage ovr slot
    if img = [] then ({ x with kset := spPut none x.kset slot none }, base, pbase)
    else
      let k := kernelOf img base pbase
      let pm := (List.range k.code).foldl (fun m i => spPut 0 m (base + i) (beAt img (128 + 8 * i) 8)) x.pmem
      let init := sliceBytes img (128 + 8 * k.code) k.init
      let x1 := ({ x with pmem := pm, kset := spPut none x.kset slot (some k) }).store pbase
        (init ++ List.replicate (k.persist - k.init) 0)
      (x1, base + k.code, pbase + k.persist)
  ((List.range 16).foldl step ({ x with pmem := [], kset := [] }, 0, 0)).1

/-- The spare of a roll: the lowest SPARE engine, or the higher engine R74 holds (R335). -/
def rollSpare (s : State) : Nat :=
  match (List.range 18).find? (fun e => (s.eng e).st = .spare) with
  | some e => e
  | none => s.heldEngines.headD 17

/-- The persistent data of the slots that a load did not change, copied to where they now lie (R322, R335). -/
def keepPersist (x y : Eng) (changed : List Nat) : Eng :=
  (List.range 16).foldl (fun y slot => match x.kernel slot, y.kernel slot with
    | some a, some b => if slot ∈ changed then y
        else y.store b.pbase ((List.range (min a.persist b.persist)).map (fun i => spGet 0 x.dmem (a.pbase + i)))
    | _, _ => y) y

/-- A roll ends once no engine is left (R335). -/
def rollLeft (s : State) (r : Roll) : State :=
  if r.todo = [] then raise { s with ge := { s.ge with roll := none } } 101 NA NA
  else { s with ge := { s.ge with roll := some r } }

/-- A roll starts at acceptance: the spare is loaded, and every other SPARE engine with it (R335, R607). -/
def startRoll (s : State) (ovr : Sparse (List Byte)) : State :=
  let sp := rollSpare s
  let load := (List.range 18).filter (fun e => decide (e = sp ∨ (s.eng e).st = .spare))
  let changed := (List.range 16).filter (fun sl => s.kernelImage ovr sl ≠ s.kernelImage [] sl)
  rollLeft (load.foldl (fun t e => t.setEng e (loadEngine s ovr (t.eng e))) s)
    ⟨sp, (List.range 18).filter (fun e => s.engInService e && decide (e ≠ sp)), ovr, changed⟩

/-- An engine of a roll at its next job end: its work to the spare, the engine loaded, and its work back (R335). -/
def rollMove (s : State) (r : Roll) (e : Nat) : State :=
  rollLeft (s.setEng e (keepPersist (s.eng e) (loadEngine s r.images (s.eng e)) r.changed)) { r with todo := r.todo.filter (· ≠ e) }

end Sys2Proof.Machine
end

