-- ==== Sys2Proof/Machine/CalOps.lean ====
section
/-! DEFINITION. Calibration items: base notes, heart and top notes, ramps, staleness, foreground requests (chapter 10). -/

namespace Sys2Proof.Machine

/-! ## Records -/

/-- An item of a path set. -/
def State.setCal (s : State) (p i : Nat) (x : CalItem) : State :=
  { s with cal := { s.cal with item := spPut CalItem.reset s.cal.item (p * 256 + i) x } }
/-- A path's top-note state. -/
def State.top (s : State) (p : Nat) : TopNote := spGet TopNote.reset s.cal.top p
/-- A path's top-note state set. -/
def State.setTop (s : State) (p : Nat) (x : TopNote) : State :=
  { s with cal := { s.cal with top := spPut TopNote.reset s.cal.top p x } }

/-- The items of the base note and its tiers (R341). -/
def calItems : List Nat := [0x01, 0x10, 0x11, 0x12, 0x13, 0x14, 0x15]

/-! ## Base note (R364 to R366) -/

/-- Learning: the two sets whose temperatures bracket T_p move by their weight over 16 of V - B (R366). -/
def learn (s : State) (p i : Nat) (v : CalVal) : State :=
  let t := tOf s p
  let b := baseNote s p i
  let lo := ((List.range 8).filter (fun j => tset s j ≤ t)).getLast?
  let hi := (List.range 8).find? (fun j => t < tset s j)
  let move (s : State) (j : Nat) (num den : Int) : State :=
    let cur := (baseSet s j p i).getD b
    { s with cal := { s.cal with
                      base := spPut none s.cal.base ((j * 64 + p) * 256 + i) (some (calAdd cur (calScale num (16 * den) (calSub v b)))),
                      dirty := setIns j s.cal.dirty } }
  match lo, hi with
  | some a, some c =>
    let ta := tset s a
    let tc := tset s c
    move (move s a (tc - t) (tc - ta)) c (t - ta) (tc - ta)
  | some a, none => move s a 1 1
  | none, some c => move s c 1 1
  | none, none => s

/-! ## Values in force and ramps (R338, R368, R369) -/

/-- The largest magnitude of a list. -/
def maxAbs (l : List Int) : Nat := (l.map Int.natAbs).foldl max 0

/-- The steps of a ramp (R368): 0.05 dB, 0.25° and 0.5 ps a step. -/
def rampSteps (rampCal : Nat) (d : CalVal) : Nat :=
  min 255 (max (max 1 rampCal) (max (ceilDiv (maxAbs d.g) 50000) (max (ceilDiv (maxAbs d.ph) 250000) (ceilDiv (maxAbs d.d) 500000))))

/-- An item's terms change: a new target restarts the ramp from the value in force (R338, R368, R369). -/
def retarget (s : State) (p i : Nat) (x : CalItem) : State :=
  let tgt := calAdd (calAdd x.b x.h) x.p
  if tgt = x.tgt then s.setCal p i x
  else
    let cur := x.now
    s.setCal p i { x with old := cur, tgt := tgt, k := 0, n := rampSteps (s.onum 0x7000 2) (calSub tgt cur) }

/-! ## Staleness (R371 to R373) -/

/-- The stale bit of an item. -/
def staleBit (i : Nat) : Nat := if i = 1 then 0 else i - 15

/-- The stale items of a path: every heart item while no firmware runs (R26, R371). -/
def State.staleItems (s : State) (p : Nat) : Nat :=
  Nat.lor (spGet 0 s.cal.stale p) (if s.ctl.fwRuns then 0 else 0x7E)

/-- A stale bit changes; the bitmap leaving 0 raises CAL_STALE (R372). -/
def setStaleBit (s : State) (p i : Nat) (b : Bool) : State :=
  let old := s.staleItems p
  let s1 := { s with cal := { s.cal with stale := spMod 0 s.cal.stale p (fun w => setBits w (staleBit i) (staleBit i) (b2n b)) } }
  if old = 0 ∧ s1.staleItems p ≠ 0 then raise s1 102 NA p else s1

/-- A refresh by an item's own tier (R371). -/
def refreshed (s : State) (p i : Nat) : State :=
  let s1 := s.setCal p i { s.calItem p i with last := s.clk.elapsed + 1 }
  if i ∈ calItems then setStaleBit s1 p i false else s1

/-- Layer sections carry the stale flag (R373). -/
def State.layersStale (s : State) : Bool :=
  decide (s.onum 0x7000 3 < ((List.range 64).filter (fun p =>
    decide (¬ bitOf s.bm.mask p) && decide (s.pobj p 1 ≠ 0) && decide (Nat.land (s.staleItems p) 0x43 ≠ 0))).length)
/-- An export section of a path carries the stale flag (R373). -/
def State.exportStale (s : State) (p : Nat) : Bool := decide (Nat.land (s.staleItems p) 0x43 ≠ 0)

/-! ## Top note (R348 to R352) -/

/-- The guard now running: its start and end on the counter. -/
def guardNow (s : State) : Option (Nat × Nat) :=
  match s.entryNow with
  | some (_, st, e) =>
    let start := s.now - (patPos s.pattern s.frameOfs s.now - st)
    if e.dir = 2 then some (start, start + e.dur) else none
  | none => none

/-- A window is skipped (R348, R350). -/
def skipWindow (s : State) (p : Nat) : State :=
  setFlag (bump s .calSkip [p / 8, p % 8]) .calStat [p / 8, p % 8] 14

/-- What a top-note window measured, with the phases whose samples carry the mirage flag left out: RX DC, TX LO leakage and the tone point, in a
window that ends at elapsed tick `stop` (R349). -/
def topMeas (s : State) (p stop : Nat) (m : TopMeas) : TopMeas :=
  let ok (a b : Nat) : Bool := ¬ (s.rxUnlocked p (stop - 738 + a) (stop - 738 + b) ||
    convMirage s (2 * p) (stop - 738 + a) (stop - 738 + b) || convMirage s (2 * p + 1) (stop - 738 + a) (stop - 738 + b))
  { m with dcOk := m.dcOk && ok 48 248, loOk := m.loOk && ok 248 448, toneOk := m.toneOk && ok 448 688 }

/-- Item 0x01's value from a window: P takes what moved against the base note and the heart term; the gain trims their shares of the
loop's drift since the last heart run of TX gain and of RX gain (R349, R350). -/
def topUpdate (s : State) (p : Nat) (m : TopMeas) : State :=
  let x := s.calItem p 1
  let t := s.top p
  let sp : Int := spGet 500 s.cal.split p
  let g := if m.toneOk then [(m.loop - t.ref.getD m.loop) * sp, (m.loop - t.refRx.getD m.loop) * (1000 - sp)] else x.p.g
  let part (ok : Bool) (i : Nat) (v : Int) : Int :=
    if ok then v * 1000000 - x.b.x.getD i 0 - x.h.x.getD i 0 else x.p.x.getD i 0
  let xs := [part m.dcOk 0 m.rxI, part m.dcOk 1 m.rxQ, part (m.dcOk && m.loOk) 2 m.txI, part (m.dcOk && m.loOk) 3 m.txQ]
  let s1 := retarget s p 1 { x with p := { x.p with g := g, x := xs } }
  let s2 := if m.loOk then s1.setPobj p 0x04 (ofSigned 16 m.leak) else s1
  -- a window whose every phase is discarded refreshes nothing (DESIGN CHOICE, assumption 178)
  if m.dcOk ∨ m.loOk ∨ m.toneOk then refreshed s2 p 1 else s2

/-! ## Foreground requests (R376 to R381) -/

/-- The last run of an item and its result, in object 0x7100 + code. -/
def lastRun (s : State) (item result : Nat) : State :=
  (s.setObj (0x7100 + item) 3 (.num s.now)).setObj (0x7100 + item) 4 (.num result)

/-- A request's status (R381). -/
def fgStatus (s : State) (p code : Nat) : State := s.setPobj p 0x0F code

/-- A request ends: it leaves the list, its status stays, and its event is raised. -/
def fgEnd (s : State) (p code : Nat) : State :=
  let s1 := fgStatus { s with cal := { s.cal with fg := s.cal.fg.filter (fun r => r.path ≠ p) } } p code
  raise s1 (if 3 ≤ code ∧ code ≤ 5 then 106 else 107) NA p

/-- A request runs. -/
def fgRun (s : State) (p : Nat) : State :=
  fgStatus { s with cal := { s.cal with fg := s.cal.fg.map (fun r =>
                                          if r.path = p then { r with running := true, at_ := s.clk.elapsed } else r) } } p 2

/-- How long a foreground item runs (R341). -/
def fgTicks (i : Nat) : Nat := if i = 0x30 then 40 * msTicks else if i = 0x32 then 10 * msTicks else 738

/-- A request on a path that is OFF may run: it is forced, or its item is not 0x31 and the service window that holds the path OFF, if one does,
covers its duration (R376, R379). -/
def fgMay (s : State) (p item : Nat) (force : Bool) : Bool :=
  force || (decide (item ≠ 0x31) &&
    (decide (p ∉ s.cal.window) || decide (s.now + fgTicks item ≤ s.onum 0x7030 1 + s.onum 0x7030 2 * msTicks)))

/-- A path has entered OFF: its waiting request that needs that runs (R376, R379). -/
def fgPathOff (s : State) (p : Nat) : State :=
  if s.cal.fg.any (fun r => decide (r.path = p) && ¬ r.running && fgMay s p r.item r.force) then fgRun s p else s

/-- A request submitted (R376 to R379). -/
def fgRequest (s : State) (who : Option Role) (p i flags : Nat) : State :=
  let force := bitOf flags 0
  let auto := bitOf flags 1
  let roleOk := (¬ force || (match who with
    | some .operator | some .service => true
    | _ => false)) && (¬ auto || decide (who = some .operator))
  let old := s.cal.fg.find? (fun r => r.path = p)
  let submit (s : State) : State :=
    let s1 := fgStatus { s with cal := { s.cal with fg := s.cal.fg ++ [⟨p, i, force, auto, s.clk.elapsed, false⟩] } } p 1
    let s2 := if force then failPath s1 p else s1
    if fgMay s2 p i force ∧ s2.pathState p = .off then fgRun s2 p else s2
  let decline (code : Nat) : State := raise (if old.isSome then s else fgStatus s p code) 107 NA p
  if ¬ roleOk then decline 9
  else match old with
    | some r =>
      if ¬ force ∨ r.running then decline 8
      else submit (fgEnd s p 10)
    | none => if 8 ≤ s.cal.fg.length then decline 7 else submit s

/-- The values that a full calibration of a path found (R376): each item starts from its heart term. -/
def fgApply (s : State) (p : Nat) (results : List (Nat × CalMeas)) : State :=
  results.foldl (fun s v =>
    if v.1 ∈ calItems then
      let b := baseNote s p v.1
      refreshed (retarget s p v.1 { s.calItem p v.1 with b := b, h := calSub v.2 b, p := calZero }) p v.1
    else s) s

/-- Requests running when the device leaves RUN and SLOTGATE end ABORTED (R381). -/
def fgAbort (s : State) : State :=
  (s.cal.fg.filter (·.running)).foldl (fun s r => fgEnd s r.path 11) s

/-- A heart result outside limits; the second in a row fails the path (R375). -/
def heartLimit (s : State) (p i : Nat) (bad : Bool) : State :=
  let n := if bad then spGet 0 s.cal.bad (p * 256 + i) + 1 else 0
  let s1 := { s with cal := { s.cal with bad := spPut 0 s.cal.bad (p * 256 + i) n } }
  if 2 ≤ n then failPath (raise s1 103 NA p) p else s1

/-- Paths take state STEP for an injection: an attenuation, or 31 the LNA bypass; FEA is low in GUARD already (R359). -/
def stepPaths (s : State) (ps : List Nat) (step : Nat) : State :=
  ps.foldl (fun s p =>
    if step = 31 then
      let s1 := gainChanged s p
      s1.setFe p { s1.pathFe p with lnaByp := true }
    else setAtt s p step) s

/-- The paths go back to the reference state, the one they had in state `r` (R359). -/
def unstepPaths (r s : State) (ps : List Nat) : State :=
  ps.foldl (fun s p =>
    if (s.pathFe p).lnaByp ≠ (r.pathFe p).lnaByp then
      let s1 := gainChanged s p
      s1.setFe p { s1.pathFe p with lnaByp := (r.pathFe p).lnaByp }
    else if s.rxAtt p ≠ r.rxAtt p then setAtt s p (r.rxAtt p) else s) s

/-- A path a service window held OFF returns at the next symbol boundary (R380). -/
def windowReturn (s : State) (p : Nat) : State :=
  let s1 := if s.tlRuns then reachCount s (nextSymbol s.frameOfs s.refMu s.refEcp s.now) else s
  let s2 := { s1 with
              cal := { s1.cal with window := s1.cal.window.filter (· ≠ p) },
              bm := { s1.bm with held := s1.bm.held.filter (· ≠ p), mask := setBits s1.bm.mask p p 0,
                                 heal := ⟨1, s1.clk.elapsed, s1.bm.heal.late, [], 0⟩ } }
  arrayMargin (enterPathState s2 p)

/-- The guards of the period that offer an injection start at or after a tick: the first such start (R358). -/
def injectionStart (s : State) : Option Nat :=
  let pat := s.pattern
  let per := patPeriod pat
  let lock := s.now - (s.clk.elapsed - s.rx.goodFrom) + 48
  let starts := (pat.foldl (fun (a : Nat × List (Nat × Nat)) e => (a.1 + e.dur, if e.dir = 2 then a.2 ++ [(a.1, e.dur)] else a.2)) (0, [])).2
  let cand := starts.filterMap (fun g =>
    let here := s.now - patPos pat s.frameOfs s.now + g.1
    let try_ (gs : Nat) : Option Nat :=
      let x := max (gs + 128) (max lock s.now)
      if x + 356 ≤ gs + g.2 - 80 then some x else none
    match try_ here with
    | some x => some x
    | none => try_ (here + per))
  cand.foldl (fun b x => match b with
    | none => some x
    | some y => some (min x y)) none

end Sys2Proof.Machine
end

