-- ==== Sys2Proof/Machine/LinkOps.lean ====
section
/-! DEFINITION. The packet link: frame checks, sections, compression, indications, time corrections, lanes (chapter 11). -/

namespace Sys2Proof.Machine

/-- A port is up (R414). -/
def State.portUp (s : State) (n : Nat) : Bool := rbit s .lnkPortStat [n] 0
/-- TL_STATUS.LOCKED (R417). -/
def State.ptpLocked (s : State) : Bool := rbit s .tlStatus [] 1

/-! ## Corrections of the counter (R36 to R39) -/

/-- A correction in ticks: a quarter nanosecond is 0.12288 tick, truncated toward zero (R36). -/
def ticksOfQuarterNs (q : Int) : Int := Int.tdiv (q * 12288) 100000

/-- The counter moved by a step (R39). -/
def stepCount (s : State) (d : Int) : State :=
  { s with clk := { s.clk with count := (((s.clk.count : Int) + d) % (2 ^ 64 : Nat)).toNat } }

/-- The servo requests a correction in 0.25 ns: while LOCKED, and up to 50 ns, it is steered; a larger one is applied at once when
no carrier is active, and else held pending in place of any other (R37, R38, R174). -/
def timeCorrection (s : State) (quarterNs : Int) : State :=
  if s.ptpLocked ∨ quarterNs.natAbs ≤ 200 then s
  else if s.anyCarrierActive then
    raise { s with tl := { s.tl with pendStep := some (ticksOfQuarterNs quarterNs) } } 4 NA NA
  else
    let s1 := stepCount s (ticksOfQuarterNs quarterNs)
    requestSync { wbit s1 .tlCtrl [] 2 false with tl := { s1.tl with pendStep := none, stepArmed := none } } s1.now

/-! ## Frame checks (R386 to R390, R396, R406, R412) -/

/-- A dropped message (R396): counted at its port, and for causes 7 to 12 at its carrier when that is the tenant's. -/
def dropMsg (s : State) (port cause : Nat) (cc : Option Nat) : State :=
  let s1 := bump (stat s (0x9210 + port) cause) .lnkPortDrop [port]
  let s2 := match cc with
    | some c => if 7 ≤ cause ∧ s.ccOwner c = port then stat s1 (0x9200 + c) cause else s1
    | none => s1
  match cause with
  | 2 => raise s2 138 port NA
  | 6 => firewall s2 port
  | 8 => raise (bumpField s2 .lnkPortLate [port] 31 16) 132 (cc.getD NA) NA
  | 9 => raise (bumpField s2 .lnkPortLate [port] 15 0) 133 (cc.getD NA) NA
  | 10 => raise s2 137 port NA
  | 12 => raise s2 136 (cc.getD NA) NA
  | _ => s2

/-- A frame that R412 lets pass unprotected: EAPOL, ESMC, and PTP while PTP_CLEAR = 1. -/
def exemptFrame (s : State) (f : LnkFrame) : Bool :=
  decide (f.etype = 0x888E) || decide (f.etype = 0x8809) || (decide (f.etype = 0x88F7) && rbit s .lnkPortCfg [f.port] 25)

/-- Checks 1 to 5 of a frame that should carry message type `ty`, in order (R386 to R389, R412); 0 when none fails, 16 for a frame that the
device accepts as another kind: PTP, EAPOL or ESMC, or another of its message types. -/
def frameCheck (s : State) (f : LnkFrame) (ty : Nat) : Nat :=
  let on := rbit s .lnkPortMsec [f.port] 0
  if ¬ f.fcsOk ∨ f.len < 64 ∨ rf s .lnkPortCfg [f.port] 39 26 < f.len then 1
  else if on ∧ ((f.isProtected ∧ ¬ f.secOk) ∨ (¬ f.isProtected ∧ ¬ exemptFrame s f)) then 2
  else if f.etype = 0x88F7 ∨ f.etype = 0x888E ∨ f.etype = 0x8809 then 16
  else if f.etype ≠ 0xAEFE then 3
  else if beAt f.data 0 1 / 16 ≠ 1 ∨ bitOf (beAt f.data 0 1) 0 ∨ f.data.length < 4 ∨ beAt f.data 2 2 + 4 ≠ f.data.length then 4
  else if beAt f.data 1 1 ∉ [0, 2, 3, 5, 7] then 5
  else if beAt f.data 1 1 ≠ ty then 16
  else 0

/-- The bucket fills at 1,000 Mb/s to 65,536 bytes; a frame that finds too few tokens is policed (R406). -/
def police (s : State) (n bytes : Nat) : Bool × State :=
  let x := s.port n
  let have_ := min (65536 * 491520) (x.tokens + (s.clk.elapsed - x.tokAt) * 125000)
  if bytes * 491520 ≤ have_ then (true, s.setPort n { x with tokens := have_ - bytes * 491520, tokAt := s.clk.elapsed })
  else (false, s.setPort n { x with tokens := have_, tokAt := s.clk.elapsed })

/-- A frame on an up port arrives: it is counted, checked and, when its kind is policed, charged; false when it was dropped, or is of another
kind, whose charge it takes: PTP and ESMC (R406). -/
def admitFrame (s : State) (f : LnkFrame) (ty : Nat) (policed : Bool) : Bool × State :=
  let s1 := stat (reachCount s f.tick) (0x9210 + f.port) 20
  let c := frameCheck s1 f ty
  if c = 16 then (false, if f.etype = 0x88F7 ∨ f.etype = 0x8809 then
      let v := police s1 f.port f.len
      if v.1 then v.2 else dropMsg v.2 f.port 10 none
    else s1)
  else if c ≠ 0 then (false, dropMsg s1 f.port c none)
  else if policed then
    let v := police s1 f.port f.len
    if v.1 then v else (false, dropMsg v.2 f.port 10 none)
  else (true, s1)

/-- The bytes after the common header. -/
def frameBody (f : LnkFrame) : List Byte := f.data.drop 4

/-! ## Frames the device sends (R387, R388, R413) -/

/-- The bytes of a data frame, from its destination address to the end of the message: the port's destination, the device's address, one VLAN
tag with the port's PCP and VID, EtherType 0xAEFE, and the eCPRI common header of revision 1 with C = 0 (R387, R388). -/
def dataFrame (s : State) (n kind : Nat) (body : List Byte) : List Byte :=
  beBytes 6 (rf s .lnkPortDa [n] 47 0) ++ beBytes 6 (Config.t1sMac % 2 ^ 48) ++ beBytes 2 0x8100 ++
    beBytes 2 (rf s .lnkPortCfg [n] 22 20 * 2 ^ 13 + rf s .lnkPortCfg [n] 19 8) ++ beBytes 2 0xAEFE ++
    beBytes 1 0x10 ++ beBytes 1 kind ++ beBytes 2 body.length ++ body

/-- A protected frame takes the next PN of its SAK; at 0xC000_0000_0000_0000 with XPN, or 0xC000_0000, a rekey is requested (R413). -/
def countPn (s : State) (n : Nat) : State :=
  if rbit s .lnkPortMsec [n] 0 then
    let x := s.port n
    let limit := if rbit s .lnkPortMsec [n] 1 then 0xC000000000000000 else 0xC0000000
    s.setPort n { x with pn := x.pn + 1, rekey := x.rekey || decide (limit ≤ x.pn + 1) }
  else s

/-- A message goes out on a port. -/
def sendMessage (s : State) (n kind : Nat) (body : List Byte) : State := emit (countPn s n) (.link n kind (dataFrame s n kind body))

/-! ## Sections (R390 to R394) -/

/-- A section header (R391). -/
structure SecHdr where
  tenant : Nat
  cc : Nat
  kind : Nat
  stale : Bool
  frame : Nat
  slot : Nat
  wset : Nat
  symbol : Nat
  comp : Nat
  start : Nat
  count : Nat
  stream : Nat
  beam : Nat
deriving DecidableEq, Repr

/-- A header from its 10 bytes; reserved bits are ignored (R9). -/
def secHdrOf (b : List Byte) : SecHdr :=
  let b0 := beAt b 0 1
  let w := beAt b 4 3
  ⟨bitsOf b0 7 6, bitsOf b0 5 3, bitsOf b0 2 1, bitOf b0 0, beAt b 1 1, beAt b 2 1 / 2, beAt b 2 1 % 2, beAt b 3 1 / 16,
   bitsOf (beAt b 3 1) 3 1, bitsOf w 23 15, bitsOf w 14 6, beAt b 7 1, beAt b 8 2 % 4096⟩

/-- The 10 bytes of a header. -/
def SecHdr.bytes (h : SecHdr) : List Byte :=
  beBytes 1 (h.tenant % 4 * 64 + h.cc % 8 * 8 + h.kind % 4 * 2 + b2n h.stale) ++ beBytes 1 (h.frame % 256) ++
    beBytes 1 (h.slot % 128 * 2 + h.wset % 2) ++ beBytes 1 (h.symbol % 16 * 16 + h.comp % 8 * 2) ++
    beBytes 3 (h.start % 512 * 2 ^ 15 + h.count % 512 * 2 ^ 6) ++ beBytes 1 (h.stream % 256) ++ beBytes 2 (h.beam % 4096)

/-- PC_ID of a section (R390). -/
def SecHdr.pcId (h : SecHdr) : Nat := h.tenant % 4 * 2 ^ 14 + h.cc % 8 * 2 ^ 11 + h.kind % 4 * 2 ^ 9 + h.stream % 256

/-- Mantissa width of a compression code; 0 is uncompressed (R393). -/
def compBits (c : Nat) : Nat :=
  match c with
  | 1 => 8
  | 2 => 9
  | 3 => 12
  | 4 => 14
  | 5 => 16
  | _ => 0

/-- Bytes per PRB (R393). -/
def compBytes (c : Nat) : Nat := if c = 0 then 48 else 1 + 3 * compBits c

/-- Saturation to `m` bits. -/
def satBits (m : Nat) (v : Int) : Int := clampI (-(2 ^ (m - 1) : Nat)) ((2 ^ (m - 1) : Nat) - 1) v

/-- One PRB decoded: its REs and the values that saturated (R394). -/
def prbDecode (c : Nat) (b : List Byte) : List Cplx × Nat :=
  if c = 0 then
    ((List.range 12).map (fun i => ⟨toSigned 16 (beAt b (4 * i) 2), toSigned 16 (beAt b (4 * i + 2) 2)⟩), 0)
  else
    let m := compBits c
    let e := beAt b 0 1 % 16
    let all := beAt b 1 (3 * m)
    let v (i : Nat) : Int := toSigned m (all >>> (m * (23 - i))) * 2 ^ e
    ((List.range 12).map (fun i => ⟨satBits 16 (v (2 * i)), satBits 16 (v (2 * i + 1))⟩),
     ((List.range 24).filter (fun i => satBits 16 (v i) ≠ v i)).length)

/-- A mantissa (R394). -/
def mantissa (m e : Nat) (v : Int) : Int := satBits m (if e = 0 then v else (v + 2 ^ (e - 1)) / 2 ^ e)

/-- No mantissa of a PRB saturates at an exponent. -/
def expFits (m e : Nat) (vs : List Int) : Bool :=
  vs.all (fun v => decide (mantissa m e v = if e = 0 then v else (v + 2 ^ (e - 1)) / 2 ^ e))

/-- One PRB encoded (R394). -/
def prbEncode (c : Nat) (res : List Cplx) : List Byte :=
  let vs := ((List.range 12).map (fun i => let x := res.getD i ⟨0, 0⟩; [satBits 16 x.re, satBits 16 x.im])).flatten
  if c = 0 then (vs.map (fun v => beBytes 2 (ofSigned 16 v))).flatten
  else
    let m := compBits c
    let e := ((List.range (17 - m)).find? (fun e => expFits m e vs)).getD (16 - m)
    beBytes 1 e ++ beBytes (3 * m) (vs.foldl (fun a v => a * 2 ^ m + ofSigned m (mantissa m e v)) 0)

/-! ## Symbol names (R41, R391) -/

/-- Start of a symbol in its frame, from its slot and number. -/
def symbolStart (mu : Nat) (ecp : Bool) (slot symbol : Nat) : Nat :=
  let per := if ecp then 24 else 7 * 2 ^ mu
  let i := slot * symsPerSlot ecp + symbol
  i / per * halfTicks + (if ecp then i % per * 10240 else if i % per = 0 then 0 else 256 + i % per * symTicks mu false)

/-- A slot and symbol that exist in a numerology. -/
def symbolExists (mu : Nat) (ecp : Bool) (slot symbol : Nat) : Bool := decide (slot < 10 * 2 ^ mu) && decide (symbol < symsPerSlot ecp)

/-- The air start of the occurrence nearest an arrival tick; of two equally near, the later (R391). -/
def nearestAir (ofs mu : Nat) (ecp : Bool) (frame slot symbol ta : Nat) : Nat :=
  let per := 256 * frameTicks
  let base := (ofs + frame % 256 * frameTicks + symbolStart mu ecp slot symbol) % per
  let lo : Int := if base ≤ ta % per then ((ta - ta % per + base : Nat) : Int) else (ta - ta % per : Nat) + (base : Int) - per
  let hi : Int := lo + per
  if 0 ≤ lo ∧ (ta : Int) - lo < hi - ta then lo.toNat else hi.toNat

/-- SFN, slot and symbol of a symbol that starts at a tick (R391). -/
def symbolName (ofs mu : Nat) (ecp : Bool) (t : Nat) : Nat × Nat × Nat :=
  let v := t + frameTicks * 1024 - ofs % (frameTicks * 1024)
  let h := v % frameTicks
  let per := if ecp then 24 else 7 * 2 ^ mu
  let r := h % halfTicks
  let i := h / halfTicks * per + (if ecp then r / 10240 else if r < 256 + symTicks mu false then 0 else (r - 256) / symTicks mu false)
  (v / frameTicks % 1024, i / symsPerSlot ecp, i % symsPerSlot ecp)

/-! ## Downlink (R395 to R399) -/

/-- What a later section leaves of an earlier one: the PRBs on both sides (R398). -/
def trimSec (x : DlSec) (layer start count : Nat) : List DlSec :=
  let n := x.res.length / 12
  if x.layer ≠ layer ∨ start + count ≤ x.start ∨ x.start + n ≤ start then [x]
  else
    (if x.start < start then [{ x with res := x.res.take (12 * (start - x.start)) }] else []) ++
    (if start + count < x.start + n then
      [{ x with start := start + count, res := x.res.drop (12 * (start + count - x.start)) }] else [])

/-- The sequence number of a type 0 or type 2 message is checked for a gap and kept (R390). -/
def rxSequence (s : State) (n pc seq : Nat) : State :=
  let x := s.port n
  let last := spGet 0 x.rxSeq pc
  let s1 := if last ≠ 0 ∧ last % 256 ≠ seq % 256 then stat s (0x9210 + n) 19 else s
  s1.setPort n { s1.port n with rxSeq := spPut 0 x.rxSeq pc (seq % 256 + 1) }

/-- A section's fields keep R390 to R393 and fit the carrier (check 7). -/
def sectionOk (s : State) (b : List Byte) (h : SecHdr) (layers : Nat) : Bool :=
  let mu := s.ccMu h.cc
  decide (beAt b 3 1 = 128) && decide (setBits (beAt b 0 2) 8 8 0 = h.pcId) && decide (h.comp < 6) && decide (h.kind = 0) &&
    decide (1 ≤ h.count) && decide (h.count ≤ 275) && decide (h.start + h.count ≤ s.ccN h.cc) && decide (h.stream < layers) &&
    symbolExists mu (s.ccEcp h.cc) h.slot h.symbol

/-- A received type 0 section: checks 6 to 11 in order, then the symbol buffer (R391, R394 to R398).  A section that overlaps several earlier ones
counts one overlap, not one for each pair, which R398 leaves open (DESIGN CHOICE, assumption 160). -/
def iqSection (s : State) (f : LnkFrame) : State :=
  let b := (frameBody f)
  let h := secHdrOf (b.drop 4)
  let n := f.port
  if h.tenant ≠ n ∨ s.ccOwner h.cc ≠ n then dropMsg s n 6 none
  else if b.length < 14 ∨ ¬ sectionOk s b h (s.bfLayers h.cc 0) ∨ b.length ≠ 14 + h.count * compBytes h.comp then
    dropMsg s n 7 (some h.cc)
  else
    let s1 := rxSequence s n (setBits (beAt b 0 2) 8 8 0) (beAt b 2 1)
    let air := nearestAir s.frameOfs (s.ccMu h.cc) (s.ccEcp h.cc) h.frame h.slot h.symbol f.tick
    let opens := rf s .lnkCcWin [h.cc] 22 0
    let closes := rf s .lnkCcWin [h.cc] 54 32
    if f.tick + opens < air then dropMsg s1 n 8 (some h.cc)
    else if air < f.tick + closes then dropMsg s1 n 9 (some h.cc)
    else if ¬ s.dlOn h.cc then dropMsg s1 n 11 (some h.cc)
    else
      let prbs := (List.range h.count).map (fun i => prbDecode h.comp (sliceBytes b (14 + i * compBytes h.comp) (compBytes h.comp)))
      let sats := (prbs.map (·.2)).sum
      let old := spGet [] s1.lnk.dl h.cc
      let same := old.filter (fun x => x.tick = air)
      let cut := (same.map (fun x => trimSec x h.stream h.start h.count)).flatten
      let overlap := decide (cut ≠ same)
      let x : DlSec := ⟨air, h.stream, h.start, h.beam, h.wset, (prbs.map (·.1)).flatten⟩
      let s2 := { s1 with lnk := { s1.lnk with dl := spPut [] s1.lnk.dl h.cc (old.filter (fun x => x.tick ≠ air) ++ cut ++ [x]) } }
      let s3 := if sats = 0 then s2 else stat s2 (0x9200 + h.cc) 14 sats
      if overlap then stat s3 (0x9200 + h.cc) 15 else s3

/-- The PRBs of a layer that accepted sections of a symbol cover. -/
def coveredPrbs (secs : List DlSec) (layer : Nat) : Nat :=
  ((secs.filter (fun x => x.layer = layer)).map (fun x => x.res.length / 12)).sum

/-- A window closes: uncovered PRBs are zero, counted, and reported once (R397). -/
def windowClose (s : State) (cc air : Nat) : State :=
  let secs := (spGet [] s.lnk.dl cc).filter (fun x => x.tick = air)
  let miss := ((List.range (s.bfLayers cc 0)).map (fun l => s.ccN cc - coveredPrbs secs l)).sum
  if miss = 0 then s else raise (stat s (0x9200 + cc) 13 miss) 134 cc NA

/-! ## Uplink (R401 to R405) -/

/-- A section is sent: sequence numbers run per PC_ID (R390). -/
def sendSection (s : State) (n : Nat) (h : SecHdr) (payload : List Byte) : State :=
  let x := s.port n
  let q := spGet 0 x.txSeq h.pcId
  let s1 := s.setPort n { x with txSeq := spPut 0 x.txSeq h.pcId ((q + 1) % 256) }
  sendMessage s1 n 0 (beBytes 2 h.pcId ++ beBytes 1 q ++ beBytes 1 128 ++ h.bytes ++ payload)

/-- The PRB ranges of a stream: ⌈N / N_sec⌉ sections (R401). -/
def prbRanges (n per : Nat) : List (Nat × Nat) :=
  if per = 0 then [] else (List.range (ceilDiv n per)).map (fun i => (i * per, min per (n - i * per)))

/-- The blocks of a range of a stream's REs, compressed. -/
def encodeRange (comp : Nat) (res : List Cplx) (start count : Nat) : List Byte :=
  ((List.range count).map (fun i => prbEncode comp ((res.drop (12 * (start + i))).take 12))).flatten

/-- Every section of a buffered uplink symbol of a carrier, or its count when its port is down (R401 to R403, R235). -/
def sendUplink (s : State) (cc : Nat) : State :=
  let u := spGet UlSym.none_ s.lnk.ul cc
  let n := s.ccOwner cc
  let plan := rd s .lnkCcUl [cc]
  let (sfn, slot, sym) := symbolName s.frameOfs (s.ccMu cc) (s.ccEcp cc) u.tick
  let ranges := prbRanges (s.ccN cc) (bitsOf plan 8 0)
  let s1 := { s with lnk := { s.lnk with ul := spPut UlSym.none_ s.lnk.ul cc UlSym.none_ } }
  if u.kind = 0 then s
  else if ¬ s.portUp n then stat s1 (0x9200 + cc) 17 (u.streams.length * ranges.length)
  else
    let exp := decide (u.kind = 2)
    (List.range u.streams.length).foldl (fun s k => ranges.foldl (fun s r =>
      let flags := ((u.flags.getD k []).drop r.1).take r.2
      let stale := flags.any id || (if exp then s.exportStale k else s.layersStale)
      let beam := if exp then 0 else (u.codes.getD k []).getD r.1 0
      let h : SecHdr := ⟨n, cc, if exp then 2 else 0, stale, sfn % 256, slot, if beam = 0x400 then u.wset else 0, sym,
        bitsOf plan 11 9, r.1, r.2, k, beam⟩
      sendSection s n h (encodeRange (bitsOf plan 11 9) (u.streams.getD k []) r.1 r.2)) s) s1

/-- L_RA of a format code (R192). -/
def prachLen (fmt : Nat) : Nat := if fmt ≤ 3 then 839 else 139

/-- Every section of a PRACH occasion: one per repetition of each stream (R403, R404). -/
def sendPrach (s : State) (j : Nat) : State :=
  let u := spGet UlSym.none_ s.lnk.prach j
  let w := s.prachCfg j
  let cc := bitsOf w 3 1
  let n := s.ccOwner cc
  let comp := bitsOf (rd s .lnkCcUl [cc]) 14 12
  let l := prachLen (bitsOf w 7 4)
  let blocks := ceilDiv l 12
  let reps (x : List Cplx) : Nat := x.length / l
  let (sfn, slot, _) := symbolName s.frameOfs (s.ccMu cc) (s.ccEcp cc) u.tick
  let s1 := { s with lnk := { s.lnk with prach := spPut UlSym.none_ s.lnk.prach j UlSym.none_ } }
  if u.kind = 0 then s
  else if ¬ s.portUp n then stat s1 (0x9200 + cc) 17 ((u.streams.map reps).sum)
  else
    (List.range u.streams.length).foldl (fun s k =>
      let x := u.streams.getD k []
      (List.range (reps x)).foldl (fun s r =>
        let stale := (u.flags.getD k []).any id || (if bitOf w 10 then s.exportStale k else s.layersStale)
        let h : SecHdr := ⟨n, cc, 1, stale, sfn % 256, slot, 0, r, comp, 0, blocks, j * 64 + k % 64, (u.codes.getD k []).headD 0⟩
        sendSection s n h (encodeRange comp ((x.drop (r * l)).take l) 0 blocks)) s) s1

/-- One control entry: its checks, then the codes of its symbol (R241, R391, R396, R405). -/
def controlEntry (s : State) (f : LnkFrame) (rtc : Nat) (b : List Byte) : State :=
  let h := secHdrOf b
  let n := f.port
  let mu := s.ccMu h.cc
  let ecp := s.ccEcp h.cc
  if h.tenant ≠ n ∨ s.ccOwner h.cc ≠ n then dropMsg s n 6 none
  else if h.kind ≠ 0 ∨ h.cc ≠ bitsOf rtc 13 11 ∨ h.count = 0 ∨ 275 < h.count ∨ s.ccN h.cc < h.start + h.count ∨
      s.bfLayers h.cc 1 ≤ h.stream ∨ ¬ symbolExists mu ecp h.slot h.symbol then dropMsg s n 7 (some h.cc)
  else
    let air := nearestAir s.frameOfs mu ecp h.frame h.slot h.symbol f.tick
    let run := air + symLenAt s.frameOfs mu ecp air - s.ccWinOfs h.cc * 2 ^ s.ccHalfbands h.cc + 8192
    if f.tick + frameTicks < air then dropMsg s n 8 (some h.cc)
    else if ¬ s.ulOn h.cc then dropMsg s n 11 (some h.cc)
    else if run < f.tick + 4096 then dropMsg s n 12 (some h.cc)
    else { s with lnk := { s.lnk with ulCtl := spMod [] s.lnk.ulCtl h.cc (fun l => l ++ [⟨air, h.stream, h.start, h.count, h.beam⟩]) } }

/-- A type 2 message (R405). -/
def controlMessage (s : State) (f : LnkFrame) : State :=
  let b := (frameBody f)
  let rtc := beAt b 0 2
  let k := (b.length - 4) / 10
  if bitsOf rtc 15 14 ≠ f.port ∨ s.ccOwner (bitsOf rtc 13 11) ≠ f.port then dropMsg s f.port 6 none
  else if setBits (rtc % 2048) 8 8 0 ≠ 0 ∨ beAt b 3 1 ≠ 128 ∨ b.length < 14 ∨ (b.length - 4) % 10 ≠ 0 ∨ 64 < k then dropMsg s f.port 7 none
  else
    let s1 := rxSequence s f.port (0x10000 + setBits rtc 8 8 0) (beAt b 2 1)
    (List.range k).foldl (fun s i => controlEntry s f rtc (sliceBytes b (4 + 10 * i) 10)) s1

/-! ## Indications and delay (R409, R410) -/

/-- Bytes of a type 7 message with one element. -/
def indicationBytes (id kind seq element : Nat) (cease : Bool) (fault info : Nat) : List Byte :=
  beBytes 1 id ++ beBytes 1 kind ++ beBytes 1 seq ++ beBytes 1 1 ++ beBytes 2 element ++
    beBytes 2 (b2n cease * 2 ^ 12 + fault % 4096) ++ beBytes 4 info

/-- A new indication: Event ID and Sequence Number advance, and it waits for its acknowledgement. -/
def sendIndication (s : State) (n fault element info : Nat) (cease : Bool) : State :=
  let x := s.port n
  let s1 := sendMessage s n 7 (indicationBytes x.eventId 0 x.eventSeq element cease fault info)
  s1.setPort n { s1.port n with eventId := (x.eventId + 1) % 256, eventSeq := (x.eventSeq + 1) % 256,
                                unacked := x.unacked ++ [⟨x.eventId, fault, element, info, cease, s.clk.elapsed, 0⟩] }

/-- A synchronisation message with no element. -/
def sendSyncMsg (s : State) (n id kind : Nat) : State :=
  let x := s.port n
  let s1 := sendMessage s n 7 (beBytes 1 id ++ beBytes 1 kind ++ beBytes 1 x.eventSeq ++ beBytes 1 0)
  s1.setPort n { s1.port n with eventSeq := (x.eventSeq + 1) % 256 }

/-- An event delivered to a tenant goes out; late and early sections also as the eCPRI faults (R410). -/
def sendEvent (s : State) (n : Nat) (q : Nat × Nat × Nat × Bool) : State :=
  let (src, inst, rpt, cease) := q
  let s1 := sendIndication s n (0x800 + src) inst rpt cease
  if cease then s1
  else if src = 133 then sendIndication s1 n 0x404 (0x100 + inst % 8) rpt false
  else if src = 132 then sendIndication s1 n 0x403 (0x100 + inst % 8) rpt false
  else s1

/-- A timestamp in the eCPRI format: 6 bytes of seconds and 4 of nanoseconds (R36, R409). -/
def stamp (t : Nat) : List Byte := beBytes 6 (t / secTicks) ++ beBytes 4 (t % secTicks * 1000000000 / secTicks)

/-- A type 5 message: measurement ID, action, timestamp, compensation 0. -/
def delayBytes (id action t : Nat) : List Byte := beBytes 1 id ++ beBytes 1 action ++ stamp t ++ beBytes 8 0

/-! ## Time and frequency (R417 to R422) -/

/-- PTP leaves LOCKED. -/
def ptpUnlock (s : State) (state : Nat) : State :=
  let s1 := wf s .lnkPtpStat [] 2 0 state
  if s.ptpLocked then raise (wbit { s1 with lnk := { s1.lnk with good := 0, bad := 0 } } .tlStatus [] 1 false) 141 NA NA else s1

/-- Holdover begins (R418). -/
def holdover (s : State) : State :=
  if rbit s .tlStatus [] 2 then s
  else raise (wbit (ptpUnlock { s with lnk := { s.lnk with master := none } } 3) .tlStatus [] 2 true) 6 NA NA

/-- SyncE is LOCKED. -/
def State.synceLocked (s : State) : Bool := rf s .lnkSynceStat [] 1 0 = 1

/-- The QL the device sends (R421). -/
def qlSent (s : State) : Nat :=
  if s.synceLocked then rf s .lnkSynceStat [] 5 2 else if rbit s .lnkSynceCfg [] 1 then 0xA else 0xB

/-- The place of a QL code in its option's order, best first: option 1 by the code, option 2 as G.781 orders PRS, STU, ST2, TNC, ST3E, ST3, SMC,
PROV and DUS (PRESUMED, assumption 180). -/
def qlRank (option2 : Bool) (q : Nat) : Nat := if option2 then [1, 0, 7, 4, 0xD, 0xA, 0xC, 0xE, 0xF].idxOf q else q

/-- The received QL is unusable (R420): DNU or DUS, or worse than QL_MIN. -/
def qlBad (s : State) : Bool :=
  let q := rf s .lnkSynceStat [] 5 2
  let m := rf s .lnkSynceCfg [] 8 5
  let o := rbit s .lnkSynceCfg [] 1
  decide (q = 0xF) || (decide (m ≠ 0) && decide (qlRank o m < qlRank o q))

/-! ## Ports and lanes (R414, R423 to R426) -/

/-- A condition of R420 has just cleared or shown itself again: the 10 s of a squelched SYNCE_OUT start anew. -/
def synceAgain (s : State) : State :=
  if s.synceLocked then s else { s with lnk := { s.lnk with squelchAt := s.clk.elapsed } }

/-- A port's state from its alignment and SAs (R414, R420). -/
def portState (s : State) (n : Nat) (aligned sa : Bool) : State :=
  let was := s.portUp n
  let up := rbit s .lnkPortCfg [n] 0 && aligned && (sa || ¬ rbit s .lnkPortMsec [n] 0)
  let s1 := wf s .lnkPortStat [n] 2 0 (b2n up + 2 * b2n aligned + 4 * b2n sa)
  let s2 := if up ≠ was ∧ rf s1 .lnkSynceCfg [] 3 2 = n then synceAgain s1 else s1
  if up = was then s2 else raise s2 (if up then 128 else 129) n NA

/-- A physical lane's state: 0 OFF, 1 ACTIVE, 2 SPARE, 3 RETIRED. -/
def laneState (s : State) (l : Nat) : Nat := rf s .lnkLaneStat [] (2 * l + 1) (2 * l)
/-- A physical lane's state set; OFF and RETIRED lanes are powered down (R13, R383). -/
def setLaneState (s : State) (l v : Nat) : State :=
  let s1 := wf s .lnkLaneStat [] (2 * l + 1) (2 * l) v
  if v = 0 ∨ v = 3 then subDown s1 (subSerdes l) else subUp s1 (subSerdes l)
/-- The physical lane of a logical lane: the lane map (R383). -/
def physLane (s : State) (k : Nat) : Nat := rf s .lnkLaneMap [] (4 * k + 3) (4 * k)

/-- The logical lanes of a port (R383, R384). -/
def portLanes (s : State) (n : Nat) : List Nat :=
  if rbit s .lnkPortCfg [n] 0 then (List.range (2 ^ rf s .lnkPortCfg [n] 2 1)).map (· + rf s .lnkPortCfg [n] 5 3) else []

/-- Lane states follow the ports' configuration: a lane of a port is ACTIVE, any other that is not RETIRED is SPARE (R383). -/
def refreshLanes (s : State) : State :=
  let used := ((List.range 4).map (fun n => (portLanes s n).map (physLane s))).flatten
  (List.range 9).foldl (fun s l => if laneState s l = 3 then s else setLaneState s l (if l ∈ used then 1 else 2)) s

/-- A port goes down for its lanes (R426). -/
def portLost (s : State) (n : Nat) : State := wbit (portState s n false (rbit s .lnkPortStat [n] 2)) .lnkPortStat [n] 5 false

/-- A spare lane takes a logical lane's place: the lane map, and the last spare used (R424, R426). -/
def laneMoved (s : State) (m : LaneMove) : State :=
  let s1 := wf (setLaneState s m.spare 1) .lnkLaneMap [] (4 * m.logical + 3) (4 * m.logical) m.spare
  { s1 with lnk := { s1.lnk with moves := s1.lnk.moves.filter (fun x => x ≠ m) } }

/-- The last spare lane is used (R426). -/
def lastSpare (s : State) (n : Nat) : State :=
  let s1 := spareUsed s 6 n
  if (List.range 9).any (fun l => laneState s1 l = 2) then s1 else raise s1 131 n NA

/-- A lane fails (R423, R424, R426). -/
def laneFails (s : State) (l : Nat) : State :=
  match (List.range 8).find? (fun k => physLane s k = l), laneState s l with
  | some k, 1 =>
    match (List.range 4).find? (fun n => k ∈ portLanes s n) with
    | some n =>
      let s1 := setLaneState s l 3
      let s2 := { s1 with nv := { s1.nv with linkLanes := setIns l s1.nv.linkLanes } }
      match (List.range 9).find? (fun x => decide (laneState s2 x = 2) && s2.lnk.moves.all (fun m => decide (m.spare ≠ x))) with
      | some sp =>
        if rbit s2 .lnkPortCfg [n] 40 then
          let s3 := wbit s2 .lnkPortStat [n] 5 true
          { s3 with lnk := { s3.lnk with moves := s3.lnk.moves ++ [⟨n, k, l, sp, s.clk.elapsed, false, false⟩] } }
        else portLost s2 n
      | none => raise (portLost s2 n) 131 n NA
    | none => s
  | _, _ => s

end Sys2Proof.Machine
end

