-- ==== Sys2Proof/Machine/Crypto.lean ====
section
/-! DEFINITION. The standard functions the manual names: SHA-256, SHA-384, HMAC, HKDF, AES, CMAC, GCM, ECDSA and ECDH on P-384, and
the CRC-64 of ECMA-182 (R475, R490, R491, R532, R571, R575, R581, R590, R593). -/

namespace Sys2Proof.Machine

/-! ## SHA-2 -/

/-- Round constants of SHA-256. -/
def sha256K0 : List Nat :=
  [0x428A2F98, 0x71374491, 0xB5C0FBCF, 0xE9B5DBA5, 0x3956C25B, 0x59F111F1, 0x923F82A4, 0xAB1C5ED5,
   0xD807AA98, 0x12835B01, 0x243185BE, 0x550C7DC3, 0x72BE5D74, 0x80DEB1FE, 0x9BDC06A7, 0xC19BF174]

/-- Round constants of SHA-256. -/
def sha256K1 : List Nat :=
  [0xE49B69C1, 0xEFBE4786, 0xFC19DC6, 0x240CA1CC, 0x2DE92C6F, 0x4A7484AA, 0x5CB0A9DC, 0x76F988DA,
   0x983E5152, 0xA831C66D, 0xB00327C8, 0xBF597FC7, 0xC6E00BF3, 0xD5A79147, 0x6CA6351, 0x14292967]

/-- Round constants of SHA-256. -/
def sha256K2 : List Nat :=
  [0x27B70A85, 0x2E1B2138, 0x4D2C6DFC, 0x53380D13, 0x650A7354, 0x766A0ABB, 0x81C2C92E, 0x92722C85,
   0xA2BFE8A1, 0xA81A664B, 0xC24B8B70, 0xC76C51A3, 0xD192E819, 0xD6990624, 0xF40E3585, 0x106AA070]

/-- Round constants of SHA-256. -/
def sha256K3 : List Nat :=
  [0x19A4C116, 0x1E376C08, 0x2748774C, 0x34B0BCB5, 0x391C0CB3, 0x4ED8AA4A, 0x5B9CCA4F, 0x682E6FF3,
   0x748F82EE, 0x78A5636F, 0x84C87814, 0x8CC70208, 0x90BEFFFA, 0xA4506CEB, 0xBEF9A3F7, 0xC67178F2]

/-- Round constants of SHA-256. -/
def sha256K : List Nat := sha256K0 ++ sha256K1 ++ sha256K2 ++ sha256K3

/-- Round constants of SHA-512 and SHA-384. -/
def sha512K0 : List Nat :=
  [0x428A2F98D728AE22, 0x7137449123EF65CD, 0xB5C0FBCFEC4D3B2F, 0xE9B5DBA58189DBBC,
   0x3956C25BF348B538, 0x59F111F1B605D019, 0x923F82A4AF194F9B, 0xAB1C5ED5DA6D8118,
   0xD807AA98A3030242, 0x12835B0145706FBE, 0x243185BE4EE4B28C, 0x550C7DC3D5FFB4E2,
   0x72BE5D74F27B896F, 0x80DEB1FE3B1696B1, 0x9BDC06A725C71235, 0xC19BF174CF692694]

/-- Round constants of SHA-512 and SHA-384. -/
def sha512K1 : List Nat :=
  [0xE49B69C19EF14AD2, 0xEFBE4786384F25E3, 0xFC19DC68B8CD5B5, 0x240CA1CC77AC9C65,
   0x2DE92C6F592B0275, 0x4A7484AA6EA6E483, 0x5CB0A9DCBD41FBD4, 0x76F988DA831153B5,
   0x983E5152EE66DFAB, 0xA831C66D2DB43210, 0xB00327C898FB213F, 0xBF597FC7BEEF0EE4,
   0xC6E00BF33DA88FC2, 0xD5A79147930AA725, 0x6CA6351E003826F, 0x142929670A0E6E70]

/-- Round constants of SHA-512 and SHA-384. -/
def sha512K2 : List Nat :=
  [0x27B70A8546D22FFC, 0x2E1B21385C26C926, 0x4D2C6DFC5AC42AED, 0x53380D139D95B3DF,
   0x650A73548BAF63DE, 0x766A0ABB3C77B2A8, 0x81C2C92E47EDAEE6, 0x92722C851482353B,
   0xA2BFE8A14CF10364, 0xA81A664BBC423001, 0xC24B8B70D0F89791, 0xC76C51A30654BE30,
   0xD192E819D6EF5218, 0xD69906245565A910, 0xF40E35855771202A, 0x106AA07032BBD1B8]

/-- Round constants of SHA-512 and SHA-384. -/
def sha512K3 : List Nat :=
  [0x19A4C116B8D2D0C8, 0x1E376C085141AB53, 0x2748774CDF8EEB99, 0x34B0BCB5E19B48A8,
   0x391C0CB3C5C95A63, 0x4ED8AA4AE3418ACB, 0x5B9CCA4F7763E373, 0x682E6FF3D6B2B8A3,
   0x748F82EE5DEFB2FC, 0x78A5636F43172F60, 0x84C87814A1F0AB72, 0x8CC702081A6439EC,
   0x90BEFFFA23631E28, 0xA4506CEBDE82BDE9, 0xBEF9A3F7B2C67915, 0xC67178F2E372532B]

/-- Round constants of SHA-512 and SHA-384. -/
def sha512K4 : List Nat :=
  [0xCA273ECEEA26619C, 0xD186B8C721C0C207, 0xEADA7DD6CDE0EB1E, 0xF57D4F7FEE6ED178,
   0x6F067AA72176FBA, 0xA637DC5A2C898A6, 0x113F9804BEF90DAE, 0x1B710B35131C471B,
   0x28DB77F523047D84, 0x32CAAB7B40C72493, 0x3C9EBE0A15C9BEBC, 0x431D67C49C100D4C,
   0x4CC5D4BECB3E42B6, 0x597F299CFC657E2A, 0x5FCB6FAB3AD6FAEC, 0x6C44198C4A475817]

/-- Round constants of SHA-512 and SHA-384. -/
def sha512K : List Nat := sha512K0 ++ sha512K1 ++ sha512K2 ++ sha512K3 ++ sha512K4

/-- Initial hash of SHA-256. -/
def sha256H : List Nat :=
  [0x6A09E667, 0xBB67AE85, 0x3C6EF372, 0xA54FF53A, 0x510E527F, 0x9B05688C, 0x1F83D9AB, 0x5BE0CD19]

/-- Initial hash of SHA-384. -/
def sha384H : List Nat :=
  [0xCBBB9D5DC1059ED8, 0x629A292A367CD507, 0x9159015A3070DD17, 0x152FECD8F70E5939,
   0x67332667FFC00B31, 0x8EB44A8768581511, 0xDB0C2E0D64F98FA7, 0x47B5481DBEFA4FA4]

/-- Rotation right in `w` bits. -/
def rotr (w n x : Nat) : Nat := ((x >>> n) + (x <<< (w - n))) % 2 ^ w

/-- The function of three rotations, or two and a shift. -/
def sigma (w : Nat) (r : Nat × Nat × Nat) (shift : Bool) (x : Nat) : Nat :=
  Nat.xor (Nat.xor (rotr w r.1 x) (rotr w r.2.1 x)) (if shift then x >>> r.2.2 else rotr w r.2.2 x)

/-- The parameters of one SHA-2 function. -/
structure Sha where
  w : Nat
  ks : List Nat
  h : List Nat
  e0 : Nat × Nat × Nat
  e1 : Nat × Nat × Nat
  s0 : Nat × Nat × Nat
  s1 : Nat × Nat × Nat

/-- SHA-256. -/
def sha256P : Sha := ⟨32, sha256K, sha256H, (2, 13, 22), (6, 11, 25), (7, 18, 3), (17, 19, 10)⟩
/-- SHA-384. -/
def sha384P : Sha := ⟨64, sha512K, sha384H, (28, 34, 39), (14, 18, 41), (1, 8, 7), (19, 61, 6)⟩

/-- The message schedule, newest word first. -/
def shaExtend (p : Sha) : Nat → List Nat → List Nat
  | 0, ws => ws
  | n + 1, ws => shaExtend p n
      ((sigma p.w p.s1 true (ws.getD 1 0) + ws.getD 6 0 + sigma p.w p.s0 true (ws.getD 14 0) + ws.getD 15 0) % 2 ^ p.w :: ws)

/-- One round on the eight working variables. -/
def shaRound (p : Sha) (v : List Nat) (kw : Nat × Nat) : List Nat :=
  let g (i : Nat) := v.getD i 0
  let ch := Nat.xor (Nat.land (g 4) (g 5)) (Nat.land (2 ^ p.w - 1 - g 4) (g 6))
  let maj := Nat.xor (Nat.xor (Nat.land (g 0) (g 1)) (Nat.land (g 0) (g 2))) (Nat.land (g 1) (g 2))
  let t1 := g 7 + sigma p.w p.e1 false (g 4) + ch + kw.1 + kw.2
  let t2 := sigma p.w p.e0 false (g 0) + maj
  [(t1 + t2) % 2 ^ p.w, g 0, g 1, g 2, (g 3 + t1) % 2 ^ p.w, g 4, g 5, g 6]

/-- One block, given as its 16 words. -/
def shaBlock (p : Sha) (h ws : List Nat) : List Nat :=
  let w := (shaExtend p (p.ks.length - 16) ws.reverse).reverse
  let v := (p.ks.zip w).foldl (shaRound p) h
  (List.range 8).map (fun i => (h.getD i 0 + v.getD i 0) % 2 ^ p.w)

/-- The hash of a byte list, as its words. -/
def shaWords (p : Sha) (m : List Byte) : List Nat :=
  let bb := 2 * p.w
  let n := m.length
  let blocks := (n + 1 + p.w / 4 + bb - 1) / bb
  let pad := m ++ [0x80] ++ List.replicate (blocks * bb - n - 1 - p.w / 4) 0 ++ beBytes (p.w / 4) (8 * n)
  let wb := p.w / 8
  (List.range blocks).foldl (fun h i =>
    let b := (pad.drop (i * bb)).take bb
    shaBlock p h ((List.range 16).map (fun j => beNum ((b.drop (j * wb)).take wb)))) p.h

/-- SHA-256. -/
def sha256 (m : List Byte) : List Byte := ((shaWords sha256P m).map (beBytes 4)).flatten
/-- SHA-384. -/
def sha384 (m : List Byte) : List Byte := (((shaWords sha384P m).map (beBytes 8)).flatten).take 48

/-- HMAC over a hash with block length `bl`. -/
def hmacOf (hash : List Byte → List Byte) (bl : Nat) (key m : List Byte) : List Byte :=
  let k0 := if bl < key.length then hash key else key
  let k := k0 ++ List.replicate (bl - k0.length) 0
  hash (k.map (· ^^^ 0x5C) ++ hash (k.map (· ^^^ 0x36) ++ m))

/-- HMAC-SHA-256. -/
def hmac256 (key m : List Byte) : List Byte := hmacOf sha256 64 key m
/-- HMAC-SHA-384. -/
def hmac384 (key m : List Byte) : List Byte := hmacOf sha384 128 key m
/-- The first 32 bytes of HKDF-SHA-384. -/
def hkdf384 (salt ikm info : List Byte) : List Byte := (hmac384 (hmac384 salt ikm) (info ++ [1])).take 32

/-! ## AES -/

/-- Doubling in the AES field. -/
def xtime (x : Nat) : Nat := if x < 128 then 2 * x else Nat.xor (2 * x) 0x11B

/-- Product in the AES field, over the bits of the second factor. -/
def gmul (a b : Nat) : Nat :=
  ((List.range 8).foldl (fun (acc : Nat × Nat) i => (if bitOf b i then Nat.xor acc.1 acc.2 else acc.1, xtime acc.2)) (0, a)).1

/-- Square-and-multiply: the 254th power, the inverse. -/
def ginv (x : Nat) : Nat :=
  let x2 := gmul x x
  let x4 := gmul x2 x2
  let x8 := gmul x4 x4
  let x16 := gmul x8 x8
  let x32 := gmul x16 x16
  let x64 := gmul x32 x32
  let x128 := gmul x64 x64
  gmul (gmul (gmul x128 x64) (gmul x32 x16)) (gmul (gmul x8 x4) x2)

/-- The S-box. -/
def sbox (x : Nat) : Nat :=
  let b := ginv x
  let r (n : Nat) := (b <<< n ||| b >>> (8 - n)) % 256
  Nat.xor (Nat.xor (Nat.xor b (r 1)) (Nat.xor (r 2) (r 3))) (Nat.xor (r 4) 0x63)

/-- The key schedule: words of 4 bytes, newest first; `nk` key words, `i` the index of the next. -/
def aesExpand (nk : Nat) : Nat → Nat → Nat → List (List Nat) → List (List Nat)
  | 0, _, _, ws => ws
  | n + 1, i, rc, ws =>
    let t := ws.getD 0 []
    let t1 := if i % nk = 0 then
        let r := (t.drop 1 ++ t.take 1).map sbox
        match r with
        | x :: y => Nat.xor x rc :: y
        | [] => []
      else if 6 < nk ∧ i % nk = 4 then t.map sbox else t
    let w := List.zipWith Nat.xor (ws.getD (nk - 1) []) t1
    aesExpand nk n (i + 1) (if i % nk = 0 then xtime rc else rc) (w :: ws)

/-- AES encryption of one block, with a key of 16 or 32 bytes. -/
def aesBlock (key block : List Byte) : List Byte :=
  let nk := key.length / 4
  let nr := nk + 6
  let k := key.map (·.toNat)
  let kw := (List.range nk).map (fun i => (k.drop (4 * i)).take 4)
  let ws := (aesExpand nk (4 * (nr + 1) - nk) nk 1 kw.reverse).reverse
  let rk (r : Nat) : List Nat := ((ws.drop (4 * r)).take 4).flatten
  let add (x : List Nat) (r : Nat) := List.zipWith Nat.xor x (rk r)
  let subShift (x : List Nat) := (List.range 16).map (fun i => sbox (x.getD ((i + 4 * (i % 4)) % 16) 0))
  let mix (x : List Nat) := (List.range 16).map (fun i =>
    let c := i / 4 * 4
    let g (j : Nat) := x.getD (c + (i + j) % 4) 0
    Nat.xor (Nat.xor (gmul (g 0) 2) (gmul (g 1) 3)) (Nat.xor (g 2) (g 3)))
  let st := (List.range (nr - 1)).foldl (fun x r => add (mix (subShift x)) (r + 1)) (add (block.map (·.toNat)) 0)
  (add (subShift st) nr).map (BitVec.ofNat 8)

/-- Exclusive or of byte lists. -/
def xorBytes (a b : List Byte) : List Byte := List.zipWith (· ^^^ ·) a b

/-- AES-128-CMAC (R530). -/
def cmac (key m : List Byte) : List Byte :=
  let dbl (b : List Byte) : List Byte :=
    let v := beNum b
    beBytes 16 (if v < 2 ^ 127 then 2 * v else Nat.xor (2 * v % 2 ^ 128) 0x87)
  let k1 := dbl (aesBlock key (List.replicate 16 0))
  let k2 := dbl k1
  let n := max 1 ((m.length + 15) / 16)
  let last := m.drop (16 * (n - 1))
  let fin := if last.length = 16 then xorBytes last k1
    else xorBytes (last ++ [0x80] ++ List.replicate (15 - last.length) 0) k2
  let c := (List.range (n - 1)).foldl (fun x i => aesBlock key (xorBytes x ((m.drop (16 * i)).take 16))) (List.replicate 16 0)
  aesBlock key (xorBytes c fin)

/-- Product in the field of GHASH, bit 0 leftmost. -/
def ghashMul (x y : Nat) : Nat :=
  ((List.range 128).foldl (fun (zv : Nat × Nat) i =>
    (if bitOf x (127 - i) then Nat.xor zv.1 zv.2 else zv.1,
     if zv.2 % 2 = 1 then Nat.xor (zv.2 / 2) (0xE1 <<< 120) else zv.2 / 2)) (0, y)).1

/-- Zero padding to whole blocks. -/
def padBlock (b : List Byte) : List Byte := b ++ List.replicate ((16 - b.length % 16) % 16) 0

/-- AES-GCM with a 12-byte nonce: the text (en- and decryption are one) and the tag of the ciphertext `ct`. -/
def gcm (key iv aad ct : List Byte) : List Byte × List Byte :=
  let h := beNum (aesBlock key (List.replicate 16 0))
  let blocks := padBlock aad ++ padBlock ct ++ beBytes 8 (8 * aad.length) ++ beBytes 8 (8 * ct.length)
  let gh := (List.range (blocks.length / 16)).foldl
    (fun y i => ghashMul (Nat.xor y (beNum ((blocks.drop (16 * i)).take 16))) h) 0
  let ks := ((List.range ((ct.length + 15) / 16)).map (fun i => aesBlock key (iv ++ beBytes 4 (i + 2)))).flatten
  (xorBytes ct ks, xorBytes (beBytes 16 gh) (aesBlock key (iv ++ beBytes 4 1)))

/-! ## P-384 -/

/-- The field prime. -/
def p384P : Nat := 2 ^ 384 - 2 ^ 128 - 2 ^ 96 + 2 ^ 32 - 1
/-- The group order. -/
def p384N : Nat := 0xFFFFFFFFFFFFFFFFFFFFFFFFFFFFFFFFFFFFFFFFFFFFFFFFC7634D81F4372DDF581A0DB248B0A77AECEC196ACCC52973
/-- The coefficient b. -/
def p384B : Nat := 0xB3312FA7E23EE7E4988E056BE3F82D19181D9C6EFE8141120314088F5013875AC656398D8A2ED19D2A85C8EDD3EC2AEF
/-- The base point. -/
def p384G : Nat × Nat :=
  (0xAA87CA22BE8B05378EB1C71EF320AD746E1D3B628BA79B9859F741E082542A385502F25DBF55296C3A545E3872760AB7,
   0x3617DE4A96262C6F5D9E98BF9292DC29F8F41DBD289A147CE9DA3113B5F0B8C00A60B1CE1D7E819D7A431D7C90EA0E5F)

/-- A power modulo `m`, over the bits of the exponent from the top. -/
def powMod (m b e : Nat) : Nat :=
  (List.range 384).foldl (fun r i => if bitOf e (383 - i) then r * r % m * b % m else r * r % m) 1

/-- The inverse modulo a prime. -/
def invMod (m x : Nat) : Nat := powMod m (x % m) (m - 2)

/-- Addition of points; none is the point at infinity. -/
def ptAdd (a b : Option (Nat × Nat)) : Option (Nat × Nat) :=
  match a, b with
  | none, q => q
  | q, none => q
  | some (x1, y1), some (x2, y2) =>
    if x1 = x2 ∧ (y1 + y2) % p384P = 0 then none
    else
      let l := if x1 = x2 then (3 * x1 * x1 + (p384P - 3)) * invMod p384P (2 * y1)
        else (y2 + (p384P - y1)) * invMod p384P (x2 + (p384P - x1))
      let l := l % p384P
      let x3 := (l * l + (p384P - x1) + (p384P - x2)) % p384P
      some (x3, (l * (x1 + (p384P - x3)) + (p384P - y1)) % p384P)

/-- A multiple of a point. -/
def ptMul (k : Nat) (q : Option (Nat × Nat)) : Option (Nat × Nat) :=
  (List.range 384).foldl (fun r i => if bitOf k (383 - i) then ptAdd (ptAdd r r) q else ptAdd r r) none

/-- A point from its 97 bytes, 0x04 then X then Y; none unless it lies on the curve. -/
def ptOfBytes (b : List Byte) : Option (Nat × Nat) :=
  let x := beAt b 1 48
  let y := beAt b 49 48
  if b.length = 97 ∧ b.headD 0 = 4 ∧ x < p384P ∧ y < p384P ∧ y * y % p384P = (x * x * x + (p384P - 3) * x + p384B) % p384P then some (x, y) else none

/-- The 97 bytes of a point. -/
def ptBytes (q : Option (Nat × Nat)) : List Byte :=
  match q with
  | some (x, y) => [4] ++ beBytes 48 x ++ beBytes 48 y
  | none => []

/-- ECDSA P-384 with SHA-384: the signature, r then s, verifies under the public key. -/
def ecdsaVerify (key m sig : List Byte) : Bool :=
  match ptOfBytes key with
  | none => false
  | some q =>
    let r := beAt sig 0 48
    let t := beAt sig 48 48
    if sig.length = 96 ∧ 0 < r ∧ r < p384N ∧ 0 < t ∧ t < p384N then
      let z := beNum (sha384 m)
      let w := invMod p384N t
      match ptAdd (ptMul (z * w % p384N) (some p384G)) (ptMul (r * w % p384N) (some q)) with
      | some (x, _) => decide (x % p384N = r)
      | none => false
    else false

/-- An ECDSA signature with private key `d` and per-signature number `k`. -/
def ecdsaSign (d k : Nat) (m : List Byte) : List Byte :=
  let z := beNum (sha384 m)
  let r := match ptMul (k % p384N) (some p384G) with
    | some (x, _) => x % p384N
    | none => 0
  beBytes 48 r ++ beBytes 48 (invMod p384N k * ((z + r * d) % p384N) % p384N)

/-! ## CRC-64 (ECMA-182) -/

/-- One byte taken into the CRC. -/
def crc64Step (c : Nat) (b : Byte) : Nat :=
  (List.range 8).foldl (fun c _ => if bitOf c 63 then Nat.xor (c * 2 % 2 ^ 64) 0x42F0E1EBA9EA3693 else c * 2 % 2 ^ 64)
    (Nat.xor c (b.toNat * 2 ^ 56))

/-- CRC-64, initial value 0. -/
def crc64 (m : List Byte) : Nat := m.foldl crc64Step 0

end Sys2Proof.Machine
end

