-- ==== Sys2Proof/Machine/SecOps.lean ====
section
/-! DEFINITION. Lifecycle, keys, roots, images, attestation and debug sessions (chapter 16). -/

namespace Sys2Proof.Machine

/-! ## Roots and lifecycle (R569 to R572, R579, R580) -/

/-- The serial number as bytes. -/
def serialBytes : List Byte := beBytes 8 Config.serial
/-- The lifecycle state in force, read at the last cold start. -/
def State.lc (s : State) : Nat := rf s .secLc [] 2 0
/-- An operator root. -/
def State.root (s : State) (r : Nat) : RootSlot := spGet ⟨0, []⟩ s.nv.roots r
/-- An operator root set; SEC_ROOTSTAT follows. -/
def State.setRoot (s : State) (r : Nat) (x : RootSlot) : State :=
  wf { s with nv := { s.nv with roots := spPut ⟨0, []⟩ s.nv.roots r x } } .secRootstat [] (2 * r - 1) (2 * r - 2) x.st

/-- A signature under a root: 0 good, 0x11 bad or a REVOKED root, 0x12 no such enrolled root. -/
def sigCheck (s : State) (root : Nat) (m sig : List Byte) : Nat :=
  if root = 0 then (if ecdsaVerify Config.vendorRoot m sig then 0 else 0x11)
  else if root = 1 ∨ root = 2 then
    match (s.root root).st with
    | 1 => if ecdsaVerify (s.root root).key m sig then 0 else 0x11
    | 2 => 0x11
    | _ => 0x12
  else 0x12

/-- A root that the table of R570 lets sign a transition. -/
def lcAuthority (s : State) (from_ to_ root : Nat) : Bool :=
  let op := decide (root = 1 ∨ root = 2) && decide ((s.root root).st ≠ 0)
  match from_, to_ with
  | 0, 1 | 1, 2 | 4, 1 => root = 0
  | 2, 3 => op
  | 2, 4 | 3, 4 => decide (root = 0) || op
  | f, 5 => decide (f < 5) && (decide (root = 0) || (op && decide (2 ≤ f)))
  | _, _ => false

/-- A transition the table of R570 lists. -/
def lcListed (from_ to_ : Nat) : Bool :=
  match from_, to_ with
  | 0, 1 | 1, 2 | 2, 3 | 2, 4 | 3, 4 | 4, 1 => true
  | f, 5 => decide (f < 5)
  | _, _ => false

/-- The checks of a transition token in their order (R572): 0x10 accepted. -/
def tokenCheck (s : State) (b : List Byte) : Nat :=
  let from_ := beAt b 12 1
  let to_ := beAt b 13 1
  let root := beAt b 14 1
  if beAt b 0 4 ≠ 0x54524E53 ∨ sliceBytes b 4 8 ≠ serialBytes ∨ from_ ≠ s.lc ∨ beAt b 15 1 ≠ s.nv.reentry then 0x12
  else if ¬ lcListed from_ to_ then 0x12
  else if ¬ lcAuthority s from_ to_ root then 0x12
  else if from_ = 4 ∧ to_ = 1 ∧ 3 ≤ s.nv.reentry then 0x13
  else
    let c := sigCheck s root (b.take 16) (sliceBytes b 16 96)
    if c = 0 then 0x10 else c

/-- The minimum VERSIONs rise to those in use (R584). -/
def raiseMinimums (s : State) : State :=
  { s with nv := { s.nv with minSec := max s.nv.minSec s.sec.secVersion,
                             minPol := if s.ctl.fwRuns then max s.nv.minPol (rf s .secBoot [] 31 16) else s.nv.minPol } }

/-- The fuses are written and the wipes of R570 done. -/
def lcTransition (s : State) (to_ : Nat) : State :=
  let from_ := s.lc
  let s1 := { s with nv := { s.nv with lc := to_ } }
  let wipe (s : State) (keep : Nat → Bool) : State := { s with nv := { s.nv with keys := s.nv.keys.filter (fun p => keep p.1) } }
  match from_, to_ with
  | 0, 1 =>
    let (d, s2) := draw s1 (p384N - 1)
    { s2 with nv := { s2.nv with idKey := d + 1 } }
  | 2, 3 => raiseMinimums s1
  | 4, 1 =>
    let s2 := wipe s1 (fun k => k < 2 || 12 < k)
    { s2 with nv := { s2.nv with roots := [], reentry := s2.nv.reentry + 1 } }
  | _, 4 => wipe s1 (fun k => k < 2 || 12 < k)
  | _, 5 => { s1 with nv := { s1.nv with keys := [], roots := [], idKey := 0 } }
  | _, _ => s1

/-- A root record (R580): 0x10 accepted, 0x11 bad signature, 0x12 everything else. -/
def rootCheck (s : State) (b : List Byte) : Nat :=
  let slot := beAt b 0 1
  let op := beAt b 1 1
  let signer := beAt b 2 1
  let m := b.take 109
  let sig := sliceBytes b 109 96
  let other := 3 - slot
  if b.length ≠ 205 ∨ sliceBytes b 4 8 ≠ serialBytes ∨ slot = 0 ∨ 2 < slot ∨ beAt b 3 1 ≠ 0 then 0x12
  else if op = 1 then
    if (s.root slot).st ≠ 0 then 0x12
    else if s.lc = 2 ∧ signer = slot then (if ecdsaVerify (sliceBytes b 12 97) m sig then 0x10 else 0x11)
    else if s.lc = 3 ∧ signer = other ∧ (s.root other).st ≠ 0 then (if sigCheck s other m sig = 0 then 0x10 else 0x11)
    else 0x12
  else if op = 2 then
    if (s.root slot).st ≠ 1 ∨ sliceBytes b 12 97 ≠ List.replicate 97 0 then 0x12
    else if s.lc = 2 ∧ signer ≤ 2 then
      (match sigCheck s signer m sig with
       | 0 => 0x10
       | c => c)
    else if s.lc = 3 ∧ (signer = 0 ∨ signer = other) ∧ (s.root other).st = 1 then
      (match sigCheck s signer m sig with
       | 0 => 0x10
       | c => c)
    else 0x12
  else 0x12

/-- A root record submitted: its code, and the slot's new state when accepted (R580). -/
def rootRecord (s : State) (b : List Byte) : Nat × State :=
  let c := rootCheck s b
  if c = 0x10 then
    let slot := beAt b 0 1
    let st := beAt b 1 1
    (c, raise (s.setRoot slot ⟨st, if st = 1 then sliceBytes b 12 97 else []⟩) 237 slot st)
  else (c, s)

/-! ## Images (R581 to R584) -/

/-- A firmware image whose header is one of R581 and whose bytes are all there. -/
def imageFormed (b : List Byte) (type : Nat) : Bool :=
  let len := beAt b 0x0C 4
  decide (beAt b 0 4 = 0x4657494D) && decide (beAt b 4 2 = 1) && decide (beAt b 6 2 = type) && decide (beAt b 0x0B 1 = 0)
    && decide (len % 64 = 0) && decide (len ≤ 1048576) && decide (128 + len + 96 ≤ b.length)

/-- A root permitted for an image type in the lifecycle state (R582). -/
def rootPermitted (s : State) (type root : Nat) : Bool :=
  if s.lc = 5 then false
  else if type = 2 ∧ (s.lc = 2 ∨ s.lc = 3) then decide (root = 0) || (decide (root = 1 ∨ root = 2) && decide ((s.root root).st ≠ 0))
  else root = 0

/-- The verification of an image (R582, R584): 0x10 good, 0x11 bad signature or not an image, 0x12 not permitted or below minimum. -/
def imageCheck (s : State) (type : Nat) (b : List Byte) : Nat :=
  if ¬ imageFormed b type then 0x11
  else
    let len := beAt b 0x0C 4
    let root := beAt b 0x0A 1
    match sigCheck s root (b.take (128 + len)) (sliceBytes b (128 + len) 96) with
    | 0 =>
      if ¬ rootPermitted s type root then 0x12
      else if beAt b 8 2 < (if type = 1 then s.nv.minSec else s.nv.minPol) then 0x12
      else 0x10
    | c => c

/-- An image lies in the first 960 KiB of policy slot 0 (A) or 1 (B) (R612). -/
def imageFits (slot : Nat) (b : List Byte) : Bool :=
  let base := 0x0100A00000 + slot * 0x100000
  decide (base ≤ beAt b 0x10 8) && decide (beAt b 0x10 8 + beAt b 0x0C 4 ≤ base + 960 * 1024)

/-- The body of an image put at its load address. -/
def loadImage (s : State) (b : List Byte) : State := sramPoke s (beAt b 0x10 8) (sliceBytes b 128 (beAt b 0x0C 4))

/-! ## Keys (R573 to R578) -/

/-- The material of a key slot; none while it holds no key. -/
def State.keySlot (s : State) (k : Nat) : Option (List Byte) := (s.nv.keys.find? (fun p => p.1 = k)).map (·.2.2)
/-- The stored generation of a slot. -/
def State.keyGen (s : State) (k : Nat) : Nat :=
  match s.nv.keys.find? (fun p => p.1 = k) with
  | some (_, g, _) => g
  | none => 0

/-- The slot of the key that a session uses (R474). -/
def sessionSlot (t : Transport) (key : Nat) : Nat :=
  match t, key with
  | .port n, 0 => 3 + n
  | _, 1 => 2
  | _, 2 => 1
  | _, _ => 0

/-- The TAG of a frame under a key's material; KEY 3 has none (R475). -/
def tagOf (key : Nat) (material : List Byte) (b : List Byte) : List Byte :=
  if key = 3 then List.replicate 16 0 else (hmac256 material b).take 16

/-- SEC_KEYSTAT follows the slots. -/
def keyStat (s : State) : State :=
  wr s .secKeystat [] ((s.nv.keys.map (fun p => 2 ^ p.1)).sum + (if s.nv.idKey = 0 then 0 else 1))

/-- The bounds of N for a slot (R573). -/
def keyLength (k n : Nat) : Bool :=
  if 1 ≤ k ∧ k ≤ 6 then n = 36 else if 7 ≤ k ∧ k ≤ 10 then decide (38 ≤ n ∧ n ≤ 69) else if k = 11 then n = 20
  else decide (k = 12) && decide (n = 24)

/-- The lifecycle states in which a role writes a slot; none where it never does (R573). -/
def keyStates (role : Role) (k : Nat) : List Nat :=
  match role with
  | .service => if k = 1 then [1, 2, 3, 4] else if k = 2 then [1] else if k = 12 then [1, 4] else []
  | .operator => if 2 ≤ k ∧ k ≤ 12 then [2, 3] else []
  | .tenant _ => []

/-- A key envelope's result (R576): Diong status ACCESS 3, LENGTH 6, STATE 0x0C, or the object result; with it the plaintext. -/
def envelopeCheck (s : State) (role : Role) (k : Nat) (b : List Byte) : Nat × List Byte :=
  let n := beAt b 2 2
  if keyStates role k = [] then (3, [])
  else if s.lc ∉ keyStates role k then (0x0C, [])
  else if beAt b 0 1 ≠ k ∨ ¬ keyLength k n ∨ b.length ≠ 129 + n then (6, [])
  else
    match ptMul s.nv.idKey (ptOfBytes (sliceBytes b 4 97)) with
    | none => (0x11, [])
    | some (x, _) =>
      let key := hkdf384 serialBytes (beBytes 48 x) [0x43, 0x52, 0x56, 0x4B, BitVec.ofNat 8 k]
      let (pt, tag) := gcm key (sliceBytes b 101 12) (b.take 4 ++ serialBytes) (sliceBytes b 113 n)
      if beAt b 1 1 ≠ 1 ∨ tag ≠ sliceBytes b (113 + n) 16 then (0x11, [])
      else if beAt pt 0 4 ≤ s.keyGen k then (0x12, [])
      else (0x10, pt)

/-! ## Debug sessions (R586 to R596) -/

/-- An engine halted by debug goes on where it was: to the job it has, else SPARE or idle. -/
def resumeEngine (s : State) (e : Nat) : State :=
  let x := s.eng e
  if x.st = .halted then s.setEng e { x with st := if x.job.isSome then .running else if x.wasSpare then .spare else .idle, wasSpare := false } else s

/-- A pair holds a verified image. -/
def State.pairVerified (s : State) (p : Nat) : Bool := if p = 0 then s.ctl.verifiedA else s.ctl.verifiedB

/-- Policy firmware runs no more: the heart items go stale, and so do the sets that predistortion adaptation governs (R26, R295, R371,
R372). -/
def firmwareStops (s : State) : State :=
  let old := (List.range 64).map s.staleItems
  let dpd := (List.range 64).map s.dpdStale
  let s1 := markOn { s with ctl := { s.ctl with fwRuns := false, governedStale := true } } (markKey 4 0)
  (List.range 64).foldl (fun s p =>
    let s2 := if old.getD p 0 = 0 ∧ s.staleItems p ≠ 0 then raise s 102 NA p else s
    if ¬ dpd.getD p true ∧ s2.dpdStale p then raise s2 81 NA p else s2) s1

/-- The active pair can run policy firmware: it holds a verified image, is not stopped, and debug does not halt it (R25, R597). -/
def State.canRun (s : State) : Bool :=
  s.pairVerified s.ctl.active && ¬ s.pairStopped s.ctl.active && ¬ rbit s .dbgCoreCtrl [] s.ctl.active

/-- The active pair runs policy firmware if it can; what firmware governs is live or stale with it (R26). -/
def firmwareResumes (s : State) : State :=
  if s.canRun then markOff { s with ctl := { s.ctl with fwRuns := true, governedStale := false } } (markKey 4 0)
  else if s.ctl.fwRuns then firmwareStops s
  else markOn { s with ctl := { s.ctl with governedStale := true } } (markKey 4 0)

/-- Debug halts and breakpoints are released (R595, R596). -/
def releaseHalts (s : State) : State :=
  let s1 := (List.range 18).foldl resumeEngine s
  let s2 := wr (wr s1 .dbgEngHalt [] 0) .dbgCoreCtrl [] 0
  if rbit s .dbgCoreCtrl [] s.ctl.active then firmwareResumes s2 else s2

/-- A TAP instruction of boundary scan gives way to IDCODE (R596). -/
def releaseScan (s : State) : State := if s.scanInForce then drainRise { s with sec := { s.sec with tapIr := 0x02 } } else s

/-- What a session leaves when it ends (R596): halts, breakpoints and FREEZE bits set by debug are released, boundary scan gives way to IDCODE,
and the level is D0. -/
def sessionLeaves (s : State) : State :=
  let s1 := releaseHalts s
  let s2 := s1.sec.frozen.foldl (fun s b => wbit s .memBankCtrl [b] 0 false) s1
  wf (releaseScan { s2 with sec := { s2.sec with frozen := [], session := none, dbgLevel := 0 } }) .dbgStat [] 1 0 0

/-- The debug session ends (R596). -/
def endDebug (s : State) : State :=
  match s.sec.session with
  | none => s
  | some x => raise (sessionLeaves s) 240 x.level NA

/-- The debug session is suspended at step 4 of an entry (R595, R596): its challenge wiped, level D0, the former level kept. -/
def suspendDebug (s : State) (target : Nat) : State :=
  match s.sec.session with
  | none => { s with sec := { s.sec with chal := none } }
  | some x =>
    let s1 := sessionLeaves { s with sec := { s.sec with chal := none } }
    raise (wf (wbit s1 .dbgStat [] 3 true) .dbgStat [] 5 4 x.level) 241 x.level target

/-- Sessions that satisfy a test close; a tunnel session they opened ends with them (R478, R577, R596). -/
def closeSessions (s : State) (p : Session → Bool) : State :=
  let gone := s.diong.sessions.filter p
  let s1 := { s with diong := { s.diong with sessions := s.diong.sessions.filter (fun x => ¬ p x) } }
  match s1.sec.session with
  | some x => match x.owner with
    | some (t, id) => if gone.any (fun g => decide (g.transport = t) && decide (g.id = id)) then endDebug s1 else s1
    | none => s1
  | none => s1

/-- A key envelope written to a slot (R576 to R578): its result, and the sessions that used the slot closed. -/
def keyEnvelope (s : State) (role : Role) (k : Nat) (b : List Byte) : Nat × State :=
  let (c, pt) := envelopeCheck s role k b
  if c = 0x10 then
    let gen := beAt pt 0 4
    let old := match s.keySlot k with
      | some m => if 7 ≤ k ∧ k ≤ 10 then spPut (0, []) s.sec.oldCak (k - 7) (s.clk.elapsed + 1, m) else s.sec.oldCak
      | none => s.sec.oldCak
    let s1 := { s with nv := { s.nv with keys := spInsert k (gen, pt.drop 4) (spErase s.nv.keys k) }, sec := { s.sec with oldCak := old } }
    let s2 := raise (keyStat s1) 235 k (gen % 2 ^ 16)
    (c, if k ≤ 6 then closeSessions s2 (fun x => sessionSlot x.transport x.key = k) else s2)
  else (c, raise s 236 k c)

/-- The current challenge, unless it has expired (R589). -/
def State.challenge (s : State) : Option (Nat × List Byte) :=
  match s.sec.chal with
  | some (id, b, t) => if s.clk.elapsed < t + 60 * secTicks then some (id, b) else none
  | none => none

/-- Failures are locked out now (R591). -/
def State.lockedOut (s : State) : Bool :=
  match s.sec.lockout with
  | some t => decide (s.clk.elapsed < t + 60 * secTicks)
  | none => false

/-- A read of the current challenge; a new one is issued when there is none (R589, R591). -/
def challengeRead (s : State) : (Nat × List Byte) × State :=
  if s.lockedOut then ((0, List.replicate 48 0), s)
  else match s.challenge with
    | some c => (c, s)
    | none =>
      let (b, s1) := drawBytes s 48
      let id := (s1.sec.chalNo + 1) % 2 ^ 32
      ((id, b), wr { s1 with sec := { s1.sec with chal := some (id, b, s1.clk.elapsed), chalNo := id } } .dbgChalId [] id)

/-- A level and root permitted in the lifecycle state (R592). -/
def levelPermitted (lc level root : Nat) : Bool :=
  decide (1 ≤ level ∧ level ≤ 3) &&
  match lc with
  | 0 => root = 0xFF
  | 1 | 4 => root = 0
  | 2 => root ≤ 2
  | 3 => if level = 1 then root ≤ 2 else decide (root = 1 ∨ root = 2)
  | _ => false

/-- A tenant is active for consent: the straps enable it and its Diong slot holds a key (R593). -/
def State.tenantActive (s : State) (n : Nat) : Bool := decide (n < s.tenants) && (s.keySlot (3 + n)).isSome

/-- The consent of a D3 response in DEPLOYED (R593): exactly one valid token for each active tenant. -/
def consentComplete (s : State) (b chal : List Byte) : Bool :=
  let act := (List.range 4).filter s.tenantActive
  let n := beAt b 11 1
  let toks := (List.range n).map (fun j => (beAt b (116 + 17 * j) 1, sliceBytes b (117 + 17 * j) 16))
  decide (n = act.length) && act.all (fun t =>
    decide ((toks.filter (fun x => x.1 = t)).length = 1) && toks.all (fun x => ¬ (x.1 = t) ||
      match s.keySlot (3 + t) with
      | some k => decide (x.2 = (hmac256 k (serialBytes ++ sliceBytes b 12 4 ++ chal)).take 16)
      | none => false))

/-- An entry to NAP or deeper runs. -/
def State.deepEntry (s : State) : Bool :=
  match s.pwr.req with
  | some r => decide (0 < s.pwr.step) && decide (3 ≤ r.target)
  | none => false

/-- The checks of a debug response in their order (R591). -/
def responseCheck (s : State) (path : Nat) (b : List Byte) : Nat :=
  match s.challenge with
  | none => 0x13
  | some (id, chal) =>
    let level := beAt b 8 1
    let root := beAt b 10 1
    if beAt b 12 4 ≠ id then 0x13
    else if b.take 8 ≠ serialBytes ∨ beAt b 9 1 ≠ path then 0x12
    else if ¬ levelPermitted s.lc level root then 0x12
    else
      let sig := if s.lc = 0 then 0 else sigCheck s root (b.take 20 ++ chal) (sliceBytes b 20 96)
      if sig ≠ 0 then sig
      else if s.lc = 3 ∧ level = 3 ∧ ¬ consentComplete s b chal then 0x14
      else if 1 < s.pwr.depth ∨ s.deepEntry then 0x15
      else 0x10

/-- A debug response submitted (R589, R591): the challenge it names is consumed, the session granted, or the failure counted. -/
def debugResponse (s : State) (path : Nat) (b : List Byte) (owner : Option (Transport × Nat)) : Nat × State :=
  let c := responseCheck s path b
  let named := match s.challenge with
    | some (id, _) => decide (beAt b 12 4 = id)
    | none => false
  let s1 := if named then { s with sec := { s.sec with chal := none } } else s
  let s2 := wf s1 .dbgStat [] 23 16 c
  if c = 0x10 then
    let level := beAt b 8 1
    let x : DbgSession := ⟨level, path, s2.clk.elapsed + beAt b 16 2 * 60 * secTicks, owner⟩
    let s3 := { s2 with sec := { s2.sec with session := some x, dbgLevel := level } }
    (c, raise (wbit (wf (wf s3 .dbgStat [] 1 0 level) .dbgStat [] 2 2 path) .dbgStat [] 3 false) 238 level path)
  else
    let now := s2.clk.elapsed
    let fails := now :: s2.sec.fails.filter (fun t => now < t + 600 * secTicks)
    let s3 := stat (raise s2 239 c path) 0xC050 6
    (c, if 8 ≤ fails.length then { s3 with sec := { s3.sec with fails := [], lockout := some now, chal := none } }
        else { s3 with sec := { s3.sec with fails := fails } })

/-! ## Attestation (R585) -/

/-- An attestation report over a nonce. -/
def attest (s : State) (nonce : List Byte) : State :=
  let rootHash (r : Nat) : List Byte := if (s.root r).st = 1 then sha384 (s.root r).key else List.replicate 48 0
  let slot := rf s .secBoot [] 0 0
  let b := serialBytes ++ beBytes 1 s.lc ++ beBytes 1 s.nv.reentry ++ beBytes 2 s.sec.secVersion ++
    beBytes 2 (if s.ctl.fwRuns then rf s .secBoot [] 31 16 else 0) ++ beBytes 1 slot ++ beBytes 1 s.sec.dbgLevel ++
    sliceBytes nonce 0 48 ++ rootHash 1 ++ rootHash 2 ++ beBytes 8 s.adm.epoch ++ sliceBytes (spGet [] s.diong.digests 4) 0 32
  let (k, s1) := draw s (p384N - 1)
  { s1 with sec := { s1.sec with report := b ++ ecdsaSign s1.nv.idKey (k + 1) b } }

end Sys2Proof.Machine
end

