-- ==== Sys2Proof/Machine/SvcOps.lean ====
section
/-! DEFINITION. Lane and engine faults, firmware hand-over, NV wear (chapter 17), and the lockstep fault of chapter 1. -/

namespace Sys2Proof.Machine

/-! ## Hand-over state (CTL_FW_STAT) -/

/-- The hand-over's state: 0 IDLE, 1 PENDING, 2 SAVING, 3 PROBATION. -/
def State.ho (s : State) : Nat := rf s .ctlFwStat [] 7 5
/-- The hand-over's state set. -/
def State.setHo (s : State) (v : Nat) : State := wf s .ctlFwStat [] 7 5 v
/-- The standby's state: 0 EMPTY, 1 LOADING, 2 BOOTING, 3 READY, 4 FAILED. -/
def State.standby (s : State) : Nat := rf s .ctlFwStat [] 4 2
/-- The standby's state set. -/
def State.setStandby (s : State) (v : Nat) : State := wf s .ctlFwStat [] 4 2 v
/-- The hand-over's result set. -/
def State.setHoResult (s : State) (v : Nat) : State := wf s .ctlFwStat [] 11 8 v
/-- The slot the active pair runs: 0 A, 1 B. -/
def State.activeSlot (s : State) : Nat := rf s .ctlFwStat [] 1 1
/-- A pair's record set. -/
def State.setPair (s : State) (p : Nat) (stopped verified : Bool) : State :=
  if p = 0 then { s with ctl := { s.ctl with stoppedA := stopped, verifiedA := verified } }
  else { s with ctl := { s.ctl with stoppedB := stopped, verifiedB := verified } }

/-- The flash is written (R504, R634): for the device tag alone, and only a policy slot. -/
def flashWrite (s : State) (tag slot : Nat) (b : List Byte) : State :=
  if tag ≠ 4 then firewall s tag
  else if slot < 2 then { s with nv := { s.nv with flash := spPut [] s.nv.flash (2 + slot) b } }
  else s

/-- The pairs exchange roles: the other pair, with the other slot, is active; SEC_BOOT shows the image in use. -/
def exchange (s : State) : State :=
  let slot := 1 - s.activeSlot
  let s0 := wf (wf s .secBoot [] 0 0 slot) .secBoot [] 31 16 (beAt (spGet [] s.nv.flash (2 + slot)) 8 2)
  let s1 := wf (wf s0 .ctlFwStat [] 1 1 slot) .ctlFwStat [] 0 0 (1 - s.ctl.active)
  firmwareResumes { s1 with ctl := { s1.ctl with active := 1 - s.ctl.active } }

/-- A hand-over ends without success: PROMOTED 5, FAILED 6 or CANCELLED 7 (R618). -/
def hoFails (s : State) (result : Nat) : State := raise ((s.setHo 0).setHoResult result) 248 result NA

/-- A hand-over in probation reverts (R617): the old pair is active again, the new image invalid. -/
def hoReverts (s : State) : State :=
  let newSlot := s.activeSlot
  let newPair := s.ctl.active
  let s2 := exchange ((s.setPair newPair true false).setPair (1 - newPair) false true)
  let s3 := flashWrite { s2 with ctl := { s2.ctl with promoteDue := false } } 4 newSlot []
  raise ((((wr s3 .ctlFwSig [] 0).setHo 0).setHoResult 8).setStandby 4) 249 (1 - newSlot) NA

/-- A lockstep fault (R24 to R26, R617, R618). -/
def lockstepFault (s : State) (pair : Nat) : State :=
  let s1 := raise (s.setPair pair true (s.pairVerified pair)) 226 pair NA
  if pair = s1.ctl.active then
    let s2 := if s1.ho = 1 ∨ s1.ho = 2 then hoFails s1 5 else s1
    let s3 := firmwareStops s2
    { s3 with ctl := { s3.ctl with promoteDue := true } }
  else if s1.ho = 1 ∨ s1.ho = 2 then (hoFails s1 6).setStandby 4
  else s1

/-- The promotion that follows at a slot boundary (R25, R617).  A standby pair that has stopped on a lockstep fault of its own is not
promoted, though it holds a verified image: R25 does not speak of it (DESIGN CHOICE, assumption 100). -/
def promote (s : State) : State :=
  let other := 1 - s.ctl.active
  if s.ho = 3 then hoReverts s
  else
    let s1 := { s with ctl := { s.ctl with promoteDue := false } }
    if s1.pairVerified other ∧ ¬ s1.pairStopped other then exchange s1 else s1

/-- A policy image for the standby slot (R613): 0x10 accepted, 0x11 bad signature, 0x12 not permitted or below minimum, 0x13 does not
fit; BUSY 7 while a hand-over runs. -/
def standbyImage (s : State) (b : List Byte) : Nat × State :=
  if s.ho ≠ 0 then (7, s)
  else
    let slot := 1 - s.activeSlot
    let c := imageCheck s 2 b
    if c ≠ 0x10 then (c, raise s 234 2 NA)
    else if ¬ imageFits slot b then (0x13, s)
    else
      let s1 := loadImage (flashWrite s 4 slot b) b
      -- LOADING, then BOOTING: the pair is reset and started at ENTRY
      (0x10, (s1.setPair (1 - s1.ctl.active) false false).setStandby 2)

/-- A power-state request is in flight. -/
def State.pwrBusy (s : State) : Bool :=
  s.pwr.req.isSome || s.pwr.switch.isSome || (s.pwr.exit.isSome && decide (rf s .pwrReqStat [] 3 0 = 2))

/-- A hand-over request (R614): its boundary, or its refusal. -/
def hoRequest (s : State) (boundary tick : Nat) : State :=
  if boundary = 0 ∨ 3 < boundary then s
  else if s.standby ≠ 3 then s.setHoResult 2
  else if s.ho ≠ 0 then s.setHoResult 3
  else
    let from_ := s.now + 983040
    if boundary = 3 ∧ tick < from_ then s.setHoResult 9
    else if s.pwrBusy then s.setHoResult 4
    else
      let tb := if boundary = 1 then nextSlot s.frameOfs s.refMu s.refEcp from_ else if boundary = 2 then nextFrame s.frameOfs from_ else tick
      let s1 := wr { s with svc := { s.svc with tb := tb } } .ctlFwSig [] 0
      (wbit (s1.setHoResult 0) .ctlFwStat [] 12 false).setHo 1

/-! ## Lane faults (R600 to R604) -/

/-- The position an active lane serves. -/
def positionOf (s : State) (c k : Nat) : Option Nat :=
  let m := (s.lanes c).map
  (List.range 8).find? (fun pos => m.getD pos pos = k)

/-- A lane's fault (R600 to R604): an ACTIVE lane's position asks for a FAULT move, and without a spare the lane retires and the path
fails; a SPARE or WARMING lane retires, and a move in progress ends NO_SPARE. -/
def laneFault (s : State) (c k : Nat) : State :=
  let l := s.lanes c
  if k ∈ l.retired then s
  else match positionOf s c k with
    | some pos =>
      let p := 8 * c + pos
      let s1 := raise s 250 c pos
      if l.spare.isNone then failPath (retireLane s1 c k) p
      else
        let s2 := markOn { s1 with svc := { s1.svc with faulty := if (c, pos) ∈ s1.svc.faulty then s1.svc.faulty else s1.svc.faulty ++ [(c, pos)] } }
          (markKey 8 p)
        if l.move = 0 ∧ ¬ s.rx.rolling then requestMove s2 c pos true
        else if l.move ≠ 0 ∧ l.pos = pos then s2.setLanes c { l with fault := true }
        else s2.setLanes c { l with waiting := l.waiting ++ [pos] }
    | none =>
      if l.spare = some k then
        let s1 := raise s 250 c (if l.move = 0 then 8 else l.pos)
        let s2 := if l.move = 0 then s1 else s1.setLanes c { l with move := 0, result := 3 }
        let s3 := retireLane s2 c k
        nextFault (s3.setLanes c { s3.lanes c with spare := none }) c
      else s

/-! ## Engine faults (R606 to R609) -/

/-- An engine retires (R606): its jobs end ABORTED, and the spare that will take over is named; with none left admission repeats.  A retirement by
command is a spare insertion that stops while no policy firmware runs (R26, R599). -/
def retireEngine (s : State) (e : Nat) (byCommand : Bool) : State :=
  let x := s.eng e
  if e < 18 ∧ x.st ≠ .retired ∧ (byCommand → s.ctl.fwRuns) then
    let s2 := abortJobs s e
    let s3 := s2.setEng e { s2.eng e with st := .retired }
    let s4 := { s3 with nv := { s3.nv with engRetired := setIns e s3.nv.engRetired } }
    if x.st = .spare ∨ (x.st = .halted ∧ x.wasSpare) then spareUsed (raise s4 251 e NA) 7 e
    else
      match (List.range 18).find? (fun i => (s4.eng i).st = .spare) with
      | some sp => { raise s4 251 e sp with svc := { s4.svc with takeover := s4.svc.takeover ++ [(e, byCommand)] } }
      | none => readmit (raise s4 251 e NA)
  else s

/-- The lowest SPARE engine takes the place of a retired one (R607, R608); with none left by then admission repeats (R82). -/
def spareTakesOver (s : State) (e : Nat) (byCommand : Bool) : State :=
  match (List.range 18).find? (fun i => (s.eng i).st = .spare) with
  | some sp =>
    let x := s.eng e
    let y := loadEngine s [] (s.eng sp)
    let y1 : Eng := { y with st := .idle, rels := x.rels, ready := x.ready, dmem := if byCommand then (keepPersist x y []).dmem else y.dmem, placed := x.placed }
    let n := s.engNumber e
    let s1 := (s.setEng sp y1).setEng e { x with rels := [], ready := [] }
    let s2 := { s1 with ge := { s1.ge with number := spPut 0 s1.ge.number sp (n + 1) },
                        svc := { s1.svc with takeover := s1.svc.takeover.filter (fun t => t.1 ≠ e) } }
    spareUsed s2 7 sp
  | none => readmit { s with svc := { s.svc with takeover := s.svc.takeover.filter (fun t => t.1 ≠ e) } }

/-! ## Firmware signals (CTL_FW_SIG) and debug control of cores and engines -/

/-- READY: the standby image has booted (R613). -/
def fwReady (s : State) (pair : Nat) : State :=
  if pair = 1 - s.ctl.active ∧ s.standby = 2 then
    raise ((s.setStandby 3).setPair pair false true) 246 (1 - s.activeSlot) NA
  else s

/-- SAVED: the active pair's state lies in the hand-over block (R615). -/
def fwSaved (s : State) (pair : Nat) : State :=
  if pair = s.ctl.active ∧ s.ho = 2 then wbit s .ctlFwSig [] 1 true else s

/-- ALIVE: the new active pair runs, within 100 ms of t_b (R616). -/
def fwAlive (s : State) (pair : Nat) : State :=
  if pair = s.ctl.active ∧ s.ho = 3 ∧ s.clk.elapsed - s.svc.probAt + s.svc.probDone ≤ 49152000 then wbit s .ctlFwSig [] 2 true else s

/-- A write of CTL_FW_SIG: a bit is set only by the pair that R625 names. -/
def fwSignal (s : State) (m : Master) (tag v : Nat) : State :=
  match m with
  | .pair b =>
    if s.pairStopped b then s else
    let wrong := (bitOf v 0 && decide (b = s.ctl.active)) || ((bitOf v 1 || bitOf v 2) && decide (b ≠ s.ctl.active))
    let s1 := if bitOf v 0 then fwReady s b else s
    let s2 := if bitOf v 1 then fwSaved s1 b else s1
    let s3 := if bitOf v 2 then fwAlive s2 b else s2
    if wrong then firewall s3 tag else s3
  | _ => firewall s tag

/-- The active pair halted by debug stands still, and goes on when it is released (R597): R26 applies while halted. -/
def coreCtrl (s : State) (v : Nat) : State :=
  let was := rbit s .dbgCoreCtrl [] s.ctl.active
  let s1 := wf s .dbgCoreCtrl [] 1 0 (v % 4)
  if bitOf v s.ctl.active ∧ ¬ was ∧ s.ctl.fwRuns then firmwareStops s1
  else if ¬ bitOf v s.ctl.active ∧ was then firmwareResumes s1
  else s1

/-- An engine is HALTED at its next bundle boundary, or goes on where it was (DBG_ENG_HALT). -/
def engineHalt (s : State) (e : Nat) (halt : Bool) : State :=
  if halt then
    let st := (s.eng e).st
    let s1 := if st = .running ∧ (s.eng e).bundle.slots ≠ [] then endBundle s e else s
    if st = .idle ∨ st = .running ∨ st = .draining ∨ st = .spare then
      s1.setEng e { s1.eng e with st := .halted, wasSpare := decide (st = .spare) }
    else s
  else resumeEngine s e

/-- A write of DBG_ENG_HALT. -/
def engineHalts (s : State) (v : Nat) : State :=
  (List.range 18).foldl (fun s e =>
    if bitOf v e = rbit s .dbgEngHalt [] e then s else wbit (engineHalt s e (bitOf v e)) .dbgEngHalt [] e (bitOf v e)) s

/-- GO of PWR_BOOT, boot source 3 (R635). -/
def bootGo (s : State) (v : Nat) : State :=
  if bitOf v 9 ∧ s.straps.bootSource = 3 ∧ rf s .pwrBoot [] 3 0 = 2 then
    wbit { s with boot := { s.boot with go := true } } .pwrBoot [] 9 true
  else s

/-! ## NV wear (R623, R624) -/

/-- Words of the NV store: its 4 MiB window. -/
def nvWords : Nat := 0x400000 / 8

/-- The highest write count of a word. -/
def State.nvHighest (s : State) : Nat := (s.nv.words.map (·.2)).foldl max 0
/-- Life used, in 0.01 % of 10⁹ writes. -/
def State.nvLife (s : State) : Nat := s.nvHighest * 10000 / 1000000000

/-- One write of a word (R623): counted under its cause, 0 STORE, 1 base-note learning, 2 other. -/
def nvCount (s : State) (word kind : Nat) : State :=
  { s with nv := { s.nv with wTotal := s.nv.wTotal + 1, wStore := s.nv.wStore + b2n (kind = 0), wLearn := s.nv.wLearn + b2n (kind = 1),
                             wOther := s.nv.wOther + b2n (1 < kind), words := spMod 0 s.nv.words word (· + 1) } }

/-- The wear steps of R624 passed at a life used: 80.00 % and every further 5.00 %. -/
def wearStep (life : Nat) : Nat := if life < 8000 then 0 else (life - 8000) / 500 + 1

end Sys2Proof.Machine
end

