-- ==== Sys2Proof/Machine/PowerOps.lean ====
section
/-! DEFINITION. The power-state sequencer: requests, entry, abandonment, exit, wakes (chapter 14), and what STORE saves. -/

namespace Sys2Proof.Machine

/-! ## STORE (R486, R367, R139) -/

/-- Every index and sub-index of the dictionary's configuration objects: those with a commit class. -/
def configKeys : List (Nat × Nat) :=
  ((objRows.filter (fun r => r.cls ≠ .none)).map (fun r =>
    ((List.range r.count).map (fun i =>
      (List.range (r.sub1 + 1 - r.sub0)).map (fun k => (r.base + r.stride * i, r.sub0 + k)))).flatten)).flatten

/-- STORE bit 0: every committed configuration object and the safe levels. -/
def storeConfig (s : State) : State :=
  let img := configKeys.foldl (fun m k =>
    let v := s.obj k.1 k.2
    spPut (dfltObj s k.1 k.2) m (okey k.1 k.2) v) ([] : Sparse ObjVal)
  let s1 := (List.range 64).foldl (fun s p => s.setFe p { s.pathFe p with safeNv := s.pobj p 0x14 }) s
  { s1 with nv := { s.nv with
                   stored := some img,
                   safe := (List.range 64).foldl (fun m p => spPut 0 m p (s.pobj p 0x14)) s.nv.safe,
                   bdac := (List.range 128).foldl (fun m c =>
                     spPut 0 m c (setBits (rd s .bdacChCfg [c]) 15 15 (s.onum (0xB200 + c) 6))) s.nv.bdac } }

/-- The words of the last good set of a path (R282, R367): the fall-back set while a new one is in ramp or probation; none while that is
identity. -/
def lastGood (s : State) (p : Nat) : Sparse Nat :=
  let x := s.dpd p
  let coming := decide (x.st = .ramp) || decide (x.st = .probation)
  let b := if coming then 1 - x.bank else x.bank
  if (if coming then x.oldIdent else x.ident) then []
  else (List.range bankWords).foldl (fun m i => spPut 0 m i (x.word b i)) []

/-- STORE bit 1: base-note sets, crystal table, last good predistortion sets, converter state. -/
def storeCal (s : State) : State :=
  { s with nv := { s.nv with
                   base := s.cal.base, table := s.cal.table, written := s.cal.written, conv := s.cvt.conv, dac := s.cvt.dac,
                   dpdSets := (List.range 64).foldl (fun m p => spPut [] m p (lastGood s p)) s.nv.dpdSets },
           cal := { s.cal with dirty := [] } }

/-! ## State (R506, R512) -/

/-- Depth of a state: RUN and SLOTGATE share depth 0. -/
def depthOf (c : Nat) : Nat := c - 1
/-- The state the device last settled in. -/
def State.pwrState (s : State) : Nat := rf s .pwrStat [] 2 0
/-- The level. -/
def State.pwrLevel (s : State) : Nat := rf s .pwrStat [] 6 4
/-- An entry or exit runs. -/
def State.pwrMoving (s : State) : Bool := rbit s .pwrStat [] 3
/-- The level set. -/
def setLevel (s : State) (l : Nat) : State := wf s .pwrStat [] 6 4 l
/-- STATUS of the last request set. -/
def reqStatus (s : State) (v : Nat) : State := wf s .pwrReqStat [] 3 0 v
/-- The queue, and QVALID and QTARGET with it. -/
def setQueue (s : State) (q : Option PwrReq) : State :=
  let s1 := { s with pwr := { s.pwr with queue := q } }
  match q with
  | some r => wf (wbit s1 .pwrReqStat [] 7 true) .pwrReqStat [] 10 8 r.target
  | none => wf (wbit s1 .pwrReqStat [] 7 false) .pwrReqStat [] 10 8 0

/-- RTC cycles since OSC32 qualified, unlimited. -/
def State.rtcCycle (s : State) : Nat := (s.clk.elapsed - s.boot.rtcFrom.getD 0) / rtcTicks

/-- A refusal (R512). -/
def refuseReq (s : State) (status target : Nat) : State := raise (wf (reqStatus s status) .pwrReqStat [] 6 4 target) 218 status target

/-- The states in which each wake source can fire (R523), by state code. -/
def wakeAvailable (src state : Nat) : Bool :=
  match state with
  | 0 | 1 | 2 => src = 1 || src = 2 || src = 3 || src = 7 || src = 8
  | 3 => decide (1 ≤ src) && decide (src ≤ 7)
  | 4 => src = 1 || src = 2 || src = 3 || src = 6 || src = 7
  | 5 => src = 1 || src = 2 || src = 6
  | _ => false

/-- A source is enabled: its bit of AON_WAKE_EN, and for the wake receiver and the RTC alarm nothing more. -/
def wakeEnabled (s : State) (src : Nat) : Bool := decide (1 ≤ src ∧ src ≤ 7) && rbit s .aonWakeEn [] src

/-- Some enabled source is available in a target state. -/
def someWake (s : State) (target : Nat) : Bool := [1, 2, 3, 4, 5, 6, 7].any (fun x => wakeEnabled s x && wakeAvailable x target)

/-- The last-wake record (R529). -/
def recordWake (s : State) (src from_ : Nat) (abandoned : Bool) : State :=
  wr s .aonLastwake [] (src + from_ * 16 + b2n abandoned * 128 + s.rtc * 256)

/-- A wake counted (R529). -/
def countWake (s : State) (src : Nat) : State := bump s .aonWcnt [src]

/-! ## Islands (R22, R519, R522) -/

/-- An island powered down: crossings closed, clamps set, switch open. -/
def islandDown (s : State) (i : Nat) : State :=
  dropParked (islandSet s i ⟨false, true, false, true, false⟩) (fun _ q => decide (portIsland q = i))
/-- An island powered up: switch closed, reset done, clamps released, crossings open. -/
def islandUp (s : State) (i : Nat) : State := islandSet s i Island.up
/-- An island's clock stopped or running. -/
def islandClock (s : State) (i : Nat) (b : Bool) : State := islandSet s i { s.island i with clock := b }

/-- The engines, islands 13 to 30. -/
def engineIslands : List Nat := (List.range 18).map (· + 13)

/-- The pool loaded with the committed kernel set (R519, R607): the first sixteen engines not retired are IDLE, the rest SPARE. -/
def loadPool (s : State) : State :=
  let live := (List.range 18).filter (· ∉ s.nv.engRetired)
  (List.range 18).foldl (fun s e =>
    if e ∈ live then
      let x := loadEngine s [] Eng.reset
      s.setEng e { x with st := if e ∈ live.take 16 then .idle else .spare, rels := (s.eng e).rels, placed := (s.eng e).placed }
    else s.setEng e { Eng.reset with st := .retired }) s

/-! ## Entry (R513 to R518) -/

/-- The first step of an entry from a level. -/
def firstStep (level : Nat) : Nat := if level < 2 then 1 else if level = 2 then 3 else if level = 3 then 5 else 7
/-- The step that reaches a target. -/
def lastStep (target : Nat) : Nat := match target with
  | 2 => 2
  | 3 => 4
  | 4 => 6
  | _ => 7

/-- What happens at the start of a step (R513, R595). -/
def stepStart (s : State) (k target : Nat) : State :=
  let s1 := { s with pwr := { s.pwr with step := k } }
  if k = 2 then
    let s2 := allDrainsFall s1
    let s3 := { s2 with pwr := { s2.pwr with drnAt := s2.clk.elapsed },
                        hk := { s2.hk with safeAll := some (s2.clk.elapsed + 10 * msTicks) } }
    if 3 ≤ target then releaseHalts s3 else s3
  else s1

/-- A downward request begins (R513); a hand-over that has not reached t_b ends CANCELLED (R618). -/
def beginReq (s : State) (r : PwrReq) : State :=
  let s1 := if s.ho = 1 ∨ s.ho = 2 then hoFails s 7 else s
  let k := firstStep s.pwrLevel
  let s2 := wbit { s1 with pwr := { s1.pwr with req := some r, up := none, wake := none, exit := none, lockSince := none,
                                                last := lastStep r.target, accepted := s.now, acceptedAt := s.clk.elapsed } }
              .pwrStat [] 3 true
  let s3 := if r.hot then s2 else wf (reqStatus s2 2) .pwrReqStat [] 6 4 r.target
  stepStart s3 k r.target

/-- An exit to a state begins (R519). -/
def exitTo (s : State) (target : Nat) : State :=
  wbit { s with pwr := { s.pwr with req := none, up := none, wake := none, step := 0, exit := some target, lockSince := none,
                                    accepted := s.now } } .pwrStat [] 3 true

/-- A shutdown holds back upward requests (R564). -/
def State.shutdownHolds (s : State) : Bool := rbit s .thmStat [] 18

/-- A request evaluated with the device settled and nothing in flight (R511, R512, R523). -/
def startReq (s : State) (r : PwrReq) : State :=
  let here := s.pwrState
  if r.target = here then refuseReq s 7 r.target
  else if 4 ≤ r.target ∧ ¬ someWake s r.target then refuseReq s 8 r.target
  else if r.target < 2 ∧ here < 2 then
    wf (reqStatus { s with pwr := { s.pwr with switch := some r.target, accepted := s.now, acceptedAt := s.clk.elapsed } } 2)
      .pwrReqStat [] 6 4 r.target
  else if depthOf here < depthOf r.target then
    if s.pwr.wakeCycle = s.rtcCycle + 1 then
      -- a wake of the same cycle wins
      raise (recordWake (wf (reqStatus s 4) .pwrReqStat [] 6 4 r.target) s.pwr.wakeSrc here true) 217 s.pwr.wakeSrc here
    else beginReq s r
  else if s.shutdownHolds then setQueue (reqStatus s 1) (some r)
  else
    -- upward in DOZE: it acts as a wake, source 8
    let s1 := wf (reqStatus s 2) .pwrReqStat [] 6 4 r.target
    exitTo (countWake (recordWake s1 8 here false) 8) r.target

/-- A queued request starts when nothing is in flight (R517, R564). -/
def startQueued (s : State) : State :=
  match s.pwr.queue with
  | some r =>
    if depthOf r.target < s.pwr.depth ∧ s.shutdownHolds then s else startReq (setQueue s none) r
  | none => s

/-- The device settles in a state (R506, R515, R517). -/
def settle (s : State) (new : Nat) : State :=
  let old := s.pwrState
  let s1 := wbit (wf (setLevel s new) .pwrStat [] 2 0 new) .pwrStat [] 3 false
  let s2 := { s1 with pwr := { s1.pwr with req := none, up := none, step := 0, exit := none, lockSince := none, switch := none } }
  let s3 := if new = old then s2 else raise s2 216 new old
  match s3.pwr.wake with
  | some src =>
    let s4 := { s3 with pwr := { s3.pwr with wake := none } }
    if 2 ≤ new then exitTo (recordWake s4 src new false) s4.pwr.wakeTo else startQueued s4
  | none => startQueued s3

/-- A level from which the exit sequence back to a state takes no step: nothing of the entry has been done. -/
def leaveEntry (s : State) (target : Nat) : State :=
  if s.pwr.depth = depthOf target ∧ ¬ s.pwr.linkIdle then
    let s1 := if rf s .pwrReqStat [] 3 0 = 2 then reqStatus s 3 else s
    settle { s1 with pwr := { s1.pwr with wake := none } } target
  else exitTo s target

/-- An entry abandoned at an abort point (R515, R518). -/
def abandon (s : State) (r : PwrReq) (src : Nat) : State :=
  let s1 := raise (recordWake (reqStatus s 4) src r.from_ true) 217 src r.from_
  let s2 := match s1.pwr.up with
    | some u => if u.target = r.from_ then reqStatus s1 3 else setQueue s1 (some u)
    | none => s1
  leaveEntry s2 r.from_

/-- The abort point after a step, when there is one (R514, R517). -/
def abortPoint (s : State) (r : PwrReq) : Option State :=
  if r.hot then none
  else match s.pwr.wake, s.pwr.up with
    | some src, _ => some (abandon s r src)
    | none, some u => some (leaveEntry (wf (reqStatus s 2) .pwrReqStat [] 6 4 u.target) u.target)
    | none, none => none

/-- Step 1 ends: every path enters OFF (R507, R513). -/
def stepPathsOff (s : State) (target : Nat) : State :=
  stepStart (fgAbort (allPathsOff { s with pwr := { s.pwr with depth := 1 } })) 2 target

/-- Step 3: ports down, synthesisers OFF, the timeline on the crystal. -/
def stepLinkIdle (s : State) : State :=
  let s1 := (List.range 4).foldl portLost s
  let s2 := [0, 1, 2, 3].foldl synOff s1
  let s3 := holdover s2
  { s3 with pwr := { s3.pwr with linkIdle := true } }

/-- Step 4: engines, LO, SEC and DBG off, cores halted in retention (R513, R595, R618). -/
def stepNap (s : State) (target : Nat) : State :=
  let s1 := suspendDebug s target
  let s2 := (List.range 18).foldl (fun s e =>
    if (s.eng e).st = .retired then s else
    let s2 := abortJobs s e
    s2.setEng e { Eng.reset with st := .off, rels := (s2.eng e).rels, placed := (s2.eng e).placed }) s1
  let s3 := (engineIslands ++ [9, 32, 34]).foldl islandDown s2
  let s4 := [12, 31, 0, 1, 2, 3, 4, 5, 6, 7].foldl (fun s i => islandClock s i false) s3
  let s5 := if s4.ho = 3 ∧ ¬ s4.svc.probPaused then
      { s4 with svc := { s4.svc with probPaused := true, probDone := s4.svc.probDone + (s4.clk.elapsed - s4.svc.probAt) } } else s4
  setLevel { s5 with pwr := { s5.pwr with depth := 2 } } 3

/-- Step 6: bias outputs released, retention latched, islands down in their order, v_e and r_e recorded. -/
def stepListen (s : State) : State :=
  let s0 := safeDue (reachElapsed s (s.pwr.drnAt + 10 * msTicks))
  let s1 := (List.range 128).foldl (fun s c => s.setBias c { s.bias c with hiZ := true }) s0
  let s2 := { s1 with pwr := { s1.pwr with ve := s1.now, re := s1.rtc, down := true, depth := 3 } }
  setLevel ([33, 12, 31, 11, 9, 10, 0, 1, 2, 3, 4, 5, 6, 7].foldl islandDown s2) 4

/-- Step `k` of the entry is done: the entry ends after its last step, else its abort point may end it, else the next step starts (R513). -/
def entryDone (k : Nat) (s : State) (r : PwrReq) : State :=
  if k = s.pwr.last then
    let s1 := { s with pwr := { s.pwr with wakeTo := if r.back then r.from_ else 2 } }
    settle (if r.hot then s1 else reqStatus s1 3) r.target
  else match abortPoint s r with
    | some t => t
    | none => stepStart s (k + 1) r.target

/-- A step of the entry completes (R513 to R515, R517): its action, its abort point, and the next step or the end. -/
def entryStep (s : State) (r : PwrReq) : State :=
  let k := s.pwr.step
  let done (s : State) : State := entryDone k s r
  match k with
  | 1 =>
    let s1 := if r.hot then s else reachCount s (nextFrame s.frameOfs (s.pwr.accepted + 49152))
    (match abortPoint s1 r with
    | some t => t
    | none => stepPathsOff s1 r.target)
  | 2 =>
    -- running engine jobs complete first
    if (List.range 18).any (fun e => (s.eng e).job.isSome) then s
    else
      let s1 := engineIslands.foldl (fun s i => islandClock s i false) s
      done (setLevel (islandDown s1 8) 2)
  | 3 => done (stepLinkIdle s)
  | 4 => done (stepNap s r.target)
  | 5 => done (if rbit s .pwrCfg [] 0 then raise (storeConfig s) 231 0 NA else s)
  | 6 => done (stepListen s)
  | 7 => done (setLevel { s with pwr := { s.pwr with depth := 4 } } 5)
  | _ => s

/-! ## Requests (R512, R517) -/

/-- A request queued one deep: one already queued ends REPLACED. -/
def queueReq (s : State) (r : PwrReq) : State := setQueue (reqStatus s (if s.pwr.queue.isSome then 5 else 1)) (some r)

/-- A request made (R512, R517, R518).  In NAP and deeper none can be made. -/
def powerRequest (s : State) (target : Nat) (back : Bool) : State :=
  let r : PwrReq := ⟨target, back, s.pwrState, false⟩
  if 5 < target then s
  else match s.pwr.req with
    | some q =>
      if q.hot then queueReq s r
      else if depthOf s.pwrLevel < depthOf target then queueReq s r
      else { s with pwr := { s.pwr with up := some r } }
    | none =>
      if s.pwr.exit.isSome ∨ s.pwr.switch.isSome then queueReq s r
      else if 2 < s.pwrState then s
      else startReq s r

/-! ## Wakes (R515, R516, R518, R523, R529) -/

/-- A wake reaches the sequencer. -/
def wakeFires (s : State) (src : Nat) : State :=
  if src ≠ 8 ∧ ¬ wakeEnabled s src then s
  else
    let s0 := { s with pwr := { s.pwr with wakeCycle := s.rtcCycle + 1, wakeSrc := src } }
    match s.pwr.req with
    | some r =>
      if ¬ wakeAvailable src s.pwrLevel then s
      else
        let s1 := countWake s0 src
        if ¬ r.hot ∧ s.pwr.step = firstStep s.pwrLevel ∧ s.pwr.wake.isNone
            ∧ (s.pwr.acceptedAt - s.boot.rtcFrom.getD 0) / rtcTicks = s.rtcCycle then abandon s1 r src
        else if s1.pwr.wake.isSome then s1
        else { s1 with pwr := { s1.pwr with wake := some src } }
    | none =>
      if s.pwr.exit.isSome then (if wakeAvailable src s.pwrLevel then countWake s src else s)
      else if s.pwrState < 2 then s0
      else if wakeAvailable src s.pwrState then exitTo (countWake (recordWake s0 src s.pwrState false) src) s.pwr.wakeTo
      else s

/-! ## Exit (R519, R521) -/

/-- A synthesiser whose enable is set, and that is OFF, is tuned again on the preset it had: it is LOCKED by the end of the exit, and takes a
retune that waited; with REFCLK lost it goes from CALIBRATING to HOLDOVER (R90, R519). -/
def synWakes (s : State) (n : Nat) : State :=
  let x := s.syn n
  if ¬ rbit s .loSynCtrl [n] 0 ∨ x.st ≠ .off then s
  else if s.lo.refLoss then tuneWord s n x.preset x.word
  else applyForced (trunkGood (s.setSyn n { x with st := .locked, retried := false, since := s.clk.elapsed }) n) n

/-- The link leaves idle: the synthesisers come back; the crystal no longer holds. -/
def linkWakes (s : State) : State :=
  let s1 := [0, 1, 2, 3].foldl synWakes s
  { s1 with pwr := { s1.pwr with linkIdle := false } }

/-- Every Diong session is closed after a wake from NAP or deeper (R478, R521). -/
def closeAll (s : State) : State := closeSessions s (fun _ => true)

/-- What WRX_REJECTED reports of the rejections since the control complex last ran (R534): the lowest kind. -/
def reportRejected (s : State) : State :=
  match s.pwr.rejected with
  | k :: _ => raise { s with pwr := { s.pwr with rejected := [] } } 220 k NA
  | [] => s

/-- An exit from NAP to DOZE: islands on, synthesisers LOCKED, engines loaded, sessions closed (R519, R521). -/
def napExit (s : State) : State :=
  if s.pwrLevel = 3 then
    let s1 := (engineIslands ++ [9, 32, 34, 12, 31, 0, 1, 2, 3, 4, 5, 6, 7]).foldl islandUp s
    let s2 := loadPool (linkWakes s1)
    let s3 := engineIslands.foldl (fun s i => islandClock s i false) s2
    let s4 := reportRejected (closeAll s3)
    let s5 := if s4.svc.probPaused then { s4 with svc := { s4.svc with probPaused := false, probAt := s4.clk.elapsed } } else s4
    setLevel { s5 with nv := { s5.nv with wrxCount := rd s5 .wrxLastcnt [] }, pwr := { s5.pwr with depth := 1, lockSince := some s5.clk.elapsed, accepted := s5.now } } 2
  else
    let s1 := linkWakes s
    { s1 with pwr := { s1.pwr with accepted := s1.now } }

/-- Depth 0 is reached: the beam matrix and the engines' clocks run, paths take their states, drains that may rise, and the engines
take their next jobs (R507, R519, R544). -/
def toDepth0 (s : State) (target : Nat) : State :=
  let s1 := engineIslands.foldl (fun s i => islandClock s i true) (islandUp s 8)
  let s2 := (List.range 64).foldl enterPathState (setLevel { s1 with pwr := { s1.pwr with depth := 0 } } target)
  drainRise ((List.range 18).foldl (fun s e => if (s.eng e).st = .idle then startNext s e else s) s2)

/-- The end of a pending exit at DOZE (R521): LOCKED or LOCK_WAIT passed, then the wake-to state at a frame boundary. -/
def wakeTransition (s : State) (target : Nat) : State :=
  let s1 := match s.pwr.lockSince with
    | some t => if s.ptpLocked then s else reachElapsed s (t + rf s .pwrCfg [] 16 1 * secTicks)
    | none => s
  let s2 := if rf s1 .pwrReqStat [] 3 0 = 2 then reqStatus s1 3 else s1
  if 2 ≤ target then settle s2 target
  else
    let base := if s.pwr.lockSince.isSome then s2.now else s2.pwr.accepted
    let s3 := reachCount s2 (nextFrame s2.frameOfs (base + 49152))
    settle (toDepth0 s3 target) target

/-! ## Thermal shutdown (R564) -/

/-- The device shuts down: drains low, DACs at zero, an entry to DOZE with step 1 taken at once and no abort point; requests in
flight or queued end REPLACED. -/
def thermalShutdown (s : State) (hottest : Nat) : State :=
  let s1 := raise (wbit (allDrainsFall s) .thmStat [] 18 true) 203 hottest NA
  let s2 := if s1.pwr.req.isSome ∨ s1.pwr.queue.isSome ∨ s1.pwr.switch.isSome then reqStatus (setQueue s1 none) 5 else s1
  let s3 := { s2 with pwr := { s2.pwr with switch := none } }
  if s3.pwr.depth = 0 ∨ (s3.pwrLevel < 2) then
    let r : PwrReq := ⟨2, false, s3.pwrState, true⟩
    -- step 1 at once: every path OFF, every DAC input zero
    entryStep (beginReq { s3 with pwr := { s3.pwr with exit := none } } r) r
  else match s3.pwr.req with
    | some _ => if s3.pwrLevel = 2 then leaveEntry s3 2 else settle s3 s3.pwrLevel
    | none => (match s3.pwr.exit with
      | some _ => { s3 with pwr := { s3.pwr with exit := some 2 } }
      | none => s3)

/-- The shutdown ends (R564): a queued upward request starts. -/
def shutdownEnds (s : State) : State :=
  if s.shutdownHolds ∧ toSigned 16 (rf s .thmStat [] 15 0) ≤ s.tThrottle - 640 then
    let s1 := wbit s .thmStat [] 18 false
    if s1.pwr.req.isNone ∧ s1.pwr.exit.isNone then startQueued s1 else s1
  else s

end Sys2Proof.Machine
end

