-- ==== Sys2Proof/Machine/AdmStatic.lean ====
section
/-! DEFINITION. Static consistency of a snapshot (R65 and every rule that refuses with CONFIG_INVALID).  `s` is the device as it
stands, `v` the device with the snapshot in force.  Each condition names the objects whose values enter it. -/

namespace Sys2Proof.Machine

/-- A condition that fails names its objects. -/
def fails (b : Bool) (objs : List Nat) : List Nat := if b then objs else []

/-- Object 0x8000 + p × 0x40 + item. -/
def pindex (p item : Nat) : Nat := 0x8000 + p * 0x40 + item

/-- Counter values, from a period's start, at which the pattern's entries start, with the entries. -/
def patStarts (pat : List PatEntry) : List (Nat × PatEntry) :=
  (pat.foldl (fun (a : Nat × List (Nat × PatEntry)) e => (a.1 + e.dur, a.2 ++ [(a.1, e)])) (0, [])).2

/-- The entry an offset lies in. -/
def entryAt (pat : List PatEntry) (ofs : Nat) : Option PatEntry := (patFind pat 0 0 ofs).map (·.2.2)

/-- The pattern of a snapshot as TL_PATn and ENTRIES give it, entries of duration 0 among them: what object 0x2000 derives, or a register
staged directly.  ENTRIES counts from one entry up, so one entry of zero bits is the empty pattern (R42). -/
def State.cfgPattern (v : State) : List PatEntry :=
  let n := rf v .tlPatternCfg [] 12 4 + 1
  if n = 1 ∧ rd v .tlPat [0] = 0 then [] else (List.range n).map (fun i => patOfWord (rd v .tlPat [i]))

/-- The valid event entries, by number. -/
def State.cfgEvents (v : State) : List (Nat × EvtEntry) :=
  (List.range 4096).filterMap (fun n =>
    let e := evtOfWord (rd v .tlEvt [n])
    if e.valid then some (n, e) else none)

/-- Carriers enabled in either direction. -/
def State.cfgCarriers (v : State) : List Nat := (List.range 8).filter (fun c => v.onum (0x2010 + c) 1 ≠ 0)

/-- The pattern periods of R43. -/
def patPeriods : List Nat := [245760, 307200, 491520, 614400, 983040, 1228800, 2457600, 4915200]

/-- Every entry boundary of every repetition within a frame is a symbol boundary (R44). -/
def patAligned (pat : List PatEntry) (mu : Nat) (ecp : Bool) : Bool :=
  let per := patPeriod pat
  (List.range (if per = 0 then 0 else frameTicks / per)).all (fun k =>
    (patStarts pat).all (fun e => isSymbol 0 mu ecp (k * per + e.1)))

/-- The pattern (R42 to R46, R105). -/
def patternFails (v : State) (staged : List Nat) : List Nat :=
  let pat := v.cfgPattern
  let b := v.obytes 0x2000 3
  let dirs := pat.map (·.dir)
  let nxt := dirs.drop 1 ++ dirs.take 1
  fails (b.length % 4 ≠ 0 || 2048 < b.length) [0x2000] ++
  fails (0x2000 ∈ staged && (List.range (b.length / 4)).any (fun i => (patOfWord (beAt b (4 * i) 4)).dur = 0)) [0x2000] ++
  fails (pat.any (fun e => e.dur = 0 || e.dir = 3)) [0x2000] ++
  fails (pat ≠ [] && patPeriod pat ∉ patPeriods) [0x2000] ++
  fails (v.fdd && dirs.any (· = 1)) [0x2000] ++
  fails (¬ v.fdd && (dirs.zip nxt).any (fun x => x.1 = 0 && x.2 = 1)) [0x2000] ++
  fails (v.refEcp && v.refMu ≠ 2) [0x2000] ++
  fails (frameTicks ≤ v.frameOfs) [0x2000] ++
  fails (pat = [] && v.cfgCarriers ≠ []) (0x2000 :: v.cfgCarriers.map (0x2010 + ·)) ++
  fails (pat = [] && v.cfgEvents ≠ []) [0x2000, 0x2001] ++
  (if patPeriod pat ∈ patPeriods then (v.cfgCarriers.map (fun c => fails (¬ patAligned pat (v.ccMu c) (v.ccEcp c)) [0x2000, 0x2010 + c])).flatten else [])

/-! ## Synthesisers (R87 to R91, R355, R655) -/

/-- The word of a preset: a frequency in mHz in LSBs of 245.76 MHz / 2⁴⁰, to the nearest (R88). -/
def presetWord (mHz : Nat) : Nat := (mHz * 2 ^ 40 * 2 + 245760000000) / (2 * 245760000000)

/-- The synthesisers that serve the TX and RX trunks when object 0x3000 names them (R655). -/
def namedServe (v : State) : Nat × Nat :=
  let base := 2 * (v.onum 0x3001 1 % 2)
  if v.fdd then (base, base + 1) else (base + v.onum 0x3000 1 % 2, base + v.onum 0x3000 1 % 2)

/-- The start presets of the TX and RX trunks. -/
def namedPresets (v : State) : Nat × Nat :=
  (v.onum 0x3000 2 % 16, if v.fdd then v.onum 0x3000 3 % 16 else v.onum 0x3000 2 % 16)

/-- A commit has the named synthesisers serve from its boundary (R655): it changes either object while a carrier is enabled, or it is
the first since a start that enables a carrier.  A commit that changes only DUPLEX is not among R655's, and keeps the serving members,
which R89 would split in FDD (DESIGN CHOICE, assumption 105); one that changes the band with no carrier enabled tunes nothing and leaves the
trunks, although R100 names every such commit (DESIGN CHOICE, assumption 106). -/
def reserves (s v : State) : Bool :=
  let changed := [(0x3000, 1), (0x3000, 2), (0x3000, 3), (0x3001, 1)].any (fun k => s.obj k.1 k.2 ≠ v.obj k.1 k.2)
  v.cfgCarriers ≠ [] && (changed || ¬ s.lo.started)

/-- The synthesisers that serve from the boundary, and their presets. -/
def boundaryServe (s v : State) : (Nat × Nat) × (Nat × Nat) :=
  if reserves s v then (namedServe v, namedPresets v)
  else ((s.lo.txServe, s.lo.rxServe), ((s.syn s.lo.txServe).preset, (s.syn s.lo.rxServe).preset))

/-- The LO words in service from the boundary: those of the start presets where the commit retunes, else those tuned to now. -/
def boundaryWords (s v : State) : Nat × Nat :=
  let (sv, pr) := boundaryServe s v
  if reserves s v then (v.presetOf sv.1 pr.1, v.presetOf sv.2 pr.2) else ((s.syn sv.1).word, (s.syn sv.2).word)

/-- The LO words that can come into service on a trunk (R655): `rx` the RX trunk. -/
def trunkWords (s v : State) (rx : Bool) : List Nat :=
  let pair := 2 * (v.onum 0x3001 1 % 2)
  let can (m : Nat) : Bool := if v.fdd then m = pair + b2n rx else m / 2 = pair / 2
  (if rx then (boundaryWords s v).2 else (boundaryWords s v).1) :: v.cfgEvents.filterMap (fun x =>
    if (x.2.type = 7 || x.2.type = 8) && can x.2.target then some (v.presetOf x.2.target (x.2.arg % 16)) else none)

/-- A carrier lies wholly within 400 MHz of an LO word (R87). -/
def nearLo (fc bw w : Nat) : Bool :=
  let c : Int := (fc : Int) * 2 ^ 41
  let half : Int := (bw : Int) * 1000000 * 2 ^ 40
  let lo : Int := (w : Int) * 491520000
  let lim : Int := 800000000 * 2 ^ 40
  decide (c + half - lo ≤ lim) && decide (lo - (c - half) ≤ lim)

/-- The LO band limits in Hz (R85). -/
def bandLimits (high : Bool) : Nat × Nat := if high then (7100000000, 15400000000) else (600000000, 7200000000)

/-- Synthesisers and LO frequencies. -/
def loFails (s v : State) : List Nat :=
  let cs := v.cfgCarriers
  let (sv, pr) := (namedServe v, namedPresets v)
  -- a preset outside its band: the object's mHz exactly, a register's word within half its LSB
  let outOfBand (n k : Nat) : Bool :=
    let (lo, hi) := bandLimits (2 ≤ n)
    let m := v.onum (0x3002 + n) (k + 1)
    let w := v.presetOf n k
    (m ≠ 0 && (m < lo * 1000 || hi * 1000 < m)) ||
      (w ≠ 0 && ((2 * w + 1) * 245760000 < lo * 2 ^ 41 || hi * 2 ^ 41 < (2 * w - 1) * 245760000))
  fails (1 < v.onum 0x3001 1) [0x3001] ++
  -- the sub-index that the duplex mode leaves out is ignored (R655)
  fails ((¬ v.fdd && 1 < v.onum 0x3000 1) || 15 < v.onum 0x3000 2 || (v.fdd && 15 < v.onum 0x3000 3)) [0x3000] ++
  ((List.range 4).map (fun n => fails ((List.range 16).any (outOfBand n)) [0x3002 + n])).flatten ++
  fails (v.cfgEvents.any (fun x => (x.2.type = 7 || x.2.type = 8) && x.2.target < 4 && v.presetOf x.2.target (x.2.arg % 16) = 0)) [0x2001] ++
  fails (cs ≠ [] && (v.presetOf sv.1 pr.1 = 0 || (v.fdd && v.presetOf sv.2 pr.2 = 0))) (cs.map (0x2010 + ·) ++ [0x3000]) ++
  fails (v.fdd && cs ≠ [] && (trunkWords s v false).any (fun a => (trunkWords s v true).any (fun b =>
    600000000 * 2 ^ 40 < ((a : Int) - b).natAbs * 245760000))) [0x2000, 0x2001] ++
  (cs.map (fun c =>
    let fc := v.onum (0x2010 + c) 3
    let bw := v.onum (0x2010 + c) 4
    let (lo, hi) := bandLimits (v.onum 0x3001 1 = 1)
    fails (2 * fc < 2 * lo + bw * 1000000 || 2 * hi < 2 * fc + bw * 1000000) [0x2010 + c, 0x3001] ++
    fails ((v.dlOn c && (trunkWords s v false).any (fun w => ¬ nearLo fc bw w)) ||
           (v.ulOn c && (trunkWords s v true).any (fun w => ¬ nearLo fc bw w))) [0x2000, 0x2001, 0x2010 + c])).flatten

/-- The LO events of a pattern period in the order they take effect (R49, R94). -/
def loEvents (v : State) : List (Nat × EvtEntry) :=
  let l := v.cfgEvents.filter (fun x => (x.2.type = 7 || x.2.type = 8) && x.2.target < 4)
  l.foldl (fun acc x =>
    let before (y : Nat × EvtEntry) : Bool := decide (y.2.offset < x.2.offset ∨ (y.2.offset = x.2.offset ∧ y.2.type ≤ x.2.type))
    acc.takeWhile before ++ [x] ++ acc.dropWhile before) []

/-- The synthesisers that serve at a boundary tick: those that serve now, after the hops of the running pattern up to it, each taken as
performed (R75).  With no later boundary named, those of now. -/
def servingAt (s : State) (tb : Nat) : Nat × Nat :=
  let per := max 1 (patPeriod s.pattern)
  -- the last tick before the boundary at which a hop's offset falls
  let last (o : Nat) : Nat := tb - 1 - (patPos s.pattern s.frameOfs (tb - 1) + per - o % per) % per
  let hops := (loEvents s).filter (fun x => x.2.type = 7 ∧ s.now ≤ last x.2.offset)
  let best := hops.foldl (fun (b : Option (Nat × Nat)) x => match b with
    | some (t, m) => if t ≤ last x.2.offset then some (last x.2.offset, x.2.target) else some (t, m)
    | none => some (last x.2.offset, x.2.target)) none
  match best with
  | some (_, m) => if s.tlRuns ∧ s.now < tb then (m, m) else (s.lo.txServe, s.lo.rxServe)
  | none => (s.lo.txServe, s.lo.rxServe)

/-- The LO events of two pattern periods, each with whether its tick changes a synthesiser that serves a trunk, walking the serving
state from the boundary through the hops in order. -/
def loWalk (s v : State) (tb : Nat) : List (EvtEntry × Bool) :=
  let step (st : (Nat × Nat) × List (EvtEntry × Bool)) (x : Nat × EvtEntry) : (Nat × Nat) × List (EvtEntry × Bool) :=
    let (sv, out) := st
    let serves := decide (x.2.target = sv.1 ∨ x.2.target = sv.2)
    if x.2.type = 7 then ((x.2.target, x.2.target), out ++ [(x.2, !serves)])
    else (sv, out ++ [(x.2, serves)])
  ((loEvents v ++ loEvents v).foldl step (if reserves s v then namedServe v else servingAt s tb, [])).2

/-! ## Events (R48, R65, R89, R151, R158, R159, R346) -/

/-- The highest target of an event type. -/
def targetOk (e : EvtEntry) : Bool :=
  match e.type with
  | 1 => e.target ≤ 7
  | 2 | 3 => e.target ≤ 15
  | 4 | 9 | 11 => e.target ≤ 63 || e.target = 255
  | 5 => e.target ≤ 127
  | 6 => e.target = 0
  | 7 | 8 | 10 => e.target ≤ 3
  | _ => false

/-- The buffer descriptor of a snapshot (R157). -/
def bufDesc (v : State) (c b : Nat) : Nat := rd v .capDesc [c, b]

/-- A capture length outside R159's limits. -/
def lengthBad (src n : Nat) : Bool := n % 16 ≠ 0 || n < 16 || (if src = 0 then 8192 else 32768) < n

/-- A CAPTURE_OPEN that R151, R158 or R159 refuses. -/
def captureFails (v : State) (e : EvtEntry) : List Nat :=
  let n := e.arg % 65536
  let bufs := (if e.target = 255 then List.range 64 else [e.target]).map (fun p =>
    (p, captureBuffer (e.target = 255) (e.arg / 65536 % 256) p))
  (bufs.map (fun x =>
    let (p, b) := x
    let d := bufDesc v (p / 8) b
    let src := bitsOf d 61 61
    let size := 64 * bitsOf d 57 40
    let owner := bitsOf d 60 58
    let carries := v.pobj p 1 ≠ 0 && v.cfgCarriers.any (fun c => v.ccOwner c = owner)
    fails (src = 0 && v.fdd) [0x2000, 0x2001] ++
    fails (src = 0 && owner ≠ 4) [0x2001, 0x4100 + b] ++
    fails (src = 1 && owner < 4 && ¬ carries) [0x2001, 0x2010, 0x4100 + b] ++
    fails (lengthBad src n || size < captureBytes src false n) [0x2001, 0x4100 + b])).flatten

/-- An ORX_VISIT that R158 or R159 refuses, for each buffer of the path's pair. -/
def visitFails (v : State) (e : EvtEntry) : List Nat :=
  let n := e.arg / 256 % 65536
  ([0, 1].map (fun k =>
    let b := 2 * (e.arg % 64) + k
    let d := bufDesc v (e.arg % 64 / 8) b
    fails (bitsOf d 60 58 ≠ 4 || lengthBad 0 n || 64 * bitsOf d 57 40 < captureBytes 0 true n) [0x2001, 0x4100 + b])).flatten

/-- The event entries. -/
def eventFails (s v : State) (tb : Nat) : List Nat :=
  let pat := v.cfgPattern
  let per := patPeriod pat
  let inG (o : Nat) : Bool := (entryAt pat o).any (fun e => e.dir = 2)
  let inCal (o : Nat) : Bool := (entryAt pat o).any (fun e => e.dir = 2 && e.cal)
  fails ((v.obytes 0x2001 1).length % 8 ≠ 0 || 32768 < (v.obytes 0x2001 1).length) [0x2001] ++
  (v.cfgEvents.map (fun x =>
    let e := x.2
    fails (e.type = 0 || 11 < e.type || ¬ targetOk e) [0x2001] ++
    fails (per ≤ e.offset) [0x2000, 0x2001] ++
    fails ((e.type = 7 || e.type = 9) && ¬ inG e.offset) [0x2000, 0x2001] ++
    fails (e.type = 7 && v.fdd) [0x2000, 0x2001] ++
    fails (e.type = 10 && ¬ v.fdd) [0x2000, 0x2001] ++
    fails (e.type = 10 && e.arg % 64 / 16 ≠ e.target) [0x2001] ++
    fails (e.type = 11 && ¬ inCal e.offset) [0x2000, 0x2001] ++
    (if e.type = 4 then captureFails v e else if e.type = 10 then visitFails v e else []))).flatten ++
  fails ((loWalk s v tb).any (fun x => x.1.type = 8 && x.2 && ¬ inG x.1.offset)) [0x2000, 0x2001]

/-! ## Carriers (R65, R84, R167, R169, R187, R192, R202, R207, R214, R231, R239, R244, R386, R395) -/

/-- Normal CP in ticks. -/
def cpTicks (mu : Nat) (ecp : Bool) : Nat := if ecp then 2048 else 2304 / 2 ^ mu

/-- The length of the longest symbol (long cyclic prefix). -/
def longSym (mu : Nat) (ecp : Bool) : Nat := symTicks mu ecp + if ecp then 0 else 256

/-- Filter shifts and tap counts that keep R169. -/
def filtersOk (sh taps : Nat) : Bool :=
  (List.range 9).all (fun i => bitsOf sh (4 * i + 3) (4 * i) < 12) && bitsOf sh 39 36 ≤ 12 &&
  (List.range 7).all (fun i => bitsOf taps (4 * i + 19) (4 * i + 16) < 12) &&
  bitsOf taps 6 0 % 2 = 1 && bitsOf taps 6 0 ≤ 119 && bitsOf taps 13 8 % 2 = 1

/-- CF of carrier `n`'s channels is enabled (PCc_Lk_CHn_CFG.CF_EN, PCc_Lk_TXCHn_CFG.CF_EN). -/
def cfEnabled (v : State) (n : Nat) (tx : Bool) : Bool := if tx then rbit v .txchCfg [0, 0, n] 10 else rbit v .chCfg [0, 0, n] 10

/-- Halfband stages of a carrier. -/
def halfbands (v : State) (c : Nat) : Nat := 15 - Nat.log2 (v.onum (0x4400 + c) 1) - v.ccMu c

/-- The carrier's SRAM area lies in its tenant's partition (R239). -/
def areaOk (v : State) (owner base size : Nat) : Bool :=
  let first := rf v .memPart [owner] 6 0
  let count := rf v .memPart [owner] 13 7
  base % 256 = 0 && owner < 4 && sramBase + first * 0x80000 ≤ base && base + size ≤ sramBase + (first + count) * 0x80000

/-- A PRACH extractor of a carrier combines with beams. -/
def prachBeams (v : State) (c : Nat) : Bool :=
  (List.range 4).any (fun j => bitOf (v.prachCfg j) 0 && bitsOf (v.prachCfg j) 3 1 = c && ¬ bitOf (v.prachCfg j) 10)

/-- The lanes of the device: cluster and physical lane. -/
def lanesAll : List (Nat × Nat) := (List.range 72).map (fun l => (l / 9, l % 9))

/-- One carrier. -/
def carrierFails (s v : State) (c : Nat) : List Nat :=
  let ix := 0x2010 + c
  let on := v.onum ix 1 ≠ 0
  let owner := v.ccOwner c
  let n := v.ccN c
  let mu := v.ccMu c
  let ecp := v.ccEcp c
  let fft := v.onum (0x4400 + c) 1
  let h := halfbands v c
  let dl := v.dlOn c
  let ul := v.ulOn c
  let wopen := rf v .lnkCcWin [c] 22 0
  let wclose := rf v .lnkCcWin [c] 54 32
  let lead := v.bfLead c
  let latMax := ((List.range 64).map (fun p => v.txLat p c)).foldl max 0
  let g := rf v .bfCcCfg [c] 4 2
  let ng := v.bfNg c
  let dlB := v.bfOn c 0
  let ulB := v.bfOn c 1 && ¬ v.bfExport c
  let ulp := rd v .lnkCcUl [c]
  let dlp := rd v .lnkCcDl [c]
  let mf := rf v .lnkPortCfg [owner % 4] 39 26
  let big (w : Nat) : Bool := mf < bitsOf w 8 0 * compBytes (bitsOf w 11 9) + 72
  let part (t : State) (tx : Bool) (l : Nat × Nat) : Nat :=
    if tx then groupDelay (rd t .txchTaps [l.1, l.2, c]) (halfbands t c) (rbit t .txchCfg [l.1, l.2, c] 10)
    else groupDelay (rd t .chTaps [l.1, l.2, c]) (halfbands t c) (rbit t .chCfg [l.1, l.2, c] 10)
  -- a channel enabled before and after whose coefficients or tap counts change keeps that part of D (R202, R209)
  let moved (tx : Bool) : Bool :=
    let id := if tx then RegId.txchTaps else RegId.chTaps
    let coef := if tx then s.obytes (0x4500 + c) 3 ≠ v.obytes (0x4500 + c) 3 else s.obytes (0x4400 + c) 6 ≠ v.obytes (0x4400 + c) 6
    (if tx then s.dlOn c && v.dlOn c else s.ulOn c && v.ulOn c) && lanesAll.any (fun l =>
      (coef || decide (rd s id [l.1, l.2, c] ≠ rd v id [l.1, l.2, c])) && decide (part s tx l ≠ part v tx l))
  fails (3 < v.onum ix 1) [ix] ++
  fails (on && ¬ owner < v.tenants) [ix] ++
  fails (on && (v.onum ix 4 < 5 || 400 < v.onum ix 4 || n = 0 || 275 < n)) [ix] ++
  fails (on && ((ecp && mu ≠ 2) || bitsOf (v.onum ix 6) 6 2 ≠ 0)) [ix] ++
  fails (on && fft ∉ [256, 512, 1024, 2048, 4096]) [ix, 0x4400 + c] ++
  fails (on && fft ∈ [256, 512, 1024, 2048, 4096] && (7 < h || 15 < Nat.log2 fft + mu)) [ix, 0x4400 + c] ++
  fails (on && 82 * fft < 1200 * n) [ix, 0x4400 + c] ++
  fails (100 * n < 64 * v.onum ix 4) [ix] ++
  fails (lanesAll.any (fun l => ¬ filtersOk (rd v .chSh [l.1, l.2, c]) (rd v .chTaps [l.1, l.2, c]))) [0x4400 + c] ++
  fails (lanesAll.any (fun l => ¬ filtersOk (rd v .txchSh [l.1, l.2, c]) (rd v .txchTaps [l.1, l.2, c]))) [0x4500 + c] ++
  fails (63 < v.onum (0x4400 + c) 2) [0x4400 + c] ++
  fails (on && cpTicks mu ecp / 2 ^ h < v.ccWinOfs c) [ix, 0x4400 + c] ++
  fails (on && cpTicks mu ecp / 2 ^ h / 2 < v.onum (0x2100 + c) 3) [ix, 0x2100 + c, 0x4400 + c] ++
  fails (dl && wopen - wclose < symTicks mu ecp) [ix, 0x9020 + c] ++
  fails (wclose < lead) [0x5000 + c, 0x9020 + c] ++
  fails (dl && dlB && lead < longSym mu ecp + 2048 + latMax) [ix, 0x4400 + c, 0x5000 + c] ++
  fails (4 < g || rf v .bfCcCfg [c] 21 20 = 3) [0x5000 + c] ++
  fails (dlB && ¬ ([v.setBase c 0 0, v.setBase c 0 1].all (fun b => areaOk v owner b (v.bfLayers c 0 * ng * 256)))) [ix, 0x5000 + c] ++
  fails (ulB && ¬ ([v.setBase c 1 0, v.setBase c 1 1].all (fun b => areaOk v owner b (v.bfLayers c 1 * ng * 256)))) [ix, 0x5000 + c] ++
  fails ((dlB || ulB || prachBeams v c) && ¬ areaOk v owner (v.cbBase c) 262144) [ix, 0x5000 + c] ++
  fails (ul && (bitsOf ulp 8 0 = 0 || 275 < bitsOf ulp 8 0)) [ix, 0x9030 + c] ++
  fails (dl && (bitsOf dlp 8 0 = 0 || 275 < bitsOf dlp 8 0)) [ix, 0x9030 + c] ++
  fails (5 < bitsOf ulp 11 9 || 5 < bitsOf ulp 14 12 || 5 < bitsOf dlp 11 9) [0x9030 + c] ++
  fails ((ul && big ulp) || (dl && big dlp)) [ix, 0x9000 + owner % 4, 0x9030 + c] ++
  fails (moved false) [ix, 0x4400 + c] ++ fails (moved true) [ix, 0x4400 + c, 0x4500 + c]

/-- A path's carriers (R65, R656): at most 800 MHz together, and no two overlapping. -/
def occupancyFails (v : State) : List Nat :=
  let cs := v.cfgCarriers
  let edge (c : Nat) : Nat × Nat := (2 * v.onum (0x2010 + c) 3, v.onum (0x2010 + c) 4 * 1000000)
  let overlap (a b : Nat) : Bool := a ≠ b && decide ((edge a).1 < (edge b).1 + (edge a).2 + (edge b).2 ∧ (edge b).1 < (edge a).1 + (edge a).2 + (edge b).2)
  if (List.range 64).any (fun p => v.pobj p 1 ≠ 0) then
    fails (800 < (cs.map (fun c => v.onum (0x2010 + c) 4)).sum) (cs.map (0x2010 + ·)) ++
    (cs.map (fun a => fails (cs.any (overlap a)) [0x2010 + a])).flatten
  else []

/-! ## Paths, extractors, beams -/

/-- The band of an extractor's occasion lies in its carrier (R193): the NCO word of its object against an LO word (DEDUCED: the object's
layout holds no other frequency). -/
def occasionInside (v : State) (w lo : Nat) : Bool :=
  let c := bitsOf w 3 1
  let fmt := bitsOf w 7 4
  let centre : Int := (lo : Int) * 245760000 + toSigned 32 (bitsOf w 63 32) * 629145600000
  let off := 2 * (centre - (v.onum (0x2010 + c) 3 : Int) * 2 ^ 40).natAbs
  let width := if fmt ≤ 2 then 839 * 1250 else if fmt = 3 then 839 * 5000 else 139 * 15000 * 2 ^ bitsOf w 9 8
  decide (off + width * 2 ^ 40 ≤ v.onum (0x2010 + c) 4 * 1000000 * 2 ^ 40)

/-- PRACH extractors (R192, R193). -/
def prachFails (s v : State) : List Nat :=
  ((List.range 4).map (fun j =>
    let w := v.prachCfg j
    let fmt := bitsOf w 7 4
    let c := bitsOf w 3 1
    fails (12 < fmt) [0x4480 + j] ++
    fails (bitOf w 0 && v.ulOn c && ¬ occasionInside v w (boundaryWords s v).2) [0x2010 + c, 0x3000, 0x4480 + j] ++
    fails (bitOf w 0 && fmt ≤ 3 && 1 < v.ccMu c) [0x2010 + c, 0x4480 + j] ++
    -- the same of what a lane's register holds
    fails (lanesAll.any (fun l =>
      let r := rd v .prch [l.1, l.2, j]
      decide (12 < bitsOf r 7 4) || (bitOf r 0 && decide (bitsOf r 7 4 ≤ 3) && decide (1 < v.ccMu (bitsOf r 3 1))))) [0x4480 + j] ++
    fails ((List.range 16).any (fun m =>
      let b := beAt (v.obytes (0x5910 + j) 1) (2 * m) 2
      1023 < b && b ≠ 0xFFF)) [0x5910 + j])).flatten

/-- Per-path settings (R65, R177, R272, R284 and the register tables). -/
def pathFails (v : State) (p : Nat) : List Nat :=
  let ix := [p / 8, p % 8]
  let g := v.rxgCtrl p
  let nb := rd v .dpdNb ix
  let used := (List.range 4).filter (fun k => bitOf nb (8 * k + 7))
  let of_ (k : Nat) : Nat := bitsOf nb (8 * k + 5) (8 * k)
  let near (q : Nat) : Bool := q / 8 = p / 8 || q / 8 = (p / 8 + 1) % 8 || q / 8 = (p / 8 + 7) % 8
  let lim := rd v .dpdLim ix
  let pi := 0x6100 + p
  fails (10000 < ([0x28, 0x29, 0x2A, 0x2B].map (v.pobj p)).sum) [pindex p 0x28] ++
  fails (30 < v.pobj p 0x1B) [pindex p 0x1B] ++
  fails (30 < v.pobj p 0x20) [pindex p 0x20] ++
  fails (bitsOf g 6 5 = 3) [pindex p 0x21] ++
  fails (63 < v.pobj p 0x2C) [pindex p 0x2C] ++
  fails (used.any (fun k => of_ k = p || ¬ near (of_ k) || used.any (fun j => j ≠ k && of_ j = of_ k))) [pi] ++
  fails (rf v .dpdCtrl ix 10 3 = 0 || rf v .dpdCtrl ix 18 11 = 0 || rf v .dpdTaps ix 61 58 = 0) [pi] ++
  fails (24 < bitsOf lim 4 0 || bitsOf lim 9 5 < 2 || 20 < bitsOf lim 9 5 || bitsOf lim 15 10 = 0 || 20 < bitsOf lim 15 10 ||
         bitsOf lim 26 24 = 0 || bitsOf lim 31 27 = 0 || bitsOf lim 36 32 = 0) [pi] ++
  fails (10 < v.onum pi 7) [pi] ++
  fails (let taps := rd v .dpdTaps ix
    (List.range 6).any (fun i => bitsOf taps (6 * i + 11) (6 * i + 6) ≤ bitsOf taps (6 * i + 5) (6 * i))) [pi]

/-- The limiter settings of object 0x4800. -/
def cfrFails (v : State) : List Nat :=
  fails (lanesAll.any (fun l =>
    let w := rd v .cfrCtrl [l.1, l.2]
    35 < bitsOf w 6 1 || bitsOf w 8 7 = 0 || bitsOf w 16 9 < 4 || 12 < bitsOf w 24 21)) [0x4800]

/-- The element map and polarisations (R254). -/
def geometryFails (v : State) : List Nat :=
  let m := (v.obytes 0x5802 1).map (·.toNat)
  fails (m ≠ [] && (m.any (63 < ·) || m.dedup.length ≠ m.length || m.length ≠ 64)) [0x5802] ++
  fails ((v.obytes 0x5801 1).any (fun b => 1 < b.toNat)) [0x5801]

/-! ## Link (R384, R386, R413, R415, R422) -/

/-- Ports and timing. -/
def portFails (v : State) : List Nat :=
  let ports := (List.range 4).filter (fun n => rbit v .lnkPortCfg [n] 0)
  let ptp := rd v .lnkPtpCfg []
  let source := bitOf (v.onum 0x9320 1) 1
  ((List.range 4).map (fun n =>
    let w := 2 ^ rf v .lnkPortCfg [n] 2 1
    let first := rf v .lnkPortCfg [n] 5 3
    let mf := rf v .lnkPortCfg [n] 39 26
    let meets (m : Nat) : Bool := m ≠ n && (portLanes v n).any (· ∈ portLanes v m)
    fails (mf < 1518 || 9728 < mf) [0x9000 + n] ++
    fails (¬ rbit v .lnkPortMsec [n] 0 && 2 ≤ v.lc) [0x9000 + n] ++
    (if n ∈ ports then
      fails (¬ n < v.tenants || first % w ≠ 0 || 8 < first + w) [0x9000 + n] ++
      fails (ports.any meets) [0x9000 + n] ++
      fails (source && rbit v .lnkPortCfg [n] 24) [0x9000 + n, 0x9320]
    else []))).flatten ++
  fails (bitsOf ptp 7 0 < 24 || 43 < bitsOf ptp 7 0 || (List.range 4).any (fun n => bitsOf ptp (8 * n + 23) (8 * n + 16) = 0)) [0x9300]

/-! ## Memory, rings (R430, R458) -/

/-- Partitions and rings.  An enabled ring whose BASE is not 32-byte aligned is refused (DESIGN CHOICE, assumption 175). -/
def memoryFails (v : State) : List Nat :=
  let first (n : Nat) : Nat := rf v .memPart [n] 6 0
  let count (n : Nat) : Nat := rf v .memPart [n] 13 7
  let meets (a b : Nat) : Bool := a ≠ b && count a ≠ 0 && count b ≠ 0 && decide (first a < first b + count b ∧ first b < first a + count a)
  ((List.range 4).map (fun n =>
    fails (v.tenants ≤ n && count n ≠ 0) [0xA020 + n] ++
    fails (count n ≠ 0 && (first n < 24 || 96 < first n + count n)) [0xA020 + n] ++
    fails ((List.range 4).any (meets n)) [0xA020 + n])).flatten ++
  ((List.range 128).map (fun r =>
    let w := rd v .dmaRingCfg [r]
    fails (4 < bitsOf w 3 1 || bitsOf w 5 4 = 3 || 10 < bitsOf w 12 9 || (bitOf w 6 && bitsOf w 55 32 = 0) ||
      (bitOf w 0 && rd v .dmaRingBase [r] % 32 ≠ 0)) [0xA100 + r])).flatten

/-! ## Bias (R538, R539) -/

/-- Bias channels. -/
def biasFails (s v : State) : List Nat :=
  ((List.range 128).map (fun c =>
    let old := rd s .bdacChCfg [c]
    let w := rd v .bdacChCfg [c]
    fails (bitsOf w 4 3 = 3) [0xB200 + c] ++
    fails ((bitsOf old 2 0 ≠ bitsOf w 2 0 || bitsOf old 10 3 ≠ bitsOf w 10 3) && rbit s .bdacDrnReq [] (bitsOf old 10 5)) [0xB200 + c] ++
    fails (bitsOf w 4 3 = 1 && bitsOf old 4 3 ≠ 1 && ¬ beyondPinch (bitOf old 15) (bitsOf old 47 32) (bitsOf old 31 16)) [0xB200 + c])).flatten

/-! ## Kernels (R262, R333, R334) -/

/-- A kernel image that R334 refuses.  Entry and handler offsets that do not lie in the code count as breaking R333, which does not limit them
(DESIGN CHOICE, assumption 158). -/
def kernelBad (s : State) (b : List Byte) : Bool :=
  let k := kernelOf b 0 0
  let body := 128 + 8 * k.code + k.init
  let h (o : Nat) : Bool := beAt b o 2 ≠ 0xFFFF && k.code ≤ beAt b o 2
  b ≠ [] && (beAt b 0 4 ≠ 0x47554C4B || beAt b 4 2 ≠ 1 || k.code = 0 || 8192 < k.code || b.length ≠ body + 96 ||
    k.code ≤ k.entry || h 0x0E || h 0x10 || h 0x12 || k.cyc = 0 || 5898240 < k.cyc || k.persist % 64 ≠ 0 || 98304 < k.scratch ||
    k.persist < k.init || 2 < k.root || 31 < k.classes || (sliceBytes b 0x2A 86).any (· ≠ 0) ||
    sigCheck s k.root (b.take body) (b.drop body) ≠ 0 || k.version < spGet 0 s.ge.minVer k.id ||
    (30 &&& k.classes ≠ 0 && k.hPreempt = 0xFFFF))

/-- The kernel objects of a snapshot: those staged are checked, and the set's totals. -/
def kernelFails (s v : State) (staged : List Nat) : List Nat :=
  let ids := ((List.range 16).map (0xD140 + ·)) ++ [0x5904]
  let ks := (List.range 16).map (fun sl => kernelOf (v.kernelImage [] sl) 0 0)
  let touched := ids.filter (· ∈ staged)
  touched.filter (fun i => kernelBad s (v.obytes i 1)) ++
  -- the cost for the configured STEER beams (R262)
  fails (decide (5898240 < if v.resynthDefault then v.defaultResynth else (kernelOf (v.obytes 0x5904 1) 0 0).cyc)) [0x5904] ++
  fails (touched ≠ [] && (8192 < (ks.map (·.code)).sum || 64512 < (ks.map (·.persist)).sum)) touched

/-! ## The check (R65) -/

/-- The objects named by every condition that fails. -/
def staticFails (s v : State) (staged : List Nat) (tb : Nat := 0) : List Nat :=
  patternFails v staged ++ eventFails s v tb ++ loFails s v ++ ((List.range 8).map (carrierFails s v)).flatten ++ occupancyFails v ++
  prachFails s v ++ ((List.range 64).map (pathFails v)).flatten ++ cfrFails v ++ geometryFails v ++ portFails v ++ memoryFails v ++
  biasFails s v ++ kernelFails s v staged

/-- The first carrier whose own pattern differs from the array's (R47, R84). -/
def patternMismatch (v : State) : Option Nat :=
  (List.range 8).find? (fun c =>
    let b := v.obytes (0x2010 + c) 7
    b ≠ [] && (List.range (b.length / 4)).map (fun i => patOfWord (beAt b (4 * i) 4)) ≠ v.cfgPattern)

end Sys2Proof.Machine
end

