-- ==== Sys2Proof/Machine/AdmRes.lean ====
section
/-! DEFINITION. The resource checks of admission (R66 to R79).  `s` is the device as it stands, with its spares and failures; `v` the
device with the snapshot in force.  Each check lists instance, demand and capacity in ascending instances; demands are rounded up and
capacities down (R62). -/

namespace Sys2Proof.Machine

/-- One comparison: instance, demand, capacity. -/
structure Chk where
  inst : Nat
  demand : Nat
  cap : Nat
deriving DecidableEq, Repr

/-- Symbols per second (admission arithmetic). -/
def rSym (v : State) (c : Nat) : Nat := (if v.ccEcp c then 12000 else 14000) * 2 ^ v.ccMu c

/-- Layers of a direction as admission counts them: 64 for a carrier in per-antenna export (R67). -/
def admLayers (v : State) (c d : Nat) : Nat := if d = 1 ∧ v.bfExport c then 64 else v.bfLayers c d

/-- A direction of a carrier is enabled. -/
def dirOn (v : State) (c d : Nat) : Bool := if d = 0 then v.dlOn c else v.ulOn c

/-! ## Beamformer and export (R66, R67) -/

/-- Beam tiles in service, at most 8 positions. -/
def tilesInService (s : State) : Nat := min 8 (9 - s.bm.retired.length)

/-- Σ B × L of a direction over the beamformed and exported carriers. -/
def layerBw (v : State) (d : Nat) : Nat :=
  ((List.range 8).map (fun c => if dirOn v c d && (v.bfOn c d || (d = 1 && v.bfExport c)) then v.onum (0x2010 + c) 4 * admLayers v c d else 0)).sum

/-- BF_LAYER_BW. -/
def chkLayers (s v : State) : List Chk := [0, 1].map (fun d => ⟨d, layerBw v d, 1600 * tilesInService s⟩)

/-- EXPORT_BW. -/
def chkExport (v : State) : List Chk :=
  [⟨0, ((List.range 8).map (fun c => if v.ulOn c && v.bfExport c then v.onum (0x2010 + c) 4 else 0)).sum, 200⟩]

/-! ## Link (R68) -/

/-- Bits per second of a section plan: (N_sec × P + 92 × ⌈N / N_sec⌉) × 8 × L × rate. -/
def planRate (nsec p n l rate : Nat) : Nat := (nsec * p + 92 * ceilDiv n (max 1 nsec)) * 8 * l * rate

/-- Sections per second of a PRACH extractor: occasions per pattern period times repetitions. -/
def prachRate (v : State) (j : Nat) : Nat × Nat :=
  let w := v.prachCfg j
  let reps := match bitsOf w 7 4 with
    | 0 => 1 | 1 => 2 | 2 => 4 | 3 => 4 | 4 => 2 | 5 => 4 | 6 => 6 | 7 => 2 | 8 => 4 | 9 => 6 | 10 => 12 | 11 => 1 | _ => 4
  ((bitsOf w 15 12 + 1) * reps * secTicks, max 1 (patPeriod v.pattern))

/-- Streams of a PRACH extractor that is not exported: one for each codebook beam of its list (R265); unused entries are 0xFFF. -/
def prachStreams (v : State) (j : Nat) : Nat :=
  ((List.range 16).filter (fun m => beAt (v.obytes (0x5910 + j) 1) (2 * m) 2 < 0x400)).length

/-- The demand of a port and direction in bits per second. -/
def linkDemand (v : State) (n d : Nat) : Nat :=
  let mine := (List.range 8).filter (fun c => dirOn v c d && decide (v.ccOwner c = n))
  let plans := (mine.map (fun c =>  -- R68, R657
    let w := if d = 0 then rd v .lnkCcDl [c] else rd v .lnkCcUl [c]
    planRate (bitsOf w 8 0) (compBytes (bitsOf w 11 9)) (v.ccN c) (admLayers v c d) (rSym v c))).sum
  let prach := if d = 0 then 0 else ((List.range 4).map (fun j =>
    let w := v.prachCfg j
    let c := bitsOf w 3 1
    if bitOf w 0 && v.ulOn c && decide (v.ccOwner c = n) then
      let blocks := if bitsOf w 7 4 ≤ 3 then 70 else 12
      let streams := if bitOf w 10 then 64 else prachStreams v j
      let (num, den) := prachRate v j
      ceilDiv ((blocks * compBytes (rf v .lnkCcUl [c] 14 12) + 92) * 8 * streams * num) den
    else 0)).sum
  let caps := if d = 0 then 0 else v.onum (0x9040 + n) 1 * 1000000
  plans + prach + caps + 1000000000

/-- LINK_BW. -/
def chkLink (v : State) : List Chk :=
  (((List.range 4).map (fun n =>
    let en := rbit v .lnkPortCfg [n] 0
    let used := (List.range 8).any (fun c => decide (v.onum (0x2010 + c) 1 ≠ 0) && decide (v.ccOwner c = n)) || v.onum (0x9040 + n) 1 ≠ 0
    if en || used then
      let cap := if en then 100000 * 2 ^ rf v .lnkPortCfg [n] 2 1 else 0
      [0, 1].map (fun d => (⟨2 * n + d, ceilDiv (linkDemand v n d) 1000000, cap⟩ : Chk))
    else []))).flatten

/-! ## SRAM (R69, R70) -/

/-- Bytes of a carrier's buffers, weights and codebook (R69). -/
def carrierBytes (v : State) (c : Nat) : Nat :=
  let n := v.ccN c
  let w := rf v .lnkCcWin [c] 22 0 - rf v .lnkCcWin [c] 54 32
  let dl := if v.dlOn c then v.bfLayers c 0 * n * 48 * (ceilDiv w (symTicks (v.ccMu c) (v.ccEcp c)) + 2) else 0
  let ul := if v.ulOn c then admLayers v c 1 * n * 48 * 4 else 0
  let wt (d : Nat) : Nat := if dirOn v c d && v.bfOn c d && ¬ (d = 1 ∧ v.bfExport c) then v.bfLayers c d * 64 * v.bfNg c * 4 else 0
  let beams := (v.dlOn c && v.bfOn c 0) || (v.ulOn c && v.bfOn c 1 && ¬ v.bfExport c) || (v.onum (0x2010 + c) 1 ≠ 0 && prachBeams v c)
  dl + ul + 2 * (wt 0 + wt 1) + (if beams then 262144 else 0)

/-- A tenant's demand in banks. -/
def tenantBanks (v : State) (n : Nat) : Nat :=
  let cs := ((List.range 8).map (fun c => if v.ccOwner c = n then carrierBytes v c else 0)).sum
  let rings := ((List.range 128).map (fun r => if v.ringOwner r = n then 4 * 2 ^ rf v .dmaRingCfg [r] 12 9 * 32 else 0)).sum
  let bufs := ((List.range 128).map (fun i => if v.onum (0x4180 + i) 3 = n then v.onum (0x4180 + i) 2 else 0)).sum
  ceilDiv (cs + rings + bufs) 524288

/-- SRAM_TENANT, instance 4 the device total. -/
def chkSram (s v : State) : List Chk :=
  (List.range v.tenants).map (fun n => (⟨n, tenantBanks v n, rf v .memPart [n] 13 7⟩ : Chk)) ++
  [⟨4, ((List.range 4).map (fun n => rf v .memPart [n] 13 7)).sum + 24,
    96 - ((List.range 96).filter (fun a => (s.physBank a).isNone)).length⟩]

/-! ## Fabric and DMA (R71, R72) -/

/-- Pattern periods per second, as a fraction. -/
def perSecond (v : State) : Nat × Nat := (secTicks, max 1 (patPeriod v.pattern))

/-- Triggers of a ring in a pattern period. -/
def ringTriggers (v : State) (r : Nat) : Nat := (v.cfgEvents.filter (fun x => x.2.type = 5 && x.2.target = r)).length

/-- Bits per second that a timeline ring moves one way. -/
def ringRate (v : State) (r : Nat) : Nat :=
  if rbit v .dmaRingCfg [r] 6 then
    let (a, b) := perSecond v
    ceilDiv (rf v .dmaRingCfg [r] 55 32 * 512 * ringTriggers v r * a) b
  else 0

/-- The banks that hold what a tenant (or the device, 4) moves: its partition, or the device reserve. -/
def ownerBanks (v : State) (n : Nat) : Nat × Nat :=
  if n < 4 then (rf v .memPart [n] 6 0, rf v .memPart [n] 6 0 + rf v .memPart [n] 13 7) else (0, 24)

/-- A deadline kernel: slot, cycles, rate per second, argument. -/
structure DKern where
  slot : Nat
  cyc : Nat
  rate : Nat
  arg : Nat
deriving DecidableEq, Repr

/-- The deadline kernels of a configuration: predistortion adaptation on every path with R_MIN > 0 (R291). -/
def deadlineKernels (v : State) : List DKern :=
  let k := kernelOf (v.kernelImage [] 0) 0 0
  (List.range 64).filterMap (fun p => let r := v.onum (0x6100 + p) 7; if r = 0 then none else some ⟨0, k.cyc, r, p⟩)

/-- The bank groups of the banks from one to before another. -/
def bankGroups (x : Nat × Nat) : List Nat := (List.range 12).filter (fun g => x.1 < 8 * g + 8 ∧ 8 * g < x.2)

/-- The bank groups that the first `n` bytes of a capture buffer touch. -/
def bufGroups (v : State) (c b n : Nat) : List Nat :=
  let base := bitsOf (bufDesc v c b) 39 0 - sramBase
  bankGroups (base / 0x80000, (base + n - 1) / 0x80000 + 1)

/-- The deadline captures of a pattern period: buffers with cluster, and bytes of each capture. -/
def captureStreams (v : State) : List (List (Nat × Nat) × Nat) :=
  (v.cfgEvents.map (fun x =>
    let e := x.2
    if e.type = 4 then
      let ps := if e.target = 255 then List.range 64 else [e.target]
      ps.map (fun p =>
        let b := captureBuffer (e.target = 255) (e.arg / 65536 % 256) p
        ([(p / 8, b)], captureBytes (bitsOf (bufDesc v (p / 8) b) 61 61) false (e.arg % 65536)))
    else if e.type = 10 then
      let p := e.arg % 64
      [([(p / 8, 2 * p), (p / 8, 2 * p + 1)], captureBytes 0 true (e.arg / 256 % 65536))]
    else [])).flatten

/-- The bank groups of a carrier direction's two weight sets, either of which may be current (R71, R239). -/
def weightGroups (v : State) (c d : Nat) : List Nat :=
  let n := v.bfLayers c d * v.bfNg c * 256
  ([0, 1].flatMap (fun k =>
    let a := v.setBase c d k - sramBase
    bankGroups (a / 0x80000, (a + n - 1) / 0x80000 + 1))).dedup

/-- The deadline streams (R71, R324): bank groups, bits per second.  A stream counts at every group it can touch; where the manual does not
place a stream, at every group of its owner's banks, and a deadline kernel's at those of the device reserve. -/
def fabricStreams (v : State) : List (List Nat × Nat) :=
  let cs := ((List.range 8).map (fun c =>
    let o := ownerBanks v (v.ccOwner c)
    ([0, 1].map (fun d =>
      if dirOn v c d then
        let sym := admLayers v c d * v.ccN c * 48 * 8 * rSym v c
        let wts := if v.bfOn c d && ¬ (d = 1 ∧ v.bfExport c) then v.bfLayers c d * 64 * v.bfNg c * 4 * 8 * rSym v c else 0
        [(bankGroups o, 2 * sym), (weightGroups v c d, wts)]
      else [])).flatten)).flatten
  let rings := (List.range 128).map (fun r => (bankGroups (ownerBanks v (v.ringOwner r)), 2 * ringRate v r))
  let (a, b) := perSecond v
  let caps := (captureStreams v).map (fun x =>
    ((x.1.map (fun y => bufGroups v y.1 y.2 x.2)).flatten.dedup, ceilDiv (x.2 * 8 * a) b))
  let kernels := (deadlineKernels v).map (fun k => (bankGroups (ownerBanks v 4), (kernelOf (v.kernelImage [] k.slot) 0 0).fabric * 8 * k.rate))
  let visits := (List.range 64).map (fun p =>
    ((bufGroups v (p / 8) (2 * p) (captureBytes 0 true 8192) ++ bufGroups v (p / 8) (2 * p + 1) (captureBytes 0 true 8192)).dedup,
     if v.fdd then captureBytes 0 true 8192 * 8 * v.onum (0x6100 + p) 7 else 0))
  cs ++ rings ++ caps ++ visits ++ kernels

/-- FABRIC_BW. -/
def chkFabric (v : State) : List Chk :=
  let st := fabricStreams v
  (List.range 12).map (fun g =>
    ⟨g, ceilDiv ((st.map (fun x => if g ∈ x.1 then x.2 else 0)).sum) 1000000, 4278190⟩)

/-- DMA_BW. -/
def chkDma (v : State) : List Chk := [⟨0, ceilDiv (((List.range 128).map (ringRate v)).sum) 1000000, 534773⟩]

/-! ## Engines (R73, R74, R327) -/

/-- The demand of a list of kernels, cycles per second. -/
def kernLoad (l : List DKern) : Nat := (l.map (fun k => k.cyc * k.rate)).sum

/-- Admission's capacity of an engine. -/
def engineCap : Nat := 1179648000

/-- The engines eligible for deadline kernels, in ascending number (R74, R608). -/
def eligibleEngines (s : State) : List Nat :=
  let l := (List.range 18).filter (fun e => (s.engInService e || (s.eng e).st = .off) && e ∉ s.heldEngines && e ∉ s.nv.engRetired)
  (List.range 18).filterMap (fun n => l.find? (fun e => s.engNumber e = n))

/-- First fit (R73): the kernels of each engine, and the engines that fail. -/
def placeKernels (s v : State) : Sparse (List DKern) × List (Nat × Bool) :=
  let es := eligibleEngines s
  (deadlineKernels v).foldl (fun (st : Sparse (List DKern) × List (Nat × Bool)) k =>
    let (m, bad) := st
    let fits (e : Nat) : Bool := kernLoad (spGet [] m e ++ [k]) ≤ engineCap && (spGet [] m e).length < 8
    match es.find? fits with
    | some e => (spPut [] m e (spGet [] m e ++ [k]), bad)
    | none =>
      let best := es.foldl (fun (b : Option Nat) e => match b with
        | none => some e
        | some f => if kernLoad (spGet [] m e) < kernLoad (spGet [] m f) then some e else some f) none
      (match best with
      | some e => (spPut [] m e (spGet [] m e ++ [k]), bad ++ [(e, decide (kernLoad (spGet [] m e ++ [k]) ≤ engineCap))])
      | none => (m, bad ++ [(0, false)]))) ([], [])

/-- ENGINE_CYCLES. -/
def chkEngines (s v : State) : List Chk :=
  let (m, bad) := placeKernels s v
  (List.range 18).filterMap (fun n =>
    match (List.range 18).find? (fun e => s.engNumber e = n && (e ∈ eligibleEngines s || bad.any (fun x => x.1 = e))) with
    | some e =>
      let load := kernLoad (spGet [] m e)
      let slots := bad.any (fun x => x.1 = e) && load ≤ engineCap
      some ⟨n, if slots then engineCap + 1 else load, engineCap⟩
    | none => none)

/-- Release entries of an engine (R327). -/
def releasesOf (l : List DKern) : List Release :=
  let per (k : DKern) : Nat := secTicks / max 1 k.rate
  let pmin := (l.map per).foldl min (l.map per).sum
  (l.zip (List.range l.length)).map (fun x => ⟨x.1.slot, x.1.arg, per x.1, x.2 * pmin / 8 % max 1 (per x.1)⟩)

/-! ## Guards (R75, R76) -/

/-- The paths that the guard checks look at: enabled, not masked, not failed. -/
def guardPaths (s v : State) : List Nat :=
  (List.range 64).filter (fun p => v.pobj p 1 ≠ 0 && ¬ bitOf s.bm.mask p && ¬ (s.pathFe p).failed)

/-- Serial transactions of a list: the sum of 21 + 9 n over its entries (R114, R121). -/
def listBits (v : State) (c : Nat) : Nat → Nat → Nat
  | 0, _ => 0
  | fuel + 1, i =>
    let w := rd v .feList [c, i]
    21 + 9 * (bitsOf w 6 4 + 1) + (if bitOf w 16 ∨ i = 1023 then 0 else listBits v c fuel (i + 1))

/-- A, C and F of one guard for one path: the guard's number, start and entry; `calPaths` tells whether it is marked CAL for the path. -/
def guardTerms (s v : State) (walk : List (EvtEntry × Bool)) (evs : List (Nat × EvtEntry)) (st : Nat) (e : PatEntry) (p : Nat) :
    Nat × Nat × Nat :=
  let inside (o : Nat) : Bool := decide (st ≤ o ∧ o < st + e.dur)
  let a := (walk.filter (fun x => x.2 && inside x.1.offset)).foldl (fun m x => max m (x.1.offset - st + if x.1.type = 7 then 1967 else 39322)) 0
  let hits (x : EvtEntry) : Bool := x.target = 255 || x.target = p
  let c := if e.cal && evs.any (fun x => x.2.type = 11 && inside x.2.offset && hits x.2) then 738 else 0
  let bits := ((evs.filter (fun x => x.2.type = 9 && inside x.2.offset && hits x.2)).map (fun x => listBits v (p / 8) 1024 (x.2.arg % 1024))).sum
  (a, c, 160 + 40 * bits)

/-- The guards of the pattern: number, start, entry. -/
def guardsOf (v : State) : List (Nat × Nat × PatEntry) :=
  ((patStarts v.pattern).zip (List.range v.pattern.length)).filterMap (fun x => if x.1.2.dir = 2 then some (x.2, x.1.1, x.1.2) else none)

/-- LO_SETTLE, FE_SERIAL and CAL_WINDOW, the last with the instances of R76. -/
def chkGuards (s v : State) (tb : Nat) : List Chk × List Chk × List Chk :=
  let walk := loWalk s v tb
  let evs := v.cfgEvents
  let ps := guardPaths s v
  let gs := guardsOf v
  let all := (gs.map (fun g => ps.map (fun p => (g.1 * 64 + p, g.2.2.dur, guardTerms s v walk evs g.2.1 g.2.2 p, p)))).flatten
  let lo := all.map (fun x => (⟨x.1, x.2.2.1.1, x.2.1⟩ : Chk))
  let fe := all.map (fun x => (⟨x.1, x.2.2.1.2.2, x.2.1⟩ : Chk))
  let cal := all.map (fun x => (⟨x.1, x.2.2.1.1 + x.2.2.1.2.1, x.2.1⟩ : Chk))
  let none_ := if v.fdd ∨ v.pattern = [] then [] else
    (ps.filter (fun p => ¬ all.any (fun x => decide (x.2.2.2 = p ∧ 0 < x.2.2.1.2.1)))).map (fun p => (⟨32768 + p, 738, 0⟩ : Chk))
  (lo, fe, cal ++ none_)

/-! ## Observation (R77) -/

/-- OBS_SLOTS, in FDD. -/
def chkObs (s v : State) : List Chk :=
  if v.fdd then
    let (a, b) := perSecond v
    (List.range 4).map (fun r =>
      let evs := ((v.cfgEvents.filter (fun x => x.2.type = 10 && x.2.target = r)).map (fun x => 100000000 + x.2.arg / 256 % 65536 * 20345)).sum
      let reg := ((List.range 16).map (fun k => v.onum (0x6100 + 16 * r + k) 7 * (100000000 + 8192 * 20345))).sum
      ⟨r, ceilDiv (evs * a + reg * b) (100000 * b), if (s.orx r).failed then 0 else 900000000⟩)
  else []

/-! ## Power share (R78) and temperature (R79) -/

/-- A power in 0.01 dBm in µW, with `fxBits` fraction bits. -/
def microwatts (p : Int) : Nat := pow10 (p + 3000)

/-- PMAX_PATH in µW, with `fxBits` fraction bits. -/
def pmaxMicro (v : State) : Nat := (microwatts (toSigned 16 (v.onum 0xA010 1)) + 2 ^ (fxBits - 1)) / 2 ^ fxBits

/-- POWER_SHARE. -/
def chkPower (v : State) : List Chk :=
  let dem (n : Nat) : Nat := ((List.range 8).map (fun c =>
    if v.dlOn c ∧ v.ccOwner c = n then microwatts (toSigned 16 (v.onum (0x2100 + c) 1)) else 0)).sum
  ((List.range 64).map (fun p => (List.range 4).map (fun n =>
    (⟨4 * p + n, if v.pobj p 1 = 0 then 0 else ceilDiv (dem n) (2 ^ fxBits), v.pobj p (0x28 + n) * pmaxMicro v / 10000⟩ : Chk)))).flatten

/-- THERMAL (R79, R649): P_est in mW.  An ambient declared above T_throttle - 3 leaves no capacity: 0 is compared and reported (DESIGN
CHOICE, assumption 101: a negative capacity has no place in an unsigned number). -/
def chkThermal (v : State) : List Chk :=
  let high := v.onum 0x3001 1 = 1
  let e := ((List.range 64).filter (fun p => v.pobj p 1 ≠ 0)).length
  let bw := (v.cfgCarriers.map (fun c => v.onum (0x2010 + c) 4)).sum
  let lb := max (layerBw v 0) (layerBw v 1)
  let lanes := ((List.range 4).map (fun n => if rbit v .lnkPortCfg [n] 0 then 2 ^ rf v .lnkPortCfg [n] 2 1 else 0)).sum
  let fixed := (if high then 7050 else 3600) + (if v.fdd then (if high then 1200 else 800) else 0) + 3600 + 3850 + 600
  let perPath := (if high then 19500 else 10000) + 6400 + 5800
  -- common denominator 64 × 800 × 12,800
  let num := fixed * 655360000 + perPath * e * 10240000 + 28800 * e * bw * 12800 + 8000 * lb * 51200 + 7200 * lanes * 81920000
  let dt : Int := toSigned 16 (v.onum 0xB000 1) - 300 - toSigned 16 (v.onum 0xB010 1)
  [⟨0, ceilDiv num 655360000, dt.toNat * 10000 / max 1 (v.onum 0xB011 1)⟩]

/-! ## All checks (R62 to R64) -/

/-- Every check of codes 0x03 to 0x0F in table order. -/
def allChecks (s v : State) (tb : Nat := 0) : List (Nat × List Chk) :=
  let (lo, fe, cal) := chkGuards s v tb
  [(3, chkLayers s v), (4, chkExport v), (5, chkLink v), (6, chkSram s v), (7, chkFabric v), (8, chkDma v), (9, chkEngines s v),
   (0xA, lo), (0xB, fe), (0xC, chkObs s v), (0xD, cal), (0xE, chkPower v), (0xF, chkThermal v)]

/-- The first comparison that fails. -/
def firstBad (l : List Chk) : Option Chk := l.find? (fun c => decide (c.cap < c.demand))

/-- The instance of CONFIG_INVALID (R65): the lowest object named, without those whose value stands in a register written directly; 0xFFFF
where nothing else is named. -/
def invalidInstance (named direct : List Nat) : Nat := (named.filter (· ∉ direct)).foldl min 0xFFFF

/-- The result of admission on a snapshot; the epoch is filled in later (R62, R63, R65).  `regs` are the objects named by conditions on
staged registers alone, `direct` those whose value a register gives; `tb` the boundary at which the snapshot would take effect, 0 now. -/
def admitResult (s v : State) (staged : List Nat) (regs : List Nat := []) (direct : List Nat := []) (tb : Nat := 0) : AdmResult :=
  let st := staticFails s v staged tb ++ regs
  let pm := patternMismatch v
  if st ≠ [] then ⟨1, invalidInstance st direct, 0, 0, 0, 2 + (if pm.isSome then 4 else 0), 0⟩
  else
    let ch := allChecks s v tb
    let bm := (ch.map (fun x => if (firstBad x.2).isSome then 2 ^ x.1 else 0)).sum + (if pm.isSome then 4 else 0)
    match pm with
    | some c => ⟨2, c, 0, 0, 0, bm, 0⟩
    | none => match ch.findSome? (fun x => (firstBad x.2).map (fun b => (x.1, b))) with
      | some (code, b) => ⟨code, b.inst, b.demand, b.cap, b.demand - b.cap, bm, 0⟩
      | none => ⟨0, 0, 0, 0, 0, 0, 0⟩

end Sys2Proof.Machine
end

