-- ==== Sys2Proof/Machine/DigestOps.lean ====
section
/-! DEFINITION. Who owns a dictionary object, digests of the configuration, and the replica CRCs (R473, R488 to R491). -/

namespace Sys2Proof.Machine

/-- The tenant that owns what an index names: `none` where the index names no carrier, port, ring, buffer or partition; otherwise the
owner, at most 0xFF (R473, R489). -/
def indexOwner (s : State) (i : Nat) : Option Nat :=
  let car (b n : Nat) : Option (Option Nat) := if b ≤ i ∧ i < b + n then some (some (s.ccOwner (i - b))) else none
  let tries : List (Option (Option Nat)) :=
    [car 0x2010 8, car 0x4400 8, car 0x2100 8, car 0x4500 8, car 0x5000 8, car 0x5010 8, car 0x5020 8, car 0x5030 8, car 0x5200 8,
     car 0x5400 8, car 0x9020 8, car 0x9030 8, car 0x9200 8,
     if 0x5100 ≤ i ∧ i < 0x5110 then some (some (s.ccOwner ((i - 0x5100) / 2))) else none,
     if 0x4480 ≤ i ∧ i < 0x4484 then some (some (s.ccOwner (bitsOf (s.prachCfg (i - 0x4480)) 3 1))) else none,
     if 0x5910 ≤ i ∧ i < 0x5914 then some (some (s.ccOwner (bitsOf (s.prachCfg (i - 0x5910)) 3 1))) else none,
     if 0x9000 ≤ i ∧ i < 0x9004 then some (some (i - 0x9000)) else none,
     if 0x9040 ≤ i ∧ i < 0x9044 then some (some (i - 0x9040)) else none,
     if 0x9210 ≤ i ∧ i < 0x9214 then some (some (i - 0x9210)) else none,
     if 0x9302 ≤ i ∧ i < 0x9306 then some (some (i - 0x9302)) else none,
     if 0xA020 ≤ i ∧ i < 0xA024 then some (some (i - 0xA020)) else none,
     if 0x2F11 ≤ i ∧ i < 0x2F15 then some (some (i - 0x2F11)) else none,
     if 0xA100 ≤ i ∧ i < 0xA180 then some (some (s.ringOwner (i - 0xA100))) else none,
     if 0xA180 ≤ i ∧ i < 0xA200 then some (some (s.ringOwner (i - 0xA180))) else none,
     if 0x4100 ≤ i ∧ i < 0x4200 then some (some (s.onum i 3)) else none,
     if 0x4200 ≤ i ∧ i < 0x4300 then some (some (s.onum (i - 0x100) 3)) else none,
     if 0x9100 ≤ i ∧ i < 0x9200 then some (some (s.onum (i - 0x5000) 3)) else none]
  (tries.findSome? id).bind id

/-- An object lies in the scope of a tenant's COMMIT and ABORT: it belongs to the tenant and the tenant may stage it. -/
def inScope (s : State) (role : Role) (index sub : Nat) : Bool :=
  match role with
  | .tenant n => decide (indexOwner s index = some n) && (objRow index sub).any (fun r => r.accT = .rws)
  | _ => true

/-! ## Canonical encoding (R488, R489) -/

/-- The value of an object in bytes under R470, in the object's type. -/
def objBytes (r : ObjRow) : ObjVal → List Byte
  | .num n => if r.ty = .bool then beBytes 1 (b2n (n ≠ 0)) else beBytes r.ty.bytes n
  | .bytes b => b

/-- One record of the canonical encoding. -/
def digestRecord (s : State) (dest : Nat) (k : Nat × Nat) : List Byte :=
  match objRow k.1 k.2 with
  | some r =>
    let v := if 0xE010 ≤ k.1 ∧ k.1 < 0xE018 then beBytes 4 (rd s .evtEn [dest, k.1 - 0xE010]) else objBytes r (s.obj k.1 k.2)
    beBytes 2 k.1 ++ beBytes 1 k.2 ++ beBytes 1 r.ty.code ++ beBytes 4 v.length ++ v
  | none => []

/-- The records of the global scope, ascending. -/
def globalKeys : List (Nat × Nat) :=
  (configKeys.filter (fun k => ¬ (0x1000 ≤ k.1 ∧ k.1 ≤ 0x10FF) && ¬ (0xC000 ≤ k.1 ∧ k.1 ≤ 0xCFFF) && ¬ (0x7021 ≤ k.1 ∧ k.1 ≤ 0x7028)
    && k.1 ≠ 0x7040)).mergeSort (fun a b => decide (okey a.1 a.2 ≤ okey b.1 b.2))

/-- A record of tenant `n`'s scope. -/
def tenantKey (s : State) (n : Nat) (k : Nat × Nat) : Bool :=
  decide (indexOwner s k.1 = some n) || decide (0x8000 ≤ k.1 ∧ k.1 < 0x9000 ∧ (k.1 - 0x8000) % 0x40 = 0x28 + n) ||
    decide (0xE010 ≤ k.1 ∧ k.1 < 0xE018)

/-- The digest of a scope: 0 to 3 a tenant, 4 global. -/
def digestOf (s : State) (scope : Nat) : List Byte :=
  let keys := if scope < 4 then globalKeys.filter (tenantKey s scope) else globalKeys
  sha256 ((keys.map (digestRecord s scope)).flatten)

/-- The digests are recomputed (R490), with the replica CRCs of a configuration that every cluster now holds (R491).  The manual does
not give the order of the bytes the CRC runs over: its value is free. -/
def recomputeDigests (s : State) : State :=
  let (c, s1) := draw s (2 ^ 64)
  { s1 with diong := { s1.diong with
                       digests := (List.range 5).foldl (fun m k => spPut [] m k (digestOf s k)) s1.diong.digests,
                       digestDue := none,
                       crc := (List.range 9).foldl (fun m k => spPut 0 m k c) s1.diong.crc } }

end Sys2Proof.Machine
end

