-- ==== Sys2Proof/Machine/MboxOps.lean ====
section
/-! DEFINITION. The security mailbox (R475, R582, R598): what each operation makes of the bytes in SEC_MBOX_BUF. -/

namespace Sys2Proof.Machine

/-- The first `len` bytes of SEC_MBOX_BUF. -/
def mboxBytes (s : State) (len : Nat) : List Byte :=
  (((List.range (ceilDiv len 8)).map (fun i => leBytes 8 (rd s .secMboxBuf [i]))).flatten).take len

/-- A mailbox operation is done: its result, and its result bytes in the buffer. -/
def mboxDone (s : State) (code : Nat) (b : List Byte) : State :=
  let s1 := (List.range (ceilDiv b.length 8)).foldl (fun s i =>
    let old := leBytes 8 (rd s .secMboxBuf [i])
    let new := sliceBytes b (8 * i) (min 8 (b.length - 8 * i))
    wr s .secMboxBuf [i] (leNum (new ++ old.drop new.length))) s
  wr s1 .secMboxStat [] (2 + code % 256 * 256 + b.length % 2048 * 65536)

/-- A mailbox command: only a control core gives one, and one of a stopped pair is discarded (R24); a length beyond the buffer is refused. -/
def mbox (s : State) (m : Master) (len : Nat) (f : List Byte → State → State) : State :=
  match m with
  | .pair p =>
    if s.pairStopped p then s
    else if (s.island 32).off then emit s (.bus 1 [])
    else if 1024 < len then wr s .secMboxStat [] 3
    else f (mboxBytes s len) s
  | .debug => firewall s 5
  | _ => firewall s 4

/-- Operation 1: a firmware image or a kernel image in the buffer (R334, R582, R584). -/
def mboxVerify (b : List Byte) (s : State) : State :=
  let c := if beAt b 0 4 = 0x4657494D then imageCheck s (beAt b 6 2) b else if kernelBad s b then 0x11 else 0x10
  mboxDone s c []

/-- The tag of a frame in the buffer under the key its KEY field and transport name. -/
def mboxTag (s : State) (t : Transport) (frame : List Byte) : Option (List Byte) :=
  (s.keySlot (sessionSlot t (beAt frame 8 1))).map (fun m => tagOf (beAt frame 8 1) m frame)

/-- Operation 2: the last 16 bytes against the tag of those before: 0x10 right, 0x11 wrong, 0x12 no key (R475). -/
def mboxCheckTag (t : Transport) (b : List Byte) (s : State) : State :=
  let c := match mboxTag s t (b.take (b.length - 16)) with
    | some x => if x = b.drop (b.length - 16) then 0x10 else 0x11
    | none => 0x12
  mboxDone s c []

/-- Operation 3: the 16 bytes of the tag (R475). -/
def mboxMakeTag (t : Transport) (b : List Byte) (s : State) : State :=
  match mboxTag s t b with
  | some x => mboxDone s 0x10 x
  | none => mboxDone s 0x12 []

/-- Operation 4: a key envelope that a role has sent, its slot in byte 0 (R573 to R578). -/
def mboxKey (role : Role) (b : List Byte) (s : State) : State :=
  let (c, s1) := keyEnvelope s role (beAt b 0 1) b
  mboxDone s1 c []

/-- Operation 5: a 48-byte nonce; the report is the result (R585). -/
def mboxAttest (b : List Byte) (s : State) : State :=
  if b.length = 48 then
    let s1 := attest s b
    mboxDone s1 0x10 s1.sec.report
  else wr s .secMboxStat [] 3

/-- Operation 6: a lifecycle token (R569 to R572). -/
def mboxToken (b : List Byte) (s : State) : State :=
  if b.length = 112 then
    let c := tokenCheck s b
    mboxDone (if c = 0x10 then lcTransition s (beAt b 13 1) else s) c []
  else wr s .secMboxStat [] 3

/-- Operation 7: a root record (R579, R580). -/
def mboxRoot (b : List Byte) (s : State) : State :=
  let (c, s1) := rootRecord s b
  mboxDone s1 c []

/-- Operation 8: as many free bytes as the buffer held (R589). -/
def mboxRandom (b : List Byte) (s : State) : State :=
  let (r, s1) := drawBytes s b.length
  mboxDone s1 0x10 r

/-- The operation that a code of SEC_MBOX_CMD names, others refused.  The register names neither the transport of a tag's key nor the role
behind an envelope; a bare register write is taken as made for the T1S port and the operator (DESIGN CHOICE, assumption 97). -/
def mboxOf (code : Nat) (b : List Byte) (s : State) : State :=
  match code with
  | 1 => mboxVerify b s
  | 2 => mboxCheckTag .t1s b s
  | 3 => mboxMakeTag .t1s b s
  | 4 => mboxKey .operator b s
  | 5 => mboxAttest b s
  | 6 => mboxToken b s
  | 7 => mboxRoot b s
  | 8 => mboxRandom b s
  | _ => wr s .secMboxStat [] 3

/-- A write of SEC_MBOX_CMD with GO (R598): the operation its code names. -/
def mboxWrite (s : State) (m : Master) (v : Nat) : State :=
  if ¬ bitOf v 19 then s else mbox s m (bitsOf v 18 8) (mboxOf (v % 256))

end Sys2Proof.Machine
end

