-- ==== Sys2Proof/Machine/MoverOps.lean ====
section
/-! DEFINITION. Descriptors of DMA rings, and which of them a mover serves: the levels and contexts of the main mover, pre-emption, and the
split movers (chapter 12, R456, R460, R464 to R467). -/

namespace Sys2Proof.Machine

/-- The state of a ring: 0 OFF, 1 IDLE, 2 ACTIVE, 3 HALTED. -/
def ringSt (s : State) (r : Nat) : Nat := rf s .dmaRingStat [r] 1 0

/-! ## Descriptors -/

/-- A descriptor's fields (R456). -/
structure Desc where
  src : Nat
  sfix : Bool
  dfix : Bool
  rsh : Nat
  half : Bool
  full : Bool
  last : Bool
  chain : Option Nat
  own : Bool
  dst : Nat
  len : Nat
  rows : Nat
  cols : Nat
  /-- reserved bits are 0 -/
  clean : Bool
deriving DecidableEq, Repr

/-- A descriptor from its 32 bytes. -/
def descOf (b : List Byte) : Desc :=
  let w0 := leAt b 0 8
  let w1 := leAt b 8 8
  let l := leAt b 16 4
  let rc := leAt b 20 4
  ⟨w0 % 2 ^ 40, bitOf w0 40, bitOf w0 41, bitsOf w0 44 42, bitOf w0 45, bitOf w0 46, bitOf w0 47,
   if bitOf w0 48 then some (bitsOf w0 55 49) else none, bitOf w0 63, w1 % 2 ^ 40, l % 2 ^ 24, rc % 2 ^ 12, bitsOf rc 23 12,
   bitsOf w0 62 56 = 0 && bitsOf w1 63 40 = 0 && bitsOf l 31 24 = 0 && bitsOf rc 31 24 = 0⟩

/-- The constraints of R456, R459 and R460. -/
def Desc.ok (d : Desc) : Bool :=
  d.clean && d.src % 8 = 0 && d.dst % 8 = 0 && d.len % 8 = 0 && 8 ≤ d.len && d.rsh ≤ 4 && (d.rsh = 0 || (¬ d.sfix && ¬ d.dfix)) &&
    (match d.rsh with
      | 1 | 2 => d.len % 128 = 0
      | 3 => d.rows % 16 = 0 && d.cols % 16 = 0 && d.len = 4 * d.rows * d.cols
      | 4 => d.rows % 8 = 0 && d.cols % 8 = 0 && d.len = 8 * d.rows * d.cols
      | _ => true)

/-- The destination writes of a descriptor in write order: destination offset, source offset and bytes of each piece (R459, R460). -/
def Desc.pieces (d : Desc) : List (Nat × Nat × Nat) :=
  match d.rsh with
  | 0 => (List.range (d.len / 8)).map (fun i => (8 * i, 8 * i, 8))
  | 1 => ((List.range (d.len / 4)).map (fun i => [(4 * i, 2 * i, 2), (4 * i + 2, d.len / 2 + 2 * i, 2)])).flatten
  | 2 => ((List.range (d.len / 128)).map (fun g =>
      (List.range 32).map (fun i => (64 * g + 2 * i, 128 * g + 4 * i, 2)) ++
      (List.range 32).map (fun i => (d.len / 2 + 64 * g + 2 * i, 128 * g + 4 * i + 2, 2)))).flatten
  | m =>
    let t := if m = 3 then 16 else 8
    let sz := if m = 3 then 4 else 8
    ((List.range (d.rows / t)).map (fun tr => ((List.range (d.cols / t)).map (fun tc =>
      ((List.range t).map (fun c => (List.range t).map (fun r =>
        (((tc * t + c) * d.rows + tr * t + r) * sz, ((tr * t + r) * d.cols + tc * t + c) * sz, sz)))).flatten)).flatten)).flatten

/-- The pieces whose destination bytes, counted in write order, lie from `lo` up to `hi`. -/
def takeSpan (p : List (Nat × Nat × Nat)) (lo hi : Nat) : List (Nat × Nat × Nat) :=
  (p.foldl (fun (a : Nat × List (Nat × Nat × Nat)) x =>
    (a.1 + x.2.2, if lo ≤ a.1 ∧ a.1 + x.2.2 ≤ hi then x :: a.2 else a.2)) (0, [])).2.reverse

/-- Beats that a descriptor's reshuffle reads before it writes them: a tile's, or the pair of an I and a Q beat (R460). -/
def Desc.group (d : Desc) : Nat := if d.rsh = 0 then 1 else if d.rsh = 3 then 16 else if d.rsh = 4 then 8 else 2

/-- Source offset of the 64-byte beat that is read `i`-th (R460). -/
def Desc.beat (d : Desc) (i : Nat) : Nat :=
  if d.rsh = 1 then (if i % 2 = 0 then 64 * (i / 2) else d.len / 2 + 64 * (i / 2))
  else if d.rsh = 3 ∨ d.rsh = 4 then
    let t := d.group
    let sz := 64 / t
    let per := max 1 (d.cols / t)
    ((i / t / per * t + i % t) * d.cols + i / t % per * t) * sz
  else 64 * i

/-! ## Batches and completions -/

/-- A completion: sticky flag and the owner's event, the kind in the instance (R461). -/
def ringCompletion (s : State) (r : Nat) (full : Bool) : State :=
  let o := s.ringOwner r
  raise (setFlag s .dmaRingStat [r] (if full then 8 else 7)) (if o < 4 then 167 + o else 171) (if full then r else r + 128) NA

/-- A batch starts (R455); while the main mover is out of service a ring of its own goes to the split movers (R467). -/
def openBatch (s : State) (r : Nat) (tl : Bool) : State :=
  let s1 := wf s .dmaRingStat [r] 1 0 2
  { s1 with mem := { s1.mem with batch := spPut Batch.none_ s1.mem.batch r { Batch.none_ with tl := tl, split := ¬ mainUp s } } }

/-! ## The main mover (R464, R465) -/

/-- The ring that each level of the main mover has its turn at (R464): the ring at or after the pointer, round the rings. -/
def turnAt (s : State) (lv a : Nat) : Option Nat :=
  let on := (List.range 128).filter (fun r => onMain s r && decide (ringLevel s r = lv))
  match on.find? (fun r => a ≤ r) with
  | some r => some r
  | none => on.head?

/-- The ring that the main mover serves: of the highest level with one ACTIVE (R464). -/
def servedRing (s : State) : Option Nat :=
  [3, 2, 1, 0].findSome? (fun lv => turnAt s lv (spGet 0 s.mem.turn lv))

/-- The turn of a level passes on from a ring (R464). -/
def passTurn (s : State) (r : Nat) : State :=
  let lv := ringLevel s r
  { s with mem := { s.mem with turn := spPut 0 s.mem.turn lv ((turnAt s lv (r + 1)).getD ((r + 1) % 128)) } }

/-- An SRAM span that a ring may touch, and that serves. -/
def ringSpan (s : State) (r tag addr n : Nat) : Bool :=
  let off := addr - sramBase
  decide (sramBase ≤ addr) && decide (addr + n ≤ sramBase + sramSize) && ¬ (s.island 12).off &&
    ((List.range 96).filter (fun a => off < (a + 1) * 0x80000 ∧ a * 0x80000 < off + n)).all (fun a => s.sramAllowed .dma tag (some r) a && (s.physBank a).isSome)

/-- A ring of PRIO 0 without TRIG_TL, or with MOVER = 1, moves on one cycle in this many (R562). -/
def ringThrottle (s : State) (r : Nat) : Nat :=
  if rbit s .dmaRingCfg [r] 6 ∨ ¬ (rbit s .dmaRingCfg [r] 8 ∨ rf s .dmaRingCfg [r] 5 4 = 0) then 1
  else match rf s .thmStat [] 17 16 with
    | 0 => 1
    | 1 => 2
    | _ => 4

/-- What a ring on the main mover has moved by now (R465): one beat a cycle read, one written, a group of beats behind and a latency of 4
cycles; the bytes read and not yet written stay in its context.  A descriptor with a fixed address, or outside the SRAM, moves whole. -/
def settleRing (s : State) (r : Nat) : State :=
  let tag := s.ringOwner r
  let a := rf s .dmaRingBase [r] 39 0 + 32 * rf s .dmaRingStat [r] 23 12
  let d := descOf (sramPeek s a 32)
  let b := spGet Batch.none_ s.mem.batch r
  if ¬ (d.own ∧ d.ok ∧ ¬ d.sfix ∧ ¬ d.dfix ∧ ringSpan s r tag a 32 ∧ ringSpan s r tag d.src d.len ∧ ringSpan s r tag d.dst d.len) then s
  else
    let lim := if rbit s .dmaRingCfg [r] 6 then min d.len (rf s .dmaRingCfg [r] 55 32 * 64 - b.moved) else d.len
    let total := ceilDiv lim 64
    let c := (s.clk.elapsed - b.since) * 5 / (2 * ringThrottle s r)
    let t := d.group
    let rd_ := min total (b.read + c)
    let w0 := b.done / 64
    let lag := if b.read ≠ 0 then 0 else if t = 1 then 4 else t + 4
    let w := max w0 (min (min ((b.read + c - 4) / t * t) (w0 + (c - lag))) (total - 1))
    let beats := (List.range rd_).filter (fun i => b.read ≤ i)
    let got := b.held ++ beats.map (fun i => (d.beat i, sramBytes s (d.src + d.beat i - sramBase) (min 64 (d.len - d.beat i))))
    let data (o n : Nat) : List Byte := match got.find? (fun g => decide (g.1 ≤ o) && decide (o < g.1 + 64)) with
      | some g => sliceBytes g.2 (o - g.1) n
      | none => []
    let s1 := (takeSpan d.pieces b.done (64 * w)).foldl (fun s x => sramStore s (d.dst + x.1 - sramBase) (data x.2.1 x.2.2)) s
    let keep := got.filter (fun g => (List.range rd_).any (fun i => decide (w / t * t ≤ i) && decide (d.beat i = g.1)))
    let half := decide (¬ b.halfDone) && decide (d.len / 2 ≤ 64 * w)
    let s2 := { s1 with mem := { s1.mem with batch := spPut Batch.none_ s1.mem.batch r
                                               { b with done := max b.done (64 * w), read := rd_, held := keep, halfDone := b.halfDone || half,
                                                        since := s.clk.elapsed } } }
    if half ∧ d.half then ringCompletion s2 r false else s2

/-- After a change from `s0` to `s1` the main mover serves the ring that is now due: the one before it stops where it is (R465), the new one
goes on from here. -/
def switchMover (s0 s1 : State) : State :=
  let a := servedRing s0
  let b := servedRing s1
  if a = b then s1
  else
    let s2 := match a with
      | some q => if onMain s1 q then settleRing s1 q else s1
      | none => s1
    match b with
    | some r => { s2 with mem := { s2.mem with batch := spMod Batch.none_ s2.mem.batch r (fun x => { x with since := s2.clk.elapsed }) } }
    | none => s2

/-- A batch starts, and pre-empts what runs at a lower level (R455, R464, R465). -/
def startBatch (s : State) (r : Nat) (tl : Bool) : State :=
  let lv := ringLevel s r
  let idle := decide ((turnAt s lv 0).isNone)
  let s1 := openBatch s r tl
  let s2 := if idle ∧ onMain s1 r then { s1 with mem := { s1.mem with turn := spPut 0 s1.mem.turn lv r } } else s1
  switchMover s s2

/-- The main mover falls back (R467): what is buffered is dropped, its rings go on with the split movers from their first beat not written. -/
def moverFallback (s : State) : State :=
  let s1 := match servedRing s with
    | some q => settleRing s q
    | none => s
  let s2 := ((List.range 128).filter (onMain s1)).foldl (fun s r =>
    { s with mem := { s.mem with batch := spMod Batch.none_ s.mem.batch r (fun b => { b with held := [], read := b.done / 64, split := true }) } }) s1
  raise s2 175 NA NA

/-- The ring that the split movers serve first: of the highest level, the lowest number (R466). -/
def splitRing (s : State) : Option Nat :=
  [3, 2, 1, 0].findSome? (fun lv => (List.range 128).find? (fun r => decide (ringSt s r = 2) && ¬ onMain s r && decide (ringLevel s r = lv)))

/-- A mover takes a ring's descriptor now: on the main mover the ring it serves; the split movers have up to 16 rings in flight (R464, R466).  A
mover whose ports are masked moves nothing (R445, R451). -/
def ringServed (s : State) (r : Nat) : Bool :=
  if onMain s r then decide (servedRing s = some r) && ¬ s.portMasked 20 && ¬ s.portMasked 21
  else ¬ s.portMasked 22 && ¬ s.portMasked 23 && decide (((List.range 128).filter (fun q => ringSt s q = 2 ∧ ¬ onMain s q ∧
      (ringLevel s r < ringLevel s q ∨ ringLevel s r = ringLevel s q ∧ q < r))).length < 16)

end Sys2Proof.Machine
end

