-- ==== Sys2Proof/Machine/Views.lean ====
section
/-! DEFINITION. What a read of a register or an object returns: the stored value, with the fields that show the state of a part.
A read has no effect; the reads that have one are commands of the table or stand in Machine/Shared.lean. -/

namespace Sys2Proof.Machine

/-- A mask of the numbers of a list. -/
def maskOf (l : List Nat) : Nat := (l.map (2 ^ ·)).sum

/-- A map word (PCc_Lk_ADC_MAPI layout): position j in bits 4j + 3 to 4j, the spare in 35:32, 0xF none, the retired from bit 36. -/
def mapWord (pos : List Nat) (spare : Option Nat) (retired : List Nat) : Nat :=
  ((pos.take 8).zip (List.range 8)).foldl (fun w x => w + x.1 % 16 * 16 ^ x.2) 0 + spare.getD 15 % 16 * 2 ^ 32 + maskOf retired * 2 ^ 36

/-! ## Registers of the paths -/

/-- The code of a pin phase. -/
def PinPhase.code : PinPhase → Nat
  | .reset => 0
  | .tx => 1
  | .rx => 2
  | .guard => 3
  | .off => 4

/-- The code of a synthesiser's state. -/
def SynSt.code : SynSt → Nat
  | .off => 0
  | .calibrating => 1
  | .settling => 2
  | .locked => 3
  | .holdover => 4

/-- The code of a predistortion state. -/
def DpdSt.code : DpdSt → Nat
  | .identity => 0
  | .ramp => 1
  | .probation => 2
  | .good => 3
  | .fallback => 4
  | .backoffRamp => 5

/-- The code of an engine's state. -/
def EngSt.code : EngSt → Nat
  | .off => 0
  | .loading => 1
  | .idle => 2
  | .running => 3
  | .draining => 4
  | .spare => 5
  | .retired => 6
  | .halted => 7

/-- ADC_STAT of the converter pair 2k and 2k + 1. -/
def adcWord (s : State) (k : Nat) : Nat :=
  let one (c : Conv) : Nat := (if c.spare.isNone then 15 else c.shadow % 16) + min 2 c.retired.length * 16 + b2n c.failed * 64
  let i := s.conv (2 * k)
  let q := s.conv (2 * k + 1)
  one i + one q * 256 + b2n (corrHeld s (2 * k) || corrHeld s (2 * k + 1)) * 2 ^ 15 + ofSigned 16 (max i.spur q.spur) * 2 ^ 16

/-- DAC_STAT of two DACs. -/
def dacWord (i q : DacCells) : Nat :=
  let chk (d : DacCells) : Nat := if d.check.isNone then 127 else spGet d.at_ d.map d.at_
  let left (d : DacCells) : Nat := b2n d.check.isSome + b2n d.other.isSome
  chk i % 128 + left i * 2 ^ 7 + chk q % 128 * 2 ^ 9 + left q * 2 ^ 16

/-- FE_STAT: the fields that show the path. -/
def feStatWord (s : State) (p stored : Nat) : Nat :=
  let x := s.pathFe p
  let v := setBits (setBits stored 2 0 x.phase.code) 3 3 (b2n x.ovl)
  setBits (setBits (setBits v 5 5 (b2n x.bus.isSome)) 8 6 x.lists.length) 12 9 x.lastErr

/-- RXG_STAT. -/
def rxgStatWord (s : State) (p : Nat) : Nat :=
  let g := s.rxg p
  g.att % 32 + b2n (s.pathFe p).lnaByp * 32 + b2n g.early * 64 + min 255 g.ovr * 256 + ofSigned 16 g.est * 2 ^ 16

/-- ORX_STAT of a receiver: off in TDD (R150). -/
def orxStatWord (s : State) (r : Nat) : Nat :=
  let o := s.orx r
  (if o.failed then 2 else if (s.island (2 * r)).off ∨ ¬ s.fdd then 0 else 1) + o.input % 16 * 4 + b2n o.running.isSome * 64 + b2n o.waiting.isSome * 128

/-- The state code and position of a physical lane (RX_STAT). -/
def laneShown (s : State) (c k : Nat) : Nat × Nat :=
  let l := s.lanes c
  if k ∈ l.retired then (3, 0)
  else match (List.range 8).find? (fun j => l.map.getD j 9 = k) with
    | some j => (0, j)
    | none => if l.spare = some k ∧ (l.move = 2 ∨ l.move = 3) then (2, l.pos) else (1, 0)

/-- A SYNC fills a lane's channels (R175). -/
def syncFills (s : State) : Bool := decide (s.rx.sync.filling ≠ [])

/-- TX_STAT of a lane. -/
def txStatWord (s : State) (c k stored : Nat) : Nat :=
  match laneShown s c k with
  | (0, j) =>
    let p := 8 * c + j
    let lim := maskOf ((List.range 8).filter (fun n => ((spGet [] s.tx.sym (p * 8 + n)).getLast?.map (·.scale)).getD 4096 ≠ 4096))
    setBits (setBits (setBits stored 7 0 lim) 16 16 (b2n (s.pathFe p).blanked)) 17 17 (b2n (syncFills s))
  | _ => setBits stored 17 17 (b2n (syncFills s))

/-- DPD_STAT. -/
def dpdStatWord (s : State) (p : Nat) : Nat :=
  let x := s.dpd p
  x.st.code + x.bank % 2 * 8 + b2n x.backoff * 16 + x.rampStep % 256 * 32 + b2n (s.dpdStale p) * 2 ^ 13 + x.result % 8 * 2 ^ 14 +
    ofSigned 16 x.ew * 2 ^ 32 + ofSigned 16 x.eref * 2 ^ 48

/-- CAL_STAT. -/
def calStatWord (s : State) (p stored : Nat) : Nat :=
  setBits (setBits stored 12 12 (b2n (s.pathState p = .cal))) 13 13 (b2n (s.calRunning p))

/-- A measured number in whole units. -/
def micro (l : List Int) (i per : Nat) : Nat := ofSigned 16 (Int.tdiv (l.getD i 0) (per : Int))

/-- CAL_RAMP: the ramp with most steps to take. -/
def calRampWord (s : State) (p : Nat) : Nat :=
  let (left, n) := calItems.foldl (fun (m : Nat × Nat) i =>
    let x := s.calItem p i
    if m.1 < x.n - x.k then (x.n - x.k, x.n) else m) (0, 0)
  min 255 left + min 255 n * 256

/-! ## Engines -/

/-- GE_STAT. -/
def geStatWord (s : State) (e : Nat) : Nat :=
  let x := s.eng e
  let (slot, cls, id) := match x.job with
    | some j => (j.slot, j.cls, j.id)
    | none => (0, 0, 0)
  x.st.code + b2n x.yielded.isSome * 8 + slot % 16 * 16 + cls % 8 * 2 ^ 8 + b2n x.moved * 2 ^ 11 + min 15 x.rels.length * 2 ^ 12 +
    id % 2 ^ 16 * 2 ^ 16

/-- GE_KTABs. -/
def geKtabWord (s : State) (e slot : Nat) : Nat :=
  match spGet none (s.eng e).kset slot with
  | some k => k.base % 2 ^ 13 + k.code % 2 ^ 14 * 2 ^ 16 + k.id % 2 ^ 16 * 2 ^ 32 + k.version % 2 ^ 16 * 2 ^ 48 + k.pbase % 2 ^ 18 * 2 ^ 64 + 2 ^ 82
  | none => 0

/-- GE_RELr. -/
def geRelWord (s : State) (e r : Nat) : Nat :=
  match (s.eng e).rels[r]? with
  | some x => 1 + x.slot % 16 * 2 + x.arg % 2 ^ 32 * 2 ^ 32 + x.period % 2 ^ 32 * 2 ^ 64 + x.phase % 2 ^ 32 * 2 ^ 96
  | none => 0

/-! ## Events -/

/-- EVT_STATb: the sources of a bank whose status is high. -/
def evtStatWord (s : State) (b : Nat) : Nat :=
  maskOf ((List.range 32).filter (fun i => s.evt.cond.any (fun c => c.1 = 32 * b + i) ||
    (decide (s.evt.shownAt = s.clk.elapsed) && decide (32 * b + i ∈ s.evt.shown))))

/-- EVT_ROUTEs (R495). -/
def evtRouteWord (src : Nat) : Nat :=
  match evtClass src with
  | 1 => 1
  | 2 => 2
  | 3 => 2 + 4
  | 4 => 2 + 8
  | _ => 0

/-- A log entry as bytes (R497). -/
def LogEntry.bytes (e : LogEntry) : List Byte :=
  beBytes 8 e.tick ++ beBytes 1 e.src ++ beBytes 1 e.dest ++ beBytes 2 e.inst ++ beBytes 2 e.aux ++ beBytes 1 e.rpt ++ [0]

/-- EVT_LOGi: the fields of R497 from bit 0 up. -/
def evtLogWord (s : State) (i : Nat) : Nat :=
  let first := s.evt.head - s.evt.log.length
  match (List.range s.evt.log.length).find? (fun k => (first + k) % 1024 = i) with
  | some k => match s.evt.log[k]? with
    | some e => e.tick % 2 ^ 64 + e.src % 256 * 2 ^ 64 + e.dest % 256 * 2 ^ 72 + e.inst % 2 ^ 16 * 2 ^ 80 + e.aux % 2 ^ 16 * 2 ^ 96 +
        e.rpt % 256 * 2 ^ 112
    | none => 0
  | none => 0

/-- Rings ACTIVE. -/
def activeRings (s : State) : List Nat := (List.range 128).filter (fun r => rf s .dmaRingStat [r] 1 0 = 2)

/-- The challenge in force, or nothing. -/
def chalShown (s : State) : Nat × List Byte := s.challenge.getD (0, [])

/-! ## The read of a register -/

/-- The value a read returns. -/
def readReg (s : State) (id : RegId) (ix : List Nat) : Nat :=
  let v := rd s id ix
  let a := ix.getD 0 0
  let b := ix.getD 1 0
  let p := 8 * a + b
  match id with
  | .tlStatus => setBits (setBits (setBits v 0 0 (b2n s.tlRuns)) 3 3 (b2n s.tl.pendStep.isSome)) 4 4 (b2n s.adm.waiting.isSome)
  | .tlNowLo => s.now % 2 ^ 32
  | .monTrig => rf s .monStat [a] 1 1
  | .loStatus => s.lo.txServe + s.lo.rxServe * 4 + b2n s.lo.hop.isSome * 16
  | .loSynStatus =>
    let x := s.syn a
    x.st.code + x.preset * 16 + b2n (s.lo.txServe = a) * 256 + b2n (s.lo.rxServe = a) * 512 + b2n x.fault * 1024
  | .feStat => feStatWord s p v
  | .feSafe => (s.pathFe p).safeNv % 16
  | .adcStat => adcWord s p
  | .adcMapi => let c := s.conv (2 * p); mapWord c.pos c.spare c.retired
  | .adcMapq => let c := s.conv (2 * p + 1); mapWord c.pos c.spare c.retired
  | .dacStat => dacWord (s.dac (2 * p)) (s.dac (2 * p + 1))
  | .orxStat => if a % 2 = 0 then orxStatWord s (a / 2) else 0
  | .rxgStat => rxgStatWord s p
  | .rxStat => let (st, pos) := laneShown s a b; setBits (setBits (setBits v 2 0 st) 5 3 pos) 7 7 (b2n (syncFills s))
  | .coef => (spGet [] s.rx.coef ((a * 9 + b) * 8 + ix.getD 2 0)).getD (ix.getD 3 0) 0
  | .txcoef => (spGet [] s.rx.txcoef ((a * 9 + b) * 8 + ix.getD 2 0)).getD (ix.getD 3 0) 0
  | .chCfg => if bitOf v 0 then setBits v 63 32 (ncoWord s (ix.getD 2 0) false) else v
  | .txchCfg => if bitOf v 0 then setBits v 63 32 (ncoWord s (ix.getD 2 0) true) else v
  | .txchRun =>
    let n := ix.getD 2 0
    (match laneShown s a b with
    | (0, j) => if rbit s .txchCfg [a, b, n] 0 then
        carrierGain s (8 * a + j) n (toSigned 16 (s.onum (0x2100 + n) 1)) (toSigned 16 (s.onum (0x2100 + n) 2)) (12 * s.ccN n)
          (s.pFs (8 * a + j)) % 2 ^ 32 +
          s.txLat (8 * a + j) n % 2 ^ 16 * 2 ^ 32 else 0
    | _ => 0)
  | .laneMap => let l := s.lanes a; mapWord l.map l.spare l.retired
  | .moveStat => let l := s.lanes a; l.move % 4 + l.pos % 8 * 4 + l.result % 8 * 32 + b2n s.rx.rolling * 256
  | .txStat => txStatWord s a b v
  | .cfrStat =>
    (match laneShown s a b with
    | (0, j) => let (t, l) := cfrLevels s (8 * a + j); min 0xFFFF t + min 0xFFFF l * 2 ^ 16 + s.tx.bank * 2 ^ 32
    | _ => s.tx.bank * 2 ^ 32)
  | .bfTileMap => mapWord s.bm.map s.bm.spare s.bm.retired
  | .bfTileStat => ((List.range 9).map (fun t => (if t ∈ s.bm.retired then 2 else if s.bm.spare = some t then 1 else 0) * 4 ^ t)).sum
  | .bfElemMask => s.bm.mask
  | .bfHealStat => s.inService + s.bm.heal.stage * 128 + b2n s.bm.heal.late * 512
  | .bfCcCfg => setBits v 58 48 (s.bfNg a)
  | .bfCcSet => (s.wset a 0).cur + (s.wset a 1).cur * 2
  | .dpdStat => dpdStatWord s p
  | .dpdTheta => let x := s.dpd p; ofSigned 16 (x.theta / 2 ^ 18) + ofSigned 16 x.tmod * 2 ^ 16
  | .dpdReq => maskOf ((List.range 64).filter (fun q => spGet 0 s.disp.pending q ≠ 0))
  | .dpdPend => maskOf ((List.range 64).filter (fun q => spGet 0 s.disp.pending q ≠ 0))
  | .dpdStale => maskOf ((List.range 64).filter s.dpdStale)
  | .dpdDispStat => min 15 s.disp.jobs.length + s.disp.last % 64 * 16 + b2n s.disp.round * 1024
  | .geStat => geStatWord s a
  | .gePc => (s.eng a).pc
  | .geCyc => (s.eng a).cyc
  | .gePostStat => (s.eng a).queue.length + b2n (s.eng a).lastRefused * 32
  | .geCpl => (s.eng a).cpl.headD 0
  | .geKtab => geKtabWord s a b
  | .geRel => geRelWord s a b
  | .geDoorbell => b2n (bitOf (s.eng a).irq 2)
  | .calHrx => setBits v 0 0 (b2n (rf s .calHrxStat [] 1 0 = 1))
  | .calCalrxStat => adcWord s 68
  | .calStat => calStatWord s p v
  | .obsLd => s.loopDelay p
  | .calDc => let x := (s.calItem p 1).now.x
              micro x 0 1000000 + micro x 1 1000000 * 2 ^ 16 + micro x 2 1000000 * 2 ^ 32 + micro x 3 1000000 * 2 ^ 48
  | .calTrim => let g := (s.calItem p 1).now.g; micro g 0 1000 + micro g 1 1000 * 2 ^ 16
  | .calRamp => calRampWord s p
  | .memPrio => setBits v 1 0 (s.portLevel a)
  | .memLockStat => b2n s.mem.lock.isSome + b2n s.mem.lockWait.isSome * 2
  | .memBankStat => setBits (setBits v 15 13 ((s.partOf (bankServed s a)).getD 4)) 16 16 (b2n (rbit s .memBankCtrl [a] 0))
  | .dmaStat =>
    let l := activeRings s
    s.mem.mainMover + b2n (l.any (fun r => ¬ onMain s r)) * 4 + l.length * 8
  | .evtStat => evtStatWord s a
  | .evtRoute => evtRouteWord a
  | .evtLogHead => s.evt.head
  | .evtLog => evtLogWord s a
  | .t1sStat =>
    let plca := decide (s.straps.plcaNode ≠ 255) && rbit s .t1sCtrl [] 0
    b2n plca + b2n (plca && s.straps.plcaNode = 0) * 2 + s.straps.plcaNode % 256 * 4
  | .aonRtc => s.rtc
  | .dbgChalId => (chalShown s).1
  | .dbgChal => beNum (sliceBytes (chalShown s).2 (8 * a) 8)
  | _ => v

/-! ## Objects that show registers or state -/

/-- The array-gain figure (R263): 10 log₁₀ of the elements in service over 64, in 0.01 dB, to the nearest step; nearest is where the
square of the ratio lies between 10 to the half steps.  No element in service has no logarithm: the figure is free. -/
def arrayGain (s : State) : Int :=
  let n := s.inService
  if n = 0 then (Config.freeNat (2 ^ 64) : Int)
  else
    -- squares, in 2 ^ fxBits: the largest g with 10 ^ ((2 g - 1) / 1000) ≤ (n / 64)²
    let target := n * n * 2 ^ fxBits / 4096
    (List.range 1900).foldl (fun (b : Int) i => let g : Int := -(i : Int); if b ≤ -1900 ∧ pow10 (2 * g - 1) ≤ target then g else b) (-1900)

/-- The summary of R622. -/
def healthSummary (s : State) (sub : Nat) : Nat :=
  let pools := List.range 378
  match sub with
  | 1 => s.inService
  | 2 => ofSigned 16 (arrayGain s)
  | 3 => (pools.filter (fun p => s.poolLeft p = 0)).length
  | 4 => s.svc.low.length
  | 5 => (pools.filterMap s.forecast).foldl min 0xFFFFFFFF
  | 6 => s.nv.hours
  | _ => 0

/-- The statistics counters among the objects (R499, R500). -/
def isCounter (index sub : Nat) : Bool :=
  if 0x8000 ≤ index ∧ index < 0x9000 then
    decide (sub = 1) && decide ((index - 0x8000) % 0x40 ∈
      [0x10, 0x11, 0x15, 0x1D, 0x1E, 0x1F, 0x23, 0x24, 0x25, 0x26, 0x2E, 0x2F, 0x30, 0x31, 0x32, 0x38, 0x39, 0x3A])
  else if 0x5020 ≤ index ∧ index < 0x5028 then decide (1 ≤ sub ∧ sub ≤ 4)
  else if 0x9200 ≤ index ∧ index < 0x9208 then decide (1 ≤ sub ∧ sub ≤ 17)
  else if 0x9210 ≤ index ∧ index < 0x9214 then decide (1 ≤ sub ∧ sub ≤ 12 ∨ 18 ≤ sub ∧ sub ≤ 20)
  else if 0xD020 ≤ index ∧ index < 0xD084 then decide (sub = 2 ∨ sub = 3)
  else if 0xD100 ≤ index ∧ index < 0xD112 then decide (sub = 2 ∨ sub = 3 ∨ sub = 5)
  else if 0xE100 ≤ index ∧ index < 0xE200 then decide (sub = 1)
  else match index with
    | 0x1050 => decide (1 ≤ sub ∧ sub ≤ 3)
    | 0x2F20 => decide (sub = 9)
    | 0xB107 => decide (1 ≤ sub ∧ sub ≤ 8)
    | 0xB111 => decide (1 ≤ sub ∧ sub ≤ 6)
    | 0xC050 => decide (sub = 6)
    | _ => false

/-- The bytes of base-note set `j` (object 0x7021 + j): the manual gives no layout. -/
def baseSetObj (s : State) (j : Nat) : List Byte :=
  Config.baseSetBytes (s.cal.base.filterMap (fun e =>
    if e.1 / 16384 = j then e.2.map (fun v => (e.1 / 256 % 64, e.1 % 256, v)) else none))

/-- Fan speed in revolutions per minute from the tachometer's period (object 0xB700 + n sub-index 3). -/
def fanSpeed (s : State) (n : Nat) : Nat :=
  let t := rf s .thmTach [n] 23 0
  if t = 0 then 0 else 60 * 49152000 / (t * (rf s .thmPwmCfg [n] 35 34 + 1))

/-- Ticks that the capture in a buffer has waited for its host, or waited before it was sent (R81). -/
def State.capWaited (s : State) (b : Nat) : Nat := if (s.buf b).st = .full then s.clk.elapsed - (s.buf b).fullAt else (s.buf b).waited

/-- The value of an object that shows state: none where the object's value is stored. -/
def viewObj (s : State) (index sub : Nat) : Option ObjVal :=
  let num (n : Nat) : Option ObjVal := some (.num n)
  let reg (id : RegId) (ix : List Nat) : Option ObjVal := some (.num (readReg s id ix))
  if isCounter index sub then num (spGet 0 s.stats (okey index sub)) else
  if 0x8000 ≤ index ∧ index < 0x9000 then
    let p := (index - 0x8000) / 0x40
    let ix := [p / 8, p % 8]
    match (index - 0x8000) % 0x40 with
    | 0x0A => num (s.staleItems p)
    | 0x18 => reg .adcStat ix
    | 0x19 => num (ofSigned 16 (max (s.conv (2 * p)).spur (s.conv (2 * p + 1)).spur))
    -- the mirage flag of R145 in the lowest bit that the layout leaves free
    | 0x1A => num (dacWord (s.dac (2 * p)) (s.dac (2 * p + 1)) + b2n ((s.dac (2 * p)).check.isNone || (s.dac (2 * p + 1)).check.isNone) * 2 ^ 18)
    | 0x1C => reg .obsLd ix
    | 0x22 => reg .rxgStat ix
    | 0x2D => num (ofSigned 16 (s.pFs p))
    | 0x27 => some (.num (ofSigned 16 (match (List.range 8).find? s.ulOn with
        | some n => spGet 0 s.rx.fine (p * 8 + n)
        | none => 0)))
    | 0x33 => num (ofSigned 16 (spGet (-32768) s.tx.power p))
    | 0x34 => num ((s.dpd p).st.code + b2n (s.dpd p).backoff * 128)
    | 0x35 => num (ofSigned 16 (s.dpd p).ew)
    | 0x36 => num (ofSigned 16 (s.dpd p).eref)
    | 0x37 => num (ofSigned 16 ((s.dpd p).theta / 2 ^ 18))
    | 0x3B => num ((s.dpd p).word (s.dpd p).bank 1)
    | 0x3C => num (s.dpd p).stale
    | 0x3E => num (ofSigned 16 (s.amp p).tmod)
    | 0x3F => num ((s.amp p).im.toNat % 65536)
    | _ => none
  else if 0x3020 ≤ index ∧ index < 0x3024 then num (s.syn (index - 0x3020)).st.code
  else if 0x4020 ≤ index ∧ index < 0x4028 then reg .laneMap [index - 0x4020]
  else if 0x4200 ≤ index ∧ index < 0x4300 then
    let b := index - 0x4200
    let w := rd s .capStat [(s.buf b).path / 8, b]
    match sub with
    | 1 => num (bitsOf w 63 0)
    | 2 => num (bitsOf w 79 64)
    | 3 => num (bitsOf w 95 94)
    -- the flags, and above them the ticks that a host's capture has waited (R81, assumption 125)
    | _ => num (bitsOf w 106 96 + min (2 ^ 21 - 1) (s.capWaited b) * 2 ^ 11)
  else if 0x5000 ≤ index ∧ index < 0x5008 ∧ sub = 1 then reg .bfCcCfg [index - 0x5000]
  else if 0x5030 ≤ index ∧ index < 0x5038 then reg .bfCcSet [index - 0x5030]
  else if 0x6200 ≤ index ∧ index < 0x6240 ∧ sub = 1 then
    let x := s.dpd (index - 0x6200)
    some (.bytes (((List.range bankWords).map (fun i => beBytes 4 (if x.ident then bankReset 0 i else x.word x.bank i))).flatten))
  else if 0x7021 ≤ index ∧ index < 0x7029 then some (.bytes (baseSetObj s (index - 0x7021)))
  else if 0xD100 ≤ index ∧ index < 0xD112 then
    let e := index - 0xD100
    match sub with
    | 1 => num (s.eng e).st.code
    | 4 => num (s.eng e).placed
    | _ => none
  else if 0xD160 ≤ index ∧ index < 0xD170 then
    let b := s.kernelImage [] (index - 0xD160)
    let k := kernelOf b 0 0
    if b = [] then num 0 else
    match sub with
    | 1 => num k.id
    | 2 => num k.version
    | 3 => num k.cyc
    | _ => num k.root
  else if 0xB600 ≤ index ∧ index < 0xB660 ∧ sub = 3 then some (.bytes ((neighbours (index - 0xB600)).map (BitVec.ofNat 8 ·)))
  else if 0xB700 ≤ index ∧ index < 0xB704 ∧ sub = 3 then num (fanSpeed s (index - 0xB700))
  else if 0x9000 ≤ index ∧ index < 0x9004 ∧ sub = 4 then reg .lnkPortStat [index - 0x9000]
  else if 0xA180 ≤ index ∧ index < 0xA200 ∧ sub = 1 then reg .dmaRingStat [index - 0xA180]
  else if 0xD020 ≤ index ∧ index < 0xD084 ∧ sub = 1 then reg .memBankStat [index - 0xD020]
  else if 0x2F11 ≤ index ∧ index < 0x2F15 then some (.bytes (spGet [] s.diong.digests (index - 0x2F11)))
  else match index, sub with
  | 0x1000, 1 => num (Config.vendorCode % 2 ^ 32)
  | 0x1000, 2 => some (.bytes ([0x43, 0x52, 0x56, 0x36, 0x34, 0x36, 0x34]))
  | 0x1000, 3 => num (Config.siliconRev % 2 ^ 16)
  | 0x1000, 4 => num (Config.serial % 2 ^ 64)
  | 0x1000, 7 => num (Config.t1sMac % 2 ^ 48)
  | 0x1010, 1 => num s.straps.bootSource
  | 0x1010, 2 => num s.straps.plcaNode
  | 0x1010, 3 => num s.straps.tenants
  | 0x1040, n => num ((s.diong.sessions.filter (fun x => match x.transport with
      | .port k => k + 1 = n
      | .t1s => n = 5
      | .spi => n = 6)).length)
  | 0x1060, 3 => num s.boot.dozeMs
  | 0x2F10, 1 => num s.adm.epoch
  | 0x2F10, 2 => some (.bytes (spGet [] s.diong.digests 4))
  | 0x2F20, n => num (spGet 0 s.diong.crc (n - 1))
  | 0x4002, n => num (bitsOf (orxStatWord s (n - 1)) 1 0)
  | 0x5900, 1 => num s.inService
  | 0x5900, 2 => num (ofSigned 16 (arrayGain s))
  | 0x5900, 3 => num s.bm.mask
  | 0x5900, 4 => num s.bm.heal.stage
  | 0x6000, 2 => reg .dpdPend []
  | 0x6000, 3 => reg .dpdStale []
  | 0x7040, 1 => num (rf s .calXo [] 31 0)
  | 0x7040, 2 => num (rf s .calXo [] 63 32)
  | 0x7040, 3 => some (.bytes (((List.range 32).map (fun b => beBytes 4 (ofSigned 32 (spGet 0 s.cal.table b)))).flatten))
  | 0x9010, 1 => reg .lnkLaneMap []
  | 0x9011, 1 => reg .lnkLaneStat []
  | 0x9301, 1 => num (rf s .lnkPtpStat [] 2 0)
  | 0x9301, 2 => num (rf s .lnkPtpStat [] 63 32)
  | 0x9301, 3 => num (rf s .lnkPtpStat [] 12 5)
  | 0x9301, 4 => num (s.lnk.master.getD 0)
  | 0x9311, 1 => reg .lnkSynceStat []
  | 0xB101, 3 => num (if rbit s .pwrReqStat [] 7 then rf s .pwrReqStat [] 10 8 else 0xFF)
  | 0xB001, 4 => num (((List.range 96).filter (fun x => rf s .thmSens [x] 17 16 = 1)).length)
  | 0xC010, 1 => some (.bytes (if s.nv.idKey = 0 then List.replicate 97 0 else ptBytes (ptMul s.nv.idKey (some p384G))))
  | 0xC011, 1 => some (.bytes (sha384 Config.vendorRoot))
  | 0xC011, n => if n = 4 then none else
      (let r := s.root (n - 1)
       some (.bytes (if r.st = 0 then List.replicate 48 0 else sha384 r.key)))
  | 0xC020, 2 => some (.bytes s.sec.report)
  | 0xC040, n => if n = 1 then none else num (s.keyGen (n - 1))
  | 0xC050, 2 => num (b2n (rbit s .dbgStat [] 3) * 128 + rf s .dbgStat [] 5 4 * 16)
  | 0xC050, 3 => some (.bytes (beBytes 4 (chalShown s).1 ++ (chalShown s).2))
  | 0xC070, 1 => some (.bytes (beBytes 4 s.nv.minSec ++ beBytes 4 s.nv.minPol ++
      ((s.ge.minVer.map (fun m => beBytes 2 m.1 ++ beBytes 2 m.2)).flatten)))
  | 0xC060, _ => some (.bytes s.sec.tunnel)
  | 0xD000, n => num (healthSummary s n)
  | 0xD010, 1 => num (((List.range 96).filter (fun a => (s.physBank a).isSome)).length)
  | 0xD010, 2 => num (((List.range 100).filter (fun b => bankState s b = 1)).length)
  | 0xD010, 3 => num (((List.range 100).map (fun b => if bankState s b = 3 then 0 else 8 - rf s .memBankStat [b] 12 9)).sum)
  | 0xD120, 1 => num (b2n s.ge.roll.isSome)
  | 0xD120, 2 => num (((List.range 16).map (fun sl => (kernelOf (s.kernelImage [] sl) 0 0).code)).sum)
  | 0xD120, 3 => num (((List.range 16).map (fun sl => (kernelOf (s.kernelImage [] sl) 0 0).persist)).sum)
  | 0xD300, 1 => some (.bytes (((List.range 378).map (fun p =>
      beBytes 1 (poolInitial p) ++ beBytes 1 (s.poolLeft p) ++ beBytes 2 (s.poolUses p).length ++ beBytes 4 ((s.forecast p).getD 0xFFFFFFFF))).flatten))
  | 0xD400, 1 => num s.nv.wTotal
  | 0xD400, 2 => num s.nv.wStore
  | 0xD400, 3 => num s.nv.wLearn
  | 0xD400, 4 => num s.nv.wOther
  | 0xD400, 5 => num s.nvHighest
  | 0xD400, 6 => num s.nvLife
  | 0xE000, 2 => num s.evt.head
  | _, _ => none

end Sys2Proof.Machine
end

