-- ==== Sys2Proof/Machine/Shared.lean ====
section
/-! DEFINITION. Transactions on the memory fabric and the control network: who may read and write what, the effect of a register's write
and read, and spans of block memory (R21, R28 to R35, R472, and the firewall rule that ends each chapter's register section). -/

namespace Sys2Proof.Machine

/-! ## Ring triggers -/

/-- A trigger reaches a ring (R455). -/
def trigRing (s : State) (r : Nat) (tl : Bool) : State :=
  match ringSt s r with
  | 1 => startBatch s r tl
  | 2 =>
    let p := rf s .dmaRingStat [r] 5 2
    if p < 15 then wf s .dmaRingStat [r] 5 2 (p + 1)
    else raise (setFlag s .dmaRingStat [r] 6) 174 r NA
  | _ => bump s .dmaTrigDrop []

/-! ## Register writes -/

/-- A synthesiser's enable (R90): EN set takes an OFF synthesiser to CALIBRATING, EN cleared to OFF.  R90 names no preset for the tune: it
goes to the last preset in use, preset 0 after reset, even an unset one (DESIGN CHOICE, assumption 102). -/
def synEnable (s : State) (n : Nat) (en : Bool) : State :=
  let s1 := wbit s .loSynCtrl [n] 0 en
  if ¬ en then synOff s1 n
  else if (s1.syn n).st = .off ∧ s1.pwr.depth ≤ 1 then tuneSyn s1 n (s1.syn n).preset
  else s1

/-- Firmware's request bits make paths pending (R292). -/
def dpdRequests (s : State) (bits : Nat) : State := (List.range 64).foldl (fun s p =>
    if bitOf bits p then makePending (askAgain s .dpdReq [] p (decide (spGet 0 s.disp.pending p ≠ 0))) p else s) s

/-- A set request of the control cores, or a release (R449). -/
def lockWrite (s : State) (tag value : Nat) : State :=
  if ¬ bitOf value 48 then s
  else if bitOf value 47 then grantSet { s with mem := { s.mem with lock := none } }
  else
    let l := lockOfWord value
    if lockOrdered s.mem.lock l then grantSet { s with mem := { s.mem with lockWait := some l } }
    else raise (memFault s 0 tag 42 3) 166 NA NA

/-- ARM, MODE and STEP of an injection (R358). -/
def hrxArm (s : State) (value : Nat) : State :=
  let s1 := wf s .calHrx [] 6 1 (bitsOf value 6 1)
  if bitOf value 0 then wf (askAgain s1 .calHrx [] 0 (decide (rf s1 .calHrxStat [] 1 0 = 1))) .calHrxStat [] 1 0 1 else s1

/-- GE_POST (R326). -/
def postWrite (s : State) (e value tag : Nat) : State :=
  postJob s e ⟨bitsOf value 3 0, bitsOf value 6 4, bitsOf value 23 8, bitsOf value 63 32, bitsOf value 127 64, .firmware, 0, s.clk.elapsed⟩ tag

/-- RING requests DOORBELL (R317). -/
def ringDoorbell (s : State) (e : Nat) : State := (askAgain s .geDoorbell [e] 0 (bitOf (s.eng e).irq 2)).setEng e { s.eng e with irq := setBits (s.eng e).irq 2 2 1 }

/-- A write of PCc_CAP_REL (R162): for the buffer's OWNER or the device tag; a job that waits for a FREE buffer has its capture (R294). -/
def capRelease (s : State) (tag c value : Nat) : State :=
  if bitOf value 8 then
    (if tag = 4 ∨ tag = rf s .capDesc [c, value % 256] 60 58 then askWaiting (releaseBuffer s (value % 256)) else firewall s tag)
  else s

/-- The refusal of a write in the debug window (R598). -/
def dbgRefuse (s : State) (tag : Nat) : State := firewall (bump s .dbgFails []) tag

/-- The origin tag may write a register (R83, R204, R267, R297, R337, R382, R427, R468, R472, R505, R535, R568, R598, R625): the device tag,
or the debug tag at D2 or above. -/
def regTag (s : State) (tag : Nat) (id : RegId) : Bool :=
  match id with
  | .capRel => decide (tag < 6)
  | .loForce | .adcCtrl | .bfHealCmd | .dbgCoreCtrl | .dbgEngHalt | .pwrBoot => decide (tag = 5) && decide (2 ≤ s.sec.dbgLevel)
  | .dbgClose => decide (tag = 5)
  | .secMboxBuf => decide (tag = 4)
  | _ => s.tagDeviceOrD2 tag

/-- The threshold and ceiling that registers and objects both hold follow one another (R559, R562). -/
def thmMirror (s : State) : State :=
  let t := toSigned 16 (rf s .thmCtrl [] 15 0) * 100 / 64
  let m := toSigned 16 (rf s .thmCtrl [] 47 32) * 100 / 64
  { s with objs := spPut (objDefault s.tenants 0xB000 3) (spPut (objDefault s.tenants 0xB000 1) s.objs (okey 0xB000 1) (.num (ofSigned 16 t)))
             (okey 0xB000 3) (.num (ofSigned 16 m)) }

/-- A frequency the wake receiver does not tune leaves EN at 0 (WRX_CFG). -/
def wrxCheck (s : State) : State :=
  let f := rf s .wrxCfg [] 20 1
  if f % 25 = 0 ∧ (863000 ≤ f ∧ f ≤ 870000 ∨ 902000 ≤ f ∧ f ≤ 928000) then s else wbit s .wrxCfg [] 0 false

/-- TL_CTRL.STEP_ARM set (R38): a step that pends is armed for the frame boundary at or after a tick; with none pending, or one armed
already, nothing is armed and the bit shows what stands (DESIGN CHOICE for software's write, which names no boundary: the tick of the
write). -/
def armStep (s : State) (t : Nat) : State :=
  if s.tl.pendStep.isSome ∧ s.tl.stepArmed.isNone then { wbit s .tlCtrl [] 2 true with tl := { s.tl with stepArmed := some t } }
  else wbit s .tlCtrl [] 2 s.tl.stepArmed.isSome

/-- What a register's write does beside the fields (R42, R174, R446, R467, R562, R566).  A threshold, input, gain or rate that is refused leaves
its field unchanged (DEDUCED for the monitor's, in the assumption log). -/
def afterWrite (s : State) (tag : Nat) (id : RegId) (ix : List Nat) (old : Nat) (asked : Bool := false) : State :=
  match id with
  | .tlCtrl =>
    let s1 := if ¬ rbit s .tlCtrl [] 2 then s
      else if s.tl.stepArmed.isNone then armStep s s.now
      -- asked for again in the tick in which the step may take effect (R7)
      else askAgain s .tlCtrl [] 2 asked
    if ¬ rbit s1 .tlCtrl [] 0 then allPathsOff s1
    else if ¬ bitOf old 0 then requestSync s1 s1.now
    else s1
  | .memBankCtrl =>
    -- a freeze ends the parking (R446)
    let s1 := if rbit s .memBankCtrl ix 0 then dropParked s (fun a _ => decide (s.physBank a = some (ix.getD 0 0))) else s
    if tag = 5 ∧ rbit s .memBankCtrl ix 0 ∧ ¬ bitOf old 0 then
      { s1 with sec := { s1.sec with frozen := setIns (ix.getD 0 0) s1.sec.frozen } } else s1
  | .dmaCtrl => if rbit s .dmaCtrl [] 0 ∧ ¬ bitOf old 0 then moverFallback s else s
  | .thmPwmDuty => dutyWritten s (ix.getD 0 0)
  | .thmPwmCfg => fanUpdate s (ix.getD 0 0)
  | .thmCtrl =>
    let t := toSigned 16 (rf s .thmCtrl [] 15 0)
    thmMirror (if t < 5440 ∨ 6720 < t then wf s .thmCtrl [] 15 0 (bitsOf old 15 0) else s)
  | .monSeq =>
    let s1 := if 6 ≤ rf s .monSeq ix 14 12 then wf s .monSeq ix 14 12 (bitsOf old 14 12) else s
    let s2 := if 14 ≤ rf s1 .monSeq ix 18 15 then wf s1 .monSeq ix 18 15 (bitsOf old 18 15) else s1
    let s3 := if monInput (rf s2 .monSeq ix 5 0) then s2 else wf s2 .monSeq ix 5 0 (bitsOf old 5 0)
    if monInput (rf s3 .monSeq ix 11 6) then s3 else wf s3 .monSeq ix 11 6 (bitsOf old 11 6)
  | .monShared => if monInput (rf s .monShared [] 5 0) then s else wf s .monShared [] 5 0 (bitsOf old 5 0)
  | .wrxCfg => wrxCheck s
  | .adcCtrl => spurEdge (clockPath s (8 * ix.getD 0 0 + ix.getD 1 0)) (8 * ix.getD 0 0 + ix.getD 1 0)
  | _ => s

/-- FREEZE = 1 on a bank whose physical bank is ACTIVE is performed only from the debug tag at D3 (R446). -/
def freezeRefused (s : State) (tag : Nat) (id : RegId) (ix : List Nat) (v : Nat) : Bool :=
  match id with
  | .memBankCtrl => bitOf v 0 && decide (bankState s (ix.getD 0 0) = 0) && ¬ (decide (tag = 5) && decide (3 ≤ s.sec.dbgLevel))
  | _ => false

/-- The write of a register whose write is an action. -/
def regAction (s : State) (m : Master) (tag : Nat) (id : RegId) (ix : List Nat) (v : Nat) : State :=
  let a := ix.getD 0 0
  let p := 8 * a + ix.getD 1 0
  match id with
  | .coef => coefWrite s tag a (ix.getD 1 0) (ix.getD 2 0) (ix.getD 3 0) v false
  | .txcoef => coefWrite s tag a (ix.getD 1 0) (ix.getD 2 0) (ix.getD 3 0) v true
  | .laneMoveReq => if bitOf v 4 then requestMove s a (v % 8) (bitOf v 3) else s
  | .tlSync =>
    let s1 := writeFields s .tlSync [] (v % 2)
    if bitOf v 1 then syncWrite s1 else s1
  | .loSynCtrl => synEnable s a (bitOf v 0)
  | .loForce => if bitOf v 6 ∧ presetSet s (v % 4) (bitsOf v 5 2) then forceTune s (v % 4) (bitsOf v 5 2) else s
  | .capRel => capRelease s tag a v
  | .bfHealCmd => if bitOf v 8 ∧ bitsOf v 7 6 = 1 then failPath s (v % 64) else if bitOf v 8 ∧ bitsOf v 7 6 = 2 then healClear s (v % 64) else s
  | .dpdHo => if bitOf v 0 then requestHo s p else s
  | .dpdReq => dpdRequests s v
  | .gePost => postWrite s a v tag
  | .geDoorbell => if bitOf v 0 then ringDoorbell s a else s
  | .geSvc => if bitOf v 0 then retireEngine s a true else s
  | .calHrx => hrxArm s v
  | .memLock => lockWrite s tag v
  | .dmaRingKick => if bitOf v 0 then trigRing s a false else s
  | .pwrReq => if bitOf v 4 then powerRequest s (bitsOf v 2 0) (bitOf v 3) else s
  | .bdacStrobe => if bitOf v 8 then strobeMask s (v % 256) else s
  | .bdacDrnReq => drainRequest s v
  | .bdacDrnFault => faultClear s v
  | .bdacChCode => codeWrite s a (bitsOf v 15 0)
  | .monTrig => if bitOf v 0 then monTrigger s a else s
  | .evtStk => clearSticky s a (ix.getD 1 0) v
  | .secMboxCmd => mboxWrite s m v
  | .dbgClose => if bitOf v 0 then endDebug s else s
  | .dbgCoreCtrl => coreCtrl s v
  | .dbgEngHalt => engineHalts s v
  | .ctlFwHo => if bitOf v 2 then hoRequest s (v % 4) (rd s .ctlFwHoTick []) else s
  | .ctlFwSig => fwSignal s m tag v
  | .pwrBoot => bootGo s v
  | _ => s

/-- A write of a register by a master, past the window's firewall. -/
def regWrite (s : State) (m : Master) (tag : Nat) (id : RegId) (ix : List Nat) (v : Nat) : State :=
  if id = .ctlFwSig then fwSignal s m tag v
  else if id = .coef ∨ id = .txcoef ∨ id = .gePost then regAction s m tag id ix v
  else if ¬ regTag s tag id ∨ freezeRefused s tag id ix v then
    (match id with
    | .dbgClose | .dbgCoreCtrl | .dbgEngHalt | .dbgFails | .dbgStat | .dbgChal | .dbgChalId | .dbgId => dbgRefuse s tag
    | _ => firewall s tag)
  else if ownCommand id then regAction s m tag id ix v
  else afterWrite (writeFields s id ix v) tag id ix (rd s id ix) (bitOf v 2)

/-! ## Register reads with an effect -/

/-- The read of a register: its value, and what the read does (R36, R330, R552, R589). -/
def regRead (s : State) (m : Master) (id : RegId) (ix : List Nat) : Nat × State :=
  let a := ix.getD 0 0
  match id with
  | .tlNowLo => (s.now % 2 ^ 32, wr s .tlNowHi [] (s.now / 2 ^ 32))
  | .geCpl => ((s.eng a).cpl.headD 0, s.setEng a { s.eng a with cpl := (s.eng a).cpl.tail })
  | .monData => (rd s .monData ix, wbit s .monData ix 36 false)
  | .dbgChal | .dbgChalId =>
    if m = .debug then
      let s1 := (challengeRead s).2
      (readReg s1 id ix, s1)
    else (readReg s id ix, s)
  | _ => (readReg s id ix, s)

/-! ## Spans -/

/-- A bank word written through the cluster's window (R279). -/
def bankWrite (s : State) (tag p b i v : Nat) : State :=
  if s.tagDeviceOrD2 tag ∧ (s.dpd p).writable b s.clk.elapsed then s.setDpd p ((s.dpd p).setWord b i v) else bankReject s p tag

/-- Engine data memory reads as zero to the debug tag at D2 and below while the engine works for a tenant (R325). -/
def dmemHidden (s : State) (tag e : Nat) : Bool := decide (tag = 5) && decide (s.sec.dbgLevel ≤ 2) && (List.range 4).any (s.engineFor e)

/-- The 32-bit word of a block's window at an address: a register's low word, or a higher one of a wide register. -/
def readWord (s : State) (m : Master) (tag a : Nat) : Nat × State :=
  match windowOf a with
  | some (.engine e) =>
    let o := (a - 0x1400000000) % 0x100000
    if o < 0x40000 then (if dmemHidden s tag e then 0 else (s.eng e).load o 4, s)
    else if o < 0x50000 then (spGet 0 (s.eng e).pmem ((o - 0x40000) / 8) >>> (8 * (o % 8)) % 2 ^ 32, s)
    else reg s a
  | _ => match bankAddr a with
    | some (p, b, i) => ((s.dpd p).word b i, s)
    | none => reg s a
where
  /-- A register's word. -/
  reg (s : State) (a : Nat) : Nat × State :=
    match [0, 4, 8, 12].findSome? (fun k => match regDecode (a - k) with
        | some (id, ix) => if 8 * k < (regRow id).width then some (k, id, ix) else none
        | none => none) with
    | some (k, id, ix) =>
      let (v, s1) := if k = 0 then regRead s m id ix else (readReg s id ix, s)
      (v >>> (8 * k) % 2 ^ 32, s1)
    | none => (0, s)

/-- The words of a span, four bytes each. -/
def readWords (m : Master) (tag : Nat) : Nat → Nat → State → List Byte × State
  | 0, _, s => ([], s)
  | n + 1, a, s =>
    let (v, s1) := readWord s m tag a
    let (l, s2) := readWords m tag n (a + 4) s1
    (leBytes 4 v ++ l, s2)

/-- The first bytes of a span stored in a block's window, and how many they are: a register takes as many as it is wide, block memory 4
or 8. -/
def writeOne (m : Master) (tag a : Nat) (l : List Byte) (s : State) : Nat × State :=
  let reg : Nat × State := match regDecode a with
    | some (id, ix) => (max 4 ((regRow id).width / 8), regWrite s m tag id ix (leNum (l.take (max 4 ((regRow id).width / 8)))))
    | none => (4, s)
  match windowOf a with
  | some (.engine e) =>
    let o := (a - 0x1400000000) % 0x100000
    if o < 0x40000 then (4, if s.tagDeviceOrD2 tag then s.setEng e ((s.eng e).store o (l.take 4)) else firewall s tag)
    else if o < 0x50000 then
      (8, if tag = 5 ∧ 2 ≤ s.sec.dbgLevel ∧ (s.eng e).st = .halted then
          s.setEng e { s.eng e with pmem := spPut 0 (s.eng e).pmem ((o - 0x40000) / 8) (leNum (l.take 8)) }
        else firewall s tag)
    else reg
  | _ => match bankAddr a with
    | some (p, b, i) => (4, bankWrite s tag p b i (leNum (l.take 4)))
    | none => reg

/-- Bytes stored in a block's window. -/
def writeBytes (m : Master) (tag : Nat) : Nat → Nat → List Byte → State → State
  | 0, _, _, s => s
  | n + 1, a, l, s =>
    if l = [] then s
    else
      let (w, s1) := writeOne m tag a l s
      writeBytes m tag n (a + w) (l.drop w) s1

/-- Block memory in a window: predistortion banks, an engine's data and program memory. -/
def blockMem (a : Nat) : Bool :=
  (bankAddr a).isSome || (match windowOf a with
    | some (.engine _) => decide ((a - 0x1400000000) % 0x100000 < 0x50000)
    | _ => false)

/-- The gate of a transaction (R21, R24, R28, R30, R33 to R35): the tag, the window, whether the master reaches it, and its island.  0
passes; 1 OFF, 3 refused by a firewall, 4 address fault, 5 discarded with the stopped pair that made it. -/
def gate (s : State) (m : Master) (tag a : Nat) (write : Bool) : Nat × State :=
  if s.silenced m then (5, s)
  else match windowOf a with
  | none => (4, addrFault s tag a)
  | some w =>
    if 6 ≤ tag then (3, firewall s tag)
    else if ¬ reaches m a write w then (4, addrFault s tag a)
    else if (s.island w.island).off then (1, s)
    else (0, s)

/-- A read of `n` bytes: response, data (zero unless OK), and the state.  ROM and NV store contents are the device's. -/
def fabRead (s : State) (m : Master) (tag a n : Nat) (ring : Option Nat := none) (port : Nat := 42) : Nat × List Byte × State :=
  match gate s m tag a false with
  | (0, s1) => match windowOf a with
    | some .sram => sramRead s1 m tag ring port (a - sramBase) n
    | some .rom | some .nv => let (b, s2) := drawBytes s1 n; (0, b, s2)
    | _ => let (b, s2) := readWords m tag (ceilDiv n 4) a s1; (0, b.take n, s2)
  | (c, s1) => (c, List.replicate n 0, s1)

/-- A write of bytes: response and the state. -/
def fabWrite (s : State) (m : Master) (tag a : Nat) (b : List Byte) (ring : Option Nat := none) : Nat × State :=
  match gate s m tag a true with
  | (0, s1) => match windowOf a with
    | some .sram => sramWriteBy s1 m tag ring (a - sramBase) b
    | some .nv => (0, (List.range (ceilDiv b.length 8)).foldl (fun s k => nvCount s ((a - 0x0200000000) / 8 + k) 2) s1)
    | _ => (0, writeBytes m tag b.length a b s1)
  | (c, s1) => (c, s1)

/-- A register write (REGISTER_WRITE): the register at an address takes a value.  Of the three responses of R21 a write that a firewall
or an address fault turned away answers OK: it was completed without effect (DESIGN CHOICE, assumption 96). -/
def regWriteBy (s : State) (m : Master) (tag a value : Nat) : State :=
  match gate s m tag a true with
  | (0, s1) => match regDecode a, blockMem a with
    | some (id, ix), false => emit (regWrite s1 m tag id ix value) (.bus 0 [])
    | _, _ => emit (writeBytes m tag 2 a (leBytes 8 value) s1) (.bus 0 [])
  | (5, s1) => s1
  | (c, s1) => emit s1 (.bus (if c = 1 then 1 else 0) [])

end Sys2Proof.Machine
end

