-- ==== Sys2Proof/Machine/DmaOps.lean ====
section
/-! DEFINITION. DMA rings: triggers, descriptors, reshuffles (chapter 12). -/

namespace Sys2Proof.Machine

/-- A ring leaves the movers. -/
def dropBatch (s : State) (r : Nat) : State := { s with mem := { s.mem with batch := spPut Batch.none_ s.mem.batch r Batch.none_ } }

/-- After a change at a ring's descriptor boundary from `s0` to `s1` its level's turn, where the ring had it, passes on, and the main mover goes on with the ring that
is due (R464). -/
def nextRing (s0 s1 : State) (r : Nat) : State :=
  let lv := ringLevel s0 r
  switchMover s0 (if onMain s0 r ∧ turnAt s0 lv (spGet 0 s0.mem.turn lv) = some r then passTurn s1 r else s1)

/-- A batch ends: the next pending trigger starts another, or the ring is IDLE (R455, R457). -/
def endBatch (s : State) (r : Nat) : State :=
  let p := rf s .dmaRingStat [r] 5 2
  if 0 < p then openBatch (wf s .dmaRingStat [r] 5 2 (p - 1)) r (rbit s .dmaRingCfg [r] 6)
  else dropBatch (wf s .dmaRingStat [r] 1 0 1) r

/-- A ring follows its enable (R454, R462): OFF stops it at the next beat, drops its batch, what it buffered and the pending count, and keeps
HEAD; enabled it is IDLE. -/
def ringEnable (s : State) (r : Nat) (en : Bool) : State :=
  if en then (if ringSt s r = 0 ∨ ringSt s r = 3 then wf (wf s .dmaRingStat [r] 1 0 1) .dmaRingStat [r] 11 9 0 else s)
  else
    let s0 := if servedRing s = some r then settleRing s r else s
    nextRing s0 (dropBatch (wf (wf (wf s0 .dmaRingStat [r] 1 0 0) .dmaRingStat [r] 5 2 0) .dmaRingStat [r] 11 9 0) r) r

/-- Source bytes with those that a context still holds from before, which are not read again (R465). -/
def withHeld (held : List (Nat × List Byte)) (l : List Byte) : List Byte :=
  held.foldl (fun l h => l.take h.1 ++ h.2 ++ l.drop (h.1 + h.2.length)) l

/-- The source bytes of a descriptor: each 8 bytes from the one address when fixed. -/
def readSource (s : State) (r tag : Nat) (d : Desc) : Nat × List Byte × State :=
  if d.sfix then
    (List.range (d.len / 8)).foldl (fun (a : Nat × List Byte × State) _ =>
      if a.1 = 0 then
        let (st, b, s1) := fabRead a.2.2 .dma tag d.src 8 (some r) 20
        (st, a.2.1 ++ b, s1)
      else a) (0, [], s)
  else fabRead s .dma tag d.src d.len (some r) 20

/-- Whether a source span holds poison (R463). -/
def sourcePoisoned (s : State) (a n : Nat) : Bool := sramBase ≤ a && decide (poisonIn s (a - sramBase) n ≠ [])

/-- The pieces written from the source bytes: the state, and the first response that is not OK. -/
def writePieces (s : State) (r tag : Nat) (d : Desc) (data : List Byte) (p : List (Nat × Nat × Nat)) : Nat × State :=
  p.foldl (fun a x =>
    if a.1 = 0 then fabWrite a.2 .dma tag (if d.dfix then d.dst else d.dst + x.1) (sliceBytes data x.2.1 x.2.2) (some r) else a) (0, s)

/-- The descriptor at HEAD: its address and fields, or the response that kept it from being fetched. -/
def fetchDesc (s : State) (r : Nat) : Nat × Nat × Desc × State :=
  let a := rf s .dmaRingBase [r] 39 0 + 32 * rf s .dmaRingStat [r] 23 12
  let (st, b, s1) := fabRead s .dma (s.ringOwner r) a 32 (some r) 20
  (st, a, descOf b, s1)

/-- HEAD advances, wrapping at the entry count (R453). -/
def advanceHead (s : State) (r : Nat) : State :=
  wf s .dmaRingStat [r] 23 12 ((rf s .dmaRingStat [r] 23 12 + 1) % (4 * 2 ^ rf s .dmaRingCfg [r] 12 9))

/-- STATUS and DONE_TICK written back with OWN = 0 (R457, R463). -/
def writeBack (s : State) (r tag a code : Nat) : State :=
  let (st, b, s1) := fabRead s .dma tag a 8 (some r) 20
  if st = 0 then
    let s2 := (fabWrite s1 .dma tag a (leBytes 8 (leNum b % 2 ^ 63)) (some r)).2
    (fabWrite s2 .dma tag (a + 24) (leBytes 4 code ++ leBytes 4 (s.now % 2 ^ 32)) (some r)).2
  else s1

/-- A ring halts (R463). -/
def haltRing (s : State) (r code : Nat) : State :=
  let s1 := wf (wf (wf s .dmaRingStat [r] 1 0 3) .dmaRingStat [r] 5 2 0) .dmaRingStat [r] 11 9 code
  raise (dropBatch s1 r) 172 r NA

/-- The hold watchdog has ended a mover's tenure: the ring it served halts with status HOLD (R451, R463). -/
def holdRing (s : State) (q : Nat) : State :=
  match if q = 20 ∨ q = 21 then servedRing s else if q = 22 ∨ q = 23 then splitRing s else none with
  | some r =>
    let (st, a, _, s1) := fetchDesc s r
    haltRing (if st = 0 then writeBack s1 r (s1.ringOwner r) a 6 else s1) r 6
  | none => s

/-- The status of a refused response: 3 FIREWALL, else 4 ADDR. -/
def respStatus (st : Nat) : Nat := if st = 3 then 3 else 4

/-- A chain to another ring (R455): only between rings of one owner. -/
def chainRing (s : State) (r : Nat) (d : Desc) : State :=
  match d.chain with
  | none => s
  | some c =>
    if s.ringOwner c ≠ s.ringOwner r then firewall s (s.ringOwner r)
    else if rbit s .dmaRingCfg [c] 7 then trigRing s c false
    else s

/-- Destination bytes of the descriptor that a batch's limit admits (R458). -/
def batchLimit (s : State) (r : Nat) (d : Desc) : Nat :=
  if rbit s .dmaRingCfg [r] 6 then
    min d.len (rf s .dmaRingCfg [r] 55 32 * 64 - (spGet Batch.none_ s.mem.batch r).moved)
  else d.len

/-- Half of a descriptor's destination bytes are written, and the half completion follows (R461). -/
def descHalf (s : State) (r : Nat) : State :=
  if ringSt s r = 2 ∧ ringServed s r then
    let (st, _, d, s1) := fetchDesc s r
    let half := d.len / 2
    let bt := spGet Batch.none_ s1.mem.batch r
    if st = 0 ∧ d.own ∧ d.ok ∧ ¬ bt.halfDone ∧ half ≤ batchLimit s1 r d then
      let tag := s1.ringOwner r
      let (st1, data, s2) := readSource s1 r tag d
      if st1 = 0 then
        let (st2, s3) := writePieces s2 r tag d (withHeld bt.held data) (takeSpan d.pieces bt.done half)
        if st2 = 0 then
          let x : Batch := { bt with done := max bt.done half, halfDone := true, read := max bt.read (ceilDiv half 64) }
          let s4 := { s3 with mem := { s3.mem with batch := spPut Batch.none_ s3.mem.batch r x } }
          if d.half then ringCompletion s4 r false else s4
        else s3
      else s2
    else s1
  else s

/-- The descriptor at HEAD is performed and written back, or ends the batch (R457 to R463). -/
def descPerform (s : State) (r : Nat) : State :=
    let (st, a, d, s1) := fetchDesc s r
    let bt := spGet Batch.none_ s1.mem.batch r
    let tag := s1.ringOwner r
    if st ≠ 0 then haltRing s1 r (respStatus st)
    else if ¬ d.own then
      let s2 := endBatch s1 r
      if bt.tl then raise s2 173 r NA else s2
    else if ¬ d.ok then haltRing (writeBack s1 r tag a 5) r 5
    else
      let lim := batchLimit s1 r d
      let pois := sourcePoisoned s1 d.src (if d.sfix then 8 else d.len)
      let (st1, data, s2) := readSource s1 r tag d
      if st1 ≠ 0 then haltRing (writeBack s2 r tag a (respStatus st1)) r (respStatus st1)
      else
        let (st2, s3) := writePieces s2 r tag d (withHeld bt.held data) (takeSpan d.pieces bt.done lim)
        if st2 ≠ 0 then haltRing (writeBack s3 r tag a (respStatus st2)) r (respStatus st2)
        else
          let clipped := decide (lim < d.len)
          let s4 := if d.half ∧ ¬ bt.halfDone ∧ d.len ≤ 2 * lim then ringCompletion s3 r false else s3
          let s5 := advanceHead (writeBack s4 r tag a (if clipped then 1 else if pois then 2 else 0)) r
          let s6 := if d.full then ringCompletion s5 r true else s5
          let x : Batch := { Batch.none_ with tl := bt.tl, moved := bt.moved + lim, since := s.clk.elapsed, split := ¬ mainUp s6 }
          let s7 := { s6 with mem := { s6.mem with batch := spPut Batch.none_ s6.mem.batch r x } }
          let s8 := if d.last ∨ clipped then endBatch s7 r else s7
          chainRing s8 r d

/-- The descriptor at HEAD of an ACTIVE ring, when a mover takes it: a ring of a lower level waits, and within a level the rings change at
descriptor boundaries (R457, R464, R465). -/
def descRun (s : State) (r : Nat) : State := if ringSt s r = 2 ∧ ringServed s r then nextRing s (descPerform s r) r else s

end Sys2Proof.Machine
end

