-- ==== Sys2Proof/Machine/AdmOps.lean ====
section
/-! DEFINITION. Commits: the snapshot in force, what acceptance starts, what the boundary does, repeated admission and the removal of
carriers (R53 to R61, R82, R485, R655). -/

namespace Sys2Proof.Machine

/-! ## The snapshot in force (R8, R53, R84) -/

/-- The RWS fields of a register take their staged values. -/
def commitReg (s : State) (a x : Nat) : State :=
  match regDecode a with
  | some (id, ix) =>
    let w := (regFields id).foldl (fun o f => stageField x o f) (rd s id ix)
    -- the base of entries 0 to 127 of the buffer table is fixed (R157)
    wr s id ix (if id = .capDesc ∧ ix.getD 1 0 < 128 then setBits w 39 0 (bufBase (ix.getD 1 0)) else w)
  | none => s

/-- The words of a DOMAIN, `w` bytes each. -/
def domWords (w : Nat) (b : List Byte) : List Nat := (List.range (b.length / w)).map (fun i => beAt b (w * i) w)

/-- TL_PATn and ENTRIES from object 0x2000. -/
def derivePattern (v : State) : State :=
  let l := domWords 4 (v.obytes 0x2000 3)
  let v1 := (List.range 512).foldl (fun v n => wr v .tlPat [n] (l.getD n 0 % 2 ^ 26)) v
  wr v1 .tlPatternCfg [] (v.onum 0x2000 1 % 16 + (l.length - 1) % 512 * 16)

/-- TL_EVTn from object 0x2001; what the object does not hold is not valid. -/
def deriveEvents (v : State) : State :=
  let l := domWords 8 (v.obytes 0x2001 1)
  (List.range 4096).foldl (fun v n => wr v .tlEvt [n] (setBits (l.getD n 0) 31 30 0)) v

/-- LO_TREE from objects 0x3000 and 0x3001 (R655). -/
def deriveTree (v : State) : State :=
  let (t, r) := namedServe v
  wr v .loTree [] (t + 4 * r + 16 * (v.onum 0x3001 1 % 2))

/-- The presets of a synthesiser from object 0x3002 + n (R88). -/
def derivePresets (v : State) (n : Nat) : State :=
  (List.range 16).foldl (fun v k => wr v .loSynPre [n, k] (presetWord (v.onum (0x3002 + n) (k + 1)))) v

/-- The buffer table entry of buffer `b`, in every cluster (R157). -/
def deriveBuffer (v : State) (b : Nat) : State :=
  let i := 0x4100 + b
  let w := (if b < 128 then bufBase b else v.onum i 1 % 2 ^ 40) + v.onum i 2 / 64 % 2 ^ 18 * 2 ^ 40 + v.onum i 3 % 8 * 2 ^ 58 + v.onum i 4 % 2 * 2 ^ 61
  (List.range 8).foldl (fun v c => wr v .capDesc [c, b] w) v

/-- LNK_PPS from object 0x9320 (R422). -/
def derivePps (v : State) : State := wr v .lnkPps [] (v.onum 0x9320 1 % 4 + v.onum 0x9320 2 % 65536 * 4)

/-- The fields of PCc_Lk_CHn_CFG and PCc_Lk_TXCHn_CFG that carrier `n`'s objects give (R84). -/
def chanBase (v : State) (n : Nat) (on : Bool) : Nat :=
  b2n on + n * 2 + (v.ccFftExp n - 8) % 8 * 16 + v.ccMu n * 128 + b2n (v.ccEcp n) * 512

/-- The channel registers of carrier `n` in every lane (R84, R167 to R169, R214). -/
def deriveChannel (v : State) (n : Nat) : State :=
  let i := 0x4400 + n
  lanesAll.foldl (fun v l =>
    let ix := [l.1, l.2, n]
    let v1 := wr v .chCfg ix (chanBase v n (v.ulOn n) + rf v .chCfg ix 10 10 * 2 ^ 10 + v.onum i 2 % 64 * 2 ^ 11 + v.ccHalfbands n % 8 * 2 ^ 17)
    let v2 := wrFields (wrFields v1 .chSh ix (v.onum i 4)) .chTaps ix (v.onum i 5)
    let v3 := wr v2 .chFft ix (v.ccN n % 512 + v.ccWinOfs n % 4096 * 2 ^ 9 + rf v .chFft ix 21 21 * 2 ^ 21)
    let v4 := wr v3 .txchCfg ix (chanBase v n (v.dlOn n) + rf v .txchCfg ix 10 10 * 2 ^ 10 + v.ccHalfbands n % 8 * 2 ^ 17 +
      rf v .txchCfg ix 20 20 * 2 ^ 20 + v.onum (0x2100 + n) 3 % 256 * 2 ^ 21)
    wrFields (wrFields v4 .txchSh ix (v.onum (0x4500 + n) 1)) .txchTaps ix (v.onum (0x4500 + n) 2)) v

/-- The extractor registers of extractor `j` in every lane (R192). -/
def derivePrach (v : State) (j : Nat) : State :=
  let occ := domWords 4 (v.obytes (0x4480 + j) 2)
  let v1 := lanesAll.foldl (fun v l => wrFields v .prch [l.1, l.2, j] (v.onum (0x4480 + j) 1)) v
  (List.range 8).foldl (fun v c => (List.range 16).foldl (fun v m => wr v .prchOcc [c, j, m] (occ.getD m 0 % 2 ^ 23)) v) v1

/-- The combining beams of extractor `j` (R241). -/
def derivePrachBeams (v : State) (j : Nat) : State :=
  (List.range 16).foldl (fun v m => wr v .bfPrb [j, m] (beAt (v.obytes (0x5910 + j) 1) (2 * m) 2 % 4096)) v

/-- The uplink default codes of carrier `n` (R241), four layers to a register. -/
def deriveUlDefaults (v : State) (n : Nat) : State :=
  let l := domWords 2 (v.obytes (0x5010 + n) 1)
  [0, 1, 2, 3].foldl (fun v q => wr v .bfCcUldef [n, q] ([0, 1, 2, 3].foldl (fun w k => w + l.getD (4 * q + k) 0 * 2 ^ (16 * k)) 0)) v

/-- The limiter settings in every lane (R220). -/
def deriveCfr (v : State) : State := lanesAll.foldl (fun v l => wrFields v .cfrCtrl [l.1, l.2] (v.onum 0x4800 1)) v

/-- The gain control of path `p` in its register (R178): bits 63:5 from object 0x21, BASE_ATT from object 0x20. -/
def deriveGain (v : State) (p : Nat) : State := wrFields v .rxgCtrl [p / 8, p % 8] (setBits (v.pobj p 0x21) 4 0 (v.pobj p 0x20))

/-- The ring grant masks (R431; DEDUCED: a ring counts for the tenant that owns it). -/
def grantMasks (v : State) : State :=
  (List.range 128).foldl (fun v r =>
    let o := rf v .dmaRingCfg [r] 3 1
    wr v .dmaRingGrant [r] (if o < 4 then 2 ^ o else 0)) v

/-- The registers the device writes from the objects of a commit (R84). -/
def derive (v : State) (staged : List Nat) : State :=
  let on (l : List Nat) (f : State → State) (v : State) : State := if l.any (· ∈ staged) then f v else v
  let each (n : Nat) (l : Nat → List Nat) (f : State → Nat → State) (v : State) : State :=
    (List.range n).foldl (fun v i => on (l i) (fun v => f v i) v) v
  let v1 := on [0x9320] derivePps (on [0x2001] deriveEvents (on [0x2000] derivePattern v))
  let v2 := each 256 (fun b => [0x4100 + b]) deriveBuffer (each 4 (fun n => [0x3002 + n]) derivePresets v1)
  let v3 := each 8 (fun n => [0x2010 + n, 0x4400 + n, 0x2100 + n, 0x4500 + n]) deriveChannel v2
  let v4 := each 4 (fun j => [0x5910 + j]) derivePrachBeams (each 4 (fun j => [0x4480 + j]) derivePrach v3)
  let v5 := each 64 (fun p => [pindex p 0x21]) deriveGain (on [0x4800] deriveCfr (each 8 (fun n => [0x5010 + n]) deriveUlDefaults v4))
  deriveTree v5

/-- The objects a snapshot stages. -/
def stagedIndices (objs : Sparse ObjVal) : List Nat := objs.map (fun k => k.1 / 256)

/-- The device with a snapshot in force. -/
def overlay (s : State) (objs : Sparse ObjVal) (regs : Sparse RegVal) : State :=
  let v1 := regs.foldl (fun v x => commitReg v x.1 x.2.toNat) s
  derive (objs.foldl (fun v x => v.setObj (x.1 / 256) (x.1 % 256) x.2) v1) (stagedIndices objs)

/-! ## What a snapshot changes -/

/-- A kernel image differs: the commit changes the kernel set (R335). -/
def changesKernels (s v : State) : Bool :=
  (((List.range 16).map (0xD140 + ·)) ++ [0x5904]).any (fun i => s.obytes i 1 ≠ v.obytes i 1)

/-- A channel is enabled: receive channel n of carrier n, transmit channel 8 + n. -/
def channelOn (s : State) (ch : Nat) : Bool := if ch < 8 then s.ulOn ch else s.dlOn (ch - 8)

/-- The channels whose coefficients differ (R200): receive channel n, transmit channel 8 + n. -/
def changedChannels (s v : State) : List Nat :=
  (List.range 16).filter (fun ch => if ch < 8 then s.obytes (0x4400 + ch) 6 ≠ v.obytes (0x4400 + ch) 6
    else s.obytes (0x4500 + (ch - 8)) 3 ≠ v.obytes (0x4500 + (ch - 8)) 3)

/-- Channels rolled before the boundary: disabled before it (R201). -/
def rollsBefore (s v : State) : List Nat := (changedChannels s v).filter (fun ch => ¬ channelOn s ch)
/-- Channels rolled after the boundary. -/
def rollsAfter (s v : State) : List Nat := (changedChannels s v).filter (channelOn s)

/-- The lead of R58, R201 and R335. -/
def commitLead (s v : State) : Nat :=
  if changesKernels s v then 147456000 else if rollsBefore s v ≠ [] then 4423680 else 49152

/-- The fineness of a boundary: 0 symbol, 1 slot, 2 frame; none where a tick lies on no symbol boundary (R60). -/
def boundaryKind (s : State) (boundary tick : Nat) : Option Nat :=
  if boundary < 3 then some boundary
  else if isFrame s.frameOfs tick then some 2
  else if isSlot s.frameOfs s.refMu s.refEcp tick then some 1
  else if isSymbol s.frameOfs s.refMu s.refEcp tick then some 0
  else none

/-- The fineness a commit class asks for. -/
def classNeed : CClass → Nat
  | .f => 2
  | .l => 1
  | _ => 0

/-- The predistortion structure of a path (R289). -/
def dpdShape (s : State) (p : Nat) : List Nat :=
  let ix := [p / 8, p % 8]
  [rf s .dpdCtrl ix 2 0, rd s .dpdTaps ix, rd s .dpdNb ix]

/-- The lowest object whose class is coarser than a boundary (R60), or whose value, staged in a register, changes the structure of predistortion off a
frame boundary (R289). -/
def classFails (s v : State) (objs : Sparse ObjVal) (kind : Nat) : Option Nat :=
  let path (i : Nat) : Bool := decide (0x6100 ≤ i ∧ i < 0x6140)
  match objs.findSome? (fun k => match objRow (k.1 / 256) (k.1 % 256) with
    | some r =>
      -- of a path's CTRL, RAMP and PROB are class S (R289)
      let soft := path (k.1 / 256) && decide (k.1 % 256 = 1) && decide (dpdShape s (k.1 / 256 - 0x6100) = dpdShape v (k.1 / 256 - 0x6100))
      if kind < classNeed r.cls ∧ ¬ soft then some (k.1 / 256) else none
    | none => none) with
  | some i => some i
  | none => if kind < 2 then ((List.range 64).find? (fun p => dpdShape s p ≠ dpdShape v p)).map (· + 0x6100) else none

/-- The first boundary a commit can take at or after a tick (R58). -/
def boundaryAt (s : State) (boundary tick t : Nat) : Nat :=
  match boundary with
  | 0 => nextSymbol s.frameOfs s.refMu s.refEcp t
  | 1 => nextSlot s.frameOfs s.refMu s.refEcp t
  | 2 => nextFrame s.frameOfs t
  | _ => tick

/-! ## Results (R485, R654) -/

/-- A result recorded in object 0x2F00. -/
def recordResult (s : State) (role : Role) (r : AdmResult) : State :=
  let s1 := { s with adm := { s.adm with last := r } }
  match role with
  | .tenant n => { s1 with adm := { s1.adm with perTenant := spPut AdmResult.zero s1.adm.perTenant n r } }
  | _ => s1

/-- The payload of a COMMIT response (R485). -/
def commitPayload (r : AdmResult) (tick : Nat) : List Byte :=
  beBytes 1 r.code ++ [0] ++ beBytes 2 r.inst ++ [0, 0, 0, 0] ++ beBytes 8 r.demand ++ beBytes 8 r.capacity ++ beBytes 8 r.shortfall ++
    beBytes 8 r.epoch ++ beBytes 8 tick

/-- The instance of the commit events: the committing tenant's port (R495). -/
def commitInst : Role → Nat
  | .tenant n => n
  | _ => NA

/-- A refusal decided outside the resource checks. -/
def refusal (s : State) (code inst demand cap : Nat) : AdmResult := ⟨code, inst, demand, cap, demand - cap, 2 ^ code, s.adm.epoch⟩

/-- A commit refused: recorded and reported; the staged copies stay (R57). -/
def refuseCommit (s : State) (role : Role) (r : AdmResult) : State := raise (recordResult s role r) 1 (commitInst role) NA

/-- The staged copies a role's COMMIT and ABORT cover (R472). -/
def scopeObjs (s : State) (role : Role) : Sparse ObjVal := s.objsStaged.filter (fun k => inScope s role (k.1 / 256) (k.1 % 256))
/-- The staged registers they cover: none for a tenant. -/
def scopeRegs (s : State) : Role → Sparse RegVal
  | .tenant _ => []
  | _ => s.regsStaged

/-- A COMMIT reaches the control complex (R53, R55, R59, R60, R203, R485): the answer at once, or none while admission runs. -/
def commitStart (s : State) (j : CommitJob) : Option (AdmResult × Nat) × State :=
  let objs := scopeObjs s j.role
  let regs := scopeRegs s j.role
  let no (r : AdmResult) : Option (AdmResult × Nat) × State := (some (r, 0), refuseCommit s j.role r)
  let tenant : Bool := match j.role with
    | .tenant _ => true
    | _ => false
  if tenant && objs = [] then
    let r : AdmResult := ⟨0, 0, 0, 0, 0, 0, s.adm.epoch⟩
    (some (r, s.now), recordResult s j.role r)
  else if s.adm.running.isSome then no (refusal s 0x12 0 0 0)
  else if s.adm.waiting.isSome then no (refusal s 0x13 0 0 0)
  else
    let v := overlay s objs regs
    let lead := commitLead s v
    let start : Option (AdmResult × Nat) × State :=
      (none, { s with adm := { s.adm with touched := [], running := some { j with receipt := s.now, objs := objs, regs := regs, at_ := 0 } } })
    if (s.rx.rolling || s.rx.rollPost ≠ []) && changedChannels s v ≠ [] then no (refusal s 0x13 0 0 0)
    else if j.boundary = 3 ∧ j.tick < s.now + lead then no (refusal s 0x10 0 (s.now + lead) j.tick)
    else match boundaryKind s j.boundary j.tick with
      | none => no (refusal s 0x11 0 0 0)
      | some k => (match classFails s v objs k with
        | some i => no (refusal s 0x11 i 0 0)
        | none => start)

/-! ## The end of admission (R59, R62, R655, R201, R335, R38) -/

/-- A staged LO_TREE that is refused: its sources outside the pair of BAND, or against R89 (chapter 3, Registers). -/
def treeFails (v : State) (regs : Sparse RegVal) : List Nat :=
  match regs.find? (fun x => x.1 = regAddr .loTree []) with
  | some x =>
    let w := x.2.toNat
    let t := bitsOf w 1 0
    let r := bitsOf w 3 2
    let b := bitsOf w 4 4
    fails (t / 2 ≠ b || r / 2 ≠ b) [0xFFFF] ++ fails (if v.fdd then t % 2 ≠ 0 || r % 2 ≠ 1 else t ≠ r) [0x2000]
  | none => []

/-- The object whose value a staged register holds (R65, R84). -/
def regObject (id : RegId) (ix : List Nat) : Option Nat :=
  let last := ix.getD (ix.length - 1) 0
  match id with
  | .tlPat | .tlPatternCfg | .tlFrameOfs => some 0x2000
  | .tlEvt => some 0x2001
  | .loSynPre => some (0x3002 + ix.getD 0 0)
  | .capDesc => some (0x4100 + last)
  | .chCfg | .chSh | .chTaps | .chFft => some (0x4400 + last)
  | .txchCfg | .txchSh | .txchTaps => some (0x4500 + last)
  | .prch => some (0x4480 + last)
  | .prchOcc => some (0x4480 + ix.getD 1 0)
  | .cfrCtrl => some 0x4800
  | .bfCcCfg | .bfCcCbbase | .bfCcDla | .bfCcDlb | .bfCcUla | .bfCcUlb => some (0x5000 + ix.getD 0 0)
  | .bfCcUldef => some (0x5010 + ix.getD 0 0)
  | .bfPrb => some (0x5910 + ix.getD 0 0)
  | .dpdCtrl | .dpdTaps | .dpdNb | .dpdLim => some (0x6100 + 8 * ix.getD 0 0 + ix.getD 1 0)
  | .obsCtrl => some (pindex (8 * ix.getD 0 0 + ix.getD 1 0) 0x1B)
  | .rxgCtrl => some (pindex (8 * ix.getD 0 0 + ix.getD 1 0) 0x21)
  | .txa => some (pindex (8 * ix.getD 0 0 + ix.getD 1 0) 0x2C)
  | .lnkPortCfg | .lnkPortDa | .lnkPortMsec => some (0x9000 + ix.getD 0 0)
  | .lnkCcWin => some (0x9020 + ix.getD 0 0)
  | .lnkCcUl | .lnkCcDl => some (0x9030 + ix.getD 0 0)
  | .lnkPtpCfg | .lnkPtpLat => some 0x9300
  | .lnkSynceCfg => some 0x9310
  | .lnkPps => some 0x9320
  | .memPart => some (0xA020 + ix.getD 0 0)
  | .dmaRingCfg | .dmaRingBase => some (0xA100 + ix.getD 0 0)
  | .bdacChCfg => some (0xB200 + ix.getD 0 0)
  | _ => none

/-- The objects whose only staged source is a register written directly: a condition that rests on them alone names 0xFFFF (R65). -/
def directObjects (objs : Sparse ObjVal) (regs : Sparse RegVal) : List Nat :=
  (regs.filterMap (fun x => (regDecode x.1).bind (fun r => regObject r.1 r.2))).filter (fun i => objs.all (fun o => o.1 / 256 ≠ i))

/-- The result of admission on a job's snapshot. -/
def jobResult (s : State) (j : CommitJob) : AdmResult :=
  let v := overlay s j.objs j.regs
  let t := s.now + commitLead s v
  admitResult s v (stagedIndices j.objs) (treeFails v j.regs) (directObjects j.objs j.regs) (boundaryAt s j.boundary j.tick t)

/-- Entries of a staged copy that a snapshot took, unless they have been written since. -/
def unstage {α : Type} (m snap : Sparse α) (since : List Nat) : Sparse α :=
  m.filter (fun x => x.1 ∈ since || ¬ snap.any (fun y => y.1 = x.1))

/-- Synthesisers named by objects 0x3000 and 0x3001 are tuned to their start presets, and serve from the boundary (R655, R100). -/
def reserveTrunks (s v : State) : State :=
  if reserves s v then
    let (t, r) := namedServe v
    let (pt, pr) := namedPresets v
    let s1 := commitTune s t pt (v.presetOf t pt)
    let s2 := if r = t then s1 else commitTune s1 r pr (v.presetOf r pr)
    { s2 with lo := { s2.lo with started := true, serveAt := some ⟨t, r, pt, pr, decide (s.onum 0x3001 1 ≠ v.onum 0x3001 1)⟩ } }
  else s

/-- What the limiter's pulse is made from differs (R225). -/
def pulseDiffers (s v : State) : Bool :=
  lanesAll.any (fun l => rd s .cfrCtrl [l.1, l.2] ≠ rd v .cfrCtrl [l.1, l.2]) ||
  (List.range 8).any (fun n => s.dlOn n ≠ v.dlOn n || (v.dlOn n &&
    (s.onum (0x2100 + n) 1 ≠ v.onum (0x2100 + n) 1 || [3, 4, 5, 6].any (fun k => s.onum (0x2010 + n) k ≠ v.onum (0x2010 + n) k))))

/-- The pulses of a snapshot in the shadow bank (R225). -/
def fillPulses (v : State) (s : State) : State :=
  let l := (List.range 64).map (cfrBankOf v)
  { s with tx := { s.tx with bank0 := if s.tx.bank = 0 then s.tx.bank0 else l, bank1 := if s.tx.bank = 0 then l else s.tx.bank1 } }

/-- Admission synthesises the snapshot's pulses into the shadow bank, which takes over at the boundary `b` (R225). -/
def shadowPulses (s v : State) (b : Nat) : State :=
  if pulseDiffers s v then { fillPulses v s with tx := { (fillPulses v s).tx with swapAt := some b } } else s

/-- From the boundary on the other bank is in use, with the pulses of the new configuration (R225). -/
def swapPulses (s v : State) (t : State) : State :=
  if pulseDiffers s v then { fillPulses v t with tx := { (fillPulses v t).tx with bank := 1 - t.tx.bank, swapAt := none } } else t

/-- An accepted commit: what starts before its boundary. -/
def acceptCommit (s : State) (j : CommitJob) (b : Nat) : State :=
  let v := overlay s j.objs j.regs
  let s1 := { s with adm := { s.adm with running := none, waiting := some { j with at_ := b } },
                     objsStaged := unstage s.objsStaged j.objs s.adm.touched, regsStaged := unstage s.regsStaged j.regs s.adm.touched }
  let s2 := shadowPulses (reserveTrunks s1 v) v b
  let pre := rollsBefore s v
  let s3 := if pre = [] then s2 else { s2 with rx := { s2.rx with rollPre := pre, rolling := true } }
  let s4 := if changesKernels s v then startRoll s3 ((List.range 16).map (fun sl => (sl, v.kernelImage [] sl))) else s3
  match j.role with
  | .tenant _ => s4
  | _ => armStep s4 b

/-- Admission ends: the result, the boundary tick (0 on refusal), and the device after it. -/
def admissionEnd (s : State) (j : CommitJob) : AdmResult × Nat × State :=
  let idle := { s with adm := { s.adm with running := none } }
  let r := jobResult s j
  let lead := commitLead s (overlay s j.objs j.regs)
  let bad := (stagedIndices j.objs).filter (fun i => i = 0x5904 || (0xD140 ≤ i && i < 0xD150)) |>.filter (fun i =>
    kernelBad s ((overlay s j.objs j.regs).obytes i 1))
  let no (r : AdmResult) : AdmResult × Nat × State :=
    (r, 0, bad.foldl (fun s i => raise s 100 NA i) (refuseCommit idle j.role r))
  if r.code ≠ 0 then no { r with epoch := s.adm.epoch }
  else if j.boundary = 3 ∧ j.tick < s.now + lead then no (refusal s 0x10 0 (s.now + lead) j.tick)
  else
    let b := boundaryAt s j.boundary j.tick (s.now + lead)
    let r1 := { r with epoch := s.adm.epoch + 1 }
    (r1, b, acceptCommit (recordResult s j.role r1) j b)

/-! ## The boundary (R61) -/

/-- The trunks change hands (R92, R93, R100, R655). -/
def serveFromBoundary (s : State) : State :=
  match s.lo.serveAt with
  | none => s
  | some x =>
    let s0 := { s with lo := { s.lo with serveAt := none } }
    let ready (n k : Nat) : Bool := decide ((s0.syn n).st = .locked) && decide ((s0.syn n).preset = k)
    if x.tx = s0.lo.txServe ∧ x.rx = s0.lo.rxServe then s0
    else if ¬ x.band ∧ ((x.tx ≠ s0.lo.txServe ∧ ¬ ready x.tx x.txPreset) ∨ (x.rx ≠ s0.lo.rxServe ∧ ¬ ready x.rx x.rxPreset)) then raise s0 10 NA NA
    else
      let s0 := s0.lo.divFail.foldl (fun s p => markOff s (markKey 3 p)) s0
      let s1 := { s0 with lo := { s0.lo with txServe := x.tx, rxServe := x.rx, hop := some ⟨s0.clk.elapsed, x.tx, 1⟩, divFail := [],
                                             quietUntil := s0.clk.elapsed + 1967 } }
      rxDrop (txDrop s1)

/-- A register of a channel or PRACH extractor of cluster `c` (R199). -/
def chanReg (c a : Nat) : Bool :=
  let o := a - (0x1000000000 + c * 0x1000000)
  let k := (o - 0x800000) % 0x10000
  decide (0x1000000000 + c * 0x1000000 ≤ a ∧ o < 0x1000000) &&
    (decide (0x800000 ≤ o ∧ o < 0x890000) && decide (0x100 ≤ k ∧ k < 0x200 ∨ 0x400 ≤ k ∧ k < 0x440 ∨ 0x4100 ≤ k ∧ k < 0x4200) ||
     decide (0x920000 ≤ o ∧ o < 0x920100))

/-- The channel configuration of cluster `c` differs, by its registers or by the objects they come from: warm-up restarts (R199). -/
def channelsDiffer (s v : State) (c : Nat) : Bool :=
  decide (s.regs.filter (fun e => chanReg c e.1) ≠ v.regs.filter (fun e => chanReg c e.1)) ||
  (List.range 8).any (fun n =>
    [(0x2010, 1), (0x2010, 3), (0x2010, 4), (0x2010, 5), (0x2010, 6), (0x4400, 1), (0x4400, 2), (0x4400, 3), (0x4400, 4), (0x4400, 5),
     (0x4500, 1), (0x4500, 2)].any (fun k => s.obj (k.1 + n) k.2 ≠ v.obj (k.1 + n) k.2)) ||
  (List.range 4).any (fun j => s.prachCfg j ≠ v.prachCfg j || s.obytes (0x4480 + j) 2 ≠ v.obytes (0x4480 + j) 2)

/-- Predistortion at a boundary (R283, R289, R290). -/
def dpdBoundary (s v : State) (t : State) (p : Nat) : State :=
  let x := t.dpd p
  if dpdShape s p ≠ dpdShape v p then
    staleAndPending (t.setDpd p { Dpd.reset with t0 := x.t0, t1 := x.t1, theta := x.theta, tmod := x.tmod, stale := x.stale }) p 1
  else if (cfrLevels s p).2 ≠ (cfrLevelsOf (cfrBankOf v p) (v.pFs p)).2 ∧ ¬ x.ident ∧
      scaleOff (x.scale x.bank) (cfrLevelsOf (cfrBankOf v p) (v.pFs p)).2 then staleAndPending t p 2
  else t

/-- A bias channel at a boundary (R538): UNUSED is high impedance; a channel that leaves UNUSED takes its SAFE code. -/
def biasBoundary (s v : State) (t : State) (c : Nat) : State :=
  if s.biasRole c = v.biasRole c then t
  else if v.biasRole c = 0 then t.setBias c { t.bias c with hiZ := true }
  else if s.biasRole c = 0 then safeCode t c
  else t

/-- A ring at a boundary (R452, R454): the owner changes only while the ring is OFF; its descriptors are written at BASE. -/
def ringBoundary (s v : State) (staged : List (Nat × Nat)) (t : State) (r : Nat) : State :=
  let was := rf s .dmaRingCfg [r] 3 1
  let t1 := if was ≠ rf v .dmaRingCfg [r] 3 1 ∧ ringSt s r ≠ 0 then wf t .dmaRingCfg [r] 3 1 was else t
  let en := rbit v .dmaRingCfg [r] 0
  let t2 := if en = rbit s .dmaRingCfg [r] 0 then t1 else ringEnable t1 r en
  if (0xA100 + r, 2) ∈ staged then sramPoke t2 (rf v .dmaRingBase [r] 39 0) (v.obytes (0xA100 + r) 2) else t2

/-- A port at a boundary (R384, R414): with the lanes it had it keeps its alignment, otherwise it aligns again. -/
def portBoundary (s v : State) (t : State) (n : Nat) : State :=
  if rd s .lnkPortCfg [n] = rd v .lnkPortCfg [n] ∧ rd s .lnkPortMsec [n] = rd v .lnkPortMsec [n] then t
  else
    let same := decide (portLanes s n = portLanes v n)
    portState t n (rbit t .lnkPortStat [n] 1 && same) (rbit t .lnkPortStat [n] 2)

/-- SyncE at a boundary (R420): disabled it is off; enabled, it starts LOCKED when no condition of R420 holds. -/
def synceBoundary (s v : State) (t : State) : State :=
  let en := rbit v .lnkSynceCfg [] 0
  if en = rbit s .lnkSynceCfg [] 0 then t
  else if ¬ en then wf t .lnkSynceStat [] 1 0 0
  else if t.portUp (rf t .lnkSynceCfg [] 3 2) ∧ ¬ qlBad t then wf t .lnkSynceStat [] 1 0 1
  else { wf t .lnkSynceStat [] 1 0 2 with lnk := { t.lnk with squelchAt := t.clk.elapsed } }

/-- Receive attenuation at a boundary (R178): in MGC and attack-only mode a new BASE_ATT, or a new mode, sets the attenuator. -/
def gainBoundary (s v : State) (t : State) (p : Nat) : State :=
  let m := bitsOf (v.rxgCtrl p) 6 5
  let base := bitsOf (v.rxgCtrl p) 4 0
  let newBase := decide (bitsOf (s.rxgCtrl p) 4 0 ≠ base)
  if (newBase || decide (bitsOf (s.rxgCtrl p) 6 5 ≠ m)) && (m = 0 || (m = 1 && newBase)) && t.rxAtt p ≠ base then setAtt t p base else t

/-- The engines take the release entries that admission placed (R73, R327). -/
def placeReleases (t : State) : State :=
  let m := (placeKernels t t).1
  (List.range 18).foldl (fun t e =>
    let l := spGet [] m e
    if (t.eng e).rels = releasesOf l ∧ (t.eng e).placed = kernLoad l then t
    else t.setEng e { t.eng e with rels := releasesOf l, placed := kernLoad l }) t

/-- The anti-rollback minimum of each kernel that takes effect (R334). -/
def raiseKernelMins (s v : State) (t : State) : State :=
  (List.range 16).foldl (fun t sl =>
    let b := v.kernelImage [] sl
    if b = s.kernelImage [] sl ∨ b = [] then t
    else
      let k := kernelOf b 0 0
      { t with ge := { t.ge with minVer := spMod 0 t.ge.minVer k.id (fun m => max m k.version) } }) t

/-- The new configuration in force: every effect of a boundary that follows from what has changed.  `s` is the device before it. -/
def takeEffect (s v : State) (staged : List (Nat × Nat)) : State :=
  let t1 := (List.range 64).foldl (fun t p => gainBoundary s v (dpdBoundary s v t p) p) (serveFromBoundary v)
  let t2 := (List.range 128).foldl (fun t r => ringBoundary s v staged (biasBoundary s v t r) r) t1
  let t3 := if (List.range 4).all (fun n => rd s .lnkPortCfg [n] = rd v .lnkPortCfg [n] ∧ rd s .lnkPortMsec [n] = rd v .lnkPortMsec [n]) then t2
    else refreshLanes ((List.range 4).foldl (portBoundary s v) t2)
  let t4 := synceBoundary s v t3
  let t5 := (List.range 8).foldl (fun t c =>
    if channelsDiffer s v c then restartWarm (t.setLanes c { t.lanes c with chanAt := t.clk.elapsed + 1 }) c else t) t4
  let t6 := swapPulses s v { t5 with bm := { t5.bm with assign := assignTiles t5 } }
  let t7 := (List.range 8).foldl (fun t c => [0, 1].foldl (fun t d =>
    if dirOn v c d && ¬ dirOn s c d then t.setWset c d { t.wset c d with cur := 0 } else t) t) t6
  let t8 := placeReleases (raiseKernelMins s v t7)
  let after := rollsAfter s v
  let t9 := if after = [] then t8 else { t8 with rx := { t8.rx with rollPost := after, rolling := true } }
  let t10 := if s.frameOfs = v.frameOfs then t9 else requestSync t9 t9.now
  -- in TDD the observation receivers are powered down (R150)
  let t11 := if s.fdd ∧ ¬ v.fdd then (List.range 4).foldl (fun t r =>
    let u := abortVisit t r
    u.setOrx r { u.orx r with waiting := none }) t10 else t10
  recomputeDigests (clockAll ((List.range 64).foldl enterPathState t11))

/-- The accepted commit takes effect at its boundary tick (R61). -/
def commitBoundary (s : State) (j : CommitJob) : State :=
  let s1 := reachCount s j.at_
  let v := grantMasks (overlay s1 j.objs j.regs)
  let t := takeEffect s1 v (j.objs.map (fun k => (k.1 / 256, k.1 % 256)))
  raise { t with adm := { t.adm with waiting := none, epoch := (t.adm.epoch + 1) % 2 ^ 64 } } 0 (commitInst j.role) NA

/-- Staged copies of a scope discarded (R57). -/
def abortStaged (s : State) (role : Role) : State :=
  { s with objsStaged := unstage s.objsStaged (scopeObjs s role) [], regsStaged := unstage s.regsStaged (scopeRegs s role) [] }

/-! ## Loss of capacity (R82, R563) -/

/-- Admission repeats on the committed configuration; when it fails the event carries the reason (R82): the code stands in its instance, aux
0xFFFF (DESIGN CHOICE, assumption 104: R82 does not say which field carries it). -/
def repeatAdmission (s : State) : State :=
  let s1 := { s with adm := { s.adm with again := false } }
  let r := admitResult s1 s1 []
  if r.code = 0 then s1 else raise { s1 with adm := { s1.adm with dropDue := true } } 5 r.code NA

/-- The enabled carrier of the highest drop rank, the higher number among equals. -/
def dropCandidate (s : State) : Option Nat :=
  s.cfgCarriers.foldl (fun (b : Option Nat) c => match b with
    | none => some c
    | some d => if s.onum 0x2020 (d + 1) ≤ s.onum 0x2020 (c + 1) then some c else some d) none

/-- A carrier removed: neither direction is enabled, in its object and in the channel registers of every lane (R82, R84). -/
def disableCarrier (s : State) (c : Nat) : State := deriveChannel (s.setObj (0x2010 + c) 1 (.num 0)) c

/-- Carriers removed until admission passes, at most 8. -/
def dropCarriers : Nat → State → State
  | 0, s => s
  | n + 1, s =>
    if (admitResult s s []).code = 0 then s
    else match dropCandidate s with
      | some c => dropCarriers n (disableCarrier s c)
      | none => s

/-- A configuration from which carriers were removed takes effect, and the epoch counts one. -/
def removalDone (s v : State) : State :=
  let t := takeEffect s v []
  { t with adm := { t.adm with epoch := (t.adm.epoch + 1) % 2 ^ 64 } }

end Sys2Proof.Machine
end

