-- ==== Sys2Proof/Machine/ObjWrite.lean ====
section
/-! DEFINITION. A configuration object that is no staged copy takes a value, with what follows from it (R471). -/

namespace Sys2Proof.Machine

/-- 0.01 °C as 1/64 °C. -/
def toSixtyFourths (n : Nat) : Nat := ofSigned 16 (toSigned 16 n * 64 / 100)

/-- A committed value set, and its effect (R471, R525, R531, R539, R559, R562, R566). -/
def objApply (s : State) (index sub : Nat) (v : ObjVal) : State :=
  let n := v.toNat
  let s1 := s.setObj index sub v
  if 0xB200 ≤ index ∧ index < 0xB280 then
    match sub with
    | 4 => wf s1 .bdacChCfg [index - 0xB200] 31 16 n
    | 5 => wf s1 .bdacChCfg [index - 0xB200] 47 32 n
    | _ => s1
  else if 0xB700 ≤ index ∧ index < 0xB704 then
    if sub = 2 then dutyWritten s1 (index - 0xB700) else fanUpdate s1 (index - 0xB700)
  else match index, sub with
    | 0xB000, 1 => wf s1 .thmCtrl [] 15 0 (toSixtyFourths n)
    | 0xB000, 3 => wf s1 .thmCtrl [] 47 32 (toSixtyFourths n)
    | 0xB104, 1 => wbit s1 .aonAlarm [] 48 (decide (n ≠ 0))
    | 0xB110, _ => wrxCheck s1
    | _, _ => s1

/-- A configuration object takes a value of an image: staged where a role may only stage it, else in force (R486). -/
def loadOne (s : State) (index sub : Nat) (v : ObjVal) : State :=
  match objRow index sub with
  | some r =>
    if r.accO = .rws ∨ r.accS = .rws then
      ({ s with objsStaged := spInsert (okey index sub) v (spErase s.objsStaged (okey index sub)) }).touch (okey index sub)
    else if r.accO = .rw ∨ r.accS = .rw then objApply s index sub v
    else s
  | none => s

/-- Every configuration object takes a value of an image, or its default (R486). -/
def loadConfig (s : State) (img : Sparse ObjVal) : State :=
  configKeys.foldl (fun s k => loadOne s k.1 k.2 (spGet (dfltObj s k.1 k.2) img (okey k.1 k.2))) s

end Sys2Proof.Machine
end

