-- ==== Sys2Proof/Machine/BootOps.lean ====
section
/-! DEFINITION. Reset, cold start, warm start and the steps of the boot (chapter 18, R520, R583). -/

namespace Sys2Proof.Machine

/-- PWR_BOOT.PHASE. -/
def State.bootPhase (s : State) : Nat := rf s .pwrBoot [] 3 0
/-- PWR_BOOT.PHASE set. -/
def setPhase (s : State) (p : Nat) : State := wf s .pwrBoot [] 3 0 p
/-- PWR_BOOT.CODE set. -/
def setCode (s : State) (c : Nat) : State := wf s .pwrBoot [] 7 4 c

/-! ## Reset (R508, R629) -/

/-- Registers that show fuses, keys and roots. -/
def secureRegs (s : State) : State :=
  let s1 := wr s .secLc [] (s.nv.lc + s.nv.reentry * 8)
  let s2 := wf s1 .dbgStat [] 8 6 s.nv.lc
  keyStat (wr s2 .secRootstat [] ((s.root 1).st + (s.root 2).st * 4))

/-- Every island's state is discarded: what is left is time, the NV store, and what the device has sent. -/
def discard (s : State) : State :=
  secureRegs { State.reset with
               pending := s.pending, clk := ⟨s.clk.elapsed, 0, []⟩, freeCtr := s.freeCtr, out := s.out, nv := s.nv,
               pwr := { Pwr.reset with depth := 1 }, lo := { Lo.reset with refLoss := s.lo.refLoss },
               svc := { Svc.reset with hourAt := s.clk.elapsed } }

/-- The lifecycle state of which the device has last reported its change. -/
def oldLifecycle (s : State) : Option Nat := if s.lc ≠ s.nv.lc then some s.lc else s.boot.oldLc

/-- PWRGOOD or NRESET is low: whatever runs has ended, drains are low and DAC inputs zero. -/
def holdReset (s : State) (pwrgood nreset : Bool) : State :=
  let t := discard s
  { t with boot := { Boot.reset with pwrgood := pwrgood, nreset := nreset, refclk := s.boot.refclk, oldLc := oldLifecycle s } }

/-- A cold start (R629): step 1 begins.  SEC_LC_CHANGED follows a transition (R572). -/
def coldStart (s : State) : State :=
  let t := discard s
  let t1 := { t with boot := { Boot.reset with pwrgood := true, nreset := true, startAt := s.clk.elapsed, refclk := s.boot.refclk } }
  let t2 := setPhase (wr t1 .wrxLastcnt [] s.nv.wrxCount) 1
  match oldLifecycle s with
  | some o => raise t2 232 s.nv.lc o
  | none => t2

/-! ## Warm start (R520) -/

/-- The registers of the always-on island, which keep their values, and the record of a suspended debug session (R595). -/
def oasisRegs (s : State) : Sparse RegVal := s.regs.filter (fun x => 0x1900000000 ≤ x.1 ∧ x.1 ≤ 0x1900FFFFFF)

/-- A path OFF at the safe levels of the NV store (R111). -/
def safePins (w : Nat) : PathFe :=
  { PathFe.reset with phase := .off, fea := safeDrive (bitsOf w 1 0), feb := safeDrive (bitsOf w 3 2), safeNv := w }

/-- A warm start: steps 2 to 6 of the boot, to wake-to state `t`.  The state of every other island was lost in LISTEN. -/
def warmStart (s : State) (t : Nat) : State :=
  let d := discard s
  let d1 := { d with
              fe := (List.range 64).foldl (fun m p => spPut PathFe.reset m p (safePins (spGet 0 s.nv.safe p))) [],
              regs := oasisRegs s, straps := s.straps, clk := ⟨s.clk.elapsed, s.clk.count, []⟩, pwr := { s.pwr with exit := some t },
              adm := { d.adm with epoch := s.adm.epoch },
              boot := { s.boot with startAt := s.clk.elapsed, warmTo := some t, loader := false, go := false, done2 := false, images := [] } }
  let d2 := secureRegs d1
  let d3 := wf d2 .dbgStat [] 5 3 (rf s .dbgStat [] 5 3)
  setCode (wbit (setPhase d3 2) .pwrBoot [] 8 true) 0

/-! ## Step 2 (R139, R367, R436, R537, R548, R627, R632) -/

/-- The members that serve the eight positions, with the spare: the spare stands in for the first retired one. -/
def mapOf (retired : List Nat) : List Nat × Option Nat :=
  if 8 ∈ retired then (List.range 8, none)
  else match retired with
    | [] => (List.range 8, some 8)
    | r :: _ => ((List.range 8).map (fun j => if j = r then 8 else j), none)

/-- A converter as it starts from its stored map and corrections: these as the base note interpolates them, its step from the beginning (R129,
R139). -/
def storedConv (k : Nat) (c : Conv) : Conv :=
  { c with left := if c.spare.isSome then (Conv.reset k).left else blindTicks k, runs := none, shadow := 0, missed := false, swapDue := false,
           stuck := none, stuckFrom := 0,
           corr := c.corr.map (fun e =>
             let v := Config.sliceAtStart k e.1 (e.2.offset, e.2.gain, e.2.delay, e.2.bw)
             (e.1, SliceCorr.clamp ⟨v.1, v.2.1, v.2.2.1, v.2.2.2⟩)) }

/-- The last good predistortion set of a path reloaded: into bank 1, in GOOD, stale until its first probation passes (section Registers of
chapter 8; the cause that shows is 4, DESIGN CHOICE, assumption 114). -/
def reloadSet (s : State) (p : Nat) (w : Sparse Nat) : State :=
  if w = [] then s
  else
    let d := w.foldl (fun (d : Dpd) e => d.setWord 1 e.1 e.2) (s.dpd p)
    setStale (s.setDpd p { d with st := .good, bank := 1, ident := false }) p 4 true

/-- Maps, corrections and calibration reloaded from the NV store. -/
def reloadMaps (s : State) : State :=
  let now := s.clk.elapsed
  let s1 := { s with
              cvt := { s.cvt with conv := (List.range 138).foldl (fun m k =>
                                    spPut (Conv.reset k) m k (storedConv k (spGet (Conv.reset k) s.nv.conv k))) [],
                                  dac := (List.range 128).foldl (fun m k =>
                                    spPut DacCells.reset m k { spGet DacCells.reset s.nv.dac k with dwellAt := now }) [] },
              subs := s.nv.tileRetired.foldl (fun m t => spPut SubDom.up m (subTile t) ⟨false, true⟩) [],
              bm := { s.bm with map := (mapOf s.nv.tileRetired).1, spare := (mapOf s.nv.tileRetired).2, retired := s.nv.tileRetired },
              cal := { s.cal with base := s.nv.base, table := s.nv.table, written := s.nv.written } }
  let s2 := (List.range 8).foldl (fun s c =>
    let r := spGet [] s.nv.laneRetired c
    r.foldl (fun s k => subDown s (subLane c k)) (s.setLanes c { Lanes.reset with map := (mapOf r).1, spare := (mapOf r).2, retired := r })) s1
  let s3 := s.nv.banks.foldl (fun s b =>
    let t := wr s .memBankStat [b.1] (b.2 - 1)
    if bankState t b.1 = 3 then subDown t (subBank b.1) else t) s2
  let s4 := s.nv.linkLanes.foldl (fun s l => setLaneState s l 3) s3
  let s5 := s.nv.dpdSets.foldl (fun s x => reloadSet s x.1 x.2) s4
  let s6 := (List.range 64).foldl (fun s p => s.setFe p { s.pathFe p with safeNv := spGet 0 s.nv.safe p }) s5
  (List.range 128).foldl (fun s c =>
    let w := spGet 0 s.nv.bdac c
    let t := (wr s .bdacChCfg [c] w).setObj (0xB200 + c) 6 (.num (b2n (bitOf w 15)))
    if s.biasSupply c then safeCode t c else t) s6

/-- A bank that fails its self-test is remapped, with nothing copied (R436, R437). -/
def testBank (s : State) (b : Nat) : State :=
  if b < 100 ∧ bankState s b ≤ 1 then
    if bankState s b = 1 then saveBanks (retireBank s b)
    else match spareBank s with
      | some n => migrationEnd s b n
      | none => readmit (saveBanks (raise (retireBank s b) 164 (bankServed s b) NA))
  else s

/-- A lane that fails its self-test (R600, R632): the spare takes its position, or without one the path fails. -/
def testLane (s : State) (x : Nat × Nat) : State :=
  let l := s.lanes x.1
  if x.1 < 8 ∧ x.2 < 9 ∧ x.2 ∉ l.retired then
    match positionOf s x.1 x.2, l.spare with
    | some pos, some sp => retireLane (s.setLanes x.1 { l with map := l.map.set pos sp, spare := none }) x.1 x.2
    | some pos, none => failPath (retireLane s x.1 x.2) (8 * x.1 + pos)
    | none, _ => retireLane s x.1 x.2
  else s

/-- A tile that fails its self-test: the spare takes its positions at once (R605, R632). -/
def testTile (s : State) (t : Nat) : State :=
  if t < 9 ∧ t ∉ s.bm.retired then
    let s1 := tileFail s t
    { s1 with bm := match s1.bm.spare with
                    | some sp => if t ∈ s1.bm.map then { s1.bm with map := s1.bm.map.map (fun x => if x = t then sp else x), spare := none, dead := [] }
                                 else s1.bm
                    | none => s1.bm }
  else s

/-- An engine that fails its self-test is retired (R606). -/
def testEngine (s : State) (e : Nat) : State :=
  if e < 18 ∧ e ∉ s.nv.engRetired then
    spareUsed (raise { s.setEng e { s.eng e with st := .retired } with nv := { s.nv with engRetired := setIns e s.nv.engRetired } } 251 e NA) 7 e
  else s

/-- The QSPI controller reads the flash's SFDP table for the fastest mode it has and for its address width; without a table it falls back to
1-1-1 and 3-byte addresses (R504).  The table's layout is JESD216's (PRESUMED, assumption 113): the basic table's pointer in the first
parameter header, address bytes and the 1-1-4 and 1-4-4 reads in its first word, 4-4-4 in its fifth. -/
def qspiSelect (b : List Byte) : Qspi :=
  if leAt b 0 4 ≠ 0x50444653 then Qspi.reset
  else
    let t := leAt b 12 3
    let w := leAt b t 4
    ⟨if bitOf (leAt b (t + 16) 4) 4 then .q444 else if bitOf w 21 then .q144 else if bitOf w 22 then .q114 else .q111,
     if bitsOf w 18 17 = 2 then 4 else 3, min 100 Config.qspiClock⟩

/-- What follows step 2 (R632, R633, R635): step 3 from flash, the loader, or the wait for GO. -/
def leaveStep2 (s : State) : State :=
  match s.straps.bootSource with
  | 0 => setPhase { s with ctl := { s.ctl with qspi := qspiSelect s.nv.sfdp } } 3
  | 3 => if s.boot.go then setPhase s 3 else s
  | _ => if (spGet [] s.boot.images 1) ≠ [] then setPhase s 3 else { s with boot := { s.boot with loader := true } }

/-- Step 2 ends, or is held for REFCLK. -/
def bootStep2 (s : State) (x : BootIn) : State :=
  if s.boot.done2 then (if rf s .pwrBoot [] 7 4 = 1 then s else leaveStep2 s)
  else
    let s1 := reloadMaps { s with boot := { s.boot with done2 := true, refclk := x.refclk } }
    let s2 := if s.boot.warmTo.isSome then s1 else
      x.engines.foldl testEngine (x.tiles.foldl testTile (x.lanes.foldl testLane (x.banks.foldl testBank s1)))
    let s3 := if 650 ≤ x.vtarget ∧ x.vtarget ≤ 850 then wf s2 .pwrAvs [] 9 0 x.vtarget else s2
    if x.refclk then leaveStep2 s3 else setCode s3 1

/-! ## Steps 3 and 4 (R583, R632 to R635) -/

/-- The image that the board or a debugger left at a slot's place in the SRAM (R612). -/
def slotImage (s : State) (slot type : Nat) : List Byte :=
  let a := 0x0100A00000 + slot * 0x100000
  let len := beNum (sramPeek s (a + 0x0C) 4)
  if beNum (sramPeek s (a + 6) 2) = type ∧ len ≤ 1048576 then sramPeek s a (128 + len + 96) else []

/-- The two images of a type, 1 security core and 2 policy firmware: copies 0 and 1, or slots A and B. -/
def bootImages (s : State) (type : Nat) : List (List Byte) :=
  if s.boot.loader then [spGet [] s.boot.images type, []]
  else if s.straps.bootSource = 0 then [spGet [] s.nv.flash (2 * type - 2), spGet [] s.nv.flash (2 * type - 1)]
  else [slotImage s 0 type, slotImage s 1 type]

/-- SEC_IMAGE_REJECT for each image that is there and fails. -/
def rejectImages (s : State) (type : Nat) (l : List (List Byte)) : State :=
  l.foldl (fun s b => if b ≠ [] ∧ imageCheck s type b ≠ 0x10 then raise s 234 type NA else s) s

/-- Step 3: the security core firmware is verified and started, the copy with the higher VERSION. -/
def bootStep3 (s : State) : State :=
  if s.nv.lc = 5 then setCode s 5
  else
    let l := bootImages s 1
    let good (i : Nat) : Bool := decide (imageCheck s 1 (l.getD i []) = 0x10)
    let ver (i : Nat) : Nat := beAt (l.getD i []) 8 2
    if s.boot.loader ∧ l.getD 0 [] = [] then s
    else
      let s1 := rejectImages s 1 l
      let use : Option Nat := if good 0 && (¬ good 1 || decide (ver 1 ≤ ver 0)) then some 0 else if good 1 then some 1 else none
      match use with
      | some i => setPhase (setCode { s1 with sec := { s1.sec with secVersion := ver i } } 0) 4
      | none => setCode { s1 with boot := { s1.boot with loader := true, images := spErase s1.boot.images 1 } } 2

/-- The standby pair is started in standby mode with the other slot's image, when that verifies (R612, R613). -/
def standbyStarts (s : State) (b : List Byte) (good : Bool) : State := if good then (loadImage s b).setStandby 2 else s

/-- Step 4: policy firmware chosen and started (R583), and the pool loaded with the committed kernel set. -/
def bootStep4 (s : State) : State :=
  let l := bootImages s 2
  if s.boot.loader ∧ l.getD 0 [] = [] then s
  else
    let good (i : Nat) : Bool := decide (imageCheck s 2 (l.getD i []) = 0x10) && imageFits i (l.getD i [])
    let ver (i : Nat) : Nat := if l.getD i [] = [] then 0 else beAt (l.getD i []) 8 2
    let first := if ver 0 < ver 1 then 1 else 0
    let s1 := rejectImages s 2 l
    let kernels := (s1.nv.stored.getD []).filter (fun k => k.1 / 256 = 0x5904 ∨ (0xD140 ≤ k.1 / 256 ∧ k.1 / 256 < 0xD150))
    let s2 := loadPool (kernels.foldl (fun s k => s.setObj (k.1 / 256) (k.1 % 256) k.2) s1)
    let boot (s : State) : State := { s with boot := { s.boot with loader := false } }
    let use : Option Nat := if good first then some first else if good (1 - first) then some (1 - first) else none
    let flags (s : State) : State := wbit (wbit s .secBoot [] 2 (good 0)) .secBoot [] 3 (good 1)
    match use with
    | some i =>
      let fell := decide (i ≠ first)
      let s3 := wf (wbit (wbit (flags s2) .secBoot [] 1 fell) .secBoot [] 0 (decide (i = 1))) .secBoot [] 31 16 (ver i)
      let s4 := wf (loadImage s3 (l.getD i [])) .ctlFwStat [] 1 1 i
      let s5 := { (standbyStarts s4 (l.getD (1 - i) []) (good (1 - i))) with
                  ctl := { s4.ctl with active := 0, verifiedA := true, fwRuns := true, governedStale := false } }
      boot (setPhase (markOff (if fell then raise s5 233 i NA else s5) (markKey 4 0)) 5)
    | none =>
      let s3 := flags s2
      boot (setPhase (setCode (markOn { s3 with ctl := { s3.ctl with fwRuns := false, governedStale := true } } (markKey 4 0)) 3) 5)

/-! ## Step 5 (R520, R521, R632) -/

/-- The stored configuration committed with boundary NEXT_FRAME, or the defaults when none is stored: the reason code. -/
def bootCommit (s : State) : Nat × State :=
  let s1 := (s.nv.stored.getD []).foldl (fun s k => loadOne s (k.1 / 256) (k.1 % 256) k.2) s
  let j : CommitJob := ⟨.service, .spi, 0, 0, 2, 0, s1.now, s1.objsStaged, s1.regsStaged, 0⟩
  let (r, _, s2) := admissionEnd s1 j
  if r.code ≠ 0 then (r.code, s2)
  else match s2.adm.waiting with
    | some w => (0, commitBoundary s2 w)
    | none => (0, s2)

/-- Item 0x30 has run on every enabled path: its results. -/
def bootCal (s : State) (x : BootIn) : State :=
  (List.range 64).foldl (fun s p =>
    if s.pobj p 1 = 0 then s
    else match x.fg.find? (fun r => r.1 = p) with
      | some (_, true, res) => fgStatus (fgApply s p res) p 3
      | some (_, false, _) => failPath (raise (fgStatus s p 5) 106 NA p) p
      | none => s) s

/-- Step 5 ends in DOZE. -/
def bootStep5 (s : State) (x : BootIn) : State :=
  let seeded := match s.boot.warmTo with
    | some _ => { s with nv := { s.nv with wrxCount := rd s .wrxLastcnt [] }, clk := { s.clk with count := (s.pwr.ve + (s.pwr.wakeCycle - 1 - s.pwr.re) * rtcTicks) % 2 ^ 64 } }
    | none => s
  let (code, s1) := bootCommit seeded
  let s2 := bootCal s1 x
  let s3 := engineIslands.foldl (fun s i => islandClock s i false) (islandDown s2 8)
  let target := s.boot.warmTo.getD (s3.onum 0xB108 1)
  let s4 := reportRejected (setLevel s3 2)
  let s5 := { s4 with
              pwr := { s4.pwr with depth := 1, linkIdle := false, down := false, exit := some target, lockSince := some s4.clk.elapsed,
                                   accepted := s4.now, step := 0, req := none },
              boot := { s4.boot with warmTo := none, dozeMs := (s4.clk.elapsed - s.boot.startAt) / msTicks % 2 ^ 32 } }
  if code = 0 then setPhase s5 6
  else
    let s6 := setPhase (setCode (raise s5 219 code NA) 4) 7
    settle { s6 with pwr := { s6.pwr with exit := none } } 2

/-- A step of the boot ends (R632). -/
def bootStep (s : State) (x : BootIn) : State :=
  match s.bootPhase with
  | 1 => setPhase ((List.range 64).foldl (fun s p => if (s.pathFe p).phase = .reset then startTurn s p .off else s) s) 2
  | 2 => bootStep2 s x
  | 3 => bootStep3 s
  | 4 => bootStep4 s
  | 5 => bootStep5 s x
  | _ => s

/-- The loader takes an image (R635): sub-index 1 security core firmware, 2 policy firmware. -/
def loaderImage (s : State) (sub : Nat) (b : List Byte) : State :=
  if s.boot.loader ∧ (sub = 1 ∨ sub = 2) then
    let s1 := { s with boot := { s.boot with images := spPut [] s.boot.images sub b } }
    if sub = 1 ∧ s1.bootPhase = 2 ∧ s1.boot.done2 ∧ rf s1 .pwrBoot [] 7 4 ≠ 1 then setPhase s1 3 else s1
  else s

end Sys2Proof.Machine
end

