-- ==== Sys2Proof/Machine/DebugOps.lean ====
section
/-! DEFINITION. Debug-tagged accesses by the port and the tunnel, and the TAP (R585 to R588, R598). -/

namespace Sys2Proof.Machine

/-! ## Debug-tagged accesses (R31, R325, R586 to R588) -/

/-- A tenant-owned capture buffer lies at an address. -/
def inTenantBuffer (s : State) (a : Nat) : Bool :=
  (List.range 256).any (fun b =>
    let i := 0x4100 + b
    decide (s.onum i 3 < 4) && decide (s.onum i 1 ≤ a) && decide (a < s.onum i 1 + s.onum i 2))

/-- A read returns zero to the debug tag below D3: tenant partitions and tenant-owned capture buffers (R586). -/
def debugHidden (s : State) (a : Nat) : Bool :=
  decide (s.sec.dbgLevel ≤ 2) && (inTenantBuffer s a ||
    (match windowOf a with
     | some .sram => (s.partOf (bankOfOffset (a - sramBase))).isSome
     | _ => false))

/-- The session's time has come: a write in that cycle is not performed (R597). -/
def sessionOver (s : State) : Bool :=
  match s.sec.session with
  | some x => decide (x.expiry ≤ s.clk.elapsed)
  | none => false

/-- One debug-tagged access: OP 1 read, 2 write, of 4 or 8 bytes, the data as a number.  STATUS 0 OK, 1 OFF, 3 refused, and the read
data. -/
def debugAccess (s : State) (op size a data : Nat) : Nat × Nat × State :=
  let refused (s : State) : Nat × Nat × State := (3, 0, bump s .dbgFails [])
  if s.sec.dbgLevel = 0 ∨ (op ≠ 1 ∧ op ≠ 2) ∨ (size ≠ 4 ∧ size ≠ 8) ∨ (op = 2 ∧ (s.sec.dbgLevel < 2 ∨ sessionOver s)) then refused s
  else if windowOf a = some .sec then refused s
  else if op = 1 then
    let (c, b, s1) := fabRead s .debug 5 a size
    let v := if debugHidden s a then 0 else leNum b
    if c = 0 then (0, v, s1) else if c = 1 then (1, 0, s1) else (3, 0, s1)
  else
    let (c, s1) := fabWrite s .debug 5 a (leBytes size data)
    if c = 0 then (0, 0, s1) else if c = 1 then (1, 0, s1) else (3, 0, s1)

/-! ## The tunnel (R588) -/

/-- The entries of a tunnel list performed in order: each comes back with its status and its data. -/
def tunnelEntries : Nat → List Byte → State → List Byte × State
  | 0, _, s => ([], s)
  | n + 1, b, s =>
    let size := beAt b 1 1
    let (st, v, s1) := debugAccess s (beAt b 0 1) size (beAt b 3 5) (beAt b 8 8)
    let d := if beAt b 0 1 = 1 then v else beAt b 8 8
    let (l, s2) := tunnelEntries n (b.drop 16) s1
    (beBytes 1 st ++ sliceBytes b 1 7 ++ beBytes 8 d ++ l, s2)

/-- The tunnel is open to a session: on the T1S port or the SPI, the one that opened the debug session. -/
def tunnelOpen (s : State) (t : Transport) (id : Nat) : Bool :=
  (match t with
   | .port _ => false
   | _ => true) &&
  (match s.sec.session with
   | some x => decide (x.owner = some (t, id))
   | none => false)

/-- A tunnel list written: Diong status LENGTH 6 when it is not 1 to 16 entries. -/
def tunnelList (s : State) (b : List Byte) : Nat × State :=
  if b.length % 16 ≠ 0 ∨ b = [] ∨ 256 < b.length then (6, s)
  else
    let (l, s1) := tunnelEntries (b.length / 16) b s
    (0, { s1 with sec := { s1.sec with tunnel := l } })

/-! ## The TAP (R587, R588) -/

/-- The IDCODE. -/
def idcode : Nat := 0x1C646A8B

/-- Every path is OFF. -/
def allOff (s : State) : Bool := (List.range 64).all (fun p => s.pathState p = .off)

/-- The instruction register takes an instruction; leaving boundary scan, drains may rise again (R588). -/
def tapSelect (s : State) (ir : Nat) : State :=
  let scan := decide (ir = 0x00 ∨ ir = 0x03 ∨ ir = 0x04)
  let s1 := { s with sec := { s.sec with tapIr := ir } }
  if scan then allDrainsFall s1 else if s.scanInForce then drainRise s1 else s1

/-- An instruction that acts as BYPASS: counted, and the bypass register is shifted out. -/
def tapBypass (s : State) : State := emit (tapSelect (bump s .dbgFails []) 0xFF) (.tap 1 0)

/-- The TAP answers: DBG is powered (R594). -/
def tapRuns (s : State) : Bool := ¬ (s.island 34).off

end Sys2Proof.Machine
end

