-- ==== Sys2Proof/Machine/DiongOps.lean ====
section
/-! DEFINITION. Diong frames, sessions and the reading of objects (R469 to R485, R499, R500, R503). -/

namespace Sys2Proof.Machine

/-! ## Frames (R475, R479, R480, R503) -/

/-- The largest frame of a transport. -/
def frameMax : Transport → Nat
  | .port _ => 8192
  | .t1s => 1472
  | .spi => 4096

/-- The instance of a transport in DIONG_AUTH_FAIL (R498). -/
def transportInst : Transport → Nat
  | .port n => n
  | .t1s => 4
  | .spi => 5

/-- A frame up to its TAG: byte 0, then OP, SESSION, SEQ, KEY, STATUS, LEN and the payload. -/
def frameBody_ (b0 op session seq key status : Nat) (payload : List Byte) : List Byte :=
  beBytes 1 b0 ++ beBytes 1 op ++ beBytes 2 session ++ beBytes 4 seq ++ beBytes 1 key ++ beBytes 1 status ++ beBytes 2 payload.length ++ payload

/-- The material of a session's key. -/
def keyMaterial (s : State) (t : Transport) (key : Nat) : Option (List Byte) :=
  if key = 3 then some [] else s.keySlot (sessionSlot t key)

/-- The role that a transport and a key give (R474); the loader takes KEY 3 in every lifecycle state (R635). -/
def roleOf (s : State) (t : Transport) (key : Nat) : Option Role :=
  match t, key with
  | .port n, 0 => if n < 4 then some (.tenant n) else none
  | .port _, _ => none
  | _, 1 => some .operator
  | _, 2 => some .service
  | .spi, 3 => if s.lc ≤ 1 ∨ s.boot.loader then some .service else none
  | .t1s, 3 => if s.boot.loader then some .service else none
  | _, _ => none

/-- A frame queued for the management SPI: with 8 queued the oldest notification goes, then the oldest response (R503). -/
def spiQueue (s : State) (notify : Bool) (f : List Byte) : State :=
  let q := s.diong.spiOut ++ [(notify, f)]
  if q.length ≤ 8 then { s with diong := { s.diong with spiOut := q } }
  else
    let q' := if q.any (·.1) then q.eraseP (·.1) else q.tail
    { s with diong := { s.diong with spiOut := q', spiDropped := true } }

/-- A frame leaves on a transport. -/
def sendFrame (s : State) (t : Transport) (notify : Bool) (f : List Byte) : State :=
  match t with
  | .spi => spiQueue s notify f
  | _ => emit s (.diong t f)

/-- A response: RESP set, LAST on the last segment of a block, tagged under `material`. -/
def respond (s : State) (t : Transport) (session seq key : Nat) (material : List Byte) (op status : Nat) (payload : List Byte) (last : Bool) : State :=
  let b := frameBody_ (17 + 4 * b2n last) op session seq key status payload
  sendFrame s t false (b ++ tagOf key material b)

/-! ## Sessions (R476 to R478) -/

/-- Whether a session is the one a transport, key and SESSION name. -/
def Session.is (x : Session) (t : Transport) (key id : Nat) : Bool := decide (x.transport = t) && decide (x.key = key) && decide (x.id = id)

/-- The session that a transport, key and SESSION name. -/
def State.session (s : State) (t : Transport) (key id : Nat) : Option Session := s.diong.sessions.find? (fun x => x.is t key id)

/-- A session changed. -/
def modSession (s : State) (t : Transport) (key id : Nat) (f : Session → Session) : State :=
  { s with diong := { s.diong with sessions := s.diong.sessions.map (fun x => if x.is t key id then f x else x) } }

/-- What an operation answers: status, payload, LAST, the state, and whether the answer comes later. -/
structure DRes where
  status : Nat
  payload : List Byte
  last : Bool
  st : State
  later : Bool
deriving DecidableEq, Repr

/-- An answer of a status alone. -/
def dres (status : Nat) (s : State) : DRes := ⟨status, [], false, s, false⟩

/-- The device answers Diong requests: not below DOZE (R507), and in a boot not before step 5 except for the loader (R632, R635). -/
def diongRuns (s : State) : Bool :=
  decide (s.pwr.depth < 2) && (s.boot.loader || decide (s.bootPhase = 0) || decide (5 ≤ s.bootPhase))

/-- A frame's checks before its session (R474, R475, R479, R480): the role, or none when it is not answered. -/
def authenticate (s : State) (d : DHdr) (op : Nat) (payload : List Byte) : Option Role × State :=
  let bad (s : State) : Option Role × State := (none, raise (stat s 0x1050 1) 227 (transportInst d.transport) NA)
  let link : Bool := match d.transport with
    | .port _ => decide (d.pcId % 2 ^ 24 = d.session) && decide (d.seqId = d.seq)
    | _ => true
  if ¬ diongRuns s then (none, s)
  else if d.ver ≠ 1 ∨ ¬ link then (none, stat s 0x1050 3)
  else match roleOf s d.transport d.key, keyMaterial s d.transport d.key with
    | some r, some m =>
      if d.tag = tagOf d.key m (frameBody_ (d.ver * 16 + 4 * b2n d.last) op d.session d.seq d.key 0 payload) then (some r, s) else bad s
    | _, _ => bad s

/-- An accepted request is performed, and its answer sent and kept for a repetition. -/
def runRequest (s : State) (d : DHdr) (role : Role) (m : List Byte) (op : Nat) (payload : List Byte) (act : Role → State → DRes) : State :=
  let s1 := modSession s d.transport d.key d.session (fun x => { x with seq := d.seq, resp := none, busy := true })
  let r : DRes :=
    if s.boot.loader ∧ (op ≠ 4 ∨ beAt payload 0 2 ≠ 0x1070) then dres 0x0C s1
    else if frameMax d.transport < payload.length + 28 then dres 6 s1
    else act role s1
  if r.later then r.st
  else
    let s2 := modSession r.st d.transport d.key d.session (fun x =>
      { x with resp := some (op + 256 * b2n r.last, r.status, r.payload), busy := false })
    respond s2 d.transport d.session d.seq d.key m op r.status r.payload r.last

/-- A request frame (R474 to R480): authenticated, put to its session, and performed when it is new. -/
def request (s : State) (d : DHdr) (op : Nat) (payload : List Byte) (act : Role → State → DRes) : State :=
  -- the SPI request buffer of the frame is free again
  let s0 := if d.transport = .spi then { s with diong := { s.diong with spiIn := s.diong.spiIn.tail } } else s
  match authenticate s0 d op payload with
  | (none, s1) => s1
  | (some role, s1) =>
    let m := (keyMaterial s1 d.transport d.key).getD []
    match s1.session d.transport d.key d.session with
    | none =>
      if 16 ≤ (s1.diong.sessions.filter (fun x => x.transport = d.transport)).length then
        respond s1 d.transport d.session d.seq d.key m op 0x0A [] false
      else
        let x : Session := ⟨d.transport, d.key, d.session, d.seq, none, false, s1.clk.elapsed, none, [], 0⟩
        runRequest { s1 with diong := { s1.diong with sessions := s1.diong.sessions ++ [x] } } d role m op payload act
    | some x =>
      let s2 := modSession s1 d.transport d.key d.session (fun x => { x with lastFrame := s1.clk.elapsed })
      let delta := (d.seq + 2 ^ 32 - x.seq % 2 ^ 32) % 2 ^ 32
      if delta = 0 then
        (match x.resp with
        | some (o, st, p) => respond s2 d.transport d.session d.seq d.key m (o % 256) st p (decide (256 ≤ o))
        | none => s2)
      else if delta < 2 ^ 31 then
        (if x.busy then respond s2 d.transport d.session d.seq d.key m op 7 [] false
         else runRequest s2 d role m op payload act)
      else stat s2 0x1050 2

/-! ## Objects (R469 to R473) -/

/-- An index with more than one sub-index has a sub-index 0. -/
def hasSub0 (index : Nat) : Bool := decide (1 < objHighestSub index)

/-- The access of a role. -/
def ObjRow.acc (r : ObjRow) : Role → OAcc
  | .tenant _ => r.accT
  | .operator => r.accO
  | .service => r.accS

/-- Sub-index 0 of R469. -/
def sub0Row (index : Nat) : ObjRow := ⟨index, 0, 1, 0, 0, .u8, .ro, .ro, .ro, .none, objHighestSub index⟩

/-- An object looked up: its row, or NO_OBJECT 1, NO_SUBINDEX 2. -/
def findObj (index sub : Nat) : Nat ⊕ ObjRow :=
  if ¬ objIndexDefined index then .inl 1
  else if sub = 0 then (if hasSub0 index then .inr (sub0Row index) else .inl 2)
  else match objRow index sub with
    | some r => .inr r
    | none => .inl 2

/-- A tenant does not own what an index names (R473). -/
def foreign (s : State) (role : Role) (index : Nat) : Bool :=
  match role with
  | .tenant n => (match indexOwner s index with
    | some o => decide (o ≠ n)
    | none => false)
  | _ => false

/-- The event destination of a role. -/
def roleDest : Role → Nat
  | .tenant n => n
  | _ => 4

/-- The result that a role reads in object 0x2F00 (R654). -/
def resultOf (s : State) : Role → AdmResult
  | .tenant n => spGet AdmResult.zero s.adm.perTenant n
  | _ => s.adm.last

/-- A sub-index of object 0x2F00. -/
def AdmResult.field (r : AdmResult) : Nat → Nat
  | 1 => r.code
  | 2 => r.inst
  | 3 => r.demand
  | 4 => r.capacity
  | 5 => r.shortfall
  | 6 => r.bitmap
  | _ => r.epoch

/-- The status of an event bank that a destination sees: entitled sources only (object 0xE010). -/
def bankStatus (s : State) (d b : Nat) : Nat :=
  if d = 4 then evtStatWord s b
  else maskOf ((List.range 32).filter (fun i =>
    let src := 32 * b + i
    s.evt.cond.any (fun c => decide (c.1 = src) && entitled s src c.2.1 d) ||
      (decide (s.evt.shownAt = s.clk.elapsed) && decide (src ∈ s.evt.shown) && decide (evtClass src ≠ 0))))

/-- The value of an object that a role reads, in bytes, and the state after the read. -/
def objRead (s : State) (role : Role) (r : ObjRow) (index sub : Nat) : List Byte × State :=
  let d := roleDest role
  let num (n : Nat) : List Byte × State := (objBytes r (.num n), s)
  if sub = 0 then num r.dflt
  else if 0xE010 ≤ index ∧ index < 0xE018 then
    let b := index - 0xE010
    match sub with
    | 1 => num (bankStatus s d b)
    | 2 => num (rd s .evtStk [d, b])
    | 3 => num (rd s .evtEn [d, b])
    | _ => ((List.range 32).map (fun i => BitVec.ofNat 8 (rd s .evtRpt [d, 32 * b + i])), s)
  else if 0x5200 ≤ index ∧ index < 0x5208 then
    -- the vectors' words, most significant byte first
    let b := sramPeek s (s.cbBase (index - 0x5200)) 262144
    (((List.range 65536).map (fun i => beBytes 4 (leAt b (4 * i) 4))).flatten, s)
  else if (index = 0xB400 ∨ index = 0xB401) ∧ sub = 4 then
    let (v, s1) := regRead s (.pair 0) .monData [index - 0xB400]
    (objBytes r (.num v), s1)
  else match index, sub with
    | 0x2F00, k => num ((resultOf s role).field k)
    | 0xE000, 1 =>
      ((((s.evt.log.filter (fun e => d = 4 || bitOf e.dest d)).map LogEntry.bytes)).flatten, s)
    | 0xF010, k => num (spGet 0 s.lost (k - 1))
    | 0xC050, 3 =>
      let ((id, b), s1) := challengeRead s
      (beBytes 4 id ++ b, s1)
    | _, _ => (objBytes r ((viewObj s index sub).getD (s.obj index sub)), s)

/-- A read by a role: status and bytes (R471, R473).  The tunnel list is read only through the open tunnel (R588). -/
def readAs (s : State) (role : Role) (t : Transport) (session index sub : Nat) : Nat × Nat × List Byte × State :=
  match findObj index sub with
  | .inl e => (e, 0, [], s)
  | .inr r =>
    if r.acc role = .none ∨ r.acc role = .wo ∨ (index = 0xC060 ∧ ¬ tunnelOpen s t session) then (3, 0, [], s)
    else if foreign s role index then (0, r.ty.code, (objRead s role r index sub).1.map (fun _ => 0), s)
    else
      let (b, s1) := objRead s role r index sub
      (0, r.ty.code, b, s1)

/-- The generation of an object (R484): counted for a value set, the entries written for the event log; that of an object which shows
other state is free. -/
def genOf (s : State) (index sub : Nat) : Nat × State :=
  if index = 0xE000 ∧ sub = 1 then (s.evt.head % 2 ^ 32, s)
  else if (viewObj s index sub).isSome then draw s (2 ^ 32)
  else (spGet 0 s.objGen (okey index sub) % 2 ^ 32, s)

/-- READ (R481). -/
def opRead (t : Transport) (session index sub : Nat) (role : Role) (s : State) : DRes :=
  match readAs s role t session index sub with
  | (0, ty, b, s1) =>
    if frameMax t < b.length + 29 then ⟨6, beBytes 4 b.length, false, s1, false⟩
    else ⟨0, beBytes 1 ty ++ b, false, s1, false⟩
  | (e, _, _, s1) => dres e s1

/-- READ_BLOCK (R481, R484): a segment from an offset, at most `maxLen` bytes and what the frame holds. -/
def opReadBlock (t : Transport) (session index sub offset maxLen : Nat) (role : Role) (s : State) : DRes :=
  match readAs s role t session index sub with
  | (0, _, b, s1) =>
    if b.length < offset then dres 5 s1
    else
      let n := min (min maxLen (frameMax t - 36)) (b.length - offset)
      let (g, s2) := genOf s1 index sub
      ⟨0, beBytes 4 b.length ++ beBytes 4 g ++ sliceBytes b offset n, decide (offset + n = b.length), s2, false⟩
  | (e, _, _, s1) => dres e s1

end Sys2Proof.Machine
end

