-- ==== Sys2Proof/Machine/CmdAdmission.lean ====
section
/-! DEFINITION. COMMIT, ABORT, admission and the removal of carriers (R53 to R65, R82, R472, R485). -/

namespace Sys2Proof.Machine

/-- The rank of R56: an operator COMMIT, then a service one, then tenants in ascending order. -/
def commitRank : Role → Nat
  | .operator => 0
  | .service => 1
  | .tenant n => 2 + n

/-- The status of a COMMIT response: OK when accepted, REFUSED otherwise (R485). -/
def commitStatus (r : AdmResult) : Nat := if r.code = 0 then 0 else 8

/-- Whether a key is one of a role's (R474). -/
def keyOfRole (role : Role) (key : Nat) : Bool :=
  match role with
  | .tenant _ => decide (key = 0)
  | .operator => decide (key = 1)
  | .service => decide (key = 2 ∨ key = 3)

/-- The COMMIT in progress is answered to its session (R478, R485). -/
def answerJob (s : State) (j : CommitJob) (r : AdmResult) (tick : Nat) : State :=
  match s.diong.sessions.find? (fun x => decide (x.transport = j.transport) && decide (x.id = j.session) && keyOfRole j.role x.key && x.busy) with
  | some x =>
    let p := commitPayload r tick
    let s1 := modSession s x.transport x.key x.id (fun y => { y with resp := some (5, commitStatus r, p), busy := false })
    respond s1 x.transport x.id x.seq x.key ((keyMaterial s x.transport x.key).getD []) 5 (commitStatus r) p false
  | none => s

/-- What a COMMIT answers at once, or that it answers later (R53, R485). -/
def commitAct (d : DHdr) (boundary tick : Nat) (role : Role) (s : State) : DRes :=
  let j : CommitJob := ⟨role, d.transport, d.session, d.seq, boundary, tick, s.now, [], [], 0⟩
  let answer (x : Option (AdmResult × Nat) × State) : DRes := match x with
    | (some (r, t), s1) => ⟨commitStatus r, commitPayload r t, false, s1, false⟩
    | (none, s1) => ⟨0, [], false, s1, true⟩
  if 3 < boundary then dres 5 s
  else match s.adm.running with
    | some old =>
      -- of COMMITs of one cycle the highest rank is taken (R56)
      if old.receipt = s.now ∧ commitRank role < commitRank old.role then
        match commitStart { s with adm := { s.adm with running := none } } j with
        | (none, s1) =>
          let r := refusal s1 0x12 0 0 0
          ⟨0, [], false, answerJob (refuseCommit s1 old.role r) old r 0, true⟩
        | (some (r, t), s1) => answer (some (r, t), { s1 with adm := { s1.adm with running := some old } })
      else answer (commitStart s j)
    | none => answer (commitStart s j)

/-- COMMIT (R53 to R60, R485). -/
def execCommit (d : DHdr) (boundary tick : Nat) (s : State) : Out :=
  .next (request s d 5 (beBytes 1 boundary ++ List.replicate 7 0 ++ beBytes 8 tick) (commitAct d boundary tick))

/-- ADMISSION_RESULT (R57, R62, R654). -/
def execAdmissionResult (s : State) : Out :=
  match s.adm.running with
  | some j =>
    let (r, t, s1) := admissionEnd s j
    .next (answerJob s1 j r t)
  | none => .next s

/-- COMMIT_BOUNDARY (R61). -/
def execCommitBoundary (s : State) : Out :=
  match s.adm.waiting with
  | some j => .next (commitBoundary s j)
  | none => .next s

/-- ABORT (R57, R472). -/
def execAbort (d : DHdr) (s : State) : Out := .next (request s d 6 [] (fun role s => dres 0 (abortStaged s role)))

/-- CAPACITY_LOSS_READMISSION (R82). -/
def execCapacityLossReadmission (s : State) : Out := if s.adm.again then .next (repeatAdmission s) else .next s

/-- CARRIER_DROP_REMOVAL (R82): at the next frame boundary carriers are removed until admission passes. -/
def execCarrierDropRemoval (s : State) : Out :=
  if s.adm.dropDue then
    let s0 := toFrame s 0x52 0
    let s1 := { s0 with adm := { s0.adm with dropDue := false } }
    if (admitResult s1 s1 []).code = 0 ∨ s1.cfgCarriers = [] then .next s1
    else .next (removalDone s1 (dropCarriers 8 s1))
  else .next s

end Sys2Proof.Machine
end

