-- ==== Sys2Proof/Machine/DiongObj.lean ====
section
/-! DEFINITION. Writes of objects by Diong: checks, staged copies, objects in force, and the objects that act (R470 to R473, R500). -/

namespace Sys2Proof.Machine

/-! ## Checks of a value (R470, R482) -/

/-- A binary32 that is not a number. -/
def isNaN (n : Nat) : Bool := decide (bitsOf n 30 23 = 255) && decide (bitsOf n 22 0 ≠ 0)

/-- The length a DOMAIN object's layout gives a value: unit and greatest length, with `exact` when no other will do. -/
def domainShape (index sub : Nat) : Option (Nat × Nat × Bool) :=
  if 0x2010 ≤ index ∧ index < 0x2018 then some (4, 2048, false)
  else if 0x4400 ≤ index ∧ index < 0x4408 ∨ 0x4500 ≤ index ∧ index < 0x4508 then some (704, 704, true)
  else if 0x4480 ≤ index ∧ index < 0x4484 then some (64, 64, true)
  else if 0x5010 ≤ index ∧ index < 0x5018 ∨ 0x5910 ≤ index ∧ index < 0x5914 then some (32, 32, true)
  else if 0x5400 ≤ index ∧ index < 0x5408 then some (8192, 8192, true)
  else if 0x6200 ≤ index ∧ index < 0x6240 then some (12608, 12608, true)
  else if 0xA100 ≤ index ∧ index < 0xA180 then some (32, 131072, false)
  else match index, sub with
    | 0x2000, 3 => some (4, 2048, false)
    | 0x2001, 1 => some (8, 32768, false)
    | 0x5800, 1 => some (768, 768, true)
    | 0x5801, 1 | 0x5802, 1 => some (64, 64, true)
    | 0x5803, 1 => some (1024, 1024, true)
    | 0x7020, 1 => some (16, 16, true)
    | 0xB400, _ | 0xB401, _ => some (128, 128, true)
    | 0xC000, _ => some (112, 112, true)
    | 0xC020, _ => some (48, 48, true)
    | _, _ => none

/-- A value of another length than its type or layout has (LENGTH). -/
def badLength (r : ObjRow) (index sub : Nat) (b : List Byte) : Bool :=
  match r.ty with
  | .string => decide (255 < b.length)
  | .domain => (match domainShape index sub with
    | some (u, m, exact) => decide (b.length % u ≠ 0) || decide (m < b.length) || (exact && decide (b = []))
    | none => decide (16777215 < b.length))
  | t => decide (b.length ≠ t.bytes)

/-- The range an object's text gives its number. -/
def numRange (index sub : Nat) : Option (Nat × Nat) :=
  match index, sub with
  | 0x1020, 5 | 0x1020, 6 | 0x1020, 8 => some (1, 255)
  | 0x3010, 1 => some (0, 3)
  | 0x3010, 2 => some (0, 15)
  | 0x5901, 1 => some (0, 63)
  | 0x5901, 2 => some (1, 2)
  | 0x7000, 2 => some (1, 255)
  | 0x7050, 1 => some (0, 63)
  | 0x7050, 2 => some (0x30, 0x32)
  | 0x9011, 2 => some (0, 8)
  | 0xB000, 1 => some (8500, 10500)
  | 0xB011, 1 => some (1, 65535)
  | 0xB100, 1 => some (0, 5)
  | 0xB100, 2 => some (0, 1)
  | 0xB108, 1 => some (0, 2)
  | 0xD011, 1 => some (0, 95)
  | 0xD130, 1 => some (0, 17)
  | 0xD201, 1 => some (1, 3)
  | 0xD202, 5 => some (1, 600)
  | _, _ => none

/-- A descriptor of a codebook beam outside R255.  One of all zeros, the value at reset, is that of a beam not described, and no POL is asked of
it (DESIGN CHOICE, assumption 170). -/
def badDescriptor (w : Nat) : Bool :=
  decide (w ≠ 0) && (decide (bitsOf w 2 1 = 0) || decide (toSigned 16 (bitsOf w 21 6) < -18000 ∨ 17999 < toSigned 16 (bitsOf w 21 6)) ||
    decide (toSigned 16 (bitsOf w 37 22) < -9000 ∨ 9000 < toSigned 16 (bitsOf w 37 22)))

/-- Bytes of a UTF-8 string (R470, RFC 3629): no over-long form, no surrogate, nothing above U+10FFFF. -/
def isUtf8 (b : List Byte) : Bool := go 0 0 0 b
where
  /-- Bytes still due, and the range of the next one. -/
  go (due lo hi : Nat) : List Byte → Bool
    | [] => decide (due = 0)
    | x :: t =>
      let v := x.toNat
      if due ≠ 0 then decide (lo ≤ v) && decide (v ≤ hi) && go (due - 1) 0x80 0xBF t
      else if v < 0x80 then go 0 0 0 t
      else if 0xC2 ≤ v ∧ v ≤ 0xDF then go 1 0x80 0xBF t
      else if 0xE0 ≤ v ∧ v ≤ 0xEF then go 2 (if v = 0xE0 then 0xA0 else 0x80) (if v = 0xED then 0x9F else 0xBF) t
      else if 0xF0 ≤ v ∧ v ≤ 0xF4 then go 3 (if v = 0xF0 then 0x90 else 0x80) (if v = 0xF4 then 0x8F else 0xBF) t
      else false

/-- A value outside its encoding or range (RANGE). -/
def badRange (s : State) (r : ObjRow) (index sub : Nat) (b : List Byte) : Bool :=
  let n := beNum b
  (match r.ty with
   | .bool => decide (1 < n)
   | .f32 => isNaN n
   | .string => ¬ isUtf8 b
   | _ => false) ||
  (match numRange index sub with
   | some (lo, hi) => decide (n < lo) || decide (hi < n)
   | none => false) ||
  (decide (0x5400 ≤ index ∧ index < 0x5408) && (domWords 8 b).any badDescriptor) ||
  (decide (0x5100 ≤ index ∧ index < 0x5110) && decide (bitsOf (beAt b 0 1) 7 4 ≠ index - 0x5100 ∨ bitsOf (beAt b 1 1) 7 7 ≠ 0)) ||
  (decide (0x5200 ≤ index ∧ index < 0x5208) && decide (bitsOf (beAt b 0 1) 7 5 ≠ index - 0x5200 ∨ bitsOf (beAt b 1 1) 7 7 ≠ 1)) ||
  -- input, gain and rate codes of the monitors (R549, R550)
  (decide ((index = 0xB400 ∨ index = 0xB401) ∧ sub = 2) && (domWords 8 b).any monSeqBad) ||
  (decide (index = 0xB410) && ¬ monInput (n % 64)) ||
  -- SAFE of a GATE channel lies at or beyond PINCH (R539)
  (decide (0xB200 ≤ index ∧ index < 0xB280 ∧ sub = 4) && decide (s.biasRole (index - 0xB200) = 1) &&
    ¬ beyondPinch (rbit s .bdacChCfg [index - 0xB200] 15) (rf s .bdacChCfg [index - 0xB200] 47 32) n)

/-! ## Writes -/

/-- The value of an object's type from its bytes. -/
def objOfBytes (r : ObjRow) (b : List Byte) : ObjVal :=
  match r.ty with
  | .string | .domain => .bytes b
  | _ => .num (beNum b)

/-- A tenant writes SRC and DST of a descriptor as byte offsets in its partition, and the device makes addresses of them. -/
def tenantDescriptors (s : State) (n : Nat) : Nat → List Byte → List Byte
  | 0, b => b
  | k + 1, b =>
    let base := sramBase + rf s .memPart [n] 6 0 * 0x80000
    let addr (w : Nat) : Nat := setBits w 39 0 (base + w % 2 ^ 40)
    leBytes 8 (addr (leAt b 0 8)) ++ leBytes 8 (addr (leAt b 8 8)) ++ sliceBytes b 16 16 ++ tenantDescriptors s n k (b.drop 32)

/-- A staged copy written (R471, R472).  A tenant leaves OWNER of a ring as it stands. -/
def stageObj (s : State) (role : Role) (index sub : Nat) (v : ObjVal) : State :=
  let v1 : ObjVal := match role with
    | .tenant n =>
      if 0xA100 ≤ index ∧ index < 0xA180 then
        (if sub = 1 then .num (setBits v.toNat 3 1 (s.ringOwner (index - 0xA100)))
         else .bytes (tenantDescriptors s n (v.toBytes.length / 32) v.toBytes))
      else v
    | _ => v
  ({ s with objsStaged := spInsert (okey index sub) v1 (spErase s.objsStaged (okey index sub)) }).touch (okey index sub)

/-- The enables of a destination written. -/
def writeEnables (s : State) (d b bits : Nat) : State := wr s .evtEn [d, b] bits

/-- A statistics counter cleared, with its SAT bit (R500). -/
def clearCounter (s : State) (index sub : Nat) : State := { s with stats := spPut 0 s.stats (okey index sub) 0 }

/-- A predistortion set written to the shadow, and its hand-over requested: 0x10 and HO_RESULT (R280, R482). -/
def writeSet (s : State) (p : Nat) (b : List Byte) : Nat × State :=
  let x := s.dpd p
  let sh := 1 - x.bank
  let s1 := if x.writable sh s.clk.elapsed then
      s.setDpd p ((List.range bankWords).foldl (fun d i => d.setWord sh i (beAt b (4 * i) 4)) x)
    else bankReject s p 4
  let s2 := requestHo s1 p
  let s3 := if (s2.dpd p).checking.isSome then hoCheckDone s2 p else s2
  (0x10 + (s3.dpd p).result % 16, s3)

/-- A base-note set written (object 0x7021 + j). -/
def writeBaseSet (s : State) (j : Nat) (b : List Byte) : State :=
  let rest := s.cal.base.filter (fun e => e.1 / 16384 ≠ j)
  let base := (Config.baseSetEntries b).foldl (fun m e =>
    if e.1 < 64 ∧ e.2.1 < 256 then spPut none m ((j * 64 + e.1) * 256 + e.2.1) (some e.2.2) else m) rest
  { s with cal := { s.cal with base := base, dirty := setIns j s.cal.dirty } }

/-- A value kept until the write that submits it. -/
def keep (s : State) (index sub : Nat) (v : ObjVal) : State := { s with objs := spPut (objDefault s.tenants index sub) s.objs (okey index sub) v }

/-- The write of an object that acts: its status and what it does; none for an object that only holds a value. -/
def objAction (s : State) (role : Role) (t : Transport) (session index sub : Nat) (b : List Byte) : Option (Nat × State) :=
  let n := beNum b
  let d := roleDest role
  let ok (x : State) : Option (Nat × State) := some (0, x)
  let tenant : Option Nat := match role with
    | .tenant k => some k
    | _ => none
  let hold : Option (Nat × State) := ok (keep s index sub (.num n))
  if 0xE010 ≤ index ∧ index < 0xE018 then
    (match sub with
     | 2 => ok (clearSticky s d (index - 0xE010) n)
     | 3 => ok (writeEnables s d (index - 0xE010) n)
     | _ => none)
  else if 0x5100 ≤ index ∧ index < 0x5110 ∨ 0x5200 ≤ index ∧ index < 0x5208 then ok (weightBlock s tenant b)
  else if 0x6200 ≤ index ∧ index < 0x6240 then some (writeSet s (index - 0x6200) b)
  else if 0x7021 ≤ index ∧ index < 0x7029 then ok (writeBaseSet s (index - 0x7021) b)
  else if 0xA180 ≤ index ∧ index < 0xA200 then ok (if n = 1 then trigRing s (index - 0xA180) false else s)
  else if 0xB200 ≤ index ∧ index < 0xB280 ∧ sub = 2 then ok (codeWrite s (index - 0xB200) n)
  else if (index = 0xB400 ∨ index = 0xB401) ∧ sub = 5 then ok (if n = 1 then monTrigger s (index - 0xB400) else s)
  else if 0xC030 ≤ index ∧ index < 0xC03D then some (keyEnvelope s role (index - 0xC030) b)
  else match index, sub with
    | 0xF010, k => ok { s with lost := spMod 0 s.lost (k - 1) (fun w => w - Nat.land w n) }
    | 0x3010, 3 =>
      if role ≠ .operator then some (3, s)
      else if n ≠ 1 then ok s
      else if presetSet s (s.onum 0x3010 1) (s.onum 0x3010 2) then ok (forceTune s (s.onum 0x3010 1) (s.onum 0x3010 2))
      else some (5, s)
    | 0x3010, _ | 0x5901, 1 | 0x7050, 1 | 0x7050, 2 | 0x7050, 3 | 0xB100, 1 | 0xB100, 2 | 0xD201, 1 | 0xD201, 2 => hold
    | 0x4000, 1 => ok (spurEdges (clockAll ((List.range 64).foldl (fun s p => wf s .adcCtrl [p / 8, p % 8] 0 0 n) (keep s index sub (.num n)))))
    | 0x4001, 1 => ok (spurEdges (keep s index sub (.num n)))
    | 0x4010, 2 => ok (requestSync s n)
    | 0x5901, _ => ok (if n = 1 then failPath s (s.onum 0x5901 1) else healClear s (s.onum 0x5901 1))
    | 0x7050, _ => ok (if n = 1 then fgRequest s (some role) (s.onum 0x7050 1) (s.onum 0x7050 2) (s.onum 0x7050 3) else s)
    | 0x9011, 2 => ok (if laneState s n = 3 then
        setLaneState { s with nv := { s.nv with linkLanes := s.nv.linkLanes.filter (· ≠ n) } } n 2 else s)
    | 0x9320, 3 => ok { s with lnk := { s.lnk with tod := some n } }
    | 0xB100, _ => ok (if n = 1 then powerRequest s (s.onum 0xB100 1) (decide (s.onum 0xB100 2 = 1)) else s)
    | 0xB300, 1 => ok (strobeMask s n)
    | 0xB301, 1 => ok (drainRequest s n)
    | 0xB301, 3 => ok (faultClear s n)
    | 0xC000, 2 =>
      let c := tokenCheck s b
      some (c, if c = 0x10 then lcTransition s (beAt b 13 1) else s)
    | 0xC012, 1 => some (rootRecord s b)
    | 0xC020, 1 => ok (attest s b)
    | 0xC050, 4 => (match t with
      | .port _ => some (3, s)
      | _ => some (debugResponse s 1 b (some (t, session))))
    | 0xC050, 5 => ok (if n = 1 then endDebug s else s)
    | 0xC060, 1 => if tunnelOpen s t session then some (tunnelList s b) else some (3, s)
    | 0xC070, 2 => ok (if n = 1 then raiseMinimums s else s)
    | 0xD011, 1 => ok (spareBankOut s n)
    | 0xD130, 1 => ok (retireEngine s n true)
    | 0xD200, 1 => some (standbyImage s b)
    | 0xD201, 3 => ok (if n = 1 then hoRequest s (s.onum 0xD201 1) (s.onum 0xD201 2) else s)
    | _, _ => none

/-- A configuration value in force was written: digests follow within 10 ms (R490). -/
def digestsDue (s : State) (r : ObjRow) : State :=
  if r.cls = .none ∨ s.diong.digestDue.isSome then s else { s with diong := { s.diong with digestDue := some s.clk.elapsed } }

/-- A write of a weight block or a codebook block that is refused is counted and reported as a dropped block of its carrier (R252). -/
def dropBlock (s : State) (index : Nat) : State :=
  if 0x5100 ≤ index ∧ index < 0x5110 then rejectBlock s ((index - 0x5100) / 2) false 4
  else if 0x5200 ≤ index ∧ index < 0x5208 then rejectBlock s (index - 0x5200) false 4
  else s

/-- A write whose type, length and access are good: one outside its range is refused, that of a block also dropped (R252). -/
def writeGood (s : State) (role : Role) (t : Transport) (session : Nat) (r : ObjRow) (index sub : Nat) (b : List Byte) : Nat × State :=
  if badRange s r index sub b then (5, dropBlock s index)
  else if r.acc role = .rws then (0, stageObj s role index sub (objOfBytes r b))
  else match objAction s role t session index sub b with
    | some (c, s1) => (c, digestsDue s1 r)
    | none => (0, digestsDue (objApply s index sub (objOfBytes r b)) r)

/-- A write refused by ownership raises FIREWALL_VIOLATION with the tenant's tag (R473), that of a block BF_WEIGHT_REJECT too (R252). -/
def refuseForeign (s : State) (role : Role) (index : Nat) : State :=
  match role with
  | .tenant n => firewall (dropBlock s index) n
  | _ => s

/-- What a role's write meets before its value is looked at: a status, or the object's row (R471, R473, R481, R500). -/
def writeGate (s : State) (role : Role) (index sub type : Nat) (b : List Byte) : Nat ⊕ ObjRow :=
  match findObj index sub with
  | .inl e => .inl e
  | .inr r =>
    let a := r.acc role
    if isCounter index sub then
      (match role with
       | .tenant _ => .inl 3
       | _ => if a = .none then .inl 3 else if type ≠ r.ty.code then .inl 4 else if b.length ≠ r.ty.bytes then .inl 6
              else if beNum b ≠ 0 then .inl 3 else .inr r)
    else if a = .none ∨ a = .ro then .inl 3
    else if foreign s role index then .inl 3
    else if type ≠ r.ty.code then .inl 4
    else if badLength r index sub b then .inl 6
    else .inr r

/-- A write of an object by a role (R471, R473, R481, R482): its status and the state. -/
def writeAs (s : State) (role : Role) (t : Transport) (session index sub type : Nat) (b : List Byte) : Nat × State :=
  match writeGate s role index sub type b with
  | .inl e => (e, if e = 3 ∧ foreign s role index then refuseForeign s role index else s)
  | .inr r => if isCounter index sub then (0, clearCounter s index sub) else writeGood s role t session r index sub b

/-- WRITE (R481, R482). -/
def opWrite (t : Transport) (session index sub type : Nat) (b : List Byte) (role : Role) (s : State) : DRes :=
  let (c, s1) := writeAs s role t session index sub type b
  dres c s1

/-! ## Block transfers (R483, R635) -/

/-- The loader's objects. -/
def loaderObject (s : State) (index sub : Nat) : Bool := s.boot.loader && decide (index = 0x1070 ∧ (sub = 1 ∨ sub = 2))

/-- The last segment completes a transfer: the object is written at once. -/
def finishBlock (s : State) (role : Role) (t : Transport) (session index sub type : Nat) (b : List Byte) : DRes :=
  if loaderObject s index sub then dres 0 (loaderImage s sub b)
  else
    let (c, s1) := writeAs s role t session index sub type b
    dres c s1

/-- WRITE_BLOCK (R483): a segment opens, continues or completes a transfer of its session. -/
def opWriteBlock (d : DHdr) (index sub type offset total : Nat) (data : List Byte) (role : Role) (s : State) : DRes :=
  let set (s : State) (x : Option Transfer) : State := modSession s d.transport d.key d.session (fun y => { y with transfer := x })
  let gate : Nat := if loaderObject s index sub then 0 else match findObj index sub with
    | .inl e => e
    | .inr r => if r.acc role = .none ∨ r.acc role = .ro ∨ foreign s role index then 3 else if type ≠ r.ty.code then 4 else 0
  let take (b : List Byte) : DRes :=
    if total < b.length ∨ (d.last ∧ b.length ≠ total) then dres 9 (set s none)
    else if d.last then finishBlock (set s none) role d.transport d.session index sub type b
    else dres 0 (set s (some ⟨index, sub, type, total, b, s.clk.elapsed⟩))
  if offset = 0 then
    (if gate = 0 then take data
     else dres gate (if gate = 3 ∧ foreign s role index then refuseForeign (set s none) role index else set s none))
  else match (s.session d.transport d.key d.session).bind (·.transfer) with
    | some x =>
      if x.index = index ∧ x.sub = sub ∧ x.ty = type ∧ x.total = total ∧ x.data.length = offset then take (x.data ++ data)
      else dres 9 (set s none)
    | none => dres 9 s

/-! ## STORE, RESTORE, SUBSCRIBE, DIGEST (R486, R487, R490) -/

/-- A tenant may not. -/
def managed (role : Role) (s : State) (f : DRes) : DRes :=
  match role with
  | .tenant _ => dres 3 s
  | _ => f

/-- STORE (R486); `nvOk` is whether the NV store accepted the writes. -/
def opStore (selector : Nat) (nvOk : Bool) (role : Role) (s : State) : DRes :=
  managed role s (
    if nvOk then
      let s1 := if bitOf selector 0 then storeConfig s else s
      let s2 := if bitOf selector 1 then storeCal s1 else s1
      dres 0 (raise s2 231 0 NA)
    else dres 0x0B (raise s 231 0x0B NA))

/-- RESTORE (R486). -/
def opRestore (mode : Nat) (role : Role) (s : State) : DRes :=
  managed role s (
    match mode, s.nv.stored with
    | 0, some img => dres 0 (loadConfig s img)
    | 0, none => dres 0x11 (loadConfig s [])
    | 1, _ => dres 0 (loadConfig s [])
    | _, _ => dres 5 s)

/-- SUBSCRIBE (R487): mode 0 cancels, 1 periodic, 2 on change. -/
def opSubscribe (d : DHdr) (index sub mode period : Nat) (role : Role) (s : State) : DRes :=
  match readAs s role d.transport d.session index sub with
  | (0, ty, b, s1) =>
    let others (x : Session) : List Subscription := x.subs.filter (fun y => ¬ (y.index = index ∧ y.sub = sub))
    if 2 < mode ∨ (mode ≠ 0 ∧ (period < 10 ∨ 60000 < period)) then dres 5 s
    else
      let have_ := (s1.session d.transport d.key d.session).map (fun x => (others x).length)
      if mode ≠ 0 ∧ have_.getD 0 ≥ 32 then dres 0x0A s1
      else
        let x : Subscription := ⟨index, sub, mode, period, s1.clk.elapsed, .bytes (BitVec.ofNat 8 ty :: b)⟩
        dres 0 (modSession s1 d.transport d.key d.session (fun y => { y with subs := others y ++ (if mode = 0 then [] else [x]) }))
  | (e, _, _, _) => dres e s

/-- DIGEST (R490, R491). -/
def opDigest (scope : Nat) (role : Role) (s : State) : DRes :=
  let own : Bool := match role with
    | .tenant n => decide (scope = n)
    | _ => true
  if 5 < scope then dres 5 s
  else if ¬ own then dres 3 s
  else
    let b := if scope < 5 then spGet (List.replicate 32 0) s.diong.digests scope
      else ((List.range 8).map (fun c => beBytes 8 (spGet 0 s.diong.crc c))).flatten
    ⟨0, beBytes 8 s.adm.epoch ++ b, false, s, false⟩

/-! ## Notifications (R487) -/

/-- A notification of a subscription with the object's present value. -/
def notify (s : State) (x : Session) (y : Subscription) (ty : Nat) (v : List Byte) : State :=
  let m := (keyMaterial s x.transport x.key).getD []
  let b := frameBody_ 18 9 x.id x.notifySeq x.key 0 (beBytes 2 y.index ++ beBytes 1 y.sub ++ beBytes 1 ty ++ v)
  let s1 := sendFrame s x.transport true (b ++ tagOf x.key m b)
  let y' : Subscription := { y with lastSent := s.clk.elapsed, lastVal := .bytes (BitVec.ofNat 8 ty :: v) }
  modSession s1 x.transport x.key x.id (fun z =>
    { z with notifySeq := (z.notifySeq + 1) % 2 ^ 32, subs := z.subs.map (fun w => if w = y then y' else w) })

/-- A subscription is due: its period has passed, and in mode 2 its value has changed. -/
def notifyDue (s : State) (t : Transport) (key id index sub : Nat) : State :=
  match s.session t key id with
  | none => s
  | some x => match x.subs.find? (fun y => decide (y.index = index) && decide (y.sub = sub)), roleOf s t key with
    | some y, some role =>
      let s1 := reachElapsed s (y.lastSent + y.period * msTicks)
      (match readAs s1 role t id index sub with
      | (0, ty, v, s2) => if y.mode = 1 ∨ y.lastVal ≠ .bytes (BitVec.ofNat 8 ty :: v) then notify s2 x y ty v else s2
      | (_, _, _, s2) => s2)
    | _, _ => s

end Sys2Proof.Machine
end

