-- ==== Sys2Proof/Machine/EventOps.lean ====
section
/-! DEFINITION. Presenting of firings, folding of counters, and the small protocols of the management port (R492 to R503). -/

namespace Sys2Proof.Machine

/-! ## Firings (R492 to R497) -/

/-- A firing at one destination (R493): its flag set and the firing delivered, or counted.  `clr` is a destination whose flag is
cleared in the same cycle (R494).  The result's first part is the bits of the destinations it was delivered to, the second whether one
counted it. -/
def fireAt (f : Firing) (clr : Option Nat) (x : Nat × Bool × State) (d : Nat) : Nat × Bool × State :=
  let (del, co, s) := x
  if ¬ (entitled s f.src f.inst d ∧ evtEnabled s f.src d) then x
  else if evtSticky s f.src d ∧ clr ≠ some d then
    let s1 := coalesceAt s f.src d
    (del, true, { s1 with evt := { s1.evt with counted := s1.evt.counted ++ [(d, f)] } })
  else
    let n := b2n (evtSticky s f.src d)
    let s1 := wf (setFlag s .evtStk [d, f.src / 32] (f.src % 32)) .evtRpt [d, f.src] 7 0 n
    let s2 := if d < 4 then s1.setPort d { s1.port d with queue := (s1.port d).queue ++ [(f.src, f.inst, n, false)] } else s1
    (del + 2 ^ d, co, s2)

/-- A firing that all destinations have seen is logged, or, where none took it and one counted it, added to the source's newest
entry (R497). -/
def logFiring (f : Firing) (x : Nat × Bool × State) : State :=
  let (del, co, s) := x
  if del ≠ 0 then logWrite s ⟨s.now - (s.clk.elapsed - f.tick), f.src, del, f.inst, f.aux, 0⟩
  else if co then { s with evt := { s.evt with log := (repeatNewest f.src s.evt.log.reverse).reverse } }
  else s

/-- A firing presented (R492 to R497). -/
def present (s : State) (f : Firing) (clr : Option Nat) : State :=
  let shown := if s.evt.shownAt = s.clk.elapsed then s.evt.shown else []
  let counted := if s.evt.shownAt = s.clk.elapsed then s.evt.counted else []
  let s1 := { s with evt := { s.evt with waiting := s.evt.waiting.erase f, shown := setIns f.src shown, shownAt := s.clk.elapsed, counted := counted } }
  logFiring f (dests.foldl (fireAt f clr) (0, false, s1))

/-- The first waiting firing of a source is presented. -/
def presentNext (s : State) (src : Nat) (clr : Option Nat) : State :=
  match s.evt.waiting.find? (fun f => f.src = src) with
  | some f => present s f clr
  | none => s

/-! ## Folding (R499, R500) -/

/-- A hardware copy, or a field of one, and its statistics counter. -/
structure Fold where
  id : RegId
  ix : List Nat
  hi : Nat
  lo : Nat
  index : Nat
  sub : Nat
deriving DecidableEq, Repr

/-- The atomic read-and-subtract of one copy. -/
def foldOne (s : State) (f : Fold) : State :=
  let v := rf s f.id f.ix f.hi f.lo
  if v = 0 then s else stat (wf s f.id f.ix f.hi f.lo 0) f.index f.sub v

/-- The copies that belong to the device, a carrier, a bank, a wake source (R500). -/
def foldCopies : List Fold :=
  [⟨.tlGuardOvr, [], 31, 0, 0xE100, 1⟩, ⟨.tlEvtDrop, [], 31, 0, 0xE101, 1⟩] ++
  (List.range 4).map (fun n => ⟨.loSynUnlocks, [n], 31, 0, 0xE102 + n, 1⟩) ++
  [⟨.bfSat, [], 31, 0, 0xE106, 1⟩, ⟨.bfBeamErr, [], 31, 0, 0xE107, 1⟩, ⟨.bfNullVec, [], 31, 0, 0xE108, 1⟩, ⟨.bfWrej, [], 31, 0, 0xE109, 1⟩,
   ⟨.dmaTrigDrop, [], 31, 0, 0xE10A, 1⟩, ⟨.dbgFails, [], 31, 0, 0xE10B, 1⟩] ++
  ((List.range 8).map (fun n => [⟨.bfCcColl, [n], 15, 0, 0x5020 + n, 1⟩, ⟨.bfCcColl, [n], 31, 16, 0x5020 + n, 1⟩,
    ⟨.bfCcSplit, [n], 15, 0, 0x5020 + n, 2⟩, ⟨.bfCcSplit, [n], 31, 16, 0x5020 + n, 2⟩])).flatten ++
  ((List.range 100).map (fun b => [⟨.memBankCe, [b], 31, 0, 0xD020 + b, 2⟩, ⟨.memBankUe, [b], 31, 0, 0xD020 + b, 3⟩])).flatten ++
  (List.range 8).map (fun i => ⟨.aonWcnt, [i + 1], 31, 0, 0xB107, i + 1⟩) ++
  (List.range 5).map (fun j => ⟨.wrxCnt, [j], 31, 0, 0xB111, j + 1⟩)

/-- The copies of one path: those of its front end, and those of the lane that serves it. -/
def pathCopies (s : State) (p : Nat) : List Fold :=
  let fe := [p / 8, p % 8]
  let lane := [p / 8, s.laneOf p]
  let o (i : Nat) : Nat := 0x8000 + p * 0x40 + i
  [⟨.adcOvr, fe, 31, 0, o 0x1F, 1⟩, ⟨.rxgCnt, fe, 15, 0, o 0x23, 1⟩, ⟨.rxgCnt, fe, 31, 16, o 0x24, 1⟩, ⟨.rxSat, lane, 31, 0, o 0x25, 1⟩,
   ⟨.txLimcnt, lane, 31, 0, o 0x2E, 1⟩, ⟨.txMiss, lane, 31, 0, o 0x2F, 1⟩, ⟨.txClip, lane, 31, 0, o 0x30, 1⟩,
   ⟨.cfrMiss, lane, 31, 0, o 0x31, 1⟩, ⟨.txSat, lane, 31, 0, o 0x32, 1⟩, ⟨.dpdClamp, fe, 31, 0, o 0x38, 1⟩]

/-- The copies of every path folded. -/
def foldPaths (s : State) : State := (List.range 64).foldl (fun s p => (pathCopies s p).foldl foldOne s) s

/-! ## Lifecycle (R572) -/

/-- A request that moved the lifecycle is followed by a cold start. -/
def tokenStart (before after : State) : State := if after.nv.lc = before.nv.lc then after else coldStart after

/-! ## IPv4 (R502) -/

/-- The T1S port's protocols run while the control complex does. -/
def t1sRuns (s : State) : Bool := diongRuns s && decide (s.pwr.depth < 2)

/-- The device's IPv4 address: object 0x1020 sub-index 1, or a link-local one. -/
def ipv4 (s : State) : Nat := if s.onum 0x1020 1 = 0 then 0xA9FE0100 + Config.linkLocal % 65024 else s.onum 0x1020 1

/-- The 16-bit words of bytes, summed. -/
def words16 : List Byte → Nat
  | a :: b :: t => a.toNat * 256 + b.toNat + words16 t
  | [a] => a.toNat * 256
  | [] => 0

/-- The ones' complement checksum of IPv4 and ICMP. -/
def onesSum (b : List Byte) : Nat :=
  let w := words16 b
  let r := if w = 0 then 0 else (w - 1) % 65535 + 1
  65535 - r

end Sys2Proof.Machine
end

