-- ==== Sys2Proof/Machine/CmdArray.lean ====
section
/-! DEFINITION. Array architecture (chapter 1): register writes, crossings, island reset, the control core pairs. -/

namespace Sys2Proof.Machine

/-- REGISTER_WRITE (R5, R9, R21, R28, R30, R33 to R35, R83): the write reaches the register its address decodes to, each
field acting by its access code, or by the action its write asks for.  A lifecycle token accepted through the mailbox starts the device anew (R572). -/
def execRegisterWrite (m : Master) (tag addr value : Nat) (s : State) : Out :=
  .next (tokenStart s (regWriteBy s m tag addr value))

/-- CROSSING_PULSE (R19, R20): one pulse crosses; `burst` more arrive while it is acknowledged and are held in a 4-bit
count, delivered exactly up to 15; beyond 15 the lost flag of the crossing is set. -/
def execCrossingPulse (src dst burst : Nat) (s : State) : Out :=
  if src < 36 ∧ dst < 36 ∧ src ≠ dst ∧ ¬ (s.island dst).off ∧ ¬ (s.island src).off then
    let held := min 15 burst
    let key := dst * 64 + src
    let s1 := { s with xing := spMod Crossing.idle s.xing key (fun x => ⟨held, x.delivered + 1 + held⟩) }
    let s2 := islandSet s1 dst { s1.island dst with clock := true }
    .next (if 15 < burst then { s2 with lost := spMod 0 s2.lost dst (fun w => setBits w src src 1) } else s2)
  else .next s

/-- CROSSING_WAKE_REQUEST (R16): the stopped clock of a powered island runs. -/
def execCrossingWakeRequest (dst : Nat) (s : State) : Out :=
  if dst < 36 ∧ (s.island dst).power then .next (islandSet s dst { s.island dst with clock := true }) else .next s

/-- The tenure in progress of an island's ports ends, and what is parked for them is dropped (R445). -/
def dropTenures (s : State) (i : Nat) : State :=
  { s with mem := { s.mem with arb := s.mem.arb.filter (fun x => match x.2.owner with
      | some q => decide (portIsland q ≠ i)
      | none => true) } }

/-- What an island's reset makes of the state of its block that is not a register: the work under way is gone, what NV holds
stays. -/
def resetBlock (s : State) (i : Nat) : State :=
  if i < 8 then (List.range 8).foldl (fun s k => pathOff s (8 * i + k)) s
  else if 13 ≤ i ∧ i ≤ 30 then (if (s.eng (i - 13)).st = .retired then s else (abortJobs s (i - 13)).setEng (i - 13) Eng.reset)
  else match i with
  | 8 => { s with bm := { s.bm with landing := [], arms := [], sets := [], runs := [] } }
  | 9 => { s with lo := Lo.reset }
  | 10 => allPathsOff { s with tl := { s.tl with pendStep := none, stepArmed := none } }
  | 11 => s.nv.linkLanes.foldl (fun s l => setLaneState s l 3) { s with lnk := Lnk.reset }
  | 12 => s.nv.banks.foldl (fun s b => wr s .memBankStat [b.1] (b.2 - 1))
      { s with mem := { s.mem with arb := [], lock := none, lockWait := none, batch := [] } }
  | 31 => firmwareStops { s with diong := { s.diong with sessions := [] } }
  | 33 => allDrainsFall s
  | 34 => endDebug s
  | _ => s

/-- An island is reset (R10): its registers return to their reset values, staged copies too, its ports' tenures end and its block
starts anew.  The manual does not say how far the reset reaches inside a block (DESIGN CHOICE, assumption 98). -/
def resetIsland (s : State) (i : Nat) : State :=
  let mine (a : Nat) : Bool := decide ((windowOf a).map Window.island = some i)
  let s1 := dropTenures { s with regs := s.regs.filter (fun r => ¬ mine r.1), regsStaged := s.regsStaged.filter (fun r => ¬ mine r.1) } i
  resetBlock s1 i

/-- ISLAND_RESET_COMMAND (R10, R17, R18, R21, R111): both halves of every crossing of the island are reset; each transaction
in flight is discarded and its requester answered RESET_ABORT, a read with zero data; the island is reset, and its ports are unmasked (R451).  The paths of a cluster take
their safe levels.  The lost flags of the island's crossings stay: R20 has them cleared by a write of 1, and R17 does not name them
(DESIGN CHOICE, assumption 99). -/
def execIslandResetCommand (island : Nat) (inFlight : List Nat) (s : State) : Out :=
  if island < 36 then
    let s1 := { s with xing := s.xing.filter (fun p => p.1 / 64 ≠ island ∧ p.1 % 64 ≠ island) }
    let s2 := dropParked ((List.range 46).foldl (fun s q => if portIsland q = island then wbit s .memHoldMask [] q false else s) s1)
      (fun _ q => decide (portIsland q = island))
    .next (resetIsland (inFlight.foldl (fun s n => emit s (.bus 2 (List.replicate n 0))) s2) island)
  else .next s

/-- LOCKSTEP_FAULT (R24 to R26): the pair stops, its transactions are discarded and the event raised.  When it is the
active pair no policy firmware runs, what firmware governs goes stale, and the promotion awaits the next slot boundary;
a firmware hand-over that involves the pair ends or reverts (R617, R618). -/
def execLockstepFault (pair : Nat) (s : State) : Out :=
  if pair < 2 then .next (lockstepFault s pair) else .next s

/-- PAIR_PROMOTION (R25): at the next slot boundary the other pair becomes active if it holds a verified image and is not
stopped; otherwise the device goes on without policy firmware; a hand-over in probation reverts (R617). -/
def execPairPromotion (s : State) : Out :=
  if s.ctl.promoteDue then .next (promote (toSlot s 7 0)) else .next s

/-- LOST_FLAG_CLEAR (R20): an operator or service write to object 0xF010 clears the flags whose bit is 1. -/
def execLostFlagClear (role : Role) (island bits : Nat) (s : State) : Out :=
  match role with
  | .tenant _ => .next s
  | _ => if island < 36 then
      .next { s with lost := spMod 0 s.lost island (fun w => w - Nat.land w (bits % 2 ^ 64)) }
    else .next s

end Sys2Proof.Machine
end

