-- ==== Sys2Proof/Machine/CmdBeam.lean ====
section
/-! DEFINITION. Beamforming and array healing (chapter 7). -/

namespace Sys2Proof.Machine

/-- WEIGHT_HANDOVER (R246): current and shadow of the carrier and direction swap. -/
def execWeightHandover (n : Nat) (s : State) : Out :=
  .next (fireEvent s n 2 (fun _ => [8]) (fun e s =>
    let cc := e.target % 8
    let d := bitsOf e.target 3 3
    let w := s.wset cc d
    s.setWset cc d { w with cur := 1 - w.cur, count := w.count + 1, at_ := s.clk.elapsed }))

/-- TILE_START (R243): runs of the carrier and direction are armed for the symbols of the next D or U entry; a group count
of 0 means all. -/
def execTileStart (n : Nat) (s : State) : Out :=
  .next (fireEvent s n 3 (fun _ => [8]) (fun e s =>
    let d := bitsOf e.target 3 3
    match nextEntryOf s (if d = 1 ∧ ¬ s.fdd then 1 else 0) with
    | some (a, b) => { s with bm := { s.bm with
                                      arms := s.bm.arms.filter (fun x => s.now < x.upto + 65536) ++ [⟨e.target % 8, d, bitsOf e.arg 11 0, bitsOf e.arg 23 12, a, b⟩] } }
    | none => s))

/-- DL_RUN_START (R233, R242 to R244, R246): LEAD_DL before a symbol's air start, the run of an armed symbol. -/
def execDlRunStart (cc : Nat) (s : State) : Out :=
  if s.dlOn cc ∧ s.bfOn cc 0 ∧ ¬ (s.island 8).off then
    let lead := s.bfLead cc
    let s1 := toBoundary s 81 cc (fun t => nextSymbol s.frameOfs (s.ccMu cc) (s.ccEcp cc) (t + lead) - lead)
    match s1.armFor cc 0 (s1.now + lead) with
    | some a => .next (dlRun s1 cc (s1.now + lead) a)
    | none => .next s1
  else .next s

/-- UL_RUN_START (R234, R235, R237, R245): 8,192 ticks after the end of the symbol's FFT window, the run of the oldest symbol that waits, if it is
armed. -/
def execUlRunStart (cc : Nat) (s : State) : Out :=
  if s.ulOn cc ∧ s.bfOn cc 1 ∧ ¬ (s.island 8).off then
    match oldestRe s cc with
    | some y =>
      let start := symStartOf s.frameOfs (s.ccMu cc) (s.ccEcp cc) (y.tick + s.ccWinOfs cc * 2 ^ s.ccHalfbands cc)
      let s1 := reachElapsed s (y.at_ + 8192)
      .next (match s1.armFor cc 1 start with
        | some a => dropRe (ulRun s1 cc start y.tick a) cc y.tick
        | none => dropRe s1 cc y.tick)
    | none => .next s
  else .next s

/-- WEIGHT_BLOCK (R251, R252): a block from an eCPRI type 3 message or a Diong WRITE_BLOCK. -/
def execWeightBlock (role : Role) (block : List Byte) (s : State) : Out :=
  match role with
  | .tenant t => .next (weightBlock s (some t) block)
  | _ => .next (weightBlock s none block)

/-- WEIGHT_VECTOR_LAND (R247 to R250, R253, R653): the vector that waits longest lands.  `sameCycle`: it lands in the cycle of
the hand-over, which only a hand-over less than 2 ticks away allows. -/
def execWeightVectorLand (sameCycle : Bool) (s : State) : Out :=
  match s.bm.landing with
  | [] => .next s
  | v :: t =>
    let w := s.wset v.cc v.dir
    let near := decide (0 < w.count) && decide (s.clk.elapsed < w.at_ + 2)
    .next (landVector { s with bm := { s.bm with landing := t } } v (sameCycle && near))

/-- ERG_DECLARED (R257, R258): the declaration reaches the beam matrix: mask bit, event, stage 1; a declaration during stage 2
restarts it. -/
def execErgDeclared (p : Nat) (s : State) : Out :=
  if p ∈ s.bm.declaring then
    let s1 := { s with bm := { s.bm with
                               declaring := s.bm.declaring.filter (· ≠ p), mask := setBits s.bm.mask p p 1,
                               goingOff := spPut 0 s.bm.goingOff p (s.clk.elapsed + 1), clearing := spPut 0 s.bm.clearing p 0,
                               passed := spPut 0 s.bm.passed p 0, heal := ⟨1, s.clk.elapsed, s.bm.heal.late, [], 0⟩ } }
    .next (arrayMargin (raise s1 71 NA p))
  else .next s

/-- ERG_PATH_OFF (R258): the path enters OFF at the first symbol boundary at or after t_d + 64. -/
def execErgPathOff (p : Nat) (s : State) : Out :=
  let t := spGet 0 s.bm.goingOff p
  if p < 64 ∧ 0 < t then
    let s1 := reachElapsed s (t - 1 + 64)
    let s2 := if s1.tlRuns then reachCount s1 (nextSymbol s1.frameOfs s1.refMu s1.refEcp s1.now) else s1
    let s3 := { s2 with bm := { s2.bm with goingOff := spPut 0 s2.bm.goingOff p 0, held := setIns p s2.bm.held } }
    .next (fgPathOff (pathOff s3 p) p)
  else .next s

/-- ERG_RESYNTH_START (R260, R261, R326): stage 2 begins; the write generations are noted and its jobs posted. -/
def execErgResynthStart (s : State) : Out :=
  if s.bm.heal.stage = 1 then
    .next (ergPost { s with bm := { s.bm with heal := { s.bm.heal with stage := 2, gens := s.bm.gens, begun := s.clk.elapsed } } })
  else .next s

/-- ERG_RESYNTH_DONE (R256, R260 to R262): the default kernel takes its cost, split over two engines. -/
def execErgResynthDone (s : State) : Out :=
  if s.bm.heal.stage = 2 then .next (resynthDone (reachElapsed s (s.bm.heal.begun + s.resynthTicks))) else .next s

/-- HEAL_DECLARE (R257, R267): BF_HEAL_CMD with OP 1 and GO, for the device tag with an operator request, or debug at D2 or
above. -/
def execHealDeclare (tag : Nat) (request : Bool) (value : Nat) (s : State) : Out :=
  if (tag = 4 ∧ request) ∨ (tag = 5 ∧ 2 ≤ s.sec.dbgLevel) then
    .next (if bitOf value 8 ∧ bitsOf value 7 6 = 1 then failPath s (value % 64) else s)
  else .next (firewall s tag)

/-- HEAL_CLEAR (R264, R267): OP 2 clears a failed path, which returns after its foreground calibration passes. -/
def execHealClear (tag : Nat) (request : Bool) (value : Nat) (s : State) : Out :=
  if (tag = 4 ∧ request) ∨ (tag = 5 ∧ 2 ≤ s.sec.dbgLevel) then
    .next (if bitOf value 8 ∧ bitsOf value 7 6 = 2 then healClear s (value % 64) else s)
  else .next (firewall s tag)

/-- ERG_PATH_RESTORED (R264): at the first symbol boundary at least 64 ticks after the calibration passes, the path leaves OFF,
its mask bit clears and stage 2 runs with it. -/
def execErgPathRestored (p : Nat) (s : State) : Out :=
  let t := spGet 0 s.bm.clearing p
  if p < 64 ∧ 1 < t then
    let s1 := reachElapsed s (t - 2 + 64)
    let s2 := if s1.tlRuns then reachCount s1 (nextSymbol s1.frameOfs s1.refMu s1.refEcp s1.now) else s1
    let s3 := { s2 with bm := { s2.bm with
                                clearing := spPut 0 s2.bm.clearing p 0, passed := spPut 0 s2.bm.passed p 0, held := s2.bm.held.filter (· ≠ p),
                                mask := setBits s2.bm.mask p p 0, heal := ⟨1, s2.clk.elapsed, s2.bm.heal.late, [], 0⟩ } }
    let s4 := dpdReturns (s3.setFe p { s3.pathFe p with failed := false, safety := [] }) p
    .next (arrayMargin (raise (enterPathState s4 p) 75 NA p))
  else .next s

/-- TILE_FAIL (R266, R605): a tile that serves, or the spare, is retired. -/
def execTileFail (t : Nat) (s : State) : Out :=
  if t < 9 ∧ t ∉ s.bm.retired then .next (tileFail s t) else .next s

/-- TILE_SPARE_TAKEOVER (R266): from the first run 2,048 ticks after the failure the spare serves the position. -/
def execTileSpareTakeover (s : State) : Out :=
  match s.bm.dead, s.bm.spare with
  | (j, t) :: rest, some sp =>
    let s1 := reachElapsed s (t - 1 + 2048)
    .next { s1 with bm := { s1.bm with map := s1.bm.map.set j sp, spare := none, dead := rest } }
  | _, _ => .next s

/-- PRACH_COMBINE (R265): the occasion's REs of 64 antennas make one stream per beam of extractor `j`'s list, or pass through
with EXPORT, and lie in SRAM for the link. -/
def execPrachCombine (j : Nat) (s : State) : Out :=
  if j < 4 ∧ ¬ (s.island 8).off then .next (prachCombine s j) else .next s

end Sys2Proof.Machine
end

