-- ==== Sys2Proof/Machine/CmdSecurity.lean ====
section
/-! DEFINITION. Lifecycle, keys, roots, the security mailbox, the TAP and debug sessions (chapter 16). -/

namespace Sys2Proof.Machine

/-- The answer to a write that is looked at by its role and value: the result goes out. -/
def answer (x : Nat × State) : State := emit x.2 (.result x.1 [])

/-- A tenant gets ACCESS (3). -/
def notTenant (role : Role) (s : State) (f : Nat × State) : Nat × State :=
  match role with
  | .tenant _ => (3, s)
  | _ => f

/-! ## Objects (R572, R576, R580, R584, R585) -/

/-- TRANSITION_TOKEN (R569 to R572): object 0xC000 sub-index 2; an accepted token is followed by a cold start. -/
def execTransitionToken (role : Role) (token : List Byte) (s : State) : Out :=
  let c := tokenCheck s token
  .next (tokenStart s (answer (notTenant role s (if token.length ≠ 112 then 6 else c,
    if token.length = 112 ∧ c = 0x10 then lcTransition s (beAt token 13 1) else s))))

/-- KEY_ENVELOPE (R573 to R578): object 0xC030 + k. -/
def execKeyEnvelope (role : Role) (k : Nat) (envelope : List Byte) (s : State) : Out :=
  .next (answer (notTenant role s (keyEnvelope s role k envelope)))

/-- ROOT_RECORD (R579, R580): object 0xC012, operator role. -/
def execRootRecord (role : Role) (record : List Byte) (s : State) : Out :=
  .next (answer (if role = .operator then rootRecord s record else (3, s)))

/-- ATTESTATION (R585): a 48-byte nonce yields a signed report. -/
def execAttestation (nonce : List Byte) (s : State) : Out :=
  if nonce.length = 48 then
    let s1 := attest s nonce
    .next (emit s1 (.result 0 s1.sec.report))
  else .next (emit s (.result 6 []))

/-- RAISE_MINIMUMS (R584): object 0xC070 sub-index 2, operator role. -/
def execRaiseMinimums (role : Role) (s : State) : Out :=
  if role = .operator then .next (emit (raiseMinimums s) (.result 0 [])) else .next (emit s (.result 3 []))

/-! ## Mailbox (R475, R582, R598) -/

/-- VERIFY_IMAGE (R334, R582, R584): a firmware image or a kernel image in the buffer. -/
def execVerifyImage (m : Master) (len : Nat) (s : State) : Out := .next (mbox s m len mboxVerify)

/-- CHECK_DIONG_TAG (R475): the last 16 bytes against the tag of those before: 0x10 right, 0x11 wrong, 0x12 no key. -/
def execCheckDiongTag (m : Master) (t : Transport) (len : Nat) (s : State) : Out := .next (mbox s m len (mboxCheckTag t))

/-- MAKE_DIONG_TAG (R475): the 16 bytes of the tag. -/
def execMakeDiongTag (m : Master) (t : Transport) (len : Nat) (s : State) : Out := .next (mbox s m len (mboxMakeTag t))

/-- MBOX_KEY_ENVELOPE (R573 to R578): an envelope that a role has sent, its slot in byte 0. -/
def execMboxKeyEnvelope (m : Master) (role : Role) (len : Nat) (s : State) : Out := .next (mbox s m len (mboxKey role))

/-- MBOX_ATTESTATION (R585): a 48-byte nonce; the report is the result. -/
def execMboxAttestation (m : Master) (len : Nat) (s : State) : Out := .next (mbox s m len mboxAttest)

/-- LIFECYCLE_TOKEN (R569 to R572): an accepted token is followed by a cold start. -/
def execLifecycleToken (m : Master) (len : Nat) (s : State) : Out := .next (tokenStart s (mbox s m len mboxToken))

/-- MBOX_ROOT_RECORD (R579, R580). -/
def execMboxRootRecord (m : Master) (len : Nat) (s : State) : Out := .next (mbox s m len mboxRoot)

/-- RANDOM_BYTES (R589): free bytes. -/
def execRandomBytes (m : Master) (len : Nat) (s : State) : Out := .next (mbox s m len mboxRandom)

/-! ## The TAP (R586 to R588, R594) -/

/-- Cells of the boundary register (R642). -/
def cellCount : Nat := 660

/-- A TAP instruction: performed when DBG is powered and `ok`, BYPASS otherwise; with DBG down it is counted (R594). -/
def tapDo (s : State) (ok : Bool) (f : State → State) : State :=
  if ¬ tapRuns s then stat s 0xB111 6 else if ok then f s else tapBypass s

/-- D3, and every path OFF (R588). -/
def scanAllowed (s : State) : Bool := decide (3 ≤ s.sec.dbgLevel) && allOff s

/-- EXTEST (R587, R588): the cells drive the balls, and capture; DRN_EN stays low. -/
def execExtest (cells capture : Nat) (s : State) : Out :=
  .next (tapDo s (scanAllowed s) (fun s =>
    let s1 := tapSelect s 0x00
    emit { s1 with sec := { s1.sec with cells := cells % 2 ^ cellCount } } (.tap cellCount (capture % 2 ^ cellCount))))

/-- SAMPLE_PRELOAD (R587): the cells capture and are preloaded. -/
def execSamplePreload (cells capture : Nat) (s : State) : Out :=
  .next (tapDo s true (fun s =>
    let s1 := tapSelect s 0x01
    emit { s1 with sec := { s1.sec with cells := cells % 2 ^ cellCount } } (.tap cellCount (capture % 2 ^ cellCount))))

/-- IDCODE (R587). -/
def execIdcode (s : State) : Out := .next (tapDo s true (fun s => emit (tapSelect s 0x02) (.tap 32 idcode)))

/-- CLAMP (R588). -/
def execClamp (s : State) : Out := .next (tapDo s (scanAllowed s) (fun s => emit (tapSelect s 0x03) (.tap 1 0)))

/-- HIGHZ (R588). -/
def execHighz (s : State) : Out := .next (tapDo s (scanAllowed s) (fun s => emit (tapSelect s 0x04) (.tap 1 0)))

/-- DBG_CHAL (R587, R589): CHAL_ID and the challenge. -/
def execDbgChal (s : State) : Out :=
  .next (tapDo s true (fun s =>
    let ((id, b), s1) := challengeRead (tapSelect s 0x10)
    emit s1 (.tap 416 (id * 2 ^ 384 + beNum b))))

/-- DBG_RESP (R587, R591): a response of up to 192 bytes, zero-padded; its code is in DBG_STAT.RESULT. -/
def execDbgResp (response : List Byte) (s : State) : Out :=
  .next (tapDo s true (fun s => (debugResponse (tapSelect s 0x11) 0 ((response ++ List.replicate 192 0).take 192) none).2))

/-- DBG_PORT (R31, R586, R587): what the last transaction gave is shifted out; OP 1 reads, 2 writes, 0 does nothing. -/
def execDbgPort (addr op : Nat) (wide : Bool) (data : Nat) (s : State) : Out :=
  .next (tapDo s (decide (1 ≤ s.sec.dbgLevel)) (fun s =>
    let s1 := emit (tapSelect s 0x12) (.tap 112 (s.sec.portStatus + s.sec.portData * 2 ^ 48))
    if op = 0 then s1
    else
      let (st, v, s2) := debugAccess s1 op (if wide then 8 else 4) (addr % 2 ^ 40) (data % 2 ^ 64)
      { s2 with sec := { s2.sec with portStatus := (match st with
                                       | 0 => 0
                                       | 3 => 2
                                       | _ => 3), portData := v } }))

/-- DBG_STATUS (R587). -/
def execDbgStatus (s : State) : Out := .next (tapDo s true (fun s => emit (tapSelect s 0x13) (.tap 32 (readReg s .dbgStat []))))

/-- A listed code that is permitted now: it is its own instruction. -/
def tapPermitted (s : State) (ir : Nat) : Bool :=
  if ir = 0x00 ∨ ir = 0x03 ∨ ir = 0x04 then scanAllowed s
  else if ir = 0x12 then decide (1 ≤ s.sec.dbgLevel)
  else decide (ir ∈ [0x01, 0x02, 0x10, 0x11, 0x13])

/-- BYPASS (R587): code 0xFF, or one that is not listed or not permitted, which is counted. -/
def execBypass (ir : Nat) (s : State) : Out :=
  if ir = 0xFF then .next (tapDo s true (fun s => emit (tapSelect s 0xFF) (.tap 1 0)))
  else if tapRuns s ∧ tapPermitted s ir then .next s
  else .next (tapDo s false id)

/-- TAP_RESET (R587, R594): Test-Logic-Reset selects IDCODE; with DBG down it is counted. -/
def execTapReset (s : State) : Out := .next (tapDo s true (fun s => tapSelect s 0x02))

/-! ## Authentication and sessions (R588 to R598) -/

/-- CHALLENGE_READ (R589): object 0xC050 sub-index 3. -/
def execChallengeRead (role : Role) (s : State) : Out :=
  match role with
  | .tenant _ => .next (emit s (.result 3 []))
  | _ =>
    let ((id, b), s1) := challengeRead s
    .next (emit s1 (.result 0 (beBytes 4 id ++ b)))

/-- DEBUG_RESPONSE (R588, R591): object 0xC050 sub-index 4, from a session on the T1S port or the management SPI. -/
def execDebugResponse (t : Transport) (session : Nat) (response : List Byte) (s : State) : Out :=
  match t with
  | .port _ => .next (emit s (.result 3 []))
  | _ =>
    if s.diong.sessions.any (fun x => decide (x.transport = t) && decide (x.id = session)) then
      .next (answer (debugResponse s 1 response (some (t, session))))
    else .next (emit s (.result 3 []))

/-- DEBUG_TUNNEL (R588): object 0xC060, through the session that opened the debug session. -/
def execDebugTunnel (t : Transport) (session : Nat) (list : List Byte) (s : State) : Out :=
  if tunnelOpen s t session then
    let (c, s1) := tunnelList s list
    .next (emit s1 (.result c (if c = 0 then s1.sec.tunnel else [])))
  else .next (emit s (.result 3 []))

/-- DBG_CLOSE (R596, R598): from the debug tag, or from the device tag on an operator's request. -/
def execDbgClose (tag : Nat) (s : State) : Out := .next (if tag = 4 ∨ tag = 5 then endDebug s else dbgRefuse s tag)

/-- DEBUG_SESSION_EXPIRY (R596): DURATION has passed. -/
def execDebugSessionExpiry (s : State) : Out :=
  match s.sec.session with
  | some x => .next (endDebug (reachElapsed s x.expiry))
  | none => .next s

/-- A write in the debug window from the debug tag at D2 or above. -/
def debugD2 (s : State) (tag : Nat) (f : State → State) : State :=
  if tag = 5 ∧ 2 ≤ s.sec.dbgLevel then f s else dbgRefuse s tag

/-- CORE_HALT (R26, R597, R598): HALT_A and HALT_B. -/
def execCoreHalt (tag value : Nat) (s : State) : Out := .next (debugD2 s tag (fun s => coreCtrl s (value % 4)))

/-- CORE_STEP (R598): STEP_A, STEP_B: a halted pair executes one instruction and stands again.  What the instruction does is the
control core's own, of which the manual gives no more; a pair that is not halted goes on. -/
def execCoreStep (tag value : Nat) (s : State) : Out :=
  .next (debugD2 s tag (fun s => coreCtrl s (rf s .dbgCoreCtrl [] 1 0 + 4 * bitsOf value 3 2)))

/-- ENGINE_HALT (R598). -/
def execEngineHalt (tag value : Nat) (s : State) : Out := .next (debugD2 s tag (fun s => engineHalts s value))

/-- OLD_CAK_TIMEOUT (R414, R578): 60 s with no SAK under the new CAK; `down` when the port's SAs end with the old CAK. -/
def execOldCakTimeout (n : Nat) (down : Bool) (s : State) : Out :=
  let t := (spGet (0, []) s.sec.oldCak n).1
  if n < 4 ∧ t ≠ 0 then
    let s1 := reachElapsed s (t - 1 + 60 * secTicks)
    let s2 := { s1 with sec := { s1.sec with oldCak := spPut (0, []) s1.sec.oldCak n (0, []) } }
    .next (if down then portState s2 n (rbit s2 .lnkPortStat [n] 1) false else s2)
  else .next s

/-- DEBUG_CHALLENGE_EXPIRY (R589): 60 s unconsumed. -/
def execDebugChallengeExpiry (s : State) : Out :=
  match s.sec.chal with
  | some (_, _, t) =>
    let s1 := reachElapsed s (t + 60 * secTicks)
    .next { s1 with sec := { s1.sec with chal := none } }
  | none => .next s

/-- DEBUG_LOCKOUT_END (R591): 60 s after the 8th failure. -/
def execDebugLockoutEnd (s : State) : Out :=
  match s.sec.lockout with
  | some t =>
    let s1 := reachElapsed s (t + 60 * secTicks)
    .next { s1 with sec := { s1.sec with lockout := none } }
  | none => .next s

end Sys2Proof.Machine
end

