-- ==== Sys2Proof/Machine/CmdBoot.lean ====
section
/-! DEFINITION. Reset, cold start and the boot (chapter 18). -/

namespace Sys2Proof.Machine

/-- COLD_START (R629): PWRGOOD (0) or NRESET (1) rises; with both high a cold start begins. -/
def execColdStart (pin : Nat) (s : State) : Out :=
  if pin = 0 ∧ ¬ s.boot.pwrgood then
    .next (if s.boot.nreset then coldStart s else { s with boot := { s.boot with pwrgood := true } })
  else if pin = 1 ∧ ¬ s.boot.nreset then
    .next (if s.boot.pwrgood then coldStart s else { s with boot := { s.boot with nreset := true } })
  else .next s

/-- RESET_ASSERT (R508, R545, R629): PWRGOOD (0) or NRESET (1) goes low for `ns` nanoseconds: below 100 it is ignored, from 1,000 it
always acts, and in between whether it acts is free. -/
def execResetAssert (pin ns : Nat) (s : State) : Out :=
  let acts (s : State) : State := holdReset s (s.boot.pwrgood && pin ≠ 0) (s.boot.nreset && pin ≠ 1)
  if 2 ≤ pin ∨ ns < 100 then .next s
  else if ns < 1000 then
    let (v, s1) := draw s 2
    .next (if v = 1 then acts s1 else s1)
  else .next (acts s)

/-- OSC32_QUALIFIED (R630): the RTC starts to count. -/
def execOsc32Qualified (s : State) : Out :=
  match s.boot.rtcFrom with
  | none => .next { s with boot := { s.boot with rtcFrom := some s.clk.elapsed } }
  | some _ => .next s

/-- BOOT_STEP (R111, R520, R583, R632 to R635): the step in progress ends. -/
def execBootStep (x : BootIn) (s : State) : Out := .next (bootStep s x)

/-- REFCLK_QUALIFIED (R633): a boot held in step 2 goes on. -/
def execRefclkQualified (s : State) : Out :=
  if s.bootPhase = 2 ∧ rf s .pwrBoot [] 7 4 = 1 then
    .next (leaveStep2 (setCode { s with boot := { s.boot with refclk := true } } 0))
  else .next s

/-- LOADER_IMAGE (R635): a completed WRITE_BLOCK to object 0x1070. -/
def execLoaderImage (sub : Nat) (image : List Byte) (s : State) : Out :=
  if s.boot.loader ∧ (sub = 1 ∨ sub = 2) then .next (emit (loaderImage s sub image) (.result 0 []))
  else .next (emit s (.result 0x0C []))

/-- PWR_BOOT_GO (R535, R635): from the debug tag at D2 or above. -/
def execPwrBootGo (tag value : Nat) (s : State) : Out :=
  .next (if tag = 5 ∧ 2 ≤ s.sec.dbgLevel then bootGo s value else firewall s tag)

end Sys2Proof.Machine
end

