-- ==== Sys2Proof/Machine/CmdCalibration.lean ====
section
/-! DEFINITION. Calibration (chapter 10). -/

namespace Sys2Proof.Machine

/-- CAL_WINDOW (R48, R346, R348): the event places its paths in CAL for the guard it fires in and schedules their windows. -/
def execCalWindow (n : Nat) (s : State) : Out :=
  .next (fireEvent s n 11 (fun e => targetClusters e.target) (fun e s =>
    (targetPaths e.target).foldl (fun s p =>
      if (s.island (p / 8)).off ∨ s.calRunning p then s
      else s.setTop p { s.top p with due := some (s.now + 1, e.arg % 256) }) s))

/-- BASE_REEVALUATION (R340): T_p of every path (1/64 °C), the mean of what the housekeeping rounds since the last
re-evaluation assigned, and B re-evaluated for every item. -/
def execBaseReevaluation (s : State) : Out :=
  let t (p : Nat) : Int := if s.hk.tn = 0 then spGet 0 s.cal.tp p else spGet 0 s.hk.tsum p / (s.hk.tn : Int)
  let s1 := { s with cal := { s.cal with tp := (List.range 64).foldl (fun m p => spPut 0 m p (t p)) s.cal.tp },
                     hk := { s.hk with tsum := [], tn := 0 } }
  let s2 := (List.range 64).foldl (fun s p => s.setPobj p 0x0E (ofSigned 16 (spGet 0 s.cal.tp p))) s1
  .next ((List.range 64).foldl (fun s p => calItems.foldl (fun s i =>
    retarget s p i { s.calItem p i with b := baseNote s p i }) s) s2)

/-- The crystal table at a temperature, between the centres of the bins written (R344); 1/64 °C.  R343's −40 to +115 °C are the lower edges of the
bins, whose centres lie 2.5 °C higher (DESIGN CHOICE, assumption 159). -/
def xoTable (s : State) (t : Int) : Int :=
  let centre (b : Nat) : Int := (-40 + 5 * (b : Int)) * 64 + 160
  let lo := (s.cal.written.filter (fun b => centre b ≤ t)).getLast?
  let hi := s.cal.written.find? (fun b => t < centre b)
  let v (b : Nat) : Int := spGet 0 s.cal.table b
  match lo, hi with
  | some a, some b => v a + (v b - v a) * (t - centre a) / (centre b - centre a)
  | some a, none => v a
  | none, some b => v b
  | none, none => 0

/-- REFCLK edges in a 1 s gate at nominal. -/
def gateEdges : Int := 245760000

/-- TRACE_GATE (R342 to R345): the edges of REFCLK in a gate, the timeline's steering in ppb, and T_XO in 1/64 °C.  While LOCKED
the mean of the last 16 gates is published and recorded in the crystal table; in holdover the counter's correction follows the
temperature. -/
def execTraceGate (edges : Nat) (steer txo : Int) (s : State) : Out :=
  let ref := ((edges : Int) - gateEdges) * 1000000000 / gateEdges
  let s1 := wf (wf s .calXo [] 31 0 (ofSigned 32 ref)) .calXoStat [] 31 16 (ofSigned 16 txo)
  if s.ptpLocked then
    let gates := ((-steer - ref) :: s.cal.gates).take 16
    let m := meanI gates
    let bin := (clampI 0 31 ((txo - (-40 * 64)) / 320)).toNat
    let old := spGet 0 s.cal.table bin
    let s2 := { s1 with cal := { s1.cal with
                                 gates := gates, oLast := m, tLast := txo, table := spPut 0 s1.cal.table bin (old + (m - old) / 16),
                                 written := setIns bin s1.cal.written } }
    let s3 := wf (wf s2 .calXo [] 63 32 (ofSigned 32 m)) .calXoStat [] 0 0 1
    let out := decide (20000 < m.natAbs)
    let was := rbit s3 .calXoStat [] 1
    let s4 := wbit s3 .calXoStat [] 1 out
    .next (if out ∧ ¬ was then raise s4 105 NA NA else s4)
  else
    let corr := if s.cal.written.length < 2 then s.cal.oLast
      else s.cal.oLast + (xoTable s txo - xoTable s s.cal.tLast)
    .next { s1 with cal := { s1.cal with hold := corr } }

/-- TOP_NOTE_WINDOW (R348 to R352, R381): the window placed on path `p` runs from the latest of its event, the entry turnaround's
end and the RX trunk's lock; one that would reach the exit turnaround is skipped.  While the trunk is not locked and a window would still fit, it
waits for the lock.  A self-test (item 0x31) takes the window's place; one whose tone phase is discarded does not pass (DESIGN CHOICE,
assumption 178). -/
def execTopNoteWindow (p : Nat) (meas : TopMeas) (s : State) : Out :=
  let t := s.top p
  match t.due, guardNow s with
  | some (due, item), some (gs, ge) =>
    if p < 64 then
      let s0 := s.setTop p { t with due := none }
      let lock := s.now - (s.clk.elapsed - s.rx.goodFrom)
      let w := max (due - 1) (max (gs + 80) lock)
      if ¬ s.rxLocked p ∧ ¬ s.calRunning p ∧ max w s.now + 738 ≤ ge - 80 then .next s
      else if ¬ s.rxLocked p ∨ ge - 80 < w + 738 ∨ s.calRunning p then .next (skipWindow s0 p)
      else
        let s1 := reachCount s0 (w + 738)
        let meas := topMeas s1 p (s1.clk.elapsed - (s1.now - (w + 738))) meas
        let fg := s1.cal.fg.find? (fun r => r.path = p ∧ r.item = 0x31)
        let s2 := wf (wf s1 .calStat [p / 8, p % 8] 7 0 (if fg.isSome then 0x31 else item)) .calStat [p / 8, p % 8] 11 8 (t.count % 16)
        match fg with
        | some _ =>
          let base := ((baseNote s2 p 1).g.foldl (· + ·) 0) / 1000
          let pass := decide (meas.toneOk ∧ (meas.loop - base).natAbs ≤ 3000 ∧ 250 < meas.image)
          .next (fgEnd (lastRun s2 0x31 (if pass then 0 else 3)) p (if pass then 3 else 5))
        | none =>
          if item = 0x02 then .next (s2.setTop p { s2.top p with cells := min 16 ((s2.top p).cells + 1) })
          else if item = 0x01 then
            let jump : Bool := match t.prev with
              | some v => decide (500 < (meas.loop - v).natAbs)
              | none => false
            let s3 := s2.setTop p { s2.top p with count := t.count + 1, prev := if meas.toneOk then some meas.loop else t.prev,
                                                  ref := if t.ref.isNone ∧ meas.toneOk then some meas.loop else t.ref,
                                                  refRx := if t.refRx.isNone ∧ meas.toneOk then some meas.loop else t.refRx }
            .next (if meas.toneOk ∧ jump then skipWindow s3 p else lastRun (topUpdate s3 p meas) 0x01 0)
          else .next s2
    else .next s
  | some _, none => if p < 64 then .next (skipWindow (s.setTop p { t with due := none }) p) else .next s
  | none, _ => .next s

/-- CAL_HRX_ARM (R358, R382): MODE and STEP are written and ARM arms one injection. -/
def execCalHrxArm (tag value : Nat) (s : State) : Out :=
  .next (tagged s .calHrx [] tag (fun s => hrxArm s value))

/-- HEART_INJECTION (R357 to R360): while firmware runs, in the first guard that offers a start, the unit injects and the paths in GUARD capture.
Paths in CAL, and for the LNA-bypass step those with serial transactions queued, are excluded; the injection takes 356 ticks.  For item 0x15 they
take state STEP and go back at s + 200 (R359).  Where in the reserve the samples lie, the manual does not say: they are left out
(assumption 173). -/
def execHeartInjection (s : State) : Out :=
  if rf s .calHrxStat [] 1 0 = 1 ∧ s.ctl.fwRuns ∧ s.tlRuns ∧ (s.syn s.lo.rxServe).st = .locked then
    match injectionStart s with
    | some t =>
      let s1 := reachCount s t
      let byp := rbit s1 .calHrx [] 1 && decide (rf s1 .calHrx [] 6 2 = 31)
      let excl := (List.range 64).any (fun p => decide (s1.pathState p = .cal) ||
        (byp && decide ((s1.pathFe p).lists ≠ [] ∨ (s1.pathFe p).retries ≠ [])))
      let s2 := wr s1 .calHrxTick [] t
      -- ARM written again in this tick arms one injection more (R7)
      let s3 := wf (takeAgain s2 .calHrx [] 0) .calHrxStat [] 1 0 (if s2.askedAgain .calHrx [] 0 then 1 else 3)
      let s4 := wf s3 .calHrxStat [] 2 2 (b2n excl)
      let ps := (List.range 64).filter (fun p => decide (s1.pathState p = .guard) &&
        ¬ (byp && decide ((s1.pathFe p).lists ≠ [] ∨ (s1.pathFe p).retries ≠ [])))
      .next (if rbit s1 .calHrx [] 1 then
          passTicks (unstepPaths s4 (passTicks (stepPaths s4 ps (rf s1 .calHrx [] 6 2)) 200) ps) 156
        else passTicks s4 356)
    | none =>
      if s.pattern.any (fun e => e.dir = 2) then .next s
      else .next (s.setObj (0x7100 + (if rbit s .calHrx [] 1 then 0x15 else 0x10)) 4 (.num 2))
  else .next s

/-- HEART_SNAPSHOT (R361): one tick opens a capture of 4,096 samples on every path in TX, not masked, into a FREE buffer of its
pair.  Up to 16 count, with the slot each was taken in. -/
def execHeartSnapshot (s : State) : Out :=
  if s.ctl.fwRuns ∧ rbit s .calCtrl [] 6 ∧ s.cal.snaps.length < 16 then
    let ps := (List.range 64).filter (fun p => decide (s.pathState p = .tx) && ¬ bitOf s.bm.mask p && ¬ s.calRunning p)
    let s1 := ps.foldl (fun s p => openCapture s p p (if (s.buf (2 * p)).st = .free then 2 * p else 2 * p + 1) 4096 0) s
    let slot := nextSlot s.frameOfs s.refMu s.refEcp (s.now + 1)
    .next { s1 with cal := { s1.cal with snaps := s1.cal.snaps ++ [slot] } }
  else .next s

/-- P of a gain trim returns to 0 as a heart run of its gain comes into force: `i` 0 TX, item 0x11, 1 RX, item 0x10 (R339, R350). -/
def trimZero (s : State) (p i : Nat) : State :=
  let x := s.calItem p 1
  let t := s.top p
  let s1 := s.setTop p (if i = 0 then { t with ref := t.prev } else { t with refRx := t.prev })
  retarget s1 p 1 { x with p := { x.p with g := if i = 0 then [0, x.p.g.getD 1 0] else [x.p.g.getD 0 0, 0] } }

/-- The values of a heart run come into force (R338, R339, R363, R366). -/
def heartApply (s : State) (item : Nat) (r : HeartRes) : State :=
  let p := r.path
  let b := baseNote s p item
  let x := s.calItem p item
  let s1 := retarget s p item { x with b := b, h := calSub r.v b, p := calZero }
  let s2 := if s1.onum 0x7000 1 = 1 then
      let s3 := learn s1 p item r.v
      let y := s3.calItem p item
      let b2 := baseNote s3 p item
      s3.setCal p item { y with b := b2, h := calSub (calAdd y.b y.h) b2 }
    else s1
  let s4 := r.figures.foldl (fun s f => if f.1 ∈ [2, 3, 5, 6, 7, 8, 9, 0x3D] then s.setPobj p f.1 (ofSigned 16 f.2) else s)
    (refreshed s2 p item)
  let s4 := r.figures.foldl (fun s f =>
    if f.1 = 0x101 ∨ f.1 = 0x102 then s.setObj 0x7001 (f.1 - 0x100) (.num (ofSigned 16 f.2)) else s) s4
  let s5 := if item = 0x11 then trimZero s4 p 0 else if item = 0x10 then trimZero s4 p 1 else s4
  if item = 0x10 ∨ item = 0x11 then
    let dg := calSub r.v b
    -- the gain's deviation from B, 0.01 dB (R374)
    let s5 := s5.setPobj p (if item = 0x11 then 0x0C else 0x0D)
      (ofSigned 16 ((dg.g.foldl (fun a x => if a.natAbs < x.natAbs then x else a) 0) / 10000))
    heartLimit s5 p item (decide (r.snr < 150) || decide (6000000 < maxAbs dg.g) || decide (250000000 < maxAbs dg.d))
  else s5

/-- HEART_RUN_COMPLETE (R357, R361 to R363, R374, R375): a run's solve ends: LOW_RANK changes nothing; else the new values of its
paths come into force together, from one boundary. -/
def execHeartRunComplete (item : Nat) (lowRank : Bool) (results : List HeartRes) (s : State) : Out :=
  let snap := decide (item = 0x11 ∨ item = 0x14)
  if ¬ s.ctl.fwRuns ∨ item < 0x10 ∨ 0x17 < item ∨ (snap ∧ (s.cal.snaps.length < 16 ∨ s.cal.snaps.dedup.length < 4)) then .next s
  else
    let s1 := s.setObj (0x7100 + item) 3 (.num s.now)
    let s2 := if snap then { s1 with cal := { s1.cal with snaps := [] } } else s1
    if item = 0x11 ∧ lowRank then .next (raise (s2.setObj (0x7100 + item) 4 (.num 1)) 104 NA NA)
    else
      -- item 0x12 needs 16 tone points of 0x01, item 0x16 16 windows of 0x02 (R341)
      let good := results.filter (fun r => r.path < 64 ∧ ¬ s2.calRunning r.path ∧
        (item = 0x12 → 16 ≤ (s2.top r.path).count) ∧ (item = 0x16 → 16 ≤ (s2.top r.path).cells))
      let s3 := good.foldl (fun s r =>
        let t := heartApply s item r
        if item = 0x16 then t.setTop r.path { t.top r.path with cells := 0 } else t) s2
      .next (s3.setObj (0x7100 + item) 4 (.num (if good.any (fun r => 0 < spGet 0 s3.cal.bad (r.path * 256 + item)) then 3 else 0)))

/-- CAL_RAMP_STEP (R368): at the next symbol boundary of the reference numerology every ramp takes its next step. -/
def execCalRampStep (s : State) : Out :=
  let s1 := toSymbol s 195 0
  .next ((List.range 64).foldl (fun s p => calItems.foldl (fun s i =>
    let x := s.calItem p i
    if x.k < x.n then s.setCal p i { x with k := x.k + 1 } else s) s) s1)

/-- CAL_ITEM_STALE (R371, R372): an item's age exceeds its STALE_AGE; the age of one never refreshed counts from power-up. -/
def execCalItemStale (p item : Nat) (s : State) : Out :=
  let x := s.calItem p item
  if p < 64 ∧ item ∈ calItems then
    .next (setStaleBit (reachElapsed s (max 1 x.last + s.onum (0x7100 + item) 2 * msTicks)) p item true)
  else .next s

/-- FOREGROUND_REQUEST (R376 to R379): from object 0x7050 with a role, or from firmware. -/
def execForegroundRequest (who : Option Role) (path item flags : Nat) (s : State) : Out :=
  match who with
  | some (.tenant _) => .next s
  | _ => if path < 64 ∧ 0x30 ≤ item ∧ item ≤ 0x32 then .next (fgRequest s who path item flags) else .next s

/-- FOREGROUND_WINDOW_TIMEOUT (R377): 1 s after acceptance without a window. -/
def execForegroundWindowTimeout (p : Nat) (s : State) : Out :=
  match s.cal.fg.find? (fun r => r.path = p ∧ ¬ r.running ∧ ¬ r.force) with
  | some r => .next (fgEnd (reachElapsed s (r.at_ + secTicks)) p 6)
  | none => .next s

/-- SERVICE_WINDOW_START (R380): at the first symbol boundary at or after the window's start each named path enters OFF, masked
as for erg repair without ERG_DECLARED, and its request runs. -/
def execServiceWindowStart (s : State) : Out :=
  if s.onum 0x7030 2 = 0 then .next s
  else
    let s1 := reachCount s (nextSymbol s.frameOfs s.refMu s.refEcp (max s.now (s.onum 0x7030 1)))
    let ps := (List.range 64).filter (fun p => bitOf (s1.onum 0x7030 3) p && decide (p ∉ s1.bm.held))
    if s1.now < s.onum 0x7030 1 + s.onum 0x7030 2 * msTicks then
      .next (ps.foldl (fun s p =>
        let s2 := { s with
                    cal := { s.cal with window := setIns p s.cal.window },
                    bm := { s.bm with held := setIns p s.bm.held, mask := setBits s.bm.mask p p 1,
                                      heal := ⟨1, s.clk.elapsed, s.bm.heal.late, [], 0⟩ } }
        fgPathOff (arrayMargin (pathOff s2 p)) p) s1)
    else .next s1

/-- FOREGROUND_RUN_END (R379 to R381): the running request of a path ends, with the values it found; a pass by a forced request
leaves the path masked unless AUTO_CLEAR was given. -/
def execForegroundRunEnd (p : Nat) (pass : Bool) (results : List (Nat × CalMeas)) (s : State) : Out :=
  match s.cal.fg.find? (fun r => r.path = p ∧ r.running) with
  | some r =>
    let s1 := lastRun (reachElapsed s (r.at_ + fgTicks r.item)) r.item (if pass then 0 else 3)
    let win := decide (p ∈ s1.cal.window)
    if pass then
      let s2 := if r.item = 0x30 then fgApply s1 p results else s1
      -- AUTO_CLEAR stands for the clear command; the foreground calibration alone returns the path (R264; DEDUCED, assumption 169)
      let clear := r.auto || decide (spGet 0 s2.bm.clearing p = 1)
      let s3 : State :=
        if r.item ≠ 0x30 then (if r.auto then { s2 with bm := { s2.bm with clearing := spPut 0 s2.bm.clearing p 1 } } else s2)
        else if clear then { s2 with bm := { s2.bm with clearing := spPut 0 s2.bm.clearing p (s2.clk.elapsed + 2) } }
        else { s2 with bm := { s2.bm with passed := spPut 0 s2.bm.passed p (s2.clk.elapsed + 2) } }
      let s4 := fgEnd s3 p (if r.force ∧ ¬ r.auto then 4 else 3)
      .next (if win ∧ ¬ r.force then windowReturn s4 p else s4)
    else
      -- a path whose request failed does not return with the window's end (R380)
      let s2 := fgEnd { s1 with cal := { s1.cal with window := s1.cal.window.filter (· ≠ p) } } p 5
      .next (if r.item = 0x30 then heartLimit s2 p 0x10 true
        else if r.item = 0x32 then failPath (raise s2 39 NA p) p else s2)
  | none => .next s

/-- BASE_NOTE_SAVE (R366): a learned set is written to the NV store, at most once per 3,600 s. -/
def execBaseNoteSave (j : Nat) (s : State) : Out :=
  if j ∈ s.cal.dirty then
    let t := spGet 0 s.cal.saved j
    let s1 := if t = 0 then s else reachElapsed s (t - 1 + 3600 * secTicks)
    .next { s1 with
            cal := { s1.cal with dirty := s1.cal.dirty.filter (· ≠ j), saved := spPut 0 s1.cal.saved j (s1.clk.elapsed + 1) },
            nv := { s1.nv with base := (s1.cal.base.filter (fun x => x.1 / 16384 = j)).foldl (fun m x => spPut none m x.1 x.2)
                                 (s1.nv.base.filter (fun x => x.1 / 16384 ≠ j)) } }
  else .next s

end Sys2Proof.Machine
end

