-- ==== Sys2Proof/Machine/CmdConverter.lean ====
section
/-! DEFINITION. Receive ADCs, transmit DACs, observation receivers and captures (chapter 4). -/

namespace Sys2Proof.Machine

/-! ## Barchan rotation -/

/-- Estimates beyond a failure limit of R125. -/
def estFails (e : SliceEst) : Bool :=
  1536 < e.offset.natAbs || 4 * 2 ^ 14 < 100 * e.gain.natAbs || 80 < e.delay.natAbs || 80 < e.trim.natAbs || 30 < e.bw.natAbs || 200 < e.noise

/-- The active slice is judged faulty: it differs by more than 32 LSB rms and the spare agrees with the interpolation
within 4 LSB rms. -/
def activeFaulty (e : SliceEst) : Bool := 512 < e.diff && e.dev ≤ 64

/-- The spare fails its calibration (R125, R132). -/
def spareFails (e : SliceEst) : Bool := estFails e || (512 < e.diff && ¬ e.dev ≤ 64)

/-- The spur estimate is published (R140), ADC_SPUR_LIMIT while it exceeds the limit. -/
def publishSpur (s : State) (k : Nat) (spur : Int) : State :=
  let s1 := spurEdge (s.setConv k { s.conv k with spur := spur }) (k / 2)
  if toSigned 16 (s.onum 0x4001 1) < spur then condOn s1 36 NA (convPath k) else condOff s1 36 NA (convPath k)

/-- The timer of a step or blind tracking window has run out: the next begins where it ended (R127, R137). -/
def timerEnd (s : State) (k next : Nat) : State :=
  let c := s.conv k
  let due := c.runs.getD s.clk.elapsed + c.left
  (reachElapsed s due).setConv k { c with left := next, runs := some due }

/-- The slices at the positions take the offsets and gains that blind tracking found (R137). -/
def blindTrack (c : Conv) (l : List (Int × Int)) : Sparse SliceCorr :=
  (c.pos.zip l).foldl (fun m e => spMod SliceCorr.zero m e.1 (fun x => SliceCorr.clamp { x with offset := e.2.1, gain := e.2.2 })) c.corr

/-- ROTATION_STEP_END (R125, R127 to R129, R132, R137): the evaluation of a step, at the end of its running time.  A spare that passes waits to
be swapped in; one that fails repeats the step with ADC_SLICE_FAIL, and is retired when it fails twice in a row.  An active slice found
faulty is replaced at once.  An estimate beyond a failure limit fails the spare even where the active slice is judged faulty in the same
evaluation: no slice is known good enough to take the position (DESIGN CHOICE, assumption 150: the manual does not rank the two).  A spare that
passes brings the phase trim of the position it shadowed (R125).  A converter with no spare ends a window of blind tracking.  The step timers of a path's two converters
start and stop together, so their steps end together. -/
def execRotationStepEnd (k : Nat) (est : SliceEst) (s : State) : Out :=
  if k < 138 ∧ ¬ (s.conv k).failed ∧ (s.conv k).runs.isSome ∧ (s.conv k).spare.isNone then
    let s1 := publishSpur (timerEnd s k (blindTicks k)) k est.spur
    .next (s1.setConv k { s1.conv k with corr := blindTrack (s1.conv k) est.blind })
  else if rotates s k ∧ (s.conv k).runs.isSome ∧ ¬ (s.conv k).swapDue then
    let s1 := publishSpur (timerEnd s k (stepTicks k)) k est.spur
    let c := s1.conv k
    match c.spare with
    | some sp =>
      if activeFaulty est ∧ ¬ estFails est then
        .next (emergencySwap (s1.setConv k { c with corr := spPut SliceCorr.zero c.corr sp ⟨est.offset, est.gain, est.delay, est.bw⟩ })
          k (c.pos.getD c.shadow 0))
      else if spareFails est then
        let s2 := raise s1 32 NA (convPath k)
        if c.missed then .next (retireSpare s2 k sp)
        else .next (s2.setConv k { c with missed := true })
      else
        .next (s1.setConv k { c with missed := false, swapDue := true, trim := spPut 0 c.trim c.shadow est.trim,
                                     corr := spPut SliceCorr.zero c.corr sp ⟨est.offset, est.gain, est.delay, est.bw⟩ })
    | none => .next s1
  else .next s

/-- To the boundary of a scheduled swap (R130): the next symbol boundary of the reference numerology, or, where a capture is open on the path or
ORX then, the first after it ends. -/
def toSwap (s : State) (k : Nat) : State :=
  let s1 := openVisits (toSymbol s 54 k)
  match convStaging k with
  | none => s1
  | some st =>
    if captureOpen s1 st then
      match spGet none s1.cvt.staging st with
      | some b => toSymbol (reachElapsed s1 (captureEnd (s1.buf b))) 54 k
      | none => s1
    else s1

/-- SLICE_SWAP (R126, R127, R130, R131): at the symbol boundary after the step's end the spare takes its position, the freed
slice is the spare and shadows the next position; the active slices are recentred.  A capture open on the path puts the
swap off; while RUN = 0 it takes place at once.  A stuck slice that awaits its emergency swap, due at once, cancels it (R136). -/
def execSliceSwap (k : Nat) (s : State) : Out :=
  let c := s.conv k
  match c.swapDue, c.spare with
  | true, some sp =>
    if c.stuck.isSome then .next (s.setConv k { c with swapDue := false }) else
    let s1 := if rbit s .tlCtrl [] 0 then toSwap s k else s
    let old := c.pos.getD c.shadow 0
    let pos := c.pos.set c.shadow sp
    .next (s1.setConv k { c with pos := pos, spare := some old, corr := recentre pos c.corr, swapDue := false,
                                 shadow := (c.shadow + 1) % c.pos.length })
  | _, _ => .next s

/-- STUCK_SLICE_DETECT (R133, R135): a slice has held one code for 1,024 samples, 1,639 ticks at 307.2 MS/s.  A stuck spare is retired at once;
a stuck active slice awaits its emergency swap, and samples from the first of the window until then carry the mirage flag. -/
def execStuckSliceDetect (k slice : Nat) (s : State) : Out :=
  let c := s.conv k
  let from_ := s.clk.elapsed - 1639
  if k < 138 ∧ converting s k then
    if c.spare = some slice then .next (retireSpare s k slice)
    else if slice ∈ c.pos then
      let s1 := s.setConv k { c with stuck := some slice, stuckFrom := from_ }
      if c.spare.isNone then .next (convFails s1 k slice) else .next s1
    else .next s
  else .next s

/-- EMERGENCY_SWAP (R134, R136, R138): the spare takes the faulty slice's position and the faulty slice is retired; a
converter with no spare fails. -/
def execEmergencySwap (k slice : Nat) (s : State) : Out :=
  if k < 138 ∧ slice ∈ (s.conv k).pos ∧ ¬ (s.conv k).failed then .next (emergencySwap s k slice) else .next s

/-! ## Transmit DACs -/

/-- DAC_DWELL_START (R143): the check spare takes over the next cell's switching, and that cell goes to the monitor.  The
check runs in every path state but OFF. -/
def execDacDwellStart (d : Nat) (s : State) : Out :=
  let c := s.dac d
  if d < 128 ∧ c.check.isSome ∧ ¬ c.dwelling ∧ s.pathState (d / 2) ≠ .off then
    .next (s.setDac d { c with dwelling := true, dwellAt := s.clk.elapsed })
  else .next s

/-- DAC_DWELL_END (R143 to R145), in every path state but OFF: after 4 ms the cell's trim is set and it takes its switching back; a cell outside 3 %, or
whose switch does not follow, is replaced for good by the check spare, and the other spare becomes the check spare after
a dwell of its own.  The deviation is in 0.01 %. -/
def execDacDwellEnd (d trim : Nat) (dev : Int) (follows : Bool) (s : State) : Out :=
  let c := s.dac d
  if d < 128 ∧ c.dwelling ∧ s.pathState (d / 2) ≠ .off then
    let s1 := reachElapsed s (c.dwellAt + 4 * msTicks)
    .next (dwellEnd s1 d trim (decide (dev.natAbs ≤ 300) && follows))
  else .next s

/-! ## Observation receivers -/

/-- ORX_VISIT (R149 to R153): in FDD the receiver visits the path named for the samples named, at once or when the visit that
holds it ends. -/
def execOrxVisit (n : Nat) (s : State) : Out :=
  .next (fireEvent s n 10 (fun e => [2 * (e.target % 4)]) (fun e s =>
    if s.fdd ∧ e.target < 4 ∧ (e.arg % 64) / 16 = e.target then
      requestVisit s e.target (e.arg % 64) (bitsOf e.arg 23 8) false
    else s))

/-- ORX_VISIT_END (R152 to R154): the hold of 491 + ⌈n / 10⌉ ticks ends and the visit that waits starts. -/
def execOrxVisitEnd (r : Nat) (s : State) : Out :=
  if r < 4 then
    match (s.orx r).running with
    | some v =>
      let s1 := openDue (reachElapsed s (v.start + 491 + ceilDiv v.n 10)) r
      let o := s1.orx r
      let s2 := s1.setOrx r { o with running := none, waiting := none }
      match o.waiting with
      | some w => .next (startVisit s2 r w.path w.n w.bestEffort)
      | none => .next (askWaiting s2)
    | none => .next s
  else .next s

/-- BEST_EFFORT_VISIT (R80, R154, R159): with BE_EN, only while no visit runs or waits, and while no work of an earlier class waits: a visit is
adaptation work (DEDUCED, assumption 110).  A length outside R159's limits, or of more than the path's buffer holds, is no visit. -/
def execBestEffortVisit (r path n : Nat) (s : State) : Out :=
  let b := 2 * path + spGet 0 s.cvt.pairNext path
  if r < 4 ∧ s.fdd ∧ path / 16 = r ∧ path < 64 ∧ rbit s .orxCtrl [2 * r] 0 ∧ (s.orx r).running.isNone ∧ (s.orx r).waiting.isNone
      ∧ ¬ (s.orx r).failed ∧ ¬ earlierWork s 2
      ∧ n % 16 = 0 ∧ 16 ≤ n ∧ n ≤ 8192 ∧ captureBytes 0 true n ≤ 64 * bitsOf (rd s .capDesc [path / 8, b]) 57 40 then
    .next (startVisit s r path n true)
  else .next s

/-- ORX_FAILURE (R155): the receiver goes out of service, CONV_FAILED is raised and admission runs again under R82. -/
def execOrxFailure (r : Nat) (s : State) : Out :=
  if r < 4 ∧ ¬ (s.orx r).failed then .next (orxFails s r) else .next s

/-! ## Captures -/

/-- CAPTURE_OPEN (R157 to R163): on each path of the target a capture of the length named opens into the buffer named; for
all paths, the buffers 2p or 2p + 1 by the low bit of the index.  The buffer's SRC gives its source. -/
def execCaptureOpen (n : Nat) (s : State) : Out :=
  .next (fireEvent s n 4 (fun e => targetClusters e.target) (fun e s0 =>
    let s := openVisits s0
    (targetPaths e.target).foldl (fun s p =>
      if (s.island (p / 8)).off then s
      else
        let b := captureBuffer (e.target = 255) (bitsOf e.arg 23 16) p
        openCapture s p p b (e.arg % 2 ^ 16) (if bitOf (rd s .capDesc [p / 8, b]) 61 then 1 else 0)) s))

/-- CAPTURE_DRAIN_COMPLETE (R156, R160, R164): the capture has ended and its last byte drains, after those of every earlier capture of the
cluster; the samples lie in SRAM from the buffer's base, the buffer is FULL and its status record written.  The command brings the
samples taken, X as 16-bit values and Z as 12-bit codes, and whether one was overrange.  A job of the dispatcher that waits takes the capture, or asks for
another (R294). -/
def execCaptureDrainComplete (b : Nat) (xs zs : List Cplx) (ovr : Bool) (s : State) : Out :=
  let s := openVisits s
  if b < 256 ∧ (s.buf b).st = .filling ∧ ¬ olderCapture s b then
    .next (askWaiting (postWaiting (drainCapture (reachElapsed s (captureEnd (s.buf b))) b xs zs ovr)))
  else .next s

/-- CAPTURE_RELEASE (R162): PCc_CAP_REL with GO returns the buffer to FREE when the origin tag is its OWNER's or the device's;
any other release has no effect and is a firewall violation. -/
def execCaptureRelease (tag c value : Nat) (s : State) : Out :=
  if c < 8 then .next (capRelease s tag c value) else .next s

end Sys2Proof.Machine
end

