-- ==== Sys2Proof/Machine/CmdDictionary.lean ====
section
/-! DEFINITION. Dictionary, Diong, events, counters and the management interfaces (chapter 13). -/

namespace Sys2Proof.Machine

/-! ## Diong operations (R474 to R487, R490) -/

/-- READ (R481). -/
def execRead (d : DHdr) (index sub : Nat) (s : State) : Out :=
  .next (request s d 1 (beBytes 2 index ++ beBytes 1 sub ++ [0]) (opRead d.transport d.session index sub))

/-- WRITE (R481, R482).  An accepted lifecycle token is followed by the cold start of R572. -/
def execWrite (d : DHdr) (index sub type : Nat) (value : List Byte) (s : State) : Out :=
  .next (tokenStart s (request s d 2 (beBytes 2 index ++ beBytes 1 sub ++ beBytes 1 type ++ value) (opWrite d.transport d.session index sub type value)))

/-- READ_BLOCK (R481, R484). -/
def execReadBlock (d : DHdr) (index sub offset maxLen : Nat) (s : State) : Out :=
  .next (request s d 3 (beBytes 2 index ++ beBytes 1 sub ++ [0] ++ beBytes 4 offset ++ beBytes 2 maxLen)
    (opReadBlock d.transport d.session index sub offset maxLen))

/-- WRITE_BLOCK (R483). -/
def execWriteBlock (d : DHdr) (index sub type offset total : Nat) (data : List Byte) (s : State) : Out :=
  .next (tokenStart s (request s d 4 (beBytes 2 index ++ beBytes 1 sub ++ beBytes 1 type ++ beBytes 4 offset ++ beBytes 4 total ++ data)
    (opWriteBlock d index sub type offset total data)))

/-- STORE (R486); `nvOk` is whether the NV store took the writes. -/
def execStore (d : DHdr) (selector : Nat) (nvOk : Bool) (s : State) : Out :=
  .next (request s d 7 (beBytes 1 selector) (opStore selector nvOk))

/-- RESTORE (R486). -/
def execRestore (d : DHdr) (mode : Nat) (s : State) : Out := .next (request s d 8 (beBytes 1 mode) (opRestore mode))

/-- SUBSCRIBE (R487). -/
def execSubscribe (d : DHdr) (index sub mode period : Nat) (s : State) : Out :=
  .next (request s d 9 (beBytes 2 index ++ beBytes 1 sub ++ beBytes 1 mode ++ beBytes 2 period) (opSubscribe d index sub mode period))

/-- DIGEST (R490). -/
def execDigest (d : DHdr) (scope : Nat) (s : State) : Out := .next (request s d 10 (beBytes 1 scope) (opDigest scope))

/-- SESSION_TIMEOUT (R476): 300 s without a frame. -/
def execSessionTimeout (t : Transport) (key id : Nat) (s : State) : Out :=
  match s.session t key id with
  | some x => .next (closeSessions (reachElapsed s (x.lastFrame + 300 * secTicks)) (fun y => y.is t key id))
  | none => .next s

/-- BLOCK_TRANSFER_TIMEOUT (R483): 5 s without a segment. -/
def execBlockTransferTimeout (t : Transport) (key id : Nat) (s : State) : Out :=
  match (s.session t key id).bind (·.transfer) with
  | some x => .next (modSession (reachElapsed s (x.lastAt + 5 * secTicks)) t key id (fun y => { y with transfer := none }))
  | none => .next s

/-- SUBSCRIPTION_NOTIFY (R487). -/
def execSubscriptionNotify (t : Transport) (key id index sub : Nat) (s : State) : Out := .next (notifyDue s t key id index sub)

/-- RW_DIGEST_RECOMPUTE (R490): within 10 ms of the write. -/
def execRwDigestRecompute (s : State) : Out :=
  if s.diong.digestDue.isSome then .next (recomputeDigests s) else .next s

/-- REPLICA_REWRITE (R491): at the next slot boundary a cluster whose replica differed holds the committed image again; its coefficient memories
follow by a coefficient roll of that cluster alone. -/
def execReplicaRewrite (c : Nat) (s : State) : Out :=
  if c ∈ s.diong.mismatch then
    let s1 := toSlot s 0x49 c
    .next { s1 with diong := { s1.diong with mismatch := s1.diong.mismatch.filter (· ≠ c), rewritten := setIns c s1.diong.rewritten,
                                             crc := spPut 0 s1.diong.crc c (spGet 0 s1.diong.crc 8) },
                    rx := { s1.rx with rollOf := setIns c s1.rx.rollOf, rolling := true } }
  else .next s

/-! ## Events (R492 to R497) -/

/-- EVENT_FIRING_PRESENT (R492 to R497): the first waiting firing of a source. -/
def execEventFiringPresent (src : Nat) (s : State) : Out := .next (presentNext s src none)

/-- EVENT_CEASE (R496): a persisting condition has ended. -/
def execEventCease (src inst aux : Nat) (s : State) : Out := .next (condOff s src inst aux)

/-- STICKY_FLAG_CLEAR (R6, R494): a write of 1 to the flag of source `src` at destination `d`; `same` is whether a waiting firing
of the source reaches the flag in the same cycle. -/
def execStickyFlagClear (d src : Nat) (same : Bool) (s : State) : Out :=
  if d < 5 ∧ src < 256 then
    if same ∧ s.evt.waiting.any (fun f => f.src = src ∧ entitled s src f.inst d ∧ evtEnabled s src d ∧ evtSticky s src d) then
      .next (presentNext s src (some d))
    else .next (clearSticky s d (src / 32) (2 ^ (src % 32)))
  else .next s

/-! ## Counters (R499, R500) -/

/-- COUNTER_FOLD (R499, R500): every hardware copy is moved into its statistics counter. -/
def execCounterFold (s : State) : Out := .next (foldCopies.foldl foldOne (foldPaths s))

/-- STATISTICS_COUNTER_CLEAR (R500): an operator or service write of 0. -/
def execStatisticsCounterClear (role : Role) (index sub : Nat) (s : State) : Out :=
  match writeGate s role index sub ((objRow index sub).getD (sub0Row index)).ty.code (List.replicate ((objRow index sub).getD (sub0Row index)).ty.bytes 0) with
  | .inr _ => if isCounter index sub then .next (clearCounter s index sub) else .next s
  | .inl _ => .next s

/-! ## Management SPI (R503) -/

/-- WRITE_FRAME (R503): a frame whose bytes all came goes to a free request buffer. -/
def execWriteFrame (len : Nat) (frame : List Byte) (s : State) : Out :=
  if frame.length = len ∧ s.diong.spiIn.length < 2 then .next { s with diong := { s.diong with spiIn := s.diong.spiIn ++ [frame] } }
  else .next s

/-- READ_FRAME (R503): LEN and the oldest queued frame, or LEN 0. -/
def execReadFrame (s : State) : Out :=
  match s.diong.spiOut with
  | x :: t => .next (emit { s with diong := { s.diong with spiOut := t } } (.spi (beBytes 2 x.2.length ++ x.2)))
  | [] => .next (emit s (.spi (beBytes 2 0)))

/-- SPI_STATUS (R503). -/
def execSpiStatus (s : State) : Out :=
  let b := b2n (decide (s.diong.spiOut ≠ [])) + 2 * b2n (decide (s.diong.spiIn.length < 2)) + 4 * b2n s.diong.spiDropped
  .next (emit { s with diong := { s.diong with spiDropped := false } } (.spi (beBytes 1 b)))

/-! ## 10BASE-T1S (R502) -/

/-- ARP_REQUEST (R502): a request for the device's IPv4 address is answered with its MAC address. -/
def execArpRequest (senderMac senderIp targetIp : Nat) (s : State) : Out :=
  if t1sRuns s ∧ targetIp = ipv4 s then
    .next (emit s (.t1s (beBytes 6 senderMac ++ mac ++ beBytes 2 0x0806 ++
      beBytes 2 1 ++ beBytes 2 0x0800 ++ beBytes 1 6 ++ beBytes 1 4 ++ beBytes 2 2 ++
      mac ++ beBytes 4 (ipv4 s) ++ beBytes 6 senderMac ++ beBytes 4 senderIp)))
  else .next s
where
  /-- The MAC address. -/
  mac : List Byte := beBytes 6 Config.t1sMac

/-- ICMP_ECHO_REQUEST (R502): answered with an echo reply of the same identifier, sequence number and data; fragments are dropped.
The reply's IP identification and time to live are not given: free values. -/
def execIcmpEchoRequest (srcMac srcIp dstIp ident seq : Nat) (fragment : Bool) (data : List Byte) (s : State) : Out :=
  if t1sRuns s ∧ dstIp = ipv4 s ∧ ¬ fragment then
    let (id, s1) := draw s 65536
    let (ttl, s2) := draw s1 256
    let icmp (sum : Nat) : List Byte := [0, 0] ++ beBytes 2 sum ++ beBytes 2 ident ++ beBytes 2 seq ++ data
    let head (sum : Nat) : List Byte := [0x45, 0] ++ beBytes 2 (28 + data.length) ++ beBytes 2 id ++ beBytes 2 0 ++ beBytes 1 ttl ++ [1] ++
      beBytes 2 sum ++ beBytes 4 dstIp ++ beBytes 4 srcIp
    .next (emit s2 (.t1s (beBytes 6 srcMac ++ beBytes 6 Config.t1sMac ++ beBytes 2 0x0800 ++
      head (onesSum (head 0)) ++ icmp (onesSum (icmp 0)))))
  else .next s

end Sys2Proof.Machine
end

