-- ==== Sys2Proof/Machine/CmdDpd.lean ====
section
/-! DEFINITION. Array predistortion (chapter 8). -/

namespace Sys2Proof.Machine

/-- DPD_THERMAL_UPDATE (R274, R275, R295): at the next tick that is a multiple of 512, from the means of |x|² and |x| over the 512 ticks
before it. -/
def execDpdThermalUpdate (p : Nat) (_msq _mabs : Unit) (s : State) : Out :=
  if p < 64 ∧ ¬ s.dpdHeld p then
    let s1 := toBoundary s 94 p (fun t => ceilDiv t 512 * 512)
    let a := spGet AirPath.none_ s1.air.paths p
    .next (thermalUpdate s1 p (a.sqWas / 5120) (a.magWas * 2 ^ 14 / 5120))
  else .next s

/-- DPD_BANK_WRITE (R279, R288): performed for the device tag, or debug at D2 or above, into a bank that is the shadow and not locked, of a unit
that is not held; any other write is counted and reported. -/
def execDpdBankWrite (tag addr value : Nat) (s : State) : Out :=
  match bankAddr addr with
  | some (p, b, i) =>
    if (s.island (p / 8)).off then .next (emit s (.bus 1 []))
    else if s.tagDeviceOrD2 tag ∧ (s.dpd p).writable b s.clk.elapsed ∧ ¬ s.dpdHeld p then .next (s.setDpd p ((s.dpd p).setWord b i value))
    else .next (bankReject s p tag)
  | none => .next s

/-- DPD_HO_REQUEST (R280, R288, R297): PCc_Lk_DPD_HO.GO locks the shadow and starts its check, or is refused BUSY. -/
def execDpdHoRequest (tag p value : Nat) (s : State) : Out :=
  if p < 64 then
    .next (tagged s .dpdHo [p / 8, p % 8] tag (fun s => if bitOf value 0 then requestHo s p else s))
  else .next s

/-- DPD_HO_CHECK_DONE (R280, R281, R285): within 3,200 cycles the shadow set is accepted into RAMP, or refused with BOUND or
GAIN. -/
def execDpdHoCheckDone (p : Nat) (s : State) : Out :=
  if p < 64 ∧ (s.dpd p).checking.isSome ∧ ¬ s.dpdHeld p then .next (hoCheckDone s p) else .next s

/-- DPD_RAMP_STEP (R281, R283, R287): at the path's next TX symbol start that is not blanked the ramp, or the backoff's ramp,
takes a step; the last leads to probation. -/
def execDpdRampStep (p : Nat) (s : State) : Out :=
  let x := s.dpd p
  if p < 64 ∧ (x.st = .ramp ∨ x.st = .backoffRamp) ∧ x.due = .none_ ∧ s.tlRuns ∧ s.pathState p ≠ .off ∧ ¬ (s.pathFe p).blanked then
    let s1 := toBoundary s 99 p (nextTxStart s)
    let n := x.rampStep + 1
    if x.st = .ramp then
      .next (s1.setDpd p { x with rampStep := n, st := if x.rampLen ≤ n then .probation else .ramp, probAt := s1.now })
    else
      .next (s1.setDpd p { x with backoffStep := x.backoffStep + 1,
                                  st := if x.rampLen ≤ x.backoffStep + 1 then .probation else .backoffRamp,
                                  second := true, backoff := ¬ x.rampLen ≤ x.backoffStep + 1, probSum := 0, probN := 0, overN := 0,
                                  probAt := s1.now })
  else .next s

/-- DPD_DIVERGENCE_WINDOW (R284, R285, R292): a window that counts, from its observation samples `z`, the last taken `age` ticks ago. -/
def execDpdDivergenceWindow (p : Nat) (z : List Cplx) (age : Nat) (s : State) : Out :=
  if p < 64 ∧ windowCounts s p age ∧ (p / 8, p % 8) ∉ s.svc.faulty ∧ ¬ s.dpdHeld p then .next (countWindow s p (windowError s p z age))
  else .next s

/-- DPD_PROBATION_END (R282, R283, R287): PROB TX symbol starts without divergence.  The first probation with backoff on leads
to the backoff's ramp; otherwise GOOD, with DPD_SET_GOOD, and after a second probation DPD_BACKOFF_CLEARED. -/
def execDpdProbationEnd (p : Nat) (s : State) : Out :=
  let x := s.dpd p
  match (if p < 64 ∧ x.st = .probation ∧ x.due = .none_ ∧ s.tlRuns ∧ ¬ s.dpdHeld p
         then nthTxStart s p (rf s .dpdCtrl [p / 8, p % 8] 18 11) x.probAt else none) with
  | some t =>
    let s1 := reachCount s t
    if x.backoff ∧ ¬ x.second then
      .next (s1.setDpd p { x with st := .backoffRamp, backoffStep := 0, rampLen := rf s1 .dpdCtrl [p / 8, p % 8] 10 3 })
    else
      let s2 := s1.setDpd p { x with st := .good, locked := false, eref := if x.probN = 0 then x.eref else x.probSum / x.probN,
                                     second := false, backoff := false, overN := 0 }
      let s3 := if scaleOff (x.scale x.bank) (cfrLevels s2 p).2 then s2 else setStale s2 p 2 false
      let s4 := raise (setStale s3 p 4 false) 77 NA p
      .next (if x.second then raise s4 80 NA p else s4)
  | none => .next s

/-- DPD_FALLBACK (R286): at the next symbol boundary after divergence in ramp or probation the fall-back set returns, the new
bank unlocks and is marked DIVERGED. -/
def execDpdFallback (p : Nat) (s : State) : Out :=
  let x := s.dpd p
  if p < 64 ∧ x.due = .fallback ∧ ¬ s.dpdHeld p then
    let s1 := toSymbol s 102 p
    let s2 := s1.setDpd p { x with st := .fallback, bank := 1 - x.bank, ident := x.oldIdent, locked := false, result := 5,
                                   due := .none_, wins := 0, overN := 0, rampStep := 0 }
    .next (raise (statPath s2 p 0x39) 78 NA p)
  else .next s

/-- DPD_IDENTITY (R287, R292, R295): at the next symbol boundary identity and the backoff come into force, both banks unlock, and
the path is stale and pending. -/
def execDpdIdentity (p : Nat) (s : State) : Out :=
  let x := s.dpd p
  if p < 64 ∧ x.due = .identity ∧ ¬ s.dpdHeld p then
    let s1 := toSymbol s 103 p
    let s2 := s1.setDpd p { x with st := .identity, ident := true, backoff := true, backoffStep := 0, second := false,
                                   locked := false, checking := none, due := .none_, overN := 0, rampStep := 0 }
    .next (staleAndPending (raise (statPath s2 p 0x3A) 79 NA p) p 1)
  else .next s

/-- DPD_FALLBACK_CHECK_END (R283, R286, R292, R295): DIV_COUNT windows of the fall-back set without divergence; in IDENTITY the path is stale and
pending. -/
def execDpdFallbackCheckEnd (p : Nat) (s : State) : Out :=
  let x := s.dpd p
  if p < 64 ∧ x.st = .fallback ∧ x.due = .none_ ∧ rf s .dpdLim [p / 8, p % 8] 26 24 ≤ x.wins ∧ ¬ s.dpdHeld p then
    let s1 := s.setDpd p { x with st := if x.ident then .identity else .good, wins := 0 }
    .next (if x.ident then staleAndPending s1 p 1 else s1)
  else .next s

/-- DPD_REQ (R292, R297): firmware's request bits make paths pending. -/
def execDpdReq (tag bits : Nat) (s : State) : Out :=
  .next (tagged s .dpdReq [] tag (fun s => dpdRequests s bits))

/-- DPD_JOB_START (R80, R293, R294, R26): while DISP_EN is 1, firmware runs, no calibration work waits and fewer than MAX_JOBS jobs run, the hottest pending path
not yet served in the round; when none is left unserved the next round begins.  The path leaves the pending set; its job is posted, or a capture is
requested when none serves (R326). -/
def execDpdJobStart (s : State) : Out :=
  let max_ := max 1 (rf s .dpdDispCtrl [] 4 1)
  if rbit s .dpdDispCtrl [] 0 ∧ s.ctl.fwRuns ∧ s.disp.jobs.length < max_ ∧ s.disp.pending ≠ [] ∧ ¬ earlierWork s 2 then
    let s0 := if (hottest s).isNone then { s with disp := { s.disp with served := [], round := ¬ s.disp.round } } else s
    match hottest s0 with
    | some p =>
      let req := spGet 0 s0.disp.pending p - 1
      let cap := jobCapture s0 p req
      let s1 := setStale { s0 with disp := { s0.disp with
                                             -- asked for again in this tick, the path stays pending (R7)
                                             pending := spPut 0 s0.disp.pending p
                                               (if s0.askedAgain .dpdReq [] p then s0.clk.elapsed + 1 else 0),
                                             served := setIns p s0.disp.served, last := p,
                                             jobs := s0.disp.jobs ++ [⟨p, s.clk.elapsed, cap⟩] } } p 0 false
      let s2 := endRound (takeAgain s1 .dpdReq [] p)
      .next (if cap.isNone then jobRequestCapture s2 p else dispatchPost s2 p)
    | none => .next s0
  else .next s

/-- DPD_MIN_RATE_VISIT (R291): in FDD one of the path's R_MIN visits of 8,192 samples per second, ranking as a timeline
visit. -/
def execDpdMinRateVisit (p : Nat) (s : State) : Out :=
  if p < 64 ∧ s.fdd ∧ s.ctl.fwRuns ∧ 0 < s.onum (0x6100 + p) 7 then
    let s1 := toBoundary s 358 p (fun t => let d := secTicks / s.onum (0x6100 + p) 7; ceilDiv t d * d)
    .next (requestVisit s1 (p / 16) p 8192 true)
  else .next s

/-- DPD_STALE_AGE_EXPIRY (R295): a pending path's request grows older than STALE_AGE. -/
def execDpdStaleAgeExpiry (p : Nat) (s : State) : Out :=
  let t := spGet 0 s.disp.pending p
  if p < 64 ∧ 0 < t then
    let s1 := reachElapsed s (t - 1 + rf s .dpdDispCtrl [] 24 5 * msTicks + 1)
    .next (setStale s1 p 0 true)
  else .next s

end Sys2Proof.Machine
end

