-- ==== Sys2Proof/Machine/CmdGe.lean ====
section
/-! DEFINITION. The Gulas engines (chapter 9).  The bundles an engine issues come as commands, one slot operation each; an
operation that cannot stand in the bundle begun starts the next. -/

namespace Sys2Proof.Machine

/-! ## Compute slot -/

/-- NOP (R300, R306): the slot does nothing. -/
def execNop (g : GeC) (s : State) : Out := .next (slotOp s g.e 0 g.last g.ecc (fun x => .inr x))

/-- ADD (R311). -/
def execAdd (g : GeC) (s : State) : Out := .next (geBin g 1 cadd s)

/-- SUB (R311). -/
def execSub (g : GeC) (s : State) : Out := .next (geBin g 1 csub s)

/-- ADDH (R310, R311). -/
def execAddh (g : GeC) (s : State) : Out := .next (geBin g 1 (fun a b => cshr (cadd a b) 1) s)

/-- SUBH (R310, R311). -/
def execSubh (g : GeC) (s : State) : Out := .next (geBin g 1 (fun a b => cshr (csub a b) 1) s)

/-- NEG (R311). -/
def execNeg (g : GeC) (s : State) : Out := .next (geBin g 1 (fun a _ => ⟨-a.re, -a.im⟩) s)

/-- CONJ (R311). -/
def execConj (g : GeC) (s : State) : Out := .next (geBin g 1 (fun a _ => cconj a) s)

/-- SWAP. -/
def execSwap (g : GeC) (s : State) : Out := .next (geBin g 1 (fun a _ => ⟨a.im, a.re⟩) s)

/-- SHL (R311): the parts shifted left by n = 0 to 15. -/
def execShl (g : GeC) (s : State) : Out :=
  .next (geBin g 1 (fun a _ => ⟨a.re * 2 ^ (g.sb % 16), a.im * 2 ^ (g.sb % 16)⟩) s)

/-- SHR (R310): the parts shifted right by n, arithmetic. -/
def execShr (g : GeC) (s : State) : Out := .next (geBin g 1 (fun a _ => cshr a (g.sb % 32)) s)

/-- MOV (R306). -/
def execMov (g : GeC) (s : State) : Out := .next (geBin g 1 (fun a _ => a) s)

/-- CMUL (R310, R312): the second operand conjugated under CJ. -/
def execCmul (g : GeC) (s : State) : Out := .next (geBin g 2 (fun a b => cmul15 a (cjOf g.cj b)) s)

/-- MAG2 (R310): (I² + Q²) >> 15, unsigned. -/
def execMag2 (g : GeC) (s : State) : Out :=
  .next (slotOp s g.e 0 g.last g.ecc (fun x =>
    let a := cOf (x.dr g.sa)
    .inr (x.send 2 (g.dst % 32) (.num ((a.re * a.re + a.im * a.im).toNat / 2 ^ 15)))))

/-- IADD (R311). -/
def execIadd (g : GeC) (s : State) : Out := .next (geInt g (fun a b => a + b) s)

/-- ISUB (R311). -/
def execIsub (g : GeC) (s : State) : Out := .next (geInt g (fun a b => a + 2 ^ 32 - b) s)

/-- AND (R311). -/
def execAndOp (g : GeC) (s : State) : Out := .next (geInt g Nat.land s)

/-- OR (R311). -/
def execOrOp (g : GeC) (s : State) : Out := .next (geInt g Nat.lor s)

/-- XOR (R311). -/
def execXorOp (g : GeC) (s : State) : Out := .next (geInt g Nat.xor s)

/-- ISHL (R311): a 32-bit shift by 0 to 31. -/
def execIshl (g : GeC) (s : State) : Out := .next (geInt g (fun a _ => a * 2 ^ (g.sb % 32)) s)

/-- ISHR (R310): an arithmetic 32-bit shift by 0 to 31. -/
def execIshr (g : GeC) (s : State) : Out :=
  .next (geInt g (fun a _ => ofSigned 32 (toSigned 32 a / 2 ^ (g.sb % 32))) s)

/-- ICMP (R298): Z and N from a - b as signed 32-bit values. -/
def execIcmp (g : GeC) (s : State) : Out :=
  .next (slotOp s g.e 0 g.last g.ecc (fun x =>
    let d := toSigned 32 (x.dr g.sa) - toSigned 32 (x.dr g.sb)
    .inr (x.send 1 94 (.sw 1 0 (b2n (decide (d = 0)) + 2 * b2n (decide (d < 0)))))))

/-- CLRA (R308). -/
def execClra (g : GeC) (s : State) : Out :=
  .next (slotOp s g.e 0 g.last g.ecc (fun x =>
    .inr ((List.range 4).foldl (fun x k => x.send 1 (32 + k) (.acc ⟨0, 0⟩) true) x)))

/-- CMAC4 (R301, R308, R312): four MACs of paired registers. -/
def execCmac4 (g : GeC) (s : State) : Out :=
  .next (slotOp s g.e 0 g.last g.ecc (fun x =>
    if g.sa % 4 ≠ 0 ∨ g.sb % 4 ≠ 0 then .inl 0x81
    else .inr ((List.range 4).foldl (fun y j =>
      y.sendA 2 j (ngAdd g.ng (x.macAcc j) (cmul (cOf (x.dr (g.sa + j))) (cjOf g.cj (cOf (x.dr (g.sb + j)))))) true) x)))

/-- CMACB (R301, R308, R312): four MACs of one register by four. -/
def execCmacb (g : GeC) (s : State) : Out :=
  .next (slotOp s g.e 0 g.last g.ecc (fun x =>
    if g.sb % 4 ≠ 0 then .inl 0x81
    else .inr ((List.range 4).foldl (fun y j =>
      y.sendA 2 j (ngAdd g.ng (x.macAcc j) (cmul (cOf (x.dr g.sa)) (cjOf g.cj (cOf (x.dr (g.sb + j)))))) true) x)))

/-- CDOT (R301, R308, R312): a dot product of four terms into one accumulator. -/
def execCdot (g : GeC) (s : State) : Out :=
  .next (slotOp s g.e 0 g.last g.ecc (fun x =>
    if g.sa % 4 ≠ 0 ∨ g.sb % 4 ≠ 0 then .inl 0x81
    else
      let sum := (List.range 4).foldl (fun c j => cadd c (cmul (cOf (x.dr (g.sa + j))) (cjOf g.cj (cOf (x.dr (g.sb + j)))))) ⟨0, 0⟩
      .inr (x.sendA 2 g.dst (ngAdd g.ng (x.macAcc g.dst) sum) true)))

/-- ACCA (R311). -/
def execAcca (g : GeC) (s : State) : Out :=
  .next (slotOp s g.e 0 g.last g.ecc (fun x => .inr (x.sendA 2 g.dst (cadd (x.ac g.dst) (x.ac g.sa)) false)))

/-- ASHR (R310). -/
def execAshr (g : GeC) (s : State) : Out :=
  .next (slotOp s g.e 0 g.last g.ecc (fun x => .inr (x.sendA 2 g.dst (cshr (x.ac g.dst) (g.sb % 32)) false)))

/-- MOVA (R311). -/
def execMova (g : GeC) (s : State) : Out :=
  .next (slotOp s g.e 0 g.last g.ecc (fun x =>
    let a := cOf (x.dr g.sa)
    .inr (x.sendA 2 g.dst ⟨a.re * 2 ^ 15, a.im * 2 ^ 15⟩ false)))

/-- EXTR (R310, R311). -/
def execExtr (g : GeC) (s : State) : Out :=
  .next (slotOp s g.e 0 g.last g.ecc (fun x => .inr (x.sendC 2 g.dst (cshr (x.ac g.sa) (g.sb % 32)))))

/-- SAT (R310, R311). -/
def execSat (g : GeC) (s : State) : Out :=
  .next (slotOp s g.e 0 g.last g.ecc (fun x =>
    let v := cshr (x.ac g.sa) (g.sb % 32)
    let c : Cplx := ⟨clampI (-32768) 32767 v.re, clampI (-32768) 32767 v.im⟩
    .inr ((x.send 2 (g.dst % 32) (.num (wordOf c))).flag 2 (if c = v then 0 else 32))))

/-- A part shifted by a signed count, then right 15 (R310, R313). -/
def normPart (n : Int) (v : Int) : Int :=
  if 0 ≤ n then v * 2 ^ n.toNat / 2 ^ 15 else v / 2 ^ (-n).toNat / 2 ^ 15

/-- NORM (R313). -/
def execNorm (g : GeC) (s : State) : Out :=
  .next (slotOp s g.e 0 g.last g.ecc (fun x =>
    let n := toSigned 6 (x.dr g.sb)
    let v := x.ac g.sa
    .inr (x.sendC 2 g.dst ⟨normPart n v.re, normPart n v.im⟩)))

/-- EXPA (R313). -/
def execExpa (g : GeC) (s : State) : Out :=
  .next (slotOp s g.e 0 g.last g.ecc (fun x => .inr (x.send 2 (g.dst % 32) (.num (ofSigned 32 (expAcc (x.ac g.sa)))))))

/-- EXP (R313). -/
def execExp (g : GeC) (s : State) : Out :=
  .next (slotOp s g.e 0 g.last g.ecc (fun x => .inr (x.send 1 (g.dst % 32) (.num (expWord (x.dr g.sa))))))

/-- BEXP (R315): Dd takes BX.HR, and BX.HR becomes 15. -/
def execBexp (g : GeC) (s : State) : Out :=
  .next (slotOp s g.e 0 g.last g.ecc (fun x =>
    let y := x.send 1 (g.dst % 32) (.num (bitsOf x.bx 3 0))
    .inr { y with flight := y.flight ++ [⟨x.issue + 1, 95, .hr15, false, x.issue⟩] }))

/-- BXADD (R298): BX.BE takes the sum with Da[15:0]. -/
def execBxadd (g : GeC) (s : State) : Out :=
  .next (slotOp s g.e 0 g.last g.ecc (fun x =>
    .inr { x with flight := x.flight ++ [⟨x.issue + 1, 95, .be (x.dr g.sa % 2 ^ 16), false, x.issue⟩] }))

/-- SETBS (R314). -/
def execSetbs (g : GeC) (s : State) : Out :=
  .next (slotOp s g.e 0 g.last g.ecc (fun x =>
    .inr (x.send 1 94 (.sw 8 7 (g.sb % 4)))))

/-- BFLY (R301, R310, R311, R314): a radix-2 butterfly. -/
def execBfly (g : GeC) (s : State) : Out :=
  .next (slotOp s g.e 0 g.last g.ecc (fun x =>
    if g.dst % 2 = 1 ∨ g.sa % 2 = 1 then .inl 0x81
    else
      let a := cOf (x.dr g.sa)
      let t := cmul15 (cOf (x.dr (g.sa + 1))) (cjOf g.cj (cOf (x.dr g.sb)))
      let bs := bitsOf x.sw 8 7
      .inr ((x.sendC 2 g.dst (cshr (cadd a t) bs)).sendC 2 (g.dst + 1) (cshr (csub a t) bs))))

/-- MFR (R298): a register by its code, zero-extended. -/
def execMfr (g : GeC) (s : State) : Out :=
  .next (slotOp s g.e 0 g.last g.ecc (fun x => .inr (x.send 1 (g.dst % 32) (.num (x.cr (g.sa % 32))))))

/-- MTR (R298, R301): a register by its code takes Da, truncated to its width. -/
def execMtr (g : GeC) (s : State) : Out :=
  .next (slotOp s g.e 0 g.last g.ecc (fun x =>
    let c := g.dst % 32
    let y := x.send 1 (64 + c) (.num (x.dr g.sa % 2 ^ codeBits c))
    -- a loop end beyond the kernel's code (R299)
    if (c = 28 ∨ c = 29) ∧ x.codeSize ≤ x.dr g.sa % 2 ^ codeBits c then .inl 0x82
    else .inr (if c < 24 then { y with bundle := { y.bundle with ptrs := y.bundle.ptrs ++ [c] } } else y)))

/-! ## Memory slots -/

/-- LD.W (R302, R303). -/
def execLdW (g : GeM) (s : State) : Out :=
  .next (geMem g 4 false s (fun x a => x.send 2 (g.reg % 32) (.num (x.load a 4))))

/-- ST.W (R302 to R304, R315). -/
def execStW (g : GeM) (s : State) : Out :=
  .next (geMem g 4 false s (fun x a => x.queueStore g.y a [x.dr g.reg]))

/-- LD.D (R301 to R303): the lower word to D(REG). -/
def execLdD (g : GeM) (s : State) : Out :=
  .next (geMem g 8 true s (fun x a =>
    (x.send 2 (g.reg % 32) (.num (x.load a 4))).send 2 ((g.reg + 1) % 32) (.num (x.load (a + 4) 4))))

/-- ST.D (R301 to R304, R315). -/
def execStD (g : GeM) (s : State) : Out :=
  .next (geMem g 8 true s (fun x a => x.queueStore g.y a [x.dr g.reg, x.dr (g.reg + 1)]))

/-- LD.H (R302, R303): two bytes sign-extended to I; Q is 0. -/
def execLdH (g : GeM) (s : State) : Out :=
  .next (geMem g 2 false s (fun x a => x.send 2 (g.reg % 32) (.num (x.load a 2))))

/-! ## Address slot -/

/-- ADDI (R302). -/
def execAddi (g : GeA) (s : State) : Out := .next (geAdr g s (g.t % 8) true (fun x => x.cr (g.t % 8) + imm5 g.v))

/-- ADDM (R302). -/
def execAddm (g : GeA) (s : State) : Out :=
  .next (geAdr g s (g.t % 8) true (fun x => x.cr (g.t % 8) + x.cr (8 + g.v % 8)))

/-- MOVP. -/
def execMovp (g : GeA) (s : State) : Out := .next (geAdr g s (g.t % 8) true (fun x => x.dr g.v % 2 ^ 18))

/-- MOVM. -/
def execMovm (g : GeA) (s : State) : Out := .next (geAdr g s (8 + g.t % 8) true (fun x => x.dr g.v % 2 ^ 18))

/-- MOVB: t = 4 to 7 is ILLEGAL. -/
def execMovb (g : GeA) (s : State) : Out :=
  .next (geAdr g s (16 + g.t % 4) (decide (g.t % 8 < 4)) (fun x => x.dr g.v % 2 ^ 18))

/-- MOVL: t = 4 to 7 is ILLEGAL. -/
def execMovl (g : GeA) (s : State) : Out :=
  .next (geAdr g s (20 + g.t % 4) (decide (g.t % 8 < 4)) (fun x => x.dr g.v % 2 ^ 18))

/-- SETM. -/
def execSetm (g : GeA) (s : State) : Out := .next (geAdr g s (8 + g.t % 8) true (fun _ => imm5 g.v))

/-! ## Control -/

/-- NOPC (R300). -/
def execNopc (g : GeK) (s : State) : Out := .next (geJump g s (fun _ => false))

/-- JMP (R299, R307). -/
def execJmp (g : GeK) (s : State) : Out := .next (geJump g s (fun _ => true))

/-- JZ (R307). -/
def execJz (g : GeK) (s : State) : Out := .next (geJump g s (fun x => bitOf x.sw 0))

/-- JNZ (R307). -/
def execJnz (g : GeK) (s : State) : Out := .next (geJump g s (fun x => ¬ bitOf x.sw 0))

/-- JN (R307). -/
def execJn (g : GeK) (s : State) : Out := .next (geJump g s (fun x => bitOf x.sw 1))

/-- JNN (R307). -/
def execJnn (g : GeK) (s : State) : Out := .next (geJump g s (fun x => ¬ bitOf x.sw 1))

/-- CALL (R307, R332): with 4 entries on the return stack, fault RSTACK. -/
def execCall (g : GeK) (s : State) : Out :=
  .next (slotOp s g.e 4 g.last g.ecc (fun x =>
    if 4 ≤ x.rstack.length then .inl 0x84
    else .inr { x with rstack := (x.pc + 1) % 2 ^ 13 :: x.rstack, bundle := { x.bundle with target := some (g.imm % 2 ^ 13) } }))

/-- RET (R307, R332): with an empty stack, fault RSTACK. -/
def execRet (g : GeK) (s : State) : Out :=
  .next (slotOp s g.e 4 g.last g.ecc (fun x =>
    match x.rstack with
    | [] => .inl 0x84
    | a :: t => .inr { x with rstack := t, bundle := { x.bundle with target := some a } }))

/-- LOOP0 (R316). -/
def execLoop0 (g : GeK) (s : State) : Out := .next (geLoop g s 0 (fun _ => g.imm))

/-- LOOP1 (R316). -/
def execLoop1 (g : GeK) (s : State) : Out := .next (geLoop g s 1 (fun _ => g.imm))

/-- LOOPR0 (R316). -/
def execLoopr0 (g : GeK) (s : State) : Out := .next (geLoop g s 0 (fun x => x.dr g.imm))

/-- LOOPR1 (R316). -/
def execLoopr1 (g : GeK) (s : State) : Out := .next (geLoop g s 1 (fun x => x.dr g.imm))

/-- SW.IE is set or cleared. -/
def setIe (x : Eng) (v : Bool) : Eng := x.send 1 94 (.sw 2 2 (b2n v))

/-- EI (R318). -/
def execEi (g : GeK) (s : State) : Out := .next (slotOp s g.e 4 g.last g.ecc (fun x => .inr (setIe x true)))

/-- DI (R318). -/
def execDi (g : GeK) (s : State) : Out := .next (slotOp s g.e 4 g.last g.ecc (fun x => .inr (setIe x false)))

/-- RETI (R307, R320). -/
def execReti (g : GeK) (s : State) : Out :=
  .next (slotOp s g.e 4 g.last g.ecc (fun x =>
    let y := setIe x true
    .inr { y with inPreempt := false, bundle := { y.bundle with target := some x.ira } }))

/-- A descriptor in data memory (R323), reserved bits ignored (R9); none where its alignment or length breaks R323. -/
def xferAt (x : Eng) (a : Nat) : Option GeXfer :=
  let w := x.load a 8
  let la := x.load (a + 8) 4 % 2 ^ 18
  let ln := x.load (a + 12) 4 % 2 ^ 19
  if la % 8 = 0 ∧ w % 8 = 0 ∧ ln % 8 = 0 ∧ 8 ≤ ln ∧ ln ≤ 262144 then
    some ⟨w % 2 ^ 40, bitOf w 40, bitOf w 41, la, ln, false⟩
  else none

/-- XFER (R323, R324): a descriptor is read and queued; an XFER to a full queue stalls: nothing issues.  A descriptor whose
fields break R323 ends the job with fault FABRIC. -/
def execXfer (g : GeK) (s : State) : Out :=
  let q := bitsOf g.imm 21 20
  if 4 ≤ (spGet [] (s.eng g.e).xq q).length then .next (stallBundle s g.e)
  else .next (slotOp s g.e 4 g.last g.ecc (fun x =>
    match xferAt x (g.imm % 2 ^ 18) with
    | some d => .inr { x with xq := spMod [] x.xq q (fun l => l ++ [d]) }
    | none => .inl 0x83))

/-- XWAIT (R319): nothing issues until every queue named is empty. -/
def execXwait (g : GeK) (s : State) : Out :=
  if (List.range 4).any (fun q => bitOf g.imm q && decide (spGet [] (s.eng g.e).xq q ≠ [])) then .next (stallBundle s g.e)
  else .next (slotOp s g.e 4 g.last g.ecc (fun x => .inr x))

/-- DONE (R317, R330): the job ends with a result code and its completion record. -/
def execDone (g : GeK) (s : State) : Out :=
  .next (slotOp s g.e 4 true g.ecc (fun x => .inr { x with bundle := { x.bundle with fin := some (g.imm % 128) } }))

/-- YIELD (R329): the engine goes to the class-0 job; in a class-0 job, or outside a PREEMPT handler, fault YIELD_BAD. -/
def execYield (g : GeK) (s : State) : Out :=
  .next (slotOp s g.e 4 true g.ecc (fun x => .inr { x with bundle := { x.bundle with yieldTo := some (g.imm % 2 ^ 13) } }))

/-- LDI (R300): a 32-bit immediate, latency 1. -/
def execLdi (g : GeK) (reg : Nat) (s : State) : Out :=
  .next (slotOp s g.e 4 g.last g.ecc (fun x => .inr (x.send 1 (reg % 32) (.num (g.imm % 2 ^ 32)))))

/-! ## Transfers and interrupts -/

/-- TRANSFER_COMPLETE (R323, R324): the oldest descriptor of a queue completes, raising XF if it asks; a response other than OK
ends the job with fault FABRIC. -/
def execTransferComplete (e q : Nat) (s : State) : Out :=
  if e < 18 ∧ q < 4 then
    match spGet [] (s.eng e).xq q with
    | [] => .next s
    | d :: t =>
      let pop (s : State) : State := s.setEng e { s.eng e with xq := spPut [] (s.eng e).xq q t }
      if d.out then
        let (st, s1) := fabWrite s (.engine e) 4 d.faddr ((List.range d.len).map (fun i => spGet 0 (s.eng e).dmem ((d.laddr + i) % 2 ^ 18)))
        .next (finish (pop s1) e st d)
      else
        let (st, data, s1) := fabRead s (.engine e) 4 d.faddr d.len
        let s2 := pop s1
        .next (finish (if st = 0 then s2.setEng e ((s2.eng e).store d.laddr data) else s2) e st d)
  else .next s
where
  /-- The end of a transfer on its engine. -/
  finish (s : State) (e st : Nat) (d : GeXfer) : State :=
    if (s.eng e).job.isNone ∨ d.orphan then s
    else if st ≠ 0 then endJob s e 0x83
    else if d.irq then s.setEng e { s.eng e with irq := setBits (s.eng e).irq 1 1 1 }
    else s

/-- INTERRUPT_ACCEPT (R317 to R319): at a bundle boundary, while SW.IE = 1, the lowest pending source whose IM bit is 1 is
accepted, except just before the last bundle of a running loop.  The pipeline drains, IRA takes the next address, IE clears,
and the handler issues.  A bundle whose XFER or XWAIT waits is abandoned, and issues again after RETI. -/
def execInterruptAccept (e : Nat) (s : State) : Out :=
  if e < 18 ∧ (s.eng e).st = .running then
    let s1 := if (s.eng e).bundle.waiting then s.setEng e (s.eng e).abandon
      else if (s.eng e).bundle.slots = [] then s else endBundle s e
    -- a wait is abandoned by an acceptance alone (R319)
    let kept := if (s.eng e).bundle.waiting then s else s1
    let x := s1.eng e
    let loopEnd := (List.range 2).any (fun n => decide (x.cr (24 + n) ≠ 0) && decide (x.cr (28 + n) = x.pc))
    if x.st = .running ∧ bitOf x.sw 2 ∧ ¬ loopEnd then
      match (List.range 3).find? (fun i => bitOf x.irq i && bitOf x.sw (9 + i)), x.job with
      | some src, some j =>
        let y := x.drain
        let k := x.kernel j.slot
        let h := match k, src with
          | some k, 0 => k.hPreempt
          | some k, 1 => k.hXf
          | some k, _ => k.hDb
          | none, _ => 0
        -- a doorbell rung again in this tick stays pending (R7)
        let again := decide (src = 2) && s1.askedAgain .geDoorbell [e] 0
        let s0 := if again then takeAgain s1 .geDoorbell [e] 0 else s1
        let s2 := s0.setEng e ({ y with ira := x.pc, pc := h % 2 ^ 13, irq := setBits y.irq src src (b2n again),
                                        inPreempt := decide (src = 0) }.setCr 30 (setBits y.sw 2 2 0))
        .next (if x.codeSize ≤ h then endJob s2 e 0x82 else s2)
      | _, _ => .next kept
    else .next kept
  else .next s

/-- GE_DOORBELL (R317, R337): RING requests DOORBELL, for the device tag, or debug at D2 or above. -/
def execGeDoorbell (tag e value : Nat) (s : State) : Out :=
  if e < 18 then
    .next (tagged s .geDoorbell [e] tag (fun s => if bitOf value 0 then ringDoorbell s e else s))
  else .next s

/-! ## Jobs -/

/-- GE_POST (R326): one atomic 16-byte write posts a job, or is refused. -/
def execGePost (tag e value : Nat) (s : State) : Out :=
  if e < 18 then
    .next (if s.regOff .gePost [e] then emit s (.bus 1 []) else
      postJob s e ⟨bitsOf value 3 0, bitsOf value 6 4, bitsOf value 23 8, bitsOf value 63 32, bitsOf value 127 64, .firmware, 0, s.clk.elapsed⟩ tag)
  else .next s

/-- The first tick at or after `t` at which a release entry fires (R327). -/
def nextRelease (r : Release) (t : Nat) : Nat :=
  if r.period = 0 then t else t + (r.phase + r.period - t % r.period) % r.period

/-- RELEASE_ENTRY_FIRE (R327): at its tick a release entry releases a class-0 job with deadline t + PERIOD and its argument; the
manual gives the job no ID.  A release that falls during a takeover waits for the spare (R607). -/
def execReleaseEntryFire (e r : Nat) (s : State) : Out :=
  if e < 18 ∧ r < 8 then
    match (s.eng e).rels[r]? with
    | some rel =>
      let taken := s.svc.takeover.any (fun t => decide (t.1 = e))
      if rel.period = 0 ∨ ¬ s.ctl.fwRuns ∨ (¬ s.engInService e ∧ ¬ taken) then .next s
      else
        let s1 := toBoundary s (182 * 64 + r) e (nextRelease rel)
        let (id, s2) := draw s1 (2 ^ 16)
        let j : Job := ⟨rel.slot, 0, id, rel.arg, s2.now + rel.period, .release, 0, s2.clk.elapsed⟩
        let s3 := s2.setEng e { s2.eng e with ready := (s2.eng e).ready ++ [j] }
        .next (if taken then s3 else preemptIf s3 e)
    | none => .next s
  else .next s

/-- JOB_START (R328, R329): an idle engine starts its next job. -/
def execJobStart (e : Nat) (s : State) : Out := if e < 18 then .next (startNext s e) else .next s

/-- The running job's cycle count reaches a value, and the job ends with a fault. -/
def endAtCycles (s : State) (e n code : Nat) : State :=
  let x := s.eng e
  match x.job with
  | some j =>
    let d := n - j.cycles
    endJob (s.setEng e { x with cyc := x.cyc + d, job := some { j with cycles := j.cycles + d } }) e code
  | none => s

/-- PREEMPT_LATE (R329): 2,048 cycles after PREEMPT without YIELD the job ends with fault PREEMPT_LATE. -/
def execPreemptLate (e : Nat) (s : State) : Out :=
  match (s.eng e).preemptAt with
  | some c => if e < 18 then .next (endAtCycles s e (c + 2048) 0x86) else .next s
  | none => .next s

/-- JOB_OVERRUN (R331): a job that has run for 2 × CYC cycles ends with fault OVERRUN. -/
def execJobOverrun (e : Nat) (s : State) : Out :=
  match (s.eng e).job with
  | some j =>
    match (s.eng e).kernel j.slot with
    | some k => if e < 18 then .next (endAtCycles s e (2 * k.cyc) 0x85) else .next s
    | none => .next s
  | none => .next s

/-- GE_CPL_READ (R330): the oldest completion record is returned and popped; zeros when there is none. -/
def execGeCplRead (e : Nat) (s : State) : Out :=
  if e < 18 then
    if s.regOff .geCpl [e] then .next (emit s (.bus 1 (List.replicate 16 0))) else
    match (s.eng e).cpl with
    | w :: t => .next (emit (s.setEng e { s.eng e with cpl := t }) (.bus 0 (beBytes 16 w)))
    | [] => .next (emit s (.bus 0 (beBytes 16 0)))
  else .next s

/-- ENGINE_ROLL_MOVE (R335): at the job end of the engine whose turn it is, its work goes to the spare, the engine is loaded, and
the work comes back; the last ends the roll. -/
def execEngineRollMove (e : Nat) (s : State) : Out :=
  match s.ge.roll with
  | some r => if r.todo.head? = some e ∧ (s.eng e).st = .idle then .next (rollMove s r e) else .next s
  | none => .next s

end Sys2Proof.Machine
end

