-- ==== Sys2Proof/Machine/CmdHk.lean ====
section
/-! DEFINITION. Bias, monitors, temperature and fans (chapter 15), and the core voltage (R627). -/

namespace Sys2Proof.Machine

/-- A register of the housekeeping window written under a tag. -/
def hkWrite (s : State) (tag : Nat) (id : RegId) (ix : List Nat) (v : Nat) : State :=
  if (s.island 33).off then emit s (.bus 1 []) else regWrite s (.pair 0) tag id ix v

/-! ## The round (R536) -/

/-- Sensors, T_die and the level (R559 to R562). -/
def roundSensors (s : State) (readings : List Int) (stopped : List Nat) : State :=
  let valid := (List.range 96).filter (fun x => if x < 64 then ¬ rbit s .thmBroken0 [] x else ¬ rbit s .thmBroken1 [] (x - 64))
  let s1 := (List.range 96).foldl (senseOne valid readings stopped) s
  let (t, x) := dieTemp s1
  throttle (wf (wf s1 .thmStat [] 15 0 (ofSigned 16 t)) .thmStat [] 25 19 x) t

/-- 115 °C in two consecutive rounds is a thermal shutdown (R564); a fall ends the one in effect. -/
def roundShutdown (s : State) : State :=
  let (t, x) := dieTemp s
  let hot := decide (115 * 64 ≤ t)
  let s1 := { s with hk := { s.hk with hot := hot } }
  if hot ∧ s.hk.hot ∧ ¬ s.shutdownHolds then thermalShutdown s1 x else shutdownEnds s1

/-- The path temperatures of R340 take one more value. -/
def roundPaths (s : State) : State :=
  { s with hk := { s.hk with tsum := (List.range 64).foldl (fun m p => spPut 0 m p (spGet 0 m p + s.sensor p)) s.hk.tsum, tn := s.hk.tn + 1 } }

/-- The sequences that start on the round (R553). -/
def roundMonitor (s : State) (m : Nat) : State :=
  let w := rd s .monCtrl [m]
  let x := s.mon m
  match bitsOf w 3 1 with
  | 1 => monTrigger s m
  | 2 => if s.hk.rounds % max 1 (bitsOf w 15 8) = 0 then monTrigger s m else s
  | 4 => if x.strobed then monTrigger (s.setMon m { x with strobed := false }) m else s
  | _ => s

/-- The replica comparison (R491): the clusters whose CRC differs from the committed image's; the CRC each then shows is free. -/
def roundReplicas (s : State) (bad : List Nat) : State :=
  let was := s.diong.rewritten
  let s1 := { s with diong := { s.diong with rewritten := [] } }
  (List.range 8).foldl (fun s c =>
    if c ∈ bad ∧ c ∉ s.diong.mismatch then
      let (v, s1) := draw s (2 ^ 64)
      let s2 := raise { s1 with diong := { s1.diong with mismatch := setIns c s1.diong.mismatch, crc := spPut 0 s1.diong.crc c v } } 228 c NA
      if c ∈ was then stat s2 0x2F20 9 else s2
    else s) s1

/-- The ring on the main mover moves up to now: its rate changes with the throttle level (R562). -/
def settleServed (s : State) : State :=
  match servedRing s with
  | some q => settleRing s q
  | none => s

/-- HOUSEKEEPING_ROUND (R491, R536, R553 to R567, R627): the readings of the 96 sensors in 1/64 °C, the sensors whose oscillator has
stopped, the two results of the shared channel when it was converted, VDD_CORE in mV, and the clusters whose replica differs. -/
def execHousekeepingRound (readings : List Int) (stopped : List Nat) (shared : Option (Int × Int)) (vddCore : Nat) (replicas : List Nat)
    (s : State) : Out :=
  if (s.island 33).off then .next s
  else
    let s0 := reachElapsed s (s.hk.roundAt + msTicks)
    let s1 := settleServed { s0 with hk := { s0.hk with roundAt := s0.clk.elapsed, rounds := s0.hk.rounds + 1 } }
    let s2 := roundPaths (roundShutdown (roundSensors s1 readings stopped))
    let s3 := coreVoltage ((List.range 64).foldl ampRound s2) vddCore
    let s4 := (List.range 4).foldl (fun s n => fanStall (fanWatchdog (fanUpdate s n) n) n) s3
    let s5 := roundMonitor (roundMonitor s4 0) 1
    let s6 := match shared with
      | some (a, b) => if s5.hk.rounds % max 1 (rf s5 .monShared [] 15 6) = 0 then sharedResults s5 a b else s5
      | none => s5
    .next (roundReplicas s6 replicas)

/-- THERMAL_CARRIER_DROP (R563): at a frame boundary at level 3 under DROP, at least 100 ms after the last, the active carrier of the
highest rank is removed. -/
def execThermalCarrierDrop (s : State) : Out :=
  if rf s .thmStat [] 17 16 = 3 ∧ rf s .thmCtrl [] 17 16 = 1 then
    match dropCandidate s with
    | some c =>
      let s0 := if s.hk.dropAt = 0 then s else reachElapsed s (s.hk.dropAt - 1 + 100 * msTicks)
      let s1 := toFrame s0 0x53 0
      let s2 := removalDone s1 (disableCarrier s1 c)
      .next (raise { s2 with hk := { s2.hk with dropAt := s2.clk.elapsed + 1 } } 202 c NA)
    | none => .next s
  else .next s

/-! ## Bias channels (R537 to R548) -/

/-- BDAC_STROBE (R48, R540, R541): the timeline event strobes its group. -/
def execBdacStrobe (n : Nat) (s : State) : Out :=
  .next (fireEvent s n 1 (fun _ => [33]) (fun e s => strobeGroup s (e.target % 8)))

/-- LDAC_EDGE (R540): a falling edge while EN = 1 takes effect 2 to 3 cycles of the housekeeping clock later; the delay within that is
free. -/
def execLdacEdge (s : State) : Out :=
  if rbit s .bdacLdac [] 0 ∧ ¬ (s.island 33).off then
    let (d, s1) := draw s 11
    let s2 := passTicks s1 (20 + d)
    .next (strobeMask s2 (rf s2 .bdacLdac [] 15 8))
  else .next s

/-- BDAC_STROBE_WRITE (R540). -/
def execBdacStrobeWrite (tag value : Nat) (s : State) : Out := .next (hkWrite s tag .bdacStrobe [] value)

/-- BDAC_CODE_WRITE (R540). -/
def execBdacCodeWrite (tag c value : Nat) (s : State) : Out :=
  if c < 128 then .next (hkWrite s tag .bdacChCode [c] value) else .next s

/-- BDAC_SHORT (R542): a channel begins, or ceases, to limit its current. -/
def execBdacShort (c : Nat) (on : Bool) (s : State) : Out :=
  if c < 128 then
    let id : RegId := if c < 64 then .bdacSc0 else .bdacSc1
    if ¬ on then .next (s.setBias c { s.bias c with lim := 0 })
    else
      let s1 := if (s.bias c).lim = 0 then s.setBias c { s.bias c with lim := s.clk.elapsed + 1 } else s
      if rbit s1 id [] (c % 64) then .next s1 else .next (raise (setFlag s1 id [] (c % 64)) 192 c NA)
  else .next s

/-- BDAC_SHORT_TIMEOUT (R542, R546): 64 µs of limiting with the drain enabled. -/
def execBdacShortTimeout (c : Nat) (s : State) : Out :=
  let x := s.bias c
  if c < 128 ∧ x.lim ≠ 0 ∧ s.biasRole c ≠ 0 ∧ rbit s .bdacDrnStat [] (s.biasAmp c) then
    .next (ampFault (reachElapsed s (x.lim - 1 + 31458)) (s.biasAmp c) 0)
  else .next s

/-- BDAC_SUPPLY_LOW (R543, R546): VNEG_OK (0) or VPOS_OK (1) falls. -/
def execBdacSupplyLow (which : Nat) (s : State) : Out := if which < 2 then .next (supplyLow s which) else .next s

/-- BDAC_SUPPLIES_GOOD (R543, R544, R548): both supplies are good; channels that are high impedance take their SAFE codes. -/
def execBdacSuppliesGood (s : State) : Out :=
  let s1 := wf s .bdacStat [] 1 0 3
  if (s1.island 33).off then .next s1
  else .next (drainRise ((List.range 128).foldl (fun s c => if (s.bias c).hiZ then safeCode s c else s) s1))

/-- BDAC_OUTPUT_STEP (R541, R544): a slewing output takes a step, and a drain may rise. -/
def execBdacOutputStep (c : Nat) (s : State) : Out := if c < 128 then .next (outputStep s c) else .next s

/-- DRAIN_REQUEST (R544). -/
def execDrainRequest (tag value : Nat) (s : State) : Out := .next (hkWrite s tag .bdacDrnReq [] value)

/-- AMPLIFIER_FAULT (R546): of cause 0 short, 1 supply, 2 monitor limit, 3 readback, 4 over-temperature. -/
def execAmplifierFault (a cause : Nat) (s : State) : Out :=
  if a < 64 ∧ cause < 5 then .next (ampFault s a cause) else .next s

/-- FAULT_SAFE_CODE (R546): 10 ms after the fault. -/
def execFaultSafeCode (a : Nat) (s : State) : Out :=
  let t := spGet 0 s.hk.safeAt a
  if t ≠ 0 then
    let s1 := reachElapsed s (t - 1 + 10 * msTicks)
    .next ((s1.ampChannels a).foldl safeCode { s1 with hk := { s1.hk with safeAt := spPut 0 s1.hk.safeAt a 0 } })
  else .next s

/-- DRAIN_READBACK_MISMATCH (R546). -/
def execDrainReadbackMismatch (a : Nat) (s : State) : Out := if a < 64 then .next (ampFault s a 3) else .next s

/-- DRAIN_FAULT_CLEAR (R547). -/
def execDrainFaultClear (tag value : Nat) (s : State) : Out := .next (hkWrite s tag .bdacDrnFault [] value)

/-! ## Monitors (R549 to R555) -/

/-- MON_TRIGGER (R553): a write of MONm_TRIG. -/
def execMonTrigger (tag m : Nat) (s : State) : Out := if m < 2 then .next (hkWrite s tag .monTrig [m] 1) else .next s

/-- MON_ENTRY_RESULT (R550 to R554, R556, R557): the 24-bit result of the entry in progress; `meanAbs` is the path's mean |x| over the
entry's window. -/
def execMonEntryResult (m : Nat) (result : Int) (meanAbs : Nat) (s : State) : Out :=
  if m < 2 ∧ ¬ (s.island 33).off then .next (monResult s m result (meanAbs : Int)) else .next s

/-- MON_DATA_READ (R552): the result, and VALID cleared. -/
def execMonDataRead (m : Nat) (s : State) : Out :=
  if 2 ≤ m then .next s
  else if (s.island 33).off then .next (emit s (.bus 1 (List.replicate 8 0)))
  else
    let (v, s1) := regRead s (.pair 0) .monData [m]
    .next (emit s1 (.bus 0 (leBytes 8 v)))

/-! ## Fans (R565 to R567) -/

/-- FAN_WATCHDOG_EXPIRY (R566). -/
def execFanWatchdogExpiry (n : Nat) (s : State) : Out :=
  if n < 4 ∧ (rf s .thmPwmCfg [n] 1 0 = 1 ∨ rf s .thmPwmCfg [n] 1 0 = 2) then
    .next (fanWatchdog (reachElapsed s ((s.fan n).wrote + max 1 (rf s .thmCtrl [] 31 24) * secTicks)) n)
  else .next s

/-- THM_FAN_STALL (R567). -/
def execThmFanStall (n : Nat) (s : State) : Out :=
  if n < 4 ∧ rf s .thmPwmCfg [n] 1 0 = 1 ∧ 1 ≤ rf s .thmPwmDuty [n] 19 10 ∧ ¬ rbit s .thmTach [n] 24 then
    .next (fanStall (reachElapsed s (stallAt s n)) n)
  else .next s

/-- TACH_EDGE (R567): the period since the last edge, in cycles of the housekeeping clock; one that does not fit is free. -/
def execTachEdge (n : Nat) (s : State) : Out :=
  if n < 4 ∧ ¬ (s.island 33).off then
    let x := s.fan n
    let per := (s.clk.elapsed + 1 - x.edge) / 10
    let s1 := s.setFan n { x with edge := s.clk.elapsed + 1 }
    if x.edge = 0 then .next s1
    else if per < 2 ^ 24 then .next (wf s1 .thmTach [n] 23 0 per)
    else
      let (v, s2) := draw s1 (2 ^ 24)
      .next (wf s2 .thmTach [n] 23 0 v)
  else .next s

/-! ## Core voltage (R627) -/

/-- VTARGET_UPDATE (R627): by at most 10 mV, at most once per 100 ms, between 650 and 850 mV. -/
def execVtargetUpdate (mv : Nat) (s : State) : Out :=
  let old := rf s .pwrAvs [] 9 0
  if 650 ≤ mv ∧ mv ≤ 850 ∧ mv ≤ old + 10 ∧ old ≤ mv + 10 ∧ mv ≠ old then
    let s1 := if s.hk.avsAt = 0 then s else reachElapsed s (s.hk.avsAt - 1 + 100 * msTicks)
    .next (wf { s1 with hk := { s1.hk with avsAt := s1.clk.elapsed + 1 } } .pwrAvs [] 9 0 mv)
  else .next s

end Sys2Proof.Machine
end

