-- ==== Sys2Proof/Machine/CmdLink.lean ====
section
/-! DEFINITION. The packet link and timing (chapter 11). -/

namespace Sys2Proof.Machine

/-- A frame that arrives on an up port, checked as message type `ty`, then handled. -/
def onFrame (s : State) (f : LnkFrame) (ty : Nat) (policed : Bool) (act : State → State) : State :=
  if f.port < 4 ∧ s.portUp f.port then
    match admitFrame s f ty policed with
    | (true, s1) => act s1
    | (false, s1) => s1
  else s

/-- IQ_DATA_MESSAGE (R388 to R398, R400). -/
def execIqDataMessage (f : LnkFrame) (s : State) : Out := .next (onFrame s f 0 false (fun s => iqSection s f))

/-- DL_WINDOW_CLOSE (R395, R397): at the close of the window of the next downlink symbol. -/
def execDlWindowClose (cc : Nat) (s : State) : Out :=
  if cc < 8 ∧ s.dlOn cc then
    let c := rf s .lnkCcWin [cc] 54 32
    let s1 := toBoundary s 202 cc (fun t => nextSymbol s.frameOfs (s.ccMu cc) (s.ccEcp cc) (t + c) - c)
    let air := s1.now + c
    match patFind s1.pattern 0 0 (patPos s1.pattern s1.frameOfs air) with
    | some (_, _, e) => .next (if e.dir = 0 then windowClose s1 cc air else s1)
    | none => .next s1
  else .next s

/-- UL_SECTION_SEND (R401 to R404): the uplink symbol of carrier `n`, or the PRACH occasion of extractor `n`. -/
def execUlSectionSend (prach : Bool) (n : Nat) (s : State) : Out :=
  if prach then (if n < 4 then .next (sendPrach s n) else .next s)
  else if n < 8 then .next (sendUplink s n) else .next s

/-- REAL_TIME_CONTROL_MESSAGE (R405, R406). -/
def execRealTimeControlMessage (f : LnkFrame) (s : State) : Out := .next (onFrame s f 2 true (fun s => controlMessage s f))

/-- GENERIC_DATA_MESSAGE (R252, R406, R407): a weight block goes to the beam matrix; a Diong frame, policed, goes on to the Diong
commands; a reserved service is dropped. -/
def execGenericDataMessage (f : LnkFrame) (s : State) : Out :=
  let service := beAt (frameBody f) 0 1
  .next (onFrame s f 3 (decide (service = 1)) (fun s =>
    if service = 2 then weightBlock s (some f.port) ((frameBody f).drop 8)
    else if service = 1 then s
    else dropMsg s f.port 5 none))

/-- The buffer whose capture a port sends next: of those FULL and to be streamed, the first in ascending order after the one sent last,
round and round (R80, R408). -/
def streamTurn (s : State) (n : Nat) : Option Nat :=
  let l := (List.range 128).map (fun i => (spGet 0 s.lnk.capLast n + 1 + i) % 128 + 128)
  l.find? (fun b => decide ((s.buf b).st = .full) && decide (rf s .capDesc [(s.buf b).path / 8, b] 60 58 = n) && decide (s.onum (0x9100 + b) 1 = 1))

/-- CAPTURE_STREAM (R80, R81, R408): while no work of an earlier class waits, the status record, then the buffer, in messages of up to 8,192
bytes; then the buffer is FREE.  Streams of a port start no closer than its granted rate allows (R408).  The ticks it waited are kept for its status (R81). -/
def execCaptureStream (b : Nat) (s : State) : Out :=
  let x := s.buf b
  let d := rd s .capDesc [x.path / 8, b]
  let n := bitsOf d 60 58
  if 128 ≤ b ∧ b < 256 ∧ x.st = .full ∧ n < 4 ∧ s.onum (0x9100 + b) 1 = 1 ∧ s.portUp n ∧ ¬ earlierWork s 3 ∧ streamTurn s n = some b ∧
      0 < s.onum (0x9040 + n) 1 then
    -- the port's granted rate, Mb/s, admits the stream from here on (R408)
    let s := reachElapsed s (spGet 0 s.lnk.capAt n)
    -- the read of the buffer carries the tenant's tag (R29, R30)
    let (_, body, s0) := fabRead s .link n (bitsOf d 39 0) (if x.notTx then 0 else captureBytes x.src (64 ≤ x.staging) x.n) none 19
    let bytes := beBytes 16 (rd s .capStat [x.path / 8, b]) ++ body
    let no := spGet 0 s.lnk.capNo b
    let s1 := (List.range (ceilDiv bytes.length 8192)).foldl (fun s i =>
      sendMessage s n 3 (beBytes 4 (3 * 2 ^ 24 + b * 2 ^ 16 + no) ++ beBytes 4 (8192 * i) ++ (bytes.drop (8192 * i)).take 8192)) s0
    let s2 := s1.setBuf b { x with waited := s.clk.elapsed - x.fullAt }
    .next (releaseBuffer { s2 with lnk := { s2.lnk with
                                            capNo := spPut 0 s2.lnk.capNo b ((no + 1) % 2 ^ 16), capLast := spPut 0 s2.lnk.capLast n b,
                                            capAt := spPut 0 s2.lnk.capAt n (s2.clk.elapsed +
                                              ceilDiv (bytes.length * 8 * 49152) (100 * s.onum (0x9040 + n) 1)) } } b)
  else .next s

/-- DELAY_REQUEST (R409): action 0; the Response carries the ingress timestamp. -/
def execDelayRequest (f : LnkFrame) (s : State) : Out :=
  .next (onFrame s f 5 true (fun s =>
    if beAt (frameBody f) 1 1 = 0 then sendMessage s f.port 5 (delayBytes (beAt (frameBody f) 0 1) 2 f.tick) else s))

/-- REQUEST_WITH_FOLLOW_UP (R409): action 1; the Response waits for the Follow_Up. -/
def execRequestWithFollowUp (f : LnkFrame) (s : State) : Out :=
  .next (onFrame s f 5 true (fun s =>
    if beAt (frameBody f) 1 1 = 1 then
      s.setPort f.port { s.port f.port with pending5 := (s.port f.port).pending5 ++ [(beAt (frameBody f) 0 1, f.tick)] }
    else s))

/-- FOLLOW_UP (R409): action 5; the pending Response is sent. -/
def execFollowUp (f : LnkFrame) (s : State) : Out :=
  .next (onFrame s f 5 true (fun s =>
    let id := beAt (frameBody f) 0 1
    match beAt (frameBody f) 1 1, (s.port f.port).pending5.find? (fun x => x.1 = id) with
    | 5, some x =>
      let s1 := s.setPort f.port { s.port f.port with pending5 := (s.port f.port).pending5.filter (fun y => y.1 ≠ id) }
      sendMessage s1 f.port 5 (delayBytes id 2 x.2)
    | _, _ => s))

/-- REMOTE_REQUEST (R409): action 3 or 4; the device sends a Request. -/
def execRemoteRequest (f : LnkFrame) (s : State) : Out :=
  .next (onFrame s f 5 true (fun s =>
    if beAt (frameBody f) 1 1 = 3 ∨ beAt (frameBody f) 1 1 = 4 then
      sendMessage s f.port 5 (delayBytes (beAt (frameBody f) 0 1) 0 s.now) else s))

/-- EVENT_INDICATION_SEND (R410): the oldest firing or cease delivered to port `n` is sent. -/
def execEventIndicationSend (n : Nat) (s : State) : Out :=
  if n < 4 ∧ s.portUp n then
    match (s.port n).queue with
    | q :: t => .next (sendEvent (s.setPort n { s.port n with queue := t }) n q)
    | [] => .next s
  else .next s

/-- INDICATION_ACK (R406, R410): matched on Event ID alone. -/
def execIndicationAck (f : LnkFrame) (s : State) : Out :=
  .next (onFrame s f 7 true (fun s =>
    if beAt (frameBody f) 1 1 = 1 then
      s.setPort f.port { s.port f.port with unacked := (s.port f.port).unacked.filter (fun x => x.id ≠ beAt (frameBody f) 0 1) }
    else s))

/-- INDICATION_RESEND (R410): 100 ms unacknowledged; up to 3 resends, then LNK_EVT_ACK_TIMEOUT. -/
def execIndicationResend (n id : Nat) (s : State) : Out :=
  match (s.port n).unacked.find? (fun x => x.id = id) with
  | some x =>
    if n < 4 then
      let s1 := reachElapsed s (x.sentAt + 100 * msTicks)
      let p := s1.port n
      if x.tries < 3 then
        let s2 := sendMessage s1 n 7 (indicationBytes x.id 0 p.eventSeq x.element x.cease x.fault x.info)
        .next (s2.setPort n { s2.port n with eventSeq := (p.eventSeq + 1) % 256,
                                             unacked := p.unacked.map (fun y => if y = x then { x with sentAt := s1.clk.elapsed, tries := x.tries + 1 } else y) })
      else .next (raise (s1.setPort n { p with unacked := p.unacked.filter (fun y => y ≠ x) }) 145 n NA)
    else .next s
  | none => .next s

/-- SYNCHRONISATION_REQUEST (R410): acknowledge, an indication of every raised fault of the tenant, end. -/
def execSynchronisationRequest (f : LnkFrame) (s : State) : Out :=
  .next (onFrame s f 7 true (fun s =>
    if beAt (frameBody f) 1 1 = 3 then
      let id := beAt (frameBody f) 0 1
      let s1 := sendSyncMsg s f.port id 4
      let s2 := (s.evt.cond.filter (fun c => entitled s c.1 c.2.1 f.port && evtEnabled s c.1 f.port)).foldl
        (fun s c => sendEvent s f.port (c.1, c.2.1, rf s .evtRpt [f.port, c.1] 7 0, false)) s1
      sendSyncMsg s2 f.port id 5
    else s))

/-- PORT_STATE_CHANGE (R414). -/
def execPortStateChange (n : Nat) (aligned saValid : Bool) (s : State) : Out :=
  if n < s.tenants ∧ n < 4 then .next (portState s n aligned saValid) else .next s

/-- SAK_INSTALL (R413, R578): a SAK agreed under the provisioned CAK comes into use on a new AN, with its PN at the start; a CAK it replaced is
deleted. -/
def execSakInstall (n an : Nat) (s : State) : Out :=
  if n < 4 ∧ an < 4 ∧ rbit s .lnkPortMsec [n] 0 ∧ s.hasCak n ∧ (¬ rbit s .lnkPortStat [n] 2 ∨ rf s .lnkPortStat [n] 4 3 ≠ an) then
    let s0 := s.setPort n { s.port n with pn := 0, rekey := false }
    let s1 := { s0 with sec := { s.sec with oldCak := spPut (0, []) s.sec.oldCak n (0, []) } }
    .next (raise (portState (wf s1 .lnkPortStat [n] 4 3 an) n (rbit s1 .lnkPortStat [n] 1) true) 139 n NA)
  else .next s

/-- PTP_SYNC_INTERVAL (R37, R38, R417): an interval's offset in 0.25 ns. -/
def execPtpSyncInterval (quarterNs : Int) (s : State) : Out :=
  if s.lnk.master.isNone then .next s
  else
    let good := if quarterNs.natAbs ≤ 200 then s.lnk.good + 1 else 0
    let bad := if 800 < quarterNs.natAbs then s.lnk.bad + 1 else 0
    let s1 := wf { s with lnk := { s.lnk with good := min 64 good, bad := min 16 bad } } .lnkPtpStat [] 63 32 (ofSigned 32 quarterNs)
    if ¬ s.ptpLocked ∧ 64 ≤ good then
      .next (raise (wbit (wf s1 .lnkPtpStat [] 2 0 2) .tlStatus [] 1 true) 140 NA NA)
    else if s.ptpLocked ∧ 16 ≤ bad then .next (ptpUnlock s1 1)
    else .next s1

/-- PTP_MASTER_CHANGE (R415, R417, R418): the BMCA selects a master on port `n`; the first that qualifies ends holdover. -/
def execPtpMasterChange (n clockClass identity : Nat) (s : State) : Out :=
  if n < 4 ∧ rbit s .lnkPortCfg [n] 24 then
    let s1 := wf (wf s .lnkPtpStat [] 4 3 n) .lnkPtpStat [] 12 5 clockClass
    let s2 := if s.ptpLocked then s1 else wf s1 .lnkPtpStat [] 2 0 1
    .next (raise (wbit { s2 with lnk := { s2.lnk with master := some (identity % 2 ^ 64) } } .tlStatus [] 2 false) 142 NA NA)
  else .next s

/-- PTP_HOLDOVER_ENTRY (R418): no PTP port has a qualified master. -/
def execPtpHoldoverEntry (s : State) : Out := .next (holdover s)

/-- SYNCE_SQUELCH (R420): cause 0 loss of CDR lock, 1 the source port down, 2 the received QL, 3 five seconds without an ESMC
PDU. -/
def execSynceSquelch (cause : Nat) (s : State) : Out :=
  let src := rf s .lnkSynceCfg [] 3 2
  let now : Bool := match cause with
    | 0 => true
    | 1 => ! s.portUp src
    | 2 => qlBad s
    | _ => true
  if rbit s .lnkSynceCfg [] 0 ∧ now ∧ s.synceLocked then
    let s1 := if cause = 3 then reachElapsed s (s.lnk.esmcRx - 1 + 5 * secTicks) else s
    let s2 := wf s1 .lnkSynceStat [] 1 0 (if cause = 0 then 2 else 3)
    .next (raise { s2 with lnk := { s2.lnk with squelchAt := s2.clk.elapsed } } 143 NA NA)
  else .next s

/-- SYNCE_RESUME (R420): 10 s after every condition has cleared: the squelch, the last change of the source port or of the received QL, and
the PDU that ended a silence of 5 s. -/
def execSynceResume (s : State) : Out :=
  if rbit s .lnkSynceCfg [] 0 ∧ ¬ s.synceLocked ∧ s.portUp (rf s .lnkSynceCfg [] 3 2) ∧ ¬ qlBad s then
    .next (wf (reachElapsed s (s.lnk.squelchAt + 10 * secTicks)) .lnkSynceStat [] 1 0 1)
  else .next s

/-- ESMC_SEND (R421): one PDU per second on an up port, and at once when the QL changes. -/
def execEsmcSend (n : Nat) (s : State) : Out :=
  if n < 4 ∧ s.portUp n then
    let x := s.port n
    let q := qlSent s
    let s1 := if x.esmcAt = 0 ∨ x.esmcQl ≠ q then s else reachElapsed s (x.esmcAt - 1 + secTicks)
    .next (emit (s1.setPort n { s1.port n with esmcAt := s1.clk.elapsed + 1, esmcQl := q }) (.link n 16 (beBytes 1 q)))
  else .next s

/-- ESMC_RECEIVE (R420, R421): a PDU on the source port updates the received QL. -/
def execEsmcReceive (ql : Nat) (s : State) : Out :=
  let silent := decide (s.lnk.esmcRx + 5 * secTicks ≤ s.clk.elapsed + 1)
  let s0 := if silent ∨ qlBad s ∨ rf s .lnkSynceStat [] 5 2 ≠ ql % 16 then synceAgain s else s
  let s1 := { s0 with lnk := { s0.lnk with esmcRx := s0.clk.elapsed + 1 } }
  if rf s .lnkSynceStat [] 5 2 = ql % 16 then .next s1
  else .next (raise (wf s1 .lnkSynceStat [] 5 2 (ql % 16)) 144 NA NA)

/-- PPS_OUT_EDGE (R422, R522): at the next whole second of the counter; in NAP and below the pin stays low. -/
def execPpsOutEdge (s : State) : Out :=
  let s1 := toBoundary s 224 0 (fun t => ceilDiv t secTicks * secTicks)
  .next (if rbit s1 .lnkPps [] 0 ∧ ¬ s1.pwr.linkIdle then emit s1 (.pulse 0 (rf s1 .lnkPps [] 17 2)) else s1)

/-- PPS_IN_EDGE (R422): the edge's tick: MEASURE publishes its offset from the second; SOURCE steers to it. -/
def execPpsInEdge (tick : Nat) (s : State) : Out :=
  let s1 := reachCount s tick
  let r := s1.now % secTicks
  let d : Int := if 2 * r < secTicks then (r : Int) else (r : Int) - secTicks
  let s2 := { s1 with lnk := { s1.lnk with ppsAt := s1.clk.elapsed + 1 } }
  if rbit s2 .lnkPps [] 1 then
    let s3 := wbit s2 .tlStatus [] 2 false
    match s3.lnk.tod with
    | some t =>
      let s4 := { s3 with lnk := { s3.lnk with tod := none } }
      .next (timeCorrection s4 (((t : Int) - (s4.now : Int)) * 100000 / 12288))
    | none => .next (timeCorrection s3 (-d * 100000 / 12288))
  else .next (s2.setObj 0x9321 1 (.num (ofSigned 32 d)))

/-- LNK_PPS_IN_LOSS (R422): two seconds without an edge; in SOURCE mode, holdover. -/
def execLnkPpsInLoss (s : State) : Out :=
  if 0 < s.lnk.ppsAt then
    let s1 := reachElapsed s (s.lnk.ppsAt - 1 + 2 * secTicks)
    let s2 := raise { s1 with lnk := { s1.lnk with ppsAt := 0 } } 146 NA NA
    .next (if rbit s2 .lnkPps [] 1 then holdover s2 else s2)
  else .next s

/-- LINK_LANE_FAILURE (R423, R424, R426): physical lane `lane` fails. -/
def execLinkLaneFailure (lane : Nat) (s : State) : Out := if lane < 9 then .next (laneFails s lane) else .next s

/-- LINK_LANE_TX_MOVE (R424): at most 983 ticks after the failure. -/
def execLinkLaneTxMove (n : Nat) (s : State) : Out :=
  .next { s with lnk := { s.lnk with moves := s.lnk.moves.map (fun m => if m.port = n then { m with txDone := true } else m) } }

/-- LINK_LANE_RX_MOVE (R424): after the transmit side, at most 19,661 ticks after the failure. -/
def execLinkLaneRxMove (n : Nat) (s : State) : Out :=
  .next { s with lnk := { s.lnk with moves := s.lnk.moves.map (fun m =>
                                       if m.port = n ∧ m.txDone then { m with rxDone := true } else m) } }

/-- LNK_LANE_SPARED (R424, R426): the PCS is aligned and the lane map updated; `lost` frames were not decodable. -/
def execLnkLaneSpared (n lost : Nat) (s : State) : Out :=
  match s.lnk.moves.find? (fun m => m.port = n ∧ m.txDone ∧ m.rxDone) with
  | some m =>
    let s2 := wbit (laneMoved s m) .lnkPortStat [n] 5 false
    let s3 := if lost = 0 then s2 else stat s2 (0x9210 + n) 18 lost
    .next (lastSpare (raise s3 130 n NA) n)
  | none => .next s

/-- LINK_REALIGN_TIMEOUT (R424): not aligned by t0 + 24,576: the port goes down. -/
def execLinkRealignTimeout (n : Nat) (s : State) : Out :=
  match s.lnk.moves.find? (fun m => m.port = n) with
  | some m =>
    let s1 := reachElapsed s (m.t0 + 24576)
    .next (portLost (lastSpare (laneMoved s1 m) n) n)
  | none => .next s

/-- LANE_RETURN_TO_SPARE (R423): object 0x9011 sub-index 2, service role. -/
def execLaneReturnToSpare (role : Role) (lane : Nat) (s : State) : Out :=
  if role = .service ∧ lane < 9 ∧ laneState s lane = 3 then
    .next (setLaneState { s with nv := { s.nv with linkLanes := s.nv.linkLanes.filter (· ≠ lane) } } lane 2)
  else .next s

end Sys2Proof.Machine
end

