-- ==== Sys2Proof/Machine/CmdMemory.lean ====
section
/-! DEFINITION. Memory, arbitration and DMA rings (chapter 12). -/

namespace Sys2Proof.Machine

/-- A tenure granted on bank `a` (R432, R433, R441 to R446): a load of `n` bytes at offset `off`, or the store of `data`, of `len`
bytes; the response goes out when the tenure ends. -/
def sramTenure (s : State) (port tag off len a n : Nat) (data : Option (List Byte)) (ce ue : List Nat) : State :=
  let s1 := arbPhase s a [port] (ceilDiv (off % 64 + len) 64)
  let s2 := eccFound s1 (ce.filter (fun w => 8 * w < off + len ∧ off < 8 * w + 8)) (ue.filter (fun w => 8 * w < off + len ∧ off < 8 * w + 8))
  match data with
  | some b =>
    let (st, s3) := sramWriteBy s2 (portMaster port) tag none off b
    emit (arbEnd s3 a) (.bus (min st 1) [])
  | none =>
    let (st, d, s3) := sramRead s2 (portMaster port) tag none port off n
    emit (arbEnd s3 a) (.bus (min st 1) d)

/-- SRAM_ACCESS (R30, R31, R431 to R433, R441 to R446): a port's load of `n` bytes, or its store of `data`, of 1 to 16 beats on
one bank; `ce` and `ue` are the words in which ECC found an error.  A port that is masked, or a closed bank, keeps the request
waiting: nothing happens.  An address outside every window is not performed: a read returns zero and the address fault is raised (R34). -/
def execSramAccess (port tag addr n : Nat) (data : Option (List Byte)) (ce ue : List Nat) (s : State) : Out :=
  let len := match data with
    | some b => b.length
    | none => n
  let off := addr - sramBase
  let a := bankOfOffset off
  if port < 46 ∧ sramBase ≤ addr ∧ addr + len ≤ sramBase + sramSize ∧ 0 < len ∧ len ≤ 1024 ∧ (off + len - 1) / 0x80000 = a then
    if ¬ s.sramAllowed (portMaster port) tag none a then .next (emit (firewall s tag) (.bus 0 (List.replicate n 0)))
    else if ¬ portServed s port a then .next s
    else .next (sramTenure s port tag off len a n data ce ue)
  else if port < 46 ∧ ¬ ((windowOf addr).any (reaches (portMaster port) addr data.isSome)) then
    .next (emit (addrFault s tag addr) (.bus 0 (List.replicate n 0)))
  else .next s

/-- ARBITRATION_PHASE (R442 to R448): the ports requesting bank `a` in the phase's first cycle, and the winner's beats. -/
def execArbitrationPhase (a : Nat) (ports : List Nat) (beats : Nat) (s : State) : Out :=
  if a < 96 then .next (arbPhase s a ports beats) else .next s

/-- DMA_START (R48, R455): the timeline event triggers its ring, while TRIG_TL = 1. -/
def execDmaStart (n : Nat) (s : State) : Out :=
  .next (fireEvent s n 5 (fun _ => [12]) (fun e s =>
    if e.target < 128 ∧ rbit s .dmaRingCfg [e.target] 6 then trigRing s e.target true else s))

/-- SCRUB_PERIOD in force, s (R434): 0 acts as 1, above 3,600 as 3,600. -/
def scrubPeriod (s : State) : Nat := min 3600 (max 1 (rf s .memCtrl [] 12 1))

/-- SCRUB_PASS (R432 to R434): one period after the last, a pass of the scrubber has read every word; `ce` and `ue` are those in which it found an
error.  Corrected ones are written back, and every poisoned word is read. -/
def execScrubPass (ce ue : List Nat) (s : State) : Out :=
  if rbit s .memCtrl [] 0 ∧ ¬ (s.island 12).off then
    let s0 := if s.mem.scrubAt = 0 then s else reachElapsed s (s.mem.scrubAt - 1 + scrubPeriod s * secTicks)
    let s1 := eccFound { s0 with mem := { s0.mem with scrubAt := s0.clk.elapsed + 1 } } ce ue
    .next (poisonRead s1 0 sramSize 4 45)
  else .next s

/-- MEM_ROW_REPAIRED (R435): a row that needs repair, of a physical bank with a spare row left, is copied and remapped, poison
carried over. -/
def execMemRowRepaired (b row : Nat) (s : State) : Out :=
  if b < 100 ∧ row < 512 ∧ bankState s b = 0 ∧ rowNeeds s b row ∧ rf s .memBankStat [b] 12 9 < 8 then
    let s1 := wf s .memBankStat [b] 12 9 (rf s .memBankStat [b] 12 9 + 1)
    let s2 := { s1 with mem := { s1.mem with hist := spMod [] s1.mem.hist b (fun l => l.filter (fun x => x.1 ≠ row)),
                                             carried := (s1.mem.poison.filter (fun w =>
                                               s1.physBank (w / 0x10000) = some b ∧ w % 0x10000 / 128 = row)).foldl (fun l w => setIns w l) s1.mem.carried } }
    .next (spareUsed (saveBanks (raise s2 162 (bankServed s b) NA)) 5 b)
  else .next s

/-- BANK_MIGRATION_START (R436, R437, R439): a physical bank whose row needs repair with no spare row left, or that had a
second word poisoned within a day of the first, is spared. -/
def execBankMigrationStart (b : Nat) (s : State) : Out :=
  if b < 100 ∧ ((rf s .memBankStat [b] 12 9 = 8 ∧ (List.range 512).any (rowNeeds s b)) ∨
      b ∈ s.mem.due) then
    .next (spareBankOut s b)
  else .next s

/-- MEM_BANK_SPARED (R437, R438): the copier has finished, the map is swapped and the old bank retired. -/
def execMemBankSpared (b : Nat) (s : State) : Out :=
  match s.mem.migr.find? (fun p => p.1 = b) with
  | some (_, n) => .next (migrationEnd s b n)
  | none => .next s

/-- SERVICE_BANK_SPARE (R436): object 0xD011, service role. -/
def execServiceBankSpare (role : Role) (b : Nat) (s : State) : Out :=
  if role = .service ∧ b < 96 then .next (spareBankOut s b) else .next s

/-- MEM_LOCK (R449, R450, R468): a set request of the control cores is granted whole, waits, or is refused. -/
def execMemLock (tag value : Nat) (s : State) : Out :=
  .next (tagged s .memLock [] tag (fun s =>
    if bitOf value 48 ∧ ¬ bitOf value 47 then
      let l := lockOfWord value
      if lockOrdered s.mem.lock l then grantSet { s with mem := { s.mem with lockWait := some l } }
      else raise (memFault s 0 tag 42 3) 166 NA NA
    else s))

/-- MEM_LOCK_RELEASE (R449): REL releases every held member. -/
def execMemLockRelease (tag value : Nat) (s : State) : Out :=
  .next (tagged s .memLock [] tag (fun s =>
    if bitOf value 48 ∧ bitOf value 47 then grantSet { s with mem := { s.mem with lock := none } } else s))

/-- MEM_HOLD_FAULT (R451): the tenure in progress on bank `a`, or (from 96) the set of the control cores, has reached 1 ms: it is
released, and its port masked; the ring that a mover served halts with status HOLD (R463). -/
def execMemHoldFault (a : Nat) (s : State) : Out :=
  if a < 96 then
    let x := spGet Arb.reset s.mem.arb a
    match x.busy, x.owner with
    | true, some q =>
      let s1 := reachElapsed s (x.since + msTicks)
      let s2 := { s1 with mem := { s1.mem with arb := spPut Arb.reset s1.mem.arb a { x with owner := none, busy := false, beats := 0 } } }
      .next (hold s2 a q)
    | _, _ => .next s
  else
    match s.mem.lock with
    | some l =>
      let s1 := reachElapsed s (l.since + msTicks)
      .next (hold { s1 with mem := { s1.mem with lock := none } } (l.banks.headD 0) 42)
    | none => .next s
where
  /-- The port is masked, the fault recorded and reported. -/
  hold (s : State) (a q : Nat) : State :=
    raise (memFault (dropParked (setFlag (holdRing s q) .memHoldMask [] q) (fun _ o => decide (o = q))) (sramBase + a * 0x80000) 4 q 2) 165 a NA

/-- DMA_RING_KICK (R455, R468). -/
def execDmaRingKick (tag r value : Nat) (s : State) : Out :=
  if r < 128 then .next (tagged s .dmaRingKick [r] tag (fun s => if bitOf value 0 then trigRing s r false else s))
  else .next s

/-- DMA_DESCRIPTOR (R456 to R463). -/
def execDmaDescriptor (r : Nat) (s : State) : Out := if r < 128 then .next (descRun s r) else .next s

/-- DMA_HALF_COMPLETION (R461). -/
def execDmaHalfCompletion (r : Nat) (s : State) : Out := if r < 128 then .next (descHalf s r) else .next s

/-- DMA_RING_DISABLE (R454, R462): EN goes to 0; the ring stops, its descriptor not written back, HEAD unchanged. -/
def execDmaRingDisable (r : Nat) (s : State) : Out :=
  if r < 128 then .next (ringEnable (wbit s .dmaRingCfg [r] 0 false) r false) else .next s

end Sys2Proof.Machine
end

