-- ==== Sys2Proof/Machine/CmdPower.lean ====
section
/-! DEFINITION. Power states, wakes and the wake receiver (chapter 14). -/

namespace Sys2Proof.Machine

/-- POWER_REQUEST (R512, R516, R517, R535): made through object 0xB100 by the operator or the service role, or with the device tag, or
the debug tag at D2 or above, through PWR_REQ; `value` is in the layout of PWR_REQ. -/
def execPowerRequest (by_ : Option Role) (tag value : Nat) (s : State) : Out :=
  let go (s : State) : State := powerRequest s (bitsOf value 2 0) (bitOf value 3)
  match by_ with
  | some (.tenant _) => .next s
  | some _ => .next (if bitOf value 4 then go s else s)
  | none =>
    .next (tagged s .pwrReq [] tag (fun s => if bitOf value 4 then go s else s))

/-- POWER_ENTRY_STEP (R507, R513 to R518, R522): the step that runs completes, the abort point is taken, and the next step begins or the
device settles. -/
def execPowerEntryStep (s : State) : Out :=
  match s.pwr.req with
  | some r => .next (entryStep s r)
  | none => .next s

/-- POWER_EXIT (R519, R522): the exit from NAP, or from an entry past step 3, up to DOZE. -/
def execPowerExit (s : State) : Out :=
  if s.pwr.exit.isSome ∧ s.pwr.linkIdle ∧ s.pwrLevel ≤ 3 then .next (napExit s) else .next s

/-- WARM_START (R520): a wake from LISTEN or HIBERNATE boots from the strapped boot source. -/
def execWarmStart (s : State) : Out :=
  match s.pwr.exit with
  | some t => if 4 ≤ s.pwrLevel ∧ s.boot.warmTo.isNone then .next (warmStart s t) else .next s
  | none => .next s

/-- WAKE_TO_TRANSITION (R519, R521, R632): DOZE is left at the first frame boundary at least 49,152 ticks after lock or LOCK_WAIT. -/
def execWakeToTransition (s : State) : Out :=
  match s.pwr.exit with
  | some t => if s.pwrLevel = 2 ∧ ¬ s.pwr.linkIdle ∧ s.boot.warmTo.isNone then
      let s1 := wakeTransition s t
      .next (if s1.bootPhase = 6 then setPhase s1 7 else s1)
    else .next s
  | none => .next s

/-- A section is powered again: the converter step timer or the DAC dwell goes on where it paused (R510). -/
def gateOn (s : State) (p : Nat) (rx : Bool) : State :=
  let k := 2 * p + b2n rx
  let t := spGet 0 s.pwr.gated k
  if t = 0 then s
  else
    let d := s.clk.elapsed + 1 - t
    let s1 := { s with pwr := { s.pwr with gated := spErase s.pwr.gated k } }
    if rx then clockPath s1 p
    else [2 * p, 2 * p + 1].foldl (fun s k => s.setDac k { s.dac k with dwellAt := (s.dac k).dwellAt + d }) s1

/-- SLOTGATE_CHANGE (R511): at the first frame boundary at least 49,152 ticks after the request. -/
def execSlotgateChange (s : State) : Out :=
  match s.pwr.switch with
  | some t =>
    let s1 := reachCount s (nextFrame s.frameOfs (s.pwr.accepted + 49152))
    let s2 := if t = 0 then (List.range 64).foldl (fun s p => gateOn (gateOn s p false) p true) s1 else s1
    .next (settle (reqStatus s2 3) t)
  | none => .next s

/-- The entries of the pattern from the running period on, three periods: counter values of start and end, and whether the section of a
path is idle in it (R509). -/
def idleEntries (s : State) (p : Nat) (rx : Bool) : List (Nat × Nat × Bool) :=
  let pat := s.pattern
  let base := s.now - patPos pat s.frameOfs s.now
  let one (e : Nat × PatEntry) : Bool :=
    let calHere := e.2.cal && calTargets s e.1 e.2.dur p
    -- a path that is OFF is neither TX nor CAL; it is in no GUARD either
    if s.pobj p 1 = 0 ∨ s.pathHeldOff p then ¬ rx
    else if rx then decide (e.2.dir = 2) && ¬ calHere
    else decide (e.2.dir ≠ 0) && ¬ calHere
  let starts := (pat.foldl (fun (a : Nat × List (Nat × PatEntry)) e => (a.1 + e.dur, a.2 ++ [(a.1, e)])) (0, [])).2
  let shot : Option Nat := if rx ∧ rf s .calHrxStat [] 1 0 = 1 then injectionStart s else none
  ((List.range 3).map (fun k => starts.map (fun e =>
    let a := base + k * patPeriod pat + e.1
    (a, a + e.2.dur, one e && ¬ shot.any (fun x => decide (a ≤ x ∧ x < a + e.2.dur)))))).flatten

/-- Neighbouring idle entries joined to spans. -/
def joinSpans : List (Nat × Nat × Bool) → List (Nat × Nat)
  | [] => []
  | (a, b, idle) :: t =>
    match idle, joinSpans t with
    | false, r => r
    | true, (c, d) :: r => if b = c then (a, d) :: r else (a, b) :: (c, d) :: r
    | true, [] => [(a, b)]

/-- The idle spans of a path's section of at least 8,192 ticks, the running one among them (R509). -/
def idleSpans (s : State) (p : Nat) (rx : Bool) : List (Nat × Nat) :=
  (joinSpans (idleEntries s p rx)).filter (fun x => x.1 + 8192 ≤ x.2)

/-- SECTION_GATE_OFF (R509, R510): in SLOTGATE, 256 ticks into an idle span, the section is powered down. -/
def execSectionGateOff (p : Nat) (rx : Bool) (s : State) : Out :=
  if p < 64 ∧ s.pwrState = 1 ∧ s.pwr.depth = 0 ∧ s.tlRuns ∧ spGet 0 s.pwr.gated (2 * p + b2n rx) = 0 then
    match (idleSpans s p rx).find? (fun x => s.now < x.2 - 2048) with
    | some (a, _) =>
      let s1 := reachCount s (a + 256)
      let s2 := { s1 with pwr := { s1.pwr with gated := spPut 0 s1.pwr.gated (2 * p + b2n rx) (s1.clk.elapsed + 1) } }
      .next (if rx then clockPath s2 p else s2)
    | none => .next s
  else .next s

/-- SECTION_GATE_ON (R509, R510): 2,048 ticks before the span ends the section is powered up. -/
def execSectionGateOn (p : Nat) (rx : Bool) (s : State) : Out :=
  if p < 64 ∧ spGet 0 s.pwr.gated (2 * p + b2n rx) ≠ 0 then
    match (idleSpans s p rx).find? (fun x => s.now ≤ x.2) with
    | some (_, b) => .next (gateOn (reachCount s (b - 2048)) p rx)
    | none => .next (gateOn s p rx)
  else .next s

/-- WAKE_PIN (R523, R524): the pin, having risen to its asserted level, holds it for a number of RTC cycles; 3 fire the wake. -/
def execWakePin (cycles : Nat) (s : State) : Out :=
  if 3 ≤ cycles then .next (wakeFires (reachElapsed s (s.clk.elapsed + 3 * rtcTicks)) 1) else .next s

/-- RTC_ALARM (R525): the count reaches ALARM while ALARM_EN = 1; the alarm fires once and clears ALARM_EN. -/
def execRtcAlarm (s : State) : Out :=
  if rbit s .aonAlarm [] 48 ∧ s.boot.rtcFrom.isSome ∧ s.rtc ≤ rf s .aonAlarm [] 47 0 then
    let s1 := reachElapsed s (s.clk.elapsed + (rf s .aonAlarm [] 47 0 - s.rtc) * rtcTicks)
    .next (wakeFires (wbit s1 .aonAlarm [] 48 false) 2)
  else .next s

/-- LINK_SIGNAL_DETECT (R527): a receive lane of an enabled port holds signal for 10 µs in NAP. -/
def execLinkSignalDetect (lane : Nat) (s : State) : Out :=
  if s.pwrLevel = 3 ∧ (List.range 4).any (fun n => rbit s .lnkPortCfg [n] 0 && ((portLanes s n).map (physLane s)).any (· = lane)) then
    .next (wakeFires (reachElapsed s (s.clk.elapsed + 4916)) 4)
  else .next s

/-- T1S_FRAME_WAKE (R527): a frame with a valid FCS and the device's own MAC address as destination; the frame is discarded (R507). -/
def execT1sFrameWake (dst : Nat) (fcsOk : Bool) (s : State) : Out :=
  if fcsOk ∧ dst = Config.t1sMac ∧ s.pwrLevel = 3 then .next (wakeFires s 5) else .next s

/-- The first 32 bits of AES-128-CMAC over ID and COUNTER (R530). -/
def wakeTag (key : List Byte) (b : List Byte) : List Byte := (cmac key (b.take 8)).take 4

/-- A counter lies 1 to 2³¹ - 1 beyond the last accepted one, modulo 2³² (R532). -/
def counterFresh (last c : Nat) : Bool :=
  let d := (c + 2 ^ 32 - last % 2 ^ 32) % 2 ^ 32
  decide (1 ≤ d ∧ d ≤ 2 ^ 31 - 1)

/-- DEBUG_WAKE_WORD (R523, R528): 12 bytes ID, COUNTER, TAG shifted in by TDI while DBG is powered down; slot 12 holds the debug wake ID
and key.  A word that fails a check is counted in object 0xB111 sub-index 6. -/
def execDebugWakeWord (word : List Byte) (s : State) : Out :=
  if (s.island 34).off then
    let key := (s.keySlot 12).getD []
    let c := beAt word 4 4
    if word.length = 12 ∧ key ≠ [] ∧ word.take 4 = key.take 4 ∧ (word.drop 8).take 4 = wakeTag (key.drop 4) word ∧ counterFresh s.pwr.dbgCount c then
      .next (wakeFires { s with pwr := { s.pwr with dbgCount := c } } 6)
    else .next (stat s 0xB111 6)
  else .next s

/-- THERMAL_ALARM (R526): a die temperature, in 1/64 °C, below THM_LOW or above THM_HIGH. -/
def execThermalAlarm (t : Int) (s : State) : Out :=
  if t < toSigned 8 (rf s .aonThm [] 7 0) * 64 ∨ toSigned 8 (rf s .aonThm [] 15 8) * 64 < t then .next (wakeFires s 7) else .next s

/-- The wake receiver can run: enabled, in DOZE, NAP or LISTEN (R531). -/
def State.wrxRuns (s : State) : Bool := rbit s .wrxCfg [] 0 && decide (2 ≤ s.pwrLevel ∧ s.pwrLevel ≤ 4)

/-- WRX_STAT.STATE set. -/
def wrxState (s : State) (v : Nat) : State := wf s .wrxStat [] 1 0 v

/-- WRX_SNIFF (R531): one sniff of WRXA and WRXB, every 4 ms; an envelope above the threshold begins reception on the input with the
larger envelope, measured for 8 bit times each. -/
def execWrxSniff (hit : Bool) (envA envB : Int) (s : State) : Out :=
  if s.wrxRuns ∧ rf s .wrxStat [] 1 0 ≤ 1 then
    if hit then
      let s1 := wbit (wrxState s 2) .wrxStat [] 2 (decide (envA < envB))
      .next { s1 with pwr := { s1.pwr with detect := s.clk.elapsed + 1 } }
    else .next (passTicks (wrxState s 1) (4 * msTicks))
  else if s.wrxRuns then .next s
  else .next (wrxState s 0)

/-- A rejection of kind 1 replay, 2 bad tag, 3 wrong ID or 4 no sync (R532, R534): counted, and reported at once in DOZE, else after the
next wake. -/
def wrxReject (s : State) (kind : Nat) : State :=
  let s1 := bump s .wrxCnt [kind]
  let s2 := { s1 with pwr := { s1.pwr with rejected := setIns kind s1.pwr.rejected } }
  if s2.pwrLevel ≤ 2 then reportRejected s2 else s2

/-- The frame is over: the receiver sniffs again, and a trim that fell due runs (R531, R533). -/
def wrxIdle (s : State) : State :=
  let s1 := wrxState { s with pwr := { s.pwr with detect := 0 } } 1
  if s1.pwr.trimDue then { s1 with pwr := { s1.pwr with trimDue := false, trimAt := s1.clk.elapsed } } else s1

/-- WRX_SYNC_TIMEOUT (R531): no sync within 12 ms of the detection. -/
def execWrxSyncTimeout (s : State) : Out :=
  if s.pwr.detect ≠ 0 then .next (wrxIdle (wrxReject (reachElapsed s (s.pwr.detect - 1 + 12 * msTicks)) 4)) else .next s

/-- WAKE_FRAME (R530, R532): 22 bytes; ID, then TAG under the wake key of slot 11, then COUNTER are checked. -/
def execWakeFrame (frame : List Byte) (rssi : Int) (s : State) : Out :=
  if s.wrxRuns ∧ frame.length = 22 ∧ beAt frame 8 2 = 0x6B1E then
    let s1 := wf s .wrxStat [] 10 3 (ofSigned 8 rssi)
    let body := frame.drop 10
    let c := beAt frame 14 4
    if beAt frame 10 4 ≠ rd s1 .wrxId [] then .next (wrxIdle (wrxReject s1 3))
    else match s1.keySlot 11 with
      | none => .next (wrxIdle (wrxReject s1 2))
      | some key =>
        if sliceBytes frame 18 4 ≠ wakeTag key body then .next (wrxIdle (wrxReject s1 2))
        else if ¬ counterFresh (rd s1 .wrxLastcnt []) c then .next (wrxIdle (wrxReject s1 1))
        else
          let s2 := wr (bump s1 .wrxCnt [0]) .wrxLastcnt [] c
          -- the NV copy follows while the control complex runs
          let s3 := if s2.pwrLevel ≤ 2 then { s2 with nv := { s2.nv with wrxCount := c } } else s2
          .next (wakeFires (wrxIdle s3) 3)
  else .next s

/-- WRX_TRIM (R533): every 10 s between frames the oscillator is trimmed over 1 ms; during a frame the trim waits for its end. -/
def execWrxTrim (s : State) : Out :=
  if s.wrxRuns then
    let s1 := reachElapsed s (s.pwr.trimAt + 10 * secTicks)
    if s1.pwr.detect ≠ 0 then .next { s1 with pwr := { s1.pwr with trimDue := true } }
    else .next (passTicks { s1 with pwr := { s1.pwr with trimAt := s1.clk.elapsed } } msTicks)
  else .next s

end Sys2Proof.Machine
end

