-- ==== Sys2Proof/Machine/SerialOps.lean ====
section
/-! DEFINITION. The guard serial bus: frames and pins, lists, retries, codes (chapter 3). -/

namespace Sys2Proof.Machine

/-! ## The guard serial bus (R118 to R122) -/

/-- A code is recorded and, unless it is 0, counted (R118). -/
def serialCode (s : State) (p code : Nat) : State :=
  let s1 := s.setFe p { s.pathFe p with lastErr := code }
  if code = 0 then s1 else statPath s1 p 0x11

/-- FE_MODULE_FAULT: a transaction is dropped (R119). -/
def moduleFault (s : State) (p : Nat) : State :=
  raise (setFlag s .feStat [p / 8, p % 8] 13) 12 NA p

/-! ### The frame on the bus (R112 to R117) -/

/-- A transaction is a read, and how many data bytes it carries (R115). -/
def Txn.rd (t : Txn) : Bool := bitOf t.cmd 7
/-- Data bytes. -/
def Txn.len (t : Txn) : Nat := bitsOf t.cmd 6 4 + 1
/-- The sub-device addressed. -/
def Txn.sub (t : Txn) : Nat := bitsOf t.cmd 3 1
/-- The parity of a CMD byte is odd over [7:1] with PAR: a module does not acknowledge another (R115). -/
def parityGood (cmd : Nat) : Bool := decide (((List.range 8).filter (bitOf cmd)).length % 2 = 1)

/-- Who holds FEB in one bit time: the device drives a bit and reads it back, the module acknowledges (the code of a missing acknowledge),
the module sends a data bit, or the device leaves the line alone. -/
inductive SerBit where
  | drive (b : Bool)
  | ack (code : Nat)
  | data
  | free
deriving DecidableEq, Repr

/-- A byte the device sends, most significant bit first (R114). -/
def byteBits (b : Nat) : List SerBit := (List.range 8).map (fun i => .drive (bitOf b (7 - i)))

/-- The bits between START and STOP (R114): CMD, ADDR and n data bytes, each with its acknowledge; of a read the device acknowledges every
byte but the last. -/
def Txn.bits (t : Txn) : List SerBit :=
  let data : List SerBit :=
    if t.rd then ((List.range t.len).map (fun i => List.replicate 8 .data ++ [if i + 1 = t.len then .free else .drive false])).flatten
    else ((List.range t.len).map (fun i => byteBits (t.data.getD i 0).toNat ++ [.ack 3])).flatten
  byteBits t.cmd ++ [.ack 1] ++ byteBits t.addr ++ [.ack 2] ++ data

/-- What FEB makes of a frame (R116 to R118), `feb` its levels at the rising edges of FEA of the bits that the device drives or the module
acknowledges: the code, and the bit times used.  A bit driven high that reads low is a collision; where no level is given FEB is high, as
the pull-up leaves it. -/
def serialRun : List SerBit → List Bool → Nat × Nat
  | [], _ => (0, 0)
  | .drive b :: t, feb => if b ∧ ¬ feb.headD true then (4, 1) else ((serialRun t feb.tail).1, (serialRun t feb.tail).2 + 1)
  | .ack code :: t, feb => if feb.headD true then (code, 1) else ((serialRun t feb.tail).1, (serialRun t feb.tail).2 + 1)
  | _ :: t, feb => ((serialRun t feb).1, (serialRun t feb).2 + 1)

/-- A bit time: 40 ticks, FEA high for 20 and low for 20 (R112). -/
def bitTicks : Nat := 40

/-- The length of a transaction with n data bytes: 20 + 9 n bit times (R114). -/
def txnTicks (n : Nat) : Nat := (20 + 9 * n) * bitTicks

/-- FEA and FEB `d` ticks after START (R112 to R114): START is FEB falling with FEA high, FEA 20 ticks later; each bit stands from FEA's fall
through the next high half; STOP is FEA rising with FEB low, FEB 20 ticks later.  Between them the device pulls FEB low for a 0 it
drives and leaves it to the pull-up for everything else. -/
def Txn.pins (t : Txn) (d : Nat) : Drive × Drive :=
  let half := d / 20
  let fea : Drive := if half % 2 = 0 then .high else .low
  let n := t.bits.length
  -- the bit on FEB: START's until FEA has fallen once, then bit k from the low half before its own high half; STOP's low after the last
  let feb : Drive :=
    if half = 0 then .low
    else match t.bits[(half - 1) / 2]? with
      | some (.drive false) => .low
      | some _ => .z
      | none => if half < 2 * n + 3 then .low else .z
  if 2 * n + 3 ≤ half then (.high, .z) else (fea, feb)

/-- The levels the device puts on a path's pins now (R101, R103, R106, R112). -/
def State.pins (s : State) (p : Nat) : Drive × Drive :=
  let fe := s.pathFe p
  match fe.bus with
  | some t => if t.start ≤ s.clk.elapsed then t.pins (s.clk.elapsed - t.start) else (.high, .z)
  | none => (fe.fea, match fe.febLag with
    | some (at_, d) => if s.clk.elapsed < at_ then d else fe.feb
    | none => fe.feb)

/-! ### Lists and retries (R119, R121) -/

/-- The transaction that a list entry makes on a path (R115, R122): write data from DATA, or with DSRC from FE_WDATA. -/
def txnOf (s : State) (p entry : Nat) (r : Option Retry) : Txn :=
  let w := rd s .feList [p / 8, entry]
  let data := if bitOf w 17 then rd s .feWdata [p / 8, p % 8] else bitsOf w 95 32
  ⟨entry, r, s.clk.elapsed + bitTicks, bitsOf w 7 0, bitsOf w 15 8, leBytes 8 data⟩

/-- Ticks until the exit turnaround of the guard now running begins (R104). -/
def guardLeft (s : State) : Nat :=
  match s.entryNow with
  | some (_, st, e) => st + e.dur - patPos s.pattern s.frameOfs s.now - 80
  | none => 0

/-- The next transaction on a path: of its own lists, then a retry from an earlier guard once a list has run in this one, if it can
complete before the exit turnaround begins (R119, R121). -/
def nextTxn (s : State) (p : Nat) : Option Txn :=
  let fe := s.pathFe p
  match fe.lists with
  | e :: _ => some (txnOf s p e none)
  | [] =>
    if fe.listGuard = fe.guardNo then
      -- the first retry that can complete before the exit turnaround; one that cannot is deferred (R119)
      (fe.retries.find? (fun r => decide (r.guard < fe.guardNo) &&
        decide (bitTicks + txnTicks (txnOf s p r.entry (some r)).len ≤ guardLeft s))).map (fun r => txnOf s p r.entry (some r))
    else none

/-- The transaction on a path's bus ends with a code (R118 to R121). -/
def endTxn (s : State) (p code : Nat) : State :=
  let fe := s.pathFe p
  match fe.bus with
  | none => s
  | some x =>
    let entry := x.entry
    let r := x.retry
    let w := rd s .feList [p / 8, entry]
    let lists := match r, fe.lists with
      | none, e :: t => if bitOf w 16 ∨ e = 1023 then t else (e + 1) :: t
      | _, l => l
    let retries := match r with
      | some x => fe.retries.filter (fun y => y ≠ x)
      | none => fe.retries
    let fails := (match r with
      | some x => x.fails
      | none => 0) + 1
    let defers := match r with
      | some x => x.defers
      | none => 0
    let again := decide (1 ≤ code ∧ code ≤ 7)
    let drop := again && decide (3 ≤ fails)
    let retries' := if again ∧ ¬ drop then retries ++ [⟨entry, fails, defers, fe.guardNo⟩] else retries
    let safety := decide (code = 6) && bitOf w 19
    let twice := safety && decide (spGet none fe.safety entry = some (fe.guardNo - 1)) && decide (0 < fe.guardNo)
    let s1 := s.setFe p { fe with bus := none, lists := lists, retries := retries',
                                  safety := if safety then spPut none fe.safety entry (some fe.guardNo) else fe.safety }
    let s2 := serialCode s1 p code
    let s3 := if drop then moduleFault s2 p else s2
    if twice then failPath s3 p else s3

/-- At a guard's end the retries that did not fit in it are deferred with code 9; the eighth deferral drops one (R119). -/
def deferRetries (s : State) (p : Nat) : State :=
  let fe := s.pathFe p
  if fe.listGuard = fe.guardNo ∧ fe.retries.any (fun r => r.guard < fe.guardNo) then
    let upd := fe.retries.map (fun r => if r.guard < fe.guardNo then { r with defers := r.defers + 1, guard := fe.guardNo } else r)
    let dropped := upd.filter (fun r => 8 ≤ r.defers)
    let s1 := s.setFe p { fe with retries := upd.filter (fun r => ¬ 8 ≤ r.defers) }
    let s2 := (fe.retries.filter (fun r => r.guard < fe.guardNo)).foldl (fun s _ => serialCode s p 9) s1
    dropped.foldl (fun s _ => moduleFault s p) s2
  else s

end Sys2Proof.Machine
end

