-- ==== Sys2Proof/Machine/CmdRf.lean ====
section
/-! DEFINITION. Synthesisers, hops, front-end pins, straps and the guard serial bus (chapter 3). -/

namespace Sys2Proof.Machine

/-! ## Synthesisers -/

/-- The other member of a synthesiser's pair (R89). -/
def synMate (n : Nat) : Nat := if n % 2 = 0 then n + 1 else n - 1

/-- LO_HOP (R92, R93, R95): in TDD, when the standby named is LOCKED on the preset named, both trunks switch to it and the
paths treat their synthesiser as not LOCKED until step 5; otherwise nothing moves and SYN_HOP_REFUSED is raised. -/
def execLoHop (n : Nat) (s : State) : Out :=
  .next (fireEvent s n 7 (fun _ => [9]) (fun e s =>
    let x := s.syn e.target
    if ¬ s.fdd ∧ e.target < 4 ∧ e.target = synMate s.lo.txServe ∧ x.st = .locked ∧ x.preset = e.arg % 16 then
      let s0 := s.lo.divFail.foldl (fun s p => markOff s (markKey 3 p)) s
      trunkDrop { s0 with lo := { s0.lo with txServe := e.target, rxServe := e.target,
                                             hop := some ⟨s.clk.elapsed, e.target, 1⟩, divFail := [] } } e.target
    else raise s 10 NA NA))

/-- LO_TUNE (R90, R91, R94): the synthesiser named, OFF or LOCKED, goes through CALIBRATING to the preset named. -/
def execLoTune (n : Nat) (s : State) : Out :=
  .next (fireEvent s n 8 (fun _ => [9]) (fun e s => tuneSyn s e.target (e.arg % 16)))

/-- LO_SYN_ENABLE (R90): EN is set, and a synthesiser that is OFF enters CALIBRATING. -/
def execLoSynEnable (n : Nat) (s : State) : Out :=
  if n < 4 then
    let s1 := wbit s .loSynCtrl [n] 0 true
    .next (if (s1.syn n).st = .off ∧ s1.pwr.depth ≤ 1 then tuneSyn s1 n (s1.syn n).preset else s1)
  else .next s

/-- LO_SYN_DISABLE (R90): EN is cleared, the synthesiser is OFF and its FAULT clear. -/
def execLoSynDisable (n : Nat) (s : State) : Out :=
  if n < 4 then .next (synOff (wbit s .loSynCtrl [n] 0 false) n) else .next s

/-- VCO_CALIBRATION_DONE (R90): CALIBRATING ends and the synthesiser is SETTLING. -/
def execVcoCalibrationDone (n : Nat) (s : State) : Out :=
  if n < 4 ∧ (s.syn n).st = .calibrating then
    .next (s.setSyn n { s.syn n with st := .settling, since := s.clk.elapsed })
  else .next s

/-- SYN_LOCK_ACHIEVED (R90, R99): the phase error has been inside the window for 2 µs and the synthesiser is LOCKED.
A forced retune that waited is applied. -/
def execSynLockAchieved (n : Nat) (s : State) : Out :=
  if n < 4 ∧ (s.syn n).st = .settling then
    let s1 := reachElapsed s ((s.syn n).since + 984)
    let s2 := s1.setSyn n { s1.syn n with st := .locked, retried := false, since := s1.clk.elapsed }
    .next (applyForced (trunkGood s2 n) n)
  else .next s

/-- SYN_SETTLE_TIMEOUT (R90): 30 µs without lock; the first time back to CALIBRATING, the second to OFF with FAULT and
SYN_UNLOCK. -/
def execSynSettleTimeout (n : Nat) (s : State) : Out :=
  if n < 4 ∧ (s.syn n).st = .settling then
    let s1 := reachElapsed s ((s.syn n).since + 14746)
    if (s.syn n).retried then
      .next (raise (s1.setSyn n { s1.syn n with st := .off, fault := true, retried := false, since := s1.clk.elapsed }) 8 NA NA)
    else .next (s1.setSyn n { s1.syn n with st := .calibrating, retried := true, since := s1.clk.elapsed })
  else .next s

/-- SYN_LOCK_LOSS (R90, R97): LOCKED is lost: SETTLING, the loss is counted, SYN_UNLOCK is raised, and the paths of a TX
trunk it serves drop transmit. -/
def execSynLockLoss (n : Nat) (s : State) : Out :=
  if n < 4 ∧ (s.syn n).st = .locked then
    let s1 := s.setSyn n { s.syn n with st := .settling, retried := false, since := s.clk.elapsed }
    let s2 := raise (bump s1 .loSynUnlocks [n]) 8 NA NA
    .next (trunkDrop s2 n)
  else .next s

/-- REFCLK edges in a good monitor window: 1,024 cycles of 49.152 MHz at 245.76 MHz (R90). -/
def refEdges : Nat := 5120

/-- A window's count is off by more than 100 ppm. -/
def refWindowLost (e : Nat) : Bool := 100 * refEdges < ((e : Int) - refEdges).natAbs * 1000000

/-- A window's count is within 20 ppm. -/
def refWindowGood (e : Nat) : Bool := ((e : Int) - refEdges).natAbs * 1000000 ≤ 20 * refEdges

/-- REFCLK_LOSS (R90): a monitor window off by more than 100 ppm puts every synthesiser that runs in HOLDOVER, with
SYN_REF_LOSS, and the paths of the TX trunk drop transmit. -/
def execRefclkLoss (edges : Nat) (s : State) : Out :=
  if refWindowLost edges then
    let s1 := { s with lo := { s.lo with refLoss := true } }
    .next ((List.range 4).foldl synHoldover s1)
  else .next s

/-- REFCLK_RECOVERY (R90): after 8 consecutive good windows every synthesiser in HOLDOVER is SETTLING. -/
def execRefclkRecovery (edges : List Nat) (s : State) : Out :=
  if 8 ≤ edges.length ∧ (edges.drop (edges.length - 8)).all refWindowGood then
    let s1 := { s with lo := { s.lo with refLoss := false } }
    .next ((List.range 4).foldl (fun s n =>
      if (s.syn n).st = .holdover then s.setSyn n { s.syn n with st := .settling, retried := false, since := s.clk.elapsed }
      else s) s1)
  else .next s

/-! ## Hops -/

/-- HOP_RESYNC_PULSE (R92 step 3): 737 ticks after the hop. -/
def execHopResyncPulse (s : State) : Out :=
  match s.lo.hop with
  | some h => let s1 := reachElapsed s (h.start + 737)
              .next { s1 with lo := { s1.lo with hop := some { h with step := 3 } } }
  | none => .next s

/-- HOP_DIVIDER_CHECK (R92 step 4, R95): the paths whose divider failed treat their synthesiser as not LOCKED. -/
def execHopDividerCheck (failed : List Nat) (s : State) : Out :=
  match s.lo.hop with
  | some h => let s1 := reachElapsed s (h.start + 1474)
              let s2 : State := { s1 with lo := { s1.lo with hop := some { h with step := 4 },
                                                             divFail := (failed.filter (· < 64)).foldl (fun l p => setIns p l) [] } }
              .next ((failed.filter (· < 64)).foldl (fun s p => markOn s (markKey 3 p)) s2)
  | none => .next s

/-- HOP_COMPLETE (R92 step 5): 1,967 ticks after the hop the synthesiser is reported LOCKED at the paths. -/
def execHopComplete (s : State) : Out :=
  match s.lo.hop with
  | some h => let s1 := reachElapsed s (h.start + 1967)
              .next (txGood (rxGood { s1 with lo := { s1.lo with hop := none } }))
  | none => .next s

/-- DIVIDER_RESYNC (R95): at the next symbol boundary the failed dividers are resynchronised. -/
def execDividerResync (s : State) : Out :=
  if s.lo.divFail = [] then .next s
  else let s1 := toSymbol s 43 0
       let s2 := s1.lo.divFail.foldl (fun s p => markOff (s.setFe p { s.pathFe p with divAt := s.clk.elapsed }) (markKey 3 p)) s1
       .next { s2 with lo := { s2.lo with divFail := [] } }

/-- TX_SYMBOL_START (R96, R97, R100): a symbol of carrier `cc` starts on path `p`.  While the TX trunk is not LOCKED it is
blanked and counted, with SYN_LATE unless it follows a band change within 1,967 ticks; once LOCKED, FEA takes its level again at the first
symbol boundary of the reference numerology, and a symbol that starts there or later transmits. -/
def execTxSymbolStart (p cc : Nat) (s : State) : Out :=
  if p < 64 ∧ cc < 8 ∧ s.dlOn cc ∧ s.pathState p = .tx then
    let next := nextSymbol s.frameOfs (s.ccMu cc) (s.ccEcp cc)
    -- the first reference boundary after lock comes first: FEA takes its level there
    let s0 := if (s.pathFe p).blanked ∧ s.txLocked p ∧ s.resumeAt p ≤ next s.now then resumeTx (reachCount s (s.resumeAt p)) p else s
    let s1 := toBoundary s0 (symbolKey cc) p next
    if s1.txLocked p ∧ (s1.pathFe p).blanked = false ∧ s1.resumeAt p ≤ s1.now then .next s1 else .next (blankSymbols s1 p 1)
  else .next s

/-- FORCED_RETUNE (R88, R90, R99, R123): the operator's request of object 0x3010; an unset preset does nothing.  A synthesiser that is not
LOCKED takes it once it is. -/
def execForcedRetune (role : Role) (syn preset go : Nat) (s : State) : Out :=
  if role = .operator ∧ go = 1 ∧ presetSet s syn preset then
    .next (forceTune s syn preset)
  else .next s

/-! ## Pins -/

/-- TURNAROUND_STEP (R103, R104): the next step of the path's turnaround, at its tick.  In a guard with none under way, the
turnaround out of the guard starts 80 ticks before the guard's end, toward the entry that follows. -/
def execTurnaroundStep (p : Nat) (s : State) : Out :=
  if p < 64 then
    match (s.pathFe p).turn with
    | some t => .next (turnStep (reachElapsed s (t.start + turnDue t)) p)
    | none => .next (startExitTurn s p)
  else .next s

/-- LNA_BYPASS (R106): FEA is driven low, then FEB low 20 ticks later. -/
def execLnaBypass (p : Nat) (s : State) : Out :=
  if p < 64 then .next (lnaChange s p true) else .next s

/-- LNA_RETURN (R106): FEA is driven high, then FEB released 20 ticks later. -/
def execLnaReturn (p : Nat) (s : State) : Out :=
  if p < 64 then .next (lnaChange s p false) else .next s

/-- OVERLOAD_DEASSERT (R107): the module releases FEB. -/
def execOverloadDeassert (p : Nat) (s : State) : Out :=
  if p < 64 then .next (s.setFe p { s.pathFe p with ovl := false }) else .next s

/-! ## Straps and reset phase -/

/-- One strap bit from its samples; none where they disagree. -/
def strapBit (samples : List Nat) (i : Nat) : Option Bool :=
  match samples.map (fun w => bitOf w i) with
  | [] => none
  | b :: t => if t.all (· = b) then some b else none

/-- A strap field from its bits; a bit whose samples disagree takes its default. -/
def strapField (samples : List Nat) (lo n dflt : Nat) : Nat :=
  ((List.range n).map (fun i => b2n ((strapBit samples (lo + i)).getD (bitOf dflt i)) * 2 ^ i)).sum

/-- STRAP_SAMPLE (R108, R109): the eight samples of the 64 FEA and the 64 FEB pins; a bit whose samples disagree takes its
default and STRAP_DISAGREE is raised for its path.  The samples are taken in the reset phase, the last 58 cycles after PWRGOOD rises. -/
def execStrapSample (fea feb : List Nat) (s : State) : Out :=
  if fea.length = 8 ∧ feb.length = 8 ∧ (s.pathFe 0).phase = .reset ∧ (s.pathFe 0).turn.isNone then
    let s := reachElapsed s (s.boot.startAt + 58 * s.strapCycle)
    let st : Straps := ⟨strapField feb 0 2 0, strapField feb 2 8 255, strapField feb 10 2 0 + 1⟩
    let bad := (List.range 64).filter (fun p => (strapBit feb p).isNone || (strapBit fea p).isNone)
    .next (bad.foldl (fun s p => raise s 13 NA p) { s with straps := st })
  else .next s

/-- RESET_PHASE_END (R108, R111): 72 RTC cycles after PWRGOOD every path in the reset phase enters OFF, at the safe levels the NV store
holds for it, through a turnaround. -/
def execResetPhaseEnd (s : State) : Out :=
  .next ((List.range 64).foldl (fun s p =>
    if (s.pathFe p).phase = .reset ∧ (s.pathFe p).turn.isNone then
      startTurn (s.setFe p { s.pathFe p with safeNv := spGet 0 s.nv.safe p }) p .off else s)
    (if (s.pathFe 0).phase = .reset then reachElapsed s (s.boot.startAt + 72 * s.strapCycle) else s))

/-! ## Guard serial bus -/

/-- FE_SERIAL (R121): the list named is queued on each path of the target; with SER_EN 0, or four lists queued, it is
discarded with code QUEUE_FULL. -/
def execFeSerial (n : Nat) (s : State) : Out :=
  .next (fireEvent s n 9 (fun e => targetClusters e.target) (fun e s =>
    (targetPaths e.target).foldl (fun s p =>
      if (s.island (p / 8)).off then s
      else if rbit s .feCtrl [p / 8] 0 ∧ (s.pathFe p).lists.length < 4 then
        s.setFe p { s.pathFe p with lists := (s.pathFe p).lists ++ [e.arg % 1024] }
      else serialCode s p 8) s))

/-- SERIAL_TRANSACTION (R114, R116, R119, R121): in GUARD or CAL, after the entry turnaround, the next transaction of the
path's lists starts, and after them a retry that fits in this guard.  Its idle bit comes first: FEB low in it, and the transaction is not
sent, code BUS_LOW. -/
def execSerialTransaction (p : Nat) (febLow : Bool) (s : State) : Out :=
  if p < 64 ∧ (s.pathFe p).phase = .guard ∧ (s.pathFe p).turn.isNone ∧ (s.pathFe p).bus.isNone then
    match nextTxn s p with
    | some t =>
      let fe := s.pathFe p
      let s1 := s.setFe p { fe with bus := some t, listGuard := if t.retry.isNone then fe.guardNo else fe.listGuard }
      .next (if febLow then endTxn s1 p 5 else s1)
    | none => .next s
  else .next s

/-- SERIAL_TRANSACTION_DONE (R112 to R118, R122): the transaction on the bus ends, `feb` being FEB at the rising edges of FEA of the bits the
device drives and the module acknowledges, `rdata` the bytes the module sends.  A missing acknowledge or a bit pulled low ends it there, and a STOP follows.  Read data go to FE_RDATA, and those of an entry
marked TEMP to the thermal model; a CHECK compares bytes 0 to 3 with EXPECT under MASK.  The code is recorded and counted; codes 1 to 7
are retried.  The pins are left as a STOP leaves them. -/
def execSerialTransactionDone (p : Nat) (feb : List Bool) (rdata : List Byte) (s : State) : Out :=
  if p < 64 then
    match (s.pathFe p).bus with
    | some t =>
      let w := rd s .feList [p / 8, t.entry]
      let (code, used) := serialRun t.bits feb
      let s1 := reachElapsed s (t.start + (used + 2) * bitTicks)
      let s2 := s1.setFe p { s1.pathFe p with fea := .high, feb := .z }
      if code = 0 ∧ t.rd then
        let v := leNum (sliceBytes rdata 0 t.len)
        let s3 := wr s2 .feRdata [p / 8, p % 8] v
        let s4 := if bitOf w 20 then moduleTemp s3 p v t.len else s3
        let bad := bitOf w 18 && decide (Nat.land (Nat.xor (v % 2 ^ 32) (bitsOf w 63 32)) (bitsOf w 127 96) ≠ 0)
        .next (endTxn s4 p (if bad then 6 else 0))
      else .next (endTxn s2 p code)
    | none => .next s
  else .next s

end Sys2Proof.Machine
end

