-- ==== Sys2Proof/Machine/Dsp.lean ====
section
/-! DEFINITION. Signal processing symbol by symbol: the receive channels and PRACH extractors (chapter 5), and the transmit stages before the
stream (chapter 6). -/

namespace Sys2Proof.Machine

/-! ## Receive channel (R165 to R172, R181, R187 to R189) -/

/-- FFT points of a carrier. -/
def State.ccPoints (s : State) (cc : Nat) : Nat := s.onum (0x4400 + cc) 1

/-- The group delay D of a receive channel in ADC samples: that of its filters, and its integer delay (R171). -/
def State.chanDelay (s : State) (p cc : Nat) : Nat :=
  let ix := [p / 8, s.laneOf p, cc]
  groupDelay (rd s .chTaps ix) (s.ccHalfbands cc) (rbit s .chCfg ix 10) + rf s .chCfg ix 16 11 * 5 * 2 ^ s.ccHalfbands cc

/-- The calibrated path delay of the receive path (item 0x10) in output samples of a carrier, fixed point; none with PC_EN = 0 (R187, R188). -/
def State.rxPathDelay (s : State) (p cc : Nat) : Int :=
  if rbit s .chFft [p / 8, s.laneOf p, cc] 21 then delaySamples ((s.calItem p 0x10).now.d.getD 0 0) (s.ccHalfbands cc) else 0

/-- Ticks by which a channel's FFT window moves: the whole samples of D plus the calibrated path delay (R187). -/
def State.windowShift (s : State) (p cc : Nat) : Nat :=
  let h := s.ccHalfbands cc
  ((s.chanDelay p cc / (5 * 2 ^ h) : Nat) + s.rxPathDelay p cc / 2 ^ fxBits : Int).toNat * 2 ^ h

/-- Index of the gain state of a path for item 0x15: the attenuation, or 31 with the LNA bypassed. -/
def gainState (att : Nat) (byp : Bool) : Nat := if byp then 31 else att

/-- The gain state that a sample of elapsed tick `t` passed: that after the newest change whose analogue latency, the calibrated one of the state it
led to, had passed by then; `after` is the state that follows the changes, newest first, each with the state before it (R181). -/
def gainAt (lat : List Int) (delay t after : Nat) : List (Nat × Nat) → Nat
  | [] => after
  | (c, was) :: l =>
    if c + (lat.getD after 0 * 491520000 / 10 ^ 18).toNat + delay ≤ t then after else gainAt lat delay t was l

/-- Samples of a channel multiplied by the calibrated gain of the attenuator and LNA state that they passed: the new state's from the sample
that the change's analogue latency reaches (R181).  The last sample leaves the channel at elapsed tick `last`, `per` ticks a sample, D
ticks after it was taken. -/
def gainComp (s : State) (p last per delay : Nat) (x : List Cplx) : List Cplx :=
  let g := s.rxg p
  let v := (s.calItem p 0x15).now
  (x.zip (List.range x.length)).map (fun e =>
    let st := gainAt v.d delay (last - (x.length - 1 - e.2) * per) (gainState g.att (s.pathFe p).lnaByp) ((g.changed, g.was) :: g.hist)
    let f := fxScale (calFactor (v.g.getD st 0)) (fxUnit (phaseTurn (v.ph.getD st 0)))
    if f = ⟨2 ^ fxBits, 0⟩ then e.1 else dspRoundC 2 (cmul e.1 f))

/-- The slice-corrected samples of a path, 12-bit LSB, as the IQ corrector puts them out in Q15 (R165, R168; DEDUCED, assumption 165: full scale of
the converter is full scale of Q15), and the saturations of the newest `fresh`. -/
def iqCorrected (s : State) (p fresh : Nat) (x : List Cplx) : List Cplx × Nat :=
  corrector false ((s.calItem p 0x01).now.x.take 2) (s.calItem p 0x10).now.x 16 0 fresh (x.map (fun c => ⟨16 * c.re, 16 * c.im⟩))

/-- ADC samples of the newest span that ends `off` ticks ago which channel `k` of a path has not counted saturations of yet (R170). -/
def State.freshSamples (s : State) (p k off : Nat) : Nat := 5 * (s.clk.elapsed - off - spGet 0 s.rx.satAt (p * 16 + k))

/-- Stages 3 to 7 of a channel: the output samples up to now, the saturations not yet counted (R165, R168, R170).  `x` are the slice-corrected ADC
samples up to now; those taken before the last SYNC have left no trace in the delay lines (R172), and outputs fall on the channel's grid. -/
def rxChannel (s : State) (p cc : Nat) (x : List Cplx) : List Cplx × Nat :=
  let h := s.ccHalfbands cc
  let ix := [p / 8, s.laneOf p, cc]
  let f := chanFilters (rd s .chTaps ix) (rd s .chSh ix) (rbit s .chCfg ix 10) (spGet [] s.rx.coef ((p / 8 * 9 + s.laneOf p) * 8 + cc))
  let run := 5 * (s.clk.elapsed - s.rx.sync.at_)
  let off := framePos s.frameOfs s.now % 2 ^ h
  let x0 := lastN run x
  let x1 := x0.take (x0.length - 5 * off)
  let fresh := min x1.length (s.freshSamples p cc off)
  let x2 := iqCorrected s p fresh x1
  let x3 := mix (-(toSigned 32 (ncoWord s cc false))) (run - 5 * off) 2 1 fresh x2.1
  let x4 := decimate 5 fresh [f.five] x3.1
  let x5 := decimate 2 x4.2.1 (f.hb.take h) x4.1
  let x6 := decimate 1 x5.2.1 f.cf.toList x5.1
  let dly := rf s .chCfg ix 16 11
  let x7 := (List.replicate dly (⟨0, 0⟩ : Cplx) ++ x6.1).take x6.1.length
  let x8 := satNew 18 x6.2.1 (gainComp s p (s.clk.elapsed - off) (2 ^ h) (s.chanDelay p cc / 5) x7)
  (x8.1, x2.2 + x3.2 + x4.2.2 + x5.2.2 + x6.2.2 + x8.2)

/-- The path correction of subcarrier k (R188): the calibrated gain and phase of item 0x10 less the RX gain trim of item 0x01 (R350), and exp(j 2π k δ / N_FFT), δ the fractions of D
and of the calibrated delay plus WIN_OFS. -/
def pathCorrection (s : State) (p cc k : Nat) : Cplx :=
  let h := s.ccHalfbands cc
  let n := s.ccPoints cc
  let v := (s.calItem p 0x10).now
  let pc := rbit s .chFft [p / 8, s.laneOf p, cc] 21
  let d : Int := (s.chanDelay p cc % (5 * 2 ^ h)) * 2 ^ fxBits / (5 * 2 ^ h) + s.rxPathDelay p cc % 2 ^ fxBits + s.ccWinOfs cc * 2 ^ fxBits
  let u := fxUnit ((k : Int) * d / (n : Int) + if pc then phaseTurn (v.ph.getD 0 0) else 0)
  if pc then fxScale (calFactor (v.g.getD 0 0 - (s.calItem p 0x01).now.g.getD 1 0)) u else u

/-- Stage 8 (R188, R189): the window's FFT with FFT_SH halvings, the 12 N subcarriers in ascending order, corrected, TS 38.211's phase term
of the symbol taken off; 16 bits.  `start` is the tick of the useful symbol's start. -/
def rxRes (s : State) (p cc start : Nat) (win : List Cplx) : List Cplx × Nat :=
  let n := s.ccPoints cc
  let m := 12 * s.onum (0x2010 + cc) 5
  let term := fxUnit (symbolTurn (s.onum (0x2010 + cc) 3) (framePos s.frameOfs start))
  if win.all (fun c => decide (c = (⟨0, 0⟩ : Cplx))) then (List.replicate m ⟨0, 0⟩, 0)
  else
    let f := fft (-1) 3 (s.ccFftExp cc) (rf s .chSh [p / 8, s.laneOf p, cc] 39 36) win
    satAll 16 ((List.range m).map (fun (k : Nat) =>
      -- two fraction bits lie below Q15 (R168)
      let x := f.getD (((k : Int) - (m / 2 : Nat)) % (n : Int)).toNat ⟨0, 0⟩
      if x = ⟨0, 0⟩ then ⟨0, 0⟩ else
        dspRoundC 3 (fxCMul (fxCMul ⟨x.re * 2 ^ (fxBits - 2), x.im * 2 ^ (fxBits - 2)⟩ (pathCorrection s p cc k)) term)))

/-- The path's receive chain delivers at a tick: it is not OFF and the entry then running is a U in TDD, a D in FDD (R190). -/
def State.rxAt (s : State) (p t : Nat) : Bool :=
  decide (s.pathState p ≠ .off) && s.tlRuns && (match patFind s.pattern 0 0 (patPos s.pattern s.frameOfs t) with
    | some (_, _, e) => decide (e.dir = if s.fdd then 0 else 1)
    | none => false)

/-- The word of PRACH extractor `j` in the lane that serves a path (R193). -/
def State.prachWord (s : State) (p j : Nat) : Nat := rd s .prch [p / 8, s.laneOf p, j]

/-- The subcarrier of its carrier on which the centre of PRACH extractor `j` lies (R194; DEDUCED, assumption 24). -/
def prachCentre (s : State) (p j cc : Nat) : Nat :=
  let d := toSigned 32 (bitsOf (s.prachWord p j) 63 32) - toSigned 32 (ncoWord s cc false)
  (((12 * s.onum (0x2010 + cc) 5 / 2 : Nat) : Int) + d * ((5 * 2 ^ s.ccHalfbands cc * s.ccPoints cc : Nat) : Int) / 2 ^ 32).toNat

/-- A preamble format (R192, TS 38.211 tables 6.3.3.1-1 and 6.3.3.1-2; PRESUMED, assumption 166): N_CP and N_u in units of 1 / 30.72 MHz, before the
2^-μ of the short formats, and the repetitions. -/
def prachFormat (fmt : Nat) : Nat × Nat × Nat :=
  ([(3168, 24576, 1), (21024, 49152, 2), (4688, 98304, 4), (3168, 24576, 4), (288, 4096, 2), (576, 8192, 4), (864, 12288, 6), (216, 4096, 2),
    (360, 8192, 4), (504, 12288, 6), (936, 24576, 12), (1240, 2048, 1), (2048, 8192, 4)] : List (Nat × Nat × Nat)).getD fmt (0, 0, 0)

/-- The cyclic prefix of a preamble that starts at a counter value, and its N_u, in ticks: a short preamble's prefix grows by 16 κ for every start of
a half subframe that the preamble overlaps (TS 38.211, 5.3.2). -/
def prachSpan (s : State) (w start : Nat) : Nat × Nat :=
  let f := prachFormat (bitsOf w 7 4)
  if bitsOf w 7 4 ≤ 3 then (16 * f.1, 16 * f.2.1)
  else
    let mu := bitsOf w 9 8
    let cp := 16 * f.1 / 2 ^ mu
    let u := 16 * f.2.1 / 2 ^ mu
    let a := framePos s.frameOfs start
    (cp + 256 * (ceilDiv (a + cp + u) halfTicks - ceilDiv a halfTicks), u)

/-- Halfband stages of a PRACH extractor, and the points of its FFT (R192). -/
def prachStages (w : Nat) : Nat × Nat :=
  let fmt := bitsOf w 7 4
  if fmt ≤ 2 then (8, 1536) else if fmt = 3 then (6, 1536) else (7 - bitsOf w 9 8, 256)

/-- The fixed filters of the extractors (R193): D5 and the halfbands, unit gain with 17 fraction bits; the manual gives no coefficients. -/
def prachFilters : ChanFilters :=
  let tap (s i : Nat) : Int := Config.fixedFilter s i / 2 ^ (fxBits - 17)
  ⟨(symTaps 119 ((List.range 60).map (tap 0)), 17), (List.range 8).map (fun k => (hbTaps 11 ((List.range 12).map (tap (k + 1))), 17)), none⟩

/-- The group delay of an extractor in ADC samples, its filters as long as those of R169 may be (assumption 167). -/
def prachDelay (w : Nat) : Nat := 59 + 115 * (2 ^ (prachStages w).1 - 1)

/-- The samples of PRACH extractor `j` of a path up to now: NCO, D5 and halfbands, on the grid of its rate, and the saturations not yet counted
(R165, R170, R172, R193). -/
def prachChannel (s : State) (p j : Nat) (x : List Cplx) : List Cplx × Nat :=
  let w := s.prachWord p j
  let h := (prachStages w).1
  let run := 5 * (s.clk.elapsed - s.rx.sync.at_)
  let off := framePos s.frameOfs s.now % 2 ^ h
  let x0 := lastN run x
  let x1 := x0.take (x0.length - 5 * off)
  let fresh := min x1.length (s.freshSamples p (8 + j) off)
  let x2 := iqCorrected s p 0 x1
  let x3 := mix (-(toSigned 32 (bitsOf w 63 32))) (run - 5 * off) 2 1 fresh x2.1
  let x4 := decimate 5 fresh [prachFilters.five] x3.1
  let x5 := decimate 2 x4.2.1 (prachFilters.hb.take h) x4.1
  let x6 := satNew 18 x5.2.1 (gainComp s p (s.clk.elapsed - off) (2 ^ h) (prachDelay w / 5) x5.1)
  (x6.1, x3.2 + x4.2.2 + x5.2.2 + x6.2)

/-- The L_RA bins of one repetition in ascending order (R194): the FFT of its samples, with the path correction at the PRACH frequency applied; 16
bits.  How far the FFT scales, the manual does not say: its value is free but for silence (assumption 168). -/
def prachBins (s : State) (p j : Nat) (win : List Cplx) : List Cplx × Nat :=
  let w := s.prachWord p j
  let n := (prachStages w).2
  let m := if bitsOf w 7 4 ≤ 3 then 839 else 139
  let c := pathCorrection s p (bitsOf w 3 1) (prachCentre s p j (bitsOf w 3 1))
  if win.all (fun c => decide (c = (⟨0, 0⟩ : Cplx))) then (List.replicate m ⟨0, 0⟩, 0)
  else
    let pairs := win.zip ((List.range win.length).map (fun (i : Nat) => (i : Int)))
    satAll 16 ((List.range m).map (fun (k : Nat) =>
      let x := dftSum n (-1) ((k : Int) - (m / 2 : Nat)) pairs
      if x = ⟨0, 0⟩ then ⟨0, 0⟩ else dspRoundC 15 (fxCMul ⟨x.re / 2 ^ (2 + Config.prachShift), x.im / 2 ^ (2 + Config.prachShift)⟩ c)))

/-- The repetitions of an occasion from the extractor's samples, of which the last is the preamble's last: CP removed, one FFT each (R194). -/
def prachReps (s : State) (p j : Nat) (y : List Cplx) : List Cplx × Nat :=
  let w := s.prachWord p j
  let n := (prachStages w).2
  let k := (prachFormat (bitsOf w 7 4)).2.2
  let all := lastN (k * n) y
  (List.range k).foldl (fun a i =>
    let b := prachBins s p j ((all.drop (i * n)).take n)
    (a.1 ++ b.1, a.2 + b.2)) ([], 0)

/-- Fine-path power of samples in 0.1 dBFS: mean of I² + Q² against full scale (R177). -/
def finePower (l : List Cplx) : Int := if l.length = 0 then -2000 else dbFloor ((l.map magSq).sum) (l.length * 2 ^ 34) / 10

/-! ## Fast coarse path (R176, R184) -/

/-- An estimate in 0.25 dB steps: the greatest step not above 10 log₁₀ of the mean of I² + Q² over that of a sinusoid of amplitude 2,047,
from -60 to +3 dBFS (the step is the one below: DESIGN CHOICE, assumption 112). -/
def coarsePower (l : List Cplx) : Int := clampI (-240) 12 (dbFloor ((l.map magSq).sum) (l.length * 2047 * 2047) / 25)

/-- The same estimate referred to the gain with the LNA in circuit: less the calibrated gain of the bypass state, plus that of the attenuator
state (R184, item 0x15). -/
def referredPower (s : State) (p : Nat) (est : Int) : Int :=
  let g := (s.calItem p 0x15).now.g
  if (s.pathFe p).lnaByp then est + (g.getD 31 0 - g.getD (s.rxg p).att 0) / 250000 else est

/-! ## Transmit channel (R205 to R214) -/

/-- Σ I² + Q² of a symbol. -/
def energySum (l : List Cplx) : Nat := (l.map magSq).sum

/-- The limiter factor of R218 in 2⁻¹²: with `e` the sum of I² + Q² over `n` REs, the largest k up to 4,096 with
(k / 4,096)² e / n ≤ E_ref, E_ref = 10^(REF / 10) against a Q15 magnitude of 1. -/
def limiterScale (e n : Nat) (refC : Int) : Nat :=
  let r := pow10 refC
  -- E_ref in Q30 scaled by 2^fxBits; e ≤ n * E_ref
  if e * 2 ^ fxBits ≤ n * 2 ^ 30 * r then 4096
  else min 4095 (Nat.sqrt (n * 2 ^ 30 * r * 2 ^ 24 / (e * 2 ^ fxBits)))

/-- The REs of a symbol times the limiter factor; a symbol that is not limited passes unscaled (R218). -/
def limitRes (k : Nat) (l : List Cplx) : List Cplx :=
  if k < 4096 then l.map (fun c => dspRoundC 16 ⟨c.re * k * 2 ^ (fxBits - 12), c.im * k * 2 ^ (fxBits - 12)⟩) else l

/-- The bins of a symbol (R212): its REs on subcarriers 0 to 12 N - 1, turned by the calibrated path delay and phase of item 0x11 and by TS
38.211's phase term at the start of the useful symbol; every other bin is 0. -/
def txBins (s : State) (p cc useful : Nat) (res : List Cplx) : List Cplx :=
  let n := s.ccPoints cc
  let m := res.length
  let v := (s.calItem p 0x11).now
  let pc := rbit s .txchCfg [p / 8, s.laneOf p, cc] 20
  let d : Int := if pc then delaySamples (v.d.getD 0 0) (s.ccHalfbands cc) else 0
  let ph : Int := if pc then phaseTurn (v.ph.getD 0 0) else 0
  let term := symbolTurn (s.onum (0x2010 + cc) 3) (framePos s.frameOfs useful)
  (List.range n).map (fun b =>
    -- the subcarrier on bin b
    let k := (b + m / 2) % n
    let c := if k < m then res.getD k ⟨0, 0⟩ else ⟨0, 0⟩
    if c = ⟨0, 0⟩ then c else dspRoundC 4 (cmul c (fxUnit (-((k : Int) * d / (n : Int)) - ph - term))))

/-- The inverse FFT with IFFT_SH halvings: 16-bit samples (R213). -/
def txIfft (s : State) (p cc : Nat) (bins : List Cplx) : List Cplx × Nat :=
  if bins.all (fun c => decide (c = (⟨0, 0⟩ : Cplx))) then (bins, 0)
  else satAll 16 (fft 1 5 (s.ccFftExp cc) (rf s .txchSh [p / 8, s.laneOf p, cc] 39 36) bins)

/-- Samples of the cyclic prefix of the symbol that starts at a tick (R41). -/
def State.cpSamples (s : State) (cc start : Nat) : Nat :=
  let mu := s.ccMu cc
  let ecp := s.ccEcp cc
  ((if ecp then 2048 else 2304 / 2 ^ mu) + if ¬ ecp ∧ framePos s.frameOfs start % halfTicks = 0 then 256 else 0) / 2 ^ s.ccHalfbands cc

/-- The symbol with its prefix, its first `w` samples ramped up, and its postfix of `w` samples, ramped down (R214). -/
def txWindow (cp w : Nat) (body : List Cplx) : List Cplx × List Cplx :=
  let l := body.drop (body.length - cp) ++ body
  let at_ (f : Int) (c : Cplx) : Cplx := dspRoundC 6 ⟨c.re * f, c.im * f⟩
  ((l.zip (List.range l.length)).map (fun e => if e.2 < w then at_ (rampWeight w e.2) e.1 else e.1),
   ((body.take w).zip (List.range w)).map (fun e => at_ (2 ^ fxBits - rampWeight w e.2) e.1))

/-- The antenna REs of a symbol as samples: limited, transformed, with prefix and postfix, windowed (R212 to R214, R218); the samples, the postfix,
and the saturations. -/
def txSymbol (s : State) (p cc start sc : Nat) (res : List Cplx) : List Cplx × List Cplx × Nat :=
  let cp := s.cpSamples cc start
  let b := txIfft s p cc (txBins s p cc (start + cp * 2 ^ s.ccHalfbands cc) (limitRes sc res))
  let w := txWindow cp (s.onum (0x2100 + cc) 3) b.1
  (w.1, w.2, b.2)

/-! ## Slots (R215, R217, R227, R276) -/

/-- Length of the slot of the reference numerology that ends at a tick. -/
def State.slotEnded (s : State) (t : Nat) : Nat :=
  let longest := if s.refEcp then 122880 else 14 * (35072 / 2 ^ s.refMu) + if s.refMu = 0 then 512 else 256
  t - nextSlot s.frameOfs s.refMu s.refEcp (t - longest)

/-- The composite power of a path in 0.01 dBm: P_FS and the mean of |composite|² against full scale (R217). -/
def compositePower (s : State) (p energy count : Nat) : Int := s.pFs p + dbFloor energy (count * 2 ^ 34)

end Sys2Proof.Machine
end

