-- ==== Sys2Proof/Machine/CmdRx.lean ====
section
/-! DEFINITION. The receive chain (chapter 5): SYNC, gain control and limiter, FFT windows, PRACH, lane moves and rolls. -/

namespace Sys2Proof.Machine

/-! ## SYNC -/

/-- SYNC (R173): the timeline event requests a SYNC at its tick; it reaches every cluster. -/
def execSync (n : Nat) (s : State) : Out :=
  .next (fireEvent s n 6 (fun _ => List.range 8) (fun _ s => requestSync s s.now))

/-- SYNC_PIN_EDGE (R173): with PIN_EN, an edge stamped to `tick` within ±1 tick requests a SYNC. -/
def execSyncPinEdge (tick : Nat) (s : State) : Out :=
  if rbit s .tlSync [] 0 then
    .next (requestSync s (if tick + 1 < s.now ∨ s.now + 1 < tick then s.now else tick))
  else .next s

/-- SYNC_NOW (R173, R204): a write of TL_SYNC.NOW by the device tag, or debug at D2 or above. -/
def execSyncNow (tag : Nat) (s : State) : Out :=
  .next (tagged s .tlSync [] tag syncWrite)

/-- SYNC_REQUEST_OBJECT (R173): an operator or service write of object 0x4010 sub-index 2; a tick that has passed counts as
now. -/
def execSyncRequestObject (role : Role) (tick : Nat) (s : State) : Out :=
  match role with
  | .tenant _ => .next s
  | _ => .next (requestSync s (max tick s.now))

/-- SYNC_TAKE_EFFECT (R172, R174, R175, R210): at t_s every decimator, interpolator and NCO is cleared and phased to the
frame grid; TL_SYNC_LAST and RX_SYNC tell it, and every channel fills.  A SYNC in warm-up restarts it (R199). -/
def execSyncTakeEffect (s : State) : Out :=
  match s.rx.sync.pending with
  | [] => .next s
  | t :: rest =>
    let s1 := reachCount s t
    let y : Sync := ⟨rest, List.range 8, s1.clk.elapsed, t⟩
    -- the transmit channels' delay lines are cleared (R210)
    let s2 := { s1 with rx := { s1.rx with sync := y },
                        air := { s1.air with paths := s1.air.paths.map (fun a => (a.1, { a.2 with chans := [] })) } }
    let s2 := (List.range 8).foldl (fun s cc => markSpan s (markKey 9 cc) s1.clk.elapsed
      (s1.clk.elapsed + (nextSymbol s1.frameOfs (s1.ccMu cc) (s1.ccEcp cc) (t + 16384) - t))) s2
    -- a request made again meanwhile keeps NOW set (R7)
    let s3 := wbit (wr s2 .tlSyncLast [] t) .tlSync [] 1 (rest ≠ [])
    .next (raise ((List.range 8).foldl restartWarm s3) 43 NA NA)

/-- SYNC_FILL_END (R175, R210): at the carrier's first symbol boundary at least 16,384 ticks after t_s. -/
def execSyncFillEnd (cc : Nat) (s : State) : Out :=
  if cc ∈ s.rx.sync.filling then
    let s1 := reachElapsed s (s.rx.sync.at_ + 16384)
    let s2 := reachCount s1 (nextSymbol s1.frameOfs (s1.ccMu cc) (s1.ccEcp cc) s1.now)
    .next { s2 with rx := { s2.rx with sync := { s2.rx.sync with filling := s2.rx.sync.filling.filter (· ≠ cc) } } }
  else .next s

/-! ## Fast coarse path, gain control and limiter -/

/-- A threshold of RXG_CTRL, 0.5 dBFS, in the estimates' 0.25 dBFS. -/
def rxgTh (w lo : Nat) : Int := 2 * toSigned 8 (w >>> lo)

/-- FAST_PATH_ESTIMATE (R141, R176 to R179, R183, R185, R186): the estimate over the last 64 slice-corrected samples is published; new
overrange samples are counted.  The first window after a change holds the first 64 samples after it: none is formed sooner.  In RX
the limiter comes first: a bypass, alone, and no attack for 64 samples.  Otherwise two estimates in a row over ATK_TH, or two
overrange samples in a window, make an attack. -/
def execFastPathEstimate (p : Nat) (xi xq : List Int) (ovr ovrNew : Nat) (s : State) : Out :=
  let x := lastN 64 ((xi.zip xq).map (fun e => (⟨e.1, e.2⟩ : Cplx)))
  if p < 64 ∧ x.length = 64 ∧ ((s.rxg p).changed = 0 ∨ (s.rxg p).changed + 13 ≤ s.clk.elapsed) then
    let e := coarsePower x
    .next (fastEstimate s p e (referredPower s p e) ovr ovrNew)
  else .next s

/-- AGC_RELEASE (R180): at a symbol boundary, in AGC mode, 1 dB less when every estimate of the symbol was below REL_TH and
no attack holds it, and never below BASE_ATT.  Outside RX it holds its state (R186). -/
def execAgcRelease (p : Nat) (s : State) : Out :=
  if p < 64 then
    let s1 := toSymbol s 70 p
    let w := s1.rxgCtrl p
    let g := s1.rxg p
    let base := bitsOf w 4 0
    if s1.receives p ∧ bitsOf w 6 5 = 2 ∧ g.below ∧ g.noRelease ≤ s1.clk.elapsed ∧ base < g.att then
      .next (setAtt (s1.setRxg p { g with below := true }) p (g.att - 1))
    else .next (s1.setRxg p { g with below := s1.receives p || g.below })
  else .next s

/-- LIMITER_LNA_RETURN (R184): at a symbol boundary, once LNA_HOLD symbols in a row had every estimate below LNA_RET, the
LNA is put back in circuit. -/
def execLimiterLnaReturn (p : Nat) (s : State) : Out :=
  if p < 64 then
    let s1 := toSymbol s 71 p
    let w := s1.rxgCtrl p
    let g := s1.rxg p
    let n := if ¬ s1.receives p then g.quietSyms else if g.quiet then g.quietSyms + 1 else 0
    if s1.receives p ∧ (s1.pathFe p).lnaByp ∧ bitsOf w 47 44 ≤ n then
      .next (lnaChange (s1.setRxg p { g with quiet := true, quietSyms := 0 }) p false)
    else .next (s1.setRxg p { g with quiet := s1.receives p || g.quiet, quietSyms := n })
  else .next s

/-- OVERLOAD_ASSERT (R107, R183, R185): two low samples of the overload input, when it is looked at: the sticky flag, the
count and FE_OVERLOAD, and the limiter bypasses the LNA. -/
def execOverloadAssert (p : Nat) (s : State) : Out :=
  let fe := s.pathFe p
  if p < 64 ∧ fe.phase = .rx ∧ fe.turn.isNone ∧ ¬ fe.lnaByp ∧ fe.ovlFrom ≤ s.clk.elapsed ∧ ¬ fe.ovl ∧ ¬ s.fdd then
    let s1 := s.setFe p { fe with ovl := true }
    let s2 := raise (statPath (setFlag s1 .feStat [p / 8, p % 8] 4) p 0x15) 11 NA p
    .next (if bitOf (s2.rxgCtrl p) 7 then limiterBypass s2 p else s2)
  else .next s

/-! ## FFT windows and PRACH -/

/-- RX_FFT_WINDOW_END (R165 to R172, R177, R181, R187 to R190): at the end of the window, WIN_OFS samples before the symbol's end and later by
the delay that the window follows, the channel delivers the 12 N corrected REs of the slice-corrected samples `xi` and `xq` that came up to
then, and the fine power.  `sat` are the saturations inside the FFT, of its own word lengths.  The symbol carries the mirage flag when any
sample of the window did.  A symbol that is not received delivers nothing. -/
def execRxFftWindowEnd (p cc : Nat) (xi xq : List Int) (sat : Nat) (s : State) : Out :=
  if p < 64 ∧ s.ulOn cc ∧ s.laneWorks p then
    let ofs := s.ccWinOfs cc * 2 ^ s.ccHalfbands cc
    let w := s.windowShift p cc
    let s1 := toBoundary s (72 * 64 + cc) p (fun t => nextSymbol s.frameOfs (s.ccMu cc) (s.ccEcp cc) (t + ofs - w) + w - ofs)
    if s1.rxAt p (s1.now - w - 1) then
      let len := 32768 / 2 ^ s.ccMu cc
      let c := rxChannel s1 p cc ((xi.zip xq).map (fun e => (⟨e.1, e.2⟩ : Cplx)))
      let win := lastN (s1.ccPoints cc) c.1
      let res := rxRes s1 p cc (s1.now - w + ofs - len) win
      let m := windowMirage s1 p cc (s1.clk.elapsed - w - len) (s1.clk.elapsed - w)
      let k := p * 8 + cc
      let s2 := { s1 with rx := { s1.rx with re := spPut [] s1.rx.re k (lastN 16 (spGet [] s1.rx.re k ++ [⟨s1.now - w, s1.clk.elapsed, res.1, m⟩])),
                                             fine := spPut 0 s1.rx.fine k (finePower win),
                                             satAt := spPut 0 s1.rx.satAt (p * 16 + cc) s1.clk.elapsed } }
      let s3 := if m then statPath s2 p 0x26 res.1.length else s2
      .next (rxSat s3 p (c.2 + res.2 + sat))
    else .next s1
  else .next s

/-- PRACH_OCCASION (R165, R170, R172, R192 to R194): the preamble that starts at the occasion's offset has come in; extractor `j` of the path's lane
takes its CP off the slice-corrected ADC samples `x` up to now, transforms each repetition, and delivers its L_RA bins with the path correction at
the PRACH frequency.  `sat` are the saturations inside the FFT, of its own word lengths.  The bins carry the mirage flag when any sample of the
preamble did. -/
def execPrachOccasion (p j occ : Nat) (x : List Cplx) (sat : Nat) (s : State) : Out :=
  let w := s.prachWord p j
  if p < 64 ∧ j < 4 ∧ bitOf w 0 ∧ occ ≤ bitsOf w 15 12 ∧ s.ulOn (bitsOf w 3 1) ∧ s.tlRuns then
    let s1 := toBoundary s (73 * 64 + j * 16 + occ) p
      (nextOffset s.pattern s.frameOfs (rd s .prchOcc [p / 8, j, occ] % patPeriod s.pattern))
    if s1.receives p then
      let span := prachSpan s1 w s1.now
      let s2 := passTicks s1 (span.1 + span.2 + ceilDiv (prachDelay w) 5)
      let c := prachChannel s2 p j x
      let m := windowMirage s2 p (bitsOf w 3 1) (s1.clk.elapsed + span.1) (s1.clk.elapsed + span.1 + span.2)
      let r := prachReps s2 p j c.1
      .next (rxSat { s2 with rx := { s2.rx with
                                     prach := spPut ReSym.none_ s2.rx.prach (p * 4 + j) ⟨s1.now, s2.clk.elapsed, r.1, m⟩,
                                     satAt := spPut 0 s2.rx.satAt (p * 16 + 8 + j) s2.clk.elapsed } } p (c.2 + r.2 + sat))
    else .next s1
  else .next s

/-! ## Lane moves and coefficient rolls -/

/-- LANE_MOVE_REQUEST (R197, R199, R204): PCc_MOVE with GO; NO_SPARE and BUSY end it at once. -/
def execLaneMoveRequest (tag c value : Nat) (s : State) : Out :=
  if c < 8 then
    .next (tagged s .laneMoveReq [c] tag (fun s => if bitOf value 4 then requestMove s c (value % 8) (bitOf value 3) else s))
  else .next s

/-- LANE_WARM_START (R197 step 2): at the next common boundary the spare is WARMING. -/
def execLaneWarmStart (c : Nat) (s : State) : Out :=
  if c < 8 ∧ (s.lanes c).move = 1 then
    let s1 := toCommon s 75 c
    .next (s1.setLanes c { s1.lanes c with move := 2, warmAt := s1.clk.elapsed })
  else .next s

/-- The boundary of a lane switch in cluster `c` (R197, R199): a common boundary, but not the boundary of a commit that changes a channel, be it
still to come or on the present tick. -/
def switchBoundary (s : State) (c t : Nat) : Nat :=
  let b := nextCommon s (if t = s.now ∧ (s.lanes c).chanAt = s.clk.elapsed + 1 then t + 1 else t)
  match s.adm.waiting with
  | some w => if w.at_ = b ∧ channelsDiffer s (overlay s w.objs w.regs) c then nextCommon s (b + 1) else b
  | none => b

/-- LANE_SWITCH (R197 steps 3 and 4, R198, R199): at the first common boundary after 49,152 ticks of warm-up the position's outputs
are the spare lane's and LANE_MOVED is raised; a planned move between lanes of equal coefficients whose outputs differ ends
with MISMATCH and the spare lane RETIRED. -/
def execLaneSwitch (c : Nat) (differ : Bool) (s : State) : Out :=
  if c < 8 ∧ (s.lanes c).move = 2 then
    let s0 := reachElapsed s ((s.lanes c).warmAt + 49152)
    let s1 := toBoundary s0 76 c (switchBoundary s0 c)
    .next (laneSwitch s1 c differ)
  else .next s

/-- COEFFICIENT_ROLL (R200 to R203, R209, R491): in every cluster the spare is loaded and positions 0 to 7 move in turn, so every
lane holds the new coefficients; RX_ROLL_DONE.  A lane move that runs in a cluster comes first (R199). -/
def execCoefficientRoll (s : State) : Out :=
  if (s.rx.rollPre ≠ [] ∨ s.rx.rollPost ≠ [] ∨ s.rx.rollOf ≠ []) ∧ (List.range 8).all (fun c => (s.lanes c).move = 0) then .next (coefficientRoll s) else .next s

/-- COEFFICIENT_WRITE (R196, R204, R229): performed for the device tag, or debug at D2 or above, while the lane is SPARE; any
other write sets COEF_REJ and raises RX_COEF_REJECT, or is a firewall violation. -/
def execCoefficientWrite (tag addr value : Nat) (s : State) : Out :=
  match regDecode addr with
  | some (.coef, [c, k, n, i]) => .next (if (s.island c).off then emit s (.bus 1 []) else coefWrite s tag c k n i value false)
  | some (.txcoef, [c, k, n, i]) => .next (if (s.island c).off then emit s (.bus 1 []) else coefWrite s tag c k n i value true)
  | _ => .next s

end Sys2Proof.Machine
end

