-- ==== Sys2Proof/Machine/CmdService.lean ====
section
/-! DEFINITION. Spares, firmware hand-over and NV wear (chapter 17). -/

namespace Sys2Proof.Machine

/-! ## Main mover (R467, R610, R611) -/

/-- MAIN_MOVER_PARITY (R467, R610, R611): the mover goes under repair, or with a second error within 86,400 s is retired. -/
def execMainMoverParity (s : State) : Out :=
  if s.mem.mainMover = 0 then
    let again := decide (s.svc.moverAt ≠ 0) && decide (s.clk.elapsed + 1 < s.svc.moverAt + 86400 * secTicks)
    let s1 := moverFallback s
    .next { s1 with mem := { s1.mem with mainMover := if again then 2 else 1 }, svc := { s1.svc with moverAt := s1.clk.elapsed + 1 } }
  else .next s

/-- DMA_MAIN_RESTORED (R610, R611): repair and march test end.  While FORCE_SPLIT = 1 the return waits. -/
def execDmaMainRestored (marchOk : Bool) (s : State) : Out :=
  if s.mem.mainMover ≠ 1 then .next s
  else if ¬ marchOk then .next { s with mem := { s.mem with mainMover := 2 } }
  else if rbit s .dmaCtrl [] 0 then .next s
  else .next (raise { s with mem := { s.mem with mainMover := 0 } } 252 NA NA)

/-! ## Lanes and engines (R600 to R609) -/

/-- LANE_FAULT (R600 to R604): physical lane `k` of cluster `c`. -/
def execLaneFault (c k : Nat) (s : State) : Out := if c < 8 ∧ k < 9 then .next (laneFault s c k) else .next s

/-- ENGINE_RETIRE (R606, R609, R625): after a second ECC fault within 86,400 s, or by a write of GE_SVC.RETIRE under a tag.
Self-tests are part of step 2 of the boot. -/
def execEngineRetire (e tag : Nat) (ecc : Bool) (s : State) : Out :=
  if ecc then
    (if e ∈ s.svc.eccDue then
      .next (retireEngine { s with svc := { s.svc with eccDue := s.svc.eccDue.filter (· ≠ e) } } e false)
    else .next s)
  else .next (tagged s .geSvc [e] tag (fun s => retireEngine s e true))

/-- ENGINE_SPARE_TAKEOVER (R607, R608). -/
def execEngineSpareTakeover (e : Nat) (s : State) : Out :=
  match s.svc.takeover.find? (fun t => t.1 = e) with
  | some (_, by_) => .next (spareTakesOver s e by_)
  | none => .next s

/-! ## Firmware hand-over (R612 to R618, R625) -/

/-- STANDBY_IMAGE_WRITE (R582, R584, R612, R613): object 0xD200. -/
def execStandbyImageWrite (role : Role) (image : List Byte) (s : State) : Out := .next (answer (notTenant role s (standbyImage s image)))

/-- FW_STANDBY_READY (R613, R625): a pair writes CTL_FW_SIG.READY. -/
def execFwStandbyReady (pair : Nat) (s : State) : Out := if pair < 2 then .next (fwSignal s (.pair pair) 4 1) else .next s

/-- HANDOVER_REQUEST (R614, R625). -/
def execHandoverRequest (tag boundary tick : Nat) (s : State) : Out :=
  .next (tagged s .ctlFwHo [] tag (fun s => hoRequest s (boundary % 4) tick))

/-- HANDOVER_SAVING (R615): at t_b - 491,520. -/
def execHandoverSaving (s : State) : Out :=
  if s.ho = 1 then .next ((reachCount s (s.svc.tb - 491520)).setHo 2) else .next s

/-- FW_SAVED (R615, R625): a pair writes CTL_FW_SIG.SAVED. -/
def execFwSaved (pair : Nat) (s : State) : Out := if pair < 2 then .next (fwSignal s (.pair pair) 4 2) else .next s

/-- HANDOVER_ACTIVATE (R615): at t_b the active pair halts, the pairs exchange roles and probation starts. -/
def execHandoverActivate (s : State) : Out :=
  if s.ho = 2 then
    let s1 := reachCount s s.svc.tb
    let old := s1.ctl.active
    let s2 := wbit s1 .ctlFwStat [] 12 (¬ rbit s1 .ctlFwSig [] 1)
    -- SAVED has been used: nothing of it pends (R5)
    let s3 := exchange (wbit (s2.setPair old true (s2.pairVerified old)) .ctlFwSig [] 1 false)
    .next { s3.setHo 3 with svc := { s3.svc with probAt := s3.clk.elapsed, probDone := 0, probPaused := false } }
  else .next s

/-- FW_ALIVE (R616, R625): a pair writes CTL_FW_SIG.ALIVE. -/
def execFwAlive (pair : Nat) (s : State) : Out := if pair < 2 then .next (fwSignal s (.pair pair) 4 4) else .next s

/-- FW_HANDOVER_DONE (R616): ALIVE came, and PROB_S seconds have passed: the old pair starts in standby mode with the old image. -/
def execFwHandoverDone (s : State) : Out :=
  if s.ho = 3 ∧ rbit s .ctlFwSig [] 2 ∧ ¬ s.ctl.promoteDue ∧ ¬ s.svc.probPaused then
    let s1 := reachElapsed s (s.svc.probAt + s.onum 0xD202 5 * secTicks - s.svc.probDone)
    let s2 := ((((wbit s1 .ctlFwSig [] 2 false)).setHo 0).setHoResult 1).setStandby 2
    .next (raise (s2.setPair (1 - s2.ctl.active) false false) 247 s2.activeSlot (rf s2 .ctlFwStat [] 12 12))
  else .next s

/-- FW_REVERTED (R617): no ALIVE within 100 ms of t_b, or a lockstep fault in probation; at the next slot boundary. -/
def execFwReverted (s : State) : Out :=
  if s.ho = 3 ∧ s.ctl.promoteDue then .next (hoReverts (toSlot s 7 0))
  else if s.ho = 3 ∧ ¬ rbit s .ctlFwSig [] 2 ∧ ¬ s.svc.probPaused then
    .next (hoReverts (toSlot (reachElapsed s (s.svc.probAt + 49152000 - s.svc.probDone)) 7 0))
  else .next s

/-! ## Life (R620, R621, R623, R624) -/

/-- POWERED_HOUR (R620, R621): an hour at depth 0 to 2. -/
def execPoweredHour (s : State) : Out :=
  if s.pwr.depth ≤ 2 then
    let s1 := reachElapsed s (s.svc.hourAt + 3600 * secTicks)
    let s2 := { s1 with nv := { s1.nv with hours := s1.nv.hours + 1 }, svc := { s1.svc with hourAt := s1.clk.elapsed } }
    .next ((List.range 378).foldl checkForecast s2)
  else .next s

/-- NV_WORD_WRITE (R623, R624): a word write of kind 0 STORE, 1 learning, 2 other; `tried` are the physical words it was written to, of
which all but the last failed their verify, and the last too unless `ok`. -/
def execNvWordWrite (kind : Nat) (tried : List Nat) (ok : Bool) (s : State) : Out :=
  let l := tried.filter (fun w => w < nvWords ∧ w ∉ s.nv.badWords)
  let s1 := l.foldl (fun s w => nvCount s w kind) s
  let bad := if ok then l.dropLast else l
  let s2 := { s1 with nv := { s1.nv with badWords := bad.foldl (fun m w => setIns w m) s1.nv.badWords } }
  .next (if wearStep s.nvLife < wearStep s2.nvLife then raise s2 245 s2.nvLife NA else s2)

end Sys2Proof.Machine
end

