-- ==== Sys2Proof/Machine/CmdTimeline.lean ====
section
/-! DEFINITION. The timeline (chapter 2): the PTP servo's corrections, the counter, pattern entry boundaries and guard ends. -/

namespace Sys2Proof.Machine

/-- PTP_CORRECTION_REQUEST (R37, R38): while PTP is LOCKED the servo steers; 50 ns or less is steered; a larger one is
applied at once when no carrier is active, and else held pending with TL_STEP_PENDING, replacing one already pending.
Steering moves no count in a step. -/
def execPtpCorrectionRequest (quarterNs : Int) (s : State) : Out := .next (timeCorrection s quarterNs)

/-- The boundary at which an armed step is applied (R38). -/
def stepBoundary (s : State) (b : Nat) : Nat := nextFrame s.frameOfs (max b s.now)

/-- TIMELINE_STEP_APPLY (R37 to R39): the pending step, armed by a COMMIT, is applied at the first frame boundary at or after
that COMMIT's boundary tick; a SYNC follows (R174).  While PTP is LOCKED the counter is never stepped, and the step is not due while an
event entry due before the boundary has yet to fire: it then stays pending. -/
def execTimelineStepApply (s : State) : Out :=
  match s.tl.pendStep, s.tl.stepArmed with
  | some d, some b =>
    if s.ptpLocked ∨ eventDueBefore s (stepBoundary s b) then .next s
    else
      let s1 := reachCount s (stepBoundary s b)
      -- a STEP_ARM asked for again in this tick stays set (R7); with no step pending it arms none
      let s2 := takeAgain (wbit (stepCount s1 d) .tlCtrl [] 2 (s1.askedAgain .tlCtrl [] 2)) .tlCtrl [] 2
      .next (requestSync { s2 with tl := { s2.tl with pendStep := none, stepArmed := none } } s2.now)
  | _, _ => .next s

/-- TL_NOW_LO_READ (R36): the low word is returned and the high word latched into TL_NOW_HI. -/
def execTlNowLoRead (s : State) : Out :=
  .next (emit (wr s .tlNowHi [] (s.now / 2 ^ 32)) (.bus 0 (beBytes 4 (s.now % 2 ^ 32))))

/-- The first entry boundary of the pattern at or after a tick. -/
def nextEntry (p : List PatEntry) (ofs t : Nat) : Nat :=
  let pos := patPos p ofs t
  match patFind p 0 0 pos with
  | some (_, st, e) => if pos = st then t else t + (st + e.dur - pos)
  | none => t

/-- A path goes into a guard: the guard is counted (R119, R120). -/
def countGuard (s : State) (p : Nat) : State :=
  s.setFe p { s.pathFe p with guardNo := (s.pathFe p).guardNo + 1 }

/-- PATTERN_ENTRY_BOUNDARY (R42 to R46, R103, R104): at the next entry boundary every path takes the state of the entry that
begins.  A turnaround out of a guard has filled the guard's last 80 ticks and ends here; any other starts here. -/
def execPatternEntryBoundary (s : State) : Out :=
  if s.tlRuns then
    let s1 := toBoundary s 12 0 (nextEntry s.pattern s.frameOfs)
    let guard := match s1.entryNow with
      | some (_, _, e) => decide (e.dir = 2)
      | none => false
    .next ((List.range 64).foldl (fun s p => enterPathState (if guard then countGuard s p else s) p) s1)
  else .next s

/-- The end of the guard that runs now, or that ends now. -/
def guardEnd (s : State) : Option Nat :=
  let p := s.pattern
  let pos := patPos p s.frameOfs s.now
  match patFind p 0 0 pos with
  | some (i, st, e) =>
    if e.dir = 2 ∧ st < pos then some (s.now + (st + e.dur - pos))
    else if pos = st ∧ ((p.getD (if i = 0 then p.length - 1 else i - 1) ⟨0, 0, false⟩).dir = 2) then some s.now
    else if e.dir = 2 then some (s.now + e.dur)
    else none
  | none => none

/-- What a guard's end does to one path (R51, R52, R119). -/
def guardEndPath (s : State) (p : Nat) : State :=
  let s1 := match (s.pathFe p).bus with
    | some _ =>
      let s2 := endTxn s p 7
      let s3 := raise (bump s2 .tlGuardOvr []) 2 NA p
      finishTurn (startTurn s3 p (phaseOf (pathTarget s3 p))) p
    | none => s
  let s4 := deferRetries s1 p
  if ¬ s4.txLocked p then markSilent (s4.setFe p { s4.pathFe p with blanked := true }) p else s4

/-- A window placed in the guard that ends, and not begun, is skipped (R350). -/
def guardCalDone (s : State) : State :=
  (List.range 64).foldl (fun s p => if (s.top p).due.isSome then skipWindow (s.setTop p { s.top p with due := none }) p else s) s

/-- GUARD_END (R51, R52, R119): at the end of the guard a transaction still on a path's bus is aborted with code 7, its pins
take the next state's meaning, TL_GUARD_OVR counts and TL_GUARD_OVERRUN is raised; a path whose serving synthesiser is not
LOCKED is blanked; retries that did not fit are deferred; a calibration window that has not begun is skipped. -/
def execGuardEnd (s : State) : Out :=
  if s.tlRuns then
    match guardEnd s with
    | some t =>
      let s1 := reachCount s t
      let s2 := (List.range 64).foldl (fun s p => guardEndPath s p) s1
      .next (guardCalDone s2)
    | none => .next s
  else .next s

end Sys2Proof.Machine
end

