-- ==== Sys2Proof/Machine/CmdTx.lean ====
section
/-! DEFINITION. The transmit chain and the tenant accord (chapter 6). -/

namespace Sys2Proof.Machine

/-! ## Streams -/

/-- The stream of a path set. -/
def State.setAir (s : State) (p : Nat) (a : AirPath) : State := { s with air := { s.air with paths := spPut AirPath.none_ s.air.paths p a } }

/-- What a path's stream has counted since it last reported goes to the counters and the events: saturations, peaks without a generator, one event
each, samples clipped and clamped (R208, R224, R226, R276). -/
def reportStream (s : State) (p : Nat) : State :=
  let a := spGet AirPath.none_ s.air.paths p
  let t := a.tally
  if t = ⟨0, 0, 0, 0⟩ then s
  else
    let lane := [p / 8, s.laneOf p]
    let s1 := s.setAir p { a with tally := ⟨0, 0, 0, 0⟩ }
    let s2 := bump (bump (bump (bump s1 .txClip lane t.clipped) .txSat lane t.sat) .cfrMiss lane t.miss) .dpdClamp [p / 8, p % 8] t.clamped
    let s3 := if 0 < t.sat then raise s2 54 NA p else s2
    (List.range t.miss).foldl (fun s _ => raise s 53 NA p) s3

/-- A symbol joins its channel's queue, from which symbols whose samples have all entered the chain are gone; one that is not silent keeps the
streams running until its last sample has left (R205). -/
def queueSymbol (s : State) (p cc : Nat) (y : TxSym) : State :=
  let k := p * 8 + cc
  let stop (y : TxSym) : Nat := y.at_ + (y.wave.length + y.post.length) * 2 ^ s.ccHalfbands cc
  let silent := (y.wave ++ y.post).all (fun c => decide (c = (⟨0, 0⟩ : Cplx)))
  { s with tx := { s.tx with sym := spPut [] s.tx.sym k ((spGet [] s.tx.sym k).filter (fun x => s.clk.elapsed < stop x) ++ [y]) },
           air := { s.air with left := if silent then s.air.left else max s.air.left (stop y + 2 * s.txLead p cc - s.clk.elapsed) } }

/-! ## Commands -/

/-- The configuration of the symbols on air at a counter value: that of the accepted commit from its boundary on (R220). -/
def State.configAt (s : State) (c : Nat) : State :=
  match s.adm.waiting with
  | some w => if w.at_ ≤ c then overlay s w.objs w.regs else s
  | none => s

/-- TX_SYMBOL_READ (R205 to R214, R218, R220, R224): LAT before the symbol's air start the channel reads its antenna REs; one that has not
reached the buffer is zero and makes a miss.  Above E_ref every RE is scaled by s, rounded down to 2⁻¹².  The symbol becomes samples, under the
configuration in force at its air start, and joins the stream; what the stream has counted is reported. -/
def execTxSymbolRead (p cc : Nat) (late : List Nat) (s : State) : Out :=
  let lat := s.txLat p cc
  let s1 := toBoundary s (79 * 64 + cc) p (fun t => nextSymbol s.frameOfs (s.ccMu cc) (s.ccEcp cc) (t + lat) - lat)
  let air := s1.now + lat
  let v := s1.configAt air
  if p < 64 ∧ v.dlOn cc ∧ v.ccActive cc ∧ s.laneWorks p then
    let n := 12 * v.ccN cc
    let b := ((spGet [] s1.tx.buf (p * 8 + cc)).find? (fun x => x.tick = air)).getD ReSym.none_
    let fresh := decide (b.tick = air)
    let res := (List.range n).map (fun k =>
      if fresh ∧ k < b.res.length ∧ k ∉ late then b.res.getD k ⟨0, 0⟩ else ⟨0, 0⟩)
    let miss := ¬ fresh ∨ b.mirage ∨ b.res.length < n ∨ late.any (· < n)
    let pdec := toSigned 16 (v.onum (0x2100 + cc) 1)
    let ref := toSigned 16 (v.onum (0x2100 + cc) 2)
    let sc := limiterScale (energySum res) n ref
    let y := txSymbol v p cc air sc res
    let s2 := queueSymbol { s1 with tx := { s1.tx with buf := spPut [] s1.tx.buf (p * 8 + cc)
                                                         ((spGet [] s1.tx.buf (p * 8 + cc)).filter (fun x => air < x.tick)) } }
      p cc ⟨air, s1.clk.elapsed + lat, res, sc, pdec, ref, y.1, y.2.1⟩
    let lane := [p / 8, s.laneOf p]
    let s3 := if miss ∧ 0 < n then
        raise (setFlag (bump s2 .txMiss lane) .txStat lane (8 + cc)) 51 cc p else s2
    let s4 := wbit s3 .txStat lane cc (decide (sc < 4096))
    let s5 := if sc < 4096 then raise (bump s4 .txLimcnt lane) 50 cc p else s4
    let s6 := if 0 < y.2.2 then raise (bump s5 .txSat lane y.2.2) 54 NA p else s5
    .next (reportStream s6 p)
  else .next s

/-- The DAC input of a slot, oldest first: `cal` are the samples that the calibration generator gives where it drives the DACs (R215). -/
def dacOf : List (Option Cplx) → List Cplx → List Cplx
  | [], _ => []
  | some c :: t, cal => c :: dacOf t cal
  | none :: t, cal => cal.headD ⟨0, 0⟩ :: dacOf t cal.tail

/-- What a slot leaves in the counters, the events, the composite power and the DAC input of a path (R215, R217, R227, R276).  More than 10⁻⁴ of
the slot's TX samples clipped, or clamped, raises the event once. -/
def slotDone (s : State) (p len : Nat) (cal : List Cplx) : State :=
  let s1 := reportStream s p
  let a := spGet AirPath.none_ s1.air.paths p
  let ticks := s1.txTicks p s1.now len
  let s2 := if 0 < a.slotClip ∧ 10 * ticks < 10000 * a.slotClip then raise s1 52 NA p else s1
  let s3 := if 0 < a.slotClamp ∧ 10 * ticks < 10000 * a.slotClamp then raise s2 82 NA p else s2
  let dac := if a.dac = [] then (if s1.pathState p = .cal then cal else []) else dacOf (a.dac.take (10 * len)).reverse cal
  let s4 := (s3.setAir p { a with slotClip := 0, slotClamp := 0, energy := 0, dac := [] })
  let s5 := { s4 with tx := { s4.tx with dac := spPut [] s4.tx.dac p dac } }
  if 0 < ticks then { s5 with tx := { s5.tx with power := spPut (-32768) s5.tx.power p (compositePower s5 p a.energy (5 * ticks)) } } else s5

/-- SLOT_BOUNDARY (R215, R217, R227, R276): the slot of the reference numerology ends; its fractions of clipped and clamped samples are checked.
`cal` are the samples of the calibration generator.  The signal itself comes from the symbols read (TX_SYMBOL_READ): the operands between carry
nothing. -/
def execSlotBoundary (p : Nat) (_chans _hist _ahead _past _nbs : Unit) (cal : List Cplx) (s : State) : Out :=
  if p < 64 then
    let s1 := toSlot s 80 p
    .next (slotDone s1 p (s1.slotEnded s1.now) cal)
  else .next s

end Sys2Proof.Machine
end

