-- ==== Sys2Proof/Machine/Dispatch.lean ====
section
/-! DEFINITION. One arm per command: a direct call of its meaning. -/

namespace Sys2Proof.Machine

def exec (i : Instr) (s : State) : Host.Outcome State Fault Refusal :=
  match i with
  | .registerWrite m tag addr value => Sys2Proof.Machine.execRegisterWrite m tag addr value s
  | .sramAccess port tag addr n data ce ue => Sys2Proof.Machine.execSramAccess port tag addr n data ce ue s
  | .arbitrationPhase a ports beats => Sys2Proof.Machine.execArbitrationPhase a ports beats s
  | .crossingPulse src dst burst => Sys2Proof.Machine.execCrossingPulse src dst burst s
  | .crossingWakeRequest dst => Sys2Proof.Machine.execCrossingWakeRequest dst s
  | .islandResetCommand island inFlight => Sys2Proof.Machine.execIslandResetCommand island inFlight s
  | .lockstepFault pair => Sys2Proof.Machine.execLockstepFault pair s
  | .pairPromotion => Sys2Proof.Machine.execPairPromotion s
  | .lostFlagClear role island bits => Sys2Proof.Machine.execLostFlagClear role island bits s
  | .ptpCorrectionRequest quarterNs => Sys2Proof.Machine.execPtpCorrectionRequest quarterNs s
  | .timelineStepApply => Sys2Proof.Machine.execTimelineStepApply s
  | .tlNowLoRead => Sys2Proof.Machine.execTlNowLoRead s
  | .patternEntryBoundary => Sys2Proof.Machine.execPatternEntryBoundary s
  | .turnaroundStep p => Sys2Proof.Machine.execTurnaroundStep p s
  | .guardEnd => Sys2Proof.Machine.execGuardEnd s
  | .bdacStrobe n => Sys2Proof.Machine.execBdacStrobe n s
  | .weightHandover n => Sys2Proof.Machine.execWeightHandover n s
  | .tileStart n => Sys2Proof.Machine.execTileStart n s
  | .captureOpen n => Sys2Proof.Machine.execCaptureOpen n s
  | .dmaStart n => Sys2Proof.Machine.execDmaStart n s
  | .sync n => Sys2Proof.Machine.execSync n s
  | .loHop n => Sys2Proof.Machine.execLoHop n s
  | .loTune n => Sys2Proof.Machine.execLoTune n s
  | .feSerial n => Sys2Proof.Machine.execFeSerial n s
  | .orxVisit n => Sys2Proof.Machine.execOrxVisit n s
  | .calWindow n => Sys2Proof.Machine.execCalWindow n s
  | .commit d boundary tick => Sys2Proof.Machine.execCommit d boundary tick s
  | .admissionResult => Sys2Proof.Machine.execAdmissionResult s
  | .commitBoundary => Sys2Proof.Machine.execCommitBoundary s
  | .abort d => Sys2Proof.Machine.execAbort d s
  | .capacityLossReadmission => Sys2Proof.Machine.execCapacityLossReadmission s
  | .carrierDropRemoval => Sys2Proof.Machine.execCarrierDropRemoval s
  | .loSynEnable n => Sys2Proof.Machine.execLoSynEnable n s
  | .loSynDisable n => Sys2Proof.Machine.execLoSynDisable n s
  | .vcoCalibrationDone n => Sys2Proof.Machine.execVcoCalibrationDone n s
  | .synLockAchieved n => Sys2Proof.Machine.execSynLockAchieved n s
  | .synSettleTimeout n => Sys2Proof.Machine.execSynSettleTimeout n s
  | .synLockLoss n => Sys2Proof.Machine.execSynLockLoss n s
  | .refclkLoss edges => Sys2Proof.Machine.execRefclkLoss edges s
  | .refclkRecovery edges => Sys2Proof.Machine.execRefclkRecovery edges s
  | .hopResyncPulse => Sys2Proof.Machine.execHopResyncPulse s
  | .hopDividerCheck failed => Sys2Proof.Machine.execHopDividerCheck failed s
  | .hopComplete => Sys2Proof.Machine.execHopComplete s
  | .dividerResync => Sys2Proof.Machine.execDividerResync s
  | .txSymbolStart p cc => Sys2Proof.Machine.execTxSymbolStart p cc s
  | .forcedRetune role syn preset go => Sys2Proof.Machine.execForcedRetune role syn preset go s
  | .lnaBypass p => Sys2Proof.Machine.execLnaBypass p s
  | .lnaReturn p => Sys2Proof.Machine.execLnaReturn p s
  | .overloadAssert p => Sys2Proof.Machine.execOverloadAssert p s
  | .strapSample fea feb => Sys2Proof.Machine.execStrapSample fea feb s
  | .resetPhaseEnd => Sys2Proof.Machine.execResetPhaseEnd s
  | .serialTransaction p febLow => Sys2Proof.Machine.execSerialTransaction p febLow s
  | .serialTransactionDone p feb rdata => Sys2Proof.Machine.execSerialTransactionDone p feb rdata s
  | .rotationStepEnd k est => Sys2Proof.Machine.execRotationStepEnd k est s
  | .sliceSwap k => Sys2Proof.Machine.execSliceSwap k s
  | .stuckSliceDetect k slice => Sys2Proof.Machine.execStuckSliceDetect k slice s
  | .emergencySwap k slice => Sys2Proof.Machine.execEmergencySwap k slice s
  | .dacDwellStart d => Sys2Proof.Machine.execDacDwellStart d s
  | .dacDwellEnd d trim dev follows => Sys2Proof.Machine.execDacDwellEnd d trim dev follows s
  | .orxVisitEnd r => Sys2Proof.Machine.execOrxVisitEnd r s
  | .bestEffortVisit r path n => Sys2Proof.Machine.execBestEffortVisit r path n s
  | .orxFailure r => Sys2Proof.Machine.execOrxFailure r s
  | .captureDrainComplete b xs zs ovr => Sys2Proof.Machine.execCaptureDrainComplete b xs zs ovr s
  | .captureRelease tag c value => Sys2Proof.Machine.execCaptureRelease tag c value s
  | .syncPinEdge tick => Sys2Proof.Machine.execSyncPinEdge tick s
  | .syncNow tag => Sys2Proof.Machine.execSyncNow tag s
  | .syncRequestObject role tick => Sys2Proof.Machine.execSyncRequestObject role tick s
  | .syncTakeEffect => Sys2Proof.Machine.execSyncTakeEffect s
  | .syncFillEnd cc => Sys2Proof.Machine.execSyncFillEnd cc s
  | .fastPathEstimate p xi xq ovr ovrNew => Sys2Proof.Machine.execFastPathEstimate p xi xq ovr ovrNew s
  | .agcRelease p => Sys2Proof.Machine.execAgcRelease p s
  | .limiterLnaReturn p => Sys2Proof.Machine.execLimiterLnaReturn p s
  | .rxFftWindowEnd p cc xi xq sat => Sys2Proof.Machine.execRxFftWindowEnd p cc xi xq sat s
  | .prachOccasion p j occ reps sat => Sys2Proof.Machine.execPrachOccasion p j occ reps sat s
  | .laneMoveRequest tag c value => Sys2Proof.Machine.execLaneMoveRequest tag c value s
  | .laneWarmStart c => Sys2Proof.Machine.execLaneWarmStart c s
  | .laneSwitch c differ => Sys2Proof.Machine.execLaneSwitch c differ s
  | .coefficientRoll => Sys2Proof.Machine.execCoefficientRoll s
  | .coefficientWrite tag addr value => Sys2Proof.Machine.execCoefficientWrite tag addr value s
  | .txSymbolRead p cc late => Sys2Proof.Machine.execTxSymbolRead p cc late s
  | .slotBoundary p chans hist ahead past nbs cal => Sys2Proof.Machine.execSlotBoundary p chans hist ahead past nbs cal s
  | .dlRunStart cc => Sys2Proof.Machine.execDlRunStart cc s
  | .ulRunStart cc => Sys2Proof.Machine.execUlRunStart cc s
  | .weightBlock role block => Sys2Proof.Machine.execWeightBlock role block s
  | .weightVectorLand sameCycle => Sys2Proof.Machine.execWeightVectorLand sameCycle s
  | .ergDeclared p => Sys2Proof.Machine.execErgDeclared p s
  | .ergPathOff p => Sys2Proof.Machine.execErgPathOff p s
  | .ergResynthStart => Sys2Proof.Machine.execErgResynthStart s
  | .ergResynthDone => Sys2Proof.Machine.execErgResynthDone s
  | .healDeclare tag request value => Sys2Proof.Machine.execHealDeclare tag request value s
  | .healClear tag request value => Sys2Proof.Machine.execHealClear tag request value s
  | .ergPathRestored p => Sys2Proof.Machine.execErgPathRestored p s
  | .tileFail t => Sys2Proof.Machine.execTileFail t s
  | .tileSpareTakeover => Sys2Proof.Machine.execTileSpareTakeover s
  | .prachCombine j => Sys2Proof.Machine.execPrachCombine j s
  | .dpdThermalUpdate p msq mabs => Sys2Proof.Machine.execDpdThermalUpdate p msq mabs s
  | .dpdBankWrite tag addr value => Sys2Proof.Machine.execDpdBankWrite tag addr value s
  | .dpdHoRequest tag p value => Sys2Proof.Machine.execDpdHoRequest tag p value s
  | .dpdHoCheckDone p => Sys2Proof.Machine.execDpdHoCheckDone p s
  | .dpdRampStep p => Sys2Proof.Machine.execDpdRampStep p s
  | .dpdDivergenceWindow p z age => Sys2Proof.Machine.execDpdDivergenceWindow p z age s
  | .dpdProbationEnd p => Sys2Proof.Machine.execDpdProbationEnd p s
  | .dpdFallback p => Sys2Proof.Machine.execDpdFallback p s
  | .dpdIdentity p => Sys2Proof.Machine.execDpdIdentity p s
  | .dpdFallbackCheckEnd p => Sys2Proof.Machine.execDpdFallbackCheckEnd p s
  | .dpdReq tag bits => Sys2Proof.Machine.execDpdReq tag bits s
  | .dpdJobStart => Sys2Proof.Machine.execDpdJobStart s
  | .nop g => Sys2Proof.Machine.execNop g s
  | .add g => Sys2Proof.Machine.execAdd g s
  | .sub g => Sys2Proof.Machine.execSub g s
  | .addh g => Sys2Proof.Machine.execAddh g s
  | .subh g => Sys2Proof.Machine.execSubh g s
  | .neg g => Sys2Proof.Machine.execNeg g s
  | .conj g => Sys2Proof.Machine.execConj g s
  | .swap g => Sys2Proof.Machine.execSwap g s
  | .shl g => Sys2Proof.Machine.execShl g s
  | .shr g => Sys2Proof.Machine.execShr g s
  | .mov g => Sys2Proof.Machine.execMov g s
  | .cmul g => Sys2Proof.Machine.execCmul g s
  | .mag2 g => Sys2Proof.Machine.execMag2 g s
  | .iadd g => Sys2Proof.Machine.execIadd g s
  | .isub g => Sys2Proof.Machine.execIsub g s
  | .andOp g => Sys2Proof.Machine.execAndOp g s
  | .orOp g => Sys2Proof.Machine.execOrOp g s
  | .xorOp g => Sys2Proof.Machine.execXorOp g s
  | .ishl g => Sys2Proof.Machine.execIshl g s
  | .ishr g => Sys2Proof.Machine.execIshr g s
  | .icmp g => Sys2Proof.Machine.execIcmp g s
  | .clra g => Sys2Proof.Machine.execClra g s
  | .cmac4 g => Sys2Proof.Machine.execCmac4 g s
  | .cmacb g => Sys2Proof.Machine.execCmacb g s
  | .cdot g => Sys2Proof.Machine.execCdot g s
  | .acca g => Sys2Proof.Machine.execAcca g s
  | .ashr g => Sys2Proof.Machine.execAshr g s
  | .mova g => Sys2Proof.Machine.execMova g s
  | .extr g => Sys2Proof.Machine.execExtr g s
  | .sat g => Sys2Proof.Machine.execSat g s
  | .norm g => Sys2Proof.Machine.execNorm g s
  | .expa g => Sys2Proof.Machine.execExpa g s
  | .exp g => Sys2Proof.Machine.execExp g s
  | .bexp g => Sys2Proof.Machine.execBexp g s
  | .bxadd g => Sys2Proof.Machine.execBxadd g s
  | .setbs g => Sys2Proof.Machine.execSetbs g s
  | .bfly g => Sys2Proof.Machine.execBfly g s
  | .mfr g => Sys2Proof.Machine.execMfr g s
  | .mtr g => Sys2Proof.Machine.execMtr g s
  | .ldW g => Sys2Proof.Machine.execLdW g s
  | .stW g => Sys2Proof.Machine.execStW g s
  | .ldD g => Sys2Proof.Machine.execLdD g s
  | .stD g => Sys2Proof.Machine.execStD g s
  | .ldH g => Sys2Proof.Machine.execLdH g s
  | .addi g => Sys2Proof.Machine.execAddi g s
  | .addm g => Sys2Proof.Machine.execAddm g s
  | .movp g => Sys2Proof.Machine.execMovp g s
  | .movm g => Sys2Proof.Machine.execMovm g s
  | .movb g => Sys2Proof.Machine.execMovb g s
  | .movl g => Sys2Proof.Machine.execMovl g s
  | .setm g => Sys2Proof.Machine.execSetm g s
  | .nopc g => Sys2Proof.Machine.execNopc g s
  | .jmp g => Sys2Proof.Machine.execJmp g s
  | .jz g => Sys2Proof.Machine.execJz g s
  | .jnz g => Sys2Proof.Machine.execJnz g s
  | .jn g => Sys2Proof.Machine.execJn g s
  | .jnn g => Sys2Proof.Machine.execJnn g s
  | .call g => Sys2Proof.Machine.execCall g s
  | .ret g => Sys2Proof.Machine.execRet g s
  | .loop0 g => Sys2Proof.Machine.execLoop0 g s
  | .loop1 g => Sys2Proof.Machine.execLoop1 g s
  | .loopr0 g => Sys2Proof.Machine.execLoopr0 g s
  | .loopr1 g => Sys2Proof.Machine.execLoopr1 g s
  | .ei g => Sys2Proof.Machine.execEi g s
  | .di g => Sys2Proof.Machine.execDi g s
  | .reti g => Sys2Proof.Machine.execReti g s
  | .xfer g => Sys2Proof.Machine.execXfer g s
  | .xwait g => Sys2Proof.Machine.execXwait g s
  | .done g => Sys2Proof.Machine.execDone g s
  | .yield g => Sys2Proof.Machine.execYield g s
  | .ldi g reg => Sys2Proof.Machine.execLdi g reg s
  | .transferComplete e q => Sys2Proof.Machine.execTransferComplete e q s
  | .interruptAccept e => Sys2Proof.Machine.execInterruptAccept e s
  | .geDoorbell tag e value => Sys2Proof.Machine.execGeDoorbell tag e value s
  | .gePost tag e value => Sys2Proof.Machine.execGePost tag e value s
  | .releaseEntryFire e r => Sys2Proof.Machine.execReleaseEntryFire e r s
  | .jobStart e => Sys2Proof.Machine.execJobStart e s
  | .preemptLate e => Sys2Proof.Machine.execPreemptLate e s
  | .jobOverrun e => Sys2Proof.Machine.execJobOverrun e s
  | .geCplRead e => Sys2Proof.Machine.execGeCplRead e s
  | .engineRollMove e => Sys2Proof.Machine.execEngineRollMove e s
  | .baseReevaluation => Sys2Proof.Machine.execBaseReevaluation s
  | .traceGate edges steer txo => Sys2Proof.Machine.execTraceGate edges steer txo s
  | .topNoteWindow p meas => Sys2Proof.Machine.execTopNoteWindow p meas s
  | .calHrxArm tag value => Sys2Proof.Machine.execCalHrxArm tag value s
  | .heartInjection => Sys2Proof.Machine.execHeartInjection s
  | .heartSnapshot => Sys2Proof.Machine.execHeartSnapshot s
  | .heartRunComplete item lowRank results => Sys2Proof.Machine.execHeartRunComplete item lowRank results s
  | .calRampStep => Sys2Proof.Machine.execCalRampStep s
  | .calItemStale p item => Sys2Proof.Machine.execCalItemStale p item s
  | .foregroundRequest who path item flags => Sys2Proof.Machine.execForegroundRequest who path item flags s
  | .foregroundWindowTimeout p => Sys2Proof.Machine.execForegroundWindowTimeout p s
  | .serviceWindowStart => Sys2Proof.Machine.execServiceWindowStart s
  | .foregroundRunEnd p pass results => Sys2Proof.Machine.execForegroundRunEnd p pass results s
  | .iqDataMessage f => Sys2Proof.Machine.execIqDataMessage f s
  | .dlWindowClose cc => Sys2Proof.Machine.execDlWindowClose cc s
  | .ulSectionSend prach n => Sys2Proof.Machine.execUlSectionSend prach n s
  | .realTimeControlMessage f => Sys2Proof.Machine.execRealTimeControlMessage f s
  | .genericDataMessage f => Sys2Proof.Machine.execGenericDataMessage f s
  | .captureStream b => Sys2Proof.Machine.execCaptureStream b s
  | .delayRequest f => Sys2Proof.Machine.execDelayRequest f s
  | .requestWithFollowUp f => Sys2Proof.Machine.execRequestWithFollowUp f s
  | .followUp f => Sys2Proof.Machine.execFollowUp f s
  | .remoteRequest f => Sys2Proof.Machine.execRemoteRequest f s
  | .eventIndicationSend n => Sys2Proof.Machine.execEventIndicationSend n s
  | .indicationAck f => Sys2Proof.Machine.execIndicationAck f s
  | .indicationResend n id => Sys2Proof.Machine.execIndicationResend n id s
  | .synchronisationRequest f => Sys2Proof.Machine.execSynchronisationRequest f s
  | .portStateChange n aligned saValid => Sys2Proof.Machine.execPortStateChange n aligned saValid s
  | .sakInstall n an => Sys2Proof.Machine.execSakInstall n an s
  | .ptpSyncInterval quarterNs => Sys2Proof.Machine.execPtpSyncInterval quarterNs s
  | .ptpMasterChange n clockClass identity => Sys2Proof.Machine.execPtpMasterChange n clockClass identity s
  | .ptpHoldoverEntry => Sys2Proof.Machine.execPtpHoldoverEntry s
  | .synceSquelch cause => Sys2Proof.Machine.execSynceSquelch cause s
  | .synceResume => Sys2Proof.Machine.execSynceResume s
  | .esmcSend n => Sys2Proof.Machine.execEsmcSend n s
  | .esmcReceive ql => Sys2Proof.Machine.execEsmcReceive ql s
  | .ppsOutEdge => Sys2Proof.Machine.execPpsOutEdge s
  | .ppsInEdge tick => Sys2Proof.Machine.execPpsInEdge tick s
  | .lnkPpsInLoss => Sys2Proof.Machine.execLnkPpsInLoss s
  | .linkLaneFailure lane => Sys2Proof.Machine.execLinkLaneFailure lane s
  | .linkLaneTxMove n => Sys2Proof.Machine.execLinkLaneTxMove n s
  | .linkLaneRxMove n => Sys2Proof.Machine.execLinkLaneRxMove n s
  | .lnkLaneSpared n lost => Sys2Proof.Machine.execLnkLaneSpared n lost s
  | .linkRealignTimeout n => Sys2Proof.Machine.execLinkRealignTimeout n s
  | .laneReturnToSpare role lane => Sys2Proof.Machine.execLaneReturnToSpare role lane s
  | .scrubPass ce ue => Sys2Proof.Machine.execScrubPass ce ue s
  | .memRowRepaired b row => Sys2Proof.Machine.execMemRowRepaired b row s
  | .bankMigrationStart b => Sys2Proof.Machine.execBankMigrationStart b s
  | .memBankSpared b => Sys2Proof.Machine.execMemBankSpared b s
  | .serviceBankSpare role b => Sys2Proof.Machine.execServiceBankSpare role b s
  | .memLock tag value => Sys2Proof.Machine.execMemLock tag value s
  | .memLockRelease tag value => Sys2Proof.Machine.execMemLockRelease tag value s
  | .memHoldFault a => Sys2Proof.Machine.execMemHoldFault a s
  | .dmaRingKick tag r value => Sys2Proof.Machine.execDmaRingKick tag r value s
  | .dmaDescriptor r => Sys2Proof.Machine.execDmaDescriptor r s
  | .dmaHalfCompletion r => Sys2Proof.Machine.execDmaHalfCompletion r s
  | .dmaRingDisable r => Sys2Proof.Machine.execDmaRingDisable r s
  | .mainMoverParity => Sys2Proof.Machine.execMainMoverParity s
  | .dmaMainRestored marchOk => Sys2Proof.Machine.execDmaMainRestored marchOk s
  | .read d index sub => Sys2Proof.Machine.execRead d index sub s
  | .write d index sub type value => Sys2Proof.Machine.execWrite d index sub type value s
  | .readBlock d index sub offset maxLen => Sys2Proof.Machine.execReadBlock d index sub offset maxLen s
  | .writeBlock d index sub type offset total data => Sys2Proof.Machine.execWriteBlock d index sub type offset total data s
  | .store d selector nvOk => Sys2Proof.Machine.execStore d selector nvOk s
  | .restore d mode => Sys2Proof.Machine.execRestore d mode s
  | .subscribe d index sub mode period => Sys2Proof.Machine.execSubscribe d index sub mode period s
  | .digest d scope => Sys2Proof.Machine.execDigest d scope s
  | .sessionTimeout t key id => Sys2Proof.Machine.execSessionTimeout t key id s
  | .blockTransferTimeout t key id => Sys2Proof.Machine.execBlockTransferTimeout t key id s
  | .subscriptionNotify t key id index sub => Sys2Proof.Machine.execSubscriptionNotify t key id index sub s
  | .rwDigestRecompute => Sys2Proof.Machine.execRwDigestRecompute s
  | .replicaRewrite c => Sys2Proof.Machine.execReplicaRewrite c s
  | .eventFiringPresent src => Sys2Proof.Machine.execEventFiringPresent src s
  | .eventCease src inst aux => Sys2Proof.Machine.execEventCease src inst aux s
  | .stickyFlagClear d src same => Sys2Proof.Machine.execStickyFlagClear d src same s
  | .counterFold => Sys2Proof.Machine.execCounterFold s
  | .statisticsCounterClear role index sub => Sys2Proof.Machine.execStatisticsCounterClear role index sub s
  | .writeFrame len frame => Sys2Proof.Machine.execWriteFrame len frame s
  | .readFrame => Sys2Proof.Machine.execReadFrame s
  | .spiStatus => Sys2Proof.Machine.execSpiStatus s
  | .powerRequest by_ tag value => Sys2Proof.Machine.execPowerRequest by_ tag value s
  | .powerEntryStep => Sys2Proof.Machine.execPowerEntryStep s
  | .powerExit => Sys2Proof.Machine.execPowerExit s
  | .warmStart => Sys2Proof.Machine.execWarmStart s
  | .wakeToTransition => Sys2Proof.Machine.execWakeToTransition s
  | .slotgateChange => Sys2Proof.Machine.execSlotgateChange s
  | .sectionGateOff p rx => Sys2Proof.Machine.execSectionGateOff p rx s
  | .sectionGateOn p rx => Sys2Proof.Machine.execSectionGateOn p rx s
  | .wakePin cycles => Sys2Proof.Machine.execWakePin cycles s
  | .rtcAlarm => Sys2Proof.Machine.execRtcAlarm s
  | .linkSignalDetect lane => Sys2Proof.Machine.execLinkSignalDetect lane s
  | .t1sFrameWake dst fcsOk => Sys2Proof.Machine.execT1sFrameWake dst fcsOk s
  | .debugWakeWord word => Sys2Proof.Machine.execDebugWakeWord word s
  | .thermalAlarm t => Sys2Proof.Machine.execThermalAlarm t s
  | .wrxSniff hit envA envB => Sys2Proof.Machine.execWrxSniff hit envA envB s
  | .wrxSyncTimeout => Sys2Proof.Machine.execWrxSyncTimeout s
  | .wakeFrame frame rssi => Sys2Proof.Machine.execWakeFrame frame rssi s
  | .wrxTrim => Sys2Proof.Machine.execWrxTrim s
  | .housekeepingRound readings stopped shared vddCore replicas => Sys2Proof.Machine.execHousekeepingRound readings stopped shared vddCore replicas s
  | .thermalCarrierDrop => Sys2Proof.Machine.execThermalCarrierDrop s
  | .ldacEdge => Sys2Proof.Machine.execLdacEdge s
  | .bdacStrobeWrite tag value => Sys2Proof.Machine.execBdacStrobeWrite tag value s
  | .bdacCodeWrite tag c value => Sys2Proof.Machine.execBdacCodeWrite tag c value s
  | .bdacShort c on => Sys2Proof.Machine.execBdacShort c on s
  | .bdacShortTimeout c => Sys2Proof.Machine.execBdacShortTimeout c s
  | .bdacSupplyLow which => Sys2Proof.Machine.execBdacSupplyLow which s
  | .bdacSuppliesGood => Sys2Proof.Machine.execBdacSuppliesGood s
  | .drainRequest tag value => Sys2Proof.Machine.execDrainRequest tag value s
  | .amplifierFault a cause => Sys2Proof.Machine.execAmplifierFault a cause s
  | .faultSafeCode a => Sys2Proof.Machine.execFaultSafeCode a s
  | .drainReadbackMismatch a => Sys2Proof.Machine.execDrainReadbackMismatch a s
  | .drainFaultClear tag value => Sys2Proof.Machine.execDrainFaultClear tag value s
  | .monTrigger tag m => Sys2Proof.Machine.execMonTrigger tag m s
  | .monEntryResult m result meanAbs => Sys2Proof.Machine.execMonEntryResult m result meanAbs s
  | .monDataRead m => Sys2Proof.Machine.execMonDataRead m s
  | .fanWatchdogExpiry n => Sys2Proof.Machine.execFanWatchdogExpiry n s
  | .thmFanStall n => Sys2Proof.Machine.execThmFanStall n s
  | .transitionToken role token => Sys2Proof.Machine.execTransitionToken role token s
  | .keyEnvelope role k envelope => Sys2Proof.Machine.execKeyEnvelope role k envelope s
  | .rootRecord role record => Sys2Proof.Machine.execRootRecord role record s
  | .attestation nonce => Sys2Proof.Machine.execAttestation nonce s
  | .raiseMinimums role => Sys2Proof.Machine.execRaiseMinimums role s
  | .verifyImage m len => Sys2Proof.Machine.execVerifyImage m len s
  | .checkDiongTag m t len => Sys2Proof.Machine.execCheckDiongTag m t len s
  | .makeDiongTag m t len => Sys2Proof.Machine.execMakeDiongTag m t len s
  | .mboxKeyEnvelope m role len => Sys2Proof.Machine.execMboxKeyEnvelope m role len s
  | .mboxAttestation m len => Sys2Proof.Machine.execMboxAttestation m len s
  | .lifecycleToken m len => Sys2Proof.Machine.execLifecycleToken m len s
  | .mboxRootRecord m len => Sys2Proof.Machine.execMboxRootRecord m len s
  | .randomBytes m len => Sys2Proof.Machine.execRandomBytes m len s
  | .extest cells capture => Sys2Proof.Machine.execExtest cells capture s
  | .samplePreload cells capture => Sys2Proof.Machine.execSamplePreload cells capture s
  | .idcode => Sys2Proof.Machine.execIdcode s
  | .clamp => Sys2Proof.Machine.execClamp s
  | .highz => Sys2Proof.Machine.execHighz s
  | .dbgChal => Sys2Proof.Machine.execDbgChal s
  | .dbgResp response => Sys2Proof.Machine.execDbgResp response s
  | .dbgPort addr op wide data => Sys2Proof.Machine.execDbgPort addr op wide data s
  | .dbgStatus => Sys2Proof.Machine.execDbgStatus s
  | .bypass ir => Sys2Proof.Machine.execBypass ir s
  | .challengeRead role => Sys2Proof.Machine.execChallengeRead role s
  | .debugResponse t session response => Sys2Proof.Machine.execDebugResponse t session response s
  | .debugTunnel t session list => Sys2Proof.Machine.execDebugTunnel t session list s
  | .dbgClose tag => Sys2Proof.Machine.execDbgClose tag s
  | .debugSessionExpiry => Sys2Proof.Machine.execDebugSessionExpiry s
  | .coreHalt tag value => Sys2Proof.Machine.execCoreHalt tag value s
  | .coreStep tag value => Sys2Proof.Machine.execCoreStep tag value s
  | .engineHalt tag value => Sys2Proof.Machine.execEngineHalt tag value s
  | .laneFault c k => Sys2Proof.Machine.execLaneFault c k s
  | .engineRetire e tag ecc => Sys2Proof.Machine.execEngineRetire e tag ecc s
  | .engineSpareTakeover e => Sys2Proof.Machine.execEngineSpareTakeover e s
  | .standbyImageWrite role image => Sys2Proof.Machine.execStandbyImageWrite role image s
  | .fwStandbyReady pair => Sys2Proof.Machine.execFwStandbyReady pair s
  | .handoverRequest tag boundary tick => Sys2Proof.Machine.execHandoverRequest tag boundary tick s
  | .handoverSaving => Sys2Proof.Machine.execHandoverSaving s
  | .fwSaved pair => Sys2Proof.Machine.execFwSaved pair s
  | .handoverActivate => Sys2Proof.Machine.execHandoverActivate s
  | .fwAlive pair => Sys2Proof.Machine.execFwAlive pair s
  | .fwHandoverDone => Sys2Proof.Machine.execFwHandoverDone s
  | .fwReverted => Sys2Proof.Machine.execFwReverted s
  | .poweredHour => Sys2Proof.Machine.execPoweredHour s
  | .nvWordWrite kind tried ok => Sys2Proof.Machine.execNvWordWrite kind tried ok s
  | .coldStart pin => Sys2Proof.Machine.execColdStart pin s
  | .resetAssert pin ns => Sys2Proof.Machine.execResetAssert pin ns s
  | .osc32Qualified => Sys2Proof.Machine.execOsc32Qualified s
  | .bootStep x => Sys2Proof.Machine.execBootStep x s
  | .refclkQualified => Sys2Proof.Machine.execRefclkQualified s
  | .loaderImage sub image => Sys2Proof.Machine.execLoaderImage sub image s
  | .pwrBootGo tag value => Sys2Proof.Machine.execPwrBootGo tag value s
  | .vtargetUpdate mv => Sys2Proof.Machine.execVtargetUpdate mv s
  | .dpdMinRateVisit p => Sys2Proof.Machine.execDpdMinRateVisit p s
  | .dpdStaleAgeExpiry p => Sys2Proof.Machine.execDpdStaleAgeExpiry p s
  | .bdacOutputStep c => Sys2Proof.Machine.execBdacOutputStep c s
  | .tachEdge n => Sys2Proof.Machine.execTachEdge n s
  | .overloadDeassert p => Sys2Proof.Machine.execOverloadDeassert p s
  | .oldCakTimeout n down => Sys2Proof.Machine.execOldCakTimeout n down s
  | .arpRequest senderMac senderIp targetIp => Sys2Proof.Machine.execArpRequest senderMac senderIp targetIp s
  | .icmpEchoRequest srcMac srcIp dstIp ident seq fragment data => Sys2Proof.Machine.execIcmpEchoRequest srcMac srcIp dstIp ident seq fragment data s
  | .tapReset => Sys2Proof.Machine.execTapReset s
  | .debugChallengeExpiry => Sys2Proof.Machine.execDebugChallengeExpiry s
  | .debugLockoutEnd => Sys2Proof.Machine.execDebugLockoutEnd s
  | .baseNoteSave j => Sys2Proof.Machine.execBaseNoteSave j s

end Sys2Proof.Machine
end

