-- ==== Sys2Proof/Machine/TickOps.lean ====
section
/-! DEFINITION. What the block does when no command waits: one tick of its clock.  The table has no row for a tick; the effects
that fall due by time alone and have no row either happen here. -/

namespace Sys2Proof.Machine

/-- A service window has ended: a path that it holds and that has no request returns (R380, which names the return after a request alone; DESIGN
CHOICE, assumption 174). -/
def windowDue (s : State) : State :=
  if s.cal.window ≠ [] ∧ s.onum 0x7030 1 + s.onum 0x7030 2 * msTicks ≤ s.now then
    (s.cal.window.filter (fun p => s.cal.fg.all (fun r => decide (r.path ≠ p)))).foldl windowReturn s
  else s

/-- One tick with nothing commanded (R36): time passes, a waiting set request is granted when its members are free (R449), SAFE
codes due since step 2 of a power entry are taken (R513), and a service window ends (R380). -/
def idleTick (s : State) : State := windowDue (safeDue (grantSet (passTicks s 1)))

end Sys2Proof.Machine
end

