-- ==== Sys2Proof/Machine/Engines.lean ====
section
/-! DEFINITION. The Gulas engines at work (R300, R301, R307): bundles decoded from program memory and issued while no command waits.  A bundle's
operations are those of the command table; the queue may also bring them one by one (DESIGN CHOICE, assumption 172). -/

namespace Sys2Proof.Machine

/-! ## Decoding a bundle (R300, R301) -/

/-- The compute slot's operation; none for a reserved OPC. -/
def decodeCompute (opc : Nat) (g : GeC) : Option Instr :=
  match opc with
  | 0x00 => some (.nop g) | 0x01 => some (.add g) | 0x02 => some (.sub g) | 0x03 => some (.addh g) | 0x04 => some (.subh g)
  | 0x05 => some (.neg g) | 0x06 => some (.conj g) | 0x07 => some (.swap g) | 0x08 => some (.shl g) | 0x09 => some (.shr g)
  | 0x0A => some (.mov g) | 0x0B => some (.cmul g) | 0x0C => some (.mag2 g)
  | 0x10 => some (.iadd g) | 0x11 => some (.isub g) | 0x12 => some (.andOp g) | 0x13 => some (.orOp g) | 0x14 => some (.xorOp g)
  | 0x15 => some (.ishl g) | 0x16 => some (.ishr g) | 0x17 => some (.icmp g)
  | 0x20 => some (.clra g) | 0x21 => some (.cmac4 g) | 0x22 => some (.cmacb g) | 0x23 => some (.cdot g) | 0x24 => some (.acca g)
  | 0x25 => some (.ashr g) | 0x26 => some (.mova g) | 0x27 => some (.extr g) | 0x28 => some (.sat g) | 0x29 => some (.norm g)
  | 0x2A => some (.expa g)
  | 0x30 => some (.exp g) | 0x31 => some (.bexp g) | 0x32 => some (.bxadd g) | 0x33 => some (.setbs g) | 0x34 => some (.bfly g)
  | 0x38 => some (.mfr g) | 0x39 => some (.mtr g)
  | _ => none

/-- A memory slot's operation; none for a reserved OP, and nothing for NOP. -/
def decodeMem (op : Nat) (g : GeM) : Option (List Instr) :=
  match op with
  | 0 => some []
  | 1 => some [.ldW g] | 2 => some [.stW g] | 3 => some [.ldD g] | 4 => some [.stD g] | 5 => some [.ldH g]
  | _ => none

/-- The address slot's operation; none for a reserved AOP, and nothing for NOP. -/
def decodeAddr (op : Nat) (g : GeA) : Option (List Instr) :=
  match op with
  | 0 => some []
  | 1 => some [.addi g] | 2 => some [.addm g] | 3 => some [.movp g] | 4 => some [.movm g] | 5 => some [.movb g] | 6 => some [.movl g]
  | 7 => some [.setm g]
  | _ => none

/-- The control operation; none for a reserved CTRL. -/
def decodeControl (op : Nat) (g : GeK) : Option Instr :=
  match op with
  | 0x00 => some (.nopc g) | 0x01 => some (.jmp g) | 0x02 => some (.jz g) | 0x03 => some (.jnz g) | 0x04 => some (.jn g) | 0x05 => some (.jnn g)
  | 0x06 => some (.call g) | 0x07 => some (.ret g) | 0x08 => some (.loop0 g) | 0x09 => some (.loop1 g) | 0x0A => some (.loopr0 g)
  | 0x0B => some (.loopr1 g) | 0x0C => some (.ei g) | 0x0D => some (.di g) | 0x0E => some (.reti g) | 0x0F => some (.xfer g)
  | 0x10 => some (.xwait g) | 0x11 => some (.done g) | 0x12 => some (.yield g)
  | n => if 0x20 ≤ n ∧ n < 0x40 then some (.ldi g (n - 0x20)) else none

/-- The operations of a bundle of engine `e`, of which the last ends it; none where decode finds format 10 or 11 or a reserved code (R301).  XFER
and XWAIT come before the compute slot, which does not issue while they wait; any other control operation comes after it. -/
def decodeBundle (e w : Nat) : Option (List Instr) :=
  let f (hi lo : Nat) : Nat := bitsOf w hi lo
  let c (last : Bool) : Option Instr := decodeCompute (f 61 55) ⟨e, f 54 50, f 49 45, f 44 40, bitOf w 38, bitOf w 39, last, 0⟩
  match f 63 62 with
  | 0 =>
    let x := f 37 35
    let y := f 24 22
    let a := f 11 8
    match c (decide (x = 0 ∧ y = 0 ∧ a = 0)), decodeMem x ⟨e, false, f 34 30, f 29 27, f 26 25, decide (y = 0 ∧ a = 0), 0⟩,
        decodeMem y ⟨e, true, f 21 17, f 16 14, f 13 12, decide (a = 0), 0⟩, decodeAddr a ⟨e, f 7 5, f 4 0, true, 0⟩ with
    | some i, some l, some m, some n => some (i :: l ++ m ++ n)
    | _, _, _, _ => none
  | 1 =>
    let first := decide (f 37 32 = 0x0F ∨ f 37 32 = 0x10)
    match c first, decodeControl (f 37 32) ⟨e, f 31 0, ¬ first, 0⟩ with
    | some i, some k => some (if first then [k, i] else [i, k])
    | _, _ => none
  | _ => none

/-! ## Issue -/

/-- The bundle at the program counter of an engine: that of its kernel's slot in program memory (R299, R300). -/
def fetchBundle (x : Eng) : Nat :=
  let base := match x.job.bind (fun j => x.kernel j.slot) with
    | some k => k.base
    | none => 0
  spGet 0 x.pmem ((base + x.pc) % 8192)

/-- The operations of a bundle one after another, as the commands of the table perform them, while the engine runs and the bundle does not wait. -/
def issueOps (s : State) (e : Nat) : List Instr → State
  | [] => s
  | i :: l =>
    match exec i s with
    | .next t => if (t.eng e).st = .running ∧ (t.eng e).bundle.slots ≠ [] then issueOps t e l else t
    | _ => s

/-- An engine that runs, and has no bundle begun, issues its next one (R300, R301); it costs its cycles, or one while it waits (R307, R319, R323). -/
def issueBundle (s : State) (e : Nat) : State :=
  let x := s.eng e
  if x.st = .running ∧ x.bundle.slots = [] then
    match decodeBundle e (fetchBundle x) with
    | some l =>
      let t := issueOps s e l
      let y := t.eng e
      if y.st = .running ∧ y.bundle.waiting ∧ y.bundle.slots = [] then
        t.setEng e { y with cyc := y.cyc + 1, job := y.job.map (fun j => { j with cycles := j.cycles + 1 }) }
      else t
    | none => endJob s e 0x81
  else s

/-- What a command does at once, nothing where it stops. -/
def taken (s : State) (c : Instr) : State :=
  match exec c s with
  | .next t => t
  | _ => s

/-- Before a bundle: a pending request is accepted at the bundle boundary, or while the bundle waits (R318, R319). -/
def acceptDue (s : State) (e : Nat) : State :=
  if (s.eng e).bundle.slots = [] ∨ (s.eng e).bundle.waiting then taken s (.interruptAccept e) else s

/-- After a bundle: a job that has run for twice its CYC, or 2,048 cycles past its PREEMPT, is ended (R329, R331). -/
def endLate (s : State) (e : Nat) : State :=
  let x := s.eng e
  match x.job with
  | some j =>
    let spent : Bool := match x.kernel j.slot with
      | some k => decide (2 * k.cyc ≤ j.cycles)
      | none => false
    let late : Bool := match x.preemptAt with
      | some c => decide (c + 2048 ≤ j.cycles)
      | none => false
    if spent then taken s (.jobOverrun e) else if late then taken s (.preemptLate e) else s
  | none => s

/-- The cycles on which an engine issues in this tick: three (chapter 9), of a best-effort job one in 2 at throttle level 1 and one in 4 above
it (R562). -/
def cyclesNow (s : State) (e : Nat) : Nat :=
  let d := if (s.eng e).job.all (fun j => decide (j.cls = 0)) then 1 else match rf s .thmStat [] 17 16 with
    | 0 => 1
    | 1 => 2
    | _ => 4
  3 * (s.clk.elapsed + 1) / d - 3 * s.clk.elapsed / d

/-- The cycles of an engine in one tick: bundles until they are used up. -/
def engineTick (s : State) (e : Nat) : State := go e ((s.eng e).cyc + cyclesNow s e) 3 s
where
  /-- Bundle by bundle. -/
  go (e cyc : Nat) : Nat → State → State
    | 0, s => s
    | f + 1, s => if (s.eng e).st = .running ∧ (s.eng e).cyc < cyc then 
      go e cyc f (endLate (issueBundle (acceptDue s e) e) e) else s

/-- One tick with nothing commanded: time passes, and every engine that runs issues. -/
def idleStep (s : State) : State := (List.range 18).foldl engineTick (idleTick s)

end Sys2Proof.Machine
end

