-- ==== Sys2Proof/Frames.lean ====
section
/-! DEFINITION. The terms in which the statements say what a command leaves as it was, and that it completes. -/

namespace Sys2Proof.Machine

/-! ## What a command may change -/

/-- The parts of the state, in its order. -/
inductive Part where
  /-- time -/
  | clk
  /-- free values drawn -/
  | freeCtr
  /-- registers -/
  | regs
  /-- staged copies of registers -/
  | regsStaged
  /-- dictionary values -/
  | objs
  /-- staged copies of objects -/
  | objsStaged
  /-- write generations -/
  | objGen
  /-- statistics counters -/
  | stats
  /-- islands -/
  | islands
  /-- sub-domains -/
  | subs
  /-- flags set in the present tick -/
  | fresh
  /-- crossings -/
  | xing
  /-- lost flags -/
  | lost
  /-- address-fault record -/
  | addrFaultRec
  /-- control core pairs -/
  | ctl
  /-- event unit -/
  | evt
  /-- record of what was sent -/
  | out
  /-- timeline -/
  | tl
  /-- admission -/
  | adm
  /-- Diong endpoint -/
  | diong
  /-- straps -/
  | straps
  /-- security core and debug -/
  | sec
  /-- synthesisers -/
  | lo
  /-- front ends -/
  | fe
  /-- converters and captures -/
  | cvt
  /-- receive chain -/
  | rx
  /-- transmit chain -/
  | tx
  /-- beam matrix -/
  | bm
  /-- predistortion units -/
  | dpds
  /-- predistortion dispatcher -/
  | disp
  /-- engines -/
  | ge
  /-- calibration -/
  | cal
  /-- link -/
  | lnk
  /-- memory and movers -/
  | mem
  /-- power states -/
  | pwr
  /-- housekeeping -/
  | hk
  /-- service life -/
  | svc
  /-- start-up -/
  | boot
  /-- NV store -/
  | nv
  /-- spans in which what flags samples held -/
  | marks
  /-- the transmit streams -/
  | air
deriving DecidableEq, Repr

/-- From `s` to `t` the queue is unchanged, every part but those of `ps` is unchanged, and every register holds its value but those of
`ids`; with `regs` among the parts any register may change. -/
structure SameBut (ps : List Part) (ids : List RegId) (s t : State) : Prop where
  pending : t.pending = s.pending
  clk : .clk ∉ ps → t.clk = s.clk
  freeCtr : .freeCtr ∉ ps → t.freeCtr = s.freeCtr
  regs : .regs ∉ ps → ∀ a, (∀ id ∈ ids, ∀ ix, regAddr id ix ≠ a) → ∀ d, spGet d t.regs a = spGet d s.regs a
  regsStaged : .regsStaged ∉ ps → t.regsStaged = s.regsStaged
  objs : .objs ∉ ps → t.objs = s.objs
  objsStaged : .objsStaged ∉ ps → t.objsStaged = s.objsStaged
  objGen : .objGen ∉ ps → t.objGen = s.objGen
  stats : .stats ∉ ps → t.stats = s.stats
  islands : .islands ∉ ps → t.islands = s.islands
  subs : .subs ∉ ps → t.subs = s.subs
  fresh : .fresh ∉ ps → t.fresh = s.fresh
  xing : .xing ∉ ps → t.xing = s.xing
  lost : .lost ∉ ps → t.lost = s.lost
  addrFaultRec : .addrFaultRec ∉ ps → t.addrFaultRec = s.addrFaultRec
  ctl : .ctl ∉ ps → t.ctl = s.ctl
  evt : .evt ∉ ps → t.evt = s.evt
  out : .out ∉ ps → t.out = s.out
  tl : .tl ∉ ps → t.tl = s.tl
  adm : .adm ∉ ps → t.adm = s.adm
  diong : .diong ∉ ps → t.diong = s.diong
  straps : .straps ∉ ps → t.straps = s.straps
  sec : .sec ∉ ps → t.sec = s.sec
  lo : .lo ∉ ps → t.lo = s.lo
  fe : .fe ∉ ps → t.fe = s.fe
  cvt : .cvt ∉ ps → t.cvt = s.cvt
  rx : .rx ∉ ps → t.rx = s.rx
  tx : .tx ∉ ps → t.tx = s.tx
  bm : .bm ∉ ps → t.bm = s.bm
  dpds : .dpds ∉ ps → t.dpds = s.dpds
  disp : .disp ∉ ps → t.disp = s.disp
  ge : .ge ∉ ps → t.ge = s.ge
  cal : .cal ∉ ps → t.cal = s.cal
  lnk : .lnk ∉ ps → t.lnk = s.lnk
  mem : .mem ∉ ps → t.mem = s.mem
  pwr : .pwr ∉ ps → t.pwr = s.pwr
  hk : .hk ∉ ps → t.hk = s.hk
  svc : .svc ∉ ps → t.svc = s.svc
  boot : .boot ∉ ps → t.boot = s.boot
  nv : .nv ∉ ps → t.nv = s.nv
  marks : .marks ∉ ps → t.marks = s.marks
  air : .air ∉ ps → t.air = s.air

/-- The chapter of the manual whose rule gives a command its meaning. -/
def chapterOf : Instr → Nat
  | .registerWrite .. => 0
  | .sramAccess .. => 12
  | .arbitrationPhase .. => 12
  | .crossingPulse .. => 1
  | .crossingWakeRequest .. => 1
  | .islandResetCommand .. => 1
  | .lockstepFault .. => 1
  | .pairPromotion => 1
  | .lostFlagClear .. => 1
  | .ptpCorrectionRequest .. => 2
  | .timelineStepApply => 2
  | .tlNowLoRead => 2
  | .patternEntryBoundary => 2
  | .turnaroundStep .. => 3
  | .guardEnd => 2
  | .bdacStrobe .. => 15
  | .weightHandover .. => 7
  | .tileStart .. => 7
  | .captureOpen .. => 4
  | .dmaStart .. => 12
  | .sync .. => 5
  | .loHop .. => 3
  | .loTune .. => 3
  | .feSerial .. => 3
  | .orxVisit .. => 4
  | .calWindow .. => 10
  | .commit .. => 2
  | .admissionResult => 2
  | .commitBoundary => 2
  | .abort .. => 2
  | .capacityLossReadmission => 2
  | .carrierDropRemoval => 2
  | .loSynEnable .. => 3
  | .loSynDisable .. => 3
  | .vcoCalibrationDone .. => 3
  | .synLockAchieved .. => 3
  | .synSettleTimeout .. => 3
  | .synLockLoss .. => 3
  | .refclkLoss .. => 3
  | .refclkRecovery .. => 3
  | .hopResyncPulse => 3
  | .hopDividerCheck .. => 3
  | .hopComplete => 3
  | .dividerResync => 3
  | .txSymbolStart .. => 3
  | .forcedRetune .. => 3
  | .lnaBypass .. => 3
  | .lnaReturn .. => 3
  | .overloadAssert .. => 3
  | .strapSample .. => 3
  | .resetPhaseEnd => 3
  | .serialTransaction .. => 3
  | .serialTransactionDone .. => 3
  | .rotationStepEnd .. => 4
  | .sliceSwap .. => 4
  | .stuckSliceDetect .. => 4
  | .emergencySwap .. => 4
  | .dacDwellStart .. => 4
  | .dacDwellEnd .. => 4
  | .orxVisitEnd .. => 4
  | .bestEffortVisit .. => 4
  | .orxFailure .. => 4
  | .captureDrainComplete .. => 4
  | .captureRelease .. => 4
  | .syncPinEdge .. => 5
  | .syncNow .. => 5
  | .syncRequestObject .. => 5
  | .syncTakeEffect => 5
  | .syncFillEnd .. => 5
  | .fastPathEstimate .. => 5
  | .agcRelease .. => 5
  | .limiterLnaReturn .. => 5
  | .rxFftWindowEnd .. => 5
  | .prachOccasion .. => 5
  | .laneMoveRequest .. => 5
  | .laneWarmStart .. => 5
  | .laneSwitch .. => 5
  | .coefficientRoll => 5
  | .coefficientWrite .. => 5
  | .txSymbolRead .. => 6
  | .slotBoundary .. => 6
  | .dlRunStart .. => 7
  | .ulRunStart .. => 7
  | .weightBlock .. => 7
  | .weightVectorLand .. => 7
  | .ergDeclared .. => 7
  | .ergPathOff .. => 7
  | .ergResynthStart => 7
  | .ergResynthDone => 7
  | .healDeclare .. => 7
  | .healClear .. => 7
  | .ergPathRestored .. => 7
  | .tileFail .. => 17
  | .tileSpareTakeover => 7
  | .prachCombine .. => 7
  | .dpdThermalUpdate .. => 8
  | .dpdBankWrite .. => 8
  | .dpdHoRequest .. => 8
  | .dpdHoCheckDone .. => 8
  | .dpdRampStep .. => 8
  | .dpdDivergenceWindow .. => 8
  | .dpdProbationEnd .. => 8
  | .dpdFallback .. => 8
  | .dpdIdentity .. => 8
  | .dpdFallbackCheckEnd .. => 8
  | .dpdReq .. => 8
  | .dpdJobStart => 8
  | .nop .. => 9
  | .add .. => 9
  | .sub .. => 9
  | .addh .. => 9
  | .subh .. => 9
  | .neg .. => 9
  | .conj .. => 9
  | .swap .. => 9
  | .shl .. => 9
  | .shr .. => 9
  | .mov .. => 9
  | .cmul .. => 9
  | .mag2 .. => 9
  | .iadd .. => 9
  | .isub .. => 9
  | .andOp .. => 9
  | .orOp .. => 9
  | .xorOp .. => 9
  | .ishl .. => 9
  | .ishr .. => 9
  | .icmp .. => 9
  | .clra .. => 9
  | .cmac4 .. => 9
  | .cmacb .. => 9
  | .cdot .. => 9
  | .acca .. => 9
  | .ashr .. => 9
  | .mova .. => 9
  | .extr .. => 9
  | .sat .. => 9
  | .norm .. => 9
  | .expa .. => 9
  | .exp .. => 9
  | .bexp .. => 9
  | .bxadd .. => 9
  | .setbs .. => 9
  | .bfly .. => 9
  | .mfr .. => 9
  | .mtr .. => 9
  | .ldW .. => 9
  | .stW .. => 9
  | .ldD .. => 9
  | .stD .. => 9
  | .ldH .. => 9
  | .addi .. => 9
  | .addm .. => 9
  | .movp .. => 9
  | .movm .. => 9
  | .movb .. => 9
  | .movl .. => 9
  | .setm .. => 9
  | .nopc .. => 9
  | .jmp .. => 9
  | .jz .. => 9
  | .jnz .. => 9
  | .jn .. => 9
  | .jnn .. => 9
  | .call .. => 9
  | .ret .. => 9
  | .loop0 .. => 9
  | .loop1 .. => 9
  | .loopr0 .. => 9
  | .loopr1 .. => 9
  | .ei .. => 9
  | .di .. => 9
  | .reti .. => 9
  | .xfer .. => 9
  | .xwait .. => 9
  | .done .. => 9
  | .yield .. => 9
  | .ldi .. => 9
  | .transferComplete .. => 9
  | .interruptAccept .. => 9
  | .geDoorbell .. => 9
  | .gePost .. => 9
  | .releaseEntryFire .. => 9
  | .jobStart .. => 9
  | .preemptLate .. => 9
  | .jobOverrun .. => 9
  | .geCplRead .. => 9
  | .engineRollMove .. => 9
  | .baseReevaluation => 10
  | .traceGate .. => 10
  | .topNoteWindow .. => 10
  | .calHrxArm .. => 10
  | .heartInjection => 10
  | .heartSnapshot => 10
  | .heartRunComplete .. => 10
  | .calRampStep => 10
  | .calItemStale .. => 10
  | .foregroundRequest .. => 10
  | .foregroundWindowTimeout .. => 10
  | .serviceWindowStart => 10
  | .foregroundRunEnd .. => 10
  | .iqDataMessage .. => 11
  | .dlWindowClose .. => 11
  | .ulSectionSend .. => 11
  | .realTimeControlMessage .. => 11
  | .genericDataMessage .. => 11
  | .captureStream .. => 11
  | .delayRequest .. => 11
  | .requestWithFollowUp .. => 11
  | .followUp .. => 11
  | .remoteRequest .. => 11
  | .eventIndicationSend .. => 11
  | .indicationAck .. => 11
  | .indicationResend .. => 11
  | .synchronisationRequest .. => 11
  | .portStateChange .. => 11
  | .sakInstall .. => 11
  | .ptpSyncInterval .. => 11
  | .ptpMasterChange .. => 11
  | .ptpHoldoverEntry => 11
  | .synceSquelch .. => 11
  | .synceResume => 11
  | .esmcSend .. => 11
  | .esmcReceive .. => 11
  | .ppsOutEdge => 11
  | .ppsInEdge .. => 11
  | .lnkPpsInLoss => 11
  | .linkLaneFailure .. => 11
  | .linkLaneTxMove .. => 11
  | .linkLaneRxMove .. => 11
  | .lnkLaneSpared .. => 11
  | .linkRealignTimeout .. => 11
  | .laneReturnToSpare .. => 11
  | .scrubPass .. => 12
  | .memRowRepaired .. => 12
  | .bankMigrationStart .. => 12
  | .memBankSpared .. => 12
  | .serviceBankSpare .. => 12
  | .memLock .. => 12
  | .memLockRelease .. => 12
  | .memHoldFault .. => 12
  | .dmaRingKick .. => 12
  | .dmaDescriptor .. => 12
  | .dmaHalfCompletion .. => 12
  | .dmaRingDisable .. => 12
  | .mainMoverParity => 17
  | .dmaMainRestored .. => 17
  | .read .. => 13
  | .write .. => 13
  | .readBlock .. => 13
  | .writeBlock .. => 13
  | .store .. => 13
  | .restore .. => 13
  | .subscribe .. => 13
  | .digest .. => 13
  | .sessionTimeout .. => 13
  | .blockTransferTimeout .. => 13
  | .subscriptionNotify .. => 13
  | .rwDigestRecompute => 13
  | .replicaRewrite .. => 13
  | .eventFiringPresent .. => 13
  | .eventCease .. => 13
  | .stickyFlagClear .. => 13
  | .counterFold => 13
  | .statisticsCounterClear .. => 13
  | .writeFrame .. => 13
  | .readFrame => 13
  | .spiStatus => 13
  | .powerRequest .. => 14
  | .powerEntryStep => 14
  | .powerExit => 14
  | .warmStart => 14
  | .wakeToTransition => 14
  | .slotgateChange => 14
  | .sectionGateOff .. => 14
  | .sectionGateOn .. => 14
  | .wakePin .. => 14
  | .rtcAlarm => 14
  | .linkSignalDetect .. => 14
  | .t1sFrameWake .. => 14
  | .debugWakeWord .. => 14
  | .thermalAlarm .. => 14
  | .wrxSniff .. => 14
  | .wrxSyncTimeout => 14
  | .wakeFrame .. => 14
  | .wrxTrim => 14
  | .housekeepingRound .. => 15
  | .thermalCarrierDrop => 15
  | .ldacEdge => 15
  | .bdacStrobeWrite .. => 15
  | .bdacCodeWrite .. => 15
  | .bdacShort .. => 15
  | .bdacShortTimeout .. => 15
  | .bdacSupplyLow .. => 15
  | .bdacSuppliesGood => 15
  | .drainRequest .. => 15
  | .amplifierFault .. => 15
  | .faultSafeCode .. => 15
  | .drainReadbackMismatch .. => 15
  | .drainFaultClear .. => 15
  | .monTrigger .. => 15
  | .monEntryResult .. => 15
  | .monDataRead .. => 15
  | .fanWatchdogExpiry .. => 15
  | .thmFanStall .. => 15
  | .transitionToken .. => 16
  | .keyEnvelope .. => 16
  | .rootRecord .. => 16
  | .attestation .. => 16
  | .raiseMinimums .. => 16
  | .verifyImage .. => 16
  | .checkDiongTag .. => 13
  | .makeDiongTag .. => 13
  | .mboxKeyEnvelope .. => 16
  | .mboxAttestation .. => 16
  | .lifecycleToken .. => 16
  | .mboxRootRecord .. => 16
  | .randomBytes .. => 16
  | .extest .. => 16
  | .samplePreload .. => 16
  | .idcode => 16
  | .clamp => 16
  | .highz => 16
  | .dbgChal => 16
  | .dbgResp .. => 16
  | .dbgPort .. => 16
  | .dbgStatus => 16
  | .bypass .. => 16
  | .challengeRead .. => 16
  | .debugResponse .. => 16
  | .debugTunnel .. => 16
  | .dbgClose .. => 16
  | .debugSessionExpiry => 16
  | .coreHalt .. => 16
  | .coreStep .. => 16
  | .engineHalt .. => 16
  | .laneFault .. => 17
  | .engineRetire .. => 17
  | .engineSpareTakeover .. => 17
  | .standbyImageWrite .. => 17
  | .fwStandbyReady .. => 17
  | .handoverRequest .. => 17
  | .handoverSaving => 17
  | .fwSaved .. => 17
  | .handoverActivate => 17
  | .fwAlive .. => 17
  | .fwHandoverDone => 17
  | .fwReverted => 17
  | .poweredHour => 17
  | .nvWordWrite .. => 17
  | .coldStart .. => 18
  | .resetAssert .. => 18
  | .osc32Qualified => 18
  | .bootStep .. => 18
  | .refclkQualified => 18
  | .loaderImage .. => 18
  | .pwrBootGo .. => 18
  | .vtargetUpdate .. => 18
  | .dpdMinRateVisit .. => 8
  | .dpdStaleAgeExpiry .. => 8
  | .bdacOutputStep .. => 15
  | .tachEdge .. => 15
  | .overloadDeassert .. => 3
  | .oldCakTimeout .. => 16
  | .arpRequest .. => 13
  | .icmpEchoRequest .. => 13
  | .tapReset => 16
  | .debugChallengeExpiry => 16
  | .debugLockoutEnd => 16
  | .baseNoteSave .. => 10

/-- The frame of an operation in a slot of an engine. -/
def slotFrame : List Part × List RegId :=
  ([.stats, .evt, .disp, .ge, .svc], [.evtRpt, .geDoorbell, .geEcc])

/-- Every part: a cold or warm start, or a request that may carry a token that causes one. -/
def anyFrame : List Part × List RegId :=
  ([.regs, .clk, .freeCtr, .regsStaged, .objs, .objsStaged, .objGen, .stats, .islands, .subs, .fresh, .xing, .lost, .addrFaultRec,
      .ctl, .evt, .out, .tl, .adm, .diong, .straps, .sec, .lo, .fe, .cvt, .rx, .tx, .bm, .dpds, .disp, .ge, .cal, .lnk, .mem, .pwr,
      .hk, .svc, .boot, .nv, .marks, .air], [])

/-- The frame of the actions of a register write. -/
def regWriteFrame : List Part × List RegId :=
  ([.regs, .clk, .freeCtr, .regsStaged, .objs, .stats, .fresh, .ctl, .evt, .out, .tl, .adm, .diong, .sec, .lo, .fe, .cvt, .rx, .bm,
      .dpds, .disp, .ge, .lnk, .mem, .pwr, .hk, .svc, .boot, .nv, .marks, .air], [])

/-- The frame of a mover that writes registers. -/
def moveFrame : List Part × List RegId :=
  ([.regs, .clk, .freeCtr, .regsStaged, .objs, .stats, .fresh, .addrFaultRec, .ctl, .evt, .out, .tl, .adm, .diong, .sec, .lo, .fe,
      .cvt, .rx, .bm, .dpds, .disp, .ge, .lnk, .mem, .pwr, .hk, .svc, .boot, .nv, .marks, .air], [])

/-- The frame of an instruction of the TAP. -/
def tapFrame : List Part × List RegId :=
  ([.stats, .evt, .out, .sec, .hk], [.bdacDrnStat, .dbgFails, .evtRpt])

/-- The frame of the removal of carriers. -/
def carrierFrame : List Part × List RegId :=
  ([.regs, .clk, .freeCtr, .objs, .objGen, .stats, .subs, .fresh, .evt, .tl, .adm, .diong, .lo, .fe, .cvt, .rx, .tx, .bm, .dpds,
      .disp, .ge, .lnk, .mem, .hk, .marks, .air], [])

/-- What a command may change: parts of the state, and registers.  Commands that raise events change the event unit (`evt`) and the
repeat counts (`evtRpt`); those that happen on a boundary change time (`clk`). -/
def frameOf : Instr → List Part × List RegId
  | .registerWrite .. => anyFrame
  | .sramAccess .. => ([.addrFaultRec, .evt, .out, .mem], [.evtRpt, .memBankCe, .memBankUe, .memFault])
  | .arbitrationPhase .. => ([.mem], [])
  | .crossingPulse .. => ([.islands, .xing, .lost, .cvt], [])
  | .crossingWakeRequest .. => ([.islands, .cvt], [])
  | .islandResetCommand .. => ([.regs, .regsStaged, .stats, .subs, .xing, .ctl, .evt, .out, .tl, .diong, .sec, .lo, .fe, .cvt, .rx,
      .bm, .disp, .ge, .lnk, .mem, .hk, .marks], [])
  | .lockstepFault .. => ([.ctl, .evt, .marks], [.ctlFwStat, .evtRpt])
  | .pairPromotion => ([.clk, .ctl, .evt, .nv, .marks, .air], [.ctlFwSig, .ctlFwStat, .evtRpt, .secBoot])
  | .lostFlagClear .. => ([.lost], [])
  | .ptpCorrectionRequest .. => ([.clk, .evt, .tl, .rx], [.evtRpt, .tlCtrl])
  | .timelineStepApply => ([.clk, .fresh, .tl, .rx, .air], [.tlCtrl])
  | .tlNowLoRead => ([.out], [.tlNowHi])
  | .patternEntryBoundary => ([.clk, .tl, .fe, .cvt, .rx, .tx, .marks, .air], [])
  | .turnaroundStep .. => ([.clk, .fe, .cvt, .rx, .marks, .air], [])
  | .guardEnd => ([.clk, .stats, .fresh, .evt, .fe, .cvt, .rx, .bm, .cal, .marks, .air], [.calSkip, .calStat, .evtRpt, .feStat,
      .tlGuardOvr])
  | .bdacStrobe .. => ([.clk, .evt, .tl, .hk, .air], [.bdacChCode, .bdacDrnStat, .evtRpt, .tlEvtDrop])
  | .weightHandover .. => ([.clk, .evt, .tl, .bm, .air], [.evtRpt, .tlEvtDrop])
  | .tileStart .. => ([.clk, .evt, .tl, .bm, .air], [.evtRpt, .tlEvtDrop])
  | .captureOpen .. => ([.clk, .stats, .evt, .tl, .cvt, .air], [.capStat, .evtRpt, .tlEvtDrop])
  | .dmaStart .. => ([.clk, .fresh, .evt, .tl, .mem, .air], [.dmaRingStat, .dmaTrigDrop, .evtRpt, .tlEvtDrop])
  | .sync .. => ([.clk, .evt, .tl, .rx, .air], [.evtRpt, .tlEvtDrop])
  | .loHop .. => ([.clk, .stats, .evt, .tl, .lo, .fe, .marks, .air], [.evtRpt, .tlEvtDrop])
  | .loTune .. => ([.clk, .stats, .evt, .tl, .lo, .fe, .marks, .air], [.evtRpt, .tlEvtDrop])
  | .feSerial .. => ([.clk, .stats, .evt, .tl, .fe, .air], [.evtRpt, .tlEvtDrop])
  | .orxVisit .. => ([.clk, .stats, .evt, .tl, .cvt, .air], [.capStat, .evtRpt, .orxDrop, .tlEvtDrop])
  | .calWindow .. => ([.clk, .evt, .tl, .cal, .air], [.evtRpt, .tlEvtDrop])
  | .commit .. => ([.regs, .objs, .objGen, .stats, .evt, .out, .adm, .diong], [])
  | .admissionResult => ([.regs, .regsStaged, .objs, .objsStaged, .objGen, .stats, .evt, .out, .tl, .adm, .diong, .lo, .fe, .rx,
      .tx, .ge, .marks], [])
  | .commitBoundary => carrierFrame
  | .abort .. => ([.regsStaged, .objsStaged, .stats, .evt, .out, .diong], [.evtRpt])
  | .capacityLossReadmission => ([.evt, .adm], [.evtRpt])
  | .carrierDropRemoval => carrierFrame
  | .loSynEnable .. => ([.stats, .evt, .lo, .fe, .marks], [.evtRpt, .loSynCtrl])
  | .loSynDisable .. => ([.stats, .evt, .lo, .fe, .marks], [.evtRpt, .loSynCtrl])
  | .vcoCalibrationDone .. => ([.lo], [])
  | .synLockAchieved .. => ([.clk, .stats, .evt, .lo, .fe, .rx, .marks, .air], [.evtRpt])
  | .synSettleTimeout .. => ([.clk, .evt, .lo, .air], [.evtRpt])
  | .synLockLoss .. => ([.stats, .evt, .lo, .fe, .marks], [.evtRpt, .loSynUnlocks])
  | .refclkLoss .. => ([.stats, .evt, .lo, .fe, .marks], [.evtRpt])
  | .refclkRecovery .. => ([.lo], [])
  | .hopResyncPulse => ([.clk, .lo, .air], [])
  | .hopDividerCheck .. => ([.clk, .lo, .marks, .air], [])
  | .hopComplete => ([.clk, .lo, .rx, .air], [])
  | .dividerResync => ([.clk, .lo, .fe, .marks, .air], [])
  | .txSymbolStart .. => ([.clk, .stats, .evt, .fe, .marks, .air], [.evtRpt])
  | .forcedRetune .. => ([.stats, .evt, .lo, .fe, .marks], [.evtRpt])
  | .lnaBypass .. => ([.clk, .fe, .rx, .air], [])
  | .lnaReturn .. => ([.clk, .fe, .rx, .air], [])
  | .overloadAssert .. => ([.clk, .stats, .fresh, .evt, .fe, .rx, .air], [.evtRpt, .feStat, .rxgCnt])
  | .strapSample .. => ([.clk, .evt, .straps, .air], [.evtRpt])
  | .resetPhaseEnd => ([.clk, .fe, .cvt, .rx, .air], [])
  | .serialTransaction .. => ([.stats, .fresh, .evt, .fe, .bm], [.evtRpt, .feStat])
  | .serialTransactionDone .. => ([.clk, .stats, .fresh, .evt, .fe, .bm, .hk, .air], [.evtRpt, .feRdata, .feStat, .thmAmpCfg])
  | .rotationStepEnd .. => ([.clk, .stats, .evt, .adm, .fe, .cvt, .bm, .lnk, .svc, .nv, .marks, .air], [.capStat, .evtRpt])
  | .sliceSwap .. => ([.clk, .stats, .evt, .cvt, .air], [.capStat, .evtRpt])
  | .stuckSliceDetect .. => ([.evt, .adm, .fe, .cvt, .bm, .lnk, .svc, .nv, .marks], [.evtRpt])
  | .emergencySwap .. => ([.stats, .evt, .adm, .fe, .cvt, .bm, .lnk, .svc, .nv, .marks], [.capStat, .evtRpt])
  | .dacDwellStart .. => ([.cvt], [])
  | .dacDwellEnd .. => ([.clk, .evt, .cvt, .lnk, .svc, .nv, .air], [.evtRpt])
  | .orxVisitEnd .. => ([.clk, .stats, .evt, .cvt, .air], [.capStat, .evtRpt])
  | .bestEffortVisit .. => ([.cvt], [])
  | .orxFailure .. => ([.evt, .adm, .cvt], [.evtRpt])
  | .captureDrainComplete .. => ([.clk, .freeCtr, .stats, .addrFaultRec, .evt, .cvt, .disp, .ge, .mem, .air], [.capStat, .evtRpt])
  | .captureRelease .. => ([.clk, .stats, .evt, .cvt, .air], [.capStat, .evtRpt])
  | .syncPinEdge .. => ([.rx], [])
  | .syncNow .. => ([.evt, .out, .rx], [.evtRpt, .tlSync])
  | .syncRequestObject .. => ([.rx], [])
  | .syncTakeEffect => ([.clk, .evt, .rx, .marks, .air], [.evtRpt, .tlSync, .tlSyncLast])
  | .syncFillEnd .. => ([.clk, .rx, .air], [])
  | .fastPathEstimate .. => ([.clk, .evt, .fe, .cvt, .rx, .air], [.adcOvr, .evtRpt, .rxgCnt])
  | .agcRelease .. => ([.clk, .cvt, .rx, .air], [])
  | .limiterLnaReturn .. => ([.clk, .fe, .rx, .air], [])
  | .rxFftWindowEnd .. => ([.clk, .stats, .evt, .rx, .air], [.evtRpt, .rxSat])
  | .prachOccasion .. => ([.clk, .evt, .rx, .air], [.evtRpt, .rxSat])
  | .laneMoveRequest .. => ([.evt, .out, .rx], [.evtRpt])
  | .laneWarmStart .. => ([.clk, .rx, .air], [])
  | .laneSwitch .. => ([.regs, .clk, .objs, .objGen, .subs, .evt, .fe, .rx, .bm, .lnk, .svc, .nv, .marks, .air], [])
  | .coefficientRoll => ([.clk, .subs, .evt, .fe, .rx, .bm, .lnk, .svc, .nv, .air], [.evtRpt])
  | .coefficientWrite .. => ([.fresh, .evt, .out, .rx], [.evtRpt, .rxStat])
  | .txSymbolRead .. => ([.regs, .clk, .objs, .objGen, .fresh, .evt, .tx, .air], [])
  | .slotBoundary .. => ([.clk, .evt, .tx, .air], [.cfrMiss, .dpdClamp, .evtRpt, .txClip, .txSat])
  | .dlRunStart .. => ([.clk, .stats, .evt, .tx, .bm, .lnk, .air], [.bfBeamErr, .bfNullVec, .bfSat, .evtRpt])
  | .ulRunStart .. => ([.clk, .stats, .evt, .rx, .bm, .lnk, .air], [.bfBeamErr, .bfNullVec, .bfSat, .evtRpt])
  | .weightBlock .. => ([.evt, .bm], [.bfWrej, .evtRpt])
  | .weightVectorLand .. => ([.evt, .bm, .mem], [.bfCcColl, .bfCcSplit, .evtRpt])
  | .ergDeclared .. => ([.evt, .bm, .lnk], [.evtRpt])
  | .ergPathOff .. => ([.regs, .clk, .objs, .objGen, .tl, .fe, .cvt, .rx, .bm, .cal, .marks, .air], [])
  | .ergResynthStart => ([.freeCtr, .evt, .bm, .ge], [.evtRpt])
  | .ergResynthDone => ([.clk, .evt, .bm, .mem, .air], [.evtRpt])
  | .healDeclare .. => ([.evt, .fe, .bm], [.evtRpt])
  | .healClear .. => ([.evt, .bm], [.evtRpt])
  | .ergPathRestored .. => ([.clk, .evt, .tl, .fe, .cvt, .rx, .tx, .bm, .dpds, .lnk, .marks, .air], [.evtRpt])
  | .tileFail .. => ([.subs, .evt, .adm, .tx, .bm, .lnk, .svc, .nv], [.evtRpt])
  | .tileSpareTakeover => ([.clk, .bm, .air], [])
  | .prachCombine .. => ([.clk, .stats, .evt, .lnk, .air], [.bfBeamErr, .bfNullVec, .bfSat, .evtRpt])
  | .dpdThermalUpdate .. => ([.clk, .evt, .dpds, .marks, .air], [.evtRpt])
  | .dpdBankWrite .. => ([.evt, .out, .dpds], [.dpdWrej, .evtRpt])
  | .dpdHoRequest .. => ([.evt, .out, .dpds], [.evtRpt])
  | .dpdHoCheckDone .. => ([.evt, .dpds, .marks], [.evtRpt])
  | .dpdRampStep .. => ([.clk, .dpds, .air], [])
  | .dpdDivergenceWindow .. => ([.stats, .evt, .cvt, .dpds, .disp], [.capStat, .evtRpt])
  | .dpdProbationEnd .. => ([.clk, .evt, .dpds, .marks, .air], [.evtRpt])
  | .dpdFallback .. => ([.clk, .stats, .evt, .dpds, .air], [.evtRpt])
  | .dpdIdentity .. => ([.clk, .stats, .evt, .dpds, .disp, .marks, .air], [.evtRpt])
  | .dpdFallbackCheckEnd .. => ([.evt, .dpds, .disp, .marks], [.evtRpt])
  | .dpdReq .. => ([.fresh, .evt, .out, .disp], [.evtRpt])
  | .dpdJobStart => ([.clk, .freeCtr, .stats, .fresh, .evt, .cvt, .dpds, .disp, .ge, .marks, .air], [.capStat, .evtRpt])
  | .nop .. => slotFrame
  | .add .. => slotFrame
  | .sub .. => slotFrame
  | .addh .. => slotFrame
  | .subh .. => slotFrame
  | .neg .. => slotFrame
  | .conj .. => slotFrame
  | .swap .. => slotFrame
  | .shl .. => slotFrame
  | .shr .. => slotFrame
  | .mov .. => slotFrame
  | .cmul .. => slotFrame
  | .mag2 .. => slotFrame
  | .iadd .. => slotFrame
  | .isub .. => slotFrame
  | .andOp .. => slotFrame
  | .orOp .. => slotFrame
  | .xorOp .. => slotFrame
  | .ishl .. => slotFrame
  | .ishr .. => slotFrame
  | .icmp .. => slotFrame
  | .clra .. => slotFrame
  | .cmac4 .. => slotFrame
  | .cmacb .. => slotFrame
  | .cdot .. => slotFrame
  | .acca .. => slotFrame
  | .ashr .. => slotFrame
  | .mova .. => slotFrame
  | .extr .. => slotFrame
  | .sat .. => slotFrame
  | .norm .. => slotFrame
  | .expa .. => slotFrame
  | .exp .. => slotFrame
  | .bexp .. => slotFrame
  | .bxadd .. => slotFrame
  | .setbs .. => slotFrame
  | .bfly .. => slotFrame
  | .mfr .. => slotFrame
  | .mtr .. => slotFrame
  | .ldW .. => slotFrame
  | .stW .. => slotFrame
  | .ldD .. => slotFrame
  | .stD .. => slotFrame
  | .ldH .. => slotFrame
  | .addi .. => slotFrame
  | .addm .. => slotFrame
  | .movp .. => slotFrame
  | .movm .. => slotFrame
  | .movb .. => slotFrame
  | .movl .. => slotFrame
  | .setm .. => slotFrame
  | .nopc .. => slotFrame
  | .jmp .. => slotFrame
  | .jz .. => slotFrame
  | .jnz .. => slotFrame
  | .jn .. => slotFrame
  | .jnn .. => slotFrame
  | .call .. => slotFrame
  | .ret .. => slotFrame
  | .loop0 .. => slotFrame
  | .loop1 .. => slotFrame
  | .loopr0 .. => slotFrame
  | .loopr1 .. => slotFrame
  | .ei .. => slotFrame
  | .di .. => slotFrame
  | .reti .. => slotFrame
  | .xfer .. => slotFrame
  | .xwait .. => slotFrame
  | .done .. => slotFrame
  | .yield .. => slotFrame
  | .ldi .. => slotFrame
  | .transferComplete .. => moveFrame
  | .interruptAccept .. => ([.stats, .fresh, .evt, .disp, .ge], [.evtRpt, .geDoorbell])
  | .geDoorbell .. => ([.fresh, .evt, .out, .ge], [.evtRpt])
  | .gePost .. => ([.evt, .out, .ge], [.evtRpt])
  | .releaseEntryFire .. => ([.clk, .freeCtr, .ge, .air], [])
  | .jobStart .. => ([.ge], [])
  | .preemptLate .. => ([.stats, .evt, .disp, .ge], [.evtRpt, .geDoorbell])
  | .jobOverrun .. => ([.stats, .evt, .disp, .ge], [.evtRpt, .geDoorbell])
  | .geCplRead .. => ([.out, .ge], [])
  | .engineRollMove .. => ([.evt, .ge], [.evtRpt])
  | .baseReevaluation => ([.regs, .objs, .objGen, .cal, .hk], [])
  | .traceGate .. => ([.evt, .cal], [.calXo, .calXoStat, .evtRpt])
  | .topNoteWindow .. => ([.regs, .clk, .objs, .objGen, .fresh, .evt, .cal, .air], [])
  | .calHrxArm .. => ([.fresh, .evt, .out], [.calHrx, .calHrxStat, .evtRpt])
  | .heartInjection => ([.regs, .clk, .objs, .objGen, .fresh, .fe, .cvt, .rx, .air], [])
  | .heartSnapshot => ([.stats, .evt, .cvt, .cal], [.capStat, .evtRpt])
  | .heartRunComplete .. => ([.regs, .objs, .objGen, .evt, .fe, .bm, .cal], [])
  | .calRampStep => ([.clk, .cal, .air], [])
  | .calItemStale .. => ([.clk, .evt, .cal, .air], [.evtRpt])
  | .foregroundRequest .. => ([.regs, .objs, .objGen, .evt, .fe, .bm, .cal], [])
  | .foregroundWindowTimeout .. => ([.regs, .clk, .objs, .objGen, .evt, .cal, .air], [])
  | .serviceWindowStart => ([.regs, .clk, .objs, .objGen, .evt, .tl, .fe, .cvt, .rx, .bm, .cal, .lnk, .marks, .air], [])
  | .foregroundRunEnd .. => ([.regs, .clk, .objs, .objGen, .evt, .tl, .fe, .cvt, .rx, .tx, .bm, .cal, .lnk, .marks, .air], [])
  | .iqDataMessage .. => ([.clk, .stats, .evt, .lnk, .air], [.evtRpt, .lnkPortDrop, .lnkPortLate])
  | .dlWindowClose .. => ([.clk, .stats, .evt, .air], [.evtRpt])
  | .ulSectionSend .. => ([.stats, .evt, .out, .lnk], [.evtRpt])
  | .realTimeControlMessage .. => ([.clk, .stats, .evt, .lnk, .air], [.evtRpt, .lnkPortDrop, .lnkPortLate])
  | .genericDataMessage .. => ([.clk, .stats, .evt, .bm, .lnk, .air], [.bfWrej, .evtRpt, .lnkPortDrop, .lnkPortLate])
  | .captureStream .. => ([.clk, .freeCtr, .stats, .addrFaultRec, .evt, .out, .sec, .cvt, .ge, .lnk, .air], [.capStat, .dbgChalId,
      .evtRpt, .memFault, .monData, .tlNowHi])
  | .delayRequest .. => ([.clk, .stats, .evt, .out, .lnk, .air], [.evtRpt, .lnkPortDrop, .lnkPortLate])
  | .requestWithFollowUp .. => ([.clk, .stats, .evt, .lnk, .air], [.evtRpt, .lnkPortDrop, .lnkPortLate])
  | .followUp .. => ([.clk, .stats, .evt, .out, .lnk, .air], [.evtRpt, .lnkPortDrop, .lnkPortLate])
  | .remoteRequest .. => ([.clk, .stats, .evt, .out, .lnk, .air], [.evtRpt, .lnkPortDrop, .lnkPortLate])
  | .eventIndicationSend .. => ([.out, .lnk], [])
  | .indicationAck .. => ([.clk, .stats, .evt, .lnk, .air], [.evtRpt, .lnkPortDrop, .lnkPortLate])
  | .indicationResend .. => ([.clk, .evt, .out, .lnk, .air], [.evtRpt])
  | .synchronisationRequest .. => ([.clk, .stats, .evt, .out, .lnk, .air], [.evtRpt, .lnkPortDrop, .lnkPortLate])
  | .portStateChange .. => ([.evt, .lnk], [.evtRpt, .lnkPortStat])
  | .sakInstall .. => ([.evt, .sec, .lnk], [.evtRpt, .lnkPortStat])
  | .ptpSyncInterval .. => ([.evt, .lnk], [.evtRpt, .lnkPtpStat, .tlStatus])
  | .ptpMasterChange .. => ([.evt, .lnk], [.evtRpt, .lnkPtpStat, .tlStatus])
  | .ptpHoldoverEntry => ([.evt, .lnk], [.evtRpt, .lnkPtpStat, .tlStatus])
  | .synceSquelch .. => ([.clk, .evt, .lnk, .air], [.evtRpt, .lnkSynceStat])
  | .synceResume => ([.clk, .air], [.lnkSynceStat])
  | .esmcSend .. => ([.clk, .out, .lnk, .air], [])
  | .esmcReceive .. => ([.evt, .lnk], [.evtRpt, .lnkSynceStat])
  | .ppsOutEdge => ([.clk, .out, .air], [])
  | .ppsInEdge .. => ([.regs, .clk, .objs, .objGen, .evt, .tl, .rx, .lnk, .air], [])
  | .lnkPpsInLoss => ([.clk, .evt, .lnk, .air], [.evtRpt, .lnkPtpStat, .tlStatus])
  | .linkLaneFailure .. => ([.subs, .evt, .lnk, .nv], [.evtRpt, .lnkLaneStat, .lnkPortStat])
  | .linkLaneTxMove .. => ([.lnk], [])
  | .linkLaneRxMove .. => ([.lnk], [])
  | .lnkLaneSpared .. => ([.stats, .subs, .evt, .lnk, .svc, .nv], [.evtRpt, .lnkLaneMap, .lnkLaneStat, .lnkPortStat])
  | .linkRealignTimeout .. => ([.clk, .subs, .evt, .lnk, .svc, .nv, .air], [.evtRpt, .lnkLaneMap, .lnkLaneStat, .lnkPortStat])
  | .laneReturnToSpare .. => ([.subs, .nv], [.lnkLaneStat])
  | .scrubPass .. => ([.clk, .evt, .mem, .air], [.evtRpt, .memBankCe, .memBankUe, .memFault])
  | .memRowRepaired .. => ([.evt, .lnk, .mem, .svc, .nv], [.evtRpt, .memBankStat])
  | .bankMigrationStart .. => ([.subs, .evt, .adm, .mem, .nv], [.evtRpt, .memBankStat])
  | .memBankSpared .. => ([.subs, .evt, .lnk, .mem, .svc, .nv], [.evtRpt, .memBankStat])
  | .serviceBankSpare .. => ([.subs, .evt, .adm, .mem, .nv], [.evtRpt, .memBankStat])
  | .memLock .. => ([.evt, .out, .mem], [.evtRpt, .memFault])
  | .memLockRelease .. => ([.evt, .out, .mem], [.evtRpt])
  | .memHoldFault .. => moveFrame
  | .dmaRingKick .. => ([.fresh, .evt, .out, .mem], [.dmaRingStat, .dmaTrigDrop, .evtRpt])
  | .dmaDescriptor .. => moveFrame
  | .dmaHalfCompletion .. => moveFrame
  | .dmaRingDisable .. => ([.fresh, .evt, .mem], [.dmaRingCfg, .dmaRingStat, .evtRpt])
  | .mainMoverParity => ([.fresh, .evt, .mem, .svc], [.dmaRingStat, .evtRpt])
  | .dmaMainRestored .. => ([.evt, .mem], [.evtRpt])
  | .read .. => ([.freeCtr, .stats, .evt, .out, .diong, .sec, .ge], [.dbgChalId, .evtRpt, .monData, .tlNowHi])
  | .write .. => anyFrame
  | .readBlock .. => ([.freeCtr, .stats, .evt, .out, .diong, .sec, .ge], [.dbgChalId, .evtRpt, .monData, .tlNowHi])
  | .writeBlock .. => anyFrame
  | .store .. => ([.stats, .evt, .out, .diong, .fe, .cal, .nv], [.evtRpt])
  | .restore .. => ([.regs, .objs, .objsStaged, .objGen, .stats, .evt, .out, .adm, .diong, .hk], [])
  | .subscribe .. => ([.freeCtr, .stats, .evt, .out, .diong, .sec, .ge], [.dbgChalId, .evtRpt, .monData, .tlNowHi])
  | .digest .. => ([.stats, .evt, .out, .diong], [.evtRpt])
  | .sessionTimeout .. => ([.clk, .ctl, .evt, .diong, .sec, .ge, .hk, .marks, .air], [.bdacDrnStat, .dbgCoreCtrl, .dbgEngHalt,
      .dbgStat, .evtRpt, .memBankCtrl])
  | .blockTransferTimeout .. => ([.clk, .diong, .air], [])
  | .subscriptionNotify .. => ([.clk, .freeCtr, .out, .diong, .sec, .ge, .air], [.dbgChalId, .monData, .tlNowHi])
  | .rwDigestRecompute => ([.freeCtr, .diong], [])
  | .replicaRewrite .. => ([.clk, .diong, .rx, .air], [])
  | .eventFiringPresent .. => ([.fresh, .evt, .lnk], [.evtRpt, .evtStk])
  | .eventCease .. => ([.evt, .lnk], [])
  | .stickyFlagClear .. => ([.fresh, .evt, .lnk], [.evtRpt, .evtStk])
  | .counterFold => ([.regs, .stats, .evt], [])
  | .statisticsCounterClear .. => ([.stats], [])
  | .writeFrame .. => ([.diong], [])
  | .readFrame => ([.out, .diong], [])
  | .spiStatus => ([.out, .diong], [])
  | .powerRequest .. => ([.ctl, .evt, .out, .ge, .pwr, .hk, .marks], [.aonLastwake, .aonWcnt, .bdacDrnStat, .ctlFwStat,
      .dbgCoreCtrl, .dbgEngHalt, .evtRpt, .pwrReqStat, .pwrStat])
  | .powerEntryStep => ([.regs, .clk, .objs, .objGen, .stats, .islands, .ctl, .evt, .tl, .sec, .lo, .fe, .cvt, .rx, .disp, .ge,
      .cal, .lnk, .mem, .pwr, .hk, .svc, .nv, .marks, .air], [])
  | .powerExit => ([.stats, .islands, .ctl, .evt, .diong, .sec, .lo, .fe, .cvt, .rx, .ge, .pwr, .hk, .svc, .nv, .marks],
      [.bdacDrnStat, .dbgCoreCtrl, .dbgEngHalt, .dbgStat, .evtRpt, .memBankCtrl, .pwrStat])
  | .warmStart => anyFrame
  | .wakeToTransition => ([.clk, .islands, .ctl, .evt, .tl, .fe, .cvt, .rx, .tx, .ge, .pwr, .hk, .marks, .air], [.aonLastwake,
      .aonWcnt, .bdacDrnStat, .ctlFwStat, .dbgCoreCtrl, .dbgEngHalt, .evtRpt, .pwrBoot, .pwrReqStat, .pwrStat])
  | .slotgateChange => ([.clk, .ctl, .evt, .cvt, .ge, .pwr, .hk, .marks, .air], [.aonLastwake, .aonWcnt, .bdacDrnStat, .ctlFwStat,
      .dbgCoreCtrl, .dbgEngHalt, .evtRpt, .pwrReqStat, .pwrStat])
  | .sectionGateOff .. => ([.clk, .cvt, .pwr, .air], [])
  | .sectionGateOn .. => ([.clk, .cvt, .pwr, .air], [])
  | .wakePin .. => ([.clk, .ctl, .evt, .ge, .pwr, .hk, .marks, .air], [.aonLastwake, .aonWcnt, .bdacDrnStat, .ctlFwStat,
      .dbgCoreCtrl, .dbgEngHalt, .evtRpt, .pwrReqStat, .pwrStat])
  | .rtcAlarm => ([.clk, .ctl, .evt, .ge, .pwr, .hk, .marks, .air], [.aonAlarm, .aonLastwake, .aonWcnt, .bdacDrnStat, .ctlFwStat,
      .dbgCoreCtrl, .dbgEngHalt, .evtRpt, .pwrReqStat, .pwrStat])
  | .linkSignalDetect .. => ([.clk, .ctl, .evt, .ge, .pwr, .hk, .marks, .air], [.aonLastwake, .aonWcnt, .bdacDrnStat, .ctlFwStat,
      .dbgCoreCtrl, .dbgEngHalt, .evtRpt, .pwrReqStat, .pwrStat])
  | .t1sFrameWake .. => ([.ctl, .evt, .ge, .pwr, .hk, .marks], [.aonLastwake, .aonWcnt, .bdacDrnStat, .ctlFwStat, .dbgCoreCtrl,
      .dbgEngHalt, .evtRpt, .pwrReqStat, .pwrStat])
  | .debugWakeWord .. => ([.stats, .ctl, .evt, .ge, .pwr, .hk, .marks], [.aonLastwake, .aonWcnt, .bdacDrnStat, .ctlFwStat,
      .dbgCoreCtrl, .dbgEngHalt, .evtRpt, .pwrReqStat, .pwrStat])
  | .thermalAlarm .. => ([.ctl, .evt, .ge, .pwr, .hk, .marks], [.aonLastwake, .aonWcnt, .bdacDrnStat, .ctlFwStat, .dbgCoreCtrl,
      .dbgEngHalt, .evtRpt, .pwrReqStat, .pwrStat])
  | .wrxSniff .. => ([.clk, .pwr, .air], [.wrxStat])
  | .wrxSyncTimeout => ([.clk, .evt, .pwr, .air], [.evtRpt, .wrxCnt, .wrxStat])
  | .wakeFrame .. => ([.ctl, .evt, .ge, .pwr, .hk, .nv, .marks], [.aonLastwake, .aonWcnt, .bdacDrnStat, .ctlFwStat, .dbgCoreCtrl,
      .dbgEngHalt, .evtRpt, .pwrReqStat, .pwrStat, .wrxCnt, .wrxLastcnt, .wrxStat])
  | .wrxTrim => ([.clk, .pwr, .air], [])
  | .housekeepingRound .. => ([.regs, .clk, .freeCtr, .objs, .objGen, .stats, .islands, .fresh, .ctl, .evt, .tl, .diong, .sec, .lo,
      .fe, .cvt, .rx, .bm, .dpds, .disp, .ge, .cal, .lnk, .mem, .pwr, .hk, .svc, .nv, .marks, .air], [])
  | .thermalCarrierDrop => carrierFrame
  | .ldacEdge => ([.clk, .freeCtr, .hk, .air], [.bdacChCode, .bdacDrnStat])
  | .bdacStrobeWrite .. => regWriteFrame
  | .bdacCodeWrite .. => regWriteFrame
  | .bdacShort .. => ([.regs, .fresh, .evt, .hk], [])
  | .bdacShortTimeout .. => ([.clk, .fresh, .evt, .fe, .bm, .hk, .air], [.bdacChCode, .bdacDrnFault, .bdacDrnReq, .bdacDrnStat,
      .evtRpt])
  | .bdacSupplyLow .. => ([.fresh, .evt, .fe, .bm, .hk], [.bdacChCode, .bdacDrnFault, .bdacDrnReq, .bdacDrnStat, .bdacStat,
      .evtRpt])
  | .bdacSuppliesGood => ([.hk], [.bdacChCode, .bdacDrnStat, .bdacStat])
  | .drainRequest .. => regWriteFrame
  | .amplifierFault .. => ([.fresh, .evt, .fe, .bm, .hk], [.bdacChCode, .bdacDrnFault, .bdacDrnReq, .bdacDrnStat, .evtRpt])
  | .faultSafeCode .. => ([.clk, .hk, .air], [.bdacChCode])
  | .drainReadbackMismatch .. => ([.fresh, .evt, .fe, .bm, .hk], [.bdacChCode, .bdacDrnFault, .bdacDrnReq, .bdacDrnStat, .evtRpt])
  | .drainFaultClear .. => regWriteFrame
  | .monTrigger .. => regWriteFrame
  | .monEntryResult .. => ([.clk, .fresh, .evt, .fe, .bm, .hk, .air], [.bdacChCode, .bdacDrnFault, .bdacDrnReq, .bdacDrnStat,
      .evtRpt, .monData, .monStat, .thmAmpCfg])
  | .monDataRead .. => ([.freeCtr, .out, .sec, .ge], [.dbgChalId, .monData, .tlNowHi])
  | .fanWatchdogExpiry .. => ([.clk, .evt, .hk, .air], [.evtRpt, .thmPwmDuty])
  | .thmFanStall .. => ([.clk, .fresh, .evt, .air], [.evtRpt, .thmTach])
  | .transitionToken .. => anyFrame
  | .keyEnvelope .. => ([.ctl, .evt, .out, .diong, .sec, .ge, .hk, .nv, .marks], [.bdacDrnStat, .dbgCoreCtrl, .dbgEngHalt,
      .dbgStat, .evtRpt, .memBankCtrl, .secKeystat])
  | .rootRecord .. => ([.evt, .out, .nv], [.evtRpt, .secRootstat])
  | .attestation .. => ([.freeCtr, .out, .sec], [])
  | .raiseMinimums .. => ([.out, .nv], [])
  | .verifyImage .. => ([.evt, .out], [.evtRpt, .secMboxBuf, .secMboxStat])
  | .checkDiongTag .. => ([.evt, .out], [.evtRpt, .secMboxBuf, .secMboxStat])
  | .makeDiongTag .. => ([.evt, .out], [.evtRpt, .secMboxBuf, .secMboxStat])
  | .mboxKeyEnvelope .. => ([.ctl, .evt, .out, .diong, .sec, .ge, .hk, .nv, .marks], [.bdacDrnStat, .dbgCoreCtrl, .dbgEngHalt,
      .dbgStat, .evtRpt, .memBankCtrl, .secKeystat, .secMboxBuf, .secMboxStat])
  | .mboxAttestation .. => ([.freeCtr, .evt, .out, .sec], [.evtRpt, .secMboxBuf, .secMboxStat])
  | .lifecycleToken .. => anyFrame
  | .mboxRootRecord .. => ([.evt, .out, .nv], [.evtRpt, .secMboxBuf, .secMboxStat, .secRootstat])
  | .randomBytes .. => ([.freeCtr, .evt, .out], [.evtRpt, .secMboxBuf, .secMboxStat])
  | .extest .. => tapFrame
  | .samplePreload .. => tapFrame
  | .idcode => tapFrame
  | .clamp => tapFrame
  | .highz => tapFrame
  | .dbgChal => ([.freeCtr, .stats, .evt, .out, .sec, .hk], [.bdacDrnStat, .dbgChalId, .dbgFails, .evtRpt])
  | .dbgResp .. => ([.stats, .evt, .out, .sec, .hk], [.bdacDrnStat, .dbgFails, .dbgStat, .evtRpt])
  | .dbgPort .. => moveFrame
  | .dbgStatus => tapFrame
  | .bypass .. => tapFrame
  | .challengeRead .. => ([.freeCtr, .out, .sec], [.dbgChalId])
  | .debugResponse .. => ([.stats, .evt, .out, .sec], [.dbgStat, .evtRpt])
  | .debugTunnel .. => moveFrame
  | .dbgClose .. => ([.ctl, .evt, .sec, .ge, .hk, .marks], [.bdacDrnStat, .dbgCoreCtrl, .dbgEngHalt, .dbgFails, .dbgStat, .evtRpt,
      .memBankCtrl])
  | .debugSessionExpiry => ([.clk, .ctl, .evt, .sec, .ge, .hk, .marks, .air], [.bdacDrnStat, .dbgCoreCtrl, .dbgEngHalt, .dbgStat,
      .evtRpt, .memBankCtrl])
  | .coreHalt .. => ([.ctl, .evt, .marks], [.dbgCoreCtrl, .dbgFails, .evtRpt])
  | .coreStep .. => ([.ctl, .evt, .marks], [.dbgCoreCtrl, .dbgFails, .evtRpt])
  | .engineHalt .. => ([.stats, .evt, .disp, .ge], [.dbgEngHalt, .dbgFails, .evtRpt, .geDoorbell])
  | .laneFault .. => ([.subs, .evt, .fe, .rx, .bm, .lnk, .svc, .nv, .marks], [.evtRpt])
  | .engineRetire .. => ([.stats, .evt, .out, .adm, .disp, .ge, .lnk, .svc, .nv], [.evtRpt, .geDoorbell])
  | .engineSpareTakeover .. => ([.evt, .adm, .ge, .lnk, .svc, .nv], [.evtRpt])
  | .standbyImageWrite .. => ([.ctl, .evt, .out, .mem, .nv], [.ctlFwStat, .evtRpt])
  | .fwStandbyReady .. => ([.ctl, .evt], [.ctlFwSig, .ctlFwStat, .evtRpt])
  | .handoverRequest .. => ([.evt, .out, .svc], [.ctlFwSig, .ctlFwStat, .evtRpt])
  | .handoverSaving => ([.clk, .air], [.ctlFwStat])
  | .fwSaved .. => ([.ctl, .evt], [.ctlFwSig, .ctlFwStat, .evtRpt])
  | .handoverActivate => ([.clk, .ctl, .evt, .svc, .marks, .air], [.ctlFwSig, .ctlFwStat, .evtRpt, .secBoot])
  | .fwAlive .. => ([.ctl, .evt], [.ctlFwSig, .ctlFwStat, .evtRpt])
  | .fwHandoverDone => ([.clk, .ctl, .evt, .air], [.ctlFwSig, .ctlFwStat, .evtRpt])
  | .fwReverted => ([.clk, .ctl, .evt, .nv, .marks, .air], [.ctlFwSig, .ctlFwStat, .evtRpt, .secBoot])
  | .poweredHour => ([.clk, .evt, .lnk, .svc, .nv, .air], [.evtRpt])
  | .nvWordWrite .. => ([.evt, .nv], [.evtRpt])
  | .coldStart .. => anyFrame
  | .resetAssert .. => anyFrame
  | .osc32Qualified => ([.boot], [])
  | .bootStep .. => ([.regs, .clk, .freeCtr, .regsStaged, .objs, .objsStaged, .objGen, .stats, .islands, .subs, .fresh, .ctl, .evt,
      .tl, .adm, .diong, .sec, .lo, .fe, .cvt, .rx, .tx, .bm, .dpds, .disp, .ge, .cal, .lnk, .mem, .pwr, .hk, .svc, .boot, .nv,
      .marks, .air], [])
  | .refclkQualified => ([.ctl, .boot], [.pwrBoot])
  | .loaderImage .. => ([.out, .boot], [.pwrBoot])
  | .pwrBootGo .. => ([.evt, .boot], [.evtRpt, .pwrBoot])
  | .vtargetUpdate .. => ([.clk, .hk, .air], [.pwrAvs])
  | .dpdMinRateVisit .. => ([.clk, .stats, .evt, .cvt, .air], [.capStat, .evtRpt, .orxDrop])
  | .dpdStaleAgeExpiry .. => ([.clk, .evt, .dpds, .marks, .air], [.evtRpt])
  | .bdacOutputStep .. => ([.clk, .hk, .air], [.bdacChCode, .bdacDrnStat])
  | .tachEdge .. => ([.freeCtr, .hk], [.thmTach])
  | .overloadDeassert .. => ([.fe], [])
  | .oldCakTimeout .. => ([.clk, .evt, .sec, .lnk, .air], [.evtRpt, .lnkPortStat])
  | .arpRequest .. => ([.out], [])
  | .icmpEchoRequest .. => ([.freeCtr, .out], [])
  | .tapReset => tapFrame
  | .debugChallengeExpiry => ([.clk, .sec, .air], [])
  | .debugLockoutEnd => ([.clk, .sec, .air], [])
  | .baseNoteSave .. => ([.clk, .cal, .nv, .air], [])

/-- Every command whose meaning a chapter gives leaves all but its frame as it was. -/
def FramesOf (chapters : List Nat) : Prop :=
  ∀ c s t, chapterOf c ∈ chapters → exec c s = .next t → SameBut (frameOf c).1 (frameOf c).2 s t

/-- The command answers a next state of which `P` holds. -/
def Completes (c : Instr) (s : State) (P : State → Prop) : Prop := ∃ t, exec c s = .next t ∧ P t

/-- A firing of an event waits to be presented (R492). -/
abbrev Fires (t : State) (src : Nat) : Prop := ∃ f ∈ t.evt.waiting, f.src = src

/-- Event entry `n` of the timeline is valid, of a type, and fires (R42, R48, R507). -/
abbrev EventFires (s : State) (n type : Nat) (e : EvtEntry) : Prop :=
  s.tlRuns = true ∧ s.pwr.depth = 0 ∧ n < 4096 ∧ evtOfWord (rd s .tlEvt [n]) = e ∧ e.valid = true ∧ e.type = type ∧
    e.offset < patPeriod s.pattern ∧ eventHeld (toBoundary s (type * 16) n (nextOffset s.pattern s.frameOfs e.offset)) n e = false

/-- A SYNC waits for the first step of the 256-tick grid at or after `tick` (R173). -/
abbrev SyncPends (t : State) (tick : Nat) : Prop :=
  ∃ ts ∈ t.rx.sync.pending, tick ≤ ts ∧ ts < tick + 256 ∧ (ts + frameTicks - t.frameOfs % frameTicks) % 256 = 0

/-- The state at the end of the FFT window of the next symbol of a channel of path `p` (R187, R188). -/
def fftEnd (s : State) (p cc : Nat) : State :=
  let ofs := s.ccWinOfs cc * 2 ^ s.ccHalfbands cc
  let w := s.windowShift p cc
  toBoundary s (72 * 64 + cc) p (fun t => nextSymbol s.frameOfs (s.ccMu cc) (s.ccEcp cc) (t + ofs - w) + w - ofs)

/-- The samples of the I and the Q converter as complex samples. -/
def iqSamples (xi xq : List Int) : List Cplx := (xi.zip xq).map (fun e => ⟨e.1, e.2⟩)

/-- The samples that an FFT window takes of a channel's output (R168, R188). -/
def fftSamples (s : State) (p cc : Nat) (xi xq : List Int) : List Cplx :=
  lastN ((fftEnd s p cc).ccPoints cc) (rxChannel (fftEnd s p cc) p cc (iqSamples xi xq)).1

/-- The state at the start of the preamble of occasion `occ` of PRACH extractor `j` on path `p` (R193, R194). -/
def prachStart (s : State) (p j occ : Nat) : State :=
  toBoundary s (73 * 64 + j * 16 + occ) p (nextOffset s.pattern s.frameOfs (rd s .prchOcc [p / 8, j, occ] % patPeriod s.pattern))

/-- The state when that preamble has come out of the extractor's filters. -/
def prachEnd (s : State) (p j occ : Nat) : State :=
  let span := prachSpan (prachStart s p j occ) (s.prachWord p j) (prachStart s p j occ).now
  passTicks (prachStart s p j occ) (span.1 + span.2 + ceilDiv (prachDelay (s.prachWord p j)) 5)

/-- The state at which the channel of carrier `cc` on path `p` reads its next symbol, LAT before the symbol's air start (R211). -/
def txRead (s : State) (p cc : Nat) : State :=
  toBoundary s (79 * 64 + cc) p (fun t => nextSymbol s.frameOfs (s.ccMu cc) (s.ccEcp cc) (t + s.txLat p cc) - s.txLat p cc)

/-- The counter value of that symbol's air start. -/
def txAir (s : State) (p cc : Nat) : Nat := (txRead s p cc).now + s.txLat p cc

/-- The configuration that symbol starts under (R220). -/
def txConfig (s : State) (p cc : Nat) : State := (txRead s p cc).configAt (txAir s p cc)

/-- The stream of path `p` at the end of the slot of the reference numerology that ends next (R205 to R208, R215, R223 to R227, R269 to
R277). -/
def slotStream (s : State) (p : Nat) : AirPath := spGet AirPath.none_ (toSlot s 80 p).air.paths p

/-- The length of that slot. -/
def slotLen (s : State) (p : Nat) : Nat := (toSlot s 80 p).slotEnded (toSlot s 80 p).now

/-- The ticks of that slot in which the path was to transmit. -/
def slotTx (s : State) (p : Nat) : Nat := (toSlot s 80 p).txTicks p (toSlot s 80 p).now (slotLen s p)

/-- What a slot leaves in the DAC input, the counters, the events and the composite power of path `p` (R208, R217, R224, R226, R227,
R276). -/
abbrev SlotLeaves (s t : State) (p : Nat) (cal : List Cplx) : Prop :=
  (((slotStream s p).dac ≠ [] → spGet [] t.tx.dac p = dacOf ((slotStream s p).dac.take (10 * slotLen s p)).reverse cal) ∧
    (0 < slotTx s p → spGet (-32768) t.tx.power p = compositePower (toSlot s 80 p) p (slotStream s p).energy (5 * slotTx s p))) ∧
  (rd t .dpdClamp [p / 8, p % 8] = min 0xFFFFFFFF (rd s .dpdClamp [p / 8, p % 8] + (slotStream s p).tally.clamped) ∧
    rd t .txClip [p / 8, s.laneOf p] = min 0xFFFFFFFF (rd s .txClip [p / 8, s.laneOf p] + (slotStream s p).tally.clipped) ∧
    rd t .txSat [p / 8, s.laneOf p] = min 0xFFFFFFFF (rd s .txSat [p / 8, s.laneOf p] + (slotStream s p).tally.sat) ∧
    rd t .cfrMiss [p / 8, s.laneOf p] = min 0xFFFFFFFF (rd s .cfrMiss [p / 8, s.laneOf p] + (slotStream s p).tally.miss)) ∧
  ((10 * slotTx s p < 10000 * (slotStream s p).slotClip → Fires t 52) ∧ (10 * slotTx s p < 10000 * (slotStream s p).slotClamp → Fires t 82) ∧
    (0 < (slotStream s p).tally.sat → Fires t 54) ∧ (0 < (slotStream s p).tally.miss → Fires t 53))

/-- An engine runs, and an operation of a slot joins the bundle begun and does not end it; no uncorrectable error is found in what it
reads (R300, R301, R322). -/
abbrev GeReady (s : State) (e slot : Nat) (last : Bool) (ecc : Nat) : Prop :=
  e < 18 ∧ (s.eng e).st = .running ∧ slotClash (s.eng e).bundle.slots slot = false ∧ last = false ∧ ecc ≠ 2

/-- The loop, by number, that goes back to its start as the bundle at LE issues, and what its count then reads (R316). -/
def loopBack (x : Eng) : Option (Nat × Nat) := (loopNext x).find? (fun r => r.2 ≠ 0)

/-- Where a bundle begun goes when it issues (R307, R316). -/
def bundleGoes (x : Eng) : Nat :=
  match x.bundle.target, x.bundle.skip, loopBack x with
  | some t, _, _ => t
  | none, some t, _ => t
  | none, none, some (n, _) => x.cr (26 + n)
  | none, none, none => x.pc + 1

/-- A bundle that jumps or goes back to a loop's start goes to an address within CODE (R299). -/
abbrev GeGoes (s : State) (e : Nat) : Prop :=
  ((s.eng e).bundle.target.isSome = true ∨ ((s.eng e).bundle.skip = none ∧ (loopBack (s.eng e)).isSome = true)) →
    bundleGoes (s.eng e) < (s.eng e).codeSize

/-- An engine runs a job, and an operation of a slot ends the bundle begun; with what the operation writes, registers `w` with their
latencies and pointers `ptrs`, the bundle is legal, ends neither the job nor its turn, and no uncorrectable error is found in what it reads
(R300, R301, R322). -/
abbrev GeIssues (s : State) (e slot : Nat) (last : Bool) (ecc : Nat) (w : List (Nat × Nat)) (ptrs : List Nat) : Prop :=
  (e < 18 ∧ (s.eng e).st = .running ∧ (s.eng e).job ≠ none ∧ slotClash (s.eng e).bundle.slots slot = false ∧ last = true ∧ ecc ≠ 2) ∧
  ((s.eng e).bundle.writes ++ w).Nodup ∧ ((s.eng e).bundle.ptrs ++ ptrs).Nodup ∧
  ((s.eng e).bundle.fin = none ∧ (s.eng e).bundle.yieldTo = none) ∧
  ((slot = 4 ∨ 4 ∈ (s.eng e).bundle.slots) → loopNext (s.eng e) = [])

/-- The bundle has issued, and the engine runs on at an address (R300, R306). -/
abbrev GeIssued (s t : State) (e pc : Nat) : Prop :=
  (t.eng e).st = .running ∧ (t.eng e).issue = (s.eng e).issue + 1 ∧ (t.eng e).pc = pc % 2 ^ 13 ∧ (t.eng e).bundle = Bundle.empty

/-- A result of the bundle that issues stands in the pipeline, to be written `l` bundles later (R306, R309). -/
abbrev GeSent (s t : State) (e l key : Nat) (v : FVal) (mac : Bool) : Prop :=
  ⟨(s.eng e).issue + l, key, v, mac, (s.eng e).issue⟩ ∈ (t.eng e).flight

/-- What a register of a code keeps of a value (R298). -/
def crKeeps (c v : Nat) : Nat :=
  if c = 30 then v % 2 ^ 12 else if c = 31 then bitsOf v 31 16 * 2 ^ 16 + v % 16 else v % 2 ^ codeBits c

/-- With every result written, D register `d` holds `v` and the others what they held. -/
abbrev GeReg (s t : State) (e d v : Nat) : Prop :=
  (t.eng e).drain.dr d = v ∧ ∀ i < 32, i ≠ d % 32 → (t.eng e).drain.dr i = (s.eng e).drain.dr i

/-- With every result written, accumulator `k` holds `c` and the others what they held. -/
abbrev GeAcc (s t : State) (e k : Nat) (c : Cplx) : Prop :=
  (t.eng e).drain.ac k = c ∧ ∀ i < 4, i ≠ k % 4 → (t.eng e).drain.ac i = (s.eng e).drain.ac i

/-- With every result written, the register of code `c` holds `v` and the others what they held. -/
abbrev GeCtl (s t : State) (e c v : Nat) : Prop :=
  (t.eng e).drain.cr c = v ∧ ∀ i < 32, i ≠ c → (t.eng e).drain.cr i = (s.eng e).drain.cr i

/-- A frame on an up port passes checks 1 to 5 as a message of type `ty` (R396). -/
abbrev FrameOk (s : State) (f : LnkFrame) (ty : Nat) : Prop := f.port < 4 ∧ s.portUp f.port = true ∧ frameCheck s f ty = 0

/-- The tokens its port holds pay for a frame (R406). -/
abbrev FramePaid (s : State) (f : LnkFrame) : Prop := f.len * 491520 ≤ (s.port f.port).tokens

/-- A span of addresses lies in bank `b` of the SRAM (R428). -/
abbrev InBank (b a n : Nat) : Prop := sramBase + b * 0x80000 ≤ a ∧ a + n ≤ sramBase + (b + 1) * 0x80000

/-- The configuration that a commit by `role` would put in force now (R53, R57). -/
def commitImage (s : State) (role : Role) : State := overlay s (scopeObjs s role) (scopeRegs s role)

/-- A batch of ring `r` has just been opened between `s` and `t`: nothing is moved or held yet (R455, R467). -/
abbrev BatchOpens (s t : State) (r : Nat) (tl : Bool) : Prop :=
  spGet Batch.none_ t.mem.batch r =
    { Batch.none_ with tl := tl, split := ! mainUp s, since := (spGet Batch.none_ t.mem.batch r).since }

/-- Ring `r` is at a descriptor `d` in SRAM at address `a` that copies within one bank, without a reshuffle, a fixed address or a
chain, that its owner may perform, from its first beat and on a mover that serves it (R431, R455 to R466). -/
abbrev RingCopies (s : State) (r b a : Nat) (d : Desc) : Prop :=
  (r < 128 ∧ ringSt s r = 2 ∧ ringServed s r = true ∧ rbit s .dmaRingCfg [r] 6 = false ∧ (spGet Batch.none_ s.mem.batch r).done = 0 ∧
    (spGet Batch.none_ s.mem.batch r).halfDone = false ∧ (spGet Batch.none_ s.mem.batch r).held = []) ∧
  (b < 96 ∧ (s.island 12).off = false ∧ (s.physBank b).isSome = true ∧ s.mem.poison = [] ∧ s.ringOwner r < 5 ∧
    s.sramAllowed .dma (s.ringOwner r) (some r) b = true) ∧
  (a = rf s .dmaRingBase [r] 39 0 + 32 * rf s .dmaRingStat [r] 23 12 ∧ InBank b a 32 ∧ d = descOf (sramBytes s (a - sramBase) 32)) ∧
  (d.own = true ∧ d.ok = true ∧ d.rsh = 0 ∧ d.sfix = false ∧ d.dfix = false ∧ d.chain = none) ∧
  InBank b d.src d.len ∧ InBank b d.dst d.len ∧ (d.dst + d.len ≤ a ∨ a + 32 ≤ d.dst)

/-- A role that is no tenant's. -/
abbrev Manages (r : Role) : Prop := r = .operator ∨ r = .service

/-- On a link port a frame's PC_ID and SEQ_ID match its SESSION and SEQ (R480). -/
def diongLink (d : DHdr) : Bool :=
  match d.transport with
  | .port _ => decide (d.pcId % 2 ^ 24 = d.session) && decide (d.seqId = d.seq)
  | _ => true

/-- A frame that passes the checks of its VER, its link header, its KEY and its TAG, from a role (R474, R475, R479, R480). -/
abbrev DiongFrom (s : State) (d : DHdr) (op : Nat) (payload : List Byte) (role : Role) : Prop :=
  diongRuns s = true ∧ d.ver = 1 ∧ diongLink d = true ∧ roleOf s d.transport d.key = some role ∧
    (keyMaterial s d.transport d.key).isSome = true ∧
    d.tag = tagOf d.key ((keyMaterial s d.transport d.key).getD []) (frameBody_ (16 + 4 * b2n d.last) op d.session d.seq d.key 0 payload)

/-- A request that fits, from a role, that is new to its idle session (R476 to R480), the loader not running. -/
abbrev DiongAccepts (s : State) (d : DHdr) (op : Nat) (payload : List Byte) (role : Role) (x : Session) : Prop :=
  DiongFrom s d op payload role ∧ s.boot.loader = false ∧ payload.length + 28 ≤ frameMax d.transport ∧
    s.session d.transport d.key d.session = some x ∧ x.busy = false ∧
    0 < (d.seq + 2 ^ 32 - x.seq % 2 ^ 32) % 2 ^ 32 ∧ (d.seq + 2 ^ 32 - x.seq % 2 ^ 32) % 2 ^ 32 < 2 ^ 31

/-- The buffer of a frame that came over the SPI is free again (R503). -/
def diongFreed (s : State) (d : DHdr) : State :=
  if d.transport = .spi then { s with diong := { s.diong with spiIn := s.diong.spiIn.tail } } else s

/-- The state in which a new request is performed: its session at the request's SEQ and in progress. -/
def diongTaken (s : State) (d : DHdr) : State :=
  modSession (diongFreed s d) d.transport d.key d.session
    (fun x => { x with seq := d.seq, resp := none, busy := true, lastFrame := s.clk.elapsed })

/-- The response frame to a request: RESP, the request's OP, SESSION, SEQ and KEY, and the TAG (R475, R479). -/
def diongResponse (s : State) (d : DHdr) (op status : Nat) (payload : List Byte) (last : Bool) : List Byte :=
  let b := frameBody_ (17 + 4 * b2n last) op d.session d.seq d.key status payload
  b ++ tagOf d.key ((keyMaterial s d.transport d.key).getD []) b

/-- The newest thing sent on a request's transport is a frame. -/
abbrev DiongSent (t : State) (tr : Transport) (f : List Byte) : Prop :=
  if tr = .spi then t.diong.spiOut.getLast? = some (false, f) else t.out.getLast? = some (.diong tr f)

/-- A request was answered with a status and payload, and its session stands idle at its SEQ with that answer kept (R477, R478). -/
abbrev DiongAnswers (s t : State) (d : DHdr) (x : Session) (op status : Nat) (payload : List Byte) (last : Bool) : Prop :=
  DiongSent t d.transport (diongResponse s d op status payload last) ∧
  t.session d.transport d.key d.session =
    some { x with seq := d.seq, resp := some (op + 256 * b2n last, status, payload), busy := false, lastFrame := s.clk.elapsed }

/-- The payload of a request of an object's index and sub-index (R481). -/
def objAddr (index sub : Nat) : List Byte := beBytes 2 index ++ beBytes 1 sub

/-- The header, operation code and payload of a request (R481). -/
def diongRequest : Instr → Option (DHdr × Nat × List Byte)
  | .read d index sub => some (d, 1, objAddr index sub ++ [0])
  | .write d index sub type value => some (d, 2, objAddr index sub ++ beBytes 1 type ++ value)
  | .readBlock d index sub offset n => some (d, 3, objAddr index sub ++ [0] ++ beBytes 4 offset ++ beBytes 2 n)
  | .writeBlock d index sub type offset total data =>
    some (d, 4, objAddr index sub ++ beBytes 1 type ++ beBytes 4 offset ++ beBytes 4 total ++ data)
  | .commit d boundary tick => some (d, 5, beBytes 1 boundary ++ List.replicate 7 0 ++ beBytes 8 tick)
  | .abort d => some (d, 6, [])
  | .store d selector _ => some (d, 7, beBytes 1 selector)
  | .restore d mode => some (d, 8, beBytes 1 mode)
  | .subscribe d index sub mode period => some (d, 9, objAddr index sub ++ beBytes 1 mode ++ beBytes 2 period)
  | .digest d scope => some (d, 10, beBytes 1 scope)
  | _ => none

/-- Nothing was performed: objects, staged copies, stored state, admission and memory are what they were. -/
abbrev DeviceSame (s t : State) : Prop :=
  t.objs = s.objs ∧ t.objsStaged = s.objsStaged ∧ t.regsStaged = s.regsStaged ∧ t.nv = s.nv ∧ t.adm = s.adm ∧ t.mem = s.mem

/-- The frame of the T1S port that was sent last. -/
def t1sLast (t : State) : List Byte :=
  match t.out.getLast? with
  | some (.t1s b) => b
  | _ => []

/-- The device is settled below RUN, and a wake source is enabled and available there (R523). -/
abbrev WakeSettled (s : State) (src : Nat) : Prop :=
  s.pwr.req = none ∧ s.pwr.exit = none ∧ 2 ≤ s.pwrState ∧ wakeEnabled s src = true ∧ wakeAvailable src s.pwrState = true

/-- A wake has begun an exit; it is counted and recorded (R519, R523, R529). -/
abbrev WakeTaken (s t : State) (src : Nat) : Prop :=
  t.pwr.exit = some s.pwr.wakeTo ∧ t.pwrMoving = true ∧ t.pwrState = s.pwrState ∧
    rf t .aonLastwake [] 3 0 = src ∧ rf t .aonLastwake [] 6 4 = s.pwrState ∧ rbit t .aonLastwake [] 7 = false ∧
    rd t .aonWcnt [src] = min 0xFFFFFFFF (rd s .aonWcnt [src] + 1)

/-- What a strobe between `s` and `t` does to channel `c`, hit or not: it sees the input register as it stood before a write of its own
cycle, which stays pending (R540, R541, R546, R547). -/
abbrev Strobed (s t : State) (c : Nat) (hit : Bool) : Prop :=
  let same := t.thisHkCycle (s.bias c).wrote
  let seen := if same then (s.bias c).old else rf s .bdacChCode [c] 16 0
  if hit ∧ bitOf seen 16 ∧ s.biasRole c ≠ 0 ∧ ¬ s.ampFaulted (s.biasAmp c) then
    rbit t .bdacChCode [c] 16 = (same && rbit s .bdacChCode [c] 16) ∧ (t.bias c).target = seen % 2 ^ 16 ∧
      (if rf s .bdacChCfg [c] 14 11 = 0 then t.biasOut c = seen % 2 ^ 16 else t.biasOut c = s.biasOut c)
  else rd t .bdacChCode [c] = rd s .bdacChCode [c] ∧ t.bias c = s.bias c

/-- Amplifier `a` has faulted: its drain is low, the fault latched, its request clear, its path failed and the event raised (R546). -/
abbrev AmpFaults (t : State) (a : Nat) : Prop :=
  rbit t .bdacDrnStat [] a = false ∧ t.ampFaulted a = true ∧ rbit t .bdacDrnReq [] a = false ∧ (t.pathFe a).failed = true ∧ Fires t 193

/-- An amplifier whose drain is high has a GATE channel on a supply, 0 VNEG or 1 VPOS, and no fault latched (R543). -/
def gateLoses (s : State) (a which : Nat) : Bool :=
  rbit s .bdacDrnStat [] a && !s.ampFaulted a && (s.gates a).any (fun c => rbit s .bdacChCfg [c] 15 == decide (which = 1))

/-- A mailbox operation is done with a result code and result bytes (SEC_MBOX_STAT, SEC_MBOX_BUF). -/
abbrev MboxDone (t : State) (code : Nat) (b : List Byte) : Prop :=
  rd t .secMboxStat [] = 2 + code % 256 * 256 + b.length * 65536 ∧ mboxBytes t b.length = b

/-- The state in which a boot commits the stored configuration: after a warm start the counter resumes as R520 says. -/
def bootSeeded (s : State) : State :=
  match s.boot.warmTo with
  | some _ => { s with nv := { s.nv with wrxCount := rd s .wrxLastcnt [] },
                       clk := { s.clk with count := (s.pwr.ve + (s.pwr.wakeCycle - 1 - s.pwr.re) * rtcTicks) % 2 ^ 64 } }
  | none => s

/-- A register whose write does nothing beside its fields: no action of its own (R5). -/
def plainReg (id : RegId) : Bool :=
  !ownCommand id && !decide (id ∈ [.tlCtrl, .memBankCtrl, .dmaCtrl, .thmPwmDuty, .thmPwmCfg, .thmCtrl, .monSeq, .wrxCfg, .dbgFails,
    .dbgStat, .dbgChal, .dbgChalId, .dbgId])

/-- The engine of an operation in a slot. -/
def slotEngine : Instr → Option Nat
  | .nop g | .add g | .sub g | .addh g | .subh g | .neg g | .conj g | .swap g | .shl g | .shr g | .mov g | .cmul g
  | .mag2 g | .iadd g | .isub g | .andOp g | .orOp g | .xorOp g | .ishl g | .ishr g | .icmp g | .clra g | .cmac4 g
  | .cmacb g | .cdot g | .acca g | .ashr g | .mova g | .extr g | .sat g | .norm g | .expa g | .exp g | .bexp g
  | .bxadd g | .setbs g | .bfly g | .mfr g | .mtr g | .ldW g | .stW g | .ldD g | .stD g | .ldH g | .addi g | .addm g
  | .movp g | .movm g | .movb g | .movl g | .setm g | .nopc g | .jmp g | .jz g | .jnz g | .jn g | .jnn g | .call g
  | .ret g | .loop0 g | .loop1 g | .loopr0 g | .loopr1 g | .ei g | .di g | .reti g | .xfer g | .xwait g | .done g
  | .yield g => some g.e
  | .ldi g _ => some g.e
  | _ => none

end Sys2Proof.Machine
end

