-- ==== Sys2Proof/Safety.lean ====
section
/-! DEFINITION. What counts as a safe state and a safe run of the block, in the terms the statements use. -/

namespace Sys2Proof.Machine

/-- The SRAM is in its canonical form: addresses strictly rising, and no byte listed that an unlisted address reads as (0,
assumption 5). -/
def Memory.wf (m : Sparse Byte) : Bool := spWf (fun _ => 0) m

/-- One byte of the SRAM, by its offset. -/
def Memory.byte (m : Sparse Byte) (a : Nat) : Byte := spGet 0 m a

/-- A statistics counter's stored value is a count up to 2⁴⁸ - 1, or that limit with SAT in bit 63 (R499). -/
def statLegal (v : Nat) : Prop := v ≤ statMax ∨ v = statMax + 2 ^ 63

/-- The invariant of the block: the stores keep their canonical forms, the queues and logs stay within the sizes the manual gives
them, and the statistics counters hold legal values. -/
structure State.Inv (s : State) : Prop where
  /-- SRAM in canonical form -/
  memory : Memory.wf s.mem.data = true
  /-- one value per register, addresses rising -/
  regs : spSorted s.regs = true
  /-- one staged value per register, addresses rising -/
  staged : spSorted s.regsStaged = true
  /-- one record per island, and none listed that is as an unlisted one -/
  islands : spWf (fun _ => Island.up) s.islands = true
  /-- the event log holds 1,024 entries (R498) -/
  log : s.evt.log.length ≤ 1024
  /-- two SPI request buffers (R503) -/
  spiIn : s.diong.spiIn.length ≤ 2
  /-- eight SPI frames outgoing (R503) -/
  spiOut : s.diong.spiOut.length ≤ 8
  /-- counters in canonical form -/
  stats : spWf (fun _ => 0) s.stats = true
  /-- counters within their limit (R499) -/
  counts : ∀ p ∈ s.stats, statLegal p.2

/-- A step that does not stop. -/
def Proceeds (r : Host.Outcome State Fault Refusal) : Prop := ∃ t, r = .next t

/-- A run of `n` steps that never stops and keeps the invariant throughout. -/
def SafeRun : Nat → State → Prop
  | 0, s => s.Inv
  | n + 1, s => s.Inv ∧ ∃ t, step s = .next t ∧ SafeRun n t

end Sys2Proof.Machine
end

