-- ==== Sys2Proof/Certificates/Slice0/Obligations.lean ====
section
/-! DEFINITION. The statements for the provers: the step and its invariant, frames, and for every command the next state its rules give. -/

open Sys2Proof Sys2Proof.Machine

/-- A step with a command at the front of the queue is that command on the state with the rest of the queue. -/
def Obligations.StepRunsFrontCommand : Prop :=
  ∀ (c : Instr) (rest : List Instr) (s : State), step { s with pending := c :: rest } = exec c { s with pending := rest }

/-- With nothing waiting a step lets one tick pass (DESIGN CHOICE, assumptions 1 and 172): the counter advances by 1 and the queue stays
empty, whatever bundles the running engines issue in it. -/
def Obligations.EmptyQueueTick : Prop :=
  ∀ s, s.pending = [] → ∃ t, step s = .next t ∧ t.pending = [] ∧ t.clk.elapsed = s.clk.elapsed + 1 ∧ t.clk.count = s.clk.count + 1 ∧
    t.frameOfs = s.frameOfs

/-- The invariant holds of the block at reset. -/
def Obligations.ResetKeepsInvariant : Prop := State.reset.Inv

/-- Every step of the block, whatever command is in front, keeps the invariant: canonical stores, queues and logs within their sizes,
counters at legal values. -/
def Obligations.StepKeepsInvariant : Prop := ∀ s t, s.Inv → step s = .next t → t.Inv

/-- No command stops the block: each answers a next state, in which the rest of the queue still waits, time and the draws of free values
have not gone back, and what was sent stays sent. -/
def Obligations.CommandsProceed : Prop :=
  ∀ c s, s.Inv → Completes c s fun t =>
    t.pending = s.pending ∧ s.clk.elapsed ≤ t.clk.elapsed ∧ s.freeCtr ≤ t.freeCtr ∧ s.out <+: t.out ∧ t.Inv

/-- A command of chapters 1 to 8 and 10 to 18, and a register write, leaves every part of the state, and every register that hardware
holds, as it was, but for those its frame names. -/
def Obligations.FramesOfTheBlock : Prop := FramesOf [0, 1, 2, 3, 4, 5, 6, 7, 8, 10, 11, 12, 13, 14, 15, 16, 17, 18]

/-- A command of the adaptation engines leaves every part of the state, and every register that hardware holds, as it was, but for
those its frame names. -/
def Obligations.FramesOfTheEngines : Prop := FramesOf [9]

/-- An operation in a slot of one engine's bundle leaves every other engine as it was, and the SRAM. -/
def Obligations.SlotOperationsTouchOneEngine : Prop :=
  ∀ c s t e, slotEngine c = some e → exec c s = .next t → t.mem = s.mem ∧ ∀ e', e' ≠ e → t.eng e' = s.eng e'

/-- R34: an access to an address outside the windows is not performed: a write changes nothing, a read gives zeros, and the
address-fault event is raised with the requester's tag and the address recorded. -/
def Obligations.AddressOutsideWindowsFaults : Prop :=
  (∀ (s : State) m tag a v, s.silenced m = false → windowOf a = none →
    exec (.registerWrite m tag a v) s = .next (emit (raise { s with addrFaultRec := some (tag, a) } 225 tag (bitsOf a 39 24)) (.bus 0 []))) ∧
  (∀ (s : State) m tag a b ring, s.silenced m = false → windowOf a = none →
    (fabWrite s m tag a b ring).2 = raise { s with addrFaultRec := some (tag, a) } 225 tag (bitsOf a 39 24)) ∧
  (∀ (s : State) m tag a n ring port, s.silenced m = false → windowOf a = none →
    (fabRead s m tag a n ring port).2.1 = List.replicate n 0 ∧
    (fabRead s m tag a n ring port).2.2 = raise { s with addrFaultRec := some (tag, a) } 225 tag (bitsOf a 39 24)) ∧
  (∀ (s : State) tag a x, (raise { s with addrFaultRec := some x } 225 tag (bitsOf a 39 24)).addrFaultRec = some x ∧
    Fires (raise { s with addrFaultRec := some x } 225 tag (bitsOf a 39 24)) 225)

/-- A plain register write acts on each field by its access code, leaves every other register, and answers OK; a flag that hardware
set in the same tick stays. -/
def Obligations.RegisterWriteByField : Prop :=
  (∀ s m tag a v id ix, gate s m tag a true = (0, s) → regDecode a = some (id, ix) → blockMem a = false → regTag s tag id = true →
    plainReg id = true →
    Completes (.registerWrite m tag a v) s fun t =>
      t.out = s.out ++ [.bus 0 []] ∧
      (∀ f ∈ regFields id, f.2.2 = .rw → rf t id ix f.1 f.2.1 = bitsOf v f.1 f.2.1) ∧
      (∀ f ∈ regFields id, f.2.2 = .ro ∨ f.2.2 = .wo ∨ f.2.2 = .rws → rf t id ix f.1 f.2.1 = rf s id ix f.1 f.2.1) ∧
      (∀ f ∈ regFields id, f.2.2 = .rws → bitsOf (rdStaged t id ix) f.1 f.2.1 = bitsOf v f.1 f.2.1) ∧
      (∀ f ∈ regFields id, f.2.2 = .w1s → rf t id ix f.1 f.2.1 = Nat.lor (rf s id ix f.1 f.2.1) (bitsOf v f.1 f.2.1)) ∧
      (∀ f ∈ regFields id, f.2.2 = .w1c → f.1 = f.2.1 →
        rf t id ix f.1 f.2.1 = if bitOf v f.2.1 ∧ ¬ bitOf (s.freshMask id ix) f.2.1 then 0 else rf s id ix f.1 f.2.1) ∧
      (∀ id' ix', regAddr id' ix' ≠ regAddr id ix → rd t id' ix' = rd s id' ix')) ∧
  (∀ s m tag a v id ix, gate s m tag a true = (0, s) → regDecode a = some (id, ix) → blockMem a = false → regTag s tag id = false →
    plainReg id = true →
    Completes (.registerWrite m tag a v) s fun t =>
      t.out = s.out ++ [.bus 0 []] ∧ rd t id ix = rd s id ix ∧ t.regsStaged = s.regsStaged ∧ Fires t 224) ∧
  (∀ (s : State) m tag a v w, s.silenced m = false → windowOf a = some w → tag < 6 → reaches m a true w = true → (s.island w.island).off = true →
    Completes (.registerWrite m tag a v) s fun t => t.out = s.out ++ [.bus 1 []] ∧ t.regs = s.regs ∧ t.evt = s.evt) ∧
  (∀ (s : State) m tag a v, s.silenced m = false → windowOf a = none →
    Completes (.registerWrite m tag a v) s fun t => t.out = s.out ++ [.bus 0 []] ∧ Fires t 225 ∧ t.mem = s.mem ∧ t.objs = s.objs)

/-- A store into the SRAM changes the bytes it stores to and no other; a descriptor changes its destination and its own first word. -/
def Obligations.StoresLeaveOtherBytes : Prop :=
  (∀ s port tag addr b t, sramBase ≤ addr →
    exec (.sramAccess port tag addr 0 (some b) [] []) s = .next t → ∀ i < sramSize, i < addr - sramBase ∨ addr - sramBase + b.length ≤ i →
      sramBytes t i 1 = sramBytes s i 1) ∧
  (∀ s port tag addr n t, exec (.sramAccess port tag addr n none [] []) s = .next t → ∀ i < sramSize, sramBytes t i 1 = sramBytes s i 1) ∧
  (∀ s r b a d t, RingCopies s r b a d → d.full = true → d.last = true → rf s .dmaRingStat [r] 5 2 = 0 →
    exec (.dmaDescriptor r) s = .next t → ∀ i < sramSize,
      i < d.dst - sramBase ∨ d.dst - sramBase + d.len ≤ i → i < a - sramBase ∨ a - sramBase + 32 ≤ i → sramBytes t i 1 = sramBytes s i 1)

/-- Chapter 1: what the crossings, the islands and the control core pairs do when commanded. -/
def Obligations.ArrayCommandsComplete : Prop :=
  (∀ s src dst burst, src < 36 → dst < 36 → src ≠ dst → ¬ (s.island dst).off → ¬ (s.island src).off →
    Completes (.crossingPulse src dst burst) s fun t =>
      spGet Crossing.idle t.xing (dst * 64 + src) =
        ⟨min 15 burst, (spGet Crossing.idle s.xing (dst * 64 + src)).delivered + 1 + min 15 burst⟩ ∧
      (t.island dst).clock = true ∧
      spGet 0 t.lost dst = if 15 < burst then setBits (spGet 0 s.lost dst) src src 1 else spGet 0 s.lost dst) ∧
  (∀ s dst, dst < 36 → (s.island dst).power = true →
    Completes (.crossingWakeRequest dst) s fun t => t.island dst = { s.island dst with clock := true }) ∧
  (∀ s island inFlight, island < 36 →
    Completes (.islandResetCommand island inFlight) s fun t =>
      (∀ p ∈ t.xing, p.1 / 64 ≠ island ∧ p.1 % 64 ≠ island) ∧
      t.out = s.out ++ inFlight.map (fun n => .bus 2 (List.replicate n 0)) ∧ t.lost = s.lost ∧
      (island = 9 → t.lo = Lo.reset ∧ ∀ r ∈ t.regs, (windowOf r.1).map Window.island ≠ some island)) ∧
  (∀ s pair, pair < 2 →
    Completes (.lockstepFault pair) s fun t =>
      t.pairStopped pair = true ∧ Fires t 226 ∧
      (pair = s.ctl.active → t.ctl.fwRuns = false ∧ t.ctl.promoteDue = true)) ∧
  (∀ s, s.ctl.promoteDue = true → s.ho ≠ 3 → s.pairVerified (1 - s.ctl.active) = true → s.pairStopped (1 - s.ctl.active) = false →
    Completes .pairPromotion s fun t => t.ctl.active = 1 - s.ctl.active ∧ t.ctl.fwRuns = true ∧ t.ctl.promoteDue = false) ∧
  (∀ s role island bits, Manages role → island < 36 →
    Completes (.lostFlagClear role island bits) s fun t =>
      spGet 0 t.lost island = spGet 0 s.lost island - Nat.land (spGet 0 s.lost island) (bits % 2 ^ 64))

/-- Chapter 2: corrections of the counter, entry boundaries, guard ends, and what admission and its boundary leave. -/
def Obligations.TimelineCommandsComplete : Prop :=
  (∀ s q, s.ptpLocked = false → 200 < Int.natAbs q → s.anyCarrierActive = true →
    Completes (.ptpCorrectionRequest q) s fun t =>
      t.tl.pendStep = some (ticksOfQuarterNs q) ∧ t.clk = s.clk ∧ Fires t 4) ∧
  (∀ s q, s.ptpLocked = false → 200 < Int.natAbs q → s.anyCarrierActive = false →
    Completes (.ptpCorrectionRequest q) s fun t =>
      t.tl.pendStep = none ∧ t.clk.count = (((s.clk.count : Int) + ticksOfQuarterNs q) % (2 ^ 64 : Nat)).toNat) ∧
  (∀ s d b, s.tl.pendStep = some d → s.tl.stepArmed = some b → s.ptpLocked = false →
    eventDueBefore s (stepBoundary s b) = false →
    Completes .timelineStepApply s fun t =>
      t.tl.pendStep = none ∧ t.tl.stepArmed = none ∧
      t.clk.count = (((nextFrame s.frameOfs (max b s.now) : Int) + d) % (2 ^ 64 : Nat)).toNat) ∧
  (∀ s, Completes .tlNowLoRead s fun t =>
      t.out = s.out ++ [.bus 0 (beBytes 4 (s.now % 2 ^ 32))] ∧ rd t .tlNowHi [] = s.now / 2 ^ 32 % 2 ^ 32) ∧
  (∀ s, s.tlRuns = true →
    Completes .patternEntryBoundary s fun t => ∀ p < 64, t.pathState p = pathTarget t p) ∧
  (∀ s e, s.tlRuns = true → guardEnd s = some e →
    Completes .guardEnd s fun t => t.clk.count = max s.clk.count e ∧ ∀ p < 64, (t.pathFe p).bus = none)

/-- Admission: what its end records, what the boundary of an accepted commit leaves, and what a loss of capacity leads to. -/
def Obligations.AdmissionCommandsComplete : Prop :=
  (∀ s j, s.adm.running = some j →
    Completes .admissionResult s fun t =>
      t.adm.running = none ∧ t.adm.last = (admissionEnd s j).1 ∧
      t.adm.waiting = if t.adm.last.code = 0 then some { j with at_ := (admissionEnd s j).2.1 } else s.adm.waiting) ∧
  (∀ s j, s.adm.waiting = some j →
    Completes .commitBoundary s fun t =>
      t.adm.waiting = none ∧ t.adm.epoch = (s.adm.epoch + 1) % 2 ^ 64 ∧ t.clk.count = max s.clk.count j.at_ ∧ Fires t 0) ∧
  (∀ s, s.adm.again = true →
    Completes .capacityLossReadmission s fun t =>
      t.adm.again = false ∧
      ((admitResult { s with adm := { s.adm with again := false } } { s with adm := { s.adm with again := false } } []).code ≠ 0 →
        t.adm.dropDue = true ∧ Fires t 5)) ∧
  (∀ s, s.adm.dropDue = true → Completes .carrierDropRemoval s fun t => t.adm.dropDue = false ∧ isFrame s.frameOfs t.clk.count = true)

/-- Chapter 3: the synthesisers' states when enabled, disabled, calibrated, locked, timed out, unlocked, retuned. -/
def Obligations.SynthesiserCommandsComplete : Prop :=
  (∀ s n, n < 4 → (s.syn n).st = .off → s.pwr.depth ≤ 1 → s.lo.refLoss = false →
    Completes (.loSynEnable n) s fun t => rbit t .loSynCtrl [n] 0 = true ∧ (t.syn n).st = .calibrating) ∧
  (∀ s n, n < 4 → Completes (.loSynDisable n) s fun t =>
    rbit t .loSynCtrl [n] 0 = false ∧ (t.syn n).st = .off ∧ (t.syn n).fault = false) ∧
  (∀ s n, n < 4 → (s.syn n).st = .calibrating → Completes (.vcoCalibrationDone n) s fun t =>
    t.syn n = { s.syn n with st := .settling, since := s.clk.elapsed }) ∧
  (∀ s n, n < 4 → (s.syn n).st = .settling → spGet none s.lo.forced n = none → Completes (.synLockAchieved n) s fun t =>
    (t.syn n).st = .locked ∧ t.clk.elapsed = max s.clk.elapsed ((s.syn n).since + 984)) ∧
  (∀ s n, n < 4 → (s.syn n).st = .settling → (s.syn n).retried = false → Completes (.synSettleTimeout n) s fun t =>
    (t.syn n).st = .calibrating ∧ (t.syn n).retried = true ∧ t.clk.elapsed = max s.clk.elapsed ((s.syn n).since + 14746)) ∧
  (∀ s n, n < 4 → (s.syn n).st = .settling → (s.syn n).retried = true → Completes (.synSettleTimeout n) s fun t =>
    (t.syn n).st = .off ∧ (t.syn n).fault = true ∧ Fires t 8) ∧
  (∀ s n, n < 4 → (s.syn n).st = .locked → Completes (.synLockLoss n) s fun t =>
    (t.syn n).st = .settling ∧ rd t .loSynUnlocks [n] = min 0xFFFFFFFF (rd s .loSynUnlocks [n] + 1) ∧ Fires t 8) ∧
  (∀ s edges, refWindowLost edges = true → Completes (.refclkLoss edges) s fun t =>
    t.lo.refLoss = true ∧ ∀ n < 4, (t.syn n).st = if (s.syn n).st = .off then .off else .holdover) ∧
  (∀ s edges, 8 ≤ edges.length → (edges.drop (edges.length - 8)).all refWindowGood = true →
    Completes (.refclkRecovery edges) s fun t =>
      t.lo.refLoss = false ∧ ∀ n < 4, (t.syn n).st = if (s.syn n).st = .holdover then .settling else (s.syn n).st) ∧
  (∀ s role syn preset go, role = .operator → go = 1 → syn < 4 → preset < 16 → rf s .loSynPre [syn, preset] 47 0 ≠ 0 →
    (s.syn syn).st = .locked → s.lo.refLoss = false →
    Completes (.forcedRetune role syn preset go) s fun t => (t.syn syn).st = .calibrating ∧ (t.syn syn).preset = preset) ∧
  (∀ s role syn preset go, role = .operator → go = 1 → syn < 4 → preset < 16 → rf s .loSynPre [syn, preset] 47 0 ≠ 0 →
    (s.syn syn).st ≠ .locked →
    Completes (.forcedRetune role syn preset go) s fun t =>
      t.syn syn = s.syn syn ∧ spGet none t.lo.forced syn = some (preset, rf s .loSynPre [syn, preset] 47 0)) ∧
  (∀ s n e, EventFires s n 8 e → (s.island 9).off = false → e.target < 4 → (s.syn e.target).st = .off ∨ (s.syn e.target).st = .locked →
    s.lo.refLoss = false →
    Completes (.loTune n) s fun t => (t.syn e.target).st = .calibrating ∧ (t.syn e.target).preset = e.arg % 16)

/-- Chapter 3: the five steps of a hop, the resynchronisation of dividers, and the blanking of transmit symbols. -/
def Obligations.HopCommandsComplete : Prop :=
  (∀ s n e, EventFires s n 7 e → (s.island 9).off = false → s.fdd = false → e.target < 4 → e.target = synMate s.lo.txServe →
    (s.syn e.target).st = .locked → (s.syn e.target).preset = e.arg % 16 →
    Completes (.loHop n) s fun t =>
      t.lo.txServe = e.target ∧ t.lo.rxServe = e.target ∧ t.lo.hop = some ⟨t.clk.elapsed, e.target, 1⟩ ∧ t.lo.divFail = []) ∧
  (∀ s h, s.lo.hop = some h → Completes .hopResyncPulse s fun t =>
    t.lo.hop = some { h with step := 3 } ∧ t.clk.elapsed = max s.clk.elapsed (h.start + 737)) ∧
  (∀ s h failed, s.lo.hop = some h → Completes (.hopDividerCheck failed) s fun t =>
    t.lo.hop = some { h with step := 4 } ∧ t.clk.elapsed = max s.clk.elapsed (h.start + 1474) ∧
    ∀ p < 64, p ∈ t.lo.divFail ↔ p ∈ failed) ∧
  (∀ s h, s.lo.hop = some h → Completes .hopComplete s fun t =>
    t.lo.hop = none ∧ t.clk.elapsed = max s.clk.elapsed (h.start + 1967) ∧ t.rx.goodFrom = t.clk.elapsed ∧ t.lo.txFrom = t.clk.elapsed) ∧
  (∀ s, s.lo.divFail ≠ [] → Completes .dividerResync s fun t =>
    t.lo.divFail = [] ∧ (∀ p ∈ s.lo.divFail, (t.pathFe p).divAt = t.clk.elapsed) ∧ s.clk.elapsed ≤ t.clk.elapsed) ∧
  (∀ s p cc, p < 64 → cc < 8 → s.dlOn cc = true → s.pathState p = .tx → s.txLocked p = true → (s.pathFe p).blanked = false →
    Completes (.txSymbolStart p cc) s fun t =>
      (t.pathFe p).blanked = false ∧ ((s.pathFe p).turn = none → (s.pathFe p).phase = .tx → (t.pathFe p).fea = .high)) ∧
  (∀ s p cc, p < 64 → cc < 8 → s.dlOn cc = true → s.pathState p = .tx → s.txLocked p = false →
    Completes (.txSymbolStart p cc) s fun t =>
      (t.pathFe p).blanked = true ∧ t.stats = (statPath s p 0x10).stats ∧
      ((s.pathFe p).turn = none → (s.pathFe p).phase = .tx → (t.pathFe p).fea = .low))

/-- Chapter 3: the pins in a turnaround, the LNA control, the overload input, the straps and the end of the reset phase. -/
def Obligations.PinCommandsComplete : Prop :=
  (∀ s p τ, p < 64 → (s.pathFe p).turn = some τ → τ.step < 40 → Completes (.turnaroundStep p) s fun t =>
    (t.pathFe p).turn = some { τ with step := 40 } ∧ (t.pathFe p).feb = (if τ.upto = .tx then .high else .low) ∧
    t.clk.elapsed = max s.clk.elapsed (τ.start + 40)) ∧
  (∀ s p τ, p < 64 → (s.pathFe p).turn = some τ → 40 ≤ τ.step → τ.step < 60 → Completes (.turnaroundStep p) s fun t =>
    (t.pathFe p).turn = some { τ with step := 60 } ∧ t.clk.elapsed = max s.clk.elapsed (τ.start + 60) ∧
    (t.pathFe p).fea = (if τ.upto = .tx ∧ ((s.pathFe p).blanked = true ∨ s.txLocked p = false) then .low else .high)) ∧
  (∀ s p τ, p < 64 → (s.pathFe p).turn = some τ → 60 ≤ τ.step → τ.step < 80 → τ.upto ≠ .off → Completes (.turnaroundStep p) s fun t =>
    (t.pathFe p).turn = none ∧ (t.pathFe p).phase = τ.upto ∧ t.clk.elapsed = max s.clk.elapsed (τ.start + 80)) ∧
  (∀ s p, p < 64 → s.fdd = false → (s.pathFe p).turn = none → (s.pathFe p).phase = .rx → (s.pathFe p).lnaByp = false →
    Completes (.lnaBypass p) s fun t =>
      (t.pathFe p).lnaByp = true ∧ (t.pathFe p).fea = .low ∧ (t.pathFe p).feb = .low ∧ (t.pathFe p).lnaAt = some t.clk.elapsed ∧
      (t.pathFe p).febLag = some (t.clk.elapsed + 20, .z)) ∧
  (∀ s p, p < 64 → s.fdd = false → (s.pathFe p).turn = none → (s.pathFe p).phase = .rx → (s.pathFe p).lnaByp = true →
    Completes (.lnaReturn p) s fun t =>
      (t.pathFe p).lnaByp = false ∧ (t.pathFe p).fea = .high ∧ (t.pathFe p).feb = .z ∧ (t.pathFe p).lnaAt = some t.clk.elapsed ∧
      (t.pathFe p).ovlFrom = t.clk.elapsed + 60 ∧ (t.pathFe p).febLag = some (t.clk.elapsed + 20, .low)) ∧
  (∀ s p, p < 64 → (s.pathFe p).phase = .rx → (s.pathFe p).turn = none → (s.pathFe p).lnaByp = false →
    (s.pathFe p).ovlFrom ≤ s.clk.elapsed → (s.pathFe p).ovl = false → s.fdd = false →
    Completes (.overloadAssert p) s fun t => rbit t .feStat [p / 8, p % 8] 4 = true ∧ Fires t 11) ∧
  (∀ s p, p < 64 → Completes (.overloadDeassert p) s fun t => t.pathFe p = { s.pathFe p with ovl := false }) ∧
  (∀ s fea feb, fea.length = 8 → feb.length = 8 → (s.pathFe 0).phase = .reset → (s.pathFe 0).turn = none →
    Completes (.strapSample fea feb) s fun t =>
      t.straps = ⟨strapField feb 0 2 0, strapField feb 2 8 255, strapField feb 10 2 0 + 1⟩ ∧
      ((∃ p < 64, strapBit fea p = none ∨ strapBit feb p = none) → Fires t 13)) ∧
  (∀ s, Completes .resetPhaseEnd s fun t => ∀ p < 64, (s.pathFe p).phase = .reset → (s.pathFe p).turn = none →
    (t.pathFe p).turn = some ⟨.off, t.clk.elapsed, 0⟩ ∧ (t.pathFe p).fea = .low)

/-- Chapter 3: the guard serial bus: lists queued, a transaction that starts, and one that ends with its code. -/
def Obligations.SerialCommandsComplete : Prop :=
  (∀ s n e, EventFires s n 9 e → e.target < 64 → (s.island (e.target / 8)).off = false → rbit s .feCtrl [e.target / 8] 0 = true →
    (s.pathFe e.target).lists.length < 4 →
    Completes (.feSerial n) s fun t => (t.pathFe e.target).lists = (s.pathFe e.target).lists ++ [e.arg % 1024]) ∧
  (∀ s p x, p < 64 → (s.pathFe p).phase = .guard → (s.pathFe p).turn = none → (s.pathFe p).bus = none →
    nextTxn s p = some x →
    Completes (.serialTransaction p false) s fun t => (t.pathFe p).bus = some x) ∧
  (∀ s p x, p < 64 → (s.pathFe p).phase = .guard → (s.pathFe p).turn = none → (s.pathFe p).bus = none →
    nextTxn s p = some x →
    Completes (.serialTransaction p true) s fun t => (t.pathFe p).bus = none ∧ (t.pathFe p).lastErr = 5) ∧
  (∀ s p feb rdata x, p < 64 → (s.pathFe p).bus = some x → (serialRun x.bits feb).1 ≠ 0 →
    Completes (.serialTransactionDone p feb rdata) s fun t =>
      (t.pathFe p).bus = none ∧ (t.pathFe p).lastErr = (serialRun x.bits feb).1 ∧ (t.pathFe p).fea = .high ∧ (t.pathFe p).feb = .z ∧
      t.clk.elapsed = max s.clk.elapsed (x.start + ((serialRun x.bits feb).2 + 2) * 40)) ∧
  (∀ s p feb rdata x, p < 64 → (s.pathFe p).bus = some x → (serialRun x.bits feb).1 = 0 → x.rd = false →
    Completes (.serialTransactionDone p feb rdata) s fun t => (t.pathFe p).bus = none ∧ (t.pathFe p).lastErr = 0) ∧
  (∀ s p feb rdata x, p < 64 → (s.pathFe p).bus = some x → (serialRun x.bits feb).1 = 0 → x.rd = true →
    Completes (.serialTransactionDone p feb rdata) s fun t =>
      (t.pathFe p).bus = none ∧ rd t .feRdata [p / 8, p % 8] = leNum (sliceBytes rdata 0 x.len) % 2 ^ 64)

/-- Chapter 4: the Barchan rotation of an ADC and the cell check of a DAC. -/
def Obligations.ConverterCommandsComplete : Prop :=
  (∀ s k est sp t0, rotates s k = true → (s.conv k).runs = some t0 → (s.conv k).swapDue = false → (s.conv k).spare = some sp →
    activeFaulty est = false → spareFails est = false →
    Completes (.rotationStepEnd k est) s fun t =>
      (t.conv k).swapDue = true ∧ (t.conv k).missed = false ∧
      spGet SliceCorr.zero (t.conv k).corr sp = ⟨est.offset, est.gain, est.delay, est.bw⟩ ∧
      t.clk.elapsed = max s.clk.elapsed (t0 + (s.conv k).left) ∧ (t.conv k).left = stepTicks k) ∧
  (∀ s k est sp t0, rotates s k = true → (s.conv k).runs = some t0 → (s.conv k).swapDue = false → (s.conv k).spare = some sp →
    estFails est = true → (s.conv k).missed = false →
    Completes (.rotationStepEnd k est) s fun t =>
      (t.conv k).missed = true ∧ (t.conv k).shadow = (s.conv k).shadow ∧ (t.conv k).runs = some (t0 + (s.conv k).left) ∧
      (t.conv k).left = stepTicks k ∧ Fires t 32) ∧
  (∀ s k est sp t0, rotates s k = true → (s.conv k).runs = some t0 → (s.conv k).swapDue = false → (s.conv k).spare = some sp →
    estFails est = true → (s.conv k).missed = true →
    Completes (.rotationStepEnd k est) s fun t => (t.conv k).spare = none ∧ sp ∈ (t.conv k).retired ∧ Fires t 32 ∧ Fires t 33) ∧
  (∀ s k est t0, k < 138 → (s.conv k).failed = false → (s.conv k).runs = some t0 → (s.conv k).spare = none →
    Completes (.rotationStepEnd k est) s fun t =>
      (t.conv k).corr = blindTrack (s.conv k) est.blind ∧ (t.conv k).left = blindTicks k ∧
      t.clk.elapsed = max s.clk.elapsed (t0 + (s.conv k).left)) ∧
  (∀ s k sp, (s.conv k).swapDue = true → (s.conv k).spare = some sp → (s.conv k).stuck ≠ none →
    Completes (.sliceSwap k) s fun t => (t.conv k).swapDue = false ∧ (t.conv k).pos = (s.conv k).pos ∧ (t.conv k).spare = some sp) ∧
  (∀ s k sp, (s.conv k).swapDue = true → (s.conv k).spare = some sp → (s.conv k).stuck = none →
    Completes (.sliceSwap k) s fun t =>
      (t.conv k).pos = (s.conv k).pos.set (s.conv k).shadow sp ∧
      (t.conv k).spare = some ((s.conv k).pos.getD (s.conv k).shadow 0) ∧
      (t.conv k).shadow = ((s.conv k).shadow + 1) % (s.conv k).pos.length ∧ (t.conv k).swapDue = false ∧
      (t.conv k).corr = recentre ((s.conv k).pos.set (s.conv k).shadow sp) (s.conv k).corr) ∧
  (∀ s k slice, k < 138 → converting s k = true → (s.conv k).spare = some slice →
    Completes (.stuckSliceDetect k slice) s fun t => (t.conv k).spare = none ∧ slice ∈ (t.conv k).retired ∧ Fires t 35) ∧
  (∀ s k slice sp, k < 138 → converting s k = true → (s.conv k).spare = some sp → sp ≠ slice → slice ∈ (s.conv k).pos →
    Completes (.stuckSliceDetect k slice) s fun t => (t.conv k).stuck = some slice ∧ (t.conv k).stuckFrom = s.clk.elapsed - 1639) ∧
  (∀ s k slice sp, k < 138 → (s.conv k).failed = false → (s.conv k).spare = some sp → slice ∈ (s.conv k).pos →
    Completes (.emergencySwap k slice) s fun t =>
      (t.conv k).pos = (s.conv k).pos.set ((s.conv k).pos.findIdx (· = slice)) sp ∧ (t.conv k).spare = none ∧
      (t.conv k).corr = recentre ((s.conv k).pos.set ((s.conv k).pos.findIdx (· = slice)) sp) (s.conv k).corr ∧
      slice ∈ (t.conv k).retired ∧ Fires t 33 ∧ Fires t 34 ∧ Fires t 35) ∧
  (∀ s k slice, k < 128 → (s.conv k).failed = false → (s.conv k).spare = none → slice ∈ (s.conv k).pos →
    Completes (.emergencySwap k slice) s fun t =>
      (t.conv k).failed = true ∧ (t.pathFe (k / 2)).failed = true ∧ Fires t 39) ∧
  (∀ s d, d < 128 → (s.dac d).check.isSome = true → (s.dac d).dwelling = false → s.pathState (d / 2) ≠ .off →
    Completes (.dacDwellStart d) s fun t => t.dac d = { s.dac d with dwelling := true, dwellAt := s.clk.elapsed }) ∧
  (∀ s d trim dev, d < 128 → (s.dac d).dwelling = true → (s.dac d).trimming = false → s.pathState (d / 2) ≠ .off →
    dev.natAbs ≤ 300 →
    Completes (.dacDwellEnd d trim dev true) s fun t =>
      (t.dac d).dwelling = false ∧ (t.dac d).at_ = ((s.dac d).at_ + 1) % 63 ∧ (t.dac d).check = (s.dac d).check ∧
      t.clk.elapsed = max s.clk.elapsed ((s.dac d).dwellAt + 4 * msTicks)) ∧
  (∀ s d trim dev follows, d < 128 → (s.dac d).dwelling = true → (s.dac d).trimming = false →
    s.pathState (d / 2) ≠ .off → (300 < dev.natAbs ∨ follows = false) →
    Completes (.dacDwellEnd d trim dev follows) s fun t =>
      (t.dac d).dwelling = false ∧ (t.dac d).check = (s.dac d).other ∧ (t.dac d).other = none ∧
      spGet (s.dac d).at_ (t.dac d).map (s.dac d).at_ = (s.dac d).check.getD 0 ∧ Fires t 37)

/-- Chapter 4: visits of the observation receivers and captures. -/
def Obligations.CaptureCommandsComplete : Prop :=
  (∀ s n e, EventFires s n 10 e → s.fdd = true → e.target < 4 → (e.arg % 64) / 16 = e.target → (s.island (2 * e.target)).off = false →
    (s.orx e.target).failed = false → (s.orx e.target).running = none →
    Completes (.orxVisit n) s fun t =>
      ∃ v, (t.orx e.target).running = some v ∧ v.path = e.arg % 64 ∧ v.n = bitsOf e.arg 23 8 ∧ v.bestEffort = false ∧
        v.start = t.clk.elapsed) ∧
  (∀ s r v, r < 4 → (s.orx r).running = some v → (s.orx r).waiting = none →
    Completes (.orxVisitEnd r) s fun t =>
      (t.orx r).running = none ∧ t.clk.elapsed = max s.clk.elapsed (v.start + 491 + ceilDiv v.n 10)) ∧
  (∀ s r v w, r < 4 → (s.orx r).running = some v → (s.orx r).waiting = some w →
    Completes (.orxVisitEnd r) s fun t =>
      ∃ x, (t.orx r).running = some x ∧ x.path = w.path ∧ x.n = w.n ∧ (t.orx r).waiting = none ∧ x.start = t.clk.elapsed) ∧
  (∀ s r path n, r < 4 → s.fdd = true → path / 16 = r → rbit s .orxCtrl [2 * r] 0 = true → (s.orx r).running = none →
    (s.orx r).waiting = none → (s.orx r).failed = false → path < 64 → earlierWork s 2 = false → n % 16 = 0 → 16 ≤ n → n ≤ 8192 →
    captureBytes 0 true n ≤ 64 * rf s .capDesc [path / 8, 2 * path + spGet 0 s.cvt.pairNext path] 57 40 →
    Completes (.bestEffortVisit r path n) s fun t =>
      ∃ v, (t.orx r).running = some v ∧ v.path = path ∧ v.n = n ∧ v.bestEffort = true) ∧
  (∀ s r, r < 4 → (s.orx r).failed = false →
    Completes (.orxFailure r) s fun t =>
      (t.orx r).failed = true ∧ (t.orx r).running = none ∧ (t.orx r).waiting = none ∧ Fires t 39 ∧ t.adm.again = true) ∧
  (∀ s n e, EventFires s n 4 e → e.target < 64 → (s.island (e.target / 8)).off = false →
    (s.buf (bitsOf e.arg 23 16)).st = .free → spGet none s.cvt.staging e.target = none →
    (∀ r < 4, (s.orx r).running.all (fun v => v.opened || decide (v.buffer ≠ bitsOf e.arg 23 16)) = true) →
    Completes (.captureOpen n) s fun t =>
      (t.buf (bitsOf e.arg 23 16)).st = .filling ∧ (t.buf (bitsOf e.arg 23 16)).path = e.target ∧
      (t.buf (bitsOf e.arg 23 16)).n = e.arg % 2 ^ 16 ∧ (t.buf (bitsOf e.arg 23 16)).first = t.now ∧
      rf t .capStat [e.target / 8, bitsOf e.arg 23 16] 95 94 = 1) ∧
  (∀ s n e, EventFires s n 4 e → e.target < 64 → (s.island (e.target / 8)).off = false → (s.buf (bitsOf e.arg 23 16)).st ≠ .free →
    Completes (.captureOpen n) s fun t => t.buf (bitsOf e.arg 23 16) = s.buf (bitsOf e.arg 23 16) ∧ Fires t 40) ∧
  (∀ s b xs zs ovr, b < 256 → ((openVisits s).buf b).st = .filling → olderCapture (openVisits s) b = false →
    Completes (.captureDrainComplete b xs zs ovr) s fun t =>
      t.clk.elapsed = max s.clk.elapsed (captureEnd ((openVisits s).buf b)) ∧
      ((∀ j ∈ s.disp.jobs, j.path ≠ b / 2) → (t.buf b).st = .full ∧
        rd t .capStat [((openVisits s).buf b).path / 8, b] =
          capRecord ((openVisits s).buf b) (captureMirage t ((openVisits s).buf b)) ovr)) ∧
  (∀ s tag c value, c < 8 → bitOf value 8 = true → (tag = 4 ∨ tag = rf s .capDesc [c, value % 256] 60 58) →
    (s.buf (value % 256)).st = .full →
    Completes (.captureRelease tag c value) s fun t => (s.disp.jobs = [] → (t.buf (value % 256)).st = .free) ∧
      ((t.buf (value % 256)).st = .filling → (t.buf (value % 256)).opened = s.clk.elapsed)) ∧
  (∀ s tag c value, c < 8 → bitOf value 8 = true → tag ≠ 4 → tag ≠ rf s .capDesc [c, value % 256] 60 58 →
    Completes (.captureRelease tag c value) s fun t => Fires t 224 ∧ ∀ b < 256, t.buf b = s.buf b)

/-- Chapter 5: every request of a SYNC waits for the grid step at or after its tick; what a SYNC does and where its fill ends. -/
def Obligations.SyncCommandsComplete : Prop :=
  (∀ s n e, EventFires s n 6 e → (s.island 0).off = false → Completes (.sync n) s fun t => SyncPends t t.now) ∧
  (∀ s tick, rbit s .tlSync [] 0 = true → s.now ≤ tick + 1 → tick ≤ s.now + 1 →
    Completes (.syncPinEdge tick) s fun t => SyncPends t tick) ∧
  (∀ s tag, s.tagDeviceOrD2 tag = true → s.regOff .tlSync [] = false →
    Completes (.syncNow tag) s fun t => rbit t .tlSync [] 1 = true ∧ SyncPends t s.now) ∧
  (∀ s tag, s.tagDeviceOrD2 tag = false → s.regOff .tlSync [] = false →
    Completes (.syncNow tag) s fun t => t.rx.sync = s.rx.sync ∧ Fires t 224) ∧
  (∀ s tag, s.regOff .tlSync [] = true → Completes (.syncNow tag) s fun t => t.rx = s.rx ∧ t.evt = s.evt ∧ t.out = s.out ++ [.bus 1 []]) ∧
  (∀ s role tick, Manages role → Completes (.syncRequestObject role tick) s fun t => SyncPends t (max tick s.now)) ∧
  (∀ s ts rest, s.rx.sync.pending = ts :: rest → ts < 2 ^ 64 →
    Completes .syncTakeEffect s fun t =>
      t.rx.sync.pending = rest ∧ t.rx.sync.filling = List.range 8 ∧ rd t .tlSyncLast [] = ts ∧ rbit t .tlSync [] 1 = decide (rest ≠ []) ∧
      t.clk.count = max s.clk.count ts ∧ Fires t 43) ∧
  (∀ s cc, cc ∈ s.rx.sync.filling →
    Completes (.syncFillEnd cc) s fun t => cc ∉ t.rx.sync.filling ∧ s.rx.sync.at_ + 16384 ≤ t.clk.elapsed)

/-- Chapter 5: gain control and limiter, FFT windows, PRACH, lane moves, rolls and coefficient writes. -/
def Obligations.ReceiveCommandsComplete : Prop :=
  (∀ s p xi xq ovr ovrNew, p < 64 → s.receives p = false → 64 ≤ (iqSamples xi xq).length →
    (s.rxg p).changed = 0 ∨ (s.rxg p).changed + 13 ≤ s.clk.elapsed →
    Completes (.fastPathEstimate p xi xq ovr ovrNew) s fun t =>
      (t.rxg p).est = coarsePower (lastN 64 (iqSamples xi xq)) ∧ (t.rxg p).ovr = min 255 ovr ∧ (t.rxg p).att = (s.rxg p).att ∧
      rd t .adcOvr [p / 8, p % 8] = min 0xFFFFFFFF (rd s .adcOvr [p / 8, p % 8] + ovrNew)) ∧
  (∀ s p xi xq ovr ovrNew, p < 64 → s.receives p = true → bitsOf (s.rxgCtrl p) 6 5 ≠ 0 → bitOf (s.rxgCtrl p) 7 = false →
    (s.rxg p).noAttack ≤ s.clk.elapsed → 2 ≤ ovr → 64 ≤ (iqSamples xi xq).length →
    (s.rxg p).changed = 0 ∨ (s.rxg p).changed + 13 ≤ s.clk.elapsed →
    Completes (.fastPathEstimate p xi xq ovr ovrNew) s fun t =>
      (t.rxg p).att = min 30 ((s.rxg p).att + bitsOf (s.rxgCtrl p) 19 16) ∧ Fires t 48) ∧
  (∀ s p, p < 64 → s.receives p = true → bitsOf (s.rxgCtrl p) 6 5 = 2 → (s.rxg p).below = true → (s.rxg p).noRelease ≤ s.clk.elapsed →
    bitsOf (s.rxgCtrl p) 4 0 < (s.rxg p).att →
    Completes (.agcRelease p) s fun t => (t.rxg p).att = (s.rxg p).att - 1 ∧ (t.rxg p).below = true) ∧
  (∀ s p, p < 64 → s.receives p = true → (s.rxg p).below = false → Completes (.agcRelease p) s fun t =>
    (t.rxg p).att = (s.rxg p).att ∧ (t.rxg p).below = true) ∧
  (∀ s p, p < 64 → s.receives p = false → Completes (.agcRelease p) s fun t => t.rxg p = s.rxg p) ∧
  (∀ s p, p < 64 → s.receives p = false → Completes (.limiterLnaReturn p) s fun t => t.rxg p = s.rxg p ∧ t.fe = s.fe) ∧
  (∀ s p, p < 64 → s.receives p = true → s.fdd = false → (s.pathFe p).phase = .rx → (s.pathFe p).turn = none →
    (s.pathFe p).lnaByp = true → (s.rxg p).quiet = true → bitsOf (s.rxgCtrl p) 47 44 ≤ (s.rxg p).quietSyms + 1 →
    Completes (.limiterLnaReturn p) s fun t => (t.pathFe p).lnaByp = false ∧ (t.rxg p).quietSyms = 0) ∧
  (∀ s p, p < 64 → s.receives p = true → (s.rxg p).quiet = false → 0 < bitsOf (s.rxgCtrl p) 47 44 →
    Completes (.limiterLnaReturn p) s fun t => (t.rxg p).quiet = true ∧ (t.rxg p).quietSyms = 0) ∧
  (∀ s p cc xi xq sat, p < 64 → s.ulOn cc = true → s.laneWorks p = true →
    (fftEnd s p cc).rxAt p ((fftEnd s p cc).now - s.windowShift p cc - 1) = true →
    Completes (.rxFftWindowEnd p cc xi xq sat) s fun t =>
      (∃ y ∈ spGet [] t.rx.re (p * 8 + cc), y.tick = t.now - s.windowShift p cc ∧ y.at_ = t.clk.elapsed ∧ y.res =
        (rxRes (fftEnd s p cc) p cc (t.now - s.windowShift p cc + s.ccWinOfs cc * 2 ^ s.ccHalfbands cc - 32768 / 2 ^ s.ccMu cc)
          (fftSamples s p cc xi xq)).1) ∧ t.clk = (fftEnd s p cc).clk ∧
      spGet 0 t.rx.fine (p * 8 + cc) = finePower (fftSamples s p cc xi xq)) ∧
  (∀ s p j occ x sat, p < 64 → j < 4 → bitOf (s.prachWord p j) 0 = true → occ ≤ bitsOf (s.prachWord p j) 15 12 →
    s.ulOn (bitsOf (s.prachWord p j) 3 1) = true → s.tlRuns = true → s.receives p = true →
    Completes (.prachOccasion p j occ x sat) s fun t =>
      (spGet ReSym.none_ t.rx.prach (p * 4 + j)).res =
        (prachReps (prachEnd s p j occ) p j (prachChannel (prachEnd s p j occ) p j x).1).1 ∧
      (spGet ReSym.none_ t.rx.prach (p * 4 + j)).tick = (prachStart s p j occ).now ∧ t.clk = (prachEnd s p j occ).clk) ∧
  (∀ s tag c value, c < 8 → s.tagDeviceOrD2 tag = true → bitOf value 4 = true → (s.lanes c).move = 0 → (s.lanes c).spare ≠ none →
    s.regOff .laneMoveReq [c] = false → s.rx.rolling = false → bitOf value 3 = true ∨ s.ctl.fwRuns = true →
    Completes (.laneMoveRequest tag c value) s fun t =>
      t.lanes c = { s.lanes c with move := 1, pos := value % 8, fault := bitOf value 3, result := 0 }) ∧
  (∀ s tag c value, c < 8 → s.tagDeviceOrD2 tag = true → bitOf value 4 = true → (s.lanes c).move = 0 → (s.lanes c).spare = none →
    s.regOff .laneMoveReq [c] = false → s.rx.rolling = false → bitOf value 3 = true ∨ s.ctl.fwRuns = true →
    Completes (.laneMoveRequest tag c value) s fun t => (t.lanes c).move = 0 ∧ (t.lanes c).result = 3 ∧ Fires t 45) ∧
  (∀ s tag c value, c < 8 → s.tagDeviceOrD2 tag = true → bitOf value 4 = true → (s.lanes c).move ≠ 0 ∨ s.rx.rolling = true →
    s.regOff .laneMoveReq [c] = false → bitOf value 3 = true ∨ s.ctl.fwRuns = true →
    Completes (.laneMoveRequest tag c value) s fun t => t.lanes c = { s.lanes c with result := 4 }) ∧
  (∀ s c, c < 8 → (s.lanes c).move = 1 → Completes (.laneWarmStart c) s fun t =>
    t.lanes c = { s.lanes c with move := 2, warmAt := t.clk.elapsed }) ∧
  (∀ s c sp, c < 8 → (s.lanes c).move = 2 → (s.lanes c).spare = some sp → (s.lanes c).fault = false → (s.lanes c).waiting = [] →
    (c, (s.lanes c).pos) ∉ s.svc.faulty →
    Completes (.laneSwitch c false) s fun t =>
      (t.lanes c).map = (s.lanes c).map.set (s.lanes c).pos sp ∧
      (t.lanes c).spare = some ((s.lanes c).map.getD (s.lanes c).pos 0) ∧ (t.lanes c).move = 0 ∧ (t.lanes c).result = 1 ∧
      (s.lanes c).warmAt + 49152 ≤ t.clk.elapsed ∧ Fires t 44) ∧
  (∀ s c sp, c < 8 → (s.lanes c).move = 2 → (s.lanes c).spare = some sp → (s.lanes c).fault = false → (s.lanes c).waiting = [] →
    lanesAgree s c ((s.lanes c).map.getD (s.lanes c).pos 0) sp = true →
    Completes (.laneSwitch c true) s fun t =>
      (t.lanes c).map = (s.lanes c).map ∧ (t.lanes c).spare = none ∧ sp ∈ (t.lanes c).retired ∧ (t.lanes c).move = 0 ∧
      (t.lanes c).result = 2 ∧ Fires t 45) ∧
  (∀ s c sp, c < 8 → (s.lanes c).move = 2 → (s.lanes c).spare = some sp → (s.lanes c).waiting = [] →
    (c, (s.lanes c).pos) ∈ s.svc.faulty →
    Completes (.laneSwitch c false) s fun t =>
      (t.lanes c).map = (s.lanes c).map.set (s.lanes c).pos sp ∧ (t.lanes c).spare = none ∧
      (s.lanes c).map.getD (s.lanes c).pos 0 ∈ (t.lanes c).retired ∧ (c, (s.lanes c).pos) ∉ t.svc.faulty ∧ Fires t 44) ∧
  (∀ s, s.rx.rollPre ≠ [] → (∀ c < 8, (s.lanes c).move = 0) → Completes .coefficientRoll s fun t =>
    t.rx.rollPre = [] ∧ t.rx.rollPost = s.rx.rollPost ∧ t.rx.rolling = decide (s.rx.rollPost ≠ [] ∨ s.rx.rollOf ≠ []) ∧ Fires t 46) ∧
  (∀ s, s.rx.rollPre = [] → s.rx.rollPost ≠ [] → (∀ c < 8, (s.lanes c).move = 0) → Completes .coefficientRoll s fun t =>
    t.rx.rollPre = [] ∧ t.rx.rollPost = [] ∧ t.rx.rolling = decide (s.rx.rollOf ≠ []) ∧ Fires t 46) ∧
  (∀ s, s.rx.rollPre = [] → s.rx.rollPost = [] → s.rx.rollOf ≠ [] → (∀ c < 8, (s.lanes c).move = 0) → Completes .coefficientRoll s fun t =>
    t.rx.rollOf = [] ∧ t.rx.rolling = false ∧ Fires t 46) ∧
  (∀ s tag c k n i value addr, s.tagDeviceOrD2 tag = true → regDecode addr = some (.coef, [c, k, n, i]) → i < 176 →
    (s.lanes c).spare = some k → (s.lanes c).move ≠ 2 → (s.island c).off = false →
    Completes (.coefficientWrite tag addr value) s fun t =>
      (spGet [] t.rx.coef ((c * 9 + k) * 8 + n)).getD i 0 = value % 2 ^ 18 ∧ t.rx.txcoef = s.rx.txcoef) ∧
  (∀ s tag c k n i value addr, s.tagDeviceOrD2 tag = true → regDecode addr = some (.coef, [c, k, n, i]) → (s.lanes c).spare ≠ some k →
    (s.island c).off = false →
    Completes (.coefficientWrite tag addr value) s fun t =>
      t.rx = s.rx ∧ rbit t .rxStat [c, k] 6 = true ∧ Fires t 47)

/-- Chapter 6: a symbol read by a transmit channel under the configuration it starts under, and what a slot's end counts and reports. -/
def Obligations.TransmitCommandsComplete : Prop :=
  (∀ s p cc late, p < 64 → (txConfig s p cc).dlOn cc = true → (txConfig s p cc).ccActive cc = true → s.laneWorks p = true →
    Completes (.txSymbolRead p cc late) s fun t =>
      t.clk = (txRead s p cc).clk ∧ (∀ x ∈ spGet [] t.tx.buf (p * 8 + cc), txAir s p cc < x.tick) ∧
      ∃ y ∈ spGet [] t.tx.sym (p * 8 + cc), y.tick = txAir s p cc ∧ y.at_ = t.clk.elapsed + s.txLat p cc ∧
        y.res.length = 12 * (txConfig s p cc).ccN cc ∧ y.pdec = toSigned 16 ((txConfig s p cc).onum (0x2100 + cc) 1) ∧
        y.ref = toSigned 16 ((txConfig s p cc).onum (0x2100 + cc) 2) ∧
        y.scale = limiterScale (energySum y.res) (12 * (txConfig s p cc).ccN cc) y.ref ∧
        y.wave = (txSymbol (txConfig s p cc) p cc y.tick y.scale y.res).1 ∧ y.post = (txSymbol (txConfig s p cc) p cc y.tick y.scale y.res).2.1 ∧
        (∀ k < 12 * (txConfig s p cc).ccN cc, y.res.getD k ⟨0, 0⟩ = if k ∈ late then ⟨0, 0⟩ else
          (((spGet [] s.tx.buf (p * 8 + cc)).find? (fun x => x.tick = txAir s p cc)).getD ReSym.none_).res.getD k ⟨0, 0⟩)) ∧
  (∀ s p cc late, p < 64 → (txConfig s p cc).dlOn cc = true → (txConfig s p cc).ccActive cc = true → s.laneWorks p = true →
    0 < (txConfig s p cc).ccN cc → 0 ∈ late ∨ (spGet [] s.tx.buf (p * 8 + cc)).find? (fun x => x.tick = txAir s p cc) = none → Completes (.txSymbolRead p cc late) s fun t =>
      (∃ y ∈ spGet [] t.tx.sym (p * 8 + cc), y.tick = txAir s p cc ∧ y.res.getD 0 ⟨0, 0⟩ = ⟨0, 0⟩) ∧ Fires t 51) ∧
  (∀ s p chans hist ahead past nbs cal, p < 64 →
    Completes (.slotBoundary p chans hist ahead past nbs cal) s fun t => SlotLeaves s t p cal)

/-- Chapter 7: weight hand-over, runs and blocks of the beam matrix. -/
def Obligations.BeamCommandsComplete : Prop :=
  (∀ s n e, EventFires s n 2 e → (s.island 8).off = false →
    Completes (.weightHandover n) s fun t =>
      t.wset (e.target % 8) (bitsOf e.target 3 3) =
        { s.wset (e.target % 8) (bitsOf e.target 3 3) with
          cur := 1 - (s.wset (e.target % 8) (bitsOf e.target 3 3)).cur,
          count := (s.wset (e.target % 8) (bitsOf e.target 3 3)).count + 1, at_ := t.clk.elapsed }) ∧
  (∀ s n e a b, EventFires s n 3 e → (s.island 8).off = false → nextOffset s.pattern s.frameOfs e.offset s.now = s.now →
    spGet 0 s.clk.seen (3 * 16 * 65536 + n) ≠ s.clk.elapsed + 1 →
    nextEntryOf s (if bitsOf e.target 3 3 = 1 ∧ s.fdd = false then 1 else 0) = some (a, b) →
    Completes (.tileStart n) s fun t =>
      ⟨e.target % 8, bitsOf e.target 3 3, bitsOf e.arg 11 0, bitsOf e.arg 23 12, a, b⟩ ∈ t.bm.arms) ∧
  (∀ s cc arm, s.dlOn cc = true → s.bfOn cc 0 = true → (s.island 8).off = false →
    nextSymbol s.frameOfs (s.ccMu cc) (s.ccEcp cc) (s.now + s.bfLead cc) = s.now + s.bfLead cc →
    spGet 0 s.clk.seen (81 * 65536 + cc) ≠ s.clk.elapsed + 1 → s.armFor cc 0 (s.now + s.bfLead cc) = some arm →
    Completes (.dlRunStart cc) s fun t =>
      ∀ p < 64, (spGet [] t.tx.buf (p * 8 + cc)).length ≤ 2 ∧
        ∃ y ∈ spGet [] t.tx.buf (p * 8 + cc), y.tick = s.now + s.bfLead cc ∧ y.res.length = 12 * s.ccN cc) ∧
  (∀ s cc y start arm, s.ulOn cc = true → s.bfOn cc 1 = true → (s.island 8).off = false → oldestRe s cc = some y →
    start = symStartOf s.frameOfs (s.ccMu cc) (s.ccEcp cc) (y.tick + s.ccWinOfs cc * 2 ^ s.ccHalfbands cc) →
    s.armFor cc 1 start = some arm →
    Completes (.ulRunStart cc) s fun t =>
      (spGet UlSym.none_ t.lnk.ul cc).tick = start ∧
      (spGet UlSym.none_ t.lnk.ul cc).streams.length = (if s.bfExport cc = true then 64 else s.bfLayers cc 1) ∧
      t.clk.elapsed = max s.clk.elapsed (y.at_ + 8192) ∧ ∀ p < 64, ∀ x ∈ spGet [] t.rx.re (p * 8 + cc), x.tick ≠ y.tick) ∧
  (∀ s b cc layer, cc = bitsOf (beAt b 0 1) 7 5 → bitsOf (beAt b 0 1) 4 4 = 0 → layer = bitsOf (beAt b 0 1) 3 0 →
    bitsOf (beAt b 1 1) 7 7 = 0 → 1 ≤ beAt b 4 1 → beAt b 4 1 ≤ 32 → b.length = 8 + 256 * beAt b 4 1 → layer < s.bfLayers cc 0 →
    beAt b 2 2 + beAt b 4 1 ≤ s.bfNg cc → s.dlOn cc = true →
    Completes (.weightBlock .operator b) s fun t =>
      t.bm.landing.length = s.bm.landing.length + beAt b 4 1 ∧ t.bm.blocks = s.bm.blocks + 1) ∧
  (∀ s n b, s.ccOwner (bitsOf (beAt b 0 1) 7 5) ≠ n →
    Completes (.weightBlock (.tenant n) b) s fun t => t.bm.landing = s.bm.landing ∧ Fires t 68 ∧ Fires t 224) ∧
  (∀ s v rest same, s.bm.landing = v :: rest → v.target = 1 →
    Completes (.weightVectorLand same) s fun t =>
      t.bm.landing = rest ∧ spGet 0 t.bm.gens (v.cc * 1024 + v.index) = (spGet 0 s.bm.gens (v.cc * 1024 + v.index) + 1) % 2 ^ 16) ∧
  (∀ s v rest, s.bm.landing = v :: rest → v.target = 0 → v.words.length = 64 →
    tileSpan s v.cc (s.setBase v.cc v.dir (1 - (s.wset v.cc v.dir).cur) + (v.layer * s.bfNg v.cc + v.index) * 256) 256 = true →
    Completes (.weightVectorLand false) s fun t =>
      t.bm.landing = rest ∧
      sramPeek t (s.setBase v.cc v.dir (1 - (s.wset v.cc v.dir).cur) + (v.layer * s.bfNg v.cc + v.index) * 256) 256 =
        vecBytes v.words ∧
      (t.wset v.cc v.dir).cur = (s.wset v.cc v.dir).cur)

/-- Chapter 7: the repair of the array, tiles and the PRACH combiner. -/
def Obligations.ArrayRepairCommandsComplete : Prop :=
  (∀ s p, p ∈ s.bm.declaring →
    Completes (.ergDeclared p) s fun t =>
      p ∉ t.bm.declaring ∧ bitOf t.bm.mask p = true ∧ t.bm.heal.stage = 1 ∧ t.bm.heal.td = s.clk.elapsed ∧ Fires t 71) ∧
  (∀ s p, p < 64 → 0 < spGet 0 s.bm.goingOff p →
    Completes (.ergPathOff p) s fun t =>
      t.pathState p = .off ∧ p ∈ t.bm.held ∧ spGet 0 t.bm.goingOff p = 0 ∧ spGet 0 s.bm.goingOff p + 63 ≤ t.clk.elapsed) ∧
  (∀ s, s.bm.heal.stage = 1 → Completes .ergResynthStart s fun t => t.bm.heal = { s.bm.heal with stage := 2, gens := s.bm.gens, begun := s.clk.elapsed }) ∧
  (∀ s, s.bm.heal.stage = 2 → Completes .ergResynthDone s fun t => t.bm.heal.stage = 0 ∧ Fires t 72) ∧
  (∀ s p value, bitOf value 8 = true → bitsOf value 7 6 = 1 → p = value % 64 → (s.pathFe p).failed = false →
    Completes (.healDeclare 4 true value) s fun t => (t.pathFe p).failed = true ∧ p ∈ t.bm.declaring) ∧
  (∀ s p value, bitOf value 8 = true → bitsOf value 7 6 = 2 → p = value % 64 → p ∈ s.bm.held ∨ bitOf s.bm.mask p = true →
    Completes (.healClear 4 true value) s fun t => spGet 0 t.bm.clearing p =
      if spGet 0 s.bm.passed p = 0 then 1 else max (spGet 0 s.bm.passed p) (s.clk.elapsed + 2 - 64)) ∧
  (∀ s value, Completes (.healDeclare 4 false value) s fun t => t.bm = s.bm ∧ t.fe = s.fe ∧ Fires t 224) ∧
  (∀ s value, Completes (.healClear 4 false value) s fun t => t.bm = s.bm ∧ Fires t 224) ∧
  (∀ s p, p < 64 → 1 < spGet 0 s.bm.clearing p →
    Completes (.ergPathRestored p) s fun t =>
      p ∉ t.bm.held ∧ bitOf t.bm.mask p = false ∧ spGet 0 t.bm.clearing p = 0 ∧ t.bm.heal.stage = 1 ∧
      (t.pathFe p).failed = false ∧ Fires t 75) ∧
  (∀ s k, k < 9 → k ∉ s.bm.retired →
    Completes (.tileFail k) s fun t =>
      k ∈ t.bm.retired ∧ Fires t 70 ∧ (s.bm.spare = some k → t.bm.spare = none) ∧
      ∀ j < 8, s.bm.map.getD j 9 = k → spGet 0 t.bm.dead j = s.clk.elapsed + 1) ∧
  (∀ s j at_ rest sp, s.bm.dead = (j, at_) :: rest → s.bm.spare = some sp →
    Completes .tileSpareTakeover s fun t =>
      t.bm.map = s.bm.map.set j sp ∧ t.bm.spare = none ∧ t.bm.dead = rest ∧ t.clk.elapsed = max s.clk.elapsed (at_ - 1 + 2048)) ∧
  (∀ s j p, j < 4 → (s.island 8).off = false → p < 64 → (spGet ReSym.none_ s.rx.prach (p * 4 + j)).tick ≠ 0 →
    bitOf (s.prachCfg j) 10 = true →
    Completes (.prachCombine j) s fun t => (spGet UlSym.none_ t.lnk.prach j).streams.length = 64) ∧
  (∀ s j p, j < 4 → (s.island 8).off = false → p < 64 → (spGet ReSym.none_ s.rx.prach (p * 4 + j)).tick ≠ 0 →
    bitOf (s.prachCfg j) 10 = false →
    Completes (.prachCombine j) s fun t =>
      (spGet UlSym.none_ t.lnk.prach j).streams.length =
        ((List.range 16).filter (fun m => beAt (s.obytes (0x5910 + j) 1) (2 * m) 2 < 0x400)).length)

/-- Chapter 8: banks, hand-over, ramp, probation, fall-back and identity of a predistortion unit. -/
def Obligations.PredistortionCommandsComplete : Prop :=
  (∀ s p msq mabs, p < 64 → s.dpdHeld p = false →
    Completes (.dpdThermalUpdate p msq mabs) s fun t =>
      (t.dpd p).theta = (s.dpd p).tmod * 2 ^ 18 + (t.dpd p).t0 + (t.dpd p).t1 ∧ t.clk.count % 512 = 0) ∧
  (∀ s tag addr value p b i, bankAddr addr = some (p, b, i) → s.tagDeviceOrD2 tag = true → (s.dpd p).writable b s.clk.elapsed = true →
    (s.island (p / 8)).off = false → s.dpdHeld p = false →
    Completes (.dpdBankWrite tag addr value) s fun t =>
      (t.dpd p).word b i = if 4 ≤ i ∧ i < 16 then (s.dpd p).word b i else value % 2 ^ 32) ∧
  (∀ s tag addr value p b i, bankAddr addr = some (p, b, i) → (s.dpd p).writable b s.clk.elapsed = false ∨ s.dpdHeld p = true →
    (s.island (p / 8)).off = false →
    Completes (.dpdBankWrite tag addr value) s fun t =>
      t.dpd p = s.dpd p ∧ rd t .dpdWrej [p / 8, p % 8] = min 0xFFFFFFFF (rd s .dpdWrej [p / 8, p % 8] + 1) ∧ Fires t 83) ∧
  (∀ s tag p value, p < 64 → s.tagDeviceOrD2 tag = true → bitOf value 0 = true → ((s.dpd p).st = .identity ∨ (s.dpd p).st = .good) →
    (s.dpd p).checking = none → (s.dpd p).due = .none_ → s.dpdHeld p = false → s.regOff .dpdHo [p / 8, p % 8] = false →
    Completes (.dpdHoRequest tag p value) s fun t => t.dpd p = { s.dpd p with checking := some s.clk.elapsed }) ∧
  (∀ s tag p value, p < 64 → s.tagDeviceOrD2 tag = true → bitOf value 0 = true → s.regOff .dpdHo [p / 8, p % 8] = false →
    ((s.dpd p).st ≠ .identity ∧ (s.dpd p).st ≠ .good) ∨ (s.dpd p).checking ≠ none ∨ (s.dpd p).due ≠ .none_ ∨ s.dpdHeld p = true →
    Completes (.dpdHoRequest tag p value) s fun t =>
      (t.dpd p).st = (s.dpd p).st ∧ (t.dpd p).result = 2 ∧ (t.dpd p).checking = none ∧ Fires t 76) ∧
  (∀ s p, p < 64 → (s.dpd p).checking ≠ none → ((s.dpd p).st = .identity ∨ (s.dpd p).st = .good) →
    (s.dpd p).due = .none_ → s.dpdHeld p = false → boundFails (s.dpd p) (s.dpd p).shadow = false → gainFails s p (s.dpd p) (s.dpd p).shadow = false →
    Completes (.dpdHoCheckDone p) s fun t =>
      (t.dpd p).st = .ramp ∧ (t.dpd p).bank = (s.dpd p).shadow ∧ (t.dpd p).locked = true ∧ (t.dpd p).result = 1 ∧
      (t.dpd p).rampLen = rf s .dpdCtrl [p / 8, p % 8] 10 3) ∧
  (∀ s p, p < 64 → (s.dpd p).checking ≠ none → ((s.dpd p).st = .identity ∨ (s.dpd p).st = .good) →
    (s.dpd p).due = .none_ → s.dpdHeld p = false → boundFails (s.dpd p) (s.dpd p).shadow = true →
    Completes (.dpdHoCheckDone p) s fun t =>
      (t.dpd p).st = (s.dpd p).st ∧ (t.dpd p).bank = (s.dpd p).bank ∧ (t.dpd p).result = 3 ∧ Fires t 76) ∧
  (∀ s p, p < 64 → (s.dpd p).checking ≠ none → (s.dpd p).due ≠ .none_ → s.dpdHeld p = false →
    Completes (.dpdHoCheckDone p) s fun t => (t.dpd p).st = (s.dpd p).st ∧ (t.dpd p).due = (s.dpd p).due ∧ (t.dpd p).result = 2 ∧ Fires t 76) ∧
  (∀ s p, p < 64 → (s.dpd p).st = .ramp → (s.dpd p).due = .none_ → s.tlRuns = true → s.pathState p ≠ .off → (s.pathFe p).blanked = false →
    Completes (.dpdRampStep p) s fun t =>
      (t.dpd p).rampStep = (s.dpd p).rampStep + 1 ∧
      (t.dpd p).st = (if (s.dpd p).rampLen ≤ (s.dpd p).rampStep + 1 then .probation else .ramp)) ∧
  (∀ s p z age, p < 64 → (p / 8, p % 8) ∉ s.svc.faulty → s.dpdHeld p = false → windowCounts s p age = true →
    Completes (.dpdDivergenceWindow p z age) s fun t =>
      (t.dpd p).ew = windowError s p z age ∧ (t.dpd p).hist = (windowError s p z age :: (s.dpd p).hist).take 64) ∧
  (∀ s p n, p < 64 → (s.dpd p).st = .probation → (s.dpd p).due = .none_ → s.tlRuns = true → s.dpdHeld p = false → (s.dpd p).backoff = false →
    nthTxStart s p (rf s .dpdCtrl [p / 8, p % 8] 18 11) (s.dpd p).probAt = some n →
    Completes (.dpdProbationEnd p) s fun t =>
      (t.dpd p).st = .good ∧ (t.dpd p).locked = false ∧ t.clk.count = max s.clk.count n ∧ Fires t 77) ∧
  (∀ s p n, p < 64 → (s.dpd p).st = .probation → (s.dpd p).due = .none_ → s.tlRuns = true → s.dpdHeld p = false → (s.dpd p).backoff = true →
    (s.dpd p).second = false → nthTxStart s p (rf s .dpdCtrl [p / 8, p % 8] 18 11) (s.dpd p).probAt = some n →
    Completes (.dpdProbationEnd p) s fun t =>
      (t.dpd p).st = .backoffRamp ∧ (t.dpd p).backoffStep = 0 ∧ (t.dpd p).rampLen = rf s .dpdCtrl [p / 8, p % 8] 10 3) ∧
  (∀ s p, p < 64 → (s.dpd p).due = .fallback → s.dpdHeld p = false →
    Completes (.dpdFallback p) s fun t =>
      (t.dpd p).st = .fallback ∧ (t.dpd p).bank = 1 - (s.dpd p).bank ∧ (t.dpd p).locked = false ∧ (t.dpd p).result = 5 ∧
      (t.dpd p).due = .none_ ∧ Fires t 78) ∧
  (∀ s p, p < 64 → (s.dpd p).due = .identity → s.dpdHeld p = false →
    Completes (.dpdIdentity p) s fun t =>
      (t.dpd p).st = .identity ∧ (t.dpd p).ident = true ∧ (t.dpd p).backoff = true ∧ (t.dpd p).locked = false ∧
      bitOf (t.dpd p).stale 1 = true ∧ 0 < spGet 0 t.disp.pending p ∧ Fires t 79) ∧
  (∀ s p, p < 64 → (s.dpd p).st = .fallback → (s.dpd p).due = .none_ → rf s .dpdLim [p / 8, p % 8] 26 24 ≤ (s.dpd p).wins →
    s.dpdHeld p = false →
    Completes (.dpdFallbackCheckEnd p) s fun t =>
      (t.dpd p).st = (if (s.dpd p).ident = true then .identity else .good) ∧ (t.dpd p).wins = 0 ∧
      ((s.dpd p).ident = true → bitOf (t.dpd p).stale 1 = true ∧ 0 < spGet 0 t.disp.pending p))

/-- Chapter 8: what the dispatcher does with requests, jobs, visits and ages. -/
def Obligations.DispatcherCommandsComplete : Prop :=
  (∀ s tag bits, s.tagDeviceOrD2 tag = true → s.regOff .dpdReq [] = false →
    Completes (.dpdReq tag bits) s fun t => ∀ p < 64, bitOf bits p = true → 0 < spGet 0 t.disp.pending p) ∧
  (∀ s p, rbit s .dpdDispCtrl [] 0 = true → s.ctl.fwRuns = true → s.disp.jobs.length < max 1 (rf s .dpdDispCtrl [] 4 1) →
    hottest s = some p → earlierWork s 2 = false → s.askedAgain .dpdReq [] p = false →
    Completes .dpdJobStart s fun t =>
      spGet 0 t.disp.pending p = 0 ∧ (p ∈ t.disp.served ∨ (t.disp.served = [] ∧ t.disp.round = !s.disp.round)) ∧
      t.disp.last = p ∧ ∃ j ∈ t.disp.jobs, j.path = p) ∧
  (∀ s p, p < 64 → s.fdd = true → s.ctl.fwRuns = true → 0 < s.onum (0x6100 + p) 7 → (s.orx (p / 16)).failed = false → (s.orx (p / 16)).running = none →
    Completes (.dpdMinRateVisit p) s fun t =>
      ∃ v, (t.orx (p / 16)).running = some v ∧ v.path = p ∧ v.n = 8192 ∧ v.bestEffort = false) ∧
  (∀ s p, p < 64 → 0 < spGet 0 s.disp.pending p →
    Completes (.dpdStaleAgeExpiry p) s fun t =>
      bitOf (t.dpd p).stale 0 = true ∧
      t.clk.elapsed = max s.clk.elapsed (spGet 0 s.disp.pending p - 1 + rf s .dpdDispCtrl [] 24 5 * msTicks + 1))

/-- Chapter 9: the complex operations of the compute slot, each with its result from the two operands and the flag EOV set when a part
does not fit (R310 to R312). -/
def Obligations.ComplexArithmeticResults : Prop :=
  (∀ s g, GeReady s g.e 0 g.last g.ecc → Completes (.nop g) s fun t =>
      (t.eng g.e).drain = { (s.eng g.e).drain with bundle := (t.eng g.e).bundle }) ∧
  (∀ s g, GeReady s g.e 0 g.last g.ecc → Completes (.add g) s fun t =>
      GeReg s t g.e g.dst (wordOf (cadd (cOf ((s.eng g.e).dr g.sa)) (cOf ((s.eng g.e).dr g.sb)))) ∧
    bitOf ((t.eng g.e).drain.cr 30) 4 = (bitOf ((s.eng g.e).drain.cr 30) 4 ||
      !fits16 (cadd (cOf ((s.eng g.e).dr g.sa)) (cOf ((s.eng g.e).dr g.sb))))) ∧
  (∀ s g, GeReady s g.e 0 g.last g.ecc → Completes (.sub g) s fun t =>
      GeReg s t g.e g.dst (wordOf (csub (cOf ((s.eng g.e).dr g.sa)) (cOf ((s.eng g.e).dr g.sb)))) ∧
    bitOf ((t.eng g.e).drain.cr 30) 4 = (bitOf ((s.eng g.e).drain.cr 30) 4 ||
      !fits16 (csub (cOf ((s.eng g.e).dr g.sa)) (cOf ((s.eng g.e).dr g.sb))))) ∧
  (∀ s g, GeReady s g.e 0 g.last g.ecc → Completes (.addh g) s fun t =>
      GeReg s t g.e g.dst (wordOf (cshr (cadd (cOf ((s.eng g.e).dr g.sa)) (cOf ((s.eng g.e).dr g.sb))) 1)) ∧
    bitOf ((t.eng g.e).drain.cr 30) 4 = (bitOf ((s.eng g.e).drain.cr 30) 4 ||
      !fits16 (cshr (cadd (cOf ((s.eng g.e).dr g.sa)) (cOf ((s.eng g.e).dr g.sb))) 1))) ∧
  (∀ s g, GeReady s g.e 0 g.last g.ecc → Completes (.subh g) s fun t =>
      GeReg s t g.e g.dst (wordOf (cshr (csub (cOf ((s.eng g.e).dr g.sa)) (cOf ((s.eng g.e).dr g.sb))) 1)) ∧
    bitOf ((t.eng g.e).drain.cr 30) 4 = (bitOf ((s.eng g.e).drain.cr 30) 4 ||
      !fits16 (cshr (csub (cOf ((s.eng g.e).dr g.sa)) (cOf ((s.eng g.e).dr g.sb))) 1))) ∧
  (∀ s g, GeReady s g.e 0 g.last g.ecc → Completes (.neg g) s fun t =>
      GeReg s t g.e g.dst (wordOf ⟨-(cOf ((s.eng g.e).dr g.sa)).re, -(cOf ((s.eng g.e).dr g.sa)).im⟩) ∧
    bitOf ((t.eng g.e).drain.cr 30) 4 = (bitOf ((s.eng g.e).drain.cr 30) 4 ||
      !fits16 ⟨-(cOf ((s.eng g.e).dr g.sa)).re, -(cOf ((s.eng g.e).dr g.sa)).im⟩)) ∧
  (∀ s g, GeReady s g.e 0 g.last g.ecc → Completes (.conj g) s fun t => GeReg s t g.e g.dst (wordOf (cconj (cOf ((s.eng g.e).dr g.sa)))) ∧
    bitOf ((t.eng g.e).drain.cr 30) 4 = (bitOf ((s.eng g.e).drain.cr 30) 4 || !fits16 (cconj (cOf ((s.eng g.e).dr g.sa))))) ∧
  (∀ s g, GeReady s g.e 0 g.last g.ecc → Completes (.swap g) s fun t =>
      GeReg s t g.e g.dst (wordOf ⟨(cOf ((s.eng g.e).dr g.sa)).im, (cOf ((s.eng g.e).dr g.sa)).re⟩) ∧
    bitOf ((t.eng g.e).drain.cr 30) 4 = (bitOf ((s.eng g.e).drain.cr 30) 4 ||
      !fits16 ⟨(cOf ((s.eng g.e).dr g.sa)).im, (cOf ((s.eng g.e).dr g.sa)).re⟩)) ∧
  (∀ s g, GeReady s g.e 0 g.last g.ecc → Completes (.shl g) s fun t =>
      GeReg s t g.e g.dst (wordOf ⟨(cOf ((s.eng g.e).dr g.sa)).re * 2 ^ (g.sb % 16), (cOf ((s.eng g.e).dr g.sa)).im * 2 ^ (g.sb % 16)⟩) ∧
    bitOf ((t.eng g.e).drain.cr 30) 4 = (bitOf ((s.eng g.e).drain.cr 30) 4 ||
      !fits16 ⟨(cOf ((s.eng g.e).dr g.sa)).re * 2 ^ (g.sb % 16), (cOf ((s.eng g.e).dr g.sa)).im * 2 ^ (g.sb % 16)⟩)) ∧
  (∀ s g, GeReady s g.e 0 g.last g.ecc → Completes (.shr g) s fun t =>
      GeReg s t g.e g.dst (wordOf (cshr (cOf ((s.eng g.e).dr g.sa)) (g.sb % 32))) ∧
    bitOf ((t.eng g.e).drain.cr 30) 4 = (bitOf ((s.eng g.e).drain.cr 30) 4 || !fits16 (cshr (cOf ((s.eng g.e).dr g.sa)) (g.sb % 32)))) ∧
  (∀ s g, GeReady s g.e 0 g.last g.ecc → Completes (.mov g) s fun t => GeReg s t g.e g.dst (wordOf (cOf ((s.eng g.e).dr g.sa))) ∧
    bitOf ((t.eng g.e).drain.cr 30) 4 = (bitOf ((s.eng g.e).drain.cr 30) 4 || !fits16 (cOf ((s.eng g.e).dr g.sa)))) ∧
  (∀ s g, GeReady s g.e 0 g.last g.ecc → Completes (.cmul g) s fun t =>
      GeReg s t g.e g.dst (wordOf (cmul15 (cOf ((s.eng g.e).dr g.sa)) (cjOf g.cj (cOf ((s.eng g.e).dr g.sb))))) ∧
    bitOf ((t.eng g.e).drain.cr 30) 4 = (bitOf ((s.eng g.e).drain.cr 30) 4 ||
      !fits16 (cmul15 (cOf ((s.eng g.e).dr g.sa)) (cjOf g.cj (cOf ((s.eng g.e).dr g.sb)))))) ∧
  (∀ s g, GeReady s g.e 0 g.last g.ecc → Completes (.mag2 g) s fun t =>
      GeReg s t g.e g.dst (((cOf ((s.eng g.e).dr g.sa)).re * (cOf ((s.eng g.e).dr g.sa)).re + (cOf ((s.eng g.e).dr g.sa)).im * (cOf
      ((s.eng g.e).dr g.sa)).im).toNat / 2 ^ 15)) ∧
  (∀ s g, GeIssues s g.e 0 g.last g.ecc [(g.dst % 32, 1)] [] → GeGoes s g.e →
    Completes (.add g) s fun t => GeIssued s t g.e (bundleGoes (s.eng g.e)) ∧
      (t.eng g.e).dr g.dst = wordOf (cadd (cOf ((s.eng g.e).dr g.sa)) (cOf ((s.eng g.e).dr g.sb))) ∧ (fits16 (cadd (cOf ((s.eng g.e).dr g.sa)) (cOf ((s.eng g.e).dr g.sb))) = false → bitOf ((t.eng g.e).cr 30) 4 = true)) ∧
  (∀ s g, GeIssues s g.e 0 g.last g.ecc [(g.dst % 32, 1)] [] → GeGoes s g.e →
    Completes (.sub g) s fun t => GeIssued s t g.e (bundleGoes (s.eng g.e)) ∧
      (t.eng g.e).dr g.dst = wordOf (csub (cOf ((s.eng g.e).dr g.sa)) (cOf ((s.eng g.e).dr g.sb))) ∧ (fits16 (csub (cOf ((s.eng g.e).dr g.sa)) (cOf ((s.eng g.e).dr g.sb))) = false → bitOf ((t.eng g.e).cr 30) 4 = true)) ∧
  (∀ s g, GeIssues s g.e 0 g.last g.ecc [(g.dst % 32, 1)] [] → GeGoes s g.e →
    Completes (.addh g) s fun t => GeIssued s t g.e (bundleGoes (s.eng g.e)) ∧
      (t.eng g.e).dr g.dst = wordOf (cshr (cadd (cOf ((s.eng g.e).dr g.sa)) (cOf ((s.eng g.e).dr g.sb))) 1) ∧ (fits16 (cshr (cadd (cOf ((s.eng g.e).dr g.sa)) (cOf ((s.eng g.e).dr g.sb))) 1) = false → bitOf ((t.eng g.e).cr 30) 4 = true)) ∧
  (∀ s g, GeIssues s g.e 0 g.last g.ecc [(g.dst % 32, 1)] [] → GeGoes s g.e →
    Completes (.subh g) s fun t => GeIssued s t g.e (bundleGoes (s.eng g.e)) ∧
      (t.eng g.e).dr g.dst = wordOf (cshr (csub (cOf ((s.eng g.e).dr g.sa)) (cOf ((s.eng g.e).dr g.sb))) 1) ∧ (fits16 (cshr (csub (cOf ((s.eng g.e).dr g.sa)) (cOf ((s.eng g.e).dr g.sb))) 1) = false → bitOf ((t.eng g.e).cr 30) 4 = true)) ∧
  (∀ s g, GeIssues s g.e 0 g.last g.ecc [(g.dst % 32, 1)] [] → GeGoes s g.e →
    Completes (.neg g) s fun t => GeIssued s t g.e (bundleGoes (s.eng g.e)) ∧
      (t.eng g.e).dr g.dst = wordOf ⟨-(cOf ((s.eng g.e).dr g.sa)).re, -(cOf ((s.eng g.e).dr g.sa)).im⟩ ∧ (fits16 ⟨-(cOf ((s.eng g.e).dr g.sa)).re, -(cOf ((s.eng g.e).dr g.sa)).im⟩ = false → bitOf ((t.eng g.e).cr 30) 4 = true)) ∧
  (∀ s g, GeIssues s g.e 0 g.last g.ecc [(g.dst % 32, 1)] [] → GeGoes s g.e →
    Completes (.conj g) s fun t => GeIssued s t g.e (bundleGoes (s.eng g.e)) ∧
      (t.eng g.e).dr g.dst = wordOf (cconj (cOf ((s.eng g.e).dr g.sa))) ∧ (fits16 (cconj (cOf ((s.eng g.e).dr g.sa))) = false → bitOf ((t.eng g.e).cr 30) 4 = true)) ∧
  (∀ s g, GeIssues s g.e 0 g.last g.ecc [(g.dst % 32, 1)] [] → GeGoes s g.e →
    Completes (.swap g) s fun t => GeIssued s t g.e (bundleGoes (s.eng g.e)) ∧
      (t.eng g.e).dr g.dst = wordOf ⟨(cOf ((s.eng g.e).dr g.sa)).im, (cOf ((s.eng g.e).dr g.sa)).re⟩ ∧ (fits16 ⟨(cOf ((s.eng g.e).dr g.sa)).im, (cOf ((s.eng g.e).dr g.sa)).re⟩ = false → bitOf ((t.eng g.e).cr 30) 4 = true)) ∧
  (∀ s g, GeIssues s g.e 0 g.last g.ecc [(g.dst % 32, 1)] [] → GeGoes s g.e →
    Completes (.shl g) s fun t => GeIssued s t g.e (bundleGoes (s.eng g.e)) ∧
      (t.eng g.e).dr g.dst = wordOf ⟨(cOf ((s.eng g.e).dr g.sa)).re * 2 ^ (g.sb % 16), (cOf ((s.eng g.e).dr g.sa)).im * 2 ^ (g.sb % 16)⟩ ∧ (fits16 ⟨(cOf ((s.eng g.e).dr g.sa)).re * 2 ^ (g.sb % 16), (cOf ((s.eng g.e).dr g.sa)).im * 2 ^ (g.sb % 16)⟩ = false → bitOf ((t.eng g.e).cr 30) 4 = true)) ∧
  (∀ s g, GeIssues s g.e 0 g.last g.ecc [(g.dst % 32, 1)] [] → GeGoes s g.e →
    Completes (.shr g) s fun t => GeIssued s t g.e (bundleGoes (s.eng g.e)) ∧
      (t.eng g.e).dr g.dst = wordOf (cshr (cOf ((s.eng g.e).dr g.sa)) (g.sb % 32)) ∧ (fits16 (cshr (cOf ((s.eng g.e).dr g.sa)) (g.sb % 32)) = false → bitOf ((t.eng g.e).cr 30) 4 = true)) ∧
  (∀ s g, GeIssues s g.e 0 g.last g.ecc [(g.dst % 32, 1)] [] → GeGoes s g.e →
    Completes (.mov g) s fun t => GeIssued s t g.e (bundleGoes (s.eng g.e)) ∧
      (t.eng g.e).dr g.dst = wordOf (cOf ((s.eng g.e).dr g.sa)) ∧ (fits16 (cOf ((s.eng g.e).dr g.sa)) = false → bitOf ((t.eng g.e).cr 30) 4 = true)) ∧
  (∀ s g, GeIssues s g.e 0 g.last g.ecc [(g.dst % 32, 2)] [] → GeGoes s g.e →
    Completes (.cmul g) s fun t => GeIssued s t g.e (bundleGoes (s.eng g.e)) ∧
      GeSent s t g.e 2 (g.dst % 32) (.num (wordOf (cmul15 (cOf ((s.eng g.e).dr g.sa)) (cjOf g.cj (cOf ((s.eng g.e).dr g.sb)))))) false) ∧
  (∀ s g, GeIssues s g.e 0 g.last g.ecc [(g.dst % 32, 2)] [] → GeGoes s g.e →
    Completes (.mag2 g) s fun t => GeIssued s t g.e (bundleGoes (s.eng g.e)) ∧
      GeSent s t g.e 2 (g.dst % 32) (.num (((cOf ((s.eng g.e).dr g.sa)).re * (cOf ((s.eng g.e).dr g.sa)).re + (cOf ((s.eng g.e).dr g.sa)).im * (cOf ((s.eng g.e).dr g.sa)).im).toNat / 2 ^ 15)) false)

/-- Chapter 9: the integer operations, exponents, and moves to and from the registers of a code (R298, R311, R313 to R315). -/
def Obligations.IntegerAndControlRegisterResults : Prop :=
  (∀ s g, GeReady s g.e 0 g.last g.ecc → Completes (.iadd g) s fun t =>
      GeReg s t g.e g.dst ((((s.eng g.e).dr g.sa) + ((s.eng g.e).dr g.sb)) % 2 ^ 32)) ∧
  (∀ s g, GeReady s g.e 0 g.last g.ecc → Completes (.isub g) s fun t =>
      GeReg s t g.e g.dst ((((s.eng g.e).dr g.sa) + 2 ^ 32 - ((s.eng g.e).dr g.sb)) % 2 ^ 32)) ∧
  (∀ s g, GeReady s g.e 0 g.last g.ecc → Completes (.andOp g) s fun t =>
      GeReg s t g.e g.dst (Nat.land ((s.eng g.e).dr g.sa) ((s.eng g.e).dr g.sb) % 2 ^ 32)) ∧
  (∀ s g, GeReady s g.e 0 g.last g.ecc → Completes (.orOp g) s fun t =>
      GeReg s t g.e g.dst (Nat.lor ((s.eng g.e).dr g.sa) ((s.eng g.e).dr g.sb) % 2 ^ 32)) ∧
  (∀ s g, GeReady s g.e 0 g.last g.ecc → Completes (.xorOp g) s fun t =>
      GeReg s t g.e g.dst (Nat.xor ((s.eng g.e).dr g.sa) ((s.eng g.e).dr g.sb) % 2 ^ 32)) ∧
  (∀ s g, GeReady s g.e 0 g.last g.ecc → Completes (.ishl g) s fun t =>
      GeReg s t g.e g.dst (((s.eng g.e).dr g.sa) * 2 ^ (g.sb % 32) % 2 ^ 32)) ∧
  (∀ s g, GeReady s g.e 0 g.last g.ecc → Completes (.ishr g) s fun t =>
      GeReg s t g.e g.dst (ofSigned 32 (toSigned 32 ((s.eng g.e).dr g.sa) / 2 ^ (g.sb % 32)))) ∧
  (∀ s g, GeReady s g.e 0 g.last g.ecc → Completes (.exp g) s fun t => GeReg s t g.e g.dst (expWord ((s.eng g.e).dr g.sa))) ∧
  (∀ s g, GeReady s g.e 0 g.last g.ecc → Completes (.expa g) s fun t =>
      GeReg s t g.e g.dst (ofSigned 32 (expAcc ((s.eng g.e).ac g.sa)))) ∧
  (∀ s g, GeReady s g.e 0 g.last g.ecc → Completes (.mfr g) s fun t => GeReg s t g.e g.dst ((s.eng g.e).cr (g.sa % 32) % 2 ^ 32)) ∧
  (∀ s g r, GeReady s g.e 4 g.last g.ecc → Completes (.ldi g r) s fun t => GeReg s t g.e r (g.imm % 2 ^ 32)) ∧
  (∀ s g, GeReady s g.e 0 g.last g.ecc → Completes (.icmp g) s fun t => GeCtl s t g.e 30
    (crKeeps 30 (setBits ((s.eng g.e).drain.cr 30) 1 0 (b2n (decide ((toSigned 32 ((s.eng g.e).dr g.sa) - toSigned 32 ((s.eng g.e).dr g.sb)) = 0))
      + 2 * b2n (decide ((toSigned 32 ((s.eng g.e).dr g.sa) - toSigned 32 ((s.eng g.e).dr g.sb)) < 0)))))) ∧
  (∀ s g, GeReady s g.e 0 g.last g.ecc → Completes (.setbs g) s fun t =>
      GeCtl s t g.e 30 (crKeeps 30 (setBits ((s.eng g.e).drain.cr 30) 8 7 (g.sb % 4)))) ∧
  (∀ s g, GeReady s g.e 0 g.last g.ecc → Completes (.bexp g) s fun t =>
    GeReg s t g.e g.dst (bitsOf ((s.eng g.e).cr 31) 3 0) ∧ GeCtl s t g.e 31 (crKeeps 31 (setBits ((s.eng g.e).drain.cr 31) 3 0 15))) ∧
  (∀ s g, GeReady s g.e 0 g.last g.ecc → Completes (.bxadd g) s fun t =>
    GeCtl s t g.e 31 (crKeeps 31 (setBits ((s.eng g.e).drain.cr 31) 31 16 (bitsOf ((s.eng g.e).drain.cr 31) 31 16 +
      ((s.eng g.e).dr g.sa) % 2 ^ 16)))) ∧
  (∀ s g, GeReady s g.e 0 g.last g.ecc → Completes (.mtr g) s fun t =>
      GeCtl s t g.e (g.dst % 32) (crKeeps (g.dst % 32) ((s.eng g.e).dr g.sa))) ∧
  (∀ s g, GeIssues s g.e 0 g.last g.ecc [(g.dst % 32, 1)] [] → GeGoes s g.e →
    Completes (.iadd g) s fun t => GeIssued s t g.e (bundleGoes (s.eng g.e)) ∧
      (t.eng g.e).dr g.dst = (((s.eng g.e).dr g.sa) + ((s.eng g.e).dr g.sb)) % 2 ^ 32) ∧
  (∀ s g, GeIssues s g.e 0 g.last g.ecc [(g.dst % 32, 1)] [] → GeGoes s g.e →
    Completes (.isub g) s fun t => GeIssued s t g.e (bundleGoes (s.eng g.e)) ∧
      (t.eng g.e).dr g.dst = (((s.eng g.e).dr g.sa) + 2 ^ 32 - ((s.eng g.e).dr g.sb)) % 2 ^ 32) ∧
  (∀ s g, GeIssues s g.e 0 g.last g.ecc [(g.dst % 32, 1)] [] → GeGoes s g.e →
    Completes (.andOp g) s fun t => GeIssued s t g.e (bundleGoes (s.eng g.e)) ∧
      (t.eng g.e).dr g.dst = Nat.land ((s.eng g.e).dr g.sa) ((s.eng g.e).dr g.sb) % 2 ^ 32) ∧
  (∀ s g, GeIssues s g.e 0 g.last g.ecc [(g.dst % 32, 1)] [] → GeGoes s g.e →
    Completes (.orOp g) s fun t => GeIssued s t g.e (bundleGoes (s.eng g.e)) ∧
      (t.eng g.e).dr g.dst = Nat.lor ((s.eng g.e).dr g.sa) ((s.eng g.e).dr g.sb) % 2 ^ 32) ∧
  (∀ s g, GeIssues s g.e 0 g.last g.ecc [(g.dst % 32, 1)] [] → GeGoes s g.e →
    Completes (.xorOp g) s fun t => GeIssued s t g.e (bundleGoes (s.eng g.e)) ∧
      (t.eng g.e).dr g.dst = Nat.xor ((s.eng g.e).dr g.sa) ((s.eng g.e).dr g.sb) % 2 ^ 32) ∧
  (∀ s g, GeIssues s g.e 0 g.last g.ecc [(g.dst % 32, 1)] [] → GeGoes s g.e →
    Completes (.ishl g) s fun t => GeIssued s t g.e (bundleGoes (s.eng g.e)) ∧
      (t.eng g.e).dr g.dst = ((s.eng g.e).dr g.sa) * 2 ^ (g.sb % 32) % 2 ^ 32) ∧
  (∀ s g, GeIssues s g.e 0 g.last g.ecc [(g.dst % 32, 1)] [] → GeGoes s g.e →
    Completes (.ishr g) s fun t => GeIssued s t g.e (bundleGoes (s.eng g.e)) ∧
      (t.eng g.e).dr g.dst = ofSigned 32 (toSigned 32 ((s.eng g.e).dr g.sa) / 2 ^ (g.sb % 32))) ∧
  (∀ s g, GeIssues s g.e 0 g.last g.ecc [(g.dst % 32, 1)] [] → GeGoes s g.e →
    Completes (.exp g) s fun t => GeIssued s t g.e (bundleGoes (s.eng g.e)) ∧
      (t.eng g.e).dr g.dst = expWord ((s.eng g.e).dr g.sa)) ∧
  (∀ s g, GeIssues s g.e 0 g.last g.ecc [(g.dst % 32, 1)] [] → GeGoes s g.e →
    Completes (.mfr g) s fun t => GeIssued s t g.e (bundleGoes (s.eng g.e)) ∧
      (t.eng g.e).dr g.dst = (s.eng g.e).cr (g.sa % 32) % 2 ^ 32) ∧
  (∀ s g, GeIssues s g.e 0 g.last g.ecc [(g.dst % 32, 2)] [] → GeGoes s g.e →
    Completes (.expa g) s fun t => GeIssued s t g.e (bundleGoes (s.eng g.e)) ∧
      GeSent s t g.e 2 (g.dst % 32) (.num (ofSigned 32 (expAcc ((s.eng g.e).ac g.sa)))) false) ∧
  (∀ s g r, GeIssues s g.e 4 g.last g.ecc [(r % 32, 1)] [] → GeGoes s g.e →
    Completes (.ldi g r) s fun t => GeIssued s t g.e (bundleGoes (s.eng g.e)) ∧
      (t.eng g.e).dr r = g.imm % 2 ^ 32) ∧
  (∀ s g, GeIssues s g.e 0 g.last g.ecc [] [] → GeGoes s g.e →
    Completes (.icmp g) s fun t => GeIssued s t g.e (bundleGoes (s.eng g.e)) ∧
      bitOf ((t.eng g.e).cr 30) 0 = decide ((toSigned 32 ((s.eng g.e).dr g.sa) - toSigned 32 ((s.eng g.e).dr g.sb)) = 0) ∧ bitOf ((t.eng g.e).cr 30) 1 = decide ((toSigned 32 ((s.eng g.e).dr g.sa) - toSigned 32 ((s.eng g.e).dr g.sb)) < 0)) ∧
  (∀ s g, GeIssues s g.e 0 g.last g.ecc [] [] → GeGoes s g.e →
    Completes (.setbs g) s fun t => GeIssued s t g.e (bundleGoes (s.eng g.e)) ∧
      bitsOf ((t.eng g.e).cr 30) 8 7 = g.sb % 4) ∧
  (∀ s g, GeIssues s g.e 0 g.last g.ecc [(g.dst % 32, 1)] [] → GeGoes s g.e →
    Completes (.bexp g) s fun t => GeIssued s t g.e (bundleGoes (s.eng g.e)) ∧
      (t.eng g.e).dr g.dst = bitsOf ((s.eng g.e).cr 31) 3 0 ∧ ((s.eng g.e).bundle.stored = [] → bitsOf ((t.eng g.e).cr 31) 3 0 = 15)) ∧
  (∀ s g, GeIssues s g.e 0 g.last g.ecc [] [] → GeGoes s g.e → (s.eng g.e).flight = [] →
    Completes (.bxadd g) s fun t => GeIssued s t g.e (bundleGoes (s.eng g.e)) ∧
      bitsOf ((t.eng g.e).cr 31) 31 16 = (bitsOf ((s.eng g.e).cr 31) 31 16 + ((s.eng g.e).dr g.sa) % 2 ^ 16) % 2 ^ 16) ∧
  (∀ s g, GeIssues s g.e 0 g.last g.ecc [(64 + g.dst % 32, 1)] (if g.dst % 32 < 24 then [g.dst % 32] else []) → GeGoes s g.e → (s.eng g.e).bundle.stored = [] →
    Completes (.mtr g) s fun t => GeIssued s t g.e (bundleGoes (s.eng g.e)) ∧
      (t.eng g.e).cr (g.dst % 32) = crKeeps (g.dst % 32) ((s.eng g.e).dr g.sa))

/-- Chapter 9: accumulators, what is taken from them, and the butterfly (R308, R310 to R314). -/
def Obligations.AccumulatorResults : Prop :=
  (∀ s g, GeReady s g.e 0 g.last g.ecc → Completes (.clra g) s fun t => ∀ k < 4, (t.eng g.e).drain.ac k = ⟨0, 0⟩) ∧
  (∀ s g, GeReady s g.e 0 g.last g.ecc → g.sa % 4 = 0 → g.sb % 4 = 0 → Completes (.cmac4 g) s fun t => ∀ j < 4, (t.eng g.e).drain.ac j =
    acc40 (ngAdd g.ng ((s.eng g.e).macAcc j) (cmul (cOf ((s.eng g.e).dr (g.sa + j))) (cjOf g.cj (cOf ((s.eng g.e).dr (g.sb + j))))))) ∧
  (∀ s g, GeReady s g.e 0 g.last g.ecc → g.sb % 4 = 0 → Completes (.cmacb g) s fun t => ∀ j < 4, (t.eng g.e).drain.ac j =
    acc40 (ngAdd g.ng ((s.eng g.e).macAcc j) (cmul (cOf ((s.eng g.e).dr g.sa)) (cjOf g.cj (cOf ((s.eng g.e).dr (g.sb + j))))))) ∧
  (∀ s g, GeReady s g.e 0 g.last g.ecc → g.sa % 4 = 0 → g.sb % 4 = 0 → Completes (.cdot g) s fun t => GeAcc s t g.e g.dst
    (acc40 (ngAdd g.ng ((s.eng g.e).macAcc g.dst) (cadd (cadd (cadd (cadd ⟨0, 0⟩ (cmul (cOf ((s.eng g.e).dr (g.sa + 0))) (cjOf g.cj
      (cOf ((s.eng g.e).dr (g.sb + 0)))))) (cmul (cOf ((s.eng g.e).dr (g.sa + 1))) (cjOf g.cj (cOf ((s.eng g.e).dr (g.sb + 1))))))
      (cmul (cOf ((s.eng g.e).dr (g.sa + 2))) (cjOf g.cj (cOf ((s.eng g.e).dr (g.sb + 2)))))) (cmul (cOf ((s.eng g.e).dr (g.sa + 3)))
      (cjOf g.cj (cOf ((s.eng g.e).dr (g.sb + 3))))))))) ∧
  (∀ s g, GeReady s g.e 0 g.last g.ecc → Completes (.acca g) s fun t =>
      GeAcc s t g.e g.dst (acc40 (cadd ((s.eng g.e).ac g.dst) ((s.eng g.e).ac g.sa)))) ∧
  (∀ s g, GeReady s g.e 0 g.last g.ecc → Completes (.ashr g) s fun t =>
      GeAcc s t g.e g.dst (acc40 (cshr ((s.eng g.e).ac g.dst) (g.sb % 32)))) ∧
  (∀ s g, GeReady s g.e 0 g.last g.ecc → Completes (.mova g) s fun t =>
      GeAcc s t g.e g.dst (acc40 ⟨(cOf ((s.eng g.e).dr g.sa)).re * 2 ^ 15, (cOf ((s.eng g.e).dr g.sa)).im * 2 ^ 15⟩)) ∧
  (∀ s g, GeReady s g.e 0 g.last g.ecc → Completes (.extr g) s fun t =>
      GeReg s t g.e g.dst (wordOf (cshr ((s.eng g.e).ac g.sa) (g.sb % 32)))) ∧
  (∀ s g, GeReady s g.e 0 g.last g.ecc → Completes (.sat g) s fun t =>
      GeReg s t g.e g.dst (wordOf ⟨clampI (-32768) 32767 (cshr ((s.eng g.e).ac g.sa) (g.sb % 32)).re,
    clampI (-32768) 32767 (cshr ((s.eng g.e).ac g.sa) (g.sb % 32)).im⟩)) ∧
  (∀ s g, GeReady s g.e 0 g.last g.ecc → Completes (.norm g) s fun t =>
      GeReg s t g.e g.dst (wordOf ⟨(normPart (toSigned 6 ((s.eng g.e).dr g.sb)) ((s.eng g.e).ac g.sa).re),
    (normPart (toSigned 6 ((s.eng g.e).dr g.sb)) ((s.eng g.e).ac g.sa).im)⟩)) ∧
  (∀ s g, GeReady s g.e 0 g.last g.ecc → g.dst % 2 = 0 → g.sa % 2 = 0 → Completes (.bfly g) s fun t =>
    (t.eng g.e).drain.dr g.dst = wordOf (cshr (cadd (cOf ((s.eng g.e).dr g.sa))
      (cmul15 (cOf ((s.eng g.e).dr (g.sa + 1))) (cjOf g.cj (cOf ((s.eng g.e).dr g.sb))))) (bitsOf ((s.eng g.e).cr 30) 8 7)) ∧
    (t.eng g.e).drain.dr (g.dst + 1) = wordOf (cshr (csub (cOf ((s.eng g.e).dr g.sa))
      (cmul15 (cOf ((s.eng g.e).dr (g.sa + 1))) (cjOf g.cj (cOf ((s.eng g.e).dr g.sb))))) (bitsOf ((s.eng g.e).cr 30) 8 7))) ∧
  (∀ s g, GeIssues s g.e 0 g.last g.ecc [(32, 1), (33, 1), (34, 1), (35, 1)] [] → GeGoes s g.e →
    Completes (.clra g) s fun t => GeIssued s t g.e (bundleGoes (s.eng g.e)) ∧
      ∀ k < 4, (t.eng g.e).ac k = ⟨0, 0⟩) ∧
  (∀ s g, GeIssues s g.e 0 g.last g.ecc [(32, 2), (33, 2), (34, 2), (35, 2)] [] → GeGoes s g.e → g.sa % 4 = 0 → g.sb % 4 = 0 →
    Completes (.cmac4 g) s fun t => GeIssued s t g.e (bundleGoes (s.eng g.e)) ∧
      ∀ j < 4, GeSent s t g.e 2 (32 + j) (.acc (acc40 (ngAdd g.ng ((s.eng g.e).macAcc j) (cmul (cOf ((s.eng g.e).dr (g.sa + j)))
        (cjOf g.cj (cOf ((s.eng g.e).dr (g.sb + j)))))))) true) ∧
  (∀ s g, GeIssues s g.e 0 g.last g.ecc [(32, 2), (33, 2), (34, 2), (35, 2)] [] → GeGoes s g.e → g.sb % 4 = 0 →
    Completes (.cmacb g) s fun t => GeIssued s t g.e (bundleGoes (s.eng g.e)) ∧
      ∀ j < 4, GeSent s t g.e 2 (32 + j) (.acc (acc40 (ngAdd g.ng ((s.eng g.e).macAcc j) (cmul (cOf ((s.eng g.e).dr g.sa))
        (cjOf g.cj (cOf ((s.eng g.e).dr (g.sb + j)))))))) true) ∧
  (∀ s g, GeIssues s g.e 0 g.last g.ecc [(32 + g.dst % 4, 2)] [] → GeGoes s g.e → g.sa % 4 = 0 → g.sb % 4 = 0 →
    Completes (.cdot g) s fun t => GeIssued s t g.e (bundleGoes (s.eng g.e)) ∧
      GeSent s t g.e 2 (32 + g.dst % 4) (.acc (acc40 (ngAdd g.ng ((s.eng g.e).macAcc g.dst) (cadd (cadd (cadd (cadd ⟨0, 0⟩ (cmul (cOf ((s.eng g.e).dr (g.sa + 0))) (cjOf g.cj (cOf ((s.eng g.e).dr (g.sb + 0)))))) (cmul (cOf ((s.eng g.e).dr (g.sa + 1))) (cjOf g.cj (cOf ((s.eng g.e).dr (g.sb + 1)))))) (cmul (cOf ((s.eng g.e).dr (g.sa + 2))) (cjOf g.cj (cOf ((s.eng g.e).dr (g.sb + 2)))))) (cmul (cOf ((s.eng g.e).dr (g.sa + 3))) (cjOf g.cj (cOf ((s.eng g.e).dr (g.sb + 3))))))))) true) ∧
  (∀ s g, GeIssues s g.e 0 g.last g.ecc [(32 + g.dst % 4, 2)] [] → GeGoes s g.e →
    Completes (.acca g) s fun t => GeIssued s t g.e (bundleGoes (s.eng g.e)) ∧
      GeSent s t g.e 2 (32 + g.dst % 4) (.acc (acc40 (cadd ((s.eng g.e).ac g.dst) ((s.eng g.e).ac g.sa)))) false) ∧
  (∀ s g, GeIssues s g.e 0 g.last g.ecc [(32 + g.dst % 4, 2)] [] → GeGoes s g.e →
    Completes (.ashr g) s fun t => GeIssued s t g.e (bundleGoes (s.eng g.e)) ∧
      GeSent s t g.e 2 (32 + g.dst % 4) (.acc (acc40 (cshr ((s.eng g.e).ac g.dst) (g.sb % 32)))) false) ∧
  (∀ s g, GeIssues s g.e 0 g.last g.ecc [(32 + g.dst % 4, 2)] [] → GeGoes s g.e →
    Completes (.mova g) s fun t => GeIssued s t g.e (bundleGoes (s.eng g.e)) ∧
      GeSent s t g.e 2 (32 + g.dst % 4) (.acc (acc40 ⟨(cOf ((s.eng g.e).dr g.sa)).re * 2 ^ 15, (cOf ((s.eng g.e).dr g.sa)).im * 2 ^ 15⟩)) false) ∧
  (∀ s g, GeIssues s g.e 0 g.last g.ecc [(g.dst % 32, 2)] [] → GeGoes s g.e →
    Completes (.extr g) s fun t => GeIssued s t g.e (bundleGoes (s.eng g.e)) ∧
      GeSent s t g.e 2 (g.dst % 32) (.num (wordOf (cshr ((s.eng g.e).ac g.sa) (g.sb % 32)))) false) ∧
  (∀ s g, GeIssues s g.e 0 g.last g.ecc [(g.dst % 32, 2)] [] → GeGoes s g.e →
    Completes (.sat g) s fun t => GeIssued s t g.e (bundleGoes (s.eng g.e)) ∧
      GeSent s t g.e 2 (g.dst % 32) (.num (wordOf ⟨clampI (-32768) 32767 (cshr ((s.eng g.e).ac g.sa) (g.sb % 32)).re, clampI (-32768) 32767 (cshr ((s.eng g.e).ac g.sa) (g.sb % 32)).im⟩)) false) ∧
  (∀ s g, GeIssues s g.e 0 g.last g.ecc [(g.dst % 32, 2)] [] → GeGoes s g.e →
    Completes (.norm g) s fun t => GeIssued s t g.e (bundleGoes (s.eng g.e)) ∧
      GeSent s t g.e 2 (g.dst % 32) (.num (wordOf ⟨normPart (toSigned 6 ((s.eng g.e).dr g.sb)) ((s.eng g.e).ac g.sa).re, normPart (toSigned 6 ((s.eng g.e).dr g.sb)) ((s.eng g.e).ac g.sa).im⟩)) false) ∧
  (∀ s g, GeIssues s g.e 0 g.last g.ecc [(g.dst % 32, 2), ((g.dst + 1) % 32, 2)] [] → GeGoes s g.e → g.dst % 2 = 0 → g.sa % 2 = 0 →
    Completes (.bfly g) s fun t => GeIssued s t g.e (bundleGoes (s.eng g.e)) ∧
      GeSent s t g.e 2 (g.dst % 32) (.num (wordOf (cshr (cadd (cOf ((s.eng g.e).dr g.sa)) (cmul15 (cOf ((s.eng g.e).dr (g.sa + 1))) (cjOf g.cj (cOf ((s.eng g.e).dr g.sb))))) (bitsOf ((s.eng g.e).cr 30) 8 7)))) false ∧
      GeSent s t g.e 2 ((g.dst + 1) % 32) (.num (wordOf (cshr (csub (cOf ((s.eng g.e).dr g.sa)) (cmul15 (cOf ((s.eng g.e).dr (g.sa + 1))) (cjOf g.cj (cOf ((s.eng g.e).dr g.sb))))) (bitsOf ((s.eng g.e).cr 30) 8 7)))) false)

/-- Chapter 9: loads, stores queued for the end of their bundle, post-modified pointers, and the address slot (R302 to R304). -/
def Obligations.MemoryAndAddressSlotResults : Prop :=
  (∀ s g, GeReady s g.e (if g.y then 2 else 1) g.last g.ecc → (g.am = 2 → g.ptr % 8 < 4) → (s.eng g.e).cr (g.ptr % 8) % 4 = 0 →
    Completes (.ldW g) s fun t => GeReg s t g.e g.reg ((s.eng g.e).load ((s.eng g.e).cr (g.ptr % 8)) 4 % 2 ^ 32) ∧
      (t.eng g.e).drain.cr (g.ptr % 8) =
        (if g.am % 4 = 0 then (s.eng g.e).drain.cr (g.ptr % 8) else postModify (s.eng g.e) (g.ptr % 8) (g.am % 4) % 2 ^ 18)) ∧
  (∀ s g, GeReady s g.e (if g.y then 2 else 1) g.last g.ecc → (g.am = 2 → g.ptr % 8 < 4) → (s.eng g.e).cr (g.ptr % 8) % 2 = 0 →
    Completes (.ldH g) s fun t => GeReg s t g.e g.reg ((s.eng g.e).load ((s.eng g.e).cr (g.ptr % 8)) 2 % 2 ^ 32) ∧
      (t.eng g.e).drain.cr (g.ptr % 8) =
        (if g.am % 4 = 0 then (s.eng g.e).drain.cr (g.ptr % 8) else postModify (s.eng g.e) (g.ptr % 8) (g.am % 4) % 2 ^ 18)) ∧
  (∀ s g, GeReady s g.e (if g.y then 2 else 1) g.last g.ecc → g.reg % 2 = 0 → (g.am = 2 → g.ptr % 8 < 4) →
      (s.eng g.e).cr (g.ptr % 8) % 8 = 0 →
    Completes (.ldD g) s fun t => (t.eng g.e).drain.dr g.reg = (s.eng g.e).load ((s.eng g.e).cr (g.ptr % 8)) 4 % 2 ^ 32 ∧
      (t.eng g.e).drain.dr (g.reg + 1) = (s.eng g.e).load ((s.eng g.e).cr (g.ptr % 8) + 4) 4 % 2 ^ 32 ∧
      (t.eng g.e).drain.cr (g.ptr % 8) =
        (if g.am % 4 = 0 then (s.eng g.e).drain.cr (g.ptr % 8) else postModify (s.eng g.e) (g.ptr % 8) (g.am % 4) % 2 ^ 18)) ∧
  (∀ s g, GeReady s g.e (if g.y then 2 else 1) g.last g.ecc → (g.am = 2 → g.ptr % 8 < 4) → (s.eng g.e).cr (g.ptr % 8) % 4 = 0 →
    Completes (.stW g) s fun t => (t.eng g.e).dmem = (s.eng g.e).dmem ∧ (t.eng g.e).bundle.stores = (s.eng g.e).bundle.stores ++
      [((if g.y then 2 else 1), (s.eng g.e).cr (g.ptr % 8), leBytes 4 ((s.eng g.e).dr g.reg))] ∧
      (t.eng g.e).drain.cr (g.ptr % 8) =
        (if g.am % 4 = 0 then (s.eng g.e).drain.cr (g.ptr % 8) else postModify (s.eng g.e) (g.ptr % 8) (g.am % 4) % 2 ^ 18)) ∧
  (∀ s g, GeReady s g.e (if g.y then 2 else 1) g.last g.ecc → g.reg % 2 = 0 → (g.am = 2 → g.ptr % 8 < 4) →
      (s.eng g.e).cr (g.ptr % 8) % 8 = 0 →
    Completes (.stD g) s fun t => (t.eng g.e).dmem = (s.eng g.e).dmem ∧ (t.eng g.e).bundle.stores = (s.eng g.e).bundle.stores ++
      [((if g.y then 2 else 1), (s.eng g.e).cr (g.ptr % 8), leBytes 4 ((s.eng g.e).dr g.reg) ++ leBytes 4 ((s.eng g.e).dr (g.reg + 1)))] ∧
      (t.eng g.e).drain.cr (g.ptr % 8) =
        (if g.am % 4 = 0 then (s.eng g.e).drain.cr (g.ptr % 8) else postModify (s.eng g.e) (g.ptr % 8) (g.am % 4) % 2 ^ 18)) ∧
  (∀ s g, GeReady s g.e 3 g.last g.ecc → Completes (.addi g) s fun t =>
      GeCtl s t g.e (g.t % 8) (((s.eng g.e).cr (g.t % 8) + imm5 g.v) % 2 ^ 18)) ∧
  (∀ s g, GeReady s g.e 3 g.last g.ecc → Completes (.addm g) s fun t =>
      GeCtl s t g.e (g.t % 8) (((s.eng g.e).cr (g.t % 8) + (s.eng g.e).cr (8 + g.v % 8)) % 2 ^ 18)) ∧
  (∀ s g, GeReady s g.e 3 g.last g.ecc → Completes (.movp g) s fun t => GeCtl s t g.e (g.t % 8) ((s.eng g.e).dr g.v % 2 ^ 18)) ∧
  (∀ s g, GeReady s g.e 3 g.last g.ecc → Completes (.movm g) s fun t => GeCtl s t g.e (8 + g.t % 8) ((s.eng g.e).dr g.v % 2 ^ 18)) ∧
  (∀ s g, GeReady s g.e 3 g.last g.ecc → g.t % 8 < 4 → Completes (.movb g) s fun t =>
      GeCtl s t g.e (16 + g.t % 4) ((s.eng g.e).dr g.v % 2 ^ 18)) ∧
  (∀ s g, GeReady s g.e 3 g.last g.ecc → g.t % 8 < 4 → Completes (.movl g) s fun t =>
      GeCtl s t g.e (20 + g.t % 4) ((s.eng g.e).dr g.v % 2 ^ 18)) ∧
  (∀ s g, GeReady s g.e 3 g.last g.ecc → Completes (.setm g) s fun t => GeCtl s t g.e (8 + g.t % 8) (imm5 g.v % 2 ^ 18)) ∧
  (∀ s g, GeIssues s g.e (if g.y then 2 else 1) g.last g.ecc ([(g.reg % 32, 2)] ++ (if g.am % 4 = 0 then [] else [(64 + g.ptr % 8, 1)])) (if g.am % 4 = 0 then [] else [g.ptr % 8]) → GeGoes s g.e → (g.am = 2 → g.ptr % 8 < 4) → (s.eng g.e).cr (g.ptr % 8) % 4 = 0 →
    Completes (.ldW g) s fun t => GeIssued s t g.e (bundleGoes (s.eng g.e)) ∧
      GeSent s t g.e 2 (g.reg % 32) (.num ((s.eng g.e).load ((s.eng g.e).cr (g.ptr % 8)) 4)) false ∧ (g.am % 4 ≠ 0 → (t.eng g.e).cr (g.ptr % 8) = postModify (s.eng g.e) (g.ptr % 8) (g.am % 4) % 2 ^ 18)) ∧
  (∀ s g, GeIssues s g.e (if g.y then 2 else 1) g.last g.ecc ([(g.reg % 32, 2)] ++ (if g.am % 4 = 0 then [] else [(64 + g.ptr % 8, 1)])) (if g.am % 4 = 0 then [] else [g.ptr % 8]) → GeGoes s g.e → (g.am = 2 → g.ptr % 8 < 4) → (s.eng g.e).cr (g.ptr % 8) % 2 = 0 →
    Completes (.ldH g) s fun t => GeIssued s t g.e (bundleGoes (s.eng g.e)) ∧
      GeSent s t g.e 2 (g.reg % 32) (.num ((s.eng g.e).load ((s.eng g.e).cr (g.ptr % 8)) 2)) false ∧ (g.am % 4 ≠ 0 → (t.eng g.e).cr (g.ptr % 8) = postModify (s.eng g.e) (g.ptr % 8) (g.am % 4) % 2 ^ 18)) ∧
  (∀ s g, GeIssues s g.e (if g.y then 2 else 1) g.last g.ecc ([(g.reg % 32, 2), ((g.reg + 1) % 32, 2)] ++ (if g.am % 4 = 0 then [] else [(64 + g.ptr % 8, 1)])) (if g.am % 4 = 0 then [] else [g.ptr % 8]) → GeGoes s g.e → g.reg % 2 = 0 → (g.am = 2 → g.ptr % 8 < 4) → (s.eng g.e).cr (g.ptr % 8) % 8 = 0 →
    Completes (.ldD g) s fun t => GeIssued s t g.e (bundleGoes (s.eng g.e)) ∧
      GeSent s t g.e 2 (g.reg % 32) (.num ((s.eng g.e).load ((s.eng g.e).cr (g.ptr % 8)) 4)) false ∧
      GeSent s t g.e 2 ((g.reg + 1) % 32) (.num ((s.eng g.e).load ((s.eng g.e).cr (g.ptr % 8) + 4) 4)) false ∧ (g.am % 4 ≠ 0 → (t.eng g.e).cr (g.ptr % 8) = postModify (s.eng g.e) (g.ptr % 8) (g.am % 4) % 2 ^ 18)) ∧
  (∀ s g, GeIssues s g.e (if g.y then 2 else 1) g.last g.ecc (if g.am % 4 = 0 then [] else [(64 + g.ptr % 8, 1)]) (if g.am % 4 = 0 then [] else [g.ptr % 8]) → GeGoes s g.e → (g.am = 2 → g.ptr % 8 < 4) → (s.eng g.e).cr (g.ptr % 8) % 4 = 0 → (s.eng g.e).bundle.stores = [] →
    Completes (.stW g) s fun t => GeIssued s t g.e (bundleGoes (s.eng g.e)) ∧
      (t.eng g.e).load ((s.eng g.e).cr (g.ptr % 8)) 4 = (s.eng g.e).dr g.reg % 2 ^ 32 ∧ (g.am % 4 ≠ 0 → (t.eng g.e).cr (g.ptr % 8) = postModify (s.eng g.e) (g.ptr % 8) (g.am % 4) % 2 ^ 18)) ∧
  (∀ s g, GeIssues s g.e (if g.y then 2 else 1) g.last g.ecc (if g.am % 4 = 0 then [] else [(64 + g.ptr % 8, 1)]) (if g.am % 4 = 0 then [] else [g.ptr % 8]) → GeGoes s g.e → g.reg % 2 = 0 → (g.am = 2 → g.ptr % 8 < 4) → (s.eng g.e).cr (g.ptr % 8) % 8 = 0 → (s.eng g.e).bundle.stores = [] →
    Completes (.stD g) s fun t => GeIssued s t g.e (bundleGoes (s.eng g.e)) ∧
      (t.eng g.e).load ((s.eng g.e).cr (g.ptr % 8)) 4 = (s.eng g.e).dr g.reg % 2 ^ 32 ∧ (t.eng g.e).load ((s.eng g.e).cr (g.ptr % 8) + 4) 4 = (s.eng g.e).dr (g.reg + 1) % 2 ^ 32 ∧ (g.am % 4 ≠ 0 → (t.eng g.e).cr (g.ptr % 8) = postModify (s.eng g.e) (g.ptr % 8) (g.am % 4) % 2 ^ 18)) ∧
  (∀ s g, GeIssues s g.e 3 g.last g.ecc [(64 + g.t % 8, 1)] [g.t % 8] → GeGoes s g.e →
    Completes (.addi g) s fun t => GeIssued s t g.e (bundleGoes (s.eng g.e)) ∧
      (t.eng g.e).cr (g.t % 8) = ((s.eng g.e).cr (g.t % 8) + imm5 g.v) % 2 ^ 18) ∧
  (∀ s g, GeIssues s g.e 3 g.last g.ecc [(64 + g.t % 8, 1)] [g.t % 8] → GeGoes s g.e →
    Completes (.addm g) s fun t => GeIssued s t g.e (bundleGoes (s.eng g.e)) ∧
      (t.eng g.e).cr (g.t % 8) = ((s.eng g.e).cr (g.t % 8) + (s.eng g.e).cr (8 + g.v % 8)) % 2 ^ 18) ∧
  (∀ s g, GeIssues s g.e 3 g.last g.ecc [(64 + g.t % 8, 1)] [g.t % 8] → GeGoes s g.e →
    Completes (.movp g) s fun t => GeIssued s t g.e (bundleGoes (s.eng g.e)) ∧
      (t.eng g.e).cr (g.t % 8) = (s.eng g.e).dr g.v % 2 ^ 18) ∧
  (∀ s g, GeIssues s g.e 3 g.last g.ecc [(64 + (8 + g.t % 8), 1)] [8 + g.t % 8] → GeGoes s g.e →
    Completes (.movm g) s fun t => GeIssued s t g.e (bundleGoes (s.eng g.e)) ∧
      (t.eng g.e).cr (8 + g.t % 8) = (s.eng g.e).dr g.v % 2 ^ 18) ∧
  (∀ s g, GeIssues s g.e 3 g.last g.ecc [(64 + (16 + g.t % 4), 1)] [16 + g.t % 4] → GeGoes s g.e → g.t % 8 < 4 →
    Completes (.movb g) s fun t => GeIssued s t g.e (bundleGoes (s.eng g.e)) ∧
      (t.eng g.e).cr (16 + g.t % 4) = (s.eng g.e).dr g.v % 2 ^ 18) ∧
  (∀ s g, GeIssues s g.e 3 g.last g.ecc [(64 + (20 + g.t % 4), 1)] [20 + g.t % 4] → GeGoes s g.e → g.t % 8 < 4 →
    Completes (.movl g) s fun t => GeIssued s t g.e (bundleGoes (s.eng g.e)) ∧
      (t.eng g.e).cr (20 + g.t % 4) = (s.eng g.e).dr g.v % 2 ^ 18) ∧
  (∀ s g, GeIssues s g.e 3 g.last g.ecc [(64 + (8 + g.t % 8), 1)] [8 + g.t % 8] → GeGoes s g.e →
    Completes (.setm g) s fun t => GeIssued s t g.e (bundleGoes (s.eng g.e)) ∧
      (t.eng g.e).cr (8 + g.t % 8) = imm5 g.v % 2 ^ 18)

/-- Chapter 9: jumps, calls, loops, interrupts enabled, transfers queued, the ends of a job and of a bundle (R304, R307, R316 to R324,
      R329, R330). -/
def Obligations.ControlSlotResults : Prop :=
  (∀ s g, GeReady s g.e 4 g.last g.ecc → Completes (.nopc g) s fun t => (t.eng g.e).bundle.target = (s.eng g.e).bundle.target) ∧
  (∀ s g, GeReady s g.e 4 g.last g.ecc → Completes (.jmp g) s fun t => (t.eng g.e).bundle.target = some (g.imm % 2 ^ 13)) ∧
  (∀ s g, GeReady s g.e 4 g.last g.ecc → Completes (.jz g) s fun t =>
      (t.eng g.e).bundle.target = if bitOf ((s.eng g.e).cr 30) 0 = true then some (g.imm % 2 ^ 13) else (s.eng g.e).bundle.target) ∧
  (∀ s g, GeReady s g.e 4 g.last g.ecc → Completes (.jnz g) s fun t =>
      (t.eng g.e).bundle.target = if bitOf ((s.eng g.e).cr 30) 0 = false then some (g.imm % 2 ^ 13) else (s.eng g.e).bundle.target) ∧
  (∀ s g, GeReady s g.e 4 g.last g.ecc → Completes (.jn g) s fun t =>
      (t.eng g.e).bundle.target = if bitOf ((s.eng g.e).cr 30) 1 = true then some (g.imm % 2 ^ 13) else (s.eng g.e).bundle.target) ∧
  (∀ s g, GeReady s g.e 4 g.last g.ecc → Completes (.jnn g) s fun t =>
      (t.eng g.e).bundle.target = if bitOf ((s.eng g.e).cr 30) 1 = false then some (g.imm % 2 ^ 13) else (s.eng g.e).bundle.target) ∧
  (∀ s g, GeReady s g.e 4 g.last g.ecc → (s.eng g.e).rstack.length < 4 → Completes (.call g) s fun t =>
      (t.eng g.e).bundle.target = some (g.imm % 2 ^ 13) ∧
    (t.eng g.e).rstack = ((s.eng g.e).pc + 1) % 2 ^ 13 :: (s.eng g.e).rstack) ∧
  (∀ s g a rest, GeReady s g.e 4 g.last g.ecc → (s.eng g.e).rstack = a :: rest → Completes (.ret g) s fun t =>
    (t.eng g.e).bundle.target = some a ∧ (t.eng g.e).rstack = rest) ∧
  (∀ s g le, GeReady s g.e 4 g.last g.ecc → le = (s.eng g.e).pc + 1 + bitsOf g.imm 28 16 → le < (s.eng g.e).codeSize →
    ((s.eng g.e).cr 25 = 0 ∨ (s.eng g.e).cr 29 ≠ le) → Completes (.loop0 g) s fun t =>
      (t.eng g.e).drain.cr 24 = g.imm % 2 ^ 16 ∧ (t.eng g.e).drain.cr 26 = ((s.eng g.e).pc + 1) % 2 ^ 13 ∧ (t.eng g.e).drain.cr 28 = le % 2 ^ 13) ∧
  (∀ s g le, GeReady s g.e 4 g.last g.ecc → le = (s.eng g.e).pc + 1 + bitsOf g.imm 28 16 → le < (s.eng g.e).codeSize →
    ((s.eng g.e).cr 24 = 0 ∨ (s.eng g.e).cr 28 ≠ le) → Completes (.loop1 g) s fun t =>
      (t.eng g.e).drain.cr 25 = g.imm % 2 ^ 16 ∧ (t.eng g.e).drain.cr 27 = ((s.eng g.e).pc + 1) % 2 ^ 13 ∧ (t.eng g.e).drain.cr 29 = le % 2 ^ 13) ∧
  (∀ s g le, GeReady s g.e 4 g.last g.ecc → le = (s.eng g.e).pc + 1 + bitsOf g.imm 28 16 → le < (s.eng g.e).codeSize →
    ((s.eng g.e).cr 25 = 0 ∨ (s.eng g.e).cr 29 ≠ le) → Completes (.loopr0 g) s fun t =>
      (t.eng g.e).drain.cr 24 = (s.eng g.e).dr g.imm % 2 ^ 16 ∧ (t.eng g.e).drain.cr 26 = ((s.eng g.e).pc + 1) % 2 ^ 13 ∧
      (t.eng g.e).drain.cr 28 = le % 2 ^ 13) ∧
  (∀ s g le, GeReady s g.e 4 g.last g.ecc → le = (s.eng g.e).pc + 1 + bitsOf g.imm 28 16 → le < (s.eng g.e).codeSize →
    ((s.eng g.e).cr 24 = 0 ∨ (s.eng g.e).cr 28 ≠ le) → Completes (.loopr1 g) s fun t =>
      (t.eng g.e).drain.cr 25 = (s.eng g.e).dr g.imm % 2 ^ 16 ∧ (t.eng g.e).drain.cr 27 = ((s.eng g.e).pc + 1) % 2 ^ 13 ∧
      (t.eng g.e).drain.cr 29 = le % 2 ^ 13) ∧
  (∀ s g, GeReady s g.e 4 g.last g.ecc → Completes (.ei g) s fun t =>
      GeCtl s t g.e 30 (crKeeps 30 (setBits ((s.eng g.e).drain.cr 30) 2 2 1))) ∧
  (∀ s g, GeReady s g.e 4 g.last g.ecc → Completes (.di g) s fun t =>
      GeCtl s t g.e 30 (crKeeps 30 (setBits ((s.eng g.e).drain.cr 30) 2 2 0))) ∧
  (∀ s g, GeReady s g.e 4 g.last g.ecc → Completes (.reti g) s fun t => (t.eng g.e).bundle.target = some (s.eng g.e).ira ∧
      (t.eng g.e).inPreempt = false ∧
    bitOf ((t.eng g.e).drain.cr 30) 2 = true) ∧
  (∀ s g q d, GeReady s g.e 4 g.last g.ecc → q = bitsOf g.imm 21 20 → (spGet [] (s.eng g.e).xq q).length < 4 →
    xferAt (s.eng g.e) (g.imm % 2 ^ 18) = some d → Completes (.xfer g) s fun t =>
      spGet [] (t.eng g.e).xq q = spGet [] (s.eng g.e).xq q ++ [d]) ∧
  (∀ s g q, q = bitsOf g.imm 21 20 → 4 ≤ (spGet [] (s.eng g.e).xq q).length → (s.eng g.e).st = .running → Completes (.xfer g) s fun t =>
    t.eng g.e = { s.eng g.e with bundle := { (s.eng g.e).bundle with waiting := true } }) ∧
  (∀ s g, (List.range 4).any (fun q => bitOf g.imm q && decide (spGet [] (s.eng g.e).xq q ≠ [])) = true → (s.eng g.e).st = .running →
    Completes (.xwait g) s fun t => t.eng g.e = { s.eng g.e with bundle := { (s.eng g.e).bundle with waiting := true } }) ∧
  (∀ s g, GeReady s g.e 4 g.last g.ecc → (List.range 4).any (fun q => bitOf g.imm q && decide (spGet [] (s.eng g.e).xq q ≠ [])) = false →
    Completes (.xwait g) s fun t => (t.eng g.e).bundle.slots = (s.eng g.e).bundle.slots ++ [4]) ∧
  (∀ s g j, g.e < 18 → (s.eng g.e).st = .running → slotClash (s.eng g.e).bundle.slots 4 = false → g.ecc ≠ 2 → (s.eng g.e).job = some j →
    dupWrites (s.eng g.e).bundle = false → loopNext (s.eng g.e) = [] → j.src = .firmware →
    (s.eng g.e).cpl.length < 16 → Completes (.done g) s fun t =>
      (t.eng g.e).job = none ∧ (t.eng g.e).st = .idle ∧ (t.eng g.e).flight = [] ∧ (t.eng g.e).cpl.length = (s.eng g.e).cpl.length + 1) ∧
  (∀ s g j, g.e < 18 → (s.eng g.e).st = .running → slotClash (s.eng g.e).bundle.slots 4 = false → g.ecc ≠ 2 → (s.eng g.e).job = some j →
    dupWrites (s.eng g.e).bundle = false → loopNext (s.eng g.e) = [] → (s.eng g.e).bundle.fin = none → j.cls ≠ 0 →
    (s.eng g.e).inPreempt = true → g.imm % 2 ^ 13 < (s.eng g.e).codeSize → Completes (.yield g) s fun t =>
      (t.eng g.e).job = none ∧ (t.eng g.e).st = .idle ∧ ∃ y, (t.eng g.e).yielded = some y ∧ y.1.slot = j.slot ∧ y.2 = g.imm % 2 ^ 13) ∧
  (∀ s g j, g.e < 18 → (s.eng g.e).st = .running → slotClash (s.eng g.e).bundle.slots 0 = false → g.last = true → g.ecc ≠ 2 →
    (s.eng g.e).job = some j → dupWrites (s.eng g.e).bundle = false → loopNext (s.eng g.e) = [] → (s.eng g.e).bundle.fin = none →
    (s.eng g.e).bundle.yieldTo = none → (s.eng g.e).bundle.target = none → (s.eng g.e).bundle.skip = none →
    Completes (.nop g) s fun t =>
      (t.eng g.e).issue = (s.eng g.e).issue + 1 ∧ (t.eng g.e).pc = ((s.eng g.e).pc + 1) % 2 ^ 13 ∧ (t.eng g.e).bundle = Bundle.empty ∧
      (t.eng g.e).dmem = (((s.eng g.e).bundle.stores.filter (fun x => x.1 = 1) ++
      (s.eng g.e).bundle.stores.filter (fun x => x.1 = 2)).foldl
        (fun x w => x.store w.2.1 w.2.2) (s.eng g.e)).dmem) ∧
  (∀ s g, GeIssues s g.e 4 g.last g.ecc [] [] → GeGoes s g.e →
    Completes (.nopc g) s fun t => GeIssued s t g.e (bundleGoes (s.eng g.e))) ∧
  (∀ s g, GeIssues s g.e 4 g.last g.ecc [] [] → g.imm % 2 ^ 13 < (s.eng g.e).codeSize →
    Completes (.jmp g) s fun t => GeIssued s t g.e (g.imm % 2 ^ 13)) ∧
  (∀ s g, GeIssues s g.e 4 g.last g.ecc [] [] → bitOf ((s.eng g.e).cr 30) 0 = true → g.imm % 2 ^ 13 < (s.eng g.e).codeSize →
    Completes (.jz g) s fun t => GeIssued s t g.e (g.imm % 2 ^ 13)) ∧
  (∀ s g, GeIssues s g.e 4 g.last g.ecc [] [] → GeGoes s g.e → bitOf ((s.eng g.e).cr 30) 0 = false →
    Completes (.jz g) s fun t => GeIssued s t g.e (bundleGoes (s.eng g.e))) ∧
  (∀ s g, GeIssues s g.e 4 g.last g.ecc [] [] → bitOf ((s.eng g.e).cr 30) 0 = false → g.imm % 2 ^ 13 < (s.eng g.e).codeSize →
    Completes (.jnz g) s fun t => GeIssued s t g.e (g.imm % 2 ^ 13)) ∧
  (∀ s g, GeIssues s g.e 4 g.last g.ecc [] [] → GeGoes s g.e → bitOf ((s.eng g.e).cr 30) 0 = true →
    Completes (.jnz g) s fun t => GeIssued s t g.e (bundleGoes (s.eng g.e))) ∧
  (∀ s g, GeIssues s g.e 4 g.last g.ecc [] [] → bitOf ((s.eng g.e).cr 30) 1 = true → g.imm % 2 ^ 13 < (s.eng g.e).codeSize →
    Completes (.jn g) s fun t => GeIssued s t g.e (g.imm % 2 ^ 13)) ∧
  (∀ s g, GeIssues s g.e 4 g.last g.ecc [] [] → GeGoes s g.e → bitOf ((s.eng g.e).cr 30) 1 = false →
    Completes (.jn g) s fun t => GeIssued s t g.e (bundleGoes (s.eng g.e))) ∧
  (∀ s g, GeIssues s g.e 4 g.last g.ecc [] [] → bitOf ((s.eng g.e).cr 30) 1 = false → g.imm % 2 ^ 13 < (s.eng g.e).codeSize →
    Completes (.jnn g) s fun t => GeIssued s t g.e (g.imm % 2 ^ 13)) ∧
  (∀ s g, GeIssues s g.e 4 g.last g.ecc [] [] → GeGoes s g.e → bitOf ((s.eng g.e).cr 30) 1 = true →
    Completes (.jnn g) s fun t => GeIssued s t g.e (bundleGoes (s.eng g.e))) ∧
  (∀ s g, GeIssues s g.e 4 g.last g.ecc [] [] → (s.eng g.e).rstack.length < 4 → g.imm % 2 ^ 13 < (s.eng g.e).codeSize →
    Completes (.call g) s fun t => GeIssued s t g.e (g.imm % 2 ^ 13) ∧
      (t.eng g.e).rstack = ((s.eng g.e).pc + 1) % 2 ^ 13 :: (s.eng g.e).rstack) ∧
  (∀ s g a rest, GeIssues s g.e 4 g.last g.ecc [] [] → (s.eng g.e).rstack = a :: rest → a < (s.eng g.e).codeSize →
    Completes (.ret g) s fun t => GeIssued s t g.e a ∧
      (t.eng g.e).rstack = rest) ∧
  (∀ s g le, GeIssues s g.e 4 g.last g.ecc [(90, 1), (92, 1), (88, 1)] [] → GeGoes s g.e → le = (s.eng g.e).pc + 1 + bitsOf g.imm 28 16 → le < (s.eng g.e).codeSize → g.imm % 2 ^ 16 ≠ 0 → ((s.eng g.e).cr 25 = 0 ∨ (s.eng g.e).cr 29 ≠ le) →
    Completes (.loop0 g) s fun t => GeIssued s t g.e (bundleGoes (s.eng g.e)) ∧
      (t.eng g.e).cr 24 = g.imm % 2 ^ 16 ∧ (t.eng g.e).cr 26 = ((s.eng g.e).pc + 1) % 2 ^ 13 ∧ (t.eng g.e).cr 28 = le % 2 ^ 13) ∧
  (∀ s g le, GeIssues s g.e 4 g.last g.ecc [(90, 1), (92, 1), (88, 1)] [] → le = (s.eng g.e).pc + 1 + bitsOf g.imm 28 16 → le < (s.eng g.e).codeSize → g.imm % 2 ^ 16 = 0 → (s.eng g.e).bundle.target = none →
    Completes (.loop0 g) s fun t => GeIssued s t g.e (le + 1) ∧
      (t.eng g.e).cr 24 = g.imm % 2 ^ 16 ∧ (t.eng g.e).cr 26 = ((s.eng g.e).pc + 1) % 2 ^ 13 ∧ (t.eng g.e).cr 28 = le % 2 ^ 13) ∧
  (∀ s g le, GeIssues s g.e 4 g.last g.ecc [(91, 1), (93, 1), (89, 1)] [] → GeGoes s g.e → le = (s.eng g.e).pc + 1 + bitsOf g.imm 28 16 → le < (s.eng g.e).codeSize → g.imm % 2 ^ 16 ≠ 0 → ((s.eng g.e).cr 24 = 0 ∨ (s.eng g.e).cr 28 ≠ le) →
    Completes (.loop1 g) s fun t => GeIssued s t g.e (bundleGoes (s.eng g.e)) ∧
      (t.eng g.e).cr 25 = g.imm % 2 ^ 16 ∧ (t.eng g.e).cr 27 = ((s.eng g.e).pc + 1) % 2 ^ 13 ∧ (t.eng g.e).cr 29 = le % 2 ^ 13) ∧
  (∀ s g le, GeIssues s g.e 4 g.last g.ecc [(91, 1), (93, 1), (89, 1)] [] → le = (s.eng g.e).pc + 1 + bitsOf g.imm 28 16 → le < (s.eng g.e).codeSize → g.imm % 2 ^ 16 = 0 → (s.eng g.e).bundle.target = none →
    Completes (.loop1 g) s fun t => GeIssued s t g.e (le + 1) ∧
      (t.eng g.e).cr 25 = g.imm % 2 ^ 16 ∧ (t.eng g.e).cr 27 = ((s.eng g.e).pc + 1) % 2 ^ 13 ∧ (t.eng g.e).cr 29 = le % 2 ^ 13) ∧
  (∀ s g le, GeIssues s g.e 4 g.last g.ecc [(90, 1), (92, 1), (88, 1)] [] → GeGoes s g.e → le = (s.eng g.e).pc + 1 + bitsOf g.imm 28 16 → le < (s.eng g.e).codeSize → (s.eng g.e).dr g.imm % 2 ^ 16 ≠ 0 → ((s.eng g.e).cr 25 = 0 ∨ (s.eng g.e).cr 29 ≠ le) →
    Completes (.loopr0 g) s fun t => GeIssued s t g.e (bundleGoes (s.eng g.e)) ∧
      (t.eng g.e).cr 24 = (s.eng g.e).dr g.imm % 2 ^ 16 ∧ (t.eng g.e).cr 26 = ((s.eng g.e).pc + 1) % 2 ^ 13 ∧ (t.eng g.e).cr 28 = le % 2 ^ 13) ∧
  (∀ s g le, GeIssues s g.e 4 g.last g.ecc [(90, 1), (92, 1), (88, 1)] [] → le = (s.eng g.e).pc + 1 + bitsOf g.imm 28 16 → le < (s.eng g.e).codeSize → (s.eng g.e).dr g.imm % 2 ^ 16 = 0 → (s.eng g.e).bundle.target = none →
    Completes (.loopr0 g) s fun t => GeIssued s t g.e (le + 1) ∧
      (t.eng g.e).cr 24 = (s.eng g.e).dr g.imm % 2 ^ 16 ∧ (t.eng g.e).cr 26 = ((s.eng g.e).pc + 1) % 2 ^ 13 ∧ (t.eng g.e).cr 28 = le % 2 ^ 13) ∧
  (∀ s g le, GeIssues s g.e 4 g.last g.ecc [(91, 1), (93, 1), (89, 1)] [] → GeGoes s g.e → le = (s.eng g.e).pc + 1 + bitsOf g.imm 28 16 → le < (s.eng g.e).codeSize → (s.eng g.e).dr g.imm % 2 ^ 16 ≠ 0 → ((s.eng g.e).cr 24 = 0 ∨ (s.eng g.e).cr 28 ≠ le) →
    Completes (.loopr1 g) s fun t => GeIssued s t g.e (bundleGoes (s.eng g.e)) ∧
      (t.eng g.e).cr 25 = (s.eng g.e).dr g.imm % 2 ^ 16 ∧ (t.eng g.e).cr 27 = ((s.eng g.e).pc + 1) % 2 ^ 13 ∧ (t.eng g.e).cr 29 = le % 2 ^ 13) ∧
  (∀ s g le, GeIssues s g.e 4 g.last g.ecc [(91, 1), (93, 1), (89, 1)] [] → le = (s.eng g.e).pc + 1 + bitsOf g.imm 28 16 → le < (s.eng g.e).codeSize → (s.eng g.e).dr g.imm % 2 ^ 16 = 0 → (s.eng g.e).bundle.target = none →
    Completes (.loopr1 g) s fun t => GeIssued s t g.e (le + 1) ∧
      (t.eng g.e).cr 25 = (s.eng g.e).dr g.imm % 2 ^ 16 ∧ (t.eng g.e).cr 27 = ((s.eng g.e).pc + 1) % 2 ^ 13 ∧ (t.eng g.e).cr 29 = le % 2 ^ 13) ∧
  (∀ s g, GeIssues s g.e 4 g.last g.ecc [] [] → GeGoes s g.e →
    Completes (.ei g) s fun t => GeIssued s t g.e (bundleGoes (s.eng g.e)) ∧
      bitOf ((t.eng g.e).cr 30) 2 = true) ∧
  (∀ s g, GeIssues s g.e 4 g.last g.ecc [] [] → GeGoes s g.e →
    Completes (.di g) s fun t => GeIssued s t g.e (bundleGoes (s.eng g.e)) ∧
      bitOf ((t.eng g.e).cr 30) 2 = false) ∧
  (∀ s g, GeIssues s g.e 4 g.last g.ecc [] [] → (s.eng g.e).ira < (s.eng g.e).codeSize →
    Completes (.reti g) s fun t => GeIssued s t g.e (s.eng g.e).ira ∧
      (t.eng g.e).inPreempt = false ∧ bitOf ((t.eng g.e).cr 30) 2 = true) ∧
  (∀ s g q d, GeIssues s g.e 4 g.last g.ecc [] [] → GeGoes s g.e → q = bitsOf g.imm 21 20 → (spGet [] (s.eng g.e).xq q).length < 4 →
    xferAt (s.eng g.e) (g.imm % 2 ^ 18) = some d →
    Completes (.xfer g) s fun t => GeIssued s t g.e (bundleGoes (s.eng g.e)) ∧
      spGet [] (t.eng g.e).xq q = spGet [] (s.eng g.e).xq q ++ [d]) ∧
  (∀ s g, GeIssues s g.e 4 g.last g.ecc [] [] → GeGoes s g.e → (List.range 4).any (fun q => bitOf g.imm q && decide (spGet [] (s.eng g.e).xq q ≠ [])) = false →
    Completes (.xwait g) s fun t => GeIssued s t g.e (bundleGoes (s.eng g.e)))

/-- Chapter 9: forms that break R301, misaligned addresses, the return stack and an uncorrectable error end the job with a fault. -/
def Obligations.KernelFaultsEndTheJob : Prop :=
  (∀ s g j, GeReady s g.e 0 g.last g.ecc → (s.eng g.e).job = some j → g.sa % 4 ≠ 0 → Completes (.cmac4 g) s fun t =>
    (t.eng g.e).job = none ∧ Fires t 96) ∧
  (∀ s g j, GeReady s g.e 0 g.last g.ecc → (s.eng g.e).job = some j → g.sb % 4 ≠ 0 → Completes (.cmacb g) s fun t =>
    (t.eng g.e).job = none ∧ Fires t 96) ∧
  (∀ s g j, GeReady s g.e 0 g.last g.ecc → (s.eng g.e).job = some j → g.sb % 4 ≠ 0 → Completes (.cdot g) s fun t =>
    (t.eng g.e).job = none ∧ Fires t 96) ∧
  (∀ s g j, GeReady s g.e 0 g.last g.ecc → (s.eng g.e).job = some j → g.dst % 2 = 1 → Completes (.bfly g) s fun t =>
    (t.eng g.e).job = none ∧ Fires t 96) ∧
  (∀ s g j, GeReady s g.e (if g.y then 2 else 1) g.last g.ecc → (s.eng g.e).job = some j → g.reg % 2 = 1 → Completes (.ldD g) s fun t =>
    (t.eng g.e).job = none ∧ Fires t 96) ∧
  (∀ s g j, GeReady s g.e (if g.y then 2 else 1) g.last g.ecc → (s.eng g.e).job = some j → g.reg % 2 = 1 → Completes (.stD g) s fun t =>
    (t.eng g.e).job = none ∧ Fires t 96) ∧
  (∀ s g j, GeReady s g.e (if g.y then 2 else 1) g.last g.ecc → (s.eng g.e).job = some j → (s.eng g.e).cr (g.ptr % 8) % 4 ≠ 0 →
      Completes (.ldW g) s fun t =>
    (t.eng g.e).job = none ∧ Fires t 96) ∧
  (∀ s g j, GeReady s g.e (if g.y then 2 else 1) g.last g.ecc → (s.eng g.e).job = some j → (s.eng g.e).cr (g.ptr % 8) % 4 ≠ 0 →
      Completes (.stW g) s fun t =>
    (t.eng g.e).job = none ∧ Fires t 96) ∧
  (∀ s g j, GeReady s g.e (if g.y then 2 else 1) g.last g.ecc → (s.eng g.e).job = some j → (s.eng g.e).cr (g.ptr % 8) % 2 ≠ 0 →
      Completes (.ldH g) s fun t =>
    (t.eng g.e).job = none ∧ Fires t 96) ∧
  (∀ s g j, GeReady s g.e 3 g.last g.ecc → (s.eng g.e).job = some j → 4 ≤ g.t % 8 → Completes (.movb g) s fun t =>
    (t.eng g.e).job = none ∧ Fires t 96) ∧
  (∀ s g j, GeReady s g.e 3 g.last g.ecc → (s.eng g.e).job = some j → 4 ≤ g.t % 8 → Completes (.movl g) s fun t =>
    (t.eng g.e).job = none ∧ Fires t 96) ∧
  (∀ s g j, GeReady s g.e 4 g.last g.ecc → (s.eng g.e).job = some j → 4 ≤ (s.eng g.e).rstack.length → Completes (.call g) s fun t =>
    (t.eng g.e).job = none ∧ Fires t 96) ∧
  (∀ s g j, GeReady s g.e 4 g.last g.ecc → (s.eng g.e).job = some j → (s.eng g.e).rstack = [] → Completes (.ret g) s fun t =>
    (t.eng g.e).job = none ∧ Fires t 96) ∧
  (∀ s g j, g.e < 18 → (s.eng g.e).st = .running → slotClash (s.eng g.e).bundle.slots 0 = false → g.ecc = 2 → (s.eng g.e).job = some j →
    Completes (.add g) s fun t => (t.eng g.e).job = none ∧ Fires t 96)

/-- Chapter 9: transfers, interrupts, posts, releases, job starts and ends, completion records and the roll of kernels. -/
def Obligations.EngineJobCommandsComplete : Prop :=
  (∀ s e q d rest, e < 18 → q < 4 → spGet [] (s.eng e).xq q = d :: rest → d.out = false →
    (fabRead s (.engine e) 4 d.faddr d.len).1 = 0 →
    Completes (.transferComplete e q) s fun t => spGet [] (t.eng e).xq q = rest) ∧
  (∀ s e j k, e < 18 → (s.eng e).st = .running → (s.eng e).bundle.slots = [] → bitOf ((s.eng e).cr 30) 2 = true →
    (List.range 2).any (fun n => decide ((s.eng e).cr (24 + n) ≠ 0) && decide ((s.eng e).cr (28 + n) = (s.eng e).pc)) = false →
    bitOf (s.eng e).irq 0 = true → bitOf ((s.eng e).cr 30) 9 = true → (s.eng e).job = some j → (s.eng e).kernel j.slot = some k →
    k.hPreempt < k.code → Completes (.interruptAccept e) s fun t =>
      (t.eng e).ira = (s.eng e).pc ∧ (t.eng e).pc = k.hPreempt % 2 ^ 13 ∧ (t.eng e).inPreempt = true ∧ bitOf (t.eng e).irq 0 = false ∧
      bitOf ((t.eng e).cr 30) 2 = false ∧ (t.eng e).flight = []) ∧
  (∀ s tag e value, e < 18 → s.tagDeviceOrD2 tag = true → bitOf value 0 = true → s.regOff .geDoorbell [e] = false →
    Completes (.geDoorbell tag e value) s fun t => bitOf (t.eng e).irq 2 = true) ∧
  (∀ s tag e value k, e < 18 → s.tagDeviceOrD2 tag = true → s.regOff .gePost [e] = false →
    (s.eng e).queue.length + (if slotHeld s e .firmware = true then 1 else 0) < 16 →
    ((s.eng e).st = .idle ∨ (s.eng e).st = .running) → (s.eng e).kernel (bitsOf value 3 0) = some k → bitsOf value 6 4 < 5 →
    (bitsOf value 6 4 = 0 ∨ s.pwr.depth = 0) → bitOf k.classes (bitsOf value 6 4) = true →
    Completes (.gePost tag e value) s fun t =>
      (t.eng e).queue = (s.eng e).queue ++
        [⟨bitsOf value 3 0, bitsOf value 6 4, bitsOf value 23 8, bitsOf value 63 32, bitsOf value 127 64, .firmware, 0, s.clk.elapsed⟩] ∧
      (t.eng e).lastRefused = false) ∧
  (∀ s tag e value, e < 18 → s.tagDeviceOrD2 tag = true → s.regOff .gePost [e] = false →
    16 ≤ (s.eng e).queue.length + (if slotHeld s e .firmware = true then 1 else 0) →
    Completes (.gePost tag e value) s fun t => (t.eng e).queue = (s.eng e).queue ∧ (t.eng e).lastRefused = true ∧ Fires t 98) ∧
  (∀ s e r rel, e < 18 → r < 8 → (s.eng e).rels[r]? = some rel → rel.period ≠ 0 → s.ctl.fwRuns = true → s.engInService e = true →
    Completes (.releaseEntryFire e r) s fun t =>
      ∃ j ∈ (t.eng e).ready, j.slot = rel.slot ∧ j.cls = 0 ∧ j.arg = rel.arg ∧ j.deadline = t.now + rel.period) ∧
  (∀ s e r, s.ctl.fwRuns = false → Completes (.releaseEntryFire e r) s fun t => t.ge = s.ge) ∧
  (∀ s e j, e < 18 → (s.eng e).st = .idle → s.rollHolds e = false → edf ((s.eng e).ready ++ (s.eng e).queue.filter (fun j => j.cls = 0)) = some j →
    Completes (.jobStart e) s fun t =>
      (t.eng e).st = .running ∧ (t.eng e).job = some j ∧ (t.eng e).dr 0 = j.arg % 2 ^ 32 ∧ (t.eng e).dr 1 = j.id % 2 ^ 32 ∧
      (t.eng e).acc = [] ∧ (t.eng e).rstack = []) ∧
  (∀ s e c j, e < 18 → (s.eng e).preemptAt = some c → (s.eng e).job = some j →
    Completes (.preemptLate e) s fun t => (t.eng e).job = none ∧ (t.eng e).preemptAt = none ∧ Fires t 96) ∧
  (∀ s e j k, e < 18 → (s.eng e).job = some j → (s.eng e).kernel j.slot = some k →
    Completes (.jobOverrun e) s fun t => (t.eng e).job = none ∧ Fires t 96) ∧
  (∀ s e w rest, e < 18 → s.regOff .geCpl [e] = false → (s.eng e).cpl = w :: rest →
    Completes (.geCplRead e) s fun t => (t.eng e).cpl = rest ∧ t.out = s.out ++ [.bus 0 (beBytes 16 w)]) ∧
  (∀ s e, e < 18 → s.regOff .geCpl [e] = false → (s.eng e).cpl = [] → Completes (.geCplRead e) s fun t => t.out = s.out ++ [.bus 0 (beBytes 16 0)]) ∧
  (∀ s r e rest, s.ge.roll = some r → r.todo = e :: rest → e ∉ rest → rest ≠ [] → (s.eng e).st = .idle →
    Completes (.engineRollMove e) s fun t => t.ge.roll = some { r with todo := rest } ∧ (t.eng e).queue = (s.eng e).queue) ∧
  (∀ s r e, s.ge.roll = some r → r.todo = [e] → (s.eng e).st = .idle →
    Completes (.engineRollMove e) s fun t => t.ge.roll = none ∧ (t.eng e).queue = (s.eng e).queue ∧ Fires t 101)

/-- Chapter 10: base notes, the trace, top-note windows, the heart note, ramps and staleness. -/
def Obligations.CalibrationCommandsComplete : Prop :=
  (∀ s n e, EventFires s n 11 e → e.target < 64 → (s.island (e.target / 8)).off = false → s.calRunning e.target = false →
    Completes (.calWindow n) s fun t => (t.top e.target).due = some (t.now + 1, e.arg % 256)) ∧
  (∀ s, Completes .baseReevaluation s fun t =>
    t.hk.tn = 0 ∧ ∀ p < 64, spGet 0 t.cal.tp p = if s.hk.tn = 0 then spGet 0 s.cal.tp p else spGet 0 s.hk.tsum p / (s.hk.tn : Int)) ∧
  (∀ s edges steer txo, s.ptpLocked = true →
    Completes (.traceGate edges steer txo) s fun t =>
      t.cal.gates = ((-steer - ((edges : Int) - gateEdges) * 1000000000 / gateEdges) :: s.cal.gates).take 16 ∧
      t.cal.oLast = meanI t.cal.gates ∧ t.cal.tLast = txo) ∧
  (∀ s edges steer txo, s.ptpLocked = false → s.cal.written.length < 2 →
    Completes (.traceGate edges steer txo) s fun t => t.cal.hold = s.cal.oLast ∧ t.cal.table = s.cal.table) ∧
  (∀ s p meas d item, p < 64 → (s.top p).due = some (d, item) → guardNow s = none →
    Completes (.topNoteWindow p meas) s fun t => t.top p = { s.top p with due := none } ∧ rbit t .calStat [p / 8, p % 8] 14 = true) ∧
  (∀ s p meas d gs ge w, p < 64 → (s.top p).due = some (d, 1) → guardNow s = some (gs, ge) →
    w = max (d - 1) (max (gs + 80) (s.now - (s.clk.elapsed - s.rx.goodFrom))) → s.rxLocked p = true → w + 738 ≤ ge - 80 →
    (∀ r ∈ s.cal.fg, r.path ≠ p) →
    Completes (.topNoteWindow p meas) s fun t =>
      (t.top p).due = none ∧ (t.top p).count = (s.top p).count + 1 ∧ t.clk.count = max s.clk.count (w + 738)) ∧
  (∀ s tag value, s.tagDeviceOrD2 tag = true → bitOf value 0 = true → s.regOff .calHrx [] = false →
    Completes (.calHrxArm tag value) s fun t => rf t .calHrxStat [] 1 0 = 1 ∧ rf t .calHrx [] 6 1 = bitsOf value 6 1) ∧
  (∀ s τ, rf s .calHrxStat [] 1 0 = 1 → s.ctl.fwRuns = true → s.tlRuns = true → (s.syn s.lo.rxServe).st = .locked →
      injectionStart s = some τ → s.askedAgain .calHrx [] 0 = false →
    Completes .heartInjection s fun t =>
      rf t .calHrxStat [] 1 0 = 3 ∧ rd t .calHrxTick [] = τ % 2 ^ 64 ∧ t.clk.count = max s.clk.count τ + 356) ∧
  (∀ s, rf s .calHrxStat [] 1 0 = 1 → s.ctl.fwRuns = true → s.tlRuns = true → (s.syn s.lo.rxServe).st = .locked →
      injectionStart s = none →
    (∀ x ∈ s.pattern, x.dir ≠ 2) → Completes .heartInjection s fun t =>
      t.onum (0x7100 + (if rbit s .calHrx [] 1 = true then 0x15 else 0x10)) 4 = 2) ∧
  (∀ s, s.ctl.fwRuns = true → rbit s .calCtrl [] 6 = true → s.cal.snaps.length < 16 →
    Completes .heartSnapshot s fun t => t.cal.snaps.length = s.cal.snaps.length + 1) ∧
  (∀ s results, s.ctl.fwRuns = true → s.cal.snaps.length = 16 → 4 ≤ s.cal.snaps.dedup.length →
    Completes (.heartRunComplete 0x11 true results) s fun t => t.cal.item = s.cal.item ∧ t.cal.snaps = [] ∧ Fires t 104) ∧
  (∀ s item r, s.ctl.fwRuns = true → item ∈ [0x10, 0x12, 0x13, 0x15] → (item = 0x12 → 16 ≤ (s.top r.path).count) → r.path < 64 →
    s.calRunning r.path = false → s.onum 0x7000 1 ≠ 1 →
    Completes (.heartRunComplete item false [r]) s fun t =>
      (t.calItem r.path item).h = calSub r.v (baseNote s r.path item) ∧ (t.calItem r.path item).p = calZero ∧
      (t.calItem r.path item).last = s.clk.elapsed + 1) ∧
  (∀ s, Completes .calRampStep s fun t => ∀ p < 64, ∀ i ∈ calItems,
    (t.calItem p i).k = if (s.calItem p i).k < (s.calItem p i).n then (s.calItem p i).k + 1 else (s.calItem p i).k) ∧
  (∀ s p item, p < 64 → item ∈ calItems → 0 < (s.calItem p item).last →
    Completes (.calItemStale p item) s fun t =>
      bitOf (spGet 0 t.cal.stale p) (staleBit item) = true ∧
      t.clk.elapsed = max s.clk.elapsed ((s.calItem p item).last + s.onum (0x7100 + item) 2 * msTicks)) ∧
  (∀ s j, j ∈ s.cal.dirty → Completes (.baseNoteSave j) s fun t =>
    j ∉ t.cal.dirty ∧ spGet 0 t.cal.saved j = t.clk.elapsed + 1 ∧
    (spGet 0 s.cal.saved j ≠ 0 → spGet 0 s.cal.saved j - 1 + 3600 * secTicks ≤ t.clk.elapsed))

/-- Chapter 10: foreground requests: taken, timed out, run in a service window, and ended. -/
def Obligations.ForegroundCommandsComplete : Prop :=
  (∀ s p item, p < 64 → 0x30 ≤ item → item ≤ 0x32 → (∀ r ∈ s.cal.fg, r.path ≠ p) → s.cal.fg.length < 8 → s.pathState p ≠ .off →
    Completes (.foregroundRequest none p item 0) s fun t => t.cal.fg = s.cal.fg ++ [⟨p, item, false, false, s.clk.elapsed, false⟩]) ∧
  (∀ s p item, p < 64 → 0x30 ≤ item → item ≤ 0x32 →
    Completes (.foregroundRequest none p item 1) s fun t => t.cal.fg = s.cal.fg ∧ Fires t 107) ∧
  (∀ s p r, s.cal.fg.find? (fun r => r.path = p ∧ ¬ r.running ∧ ¬ r.force) = some r →
    Completes (.foregroundWindowTimeout p) s fun t =>
      (∀ x ∈ t.cal.fg, x.path ≠ p) ∧ t.clk.elapsed = max s.clk.elapsed (r.at_ + secTicks) ∧ Fires t 107) ∧
  (∀ s p, s.onum 0x7030 2 ≠ 0 → p < 64 → bitOf (s.onum 0x7030 3) p = true → p ∉ s.bm.held →
    (∀ r ∈ s.cal.fg, r.path ≠ p) →
    nextSymbol s.frameOfs s.refMu s.refEcp (max s.now (s.onum 0x7030 1)) < s.onum 0x7030 1 + s.onum 0x7030 2 * msTicks →
    Completes .serviceWindowStart s fun t =>
      t.pathState p = .off ∧ p ∈ t.cal.window ∧ p ∈ t.bm.held ∧ bitOf t.bm.mask p = true) ∧
  (∀ s p r results, s.cal.fg.find? (fun r => r.path = p ∧ r.running) = some r →
    Completes (.foregroundRunEnd p false results) s fun t =>
      (∀ x ∈ t.cal.fg, x.path ≠ p) ∧ t.clk.elapsed = max s.clk.elapsed (r.at_ + fgTicks r.item) ∧ Fires t 106) ∧
  (∀ s p r results, s.cal.fg.find? (fun r => r.path = p ∧ r.running) = some r → r.force = true → r.auto = true →
    Completes (.foregroundRunEnd p true results) s fun t =>
      (∀ x ∈ t.cal.fg, x.path ≠ p) ∧ spGet 0 t.bm.clearing p = (if r.item = 0x30 then t.clk.elapsed + 2 else 1) ∧ Fires t 106) ∧
  (∀ s p r results, s.cal.fg.find? (fun r => r.path = p ∧ r.running) = some r → r.item = 0x30 → r.force = true → r.auto = false →
    Completes (.foregroundRunEnd p true results) s fun t =>
      (∀ x ∈ t.cal.fg, x.path ≠ p) ∧ Fires t 106 ∧
      if spGet 0 s.bm.clearing p = 1 then spGet 0 t.bm.clearing p = t.clk.elapsed + 2 else spGet 0 t.bm.passed p = t.clk.elapsed + 2)

/-- R382: a write to CAL_CTRL or CAL_HRX is performed only from the device tag, or the debug tag at D2 or above; any other has no
effect and raises the firewall-violation event. -/
def Obligations.CalibrationWritesNeedTheDevice : Prop :=
  (∀ (s : State) m tag v w, s.silenced m = false → windowOf (regAddr .calCtrl []) = some w → reaches m (regAddr .calCtrl []) true w = true → (s.island w.island).off = false →
    s.tagDeviceOrD2 tag = true →
    exec (.registerWrite m tag (regAddr .calCtrl []) v) s = .next (emit (writeFields s .calCtrl [] v) (.bus 0 [])) ∧
    ∀ f ∈ regFields .calCtrl, rf (writeFields s .calCtrl [] v) .calCtrl [] f.1 f.2.1 = bitsOf v f.1 f.2.1) ∧
  (∀ (s : State) m tag v w, s.silenced m = false → windowOf (regAddr .calHrx []) = some w → reaches m (regAddr .calHrx []) true w = true → (s.island w.island).off = false →
    s.tagDeviceOrD2 tag = true →
    exec (.registerWrite m tag (regAddr .calHrx []) v) s = .next (emit (hrxArm s v) (.bus 0 []))) ∧
  (∀ (s : State) m tag v w id, id = .calCtrl ∨ id = .calHrx → s.silenced m = false → windowOf (regAddr id []) = some w → reaches m (regAddr id []) true w = true →
    (s.island w.island).off = false → s.tagDeviceOrD2 tag = false →
    exec (.registerWrite m tag (regAddr id []) v) s = .next (emit (raise s 224 tag NA) (.bus 0 [])) ∧ Fires (emit (raise s 224 tag NA) (.bus 0 [])) 224)

/-- Chapter 11: sections received, windows, sections and captures sent, control entries and weight blocks. -/
def Obligations.LinkDataCommandsComplete : Prop :=
  (∀ s f b h air, FrameOk s f 0 → b = frameBody f → h = secHdrOf (b.drop 4) → h.tenant = f.port → s.ccOwner h.cc = f.port →
    14 ≤ b.length → sectionOk s b h (s.bfLayers h.cc 0) = true → b.length = 14 + h.count * compBytes h.comp →
    air = nearestAir s.frameOfs (s.ccMu h.cc) (s.ccEcp h.cc) h.frame h.slot h.symbol f.tick →
    air ≤ f.tick + rf s .lnkCcWin [h.cc] 22 0 → f.tick + rf s .lnkCcWin [h.cc] 54 32 ≤ air → s.dlOn h.cc = true →
    Completes (.iqDataMessage f) s fun t =>
      ∃ x ∈ spGet [] t.lnk.dl h.cc, x.tick = air ∧ x.layer = h.stream ∧ x.start = h.start ∧ x.beam = h.beam ∧
        x.res.length = 12 * h.count) ∧
  (∀ s f, FrameOk s f 0 → (secHdrOf ((frameBody f).drop 4)).tenant ≠ f.port →
    Completes (.iqDataMessage f) s fun t =>
      t.lnk.dl = s.lnk.dl ∧ rd t .lnkPortDrop [f.port] = min 0xFFFFFFFF (rd s .lnkPortDrop [f.port] + 1) ∧ Fires t 224) ∧
  (∀ s f c, f.port < 4 → s.portUp f.port = true → frameCheck s f 0 = c → c ≠ 0 → c ≠ 16 →
    Completes (.iqDataMessage f) s fun t =>
      t.lnk.dl = s.lnk.dl ∧ rd t .lnkPortDrop [f.port] = min 0xFFFFFFFF (rd s .lnkPortDrop [f.port] + 1)) ∧
  (∀ s cc air i st e, cc < 8 → s.dlOn cc = true → air = s.now + rf s .lnkCcWin [cc] 54 32 →
    nextSymbol s.frameOfs (s.ccMu cc) (s.ccEcp cc) air = air → spGet 0 s.clk.seen (202 * 65536 + cc) ≠ s.clk.elapsed + 1 →
    patFind s.pattern 0 0 (patPos s.pattern s.frameOfs air) = some (i, st, e) → e.dir = 0 →
    0 < s.ccN cc → (∀ x ∈ spGet [] s.lnk.dl cc, x.tick ≠ air) →
    Completes (.dlWindowClose cc) s fun t => Fires t 134) ∧
  (∀ s cc, cc < 8 → (spGet UlSym.none_ s.lnk.ul cc).kind ≠ 0 → s.portUp (s.ccOwner cc) = true →
    Completes (.ulSectionSend false cc) s fun t =>
      spGet UlSym.none_ t.lnk.ul cc = UlSym.none_ ∧
      t.out.length = s.out.length + (spGet UlSym.none_ s.lnk.ul cc).streams.length * (prbRanges (s.ccN cc) (bitsOf (rd s .lnkCcUl [cc]) 8 0)).length) ∧
  (∀ s cc, cc < 8 → (spGet UlSym.none_ s.lnk.ul cc).kind ≠ 0 → s.portUp (s.ccOwner cc) = false →
    Completes (.ulSectionSend false cc) s fun t => spGet UlSym.none_ t.lnk.ul cc = UlSym.none_ ∧ t.out = s.out) ∧
  (∀ s j, j < 4 → (spGet UlSym.none_ s.lnk.prach j).kind ≠ 0 →
    Completes (.ulSectionSend true j) s fun t => spGet UlSym.none_ t.lnk.prach j = UlSym.none_) ∧
  (∀ s f b h rtc air, FrameOk s f 2 → FramePaid s f → b = frameBody f → b.length = 14 → rtc = beAt b 0 2 →
    h = secHdrOf (sliceBytes b 4 10) → bitsOf rtc 15 14 = f.port → s.ccOwner (bitsOf rtc 13 11) = f.port →
    setBits (rtc % 2048) 8 8 0 = 0 → beAt b 3 1 = 128 → h.tenant = f.port → h.kind = 0 → h.cc = bitsOf rtc 13 11 →
    0 < h.count → h.count ≤ 275 → h.start + h.count ≤ s.ccN h.cc → h.stream < s.bfLayers h.cc 1 →
    symbolExists (s.ccMu h.cc) (s.ccEcp h.cc) h.slot h.symbol = true →
    air = nearestAir s.frameOfs (s.ccMu h.cc) (s.ccEcp h.cc) h.frame h.slot h.symbol f.tick → air ≤ f.tick + frameTicks →
    s.ulOn h.cc = true →
    f.tick + 4096 ≤ air + symLenAt s.frameOfs (s.ccMu h.cc) (s.ccEcp h.cc) air - s.ccWinOfs h.cc * 2 ^ s.ccHalfbands h.cc + 8192 →
    Completes (.realTimeControlMessage f) s fun t =>
      spGet [] t.lnk.ulCtl h.cc = spGet [] s.lnk.ulCtl h.cc ++ [⟨air, h.stream, h.start, h.count, h.beam⟩]) ∧
  (∀ s f, FrameOk s f 2 → (s.port f.port).tokens + (s.clk.elapsed + (f.tick - s.clk.count)) * 125000 < f.len * 491520 →
    Completes (.realTimeControlMessage f) s fun t =>
      t.lnk.ulCtl = s.lnk.ulCtl ∧ rd t .lnkPortDrop [f.port] = min 0xFFFFFFFF (rd s .lnkPortDrop [f.port] + 1) ∧ Fires t 137) ∧
  (∀ s f b cc, FrameOk s f 3 → beAt (frameBody f) 0 1 = 2 → b = (frameBody f).drop 8 → cc = bitsOf (beAt b 0 1) 7 5 → s.ccOwner cc = f.port →
    bitsOf (beAt b 0 1) 4 4 = 0 → bitsOf (beAt b 1 1) 7 7 = 0 → 1 ≤ beAt b 4 1 → beAt b 4 1 ≤ 32 → b.length = 8 + 256 * beAt b 4 1 →
    bitsOf (beAt b 0 1) 3 0 < s.bfLayers cc 0 → beAt b 2 2 + beAt b 4 1 ≤ s.bfNg cc → s.dlOn cc = true →
    Completes (.genericDataMessage f) s fun t => t.bm.landing.length = s.bm.landing.length + beAt b 4 1) ∧
  (∀ s f, FrameOk s f 3 → beAt (frameBody f) 0 1 ≠ 1 → beAt (frameBody f) 0 1 ≠ 2 →
    Completes (.genericDataMessage f) s fun t =>
      t.bm = s.bm ∧ rd t .lnkPortDrop [f.port] = min 0xFFFFFFFF (rd s .lnkPortDrop [f.port] + 1)) ∧
  (∀ s b, 128 ≤ b → b < 256 → (s.buf b).st = .full → rf s .capDesc [(s.buf b).path / 8, b] 60 58 < 4 → s.onum (0x9100 + b) 1 = 1 →
    s.portUp (rf s .capDesc [(s.buf b).path / 8, b] 60 58) = true → earlierWork s 3 = false →
    streamTurn s (rf s .capDesc [(s.buf b).path / 8, b] 60 58) = some b → s.onum (0x9040 + rf s .capDesc [(s.buf b).path / 8, b] 60 58) 1 ≠ 0 →
    Completes (.captureStream b) s fun t =>
      (t.buf b).st = .free ∧ t.out.length = s.out.length + ceilDiv (16 + if (s.buf b).notTx then 0 else captureBytes (s.buf b).src (decide (64 ≤ (s.buf b).staging)) (s.buf b).n) 8192)

/-- Chapter 11: one-way delay measurement and event indications. -/
def Obligations.LinkMessageCommandsComplete : Prop :=
  (∀ s f, FrameOk s f 5 → FramePaid s f → beAt (frameBody f) 1 1 = 0 →
    Completes (.delayRequest f) s fun t => t.out = s.out ++ [.link f.port 5 (dataFrame s f.port 5 (delayBytes (beAt (frameBody f) 0 1) 2 f.tick))]) ∧
  (∀ s f, FrameOk s f 5 → FramePaid s f → beAt (frameBody f) 1 1 = 1 →
    Completes (.requestWithFollowUp f) s fun t =>
      (t.port f.port).pending5 = (s.port f.port).pending5 ++ [(beAt (frameBody f) 0 1, f.tick)] ∧ t.out = s.out) ∧
  (∀ s f x, FrameOk s f 5 → FramePaid s f → beAt (frameBody f) 1 1 = 5 →
    (s.port f.port).pending5.find? (fun x => x.1 = beAt (frameBody f) 0 1) = some x →
    Completes (.followUp f) s fun t =>
      t.out = s.out ++ [.link f.port 5 (dataFrame s f.port 5 (delayBytes (beAt (frameBody f) 0 1) 2 x.2))] ∧
      ∀ y ∈ (t.port f.port).pending5, y.1 ≠ beAt (frameBody f) 0 1) ∧
  (∀ s f, FrameOk s f 5 → FramePaid s f → (beAt (frameBody f) 1 1 = 3 ∨ beAt (frameBody f) 1 1 = 4) →
    Completes (.remoteRequest f) s fun t => t.out = s.out ++ [.link f.port 5 (dataFrame s f.port 5 (delayBytes (beAt (frameBody f) 0 1) 0 t.now))]) ∧
  (∀ s n q rest, n < 4 → s.portUp n = true → (s.port n).queue = q :: rest → q.1 ≠ 132 → q.1 ≠ 133 →
    Completes (.eventIndicationSend n) s fun t =>
      (t.port n).queue = rest ∧ (t.port n).unacked = (s.port n).unacked ++
        [⟨(s.port n).eventId, 0x800 + q.1, q.2.1, q.2.2.1, q.2.2.2, s.clk.elapsed, 0⟩] ∧
      t.out = s.out ++ [.link n 7 (dataFrame s n 7 (indicationBytes (s.port n).eventId 0 (s.port n).eventSeq q.2.1 q.2.2.2 (0x800 + q.1) q.2.2.1))]) ∧
  (∀ s f, FrameOk s f 7 → FramePaid s f → beAt (frameBody f) 1 1 = 1 →
    Completes (.indicationAck f) s fun t =>
      (t.port f.port).unacked = (s.port f.port).unacked.filter (fun x => x.id ≠ beAt (frameBody f) 0 1)) ∧
  (∀ s n id x, n < 4 → (s.port n).unacked.find? (fun x => x.id = id) = some x → x.tries < 3 →
    Completes (.indicationResend n id) s fun t =>
      t.out = s.out ++ [.link n 7 (dataFrame s n 7 (indicationBytes x.id 0 (s.port n).eventSeq x.element x.cease x.fault x.info))] ∧
      t.clk.elapsed = max s.clk.elapsed (x.sentAt + 100 * msTicks) ∧ (t.port n).unacked.length = (s.port n).unacked.length) ∧
  (∀ s n id x, n < 4 → (s.port n).unacked.find? (fun x => x.id = id) = some x → 3 ≤ x.tries →
    Completes (.indicationResend n id) s fun t => t.out = s.out ∧ x ∉ (t.port n).unacked ∧ Fires t 145) ∧
  (∀ s f, FrameOk s f 7 → FramePaid s f → beAt (frameBody f) 1 1 = 3 →
    (∀ c ∈ s.evt.cond, (entitled s c.1 c.2.1 f.port && evtEnabled s c.1 f.port) = false) →
    Completes (.synchronisationRequest f) s fun t => t.out = s.out ++
      [.link f.port 7 (dataFrame s f.port 7 (beBytes 1 (beAt (frameBody f) 0 1) ++ beBytes 1 4 ++ beBytes 1 (s.port f.port).eventSeq ++ beBytes 1 0)),
       .link f.port 7 (dataFrame s f.port 7 (beBytes 1 (beAt (frameBody f) 0 1) ++ beBytes 1 5 ++ beBytes 1 (((s.port f.port).eventSeq + 1) % 256) ++ beBytes 1 0))])

/-- Chapter 11: ports, keys, PTP, SyncE, pulses, and the sparing of lanes. -/
def Obligations.LinkTimingCommandsComplete : Prop :=
  (∀ s n aligned sa, n < 4 → n < s.tenants →
    Completes (.portStateChange n aligned sa) s fun t =>
      t.portUp n = (rbit s .lnkPortCfg [n] 0 && aligned && (sa || !rbit s .lnkPortMsec [n] 0)) ∧
      (s.portUp n = false → t.portUp n = true → Fires t 128) ∧ (s.portUp n = true → t.portUp n = false → Fires t 129)) ∧
  (∀ s n an, n < 4 → an < 4 → rbit s .lnkPortMsec [n] 0 = true → s.hasCak n = true →
    (rbit s .lnkPortStat [n] 2 = false ∨ rf s .lnkPortStat [n] 4 3 ≠ an) →
    Completes (.sakInstall n an) s fun t =>
      rf t .lnkPortStat [n] 4 3 = an ∧ rbit t .lnkPortStat [n] 2 = true ∧ spGet (0, []) t.sec.oldCak n = (0, []) ∧ Fires t 139) ∧
  (∀ s q, s.lnk.master ≠ none → s.ptpLocked = false → Int.natAbs q ≤ 200 → 63 ≤ s.lnk.good →
    Completes (.ptpSyncInterval q) s fun t => t.ptpLocked = true ∧ rf t .lnkPtpStat [] 2 0 = 2 ∧ Fires t 140) ∧
  (∀ s q, s.lnk.master ≠ none → s.ptpLocked = true → 800 < Int.natAbs q → 15 ≤ s.lnk.bad →
    Completes (.ptpSyncInterval q) s fun t => t.ptpLocked = false ∧ rf t .lnkPtpStat [] 2 0 = 1 ∧ Fires t 141) ∧
  (∀ s n cls id, n < 4 → rbit s .lnkPortCfg [n] 24 = true →
    Completes (.ptpMasterChange n cls id) s fun t =>
      t.lnk.master = some (id % 2 ^ 64) ∧ rbit t .tlStatus [] 2 = false ∧ rf t .lnkPtpStat [] 4 3 = n ∧
      rf t .lnkPtpStat [] 12 5 = cls % 256 ∧ Fires t 142) ∧
  (∀ s, rbit s .tlStatus [] 2 = false → Completes .ptpHoldoverEntry s fun t =>
    rbit t .tlStatus [] 2 = true ∧ t.ptpLocked = false ∧ t.lnk.master = none ∧ rf t .lnkPtpStat [] 2 0 = 3 ∧ Fires t 6) ∧
  (∀ s, rbit s .lnkSynceCfg [] 0 = true → s.synceLocked = true → Completes (.synceSquelch 0) s fun t =>
    rf t .lnkSynceStat [] 1 0 = 2 ∧ t.lnk.squelchAt = t.clk.elapsed ∧ Fires t 143) ∧
  (∀ s, rbit s .lnkSynceCfg [] 0 = true → s.synceLocked = true → qlBad s = true → Completes (.synceSquelch 2) s fun t =>
    rf t .lnkSynceStat [] 1 0 = 3 ∧ Fires t 143) ∧
  (∀ s, rbit s .lnkSynceCfg [] 0 = true → s.synceLocked = false → s.portUp (rf s .lnkSynceCfg [] 3 2) = true → qlBad s = false →
    Completes .synceResume s fun t => t.synceLocked = true ∧ t.clk.elapsed = max s.clk.elapsed (s.lnk.squelchAt + 10 * secTicks)) ∧
  (∀ s n, n < 4 → s.portUp n = true → Completes (.esmcSend n) s fun t =>
    t.out = s.out ++ [.link n 16 (beBytes 1 (qlSent s))] ∧ (t.port n).esmcAt = t.clk.elapsed + 1) ∧
  (∀ s ql, rf s .lnkSynceStat [] 5 2 ≠ ql % 16 → Completes (.esmcReceive ql) s fun t =>
    rf t .lnkSynceStat [] 5 2 = ql % 16 ∧ t.lnk.esmcRx = s.clk.elapsed + 1 ∧ Fires t 144) ∧
  (∀ s, rbit s .lnkPps [] 0 = true → s.pwr.linkIdle = false → Completes .ppsOutEdge s fun t =>
    t.out = s.out ++ [.pulse 0 (rf s .lnkPps [] 17 2)] ∧ t.clk.count % secTicks = 0) ∧
  (∀ s tick, rbit s .lnkPps [] 1 = false → Completes (.ppsInEdge tick) s fun t =>
    t.lnk.ppsAt = t.clk.elapsed + 1 ∧ t.clk.count = max s.clk.count tick) ∧
  (∀ s tick, rbit s .lnkPps [] 1 = true → Completes (.ppsInEdge tick) s fun t => rbit t .tlStatus [] 2 = false ∧ t.lnk.tod = none) ∧
  (∀ s, 0 < s.lnk.ppsAt → Completes .lnkPpsInLoss s fun t =>
    t.lnk.ppsAt = 0 ∧ t.clk.elapsed = max s.clk.elapsed (s.lnk.ppsAt - 1 + 2 * secTicks) ∧ Fires t 146) ∧
  (∀ s lane k n sp, lane < 9 → (List.range 8).find? (fun k => physLane s k = lane) = some k → laneState s lane = 1 →
    (List.range 4).find? (fun n => k ∈ portLanes s n) = some n →
    (List.range 9).find? (fun x => decide (laneState (setLaneState s lane 3) x = 2) && s.lnk.moves.all (fun m => decide (m.spare ≠ x))) = some sp → rbit s .lnkPortCfg [n] 40 = true →
    Completes (.linkLaneFailure lane) s fun t =>
      laneState t lane = 3 ∧ t.lnk.moves = s.lnk.moves ++ [⟨n, k, lane, sp, s.clk.elapsed, false, false⟩]) ∧
  (∀ s n, Completes (.linkLaneTxMove n) s fun t => ∀ m ∈ t.lnk.moves, m.port = n → m.txDone = true) ∧
  (∀ s n, Completes (.linkLaneRxMove n) s fun t => ∀ m ∈ t.lnk.moves, m.port = n → m.txDone = true → m.rxDone = true) ∧
  (∀ s n m lost, s.lnk.moves.find? (fun m => m.port = n ∧ m.txDone ∧ m.rxDone) = some m → m.logical < 8 → m.spare < 9 →
    Completes (.lnkLaneSpared n lost) s fun t =>
      m ∉ t.lnk.moves ∧ physLane t m.logical = m.spare ∧ laneState t m.spare = 1 ∧ rbit t .lnkPortStat [n] 5 = false ∧ Fires t 130) ∧
  (∀ s n m, s.lnk.moves.find? (fun m => m.port = n) = some m →
    Completes (.linkRealignTimeout n) s fun t =>
      m ∉ t.lnk.moves ∧ t.portUp n = false ∧ t.clk.elapsed = max s.clk.elapsed (m.t0 + 24576)) ∧
  (∀ s lane, lane < 9 → laneState s lane = 3 → Completes (.laneReturnToSpare .service lane) s fun t => laneState t lane = 2)

/-- Chapter 12: accesses of SRAM, arbitration, scrubbing, repair and sparing of banks, set requests and the watchdog. -/
def Obligations.MemoryCommandsComplete : Prop :=
  (∀ s port tag addr n, port < 46 → sramBase ≤ addr → addr + n ≤ sramBase + sramSize → 0 < n → n ≤ 1024 →
    (addr - sramBase + n - 1) / 0x80000 = bankOfOffset (addr - sramBase) → tag < 5 →
    s.sramAllowed (portMaster port) tag none (bankOfOffset (addr - sramBase)) = true →
    portServed s port (bankOfOffset (addr - sramBase)) = true → (s.island 12).off = false →
    (s.physBank (bankOfOffset (addr - sramBase))).isSome = true →
    Completes (.sramAccess port tag addr n none [] []) s fun t =>
      t.out = s.out ++ [.bus 0 (sramBytes s (addr - sramBase) n)] ∧ t.mem.data = s.mem.data) ∧
  (∀ s port tag addr b, port < 46 → sramBase ≤ addr → addr + b.length ≤ sramBase + sramSize → 0 < b.length → b.length ≤ 1024 →
    (addr - sramBase + b.length - 1) / 0x80000 = bankOfOffset (addr - sramBase) →
    s.sramAllowed (portMaster port) tag none (bankOfOffset (addr - sramBase)) = true →
    portServed s port (bankOfOffset (addr - sramBase)) = true → (s.island 12).off = false →
    (s.physBank (bankOfOffset (addr - sramBase))).isSome = true →
    Completes (.sramAccess port tag addr 0 (some b) [] []) s fun t =>
      t.out = s.out ++ [.bus 0 []] ∧ sramBytes t (addr - sramBase) b.length = b) ∧
  (∀ s port tag addr b, port < 46 → sramBase ≤ addr → addr + b.length ≤ sramBase + sramSize → 0 < b.length → b.length ≤ 1024 →
    (addr - sramBase + b.length - 1) / 0x80000 = bankOfOffset (addr - sramBase) →
    s.sramAllowed (portMaster port) tag none (bankOfOffset (addr - sramBase)) = false →
    Completes (.sramAccess port tag addr 0 (some b) [] []) s fun t => t.mem = s.mem ∧ t.out = s.out ++ [.bus 0 []] ∧ Fires t 224) ∧
  (∀ s a ports beats w, a < 96 → bankClosed s a = false →
    arbPick s.portLevel (spGet Arb.reset s.mem.arb a).last (ports.filter (fun q => q < 46 ∧ ¬ s.portMasked q)) = some w →
    Completes (.arbitrationPhase a ports beats) s fun t =>
      (spGet Arb.reset t.mem.arb a).owner = some w ∧ (spGet Arb.reset t.mem.arb a).busy = true ∧
      (spGet Arb.reset t.mem.arb a).beats = min 16 (max 1 beats)) ∧
  (∀ s w b, rbit s .memCtrl [] 0 = true → (s.island 12).off = false → 8 * w < sramSize → s.physBank (bankOfOffset (8 * w)) = some b →
    w ∉ s.mem.poison → Completes (.scrubPass [] [w]) s fun t =>
      w ∈ t.mem.poison ∧ rd t .memBankUe [b] = min 0xFFFFFFFF (rd s .memBankUe [b] + 1) ∧ Fires t 161) ∧
  (∀ s w b, rbit s .memCtrl [] 0 = true → (s.island 12).off = false → 8 * w < sramSize → s.physBank (bankOfOffset (8 * w)) = some b →
    Completes (.scrubPass [w] []) s fun t =>
      t.mem.poison = s.mem.poison ∧ rd t .memBankCe [b] = min 0xFFFFFFFF (rd s .memBankCe [b] + 1) ∧ Fires t 160) ∧
  (∀ s b row, b < 100 → row < 512 → bankState s b = 0 → rowNeeds s b row = true → rf s .memBankStat [b] 12 9 < 8 →
    Completes (.memRowRepaired b row) s fun t => rf t .memBankStat [b] 12 9 = rf s .memBankStat [b] 12 9 + 1 ∧ Fires t 162) ∧
  (∀ s b n, b < 100 → b ∈ s.mem.due → bankState s b = 0 →
    spareBank s = some n →
    Completes (.bankMigrationStart b) s fun t => bankState t b = 2 ∧ t.mem.migr = s.mem.migr ++ [(b, n)]) ∧
  (∀ s b n, s.mem.migr.find? (fun p => p.1 = b) = some (b, n) → b < 100 → n < 100 → b ≠ n →
    Completes (.memBankSpared b) s fun t =>
      bankServed t n = bankServed s b ∧ bankState t n = 0 ∧ bankState t b = 3 ∧ (∀ p ∈ t.mem.migr, p.1 ≠ b) ∧ Fires t 163) ∧
  (∀ s b n, b < 96 → bankState s b = 0 → spareBank s = some n →
    Completes (.serviceBankSpare .service b) s fun t => bankState t b = 2 ∧ t.mem.migr = s.mem.migr ++ [(b, n)]) ∧
  (∀ s b, b < 96 → bankState s b = 0 → spareBank s = none →
    Completes (.serviceBankSpare .service b) s fun t => bankState t b = 3 ∧ t.adm.again = true ∧ Fires t 164) ∧
  (∀ s tag value, s.regOff .memLock [] = false → s.tagDeviceOrD2 tag = true → bitOf value 48 = true → bitOf value 47 = false → s.mem.lock = none →
    lockOrdered none (lockOfWord value) = true → setFree s (lockOfWord value) = true →
    Completes (.memLock tag value) s fun t =>
      t.mem.lock = some { lockOfWord value with since := s.clk.elapsed } ∧ t.mem.lockWait = none) ∧
  (∀ s tag value, s.regOff .memLock [] = false → s.tagDeviceOrD2 tag = true → bitOf value 48 = true → bitOf value 47 = false →
    lockOrdered s.mem.lock (lockOfWord value) = false →
    Completes (.memLock tag value) s fun t => t.mem.lock = s.mem.lock ∧ t.mem.lockWait = s.mem.lockWait ∧ Fires t 166) ∧
  (∀ s tag value, s.regOff .memLock [] = false → s.tagDeviceOrD2 tag = true → bitOf value 48 = true → bitOf value 47 = true → s.mem.lockWait = none →
    Completes (.memLockRelease tag value) s fun t => t.mem.lock = none) ∧
  (∀ s a q, a < 96 → q < 46 → (spGet Arb.reset s.mem.arb a).busy = true → (spGet Arb.reset s.mem.arb a).owner = some q →
    Completes (.memHoldFault a) s fun t =>
      (spGet Arb.reset t.mem.arb a).owner = none ∧ rbit t .memHoldMask [] q = true ∧
      t.clk.elapsed = max s.clk.elapsed ((spGet Arb.reset s.mem.arb a).since + msTicks) ∧ Fires t 165) ∧
  (∀ s l, s.mem.lock = some l → Completes (.memHoldFault 96) s fun t => t.mem.lock = none ∧ rbit t .memHoldMask [] 42 = true ∧ Fires t 165)

/-- Chapter 12: triggers of the rings, descriptors and their completions. -/
def Obligations.RingCommandsComplete : Prop :=
  (∀ s n e, EventFires s n 5 e → (s.island 12).off = false → e.target < 128 → rbit s .dmaRingCfg [e.target] 6 = true →
    ringSt s e.target = 1 →
    Completes (.dmaStart n) s fun t => ringSt t e.target = 2 ∧ BatchOpens s t e.target true) ∧
  (∀ s tag r value, s.regOff .dmaRingKick [r] = false → s.tagDeviceOrD2 tag = true → r < 128 → bitOf value 0 = true → ringSt s r = 1 →
    Completes (.dmaRingKick tag r value) s fun t => ringSt t r = 2 ∧ BatchOpens s t r false) ∧
  (∀ s tag r value, s.regOff .dmaRingKick [r] = false → s.tagDeviceOrD2 tag = true → r < 128 → bitOf value 0 = true → ringSt s r = 0 →
    Completes (.dmaRingKick tag r value) s fun t =>
      ringSt t r = 0 ∧ rd t .dmaTrigDrop [] = min 0xFFFFFFFF (rd s .dmaTrigDrop [] + 1)) ∧
  (∀ s r b a d, RingCopies s r b a d → d.full = true → d.last = true → rf s .dmaRingStat [r] 5 2 = 0 →
    Completes (.dmaDescriptor r) s fun t =>
      sramBytes t (d.dst - sramBase) d.len = sramBytes s (d.src - sramBase) d.len ∧ rbit t .dmaRingStat [r] 8 = true ∧
      rf t .dmaRingStat [r] 23 12 = (rf s .dmaRingStat [r] 23 12 + 1) % (4 * 2 ^ rf s .dmaRingCfg [r] 12 9) % 4096 ∧
      ringSt t r = 1 ∧ bitOf (leNum (sramBytes t (a - sramBase) 8)) 63 = false) ∧
  (∀ s r b a d, RingCopies s r b a d → d.half = true → d.len % 16 = 0 →
    Completes (.dmaHalfCompletion r) s fun t =>
      sramBytes t (d.dst - sramBase) (d.len / 2) = sramBytes s (d.src - sramBase) (d.len / 2) ∧ rbit t .dmaRingStat [r] 7 = true ∧
      (spGet Batch.none_ t.mem.batch r).done = d.len / 2 ∧ ringSt t r = 2) ∧
  (∀ s r, r < 128 → ringSt s r = 2 → ringServed s r = true → (fetchDesc s r).1 = 3 →
    Completes (.dmaDescriptor r) s fun t => ringSt t r = 3 ∧ rf t .dmaRingStat [r] 11 9 = 3 ∧ Fires t 172) ∧
  (∀ s r, r < 128 → Completes (.dmaRingDisable r) s fun t =>
    ringSt t r = 0 ∧ rbit t .dmaRingCfg [r] 0 = false ∧ rf t .dmaRingStat [r] 5 2 = 0 ∧
    rf t .dmaRingStat [r] 23 12 = rf s .dmaRingStat [r] 23 12)

/-- Chapter 13: requests of a Diong session, each answered in its session. -/
def Obligations.DiongCommandsComplete : Prop :=
  (∀ s d role x index sub,
    DiongAccepts s d 1 (objAddr index sub ++ [0]) role x →
    (readAs (diongTaken s d) role d.transport d.session index sub).1 = 0 →
    (readAs (diongTaken s d) role d.transport d.session index sub).2.2.1.length + 29 ≤ frameMax d.transport →
    Completes (.read d index sub) s fun t =>
      DiongAnswers s t d x 1 0 (beBytes 1 (readAs (diongTaken s d) role d.transport d.session index sub).2.1 ++
        (readAs (diongTaken s d) role d.transport d.session index sub).2.2.1) false) ∧
  (∀ s d role x index sub,
    DiongAccepts s d 1 (objAddr index sub ++ [0]) role x → objIndexDefined index = false →
    Completes (.read d index sub) s fun t => DiongAnswers s t d x 1 1 [] false) ∧
  (∀ s d role index sub,
    DiongFrom s d 1 (objAddr index sub ++ [0]) role → s.boot.loader = false → s.session d.transport d.key d.session = none →
    (s.diong.sessions.filter (fun x => x.transport = d.transport)).length < 16 → objIndexDefined index = false →
    Completes (.read d index sub) s fun t =>
      t.session d.transport d.key d.session =
        some ⟨d.transport, d.key, d.session, d.seq, some (1, 1, []), false, s.clk.elapsed, none, [], 0⟩) ∧
  (∀ s d role x index sub type value r,
    DiongAccepts s d 2 (objAddr index sub ++ beBytes 1 type ++ value) role x →
    writeGate (diongTaken s d) role index sub type value = .inr r → isCounter index sub = false →
    badRange (diongTaken s d) r index sub value = false → r.acc role = .rws → index < 0xA100 ∨ 0xA180 ≤ index →
    Completes (.write d index sub type value) s fun t =>
      DiongAnswers s t d x 2 0 [] false ∧ t.objs = s.objs ∧
      (okey index sub, objOfBytes r value) ∈ t.objsStaged ∧ (∀ k ∈ s.objsStaged, k.1 ≠ okey index sub → k ∈ t.objsStaged)) ∧
  (∀ s d role x index sub type value e,
    DiongAccepts s d 2 (objAddr index sub ++ beBytes 1 type ++ value) role x →
    writeGate (diongTaken s d) role index sub type value = .inl e →
    Completes (.write d index sub type value) s fun t =>
      DiongAnswers s t d x 2 e [] false ∧ t.objs = s.objs ∧ t.objsStaged = s.objsStaged) ∧
  (∀ s d role x index sub offset n,
    DiongAccepts s d 3 (objAddr index sub ++ [0] ++ beBytes 4 offset ++ beBytes 2 n) role x →
    (readAs (diongTaken s d) role d.transport d.session index sub).1 = 0 →
    (viewObj (readAs (diongTaken s d) role d.transport d.session index sub).2.2.2 index sub).isSome = false →
    index ≠ 0xE000 →
    offset + n ≤ (readAs (diongTaken s d) role d.transport d.session index sub).2.2.1.length → n + 36 ≤ frameMax d.transport →
    Completes (.readBlock d index sub offset n) s fun t =>
      DiongAnswers s t d x 3 0
        (beBytes 4 (readAs (diongTaken s d) role d.transport d.session index sub).2.2.1.length ++
          beBytes 4 (spGet 0 t.objGen (okey index sub) % 2 ^ 32) ++
          sliceBytes (readAs (diongTaken s d) role d.transport d.session index sub).2.2.1 offset n)
        (decide (offset + n = (readAs (diongTaken s d) role d.transport d.session index sub).2.2.1.length))) ∧
  (∀ s d role x index sub type total data r,
    DiongAccepts s d 4 (objAddr index sub ++ beBytes 1 type ++ beBytes 4 0 ++ beBytes 4 total ++ data) role x →
    findObj index sub = .inr r → r.acc role ≠ .none → r.acc role ≠ .ro → foreign (diongTaken s d) role index = false → type = r.ty.code →
    data.length ≤ total → d.last = false →
    Completes (.writeBlock d index sub type 0 total data) s fun t =>
      DiongAnswers s t d { x with transfer := some ⟨index, sub, type, total, data, s.clk.elapsed⟩ } 4 0 [] false ∧ t.objs = s.objs ∧
      t.objsStaged = s.objsStaged) ∧
  (∀ s d role x index sub type offset total data y r,
    DiongAccepts s d 4 (objAddr index sub ++ beBytes 1 type ++ beBytes 4 offset ++ beBytes 4 total ++ data) role x →
    x.transfer = some y → 0 < offset → y.index = index → y.sub = sub → y.ty = type → y.total = total → y.data.length = offset →
    d.last = true → offset + data.length = total →
    writeGate (diongTaken s d) role index sub type (y.data ++ data) = .inr r → isCounter index sub = false →
    badRange (diongTaken s d) r index sub (y.data ++ data) = false → r.acc role = .rws → index < 0xA100 ∨ 0xA180 ≤ index →
    Completes (.writeBlock d index sub type offset total data) s fun t =>
      DiongAnswers s t d { x with transfer := none } 4 0 [] false ∧ t.objs = s.objs ∧
      (okey index sub, objOfBytes r (y.data ++ data)) ∈ t.objsStaged) ∧
  (∀ s d role x boundary tick,
    DiongAccepts s d 5 (beBytes 1 boundary ++ List.replicate 7 0 ++ beBytes 8 tick) role x → 3 < boundary →
    Completes (.commit d boundary tick) s fun t => DiongAnswers s t d x 5 5 [] false ∧ t.adm = s.adm) ∧
  (∀ s d n x boundary tick,
    DiongAccepts s d 5 (beBytes 1 boundary ++ List.replicate 7 0 ++ beBytes 8 tick) (.tenant n) x → boundary ≤ 3 →
    s.adm.running = none → scopeObjs (diongTaken s d) (.tenant n) = [] →
    Completes (.commit d boundary tick) s fun t =>
      DiongAnswers s t d x 5 0 (List.replicate 32 0 ++ beBytes 8 s.adm.epoch ++ beBytes 8 s.now) false ∧ t.adm.epoch = s.adm.epoch ∧
      t.adm.running = none) ∧
  (∀ s d role x boundary tick k,
    DiongAccepts s d 5 (beBytes 1 boundary ++ List.replicate 7 0 ++ beBytes 8 tick) role x → boundary ≤ 3 →
    s.adm.running = none → s.adm.waiting = none → (Manages role ∨ scopeObjs (diongTaken s d) role ≠ []) →
    ((s.rx.rolling = false ∧ s.rx.rollPost = []) ∨ changedChannels (diongTaken s d) (commitImage (diongTaken s d) role) = []) →
    (boundary ≠ 3 ∨ s.now + commitLead (diongTaken s d) (commitImage (diongTaken s d) role) ≤ tick) →
    boundaryKind (diongTaken s d) boundary tick = some k → classFails (diongTaken s d) (commitImage (diongTaken s d) role) (scopeObjs (diongTaken s d) role) k = none →
    Completes (.commit d boundary tick) s fun t =>
      t.adm.running = some ⟨role, d.transport, d.session, d.seq, boundary, tick, s.now, scopeObjs (diongTaken s d) role,
        scopeRegs (diongTaken s d) role, 0⟩ ∧ t.adm.touched = [] ∧ t.out = s.out ∧ t.objs = s.objs ∧ t.regs = s.regs ∧
      t.objsStaged = s.objsStaged) ∧
  (∀ s d role x, DiongAccepts s d 6 [] role x → Manages role →
    Completes (.abort d) s fun t => DiongAnswers s t d x 6 0 [] false ∧ t.objsStaged = [] ∧ t.regsStaged = []) ∧
  (∀ s d role x selector, DiongAccepts s d 7 (beBytes 1 selector) role x → Manages role →
    bitOf selector 1 = false →
    Completes (.store d selector true) s fun t =>
      DiongAnswers s t d x 7 0 [] false ∧ t.nv.stored.isSome = (bitOf selector 0 || s.nv.stored.isSome) ∧ Fires t 231 ∧
      (bitOf selector 0 = true →
        ∀ k ∈ configKeys, spGet (dfltObj s k.1 k.2) (t.nv.stored.getD []) (okey k.1 k.2) = s.obj k.1 k.2)) ∧
  (∀ s d role x selector, DiongAccepts s d 7 (beBytes 1 selector) role x → Manages role →
    Completes (.store d selector false) s fun t => DiongAnswers s t d x 7 0x0B [] false ∧ t.nv = s.nv ∧ Fires t 231) ∧
  (∀ s d role x mode, DiongAccepts s d 8 (beBytes 1 mode) role x → Manages role →
    mode = 0 ∧ s.nv.stored = none ∨ mode = 1 →
    Completes (.restore d mode) s fun t =>
      DiongAnswers s t d x 8 (if mode = 0 then 0x11 else 0) [] false ∧
      ∀ k ∈ configKeys, (objRow k.1 k.2).any (fun r => r.accO = .rws || r.accS = .rws) = true →
        (okey k.1 k.2, dfltObj s k.1 k.2) ∈ t.objsStaged) ∧
  (∀ s d role x index sub mode period,
    DiongAccepts s d 9 (objAddr index sub ++ beBytes 1 mode ++ beBytes 2 period) role x →
    (readAs (diongTaken s d) role d.transport d.session index sub).1 = 0 → 1 ≤ mode → mode ≤ 2 → 10 ≤ period → period ≤ 60000 →
    x.subs.length < 32 →
    Completes (.subscribe d index sub mode period) s fun t =>
      DiongAnswers s t d { x with subs := x.subs.filter (fun y => ¬ (y.index = index ∧ y.sub = sub)) ++ [⟨index, sub, mode, period, s.clk.elapsed,
        .bytes (BitVec.ofNat 8 (readAs (diongTaken s d) role d.transport d.session index sub).2.1 ::
          (readAs (diongTaken s d) role d.transport d.session index sub).2.2.1)⟩] } 9 0 [] false) ∧
  (∀ s d role x scope, DiongAccepts s d 10 (beBytes 1 scope) role x → Manages role → scope < 5 →
    Completes (.digest d scope) s fun t =>
      DiongAnswers s t d x 10 0 (beBytes 8 s.adm.epoch ++ spGet (List.replicate 32 0) s.diong.digests scope) false)

/-- Chapter 13: sessions that end, notifications, digests, replicas, ceasing conditions, counters and the management interfaces. -/
def Obligations.DictionaryCommandsComplete : Prop :=
  (∀ s tr key id x, s.session tr key id = some x →
    Completes (.sessionTimeout tr key id) s fun t =>
      t.session tr key id = none ∧ t.clk.elapsed = max s.clk.elapsed (x.lastFrame + 300 * secTicks)) ∧
  (∀ s tr key id x y, s.session tr key id = some x → x.transfer = some y →
    Completes (.blockTransferTimeout tr key id) s fun t =>
      t.session tr key id = some { x with transfer := none } ∧ t.clk.elapsed = max s.clk.elapsed (y.lastAt + 5 * secTicks)) ∧
  (∀ s tr key id x index sub y role, s.session tr key id = some x →
    x.subs.find? (fun w => decide (w.index = index) && decide (w.sub = sub)) = some y → roleOf s tr key = some role → y.mode = 1 →
    (readAs (reachElapsed s (y.lastSent + y.period * msTicks)) role tr id index sub).1 = 0 →
    Completes (.subscriptionNotify tr key id index sub) s fun t =>
      (t.session tr key id).map (·.notifySeq) = some ((x.notifySeq + 1) % 2 ^ 32) ∧
      (tr ≠ .spi → t.out.length = s.out.length + 1) ∧
      t.clk.elapsed = max s.clk.elapsed (y.lastSent + y.period * msTicks)) ∧
  (∀ s e, s.diong.digestDue = some e →
    Completes .rwDigestRecompute s fun t => t.diong.digestDue = none ∧ ∀ k < 5, spGet [] t.diong.digests k = digestOf s k) ∧
  (∀ s c, c ∈ s.diong.mismatch →
    Completes (.replicaRewrite c) s fun t =>
      c ∉ t.diong.mismatch ∧ c ∈ t.diong.rewritten ∧ spGet 0 t.diong.crc c = spGet 0 s.diong.crc 8 ∧
      isSlot s.frameOfs s.refMu s.refEcp t.clk.count = true) ∧
  (∀ s src inst aux, (src, inst, aux) ∈ s.evt.cond → s.evt.cond.any (fun c => c.1 = src && decide (c ≠ (src, inst, aux))) = false →
    Completes (.eventCease src inst aux) s fun t =>
      t.evt.cond.any (fun c => c.1 = src) = false ∧
      ∀ d < 4, evtSticky s src d = true →
        (t.port d).queue = (s.port d).queue ++ [(src, inst, rf s .evtRpt [d, src] 7 0, true)]) ∧
  (∀ s, Completes .counterFold s fun t =>
      (∀ f ∈ foldCopies, rf t f.id f.ix f.hi f.lo = 0) ∧
      ∀ c ∈ [(RegId.tlGuardOvr, 0xE100), (.tlEvtDrop, 0xE101), (.bfSat, 0xE106), (.dmaTrigDrop, 0xE10A), (.dbgFails, 0xE10B)],
        bitOf (spGet 0 s.stats (okey c.2 1)) 63 = false → spGet 0 s.stats (okey c.2 1) + rf s c.1 [] 31 0 ≤ statMax →
        spGet 0 t.stats (okey c.2 1) = spGet 0 s.stats (okey c.2 1) + rf s c.1 [] 31 0) ∧
  (∀ s role index sub r, isCounter index sub = true → Manages role → objRow index sub = some r → findObj index sub = .inr r → r.acc role ≠ .none →
    Completes (.statisticsCounterClear role index sub) s fun t =>
      t.stats = spPut 0 s.stats (okey index sub) 0) ∧
  (∀ s frame, s.diong.spiIn.length < 2 →
    Completes (.writeFrame frame.length frame) s fun t => t.diong.spiIn = s.diong.spiIn ++ [frame]) ∧
  (∀ s len frame, 2 ≤ s.diong.spiIn.length ∨ frame.length ≠ len → Completes (.writeFrame len frame) s fun t => t = s) ∧
  (∀ s x l, s.diong.spiOut = x :: l →
    Completes .readFrame s fun t => t.diong.spiOut = l ∧ t.out = s.out ++ [.spi (beBytes 2 x.2.length ++ x.2)]) ∧
  (∀ s, s.diong.spiOut = [] → Completes .readFrame s fun t => t.diong.spiOut = [] ∧ t.out = s.out ++ [.spi [0, 0]]) ∧
  (∀ s, Completes .spiStatus s fun t =>
      t.diong.spiDropped = false ∧
      t.out = s.out ++ [.spi [BitVec.ofNat 8 ((if s.diong.spiOut = [] then 0 else 1) + (if s.diong.spiIn.length < 2 then 2 else 0) +
        if s.diong.spiDropped then 4 else 0)]]) ∧
  (∀ s m ip, t1sRuns s = true →
    Completes (.arpRequest m ip (ipv4 s)) s fun t =>
      t.out.length = s.out.length + 1 ∧ sliceBytes (t1sLast t) 0 14 = beBytes 6 m ++ beBytes 6 Config.t1sMac ++ [8, 6] ∧
      sliceBytes (t1sLast t) 20 22 = [0, 2] ++ beBytes 6 Config.t1sMac ++ beBytes 4 (ipv4 s) ++ beBytes 6 m ++ beBytes 4 ip) ∧
  (∀ s m ip ident seq data, t1sRuns s = true →
    Completes (.icmpEchoRequest m ip (ipv4 s) ident seq false data) s fun t =>
      t.out.length = s.out.length + 1 ∧ sliceBytes (t1sLast t) 0 14 = beBytes 6 m ++ beBytes 6 Config.t1sMac ++ [8, 0] ∧
      sliceBytes (t1sLast t) 34 2 = [0, 0] ∧ (t1sLast t).drop 38 = beBytes 2 ident ++ beBytes 2 seq ++ data) ∧
  (∀ s m ip dst ident seq data, Completes (.icmpEchoRequest m ip dst ident seq true data) s fun t => t = s)

/-- R493: firings at the destinations, and the entry they leave. -/
def Obligations.FiringsArePresented : Prop :=
  (∀ s src f, src < 256 → s.evt.waiting.find? (fun g => g.src = src) = some f → s.evt.log.length < 1024 →
    Completes (.eventFiringPresent src) s fun t =>
      t.evt.waiting = s.evt.waiting.erase f ∧
      (∀ d < 5, entitled s src f.inst d = true → evtEnabled s src d = true →
        evtSticky t src d = true ∧
        rf t .evtRpt [d, src] 7 0 = if evtSticky s src d then min 255 (rf s .evtRpt [d, src] 7 0 + 1) else 0) ∧
      (∀ d < 5, entitled s src f.inst d = false ∨ evtEnabled s src d = false →
        evtSticky t src d = evtSticky s src d ∧ rf t .evtRpt [d, src] 7 0 = rf s .evtRpt [d, src] 7 0) ∧
      ((∃ d < 5, entitled s src f.inst d = true ∧ evtEnabled s src d = true ∧ evtSticky s src d = false) →
        t.evt.head = s.evt.head + 1 ∧ ∀ d < 5, bitOf ((t.evt.log.getLastD ⟨0, 0, 0, 0, 0, 0⟩).dest) d =
          (entitled s src f.inst d && evtEnabled s src d && !evtSticky s src d)))

/-- R494: a write of 1 to a sticky flag clears it with its count; with a firing in the same cycle the flag stays set with count 1 and
the firing is delivered as a new one. -/
def Obligations.StickyFlagsClearOnWrite : Prop :=
  (∀ s d src, d < 5 → src < 256 → evtSticky s src d = true → bitOf (s.freshMask .evtStk [d, src / 32]) (src % 32) = false →
    (s.evt.shownAt ≠ s.clk.elapsed ∨ s.evt.counted = []) →
    Completes (.stickyFlagClear d src false) s fun t =>
      evtSticky t src d = false ∧ rf t .evtRpt [d, src] 7 0 = 0 ∧
      ∀ d' < 5, ∀ src' < 256, (d', src') ≠ (d, src) →
        evtSticky t src' d' = evtSticky s src' d' ∧ rf t .evtRpt [d', src'] 7 0 = rf s .evtRpt [d', src'] 7 0) ∧
  (∀ s d src f, d < 5 → src < 256 → evtSticky s src d = true → s.evt.waiting.find? (fun g => g.src = src) = some f →
    entitled s src f.inst d = true → evtEnabled s src d = true →
    Completes (.stickyFlagClear d src true) s fun t =>
      evtSticky t src d = true ∧ rf t .evtRpt [d, src] 7 0 = 1 ∧ t.evt.head = s.evt.head + 1 ∧
      (d < 4 → (src, f.inst, 1, false) ∈ (t.port d).queue) ∧
      bitOf ((t.evt.log.getLastD ⟨0, 0, 0, 0, 0, 0⟩).dest) d = true)

/-- R475, R477, R478: a request that fails its TAG, that repeats the last, that is old, or that meets one in progress. -/
def Obligations.RefusedRequestsPerformNothing : Prop :=
  (∀ s c d op payload role x o, diongRequest c = some (d, op, payload) → DiongFrom s d op payload role →
    s.session d.transport d.key d.session = some x → (d.seq + 2 ^ 32 - x.seq % 2 ^ 32) % 2 ^ 32 = 0 → x.resp = some o →
    Completes c s fun t =>
      DiongSent t d.transport (diongResponse s d (o.1 % 256) o.2.1 o.2.2 (decide (256 ≤ o.1))) ∧
      t.session d.transport d.key d.session = some { x with lastFrame := s.clk.elapsed } ∧ DeviceSame s t ∧ t.evt = s.evt ∧ t.regs = s.regs) ∧
  (∀ s c d op payload role x, diongRequest c = some (d, op, payload) → DiongFrom s d op payload role →
    s.session d.transport d.key d.session = some x → 2 ^ 31 ≤ (d.seq + 2 ^ 32 - x.seq % 2 ^ 32) % 2 ^ 32 →
    spGet 0 s.stats (okey 0x1050 2) < statMax →
    Completes c s fun t =>
      t.out = s.out ∧ t.diong.spiOut = s.diong.spiOut ∧ spGet 0 t.stats (okey 0x1050 2) = spGet 0 s.stats (okey 0x1050 2) + 1 ∧
      t.session d.transport d.key d.session = some { x with lastFrame := s.clk.elapsed } ∧ DeviceSame s t ∧ t.evt = s.evt) ∧
  (∀ s c d op payload role x, diongRequest c = some (d, op, payload) → DiongFrom s d op payload role →
    s.session d.transport d.key d.session = some x → x.busy = true →
    0 < (d.seq + 2 ^ 32 - x.seq % 2 ^ 32) % 2 ^ 32 → (d.seq + 2 ^ 32 - x.seq % 2 ^ 32) % 2 ^ 32 < 2 ^ 31 →
    Completes c s fun t =>
      DiongSent t d.transport (diongResponse s d op 7 [] false) ∧
      t.session d.transport d.key d.session = some { x with lastFrame := s.clk.elapsed } ∧ DeviceSame s t ∧ t.evt = s.evt) ∧
  (∀ s c d op payload, diongRequest c = some (d, op, payload) → diongRuns s = true → d.ver = 1 → diongLink d = true →
    roleOf s d.transport d.key = none ∨
      d.tag ≠ tagOf d.key ((keyMaterial s d.transport d.key).getD []) (frameBody_ (16 + 4 * b2n d.last) op d.session d.seq d.key 0 payload) →
    spGet 0 s.stats (okey 0x1050 1) < statMax →
    Completes c s fun t =>
      t.out = s.out ∧ t.diong.spiOut = s.diong.spiOut ∧ t.diong.sessions = s.diong.sessions ∧
      spGet 0 t.stats (okey 0x1050 1) = spGet 0 s.stats (okey 0x1050 1) + 1 ∧ Fires t 227 ∧ DeviceSame s t)

/-- Chapter 14: requests, the steps of an entry, exits, and the change between RUN and SLOTGATE with its gating. -/
def Obligations.PowerCommandsComplete : Prop :=
  (∀ s by_ tag value, by_ = some .operator ∨ by_ = some .service ∨ by_ = none ∧ s.regOff .pwrReq [] = false ∧ s.tagDeviceOrD2 tag = true →
    bitOf value 4 = true → bitsOf value 2 0 = 2 ∨ bitsOf value 2 0 = 3 →
    s.pwr.req = none → s.pwr.exit = none → s.pwr.switch = none → s.pwrState < 2 → s.pwrLevel = s.pwrState →
    s.pwr.wakeCycle ≠ s.rtcCycle + 1 →
    Completes (.powerRequest by_ tag value) s fun t =>
      t.pwr.req = some ⟨bitsOf value 2 0, bitOf value 3, s.pwrState, false⟩ ∧ t.pwr.step = 1 ∧ t.pwr.last = lastStep (bitsOf value 2 0) ∧
      t.pwrMoving = true ∧ t.pwrState = s.pwrState ∧ rf t .pwrReqStat [] 3 0 = 2 ∧ rf t .pwrReqStat [] 6 4 = bitsOf value 2 0) ∧
  (∀ s by_ tag value, by_ = some .operator ∨ by_ = some .service ∨ by_ = none ∧ s.regOff .pwrReq [] = false ∧ s.tagDeviceOrD2 tag = true →
    bitOf value 4 = true → bitsOf value 2 0 = s.pwrState → s.pwr.req = none → s.pwr.exit = none → s.pwr.switch = none → s.pwrState ≤ 2 →
    Completes (.powerRequest by_ tag value) s fun t => rf t .pwrReqStat [] 3 0 = 7 ∧ t.pwrState = s.pwrState ∧ t.pwr = s.pwr ∧ Fires t 218) ∧
  (∀ s tag value, s.regOff .pwrReq [] = false → s.tagDeviceOrD2 tag = false → Completes (.powerRequest none tag value) s fun t => t.pwr = s.pwr ∧ Fires t 224) ∧
  (∀ s r, s.pwr.req = some r → s.pwr.step = 1 → r.hot = false → s.pwr.wake = none → s.pwr.up = none →
    Completes .powerEntryStep s fun t =>
      t.pwr.depth = 1 ∧ t.pwr.step = 2 ∧ t.clk.count = max s.now (nextFrame s.frameOfs (s.pwr.accepted + 49152)) ∧
      (∀ p < 64, t.pathState p = .off) ∧ t.pwr.req = some r) ∧
  (∀ s r, s.pwr.req = some r → s.pwr.step = 2 → s.pwr.last = 2 → r.target = 2 → r.hot = false → (∀ e < 18, (s.eng e).job = none) →
    s.pwr.wake = none → s.pwr.queue = none →
    Completes .powerEntryStep s fun t =>
      t.pwrState = 2 ∧ t.pwrLevel = 2 ∧ t.pwrMoving = false ∧ t.pwr.req = none ∧ t.pwr.step = 0 ∧ (t.island 8).off = true ∧
      rf t .pwrReqStat [] 3 0 = 3 ∧ (s.pwrState ≠ 2 → Fires t 216)) ∧
  (∀ s r, s.pwr.req = some r → s.pwr.step = 4 → s.pwr.last = 4 → r.target = 3 → r.hot = false → s.pwr.wake = none → s.pwr.queue = none →
    Completes .powerEntryStep s fun t =>
      t.pwrState = 3 ∧ t.pwrLevel = 3 ∧ t.pwr.depth = 2 ∧ t.pwrMoving = false ∧ t.pwr.wakeTo = (if r.back then r.from_ else 2) ∧
      ∀ i ∈ [9, 13, 30, 32, 34], (t.island i).off = true) ∧
  (∀ s w, s.pwr.exit = some w → s.pwr.linkIdle = true → s.pwrLevel = 3 →
    Completes .powerExit s fun t =>
      t.pwrLevel = 2 ∧ t.pwr.depth = 1 ∧ t.pwr.linkIdle = false ∧ t.diong.sessions = [] ∧ t.pwr.exit = some w ∧
      t.pwr.lockSince = some t.clk.elapsed ∧ ∀ i ∈ [9, 12, 30, 31, 32, 34], (t.island i).off = false) ∧
  (∀ s w, s.pwr.exit = some w → 4 ≤ s.pwrLevel → s.boot.warmTo = none →
    Completes .warmStart s fun t =>
      t.boot.warmTo = some w ∧ t.bootPhase = 2 ∧ rbit t .pwrBoot [] 8 = true ∧ t.straps = s.straps ∧ t.nv = s.nv ∧
      t.adm.epoch = s.adm.epoch ∧ t.diong.sessions = [] ∧ rd t .aonLastwake [] = rd s .aonLastwake []) ∧
  (∀ s w, s.pwr.exit = some w → w < 2 → s.pwrLevel = 2 → s.pwr.linkIdle = false → s.boot.warmTo = none → s.pwr.lockSince = none →
    s.pwr.wake = none → s.pwr.queue = none →
    Completes .wakeToTransition s fun t =>
      t.pwrState = w ∧ t.pwrLevel = w ∧ t.pwr.depth = 0 ∧ t.pwr.exit = none ∧ t.pwrMoving = false ∧ (t.island 8).off = false ∧
      t.clk.count = max s.now (nextFrame s.frameOfs (s.pwr.accepted + 49152))) ∧
  (∀ s w, s.pwr.switch = some w → w < 2 → s.pwr.wake = none → s.pwr.queue = none →
    Completes .slotgateChange s fun t =>
      t.pwrState = w ∧ t.pwr.switch = none ∧ rf t .pwrReqStat [] 3 0 = 3 ∧
      t.clk.count = max s.now (nextFrame s.frameOfs (s.pwr.accepted + 49152))) ∧
  (∀ s p rx a b, p < 64 → s.pwrState = 1 → s.pwr.depth = 0 → s.tlRuns = true → spGet 0 s.pwr.gated (2 * p + b2n rx) = 0 →
    (idleSpans s p rx).find? (fun x => s.now < x.2 - 2048) = some (a, b) →
    Completes (.sectionGateOff p rx) s fun t =>
      spGet 0 t.pwr.gated (2 * p + b2n rx) = t.clk.elapsed + 1 ∧ t.clk.count = max s.now (a + 256)) ∧
  (∀ s p rx a b, p < 64 → spGet 0 s.pwr.gated (2 * p + b2n rx) ≠ 0 → (idleSpans s p rx).find? (fun x => s.now ≤ x.2) = some (a, b) →
    Completes (.sectionGateOn p rx) s fun t =>
      spGet 0 t.pwr.gated (2 * p + b2n rx) = 0 ∧ t.clk.count = max s.now (b - 2048))

/-- Chapter 14: the wake sources and the wake receiver. -/
def Obligations.WakeCommandsComplete : Prop :=
  (∀ s cycles, 3 ≤ cycles → WakeSettled s 1 →
    Completes (.wakePin cycles) s fun t => WakeTaken s t 1 ∧ t.clk.elapsed = s.clk.elapsed + 3 * rtcTicks) ∧
  (∀ s cycles, cycles < 3 → Completes (.wakePin cycles) s fun t => t = s) ∧
  (∀ s, rbit s .aonAlarm [] 48 = true → s.boot.rtcFrom.isSome = true → s.rtc ≤ rf s .aonAlarm [] 47 0 → WakeSettled s 2 →
    Completes .rtcAlarm s fun t =>
      WakeTaken s t 2 ∧ rbit t .aonAlarm [] 48 = false ∧
      t.clk.elapsed = s.clk.elapsed + (rf s .aonAlarm [] 47 0 - s.rtc) * rtcTicks) ∧
  (∀ s lane n, s.pwrLevel = 3 → n < 4 → rbit s .lnkPortCfg [n] 0 = true → lane ∈ (portLanes s n).map (physLane s) → WakeSettled s 4 →
    Completes (.linkSignalDetect lane) s fun t => WakeTaken s t 4) ∧
  (∀ s, s.pwrLevel = 3 → WakeSettled s 5 → Completes (.t1sFrameWake Config.t1sMac true) s fun t => WakeTaken s t 5) ∧
  (∀ s word key, (s.island 34).off = true → s.keySlot 12 = some key → key ≠ [] → word.length = 12 → word.take 4 = key.take 4 →
    (word.drop 8).take 4 = wakeTag (key.drop 4) word → counterFresh s.pwr.dbgCount (beAt word 4 4) = true → WakeSettled s 6 →
    Completes (.debugWakeWord word) s fun t => WakeTaken s t 6 ∧ t.pwr.dbgCount = beAt word 4 4) ∧
  (∀ s word, (s.island 34).off = true → word.length ≠ 12 → spGet 0 s.stats (okey 0xB111 6) < statMax →
    Completes (.debugWakeWord word) s fun t => t.pwr = s.pwr ∧ spGet 0 t.stats (okey 0xB111 6) = spGet 0 s.stats (okey 0xB111 6) + 1) ∧
  (∀ s c, c < toSigned 8 (rf s .aonThm [] 7 0) * 64 ∨ toSigned 8 (rf s .aonThm [] 15 8) * 64 < c → WakeSettled s 7 →
    Completes (.thermalAlarm c) s fun t => WakeTaken s t 7) ∧
  (∀ s a b, s.wrxRuns = true → rf s .wrxStat [] 1 0 ≤ 1 →
    Completes (.wrxSniff true a b) s fun t =>
      rf t .wrxStat [] 1 0 = 2 ∧ (rbit t .wrxStat [] 2 = true ↔ a < b) ∧ t.pwr.detect = s.clk.elapsed + 1) ∧
  (∀ s a b, s.wrxRuns = true → rf s .wrxStat [] 1 0 ≤ 1 →
    Completes (.wrxSniff false a b) s fun t => rf t .wrxStat [] 1 0 = 1 ∧ t.clk.elapsed = s.clk.elapsed + 4 * msTicks) ∧
  (∀ s hit a b, s.wrxRuns = false → Completes (.wrxSniff hit a b) s fun t => rf t .wrxStat [] 1 0 = 0) ∧
  (∀ s, s.pwr.detect ≠ 0 →
    Completes .wrxSyncTimeout s fun t =>
      rf t .wrxStat [] 1 0 = 1 ∧ t.pwr.detect = 0 ∧ rd t .wrxCnt [4] = min 0xFFFFFFFF (rd s .wrxCnt [4] + 1) ∧
      t.clk.elapsed = max s.clk.elapsed (s.pwr.detect - 1 + 12 * msTicks)) ∧
  (∀ s frame rssi key, s.wrxRuns = true → frame.length = 22 → beAt frame 8 2 = 0x6B1E → beAt frame 10 4 = rd s .wrxId [] →
    s.keySlot 11 = some key → sliceBytes frame 18 4 = wakeTag key (frame.drop 10) →
    counterFresh (rd s .wrxLastcnt []) (beAt frame 14 4) = true → WakeSettled s 3 →
    Completes (.wakeFrame frame rssi) s fun t =>
      WakeTaken s t 3 ∧ rd t .wrxLastcnt [] = beAt frame 14 4 ∧ rd t .wrxCnt [0] = min 0xFFFFFFFF (rd s .wrxCnt [0] + 1) ∧
      rf t .wrxStat [] 10 3 = ofSigned 8 rssi) ∧
  (∀ s frame rssi, s.wrxRuns = true → frame.length = 22 → beAt frame 8 2 = 0x6B1E → beAt frame 10 4 ≠ rd s .wrxId [] →
    Completes (.wakeFrame frame rssi) s fun t =>
      t.pwr.exit = s.pwr.exit ∧ rd t .wrxLastcnt [] = rd s .wrxLastcnt [] ∧ rd t .wrxCnt [3] = min 0xFFFFFFFF (rd s .wrxCnt [3] + 1)) ∧
  (∀ s, s.wrxRuns = true → s.pwr.detect = 0 →
    Completes .wrxTrim s fun t =>
      t.pwr.trimAt = max s.clk.elapsed (s.pwr.trimAt + 10 * secTicks) ∧ t.clk.elapsed = t.pwr.trimAt + msTicks)

/-- Chapter 15: codes, strobes and steps of the bias channels, supplies and the drain interlock. -/
def Obligations.BiasCommandsComplete : Prop :=
  (∀ s n e, EventFires s n 1 e → (s.island 33).off = false →
    Completes (.bdacStrobe n) s fun t => ∀ c < 128, Strobed s t c (decide (s.biasGroup c = e.target % 8))) ∧
  (∀ s, rbit s .bdacLdac [] 0 = true → (s.island 33).off = false →
    Completes .ldacEdge s fun t => ∀ c < 128, Strobed s t c (bitOf (rf s .bdacLdac [] 15 8) (s.biasGroup c))) ∧
  (∀ s tag value, s.tagDeviceOrD2 tag = true → (s.island 33).off = false → bitOf value 8 = true →
    Completes (.bdacStrobeWrite tag value) s fun t => ∀ c < 128, Strobed s t c (bitOf (value % 256) (s.biasGroup c))) ∧
  (∀ s tag c value, c < 128 → s.tagDeviceOrD2 tag = true → (s.island 33).off = false →
    Completes (.bdacCodeWrite tag c value) s fun t =>
      rf t .bdacChCode [c] 15 0 = value % 65536 ∧ rbit t .bdacChCode [c] 16 = true ∧ t.biasOut c = s.biasOut c) ∧
  (∀ s tag c value, c < 128 → s.tagDeviceOrD2 tag = false → (s.island 33).off = false →
    Completes (.bdacCodeWrite tag c value) s fun t => rd t .bdacChCode [c] = rd s .bdacChCode [c] ∧ Fires t 224) ∧
  (∀ s c, c < 128 → rbit s (if c < 64 then .bdacSc0 else .bdacSc1) [] (c % 64) = false →
    Completes (.bdacShort c true) s fun t =>
      rbit t (if c < 64 then .bdacSc0 else .bdacSc1) [] (c % 64) = true ∧ (t.bias c).lim ≠ 0 ∧ Fires t 192) ∧
  (∀ s c, c < 128 → Completes (.bdacShort c false) s fun t => (t.bias c).lim = 0) ∧
  (∀ s c, c < 128 → (s.bias c).lim ≠ 0 → s.biasRole c ≠ 0 → rbit s .bdacDrnStat [] (s.biasAmp c) = true → s.ampFaulted (s.biasAmp c) = false →
    Completes (.bdacShortTimeout c) s fun t =>
      AmpFaults t (s.biasAmp c) ∧ t.clk.elapsed = max s.clk.elapsed ((s.bias c).lim - 1 + 31458)) ∧
  (∀ s which, which < 2 → rbit s .bdacStat [] which = true →
    Completes (.bdacSupplyLow which) s fun t =>
      rbit t .bdacStat [] which = false ∧ Fires t 194 ∧
      ∀ a < 64, gateLoses s a which = true → AmpFaults t a) ∧
  (∀ s, (s.island 33).off = false →
    Completes .bdacSuppliesGood s fun t =>
      rf t .bdacStat [] 1 0 = 3 ∧
      ∀ c < 128, (s.bias c).hiZ = true → s.biasRole c ≠ 0 →
        t.biasOut c = rf s .bdacChCfg [c] 31 16 ∧ (t.bias c).hiZ = false ∧ rbit t .bdacChCode [c] 16 = false) ∧
  (∀ s c, c < 128 → rbit s .bdacChCode [c] 17 = true → 0 < rf s .bdacChCfg [c] 14 11 → s.biasOut c < (s.bias c).target →
    (s.bias c).target < 65536 →
    Completes (.bdacOutputStep c) s fun t =>
      t.biasOut c = min (s.bias c).target (s.biasOut c + 2 ^ (rf s .bdacChCfg [c] 14 11 - 1)) ∧
      rbit t .bdacChCode [c] 17 = decide (t.biasOut c ≠ (s.bias c).target) ∧
      t.clk.elapsed = max s.clk.elapsed ((s.bias c).from_ + ((s.bias c).steps + 1) * 49152 / 100)) ∧
  (∀ s tag value, s.tagDeviceOrD2 tag = true → (s.island 33).off = false →
    Completes (.drainRequest tag value) s fun t =>
      ∀ a < 64, rbit t .bdacDrnReq [] a = (bitOf value a && !s.thisHkCycle (spGet 0 s.hk.safeAt a)) ∧
        rbit t .bdacDrnStat [] a = (bitOf value a && !s.thisHkCycle (spGet 0 s.hk.safeAt a) && (rbit s .bdacDrnStat [] a || s.drainAllowed a))) ∧
  (∀ s a cause, a < 64 → cause < 5 → s.ampFaulted a = false →
    Completes (.amplifierFault a cause) s fun t => AmpFaults t a ∧ spGet 0 t.hk.safeAt a = s.clk.elapsed + 1) ∧
  (∀ s a, spGet 0 s.hk.safeAt a ≠ 0 →
    Completes (.faultSafeCode a) s fun t =>
      spGet 0 t.hk.safeAt a = 0 ∧ t.clk.elapsed = max s.clk.elapsed (spGet 0 s.hk.safeAt a - 1 + 10 * msTicks) ∧
      ∀ c ∈ s.ampChannels a, t.biasOut c = rf s .bdacChCfg [c] 31 16 ∧ rbit t .bdacChCode [c] 16 = false) ∧
  (∀ s a, a < 64 → s.ampFaulted a = false → Completes (.drainReadbackMismatch a) s fun t => AmpFaults t a) ∧
  (∀ s tag a, a < 64 → s.tagDeviceOrD2 tag = true → (s.island 33).off = false → s.ampFaulted a = true → bitOf (s.freshMask .bdacDrnFault []) a = false → faultCause s a = none →
    Completes (.drainFaultClear tag (2 ^ a)) s fun t => ∀ b < 64, t.ampFaulted b = (s.ampFaulted b && decide (b ≠ a))) ∧
  (∀ s tag a cause, a < 64 → s.tagDeviceOrD2 tag = true → (s.island 33).off = false → s.ampFaulted a = true →
    bitOf (s.freshMask .bdacDrnFault []) a = false → rbit s .bdacDrnStat [] a = false → faultCause s a = some cause →
    Completes (.drainFaultClear tag (2 ^ a)) s fun t => AmpFaults t a)

/-- Chapter 15: the monitor converters. -/
def Obligations.MonitorCommandsComplete : Prop :=
  (∀ s tag m, m < 2 → s.tagDeviceOrD2 tag = true → (s.island 33).off = false → rbit s .monCtrl [m] 0 = true → rbit s .monStat [m] 0 = false →
    Completes (.monTrigger tag m) s fun t =>
      rbit t .monStat [m] 0 = true ∧ rf t .monStat [m] 7 4 = 0 ∧ (t.mon m).since = s.clk.elapsed) ∧
  (∀ s tag m, m < 2 → s.tagDeviceOrD2 tag = true → (s.island 33).off = false → rbit s .monCtrl [m] 0 = true → rbit s .monStat [m] 0 = true →
    rbit s .monStat [m] 1 = false → Completes (.monTrigger tag m) s fun t => rbit t .monStat [m] 1 = true ∧ rbit t .monStat [m] 0 = true) ∧
  (∀ s tag m, m < 2 → s.tagDeviceOrD2 tag = true → (s.island 33).off = false → rbit s .monCtrl [m] 0 = true → rbit s .monStat [m] 0 = true →
    rbit s .monStat [m] 1 = true →
    Completes (.monTrigger tag m) s fun t =>
      rbit t .monStat [m] 3 = true ∧ rd t .monLost [m] = min 0xFFFFFFFF (rd s .monLost [m] + 1) ∧ Fires t 196) ∧
  (∀ s m r x, m < 2 → (s.island 33).off = false → rbit s .monStat [m] 0 = true → rbit s .monStat [m] 1 = false →
    rf s .monCtrl [m] 3 1 = 0 → rf s .monCtrl [m] 19 16 = rf s .monStat [m] 7 4 → rbit s .monCtrl [m] 4 = false →
    rbit s .monSeq [m, rf s .monStat [m] 7 4] 35 = false → rf s .monSeq [m, rf s .monStat [m] 7 4] 11 6 ≠ 32 →
    rf s .monSeq [m, rf s .monStat [m] 7 4] 28 27 = 0 → rbit s .monLim [m, rf s .monStat [m] 7 4] 32 = false →
    Completes (.monEntryResult m r x) s fun t =>
      rd t .monData [m] = ofSigned 32 (toSigned 24 (ofSigned 24 r)) + rf s .monStat [m] 7 4 * 2 ^ 32 + 2 ^ 36 ∧
      rbit t .monStat [m] 0 = false ∧ (rbit s .monData [m] 36 = true → rbit t .monStat [m] 2 = true ∧ Fires t 195) ∧
      t.clk.elapsed = max s.clk.elapsed ((s.mon m).since + monTicks (rd s .monSeq [m, rf s .monStat [m] 7 4]))) ∧
  (∀ s m r x, m < 2 → (s.island 33).off = false → rbit s .monStat [m] 0 = true →
    rf s .monCtrl [m] 19 16 > rf s .monStat [m] 7 4 → rf s .monSeq [m, rf s .monStat [m] 7 4] 28 27 = 0 →
    rbit s .monLim [m, rf s .monStat [m] 7 4] 32 = true → rbit s .monLim [m, rf s .monStat [m] 7 4] 33 = true →
    toSigned 16 (ofSigned 24 r >>> 8) < toSigned 16 (rd s .monLim [m, rf s .monStat [m] 7 4]) →
    s.ampFaulted (rf s .monSeq [m, rf s .monStat [m] 7 4] 34 29) = false →
    Completes (.monEntryResult m r x) s fun t =>
      Fires t 198 ∧ AmpFaults t (rf s .monSeq [m, rf s .monStat [m] 7 4] 34 29) ∧ rf t .monStat [m] 7 4 = rf s .monStat [m] 7 4 + 1) ∧
  (∀ s m, m < 2 → (s.island 33).off = false →
    Completes (.monDataRead m) s fun t =>
      t.out = s.out ++ [.bus 0 (leBytes 8 (rd s .monData [m]))] ∧ rbit t .monData [m] 36 = false ∧
      rf t .monData [m] 35 0 = rf s .monData [m] 35 0)

/-- Chapter 15: the housekeeping round, throttling, fans and the core voltage. -/
def Obligations.ThermalCommandsComplete : Prop :=
  (∀ s r shared v l, (s.island 33).off = false → (∀ x < 64, rbit s .thmBroken0 [] x = false) → (∀ x < 32, rbit s .thmBroken1 [] x = false) →
    (∀ x < 96, -3520 ≤ r.getD x 0 ∧ r.getD x 0 ≤ 9600) → (∀ x < 96, ∀ y < 96, r.getD x 0 ≤ r.getD y 0 + 512) →
    Completes (.housekeepingRound r [] shared v l) s fun t =>
      t.hk.rounds = s.hk.rounds + 1 ∧ t.hk.roundAt = max s.clk.elapsed (s.hk.roundAt + msTicks) ∧
      (∀ x < 96, t.sensor x = r.getD x 0) ∧ (∀ x < 64, rbit t .thmBroken0 [] x = false) ∧
      (∃ x < 96, toSigned 16 (rf t .thmStat [] 15 0) = r.getD x 0) ∧ (∀ x < 96, r.getD x 0 ≤ toSigned 16 (rf t .thmStat [] 15 0)) ∧
      rf t .pwrAvs [] 25 16 = v % 1024) ∧
  (∀ s r shared v l, (s.island 33).off = true → Completes (.housekeepingRound r [] shared v l) s fun t => t = s) ∧
  (∀ s c, rf s .thmStat [] 17 16 = 3 → rf s .thmCtrl [] 17 16 = 1 → dropCandidate s = some c → s.hk.dropAt = 0 →
    Completes .thermalCarrierDrop s fun t =>
      t.onum (0x2010 + c) 1 = 0 ∧ t.adm.epoch = (s.adm.epoch + 1) % 2 ^ 64 ∧ isFrame s.frameOfs t.clk.count = true ∧ Fires t 202) ∧
  (∀ s n, n < 4 → rf s .thmPwmCfg [n] 1 0 = 1 ∨ rf s .thmPwmCfg [n] 1 0 = 2 → rbit s .thmPwmDuty [n] 21 = false →
    Completes (.fanWatchdogExpiry n) s fun t =>
      rbit t .thmPwmDuty [n] 21 = true ∧ Fires t 205 ∧
      t.clk.elapsed = max s.clk.elapsed ((s.fan n).wrote + max 1 (rf s .thmCtrl [] 31 24) * secTicks)) ∧
  (∀ s n, n < 4 → rf s .thmPwmCfg [n] 1 0 = 1 → 1 ≤ rf s .thmPwmDuty [n] 19 10 → rbit s .thmTach [n] 24 = false →
    Completes (.thmFanStall n) s fun t =>
      rbit t .thmTach [n] 24 = true ∧ Fires t 204 ∧ t.clk.elapsed = max s.clk.elapsed (stallAt s n)) ∧
  (∀ s n, n < 4 → (s.island 33).off = false → (s.fan n).edge ≠ 0 → (s.clk.elapsed + 1 - (s.fan n).edge) / 10 < 2 ^ 24 →
    Completes (.tachEdge n) s fun t =>
      rf t .thmTach [n] 23 0 = (s.clk.elapsed + 1 - (s.fan n).edge) / 10 ∧ (t.fan n).edge = s.clk.elapsed + 1) ∧
  (∀ s mv, 650 ≤ mv → mv ≤ 850 → mv ≤ rf s .pwrAvs [] 9 0 + 10 → rf s .pwrAvs [] 9 0 ≤ mv + 10 → mv ≠ rf s .pwrAvs [] 9 0 →
    Completes (.vtargetUpdate mv) s fun t =>
      rf t .pwrAvs [] 9 0 = mv ∧ (s.hk.avsAt ≠ 0 → s.hk.avsAt - 1 + 100 * msTicks ≤ t.clk.elapsed))

/-- Chapter 16: the security objects: tokens, key envelopes, root records, attestation, minimums and images. -/
def Obligations.SecurityObjectCommandsComplete : Prop :=
  (∀ s role token, Manages role → token.length = 112 →
    Completes (.transitionToken role token) s fun t =>
      (tokenCheck s token = 0x10 → t.nv.lc = beAt token 13 1 ∧ (t.nv.lc ≠ s.nv.lc → t.bootPhase = 1 ∧ t.diong.sessions = [] ∧ Fires t 232)) ∧
      (tokenCheck s token ≠ 0x10 → t.nv = s.nv ∧ t.out = s.out ++ [.result (tokenCheck s token) []])) ∧
  (∀ s n token, Completes (.transitionToken (.tenant n) token) s fun t => t.nv = s.nv ∧ t.out = s.out ++ [.result 3 []]) ∧
  (∀ s role k b, Manages role → k < 13 →
    Completes (.keyEnvelope role k b) s fun t =>
      t.out.getLast? = some (.result (envelopeCheck s role k b).1 []) ∧
      ((envelopeCheck s role k b).1 = 0x10 →
        t.keySlot k = some ((envelopeCheck s role k b).2.drop 4) ∧ t.keyGen k = beAt (envelopeCheck s role k b).2 0 4 ∧ Fires t 235 ∧
        ∀ x ∈ t.diong.sessions, k ≤ 6 → sessionSlot x.transport x.key ≠ k) ∧
      ((envelopeCheck s role k b).1 ≠ 0x10 → t.nv.keys = s.nv.keys ∧ Fires t 236)) ∧
  (∀ s record,
    Completes (.rootRecord .operator record) s fun t =>
      t.out = s.out ++ [.result (rootCheck s record) []] ∧
      (rootCheck s record = 0x10 →
        (t.root (beAt record 0 1)).st = beAt record 1 1 ∧ (beAt record 1 1 = 1 → (t.root (beAt record 0 1)).key = sliceBytes record 12 97) ∧
        rf t .secRootstat [] (2 * beAt record 0 1 - 1) (2 * beAt record 0 1 - 2) = beAt record 1 1 ∧ Fires t 237) ∧
      (rootCheck s record ≠ 0x10 → t.nv = s.nv)) ∧
  (∀ s role record, role ≠ .operator → Completes (.rootRecord role record) s fun t => t.nv = s.nv ∧ t.out = s.out ++ [.result 3 []]) ∧
  (∀ s nonce, nonce.length = 48 →
    Completes (.attestation nonce) s fun t =>
      t.out = s.out ++ [.result 0 t.sec.report] ∧ sliceBytes t.sec.report 8 2 = beBytes 1 s.lc ++ beBytes 1 s.nv.reentry ∧
      sliceBytes t.sec.report 15 49 = beBytes 1 s.sec.dbgLevel ++ nonce ∧ sliceBytes t.sec.report 160 8 = beBytes 8 s.adm.epoch) ∧
  (∀ s nonce, nonce.length ≠ 48 → Completes (.attestation nonce) s fun t => t.out = s.out ++ [.result 6 []] ∧ t.sec = s.sec) ∧
  (∀ s, Completes (.raiseMinimums .operator) s fun t =>
      t.nv.minSec = max s.nv.minSec s.sec.secVersion ∧
      t.nv.minPol = (if s.ctl.fwRuns then max s.nv.minPol (rf s .secBoot [] 31 16) else s.nv.minPol) ∧ t.out = s.out ++ [.result 0 []]) ∧
  (∀ s role, role ≠ .operator → Completes (.raiseMinimums role) s fun t => t.nv = s.nv ∧ t.out = s.out ++ [.result 3 []])

/-- Chapter 16: the operations of the security mailbox. -/
def Obligations.MailboxCommandsComplete : Prop :=
  (∀ s p len, (s.island 32).off = false → s.pairStopped p = false → len ≤ 1024 →
    Completes (.verifyImage (.pair p) len) s fun t =>
      MboxDone t (if beAt (mboxBytes s len) 0 4 = 0x4657494D then imageCheck s (beAt (mboxBytes s len) 6 2) (mboxBytes s len)
        else if kernelBad s (mboxBytes s len) then 0x11 else 0x10) [] ∧ t.nv = s.nv) ∧
  (∀ s p tr len key, (s.island 32).off = false → s.pairStopped p = false → len ≤ 1024 → s.keySlot (sessionSlot tr (beAt ((mboxBytes s len).take (len - 16)) 8 1)) = some key →
    Completes (.checkDiongTag (.pair p) tr len) s fun t =>
      MboxDone t (if tagOf (beAt ((mboxBytes s len).take (len - 16)) 8 1) key ((mboxBytes s len).take (len - 16)) = (mboxBytes s len).drop (len - 16)
        then 0x10 else 0x11) []) ∧
  (∀ s p tr len key, (s.island 32).off = false → s.pairStopped p = false → len ≤ 1024 → s.keySlot (sessionSlot tr (beAt (mboxBytes s len) 8 1)) = some key →
    Completes (.makeDiongTag (.pair p) tr len) s fun t =>
      MboxDone t 0x10 (tagOf (beAt (mboxBytes s len) 8 1) key (mboxBytes s len))) ∧
  (∀ s p tr len, (s.island 32).off = false → s.pairStopped p = false → len ≤ 1024 → s.keySlot (sessionSlot tr (beAt (mboxBytes s len) 8 1)) = none →
    Completes (.makeDiongTag (.pair p) tr len) s fun t => MboxDone t 0x12 []) ∧
  (∀ s p role len, (s.island 32).off = false → s.pairStopped p = false → len ≤ 1024 →
    Completes (.mboxKeyEnvelope (.pair p) role len) s fun t =>
      MboxDone t (envelopeCheck s role (beAt (mboxBytes s len) 0 1) (mboxBytes s len)).1 [] ∧
      ((envelopeCheck s role (beAt (mboxBytes s len) 0 1) (mboxBytes s len)).1 ≠ 0x10 → t.nv.keys = s.nv.keys ∧ Fires t 236) ∧
      ((envelopeCheck s role (beAt (mboxBytes s len) 0 1) (mboxBytes s len)).1 = 0x10 →
        t.keySlot (beAt (mboxBytes s len) 0 1) = some ((envelopeCheck s role (beAt (mboxBytes s len) 0 1) (mboxBytes s len)).2.drop 4) ∧ Fires t 235)) ∧
  (∀ s p, (s.island 32).off = false → s.pairStopped p = false →
    Completes (.mboxAttestation (.pair p) 48) s fun t =>
      rf t .secMboxStat [] 15 0 = 2 + 0x10 * 256 ∧ sliceBytes t.sec.report 16 48 = mboxBytes s 48) ∧
  (∀ s p, (s.island 32).off = false → s.pairStopped p = false →
    Completes (.lifecycleToken (.pair p) 112) s fun t =>
      (tokenCheck s (mboxBytes s 112) = 0x10 → t.nv.lc = beAt (mboxBytes s 112) 13 1) ∧
      (tokenCheck s (mboxBytes s 112) ≠ 0x10 → t.nv = s.nv ∧ MboxDone t (tokenCheck s (mboxBytes s 112)) [])) ∧
  (∀ s p len, (s.island 32).off = false → s.pairStopped p = false → len ≤ 1024 →
    Completes (.mboxRootRecord (.pair p) len) s fun t =>
      MboxDone t (rootCheck s (mboxBytes s len)) [] ∧ (rootCheck s (mboxBytes s len) ≠ 0x10 → t.nv = s.nv)) ∧
  (∀ s p len, (s.island 32).off = false → s.pairStopped p = false → len ≤ 1024 →
    Completes (.randomBytes (.pair p) len) s fun t => rd t .secMboxStat [] = 2 + 0x10 * 256 + len * 65536 ∧ t.nv = s.nv) ∧
  (∀ s p len, (s.island 32).off = false → s.pairStopped p = false → 1024 < len → Completes (.randomBytes (.pair p) len) s fun t => rd t .secMboxStat [] = 3) ∧
  (∀ s p len, s.pairStopped p = true → Completes (.randomBytes (.pair p) len) s fun t => t = s) ∧
  (∀ s len, Completes (.randomBytes .debug len) s fun t => rd t .secMboxStat [] = rd s .secMboxStat [] ∧ Fires t 224)

/-- Chapter 16: the instructions of the TAP. -/
def Obligations.TapCommandsComplete : Prop :=
  (∀ s cells capture, tapRuns s = true → 3 ≤ s.sec.dbgLevel → allOff s = true →
    Completes (.extest cells capture) s fun t =>
      t.sec.tapIr = 0x00 ∧ t.sec.cells = cells % 2 ^ cellCount ∧ t.out = s.out ++ [.tap cellCount (capture % 2 ^ cellCount)] ∧
      rd t .bdacDrnStat [] = 0) ∧
  (∀ s cells capture, tapRuns s = true → s.sec.dbgLevel < 3 →
    Completes (.extest cells capture) s fun t =>
      t.sec.tapIr = 0xFF ∧ t.sec.cells = s.sec.cells ∧ t.out = s.out ++ [.tap 1 0] ∧
      rd t .dbgFails [] = min 0xFFFFFFFF (rd s .dbgFails [] + 1)) ∧
  (∀ s cells capture, tapRuns s = true →
    Completes (.samplePreload cells capture) s fun t =>
      t.sec.tapIr = 0x01 ∧ t.sec.cells = cells % 2 ^ cellCount ∧ t.out = s.out ++ [.tap cellCount (capture % 2 ^ cellCount)]) ∧
  (∀ s, tapRuns s = true → Completes .idcode s fun t => t.sec.tapIr = 0x02 ∧ t.out = s.out ++ [.tap 32 0x1C646A8B]) ∧
  (∀ s, tapRuns s = false → spGet 0 s.stats (okey 0xB111 6) < statMax →
    Completes .idcode s fun t =>
      t.sec = s.sec ∧ t.out = s.out ∧ spGet 0 t.stats (okey 0xB111 6) = spGet 0 s.stats (okey 0xB111 6) + 1) ∧
  (∀ s, tapRuns s = true → 3 ≤ s.sec.dbgLevel → allOff s = true →
    Completes .clamp s fun t => t.sec.tapIr = 0x03 ∧ t.out = s.out ++ [.tap 1 0] ∧ rd t .bdacDrnStat [] = 0) ∧
  (∀ s, tapRuns s = true → 3 ≤ s.sec.dbgLevel → allOff s = true →
    Completes .highz s fun t => t.sec.tapIr = 0x04 ∧ t.out = s.out ++ [.tap 1 0] ∧ rd t .bdacDrnStat [] = 0) ∧
  (∀ s id c, tapRuns s = true → s.lockedOut = false → s.challenge = some (id, c) →
    Completes .dbgChal s fun t => t.sec.tapIr = 0x10 ∧ t.sec.chal = s.sec.chal ∧ t.out = s.out ++ [.tap 416 (id * 2 ^ 384 + beNum c)]) ∧
  (∀ s, tapRuns s = true → s.lockedOut = false → s.challenge = none →
    Completes .dbgChal s fun t =>
      (t.sec.chal.map fun c => (c.1, c.2.1.length, c.2.2)) = some ((s.sec.chalNo + 1) % 2 ^ 32, 48, s.clk.elapsed) ∧
      t.out.length = s.out.length + 1) ∧
  (∀ s, tapRuns s = true → s.lockedOut = true → Completes .dbgChal s fun t => t.sec.chal = s.sec.chal ∧ t.out = s.out ++ [.tap 416 0]) ∧
  (∀ s response, tapRuns s = true → response.length = 192 →
    Completes (.dbgResp response) s fun t =>
      t.sec.tapIr = 0x11 ∧ rf t .dbgStat [] 23 16 = responseCheck s 0 response ∧
      (responseCheck s 0 response = 0x10 →
        t.sec.chal = none ∧ t.sec.dbgLevel = beAt response 8 1 ∧ rf t .dbgStat [] 1 0 = beAt response 8 1 ∧ Fires t 238 ∧
        t.sec.session = some ⟨beAt response 8 1, 0, s.clk.elapsed + beAt response 16 2 * 60 * secTicks, none⟩) ∧
      (responseCheck s 0 response ≠ 0x10 → t.sec.session = s.sec.session ∧ t.sec.dbgLevel = s.sec.dbgLevel ∧ Fires t 239)) ∧
  (∀ s addr wide data, tapRuns s = true → 1 ≤ s.sec.dbgLevel →
    Completes (.dbgPort addr 0 wide data) s fun t =>
      t.sec.tapIr = 0x12 ∧ t.out = s.out ++ [.tap 112 (s.sec.portStatus + s.sec.portData * 2 ^ 48)] ∧
      t.sec.portStatus = s.sec.portStatus ∧ t.sec.portData = s.sec.portData) ∧
  (∀ s addr wide data, tapRuns s = true → s.sec.dbgLevel = 1 →
    Completes (.dbgPort addr 2 wide data) s fun t =>
      t.sec.portStatus = 2 ∧ t.mem = s.mem ∧ rd t .dbgFails [] = min 0xFFFFFFFF (rd s .dbgFails [] + 1)) ∧
  (∀ s addr op wide data, tapRuns s = true → s.sec.dbgLevel = 0 →
    Completes (.dbgPort addr op wide data) s fun t => t.sec.tapIr = 0xFF ∧ t.mem = s.mem ∧ t.out = s.out ++ [.tap 1 0]) ∧
  (∀ s, tapRuns s = true → Completes .dbgStatus s fun t => t.sec.tapIr = 0x13 ∧ t.out = s.out ++ [.tap 32 (readReg s .dbgStat [])]) ∧
  (∀ s, tapRuns s = true →
    Completes (.bypass 0xFF) s fun t => t.sec.tapIr = 0xFF ∧ t.out = s.out ++ [.tap 1 0] ∧ rd t .dbgFails [] = rd s .dbgFails []) ∧
  (∀ s ir, tapRuns s = true → ir ∉ [0x00, 0x01, 0x02, 0x03, 0x04, 0x10, 0x11, 0x12, 0x13, 0xFF] →
    Completes (.bypass ir) s fun t =>
      t.sec.tapIr = 0xFF ∧ t.out = s.out ++ [.tap 1 0] ∧ rd t .dbgFails [] = min 0xFFFFFFFF (rd s .dbgFails [] + 1)) ∧
  (∀ s, tapRuns s = true → Completes .tapReset s fun t => t.sec.tapIr = 0x02 ∧ t.out = s.out)

/-- Chapter 16: challenges, debug sessions, halts, and the end of an old key. -/
def Obligations.DebugCommandsComplete : Prop :=
  (∀ s role id c, Manages role → s.lockedOut = false → s.challenge = some (id, c) →
    Completes (.challengeRead role) s fun t => t.sec = s.sec ∧ t.out = s.out ++ [.result 0 (beBytes 4 id ++ c)]) ∧
  (∀ s n, Completes (.challengeRead (.tenant n)) s fun t => t.sec = s.sec ∧ t.out = s.out ++ [.result 3 []]) ∧
  (∀ s tr id b, tr = .spi ∨ tr = .t1s → s.diong.sessions.any (fun x => decide (x.transport = tr) && decide (x.id = id)) = true →
    Completes (.debugResponse tr id b) s fun t =>
      t.out = s.out ++ [.result (responseCheck s 1 b) []] ∧ rf t .dbgStat [] 23 16 = responseCheck s 1 b ∧
      (responseCheck s 1 b = 0x10 → t.sec.dbgLevel = beAt b 8 1 ∧ (t.sec.session.bind (·.owner)) = some (tr, id) ∧ Fires t 238) ∧
      (responseCheck s 1 b ≠ 0x10 → t.sec.session = s.sec.session ∧ Fires t 239)) ∧
  (∀ s n id b, Completes (.debugResponse (.port n) id b) s fun t => t.sec = s.sec ∧ t.out = s.out ++ [.result 3 []]) ∧
  (∀ s tr id l, tunnelOpen s tr id = true → l.length % 16 = 0 → l ≠ [] → l.length ≤ 256 →
    Completes (.debugTunnel tr id l) s fun t => t.sec.tunnel.length = l.length ∧ t.out.getLast? = some (.result 0 t.sec.tunnel)) ∧
  (∀ s tr id l, tunnelOpen s tr id = false →
    Completes (.debugTunnel tr id l) s fun t => t.mem = s.mem ∧ t.regs = s.regs ∧ t.out = s.out ++ [.result 3 []]) ∧
  (∀ s tag x, tag = 4 ∨ tag = 5 → s.sec.session = some x →
    Completes (.dbgClose tag) s fun t =>
      t.sec.session = none ∧ t.sec.dbgLevel = 0 ∧ rf t .dbgStat [] 1 0 = 0 ∧ rd t .dbgEngHalt [] = 0 ∧ rd t .dbgCoreCtrl [] = 0 ∧ Fires t 240) ∧
  (∀ s tag, tag < 4 →
    Completes (.dbgClose tag) s fun t =>
      t.sec.session = s.sec.session ∧ rd t .dbgFails [] = min 0xFFFFFFFF (rd s .dbgFails [] + 1) ∧ Fires t 224) ∧
  (∀ s x, s.sec.session = some x →
    Completes .debugSessionExpiry s fun t =>
      t.sec.session = none ∧ t.sec.dbgLevel = 0 ∧ t.clk.elapsed = max s.clk.elapsed x.expiry ∧ Fires t 240) ∧
  (∀ s value, 2 ≤ s.sec.dbgLevel →
    Completes (.coreHalt 5 value) s fun t =>
      rf t .dbgCoreCtrl [] 1 0 = value % 4 ∧ (bitOf value s.ctl.active = true → s.ctl.active < 2 → rbit s .dbgCoreCtrl [] s.ctl.active = false →
        s.ctl.fwRuns = true → t.ctl.fwRuns = false ∧ t.ctl.governedStale = true)) ∧
  (∀ s tag value, tag ≠ 5 ∨ s.sec.dbgLevel < 2 →
    Completes (.coreHalt tag value) s fun t => rd t .dbgCoreCtrl [] = rd s .dbgCoreCtrl [] ∧ Fires t 224) ∧
  (∀ s value, 2 ≤ s.sec.dbgLevel → Completes (.coreStep 5 value) s fun t => rf t .dbgCoreCtrl [] 1 0 = rf s .dbgCoreCtrl [] 1 0) ∧
  (∀ s e, e < 18 → 2 ≤ s.sec.dbgLevel → (s.eng e).st = .idle ∨ (s.eng e).st = .spare → rbit s .dbgEngHalt [] e = false →
    Completes (.engineHalt 5 (2 ^ e)) s fun t => (t.eng e).st = .halted ∧ rbit t .dbgEngHalt [] e = true) ∧
  (∀ s e, e < 18 → 2 ≤ s.sec.dbgLevel → (s.eng e).st = .halted → rbit s .dbgEngHalt [] e = true →
    Completes (.engineHalt 5 0) s fun t =>
      (t.eng e).st = (if (s.eng e).job.isSome then .running else if (s.eng e).wasSpare then .spare else .idle) ∧ rbit t .dbgEngHalt [] e = false) ∧
  (∀ s n, n < 4 → (spGet (0, []) s.sec.oldCak n).1 ≠ 0 →
    Completes (.oldCakTimeout n false) s fun t =>
      spGet (0, []) t.sec.oldCak n = (0, []) ∧
      t.clk.elapsed = max s.clk.elapsed ((spGet (0, []) s.sec.oldCak n).1 - 1 + 60 * secTicks)) ∧
  (∀ s c, s.sec.chal = some c →
    Completes .debugChallengeExpiry s fun t => t.sec.chal = none ∧ t.clk.elapsed = max s.clk.elapsed (c.2.2 + 60 * secTicks)) ∧
  (∀ s e, s.sec.lockout = some e →
    Completes .debugLockoutEnd s fun t => t.sec.lockout = none ∧ t.clk.elapsed = max s.clk.elapsed (e + 60 * secTicks))

/-- Chapter 17: faults and spares of the mover, the lanes and the engines, and what wears. -/
def Obligations.SpareCommandsComplete : Prop :=
  (∀ s, s.mem.mainMover = 0 →
    Completes .mainMoverParity s fun t =>
      t.mem.mainMover = (if s.svc.moverAt ≠ 0 ∧ s.clk.elapsed + 1 < s.svc.moverAt + 86400 * secTicks then 2 else 1) ∧
      t.svc.moverAt = s.clk.elapsed + 1 ∧ Fires t 175) ∧
  (∀ s, s.mem.mainMover = 1 → rbit s .dmaCtrl [] 0 = false → Completes (.dmaMainRestored true) s fun t => t.mem.mainMover = 0 ∧ Fires t 252) ∧
  (∀ s, s.mem.mainMover = 1 → Completes (.dmaMainRestored false) s fun t => t.mem.mainMover = 2) ∧
  (∀ s, s.mem.mainMover = 1 → rbit s .dmaCtrl [] 0 = true → Completes (.dmaMainRestored true) s fun t => t = s) ∧
  (∀ s c k pos, c < 8 → k < 9 → k ∉ (s.lanes c).retired → positionOf s c k = some pos → (s.lanes c).spare = none →
    Completes (.laneFault c k) s fun t => k ∈ (t.lanes c).retired ∧ (t.pathFe (8 * c + pos)).failed = true ∧ Fires t 250) ∧
  (∀ s c k pos sp, c < 8 → k < 9 → k ∉ (s.lanes c).retired → positionOf s c k = some pos → (s.lanes c).spare = some sp → (s.lanes c).move ≠ 0 →
    (s.lanes c).pos ≠ pos →
    Completes (.laneFault c k) s fun t => (c, pos) ∈ t.svc.faulty ∧ (t.lanes c).waiting = (s.lanes c).waiting ++ [pos] ∧ Fires t 250) ∧
  (∀ s c k, c < 8 → k < 9 → k ∉ (s.lanes c).retired → positionOf s c k = none → (s.lanes c).spare = some k →
    Completes (.laneFault c k) s fun t => (t.lanes c).spare = none ∧ (t.lanes c).move = 0 ∧ k ∈ (t.lanes c).retired ∧ Fires t 250) ∧
  (∀ s e tag sp, e < 18 → s.regOff .geSvc [e] = false → s.tagDeviceOrD2 tag = true → s.ctl.fwRuns = true → (s.eng e).st = .idle → (s.eng e).queue = [] → (s.eng e).ready = [] →
    (s.eng e).yielded = none → (s.eng e).job = none → (List.range 18).find? (fun i => (s.eng i).st = .spare) = some sp →
    Completes (.engineRetire e tag false) s fun t =>
      (t.eng e).st = .retired ∧ e ∈ t.nv.engRetired ∧ t.svc.takeover = s.svc.takeover ++ [(e, true)] ∧ Fires t 251) ∧
  (∀ s e tag, s.regOff .geSvc [e] = false → s.tagDeviceOrD2 tag = false → Completes (.engineRetire e tag false) s fun t => t.ge = s.ge ∧ t.nv = s.nv ∧ Fires t 224) ∧
  (∀ s e tag, e < 18 → e ∈ s.svc.eccDue → (s.eng e).st = .running → (∀ i < 18, (s.eng i).st ≠ .spare) →
    Completes (.engineRetire e tag true) s fun t =>
      (t.eng e).st = .retired ∧ e ∉ t.svc.eccDue ∧ e ∈ t.nv.engRetired ∧ t.adm.again = true ∧ Fires t 251) ∧
  (∀ s e by_ sp, s.svc.takeover.find? (fun x => x.1 = e) = some (e, by_) → (List.range 18).find? (fun i => (s.eng i).st = .spare) = some sp →
    e ≠ sp →
    Completes (.engineSpareTakeover e) s fun t =>
      (t.eng sp).st = .idle ∧ (t.eng sp).rels = (s.eng e).rels ∧ (t.eng e).rels = [] ∧ t.engNumber sp = s.engNumber e ∧
      ∀ x ∈ t.svc.takeover, x.1 ≠ e) ∧
  (∀ s, s.pwr.depth ≤ 2 →
    Completes .poweredHour s fun t =>
      t.nv.hours = s.nv.hours + 1 ∧ t.svc.hourAt = max s.clk.elapsed (s.svc.hourAt + 3600 * secTicks)) ∧
  (∀ s kind w, w < nvWords → w ∉ s.nv.badWords →
    Completes (.nvWordWrite kind [w] true) s fun t =>
      t.nv.wTotal = s.nv.wTotal + 1 ∧ t.nv.wStore = s.nv.wStore + (if kind = 0 then 1 else 0) ∧
      t.nv.wLearn = s.nv.wLearn + (if kind = 1 then 1 else 0) ∧ t.nv.wOther = s.nv.wOther + (if 1 < kind then 1 else 0) ∧
      spGet 0 t.nv.words w = spGet 0 s.nv.words w + 1 ∧ t.nv.badWords = s.nv.badWords ∧
      (wearStep s.nvLife < wearStep t.nvLife → Fires t 245)) ∧
  (∀ s kind w v, w < nvWords → v < nvWords → w ≠ v → w ∉ s.nv.badWords → v ∉ s.nv.badWords →
    Completes (.nvWordWrite kind [w, v] true) s fun t =>
      t.nv.wTotal = s.nv.wTotal + 2 ∧ w ∈ t.nv.badWords ∧ v ∉ t.nv.badWords ∧ spGet 0 t.nv.words v = spGet 0 s.nv.words v + 1)

/-- Chapter 17: the hand-over of policy firmware. -/
def Obligations.HandoverCommandsComplete : Prop :=
  (∀ s role image, Manages role → s.ho = 0 →
    Completes (.standbyImageWrite role image) s fun t =>
      (imageCheck s 2 image = 0x10 → imageFits (1 - s.activeSlot) image = true →
        t.standby = 2 ∧ spGet [] t.nv.flash (2 + (1 - s.activeSlot)) = image ∧ t.out = s.out ++ [.result 0x10 []]) ∧
      (imageCheck s 2 image = 0x10 → imageFits (1 - s.activeSlot) image = false → t.nv = s.nv ∧ t.out = s.out ++ [.result 0x13 []]) ∧
      (imageCheck s 2 image ≠ 0x10 → t.nv = s.nv ∧ t.out = s.out ++ [.result (imageCheck s 2 image) []] ∧ Fires t 234)) ∧
  (∀ s role image, Manages role → s.ho ≠ 0 →
    Completes (.standbyImageWrite role image) s fun t => t.nv = s.nv ∧ t.out = s.out ++ [.result 7 []]) ∧
  (∀ s p, s.ctl.active < 2 → p = 1 - s.ctl.active → s.standby = 2 → s.pairStopped p = false →
    Completes (.fwStandbyReady p) s fun t => t.standby = 3 ∧ t.pairVerified p = true ∧ t.pairStopped p = false ∧ Fires t 246) ∧
  (∀ s p, p < 2 → p = s.ctl.active → s.pairStopped p = false → Completes (.fwStandbyReady p) s fun t => t.standby = s.standby ∧ Fires t 224) ∧
  (∀ s tag b tick, s.regOff .ctlFwHo [] = false → s.tagDeviceOrD2 tag = true → b = 1 ∨ b = 2 → s.standby = 3 → s.ho = 0 → s.pwrBusy = false →
    Completes (.handoverRequest tag b tick) s fun t =>
      t.ho = 1 ∧ rf t .ctlFwStat [] 11 8 = 0 ∧ rd t .ctlFwSig [] = 0 ∧
      t.svc.tb = if b = 1 then nextSlot s.frameOfs s.refMu s.refEcp (s.now + 983040) else nextFrame s.frameOfs (s.now + 983040)) ∧
  (∀ s tag tick, s.regOff .ctlFwHo [] = false → s.tagDeviceOrD2 tag = true → s.standby = 3 → s.ho = 0 → tick < s.now + 983040 →
    Completes (.handoverRequest tag 3 tick) s fun t => t.ho = 0 ∧ rf t .ctlFwStat [] 11 8 = 9) ∧
  (∀ s tag b tick, s.regOff .ctlFwHo [] = false → s.tagDeviceOrD2 tag = true → 1 ≤ b → b ≤ 3 → s.standby ≠ 3 →
    Completes (.handoverRequest tag b tick) s fun t => t.ho = s.ho ∧ rf t .ctlFwStat [] 11 8 = 2) ∧
  (∀ s, s.ho = 1 → Completes .handoverSaving s fun t => t.ho = 2 ∧ t.clk.count = max s.now (s.svc.tb - 491520)) ∧
  (∀ s p, p < 2 → p = s.ctl.active → s.ho = 2 → s.pairStopped p = false → Completes (.fwSaved p) s fun t => rbit t .ctlFwSig [] 1 = true) ∧
  (∀ s p, p < 2 → p ≠ s.ctl.active → s.pairStopped p = false →
    Completes (.fwSaved p) s fun t => rbit t .ctlFwSig [] 1 = rbit s .ctlFwSig [] 1 ∧ Fires t 224) ∧
  (∀ s p, p < 2 → s.pairStopped p = true → Completes (.fwSaved p) s fun t => t = s) ∧
  (∀ s, s.ho = 2 → s.ctl.active < 2 → s.pairVerified (1 - s.ctl.active) = true → s.pairStopped (1 - s.ctl.active) = false →
    Completes .handoverActivate s fun t =>
      t.ho = 3 ∧ t.ctl.active = 1 - s.ctl.active ∧ t.activeSlot = 1 - s.activeSlot ∧ t.pairStopped s.ctl.active = true ∧
      t.ctl.fwRuns = !rbit s .dbgCoreCtrl [] (1 - s.ctl.active) ∧
      t.clk.count = max s.now s.svc.tb ∧ t.svc.probAt = t.clk.elapsed ∧ rbit t .ctlFwStat [] 12 = !rbit s .ctlFwSig [] 1) ∧
  (∀ s p, p < 2 → p = s.ctl.active → s.ho = 3 → s.pairStopped p = false → s.clk.elapsed - s.svc.probAt + s.svc.probDone ≤ 49152000 →
    Completes (.fwAlive p) s fun t => rbit t .ctlFwSig [] 2 = true) ∧
  (∀ s, s.ho = 3 → rbit s .ctlFwSig [] 2 = true → s.ctl.promoteDue = false → s.svc.probPaused = false → s.ctl.active < 2 →
    Completes .fwHandoverDone s fun t =>
      t.ho = 0 ∧ rf t .ctlFwStat [] 11 8 = 1 ∧ t.standby = 2 ∧ t.ctl.active = s.ctl.active ∧ t.pairStopped (1 - s.ctl.active) = false ∧
      t.clk.elapsed = max s.clk.elapsed (s.svc.probAt + s.onum 0xD202 5 * secTicks - s.svc.probDone) ∧ Fires t 247) ∧
  (∀ s, s.ho = 3 → s.ctl.promoteDue = true ∨ rbit s .ctlFwSig [] 2 = false ∧ s.svc.probPaused = false → s.ctl.active < 2 →
    Completes .fwReverted s fun t =>
      t.ho = 0 ∧ rf t .ctlFwStat [] 11 8 = 8 ∧ t.standby = 4 ∧ t.ctl.active = 1 - s.ctl.active ∧ t.activeSlot = 1 - s.activeSlot ∧
      t.pairVerified s.ctl.active = false ∧ spGet [] t.nv.flash (2 + s.activeSlot) = [] ∧ t.ctl.promoteDue = false ∧
      isSlot s.frameOfs s.refMu s.refEcp t.clk.count = true ∧ Fires t 249)

/-- R602: a fault in a SPARE or WARMING lane retires that lane; a move in progress ends with result NO_SPARE, and every position stays
on its lane. -/
def Obligations.SpareLaneFaultRetiresIt : Prop :=
  ∀ s c k, c < 8 → k < 9 → (s.lanes c).spare = some k → k ∉ (s.lanes c).retired → positionOf s c k = none →
    Completes (.laneFault c k) s fun t =>
      k ∈ (t.lanes c).retired ∧ k ∈ spGet [] t.nv.laneRetired c ∧ (t.lanes c).spare = none ∧
      ((s.lanes c).move ≠ 0 → (t.lanes c).move = 0 ∧ (t.lanes c).result = 3) ∧
      ((s.lanes c).move = 0 → (t.lanes c).result = (s.lanes c).result) ∧
      (t.lanes c).map = (s.lanes c).map ∧ ∀ c', c' ≠ c → t.lanes c' = s.lanes c'

/-- Chapter 18: reset, cold start and the steps of the boot. -/
def Obligations.BootCommandsComplete : Prop :=
  (∀ s, s.boot.nreset = false → s.boot.pwrgood = true →
    Completes (.coldStart 1) s fun t =>
      t.boot.pwrgood = true ∧ t.boot.nreset = true ∧ t.bootPhase = 1 ∧ t.nv = s.nv ∧ t.clk.count = 0 ∧ t.clk.elapsed = s.clk.elapsed ∧
      t.boot.startAt = s.clk.elapsed ∧ t.objs = [] ∧ t.objsStaged = [] ∧ t.diong.sessions = [] ∧ t.adm.epoch = 0 ∧ t.lc = s.nv.lc % 8 ∧
      rd t .wrxLastcnt [] = s.nv.wrxCount % 2 ^ 32) ∧
  (∀ s, s.boot.nreset = false → s.boot.pwrgood = false →
    Completes (.coldStart 1) s fun t => t.boot.nreset = true ∧ t.boot.pwrgood = false ∧ t.bootPhase = s.bootPhase) ∧
  (∀ s pin ns, pin < 2 → 1000 ≤ ns →
    Completes (.resetAssert pin ns) s fun t =>
      t.boot.pwrgood = (s.boot.pwrgood && decide (pin ≠ 0)) ∧ t.boot.nreset = (s.boot.nreset && decide (pin ≠ 1)) ∧ t.nv = s.nv ∧
      rd t .bdacDrnStat [] = 0 ∧ t.objs = [] ∧ t.clk.elapsed = s.clk.elapsed ∧ ∀ p < 64, t.pathState p = .off) ∧
  (∀ s pin ns, ns < 100 → Completes (.resetAssert pin ns) s fun t => t = s) ∧
  (∀ s, s.boot.rtcFrom = none → Completes .osc32Qualified s fun t => t.boot.rtcFrom = some s.clk.elapsed ∧ t.rtc = 0) ∧
  (∀ s x, s.bootPhase = 1 → Completes (.bootStep x) s fun t => t.bootPhase = 2) ∧
  (∀ s x, s.bootPhase = 2 → s.boot.done2 = false → x.refclk = false →
    Completes (.bootStep x) s fun t =>
      t.bootPhase = 2 ∧ t.boot.done2 = true ∧ rf t .pwrBoot [] 7 4 = 1 ∧ t.cal.base = s.nv.base ∧
      (650 ≤ x.vtarget → x.vtarget ≤ 850 → rf t .pwrAvs [] 9 0 = x.vtarget)) ∧
  (∀ s x, s.bootPhase = 2 → s.boot.done2 = false → x.refclk = true → s.straps.bootSource = 0 →
    Completes (.bootStep x) s fun t => t.bootPhase = 3 ∧ t.boot.done2 = true) ∧
  (∀ s x, s.bootPhase = 3 → s.nv.lc = 5 → Completes (.bootStep x) s fun t => t.bootPhase = 3 ∧ rf t .pwrBoot [] 7 4 = 5) ∧
  (∀ s x, s.bootPhase = 3 → s.nv.lc ≠ 5 → s.boot.loader = false → s.straps.bootSource = 0 →
    spGet [] s.nv.flash 0 = [] → spGet [] s.nv.flash 1 = [] →
    Completes (.bootStep x) s fun t => t.boot.loader = true ∧ rf t .pwrBoot [] 7 4 = 2 ∧ t.bootPhase = 3) ∧
  (∀ s x, s.bootPhase = 4 → s.boot.loader = false → s.straps.bootSource = 0 → spGet [] s.nv.flash 2 = [] → spGet [] s.nv.flash 3 = [] →
    Completes (.bootStep x) s fun t => t.bootPhase = 5 ∧ rf t .pwrBoot [] 7 4 = 3 ∧ t.ctl.fwRuns = false ∧ t.ctl.governedStale = true) ∧
  (∀ s x, s.bootPhase = 5 →
    Completes (.bootStep x) s fun t =>
      t.bootPhase = (if (bootCommit (bootSeeded s)).1 = 0 then 6 else 7) ∧ t.pwr.depth = 1 ∧ t.pwrLevel = 2 ∧ t.boot.warmTo = none ∧
      ((bootCommit (bootSeeded s)).1 = 0 → t.pwr.exit = some (s.boot.warmTo.getD (t.onum 0xB108 1))) ∧
      ((bootCommit (bootSeeded s)).1 ≠ 0 → rf t .pwrBoot [] 7 4 = 4 ∧ Fires t 219)) ∧
  (∀ s, s.bootPhase = 2 → rf s .pwrBoot [] 7 4 = 1 → s.straps.bootSource = 0 →
    Completes .refclkQualified s fun t => t.bootPhase = 3 ∧ rf t .pwrBoot [] 7 4 = 0 ∧ t.boot.refclk = true) ∧
  (∀ s sub image, s.boot.loader = true → sub = 1 ∨ sub = 2 →
    Completes (.loaderImage sub image) s fun t =>
      spGet [] t.boot.images sub = image ∧ t.out = s.out ++ [.result 0 []] ∧
      (sub = 1 → s.bootPhase = 2 → s.boot.done2 = true → rf s .pwrBoot [] 7 4 ≠ 1 → t.bootPhase = 3)) ∧
  (∀ s sub image, s.boot.loader = false → Completes (.loaderImage sub image) s fun t => t.boot = s.boot ∧ t.out = s.out ++ [.result 0x0C []]) ∧
  (∀ s value, 2 ≤ s.sec.dbgLevel → bitOf value 9 = true → s.straps.bootSource = 3 → s.bootPhase = 2 →
    Completes (.pwrBootGo 5 value) s fun t => t.boot.go = true ∧ rbit t .pwrBoot [] 9 = true) ∧
  (∀ s tag value, tag ≠ 5 ∨ s.sec.dbgLevel < 2 → Completes (.pwrBootGo tag value) s fun t => t.boot.go = s.boot.go ∧ Fires t 224)
end

