-- ==== Sys2Proof/Laws/Exec.lean ====
section
/-! SUPPORT. The meaning of each command, and of a step, as equations. -/

namespace Sys2Proof.Machine

@[simp] theorem exec_registerWrite (x0 : Master) (x1 : Nat) (x2 : Nat) (x3 : Nat) (s : State) : exec (.registerWrite x0 x1 x2 x3) s = execRegisterWrite x0 x1 x2 x3 s := rfl
@[simp] theorem exec_sramAccess (x0 : Nat) (x1 : Nat) (x2 : Nat) (x3 : Nat) (x4 : Option (List Byte)) (x5 : List Nat) (x6 : List Nat) (s : State) : exec (.sramAccess x0 x1 x2 x3 x4 x5 x6) s = execSramAccess x0 x1 x2 x3 x4 x5 x6 s := rfl
@[simp] theorem exec_arbitrationPhase (x0 : Nat) (x1 : List Nat) (x2 : Nat) (s : State) : exec (.arbitrationPhase x0 x1 x2) s = execArbitrationPhase x0 x1 x2 s := rfl
@[simp] theorem exec_crossingPulse (x0 : Nat) (x1 : Nat) (x2 : Nat) (s : State) : exec (.crossingPulse x0 x1 x2) s = execCrossingPulse x0 x1 x2 s := rfl
@[simp] theorem exec_crossingWakeRequest (x0 : Nat) (s : State) : exec (.crossingWakeRequest x0) s = execCrossingWakeRequest x0 s := rfl
@[simp] theorem exec_islandResetCommand (x0 : Nat) (x1 : List Nat) (s : State) : exec (.islandResetCommand x0 x1) s = execIslandResetCommand x0 x1 s := rfl
@[simp] theorem exec_lockstepFault (x0 : Nat) (s : State) : exec (.lockstepFault x0) s = execLockstepFault x0 s := rfl
@[simp] theorem exec_pairPromotion (s : State) : exec (.pairPromotion) s = execPairPromotion s := rfl
@[simp] theorem exec_lostFlagClear (x0 : Role) (x1 : Nat) (x2 : Nat) (s : State) : exec (.lostFlagClear x0 x1 x2) s = execLostFlagClear x0 x1 x2 s := rfl
@[simp] theorem exec_ptpCorrectionRequest (x0 : Int) (s : State) : exec (.ptpCorrectionRequest x0) s = execPtpCorrectionRequest x0 s := rfl
@[simp] theorem exec_timelineStepApply (s : State) : exec (.timelineStepApply) s = execTimelineStepApply s := rfl
@[simp] theorem exec_tlNowLoRead (s : State) : exec (.tlNowLoRead) s = execTlNowLoRead s := rfl
@[simp] theorem exec_patternEntryBoundary (s : State) : exec (.patternEntryBoundary) s = execPatternEntryBoundary s := rfl
@[simp] theorem exec_turnaroundStep (x0 : Nat) (s : State) : exec (.turnaroundStep x0) s = execTurnaroundStep x0 s := rfl
@[simp] theorem exec_guardEnd (s : State) : exec (.guardEnd) s = execGuardEnd s := rfl
@[simp] theorem exec_bdacStrobe (x0 : Nat) (s : State) : exec (.bdacStrobe x0) s = execBdacStrobe x0 s := rfl
@[simp] theorem exec_weightHandover (x0 : Nat) (s : State) : exec (.weightHandover x0) s = execWeightHandover x0 s := rfl
@[simp] theorem exec_tileStart (x0 : Nat) (s : State) : exec (.tileStart x0) s = execTileStart x0 s := rfl
@[simp] theorem exec_captureOpen (x0 : Nat) (s : State) : exec (.captureOpen x0) s = execCaptureOpen x0 s := rfl
@[simp] theorem exec_dmaStart (x0 : Nat) (s : State) : exec (.dmaStart x0) s = execDmaStart x0 s := rfl
@[simp] theorem exec_sync (x0 : Nat) (s : State) : exec (.sync x0) s = execSync x0 s := rfl
@[simp] theorem exec_loHop (x0 : Nat) (s : State) : exec (.loHop x0) s = execLoHop x0 s := rfl
@[simp] theorem exec_loTune (x0 : Nat) (s : State) : exec (.loTune x0) s = execLoTune x0 s := rfl
@[simp] theorem exec_feSerial (x0 : Nat) (s : State) : exec (.feSerial x0) s = execFeSerial x0 s := rfl
@[simp] theorem exec_orxVisit (x0 : Nat) (s : State) : exec (.orxVisit x0) s = execOrxVisit x0 s := rfl
@[simp] theorem exec_calWindow (x0 : Nat) (s : State) : exec (.calWindow x0) s = execCalWindow x0 s := rfl
@[simp] theorem exec_commit (x0 : DHdr) (x1 : Nat) (x2 : Nat) (s : State) : exec (.commit x0 x1 x2) s = execCommit x0 x1 x2 s := rfl
@[simp] theorem exec_admissionResult (s : State) : exec (.admissionResult) s = execAdmissionResult s := rfl
@[simp] theorem exec_commitBoundary (s : State) : exec (.commitBoundary) s = execCommitBoundary s := rfl
@[simp] theorem exec_abort (x0 : DHdr) (s : State) : exec (.abort x0) s = execAbort x0 s := rfl
@[simp] theorem exec_capacityLossReadmission (s : State) : exec (.capacityLossReadmission) s = execCapacityLossReadmission s := rfl
@[simp] theorem exec_carrierDropRemoval (s : State) : exec (.carrierDropRemoval) s = execCarrierDropRemoval s := rfl
@[simp] theorem exec_loSynEnable (x0 : Nat) (s : State) : exec (.loSynEnable x0) s = execLoSynEnable x0 s := rfl
@[simp] theorem exec_loSynDisable (x0 : Nat) (s : State) : exec (.loSynDisable x0) s = execLoSynDisable x0 s := rfl
@[simp] theorem exec_vcoCalibrationDone (x0 : Nat) (s : State) : exec (.vcoCalibrationDone x0) s = execVcoCalibrationDone x0 s := rfl
@[simp] theorem exec_synLockAchieved (x0 : Nat) (s : State) : exec (.synLockAchieved x0) s = execSynLockAchieved x0 s := rfl
@[simp] theorem exec_synSettleTimeout (x0 : Nat) (s : State) : exec (.synSettleTimeout x0) s = execSynSettleTimeout x0 s := rfl
@[simp] theorem exec_synLockLoss (x0 : Nat) (s : State) : exec (.synLockLoss x0) s = execSynLockLoss x0 s := rfl
@[simp] theorem exec_refclkLoss (x0 : Nat) (s : State) : exec (.refclkLoss x0) s = execRefclkLoss x0 s := rfl
@[simp] theorem exec_refclkRecovery (x0 : List Nat) (s : State) : exec (.refclkRecovery x0) s = execRefclkRecovery x0 s := rfl
@[simp] theorem exec_hopResyncPulse (s : State) : exec (.hopResyncPulse) s = execHopResyncPulse s := rfl
@[simp] theorem exec_hopDividerCheck (x0 : List Nat) (s : State) : exec (.hopDividerCheck x0) s = execHopDividerCheck x0 s := rfl
@[simp] theorem exec_hopComplete (s : State) : exec (.hopComplete) s = execHopComplete s := rfl
@[simp] theorem exec_dividerResync (s : State) : exec (.dividerResync) s = execDividerResync s := rfl
@[simp] theorem exec_txSymbolStart (x0 : Nat) (x1 : Nat) (s : State) : exec (.txSymbolStart x0 x1) s = execTxSymbolStart x0 x1 s := rfl
@[simp] theorem exec_forcedRetune (x0 : Role) (x1 : Nat) (x2 : Nat) (x3 : Nat) (s : State) : exec (.forcedRetune x0 x1 x2 x3) s = execForcedRetune x0 x1 x2 x3 s := rfl
@[simp] theorem exec_lnaBypass (x0 : Nat) (s : State) : exec (.lnaBypass x0) s = execLnaBypass x0 s := rfl
@[simp] theorem exec_lnaReturn (x0 : Nat) (s : State) : exec (.lnaReturn x0) s = execLnaReturn x0 s := rfl
@[simp] theorem exec_overloadAssert (x0 : Nat) (s : State) : exec (.overloadAssert x0) s = execOverloadAssert x0 s := rfl
@[simp] theorem exec_strapSample (x0 : List Nat) (x1 : List Nat) (s : State) : exec (.strapSample x0 x1) s = execStrapSample x0 x1 s := rfl
@[simp] theorem exec_resetPhaseEnd (s : State) : exec (.resetPhaseEnd) s = execResetPhaseEnd s := rfl
@[simp] theorem exec_serialTransaction (x0 : Nat) (x1 : Bool) (s : State) : exec (.serialTransaction x0 x1) s = execSerialTransaction x0 x1 s := rfl
@[simp] theorem exec_serialTransactionDone (x0 : Nat) (x1 : List Bool) (x2 : List Byte) (s : State) : exec (.serialTransactionDone x0 x1 x2) s = execSerialTransactionDone x0 x1 x2 s := rfl
@[simp] theorem exec_rotationStepEnd (x0 : Nat) (x1 : SliceEst) (s : State) : exec (.rotationStepEnd x0 x1) s = execRotationStepEnd x0 x1 s := rfl
@[simp] theorem exec_sliceSwap (x0 : Nat) (s : State) : exec (.sliceSwap x0) s = execSliceSwap x0 s := rfl
@[simp] theorem exec_stuckSliceDetect (x0 : Nat) (x1 : Nat) (s : State) : exec (.stuckSliceDetect x0 x1) s = execStuckSliceDetect x0 x1 s := rfl
@[simp] theorem exec_emergencySwap (x0 : Nat) (x1 : Nat) (s : State) : exec (.emergencySwap x0 x1) s = execEmergencySwap x0 x1 s := rfl
@[simp] theorem exec_dacDwellStart (x0 : Nat) (s : State) : exec (.dacDwellStart x0) s = execDacDwellStart x0 s := rfl
@[simp] theorem exec_dacDwellEnd (x0 : Nat) (x1 : Nat) (x2 : Int) (x3 : Bool) (s : State) : exec (.dacDwellEnd x0 x1 x2 x3) s = execDacDwellEnd x0 x1 x2 x3 s := rfl
@[simp] theorem exec_orxVisitEnd (x0 : Nat) (s : State) : exec (.orxVisitEnd x0) s = execOrxVisitEnd x0 s := rfl
@[simp] theorem exec_bestEffortVisit (x0 : Nat) (x1 : Nat) (x2 : Nat) (s : State) : exec (.bestEffortVisit x0 x1 x2) s = execBestEffortVisit x0 x1 x2 s := rfl
@[simp] theorem exec_orxFailure (x0 : Nat) (s : State) : exec (.orxFailure x0) s = execOrxFailure x0 s := rfl
@[simp] theorem exec_captureDrainComplete (x0 : Nat) (x1 : List Cplx) (x2 : List Cplx) (x3 : Bool) (s : State) : exec (.captureDrainComplete x0 x1 x2 x3) s = execCaptureDrainComplete x0 x1 x2 x3 s := rfl
@[simp] theorem exec_captureRelease (x0 : Nat) (x1 : Nat) (x2 : Nat) (s : State) : exec (.captureRelease x0 x1 x2) s = execCaptureRelease x0 x1 x2 s := rfl
@[simp] theorem exec_syncPinEdge (x0 : Nat) (s : State) : exec (.syncPinEdge x0) s = execSyncPinEdge x0 s := rfl
@[simp] theorem exec_syncNow (x0 : Nat) (s : State) : exec (.syncNow x0) s = execSyncNow x0 s := rfl
@[simp] theorem exec_syncRequestObject (x0 : Role) (x1 : Nat) (s : State) : exec (.syncRequestObject x0 x1) s = execSyncRequestObject x0 x1 s := rfl
@[simp] theorem exec_syncTakeEffect (s : State) : exec (.syncTakeEffect) s = execSyncTakeEffect s := rfl
@[simp] theorem exec_syncFillEnd (x0 : Nat) (s : State) : exec (.syncFillEnd x0) s = execSyncFillEnd x0 s := rfl
@[simp] theorem exec_fastPathEstimate (x0 : Nat) (x1 : List Int) (x2 : List Int) (x3 : Nat) (x4 : Nat) (s : State) : exec (.fastPathEstimate x0 x1 x2 x3 x4) s = execFastPathEstimate x0 x1 x2 x3 x4 s := rfl
@[simp] theorem exec_agcRelease (x0 : Nat) (s : State) : exec (.agcRelease x0) s = execAgcRelease x0 s := rfl
@[simp] theorem exec_limiterLnaReturn (x0 : Nat) (s : State) : exec (.limiterLnaReturn x0) s = execLimiterLnaReturn x0 s := rfl
@[simp] theorem exec_rxFftWindowEnd (x0 : Nat) (x1 : Nat) (x2 : List Int) (x3 : List Int) (x4 : Nat) (s : State) : exec (.rxFftWindowEnd x0 x1 x2 x3 x4) s = execRxFftWindowEnd x0 x1 x2 x3 x4 s := rfl
@[simp] theorem exec_prachOccasion (x0 : Nat) (x1 : Nat) (x2 : Nat) (x3 : List Cplx) (x4 : Nat) (s : State) : exec (.prachOccasion x0 x1 x2 x3 x4) s = execPrachOccasion x0 x1 x2 x3 x4 s := rfl
@[simp] theorem exec_laneMoveRequest (x0 : Nat) (x1 : Nat) (x2 : Nat) (s : State) : exec (.laneMoveRequest x0 x1 x2) s = execLaneMoveRequest x0 x1 x2 s := rfl
@[simp] theorem exec_laneWarmStart (x0 : Nat) (s : State) : exec (.laneWarmStart x0) s = execLaneWarmStart x0 s := rfl
@[simp] theorem exec_laneSwitch (x0 : Nat) (x1 : Bool) (s : State) : exec (.laneSwitch x0 x1) s = execLaneSwitch x0 x1 s := rfl
@[simp] theorem exec_coefficientRoll (s : State) : exec (.coefficientRoll) s = execCoefficientRoll s := rfl
@[simp] theorem exec_coefficientWrite (x0 : Nat) (x1 : Nat) (x2 : Nat) (s : State) : exec (.coefficientWrite x0 x1 x2) s = execCoefficientWrite x0 x1 x2 s := rfl
@[simp] theorem exec_txSymbolRead (x0 : Nat) (x1 : Nat) (x2 : List Nat) (s : State) : exec (.txSymbolRead x0 x1 x2) s = execTxSymbolRead x0 x1 x2 s := rfl
@[simp] theorem exec_slotBoundary (x0 : Nat) (x1 : Unit) (x2 : Unit) (x3 : Unit) (x4 : Unit) (x5 : Unit) (x6 : List Cplx) (s : State) : exec (.slotBoundary x0 x1 x2 x3 x4 x5 x6) s = execSlotBoundary x0 x1 x2 x3 x4 x5 x6 s := rfl
@[simp] theorem exec_dlRunStart (x0 : Nat) (s : State) : exec (.dlRunStart x0) s = execDlRunStart x0 s := rfl
@[simp] theorem exec_ulRunStart (x0 : Nat) (s : State) : exec (.ulRunStart x0) s = execUlRunStart x0 s := rfl
@[simp] theorem exec_weightBlock (x0 : Role) (x1 : List Byte) (s : State) : exec (.weightBlock x0 x1) s = execWeightBlock x0 x1 s := rfl
@[simp] theorem exec_weightVectorLand (x0 : Bool) (s : State) : exec (.weightVectorLand x0) s = execWeightVectorLand x0 s := rfl
@[simp] theorem exec_ergDeclared (x0 : Nat) (s : State) : exec (.ergDeclared x0) s = execErgDeclared x0 s := rfl
@[simp] theorem exec_ergPathOff (x0 : Nat) (s : State) : exec (.ergPathOff x0) s = execErgPathOff x0 s := rfl
@[simp] theorem exec_ergResynthStart (s : State) : exec (.ergResynthStart) s = execErgResynthStart s := rfl
@[simp] theorem exec_ergResynthDone (s : State) : exec (.ergResynthDone) s = execErgResynthDone s := rfl
@[simp] theorem exec_healDeclare (x0 : Nat) (x1 : Bool) (x2 : Nat) (s : State) : exec (.healDeclare x0 x1 x2) s = execHealDeclare x0 x1 x2 s := rfl
@[simp] theorem exec_healClear (x0 : Nat) (x1 : Bool) (x2 : Nat) (s : State) : exec (.healClear x0 x1 x2) s = execHealClear x0 x1 x2 s := rfl
@[simp] theorem exec_ergPathRestored (x0 : Nat) (s : State) : exec (.ergPathRestored x0) s = execErgPathRestored x0 s := rfl
@[simp] theorem exec_tileFail (x0 : Nat) (s : State) : exec (.tileFail x0) s = execTileFail x0 s := rfl
@[simp] theorem exec_tileSpareTakeover (s : State) : exec (.tileSpareTakeover) s = execTileSpareTakeover s := rfl
@[simp] theorem exec_prachCombine (x0 : Nat) (s : State) : exec (.prachCombine x0) s = execPrachCombine x0 s := rfl
@[simp] theorem exec_dpdThermalUpdate (x0 : Nat) (x1 : Unit) (x2 : Unit) (s : State) : exec (.dpdThermalUpdate x0 x1 x2) s = execDpdThermalUpdate x0 x1 x2 s := rfl
@[simp] theorem exec_dpdBankWrite (x0 : Nat) (x1 : Nat) (x2 : Nat) (s : State) : exec (.dpdBankWrite x0 x1 x2) s = execDpdBankWrite x0 x1 x2 s := rfl
@[simp] theorem exec_dpdHoRequest (x0 : Nat) (x1 : Nat) (x2 : Nat) (s : State) : exec (.dpdHoRequest x0 x1 x2) s = execDpdHoRequest x0 x1 x2 s := rfl
@[simp] theorem exec_dpdHoCheckDone (x0 : Nat) (s : State) : exec (.dpdHoCheckDone x0) s = execDpdHoCheckDone x0 s := rfl
@[simp] theorem exec_dpdRampStep (x0 : Nat) (s : State) : exec (.dpdRampStep x0) s = execDpdRampStep x0 s := rfl
@[simp] theorem exec_dpdDivergenceWindow (x0 : Nat) (x1 : List Cplx) (x2 : Nat) (s : State) : exec (.dpdDivergenceWindow x0 x1 x2) s = execDpdDivergenceWindow x0 x1 x2 s := rfl
@[simp] theorem exec_dpdProbationEnd (x0 : Nat) (s : State) : exec (.dpdProbationEnd x0) s = execDpdProbationEnd x0 s := rfl
@[simp] theorem exec_dpdFallback (x0 : Nat) (s : State) : exec (.dpdFallback x0) s = execDpdFallback x0 s := rfl
@[simp] theorem exec_dpdIdentity (x0 : Nat) (s : State) : exec (.dpdIdentity x0) s = execDpdIdentity x0 s := rfl
@[simp] theorem exec_dpdFallbackCheckEnd (x0 : Nat) (s : State) : exec (.dpdFallbackCheckEnd x0) s = execDpdFallbackCheckEnd x0 s := rfl
@[simp] theorem exec_dpdReq (x0 : Nat) (x1 : Nat) (s : State) : exec (.dpdReq x0 x1) s = execDpdReq x0 x1 s := rfl
@[simp] theorem exec_dpdJobStart (s : State) : exec (.dpdJobStart) s = execDpdJobStart s := rfl
@[simp] theorem exec_nop (x0 : GeC) (s : State) : exec (.nop x0) s = execNop x0 s := rfl
@[simp] theorem exec_add (x0 : GeC) (s : State) : exec (.add x0) s = execAdd x0 s := rfl
@[simp] theorem exec_sub (x0 : GeC) (s : State) : exec (.sub x0) s = execSub x0 s := rfl
@[simp] theorem exec_addh (x0 : GeC) (s : State) : exec (.addh x0) s = execAddh x0 s := rfl
@[simp] theorem exec_subh (x0 : GeC) (s : State) : exec (.subh x0) s = execSubh x0 s := rfl
@[simp] theorem exec_neg (x0 : GeC) (s : State) : exec (.neg x0) s = execNeg x0 s := rfl
@[simp] theorem exec_conj (x0 : GeC) (s : State) : exec (.conj x0) s = execConj x0 s := rfl
@[simp] theorem exec_swap (x0 : GeC) (s : State) : exec (.swap x0) s = execSwap x0 s := rfl
@[simp] theorem exec_shl (x0 : GeC) (s : State) : exec (.shl x0) s = execShl x0 s := rfl
@[simp] theorem exec_shr (x0 : GeC) (s : State) : exec (.shr x0) s = execShr x0 s := rfl
@[simp] theorem exec_mov (x0 : GeC) (s : State) : exec (.mov x0) s = execMov x0 s := rfl
@[simp] theorem exec_cmul (x0 : GeC) (s : State) : exec (.cmul x0) s = execCmul x0 s := rfl
@[simp] theorem exec_mag2 (x0 : GeC) (s : State) : exec (.mag2 x0) s = execMag2 x0 s := rfl
@[simp] theorem exec_iadd (x0 : GeC) (s : State) : exec (.iadd x0) s = execIadd x0 s := rfl
@[simp] theorem exec_isub (x0 : GeC) (s : State) : exec (.isub x0) s = execIsub x0 s := rfl
@[simp] theorem exec_andOp (x0 : GeC) (s : State) : exec (.andOp x0) s = execAndOp x0 s := rfl
@[simp] theorem exec_orOp (x0 : GeC) (s : State) : exec (.orOp x0) s = execOrOp x0 s := rfl
@[simp] theorem exec_xorOp (x0 : GeC) (s : State) : exec (.xorOp x0) s = execXorOp x0 s := rfl
@[simp] theorem exec_ishl (x0 : GeC) (s : State) : exec (.ishl x0) s = execIshl x0 s := rfl
@[simp] theorem exec_ishr (x0 : GeC) (s : State) : exec (.ishr x0) s = execIshr x0 s := rfl
@[simp] theorem exec_icmp (x0 : GeC) (s : State) : exec (.icmp x0) s = execIcmp x0 s := rfl
@[simp] theorem exec_clra (x0 : GeC) (s : State) : exec (.clra x0) s = execClra x0 s := rfl
@[simp] theorem exec_cmac4 (x0 : GeC) (s : State) : exec (.cmac4 x0) s = execCmac4 x0 s := rfl
@[simp] theorem exec_cmacb (x0 : GeC) (s : State) : exec (.cmacb x0) s = execCmacb x0 s := rfl
@[simp] theorem exec_cdot (x0 : GeC) (s : State) : exec (.cdot x0) s = execCdot x0 s := rfl
@[simp] theorem exec_acca (x0 : GeC) (s : State) : exec (.acca x0) s = execAcca x0 s := rfl
@[simp] theorem exec_ashr (x0 : GeC) (s : State) : exec (.ashr x0) s = execAshr x0 s := rfl
@[simp] theorem exec_mova (x0 : GeC) (s : State) : exec (.mova x0) s = execMova x0 s := rfl
@[simp] theorem exec_extr (x0 : GeC) (s : State) : exec (.extr x0) s = execExtr x0 s := rfl
@[simp] theorem exec_sat (x0 : GeC) (s : State) : exec (.sat x0) s = execSat x0 s := rfl
@[simp] theorem exec_norm (x0 : GeC) (s : State) : exec (.norm x0) s = execNorm x0 s := rfl
@[simp] theorem exec_expa (x0 : GeC) (s : State) : exec (.expa x0) s = execExpa x0 s := rfl
@[simp] theorem exec_exp (x0 : GeC) (s : State) : exec (.exp x0) s = execExp x0 s := rfl
@[simp] theorem exec_bexp (x0 : GeC) (s : State) : exec (.bexp x0) s = execBexp x0 s := rfl
@[simp] theorem exec_bxadd (x0 : GeC) (s : State) : exec (.bxadd x0) s = execBxadd x0 s := rfl
@[simp] theorem exec_setbs (x0 : GeC) (s : State) : exec (.setbs x0) s = execSetbs x0 s := rfl
@[simp] theorem exec_bfly (x0 : GeC) (s : State) : exec (.bfly x0) s = execBfly x0 s := rfl
@[simp] theorem exec_mfr (x0 : GeC) (s : State) : exec (.mfr x0) s = execMfr x0 s := rfl
@[simp] theorem exec_mtr (x0 : GeC) (s : State) : exec (.mtr x0) s = execMtr x0 s := rfl
@[simp] theorem exec_ldW (x0 : GeM) (s : State) : exec (.ldW x0) s = execLdW x0 s := rfl
@[simp] theorem exec_stW (x0 : GeM) (s : State) : exec (.stW x0) s = execStW x0 s := rfl
@[simp] theorem exec_ldD (x0 : GeM) (s : State) : exec (.ldD x0) s = execLdD x0 s := rfl
@[simp] theorem exec_stD (x0 : GeM) (s : State) : exec (.stD x0) s = execStD x0 s := rfl
@[simp] theorem exec_ldH (x0 : GeM) (s : State) : exec (.ldH x0) s = execLdH x0 s := rfl
@[simp] theorem exec_addi (x0 : GeA) (s : State) : exec (.addi x0) s = execAddi x0 s := rfl
@[simp] theorem exec_addm (x0 : GeA) (s : State) : exec (.addm x0) s = execAddm x0 s := rfl
@[simp] theorem exec_movp (x0 : GeA) (s : State) : exec (.movp x0) s = execMovp x0 s := rfl
@[simp] theorem exec_movm (x0 : GeA) (s : State) : exec (.movm x0) s = execMovm x0 s := rfl
@[simp] theorem exec_movb (x0 : GeA) (s : State) : exec (.movb x0) s = execMovb x0 s := rfl
@[simp] theorem exec_movl (x0 : GeA) (s : State) : exec (.movl x0) s = execMovl x0 s := rfl
@[simp] theorem exec_setm (x0 : GeA) (s : State) : exec (.setm x0) s = execSetm x0 s := rfl
@[simp] theorem exec_nopc (x0 : GeK) (s : State) : exec (.nopc x0) s = execNopc x0 s := rfl
@[simp] theorem exec_jmp (x0 : GeK) (s : State) : exec (.jmp x0) s = execJmp x0 s := rfl
@[simp] theorem exec_jz (x0 : GeK) (s : State) : exec (.jz x0) s = execJz x0 s := rfl
@[simp] theorem exec_jnz (x0 : GeK) (s : State) : exec (.jnz x0) s = execJnz x0 s := rfl
@[simp] theorem exec_jn (x0 : GeK) (s : State) : exec (.jn x0) s = execJn x0 s := rfl
@[simp] theorem exec_jnn (x0 : GeK) (s : State) : exec (.jnn x0) s = execJnn x0 s := rfl
@[simp] theorem exec_call (x0 : GeK) (s : State) : exec (.call x0) s = execCall x0 s := rfl
@[simp] theorem exec_ret (x0 : GeK) (s : State) : exec (.ret x0) s = execRet x0 s := rfl
@[simp] theorem exec_loop0 (x0 : GeK) (s : State) : exec (.loop0 x0) s = execLoop0 x0 s := rfl
@[simp] theorem exec_loop1 (x0 : GeK) (s : State) : exec (.loop1 x0) s = execLoop1 x0 s := rfl
@[simp] theorem exec_loopr0 (x0 : GeK) (s : State) : exec (.loopr0 x0) s = execLoopr0 x0 s := rfl
@[simp] theorem exec_loopr1 (x0 : GeK) (s : State) : exec (.loopr1 x0) s = execLoopr1 x0 s := rfl
@[simp] theorem exec_ei (x0 : GeK) (s : State) : exec (.ei x0) s = execEi x0 s := rfl
@[simp] theorem exec_di (x0 : GeK) (s : State) : exec (.di x0) s = execDi x0 s := rfl
@[simp] theorem exec_reti (x0 : GeK) (s : State) : exec (.reti x0) s = execReti x0 s := rfl
@[simp] theorem exec_xfer (x0 : GeK) (s : State) : exec (.xfer x0) s = execXfer x0 s := rfl
@[simp] theorem exec_xwait (x0 : GeK) (s : State) : exec (.xwait x0) s = execXwait x0 s := rfl
@[simp] theorem exec_done (x0 : GeK) (s : State) : exec (.done x0) s = execDone x0 s := rfl
@[simp] theorem exec_yield (x0 : GeK) (s : State) : exec (.yield x0) s = execYield x0 s := rfl
@[simp] theorem exec_ldi (x0 : GeK) (x1 : Nat) (s : State) : exec (.ldi x0 x1) s = execLdi x0 x1 s := rfl
@[simp] theorem exec_transferComplete (x0 : Nat) (x1 : Nat) (s : State) : exec (.transferComplete x0 x1) s = execTransferComplete x0 x1 s := rfl
@[simp] theorem exec_interruptAccept (x0 : Nat) (s : State) : exec (.interruptAccept x0) s = execInterruptAccept x0 s := rfl
@[simp] theorem exec_geDoorbell (x0 : Nat) (x1 : Nat) (x2 : Nat) (s : State) : exec (.geDoorbell x0 x1 x2) s = execGeDoorbell x0 x1 x2 s := rfl
@[simp] theorem exec_gePost (x0 : Nat) (x1 : Nat) (x2 : Nat) (s : State) : exec (.gePost x0 x1 x2) s = execGePost x0 x1 x2 s := rfl
@[simp] theorem exec_releaseEntryFire (x0 : Nat) (x1 : Nat) (s : State) : exec (.releaseEntryFire x0 x1) s = execReleaseEntryFire x0 x1 s := rfl
@[simp] theorem exec_jobStart (x0 : Nat) (s : State) : exec (.jobStart x0) s = execJobStart x0 s := rfl
@[simp] theorem exec_preemptLate (x0 : Nat) (s : State) : exec (.preemptLate x0) s = execPreemptLate x0 s := rfl
@[simp] theorem exec_jobOverrun (x0 : Nat) (s : State) : exec (.jobOverrun x0) s = execJobOverrun x0 s := rfl
@[simp] theorem exec_geCplRead (x0 : Nat) (s : State) : exec (.geCplRead x0) s = execGeCplRead x0 s := rfl
@[simp] theorem exec_engineRollMove (x0 : Nat) (s : State) : exec (.engineRollMove x0) s = execEngineRollMove x0 s := rfl
@[simp] theorem exec_baseReevaluation (s : State) : exec (.baseReevaluation) s = execBaseReevaluation s := rfl
@[simp] theorem exec_traceGate (x0 : Nat) (x1 : Int) (x2 : Int) (s : State) : exec (.traceGate x0 x1 x2) s = execTraceGate x0 x1 x2 s := rfl
@[simp] theorem exec_topNoteWindow (x0 : Nat) (x1 : TopMeas) (s : State) : exec (.topNoteWindow x0 x1) s = execTopNoteWindow x0 x1 s := rfl
@[simp] theorem exec_calHrxArm (x0 : Nat) (x1 : Nat) (s : State) : exec (.calHrxArm x0 x1) s = execCalHrxArm x0 x1 s := rfl
@[simp] theorem exec_heartInjection (s : State) : exec (.heartInjection) s = execHeartInjection s := rfl
@[simp] theorem exec_heartSnapshot (s : State) : exec (.heartSnapshot) s = execHeartSnapshot s := rfl
@[simp] theorem exec_heartRunComplete (x0 : Nat) (x1 : Bool) (x2 : List HeartRes) (s : State) : exec (.heartRunComplete x0 x1 x2) s = execHeartRunComplete x0 x1 x2 s := rfl
@[simp] theorem exec_calRampStep (s : State) : exec (.calRampStep) s = execCalRampStep s := rfl
@[simp] theorem exec_calItemStale (x0 : Nat) (x1 : Nat) (s : State) : exec (.calItemStale x0 x1) s = execCalItemStale x0 x1 s := rfl
@[simp] theorem exec_foregroundRequest (x0 : Option Role) (x1 : Nat) (x2 : Nat) (x3 : Nat) (s : State) : exec (.foregroundRequest x0 x1 x2 x3) s = execForegroundRequest x0 x1 x2 x3 s := rfl
@[simp] theorem exec_foregroundWindowTimeout (x0 : Nat) (s : State) : exec (.foregroundWindowTimeout x0) s = execForegroundWindowTimeout x0 s := rfl
@[simp] theorem exec_serviceWindowStart (s : State) : exec (.serviceWindowStart) s = execServiceWindowStart s := rfl
@[simp] theorem exec_foregroundRunEnd (x0 : Nat) (x1 : Bool) (x2 : List (Nat × CalMeas)) (s : State) : exec (.foregroundRunEnd x0 x1 x2) s = execForegroundRunEnd x0 x1 x2 s := rfl
@[simp] theorem exec_iqDataMessage (x0 : LnkFrame) (s : State) : exec (.iqDataMessage x0) s = execIqDataMessage x0 s := rfl
@[simp] theorem exec_dlWindowClose (x0 : Nat) (s : State) : exec (.dlWindowClose x0) s = execDlWindowClose x0 s := rfl
@[simp] theorem exec_ulSectionSend (x0 : Bool) (x1 : Nat) (s : State) : exec (.ulSectionSend x0 x1) s = execUlSectionSend x0 x1 s := rfl
@[simp] theorem exec_realTimeControlMessage (x0 : LnkFrame) (s : State) : exec (.realTimeControlMessage x0) s = execRealTimeControlMessage x0 s := rfl
@[simp] theorem exec_genericDataMessage (x0 : LnkFrame) (s : State) : exec (.genericDataMessage x0) s = execGenericDataMessage x0 s := rfl
@[simp] theorem exec_captureStream (x0 : Nat) (s : State) : exec (.captureStream x0) s = execCaptureStream x0 s := rfl
@[simp] theorem exec_delayRequest (x0 : LnkFrame) (s : State) : exec (.delayRequest x0) s = execDelayRequest x0 s := rfl
@[simp] theorem exec_requestWithFollowUp (x0 : LnkFrame) (s : State) : exec (.requestWithFollowUp x0) s = execRequestWithFollowUp x0 s := rfl
@[simp] theorem exec_followUp (x0 : LnkFrame) (s : State) : exec (.followUp x0) s = execFollowUp x0 s := rfl
@[simp] theorem exec_remoteRequest (x0 : LnkFrame) (s : State) : exec (.remoteRequest x0) s = execRemoteRequest x0 s := rfl
@[simp] theorem exec_eventIndicationSend (x0 : Nat) (s : State) : exec (.eventIndicationSend x0) s = execEventIndicationSend x0 s := rfl
@[simp] theorem exec_indicationAck (x0 : LnkFrame) (s : State) : exec (.indicationAck x0) s = execIndicationAck x0 s := rfl
@[simp] theorem exec_indicationResend (x0 : Nat) (x1 : Nat) (s : State) : exec (.indicationResend x0 x1) s = execIndicationResend x0 x1 s := rfl
@[simp] theorem exec_synchronisationRequest (x0 : LnkFrame) (s : State) : exec (.synchronisationRequest x0) s = execSynchronisationRequest x0 s := rfl
@[simp] theorem exec_portStateChange (x0 : Nat) (x1 : Bool) (x2 : Bool) (s : State) : exec (.portStateChange x0 x1 x2) s = execPortStateChange x0 x1 x2 s := rfl
@[simp] theorem exec_sakInstall (x0 : Nat) (x1 : Nat) (s : State) : exec (.sakInstall x0 x1) s = execSakInstall x0 x1 s := rfl
@[simp] theorem exec_ptpSyncInterval (x0 : Int) (s : State) : exec (.ptpSyncInterval x0) s = execPtpSyncInterval x0 s := rfl
@[simp] theorem exec_ptpMasterChange (x0 : Nat) (x1 : Nat) (x2 : Nat) (s : State) : exec (.ptpMasterChange x0 x1 x2) s = execPtpMasterChange x0 x1 x2 s := rfl
@[simp] theorem exec_ptpHoldoverEntry (s : State) : exec (.ptpHoldoverEntry) s = execPtpHoldoverEntry s := rfl
@[simp] theorem exec_synceSquelch (x0 : Nat) (s : State) : exec (.synceSquelch x0) s = execSynceSquelch x0 s := rfl
@[simp] theorem exec_synceResume (s : State) : exec (.synceResume) s = execSynceResume s := rfl
@[simp] theorem exec_esmcSend (x0 : Nat) (s : State) : exec (.esmcSend x0) s = execEsmcSend x0 s := rfl
@[simp] theorem exec_esmcReceive (x0 : Nat) (s : State) : exec (.esmcReceive x0) s = execEsmcReceive x0 s := rfl
@[simp] theorem exec_ppsOutEdge (s : State) : exec (.ppsOutEdge) s = execPpsOutEdge s := rfl
@[simp] theorem exec_ppsInEdge (x0 : Nat) (s : State) : exec (.ppsInEdge x0) s = execPpsInEdge x0 s := rfl
@[simp] theorem exec_lnkPpsInLoss (s : State) : exec (.lnkPpsInLoss) s = execLnkPpsInLoss s := rfl
@[simp] theorem exec_linkLaneFailure (x0 : Nat) (s : State) : exec (.linkLaneFailure x0) s = execLinkLaneFailure x0 s := rfl
@[simp] theorem exec_linkLaneTxMove (x0 : Nat) (s : State) : exec (.linkLaneTxMove x0) s = execLinkLaneTxMove x0 s := rfl
@[simp] theorem exec_linkLaneRxMove (x0 : Nat) (s : State) : exec (.linkLaneRxMove x0) s = execLinkLaneRxMove x0 s := rfl
@[simp] theorem exec_lnkLaneSpared (x0 : Nat) (x1 : Nat) (s : State) : exec (.lnkLaneSpared x0 x1) s = execLnkLaneSpared x0 x1 s := rfl
@[simp] theorem exec_linkRealignTimeout (x0 : Nat) (s : State) : exec (.linkRealignTimeout x0) s = execLinkRealignTimeout x0 s := rfl
@[simp] theorem exec_laneReturnToSpare (x0 : Role) (x1 : Nat) (s : State) : exec (.laneReturnToSpare x0 x1) s = execLaneReturnToSpare x0 x1 s := rfl
@[simp] theorem exec_scrubPass (x0 : List Nat) (x1 : List Nat) (s : State) : exec (.scrubPass x0 x1) s = execScrubPass x0 x1 s := rfl
@[simp] theorem exec_memRowRepaired (x0 : Nat) (x1 : Nat) (s : State) : exec (.memRowRepaired x0 x1) s = execMemRowRepaired x0 x1 s := rfl
@[simp] theorem exec_bankMigrationStart (x0 : Nat) (s : State) : exec (.bankMigrationStart x0) s = execBankMigrationStart x0 s := rfl
@[simp] theorem exec_memBankSpared (x0 : Nat) (s : State) : exec (.memBankSpared x0) s = execMemBankSpared x0 s := rfl
@[simp] theorem exec_serviceBankSpare (x0 : Role) (x1 : Nat) (s : State) : exec (.serviceBankSpare x0 x1) s = execServiceBankSpare x0 x1 s := rfl
@[simp] theorem exec_memLock (x0 : Nat) (x1 : Nat) (s : State) : exec (.memLock x0 x1) s = execMemLock x0 x1 s := rfl
@[simp] theorem exec_memLockRelease (x0 : Nat) (x1 : Nat) (s : State) : exec (.memLockRelease x0 x1) s = execMemLockRelease x0 x1 s := rfl
@[simp] theorem exec_memHoldFault (x0 : Nat) (s : State) : exec (.memHoldFault x0) s = execMemHoldFault x0 s := rfl
@[simp] theorem exec_dmaRingKick (x0 : Nat) (x1 : Nat) (x2 : Nat) (s : State) : exec (.dmaRingKick x0 x1 x2) s = execDmaRingKick x0 x1 x2 s := rfl
@[simp] theorem exec_dmaDescriptor (x0 : Nat) (s : State) : exec (.dmaDescriptor x0) s = execDmaDescriptor x0 s := rfl
@[simp] theorem exec_dmaHalfCompletion (x0 : Nat) (s : State) : exec (.dmaHalfCompletion x0) s = execDmaHalfCompletion x0 s := rfl
@[simp] theorem exec_dmaRingDisable (x0 : Nat) (s : State) : exec (.dmaRingDisable x0) s = execDmaRingDisable x0 s := rfl
@[simp] theorem exec_mainMoverParity (s : State) : exec (.mainMoverParity) s = execMainMoverParity s := rfl
@[simp] theorem exec_dmaMainRestored (x0 : Bool) (s : State) : exec (.dmaMainRestored x0) s = execDmaMainRestored x0 s := rfl
@[simp] theorem exec_read (x0 : DHdr) (x1 : Nat) (x2 : Nat) (s : State) : exec (.read x0 x1 x2) s = execRead x0 x1 x2 s := rfl
@[simp] theorem exec_write (x0 : DHdr) (x1 : Nat) (x2 : Nat) (x3 : Nat) (x4 : List Byte) (s : State) : exec (.write x0 x1 x2 x3 x4) s = execWrite x0 x1 x2 x3 x4 s := rfl
@[simp] theorem exec_readBlock (x0 : DHdr) (x1 : Nat) (x2 : Nat) (x3 : Nat) (x4 : Nat) (s : State) : exec (.readBlock x0 x1 x2 x3 x4) s = execReadBlock x0 x1 x2 x3 x4 s := rfl
@[simp] theorem exec_writeBlock (x0 : DHdr) (x1 : Nat) (x2 : Nat) (x3 : Nat) (x4 : Nat) (x5 : Nat) (x6 : List Byte) (s : State) : exec (.writeBlock x0 x1 x2 x3 x4 x5 x6) s = execWriteBlock x0 x1 x2 x3 x4 x5 x6 s := rfl
@[simp] theorem exec_store (x0 : DHdr) (x1 : Nat) (x2 : Bool) (s : State) : exec (.store x0 x1 x2) s = execStore x0 x1 x2 s := rfl
@[simp] theorem exec_restore (x0 : DHdr) (x1 : Nat) (s : State) : exec (.restore x0 x1) s = execRestore x0 x1 s := rfl
@[simp] theorem exec_subscribe (x0 : DHdr) (x1 : Nat) (x2 : Nat) (x3 : Nat) (x4 : Nat) (s : State) : exec (.subscribe x0 x1 x2 x3 x4) s = execSubscribe x0 x1 x2 x3 x4 s := rfl
@[simp] theorem exec_digest (x0 : DHdr) (x1 : Nat) (s : State) : exec (.digest x0 x1) s = execDigest x0 x1 s := rfl
@[simp] theorem exec_sessionTimeout (x0 : Transport) (x1 : Nat) (x2 : Nat) (s : State) : exec (.sessionTimeout x0 x1 x2) s = execSessionTimeout x0 x1 x2 s := rfl
@[simp] theorem exec_blockTransferTimeout (x0 : Transport) (x1 : Nat) (x2 : Nat) (s : State) : exec (.blockTransferTimeout x0 x1 x2) s = execBlockTransferTimeout x0 x1 x2 s := rfl
@[simp] theorem exec_subscriptionNotify (x0 : Transport) (x1 : Nat) (x2 : Nat) (x3 : Nat) (x4 : Nat) (s : State) : exec (.subscriptionNotify x0 x1 x2 x3 x4) s = execSubscriptionNotify x0 x1 x2 x3 x4 s := rfl
@[simp] theorem exec_rwDigestRecompute (s : State) : exec (.rwDigestRecompute) s = execRwDigestRecompute s := rfl
@[simp] theorem exec_replicaRewrite (x0 : Nat) (s : State) : exec (.replicaRewrite x0) s = execReplicaRewrite x0 s := rfl
@[simp] theorem exec_eventFiringPresent (x0 : Nat) (s : State) : exec (.eventFiringPresent x0) s = execEventFiringPresent x0 s := rfl
@[simp] theorem exec_eventCease (x0 : Nat) (x1 : Nat) (x2 : Nat) (s : State) : exec (.eventCease x0 x1 x2) s = execEventCease x0 x1 x2 s := rfl
@[simp] theorem exec_stickyFlagClear (x0 : Nat) (x1 : Nat) (x2 : Bool) (s : State) : exec (.stickyFlagClear x0 x1 x2) s = execStickyFlagClear x0 x1 x2 s := rfl
@[simp] theorem exec_counterFold (s : State) : exec (.counterFold) s = execCounterFold s := rfl
@[simp] theorem exec_statisticsCounterClear (x0 : Role) (x1 : Nat) (x2 : Nat) (s : State) : exec (.statisticsCounterClear x0 x1 x2) s = execStatisticsCounterClear x0 x1 x2 s := rfl
@[simp] theorem exec_writeFrame (x0 : Nat) (x1 : List Byte) (s : State) : exec (.writeFrame x0 x1) s = execWriteFrame x0 x1 s := rfl
@[simp] theorem exec_readFrame (s : State) : exec (.readFrame) s = execReadFrame s := rfl
@[simp] theorem exec_spiStatus (s : State) : exec (.spiStatus) s = execSpiStatus s := rfl
@[simp] theorem exec_powerRequest (x0 : Option Role) (x1 : Nat) (x2 : Nat) (s : State) : exec (.powerRequest x0 x1 x2) s = execPowerRequest x0 x1 x2 s := rfl
@[simp] theorem exec_powerEntryStep (s : State) : exec (.powerEntryStep) s = execPowerEntryStep s := rfl
@[simp] theorem exec_powerExit (s : State) : exec (.powerExit) s = execPowerExit s := rfl
@[simp] theorem exec_warmStart (s : State) : exec (.warmStart) s = execWarmStart s := rfl
@[simp] theorem exec_wakeToTransition (s : State) : exec (.wakeToTransition) s = execWakeToTransition s := rfl
@[simp] theorem exec_slotgateChange (s : State) : exec (.slotgateChange) s = execSlotgateChange s := rfl
@[simp] theorem exec_sectionGateOff (x0 : Nat) (x1 : Bool) (s : State) : exec (.sectionGateOff x0 x1) s = execSectionGateOff x0 x1 s := rfl
@[simp] theorem exec_sectionGateOn (x0 : Nat) (x1 : Bool) (s : State) : exec (.sectionGateOn x0 x1) s = execSectionGateOn x0 x1 s := rfl
@[simp] theorem exec_wakePin (x0 : Nat) (s : State) : exec (.wakePin x0) s = execWakePin x0 s := rfl
@[simp] theorem exec_rtcAlarm (s : State) : exec (.rtcAlarm) s = execRtcAlarm s := rfl
@[simp] theorem exec_linkSignalDetect (x0 : Nat) (s : State) : exec (.linkSignalDetect x0) s = execLinkSignalDetect x0 s := rfl
@[simp] theorem exec_t1sFrameWake (x0 : Nat) (x1 : Bool) (s : State) : exec (.t1sFrameWake x0 x1) s = execT1sFrameWake x0 x1 s := rfl
@[simp] theorem exec_debugWakeWord (x0 : List Byte) (s : State) : exec (.debugWakeWord x0) s = execDebugWakeWord x0 s := rfl
@[simp] theorem exec_thermalAlarm (x0 : Int) (s : State) : exec (.thermalAlarm x0) s = execThermalAlarm x0 s := rfl
@[simp] theorem exec_wrxSniff (x0 : Bool) (x1 : Int) (x2 : Int) (s : State) : exec (.wrxSniff x0 x1 x2) s = execWrxSniff x0 x1 x2 s := rfl
@[simp] theorem exec_wrxSyncTimeout (s : State) : exec (.wrxSyncTimeout) s = execWrxSyncTimeout s := rfl
@[simp] theorem exec_wakeFrame (x0 : List Byte) (x1 : Int) (s : State) : exec (.wakeFrame x0 x1) s = execWakeFrame x0 x1 s := rfl
@[simp] theorem exec_wrxTrim (s : State) : exec (.wrxTrim) s = execWrxTrim s := rfl
@[simp] theorem exec_housekeepingRound (x0 : List Int) (x1 : List Nat) (x2 : Option (Int × Int)) (x3 : Nat) (x4 : List Nat) (s : State) : exec (.housekeepingRound x0 x1 x2 x3 x4) s = execHousekeepingRound x0 x1 x2 x3 x4 s := rfl
@[simp] theorem exec_thermalCarrierDrop (s : State) : exec (.thermalCarrierDrop) s = execThermalCarrierDrop s := rfl
@[simp] theorem exec_ldacEdge (s : State) : exec (.ldacEdge) s = execLdacEdge s := rfl
@[simp] theorem exec_bdacStrobeWrite (x0 : Nat) (x1 : Nat) (s : State) : exec (.bdacStrobeWrite x0 x1) s = execBdacStrobeWrite x0 x1 s := rfl
@[simp] theorem exec_bdacCodeWrite (x0 : Nat) (x1 : Nat) (x2 : Nat) (s : State) : exec (.bdacCodeWrite x0 x1 x2) s = execBdacCodeWrite x0 x1 x2 s := rfl
@[simp] theorem exec_bdacShort (x0 : Nat) (x1 : Bool) (s : State) : exec (.bdacShort x0 x1) s = execBdacShort x0 x1 s := rfl
@[simp] theorem exec_bdacShortTimeout (x0 : Nat) (s : State) : exec (.bdacShortTimeout x0) s = execBdacShortTimeout x0 s := rfl
@[simp] theorem exec_bdacSupplyLow (x0 : Nat) (s : State) : exec (.bdacSupplyLow x0) s = execBdacSupplyLow x0 s := rfl
@[simp] theorem exec_bdacSuppliesGood (s : State) : exec (.bdacSuppliesGood) s = execBdacSuppliesGood s := rfl
@[simp] theorem exec_drainRequest (x0 : Nat) (x1 : Nat) (s : State) : exec (.drainRequest x0 x1) s = execDrainRequest x0 x1 s := rfl
@[simp] theorem exec_amplifierFault (x0 : Nat) (x1 : Nat) (s : State) : exec (.amplifierFault x0 x1) s = execAmplifierFault x0 x1 s := rfl
@[simp] theorem exec_faultSafeCode (x0 : Nat) (s : State) : exec (.faultSafeCode x0) s = execFaultSafeCode x0 s := rfl
@[simp] theorem exec_drainReadbackMismatch (x0 : Nat) (s : State) : exec (.drainReadbackMismatch x0) s = execDrainReadbackMismatch x0 s := rfl
@[simp] theorem exec_drainFaultClear (x0 : Nat) (x1 : Nat) (s : State) : exec (.drainFaultClear x0 x1) s = execDrainFaultClear x0 x1 s := rfl
@[simp] theorem exec_monTrigger (x0 : Nat) (x1 : Nat) (s : State) : exec (.monTrigger x0 x1) s = execMonTrigger x0 x1 s := rfl
@[simp] theorem exec_monEntryResult (x0 : Nat) (x1 : Int) (x2 : Nat) (s : State) : exec (.monEntryResult x0 x1 x2) s = execMonEntryResult x0 x1 x2 s := rfl
@[simp] theorem exec_monDataRead (x0 : Nat) (s : State) : exec (.monDataRead x0) s = execMonDataRead x0 s := rfl
@[simp] theorem exec_fanWatchdogExpiry (x0 : Nat) (s : State) : exec (.fanWatchdogExpiry x0) s = execFanWatchdogExpiry x0 s := rfl
@[simp] theorem exec_thmFanStall (x0 : Nat) (s : State) : exec (.thmFanStall x0) s = execThmFanStall x0 s := rfl
@[simp] theorem exec_transitionToken (x0 : Role) (x1 : List Byte) (s : State) : exec (.transitionToken x0 x1) s = execTransitionToken x0 x1 s := rfl
@[simp] theorem exec_keyEnvelope (x0 : Role) (x1 : Nat) (x2 : List Byte) (s : State) : exec (.keyEnvelope x0 x1 x2) s = execKeyEnvelope x0 x1 x2 s := rfl
@[simp] theorem exec_rootRecord (x0 : Role) (x1 : List Byte) (s : State) : exec (.rootRecord x0 x1) s = execRootRecord x0 x1 s := rfl
@[simp] theorem exec_attestation (x0 : List Byte) (s : State) : exec (.attestation x0) s = execAttestation x0 s := rfl
@[simp] theorem exec_raiseMinimums (x0 : Role) (s : State) : exec (.raiseMinimums x0) s = execRaiseMinimums x0 s := rfl
@[simp] theorem exec_verifyImage (x0 : Master) (x1 : Nat) (s : State) : exec (.verifyImage x0 x1) s = execVerifyImage x0 x1 s := rfl
@[simp] theorem exec_checkDiongTag (x0 : Master) (x1 : Transport) (x2 : Nat) (s : State) : exec (.checkDiongTag x0 x1 x2) s = execCheckDiongTag x0 x1 x2 s := rfl
@[simp] theorem exec_makeDiongTag (x0 : Master) (x1 : Transport) (x2 : Nat) (s : State) : exec (.makeDiongTag x0 x1 x2) s = execMakeDiongTag x0 x1 x2 s := rfl
@[simp] theorem exec_mboxKeyEnvelope (x0 : Master) (x1 : Role) (x2 : Nat) (s : State) : exec (.mboxKeyEnvelope x0 x1 x2) s = execMboxKeyEnvelope x0 x1 x2 s := rfl
@[simp] theorem exec_mboxAttestation (x0 : Master) (x1 : Nat) (s : State) : exec (.mboxAttestation x0 x1) s = execMboxAttestation x0 x1 s := rfl
@[simp] theorem exec_lifecycleToken (x0 : Master) (x1 : Nat) (s : State) : exec (.lifecycleToken x0 x1) s = execLifecycleToken x0 x1 s := rfl
@[simp] theorem exec_mboxRootRecord (x0 : Master) (x1 : Nat) (s : State) : exec (.mboxRootRecord x0 x1) s = execMboxRootRecord x0 x1 s := rfl
@[simp] theorem exec_randomBytes (x0 : Master) (x1 : Nat) (s : State) : exec (.randomBytes x0 x1) s = execRandomBytes x0 x1 s := rfl
@[simp] theorem exec_extest (x0 : Nat) (x1 : Nat) (s : State) : exec (.extest x0 x1) s = execExtest x0 x1 s := rfl
@[simp] theorem exec_samplePreload (x0 : Nat) (x1 : Nat) (s : State) : exec (.samplePreload x0 x1) s = execSamplePreload x0 x1 s := rfl
@[simp] theorem exec_idcode (s : State) : exec (.idcode) s = execIdcode s := rfl
@[simp] theorem exec_clamp (s : State) : exec (.clamp) s = execClamp s := rfl
@[simp] theorem exec_highz (s : State) : exec (.highz) s = execHighz s := rfl
@[simp] theorem exec_dbgChal (s : State) : exec (.dbgChal) s = execDbgChal s := rfl
@[simp] theorem exec_dbgResp (x0 : List Byte) (s : State) : exec (.dbgResp x0) s = execDbgResp x0 s := rfl
@[simp] theorem exec_dbgPort (x0 : Nat) (x1 : Nat) (x2 : Bool) (x3 : Nat) (s : State) : exec (.dbgPort x0 x1 x2 x3) s = execDbgPort x0 x1 x2 x3 s := rfl
@[simp] theorem exec_dbgStatus (s : State) : exec (.dbgStatus) s = execDbgStatus s := rfl
@[simp] theorem exec_bypass (x0 : Nat) (s : State) : exec (.bypass x0) s = execBypass x0 s := rfl
@[simp] theorem exec_challengeRead (x0 : Role) (s : State) : exec (.challengeRead x0) s = execChallengeRead x0 s := rfl
@[simp] theorem exec_debugResponse (x0 : Transport) (x1 : Nat) (x2 : List Byte) (s : State) : exec (.debugResponse x0 x1 x2) s = execDebugResponse x0 x1 x2 s := rfl
@[simp] theorem exec_debugTunnel (x0 : Transport) (x1 : Nat) (x2 : List Byte) (s : State) : exec (.debugTunnel x0 x1 x2) s = execDebugTunnel x0 x1 x2 s := rfl
@[simp] theorem exec_dbgClose (x0 : Nat) (s : State) : exec (.dbgClose x0) s = execDbgClose x0 s := rfl
@[simp] theorem exec_debugSessionExpiry (s : State) : exec (.debugSessionExpiry) s = execDebugSessionExpiry s := rfl
@[simp] theorem exec_coreHalt (x0 : Nat) (x1 : Nat) (s : State) : exec (.coreHalt x0 x1) s = execCoreHalt x0 x1 s := rfl
@[simp] theorem exec_coreStep (x0 : Nat) (x1 : Nat) (s : State) : exec (.coreStep x0 x1) s = execCoreStep x0 x1 s := rfl
@[simp] theorem exec_engineHalt (x0 : Nat) (x1 : Nat) (s : State) : exec (.engineHalt x0 x1) s = execEngineHalt x0 x1 s := rfl
@[simp] theorem exec_laneFault (x0 : Nat) (x1 : Nat) (s : State) : exec (.laneFault x0 x1) s = execLaneFault x0 x1 s := rfl
@[simp] theorem exec_engineRetire (x0 : Nat) (x1 : Nat) (x2 : Bool) (s : State) : exec (.engineRetire x0 x1 x2) s = execEngineRetire x0 x1 x2 s := rfl
@[simp] theorem exec_engineSpareTakeover (x0 : Nat) (s : State) : exec (.engineSpareTakeover x0) s = execEngineSpareTakeover x0 s := rfl
@[simp] theorem exec_standbyImageWrite (x0 : Role) (x1 : List Byte) (s : State) : exec (.standbyImageWrite x0 x1) s = execStandbyImageWrite x0 x1 s := rfl
@[simp] theorem exec_fwStandbyReady (x0 : Nat) (s : State) : exec (.fwStandbyReady x0) s = execFwStandbyReady x0 s := rfl
@[simp] theorem exec_handoverRequest (x0 : Nat) (x1 : Nat) (x2 : Nat) (s : State) : exec (.handoverRequest x0 x1 x2) s = execHandoverRequest x0 x1 x2 s := rfl
@[simp] theorem exec_handoverSaving (s : State) : exec (.handoverSaving) s = execHandoverSaving s := rfl
@[simp] theorem exec_fwSaved (x0 : Nat) (s : State) : exec (.fwSaved x0) s = execFwSaved x0 s := rfl
@[simp] theorem exec_handoverActivate (s : State) : exec (.handoverActivate) s = execHandoverActivate s := rfl
@[simp] theorem exec_fwAlive (x0 : Nat) (s : State) : exec (.fwAlive x0) s = execFwAlive x0 s := rfl
@[simp] theorem exec_fwHandoverDone (s : State) : exec (.fwHandoverDone) s = execFwHandoverDone s := rfl
@[simp] theorem exec_fwReverted (s : State) : exec (.fwReverted) s = execFwReverted s := rfl
@[simp] theorem exec_poweredHour (s : State) : exec (.poweredHour) s = execPoweredHour s := rfl
@[simp] theorem exec_nvWordWrite (x0 : Nat) (x1 : List Nat) (x2 : Bool) (s : State) : exec (.nvWordWrite x0 x1 x2) s = execNvWordWrite x0 x1 x2 s := rfl
@[simp] theorem exec_coldStart (x0 : Nat) (s : State) : exec (.coldStart x0) s = execColdStart x0 s := rfl
@[simp] theorem exec_resetAssert (x0 : Nat) (x1 : Nat) (s : State) : exec (.resetAssert x0 x1) s = execResetAssert x0 x1 s := rfl
@[simp] theorem exec_osc32Qualified (s : State) : exec (.osc32Qualified) s = execOsc32Qualified s := rfl
@[simp] theorem exec_bootStep (x0 : BootIn) (s : State) : exec (.bootStep x0) s = execBootStep x0 s := rfl
@[simp] theorem exec_refclkQualified (s : State) : exec (.refclkQualified) s = execRefclkQualified s := rfl
@[simp] theorem exec_loaderImage (x0 : Nat) (x1 : List Byte) (s : State) : exec (.loaderImage x0 x1) s = execLoaderImage x0 x1 s := rfl
@[simp] theorem exec_pwrBootGo (x0 : Nat) (x1 : Nat) (s : State) : exec (.pwrBootGo x0 x1) s = execPwrBootGo x0 x1 s := rfl
@[simp] theorem exec_vtargetUpdate (x0 : Nat) (s : State) : exec (.vtargetUpdate x0) s = execVtargetUpdate x0 s := rfl
@[simp] theorem exec_dpdMinRateVisit (x0 : Nat) (s : State) : exec (.dpdMinRateVisit x0) s = execDpdMinRateVisit x0 s := rfl
@[simp] theorem exec_dpdStaleAgeExpiry (x0 : Nat) (s : State) : exec (.dpdStaleAgeExpiry x0) s = execDpdStaleAgeExpiry x0 s := rfl
@[simp] theorem exec_bdacOutputStep (x0 : Nat) (s : State) : exec (.bdacOutputStep x0) s = execBdacOutputStep x0 s := rfl
@[simp] theorem exec_tachEdge (x0 : Nat) (s : State) : exec (.tachEdge x0) s = execTachEdge x0 s := rfl
@[simp] theorem exec_overloadDeassert (x0 : Nat) (s : State) : exec (.overloadDeassert x0) s = execOverloadDeassert x0 s := rfl
@[simp] theorem exec_oldCakTimeout (x0 : Nat) (x1 : Bool) (s : State) : exec (.oldCakTimeout x0 x1) s = execOldCakTimeout x0 x1 s := rfl
@[simp] theorem exec_arpRequest (x0 : Nat) (x1 : Nat) (x2 : Nat) (s : State) : exec (.arpRequest x0 x1 x2) s = execArpRequest x0 x1 x2 s := rfl
@[simp] theorem exec_icmpEchoRequest (x0 : Nat) (x1 : Nat) (x2 : Nat) (x3 : Nat) (x4 : Nat) (x5 : Bool) (x6 : List Byte) (s : State) : exec (.icmpEchoRequest x0 x1 x2 x3 x4 x5 x6) s = execIcmpEchoRequest x0 x1 x2 x3 x4 x5 x6 s := rfl
@[simp] theorem exec_tapReset (s : State) : exec (.tapReset) s = execTapReset s := rfl
@[simp] theorem exec_debugChallengeExpiry (s : State) : exec (.debugChallengeExpiry) s = execDebugChallengeExpiry s := rfl
@[simp] theorem exec_debugLockoutEnd (s : State) : exec (.debugLockoutEnd) s = execDebugLockoutEnd s := rfl
@[simp] theorem exec_baseNoteSave (x0 : Nat) (s : State) : exec (.baseNoteSave x0) s = execBaseNoteSave x0 s := rfl

/-- A step with a command in front is that command's meaning on the state with the rest of the queue. -/
theorem step_cons (c : Instr) (l : List Instr) (s : State) :
    step { s with pending := c :: l } = exec c { s with pending := l } := rfl

/-- A step on an empty queue is one tick with nothing commanded. -/
theorem step_nil {s : State} (h : s.pending = []) : step s = .next (idleStep s) := by
  unfold step
  rw [h]

/-- A step on a queue that is not empty. -/
theorem step_of_cons {c : Instr} {l : List Instr} {s : State} (h : s.pending = c :: l) :
    step s = exec c { s with pending := l } := by
  unfold step
  rw [h]

end Sys2Proof.Machine
end

