-- ==== Sys2Proof/Laws/Sparse.lean ====
section
/-! SUPPORT. The laws of sparse storage: a read after a write, other keys untouched, and the canonical form kept. -/

namespace Sys2Proof.Machine

variable {α : Type}

theorem mem_spErase {m : Sparse α} {k : Nat} {p : Nat × α} : p ∈ spErase m k ↔ p ∈ m ∧ p.1 ≠ k := by
  simp [spErase]

theorem mem_spInsert {k : Nat} {v : α} {m : Sparse α} {p : Nat × α} : p ∈ spInsert k v m ↔ p = (k, v) ∨ p ∈ m := by
  induction m with
  | nil => simp [spInsert]
  | cons x t ih =>
    obtain ⟨k', v'⟩ := x
    unfold spInsert
    split
    · simp
    · simp only [List.mem_cons, ih]; tauto

theorem spSorted_cons {x : Nat × α} {t : Sparse α} :
    spSorted (x :: t) = true ↔ (∀ p ∈ t, x.1 < p.1) ∧ spSorted t = true := by
  obtain ⟨k, v⟩ := x
  simp [spSorted]

theorem spSorted_filter {m : Sparse α} (f : Nat × α → Bool) (h : spSorted m = true) : spSorted (m.filter f) = true := by
  induction m with
  | nil => rfl
  | cons x t ih =>
    rw [spSorted_cons] at h
    rw [List.filter_cons]
    split
    · exact spSorted_cons.2 ⟨fun p hp => h.1 p (List.mem_filter.1 hp).1, ih h.2⟩
    · exact ih h.2

theorem spSorted_spErase {m : Sparse α} (k : Nat) (h : spSorted m = true) : spSorted (spErase m k) = true :=
  spSorted_filter _ h

theorem spSorted_spInsert {m : Sparse α} {k : Nat} (v : α) (h : spSorted m = true) (hk : ∀ p ∈ m, p.1 ≠ k) :
    spSorted (spInsert k v m) = true := by
  induction m with
  | nil => rfl
  | cons x t ih =>
    obtain ⟨k', v'⟩ := x
    have hx := hk (k', v') (by simp)
    rw [spSorted_cons] at h
    unfold spInsert
    split
    next hlt =>
      refine spSorted_cons.2 ⟨fun p hp => ?_, spSorted_cons.2 h⟩
      rcases List.mem_cons.1 hp with rfl | hp
      · exact hlt
      · exact Nat.lt_trans hlt (h.1 p hp)
    next hlt =>
      refine spSorted_cons.2 ⟨fun p hp => ?_, ih h.2 fun p hp => hk p (List.mem_cons_of_mem _ hp)⟩
      rcases mem_spInsert.1 hp with rfl | hp
      · simp only at hx ⊢; omega
      · exact h.1 p hp

/-- A write in place of what a key held. -/
theorem spSorted_replace {m : Sparse α} (k : Nat) (v : α) (h : spSorted m = true) :
    spSorted (spInsert k v (spErase m k)) = true :=
  spSorted_spInsert v (spSorted_spErase k h) fun _ hp => (mem_spErase.1 hp).2

theorem spSorted_spPut [DecidableEq α] {m : Sparse α} (d : α) (k : Nat) (v : α) (h : spSorted m = true) : spSorted (spPut d m k v) = true := by
  unfold spPut
  split
  · exact spSorted_spErase k h
  · exact spSorted_replace k v h

/-- What a write can list: the value written, where it is not the one an unlisted key reads as, and what was listed. -/
theorem mem_spPut [DecidableEq α] {m : Sparse α} {d : α} {k : Nat} {v : α} {p : Nat × α} (h : p ∈ spPut d m k v) :
    (p = (k, v) ∧ v ≠ d) ∨ p ∈ m := by
  unfold spPut at h
  split at h
  · exact .inr (mem_spErase.1 h).1
  next hv => exact (mem_spInsert.1 h).imp (fun e => ⟨e, hv⟩) (fun e => (mem_spErase.1 e).1)

theorem spWf_iff [DecidableEq α] {d : Nat → α} {m : Sparse α} : spWf d m = true ↔ spSorted m = true ∧ ∀ p ∈ m, p.2 ≠ d p.1 := by
  simp [spWf]

/-- A write keeps the canonical form. -/
theorem spWf_spPut [DecidableEq α] {m : Sparse α} (d : Nat → α) (k : Nat) (v : α) (h : spWf d m = true) : spWf d (spPut (d k) m k v) = true := by
  rw [spWf_iff] at h ⊢
  refine ⟨spSorted_spPut _ k v h.1, fun p hp => ?_⟩
  rcases mem_spPut hp with ⟨rfl, hv⟩ | hp
  · exact hv
  · exact h.2 p hp

theorem spGet_of_not_mem {d : α} {m : Sparse α} {k : Nat} (h : ∀ p ∈ m, p.1 ≠ k) : spGet d m k = d := by
  induction m with
  | nil => rfl
  | cons x t ih =>
    obtain ⟨k', v'⟩ := x
    have := h (k', v') (by simp)
    simp only [spGet]
    rw [if_neg this]
    exact ih fun p hp => h p (List.mem_cons_of_mem _ hp)

theorem spGet_spInsert_same {d v : α} {m : Sparse α} {k : Nat} (h : ∀ p ∈ m, p.1 ≠ k) : spGet d (spInsert k v m) k = v := by
  induction m with
  | nil => simp [spInsert, spGet]
  | cons x t ih =>
    obtain ⟨k', v'⟩ := x
    have := h (k', v') (by simp)
    unfold spInsert
    split
    · simp [spGet]
    · simp only [spGet]
      rw [if_neg this]
      exact ih fun p hp => h p (List.mem_cons_of_mem _ hp)

theorem spGet_spInsert_other {d v : α} {m : Sparse α} {k k' : Nat} (h : k' ≠ k) : spGet d (spInsert k v m) k' = spGet d m k' := by
  induction m with
  | nil => simp [spInsert, spGet, h.symm]
  | cons x t ih =>
    obtain ⟨a, b⟩ := x
    unfold spInsert
    split
    · simp [spGet, h.symm]
    · simp only [spGet, ih]

theorem spGet_spErase_other {d : α} {m : Sparse α} {k k' : Nat} (h : k' ≠ k) : spGet d (spErase m k) k' = spGet d m k' := by
  induction m with
  | nil => rfl
  | cons x t ih =>
    obtain ⟨a, b⟩ := x
    unfold spErase at ih ⊢
    rw [List.filter_cons]
    split
    · simp only [spGet, ih]
    next hx =>
      have hx' : a = k := by simpa using hx
      simp only [spGet, ih]
      rw [if_neg (by omega)]

/-- A read after a write to the same key gives the value written. -/
@[simp] theorem spGet_spPut_same [DecidableEq α] (d : α) (m : Sparse α) (k : Nat) (v : α) : spGet d (spPut d m k v) k = v := by
  unfold spPut
  split
  next hv => rw [spGet_of_not_mem fun p hp => (mem_spErase.1 hp).2, hv]
  · exact spGet_spInsert_same fun p hp => (mem_spErase.1 hp).2

/-- A write leaves every other key alone. -/
theorem spGet_spPut_other [DecidableEq α] (d d' : α) (m : Sparse α) {k k' : Nat} (v : α) (h : k' ≠ k) :
    spGet d' (spPut d m k v) k' = spGet d' m k' := by
  unfold spPut
  split
  · exact spGet_spErase_other h
  · rw [spGet_spInsert_other h, spGet_spErase_other h]

/-- A read after a write, at any key. -/
theorem spGet_spPut [DecidableEq α] (d : α) (m : Sparse α) (k k' : Nat) (v : α) :
    spGet d (spPut d m k v) k' = if k' = k then v else spGet d m k' := by
  split
  next h => rw [h, spGet_spPut_same]
  next h => exact spGet_spPut_other d d m v h

@[simp] theorem spGet_spMod_same [DecidableEq α] (d : α) (m : Sparse α) (k : Nat) (f : α → α) : spGet d (spMod d m k f) k = f (spGet d m k) :=
  spGet_spPut_same d m k _

end Sys2Proof.Machine
end

