-- ==== Sys2Proof/Laws/Regs.lean ====
section
/-! SUPPORT. The laws of registers and their bit fields: a read after a write, and everything else untouched. -/

namespace Sys2Proof.Machine

/-! ## Bit fields -/

/-- The three parts of a number that a field cuts it into. -/
theorem bits_split (w hi lo : Nat) :
    w = (w / 2 ^ lo / 2 ^ (hi - lo + 1) * 2 ^ (hi - lo + 1) + bitsOf w hi lo) * 2 ^ lo + w % 2 ^ lo := by
  have h1 := Nat.div_add_mod (w / 2 ^ lo) (2 ^ (hi - lo + 1))
  have h2 := Nat.div_add_mod w (2 ^ lo)
  rw [bitsOf, Nat.shiftRight_eq_div_pow, Nat.mul_comm (w / 2 ^ lo / _), h1, Nat.mul_comm, h2]

/-- A field replaced, in the same parts. -/
theorem setBits_eq (w hi lo v : Nat) :
    setBits w hi lo v
      = (w / 2 ^ lo / 2 ^ (hi - lo + 1) * 2 ^ (hi - lo + 1) + v % 2 ^ (hi - lo + 1)) * 2 ^ lo + w % 2 ^ lo := by
  have h := bits_split w hi lo
  unfold setBits
  generalize w / 2 ^ lo / 2 ^ (hi - lo + 1) * 2 ^ (hi - lo + 1) = a at *
  generalize w % 2 ^ lo = r at *
  generalize v % 2 ^ (hi - lo + 1) = v'
  generalize 2 ^ lo = p at *
  rw [Nat.add_mul] at h ⊢
  omega

/-- Each bit of a number with a field replaced. -/
theorem testBit_setBits (w hi lo v i : Nat) (hl : lo ≤ hi) :
    (setBits w hi lo v).testBit i = if lo ≤ i ∧ i ≤ hi then v.testBit (i - lo) else w.testBit i := by
  rw [setBits_eq]
  have hr : w % 2 ^ lo < 2 ^ lo := Nat.mod_lt _ (Nat.two_pow_pos _)
  have hv : v % 2 ^ (hi - lo + 1) < 2 ^ (hi - lo + 1) := Nat.mod_lt _ (Nat.two_pow_pos _)
  rw [Nat.mul_comm _ (2 ^ lo), Nat.testBit_two_pow_mul_add _ hr]
  split
  next h =>
    rw [if_neg (by omega), Nat.testBit_mod_two_pow]
    simp [h]
  next h =>
    rw [Nat.mul_comm _ (2 ^ (hi - lo + 1)), Nat.testBit_two_pow_mul_add _ hv]
    split
    next h2 =>
      rw [if_pos (by omega), Nat.testBit_mod_two_pow]
      simp [h2]
    next h2 =>
      rw [if_neg (by omega), Nat.testBit_div_two_pow, Nat.testBit_div_two_pow]
      congr 1
      omega

/-- Each bit of a field. -/
theorem testBit_bitsOf (w hi lo i : Nat) : (bitsOf w hi lo).testBit i = (decide (i < hi - lo + 1) && w.testBit (lo + i)) := by
  rw [bitsOf, Nat.testBit_mod_two_pow, Nat.testBit_shiftRight]

/-- A field read after it was replaced. -/
theorem bitsOf_setBits_same (w hi lo v : Nat) (hl : lo ≤ hi) : bitsOf (setBits w hi lo v) hi lo = v % 2 ^ (hi - lo + 1) := by
  apply Nat.eq_of_testBit_eq
  intro i
  rw [testBit_bitsOf, testBit_setBits _ _ _ _ _ hl, Nat.testBit_mod_two_pow]
  by_cases h : i < hi - lo + 1
  · rw [if_pos (by omega), Nat.add_sub_cancel_left]
  · simp [h]

/-- A field apart from the one replaced. -/
theorem bitsOf_setBits_other (w hi lo v h l : Nat) (hl : lo ≤ hi) (hd : h < lo ∨ hi < l) (hh : l ≤ h) :
    bitsOf (setBits w hi lo v) h l = bitsOf w h l := by
  apply Nat.eq_of_testBit_eq
  intro i
  rw [testBit_bitsOf, testBit_bitsOf, testBit_setBits _ _ _ _ _ hl]
  by_cases hi' : i < h - l + 1
  · rw [if_neg (by omega)]
  · simp [hi']

/-- A field replaced stays below a bound the number and the field are below. -/
theorem setBits_lt (w hi lo v k : Nat) (hl : lo ≤ hi) (hk : hi < k) (hw : w < 2 ^ k) : setBits w hi lo v < 2 ^ k := by
  apply Nat.lt_pow_two_of_testBit
  intro i hi'
  rw [testBit_setBits _ _ _ _ _ hl, if_neg (by omega)]
  exact Nat.testBit_lt_two_pow (Nat.lt_of_lt_of_le hw (Nat.pow_le_pow_right (by decide) hi'))

/-- A bit as a field of one bit. -/
theorem bitsOf_bit (w i : Nat) : bitsOf w i i = b2n (bitOf w i) := by
  unfold bitsOf bitOf b2n
  rw [Nat.sub_self, Nat.zero_add, Nat.pow_one]
  rcases Nat.mod_two_eq_zero_or_one (w >>> i) with h | h <;> rw [h] <;> rfl

theorem bitOf_iff_testBit (w i : Nat) : bitOf w i = w.testBit i := by
  unfold bitOf
  rw [Nat.testBit_eq_decide_div_mod_eq, Nat.shiftRight_eq_div_pow]

/-- A bit read after it was replaced. -/
theorem bitOf_setBits_same (w i : Nat) (b : Bool) : bitOf (setBits w i i (b2n b)) i = b := by
  rw [bitOf_iff_testBit, testBit_setBits _ _ _ _ _ (Nat.le_refl _), if_pos ⟨Nat.le_refl _, Nat.le_refl _⟩, Nat.sub_self]
  cases b <;> rfl

/-- A bit outside the field replaced. -/
theorem bitOf_setBits_other (w hi lo v i : Nat) (hl : lo ≤ hi) (hd : i < lo ∨ hi < i) : bitOf (setBits w hi lo v) i = bitOf w i := by
  rw [bitOf_iff_testBit, bitOf_iff_testBit, testBit_setBits _ _ _ _ _ hl, if_neg (by omega)]

/-! ## Registers -/

theorem regRow_width_le (id : RegId) : (regRow id).width ≤ 128 := by cases id <;> decide

/-- A register read after it was written holds the value, cut to its width. -/
theorem rd_wr_same (s : State) (id : RegId) (ix : List Nat) (v : Nat) : rd (wr s id ix v) id ix = v % 2 ^ (regRow id).width := by
  show (spGet _ (spPut _ s.regs _ _) _).toNat = _
  rw [show (wr s id ix v).tenants = s.tenants from rfl, spGet_spPut_same, BitVec.toNat_ofNat]
  apply Nat.mod_eq_of_lt
  exact Nat.lt_of_lt_of_le (Nat.mod_lt _ (Nat.two_pow_pos _)) (Nat.pow_le_pow_right (by decide) (regRow_width_le id))

/-- A register at another address is untouched. -/
theorem rd_wr_other (s : State) (id id' : RegId) (ix ix' : List Nat) (v : Nat) (h : regAddr id' ix' ≠ regAddr id ix) :
    rd (wr s id ix v) id' ix' = rd s id' ix' := by
  show (spGet _ (spPut _ s.regs _ _) _).toNat = _
  rw [spGet_spPut_other _ _ _ _ h]
  rfl

/-- A field read after hardware wrote it. -/
theorem rf_wf_same (s : State) (id : RegId) (ix : List Nat) (hi lo v : Nat) (hl : lo ≤ hi) (hw : hi < (regRow id).width)
    (hb : rd s id ix < 2 ^ (regRow id).width) : rf (wf s id ix hi lo v) id ix hi lo = v % 2 ^ (hi - lo + 1) := by
  unfold rf wf
  rw [rd_wr_same, Nat.mod_eq_of_lt (setBits_lt _ _ _ _ _ hl hw hb), bitsOf_setBits_same _ _ _ _ hl]

/-- A field of the register that a write of another field leaves. -/
theorem rf_wf_field (s : State) (id : RegId) (ix : List Nat) (hi lo v h l : Nat) (hl : lo ≤ hi) (hw : hi < (regRow id).width)
    (hb : rd s id ix < 2 ^ (regRow id).width) (hd : h < lo ∨ hi < l) (hh : l ≤ h) :
    rf (wf s id ix hi lo v) id ix h l = rf s id ix h l := by
  unfold rf wf
  rw [rd_wr_same, Nat.mod_eq_of_lt (setBits_lt _ _ _ _ _ hl hw hb), bitsOf_setBits_other _ _ _ _ _ _ hl hd hh]

/-- The same without knowing that the register's value fits its width: a field inside the width is written whole. -/
theorem rf_wf (s : State) (id : RegId) (ix : List Nat) (hi lo v : Nat) (hl : lo ≤ hi) (hw : hi < (regRow id).width) :
    rf (wf s id ix hi lo v) id ix hi lo = v % 2 ^ (hi - lo + 1) := by
  unfold rf wf
  rw [rd_wr_same]
  apply Nat.eq_of_testBit_eq
  intro i
  rw [testBit_bitsOf, Nat.testBit_mod_two_pow, testBit_setBits _ _ _ _ _ hl, Nat.testBit_mod_two_pow]
  by_cases h : i < hi - lo + 1
  · rw [if_pos (by omega), Nat.add_sub_cancel_left]
    have : lo + i < (regRow id).width := by omega
    simp [h, this]
  · simp [h]

/-- The fields of a register that a write of another field leaves, inside the register's width. -/
theorem rf_wf_apart (s : State) (id : RegId) (ix : List Nat) (hi lo v h l : Nat) (hl : lo ≤ hi) (hw : h < (regRow id).width)
    (hd : h < lo ∨ hi < l) (hh : l ≤ h) : rf (wf s id ix hi lo v) id ix h l = rf s id ix h l := by
  unfold rf wf
  rw [rd_wr_same]
  apply Nat.eq_of_testBit_eq
  intro i
  rw [testBit_bitsOf, testBit_bitsOf, Nat.testBit_mod_two_pow, testBit_setBits _ _ _ _ _ hl]
  by_cases h' : i < h - l + 1
  · rw [if_neg (by omega)]
    have : l + i < (regRow id).width := by omega
    simp [this]
  · simp [h']

/-- A flag read after hardware wrote it. -/
theorem rbit_wbit (s : State) (id : RegId) (ix : List Nat) (i : Nat) (b : Bool) (hw : i < (regRow id).width) :
    rbit (wbit s id ix i b) id ix i = b := by
  have h := rf_wf s id ix i i (b2n b) (Nat.le_refl _) hw
  have h2 : rf (wbit s id ix i b) id ix i i = b2n (rbit (wbit s id ix i b) id ix i) := bitsOf_bit _ _
  rw [show wbit s id ix i b = wf s id ix i i (b2n b) from rfl] at h2 ⊢
  rw [h2, Nat.sub_self] at h
  revert h
  generalize rbit (wf s id ix i i (b2n b)) id ix i = x
  cases x <;> cases b <;> decide

/-- A register at another address keeps every field. -/
theorem rd_wf_other (s : State) (id id' : RegId) (ix ix' : List Nat) (hi lo v : Nat) (h : regAddr id' ix' ≠ regAddr id ix) :
    rd (wf s id ix hi lo v) id' ix' = rd s id' ix' := rd_wr_other s id id' ix ix' _ h

theorem rd_wbit_other (s : State) (id id' : RegId) (ix ix' : List Nat) (i : Nat) (b : Bool) (h : regAddr id' ix' ≠ regAddr id ix) :
    rd (wbit s id ix i b) id' ix' = rd s id' ix' := rd_wr_other s id id' ix ix' _ h

/-- A count that holds at 32 bits. -/
theorem rd_bump (s : State) (id : RegId) (ix : List Nat) (k : Nat) (hw : 32 ≤ (regRow id).width) :
    rd (bump s id ix k) id ix = min 0xFFFFFFFF (rd s id ix + k) := by
  unfold bump
  rw [rd_wr_same]
  apply Nat.mod_eq_of_lt
  exact Nat.lt_of_lt_of_le (show _ < 2 ^ 32 by omega) (Nat.pow_le_pow_right (by decide) hw)

/-- Writing a register leaves every one at another address, whatever is written after it. -/
theorem rd_eq_of_regs {s t : State} (hr : t.regs = s.regs) (ht : t.straps = s.straps) (id : RegId) (ix : List Nat) :
    rd t id ix = rd s id ix := by
  unfold rd State.tenants
  rw [hr, ht]

/-! ## Addresses -/

/-- The bytes from a family's base to its last register. -/
def regSpan (id : RegId) : Nat := ((regRow id).dims.map (fun d => d.1 * (d.2 - 1))).sum

theorem regAddrFrom_bounds (ds : List (Nat × Nat)) (a : Nat) (ix : List Nat) :
    a ≤ regAddrFrom a ds ix ∧ regAddrFrom a ds ix ≤ a + (ds.map (fun d => d.1 * (d.2 - 1))).sum ∨ ds.any (fun d => d.2 = 0) = true := by
  induction ds generalizing a ix with
  | nil => left; cases ix <;> simp [regAddrFrom]
  | cons d ds ih =>
    obtain ⟨st, n⟩ := d
    cases ix with
    | nil => left; simp [regAddrFrom]
    | cons i ix =>
      rcases Nat.eq_zero_or_pos n with rfl | hn
      · right; simp
      · rcases ih (a + st * (i % n)) ix with h | h
        · left
          have hm : st * (i % n) ≤ st * (n - 1) := Nat.mul_le_mul_left _ (by have := Nat.mod_lt i hn; omega)
          simp only [regAddrFrom, List.map_cons, List.sum_cons]
          omega
        · right; simp only [List.any_cons, h, Bool.or_true]

theorem regDims_pos (id : RegId) : (regRow id).dims.any (fun d => d.2 = 0) = false := by cases id <;> decide

/-- A register lies within its family's span. -/
theorem regAddr_bounds (id : RegId) (ix : List Nat) : (regRow id).addr ≤ regAddr id ix ∧ regAddr id ix ≤ (regRow id).addr + regSpan id := by
  rcases regAddrFrom_bounds (regRow id).dims (regRow id).addr ix with h | h
  · exact h
  · rw [regDims_pos] at h; cases h

/-- Registers of families whose spans lie apart are apart. -/
theorem regAddr_ne {id id' : RegId} (ix ix' : List Nat)
    (h : ((regRow id).addr + regSpan id < (regRow id').addr ∨ (regRow id').addr + regSpan id' < (regRow id).addr)) :
    regAddr id ix ≠ regAddr id' ix' := by
  have h1 := regAddr_bounds id ix
  have h2 := regAddr_bounds id' ix'
  omega

end Sys2Proof.Machine
end

