-- ==== Sys2Proof/Laws/State.lean ====
section
/-! SUPPORT. Each named update of the state, part by part: what it leaves and what its own record then reads. -/

namespace Sys2Proof.Machine

variable (s : State)

/-! ## wr -/

@[simp] theorem wr_pending (id : RegId) (ix : List Nat) (v : Nat) : (wr s id ix v).pending = s.pending := rfl
@[simp] theorem wr_clk (id : RegId) (ix : List Nat) (v : Nat) : (wr s id ix v).clk = s.clk := rfl
@[simp] theorem wr_freeCtr (id : RegId) (ix : List Nat) (v : Nat) : (wr s id ix v).freeCtr = s.freeCtr := rfl
@[simp] theorem wr_regsStaged (id : RegId) (ix : List Nat) (v : Nat) : (wr s id ix v).regsStaged = s.regsStaged := rfl
@[simp] theorem wr_objs (id : RegId) (ix : List Nat) (v : Nat) : (wr s id ix v).objs = s.objs := rfl
@[simp] theorem wr_objsStaged (id : RegId) (ix : List Nat) (v : Nat) : (wr s id ix v).objsStaged = s.objsStaged := rfl
@[simp] theorem wr_objGen (id : RegId) (ix : List Nat) (v : Nat) : (wr s id ix v).objGen = s.objGen := rfl
@[simp] theorem wr_stats (id : RegId) (ix : List Nat) (v : Nat) : (wr s id ix v).stats = s.stats := rfl
@[simp] theorem wr_islands (id : RegId) (ix : List Nat) (v : Nat) : (wr s id ix v).islands = s.islands := rfl
@[simp] theorem wr_subs (id : RegId) (ix : List Nat) (v : Nat) : (wr s id ix v).subs = s.subs := rfl
@[simp] theorem wr_fresh (id : RegId) (ix : List Nat) (v : Nat) : (wr s id ix v).fresh = s.fresh := rfl
@[simp] theorem wr_xing (id : RegId) (ix : List Nat) (v : Nat) : (wr s id ix v).xing = s.xing := rfl
@[simp] theorem wr_lost (id : RegId) (ix : List Nat) (v : Nat) : (wr s id ix v).lost = s.lost := rfl
@[simp] theorem wr_addrFaultRec (id : RegId) (ix : List Nat) (v : Nat) : (wr s id ix v).addrFaultRec = s.addrFaultRec := rfl
@[simp] theorem wr_ctl (id : RegId) (ix : List Nat) (v : Nat) : (wr s id ix v).ctl = s.ctl := rfl
@[simp] theorem wr_evt (id : RegId) (ix : List Nat) (v : Nat) : (wr s id ix v).evt = s.evt := rfl
@[simp] theorem wr_out (id : RegId) (ix : List Nat) (v : Nat) : (wr s id ix v).out = s.out := rfl
@[simp] theorem wr_tl (id : RegId) (ix : List Nat) (v : Nat) : (wr s id ix v).tl = s.tl := rfl
@[simp] theorem wr_adm (id : RegId) (ix : List Nat) (v : Nat) : (wr s id ix v).adm = s.adm := rfl
@[simp] theorem wr_diong (id : RegId) (ix : List Nat) (v : Nat) : (wr s id ix v).diong = s.diong := rfl
@[simp] theorem wr_straps (id : RegId) (ix : List Nat) (v : Nat) : (wr s id ix v).straps = s.straps := rfl
@[simp] theorem wr_sec (id : RegId) (ix : List Nat) (v : Nat) : (wr s id ix v).sec = s.sec := rfl
@[simp] theorem wr_lo (id : RegId) (ix : List Nat) (v : Nat) : (wr s id ix v).lo = s.lo := rfl
@[simp] theorem wr_fe (id : RegId) (ix : List Nat) (v : Nat) : (wr s id ix v).fe = s.fe := rfl
@[simp] theorem wr_cvt (id : RegId) (ix : List Nat) (v : Nat) : (wr s id ix v).cvt = s.cvt := rfl
@[simp] theorem wr_rx (id : RegId) (ix : List Nat) (v : Nat) : (wr s id ix v).rx = s.rx := rfl
@[simp] theorem wr_tx (id : RegId) (ix : List Nat) (v : Nat) : (wr s id ix v).tx = s.tx := rfl
@[simp] theorem wr_bm (id : RegId) (ix : List Nat) (v : Nat) : (wr s id ix v).bm = s.bm := rfl
@[simp] theorem wr_dpds (id : RegId) (ix : List Nat) (v : Nat) : (wr s id ix v).dpds = s.dpds := rfl
@[simp] theorem wr_disp (id : RegId) (ix : List Nat) (v : Nat) : (wr s id ix v).disp = s.disp := rfl
@[simp] theorem wr_ge (id : RegId) (ix : List Nat) (v : Nat) : (wr s id ix v).ge = s.ge := rfl
@[simp] theorem wr_cal (id : RegId) (ix : List Nat) (v : Nat) : (wr s id ix v).cal = s.cal := rfl
@[simp] theorem wr_lnk (id : RegId) (ix : List Nat) (v : Nat) : (wr s id ix v).lnk = s.lnk := rfl
@[simp] theorem wr_mem (id : RegId) (ix : List Nat) (v : Nat) : (wr s id ix v).mem = s.mem := rfl
@[simp] theorem wr_pwr (id : RegId) (ix : List Nat) (v : Nat) : (wr s id ix v).pwr = s.pwr := rfl
@[simp] theorem wr_hk (id : RegId) (ix : List Nat) (v : Nat) : (wr s id ix v).hk = s.hk := rfl
@[simp] theorem wr_svc (id : RegId) (ix : List Nat) (v : Nat) : (wr s id ix v).svc = s.svc := rfl
@[simp] theorem wr_boot (id : RegId) (ix : List Nat) (v : Nat) : (wr s id ix v).boot = s.boot := rfl
@[simp] theorem wr_nv (id : RegId) (ix : List Nat) (v : Nat) : (wr s id ix v).nv = s.nv := rfl
@[simp] theorem wr_marks (id : RegId) (ix : List Nat) (v : Nat) : (wr s id ix v).marks = s.marks := rfl
@[simp] theorem wr_air (id : RegId) (ix : List Nat) (v : Nat) : (wr s id ix v).air = s.air := rfl

/-! ## wf -/

@[simp] theorem wf_pending (id : RegId) (ix : List Nat) (hi lo v : Nat) : (wf s id ix hi lo v).pending = s.pending := rfl
@[simp] theorem wf_clk (id : RegId) (ix : List Nat) (hi lo v : Nat) : (wf s id ix hi lo v).clk = s.clk := rfl
@[simp] theorem wf_freeCtr (id : RegId) (ix : List Nat) (hi lo v : Nat) : (wf s id ix hi lo v).freeCtr = s.freeCtr := rfl
@[simp] theorem wf_regsStaged (id : RegId) (ix : List Nat) (hi lo v : Nat) : (wf s id ix hi lo v).regsStaged = s.regsStaged := rfl
@[simp] theorem wf_objs (id : RegId) (ix : List Nat) (hi lo v : Nat) : (wf s id ix hi lo v).objs = s.objs := rfl
@[simp] theorem wf_objsStaged (id : RegId) (ix : List Nat) (hi lo v : Nat) : (wf s id ix hi lo v).objsStaged = s.objsStaged := rfl
@[simp] theorem wf_objGen (id : RegId) (ix : List Nat) (hi lo v : Nat) : (wf s id ix hi lo v).objGen = s.objGen := rfl
@[simp] theorem wf_stats (id : RegId) (ix : List Nat) (hi lo v : Nat) : (wf s id ix hi lo v).stats = s.stats := rfl
@[simp] theorem wf_islands (id : RegId) (ix : List Nat) (hi lo v : Nat) : (wf s id ix hi lo v).islands = s.islands := rfl
@[simp] theorem wf_subs (id : RegId) (ix : List Nat) (hi lo v : Nat) : (wf s id ix hi lo v).subs = s.subs := rfl
@[simp] theorem wf_fresh (id : RegId) (ix : List Nat) (hi lo v : Nat) : (wf s id ix hi lo v).fresh = s.fresh := rfl
@[simp] theorem wf_xing (id : RegId) (ix : List Nat) (hi lo v : Nat) : (wf s id ix hi lo v).xing = s.xing := rfl
@[simp] theorem wf_lost (id : RegId) (ix : List Nat) (hi lo v : Nat) : (wf s id ix hi lo v).lost = s.lost := rfl
@[simp] theorem wf_addrFaultRec (id : RegId) (ix : List Nat) (hi lo v : Nat) : (wf s id ix hi lo v).addrFaultRec = s.addrFaultRec := rfl
@[simp] theorem wf_ctl (id : RegId) (ix : List Nat) (hi lo v : Nat) : (wf s id ix hi lo v).ctl = s.ctl := rfl
@[simp] theorem wf_evt (id : RegId) (ix : List Nat) (hi lo v : Nat) : (wf s id ix hi lo v).evt = s.evt := rfl
@[simp] theorem wf_out (id : RegId) (ix : List Nat) (hi lo v : Nat) : (wf s id ix hi lo v).out = s.out := rfl
@[simp] theorem wf_tl (id : RegId) (ix : List Nat) (hi lo v : Nat) : (wf s id ix hi lo v).tl = s.tl := rfl
@[simp] theorem wf_adm (id : RegId) (ix : List Nat) (hi lo v : Nat) : (wf s id ix hi lo v).adm = s.adm := rfl
@[simp] theorem wf_diong (id : RegId) (ix : List Nat) (hi lo v : Nat) : (wf s id ix hi lo v).diong = s.diong := rfl
@[simp] theorem wf_straps (id : RegId) (ix : List Nat) (hi lo v : Nat) : (wf s id ix hi lo v).straps = s.straps := rfl
@[simp] theorem wf_sec (id : RegId) (ix : List Nat) (hi lo v : Nat) : (wf s id ix hi lo v).sec = s.sec := rfl
@[simp] theorem wf_lo (id : RegId) (ix : List Nat) (hi lo v : Nat) : (wf s id ix hi lo v).lo = s.lo := rfl
@[simp] theorem wf_fe (id : RegId) (ix : List Nat) (hi lo v : Nat) : (wf s id ix hi lo v).fe = s.fe := rfl
@[simp] theorem wf_cvt (id : RegId) (ix : List Nat) (hi lo v : Nat) : (wf s id ix hi lo v).cvt = s.cvt := rfl
@[simp] theorem wf_rx (id : RegId) (ix : List Nat) (hi lo v : Nat) : (wf s id ix hi lo v).rx = s.rx := rfl
@[simp] theorem wf_tx (id : RegId) (ix : List Nat) (hi lo v : Nat) : (wf s id ix hi lo v).tx = s.tx := rfl
@[simp] theorem wf_bm (id : RegId) (ix : List Nat) (hi lo v : Nat) : (wf s id ix hi lo v).bm = s.bm := rfl
@[simp] theorem wf_dpds (id : RegId) (ix : List Nat) (hi lo v : Nat) : (wf s id ix hi lo v).dpds = s.dpds := rfl
@[simp] theorem wf_disp (id : RegId) (ix : List Nat) (hi lo v : Nat) : (wf s id ix hi lo v).disp = s.disp := rfl
@[simp] theorem wf_ge (id : RegId) (ix : List Nat) (hi lo v : Nat) : (wf s id ix hi lo v).ge = s.ge := rfl
@[simp] theorem wf_cal (id : RegId) (ix : List Nat) (hi lo v : Nat) : (wf s id ix hi lo v).cal = s.cal := rfl
@[simp] theorem wf_lnk (id : RegId) (ix : List Nat) (hi lo v : Nat) : (wf s id ix hi lo v).lnk = s.lnk := rfl
@[simp] theorem wf_mem (id : RegId) (ix : List Nat) (hi lo v : Nat) : (wf s id ix hi lo v).mem = s.mem := rfl
@[simp] theorem wf_pwr (id : RegId) (ix : List Nat) (hi lo v : Nat) : (wf s id ix hi lo v).pwr = s.pwr := rfl
@[simp] theorem wf_hk (id : RegId) (ix : List Nat) (hi lo v : Nat) : (wf s id ix hi lo v).hk = s.hk := rfl
@[simp] theorem wf_svc (id : RegId) (ix : List Nat) (hi lo v : Nat) : (wf s id ix hi lo v).svc = s.svc := rfl
@[simp] theorem wf_boot (id : RegId) (ix : List Nat) (hi lo v : Nat) : (wf s id ix hi lo v).boot = s.boot := rfl
@[simp] theorem wf_nv (id : RegId) (ix : List Nat) (hi lo v : Nat) : (wf s id ix hi lo v).nv = s.nv := rfl
@[simp] theorem wf_marks (id : RegId) (ix : List Nat) (hi lo v : Nat) : (wf s id ix hi lo v).marks = s.marks := rfl
@[simp] theorem wf_air (id : RegId) (ix : List Nat) (hi lo v : Nat) : (wf s id ix hi lo v).air = s.air := rfl

/-! ## wbit -/

@[simp] theorem wbit_pending (id : RegId) (ix : List Nat) (i : Nat) (b : Bool) : (wbit s id ix i b).pending = s.pending := rfl
@[simp] theorem wbit_clk (id : RegId) (ix : List Nat) (i : Nat) (b : Bool) : (wbit s id ix i b).clk = s.clk := rfl
@[simp] theorem wbit_freeCtr (id : RegId) (ix : List Nat) (i : Nat) (b : Bool) : (wbit s id ix i b).freeCtr = s.freeCtr := rfl
@[simp] theorem wbit_regsStaged (id : RegId) (ix : List Nat) (i : Nat) (b : Bool) : (wbit s id ix i b).regsStaged = s.regsStaged := rfl
@[simp] theorem wbit_objs (id : RegId) (ix : List Nat) (i : Nat) (b : Bool) : (wbit s id ix i b).objs = s.objs := rfl
@[simp] theorem wbit_objsStaged (id : RegId) (ix : List Nat) (i : Nat) (b : Bool) : (wbit s id ix i b).objsStaged = s.objsStaged := rfl
@[simp] theorem wbit_objGen (id : RegId) (ix : List Nat) (i : Nat) (b : Bool) : (wbit s id ix i b).objGen = s.objGen := rfl
@[simp] theorem wbit_stats (id : RegId) (ix : List Nat) (i : Nat) (b : Bool) : (wbit s id ix i b).stats = s.stats := rfl
@[simp] theorem wbit_islands (id : RegId) (ix : List Nat) (i : Nat) (b : Bool) : (wbit s id ix i b).islands = s.islands := rfl
@[simp] theorem wbit_subs (id : RegId) (ix : List Nat) (i : Nat) (b : Bool) : (wbit s id ix i b).subs = s.subs := rfl
@[simp] theorem wbit_fresh (id : RegId) (ix : List Nat) (i : Nat) (b : Bool) : (wbit s id ix i b).fresh = s.fresh := rfl
@[simp] theorem wbit_xing (id : RegId) (ix : List Nat) (i : Nat) (b : Bool) : (wbit s id ix i b).xing = s.xing := rfl
@[simp] theorem wbit_lost (id : RegId) (ix : List Nat) (i : Nat) (b : Bool) : (wbit s id ix i b).lost = s.lost := rfl
@[simp] theorem wbit_addrFaultRec (id : RegId) (ix : List Nat) (i : Nat) (b : Bool) : (wbit s id ix i b).addrFaultRec = s.addrFaultRec := rfl
@[simp] theorem wbit_ctl (id : RegId) (ix : List Nat) (i : Nat) (b : Bool) : (wbit s id ix i b).ctl = s.ctl := rfl
@[simp] theorem wbit_evt (id : RegId) (ix : List Nat) (i : Nat) (b : Bool) : (wbit s id ix i b).evt = s.evt := rfl
@[simp] theorem wbit_out (id : RegId) (ix : List Nat) (i : Nat) (b : Bool) : (wbit s id ix i b).out = s.out := rfl
@[simp] theorem wbit_tl (id : RegId) (ix : List Nat) (i : Nat) (b : Bool) : (wbit s id ix i b).tl = s.tl := rfl
@[simp] theorem wbit_adm (id : RegId) (ix : List Nat) (i : Nat) (b : Bool) : (wbit s id ix i b).adm = s.adm := rfl
@[simp] theorem wbit_diong (id : RegId) (ix : List Nat) (i : Nat) (b : Bool) : (wbit s id ix i b).diong = s.diong := rfl
@[simp] theorem wbit_straps (id : RegId) (ix : List Nat) (i : Nat) (b : Bool) : (wbit s id ix i b).straps = s.straps := rfl
@[simp] theorem wbit_sec (id : RegId) (ix : List Nat) (i : Nat) (b : Bool) : (wbit s id ix i b).sec = s.sec := rfl
@[simp] theorem wbit_lo (id : RegId) (ix : List Nat) (i : Nat) (b : Bool) : (wbit s id ix i b).lo = s.lo := rfl
@[simp] theorem wbit_fe (id : RegId) (ix : List Nat) (i : Nat) (b : Bool) : (wbit s id ix i b).fe = s.fe := rfl
@[simp] theorem wbit_cvt (id : RegId) (ix : List Nat) (i : Nat) (b : Bool) : (wbit s id ix i b).cvt = s.cvt := rfl
@[simp] theorem wbit_rx (id : RegId) (ix : List Nat) (i : Nat) (b : Bool) : (wbit s id ix i b).rx = s.rx := rfl
@[simp] theorem wbit_tx (id : RegId) (ix : List Nat) (i : Nat) (b : Bool) : (wbit s id ix i b).tx = s.tx := rfl
@[simp] theorem wbit_bm (id : RegId) (ix : List Nat) (i : Nat) (b : Bool) : (wbit s id ix i b).bm = s.bm := rfl
@[simp] theorem wbit_dpds (id : RegId) (ix : List Nat) (i : Nat) (b : Bool) : (wbit s id ix i b).dpds = s.dpds := rfl
@[simp] theorem wbit_disp (id : RegId) (ix : List Nat) (i : Nat) (b : Bool) : (wbit s id ix i b).disp = s.disp := rfl
@[simp] theorem wbit_ge (id : RegId) (ix : List Nat) (i : Nat) (b : Bool) : (wbit s id ix i b).ge = s.ge := rfl
@[simp] theorem wbit_cal (id : RegId) (ix : List Nat) (i : Nat) (b : Bool) : (wbit s id ix i b).cal = s.cal := rfl
@[simp] theorem wbit_lnk (id : RegId) (ix : List Nat) (i : Nat) (b : Bool) : (wbit s id ix i b).lnk = s.lnk := rfl
@[simp] theorem wbit_mem (id : RegId) (ix : List Nat) (i : Nat) (b : Bool) : (wbit s id ix i b).mem = s.mem := rfl
@[simp] theorem wbit_pwr (id : RegId) (ix : List Nat) (i : Nat) (b : Bool) : (wbit s id ix i b).pwr = s.pwr := rfl
@[simp] theorem wbit_hk (id : RegId) (ix : List Nat) (i : Nat) (b : Bool) : (wbit s id ix i b).hk = s.hk := rfl
@[simp] theorem wbit_svc (id : RegId) (ix : List Nat) (i : Nat) (b : Bool) : (wbit s id ix i b).svc = s.svc := rfl
@[simp] theorem wbit_boot (id : RegId) (ix : List Nat) (i : Nat) (b : Bool) : (wbit s id ix i b).boot = s.boot := rfl
@[simp] theorem wbit_nv (id : RegId) (ix : List Nat) (i : Nat) (b : Bool) : (wbit s id ix i b).nv = s.nv := rfl
@[simp] theorem wbit_marks (id : RegId) (ix : List Nat) (i : Nat) (b : Bool) : (wbit s id ix i b).marks = s.marks := rfl
@[simp] theorem wbit_air (id : RegId) (ix : List Nat) (i : Nat) (b : Bool) : (wbit s id ix i b).air = s.air := rfl

/-! ## bump -/

@[simp] theorem bump_pending (id : RegId) (ix : List Nat) (k : Nat) : (bump s id ix k).pending = s.pending := rfl
@[simp] theorem bump_clk (id : RegId) (ix : List Nat) (k : Nat) : (bump s id ix k).clk = s.clk := rfl
@[simp] theorem bump_freeCtr (id : RegId) (ix : List Nat) (k : Nat) : (bump s id ix k).freeCtr = s.freeCtr := rfl
@[simp] theorem bump_regsStaged (id : RegId) (ix : List Nat) (k : Nat) : (bump s id ix k).regsStaged = s.regsStaged := rfl
@[simp] theorem bump_objs (id : RegId) (ix : List Nat) (k : Nat) : (bump s id ix k).objs = s.objs := rfl
@[simp] theorem bump_objsStaged (id : RegId) (ix : List Nat) (k : Nat) : (bump s id ix k).objsStaged = s.objsStaged := rfl
@[simp] theorem bump_objGen (id : RegId) (ix : List Nat) (k : Nat) : (bump s id ix k).objGen = s.objGen := rfl
@[simp] theorem bump_stats (id : RegId) (ix : List Nat) (k : Nat) : (bump s id ix k).stats = s.stats := rfl
@[simp] theorem bump_islands (id : RegId) (ix : List Nat) (k : Nat) : (bump s id ix k).islands = s.islands := rfl
@[simp] theorem bump_subs (id : RegId) (ix : List Nat) (k : Nat) : (bump s id ix k).subs = s.subs := rfl
@[simp] theorem bump_fresh (id : RegId) (ix : List Nat) (k : Nat) : (bump s id ix k).fresh = s.fresh := rfl
@[simp] theorem bump_xing (id : RegId) (ix : List Nat) (k : Nat) : (bump s id ix k).xing = s.xing := rfl
@[simp] theorem bump_lost (id : RegId) (ix : List Nat) (k : Nat) : (bump s id ix k).lost = s.lost := rfl
@[simp] theorem bump_addrFaultRec (id : RegId) (ix : List Nat) (k : Nat) : (bump s id ix k).addrFaultRec = s.addrFaultRec := rfl
@[simp] theorem bump_ctl (id : RegId) (ix : List Nat) (k : Nat) : (bump s id ix k).ctl = s.ctl := rfl
@[simp] theorem bump_evt (id : RegId) (ix : List Nat) (k : Nat) : (bump s id ix k).evt = s.evt := rfl
@[simp] theorem bump_out (id : RegId) (ix : List Nat) (k : Nat) : (bump s id ix k).out = s.out := rfl
@[simp] theorem bump_tl (id : RegId) (ix : List Nat) (k : Nat) : (bump s id ix k).tl = s.tl := rfl
@[simp] theorem bump_adm (id : RegId) (ix : List Nat) (k : Nat) : (bump s id ix k).adm = s.adm := rfl
@[simp] theorem bump_diong (id : RegId) (ix : List Nat) (k : Nat) : (bump s id ix k).diong = s.diong := rfl
@[simp] theorem bump_straps (id : RegId) (ix : List Nat) (k : Nat) : (bump s id ix k).straps = s.straps := rfl
@[simp] theorem bump_sec (id : RegId) (ix : List Nat) (k : Nat) : (bump s id ix k).sec = s.sec := rfl
@[simp] theorem bump_lo (id : RegId) (ix : List Nat) (k : Nat) : (bump s id ix k).lo = s.lo := rfl
@[simp] theorem bump_fe (id : RegId) (ix : List Nat) (k : Nat) : (bump s id ix k).fe = s.fe := rfl
@[simp] theorem bump_cvt (id : RegId) (ix : List Nat) (k : Nat) : (bump s id ix k).cvt = s.cvt := rfl
@[simp] theorem bump_rx (id : RegId) (ix : List Nat) (k : Nat) : (bump s id ix k).rx = s.rx := rfl
@[simp] theorem bump_tx (id : RegId) (ix : List Nat) (k : Nat) : (bump s id ix k).tx = s.tx := rfl
@[simp] theorem bump_bm (id : RegId) (ix : List Nat) (k : Nat) : (bump s id ix k).bm = s.bm := rfl
@[simp] theorem bump_dpds (id : RegId) (ix : List Nat) (k : Nat) : (bump s id ix k).dpds = s.dpds := rfl
@[simp] theorem bump_disp (id : RegId) (ix : List Nat) (k : Nat) : (bump s id ix k).disp = s.disp := rfl
@[simp] theorem bump_ge (id : RegId) (ix : List Nat) (k : Nat) : (bump s id ix k).ge = s.ge := rfl
@[simp] theorem bump_cal (id : RegId) (ix : List Nat) (k : Nat) : (bump s id ix k).cal = s.cal := rfl
@[simp] theorem bump_lnk (id : RegId) (ix : List Nat) (k : Nat) : (bump s id ix k).lnk = s.lnk := rfl
@[simp] theorem bump_mem (id : RegId) (ix : List Nat) (k : Nat) : (bump s id ix k).mem = s.mem := rfl
@[simp] theorem bump_pwr (id : RegId) (ix : List Nat) (k : Nat) : (bump s id ix k).pwr = s.pwr := rfl
@[simp] theorem bump_hk (id : RegId) (ix : List Nat) (k : Nat) : (bump s id ix k).hk = s.hk := rfl
@[simp] theorem bump_svc (id : RegId) (ix : List Nat) (k : Nat) : (bump s id ix k).svc = s.svc := rfl
@[simp] theorem bump_boot (id : RegId) (ix : List Nat) (k : Nat) : (bump s id ix k).boot = s.boot := rfl
@[simp] theorem bump_nv (id : RegId) (ix : List Nat) (k : Nat) : (bump s id ix k).nv = s.nv := rfl
@[simp] theorem bump_marks (id : RegId) (ix : List Nat) (k : Nat) : (bump s id ix k).marks = s.marks := rfl
@[simp] theorem bump_air (id : RegId) (ix : List Nat) (k : Nat) : (bump s id ix k).air = s.air := rfl

/-! ## noteBit -/

@[simp] theorem noteBit_pending (id : RegId) (ix : List Nat) (i : Nat) : (noteBit s id ix i).pending = s.pending := rfl
@[simp] theorem noteBit_clk (id : RegId) (ix : List Nat) (i : Nat) : (noteBit s id ix i).clk = s.clk := rfl
@[simp] theorem noteBit_freeCtr (id : RegId) (ix : List Nat) (i : Nat) : (noteBit s id ix i).freeCtr = s.freeCtr := rfl
@[simp] theorem noteBit_regs (id : RegId) (ix : List Nat) (i : Nat) : (noteBit s id ix i).regs = s.regs := rfl
@[simp] theorem noteBit_regsStaged (id : RegId) (ix : List Nat) (i : Nat) : (noteBit s id ix i).regsStaged = s.regsStaged := rfl
@[simp] theorem noteBit_objs (id : RegId) (ix : List Nat) (i : Nat) : (noteBit s id ix i).objs = s.objs := rfl
@[simp] theorem noteBit_objsStaged (id : RegId) (ix : List Nat) (i : Nat) : (noteBit s id ix i).objsStaged = s.objsStaged := rfl
@[simp] theorem noteBit_objGen (id : RegId) (ix : List Nat) (i : Nat) : (noteBit s id ix i).objGen = s.objGen := rfl
@[simp] theorem noteBit_stats (id : RegId) (ix : List Nat) (i : Nat) : (noteBit s id ix i).stats = s.stats := rfl
@[simp] theorem noteBit_islands (id : RegId) (ix : List Nat) (i : Nat) : (noteBit s id ix i).islands = s.islands := rfl
@[simp] theorem noteBit_subs (id : RegId) (ix : List Nat) (i : Nat) : (noteBit s id ix i).subs = s.subs := rfl
@[simp] theorem noteBit_xing (id : RegId) (ix : List Nat) (i : Nat) : (noteBit s id ix i).xing = s.xing := rfl
@[simp] theorem noteBit_lost (id : RegId) (ix : List Nat) (i : Nat) : (noteBit s id ix i).lost = s.lost := rfl
@[simp] theorem noteBit_addrFaultRec (id : RegId) (ix : List Nat) (i : Nat) : (noteBit s id ix i).addrFaultRec = s.addrFaultRec := rfl
@[simp] theorem noteBit_ctl (id : RegId) (ix : List Nat) (i : Nat) : (noteBit s id ix i).ctl = s.ctl := rfl
@[simp] theorem noteBit_evt (id : RegId) (ix : List Nat) (i : Nat) : (noteBit s id ix i).evt = s.evt := rfl
@[simp] theorem noteBit_out (id : RegId) (ix : List Nat) (i : Nat) : (noteBit s id ix i).out = s.out := rfl
@[simp] theorem noteBit_tl (id : RegId) (ix : List Nat) (i : Nat) : (noteBit s id ix i).tl = s.tl := rfl
@[simp] theorem noteBit_adm (id : RegId) (ix : List Nat) (i : Nat) : (noteBit s id ix i).adm = s.adm := rfl
@[simp] theorem noteBit_diong (id : RegId) (ix : List Nat) (i : Nat) : (noteBit s id ix i).diong = s.diong := rfl
@[simp] theorem noteBit_straps (id : RegId) (ix : List Nat) (i : Nat) : (noteBit s id ix i).straps = s.straps := rfl
@[simp] theorem noteBit_sec (id : RegId) (ix : List Nat) (i : Nat) : (noteBit s id ix i).sec = s.sec := rfl
@[simp] theorem noteBit_lo (id : RegId) (ix : List Nat) (i : Nat) : (noteBit s id ix i).lo = s.lo := rfl
@[simp] theorem noteBit_fe (id : RegId) (ix : List Nat) (i : Nat) : (noteBit s id ix i).fe = s.fe := rfl
@[simp] theorem noteBit_cvt (id : RegId) (ix : List Nat) (i : Nat) : (noteBit s id ix i).cvt = s.cvt := rfl
@[simp] theorem noteBit_rx (id : RegId) (ix : List Nat) (i : Nat) : (noteBit s id ix i).rx = s.rx := rfl
@[simp] theorem noteBit_tx (id : RegId) (ix : List Nat) (i : Nat) : (noteBit s id ix i).tx = s.tx := rfl
@[simp] theorem noteBit_bm (id : RegId) (ix : List Nat) (i : Nat) : (noteBit s id ix i).bm = s.bm := rfl
@[simp] theorem noteBit_dpds (id : RegId) (ix : List Nat) (i : Nat) : (noteBit s id ix i).dpds = s.dpds := rfl
@[simp] theorem noteBit_disp (id : RegId) (ix : List Nat) (i : Nat) : (noteBit s id ix i).disp = s.disp := rfl
@[simp] theorem noteBit_ge (id : RegId) (ix : List Nat) (i : Nat) : (noteBit s id ix i).ge = s.ge := rfl
@[simp] theorem noteBit_cal (id : RegId) (ix : List Nat) (i : Nat) : (noteBit s id ix i).cal = s.cal := rfl
@[simp] theorem noteBit_lnk (id : RegId) (ix : List Nat) (i : Nat) : (noteBit s id ix i).lnk = s.lnk := rfl
@[simp] theorem noteBit_mem (id : RegId) (ix : List Nat) (i : Nat) : (noteBit s id ix i).mem = s.mem := rfl
@[simp] theorem noteBit_pwr (id : RegId) (ix : List Nat) (i : Nat) : (noteBit s id ix i).pwr = s.pwr := rfl
@[simp] theorem noteBit_hk (id : RegId) (ix : List Nat) (i : Nat) : (noteBit s id ix i).hk = s.hk := rfl
@[simp] theorem noteBit_svc (id : RegId) (ix : List Nat) (i : Nat) : (noteBit s id ix i).svc = s.svc := rfl
@[simp] theorem noteBit_boot (id : RegId) (ix : List Nat) (i : Nat) : (noteBit s id ix i).boot = s.boot := rfl
@[simp] theorem noteBit_nv (id : RegId) (ix : List Nat) (i : Nat) : (noteBit s id ix i).nv = s.nv := rfl
@[simp] theorem noteBit_marks (id : RegId) (ix : List Nat) (i : Nat) : (noteBit s id ix i).marks = s.marks := rfl
@[simp] theorem noteBit_air (id : RegId) (ix : List Nat) (i : Nat) : (noteBit s id ix i).air = s.air := rfl

/-! ## setFlag -/

@[simp] theorem setFlag_pending (id : RegId) (ix : List Nat) (i : Nat) : (setFlag s id ix i).pending = s.pending := rfl
@[simp] theorem setFlag_clk (id : RegId) (ix : List Nat) (i : Nat) : (setFlag s id ix i).clk = s.clk := rfl
@[simp] theorem setFlag_freeCtr (id : RegId) (ix : List Nat) (i : Nat) : (setFlag s id ix i).freeCtr = s.freeCtr := rfl
@[simp] theorem setFlag_regsStaged (id : RegId) (ix : List Nat) (i : Nat) : (setFlag s id ix i).regsStaged = s.regsStaged := rfl
@[simp] theorem setFlag_objs (id : RegId) (ix : List Nat) (i : Nat) : (setFlag s id ix i).objs = s.objs := rfl
@[simp] theorem setFlag_objsStaged (id : RegId) (ix : List Nat) (i : Nat) : (setFlag s id ix i).objsStaged = s.objsStaged := rfl
@[simp] theorem setFlag_objGen (id : RegId) (ix : List Nat) (i : Nat) : (setFlag s id ix i).objGen = s.objGen := rfl
@[simp] theorem setFlag_stats (id : RegId) (ix : List Nat) (i : Nat) : (setFlag s id ix i).stats = s.stats := rfl
@[simp] theorem setFlag_islands (id : RegId) (ix : List Nat) (i : Nat) : (setFlag s id ix i).islands = s.islands := rfl
@[simp] theorem setFlag_subs (id : RegId) (ix : List Nat) (i : Nat) : (setFlag s id ix i).subs = s.subs := rfl
@[simp] theorem setFlag_xing (id : RegId) (ix : List Nat) (i : Nat) : (setFlag s id ix i).xing = s.xing := rfl
@[simp] theorem setFlag_lost (id : RegId) (ix : List Nat) (i : Nat) : (setFlag s id ix i).lost = s.lost := rfl
@[simp] theorem setFlag_addrFaultRec (id : RegId) (ix : List Nat) (i : Nat) : (setFlag s id ix i).addrFaultRec = s.addrFaultRec := rfl
@[simp] theorem setFlag_ctl (id : RegId) (ix : List Nat) (i : Nat) : (setFlag s id ix i).ctl = s.ctl := rfl
@[simp] theorem setFlag_evt (id : RegId) (ix : List Nat) (i : Nat) : (setFlag s id ix i).evt = s.evt := rfl
@[simp] theorem setFlag_out (id : RegId) (ix : List Nat) (i : Nat) : (setFlag s id ix i).out = s.out := rfl
@[simp] theorem setFlag_tl (id : RegId) (ix : List Nat) (i : Nat) : (setFlag s id ix i).tl = s.tl := rfl
@[simp] theorem setFlag_adm (id : RegId) (ix : List Nat) (i : Nat) : (setFlag s id ix i).adm = s.adm := rfl
@[simp] theorem setFlag_diong (id : RegId) (ix : List Nat) (i : Nat) : (setFlag s id ix i).diong = s.diong := rfl
@[simp] theorem setFlag_straps (id : RegId) (ix : List Nat) (i : Nat) : (setFlag s id ix i).straps = s.straps := rfl
@[simp] theorem setFlag_sec (id : RegId) (ix : List Nat) (i : Nat) : (setFlag s id ix i).sec = s.sec := rfl
@[simp] theorem setFlag_lo (id : RegId) (ix : List Nat) (i : Nat) : (setFlag s id ix i).lo = s.lo := rfl
@[simp] theorem setFlag_fe (id : RegId) (ix : List Nat) (i : Nat) : (setFlag s id ix i).fe = s.fe := rfl
@[simp] theorem setFlag_cvt (id : RegId) (ix : List Nat) (i : Nat) : (setFlag s id ix i).cvt = s.cvt := rfl
@[simp] theorem setFlag_rx (id : RegId) (ix : List Nat) (i : Nat) : (setFlag s id ix i).rx = s.rx := rfl
@[simp] theorem setFlag_tx (id : RegId) (ix : List Nat) (i : Nat) : (setFlag s id ix i).tx = s.tx := rfl
@[simp] theorem setFlag_bm (id : RegId) (ix : List Nat) (i : Nat) : (setFlag s id ix i).bm = s.bm := rfl
@[simp] theorem setFlag_dpds (id : RegId) (ix : List Nat) (i : Nat) : (setFlag s id ix i).dpds = s.dpds := rfl
@[simp] theorem setFlag_disp (id : RegId) (ix : List Nat) (i : Nat) : (setFlag s id ix i).disp = s.disp := rfl
@[simp] theorem setFlag_ge (id : RegId) (ix : List Nat) (i : Nat) : (setFlag s id ix i).ge = s.ge := rfl
@[simp] theorem setFlag_cal (id : RegId) (ix : List Nat) (i : Nat) : (setFlag s id ix i).cal = s.cal := rfl
@[simp] theorem setFlag_lnk (id : RegId) (ix : List Nat) (i : Nat) : (setFlag s id ix i).lnk = s.lnk := rfl
@[simp] theorem setFlag_mem (id : RegId) (ix : List Nat) (i : Nat) : (setFlag s id ix i).mem = s.mem := rfl
@[simp] theorem setFlag_pwr (id : RegId) (ix : List Nat) (i : Nat) : (setFlag s id ix i).pwr = s.pwr := rfl
@[simp] theorem setFlag_hk (id : RegId) (ix : List Nat) (i : Nat) : (setFlag s id ix i).hk = s.hk := rfl
@[simp] theorem setFlag_svc (id : RegId) (ix : List Nat) (i : Nat) : (setFlag s id ix i).svc = s.svc := rfl
@[simp] theorem setFlag_boot (id : RegId) (ix : List Nat) (i : Nat) : (setFlag s id ix i).boot = s.boot := rfl
@[simp] theorem setFlag_nv (id : RegId) (ix : List Nat) (i : Nat) : (setFlag s id ix i).nv = s.nv := rfl
@[simp] theorem setFlag_marks (id : RegId) (ix : List Nat) (i : Nat) : (setFlag s id ix i).marks = s.marks := rfl
@[simp] theorem setFlag_air (id : RegId) (ix : List Nat) (i : Nat) : (setFlag s id ix i).air = s.air := rfl

/-! ## subDown -/

@[simp] theorem subDown_pending (k : Nat) : (subDown s k).pending = s.pending := rfl
@[simp] theorem subDown_clk (k : Nat) : (subDown s k).clk = s.clk := rfl
@[simp] theorem subDown_freeCtr (k : Nat) : (subDown s k).freeCtr = s.freeCtr := rfl
@[simp] theorem subDown_regs (k : Nat) : (subDown s k).regs = s.regs := rfl
@[simp] theorem subDown_regsStaged (k : Nat) : (subDown s k).regsStaged = s.regsStaged := rfl
@[simp] theorem subDown_objs (k : Nat) : (subDown s k).objs = s.objs := rfl
@[simp] theorem subDown_objsStaged (k : Nat) : (subDown s k).objsStaged = s.objsStaged := rfl
@[simp] theorem subDown_objGen (k : Nat) : (subDown s k).objGen = s.objGen := rfl
@[simp] theorem subDown_stats (k : Nat) : (subDown s k).stats = s.stats := rfl
@[simp] theorem subDown_islands (k : Nat) : (subDown s k).islands = s.islands := rfl
@[simp] theorem subDown_fresh (k : Nat) : (subDown s k).fresh = s.fresh := rfl
@[simp] theorem subDown_xing (k : Nat) : (subDown s k).xing = s.xing := rfl
@[simp] theorem subDown_lost (k : Nat) : (subDown s k).lost = s.lost := rfl
@[simp] theorem subDown_addrFaultRec (k : Nat) : (subDown s k).addrFaultRec = s.addrFaultRec := rfl
@[simp] theorem subDown_ctl (k : Nat) : (subDown s k).ctl = s.ctl := rfl
@[simp] theorem subDown_evt (k : Nat) : (subDown s k).evt = s.evt := rfl
@[simp] theorem subDown_out (k : Nat) : (subDown s k).out = s.out := rfl
@[simp] theorem subDown_tl (k : Nat) : (subDown s k).tl = s.tl := rfl
@[simp] theorem subDown_adm (k : Nat) : (subDown s k).adm = s.adm := rfl
@[simp] theorem subDown_diong (k : Nat) : (subDown s k).diong = s.diong := rfl
@[simp] theorem subDown_straps (k : Nat) : (subDown s k).straps = s.straps := rfl
@[simp] theorem subDown_sec (k : Nat) : (subDown s k).sec = s.sec := rfl
@[simp] theorem subDown_lo (k : Nat) : (subDown s k).lo = s.lo := rfl
@[simp] theorem subDown_fe (k : Nat) : (subDown s k).fe = s.fe := rfl
@[simp] theorem subDown_cvt (k : Nat) : (subDown s k).cvt = s.cvt := rfl
@[simp] theorem subDown_rx (k : Nat) : (subDown s k).rx = s.rx := rfl
@[simp] theorem subDown_tx (k : Nat) : (subDown s k).tx = s.tx := rfl
@[simp] theorem subDown_bm (k : Nat) : (subDown s k).bm = s.bm := rfl
@[simp] theorem subDown_dpds (k : Nat) : (subDown s k).dpds = s.dpds := rfl
@[simp] theorem subDown_disp (k : Nat) : (subDown s k).disp = s.disp := rfl
@[simp] theorem subDown_ge (k : Nat) : (subDown s k).ge = s.ge := rfl
@[simp] theorem subDown_cal (k : Nat) : (subDown s k).cal = s.cal := rfl
@[simp] theorem subDown_lnk (k : Nat) : (subDown s k).lnk = s.lnk := rfl
@[simp] theorem subDown_mem (k : Nat) : (subDown s k).mem = s.mem := rfl
@[simp] theorem subDown_pwr (k : Nat) : (subDown s k).pwr = s.pwr := rfl
@[simp] theorem subDown_hk (k : Nat) : (subDown s k).hk = s.hk := rfl
@[simp] theorem subDown_svc (k : Nat) : (subDown s k).svc = s.svc := rfl
@[simp] theorem subDown_boot (k : Nat) : (subDown s k).boot = s.boot := rfl
@[simp] theorem subDown_nv (k : Nat) : (subDown s k).nv = s.nv := rfl
@[simp] theorem subDown_marks (k : Nat) : (subDown s k).marks = s.marks := rfl
@[simp] theorem subDown_air (k : Nat) : (subDown s k).air = s.air := rfl

/-! ## subUp -/

@[simp] theorem subUp_pending (k : Nat) : (subUp s k).pending = s.pending := rfl
@[simp] theorem subUp_clk (k : Nat) : (subUp s k).clk = s.clk := rfl
@[simp] theorem subUp_freeCtr (k : Nat) : (subUp s k).freeCtr = s.freeCtr := rfl
@[simp] theorem subUp_regs (k : Nat) : (subUp s k).regs = s.regs := rfl
@[simp] theorem subUp_regsStaged (k : Nat) : (subUp s k).regsStaged = s.regsStaged := rfl
@[simp] theorem subUp_objs (k : Nat) : (subUp s k).objs = s.objs := rfl
@[simp] theorem subUp_objsStaged (k : Nat) : (subUp s k).objsStaged = s.objsStaged := rfl
@[simp] theorem subUp_objGen (k : Nat) : (subUp s k).objGen = s.objGen := rfl
@[simp] theorem subUp_stats (k : Nat) : (subUp s k).stats = s.stats := rfl
@[simp] theorem subUp_islands (k : Nat) : (subUp s k).islands = s.islands := rfl
@[simp] theorem subUp_fresh (k : Nat) : (subUp s k).fresh = s.fresh := rfl
@[simp] theorem subUp_xing (k : Nat) : (subUp s k).xing = s.xing := rfl
@[simp] theorem subUp_lost (k : Nat) : (subUp s k).lost = s.lost := rfl
@[simp] theorem subUp_addrFaultRec (k : Nat) : (subUp s k).addrFaultRec = s.addrFaultRec := rfl
@[simp] theorem subUp_ctl (k : Nat) : (subUp s k).ctl = s.ctl := rfl
@[simp] theorem subUp_evt (k : Nat) : (subUp s k).evt = s.evt := rfl
@[simp] theorem subUp_out (k : Nat) : (subUp s k).out = s.out := rfl
@[simp] theorem subUp_tl (k : Nat) : (subUp s k).tl = s.tl := rfl
@[simp] theorem subUp_adm (k : Nat) : (subUp s k).adm = s.adm := rfl
@[simp] theorem subUp_diong (k : Nat) : (subUp s k).diong = s.diong := rfl
@[simp] theorem subUp_straps (k : Nat) : (subUp s k).straps = s.straps := rfl
@[simp] theorem subUp_sec (k : Nat) : (subUp s k).sec = s.sec := rfl
@[simp] theorem subUp_lo (k : Nat) : (subUp s k).lo = s.lo := rfl
@[simp] theorem subUp_fe (k : Nat) : (subUp s k).fe = s.fe := rfl
@[simp] theorem subUp_cvt (k : Nat) : (subUp s k).cvt = s.cvt := rfl
@[simp] theorem subUp_rx (k : Nat) : (subUp s k).rx = s.rx := rfl
@[simp] theorem subUp_tx (k : Nat) : (subUp s k).tx = s.tx := rfl
@[simp] theorem subUp_bm (k : Nat) : (subUp s k).bm = s.bm := rfl
@[simp] theorem subUp_dpds (k : Nat) : (subUp s k).dpds = s.dpds := rfl
@[simp] theorem subUp_disp (k : Nat) : (subUp s k).disp = s.disp := rfl
@[simp] theorem subUp_ge (k : Nat) : (subUp s k).ge = s.ge := rfl
@[simp] theorem subUp_cal (k : Nat) : (subUp s k).cal = s.cal := rfl
@[simp] theorem subUp_lnk (k : Nat) : (subUp s k).lnk = s.lnk := rfl
@[simp] theorem subUp_mem (k : Nat) : (subUp s k).mem = s.mem := rfl
@[simp] theorem subUp_pwr (k : Nat) : (subUp s k).pwr = s.pwr := rfl
@[simp] theorem subUp_hk (k : Nat) : (subUp s k).hk = s.hk := rfl
@[simp] theorem subUp_svc (k : Nat) : (subUp s k).svc = s.svc := rfl
@[simp] theorem subUp_boot (k : Nat) : (subUp s k).boot = s.boot := rfl
@[simp] theorem subUp_nv (k : Nat) : (subUp s k).nv = s.nv := rfl
@[simp] theorem subUp_marks (k : Nat) : (subUp s k).marks = s.marks := rfl
@[simp] theorem subUp_air (k : Nat) : (subUp s k).air = s.air := rfl

/-! ## touch -/

@[simp] theorem touch_pending (k : Nat) : (s.touch k).pending = s.pending := by unfold State.touch; split <;> rfl
@[simp] theorem touch_clk (k : Nat) : (s.touch k).clk = s.clk := by unfold State.touch; split <;> rfl
@[simp] theorem touch_freeCtr (k : Nat) : (s.touch k).freeCtr = s.freeCtr := by unfold State.touch; split <;> rfl
@[simp] theorem touch_regs (k : Nat) : (s.touch k).regs = s.regs := by unfold State.touch; split <;> rfl
@[simp] theorem touch_regsStaged (k : Nat) : (s.touch k).regsStaged = s.regsStaged := by unfold State.touch; split <;> rfl
@[simp] theorem touch_objs (k : Nat) : (s.touch k).objs = s.objs := by unfold State.touch; split <;> rfl
@[simp] theorem touch_objsStaged (k : Nat) : (s.touch k).objsStaged = s.objsStaged := by unfold State.touch; split <;> rfl
@[simp] theorem touch_objGen (k : Nat) : (s.touch k).objGen = s.objGen := by unfold State.touch; split <;> rfl
@[simp] theorem touch_stats (k : Nat) : (s.touch k).stats = s.stats := by unfold State.touch; split <;> rfl
@[simp] theorem touch_islands (k : Nat) : (s.touch k).islands = s.islands := by unfold State.touch; split <;> rfl
@[simp] theorem touch_subs (k : Nat) : (s.touch k).subs = s.subs := by unfold State.touch; split <;> rfl
@[simp] theorem touch_fresh (k : Nat) : (s.touch k).fresh = s.fresh := by unfold State.touch; split <;> rfl
@[simp] theorem touch_xing (k : Nat) : (s.touch k).xing = s.xing := by unfold State.touch; split <;> rfl
@[simp] theorem touch_lost (k : Nat) : (s.touch k).lost = s.lost := by unfold State.touch; split <;> rfl
@[simp] theorem touch_addrFaultRec (k : Nat) : (s.touch k).addrFaultRec = s.addrFaultRec := by unfold State.touch; split <;> rfl
@[simp] theorem touch_ctl (k : Nat) : (s.touch k).ctl = s.ctl := by unfold State.touch; split <;> rfl
@[simp] theorem touch_evt (k : Nat) : (s.touch k).evt = s.evt := by unfold State.touch; split <;> rfl
@[simp] theorem touch_out (k : Nat) : (s.touch k).out = s.out := by unfold State.touch; split <;> rfl
@[simp] theorem touch_tl (k : Nat) : (s.touch k).tl = s.tl := by unfold State.touch; split <;> rfl
@[simp] theorem touch_diong (k : Nat) : (s.touch k).diong = s.diong := by unfold State.touch; split <;> rfl
@[simp] theorem touch_straps (k : Nat) : (s.touch k).straps = s.straps := by unfold State.touch; split <;> rfl
@[simp] theorem touch_sec (k : Nat) : (s.touch k).sec = s.sec := by unfold State.touch; split <;> rfl
@[simp] theorem touch_lo (k : Nat) : (s.touch k).lo = s.lo := by unfold State.touch; split <;> rfl
@[simp] theorem touch_fe (k : Nat) : (s.touch k).fe = s.fe := by unfold State.touch; split <;> rfl
@[simp] theorem touch_cvt (k : Nat) : (s.touch k).cvt = s.cvt := by unfold State.touch; split <;> rfl
@[simp] theorem touch_rx (k : Nat) : (s.touch k).rx = s.rx := by unfold State.touch; split <;> rfl
@[simp] theorem touch_tx (k : Nat) : (s.touch k).tx = s.tx := by unfold State.touch; split <;> rfl
@[simp] theorem touch_bm (k : Nat) : (s.touch k).bm = s.bm := by unfold State.touch; split <;> rfl
@[simp] theorem touch_dpds (k : Nat) : (s.touch k).dpds = s.dpds := by unfold State.touch; split <;> rfl
@[simp] theorem touch_disp (k : Nat) : (s.touch k).disp = s.disp := by unfold State.touch; split <;> rfl
@[simp] theorem touch_ge (k : Nat) : (s.touch k).ge = s.ge := by unfold State.touch; split <;> rfl
@[simp] theorem touch_cal (k : Nat) : (s.touch k).cal = s.cal := by unfold State.touch; split <;> rfl
@[simp] theorem touch_lnk (k : Nat) : (s.touch k).lnk = s.lnk := by unfold State.touch; split <;> rfl
@[simp] theorem touch_mem (k : Nat) : (s.touch k).mem = s.mem := by unfold State.touch; split <;> rfl
@[simp] theorem touch_pwr (k : Nat) : (s.touch k).pwr = s.pwr := by unfold State.touch; split <;> rfl
@[simp] theorem touch_hk (k : Nat) : (s.touch k).hk = s.hk := by unfold State.touch; split <;> rfl
@[simp] theorem touch_svc (k : Nat) : (s.touch k).svc = s.svc := by unfold State.touch; split <;> rfl
@[simp] theorem touch_boot (k : Nat) : (s.touch k).boot = s.boot := by unfold State.touch; split <;> rfl
@[simp] theorem touch_nv (k : Nat) : (s.touch k).nv = s.nv := by unfold State.touch; split <;> rfl
@[simp] theorem touch_marks (k : Nat) : (s.touch k).marks = s.marks := by unfold State.touch; split <;> rfl
@[simp] theorem touch_air (k : Nat) : (s.touch k).air = s.air := by unfold State.touch; split <;> rfl

/-! ## wrStaged -/

@[simp] theorem wrStaged_pending (id : RegId) (ix : List Nat) (v : Nat) : (wrStaged s id ix v).pending = s.pending := touch_pending _ _
@[simp] theorem wrStaged_clk (id : RegId) (ix : List Nat) (v : Nat) : (wrStaged s id ix v).clk = s.clk := touch_clk _ _
@[simp] theorem wrStaged_freeCtr (id : RegId) (ix : List Nat) (v : Nat) : (wrStaged s id ix v).freeCtr = s.freeCtr := touch_freeCtr _ _
@[simp] theorem wrStaged_regs (id : RegId) (ix : List Nat) (v : Nat) : (wrStaged s id ix v).regs = s.regs := touch_regs _ _
@[simp] theorem wrStaged_objs (id : RegId) (ix : List Nat) (v : Nat) : (wrStaged s id ix v).objs = s.objs := touch_objs _ _
@[simp] theorem wrStaged_objsStaged (id : RegId) (ix : List Nat) (v : Nat) : (wrStaged s id ix v).objsStaged = s.objsStaged := touch_objsStaged _ _
@[simp] theorem wrStaged_objGen (id : RegId) (ix : List Nat) (v : Nat) : (wrStaged s id ix v).objGen = s.objGen := touch_objGen _ _
@[simp] theorem wrStaged_stats (id : RegId) (ix : List Nat) (v : Nat) : (wrStaged s id ix v).stats = s.stats := touch_stats _ _
@[simp] theorem wrStaged_islands (id : RegId) (ix : List Nat) (v : Nat) : (wrStaged s id ix v).islands = s.islands := touch_islands _ _
@[simp] theorem wrStaged_subs (id : RegId) (ix : List Nat) (v : Nat) : (wrStaged s id ix v).subs = s.subs := touch_subs _ _
@[simp] theorem wrStaged_fresh (id : RegId) (ix : List Nat) (v : Nat) : (wrStaged s id ix v).fresh = s.fresh := touch_fresh _ _
@[simp] theorem wrStaged_xing (id : RegId) (ix : List Nat) (v : Nat) : (wrStaged s id ix v).xing = s.xing := touch_xing _ _
@[simp] theorem wrStaged_lost (id : RegId) (ix : List Nat) (v : Nat) : (wrStaged s id ix v).lost = s.lost := touch_lost _ _
@[simp] theorem wrStaged_addrFaultRec (id : RegId) (ix : List Nat) (v : Nat) : (wrStaged s id ix v).addrFaultRec = s.addrFaultRec := touch_addrFaultRec _ _
@[simp] theorem wrStaged_ctl (id : RegId) (ix : List Nat) (v : Nat) : (wrStaged s id ix v).ctl = s.ctl := touch_ctl _ _
@[simp] theorem wrStaged_evt (id : RegId) (ix : List Nat) (v : Nat) : (wrStaged s id ix v).evt = s.evt := touch_evt _ _
@[simp] theorem wrStaged_out (id : RegId) (ix : List Nat) (v : Nat) : (wrStaged s id ix v).out = s.out := touch_out _ _
@[simp] theorem wrStaged_tl (id : RegId) (ix : List Nat) (v : Nat) : (wrStaged s id ix v).tl = s.tl := touch_tl _ _
@[simp] theorem wrStaged_diong (id : RegId) (ix : List Nat) (v : Nat) : (wrStaged s id ix v).diong = s.diong := touch_diong _ _
@[simp] theorem wrStaged_straps (id : RegId) (ix : List Nat) (v : Nat) : (wrStaged s id ix v).straps = s.straps := touch_straps _ _
@[simp] theorem wrStaged_sec (id : RegId) (ix : List Nat) (v : Nat) : (wrStaged s id ix v).sec = s.sec := touch_sec _ _
@[simp] theorem wrStaged_lo (id : RegId) (ix : List Nat) (v : Nat) : (wrStaged s id ix v).lo = s.lo := touch_lo _ _
@[simp] theorem wrStaged_fe (id : RegId) (ix : List Nat) (v : Nat) : (wrStaged s id ix v).fe = s.fe := touch_fe _ _
@[simp] theorem wrStaged_cvt (id : RegId) (ix : List Nat) (v : Nat) : (wrStaged s id ix v).cvt = s.cvt := touch_cvt _ _
@[simp] theorem wrStaged_rx (id : RegId) (ix : List Nat) (v : Nat) : (wrStaged s id ix v).rx = s.rx := touch_rx _ _
@[simp] theorem wrStaged_tx (id : RegId) (ix : List Nat) (v : Nat) : (wrStaged s id ix v).tx = s.tx := touch_tx _ _
@[simp] theorem wrStaged_bm (id : RegId) (ix : List Nat) (v : Nat) : (wrStaged s id ix v).bm = s.bm := touch_bm _ _
@[simp] theorem wrStaged_dpds (id : RegId) (ix : List Nat) (v : Nat) : (wrStaged s id ix v).dpds = s.dpds := touch_dpds _ _
@[simp] theorem wrStaged_disp (id : RegId) (ix : List Nat) (v : Nat) : (wrStaged s id ix v).disp = s.disp := touch_disp _ _
@[simp] theorem wrStaged_ge (id : RegId) (ix : List Nat) (v : Nat) : (wrStaged s id ix v).ge = s.ge := touch_ge _ _
@[simp] theorem wrStaged_cal (id : RegId) (ix : List Nat) (v : Nat) : (wrStaged s id ix v).cal = s.cal := touch_cal _ _
@[simp] theorem wrStaged_lnk (id : RegId) (ix : List Nat) (v : Nat) : (wrStaged s id ix v).lnk = s.lnk := touch_lnk _ _
@[simp] theorem wrStaged_mem (id : RegId) (ix : List Nat) (v : Nat) : (wrStaged s id ix v).mem = s.mem := touch_mem _ _
@[simp] theorem wrStaged_pwr (id : RegId) (ix : List Nat) (v : Nat) : (wrStaged s id ix v).pwr = s.pwr := touch_pwr _ _
@[simp] theorem wrStaged_hk (id : RegId) (ix : List Nat) (v : Nat) : (wrStaged s id ix v).hk = s.hk := touch_hk _ _
@[simp] theorem wrStaged_svc (id : RegId) (ix : List Nat) (v : Nat) : (wrStaged s id ix v).svc = s.svc := touch_svc _ _
@[simp] theorem wrStaged_boot (id : RegId) (ix : List Nat) (v : Nat) : (wrStaged s id ix v).boot = s.boot := touch_boot _ _
@[simp] theorem wrStaged_nv (id : RegId) (ix : List Nat) (v : Nat) : (wrStaged s id ix v).nv = s.nv := touch_nv _ _
@[simp] theorem wrStaged_marks (id : RegId) (ix : List Nat) (v : Nat) : (wrStaged s id ix v).marks = s.marks := touch_marks _ _
@[simp] theorem wrStaged_air (id : RegId) (ix : List Nat) (v : Nat) : (wrStaged s id ix v).air = s.air := touch_air _ _

/-! ## emit -/

@[simp] theorem emit_pending (x : OutMsg) : (emit s x).pending = s.pending := rfl
@[simp] theorem emit_clk (x : OutMsg) : (emit s x).clk = s.clk := rfl
@[simp] theorem emit_freeCtr (x : OutMsg) : (emit s x).freeCtr = s.freeCtr := rfl
@[simp] theorem emit_regs (x : OutMsg) : (emit s x).regs = s.regs := rfl
@[simp] theorem emit_regsStaged (x : OutMsg) : (emit s x).regsStaged = s.regsStaged := rfl
@[simp] theorem emit_objs (x : OutMsg) : (emit s x).objs = s.objs := rfl
@[simp] theorem emit_objsStaged (x : OutMsg) : (emit s x).objsStaged = s.objsStaged := rfl
@[simp] theorem emit_objGen (x : OutMsg) : (emit s x).objGen = s.objGen := rfl
@[simp] theorem emit_stats (x : OutMsg) : (emit s x).stats = s.stats := rfl
@[simp] theorem emit_islands (x : OutMsg) : (emit s x).islands = s.islands := rfl
@[simp] theorem emit_subs (x : OutMsg) : (emit s x).subs = s.subs := rfl
@[simp] theorem emit_fresh (x : OutMsg) : (emit s x).fresh = s.fresh := rfl
@[simp] theorem emit_xing (x : OutMsg) : (emit s x).xing = s.xing := rfl
@[simp] theorem emit_lost (x : OutMsg) : (emit s x).lost = s.lost := rfl
@[simp] theorem emit_addrFaultRec (x : OutMsg) : (emit s x).addrFaultRec = s.addrFaultRec := rfl
@[simp] theorem emit_ctl (x : OutMsg) : (emit s x).ctl = s.ctl := rfl
@[simp] theorem emit_evt (x : OutMsg) : (emit s x).evt = s.evt := rfl
@[simp] theorem emit_tl (x : OutMsg) : (emit s x).tl = s.tl := rfl
@[simp] theorem emit_adm (x : OutMsg) : (emit s x).adm = s.adm := rfl
@[simp] theorem emit_diong (x : OutMsg) : (emit s x).diong = s.diong := rfl
@[simp] theorem emit_straps (x : OutMsg) : (emit s x).straps = s.straps := rfl
@[simp] theorem emit_sec (x : OutMsg) : (emit s x).sec = s.sec := rfl
@[simp] theorem emit_lo (x : OutMsg) : (emit s x).lo = s.lo := rfl
@[simp] theorem emit_fe (x : OutMsg) : (emit s x).fe = s.fe := rfl
@[simp] theorem emit_cvt (x : OutMsg) : (emit s x).cvt = s.cvt := rfl
@[simp] theorem emit_rx (x : OutMsg) : (emit s x).rx = s.rx := rfl
@[simp] theorem emit_tx (x : OutMsg) : (emit s x).tx = s.tx := rfl
@[simp] theorem emit_bm (x : OutMsg) : (emit s x).bm = s.bm := rfl
@[simp] theorem emit_dpds (x : OutMsg) : (emit s x).dpds = s.dpds := rfl
@[simp] theorem emit_disp (x : OutMsg) : (emit s x).disp = s.disp := rfl
@[simp] theorem emit_ge (x : OutMsg) : (emit s x).ge = s.ge := rfl
@[simp] theorem emit_cal (x : OutMsg) : (emit s x).cal = s.cal := rfl
@[simp] theorem emit_lnk (x : OutMsg) : (emit s x).lnk = s.lnk := rfl
@[simp] theorem emit_mem (x : OutMsg) : (emit s x).mem = s.mem := rfl
@[simp] theorem emit_pwr (x : OutMsg) : (emit s x).pwr = s.pwr := rfl
@[simp] theorem emit_hk (x : OutMsg) : (emit s x).hk = s.hk := rfl
@[simp] theorem emit_svc (x : OutMsg) : (emit s x).svc = s.svc := rfl
@[simp] theorem emit_boot (x : OutMsg) : (emit s x).boot = s.boot := rfl
@[simp] theorem emit_nv (x : OutMsg) : (emit s x).nv = s.nv := rfl
@[simp] theorem emit_marks (x : OutMsg) : (emit s x).marks = s.marks := rfl
@[simp] theorem emit_air (x : OutMsg) : (emit s x).air = s.air := rfl

/-! ## passTicks -/

@[simp] theorem passTicks_pending (k : Nat) : (passTicks s k).pending = s.pending := rfl
@[simp] theorem passTicks_freeCtr (k : Nat) : (passTicks s k).freeCtr = s.freeCtr := rfl
@[simp] theorem passTicks_regs (k : Nat) : (passTicks s k).regs = s.regs := rfl
@[simp] theorem passTicks_regsStaged (k : Nat) : (passTicks s k).regsStaged = s.regsStaged := rfl
@[simp] theorem passTicks_objs (k : Nat) : (passTicks s k).objs = s.objs := rfl
@[simp] theorem passTicks_objsStaged (k : Nat) : (passTicks s k).objsStaged = s.objsStaged := rfl
@[simp] theorem passTicks_objGen (k : Nat) : (passTicks s k).objGen = s.objGen := rfl
@[simp] theorem passTicks_stats (k : Nat) : (passTicks s k).stats = s.stats := rfl
@[simp] theorem passTicks_islands (k : Nat) : (passTicks s k).islands = s.islands := rfl
@[simp] theorem passTicks_subs (k : Nat) : (passTicks s k).subs = s.subs := rfl
@[simp] theorem passTicks_fresh (k : Nat) : (passTicks s k).fresh = s.fresh := rfl
@[simp] theorem passTicks_xing (k : Nat) : (passTicks s k).xing = s.xing := rfl
@[simp] theorem passTicks_lost (k : Nat) : (passTicks s k).lost = s.lost := rfl
@[simp] theorem passTicks_addrFaultRec (k : Nat) : (passTicks s k).addrFaultRec = s.addrFaultRec := rfl
@[simp] theorem passTicks_ctl (k : Nat) : (passTicks s k).ctl = s.ctl := rfl
@[simp] theorem passTicks_evt (k : Nat) : (passTicks s k).evt = s.evt := rfl
@[simp] theorem passTicks_out (k : Nat) : (passTicks s k).out = s.out := rfl
@[simp] theorem passTicks_tl (k : Nat) : (passTicks s k).tl = s.tl := rfl
@[simp] theorem passTicks_adm (k : Nat) : (passTicks s k).adm = s.adm := rfl
@[simp] theorem passTicks_diong (k : Nat) : (passTicks s k).diong = s.diong := rfl
@[simp] theorem passTicks_straps (k : Nat) : (passTicks s k).straps = s.straps := rfl
@[simp] theorem passTicks_sec (k : Nat) : (passTicks s k).sec = s.sec := rfl
@[simp] theorem passTicks_lo (k : Nat) : (passTicks s k).lo = s.lo := rfl
@[simp] theorem passTicks_fe (k : Nat) : (passTicks s k).fe = s.fe := rfl
@[simp] theorem passTicks_cvt (k : Nat) : (passTicks s k).cvt = s.cvt := rfl
@[simp] theorem passTicks_rx (k : Nat) : (passTicks s k).rx = s.rx := rfl
@[simp] theorem passTicks_tx (k : Nat) : (passTicks s k).tx = s.tx := rfl
@[simp] theorem passTicks_bm (k : Nat) : (passTicks s k).bm = s.bm := rfl
@[simp] theorem passTicks_dpds (k : Nat) : (passTicks s k).dpds = s.dpds := rfl
@[simp] theorem passTicks_disp (k : Nat) : (passTicks s k).disp = s.disp := rfl
@[simp] theorem passTicks_ge (k : Nat) : (passTicks s k).ge = s.ge := rfl
@[simp] theorem passTicks_cal (k : Nat) : (passTicks s k).cal = s.cal := rfl
@[simp] theorem passTicks_lnk (k : Nat) : (passTicks s k).lnk = s.lnk := rfl
@[simp] theorem passTicks_mem (k : Nat) : (passTicks s k).mem = s.mem := rfl
@[simp] theorem passTicks_pwr (k : Nat) : (passTicks s k).pwr = s.pwr := rfl
@[simp] theorem passTicks_hk (k : Nat) : (passTicks s k).hk = s.hk := rfl
@[simp] theorem passTicks_svc (k : Nat) : (passTicks s k).svc = s.svc := rfl
@[simp] theorem passTicks_boot (k : Nat) : (passTicks s k).boot = s.boot := rfl
@[simp] theorem passTicks_nv (k : Nat) : (passTicks s k).nv = s.nv := rfl
@[simp] theorem passTicks_marks (k : Nat) : (passTicks s k).marks = s.marks := rfl

/-! ## setIsland -/

@[simp] theorem setIsland_pending (i : Nat) (x : Island) : (s.setIsland i x).pending = s.pending := rfl
@[simp] theorem setIsland_clk (i : Nat) (x : Island) : (s.setIsland i x).clk = s.clk := rfl
@[simp] theorem setIsland_freeCtr (i : Nat) (x : Island) : (s.setIsland i x).freeCtr = s.freeCtr := rfl
@[simp] theorem setIsland_regs (i : Nat) (x : Island) : (s.setIsland i x).regs = s.regs := rfl
@[simp] theorem setIsland_regsStaged (i : Nat) (x : Island) : (s.setIsland i x).regsStaged = s.regsStaged := rfl
@[simp] theorem setIsland_objs (i : Nat) (x : Island) : (s.setIsland i x).objs = s.objs := rfl
@[simp] theorem setIsland_objsStaged (i : Nat) (x : Island) : (s.setIsland i x).objsStaged = s.objsStaged := rfl
@[simp] theorem setIsland_objGen (i : Nat) (x : Island) : (s.setIsland i x).objGen = s.objGen := rfl
@[simp] theorem setIsland_stats (i : Nat) (x : Island) : (s.setIsland i x).stats = s.stats := rfl
@[simp] theorem setIsland_subs (i : Nat) (x : Island) : (s.setIsland i x).subs = s.subs := rfl
@[simp] theorem setIsland_fresh (i : Nat) (x : Island) : (s.setIsland i x).fresh = s.fresh := rfl
@[simp] theorem setIsland_xing (i : Nat) (x : Island) : (s.setIsland i x).xing = s.xing := rfl
@[simp] theorem setIsland_lost (i : Nat) (x : Island) : (s.setIsland i x).lost = s.lost := rfl
@[simp] theorem setIsland_addrFaultRec (i : Nat) (x : Island) : (s.setIsland i x).addrFaultRec = s.addrFaultRec := rfl
@[simp] theorem setIsland_ctl (i : Nat) (x : Island) : (s.setIsland i x).ctl = s.ctl := rfl
@[simp] theorem setIsland_evt (i : Nat) (x : Island) : (s.setIsland i x).evt = s.evt := rfl
@[simp] theorem setIsland_out (i : Nat) (x : Island) : (s.setIsland i x).out = s.out := rfl
@[simp] theorem setIsland_tl (i : Nat) (x : Island) : (s.setIsland i x).tl = s.tl := rfl
@[simp] theorem setIsland_adm (i : Nat) (x : Island) : (s.setIsland i x).adm = s.adm := rfl
@[simp] theorem setIsland_diong (i : Nat) (x : Island) : (s.setIsland i x).diong = s.diong := rfl
@[simp] theorem setIsland_straps (i : Nat) (x : Island) : (s.setIsland i x).straps = s.straps := rfl
@[simp] theorem setIsland_sec (i : Nat) (x : Island) : (s.setIsland i x).sec = s.sec := rfl
@[simp] theorem setIsland_lo (i : Nat) (x : Island) : (s.setIsland i x).lo = s.lo := rfl
@[simp] theorem setIsland_fe (i : Nat) (x : Island) : (s.setIsland i x).fe = s.fe := rfl
@[simp] theorem setIsland_cvt (i : Nat) (x : Island) : (s.setIsland i x).cvt = s.cvt := rfl
@[simp] theorem setIsland_rx (i : Nat) (x : Island) : (s.setIsland i x).rx = s.rx := rfl
@[simp] theorem setIsland_tx (i : Nat) (x : Island) : (s.setIsland i x).tx = s.tx := rfl
@[simp] theorem setIsland_bm (i : Nat) (x : Island) : (s.setIsland i x).bm = s.bm := rfl
@[simp] theorem setIsland_dpds (i : Nat) (x : Island) : (s.setIsland i x).dpds = s.dpds := rfl
@[simp] theorem setIsland_disp (i : Nat) (x : Island) : (s.setIsland i x).disp = s.disp := rfl
@[simp] theorem setIsland_ge (i : Nat) (x : Island) : (s.setIsland i x).ge = s.ge := rfl
@[simp] theorem setIsland_cal (i : Nat) (x : Island) : (s.setIsland i x).cal = s.cal := rfl
@[simp] theorem setIsland_lnk (i : Nat) (x : Island) : (s.setIsland i x).lnk = s.lnk := rfl
@[simp] theorem setIsland_mem (i : Nat) (x : Island) : (s.setIsland i x).mem = s.mem := rfl
@[simp] theorem setIsland_pwr (i : Nat) (x : Island) : (s.setIsland i x).pwr = s.pwr := rfl
@[simp] theorem setIsland_hk (i : Nat) (x : Island) : (s.setIsland i x).hk = s.hk := rfl
@[simp] theorem setIsland_svc (i : Nat) (x : Island) : (s.setIsland i x).svc = s.svc := rfl
@[simp] theorem setIsland_boot (i : Nat) (x : Island) : (s.setIsland i x).boot = s.boot := rfl
@[simp] theorem setIsland_nv (i : Nat) (x : Island) : (s.setIsland i x).nv = s.nv := rfl
@[simp] theorem setIsland_marks (i : Nat) (x : Island) : (s.setIsland i x).marks = s.marks := rfl
@[simp] theorem setIsland_air (i : Nat) (x : Island) : (s.setIsland i x).air = s.air := rfl

/-! ## setFe -/

@[simp] theorem setFe_pending (p : Nat) (x : PathFe) : (s.setFe p x).pending = s.pending := rfl
@[simp] theorem setFe_clk (p : Nat) (x : PathFe) : (s.setFe p x).clk = s.clk := rfl
@[simp] theorem setFe_freeCtr (p : Nat) (x : PathFe) : (s.setFe p x).freeCtr = s.freeCtr := rfl
@[simp] theorem setFe_regs (p : Nat) (x : PathFe) : (s.setFe p x).regs = s.regs := rfl
@[simp] theorem setFe_regsStaged (p : Nat) (x : PathFe) : (s.setFe p x).regsStaged = s.regsStaged := rfl
@[simp] theorem setFe_objs (p : Nat) (x : PathFe) : (s.setFe p x).objs = s.objs := rfl
@[simp] theorem setFe_objsStaged (p : Nat) (x : PathFe) : (s.setFe p x).objsStaged = s.objsStaged := rfl
@[simp] theorem setFe_objGen (p : Nat) (x : PathFe) : (s.setFe p x).objGen = s.objGen := rfl
@[simp] theorem setFe_stats (p : Nat) (x : PathFe) : (s.setFe p x).stats = s.stats := rfl
@[simp] theorem setFe_islands (p : Nat) (x : PathFe) : (s.setFe p x).islands = s.islands := rfl
@[simp] theorem setFe_subs (p : Nat) (x : PathFe) : (s.setFe p x).subs = s.subs := rfl
@[simp] theorem setFe_fresh (p : Nat) (x : PathFe) : (s.setFe p x).fresh = s.fresh := rfl
@[simp] theorem setFe_xing (p : Nat) (x : PathFe) : (s.setFe p x).xing = s.xing := rfl
@[simp] theorem setFe_lost (p : Nat) (x : PathFe) : (s.setFe p x).lost = s.lost := rfl
@[simp] theorem setFe_addrFaultRec (p : Nat) (x : PathFe) : (s.setFe p x).addrFaultRec = s.addrFaultRec := rfl
@[simp] theorem setFe_ctl (p : Nat) (x : PathFe) : (s.setFe p x).ctl = s.ctl := rfl
@[simp] theorem setFe_evt (p : Nat) (x : PathFe) : (s.setFe p x).evt = s.evt := rfl
@[simp] theorem setFe_out (p : Nat) (x : PathFe) : (s.setFe p x).out = s.out := rfl
@[simp] theorem setFe_tl (p : Nat) (x : PathFe) : (s.setFe p x).tl = s.tl := rfl
@[simp] theorem setFe_adm (p : Nat) (x : PathFe) : (s.setFe p x).adm = s.adm := rfl
@[simp] theorem setFe_diong (p : Nat) (x : PathFe) : (s.setFe p x).diong = s.diong := rfl
@[simp] theorem setFe_straps (p : Nat) (x : PathFe) : (s.setFe p x).straps = s.straps := rfl
@[simp] theorem setFe_sec (p : Nat) (x : PathFe) : (s.setFe p x).sec = s.sec := rfl
@[simp] theorem setFe_lo (p : Nat) (x : PathFe) : (s.setFe p x).lo = s.lo := rfl
@[simp] theorem setFe_cvt (p : Nat) (x : PathFe) : (s.setFe p x).cvt = s.cvt := rfl
@[simp] theorem setFe_rx (p : Nat) (x : PathFe) : (s.setFe p x).rx = s.rx := rfl
@[simp] theorem setFe_tx (p : Nat) (x : PathFe) : (s.setFe p x).tx = s.tx := rfl
@[simp] theorem setFe_bm (p : Nat) (x : PathFe) : (s.setFe p x).bm = s.bm := rfl
@[simp] theorem setFe_dpds (p : Nat) (x : PathFe) : (s.setFe p x).dpds = s.dpds := rfl
@[simp] theorem setFe_disp (p : Nat) (x : PathFe) : (s.setFe p x).disp = s.disp := rfl
@[simp] theorem setFe_ge (p : Nat) (x : PathFe) : (s.setFe p x).ge = s.ge := rfl
@[simp] theorem setFe_cal (p : Nat) (x : PathFe) : (s.setFe p x).cal = s.cal := rfl
@[simp] theorem setFe_lnk (p : Nat) (x : PathFe) : (s.setFe p x).lnk = s.lnk := rfl
@[simp] theorem setFe_mem (p : Nat) (x : PathFe) : (s.setFe p x).mem = s.mem := rfl
@[simp] theorem setFe_pwr (p : Nat) (x : PathFe) : (s.setFe p x).pwr = s.pwr := rfl
@[simp] theorem setFe_hk (p : Nat) (x : PathFe) : (s.setFe p x).hk = s.hk := rfl
@[simp] theorem setFe_svc (p : Nat) (x : PathFe) : (s.setFe p x).svc = s.svc := rfl
@[simp] theorem setFe_boot (p : Nat) (x : PathFe) : (s.setFe p x).boot = s.boot := rfl
@[simp] theorem setFe_nv (p : Nat) (x : PathFe) : (s.setFe p x).nv = s.nv := rfl
@[simp] theorem setFe_marks (p : Nat) (x : PathFe) : (s.setFe p x).marks = s.marks := rfl
@[simp] theorem setFe_air (p : Nat) (x : PathFe) : (s.setFe p x).air = s.air := rfl

/-! ## setSyn -/

@[simp] theorem setSyn_pending (k : Nat) (x : Syn) : (s.setSyn k x).pending = s.pending := rfl
@[simp] theorem setSyn_clk (k : Nat) (x : Syn) : (s.setSyn k x).clk = s.clk := rfl
@[simp] theorem setSyn_freeCtr (k : Nat) (x : Syn) : (s.setSyn k x).freeCtr = s.freeCtr := rfl
@[simp] theorem setSyn_regs (k : Nat) (x : Syn) : (s.setSyn k x).regs = s.regs := rfl
@[simp] theorem setSyn_regsStaged (k : Nat) (x : Syn) : (s.setSyn k x).regsStaged = s.regsStaged := rfl
@[simp] theorem setSyn_objs (k : Nat) (x : Syn) : (s.setSyn k x).objs = s.objs := rfl
@[simp] theorem setSyn_objsStaged (k : Nat) (x : Syn) : (s.setSyn k x).objsStaged = s.objsStaged := rfl
@[simp] theorem setSyn_objGen (k : Nat) (x : Syn) : (s.setSyn k x).objGen = s.objGen := rfl
@[simp] theorem setSyn_stats (k : Nat) (x : Syn) : (s.setSyn k x).stats = s.stats := rfl
@[simp] theorem setSyn_islands (k : Nat) (x : Syn) : (s.setSyn k x).islands = s.islands := rfl
@[simp] theorem setSyn_subs (k : Nat) (x : Syn) : (s.setSyn k x).subs = s.subs := rfl
@[simp] theorem setSyn_fresh (k : Nat) (x : Syn) : (s.setSyn k x).fresh = s.fresh := rfl
@[simp] theorem setSyn_xing (k : Nat) (x : Syn) : (s.setSyn k x).xing = s.xing := rfl
@[simp] theorem setSyn_lost (k : Nat) (x : Syn) : (s.setSyn k x).lost = s.lost := rfl
@[simp] theorem setSyn_addrFaultRec (k : Nat) (x : Syn) : (s.setSyn k x).addrFaultRec = s.addrFaultRec := rfl
@[simp] theorem setSyn_ctl (k : Nat) (x : Syn) : (s.setSyn k x).ctl = s.ctl := rfl
@[simp] theorem setSyn_evt (k : Nat) (x : Syn) : (s.setSyn k x).evt = s.evt := rfl
@[simp] theorem setSyn_out (k : Nat) (x : Syn) : (s.setSyn k x).out = s.out := rfl
@[simp] theorem setSyn_tl (k : Nat) (x : Syn) : (s.setSyn k x).tl = s.tl := rfl
@[simp] theorem setSyn_adm (k : Nat) (x : Syn) : (s.setSyn k x).adm = s.adm := rfl
@[simp] theorem setSyn_diong (k : Nat) (x : Syn) : (s.setSyn k x).diong = s.diong := rfl
@[simp] theorem setSyn_straps (k : Nat) (x : Syn) : (s.setSyn k x).straps = s.straps := rfl
@[simp] theorem setSyn_sec (k : Nat) (x : Syn) : (s.setSyn k x).sec = s.sec := rfl
@[simp] theorem setSyn_fe (k : Nat) (x : Syn) : (s.setSyn k x).fe = s.fe := rfl
@[simp] theorem setSyn_cvt (k : Nat) (x : Syn) : (s.setSyn k x).cvt = s.cvt := rfl
@[simp] theorem setSyn_rx (k : Nat) (x : Syn) : (s.setSyn k x).rx = s.rx := rfl
@[simp] theorem setSyn_tx (k : Nat) (x : Syn) : (s.setSyn k x).tx = s.tx := rfl
@[simp] theorem setSyn_bm (k : Nat) (x : Syn) : (s.setSyn k x).bm = s.bm := rfl
@[simp] theorem setSyn_dpds (k : Nat) (x : Syn) : (s.setSyn k x).dpds = s.dpds := rfl
@[simp] theorem setSyn_disp (k : Nat) (x : Syn) : (s.setSyn k x).disp = s.disp := rfl
@[simp] theorem setSyn_ge (k : Nat) (x : Syn) : (s.setSyn k x).ge = s.ge := rfl
@[simp] theorem setSyn_cal (k : Nat) (x : Syn) : (s.setSyn k x).cal = s.cal := rfl
@[simp] theorem setSyn_lnk (k : Nat) (x : Syn) : (s.setSyn k x).lnk = s.lnk := rfl
@[simp] theorem setSyn_mem (k : Nat) (x : Syn) : (s.setSyn k x).mem = s.mem := rfl
@[simp] theorem setSyn_pwr (k : Nat) (x : Syn) : (s.setSyn k x).pwr = s.pwr := rfl
@[simp] theorem setSyn_hk (k : Nat) (x : Syn) : (s.setSyn k x).hk = s.hk := rfl
@[simp] theorem setSyn_svc (k : Nat) (x : Syn) : (s.setSyn k x).svc = s.svc := rfl
@[simp] theorem setSyn_boot (k : Nat) (x : Syn) : (s.setSyn k x).boot = s.boot := rfl
@[simp] theorem setSyn_nv (k : Nat) (x : Syn) : (s.setSyn k x).nv = s.nv := rfl
@[simp] theorem setSyn_marks (k : Nat) (x : Syn) : (s.setSyn k x).marks = s.marks := rfl
@[simp] theorem setSyn_air (k : Nat) (x : Syn) : (s.setSyn k x).air = s.air := rfl

/-! ## setConv -/

@[simp] theorem setConv_pending (k : Nat) (x : Conv) : (s.setConv k x).pending = s.pending := rfl
@[simp] theorem setConv_clk (k : Nat) (x : Conv) : (s.setConv k x).clk = s.clk := rfl
@[simp] theorem setConv_freeCtr (k : Nat) (x : Conv) : (s.setConv k x).freeCtr = s.freeCtr := rfl
@[simp] theorem setConv_regs (k : Nat) (x : Conv) : (s.setConv k x).regs = s.regs := rfl
@[simp] theorem setConv_regsStaged (k : Nat) (x : Conv) : (s.setConv k x).regsStaged = s.regsStaged := rfl
@[simp] theorem setConv_objs (k : Nat) (x : Conv) : (s.setConv k x).objs = s.objs := rfl
@[simp] theorem setConv_objsStaged (k : Nat) (x : Conv) : (s.setConv k x).objsStaged = s.objsStaged := rfl
@[simp] theorem setConv_objGen (k : Nat) (x : Conv) : (s.setConv k x).objGen = s.objGen := rfl
@[simp] theorem setConv_stats (k : Nat) (x : Conv) : (s.setConv k x).stats = s.stats := rfl
@[simp] theorem setConv_islands (k : Nat) (x : Conv) : (s.setConv k x).islands = s.islands := rfl
@[simp] theorem setConv_subs (k : Nat) (x : Conv) : (s.setConv k x).subs = s.subs := rfl
@[simp] theorem setConv_fresh (k : Nat) (x : Conv) : (s.setConv k x).fresh = s.fresh := rfl
@[simp] theorem setConv_xing (k : Nat) (x : Conv) : (s.setConv k x).xing = s.xing := rfl
@[simp] theorem setConv_lost (k : Nat) (x : Conv) : (s.setConv k x).lost = s.lost := rfl
@[simp] theorem setConv_addrFaultRec (k : Nat) (x : Conv) : (s.setConv k x).addrFaultRec = s.addrFaultRec := rfl
@[simp] theorem setConv_ctl (k : Nat) (x : Conv) : (s.setConv k x).ctl = s.ctl := rfl
@[simp] theorem setConv_evt (k : Nat) (x : Conv) : (s.setConv k x).evt = s.evt := rfl
@[simp] theorem setConv_out (k : Nat) (x : Conv) : (s.setConv k x).out = s.out := rfl
@[simp] theorem setConv_tl (k : Nat) (x : Conv) : (s.setConv k x).tl = s.tl := rfl
@[simp] theorem setConv_adm (k : Nat) (x : Conv) : (s.setConv k x).adm = s.adm := rfl
@[simp] theorem setConv_diong (k : Nat) (x : Conv) : (s.setConv k x).diong = s.diong := rfl
@[simp] theorem setConv_straps (k : Nat) (x : Conv) : (s.setConv k x).straps = s.straps := rfl
@[simp] theorem setConv_sec (k : Nat) (x : Conv) : (s.setConv k x).sec = s.sec := rfl
@[simp] theorem setConv_lo (k : Nat) (x : Conv) : (s.setConv k x).lo = s.lo := rfl
@[simp] theorem setConv_fe (k : Nat) (x : Conv) : (s.setConv k x).fe = s.fe := rfl
@[simp] theorem setConv_rx (k : Nat) (x : Conv) : (s.setConv k x).rx = s.rx := rfl
@[simp] theorem setConv_tx (k : Nat) (x : Conv) : (s.setConv k x).tx = s.tx := rfl
@[simp] theorem setConv_bm (k : Nat) (x : Conv) : (s.setConv k x).bm = s.bm := rfl
@[simp] theorem setConv_dpds (k : Nat) (x : Conv) : (s.setConv k x).dpds = s.dpds := rfl
@[simp] theorem setConv_disp (k : Nat) (x : Conv) : (s.setConv k x).disp = s.disp := rfl
@[simp] theorem setConv_ge (k : Nat) (x : Conv) : (s.setConv k x).ge = s.ge := rfl
@[simp] theorem setConv_cal (k : Nat) (x : Conv) : (s.setConv k x).cal = s.cal := rfl
@[simp] theorem setConv_lnk (k : Nat) (x : Conv) : (s.setConv k x).lnk = s.lnk := rfl
@[simp] theorem setConv_mem (k : Nat) (x : Conv) : (s.setConv k x).mem = s.mem := rfl
@[simp] theorem setConv_pwr (k : Nat) (x : Conv) : (s.setConv k x).pwr = s.pwr := rfl
@[simp] theorem setConv_hk (k : Nat) (x : Conv) : (s.setConv k x).hk = s.hk := rfl
@[simp] theorem setConv_svc (k : Nat) (x : Conv) : (s.setConv k x).svc = s.svc := rfl
@[simp] theorem setConv_boot (k : Nat) (x : Conv) : (s.setConv k x).boot = s.boot := rfl
@[simp] theorem setConv_nv (k : Nat) (x : Conv) : (s.setConv k x).nv = s.nv := rfl
@[simp] theorem setConv_marks (k : Nat) (x : Conv) : (s.setConv k x).marks = s.marks := rfl
@[simp] theorem setConv_air (k : Nat) (x : Conv) : (s.setConv k x).air = s.air := rfl

/-! ## setDac -/

@[simp] theorem setDac_pending (k : Nat) (x : DacCells) : (s.setDac k x).pending = s.pending := rfl
@[simp] theorem setDac_clk (k : Nat) (x : DacCells) : (s.setDac k x).clk = s.clk := rfl
@[simp] theorem setDac_freeCtr (k : Nat) (x : DacCells) : (s.setDac k x).freeCtr = s.freeCtr := rfl
@[simp] theorem setDac_regs (k : Nat) (x : DacCells) : (s.setDac k x).regs = s.regs := rfl
@[simp] theorem setDac_regsStaged (k : Nat) (x : DacCells) : (s.setDac k x).regsStaged = s.regsStaged := rfl
@[simp] theorem setDac_objs (k : Nat) (x : DacCells) : (s.setDac k x).objs = s.objs := rfl
@[simp] theorem setDac_objsStaged (k : Nat) (x : DacCells) : (s.setDac k x).objsStaged = s.objsStaged := rfl
@[simp] theorem setDac_objGen (k : Nat) (x : DacCells) : (s.setDac k x).objGen = s.objGen := rfl
@[simp] theorem setDac_stats (k : Nat) (x : DacCells) : (s.setDac k x).stats = s.stats := rfl
@[simp] theorem setDac_islands (k : Nat) (x : DacCells) : (s.setDac k x).islands = s.islands := rfl
@[simp] theorem setDac_subs (k : Nat) (x : DacCells) : (s.setDac k x).subs = s.subs := rfl
@[simp] theorem setDac_fresh (k : Nat) (x : DacCells) : (s.setDac k x).fresh = s.fresh := rfl
@[simp] theorem setDac_xing (k : Nat) (x : DacCells) : (s.setDac k x).xing = s.xing := rfl
@[simp] theorem setDac_lost (k : Nat) (x : DacCells) : (s.setDac k x).lost = s.lost := rfl
@[simp] theorem setDac_addrFaultRec (k : Nat) (x : DacCells) : (s.setDac k x).addrFaultRec = s.addrFaultRec := rfl
@[simp] theorem setDac_ctl (k : Nat) (x : DacCells) : (s.setDac k x).ctl = s.ctl := rfl
@[simp] theorem setDac_evt (k : Nat) (x : DacCells) : (s.setDac k x).evt = s.evt := rfl
@[simp] theorem setDac_out (k : Nat) (x : DacCells) : (s.setDac k x).out = s.out := rfl
@[simp] theorem setDac_tl (k : Nat) (x : DacCells) : (s.setDac k x).tl = s.tl := rfl
@[simp] theorem setDac_adm (k : Nat) (x : DacCells) : (s.setDac k x).adm = s.adm := rfl
@[simp] theorem setDac_diong (k : Nat) (x : DacCells) : (s.setDac k x).diong = s.diong := rfl
@[simp] theorem setDac_straps (k : Nat) (x : DacCells) : (s.setDac k x).straps = s.straps := rfl
@[simp] theorem setDac_sec (k : Nat) (x : DacCells) : (s.setDac k x).sec = s.sec := rfl
@[simp] theorem setDac_lo (k : Nat) (x : DacCells) : (s.setDac k x).lo = s.lo := rfl
@[simp] theorem setDac_fe (k : Nat) (x : DacCells) : (s.setDac k x).fe = s.fe := rfl
@[simp] theorem setDac_rx (k : Nat) (x : DacCells) : (s.setDac k x).rx = s.rx := rfl
@[simp] theorem setDac_tx (k : Nat) (x : DacCells) : (s.setDac k x).tx = s.tx := rfl
@[simp] theorem setDac_bm (k : Nat) (x : DacCells) : (s.setDac k x).bm = s.bm := rfl
@[simp] theorem setDac_dpds (k : Nat) (x : DacCells) : (s.setDac k x).dpds = s.dpds := rfl
@[simp] theorem setDac_disp (k : Nat) (x : DacCells) : (s.setDac k x).disp = s.disp := rfl
@[simp] theorem setDac_ge (k : Nat) (x : DacCells) : (s.setDac k x).ge = s.ge := rfl
@[simp] theorem setDac_cal (k : Nat) (x : DacCells) : (s.setDac k x).cal = s.cal := rfl
@[simp] theorem setDac_lnk (k : Nat) (x : DacCells) : (s.setDac k x).lnk = s.lnk := rfl
@[simp] theorem setDac_mem (k : Nat) (x : DacCells) : (s.setDac k x).mem = s.mem := rfl
@[simp] theorem setDac_pwr (k : Nat) (x : DacCells) : (s.setDac k x).pwr = s.pwr := rfl
@[simp] theorem setDac_hk (k : Nat) (x : DacCells) : (s.setDac k x).hk = s.hk := rfl
@[simp] theorem setDac_svc (k : Nat) (x : DacCells) : (s.setDac k x).svc = s.svc := rfl
@[simp] theorem setDac_boot (k : Nat) (x : DacCells) : (s.setDac k x).boot = s.boot := rfl
@[simp] theorem setDac_nv (k : Nat) (x : DacCells) : (s.setDac k x).nv = s.nv := rfl
@[simp] theorem setDac_marks (k : Nat) (x : DacCells) : (s.setDac k x).marks = s.marks := rfl
@[simp] theorem setDac_air (k : Nat) (x : DacCells) : (s.setDac k x).air = s.air := rfl

/-! ## setOrx -/

@[simp] theorem setOrx_pending (k : Nat) (x : Orx) : (s.setOrx k x).pending = s.pending := rfl
@[simp] theorem setOrx_clk (k : Nat) (x : Orx) : (s.setOrx k x).clk = s.clk := rfl
@[simp] theorem setOrx_freeCtr (k : Nat) (x : Orx) : (s.setOrx k x).freeCtr = s.freeCtr := rfl
@[simp] theorem setOrx_regs (k : Nat) (x : Orx) : (s.setOrx k x).regs = s.regs := rfl
@[simp] theorem setOrx_regsStaged (k : Nat) (x : Orx) : (s.setOrx k x).regsStaged = s.regsStaged := rfl
@[simp] theorem setOrx_objs (k : Nat) (x : Orx) : (s.setOrx k x).objs = s.objs := rfl
@[simp] theorem setOrx_objsStaged (k : Nat) (x : Orx) : (s.setOrx k x).objsStaged = s.objsStaged := rfl
@[simp] theorem setOrx_objGen (k : Nat) (x : Orx) : (s.setOrx k x).objGen = s.objGen := rfl
@[simp] theorem setOrx_stats (k : Nat) (x : Orx) : (s.setOrx k x).stats = s.stats := rfl
@[simp] theorem setOrx_islands (k : Nat) (x : Orx) : (s.setOrx k x).islands = s.islands := rfl
@[simp] theorem setOrx_subs (k : Nat) (x : Orx) : (s.setOrx k x).subs = s.subs := rfl
@[simp] theorem setOrx_fresh (k : Nat) (x : Orx) : (s.setOrx k x).fresh = s.fresh := rfl
@[simp] theorem setOrx_xing (k : Nat) (x : Orx) : (s.setOrx k x).xing = s.xing := rfl
@[simp] theorem setOrx_lost (k : Nat) (x : Orx) : (s.setOrx k x).lost = s.lost := rfl
@[simp] theorem setOrx_addrFaultRec (k : Nat) (x : Orx) : (s.setOrx k x).addrFaultRec = s.addrFaultRec := rfl
@[simp] theorem setOrx_ctl (k : Nat) (x : Orx) : (s.setOrx k x).ctl = s.ctl := rfl
@[simp] theorem setOrx_evt (k : Nat) (x : Orx) : (s.setOrx k x).evt = s.evt := rfl
@[simp] theorem setOrx_out (k : Nat) (x : Orx) : (s.setOrx k x).out = s.out := rfl
@[simp] theorem setOrx_tl (k : Nat) (x : Orx) : (s.setOrx k x).tl = s.tl := rfl
@[simp] theorem setOrx_adm (k : Nat) (x : Orx) : (s.setOrx k x).adm = s.adm := rfl
@[simp] theorem setOrx_diong (k : Nat) (x : Orx) : (s.setOrx k x).diong = s.diong := rfl
@[simp] theorem setOrx_straps (k : Nat) (x : Orx) : (s.setOrx k x).straps = s.straps := rfl
@[simp] theorem setOrx_sec (k : Nat) (x : Orx) : (s.setOrx k x).sec = s.sec := rfl
@[simp] theorem setOrx_lo (k : Nat) (x : Orx) : (s.setOrx k x).lo = s.lo := rfl
@[simp] theorem setOrx_fe (k : Nat) (x : Orx) : (s.setOrx k x).fe = s.fe := rfl
@[simp] theorem setOrx_rx (k : Nat) (x : Orx) : (s.setOrx k x).rx = s.rx := rfl
@[simp] theorem setOrx_tx (k : Nat) (x : Orx) : (s.setOrx k x).tx = s.tx := rfl
@[simp] theorem setOrx_bm (k : Nat) (x : Orx) : (s.setOrx k x).bm = s.bm := rfl
@[simp] theorem setOrx_dpds (k : Nat) (x : Orx) : (s.setOrx k x).dpds = s.dpds := rfl
@[simp] theorem setOrx_disp (k : Nat) (x : Orx) : (s.setOrx k x).disp = s.disp := rfl
@[simp] theorem setOrx_ge (k : Nat) (x : Orx) : (s.setOrx k x).ge = s.ge := rfl
@[simp] theorem setOrx_cal (k : Nat) (x : Orx) : (s.setOrx k x).cal = s.cal := rfl
@[simp] theorem setOrx_lnk (k : Nat) (x : Orx) : (s.setOrx k x).lnk = s.lnk := rfl
@[simp] theorem setOrx_mem (k : Nat) (x : Orx) : (s.setOrx k x).mem = s.mem := rfl
@[simp] theorem setOrx_pwr (k : Nat) (x : Orx) : (s.setOrx k x).pwr = s.pwr := rfl
@[simp] theorem setOrx_hk (k : Nat) (x : Orx) : (s.setOrx k x).hk = s.hk := rfl
@[simp] theorem setOrx_svc (k : Nat) (x : Orx) : (s.setOrx k x).svc = s.svc := rfl
@[simp] theorem setOrx_boot (k : Nat) (x : Orx) : (s.setOrx k x).boot = s.boot := rfl
@[simp] theorem setOrx_nv (k : Nat) (x : Orx) : (s.setOrx k x).nv = s.nv := rfl
@[simp] theorem setOrx_marks (k : Nat) (x : Orx) : (s.setOrx k x).marks = s.marks := rfl
@[simp] theorem setOrx_air (k : Nat) (x : Orx) : (s.setOrx k x).air = s.air := rfl

/-! ## setBuf -/

@[simp] theorem setBuf_pending (k : Nat) (x : CapBuf) : (s.setBuf k x).pending = s.pending := rfl
@[simp] theorem setBuf_clk (k : Nat) (x : CapBuf) : (s.setBuf k x).clk = s.clk := rfl
@[simp] theorem setBuf_freeCtr (k : Nat) (x : CapBuf) : (s.setBuf k x).freeCtr = s.freeCtr := rfl
@[simp] theorem setBuf_regs (k : Nat) (x : CapBuf) : (s.setBuf k x).regs = s.regs := rfl
@[simp] theorem setBuf_regsStaged (k : Nat) (x : CapBuf) : (s.setBuf k x).regsStaged = s.regsStaged := rfl
@[simp] theorem setBuf_objs (k : Nat) (x : CapBuf) : (s.setBuf k x).objs = s.objs := rfl
@[simp] theorem setBuf_objsStaged (k : Nat) (x : CapBuf) : (s.setBuf k x).objsStaged = s.objsStaged := rfl
@[simp] theorem setBuf_objGen (k : Nat) (x : CapBuf) : (s.setBuf k x).objGen = s.objGen := rfl
@[simp] theorem setBuf_stats (k : Nat) (x : CapBuf) : (s.setBuf k x).stats = s.stats := rfl
@[simp] theorem setBuf_islands (k : Nat) (x : CapBuf) : (s.setBuf k x).islands = s.islands := rfl
@[simp] theorem setBuf_subs (k : Nat) (x : CapBuf) : (s.setBuf k x).subs = s.subs := rfl
@[simp] theorem setBuf_fresh (k : Nat) (x : CapBuf) : (s.setBuf k x).fresh = s.fresh := rfl
@[simp] theorem setBuf_xing (k : Nat) (x : CapBuf) : (s.setBuf k x).xing = s.xing := rfl
@[simp] theorem setBuf_lost (k : Nat) (x : CapBuf) : (s.setBuf k x).lost = s.lost := rfl
@[simp] theorem setBuf_addrFaultRec (k : Nat) (x : CapBuf) : (s.setBuf k x).addrFaultRec = s.addrFaultRec := rfl
@[simp] theorem setBuf_ctl (k : Nat) (x : CapBuf) : (s.setBuf k x).ctl = s.ctl := rfl
@[simp] theorem setBuf_evt (k : Nat) (x : CapBuf) : (s.setBuf k x).evt = s.evt := rfl
@[simp] theorem setBuf_out (k : Nat) (x : CapBuf) : (s.setBuf k x).out = s.out := rfl
@[simp] theorem setBuf_tl (k : Nat) (x : CapBuf) : (s.setBuf k x).tl = s.tl := rfl
@[simp] theorem setBuf_adm (k : Nat) (x : CapBuf) : (s.setBuf k x).adm = s.adm := rfl
@[simp] theorem setBuf_diong (k : Nat) (x : CapBuf) : (s.setBuf k x).diong = s.diong := rfl
@[simp] theorem setBuf_straps (k : Nat) (x : CapBuf) : (s.setBuf k x).straps = s.straps := rfl
@[simp] theorem setBuf_sec (k : Nat) (x : CapBuf) : (s.setBuf k x).sec = s.sec := rfl
@[simp] theorem setBuf_lo (k : Nat) (x : CapBuf) : (s.setBuf k x).lo = s.lo := rfl
@[simp] theorem setBuf_fe (k : Nat) (x : CapBuf) : (s.setBuf k x).fe = s.fe := rfl
@[simp] theorem setBuf_rx (k : Nat) (x : CapBuf) : (s.setBuf k x).rx = s.rx := rfl
@[simp] theorem setBuf_tx (k : Nat) (x : CapBuf) : (s.setBuf k x).tx = s.tx := rfl
@[simp] theorem setBuf_bm (k : Nat) (x : CapBuf) : (s.setBuf k x).bm = s.bm := rfl
@[simp] theorem setBuf_dpds (k : Nat) (x : CapBuf) : (s.setBuf k x).dpds = s.dpds := rfl
@[simp] theorem setBuf_disp (k : Nat) (x : CapBuf) : (s.setBuf k x).disp = s.disp := rfl
@[simp] theorem setBuf_ge (k : Nat) (x : CapBuf) : (s.setBuf k x).ge = s.ge := rfl
@[simp] theorem setBuf_cal (k : Nat) (x : CapBuf) : (s.setBuf k x).cal = s.cal := rfl
@[simp] theorem setBuf_lnk (k : Nat) (x : CapBuf) : (s.setBuf k x).lnk = s.lnk := rfl
@[simp] theorem setBuf_mem (k : Nat) (x : CapBuf) : (s.setBuf k x).mem = s.mem := rfl
@[simp] theorem setBuf_pwr (k : Nat) (x : CapBuf) : (s.setBuf k x).pwr = s.pwr := rfl
@[simp] theorem setBuf_hk (k : Nat) (x : CapBuf) : (s.setBuf k x).hk = s.hk := rfl
@[simp] theorem setBuf_svc (k : Nat) (x : CapBuf) : (s.setBuf k x).svc = s.svc := rfl
@[simp] theorem setBuf_boot (k : Nat) (x : CapBuf) : (s.setBuf k x).boot = s.boot := rfl
@[simp] theorem setBuf_nv (k : Nat) (x : CapBuf) : (s.setBuf k x).nv = s.nv := rfl
@[simp] theorem setBuf_marks (k : Nat) (x : CapBuf) : (s.setBuf k x).marks = s.marks := rfl
@[simp] theorem setBuf_air (k : Nat) (x : CapBuf) : (s.setBuf k x).air = s.air := rfl

/-! ## setLanes -/

@[simp] theorem setLanes_pending (c : Nat) (x : Lanes) : (s.setLanes c x).pending = s.pending := rfl
@[simp] theorem setLanes_clk (c : Nat) (x : Lanes) : (s.setLanes c x).clk = s.clk := rfl
@[simp] theorem setLanes_freeCtr (c : Nat) (x : Lanes) : (s.setLanes c x).freeCtr = s.freeCtr := rfl
@[simp] theorem setLanes_regs (c : Nat) (x : Lanes) : (s.setLanes c x).regs = s.regs := rfl
@[simp] theorem setLanes_regsStaged (c : Nat) (x : Lanes) : (s.setLanes c x).regsStaged = s.regsStaged := rfl
@[simp] theorem setLanes_objs (c : Nat) (x : Lanes) : (s.setLanes c x).objs = s.objs := rfl
@[simp] theorem setLanes_objsStaged (c : Nat) (x : Lanes) : (s.setLanes c x).objsStaged = s.objsStaged := rfl
@[simp] theorem setLanes_objGen (c : Nat) (x : Lanes) : (s.setLanes c x).objGen = s.objGen := rfl
@[simp] theorem setLanes_stats (c : Nat) (x : Lanes) : (s.setLanes c x).stats = s.stats := rfl
@[simp] theorem setLanes_islands (c : Nat) (x : Lanes) : (s.setLanes c x).islands = s.islands := rfl
@[simp] theorem setLanes_subs (c : Nat) (x : Lanes) : (s.setLanes c x).subs = s.subs := rfl
@[simp] theorem setLanes_fresh (c : Nat) (x : Lanes) : (s.setLanes c x).fresh = s.fresh := rfl
@[simp] theorem setLanes_xing (c : Nat) (x : Lanes) : (s.setLanes c x).xing = s.xing := rfl
@[simp] theorem setLanes_lost (c : Nat) (x : Lanes) : (s.setLanes c x).lost = s.lost := rfl
@[simp] theorem setLanes_addrFaultRec (c : Nat) (x : Lanes) : (s.setLanes c x).addrFaultRec = s.addrFaultRec := rfl
@[simp] theorem setLanes_ctl (c : Nat) (x : Lanes) : (s.setLanes c x).ctl = s.ctl := rfl
@[simp] theorem setLanes_evt (c : Nat) (x : Lanes) : (s.setLanes c x).evt = s.evt := rfl
@[simp] theorem setLanes_out (c : Nat) (x : Lanes) : (s.setLanes c x).out = s.out := rfl
@[simp] theorem setLanes_tl (c : Nat) (x : Lanes) : (s.setLanes c x).tl = s.tl := rfl
@[simp] theorem setLanes_adm (c : Nat) (x : Lanes) : (s.setLanes c x).adm = s.adm := rfl
@[simp] theorem setLanes_diong (c : Nat) (x : Lanes) : (s.setLanes c x).diong = s.diong := rfl
@[simp] theorem setLanes_straps (c : Nat) (x : Lanes) : (s.setLanes c x).straps = s.straps := rfl
@[simp] theorem setLanes_sec (c : Nat) (x : Lanes) : (s.setLanes c x).sec = s.sec := rfl
@[simp] theorem setLanes_lo (c : Nat) (x : Lanes) : (s.setLanes c x).lo = s.lo := rfl
@[simp] theorem setLanes_fe (c : Nat) (x : Lanes) : (s.setLanes c x).fe = s.fe := rfl
@[simp] theorem setLanes_cvt (c : Nat) (x : Lanes) : (s.setLanes c x).cvt = s.cvt := rfl
@[simp] theorem setLanes_tx (c : Nat) (x : Lanes) : (s.setLanes c x).tx = s.tx := rfl
@[simp] theorem setLanes_bm (c : Nat) (x : Lanes) : (s.setLanes c x).bm = s.bm := rfl
@[simp] theorem setLanes_dpds (c : Nat) (x : Lanes) : (s.setLanes c x).dpds = s.dpds := rfl
@[simp] theorem setLanes_disp (c : Nat) (x : Lanes) : (s.setLanes c x).disp = s.disp := rfl
@[simp] theorem setLanes_ge (c : Nat) (x : Lanes) : (s.setLanes c x).ge = s.ge := rfl
@[simp] theorem setLanes_cal (c : Nat) (x : Lanes) : (s.setLanes c x).cal = s.cal := rfl
@[simp] theorem setLanes_lnk (c : Nat) (x : Lanes) : (s.setLanes c x).lnk = s.lnk := rfl
@[simp] theorem setLanes_mem (c : Nat) (x : Lanes) : (s.setLanes c x).mem = s.mem := rfl
@[simp] theorem setLanes_pwr (c : Nat) (x : Lanes) : (s.setLanes c x).pwr = s.pwr := rfl
@[simp] theorem setLanes_hk (c : Nat) (x : Lanes) : (s.setLanes c x).hk = s.hk := rfl
@[simp] theorem setLanes_svc (c : Nat) (x : Lanes) : (s.setLanes c x).svc = s.svc := rfl
@[simp] theorem setLanes_boot (c : Nat) (x : Lanes) : (s.setLanes c x).boot = s.boot := rfl
@[simp] theorem setLanes_nv (c : Nat) (x : Lanes) : (s.setLanes c x).nv = s.nv := rfl
@[simp] theorem setLanes_marks (c : Nat) (x : Lanes) : (s.setLanes c x).marks = s.marks := rfl
@[simp] theorem setLanes_air (c : Nat) (x : Lanes) : (s.setLanes c x).air = s.air := rfl

/-! ## setRxg -/

@[simp] theorem setRxg_pending (p : Nat) (x : Rxg) : (s.setRxg p x).pending = s.pending := rfl
@[simp] theorem setRxg_clk (p : Nat) (x : Rxg) : (s.setRxg p x).clk = s.clk := rfl
@[simp] theorem setRxg_freeCtr (p : Nat) (x : Rxg) : (s.setRxg p x).freeCtr = s.freeCtr := rfl
@[simp] theorem setRxg_regs (p : Nat) (x : Rxg) : (s.setRxg p x).regs = s.regs := rfl
@[simp] theorem setRxg_regsStaged (p : Nat) (x : Rxg) : (s.setRxg p x).regsStaged = s.regsStaged := rfl
@[simp] theorem setRxg_objs (p : Nat) (x : Rxg) : (s.setRxg p x).objs = s.objs := rfl
@[simp] theorem setRxg_objsStaged (p : Nat) (x : Rxg) : (s.setRxg p x).objsStaged = s.objsStaged := rfl
@[simp] theorem setRxg_objGen (p : Nat) (x : Rxg) : (s.setRxg p x).objGen = s.objGen := rfl
@[simp] theorem setRxg_stats (p : Nat) (x : Rxg) : (s.setRxg p x).stats = s.stats := rfl
@[simp] theorem setRxg_islands (p : Nat) (x : Rxg) : (s.setRxg p x).islands = s.islands := rfl
@[simp] theorem setRxg_subs (p : Nat) (x : Rxg) : (s.setRxg p x).subs = s.subs := rfl
@[simp] theorem setRxg_fresh (p : Nat) (x : Rxg) : (s.setRxg p x).fresh = s.fresh := rfl
@[simp] theorem setRxg_xing (p : Nat) (x : Rxg) : (s.setRxg p x).xing = s.xing := rfl
@[simp] theorem setRxg_lost (p : Nat) (x : Rxg) : (s.setRxg p x).lost = s.lost := rfl
@[simp] theorem setRxg_addrFaultRec (p : Nat) (x : Rxg) : (s.setRxg p x).addrFaultRec = s.addrFaultRec := rfl
@[simp] theorem setRxg_ctl (p : Nat) (x : Rxg) : (s.setRxg p x).ctl = s.ctl := rfl
@[simp] theorem setRxg_evt (p : Nat) (x : Rxg) : (s.setRxg p x).evt = s.evt := rfl
@[simp] theorem setRxg_out (p : Nat) (x : Rxg) : (s.setRxg p x).out = s.out := rfl
@[simp] theorem setRxg_tl (p : Nat) (x : Rxg) : (s.setRxg p x).tl = s.tl := rfl
@[simp] theorem setRxg_adm (p : Nat) (x : Rxg) : (s.setRxg p x).adm = s.adm := rfl
@[simp] theorem setRxg_diong (p : Nat) (x : Rxg) : (s.setRxg p x).diong = s.diong := rfl
@[simp] theorem setRxg_straps (p : Nat) (x : Rxg) : (s.setRxg p x).straps = s.straps := rfl
@[simp] theorem setRxg_sec (p : Nat) (x : Rxg) : (s.setRxg p x).sec = s.sec := rfl
@[simp] theorem setRxg_lo (p : Nat) (x : Rxg) : (s.setRxg p x).lo = s.lo := rfl
@[simp] theorem setRxg_fe (p : Nat) (x : Rxg) : (s.setRxg p x).fe = s.fe := rfl
@[simp] theorem setRxg_cvt (p : Nat) (x : Rxg) : (s.setRxg p x).cvt = s.cvt := rfl
@[simp] theorem setRxg_tx (p : Nat) (x : Rxg) : (s.setRxg p x).tx = s.tx := rfl
@[simp] theorem setRxg_bm (p : Nat) (x : Rxg) : (s.setRxg p x).bm = s.bm := rfl
@[simp] theorem setRxg_dpds (p : Nat) (x : Rxg) : (s.setRxg p x).dpds = s.dpds := rfl
@[simp] theorem setRxg_disp (p : Nat) (x : Rxg) : (s.setRxg p x).disp = s.disp := rfl
@[simp] theorem setRxg_ge (p : Nat) (x : Rxg) : (s.setRxg p x).ge = s.ge := rfl
@[simp] theorem setRxg_cal (p : Nat) (x : Rxg) : (s.setRxg p x).cal = s.cal := rfl
@[simp] theorem setRxg_lnk (p : Nat) (x : Rxg) : (s.setRxg p x).lnk = s.lnk := rfl
@[simp] theorem setRxg_mem (p : Nat) (x : Rxg) : (s.setRxg p x).mem = s.mem := rfl
@[simp] theorem setRxg_pwr (p : Nat) (x : Rxg) : (s.setRxg p x).pwr = s.pwr := rfl
@[simp] theorem setRxg_hk (p : Nat) (x : Rxg) : (s.setRxg p x).hk = s.hk := rfl
@[simp] theorem setRxg_svc (p : Nat) (x : Rxg) : (s.setRxg p x).svc = s.svc := rfl
@[simp] theorem setRxg_boot (p : Nat) (x : Rxg) : (s.setRxg p x).boot = s.boot := rfl
@[simp] theorem setRxg_nv (p : Nat) (x : Rxg) : (s.setRxg p x).nv = s.nv := rfl
@[simp] theorem setRxg_marks (p : Nat) (x : Rxg) : (s.setRxg p x).marks = s.marks := rfl
@[simp] theorem setRxg_air (p : Nat) (x : Rxg) : (s.setRxg p x).air = s.air := rfl

/-! ## setWset -/

@[simp] theorem setWset_pending (cc d : Nat) (x : WSet) : (s.setWset cc d x).pending = s.pending := rfl
@[simp] theorem setWset_clk (cc d : Nat) (x : WSet) : (s.setWset cc d x).clk = s.clk := rfl
@[simp] theorem setWset_freeCtr (cc d : Nat) (x : WSet) : (s.setWset cc d x).freeCtr = s.freeCtr := rfl
@[simp] theorem setWset_regs (cc d : Nat) (x : WSet) : (s.setWset cc d x).regs = s.regs := rfl
@[simp] theorem setWset_regsStaged (cc d : Nat) (x : WSet) : (s.setWset cc d x).regsStaged = s.regsStaged := rfl
@[simp] theorem setWset_objs (cc d : Nat) (x : WSet) : (s.setWset cc d x).objs = s.objs := rfl
@[simp] theorem setWset_objsStaged (cc d : Nat) (x : WSet) : (s.setWset cc d x).objsStaged = s.objsStaged := rfl
@[simp] theorem setWset_objGen (cc d : Nat) (x : WSet) : (s.setWset cc d x).objGen = s.objGen := rfl
@[simp] theorem setWset_stats (cc d : Nat) (x : WSet) : (s.setWset cc d x).stats = s.stats := rfl
@[simp] theorem setWset_islands (cc d : Nat) (x : WSet) : (s.setWset cc d x).islands = s.islands := rfl
@[simp] theorem setWset_subs (cc d : Nat) (x : WSet) : (s.setWset cc d x).subs = s.subs := rfl
@[simp] theorem setWset_fresh (cc d : Nat) (x : WSet) : (s.setWset cc d x).fresh = s.fresh := rfl
@[simp] theorem setWset_xing (cc d : Nat) (x : WSet) : (s.setWset cc d x).xing = s.xing := rfl
@[simp] theorem setWset_lost (cc d : Nat) (x : WSet) : (s.setWset cc d x).lost = s.lost := rfl
@[simp] theorem setWset_addrFaultRec (cc d : Nat) (x : WSet) : (s.setWset cc d x).addrFaultRec = s.addrFaultRec := rfl
@[simp] theorem setWset_ctl (cc d : Nat) (x : WSet) : (s.setWset cc d x).ctl = s.ctl := rfl
@[simp] theorem setWset_evt (cc d : Nat) (x : WSet) : (s.setWset cc d x).evt = s.evt := rfl
@[simp] theorem setWset_out (cc d : Nat) (x : WSet) : (s.setWset cc d x).out = s.out := rfl
@[simp] theorem setWset_tl (cc d : Nat) (x : WSet) : (s.setWset cc d x).tl = s.tl := rfl
@[simp] theorem setWset_adm (cc d : Nat) (x : WSet) : (s.setWset cc d x).adm = s.adm := rfl
@[simp] theorem setWset_diong (cc d : Nat) (x : WSet) : (s.setWset cc d x).diong = s.diong := rfl
@[simp] theorem setWset_straps (cc d : Nat) (x : WSet) : (s.setWset cc d x).straps = s.straps := rfl
@[simp] theorem setWset_sec (cc d : Nat) (x : WSet) : (s.setWset cc d x).sec = s.sec := rfl
@[simp] theorem setWset_lo (cc d : Nat) (x : WSet) : (s.setWset cc d x).lo = s.lo := rfl
@[simp] theorem setWset_fe (cc d : Nat) (x : WSet) : (s.setWset cc d x).fe = s.fe := rfl
@[simp] theorem setWset_cvt (cc d : Nat) (x : WSet) : (s.setWset cc d x).cvt = s.cvt := rfl
@[simp] theorem setWset_rx (cc d : Nat) (x : WSet) : (s.setWset cc d x).rx = s.rx := rfl
@[simp] theorem setWset_tx (cc d : Nat) (x : WSet) : (s.setWset cc d x).tx = s.tx := rfl
@[simp] theorem setWset_dpds (cc d : Nat) (x : WSet) : (s.setWset cc d x).dpds = s.dpds := rfl
@[simp] theorem setWset_disp (cc d : Nat) (x : WSet) : (s.setWset cc d x).disp = s.disp := rfl
@[simp] theorem setWset_ge (cc d : Nat) (x : WSet) : (s.setWset cc d x).ge = s.ge := rfl
@[simp] theorem setWset_cal (cc d : Nat) (x : WSet) : (s.setWset cc d x).cal = s.cal := rfl
@[simp] theorem setWset_lnk (cc d : Nat) (x : WSet) : (s.setWset cc d x).lnk = s.lnk := rfl
@[simp] theorem setWset_mem (cc d : Nat) (x : WSet) : (s.setWset cc d x).mem = s.mem := rfl
@[simp] theorem setWset_pwr (cc d : Nat) (x : WSet) : (s.setWset cc d x).pwr = s.pwr := rfl
@[simp] theorem setWset_hk (cc d : Nat) (x : WSet) : (s.setWset cc d x).hk = s.hk := rfl
@[simp] theorem setWset_svc (cc d : Nat) (x : WSet) : (s.setWset cc d x).svc = s.svc := rfl
@[simp] theorem setWset_boot (cc d : Nat) (x : WSet) : (s.setWset cc d x).boot = s.boot := rfl
@[simp] theorem setWset_nv (cc d : Nat) (x : WSet) : (s.setWset cc d x).nv = s.nv := rfl
@[simp] theorem setWset_marks (cc d : Nat) (x : WSet) : (s.setWset cc d x).marks = s.marks := rfl
@[simp] theorem setWset_air (cc d : Nat) (x : WSet) : (s.setWset cc d x).air = s.air := rfl

/-! ## setDpd -/

@[simp] theorem setDpd_pending (p : Nat) (x : Dpd) : (s.setDpd p x).pending = s.pending := rfl
@[simp] theorem setDpd_clk (p : Nat) (x : Dpd) : (s.setDpd p x).clk = s.clk := rfl
@[simp] theorem setDpd_freeCtr (p : Nat) (x : Dpd) : (s.setDpd p x).freeCtr = s.freeCtr := rfl
@[simp] theorem setDpd_regs (p : Nat) (x : Dpd) : (s.setDpd p x).regs = s.regs := rfl
@[simp] theorem setDpd_regsStaged (p : Nat) (x : Dpd) : (s.setDpd p x).regsStaged = s.regsStaged := rfl
@[simp] theorem setDpd_objs (p : Nat) (x : Dpd) : (s.setDpd p x).objs = s.objs := rfl
@[simp] theorem setDpd_objsStaged (p : Nat) (x : Dpd) : (s.setDpd p x).objsStaged = s.objsStaged := rfl
@[simp] theorem setDpd_objGen (p : Nat) (x : Dpd) : (s.setDpd p x).objGen = s.objGen := rfl
@[simp] theorem setDpd_stats (p : Nat) (x : Dpd) : (s.setDpd p x).stats = s.stats := rfl
@[simp] theorem setDpd_islands (p : Nat) (x : Dpd) : (s.setDpd p x).islands = s.islands := rfl
@[simp] theorem setDpd_subs (p : Nat) (x : Dpd) : (s.setDpd p x).subs = s.subs := rfl
@[simp] theorem setDpd_fresh (p : Nat) (x : Dpd) : (s.setDpd p x).fresh = s.fresh := rfl
@[simp] theorem setDpd_xing (p : Nat) (x : Dpd) : (s.setDpd p x).xing = s.xing := rfl
@[simp] theorem setDpd_lost (p : Nat) (x : Dpd) : (s.setDpd p x).lost = s.lost := rfl
@[simp] theorem setDpd_addrFaultRec (p : Nat) (x : Dpd) : (s.setDpd p x).addrFaultRec = s.addrFaultRec := rfl
@[simp] theorem setDpd_ctl (p : Nat) (x : Dpd) : (s.setDpd p x).ctl = s.ctl := rfl
@[simp] theorem setDpd_evt (p : Nat) (x : Dpd) : (s.setDpd p x).evt = s.evt := rfl
@[simp] theorem setDpd_out (p : Nat) (x : Dpd) : (s.setDpd p x).out = s.out := rfl
@[simp] theorem setDpd_tl (p : Nat) (x : Dpd) : (s.setDpd p x).tl = s.tl := rfl
@[simp] theorem setDpd_adm (p : Nat) (x : Dpd) : (s.setDpd p x).adm = s.adm := rfl
@[simp] theorem setDpd_diong (p : Nat) (x : Dpd) : (s.setDpd p x).diong = s.diong := rfl
@[simp] theorem setDpd_straps (p : Nat) (x : Dpd) : (s.setDpd p x).straps = s.straps := rfl
@[simp] theorem setDpd_sec (p : Nat) (x : Dpd) : (s.setDpd p x).sec = s.sec := rfl
@[simp] theorem setDpd_lo (p : Nat) (x : Dpd) : (s.setDpd p x).lo = s.lo := rfl
@[simp] theorem setDpd_fe (p : Nat) (x : Dpd) : (s.setDpd p x).fe = s.fe := rfl
@[simp] theorem setDpd_cvt (p : Nat) (x : Dpd) : (s.setDpd p x).cvt = s.cvt := rfl
@[simp] theorem setDpd_rx (p : Nat) (x : Dpd) : (s.setDpd p x).rx = s.rx := rfl
@[simp] theorem setDpd_tx (p : Nat) (x : Dpd) : (s.setDpd p x).tx = s.tx := rfl
@[simp] theorem setDpd_bm (p : Nat) (x : Dpd) : (s.setDpd p x).bm = s.bm := rfl
@[simp] theorem setDpd_disp (p : Nat) (x : Dpd) : (s.setDpd p x).disp = s.disp := rfl
@[simp] theorem setDpd_ge (p : Nat) (x : Dpd) : (s.setDpd p x).ge = s.ge := rfl
@[simp] theorem setDpd_cal (p : Nat) (x : Dpd) : (s.setDpd p x).cal = s.cal := rfl
@[simp] theorem setDpd_lnk (p : Nat) (x : Dpd) : (s.setDpd p x).lnk = s.lnk := rfl
@[simp] theorem setDpd_mem (p : Nat) (x : Dpd) : (s.setDpd p x).mem = s.mem := rfl
@[simp] theorem setDpd_pwr (p : Nat) (x : Dpd) : (s.setDpd p x).pwr = s.pwr := rfl
@[simp] theorem setDpd_hk (p : Nat) (x : Dpd) : (s.setDpd p x).hk = s.hk := rfl
@[simp] theorem setDpd_svc (p : Nat) (x : Dpd) : (s.setDpd p x).svc = s.svc := rfl
@[simp] theorem setDpd_boot (p : Nat) (x : Dpd) : (s.setDpd p x).boot = s.boot := rfl
@[simp] theorem setDpd_nv (p : Nat) (x : Dpd) : (s.setDpd p x).nv = s.nv := rfl
@[simp] theorem setDpd_marks (p : Nat) (x : Dpd) : (s.setDpd p x).marks = s.marks := rfl
@[simp] theorem setDpd_air (p : Nat) (x : Dpd) : (s.setDpd p x).air = s.air := rfl

/-! ## setEng -/

@[simp] theorem setEng_pending (e : Nat) (x : Eng) : (s.setEng e x).pending = s.pending := rfl
@[simp] theorem setEng_clk (e : Nat) (x : Eng) : (s.setEng e x).clk = s.clk := rfl
@[simp] theorem setEng_freeCtr (e : Nat) (x : Eng) : (s.setEng e x).freeCtr = s.freeCtr := rfl
@[simp] theorem setEng_regs (e : Nat) (x : Eng) : (s.setEng e x).regs = s.regs := rfl
@[simp] theorem setEng_regsStaged (e : Nat) (x : Eng) : (s.setEng e x).regsStaged = s.regsStaged := rfl
@[simp] theorem setEng_objs (e : Nat) (x : Eng) : (s.setEng e x).objs = s.objs := rfl
@[simp] theorem setEng_objsStaged (e : Nat) (x : Eng) : (s.setEng e x).objsStaged = s.objsStaged := rfl
@[simp] theorem setEng_objGen (e : Nat) (x : Eng) : (s.setEng e x).objGen = s.objGen := rfl
@[simp] theorem setEng_stats (e : Nat) (x : Eng) : (s.setEng e x).stats = s.stats := rfl
@[simp] theorem setEng_islands (e : Nat) (x : Eng) : (s.setEng e x).islands = s.islands := rfl
@[simp] theorem setEng_subs (e : Nat) (x : Eng) : (s.setEng e x).subs = s.subs := rfl
@[simp] theorem setEng_fresh (e : Nat) (x : Eng) : (s.setEng e x).fresh = s.fresh := rfl
@[simp] theorem setEng_xing (e : Nat) (x : Eng) : (s.setEng e x).xing = s.xing := rfl
@[simp] theorem setEng_lost (e : Nat) (x : Eng) : (s.setEng e x).lost = s.lost := rfl
@[simp] theorem setEng_addrFaultRec (e : Nat) (x : Eng) : (s.setEng e x).addrFaultRec = s.addrFaultRec := rfl
@[simp] theorem setEng_ctl (e : Nat) (x : Eng) : (s.setEng e x).ctl = s.ctl := rfl
@[simp] theorem setEng_evt (e : Nat) (x : Eng) : (s.setEng e x).evt = s.evt := rfl
@[simp] theorem setEng_out (e : Nat) (x : Eng) : (s.setEng e x).out = s.out := rfl
@[simp] theorem setEng_tl (e : Nat) (x : Eng) : (s.setEng e x).tl = s.tl := rfl
@[simp] theorem setEng_adm (e : Nat) (x : Eng) : (s.setEng e x).adm = s.adm := rfl
@[simp] theorem setEng_diong (e : Nat) (x : Eng) : (s.setEng e x).diong = s.diong := rfl
@[simp] theorem setEng_straps (e : Nat) (x : Eng) : (s.setEng e x).straps = s.straps := rfl
@[simp] theorem setEng_sec (e : Nat) (x : Eng) : (s.setEng e x).sec = s.sec := rfl
@[simp] theorem setEng_lo (e : Nat) (x : Eng) : (s.setEng e x).lo = s.lo := rfl
@[simp] theorem setEng_fe (e : Nat) (x : Eng) : (s.setEng e x).fe = s.fe := rfl
@[simp] theorem setEng_cvt (e : Nat) (x : Eng) : (s.setEng e x).cvt = s.cvt := rfl
@[simp] theorem setEng_rx (e : Nat) (x : Eng) : (s.setEng e x).rx = s.rx := rfl
@[simp] theorem setEng_tx (e : Nat) (x : Eng) : (s.setEng e x).tx = s.tx := rfl
@[simp] theorem setEng_bm (e : Nat) (x : Eng) : (s.setEng e x).bm = s.bm := rfl
@[simp] theorem setEng_dpds (e : Nat) (x : Eng) : (s.setEng e x).dpds = s.dpds := rfl
@[simp] theorem setEng_disp (e : Nat) (x : Eng) : (s.setEng e x).disp = s.disp := rfl
@[simp] theorem setEng_cal (e : Nat) (x : Eng) : (s.setEng e x).cal = s.cal := rfl
@[simp] theorem setEng_lnk (e : Nat) (x : Eng) : (s.setEng e x).lnk = s.lnk := rfl
@[simp] theorem setEng_mem (e : Nat) (x : Eng) : (s.setEng e x).mem = s.mem := rfl
@[simp] theorem setEng_pwr (e : Nat) (x : Eng) : (s.setEng e x).pwr = s.pwr := rfl
@[simp] theorem setEng_hk (e : Nat) (x : Eng) : (s.setEng e x).hk = s.hk := rfl
@[simp] theorem setEng_svc (e : Nat) (x : Eng) : (s.setEng e x).svc = s.svc := rfl
@[simp] theorem setEng_boot (e : Nat) (x : Eng) : (s.setEng e x).boot = s.boot := rfl
@[simp] theorem setEng_nv (e : Nat) (x : Eng) : (s.setEng e x).nv = s.nv := rfl
@[simp] theorem setEng_marks (e : Nat) (x : Eng) : (s.setEng e x).marks = s.marks := rfl
@[simp] theorem setEng_air (e : Nat) (x : Eng) : (s.setEng e x).air = s.air := rfl

/-! ## setCal -/

@[simp] theorem setCal_pending (p i : Nat) (x : CalItem) : (s.setCal p i x).pending = s.pending := rfl
@[simp] theorem setCal_clk (p i : Nat) (x : CalItem) : (s.setCal p i x).clk = s.clk := rfl
@[simp] theorem setCal_freeCtr (p i : Nat) (x : CalItem) : (s.setCal p i x).freeCtr = s.freeCtr := rfl
@[simp] theorem setCal_regs (p i : Nat) (x : CalItem) : (s.setCal p i x).regs = s.regs := rfl
@[simp] theorem setCal_regsStaged (p i : Nat) (x : CalItem) : (s.setCal p i x).regsStaged = s.regsStaged := rfl
@[simp] theorem setCal_objs (p i : Nat) (x : CalItem) : (s.setCal p i x).objs = s.objs := rfl
@[simp] theorem setCal_objsStaged (p i : Nat) (x : CalItem) : (s.setCal p i x).objsStaged = s.objsStaged := rfl
@[simp] theorem setCal_objGen (p i : Nat) (x : CalItem) : (s.setCal p i x).objGen = s.objGen := rfl
@[simp] theorem setCal_stats (p i : Nat) (x : CalItem) : (s.setCal p i x).stats = s.stats := rfl
@[simp] theorem setCal_islands (p i : Nat) (x : CalItem) : (s.setCal p i x).islands = s.islands := rfl
@[simp] theorem setCal_subs (p i : Nat) (x : CalItem) : (s.setCal p i x).subs = s.subs := rfl
@[simp] theorem setCal_fresh (p i : Nat) (x : CalItem) : (s.setCal p i x).fresh = s.fresh := rfl
@[simp] theorem setCal_xing (p i : Nat) (x : CalItem) : (s.setCal p i x).xing = s.xing := rfl
@[simp] theorem setCal_lost (p i : Nat) (x : CalItem) : (s.setCal p i x).lost = s.lost := rfl
@[simp] theorem setCal_addrFaultRec (p i : Nat) (x : CalItem) : (s.setCal p i x).addrFaultRec = s.addrFaultRec := rfl
@[simp] theorem setCal_ctl (p i : Nat) (x : CalItem) : (s.setCal p i x).ctl = s.ctl := rfl
@[simp] theorem setCal_evt (p i : Nat) (x : CalItem) : (s.setCal p i x).evt = s.evt := rfl
@[simp] theorem setCal_out (p i : Nat) (x : CalItem) : (s.setCal p i x).out = s.out := rfl
@[simp] theorem setCal_tl (p i : Nat) (x : CalItem) : (s.setCal p i x).tl = s.tl := rfl
@[simp] theorem setCal_adm (p i : Nat) (x : CalItem) : (s.setCal p i x).adm = s.adm := rfl
@[simp] theorem setCal_diong (p i : Nat) (x : CalItem) : (s.setCal p i x).diong = s.diong := rfl
@[simp] theorem setCal_straps (p i : Nat) (x : CalItem) : (s.setCal p i x).straps = s.straps := rfl
@[simp] theorem setCal_sec (p i : Nat) (x : CalItem) : (s.setCal p i x).sec = s.sec := rfl
@[simp] theorem setCal_lo (p i : Nat) (x : CalItem) : (s.setCal p i x).lo = s.lo := rfl
@[simp] theorem setCal_fe (p i : Nat) (x : CalItem) : (s.setCal p i x).fe = s.fe := rfl
@[simp] theorem setCal_cvt (p i : Nat) (x : CalItem) : (s.setCal p i x).cvt = s.cvt := rfl
@[simp] theorem setCal_rx (p i : Nat) (x : CalItem) : (s.setCal p i x).rx = s.rx := rfl
@[simp] theorem setCal_tx (p i : Nat) (x : CalItem) : (s.setCal p i x).tx = s.tx := rfl
@[simp] theorem setCal_bm (p i : Nat) (x : CalItem) : (s.setCal p i x).bm = s.bm := rfl
@[simp] theorem setCal_dpds (p i : Nat) (x : CalItem) : (s.setCal p i x).dpds = s.dpds := rfl
@[simp] theorem setCal_disp (p i : Nat) (x : CalItem) : (s.setCal p i x).disp = s.disp := rfl
@[simp] theorem setCal_ge (p i : Nat) (x : CalItem) : (s.setCal p i x).ge = s.ge := rfl
@[simp] theorem setCal_lnk (p i : Nat) (x : CalItem) : (s.setCal p i x).lnk = s.lnk := rfl
@[simp] theorem setCal_mem (p i : Nat) (x : CalItem) : (s.setCal p i x).mem = s.mem := rfl
@[simp] theorem setCal_pwr (p i : Nat) (x : CalItem) : (s.setCal p i x).pwr = s.pwr := rfl
@[simp] theorem setCal_hk (p i : Nat) (x : CalItem) : (s.setCal p i x).hk = s.hk := rfl
@[simp] theorem setCal_svc (p i : Nat) (x : CalItem) : (s.setCal p i x).svc = s.svc := rfl
@[simp] theorem setCal_boot (p i : Nat) (x : CalItem) : (s.setCal p i x).boot = s.boot := rfl
@[simp] theorem setCal_nv (p i : Nat) (x : CalItem) : (s.setCal p i x).nv = s.nv := rfl
@[simp] theorem setCal_marks (p i : Nat) (x : CalItem) : (s.setCal p i x).marks = s.marks := rfl
@[simp] theorem setCal_air (p i : Nat) (x : CalItem) : (s.setCal p i x).air = s.air := rfl

/-! ## setTop -/

@[simp] theorem setTop_pending (p : Nat) (x : TopNote) : (s.setTop p x).pending = s.pending := rfl
@[simp] theorem setTop_clk (p : Nat) (x : TopNote) : (s.setTop p x).clk = s.clk := rfl
@[simp] theorem setTop_freeCtr (p : Nat) (x : TopNote) : (s.setTop p x).freeCtr = s.freeCtr := rfl
@[simp] theorem setTop_regs (p : Nat) (x : TopNote) : (s.setTop p x).regs = s.regs := rfl
@[simp] theorem setTop_regsStaged (p : Nat) (x : TopNote) : (s.setTop p x).regsStaged = s.regsStaged := rfl
@[simp] theorem setTop_objs (p : Nat) (x : TopNote) : (s.setTop p x).objs = s.objs := rfl
@[simp] theorem setTop_objsStaged (p : Nat) (x : TopNote) : (s.setTop p x).objsStaged = s.objsStaged := rfl
@[simp] theorem setTop_objGen (p : Nat) (x : TopNote) : (s.setTop p x).objGen = s.objGen := rfl
@[simp] theorem setTop_stats (p : Nat) (x : TopNote) : (s.setTop p x).stats = s.stats := rfl
@[simp] theorem setTop_islands (p : Nat) (x : TopNote) : (s.setTop p x).islands = s.islands := rfl
@[simp] theorem setTop_subs (p : Nat) (x : TopNote) : (s.setTop p x).subs = s.subs := rfl
@[simp] theorem setTop_fresh (p : Nat) (x : TopNote) : (s.setTop p x).fresh = s.fresh := rfl
@[simp] theorem setTop_xing (p : Nat) (x : TopNote) : (s.setTop p x).xing = s.xing := rfl
@[simp] theorem setTop_lost (p : Nat) (x : TopNote) : (s.setTop p x).lost = s.lost := rfl
@[simp] theorem setTop_addrFaultRec (p : Nat) (x : TopNote) : (s.setTop p x).addrFaultRec = s.addrFaultRec := rfl
@[simp] theorem setTop_ctl (p : Nat) (x : TopNote) : (s.setTop p x).ctl = s.ctl := rfl
@[simp] theorem setTop_evt (p : Nat) (x : TopNote) : (s.setTop p x).evt = s.evt := rfl
@[simp] theorem setTop_out (p : Nat) (x : TopNote) : (s.setTop p x).out = s.out := rfl
@[simp] theorem setTop_tl (p : Nat) (x : TopNote) : (s.setTop p x).tl = s.tl := rfl
@[simp] theorem setTop_adm (p : Nat) (x : TopNote) : (s.setTop p x).adm = s.adm := rfl
@[simp] theorem setTop_diong (p : Nat) (x : TopNote) : (s.setTop p x).diong = s.diong := rfl
@[simp] theorem setTop_straps (p : Nat) (x : TopNote) : (s.setTop p x).straps = s.straps := rfl
@[simp] theorem setTop_sec (p : Nat) (x : TopNote) : (s.setTop p x).sec = s.sec := rfl
@[simp] theorem setTop_lo (p : Nat) (x : TopNote) : (s.setTop p x).lo = s.lo := rfl
@[simp] theorem setTop_fe (p : Nat) (x : TopNote) : (s.setTop p x).fe = s.fe := rfl
@[simp] theorem setTop_cvt (p : Nat) (x : TopNote) : (s.setTop p x).cvt = s.cvt := rfl
@[simp] theorem setTop_rx (p : Nat) (x : TopNote) : (s.setTop p x).rx = s.rx := rfl
@[simp] theorem setTop_tx (p : Nat) (x : TopNote) : (s.setTop p x).tx = s.tx := rfl
@[simp] theorem setTop_bm (p : Nat) (x : TopNote) : (s.setTop p x).bm = s.bm := rfl
@[simp] theorem setTop_dpds (p : Nat) (x : TopNote) : (s.setTop p x).dpds = s.dpds := rfl
@[simp] theorem setTop_disp (p : Nat) (x : TopNote) : (s.setTop p x).disp = s.disp := rfl
@[simp] theorem setTop_ge (p : Nat) (x : TopNote) : (s.setTop p x).ge = s.ge := rfl
@[simp] theorem setTop_lnk (p : Nat) (x : TopNote) : (s.setTop p x).lnk = s.lnk := rfl
@[simp] theorem setTop_mem (p : Nat) (x : TopNote) : (s.setTop p x).mem = s.mem := rfl
@[simp] theorem setTop_pwr (p : Nat) (x : TopNote) : (s.setTop p x).pwr = s.pwr := rfl
@[simp] theorem setTop_hk (p : Nat) (x : TopNote) : (s.setTop p x).hk = s.hk := rfl
@[simp] theorem setTop_svc (p : Nat) (x : TopNote) : (s.setTop p x).svc = s.svc := rfl
@[simp] theorem setTop_boot (p : Nat) (x : TopNote) : (s.setTop p x).boot = s.boot := rfl
@[simp] theorem setTop_nv (p : Nat) (x : TopNote) : (s.setTop p x).nv = s.nv := rfl
@[simp] theorem setTop_marks (p : Nat) (x : TopNote) : (s.setTop p x).marks = s.marks := rfl
@[simp] theorem setTop_air (p : Nat) (x : TopNote) : (s.setTop p x).air = s.air := rfl

/-! ## setPort -/

@[simp] theorem setPort_pending (k : Nat) (x : Port) : (s.setPort k x).pending = s.pending := rfl
@[simp] theorem setPort_clk (k : Nat) (x : Port) : (s.setPort k x).clk = s.clk := rfl
@[simp] theorem setPort_freeCtr (k : Nat) (x : Port) : (s.setPort k x).freeCtr = s.freeCtr := rfl
@[simp] theorem setPort_regs (k : Nat) (x : Port) : (s.setPort k x).regs = s.regs := rfl
@[simp] theorem setPort_regsStaged (k : Nat) (x : Port) : (s.setPort k x).regsStaged = s.regsStaged := rfl
@[simp] theorem setPort_objs (k : Nat) (x : Port) : (s.setPort k x).objs = s.objs := rfl
@[simp] theorem setPort_objsStaged (k : Nat) (x : Port) : (s.setPort k x).objsStaged = s.objsStaged := rfl
@[simp] theorem setPort_objGen (k : Nat) (x : Port) : (s.setPort k x).objGen = s.objGen := rfl
@[simp] theorem setPort_stats (k : Nat) (x : Port) : (s.setPort k x).stats = s.stats := rfl
@[simp] theorem setPort_islands (k : Nat) (x : Port) : (s.setPort k x).islands = s.islands := rfl
@[simp] theorem setPort_subs (k : Nat) (x : Port) : (s.setPort k x).subs = s.subs := rfl
@[simp] theorem setPort_fresh (k : Nat) (x : Port) : (s.setPort k x).fresh = s.fresh := rfl
@[simp] theorem setPort_xing (k : Nat) (x : Port) : (s.setPort k x).xing = s.xing := rfl
@[simp] theorem setPort_lost (k : Nat) (x : Port) : (s.setPort k x).lost = s.lost := rfl
@[simp] theorem setPort_addrFaultRec (k : Nat) (x : Port) : (s.setPort k x).addrFaultRec = s.addrFaultRec := rfl
@[simp] theorem setPort_ctl (k : Nat) (x : Port) : (s.setPort k x).ctl = s.ctl := rfl
@[simp] theorem setPort_evt (k : Nat) (x : Port) : (s.setPort k x).evt = s.evt := rfl
@[simp] theorem setPort_out (k : Nat) (x : Port) : (s.setPort k x).out = s.out := rfl
@[simp] theorem setPort_tl (k : Nat) (x : Port) : (s.setPort k x).tl = s.tl := rfl
@[simp] theorem setPort_adm (k : Nat) (x : Port) : (s.setPort k x).adm = s.adm := rfl
@[simp] theorem setPort_diong (k : Nat) (x : Port) : (s.setPort k x).diong = s.diong := rfl
@[simp] theorem setPort_straps (k : Nat) (x : Port) : (s.setPort k x).straps = s.straps := rfl
@[simp] theorem setPort_sec (k : Nat) (x : Port) : (s.setPort k x).sec = s.sec := rfl
@[simp] theorem setPort_lo (k : Nat) (x : Port) : (s.setPort k x).lo = s.lo := rfl
@[simp] theorem setPort_fe (k : Nat) (x : Port) : (s.setPort k x).fe = s.fe := rfl
@[simp] theorem setPort_cvt (k : Nat) (x : Port) : (s.setPort k x).cvt = s.cvt := rfl
@[simp] theorem setPort_rx (k : Nat) (x : Port) : (s.setPort k x).rx = s.rx := rfl
@[simp] theorem setPort_tx (k : Nat) (x : Port) : (s.setPort k x).tx = s.tx := rfl
@[simp] theorem setPort_bm (k : Nat) (x : Port) : (s.setPort k x).bm = s.bm := rfl
@[simp] theorem setPort_dpds (k : Nat) (x : Port) : (s.setPort k x).dpds = s.dpds := rfl
@[simp] theorem setPort_disp (k : Nat) (x : Port) : (s.setPort k x).disp = s.disp := rfl
@[simp] theorem setPort_ge (k : Nat) (x : Port) : (s.setPort k x).ge = s.ge := rfl
@[simp] theorem setPort_cal (k : Nat) (x : Port) : (s.setPort k x).cal = s.cal := rfl
@[simp] theorem setPort_mem (k : Nat) (x : Port) : (s.setPort k x).mem = s.mem := rfl
@[simp] theorem setPort_pwr (k : Nat) (x : Port) : (s.setPort k x).pwr = s.pwr := rfl
@[simp] theorem setPort_hk (k : Nat) (x : Port) : (s.setPort k x).hk = s.hk := rfl
@[simp] theorem setPort_svc (k : Nat) (x : Port) : (s.setPort k x).svc = s.svc := rfl
@[simp] theorem setPort_boot (k : Nat) (x : Port) : (s.setPort k x).boot = s.boot := rfl
@[simp] theorem setPort_nv (k : Nat) (x : Port) : (s.setPort k x).nv = s.nv := rfl
@[simp] theorem setPort_marks (k : Nat) (x : Port) : (s.setPort k x).marks = s.marks := rfl
@[simp] theorem setPort_air (k : Nat) (x : Port) : (s.setPort k x).air = s.air := rfl

/-! ## setBias -/

@[simp] theorem setBias_pending (c : Nat) (x : Bias) : (s.setBias c x).pending = s.pending := rfl
@[simp] theorem setBias_clk (c : Nat) (x : Bias) : (s.setBias c x).clk = s.clk := rfl
@[simp] theorem setBias_freeCtr (c : Nat) (x : Bias) : (s.setBias c x).freeCtr = s.freeCtr := rfl
@[simp] theorem setBias_regs (c : Nat) (x : Bias) : (s.setBias c x).regs = s.regs := rfl
@[simp] theorem setBias_regsStaged (c : Nat) (x : Bias) : (s.setBias c x).regsStaged = s.regsStaged := rfl
@[simp] theorem setBias_objs (c : Nat) (x : Bias) : (s.setBias c x).objs = s.objs := rfl
@[simp] theorem setBias_objsStaged (c : Nat) (x : Bias) : (s.setBias c x).objsStaged = s.objsStaged := rfl
@[simp] theorem setBias_objGen (c : Nat) (x : Bias) : (s.setBias c x).objGen = s.objGen := rfl
@[simp] theorem setBias_stats (c : Nat) (x : Bias) : (s.setBias c x).stats = s.stats := rfl
@[simp] theorem setBias_islands (c : Nat) (x : Bias) : (s.setBias c x).islands = s.islands := rfl
@[simp] theorem setBias_subs (c : Nat) (x : Bias) : (s.setBias c x).subs = s.subs := rfl
@[simp] theorem setBias_fresh (c : Nat) (x : Bias) : (s.setBias c x).fresh = s.fresh := rfl
@[simp] theorem setBias_xing (c : Nat) (x : Bias) : (s.setBias c x).xing = s.xing := rfl
@[simp] theorem setBias_lost (c : Nat) (x : Bias) : (s.setBias c x).lost = s.lost := rfl
@[simp] theorem setBias_addrFaultRec (c : Nat) (x : Bias) : (s.setBias c x).addrFaultRec = s.addrFaultRec := rfl
@[simp] theorem setBias_ctl (c : Nat) (x : Bias) : (s.setBias c x).ctl = s.ctl := rfl
@[simp] theorem setBias_evt (c : Nat) (x : Bias) : (s.setBias c x).evt = s.evt := rfl
@[simp] theorem setBias_out (c : Nat) (x : Bias) : (s.setBias c x).out = s.out := rfl
@[simp] theorem setBias_tl (c : Nat) (x : Bias) : (s.setBias c x).tl = s.tl := rfl
@[simp] theorem setBias_adm (c : Nat) (x : Bias) : (s.setBias c x).adm = s.adm := rfl
@[simp] theorem setBias_diong (c : Nat) (x : Bias) : (s.setBias c x).diong = s.diong := rfl
@[simp] theorem setBias_straps (c : Nat) (x : Bias) : (s.setBias c x).straps = s.straps := rfl
@[simp] theorem setBias_sec (c : Nat) (x : Bias) : (s.setBias c x).sec = s.sec := rfl
@[simp] theorem setBias_lo (c : Nat) (x : Bias) : (s.setBias c x).lo = s.lo := rfl
@[simp] theorem setBias_fe (c : Nat) (x : Bias) : (s.setBias c x).fe = s.fe := rfl
@[simp] theorem setBias_cvt (c : Nat) (x : Bias) : (s.setBias c x).cvt = s.cvt := rfl
@[simp] theorem setBias_rx (c : Nat) (x : Bias) : (s.setBias c x).rx = s.rx := rfl
@[simp] theorem setBias_tx (c : Nat) (x : Bias) : (s.setBias c x).tx = s.tx := rfl
@[simp] theorem setBias_bm (c : Nat) (x : Bias) : (s.setBias c x).bm = s.bm := rfl
@[simp] theorem setBias_dpds (c : Nat) (x : Bias) : (s.setBias c x).dpds = s.dpds := rfl
@[simp] theorem setBias_disp (c : Nat) (x : Bias) : (s.setBias c x).disp = s.disp := rfl
@[simp] theorem setBias_ge (c : Nat) (x : Bias) : (s.setBias c x).ge = s.ge := rfl
@[simp] theorem setBias_cal (c : Nat) (x : Bias) : (s.setBias c x).cal = s.cal := rfl
@[simp] theorem setBias_lnk (c : Nat) (x : Bias) : (s.setBias c x).lnk = s.lnk := rfl
@[simp] theorem setBias_mem (c : Nat) (x : Bias) : (s.setBias c x).mem = s.mem := rfl
@[simp] theorem setBias_pwr (c : Nat) (x : Bias) : (s.setBias c x).pwr = s.pwr := rfl
@[simp] theorem setBias_svc (c : Nat) (x : Bias) : (s.setBias c x).svc = s.svc := rfl
@[simp] theorem setBias_boot (c : Nat) (x : Bias) : (s.setBias c x).boot = s.boot := rfl
@[simp] theorem setBias_nv (c : Nat) (x : Bias) : (s.setBias c x).nv = s.nv := rfl
@[simp] theorem setBias_marks (c : Nat) (x : Bias) : (s.setBias c x).marks = s.marks := rfl
@[simp] theorem setBias_air (c : Nat) (x : Bias) : (s.setBias c x).air = s.air := rfl

/-! ## setMon -/

@[simp] theorem setMon_pending (k : Nat) (x : Mon) : (s.setMon k x).pending = s.pending := rfl
@[simp] theorem setMon_clk (k : Nat) (x : Mon) : (s.setMon k x).clk = s.clk := rfl
@[simp] theorem setMon_freeCtr (k : Nat) (x : Mon) : (s.setMon k x).freeCtr = s.freeCtr := rfl
@[simp] theorem setMon_regs (k : Nat) (x : Mon) : (s.setMon k x).regs = s.regs := rfl
@[simp] theorem setMon_regsStaged (k : Nat) (x : Mon) : (s.setMon k x).regsStaged = s.regsStaged := rfl
@[simp] theorem setMon_objs (k : Nat) (x : Mon) : (s.setMon k x).objs = s.objs := rfl
@[simp] theorem setMon_objsStaged (k : Nat) (x : Mon) : (s.setMon k x).objsStaged = s.objsStaged := rfl
@[simp] theorem setMon_objGen (k : Nat) (x : Mon) : (s.setMon k x).objGen = s.objGen := rfl
@[simp] theorem setMon_stats (k : Nat) (x : Mon) : (s.setMon k x).stats = s.stats := rfl
@[simp] theorem setMon_islands (k : Nat) (x : Mon) : (s.setMon k x).islands = s.islands := rfl
@[simp] theorem setMon_subs (k : Nat) (x : Mon) : (s.setMon k x).subs = s.subs := rfl
@[simp] theorem setMon_fresh (k : Nat) (x : Mon) : (s.setMon k x).fresh = s.fresh := rfl
@[simp] theorem setMon_xing (k : Nat) (x : Mon) : (s.setMon k x).xing = s.xing := rfl
@[simp] theorem setMon_lost (k : Nat) (x : Mon) : (s.setMon k x).lost = s.lost := rfl
@[simp] theorem setMon_addrFaultRec (k : Nat) (x : Mon) : (s.setMon k x).addrFaultRec = s.addrFaultRec := rfl
@[simp] theorem setMon_ctl (k : Nat) (x : Mon) : (s.setMon k x).ctl = s.ctl := rfl
@[simp] theorem setMon_evt (k : Nat) (x : Mon) : (s.setMon k x).evt = s.evt := rfl
@[simp] theorem setMon_out (k : Nat) (x : Mon) : (s.setMon k x).out = s.out := rfl
@[simp] theorem setMon_tl (k : Nat) (x : Mon) : (s.setMon k x).tl = s.tl := rfl
@[simp] theorem setMon_adm (k : Nat) (x : Mon) : (s.setMon k x).adm = s.adm := rfl
@[simp] theorem setMon_diong (k : Nat) (x : Mon) : (s.setMon k x).diong = s.diong := rfl
@[simp] theorem setMon_straps (k : Nat) (x : Mon) : (s.setMon k x).straps = s.straps := rfl
@[simp] theorem setMon_sec (k : Nat) (x : Mon) : (s.setMon k x).sec = s.sec := rfl
@[simp] theorem setMon_lo (k : Nat) (x : Mon) : (s.setMon k x).lo = s.lo := rfl
@[simp] theorem setMon_fe (k : Nat) (x : Mon) : (s.setMon k x).fe = s.fe := rfl
@[simp] theorem setMon_cvt (k : Nat) (x : Mon) : (s.setMon k x).cvt = s.cvt := rfl
@[simp] theorem setMon_rx (k : Nat) (x : Mon) : (s.setMon k x).rx = s.rx := rfl
@[simp] theorem setMon_tx (k : Nat) (x : Mon) : (s.setMon k x).tx = s.tx := rfl
@[simp] theorem setMon_bm (k : Nat) (x : Mon) : (s.setMon k x).bm = s.bm := rfl
@[simp] theorem setMon_dpds (k : Nat) (x : Mon) : (s.setMon k x).dpds = s.dpds := rfl
@[simp] theorem setMon_disp (k : Nat) (x : Mon) : (s.setMon k x).disp = s.disp := rfl
@[simp] theorem setMon_ge (k : Nat) (x : Mon) : (s.setMon k x).ge = s.ge := rfl
@[simp] theorem setMon_cal (k : Nat) (x : Mon) : (s.setMon k x).cal = s.cal := rfl
@[simp] theorem setMon_lnk (k : Nat) (x : Mon) : (s.setMon k x).lnk = s.lnk := rfl
@[simp] theorem setMon_mem (k : Nat) (x : Mon) : (s.setMon k x).mem = s.mem := rfl
@[simp] theorem setMon_pwr (k : Nat) (x : Mon) : (s.setMon k x).pwr = s.pwr := rfl
@[simp] theorem setMon_svc (k : Nat) (x : Mon) : (s.setMon k x).svc = s.svc := rfl
@[simp] theorem setMon_boot (k : Nat) (x : Mon) : (s.setMon k x).boot = s.boot := rfl
@[simp] theorem setMon_nv (k : Nat) (x : Mon) : (s.setMon k x).nv = s.nv := rfl
@[simp] theorem setMon_marks (k : Nat) (x : Mon) : (s.setMon k x).marks = s.marks := rfl
@[simp] theorem setMon_air (k : Nat) (x : Mon) : (s.setMon k x).air = s.air := rfl

/-! ## setAmp -/

@[simp] theorem setAmp_pending (a : Nat) (x : Amp) : (s.setAmp a x).pending = s.pending := rfl
@[simp] theorem setAmp_clk (a : Nat) (x : Amp) : (s.setAmp a x).clk = s.clk := rfl
@[simp] theorem setAmp_freeCtr (a : Nat) (x : Amp) : (s.setAmp a x).freeCtr = s.freeCtr := rfl
@[simp] theorem setAmp_regs (a : Nat) (x : Amp) : (s.setAmp a x).regs = s.regs := rfl
@[simp] theorem setAmp_regsStaged (a : Nat) (x : Amp) : (s.setAmp a x).regsStaged = s.regsStaged := rfl
@[simp] theorem setAmp_objs (a : Nat) (x : Amp) : (s.setAmp a x).objs = s.objs := rfl
@[simp] theorem setAmp_objsStaged (a : Nat) (x : Amp) : (s.setAmp a x).objsStaged = s.objsStaged := rfl
@[simp] theorem setAmp_objGen (a : Nat) (x : Amp) : (s.setAmp a x).objGen = s.objGen := rfl
@[simp] theorem setAmp_stats (a : Nat) (x : Amp) : (s.setAmp a x).stats = s.stats := rfl
@[simp] theorem setAmp_islands (a : Nat) (x : Amp) : (s.setAmp a x).islands = s.islands := rfl
@[simp] theorem setAmp_subs (a : Nat) (x : Amp) : (s.setAmp a x).subs = s.subs := rfl
@[simp] theorem setAmp_fresh (a : Nat) (x : Amp) : (s.setAmp a x).fresh = s.fresh := rfl
@[simp] theorem setAmp_xing (a : Nat) (x : Amp) : (s.setAmp a x).xing = s.xing := rfl
@[simp] theorem setAmp_lost (a : Nat) (x : Amp) : (s.setAmp a x).lost = s.lost := rfl
@[simp] theorem setAmp_addrFaultRec (a : Nat) (x : Amp) : (s.setAmp a x).addrFaultRec = s.addrFaultRec := rfl
@[simp] theorem setAmp_ctl (a : Nat) (x : Amp) : (s.setAmp a x).ctl = s.ctl := rfl
@[simp] theorem setAmp_evt (a : Nat) (x : Amp) : (s.setAmp a x).evt = s.evt := rfl
@[simp] theorem setAmp_out (a : Nat) (x : Amp) : (s.setAmp a x).out = s.out := rfl
@[simp] theorem setAmp_tl (a : Nat) (x : Amp) : (s.setAmp a x).tl = s.tl := rfl
@[simp] theorem setAmp_adm (a : Nat) (x : Amp) : (s.setAmp a x).adm = s.adm := rfl
@[simp] theorem setAmp_diong (a : Nat) (x : Amp) : (s.setAmp a x).diong = s.diong := rfl
@[simp] theorem setAmp_straps (a : Nat) (x : Amp) : (s.setAmp a x).straps = s.straps := rfl
@[simp] theorem setAmp_sec (a : Nat) (x : Amp) : (s.setAmp a x).sec = s.sec := rfl
@[simp] theorem setAmp_lo (a : Nat) (x : Amp) : (s.setAmp a x).lo = s.lo := rfl
@[simp] theorem setAmp_fe (a : Nat) (x : Amp) : (s.setAmp a x).fe = s.fe := rfl
@[simp] theorem setAmp_cvt (a : Nat) (x : Amp) : (s.setAmp a x).cvt = s.cvt := rfl
@[simp] theorem setAmp_rx (a : Nat) (x : Amp) : (s.setAmp a x).rx = s.rx := rfl
@[simp] theorem setAmp_tx (a : Nat) (x : Amp) : (s.setAmp a x).tx = s.tx := rfl
@[simp] theorem setAmp_bm (a : Nat) (x : Amp) : (s.setAmp a x).bm = s.bm := rfl
@[simp] theorem setAmp_dpds (a : Nat) (x : Amp) : (s.setAmp a x).dpds = s.dpds := rfl
@[simp] theorem setAmp_disp (a : Nat) (x : Amp) : (s.setAmp a x).disp = s.disp := rfl
@[simp] theorem setAmp_ge (a : Nat) (x : Amp) : (s.setAmp a x).ge = s.ge := rfl
@[simp] theorem setAmp_cal (a : Nat) (x : Amp) : (s.setAmp a x).cal = s.cal := rfl
@[simp] theorem setAmp_lnk (a : Nat) (x : Amp) : (s.setAmp a x).lnk = s.lnk := rfl
@[simp] theorem setAmp_mem (a : Nat) (x : Amp) : (s.setAmp a x).mem = s.mem := rfl
@[simp] theorem setAmp_pwr (a : Nat) (x : Amp) : (s.setAmp a x).pwr = s.pwr := rfl
@[simp] theorem setAmp_svc (a : Nat) (x : Amp) : (s.setAmp a x).svc = s.svc := rfl
@[simp] theorem setAmp_boot (a : Nat) (x : Amp) : (s.setAmp a x).boot = s.boot := rfl
@[simp] theorem setAmp_nv (a : Nat) (x : Amp) : (s.setAmp a x).nv = s.nv := rfl
@[simp] theorem setAmp_marks (a : Nat) (x : Amp) : (s.setAmp a x).marks = s.marks := rfl
@[simp] theorem setAmp_air (a : Nat) (x : Amp) : (s.setAmp a x).air = s.air := rfl

/-! ## setFan -/

@[simp] theorem setFan_pending (k : Nat) (x : Fan) : (s.setFan k x).pending = s.pending := rfl
@[simp] theorem setFan_clk (k : Nat) (x : Fan) : (s.setFan k x).clk = s.clk := rfl
@[simp] theorem setFan_freeCtr (k : Nat) (x : Fan) : (s.setFan k x).freeCtr = s.freeCtr := rfl
@[simp] theorem setFan_regs (k : Nat) (x : Fan) : (s.setFan k x).regs = s.regs := rfl
@[simp] theorem setFan_regsStaged (k : Nat) (x : Fan) : (s.setFan k x).regsStaged = s.regsStaged := rfl
@[simp] theorem setFan_objs (k : Nat) (x : Fan) : (s.setFan k x).objs = s.objs := rfl
@[simp] theorem setFan_objsStaged (k : Nat) (x : Fan) : (s.setFan k x).objsStaged = s.objsStaged := rfl
@[simp] theorem setFan_objGen (k : Nat) (x : Fan) : (s.setFan k x).objGen = s.objGen := rfl
@[simp] theorem setFan_stats (k : Nat) (x : Fan) : (s.setFan k x).stats = s.stats := rfl
@[simp] theorem setFan_islands (k : Nat) (x : Fan) : (s.setFan k x).islands = s.islands := rfl
@[simp] theorem setFan_subs (k : Nat) (x : Fan) : (s.setFan k x).subs = s.subs := rfl
@[simp] theorem setFan_fresh (k : Nat) (x : Fan) : (s.setFan k x).fresh = s.fresh := rfl
@[simp] theorem setFan_xing (k : Nat) (x : Fan) : (s.setFan k x).xing = s.xing := rfl
@[simp] theorem setFan_lost (k : Nat) (x : Fan) : (s.setFan k x).lost = s.lost := rfl
@[simp] theorem setFan_addrFaultRec (k : Nat) (x : Fan) : (s.setFan k x).addrFaultRec = s.addrFaultRec := rfl
@[simp] theorem setFan_ctl (k : Nat) (x : Fan) : (s.setFan k x).ctl = s.ctl := rfl
@[simp] theorem setFan_evt (k : Nat) (x : Fan) : (s.setFan k x).evt = s.evt := rfl
@[simp] theorem setFan_out (k : Nat) (x : Fan) : (s.setFan k x).out = s.out := rfl
@[simp] theorem setFan_tl (k : Nat) (x : Fan) : (s.setFan k x).tl = s.tl := rfl
@[simp] theorem setFan_adm (k : Nat) (x : Fan) : (s.setFan k x).adm = s.adm := rfl
@[simp] theorem setFan_diong (k : Nat) (x : Fan) : (s.setFan k x).diong = s.diong := rfl
@[simp] theorem setFan_straps (k : Nat) (x : Fan) : (s.setFan k x).straps = s.straps := rfl
@[simp] theorem setFan_sec (k : Nat) (x : Fan) : (s.setFan k x).sec = s.sec := rfl
@[simp] theorem setFan_lo (k : Nat) (x : Fan) : (s.setFan k x).lo = s.lo := rfl
@[simp] theorem setFan_fe (k : Nat) (x : Fan) : (s.setFan k x).fe = s.fe := rfl
@[simp] theorem setFan_cvt (k : Nat) (x : Fan) : (s.setFan k x).cvt = s.cvt := rfl
@[simp] theorem setFan_rx (k : Nat) (x : Fan) : (s.setFan k x).rx = s.rx := rfl
@[simp] theorem setFan_tx (k : Nat) (x : Fan) : (s.setFan k x).tx = s.tx := rfl
@[simp] theorem setFan_bm (k : Nat) (x : Fan) : (s.setFan k x).bm = s.bm := rfl
@[simp] theorem setFan_dpds (k : Nat) (x : Fan) : (s.setFan k x).dpds = s.dpds := rfl
@[simp] theorem setFan_disp (k : Nat) (x : Fan) : (s.setFan k x).disp = s.disp := rfl
@[simp] theorem setFan_ge (k : Nat) (x : Fan) : (s.setFan k x).ge = s.ge := rfl
@[simp] theorem setFan_cal (k : Nat) (x : Fan) : (s.setFan k x).cal = s.cal := rfl
@[simp] theorem setFan_lnk (k : Nat) (x : Fan) : (s.setFan k x).lnk = s.lnk := rfl
@[simp] theorem setFan_mem (k : Nat) (x : Fan) : (s.setFan k x).mem = s.mem := rfl
@[simp] theorem setFan_pwr (k : Nat) (x : Fan) : (s.setFan k x).pwr = s.pwr := rfl
@[simp] theorem setFan_svc (k : Nat) (x : Fan) : (s.setFan k x).svc = s.svc := rfl
@[simp] theorem setFan_boot (k : Nat) (x : Fan) : (s.setFan k x).boot = s.boot := rfl
@[simp] theorem setFan_nv (k : Nat) (x : Fan) : (s.setFan k x).nv = s.nv := rfl
@[simp] theorem setFan_marks (k : Nat) (x : Fan) : (s.setFan k x).marks = s.marks := rfl
@[simp] theorem setFan_air (k : Nat) (x : Fan) : (s.setFan k x).air = s.air := rfl

/-! ## Records read after they are written -/

@[simp] theorem island_setIsland (i : Nat) (x : Island) : (s.setIsland i x).island i = x := spGet_spPut_same _ _ _ _
@[simp] theorem pathFe_setFe (p : Nat) (x : PathFe) : (s.setFe p x).pathFe p = x := spGet_spPut_same _ _ _ _
@[simp] theorem syn_setSyn (k : Nat) (x : Syn) : (s.setSyn k x).syn k = x := spGet_spPut_same _ _ _ _
@[simp] theorem conv_setConv (k : Nat) (x : Conv) : (s.setConv k x).conv k = x := spGet_spPut_same _ _ _ _
@[simp] theorem dac_setDac (k : Nat) (x : DacCells) : (s.setDac k x).dac k = x := spGet_spPut_same _ _ _ _
@[simp] theorem orx_setOrx (k : Nat) (x : Orx) : (s.setOrx k x).orx k = x := spGet_spPut_same _ _ _ _
@[simp] theorem buf_setBuf (k : Nat) (x : CapBuf) : (s.setBuf k x).buf k = x := spGet_spPut_same _ _ _ _
@[simp] theorem lanes_setLanes (c : Nat) (x : Lanes) : (s.setLanes c x).lanes c = x := spGet_spPut_same _ _ _ _
@[simp] theorem rxg_setRxg (p : Nat) (x : Rxg) : (s.setRxg p x).rxg p = x := spGet_spPut_same _ _ _ _
@[simp] theorem wset_setWset (cc d : Nat) (x : WSet) : (s.setWset cc d x).wset cc d = x := spGet_spPut_same _ _ _ _
/-- A unit set reads back, but for the note of what its bank was. -/
theorem dpd_setDpd (p : Nat) (x : Dpd) : ∃ w k, (s.setDpd p x).dpd p = { x with was := w, wasAt := k } := by
  unfold State.setDpd State.dpd
  dsimp only
  rw [spGet_spPut_same]
  split
  · exact ⟨x.was, x.wasAt, rfl⟩
  · exact ⟨_, _, rfl⟩

@[simp] theorem dpd_setDpd_st (p : Nat) (x : Dpd) : ((s.setDpd p x).dpd p).st = x.st := by
  obtain ⟨w, k, h⟩ := dpd_setDpd s p x; rw [h]
@[simp] theorem dpd_setDpd_bank (p : Nat) (x : Dpd) : ((s.setDpd p x).dpd p).bank = x.bank := by
  obtain ⟨w, k, h⟩ := dpd_setDpd s p x; rw [h]
@[simp] theorem dpd_setDpd_ident (p : Nat) (x : Dpd) : ((s.setDpd p x).dpd p).ident = x.ident := by
  obtain ⟨w, k, h⟩ := dpd_setDpd s p x; rw [h]
@[simp] theorem dpd_setDpd_oldIdent (p : Nat) (x : Dpd) : ((s.setDpd p x).dpd p).oldIdent = x.oldIdent := by
  obtain ⟨w, k, h⟩ := dpd_setDpd s p x; rw [h]
@[simp] theorem dpd_setDpd_backoff (p : Nat) (x : Dpd) : ((s.setDpd p x).dpd p).backoff = x.backoff := by
  obtain ⟨w, k, h⟩ := dpd_setDpd s p x; rw [h]
@[simp] theorem dpd_setDpd_backoffStep (p : Nat) (x : Dpd) : ((s.setDpd p x).dpd p).backoffStep = x.backoffStep := by
  obtain ⟨w, k, h⟩ := dpd_setDpd s p x; rw [h]
@[simp] theorem dpd_setDpd_rampStep (p : Nat) (x : Dpd) : ((s.setDpd p x).dpd p).rampStep = x.rampStep := by
  obtain ⟨w, k, h⟩ := dpd_setDpd s p x; rw [h]
@[simp] theorem dpd_setDpd_rampLen (p : Nat) (x : Dpd) : ((s.setDpd p x).dpd p).rampLen = x.rampLen := by
  obtain ⟨w, k, h⟩ := dpd_setDpd s p x; rw [h]
@[simp] theorem dpd_setDpd_second (p : Nat) (x : Dpd) : ((s.setDpd p x).dpd p).second = x.second := by
  obtain ⟨w, k, h⟩ := dpd_setDpd s p x; rw [h]
@[simp] theorem dpd_setDpd_result (p : Nat) (x : Dpd) : ((s.setDpd p x).dpd p).result = x.result := by
  obtain ⟨w, k, h⟩ := dpd_setDpd s p x; rw [h]
@[simp] theorem dpd_setDpd_checking (p : Nat) (x : Dpd) : ((s.setDpd p x).dpd p).checking = x.checking := by
  obtain ⟨w, k, h⟩ := dpd_setDpd s p x; rw [h]
@[simp] theorem dpd_setDpd_locked (p : Nat) (x : Dpd) : ((s.setDpd p x).dpd p).locked = x.locked := by
  obtain ⟨w, k, h⟩ := dpd_setDpd s p x; rw [h]
@[simp] theorem dpd_setDpd_hist (p : Nat) (x : Dpd) : ((s.setDpd p x).dpd p).hist = x.hist := by
  obtain ⟨w, k, h⟩ := dpd_setDpd s p x; rw [h]
@[simp] theorem dpd_setDpd_ew (p : Nat) (x : Dpd) : ((s.setDpd p x).dpd p).ew = x.ew := by
  obtain ⟨w, k, h⟩ := dpd_setDpd s p x; rw [h]
@[simp] theorem dpd_setDpd_eref (p : Nat) (x : Dpd) : ((s.setDpd p x).dpd p).eref = x.eref := by
  obtain ⟨w, k, h⟩ := dpd_setDpd s p x; rw [h]
@[simp] theorem dpd_setDpd_overN (p : Nat) (x : Dpd) : ((s.setDpd p x).dpd p).overN = x.overN := by
  obtain ⟨w, k, h⟩ := dpd_setDpd s p x; rw [h]
@[simp] theorem dpd_setDpd_wins (p : Nat) (x : Dpd) : ((s.setDpd p x).dpd p).wins = x.wins := by
  obtain ⟨w, k, h⟩ := dpd_setDpd s p x; rw [h]
@[simp] theorem dpd_setDpd_probAt (p : Nat) (x : Dpd) : ((s.setDpd p x).dpd p).probAt = x.probAt := by
  obtain ⟨w, k, h⟩ := dpd_setDpd s p x; rw [h]
@[simp] theorem dpd_setDpd_probSum (p : Nat) (x : Dpd) : ((s.setDpd p x).dpd p).probSum = x.probSum := by
  obtain ⟨w, k, h⟩ := dpd_setDpd s p x; rw [h]
@[simp] theorem dpd_setDpd_probN (p : Nat) (x : Dpd) : ((s.setDpd p x).dpd p).probN = x.probN := by
  obtain ⟨w, k, h⟩ := dpd_setDpd s p x; rw [h]
@[simp] theorem dpd_setDpd_due (p : Nat) (x : Dpd) : ((s.setDpd p x).dpd p).due = x.due := by
  obtain ⟨w, k, h⟩ := dpd_setDpd s p x; rw [h]
@[simp] theorem dpd_setDpd_stale (p : Nat) (x : Dpd) : ((s.setDpd p x).dpd p).stale = x.stale := by
  obtain ⟨w, k, h⟩ := dpd_setDpd s p x; rw [h]
@[simp] theorem dpd_setDpd_words (p : Nat) (x : Dpd) : ((s.setDpd p x).dpd p).words = x.words := by
  obtain ⟨w, k, h⟩ := dpd_setDpd s p x; rw [h]
@[simp] theorem dpd_setDpd_theta (p : Nat) (x : Dpd) : ((s.setDpd p x).dpd p).theta = x.theta := by
  obtain ⟨w, k, h⟩ := dpd_setDpd s p x; rw [h]
@[simp] theorem dpd_setDpd_tmod (p : Nat) (x : Dpd) : ((s.setDpd p x).dpd p).tmod = x.tmod := by
  obtain ⟨w, k, h⟩ := dpd_setDpd s p x; rw [h]
@[simp] theorem eng_setEng (e : Nat) (x : Eng) : (s.setEng e x).eng e = x := spGet_spPut_same _ _ _ _
@[simp] theorem port_setPort (k : Nat) (x : Port) : (s.setPort k x).port k = x := spGet_spPut_same _ _ _ _
@[simp] theorem bias_setBias (c : Nat) (x : Bias) : (s.setBias c x).bias c = x := spGet_spPut_same _ _ _ _
@[simp] theorem mon_setMon (k : Nat) (x : Mon) : (s.setMon k x).mon k = x := spGet_spPut_same _ _ _ _
@[simp] theorem amp_setAmp (a : Nat) (x : Amp) : (s.setAmp a x).amp a = x := spGet_spPut_same _ _ _ _
@[simp] theorem fan_setFan (k : Nat) (x : Fan) : (s.setFan k x).fan k = x := spGet_spPut_same _ _ _ _

theorem eng_setEng_other {e e' : Nat} (x : Eng) (h : e' ≠ e) : (s.setEng e x).eng e' = s.eng e' := spGet_spPut_other _ _ _ _ h
theorem syn_setSyn_other {k k' : Nat} (x : Syn) (h : k' ≠ k) : (s.setSyn k x).syn k' = s.syn k' := spGet_spPut_other _ _ _ _ h
theorem pathFe_setFe_other {p p' : Nat} (x : PathFe) (h : p' ≠ p) : (s.setFe p x).pathFe p' = s.pathFe p' := spGet_spPut_other _ _ _ _ h
theorem island_setIsland_other {i i' : Nat} (x : Island) (h : i' ≠ i) : (s.setIsland i x).island i' = s.island i' :=
  spGet_spPut_other _ _ _ _ h
theorem dpd_setDpd_other {p p' : Nat} (x : Dpd) (h : p' ≠ p) : (s.setDpd p x).dpd p' = s.dpd p' := spGet_spPut_other _ _ _ _ h
theorem orx_setOrx_other {k k' : Nat} (x : Orx) (h : k' ≠ k) : (s.setOrx k x).orx k' = s.orx k' := spGet_spPut_other _ _ _ _ h
theorem lanes_setLanes_other {c c' : Nat} (x : Lanes) (h : c' ≠ c) : (s.setLanes c x).lanes c' = s.lanes c' :=
  spGet_spPut_other _ _ _ _ h

/-! ## What a firing changes -/

/-- A firing waits, or is counted as coalesced: nothing but the event bank and its repeat counts changes (R492, R493). -/
theorem raise_eq (src inst aux : Nat) : ∃ e r, raise s src inst aux = { s with evt := e, regs := r } := by
  unfold raise
  dsimp only
  split
  · have key : ∀ (l : List Nat) (f : State → Nat → Bool) (t : State), (∃ e r, t = { s with evt := e, regs := r }) →
        ∃ e r, l.foldl (fun s d => if f s d then coalesceAt s src d else s) t = { s with evt := e, regs := r } := by
      intro l f
      induction l with
      | nil => exact fun t h => h
      | cons d l ih =>
        intro t ht
        refine ih _ ?_
        obtain ⟨e, r, rfl⟩ := ht
        dsimp only
        split
        · exact ⟨e, _, rfl⟩
        · exact ⟨e, r, rfl⟩
    exact key dests (fun s d => entitled s src inst d && evtEnabled s src d) s ⟨s.evt, s.regs, rfl⟩
  · exact ⟨_, s.regs, rfl⟩

@[simp] theorem raise_pending (a b c : Nat) : (raise s a b c).pending = s.pending := by obtain ⟨e, r, h⟩ := raise_eq s a b c; rw [h]
@[simp] theorem raise_clk (a b c : Nat) : (raise s a b c).clk = s.clk := by obtain ⟨e, r, h⟩ := raise_eq s a b c; rw [h]
@[simp] theorem raise_freeCtr (a b c : Nat) : (raise s a b c).freeCtr = s.freeCtr := by obtain ⟨e, r, h⟩ := raise_eq s a b c; rw [h]
@[simp] theorem raise_regsStaged (a b c : Nat) : (raise s a b c).regsStaged = s.regsStaged := by obtain ⟨e, r, h⟩ := raise_eq s a b c; rw [h]
@[simp] theorem raise_objs (a b c : Nat) : (raise s a b c).objs = s.objs := by obtain ⟨e, r, h⟩ := raise_eq s a b c; rw [h]
@[simp] theorem raise_objsStaged (a b c : Nat) : (raise s a b c).objsStaged = s.objsStaged := by obtain ⟨e, r, h⟩ := raise_eq s a b c; rw [h]
@[simp] theorem raise_objGen (a b c : Nat) : (raise s a b c).objGen = s.objGen := by obtain ⟨e, r, h⟩ := raise_eq s a b c; rw [h]
@[simp] theorem raise_stats (a b c : Nat) : (raise s a b c).stats = s.stats := by obtain ⟨e, r, h⟩ := raise_eq s a b c; rw [h]
@[simp] theorem raise_islands (a b c : Nat) : (raise s a b c).islands = s.islands := by obtain ⟨e, r, h⟩ := raise_eq s a b c; rw [h]
@[simp] theorem raise_subs (a b c : Nat) : (raise s a b c).subs = s.subs := by obtain ⟨e, r, h⟩ := raise_eq s a b c; rw [h]
@[simp] theorem raise_fresh (a b c : Nat) : (raise s a b c).fresh = s.fresh := by obtain ⟨e, r, h⟩ := raise_eq s a b c; rw [h]
@[simp] theorem raise_xing (a b c : Nat) : (raise s a b c).xing = s.xing := by obtain ⟨e, r, h⟩ := raise_eq s a b c; rw [h]
@[simp] theorem raise_lost (a b c : Nat) : (raise s a b c).lost = s.lost := by obtain ⟨e, r, h⟩ := raise_eq s a b c; rw [h]
@[simp] theorem raise_addrFaultRec (a b c : Nat) : (raise s a b c).addrFaultRec = s.addrFaultRec := by obtain ⟨e, r, h⟩ := raise_eq s a b c; rw [h]
@[simp] theorem raise_ctl (a b c : Nat) : (raise s a b c).ctl = s.ctl := by obtain ⟨e, r, h⟩ := raise_eq s a b c; rw [h]
@[simp] theorem raise_out (a b c : Nat) : (raise s a b c).out = s.out := by obtain ⟨e, r, h⟩ := raise_eq s a b c; rw [h]
@[simp] theorem raise_tl (a b c : Nat) : (raise s a b c).tl = s.tl := by obtain ⟨e, r, h⟩ := raise_eq s a b c; rw [h]
@[simp] theorem raise_adm (a b c : Nat) : (raise s a b c).adm = s.adm := by obtain ⟨e, r, h⟩ := raise_eq s a b c; rw [h]
@[simp] theorem raise_diong (a b c : Nat) : (raise s a b c).diong = s.diong := by obtain ⟨e, r, h⟩ := raise_eq s a b c; rw [h]
@[simp] theorem raise_straps (a b c : Nat) : (raise s a b c).straps = s.straps := by obtain ⟨e, r, h⟩ := raise_eq s a b c; rw [h]
@[simp] theorem raise_sec (a b c : Nat) : (raise s a b c).sec = s.sec := by obtain ⟨e, r, h⟩ := raise_eq s a b c; rw [h]
@[simp] theorem raise_lo (a b c : Nat) : (raise s a b c).lo = s.lo := by obtain ⟨e, r, h⟩ := raise_eq s a b c; rw [h]
@[simp] theorem raise_fe (a b c : Nat) : (raise s a b c).fe = s.fe := by obtain ⟨e, r, h⟩ := raise_eq s a b c; rw [h]
@[simp] theorem raise_cvt (a b c : Nat) : (raise s a b c).cvt = s.cvt := by obtain ⟨e, r, h⟩ := raise_eq s a b c; rw [h]
@[simp] theorem raise_rx (a b c : Nat) : (raise s a b c).rx = s.rx := by obtain ⟨e, r, h⟩ := raise_eq s a b c; rw [h]
@[simp] theorem raise_tx (a b c : Nat) : (raise s a b c).tx = s.tx := by obtain ⟨e, r, h⟩ := raise_eq s a b c; rw [h]
@[simp] theorem raise_bm (a b c : Nat) : (raise s a b c).bm = s.bm := by obtain ⟨e, r, h⟩ := raise_eq s a b c; rw [h]
@[simp] theorem raise_dpds (a b c : Nat) : (raise s a b c).dpds = s.dpds := by obtain ⟨e, r, h⟩ := raise_eq s a b c; rw [h]
@[simp] theorem raise_disp (a b c : Nat) : (raise s a b c).disp = s.disp := by obtain ⟨e, r, h⟩ := raise_eq s a b c; rw [h]
@[simp] theorem raise_ge (a b c : Nat) : (raise s a b c).ge = s.ge := by obtain ⟨e, r, h⟩ := raise_eq s a b c; rw [h]
@[simp] theorem raise_cal (a b c : Nat) : (raise s a b c).cal = s.cal := by obtain ⟨e, r, h⟩ := raise_eq s a b c; rw [h]
@[simp] theorem raise_lnk (a b c : Nat) : (raise s a b c).lnk = s.lnk := by obtain ⟨e, r, h⟩ := raise_eq s a b c; rw [h]
@[simp] theorem raise_mem (a b c : Nat) : (raise s a b c).mem = s.mem := by obtain ⟨e, r, h⟩ := raise_eq s a b c; rw [h]
@[simp] theorem raise_pwr (a b c : Nat) : (raise s a b c).pwr = s.pwr := by obtain ⟨e, r, h⟩ := raise_eq s a b c; rw [h]
@[simp] theorem raise_hk (a b c : Nat) : (raise s a b c).hk = s.hk := by obtain ⟨e, r, h⟩ := raise_eq s a b c; rw [h]
@[simp] theorem raise_svc (a b c : Nat) : (raise s a b c).svc = s.svc := by obtain ⟨e, r, h⟩ := raise_eq s a b c; rw [h]
@[simp] theorem raise_boot (a b c : Nat) : (raise s a b c).boot = s.boot := by obtain ⟨e, r, h⟩ := raise_eq s a b c; rw [h]
@[simp] theorem raise_nv (a b c : Nat) : (raise s a b c).nv = s.nv := by obtain ⟨e, r, h⟩ := raise_eq s a b c; rw [h]
@[simp] theorem raise_marks (a b c : Nat) : (raise s a b c).marks = s.marks := by obtain ⟨e, r, h⟩ := raise_eq s a b c; rw [h]
@[simp] theorem raise_air (a b c : Nat) : (raise s a b c).air = s.air := by obtain ⟨e, r, h⟩ := raise_eq s a b c; rw [h]

/-- A firing that finds fewer than 16 of its source waiting is among those waiting, and no register changes (R492). -/
theorem raise_waits (src inst aux : Nat) (h : (s.evt.waiting.filter (fun g => g.src = src)).length < 16) :
    raise s src inst aux = { s with evt := { s.evt with waiting := insFiring ⟨src, inst, aux, s.clk.elapsed⟩ s.evt.waiting } } := by
  unfold raise
  dsimp only
  rw [if_neg (by omega)]

/-- A firing put in its place is waiting. -/
theorem mem_insFiring (f : Firing) (l : List Firing) : f ∈ insFiring f l := by
  induction l with
  | nil => simp [insFiring]
  | cons g t ih =>
    unfold insFiring
    split
    next h => simp [h]
    · split
      · simp
      · exact List.mem_cons_of_mem _ ih

/-- The firings that waited still wait. -/
theorem mem_insFiring_of_mem {f g : Firing} {l : List Firing} (h : g ∈ l) : g ∈ insFiring f l := by
  induction l with
  | nil => cases h
  | cons x t ih =>
    unfold insFiring
    split
    · exact h
    · split
      · exact List.mem_cons_of_mem _ h
      · rcases List.mem_cons.1 h with rfl | h
        · exact List.mem_cons_self
        · exact List.mem_cons_of_mem _ (ih h)

end Sys2Proof.Machine
end

