-- ==== Sys2Proof/Laws/Fires.lean ====
section
/-! SUPPORT. Firings that wait: what raising an event adds, and what leaves them waiting. -/

namespace Sys2Proof.Machine

variable {s t : State}

/-- A firing put in its place is there. -/
theorem mem_insFiring_self (f : Firing) (l : List Firing) : f ∈ insFiring f l := by
  induction l with
  | nil => exact List.mem_singleton.2 rfl
  | cons g l ih =>
    unfold insFiring
    split
    next h => rw [h]; exact List.mem_cons_self
    · split
      · exact List.mem_cons_self
      · exact List.mem_cons_of_mem _ ih

theorem coalesceAt_evt (s : State) (src d : Nat) : (coalesceAt s src d).evt = s.evt := rfl

theorem coalesce_fold_evt (src inst : Nat) (l : List Nat) :
    (l.foldl (fun s d => if entitled s src inst d && evtEnabled s src d then coalesceAt s src d else s) s).evt = s.evt := by
  induction l generalizing s with
  | nil => rfl
  | cons d l ih =>
    rw [List.foldl_cons, ih]
    split
    · rfl
    · rfl

/-- Raising an event leaves those that wait waiting. -/
theorem raise_waiting_mono (src inst aux : Nat) {f : Firing} (h : f ∈ s.evt.waiting) : f ∈ (raise s src inst aux).evt.waiting := by
  unfold raise
  dsimp only
  split
  · rw [coalesce_fold_evt]; exact h
  · exact mem_insFiring_of_mem h

/-- After an event is raised a firing of its source waits. -/
theorem fires_raise (src inst aux : Nat) : Fires (raise s src inst aux) src := by
  unfold raise
  dsimp only
  split
  next h =>
    have hl : 0 < (s.evt.waiting.filter (fun g => g.src = src)).length := by omega
    obtain ⟨g, hg⟩ := List.exists_mem_of_length_pos hl
    rw [List.mem_filter] at hg
    refine ⟨g, ?_, of_decide_eq_true hg.2⟩
    rw [coalesce_fold_evt]
    exact hg.1
  · exact ⟨_, mem_insFiring_self _ _, rfl⟩

theorem Fires.raise {k : Nat} (h : Fires s k) (src inst aux : Nat) : Fires (raise s src inst aux) k := by
  obtain ⟨f, hf, e⟩ := h
  exact ⟨f, raise_waiting_mono _ _ _ hf, e⟩

theorem Fires.of_evt {k : Nat} (h : Fires s k) (e : t.evt = s.evt) : Fires t k := by
  unfold Fires
  rw [e]
  exact h

theorem Fires.foldl {α : Type} {k : Nat} {f : State → α → State} {l : List α} (hf : ∀ s a, Fires s k → Fires (f s a) k) (h : Fires s k) :
    Fires (l.foldl f s) k := by
  induction l generalizing s with
  | nil => exact h
  | cons a l ih => exact ih (hf s a h)

end Sys2Proof.Machine
end

