-- ==== Sys2Proof/Laws/Kept.lean ====
section
/-! SUPPORT. What every operation of the block keeps, in one predicate that passes through every meaning: the invariant, the queue, and
that time, free draws and the record of what was sent only grow. -/

namespace Sys2Proof.Machine

/-- A state reached from one with queue `q` at elapsed tick `n`, with `m` values drawn and `o` sent, keeps the invariant. -/
structure Kept (n m : Nat) (q : List Instr) (o : List OutMsg) (s : State) : Prop where
  inv : s.Inv
  pending : s.pending = q
  elapsed : n ≤ s.clk.elapsed
  drawn : m ≤ s.freeCtr
  out : o <+: s.out

/-- An outcome keeps it when it is a next state that does. -/
def OutKept (n m : Nat) (q : List Instr) (o : List OutMsg) (r : Out) : Prop := ∃ t, r = .next t ∧ Kept n m q o t

/-- An answer that may be none keeps it when what it gives does. -/
def OptKept (n m : Nat) (q : List Instr) (o : List OutMsg) (r : Option (Nat × State)) : Prop := ∀ x, r = some x → Kept n m q o x.2

variable {n m : Nat} {q : List Instr} {o : List OutMsg} {s : State}

theorem Kept.refl (h : s.Inv) : Kept s.clk.elapsed s.freeCtr s.pending s.out s :=
  ⟨h, rfl, Nat.le_refl _, Nat.le_refl _, List.prefix_refl _⟩

theorem outKept_next {t : State} (h : Kept n m q o t) : OutKept n m q o (.next t) := ⟨t, rfl, h⟩

/-- The predicate on a state written out part by part. -/
def KeptParts (n m : Nat) (q : List Instr) (o : List OutMsg) (p : List Instr) (c : Clk) (f : Nat) (r rs : Sparse RegVal)
    (st : Sparse Nat) (isl : Sparse Island) (evt : Evt) (out : List OutMsg) (diong : Diong) (mem : Mem) : Prop :=
  Kept n m q o { State.reset with pending := p, clk := c, freeCtr := f, regs := r, regsStaged := rs, stats := st, islands := isl,
                                  evt := evt, out := out, diong := diong, mem := mem }

/-- A state written out keeps the predicate when its parts do. -/
theorem kept_mk_iff {p : List Instr} {c : Clk} {f : Nat} {r rs : Sparse RegVal} {st : Sparse Nat} {isl : Sparse Island} {evt : Evt}
    {out : List OutMsg} {diong : Diong} {mem : Mem} {objs objsStaged : Sparse ObjVal} {objGen : Sparse Nat} {subs : Sparse SubDom}
    {fresh : SameTick} {xing : Sparse Crossing}
    {lost : Sparse Nat} {afr : Option (Nat × Nat)} {ctl : Ctl} {tl : Tl} {adm : Adm} {straps : Straps} {sec : Sec} {lo : Lo}
    {fe : Sparse PathFe} {cvt : Cvt} {rx : Rx} {tx : Tx} {bm : Bm} {dpds : Sparse Dpd} {disp : Disp} {ge : Ge} {cal : Cal} {lnk : Lnk}
    {pwr : Pwr} {hk : Hk} {svc : Svc} {boot : Boot} {nv : Nv} {marks : Sparse (List (Nat × Option Nat))}
    {air : Air} :
    Kept n m q o (State.mk p c f r rs objs objsStaged objGen st isl subs fresh xing lost afr ctl evt
      out tl adm diong straps sec lo fe cvt rx tx bm dpds disp ge cal lnk mem pwr hk svc boot nv marks air) ↔
    KeptParts n m q o p c f r rs st isl evt out diong mem :=
  ⟨fun ⟨⟨h1, h2, h3, h4, h5, h6, h7, h8, h9⟩, hp, he, hd, ho⟩ => ⟨⟨h1, h2, h3, h4, h5, h6, h7, h8, h9⟩, hp, he, hd, ho⟩,
   fun ⟨⟨h1, h2, h3, h4, h5, h6, h7, h8, h9⟩, hp, he, hd, ho⟩ => ⟨⟨h1, h2, h3, h4, h5, h6, h7, h8, h9⟩, hp, he, hd, ho⟩⟩

/-- Parts the predicate does not read may change. -/
theorem kept_parts {evt : Evt} {diong : Diong} {mem : Mem} (h : Kept n m q o s) (hl : evt.log = s.evt.log)
    (hi : diong.spiIn = s.diong.spiIn) (ho : diong.spiOut = s.diong.spiOut) (hm : mem.data = s.mem.data) :
    KeptParts n m q o s.pending s.clk s.freeCtr s.regs s.regsStaged s.stats s.islands evt s.out diong mem := by
  refine ⟨⟨?_, h.inv.regs, h.inv.staged, h.inv.islands, ?_, ?_, ?_, h.inv.stats, h.inv.counts⟩, h.pending, h.elapsed, h.drawn, h.out⟩
  · exact hm ▸ h.inv.memory
  · exact hl ▸ h.inv.log
  · exact hi ▸ h.inv.spiIn
  · exact ho ▸ h.inv.spiOut

/-- The same, with time that has not gone back. -/
theorem kept_parts_clk {evt : Evt} {diong : Diong} {mem : Mem} {c : Clk} (h : Kept n m q o s) (hc : s.clk.elapsed ≤ c.elapsed)
    (hl : evt.log = s.evt.log) (hi : diong.spiIn = s.diong.spiIn) (ho : diong.spiOut = s.diong.spiOut) (hm : mem.data = s.mem.data) :
    KeptParts n m q o s.pending c s.freeCtr s.regs s.regsStaged s.stats s.islands evt s.out diong mem := by
  have h1 := kept_parts h hl hi ho hm
  exact ⟨⟨h1.inv.memory, h1.inv.regs, h1.inv.staged, h1.inv.islands, h1.inv.log, h1.inv.spiIn, h1.inv.spiOut, h1.inv.stats,
    h1.inv.counts⟩, h1.pending, h.elapsed.trans hc, h1.drawn, h1.out⟩

/-- The same, with SPI queues within their sizes. -/
theorem kept_parts_spi {evt : Evt} {diong : Diong} {mem : Mem} (h : Kept n m q o s)
    (hl : evt.log = s.evt.log) (hi : diong.spiIn.length ≤ 2) (ho : diong.spiOut = s.diong.spiOut) (hm : mem.data = s.mem.data) :
    KeptParts n m q o s.pending s.clk s.freeCtr s.regs s.regsStaged s.stats s.islands evt s.out diong mem := by
  have h1 := kept_parts (diong := s.diong) h hl rfl rfl hm
  exact ⟨⟨h1.inv.memory, h1.inv.regs, h1.inv.staged, h1.inv.islands, h1.inv.log, hi, ho ▸ h.inv.spiOut, h1.inv.stats, h1.inv.counts⟩,
    h1.pending, h1.elapsed, h1.drawn, h1.out⟩

/-- The same, with fewer staged copies. -/
theorem kept_parts_staged {evt : Evt} {diong : Diong} {mem : Mem} {r : Sparse RegVal} (h : Kept n m q o s) (hr : spSorted r = true)
    (hl : evt.log = s.evt.log) (hi : diong.spiIn = s.diong.spiIn) (ho : diong.spiOut = s.diong.spiOut) (hm : mem.data = s.mem.data) :
    KeptParts n m q o s.pending s.clk s.freeCtr s.regs r s.stats s.islands evt s.out diong mem := by
  have h1 := kept_parts h hl hi ho hm
  exact ⟨⟨h1.inv.memory, h1.inv.regs, hr, h1.inv.islands, h1.inv.log, h1.inv.spiIn, h1.inv.spiOut, h1.inv.stats, h1.inv.counts⟩,
    h1.pending, h1.elapsed, h1.drawn, h1.out⟩

theorem kept_foldl {α : Type} {f : State → α → State} {l : List α} (hf : ∀ t a, Kept n m q o t → Kept n m q o (f t a))
    (h : Kept n m q o s) : Kept n m q o (l.foldl f s) := by
  induction l generalizing s with
  | nil => exact h
  | cons a l ih => exact ih (hf s a h)

theorem kept_foldl_snd {α β : Type} {f : β × State → α → β × State} {l : List α} {x : β × State}
    (hf : ∀ t a, Kept n m q o t.2 → Kept n m q o (f t a).2) (h : Kept n m q o x.2) : Kept n m q o (l.foldl f x).2 := by
  induction l generalizing x with
  | nil => exact h
  | cons a l ih => exact ih (hf x a h)

theorem kept_foldl_trd {α β γ : Type} {f : β × γ × State → α → β × γ × State} {l : List α} {x : β × γ × State}
    (hf : ∀ t a, Kept n m q o t.2.2 → Kept n m q o (f t a).2.2) (h : Kept n m q o x.2.2) : Kept n m q o (l.foldl f x).2.2 := by
  induction l generalizing x with
  | nil => exact h
  | cons a l ih => exact ih (hf x a h)

theorem kept_ite {c : Prop} [Decidable c] {a b : State} (ha : Kept n m q o a) (hb : Kept n m q o b) :
    Kept n m q o (if c then a else b) := by
  split
  · exact ha
  · exact hb

theorem kept_ite_snd {α : Type} {c : Prop} [Decidable c] {a b : α × State} (ha : Kept n m q o a.2) (hb : Kept n m q o b.2) :
    Kept n m q o (if c then a else b).2 := by
  split
  · exact ha
  · exact hb

theorem kept_ite_trd {α β : Type} {c : Prop} [Decidable c] {a b : α × β × State} (ha : Kept n m q o a.2.2) (hb : Kept n m q o b.2.2) :
    Kept n m q o (if c then a else b).2.2 := by
  split
  · exact ha
  · exact hb

theorem kept_eq_snd {α : Type} {x : α × State} {a : α} (e : x = (a, s)) (h : Kept n m q o x.2) : Kept n m q o s := by subst e; exact h

theorem kept_eq_trd {α β : Type} {x : α × β × State} {a : α} {b : β} (e : x = (a, b, s)) (h : Kept n m q o x.2.2) :
    Kept n m q o s := by subst e; exact h

theorem kept_eq_fth {α β γ : Type} {x : α × β × γ × State} {a : α} {b : β} {c : γ} (e : x = (a, b, c, s))
    (h : Kept n m q o x.2.2.2) : Kept n m q o s := by subst e; exact h

theorem optKept_none : OptKept n m q o none := fun _ h => by cases h

theorem optKept_some {x : Nat × State} (h : Kept n m q o x.2) : OptKept n m q o (some x) := fun _ e => by cases e; exact h

theorem optKept_ite {c : Prop} [Decidable c] {a b : Option (Nat × State)} (ha : OptKept n m q o a) (hb : OptKept n m q o b) :
    OptKept n m q o (if c then a else b) := by
  split
  · exact ha
  · exact hb

theorem outKept_ite {c : Prop} [Decidable c] {a b : Out} (ha : OutKept n m q o a) (hb : OutKept n m q o b) :
    OutKept n m q o (if c then a else b) := by
  split
  · exact ha
  · exact hb

end Sys2Proof.Machine
end

