-- ==== Sys2Proof/Laws/KeptOps.lean ====
section
/-! SUPPORT. What `Kept` passes through: the shared operations of registers, time, paths, receive chain, beam matrix and predistortion. -/

namespace Sys2Proof.Machine

variable {n m : Nat} {q : List Instr} {o : List OutMsg}

/-! ## Ops -/

theorem State_setIsland_kept {s : State} (i : Nat) (x : Island) (h : Kept n m q o s) : Kept n m q o (s.setIsland i x) := by
  obtain ⟨⟨h1, h2, h3, h4, h5, h6, h7, h8, h9⟩, hp, he, hd, ho⟩ := h
  exact ⟨⟨h1, h2, h3, spWf_spPut (fun _ => Island.up) _ _ h4, h5, h6, h7, h8, h9⟩, hp, he, hd, ho⟩

theorem wr_kept {s : State} (id : RegId) (ix : List Nat) (v : Nat) (h : Kept n m q o s) : Kept n m q o (wr s id ix v) := by
  obtain ⟨⟨h1, h2, h3, h4, h5, h6, h7, h8, h9⟩, hp, he, hd, ho⟩ := h
  exact ⟨⟨h1, spSorted_spPut _ _ _ h2, h3, h4, h5, h6, h7, h8, h9⟩, hp, he, hd, ho⟩

theorem wrFields_kept {s : State} (id : RegId) (ix : List Nat) (v : Nat) (h : Kept n m q o s) :
    Kept n m q o (wrFields s id ix v) := by
  unfold wrFields
  repeat' first | (with_reducible assumption) | (with_reducible apply wr_kept)

theorem State_setObj_kept {s : State} (index : Nat) (sub : Nat) (v : ObjVal) (h : Kept n m q o s) :
    Kept n m q o (State.setObj s index sub v) := by
  unfold State.setObj
  repeat' first
    | (with_reducible assumption) | (with_reducible apply wrFields_kept) | (with_reducible apply wr_kept)
    | (with_reducible refine kept_foldl ?_ ?_; intro _ _ _) | (with_reducible refine kept_parts ?_ rfl rfl rfl rfl)
    | (simp only [kept_mk_iff]) | split

theorem State_setPobj_kept {s : State} (p : Nat) (item : Nat) (v : Nat) (h : Kept n m q o s) :
    Kept n m q o (State.setPobj s p item v) := by
  unfold State.setPobj
  repeat' first | (with_reducible assumption) | (with_reducible apply State_setObj_kept)

theorem State_setPort_kept {s : State} (x1 : Nat) (x : Port) (h : Kept n m q o s) :
    Kept n m q o (State.setPort s x1 x) := by
  unfold State.setPort
  repeat' first | (with_reducible assumption) | (with_reducible refine kept_parts ?_ rfl rfl rfl rfl) | (simp only [kept_mk_iff])

theorem State_touch_kept {s : State} (k : Nat) (h : Kept n m q o s) :
    Kept n m q o (State.touch s k) := by
  unfold State.touch
  repeat' first
    | (with_reducible assumption) | (with_reducible apply kept_ite) | (with_reducible refine kept_parts ?_ rfl rfl rfl rfl)
    | (simp only [kept_mk_iff])

theorem wf_kept {s : State} (id : RegId) (ix : List Nat) (hi : Nat) (lo : Nat) (v : Nat) (h : Kept n m q o s) :
    Kept n m q o (wf s id ix hi lo v) := by
  unfold wf
  repeat' first | (with_reducible assumption) | (with_reducible apply wr_kept)

theorem bumpField_kept {s : State} (id : RegId) (ix : List Nat) (hi : Nat) (lo : Nat) (x5 : optParam Nat 1) (h : Kept n m q o s) :
    Kept n m q o (bumpField s id ix hi lo x5) := by
  unfold bumpField
  repeat' first | (with_reducible assumption) | (with_reducible apply wf_kept)

theorem coalesceAt_kept {s : State} (src : Nat) (d : Nat) (h : Kept n m q o s) :
    Kept n m q o (coalesceAt s src d) := by
  unfold coalesceAt
  repeat' first | (with_reducible assumption) | (with_reducible apply bumpField_kept)

theorem raise_kept {s : State} (src : Nat) (inst : Nat) (aux : Nat) (h : Kept n m q o s) :
    Kept n m q o (raise s src inst aux) := by
  unfold raise
  repeat' first
    | (with_reducible assumption) | (with_reducible apply coalesceAt_kept) | (with_reducible apply kept_ite)
    | (with_reducible refine kept_foldl ?_ ?_; intro _ _ _) | (with_reducible refine kept_parts ?_ rfl rfl rfl rfl)
    | (simp only [kept_mk_iff])

theorem addrFault_kept {s : State} (tag : Nat) (a : Nat) (h : Kept n m q o s) :
    Kept n m q o (addrFault s tag a) := by
  unfold addrFault
  repeat' first
    | (with_reducible assumption) | (with_reducible apply raise_kept) | (with_reducible refine kept_parts ?_ rfl rfl rfl rfl)
    | (simp only [kept_mk_iff])

theorem noteBit_kept {s : State} (id : RegId) (ix : List Nat) (i : Nat) (h : Kept n m q o s) :
    Kept n m q o (noteBit s id ix i) := by
  unfold noteBit
  repeat' first | (with_reducible assumption) | (with_reducible refine kept_parts ?_ rfl rfl rfl rfl) | (simp only [kept_mk_iff])

theorem askAgain_kept {s : State} (id : RegId) (ix : List Nat) (i : Nat) (pending : Bool) (h : Kept n m q o s) :
    Kept n m q o (askAgain s id ix i pending) := by
  unfold askAgain
  repeat' first | (with_reducible assumption) | (with_reducible apply noteBit_kept) | (with_reducible apply kept_ite)

theorem bump_kept {s : State} (id : RegId) (ix : List Nat) (x3 : optParam Nat 1) (h : Kept n m q o s) :
    Kept n m q o (bump s id ix x3) := by
  unfold bump
  repeat' first | (with_reducible assumption) | (with_reducible apply wr_kept)

theorem cease_kept {s : State} (src : Nat) (inst : Nat) (h : Kept n m q o s) :
    Kept n m q o (cease s src inst) := by
  unfold cease
  repeat' first
    | (with_reducible assumption) | (with_reducible apply State_setPort_kept) | (with_reducible apply kept_ite)
    | (with_reducible refine kept_foldl ?_ ?_; intro _ _ _)

theorem condOff_kept {s : State} (src : Nat) (inst : Nat) (aux : Nat) (h : Kept n m q o s) :
    Kept n m q o (condOff s src inst aux) := by
  unfold condOff
  repeat' first
    | (with_reducible assumption) | (with_reducible apply cease_kept) | (with_reducible apply kept_ite)
    | (with_reducible refine kept_parts ?_ rfl rfl rfl rfl) | (simp only [kept_mk_iff])

theorem condOn_kept {s : State} (src : Nat) (inst : Nat) (aux : Nat) (h : Kept n m q o s) :
    Kept n m q o (condOn s src inst aux) := by
  unfold condOn
  repeat' first
    | (with_reducible assumption) | (with_reducible apply raise_kept) | (with_reducible apply kept_ite)
    | (with_reducible refine kept_parts ?_ rfl rfl rfl rfl) | (simp only [kept_mk_iff])

theorem draw_kept {s : State} (bound : Nat) (h : Kept n m q o s) : Kept n m q o (draw s bound).2 :=
  ⟨⟨h.inv.memory, h.inv.regs, h.inv.staged, h.inv.islands, h.inv.log, h.inv.spiIn, h.inv.spiOut, h.inv.stats, h.inv.counts⟩,
    h.pending, h.elapsed, Nat.le_succ_of_le h.drawn, h.out⟩

theorem drawBytes_kept {s : State} (k : Nat) (h : Kept n m q o s) : Kept n m q o (drawBytes s k).2 :=
  ⟨⟨h.inv.memory, h.inv.regs, h.inv.staged, h.inv.islands, h.inv.log, h.inv.spiIn, h.inv.spiOut, h.inv.stats, h.inv.counts⟩,
    h.pending, h.elapsed, Nat.le_succ_of_le h.drawn, h.out⟩

theorem emit_kept {s : State} (x : OutMsg) (h : Kept n m q o s) : Kept n m q o (emit s x) :=
  ⟨⟨h.inv.memory, h.inv.regs, h.inv.staged, h.inv.islands, h.inv.log, h.inv.spiIn, h.inv.spiOut, h.inv.stats, h.inv.counts⟩,
    h.pending, h.elapsed, h.drawn, h.out.trans (List.prefix_append _ _)⟩

theorem firewall_kept {s : State} (tag : Nat) (h : Kept n m q o s) :
    Kept n m q o (firewall s tag) := by
  unfold firewall
  repeat' first | (with_reducible assumption) | (with_reducible apply raise_kept)

theorem markOn_kept {s : State} (k : Nat) (h : Kept n m q o s) :
    Kept n m q o (markOn s k) := by
  unfold markOn
  repeat' first | (with_reducible assumption) | (with_reducible refine kept_parts ?_ rfl rfl rfl rfl) | (simp only [kept_mk_iff]) | split

theorem markOff_kept {s : State} (k : Nat) (h : Kept n m q o s) :
    Kept n m q o (markOff s k) := by
  unfold markOff
  repeat' first | (with_reducible assumption) | (with_reducible refine kept_parts ?_ rfl rfl rfl rfl) | (simp only [kept_mk_iff]) | split

theorem markIf_kept {s : State} (k : Nat) (b : Bool) (h : Kept n m q o s) :
    Kept n m q o (markIf s k b) := by
  unfold markIf
  repeat' first
    | (with_reducible assumption) | (with_reducible apply markOn_kept) | (with_reducible apply markOff_kept)
    | (with_reducible apply kept_ite)

theorem markSpan_kept {s : State} (k : Nat) (a : Nat) (b : Nat) (h : Kept n m q o s) :
    Kept n m q o (markSpan s k a b) := by
  unfold markSpan
  repeat' first
    | (with_reducible assumption) | (with_reducible apply kept_ite) | (with_reducible refine kept_parts ?_ rfl rfl rfl rfl)
    | (simp only [kept_mk_iff])

theorem wbit_kept {s : State} (id : RegId) (ix : List Nat) (i : Nat) (b : Bool) (h : Kept n m q o s) :
    Kept n m q o (wbit s id ix i b) := by
  unfold wbit
  repeat' first | (with_reducible assumption) | (with_reducible apply wf_kept)

theorem setFlag_kept {s : State} (id : RegId) (ix : List Nat) (i : Nat) (h : Kept n m q o s) :
    Kept n m q o (setFlag s id ix i) := by
  unfold setFlag
  repeat' first | (with_reducible assumption) | (with_reducible apply noteBit_kept) | (with_reducible apply wbit_kept)

/-- A counter's store changed at one key by a legal value. -/
theorem stats_kept {s : State} (k v : Nat) (hv : statLegal v) (h : Kept n m q o s) :
    Kept n m q o { s with stats := spPut 0 s.stats k v } := by
  obtain ⟨⟨h1, h2, h3, h4, h5, h6, h7, h8, h9⟩, hp, he, hd, ho⟩ := h
  refine ⟨⟨h1, h2, h3, h4, h5, h6, h7, spWf_spPut (fun _ => 0) _ _ h8, fun p hp' => ?_⟩, hp, he, hd, ho⟩
  rcases mem_spPut hp' with ⟨rfl, -⟩ | hp'
  · exact hv
  · exact h9 p hp'

theorem stat_kept {s : State} (index sub k : Nat) (h : Kept n m q o s) : Kept n m q o (stat s index sub k) := by
  unfold stat
  dsimp only
  split
  · exact h
  · split
    · exact raise_kept _ _ _ (stats_kept _ _ (.inr rfl) h)
    next hlt => exact stats_kept _ _ (.inl (Nat.le_of_not_lt hlt)) h

theorem statPath_kept {s : State} (p : Nat) (item : Nat) (x3 : optParam Nat 1) (h : Kept n m q o s) :
    Kept n m q o (statPath s p item x3) := by
  unfold statPath
  repeat' first | (with_reducible assumption) | (with_reducible apply stat_kept)

theorem subDown_kept {s : State} (k : Nat) (h : Kept n m q o s) :
    Kept n m q o (subDown s k) := by
  unfold subDown
  repeat' first | (with_reducible assumption) | (with_reducible refine kept_parts ?_ rfl rfl rfl rfl) | (simp only [kept_mk_iff])

theorem subUp_kept {s : State} (k : Nat) (h : Kept n m q o s) :
    Kept n m q o (subUp s k) := by
  unfold subUp
  repeat' first | (with_reducible assumption) | (with_reducible refine kept_parts ?_ rfl rfl rfl rfl) | (simp only [kept_mk_iff])

theorem tagged_kept {s : State} (id : RegId) (ix : List Nat) (tag : Nat) {f : State → State} (ha : Kept n m q o (f s)) (h : Kept n m q o s) :
    Kept n m q o (tagged s id ix tag f) := by
  unfold tagged
  repeat' first | (with_reducible assumption) | (with_reducible apply emit_kept) | (with_reducible apply firewall_kept) | split

theorem takeAgain_kept {s : State} (id : RegId) (ix : List Nat) (i : Nat) (h : Kept n m q o s) :
    Kept n m q o (takeAgain s id ix i) := by
  unfold takeAgain
  repeat' first | (with_reducible assumption) | (with_reducible refine kept_parts ?_ rfl rfl rfl rfl) | (simp only [kept_mk_iff])

theorem wrStaged_kept {s : State} (id : RegId) (ix : List Nat) (v : Nat) (h : Kept n m q o s) :
    Kept n m q o (wrStaged s id ix v) := by
  obtain ⟨⟨h1, h2, h3, h4, h5, h6, h7, h8, h9⟩, hp, he, hd, ho⟩ := h
  exact State_touch_kept _ ⟨⟨h1, h2, spSorted_replace _ _ h3, h4, h5, h6, h7, h8, h9⟩, hp, he, hd, ho⟩

theorem writeFields_kept {s : State} (id : RegId) (ix : List Nat) (v : Nat) (h : Kept n m q o s) :
    Kept n m q o (writeFields s id ix v) := by
  unfold writeFields
  repeat' first
    | (with_reducible assumption) | (with_reducible apply wrStaged_kept) | (with_reducible apply wr_kept)
    | (with_reducible apply kept_ite)

/-! ## CoreOps -/

theorem checkForecast_kept {s : State} (pool : Nat) (h : Kept n m q o s) :
    Kept n m q o (checkForecast s pool) := by
  unfold checkForecast
  repeat' first
    | (with_reducible assumption) | (with_reducible apply condOn_kept) | (with_reducible apply condOff_kept)
    | (with_reducible apply kept_ite) | (with_reducible refine kept_foldl ?_ ?_; intro _ _ _)
    | (with_reducible refine kept_parts ?_ rfl rfl rfl rfl) | (simp only [kept_mk_iff])

/-- The event log replaced by one within its size. -/
theorem evt_kept {s : State} (x : Evt) (hx : x.log.length ≤ 1024) (h : Kept n m q o s) : Kept n m q o { s with evt := x } :=
  ⟨⟨h.inv.memory, h.inv.regs, h.inv.staged, h.inv.islands, hx, h.inv.spiIn, h.inv.spiOut, h.inv.stats, h.inv.counts⟩,
    h.pending, h.elapsed, h.drawn, h.out⟩

/-- A log entry written keeps the log within 1,024 entries. -/
theorem logWrite_kept {s : State} (e : LogEntry) (h : Kept n m q o s) : Kept n m q o (logWrite s e) := by
  have hl := h.inv.log
  unfold logWrite
  dsimp only
  have key : ((if decide (1024 ≤ s.evt.log.length) = true then s.evt.log.tail else s.evt.log) ++ [e]).length ≤ 1024 := by
    split
    · simp only [List.length_append, List.length_tail, List.length_singleton]; omega
    next hf => simp only [decide_eq_true_eq] at hf; simp only [List.length_append, List.length_singleton]; omega
  split
  · exact raise_kept _ _ _ (evt_kept _ key h)
  · exact evt_kept _ key h

theorem uncountNewest_length (src : Nat) (l : List LogEntry) : (uncountNewest src l).length = l.length := by
  induction l with
  | nil => rfl
  | cons e t ih =>
    unfold uncountNewest
    split
    · rfl
    · rw [List.length_cons, List.length_cons, ih]

/-- A counted firing delivered after all keeps the log within 1,024 entries. -/
theorem deliverCounted_kept {s : State} (d : Nat) (f : Firing) (h : Kept n m q o s) : Kept n m q o (deliverCounted s d f) := by
  unfold deliverCounted
  dsimp only
  have h2 : Kept n m q o (if d < 4 then
      (wf s .evtRpt [d, f.src] 7 0 1).setPort d { (wf s .evtRpt [d, f.src] 7 0 1).port d with
        queue := ((wf s .evtRpt [d, f.src] 7 0 1).port d).queue ++ [(f.src, f.inst, 1, false)] } else wf s .evtRpt [d, f.src] 7 0 1) := by
    repeat' first | (with_reducible assumption) | (with_reducible apply State_setPort_kept) | (with_reducible apply wf_kept) |
      (with_reducible apply kept_ite)
  generalize hs : (if d < 4 then
      (wf s .evtRpt [d, f.src] 7 0 1).setPort d { (wf s .evtRpt [d, f.src] 7 0 1).port d with
        queue := ((wf s .evtRpt [d, f.src] 7 0 1).port d).queue ++ [(f.src, f.inst, 1, false)] } else wf s .evtRpt [d, f.src] 7 0 1) = s2 at h2
  have hl := h2.inv.log
  split
  · exact evt_kept _ (by rw [List.length_map]; exact hl) h2
  · exact logWrite_kept _ (evt_kept _ (by rw [List.length_reverse, uncountNewest_length, List.length_reverse]; exact hl) h2)

theorem clearFlag_kept {s : State} (d : Nat) (src : Nat) (h : Kept n m q o s) :
    Kept n m q o (clearFlag s d src) := by
  unfold clearFlag
  repeat' first
    | (with_reducible assumption) | (with_reducible apply deliverCounted_kept) | (with_reducible apply wf_kept)
    | (with_reducible apply wbit_kept) | (with_reducible apply kept_ite) | split

theorem clearSticky_kept {s : State} (d : Nat) (b : Nat) (bits : Nat) (h : Kept n m q o s) :
    Kept n m q o (clearSticky s d b bits) := by
  unfold clearSticky
  repeat' first
    | (with_reducible assumption) | (with_reducible apply clearFlag_kept) | (with_reducible apply kept_ite)
    | (with_reducible refine kept_foldl ?_ ?_; intro _ _ _)

theorem failPath_kept {s : State} (p : Nat) (h : Kept n m q o s) :
    Kept n m q o (failPath s p) := by
  unfold failPath
  repeat' first
    | (with_reducible assumption) | (with_reducible apply kept_ite) | (with_reducible refine kept_parts ?_ rfl rfl rfl rfl)
    | (simp only [kept_mk_iff])

/-- Time moves on: the elapsed tick does not fall. -/
theorem clk_kept {s : State} (c : Clk) (hc : s.clk.elapsed ≤ c.elapsed) (h : Kept n m q o s) : Kept n m q o { s with clk := c } :=
  ⟨⟨h.inv.memory, h.inv.regs, h.inv.staged, h.inv.islands, h.inv.log, h.inv.spiIn, h.inv.spiOut, h.inv.stats, h.inv.counts⟩,
    h.pending, h.elapsed.trans hc, h.drawn, h.out⟩

theorem air_kept {s : State} (x : Air) (h : Kept n m q o s) : Kept n m q o { s with air := x } :=
  ⟨⟨h.inv.memory, h.inv.regs, h.inv.staged, h.inv.islands, h.inv.log, h.inv.spiIn, h.inv.spiOut, h.inv.stats, h.inv.counts⟩,
    h.pending, h.elapsed, h.drawn, h.out⟩

theorem passTicks_kept {s : State} (k : Nat) (h : Kept n m q o s) : Kept n m q o (passTicks s k) :=
  air_kept (airAfter s k) (clk_kept { s.clk with elapsed := s.clk.elapsed + k, count := s.clk.count + k } (Nat.le_add_right _ _) h)

theorem reachCount_kept {s : State} (t : Nat) (h : Kept n m q o s) :
    Kept n m q o (reachCount s t) := by
  unfold reachCount
  repeat' first | (with_reducible assumption) | (with_reducible apply passTicks_kept)

theorem reachElapsed_kept {s : State} (t : Nat) (h : Kept n m q o s) :
    Kept n m q o (reachElapsed s t) := by
  unfold reachElapsed
  repeat' first | (with_reducible assumption) | (with_reducible apply passTicks_kept)

theorem readmit_kept {s : State} (h : Kept n m q o s) :
    Kept n m q o (readmit s) := by
  unfold readmit
  repeat' first | (with_reducible assumption) | (with_reducible refine kept_parts ?_ rfl rfl rfl rfl) | (simp only [kept_mk_iff])

theorem spareUsed_kept {s : State} (kind : Nat) (i : Nat) (h : Kept n m q o s) :
    Kept n m q o (spareUsed s kind i) := by
  unfold spareUsed
  repeat' first
    | (with_reducible assumption) | (with_reducible apply raise_kept) | (with_reducible apply checkForecast_kept)
    | (with_reducible apply kept_ite) | (with_reducible refine kept_parts ?_ rfl rfl rfl rfl) | (simp only [kept_mk_iff])

/-- The SRAM's bytes replaced by others in canonical form. -/
theorem data_kept {s : State} (x : Mem) (hx : Memory.wf x.data = true) (h : Kept n m q o s) : Kept n m q o { s with mem := x } :=
  ⟨⟨hx, h.inv.regs, h.inv.staged, h.inv.islands, h.inv.log, h.inv.spiIn, h.inv.spiOut, h.inv.stats, h.inv.counts⟩,
    h.pending, h.elapsed, h.drawn, h.out⟩

/-- A byte written keeps the SRAM's canonical form. -/
theorem memory_wf_put {d : Sparse Byte} (a : Nat) (b : Byte) (h : Memory.wf d = true) : Memory.wf (spPut 0 d a b) = true :=
  spWf_spPut (fun _ => 0) a b h

/-- Bytes written one after another keep it. -/
theorem memory_wf_foldl {β : Type} {f : Sparse Byte → β → Sparse Byte} (hf : ∀ d x, Memory.wf d = true → Memory.wf (f d x) = true)
    {l : List β} {d : Sparse Byte} (h : Memory.wf d = true) : Memory.wf (l.foldl f d) = true := by
  induction l generalizing d with
  | nil => exact h
  | cons x l ih => exact ih (hf d x h)

/-- A poke of the SRAM keeps its canonical form. -/
theorem sramPoke_wf {s : State} (addr : Nat) (b : List Byte) (h : Memory.wf s.mem.data = true) :
    Memory.wf (sramPoke s addr b).mem.data = true := by
  unfold sramPoke
  refine memory_wf_foldl (fun d x hd => ?_) h
  dsimp only
  split
  · exact memory_wf_put _ _ hd
  · exact hd

theorem sramPoke_kept {s : State} (addr : Nat) (b : List Byte) (h : Kept n m q o s) : Kept n m q o (sramPoke s addr b) :=
  data_kept _ (sramPoke_wf addr b h.inv.memory) h

theorem sramWrite_kept {s : State} (addr : Nat) (b : List Byte) (h : Kept n m q o s) :
    Kept n m q o (sramWrite s addr b) := by
  unfold sramWrite
  repeat' first | (with_reducible assumption) | (with_reducible apply sramPoke_kept)

theorem toBoundary_kept {s : State} (key inst : Nat) (f : Nat → Nat) (h : Kept n m q o s) : Kept n m q o (toBoundary s key inst f) := by
  unfold toBoundary
  dsimp only
  exact clk_kept _ (Nat.le_refl _) (reachCount_kept _ h)

theorem toFrame_kept {s : State} (key : Nat) (inst : Nat) (h : Kept n m q o s) :
    Kept n m q o (toFrame s key inst) := by
  unfold toFrame
  repeat' first | (with_reducible assumption) | (with_reducible apply toBoundary_kept)

theorem toSlot_kept {s : State} (key : Nat) (inst : Nat) (h : Kept n m q o s) :
    Kept n m q o (toSlot s key inst) := by
  unfold toSlot
  repeat' first | (with_reducible assumption) | (with_reducible apply toBoundary_kept)

theorem toSymbol_kept {s : State} (key : Nat) (inst : Nat) (h : Kept n m q o s) :
    Kept n m q o (toSymbol s key inst) := by
  unfold toSymbol
  repeat' first | (with_reducible assumption) | (with_reducible apply toBoundary_kept)

/-! ## MemOps -/

theorem arbEnd_kept {s : State} (a : Nat) (h : Kept n m q o s) :
    Kept n m q o (arbEnd s a) := by
  unfold arbEnd
  repeat' first | (with_reducible assumption) | (with_reducible refine kept_parts ?_ rfl rfl rfl rfl) | (simp only [kept_mk_iff])

theorem arbPhase_kept {s : State} (a : Nat) (ports : List Nat) (beats : Nat) (h : Kept n m q o s) :
    Kept n m q o (arbPhase s a ports beats) := by
  unfold arbPhase
  repeat' first
    | (with_reducible assumption) | (with_reducible apply kept_ite) | (with_reducible refine kept_parts ?_ rfl rfl rfl rfl)
    | (simp only [kept_mk_iff]) | split

theorem correctedError_kept {s : State} (w : Nat) (h : Kept n m q o s) :
    Kept n m q o (correctedError s w) := by
  unfold correctedError
  repeat' first
    | (with_reducible assumption) | (with_reducible apply raise_kept) | (with_reducible apply bump_kept)
    | (with_reducible refine kept_parts ?_ rfl rfl rfl rfl) | (simp only [kept_mk_iff]) | split

theorem dropParked_kept {s : State} (p : Nat → Nat → Bool) (h : Kept n m q o s) :
    Kept n m q o (dropParked s p) := by
  unfold dropParked
  repeat' first | (with_reducible assumption) | (with_reducible refine kept_parts ?_ rfl rfl rfl rfl) | (simp only [kept_mk_iff])

theorem poisonWord_kept {s : State} (w : Nat) (h : Kept n m q o s) :
    Kept n m q o (poisonWord s w) := by
  unfold poisonWord
  repeat' first
    | (with_reducible assumption) | (with_reducible apply bump_kept) | (with_reducible apply kept_ite)
    | (with_reducible refine kept_parts ?_ rfl rfl rfl rfl) | (simp only [kept_mk_iff]) | split

theorem eccFound_kept {s : State} (ce : List Nat) (ue : List Nat) (h : Kept n m q o s) :
    Kept n m q o (eccFound s ce ue) := by
  unfold eccFound
  repeat' first
    | (with_reducible assumption) | (with_reducible apply poisonWord_kept) | (with_reducible apply correctedError_kept)
    | (with_reducible refine kept_foldl ?_ ?_; intro _ _ _)

theorem grantSet_kept {s : State} (h : Kept n m q o s) :
    Kept n m q o (grantSet s) := by
  unfold grantSet
  repeat' first
    | (with_reducible assumption) | (with_reducible apply kept_ite) | (with_reducible refine kept_parts ?_ rfl rfl rfl rfl)
    | (simp only [kept_mk_iff]) | split

theorem memFault_kept {s : State} (addr : Nat) (tag : Nat) (port : Nat) (kind : Nat) (h : Kept n m q o s) :
    Kept n m q o (memFault s addr tag port kind) := by
  unfold memFault
  repeat' first | (with_reducible assumption) | (with_reducible apply wr_kept)

theorem retireBank_kept {s : State} (b : Nat) (h : Kept n m q o s) :
    Kept n m q o (retireBank s b) := by
  unfold retireBank
  repeat' first
    | (with_reducible assumption) | (with_reducible apply subDown_kept) | (with_reducible apply wf_kept)
    | (with_reducible refine kept_parts ?_ rfl rfl rfl rfl) | (simp only [kept_mk_iff])

theorem saveBanks_kept {s : State} (h : Kept n m q o s) :
    Kept n m q o (saveBanks s) := by
  unfold saveBanks
  repeat' first | (with_reducible assumption) | (with_reducible refine kept_parts ?_ rfl rfl rfl rfl) | (simp only [kept_mk_iff])

theorem migrationEnd_kept {s : State} (b : Nat) (x2 : Nat) (h : Kept n m q o s) :
    Kept n m q o (migrationEnd s b x2) := by
  unfold migrationEnd
  repeat' first
    | (with_reducible assumption) | (with_reducible apply wf_kept) | (with_reducible apply retireBank_kept)
    | (with_reducible apply spareUsed_kept) | (with_reducible apply saveBanks_kept) | (with_reducible apply raise_kept)
    | (with_reducible refine kept_parts ?_ rfl rfl rfl rfl) | (simp only [kept_mk_iff])

theorem poisonRead_kept {s : State} (off : Nat) (x2 : Nat) (tag : Nat) (port : Nat) (h : Kept n m q o s) :
    Kept n m q o (poisonRead s off x2 tag port) := by
  unfold poisonRead
  repeat' first
    | (with_reducible assumption) | (with_reducible apply raise_kept) | (with_reducible apply memFault_kept)
    | (with_reducible refine kept_foldl ?_ ?_; intro _ _ _)

theorem spareBankOut_kept {s : State} (b : Nat) (h : Kept n m q o s) :
    Kept n m q o (spareBankOut s b) := by
  unfold spareBankOut
  repeat' first
    | (with_reducible assumption) | (with_reducible apply wf_kept) | (with_reducible apply retireBank_kept)
    | (with_reducible apply readmit_kept) | (with_reducible apply saveBanks_kept) | (with_reducible apply raise_kept)
    | (with_reducible apply kept_ite) | (with_reducible refine kept_parts ?_ rfl rfl rfl rfl) | (simp only [kept_mk_iff]) | split

theorem sramRead_kept {s : State} (x1 : Master) (tag : Nat) (ring : Option Nat) (port : Nat) (off : Nat) (x6 : Nat) (h : Kept n m q o s) :
    Kept n m q o (sramRead s x1 tag ring port off x6).2.2 := by
  unfold sramRead
  repeat' first
    | (with_reducible assumption) | (with_reducible apply firewall_kept) | (with_reducible apply poisonRead_kept)
    | (with_reducible apply kept_ite_trd)

/-- A store to the SRAM keeps its canonical form. -/
theorem sramStore_wf {s : State} (off : Nat) (b : List Byte) (h : Memory.wf s.mem.data = true) :
    Memory.wf (sramStore s off b).mem.data = true := by
  unfold sramStore
  exact memory_wf_foldl (fun d x hd => memory_wf_put _ _ hd)
    (memory_wf_foldl (fun d x hd => memory_wf_foldl (fun d y hd => memory_wf_put _ _ hd) hd) h)

theorem sramStore_kept {s : State} (off : Nat) (b : List Byte) (h : Kept n m q o s) : Kept n m q o (sramStore s off b) :=
  data_kept _ (sramStore_wf off b h.inv.memory) h

theorem sramWriteBy_kept {s : State} (x1 : Master) (tag : Nat) (ring : Option Nat) (off : Nat) (b : List Byte) (h : Kept n m q o s) :
    Kept n m q o (sramWriteBy s x1 tag ring off b).2 := by
  unfold sramWriteBy
  repeat' first
    | (with_reducible assumption) | (with_reducible apply firewall_kept) | (with_reducible apply sramStore_kept)
    | (with_reducible apply kept_ite_snd)

/-! ## PathOps -/

theorem State_setBuf_kept {s : State} (b : Nat) (x : CapBuf) (h : Kept n m q o s) :
    Kept n m q o (State.setBuf s b x) := by
  unfold State.setBuf
  repeat' first | (with_reducible assumption) | (with_reducible refine kept_parts ?_ rfl rfl rfl rfl) | (simp only [kept_mk_iff])

theorem State_setConv_kept {s : State} (k : Nat) (x : Conv) (h : Kept n m q o s) :
    Kept n m q o (State.setConv s k x) := by
  unfold State.setConv
  repeat' first | (with_reducible assumption) | (with_reducible refine kept_parts ?_ rfl rfl rfl rfl) | (simp only [kept_mk_iff])

theorem State_setDac_kept {s : State} (d : Nat) (x : DacCells) (h : Kept n m q o s) :
    Kept n m q o (State.setDac s d x) := by
  unfold State.setDac
  repeat' first | (with_reducible assumption) | (with_reducible refine kept_parts ?_ rfl rfl rfl rfl) | (simp only [kept_mk_iff])

theorem State_setFe_kept {s : State} (p : Nat) (x : PathFe) (h : Kept n m q o s) :
    Kept n m q o (State.setFe s p x) := by
  unfold State.setFe
  repeat' first | (with_reducible assumption) | (with_reducible refine kept_parts ?_ rfl rfl rfl rfl) | (simp only [kept_mk_iff])

theorem State_setOrx_kept {s : State} (r : Nat) (x : Orx) (h : Kept n m q o s) :
    Kept n m q o (State.setOrx s r x) := by
  unfold State.setOrx
  repeat' first | (with_reducible assumption) | (with_reducible refine kept_parts ?_ rfl rfl rfl rfl) | (simp only [kept_mk_iff])

theorem State_setSyn_kept {s : State} (x1 : Nat) (x : Syn) (h : Kept n m q o s) :
    Kept n m q o (State.setSyn s x1 x) := by
  unfold State.setSyn
  repeat' first | (with_reducible assumption) | (with_reducible refine kept_parts ?_ rfl rfl rfl rfl) | (simp only [kept_mk_iff])

theorem discardCapture_kept {s : State} (p : Nat) (b : Nat) (h : Kept n m q o s) :
    Kept n m q o (discardCapture s p b) := by
  unfold discardCapture
  repeat' first | (with_reducible assumption) | (with_reducible apply raise_kept) | (with_reducible apply statPath_kept)

theorem openCapture_kept {s : State} (p : Nat) (st : Nat) (b : Nat) (x4 : Nat) (src : Nat) (h : Kept n m q o s) :
    Kept n m q o (openCapture s p st b x4 src) := by
  unfold openCapture
  repeat' first
    | (with_reducible assumption) | (with_reducible apply discardCapture_kept) | (with_reducible apply State_setBuf_kept)
    | (with_reducible apply wf_kept) | (with_reducible apply kept_ite) | (with_reducible refine kept_parts ?_ rfl rfl rfl rfl)
    | (simp only [kept_mk_iff])

theorem openDue_kept {s : State} (r : Nat) (h : Kept n m q o s) :
    Kept n m q o (openDue s r) := by
  unfold openDue
  repeat' first
    | (with_reducible assumption) | (with_reducible apply openCapture_kept) | (with_reducible apply State_setOrx_kept)
    | (with_reducible apply State_setBuf_kept) | (with_reducible apply kept_ite) | (simp only [kept_mk_iff]) | split

theorem abortVisit_kept {s' : State} (r : Nat) (h : Kept n m q o s') :
    Kept n m q o (abortVisit s' r) := by
  unfold abortVisit
  repeat' first
    | (with_reducible assumption) | (with_reducible apply openDue_kept) | (with_reducible apply State_setOrx_kept)
    | (with_reducible apply wf_kept) | (with_reducible apply State_setBuf_kept) | (with_reducible apply kept_ite)
    | (with_reducible refine kept_parts ?_ rfl rfl rfl rfl) | (simp only [kept_mk_iff]) | split

theorem markSilent_kept {s : State} (p : Nat) (h : Kept n m q o s) :
    Kept n m q o (markSilent s p) := by
  unfold markSilent
  repeat' first | (with_reducible assumption) | (with_reducible apply markIf_kept)

theorem dwellsOff_kept {s : State} (p : Nat) (h : Kept n m q o s) :
    Kept n m q o (dwellsOff s p) := by
  unfold dwellsOff
  repeat' first
    | (with_reducible assumption) | (with_reducible apply State_setDac_kept) | (with_reducible apply kept_ite)
    | (with_reducible refine kept_foldl ?_ ?_; intro _ _ _)

theorem truncCapture_kept {s : State} (p : Nat) (h : Kept n m q o s) :
    Kept n m q o (truncCapture s p) := by
  unfold truncCapture
  repeat' first
    | (with_reducible assumption) | (with_reducible apply State_setBuf_kept) | (with_reducible apply kept_ite) | (simp only [kept_mk_iff])
    | split

theorem clockConv_kept {s : State} (k : Nat) (h : Kept n m q o s) :
    Kept n m q o (clockConv s k) := by
  unfold clockConv
  repeat' first | (with_reducible assumption) | (with_reducible apply State_setConv_kept) | (simp only [kept_mk_iff]) | split

theorem clockPath_kept {s : State} (p : Nat) (h : Kept n m q o s) :
    Kept n m q o (clockPath s p) := by
  unfold clockPath
  repeat' first | (with_reducible assumption) | (with_reducible apply clockConv_kept)

theorem gainChanged_kept {s : State} (p : Nat) (h : Kept n m q o s) :
    Kept n m q o (gainChanged s p) := by
  unfold gainChanged
  repeat' first | (with_reducible assumption) | (with_reducible refine kept_parts ?_ rfl rfl rfl rfl) | (simp only [kept_mk_iff])

theorem setInput_kept {s : State} (p : Nat) (i : RxInput) (h : Kept n m q o s) :
    Kept n m q o (setInput s p i) := by
  unfold setInput
  repeat' first
    | (with_reducible assumption) | (with_reducible apply State_setBuf_kept) | (with_reducible apply clockPath_kept)
    | (with_reducible apply gainChanged_kept) | (with_reducible apply kept_ite) | (with_reducible refine kept_parts ?_ rfl rfl rfl rfl)
    | (simp only [kept_mk_iff]) | split

theorem startTurnAt_kept {s : State} (p : Nat) (ph : PinPhase) (start : Nat) (h : Kept n m q o s) :
    Kept n m q o (startTurnAt s p ph start) := by
  unfold startTurnAt
  repeat' first
    | (with_reducible assumption) | (with_reducible apply truncCapture_kept) | (with_reducible apply State_setFe_kept)
    | (with_reducible apply setInput_kept) | (with_reducible apply kept_ite) | (simp only [kept_mk_iff]) | split

theorem startTurn_kept {s : State} (p : Nat) (ph : PinPhase) (h : Kept n m q o s) :
    Kept n m q o (startTurn s p ph) := by
  unfold startTurn
  repeat' first | (with_reducible assumption) | (with_reducible apply startTurnAt_kept)

theorem pathOff_kept {s : State} (p : Nat) (h : Kept n m q o s) :
    Kept n m q o (pathOff s p) := by
  unfold pathOff
  repeat' first
    | (with_reducible assumption) | (with_reducible apply markSilent_kept) | (with_reducible apply dwellsOff_kept)
    | (with_reducible apply startTurn_kept) | (with_reducible apply kept_ite) | (with_reducible refine kept_parts ?_ rfl rfl rfl rfl)
    | (simp only [kept_mk_iff])

theorem allPathsOff_kept {s : State} (h : Kept n m q o s) :
    Kept n m q o (allPathsOff s) := by
  unfold allPathsOff
  repeat' first | (with_reducible assumption) | (with_reducible apply pathOff_kept) | (with_reducible refine kept_foldl ?_ ?_; intro _ _ _)

theorem blankSymbols_kept {s : State} (p : Nat) (x2 : Nat) (h : Kept n m q o s) :
    Kept n m q o (blankSymbols s p x2) := by
  unfold blankSymbols
  repeat' first
    | (with_reducible assumption) | (with_reducible apply markSilent_kept) | (with_reducible apply State_setFe_kept)
    | (with_reducible apply statPath_kept) | (with_reducible apply raise_kept) | (with_reducible apply kept_ite)

theorem txLost_kept {s : State} (h : Kept n m q o s) :
    Kept n m q o (txLost s) := by
  unfold txLost
  repeat' first
    | (with_reducible assumption) | (with_reducible apply markSpan_kept) | (with_reducible apply kept_ite)
    | (with_reducible refine kept_parts ?_ rfl rfl rfl rfl) | (simp only [kept_mk_iff])

theorem txDrop_kept {s : State} (h : Kept n m q o s) :
    Kept n m q o (txDrop s) := by
  unfold txDrop
  repeat' first
    | (with_reducible assumption) | (with_reducible apply blankSymbols_kept) | (with_reducible apply txLost_kept)
    | (with_reducible apply kept_ite) | (with_reducible refine kept_foldl ?_ ?_; intro _ _ _)

theorem rxDrop_kept {s : State} (h : Kept n m q o s) :
    Kept n m q o (rxDrop s) := by
  unfold rxDrop
  repeat' first
    | (with_reducible assumption) | (with_reducible apply markSpan_kept) | (with_reducible apply kept_ite)
    | (with_reducible refine kept_parts ?_ rfl rfl rfl rfl) | (simp only [kept_mk_iff])

theorem trunkDrop_kept {s : State} (x1 : Nat) (h : Kept n m q o s) :
    Kept n m q o (trunkDrop s x1) := by
  unfold trunkDrop
  repeat' first
    | (with_reducible assumption) | (with_reducible apply txDrop_kept) | (with_reducible apply rxDrop_kept)
    | (with_reducible apply kept_ite)

theorem synHoldover_kept {s : State} (x1 : Nat) (h : Kept n m q o s) :
    Kept n m q o (synHoldover s x1) := by
  unfold synHoldover
  repeat' first
    | (with_reducible assumption) | (with_reducible apply raise_kept) | (with_reducible apply State_setSyn_kept)
    | (with_reducible apply trunkDrop_kept) | (with_reducible apply kept_ite) | (simp only [kept_mk_iff]) | split

theorem tuneWord_kept {s : State} (x1 : Nat) (preset : Nat) (w : Nat) (h : Kept n m q o s) :
    Kept n m q o (tuneWord s x1 preset w) := by
  unfold tuneWord
  repeat' first
    | (with_reducible assumption) | (with_reducible apply State_setSyn_kept) | (with_reducible apply trunkDrop_kept)
    | (with_reducible apply synHoldover_kept) | (with_reducible apply kept_ite)

theorem applyForced_kept {s : State} (x1 : Nat) (h : Kept n m q o s) :
    Kept n m q o (applyForced s x1) := by
  unfold applyForced
  repeat' first
    | (with_reducible assumption) | (with_reducible apply tuneWord_kept) | (with_reducible refine kept_parts ?_ rfl rfl rfl rfl)
    | (simp only [kept_mk_iff]) | split

theorem attApplies_kept {s : State} (p : Nat) (ps : PathState) (h : Kept n m q o s) :
    Kept n m q o (attApplies s p ps) := by
  unfold attApplies
  repeat' first
    | (with_reducible assumption) | (with_reducible apply kept_ite) | (with_reducible refine kept_parts ?_ rfl rfl rfl rfl)
    | (simp only [kept_mk_iff])

theorem clockAll_kept {s : State} (h : Kept n m q o s) :
    Kept n m q o (clockAll s) := by
  unfold clockAll
  repeat' first
    | (with_reducible assumption) | (with_reducible apply clockConv_kept) | (with_reducible refine kept_foldl ?_ ?_; intro _ _ _)

theorem retune_kept {s : State} (x1 : Nat) (preset : Nat) (w : Nat) (h : Kept n m q o s) :
    Kept n m q o (retune s x1 preset w) := by
  unfold retune
  repeat' first
    | (with_reducible assumption) | (with_reducible apply tuneWord_kept) | (with_reducible apply kept_ite)
    | (with_reducible refine kept_parts ?_ rfl rfl rfl rfl) | (simp only [kept_mk_iff])

theorem commitTune_kept {s : State} (x1 : Nat) (preset : Nat) (w : Nat) (h : Kept n m q o s) :
    Kept n m q o (commitTune s x1 preset w) := by
  unfold commitTune
  repeat' first
    | (with_reducible assumption) | (with_reducible apply tuneWord_kept) | (with_reducible apply retune_kept)
    | (with_reducible apply kept_ite)

theorem saveConv_kept {s : State} (k : Nat) (h : Kept n m q o s) :
    Kept n m q o (saveConv s k) := by
  unfold saveConv
  repeat' first | (with_reducible assumption) | (with_reducible refine kept_parts ?_ rfl rfl rfl rfl) | (simp only [kept_mk_iff])

theorem orxFails_kept {s : State} (r : Nat) (h : Kept n m q o s) :
    Kept n m q o (orxFails s r) := by
  unfold orxFails
  repeat' first
    | (with_reducible assumption) | (with_reducible apply State_setOrx_kept) | (with_reducible apply readmit_kept)
    | (with_reducible apply raise_kept) | (with_reducible apply clockConv_kept)

theorem convFails_kept {s : State} (k : Nat) (slice : Nat) (h : Kept n m q o s) :
    Kept n m q o (convFails s k slice) := by
  unfold convFails
  repeat' first
    | (with_reducible assumption) | (with_reducible apply markSpan_kept) | (with_reducible apply saveConv_kept)
    | (with_reducible apply clockConv_kept) | (with_reducible apply State_setConv_kept) | (with_reducible apply failPath_kept)
    | (with_reducible apply raise_kept) | (with_reducible apply orxFails_kept) | (with_reducible apply kept_ite)

theorem openVisits_kept {s : State} (h : Kept n m q o s) :
    Kept n m q o (openVisits s) := by
  unfold openVisits
  repeat' first | (with_reducible assumption) | (with_reducible apply openDue_kept) | (with_reducible refine kept_foldl ?_ ?_; intro _ _ _)

theorem storePieces_kept {s : State} (cl : Nat) (d : Nat) (l : List (Nat × List Byte)) (h : Kept n m q o s) :
    Kept n m q o (storePieces s cl d l) := by
  unfold storePieces
  repeat' first
    | (with_reducible assumption) | (with_reducible apply addrFault_kept) | (with_reducible apply sramWriteBy_kept)
    | (with_reducible apply kept_ite) | (with_reducible refine kept_foldl ?_ ?_; intro _ _ _)

theorem drainCapture_kept {s' : State} (b : Nat) (xs : List Cplx) (zs : List Cplx) (ovr : Bool) (h : Kept n m q o s') :
    Kept n m q o (drainCapture s' b xs zs ovr) := by
  unfold drainCapture
  repeat' first
    | (with_reducible assumption) | (with_reducible apply openVisits_kept) | (with_reducible apply storePieces_kept)
    | (with_reducible apply State_setBuf_kept) | (with_reducible apply wr_kept) | (with_reducible refine kept_parts ?_ rfl rfl rfl rfl)
    | (simp only [kept_mk_iff])

theorem dropEvent_kept {s : State} (h : Kept n m q o s) :
    Kept n m q o (dropEvent s) := by
  unfold dropEvent
  repeat' first
    | (with_reducible assumption) | (with_reducible apply bump_kept) | (with_reducible apply raise_kept) | (with_reducible apply kept_ite)
    | (with_reducible refine kept_parts ?_ rfl rfl rfl rfl) | (simp only [kept_mk_iff])

theorem dwellEnd_kept {s : State} (d : Nat) (trim : Nat) (good : Bool) (h : Kept n m q o s) :
    Kept n m q o (dwellEnd s d trim good) := by
  unfold dwellEnd
  repeat' first
    | (with_reducible assumption) | (with_reducible apply State_setDac_kept) | (with_reducible apply spareUsed_kept)
    | (with_reducible apply raise_kept) | (with_reducible apply kept_ite) | (with_reducible refine kept_parts ?_ rfl rfl rfl rfl)
    | (simp only [kept_mk_iff])

theorem sliceRetired_kept {s : State} (k : Nat) (h : Kept n m q o s) :
    Kept n m q o (sliceRetired s k) := by
  unfold sliceRetired
  repeat' first
    | (with_reducible assumption) | (with_reducible apply spareUsed_kept) | (with_reducible apply saveConv_kept)
    | (with_reducible apply raise_kept)

theorem spurEdge_kept {s : State} (j : Nat) (h : Kept n m q o s) :
    Kept n m q o (spurEdge s j) := by
  unfold spurEdge
  repeat' first | (with_reducible assumption) | (with_reducible apply markIf_kept)

theorem emergencySwap_kept {s : State} (k : Nat) (slice : Nat) (h : Kept n m q o s) :
    Kept n m q o (emergencySwap s k slice) := by
  unfold emergencySwap
  repeat' first
    | (with_reducible assumption) | (with_reducible apply convFails_kept) | (with_reducible apply markSpan_kept)
    | (with_reducible apply State_setConv_kept) | (with_reducible apply raise_kept) | (with_reducible apply sliceRetired_kept)
    | (with_reducible apply spurEdge_kept) | (with_reducible apply clockConv_kept) | (with_reducible apply openVisits_kept)
    | (with_reducible apply statPath_kept) | (with_reducible apply State_setBuf_kept) | (with_reducible apply kept_ite)
    | (simp only [kept_mk_iff]) | split

theorem turnStep_kept {s : State} (p : Nat) (h : Kept n m q o s) :
    Kept n m q o (turnStep s p) := by
  unfold turnStep
  repeat' first
    | (with_reducible assumption) | (with_reducible apply State_setFe_kept) | (with_reducible apply markSilent_kept)
    | (with_reducible apply gainChanged_kept) | (with_reducible apply kept_ite) | (simp only [kept_mk_iff]) | split

theorem finishTurn_kept {s : State} (p : Nat) (h : Kept n m q o s) :
    Kept n m q o (finishTurn s p) := by
  unfold finishTurn
  repeat' first | (with_reducible assumption) | (with_reducible apply turnStep_kept)

theorem enterPathState_kept {s : State} (p : Nat) (h : Kept n m q o s) :
    Kept n m q o (enterPathState s p) := by
  unfold enterPathState
  repeat' first
    | (with_reducible assumption) | (with_reducible apply attApplies_kept) | (with_reducible apply markSilent_kept)
    | (with_reducible apply dwellsOff_kept) | (with_reducible apply setInput_kept) | (with_reducible apply finishTurn_kept)
    | (with_reducible apply startTurnAt_kept) | (with_reducible apply startTurn_kept) | (with_reducible apply kept_ite)
    | (with_reducible refine kept_parts ?_ rfl rfl rfl rfl) | (simp only [kept_mk_iff]) | split

theorem fireEvent_kept {s : State} (k type : Nat) (islands : EvtEntry → List Nat) {act : EvtEntry → State → State}
    (ha : ∀ e t, Kept n m q o t → Kept n m q o (act e t)) (h : Kept n m q o s) :
    Kept n m q o (fireEvent s k type islands act) := by
  unfold fireEvent
  repeat' first
    | (with_reducible assumption) | (with_reducible apply toBoundary_kept) | (with_reducible apply dropEvent_kept)
    | (with_reducible apply ha) | (with_reducible refine kept_foldl ?_ ?_; intro _ _ _) | (simp only [kept_mk_iff]) | split

theorem forceTune_kept {s : State} (x1 : Nat) (preset : Nat) (h : Kept n m q o s) :
    Kept n m q o (forceTune s x1 preset) := by
  unfold forceTune
  repeat' first | (with_reducible assumption) | (with_reducible apply retune_kept)

theorem islandSet_kept {s : State} (i : Nat) (x : Island) (h : Kept n m q o s) :
    Kept n m q o (islandSet s i x) := by
  unfold islandSet
  repeat' first
    | (with_reducible assumption) | (with_reducible apply clockConv_kept) | (with_reducible apply State_setIsland_kept)
    | (with_reducible refine kept_foldl ?_ ?_; intro _ _ _)

theorem lnaChange_kept {s : State} (p : Nat) (byp : Bool) (h : Kept n m q o s) :
    Kept n m q o (lnaChange s p byp) := by
  unfold lnaChange
  repeat' first
    | (with_reducible assumption) | (with_reducible apply State_setFe_kept) | (with_reducible apply reachElapsed_kept)
    | (with_reducible apply gainChanged_kept) | (with_reducible apply kept_ite) | split

theorem releaseBuffer_kept {s' : State} (b : Nat) (h : Kept n m q o s') :
    Kept n m q o (releaseBuffer s' b) := by
  unfold releaseBuffer
  repeat' first
    | (with_reducible assumption) | (with_reducible apply openVisits_kept) | (with_reducible apply wf_kept)
    | (with_reducible apply State_setBuf_kept)

theorem startVisit_kept {s : State} (r : Nat) (path : Nat) (x3 : Nat) (be : Bool) (h : Kept n m q o s) :
    Kept n m q o (startVisit s r path x3 be) := by
  unfold startVisit
  repeat' first
    | (with_reducible assumption) | (with_reducible apply State_setOrx_kept) | (with_reducible refine kept_parts ?_ rfl rfl rfl rfl)
    | (simp only [kept_mk_iff])

theorem requestVisit_kept {s : State} (r : Nat) (path : Nat) (x3 : Nat) (dpd : Bool) (h : Kept n m q o s) :
    Kept n m q o (requestVisit s r path x3 dpd) := by
  unfold requestVisit
  repeat' first
    | (with_reducible assumption) | (with_reducible apply startVisit_kept) | (with_reducible apply abortVisit_kept)
    | (with_reducible apply State_setOrx_kept) | (with_reducible apply raise_kept) | (with_reducible apply bump_kept)
    | (with_reducible apply kept_ite) | split

theorem resumeTx_kept {s : State} (p : Nat) (h : Kept n m q o s) :
    Kept n m q o (resumeTx s p) := by
  unfold resumeTx
  repeat' first | (with_reducible assumption) | (with_reducible apply markSilent_kept) | (with_reducible apply State_setFe_kept)

theorem retireSpare_kept {s : State} (k : Nat) (slice : Nat) (h : Kept n m q o s) :
    Kept n m q o (retireSpare s k slice) := by
  unfold retireSpare
  repeat' first
    | (with_reducible assumption) | (with_reducible apply State_setConv_kept) | (with_reducible apply spurEdge_kept)
    | (with_reducible apply raise_kept) | (with_reducible apply sliceRetired_kept) | (with_reducible apply clockConv_kept)
    | (with_reducible apply convFails_kept) | (simp only [kept_mk_iff]) | split

theorem rxGood_kept {s : State} (h : Kept n m q o s) :
    Kept n m q o (rxGood s) := by
  unfold rxGood
  repeat' first | (with_reducible assumption) | (with_reducible refine kept_parts ?_ rfl rfl rfl rfl) | (simp only [kept_mk_iff])

theorem spurEdges_kept {s : State} (h : Kept n m q o s) :
    Kept n m q o (spurEdges s) := by
  unfold spurEdges
  repeat' first | (with_reducible assumption) | (with_reducible apply spurEdge_kept) | (with_reducible refine kept_foldl ?_ ?_; intro _ _ _)

theorem startExitTurn_kept {s : State} (p : Nat) (h : Kept n m q o s) :
    Kept n m q o (startExitTurn s p) := by
  unfold startExitTurn
  repeat' first
    | (with_reducible assumption) | (with_reducible apply reachCount_kept) | (with_reducible apply setInput_kept)
    | (with_reducible apply State_setFe_kept) | (with_reducible apply kept_ite) | (simp only [kept_mk_iff]) | split

theorem synOff_kept {s : State} (x1 : Nat) (h : Kept n m q o s) :
    Kept n m q o (synOff s x1) := by
  unfold synOff
  repeat' first
    | (with_reducible assumption) | (with_reducible apply State_setSyn_kept) | (with_reducible apply trunkDrop_kept)
    | (with_reducible apply kept_ite)

theorem txGood_kept {s : State} (h : Kept n m q o s) :
    Kept n m q o (txGood s) := by
  unfold txGood
  repeat' first | (with_reducible assumption) | (with_reducible refine kept_parts ?_ rfl rfl rfl rfl) | (simp only [kept_mk_iff])

theorem trunkGood_kept {s : State} (x1 : Nat) (h : Kept n m q o s) :
    Kept n m q o (trunkGood s x1) := by
  unfold trunkGood
  repeat' first
    | (with_reducible assumption) | (with_reducible apply txGood_kept) | (with_reducible apply rxGood_kept)
    | (with_reducible apply kept_ite)

theorem tuneSyn_kept {s : State} (x1 : Nat) (preset : Nat) (h : Kept n m q o s) :
    Kept n m q o (tuneSyn s x1 preset) := by
  unfold tuneSyn
  repeat' first | (with_reducible assumption) | (with_reducible apply tuneWord_kept)

/-! ## RxOps -/

theorem State_setLanes_kept {s : State} (c : Nat) (x : Lanes) (h : Kept n m q o s) :
    Kept n m q o (State.setLanes s c x) := by
  unfold State.setLanes
  repeat' first | (with_reducible assumption) | (with_reducible refine kept_parts ?_ rfl rfl rfl rfl) | (simp only [kept_mk_iff])

theorem State_setRxg_kept {s : State} (p : Nat) (x : Rxg) (h : Kept n m q o s) :
    Kept n m q o (State.setRxg s p x) := by
  unfold State.setRxg
  repeat' first | (with_reducible assumption) | (with_reducible refine kept_parts ?_ rfl rfl rfl rfl) | (simp only [kept_mk_iff])

theorem setAtt_kept {s : State} (p : Nat) (att : Nat) (h : Kept n m q o s) :
    Kept n m q o (setAtt s p att) := by
  unfold setAtt
  repeat' first
    | (with_reducible assumption) | (with_reducible apply gainChanged_kept) | (with_reducible apply State_setRxg_kept)
    | (with_reducible apply kept_ite) | (with_reducible refine kept_parts ?_ rfl rfl rfl rfl) | (simp only [kept_mk_iff])

theorem attack_kept {s : State} (p : Nat) (h : Kept n m q o s) :
    Kept n m q o (attack s p) := by
  unfold attack
  repeat' first
    | (with_reducible assumption) | (with_reducible apply setAtt_kept) | (with_reducible apply State_setRxg_kept)
    | (with_reducible apply raise_kept) | (with_reducible apply bumpField_kept)

theorem coefWrite_kept {s : State} (tag : Nat) (c : Nat) (k : Nat) (x4 : Nat) (i : Nat) (value : Nat) (tx : Bool) (h : Kept n m q o s) :
    Kept n m q o (coefWrite s tag c k x4 i value tx) := by
  unfold coefWrite
  repeat' first
    | (with_reducible assumption) | (with_reducible apply firewall_kept) | (with_reducible apply raise_kept)
    | (with_reducible apply setFlag_kept) | (with_reducible apply kept_ite) | (with_reducible refine kept_parts ?_ rfl rfl rfl rfl)
    | (simp only [kept_mk_iff])

theorem rollClusters_rollMoveNone_kept {s : State} (c : Nat) (h : Kept n m q o s) :
    Kept n m q o (rollClusters.rollMoveNone s c) := by
  unfold rollClusters.rollMoveNone
  repeat' first
    | (with_reducible assumption) | (with_reducible apply raise_kept) | (with_reducible apply State_setLanes_kept)
    | (with_reducible apply kept_ite)

theorem rollChannel_kept {s : State} (lane : Nat) (ch : Nat) (h : Kept n m q o s) :
    Kept n m q o (rollChannel s lane ch) := by
  unfold rollChannel
  repeat' first
    | (with_reducible assumption) | (with_reducible apply kept_ite) | (with_reducible refine kept_parts ?_ rfl rfl rfl rfl)
    | (simp only [kept_mk_iff])

theorem loadSpare_kept {s : State} (chans : List Nat) (c : Nat) (h : Kept n m q o s) :
    Kept n m q o (loadSpare s chans c) := by
  unfold loadSpare
  repeat' first
    | (with_reducible assumption) | (with_reducible apply rollChannel_kept) | (with_reducible refine kept_foldl ?_ ?_; intro _ _ _)
    | split

theorem laneRollSwitch_kept {s : State} (j : Nat) (c : Nat) (h : Kept n m q o s) :
    Kept n m q o (laneRollSwitch s j c) := by
  unfold laneRollSwitch
  repeat' first
    | (with_reducible assumption) | (with_reducible apply raise_kept) | (with_reducible apply State_setLanes_kept)
    | (simp only [kept_mk_iff]) | split

theorem laneRollMove_kept (cs : List Nat) (chans : List Nat) {s : State} (j : Nat) (h : Kept n m q o s) :
    Kept n m q o (laneRollMove cs chans s j) := by
  unfold laneRollMove
  repeat' first
    | (with_reducible assumption) | (with_reducible apply loadSpare_kept) | (with_reducible apply reachCount_kept)
    | (with_reducible apply reachElapsed_kept) | (with_reducible apply laneRollSwitch_kept)
    | (with_reducible refine kept_foldl ?_ ?_; intro _ _ _)

theorem rollClusters_kept (cs : List Nat) (chans : List Nat) {s : State} (h : Kept n m q o s) :
    Kept n m q o (rollClusters cs chans s) := by
  unfold rollClusters
  repeat' first
    | (with_reducible assumption) | (with_reducible apply rollClusters_rollMoveNone_kept) | (with_reducible apply laneRollMove_kept)
    | (with_reducible apply loadSpare_kept) | (with_reducible refine kept_foldl ?_ ?_; intro _ _ _)

theorem retireLane_kept {s : State} (c : Nat) (k : Nat) (h : Kept n m q o s) :
    Kept n m q o (retireLane s c k) := by
  unfold retireLane
  repeat' first
    | (with_reducible assumption) | (with_reducible apply State_setLanes_kept) | (with_reducible apply spareUsed_kept)
    | (with_reducible apply subDown_kept) | (with_reducible refine kept_parts ?_ rfl rfl rfl rfl) | (simp only [kept_mk_iff])

theorem requestMove_kept {s : State} (c : Nat) (j : Nat) (fault : Bool) (h : Kept n m q o s) :
    Kept n m q o (requestMove s c j fault) := by
  unfold requestMove
  repeat' first
    | (with_reducible assumption) | (with_reducible apply State_setLanes_kept) | (with_reducible apply raise_kept)
    | (with_reducible apply kept_ite)

theorem nextFault_kept {s : State} (c : Nat) (h : Kept n m q o s) :
    Kept n m q o (nextFault s c) := by
  unfold nextFault
  repeat' first
    | (with_reducible assumption) | (with_reducible apply State_setLanes_kept) | (with_reducible apply failPath_kept)
    | (with_reducible apply retireLane_kept) | (with_reducible apply requestMove_kept) | (with_reducible apply kept_ite)
    | (simp only [kept_mk_iff]) | split

theorem coefficientRoll_kept {s : State} (h : Kept n m q o s) :
    Kept n m q o (coefficientRoll s) := by
  unfold coefficientRoll
  repeat' first
    | (with_reducible assumption) | (with_reducible apply rollClusters_kept) | (with_reducible apply raise_kept)
    | (with_reducible apply nextFault_kept) | (with_reducible apply kept_ite) | (with_reducible refine kept_foldl ?_ ?_; intro _ _ _)
    | (with_reducible refine kept_parts ?_ rfl rfl rfl rfl) | (simp only [kept_mk_iff])

theorem limiterBypass_kept {s : State} (p : Nat) (h : Kept n m q o s) :
    Kept n m q o (limiterBypass s p) := by
  unfold limiterBypass
  repeat' first
    | (with_reducible assumption) | (with_reducible apply bumpField_kept) | (with_reducible apply State_setRxg_kept)
    | (with_reducible apply raise_kept) | (with_reducible apply lnaChange_kept) | (with_reducible apply kept_ite)

theorem fastEstimate_kept {s : State} (p : Nat) (est : Int) (ref : Int) (ovr : Nat) (ovrNew : Nat) (h : Kept n m q o s) :
    Kept n m q o (fastEstimate s p est ref ovr ovrNew) := by
  unfold fastEstimate
  repeat' first
    | (with_reducible assumption) | (with_reducible apply bump_kept) | (with_reducible apply State_setRxg_kept)
    | (with_reducible apply limiterBypass_kept) | (with_reducible apply attack_kept) | (with_reducible apply kept_ite)

theorem laneSwitch_kept {s : State} (c : Nat) (differ : Bool) (h : Kept n m q o s) :
    Kept n m q o (laneSwitch s c differ) := by
  unfold laneSwitch
  repeat' first
    | (with_reducible assumption) | (with_reducible apply nextFault_kept) | (with_reducible apply State_setLanes_kept)
    | (with_reducible apply raise_kept) | (with_reducible apply retireLane_kept) | (with_reducible apply markOff_kept)
    | (with_reducible apply kept_ite) | (with_reducible refine kept_parts ?_ rfl rfl rfl rfl) | (simp only [kept_mk_iff]) | split

theorem requestSync_kept {s : State} (t : Nat) (h : Kept n m q o s) :
    Kept n m q o (requestSync s t) := by
  unfold requestSync
  repeat' first | (with_reducible assumption) | (with_reducible refine kept_parts ?_ rfl rfl rfl rfl) | (simp only [kept_mk_iff])

theorem restartWarm_kept {s : State} (c : Nat) (h : Kept n m q o s) :
    Kept n m q o (restartWarm s c) := by
  unfold restartWarm
  repeat' first | (with_reducible assumption) | (with_reducible apply State_setLanes_kept) | (with_reducible apply kept_ite)

theorem rxSat_kept {s : State} (p : Nat) (x2 : Nat) (h : Kept n m q o s) :
    Kept n m q o (rxSat s p x2) := by
  unfold rxSat
  repeat' first
    | (with_reducible assumption) | (with_reducible apply raise_kept) | (with_reducible apply bump_kept) | (with_reducible apply kept_ite)

theorem syncWrite_kept {s : State} (h : Kept n m q o s) :
    Kept n m q o (syncWrite s) := by
  unfold syncWrite
  repeat' first | (with_reducible assumption) | (with_reducible apply requestSync_kept) | (with_reducible apply wbit_kept)

theorem toCommon_kept {s : State} (key : Nat) (inst : Nat) (h : Kept n m q o s) :
    Kept n m q o (toCommon s key inst) := by
  unfold toCommon
  repeat' first | (with_reducible assumption) | (with_reducible apply toBoundary_kept)

/-! ## BeamOps -/

theorem State_setWset_kept {s : State} (cc : Nat) (d : Nat) (x : WSet) (h : Kept n m q o s) :
    Kept n m q o (State.setWset s cc d x) := by
  unfold State.setWset
  repeat' first | (with_reducible assumption) | (with_reducible refine kept_parts ?_ rfl rfl rfl rfl) | (simp only [kept_mk_iff])

theorem arrayMargin_kept {s : State} (h : Kept n m q o s) :
    Kept n m q o (arrayMargin s) := by
  unfold arrayMargin
  repeat' first
    | (with_reducible assumption) | (with_reducible apply condOn_kept) | (with_reducible apply condOff_kept)
    | (with_reducible apply kept_ite)

theorem countRun_kept {s : State} (cc : Nat) (x : Sel) (sats : Nat) (h : Kept n m q o s) :
    Kept n m q o (countRun s cc x sats) := by
  unfold countRun
  repeat' first
    | (with_reducible assumption) | (with_reducible apply firewall_kept) | (with_reducible apply raise_kept)
    | (with_reducible apply stat_kept) | (with_reducible apply bump_kept) | (with_reducible apply kept_ite)
    | (with_reducible refine kept_foldl ?_ ?_; intro _ _ _)

theorem dlRun_kept {s : State} (cc : Nat) (air : Nat) (a : Arm) (h : Kept n m q o s) :
    Kept n m q o (dlRun s cc air a) := by
  unfold dlRun
  repeat' first
    | (with_reducible assumption) | (with_reducible apply raise_kept) | (with_reducible apply stat_kept)
    | (with_reducible apply countRun_kept) | (with_reducible refine kept_foldl ?_ ?_; intro _ _ _)
    | (with_reducible refine kept_parts ?_ rfl rfl rfl rfl) | (simp only [kept_mk_iff])

theorem dropRe_kept {s : State} (cc : Nat) (tick : Nat) (h : Kept n m q o s) :
    Kept n m q o (dropRe s cc tick) := by
  unfold dropRe
  repeat' first | (with_reducible assumption) | (with_reducible refine kept_parts ?_ rfl rfl rfl rfl) | (simp only [kept_mk_iff])

theorem healClear_kept {s : State} (p : Nat) (h : Kept n m q o s) :
    Kept n m q o (healClear s p) := by
  unfold healClear
  repeat' first
    | (with_reducible assumption) | (with_reducible apply kept_ite) | (with_reducible refine kept_parts ?_ rfl rfl rfl rfl)
    | (simp only [kept_mk_iff])

theorem storeVec_kept {s : State} (cc : Nat) (a : Nat) (w : List Nat) (h : Kept n m q o s) :
    Kept n m q o (storeVec s cc a w) := by
  unfold storeVec
  repeat' first
    | (with_reducible assumption) | (with_reducible apply firewall_kept) | (with_reducible apply sramStore_kept)
    | (with_reducible apply kept_ite)

theorem landVector_kept {s : State} (v : Landing) (collide : Bool) (h : Kept n m q o s) :
    Kept n m q o (landVector s v collide) := by
  unfold landVector
  repeat' first
    | (with_reducible assumption) | (with_reducible apply storeVec_kept) | (with_reducible apply raise_kept)
    | (with_reducible apply bumpField_kept) | (with_reducible apply State_setWset_kept) | (with_reducible apply kept_ite)
    | (with_reducible refine kept_parts ?_ rfl rfl rfl rfl) | (simp only [kept_mk_iff])

theorem prachCombine_kept {s : State} (j : Nat) (h : Kept n m q o s) :
    Kept n m q o (prachCombine s j) := by
  unfold prachCombine
  repeat' first
    | (with_reducible assumption) | (with_reducible apply reachElapsed_kept) | (with_reducible apply countRun_kept)
    | (with_reducible apply kept_ite) | (with_reducible refine kept_parts ?_ rfl rfl rfl rfl) | (simp only [kept_mk_iff])

theorem rejectBlock_kept {s : State} (cc : Nat) (foreign : Bool) (tag : Nat) (h : Kept n m q o s) :
    Kept n m q o (rejectBlock s cc foreign tag) := by
  unfold rejectBlock
  repeat' first
    | (with_reducible assumption) | (with_reducible apply raise_kept) | (with_reducible apply bump_kept)
    | (with_reducible apply firewall_kept) | (with_reducible apply kept_ite)

theorem resynthDone_kept {s : State} (h : Kept n m q o s) :
    Kept n m q o (resynthDone s) := by
  unfold resynthDone
  repeat' first
    | (with_reducible assumption) | (with_reducible apply storeVec_kept) | (with_reducible apply raise_kept)
    | (with_reducible apply kept_ite) | (with_reducible refine kept_foldl ?_ ?_; intro _ _ _)
    | (with_reducible refine kept_parts ?_ rfl rfl rfl rfl) | (simp only [kept_mk_iff])

theorem tileFail_kept {s : State} (t : Nat) (h : Kept n m q o s) :
    Kept n m q o (tileFail s t) := by
  unfold tileFail
  repeat' first
    | (with_reducible assumption) | (with_reducible apply spareUsed_kept) | (with_reducible apply raise_kept)
    | (with_reducible apply subDown_kept) | (with_reducible apply readmit_kept) | (with_reducible apply kept_ite)
    | (with_reducible refine kept_foldl ?_ ?_; intro _ _ _) | (with_reducible refine kept_parts ?_ rfl rfl rfl rfl)
    | (simp only [kept_mk_iff])

theorem ulRun_kept {s : State} (cc : Nat) (start : Nat) (tick : Nat) (a : Arm) (h : Kept n m q o s) :
    Kept n m q o (ulRun s cc start tick a) := by
  unfold ulRun
  repeat' first
    | (with_reducible assumption) | (with_reducible apply countRun_kept) | (with_reducible apply kept_ite)
    | (with_reducible refine kept_parts ?_ rfl rfl rfl rfl) | (simp only [kept_mk_iff])

theorem weightBlock_kept {s : State} (tenant : Option Nat) (b : List Byte) (h : Kept n m q o s) :
    Kept n m q o (weightBlock s tenant b) := by
  unfold weightBlock
  repeat' first
    | (with_reducible assumption) | (with_reducible apply rejectBlock_kept) | (with_reducible apply kept_ite)
    | (with_reducible refine kept_parts ?_ rfl rfl rfl rfl) | (simp only [kept_mk_iff])

/-! ## DpdOps -/

theorem State_setDpd_kept {s : State} (p : Nat) (x : Dpd) (h : Kept n m q o s) :
    Kept n m q o (State.setDpd s p x) := by
  unfold State.setDpd
  repeat' first | (with_reducible assumption) | (with_reducible refine kept_parts ?_ rfl rfl rfl rfl) | (simp only [kept_mk_iff])

theorem bankReject_kept {s : State} (p : Nat) (tag : Nat) (h : Kept n m q o s) :
    Kept n m q o (bankReject s p tag) := by
  unfold bankReject
  repeat' first
    | (with_reducible assumption) | (with_reducible apply raise_kept) | (with_reducible apply bump_kept)
    | (with_reducible apply firewall_kept) | (with_reducible apply kept_ite)

theorem makePending_kept {s : State} (p : Nat) (h : Kept n m q o s) :
    Kept n m q o (makePending s p) := by
  unfold makePending
  repeat' first
    | (with_reducible assumption) | (with_reducible apply kept_ite) | (with_reducible refine kept_parts ?_ rfl rfl rfl rfl)
    | (simp only [kept_mk_iff])

theorem divergence_kept {s : State} (p : Nat) (h : Kept n m q o s) :
    Kept n m q o (divergence s p) := by
  unfold divergence
  repeat' first | (with_reducible assumption) | (with_reducible apply State_setDpd_kept) | (simp only [kept_mk_iff]) | split

theorem countWindow_kept {s : State} (p : Nat) (ew : Int) (h : Kept n m q o s) :
    Kept n m q o (countWindow s p ew) := by
  unfold countWindow
  repeat' first
    | (with_reducible assumption) | (with_reducible apply State_setDpd_kept) | (with_reducible apply makePending_kept)
    | (with_reducible apply divergence_kept) | (with_reducible apply kept_ite)

theorem setStale_kept {s : State} (p : Nat) (cause : Nat) (b : Bool) (h : Kept n m q o s) :
    Kept n m q o (setStale s p cause b) := by
  unfold setStale
  repeat' first
    | (with_reducible assumption) | (with_reducible apply markIf_kept) | (with_reducible apply State_setDpd_kept)
    | (with_reducible apply raise_kept) | (with_reducible apply kept_ite)

theorem dpdReturns_kept {s : State} (p : Nat) (h : Kept n m q o s) :
    Kept n m q o (dpdReturns s p) := by
  unfold dpdReturns
  repeat' first | (with_reducible assumption) | (with_reducible apply setStale_kept) | (with_reducible apply State_setDpd_kept)

theorem endRound_kept {s : State} (h : Kept n m q o s) :
    Kept n m q o (endRound s) := by
  unfold endRound
  repeat' first
    | (with_reducible assumption) | (with_reducible apply kept_ite) | (with_reducible refine kept_parts ?_ rfl rfl rfl rfl)
    | (simp only [kept_mk_iff])

theorem refuseHo_kept {s : State} (p : Nat) (result : Nat) (h : Kept n m q o s) :
    Kept n m q o (refuseHo s p result) := by
  unfold refuseHo
  repeat' first | (with_reducible assumption) | (with_reducible apply raise_kept) | (with_reducible apply State_setDpd_kept)

theorem hoCheckDone_kept {s : State} (p : Nat) (h : Kept n m q o s) :
    Kept n m q o (hoCheckDone s p) := by
  unfold hoCheckDone
  repeat' first
    | (with_reducible assumption) | (with_reducible apply refuseHo_kept) | (with_reducible apply State_setDpd_kept)
    | (with_reducible apply setStale_kept) | (with_reducible apply kept_ite)

theorem jobRequestCapture_kept {s : State} (p : Nat) (h : Kept n m q o s) :
    Kept n m q o (jobRequestCapture s p) := by
  unfold jobRequestCapture
  repeat' first
    | (with_reducible assumption) | (with_reducible apply startVisit_kept) | (with_reducible apply openCapture_kept)
    | (with_reducible apply reachCount_kept) | (with_reducible apply kept_ite)

theorem requestHo_kept {s : State} (p : Nat) (h : Kept n m q o s) :
    Kept n m q o (requestHo s p) := by
  unfold requestHo
  repeat' first
    | (with_reducible assumption) | (with_reducible apply refuseHo_kept) | (with_reducible apply State_setDpd_kept)
    | (with_reducible apply kept_ite)

theorem staleAndPending_kept {s : State} (p : Nat) (cause : Nat) (h : Kept n m q o s) :
    Kept n m q o (staleAndPending s p cause) := by
  unfold staleAndPending
  repeat' first | (with_reducible assumption) | (with_reducible apply makePending_kept) | (with_reducible apply setStale_kept)

theorem thermalUpdate_kept {s : State} (p : Nat) (msq : Nat) (mabs : Nat) (h : Kept n m q o s) :
    Kept n m q o (thermalUpdate s p msq mabs) := by
  unfold thermalUpdate
  repeat' first
    | (with_reducible assumption) | (with_reducible apply State_setDpd_kept) | (with_reducible apply setStale_kept)
    | (with_reducible apply kept_ite)

end Sys2Proof.Machine
end

