-- ==== Sys2Proof/Laws/KeptUnits.lean ====
section
/-! SUPPORT. What `Kept` passes through: housekeeping, memory, engines, calibration, link, security, service life and power. -/

namespace Sys2Proof.Machine

variable {n m : Nat} {q : List Instr} {o : List OutMsg}

/-! ## HkOps -/

theorem State_setAmp_kept {s : State} (a : Nat) (x : Amp) (h : Kept n m q o s) :
    Kept n m q o (State.setAmp s a x) := by
  unfold State.setAmp
  repeat' first | (with_reducible assumption) | (with_reducible refine kept_parts ?_ rfl rfl rfl rfl) | (simp only [kept_mk_iff])

theorem State_setBias_kept {s : State} (c : Nat) (x : Bias) (h : Kept n m q o s) :
    Kept n m q o (State.setBias s c x) := by
  unfold State.setBias
  repeat' first | (with_reducible assumption) | (with_reducible refine kept_parts ?_ rfl rfl rfl rfl) | (simp only [kept_mk_iff])

theorem State_setFan_kept {s : State} (x1 : Nat) (x : Fan) (h : Kept n m q o s) :
    Kept n m q o (State.setFan s x1 x) := by
  unfold State.setFan
  repeat' first | (with_reducible assumption) | (with_reducible refine kept_parts ?_ rfl rfl rfl rfl) | (simp only [kept_mk_iff])

theorem State_setMon_kept {s : State} (x1 : Nat) (x : Mon) (h : Kept n m q o s) :
    Kept n m q o (State.setMon s x1 x) := by
  unfold State.setMon
  repeat' first | (with_reducible assumption) | (with_reducible refine kept_parts ?_ rfl rfl rfl rfl) | (simp only [kept_mk_iff])

theorem allDrainsFall_kept {s : State} (h : Kept n m q o s) :
    Kept n m q o (allDrainsFall s) := by
  unfold allDrainsFall
  repeat' first | (with_reducible assumption) | (with_reducible apply wr_kept)

theorem strobeUndone_kept {s : State} (c : Nat) (h : Kept n m q o s) :
    Kept n m q o (strobeUndone s c) := by
  unfold strobeUndone
  repeat' first
    | (with_reducible assumption) | (with_reducible apply wr_kept) | (with_reducible apply State_setBias_kept)
    | (with_reducible apply kept_ite)

theorem drainFall_kept {s : State} (a : Nat) (h : Kept n m q o s) :
    Kept n m q o (drainFall s a) := by
  unfold drainFall
  repeat' first | (with_reducible assumption) | (with_reducible apply wbit_kept)

theorem ampFault_kept {s : State} (a : Nat) (cause : Nat) (h : Kept n m q o s) :
    Kept n m q o (ampFault s a cause) := by
  unfold ampFault
  repeat' first
    | (with_reducible assumption) | (with_reducible apply strobeUndone_kept) | (with_reducible apply wbit_kept)
    | (with_reducible apply setFlag_kept) | (with_reducible apply drainFall_kept) | (with_reducible apply raise_kept)
    | (with_reducible apply failPath_kept) | (with_reducible apply kept_ite) | (with_reducible refine kept_foldl ?_ ?_; intro _ _ _)
    | (with_reducible refine kept_parts ?_ rfl rfl rfl rfl) | (simp only [kept_mk_iff])

theorem ampRound_kept {s : State} (a : Nat) (h : Kept n m q o s) :
    Kept n m q o (ampRound s a) := by
  unfold ampRound
  repeat' first
    | (with_reducible assumption) | (with_reducible apply State_setAmp_kept) | (with_reducible apply wbit_kept)
    | (with_reducible apply State_setDpd_kept) | (with_reducible apply raise_kept) | (with_reducible apply ampFault_kept)
    | (with_reducible apply wf_kept) | (with_reducible apply draw_kept) | (with_reducible apply kept_ite) | (simp only [kept_mk_iff])
    | split

theorem codeWrite_kept {s : State} (c : Nat) (v : Nat) (h : Kept n m q o s) :
    Kept n m q o (codeWrite s c v) := by
  unfold codeWrite
  repeat' first
    | (with_reducible assumption) | (with_reducible apply State_setBias_kept) | (with_reducible apply wbit_kept)
    | (with_reducible apply wf_kept)

theorem coreVoltage_kept {s : State} (mv : Nat) (h : Kept n m q o s) :
    Kept n m q o (coreVoltage s mv) := by
  unfold coreVoltage
  repeat' first
    | (with_reducible assumption) | (with_reducible apply wf_kept) | (with_reducible apply raise_kept) | (with_reducible apply wbit_kept)
    | (with_reducible apply kept_ite) | (with_reducible refine kept_parts ?_ rfl rfl rfl rfl) | (simp only [kept_mk_iff])

theorem deliverTmod_kept {s : State} (a : Nat) (raw : Int) (h : Kept n m q o s) :
    Kept n m q o (deliverTmod s a raw) := by
  unfold deliverTmod
  repeat' first | (with_reducible assumption) | (with_reducible apply wbit_kept) | (with_reducible apply State_setAmp_kept)

theorem drainUp_kept {s : State} (a : Nat) (h : Kept n m q o s) :
    Kept n m q o (drainUp s a) := by
  unfold drainUp
  repeat' first
    | (with_reducible assumption) | (with_reducible apply State_setBias_kept) | (with_reducible apply wbit_kept)
    | (with_reducible apply kept_ite) | (with_reducible refine kept_foldl ?_ ?_; intro _ _ _)

theorem drainRise_kept {s : State} (h : Kept n m q o s) :
    Kept n m q o (drainRise s) := by
  unfold drainRise
  repeat' first
    | (with_reducible assumption) | (with_reducible apply drainUp_kept) | (with_reducible apply kept_ite)
    | (with_reducible refine kept_foldl ?_ ?_; intro _ _ _)

theorem drainRequest_kept {s : State} (v : Nat) (h : Kept n m q o s) :
    Kept n m q o (drainRequest s v) := by
  unfold drainRequest
  repeat' first | (with_reducible assumption) | (with_reducible apply wr_kept) | (with_reducible apply drainRise_kept)

theorem fanUpdate_kept {s : State} (x1 : Nat) (h : Kept n m q o s) :
    Kept n m q o (fanUpdate s x1) := by
  unfold fanUpdate
  repeat' first
    | (with_reducible assumption) | (with_reducible apply State_setFan_kept) | (with_reducible apply wbit_kept)
    | (with_reducible apply wf_kept) | (with_reducible apply kept_ite)

theorem dutyWritten_kept {s : State} (x1 : Nat) (h : Kept n m q o s) :
    Kept n m q o (dutyWritten s x1) := by
  unfold dutyWritten
  repeat' first
    | (with_reducible assumption) | (with_reducible apply fanUpdate_kept) | (with_reducible apply wbit_kept)
    | (with_reducible apply State_setFan_kept)

theorem fanStall_kept {s : State} (x1 : Nat) (h : Kept n m q o s) :
    Kept n m q o (fanStall s x1) := by
  unfold fanStall
  repeat' first
    | (with_reducible assumption) | (with_reducible apply raise_kept) | (with_reducible apply setFlag_kept)
    | (with_reducible apply kept_ite)

theorem fanWatchdog_kept {s : State} (x1 : Nat) (h : Kept n m q o s) :
    Kept n m q o (fanWatchdog s x1) := by
  unfold fanWatchdog
  repeat' first
    | (with_reducible assumption) | (with_reducible apply fanUpdate_kept) | (with_reducible apply raise_kept)
    | (with_reducible apply wbit_kept) | (with_reducible apply kept_ite)

theorem faultClear_kept {s : State} (v : Nat) (h : Kept n m q o s) :
    Kept n m q o (faultClear s v) := by
  unfold faultClear
  repeat' first
    | (with_reducible assumption) | (with_reducible apply drainRise_kept) | (with_reducible apply wbit_kept)
    | (with_reducible apply ampFault_kept) | (with_reducible apply kept_ite) | (with_reducible refine kept_foldl ?_ ?_; intro _ _ _)
    | (simp only [kept_mk_iff]) | split

theorem moduleTemp_kept {s : State} (p : Nat) (v : Nat) (x3 : Nat) (h : Kept n m q o s) :
    Kept n m q o (moduleTemp s p v x3) := by
  unfold moduleTemp
  repeat' first | (with_reducible assumption) | (with_reducible apply deliverTmod_kept) | (with_reducible apply kept_ite)

theorem monConsumer_kept {s : State} (w : Nat) (raw : Int) (meanAbs : Int) (h : Kept n m q o s) :
    Kept n m q o (monConsumer s w raw meanAbs) := by
  unfold monConsumer
  repeat' first
    | (with_reducible assumption) | (with_reducible apply State_setAmp_kept) | (with_reducible apply deliverTmod_kept)
    | (with_reducible apply kept_ite) | (simp only [kept_mk_iff]) | split

theorem monDeliver_kept {s : State} (x1 : Nat) (e : Nat) (v : Nat) (single : Bool) (h : Kept n m q o s) :
    Kept n m q o (monDeliver s x1 e v single) := by
  unfold monDeliver
  repeat' first
    | (with_reducible assumption) | (with_reducible apply raise_kept) | (with_reducible apply setFlag_kept)
    | (with_reducible apply wr_kept) | (with_reducible apply kept_ite)

theorem monEntry_kept {s : State} (x1 : Nat) (e : Nat) (h : Kept n m q o s) :
    Kept n m q o (monEntry s x1 e) := by
  unfold monEntry
  repeat' first
    | (with_reducible assumption) | (with_reducible apply State_setMon_kept) | (with_reducible apply wf_kept)
    | (with_reducible apply wbit_kept)

theorem monEnd_kept {s : State} (x1 : Nat) (h : Kept n m q o s) :
    Kept n m q o (monEnd s x1) := by
  unfold monEnd
  repeat' first
    | (with_reducible assumption) | (with_reducible apply wbit_kept) | (with_reducible apply monEntry_kept)
    | (with_reducible apply kept_ite)

theorem monResult_kept {s : State} (x1 : Nat) (result : Int) (meanAbs : Int) (h : Kept n m q o s) :
    Kept n m q o (monResult s x1 result meanAbs) := by
  unfold monResult
  repeat' first
    | (with_reducible assumption) | (with_reducible apply reachElapsed_kept) | (with_reducible apply monDeliver_kept)
    | (with_reducible apply monConsumer_kept) | (with_reducible apply State_setMon_kept) | (with_reducible apply raise_kept)
    | (with_reducible apply ampFault_kept) | (with_reducible apply monEnd_kept) | (with_reducible apply monEntry_kept)
    | (with_reducible apply kept_ite)

theorem monTrigger_kept {s : State} (x1 : Nat) (h : Kept n m q o s) :
    Kept n m q o (monTrigger s x1) := by
  unfold monTrigger
  repeat' first
    | (with_reducible assumption) | (with_reducible apply monEntry_kept) | (with_reducible apply wbit_kept)
    | (with_reducible apply raise_kept) | (with_reducible apply bump_kept) | (with_reducible apply setFlag_kept)
    | (with_reducible apply kept_ite)

theorem outputStep_kept {s : State} (c : Nat) (h : Kept n m q o s) :
    Kept n m q o (outputStep s c) := by
  unfold outputStep
  repeat' first
    | (with_reducible assumption) | (with_reducible apply reachElapsed_kept) | (with_reducible apply wf_kept)
    | (with_reducible apply drainRise_kept) | (with_reducible apply State_setBias_kept) | (with_reducible apply wbit_kept)
    | (with_reducible apply kept_ite)

theorem outputTo_kept {s : State} (c : Nat) (code : Nat) (h : Kept n m q o s) :
    Kept n m q o (outputTo s c code) := by
  unfold outputTo
  repeat' first
    | (with_reducible assumption) | (with_reducible apply wf_kept) | (with_reducible apply wbit_kept)
    | (with_reducible apply State_setBias_kept)

theorem safeCode_kept {s : State} (c : Nat) (h : Kept n m q o s) :
    Kept n m q o (safeCode s c) := by
  unfold safeCode
  repeat' first
    | (with_reducible assumption) | (with_reducible apply State_setBias_kept) | (with_reducible apply outputTo_kept)
    | (with_reducible apply wbit_kept) | (with_reducible apply kept_ite)

theorem safeDue_kept {s : State} (h : Kept n m q o s) :
    Kept n m q o (safeDue s) := by
  unfold safeDue
  repeat' first
    | (with_reducible assumption) | (with_reducible apply safeCode_kept) | (with_reducible apply kept_ite)
    | (with_reducible refine kept_foldl ?_ ?_; intro _ _ _) | (with_reducible refine kept_parts ?_ rfl rfl rfl rfl)
    | (simp only [kept_mk_iff]) | split

theorem senseOne_kept (valid : List Nat) (readings : List Int) (stopped : List Nat) {s : State} (x : Nat) (h : Kept n m q o s) :
    Kept n m q o (senseOne valid readings stopped s x) := by
  unfold senseOne
  repeat' first
    | (with_reducible assumption) | (with_reducible apply wr_kept) | (with_reducible apply wbit_kept) | (with_reducible apply raise_kept)
    | (with_reducible apply kept_ite) | (with_reducible refine kept_parts ?_ rfl rfl rfl rfl) | (simp only [kept_mk_iff])

theorem sharedResults_kept {s : State} (a : Int) (b : Int) (h : Kept n m q o s) :
    Kept n m q o (sharedResults s a b) := by
  unfold sharedResults
  repeat' first
    | (with_reducible assumption) | (with_reducible apply raise_kept) | (with_reducible apply wbit_kept) | (with_reducible apply kept_ite)

theorem strobeGroup_kept {s : State} (g : Nat) (h : Kept n m q o s) :
    Kept n m q o (strobeGroup s g) := by
  unfold strobeGroup
  repeat' first
    | (with_reducible assumption) | (with_reducible apply State_setBias_kept) | (with_reducible apply wbit_kept)
    | (with_reducible apply outputTo_kept) | (with_reducible apply State_setMon_kept) | (with_reducible apply drainRise_kept)
    | (with_reducible apply kept_ite) | (with_reducible refine kept_foldl ?_ ?_; intro _ _ _)

theorem strobeMask_kept {s : State} (mask : Nat) (h : Kept n m q o s) :
    Kept n m q o (strobeMask s mask) := by
  unfold strobeMask
  repeat' first
    | (with_reducible assumption) | (with_reducible apply strobeGroup_kept) | (with_reducible apply kept_ite)
    | (with_reducible refine kept_foldl ?_ ?_; intro _ _ _)

theorem supplyLow_kept {s : State} (which : Nat) (h : Kept n m q o s) :
    Kept n m q o (supplyLow s which) := by
  unfold supplyLow
  repeat' first
    | (with_reducible assumption) | (with_reducible apply raise_kept) | (with_reducible apply wbit_kept)
    | (with_reducible apply ampFault_kept) | (with_reducible apply kept_ite) | (with_reducible refine kept_foldl ?_ ?_; intro _ _ _)

theorem throttle_kept {s : State} (t : Int) (h : Kept n m q o s) :
    Kept n m q o (throttle s t) := by
  unfold throttle
  repeat' first
    | (with_reducible assumption) | (with_reducible apply raise_kept) | (with_reducible apply wf_kept) | (with_reducible apply kept_ite)
    | (with_reducible refine kept_parts ?_ rfl rfl rfl rfl) | (simp only [kept_mk_iff])

/-! ## GeOps -/

theorem State_setEng_kept {s : State} (e : Nat) (x : Eng) (h : Kept n m q o s) :
    Kept n m q o (State.setEng s e x) := by
  unfold State.setEng
  repeat' first | (with_reducible assumption) | (with_reducible refine kept_parts ?_ rfl rfl rfl rfl) | (simp only [kept_mk_iff])

theorem deliverCpl_kept {s : State} (e : Nat) (j : Job) (result : Nat) (miss : Bool) (h : Kept n m q o s) :
    Kept n m q o (deliverCpl s e j result miss) := by
  unfold deliverCpl
  repeat' first
    | (with_reducible assumption) | (with_reducible apply State_setEng_kept) | (with_reducible apply raise_kept)
    | (with_reducible apply kept_ite) | (with_reducible refine kept_parts ?_ rfl rfl rfl rfl) | (simp only [kept_mk_iff]) | split

theorem jobEnded_kept {s : State} (e : Nat) (j : Job) (result : Nat) (h : Kept n m q o s) :
    Kept n m q o (jobEnded s e j result) := by
  unfold jobEnded
  repeat' first
    | (with_reducible assumption) | (with_reducible apply deliverCpl_kept) | (with_reducible apply stat_kept)
    | (with_reducible apply raise_kept) | (with_reducible apply kept_ite)

theorem endJob_kept {s : State} (e : Nat) (result : Nat) (h : Kept n m q o s) :
    Kept n m q o (endJob s e result) := by
  unfold endJob
  repeat' first
    | (with_reducible assumption) | (with_reducible apply wbit_kept) | (with_reducible apply jobEnded_kept)
    | (with_reducible apply State_setEng_kept) | (simp only [kept_mk_iff]) | split

theorem abortJobs_kept {s : State} (e : Nat) (h : Kept n m q o s) :
    Kept n m q o (abortJobs s e) := by
  unfold abortJobs
  repeat' first
    | (with_reducible assumption) | (with_reducible apply endJob_kept) | (with_reducible apply jobEnded_kept)
    | (with_reducible apply State_setEng_kept) | (with_reducible refine kept_foldl ?_ ?_; intro _ _ _)

theorem askWaiting_kept {s : State} (h : Kept n m q o s) :
    Kept n m q o (askWaiting s) := by
  unfold askWaiting
  repeat' first
    | (with_reducible assumption) | (with_reducible apply jobRequestCapture_kept) | (with_reducible apply releaseBuffer_kept)
    | (with_reducible apply kept_ite) | (with_reducible refine kept_foldl ?_ ?_; intro _ _ _)

theorem refusePost_kept {s : State} (e : Nat) (full : Bool) (h : Kept n m q o s) :
    Kept n m q o (refusePost s e full) := by
  unfold refusePost
  repeat' first
    | (with_reducible assumption) | (with_reducible apply State_setEng_kept) | (with_reducible apply raise_kept)
    | (with_reducible apply kept_ite)

theorem preemptIf_kept {s : State} (e : Nat) (h : Kept n m q o s) :
    Kept n m q o (preemptIf s e) := by
  unfold preemptIf
  repeat' first
    | (with_reducible assumption) | (with_reducible apply State_setEng_kept) | (with_reducible apply kept_ite) | (simp only [kept_mk_iff])
    | split

theorem postJob_kept {s : State} (e : Nat) (j : Job) (tag : Nat) (h : Kept n m q o s) :
    Kept n m q o (postJob s e j tag) := by
  unfold postJob
  repeat' first
    | (with_reducible assumption) | (with_reducible apply firewall_kept) | (with_reducible apply refusePost_kept)
    | (with_reducible apply State_setEng_kept) | (with_reducible apply preemptIf_kept) | (with_reducible apply kept_ite)
    | (simp only [kept_mk_iff]) | split

theorem dispatchPost_kept {s : State} (p : Nat) (h : Kept n m q o s) :
    Kept n m q o (dispatchPost s p) := by
  unfold dispatchPost
  repeat' first
    | (with_reducible assumption) | (with_reducible apply draw_kept) | (with_reducible apply postJob_kept) | (simp only [kept_mk_iff])
    | split

theorem eccFault_kept {s : State} (e : Nat) (h : Kept n m q o s) :
    Kept n m q o (eccFault s e) := by
  unfold eccFault
  repeat' first
    | (with_reducible assumption) | (with_reducible apply endJob_kept) | (with_reducible refine kept_parts ?_ rfl rfl rfl rfl)
    | (simp only [kept_mk_iff])

theorem yieldJob_kept {s : State} (e : Nat) (a : Nat) (h : Kept n m q o s) :
    Kept n m q o (yieldJob s e a) := by
  unfold yieldJob
  repeat' first
    | (with_reducible assumption) | (with_reducible apply endJob_kept) | (with_reducible apply State_setEng_kept)
    | (with_reducible apply kept_ite) | (simp only [kept_mk_iff]) | split

theorem endBundle_kept {s : State} (e : Nat) (h : Kept n m q o s) :
    Kept n m q o (endBundle s e) := by
  unfold endBundle
  repeat' first
    | (with_reducible assumption) | (with_reducible apply endJob_kept) | (with_reducible apply State_setEng_kept)
    | (with_reducible apply yieldJob_kept) | (with_reducible apply kept_ite) | (simp only [kept_mk_iff]) | split

theorem ergPost_kept {s : State} (h : Kept n m q o s) :
    Kept n m q o (ergPost s) := by
  unfold ergPost
  repeat' first
    | (with_reducible assumption) | (with_reducible apply draw_kept) | (with_reducible apply postJob_kept)
    | (with_reducible refine kept_foldl ?_ ?_; intro _ _ _)

theorem slotOp_kept {s : State} (e : Nat) (slot : Nat) (last : Bool) (ecc : Nat) (act : Eng → Nat ⊕ Eng) (h : Kept n m q o s) :
    Kept n m q o (slotOp s e slot last ecc act) := by
  unfold slotOp
  repeat' first
    | (with_reducible assumption) | (with_reducible apply endBundle_kept) | (with_reducible apply bump_kept)
    | (with_reducible apply eccFault_kept) | (with_reducible apply endJob_kept) | (with_reducible apply State_setEng_kept)
    | (with_reducible apply kept_ite) | (simp only [kept_mk_iff]) | split

theorem geAdr_kept (g : GeA) {s : State} (code : Nat) (ok : Bool) (v : Eng → Nat) (h : Kept n m q o s) :
    Kept n m q o (geAdr g s code ok v) := by
  unfold geAdr
  repeat' first | (with_reducible assumption) | (with_reducible apply slotOp_kept)

theorem geBin_kept (g : GeC) (l : Nat) (f : Cplx → Cplx → Cplx) {s : State} (h : Kept n m q o s) :
    Kept n m q o (geBin g l f s) := by
  unfold geBin
  repeat' first | (with_reducible assumption) | (with_reducible apply slotOp_kept)

theorem geInt_kept (g : GeC) (f : Nat → Nat → Nat) {s : State} (h : Kept n m q o s) :
    Kept n m q o (geInt g f s) := by
  unfold geInt
  repeat' first | (with_reducible assumption) | (with_reducible apply slotOp_kept)

theorem geJump_kept (g : GeK) {s : State} (cond : Eng → Bool) (h : Kept n m q o s) :
    Kept n m q o (geJump g s cond) := by
  unfold geJump
  repeat' first | (with_reducible assumption) | (with_reducible apply slotOp_kept)

theorem geLoop_kept (g : GeK) {s : State} (x2 : Nat) (count : Eng → Nat) (h : Kept n m q o s) :
    Kept n m q o (geLoop g s x2 count) := by
  unfold geLoop
  repeat' first | (with_reducible assumption) | (with_reducible apply slotOp_kept)

theorem geMem_kept (g : GeM) (size : Nat) (pair : Bool) {s : State} (act : Eng → Nat → Eng) (h : Kept n m q o s) :
    Kept n m q o (geMem g size pair s act) := by
  unfold geMem
  repeat' first | (with_reducible assumption) | (with_reducible apply slotOp_kept)

theorem postWaiting_kept {s : State} (h : Kept n m q o s) :
    Kept n m q o (postWaiting s) := by
  unfold postWaiting
  repeat' first
    | (with_reducible assumption) | (with_reducible apply dispatchPost_kept) | (with_reducible refine kept_foldl ?_ ?_; intro _ _ _)
    | (with_reducible refine kept_parts ?_ rfl rfl rfl rfl) | (simp only [kept_mk_iff]) | split

theorem rollLeft_kept {s : State} (r : Roll) (h : Kept n m q o s) :
    Kept n m q o (rollLeft s r) := by
  unfold rollLeft
  repeat' first
    | (with_reducible assumption) | (with_reducible apply raise_kept) | (with_reducible apply kept_ite)
    | (with_reducible refine kept_parts ?_ rfl rfl rfl rfl) | (simp only [kept_mk_iff])

theorem rollMove_kept {s : State} (r : Roll) (e : Nat) (h : Kept n m q o s) :
    Kept n m q o (rollMove s r e) := by
  unfold rollMove
  repeat' first | (with_reducible assumption) | (with_reducible apply rollLeft_kept) | (with_reducible apply State_setEng_kept)

theorem stallBundle_kept {s : State} (e : Nat) (h : Kept n m q o s) :
    Kept n m q o (stallBundle s e) := by
  unfold stallBundle
  repeat' first | (with_reducible assumption) | (with_reducible apply State_setEng_kept) | (with_reducible apply kept_ite)

theorem startNext_kept {s : State} (e : Nat) (h : Kept n m q o s) :
    Kept n m q o (startNext s e) := by
  unfold startNext
  repeat' first
    | (with_reducible assumption) | (with_reducible apply State_setEng_kept) | (with_reducible apply kept_ite) | (simp only [kept_mk_iff])
    | split

theorem startRoll_kept {s : State} (ovr : Sparse (List Byte)) (h : Kept n m q o s) :
    Kept n m q o (startRoll s ovr) := by
  unfold startRoll
  repeat' first
    | (with_reducible assumption) | (with_reducible apply rollLeft_kept) | (with_reducible apply State_setEng_kept)
    | (with_reducible refine kept_foldl ?_ ?_; intro _ _ _)

/-! ## CalOps -/

theorem State_setCal_kept {s : State} (p : Nat) (i : Nat) (x : CalItem) (h : Kept n m q o s) :
    Kept n m q o (State.setCal s p i x) := by
  unfold State.setCal
  repeat' first | (with_reducible assumption) | (with_reducible refine kept_parts ?_ rfl rfl rfl rfl) | (simp only [kept_mk_iff])

theorem State_setTop_kept {s : State} (p : Nat) (x : TopNote) (h : Kept n m q o s) :
    Kept n m q o (State.setTop s p x) := by
  unfold State.setTop
  repeat' first | (with_reducible assumption) | (with_reducible refine kept_parts ?_ rfl rfl rfl rfl) | (simp only [kept_mk_iff])

theorem fgStatus_kept {s : State} (p : Nat) (code : Nat) (h : Kept n m q o s) :
    Kept n m q o (fgStatus s p code) := by
  unfold fgStatus
  repeat' first | (with_reducible assumption) | (with_reducible apply State_setPobj_kept)

theorem fgEnd_kept {s : State} (p : Nat) (code : Nat) (h : Kept n m q o s) :
    Kept n m q o (fgEnd s p code) := by
  unfold fgEnd
  repeat' first
    | (with_reducible assumption) | (with_reducible apply fgStatus_kept) | (with_reducible apply raise_kept)
    | (with_reducible refine kept_parts ?_ rfl rfl rfl rfl) | (simp only [kept_mk_iff])

theorem fgAbort_kept {s : State} (h : Kept n m q o s) :
    Kept n m q o (fgAbort s) := by
  unfold fgAbort
  repeat' first | (with_reducible assumption) | (with_reducible apply fgEnd_kept) | (with_reducible refine kept_foldl ?_ ?_; intro _ _ _)

theorem setStaleBit_kept {s : State} (p : Nat) (i : Nat) (b : Bool) (h : Kept n m q o s) :
    Kept n m q o (setStaleBit s p i b) := by
  unfold setStaleBit
  repeat' first
    | (with_reducible assumption) | (with_reducible apply raise_kept) | (with_reducible apply kept_ite)
    | (with_reducible refine kept_parts ?_ rfl rfl rfl rfl) | (simp only [kept_mk_iff])

theorem refreshed_kept {s : State} (p : Nat) (i : Nat) (h : Kept n m q o s) :
    Kept n m q o (refreshed s p i) := by
  unfold refreshed
  repeat' first
    | (with_reducible assumption) | (with_reducible apply State_setCal_kept) | (with_reducible apply setStaleBit_kept)
    | (with_reducible apply kept_ite)

theorem retarget_kept {s : State} (p : Nat) (i : Nat) (x : CalItem) (h : Kept n m q o s) :
    Kept n m q o (retarget s p i x) := by
  unfold retarget
  repeat' first | (with_reducible assumption) | (with_reducible apply State_setCal_kept) | (with_reducible apply kept_ite)

theorem fgApply_kept {s : State} (p : Nat) (results : List (Nat × CalMeas)) (h : Kept n m q o s) :
    Kept n m q o (fgApply s p results) := by
  unfold fgApply
  repeat' first
    | (with_reducible assumption) | (with_reducible apply refreshed_kept) | (with_reducible apply retarget_kept)
    | (with_reducible apply kept_ite) | (with_reducible refine kept_foldl ?_ ?_; intro _ _ _)

theorem fgRun_kept {s : State} (p : Nat) (h : Kept n m q o s) :
    Kept n m q o (fgRun s p) := by
  unfold fgRun
  repeat' first
    | (with_reducible assumption) | (with_reducible apply fgStatus_kept) | (with_reducible refine kept_parts ?_ rfl rfl rfl rfl)
    | (simp only [kept_mk_iff])

theorem fgPathOff_kept {s : State} (p : Nat) (h : Kept n m q o s) :
    Kept n m q o (fgPathOff s p) := by
  unfold fgPathOff
  repeat' first | (with_reducible assumption) | (with_reducible apply fgRun_kept) | (with_reducible apply kept_ite)

theorem fgRequest_kept {s : State} (who : Option Role) (p : Nat) (i : Nat) (flags : Nat) (h : Kept n m q o s) :
    Kept n m q o (fgRequest s who p i flags) := by
  unfold fgRequest
  repeat' first
    | (with_reducible assumption) | (with_reducible apply fgStatus_kept) | (with_reducible apply failPath_kept)
    | (with_reducible apply fgRun_kept) | (with_reducible apply raise_kept) | (with_reducible apply fgEnd_kept)
    | (with_reducible apply kept_ite) | (with_reducible refine kept_parts ?_ rfl rfl rfl rfl) | (simp only [kept_mk_iff]) | split

theorem heartLimit_kept {s : State} (p : Nat) (i : Nat) (bad : Bool) (h : Kept n m q o s) :
    Kept n m q o (heartLimit s p i bad) := by
  unfold heartLimit
  repeat' first
    | (with_reducible assumption) | (with_reducible apply failPath_kept) | (with_reducible apply raise_kept)
    | (with_reducible apply kept_ite) | (with_reducible refine kept_parts ?_ rfl rfl rfl rfl) | (simp only [kept_mk_iff])

theorem lastRun_kept {s : State} (item : Nat) (result : Nat) (h : Kept n m q o s) :
    Kept n m q o (lastRun s item result) := by
  unfold lastRun
  repeat' first | (with_reducible assumption) | (with_reducible apply State_setObj_kept)

theorem learn_kept {s : State} (p : Nat) (i : Nat) (v : CalVal) (h : Kept n m q o s) :
    Kept n m q o (learn s p i v) := by
  unfold learn
  repeat' first | (with_reducible assumption) | (with_reducible refine kept_parts ?_ rfl rfl rfl rfl) | (simp only [kept_mk_iff]) | split

theorem skipWindow_kept {s : State} (p : Nat) (h : Kept n m q o s) :
    Kept n m q o (skipWindow s p) := by
  unfold skipWindow
  repeat' first | (with_reducible assumption) | (with_reducible apply setFlag_kept) | (with_reducible apply bump_kept)

theorem stepPaths_kept {s : State} (ps : List Nat) (step : Nat) (h : Kept n m q o s) :
    Kept n m q o (stepPaths s ps step) := by
  unfold stepPaths
  repeat' first
    | (with_reducible assumption) | (with_reducible apply gainChanged_kept) | (with_reducible apply State_setFe_kept)
    | (with_reducible apply setAtt_kept) | (with_reducible apply kept_ite) | (with_reducible refine kept_foldl ?_ ?_; intro _ _ _)

theorem topUpdate_kept {s : State} (p : Nat) (x2 : TopMeas) (h : Kept n m q o s) :
    Kept n m q o (topUpdate s p x2) := by
  unfold topUpdate
  repeat' first
    | (with_reducible assumption) | (with_reducible apply retarget_kept) | (with_reducible apply State_setPobj_kept)
    | (with_reducible apply refreshed_kept) | (with_reducible apply kept_ite)

theorem unstepPaths_kept {r : State} {s : State} (ps : List Nat) (h : Kept n m q o s) :
    Kept n m q o (unstepPaths r s ps) := by
  unfold unstepPaths
  repeat' first
    | (with_reducible assumption) | (with_reducible apply gainChanged_kept) | (with_reducible apply State_setFe_kept)
    | (with_reducible apply setAtt_kept) | (with_reducible apply kept_ite) | (with_reducible refine kept_foldl ?_ ?_; intro _ _ _)

theorem windowReturn_kept {s : State} (p : Nat) (h : Kept n m q o s) :
    Kept n m q o (windowReturn s p) := by
  unfold windowReturn
  repeat' first
    | (with_reducible assumption) | (with_reducible apply reachCount_kept) | (with_reducible apply arrayMargin_kept)
    | (with_reducible apply enterPathState_kept) | (with_reducible apply kept_ite) | (with_reducible refine kept_parts ?_ rfl rfl rfl rfl)
    | (simp only [kept_mk_iff])

/-! ## LinkOps -/

theorem police_kept {s : State} (x1 : Nat) (bytes : Nat) (h : Kept n m q o s) :
    Kept n m q o (police s x1 bytes).2 := by
  unfold police
  repeat' first | (with_reducible assumption) | (with_reducible apply State_setPort_kept) | (with_reducible apply kept_ite_snd)

theorem dropMsg_kept {s : State} (port : Nat) (cause : Nat) (cc : Option Nat) (h : Kept n m q o s) :
    Kept n m q o (dropMsg s port cause cc) := by
  unfold dropMsg
  repeat' first
    | (with_reducible assumption) | (with_reducible apply bump_kept) | (with_reducible apply stat_kept)
    | (with_reducible apply raise_kept) | (with_reducible apply firewall_kept) | (with_reducible apply bumpField_kept)
    | (with_reducible apply kept_ite) | (simp only [kept_mk_iff]) | split

theorem admitFrame_kept {s : State} (f : LnkFrame) (ty : Nat) (policed : Bool) (h : Kept n m q o s) :
    Kept n m q o (admitFrame s f ty policed).2 := by
  unfold admitFrame
  have h1 := stat_kept (0x9210 + f.port) 20 1 (reachCount_kept f.tick h)
  generalize stat (reachCount s f.tick) (0x9210 + f.port) 20 = s1 at h1 ⊢
  have h2 := police_kept f.port f.len h1
  dsimp only
  generalize police s1 f.port f.len = v at h2 ⊢
  repeat' first
    | (with_reducible assumption) | (with_reducible apply dropMsg_kept) | (with_reducible apply kept_ite)
    | (with_reducible apply kept_ite_snd)

theorem controlEntry_kept {s : State} (f : LnkFrame) (rtc : Nat) (b : List Byte) (h : Kept n m q o s) :
    Kept n m q o (controlEntry s f rtc b) := by
  unfold controlEntry
  repeat' first
    | (with_reducible assumption) | (with_reducible apply dropMsg_kept) | (with_reducible apply kept_ite)
    | (with_reducible refine kept_parts ?_ rfl rfl rfl rfl) | (simp only [kept_mk_iff])

theorem rxSequence_kept {s : State} (x1 : Nat) (pc : Nat) (seq : Nat) (h : Kept n m q o s) :
    Kept n m q o (rxSequence s x1 pc seq) := by
  unfold rxSequence
  repeat' first
    | (with_reducible assumption) | (with_reducible apply stat_kept) | (with_reducible apply State_setPort_kept)
    | (with_reducible apply kept_ite)

theorem controlMessage_kept {s : State} (f : LnkFrame) (h : Kept n m q o s) :
    Kept n m q o (controlMessage s f) := by
  unfold controlMessage
  repeat' first
    | (with_reducible assumption) | (with_reducible apply dropMsg_kept) | (with_reducible apply rxSequence_kept)
    | (with_reducible apply controlEntry_kept) | (with_reducible apply kept_ite) | (with_reducible refine kept_foldl ?_ ?_; intro _ _ _)

theorem countPn_kept {s : State} (x1 : Nat) (h : Kept n m q o s) :
    Kept n m q o (countPn s x1) := by
  unfold countPn
  repeat' first | (with_reducible assumption) | (with_reducible apply State_setPort_kept) | (with_reducible apply kept_ite)

theorem ptpUnlock_kept {s : State} (state : Nat) (h : Kept n m q o s) :
    Kept n m q o (ptpUnlock s state) := by
  unfold ptpUnlock
  repeat' first
    | (with_reducible assumption) | (with_reducible apply wf_kept) | (with_reducible apply raise_kept) | (with_reducible apply wbit_kept)
    | (with_reducible apply kept_ite) | (with_reducible refine kept_parts ?_ rfl rfl rfl rfl) | (simp only [kept_mk_iff])

theorem holdover_kept {s : State} (h : Kept n m q o s) :
    Kept n m q o (holdover s) := by
  unfold holdover
  repeat' first
    | (with_reducible assumption) | (with_reducible apply raise_kept) | (with_reducible apply wbit_kept)
    | (with_reducible apply ptpUnlock_kept) | (with_reducible apply kept_ite) | (with_reducible refine kept_parts ?_ rfl rfl rfl rfl)
    | (simp only [kept_mk_iff])

theorem iqSection_kept {s : State} (f : LnkFrame) (h : Kept n m q o s) :
    Kept n m q o (iqSection s f) := by
  unfold iqSection
  repeat' first
    | (with_reducible assumption) | (with_reducible apply dropMsg_kept) | (with_reducible apply rxSequence_kept)
    | (with_reducible apply stat_kept) | (with_reducible apply kept_ite) | (with_reducible refine kept_parts ?_ rfl rfl rfl rfl)
    | (simp only [kept_mk_iff])

theorem setLaneState_kept {s : State} (l : Nat) (v : Nat) (h : Kept n m q o s) :
    Kept n m q o (setLaneState s l v) := by
  unfold setLaneState
  repeat' first
    | (with_reducible assumption) | (with_reducible apply wf_kept) | (with_reducible apply subDown_kept)
    | (with_reducible apply subUp_kept) | (with_reducible apply kept_ite)

theorem synceAgain_kept {s : State} (h : Kept n m q o s) :
    Kept n m q o (synceAgain s) := by
  unfold synceAgain
  repeat' first
    | (with_reducible assumption) | (with_reducible apply kept_ite) | (with_reducible refine kept_parts ?_ rfl rfl rfl rfl)
    | (simp only [kept_mk_iff])

theorem portState_kept {s : State} (x1 : Nat) (aligned : Bool) (sa : Bool) (h : Kept n m q o s) :
    Kept n m q o (portState s x1 aligned sa) := by
  unfold portState
  repeat' first
    | (with_reducible assumption) | (with_reducible apply wf_kept) | (with_reducible apply synceAgain_kept)
    | (with_reducible apply raise_kept) | (with_reducible apply kept_ite)

theorem portLost_kept {s : State} (x1 : Nat) (h : Kept n m q o s) :
    Kept n m q o (portLost s x1) := by
  unfold portLost
  repeat' first | (with_reducible assumption) | (with_reducible apply wbit_kept) | (with_reducible apply portState_kept)

theorem laneFails_kept {s : State} (l : Nat) (h : Kept n m q o s) :
    Kept n m q o (laneFails s l) := by
  unfold laneFails
  repeat' first
    | (with_reducible assumption) | (with_reducible apply setLaneState_kept) | (with_reducible apply wbit_kept)
    | (with_reducible apply portLost_kept) | (with_reducible apply raise_kept) | (with_reducible apply kept_ite)
    | (with_reducible refine kept_parts ?_ rfl rfl rfl rfl) | (simp only [kept_mk_iff]) | split

theorem laneMoved_kept {s : State} (x1 : LaneMove) (h : Kept n m q o s) :
    Kept n m q o (laneMoved s x1) := by
  unfold laneMoved
  repeat' first
    | (with_reducible assumption) | (with_reducible apply wf_kept) | (with_reducible apply setLaneState_kept)
    | (with_reducible refine kept_parts ?_ rfl rfl rfl rfl) | (simp only [kept_mk_iff])

theorem lastSpare_kept {s : State} (x1 : Nat) (h : Kept n m q o s) :
    Kept n m q o (lastSpare s x1) := by
  unfold lastSpare
  repeat' first
    | (with_reducible assumption) | (with_reducible apply spareUsed_kept) | (with_reducible apply raise_kept)
    | (with_reducible apply kept_ite)

theorem refreshLanes_kept {s : State} (h : Kept n m q o s) :
    Kept n m q o (refreshLanes s) := by
  unfold refreshLanes
  repeat' first
    | (with_reducible assumption) | (with_reducible apply setLaneState_kept) | (with_reducible apply kept_ite)
    | (with_reducible refine kept_foldl ?_ ?_; intro _ _ _)

theorem sendMessage_kept {s : State} (x1 : Nat) (kind : Nat) (body : List Byte) (h : Kept n m q o s) :
    Kept n m q o (sendMessage s x1 kind body) := by
  unfold sendMessage
  repeat' first | (with_reducible assumption) | (with_reducible apply emit_kept) | (with_reducible apply countPn_kept)

theorem sendIndication_kept {s : State} (x1 : Nat) (fault : Nat) (element : Nat) (info : Nat) (cease : Bool) (h : Kept n m q o s) :
    Kept n m q o (sendIndication s x1 fault element info cease) := by
  unfold sendIndication
  repeat' first | (with_reducible assumption) | (with_reducible apply sendMessage_kept) | (with_reducible apply State_setPort_kept)

theorem sendEvent_kept {s : State} (x1 : Nat) (x2 : Nat × Nat × Nat × Bool) (h : Kept n m q o s) :
    Kept n m q o (sendEvent s x1 x2) := by
  unfold sendEvent
  repeat' first | (with_reducible assumption) | (with_reducible apply sendIndication_kept) | (with_reducible apply kept_ite)

theorem sendSection_kept {s : State} (x1 : Nat) (x2 : SecHdr) (payload : List Byte) (h : Kept n m q o s) :
    Kept n m q o (sendSection s x1 x2 payload) := by
  unfold sendSection
  repeat' first | (with_reducible assumption) | (with_reducible apply State_setPort_kept) | (with_reducible apply sendMessage_kept)

theorem sendPrach_kept {s : State} (j : Nat) (h : Kept n m q o s) :
    Kept n m q o (sendPrach s j) := by
  unfold sendPrach
  repeat' first
    | (with_reducible assumption) | (with_reducible apply stat_kept) | (with_reducible apply sendSection_kept)
    | (with_reducible apply kept_ite) | (with_reducible refine kept_foldl ?_ ?_; intro _ _ _)
    | (with_reducible refine kept_parts ?_ rfl rfl rfl rfl) | (simp only [kept_mk_iff])

theorem sendSyncMsg_kept {s : State} (x1 : Nat) (id : Nat) (kind : Nat) (h : Kept n m q o s) :
    Kept n m q o (sendSyncMsg s x1 id kind) := by
  unfold sendSyncMsg
  repeat' first | (with_reducible assumption) | (with_reducible apply sendMessage_kept) | (with_reducible apply State_setPort_kept)

theorem sendUplink_kept {s : State} (cc : Nat) (h : Kept n m q o s) :
    Kept n m q o (sendUplink s cc) := by
  unfold sendUplink
  repeat' first
    | (with_reducible assumption) | (with_reducible apply stat_kept) | (with_reducible apply sendSection_kept)
    | (with_reducible apply kept_ite) | (with_reducible refine kept_foldl ?_ ?_; intro _ _ _)
    | (with_reducible refine kept_parts ?_ rfl rfl rfl rfl) | (simp only [kept_mk_iff])

theorem stepCount_kept {s : State} (d : Int) (h : Kept n m q o s) : Kept n m q o (stepCount s d) := clk_kept _ (Nat.le_refl _) h

theorem timeCorrection_kept {s : State} (quarterNs : Int) (h : Kept n m q o s) :
    Kept n m q o (timeCorrection s quarterNs) := by
  unfold timeCorrection
  repeat' first
    | (with_reducible assumption) | (with_reducible apply raise_kept) | (with_reducible apply stepCount_kept)
    | (with_reducible apply requestSync_kept) | (with_reducible apply wbit_kept) | (with_reducible apply kept_ite)
    | (with_reducible refine kept_parts ?_ rfl rfl rfl rfl) | (simp only [kept_mk_iff])

theorem windowClose_kept {s : State} (cc : Nat) (air : Nat) (h : Kept n m q o s) :
    Kept n m q o (windowClose s cc air) := by
  unfold windowClose
  repeat' first
    | (with_reducible assumption) | (with_reducible apply raise_kept) | (with_reducible apply stat_kept) | (with_reducible apply kept_ite)

/-! ## SecOps -/

theorem State_setRoot_kept {s : State} (r : Nat) (x : RootSlot) (h : Kept n m q o s) :
    Kept n m q o (State.setRoot s r x) := by
  unfold State.setRoot
  repeat' first
    | (with_reducible assumption) | (with_reducible apply wf_kept) | (with_reducible refine kept_parts ?_ rfl rfl rfl rfl)
    | (simp only [kept_mk_iff])

theorem attest_kept {s : State} (nonce : List Byte) (h : Kept n m q o s) :
    Kept n m q o (attest s nonce) := by
  unfold attest
  repeat' first
    | (with_reducible assumption) | (with_reducible apply draw_kept) | (with_reducible refine kept_parts ?_ rfl rfl rfl rfl)
    | (simp only [kept_mk_iff])

theorem challengeRead_kept {s : State} (h : Kept n m q o s) :
    Kept n m q o (challengeRead s).2 := by
  unfold challengeRead
  repeat' first
    | (with_reducible assumption) | (with_reducible apply drawBytes_kept) | (with_reducible apply wr_kept)
    | (with_reducible apply kept_ite_snd) | (with_reducible refine kept_parts ?_ rfl rfl rfl rfl) | (simp only [kept_mk_iff]) | split

theorem resumeEngine_kept {s : State} (e : Nat) (h : Kept n m q o s) :
    Kept n m q o (resumeEngine s e) := by
  unfold resumeEngine
  repeat' first | (with_reducible assumption) | (with_reducible apply State_setEng_kept) | (with_reducible apply kept_ite)

theorem firmwareStops_kept {s : State} (h : Kept n m q o s) :
    Kept n m q o (firmwareStops s) := by
  unfold firmwareStops
  repeat' first
    | (with_reducible assumption) | (with_reducible apply markOn_kept) | (with_reducible apply raise_kept)
    | (with_reducible apply kept_ite) | (with_reducible refine kept_foldl ?_ ?_; intro _ _ _)
    | (with_reducible refine kept_parts ?_ rfl rfl rfl rfl) | (simp only [kept_mk_iff])

theorem firmwareResumes_kept {s : State} (h : Kept n m q o s) :
    Kept n m q o (firmwareResumes s) := by
  unfold firmwareResumes
  repeat' first
    | (with_reducible assumption) | (with_reducible apply markOff_kept) | (with_reducible apply firmwareStops_kept)
    | (with_reducible apply markOn_kept) | (with_reducible apply kept_ite) | (with_reducible refine kept_parts ?_ rfl rfl rfl rfl)
    | (simp only [kept_mk_iff])

theorem releaseHalts_kept {s : State} (h : Kept n m q o s) :
    Kept n m q o (releaseHalts s) := by
  unfold releaseHalts
  repeat' first
    | (with_reducible assumption) | (with_reducible apply resumeEngine_kept) | (with_reducible apply wr_kept)
    | (with_reducible apply firmwareResumes_kept) | (with_reducible apply kept_ite)
    | (with_reducible refine kept_foldl ?_ ?_; intro _ _ _)

theorem releaseScan_kept {s : State} (h : Kept n m q o s) :
    Kept n m q o (releaseScan s) := by
  unfold releaseScan
  repeat' first
    | (with_reducible assumption) | (with_reducible apply drainRise_kept) | (with_reducible apply kept_ite)
    | (with_reducible refine kept_parts ?_ rfl rfl rfl rfl) | (simp only [kept_mk_iff])

theorem sessionLeaves_kept {s : State} (h : Kept n m q o s) :
    Kept n m q o (sessionLeaves s) := by
  unfold sessionLeaves
  repeat' first
    | (with_reducible assumption) | (with_reducible apply releaseHalts_kept) | (with_reducible apply wbit_kept)
    | (with_reducible apply wf_kept) | (with_reducible apply releaseScan_kept) | (with_reducible refine kept_foldl ?_ ?_; intro _ _ _)
    | (with_reducible refine kept_parts ?_ rfl rfl rfl rfl) | (simp only [kept_mk_iff])

theorem endDebug_kept {s : State} (h : Kept n m q o s) :
    Kept n m q o (endDebug s) := by
  unfold endDebug
  repeat' first | (with_reducible assumption) | (with_reducible apply raise_kept) | (with_reducible apply sessionLeaves_kept) | split

theorem closeSessions_kept {s : State} (p : Session → Bool) (h : Kept n m q o s) :
    Kept n m q o (closeSessions s p) := by
  unfold closeSessions
  repeat' first
    | (with_reducible assumption) | (with_reducible apply endDebug_kept) | (with_reducible apply kept_ite)
    | (with_reducible refine kept_parts ?_ rfl rfl rfl rfl) | (simp only [kept_mk_iff]) | split

theorem debugResponse_kept {s : State} (path : Nat) (b : List Byte) (owner : Option (Transport × Nat)) (h : Kept n m q o s) :
    Kept n m q o (debugResponse s path b owner).2 := by
  unfold debugResponse
  repeat' first
    | (with_reducible assumption) | (with_reducible apply wf_kept) | (with_reducible apply raise_kept) | (with_reducible apply wbit_kept)
    | (with_reducible apply stat_kept) | (with_reducible apply kept_ite) | (with_reducible apply kept_ite_snd)
    | (with_reducible refine kept_parts ?_ rfl rfl rfl rfl) | (simp only [kept_mk_iff])

theorem keyStat_kept {s : State} (h : Kept n m q o s) :
    Kept n m q o (keyStat s) := by
  unfold keyStat
  repeat' first | (with_reducible assumption) | (with_reducible apply wr_kept)

theorem keyEnvelope_kept {s : State} (role : Role) (k : Nat) (b : List Byte) (h : Kept n m q o s) :
    Kept n m q o (keyEnvelope s role k b).2 := by
  unfold keyEnvelope
  repeat' first
    | (with_reducible assumption) | (with_reducible apply raise_kept) | (with_reducible apply keyStat_kept)
    | (with_reducible apply closeSessions_kept) | (with_reducible apply kept_ite) | (with_reducible apply kept_ite_snd)
    | (with_reducible refine kept_parts ?_ rfl rfl rfl rfl) | (simp only [kept_mk_iff])

theorem raiseMinimums_kept {s : State} (h : Kept n m q o s) :
    Kept n m q o (raiseMinimums s) := by
  unfold raiseMinimums
  repeat' first | (with_reducible assumption) | (with_reducible refine kept_parts ?_ rfl rfl rfl rfl) | (simp only [kept_mk_iff])

theorem lcTransition_kept {s : State} (to_ : Nat) (h : Kept n m q o s) :
    Kept n m q o (lcTransition s to_) := by
  unfold lcTransition
  repeat' first
    | (with_reducible assumption) | (with_reducible apply draw_kept) | (with_reducible apply raiseMinimums_kept)
    | (with_reducible refine kept_parts ?_ rfl rfl rfl rfl) | (simp only [kept_mk_iff]) | split

theorem loadImage_kept {s : State} (b : List Byte) (h : Kept n m q o s) :
    Kept n m q o (loadImage s b) := by
  unfold loadImage
  repeat' first | (with_reducible assumption) | (with_reducible apply sramPoke_kept)

theorem rootRecord_kept {s : State} (b : List Byte) (h : Kept n m q o s) :
    Kept n m q o (rootRecord s b).2 := by
  unfold rootRecord
  repeat' first
    | (with_reducible assumption) | (with_reducible apply raise_kept) | (with_reducible apply State_setRoot_kept)
    | (with_reducible apply kept_ite_snd)

theorem suspendDebug_kept {s : State} (target : Nat) (h : Kept n m q o s) :
    Kept n m q o (suspendDebug s target) := by
  unfold suspendDebug
  repeat' first
    | (with_reducible assumption) | (with_reducible apply sessionLeaves_kept) | (with_reducible apply raise_kept)
    | (with_reducible apply wf_kept) | (with_reducible apply wbit_kept) | (with_reducible refine kept_parts ?_ rfl rfl rfl rfl)
    | (simp only [kept_mk_iff]) | split

/-! ## SvcOps -/

theorem State_setHo_kept {s : State} (v : Nat) (h : Kept n m q o s) :
    Kept n m q o (State.setHo s v) := by
  unfold State.setHo
  repeat' first | (with_reducible assumption) | (with_reducible apply wf_kept)

theorem State_setHoResult_kept {s : State} (v : Nat) (h : Kept n m q o s) :
    Kept n m q o (State.setHoResult s v) := by
  unfold State.setHoResult
  repeat' first | (with_reducible assumption) | (with_reducible apply wf_kept)

theorem State_setPair_kept {s : State} (p : Nat) (stopped : Bool) (verified : Bool) (h : Kept n m q o s) :
    Kept n m q o (State.setPair s p stopped verified) := by
  unfold State.setPair
  repeat' first
    | (with_reducible assumption) | (with_reducible apply kept_ite) | (with_reducible refine kept_parts ?_ rfl rfl rfl rfl)
    | (simp only [kept_mk_iff])

theorem State_setStandby_kept {s : State} (v : Nat) (h : Kept n m q o s) :
    Kept n m q o (State.setStandby s v) := by
  unfold State.setStandby
  repeat' first | (with_reducible assumption) | (with_reducible apply wf_kept)

theorem bootGo_kept {s : State} (v : Nat) (h : Kept n m q o s) :
    Kept n m q o (bootGo s v) := by
  unfold bootGo
  repeat' first
    | (with_reducible assumption) | (with_reducible apply wbit_kept) | (with_reducible apply kept_ite)
    | (with_reducible refine kept_parts ?_ rfl rfl rfl rfl) | (simp only [kept_mk_iff])

theorem coreCtrl_kept {s : State} (v : Nat) (h : Kept n m q o s) :
    Kept n m q o (coreCtrl s v) := by
  unfold coreCtrl
  repeat' first
    | (with_reducible assumption) | (with_reducible apply wf_kept) | (with_reducible apply firmwareStops_kept)
    | (with_reducible apply firmwareResumes_kept) | (with_reducible apply kept_ite)

theorem engineHalt_kept {s : State} (e : Nat) (halt : Bool) (h : Kept n m q o s) :
    Kept n m q o (engineHalt s e halt) := by
  unfold engineHalt
  repeat' first
    | (with_reducible assumption) | (with_reducible apply endBundle_kept) | (with_reducible apply State_setEng_kept)
    | (with_reducible apply resumeEngine_kept) | (with_reducible apply kept_ite)

theorem engineHalts_kept {s : State} (v : Nat) (h : Kept n m q o s) :
    Kept n m q o (engineHalts s v) := by
  unfold engineHalts
  repeat' first
    | (with_reducible assumption) | (with_reducible apply wbit_kept) | (with_reducible apply engineHalt_kept)
    | (with_reducible apply kept_ite) | (with_reducible refine kept_foldl ?_ ?_; intro _ _ _)

theorem exchange_kept {s : State} (h : Kept n m q o s) :
    Kept n m q o (exchange s) := by
  unfold exchange
  repeat' first
    | (with_reducible assumption) | (with_reducible apply wf_kept) | (with_reducible apply firmwareResumes_kept)
    | (with_reducible refine kept_parts ?_ rfl rfl rfl rfl) | (simp only [kept_mk_iff])

theorem flashWrite_kept {s : State} (tag : Nat) (slot : Nat) (b : List Byte) (h : Kept n m q o s) :
    Kept n m q o (flashWrite s tag slot b) := by
  unfold flashWrite
  repeat' first
    | (with_reducible assumption) | (with_reducible apply firewall_kept) | (with_reducible apply kept_ite)
    | (with_reducible refine kept_parts ?_ rfl rfl rfl rfl) | (simp only [kept_mk_iff])

theorem fwAlive_kept {s : State} (pair : Nat) (h : Kept n m q o s) :
    Kept n m q o (fwAlive s pair) := by
  unfold fwAlive
  repeat' first | (with_reducible assumption) | (with_reducible apply wbit_kept) | (with_reducible apply kept_ite)

theorem fwReady_kept {s : State} (pair : Nat) (h : Kept n m q o s) :
    Kept n m q o (fwReady s pair) := by
  unfold fwReady
  repeat' first
    | (with_reducible assumption) | (with_reducible apply raise_kept) | (with_reducible apply State_setPair_kept)
    | (with_reducible apply State_setStandby_kept) | (with_reducible apply kept_ite)

theorem fwSaved_kept {s : State} (pair : Nat) (h : Kept n m q o s) :
    Kept n m q o (fwSaved s pair) := by
  unfold fwSaved
  repeat' first | (with_reducible assumption) | (with_reducible apply wbit_kept) | (with_reducible apply kept_ite)

theorem fwSignal_kept {s : State} (x1 : Master) (tag : Nat) (v : Nat) (h : Kept n m q o s) :
    Kept n m q o (fwSignal s x1 tag v) := by
  unfold fwSignal
  repeat' first
    | (with_reducible assumption) | (with_reducible apply fwReady_kept) | (with_reducible apply fwSaved_kept)
    | (with_reducible apply fwAlive_kept) | (with_reducible apply firewall_kept) | (with_reducible apply kept_ite)
    | (simp only [kept_mk_iff]) | split

theorem hoFails_kept {s : State} (result : Nat) (h : Kept n m q o s) :
    Kept n m q o (hoFails s result) := by
  unfold hoFails
  repeat' first
    | (with_reducible assumption) | (with_reducible apply raise_kept) | (with_reducible apply State_setHoResult_kept)
    | (with_reducible apply State_setHo_kept)

theorem hoRequest_kept {s : State} (boundary : Nat) (tick : Nat) (h : Kept n m q o s) :
    Kept n m q o (hoRequest s boundary tick) := by
  unfold hoRequest
  repeat' first
    | (with_reducible assumption) | (with_reducible apply State_setHoResult_kept) | (with_reducible apply wr_kept)
    | (with_reducible apply State_setHo_kept) | (with_reducible apply wbit_kept) | (with_reducible apply kept_ite)
    | (with_reducible refine kept_parts ?_ rfl rfl rfl rfl) | (simp only [kept_mk_iff])

theorem hoReverts_kept {s : State} (h : Kept n m q o s) :
    Kept n m q o (hoReverts s) := by
  unfold hoReverts
  repeat' first
    | (with_reducible assumption) | (with_reducible apply exchange_kept) | (with_reducible apply State_setPair_kept)
    | (with_reducible apply flashWrite_kept) | (with_reducible apply raise_kept) | (with_reducible apply State_setStandby_kept)
    | (with_reducible apply State_setHoResult_kept) | (with_reducible apply State_setHo_kept) | (with_reducible apply wr_kept)
    | (with_reducible refine kept_parts ?_ rfl rfl rfl rfl) | (simp only [kept_mk_iff])

theorem laneFault_kept {s : State} (c : Nat) (k : Nat) (h : Kept n m q o s) :
    Kept n m q o (laneFault s c k) := by
  unfold laneFault
  repeat' first
    | (with_reducible assumption) | (with_reducible apply raise_kept) | (with_reducible apply failPath_kept)
    | (with_reducible apply retireLane_kept) | (with_reducible apply markOn_kept) | (with_reducible apply requestMove_kept)
    | (with_reducible apply State_setLanes_kept) | (with_reducible apply nextFault_kept) | (with_reducible apply kept_ite)
    | (with_reducible refine kept_parts ?_ rfl rfl rfl rfl) | (simp only [kept_mk_iff]) | split

theorem lockstepFault_kept {s : State} (pair : Nat) (h : Kept n m q o s) :
    Kept n m q o (lockstepFault s pair) := by
  unfold lockstepFault
  repeat' first
    | (with_reducible assumption) | (with_reducible apply raise_kept) | (with_reducible apply State_setPair_kept)
    | (with_reducible apply hoFails_kept) | (with_reducible apply firmwareStops_kept) | (with_reducible apply State_setStandby_kept)
    | (with_reducible apply kept_ite) | (with_reducible refine kept_parts ?_ rfl rfl rfl rfl) | (simp only [kept_mk_iff])

theorem nvCount_kept {s : State} (word : Nat) (kind : Nat) (h : Kept n m q o s) :
    Kept n m q o (nvCount s word kind) := by
  unfold nvCount
  repeat' first | (with_reducible assumption) | (with_reducible refine kept_parts ?_ rfl rfl rfl rfl) | (simp only [kept_mk_iff])

theorem promote_kept {s : State} (h : Kept n m q o s) :
    Kept n m q o (promote s) := by
  unfold promote
  repeat' first
    | (with_reducible assumption) | (with_reducible apply hoReverts_kept) | (with_reducible apply exchange_kept)
    | (with_reducible apply kept_ite) | (with_reducible refine kept_parts ?_ rfl rfl rfl rfl) | (simp only [kept_mk_iff])

theorem retireEngine_kept {s : State} (e : Nat) (byCommand : Bool) (h : Kept n m q o s) :
    Kept n m q o (retireEngine s e byCommand) := by
  unfold retireEngine
  repeat' first
    | (with_reducible assumption) | (with_reducible apply abortJobs_kept) | (with_reducible apply State_setEng_kept)
    | (with_reducible apply spareUsed_kept) | (with_reducible apply raise_kept) | (with_reducible apply readmit_kept)
    | (with_reducible apply kept_ite) | (with_reducible refine kept_parts ?_ rfl rfl rfl rfl) | (simp only [kept_mk_iff]) | split

theorem spareTakesOver_kept {s : State} (e : Nat) (byCommand : Bool) (h : Kept n m q o s) :
    Kept n m q o (spareTakesOver s e byCommand) := by
  unfold spareTakesOver
  repeat' first
    | (with_reducible assumption) | (with_reducible apply State_setEng_kept) | (with_reducible apply spareUsed_kept)
    | (with_reducible apply readmit_kept) | (with_reducible refine kept_parts ?_ rfl rfl rfl rfl) | (simp only [kept_mk_iff]) | split

theorem standbyImage_kept {s : State} (b : List Byte) (h : Kept n m q o s) :
    Kept n m q o (standbyImage s b).2 := by
  unfold standbyImage
  repeat' first
    | (with_reducible assumption) | (with_reducible apply raise_kept) | (with_reducible apply loadImage_kept)
    | (with_reducible apply flashWrite_kept) | (with_reducible apply State_setStandby_kept) | (with_reducible apply State_setPair_kept)
    | (with_reducible apply kept_ite_snd)

/-! ## PowerOps -/

theorem recordWake_kept {s : State} (src : Nat) (from_ : Nat) (abandoned : Bool) (h : Kept n m q o s) :
    Kept n m q o (recordWake s src from_ abandoned) := by
  unfold recordWake
  repeat' first | (with_reducible assumption) | (with_reducible apply wr_kept)

theorem reqStatus_kept {s : State} (v : Nat) (h : Kept n m q o s) :
    Kept n m q o (reqStatus s v) := by
  unfold reqStatus
  repeat' first | (with_reducible assumption) | (with_reducible apply wf_kept)

theorem setQueue_kept {s : State} (x1 : Option PwrReq) (h : Kept n m q o s) :
    Kept n m q o (setQueue s x1) := by
  unfold setQueue
  repeat' first
    | (with_reducible assumption) | (with_reducible apply wf_kept) | (with_reducible apply wbit_kept)
    | (with_reducible refine kept_parts ?_ rfl rfl rfl rfl) | (simp only [kept_mk_iff]) | split

theorem setLevel_kept {s : State} (l : Nat) (h : Kept n m q o s) :
    Kept n m q o (setLevel s l) := by
  unfold setLevel
  repeat' first | (with_reducible assumption) | (with_reducible apply wf_kept)

theorem exitTo_kept {s : State} (target : Nat) (h : Kept n m q o s) :
    Kept n m q o (exitTo s target) := by
  unfold exitTo
  repeat' first
    | (with_reducible assumption) | (with_reducible apply wbit_kept) | (with_reducible refine kept_parts ?_ rfl rfl rfl rfl)
    | (simp only [kept_mk_iff])

theorem refuseReq_kept {s : State} (status : Nat) (target : Nat) (h : Kept n m q o s) :
    Kept n m q o (refuseReq s status target) := by
  unfold refuseReq
  repeat' first
    | (with_reducible assumption) | (with_reducible apply raise_kept) | (with_reducible apply wf_kept)
    | (with_reducible apply reqStatus_kept)

theorem stepStart_kept {s : State} (k : Nat) (target : Nat) (h : Kept n m q o s) :
    Kept n m q o (stepStart s k target) := by
  unfold stepStart
  repeat' first
    | (with_reducible assumption) | (with_reducible apply allDrainsFall_kept) | (with_reducible apply releaseHalts_kept)
    | (with_reducible apply kept_ite) | (with_reducible refine kept_parts ?_ rfl rfl rfl rfl) | (simp only [kept_mk_iff])

theorem beginReq_kept {s : State} (r : PwrReq) (h : Kept n m q o s) :
    Kept n m q o (beginReq s r) := by
  unfold beginReq
  repeat' first
    | (with_reducible assumption) | (with_reducible apply hoFails_kept) | (with_reducible apply wbit_kept)
    | (with_reducible apply wf_kept) | (with_reducible apply reqStatus_kept) | (with_reducible apply stepStart_kept)
    | (with_reducible apply kept_ite) | (with_reducible refine kept_parts ?_ rfl rfl rfl rfl) | (simp only [kept_mk_iff])

theorem countWake_kept {s : State} (src : Nat) (h : Kept n m q o s) :
    Kept n m q o (countWake s src) := by
  unfold countWake
  repeat' first | (with_reducible assumption) | (with_reducible apply bump_kept)

theorem startReq_kept {s : State} (r : PwrReq) (h : Kept n m q o s) :
    Kept n m q o (startReq s r) := by
  unfold startReq
  repeat' first
    | (with_reducible assumption) | (with_reducible apply refuseReq_kept) | (with_reducible apply wf_kept)
    | (with_reducible apply reqStatus_kept) | (with_reducible apply raise_kept) | (with_reducible apply recordWake_kept)
    | (with_reducible apply beginReq_kept) | (with_reducible apply setQueue_kept) | (with_reducible apply exitTo_kept)
    | (with_reducible apply countWake_kept) | (with_reducible apply kept_ite) | (with_reducible refine kept_parts ?_ rfl rfl rfl rfl)
    | (simp only [kept_mk_iff])

theorem startQueued_kept {s : State} (h : Kept n m q o s) :
    Kept n m q o (startQueued s) := by
  unfold startQueued
  repeat' first
    | (with_reducible assumption) | (with_reducible apply startReq_kept) | (with_reducible apply setQueue_kept)
    | (with_reducible apply kept_ite) | split

theorem settle_kept {s : State} (new : Nat) (h : Kept n m q o s) :
    Kept n m q o (settle s new) := by
  unfold settle
  repeat' first
    | (with_reducible assumption) | (with_reducible apply wbit_kept) | (with_reducible apply wf_kept)
    | (with_reducible apply setLevel_kept) | (with_reducible apply raise_kept) | (with_reducible apply exitTo_kept)
    | (with_reducible apply recordWake_kept) | (with_reducible apply startQueued_kept) | (with_reducible apply kept_ite)
    | (with_reducible refine kept_parts ?_ rfl rfl rfl rfl) | (simp only [kept_mk_iff]) | split

theorem leaveEntry_kept {s : State} (target : Nat) (h : Kept n m q o s) :
    Kept n m q o (leaveEntry s target) := by
  unfold leaveEntry
  repeat' first
    | (with_reducible assumption) | (with_reducible apply reqStatus_kept) | (with_reducible apply settle_kept)
    | (with_reducible apply exitTo_kept) | (with_reducible apply kept_ite) | (with_reducible refine kept_parts ?_ rfl rfl rfl rfl)
    | (simp only [kept_mk_iff])

theorem abandon_kept {s : State} (r : PwrReq) (src : Nat) (h : Kept n m q o s) :
    Kept n m q o (abandon s r src) := by
  unfold abandon
  repeat' first
    | (with_reducible assumption) | (with_reducible apply raise_kept) | (with_reducible apply recordWake_kept)
    | (with_reducible apply reqStatus_kept) | (with_reducible apply setQueue_kept) | (with_reducible apply leaveEntry_kept)
    | (with_reducible apply kept_ite) | split

theorem abortPoint_kept {s t : State} {r : PwrReq} (h : Kept n m q o s) (ht : abortPoint s r = some t) : Kept n m q o t := by
  unfold abortPoint at ht
  split at ht
  · cases ht
  · split at ht
    · cases ht; exact abandon_kept _ _ h
    · cases ht; exact leaveEntry_kept _ (wf_kept _ _ _ _ _ (reqStatus_kept _ h))
    · cases ht

theorem closeAll_kept {s : State} (h : Kept n m q o s) :
    Kept n m q o (closeAll s) := by
  unfold closeAll
  repeat' first | (with_reducible assumption) | (with_reducible apply closeSessions_kept)

theorem entryDone_kept (k : Nat) {s : State} (r : PwrReq) (h : Kept n m q o s) :
    Kept n m q o (entryDone k s r) := by
  unfold entryDone
  repeat' first
    | (with_reducible assumption) | (refine abortPoint_kept ?_ (by assumption)) | (with_reducible apply settle_kept)
    | (with_reducible apply reqStatus_kept) | (with_reducible apply stepStart_kept) | (with_reducible apply kept_ite)
    | (with_reducible refine kept_parts ?_ rfl rfl rfl rfl) | (simp only [kept_mk_iff]) | split

theorem stepPathsOff_kept {s : State} (target : Nat) (h : Kept n m q o s) :
    Kept n m q o (stepPathsOff s target) := by
  unfold stepPathsOff
  repeat' first
    | (with_reducible assumption) | (with_reducible apply stepStart_kept) | (with_reducible apply fgAbort_kept)
    | (with_reducible apply allPathsOff_kept) | (with_reducible refine kept_parts ?_ rfl rfl rfl rfl) | (simp only [kept_mk_iff])

theorem islandClock_kept {s : State} (i : Nat) (b : Bool) (h : Kept n m q o s) :
    Kept n m q o (islandClock s i b) := by
  unfold islandClock
  repeat' first | (with_reducible assumption) | (with_reducible apply islandSet_kept)

theorem islandDown_kept {s : State} (i : Nat) (h : Kept n m q o s) :
    Kept n m q o (islandDown s i) := by
  unfold islandDown
  repeat' first | (with_reducible assumption) | (with_reducible apply dropParked_kept) | (with_reducible apply islandSet_kept)

theorem stepLinkIdle_kept {s : State} (h : Kept n m q o s) :
    Kept n m q o (stepLinkIdle s) := by
  unfold stepLinkIdle
  repeat' first
    | (with_reducible assumption) | (with_reducible apply portLost_kept) | (with_reducible apply synOff_kept)
    | (with_reducible apply holdover_kept) | (with_reducible refine kept_foldl ?_ ?_; intro _ _ _)
    | (with_reducible refine kept_parts ?_ rfl rfl rfl rfl) | (simp only [kept_mk_iff])

theorem stepNap_kept {s : State} (target : Nat) (h : Kept n m q o s) :
    Kept n m q o (stepNap s target) := by
  unfold stepNap
  repeat' first
    | (with_reducible assumption) | (with_reducible apply suspendDebug_kept) | (with_reducible apply abortJobs_kept)
    | (with_reducible apply State_setEng_kept) | (with_reducible apply islandDown_kept) | (with_reducible apply islandClock_kept)
    | (with_reducible apply setLevel_kept) | (with_reducible apply kept_ite) | (with_reducible refine kept_foldl ?_ ?_; intro _ _ _)
    | (with_reducible refine kept_parts ?_ rfl rfl rfl rfl) | (simp only [kept_mk_iff])

theorem storeConfig_kept {s : State} (h : Kept n m q o s) :
    Kept n m q o (storeConfig s) := by
  unfold storeConfig
  repeat' first
    | (with_reducible assumption) | (with_reducible apply State_setFe_kept) | (with_reducible refine kept_foldl ?_ ?_; intro _ _ _)
    | (with_reducible refine kept_parts ?_ rfl rfl rfl rfl) | (simp only [kept_mk_iff])

theorem stepListen_kept {s : State} (h : Kept n m q o s) :
    Kept n m q o (stepListen s) := by
  unfold stepListen
  repeat' first
    | (with_reducible assumption) | (with_reducible apply safeDue_kept) | (with_reducible apply reachElapsed_kept)
    | (with_reducible apply State_setBias_kept) | (with_reducible apply setLevel_kept) | (with_reducible apply islandDown_kept)
    | (with_reducible refine kept_foldl ?_ ?_; intro _ _ _) | (with_reducible refine kept_parts ?_ rfl rfl rfl rfl)
    | (simp only [kept_mk_iff])

theorem entryStep_kept {s : State} (r : PwrReq) (h : Kept n m q o s) :
    Kept n m q o (entryStep s r) := by
  unfold entryStep
  repeat' first
    | (with_reducible assumption) | (refine abortPoint_kept ?_ (by assumption)) | (with_reducible apply entryDone_kept)
    | (with_reducible apply reachCount_kept) | (with_reducible apply stepPathsOff_kept) | (with_reducible apply islandClock_kept)
    | (with_reducible apply setLevel_kept) | (with_reducible apply islandDown_kept) | (with_reducible apply stepLinkIdle_kept)
    | (with_reducible apply stepNap_kept) | (with_reducible apply raise_kept) | (with_reducible apply storeConfig_kept)
    | (with_reducible apply stepListen_kept) | (with_reducible apply kept_ite) | (with_reducible refine kept_foldl ?_ ?_; intro _ _ _)
    | (with_reducible refine kept_parts ?_ rfl rfl rfl rfl) | (simp only [kept_mk_iff]) | split

theorem islandUp_kept {s : State} (i : Nat) (h : Kept n m q o s) :
    Kept n m q o (islandUp s i) := by
  unfold islandUp
  repeat' first | (with_reducible assumption) | (with_reducible apply islandSet_kept)

theorem synWakes_kept {s : State} (x1 : Nat) (h : Kept n m q o s) :
    Kept n m q o (synWakes s x1) := by
  unfold synWakes
  repeat' first
    | (with_reducible assumption) | (with_reducible apply tuneWord_kept) | (with_reducible apply applyForced_kept)
    | (with_reducible apply trunkGood_kept) | (with_reducible apply State_setSyn_kept) | (with_reducible apply kept_ite)

theorem linkWakes_kept {s : State} (h : Kept n m q o s) :
    Kept n m q o (linkWakes s) := by
  unfold linkWakes
  repeat' first
    | (with_reducible assumption) | (with_reducible apply synWakes_kept) | (with_reducible refine kept_foldl ?_ ?_; intro _ _ _)
    | (with_reducible refine kept_parts ?_ rfl rfl rfl rfl) | (simp only [kept_mk_iff])

theorem loadPool_kept {s : State} (h : Kept n m q o s) :
    Kept n m q o (loadPool s) := by
  unfold loadPool
  repeat' first
    | (with_reducible assumption) | (with_reducible apply State_setEng_kept) | (with_reducible apply kept_ite)
    | (with_reducible refine kept_foldl ?_ ?_; intro _ _ _)

theorem reportRejected_kept {s : State} (h : Kept n m q o s) :
    Kept n m q o (reportRejected s) := by
  unfold reportRejected
  repeat' first
    | (with_reducible assumption) | (with_reducible apply raise_kept) | (with_reducible refine kept_parts ?_ rfl rfl rfl rfl)
    | (simp only [kept_mk_iff]) | split

theorem napExit_kept {s : State} (h : Kept n m q o s) :
    Kept n m q o (napExit s) := by
  unfold napExit
  repeat' first
    | (with_reducible assumption) | (with_reducible apply islandUp_kept) | (with_reducible apply loadPool_kept)
    | (with_reducible apply linkWakes_kept) | (with_reducible apply islandClock_kept) | (with_reducible apply reportRejected_kept)
    | (with_reducible apply closeAll_kept) | (with_reducible apply setLevel_kept) | (with_reducible apply kept_ite)
    | (with_reducible refine kept_foldl ?_ ?_; intro _ _ _) | (with_reducible refine kept_parts ?_ rfl rfl rfl rfl)
    | (simp only [kept_mk_iff])

theorem queueReq_kept {s : State} (r : PwrReq) (h : Kept n m q o s) :
    Kept n m q o (queueReq s r) := by
  unfold queueReq
  repeat' first | (with_reducible assumption) | (with_reducible apply setQueue_kept) | (with_reducible apply reqStatus_kept)

theorem powerRequest_kept {s : State} (target : Nat) (back : Bool) (h : Kept n m q o s) :
    Kept n m q o (powerRequest s target back) := by
  unfold powerRequest
  repeat' first
    | (with_reducible assumption) | (with_reducible apply queueReq_kept) | (with_reducible apply startReq_kept)
    | (with_reducible apply kept_ite) | (with_reducible refine kept_parts ?_ rfl rfl rfl rfl) | (simp only [kept_mk_iff]) | split

theorem shutdownEnds_kept {s : State} (h : Kept n m q o s) :
    Kept n m q o (shutdownEnds s) := by
  unfold shutdownEnds
  repeat' first
    | (with_reducible assumption) | (with_reducible apply wbit_kept) | (with_reducible apply startQueued_kept)
    | (with_reducible apply kept_ite)

theorem storeCal_kept {s : State} (h : Kept n m q o s) :
    Kept n m q o (storeCal s) := by
  unfold storeCal
  repeat' first | (with_reducible assumption) | (with_reducible refine kept_parts ?_ rfl rfl rfl rfl) | (simp only [kept_mk_iff])

theorem thermalShutdown_kept {s : State} (hottest : Nat) (h : Kept n m q o s) :
    Kept n m q o (thermalShutdown s hottest) := by
  unfold thermalShutdown
  repeat' first
    | (with_reducible assumption) | (with_reducible apply raise_kept) | (with_reducible apply wbit_kept)
    | (with_reducible apply allDrainsFall_kept) | (with_reducible apply reqStatus_kept) | (with_reducible apply setQueue_kept)
    | (with_reducible apply entryStep_kept) | (with_reducible apply beginReq_kept) | (with_reducible apply leaveEntry_kept)
    | (with_reducible apply settle_kept) | (with_reducible apply kept_ite) | (with_reducible refine kept_parts ?_ rfl rfl rfl rfl)
    | (simp only [kept_mk_iff]) | split

theorem toDepth0_kept {s : State} (target : Nat) (h : Kept n m q o s) :
    Kept n m q o (toDepth0 s target) := by
  unfold toDepth0
  repeat' first
    | (with_reducible assumption) | (with_reducible apply islandClock_kept) | (with_reducible apply islandUp_kept)
    | (with_reducible apply enterPathState_kept) | (with_reducible apply setLevel_kept) | (with_reducible apply drainRise_kept)
    | (with_reducible apply startNext_kept) | (with_reducible apply kept_ite) | (with_reducible refine kept_foldl ?_ ?_; intro _ _ _)
    | (with_reducible refine kept_parts ?_ rfl rfl rfl rfl) | (simp only [kept_mk_iff])

theorem wakeFires_kept {s : State} (src : Nat) (h : Kept n m q o s) :
    Kept n m q o (wakeFires s src) := by
  unfold wakeFires
  repeat' first
    | (with_reducible assumption) | (with_reducible apply countWake_kept) | (with_reducible apply abandon_kept)
    | (with_reducible apply exitTo_kept) | (with_reducible apply recordWake_kept) | (with_reducible apply kept_ite)
    | (with_reducible refine kept_parts ?_ rfl rfl rfl rfl) | (simp only [kept_mk_iff]) | split

theorem wakeTransition_kept {s : State} (target : Nat) (h : Kept n m q o s) :
    Kept n m q o (wakeTransition s target) := by
  unfold wakeTransition
  repeat' first
    | (with_reducible assumption) | (with_reducible apply reachElapsed_kept) | (with_reducible apply reqStatus_kept)
    | (with_reducible apply settle_kept) | (with_reducible apply reachCount_kept) | (with_reducible apply toDepth0_kept)
    | (with_reducible apply kept_ite) | split

end Sys2Proof.Machine
end

