-- ==== Sys2Proof/Laws/KeptShared.lean ====
section
/-! SUPPORT. What `Kept` passes through: transactions, rings, admission, boot, debug and the Diong endpoint. -/

namespace Sys2Proof.Machine

variable {n m : Nat} {q : List Instr} {o : List OutMsg}

/-! ## DigestOps -/

theorem recomputeDigests_kept {s : State} (h : Kept n m q o s) :
    Kept n m q o (recomputeDigests s) := by
  unfold recomputeDigests
  repeat' first
    | (with_reducible assumption) | (with_reducible apply draw_kept) | (with_reducible refine kept_parts ?_ rfl rfl rfl rfl)
    | (simp only [kept_mk_iff])

/-! ## MboxOps -/

theorem mbox_kept {s : State} (c : Master) (len : Nat) {f : List Byte → State → State}
    (ha : ∀ b, Kept n m q o (f b s)) (h : Kept n m q o s) :
    Kept n m q o (mbox s c len f) := by
  unfold mbox
  repeat' first
    | (with_reducible assumption) | (with_reducible apply emit_kept) | (with_reducible apply wr_kept)
    | (with_reducible apply firewall_kept) | (with_reducible apply ha) | split

theorem mboxDone_kept {s : State} (code : Nat) (b : List Byte) (h : Kept n m q o s) :
    Kept n m q o (mboxDone s code b) := by
  unfold mboxDone
  repeat' first | (with_reducible assumption) | (with_reducible apply wr_kept) | (with_reducible refine kept_foldl ?_ ?_; intro _ _ _)

theorem mboxAttest_kept (b : List Byte) {s : State} (h : Kept n m q o s) :
    Kept n m q o (mboxAttest b s) := by
  unfold mboxAttest
  repeat' first
    | (with_reducible assumption) | (with_reducible apply attest_kept) | (with_reducible apply mboxDone_kept)
    | (with_reducible apply wr_kept) | (with_reducible apply kept_ite)

theorem mboxCheckTag_kept (t : Transport) (b : List Byte) {s : State} (h : Kept n m q o s) :
    Kept n m q o (mboxCheckTag t b s) := by
  unfold mboxCheckTag
  repeat' first | (with_reducible assumption) | (with_reducible apply mboxDone_kept)

theorem mboxKey_kept (role : Role) (b : List Byte) {s : State} (h : Kept n m q o s) :
    Kept n m q o (mboxKey role b s) := by
  unfold mboxKey
  repeat' first | (with_reducible assumption) | (with_reducible apply keyEnvelope_kept) | (with_reducible apply mboxDone_kept)

theorem mboxMakeTag_kept (t : Transport) (b : List Byte) {s : State} (h : Kept n m q o s) :
    Kept n m q o (mboxMakeTag t b s) := by
  unfold mboxMakeTag
  repeat' first | (with_reducible assumption) | (with_reducible apply mboxDone_kept) | split

theorem mboxVerify_kept (b : List Byte) {s : State} (h : Kept n m q o s) :
    Kept n m q o (mboxVerify b s) := by
  unfold mboxVerify
  repeat' first | (with_reducible assumption) | (with_reducible apply mboxDone_kept)

theorem mboxToken_kept (b : List Byte) {s : State} (h : Kept n m q o s) :
    Kept n m q o (mboxToken b s) := by
  unfold mboxToken
  repeat' first
    | (with_reducible assumption) | (with_reducible apply mboxDone_kept) | (with_reducible apply lcTransition_kept)
    | (with_reducible apply wr_kept) | (with_reducible apply kept_ite)

theorem mboxRoot_kept (b : List Byte) {s : State} (h : Kept n m q o s) :
    Kept n m q o (mboxRoot b s) := by
  unfold mboxRoot
  repeat' first | (with_reducible assumption) | (with_reducible apply rootRecord_kept) | (with_reducible apply mboxDone_kept)

theorem mboxRandom_kept (b : List Byte) {s : State} (h : Kept n m q o s) :
    Kept n m q o (mboxRandom b s) := by
  unfold mboxRandom
  repeat' first | (with_reducible assumption) | (with_reducible apply drawBytes_kept) | (with_reducible apply mboxDone_kept)

theorem mboxOf_kept (code : Nat) (b : List Byte) {s : State} (h : Kept n m q o s) :
    Kept n m q o (mboxOf code b s) := by
  unfold mboxOf
  repeat' first
    | (with_reducible assumption) | (with_reducible apply mboxVerify_kept) | (with_reducible apply mboxCheckTag_kept)
    | (with_reducible apply mboxMakeTag_kept) | (with_reducible apply mboxKey_kept) | (with_reducible apply mboxAttest_kept)
    | (with_reducible apply mboxToken_kept) | (with_reducible apply mboxRoot_kept) | (with_reducible apply mboxRandom_kept)
    | (with_reducible apply wr_kept) | split

theorem mboxWrite_kept {s : State} (x1 : Master) (v : Nat) (h : Kept n m q o s) :
    Kept n m q o (mboxWrite s x1 v) := by
  unfold mboxWrite
  repeat' first
    | (with_reducible assumption) | (intro _) | (with_reducible apply mbox_kept) | (with_reducible apply mboxOf_kept)
    | (with_reducible apply kept_ite)

/-! ## MoverOps -/

theorem ringCompletion_kept {s : State} (r : Nat) (full : Bool) (h : Kept n m q o s) :
    Kept n m q o (ringCompletion s r full) := by
  unfold ringCompletion
  repeat' first | (with_reducible assumption) | (with_reducible apply raise_kept) | (with_reducible apply setFlag_kept)

theorem settleRing_kept {s : State} (r : Nat) (h : Kept n m q o s) :
    Kept n m q o (settleRing s r) := by
  unfold settleRing
  repeat' first
    | (with_reducible assumption) | (with_reducible apply sramStore_kept) | (with_reducible apply ringCompletion_kept)
    | (with_reducible apply kept_ite) | (with_reducible refine kept_foldl ?_ ?_; intro _ _ _)
    | (with_reducible refine kept_parts ?_ rfl rfl rfl rfl) | (simp only [kept_mk_iff])

theorem moverFallback_kept {s : State} (h : Kept n m q o s) :
    Kept n m q o (moverFallback s) := by
  unfold moverFallback
  repeat' first
    | (with_reducible assumption) | (with_reducible apply settleRing_kept) | (with_reducible apply raise_kept)
    | (with_reducible refine kept_foldl ?_ ?_; intro _ _ _) | (with_reducible refine kept_parts ?_ rfl rfl rfl rfl)
    | (simp only [kept_mk_iff]) | split

theorem openBatch_kept {s : State} (r : Nat) (tl : Bool) (h : Kept n m q o s) :
    Kept n m q o (openBatch s r tl) := by
  unfold openBatch
  repeat' first
    | (with_reducible assumption) | (with_reducible apply wf_kept) | (with_reducible refine kept_parts ?_ rfl rfl rfl rfl)
    | (simp only [kept_mk_iff])

theorem passTurn_kept {s : State} (r : Nat) (h : Kept n m q o s) :
    Kept n m q o (passTurn s r) := by
  unfold passTurn
  repeat' first | (with_reducible assumption) | (with_reducible refine kept_parts ?_ rfl rfl rfl rfl) | (simp only [kept_mk_iff])

theorem switchMover_kept {s0 : State} {s1 : State} (h : Kept n m q o s1) :
    Kept n m q o (switchMover s0 s1) := by
  unfold switchMover
  repeat' first
    | (with_reducible assumption) | (with_reducible apply settleRing_kept) | (with_reducible apply kept_ite)
    | (with_reducible refine kept_parts ?_ rfl rfl rfl rfl) | (simp only [kept_mk_iff]) | split

theorem startBatch_kept {s : State} (r : Nat) (tl : Bool) (h : Kept n m q o s) :
    Kept n m q o (startBatch s r tl) := by
  unfold startBatch
  repeat' first
    | (with_reducible assumption) | (with_reducible apply openBatch_kept) | (with_reducible apply switchMover_kept)
    | (with_reducible apply kept_ite) | (with_reducible refine kept_parts ?_ rfl rfl rfl rfl) | (simp only [kept_mk_iff])

/-! ## Shared -/

theorem armStep_kept {s : State} (t : Nat) (h : Kept n m q o s) :
    Kept n m q o (armStep s t) := by
  unfold armStep
  repeat' first
    | (with_reducible assumption) | (with_reducible apply wbit_kept) | (with_reducible apply kept_ite)
    | (with_reducible refine kept_parts ?_ rfl rfl rfl rfl) | (simp only [kept_mk_iff])

theorem thmMirror_kept {s : State} (h : Kept n m q o s) :
    Kept n m q o (thmMirror s) := by
  unfold thmMirror
  repeat' first | (with_reducible assumption) | (with_reducible refine kept_parts ?_ rfl rfl rfl rfl) | (simp only [kept_mk_iff])

theorem wrxCheck_kept {s : State} (h : Kept n m q o s) :
    Kept n m q o (wrxCheck s) := by
  unfold wrxCheck
  repeat' first | (with_reducible assumption) | (with_reducible apply wbit_kept) | (with_reducible apply kept_ite)

theorem afterWrite_kept {s : State} (tag : Nat) (id : RegId) (ix : List Nat) (old : Nat) (asked : optParam Bool false) (h : Kept n m q o s) :
    Kept n m q o (afterWrite s tag id ix old asked) := by
  unfold afterWrite
  repeat' first
    | (with_reducible assumption) | (with_reducible apply armStep_kept) | (with_reducible apply askAgain_kept)
    | (with_reducible apply allPathsOff_kept) | (with_reducible apply requestSync_kept) | (with_reducible apply dropParked_kept)
    | (with_reducible apply moverFallback_kept) | (with_reducible apply dutyWritten_kept) | (with_reducible apply fanUpdate_kept)
    | (with_reducible apply thmMirror_kept) | (with_reducible apply wf_kept) | (with_reducible apply wrxCheck_kept)
    | (with_reducible apply spurEdge_kept) | (with_reducible apply clockPath_kept) | (with_reducible apply kept_ite)
    | (with_reducible refine kept_parts ?_ rfl rfl rfl rfl) | (simp only [kept_mk_iff]) | split

theorem bankWrite_kept {s : State} (tag : Nat) (p : Nat) (b : Nat) (i : Nat) (v : Nat) (h : Kept n m q o s) :
    Kept n m q o (bankWrite s tag p b i v) := by
  unfold bankWrite
  repeat' first
    | (with_reducible assumption) | (with_reducible apply State_setDpd_kept) | (with_reducible apply bankReject_kept)
    | (with_reducible apply kept_ite)

theorem capRelease_kept {s : State} (tag : Nat) (c : Nat) (value : Nat) (h : Kept n m q o s) :
    Kept n m q o (capRelease s tag c value) := by
  unfold capRelease
  repeat' first
    | (with_reducible assumption) | (with_reducible apply askWaiting_kept) | (with_reducible apply releaseBuffer_kept)
    | (with_reducible apply firewall_kept) | (with_reducible apply kept_ite)

theorem dbgRefuse_kept {s : State} (tag : Nat) (h : Kept n m q o s) :
    Kept n m q o (dbgRefuse s tag) := by
  unfold dbgRefuse
  repeat' first | (with_reducible assumption) | (with_reducible apply firewall_kept) | (with_reducible apply bump_kept)

theorem dpdRequests_kept {s : State} (bits : Nat) (h : Kept n m q o s) :
    Kept n m q o (dpdRequests s bits) := by
  unfold dpdRequests
  repeat' first
    | (with_reducible assumption) | (with_reducible apply makePending_kept) | (with_reducible apply askAgain_kept)
    | (with_reducible apply kept_ite) | (with_reducible refine kept_foldl ?_ ?_; intro _ _ _)

theorem gate_kept {s : State} (x1 : Master) (tag : Nat) (a : Nat) (write : Bool) (h : Kept n m q o s) :
    Kept n m q o (gate s x1 tag a write).2 := by
  unfold gate
  repeat' first
    | (with_reducible assumption) | (with_reducible apply addrFault_kept) | (with_reducible apply firewall_kept)
    | (with_reducible apply kept_ite_snd) | split

theorem regRead_kept {s : State} (x1 : Master) (id : RegId) (ix : List Nat) (h : Kept n m q o s) :
    Kept n m q o (regRead s x1 id ix).2 := by
  unfold regRead
  repeat' first
    | (with_reducible assumption) | (with_reducible apply wr_kept) | (with_reducible apply State_setEng_kept)
    | (with_reducible apply wbit_kept) | (with_reducible apply challengeRead_kept) | (with_reducible apply kept_ite_snd)
    | (simp only [kept_mk_iff]) | split

theorem readWord_reg_kept (x0 : Master) {s : State} (a : Nat) (h : Kept n m q o s) :
    Kept n m q o (readWord.reg x0 s a).2 := by
  unfold readWord.reg
  repeat' first
    | (with_reducible assumption) | (with_reducible apply regRead_kept) | (with_reducible apply kept_ite_snd) | (simp only [kept_mk_iff])
    | split

theorem readWord_kept {s : State} (x1 : Master) (tag : Nat) (a : Nat) (h : Kept n m q o s) :
    Kept n m q o (readWord s x1 tag a).2 := by
  unfold readWord
  repeat' first
    | (with_reducible assumption) | (with_reducible apply readWord_reg_kept) | (with_reducible apply kept_ite_snd)
    | (simp only [kept_mk_iff]) | split

theorem readWords_kept (x : Master) (tag k a : Nat) {s : State} (h : Kept n m q o s) :
    Kept n m q o (readWords x tag k a s).2 := by
  induction k generalizing a s with
  | zero => exact h
  | succ k ih => exact ih _ (readWord_kept _ _ _ h)

theorem fabRead_kept {s : State} (x1 : Master) (tag : Nat) (a : Nat) (x4 : Nat) (ring : optParam (Option Nat) none) (port : optParam Nat 42) (h : Kept n m q o s) :
    Kept n m q o (fabRead s x1 tag a x4 ring port).2.2 := by
  unfold fabRead
  repeat' first
    | (with_reducible assumption) | (with_reducible apply gate_kept) | (with_reducible apply sramRead_kept)
    | (with_reducible apply drawBytes_kept) | (with_reducible apply readWords_kept) | (simp only [kept_mk_iff])
    | (with_reducible refine kept_eq_snd (by assumption) ?_) | split

theorem synEnable_kept {s : State} (x1 : Nat) (en : Bool) (h : Kept n m q o s) :
    Kept n m q o (synEnable s x1 en) := by
  unfold synEnable
  repeat' first
    | (with_reducible assumption) | (with_reducible apply wbit_kept) | (with_reducible apply synOff_kept)
    | (with_reducible apply tuneSyn_kept) | (with_reducible apply kept_ite)

theorem postWrite_kept {s : State} (e : Nat) (value : Nat) (tag : Nat) (h : Kept n m q o s) :
    Kept n m q o (postWrite s e value tag) := by
  unfold postWrite
  repeat' first | (with_reducible assumption) | (with_reducible apply postJob_kept)

theorem ringDoorbell_kept {s : State} (e : Nat) (h : Kept n m q o s) :
    Kept n m q o (ringDoorbell s e) := by
  unfold ringDoorbell
  repeat' first | (with_reducible assumption) | (with_reducible apply State_setEng_kept) | (with_reducible apply askAgain_kept)

theorem hrxArm_kept {s : State} (value : Nat) (h : Kept n m q o s) :
    Kept n m q o (hrxArm s value) := by
  unfold hrxArm
  repeat' first
    | (with_reducible assumption) | (with_reducible apply wf_kept) | (with_reducible apply askAgain_kept)
    | (with_reducible apply kept_ite)

theorem lockWrite_kept {s : State} (tag : Nat) (value : Nat) (h : Kept n m q o s) :
    Kept n m q o (lockWrite s tag value) := by
  unfold lockWrite
  repeat' first
    | (with_reducible assumption) | (with_reducible apply grantSet_kept) | (with_reducible apply raise_kept)
    | (with_reducible apply memFault_kept) | (with_reducible apply kept_ite) | (with_reducible refine kept_parts ?_ rfl rfl rfl rfl)
    | (simp only [kept_mk_iff])

theorem trigRing_kept {s : State} (r : Nat) (tl : Bool) (h : Kept n m q o s) :
    Kept n m q o (trigRing s r tl) := by
  unfold trigRing
  repeat' first
    | (with_reducible assumption) | (with_reducible apply startBatch_kept) | (with_reducible apply wf_kept)
    | (with_reducible apply raise_kept) | (with_reducible apply setFlag_kept) | (with_reducible apply bump_kept)
    | (with_reducible apply kept_ite) | (simp only [kept_mk_iff]) | split

theorem regAction_kept {s : State} (x1 : Master) (tag : Nat) (id : RegId) (ix : List Nat) (v : Nat) (h : Kept n m q o s) :
    Kept n m q o (regAction s x1 tag id ix v) := by
  unfold regAction
  repeat' first
    | (with_reducible assumption) | (with_reducible apply coefWrite_kept) | (with_reducible apply requestMove_kept)
    | (with_reducible apply writeFields_kept) | (with_reducible apply syncWrite_kept) | (with_reducible apply synEnable_kept)
    | (with_reducible apply forceTune_kept) | (with_reducible apply capRelease_kept) | (with_reducible apply failPath_kept)
    | (with_reducible apply healClear_kept) | (with_reducible apply requestHo_kept) | (with_reducible apply dpdRequests_kept)
    | (with_reducible apply postWrite_kept) | (with_reducible apply ringDoorbell_kept) | (with_reducible apply retireEngine_kept)
    | (with_reducible apply hrxArm_kept) | (with_reducible apply lockWrite_kept) | (with_reducible apply trigRing_kept)
    | (with_reducible apply powerRequest_kept) | (with_reducible apply strobeMask_kept) | (with_reducible apply drainRequest_kept)
    | (with_reducible apply faultClear_kept) | (with_reducible apply codeWrite_kept) | (with_reducible apply monTrigger_kept)
    | (with_reducible apply clearSticky_kept) | (with_reducible apply mboxWrite_kept) | (with_reducible apply endDebug_kept)
    | (with_reducible apply coreCtrl_kept) | (with_reducible apply engineHalts_kept) | (with_reducible apply hoRequest_kept)
    | (with_reducible apply fwSignal_kept) | (with_reducible apply bootGo_kept) | (with_reducible apply kept_ite)
    | (simp only [kept_mk_iff]) | split

theorem regWrite_kept {s : State} (x1 : Master) (tag : Nat) (id : RegId) (ix : List Nat) (v : Nat) (h : Kept n m q o s) :
    Kept n m q o (regWrite s x1 tag id ix v) := by
  unfold regWrite
  repeat' first
    | (with_reducible assumption) | (with_reducible apply fwSignal_kept) | (with_reducible apply regAction_kept)
    | (with_reducible apply dbgRefuse_kept) | (with_reducible apply firewall_kept) | (with_reducible apply afterWrite_kept)
    | (with_reducible apply writeFields_kept) | (with_reducible apply kept_ite) | split

theorem writeOne_kept (x0 : Master) (tag : Nat) (a : Nat) (l : List Byte) {s : State} (h : Kept n m q o s) :
    Kept n m q o (writeOne x0 tag a l s).2 := by
  unfold writeOne
  repeat' first
    | (with_reducible assumption) | (with_reducible apply regWrite_kept) | (with_reducible apply State_setEng_kept)
    | (with_reducible apply firewall_kept) | (with_reducible apply bankWrite_kept) | (with_reducible apply kept_ite)
    | (with_reducible apply kept_ite_snd) | (simp only [kept_mk_iff]) | split

theorem writeBytes_kept (x : Master) (tag k a : Nat) (l : List Byte) {s : State} (h : Kept n m q o s) :
    Kept n m q o (writeBytes x tag k a l s) := by
  induction k generalizing a l s with
  | zero => exact h
  | succ k ih =>
    unfold writeBytes
    split
    · exact h
    · exact ih _ _ (writeOne_kept _ _ _ _ h)

theorem fabWrite_kept {s : State} (x1 : Master) (tag : Nat) (a : Nat) (b : List Byte) (ring : optParam (Option Nat) none) (h : Kept n m q o s) :
    Kept n m q o (fabWrite s x1 tag a b ring).2 := by
  unfold fabWrite
  repeat' first
    | (with_reducible assumption) | (with_reducible apply gate_kept) | (with_reducible apply sramWriteBy_kept)
    | (with_reducible apply nvCount_kept) | (with_reducible apply writeBytes_kept) | (with_reducible refine kept_foldl ?_ ?_; intro _ _ _)
    | (simp only [kept_mk_iff]) | (with_reducible refine kept_eq_snd (by assumption) ?_) | split

theorem regWriteBy_kept {s : State} (x1 : Master) (tag : Nat) (a : Nat) (value : Nat) (h : Kept n m q o s) :
    Kept n m q o (regWriteBy s x1 tag a value) := by
  unfold regWriteBy
  repeat' first
    | (with_reducible assumption) | (with_reducible apply gate_kept) | (with_reducible apply emit_kept)
    | (with_reducible apply regWrite_kept) | (with_reducible apply writeBytes_kept)
    | (with_reducible refine kept_eq_snd (by assumption) ?_) | split

/-! ## DmaOps -/

theorem advanceHead_kept {s : State} (r : Nat) (h : Kept n m q o s) :
    Kept n m q o (advanceHead s r) := by
  unfold advanceHead
  repeat' first | (with_reducible assumption) | (with_reducible apply wf_kept)

theorem chainRing_kept {s : State} (r : Nat) (d : Desc) (h : Kept n m q o s) :
    Kept n m q o (chainRing s r d) := by
  unfold chainRing
  repeat' first
    | (with_reducible assumption) | (with_reducible apply firewall_kept) | (with_reducible apply trigRing_kept)
    | (with_reducible apply kept_ite) | split

theorem fetchDesc_kept {s : State} (r : Nat) (h : Kept n m q o s) :
    Kept n m q o (fetchDesc s r).2.2.2 := by
  unfold fetchDesc
  repeat' first | (with_reducible assumption) | (with_reducible apply fabRead_kept)

theorem readSource_kept {s : State} (r : Nat) (tag : Nat) (d : Desc) (h : Kept n m q o s) :
    Kept n m q o (readSource s r tag d).2.2 := by
  unfold readSource
  repeat' first
    | (with_reducible assumption) | (with_reducible apply fabRead_kept) | (with_reducible apply kept_ite_trd)
    | (with_reducible refine kept_foldl_trd ?_ ?_; intro _ _ _)

theorem writePieces_kept {s : State} (r : Nat) (tag : Nat) (d : Desc) (data : List Byte) (p : List (Nat × Nat × Nat)) (h : Kept n m q o s) :
    Kept n m q o (writePieces s r tag d data p).2 := by
  unfold writePieces
  repeat' first
    | (with_reducible assumption) | (with_reducible apply fabWrite_kept) | (with_reducible apply kept_ite_snd)
    | (with_reducible refine kept_foldl_snd ?_ ?_; intro _ _ _)

theorem descHalf_kept {s : State} (r : Nat) (h : Kept n m q o s) :
    Kept n m q o (descHalf s r) := by
  unfold descHalf
  repeat' first
    | (with_reducible assumption) | (with_reducible apply fetchDesc_kept) | (with_reducible apply readSource_kept)
    | (with_reducible apply writePieces_kept) | (with_reducible apply ringCompletion_kept) | (with_reducible apply kept_ite)
    | (with_reducible refine kept_parts ?_ rfl rfl rfl rfl) | (simp only [kept_mk_iff])

theorem dropBatch_kept {s : State} (r : Nat) (h : Kept n m q o s) :
    Kept n m q o (dropBatch s r) := by
  unfold dropBatch
  repeat' first | (with_reducible assumption) | (with_reducible refine kept_parts ?_ rfl rfl rfl rfl) | (simp only [kept_mk_iff])

theorem haltRing_kept {s : State} (r : Nat) (code : Nat) (h : Kept n m q o s) :
    Kept n m q o (haltRing s r code) := by
  unfold haltRing
  repeat' first
    | (with_reducible assumption) | (with_reducible apply wf_kept) | (with_reducible apply raise_kept)
    | (with_reducible apply dropBatch_kept)

theorem endBatch_kept {s : State} (r : Nat) (h : Kept n m q o s) :
    Kept n m q o (endBatch s r) := by
  unfold endBatch
  repeat' first
    | (with_reducible assumption) | (with_reducible apply openBatch_kept) | (with_reducible apply wf_kept)
    | (with_reducible apply dropBatch_kept) | (with_reducible apply kept_ite)

theorem writeBack_kept {s : State} (r : Nat) (tag : Nat) (a : Nat) (code : Nat) (h : Kept n m q o s) :
    Kept n m q o (writeBack s r tag a code) := by
  unfold writeBack
  repeat' first
    | (with_reducible assumption) | (with_reducible apply fabRead_kept) | (with_reducible apply fabWrite_kept)
    | (with_reducible apply kept_ite)

theorem descPerform_kept {s : State} (r : Nat) (h : Kept n m q o s) :
    Kept n m q o (descPerform s r) := by
  unfold descPerform
  repeat' first
    | (with_reducible assumption) | (with_reducible apply fetchDesc_kept) | (with_reducible apply haltRing_kept)
    | (with_reducible apply endBatch_kept) | (with_reducible apply raise_kept) | (with_reducible apply writeBack_kept)
    | (with_reducible apply readSource_kept) | (with_reducible apply writePieces_kept) | (with_reducible apply ringCompletion_kept)
    | (with_reducible apply advanceHead_kept) | (with_reducible apply chainRing_kept) | (with_reducible apply kept_ite)
    | (with_reducible refine kept_parts ?_ rfl rfl rfl rfl) | (simp only [kept_mk_iff])

theorem nextRing_kept {s0 : State} {s1 : State} (r : Nat) (h : Kept n m q o s1) :
    Kept n m q o (nextRing s0 s1 r) := by
  unfold nextRing
  repeat' first
    | (with_reducible assumption) | (with_reducible apply switchMover_kept) | (with_reducible apply passTurn_kept)
    | (with_reducible apply kept_ite)

theorem descRun_kept {s : State} (r : Nat) (h : Kept n m q o s) :
    Kept n m q o (descRun s r) := by
  unfold descRun
  repeat' first
    | (with_reducible assumption) | (with_reducible apply nextRing_kept) | (with_reducible apply descPerform_kept)
    | (with_reducible apply kept_ite)

theorem holdRing_kept {s : State} (x1 : Nat) (h : Kept n m q o s) :
    Kept n m q o (holdRing s x1) := by
  unfold holdRing
  repeat' first
    | (with_reducible assumption) | (with_reducible apply fetchDesc_kept) | (with_reducible apply haltRing_kept)
    | (with_reducible apply writeBack_kept) | (with_reducible apply kept_ite) | (simp only [kept_mk_iff]) | split

theorem ringEnable_kept {s : State} (r : Nat) (en : Bool) (h : Kept n m q o s) :
    Kept n m q o (ringEnable s r en) := by
  unfold ringEnable
  repeat' first
    | (with_reducible assumption) | (with_reducible apply wf_kept) | (with_reducible apply settleRing_kept)
    | (with_reducible apply nextRing_kept) | (with_reducible apply dropBatch_kept) | (with_reducible apply kept_ite)

/-! ## AdmOps -/

theorem unstage_sorted {m snap : Sparse RegVal} {l : List Nat} (h : spSorted m = true) : spSorted (unstage m snap l) = true := spSorted_filter _ h

/-- Staged copies taken away leave one per register. -/
theorem staged_kept {s : State} (r : Sparse RegVal) (x : Sparse ObjVal) (hr : spSorted r = true) (h : Kept n m q o s) :
    Kept n m q o { s with objsStaged := x, regsStaged := r } :=
  ⟨⟨h.inv.memory, h.inv.regs, hr, h.inv.islands, h.inv.log, h.inv.spiIn, h.inv.spiOut, h.inv.stats, h.inv.counts⟩,
    h.pending, h.elapsed, h.drawn, h.out⟩

theorem abortStaged_kept {s : State} (role : Role) (h : Kept n m q o s) : Kept n m q o (abortStaged s role) :=
  staged_kept _ _ (spSorted_filter _ h.inv.staged) h

theorem commitReg_kept {s : State} (a : Nat) (x : Nat) (h : Kept n m q o s) :
    Kept n m q o (commitReg s a x) := by
  unfold commitReg
  repeat' first | (with_reducible assumption) | (with_reducible apply wr_kept) | (simp only [kept_mk_iff]) | split

theorem derivePps_kept {v : State} (h : Kept n m q o v) :
    Kept n m q o (derivePps v) := by
  unfold derivePps
  repeat' first | (with_reducible assumption) | (with_reducible apply wr_kept)

theorem deriveEvents_kept {v : State} (h : Kept n m q o v) :
    Kept n m q o (deriveEvents v) := by
  unfold deriveEvents
  repeat' first | (with_reducible assumption) | (with_reducible apply wr_kept) | (with_reducible refine kept_foldl ?_ ?_; intro _ _ _)

theorem derivePattern_kept {v : State} (h : Kept n m q o v) :
    Kept n m q o (derivePattern v) := by
  unfold derivePattern
  repeat' first | (with_reducible assumption) | (with_reducible apply wr_kept) | (with_reducible refine kept_foldl ?_ ?_; intro _ _ _)

theorem deriveBuffer_kept {v : State} (b : Nat) (h : Kept n m q o v) :
    Kept n m q o (deriveBuffer v b) := by
  unfold deriveBuffer
  repeat' first | (with_reducible assumption) | (with_reducible apply wr_kept) | (with_reducible refine kept_foldl ?_ ?_; intro _ _ _)

theorem derivePresets_kept {v : State} (x1 : Nat) (h : Kept n m q o v) :
    Kept n m q o (derivePresets v x1) := by
  unfold derivePresets
  repeat' first | (with_reducible assumption) | (with_reducible apply wr_kept) | (with_reducible refine kept_foldl ?_ ?_; intro _ _ _)

theorem deriveChannel_kept {v : State} (x1 : Nat) (h : Kept n m q o v) :
    Kept n m q o (deriveChannel v x1) := by
  unfold deriveChannel
  repeat' first
    | (with_reducible assumption) | (with_reducible apply wr_kept) | (with_reducible apply wrFields_kept)
    | (with_reducible refine kept_foldl ?_ ?_; intro _ _ _)

theorem derivePrachBeams_kept {v : State} (j : Nat) (h : Kept n m q o v) :
    Kept n m q o (derivePrachBeams v j) := by
  unfold derivePrachBeams
  repeat' first | (with_reducible assumption) | (with_reducible apply wr_kept) | (with_reducible refine kept_foldl ?_ ?_; intro _ _ _)

theorem derivePrach_kept {v : State} (j : Nat) (h : Kept n m q o v) :
    Kept n m q o (derivePrach v j) := by
  unfold derivePrach
  repeat' first
    | (with_reducible assumption) | (with_reducible apply wrFields_kept) | (with_reducible apply wr_kept)
    | (with_reducible refine kept_foldl ?_ ?_; intro _ _ _)

theorem deriveGain_kept {v : State} (p : Nat) (h : Kept n m q o v) :
    Kept n m q o (deriveGain v p) := by
  unfold deriveGain
  repeat' first | (with_reducible assumption) | (with_reducible apply wrFields_kept)

theorem deriveCfr_kept {v : State} (h : Kept n m q o v) :
    Kept n m q o (deriveCfr v) := by
  unfold deriveCfr
  repeat' first | (with_reducible assumption) | (with_reducible apply wrFields_kept) | (with_reducible refine kept_foldl ?_ ?_; intro _ _ _)

theorem deriveUlDefaults_kept {v : State} (x1 : Nat) (h : Kept n m q o v) :
    Kept n m q o (deriveUlDefaults v x1) := by
  unfold deriveUlDefaults
  repeat' first | (with_reducible assumption) | (with_reducible apply wr_kept) | (with_reducible refine kept_foldl ?_ ?_; intro _ _ _)

theorem deriveTree_kept {v : State} (h : Kept n m q o v) :
    Kept n m q o (deriveTree v) := by
  unfold deriveTree
  repeat' first | (with_reducible assumption) | (with_reducible apply wr_kept)

theorem derive_kept {v : State} (staged : List Nat) (h : Kept n m q o v) :
    Kept n m q o (derive v staged) := by
  unfold derive
  repeat' first
    | (with_reducible assumption) | (with_reducible apply derivePps_kept) | (with_reducible apply deriveEvents_kept)
    | (with_reducible apply derivePattern_kept) | (with_reducible apply deriveBuffer_kept) | (with_reducible apply derivePresets_kept)
    | (with_reducible apply deriveChannel_kept) | (with_reducible apply derivePrachBeams_kept) | (with_reducible apply derivePrach_kept)
    | (with_reducible apply deriveGain_kept) | (with_reducible apply deriveCfr_kept) | (with_reducible apply deriveUlDefaults_kept)
    | (with_reducible apply deriveTree_kept) | (with_reducible apply kept_ite) | (with_reducible refine kept_foldl ?_ ?_; intro _ _ _)

theorem overlay_kept {s : State} (objs : Sparse ObjVal) (regs : Sparse RegVal) (h : Kept n m q o s) :
    Kept n m q o (overlay s objs regs) := by
  unfold overlay
  repeat' first
    | (with_reducible assumption) | (with_reducible apply commitReg_kept) | (with_reducible apply derive_kept)
    | (with_reducible apply State_setObj_kept) | (with_reducible refine kept_foldl ?_ ?_; intro _ _ _)

theorem fillPulses_kept {v : State} {s : State} (h : Kept n m q o s) :
    Kept n m q o (fillPulses v s) := by
  unfold fillPulses
  repeat' first | (with_reducible assumption) | (with_reducible refine kept_parts ?_ rfl rfl rfl rfl) | (simp only [kept_mk_iff])

theorem shadowPulses_kept {s : State} {v : State} (b : Nat) (h : Kept n m q o s) :
    Kept n m q o (shadowPulses s v b) := by
  unfold shadowPulses
  repeat' first
    | (with_reducible assumption) | (with_reducible apply fillPulses_kept) | (with_reducible apply kept_ite)
    | (with_reducible refine kept_parts ?_ rfl rfl rfl rfl) | (simp only [kept_mk_iff])

theorem reserveTrunks_kept {s : State} {v : State} (h : Kept n m q o s) :
    Kept n m q o (reserveTrunks s v) := by
  unfold reserveTrunks
  repeat' first
    | (with_reducible assumption) | (with_reducible apply commitTune_kept) | (with_reducible apply kept_ite)
    | (with_reducible refine kept_parts ?_ rfl rfl rfl rfl) | (simp only [kept_mk_iff])

theorem acceptCommit_kept {s : State} (j : CommitJob) (b : Nat) (h : Kept n m q o s) :
    Kept n m q o (acceptCommit s j b) := by
  unfold acceptCommit
  repeat' first
    | (with_reducible assumption) | (with_reducible apply shadowPulses_kept) | (with_reducible apply reserveTrunks_kept)
    | (with_reducible apply startRoll_kept) | (with_reducible apply armStep_kept)
    | (with_reducible refine kept_parts_staged ?_ (unstage_sorted h.inv.staged) rfl rfl rfl rfl) | (with_reducible apply kept_ite)
    | (with_reducible refine kept_parts ?_ rfl rfl rfl rfl) | (simp only [kept_mk_iff]) | split

theorem recordResult_kept {s : State} (role : Role) (r : AdmResult) (h : Kept n m q o s) :
    Kept n m q o (recordResult s role r) := by
  unfold recordResult
  repeat' first | (with_reducible assumption) | (with_reducible refine kept_parts ?_ rfl rfl rfl rfl) | (simp only [kept_mk_iff]) | split

theorem refuseCommit_kept {s : State} (role : Role) (r : AdmResult) (h : Kept n m q o s) :
    Kept n m q o (refuseCommit s role r) := by
  unfold refuseCommit
  repeat' first | (with_reducible assumption) | (with_reducible apply raise_kept) | (with_reducible apply recordResult_kept)

theorem admissionEnd_kept {s : State} (j : CommitJob) (h : Kept n m q o s) :
    Kept n m q o (admissionEnd s j).2.2 := by
  unfold admissionEnd
  repeat' first
    | (with_reducible assumption) | (with_reducible apply raise_kept) | (with_reducible apply refuseCommit_kept)
    | (with_reducible apply acceptCommit_kept) | (with_reducible apply recordResult_kept) | (with_reducible apply kept_ite_trd)
    | (with_reducible refine kept_foldl ?_ ?_; intro _ _ _) | (with_reducible refine kept_parts ?_ rfl rfl rfl rfl)
    | (simp only [kept_mk_iff])

theorem biasBoundary_kept {s : State} {v : State} {t : State} (c : Nat) (h : Kept n m q o t) :
    Kept n m q o (biasBoundary s v t c) := by
  unfold biasBoundary
  repeat' first
    | (with_reducible assumption) | (with_reducible apply State_setBias_kept) | (with_reducible apply safeCode_kept)
    | (with_reducible apply kept_ite)

theorem grantMasks_kept {v : State} (h : Kept n m q o v) :
    Kept n m q o (grantMasks v) := by
  unfold grantMasks
  repeat' first | (with_reducible assumption) | (with_reducible apply wr_kept) | (with_reducible refine kept_foldl ?_ ?_; intro _ _ _)

theorem gainBoundary_kept {s : State} {v : State} {t : State} (p : Nat) (h : Kept n m q o t) :
    Kept n m q o (gainBoundary s v t p) := by
  unfold gainBoundary
  repeat' first | (with_reducible assumption) | (with_reducible apply setAtt_kept) | (with_reducible apply kept_ite)

theorem dpdBoundary_kept {s : State} {v : State} {t : State} (p : Nat) (h : Kept n m q o t) :
    Kept n m q o (dpdBoundary s v t p) := by
  unfold dpdBoundary
  repeat' first
    | (with_reducible assumption) | (with_reducible apply staleAndPending_kept) | (with_reducible apply State_setDpd_kept)
    | (with_reducible apply kept_ite)

theorem serveFromBoundary_kept {s : State} (h : Kept n m q o s) :
    Kept n m q o (serveFromBoundary s) := by
  unfold serveFromBoundary
  repeat' first
    | (with_reducible assumption) | (with_reducible apply raise_kept) | (with_reducible apply markOff_kept)
    | (with_reducible apply rxDrop_kept) | (with_reducible apply txDrop_kept) | (with_reducible apply kept_ite)
    | (with_reducible refine kept_foldl ?_ ?_; intro _ _ _) | (with_reducible refine kept_parts ?_ rfl rfl rfl rfl)
    | (simp only [kept_mk_iff]) | split

theorem ringBoundary_kept {s : State} {v : State} (staged : List (Nat × Nat)) {t : State} (r : Nat) (h : Kept n m q o t) :
    Kept n m q o (ringBoundary s v staged t r) := by
  unfold ringBoundary
  repeat' first
    | (with_reducible assumption) | (with_reducible apply wf_kept) | (with_reducible apply ringEnable_kept)
    | (with_reducible apply sramPoke_kept) | (with_reducible apply kept_ite)

theorem portBoundary_kept {s : State} {v : State} {t : State} (x3 : Nat) (h : Kept n m q o t) :
    Kept n m q o (portBoundary s v t x3) := by
  unfold portBoundary
  repeat' first | (with_reducible assumption) | (with_reducible apply portState_kept) | (with_reducible apply kept_ite)

theorem synceBoundary_kept {s : State} {v : State} {t : State} (h : Kept n m q o t) :
    Kept n m q o (synceBoundary s v t) := by
  unfold synceBoundary
  repeat' first
    | (with_reducible assumption) | (with_reducible apply wf_kept) | (with_reducible apply kept_ite)
    | (with_reducible refine kept_parts ?_ rfl rfl rfl rfl) | (simp only [kept_mk_iff])

theorem swapPulses_kept {s : State} {v : State} {t : State} (h : Kept n m q o t) :
    Kept n m q o (swapPulses s v t) := by
  unfold swapPulses
  repeat' first
    | (with_reducible assumption) | (with_reducible apply fillPulses_kept) | (with_reducible apply kept_ite)
    | (with_reducible refine kept_parts ?_ rfl rfl rfl rfl) | (simp only [kept_mk_iff])

theorem placeReleases_kept {t : State} (h : Kept n m q o t) :
    Kept n m q o (placeReleases t) := by
  unfold placeReleases
  repeat' first
    | (with_reducible assumption) | (with_reducible apply State_setEng_kept) | (with_reducible apply kept_ite)
    | (with_reducible refine kept_foldl ?_ ?_; intro _ _ _)

theorem raiseKernelMins_kept {s : State} {v : State} {t : State} (h : Kept n m q o t) :
    Kept n m q o (raiseKernelMins s v t) := by
  unfold raiseKernelMins
  repeat' first
    | (with_reducible assumption) | (with_reducible apply kept_ite) | (with_reducible refine kept_foldl ?_ ?_; intro _ _ _)
    | (with_reducible refine kept_parts ?_ rfl rfl rfl rfl) | (simp only [kept_mk_iff])

theorem takeEffect_kept {s : State} {v : State} (staged : List (Nat × Nat)) (h : Kept n m q o v) :
    Kept n m q o (takeEffect s v staged) := by
  unfold takeEffect
  repeat' first
    | (with_reducible assumption) | (with_reducible apply gainBoundary_kept) | (with_reducible apply dpdBoundary_kept)
    | (with_reducible apply serveFromBoundary_kept) | (with_reducible apply ringBoundary_kept) | (with_reducible apply biasBoundary_kept)
    | (with_reducible apply refreshLanes_kept) | (with_reducible apply portBoundary_kept) | (with_reducible apply synceBoundary_kept)
    | (with_reducible apply restartWarm_kept) | (with_reducible apply State_setLanes_kept) | (with_reducible apply swapPulses_kept)
    | (with_reducible apply State_setWset_kept) | (with_reducible apply placeReleases_kept) | (with_reducible apply raiseKernelMins_kept)
    | (with_reducible apply requestSync_kept) | (with_reducible apply abortVisit_kept) | (with_reducible apply State_setOrx_kept)
    | (with_reducible apply recomputeDigests_kept) | (with_reducible apply clockAll_kept) | (with_reducible apply enterPathState_kept)
    | (with_reducible apply kept_ite) | (with_reducible refine kept_foldl ?_ ?_; intro _ _ _)
    | (with_reducible refine kept_parts ?_ rfl rfl rfl rfl) | (simp only [kept_mk_iff])

theorem commitBoundary_kept {s : State} (j : CommitJob) (h : Kept n m q o s) :
    Kept n m q o (commitBoundary s j) := by
  unfold commitBoundary
  repeat' first
    | (with_reducible assumption) | (with_reducible apply reachCount_kept) | (with_reducible apply grantMasks_kept)
    | (with_reducible apply overlay_kept) | (with_reducible apply takeEffect_kept) | (with_reducible apply raise_kept)
    | (with_reducible refine kept_parts ?_ rfl rfl rfl rfl) | (simp only [kept_mk_iff])

theorem commitStart_kept {s : State} (j : CommitJob) (h : Kept n m q o s) :
    Kept n m q o (commitStart s j).2 := by
  unfold commitStart
  repeat' first
    | (with_reducible assumption) | (with_reducible apply refuseCommit_kept) | (with_reducible apply recordResult_kept)
    | (with_reducible apply kept_ite_snd) | (with_reducible refine kept_parts ?_ rfl rfl rfl rfl) | (simp only [kept_mk_iff]) | split

theorem disableCarrier_kept {s : State} (c : Nat) (h : Kept n m q o s) :
    Kept n m q o (disableCarrier s c) := by
  unfold disableCarrier
  repeat' first | (with_reducible assumption) | (with_reducible apply deriveChannel_kept) | (with_reducible apply State_setObj_kept)

theorem dropCarriers_kept (k : Nat) {s : State} (h : Kept n m q o s) : Kept n m q o (dropCarriers k s) := by
  induction k generalizing s with
  | zero => exact h
  | succ k ih =>
    unfold dropCarriers
    split
    · exact h
    · split
      · exact ih (disableCarrier_kept _ h)
      · exact h

theorem removalDone_kept {s : State} {v : State} (h : Kept n m q o v) :
    Kept n m q o (removalDone s v) := by
  unfold removalDone
  repeat' first
    | (with_reducible assumption) | (with_reducible apply takeEffect_kept) | (with_reducible refine kept_parts ?_ rfl rfl rfl rfl)
    | (simp only [kept_mk_iff])

theorem repeatAdmission_kept {s : State} (h : Kept n m q o s) :
    Kept n m q o (repeatAdmission s) := by
  unfold repeatAdmission
  repeat' first
    | (with_reducible assumption) | (with_reducible apply raise_kept) | (with_reducible apply kept_ite)
    | (with_reducible refine kept_parts ?_ rfl rfl rfl rfl) | (simp only [kept_mk_iff])

/-! ## ObjWrite -/

theorem objApply_kept {s : State} (index : Nat) (sub : Nat) (v : ObjVal) (h : Kept n m q o s) :
    Kept n m q o (objApply s index sub v) := by
  unfold objApply
  repeat' first
    | (with_reducible assumption) | (with_reducible apply State_setObj_kept) | (with_reducible apply wf_kept)
    | (with_reducible apply dutyWritten_kept) | (with_reducible apply fanUpdate_kept) | (with_reducible apply wbit_kept)
    | (with_reducible apply wrxCheck_kept) | (with_reducible apply kept_ite) | split

theorem loadOne_kept {s : State} (index : Nat) (sub : Nat) (v : ObjVal) (h : Kept n m q o s) :
    Kept n m q o (loadOne s index sub v) := by
  unfold loadOne
  repeat' first
    | (with_reducible assumption) | (with_reducible apply State_touch_kept) | (with_reducible apply objApply_kept)
    | (with_reducible apply kept_ite) | (with_reducible refine kept_parts ?_ rfl rfl rfl rfl) | (simp only [kept_mk_iff]) | split

theorem loadConfig_kept {s : State} (img : Sparse ObjVal) (h : Kept n m q o s) :
    Kept n m q o (loadConfig s img) := by
  unfold loadConfig
  repeat' first | (with_reducible assumption) | (with_reducible apply loadOne_kept) | (with_reducible refine kept_foldl ?_ ?_; intro _ _ _)

/-! ## BootOps -/

theorem bootCal_kept {s : State} (x : BootIn) (h : Kept n m q o s) :
    Kept n m q o (bootCal s x) := by
  unfold bootCal
  repeat' first
    | (with_reducible assumption) | (with_reducible apply fgStatus_kept) | (with_reducible apply fgApply_kept)
    | (with_reducible apply failPath_kept) | (with_reducible apply raise_kept) | (with_reducible apply kept_ite)
    | (with_reducible refine kept_foldl ?_ ?_; intro _ _ _) | split

theorem bootCommit_kept {s : State} (h : Kept n m q o s) :
    Kept n m q o (bootCommit s).2 := by
  unfold bootCommit
  repeat' first
    | (with_reducible assumption) | (with_reducible apply loadOne_kept) | (with_reducible apply admissionEnd_kept)
    | (with_reducible apply commitBoundary_kept) | (with_reducible apply kept_ite_snd)
    | (with_reducible refine kept_foldl ?_ ?_; intro _ _ _) | split

theorem setPhase_kept {s : State} (p : Nat) (h : Kept n m q o s) :
    Kept n m q o (setPhase s p) := by
  unfold setPhase
  repeat' first | (with_reducible assumption) | (with_reducible apply wf_kept)

theorem leaveStep2_kept {s : State} (h : Kept n m q o s) :
    Kept n m q o (leaveStep2 s) := by
  unfold leaveStep2
  repeat' first
    | (with_reducible assumption) | (with_reducible apply setPhase_kept) | (with_reducible apply kept_ite)
    | (with_reducible refine kept_parts ?_ rfl rfl rfl rfl) | (simp only [kept_mk_iff]) | split

theorem reloadSet_kept {s : State} (p : Nat) (w : Sparse Nat) (h : Kept n m q o s) :
    Kept n m q o (reloadSet s p w) := by
  unfold reloadSet
  repeat' first
    | (with_reducible assumption) | (with_reducible apply setStale_kept) | (with_reducible apply State_setDpd_kept)
    | (with_reducible apply kept_ite)

theorem reloadMaps_kept {s : State} (h : Kept n m q o s) :
    Kept n m q o (reloadMaps s) := by
  unfold reloadMaps
  repeat' first
    | (with_reducible assumption) | (with_reducible apply subDown_kept) | (with_reducible apply State_setLanes_kept)
    | (with_reducible apply wr_kept) | (with_reducible apply setLaneState_kept) | (with_reducible apply reloadSet_kept)
    | (with_reducible apply State_setFe_kept) | (with_reducible apply State_setObj_kept) | (with_reducible apply safeCode_kept)
    | (with_reducible apply kept_ite) | (with_reducible refine kept_foldl ?_ ?_; intro _ _ _)
    | (with_reducible refine kept_parts ?_ rfl rfl rfl rfl) | (simp only [kept_mk_iff])

theorem testEngine_kept {s : State} (e : Nat) (h : Kept n m q o s) :
    Kept n m q o (testEngine s e) := by
  unfold testEngine
  repeat' first
    | (with_reducible assumption) | (with_reducible apply spareUsed_kept) | (with_reducible apply raise_kept)
    | (with_reducible apply State_setEng_kept) | (with_reducible apply kept_ite) | (with_reducible refine kept_parts ?_ rfl rfl rfl rfl)
    | (simp only [kept_mk_iff])

theorem testTile_kept {s : State} (t : Nat) (h : Kept n m q o s) :
    Kept n m q o (testTile s t) := by
  unfold testTile
  repeat' first
    | (with_reducible assumption) | (with_reducible apply tileFail_kept) | (with_reducible apply kept_ite)
    | (with_reducible refine kept_parts ?_ rfl rfl rfl rfl) | (simp only [kept_mk_iff])

theorem testLane_kept {s : State} (x : Nat × Nat) (h : Kept n m q o s) :
    Kept n m q o (testLane s x) := by
  unfold testLane
  repeat' first
    | (with_reducible assumption) | (with_reducible apply retireLane_kept) | (with_reducible apply State_setLanes_kept)
    | (with_reducible apply failPath_kept) | (with_reducible apply kept_ite) | split

theorem testBank_kept {s : State} (b : Nat) (h : Kept n m q o s) :
    Kept n m q o (testBank s b) := by
  unfold testBank
  repeat' first
    | (with_reducible assumption) | (with_reducible apply saveBanks_kept) | (with_reducible apply retireBank_kept)
    | (with_reducible apply migrationEnd_kept) | (with_reducible apply readmit_kept) | (with_reducible apply raise_kept)
    | (with_reducible apply kept_ite) | split

theorem setCode_kept {s : State} (c : Nat) (h : Kept n m q o s) :
    Kept n m q o (setCode s c) := by
  unfold setCode
  repeat' first | (with_reducible assumption) | (with_reducible apply wf_kept)

theorem bootStep2_kept {s : State} (x : BootIn) (h : Kept n m q o s) :
    Kept n m q o (bootStep2 s x) := by
  unfold bootStep2
  repeat' first
    | (with_reducible assumption) | (with_reducible apply leaveStep2_kept) | (with_reducible apply reloadMaps_kept)
    | (with_reducible apply testEngine_kept) | (with_reducible apply testTile_kept) | (with_reducible apply testLane_kept)
    | (with_reducible apply testBank_kept) | (with_reducible apply wf_kept) | (with_reducible apply setCode_kept)
    | (with_reducible apply kept_ite) | (with_reducible refine kept_foldl ?_ ?_; intro _ _ _)
    | (with_reducible refine kept_parts ?_ rfl rfl rfl rfl) | (simp only [kept_mk_iff])

theorem rejectImages_kept {s : State} (type : Nat) (l : List (List Byte)) (h : Kept n m q o s) :
    Kept n m q o (rejectImages s type l) := by
  unfold rejectImages
  repeat' first
    | (with_reducible assumption) | (with_reducible apply raise_kept) | (with_reducible apply kept_ite)
    | (with_reducible refine kept_foldl ?_ ?_; intro _ _ _)

theorem bootStep3_kept {s : State} (h : Kept n m q o s) :
    Kept n m q o (bootStep3 s) := by
  unfold bootStep3
  repeat' first
    | (with_reducible assumption) | (with_reducible apply setCode_kept) | (with_reducible apply rejectImages_kept)
    | (with_reducible apply setPhase_kept) | (with_reducible apply kept_ite) | (with_reducible refine kept_parts ?_ rfl rfl rfl rfl)
    | (simp only [kept_mk_iff]) | split

theorem standbyStarts_kept {s : State} (b : List Byte) (good : Bool) (h : Kept n m q o s) :
    Kept n m q o (standbyStarts s b good) := by
  unfold standbyStarts
  repeat' first
    | (with_reducible assumption) | (with_reducible apply State_setStandby_kept) | (with_reducible apply loadImage_kept)
    | (with_reducible apply kept_ite)

theorem bootStep4_kept {s : State} (h : Kept n m q o s) :
    Kept n m q o (bootStep4 s) := by
  unfold bootStep4
  repeat' first
    | (with_reducible assumption) | (with_reducible apply rejectImages_kept) | (with_reducible apply loadPool_kept)
    | (with_reducible apply State_setObj_kept) | (with_reducible apply wbit_kept) | (with_reducible apply wf_kept)
    | (with_reducible apply loadImage_kept) | (with_reducible apply standbyStarts_kept) | (with_reducible apply setPhase_kept)
    | (with_reducible apply markOff_kept) | (with_reducible apply raise_kept) | (with_reducible apply setCode_kept)
    | (with_reducible apply markOn_kept) | (with_reducible apply kept_ite) | (with_reducible refine kept_foldl ?_ ?_; intro _ _ _)
    | (with_reducible refine kept_parts ?_ rfl rfl rfl rfl) | (simp only [kept_mk_iff]) | split

theorem bootStep5_kept {s : State} (x : BootIn) (h : Kept n m q o s) :
    Kept n m q o (bootStep5 s x) := by
  unfold bootStep5
  repeat' first
    | (with_reducible assumption) | (with_reducible apply bootCommit_kept) | (with_reducible apply bootCal_kept)
    | (with_reducible apply islandClock_kept) | (with_reducible apply islandDown_kept) | (with_reducible apply reportRejected_kept)
    | (with_reducible apply setLevel_kept) | (with_reducible apply setPhase_kept) | (with_reducible apply setCode_kept)
    | (with_reducible apply raise_kept) | (with_reducible apply settle_kept)
    | (with_reducible refine kept_parts_clk ?_ (Nat.le_refl _) rfl rfl rfl rfl) | (with_reducible apply kept_ite)
    | (with_reducible refine kept_foldl ?_ ?_; intro _ _ _) | (simp only [kept_mk_iff]) | split

theorem bootStep_kept {s : State} (x : BootIn) (h : Kept n m q o s) :
    Kept n m q o (bootStep s x) := by
  unfold bootStep
  repeat' first
    | (with_reducible assumption) | (with_reducible apply setPhase_kept) | (with_reducible apply startTurn_kept)
    | (with_reducible apply bootStep2_kept) | (with_reducible apply bootStep3_kept) | (with_reducible apply bootStep4_kept)
    | (with_reducible apply bootStep5_kept) | (with_reducible apply kept_ite) | (with_reducible refine kept_foldl ?_ ?_; intro _ _ _)
    | split

theorem secureRegs_kept {s : State} (h : Kept n m q o s) :
    Kept n m q o (secureRegs s) := by
  unfold secureRegs
  repeat' first
    | (with_reducible assumption) | (with_reducible apply wr_kept) | (with_reducible apply wf_kept) | (with_reducible apply keyStat_kept)

theorem discard_kept {s : State} (h : Kept n m q o s) : Kept n m q o (discard s) := by
  unfold discard
  refine secureRegs_kept ⟨⟨rfl, rfl, rfl, rfl, ?_, ?_, ?_, rfl, ?_⟩, h.pending, h.elapsed, h.drawn, h.out⟩
  · exact Nat.zero_le _
  · exact Nat.zero_le _
  · exact Nat.zero_le _
  · intro p hp; cases hp

theorem coldStart_kept {s : State} (h : Kept n m q o s) :
    Kept n m q o (coldStart s) := by
  unfold coldStart
  repeat' first
    | (with_reducible assumption) | (with_reducible apply discard_kept) | (with_reducible apply setPhase_kept)
    | (with_reducible apply wr_kept) | (with_reducible apply raise_kept) | (with_reducible refine kept_parts ?_ rfl rfl rfl rfl)
    | (simp only [kept_mk_iff]) | split

theorem holdReset_kept {s : State} (pwrgood : Bool) (nreset : Bool) (h : Kept n m q o s) :
    Kept n m q o (holdReset s pwrgood nreset) := by
  unfold holdReset
  repeat' first
    | (with_reducible assumption) | (with_reducible apply discard_kept) | (with_reducible refine kept_parts ?_ rfl rfl rfl rfl)
    | (simp only [kept_mk_iff])

theorem loaderImage_kept {s : State} (sub : Nat) (b : List Byte) (h : Kept n m q o s) :
    Kept n m q o (loaderImage s sub b) := by
  unfold loaderImage
  repeat' first
    | (with_reducible assumption) | (with_reducible apply setPhase_kept) | (with_reducible apply kept_ite)
    | (with_reducible refine kept_parts ?_ rfl rfl rfl rfl) | (simp only [kept_mk_iff])

/-- The registers replaced by others in canonical form, beside parts the predicate does not read. -/
theorem warmStart_kept {s : State} (t : Nat) (h : Kept n m q o s) : Kept n m q o (warmStart s t) := by
  have hd := discard_kept h
  unfold warmStart
  repeat' first
    | (with_reducible apply setCode_kept) | (with_reducible apply wbit_kept) | (with_reducible apply setPhase_kept)
    | (with_reducible apply wf_kept) | (with_reducible apply secureRegs_kept) | (dsimp only)
  exact ⟨⟨hd.inv.memory, spSorted_filter _ h.inv.regs, hd.inv.staged, hd.inv.islands, hd.inv.log, hd.inv.spiIn, hd.inv.spiOut,
    hd.inv.stats, hd.inv.counts⟩, hd.pending, h.elapsed, hd.drawn, hd.out⟩

/-! ## DebugOps -/

theorem debugAccess_kept {s : State} (op : Nat) (size : Nat) (a : Nat) (data : Nat) (h : Kept n m q o s) :
    Kept n m q o (debugAccess s op size a data).2.2 := by
  unfold debugAccess
  repeat' first
    | (with_reducible assumption) | (with_reducible apply bump_kept) | (with_reducible apply fabRead_kept)
    | (with_reducible apply fabWrite_kept) | (with_reducible apply kept_ite_trd)

theorem tapSelect_kept {s : State} (ir : Nat) (h : Kept n m q o s) :
    Kept n m q o (tapSelect s ir) := by
  unfold tapSelect
  repeat' first
    | (with_reducible assumption) | (with_reducible apply allDrainsFall_kept) | (with_reducible apply drainRise_kept)
    | (with_reducible apply kept_ite) | (with_reducible refine kept_parts ?_ rfl rfl rfl rfl) | (simp only [kept_mk_iff])

theorem tapBypass_kept {s : State} (h : Kept n m q o s) :
    Kept n m q o (tapBypass s) := by
  unfold tapBypass
  repeat' first
    | (with_reducible assumption) | (with_reducible apply emit_kept) | (with_reducible apply tapSelect_kept)
    | (with_reducible apply bump_kept)

theorem tunnelEntries_kept (k : Nat) (b : List Byte) {s : State} (h : Kept n m q o s) : Kept n m q o (tunnelEntries k b s).2 := by
  induction k generalizing b s with
  | zero => exact h
  | succ k ih => exact ih _ (debugAccess_kept _ _ _ _ h)

theorem tunnelList_kept {s : State} (b : List Byte) (h : Kept n m q o s) :
    Kept n m q o (tunnelList s b).2 := by
  unfold tunnelList
  repeat' first
    | (with_reducible assumption) | (with_reducible apply tunnelEntries_kept) | (with_reducible apply kept_ite_snd)
    | (with_reducible refine kept_parts ?_ rfl rfl rfl rfl) | (simp only [kept_mk_iff])

/-! ## DiongOps -/

theorem tail_length_le {α : Type} (l : List α) : l.tail.length ≤ l.length := by rw [List.length_tail]; exact Nat.sub_le _ _

theorem authenticate_kept {s : State} (d : DHdr) (op : Nat) (payload : List Byte) (h : Kept n m q o s) :
    Kept n m q o (authenticate s d op payload).2 := by
  unfold authenticate
  repeat' first
    | (with_reducible assumption) | (with_reducible apply raise_kept) | (with_reducible apply stat_kept)
    | (with_reducible apply kept_ite_snd) | (simp only [kept_mk_iff]) | split

theorem dres_kept (status : Nat) {s : State} (h : Kept n m q o s) :
    Kept n m q o (dres status s).st := by
  unfold dres
  repeat' first | (with_reducible assumption)

theorem genOf_kept {s : State} (index : Nat) (sub : Nat) (h : Kept n m q o s) :
    Kept n m q o (genOf s index sub).2 := by
  unfold genOf
  repeat' first | (with_reducible assumption) | (with_reducible apply draw_kept) | (with_reducible apply kept_ite_snd)

theorem modSession_kept {s : State} (t : Transport) (key : Nat) (id : Nat) (f : Session → Session) (h : Kept n m q o s) :
    Kept n m q o (modSession s t key id f) := by
  unfold modSession
  repeat' first | (with_reducible assumption) | (with_reducible refine kept_parts ?_ rfl rfl rfl rfl) | (simp only [kept_mk_iff])

theorem objRead_kept {s : State} (role : Role) (r : ObjRow) (index : Nat) (sub : Nat) (h : Kept n m q o s) :
    Kept n m q o (objRead s role r index sub).2 := by
  unfold objRead
  repeat' first
    | (with_reducible assumption) | (with_reducible apply regRead_kept) | (with_reducible apply challengeRead_kept)
    | (with_reducible apply kept_ite_snd) | (simp only [kept_mk_iff]) | split

theorem readAs_kept {s : State} (role : Role) (t : Transport) (session : Nat) (index : Nat) (sub : Nat) (h : Kept n m q o s) :
    Kept n m q o (readAs s role t session index sub).2.2.2 := by
  unfold readAs
  repeat' first | (with_reducible assumption) | (with_reducible apply objRead_kept) | (simp only [kept_mk_iff]) | split

theorem opRead_kept (t : Transport) (session : Nat) (index : Nat) (sub : Nat) (role : Role) {s : State} (h : Kept n m q o s) :
    Kept n m q o (opRead t session index sub role s).st := by
  unfold opRead
  repeat' first
    | (with_reducible assumption) | (with_reducible apply readAs_kept) | (with_reducible apply dres_kept) | (simp only [kept_mk_iff])
    | (with_reducible refine kept_eq_fth (by assumption) ?_) | split

theorem opReadBlock_kept (t : Transport) (session : Nat) (index : Nat) (sub : Nat) (offset : Nat) (maxLen : Nat) (role : Role) {s : State} (h : Kept n m q o s) :
    Kept n m q o (opReadBlock t session index sub offset maxLen role s).st := by
  unfold opReadBlock
  repeat' first
    | (with_reducible assumption) | (with_reducible apply readAs_kept) | (with_reducible apply dres_kept)
    | (with_reducible apply genOf_kept) | (simp only [kept_mk_iff]) | (with_reducible refine kept_eq_fth (by assumption) ?_) | split

/-- The Diong endpoint replaced by one whose SPI queues are within their sizes. -/
theorem diong_kept {s : State} (x : Diong) (hi : x.spiIn.length ≤ 2) (ho : x.spiOut.length ≤ 8) (h : Kept n m q o s) :
    Kept n m q o { s with diong := x } :=
  ⟨⟨h.inv.memory, h.inv.regs, h.inv.staged, h.inv.islands, h.inv.log, hi, ho, h.inv.stats, h.inv.counts⟩,
    h.pending, h.elapsed, h.drawn, h.out⟩

/-- A frame queued keeps the SPI queue within 8 frames. -/
theorem spiQueue_kept {s : State} (notify : Bool) (f : List Byte) (h : Kept n m q o s) : Kept n m q o (spiQueue s notify f) := by
  have h8 := h.inv.spiOut
  unfold spiQueue
  dsimp only
  split
  next hq => exact diong_kept _ h.inv.spiIn hq h
  next hq =>
    refine diong_kept _ h.inv.spiIn ?_ h
    split
    next ha =>
      obtain ⟨x, hx, hx1⟩ := List.any_eq_true.1 ha
      have := List.length_eraseP_of_mem (p := (·.1)) hx hx1
      simp only [List.length_append, List.length_singleton] at this ⊢
      omega
    · simp only [List.length_tail, List.length_append, List.length_singleton]
      omega

theorem sendFrame_kept {s : State} (t : Transport) (notify : Bool) (f : List Byte) (h : Kept n m q o s) :
    Kept n m q o (sendFrame s t notify f) := by
  unfold sendFrame
  repeat' first | (with_reducible assumption) | (with_reducible apply spiQueue_kept) | (with_reducible apply emit_kept) | split

theorem respond_kept {s : State} (t : Transport) (session : Nat) (seq : Nat) (key : Nat) (material : List Byte) (op : Nat) (status : Nat) (payload : List Byte) (last : Bool) (h : Kept n m q o s) :
    Kept n m q o (respond s t session seq key material op status payload last) := by
  unfold respond
  repeat' first | (with_reducible assumption) | (with_reducible apply sendFrame_kept)

theorem runRequest_kept {s : State} (d : DHdr) (role : Role) (x : List Byte) (op : Nat) (payload : List Byte) {act : Role → State → DRes}
    (ha : ∀ r t, Kept n m q o t → Kept n m q o (act r t).st) (h : Kept n m q o s) :
    Kept n m q o (runRequest s d role x op payload act) := by
  unfold runRequest
  repeat' first
    | (with_reducible assumption) | (with_reducible apply respond_kept) | (with_reducible apply dres_kept)
    | (with_reducible apply modSession_kept) | (with_reducible apply kept_ite) | (with_reducible apply ha) | split

theorem request_kept {s : State} (d : DHdr) (op : Nat) (payload : List Byte) {act : Role → State → DRes}
    (ha : ∀ r t, Kept n m q o t → Kept n m q o (act r t).st) (h : Kept n m q o s) :
    Kept n m q o (request s d op payload act) := by
  unfold request
  repeat' first
    | (with_reducible assumption) | (with_reducible apply respond_kept) | (with_reducible apply modSession_kept)
    | (with_reducible apply stat_kept) | (with_reducible apply authenticate_kept) | (with_reducible apply runRequest_kept)
    | (with_reducible apply kept_ite) | (with_reducible refine kept_parts ?_ rfl rfl rfl rfl) | (simp only [kept_mk_iff])
    | (with_reducible refine kept_eq_snd (by assumption) ?_) | split
    | (with_reducible refine kept_parts_spi ?_ rfl (Nat.le_trans (tail_length_le _) h.inv.spiIn) rfl rfl)

end Sys2Proof.Machine
end

