-- ==== Sys2Proof/Laws/KeptCommandsA.lean ====
section
/-! SUPPORT. What `Kept` passes through: the commands, first part. -/

namespace Sys2Proof.Machine

variable {n m : Nat} {q : List Instr} {o : List OutMsg}

/-! ## CmdAdmission -/

theorem answerJob_kept {s : State} (j : CommitJob) (r : AdmResult) (tick : Nat) (h : Kept n m q o s) :
    Kept n m q o (answerJob s j r tick) := by
  unfold answerJob
  repeat' first
    | (with_reducible assumption) | (with_reducible apply modSession_kept) | (with_reducible apply respond_kept)
    | (simp only [kept_mk_iff]) | split

theorem commitAct_kept (d : DHdr) (boundary : Nat) (tick : Nat) (role : Role) {s : State} (h : Kept n m q o s) :
    Kept n m q o (commitAct d boundary tick role s).st := by
  unfold commitAct
  repeat' first
    | (with_reducible assumption) | (with_reducible apply dres_kept) | (with_reducible apply commitStart_kept)
    | (with_reducible apply answerJob_kept) | (with_reducible apply refuseCommit_kept)
    | (with_reducible refine kept_parts ?_ rfl rfl rfl rfl) | (simp only [kept_mk_iff])
    | (with_reducible refine kept_eq_snd (by assumption) ?_) | split

theorem execAbort_kept (d : DHdr) {s : State} (h : Kept n m q o s) :
    OutKept n m q o (execAbort d s) := by
  unfold execAbort
  repeat' first
    | (with_reducible assumption) | (intro _) | (with_reducible apply outKept_next) | (with_reducible apply request_kept)
    | (with_reducible apply dres_kept) | (with_reducible apply abortStaged_kept)

theorem execAdmissionResult_kept {s : State} (h : Kept n m q o s) :
    OutKept n m q o (execAdmissionResult s) := by
  unfold execAdmissionResult
  repeat' first
    | (with_reducible assumption) | (with_reducible apply outKept_next) | (with_reducible apply admissionEnd_kept)
    | (with_reducible apply answerJob_kept) | (simp only [kept_mk_iff]) | split

theorem execCapacityLossReadmission_kept {s : State} (h : Kept n m q o s) :
    OutKept n m q o (execCapacityLossReadmission s) := by
  unfold execCapacityLossReadmission
  repeat' first
    | (with_reducible assumption) | (with_reducible apply outKept_next) | (with_reducible apply repeatAdmission_kept)
    | (with_reducible apply outKept_ite)

theorem execCarrierDropRemoval_kept {s : State} (h : Kept n m q o s) :
    OutKept n m q o (execCarrierDropRemoval s) := by
  unfold execCarrierDropRemoval
  repeat' first
    | (with_reducible assumption) | (with_reducible apply outKept_next) | (with_reducible apply toFrame_kept)
    | (with_reducible apply removalDone_kept) | (with_reducible apply dropCarriers_kept) | (with_reducible apply outKept_ite)
    | (with_reducible refine kept_parts ?_ rfl rfl rfl rfl) | (simp only [kept_mk_iff])

theorem execCommit_kept (d : DHdr) (boundary : Nat) (tick : Nat) {s : State} (h : Kept n m q o s) :
    OutKept n m q o (execCommit d boundary tick s) := by
  unfold execCommit
  repeat' first
    | (with_reducible assumption) | (intro _) | (with_reducible apply outKept_next) | (with_reducible apply request_kept)
    | (with_reducible apply commitAct_kept)

theorem execCommitBoundary_kept {s : State} (h : Kept n m q o s) :
    OutKept n m q o (execCommitBoundary s) := by
  unfold execCommitBoundary
  repeat' first | (with_reducible assumption) | (with_reducible apply outKept_next) | (with_reducible apply commitBoundary_kept) | split

/-! ## DiongObj -/

theorem clearCounter_kept {s : State} (index sub : Nat) (h : Kept n m q o s) : Kept n m q o (clearCounter s index sub) :=
  stats_kept _ _ (.inl (Nat.zero_le _)) h

theorem digestsDue_kept {s : State} (r : ObjRow) (h : Kept n m q o s) :
    Kept n m q o (digestsDue s r) := by
  unfold digestsDue
  repeat' first
    | (with_reducible assumption) | (with_reducible apply kept_ite) | (with_reducible refine kept_parts ?_ rfl rfl rfl rfl)
    | (simp only [kept_mk_iff])

theorem dropBlock_kept {s : State} (index : Nat) (h : Kept n m q o s) :
    Kept n m q o (dropBlock s index) := by
  unfold dropBlock
  repeat' first | (with_reducible assumption) | (with_reducible apply rejectBlock_kept) | (with_reducible apply kept_ite)

theorem refuseForeign_kept {s : State} (role : Role) (index : Nat) (h : Kept n m q o s) :
    Kept n m q o (refuseForeign s role index) := by
  unfold refuseForeign
  repeat' first | (with_reducible assumption) | (with_reducible apply firewall_kept) | (with_reducible apply dropBlock_kept) | split

theorem stageObj_kept {s : State} (role : Role) (index : Nat) (sub : Nat) (v : ObjVal) (h : Kept n m q o s) :
    Kept n m q o (stageObj s role index sub v) := by
  unfold stageObj
  repeat' first
    | (with_reducible assumption) | (with_reducible apply State_touch_kept) | (with_reducible refine kept_parts ?_ rfl rfl rfl rfl)
    | (simp only [kept_mk_iff])

theorem keep_kept {s : State} (index : Nat) (sub : Nat) (v : ObjVal) (h : Kept n m q o s) :
    Kept n m q o (keep s index sub v) := by
  unfold keep
  repeat' first | (with_reducible assumption) | (with_reducible refine kept_parts ?_ rfl rfl rfl rfl) | (simp only [kept_mk_iff])

theorem writeEnables_kept {s : State} (d : Nat) (b : Nat) (bits : Nat) (h : Kept n m q o s) :
    Kept n m q o (writeEnables s d b bits) := by
  unfold writeEnables
  repeat' first | (with_reducible assumption) | (with_reducible apply wr_kept)

theorem writeSet_kept {s : State} (p : Nat) (b : List Byte) (h : Kept n m q o s) :
    Kept n m q o (writeSet s p b).2 := by
  unfold writeSet
  repeat' first
    | (with_reducible assumption) | (with_reducible apply State_setDpd_kept) | (with_reducible apply bankReject_kept)
    | (with_reducible apply requestHo_kept) | (with_reducible apply hoCheckDone_kept) | (with_reducible apply kept_ite)

theorem writeBaseSet_kept {s : State} (j : Nat) (b : List Byte) (h : Kept n m q o s) :
    Kept n m q o (writeBaseSet s j b) := by
  unfold writeBaseSet
  repeat' first | (with_reducible assumption) | (with_reducible refine kept_parts ?_ rfl rfl rfl rfl) | (simp only [kept_mk_iff])

theorem objAction_kept {s : State} (role : Role) (t : Transport) (session : Nat) (index : Nat) (sub : Nat) (b : List Byte) (h : Kept n m q o s) :
    OptKept n m q o (objAction s role t session index sub b) := by
  unfold objAction
  repeat' first
    | (with_reducible assumption) | (with_reducible apply optKept_some) | exact optKept_none | (with_reducible apply optKept_ite)
    | (with_reducible apply keep_kept) | (with_reducible apply clearSticky_kept) | (with_reducible apply writeEnables_kept)
    | (with_reducible apply weightBlock_kept) | (with_reducible apply writeSet_kept) | (with_reducible apply writeBaseSet_kept)
    | (with_reducible apply trigRing_kept) | (with_reducible apply codeWrite_kept) | (with_reducible apply monTrigger_kept)
    | (with_reducible apply keyEnvelope_kept) | (with_reducible apply forceTune_kept) | (with_reducible apply spurEdges_kept)
    | (with_reducible apply clockAll_kept) | (with_reducible apply wf_kept) | (with_reducible apply requestSync_kept)
    | (with_reducible apply failPath_kept) | (with_reducible apply healClear_kept) | (with_reducible apply fgRequest_kept)
    | (with_reducible apply setLaneState_kept) | (with_reducible apply powerRequest_kept) | (with_reducible apply strobeMask_kept)
    | (with_reducible apply drainRequest_kept) | (with_reducible apply faultClear_kept) | (with_reducible apply lcTransition_kept)
    | (with_reducible apply rootRecord_kept) | (with_reducible apply attest_kept) | (with_reducible apply debugResponse_kept)
    | (with_reducible apply endDebug_kept) | (with_reducible apply tunnelList_kept) | (with_reducible apply raiseMinimums_kept)
    | (with_reducible apply spareBankOut_kept) | (with_reducible apply retireEngine_kept) | (with_reducible apply standbyImage_kept)
    | (with_reducible apply hoRequest_kept) | (with_reducible apply kept_ite) | (with_reducible refine kept_foldl ?_ ?_; intro _ _ _)
    | (with_reducible refine kept_parts ?_ rfl rfl rfl rfl) | (simp only [kept_mk_iff]) | split

theorem writeGood_kept {s : State} (role : Role) (t : Transport) (session : Nat) (r : ObjRow) (index : Nat) (sub : Nat) (b : List Byte) (h : Kept n m q o s) :
    Kept n m q o (writeGood s role t session r index sub b).2 := by
  unfold writeGood
  repeat' first
    | (with_reducible assumption) | (refine objAction_kept _ _ _ _ _ _ ?_ _ (by assumption)) | (with_reducible apply dropBlock_kept)
    | (with_reducible apply stageObj_kept) | (with_reducible apply digestsDue_kept) | (with_reducible apply objApply_kept)
    | (with_reducible apply kept_ite_snd) | split

theorem writeAs_kept {s : State} (role : Role) (t : Transport) (session : Nat) (index : Nat) (sub : Nat) (type : Nat) (b : List Byte) (h : Kept n m q o s) :
    Kept n m q o (writeAs s role t session index sub type b).2 := by
  unfold writeAs
  repeat' first
    | (with_reducible assumption) | (with_reducible apply refuseForeign_kept) | (with_reducible apply clearCounter_kept)
    | (with_reducible apply writeGood_kept) | (with_reducible apply kept_ite) | (with_reducible apply kept_ite_snd) | split

theorem finishBlock_kept {s : State} (role : Role) (t : Transport) (session : Nat) (index : Nat) (sub : Nat) (type : Nat) (b : List Byte) (h : Kept n m q o s) :
    Kept n m q o (finishBlock s role t session index sub type b).st := by
  unfold finishBlock
  repeat' first
    | (with_reducible assumption) | (with_reducible apply dres_kept) | (with_reducible apply loaderImage_kept)
    | (with_reducible apply writeAs_kept) | (simp only [kept_mk_iff]) | split

theorem managed_kept (role : Role) {s : State} {f : DRes} (hf : Kept n m q o f.st) (h : Kept n m q o s) :
    Kept n m q o (managed role s f).st := by
  unfold managed
  split
  · exact h
  · exact hf

theorem notify_kept {s : State} (x : Session) (y : Subscription) (ty : Nat) (v : List Byte) (h : Kept n m q o s) :
    Kept n m q o (notify s x y ty v) := by
  unfold notify
  repeat' first | (with_reducible assumption) | (with_reducible apply sendFrame_kept) | (with_reducible apply modSession_kept)

theorem notifyDue_kept {s : State} (t : Transport) (key : Nat) (id : Nat) (index : Nat) (sub : Nat) (h : Kept n m q o s) :
    Kept n m q o (notifyDue s t key id index sub) := by
  unfold notifyDue
  repeat' first
    | (with_reducible assumption) | (with_reducible apply reachElapsed_kept) | (with_reducible apply readAs_kept)
    | (with_reducible apply notify_kept) | (with_reducible apply kept_ite) | (simp only [kept_mk_iff])
    | (with_reducible refine kept_eq_fth (by assumption) ?_) | split

theorem opDigest_kept (scope : Nat) (role : Role) {s : State} (h : Kept n m q o s) :
    Kept n m q o (opDigest scope role s).st := by
  unfold opDigest
  repeat' first | (with_reducible assumption) | (with_reducible apply dres_kept) | (simp only [kept_mk_iff]) | split

theorem opRestore_kept (mode : Nat) (role : Role) {s : State} (h : Kept n m q o s) :
    Kept n m q o (opRestore mode role s).st := by
  unfold opRestore
  repeat' first
    | (with_reducible assumption) | (with_reducible apply managed_kept) | (with_reducible apply dres_kept)
    | (with_reducible apply loadConfig_kept) | split

theorem opStore_kept (selector : Nat) (nvOk : Bool) (role : Role) {s : State} (h : Kept n m q o s) :
    Kept n m q o (opStore selector nvOk role s).st := by
  unfold opStore
  repeat' first
    | (with_reducible assumption) | (with_reducible apply managed_kept) | (with_reducible apply storeConfig_kept)
    | (with_reducible apply storeCal_kept) | (with_reducible apply dres_kept) | (with_reducible apply raise_kept)
    | (with_reducible apply kept_ite) | (simp only [kept_mk_iff]) | split

theorem opSubscribe_kept (d : DHdr) (index : Nat) (sub : Nat) (mode : Nat) (period : Nat) (role : Role) {s : State} (h : Kept n m q o s) :
    Kept n m q o (opSubscribe d index sub mode period role s).st := by
  unfold opSubscribe
  repeat' first
    | (with_reducible assumption) | (with_reducible apply readAs_kept) | (with_reducible apply dres_kept)
    | (with_reducible apply modSession_kept) | (simp only [kept_mk_iff]) | (with_reducible refine kept_eq_fth (by assumption) ?_) | split

theorem opWrite_kept (t : Transport) (session : Nat) (index : Nat) (sub : Nat) (type : Nat) (b : List Byte) (role : Role) {s : State} (h : Kept n m q o s) :
    Kept n m q o (opWrite t session index sub type b role s).st := by
  unfold opWrite
  repeat' first | (with_reducible assumption) | (with_reducible apply writeAs_kept) | (with_reducible apply dres_kept)

theorem opWriteBlock_kept (d : DHdr) (index : Nat) (sub : Nat) (type : Nat) (offset : Nat) (total : Nat) (data : List Byte) (role : Role) {s : State} (h : Kept n m q o s) :
    Kept n m q o (opWriteBlock d index sub type offset total data role s).st := by
  unfold opWriteBlock
  repeat' first
    | (with_reducible assumption) | (with_reducible apply modSession_kept) | (with_reducible apply dres_kept)
    | (with_reducible apply finishBlock_kept) | (with_reducible apply refuseForeign_kept) | (with_reducible apply kept_ite)
    | (simp only [kept_mk_iff]) | split

/-! ## EventOps -/

theorem fireAt_kept {x : Nat × Bool × State} (f : Firing) (clr : Option Nat) (d : Nat) (h : Kept n m q o x.2.2) :
    Kept n m q o (fireAt f clr x d).2.2 := by
  unfold fireAt
  repeat' first
    | (with_reducible assumption) | (with_reducible apply coalesceAt_kept) | (with_reducible apply State_setPort_kept)
    | (with_reducible apply wf_kept) | (with_reducible apply setFlag_kept) | split | (dsimp only)
    | (with_reducible refine kept_parts ?_ rfl rfl rfl rfl) | (simp only [kept_mk_iff])

theorem repeatNewest_length (src : Nat) (l : List LogEntry) : (repeatNewest src l).length = l.length := by
  induction l with
  | nil => rfl
  | cons e t ih => unfold repeatNewest; split <;> simp [ih]

theorem foldOne_kept {s : State} (f : Fold) (h : Kept n m q o s) :
    Kept n m q o (foldOne s f) := by
  unfold foldOne
  repeat' first
    | (with_reducible assumption) | (with_reducible apply stat_kept) | (with_reducible apply wf_kept) | (with_reducible apply kept_ite)

theorem foldPaths_kept {s : State} (h : Kept n m q o s) :
    Kept n m q o (foldPaths s) := by
  unfold foldPaths
  repeat' first | (with_reducible assumption) | (with_reducible apply foldOne_kept) | (with_reducible refine kept_foldl ?_ ?_; intro _ _ _)

/-- An entry's repeat count may rise in place. -/
theorem repeat_kept {s : State} (src : Nat) (h : Kept n m q o s) :
    Kept n m q o { s with evt := { s.evt with log := (repeatNewest src s.evt.log.reverse).reverse } } := by
  refine evt_kept _ ?_ h
  show ((repeatNewest src s.evt.log.reverse).reverse).length ≤ 1024
  rw [List.length_reverse, repeatNewest_length, List.length_reverse]
  exact h.inv.log

theorem logFiring_kept {x : Nat × Bool × State} (f : Firing) (h : Kept n m q o x.2.2) : Kept n m q o (logFiring f x) := by
  obtain ⟨del, co, s⟩ := x
  exact kept_ite (logWrite_kept _ h) (kept_ite (repeat_kept _ h) h)

theorem present_kept {s : State} (f : Firing) (clr : Option Nat) (h : Kept n m q o s) : Kept n m q o (present s f clr) := by
  unfold present
  exact logFiring_kept f (kept_foldl_trd (fun t a ht => fireAt_kept f clr a ht) (evt_kept _ (by exact h.inv.log) h))

theorem presentNext_kept {s : State} (src : Nat) (clr : Option Nat) (h : Kept n m q o s) :
    Kept n m q o (presentNext s src clr) := by
  unfold presentNext
  repeat' first | (with_reducible assumption) | (with_reducible apply present_kept) | split

theorem tokenStart_kept {before : State} {after : State} (h : Kept n m q o after) :
    Kept n m q o (tokenStart before after) := by
  unfold tokenStart
  repeat' first | (with_reducible assumption) | (with_reducible apply coldStart_kept) | (with_reducible apply kept_ite)

/-! ## CmdArray -/

theorem dropTenures_kept {s : State} (i : Nat) (h : Kept n m q o s) :
    Kept n m q o (dropTenures s i) := by
  unfold dropTenures
  repeat' first | (with_reducible assumption) | (with_reducible refine kept_parts ?_ rfl rfl rfl rfl) | (simp only [kept_mk_iff])

theorem execCrossingPulse_kept (src : Nat) (dst : Nat) (burst : Nat) {s : State} (h : Kept n m q o s) :
    OutKept n m q o (execCrossingPulse src dst burst s) := by
  unfold execCrossingPulse
  repeat' first
    | (with_reducible assumption) | (with_reducible apply outKept_next) | (with_reducible apply islandSet_kept)
    | (with_reducible apply outKept_ite) | (with_reducible apply kept_ite) | (with_reducible refine kept_parts ?_ rfl rfl rfl rfl)
    | (simp only [kept_mk_iff])

theorem execCrossingWakeRequest_kept (dst : Nat) {s : State} (h : Kept n m q o s) :
    OutKept n m q o (execCrossingWakeRequest dst s) := by
  unfold execCrossingWakeRequest
  repeat' first
    | (with_reducible assumption) | (with_reducible apply outKept_next) | (with_reducible apply islandSet_kept)
    | (with_reducible apply outKept_ite)

theorem resetBlock_kept {s : State} (i : Nat) (h : Kept n m q o s) :
    Kept n m q o (resetBlock s i) := by
  unfold resetBlock
  repeat' first
    | (with_reducible assumption) | (with_reducible apply pathOff_kept) | (with_reducible apply State_setEng_kept)
    | (with_reducible apply abortJobs_kept) | (with_reducible apply allPathsOff_kept) | (with_reducible apply setLaneState_kept)
    | (with_reducible apply wr_kept) | (with_reducible apply firmwareStops_kept) | (with_reducible apply allDrainsFall_kept)
    | (with_reducible apply endDebug_kept) | (with_reducible apply kept_ite) | (with_reducible refine kept_foldl ?_ ?_; intro _ _ _)
    | (with_reducible refine kept_parts ?_ rfl rfl rfl rfl) | (simp only [kept_mk_iff]) | split

/-- The registers replaced by others in canonical form. -/
theorem regs_kept {s : State} (r t : Sparse RegVal) (hr : spSorted r = true) (ht : spSorted t = true) (h : Kept n m q o s) :
    Kept n m q o { s with regs := r, regsStaged := t } :=
  ⟨⟨h.inv.memory, hr, ht, h.inv.islands, h.inv.log, h.inv.spiIn, h.inv.spiOut, h.inv.stats, h.inv.counts⟩,
    h.pending, h.elapsed, h.drawn, h.out⟩

theorem resetIsland_kept {s : State} (i : Nat) (h : Kept n m q o s) : Kept n m q o (resetIsland s i) :=
  resetBlock_kept _ (dropTenures_kept _ (regs_kept _ _ (spSorted_filter _ h.inv.regs) (spSorted_filter _ h.inv.staged) h))

theorem execIslandResetCommand_kept (island : Nat) (inFlight : List Nat) {s : State} (h : Kept n m q o s) :
    OutKept n m q o (execIslandResetCommand island inFlight s) := by
  unfold execIslandResetCommand
  repeat' first
    | (with_reducible assumption) | (with_reducible apply outKept_next) | (with_reducible apply dropParked_kept)
    | (with_reducible apply wbit_kept) | (with_reducible apply resetIsland_kept) | (with_reducible apply emit_kept)
    | (with_reducible apply outKept_ite) | (with_reducible apply kept_ite) | (with_reducible refine kept_foldl ?_ ?_; intro _ _ _)
    | (with_reducible refine kept_parts ?_ rfl rfl rfl rfl) | (simp only [kept_mk_iff])

theorem execLockstepFault_kept (pair : Nat) {s : State} (h : Kept n m q o s) :
    OutKept n m q o (execLockstepFault pair s) := by
  unfold execLockstepFault
  repeat' first
    | (with_reducible assumption) | (with_reducible apply outKept_next) | (with_reducible apply lockstepFault_kept)
    | (with_reducible apply outKept_ite)

theorem execLostFlagClear_kept (role : Role) (island : Nat) (bits : Nat) {s : State} (h : Kept n m q o s) :
    OutKept n m q o (execLostFlagClear role island bits s) := by
  unfold execLostFlagClear
  repeat' first
    | (with_reducible assumption) | (with_reducible apply outKept_next) | (with_reducible apply outKept_ite)
    | (with_reducible refine kept_parts ?_ rfl rfl rfl rfl) | (simp only [kept_mk_iff]) | split

theorem execPairPromotion_kept {s : State} (h : Kept n m q o s) :
    OutKept n m q o (execPairPromotion s) := by
  unfold execPairPromotion
  repeat' first
    | (with_reducible assumption) | (with_reducible apply outKept_next) | (with_reducible apply promote_kept)
    | (with_reducible apply toSlot_kept) | (with_reducible apply outKept_ite)

theorem execRegisterWrite_kept (x0 : Master) (tag : Nat) (addr : Nat) (value : Nat) {s : State} (h : Kept n m q o s) :
    OutKept n m q o (execRegisterWrite x0 tag addr value s) := by
  unfold execRegisterWrite
  repeat' first
    | (with_reducible assumption) | (with_reducible apply outKept_next) | (with_reducible apply tokenStart_kept)
    | (with_reducible apply regWriteBy_kept)

/-! ## CmdBeam -/

theorem execDlRunStart_kept (cc : Nat) {s : State} (h : Kept n m q o s) :
    OutKept n m q o (execDlRunStart cc s) := by
  unfold execDlRunStart
  repeat' first
    | (with_reducible assumption) | (with_reducible apply outKept_next) | (with_reducible apply toBoundary_kept)
    | (with_reducible apply dlRun_kept) | (with_reducible apply outKept_ite) | (simp only [kept_mk_iff]) | split

theorem execErgDeclared_kept (p : Nat) {s : State} (h : Kept n m q o s) :
    OutKept n m q o (execErgDeclared p s) := by
  unfold execErgDeclared
  repeat' first
    | (with_reducible assumption) | (with_reducible apply outKept_next) | (with_reducible apply arrayMargin_kept)
    | (with_reducible apply raise_kept) | (with_reducible apply outKept_ite) | (with_reducible refine kept_parts ?_ rfl rfl rfl rfl)
    | (simp only [kept_mk_iff])

theorem execErgPathOff_kept (p : Nat) {s : State} (h : Kept n m q o s) :
    OutKept n m q o (execErgPathOff p s) := by
  unfold execErgPathOff
  repeat' first
    | (with_reducible assumption) | (with_reducible apply outKept_next) | (with_reducible apply reachElapsed_kept)
    | (with_reducible apply reachCount_kept) | (with_reducible apply fgPathOff_kept) | (with_reducible apply pathOff_kept)
    | (with_reducible apply outKept_ite) | (with_reducible apply kept_ite) | (with_reducible refine kept_parts ?_ rfl rfl rfl rfl)
    | (simp only [kept_mk_iff])

theorem execErgPathRestored_kept (p : Nat) {s : State} (h : Kept n m q o s) :
    OutKept n m q o (execErgPathRestored p s) := by
  unfold execErgPathRestored
  repeat' first
    | (with_reducible assumption) | (with_reducible apply outKept_next) | (with_reducible apply reachElapsed_kept)
    | (with_reducible apply reachCount_kept) | (with_reducible apply dpdReturns_kept) | (with_reducible apply State_setFe_kept)
    | (with_reducible apply arrayMargin_kept) | (with_reducible apply raise_kept) | (with_reducible apply enterPathState_kept)
    | (with_reducible apply outKept_ite) | (with_reducible apply kept_ite) | (with_reducible refine kept_parts ?_ rfl rfl rfl rfl)
    | (simp only [kept_mk_iff])

theorem execErgResynthDone_kept {s : State} (h : Kept n m q o s) :
    OutKept n m q o (execErgResynthDone s) := by
  unfold execErgResynthDone
  repeat' first
    | (with_reducible assumption) | (with_reducible apply outKept_next) | (with_reducible apply resynthDone_kept)
    | (with_reducible apply reachElapsed_kept) | (with_reducible apply outKept_ite)

theorem execErgResynthStart_kept {s : State} (h : Kept n m q o s) :
    OutKept n m q o (execErgResynthStart s) := by
  unfold execErgResynthStart
  repeat' first
    | (with_reducible assumption) | (with_reducible apply outKept_next) | (with_reducible apply ergPost_kept)
    | (with_reducible apply outKept_ite) | (with_reducible refine kept_parts ?_ rfl rfl rfl rfl) | (simp only [kept_mk_iff])

theorem execHealClear_kept (tag : Nat) (request : Bool) (value : Nat) {s : State} (h : Kept n m q o s) :
    OutKept n m q o (execHealClear tag request value s) := by
  unfold execHealClear
  repeat' first
    | (with_reducible assumption) | (with_reducible apply outKept_next) | (with_reducible apply healClear_kept)
    | (with_reducible apply firewall_kept) | (with_reducible apply outKept_ite) | (with_reducible apply kept_ite)

theorem execHealDeclare_kept (tag : Nat) (request : Bool) (value : Nat) {s : State} (h : Kept n m q o s) :
    OutKept n m q o (execHealDeclare tag request value s) := by
  unfold execHealDeclare
  repeat' first
    | (with_reducible assumption) | (with_reducible apply outKept_next) | (with_reducible apply failPath_kept)
    | (with_reducible apply firewall_kept) | (with_reducible apply outKept_ite) | (with_reducible apply kept_ite)

theorem execPrachCombine_kept (j : Nat) {s : State} (h : Kept n m q o s) :
    OutKept n m q o (execPrachCombine j s) := by
  unfold execPrachCombine
  repeat' first
    | (with_reducible assumption) | (with_reducible apply outKept_next) | (with_reducible apply prachCombine_kept)
    | (with_reducible apply outKept_ite)

theorem execTileFail_kept (t : Nat) {s : State} (h : Kept n m q o s) :
    OutKept n m q o (execTileFail t s) := by
  unfold execTileFail
  repeat' first
    | (with_reducible assumption) | (with_reducible apply outKept_next) | (with_reducible apply tileFail_kept)
    | (with_reducible apply outKept_ite)

theorem execTileSpareTakeover_kept {s : State} (h : Kept n m q o s) :
    OutKept n m q o (execTileSpareTakeover s) := by
  unfold execTileSpareTakeover
  repeat' first
    | (with_reducible assumption) | (with_reducible apply outKept_next) | (with_reducible apply reachElapsed_kept)
    | (with_reducible refine kept_parts ?_ rfl rfl rfl rfl) | (simp only [kept_mk_iff]) | split

theorem execTileStart_kept (x0 : Nat) {s : State} (h : Kept n m q o s) :
    OutKept n m q o (execTileStart x0 s) := by
  unfold execTileStart
  repeat' first
    | (with_reducible assumption) | (intro _) | (with_reducible apply outKept_next) | (with_reducible apply fireEvent_kept)
    | (with_reducible refine kept_parts ?_ rfl rfl rfl rfl) | (simp only [kept_mk_iff]) | split

theorem execUlRunStart_kept (cc : Nat) {s : State} (h : Kept n m q o s) :
    OutKept n m q o (execUlRunStart cc s) := by
  unfold execUlRunStart
  repeat' first
    | (with_reducible assumption) | (with_reducible apply outKept_next) | (with_reducible apply reachElapsed_kept)
    | (with_reducible apply dropRe_kept) | (with_reducible apply ulRun_kept) | (with_reducible apply outKept_ite)
    | (simp only [kept_mk_iff]) | split

theorem execWeightBlock_kept (role : Role) (block : List Byte) {s : State} (h : Kept n m q o s) :
    OutKept n m q o (execWeightBlock role block s) := by
  unfold execWeightBlock
  repeat' first | (with_reducible assumption) | (with_reducible apply outKept_next) | (with_reducible apply weightBlock_kept) | split

theorem execWeightHandover_kept (x0 : Nat) {s : State} (h : Kept n m q o s) :
    OutKept n m q o (execWeightHandover x0 s) := by
  unfold execWeightHandover
  repeat' first
    | (with_reducible assumption) | (intro _) | (with_reducible apply outKept_next) | (with_reducible apply fireEvent_kept)
    | (with_reducible apply State_setWset_kept)

theorem execWeightVectorLand_kept (sameCycle : Bool) {s : State} (h : Kept n m q o s) :
    OutKept n m q o (execWeightVectorLand sameCycle s) := by
  unfold execWeightVectorLand
  repeat' first
    | (with_reducible assumption) | (with_reducible apply outKept_next) | (with_reducible apply landVector_kept)
    | (with_reducible refine kept_parts ?_ rfl rfl rfl rfl) | (simp only [kept_mk_iff]) | split

/-! ## CmdSecurity -/

theorem answer_kept {x : Nat × State} (h : Kept n m q o x.2) : Kept n m q o (answer x) := emit_kept _ h

theorem debugD2_kept {s : State} (tag : Nat) {f : State → State} (ha : Kept n m q o (f s)) (h : Kept n m q o s) :
    Kept n m q o (debugD2 s tag f) := by
  unfold debugD2
  repeat' first | (with_reducible assumption) | (with_reducible apply dbgRefuse_kept) | split

theorem execAttestation_kept (nonce : List Byte) {s : State} (h : Kept n m q o s) :
    OutKept n m q o (execAttestation nonce s) := by
  unfold execAttestation
  repeat' first
    | (with_reducible assumption) | (with_reducible apply outKept_next) | (with_reducible apply attest_kept)
    | (with_reducible apply emit_kept) | (with_reducible apply outKept_ite)

theorem tapDo_kept {s : State} (ok : Bool) {f : State → State} (ha : Kept n m q o (f s)) (h : Kept n m q o s) :
    Kept n m q o (tapDo s ok f) := by
  unfold tapDo
  repeat' first | (with_reducible assumption) | (with_reducible apply stat_kept) | (with_reducible apply tapBypass_kept) | split

theorem execBypass_kept (ir : Nat) {s : State} (h : Kept n m q o s) :
    OutKept n m q o (execBypass ir s) := by
  unfold execBypass
  repeat' first
    | (with_reducible assumption) | (with_reducible apply outKept_next) | (with_reducible apply tapDo_kept)
    | (with_reducible apply emit_kept) | (with_reducible apply tapSelect_kept) | (simp only [id_eq]) | (with_reducible apply outKept_ite)

theorem execChallengeRead_kept (role : Role) {s : State} (h : Kept n m q o s) :
    OutKept n m q o (execChallengeRead role s) := by
  unfold execChallengeRead
  repeat' first
    | (with_reducible assumption) | (with_reducible apply outKept_next) | (with_reducible apply emit_kept)
    | (with_reducible apply challengeRead_kept) | (simp only [kept_mk_iff]) | split

theorem execCheckDiongTag_kept (x0 : Master) (t : Transport) (len : Nat) {s : State} (h : Kept n m q o s) :
    OutKept n m q o (execCheckDiongTag x0 t len s) := by
  unfold execCheckDiongTag
  repeat' first
    | (with_reducible assumption) | (intro _) | (with_reducible apply outKept_next) | (with_reducible apply mbox_kept)
    | (with_reducible apply mboxCheckTag_kept)

theorem execClamp_kept {s : State} (h : Kept n m q o s) :
    OutKept n m q o (execClamp s) := by
  unfold execClamp
  repeat' first
    | (with_reducible assumption) | (with_reducible apply outKept_next) | (with_reducible apply tapDo_kept)
    | (with_reducible apply emit_kept) | (with_reducible apply tapSelect_kept)

theorem execCoreHalt_kept (tag : Nat) (value : Nat) {s : State} (h : Kept n m q o s) :
    OutKept n m q o (execCoreHalt tag value s) := by
  unfold execCoreHalt
  repeat' first
    | (with_reducible assumption) | (with_reducible apply outKept_next) | (with_reducible apply debugD2_kept)
    | (with_reducible apply coreCtrl_kept)

theorem execCoreStep_kept (tag : Nat) (value : Nat) {s : State} (h : Kept n m q o s) :
    OutKept n m q o (execCoreStep tag value s) := by
  unfold execCoreStep
  repeat' first
    | (with_reducible assumption) | (with_reducible apply outKept_next) | (with_reducible apply debugD2_kept)
    | (with_reducible apply coreCtrl_kept)

theorem execDbgChal_kept {s : State} (h : Kept n m q o s) :
    OutKept n m q o (execDbgChal s) := by
  unfold execDbgChal
  repeat' first
    | (with_reducible assumption) | (with_reducible apply outKept_next) | (with_reducible apply tapDo_kept)
    | (with_reducible apply challengeRead_kept) | (with_reducible apply tapSelect_kept) | (with_reducible apply emit_kept)

theorem execDbgClose_kept (tag : Nat) {s : State} (h : Kept n m q o s) :
    OutKept n m q o (execDbgClose tag s) := by
  unfold execDbgClose
  repeat' first
    | (with_reducible assumption) | (with_reducible apply outKept_next) | (with_reducible apply endDebug_kept)
    | (with_reducible apply dbgRefuse_kept) | (with_reducible apply kept_ite)

theorem execDbgPort_kept (addr : Nat) (op : Nat) (wide : Bool) (data : Nat) {s : State} (h : Kept n m q o s) :
    OutKept n m q o (execDbgPort addr op wide data s) := by
  unfold execDbgPort
  repeat' first
    | (with_reducible assumption) | (with_reducible apply outKept_next) | (with_reducible apply tapDo_kept)
    | (with_reducible apply emit_kept) | (with_reducible apply tapSelect_kept) | (with_reducible apply debugAccess_kept)
    | (with_reducible apply kept_ite) | (with_reducible refine kept_parts ?_ rfl rfl rfl rfl) | (simp only [kept_mk_iff])

theorem execDbgResp_kept (response : List Byte) {s : State} (h : Kept n m q o s) :
    OutKept n m q o (execDbgResp response s) := by
  unfold execDbgResp
  repeat' first
    | (with_reducible assumption) | (with_reducible apply outKept_next) | (with_reducible apply tapDo_kept)
    | (with_reducible apply debugResponse_kept) | (with_reducible apply tapSelect_kept)

theorem execDbgStatus_kept {s : State} (h : Kept n m q o s) :
    OutKept n m q o (execDbgStatus s) := by
  unfold execDbgStatus
  repeat' first
    | (with_reducible assumption) | (with_reducible apply outKept_next) | (with_reducible apply tapDo_kept)
    | (with_reducible apply emit_kept) | (with_reducible apply tapSelect_kept)

theorem execDebugChallengeExpiry_kept {s : State} (h : Kept n m q o s) :
    OutKept n m q o (execDebugChallengeExpiry s) := by
  unfold execDebugChallengeExpiry
  repeat' first
    | (with_reducible assumption) | (with_reducible apply outKept_next) | (with_reducible apply reachElapsed_kept)
    | (with_reducible refine kept_parts ?_ rfl rfl rfl rfl) | (simp only [kept_mk_iff]) | split

theorem execDebugLockoutEnd_kept {s : State} (h : Kept n m q o s) :
    OutKept n m q o (execDebugLockoutEnd s) := by
  unfold execDebugLockoutEnd
  repeat' first
    | (with_reducible assumption) | (with_reducible apply outKept_next) | (with_reducible apply reachElapsed_kept)
    | (with_reducible refine kept_parts ?_ rfl rfl rfl rfl) | (simp only [kept_mk_iff]) | split

theorem execDebugResponse_kept (t : Transport) (session : Nat) (response : List Byte) {s : State} (h : Kept n m q o s) :
    OutKept n m q o (execDebugResponse t session response s) := by
  unfold execDebugResponse
  repeat' first
    | (with_reducible assumption) | (with_reducible apply outKept_next) | (with_reducible apply emit_kept)
    | (with_reducible apply answer_kept) | (with_reducible apply debugResponse_kept) | (with_reducible apply outKept_ite) | split

theorem execDebugSessionExpiry_kept {s : State} (h : Kept n m q o s) :
    OutKept n m q o (execDebugSessionExpiry s) := by
  unfold execDebugSessionExpiry
  repeat' first
    | (with_reducible assumption) | (with_reducible apply outKept_next) | (with_reducible apply endDebug_kept)
    | (with_reducible apply reachElapsed_kept) | split

theorem execDebugTunnel_kept (t : Transport) (session : Nat) (list : List Byte) {s : State} (h : Kept n m q o s) :
    OutKept n m q o (execDebugTunnel t session list s) := by
  unfold execDebugTunnel
  repeat' first
    | (with_reducible assumption) | (with_reducible apply outKept_next) | (with_reducible apply tunnelList_kept)
    | (with_reducible apply emit_kept) | (with_reducible apply outKept_ite)

theorem execEngineHalt_kept (tag : Nat) (value : Nat) {s : State} (h : Kept n m q o s) :
    OutKept n m q o (execEngineHalt tag value s) := by
  unfold execEngineHalt
  repeat' first
    | (with_reducible assumption) | (with_reducible apply outKept_next) | (with_reducible apply debugD2_kept)
    | (with_reducible apply engineHalts_kept)

theorem execExtest_kept (cells : Nat) (capture : Nat) {s : State} (h : Kept n m q o s) :
    OutKept n m q o (execExtest cells capture s) := by
  unfold execExtest
  repeat' first
    | (with_reducible assumption) | (with_reducible apply outKept_next) | (with_reducible apply tapDo_kept)
    | (with_reducible apply tapSelect_kept) | (with_reducible apply emit_kept) | (with_reducible refine kept_parts ?_ rfl rfl rfl rfl)
    | (simp only [kept_mk_iff])

theorem execHighz_kept {s : State} (h : Kept n m q o s) :
    OutKept n m q o (execHighz s) := by
  unfold execHighz
  repeat' first
    | (with_reducible assumption) | (with_reducible apply outKept_next) | (with_reducible apply tapDo_kept)
    | (with_reducible apply emit_kept) | (with_reducible apply tapSelect_kept)

theorem execIdcode_kept {s : State} (h : Kept n m q o s) :
    OutKept n m q o (execIdcode s) := by
  unfold execIdcode
  repeat' first
    | (with_reducible assumption) | (with_reducible apply outKept_next) | (with_reducible apply tapDo_kept)
    | (with_reducible apply emit_kept) | (with_reducible apply tapSelect_kept)

theorem notTenant_kept (role : Role) {s : State} {f : Nat × State} (hf : Kept n m q o f.2) (h : Kept n m q o s) :
    Kept n m q o (notTenant role s f).2 := by
  unfold notTenant
  split
  · exact h
  · exact hf

theorem execKeyEnvelope_kept (role : Role) (k : Nat) (envelope : List Byte) {s : State} (h : Kept n m q o s) :
    OutKept n m q o (execKeyEnvelope role k envelope s) := by
  unfold execKeyEnvelope
  repeat' first
    | (with_reducible assumption) | (with_reducible apply outKept_next) | (with_reducible apply answer_kept)
    | (with_reducible apply notTenant_kept) | (with_reducible apply keyEnvelope_kept)

theorem execLifecycleToken_kept (x0 : Master) (len : Nat) {s : State} (h : Kept n m q o s) :
    OutKept n m q o (execLifecycleToken x0 len s) := by
  unfold execLifecycleToken
  repeat' first
    | (with_reducible assumption) | (intro _) | (with_reducible apply outKept_next) | (with_reducible apply tokenStart_kept)
    | (with_reducible apply mbox_kept) | (with_reducible apply mboxToken_kept)

theorem execMakeDiongTag_kept (x0 : Master) (t : Transport) (len : Nat) {s : State} (h : Kept n m q o s) :
    OutKept n m q o (execMakeDiongTag x0 t len s) := by
  unfold execMakeDiongTag
  repeat' first
    | (with_reducible assumption) | (intro _) | (with_reducible apply outKept_next) | (with_reducible apply mbox_kept)
    | (with_reducible apply mboxMakeTag_kept)

theorem execMboxAttestation_kept (x0 : Master) (len : Nat) {s : State} (h : Kept n m q o s) :
    OutKept n m q o (execMboxAttestation x0 len s) := by
  unfold execMboxAttestation
  repeat' first
    | (with_reducible assumption) | (intro _) | (with_reducible apply outKept_next) | (with_reducible apply mbox_kept)
    | (with_reducible apply mboxAttest_kept)

theorem execMboxKeyEnvelope_kept (x0 : Master) (role : Role) (len : Nat) {s : State} (h : Kept n m q o s) :
    OutKept n m q o (execMboxKeyEnvelope x0 role len s) := by
  unfold execMboxKeyEnvelope
  repeat' first
    | (with_reducible assumption) | (intro _) | (with_reducible apply outKept_next) | (with_reducible apply mbox_kept)
    | (with_reducible apply mboxKey_kept)

theorem execMboxRootRecord_kept (x0 : Master) (len : Nat) {s : State} (h : Kept n m q o s) :
    OutKept n m q o (execMboxRootRecord x0 len s) := by
  unfold execMboxRootRecord
  repeat' first
    | (with_reducible assumption) | (intro _) | (with_reducible apply outKept_next) | (with_reducible apply mbox_kept)
    | (with_reducible apply mboxRoot_kept)

theorem execOldCakTimeout_kept (x0 : Nat) (down : Bool) {s : State} (h : Kept n m q o s) :
    OutKept n m q o (execOldCakTimeout x0 down s) := by
  unfold execOldCakTimeout
  repeat' first
    | (with_reducible assumption) | (with_reducible apply outKept_next) | (with_reducible apply reachElapsed_kept)
    | (with_reducible apply portState_kept) | (with_reducible apply outKept_ite) | (with_reducible apply kept_ite)
    | (with_reducible refine kept_parts ?_ rfl rfl rfl rfl) | (simp only [kept_mk_iff])

theorem execRaiseMinimums_kept (role : Role) {s : State} (h : Kept n m q o s) :
    OutKept n m q o (execRaiseMinimums role s) := by
  unfold execRaiseMinimums
  repeat' first
    | (with_reducible assumption) | (with_reducible apply outKept_next) | (with_reducible apply emit_kept)
    | (with_reducible apply raiseMinimums_kept) | (with_reducible apply outKept_ite)

theorem execRandomBytes_kept (x0 : Master) (len : Nat) {s : State} (h : Kept n m q o s) :
    OutKept n m q o (execRandomBytes x0 len s) := by
  unfold execRandomBytes
  repeat' first
    | (with_reducible assumption) | (intro _) | (with_reducible apply outKept_next) | (with_reducible apply mbox_kept)
    | (with_reducible apply mboxRandom_kept)

theorem execRootRecord_kept (role : Role) (record : List Byte) {s : State} (h : Kept n m q o s) :
    OutKept n m q o (execRootRecord role record s) := by
  unfold execRootRecord
  repeat' first
    | (with_reducible assumption) | (with_reducible apply outKept_next) | (with_reducible apply answer_kept)
    | (with_reducible apply rootRecord_kept) | split

theorem execSamplePreload_kept (cells : Nat) (capture : Nat) {s : State} (h : Kept n m q o s) :
    OutKept n m q o (execSamplePreload cells capture s) := by
  unfold execSamplePreload
  repeat' first
    | (with_reducible assumption) | (with_reducible apply outKept_next) | (with_reducible apply tapDo_kept)
    | (with_reducible apply tapSelect_kept) | (with_reducible apply emit_kept) | (with_reducible refine kept_parts ?_ rfl rfl rfl rfl)
    | (simp only [kept_mk_iff])

theorem execTapReset_kept {s : State} (h : Kept n m q o s) :
    OutKept n m q o (execTapReset s) := by
  unfold execTapReset
  repeat' first
    | (with_reducible assumption) | (with_reducible apply outKept_next) | (with_reducible apply tapDo_kept)
    | (with_reducible apply tapSelect_kept)

theorem execTransitionToken_kept (role : Role) (token : List Byte) {s : State} (h : Kept n m q o s) :
    OutKept n m q o (execTransitionToken role token s) := by
  unfold execTransitionToken
  repeat' first
    | (with_reducible assumption) | (with_reducible apply outKept_next) | (with_reducible apply tokenStart_kept)
    | (with_reducible apply answer_kept) | (with_reducible apply notTenant_kept) | (with_reducible apply lcTransition_kept)
    | (with_reducible apply kept_ite)

theorem execVerifyImage_kept (x0 : Master) (len : Nat) {s : State} (h : Kept n m q o s) :
    OutKept n m q o (execVerifyImage x0 len s) := by
  unfold execVerifyImage
  repeat' first
    | (with_reducible assumption) | (intro _) | (with_reducible apply outKept_next) | (with_reducible apply mbox_kept)
    | (with_reducible apply mboxVerify_kept)

/-! ## CmdBoot -/

theorem execBootStep_kept (x : BootIn) {s : State} (h : Kept n m q o s) :
    OutKept n m q o (execBootStep x s) := by
  unfold execBootStep
  repeat' first | (with_reducible assumption) | (with_reducible apply outKept_next) | (with_reducible apply bootStep_kept)

theorem execColdStart_kept (pin : Nat) {s : State} (h : Kept n m q o s) :
    OutKept n m q o (execColdStart pin s) := by
  unfold execColdStart
  repeat' first
    | (with_reducible assumption) | (with_reducible apply outKept_next) | (with_reducible apply coldStart_kept)
    | (with_reducible apply outKept_ite) | (with_reducible apply kept_ite) | (with_reducible refine kept_parts ?_ rfl rfl rfl rfl)
    | (simp only [kept_mk_iff])

theorem execLoaderImage_kept (sub : Nat) (image : List Byte) {s : State} (h : Kept n m q o s) :
    OutKept n m q o (execLoaderImage sub image s) := by
  unfold execLoaderImage
  repeat' first
    | (with_reducible assumption) | (with_reducible apply outKept_next) | (with_reducible apply emit_kept)
    | (with_reducible apply loaderImage_kept) | (with_reducible apply outKept_ite)

theorem execOsc32Qualified_kept {s : State} (h : Kept n m q o s) :
    OutKept n m q o (execOsc32Qualified s) := by
  unfold execOsc32Qualified
  repeat' first
    | (with_reducible assumption) | (with_reducible apply outKept_next) | (with_reducible refine kept_parts ?_ rfl rfl rfl rfl)
    | (simp only [kept_mk_iff]) | split

theorem execPwrBootGo_kept (tag : Nat) (value : Nat) {s : State} (h : Kept n m q o s) :
    OutKept n m q o (execPwrBootGo tag value s) := by
  unfold execPwrBootGo
  repeat' first
    | (with_reducible assumption) | (with_reducible apply outKept_next) | (with_reducible apply bootGo_kept)
    | (with_reducible apply firewall_kept) | (with_reducible apply kept_ite)

theorem execRefclkQualified_kept {s : State} (h : Kept n m q o s) :
    OutKept n m q o (execRefclkQualified s) := by
  unfold execRefclkQualified
  repeat' first
    | (with_reducible assumption) | (with_reducible apply outKept_next) | (with_reducible apply leaveStep2_kept)
    | (with_reducible apply setCode_kept) | (with_reducible apply outKept_ite) | (with_reducible refine kept_parts ?_ rfl rfl rfl rfl)
    | (simp only [kept_mk_iff])

theorem execResetAssert_kept (pin : Nat) (ns : Nat) {s : State} (h : Kept n m q o s) :
    OutKept n m q o (execResetAssert pin ns s) := by
  unfold execResetAssert
  repeat' first
    | (with_reducible assumption) | (with_reducible apply outKept_next) | (with_reducible apply holdReset_kept)
    | (with_reducible apply draw_kept) | (with_reducible apply outKept_ite) | (with_reducible apply kept_ite)

/-! ## CmdCalibration -/

theorem execBaseNoteSave_kept (j : Nat) {s : State} (h : Kept n m q o s) :
    OutKept n m q o (execBaseNoteSave j s) := by
  unfold execBaseNoteSave
  repeat' first
    | (with_reducible assumption) | (with_reducible apply outKept_next) | (with_reducible apply reachElapsed_kept)
    | (with_reducible apply outKept_ite) | (with_reducible apply kept_ite) | (with_reducible refine kept_parts ?_ rfl rfl rfl rfl)
    | (simp only [kept_mk_iff])

theorem execBaseReevaluation_kept {s : State} (h : Kept n m q o s) :
    OutKept n m q o (execBaseReevaluation s) := by
  unfold execBaseReevaluation
  repeat' first
    | (with_reducible assumption) | (with_reducible apply outKept_next) | (with_reducible apply State_setPobj_kept)
    | (with_reducible apply retarget_kept) | (with_reducible refine kept_foldl ?_ ?_; intro _ _ _)
    | (with_reducible refine kept_parts ?_ rfl rfl rfl rfl) | (simp only [kept_mk_iff])

theorem execCalHrxArm_kept (tag : Nat) (value : Nat) {s : State} (h : Kept n m q o s) :
    OutKept n m q o (execCalHrxArm tag value s) := by
  unfold execCalHrxArm
  repeat' first
    | (with_reducible assumption) | (with_reducible apply outKept_next) | (with_reducible apply tagged_kept)
    | (with_reducible apply hrxArm_kept)

theorem execCalItemStale_kept (p : Nat) (item : Nat) {s : State} (h : Kept n m q o s) :
    OutKept n m q o (execCalItemStale p item s) := by
  unfold execCalItemStale
  repeat' first
    | (with_reducible assumption) | (with_reducible apply outKept_next) | (with_reducible apply setStaleBit_kept)
    | (with_reducible apply reachElapsed_kept) | (with_reducible apply outKept_ite)

theorem execCalRampStep_kept {s : State} (h : Kept n m q o s) :
    OutKept n m q o (execCalRampStep s) := by
  unfold execCalRampStep
  repeat' first
    | (with_reducible assumption) | (with_reducible apply outKept_next) | (with_reducible apply toSymbol_kept)
    | (with_reducible apply State_setCal_kept) | (with_reducible apply kept_ite) | (with_reducible refine kept_foldl ?_ ?_; intro _ _ _)

theorem execCalWindow_kept (x0 : Nat) {s : State} (h : Kept n m q o s) :
    OutKept n m q o (execCalWindow x0 s) := by
  unfold execCalWindow
  repeat' first
    | (with_reducible assumption) | (intro _) | (with_reducible apply outKept_next) | (with_reducible apply fireEvent_kept)
    | (with_reducible apply State_setTop_kept) | (with_reducible apply kept_ite) | (with_reducible refine kept_foldl ?_ ?_; intro _ _ _)

theorem execForegroundRequest_kept (who : Option Role) (path : Nat) (item : Nat) (flags : Nat) {s : State} (h : Kept n m q o s) :
    OutKept n m q o (execForegroundRequest who path item flags s) := by
  unfold execForegroundRequest
  repeat' first
    | (with_reducible assumption) | (with_reducible apply outKept_next) | (with_reducible apply fgRequest_kept)
    | (with_reducible apply outKept_ite) | split

theorem execForegroundRunEnd_kept (p : Nat) (pass : Bool) (results : List (Nat × CalMeas)) {s : State} (h : Kept n m q o s) :
    OutKept n m q o (execForegroundRunEnd p pass results s) := by
  unfold execForegroundRunEnd
  repeat' first
    | (with_reducible assumption) | (with_reducible apply outKept_next) | (with_reducible apply lastRun_kept)
    | (with_reducible apply reachElapsed_kept) | (with_reducible apply fgApply_kept) | (with_reducible apply fgEnd_kept)
    | (with_reducible apply windowReturn_kept) | (with_reducible apply heartLimit_kept) | (with_reducible apply failPath_kept)
    | (with_reducible apply raise_kept) | (with_reducible apply outKept_ite) | (with_reducible apply kept_ite)
    | (with_reducible refine kept_parts ?_ rfl rfl rfl rfl) | (simp only [kept_mk_iff]) | split

theorem execForegroundWindowTimeout_kept (p : Nat) {s : State} (h : Kept n m q o s) :
    OutKept n m q o (execForegroundWindowTimeout p s) := by
  unfold execForegroundWindowTimeout
  repeat' first
    | (with_reducible assumption) | (with_reducible apply outKept_next) | (with_reducible apply fgEnd_kept)
    | (with_reducible apply reachElapsed_kept) | split

theorem execHeartInjection_kept {s : State} (h : Kept n m q o s) :
    OutKept n m q o (execHeartInjection s) := by
  unfold execHeartInjection
  repeat' first
    | (with_reducible assumption) | (with_reducible apply outKept_next) | (with_reducible apply reachCount_kept)
    | (with_reducible apply wr_kept) | (with_reducible apply wf_kept) | (with_reducible apply takeAgain_kept)
    | (with_reducible apply passTicks_kept) | (with_reducible apply unstepPaths_kept) | (with_reducible apply stepPaths_kept)
    | (with_reducible apply State_setObj_kept) | (with_reducible apply outKept_ite) | (with_reducible apply kept_ite)
    | (simp only [kept_mk_iff]) | split

theorem trimZero_kept {s : State} (p : Nat) (i : Nat) (h : Kept n m q o s) :
    Kept n m q o (trimZero s p i) := by
  unfold trimZero
  repeat' first | (with_reducible assumption) | (with_reducible apply State_setTop_kept) | (with_reducible apply retarget_kept)

theorem heartApply_kept {s : State} (item : Nat) (r : HeartRes) (h : Kept n m q o s) :
    Kept n m q o (heartApply s item r) := by
  unfold heartApply
  repeat' first
    | (with_reducible assumption) | (with_reducible apply retarget_kept) | (with_reducible apply learn_kept)
    | (with_reducible apply State_setCal_kept) | (with_reducible apply State_setPobj_kept) | (with_reducible apply refreshed_kept)
    | (with_reducible apply State_setObj_kept) | (with_reducible apply trimZero_kept) | (with_reducible apply heartLimit_kept)
    | (with_reducible apply kept_ite) | (with_reducible refine kept_foldl ?_ ?_; intro _ _ _)

theorem execHeartRunComplete_kept (item : Nat) (lowRank : Bool) (results : List HeartRes) {s : State} (h : Kept n m q o s) :
    OutKept n m q o (execHeartRunComplete item lowRank results s) := by
  unfold execHeartRunComplete
  repeat' first
    | (with_reducible assumption) | (with_reducible apply outKept_next) | (with_reducible apply State_setObj_kept)
    | (with_reducible apply raise_kept) | (with_reducible apply heartApply_kept) | (with_reducible apply State_setTop_kept)
    | (with_reducible apply outKept_ite) | (with_reducible apply kept_ite) | (with_reducible refine kept_foldl ?_ ?_; intro _ _ _)
    | (with_reducible refine kept_parts ?_ rfl rfl rfl rfl) | (simp only [kept_mk_iff])

theorem execHeartSnapshot_kept {s : State} (h : Kept n m q o s) :
    OutKept n m q o (execHeartSnapshot s) := by
  unfold execHeartSnapshot
  repeat' first
    | (with_reducible assumption) | (with_reducible apply outKept_next) | (with_reducible apply openCapture_kept)
    | (with_reducible apply outKept_ite) | (with_reducible refine kept_foldl ?_ ?_; intro _ _ _)
    | (with_reducible refine kept_parts ?_ rfl rfl rfl rfl) | (simp only [kept_mk_iff])

theorem execServiceWindowStart_kept {s : State} (h : Kept n m q o s) :
    OutKept n m q o (execServiceWindowStart s) := by
  unfold execServiceWindowStart
  repeat' first
    | (with_reducible assumption) | (with_reducible apply outKept_next) | (with_reducible apply reachCount_kept)
    | (with_reducible apply fgPathOff_kept) | (with_reducible apply arrayMargin_kept) | (with_reducible apply pathOff_kept)
    | (with_reducible apply outKept_ite) | (with_reducible refine kept_foldl ?_ ?_; intro _ _ _)
    | (with_reducible refine kept_parts ?_ rfl rfl rfl rfl) | (simp only [kept_mk_iff])

theorem execTopNoteWindow_kept (p : Nat) (meas : TopMeas) {s : State} (h : Kept n m q o s) :
    OutKept n m q o (execTopNoteWindow p meas s) := by
  unfold execTopNoteWindow
  repeat' first
    | (with_reducible assumption) | (with_reducible apply outKept_next) | (with_reducible apply State_setTop_kept)
    | (with_reducible apply skipWindow_kept) | (with_reducible apply reachCount_kept) | (with_reducible apply wf_kept)
    | (with_reducible apply fgEnd_kept) | (with_reducible apply lastRun_kept) | (with_reducible apply topUpdate_kept)
    | (with_reducible apply outKept_ite) | (with_reducible apply kept_ite) | (simp only [kept_mk_iff]) | split

theorem execTraceGate_kept (edges : Nat) (steer : Int) (txo : Int) {s : State} (h : Kept n m q o s) :
    OutKept n m q o (execTraceGate edges steer txo s) := by
  unfold execTraceGate
  repeat' first
    | (with_reducible assumption) | (with_reducible apply outKept_next) | (with_reducible apply wf_kept)
    | (with_reducible apply wbit_kept) | (with_reducible apply raise_kept) | (with_reducible apply outKept_ite)
    | (with_reducible apply kept_ite) | (with_reducible refine kept_parts ?_ rfl rfl rfl rfl) | (simp only [kept_mk_iff])

/-! ## CmdConverter -/

theorem execBestEffortVisit_kept (r : Nat) (path : Nat) (x2 : Nat) {s : State} (h : Kept n m q o s) :
    OutKept n m q o (execBestEffortVisit r path x2 s) := by
  unfold execBestEffortVisit
  repeat' first
    | (with_reducible assumption) | (with_reducible apply outKept_next) | (with_reducible apply startVisit_kept)
    | (with_reducible apply outKept_ite)

theorem execCaptureDrainComplete_kept (b : Nat) (xs : List Cplx) (zs : List Cplx) (ovr : Bool) {s : State} (h : Kept n m q o s) :
    OutKept n m q o (execCaptureDrainComplete b xs zs ovr s) := by
  unfold execCaptureDrainComplete
  repeat' first
    | (with_reducible assumption) | (with_reducible apply outKept_next) | (with_reducible apply openVisits_kept)
    | (with_reducible apply askWaiting_kept) | (with_reducible apply postWaiting_kept) | (with_reducible apply drainCapture_kept)
    | (with_reducible apply reachElapsed_kept) | (with_reducible apply outKept_ite)

theorem execCaptureOpen_kept (x0 : Nat) {s : State} (h : Kept n m q o s) :
    OutKept n m q o (execCaptureOpen x0 s) := by
  unfold execCaptureOpen
  repeat' first
    | (with_reducible assumption) | (intro _) | (with_reducible apply outKept_next) | (with_reducible apply fireEvent_kept)
    | (with_reducible apply openVisits_kept) | (with_reducible apply openCapture_kept) | (with_reducible apply kept_ite)
    | (with_reducible refine kept_foldl ?_ ?_; intro _ _ _)

theorem execCaptureRelease_kept (tag : Nat) (c : Nat) (value : Nat) {s : State} (h : Kept n m q o s) :
    OutKept n m q o (execCaptureRelease tag c value s) := by
  unfold execCaptureRelease
  repeat' first
    | (with_reducible assumption) | (with_reducible apply outKept_next) | (with_reducible apply capRelease_kept)
    | (with_reducible apply outKept_ite)

theorem execDacDwellEnd_kept (d : Nat) (trim : Nat) (dev : Int) (follows : Bool) {s : State} (h : Kept n m q o s) :
    OutKept n m q o (execDacDwellEnd d trim dev follows s) := by
  unfold execDacDwellEnd
  repeat' first
    | (with_reducible assumption) | (with_reducible apply outKept_next) | (with_reducible apply reachElapsed_kept)
    | (with_reducible apply dwellEnd_kept) | (with_reducible apply outKept_ite)

theorem execDacDwellStart_kept (d : Nat) {s : State} (h : Kept n m q o s) :
    OutKept n m q o (execDacDwellStart d s) := by
  unfold execDacDwellStart
  repeat' first
    | (with_reducible assumption) | (with_reducible apply outKept_next) | (with_reducible apply State_setDac_kept)
    | (with_reducible apply outKept_ite)

theorem execEmergencySwap_kept (k : Nat) (slice : Nat) {s : State} (h : Kept n m q o s) :
    OutKept n m q o (execEmergencySwap k slice s) := by
  unfold execEmergencySwap
  repeat' first
    | (with_reducible assumption) | (with_reducible apply outKept_next) | (with_reducible apply emergencySwap_kept)
    | (with_reducible apply outKept_ite)

theorem execOrxFailure_kept (r : Nat) {s : State} (h : Kept n m q o s) :
    OutKept n m q o (execOrxFailure r s) := by
  unfold execOrxFailure
  repeat' first
    | (with_reducible assumption) | (with_reducible apply outKept_next) | (with_reducible apply orxFails_kept)
    | (with_reducible apply outKept_ite)

theorem execOrxVisit_kept (x0 : Nat) {s : State} (h : Kept n m q o s) :
    OutKept n m q o (execOrxVisit x0 s) := by
  unfold execOrxVisit
  repeat' first
    | (with_reducible assumption) | (intro _) | (with_reducible apply outKept_next) | (with_reducible apply fireEvent_kept)
    | (with_reducible apply requestVisit_kept) | (with_reducible apply kept_ite)

theorem execOrxVisitEnd_kept (r : Nat) {s : State} (h : Kept n m q o s) :
    OutKept n m q o (execOrxVisitEnd r s) := by
  unfold execOrxVisitEnd
  repeat' first
    | (with_reducible assumption) | (with_reducible apply outKept_next) | (with_reducible apply openDue_kept)
    | (with_reducible apply reachElapsed_kept) | (with_reducible apply State_setOrx_kept) | (with_reducible apply startVisit_kept)
    | (with_reducible apply askWaiting_kept) | (with_reducible apply outKept_ite) | (simp only [kept_mk_iff]) | split

theorem publishSpur_kept {s : State} (k : Nat) (spur : Int) (h : Kept n m q o s) :
    Kept n m q o (publishSpur s k spur) := by
  unfold publishSpur
  repeat' first
    | (with_reducible assumption) | (with_reducible apply spurEdge_kept) | (with_reducible apply State_setConv_kept)
    | (with_reducible apply condOn_kept) | (with_reducible apply condOff_kept) | (with_reducible apply kept_ite)

theorem timerEnd_kept {s : State} (k : Nat) (next : Nat) (h : Kept n m q o s) :
    Kept n m q o (timerEnd s k next) := by
  unfold timerEnd
  repeat' first | (with_reducible assumption) | (with_reducible apply State_setConv_kept) | (with_reducible apply reachElapsed_kept)

theorem execRotationStepEnd_kept (k : Nat) (est : SliceEst) {s : State} (h : Kept n m q o s) :
    OutKept n m q o (execRotationStepEnd k est s) := by
  unfold execRotationStepEnd
  repeat' first
    | (with_reducible assumption) | (with_reducible apply outKept_next) | (with_reducible apply publishSpur_kept)
    | (with_reducible apply timerEnd_kept) | (with_reducible apply State_setConv_kept) | (with_reducible apply emergencySwap_kept)
    | (with_reducible apply raise_kept) | (with_reducible apply retireSpare_kept) | (with_reducible apply outKept_ite)
    | (simp only [kept_mk_iff]) | split

theorem toSwap_kept {s : State} (k : Nat) (h : Kept n m q o s) :
    Kept n m q o (toSwap s k) := by
  unfold toSwap
  repeat' first
    | (with_reducible assumption) | (with_reducible apply openVisits_kept) | (with_reducible apply toSymbol_kept)
    | (with_reducible apply reachElapsed_kept) | (with_reducible apply kept_ite) | (simp only [kept_mk_iff]) | split

theorem execSliceSwap_kept (k : Nat) {s : State} (h : Kept n m q o s) :
    OutKept n m q o (execSliceSwap k s) := by
  unfold execSliceSwap
  repeat' first
    | (with_reducible assumption) | (with_reducible apply outKept_next) | (with_reducible apply State_setConv_kept)
    | (with_reducible apply toSwap_kept) | (with_reducible apply outKept_ite) | (with_reducible apply kept_ite)
    | (simp only [kept_mk_iff]) | split

theorem execStuckSliceDetect_kept (k : Nat) (slice : Nat) {s : State} (h : Kept n m q o s) :
    OutKept n m q o (execStuckSliceDetect k slice s) := by
  unfold execStuckSliceDetect
  repeat' first
    | (with_reducible assumption) | (with_reducible apply outKept_next) | (with_reducible apply retireSpare_kept)
    | (with_reducible apply State_setConv_kept) | (with_reducible apply convFails_kept) | (with_reducible apply outKept_ite)

/-! ## CmdDictionary -/

theorem execArpRequest_kept (senderMac : Nat) (senderIp : Nat) (targetIp : Nat) {s : State} (h : Kept n m q o s) :
    OutKept n m q o (execArpRequest senderMac senderIp targetIp s) := by
  unfold execArpRequest
  repeat' first
    | (with_reducible assumption) | (with_reducible apply outKept_next) | (with_reducible apply emit_kept)
    | (with_reducible apply outKept_ite)

theorem execBlockTransferTimeout_kept (t : Transport) (key : Nat) (id : Nat) {s : State} (h : Kept n m q o s) :
    OutKept n m q o (execBlockTransferTimeout t key id s) := by
  unfold execBlockTransferTimeout
  repeat' first
    | (with_reducible assumption) | (with_reducible apply outKept_next) | (with_reducible apply modSession_kept)
    | (with_reducible apply reachElapsed_kept) | split

theorem execCounterFold_kept {s : State} (h : Kept n m q o s) :
    OutKept n m q o (execCounterFold s) := by
  unfold execCounterFold
  repeat' first
    | (with_reducible assumption) | (with_reducible apply outKept_next) | (with_reducible apply foldOne_kept)
    | (with_reducible apply foldPaths_kept) | (with_reducible refine kept_foldl ?_ ?_; intro _ _ _)

theorem execDigest_kept (d : DHdr) (scope : Nat) {s : State} (h : Kept n m q o s) :
    OutKept n m q o (execDigest d scope s) := by
  unfold execDigest
  repeat' first
    | (with_reducible assumption) | (intro _) | (with_reducible apply outKept_next) | (with_reducible apply request_kept)
    | (with_reducible apply opDigest_kept)

theorem execEventCease_kept (src : Nat) (inst : Nat) (aux : Nat) {s : State} (h : Kept n m q o s) :
    OutKept n m q o (execEventCease src inst aux s) := by
  unfold execEventCease
  repeat' first | (with_reducible assumption) | (with_reducible apply outKept_next) | (with_reducible apply condOff_kept)

theorem execEventFiringPresent_kept (src : Nat) {s : State} (h : Kept n m q o s) :
    OutKept n m q o (execEventFiringPresent src s) := by
  unfold execEventFiringPresent
  repeat' first | (with_reducible assumption) | (with_reducible apply outKept_next) | (with_reducible apply presentNext_kept)

theorem execIcmpEchoRequest_kept (srcMac : Nat) (srcIp : Nat) (dstIp : Nat) (ident : Nat) (seq : Nat) (fragment : Bool) (data : List Byte) {s : State} (h : Kept n m q o s) :
    OutKept n m q o (execIcmpEchoRequest srcMac srcIp dstIp ident seq fragment data s) := by
  unfold execIcmpEchoRequest
  repeat' first
    | (with_reducible assumption) | (with_reducible apply outKept_next) | (with_reducible apply draw_kept)
    | (with_reducible apply emit_kept) | (with_reducible apply outKept_ite)

theorem execRead_kept (d : DHdr) (index : Nat) (sub : Nat) {s : State} (h : Kept n m q o s) :
    OutKept n m q o (execRead d index sub s) := by
  unfold execRead
  repeat' first
    | (with_reducible assumption) | (intro _) | (with_reducible apply outKept_next) | (with_reducible apply request_kept)
    | (with_reducible apply opRead_kept)

theorem execReadBlock_kept (d : DHdr) (index : Nat) (sub : Nat) (offset : Nat) (maxLen : Nat) {s : State} (h : Kept n m q o s) :
    OutKept n m q o (execReadBlock d index sub offset maxLen s) := by
  unfold execReadBlock
  repeat' first
    | (with_reducible assumption) | (intro _) | (with_reducible apply outKept_next) | (with_reducible apply request_kept)
    | (with_reducible apply opReadBlock_kept)

theorem execReadFrame_kept {s : State} (h : Kept n m q o s) : OutKept n m q o (execReadFrame s) := by
  have h8 := h.inv.spiOut
  unfold execReadFrame
  split
  next x t ht =>
    rw [ht] at h8
    exact outKept_next (emit_kept _ (diong_kept _ h.inv.spiIn (Nat.le_of_succ_le h8) h))
  · exact outKept_next (emit_kept _ h)

theorem execReplicaRewrite_kept (c : Nat) {s : State} (h : Kept n m q o s) :
    OutKept n m q o (execReplicaRewrite c s) := by
  unfold execReplicaRewrite
  repeat' first
    | (with_reducible assumption) | (with_reducible apply outKept_next) | (with_reducible apply toSlot_kept)
    | (with_reducible apply outKept_ite) | (with_reducible refine kept_parts ?_ rfl rfl rfl rfl) | (simp only [kept_mk_iff])

theorem execRestore_kept (d : DHdr) (mode : Nat) {s : State} (h : Kept n m q o s) :
    OutKept n m q o (execRestore d mode s) := by
  unfold execRestore
  repeat' first
    | (with_reducible assumption) | (intro _) | (with_reducible apply outKept_next) | (with_reducible apply request_kept)
    | (with_reducible apply opRestore_kept)

theorem execRwDigestRecompute_kept {s : State} (h : Kept n m q o s) :
    OutKept n m q o (execRwDigestRecompute s) := by
  unfold execRwDigestRecompute
  repeat' first
    | (with_reducible assumption) | (with_reducible apply outKept_next) | (with_reducible apply recomputeDigests_kept)
    | (with_reducible apply outKept_ite)

theorem execSessionTimeout_kept (t : Transport) (key : Nat) (id : Nat) {s : State} (h : Kept n m q o s) :
    OutKept n m q o (execSessionTimeout t key id s) := by
  unfold execSessionTimeout
  repeat' first
    | (with_reducible assumption) | (with_reducible apply outKept_next) | (with_reducible apply closeSessions_kept)
    | (with_reducible apply reachElapsed_kept) | split

theorem execSpiStatus_kept {s : State} (h : Kept n m q o s) :
    OutKept n m q o (execSpiStatus s) := by
  unfold execSpiStatus
  repeat' first
    | (with_reducible assumption) | (with_reducible apply outKept_next) | (with_reducible apply emit_kept)
    | (with_reducible refine kept_parts ?_ rfl rfl rfl rfl) | (simp only [kept_mk_iff])

theorem execStatisticsCounterClear_kept (role : Role) (index : Nat) (sub : Nat) {s : State} (h : Kept n m q o s) :
    OutKept n m q o (execStatisticsCounterClear role index sub s) := by
  unfold execStatisticsCounterClear
  repeat' first
    | (with_reducible assumption) | (with_reducible apply outKept_next) | (with_reducible apply clearCounter_kept)
    | (with_reducible apply outKept_ite) | split

theorem execStickyFlagClear_kept (d : Nat) (src : Nat) (same : Bool) {s : State} (h : Kept n m q o s) :
    OutKept n m q o (execStickyFlagClear d src same s) := by
  unfold execStickyFlagClear
  repeat' first
    | (with_reducible assumption) | (with_reducible apply outKept_next) | (with_reducible apply presentNext_kept)
    | (with_reducible apply clearSticky_kept) | (with_reducible apply outKept_ite)

theorem execStore_kept (d : DHdr) (selector : Nat) (nvOk : Bool) {s : State} (h : Kept n m q o s) :
    OutKept n m q o (execStore d selector nvOk s) := by
  unfold execStore
  repeat' first
    | (with_reducible assumption) | (intro _) | (with_reducible apply outKept_next) | (with_reducible apply request_kept)
    | (with_reducible apply opStore_kept)

theorem execSubscribe_kept (d : DHdr) (index : Nat) (sub : Nat) (mode : Nat) (period : Nat) {s : State} (h : Kept n m q o s) :
    OutKept n m q o (execSubscribe d index sub mode period s) := by
  unfold execSubscribe
  repeat' first
    | (with_reducible assumption) | (intro _) | (with_reducible apply outKept_next) | (with_reducible apply request_kept)
    | (with_reducible apply opSubscribe_kept)

theorem execSubscriptionNotify_kept (t : Transport) (key : Nat) (id : Nat) (index : Nat) (sub : Nat) {s : State} (h : Kept n m q o s) :
    OutKept n m q o (execSubscriptionNotify t key id index sub s) := by
  unfold execSubscriptionNotify
  repeat' first | (with_reducible assumption) | (with_reducible apply outKept_next) | (with_reducible apply notifyDue_kept)

theorem execWrite_kept (d : DHdr) (index : Nat) (sub : Nat) (type : Nat) (value : List Byte) {s : State} (h : Kept n m q o s) :
    OutKept n m q o (execWrite d index sub type value s) := by
  unfold execWrite
  repeat' first
    | (with_reducible assumption) | (intro _) | (with_reducible apply outKept_next) | (with_reducible apply tokenStart_kept)
    | (with_reducible apply request_kept) | (with_reducible apply opWrite_kept)

theorem execWriteBlock_kept (d : DHdr) (index : Nat) (sub : Nat) (type : Nat) (offset : Nat) (total : Nat) (data : List Byte) {s : State} (h : Kept n m q o s) :
    OutKept n m q o (execWriteBlock d index sub type offset total data s) := by
  unfold execWriteBlock
  repeat' first
    | (with_reducible assumption) | (intro _) | (with_reducible apply outKept_next) | (with_reducible apply tokenStart_kept)
    | (with_reducible apply request_kept) | (with_reducible apply opWriteBlock_kept)

theorem execWriteFrame_kept {s : State} (len : Nat) (frame : List Byte) (h : Kept n m q o s) :
    OutKept n m q o (execWriteFrame len frame s) := by
  unfold execWriteFrame
  split
  next hc =>
    refine outKept_next (diong_kept _ ?_ h.inv.spiOut h)
    simp only [List.length_append, List.length_singleton]
    omega
  · exact outKept_next h

end Sys2Proof.Machine
end

