-- ==== Sys2Proof/Laws/KeptCommandsB.lean ====
section
/-! SUPPORT. What `Kept` passes through: the commands, second part. -/

namespace Sys2Proof.Machine

variable {n m : Nat} {q : List Instr} {o : List OutMsg}

/-! ## CmdDpd -/

theorem execDpdBankWrite_kept (tag : Nat) (addr : Nat) (value : Nat) {s : State} (h : Kept n m q o s) :
    OutKept n m q o (execDpdBankWrite tag addr value s) := by
  unfold execDpdBankWrite
  repeat' first
    | (with_reducible assumption) | (with_reducible apply outKept_next) | (with_reducible apply emit_kept)
    | (with_reducible apply State_setDpd_kept) | (with_reducible apply bankReject_kept) | (with_reducible apply outKept_ite) | split

theorem execDpdDivergenceWindow_kept (p : Nat) (z : List Cplx) (age : Nat) {s : State} (h : Kept n m q o s) :
    OutKept n m q o (execDpdDivergenceWindow p z age s) := by
  unfold execDpdDivergenceWindow
  repeat' first
    | (with_reducible assumption) | (with_reducible apply outKept_next) | (with_reducible apply countWindow_kept)
    | (with_reducible apply outKept_ite)

theorem execDpdFallback_kept (p : Nat) {s : State} (h : Kept n m q o s) :
    OutKept n m q o (execDpdFallback p s) := by
  unfold execDpdFallback
  repeat' first
    | (with_reducible assumption) | (with_reducible apply outKept_next) | (with_reducible apply toSymbol_kept)
    | (with_reducible apply State_setDpd_kept) | (with_reducible apply raise_kept) | (with_reducible apply statPath_kept)
    | (with_reducible apply outKept_ite)

theorem execDpdFallbackCheckEnd_kept (p : Nat) {s : State} (h : Kept n m q o s) :
    OutKept n m q o (execDpdFallbackCheckEnd p s) := by
  unfold execDpdFallbackCheckEnd
  repeat' first
    | (with_reducible assumption) | (with_reducible apply outKept_next) | (with_reducible apply State_setDpd_kept)
    | (with_reducible apply staleAndPending_kept) | (with_reducible apply outKept_ite) | (with_reducible apply kept_ite)

theorem execDpdHoCheckDone_kept (p : Nat) {s : State} (h : Kept n m q o s) :
    OutKept n m q o (execDpdHoCheckDone p s) := by
  unfold execDpdHoCheckDone
  repeat' first
    | (with_reducible assumption) | (with_reducible apply outKept_next) | (with_reducible apply hoCheckDone_kept)
    | (with_reducible apply outKept_ite)

theorem execDpdHoRequest_kept (tag : Nat) (p : Nat) (value : Nat) {s : State} (h : Kept n m q o s) :
    OutKept n m q o (execDpdHoRequest tag p value s) := by
  unfold execDpdHoRequest
  repeat' first
    | (with_reducible assumption) | (with_reducible apply outKept_next) | (with_reducible apply tagged_kept)
    | (with_reducible apply requestHo_kept) | (with_reducible apply outKept_ite) | (with_reducible apply kept_ite)

theorem execDpdIdentity_kept (p : Nat) {s : State} (h : Kept n m q o s) :
    OutKept n m q o (execDpdIdentity p s) := by
  unfold execDpdIdentity
  repeat' first
    | (with_reducible assumption) | (with_reducible apply outKept_next) | (with_reducible apply toSymbol_kept)
    | (with_reducible apply State_setDpd_kept) | (with_reducible apply staleAndPending_kept) | (with_reducible apply raise_kept)
    | (with_reducible apply statPath_kept) | (with_reducible apply outKept_ite)

theorem execDpdJobStart_kept {s : State} (h : Kept n m q o s) :
    OutKept n m q o (execDpdJobStart s) := by
  unfold execDpdJobStart
  repeat' first
    | (with_reducible assumption) | (with_reducible apply outKept_next) | (with_reducible apply setStale_kept)
    | (with_reducible apply endRound_kept) | (with_reducible apply takeAgain_kept) | (with_reducible apply jobRequestCapture_kept)
    | (with_reducible apply dispatchPost_kept) | (with_reducible apply outKept_ite) | (with_reducible apply kept_ite)
    | (with_reducible refine kept_parts ?_ rfl rfl rfl rfl) | (simp only [kept_mk_iff]) | split

theorem execDpdMinRateVisit_kept (p : Nat) {s : State} (h : Kept n m q o s) :
    OutKept n m q o (execDpdMinRateVisit p s) := by
  unfold execDpdMinRateVisit
  repeat' first
    | (with_reducible assumption) | (with_reducible apply outKept_next) | (with_reducible apply toBoundary_kept)
    | (with_reducible apply requestVisit_kept) | (with_reducible apply outKept_ite)

theorem execDpdProbationEnd_kept (p : Nat) {s : State} (h : Kept n m q o s) :
    OutKept n m q o (execDpdProbationEnd p s) := by
  unfold execDpdProbationEnd
  repeat' first
    | (with_reducible assumption) | (with_reducible apply outKept_next) | (with_reducible apply reachCount_kept)
    | (with_reducible apply State_setDpd_kept) | (with_reducible apply setStale_kept) | (with_reducible apply raise_kept)
    | (with_reducible apply outKept_ite) | (with_reducible apply kept_ite) | (simp only [kept_mk_iff]) | split

theorem execDpdRampStep_kept (p : Nat) {s : State} (h : Kept n m q o s) :
    OutKept n m q o (execDpdRampStep p s) := by
  unfold execDpdRampStep
  repeat' first
    | (with_reducible assumption) | (with_reducible apply outKept_next) | (with_reducible apply toBoundary_kept)
    | (with_reducible apply State_setDpd_kept) | (with_reducible apply outKept_ite)

theorem execDpdReq_kept (tag : Nat) (bits : Nat) {s : State} (h : Kept n m q o s) :
    OutKept n m q o (execDpdReq tag bits s) := by
  unfold execDpdReq
  repeat' first
    | (with_reducible assumption) | (with_reducible apply outKept_next) | (with_reducible apply tagged_kept)
    | (with_reducible apply dpdRequests_kept)

theorem execDpdStaleAgeExpiry_kept (p : Nat) {s : State} (h : Kept n m q o s) :
    OutKept n m q o (execDpdStaleAgeExpiry p s) := by
  unfold execDpdStaleAgeExpiry
  repeat' first
    | (with_reducible assumption) | (with_reducible apply outKept_next) | (with_reducible apply reachElapsed_kept)
    | (with_reducible apply setStale_kept) | (with_reducible apply outKept_ite)

theorem execDpdThermalUpdate_kept (p : Nat) (x1 : Unit) (x2 : Unit) {s : State} (h : Kept n m q o s) :
    OutKept n m q o (execDpdThermalUpdate p x1 x2 s) := by
  unfold execDpdThermalUpdate
  repeat' first
    | (with_reducible assumption) | (with_reducible apply outKept_next) | (with_reducible apply toBoundary_kept)
    | (with_reducible apply thermalUpdate_kept) | (with_reducible apply outKept_ite)

/-! ## CmdGe -/

theorem endAtCycles_kept {s : State} (e : Nat) (x2 : Nat) (code : Nat) (h : Kept n m q o s) :
    Kept n m q o (endAtCycles s e x2 code) := by
  unfold endAtCycles
  repeat' first
    | (with_reducible assumption) | (with_reducible apply endJob_kept) | (with_reducible apply State_setEng_kept)
    | (simp only [kept_mk_iff]) | split

theorem execAcca_kept (g : GeC) {s : State} (h : Kept n m q o s) :
    OutKept n m q o (execAcca g s) := by
  unfold execAcca
  repeat' first | (with_reducible assumption) | (with_reducible apply outKept_next) | (with_reducible apply slotOp_kept)

theorem execAdd_kept (g : GeC) {s : State} (h : Kept n m q o s) :
    OutKept n m q o (execAdd g s) := by
  unfold execAdd
  repeat' first | (with_reducible assumption) | (with_reducible apply outKept_next) | (with_reducible apply geBin_kept)

theorem execAddh_kept (g : GeC) {s : State} (h : Kept n m q o s) :
    OutKept n m q o (execAddh g s) := by
  unfold execAddh
  repeat' first | (with_reducible assumption) | (with_reducible apply outKept_next) | (with_reducible apply geBin_kept)

theorem execAddi_kept (g : GeA) {s : State} (h : Kept n m q o s) :
    OutKept n m q o (execAddi g s) := by
  unfold execAddi
  repeat' first | (with_reducible assumption) | (with_reducible apply outKept_next) | (with_reducible apply geAdr_kept)

theorem execAddm_kept (g : GeA) {s : State} (h : Kept n m q o s) :
    OutKept n m q o (execAddm g s) := by
  unfold execAddm
  repeat' first | (with_reducible assumption) | (with_reducible apply outKept_next) | (with_reducible apply geAdr_kept)

theorem execAndOp_kept (g : GeC) {s : State} (h : Kept n m q o s) :
    OutKept n m q o (execAndOp g s) := by
  unfold execAndOp
  repeat' first | (with_reducible assumption) | (with_reducible apply outKept_next) | (with_reducible apply geInt_kept)

theorem execAshr_kept (g : GeC) {s : State} (h : Kept n m q o s) :
    OutKept n m q o (execAshr g s) := by
  unfold execAshr
  repeat' first | (with_reducible assumption) | (with_reducible apply outKept_next) | (with_reducible apply slotOp_kept)

theorem execBexp_kept (g : GeC) {s : State} (h : Kept n m q o s) :
    OutKept n m q o (execBexp g s) := by
  unfold execBexp
  repeat' first | (with_reducible assumption) | (with_reducible apply outKept_next) | (with_reducible apply slotOp_kept)

theorem execBfly_kept (g : GeC) {s : State} (h : Kept n m q o s) :
    OutKept n m q o (execBfly g s) := by
  unfold execBfly
  repeat' first | (with_reducible assumption) | (with_reducible apply outKept_next) | (with_reducible apply slotOp_kept)

theorem execBxadd_kept (g : GeC) {s : State} (h : Kept n m q o s) :
    OutKept n m q o (execBxadd g s) := by
  unfold execBxadd
  repeat' first | (with_reducible assumption) | (with_reducible apply outKept_next) | (with_reducible apply slotOp_kept)

theorem execCall_kept (g : GeK) {s : State} (h : Kept n m q o s) :
    OutKept n m q o (execCall g s) := by
  unfold execCall
  repeat' first | (with_reducible assumption) | (with_reducible apply outKept_next) | (with_reducible apply slotOp_kept)

theorem execCdot_kept (g : GeC) {s : State} (h : Kept n m q o s) :
    OutKept n m q o (execCdot g s) := by
  unfold execCdot
  repeat' first | (with_reducible assumption) | (with_reducible apply outKept_next) | (with_reducible apply slotOp_kept)

theorem execClra_kept (g : GeC) {s : State} (h : Kept n m q o s) :
    OutKept n m q o (execClra g s) := by
  unfold execClra
  repeat' first | (with_reducible assumption) | (with_reducible apply outKept_next) | (with_reducible apply slotOp_kept)

theorem execCmac4_kept (g : GeC) {s : State} (h : Kept n m q o s) :
    OutKept n m q o (execCmac4 g s) := by
  unfold execCmac4
  repeat' first | (with_reducible assumption) | (with_reducible apply outKept_next) | (with_reducible apply slotOp_kept)

theorem execCmacb_kept (g : GeC) {s : State} (h : Kept n m q o s) :
    OutKept n m q o (execCmacb g s) := by
  unfold execCmacb
  repeat' first | (with_reducible assumption) | (with_reducible apply outKept_next) | (with_reducible apply slotOp_kept)

theorem execCmul_kept (g : GeC) {s : State} (h : Kept n m q o s) :
    OutKept n m q o (execCmul g s) := by
  unfold execCmul
  repeat' first | (with_reducible assumption) | (with_reducible apply outKept_next) | (with_reducible apply geBin_kept)

theorem execConj_kept (g : GeC) {s : State} (h : Kept n m q o s) :
    OutKept n m q o (execConj g s) := by
  unfold execConj
  repeat' first | (with_reducible assumption) | (with_reducible apply outKept_next) | (with_reducible apply geBin_kept)

theorem execDi_kept (g : GeK) {s : State} (h : Kept n m q o s) :
    OutKept n m q o (execDi g s) := by
  unfold execDi
  repeat' first | (with_reducible assumption) | (with_reducible apply outKept_next) | (with_reducible apply slotOp_kept)

theorem execDone_kept (g : GeK) {s : State} (h : Kept n m q o s) :
    OutKept n m q o (execDone g s) := by
  unfold execDone
  repeat' first | (with_reducible assumption) | (with_reducible apply outKept_next) | (with_reducible apply slotOp_kept)

theorem execEi_kept (g : GeK) {s : State} (h : Kept n m q o s) :
    OutKept n m q o (execEi g s) := by
  unfold execEi
  repeat' first | (with_reducible assumption) | (with_reducible apply outKept_next) | (with_reducible apply slotOp_kept)

theorem execEngineRollMove_kept (e : Nat) {s : State} (h : Kept n m q o s) :
    OutKept n m q o (execEngineRollMove e s) := by
  unfold execEngineRollMove
  repeat' first
    | (with_reducible assumption) | (with_reducible apply outKept_next) | (with_reducible apply rollMove_kept)
    | (with_reducible apply outKept_ite) | split

theorem execExp_kept (g : GeC) {s : State} (h : Kept n m q o s) :
    OutKept n m q o (execExp g s) := by
  unfold execExp
  repeat' first | (with_reducible assumption) | (with_reducible apply outKept_next) | (with_reducible apply slotOp_kept)

theorem execExpa_kept (g : GeC) {s : State} (h : Kept n m q o s) :
    OutKept n m q o (execExpa g s) := by
  unfold execExpa
  repeat' first | (with_reducible assumption) | (with_reducible apply outKept_next) | (with_reducible apply slotOp_kept)

theorem execExtr_kept (g : GeC) {s : State} (h : Kept n m q o s) :
    OutKept n m q o (execExtr g s) := by
  unfold execExtr
  repeat' first | (with_reducible assumption) | (with_reducible apply outKept_next) | (with_reducible apply slotOp_kept)

theorem execGeCplRead_kept (e : Nat) {s : State} (h : Kept n m q o s) :
    OutKept n m q o (execGeCplRead e s) := by
  unfold execGeCplRead
  repeat' first
    | (with_reducible assumption) | (with_reducible apply outKept_next) | (with_reducible apply emit_kept)
    | (with_reducible apply State_setEng_kept) | (with_reducible apply outKept_ite) | (simp only [kept_mk_iff]) | split

theorem execGeDoorbell_kept (tag : Nat) (e : Nat) (value : Nat) {s : State} (h : Kept n m q o s) :
    OutKept n m q o (execGeDoorbell tag e value s) := by
  unfold execGeDoorbell
  repeat' first
    | (with_reducible assumption) | (with_reducible apply outKept_next) | (with_reducible apply tagged_kept)
    | (with_reducible apply ringDoorbell_kept) | (with_reducible apply outKept_ite) | (with_reducible apply kept_ite)

theorem execGePost_kept (tag : Nat) (e : Nat) (value : Nat) {s : State} (h : Kept n m q o s) :
    OutKept n m q o (execGePost tag e value s) := by
  unfold execGePost
  repeat' first
    | (with_reducible assumption) | (with_reducible apply outKept_next) | (with_reducible apply emit_kept)
    | (with_reducible apply postJob_kept) | (with_reducible apply outKept_ite) | (with_reducible apply kept_ite)

theorem execIadd_kept (g : GeC) {s : State} (h : Kept n m q o s) :
    OutKept n m q o (execIadd g s) := by
  unfold execIadd
  repeat' first | (with_reducible assumption) | (with_reducible apply outKept_next) | (with_reducible apply geInt_kept)

theorem execIcmp_kept (g : GeC) {s : State} (h : Kept n m q o s) :
    OutKept n m q o (execIcmp g s) := by
  unfold execIcmp
  repeat' first | (with_reducible assumption) | (with_reducible apply outKept_next) | (with_reducible apply slotOp_kept)

theorem execInterruptAccept_kept (e : Nat) {s : State} (h : Kept n m q o s) :
    OutKept n m q o (execInterruptAccept e s) := by
  unfold execInterruptAccept
  repeat' first
    | (with_reducible assumption) | (with_reducible apply outKept_next) | (with_reducible apply State_setEng_kept)
    | (with_reducible apply endBundle_kept) | (with_reducible apply takeAgain_kept) | (with_reducible apply endJob_kept)
    | (with_reducible apply outKept_ite) | (with_reducible apply kept_ite) | (simp only [kept_mk_iff]) | split

theorem execIshl_kept (g : GeC) {s : State} (h : Kept n m q o s) :
    OutKept n m q o (execIshl g s) := by
  unfold execIshl
  repeat' first | (with_reducible assumption) | (with_reducible apply outKept_next) | (with_reducible apply geInt_kept)

theorem execIshr_kept (g : GeC) {s : State} (h : Kept n m q o s) :
    OutKept n m q o (execIshr g s) := by
  unfold execIshr
  repeat' first | (with_reducible assumption) | (with_reducible apply outKept_next) | (with_reducible apply geInt_kept)

theorem execIsub_kept (g : GeC) {s : State} (h : Kept n m q o s) :
    OutKept n m q o (execIsub g s) := by
  unfold execIsub
  repeat' first | (with_reducible assumption) | (with_reducible apply outKept_next) | (with_reducible apply geInt_kept)

theorem execJmp_kept (g : GeK) {s : State} (h : Kept n m q o s) :
    OutKept n m q o (execJmp g s) := by
  unfold execJmp
  repeat' first | (with_reducible assumption) | (with_reducible apply outKept_next) | (with_reducible apply geJump_kept)

theorem execJn_kept (g : GeK) {s : State} (h : Kept n m q o s) :
    OutKept n m q o (execJn g s) := by
  unfold execJn
  repeat' first | (with_reducible assumption) | (with_reducible apply outKept_next) | (with_reducible apply geJump_kept)

theorem execJnn_kept (g : GeK) {s : State} (h : Kept n m q o s) :
    OutKept n m q o (execJnn g s) := by
  unfold execJnn
  repeat' first | (with_reducible assumption) | (with_reducible apply outKept_next) | (with_reducible apply geJump_kept)

theorem execJnz_kept (g : GeK) {s : State} (h : Kept n m q o s) :
    OutKept n m q o (execJnz g s) := by
  unfold execJnz
  repeat' first | (with_reducible assumption) | (with_reducible apply outKept_next) | (with_reducible apply geJump_kept)

theorem execJobOverrun_kept (e : Nat) {s : State} (h : Kept n m q o s) :
    OutKept n m q o (execJobOverrun e s) := by
  unfold execJobOverrun
  repeat' first
    | (with_reducible assumption) | (with_reducible apply outKept_next) | (with_reducible apply endAtCycles_kept)
    | (with_reducible apply outKept_ite) | split

theorem execJobStart_kept (e : Nat) {s : State} (h : Kept n m q o s) :
    OutKept n m q o (execJobStart e s) := by
  unfold execJobStart
  repeat' first
    | (with_reducible assumption) | (with_reducible apply outKept_next) | (with_reducible apply startNext_kept)
    | (with_reducible apply outKept_ite)

theorem execJz_kept (g : GeK) {s : State} (h : Kept n m q o s) :
    OutKept n m q o (execJz g s) := by
  unfold execJz
  repeat' first | (with_reducible assumption) | (with_reducible apply outKept_next) | (with_reducible apply geJump_kept)

theorem execLdD_kept (g : GeM) {s : State} (h : Kept n m q o s) :
    OutKept n m q o (execLdD g s) := by
  unfold execLdD
  repeat' first | (with_reducible assumption) | (with_reducible apply outKept_next) | (with_reducible apply geMem_kept)

theorem execLdH_kept (g : GeM) {s : State} (h : Kept n m q o s) :
    OutKept n m q o (execLdH g s) := by
  unfold execLdH
  repeat' first | (with_reducible assumption) | (with_reducible apply outKept_next) | (with_reducible apply geMem_kept)

theorem execLdW_kept (g : GeM) {s : State} (h : Kept n m q o s) :
    OutKept n m q o (execLdW g s) := by
  unfold execLdW
  repeat' first | (with_reducible assumption) | (with_reducible apply outKept_next) | (with_reducible apply geMem_kept)

theorem execLdi_kept (g : GeK) (reg : Nat) {s : State} (h : Kept n m q o s) :
    OutKept n m q o (execLdi g reg s) := by
  unfold execLdi
  repeat' first | (with_reducible assumption) | (with_reducible apply outKept_next) | (with_reducible apply slotOp_kept)

theorem execLoop0_kept (g : GeK) {s : State} (h : Kept n m q o s) :
    OutKept n m q o (execLoop0 g s) := by
  unfold execLoop0
  repeat' first | (with_reducible assumption) | (with_reducible apply outKept_next) | (with_reducible apply geLoop_kept)

theorem execLoop1_kept (g : GeK) {s : State} (h : Kept n m q o s) :
    OutKept n m q o (execLoop1 g s) := by
  unfold execLoop1
  repeat' first | (with_reducible assumption) | (with_reducible apply outKept_next) | (with_reducible apply geLoop_kept)

theorem execLoopr0_kept (g : GeK) {s : State} (h : Kept n m q o s) :
    OutKept n m q o (execLoopr0 g s) := by
  unfold execLoopr0
  repeat' first | (with_reducible assumption) | (with_reducible apply outKept_next) | (with_reducible apply geLoop_kept)

theorem execLoopr1_kept (g : GeK) {s : State} (h : Kept n m q o s) :
    OutKept n m q o (execLoopr1 g s) := by
  unfold execLoopr1
  repeat' first | (with_reducible assumption) | (with_reducible apply outKept_next) | (with_reducible apply geLoop_kept)

theorem execMag2_kept (g : GeC) {s : State} (h : Kept n m q o s) :
    OutKept n m q o (execMag2 g s) := by
  unfold execMag2
  repeat' first | (with_reducible assumption) | (with_reducible apply outKept_next) | (with_reducible apply slotOp_kept)

theorem execMfr_kept (g : GeC) {s : State} (h : Kept n m q o s) :
    OutKept n m q o (execMfr g s) := by
  unfold execMfr
  repeat' first | (with_reducible assumption) | (with_reducible apply outKept_next) | (with_reducible apply slotOp_kept)

theorem execMov_kept (g : GeC) {s : State} (h : Kept n m q o s) :
    OutKept n m q o (execMov g s) := by
  unfold execMov
  repeat' first | (with_reducible assumption) | (with_reducible apply outKept_next) | (with_reducible apply geBin_kept)

theorem execMova_kept (g : GeC) {s : State} (h : Kept n m q o s) :
    OutKept n m q o (execMova g s) := by
  unfold execMova
  repeat' first | (with_reducible assumption) | (with_reducible apply outKept_next) | (with_reducible apply slotOp_kept)

theorem execMovb_kept (g : GeA) {s : State} (h : Kept n m q o s) :
    OutKept n m q o (execMovb g s) := by
  unfold execMovb
  repeat' first | (with_reducible assumption) | (with_reducible apply outKept_next) | (with_reducible apply geAdr_kept)

theorem execMovl_kept (g : GeA) {s : State} (h : Kept n m q o s) :
    OutKept n m q o (execMovl g s) := by
  unfold execMovl
  repeat' first | (with_reducible assumption) | (with_reducible apply outKept_next) | (with_reducible apply geAdr_kept)

theorem execMovm_kept (g : GeA) {s : State} (h : Kept n m q o s) :
    OutKept n m q o (execMovm g s) := by
  unfold execMovm
  repeat' first | (with_reducible assumption) | (with_reducible apply outKept_next) | (with_reducible apply geAdr_kept)

theorem execMovp_kept (g : GeA) {s : State} (h : Kept n m q o s) :
    OutKept n m q o (execMovp g s) := by
  unfold execMovp
  repeat' first | (with_reducible assumption) | (with_reducible apply outKept_next) | (with_reducible apply geAdr_kept)

theorem execMtr_kept (g : GeC) {s : State} (h : Kept n m q o s) :
    OutKept n m q o (execMtr g s) := by
  unfold execMtr
  repeat' first | (with_reducible assumption) | (with_reducible apply outKept_next) | (with_reducible apply slotOp_kept)

theorem execNeg_kept (g : GeC) {s : State} (h : Kept n m q o s) :
    OutKept n m q o (execNeg g s) := by
  unfold execNeg
  repeat' first | (with_reducible assumption) | (with_reducible apply outKept_next) | (with_reducible apply geBin_kept)

theorem execNop_kept (g : GeC) {s : State} (h : Kept n m q o s) :
    OutKept n m q o (execNop g s) := by
  unfold execNop
  repeat' first | (with_reducible assumption) | (with_reducible apply outKept_next) | (with_reducible apply slotOp_kept)

theorem execNopc_kept (g : GeK) {s : State} (h : Kept n m q o s) :
    OutKept n m q o (execNopc g s) := by
  unfold execNopc
  repeat' first | (with_reducible assumption) | (with_reducible apply outKept_next) | (with_reducible apply geJump_kept)

theorem execNorm_kept (g : GeC) {s : State} (h : Kept n m q o s) :
    OutKept n m q o (execNorm g s) := by
  unfold execNorm
  repeat' first | (with_reducible assumption) | (with_reducible apply outKept_next) | (with_reducible apply slotOp_kept)

theorem execOrOp_kept (g : GeC) {s : State} (h : Kept n m q o s) :
    OutKept n m q o (execOrOp g s) := by
  unfold execOrOp
  repeat' first | (with_reducible assumption) | (with_reducible apply outKept_next) | (with_reducible apply geInt_kept)

theorem execPreemptLate_kept (e : Nat) {s : State} (h : Kept n m q o s) :
    OutKept n m q o (execPreemptLate e s) := by
  unfold execPreemptLate
  repeat' first
    | (with_reducible assumption) | (with_reducible apply outKept_next) | (with_reducible apply endAtCycles_kept)
    | (with_reducible apply outKept_ite) | split

theorem execReleaseEntryFire_kept (e : Nat) (r : Nat) {s : State} (h : Kept n m q o s) :
    OutKept n m q o (execReleaseEntryFire e r s) := by
  unfold execReleaseEntryFire
  repeat' first
    | (with_reducible assumption) | (with_reducible apply outKept_next) | (with_reducible apply toBoundary_kept)
    | (with_reducible apply draw_kept) | (with_reducible apply State_setEng_kept) | (with_reducible apply preemptIf_kept)
    | (with_reducible apply outKept_ite) | (with_reducible apply kept_ite) | (simp only [kept_mk_iff]) | split

theorem execRet_kept (g : GeK) {s : State} (h : Kept n m q o s) :
    OutKept n m q o (execRet g s) := by
  unfold execRet
  repeat' first | (with_reducible assumption) | (with_reducible apply outKept_next) | (with_reducible apply slotOp_kept)

theorem execReti_kept (g : GeK) {s : State} (h : Kept n m q o s) :
    OutKept n m q o (execReti g s) := by
  unfold execReti
  repeat' first | (with_reducible assumption) | (with_reducible apply outKept_next) | (with_reducible apply slotOp_kept)

theorem execSat_kept (g : GeC) {s : State} (h : Kept n m q o s) :
    OutKept n m q o (execSat g s) := by
  unfold execSat
  repeat' first | (with_reducible assumption) | (with_reducible apply outKept_next) | (with_reducible apply slotOp_kept)

theorem execSetbs_kept (g : GeC) {s : State} (h : Kept n m q o s) :
    OutKept n m q o (execSetbs g s) := by
  unfold execSetbs
  repeat' first | (with_reducible assumption) | (with_reducible apply outKept_next) | (with_reducible apply slotOp_kept)

theorem execSetm_kept (g : GeA) {s : State} (h : Kept n m q o s) :
    OutKept n m q o (execSetm g s) := by
  unfold execSetm
  repeat' first | (with_reducible assumption) | (with_reducible apply outKept_next) | (with_reducible apply geAdr_kept)

theorem execShl_kept (g : GeC) {s : State} (h : Kept n m q o s) :
    OutKept n m q o (execShl g s) := by
  unfold execShl
  repeat' first | (with_reducible assumption) | (with_reducible apply outKept_next) | (with_reducible apply geBin_kept)

theorem execShr_kept (g : GeC) {s : State} (h : Kept n m q o s) :
    OutKept n m q o (execShr g s) := by
  unfold execShr
  repeat' first | (with_reducible assumption) | (with_reducible apply outKept_next) | (with_reducible apply geBin_kept)

theorem execStD_kept (g : GeM) {s : State} (h : Kept n m q o s) :
    OutKept n m q o (execStD g s) := by
  unfold execStD
  repeat' first | (with_reducible assumption) | (with_reducible apply outKept_next) | (with_reducible apply geMem_kept)

theorem execStW_kept (g : GeM) {s : State} (h : Kept n m q o s) :
    OutKept n m q o (execStW g s) := by
  unfold execStW
  repeat' first | (with_reducible assumption) | (with_reducible apply outKept_next) | (with_reducible apply geMem_kept)

theorem execSub_kept (g : GeC) {s : State} (h : Kept n m q o s) :
    OutKept n m q o (execSub g s) := by
  unfold execSub
  repeat' first | (with_reducible assumption) | (with_reducible apply outKept_next) | (with_reducible apply geBin_kept)

theorem execSubh_kept (g : GeC) {s : State} (h : Kept n m q o s) :
    OutKept n m q o (execSubh g s) := by
  unfold execSubh
  repeat' first | (with_reducible assumption) | (with_reducible apply outKept_next) | (with_reducible apply geBin_kept)

theorem execSwap_kept (g : GeC) {s : State} (h : Kept n m q o s) :
    OutKept n m q o (execSwap g s) := by
  unfold execSwap
  repeat' first | (with_reducible assumption) | (with_reducible apply outKept_next) | (with_reducible apply geBin_kept)

theorem execTransferComplete_finish_kept {s : State} (e : Nat) (st : Nat) (d : GeXfer) (h : Kept n m q o s) :
    Kept n m q o (execTransferComplete.finish s e st d) := by
  unfold execTransferComplete.finish
  repeat' first
    | (with_reducible assumption) | (with_reducible apply endJob_kept) | (with_reducible apply State_setEng_kept)
    | (with_reducible apply kept_ite)

theorem execTransferComplete_kept (e : Nat) (x1 : Nat) {s : State} (h : Kept n m q o s) :
    OutKept n m q o (execTransferComplete e x1 s) := by
  unfold execTransferComplete
  repeat' first
    | (with_reducible assumption) | (with_reducible apply outKept_next) | (with_reducible apply State_setEng_kept)
    | (with_reducible apply fabWrite_kept) | (with_reducible apply execTransferComplete_finish_kept) | (with_reducible apply fabRead_kept)
    | (with_reducible apply outKept_ite) | (with_reducible apply kept_ite) | (simp only [kept_mk_iff]) | split

theorem execXfer_kept (g : GeK) {s : State} (h : Kept n m q o s) :
    OutKept n m q o (execXfer g s) := by
  unfold execXfer
  repeat' first
    | (with_reducible assumption) | (with_reducible apply outKept_next) | (with_reducible apply stallBundle_kept)
    | (with_reducible apply slotOp_kept) | (with_reducible apply outKept_ite)

theorem execXorOp_kept (g : GeC) {s : State} (h : Kept n m q o s) :
    OutKept n m q o (execXorOp g s) := by
  unfold execXorOp
  repeat' first | (with_reducible assumption) | (with_reducible apply outKept_next) | (with_reducible apply geInt_kept)

theorem execXwait_kept (g : GeK) {s : State} (h : Kept n m q o s) :
    OutKept n m q o (execXwait g s) := by
  unfold execXwait
  repeat' first
    | (with_reducible assumption) | (with_reducible apply outKept_next) | (with_reducible apply stallBundle_kept)
    | (with_reducible apply slotOp_kept) | (with_reducible apply outKept_ite)

theorem execYield_kept (g : GeK) {s : State} (h : Kept n m q o s) :
    OutKept n m q o (execYield g s) := by
  unfold execYield
  repeat' first | (with_reducible assumption) | (with_reducible apply outKept_next) | (with_reducible apply slotOp_kept)

/-! ## CmdHk -/

theorem execAmplifierFault_kept (a : Nat) (cause : Nat) {s : State} (h : Kept n m q o s) :
    OutKept n m q o (execAmplifierFault a cause s) := by
  unfold execAmplifierFault
  repeat' first
    | (with_reducible assumption) | (with_reducible apply outKept_next) | (with_reducible apply ampFault_kept)
    | (with_reducible apply outKept_ite)

theorem hkWrite_kept {s : State} (tag : Nat) (id : RegId) (ix : List Nat) (v : Nat) (h : Kept n m q o s) :
    Kept n m q o (hkWrite s tag id ix v) := by
  unfold hkWrite
  repeat' first
    | (with_reducible assumption) | (with_reducible apply emit_kept) | (with_reducible apply regWrite_kept)
    | (with_reducible apply kept_ite)

theorem execBdacCodeWrite_kept (tag : Nat) (c : Nat) (value : Nat) {s : State} (h : Kept n m q o s) :
    OutKept n m q o (execBdacCodeWrite tag c value s) := by
  unfold execBdacCodeWrite
  repeat' first
    | (with_reducible assumption) | (with_reducible apply outKept_next) | (with_reducible apply hkWrite_kept)
    | (with_reducible apply outKept_ite)

theorem execBdacOutputStep_kept (c : Nat) {s : State} (h : Kept n m q o s) :
    OutKept n m q o (execBdacOutputStep c s) := by
  unfold execBdacOutputStep
  repeat' first
    | (with_reducible assumption) | (with_reducible apply outKept_next) | (with_reducible apply outputStep_kept)
    | (with_reducible apply outKept_ite)

theorem execBdacShort_kept (c : Nat) (on : Bool) {s : State} (h : Kept n m q o s) :
    OutKept n m q o (execBdacShort c on s) := by
  unfold execBdacShort
  repeat' first
    | (with_reducible assumption) | (with_reducible apply outKept_next) | (with_reducible apply State_setBias_kept)
    | (with_reducible apply raise_kept) | (with_reducible apply setFlag_kept) | (with_reducible apply outKept_ite)
    | (with_reducible apply kept_ite)

theorem execBdacShortTimeout_kept (c : Nat) {s : State} (h : Kept n m q o s) :
    OutKept n m q o (execBdacShortTimeout c s) := by
  unfold execBdacShortTimeout
  repeat' first
    | (with_reducible assumption) | (with_reducible apply outKept_next) | (with_reducible apply ampFault_kept)
    | (with_reducible apply reachElapsed_kept) | (with_reducible apply outKept_ite)

theorem execBdacStrobe_kept (x0 : Nat) {s : State} (h : Kept n m q o s) :
    OutKept n m q o (execBdacStrobe x0 s) := by
  unfold execBdacStrobe
  repeat' first
    | (with_reducible assumption) | (intro _) | (with_reducible apply outKept_next) | (with_reducible apply fireEvent_kept)
    | (with_reducible apply strobeGroup_kept)

theorem execBdacStrobeWrite_kept (tag : Nat) (value : Nat) {s : State} (h : Kept n m q o s) :
    OutKept n m q o (execBdacStrobeWrite tag value s) := by
  unfold execBdacStrobeWrite
  repeat' first | (with_reducible assumption) | (with_reducible apply outKept_next) | (with_reducible apply hkWrite_kept)

theorem execBdacSuppliesGood_kept {s : State} (h : Kept n m q o s) :
    OutKept n m q o (execBdacSuppliesGood s) := by
  unfold execBdacSuppliesGood
  repeat' first
    | (with_reducible assumption) | (with_reducible apply outKept_next) | (with_reducible apply wf_kept)
    | (with_reducible apply drainRise_kept) | (with_reducible apply safeCode_kept) | (with_reducible apply outKept_ite)
    | (with_reducible apply kept_ite) | (with_reducible refine kept_foldl ?_ ?_; intro _ _ _)

theorem execBdacSupplyLow_kept (which : Nat) {s : State} (h : Kept n m q o s) :
    OutKept n m q o (execBdacSupplyLow which s) := by
  unfold execBdacSupplyLow
  repeat' first
    | (with_reducible assumption) | (with_reducible apply outKept_next) | (with_reducible apply supplyLow_kept)
    | (with_reducible apply outKept_ite)

theorem execDrainFaultClear_kept (tag : Nat) (value : Nat) {s : State} (h : Kept n m q o s) :
    OutKept n m q o (execDrainFaultClear tag value s) := by
  unfold execDrainFaultClear
  repeat' first | (with_reducible assumption) | (with_reducible apply outKept_next) | (with_reducible apply hkWrite_kept)

theorem execDrainReadbackMismatch_kept (a : Nat) {s : State} (h : Kept n m q o s) :
    OutKept n m q o (execDrainReadbackMismatch a s) := by
  unfold execDrainReadbackMismatch
  repeat' first
    | (with_reducible assumption) | (with_reducible apply outKept_next) | (with_reducible apply ampFault_kept)
    | (with_reducible apply outKept_ite)

theorem execDrainRequest_kept (tag : Nat) (value : Nat) {s : State} (h : Kept n m q o s) :
    OutKept n m q o (execDrainRequest tag value s) := by
  unfold execDrainRequest
  repeat' first | (with_reducible assumption) | (with_reducible apply outKept_next) | (with_reducible apply hkWrite_kept)

theorem execFanWatchdogExpiry_kept (x0 : Nat) {s : State} (h : Kept n m q o s) :
    OutKept n m q o (execFanWatchdogExpiry x0 s) := by
  unfold execFanWatchdogExpiry
  repeat' first
    | (with_reducible assumption) | (with_reducible apply outKept_next) | (with_reducible apply fanWatchdog_kept)
    | (with_reducible apply reachElapsed_kept) | (with_reducible apply outKept_ite)

theorem execFaultSafeCode_kept (a : Nat) {s : State} (h : Kept n m q o s) :
    OutKept n m q o (execFaultSafeCode a s) := by
  unfold execFaultSafeCode
  repeat' first
    | (with_reducible assumption) | (with_reducible apply outKept_next) | (with_reducible apply reachElapsed_kept)
    | (with_reducible apply safeCode_kept) | (with_reducible apply outKept_ite) | (with_reducible refine kept_foldl ?_ ?_; intro _ _ _)
    | (with_reducible refine kept_parts ?_ rfl rfl rfl rfl) | (simp only [kept_mk_iff])

theorem settleServed_kept {s : State} (h : Kept n m q o s) :
    Kept n m q o (settleServed s) := by
  unfold settleServed
  repeat' first | (with_reducible assumption) | (with_reducible apply settleRing_kept) | split

theorem roundPaths_kept {s : State} (h : Kept n m q o s) :
    Kept n m q o (roundPaths s) := by
  unfold roundPaths
  repeat' first | (with_reducible assumption) | (with_reducible refine kept_parts ?_ rfl rfl rfl rfl) | (simp only [kept_mk_iff])

theorem roundShutdown_kept {s : State} (h : Kept n m q o s) :
    Kept n m q o (roundShutdown s) := by
  unfold roundShutdown
  repeat' first
    | (with_reducible assumption) | (with_reducible apply thermalShutdown_kept) | (with_reducible apply shutdownEnds_kept)
    | (with_reducible apply kept_ite) | (with_reducible refine kept_parts ?_ rfl rfl rfl rfl) | (simp only [kept_mk_iff])

theorem roundSensors_kept {s : State} (readings : List Int) (stopped : List Nat) (h : Kept n m q o s) :
    Kept n m q o (roundSensors s readings stopped) := by
  unfold roundSensors
  repeat' first
    | (with_reducible assumption) | (with_reducible apply senseOne_kept) | (with_reducible apply throttle_kept)
    | (with_reducible apply wf_kept) | (with_reducible refine kept_foldl ?_ ?_; intro _ _ _)

theorem roundMonitor_kept {s : State} (x1 : Nat) (h : Kept n m q o s) :
    Kept n m q o (roundMonitor s x1) := by
  unfold roundMonitor
  repeat' first
    | (with_reducible assumption) | (with_reducible apply monTrigger_kept) | (with_reducible apply State_setMon_kept)
    | (with_reducible apply kept_ite) | (simp only [kept_mk_iff]) | split

theorem roundReplicas_kept {s : State} (bad : List Nat) (h : Kept n m q o s) :
    Kept n m q o (roundReplicas s bad) := by
  unfold roundReplicas
  repeat' first
    | (with_reducible assumption) | (with_reducible apply draw_kept) | (with_reducible apply raise_kept)
    | (with_reducible apply stat_kept) | (with_reducible apply kept_ite) | (with_reducible refine kept_foldl ?_ ?_; intro _ _ _)
    | (with_reducible refine kept_parts ?_ rfl rfl rfl rfl) | (simp only [kept_mk_iff])

theorem execHousekeepingRound_kept (readings : List Int) (stopped : List Nat) (shared : Option (Int × Int)) (vddCore : Nat) (replicas : List Nat) {s : State} (h : Kept n m q o s) :
    OutKept n m q o (execHousekeepingRound readings stopped shared vddCore replicas s) := by
  unfold execHousekeepingRound
  repeat' first
    | (with_reducible assumption) | (with_reducible apply outKept_next) | (with_reducible apply reachElapsed_kept)
    | (with_reducible apply settleServed_kept) | (with_reducible apply roundPaths_kept) | (with_reducible apply roundShutdown_kept)
    | (with_reducible apply roundSensors_kept) | (with_reducible apply coreVoltage_kept) | (with_reducible apply ampRound_kept)
    | (with_reducible apply fanStall_kept) | (with_reducible apply fanWatchdog_kept) | (with_reducible apply fanUpdate_kept)
    | (with_reducible apply roundMonitor_kept) | (with_reducible apply sharedResults_kept) | (with_reducible apply roundReplicas_kept)
    | (with_reducible apply outKept_ite) | (with_reducible apply kept_ite) | (with_reducible refine kept_foldl ?_ ?_; intro _ _ _)
    | (with_reducible refine kept_parts ?_ rfl rfl rfl rfl) | (simp only [kept_mk_iff]) | split

theorem execLdacEdge_kept {s : State} (h : Kept n m q o s) :
    OutKept n m q o (execLdacEdge s) := by
  unfold execLdacEdge
  repeat' first
    | (with_reducible assumption) | (with_reducible apply outKept_next) | (with_reducible apply draw_kept)
    | (with_reducible apply passTicks_kept) | (with_reducible apply strobeMask_kept) | (with_reducible apply outKept_ite)

theorem execMonDataRead_kept (x0 : Nat) {s : State} (h : Kept n m q o s) :
    OutKept n m q o (execMonDataRead x0 s) := by
  unfold execMonDataRead
  repeat' first
    | (with_reducible assumption) | (with_reducible apply outKept_next) | (with_reducible apply emit_kept)
    | (with_reducible apply regRead_kept) | (with_reducible apply outKept_ite)

theorem execMonEntryResult_kept (x0 : Nat) (result : Int) (meanAbs : Nat) {s : State} (h : Kept n m q o s) :
    OutKept n m q o (execMonEntryResult x0 result meanAbs s) := by
  unfold execMonEntryResult
  repeat' first
    | (with_reducible assumption) | (with_reducible apply outKept_next) | (with_reducible apply monResult_kept)
    | (with_reducible apply outKept_ite)

theorem execMonTrigger_kept (tag : Nat) (x1 : Nat) {s : State} (h : Kept n m q o s) :
    OutKept n m q o (execMonTrigger tag x1 s) := by
  unfold execMonTrigger
  repeat' first
    | (with_reducible assumption) | (with_reducible apply outKept_next) | (with_reducible apply hkWrite_kept)
    | (with_reducible apply outKept_ite)

theorem execTachEdge_kept (x0 : Nat) {s : State} (h : Kept n m q o s) :
    OutKept n m q o (execTachEdge x0 s) := by
  unfold execTachEdge
  repeat' first
    | (with_reducible assumption) | (with_reducible apply outKept_next) | (with_reducible apply State_setFan_kept)
    | (with_reducible apply wf_kept) | (with_reducible apply draw_kept) | (with_reducible apply outKept_ite)

theorem execThermalCarrierDrop_kept {s : State} (h : Kept n m q o s) :
    OutKept n m q o (execThermalCarrierDrop s) := by
  unfold execThermalCarrierDrop
  repeat' first
    | (with_reducible assumption) | (with_reducible apply outKept_next) | (with_reducible apply reachElapsed_kept)
    | (with_reducible apply toFrame_kept) | (with_reducible apply removalDone_kept) | (with_reducible apply disableCarrier_kept)
    | (with_reducible apply raise_kept) | (with_reducible apply outKept_ite) | (with_reducible apply kept_ite)
    | (with_reducible refine kept_parts ?_ rfl rfl rfl rfl) | (simp only [kept_mk_iff]) | split

theorem execThmFanStall_kept (x0 : Nat) {s : State} (h : Kept n m q o s) :
    OutKept n m q o (execThmFanStall x0 s) := by
  unfold execThmFanStall
  repeat' first
    | (with_reducible assumption) | (with_reducible apply outKept_next) | (with_reducible apply fanStall_kept)
    | (with_reducible apply reachElapsed_kept) | (with_reducible apply outKept_ite)

theorem execVtargetUpdate_kept (mv : Nat) {s : State} (h : Kept n m q o s) :
    OutKept n m q o (execVtargetUpdate mv s) := by
  unfold execVtargetUpdate
  repeat' first
    | (with_reducible assumption) | (with_reducible apply outKept_next) | (with_reducible apply reachElapsed_kept)
    | (with_reducible apply wf_kept) | (with_reducible apply outKept_ite) | (with_reducible apply kept_ite)
    | (with_reducible refine kept_parts ?_ rfl rfl rfl rfl) | (simp only [kept_mk_iff])

/-! ## CmdLink -/

theorem execCaptureStream_kept (b : Nat) {s : State} (h : Kept n m q o s) :
    OutKept n m q o (execCaptureStream b s) := by
  unfold execCaptureStream
  repeat' first
    | (with_reducible assumption) | (with_reducible apply outKept_next) | (with_reducible apply reachElapsed_kept)
    | (with_reducible apply fabRead_kept) | (with_reducible apply sendMessage_kept) | (with_reducible apply State_setBuf_kept)
    | (with_reducible apply releaseBuffer_kept) | (with_reducible apply outKept_ite)
    | (with_reducible refine kept_foldl ?_ ?_; intro _ _ _) | (with_reducible refine kept_parts ?_ rfl rfl rfl rfl)
    | (simp only [kept_mk_iff])

theorem onFrame_kept {s : State} (f : LnkFrame) (ty : Nat) (policed : Bool) {act : State → State}
    (ha : ∀ t, Kept n m q o t → Kept n m q o (act t)) (h : Kept n m q o s) :
    Kept n m q o (onFrame s f ty policed act) := by
  unfold onFrame
  repeat' first
    | (with_reducible assumption) | (with_reducible apply admitFrame_kept) | (with_reducible apply ha)
    | (with_reducible refine kept_eq_snd (by assumption) ?_) | split

theorem execDelayRequest_kept (f : LnkFrame) {s : State} (h : Kept n m q o s) :
    OutKept n m q o (execDelayRequest f s) := by
  unfold execDelayRequest
  repeat' first
    | (with_reducible assumption) | (intro _) | (with_reducible apply outKept_next) | (with_reducible apply onFrame_kept)
    | (with_reducible apply sendMessage_kept) | (with_reducible apply kept_ite)

theorem execDlWindowClose_kept (cc : Nat) {s : State} (h : Kept n m q o s) :
    OutKept n m q o (execDlWindowClose cc s) := by
  unfold execDlWindowClose
  repeat' first
    | (with_reducible assumption) | (with_reducible apply outKept_next) | (with_reducible apply toBoundary_kept)
    | (with_reducible apply windowClose_kept) | (with_reducible apply outKept_ite) | (with_reducible apply kept_ite)
    | (simp only [kept_mk_iff]) | split

theorem execEsmcReceive_kept (ql : Nat) {s : State} (h : Kept n m q o s) :
    OutKept n m q o (execEsmcReceive ql s) := by
  unfold execEsmcReceive
  repeat' first
    | (with_reducible assumption) | (with_reducible apply outKept_next) | (with_reducible apply synceAgain_kept)
    | (with_reducible apply raise_kept) | (with_reducible apply wf_kept) | (with_reducible apply outKept_ite)
    | (with_reducible apply kept_ite) | (with_reducible refine kept_parts ?_ rfl rfl rfl rfl) | (simp only [kept_mk_iff])

theorem execEsmcSend_kept (x0 : Nat) {s : State} (h : Kept n m q o s) :
    OutKept n m q o (execEsmcSend x0 s) := by
  unfold execEsmcSend
  repeat' first
    | (with_reducible assumption) | (with_reducible apply outKept_next) | (with_reducible apply reachElapsed_kept)
    | (with_reducible apply emit_kept) | (with_reducible apply State_setPort_kept) | (with_reducible apply outKept_ite)
    | (with_reducible apply kept_ite)

theorem execEventIndicationSend_kept (x0 : Nat) {s : State} (h : Kept n m q o s) :
    OutKept n m q o (execEventIndicationSend x0 s) := by
  unfold execEventIndicationSend
  repeat' first
    | (with_reducible assumption) | (with_reducible apply outKept_next) | (with_reducible apply sendEvent_kept)
    | (with_reducible apply State_setPort_kept) | (with_reducible apply outKept_ite) | (simp only [kept_mk_iff]) | split

theorem execFollowUp_kept (f : LnkFrame) {s : State} (h : Kept n m q o s) :
    OutKept n m q o (execFollowUp f s) := by
  unfold execFollowUp
  repeat' first
    | (with_reducible assumption) | (intro _) | (with_reducible apply outKept_next) | (with_reducible apply onFrame_kept)
    | (with_reducible apply State_setPort_kept) | (with_reducible apply sendMessage_kept) | (simp only [kept_mk_iff]) | split

theorem execGenericDataMessage_kept (f : LnkFrame) {s : State} (h : Kept n m q o s) :
    OutKept n m q o (execGenericDataMessage f s) := by
  unfold execGenericDataMessage
  repeat' first
    | (with_reducible assumption) | (intro _) | (with_reducible apply outKept_next) | (with_reducible apply onFrame_kept)
    | (with_reducible apply weightBlock_kept) | (with_reducible apply dropMsg_kept) | (with_reducible apply kept_ite)

theorem execIndicationAck_kept (f : LnkFrame) {s : State} (h : Kept n m q o s) :
    OutKept n m q o (execIndicationAck f s) := by
  unfold execIndicationAck
  repeat' first
    | (with_reducible assumption) | (intro _) | (with_reducible apply outKept_next) | (with_reducible apply onFrame_kept)
    | (with_reducible apply State_setPort_kept) | (with_reducible apply kept_ite)

theorem execIndicationResend_kept (x0 : Nat) (id : Nat) {s : State} (h : Kept n m q o s) :
    OutKept n m q o (execIndicationResend x0 id s) := by
  unfold execIndicationResend
  repeat' first
    | (with_reducible assumption) | (with_reducible apply outKept_next) | (with_reducible apply reachElapsed_kept)
    | (with_reducible apply sendMessage_kept) | (with_reducible apply State_setPort_kept) | (with_reducible apply raise_kept)
    | (with_reducible apply outKept_ite) | (simp only [kept_mk_iff]) | split

theorem execIqDataMessage_kept (f : LnkFrame) {s : State} (h : Kept n m q o s) :
    OutKept n m q o (execIqDataMessage f s) := by
  unfold execIqDataMessage
  repeat' first
    | (with_reducible assumption) | (intro _) | (with_reducible apply outKept_next) | (with_reducible apply onFrame_kept)
    | (with_reducible apply iqSection_kept)

theorem execLaneReturnToSpare_kept (role : Role) (lane : Nat) {s : State} (h : Kept n m q o s) :
    OutKept n m q o (execLaneReturnToSpare role lane s) := by
  unfold execLaneReturnToSpare
  repeat' first
    | (with_reducible assumption) | (with_reducible apply outKept_next) | (with_reducible apply setLaneState_kept)
    | (with_reducible apply outKept_ite) | (with_reducible refine kept_parts ?_ rfl rfl rfl rfl) | (simp only [kept_mk_iff])

theorem execLinkLaneFailure_kept (lane : Nat) {s : State} (h : Kept n m q o s) :
    OutKept n m q o (execLinkLaneFailure lane s) := by
  unfold execLinkLaneFailure
  repeat' first
    | (with_reducible assumption) | (with_reducible apply outKept_next) | (with_reducible apply laneFails_kept)
    | (with_reducible apply outKept_ite)

theorem execLinkLaneRxMove_kept (x0 : Nat) {s : State} (h : Kept n m q o s) :
    OutKept n m q o (execLinkLaneRxMove x0 s) := by
  unfold execLinkLaneRxMove
  repeat' first
    | (with_reducible assumption) | (with_reducible apply outKept_next) | (with_reducible refine kept_parts ?_ rfl rfl rfl rfl)
    | (simp only [kept_mk_iff])

theorem execLinkLaneTxMove_kept (x0 : Nat) {s : State} (h : Kept n m q o s) :
    OutKept n m q o (execLinkLaneTxMove x0 s) := by
  unfold execLinkLaneTxMove
  repeat' first
    | (with_reducible assumption) | (with_reducible apply outKept_next) | (with_reducible refine kept_parts ?_ rfl rfl rfl rfl)
    | (simp only [kept_mk_iff])

theorem execLinkRealignTimeout_kept (x0 : Nat) {s : State} (h : Kept n m q o s) :
    OutKept n m q o (execLinkRealignTimeout x0 s) := by
  unfold execLinkRealignTimeout
  repeat' first
    | (with_reducible assumption) | (with_reducible apply outKept_next) | (with_reducible apply reachElapsed_kept)
    | (with_reducible apply portLost_kept) | (with_reducible apply lastSpare_kept) | (with_reducible apply laneMoved_kept)
    | (simp only [kept_mk_iff]) | split

theorem execLnkLaneSpared_kept (x0 : Nat) (lost : Nat) {s : State} (h : Kept n m q o s) :
    OutKept n m q o (execLnkLaneSpared x0 lost s) := by
  unfold execLnkLaneSpared
  repeat' first
    | (with_reducible assumption) | (with_reducible apply outKept_next) | (with_reducible apply wbit_kept)
    | (with_reducible apply laneMoved_kept) | (with_reducible apply stat_kept) | (with_reducible apply lastSpare_kept)
    | (with_reducible apply raise_kept) | (with_reducible apply kept_ite) | (simp only [kept_mk_iff]) | split

theorem execLnkPpsInLoss_kept {s : State} (h : Kept n m q o s) :
    OutKept n m q o (execLnkPpsInLoss s) := by
  unfold execLnkPpsInLoss
  repeat' first
    | (with_reducible assumption) | (with_reducible apply outKept_next) | (with_reducible apply reachElapsed_kept)
    | (with_reducible apply raise_kept) | (with_reducible apply holdover_kept) | (with_reducible apply outKept_ite)
    | (with_reducible apply kept_ite) | (with_reducible refine kept_parts ?_ rfl rfl rfl rfl) | (simp only [kept_mk_iff])

theorem execPortStateChange_kept (x0 : Nat) (aligned : Bool) (saValid : Bool) {s : State} (h : Kept n m q o s) :
    OutKept n m q o (execPortStateChange x0 aligned saValid s) := by
  unfold execPortStateChange
  repeat' first
    | (with_reducible assumption) | (with_reducible apply outKept_next) | (with_reducible apply portState_kept)
    | (with_reducible apply outKept_ite)

theorem execPpsInEdge_kept (tick : Nat) {s : State} (h : Kept n m q o s) :
    OutKept n m q o (execPpsInEdge tick s) := by
  unfold execPpsInEdge
  repeat' first
    | (with_reducible assumption) | (with_reducible apply outKept_next) | (with_reducible apply reachCount_kept)
    | (with_reducible apply wbit_kept) | (with_reducible apply timeCorrection_kept) | (with_reducible apply State_setObj_kept)
    | (with_reducible apply outKept_ite) | (with_reducible refine kept_parts ?_ rfl rfl rfl rfl) | (simp only [kept_mk_iff]) | split

theorem execPpsOutEdge_kept {s : State} (h : Kept n m q o s) :
    OutKept n m q o (execPpsOutEdge s) := by
  unfold execPpsOutEdge
  repeat' first
    | (with_reducible assumption) | (with_reducible apply outKept_next) | (with_reducible apply toBoundary_kept)
    | (with_reducible apply emit_kept) | (with_reducible apply kept_ite)

theorem execPtpHoldoverEntry_kept {s : State} (h : Kept n m q o s) :
    OutKept n m q o (execPtpHoldoverEntry s) := by
  unfold execPtpHoldoverEntry
  repeat' first | (with_reducible assumption) | (with_reducible apply outKept_next) | (with_reducible apply holdover_kept)

theorem execPtpMasterChange_kept (x0 : Nat) (clockClass : Nat) (identity : Nat) {s : State} (h : Kept n m q o s) :
    OutKept n m q o (execPtpMasterChange x0 clockClass identity s) := by
  unfold execPtpMasterChange
  repeat' first
    | (with_reducible assumption) | (with_reducible apply outKept_next) | (with_reducible apply wf_kept)
    | (with_reducible apply raise_kept) | (with_reducible apply wbit_kept) | (with_reducible apply outKept_ite)
    | (with_reducible apply kept_ite) | (with_reducible refine kept_parts ?_ rfl rfl rfl rfl) | (simp only [kept_mk_iff])

theorem execPtpSyncInterval_kept (quarterNs : Int) {s : State} (h : Kept n m q o s) :
    OutKept n m q o (execPtpSyncInterval quarterNs s) := by
  unfold execPtpSyncInterval
  repeat' first
    | (with_reducible assumption) | (with_reducible apply outKept_next) | (with_reducible apply wf_kept)
    | (with_reducible apply raise_kept) | (with_reducible apply wbit_kept) | (with_reducible apply ptpUnlock_kept)
    | (with_reducible apply outKept_ite) | (with_reducible refine kept_parts ?_ rfl rfl rfl rfl) | (simp only [kept_mk_iff])

theorem execRealTimeControlMessage_kept (f : LnkFrame) {s : State} (h : Kept n m q o s) :
    OutKept n m q o (execRealTimeControlMessage f s) := by
  unfold execRealTimeControlMessage
  repeat' first
    | (with_reducible assumption) | (intro _) | (with_reducible apply outKept_next) | (with_reducible apply onFrame_kept)
    | (with_reducible apply controlMessage_kept)

theorem execRemoteRequest_kept (f : LnkFrame) {s : State} (h : Kept n m q o s) :
    OutKept n m q o (execRemoteRequest f s) := by
  unfold execRemoteRequest
  repeat' first
    | (with_reducible assumption) | (intro _) | (with_reducible apply outKept_next) | (with_reducible apply onFrame_kept)
    | (with_reducible apply sendMessage_kept) | (with_reducible apply kept_ite)

theorem execRequestWithFollowUp_kept (f : LnkFrame) {s : State} (h : Kept n m q o s) :
    OutKept n m q o (execRequestWithFollowUp f s) := by
  unfold execRequestWithFollowUp
  repeat' first
    | (with_reducible assumption) | (intro _) | (with_reducible apply outKept_next) | (with_reducible apply onFrame_kept)
    | (with_reducible apply State_setPort_kept) | (with_reducible apply kept_ite)

theorem execSakInstall_kept (x0 : Nat) (an : Nat) {s : State} (h : Kept n m q o s) :
    OutKept n m q o (execSakInstall x0 an s) := by
  unfold execSakInstall
  repeat' first
    | (with_reducible assumption) | (with_reducible apply outKept_next) | (with_reducible apply State_setPort_kept)
    | (with_reducible apply raise_kept) | (with_reducible apply portState_kept) | (with_reducible apply wf_kept)
    | (with_reducible apply outKept_ite) | (with_reducible refine kept_parts ?_ rfl rfl rfl rfl) | (simp only [kept_mk_iff])

theorem execSynceResume_kept {s : State} (h : Kept n m q o s) :
    OutKept n m q o (execSynceResume s) := by
  unfold execSynceResume
  repeat' first
    | (with_reducible assumption) | (with_reducible apply outKept_next) | (with_reducible apply wf_kept)
    | (with_reducible apply reachElapsed_kept) | (with_reducible apply outKept_ite)

theorem execSynceSquelch_kept (cause : Nat) {s : State} (h : Kept n m q o s) :
    OutKept n m q o (execSynceSquelch cause s) := by
  unfold execSynceSquelch
  repeat' first
    | (with_reducible assumption) | (with_reducible apply outKept_next) | (with_reducible apply reachElapsed_kept)
    | (with_reducible apply wf_kept) | (with_reducible apply raise_kept) | (with_reducible apply outKept_ite)
    | (with_reducible apply kept_ite) | (with_reducible refine kept_parts ?_ rfl rfl rfl rfl) | (simp only [kept_mk_iff])

theorem execSynchronisationRequest_kept (f : LnkFrame) {s : State} (h : Kept n m q o s) :
    OutKept n m q o (execSynchronisationRequest f s) := by
  unfold execSynchronisationRequest
  repeat' first
    | (with_reducible assumption) | (intro _) | (with_reducible apply outKept_next) | (with_reducible apply onFrame_kept)
    | (with_reducible apply sendSyncMsg_kept) | (with_reducible apply sendEvent_kept) | (with_reducible apply kept_ite)
    | (with_reducible refine kept_foldl ?_ ?_; intro _ _ _)

theorem execUlSectionSend_kept (prach : Bool) (x1 : Nat) {s : State} (h : Kept n m q o s) :
    OutKept n m q o (execUlSectionSend prach x1 s) := by
  unfold execUlSectionSend
  repeat' first
    | (with_reducible assumption) | (with_reducible apply outKept_next) | (with_reducible apply sendPrach_kept)
    | (with_reducible apply sendUplink_kept) | (with_reducible apply outKept_ite)

/-! ## CmdMemory -/

theorem execArbitrationPhase_kept (a : Nat) (ports : List Nat) (beats : Nat) {s : State} (h : Kept n m q o s) :
    OutKept n m q o (execArbitrationPhase a ports beats s) := by
  unfold execArbitrationPhase
  repeat' first
    | (with_reducible assumption) | (with_reducible apply outKept_next) | (with_reducible apply arbPhase_kept)
    | (with_reducible apply outKept_ite)

theorem execBankMigrationStart_kept (b : Nat) {s : State} (h : Kept n m q o s) :
    OutKept n m q o (execBankMigrationStart b s) := by
  unfold execBankMigrationStart
  repeat' first
    | (with_reducible assumption) | (with_reducible apply outKept_next) | (with_reducible apply spareBankOut_kept)
    | (with_reducible apply outKept_ite)

theorem execDmaDescriptor_kept (r : Nat) {s : State} (h : Kept n m q o s) :
    OutKept n m q o (execDmaDescriptor r s) := by
  unfold execDmaDescriptor
  repeat' first
    | (with_reducible assumption) | (with_reducible apply outKept_next) | (with_reducible apply descRun_kept)
    | (with_reducible apply outKept_ite)

theorem execDmaHalfCompletion_kept (r : Nat) {s : State} (h : Kept n m q o s) :
    OutKept n m q o (execDmaHalfCompletion r s) := by
  unfold execDmaHalfCompletion
  repeat' first
    | (with_reducible assumption) | (with_reducible apply outKept_next) | (with_reducible apply descHalf_kept)
    | (with_reducible apply outKept_ite)

theorem execDmaRingDisable_kept (r : Nat) {s : State} (h : Kept n m q o s) :
    OutKept n m q o (execDmaRingDisable r s) := by
  unfold execDmaRingDisable
  repeat' first
    | (with_reducible assumption) | (with_reducible apply outKept_next) | (with_reducible apply ringEnable_kept)
    | (with_reducible apply wbit_kept) | (with_reducible apply outKept_ite)

theorem execDmaRingKick_kept (tag : Nat) (r : Nat) (value : Nat) {s : State} (h : Kept n m q o s) :
    OutKept n m q o (execDmaRingKick tag r value s) := by
  unfold execDmaRingKick
  repeat' first
    | (with_reducible assumption) | (with_reducible apply outKept_next) | (with_reducible apply tagged_kept)
    | (with_reducible apply trigRing_kept) | (with_reducible apply outKept_ite) | (with_reducible apply kept_ite)

theorem execDmaStart_kept (x0 : Nat) {s : State} (h : Kept n m q o s) :
    OutKept n m q o (execDmaStart x0 s) := by
  unfold execDmaStart
  repeat' first
    | (with_reducible assumption) | (intro _) | (with_reducible apply outKept_next) | (with_reducible apply fireEvent_kept)
    | (with_reducible apply trigRing_kept) | (with_reducible apply kept_ite)

theorem execMemBankSpared_kept (b : Nat) {s : State} (h : Kept n m q o s) :
    OutKept n m q o (execMemBankSpared b s) := by
  unfold execMemBankSpared
  repeat' first | (with_reducible assumption) | (with_reducible apply outKept_next) | (with_reducible apply migrationEnd_kept) | split

theorem execMemHoldFault_hold_kept {s : State} (a : Nat) (x2 : Nat) (h : Kept n m q o s) :
    Kept n m q o (execMemHoldFault.hold s a x2) := by
  unfold execMemHoldFault.hold
  repeat' first
    | (with_reducible assumption) | (with_reducible apply raise_kept) | (with_reducible apply memFault_kept)
    | (with_reducible apply dropParked_kept) | (with_reducible apply setFlag_kept) | (with_reducible apply holdRing_kept)

theorem execMemHoldFault_kept (a : Nat) {s : State} (h : Kept n m q o s) :
    OutKept n m q o (execMemHoldFault a s) := by
  unfold execMemHoldFault
  repeat' first
    | (with_reducible assumption) | (with_reducible apply outKept_next) | (with_reducible apply reachElapsed_kept)
    | (with_reducible apply execMemHoldFault_hold_kept) | (with_reducible apply outKept_ite)
    | (with_reducible refine kept_parts ?_ rfl rfl rfl rfl) | (simp only [kept_mk_iff]) | split

theorem execMemLock_kept (tag : Nat) (value : Nat) {s : State} (h : Kept n m q o s) :
    OutKept n m q o (execMemLock tag value s) := by
  unfold execMemLock
  repeat' first
    | (with_reducible assumption) | (with_reducible apply outKept_next) | (with_reducible apply tagged_kept)
    | (with_reducible apply grantSet_kept) | (with_reducible apply raise_kept) | (with_reducible apply memFault_kept)
    | (with_reducible apply kept_ite) | (with_reducible refine kept_parts ?_ rfl rfl rfl rfl) | (simp only [kept_mk_iff])

theorem execMemLockRelease_kept (tag : Nat) (value : Nat) {s : State} (h : Kept n m q o s) :
    OutKept n m q o (execMemLockRelease tag value s) := by
  unfold execMemLockRelease
  repeat' first
    | (with_reducible assumption) | (with_reducible apply outKept_next) | (with_reducible apply tagged_kept)
    | (with_reducible apply grantSet_kept) | (with_reducible apply kept_ite) | (with_reducible refine kept_parts ?_ rfl rfl rfl rfl)
    | (simp only [kept_mk_iff])

theorem execMemRowRepaired_kept (b : Nat) (row : Nat) {s : State} (h : Kept n m q o s) :
    OutKept n m q o (execMemRowRepaired b row s) := by
  unfold execMemRowRepaired
  repeat' first
    | (with_reducible assumption) | (with_reducible apply outKept_next) | (with_reducible apply wf_kept)
    | (with_reducible apply spareUsed_kept) | (with_reducible apply saveBanks_kept) | (with_reducible apply raise_kept)
    | (with_reducible apply outKept_ite) | (with_reducible refine kept_parts ?_ rfl rfl rfl rfl) | (simp only [kept_mk_iff])

theorem execScrubPass_kept (ce : List Nat) (ue : List Nat) {s : State} (h : Kept n m q o s) :
    OutKept n m q o (execScrubPass ce ue s) := by
  unfold execScrubPass
  repeat' first
    | (with_reducible assumption) | (with_reducible apply outKept_next) | (with_reducible apply reachElapsed_kept)
    | (with_reducible apply eccFound_kept) | (with_reducible apply poisonRead_kept) | (with_reducible apply outKept_ite)
    | (with_reducible apply kept_ite) | (with_reducible refine kept_parts ?_ rfl rfl rfl rfl) | (simp only [kept_mk_iff])

theorem execServiceBankSpare_kept (role : Role) (b : Nat) {s : State} (h : Kept n m q o s) :
    OutKept n m q o (execServiceBankSpare role b s) := by
  unfold execServiceBankSpare
  repeat' first
    | (with_reducible assumption) | (with_reducible apply outKept_next) | (with_reducible apply spareBankOut_kept)
    | (with_reducible apply outKept_ite)

theorem sramTenure_kept {s : State} (port : Nat) (tag : Nat) (off : Nat) (len : Nat) (a : Nat) (x6 : Nat) (data : Option (List Byte)) (ce : List Nat) (ue : List Nat) (h : Kept n m q o s) :
    Kept n m q o (sramTenure s port tag off len a x6 data ce ue) := by
  unfold sramTenure
  repeat' first
    | (with_reducible assumption) | (with_reducible apply arbPhase_kept) | (with_reducible apply eccFound_kept)
    | (with_reducible apply sramWriteBy_kept) | (with_reducible apply emit_kept) | (with_reducible apply arbEnd_kept)
    | (with_reducible apply sramRead_kept) | (simp only [kept_mk_iff]) | split

theorem execSramAccess_kept (port : Nat) (tag : Nat) (addr : Nat) (x3 : Nat) (data : Option (List Byte)) (ce : List Nat) (ue : List Nat) {s : State} (h : Kept n m q o s) :
    OutKept n m q o (execSramAccess port tag addr x3 data ce ue s) := by
  unfold execSramAccess
  repeat' first
    | (with_reducible assumption) | (with_reducible apply outKept_next) | (with_reducible apply emit_kept)
    | (with_reducible apply firewall_kept) | (with_reducible apply sramTenure_kept) | (with_reducible apply addrFault_kept)
    | (with_reducible apply outKept_ite)

/-! ## CmdPower -/

theorem execDebugWakeWord_kept (word : List Byte) {s : State} (h : Kept n m q o s) :
    OutKept n m q o (execDebugWakeWord word s) := by
  unfold execDebugWakeWord
  repeat' first
    | (with_reducible assumption) | (with_reducible apply outKept_next) | (with_reducible apply wakeFires_kept)
    | (with_reducible apply stat_kept) | (with_reducible apply outKept_ite) | (with_reducible refine kept_parts ?_ rfl rfl rfl rfl)
    | (simp only [kept_mk_iff])

theorem execLinkSignalDetect_kept (lane : Nat) {s : State} (h : Kept n m q o s) :
    OutKept n m q o (execLinkSignalDetect lane s) := by
  unfold execLinkSignalDetect
  repeat' first
    | (with_reducible assumption) | (with_reducible apply outKept_next) | (with_reducible apply wakeFires_kept)
    | (with_reducible apply reachElapsed_kept) | (with_reducible apply outKept_ite)

theorem execPowerEntryStep_kept {s : State} (h : Kept n m q o s) :
    OutKept n m q o (execPowerEntryStep s) := by
  unfold execPowerEntryStep
  repeat' first | (with_reducible assumption) | (with_reducible apply outKept_next) | (with_reducible apply entryStep_kept) | split

theorem execPowerExit_kept {s : State} (h : Kept n m q o s) :
    OutKept n m q o (execPowerExit s) := by
  unfold execPowerExit
  repeat' first
    | (with_reducible assumption) | (with_reducible apply outKept_next) | (with_reducible apply napExit_kept)
    | (with_reducible apply outKept_ite)

theorem execPowerRequest_kept (by_ : Option Role) (tag : Nat) (value : Nat) {s : State} (h : Kept n m q o s) :
    OutKept n m q o (execPowerRequest by_ tag value s) := by
  unfold execPowerRequest
  repeat' first
    | (with_reducible assumption) | (with_reducible apply outKept_next) | (with_reducible apply powerRequest_kept)
    | (with_reducible apply tagged_kept) | (with_reducible apply kept_ite) | (simp only [kept_mk_iff]) | split

theorem execRtcAlarm_kept {s : State} (h : Kept n m q o s) :
    OutKept n m q o (execRtcAlarm s) := by
  unfold execRtcAlarm
  repeat' first
    | (with_reducible assumption) | (with_reducible apply outKept_next) | (with_reducible apply reachElapsed_kept)
    | (with_reducible apply wakeFires_kept) | (with_reducible apply wbit_kept) | (with_reducible apply outKept_ite)

theorem execSectionGateOff_kept (p : Nat) (rx : Bool) {s : State} (h : Kept n m q o s) :
    OutKept n m q o (execSectionGateOff p rx s) := by
  unfold execSectionGateOff
  repeat' first
    | (with_reducible assumption) | (with_reducible apply outKept_next) | (with_reducible apply reachCount_kept)
    | (with_reducible apply clockPath_kept) | (with_reducible apply outKept_ite) | (with_reducible apply kept_ite)
    | (with_reducible refine kept_parts ?_ rfl rfl rfl rfl) | (simp only [kept_mk_iff]) | split

theorem gateOn_kept {s : State} (p : Nat) (rx : Bool) (h : Kept n m q o s) :
    Kept n m q o (gateOn s p rx) := by
  unfold gateOn
  repeat' first
    | (with_reducible assumption) | (with_reducible apply clockPath_kept) | (with_reducible apply State_setDac_kept)
    | (with_reducible apply kept_ite) | (with_reducible refine kept_foldl ?_ ?_; intro _ _ _)
    | (with_reducible refine kept_parts ?_ rfl rfl rfl rfl) | (simp only [kept_mk_iff])

theorem execSectionGateOn_kept (p : Nat) (rx : Bool) {s : State} (h : Kept n m q o s) :
    OutKept n m q o (execSectionGateOn p rx s) := by
  unfold execSectionGateOn
  repeat' first
    | (with_reducible assumption) | (with_reducible apply outKept_next) | (with_reducible apply gateOn_kept)
    | (with_reducible apply reachCount_kept) | (with_reducible apply outKept_ite) | split

theorem execSlotgateChange_kept {s : State} (h : Kept n m q o s) :
    OutKept n m q o (execSlotgateChange s) := by
  unfold execSlotgateChange
  repeat' first
    | (with_reducible assumption) | (with_reducible apply outKept_next) | (with_reducible apply reachCount_kept)
    | (with_reducible apply gateOn_kept) | (with_reducible apply settle_kept) | (with_reducible apply reqStatus_kept)
    | (with_reducible apply kept_ite) | (with_reducible refine kept_foldl ?_ ?_; intro _ _ _) | (simp only [kept_mk_iff]) | split

theorem execT1sFrameWake_kept (dst : Nat) (fcsOk : Bool) {s : State} (h : Kept n m q o s) :
    OutKept n m q o (execT1sFrameWake dst fcsOk s) := by
  unfold execT1sFrameWake
  repeat' first
    | (with_reducible assumption) | (with_reducible apply outKept_next) | (with_reducible apply wakeFires_kept)
    | (with_reducible apply outKept_ite)

theorem execThermalAlarm_kept (t : Int) {s : State} (h : Kept n m q o s) :
    OutKept n m q o (execThermalAlarm t s) := by
  unfold execThermalAlarm
  repeat' first
    | (with_reducible assumption) | (with_reducible apply outKept_next) | (with_reducible apply wakeFires_kept)
    | (with_reducible apply outKept_ite)

theorem wrxState_kept {s : State} (v : Nat) (h : Kept n m q o s) :
    Kept n m q o (wrxState s v) := by
  unfold wrxState
  repeat' first | (with_reducible assumption) | (with_reducible apply wf_kept)

theorem wrxIdle_kept {s : State} (h : Kept n m q o s) :
    Kept n m q o (wrxIdle s) := by
  unfold wrxIdle
  repeat' first
    | (with_reducible assumption) | (with_reducible apply wrxState_kept) | (with_reducible apply kept_ite)
    | (with_reducible refine kept_parts ?_ rfl rfl rfl rfl) | (simp only [kept_mk_iff])

theorem wrxReject_kept {s : State} (kind : Nat) (h : Kept n m q o s) :
    Kept n m q o (wrxReject s kind) := by
  unfold wrxReject
  repeat' first
    | (with_reducible assumption) | (with_reducible apply bump_kept) | (with_reducible apply reportRejected_kept)
    | (with_reducible apply kept_ite) | (with_reducible refine kept_parts ?_ rfl rfl rfl rfl) | (simp only [kept_mk_iff])

theorem execWakeFrame_kept (frame : List Byte) (rssi : Int) {s : State} (h : Kept n m q o s) :
    OutKept n m q o (execWakeFrame frame rssi s) := by
  unfold execWakeFrame
  repeat' first
    | (with_reducible assumption) | (with_reducible apply outKept_next) | (with_reducible apply wf_kept)
    | (with_reducible apply wrxIdle_kept) | (with_reducible apply wrxReject_kept) | (with_reducible apply wr_kept)
    | (with_reducible apply bump_kept) | (with_reducible apply wakeFires_kept) | (with_reducible apply outKept_ite)
    | (with_reducible apply kept_ite) | (with_reducible refine kept_parts ?_ rfl rfl rfl rfl) | (simp only [kept_mk_iff]) | split

theorem execWakePin_kept (cycles : Nat) {s : State} (h : Kept n m q o s) :
    OutKept n m q o (execWakePin cycles s) := by
  unfold execWakePin
  repeat' first
    | (with_reducible assumption) | (with_reducible apply outKept_next) | (with_reducible apply wakeFires_kept)
    | (with_reducible apply reachElapsed_kept) | (with_reducible apply outKept_ite)

theorem execWakeToTransition_kept {s : State} (h : Kept n m q o s) :
    OutKept n m q o (execWakeToTransition s) := by
  unfold execWakeToTransition
  repeat' first
    | (with_reducible assumption) | (with_reducible apply outKept_next) | (with_reducible apply wakeTransition_kept)
    | (with_reducible apply setPhase_kept) | (with_reducible apply outKept_ite) | (with_reducible apply kept_ite)
    | (simp only [kept_mk_iff]) | split

theorem execWarmStart_kept {s : State} (h : Kept n m q o s) :
    OutKept n m q o (execWarmStart s) := by
  unfold execWarmStart
  repeat' first
    | (with_reducible assumption) | (with_reducible apply outKept_next) | (with_reducible apply warmStart_kept)
    | (with_reducible apply outKept_ite) | split

theorem execWrxSniff_kept (hit : Bool) (envA : Int) (envB : Int) {s : State} (h : Kept n m q o s) :
    OutKept n m q o (execWrxSniff hit envA envB s) := by
  unfold execWrxSniff
  repeat' first
    | (with_reducible assumption) | (with_reducible apply outKept_next) | (with_reducible apply wbit_kept)
    | (with_reducible apply wrxState_kept) | (with_reducible apply passTicks_kept) | (with_reducible apply outKept_ite)
    | (with_reducible refine kept_parts ?_ rfl rfl rfl rfl) | (simp only [kept_mk_iff])

theorem execWrxSyncTimeout_kept {s : State} (h : Kept n m q o s) :
    OutKept n m q o (execWrxSyncTimeout s) := by
  unfold execWrxSyncTimeout
  repeat' first
    | (with_reducible assumption) | (with_reducible apply outKept_next) | (with_reducible apply wrxIdle_kept)
    | (with_reducible apply wrxReject_kept) | (with_reducible apply reachElapsed_kept) | (with_reducible apply outKept_ite)

theorem execWrxTrim_kept {s : State} (h : Kept n m q o s) :
    OutKept n m q o (execWrxTrim s) := by
  unfold execWrxTrim
  repeat' first
    | (with_reducible assumption) | (with_reducible apply outKept_next) | (with_reducible apply reachElapsed_kept)
    | (with_reducible apply passTicks_kept) | (with_reducible apply outKept_ite) | (with_reducible refine kept_parts ?_ rfl rfl rfl rfl)
    | (simp only [kept_mk_iff])

/-! ## SerialOps -/

theorem serialCode_kept {s : State} (p : Nat) (code : Nat) (h : Kept n m q o s) :
    Kept n m q o (serialCode s p code) := by
  unfold serialCode
  repeat' first
    | (with_reducible assumption) | (with_reducible apply State_setFe_kept) | (with_reducible apply statPath_kept)
    | (with_reducible apply kept_ite)

theorem moduleFault_kept {s : State} (p : Nat) (h : Kept n m q o s) :
    Kept n m q o (moduleFault s p) := by
  unfold moduleFault
  repeat' first | (with_reducible assumption) | (with_reducible apply raise_kept) | (with_reducible apply setFlag_kept)

theorem deferRetries_kept {s : State} (p : Nat) (h : Kept n m q o s) :
    Kept n m q o (deferRetries s p) := by
  unfold deferRetries
  repeat' first
    | (with_reducible assumption) | (with_reducible apply State_setFe_kept) | (with_reducible apply serialCode_kept)
    | (with_reducible apply moduleFault_kept) | (with_reducible apply kept_ite) | (with_reducible refine kept_foldl ?_ ?_; intro _ _ _)

theorem endTxn_kept {s : State} (p : Nat) (code : Nat) (h : Kept n m q o s) :
    Kept n m q o (endTxn s p code) := by
  unfold endTxn
  repeat' first
    | (with_reducible assumption) | (with_reducible apply State_setFe_kept) | (with_reducible apply serialCode_kept)
    | (with_reducible apply moduleFault_kept) | (with_reducible apply failPath_kept) | (with_reducible apply kept_ite)
    | (simp only [kept_mk_iff]) | split

/-! ## CmdRf -/

theorem execDividerResync_kept {s : State} (h : Kept n m q o s) :
    OutKept n m q o (execDividerResync s) := by
  unfold execDividerResync
  repeat' first
    | (with_reducible assumption) | (with_reducible apply outKept_next) | (with_reducible apply toSymbol_kept)
    | (with_reducible apply markOff_kept) | (with_reducible apply State_setFe_kept) | (with_reducible apply outKept_ite)
    | (with_reducible refine kept_foldl ?_ ?_; intro _ _ _) | (with_reducible refine kept_parts ?_ rfl rfl rfl rfl)
    | (simp only [kept_mk_iff])

theorem execFeSerial_kept (x0 : Nat) {s : State} (h : Kept n m q o s) :
    OutKept n m q o (execFeSerial x0 s) := by
  unfold execFeSerial
  repeat' first
    | (with_reducible assumption) | (intro _) | (with_reducible apply outKept_next) | (with_reducible apply fireEvent_kept)
    | (with_reducible apply State_setFe_kept) | (with_reducible apply serialCode_kept) | (with_reducible apply kept_ite)
    | (with_reducible refine kept_foldl ?_ ?_; intro _ _ _)

theorem execForcedRetune_kept (role : Role) (syn : Nat) (preset : Nat) (go : Nat) {s : State} (h : Kept n m q o s) :
    OutKept n m q o (execForcedRetune role syn preset go s) := by
  unfold execForcedRetune
  repeat' first
    | (with_reducible assumption) | (with_reducible apply outKept_next) | (with_reducible apply forceTune_kept)
    | (with_reducible apply outKept_ite)

theorem execHopComplete_kept {s : State} (h : Kept n m q o s) :
    OutKept n m q o (execHopComplete s) := by
  unfold execHopComplete
  repeat' first
    | (with_reducible assumption) | (with_reducible apply outKept_next) | (with_reducible apply reachElapsed_kept)
    | (with_reducible apply txGood_kept) | (with_reducible apply rxGood_kept) | (with_reducible refine kept_parts ?_ rfl rfl rfl rfl)
    | (simp only [kept_mk_iff]) | split

theorem execHopDividerCheck_kept (failed : List Nat) {s : State} (h : Kept n m q o s) :
    OutKept n m q o (execHopDividerCheck failed s) := by
  unfold execHopDividerCheck
  repeat' first
    | (with_reducible assumption) | (with_reducible apply outKept_next) | (with_reducible apply reachElapsed_kept)
    | (with_reducible apply markOn_kept) | (with_reducible refine kept_foldl ?_ ?_; intro _ _ _)
    | (with_reducible refine kept_parts ?_ rfl rfl rfl rfl) | (simp only [kept_mk_iff]) | split

theorem execHopResyncPulse_kept {s : State} (h : Kept n m q o s) :
    OutKept n m q o (execHopResyncPulse s) := by
  unfold execHopResyncPulse
  repeat' first
    | (with_reducible assumption) | (with_reducible apply outKept_next) | (with_reducible apply reachElapsed_kept)
    | (with_reducible refine kept_parts ?_ rfl rfl rfl rfl) | (simp only [kept_mk_iff]) | split

theorem execLnaBypass_kept (p : Nat) {s : State} (h : Kept n m q o s) :
    OutKept n m q o (execLnaBypass p s) := by
  unfold execLnaBypass
  repeat' first
    | (with_reducible assumption) | (with_reducible apply outKept_next) | (with_reducible apply lnaChange_kept)
    | (with_reducible apply outKept_ite)

theorem execLnaReturn_kept (p : Nat) {s : State} (h : Kept n m q o s) :
    OutKept n m q o (execLnaReturn p s) := by
  unfold execLnaReturn
  repeat' first
    | (with_reducible assumption) | (with_reducible apply outKept_next) | (with_reducible apply lnaChange_kept)
    | (with_reducible apply outKept_ite)

theorem execLoHop_kept (x0 : Nat) {s : State} (h : Kept n m q o s) :
    OutKept n m q o (execLoHop x0 s) := by
  unfold execLoHop
  repeat' first
    | (with_reducible assumption) | (intro _) | (with_reducible apply outKept_next) | (with_reducible apply fireEvent_kept)
    | (with_reducible apply markOff_kept) | (with_reducible apply trunkDrop_kept) | (with_reducible apply raise_kept)
    | (with_reducible apply kept_ite) | (with_reducible refine kept_foldl ?_ ?_; intro _ _ _)
    | (with_reducible refine kept_parts ?_ rfl rfl rfl rfl) | (simp only [kept_mk_iff])

theorem execLoSynDisable_kept (x0 : Nat) {s : State} (h : Kept n m q o s) :
    OutKept n m q o (execLoSynDisable x0 s) := by
  unfold execLoSynDisable
  repeat' first
    | (with_reducible assumption) | (with_reducible apply outKept_next) | (with_reducible apply synOff_kept)
    | (with_reducible apply wbit_kept) | (with_reducible apply outKept_ite)

theorem execLoSynEnable_kept (x0 : Nat) {s : State} (h : Kept n m q o s) :
    OutKept n m q o (execLoSynEnable x0 s) := by
  unfold execLoSynEnable
  repeat' first
    | (with_reducible assumption) | (with_reducible apply outKept_next) | (with_reducible apply wbit_kept)
    | (with_reducible apply tuneSyn_kept) | (with_reducible apply outKept_ite) | (with_reducible apply kept_ite)

theorem execLoTune_kept (x0 : Nat) {s : State} (h : Kept n m q o s) :
    OutKept n m q o (execLoTune x0 s) := by
  unfold execLoTune
  repeat' first
    | (with_reducible assumption) | (intro _) | (with_reducible apply outKept_next) | (with_reducible apply fireEvent_kept)
    | (with_reducible apply tuneSyn_kept)

theorem execOverloadDeassert_kept (p : Nat) {s : State} (h : Kept n m q o s) :
    OutKept n m q o (execOverloadDeassert p s) := by
  unfold execOverloadDeassert
  repeat' first
    | (with_reducible assumption) | (with_reducible apply outKept_next) | (with_reducible apply State_setFe_kept)
    | (with_reducible apply outKept_ite)

theorem execRefclkLoss_kept (edges : Nat) {s : State} (h : Kept n m q o s) :
    OutKept n m q o (execRefclkLoss edges s) := by
  unfold execRefclkLoss
  repeat' first
    | (with_reducible assumption) | (with_reducible apply outKept_next) | (with_reducible apply synHoldover_kept)
    | (with_reducible apply outKept_ite) | (with_reducible refine kept_foldl ?_ ?_; intro _ _ _)
    | (with_reducible refine kept_parts ?_ rfl rfl rfl rfl) | (simp only [kept_mk_iff])

theorem execRefclkRecovery_kept (edges : List Nat) {s : State} (h : Kept n m q o s) :
    OutKept n m q o (execRefclkRecovery edges s) := by
  unfold execRefclkRecovery
  repeat' first
    | (with_reducible assumption) | (with_reducible apply outKept_next) | (with_reducible apply State_setSyn_kept)
    | (with_reducible apply outKept_ite) | (with_reducible apply kept_ite) | (with_reducible refine kept_foldl ?_ ?_; intro _ _ _)
    | (with_reducible refine kept_parts ?_ rfl rfl rfl rfl) | (simp only [kept_mk_iff])

theorem execResetPhaseEnd_kept {s : State} (h : Kept n m q o s) :
    OutKept n m q o (execResetPhaseEnd s) := by
  unfold execResetPhaseEnd
  repeat' first
    | (with_reducible assumption) | (with_reducible apply outKept_next) | (with_reducible apply startTurn_kept)
    | (with_reducible apply State_setFe_kept) | (with_reducible apply reachElapsed_kept) | (with_reducible apply kept_ite)
    | (with_reducible refine kept_foldl ?_ ?_; intro _ _ _)

theorem execSerialTransaction_kept (p : Nat) (febLow : Bool) {s : State} (h : Kept n m q o s) :
    OutKept n m q o (execSerialTransaction p febLow s) := by
  unfold execSerialTransaction
  repeat' first
    | (with_reducible assumption) | (with_reducible apply outKept_next) | (with_reducible apply State_setFe_kept)
    | (with_reducible apply endTxn_kept) | (with_reducible apply outKept_ite) | (with_reducible apply kept_ite)
    | (simp only [kept_mk_iff]) | split

theorem execSerialTransactionDone_kept (p : Nat) (feb : List Bool) (rdata : List Byte) {s : State} (h : Kept n m q o s) :
    OutKept n m q o (execSerialTransactionDone p feb rdata s) := by
  unfold execSerialTransactionDone
  repeat' first
    | (with_reducible assumption) | (with_reducible apply outKept_next) | (with_reducible apply reachElapsed_kept)
    | (with_reducible apply State_setFe_kept) | (with_reducible apply wr_kept) | (with_reducible apply moduleTemp_kept)
    | (with_reducible apply endTxn_kept) | (with_reducible apply outKept_ite) | (with_reducible apply kept_ite)
    | (simp only [kept_mk_iff]) | split

theorem execStrapSample_kept (fea : List Nat) (feb : List Nat) {s : State} (h : Kept n m q o s) :
    OutKept n m q o (execStrapSample fea feb s) := by
  unfold execStrapSample
  repeat' first
    | (with_reducible assumption) | (with_reducible apply outKept_next) | (with_reducible apply reachElapsed_kept)
    | (with_reducible apply raise_kept) | (with_reducible apply outKept_ite) | (with_reducible refine kept_foldl ?_ ?_; intro _ _ _)
    | (with_reducible refine kept_parts ?_ rfl rfl rfl rfl) | (simp only [kept_mk_iff])

theorem execSynLockAchieved_kept (x0 : Nat) {s : State} (h : Kept n m q o s) :
    OutKept n m q o (execSynLockAchieved x0 s) := by
  unfold execSynLockAchieved
  repeat' first
    | (with_reducible assumption) | (with_reducible apply outKept_next) | (with_reducible apply reachElapsed_kept)
    | (with_reducible apply State_setSyn_kept) | (with_reducible apply applyForced_kept) | (with_reducible apply trunkGood_kept)
    | (with_reducible apply outKept_ite)

theorem execSynLockLoss_kept (x0 : Nat) {s : State} (h : Kept n m q o s) :
    OutKept n m q o (execSynLockLoss x0 s) := by
  unfold execSynLockLoss
  repeat' first
    | (with_reducible assumption) | (with_reducible apply outKept_next) | (with_reducible apply State_setSyn_kept)
    | (with_reducible apply raise_kept) | (with_reducible apply bump_kept) | (with_reducible apply trunkDrop_kept)
    | (with_reducible apply outKept_ite)

theorem execSynSettleTimeout_kept (x0 : Nat) {s : State} (h : Kept n m q o s) :
    OutKept n m q o (execSynSettleTimeout x0 s) := by
  unfold execSynSettleTimeout
  repeat' first
    | (with_reducible assumption) | (with_reducible apply outKept_next) | (with_reducible apply reachElapsed_kept)
    | (with_reducible apply raise_kept) | (with_reducible apply State_setSyn_kept) | (with_reducible apply outKept_ite)

theorem execTurnaroundStep_kept (p : Nat) {s : State} (h : Kept n m q o s) :
    OutKept n m q o (execTurnaroundStep p s) := by
  unfold execTurnaroundStep
  repeat' first
    | (with_reducible assumption) | (with_reducible apply outKept_next) | (with_reducible apply turnStep_kept)
    | (with_reducible apply reachElapsed_kept) | (with_reducible apply startExitTurn_kept) | (with_reducible apply outKept_ite) | split

theorem execTxSymbolStart_kept (p : Nat) (cc : Nat) {s : State} (h : Kept n m q o s) :
    OutKept n m q o (execTxSymbolStart p cc s) := by
  unfold execTxSymbolStart
  repeat' first
    | (with_reducible assumption) | (with_reducible apply outKept_next) | (with_reducible apply resumeTx_kept)
    | (with_reducible apply reachCount_kept) | (with_reducible apply toBoundary_kept) | (with_reducible apply blankSymbols_kept)
    | (with_reducible apply outKept_ite) | (with_reducible apply kept_ite)

theorem execVcoCalibrationDone_kept (x0 : Nat) {s : State} (h : Kept n m q o s) :
    OutKept n m q o (execVcoCalibrationDone x0 s) := by
  unfold execVcoCalibrationDone
  repeat' first
    | (with_reducible assumption) | (with_reducible apply outKept_next) | (with_reducible apply State_setSyn_kept)
    | (with_reducible apply outKept_ite)

/-! ## CmdRx -/

theorem execAgcRelease_kept (p : Nat) {s : State} (h : Kept n m q o s) :
    OutKept n m q o (execAgcRelease p s) := by
  unfold execAgcRelease
  repeat' first
    | (with_reducible assumption) | (with_reducible apply outKept_next) | (with_reducible apply toSymbol_kept)
    | (with_reducible apply setAtt_kept) | (with_reducible apply State_setRxg_kept) | (with_reducible apply outKept_ite)

theorem execCoefficientRoll_kept {s : State} (h : Kept n m q o s) :
    OutKept n m q o (execCoefficientRoll s) := by
  unfold execCoefficientRoll
  repeat' first
    | (with_reducible assumption) | (with_reducible apply outKept_next) | (with_reducible apply coefficientRoll_kept)
    | (with_reducible apply outKept_ite)

theorem execCoefficientWrite_kept (tag : Nat) (addr : Nat) (value : Nat) {s : State} (h : Kept n m q o s) :
    OutKept n m q o (execCoefficientWrite tag addr value s) := by
  unfold execCoefficientWrite
  repeat' first
    | (with_reducible assumption) | (with_reducible apply outKept_next) | (with_reducible apply emit_kept)
    | (with_reducible apply coefWrite_kept) | (with_reducible apply kept_ite) | split

theorem execFastPathEstimate_kept (p : Nat) (xi : List Int) (xq : List Int) (ovr : Nat) (ovrNew : Nat) {s : State} (h : Kept n m q o s) :
    OutKept n m q o (execFastPathEstimate p xi xq ovr ovrNew s) := by
  unfold execFastPathEstimate
  repeat' first
    | (with_reducible assumption) | (with_reducible apply outKept_next) | (with_reducible apply fastEstimate_kept)
    | (with_reducible apply outKept_ite)

theorem execLaneMoveRequest_kept (tag : Nat) (c : Nat) (value : Nat) {s : State} (h : Kept n m q o s) :
    OutKept n m q o (execLaneMoveRequest tag c value s) := by
  unfold execLaneMoveRequest
  repeat' first
    | (with_reducible assumption) | (with_reducible apply outKept_next) | (with_reducible apply tagged_kept)
    | (with_reducible apply requestMove_kept) | (with_reducible apply outKept_ite) | (with_reducible apply kept_ite)

theorem execLaneSwitch_kept (c : Nat) (differ : Bool) {s : State} (h : Kept n m q o s) :
    OutKept n m q o (execLaneSwitch c differ s) := by
  unfold execLaneSwitch
  repeat' first
    | (with_reducible assumption) | (with_reducible apply outKept_next) | (with_reducible apply reachElapsed_kept)
    | (with_reducible apply toBoundary_kept) | (with_reducible apply laneSwitch_kept) | (with_reducible apply outKept_ite)

theorem execLaneWarmStart_kept (c : Nat) {s : State} (h : Kept n m q o s) :
    OutKept n m q o (execLaneWarmStart c s) := by
  unfold execLaneWarmStart
  repeat' first
    | (with_reducible assumption) | (with_reducible apply outKept_next) | (with_reducible apply toCommon_kept)
    | (with_reducible apply State_setLanes_kept) | (with_reducible apply outKept_ite)

theorem execLimiterLnaReturn_kept (p : Nat) {s : State} (h : Kept n m q o s) :
    OutKept n m q o (execLimiterLnaReturn p s) := by
  unfold execLimiterLnaReturn
  repeat' first
    | (with_reducible assumption) | (with_reducible apply outKept_next) | (with_reducible apply toSymbol_kept)
    | (with_reducible apply lnaChange_kept) | (with_reducible apply State_setRxg_kept) | (with_reducible apply outKept_ite)

theorem execOverloadAssert_kept (p : Nat) {s : State} (h : Kept n m q o s) :
    OutKept n m q o (execOverloadAssert p s) := by
  unfold execOverloadAssert
  repeat' first
    | (with_reducible assumption) | (with_reducible apply outKept_next) | (with_reducible apply State_setFe_kept)
    | (with_reducible apply raise_kept) | (with_reducible apply statPath_kept) | (with_reducible apply setFlag_kept)
    | (with_reducible apply limiterBypass_kept) | (with_reducible apply outKept_ite) | (with_reducible apply kept_ite)

theorem execPrachOccasion_kept (p : Nat) (j : Nat) (occ : Nat) (x : List Cplx) (sat : Nat) {s : State} (h : Kept n m q o s) :
    OutKept n m q o (execPrachOccasion p j occ x sat s) := by
  unfold execPrachOccasion
  repeat' first
    | (with_reducible assumption) | (with_reducible apply outKept_next) | (with_reducible apply toBoundary_kept)
    | (with_reducible apply passTicks_kept) | (with_reducible apply rxSat_kept) | (with_reducible apply outKept_ite)
    | (with_reducible refine kept_parts ?_ rfl rfl rfl rfl) | (simp only [kept_mk_iff])

theorem execRxFftWindowEnd_kept (p : Nat) (cc : Nat) (xi : List Int) (xq : List Int) (sat : Nat) {s : State} (h : Kept n m q o s) :
    OutKept n m q o (execRxFftWindowEnd p cc xi xq sat s) := by
  unfold execRxFftWindowEnd
  repeat' first
    | (with_reducible assumption) | (with_reducible apply outKept_next) | (with_reducible apply toBoundary_kept)
    | (with_reducible apply statPath_kept) | (with_reducible apply rxSat_kept) | (with_reducible apply outKept_ite)
    | (with_reducible apply kept_ite) | (with_reducible refine kept_parts ?_ rfl rfl rfl rfl) | (simp only [kept_mk_iff])

theorem execSync_kept (x0 : Nat) {s : State} (h : Kept n m q o s) :
    OutKept n m q o (execSync x0 s) := by
  unfold execSync
  repeat' first
    | (with_reducible assumption) | (intro _) | (with_reducible apply outKept_next) | (with_reducible apply fireEvent_kept)
    | (with_reducible apply requestSync_kept)

theorem execSyncFillEnd_kept (cc : Nat) {s : State} (h : Kept n m q o s) :
    OutKept n m q o (execSyncFillEnd cc s) := by
  unfold execSyncFillEnd
  repeat' first
    | (with_reducible assumption) | (with_reducible apply outKept_next) | (with_reducible apply reachElapsed_kept)
    | (with_reducible apply reachCount_kept) | (with_reducible apply outKept_ite) | (with_reducible refine kept_parts ?_ rfl rfl rfl rfl)
    | (simp only [kept_mk_iff])

theorem execSyncNow_kept (tag : Nat) {s : State} (h : Kept n m q o s) :
    OutKept n m q o (execSyncNow tag s) := by
  unfold execSyncNow
  repeat' first
    | (with_reducible assumption) | (with_reducible apply outKept_next) | (with_reducible apply tagged_kept)
    | (with_reducible apply syncWrite_kept)

theorem execSyncPinEdge_kept (tick : Nat) {s : State} (h : Kept n m q o s) :
    OutKept n m q o (execSyncPinEdge tick s) := by
  unfold execSyncPinEdge
  repeat' first
    | (with_reducible assumption) | (with_reducible apply outKept_next) | (with_reducible apply requestSync_kept)
    | (with_reducible apply outKept_ite)

theorem execSyncRequestObject_kept (role : Role) (tick : Nat) {s : State} (h : Kept n m q o s) :
    OutKept n m q o (execSyncRequestObject role tick s) := by
  unfold execSyncRequestObject
  repeat' first | (with_reducible assumption) | (with_reducible apply outKept_next) | (with_reducible apply requestSync_kept) | split

theorem execSyncTakeEffect_kept {s : State} (h : Kept n m q o s) :
    OutKept n m q o (execSyncTakeEffect s) := by
  unfold execSyncTakeEffect
  repeat' first
    | (with_reducible assumption) | (with_reducible apply outKept_next) | (with_reducible apply reachCount_kept)
    | (with_reducible apply markSpan_kept) | (with_reducible apply wbit_kept) | (with_reducible apply wr_kept)
    | (with_reducible apply raise_kept) | (with_reducible apply restartWarm_kept) | (with_reducible refine kept_foldl ?_ ?_; intro _ _ _)
    | (with_reducible refine kept_parts ?_ rfl rfl rfl rfl) | (simp only [kept_mk_iff]) | split

/-! ## CmdService -/

theorem execDmaMainRestored_kept (marchOk : Bool) {s : State} (h : Kept n m q o s) :
    OutKept n m q o (execDmaMainRestored marchOk s) := by
  unfold execDmaMainRestored
  repeat' first
    | (with_reducible assumption) | (with_reducible apply outKept_next) | (with_reducible apply raise_kept)
    | (with_reducible apply outKept_ite) | (with_reducible refine kept_parts ?_ rfl rfl rfl rfl) | (simp only [kept_mk_iff])

theorem execEngineRetire_kept (e : Nat) (tag : Nat) (ecc : Bool) {s : State} (h : Kept n m q o s) :
    OutKept n m q o (execEngineRetire e tag ecc s) := by
  unfold execEngineRetire
  repeat' first
    | (with_reducible assumption) | (with_reducible apply outKept_next) | (with_reducible apply retireEngine_kept)
    | (with_reducible apply tagged_kept) | (with_reducible apply outKept_ite) | (with_reducible refine kept_parts ?_ rfl rfl rfl rfl)
    | (simp only [kept_mk_iff])

theorem execEngineSpareTakeover_kept (e : Nat) {s : State} (h : Kept n m q o s) :
    OutKept n m q o (execEngineSpareTakeover e s) := by
  unfold execEngineSpareTakeover
  repeat' first | (with_reducible assumption) | (with_reducible apply outKept_next) | (with_reducible apply spareTakesOver_kept) | split

theorem execFwAlive_kept (pair : Nat) {s : State} (h : Kept n m q o s) :
    OutKept n m q o (execFwAlive pair s) := by
  unfold execFwAlive
  repeat' first
    | (with_reducible assumption) | (with_reducible apply outKept_next) | (with_reducible apply fwSignal_kept)
    | (with_reducible apply outKept_ite)

theorem execFwHandoverDone_kept {s : State} (h : Kept n m q o s) :
    OutKept n m q o (execFwHandoverDone s) := by
  unfold execFwHandoverDone
  repeat' first
    | (with_reducible assumption) | (with_reducible apply outKept_next) | (with_reducible apply reachElapsed_kept)
    | (with_reducible apply State_setStandby_kept) | (with_reducible apply State_setHoResult_kept)
    | (with_reducible apply State_setHo_kept) | (with_reducible apply wbit_kept) | (with_reducible apply raise_kept)
    | (with_reducible apply State_setPair_kept) | (with_reducible apply outKept_ite)

theorem execFwReverted_kept {s : State} (h : Kept n m q o s) :
    OutKept n m q o (execFwReverted s) := by
  unfold execFwReverted
  repeat' first
    | (with_reducible assumption) | (with_reducible apply outKept_next) | (with_reducible apply hoReverts_kept)
    | (with_reducible apply toSlot_kept) | (with_reducible apply reachElapsed_kept) | (with_reducible apply outKept_ite)

theorem execFwSaved_kept (pair : Nat) {s : State} (h : Kept n m q o s) :
    OutKept n m q o (execFwSaved pair s) := by
  unfold execFwSaved
  repeat' first
    | (with_reducible assumption) | (with_reducible apply outKept_next) | (with_reducible apply fwSignal_kept)
    | (with_reducible apply outKept_ite)

theorem execFwStandbyReady_kept (pair : Nat) {s : State} (h : Kept n m q o s) :
    OutKept n m q o (execFwStandbyReady pair s) := by
  unfold execFwStandbyReady
  repeat' first
    | (with_reducible assumption) | (with_reducible apply outKept_next) | (with_reducible apply fwSignal_kept)
    | (with_reducible apply outKept_ite)

theorem execHandoverActivate_kept {s : State} (h : Kept n m q o s) :
    OutKept n m q o (execHandoverActivate s) := by
  unfold execHandoverActivate
  repeat' first
    | (with_reducible assumption) | (with_reducible apply outKept_next) | (with_reducible apply reachCount_kept)
    | (with_reducible apply wbit_kept) | (with_reducible apply exchange_kept) | (with_reducible apply State_setPair_kept)
    | (with_reducible apply State_setHo_kept) | (with_reducible apply outKept_ite) | (with_reducible refine kept_parts ?_ rfl rfl rfl rfl)
    | (simp only [kept_mk_iff])

theorem execHandoverRequest_kept (tag : Nat) (boundary : Nat) (tick : Nat) {s : State} (h : Kept n m q o s) :
    OutKept n m q o (execHandoverRequest tag boundary tick s) := by
  unfold execHandoverRequest
  repeat' first
    | (with_reducible assumption) | (with_reducible apply outKept_next) | (with_reducible apply tagged_kept)
    | (with_reducible apply hoRequest_kept)

theorem execHandoverSaving_kept {s : State} (h : Kept n m q o s) :
    OutKept n m q o (execHandoverSaving s) := by
  unfold execHandoverSaving
  repeat' first
    | (with_reducible assumption) | (with_reducible apply outKept_next) | (with_reducible apply State_setHo_kept)
    | (with_reducible apply reachCount_kept) | (with_reducible apply outKept_ite)

theorem execLaneFault_kept (c : Nat) (k : Nat) {s : State} (h : Kept n m q o s) :
    OutKept n m q o (execLaneFault c k s) := by
  unfold execLaneFault
  repeat' first
    | (with_reducible assumption) | (with_reducible apply outKept_next) | (with_reducible apply laneFault_kept)
    | (with_reducible apply outKept_ite)

theorem execMainMoverParity_kept {s : State} (h : Kept n m q o s) :
    OutKept n m q o (execMainMoverParity s) := by
  unfold execMainMoverParity
  repeat' first
    | (with_reducible assumption) | (with_reducible apply outKept_next) | (with_reducible apply moverFallback_kept)
    | (with_reducible apply outKept_ite) | (with_reducible refine kept_parts ?_ rfl rfl rfl rfl) | (simp only [kept_mk_iff])

theorem execNvWordWrite_kept (kind : Nat) (tried : List Nat) (ok : Bool) {s : State} (h : Kept n m q o s) :
    OutKept n m q o (execNvWordWrite kind tried ok s) := by
  unfold execNvWordWrite
  repeat' first
    | (with_reducible assumption) | (with_reducible apply outKept_next) | (with_reducible apply nvCount_kept)
    | (with_reducible apply raise_kept) | (with_reducible apply kept_ite) | (with_reducible refine kept_foldl ?_ ?_; intro _ _ _)
    | (with_reducible refine kept_parts ?_ rfl rfl rfl rfl) | (simp only [kept_mk_iff])

theorem execPoweredHour_kept {s : State} (h : Kept n m q o s) :
    OutKept n m q o (execPoweredHour s) := by
  unfold execPoweredHour
  repeat' first
    | (with_reducible assumption) | (with_reducible apply outKept_next) | (with_reducible apply reachElapsed_kept)
    | (with_reducible apply checkForecast_kept) | (with_reducible apply outKept_ite)
    | (with_reducible refine kept_foldl ?_ ?_; intro _ _ _) | (with_reducible refine kept_parts ?_ rfl rfl rfl rfl)
    | (simp only [kept_mk_iff])

theorem execStandbyImageWrite_kept (role : Role) (image : List Byte) {s : State} (h : Kept n m q o s) :
    OutKept n m q o (execStandbyImageWrite role image s) := by
  unfold execStandbyImageWrite
  repeat' first
    | (with_reducible assumption) | (with_reducible apply outKept_next) | (with_reducible apply answer_kept)
    | (with_reducible apply notTenant_kept) | (with_reducible apply standbyImage_kept)

/-! ## CmdTimeline -/

theorem countGuard_kept {s : State} (p : Nat) (h : Kept n m q o s) :
    Kept n m q o (countGuard s p) := by
  unfold countGuard
  repeat' first | (with_reducible assumption) | (with_reducible apply State_setFe_kept)

theorem guardEndPath_kept {s : State} (p : Nat) (h : Kept n m q o s) :
    Kept n m q o (guardEndPath s p) := by
  unfold guardEndPath
  repeat' first
    | (with_reducible assumption) | (with_reducible apply endTxn_kept) | (with_reducible apply raise_kept)
    | (with_reducible apply bump_kept) | (with_reducible apply finishTurn_kept) | (with_reducible apply startTurn_kept)
    | (with_reducible apply deferRetries_kept) | (with_reducible apply markSilent_kept) | (with_reducible apply State_setFe_kept)
    | (with_reducible apply kept_ite) | (simp only [kept_mk_iff]) | split

theorem guardCalDone_kept {s : State} (h : Kept n m q o s) :
    Kept n m q o (guardCalDone s) := by
  unfold guardCalDone
  repeat' first
    | (with_reducible assumption) | (with_reducible apply skipWindow_kept) | (with_reducible apply State_setTop_kept)
    | (with_reducible apply kept_ite) | (with_reducible refine kept_foldl ?_ ?_; intro _ _ _)

theorem execGuardEnd_kept {s : State} (h : Kept n m q o s) :
    OutKept n m q o (execGuardEnd s) := by
  unfold execGuardEnd
  repeat' first
    | (with_reducible assumption) | (with_reducible apply outKept_next) | (with_reducible apply reachCount_kept)
    | (with_reducible apply guardEndPath_kept) | (with_reducible apply guardCalDone_kept) | (with_reducible apply outKept_ite)
    | (with_reducible refine kept_foldl ?_ ?_; intro _ _ _) | (simp only [kept_mk_iff]) | split

theorem execPatternEntryBoundary_kept {s : State} (h : Kept n m q o s) :
    OutKept n m q o (execPatternEntryBoundary s) := by
  unfold execPatternEntryBoundary
  repeat' first
    | (with_reducible assumption) | (with_reducible apply outKept_next) | (with_reducible apply toBoundary_kept)
    | (with_reducible apply enterPathState_kept) | (with_reducible apply countGuard_kept) | (with_reducible apply outKept_ite)
    | (with_reducible apply kept_ite) | (with_reducible refine kept_foldl ?_ ?_; intro _ _ _)

theorem execPtpCorrectionRequest_kept (quarterNs : Int) {s : State} (h : Kept n m q o s) :
    OutKept n m q o (execPtpCorrectionRequest quarterNs s) := by
  unfold execPtpCorrectionRequest
  repeat' first | (with_reducible assumption) | (with_reducible apply outKept_next) | (with_reducible apply timeCorrection_kept)

theorem execTimelineStepApply_kept {s : State} (h : Kept n m q o s) :
    OutKept n m q o (execTimelineStepApply s) := by
  unfold execTimelineStepApply
  repeat' first
    | (with_reducible assumption) | (with_reducible apply outKept_next) | (with_reducible apply reachCount_kept)
    | (with_reducible apply takeAgain_kept) | (with_reducible apply wbit_kept) | (with_reducible apply stepCount_kept)
    | (with_reducible apply requestSync_kept) | (with_reducible apply outKept_ite) | (with_reducible refine kept_parts ?_ rfl rfl rfl rfl)
    | (simp only [kept_mk_iff]) | split

theorem execTlNowLoRead_kept {s : State} (h : Kept n m q o s) :
    OutKept n m q o (execTlNowLoRead s) := by
  unfold execTlNowLoRead
  repeat' first
    | (with_reducible assumption) | (with_reducible apply outKept_next) | (with_reducible apply emit_kept)
    | (with_reducible apply wr_kept)

/-! ## CmdTx -/

theorem State_configAt_kept {s : State} (c : Nat) (h : Kept n m q o s) :
    Kept n m q o (State.configAt s c) := by
  unfold State.configAt
  repeat' first | (with_reducible assumption) | (with_reducible apply overlay_kept) | (with_reducible apply kept_ite) | split

theorem State_setAir_kept {s : State} (p : Nat) (a : AirPath) (h : Kept n m q o s) :
    Kept n m q o (State.setAir s p a) := by
  unfold State.setAir
  repeat' first | (with_reducible assumption) | (with_reducible refine kept_parts ?_ rfl rfl rfl rfl) | (simp only [kept_mk_iff])

theorem reportStream_kept {s : State} (p : Nat) (h : Kept n m q o s) :
    Kept n m q o (reportStream s p) := by
  unfold reportStream
  repeat' first
    | (with_reducible assumption) | (with_reducible apply State_setAir_kept) | (with_reducible apply bump_kept)
    | (with_reducible apply raise_kept) | (with_reducible apply kept_ite) | (with_reducible refine kept_foldl ?_ ?_; intro _ _ _)

theorem slotDone_kept {s : State} (p : Nat) (len : Nat) (cal : List Cplx) (h : Kept n m q o s) :
    Kept n m q o (slotDone s p len cal) := by
  unfold slotDone
  repeat' first
    | (with_reducible assumption) | (with_reducible apply reportStream_kept) | (with_reducible apply raise_kept)
    | (with_reducible apply State_setAir_kept) | (with_reducible apply kept_ite) | (with_reducible refine kept_parts ?_ rfl rfl rfl rfl)
    | (simp only [kept_mk_iff])

theorem execSlotBoundary_kept (p : Nat) (x1 : Unit) (x2 : Unit) (x3 : Unit) (x4 : Unit) (x5 : Unit) (cal : List Cplx) {s : State} (h : Kept n m q o s) :
    OutKept n m q o (execSlotBoundary p x1 x2 x3 x4 x5 cal s) := by
  unfold execSlotBoundary
  repeat' first
    | (with_reducible assumption) | (with_reducible apply outKept_next) | (with_reducible apply toSlot_kept)
    | (with_reducible apply slotDone_kept) | (with_reducible apply outKept_ite)

theorem queueSymbol_kept {s : State} (p : Nat) (cc : Nat) (y : TxSym) (h : Kept n m q o s) :
    Kept n m q o (queueSymbol s p cc y) := by
  unfold queueSymbol
  repeat' first | (with_reducible assumption) | (with_reducible refine kept_parts ?_ rfl rfl rfl rfl) | (simp only [kept_mk_iff])

theorem execTxSymbolRead_kept (p : Nat) (cc : Nat) (late : List Nat) {s : State} (h : Kept n m q o s) :
    OutKept n m q o (execTxSymbolRead p cc late s) := by
  unfold execTxSymbolRead
  repeat' first
    | (with_reducible assumption) | (with_reducible apply outKept_next) | (with_reducible apply toBoundary_kept)
    | (with_reducible apply queueSymbol_kept) | (with_reducible apply raise_kept) | (with_reducible apply setFlag_kept)
    | (with_reducible apply bump_kept) | (with_reducible apply wbit_kept) | (with_reducible apply reportStream_kept)
    | (with_reducible apply outKept_ite) | (with_reducible apply kept_ite) | (with_reducible refine kept_parts ?_ rfl rfl rfl rfl)
    | (simp only [kept_mk_iff])

end Sys2Proof.Machine
end

