-- ==== Sys2Proof/Laws/KeptExec.lean ====
section
/-! SUPPORT. What each command, and an idle tick, passes `Kept` through. -/

namespace Sys2Proof.Machine

variable {n m : Nat} {q : List Instr} {o : List OutMsg}

theorem exec_registerWrite_kept (x0 : Master) (x1 : Nat) (x2 : Nat) (x3 : Nat) {s : State} (h : Kept n m q o s) : OutKept n m q o (exec (.registerWrite x0 x1 x2 x3) s) := by
  rw [exec_registerWrite]; exact execRegisterWrite_kept x0 x1 x2 x3 h

theorem exec_sramAccess_kept (x0 : Nat) (x1 : Nat) (x2 : Nat) (x3 : Nat) (x4 : Option (List Byte)) (x5 : List Nat) (x6 : List Nat) {s : State} (h : Kept n m q o s) : OutKept n m q o (exec (.sramAccess x0 x1 x2 x3 x4 x5 x6) s) := by
  rw [exec_sramAccess]; exact execSramAccess_kept x0 x1 x2 x3 x4 x5 x6 h

theorem exec_arbitrationPhase_kept (x0 : Nat) (x1 : List Nat) (x2 : Nat) {s : State} (h : Kept n m q o s) : OutKept n m q o (exec (.arbitrationPhase x0 x1 x2) s) := by
  rw [exec_arbitrationPhase]; exact execArbitrationPhase_kept x0 x1 x2 h

theorem exec_crossingPulse_kept (x0 : Nat) (x1 : Nat) (x2 : Nat) {s : State} (h : Kept n m q o s) : OutKept n m q o (exec (.crossingPulse x0 x1 x2) s) := by
  rw [exec_crossingPulse]; exact execCrossingPulse_kept x0 x1 x2 h

theorem exec_crossingWakeRequest_kept (x0 : Nat) {s : State} (h : Kept n m q o s) : OutKept n m q o (exec (.crossingWakeRequest x0) s) := by
  rw [exec_crossingWakeRequest]; exact execCrossingWakeRequest_kept x0 h

theorem exec_islandResetCommand_kept (x0 : Nat) (x1 : List Nat) {s : State} (h : Kept n m q o s) : OutKept n m q o (exec (.islandResetCommand x0 x1) s) := by
  rw [exec_islandResetCommand]; exact execIslandResetCommand_kept x0 x1 h

theorem exec_lockstepFault_kept (x0 : Nat) {s : State} (h : Kept n m q o s) : OutKept n m q o (exec (.lockstepFault x0) s) := by
  rw [exec_lockstepFault]; exact execLockstepFault_kept x0 h

theorem exec_pairPromotion_kept {s : State} (h : Kept n m q o s) : OutKept n m q o (exec (.pairPromotion) s) := by
  rw [exec_pairPromotion]; exact execPairPromotion_kept h

theorem exec_lostFlagClear_kept (x0 : Role) (x1 : Nat) (x2 : Nat) {s : State} (h : Kept n m q o s) : OutKept n m q o (exec (.lostFlagClear x0 x1 x2) s) := by
  rw [exec_lostFlagClear]; exact execLostFlagClear_kept x0 x1 x2 h

theorem exec_ptpCorrectionRequest_kept (x0 : Int) {s : State} (h : Kept n m q o s) : OutKept n m q o (exec (.ptpCorrectionRequest x0) s) := by
  rw [exec_ptpCorrectionRequest]; exact execPtpCorrectionRequest_kept x0 h

theorem exec_timelineStepApply_kept {s : State} (h : Kept n m q o s) : OutKept n m q o (exec (.timelineStepApply) s) := by
  rw [exec_timelineStepApply]; exact execTimelineStepApply_kept h

theorem exec_tlNowLoRead_kept {s : State} (h : Kept n m q o s) : OutKept n m q o (exec (.tlNowLoRead) s) := by
  rw [exec_tlNowLoRead]; exact execTlNowLoRead_kept h

theorem exec_patternEntryBoundary_kept {s : State} (h : Kept n m q o s) : OutKept n m q o (exec (.patternEntryBoundary) s) := by
  rw [exec_patternEntryBoundary]; exact execPatternEntryBoundary_kept h

theorem exec_turnaroundStep_kept (x0 : Nat) {s : State} (h : Kept n m q o s) : OutKept n m q o (exec (.turnaroundStep x0) s) := by
  rw [exec_turnaroundStep]; exact execTurnaroundStep_kept x0 h

theorem exec_guardEnd_kept {s : State} (h : Kept n m q o s) : OutKept n m q o (exec (.guardEnd) s) := by
  rw [exec_guardEnd]; exact execGuardEnd_kept h

theorem exec_bdacStrobe_kept (x0 : Nat) {s : State} (h : Kept n m q o s) : OutKept n m q o (exec (.bdacStrobe x0) s) := by
  rw [exec_bdacStrobe]; exact execBdacStrobe_kept x0 h

theorem exec_weightHandover_kept (x0 : Nat) {s : State} (h : Kept n m q o s) : OutKept n m q o (exec (.weightHandover x0) s) := by
  rw [exec_weightHandover]; exact execWeightHandover_kept x0 h

theorem exec_tileStart_kept (x0 : Nat) {s : State} (h : Kept n m q o s) : OutKept n m q o (exec (.tileStart x0) s) := by
  rw [exec_tileStart]; exact execTileStart_kept x0 h

theorem exec_captureOpen_kept (x0 : Nat) {s : State} (h : Kept n m q o s) : OutKept n m q o (exec (.captureOpen x0) s) := by
  rw [exec_captureOpen]; exact execCaptureOpen_kept x0 h

theorem exec_dmaStart_kept (x0 : Nat) {s : State} (h : Kept n m q o s) : OutKept n m q o (exec (.dmaStart x0) s) := by
  rw [exec_dmaStart]; exact execDmaStart_kept x0 h

theorem exec_sync_kept (x0 : Nat) {s : State} (h : Kept n m q o s) : OutKept n m q o (exec (.sync x0) s) := by
  rw [exec_sync]; exact execSync_kept x0 h

theorem exec_loHop_kept (x0 : Nat) {s : State} (h : Kept n m q o s) : OutKept n m q o (exec (.loHop x0) s) := by
  rw [exec_loHop]; exact execLoHop_kept x0 h

theorem exec_loTune_kept (x0 : Nat) {s : State} (h : Kept n m q o s) : OutKept n m q o (exec (.loTune x0) s) := by
  rw [exec_loTune]; exact execLoTune_kept x0 h

theorem exec_feSerial_kept (x0 : Nat) {s : State} (h : Kept n m q o s) : OutKept n m q o (exec (.feSerial x0) s) := by
  rw [exec_feSerial]; exact execFeSerial_kept x0 h

theorem exec_orxVisit_kept (x0 : Nat) {s : State} (h : Kept n m q o s) : OutKept n m q o (exec (.orxVisit x0) s) := by
  rw [exec_orxVisit]; exact execOrxVisit_kept x0 h

theorem exec_calWindow_kept (x0 : Nat) {s : State} (h : Kept n m q o s) : OutKept n m q o (exec (.calWindow x0) s) := by
  rw [exec_calWindow]; exact execCalWindow_kept x0 h

theorem exec_commit_kept (x0 : DHdr) (x1 : Nat) (x2 : Nat) {s : State} (h : Kept n m q o s) : OutKept n m q o (exec (.commit x0 x1 x2) s) := by
  rw [exec_commit]; exact execCommit_kept x0 x1 x2 h

theorem exec_admissionResult_kept {s : State} (h : Kept n m q o s) : OutKept n m q o (exec (.admissionResult) s) := by
  rw [exec_admissionResult]; exact execAdmissionResult_kept h

theorem exec_commitBoundary_kept {s : State} (h : Kept n m q o s) : OutKept n m q o (exec (.commitBoundary) s) := by
  rw [exec_commitBoundary]; exact execCommitBoundary_kept h

theorem exec_abort_kept (x0 : DHdr) {s : State} (h : Kept n m q o s) : OutKept n m q o (exec (.abort x0) s) := by
  rw [exec_abort]; exact execAbort_kept x0 h

theorem exec_capacityLossReadmission_kept {s : State} (h : Kept n m q o s) : OutKept n m q o (exec (.capacityLossReadmission) s) := by
  rw [exec_capacityLossReadmission]; exact execCapacityLossReadmission_kept h

theorem exec_carrierDropRemoval_kept {s : State} (h : Kept n m q o s) : OutKept n m q o (exec (.carrierDropRemoval) s) := by
  rw [exec_carrierDropRemoval]; exact execCarrierDropRemoval_kept h

theorem exec_loSynEnable_kept (x0 : Nat) {s : State} (h : Kept n m q o s) : OutKept n m q o (exec (.loSynEnable x0) s) := by
  rw [exec_loSynEnable]; exact execLoSynEnable_kept x0 h

theorem exec_loSynDisable_kept (x0 : Nat) {s : State} (h : Kept n m q o s) : OutKept n m q o (exec (.loSynDisable x0) s) := by
  rw [exec_loSynDisable]; exact execLoSynDisable_kept x0 h

theorem exec_vcoCalibrationDone_kept (x0 : Nat) {s : State} (h : Kept n m q o s) : OutKept n m q o (exec (.vcoCalibrationDone x0) s) := by
  rw [exec_vcoCalibrationDone]; exact execVcoCalibrationDone_kept x0 h

theorem exec_synLockAchieved_kept (x0 : Nat) {s : State} (h : Kept n m q o s) : OutKept n m q o (exec (.synLockAchieved x0) s) := by
  rw [exec_synLockAchieved]; exact execSynLockAchieved_kept x0 h

theorem exec_synSettleTimeout_kept (x0 : Nat) {s : State} (h : Kept n m q o s) : OutKept n m q o (exec (.synSettleTimeout x0) s) := by
  rw [exec_synSettleTimeout]; exact execSynSettleTimeout_kept x0 h

theorem exec_synLockLoss_kept (x0 : Nat) {s : State} (h : Kept n m q o s) : OutKept n m q o (exec (.synLockLoss x0) s) := by
  rw [exec_synLockLoss]; exact execSynLockLoss_kept x0 h

theorem exec_refclkLoss_kept (x0 : Nat) {s : State} (h : Kept n m q o s) : OutKept n m q o (exec (.refclkLoss x0) s) := by
  rw [exec_refclkLoss]; exact execRefclkLoss_kept x0 h

theorem exec_refclkRecovery_kept (x0 : List Nat) {s : State} (h : Kept n m q o s) : OutKept n m q o (exec (.refclkRecovery x0) s) := by
  rw [exec_refclkRecovery]; exact execRefclkRecovery_kept x0 h

theorem exec_hopResyncPulse_kept {s : State} (h : Kept n m q o s) : OutKept n m q o (exec (.hopResyncPulse) s) := by
  rw [exec_hopResyncPulse]; exact execHopResyncPulse_kept h

theorem exec_hopDividerCheck_kept (x0 : List Nat) {s : State} (h : Kept n m q o s) : OutKept n m q o (exec (.hopDividerCheck x0) s) := by
  rw [exec_hopDividerCheck]; exact execHopDividerCheck_kept x0 h

theorem exec_hopComplete_kept {s : State} (h : Kept n m q o s) : OutKept n m q o (exec (.hopComplete) s) := by
  rw [exec_hopComplete]; exact execHopComplete_kept h

theorem exec_dividerResync_kept {s : State} (h : Kept n m q o s) : OutKept n m q o (exec (.dividerResync) s) := by
  rw [exec_dividerResync]; exact execDividerResync_kept h

theorem exec_txSymbolStart_kept (x0 : Nat) (x1 : Nat) {s : State} (h : Kept n m q o s) : OutKept n m q o (exec (.txSymbolStart x0 x1) s) := by
  rw [exec_txSymbolStart]; exact execTxSymbolStart_kept x0 x1 h

theorem exec_forcedRetune_kept (x0 : Role) (x1 : Nat) (x2 : Nat) (x3 : Nat) {s : State} (h : Kept n m q o s) : OutKept n m q o (exec (.forcedRetune x0 x1 x2 x3) s) := by
  rw [exec_forcedRetune]; exact execForcedRetune_kept x0 x1 x2 x3 h

theorem exec_lnaBypass_kept (x0 : Nat) {s : State} (h : Kept n m q o s) : OutKept n m q o (exec (.lnaBypass x0) s) := by
  rw [exec_lnaBypass]; exact execLnaBypass_kept x0 h

theorem exec_lnaReturn_kept (x0 : Nat) {s : State} (h : Kept n m q o s) : OutKept n m q o (exec (.lnaReturn x0) s) := by
  rw [exec_lnaReturn]; exact execLnaReturn_kept x0 h

theorem exec_overloadAssert_kept (x0 : Nat) {s : State} (h : Kept n m q o s) : OutKept n m q o (exec (.overloadAssert x0) s) := by
  rw [exec_overloadAssert]; exact execOverloadAssert_kept x0 h

theorem exec_strapSample_kept (x0 : List Nat) (x1 : List Nat) {s : State} (h : Kept n m q o s) : OutKept n m q o (exec (.strapSample x0 x1) s) := by
  rw [exec_strapSample]; exact execStrapSample_kept x0 x1 h

theorem exec_resetPhaseEnd_kept {s : State} (h : Kept n m q o s) : OutKept n m q o (exec (.resetPhaseEnd) s) := by
  rw [exec_resetPhaseEnd]; exact execResetPhaseEnd_kept h

theorem exec_serialTransaction_kept (x0 : Nat) (x1 : Bool) {s : State} (h : Kept n m q o s) : OutKept n m q o (exec (.serialTransaction x0 x1) s) := by
  rw [exec_serialTransaction]; exact execSerialTransaction_kept x0 x1 h

theorem exec_serialTransactionDone_kept (x0 : Nat) (x1 : List Bool) (x2 : List Byte) {s : State} (h : Kept n m q o s) : OutKept n m q o (exec (.serialTransactionDone x0 x1 x2) s) := by
  rw [exec_serialTransactionDone]; exact execSerialTransactionDone_kept x0 x1 x2 h

theorem exec_rotationStepEnd_kept (x0 : Nat) (x1 : SliceEst) {s : State} (h : Kept n m q o s) : OutKept n m q o (exec (.rotationStepEnd x0 x1) s) := by
  rw [exec_rotationStepEnd]; exact execRotationStepEnd_kept x0 x1 h

theorem exec_sliceSwap_kept (x0 : Nat) {s : State} (h : Kept n m q o s) : OutKept n m q o (exec (.sliceSwap x0) s) := by
  rw [exec_sliceSwap]; exact execSliceSwap_kept x0 h

theorem exec_stuckSliceDetect_kept (x0 : Nat) (x1 : Nat) {s : State} (h : Kept n m q o s) : OutKept n m q o (exec (.stuckSliceDetect x0 x1) s) := by
  rw [exec_stuckSliceDetect]; exact execStuckSliceDetect_kept x0 x1 h

theorem exec_emergencySwap_kept (x0 : Nat) (x1 : Nat) {s : State} (h : Kept n m q o s) : OutKept n m q o (exec (.emergencySwap x0 x1) s) := by
  rw [exec_emergencySwap]; exact execEmergencySwap_kept x0 x1 h

theorem exec_dacDwellStart_kept (x0 : Nat) {s : State} (h : Kept n m q o s) : OutKept n m q o (exec (.dacDwellStart x0) s) := by
  rw [exec_dacDwellStart]; exact execDacDwellStart_kept x0 h

theorem exec_dacDwellEnd_kept (x0 : Nat) (x1 : Nat) (x2 : Int) (x3 : Bool) {s : State} (h : Kept n m q o s) : OutKept n m q o (exec (.dacDwellEnd x0 x1 x2 x3) s) := by
  rw [exec_dacDwellEnd]; exact execDacDwellEnd_kept x0 x1 x2 x3 h

theorem exec_orxVisitEnd_kept (x0 : Nat) {s : State} (h : Kept n m q o s) : OutKept n m q o (exec (.orxVisitEnd x0) s) := by
  rw [exec_orxVisitEnd]; exact execOrxVisitEnd_kept x0 h

theorem exec_bestEffortVisit_kept (x0 : Nat) (x1 : Nat) (x2 : Nat) {s : State} (h : Kept n m q o s) : OutKept n m q o (exec (.bestEffortVisit x0 x1 x2) s) := by
  rw [exec_bestEffortVisit]; exact execBestEffortVisit_kept x0 x1 x2 h

theorem exec_orxFailure_kept (x0 : Nat) {s : State} (h : Kept n m q o s) : OutKept n m q o (exec (.orxFailure x0) s) := by
  rw [exec_orxFailure]; exact execOrxFailure_kept x0 h

theorem exec_captureDrainComplete_kept (x0 : Nat) (x1 : List Cplx) (x2 : List Cplx) (x3 : Bool) {s : State} (h : Kept n m q o s) : OutKept n m q o (exec (.captureDrainComplete x0 x1 x2 x3) s) := by
  rw [exec_captureDrainComplete]; exact execCaptureDrainComplete_kept x0 x1 x2 x3 h

theorem exec_captureRelease_kept (x0 : Nat) (x1 : Nat) (x2 : Nat) {s : State} (h : Kept n m q o s) : OutKept n m q o (exec (.captureRelease x0 x1 x2) s) := by
  rw [exec_captureRelease]; exact execCaptureRelease_kept x0 x1 x2 h

theorem exec_syncPinEdge_kept (x0 : Nat) {s : State} (h : Kept n m q o s) : OutKept n m q o (exec (.syncPinEdge x0) s) := by
  rw [exec_syncPinEdge]; exact execSyncPinEdge_kept x0 h

theorem exec_syncNow_kept (x0 : Nat) {s : State} (h : Kept n m q o s) : OutKept n m q o (exec (.syncNow x0) s) := by
  rw [exec_syncNow]; exact execSyncNow_kept x0 h

theorem exec_syncRequestObject_kept (x0 : Role) (x1 : Nat) {s : State} (h : Kept n m q o s) : OutKept n m q o (exec (.syncRequestObject x0 x1) s) := by
  rw [exec_syncRequestObject]; exact execSyncRequestObject_kept x0 x1 h

theorem exec_syncTakeEffect_kept {s : State} (h : Kept n m q o s) : OutKept n m q o (exec (.syncTakeEffect) s) := by
  rw [exec_syncTakeEffect]; exact execSyncTakeEffect_kept h

theorem exec_syncFillEnd_kept (x0 : Nat) {s : State} (h : Kept n m q o s) : OutKept n m q o (exec (.syncFillEnd x0) s) := by
  rw [exec_syncFillEnd]; exact execSyncFillEnd_kept x0 h

theorem exec_fastPathEstimate_kept (x0 : Nat) (x1 : List Int) (x2 : List Int) (x3 : Nat) (x4 : Nat) {s : State} (h : Kept n m q o s) : OutKept n m q o (exec (.fastPathEstimate x0 x1 x2 x3 x4) s) := by
  rw [exec_fastPathEstimate]; exact execFastPathEstimate_kept x0 x1 x2 x3 x4 h

theorem exec_agcRelease_kept (x0 : Nat) {s : State} (h : Kept n m q o s) : OutKept n m q o (exec (.agcRelease x0) s) := by
  rw [exec_agcRelease]; exact execAgcRelease_kept x0 h

theorem exec_limiterLnaReturn_kept (x0 : Nat) {s : State} (h : Kept n m q o s) : OutKept n m q o (exec (.limiterLnaReturn x0) s) := by
  rw [exec_limiterLnaReturn]; exact execLimiterLnaReturn_kept x0 h

theorem exec_rxFftWindowEnd_kept (x0 : Nat) (x1 : Nat) (x2 : List Int) (x3 : List Int) (x4 : Nat) {s : State} (h : Kept n m q o s) : OutKept n m q o (exec (.rxFftWindowEnd x0 x1 x2 x3 x4) s) := by
  rw [exec_rxFftWindowEnd]; exact execRxFftWindowEnd_kept x0 x1 x2 x3 x4 h

theorem exec_prachOccasion_kept (x0 : Nat) (x1 : Nat) (x2 : Nat) (x3 : List Cplx) (x4 : Nat) {s : State} (h : Kept n m q o s) : OutKept n m q o (exec (.prachOccasion x0 x1 x2 x3 x4) s) := by
  rw [exec_prachOccasion]; exact execPrachOccasion_kept x0 x1 x2 x3 x4 h

theorem exec_laneMoveRequest_kept (x0 : Nat) (x1 : Nat) (x2 : Nat) {s : State} (h : Kept n m q o s) : OutKept n m q o (exec (.laneMoveRequest x0 x1 x2) s) := by
  rw [exec_laneMoveRequest]; exact execLaneMoveRequest_kept x0 x1 x2 h

theorem exec_laneWarmStart_kept (x0 : Nat) {s : State} (h : Kept n m q o s) : OutKept n m q o (exec (.laneWarmStart x0) s) := by
  rw [exec_laneWarmStart]; exact execLaneWarmStart_kept x0 h

theorem exec_laneSwitch_kept (x0 : Nat) (x1 : Bool) {s : State} (h : Kept n m q o s) : OutKept n m q o (exec (.laneSwitch x0 x1) s) := by
  rw [exec_laneSwitch]; exact execLaneSwitch_kept x0 x1 h

theorem exec_coefficientRoll_kept {s : State} (h : Kept n m q o s) : OutKept n m q o (exec (.coefficientRoll) s) := by
  rw [exec_coefficientRoll]; exact execCoefficientRoll_kept h

theorem exec_coefficientWrite_kept (x0 : Nat) (x1 : Nat) (x2 : Nat) {s : State} (h : Kept n m q o s) : OutKept n m q o (exec (.coefficientWrite x0 x1 x2) s) := by
  rw [exec_coefficientWrite]; exact execCoefficientWrite_kept x0 x1 x2 h

theorem exec_txSymbolRead_kept (x0 : Nat) (x1 : Nat) (x2 : List Nat) {s : State} (h : Kept n m q o s) : OutKept n m q o (exec (.txSymbolRead x0 x1 x2) s) := by
  rw [exec_txSymbolRead]; exact execTxSymbolRead_kept x0 x1 x2 h

theorem exec_slotBoundary_kept (x0 : Nat) (x1 : Unit) (x2 : Unit) (x3 : Unit) (x4 : Unit) (x5 : Unit) (x6 : List Cplx) {s : State} (h : Kept n m q o s) : OutKept n m q o (exec (.slotBoundary x0 x1 x2 x3 x4 x5 x6) s) := by
  rw [exec_slotBoundary]; exact execSlotBoundary_kept x0 x1 x2 x3 x4 x5 x6 h

theorem exec_dlRunStart_kept (x0 : Nat) {s : State} (h : Kept n m q o s) : OutKept n m q o (exec (.dlRunStart x0) s) := by
  rw [exec_dlRunStart]; exact execDlRunStart_kept x0 h

theorem exec_ulRunStart_kept (x0 : Nat) {s : State} (h : Kept n m q o s) : OutKept n m q o (exec (.ulRunStart x0) s) := by
  rw [exec_ulRunStart]; exact execUlRunStart_kept x0 h

theorem exec_weightBlock_kept (x0 : Role) (x1 : List Byte) {s : State} (h : Kept n m q o s) : OutKept n m q o (exec (.weightBlock x0 x1) s) := by
  rw [exec_weightBlock]; exact execWeightBlock_kept x0 x1 h

theorem exec_weightVectorLand_kept (x0 : Bool) {s : State} (h : Kept n m q o s) : OutKept n m q o (exec (.weightVectorLand x0) s) := by
  rw [exec_weightVectorLand]; exact execWeightVectorLand_kept x0 h

theorem exec_ergDeclared_kept (x0 : Nat) {s : State} (h : Kept n m q o s) : OutKept n m q o (exec (.ergDeclared x0) s) := by
  rw [exec_ergDeclared]; exact execErgDeclared_kept x0 h

theorem exec_ergPathOff_kept (x0 : Nat) {s : State} (h : Kept n m q o s) : OutKept n m q o (exec (.ergPathOff x0) s) := by
  rw [exec_ergPathOff]; exact execErgPathOff_kept x0 h

theorem exec_ergResynthStart_kept {s : State} (h : Kept n m q o s) : OutKept n m q o (exec (.ergResynthStart) s) := by
  rw [exec_ergResynthStart]; exact execErgResynthStart_kept h

theorem exec_ergResynthDone_kept {s : State} (h : Kept n m q o s) : OutKept n m q o (exec (.ergResynthDone) s) := by
  rw [exec_ergResynthDone]; exact execErgResynthDone_kept h

theorem exec_healDeclare_kept (x0 : Nat) (x1 : Bool) (x2 : Nat) {s : State} (h : Kept n m q o s) : OutKept n m q o (exec (.healDeclare x0 x1 x2) s) := by
  rw [exec_healDeclare]; exact execHealDeclare_kept x0 x1 x2 h

theorem exec_healClear_kept (x0 : Nat) (x1 : Bool) (x2 : Nat) {s : State} (h : Kept n m q o s) : OutKept n m q o (exec (.healClear x0 x1 x2) s) := by
  rw [exec_healClear]; exact execHealClear_kept x0 x1 x2 h

theorem exec_ergPathRestored_kept (x0 : Nat) {s : State} (h : Kept n m q o s) : OutKept n m q o (exec (.ergPathRestored x0) s) := by
  rw [exec_ergPathRestored]; exact execErgPathRestored_kept x0 h

theorem exec_tileFail_kept (x0 : Nat) {s : State} (h : Kept n m q o s) : OutKept n m q o (exec (.tileFail x0) s) := by
  rw [exec_tileFail]; exact execTileFail_kept x0 h

theorem exec_tileSpareTakeover_kept {s : State} (h : Kept n m q o s) : OutKept n m q o (exec (.tileSpareTakeover) s) := by
  rw [exec_tileSpareTakeover]; exact execTileSpareTakeover_kept h

theorem exec_prachCombine_kept (x0 : Nat) {s : State} (h : Kept n m q o s) : OutKept n m q o (exec (.prachCombine x0) s) := by
  rw [exec_prachCombine]; exact execPrachCombine_kept x0 h

theorem exec_dpdThermalUpdate_kept (x0 : Nat) (x1 : Unit) (x2 : Unit) {s : State} (h : Kept n m q o s) : OutKept n m q o (exec (.dpdThermalUpdate x0 x1 x2) s) := by
  rw [exec_dpdThermalUpdate]; exact execDpdThermalUpdate_kept x0 x1 x2 h

theorem exec_dpdBankWrite_kept (x0 : Nat) (x1 : Nat) (x2 : Nat) {s : State} (h : Kept n m q o s) : OutKept n m q o (exec (.dpdBankWrite x0 x1 x2) s) := by
  rw [exec_dpdBankWrite]; exact execDpdBankWrite_kept x0 x1 x2 h

theorem exec_dpdHoRequest_kept (x0 : Nat) (x1 : Nat) (x2 : Nat) {s : State} (h : Kept n m q o s) : OutKept n m q o (exec (.dpdHoRequest x0 x1 x2) s) := by
  rw [exec_dpdHoRequest]; exact execDpdHoRequest_kept x0 x1 x2 h

theorem exec_dpdHoCheckDone_kept (x0 : Nat) {s : State} (h : Kept n m q o s) : OutKept n m q o (exec (.dpdHoCheckDone x0) s) := by
  rw [exec_dpdHoCheckDone]; exact execDpdHoCheckDone_kept x0 h

theorem exec_dpdRampStep_kept (x0 : Nat) {s : State} (h : Kept n m q o s) : OutKept n m q o (exec (.dpdRampStep x0) s) := by
  rw [exec_dpdRampStep]; exact execDpdRampStep_kept x0 h

theorem exec_dpdDivergenceWindow_kept (x0 : Nat) (x1 : List Cplx) (x2 : Nat) {s : State} (h : Kept n m q o s) : OutKept n m q o (exec (.dpdDivergenceWindow x0 x1 x2) s) := by
  rw [exec_dpdDivergenceWindow]; exact execDpdDivergenceWindow_kept x0 x1 x2 h

theorem exec_dpdProbationEnd_kept (x0 : Nat) {s : State} (h : Kept n m q o s) : OutKept n m q o (exec (.dpdProbationEnd x0) s) := by
  rw [exec_dpdProbationEnd]; exact execDpdProbationEnd_kept x0 h

theorem exec_dpdFallback_kept (x0 : Nat) {s : State} (h : Kept n m q o s) : OutKept n m q o (exec (.dpdFallback x0) s) := by
  rw [exec_dpdFallback]; exact execDpdFallback_kept x0 h

theorem exec_dpdIdentity_kept (x0 : Nat) {s : State} (h : Kept n m q o s) : OutKept n m q o (exec (.dpdIdentity x0) s) := by
  rw [exec_dpdIdentity]; exact execDpdIdentity_kept x0 h

theorem exec_dpdFallbackCheckEnd_kept (x0 : Nat) {s : State} (h : Kept n m q o s) : OutKept n m q o (exec (.dpdFallbackCheckEnd x0) s) := by
  rw [exec_dpdFallbackCheckEnd]; exact execDpdFallbackCheckEnd_kept x0 h

theorem exec_dpdReq_kept (x0 : Nat) (x1 : Nat) {s : State} (h : Kept n m q o s) : OutKept n m q o (exec (.dpdReq x0 x1) s) := by
  rw [exec_dpdReq]; exact execDpdReq_kept x0 x1 h

theorem exec_dpdJobStart_kept {s : State} (h : Kept n m q o s) : OutKept n m q o (exec (.dpdJobStart) s) := by
  rw [exec_dpdJobStart]; exact execDpdJobStart_kept h

theorem exec_nop_kept (x0 : GeC) {s : State} (h : Kept n m q o s) : OutKept n m q o (exec (.nop x0) s) := by
  rw [exec_nop]; exact execNop_kept x0 h

theorem exec_add_kept (x0 : GeC) {s : State} (h : Kept n m q o s) : OutKept n m q o (exec (.add x0) s) := by
  rw [exec_add]; exact execAdd_kept x0 h

theorem exec_sub_kept (x0 : GeC) {s : State} (h : Kept n m q o s) : OutKept n m q o (exec (.sub x0) s) := by
  rw [exec_sub]; exact execSub_kept x0 h

theorem exec_addh_kept (x0 : GeC) {s : State} (h : Kept n m q o s) : OutKept n m q o (exec (.addh x0) s) := by
  rw [exec_addh]; exact execAddh_kept x0 h

theorem exec_subh_kept (x0 : GeC) {s : State} (h : Kept n m q o s) : OutKept n m q o (exec (.subh x0) s) := by
  rw [exec_subh]; exact execSubh_kept x0 h

theorem exec_neg_kept (x0 : GeC) {s : State} (h : Kept n m q o s) : OutKept n m q o (exec (.neg x0) s) := by
  rw [exec_neg]; exact execNeg_kept x0 h

theorem exec_conj_kept (x0 : GeC) {s : State} (h : Kept n m q o s) : OutKept n m q o (exec (.conj x0) s) := by
  rw [exec_conj]; exact execConj_kept x0 h

theorem exec_swap_kept (x0 : GeC) {s : State} (h : Kept n m q o s) : OutKept n m q o (exec (.swap x0) s) := by
  rw [exec_swap]; exact execSwap_kept x0 h

theorem exec_shl_kept (x0 : GeC) {s : State} (h : Kept n m q o s) : OutKept n m q o (exec (.shl x0) s) := by
  rw [exec_shl]; exact execShl_kept x0 h

theorem exec_shr_kept (x0 : GeC) {s : State} (h : Kept n m q o s) : OutKept n m q o (exec (.shr x0) s) := by
  rw [exec_shr]; exact execShr_kept x0 h

theorem exec_mov_kept (x0 : GeC) {s : State} (h : Kept n m q o s) : OutKept n m q o (exec (.mov x0) s) := by
  rw [exec_mov]; exact execMov_kept x0 h

theorem exec_cmul_kept (x0 : GeC) {s : State} (h : Kept n m q o s) : OutKept n m q o (exec (.cmul x0) s) := by
  rw [exec_cmul]; exact execCmul_kept x0 h

theorem exec_mag2_kept (x0 : GeC) {s : State} (h : Kept n m q o s) : OutKept n m q o (exec (.mag2 x0) s) := by
  rw [exec_mag2]; exact execMag2_kept x0 h

theorem exec_iadd_kept (x0 : GeC) {s : State} (h : Kept n m q o s) : OutKept n m q o (exec (.iadd x0) s) := by
  rw [exec_iadd]; exact execIadd_kept x0 h

theorem exec_isub_kept (x0 : GeC) {s : State} (h : Kept n m q o s) : OutKept n m q o (exec (.isub x0) s) := by
  rw [exec_isub]; exact execIsub_kept x0 h

theorem exec_andOp_kept (x0 : GeC) {s : State} (h : Kept n m q o s) : OutKept n m q o (exec (.andOp x0) s) := by
  rw [exec_andOp]; exact execAndOp_kept x0 h

theorem exec_orOp_kept (x0 : GeC) {s : State} (h : Kept n m q o s) : OutKept n m q o (exec (.orOp x0) s) := by
  rw [exec_orOp]; exact execOrOp_kept x0 h

theorem exec_xorOp_kept (x0 : GeC) {s : State} (h : Kept n m q o s) : OutKept n m q o (exec (.xorOp x0) s) := by
  rw [exec_xorOp]; exact execXorOp_kept x0 h

theorem exec_ishl_kept (x0 : GeC) {s : State} (h : Kept n m q o s) : OutKept n m q o (exec (.ishl x0) s) := by
  rw [exec_ishl]; exact execIshl_kept x0 h

theorem exec_ishr_kept (x0 : GeC) {s : State} (h : Kept n m q o s) : OutKept n m q o (exec (.ishr x0) s) := by
  rw [exec_ishr]; exact execIshr_kept x0 h

theorem exec_icmp_kept (x0 : GeC) {s : State} (h : Kept n m q o s) : OutKept n m q o (exec (.icmp x0) s) := by
  rw [exec_icmp]; exact execIcmp_kept x0 h

theorem exec_clra_kept (x0 : GeC) {s : State} (h : Kept n m q o s) : OutKept n m q o (exec (.clra x0) s) := by
  rw [exec_clra]; exact execClra_kept x0 h

theorem exec_cmac4_kept (x0 : GeC) {s : State} (h : Kept n m q o s) : OutKept n m q o (exec (.cmac4 x0) s) := by
  rw [exec_cmac4]; exact execCmac4_kept x0 h

theorem exec_cmacb_kept (x0 : GeC) {s : State} (h : Kept n m q o s) : OutKept n m q o (exec (.cmacb x0) s) := by
  rw [exec_cmacb]; exact execCmacb_kept x0 h

theorem exec_cdot_kept (x0 : GeC) {s : State} (h : Kept n m q o s) : OutKept n m q o (exec (.cdot x0) s) := by
  rw [exec_cdot]; exact execCdot_kept x0 h

theorem exec_acca_kept (x0 : GeC) {s : State} (h : Kept n m q o s) : OutKept n m q o (exec (.acca x0) s) := by
  rw [exec_acca]; exact execAcca_kept x0 h

theorem exec_ashr_kept (x0 : GeC) {s : State} (h : Kept n m q o s) : OutKept n m q o (exec (.ashr x0) s) := by
  rw [exec_ashr]; exact execAshr_kept x0 h

theorem exec_mova_kept (x0 : GeC) {s : State} (h : Kept n m q o s) : OutKept n m q o (exec (.mova x0) s) := by
  rw [exec_mova]; exact execMova_kept x0 h

theorem exec_extr_kept (x0 : GeC) {s : State} (h : Kept n m q o s) : OutKept n m q o (exec (.extr x0) s) := by
  rw [exec_extr]; exact execExtr_kept x0 h

theorem exec_sat_kept (x0 : GeC) {s : State} (h : Kept n m q o s) : OutKept n m q o (exec (.sat x0) s) := by
  rw [exec_sat]; exact execSat_kept x0 h

theorem exec_norm_kept (x0 : GeC) {s : State} (h : Kept n m q o s) : OutKept n m q o (exec (.norm x0) s) := by
  rw [exec_norm]; exact execNorm_kept x0 h

theorem exec_expa_kept (x0 : GeC) {s : State} (h : Kept n m q o s) : OutKept n m q o (exec (.expa x0) s) := by
  rw [exec_expa]; exact execExpa_kept x0 h

theorem exec_exp_kept (x0 : GeC) {s : State} (h : Kept n m q o s) : OutKept n m q o (exec (.exp x0) s) := by
  rw [exec_exp]; exact execExp_kept x0 h

theorem exec_bexp_kept (x0 : GeC) {s : State} (h : Kept n m q o s) : OutKept n m q o (exec (.bexp x0) s) := by
  rw [exec_bexp]; exact execBexp_kept x0 h

theorem exec_bxadd_kept (x0 : GeC) {s : State} (h : Kept n m q o s) : OutKept n m q o (exec (.bxadd x0) s) := by
  rw [exec_bxadd]; exact execBxadd_kept x0 h

theorem exec_setbs_kept (x0 : GeC) {s : State} (h : Kept n m q o s) : OutKept n m q o (exec (.setbs x0) s) := by
  rw [exec_setbs]; exact execSetbs_kept x0 h

theorem exec_bfly_kept (x0 : GeC) {s : State} (h : Kept n m q o s) : OutKept n m q o (exec (.bfly x0) s) := by
  rw [exec_bfly]; exact execBfly_kept x0 h

theorem exec_mfr_kept (x0 : GeC) {s : State} (h : Kept n m q o s) : OutKept n m q o (exec (.mfr x0) s) := by
  rw [exec_mfr]; exact execMfr_kept x0 h

theorem exec_mtr_kept (x0 : GeC) {s : State} (h : Kept n m q o s) : OutKept n m q o (exec (.mtr x0) s) := by
  rw [exec_mtr]; exact execMtr_kept x0 h

theorem exec_ldW_kept (x0 : GeM) {s : State} (h : Kept n m q o s) : OutKept n m q o (exec (.ldW x0) s) := by
  rw [exec_ldW]; exact execLdW_kept x0 h

theorem exec_stW_kept (x0 : GeM) {s : State} (h : Kept n m q o s) : OutKept n m q o (exec (.stW x0) s) := by
  rw [exec_stW]; exact execStW_kept x0 h

theorem exec_ldD_kept (x0 : GeM) {s : State} (h : Kept n m q o s) : OutKept n m q o (exec (.ldD x0) s) := by
  rw [exec_ldD]; exact execLdD_kept x0 h

theorem exec_stD_kept (x0 : GeM) {s : State} (h : Kept n m q o s) : OutKept n m q o (exec (.stD x0) s) := by
  rw [exec_stD]; exact execStD_kept x0 h

theorem exec_ldH_kept (x0 : GeM) {s : State} (h : Kept n m q o s) : OutKept n m q o (exec (.ldH x0) s) := by
  rw [exec_ldH]; exact execLdH_kept x0 h

theorem exec_addi_kept (x0 : GeA) {s : State} (h : Kept n m q o s) : OutKept n m q o (exec (.addi x0) s) := by
  rw [exec_addi]; exact execAddi_kept x0 h

theorem exec_addm_kept (x0 : GeA) {s : State} (h : Kept n m q o s) : OutKept n m q o (exec (.addm x0) s) := by
  rw [exec_addm]; exact execAddm_kept x0 h

theorem exec_movp_kept (x0 : GeA) {s : State} (h : Kept n m q o s) : OutKept n m q o (exec (.movp x0) s) := by
  rw [exec_movp]; exact execMovp_kept x0 h

theorem exec_movm_kept (x0 : GeA) {s : State} (h : Kept n m q o s) : OutKept n m q o (exec (.movm x0) s) := by
  rw [exec_movm]; exact execMovm_kept x0 h

theorem exec_movb_kept (x0 : GeA) {s : State} (h : Kept n m q o s) : OutKept n m q o (exec (.movb x0) s) := by
  rw [exec_movb]; exact execMovb_kept x0 h

theorem exec_movl_kept (x0 : GeA) {s : State} (h : Kept n m q o s) : OutKept n m q o (exec (.movl x0) s) := by
  rw [exec_movl]; exact execMovl_kept x0 h

theorem exec_setm_kept (x0 : GeA) {s : State} (h : Kept n m q o s) : OutKept n m q o (exec (.setm x0) s) := by
  rw [exec_setm]; exact execSetm_kept x0 h

theorem exec_nopc_kept (x0 : GeK) {s : State} (h : Kept n m q o s) : OutKept n m q o (exec (.nopc x0) s) := by
  rw [exec_nopc]; exact execNopc_kept x0 h

theorem exec_jmp_kept (x0 : GeK) {s : State} (h : Kept n m q o s) : OutKept n m q o (exec (.jmp x0) s) := by
  rw [exec_jmp]; exact execJmp_kept x0 h

theorem exec_jz_kept (x0 : GeK) {s : State} (h : Kept n m q o s) : OutKept n m q o (exec (.jz x0) s) := by
  rw [exec_jz]; exact execJz_kept x0 h

theorem exec_jnz_kept (x0 : GeK) {s : State} (h : Kept n m q o s) : OutKept n m q o (exec (.jnz x0) s) := by
  rw [exec_jnz]; exact execJnz_kept x0 h

theorem exec_jn_kept (x0 : GeK) {s : State} (h : Kept n m q o s) : OutKept n m q o (exec (.jn x0) s) := by
  rw [exec_jn]; exact execJn_kept x0 h

theorem exec_jnn_kept (x0 : GeK) {s : State} (h : Kept n m q o s) : OutKept n m q o (exec (.jnn x0) s) := by
  rw [exec_jnn]; exact execJnn_kept x0 h

theorem exec_call_kept (x0 : GeK) {s : State} (h : Kept n m q o s) : OutKept n m q o (exec (.call x0) s) := by
  rw [exec_call]; exact execCall_kept x0 h

theorem exec_ret_kept (x0 : GeK) {s : State} (h : Kept n m q o s) : OutKept n m q o (exec (.ret x0) s) := by
  rw [exec_ret]; exact execRet_kept x0 h

theorem exec_loop0_kept (x0 : GeK) {s : State} (h : Kept n m q o s) : OutKept n m q o (exec (.loop0 x0) s) := by
  rw [exec_loop0]; exact execLoop0_kept x0 h

theorem exec_loop1_kept (x0 : GeK) {s : State} (h : Kept n m q o s) : OutKept n m q o (exec (.loop1 x0) s) := by
  rw [exec_loop1]; exact execLoop1_kept x0 h

theorem exec_loopr0_kept (x0 : GeK) {s : State} (h : Kept n m q o s) : OutKept n m q o (exec (.loopr0 x0) s) := by
  rw [exec_loopr0]; exact execLoopr0_kept x0 h

theorem exec_loopr1_kept (x0 : GeK) {s : State} (h : Kept n m q o s) : OutKept n m q o (exec (.loopr1 x0) s) := by
  rw [exec_loopr1]; exact execLoopr1_kept x0 h

theorem exec_ei_kept (x0 : GeK) {s : State} (h : Kept n m q o s) : OutKept n m q o (exec (.ei x0) s) := by
  rw [exec_ei]; exact execEi_kept x0 h

theorem exec_di_kept (x0 : GeK) {s : State} (h : Kept n m q o s) : OutKept n m q o (exec (.di x0) s) := by
  rw [exec_di]; exact execDi_kept x0 h

theorem exec_reti_kept (x0 : GeK) {s : State} (h : Kept n m q o s) : OutKept n m q o (exec (.reti x0) s) := by
  rw [exec_reti]; exact execReti_kept x0 h

theorem exec_xfer_kept (x0 : GeK) {s : State} (h : Kept n m q o s) : OutKept n m q o (exec (.xfer x0) s) := by
  rw [exec_xfer]; exact execXfer_kept x0 h

theorem exec_xwait_kept (x0 : GeK) {s : State} (h : Kept n m q o s) : OutKept n m q o (exec (.xwait x0) s) := by
  rw [exec_xwait]; exact execXwait_kept x0 h

theorem exec_done_kept (x0 : GeK) {s : State} (h : Kept n m q o s) : OutKept n m q o (exec (.done x0) s) := by
  rw [exec_done]; exact execDone_kept x0 h

theorem exec_yield_kept (x0 : GeK) {s : State} (h : Kept n m q o s) : OutKept n m q o (exec (.yield x0) s) := by
  rw [exec_yield]; exact execYield_kept x0 h

theorem exec_ldi_kept (x0 : GeK) (x1 : Nat) {s : State} (h : Kept n m q o s) : OutKept n m q o (exec (.ldi x0 x1) s) := by
  rw [exec_ldi]; exact execLdi_kept x0 x1 h

theorem exec_transferComplete_kept (x0 : Nat) (x1 : Nat) {s : State} (h : Kept n m q o s) : OutKept n m q o (exec (.transferComplete x0 x1) s) := by
  rw [exec_transferComplete]; exact execTransferComplete_kept x0 x1 h

theorem exec_interruptAccept_kept (x0 : Nat) {s : State} (h : Kept n m q o s) : OutKept n m q o (exec (.interruptAccept x0) s) := by
  rw [exec_interruptAccept]; exact execInterruptAccept_kept x0 h

theorem exec_geDoorbell_kept (x0 : Nat) (x1 : Nat) (x2 : Nat) {s : State} (h : Kept n m q o s) : OutKept n m q o (exec (.geDoorbell x0 x1 x2) s) := by
  rw [exec_geDoorbell]; exact execGeDoorbell_kept x0 x1 x2 h

theorem exec_gePost_kept (x0 : Nat) (x1 : Nat) (x2 : Nat) {s : State} (h : Kept n m q o s) : OutKept n m q o (exec (.gePost x0 x1 x2) s) := by
  rw [exec_gePost]; exact execGePost_kept x0 x1 x2 h

theorem exec_releaseEntryFire_kept (x0 : Nat) (x1 : Nat) {s : State} (h : Kept n m q o s) : OutKept n m q o (exec (.releaseEntryFire x0 x1) s) := by
  rw [exec_releaseEntryFire]; exact execReleaseEntryFire_kept x0 x1 h

theorem exec_jobStart_kept (x0 : Nat) {s : State} (h : Kept n m q o s) : OutKept n m q o (exec (.jobStart x0) s) := by
  rw [exec_jobStart]; exact execJobStart_kept x0 h

theorem exec_preemptLate_kept (x0 : Nat) {s : State} (h : Kept n m q o s) : OutKept n m q o (exec (.preemptLate x0) s) := by
  rw [exec_preemptLate]; exact execPreemptLate_kept x0 h

theorem exec_jobOverrun_kept (x0 : Nat) {s : State} (h : Kept n m q o s) : OutKept n m q o (exec (.jobOverrun x0) s) := by
  rw [exec_jobOverrun]; exact execJobOverrun_kept x0 h

theorem exec_geCplRead_kept (x0 : Nat) {s : State} (h : Kept n m q o s) : OutKept n m q o (exec (.geCplRead x0) s) := by
  rw [exec_geCplRead]; exact execGeCplRead_kept x0 h

theorem exec_engineRollMove_kept (x0 : Nat) {s : State} (h : Kept n m q o s) : OutKept n m q o (exec (.engineRollMove x0) s) := by
  rw [exec_engineRollMove]; exact execEngineRollMove_kept x0 h

theorem exec_baseReevaluation_kept {s : State} (h : Kept n m q o s) : OutKept n m q o (exec (.baseReevaluation) s) := by
  rw [exec_baseReevaluation]; exact execBaseReevaluation_kept h

theorem exec_traceGate_kept (x0 : Nat) (x1 : Int) (x2 : Int) {s : State} (h : Kept n m q o s) : OutKept n m q o (exec (.traceGate x0 x1 x2) s) := by
  rw [exec_traceGate]; exact execTraceGate_kept x0 x1 x2 h

theorem exec_topNoteWindow_kept (x0 : Nat) (x1 : TopMeas) {s : State} (h : Kept n m q o s) : OutKept n m q o (exec (.topNoteWindow x0 x1) s) := by
  rw [exec_topNoteWindow]; exact execTopNoteWindow_kept x0 x1 h

theorem exec_calHrxArm_kept (x0 : Nat) (x1 : Nat) {s : State} (h : Kept n m q o s) : OutKept n m q o (exec (.calHrxArm x0 x1) s) := by
  rw [exec_calHrxArm]; exact execCalHrxArm_kept x0 x1 h

theorem exec_heartInjection_kept {s : State} (h : Kept n m q o s) : OutKept n m q o (exec (.heartInjection) s) := by
  rw [exec_heartInjection]; exact execHeartInjection_kept h

theorem exec_heartSnapshot_kept {s : State} (h : Kept n m q o s) : OutKept n m q o (exec (.heartSnapshot) s) := by
  rw [exec_heartSnapshot]; exact execHeartSnapshot_kept h

theorem exec_heartRunComplete_kept (x0 : Nat) (x1 : Bool) (x2 : List HeartRes) {s : State} (h : Kept n m q o s) : OutKept n m q o (exec (.heartRunComplete x0 x1 x2) s) := by
  rw [exec_heartRunComplete]; exact execHeartRunComplete_kept x0 x1 x2 h

theorem exec_calRampStep_kept {s : State} (h : Kept n m q o s) : OutKept n m q o (exec (.calRampStep) s) := by
  rw [exec_calRampStep]; exact execCalRampStep_kept h

theorem exec_calItemStale_kept (x0 : Nat) (x1 : Nat) {s : State} (h : Kept n m q o s) : OutKept n m q o (exec (.calItemStale x0 x1) s) := by
  rw [exec_calItemStale]; exact execCalItemStale_kept x0 x1 h

theorem exec_foregroundRequest_kept (x0 : Option Role) (x1 : Nat) (x2 : Nat) (x3 : Nat) {s : State} (h : Kept n m q o s) : OutKept n m q o (exec (.foregroundRequest x0 x1 x2 x3) s) := by
  rw [exec_foregroundRequest]; exact execForegroundRequest_kept x0 x1 x2 x3 h

theorem exec_foregroundWindowTimeout_kept (x0 : Nat) {s : State} (h : Kept n m q o s) : OutKept n m q o (exec (.foregroundWindowTimeout x0) s) := by
  rw [exec_foregroundWindowTimeout]; exact execForegroundWindowTimeout_kept x0 h

theorem exec_serviceWindowStart_kept {s : State} (h : Kept n m q o s) : OutKept n m q o (exec (.serviceWindowStart) s) := by
  rw [exec_serviceWindowStart]; exact execServiceWindowStart_kept h

theorem exec_foregroundRunEnd_kept (x0 : Nat) (x1 : Bool) (x2 : List (Nat × CalMeas)) {s : State} (h : Kept n m q o s) : OutKept n m q o (exec (.foregroundRunEnd x0 x1 x2) s) := by
  rw [exec_foregroundRunEnd]; exact execForegroundRunEnd_kept x0 x1 x2 h

theorem exec_iqDataMessage_kept (x0 : LnkFrame) {s : State} (h : Kept n m q o s) : OutKept n m q o (exec (.iqDataMessage x0) s) := by
  rw [exec_iqDataMessage]; exact execIqDataMessage_kept x0 h

theorem exec_dlWindowClose_kept (x0 : Nat) {s : State} (h : Kept n m q o s) : OutKept n m q o (exec (.dlWindowClose x0) s) := by
  rw [exec_dlWindowClose]; exact execDlWindowClose_kept x0 h

theorem exec_ulSectionSend_kept (x0 : Bool) (x1 : Nat) {s : State} (h : Kept n m q o s) : OutKept n m q o (exec (.ulSectionSend x0 x1) s) := by
  rw [exec_ulSectionSend]; exact execUlSectionSend_kept x0 x1 h

theorem exec_realTimeControlMessage_kept (x0 : LnkFrame) {s : State} (h : Kept n m q o s) : OutKept n m q o (exec (.realTimeControlMessage x0) s) := by
  rw [exec_realTimeControlMessage]; exact execRealTimeControlMessage_kept x0 h

theorem exec_genericDataMessage_kept (x0 : LnkFrame) {s : State} (h : Kept n m q o s) : OutKept n m q o (exec (.genericDataMessage x0) s) := by
  rw [exec_genericDataMessage]; exact execGenericDataMessage_kept x0 h

theorem exec_captureStream_kept (x0 : Nat) {s : State} (h : Kept n m q o s) : OutKept n m q o (exec (.captureStream x0) s) := by
  rw [exec_captureStream]; exact execCaptureStream_kept x0 h

theorem exec_delayRequest_kept (x0 : LnkFrame) {s : State} (h : Kept n m q o s) : OutKept n m q o (exec (.delayRequest x0) s) := by
  rw [exec_delayRequest]; exact execDelayRequest_kept x0 h

theorem exec_requestWithFollowUp_kept (x0 : LnkFrame) {s : State} (h : Kept n m q o s) : OutKept n m q o (exec (.requestWithFollowUp x0) s) := by
  rw [exec_requestWithFollowUp]; exact execRequestWithFollowUp_kept x0 h

theorem exec_followUp_kept (x0 : LnkFrame) {s : State} (h : Kept n m q o s) : OutKept n m q o (exec (.followUp x0) s) := by
  rw [exec_followUp]; exact execFollowUp_kept x0 h

theorem exec_remoteRequest_kept (x0 : LnkFrame) {s : State} (h : Kept n m q o s) : OutKept n m q o (exec (.remoteRequest x0) s) := by
  rw [exec_remoteRequest]; exact execRemoteRequest_kept x0 h

theorem exec_eventIndicationSend_kept (x0 : Nat) {s : State} (h : Kept n m q o s) : OutKept n m q o (exec (.eventIndicationSend x0) s) := by
  rw [exec_eventIndicationSend]; exact execEventIndicationSend_kept x0 h

theorem exec_indicationAck_kept (x0 : LnkFrame) {s : State} (h : Kept n m q o s) : OutKept n m q o (exec (.indicationAck x0) s) := by
  rw [exec_indicationAck]; exact execIndicationAck_kept x0 h

theorem exec_indicationResend_kept (x0 : Nat) (x1 : Nat) {s : State} (h : Kept n m q o s) : OutKept n m q o (exec (.indicationResend x0 x1) s) := by
  rw [exec_indicationResend]; exact execIndicationResend_kept x0 x1 h

theorem exec_synchronisationRequest_kept (x0 : LnkFrame) {s : State} (h : Kept n m q o s) : OutKept n m q o (exec (.synchronisationRequest x0) s) := by
  rw [exec_synchronisationRequest]; exact execSynchronisationRequest_kept x0 h

theorem exec_portStateChange_kept (x0 : Nat) (x1 : Bool) (x2 : Bool) {s : State} (h : Kept n m q o s) : OutKept n m q o (exec (.portStateChange x0 x1 x2) s) := by
  rw [exec_portStateChange]; exact execPortStateChange_kept x0 x1 x2 h

theorem exec_sakInstall_kept (x0 : Nat) (x1 : Nat) {s : State} (h : Kept n m q o s) : OutKept n m q o (exec (.sakInstall x0 x1) s) := by
  rw [exec_sakInstall]; exact execSakInstall_kept x0 x1 h

theorem exec_ptpSyncInterval_kept (x0 : Int) {s : State} (h : Kept n m q o s) : OutKept n m q o (exec (.ptpSyncInterval x0) s) := by
  rw [exec_ptpSyncInterval]; exact execPtpSyncInterval_kept x0 h

theorem exec_ptpMasterChange_kept (x0 : Nat) (x1 : Nat) (x2 : Nat) {s : State} (h : Kept n m q o s) : OutKept n m q o (exec (.ptpMasterChange x0 x1 x2) s) := by
  rw [exec_ptpMasterChange]; exact execPtpMasterChange_kept x0 x1 x2 h

theorem exec_ptpHoldoverEntry_kept {s : State} (h : Kept n m q o s) : OutKept n m q o (exec (.ptpHoldoverEntry) s) := by
  rw [exec_ptpHoldoverEntry]; exact execPtpHoldoverEntry_kept h

theorem exec_synceSquelch_kept (x0 : Nat) {s : State} (h : Kept n m q o s) : OutKept n m q o (exec (.synceSquelch x0) s) := by
  rw [exec_synceSquelch]; exact execSynceSquelch_kept x0 h

theorem exec_synceResume_kept {s : State} (h : Kept n m q o s) : OutKept n m q o (exec (.synceResume) s) := by
  rw [exec_synceResume]; exact execSynceResume_kept h

theorem exec_esmcSend_kept (x0 : Nat) {s : State} (h : Kept n m q o s) : OutKept n m q o (exec (.esmcSend x0) s) := by
  rw [exec_esmcSend]; exact execEsmcSend_kept x0 h

theorem exec_esmcReceive_kept (x0 : Nat) {s : State} (h : Kept n m q o s) : OutKept n m q o (exec (.esmcReceive x0) s) := by
  rw [exec_esmcReceive]; exact execEsmcReceive_kept x0 h

theorem exec_ppsOutEdge_kept {s : State} (h : Kept n m q o s) : OutKept n m q o (exec (.ppsOutEdge) s) := by
  rw [exec_ppsOutEdge]; exact execPpsOutEdge_kept h

theorem exec_ppsInEdge_kept (x0 : Nat) {s : State} (h : Kept n m q o s) : OutKept n m q o (exec (.ppsInEdge x0) s) := by
  rw [exec_ppsInEdge]; exact execPpsInEdge_kept x0 h

theorem exec_lnkPpsInLoss_kept {s : State} (h : Kept n m q o s) : OutKept n m q o (exec (.lnkPpsInLoss) s) := by
  rw [exec_lnkPpsInLoss]; exact execLnkPpsInLoss_kept h

theorem exec_linkLaneFailure_kept (x0 : Nat) {s : State} (h : Kept n m q o s) : OutKept n m q o (exec (.linkLaneFailure x0) s) := by
  rw [exec_linkLaneFailure]; exact execLinkLaneFailure_kept x0 h

theorem exec_linkLaneTxMove_kept (x0 : Nat) {s : State} (h : Kept n m q o s) : OutKept n m q o (exec (.linkLaneTxMove x0) s) := by
  rw [exec_linkLaneTxMove]; exact execLinkLaneTxMove_kept x0 h

theorem exec_linkLaneRxMove_kept (x0 : Nat) {s : State} (h : Kept n m q o s) : OutKept n m q o (exec (.linkLaneRxMove x0) s) := by
  rw [exec_linkLaneRxMove]; exact execLinkLaneRxMove_kept x0 h

theorem exec_lnkLaneSpared_kept (x0 : Nat) (x1 : Nat) {s : State} (h : Kept n m q o s) : OutKept n m q o (exec (.lnkLaneSpared x0 x1) s) := by
  rw [exec_lnkLaneSpared]; exact execLnkLaneSpared_kept x0 x1 h

theorem exec_linkRealignTimeout_kept (x0 : Nat) {s : State} (h : Kept n m q o s) : OutKept n m q o (exec (.linkRealignTimeout x0) s) := by
  rw [exec_linkRealignTimeout]; exact execLinkRealignTimeout_kept x0 h

theorem exec_laneReturnToSpare_kept (x0 : Role) (x1 : Nat) {s : State} (h : Kept n m q o s) : OutKept n m q o (exec (.laneReturnToSpare x0 x1) s) := by
  rw [exec_laneReturnToSpare]; exact execLaneReturnToSpare_kept x0 x1 h

theorem exec_scrubPass_kept (x0 : List Nat) (x1 : List Nat) {s : State} (h : Kept n m q o s) : OutKept n m q o (exec (.scrubPass x0 x1) s) := by
  rw [exec_scrubPass]; exact execScrubPass_kept x0 x1 h

theorem exec_memRowRepaired_kept (x0 : Nat) (x1 : Nat) {s : State} (h : Kept n m q o s) : OutKept n m q o (exec (.memRowRepaired x0 x1) s) := by
  rw [exec_memRowRepaired]; exact execMemRowRepaired_kept x0 x1 h

theorem exec_bankMigrationStart_kept (x0 : Nat) {s : State} (h : Kept n m q o s) : OutKept n m q o (exec (.bankMigrationStart x0) s) := by
  rw [exec_bankMigrationStart]; exact execBankMigrationStart_kept x0 h

theorem exec_memBankSpared_kept (x0 : Nat) {s : State} (h : Kept n m q o s) : OutKept n m q o (exec (.memBankSpared x0) s) := by
  rw [exec_memBankSpared]; exact execMemBankSpared_kept x0 h

theorem exec_serviceBankSpare_kept (x0 : Role) (x1 : Nat) {s : State} (h : Kept n m q o s) : OutKept n m q o (exec (.serviceBankSpare x0 x1) s) := by
  rw [exec_serviceBankSpare]; exact execServiceBankSpare_kept x0 x1 h

theorem exec_memLock_kept (x0 : Nat) (x1 : Nat) {s : State} (h : Kept n m q o s) : OutKept n m q o (exec (.memLock x0 x1) s) := by
  rw [exec_memLock]; exact execMemLock_kept x0 x1 h

theorem exec_memLockRelease_kept (x0 : Nat) (x1 : Nat) {s : State} (h : Kept n m q o s) : OutKept n m q o (exec (.memLockRelease x0 x1) s) := by
  rw [exec_memLockRelease]; exact execMemLockRelease_kept x0 x1 h

theorem exec_memHoldFault_kept (x0 : Nat) {s : State} (h : Kept n m q o s) : OutKept n m q o (exec (.memHoldFault x0) s) := by
  rw [exec_memHoldFault]; exact execMemHoldFault_kept x0 h

theorem exec_dmaRingKick_kept (x0 : Nat) (x1 : Nat) (x2 : Nat) {s : State} (h : Kept n m q o s) : OutKept n m q o (exec (.dmaRingKick x0 x1 x2) s) := by
  rw [exec_dmaRingKick]; exact execDmaRingKick_kept x0 x1 x2 h

theorem exec_dmaDescriptor_kept (x0 : Nat) {s : State} (h : Kept n m q o s) : OutKept n m q o (exec (.dmaDescriptor x0) s) := by
  rw [exec_dmaDescriptor]; exact execDmaDescriptor_kept x0 h

theorem exec_dmaHalfCompletion_kept (x0 : Nat) {s : State} (h : Kept n m q o s) : OutKept n m q o (exec (.dmaHalfCompletion x0) s) := by
  rw [exec_dmaHalfCompletion]; exact execDmaHalfCompletion_kept x0 h

theorem exec_dmaRingDisable_kept (x0 : Nat) {s : State} (h : Kept n m q o s) : OutKept n m q o (exec (.dmaRingDisable x0) s) := by
  rw [exec_dmaRingDisable]; exact execDmaRingDisable_kept x0 h

theorem exec_mainMoverParity_kept {s : State} (h : Kept n m q o s) : OutKept n m q o (exec (.mainMoverParity) s) := by
  rw [exec_mainMoverParity]; exact execMainMoverParity_kept h

theorem exec_dmaMainRestored_kept (x0 : Bool) {s : State} (h : Kept n m q o s) : OutKept n m q o (exec (.dmaMainRestored x0) s) := by
  rw [exec_dmaMainRestored]; exact execDmaMainRestored_kept x0 h

theorem exec_read_kept (x0 : DHdr) (x1 : Nat) (x2 : Nat) {s : State} (h : Kept n m q o s) : OutKept n m q o (exec (.read x0 x1 x2) s) := by
  rw [exec_read]; exact execRead_kept x0 x1 x2 h

theorem exec_write_kept (x0 : DHdr) (x1 : Nat) (x2 : Nat) (x3 : Nat) (x4 : List Byte) {s : State} (h : Kept n m q o s) : OutKept n m q o (exec (.write x0 x1 x2 x3 x4) s) := by
  rw [exec_write]; exact execWrite_kept x0 x1 x2 x3 x4 h

theorem exec_readBlock_kept (x0 : DHdr) (x1 : Nat) (x2 : Nat) (x3 : Nat) (x4 : Nat) {s : State} (h : Kept n m q o s) : OutKept n m q o (exec (.readBlock x0 x1 x2 x3 x4) s) := by
  rw [exec_readBlock]; exact execReadBlock_kept x0 x1 x2 x3 x4 h

theorem exec_writeBlock_kept (x0 : DHdr) (x1 : Nat) (x2 : Nat) (x3 : Nat) (x4 : Nat) (x5 : Nat) (x6 : List Byte) {s : State} (h : Kept n m q o s) : OutKept n m q o (exec (.writeBlock x0 x1 x2 x3 x4 x5 x6) s) := by
  rw [exec_writeBlock]; exact execWriteBlock_kept x0 x1 x2 x3 x4 x5 x6 h

theorem exec_store_kept (x0 : DHdr) (x1 : Nat) (x2 : Bool) {s : State} (h : Kept n m q o s) : OutKept n m q o (exec (.store x0 x1 x2) s) := by
  rw [exec_store]; exact execStore_kept x0 x1 x2 h

theorem exec_restore_kept (x0 : DHdr) (x1 : Nat) {s : State} (h : Kept n m q o s) : OutKept n m q o (exec (.restore x0 x1) s) := by
  rw [exec_restore]; exact execRestore_kept x0 x1 h

theorem exec_subscribe_kept (x0 : DHdr) (x1 : Nat) (x2 : Nat) (x3 : Nat) (x4 : Nat) {s : State} (h : Kept n m q o s) : OutKept n m q o (exec (.subscribe x0 x1 x2 x3 x4) s) := by
  rw [exec_subscribe]; exact execSubscribe_kept x0 x1 x2 x3 x4 h

theorem exec_digest_kept (x0 : DHdr) (x1 : Nat) {s : State} (h : Kept n m q o s) : OutKept n m q o (exec (.digest x0 x1) s) := by
  rw [exec_digest]; exact execDigest_kept x0 x1 h

theorem exec_sessionTimeout_kept (x0 : Transport) (x1 : Nat) (x2 : Nat) {s : State} (h : Kept n m q o s) : OutKept n m q o (exec (.sessionTimeout x0 x1 x2) s) := by
  rw [exec_sessionTimeout]; exact execSessionTimeout_kept x0 x1 x2 h

theorem exec_blockTransferTimeout_kept (x0 : Transport) (x1 : Nat) (x2 : Nat) {s : State} (h : Kept n m q o s) : OutKept n m q o (exec (.blockTransferTimeout x0 x1 x2) s) := by
  rw [exec_blockTransferTimeout]; exact execBlockTransferTimeout_kept x0 x1 x2 h

theorem exec_subscriptionNotify_kept (x0 : Transport) (x1 : Nat) (x2 : Nat) (x3 : Nat) (x4 : Nat) {s : State} (h : Kept n m q o s) : OutKept n m q o (exec (.subscriptionNotify x0 x1 x2 x3 x4) s) := by
  rw [exec_subscriptionNotify]; exact execSubscriptionNotify_kept x0 x1 x2 x3 x4 h

theorem exec_rwDigestRecompute_kept {s : State} (h : Kept n m q o s) : OutKept n m q o (exec (.rwDigestRecompute) s) := by
  rw [exec_rwDigestRecompute]; exact execRwDigestRecompute_kept h

theorem exec_replicaRewrite_kept (x0 : Nat) {s : State} (h : Kept n m q o s) : OutKept n m q o (exec (.replicaRewrite x0) s) := by
  rw [exec_replicaRewrite]; exact execReplicaRewrite_kept x0 h

theorem exec_eventFiringPresent_kept (x0 : Nat) {s : State} (h : Kept n m q o s) : OutKept n m q o (exec (.eventFiringPresent x0) s) := by
  rw [exec_eventFiringPresent]; exact execEventFiringPresent_kept x0 h

theorem exec_eventCease_kept (x0 : Nat) (x1 : Nat) (x2 : Nat) {s : State} (h : Kept n m q o s) : OutKept n m q o (exec (.eventCease x0 x1 x2) s) := by
  rw [exec_eventCease]; exact execEventCease_kept x0 x1 x2 h

theorem exec_stickyFlagClear_kept (x0 : Nat) (x1 : Nat) (x2 : Bool) {s : State} (h : Kept n m q o s) : OutKept n m q o (exec (.stickyFlagClear x0 x1 x2) s) := by
  rw [exec_stickyFlagClear]; exact execStickyFlagClear_kept x0 x1 x2 h

theorem exec_counterFold_kept {s : State} (h : Kept n m q o s) : OutKept n m q o (exec (.counterFold) s) := by
  rw [exec_counterFold]; exact execCounterFold_kept h

theorem exec_statisticsCounterClear_kept (x0 : Role) (x1 : Nat) (x2 : Nat) {s : State} (h : Kept n m q o s) : OutKept n m q o (exec (.statisticsCounterClear x0 x1 x2) s) := by
  rw [exec_statisticsCounterClear]; exact execStatisticsCounterClear_kept x0 x1 x2 h

theorem exec_writeFrame_kept (x0 : Nat) (x1 : List Byte) {s : State} (h : Kept n m q o s) : OutKept n m q o (exec (.writeFrame x0 x1) s) := by
  rw [exec_writeFrame]; exact execWriteFrame_kept x0 x1 h

theorem exec_readFrame_kept {s : State} (h : Kept n m q o s) : OutKept n m q o (exec (.readFrame) s) := by
  rw [exec_readFrame]; exact execReadFrame_kept h

theorem exec_spiStatus_kept {s : State} (h : Kept n m q o s) : OutKept n m q o (exec (.spiStatus) s) := by
  rw [exec_spiStatus]; exact execSpiStatus_kept h

theorem exec_powerRequest_kept (x0 : Option Role) (x1 : Nat) (x2 : Nat) {s : State} (h : Kept n m q o s) : OutKept n m q o (exec (.powerRequest x0 x1 x2) s) := by
  rw [exec_powerRequest]; exact execPowerRequest_kept x0 x1 x2 h

theorem exec_powerEntryStep_kept {s : State} (h : Kept n m q o s) : OutKept n m q o (exec (.powerEntryStep) s) := by
  rw [exec_powerEntryStep]; exact execPowerEntryStep_kept h

theorem exec_powerExit_kept {s : State} (h : Kept n m q o s) : OutKept n m q o (exec (.powerExit) s) := by
  rw [exec_powerExit]; exact execPowerExit_kept h

theorem exec_warmStart_kept {s : State} (h : Kept n m q o s) : OutKept n m q o (exec (.warmStart) s) := by
  rw [exec_warmStart]; exact execWarmStart_kept h

theorem exec_wakeToTransition_kept {s : State} (h : Kept n m q o s) : OutKept n m q o (exec (.wakeToTransition) s) := by
  rw [exec_wakeToTransition]; exact execWakeToTransition_kept h

theorem exec_slotgateChange_kept {s : State} (h : Kept n m q o s) : OutKept n m q o (exec (.slotgateChange) s) := by
  rw [exec_slotgateChange]; exact execSlotgateChange_kept h

theorem exec_sectionGateOff_kept (x0 : Nat) (x1 : Bool) {s : State} (h : Kept n m q o s) : OutKept n m q o (exec (.sectionGateOff x0 x1) s) := by
  rw [exec_sectionGateOff]; exact execSectionGateOff_kept x0 x1 h

theorem exec_sectionGateOn_kept (x0 : Nat) (x1 : Bool) {s : State} (h : Kept n m q o s) : OutKept n m q o (exec (.sectionGateOn x0 x1) s) := by
  rw [exec_sectionGateOn]; exact execSectionGateOn_kept x0 x1 h

theorem exec_wakePin_kept (x0 : Nat) {s : State} (h : Kept n m q o s) : OutKept n m q o (exec (.wakePin x0) s) := by
  rw [exec_wakePin]; exact execWakePin_kept x0 h

theorem exec_rtcAlarm_kept {s : State} (h : Kept n m q o s) : OutKept n m q o (exec (.rtcAlarm) s) := by
  rw [exec_rtcAlarm]; exact execRtcAlarm_kept h

theorem exec_linkSignalDetect_kept (x0 : Nat) {s : State} (h : Kept n m q o s) : OutKept n m q o (exec (.linkSignalDetect x0) s) := by
  rw [exec_linkSignalDetect]; exact execLinkSignalDetect_kept x0 h

theorem exec_t1sFrameWake_kept (x0 : Nat) (x1 : Bool) {s : State} (h : Kept n m q o s) : OutKept n m q o (exec (.t1sFrameWake x0 x1) s) := by
  rw [exec_t1sFrameWake]; exact execT1sFrameWake_kept x0 x1 h

theorem exec_debugWakeWord_kept (x0 : List Byte) {s : State} (h : Kept n m q o s) : OutKept n m q o (exec (.debugWakeWord x0) s) := by
  rw [exec_debugWakeWord]; exact execDebugWakeWord_kept x0 h

theorem exec_thermalAlarm_kept (x0 : Int) {s : State} (h : Kept n m q o s) : OutKept n m q o (exec (.thermalAlarm x0) s) := by
  rw [exec_thermalAlarm]; exact execThermalAlarm_kept x0 h

theorem exec_wrxSniff_kept (x0 : Bool) (x1 : Int) (x2 : Int) {s : State} (h : Kept n m q o s) : OutKept n m q o (exec (.wrxSniff x0 x1 x2) s) := by
  rw [exec_wrxSniff]; exact execWrxSniff_kept x0 x1 x2 h

theorem exec_wrxSyncTimeout_kept {s : State} (h : Kept n m q o s) : OutKept n m q o (exec (.wrxSyncTimeout) s) := by
  rw [exec_wrxSyncTimeout]; exact execWrxSyncTimeout_kept h

theorem exec_wakeFrame_kept (x0 : List Byte) (x1 : Int) {s : State} (h : Kept n m q o s) : OutKept n m q o (exec (.wakeFrame x0 x1) s) := by
  rw [exec_wakeFrame]; exact execWakeFrame_kept x0 x1 h

theorem exec_wrxTrim_kept {s : State} (h : Kept n m q o s) : OutKept n m q o (exec (.wrxTrim) s) := by
  rw [exec_wrxTrim]; exact execWrxTrim_kept h

theorem exec_housekeepingRound_kept (x0 : List Int) (x1 : List Nat) (x2 : Option (Int × Int)) (x3 : Nat) (x4 : List Nat) {s : State} (h : Kept n m q o s) : OutKept n m q o (exec (.housekeepingRound x0 x1 x2 x3 x4) s) := by
  rw [exec_housekeepingRound]; exact execHousekeepingRound_kept x0 x1 x2 x3 x4 h

theorem exec_thermalCarrierDrop_kept {s : State} (h : Kept n m q o s) : OutKept n m q o (exec (.thermalCarrierDrop) s) := by
  rw [exec_thermalCarrierDrop]; exact execThermalCarrierDrop_kept h

theorem exec_ldacEdge_kept {s : State} (h : Kept n m q o s) : OutKept n m q o (exec (.ldacEdge) s) := by
  rw [exec_ldacEdge]; exact execLdacEdge_kept h

theorem exec_bdacStrobeWrite_kept (x0 : Nat) (x1 : Nat) {s : State} (h : Kept n m q o s) : OutKept n m q o (exec (.bdacStrobeWrite x0 x1) s) := by
  rw [exec_bdacStrobeWrite]; exact execBdacStrobeWrite_kept x0 x1 h

theorem exec_bdacCodeWrite_kept (x0 : Nat) (x1 : Nat) (x2 : Nat) {s : State} (h : Kept n m q o s) : OutKept n m q o (exec (.bdacCodeWrite x0 x1 x2) s) := by
  rw [exec_bdacCodeWrite]; exact execBdacCodeWrite_kept x0 x1 x2 h

theorem exec_bdacShort_kept (x0 : Nat) (x1 : Bool) {s : State} (h : Kept n m q o s) : OutKept n m q o (exec (.bdacShort x0 x1) s) := by
  rw [exec_bdacShort]; exact execBdacShort_kept x0 x1 h

theorem exec_bdacShortTimeout_kept (x0 : Nat) {s : State} (h : Kept n m q o s) : OutKept n m q o (exec (.bdacShortTimeout x0) s) := by
  rw [exec_bdacShortTimeout]; exact execBdacShortTimeout_kept x0 h

theorem exec_bdacSupplyLow_kept (x0 : Nat) {s : State} (h : Kept n m q o s) : OutKept n m q o (exec (.bdacSupplyLow x0) s) := by
  rw [exec_bdacSupplyLow]; exact execBdacSupplyLow_kept x0 h

theorem exec_bdacSuppliesGood_kept {s : State} (h : Kept n m q o s) : OutKept n m q o (exec (.bdacSuppliesGood) s) := by
  rw [exec_bdacSuppliesGood]; exact execBdacSuppliesGood_kept h

theorem exec_drainRequest_kept (x0 : Nat) (x1 : Nat) {s : State} (h : Kept n m q o s) : OutKept n m q o (exec (.drainRequest x0 x1) s) := by
  rw [exec_drainRequest]; exact execDrainRequest_kept x0 x1 h

theorem exec_amplifierFault_kept (x0 : Nat) (x1 : Nat) {s : State} (h : Kept n m q o s) : OutKept n m q o (exec (.amplifierFault x0 x1) s) := by
  rw [exec_amplifierFault]; exact execAmplifierFault_kept x0 x1 h

theorem exec_faultSafeCode_kept (x0 : Nat) {s : State} (h : Kept n m q o s) : OutKept n m q o (exec (.faultSafeCode x0) s) := by
  rw [exec_faultSafeCode]; exact execFaultSafeCode_kept x0 h

theorem exec_drainReadbackMismatch_kept (x0 : Nat) {s : State} (h : Kept n m q o s) : OutKept n m q o (exec (.drainReadbackMismatch x0) s) := by
  rw [exec_drainReadbackMismatch]; exact execDrainReadbackMismatch_kept x0 h

theorem exec_drainFaultClear_kept (x0 : Nat) (x1 : Nat) {s : State} (h : Kept n m q o s) : OutKept n m q o (exec (.drainFaultClear x0 x1) s) := by
  rw [exec_drainFaultClear]; exact execDrainFaultClear_kept x0 x1 h

theorem exec_monTrigger_kept (x0 : Nat) (x1 : Nat) {s : State} (h : Kept n m q o s) : OutKept n m q o (exec (.monTrigger x0 x1) s) := by
  rw [exec_monTrigger]; exact execMonTrigger_kept x0 x1 h

theorem exec_monEntryResult_kept (x0 : Nat) (x1 : Int) (x2 : Nat) {s : State} (h : Kept n m q o s) : OutKept n m q o (exec (.monEntryResult x0 x1 x2) s) := by
  rw [exec_monEntryResult]; exact execMonEntryResult_kept x0 x1 x2 h

theorem exec_monDataRead_kept (x0 : Nat) {s : State} (h : Kept n m q o s) : OutKept n m q o (exec (.monDataRead x0) s) := by
  rw [exec_monDataRead]; exact execMonDataRead_kept x0 h

theorem exec_fanWatchdogExpiry_kept (x0 : Nat) {s : State} (h : Kept n m q o s) : OutKept n m q o (exec (.fanWatchdogExpiry x0) s) := by
  rw [exec_fanWatchdogExpiry]; exact execFanWatchdogExpiry_kept x0 h

theorem exec_thmFanStall_kept (x0 : Nat) {s : State} (h : Kept n m q o s) : OutKept n m q o (exec (.thmFanStall x0) s) := by
  rw [exec_thmFanStall]; exact execThmFanStall_kept x0 h

theorem exec_transitionToken_kept (x0 : Role) (x1 : List Byte) {s : State} (h : Kept n m q o s) : OutKept n m q o (exec (.transitionToken x0 x1) s) := by
  rw [exec_transitionToken]; exact execTransitionToken_kept x0 x1 h

theorem exec_keyEnvelope_kept (x0 : Role) (x1 : Nat) (x2 : List Byte) {s : State} (h : Kept n m q o s) : OutKept n m q o (exec (.keyEnvelope x0 x1 x2) s) := by
  rw [exec_keyEnvelope]; exact execKeyEnvelope_kept x0 x1 x2 h

theorem exec_rootRecord_kept (x0 : Role) (x1 : List Byte) {s : State} (h : Kept n m q o s) : OutKept n m q o (exec (.rootRecord x0 x1) s) := by
  rw [exec_rootRecord]; exact execRootRecord_kept x0 x1 h

theorem exec_attestation_kept (x0 : List Byte) {s : State} (h : Kept n m q o s) : OutKept n m q o (exec (.attestation x0) s) := by
  rw [exec_attestation]; exact execAttestation_kept x0 h

theorem exec_raiseMinimums_kept (x0 : Role) {s : State} (h : Kept n m q o s) : OutKept n m q o (exec (.raiseMinimums x0) s) := by
  rw [exec_raiseMinimums]; exact execRaiseMinimums_kept x0 h

theorem exec_verifyImage_kept (x0 : Master) (x1 : Nat) {s : State} (h : Kept n m q o s) : OutKept n m q o (exec (.verifyImage x0 x1) s) := by
  rw [exec_verifyImage]; exact execVerifyImage_kept x0 x1 h

theorem exec_checkDiongTag_kept (x0 : Master) (x1 : Transport) (x2 : Nat) {s : State} (h : Kept n m q o s) : OutKept n m q o (exec (.checkDiongTag x0 x1 x2) s) := by
  rw [exec_checkDiongTag]; exact execCheckDiongTag_kept x0 x1 x2 h

theorem exec_makeDiongTag_kept (x0 : Master) (x1 : Transport) (x2 : Nat) {s : State} (h : Kept n m q o s) : OutKept n m q o (exec (.makeDiongTag x0 x1 x2) s) := by
  rw [exec_makeDiongTag]; exact execMakeDiongTag_kept x0 x1 x2 h

theorem exec_mboxKeyEnvelope_kept (x0 : Master) (x1 : Role) (x2 : Nat) {s : State} (h : Kept n m q o s) : OutKept n m q o (exec (.mboxKeyEnvelope x0 x1 x2) s) := by
  rw [exec_mboxKeyEnvelope]; exact execMboxKeyEnvelope_kept x0 x1 x2 h

theorem exec_mboxAttestation_kept (x0 : Master) (x1 : Nat) {s : State} (h : Kept n m q o s) : OutKept n m q o (exec (.mboxAttestation x0 x1) s) := by
  rw [exec_mboxAttestation]; exact execMboxAttestation_kept x0 x1 h

theorem exec_lifecycleToken_kept (x0 : Master) (x1 : Nat) {s : State} (h : Kept n m q o s) : OutKept n m q o (exec (.lifecycleToken x0 x1) s) := by
  rw [exec_lifecycleToken]; exact execLifecycleToken_kept x0 x1 h

theorem exec_mboxRootRecord_kept (x0 : Master) (x1 : Nat) {s : State} (h : Kept n m q o s) : OutKept n m q o (exec (.mboxRootRecord x0 x1) s) := by
  rw [exec_mboxRootRecord]; exact execMboxRootRecord_kept x0 x1 h

theorem exec_randomBytes_kept (x0 : Master) (x1 : Nat) {s : State} (h : Kept n m q o s) : OutKept n m q o (exec (.randomBytes x0 x1) s) := by
  rw [exec_randomBytes]; exact execRandomBytes_kept x0 x1 h

theorem exec_extest_kept (x0 : Nat) (x1 : Nat) {s : State} (h : Kept n m q o s) : OutKept n m q o (exec (.extest x0 x1) s) := by
  rw [exec_extest]; exact execExtest_kept x0 x1 h

theorem exec_samplePreload_kept (x0 : Nat) (x1 : Nat) {s : State} (h : Kept n m q o s) : OutKept n m q o (exec (.samplePreload x0 x1) s) := by
  rw [exec_samplePreload]; exact execSamplePreload_kept x0 x1 h

theorem exec_idcode_kept {s : State} (h : Kept n m q o s) : OutKept n m q o (exec (.idcode) s) := by
  rw [exec_idcode]; exact execIdcode_kept h

theorem exec_clamp_kept {s : State} (h : Kept n m q o s) : OutKept n m q o (exec (.clamp) s) := by
  rw [exec_clamp]; exact execClamp_kept h

theorem exec_highz_kept {s : State} (h : Kept n m q o s) : OutKept n m q o (exec (.highz) s) := by
  rw [exec_highz]; exact execHighz_kept h

theorem exec_dbgChal_kept {s : State} (h : Kept n m q o s) : OutKept n m q o (exec (.dbgChal) s) := by
  rw [exec_dbgChal]; exact execDbgChal_kept h

theorem exec_dbgResp_kept (x0 : List Byte) {s : State} (h : Kept n m q o s) : OutKept n m q o (exec (.dbgResp x0) s) := by
  rw [exec_dbgResp]; exact execDbgResp_kept x0 h

theorem exec_dbgPort_kept (x0 : Nat) (x1 : Nat) (x2 : Bool) (x3 : Nat) {s : State} (h : Kept n m q o s) : OutKept n m q o (exec (.dbgPort x0 x1 x2 x3) s) := by
  rw [exec_dbgPort]; exact execDbgPort_kept x0 x1 x2 x3 h

theorem exec_dbgStatus_kept {s : State} (h : Kept n m q o s) : OutKept n m q o (exec (.dbgStatus) s) := by
  rw [exec_dbgStatus]; exact execDbgStatus_kept h

theorem exec_bypass_kept (x0 : Nat) {s : State} (h : Kept n m q o s) : OutKept n m q o (exec (.bypass x0) s) := by
  rw [exec_bypass]; exact execBypass_kept x0 h

theorem exec_challengeRead_kept (x0 : Role) {s : State} (h : Kept n m q o s) : OutKept n m q o (exec (.challengeRead x0) s) := by
  rw [exec_challengeRead]; exact execChallengeRead_kept x0 h

theorem exec_debugResponse_kept (x0 : Transport) (x1 : Nat) (x2 : List Byte) {s : State} (h : Kept n m q o s) : OutKept n m q o (exec (.debugResponse x0 x1 x2) s) := by
  rw [exec_debugResponse]; exact execDebugResponse_kept x0 x1 x2 h

theorem exec_debugTunnel_kept (x0 : Transport) (x1 : Nat) (x2 : List Byte) {s : State} (h : Kept n m q o s) : OutKept n m q o (exec (.debugTunnel x0 x1 x2) s) := by
  rw [exec_debugTunnel]; exact execDebugTunnel_kept x0 x1 x2 h

theorem exec_dbgClose_kept (x0 : Nat) {s : State} (h : Kept n m q o s) : OutKept n m q o (exec (.dbgClose x0) s) := by
  rw [exec_dbgClose]; exact execDbgClose_kept x0 h

theorem exec_debugSessionExpiry_kept {s : State} (h : Kept n m q o s) : OutKept n m q o (exec (.debugSessionExpiry) s) := by
  rw [exec_debugSessionExpiry]; exact execDebugSessionExpiry_kept h

theorem exec_coreHalt_kept (x0 : Nat) (x1 : Nat) {s : State} (h : Kept n m q o s) : OutKept n m q o (exec (.coreHalt x0 x1) s) := by
  rw [exec_coreHalt]; exact execCoreHalt_kept x0 x1 h

theorem exec_coreStep_kept (x0 : Nat) (x1 : Nat) {s : State} (h : Kept n m q o s) : OutKept n m q o (exec (.coreStep x0 x1) s) := by
  rw [exec_coreStep]; exact execCoreStep_kept x0 x1 h

theorem exec_engineHalt_kept (x0 : Nat) (x1 : Nat) {s : State} (h : Kept n m q o s) : OutKept n m q o (exec (.engineHalt x0 x1) s) := by
  rw [exec_engineHalt]; exact execEngineHalt_kept x0 x1 h

theorem exec_laneFault_kept (x0 : Nat) (x1 : Nat) {s : State} (h : Kept n m q o s) : OutKept n m q o (exec (.laneFault x0 x1) s) := by
  rw [exec_laneFault]; exact execLaneFault_kept x0 x1 h

theorem exec_engineRetire_kept (x0 : Nat) (x1 : Nat) (x2 : Bool) {s : State} (h : Kept n m q o s) : OutKept n m q o (exec (.engineRetire x0 x1 x2) s) := by
  rw [exec_engineRetire]; exact execEngineRetire_kept x0 x1 x2 h

theorem exec_engineSpareTakeover_kept (x0 : Nat) {s : State} (h : Kept n m q o s) : OutKept n m q o (exec (.engineSpareTakeover x0) s) := by
  rw [exec_engineSpareTakeover]; exact execEngineSpareTakeover_kept x0 h

theorem exec_standbyImageWrite_kept (x0 : Role) (x1 : List Byte) {s : State} (h : Kept n m q o s) : OutKept n m q o (exec (.standbyImageWrite x0 x1) s) := by
  rw [exec_standbyImageWrite]; exact execStandbyImageWrite_kept x0 x1 h

theorem exec_fwStandbyReady_kept (x0 : Nat) {s : State} (h : Kept n m q o s) : OutKept n m q o (exec (.fwStandbyReady x0) s) := by
  rw [exec_fwStandbyReady]; exact execFwStandbyReady_kept x0 h

theorem exec_handoverRequest_kept (x0 : Nat) (x1 : Nat) (x2 : Nat) {s : State} (h : Kept n m q o s) : OutKept n m q o (exec (.handoverRequest x0 x1 x2) s) := by
  rw [exec_handoverRequest]; exact execHandoverRequest_kept x0 x1 x2 h

theorem exec_handoverSaving_kept {s : State} (h : Kept n m q o s) : OutKept n m q o (exec (.handoverSaving) s) := by
  rw [exec_handoverSaving]; exact execHandoverSaving_kept h

theorem exec_fwSaved_kept (x0 : Nat) {s : State} (h : Kept n m q o s) : OutKept n m q o (exec (.fwSaved x0) s) := by
  rw [exec_fwSaved]; exact execFwSaved_kept x0 h

theorem exec_handoverActivate_kept {s : State} (h : Kept n m q o s) : OutKept n m q o (exec (.handoverActivate) s) := by
  rw [exec_handoverActivate]; exact execHandoverActivate_kept h

theorem exec_fwAlive_kept (x0 : Nat) {s : State} (h : Kept n m q o s) : OutKept n m q o (exec (.fwAlive x0) s) := by
  rw [exec_fwAlive]; exact execFwAlive_kept x0 h

theorem exec_fwHandoverDone_kept {s : State} (h : Kept n m q o s) : OutKept n m q o (exec (.fwHandoverDone) s) := by
  rw [exec_fwHandoverDone]; exact execFwHandoverDone_kept h

theorem exec_fwReverted_kept {s : State} (h : Kept n m q o s) : OutKept n m q o (exec (.fwReverted) s) := by
  rw [exec_fwReverted]; exact execFwReverted_kept h

theorem exec_poweredHour_kept {s : State} (h : Kept n m q o s) : OutKept n m q o (exec (.poweredHour) s) := by
  rw [exec_poweredHour]; exact execPoweredHour_kept h

theorem exec_nvWordWrite_kept (x0 : Nat) (x1 : List Nat) (x2 : Bool) {s : State} (h : Kept n m q o s) : OutKept n m q o (exec (.nvWordWrite x0 x1 x2) s) := by
  rw [exec_nvWordWrite]; exact execNvWordWrite_kept x0 x1 x2 h

theorem exec_coldStart_kept (x0 : Nat) {s : State} (h : Kept n m q o s) : OutKept n m q o (exec (.coldStart x0) s) := by
  rw [exec_coldStart]; exact execColdStart_kept x0 h

theorem exec_resetAssert_kept (x0 : Nat) (x1 : Nat) {s : State} (h : Kept n m q o s) : OutKept n m q o (exec (.resetAssert x0 x1) s) := by
  rw [exec_resetAssert]; exact execResetAssert_kept x0 x1 h

theorem exec_osc32Qualified_kept {s : State} (h : Kept n m q o s) : OutKept n m q o (exec (.osc32Qualified) s) := by
  rw [exec_osc32Qualified]; exact execOsc32Qualified_kept h

theorem exec_bootStep_kept (x0 : BootIn) {s : State} (h : Kept n m q o s) : OutKept n m q o (exec (.bootStep x0) s) := by
  rw [exec_bootStep]; exact execBootStep_kept x0 h

theorem exec_refclkQualified_kept {s : State} (h : Kept n m q o s) : OutKept n m q o (exec (.refclkQualified) s) := by
  rw [exec_refclkQualified]; exact execRefclkQualified_kept h

theorem exec_loaderImage_kept (x0 : Nat) (x1 : List Byte) {s : State} (h : Kept n m q o s) : OutKept n m q o (exec (.loaderImage x0 x1) s) := by
  rw [exec_loaderImage]; exact execLoaderImage_kept x0 x1 h

theorem exec_pwrBootGo_kept (x0 : Nat) (x1 : Nat) {s : State} (h : Kept n m q o s) : OutKept n m q o (exec (.pwrBootGo x0 x1) s) := by
  rw [exec_pwrBootGo]; exact execPwrBootGo_kept x0 x1 h

theorem exec_vtargetUpdate_kept (x0 : Nat) {s : State} (h : Kept n m q o s) : OutKept n m q o (exec (.vtargetUpdate x0) s) := by
  rw [exec_vtargetUpdate]; exact execVtargetUpdate_kept x0 h

theorem exec_dpdMinRateVisit_kept (x0 : Nat) {s : State} (h : Kept n m q o s) : OutKept n m q o (exec (.dpdMinRateVisit x0) s) := by
  rw [exec_dpdMinRateVisit]; exact execDpdMinRateVisit_kept x0 h

theorem exec_dpdStaleAgeExpiry_kept (x0 : Nat) {s : State} (h : Kept n m q o s) : OutKept n m q o (exec (.dpdStaleAgeExpiry x0) s) := by
  rw [exec_dpdStaleAgeExpiry]; exact execDpdStaleAgeExpiry_kept x0 h

theorem exec_bdacOutputStep_kept (x0 : Nat) {s : State} (h : Kept n m q o s) : OutKept n m q o (exec (.bdacOutputStep x0) s) := by
  rw [exec_bdacOutputStep]; exact execBdacOutputStep_kept x0 h

theorem exec_tachEdge_kept (x0 : Nat) {s : State} (h : Kept n m q o s) : OutKept n m q o (exec (.tachEdge x0) s) := by
  rw [exec_tachEdge]; exact execTachEdge_kept x0 h

theorem exec_overloadDeassert_kept (x0 : Nat) {s : State} (h : Kept n m q o s) : OutKept n m q o (exec (.overloadDeassert x0) s) := by
  rw [exec_overloadDeassert]; exact execOverloadDeassert_kept x0 h

theorem exec_oldCakTimeout_kept (x0 : Nat) (x1 : Bool) {s : State} (h : Kept n m q o s) : OutKept n m q o (exec (.oldCakTimeout x0 x1) s) := by
  rw [exec_oldCakTimeout]; exact execOldCakTimeout_kept x0 x1 h

theorem exec_arpRequest_kept (x0 : Nat) (x1 : Nat) (x2 : Nat) {s : State} (h : Kept n m q o s) : OutKept n m q o (exec (.arpRequest x0 x1 x2) s) := by
  rw [exec_arpRequest]; exact execArpRequest_kept x0 x1 x2 h

theorem exec_icmpEchoRequest_kept (x0 : Nat) (x1 : Nat) (x2 : Nat) (x3 : Nat) (x4 : Nat) (x5 : Bool) (x6 : List Byte) {s : State} (h : Kept n m q o s) : OutKept n m q o (exec (.icmpEchoRequest x0 x1 x2 x3 x4 x5 x6) s) := by
  rw [exec_icmpEchoRequest]; exact execIcmpEchoRequest_kept x0 x1 x2 x3 x4 x5 x6 h

theorem exec_tapReset_kept {s : State} (h : Kept n m q o s) : OutKept n m q o (exec (.tapReset) s) := by
  rw [exec_tapReset]; exact execTapReset_kept h

theorem exec_debugChallengeExpiry_kept {s : State} (h : Kept n m q o s) : OutKept n m q o (exec (.debugChallengeExpiry) s) := by
  rw [exec_debugChallengeExpiry]; exact execDebugChallengeExpiry_kept h

theorem exec_debugLockoutEnd_kept {s : State} (h : Kept n m q o s) : OutKept n m q o (exec (.debugLockoutEnd) s) := by
  rw [exec_debugLockoutEnd]; exact execDebugLockoutEnd_kept h

theorem exec_baseNoteSave_kept (x0 : Nat) {s : State} (h : Kept n m q o s) : OutKept n m q o (exec (.baseNoteSave x0) s) := by
  rw [exec_baseNoteSave]; exact execBaseNoteSave_kept x0 h


/-- The end of a service window keeps it. -/
theorem windowDue_kept {s : State} (h : Kept n m q o s) : Kept n m q o (windowDue s) := by
  unfold windowDue
  repeat' first | (with_reducible assumption) | (with_reducible refine kept_foldl ?_ ?_; intro _ _ _) |
    (with_reducible apply windowReturn_kept) | (with_reducible apply kept_ite)

/-- One idle tick keeps it. -/
theorem idleTick_kept {s : State} (h : Kept n m q o s) : Kept n m q o (idleTick s) :=
  windowDue_kept (safeDue_kept (grantSet_kept (passTicks_kept _ h)))

/-- The operations of a bundle keep it when every command does. -/
theorem issueOps_kept {s : State} (hx : ∀ c t, Kept n m q o t → OutKept n m q o (exec c t))
    (e : Nat) (l : List Instr) (h : Kept n m q o s) : Kept n m q o (issueOps s e l) := by
  induction l generalizing s with
  | nil => exact h
  | cons i l ih =>
    obtain ⟨t, he, ht⟩ := hx i _ h
    unfold issueOps
    rw [he]
    dsimp only
    split
    · exact ih ht
    · exact ht

/-- A bundle keeps it when every command does. -/
theorem issueBundle_kept {s : State} (hx : ∀ c t, Kept n m q o t → OutKept n m q o (exec c t)) (e : Nat) (h : Kept n m q o s) : Kept n m q o (issueBundle s e) := by
  unfold issueBundle
  repeat' first | (with_reducible assumption) | (with_reducible apply State_setEng_kept) | (with_reducible apply endJob_kept) |
    (with_reducible apply issueOps_kept hx) | (dsimp only) | split

/-- A command taken by an engine keeps it when every command does. -/
theorem taken_kept {s : State} (hx : ∀ c t, Kept n m q o t → OutKept n m q o (exec c t)) (c : Instr) (h : Kept n m q o s) : Kept n m q o (taken s c) := by
  obtain ⟨t, he, ht⟩ := hx c s h
  unfold taken
  rw [he]
  exact ht

/-- Accepting an interrupt keeps it when every command does. -/
theorem acceptDue_kept {s : State} (hx : ∀ c t, Kept n m q o t → OutKept n m q o (exec c t)) (e : Nat) (h : Kept n m q o s) : Kept n m q o (acceptDue s e) := by
  unfold acceptDue
  split
  · exact taken_kept hx _ h
  · exact h

/-- Ending a late job keeps it when every command does. -/
theorem endLate_kept {s : State} (hx : ∀ c t, Kept n m q o t → OutKept n m q o (exec c t)) (e : Nat) (h : Kept n m q o s) : Kept n m q o (endLate s e) := by
  unfold endLate
  dsimp only
  repeat' first | (with_reducible assumption) | (exact taken_kept hx _ h) | split

theorem engineTick_go_kept {s : State} (hx : ∀ c t, Kept n m q o t → OutKept n m q o (exec c t))
    (e cyc f : Nat) (h : Kept n m q o s) : Kept n m q o (engineTick.go e cyc f s) := by
  induction f generalizing s with
  | zero => exact h
  | succ f ih =>
    unfold engineTick.go
    split
    · exact ih (endLate_kept hx e (issueBundle_kept hx e (acceptDue_kept hx e h)))
    · exact h

/-- The cycles of an engine in one tick keep it when every command does. -/
theorem engineTick_kept {s : State} (hx : ∀ c t, Kept n m q o t → OutKept n m q o (exec c t)) (e : Nat)
    (h : Kept n m q o s) : Kept n m q o (engineTick s e) := engineTick_go_kept hx _ _ _ h

/-- One tick with nothing commanded keeps it when every command does. -/
theorem idleStep_kept {s : State} (hx : ∀ c t, Kept n m q o t → OutKept n m q o (exec c t))
    (h : Kept n m q o s) : Kept n m q o (idleStep s) := by
  unfold idleStep
  refine kept_foldl ?_ (idleTick_kept h)
  intro _ _ h
  exact engineTick_kept hx _ h

/-- The invariant does not look at the queue. -/
theorem Inv_pending {s : State} (l : List Instr) (h : s.Inv) : State.Inv { s with pending := l } :=
  ⟨h.memory, h.regs, h.staged, h.islands, h.log, h.spiIn, h.spiOut, h.stats, h.counts⟩

end Sys2Proof.Machine
end

