-- ==== Sys2Proof/Laws/Same.lean ====
section
/-! SUPPORT. What an operation of the block leaves as it was, in one predicate that passes through every meaning.  A mask holds one bit
per part of the state and one per register. -/

namespace Sys2Proof.Machine

/-- The bit of a register in a mask. -/
def RegId.bit (id : RegId) : Nat := 41 + id.ctorIdx

/-- The mask of the parts and registers that may change. -/
def allow (ps : List Part) (ids : List RegId) : Nat :=
  ps.foldr (fun p m => 1 <<< p.ctorIdx ||| m) (ids.foldr (fun r m => 1 <<< r.bit ||| m) 0)

/-- The mask under which any register may change, beside some parts. -/
def allowAny (ps : List Part) : Nat := (allow ps []) ||| ((1 <<< 255 - 1) <<< 41) ||| 4

/-- One mask allows no more than another. -/
@[reducible] def Sub (a b : Nat) : Prop := a &&& b = a

theorem Sub.trans {a b c : Nat} (h : Sub a b) (k : Sub b c) : Sub a c := by
  unfold Sub at *
  rw [← h, Nat.land_assoc, k]

theorem Sub.bit {a b i : Nat} (h : Sub a b) (k : a.testBit i = true) : b.testBit i = true := by
  unfold Sub at h
  rw [← h, Nat.testBit_and, Bool.and_eq_true] at k
  exact k.2

/-- From `s` to `t` nothing has changed but what the mask allows. -/
structure Same (m : Nat) (s t : State) : Prop where
  pending : t.pending = s.pending
  clk : m.testBit 0 = false → t.clk = s.clk
  freeCtr : m.testBit 1 = false → t.freeCtr = s.freeCtr
  regs : m.testBit 2 = false → ∀ a, (∀ id : RegId, m.testBit id.bit = true → ∀ ix, regAddr id ix ≠ a) → ∀ d, spGet d t.regs a = spGet d
        s.regs a
  regsStaged : m.testBit 3 = false → t.regsStaged = s.regsStaged
  objs : m.testBit 4 = false → t.objs = s.objs
  objsStaged : m.testBit 5 = false → t.objsStaged = s.objsStaged
  objGen : m.testBit 6 = false → t.objGen = s.objGen
  stats : m.testBit 7 = false → t.stats = s.stats
  islands : m.testBit 8 = false → t.islands = s.islands
  subs : m.testBit 9 = false → t.subs = s.subs
  fresh : m.testBit 10 = false → t.fresh = s.fresh
  xing : m.testBit 11 = false → t.xing = s.xing
  lost : m.testBit 12 = false → t.lost = s.lost
  addrFaultRec : m.testBit 13 = false → t.addrFaultRec = s.addrFaultRec
  ctl : m.testBit 14 = false → t.ctl = s.ctl
  evt : m.testBit 15 = false → t.evt = s.evt
  out : m.testBit 16 = false → t.out = s.out
  tl : m.testBit 17 = false → t.tl = s.tl
  adm : m.testBit 18 = false → t.adm = s.adm
  diong : m.testBit 19 = false → t.diong = s.diong
  straps : m.testBit 20 = false → t.straps = s.straps
  sec : m.testBit 21 = false → t.sec = s.sec
  lo : m.testBit 22 = false → t.lo = s.lo
  fe : m.testBit 23 = false → t.fe = s.fe
  cvt : m.testBit 24 = false → t.cvt = s.cvt
  rx : m.testBit 25 = false → t.rx = s.rx
  tx : m.testBit 26 = false → t.tx = s.tx
  bm : m.testBit 27 = false → t.bm = s.bm
  dpds : m.testBit 28 = false → t.dpds = s.dpds
  disp : m.testBit 29 = false → t.disp = s.disp
  ge : m.testBit 30 = false → t.ge = s.ge
  cal : m.testBit 31 = false → t.cal = s.cal
  lnk : m.testBit 32 = false → t.lnk = s.lnk
  mem : m.testBit 33 = false → t.mem = s.mem
  pwr : m.testBit 34 = false → t.pwr = s.pwr
  hk : m.testBit 35 = false → t.hk = s.hk
  svc : m.testBit 36 = false → t.svc = s.svc
  boot : m.testBit 37 = false → t.boot = s.boot
  nv : m.testBit 38 = false → t.nv = s.nv
  marks : m.testBit 39 = false → t.marks = s.marks
  air : m.testBit 40 = false → t.air = s.air

variable {m : Nat} {s0 s t u : State}

theorem Same.refl (m : Nat) (s : State) : Same m s s :=
  ⟨rfl, fun _ => rfl, fun _ => rfl, fun _ _ _ _ => rfl, fun _ => rfl, fun _ => rfl, fun _ => rfl, fun _ => rfl, fun _ => rfl, fun _ => rfl,
        fun _ => rfl, fun _ => rfl, fun _ => rfl, fun _ => rfl, fun _ => rfl, fun _ => rfl, fun _ => rfl, fun _ => rfl, fun _ => rfl, fun _
        => rfl, fun _ => rfl, fun _ => rfl, fun _ => rfl, fun _ => rfl, fun _ => rfl, fun _ => rfl, fun _ => rfl, fun _ => rfl, fun _ =>
        rfl, fun _ => rfl, fun _ => rfl, fun _ => rfl, fun _ => rfl, fun _ => rfl, fun _ => rfl, fun _ => rfl, fun _ => rfl, fun _ => rfl,
        fun _ => rfl, fun _ => rfl, fun _ => rfl, fun _ => rfl⟩

/-- The change of one part is allowed, or it has not changed. -/
def Free (m i : Nat) {α : Type} (x y : α) : Prop := m.testBit i = true ∨ x = y

theorem Free.rfl {i : Nat} {α : Type} {x : α} : Free m i x x := .inr (Eq.refl _)

theorem Free.bit {a i : Nat} {α : Type} {x y : α} (h : Sub a m) (k : a.testBit i = true) : Free m i x y := .inl (h.bit k)

/-- The predicate on a state written out part by part. -/
def SameParts (m : Nat) (s0 : State) (x_pending : List Instr) (x_clk : Clk) (x_freeCtr : Nat) (x_regs : Sparse RegVal)
    (x_regsStaged : Sparse RegVal) (x_objs : Sparse ObjVal) (x_objsStaged : Sparse ObjVal) (x_objGen : Sparse Nat) (x_stats :
    Sparse Nat) (x_islands : Sparse Island) (x_subs : Sparse SubDom) (x_fresh : SameTick) (x_xing : Sparse Crossing) (x_lost : Sparse Nat)
        (x_addrFaultRec : Option (Nat ×
    Nat)) (x_ctl : Ctl) (x_evt : Evt) (x_out : List OutMsg) (x_tl : Tl) (x_adm : Adm) (x_diong : Diong) (x_straps : Straps)
    (x_sec : Sec) (x_lo : Lo) (x_fe : Sparse PathFe) (x_cvt : Cvt) (x_rx : Rx) (x_tx : Tx) (x_bm : Bm) (x_dpds : Sparse Dpd)
    (x_disp : Disp) (x_ge : Ge) (x_cal : Cal) (x_lnk : Lnk) (x_mem : Mem) (x_pwr : Pwr) (x_hk : Hk) (x_svc : Svc) (x_boot : Boot)
    (x_nv : Nv) (x_marks : Sparse (List (Nat × Option Nat))) (x_air : Air) : Prop :=
  Same m s0 (State.mk x_pending x_clk x_freeCtr x_regs x_regsStaged x_objs x_objsStaged x_objGen x_stats x_islands x_subs x_fresh x_xing
        x_lost
    x_addrFaultRec x_ctl x_evt x_out x_tl x_adm x_diong x_straps x_sec x_lo x_fe x_cvt x_rx x_tx x_bm x_dpds x_disp x_ge x_cal
    x_lnk x_mem x_pwr x_hk x_svc x_boot x_nv x_marks x_air)

/-- A state written out. -/
theorem same_mk_iff {x_pending : List Instr} {x_clk : Clk} {x_freeCtr : Nat} {x_regs : Sparse RegVal} {x_regsStaged : Sparse
    RegVal} {x_objs : Sparse ObjVal} {x_objsStaged : Sparse ObjVal} {x_objGen : Sparse Nat} {x_stats : Sparse Nat} {x_islands : Sparse
        Island} {x_subs : Sparse SubDom} {x_fresh : SameTick} {x_xing : Sparse Crossing} {x_lost : Sparse Nat} {x_addrFaultRec : Option
        (Nat × Nat)} {x_ctl : Ctl} {x_evt :
    Evt} {x_out : List OutMsg} {x_tl : Tl} {x_adm : Adm} {x_diong : Diong} {x_straps : Straps} {x_sec : Sec} {x_lo : Lo} {x_fe :
    Sparse PathFe} {x_cvt : Cvt} {x_rx : Rx} {x_tx : Tx} {x_bm : Bm} {x_dpds : Sparse Dpd} {x_disp : Disp} {x_ge : Ge} {x_cal :
    Cal} {x_lnk : Lnk} {x_mem : Mem} {x_pwr : Pwr} {x_hk : Hk} {x_svc : Svc} {x_boot : Boot} {x_nv : Nv} {x_marks : Sparse (List (Nat ×
        Option Nat))} {x_air : Air} :
    Same m s0 (State.mk x_pending x_clk x_freeCtr x_regs x_regsStaged x_objs x_objsStaged x_objGen x_stats x_islands x_subs x_fresh x_xing
    x_lost x_addrFaultRec x_ctl x_evt x_out x_tl x_adm x_diong x_straps x_sec x_lo x_fe x_cvt x_rx x_tx x_bm x_dpds x_disp x_ge
    x_cal x_lnk x_mem x_pwr x_hk x_svc x_boot x_nv x_marks x_air) ↔
    SameParts m s0 x_pending x_clk x_freeCtr x_regs x_regsStaged x_objs x_objsStaged x_objGen x_stats x_islands x_subs x_fresh x_xing x_lost
    x_addrFaultRec x_ctl x_evt x_out x_tl x_adm x_diong x_straps x_sec x_lo x_fe x_cvt x_rx x_tx x_bm x_dpds x_disp x_ge x_cal
    x_lnk x_mem x_pwr x_hk x_svc x_boot x_nv x_marks x_air := Iff.rfl

/-- A state written out part by part on the base of another. -/
theorem same_parts {u : State} {x_clk : Clk} {x_freeCtr : Nat} {x_regs : Sparse RegVal} {x_regsStaged : Sparse RegVal} {x_objs :
    Sparse ObjVal} {x_objsStaged : Sparse ObjVal} {x_objGen : Sparse Nat} {x_stats : Sparse Nat} {x_islands : Sparse Island} {x_subs :
        Sparse SubDom} {x_fresh : SameTick}
    {x_xing : Sparse Crossing} {x_lost : Sparse Nat} {x_addrFaultRec : Option (Nat × Nat)} {x_ctl : Ctl} {x_evt : Evt} {x_out :
    List OutMsg} {x_tl : Tl} {x_adm : Adm} {x_diong : Diong} {x_straps : Straps} {x_sec : Sec} {x_lo : Lo} {x_fe : Sparse PathFe}
    {x_cvt : Cvt} {x_rx : Rx} {x_tx : Tx} {x_bm : Bm} {x_dpds : Sparse Dpd} {x_disp : Disp} {x_ge : Ge} {x_cal : Cal} {x_lnk :
    Lnk} {x_mem : Mem} {x_pwr : Pwr} {x_hk : Hk} {x_svc : Svc} {x_boot : Boot} {x_nv : Nv} {x_marks : Sparse (List (Nat × Option Nat))}
        {x_air : Air}
    (h_clk : Free m 0 x_clk u.clk)
    (h_freeCtr : Free m 1 x_freeCtr u.freeCtr)
    (h_regs : Free m 2 x_regs u.regs)
    (h_regsStaged : Free m 3 x_regsStaged u.regsStaged)
    (h_objs : Free m 4 x_objs u.objs)
    (h_objsStaged : Free m 5 x_objsStaged u.objsStaged)
    (h_objGen : Free m 6 x_objGen u.objGen)
    (h_stats : Free m 7 x_stats u.stats)
    (h_islands : Free m 8 x_islands u.islands)
    (h_subs : Free m 9 x_subs u.subs)
    (h_fresh : Free m 10 x_fresh u.fresh)
    (h_xing : Free m 11 x_xing u.xing)
    (h_lost : Free m 12 x_lost u.lost)
    (h_addrFaultRec : Free m 13 x_addrFaultRec u.addrFaultRec)
    (h_ctl : Free m 14 x_ctl u.ctl)
    (h_evt : Free m 15 x_evt u.evt)
    (h_out : Free m 16 x_out u.out)
    (h_tl : Free m 17 x_tl u.tl)
    (h_adm : Free m 18 x_adm u.adm)
    (h_diong : Free m 19 x_diong u.diong)
    (h_straps : Free m 20 x_straps u.straps)
    (h_sec : Free m 21 x_sec u.sec)
    (h_lo : Free m 22 x_lo u.lo)
    (h_fe : Free m 23 x_fe u.fe)
    (h_cvt : Free m 24 x_cvt u.cvt)
    (h_rx : Free m 25 x_rx u.rx)
    (h_tx : Free m 26 x_tx u.tx)
    (h_bm : Free m 27 x_bm u.bm)
    (h_dpds : Free m 28 x_dpds u.dpds)
    (h_disp : Free m 29 x_disp u.disp)
    (h_ge : Free m 30 x_ge u.ge)
    (h_cal : Free m 31 x_cal u.cal)
    (h_lnk : Free m 32 x_lnk u.lnk)
    (h_mem : Free m 33 x_mem u.mem)
    (h_pwr : Free m 34 x_pwr u.pwr)
    (h_hk : Free m 35 x_hk u.hk)
    (h_svc : Free m 36 x_svc u.svc)
    (h_boot : Free m 37 x_boot u.boot)
    (h_nv : Free m 38 x_nv u.nv)
    (h_marks : Free m 39 x_marks u.marks)
    (h_air : Free m 40 x_air u.air)
    (h : Same m s u) :
    SameParts m s u.pending x_clk x_freeCtr x_regs x_regsStaged x_objs x_objsStaged x_objGen x_stats x_islands x_subs x_fresh x_xing x_lost
    x_addrFaultRec x_ctl x_evt x_out x_tl x_adm x_diong x_straps x_sec x_lo x_fe x_cvt x_rx x_tx x_bm x_dpds x_disp x_ge x_cal
    x_lnk x_mem x_pwr x_hk x_svc x_boot x_nv x_marks x_air := by
  refine ⟨h.pending, fun hb => ?_, fun hb => ?_, fun hb a ha d => ?_, fun hb => ?_, fun hb => ?_, fun hb => ?_, fun hb => ?_, fun
    hb => ?_, fun hb => ?_, fun hb => ?_, fun hb => ?_, fun hb => ?_, fun hb => ?_, fun hb => ?_, fun hb => ?_, fun hb => ?_, fun
    hb => ?_, fun hb => ?_, fun hb => ?_, fun hb => ?_, fun hb => ?_, fun hb => ?_, fun hb => ?_, fun hb => ?_, fun hb => ?_, fun
    hb => ?_, fun hb => ?_, fun hb => ?_, fun hb => ?_, fun hb => ?_, fun hb => ?_, fun hb => ?_, fun hb => ?_, fun hb => ?_, fun
    hb => ?_, fun hb => ?_, fun hb => ?_, fun hb => ?_, fun hb => ?_, fun hb => ?_, fun hb => ?_⟩
  · rcases h_clk with k | k
    · rw [hb] at k; cases k
    · exact k.trans (h.clk hb)
  · rcases h_freeCtr with k | k
    · rw [hb] at k; cases k
    · exact k.trans (h.freeCtr hb)
  · rcases h_regs with k | k
    · rw [hb] at k; cases k
    · subst k; exact h.regs hb a ha d
  · rcases h_regsStaged with k | k
    · rw [hb] at k; cases k
    · exact k.trans (h.regsStaged hb)
  · rcases h_objs with k | k
    · rw [hb] at k; cases k
    · exact k.trans (h.objs hb)
  · rcases h_objsStaged with k | k
    · rw [hb] at k; cases k
    · exact k.trans (h.objsStaged hb)
  · rcases h_objGen with k | k
    · rw [hb] at k; cases k
    · exact k.trans (h.objGen hb)
  · rcases h_stats with k | k
    · rw [hb] at k; cases k
    · exact k.trans (h.stats hb)
  · rcases h_islands with k | k
    · rw [hb] at k; cases k
    · exact k.trans (h.islands hb)
  · rcases h_subs with k | k
    · rw [hb] at k; cases k
    · exact k.trans (h.subs hb)
  · rcases h_fresh with k | k
    · rw [hb] at k; cases k
    · exact k.trans (h.fresh hb)
  · rcases h_xing with k | k
    · rw [hb] at k; cases k
    · exact k.trans (h.xing hb)
  · rcases h_lost with k | k
    · rw [hb] at k; cases k
    · exact k.trans (h.lost hb)
  · rcases h_addrFaultRec with k | k
    · rw [hb] at k; cases k
    · exact k.trans (h.addrFaultRec hb)
  · rcases h_ctl with k | k
    · rw [hb] at k; cases k
    · exact k.trans (h.ctl hb)
  · rcases h_evt with k | k
    · rw [hb] at k; cases k
    · exact k.trans (h.evt hb)
  · rcases h_out with k | k
    · rw [hb] at k; cases k
    · exact k.trans (h.out hb)
  · rcases h_tl with k | k
    · rw [hb] at k; cases k
    · exact k.trans (h.tl hb)
  · rcases h_adm with k | k
    · rw [hb] at k; cases k
    · exact k.trans (h.adm hb)
  · rcases h_diong with k | k
    · rw [hb] at k; cases k
    · exact k.trans (h.diong hb)
  · rcases h_straps with k | k
    · rw [hb] at k; cases k
    · exact k.trans (h.straps hb)
  · rcases h_sec with k | k
    · rw [hb] at k; cases k
    · exact k.trans (h.sec hb)
  · rcases h_lo with k | k
    · rw [hb] at k; cases k
    · exact k.trans (h.lo hb)
  · rcases h_fe with k | k
    · rw [hb] at k; cases k
    · exact k.trans (h.fe hb)
  · rcases h_cvt with k | k
    · rw [hb] at k; cases k
    · exact k.trans (h.cvt hb)
  · rcases h_rx with k | k
    · rw [hb] at k; cases k
    · exact k.trans (h.rx hb)
  · rcases h_tx with k | k
    · rw [hb] at k; cases k
    · exact k.trans (h.tx hb)
  · rcases h_bm with k | k
    · rw [hb] at k; cases k
    · exact k.trans (h.bm hb)
  · rcases h_dpds with k | k
    · rw [hb] at k; cases k
    · exact k.trans (h.dpds hb)
  · rcases h_disp with k | k
    · rw [hb] at k; cases k
    · exact k.trans (h.disp hb)
  · rcases h_ge with k | k
    · rw [hb] at k; cases k
    · exact k.trans (h.ge hb)
  · rcases h_cal with k | k
    · rw [hb] at k; cases k
    · exact k.trans (h.cal hb)
  · rcases h_lnk with k | k
    · rw [hb] at k; cases k
    · exact k.trans (h.lnk hb)
  · rcases h_mem with k | k
    · rw [hb] at k; cases k
    · exact k.trans (h.mem hb)
  · rcases h_pwr with k | k
    · rw [hb] at k; cases k
    · exact k.trans (h.pwr hb)
  · rcases h_hk with k | k
    · rw [hb] at k; cases k
    · exact k.trans (h.hk hb)
  · rcases h_svc with k | k
    · rw [hb] at k; cases k
    · exact k.trans (h.svc hb)
  · rcases h_boot with k | k
    · rw [hb] at k; cases k
    · exact k.trans (h.boot hb)
  · rcases h_nv with k | k
    · rw [hb] at k; cases k
    · exact k.trans (h.nv hb)
  · rcases h_marks with k | k
    · rw [hb] at k; cases k
    · exact k.trans (h.marks hb)
  · rcases h_air with k | k
    · rw [hb] at k; cases k
    · exact k.trans (h.air hb)

/-- An outcome leaves the rest as it was when it is a next state that does. -/
def OutSame (m : Nat) (s0 : State) (r : Out) : Prop := ∃ t, r = .next t ∧ Same m s0 t

/-- An answer that may be none leaves the rest as it was when what it gives does. -/
def OptSame (m : Nat) (s0 : State) (r : Option (Nat × State)) : Prop := ∀ x, r = some x → Same m s0 x.2

theorem outSame_next {m : Nat} {s0 t : State} (h : Same m s0 t) : OutSame m s0 (.next t) := ⟨t, rfl, h⟩

theorem ctorIdx_lt (id : RegId) : id.ctorIdx < 255 := by cases id <;> decide

theorem any_bit {x : Nat} (id : RegId) (h : Sub x m) (k : Sub ((1 <<< 255 - 1) <<< 41) x) : m.testBit id.bit = true := by
  refine (k.trans h).bit ?_
  have hi := ctorIdx_lt id
  rw [RegId.bit, Nat.testBit_shiftLeft, Nat.one_shiftLeft, Nat.add_sub_cancel_left, Nat.testBit_two_pow_sub_one]
  simp [hi]

theorem same_foldl {α : Type} {f : State → α → State} {l : List α} (hf : ∀ t a, Same m s0 t → Same m s0 (f t a))
    (h : Same m s0 s) : Same m s0 (l.foldl f s) := by
  induction l generalizing s with
  | nil => exact h
  | cons a l ih => exact ih (hf s a h)

theorem same_foldl_snd {α β : Type} {f : β × State → α → β × State} {l : List α} {x : β × State}
    (hf : ∀ t a, Same m s0 t.2 → Same m s0 (f t a).2) (h : Same m s0 x.2) : Same m s0 (l.foldl f x).2 := by
  induction l generalizing x with
  | nil => exact h
  | cons a l ih => exact ih (hf x a h)

theorem same_foldl_trd {α β γ : Type} {f : β × γ × State → α → β × γ × State} {l : List α} {x : β × γ × State}
    (hf : ∀ t a, Same m s0 t.2.2 → Same m s0 (f t a).2.2) (h : Same m s0 x.2.2) : Same m s0 (l.foldl f x).2.2 := by
  induction l generalizing x with
  | nil => exact h
  | cons a l ih => exact ih (hf x a h)

theorem same_ite {c : Prop} [Decidable c] {a b : State} (ha : Same m s0 a) (hb : Same m s0 b) :
    Same m s0 (if c then a else b) := by
  split
  · exact ha
  · exact hb

theorem same_ite_snd {α : Type} {c : Prop} [Decidable c] {a b : α × State} (ha : Same m s0 a.2) (hb : Same m s0 b.2) :
    Same m s0 (if c then a else b).2 := by
  split
  · exact ha
  · exact hb

theorem same_ite_trd {α β : Type} {c : Prop} [Decidable c] {a b : α × β × State} (ha : Same m s0 a.2.2) (hb : Same m s0 b.2.2) :
    Same m s0 (if c then a else b).2.2 := by
  split
  · exact ha
  · exact hb

theorem same_eq_snd {α : Type} {x : α × State} {a : α} (e : x = (a, s)) (h : Same m s0 x.2) : Same m s0 s := by subst e; exact h

theorem same_eq_trd {α β : Type} {x : α × β × State} {a : α} {b : β} (e : x = (a, b, s)) (h : Same m s0 x.2.2) :
    Same m s0 s := by subst e; exact h

theorem same_eq_fth {α β γ : Type} {x : α × β × γ × State} {a : α} {b : β} {c : γ} (e : x = (a, b, c, s))
    (h : Same m s0 x.2.2.2) : Same m s0 s := by subst e; exact h

theorem optSame_none : OptSame m s0 none := fun _ h => by cases h

theorem optSame_some {x : Nat × State} (h : Same m s0 x.2) : OptSame m s0 (some x) := fun _ e => by cases e; exact h

theorem optSame_ite {c : Prop} [Decidable c] {a b : Option (Nat × State)} (ha : OptSame m s0 a) (hb : OptSame m s0 b) :
    OptSame m s0 (if c then a else b) := by
  split
  · exact ha
  · exact hb

theorem outSame_ite {c : Prop} [Decidable c] {a b : Out} (ha : OutSame m s0 a) (hb : OutSame m s0 b) :
    OutSame m s0 (if c then a else b) := by
  split
  · exact ha
  · exact hb

theorem ids_bit (ids : List RegId) (i : Nat) :
    (ids.foldr (fun r k => 1 <<< r.bit ||| k) 0).testBit i = ids.any (fun r => r.bit = i) := by
  induction ids with
  | nil => simp
  | cons r l ih => rw [List.foldr_cons, Nat.testBit_or, ih, Nat.one_shiftLeft, Nat.testBit_two_pow, List.any_cons]

theorem allow_bit (ps : List Part) (ids : List RegId) (i : Nat) :
    (allow ps ids).testBit i = (ps.any (fun p => p.ctorIdx = i) || ids.any (fun r => r.bit = i)) := by
  unfold allow
  induction ps with
  | nil => simp [ids_bit]
  | cons p l ih =>
    rw [List.foldr_cons, Nat.testBit_or, ih, Nat.one_shiftLeft, Nat.testBit_two_pow, List.any_cons, Bool.or_assoc]

theorem Part.idx_inj {p q : Part} (h : p.ctorIdx = q.ctorIdx) : p = q := by
  cases p <;> cases q <;> first | rfl | (exact absurd h (by decide))

theorem Part.idx_lt (p : Part) : p.ctorIdx < 41 := by cases p <;> decide

theorem RegId.idx_inj {p q : RegId} (h : p.ctorIdx = q.ctorIdx) : p = q := by
  have hp : RegId.ofNat p.ctorIdx = p := RegId.ofNat_ctorIdx p
  rw [← hp, h, RegId.ofNat_ctorIdx]

/-- A part not among those that may change. -/
theorem allow_part {ps : List Part} {ids : List RegId} {p : Part} (h : p ∉ ps) : (allow ps ids).testBit p.ctorIdx = false := by
  rw [allow_bit, Bool.or_eq_false_iff, List.any_eq_false, List.any_eq_false]
  refine ⟨fun q hq e => h ?_, fun r _ e => ?_⟩
  · rw [← Part.idx_inj (of_decide_eq_true e)]; exact hq
  · have := Part.idx_lt p
    have := of_decide_eq_true e
    unfold RegId.bit at this
    omega

/-- A register not among those that may change. -/
theorem allow_reg {ps : List Part} {ids : List RegId} {r : RegId} (h : (allow ps ids).testBit r.bit = true) : r ∈ ids := by
  rw [allow_bit, Bool.or_eq_true, List.any_eq_true, List.any_eq_true] at h
  rcases h with ⟨p, -, e⟩ | ⟨q, hq, e⟩
  · have := Part.idx_lt p
    have := of_decide_eq_true e
    unfold RegId.bit at this
    omega
  · have e := of_decide_eq_true e
    unfold RegId.bit at e
    rw [← RegId.idx_inj (Nat.add_left_cancel e)]
    exact hq

theorem allowAny_part {ps : List Part} {p : Part} (h : p ∉ .regs :: ps) : (allowAny ps).testBit p.ctorIdx = false := by
  rw [List.mem_cons, not_or] at h
  unfold allowAny
  rw [Nat.testBit_or, Nat.testBit_or, allow_part h.2, Bool.false_or, Bool.or_eq_false_iff]
  have hl := Part.idx_lt p
  refine ⟨?_, ?_⟩
  · rw [Nat.testBit_shiftLeft]
    simp only [Bool.and_eq_false_imp, decide_eq_true_eq]
    omega
  · have hn := h.1
    clear hl h
    cases p <;> first | rfl | (exact absurd rfl hn)

/-- A mask in the terms of the statements. -/
theorem Same.but {ps : List Part} {ids : List RegId} {s t : State} (h : Same (allow ps ids) s t) : SameBut ps ids s t where
  pending := h.pending
  regs := fun k a ha => h.regs (allow_part (p := .regs) k) a (fun id hid => ha id (allow_reg hid))
  clk := fun k => h.clk (allow_part (p := .clk) k)
  freeCtr := fun k => h.freeCtr (allow_part (p := .freeCtr) k)
  regsStaged := fun k => h.regsStaged (allow_part (p := .regsStaged) k)
  objs := fun k => h.objs (allow_part (p := .objs) k)
  objsStaged := fun k => h.objsStaged (allow_part (p := .objsStaged) k)
  objGen := fun k => h.objGen (allow_part (p := .objGen) k)
  stats := fun k => h.stats (allow_part (p := .stats) k)
  islands := fun k => h.islands (allow_part (p := .islands) k)
  subs := fun k => h.subs (allow_part (p := .subs) k)
  fresh := fun k => h.fresh (allow_part (p := .fresh) k)
  xing := fun k => h.xing (allow_part (p := .xing) k)
  lost := fun k => h.lost (allow_part (p := .lost) k)
  addrFaultRec := fun k => h.addrFaultRec (allow_part (p := .addrFaultRec) k)
  ctl := fun k => h.ctl (allow_part (p := .ctl) k)
  evt := fun k => h.evt (allow_part (p := .evt) k)
  out := fun k => h.out (allow_part (p := .out) k)
  tl := fun k => h.tl (allow_part (p := .tl) k)
  adm := fun k => h.adm (allow_part (p := .adm) k)
  diong := fun k => h.diong (allow_part (p := .diong) k)
  straps := fun k => h.straps (allow_part (p := .straps) k)
  sec := fun k => h.sec (allow_part (p := .sec) k)
  lo := fun k => h.lo (allow_part (p := .lo) k)
  fe := fun k => h.fe (allow_part (p := .fe) k)
  cvt := fun k => h.cvt (allow_part (p := .cvt) k)
  rx := fun k => h.rx (allow_part (p := .rx) k)
  tx := fun k => h.tx (allow_part (p := .tx) k)
  bm := fun k => h.bm (allow_part (p := .bm) k)
  dpds := fun k => h.dpds (allow_part (p := .dpds) k)
  disp := fun k => h.disp (allow_part (p := .disp) k)
  ge := fun k => h.ge (allow_part (p := .ge) k)
  cal := fun k => h.cal (allow_part (p := .cal) k)
  lnk := fun k => h.lnk (allow_part (p := .lnk) k)
  mem := fun k => h.mem (allow_part (p := .mem) k)
  pwr := fun k => h.pwr (allow_part (p := .pwr) k)
  hk := fun k => h.hk (allow_part (p := .hk) k)
  svc := fun k => h.svc (allow_part (p := .svc) k)
  boot := fun k => h.boot (allow_part (p := .boot) k)
  nv := fun k => h.nv (allow_part (p := .nv) k)
  marks := fun k => h.marks (allow_part (p := .marks) k)
  air := fun k => h.air (allow_part (p := .air) k)

/-- A mask under which any register may change, in the terms of the statements. -/
theorem Same.butAny {ps : List Part} {s t : State} (h : Same (allowAny ps) s t) : SameBut (.regs :: ps) [] s t where
  pending := h.pending
  regs := fun k => absurd List.mem_cons_self k
  clk := fun k => h.clk (allowAny_part (p := .clk) k)
  freeCtr := fun k => h.freeCtr (allowAny_part (p := .freeCtr) k)
  regsStaged := fun k => h.regsStaged (allowAny_part (p := .regsStaged) k)
  objs := fun k => h.objs (allowAny_part (p := .objs) k)
  objsStaged := fun k => h.objsStaged (allowAny_part (p := .objsStaged) k)
  objGen := fun k => h.objGen (allowAny_part (p := .objGen) k)
  stats := fun k => h.stats (allowAny_part (p := .stats) k)
  islands := fun k => h.islands (allowAny_part (p := .islands) k)
  subs := fun k => h.subs (allowAny_part (p := .subs) k)
  fresh := fun k => h.fresh (allowAny_part (p := .fresh) k)
  xing := fun k => h.xing (allowAny_part (p := .xing) k)
  lost := fun k => h.lost (allowAny_part (p := .lost) k)
  addrFaultRec := fun k => h.addrFaultRec (allowAny_part (p := .addrFaultRec) k)
  ctl := fun k => h.ctl (allowAny_part (p := .ctl) k)
  evt := fun k => h.evt (allowAny_part (p := .evt) k)
  out := fun k => h.out (allowAny_part (p := .out) k)
  tl := fun k => h.tl (allowAny_part (p := .tl) k)
  adm := fun k => h.adm (allowAny_part (p := .adm) k)
  diong := fun k => h.diong (allowAny_part (p := .diong) k)
  straps := fun k => h.straps (allowAny_part (p := .straps) k)
  sec := fun k => h.sec (allowAny_part (p := .sec) k)
  lo := fun k => h.lo (allowAny_part (p := .lo) k)
  fe := fun k => h.fe (allowAny_part (p := .fe) k)
  cvt := fun k => h.cvt (allowAny_part (p := .cvt) k)
  rx := fun k => h.rx (allowAny_part (p := .rx) k)
  tx := fun k => h.tx (allowAny_part (p := .tx) k)
  bm := fun k => h.bm (allowAny_part (p := .bm) k)
  dpds := fun k => h.dpds (allowAny_part (p := .dpds) k)
  disp := fun k => h.disp (allowAny_part (p := .disp) k)
  ge := fun k => h.ge (allowAny_part (p := .ge) k)
  cal := fun k => h.cal (allowAny_part (p := .cal) k)
  lnk := fun k => h.lnk (allowAny_part (p := .lnk) k)
  mem := fun k => h.mem (allowAny_part (p := .mem) k)
  pwr := fun k => h.pwr (allowAny_part (p := .pwr) k)
  hk := fun k => h.hk (allowAny_part (p := .hk) k)
  svc := fun k => h.svc (allowAny_part (p := .svc) k)
  boot := fun k => h.boot (allowAny_part (p := .boot) k)
  nv := fun k => h.nv (allowAny_part (p := .nv) k)
  marks := fun k => h.marks (allowAny_part (p := .marks) k)
  air := fun k => h.air (allowAny_part (p := .air) k)

/-- What an outcome leaves as it was. -/
theorem OutSame.next {s t : State} {r : Out} (h : OutSame m s r) (e : r = .next t) : Same m s t := by
  obtain ⟨u, hu, k⟩ := h
  rw [hu] at e
  cases e
  exact k

end Sys2Proof.Machine
end

