-- ==== Sys2Proof/Laws/SameOps.lean ====
section
/-! SUPPORT. What `Same` passes through: the shared operations of registers, time, paths, receive chain, beam matrix and predistortion. -/

namespace Sys2Proof.Machine

variable {m : Nat} {s0 : State}

/-! ## Ops -/

theorem State_setIsland_same {s : State} (i : Nat) (x : Island)
    (hp : Sub (allow [.islands] []) m) (h : Same m s0 s) :
    Same m s0 (State.setIsland s i x) := by
  unfold State.setIsland
  repeat' first
    | (with_reducible assumption) | (with_reducible exact Free.rfl) | (with_reducible refine Free.bit hp ?_; decide)
    | (with_reducible apply same_parts)
    | (simp only [same_mk_iff])

theorem wr_same {s : State} (id : RegId) (ix : List Nat) (v : Nat) (hb : m.testBit id.bit = true) (h : Same m s0 s) :
    Same m s0 (wr s id ix v) := by
  refine ⟨h.pending, h.clk, h.freeCtr, fun hr x hx d => ?_, h.regsStaged, h.objs, h.objsStaged, h.objGen, h.stats, h.islands, h.subs,
        h.fresh, h.xing, h.lost, h.addrFaultRec, h.ctl, h.evt, h.out, h.tl, h.adm, h.diong, h.straps, h.sec, h.lo, h.fe, h.cvt, h.rx, h.tx,
        h.bm, h.dpds, h.disp, h.ge, h.cal, h.lnk, h.mem, h.pwr, h.hk, h.svc, h.boot, h.nv, h.marks, h.air⟩
  exact (spGet_spPut_other _ d _ _ (Ne.symm (hx id hb ix))).trans (h.regs hr x hx d)

theorem wrFields_same {s : State} (id : RegId) (ix : List Nat) (v : Nat)
    (hp : Sub (allowAny []) m) (h : Same m s0 s) :
    Same m s0 (wrFields s id ix v) := by
  unfold wrFields
  repeat' first | (with_reducible assumption) | (with_reducible refine any_bit _ hp ?_; decide) | (with_reducible apply wr_same)

theorem State_setObj_same {s : State} (index : Nat) (sub : Nat) (v : ObjVal)
    (hp : Sub (allowAny [.objs, .objGen]) m) (h : Same m s0 s) :
    Same m s0 (State.setObj s index sub v) := by
  unfold State.setObj
  repeat' first
    | (with_reducible assumption) | (with_reducible exact Free.rfl) | (with_reducible refine Free.bit hp ?_; decide)
    | (with_reducible refine Sub.trans ?_ hp; decide) | (with_reducible refine any_bit _ hp ?_; decide)
    | (with_reducible apply wrFields_same) | (with_reducible apply wr_same) | (with_reducible refine same_foldl ?_ ?_; intro _ _ _)
    | (with_reducible apply same_parts)
    | (simp only [same_mk_iff]) | split

theorem State_setPobj_same {s : State} (p : Nat) (item : Nat) (v : Nat)
    (hp : Sub (allowAny [.objs, .objGen]) m) (h : Same m s0 s) :
    Same m s0 (State.setPobj s p item v) := by
  unfold State.setPobj
  repeat' first | (with_reducible assumption) | (with_reducible apply State_setObj_same)

theorem State_setPort_same {s : State} (n : Nat) (x : Port)
    (hp : Sub (allow [.lnk] []) m) (h : Same m s0 s) :
    Same m s0 (State.setPort s n x) := by
  unfold State.setPort
  repeat' first
    | (with_reducible assumption) | (with_reducible exact Free.rfl) | (with_reducible refine Free.bit hp ?_; decide)
    | (with_reducible apply same_parts)
    | (simp only [same_mk_iff])

theorem State_touch_same {s : State} (k : Nat)
    (hp : Sub (allow [.adm] []) m) (h : Same m s0 s) :
    Same m s0 (State.touch s k) := by
  unfold State.touch
  repeat' first
    | (with_reducible assumption) | (with_reducible exact Free.rfl) | (with_reducible refine Free.bit hp ?_; decide)
    | (with_reducible apply same_ite)
    | (with_reducible apply same_parts)
    | (simp only [same_mk_iff])

theorem wf_same {s : State} (id : RegId) (ix : List Nat) (hi lo v : Nat) (hb : m.testBit id.bit = true) (h : Same m s0 s) :
    Same m s0 (wf s id ix hi lo v) := wr_same _ _ _ hb h

theorem bumpField_same {s : State} (id : RegId) (ix : List Nat) (hi lo k : Nat) (hb : m.testBit id.bit = true) (h : Same m s0 s) :
    Same m s0 (bumpField s id ix hi lo k) := wf_same _ _ _ _ _ hb h

theorem coalesceAt_same {s : State} (src : Nat) (d : Nat)
    (hp : Sub (allow [] [.evtRpt]) m) (h : Same m s0 s) :
    Same m s0 (coalesceAt s src d) := by
  unfold coalesceAt
  repeat' first | (with_reducible assumption) | (with_reducible refine Sub.bit hp ?_; decide) | (with_reducible apply bumpField_same)

theorem raise_same {s : State} (src : Nat) (inst : Nat) (aux : Nat)
    (hp : Sub (allow [.evt] [.evtRpt]) m) (h : Same m s0 s) :
    Same m s0 (raise s src inst aux) := by
  unfold raise
  repeat' first
    | (with_reducible assumption) | (with_reducible exact Free.rfl) | (with_reducible refine Free.bit hp ?_; decide)
    | (with_reducible refine Sub.trans ?_ hp; decide) | (with_reducible apply coalesceAt_same) | (with_reducible apply same_ite)
    | (with_reducible refine same_foldl ?_ ?_; intro _ _ _)
    | (with_reducible apply same_parts)
    | (simp only [same_mk_iff])

theorem addrFault_same {s : State} (tag : Nat) (a : Nat)
    (hp : Sub (allow [.addrFaultRec, .evt] [.evtRpt]) m) (h : Same m s0 s) :
    Same m s0 (addrFault s tag a) := by
  unfold addrFault
  repeat' first
    | (with_reducible assumption) | (with_reducible exact Free.rfl) | (with_reducible refine Free.bit hp ?_; decide)
    | (with_reducible refine Sub.trans ?_ hp; decide) | (with_reducible apply raise_same)
    | (with_reducible apply same_parts)
    | (simp only [same_mk_iff])

theorem noteBit_same {s : State} (id : RegId) (ix : List Nat) (i : Nat)
    (hp : Sub (allow [.fresh] []) m) (h : Same m s0 s) :
    Same m s0 (noteBit s id ix i) := by
  unfold noteBit
  repeat' first
    | (with_reducible assumption) | (with_reducible exact Free.rfl) | (with_reducible refine Free.bit hp ?_; decide)
    | (with_reducible apply same_parts)
    | (simp only [same_mk_iff])

theorem askAgain_same {s : State} (id : RegId) (ix : List Nat) (i : Nat) (pending : Bool)
    (hp : Sub (allow [.fresh] []) m) (h : Same m s0 s) :
    Same m s0 (askAgain s id ix i pending) := by
  unfold askAgain
  repeat' first | (with_reducible assumption) | (with_reducible apply noteBit_same) | (with_reducible apply same_ite)

theorem bump_same {s : State} (id : RegId) (ix : List Nat) (k : Nat) (hb : m.testBit id.bit = true) (h : Same m s0 s) :
    Same m s0 (bump s id ix k) := wr_same _ _ _ hb h

theorem cease_same {s : State} (src : Nat) (inst : Nat)
    (hp : Sub (allow [.lnk] []) m) (h : Same m s0 s) :
    Same m s0 (cease s src inst) := by
  unfold cease
  repeat' first
    | (with_reducible assumption) | (with_reducible apply State_setPort_same) | (with_reducible apply same_ite)
    | (with_reducible refine same_foldl ?_ ?_; intro _ _ _)

theorem condOff_same {s : State} (src : Nat) (inst : Nat) (aux : Nat)
    (hp : Sub (allow [.evt, .lnk] []) m) (h : Same m s0 s) :
    Same m s0 (condOff s src inst aux) := by
  unfold condOff
  repeat' first
    | (with_reducible assumption) | (with_reducible exact Free.rfl) | (with_reducible refine Free.bit hp ?_; decide)
    | (with_reducible refine Sub.trans ?_ hp; decide) | (with_reducible apply cease_same) | (with_reducible apply same_ite)
    | (with_reducible apply same_parts)
    | (simp only [same_mk_iff])

theorem condOn_same {s : State} (src : Nat) (inst : Nat) (aux : Nat)
    (hp : Sub (allow [.evt] [.evtRpt]) m) (h : Same m s0 s) :
    Same m s0 (condOn s src inst aux) := by
  unfold condOn
  repeat' first
    | (with_reducible assumption) | (with_reducible exact Free.rfl) | (with_reducible refine Free.bit hp ?_; decide)
    | (with_reducible apply raise_same) | (with_reducible apply same_ite)
    | (with_reducible apply same_parts)
    | (simp only [same_mk_iff])

theorem draw_same {s : State} (bound : Nat)
    (hp : Sub (allow [.freeCtr] []) m) (h : Same m s0 s) :
    Same m s0 (draw s bound).2 := by
  unfold draw
  repeat' first
    | (with_reducible assumption) | (with_reducible exact Free.rfl) | (with_reducible refine Free.bit hp ?_; decide)
    | (with_reducible apply same_parts)
    | (simp only [same_mk_iff])

theorem drawBytes_same {s : State} (n : Nat)
    (hp : Sub (allow [.freeCtr] []) m) (h : Same m s0 s) :
    Same m s0 (drawBytes s n).2 := by
  unfold drawBytes
  repeat' first
    | (with_reducible assumption) | (with_reducible exact Free.rfl) | (with_reducible refine Free.bit hp ?_; decide)
    | (with_reducible apply same_parts)
    | (simp only [same_mk_iff])

theorem emit_same {s : State} (x1 : OutMsg)
    (hp : Sub (allow [.out] []) m) (h : Same m s0 s) :
    Same m s0 (emit s x1) := by
  unfold emit
  repeat' first
    | (with_reducible assumption) | (with_reducible exact Free.rfl) | (with_reducible refine Free.bit hp ?_; decide)
    | (with_reducible apply same_parts)
    | (simp only [same_mk_iff])

theorem firewall_same {s : State} (tag : Nat)
    (hp : Sub (allow [.evt] [.evtRpt]) m) (h : Same m s0 s) :
    Same m s0 (firewall s tag) := by
  unfold firewall
  repeat' first | (with_reducible assumption) | (with_reducible apply raise_same)

theorem markOn_same {s : State} (k : Nat)
    (hp : Sub (allow [.marks] []) m) (h : Same m s0 s) :
    Same m s0 (markOn s k) := by
  unfold markOn
  repeat' first
    | (with_reducible assumption) | (with_reducible exact Free.rfl) | (with_reducible refine Free.bit hp ?_; decide)
    | (with_reducible apply same_parts)
    | (simp only [same_mk_iff]) | split

theorem markOff_same {s : State} (k : Nat)
    (hp : Sub (allow [.marks] []) m) (h : Same m s0 s) :
    Same m s0 (markOff s k) := by
  unfold markOff
  repeat' first
    | (with_reducible assumption) | (with_reducible exact Free.rfl) | (with_reducible refine Free.bit hp ?_; decide)
    | (with_reducible apply same_parts)
    | (simp only [same_mk_iff]) | split

theorem markIf_same {s : State} (k : Nat) (b : Bool)
    (hp : Sub (allow [.marks] []) m) (h : Same m s0 s) :
    Same m s0 (markIf s k b) := by
  unfold markIf
  repeat' first
    | (with_reducible assumption) | (with_reducible apply markOn_same) | (with_reducible apply markOff_same)
    | (with_reducible apply same_ite)

theorem markSpan_same {s : State} (k : Nat) (a : Nat) (b : Nat)
    (hp : Sub (allow [.marks] []) m) (h : Same m s0 s) :
    Same m s0 (markSpan s k a b) := by
  unfold markSpan
  repeat' first
    | (with_reducible assumption) | (with_reducible exact Free.rfl) | (with_reducible refine Free.bit hp ?_; decide)
    | (with_reducible apply same_ite)
    | (with_reducible apply same_parts)
    | (simp only [same_mk_iff])

theorem wbit_same {s : State} (id : RegId) (ix : List Nat) (i : Nat) (b : Bool) (hb : m.testBit id.bit = true) (h : Same m s0 s) :
    Same m s0 (wbit s id ix i b) := wf_same _ _ _ _ _ hb h

theorem setFlag_same {s : State} (id : RegId) (ix : List Nat) (i : Nat) (hb : m.testBit id.bit = true) (hp : Sub (allow [.fresh] []) m) (h
        : Same m s0 s) :
    Same m s0 (setFlag s id ix i) := noteBit_same _ _ _ hp (wbit_same _ _ _ _ hb h)

theorem stat_same {s : State} (index : Nat) (sub : Nat) (n : optParam Nat 1)
    (hp : Sub (allow [.stats, .evt] [.evtRpt]) m) (h : Same m s0 s) :
    Same m s0 (stat s index sub n) := by
  unfold stat
  repeat' first
    | (with_reducible assumption) | (with_reducible exact Free.rfl) | (with_reducible refine Free.bit hp ?_; decide)
    | (with_reducible refine Sub.trans ?_ hp; decide) | (with_reducible apply raise_same) | (with_reducible apply same_ite)
    | (with_reducible apply same_parts)
    | (simp only [same_mk_iff])

theorem statPath_same {s : State} (p : Nat) (item : Nat) (n : optParam Nat 1)
    (hp : Sub (allow [.stats, .evt] [.evtRpt]) m) (h : Same m s0 s) :
    Same m s0 (statPath s p item n) := by
  unfold statPath
  repeat' first | (with_reducible assumption) | (with_reducible apply stat_same)

theorem subDown_same {s : State} (k : Nat)
    (hp : Sub (allow [.subs] []) m) (h : Same m s0 s) :
    Same m s0 (subDown s k) := by
  unfold subDown
  repeat' first
    | (with_reducible assumption) | (with_reducible exact Free.rfl) | (with_reducible refine Free.bit hp ?_; decide)
    | (with_reducible apply same_parts)
    | (simp only [same_mk_iff])

theorem subUp_same {s : State} (k : Nat)
    (hp : Sub (allow [.subs] []) m) (h : Same m s0 s) :
    Same m s0 (subUp s k) := by
  unfold subUp
  repeat' first
    | (with_reducible assumption) | (with_reducible exact Free.rfl) | (with_reducible refine Free.bit hp ?_; decide)
    | (with_reducible apply same_parts)
    | (simp only [same_mk_iff])

theorem tagged_same {s : State} (id : RegId) (ix : List Nat) (tag : Nat) {f : State → State} (ha : Same m s0 (f s)) (hp : Sub (allow [.evt,
        .out] [.evtRpt]) m) (h : Same m s0 s) :
    Same m s0 (tagged s id ix tag f) := by
  unfold tagged
  repeat' first
    | (with_reducible assumption) | (with_reducible refine Sub.trans ?_ hp; decide) | (with_reducible apply emit_same)
    | (with_reducible apply firewall_same) | split

theorem takeAgain_same {s : State} (id : RegId) (ix : List Nat) (i : Nat)
    (hp : Sub (allow [.fresh] []) m) (h : Same m s0 s) :
    Same m s0 (takeAgain s id ix i) := by
  unfold takeAgain
  repeat' first
    | (with_reducible assumption) | (with_reducible exact Free.rfl) | (with_reducible refine Free.bit hp ?_; decide)
    | (with_reducible apply same_parts)
    | (simp only [same_mk_iff])

theorem wrStaged_same {s : State} (id : RegId) (ix : List Nat) (v : Nat)
    (hp : Sub (allow [.regsStaged, .adm] []) m) (h : Same m s0 s) :
    Same m s0 (wrStaged s id ix v) := by
  unfold wrStaged
  repeat' first
    | (with_reducible assumption) | (with_reducible exact Free.rfl) | (with_reducible refine Free.bit hp ?_; decide)
    | (with_reducible refine Sub.trans ?_ hp; decide) | (with_reducible apply State_touch_same)
    | (with_reducible apply same_parts)
    | (simp only [same_mk_iff])

theorem writeFields_same {s : State} (id : RegId) (ix : List Nat) (v : Nat)
    (hp : Sub (allowAny [.regsStaged, .adm]) m) (h : Same m s0 s) :
    Same m s0 (writeFields s id ix v) := by
  unfold writeFields
  repeat' first
    | (with_reducible assumption) | (with_reducible refine Sub.trans ?_ hp; decide) | (with_reducible refine any_bit _ hp ?_; decide)
    | (with_reducible apply wrStaged_same) | (with_reducible apply wr_same) | (with_reducible apply same_ite)

/-! ## CoreOps -/

theorem checkForecast_same {s : State} (pool : Nat)
    (hp : Sub (allow [.evt, .lnk, .svc] [.evtRpt]) m) (h : Same m s0 s) :
    Same m s0 (checkForecast s pool) := by
  unfold checkForecast
  repeat' first
    | (with_reducible assumption) | (with_reducible exact Free.rfl) | (with_reducible refine Free.bit hp ?_; decide)
    | (with_reducible refine Sub.trans ?_ hp; decide) | (with_reducible apply condOn_same) | (with_reducible apply condOff_same)
    | (with_reducible apply same_ite) | (with_reducible refine same_foldl ?_ ?_; intro _ _ _)
    | (with_reducible apply same_parts)
    | (simp only [same_mk_iff])

theorem logWrite_same {s : State} (e : LogEntry)
    (hp : Sub (allow [.evt] [.evtRpt]) m) (h : Same m s0 s) :
    Same m s0 (logWrite s e) := by
  unfold logWrite
  repeat' first
    | (with_reducible assumption) | (with_reducible exact Free.rfl) | (with_reducible refine Free.bit hp ?_; decide)
    | (with_reducible apply raise_same) | (with_reducible apply same_ite)
    | (with_reducible apply same_parts)
    | (simp only [same_mk_iff])

theorem deliverCounted_same {s : State} (d : Nat) (f : Firing)
    (hp : Sub (allow [.evt, .lnk] [.evtRpt]) m) (h : Same m s0 s) :
    Same m s0 (deliverCounted s d f) := by
  unfold deliverCounted
  repeat' first
    | (with_reducible assumption) | (with_reducible exact Free.rfl) | (with_reducible refine Free.bit hp ?_; decide)
    | (with_reducible refine Sub.bit hp ?_; decide) | (with_reducible refine Sub.trans ?_ hp; decide) | (with_reducible apply wf_same)
    | (with_reducible apply State_setPort_same) | (with_reducible apply logWrite_same) | (with_reducible apply same_ite)
    | (with_reducible apply same_parts)
    | (simp only [same_mk_iff])

theorem clearFlag_same {s : State} (d : Nat) (src : Nat)
    (hp : Sub (allow [.evt, .lnk] [.evtRpt, .evtStk]) m) (h : Same m s0 s) :
    Same m s0 (clearFlag s d src) := by
  unfold clearFlag
  repeat' first
    | (with_reducible assumption) | (with_reducible refine Sub.bit hp ?_; decide) | (with_reducible refine Sub.trans ?_ hp; decide)
    | (with_reducible apply deliverCounted_same) | (with_reducible apply wf_same) | (with_reducible apply wbit_same)
    | (with_reducible apply same_ite) | split

theorem clearSticky_same {s : State} (d : Nat) (b : Nat) (bits : Nat)
    (hp : Sub (allow [.evt, .lnk] [.evtRpt, .evtStk]) m) (h : Same m s0 s) :
    Same m s0 (clearSticky s d b bits) := by
  unfold clearSticky
  repeat' first
    | (with_reducible assumption) | (with_reducible apply clearFlag_same) | (with_reducible apply same_ite)
    | (with_reducible refine same_foldl ?_ ?_; intro _ _ _)

theorem failPath_same {s : State} (p : Nat)
    (hp : Sub (allow [.fe, .bm] []) m) (h : Same m s0 s) :
    Same m s0 (failPath s p) := by
  unfold failPath
  repeat' first
    | (with_reducible assumption) | (with_reducible exact Free.rfl) | (with_reducible refine Free.bit hp ?_; decide)
    | (with_reducible apply same_ite)
    | (with_reducible apply same_parts)
    | (simp only [same_mk_iff])

theorem passTicks_same {s : State} (n : Nat)
    (hp : Sub (allow [.clk, .air] []) m) (h : Same m s0 s) :
    Same m s0 (passTicks s n) := by
  unfold passTicks
  repeat' first
    | (with_reducible assumption) | (with_reducible exact Free.rfl) | (with_reducible refine Free.bit hp ?_; decide)
    | (with_reducible apply same_parts)
    | (simp only [same_mk_iff])

theorem reachCount_same {s : State} (t : Nat)
    (hp : Sub (allow [.clk, .air] []) m) (h : Same m s0 s) :
    Same m s0 (reachCount s t) := by
  unfold reachCount
  repeat' first | (with_reducible assumption) | (with_reducible apply passTicks_same)

theorem reachElapsed_same {s : State} (t : Nat)
    (hp : Sub (allow [.clk, .air] []) m) (h : Same m s0 s) :
    Same m s0 (reachElapsed s t) := by
  unfold reachElapsed
  repeat' first | (with_reducible assumption) | (with_reducible apply passTicks_same)

theorem readmit_same {s : State}
    (hp : Sub (allow [.adm] []) m) (h : Same m s0 s) :
    Same m s0 (readmit s) := by
  unfold readmit
  repeat' first
    | (with_reducible assumption) | (with_reducible exact Free.rfl) | (with_reducible refine Free.bit hp ?_; decide)
    | (with_reducible apply same_parts)
    | (simp only [same_mk_iff])

theorem spareUsed_same {s : State} (kind : Nat) (i : Nat)
    (hp : Sub (allow [.evt, .lnk, .svc, .nv] [.evtRpt]) m) (h : Same m s0 s) :
    Same m s0 (spareUsed s kind i) := by
  unfold spareUsed
  repeat' first
    | (with_reducible assumption) | (with_reducible exact Free.rfl) | (with_reducible refine Free.bit hp ?_; decide)
    | (with_reducible refine Sub.trans ?_ hp; decide) | (with_reducible apply raise_same) | (with_reducible apply checkForecast_same)
    | (with_reducible apply same_ite)
    | (with_reducible apply same_parts)
    | (simp only [same_mk_iff])

theorem sramPoke_same {s : State} (addr : Nat) (b : List Byte)
    (hp : Sub (allow [.mem] []) m) (h : Same m s0 s) :
    Same m s0 (sramPoke s addr b) := by
  unfold sramPoke
  repeat' first
    | (with_reducible assumption) | (with_reducible exact Free.rfl) | (with_reducible refine Free.bit hp ?_; decide)
    | (with_reducible apply same_parts)
    | (simp only [same_mk_iff])

theorem sramWrite_same {s : State} (addr : Nat) (b : List Byte)
    (hp : Sub (allow [.mem] []) m) (h : Same m s0 s) :
    Same m s0 (sramWrite s addr b) := by
  unfold sramWrite
  repeat' first | (with_reducible assumption) | (with_reducible apply sramPoke_same)

theorem toBoundary_same {s : State} (key : Nat) (inst : Nat) (f : Nat → Nat)
    (hp : Sub (allow [.clk, .air] []) m) (h : Same m s0 s) :
    Same m s0 (toBoundary s key inst f) := by
  unfold toBoundary
  repeat' first
    | (with_reducible assumption) | (with_reducible exact Free.rfl) | (with_reducible refine Free.bit hp ?_; decide)
    | (with_reducible apply reachCount_same)
    | (with_reducible apply same_parts)
    | (simp only [same_mk_iff])

theorem toFrame_same {s : State} (key : Nat) (inst : Nat)
    (hp : Sub (allow [.clk, .air] []) m) (h : Same m s0 s) :
    Same m s0 (toFrame s key inst) := by
  unfold toFrame
  repeat' first | (with_reducible assumption) | (with_reducible apply toBoundary_same)

theorem toSlot_same {s : State} (key : Nat) (inst : Nat)
    (hp : Sub (allow [.clk, .air] []) m) (h : Same m s0 s) :
    Same m s0 (toSlot s key inst) := by
  unfold toSlot
  repeat' first | (with_reducible assumption) | (with_reducible apply toBoundary_same)

theorem toSymbol_same {s : State} (key : Nat) (inst : Nat)
    (hp : Sub (allow [.clk, .air] []) m) (h : Same m s0 s) :
    Same m s0 (toSymbol s key inst) := by
  unfold toSymbol
  repeat' first | (with_reducible assumption) | (with_reducible apply toBoundary_same)

/-! ## MemOps -/

theorem arbEnd_same {s : State} (a : Nat)
    (hp : Sub (allow [.mem] []) m) (h : Same m s0 s) :
    Same m s0 (arbEnd s a) := by
  unfold arbEnd
  repeat' first
    | (with_reducible assumption) | (with_reducible exact Free.rfl) | (with_reducible refine Free.bit hp ?_; decide)
    | (with_reducible apply same_parts)
    | (simp only [same_mk_iff])

theorem arbPhase_same {s : State} (a : Nat) (ports : List Nat) (beats : Nat)
    (hp : Sub (allow [.mem] []) m) (h : Same m s0 s) :
    Same m s0 (arbPhase s a ports beats) := by
  unfold arbPhase
  repeat' first
    | (with_reducible assumption) | (with_reducible exact Free.rfl) | (with_reducible refine Free.bit hp ?_; decide)
    | (with_reducible apply same_ite)
    | (with_reducible apply same_parts)
    | (simp only [same_mk_iff]) | split

theorem correctedError_same {s : State} (w : Nat)
    (hp : Sub (allow [.evt, .mem] [.evtRpt, .memBankCe]) m) (h : Same m s0 s) :
    Same m s0 (correctedError s w) := by
  unfold correctedError
  repeat' first
    | (with_reducible assumption) | (with_reducible exact Free.rfl) | (with_reducible refine Free.bit hp ?_; decide)
    | (with_reducible refine Sub.bit hp ?_; decide) | (with_reducible refine Sub.trans ?_ hp; decide) | (with_reducible apply raise_same)
    | (with_reducible apply bump_same)
    | (with_reducible apply same_parts)
    | (simp only [same_mk_iff]) | split

theorem dropParked_same {s : State} (p : Nat → Nat → Bool)
    (hp : Sub (allow [.mem] []) m) (h : Same m s0 s) :
    Same m s0 (dropParked s p) := by
  unfold dropParked
  repeat' first
    | (with_reducible assumption) | (with_reducible exact Free.rfl) | (with_reducible refine Free.bit hp ?_; decide)
    | (with_reducible apply same_parts)
    | (simp only [same_mk_iff])

theorem poisonWord_same {s : State} (w : Nat)
    (hp : Sub (allow [.mem] [.memBankUe]) m) (h : Same m s0 s) :
    Same m s0 (poisonWord s w) := by
  unfold poisonWord
  repeat' first
    | (with_reducible assumption) | (with_reducible exact Free.rfl) | (with_reducible refine Free.bit hp ?_; decide)
    | (with_reducible refine Sub.bit hp ?_; decide) | (with_reducible apply bump_same) | (with_reducible apply same_ite)
    | (with_reducible apply same_parts)
    | (simp only [same_mk_iff]) | split

theorem eccFound_same {s : State} (ce : List Nat) (ue : List Nat)
    (hp : Sub (allow [.evt, .mem] [.evtRpt, .memBankCe, .memBankUe]) m) (h : Same m s0 s) :
    Same m s0 (eccFound s ce ue) := by
  unfold eccFound
  repeat' first
    | (with_reducible assumption) | (with_reducible refine Sub.trans ?_ hp; decide) | (with_reducible apply poisonWord_same)
    | (with_reducible apply correctedError_same) | (with_reducible refine same_foldl ?_ ?_; intro _ _ _)

theorem grantSet_same {s : State}
    (hp : Sub (allow [.mem] []) m) (h : Same m s0 s) :
    Same m s0 (grantSet s) := by
  unfold grantSet
  repeat' first
    | (with_reducible assumption) | (with_reducible exact Free.rfl) | (with_reducible refine Free.bit hp ?_; decide)
    | (with_reducible apply same_ite)
    | (with_reducible apply same_parts)
    | (simp only [same_mk_iff]) | split

theorem memFault_same {s : State} (addr : Nat) (tag : Nat) (port : Nat) (kind : Nat)
    (hp : Sub (allow [] [.memFault]) m) (h : Same m s0 s) :
    Same m s0 (memFault s addr tag port kind) := by
  unfold memFault
  repeat' first | (with_reducible assumption) | (with_reducible refine Sub.bit hp ?_; decide) | (with_reducible apply wr_same)

theorem retireBank_same {s : State} (b : Nat)
    (hp : Sub (allow [.subs, .mem] [.memBankStat]) m) (h : Same m s0 s) :
    Same m s0 (retireBank s b) := by
  unfold retireBank
  repeat' first
    | (with_reducible assumption) | (with_reducible exact Free.rfl) | (with_reducible refine Free.bit hp ?_; decide)
    | (with_reducible refine Sub.bit hp ?_; decide) | (with_reducible refine Sub.trans ?_ hp; decide)
    | (with_reducible apply subDown_same) | (with_reducible apply wf_same)
    | (with_reducible apply same_parts)
    | (simp only [same_mk_iff])

theorem saveBanks_same {s : State}
    (hp : Sub (allow [.nv] []) m) (h : Same m s0 s) :
    Same m s0 (saveBanks s) := by
  unfold saveBanks
  repeat' first
    | (with_reducible assumption) | (with_reducible exact Free.rfl) | (with_reducible refine Free.bit hp ?_; decide)
    | (with_reducible apply same_parts)
    | (simp only [same_mk_iff])

theorem migrationEnd_same {s : State} (b : Nat) (n : Nat)
    (hp : Sub (allow [.subs, .evt, .lnk, .mem, .svc, .nv] [.evtRpt, .memBankStat]) m) (h : Same m s0 s) :
    Same m s0 (migrationEnd s b n) := by
  unfold migrationEnd
  repeat' first
    | (with_reducible assumption) | (with_reducible exact Free.rfl) | (with_reducible refine Free.bit hp ?_; decide)
    | (with_reducible refine Sub.bit hp ?_; decide) | (with_reducible refine Sub.trans ?_ hp; decide) | (with_reducible apply wf_same)
    | (with_reducible apply retireBank_same) | (with_reducible apply spareUsed_same) | (with_reducible apply saveBanks_same)
    | (with_reducible apply raise_same)
    | (with_reducible apply same_parts)
    | (simp only [same_mk_iff])

theorem poisonRead_same {s : State} (off : Nat) (n : Nat) (tag : Nat) (port : Nat)
    (hp : Sub (allow [.evt] [.evtRpt, .memFault]) m) (h : Same m s0 s) :
    Same m s0 (poisonRead s off n tag port) := by
  unfold poisonRead
  repeat' first
    | (with_reducible assumption) | (with_reducible refine Sub.trans ?_ hp; decide) | (with_reducible apply raise_same)
    | (with_reducible apply memFault_same) | (with_reducible refine same_foldl ?_ ?_; intro _ _ _)

theorem spareBankOut_same {s : State} (b : Nat)
    (hp : Sub (allow [.subs, .evt, .adm, .mem, .nv] [.evtRpt, .memBankStat]) m) (h : Same m s0 s) :
    Same m s0 (spareBankOut s b) := by
  unfold spareBankOut
  repeat' first
    | (with_reducible assumption) | (with_reducible exact Free.rfl) | (with_reducible refine Free.bit hp ?_; decide)
    | (with_reducible refine Sub.bit hp ?_; decide) | (with_reducible refine Sub.trans ?_ hp; decide) | (with_reducible apply wf_same)
    | (with_reducible apply retireBank_same) | (with_reducible apply readmit_same) | (with_reducible apply saveBanks_same)
    | (with_reducible apply raise_same) | (with_reducible apply same_ite)
    | (with_reducible apply same_parts)
    | (simp only [same_mk_iff]) | split

theorem sramRead_same {s : State} (x1 : Master) (tag : Nat) (ring : Option Nat) (port : Nat) (off : Nat) (n : Nat)
    (hp : Sub (allow [.evt] [.evtRpt, .memFault]) m) (h : Same m s0 s) :
    Same m s0 (sramRead s x1 tag ring port off n).2.2 := by
  unfold sramRead
  repeat' first
    | (with_reducible assumption) | (with_reducible refine Sub.trans ?_ hp; decide) | (with_reducible apply firewall_same)
    | (with_reducible apply poisonRead_same) | (with_reducible apply same_ite_trd)

theorem sramStore_same {s : State} (off : Nat) (b : List Byte)
    (hp : Sub (allow [.mem] []) m) (h : Same m s0 s) :
    Same m s0 (sramStore s off b) := by
  unfold sramStore
  repeat' first
    | (with_reducible assumption) | (with_reducible exact Free.rfl) | (with_reducible refine Free.bit hp ?_; decide)
    | (with_reducible apply same_parts)
    | (simp only [same_mk_iff])

theorem sramWriteBy_same {s : State} (x1 : Master) (tag : Nat) (ring : Option Nat) (off : Nat) (b : List Byte)
    (hp : Sub (allow [.evt, .mem] [.evtRpt]) m) (h : Same m s0 s) :
    Same m s0 (sramWriteBy s x1 tag ring off b).2 := by
  unfold sramWriteBy
  repeat' first
    | (with_reducible assumption) | (with_reducible refine Sub.trans ?_ hp; decide) | (with_reducible apply firewall_same)
    | (with_reducible apply sramStore_same) | (with_reducible apply same_ite_snd)

/-! ## PathOps -/

theorem State_setBuf_same {s : State} (b : Nat) (x : CapBuf)
    (hp : Sub (allow [.cvt] []) m) (h : Same m s0 s) :
    Same m s0 (State.setBuf s b x) := by
  unfold State.setBuf
  repeat' first
    | (with_reducible assumption) | (with_reducible exact Free.rfl) | (with_reducible refine Free.bit hp ?_; decide)
    | (with_reducible apply same_parts)
    | (simp only [same_mk_iff])

theorem State_setConv_same {s : State} (k : Nat) (x : Conv)
    (hp : Sub (allow [.cvt] []) m) (h : Same m s0 s) :
    Same m s0 (State.setConv s k x) := by
  unfold State.setConv
  repeat' first
    | (with_reducible assumption) | (with_reducible exact Free.rfl) | (with_reducible refine Free.bit hp ?_; decide)
    | (with_reducible apply same_parts)
    | (simp only [same_mk_iff])

theorem State_setDac_same {s : State} (d : Nat) (x : DacCells)
    (hp : Sub (allow [.cvt] []) m) (h : Same m s0 s) :
    Same m s0 (State.setDac s d x) := by
  unfold State.setDac
  repeat' first
    | (with_reducible assumption) | (with_reducible exact Free.rfl) | (with_reducible refine Free.bit hp ?_; decide)
    | (with_reducible apply same_parts)
    | (simp only [same_mk_iff])

theorem State_setFe_same {s : State} (p : Nat) (x : PathFe)
    (hp : Sub (allow [.fe] []) m) (h : Same m s0 s) :
    Same m s0 (State.setFe s p x) := by
  unfold State.setFe
  repeat' first
    | (with_reducible assumption) | (with_reducible exact Free.rfl) | (with_reducible refine Free.bit hp ?_; decide)
    | (with_reducible apply same_parts)
    | (simp only [same_mk_iff])

theorem State_setOrx_same {s : State} (r : Nat) (x : Orx)
    (hp : Sub (allow [.cvt] []) m) (h : Same m s0 s) :
    Same m s0 (State.setOrx s r x) := by
  unfold State.setOrx
  repeat' first
    | (with_reducible assumption) | (with_reducible exact Free.rfl) | (with_reducible refine Free.bit hp ?_; decide)
    | (with_reducible apply same_parts)
    | (simp only [same_mk_iff])

theorem State_setSyn_same {s : State} (n : Nat) (x : Syn)
    (hp : Sub (allow [.lo] []) m) (h : Same m s0 s) :
    Same m s0 (State.setSyn s n x) := by
  unfold State.setSyn
  repeat' first
    | (with_reducible assumption) | (with_reducible exact Free.rfl) | (with_reducible refine Free.bit hp ?_; decide)
    | (with_reducible apply same_parts)
    | (simp only [same_mk_iff])

theorem discardCapture_same {s : State} (p : Nat) (b : Nat)
    (hp : Sub (allow [.stats, .evt] [.evtRpt]) m) (h : Same m s0 s) :
    Same m s0 (discardCapture s p b) := by
  unfold discardCapture
  repeat' first
    | (with_reducible assumption) | (with_reducible refine Sub.trans ?_ hp; decide) | (with_reducible apply raise_same)
    | (with_reducible apply statPath_same)

theorem openCapture_same {s : State} (p : Nat) (st : Nat) (b : Nat) (n : Nat) (src : Nat)
    (hp : Sub (allow [.stats, .evt, .cvt] [.capStat, .evtRpt]) m) (h : Same m s0 s) :
    Same m s0 (openCapture s p st b n src) := by
  unfold openCapture
  repeat' first
    | (with_reducible assumption) | (with_reducible exact Free.rfl) | (with_reducible refine Free.bit hp ?_; decide)
    | (with_reducible refine Sub.bit hp ?_; decide) | (with_reducible refine Sub.trans ?_ hp; decide)
    | (with_reducible apply discardCapture_same) | (with_reducible apply State_setBuf_same) | (with_reducible apply wf_same)
    | (with_reducible apply same_ite)
    | (with_reducible apply same_parts)
    | (simp only [same_mk_iff])

theorem openDue_same {s : State} (r : Nat)
    (hp : Sub (allow [.stats, .evt, .cvt] [.capStat, .evtRpt]) m) (h : Same m s0 s) :
    Same m s0 (openDue s r) := by
  unfold openDue
  repeat' first
    | (with_reducible assumption) | (with_reducible refine Sub.trans ?_ hp; decide) | (with_reducible apply openCapture_same)
    | (with_reducible apply State_setOrx_same) | (with_reducible apply State_setBuf_same) | (with_reducible apply same_ite)
    | (simp only [same_mk_iff]) | split

theorem abortVisit_same {s' : State} (r : Nat)
    (hp : Sub (allow [.stats, .evt, .cvt] [.capStat, .evtRpt]) m) (h : Same m s0 s') :
    Same m s0 (abortVisit s' r) := by
  unfold abortVisit
  repeat' first
    | (with_reducible assumption) | (with_reducible exact Free.rfl) | (with_reducible refine Free.bit hp ?_; decide)
    | (with_reducible refine Sub.bit hp ?_; decide) | (with_reducible refine Sub.trans ?_ hp; decide)
    | (with_reducible apply openDue_same) | (with_reducible apply State_setOrx_same) | (with_reducible apply wf_same)
    | (with_reducible apply State_setBuf_same) | (with_reducible apply same_ite)
    | (with_reducible apply same_parts)
    | (simp only [same_mk_iff]) | split

theorem markSilent_same {s : State} (p : Nat)
    (hp : Sub (allow [.marks] []) m) (h : Same m s0 s) :
    Same m s0 (markSilent s p) := by
  unfold markSilent
  repeat' first | (with_reducible assumption) | (with_reducible apply markIf_same)

theorem dwellsOff_same {s : State} (p : Nat)
    (hp : Sub (allow [.cvt] []) m) (h : Same m s0 s) :
    Same m s0 (dwellsOff s p) := by
  unfold dwellsOff
  repeat' first
    | (with_reducible assumption) | (with_reducible apply State_setDac_same) | (with_reducible apply same_ite)
    | (with_reducible refine same_foldl ?_ ?_; intro _ _ _)

theorem truncCapture_same {s : State} (p : Nat)
    (hp : Sub (allow [.cvt] []) m) (h : Same m s0 s) :
    Same m s0 (truncCapture s p) := by
  unfold truncCapture
  repeat' first
    | (with_reducible assumption) | (with_reducible apply State_setBuf_same) | (with_reducible apply same_ite) | (simp only [same_mk_iff])
    | split

theorem clockConv_same {s : State} (k : Nat)
    (hp : Sub (allow [.cvt] []) m) (h : Same m s0 s) :
    Same m s0 (clockConv s k) := by
  unfold clockConv
  repeat' first | (with_reducible assumption) | (with_reducible apply State_setConv_same) | (simp only [same_mk_iff]) | split

theorem clockPath_same {s : State} (p : Nat)
    (hp : Sub (allow [.cvt] []) m) (h : Same m s0 s) :
    Same m s0 (clockPath s p) := by
  unfold clockPath
  repeat' first | (with_reducible assumption) | (with_reducible apply clockConv_same)

theorem gainChanged_same {s : State} (p : Nat)
    (hp : Sub (allow [.rx] []) m) (h : Same m s0 s) :
    Same m s0 (gainChanged s p) := by
  unfold gainChanged
  repeat' first
    | (with_reducible assumption) | (with_reducible exact Free.rfl) | (with_reducible refine Free.bit hp ?_; decide)
    | (with_reducible apply same_parts)
    | (simp only [same_mk_iff])

theorem setInput_same {s : State} (p : Nat) (i : RxInput)
    (hp : Sub (allow [.cvt, .rx] []) m) (h : Same m s0 s) :
    Same m s0 (setInput s p i) := by
  unfold setInput
  repeat' first
    | (with_reducible assumption) | (with_reducible exact Free.rfl) | (with_reducible refine Free.bit hp ?_; decide)
    | (with_reducible refine Sub.trans ?_ hp; decide) | (with_reducible apply State_setBuf_same) | (with_reducible apply clockPath_same)
    | (with_reducible apply gainChanged_same) | (with_reducible apply same_ite)
    | (with_reducible apply same_parts)
    | (simp only [same_mk_iff]) | split

theorem startTurnAt_same {s : State} (p : Nat) (ph : PinPhase) (start : Nat)
    (hp : Sub (allow [.fe, .cvt, .rx] []) m) (h : Same m s0 s) :
    Same m s0 (startTurnAt s p ph start) := by
  unfold startTurnAt
  repeat' first
    | (with_reducible assumption) | (with_reducible refine Sub.trans ?_ hp; decide) | (with_reducible apply truncCapture_same)
    | (with_reducible apply State_setFe_same) | (with_reducible apply setInput_same) | (with_reducible apply same_ite)
    | (simp only [same_mk_iff]) | split

theorem startTurn_same {s : State} (p : Nat) (ph : PinPhase)
    (hp : Sub (allow [.fe, .cvt, .rx] []) m) (h : Same m s0 s) :
    Same m s0 (startTurn s p ph) := by
  unfold startTurn
  repeat' first | (with_reducible assumption) | (with_reducible apply startTurnAt_same)

theorem pathOff_same {s : State} (p : Nat)
    (hp : Sub (allow [.tl, .fe, .cvt, .rx, .marks] []) m) (h : Same m s0 s) :
    Same m s0 (pathOff s p) := by
  unfold pathOff
  repeat' first
    | (with_reducible assumption) | (with_reducible exact Free.rfl) | (with_reducible refine Free.bit hp ?_; decide)
    | (with_reducible refine Sub.trans ?_ hp; decide) | (with_reducible apply markSilent_same) | (with_reducible apply dwellsOff_same)
    | (with_reducible apply startTurn_same) | (with_reducible apply same_ite)
    | (with_reducible apply same_parts)
    | (simp only [same_mk_iff])

theorem allPathsOff_same {s : State}
    (hp : Sub (allow [.tl, .fe, .cvt, .rx, .marks] []) m) (h : Same m s0 s) :
    Same m s0 (allPathsOff s) := by
  unfold allPathsOff
  repeat' first | (with_reducible assumption) | (with_reducible apply pathOff_same) | (with_reducible refine same_foldl ?_ ?_; intro _ _ _)

theorem blankSymbols_same {s : State} (p : Nat) (n : Nat)
    (hp : Sub (allow [.stats, .evt, .fe, .marks] [.evtRpt]) m) (h : Same m s0 s) :
    Same m s0 (blankSymbols s p n) := by
  unfold blankSymbols
  repeat' first
    | (with_reducible assumption) | (with_reducible refine Sub.trans ?_ hp; decide) | (with_reducible apply markSilent_same)
    | (with_reducible apply State_setFe_same) | (with_reducible apply statPath_same) | (with_reducible apply raise_same)
    | (with_reducible apply same_ite)

theorem txLost_same {s : State}
    (hp : Sub (allow [.lo, .marks] []) m) (h : Same m s0 s) :
    Same m s0 (txLost s) := by
  unfold txLost
  repeat' first
    | (with_reducible assumption) | (with_reducible exact Free.rfl) | (with_reducible refine Free.bit hp ?_; decide)
    | (with_reducible refine Sub.trans ?_ hp; decide) | (with_reducible apply markSpan_same) | (with_reducible apply same_ite)
    | (with_reducible apply same_parts)
    | (simp only [same_mk_iff])

theorem txDrop_same {s : State}
    (hp : Sub (allow [.stats, .evt, .lo, .fe, .marks] [.evtRpt]) m) (h : Same m s0 s) :
    Same m s0 (txDrop s) := by
  unfold txDrop
  repeat' first
    | (with_reducible assumption) | (with_reducible refine Sub.trans ?_ hp; decide) | (with_reducible apply blankSymbols_same)
    | (with_reducible apply txLost_same) | (with_reducible apply same_ite) | (with_reducible refine same_foldl ?_ ?_; intro _ _ _)

theorem rxDrop_same {s : State}
    (hp : Sub (allow [.lo, .marks] []) m) (h : Same m s0 s) :
    Same m s0 (rxDrop s) := by
  unfold rxDrop
  repeat' first
    | (with_reducible assumption) | (with_reducible exact Free.rfl) | (with_reducible refine Free.bit hp ?_; decide)
    | (with_reducible refine Sub.trans ?_ hp; decide) | (with_reducible apply markSpan_same) | (with_reducible apply same_ite)
    | (with_reducible apply same_parts)
    | (simp only [same_mk_iff])

theorem trunkDrop_same {s : State} (n : Nat)
    (hp : Sub (allow [.stats, .evt, .lo, .fe, .marks] [.evtRpt]) m) (h : Same m s0 s) :
    Same m s0 (trunkDrop s n) := by
  unfold trunkDrop
  repeat' first
    | (with_reducible assumption) | (with_reducible refine Sub.trans ?_ hp; decide) | (with_reducible apply txDrop_same)
    | (with_reducible apply rxDrop_same) | (with_reducible apply same_ite)

theorem synHoldover_same {s : State} (n : Nat)
    (hp : Sub (allow [.stats, .evt, .lo, .fe, .marks] [.evtRpt]) m) (h : Same m s0 s) :
    Same m s0 (synHoldover s n) := by
  unfold synHoldover
  repeat' first
    | (with_reducible assumption) | (with_reducible refine Sub.trans ?_ hp; decide) | (with_reducible apply raise_same)
    | (with_reducible apply State_setSyn_same) | (with_reducible apply trunkDrop_same) | (with_reducible apply same_ite)
    | (simp only [same_mk_iff]) | split

theorem tuneWord_same {s : State} (n : Nat) (preset : Nat) (w : Nat)
    (hp : Sub (allow [.stats, .evt, .lo, .fe, .marks] [.evtRpt]) m) (h : Same m s0 s) :
    Same m s0 (tuneWord s n preset w) := by
  unfold tuneWord
  repeat' first
    | (with_reducible assumption) | (with_reducible refine Sub.trans ?_ hp; decide) | (with_reducible apply State_setSyn_same)
    | (with_reducible apply trunkDrop_same) | (with_reducible apply synHoldover_same) | (with_reducible apply same_ite)

theorem applyForced_same {s : State} (n : Nat)
    (hp : Sub (allow [.stats, .evt, .lo, .fe, .marks] [.evtRpt]) m) (h : Same m s0 s) :
    Same m s0 (applyForced s n) := by
  unfold applyForced
  repeat' first
    | (with_reducible assumption) | (with_reducible exact Free.rfl) | (with_reducible refine Free.bit hp ?_; decide)
    | (with_reducible apply tuneWord_same)
    | (with_reducible apply same_parts)
    | (simp only [same_mk_iff]) | split

theorem attApplies_same {s : State} (p : Nat) (ps : PathState)
    (hp : Sub (allow [.tx] []) m) (h : Same m s0 s) :
    Same m s0 (attApplies s p ps) := by
  unfold attApplies
  repeat' first
    | (with_reducible assumption) | (with_reducible exact Free.rfl) | (with_reducible refine Free.bit hp ?_; decide)
    | (with_reducible apply same_ite)
    | (with_reducible apply same_parts)
    | (simp only [same_mk_iff])

theorem clockAll_same {s : State}
    (hp : Sub (allow [.cvt] []) m) (h : Same m s0 s) :
    Same m s0 (clockAll s) := by
  unfold clockAll
  repeat' first
    | (with_reducible assumption) | (with_reducible apply clockConv_same) | (with_reducible refine same_foldl ?_ ?_; intro _ _ _)

theorem retune_same {s : State} (n : Nat) (preset : Nat) (w : Nat)
    (hp : Sub (allow [.stats, .evt, .lo, .fe, .marks] [.evtRpt]) m) (h : Same m s0 s) :
    Same m s0 (retune s n preset w) := by
  unfold retune
  repeat' first
    | (with_reducible assumption) | (with_reducible exact Free.rfl) | (with_reducible refine Free.bit hp ?_; decide)
    | (with_reducible apply tuneWord_same) | (with_reducible apply same_ite)
    | (with_reducible apply same_parts)
    | (simp only [same_mk_iff])

theorem commitTune_same {s : State} (n : Nat) (preset : Nat) (w : Nat)
    (hp : Sub (allow [.stats, .evt, .lo, .fe, .marks] [.evtRpt]) m) (h : Same m s0 s) :
    Same m s0 (commitTune s n preset w) := by
  unfold commitTune
  repeat' first
    | (with_reducible assumption) | (with_reducible apply tuneWord_same) | (with_reducible apply retune_same)
    | (with_reducible apply same_ite)

theorem saveConv_same {s : State} (k : Nat)
    (hp : Sub (allow [.nv] []) m) (h : Same m s0 s) :
    Same m s0 (saveConv s k) := by
  unfold saveConv
  repeat' first
    | (with_reducible assumption) | (with_reducible exact Free.rfl) | (with_reducible refine Free.bit hp ?_; decide)
    | (with_reducible apply same_parts)
    | (simp only [same_mk_iff])

theorem orxFails_same {s : State} (r : Nat)
    (hp : Sub (allow [.evt, .adm, .cvt] [.evtRpt]) m) (h : Same m s0 s) :
    Same m s0 (orxFails s r) := by
  unfold orxFails
  repeat' first
    | (with_reducible assumption) | (with_reducible refine Sub.trans ?_ hp; decide) | (with_reducible apply State_setOrx_same)
    | (with_reducible apply readmit_same) | (with_reducible apply raise_same) | (with_reducible apply clockConv_same)

theorem convFails_same {s : State} (k : Nat) (slice : Nat)
    (hp : Sub (allow [.evt, .adm, .fe, .cvt, .bm, .nv, .marks] [.evtRpt]) m) (h : Same m s0 s) :
    Same m s0 (convFails s k slice) := by
  unfold convFails
  repeat' first
    | (with_reducible assumption) | (with_reducible refine Sub.trans ?_ hp; decide) | (with_reducible apply markSpan_same)
    | (with_reducible apply saveConv_same) | (with_reducible apply clockConv_same) | (with_reducible apply State_setConv_same)
    | (with_reducible apply failPath_same) | (with_reducible apply raise_same) | (with_reducible apply orxFails_same)
    | (with_reducible apply same_ite)

theorem openVisits_same {s : State}
    (hp : Sub (allow [.stats, .evt, .cvt] [.capStat, .evtRpt]) m) (h : Same m s0 s) :
    Same m s0 (openVisits s) := by
  unfold openVisits
  repeat' first | (with_reducible assumption) | (with_reducible apply openDue_same) | (with_reducible refine same_foldl ?_ ?_; intro _ _ _)

theorem storePieces_same {s : State} (cl : Nat) (d : Nat) (l : List (Nat × List Byte))
    (hp : Sub (allow [.addrFaultRec, .evt, .mem] [.evtRpt]) m) (h : Same m s0 s) :
    Same m s0 (storePieces s cl d l) := by
  unfold storePieces
  repeat' first
    | (with_reducible assumption) | (with_reducible refine Sub.trans ?_ hp; decide) | (with_reducible apply addrFault_same)
    | (with_reducible apply sramWriteBy_same) | (with_reducible apply same_ite) | (with_reducible refine same_foldl ?_ ?_; intro _ _ _)

theorem drainCapture_same {s' : State} (b : Nat) (xs : List Cplx) (zs : List Cplx) (ovr : Bool)
    (hp : Sub (allow [.stats, .addrFaultRec, .evt, .cvt, .mem] [.capStat, .evtRpt]) m) (h : Same m s0 s') :
    Same m s0 (drainCapture s' b xs zs ovr) := by
  unfold drainCapture
  repeat' first
    | (with_reducible assumption) | (with_reducible exact Free.rfl) | (with_reducible refine Free.bit hp ?_; decide)
    | (with_reducible refine Sub.bit hp ?_; decide) | (with_reducible refine Sub.trans ?_ hp; decide)
    | (with_reducible apply openVisits_same) | (with_reducible apply storePieces_same) | (with_reducible apply State_setBuf_same)
    | (with_reducible apply wr_same)
    | (with_reducible apply same_parts)
    | (simp only [same_mk_iff])

theorem dropEvent_same {s : State}
    (hp : Sub (allow [.evt, .tl] [.evtRpt, .tlEvtDrop]) m) (h : Same m s0 s) :
    Same m s0 (dropEvent s) := by
  unfold dropEvent
  repeat' first
    | (with_reducible assumption) | (with_reducible exact Free.rfl) | (with_reducible refine Free.bit hp ?_; decide)
    | (with_reducible refine Sub.bit hp ?_; decide) | (with_reducible refine Sub.trans ?_ hp; decide) | (with_reducible apply bump_same)
    | (with_reducible apply raise_same) | (with_reducible apply same_ite)
    | (with_reducible apply same_parts)
    | (simp only [same_mk_iff])

theorem dwellEnd_same {s : State} (d : Nat) (trim : Nat) (good : Bool)
    (hp : Sub (allow [.evt, .cvt, .lnk, .svc, .nv] [.evtRpt]) m) (h : Same m s0 s) :
    Same m s0 (dwellEnd s d trim good) := by
  unfold dwellEnd
  repeat' first
    | (with_reducible assumption) | (with_reducible exact Free.rfl) | (with_reducible refine Free.bit hp ?_; decide)
    | (with_reducible refine Sub.trans ?_ hp; decide) | (with_reducible apply State_setDac_same) | (with_reducible apply spareUsed_same)
    | (with_reducible apply raise_same) | (with_reducible apply same_ite)
    | (with_reducible apply same_parts)
    | (simp only [same_mk_iff])

theorem sliceRetired_same {s : State} (k : Nat)
    (hp : Sub (allow [.evt, .lnk, .svc, .nv] [.evtRpt]) m) (h : Same m s0 s) :
    Same m s0 (sliceRetired s k) := by
  unfold sliceRetired
  repeat' first
    | (with_reducible assumption) | (with_reducible refine Sub.trans ?_ hp; decide) | (with_reducible apply spareUsed_same)
    | (with_reducible apply saveConv_same) | (with_reducible apply raise_same)

theorem spurEdge_same {s : State} (j : Nat)
    (hp : Sub (allow [.marks] []) m) (h : Same m s0 s) :
    Same m s0 (spurEdge s j) := by
  unfold spurEdge
  repeat' first | (with_reducible assumption) | (with_reducible apply markIf_same)

theorem emergencySwap_same {s : State} (k : Nat) (slice : Nat)
    (hp : Sub (allow [.stats, .evt, .adm, .fe, .cvt, .bm, .lnk, .svc, .nv, .marks] [.capStat, .evtRpt]) m) (h : Same m s0 s) :
    Same m s0 (emergencySwap s k slice) := by
  unfold emergencySwap
  repeat' first
    | (with_reducible assumption) | (with_reducible refine Sub.trans ?_ hp; decide) | (with_reducible apply convFails_same)
    | (with_reducible apply markSpan_same) | (with_reducible apply State_setConv_same) | (with_reducible apply raise_same)
    | (with_reducible apply sliceRetired_same) | (with_reducible apply spurEdge_same) | (with_reducible apply clockConv_same)
    | (with_reducible apply openVisits_same) | (with_reducible apply statPath_same) | (with_reducible apply State_setBuf_same)
    | (with_reducible apply same_ite) | (simp only [same_mk_iff]) | split

theorem turnStep_same {s : State} (p : Nat)
    (hp : Sub (allow [.fe, .rx, .marks] []) m) (h : Same m s0 s) :
    Same m s0 (turnStep s p) := by
  unfold turnStep
  repeat' first
    | (with_reducible assumption) | (with_reducible refine Sub.trans ?_ hp; decide) | (with_reducible apply State_setFe_same)
    | (with_reducible apply markSilent_same) | (with_reducible apply gainChanged_same) | (with_reducible apply same_ite)
    | (simp only [same_mk_iff]) | split

theorem finishTurn_same {s : State} (p : Nat)
    (hp : Sub (allow [.fe, .rx, .marks] []) m) (h : Same m s0 s) :
    Same m s0 (finishTurn s p) := by
  unfold finishTurn
  repeat' first | (with_reducible assumption) | (with_reducible apply turnStep_same)

theorem enterPathState_same {s : State} (p : Nat)
    (hp : Sub (allow [.tl, .fe, .cvt, .rx, .tx, .marks] []) m) (h : Same m s0 s) :
    Same m s0 (enterPathState s p) := by
  unfold enterPathState
  repeat' first
    | (with_reducible assumption) | (with_reducible exact Free.rfl) | (with_reducible refine Free.bit hp ?_; decide)
    | (with_reducible refine Sub.trans ?_ hp; decide) | (with_reducible apply attApplies_same) | (with_reducible apply markSilent_same)
    | (with_reducible apply dwellsOff_same) | (with_reducible apply setInput_same) | (with_reducible apply finishTurn_same)
    | (with_reducible apply startTurnAt_same) | (with_reducible apply startTurn_same) | (with_reducible apply same_ite)
    | (with_reducible apply same_parts)
    | (simp only [same_mk_iff]) | split

theorem fireEvent_same {s : State} (k type : Nat) (islands : EvtEntry → List Nat) {act : EvtEntry → State → State}
    (ha : ∀ e t, Same m s0 t → Same m s0 (act e t)) (hp : Sub (allow [.clk, .evt, .tl, .air] [.evtRpt, .tlEvtDrop]) m) (h : Same m s0 s) :
    Same m s0 (fireEvent s k type islands act) := by
  unfold fireEvent
  repeat' first
    | (with_reducible assumption) | (with_reducible refine Sub.trans ?_ hp; decide) | (with_reducible apply toBoundary_same)
    | (with_reducible apply dropEvent_same) | (with_reducible apply ha) | (with_reducible refine same_foldl ?_ ?_; intro _ _ _)
    | (simp only [same_mk_iff]) | split

theorem forceTune_same {s : State} (n : Nat) (preset : Nat)
    (hp : Sub (allow [.stats, .evt, .lo, .fe, .marks] [.evtRpt]) m) (h : Same m s0 s) :
    Same m s0 (forceTune s n preset) := by
  unfold forceTune
  repeat' first | (with_reducible assumption) | (with_reducible apply retune_same)

theorem islandSet_same {s : State} (i : Nat) (x : Island)
    (hp : Sub (allow [.islands, .cvt] []) m) (h : Same m s0 s) :
    Same m s0 (islandSet s i x) := by
  unfold islandSet
  repeat' first
    | (with_reducible assumption) | (with_reducible refine Sub.trans ?_ hp; decide) | (with_reducible apply clockConv_same)
    | (with_reducible apply State_setIsland_same) | (with_reducible refine same_foldl ?_ ?_; intro _ _ _)

theorem lnaChange_same {s : State} (p : Nat) (byp : Bool)
    (hp : Sub (allow [.clk, .fe, .rx, .air] []) m) (h : Same m s0 s) :
    Same m s0 (lnaChange s p byp) := by
  unfold lnaChange
  repeat' first
    | (with_reducible assumption) | (with_reducible refine Sub.trans ?_ hp; decide) | (with_reducible apply State_setFe_same)
    | (with_reducible apply reachElapsed_same) | (with_reducible apply gainChanged_same) | (with_reducible apply same_ite) | split

theorem releaseBuffer_same {s' : State} (b : Nat)
    (hp : Sub (allow [.stats, .evt, .cvt] [.capStat, .evtRpt]) m) (h : Same m s0 s') :
    Same m s0 (releaseBuffer s' b) := by
  unfold releaseBuffer
  repeat' first
    | (with_reducible assumption) | (with_reducible refine Sub.bit hp ?_; decide) | (with_reducible refine Sub.trans ?_ hp; decide)
    | (with_reducible apply openVisits_same) | (with_reducible apply wf_same) | (with_reducible apply State_setBuf_same)

theorem startVisit_same {s : State} (r : Nat) (path : Nat) (n : Nat) (be : Bool)
    (hp : Sub (allow [.cvt] []) m) (h : Same m s0 s) :
    Same m s0 (startVisit s r path n be) := by
  unfold startVisit
  repeat' first
    | (with_reducible assumption) | (with_reducible exact Free.rfl) | (with_reducible refine Free.bit hp ?_; decide)
    | (with_reducible apply State_setOrx_same)
    | (with_reducible apply same_parts)
    | (simp only [same_mk_iff])

theorem requestVisit_same {s : State} (r : Nat) (path : Nat) (n : Nat) (dpd : Bool)
    (hp : Sub (allow [.stats, .evt, .cvt] [.capStat, .evtRpt, .orxDrop]) m) (h : Same m s0 s) :
    Same m s0 (requestVisit s r path n dpd) := by
  unfold requestVisit
  repeat' first
    | (with_reducible assumption) | (with_reducible refine Sub.bit hp ?_; decide) | (with_reducible refine Sub.trans ?_ hp; decide)
    | (with_reducible apply startVisit_same) | (with_reducible apply abortVisit_same) | (with_reducible apply State_setOrx_same)
    | (with_reducible apply raise_same) | (with_reducible apply bump_same) | (with_reducible apply same_ite) | split

theorem resumeTx_same {s : State} (p : Nat)
    (hp : Sub (allow [.fe, .marks] []) m) (h : Same m s0 s) :
    Same m s0 (resumeTx s p) := by
  unfold resumeTx
  repeat' first
    | (with_reducible assumption) | (with_reducible refine Sub.trans ?_ hp; decide) | (with_reducible apply markSilent_same)
    | (with_reducible apply State_setFe_same)

theorem retireSpare_same {s : State} (k : Nat) (slice : Nat)
    (hp : Sub (allow [.evt, .adm, .fe, .cvt, .bm, .lnk, .svc, .nv, .marks] [.evtRpt]) m) (h : Same m s0 s) :
    Same m s0 (retireSpare s k slice) := by
  unfold retireSpare
  repeat' first
    | (with_reducible assumption) | (with_reducible refine Sub.trans ?_ hp; decide) | (with_reducible apply State_setConv_same)
    | (with_reducible apply spurEdge_same) | (with_reducible apply raise_same) | (with_reducible apply sliceRetired_same)
    | (with_reducible apply clockConv_same) | (with_reducible apply convFails_same) | (simp only [same_mk_iff]) | split

theorem rxGood_same {s : State}
    (hp : Sub (allow [.rx] []) m) (h : Same m s0 s) :
    Same m s0 (rxGood s) := by
  unfold rxGood
  repeat' first
    | (with_reducible assumption) | (with_reducible exact Free.rfl) | (with_reducible refine Free.bit hp ?_; decide)
    | (with_reducible apply same_parts)
    | (simp only [same_mk_iff])

theorem spurEdges_same {s : State}
    (hp : Sub (allow [.marks] []) m) (h : Same m s0 s) :
    Same m s0 (spurEdges s) := by
  unfold spurEdges
  repeat' first | (with_reducible assumption) | (with_reducible apply spurEdge_same) | (with_reducible refine same_foldl ?_ ?_; intro _ _ _)

theorem startExitTurn_same {s : State} (p : Nat)
    (hp : Sub (allow [.clk, .fe, .cvt, .rx, .air] []) m) (h : Same m s0 s) :
    Same m s0 (startExitTurn s p) := by
  unfold startExitTurn
  repeat' first
    | (with_reducible assumption) | (with_reducible refine Sub.trans ?_ hp; decide) | (with_reducible apply reachCount_same)
    | (with_reducible apply setInput_same) | (with_reducible apply State_setFe_same) | (with_reducible apply same_ite)
    | (simp only [same_mk_iff]) | split

theorem synOff_same {s : State} (n : Nat)
    (hp : Sub (allow [.stats, .evt, .lo, .fe, .marks] [.evtRpt]) m) (h : Same m s0 s) :
    Same m s0 (synOff s n) := by
  unfold synOff
  repeat' first
    | (with_reducible assumption) | (with_reducible refine Sub.trans ?_ hp; decide) | (with_reducible apply State_setSyn_same)
    | (with_reducible apply trunkDrop_same) | (with_reducible apply same_ite)

theorem txGood_same {s : State}
    (hp : Sub (allow [.lo] []) m) (h : Same m s0 s) :
    Same m s0 (txGood s) := by
  unfold txGood
  repeat' first
    | (with_reducible assumption) | (with_reducible exact Free.rfl) | (with_reducible refine Free.bit hp ?_; decide)
    | (with_reducible apply same_parts)
    | (simp only [same_mk_iff])

theorem trunkGood_same {s : State} (n : Nat)
    (hp : Sub (allow [.lo, .rx] []) m) (h : Same m s0 s) :
    Same m s0 (trunkGood s n) := by
  unfold trunkGood
  repeat' first
    | (with_reducible assumption) | (with_reducible refine Sub.trans ?_ hp; decide) | (with_reducible apply txGood_same)
    | (with_reducible apply rxGood_same) | (with_reducible apply same_ite)

theorem tuneSyn_same {s : State} (n : Nat) (preset : Nat)
    (hp : Sub (allow [.stats, .evt, .lo, .fe, .marks] [.evtRpt]) m) (h : Same m s0 s) :
    Same m s0 (tuneSyn s n preset) := by
  unfold tuneSyn
  repeat' first | (with_reducible assumption) | (with_reducible apply tuneWord_same)

/-! ## RxOps -/

theorem State_setLanes_same {s : State} (c : Nat) (x : Lanes)
    (hp : Sub (allow [.rx] []) m) (h : Same m s0 s) :
    Same m s0 (State.setLanes s c x) := by
  unfold State.setLanes
  repeat' first
    | (with_reducible assumption) | (with_reducible exact Free.rfl) | (with_reducible refine Free.bit hp ?_; decide)
    | (with_reducible apply same_parts)
    | (simp only [same_mk_iff])

theorem State_setRxg_same {s : State} (p : Nat) (x : Rxg)
    (hp : Sub (allow [.rx] []) m) (h : Same m s0 s) :
    Same m s0 (State.setRxg s p x) := by
  unfold State.setRxg
  repeat' first
    | (with_reducible assumption) | (with_reducible exact Free.rfl) | (with_reducible refine Free.bit hp ?_; decide)
    | (with_reducible apply same_parts)
    | (simp only [same_mk_iff])

theorem setAtt_same {s : State} (p : Nat) (att : Nat)
    (hp : Sub (allow [.cvt, .rx] []) m) (h : Same m s0 s) :
    Same m s0 (setAtt s p att) := by
  unfold setAtt
  repeat' first
    | (with_reducible assumption) | (with_reducible exact Free.rfl) | (with_reducible refine Free.bit hp ?_; decide)
    | (with_reducible refine Sub.trans ?_ hp; decide) | (with_reducible apply gainChanged_same) | (with_reducible apply State_setRxg_same)
    | (with_reducible apply same_ite)
    | (with_reducible apply same_parts)
    | (simp only [same_mk_iff])

theorem attack_same {s : State} (p : Nat)
    (hp : Sub (allow [.evt, .cvt, .rx] [.evtRpt, .rxgCnt]) m) (h : Same m s0 s) :
    Same m s0 (attack s p) := by
  unfold attack
  repeat' first
    | (with_reducible assumption) | (with_reducible refine Sub.bit hp ?_; decide) | (with_reducible refine Sub.trans ?_ hp; decide)
    | (with_reducible apply setAtt_same) | (with_reducible apply State_setRxg_same) | (with_reducible apply raise_same)
    | (with_reducible apply bumpField_same)

theorem coefWrite_same {s : State} (tag : Nat) (c : Nat) (k : Nat) (n : Nat) (i : Nat) (value : Nat) (tx : Bool)
    (hp : Sub (allow [.fresh, .evt, .rx] [.evtRpt, .rxStat]) m) (h : Same m s0 s) :
    Same m s0 (coefWrite s tag c k n i value tx) := by
  unfold coefWrite
  repeat' first
    | (with_reducible assumption) | (with_reducible exact Free.rfl) | (with_reducible refine Free.bit hp ?_; decide)
    | (with_reducible refine Sub.bit hp ?_; decide) | (with_reducible refine Sub.trans ?_ hp; decide)
    | (with_reducible apply firewall_same) | (with_reducible apply raise_same) | (with_reducible apply setFlag_same)
    | (with_reducible apply same_ite)
    | (with_reducible apply same_parts)
    | (simp only [same_mk_iff])

theorem rollClusters_rollMoveNone_same {s : State} (c : Nat)
    (hp : Sub (allow [.evt, .rx] [.evtRpt]) m) (h : Same m s0 s) :
    Same m s0 (rollClusters.rollMoveNone s c) := by
  unfold rollClusters.rollMoveNone
  repeat' first
    | (with_reducible assumption) | (with_reducible refine Sub.trans ?_ hp; decide) | (with_reducible apply raise_same)
    | (with_reducible apply State_setLanes_same) | (with_reducible apply same_ite)

theorem rollChannel_same {s : State} (lane : Nat) (ch : Nat)
    (hp : Sub (allow [.rx] []) m) (h : Same m s0 s) :
    Same m s0 (rollChannel s lane ch) := by
  unfold rollChannel
  repeat' first
    | (with_reducible assumption) | (with_reducible exact Free.rfl) | (with_reducible refine Free.bit hp ?_; decide)
    | (with_reducible apply same_ite)
    | (with_reducible apply same_parts)
    | (simp only [same_mk_iff])

theorem loadSpare_same {s : State} (chans : List Nat) (c : Nat)
    (hp : Sub (allow [.rx] []) m) (h : Same m s0 s) :
    Same m s0 (loadSpare s chans c) := by
  unfold loadSpare
  repeat' first
    | (with_reducible assumption) | (with_reducible apply rollChannel_same) | (with_reducible refine same_foldl ?_ ?_; intro _ _ _)
    | split

theorem laneRollSwitch_same {s : State} (j : Nat) (c : Nat)
    (hp : Sub (allow [.evt, .rx] [.evtRpt]) m) (h : Same m s0 s) :
    Same m s0 (laneRollSwitch s j c) := by
  unfold laneRollSwitch
  repeat' first
    | (with_reducible assumption) | (with_reducible refine Sub.trans ?_ hp; decide) | (with_reducible apply raise_same)
    | (with_reducible apply State_setLanes_same) | (simp only [same_mk_iff]) | split

theorem laneRollMove_same (cs : List Nat) (chans : List Nat) {s : State} (j : Nat)
    (hp : Sub (allow [.clk, .evt, .rx, .air] [.evtRpt]) m) (h : Same m s0 s) :
    Same m s0 (laneRollMove cs chans s j) := by
  unfold laneRollMove
  repeat' first
    | (with_reducible assumption) | (with_reducible refine Sub.trans ?_ hp; decide) | (with_reducible apply loadSpare_same)
    | (with_reducible apply reachCount_same) | (with_reducible apply reachElapsed_same) | (with_reducible apply laneRollSwitch_same)
    | (with_reducible refine same_foldl ?_ ?_; intro _ _ _)

theorem rollClusters_same (cs : List Nat) (chans : List Nat) {s : State}
    (hp : Sub (allow [.clk, .evt, .rx, .air] [.evtRpt]) m) (h : Same m s0 s) :
    Same m s0 (rollClusters cs chans s) := by
  unfold rollClusters
  repeat' first
    | (with_reducible assumption) | (with_reducible refine Sub.trans ?_ hp; decide)
    | (with_reducible apply rollClusters_rollMoveNone_same) | (with_reducible apply laneRollMove_same)
    | (with_reducible apply loadSpare_same) | (with_reducible refine same_foldl ?_ ?_; intro _ _ _)

theorem retireLane_same {s : State} (c : Nat) (k : Nat)
    (hp : Sub (allow [.subs, .evt, .rx, .lnk, .svc, .nv] [.evtRpt]) m) (h : Same m s0 s) :
    Same m s0 (retireLane s c k) := by
  unfold retireLane
  repeat' first
    | (with_reducible assumption) | (with_reducible exact Free.rfl) | (with_reducible refine Free.bit hp ?_; decide)
    | (with_reducible refine Sub.trans ?_ hp; decide) | (with_reducible apply State_setLanes_same) | (with_reducible apply spareUsed_same)
    | (with_reducible apply subDown_same)
    | (with_reducible apply same_parts)
    | (simp only [same_mk_iff])

theorem requestMove_same {s : State} (c : Nat) (j : Nat) (fault : Bool)
    (hp : Sub (allow [.evt, .rx] [.evtRpt]) m) (h : Same m s0 s) :
    Same m s0 (requestMove s c j fault) := by
  unfold requestMove
  repeat' first
    | (with_reducible assumption) | (with_reducible refine Sub.trans ?_ hp; decide) | (with_reducible apply State_setLanes_same)
    | (with_reducible apply raise_same) | (with_reducible apply same_ite)

theorem nextFault_same {s : State} (c : Nat)
    (hp : Sub (allow [.subs, .evt, .fe, .rx, .bm, .lnk, .svc, .nv] [.evtRpt]) m) (h : Same m s0 s) :
    Same m s0 (nextFault s c) := by
  unfold nextFault
  repeat' first
    | (with_reducible assumption) | (with_reducible refine Sub.trans ?_ hp; decide) | (with_reducible apply State_setLanes_same)
    | (with_reducible apply failPath_same) | (with_reducible apply retireLane_same) | (with_reducible apply requestMove_same)
    | (with_reducible apply same_ite) | (simp only [same_mk_iff]) | split

theorem coefficientRoll_same {s : State}
    (hp : Sub (allow [.clk, .subs, .evt, .fe, .rx, .bm, .lnk, .svc, .nv, .air] [.evtRpt]) m) (h : Same m s0 s) :
    Same m s0 (coefficientRoll s) := by
  unfold coefficientRoll
  repeat' first
    | (with_reducible assumption) | (with_reducible exact Free.rfl) | (with_reducible refine Free.bit hp ?_; decide)
    | (with_reducible refine Sub.trans ?_ hp; decide) | (with_reducible apply rollClusters_same) | (with_reducible apply raise_same)
    | (with_reducible apply nextFault_same) | (with_reducible apply same_ite) | (with_reducible refine same_foldl ?_ ?_; intro _ _ _)
    | (with_reducible apply same_parts)
    | (simp only [same_mk_iff])

theorem limiterBypass_same {s : State} (p : Nat)
    (hp : Sub (allow [.clk, .evt, .fe, .rx, .air] [.evtRpt, .rxgCnt]) m) (h : Same m s0 s) :
    Same m s0 (limiterBypass s p) := by
  unfold limiterBypass
  repeat' first
    | (with_reducible assumption) | (with_reducible refine Sub.bit hp ?_; decide) | (with_reducible refine Sub.trans ?_ hp; decide)
    | (with_reducible apply bumpField_same) | (with_reducible apply State_setRxg_same) | (with_reducible apply raise_same)
    | (with_reducible apply lnaChange_same) | (with_reducible apply same_ite)

theorem fastEstimate_same {s : State} (p : Nat) (est : Int) (ref : Int) (ovr : Nat) (ovrNew : Nat)
    (hp : Sub (allow [.clk, .evt, .fe, .cvt, .rx, .air] [.adcOvr, .evtRpt, .rxgCnt]) m) (h : Same m s0 s) :
    Same m s0 (fastEstimate s p est ref ovr ovrNew) := by
  unfold fastEstimate
  repeat' first
    | (with_reducible assumption) | (with_reducible refine Sub.bit hp ?_; decide) | (with_reducible refine Sub.trans ?_ hp; decide)
    | (with_reducible apply bump_same) | (with_reducible apply State_setRxg_same) | (with_reducible apply limiterBypass_same)
    | (with_reducible apply attack_same) | (with_reducible apply same_ite)

theorem laneSwitch_same {s : State} (c : Nat) (differ : Bool)
    (hp : Sub (allow [.subs, .evt, .fe, .rx, .bm, .lnk, .svc, .nv, .marks] [.evtRpt]) m) (h : Same m s0 s) :
    Same m s0 (laneSwitch s c differ) := by
  unfold laneSwitch
  repeat' first
    | (with_reducible assumption) | (with_reducible exact Free.rfl) | (with_reducible refine Free.bit hp ?_; decide)
    | (with_reducible refine Sub.trans ?_ hp; decide) | (with_reducible apply nextFault_same) | (with_reducible apply State_setLanes_same)
    | (with_reducible apply raise_same) | (with_reducible apply retireLane_same) | (with_reducible apply markOff_same)
    | (with_reducible apply same_ite)
    | (with_reducible apply same_parts)
    | (simp only [same_mk_iff]) | split

theorem requestSync_same {s : State} (t : Nat)
    (hp : Sub (allow [.rx] []) m) (h : Same m s0 s) :
    Same m s0 (requestSync s t) := by
  unfold requestSync
  repeat' first
    | (with_reducible assumption) | (with_reducible exact Free.rfl) | (with_reducible refine Free.bit hp ?_; decide)
    | (with_reducible apply same_parts)
    | (simp only [same_mk_iff])

theorem restartWarm_same {s : State} (c : Nat)
    (hp : Sub (allow [.rx] []) m) (h : Same m s0 s) :
    Same m s0 (restartWarm s c) := by
  unfold restartWarm
  repeat' first | (with_reducible assumption) | (with_reducible apply State_setLanes_same) | (with_reducible apply same_ite)

theorem rxSat_same {s : State} (p : Nat) (n : Nat)
    (hp : Sub (allow [.evt] [.evtRpt, .rxSat]) m) (h : Same m s0 s) :
    Same m s0 (rxSat s p n) := by
  unfold rxSat
  repeat' first
    | (with_reducible assumption) | (with_reducible refine Sub.bit hp ?_; decide) | (with_reducible refine Sub.trans ?_ hp; decide)
    | (with_reducible apply raise_same) | (with_reducible apply bump_same) | (with_reducible apply same_ite)

theorem syncWrite_same {s : State}
    (hp : Sub (allow [.rx] [.tlSync]) m) (h : Same m s0 s) :
    Same m s0 (syncWrite s) := by
  unfold syncWrite
  repeat' first
    | (with_reducible assumption) | (with_reducible refine Sub.bit hp ?_; decide) | (with_reducible refine Sub.trans ?_ hp; decide)
    | (with_reducible apply requestSync_same) | (with_reducible apply wbit_same)

theorem toCommon_same {s : State} (key : Nat) (inst : Nat)
    (hp : Sub (allow [.clk, .air] []) m) (h : Same m s0 s) :
    Same m s0 (toCommon s key inst) := by
  unfold toCommon
  repeat' first | (with_reducible assumption) | (with_reducible apply toBoundary_same)

/-! ## BeamOps -/

theorem State_setWset_same {s : State} (cc : Nat) (d : Nat) (x : WSet)
    (hp : Sub (allow [.bm] []) m) (h : Same m s0 s) :
    Same m s0 (State.setWset s cc d x) := by
  unfold State.setWset
  repeat' first
    | (with_reducible assumption) | (with_reducible exact Free.rfl) | (with_reducible refine Free.bit hp ?_; decide)
    | (with_reducible apply same_parts)
    | (simp only [same_mk_iff])

theorem arrayMargin_same {s : State}
    (hp : Sub (allow [.evt, .lnk] [.evtRpt]) m) (h : Same m s0 s) :
    Same m s0 (arrayMargin s) := by
  unfold arrayMargin
  repeat' first
    | (with_reducible assumption) | (with_reducible refine Sub.trans ?_ hp; decide) | (with_reducible apply condOn_same)
    | (with_reducible apply condOff_same) | (with_reducible apply same_ite)

theorem countRun_same {s : State} (cc : Nat) (x : Sel) (sats : Nat)
    (hp : Sub (allow [.stats, .evt] [.bfBeamErr, .bfNullVec, .bfSat, .evtRpt]) m) (h : Same m s0 s) :
    Same m s0 (countRun s cc x sats) := by
  unfold countRun
  repeat' first
    | (with_reducible assumption) | (with_reducible refine Sub.bit hp ?_; decide) | (with_reducible refine Sub.trans ?_ hp; decide)
    | (with_reducible apply firewall_same) | (with_reducible apply raise_same) | (with_reducible apply stat_same)
    | (with_reducible apply bump_same) | (with_reducible apply same_ite) | (with_reducible refine same_foldl ?_ ?_; intro _ _ _)

theorem dlRun_same {s : State} (cc : Nat) (air : Nat) (a : Arm)
    (hp : Sub (allow [.stats, .evt, .tx, .bm, .lnk] [.bfBeamErr, .bfNullVec, .bfSat, .evtRpt]) m) (h : Same m s0 s) :
    Same m s0 (dlRun s cc air a) := by
  unfold dlRun
  repeat' first
    | (with_reducible assumption) | (with_reducible exact Free.rfl) | (with_reducible refine Free.bit hp ?_; decide)
    | (with_reducible refine Sub.trans ?_ hp; decide) | (with_reducible apply raise_same) | (with_reducible apply stat_same)
    | (with_reducible apply countRun_same) | (with_reducible refine same_foldl ?_ ?_; intro _ _ _)
    | (with_reducible apply same_parts)
    | (simp only [same_mk_iff])

theorem dropRe_same {s : State} (cc : Nat) (tick : Nat)
    (hp : Sub (allow [.rx] []) m) (h : Same m s0 s) :
    Same m s0 (dropRe s cc tick) := by
  unfold dropRe
  repeat' first
    | (with_reducible assumption) | (with_reducible exact Free.rfl) | (with_reducible refine Free.bit hp ?_; decide)
    | (with_reducible apply same_parts)
    | (simp only [same_mk_iff])

theorem healClear_same {s : State} (p : Nat)
    (hp : Sub (allow [.bm] []) m) (h : Same m s0 s) :
    Same m s0 (healClear s p) := by
  unfold healClear
  repeat' first
    | (with_reducible assumption) | (with_reducible exact Free.rfl) | (with_reducible refine Free.bit hp ?_; decide)
    | (with_reducible apply same_ite)
    | (with_reducible apply same_parts)
    | (simp only [same_mk_iff])

theorem storeVec_same {s : State} (cc : Nat) (a : Nat) (w : List Nat)
    (hp : Sub (allow [.evt, .mem] [.evtRpt]) m) (h : Same m s0 s) :
    Same m s0 (storeVec s cc a w) := by
  unfold storeVec
  repeat' first
    | (with_reducible assumption) | (with_reducible refine Sub.trans ?_ hp; decide) | (with_reducible apply firewall_same)
    | (with_reducible apply sramStore_same) | (with_reducible apply same_ite)

theorem landVector_same {s : State} (v : Landing) (collide : Bool)
    (hp : Sub (allow [.evt, .bm, .mem] [.bfCcColl, .bfCcSplit, .evtRpt]) m) (h : Same m s0 s) :
    Same m s0 (landVector s v collide) := by
  unfold landVector
  repeat' first
    | (with_reducible assumption) | (with_reducible exact Free.rfl) | (with_reducible refine Free.bit hp ?_; decide)
    | (with_reducible refine Sub.bit hp ?_; decide) | (with_reducible refine Sub.trans ?_ hp; decide)
    | (with_reducible apply storeVec_same) | (with_reducible apply raise_same) | (with_reducible apply bumpField_same)
    | (with_reducible apply State_setWset_same) | (with_reducible apply same_ite)
    | (with_reducible apply same_parts)
    | (simp only [same_mk_iff])

theorem prachCombine_same {s : State} (j : Nat)
    (hp : Sub (allow [.clk, .stats, .evt, .lnk, .air] [.bfBeamErr, .bfNullVec, .bfSat, .evtRpt]) m) (h : Same m s0 s) :
    Same m s0 (prachCombine s j) := by
  unfold prachCombine
  repeat' first
    | (with_reducible assumption) | (with_reducible exact Free.rfl) | (with_reducible refine Free.bit hp ?_; decide)
    | (with_reducible refine Sub.trans ?_ hp; decide) | (with_reducible apply reachElapsed_same) | (with_reducible apply countRun_same)
    | (with_reducible apply same_ite)
    | (with_reducible apply same_parts)
    | (simp only [same_mk_iff])

theorem rejectBlock_same {s : State} (cc : Nat) (foreign : Bool) (tag : Nat)
    (hp : Sub (allow [.evt] [.bfWrej, .evtRpt]) m) (h : Same m s0 s) :
    Same m s0 (rejectBlock s cc foreign tag) := by
  unfold rejectBlock
  repeat' first
    | (with_reducible assumption) | (with_reducible refine Sub.bit hp ?_; decide) | (with_reducible refine Sub.trans ?_ hp; decide)
    | (with_reducible apply raise_same) | (with_reducible apply bump_same) | (with_reducible apply firewall_same)
    | (with_reducible apply same_ite)

theorem resynthDone_same {s : State}
    (hp : Sub (allow [.evt, .bm, .mem] [.evtRpt]) m) (h : Same m s0 s) :
    Same m s0 (resynthDone s) := by
  unfold resynthDone
  repeat' first
    | (with_reducible assumption) | (with_reducible exact Free.rfl) | (with_reducible refine Free.bit hp ?_; decide)
    | (with_reducible refine Sub.trans ?_ hp; decide) | (with_reducible apply storeVec_same) | (with_reducible apply raise_same)
    | (with_reducible apply same_ite) | (with_reducible refine same_foldl ?_ ?_; intro _ _ _)
    | (with_reducible apply same_parts)
    | (simp only [same_mk_iff])

theorem tileFail_same {s : State} (t : Nat)
    (hp : Sub (allow [.subs, .evt, .adm, .tx, .bm, .lnk, .svc, .nv] [.evtRpt]) m) (h : Same m s0 s) :
    Same m s0 (tileFail s t) := by
  unfold tileFail
  repeat' first
    | (with_reducible assumption) | (with_reducible exact Free.rfl) | (with_reducible refine Free.bit hp ?_; decide)
    | (with_reducible refine Sub.trans ?_ hp; decide) | (with_reducible apply spareUsed_same) | (with_reducible apply raise_same)
    | (with_reducible apply subDown_same) | (with_reducible apply readmit_same) | (with_reducible apply same_ite)
    | (with_reducible refine same_foldl ?_ ?_; intro _ _ _)
    | (with_reducible apply same_parts)
    | (simp only [same_mk_iff])

theorem ulRun_same {s : State} (cc : Nat) (start : Nat) (tick : Nat) (a : Arm)
    (hp : Sub (allow [.stats, .evt, .bm, .lnk] [.bfBeamErr, .bfNullVec, .bfSat, .evtRpt]) m) (h : Same m s0 s) :
    Same m s0 (ulRun s cc start tick a) := by
  unfold ulRun
  repeat' first
    | (with_reducible assumption) | (with_reducible exact Free.rfl) | (with_reducible refine Free.bit hp ?_; decide)
    | (with_reducible refine Sub.trans ?_ hp; decide) | (with_reducible apply countRun_same) | (with_reducible apply same_ite)
    | (with_reducible apply same_parts)
    | (simp only [same_mk_iff])

theorem weightBlock_same {s : State} (tenant : Option Nat) (b : List Byte)
    (hp : Sub (allow [.evt, .bm] [.bfWrej, .evtRpt]) m) (h : Same m s0 s) :
    Same m s0 (weightBlock s tenant b) := by
  unfold weightBlock
  repeat' first
    | (with_reducible assumption) | (with_reducible exact Free.rfl) | (with_reducible refine Free.bit hp ?_; decide)
    | (with_reducible refine Sub.trans ?_ hp; decide) | (with_reducible apply rejectBlock_same) | (with_reducible apply same_ite)
    | (with_reducible apply same_parts)
    | (simp only [same_mk_iff])

/-! ## DpdOps -/

theorem State_setDpd_same {s : State} (p : Nat) (x : Dpd)
    (hp : Sub (allow [.dpds] []) m) (h : Same m s0 s) :
    Same m s0 (State.setDpd s p x) := by
  unfold State.setDpd
  repeat' first
    | (with_reducible assumption) | (with_reducible exact Free.rfl) | (with_reducible refine Free.bit hp ?_; decide)
    | (with_reducible apply same_parts)
    | (simp only [same_mk_iff])

theorem bankReject_same {s : State} (p : Nat) (tag : Nat)
    (hp : Sub (allow [.evt] [.dpdWrej, .evtRpt]) m) (h : Same m s0 s) :
    Same m s0 (bankReject s p tag) := by
  unfold bankReject
  repeat' first
    | (with_reducible assumption) | (with_reducible refine Sub.bit hp ?_; decide) | (with_reducible refine Sub.trans ?_ hp; decide)
    | (with_reducible apply raise_same) | (with_reducible apply bump_same) | (with_reducible apply firewall_same)
    | (with_reducible apply same_ite)

theorem makePending_same {s : State} (p : Nat)
    (hp : Sub (allow [.disp] []) m) (h : Same m s0 s) :
    Same m s0 (makePending s p) := by
  unfold makePending
  repeat' first
    | (with_reducible assumption) | (with_reducible exact Free.rfl) | (with_reducible refine Free.bit hp ?_; decide)
    | (with_reducible apply same_ite)
    | (with_reducible apply same_parts)
    | (simp only [same_mk_iff])

theorem divergence_same {s : State} (p : Nat)
    (hp : Sub (allow [.dpds] []) m) (h : Same m s0 s) :
    Same m s0 (divergence s p) := by
  unfold divergence
  repeat' first | (with_reducible assumption) | (with_reducible apply State_setDpd_same) | (simp only [same_mk_iff]) | split

theorem countWindow_same {s : State} (p : Nat) (ew : Int)
    (hp : Sub (allow [.dpds, .disp] []) m) (h : Same m s0 s) :
    Same m s0 (countWindow s p ew) := by
  unfold countWindow
  repeat' first
    | (with_reducible assumption) | (with_reducible refine Sub.trans ?_ hp; decide) | (with_reducible apply State_setDpd_same)
    | (with_reducible apply makePending_same) | (with_reducible apply divergence_same) | (with_reducible apply same_ite)

theorem setStale_same {s : State} (p : Nat) (cause : Nat) (b : Bool)
    (hp : Sub (allow [.evt, .dpds, .marks] [.evtRpt]) m) (h : Same m s0 s) :
    Same m s0 (setStale s p cause b) := by
  unfold setStale
  repeat' first
    | (with_reducible assumption) | (with_reducible refine Sub.trans ?_ hp; decide) | (with_reducible apply markIf_same)
    | (with_reducible apply State_setDpd_same) | (with_reducible apply raise_same) | (with_reducible apply same_ite)

theorem dpdReturns_same {s : State} (p : Nat)
    (hp : Sub (allow [.evt, .dpds, .marks] [.evtRpt]) m) (h : Same m s0 s) :
    Same m s0 (dpdReturns s p) := by
  unfold dpdReturns
  repeat' first
    | (with_reducible assumption) | (with_reducible refine Sub.trans ?_ hp; decide) | (with_reducible apply setStale_same)
    | (with_reducible apply State_setDpd_same)

theorem endRound_same {s : State}
    (hp : Sub (allow [.disp] []) m) (h : Same m s0 s) :
    Same m s0 (endRound s) := by
  unfold endRound
  repeat' first
    | (with_reducible assumption) | (with_reducible exact Free.rfl) | (with_reducible refine Free.bit hp ?_; decide)
    | (with_reducible apply same_ite)
    | (with_reducible apply same_parts)
    | (simp only [same_mk_iff])

theorem refuseHo_same {s : State} (p : Nat) (result : Nat)
    (hp : Sub (allow [.evt, .dpds] [.evtRpt]) m) (h : Same m s0 s) :
    Same m s0 (refuseHo s p result) := by
  unfold refuseHo
  repeat' first
    | (with_reducible assumption) | (with_reducible refine Sub.trans ?_ hp; decide) | (with_reducible apply raise_same)
    | (with_reducible apply State_setDpd_same)

theorem hoCheckDone_same {s : State} (p : Nat)
    (hp : Sub (allow [.evt, .dpds, .marks] [.evtRpt]) m) (h : Same m s0 s) :
    Same m s0 (hoCheckDone s p) := by
  unfold hoCheckDone
  repeat' first
    | (with_reducible assumption) | (with_reducible refine Sub.trans ?_ hp; decide) | (with_reducible apply refuseHo_same)
    | (with_reducible apply State_setDpd_same) | (with_reducible apply setStale_same) | (with_reducible apply same_ite)

theorem jobRequestCapture_same {s : State} (p : Nat)
    (hp : Sub (allow [.clk, .stats, .evt, .cvt, .air] [.capStat, .evtRpt]) m) (h : Same m s0 s) :
    Same m s0 (jobRequestCapture s p) := by
  unfold jobRequestCapture
  repeat' first
    | (with_reducible assumption) | (with_reducible refine Sub.trans ?_ hp; decide) | (with_reducible apply startVisit_same)
    | (with_reducible apply openCapture_same) | (with_reducible apply reachCount_same) | (with_reducible apply same_ite)

theorem requestHo_same {s : State} (p : Nat)
    (hp : Sub (allow [.evt, .dpds] [.evtRpt]) m) (h : Same m s0 s) :
    Same m s0 (requestHo s p) := by
  unfold requestHo
  repeat' first
    | (with_reducible assumption) | (with_reducible refine Sub.trans ?_ hp; decide) | (with_reducible apply refuseHo_same)
    | (with_reducible apply State_setDpd_same) | (with_reducible apply same_ite)

theorem staleAndPending_same {s : State} (p : Nat) (cause : Nat)
    (hp : Sub (allow [.evt, .dpds, .disp, .marks] [.evtRpt]) m) (h : Same m s0 s) :
    Same m s0 (staleAndPending s p cause) := by
  unfold staleAndPending
  repeat' first
    | (with_reducible assumption) | (with_reducible refine Sub.trans ?_ hp; decide) | (with_reducible apply makePending_same)
    | (with_reducible apply setStale_same)

theorem thermalUpdate_same {s : State} (p : Nat) (msq : Nat) (mabs : Nat)
    (hp : Sub (allow [.evt, .dpds, .marks] [.evtRpt]) m) (h : Same m s0 s) :
    Same m s0 (thermalUpdate s p msq mabs) := by
  unfold thermalUpdate
  repeat' first
    | (with_reducible assumption) | (with_reducible refine Sub.trans ?_ hp; decide) | (with_reducible apply State_setDpd_same)
    | (with_reducible apply setStale_same) | (with_reducible apply same_ite)

end Sys2Proof.Machine
end

