-- ==== Sys2Proof/Laws/SameUnits.lean ====
section
/-! SUPPORT. What `Same` passes through: housekeeping, memory, engines, calibration, link, security, service life and power. -/

namespace Sys2Proof.Machine

variable {m : Nat} {s0 : State}

/-! ## HkOps -/

theorem State_setAmp_same {s : State} (a : Nat) (x : Amp)
    (hp : Sub (allow [.hk] []) m) (h : Same m s0 s) :
    Same m s0 (State.setAmp s a x) := by
  unfold State.setAmp
  repeat' first
    | (with_reducible assumption) | (with_reducible exact Free.rfl) | (with_reducible refine Free.bit hp ?_; decide)
    | (with_reducible apply same_parts)
    | (simp only [same_mk_iff])

theorem State_setBias_same {s : State} (c : Nat) (x : Bias)
    (hp : Sub (allow [.hk] []) m) (h : Same m s0 s) :
    Same m s0 (State.setBias s c x) := by
  unfold State.setBias
  repeat' first
    | (with_reducible assumption) | (with_reducible exact Free.rfl) | (with_reducible refine Free.bit hp ?_; decide)
    | (with_reducible apply same_parts)
    | (simp only [same_mk_iff])

theorem State_setFan_same {s : State} (n : Nat) (x : Fan)
    (hp : Sub (allow [.hk] []) m) (h : Same m s0 s) :
    Same m s0 (State.setFan s n x) := by
  unfold State.setFan
  repeat' first
    | (with_reducible assumption) | (with_reducible exact Free.rfl) | (with_reducible refine Free.bit hp ?_; decide)
    | (with_reducible apply same_parts)
    | (simp only [same_mk_iff])

theorem State_setMon_same {s : State} (x1 : Nat) (x : Mon)
    (hp : Sub (allow [.hk] []) m) (h : Same m s0 s) :
    Same m s0 (State.setMon s x1 x) := by
  unfold State.setMon
  repeat' first
    | (with_reducible assumption) | (with_reducible exact Free.rfl) | (with_reducible refine Free.bit hp ?_; decide)
    | (with_reducible apply same_parts)
    | (simp only [same_mk_iff])

theorem allDrainsFall_same {s : State}
    (hp : Sub (allow [] [.bdacDrnStat]) m) (h : Same m s0 s) :
    Same m s0 (allDrainsFall s) := by
  unfold allDrainsFall
  repeat' first | (with_reducible assumption) | (with_reducible refine Sub.bit hp ?_; decide) | (with_reducible apply wr_same)

theorem strobeUndone_same {s : State} (c : Nat)
    (hp : Sub (allow [.hk] [.bdacChCode]) m) (h : Same m s0 s) :
    Same m s0 (strobeUndone s c) := by
  unfold strobeUndone
  repeat' first
    | (with_reducible assumption) | (with_reducible refine Sub.bit hp ?_; decide) | (with_reducible refine Sub.trans ?_ hp; decide)
    | (with_reducible apply wr_same) | (with_reducible apply State_setBias_same) | (with_reducible apply same_ite)

theorem drainFall_same {s : State} (a : Nat)
    (hp : Sub (allow [] [.bdacDrnStat]) m) (h : Same m s0 s) :
    Same m s0 (drainFall s a) := by
  unfold drainFall
  repeat' first | (with_reducible assumption) | (with_reducible refine Sub.bit hp ?_; decide) | (with_reducible apply wbit_same)

theorem ampFault_same {s : State} (a : Nat) (cause : Nat)
    (hp : Sub (allow [.fresh, .evt, .fe, .bm, .hk] [.bdacChCode, .bdacDrnFault, .bdacDrnReq, .bdacDrnStat, .evtRpt]) m) (h : Same m s0 s) :
    Same m s0 (ampFault s a cause) := by
  unfold ampFault
  repeat' first
    | (with_reducible assumption) | (with_reducible exact Free.rfl) | (with_reducible refine Free.bit hp ?_; decide)
    | (with_reducible refine Sub.bit hp ?_; decide) | (with_reducible refine Sub.trans ?_ hp; decide)
    | (with_reducible apply strobeUndone_same) | (with_reducible apply wbit_same) | (with_reducible apply setFlag_same)
    | (with_reducible apply drainFall_same) | (with_reducible apply raise_same) | (with_reducible apply failPath_same)
    | (with_reducible apply same_ite) | (with_reducible refine same_foldl ?_ ?_; intro _ _ _)
    | (with_reducible apply same_parts)
    | (simp only [same_mk_iff])

theorem ampRound_same {s : State} (a : Nat)
    (hp : Sub (allow [.freeCtr, .fresh, .evt, .fe, .bm, .dpds, .hk] [.bdacChCode, .bdacDrnFault, .bdacDrnReq, .bdacDrnStat, .dpdThm1,
        .evtRpt, .thmAmpCfg]) m) (h : Same m s0 s) :
    Same m s0 (ampRound s a) := by
  unfold ampRound
  repeat' first
    | (with_reducible assumption) | (with_reducible refine Sub.bit hp ?_; decide) | (with_reducible refine Sub.trans ?_ hp; decide)
    | (with_reducible apply State_setAmp_same) | (with_reducible apply wbit_same) | (with_reducible apply State_setDpd_same)
    | (with_reducible apply raise_same) | (with_reducible apply ampFault_same) | (with_reducible apply wf_same)
    | (with_reducible apply draw_same) | (with_reducible apply same_ite) | (simp only [same_mk_iff]) | split

theorem codeWrite_same {s : State} (c : Nat) (v : Nat)
    (hp : Sub (allow [.hk] [.bdacChCode]) m) (h : Same m s0 s) :
    Same m s0 (codeWrite s c v) := by
  unfold codeWrite
  repeat' first
    | (with_reducible assumption) | (with_reducible refine Sub.bit hp ?_; decide) | (with_reducible refine Sub.trans ?_ hp; decide)
    | (with_reducible apply State_setBias_same) | (with_reducible apply wbit_same) | (with_reducible apply wf_same)

theorem coreVoltage_same {s : State} (mv : Nat)
    (hp : Sub (allow [.evt, .hk] [.evtRpt, .pwrAvs]) m) (h : Same m s0 s) :
    Same m s0 (coreVoltage s mv) := by
  unfold coreVoltage
  repeat' first
    | (with_reducible assumption) | (with_reducible exact Free.rfl) | (with_reducible refine Free.bit hp ?_; decide)
    | (with_reducible refine Sub.bit hp ?_; decide) | (with_reducible refine Sub.trans ?_ hp; decide) | (with_reducible apply wf_same)
    | (with_reducible apply raise_same) | (with_reducible apply wbit_same) | (with_reducible apply same_ite)
    | (with_reducible apply same_parts)
    | (simp only [same_mk_iff])

theorem deliverTmod_same {s : State} (a : Nat) (raw : Int)
    (hp : Sub (allow [.hk] [.thmAmpCfg]) m) (h : Same m s0 s) :
    Same m s0 (deliverTmod s a raw) := by
  unfold deliverTmod
  repeat' first
    | (with_reducible assumption) | (with_reducible refine Sub.bit hp ?_; decide) | (with_reducible refine Sub.trans ?_ hp; decide)
    | (with_reducible apply wbit_same) | (with_reducible apply State_setAmp_same)

theorem drainUp_same {s : State} (a : Nat)
    (hp : Sub (allow [.hk] [.bdacDrnStat]) m) (h : Same m s0 s) :
    Same m s0 (drainUp s a) := by
  unfold drainUp
  repeat' first
    | (with_reducible assumption) | (with_reducible refine Sub.bit hp ?_; decide) | (with_reducible refine Sub.trans ?_ hp; decide)
    | (with_reducible apply State_setBias_same) | (with_reducible apply wbit_same) | (with_reducible apply same_ite)
    | (with_reducible refine same_foldl ?_ ?_; intro _ _ _)

theorem drainRise_same {s : State}
    (hp : Sub (allow [.hk] [.bdacDrnStat]) m) (h : Same m s0 s) :
    Same m s0 (drainRise s) := by
  unfold drainRise
  repeat' first
    | (with_reducible assumption) | (with_reducible apply drainUp_same) | (with_reducible apply same_ite)
    | (with_reducible refine same_foldl ?_ ?_; intro _ _ _)

theorem drainRequest_same {s : State} (v : Nat)
    (hp : Sub (allow [.hk] [.bdacDrnReq, .bdacDrnStat]) m) (h : Same m s0 s) :
    Same m s0 (drainRequest s v) := by
  unfold drainRequest
  repeat' first
    | (with_reducible assumption) | (with_reducible refine Sub.bit hp ?_; decide) | (with_reducible refine Sub.trans ?_ hp; decide)
    | (with_reducible apply wr_same) | (with_reducible apply drainRise_same)

theorem fanUpdate_same {s : State} (n : Nat)
    (hp : Sub (allow [.hk] [.thmPwmDuty]) m) (h : Same m s0 s) :
    Same m s0 (fanUpdate s n) := by
  unfold fanUpdate
  repeat' first
    | (with_reducible assumption) | (with_reducible refine Sub.bit hp ?_; decide) | (with_reducible refine Sub.trans ?_ hp; decide)
    | (with_reducible apply State_setFan_same) | (with_reducible apply wbit_same) | (with_reducible apply wf_same)
    | (with_reducible apply same_ite)

theorem dutyWritten_same {s : State} (n : Nat)
    (hp : Sub (allow [.hk] [.thmPwmDuty]) m) (h : Same m s0 s) :
    Same m s0 (dutyWritten s n) := by
  unfold dutyWritten
  repeat' first
    | (with_reducible assumption) | (with_reducible refine Sub.bit hp ?_; decide) | (with_reducible refine Sub.trans ?_ hp; decide)
    | (with_reducible apply fanUpdate_same) | (with_reducible apply wbit_same) | (with_reducible apply State_setFan_same)

theorem fanStall_same {s : State} (n : Nat)
    (hp : Sub (allow [.fresh, .evt] [.evtRpt, .thmTach]) m) (h : Same m s0 s) :
    Same m s0 (fanStall s n) := by
  unfold fanStall
  repeat' first
    | (with_reducible assumption) | (with_reducible refine Sub.bit hp ?_; decide) | (with_reducible refine Sub.trans ?_ hp; decide)
    | (with_reducible apply raise_same) | (with_reducible apply setFlag_same) | (with_reducible apply same_ite)

theorem fanWatchdog_same {s : State} (n : Nat)
    (hp : Sub (allow [.evt, .hk] [.evtRpt, .thmPwmDuty]) m) (h : Same m s0 s) :
    Same m s0 (fanWatchdog s n) := by
  unfold fanWatchdog
  repeat' first
    | (with_reducible assumption) | (with_reducible refine Sub.bit hp ?_; decide) | (with_reducible refine Sub.trans ?_ hp; decide)
    | (with_reducible apply fanUpdate_same) | (with_reducible apply raise_same) | (with_reducible apply wbit_same)
    | (with_reducible apply same_ite)

theorem faultClear_same {s : State} (v : Nat)
    (hp : Sub (allow [.fresh, .evt, .fe, .bm, .hk] [.bdacChCode, .bdacDrnFault, .bdacDrnReq, .bdacDrnStat, .evtRpt]) m) (h : Same m s0 s) :
    Same m s0 (faultClear s v) := by
  unfold faultClear
  repeat' first
    | (with_reducible assumption) | (with_reducible refine Sub.bit hp ?_; decide) | (with_reducible refine Sub.trans ?_ hp; decide)
    | (with_reducible apply drainRise_same) | (with_reducible apply wbit_same) | (with_reducible apply ampFault_same)
    | (with_reducible apply same_ite) | (with_reducible refine same_foldl ?_ ?_; intro _ _ _) | (simp only [same_mk_iff]) | split

theorem moduleTemp_same {s : State} (p : Nat) (v : Nat) (n : Nat)
    (hp : Sub (allow [.hk] [.thmAmpCfg]) m) (h : Same m s0 s) :
    Same m s0 (moduleTemp s p v n) := by
  unfold moduleTemp
  repeat' first | (with_reducible assumption) | (with_reducible apply deliverTmod_same) | (with_reducible apply same_ite)

theorem monConsumer_same {s : State} (w : Nat) (raw : Int) (meanAbs : Int)
    (hp : Sub (allow [.hk] [.thmAmpCfg]) m) (h : Same m s0 s) :
    Same m s0 (monConsumer s w raw meanAbs) := by
  unfold monConsumer
  repeat' first
    | (with_reducible assumption) | (with_reducible refine Sub.trans ?_ hp; decide) | (with_reducible apply State_setAmp_same)
    | (with_reducible apply deliverTmod_same) | (with_reducible apply same_ite) | (simp only [same_mk_iff]) | split

theorem monDeliver_same {s : State} (x1 : Nat) (e : Nat) (v : Nat) (single : Bool)
    (hp : Sub (allow [.fresh, .evt] [.evtRpt, .monData, .monStat]) m) (h : Same m s0 s) :
    Same m s0 (monDeliver s x1 e v single) := by
  unfold monDeliver
  repeat' first
    | (with_reducible assumption) | (with_reducible refine Sub.bit hp ?_; decide) | (with_reducible refine Sub.trans ?_ hp; decide)
    | (with_reducible apply raise_same) | (with_reducible apply setFlag_same) | (with_reducible apply wr_same)
    | (with_reducible apply same_ite)

theorem monEntry_same {s : State} (x1 : Nat) (e : Nat)
    (hp : Sub (allow [.hk] [.monStat]) m) (h : Same m s0 s) :
    Same m s0 (monEntry s x1 e) := by
  unfold monEntry
  repeat' first
    | (with_reducible assumption) | (with_reducible refine Sub.bit hp ?_; decide) | (with_reducible refine Sub.trans ?_ hp; decide)
    | (with_reducible apply State_setMon_same) | (with_reducible apply wf_same) | (with_reducible apply wbit_same)

theorem monEnd_same {s : State} (x1 : Nat)
    (hp : Sub (allow [.hk] [.monStat]) m) (h : Same m s0 s) :
    Same m s0 (monEnd s x1) := by
  unfold monEnd
  repeat' first
    | (with_reducible assumption) | (with_reducible refine Sub.bit hp ?_; decide) | (with_reducible apply wbit_same)
    | (with_reducible apply monEntry_same) | (with_reducible apply same_ite)

theorem monResult_same {s : State} (x1 : Nat) (result : Int) (meanAbs : Int)
    (hp : Sub (allow [.clk, .fresh, .evt, .fe, .bm, .hk, .air] [.bdacChCode, .bdacDrnFault, .bdacDrnReq, .bdacDrnStat, .evtRpt, .monData,
        .monStat, .thmAmpCfg]) m) (h : Same m s0 s) :
    Same m s0 (monResult s x1 result meanAbs) := by
  unfold monResult
  repeat' first
    | (with_reducible assumption) | (with_reducible refine Sub.trans ?_ hp; decide) | (with_reducible apply reachElapsed_same)
    | (with_reducible apply monDeliver_same) | (with_reducible apply monConsumer_same) | (with_reducible apply State_setMon_same)
    | (with_reducible apply raise_same) | (with_reducible apply ampFault_same) | (with_reducible apply monEnd_same)
    | (with_reducible apply monEntry_same) | (with_reducible apply same_ite)

theorem monTrigger_same {s : State} (x1 : Nat)
    (hp : Sub (allow [.fresh, .evt, .hk] [.evtRpt, .monLost, .monStat]) m) (h : Same m s0 s) :
    Same m s0 (monTrigger s x1) := by
  unfold monTrigger
  repeat' first
    | (with_reducible assumption) | (with_reducible refine Sub.bit hp ?_; decide) | (with_reducible refine Sub.trans ?_ hp; decide)
    | (with_reducible apply monEntry_same) | (with_reducible apply wbit_same) | (with_reducible apply raise_same)
    | (with_reducible apply bump_same) | (with_reducible apply setFlag_same) | (with_reducible apply same_ite)

theorem outputStep_same {s : State} (c : Nat)
    (hp : Sub (allow [.clk, .hk, .air] [.bdacChCode, .bdacDrnStat]) m) (h : Same m s0 s) :
    Same m s0 (outputStep s c) := by
  unfold outputStep
  repeat' first
    | (with_reducible assumption) | (with_reducible refine Sub.bit hp ?_; decide) | (with_reducible refine Sub.trans ?_ hp; decide)
    | (with_reducible apply reachElapsed_same) | (with_reducible apply wf_same) | (with_reducible apply drainRise_same)
    | (with_reducible apply State_setBias_same) | (with_reducible apply wbit_same) | (with_reducible apply same_ite)

theorem outputTo_same {s : State} (c : Nat) (code : Nat)
    (hp : Sub (allow [.hk] [.bdacChCode]) m) (h : Same m s0 s) :
    Same m s0 (outputTo s c code) := by
  unfold outputTo
  repeat' first
    | (with_reducible assumption) | (with_reducible refine Sub.bit hp ?_; decide) | (with_reducible refine Sub.trans ?_ hp; decide)
    | (with_reducible apply wf_same) | (with_reducible apply wbit_same) | (with_reducible apply State_setBias_same)

theorem safeCode_same {s : State} (c : Nat)
    (hp : Sub (allow [.hk] [.bdacChCode]) m) (h : Same m s0 s) :
    Same m s0 (safeCode s c) := by
  unfold safeCode
  repeat' first
    | (with_reducible assumption) | (with_reducible refine Sub.bit hp ?_; decide) | (with_reducible refine Sub.trans ?_ hp; decide)
    | (with_reducible apply State_setBias_same) | (with_reducible apply outputTo_same) | (with_reducible apply wbit_same)
    | (with_reducible apply same_ite)

theorem safeDue_same {s : State}
    (hp : Sub (allow [.hk] [.bdacChCode]) m) (h : Same m s0 s) :
    Same m s0 (safeDue s) := by
  unfold safeDue
  repeat' first
    | (with_reducible assumption) | (with_reducible exact Free.rfl) | (with_reducible refine Free.bit hp ?_; decide)
    | (with_reducible apply safeCode_same) | (with_reducible apply same_ite) | (with_reducible refine same_foldl ?_ ?_; intro _ _ _)
    | (with_reducible apply same_parts)
    | (simp only [same_mk_iff]) | split

theorem senseOne_same (valid : List Nat) (readings : List Int) (stopped : List Nat) {s : State} (x : Nat)
    (hp : Sub (allow [.evt, .hk] [.evtRpt, .thmBroken0, .thmBroken1, .thmSens]) m) (h : Same m s0 s) :
    Same m s0 (senseOne valid readings stopped s x) := by
  unfold senseOne
  repeat' first
    | (with_reducible assumption) | (with_reducible exact Free.rfl) | (with_reducible refine Free.bit hp ?_; decide)
    | (with_reducible refine Sub.bit hp ?_; decide) | (with_reducible refine Sub.trans ?_ hp; decide) | (with_reducible apply wr_same)
    | (with_reducible apply wbit_same) | (with_reducible apply raise_same) | (with_reducible apply same_ite)
    | (with_reducible apply same_parts)
    | (simp only [same_mk_iff])

theorem sharedResults_same {s : State} (a : Int) (b : Int)
    (hp : Sub (allow [.evt] [.evtRpt, .monShared]) m) (h : Same m s0 s) :
    Same m s0 (sharedResults s a b) := by
  unfold sharedResults
  repeat' first
    | (with_reducible assumption) | (with_reducible refine Sub.bit hp ?_; decide) | (with_reducible refine Sub.trans ?_ hp; decide)
    | (with_reducible apply raise_same) | (with_reducible apply wbit_same) | (with_reducible apply same_ite)

theorem strobeGroup_same {s : State} (g : Nat)
    (hp : Sub (allow [.hk] [.bdacChCode, .bdacDrnStat]) m) (h : Same m s0 s) :
    Same m s0 (strobeGroup s g) := by
  unfold strobeGroup
  repeat' first
    | (with_reducible assumption) | (with_reducible refine Sub.bit hp ?_; decide) | (with_reducible refine Sub.trans ?_ hp; decide)
    | (with_reducible apply State_setBias_same) | (with_reducible apply wbit_same) | (with_reducible apply outputTo_same)
    | (with_reducible apply State_setMon_same) | (with_reducible apply drainRise_same) | (with_reducible apply same_ite)
    | (with_reducible refine same_foldl ?_ ?_; intro _ _ _)

theorem strobeMask_same {s : State} (mask : Nat)
    (hp : Sub (allow [.hk] [.bdacChCode, .bdacDrnStat]) m) (h : Same m s0 s) :
    Same m s0 (strobeMask s mask) := by
  unfold strobeMask
  repeat' first
    | (with_reducible assumption) | (with_reducible apply strobeGroup_same) | (with_reducible apply same_ite)
    | (with_reducible refine same_foldl ?_ ?_; intro _ _ _)

theorem supplyLow_same {s : State} (which : Nat)
    (hp : Sub (allow [.fresh, .evt, .fe, .bm, .hk] [.bdacChCode, .bdacDrnFault, .bdacDrnReq, .bdacDrnStat, .bdacStat, .evtRpt]) m) (h :
        Same m s0 s) :
    Same m s0 (supplyLow s which) := by
  unfold supplyLow
  repeat' first
    | (with_reducible assumption) | (with_reducible refine Sub.bit hp ?_; decide) | (with_reducible refine Sub.trans ?_ hp; decide)
    | (with_reducible apply raise_same) | (with_reducible apply wbit_same) | (with_reducible apply ampFault_same)
    | (with_reducible apply same_ite) | (with_reducible refine same_foldl ?_ ?_; intro _ _ _)

theorem throttle_same {s : State} (t : Int)
    (hp : Sub (allow [.evt, .hk] [.evtRpt, .thmStat]) m) (h : Same m s0 s) :
    Same m s0 (throttle s t) := by
  unfold throttle
  repeat' first
    | (with_reducible assumption) | (with_reducible exact Free.rfl) | (with_reducible refine Free.bit hp ?_; decide)
    | (with_reducible refine Sub.bit hp ?_; decide) | (with_reducible refine Sub.trans ?_ hp; decide) | (with_reducible apply raise_same)
    | (with_reducible apply wf_same) | (with_reducible apply same_ite)
    | (with_reducible apply same_parts)
    | (simp only [same_mk_iff])

/-! ## GeOps -/

theorem State_setEng_same {s : State} (e : Nat) (x : Eng)
    (hp : Sub (allow [.ge] []) m) (h : Same m s0 s) :
    Same m s0 (State.setEng s e x) := by
  unfold State.setEng
  repeat' first
    | (with_reducible assumption) | (with_reducible exact Free.rfl) | (with_reducible refine Free.bit hp ?_; decide)
    | (with_reducible apply same_parts)
    | (simp only [same_mk_iff])

theorem deliverCpl_same {s : State} (e : Nat) (j : Job) (result : Nat) (miss : Bool)
    (hp : Sub (allow [.evt, .disp, .ge] [.evtRpt]) m) (h : Same m s0 s) :
    Same m s0 (deliverCpl s e j result miss) := by
  unfold deliverCpl
  repeat' first
    | (with_reducible assumption) | (with_reducible exact Free.rfl) | (with_reducible refine Free.bit hp ?_; decide)
    | (with_reducible refine Sub.trans ?_ hp; decide) | (with_reducible apply State_setEng_same) | (with_reducible apply raise_same)
    | (with_reducible apply same_ite)
    | (with_reducible apply same_parts)
    | (simp only [same_mk_iff]) | split

theorem jobEnded_same {s : State} (e : Nat) (j : Job) (result : Nat)
    (hp : Sub (allow [.stats, .evt, .disp, .ge] [.evtRpt]) m) (h : Same m s0 s) :
    Same m s0 (jobEnded s e j result) := by
  unfold jobEnded
  repeat' first
    | (with_reducible assumption) | (with_reducible refine Sub.trans ?_ hp; decide) | (with_reducible apply deliverCpl_same)
    | (with_reducible apply stat_same) | (with_reducible apply raise_same) | (with_reducible apply same_ite)

theorem endJob_same {s : State} (e : Nat) (result : Nat)
    (hp : Sub (allow [.stats, .evt, .disp, .ge] [.evtRpt, .geDoorbell]) m) (h : Same m s0 s) :
    Same m s0 (endJob s e result) := by
  unfold endJob
  repeat' first
    | (with_reducible assumption) | (with_reducible refine Sub.bit hp ?_; decide) | (with_reducible refine Sub.trans ?_ hp; decide)
    | (with_reducible apply wbit_same) | (with_reducible apply jobEnded_same) | (with_reducible apply State_setEng_same)
    | (simp only [same_mk_iff]) | split

theorem abortJobs_same {s : State} (e : Nat)
    (hp : Sub (allow [.stats, .evt, .disp, .ge] [.evtRpt, .geDoorbell]) m) (h : Same m s0 s) :
    Same m s0 (abortJobs s e) := by
  unfold abortJobs
  repeat' first
    | (with_reducible assumption) | (with_reducible refine Sub.trans ?_ hp; decide) | (with_reducible apply endJob_same)
    | (with_reducible apply jobEnded_same) | (with_reducible apply State_setEng_same)
    | (with_reducible refine same_foldl ?_ ?_; intro _ _ _)

theorem askWaiting_same {s : State}
    (hp : Sub (allow [.clk, .stats, .evt, .cvt, .air] [.capStat, .evtRpt]) m) (h : Same m s0 s) :
    Same m s0 (askWaiting s) := by
  unfold askWaiting
  repeat' first
    | (with_reducible assumption) | (with_reducible refine Sub.trans ?_ hp; decide) | (with_reducible apply jobRequestCapture_same)
    | (with_reducible apply releaseBuffer_same) | (with_reducible apply same_ite) | (with_reducible refine same_foldl ?_ ?_; intro _ _ _)

theorem refusePost_same {s : State} (e : Nat) (full : Bool)
    (hp : Sub (allow [.evt, .ge] [.evtRpt]) m) (h : Same m s0 s) :
    Same m s0 (refusePost s e full) := by
  unfold refusePost
  repeat' first
    | (with_reducible assumption) | (with_reducible refine Sub.trans ?_ hp; decide) | (with_reducible apply State_setEng_same)
    | (with_reducible apply raise_same) | (with_reducible apply same_ite)

theorem preemptIf_same {s : State} (e : Nat)
    (hp : Sub (allow [.ge] []) m) (h : Same m s0 s) :
    Same m s0 (preemptIf s e) := by
  unfold preemptIf
  repeat' first
    | (with_reducible assumption) | (with_reducible apply State_setEng_same) | (with_reducible apply same_ite) | (simp only [same_mk_iff])
    | split

theorem postJob_same {s : State} (e : Nat) (j : Job) (tag : Nat)
    (hp : Sub (allow [.evt, .ge] [.evtRpt]) m) (h : Same m s0 s) :
    Same m s0 (postJob s e j tag) := by
  unfold postJob
  repeat' first
    | (with_reducible assumption) | (with_reducible refine Sub.trans ?_ hp; decide) | (with_reducible apply firewall_same)
    | (with_reducible apply refusePost_same) | (with_reducible apply State_setEng_same) | (with_reducible apply preemptIf_same)
    | (with_reducible apply same_ite) | (simp only [same_mk_iff]) | split

theorem dispatchPost_same {s : State} (p : Nat)
    (hp : Sub (allow [.freeCtr, .evt, .ge] [.evtRpt]) m) (h : Same m s0 s) :
    Same m s0 (dispatchPost s p) := by
  unfold dispatchPost
  repeat' first
    | (with_reducible assumption) | (with_reducible refine Sub.trans ?_ hp; decide) | (with_reducible apply draw_same)
    | (with_reducible apply postJob_same) | (simp only [same_mk_iff]) | split

theorem eccFault_same {s : State} (e : Nat)
    (hp : Sub (allow [.stats, .evt, .disp, .ge, .svc] [.evtRpt, .geDoorbell]) m) (h : Same m s0 s) :
    Same m s0 (eccFault s e) := by
  unfold eccFault
  repeat' first
    | (with_reducible assumption) | (with_reducible exact Free.rfl) | (with_reducible refine Free.bit hp ?_; decide)
    | (with_reducible refine Sub.trans ?_ hp; decide) | (with_reducible apply endJob_same)
    | (with_reducible apply same_parts)
    | (simp only [same_mk_iff])

theorem yieldJob_same {s : State} (e : Nat) (a : Nat)
    (hp : Sub (allow [.stats, .evt, .disp, .ge] [.evtRpt, .geDoorbell]) m) (h : Same m s0 s) :
    Same m s0 (yieldJob s e a) := by
  unfold yieldJob
  repeat' first
    | (with_reducible assumption) | (with_reducible refine Sub.trans ?_ hp; decide) | (with_reducible apply endJob_same)
    | (with_reducible apply State_setEng_same) | (with_reducible apply same_ite) | (simp only [same_mk_iff]) | split

theorem endBundle_same {s : State} (e : Nat)
    (hp : Sub (allow [.stats, .evt, .disp, .ge] [.evtRpt, .geDoorbell]) m) (h : Same m s0 s) :
    Same m s0 (endBundle s e) := by
  unfold endBundle
  repeat' first
    | (with_reducible assumption) | (with_reducible refine Sub.trans ?_ hp; decide) | (with_reducible apply endJob_same)
    | (with_reducible apply State_setEng_same) | (with_reducible apply yieldJob_same) | (with_reducible apply same_ite)
    | (simp only [same_mk_iff]) | split

theorem ergPost_same {s : State}
    (hp : Sub (allow [.freeCtr, .evt, .ge] [.evtRpt]) m) (h : Same m s0 s) :
    Same m s0 (ergPost s) := by
  unfold ergPost
  repeat' first
    | (with_reducible assumption) | (with_reducible refine Sub.trans ?_ hp; decide) | (with_reducible apply draw_same)
    | (with_reducible apply postJob_same) | (with_reducible refine same_foldl ?_ ?_; intro _ _ _)

theorem slotOp_same {s : State} (e : Nat) (slot : Nat) (last : Bool) (ecc : Nat) (act : Eng → Nat ⊕ Eng)
    (hp : Sub (allow [.stats, .evt, .disp, .ge, .svc] [.evtRpt, .geDoorbell, .geEcc]) m) (h : Same m s0 s) :
    Same m s0 (slotOp s e slot last ecc act) := by
  unfold slotOp
  repeat' first
    | (with_reducible assumption) | (with_reducible refine Sub.bit hp ?_; decide) | (with_reducible refine Sub.trans ?_ hp; decide)
    | (with_reducible apply endBundle_same) | (with_reducible apply bump_same) | (with_reducible apply eccFault_same)
    | (with_reducible apply endJob_same) | (with_reducible apply State_setEng_same) | (with_reducible apply same_ite)
    | (simp only [same_mk_iff]) | split

theorem geAdr_same (g : GeA) {s : State} (code : Nat) (ok : Bool) (v : Eng → Nat)
    (hp : Sub (allow [.stats, .evt, .disp, .ge, .svc] [.evtRpt, .geDoorbell, .geEcc]) m) (h : Same m s0 s) :
    Same m s0 (geAdr g s code ok v) := by
  unfold geAdr
  repeat' first | (with_reducible assumption) | (with_reducible apply slotOp_same)

theorem geBin_same (g : GeC) (l : Nat) (f : Cplx → Cplx → Cplx) {s : State}
    (hp : Sub (allow [.stats, .evt, .disp, .ge, .svc] [.evtRpt, .geDoorbell, .geEcc]) m) (h : Same m s0 s) :
    Same m s0 (geBin g l f s) := by
  unfold geBin
  repeat' first | (with_reducible assumption) | (with_reducible apply slotOp_same)

theorem geInt_same (g : GeC) (f : Nat → Nat → Nat) {s : State}
    (hp : Sub (allow [.stats, .evt, .disp, .ge, .svc] [.evtRpt, .geDoorbell, .geEcc]) m) (h : Same m s0 s) :
    Same m s0 (geInt g f s) := by
  unfold geInt
  repeat' first | (with_reducible assumption) | (with_reducible apply slotOp_same)

theorem geJump_same (g : GeK) {s : State} (cond : Eng → Bool)
    (hp : Sub (allow [.stats, .evt, .disp, .ge, .svc] [.evtRpt, .geDoorbell, .geEcc]) m) (h : Same m s0 s) :
    Same m s0 (geJump g s cond) := by
  unfold geJump
  repeat' first | (with_reducible assumption) | (with_reducible apply slotOp_same)

theorem geLoop_same (g : GeK) {s : State} (n : Nat) (count : Eng → Nat)
    (hp : Sub (allow [.stats, .evt, .disp, .ge, .svc] [.evtRpt, .geDoorbell, .geEcc]) m) (h : Same m s0 s) :
    Same m s0 (geLoop g s n count) := by
  unfold geLoop
  repeat' first | (with_reducible assumption) | (with_reducible apply slotOp_same)

theorem geMem_same (g : GeM) (size : Nat) (pair : Bool) {s : State} (act : Eng → Nat → Eng)
    (hp : Sub (allow [.stats, .evt, .disp, .ge, .svc] [.evtRpt, .geDoorbell, .geEcc]) m) (h : Same m s0 s) :
    Same m s0 (geMem g size pair s act) := by
  unfold geMem
  repeat' first | (with_reducible assumption) | (with_reducible apply slotOp_same)

theorem postWaiting_same {s : State}
    (hp : Sub (allow [.freeCtr, .evt, .disp, .ge] [.evtRpt]) m) (h : Same m s0 s) :
    Same m s0 (postWaiting s) := by
  unfold postWaiting
  repeat' first
    | (with_reducible assumption) | (with_reducible exact Free.rfl) | (with_reducible refine Free.bit hp ?_; decide)
    | (with_reducible refine Sub.trans ?_ hp; decide) | (with_reducible apply dispatchPost_same)
    | (with_reducible refine same_foldl ?_ ?_; intro _ _ _)
    | (with_reducible apply same_parts)
    | (simp only [same_mk_iff]) | split

theorem rollLeft_same {s : State} (r : Roll)
    (hp : Sub (allow [.evt, .ge] [.evtRpt]) m) (h : Same m s0 s) :
    Same m s0 (rollLeft s r) := by
  unfold rollLeft
  repeat' first
    | (with_reducible assumption) | (with_reducible exact Free.rfl) | (with_reducible refine Free.bit hp ?_; decide)
    | (with_reducible refine Sub.trans ?_ hp; decide) | (with_reducible apply raise_same) | (with_reducible apply same_ite)
    | (with_reducible apply same_parts)
    | (simp only [same_mk_iff])

theorem rollMove_same {s : State} (r : Roll) (e : Nat)
    (hp : Sub (allow [.evt, .ge] [.evtRpt]) m) (h : Same m s0 s) :
    Same m s0 (rollMove s r e) := by
  unfold rollMove
  repeat' first
    | (with_reducible assumption) | (with_reducible refine Sub.trans ?_ hp; decide) | (with_reducible apply rollLeft_same)
    | (with_reducible apply State_setEng_same)

theorem stallBundle_same {s : State} (e : Nat)
    (hp : Sub (allow [.ge] []) m) (h : Same m s0 s) :
    Same m s0 (stallBundle s e) := by
  unfold stallBundle
  repeat' first | (with_reducible assumption) | (with_reducible apply State_setEng_same) | (with_reducible apply same_ite)

theorem startNext_same {s : State} (e : Nat)
    (hp : Sub (allow [.ge] []) m) (h : Same m s0 s) :
    Same m s0 (startNext s e) := by
  unfold startNext
  repeat' first
    | (with_reducible assumption) | (with_reducible apply State_setEng_same) | (with_reducible apply same_ite) | (simp only [same_mk_iff])
    | split

theorem startRoll_same {s : State} (ovr : Sparse (List Byte))
    (hp : Sub (allow [.evt, .ge] [.evtRpt]) m) (h : Same m s0 s) :
    Same m s0 (startRoll s ovr) := by
  unfold startRoll
  repeat' first
    | (with_reducible assumption) | (with_reducible refine Sub.trans ?_ hp; decide) | (with_reducible apply rollLeft_same)
    | (with_reducible apply State_setEng_same) | (with_reducible refine same_foldl ?_ ?_; intro _ _ _)

/-! ## CalOps -/

theorem State_setCal_same {s : State} (p : Nat) (i : Nat) (x : CalItem)
    (hp : Sub (allow [.cal] []) m) (h : Same m s0 s) :
    Same m s0 (State.setCal s p i x) := by
  unfold State.setCal
  repeat' first
    | (with_reducible assumption) | (with_reducible exact Free.rfl) | (with_reducible refine Free.bit hp ?_; decide)
    | (with_reducible apply same_parts)
    | (simp only [same_mk_iff])

theorem State_setTop_same {s : State} (p : Nat) (x : TopNote)
    (hp : Sub (allow [.cal] []) m) (h : Same m s0 s) :
    Same m s0 (State.setTop s p x) := by
  unfold State.setTop
  repeat' first
    | (with_reducible assumption) | (with_reducible exact Free.rfl) | (with_reducible refine Free.bit hp ?_; decide)
    | (with_reducible apply same_parts)
    | (simp only [same_mk_iff])

theorem fgStatus_same {s : State} (p : Nat) (code : Nat)
    (hp : Sub (allowAny [.objs, .objGen]) m) (h : Same m s0 s) :
    Same m s0 (fgStatus s p code) := by
  unfold fgStatus
  repeat' first | (with_reducible assumption) | (with_reducible apply State_setPobj_same)

theorem fgEnd_same {s : State} (p : Nat) (code : Nat)
    (hp : Sub (allowAny [.objs, .objGen, .evt, .cal]) m) (h : Same m s0 s) :
    Same m s0 (fgEnd s p code) := by
  unfold fgEnd
  repeat' first
    | (with_reducible assumption) | (with_reducible exact Free.rfl) | (with_reducible refine Free.bit hp ?_; decide)
    | (with_reducible refine Sub.trans ?_ hp; decide) | (with_reducible apply fgStatus_same) | (with_reducible apply raise_same)
    | (with_reducible apply same_parts)
    | (simp only [same_mk_iff])

theorem fgAbort_same {s : State}
    (hp : Sub (allowAny [.objs, .objGen, .evt, .cal]) m) (h : Same m s0 s) :
    Same m s0 (fgAbort s) := by
  unfold fgAbort
  repeat' first | (with_reducible assumption) | (with_reducible apply fgEnd_same) | (with_reducible refine same_foldl ?_ ?_; intro _ _ _)

theorem setStaleBit_same {s : State} (p : Nat) (i : Nat) (b : Bool)
    (hp : Sub (allow [.evt, .cal] [.evtRpt]) m) (h : Same m s0 s) :
    Same m s0 (setStaleBit s p i b) := by
  unfold setStaleBit
  repeat' first
    | (with_reducible assumption) | (with_reducible exact Free.rfl) | (with_reducible refine Free.bit hp ?_; decide)
    | (with_reducible refine Sub.trans ?_ hp; decide) | (with_reducible apply raise_same) | (with_reducible apply same_ite)
    | (with_reducible apply same_parts)
    | (simp only [same_mk_iff])

theorem refreshed_same {s : State} (p : Nat) (i : Nat)
    (hp : Sub (allow [.evt, .cal] [.evtRpt]) m) (h : Same m s0 s) :
    Same m s0 (refreshed s p i) := by
  unfold refreshed
  repeat' first
    | (with_reducible assumption) | (with_reducible refine Sub.trans ?_ hp; decide) | (with_reducible apply State_setCal_same)
    | (with_reducible apply setStaleBit_same) | (with_reducible apply same_ite)

theorem retarget_same {s : State} (p : Nat) (i : Nat) (x : CalItem)
    (hp : Sub (allow [.cal] []) m) (h : Same m s0 s) :
    Same m s0 (retarget s p i x) := by
  unfold retarget
  repeat' first | (with_reducible assumption) | (with_reducible apply State_setCal_same) | (with_reducible apply same_ite)

theorem fgApply_same {s : State} (p : Nat) (results : List (Nat × CalMeas))
    (hp : Sub (allow [.evt, .cal] [.evtRpt]) m) (h : Same m s0 s) :
    Same m s0 (fgApply s p results) := by
  unfold fgApply
  repeat' first
    | (with_reducible assumption) | (with_reducible refine Sub.trans ?_ hp; decide) | (with_reducible apply refreshed_same)
    | (with_reducible apply retarget_same) | (with_reducible apply same_ite) | (with_reducible refine same_foldl ?_ ?_; intro _ _ _)

theorem fgRun_same {s : State} (p : Nat)
    (hp : Sub (allowAny [.objs, .objGen, .cal]) m) (h : Same m s0 s) :
    Same m s0 (fgRun s p) := by
  unfold fgRun
  repeat' first
    | (with_reducible assumption) | (with_reducible exact Free.rfl) | (with_reducible refine Free.bit hp ?_; decide)
    | (with_reducible refine Sub.trans ?_ hp; decide) | (with_reducible apply fgStatus_same)
    | (with_reducible apply same_parts)
    | (simp only [same_mk_iff])

theorem fgPathOff_same {s : State} (p : Nat)
    (hp : Sub (allowAny [.objs, .objGen, .cal]) m) (h : Same m s0 s) :
    Same m s0 (fgPathOff s p) := by
  unfold fgPathOff
  repeat' first | (with_reducible assumption) | (with_reducible apply fgRun_same) | (with_reducible apply same_ite)

theorem fgRequest_same {s : State} (who : Option Role) (p : Nat) (i : Nat) (flags : Nat)
    (hp : Sub (allowAny [.objs, .objGen, .evt, .fe, .bm, .cal]) m) (h : Same m s0 s) :
    Same m s0 (fgRequest s who p i flags) := by
  unfold fgRequest
  repeat' first
    | (with_reducible assumption) | (with_reducible exact Free.rfl) | (with_reducible refine Free.bit hp ?_; decide)
    | (with_reducible refine Sub.trans ?_ hp; decide) | (with_reducible apply fgStatus_same) | (with_reducible apply failPath_same)
    | (with_reducible apply fgRun_same) | (with_reducible apply raise_same) | (with_reducible apply fgEnd_same)
    | (with_reducible apply same_ite)
    | (with_reducible apply same_parts)
    | (simp only [same_mk_iff]) | split

theorem heartLimit_same {s : State} (p : Nat) (i : Nat) (bad : Bool)
    (hp : Sub (allow [.evt, .fe, .bm, .cal] [.evtRpt]) m) (h : Same m s0 s) :
    Same m s0 (heartLimit s p i bad) := by
  unfold heartLimit
  repeat' first
    | (with_reducible assumption) | (with_reducible exact Free.rfl) | (with_reducible refine Free.bit hp ?_; decide)
    | (with_reducible refine Sub.trans ?_ hp; decide) | (with_reducible apply failPath_same) | (with_reducible apply raise_same)
    | (with_reducible apply same_ite)
    | (with_reducible apply same_parts)
    | (simp only [same_mk_iff])

theorem lastRun_same {s : State} (item : Nat) (result : Nat)
    (hp : Sub (allowAny [.objs, .objGen]) m) (h : Same m s0 s) :
    Same m s0 (lastRun s item result) := by
  unfold lastRun
  repeat' first | (with_reducible assumption) | (with_reducible apply State_setObj_same)

theorem learn_same {s : State} (p : Nat) (i : Nat) (v : CalVal)
    (hp : Sub (allow [.cal] []) m) (h : Same m s0 s) :
    Same m s0 (learn s p i v) := by
  unfold learn
  repeat' first
    | (with_reducible assumption) | (with_reducible exact Free.rfl) | (with_reducible refine Free.bit hp ?_; decide)
    | (with_reducible apply same_parts)
    | (simp only [same_mk_iff]) | split

theorem skipWindow_same {s : State} (p : Nat)
    (hp : Sub (allow [.fresh] [.calSkip, .calStat]) m) (h : Same m s0 s) :
    Same m s0 (skipWindow s p) := by
  unfold skipWindow
  repeat' first
    | (with_reducible assumption) | (with_reducible refine Sub.bit hp ?_; decide) | (with_reducible refine Sub.trans ?_ hp; decide)
    | (with_reducible apply setFlag_same) | (with_reducible apply bump_same)

theorem stepPaths_same {s : State} (ps : List Nat) (step : Nat)
    (hp : Sub (allow [.fe, .cvt, .rx] []) m) (h : Same m s0 s) :
    Same m s0 (stepPaths s ps step) := by
  unfold stepPaths
  repeat' first
    | (with_reducible assumption) | (with_reducible refine Sub.trans ?_ hp; decide) | (with_reducible apply gainChanged_same)
    | (with_reducible apply State_setFe_same) | (with_reducible apply setAtt_same) | (with_reducible apply same_ite)
    | (with_reducible refine same_foldl ?_ ?_; intro _ _ _)

theorem topUpdate_same {s : State} (p : Nat) (x2 : TopMeas)
    (hp : Sub (allowAny [.objs, .objGen, .evt, .cal]) m) (h : Same m s0 s) :
    Same m s0 (topUpdate s p x2) := by
  unfold topUpdate
  repeat' first
    | (with_reducible assumption) | (with_reducible refine Sub.trans ?_ hp; decide) | (with_reducible apply retarget_same)
    | (with_reducible apply State_setPobj_same) | (with_reducible apply refreshed_same) | (with_reducible apply same_ite)

theorem unstepPaths_same {r : State} {s : State} (ps : List Nat)
    (hp : Sub (allow [.fe, .cvt, .rx] []) m) (h : Same m s0 s) :
    Same m s0 (unstepPaths r s ps) := by
  unfold unstepPaths
  repeat' first
    | (with_reducible assumption) | (with_reducible refine Sub.trans ?_ hp; decide) | (with_reducible apply gainChanged_same)
    | (with_reducible apply State_setFe_same) | (with_reducible apply setAtt_same) | (with_reducible apply same_ite)
    | (with_reducible refine same_foldl ?_ ?_; intro _ _ _)

theorem windowReturn_same {s : State} (p : Nat)
    (hp : Sub (allow [.clk, .evt, .tl, .fe, .cvt, .rx, .tx, .bm, .cal, .lnk, .marks, .air] [.evtRpt]) m) (h : Same m s0 s) :
    Same m s0 (windowReturn s p) := by
  unfold windowReturn
  repeat' first
    | (with_reducible assumption) | (with_reducible exact Free.rfl) | (with_reducible refine Free.bit hp ?_; decide)
    | (with_reducible refine Sub.trans ?_ hp; decide) | (with_reducible apply reachCount_same) | (with_reducible apply arrayMargin_same)
    | (with_reducible apply enterPathState_same) | (with_reducible apply same_ite)
    | (with_reducible apply same_parts)
    | (simp only [same_mk_iff])

/-! ## LinkOps -/

theorem police_same {s : State} (n : Nat) (bytes : Nat)
    (hp : Sub (allow [.lnk] []) m) (h : Same m s0 s) :
    Same m s0 (police s n bytes).2 := by
  unfold police
  repeat' first | (with_reducible assumption) | (with_reducible apply State_setPort_same) | (with_reducible apply same_ite_snd)

theorem dropMsg_same {s : State} (port : Nat) (cause : Nat) (cc : Option Nat)
    (hp : Sub (allow [.stats, .evt] [.evtRpt, .lnkPortDrop, .lnkPortLate]) m) (h : Same m s0 s) :
    Same m s0 (dropMsg s port cause cc) := by
  unfold dropMsg
  repeat' first
    | (with_reducible assumption) | (with_reducible refine Sub.bit hp ?_; decide) | (with_reducible refine Sub.trans ?_ hp; decide)
    | (with_reducible apply bump_same) | (with_reducible apply stat_same) | (with_reducible apply raise_same)
    | (with_reducible apply firewall_same) | (with_reducible apply bumpField_same) | (with_reducible apply same_ite)
    | (simp only [same_mk_iff]) | split

theorem admitFrame_same {s : State} (f : LnkFrame) (ty : Nat) (policed : Bool) (hp : Sub (allow [.clk, .stats, .evt, .lnk, .air] [.evtRpt,
        .lnkPortDrop, .lnkPortLate]) m) (h : Same m s0 s) :
    Same m s0 (admitFrame s f ty policed).2 := by
  unfold admitFrame
  have h1 := stat_same (0x9210 + f.port) 20 1 (Sub.trans (by decide) hp) (reachCount_same f.tick (Sub.trans (by decide) hp) h)
  generalize stat (reachCount s f.tick) (0x9210 + f.port) 20 = s1 at h1 ⊢
  have h2 := police_same f.port f.len (Sub.trans (by decide) hp) h1
  dsimp only
  generalize police s1 f.port f.len = v at h2 ⊢
  repeat' first
    | (with_reducible assumption) | (with_reducible refine Sub.trans ?_ hp; decide) | (with_reducible apply dropMsg_same)
    | (with_reducible apply same_ite) | (with_reducible apply same_ite_snd)

theorem controlEntry_same {s : State} (f : LnkFrame) (rtc : Nat) (b : List Byte)
    (hp : Sub (allow [.stats, .evt, .lnk] [.evtRpt, .lnkPortDrop, .lnkPortLate]) m) (h : Same m s0 s) :
    Same m s0 (controlEntry s f rtc b) := by
  unfold controlEntry
  repeat' first
    | (with_reducible assumption) | (with_reducible exact Free.rfl) | (with_reducible refine Free.bit hp ?_; decide)
    | (with_reducible refine Sub.trans ?_ hp; decide) | (with_reducible apply dropMsg_same) | (with_reducible apply same_ite)
    | (with_reducible apply same_parts)
    | (simp only [same_mk_iff])

theorem rxSequence_same {s : State} (n : Nat) (pc : Nat) (seq : Nat)
    (hp : Sub (allow [.stats, .evt, .lnk] [.evtRpt]) m) (h : Same m s0 s) :
    Same m s0 (rxSequence s n pc seq) := by
  unfold rxSequence
  repeat' first
    | (with_reducible assumption) | (with_reducible refine Sub.trans ?_ hp; decide) | (with_reducible apply stat_same)
    | (with_reducible apply State_setPort_same) | (with_reducible apply same_ite)

theorem controlMessage_same {s : State} (f : LnkFrame)
    (hp : Sub (allow [.stats, .evt, .lnk] [.evtRpt, .lnkPortDrop, .lnkPortLate]) m) (h : Same m s0 s) :
    Same m s0 (controlMessage s f) := by
  unfold controlMessage
  repeat' first
    | (with_reducible assumption) | (with_reducible refine Sub.trans ?_ hp; decide) | (with_reducible apply dropMsg_same)
    | (with_reducible apply rxSequence_same) | (with_reducible apply controlEntry_same) | (with_reducible apply same_ite)
    | (with_reducible refine same_foldl ?_ ?_; intro _ _ _)

theorem countPn_same {s : State} (n : Nat)
    (hp : Sub (allow [.lnk] []) m) (h : Same m s0 s) :
    Same m s0 (countPn s n) := by
  unfold countPn
  repeat' first | (with_reducible assumption) | (with_reducible apply State_setPort_same) | (with_reducible apply same_ite)

theorem ptpUnlock_same {s : State} (state : Nat)
    (hp : Sub (allow [.evt, .lnk] [.evtRpt, .lnkPtpStat, .tlStatus]) m) (h : Same m s0 s) :
    Same m s0 (ptpUnlock s state) := by
  unfold ptpUnlock
  repeat' first
    | (with_reducible assumption) | (with_reducible exact Free.rfl) | (with_reducible refine Free.bit hp ?_; decide)
    | (with_reducible refine Sub.bit hp ?_; decide) | (with_reducible refine Sub.trans ?_ hp; decide) | (with_reducible apply wf_same)
    | (with_reducible apply raise_same) | (with_reducible apply wbit_same) | (with_reducible apply same_ite)
    | (with_reducible apply same_parts)
    | (simp only [same_mk_iff])

theorem holdover_same {s : State}
    (hp : Sub (allow [.evt, .lnk] [.evtRpt, .lnkPtpStat, .tlStatus]) m) (h : Same m s0 s) :
    Same m s0 (holdover s) := by
  unfold holdover
  repeat' first
    | (with_reducible assumption) | (with_reducible exact Free.rfl) | (with_reducible refine Free.bit hp ?_; decide)
    | (with_reducible refine Sub.bit hp ?_; decide) | (with_reducible refine Sub.trans ?_ hp; decide) | (with_reducible apply raise_same)
    | (with_reducible apply wbit_same) | (with_reducible apply ptpUnlock_same) | (with_reducible apply same_ite)
    | (with_reducible apply same_parts)
    | (simp only [same_mk_iff])

theorem iqSection_same {s : State} (f : LnkFrame)
    (hp : Sub (allow [.stats, .evt, .lnk] [.evtRpt, .lnkPortDrop, .lnkPortLate]) m) (h : Same m s0 s) :
    Same m s0 (iqSection s f) := by
  unfold iqSection
  repeat' first
    | (with_reducible assumption) | (with_reducible exact Free.rfl) | (with_reducible refine Free.bit hp ?_; decide)
    | (with_reducible refine Sub.trans ?_ hp; decide) | (with_reducible apply dropMsg_same) | (with_reducible apply rxSequence_same)
    | (with_reducible apply stat_same) | (with_reducible apply same_ite)
    | (with_reducible apply same_parts)
    | (simp only [same_mk_iff])

theorem setLaneState_same {s : State} (l : Nat) (v : Nat)
    (hp : Sub (allow [.subs] [.lnkLaneStat]) m) (h : Same m s0 s) :
    Same m s0 (setLaneState s l v) := by
  unfold setLaneState
  repeat' first
    | (with_reducible assumption) | (with_reducible refine Sub.bit hp ?_; decide) | (with_reducible refine Sub.trans ?_ hp; decide)
    | (with_reducible apply wf_same) | (with_reducible apply subDown_same) | (with_reducible apply subUp_same)
    | (with_reducible apply same_ite)

theorem synceAgain_same {s : State}
    (hp : Sub (allow [.lnk] []) m) (h : Same m s0 s) :
    Same m s0 (synceAgain s) := by
  unfold synceAgain
  repeat' first
    | (with_reducible assumption) | (with_reducible exact Free.rfl) | (with_reducible refine Free.bit hp ?_; decide)
    | (with_reducible apply same_ite)
    | (with_reducible apply same_parts)
    | (simp only [same_mk_iff])

theorem portState_same {s : State} (n : Nat) (aligned : Bool) (sa : Bool)
    (hp : Sub (allow [.evt, .lnk] [.evtRpt, .lnkPortStat]) m) (h : Same m s0 s) :
    Same m s0 (portState s n aligned sa) := by
  unfold portState
  repeat' first
    | (with_reducible assumption) | (with_reducible refine Sub.bit hp ?_; decide) | (with_reducible refine Sub.trans ?_ hp; decide)
    | (with_reducible apply wf_same) | (with_reducible apply synceAgain_same) | (with_reducible apply raise_same)
    | (with_reducible apply same_ite)

theorem portLost_same {s : State} (n : Nat)
    (hp : Sub (allow [.evt, .lnk] [.evtRpt, .lnkPortStat]) m) (h : Same m s0 s) :
    Same m s0 (portLost s n) := by
  unfold portLost
  repeat' first
    | (with_reducible assumption) | (with_reducible refine Sub.bit hp ?_; decide) | (with_reducible apply wbit_same)
    | (with_reducible apply portState_same)

theorem laneFails_same {s : State} (l : Nat)
    (hp : Sub (allow [.subs, .evt, .lnk, .nv] [.evtRpt, .lnkLaneStat, .lnkPortStat]) m) (h : Same m s0 s) :
    Same m s0 (laneFails s l) := by
  unfold laneFails
  repeat' first
    | (with_reducible assumption) | (with_reducible exact Free.rfl) | (with_reducible refine Free.bit hp ?_; decide)
    | (with_reducible refine Sub.bit hp ?_; decide) | (with_reducible refine Sub.trans ?_ hp; decide)
    | (with_reducible apply setLaneState_same) | (with_reducible apply wbit_same) | (with_reducible apply portLost_same)
    | (with_reducible apply raise_same) | (with_reducible apply same_ite)
    | (with_reducible apply same_parts)
    | (simp only [same_mk_iff]) | split

theorem laneMoved_same {s : State} (x1 : LaneMove)
    (hp : Sub (allow [.subs, .lnk] [.lnkLaneMap, .lnkLaneStat]) m) (h : Same m s0 s) :
    Same m s0 (laneMoved s x1) := by
  unfold laneMoved
  repeat' first
    | (with_reducible assumption) | (with_reducible exact Free.rfl) | (with_reducible refine Free.bit hp ?_; decide)
    | (with_reducible refine Sub.bit hp ?_; decide) | (with_reducible refine Sub.trans ?_ hp; decide) | (with_reducible apply wf_same)
    | (with_reducible apply setLaneState_same)
    | (with_reducible apply same_parts)
    | (simp only [same_mk_iff])

theorem lastSpare_same {s : State} (n : Nat)
    (hp : Sub (allow [.evt, .lnk, .svc, .nv] [.evtRpt]) m) (h : Same m s0 s) :
    Same m s0 (lastSpare s n) := by
  unfold lastSpare
  repeat' first
    | (with_reducible assumption) | (with_reducible refine Sub.trans ?_ hp; decide) | (with_reducible apply spareUsed_same)
    | (with_reducible apply raise_same) | (with_reducible apply same_ite)

theorem refreshLanes_same {s : State}
    (hp : Sub (allow [.subs] [.lnkLaneStat]) m) (h : Same m s0 s) :
    Same m s0 (refreshLanes s) := by
  unfold refreshLanes
  repeat' first
    | (with_reducible assumption) | (with_reducible apply setLaneState_same) | (with_reducible apply same_ite)
    | (with_reducible refine same_foldl ?_ ?_; intro _ _ _)

theorem sendMessage_same {s : State} (n : Nat) (kind : Nat) (body : List Byte)
    (hp : Sub (allow [.out, .lnk] []) m) (h : Same m s0 s) :
    Same m s0 (sendMessage s n kind body) := by
  unfold sendMessage
  repeat' first
    | (with_reducible assumption) | (with_reducible refine Sub.trans ?_ hp; decide) | (with_reducible apply emit_same)
    | (with_reducible apply countPn_same)

theorem sendIndication_same {s : State} (n : Nat) (fault : Nat) (element : Nat) (info : Nat) (cease : Bool)
    (hp : Sub (allow [.out, .lnk] []) m) (h : Same m s0 s) :
    Same m s0 (sendIndication s n fault element info cease) := by
  unfold sendIndication
  repeat' first
    | (with_reducible assumption) | (with_reducible refine Sub.trans ?_ hp; decide) | (with_reducible apply sendMessage_same)
    | (with_reducible apply State_setPort_same)

theorem sendEvent_same {s : State} (n : Nat) (q : Nat × Nat × Nat × Bool)
    (hp : Sub (allow [.out, .lnk] []) m) (h : Same m s0 s) :
    Same m s0 (sendEvent s n q) := by
  unfold sendEvent
  repeat' first | (with_reducible assumption) | (with_reducible apply sendIndication_same) | (with_reducible apply same_ite)

theorem sendSection_same {s : State} (n : Nat) (x2 : SecHdr) (payload : List Byte)
    (hp : Sub (allow [.out, .lnk] []) m) (h : Same m s0 s) :
    Same m s0 (sendSection s n x2 payload) := by
  unfold sendSection
  repeat' first
    | (with_reducible assumption) | (with_reducible refine Sub.trans ?_ hp; decide) | (with_reducible apply State_setPort_same)
    | (with_reducible apply sendMessage_same)

theorem sendPrach_same {s : State} (j : Nat)
    (hp : Sub (allow [.stats, .evt, .out, .lnk] [.evtRpt]) m) (h : Same m s0 s) :
    Same m s0 (sendPrach s j) := by
  unfold sendPrach
  repeat' first
    | (with_reducible assumption) | (with_reducible exact Free.rfl) | (with_reducible refine Free.bit hp ?_; decide)
    | (with_reducible refine Sub.trans ?_ hp; decide) | (with_reducible apply stat_same) | (with_reducible apply sendSection_same)
    | (with_reducible apply same_ite) | (with_reducible refine same_foldl ?_ ?_; intro _ _ _)
    | (with_reducible apply same_parts)
    | (simp only [same_mk_iff])

theorem sendSyncMsg_same {s : State} (n : Nat) (id : Nat) (kind : Nat)
    (hp : Sub (allow [.out, .lnk] []) m) (h : Same m s0 s) :
    Same m s0 (sendSyncMsg s n id kind) := by
  unfold sendSyncMsg
  repeat' first
    | (with_reducible assumption) | (with_reducible refine Sub.trans ?_ hp; decide) | (with_reducible apply sendMessage_same)
    | (with_reducible apply State_setPort_same)

theorem sendUplink_same {s : State} (cc : Nat)
    (hp : Sub (allow [.stats, .evt, .out, .lnk] [.evtRpt]) m) (h : Same m s0 s) :
    Same m s0 (sendUplink s cc) := by
  unfold sendUplink
  repeat' first
    | (with_reducible assumption) | (with_reducible exact Free.rfl) | (with_reducible refine Free.bit hp ?_; decide)
    | (with_reducible refine Sub.trans ?_ hp; decide) | (with_reducible apply stat_same) | (with_reducible apply sendSection_same)
    | (with_reducible apply same_ite) | (with_reducible refine same_foldl ?_ ?_; intro _ _ _)
    | (with_reducible apply same_parts)
    | (simp only [same_mk_iff])

theorem stepCount_same {s : State} (d : Int)
    (hp : Sub (allow [.clk] []) m) (h : Same m s0 s) :
    Same m s0 (stepCount s d) := by
  unfold stepCount
  repeat' first
    | (with_reducible assumption) | (with_reducible exact Free.rfl) | (with_reducible refine Free.bit hp ?_; decide)
    | (with_reducible apply same_parts)
    | (simp only [same_mk_iff])

theorem timeCorrection_same {s : State} (quarterNs : Int)
    (hp : Sub (allow [.clk, .evt, .tl, .rx] [.evtRpt, .tlCtrl]) m) (h : Same m s0 s) :
    Same m s0 (timeCorrection s quarterNs) := by
  unfold timeCorrection
  repeat' first
    | (with_reducible assumption) | (with_reducible exact Free.rfl) | (with_reducible refine Free.bit hp ?_; decide)
    | (with_reducible refine Sub.bit hp ?_; decide) | (with_reducible refine Sub.trans ?_ hp; decide) | (with_reducible apply raise_same)
    | (with_reducible apply stepCount_same) | (with_reducible apply requestSync_same) | (with_reducible apply wbit_same)
    | (with_reducible apply same_ite)
    | (with_reducible apply same_parts)
    | (simp only [same_mk_iff])

theorem windowClose_same {s : State} (cc : Nat) (air : Nat)
    (hp : Sub (allow [.stats, .evt] [.evtRpt]) m) (h : Same m s0 s) :
    Same m s0 (windowClose s cc air) := by
  unfold windowClose
  repeat' first
    | (with_reducible assumption) | (with_reducible refine Sub.trans ?_ hp; decide) | (with_reducible apply raise_same)
    | (with_reducible apply stat_same) | (with_reducible apply same_ite)

/-! ## SecOps -/

theorem State_setRoot_same {s : State} (r : Nat) (x : RootSlot)
    (hp : Sub (allow [.nv] [.secRootstat]) m) (h : Same m s0 s) :
    Same m s0 (State.setRoot s r x) := by
  unfold State.setRoot
  repeat' first
    | (with_reducible assumption) | (with_reducible exact Free.rfl) | (with_reducible refine Free.bit hp ?_; decide)
    | (with_reducible refine Sub.bit hp ?_; decide) | (with_reducible apply wf_same)
    | (with_reducible apply same_parts)
    | (simp only [same_mk_iff])

theorem attest_same {s : State} (nonce : List Byte)
    (hp : Sub (allow [.freeCtr, .sec] []) m) (h : Same m s0 s) :
    Same m s0 (attest s nonce) := by
  unfold attest
  repeat' first
    | (with_reducible assumption) | (with_reducible exact Free.rfl) | (with_reducible refine Free.bit hp ?_; decide)
    | (with_reducible refine Sub.trans ?_ hp; decide) | (with_reducible apply draw_same)
    | (with_reducible apply same_parts)
    | (simp only [same_mk_iff])

theorem challengeRead_same {s : State}
    (hp : Sub (allow [.freeCtr, .sec] [.dbgChalId]) m) (h : Same m s0 s) :
    Same m s0 (challengeRead s).2 := by
  unfold challengeRead
  repeat' first
    | (with_reducible assumption) | (with_reducible exact Free.rfl) | (with_reducible refine Free.bit hp ?_; decide)
    | (with_reducible refine Sub.bit hp ?_; decide) | (with_reducible refine Sub.trans ?_ hp; decide)
    | (with_reducible apply drawBytes_same) | (with_reducible apply wr_same) | (with_reducible apply same_ite_snd)
    | (with_reducible apply same_parts)
    | (simp only [same_mk_iff]) | split

theorem resumeEngine_same {s : State} (e : Nat)
    (hp : Sub (allow [.ge] []) m) (h : Same m s0 s) :
    Same m s0 (resumeEngine s e) := by
  unfold resumeEngine
  repeat' first | (with_reducible assumption) | (with_reducible apply State_setEng_same) | (with_reducible apply same_ite)

theorem firmwareStops_same {s : State}
    (hp : Sub (allow [.ctl, .evt, .marks] [.evtRpt]) m) (h : Same m s0 s) :
    Same m s0 (firmwareStops s) := by
  unfold firmwareStops
  repeat' first
    | (with_reducible assumption) | (with_reducible exact Free.rfl) | (with_reducible refine Free.bit hp ?_; decide)
    | (with_reducible refine Sub.trans ?_ hp; decide) | (with_reducible apply markOn_same) | (with_reducible apply raise_same)
    | (with_reducible apply same_ite) | (with_reducible refine same_foldl ?_ ?_; intro _ _ _)
    | (with_reducible apply same_parts)
    | (simp only [same_mk_iff])

theorem firmwareResumes_same {s : State}
    (hp : Sub (allow [.ctl, .evt, .marks] [.evtRpt]) m) (h : Same m s0 s) :
    Same m s0 (firmwareResumes s) := by
  unfold firmwareResumes
  repeat' first
    | (with_reducible assumption) | (with_reducible exact Free.rfl) | (with_reducible refine Free.bit hp ?_; decide)
    | (with_reducible refine Sub.trans ?_ hp; decide) | (with_reducible apply markOff_same) | (with_reducible apply firmwareStops_same)
    | (with_reducible apply markOn_same) | (with_reducible apply same_ite)
    | (with_reducible apply same_parts)
    | (simp only [same_mk_iff])

theorem releaseHalts_same {s : State}
    (hp : Sub (allow [.ctl, .evt, .ge, .marks] [.dbgCoreCtrl, .dbgEngHalt, .evtRpt]) m) (h : Same m s0 s) :
    Same m s0 (releaseHalts s) := by
  unfold releaseHalts
  repeat' first
    | (with_reducible assumption) | (with_reducible refine Sub.bit hp ?_; decide) | (with_reducible refine Sub.trans ?_ hp; decide)
    | (with_reducible apply resumeEngine_same) | (with_reducible apply wr_same) | (with_reducible apply firmwareResumes_same)
    | (with_reducible apply same_ite) | (with_reducible refine same_foldl ?_ ?_; intro _ _ _)

theorem releaseScan_same {s : State}
    (hp : Sub (allow [.sec, .hk] [.bdacDrnStat]) m) (h : Same m s0 s) :
    Same m s0 (releaseScan s) := by
  unfold releaseScan
  repeat' first
    | (with_reducible assumption) | (with_reducible exact Free.rfl) | (with_reducible refine Free.bit hp ?_; decide)
    | (with_reducible refine Sub.trans ?_ hp; decide) | (with_reducible apply drainRise_same) | (with_reducible apply same_ite)
    | (with_reducible apply same_parts)
    | (simp only [same_mk_iff])

theorem sessionLeaves_same {s : State}
    (hp : Sub (allow [.ctl, .evt, .sec, .ge, .hk, .marks] [.bdacDrnStat, .dbgCoreCtrl, .dbgEngHalt, .dbgStat, .evtRpt, .memBankCtrl]) m) (h
        : Same m s0 s) :
    Same m s0 (sessionLeaves s) := by
  unfold sessionLeaves
  repeat' first
    | (with_reducible assumption) | (with_reducible exact Free.rfl) | (with_reducible refine Free.bit hp ?_; decide)
    | (with_reducible refine Sub.bit hp ?_; decide) | (with_reducible refine Sub.trans ?_ hp; decide)
    | (with_reducible apply releaseHalts_same) | (with_reducible apply wbit_same) | (with_reducible apply wf_same)
    | (with_reducible apply releaseScan_same) | (with_reducible refine same_foldl ?_ ?_; intro _ _ _)
    | (with_reducible apply same_parts)
    | (simp only [same_mk_iff])

theorem endDebug_same {s : State}
    (hp : Sub (allow [.ctl, .evt, .sec, .ge, .hk, .marks] [.bdacDrnStat, .dbgCoreCtrl, .dbgEngHalt, .dbgStat, .evtRpt, .memBankCtrl]) m) (h
        : Same m s0 s) :
    Same m s0 (endDebug s) := by
  unfold endDebug
  repeat' first
    | (with_reducible assumption) | (with_reducible refine Sub.trans ?_ hp; decide) | (with_reducible apply raise_same)
    | (with_reducible apply sessionLeaves_same) | split

theorem closeSessions_same {s : State} (p : Session → Bool)
    (hp : Sub (allow [.ctl, .evt, .diong, .sec, .ge, .hk, .marks] [.bdacDrnStat, .dbgCoreCtrl, .dbgEngHalt, .dbgStat, .evtRpt,
        .memBankCtrl]) m) (h : Same m s0 s) :
    Same m s0 (closeSessions s p) := by
  unfold closeSessions
  repeat' first
    | (with_reducible assumption) | (with_reducible exact Free.rfl) | (with_reducible refine Free.bit hp ?_; decide)
    | (with_reducible refine Sub.trans ?_ hp; decide) | (with_reducible apply endDebug_same) | (with_reducible apply same_ite)
    | (with_reducible apply same_parts)
    | (simp only [same_mk_iff]) | split

theorem debugResponse_same {s : State} (path : Nat) (b : List Byte) (owner : Option (Transport × Nat))
    (hp : Sub (allow [.stats, .evt, .sec] [.dbgStat, .evtRpt]) m) (h : Same m s0 s) :
    Same m s0 (debugResponse s path b owner).2 := by
  unfold debugResponse
  repeat' first
    | (with_reducible assumption) | (with_reducible exact Free.rfl) | (with_reducible refine Free.bit hp ?_; decide)
    | (with_reducible refine Sub.bit hp ?_; decide) | (with_reducible refine Sub.trans ?_ hp; decide) | (with_reducible apply wf_same)
    | (with_reducible apply raise_same) | (with_reducible apply wbit_same) | (with_reducible apply stat_same)
    | (with_reducible apply same_ite) | (with_reducible apply same_ite_snd)
    | (with_reducible apply same_parts)
    | (simp only [same_mk_iff])

theorem keyStat_same {s : State}
    (hp : Sub (allow [] [.secKeystat]) m) (h : Same m s0 s) :
    Same m s0 (keyStat s) := by
  unfold keyStat
  repeat' first | (with_reducible assumption) | (with_reducible refine Sub.bit hp ?_; decide) | (with_reducible apply wr_same)

theorem keyEnvelope_same {s : State} (role : Role) (k : Nat) (b : List Byte)
    (hp : Sub (allow [.ctl, .evt, .diong, .sec, .ge, .hk, .nv, .marks] [.bdacDrnStat, .dbgCoreCtrl, .dbgEngHalt, .dbgStat, .evtRpt,
        .memBankCtrl, .secKeystat]) m) (h : Same m s0 s) :
    Same m s0 (keyEnvelope s role k b).2 := by
  unfold keyEnvelope
  repeat' first
    | (with_reducible assumption) | (with_reducible exact Free.rfl) | (with_reducible refine Free.bit hp ?_; decide)
    | (with_reducible refine Sub.trans ?_ hp; decide) | (with_reducible apply raise_same) | (with_reducible apply keyStat_same)
    | (with_reducible apply closeSessions_same) | (with_reducible apply same_ite) | (with_reducible apply same_ite_snd)
    | (with_reducible apply same_parts)
    | (simp only [same_mk_iff])

theorem raiseMinimums_same {s : State}
    (hp : Sub (allow [.nv] []) m) (h : Same m s0 s) :
    Same m s0 (raiseMinimums s) := by
  unfold raiseMinimums
  repeat' first
    | (with_reducible assumption) | (with_reducible exact Free.rfl) | (with_reducible refine Free.bit hp ?_; decide)
    | (with_reducible apply same_parts)
    | (simp only [same_mk_iff])

theorem lcTransition_same {s : State} (to_ : Nat)
    (hp : Sub (allow [.freeCtr, .nv] []) m) (h : Same m s0 s) :
    Same m s0 (lcTransition s to_) := by
  unfold lcTransition
  repeat' first
    | (with_reducible assumption) | (with_reducible exact Free.rfl) | (with_reducible refine Free.bit hp ?_; decide)
    | (with_reducible refine Sub.trans ?_ hp; decide) | (with_reducible apply draw_same) | (with_reducible apply raiseMinimums_same)
    | (with_reducible apply same_parts)
    | (simp only [same_mk_iff]) | split

theorem loadImage_same {s : State} (b : List Byte)
    (hp : Sub (allow [.mem] []) m) (h : Same m s0 s) :
    Same m s0 (loadImage s b) := by
  unfold loadImage
  repeat' first | (with_reducible assumption) | (with_reducible apply sramPoke_same)

theorem rootRecord_same {s : State} (b : List Byte)
    (hp : Sub (allow [.evt, .nv] [.evtRpt, .secRootstat]) m) (h : Same m s0 s) :
    Same m s0 (rootRecord s b).2 := by
  unfold rootRecord
  repeat' first
    | (with_reducible assumption) | (with_reducible refine Sub.trans ?_ hp; decide) | (with_reducible apply raise_same)
    | (with_reducible apply State_setRoot_same) | (with_reducible apply same_ite_snd)

theorem suspendDebug_same {s : State} (target : Nat)
    (hp : Sub (allow [.ctl, .evt, .sec, .ge, .hk, .marks] [.bdacDrnStat, .dbgCoreCtrl, .dbgEngHalt, .dbgStat, .evtRpt, .memBankCtrl]) m) (h
        : Same m s0 s) :
    Same m s0 (suspendDebug s target) := by
  unfold suspendDebug
  repeat' first
    | (with_reducible assumption) | (with_reducible exact Free.rfl) | (with_reducible refine Free.bit hp ?_; decide)
    | (with_reducible refine Sub.bit hp ?_; decide) | (with_reducible refine Sub.trans ?_ hp; decide)
    | (with_reducible apply sessionLeaves_same) | (with_reducible apply raise_same) | (with_reducible apply wf_same)
    | (with_reducible apply wbit_same)
    | (with_reducible apply same_parts)
    | (simp only [same_mk_iff]) | split

/-! ## SvcOps -/

theorem State_setHo_same {s : State} (v : Nat)
    (hp : Sub (allow [] [.ctlFwStat]) m) (h : Same m s0 s) :
    Same m s0 (State.setHo s v) := by
  unfold State.setHo
  repeat' first | (with_reducible assumption) | (with_reducible refine Sub.bit hp ?_; decide) | (with_reducible apply wf_same)

theorem State_setHoResult_same {s : State} (v : Nat)
    (hp : Sub (allow [] [.ctlFwStat]) m) (h : Same m s0 s) :
    Same m s0 (State.setHoResult s v) := by
  unfold State.setHoResult
  repeat' first | (with_reducible assumption) | (with_reducible refine Sub.bit hp ?_; decide) | (with_reducible apply wf_same)

theorem State_setPair_same {s : State} (p : Nat) (stopped : Bool) (verified : Bool)
    (hp : Sub (allow [.ctl] []) m) (h : Same m s0 s) :
    Same m s0 (State.setPair s p stopped verified) := by
  unfold State.setPair
  repeat' first
    | (with_reducible assumption) | (with_reducible exact Free.rfl) | (with_reducible refine Free.bit hp ?_; decide)
    | (with_reducible apply same_ite)
    | (with_reducible apply same_parts)
    | (simp only [same_mk_iff])

theorem State_setStandby_same {s : State} (v : Nat)
    (hp : Sub (allow [] [.ctlFwStat]) m) (h : Same m s0 s) :
    Same m s0 (State.setStandby s v) := by
  unfold State.setStandby
  repeat' first | (with_reducible assumption) | (with_reducible refine Sub.bit hp ?_; decide) | (with_reducible apply wf_same)

theorem bootGo_same {s : State} (v : Nat)
    (hp : Sub (allow [.boot] [.pwrBoot]) m) (h : Same m s0 s) :
    Same m s0 (bootGo s v) := by
  unfold bootGo
  repeat' first
    | (with_reducible assumption) | (with_reducible exact Free.rfl) | (with_reducible refine Free.bit hp ?_; decide)
    | (with_reducible refine Sub.bit hp ?_; decide) | (with_reducible apply wbit_same) | (with_reducible apply same_ite)
    | (with_reducible apply same_parts)
    | (simp only [same_mk_iff])

theorem coreCtrl_same {s : State} (v : Nat)
    (hp : Sub (allow [.ctl, .evt, .marks] [.dbgCoreCtrl, .evtRpt]) m) (h : Same m s0 s) :
    Same m s0 (coreCtrl s v) := by
  unfold coreCtrl
  repeat' first
    | (with_reducible assumption) | (with_reducible refine Sub.bit hp ?_; decide) | (with_reducible refine Sub.trans ?_ hp; decide)
    | (with_reducible apply wf_same) | (with_reducible apply firmwareStops_same) | (with_reducible apply firmwareResumes_same)
    | (with_reducible apply same_ite)

theorem engineHalt_same {s : State} (e : Nat) (halt : Bool)
    (hp : Sub (allow [.stats, .evt, .disp, .ge] [.evtRpt, .geDoorbell]) m) (h : Same m s0 s) :
    Same m s0 (engineHalt s e halt) := by
  unfold engineHalt
  repeat' first
    | (with_reducible assumption) | (with_reducible refine Sub.trans ?_ hp; decide) | (with_reducible apply endBundle_same)
    | (with_reducible apply State_setEng_same) | (with_reducible apply resumeEngine_same) | (with_reducible apply same_ite)

theorem engineHalts_same {s : State} (v : Nat)
    (hp : Sub (allow [.stats, .evt, .disp, .ge] [.dbgEngHalt, .evtRpt, .geDoorbell]) m) (h : Same m s0 s) :
    Same m s0 (engineHalts s v) := by
  unfold engineHalts
  repeat' first
    | (with_reducible assumption) | (with_reducible refine Sub.bit hp ?_; decide) | (with_reducible refine Sub.trans ?_ hp; decide)
    | (with_reducible apply wbit_same) | (with_reducible apply engineHalt_same) | (with_reducible apply same_ite)
    | (with_reducible refine same_foldl ?_ ?_; intro _ _ _)

theorem exchange_same {s : State}
    (hp : Sub (allow [.ctl, .evt, .marks] [.ctlFwStat, .evtRpt, .secBoot]) m) (h : Same m s0 s) :
    Same m s0 (exchange s) := by
  unfold exchange
  repeat' first
    | (with_reducible assumption) | (with_reducible exact Free.rfl) | (with_reducible refine Free.bit hp ?_; decide)
    | (with_reducible refine Sub.bit hp ?_; decide) | (with_reducible refine Sub.trans ?_ hp; decide) | (with_reducible apply wf_same)
    | (with_reducible apply firmwareResumes_same)
    | (with_reducible apply same_parts)
    | (simp only [same_mk_iff])

theorem flashWrite_same {s : State} (tag : Nat) (slot : Nat) (b : List Byte)
    (hp : Sub (allow [.evt, .nv] [.evtRpt]) m) (h : Same m s0 s) :
    Same m s0 (flashWrite s tag slot b) := by
  unfold flashWrite
  repeat' first
    | (with_reducible assumption) | (with_reducible exact Free.rfl) | (with_reducible refine Free.bit hp ?_; decide)
    | (with_reducible refine Sub.trans ?_ hp; decide) | (with_reducible apply firewall_same) | (with_reducible apply same_ite)
    | (with_reducible apply same_parts)
    | (simp only [same_mk_iff])

theorem fwAlive_same {s : State} (pair : Nat)
    (hp : Sub (allow [] [.ctlFwSig]) m) (h : Same m s0 s) :
    Same m s0 (fwAlive s pair) := by
  unfold fwAlive
  repeat' first
    | (with_reducible assumption) | (with_reducible refine Sub.bit hp ?_; decide) | (with_reducible apply wbit_same)
    | (with_reducible apply same_ite)

theorem fwReady_same {s : State} (pair : Nat)
    (hp : Sub (allow [.ctl, .evt] [.ctlFwStat, .evtRpt]) m) (h : Same m s0 s) :
    Same m s0 (fwReady s pair) := by
  unfold fwReady
  repeat' first
    | (with_reducible assumption) | (with_reducible refine Sub.trans ?_ hp; decide) | (with_reducible apply raise_same)
    | (with_reducible apply State_setPair_same) | (with_reducible apply State_setStandby_same) | (with_reducible apply same_ite)

theorem fwSaved_same {s : State} (pair : Nat)
    (hp : Sub (allow [] [.ctlFwSig]) m) (h : Same m s0 s) :
    Same m s0 (fwSaved s pair) := by
  unfold fwSaved
  repeat' first
    | (with_reducible assumption) | (with_reducible refine Sub.bit hp ?_; decide) | (with_reducible apply wbit_same)
    | (with_reducible apply same_ite)

theorem fwSignal_same {s : State} (x1 : Master) (tag : Nat) (v : Nat)
    (hp : Sub (allow [.ctl, .evt] [.ctlFwSig, .ctlFwStat, .evtRpt]) m) (h : Same m s0 s) :
    Same m s0 (fwSignal s x1 tag v) := by
  unfold fwSignal
  repeat' first
    | (with_reducible assumption) | (with_reducible refine Sub.trans ?_ hp; decide) | (with_reducible apply fwReady_same)
    | (with_reducible apply fwSaved_same) | (with_reducible apply fwAlive_same) | (with_reducible apply firewall_same)
    | (with_reducible apply same_ite) | (simp only [same_mk_iff]) | split

theorem hoFails_same {s : State} (result : Nat)
    (hp : Sub (allow [.evt] [.ctlFwStat, .evtRpt]) m) (h : Same m s0 s) :
    Same m s0 (hoFails s result) := by
  unfold hoFails
  repeat' first
    | (with_reducible assumption) | (with_reducible refine Sub.trans ?_ hp; decide) | (with_reducible apply raise_same)
    | (with_reducible apply State_setHoResult_same) | (with_reducible apply State_setHo_same)

theorem hoRequest_same {s : State} (boundary : Nat) (tick : Nat)
    (hp : Sub (allow [.svc] [.ctlFwSig, .ctlFwStat]) m) (h : Same m s0 s) :
    Same m s0 (hoRequest s boundary tick) := by
  unfold hoRequest
  repeat' first
    | (with_reducible assumption) | (with_reducible exact Free.rfl) | (with_reducible refine Free.bit hp ?_; decide)
    | (with_reducible refine Sub.bit hp ?_; decide) | (with_reducible refine Sub.trans ?_ hp; decide)
    | (with_reducible apply State_setHoResult_same) | (with_reducible apply wr_same) | (with_reducible apply State_setHo_same)
    | (with_reducible apply wbit_same) | (with_reducible apply same_ite)
    | (with_reducible apply same_parts)
    | (simp only [same_mk_iff])

theorem hoReverts_same {s : State}
    (hp : Sub (allow [.ctl, .evt, .nv, .marks] [.ctlFwSig, .ctlFwStat, .evtRpt, .secBoot]) m) (h : Same m s0 s) :
    Same m s0 (hoReverts s) := by
  unfold hoReverts
  repeat' first
    | (with_reducible assumption) | (with_reducible exact Free.rfl) | (with_reducible refine Free.bit hp ?_; decide)
    | (with_reducible refine Sub.bit hp ?_; decide) | (with_reducible refine Sub.trans ?_ hp; decide)
    | (with_reducible apply exchange_same) | (with_reducible apply State_setPair_same) | (with_reducible apply flashWrite_same)
    | (with_reducible apply raise_same) | (with_reducible apply State_setStandby_same) | (with_reducible apply State_setHoResult_same)
    | (with_reducible apply State_setHo_same) | (with_reducible apply wr_same)
    | (with_reducible apply same_parts)
    | (simp only [same_mk_iff])

theorem laneFault_same {s : State} (c : Nat) (k : Nat)
    (hp : Sub (allow [.subs, .evt, .fe, .rx, .bm, .lnk, .svc, .nv, .marks] [.evtRpt]) m) (h : Same m s0 s) :
    Same m s0 (laneFault s c k) := by
  unfold laneFault
  repeat' first
    | (with_reducible assumption) | (with_reducible exact Free.rfl) | (with_reducible refine Free.bit hp ?_; decide)
    | (with_reducible refine Sub.trans ?_ hp; decide) | (with_reducible apply raise_same) | (with_reducible apply failPath_same)
    | (with_reducible apply retireLane_same) | (with_reducible apply markOn_same) | (with_reducible apply requestMove_same)
    | (with_reducible apply State_setLanes_same) | (with_reducible apply nextFault_same) | (with_reducible apply same_ite)
    | (with_reducible apply same_parts)
    | (simp only [same_mk_iff]) | split

theorem lockstepFault_same {s : State} (pair : Nat)
    (hp : Sub (allow [.ctl, .evt, .marks] [.ctlFwStat, .evtRpt]) m) (h : Same m s0 s) :
    Same m s0 (lockstepFault s pair) := by
  unfold lockstepFault
  repeat' first
    | (with_reducible assumption) | (with_reducible exact Free.rfl) | (with_reducible refine Free.bit hp ?_; decide)
    | (with_reducible refine Sub.trans ?_ hp; decide) | (with_reducible apply raise_same) | (with_reducible apply State_setPair_same)
    | (with_reducible apply hoFails_same) | (with_reducible apply firmwareStops_same) | (with_reducible apply State_setStandby_same)
    | (with_reducible apply same_ite)
    | (with_reducible apply same_parts)
    | (simp only [same_mk_iff])

theorem nvCount_same {s : State} (word : Nat) (kind : Nat)
    (hp : Sub (allow [.nv] []) m) (h : Same m s0 s) :
    Same m s0 (nvCount s word kind) := by
  unfold nvCount
  repeat' first
    | (with_reducible assumption) | (with_reducible exact Free.rfl) | (with_reducible refine Free.bit hp ?_; decide)
    | (with_reducible apply same_parts)
    | (simp only [same_mk_iff])

theorem promote_same {s : State}
    (hp : Sub (allow [.ctl, .evt, .nv, .marks] [.ctlFwSig, .ctlFwStat, .evtRpt, .secBoot]) m) (h : Same m s0 s) :
    Same m s0 (promote s) := by
  unfold promote
  repeat' first
    | (with_reducible assumption) | (with_reducible exact Free.rfl) | (with_reducible refine Free.bit hp ?_; decide)
    | (with_reducible refine Sub.trans ?_ hp; decide) | (with_reducible apply hoReverts_same) | (with_reducible apply exchange_same)
    | (with_reducible apply same_ite)
    | (with_reducible apply same_parts)
    | (simp only [same_mk_iff])

theorem retireEngine_same {s : State} (e : Nat) (byCommand : Bool)
    (hp : Sub (allow [.stats, .evt, .adm, .disp, .ge, .lnk, .svc, .nv] [.evtRpt, .geDoorbell]) m) (h : Same m s0 s) :
    Same m s0 (retireEngine s e byCommand) := by
  unfold retireEngine
  repeat' first
    | (with_reducible assumption) | (with_reducible exact Free.rfl) | (with_reducible refine Free.bit hp ?_; decide)
    | (with_reducible refine Sub.trans ?_ hp; decide) | (with_reducible apply abortJobs_same) | (with_reducible apply State_setEng_same)
    | (with_reducible apply spareUsed_same) | (with_reducible apply raise_same) | (with_reducible apply readmit_same)
    | (with_reducible apply same_ite)
    | (with_reducible apply same_parts)
    | (simp only [same_mk_iff]) | split

theorem spareTakesOver_same {s : State} (e : Nat) (byCommand : Bool)
    (hp : Sub (allow [.evt, .adm, .ge, .lnk, .svc, .nv] [.evtRpt]) m) (h : Same m s0 s) :
    Same m s0 (spareTakesOver s e byCommand) := by
  unfold spareTakesOver
  repeat' first
    | (with_reducible assumption) | (with_reducible exact Free.rfl) | (with_reducible refine Free.bit hp ?_; decide)
    | (with_reducible refine Sub.trans ?_ hp; decide) | (with_reducible apply State_setEng_same) | (with_reducible apply spareUsed_same)
    | (with_reducible apply readmit_same)
    | (with_reducible apply same_parts)
    | (simp only [same_mk_iff]) | split

theorem standbyImage_same {s : State} (b : List Byte)
    (hp : Sub (allow [.ctl, .evt, .mem, .nv] [.ctlFwStat, .evtRpt]) m) (h : Same m s0 s) :
    Same m s0 (standbyImage s b).2 := by
  unfold standbyImage
  repeat' first
    | (with_reducible assumption) | (with_reducible refine Sub.trans ?_ hp; decide) | (with_reducible apply raise_same)
    | (with_reducible apply loadImage_same) | (with_reducible apply flashWrite_same) | (with_reducible apply State_setStandby_same)
    | (with_reducible apply State_setPair_same) | (with_reducible apply same_ite_snd)

/-! ## PowerOps -/

theorem recordWake_same {s : State} (src : Nat) (from_ : Nat) (abandoned : Bool)
    (hp : Sub (allow [] [.aonLastwake]) m) (h : Same m s0 s) :
    Same m s0 (recordWake s src from_ abandoned) := by
  unfold recordWake
  repeat' first | (with_reducible assumption) | (with_reducible refine Sub.bit hp ?_; decide) | (with_reducible apply wr_same)

theorem reqStatus_same {s : State} (v : Nat)
    (hp : Sub (allow [] [.pwrReqStat]) m) (h : Same m s0 s) :
    Same m s0 (reqStatus s v) := by
  unfold reqStatus
  repeat' first | (with_reducible assumption) | (with_reducible refine Sub.bit hp ?_; decide) | (with_reducible apply wf_same)

theorem setQueue_same {s : State} (q : Option PwrReq)
    (hp : Sub (allow [.pwr] [.pwrReqStat]) m) (h : Same m s0 s) :
    Same m s0 (setQueue s q) := by
  unfold setQueue
  repeat' first
    | (with_reducible assumption) | (with_reducible exact Free.rfl) | (with_reducible refine Free.bit hp ?_; decide)
    | (with_reducible refine Sub.bit hp ?_; decide) | (with_reducible apply wf_same) | (with_reducible apply wbit_same)
    | (with_reducible apply same_parts)
    | (simp only [same_mk_iff]) | split

theorem setLevel_same {s : State} (l : Nat)
    (hp : Sub (allow [] [.pwrStat]) m) (h : Same m s0 s) :
    Same m s0 (setLevel s l) := by
  unfold setLevel
  repeat' first | (with_reducible assumption) | (with_reducible refine Sub.bit hp ?_; decide) | (with_reducible apply wf_same)

theorem exitTo_same {s : State} (target : Nat)
    (hp : Sub (allow [.pwr] [.pwrStat]) m) (h : Same m s0 s) :
    Same m s0 (exitTo s target) := by
  unfold exitTo
  repeat' first
    | (with_reducible assumption) | (with_reducible exact Free.rfl) | (with_reducible refine Free.bit hp ?_; decide)
    | (with_reducible refine Sub.bit hp ?_; decide) | (with_reducible apply wbit_same)
    | (with_reducible apply same_parts)
    | (simp only [same_mk_iff])

theorem refuseReq_same {s : State} (status : Nat) (target : Nat)
    (hp : Sub (allow [.evt] [.evtRpt, .pwrReqStat]) m) (h : Same m s0 s) :
    Same m s0 (refuseReq s status target) := by
  unfold refuseReq
  repeat' first
    | (with_reducible assumption) | (with_reducible refine Sub.bit hp ?_; decide) | (with_reducible refine Sub.trans ?_ hp; decide)
    | (with_reducible apply raise_same) | (with_reducible apply wf_same) | (with_reducible apply reqStatus_same)

theorem stepStart_same {s : State} (k : Nat) (target : Nat)
    (hp : Sub (allow [.ctl, .evt, .ge, .pwr, .hk, .marks] [.bdacDrnStat, .dbgCoreCtrl, .dbgEngHalt, .evtRpt]) m) (h : Same m s0 s) :
    Same m s0 (stepStart s k target) := by
  unfold stepStart
  repeat' first
    | (with_reducible assumption) | (with_reducible exact Free.rfl) | (with_reducible refine Free.bit hp ?_; decide)
    | (with_reducible refine Sub.trans ?_ hp; decide) | (with_reducible apply allDrainsFall_same)
    | (with_reducible apply releaseHalts_same) | (with_reducible apply same_ite)
    | (with_reducible apply same_parts)
    | (simp only [same_mk_iff])

theorem beginReq_same {s : State} (r : PwrReq)
    (hp : Sub (allow [.ctl, .evt, .ge, .pwr, .hk, .marks] [.bdacDrnStat, .ctlFwStat, .dbgCoreCtrl, .dbgEngHalt, .evtRpt, .pwrReqStat,
        .pwrStat]) m) (h : Same m s0 s) :
    Same m s0 (beginReq s r) := by
  unfold beginReq
  repeat' first
    | (with_reducible assumption) | (with_reducible exact Free.rfl) | (with_reducible refine Free.bit hp ?_; decide)
    | (with_reducible refine Sub.bit hp ?_; decide) | (with_reducible refine Sub.trans ?_ hp; decide)
    | (with_reducible apply hoFails_same) | (with_reducible apply wbit_same) | (with_reducible apply wf_same)
    | (with_reducible apply reqStatus_same) | (with_reducible apply stepStart_same) | (with_reducible apply same_ite)
    | (with_reducible apply same_parts)
    | (simp only [same_mk_iff])

theorem countWake_same {s : State} (src : Nat)
    (hp : Sub (allow [] [.aonWcnt]) m) (h : Same m s0 s) :
    Same m s0 (countWake s src) := by
  unfold countWake
  repeat' first | (with_reducible assumption) | (with_reducible refine Sub.bit hp ?_; decide) | (with_reducible apply bump_same)

theorem startReq_same {s : State} (r : PwrReq)
    (hp : Sub (allow [.ctl, .evt, .ge, .pwr, .hk, .marks] [.aonLastwake, .aonWcnt, .bdacDrnStat, .ctlFwStat, .dbgCoreCtrl, .dbgEngHalt,
        .evtRpt, .pwrReqStat, .pwrStat]) m) (h : Same m s0 s) :
    Same m s0 (startReq s r) := by
  unfold startReq
  repeat' first
    | (with_reducible assumption) | (with_reducible exact Free.rfl) | (with_reducible refine Free.bit hp ?_; decide)
    | (with_reducible refine Sub.bit hp ?_; decide) | (with_reducible refine Sub.trans ?_ hp; decide)
    | (with_reducible apply refuseReq_same) | (with_reducible apply wf_same) | (with_reducible apply reqStatus_same)
    | (with_reducible apply raise_same) | (with_reducible apply recordWake_same) | (with_reducible apply beginReq_same)
    | (with_reducible apply setQueue_same) | (with_reducible apply exitTo_same) | (with_reducible apply countWake_same)
    | (with_reducible apply same_ite)
    | (with_reducible apply same_parts)
    | (simp only [same_mk_iff])

theorem startQueued_same {s : State}
    (hp : Sub (allow [.ctl, .evt, .ge, .pwr, .hk, .marks] [.aonLastwake, .aonWcnt, .bdacDrnStat, .ctlFwStat, .dbgCoreCtrl, .dbgEngHalt,
        .evtRpt, .pwrReqStat, .pwrStat]) m) (h : Same m s0 s) :
    Same m s0 (startQueued s) := by
  unfold startQueued
  repeat' first
    | (with_reducible assumption) | (with_reducible refine Sub.trans ?_ hp; decide) | (with_reducible apply startReq_same)
    | (with_reducible apply setQueue_same) | (with_reducible apply same_ite) | split

theorem settle_same {s : State} (new : Nat)
    (hp : Sub (allow [.ctl, .evt, .ge, .pwr, .hk, .marks] [.aonLastwake, .aonWcnt, .bdacDrnStat, .ctlFwStat, .dbgCoreCtrl, .dbgEngHalt,
        .evtRpt, .pwrReqStat, .pwrStat]) m) (h : Same m s0 s) :
    Same m s0 (settle s new) := by
  unfold settle
  repeat' first
    | (with_reducible assumption) | (with_reducible exact Free.rfl) | (with_reducible refine Free.bit hp ?_; decide)
    | (with_reducible refine Sub.bit hp ?_; decide) | (with_reducible refine Sub.trans ?_ hp; decide) | (with_reducible apply wbit_same)
    | (with_reducible apply wf_same) | (with_reducible apply setLevel_same) | (with_reducible apply raise_same)
    | (with_reducible apply exitTo_same) | (with_reducible apply recordWake_same) | (with_reducible apply startQueued_same)
    | (with_reducible apply same_ite)
    | (with_reducible apply same_parts)
    | (simp only [same_mk_iff]) | split

theorem leaveEntry_same {s : State} (target : Nat)
    (hp : Sub (allow [.ctl, .evt, .ge, .pwr, .hk, .marks] [.aonLastwake, .aonWcnt, .bdacDrnStat, .ctlFwStat, .dbgCoreCtrl, .dbgEngHalt,
        .evtRpt, .pwrReqStat, .pwrStat]) m) (h : Same m s0 s) :
    Same m s0 (leaveEntry s target) := by
  unfold leaveEntry
  repeat' first
    | (with_reducible assumption) | (with_reducible exact Free.rfl) | (with_reducible refine Free.bit hp ?_; decide)
    | (with_reducible refine Sub.trans ?_ hp; decide) | (with_reducible apply reqStatus_same) | (with_reducible apply settle_same)
    | (with_reducible apply exitTo_same) | (with_reducible apply same_ite)
    | (with_reducible apply same_parts)
    | (simp only [same_mk_iff])

theorem abandon_same {s : State} (r : PwrReq) (src : Nat)
    (hp : Sub (allow [.ctl, .evt, .ge, .pwr, .hk, .marks] [.aonLastwake, .aonWcnt, .bdacDrnStat, .ctlFwStat, .dbgCoreCtrl, .dbgEngHalt,
        .evtRpt, .pwrReqStat, .pwrStat]) m) (h : Same m s0 s) :
    Same m s0 (abandon s r src) := by
  unfold abandon
  repeat' first
    | (with_reducible assumption) | (with_reducible refine Sub.trans ?_ hp; decide) | (with_reducible apply raise_same)
    | (with_reducible apply recordWake_same) | (with_reducible apply reqStatus_same) | (with_reducible apply setQueue_same)
    | (with_reducible apply leaveEntry_same) | (with_reducible apply same_ite) | split

theorem abortPoint_same {s t : State} {r : PwrReq} (hp : Sub (allow [.ctl, .evt, .ge, .pwr, .hk, .marks] [.aonLastwake, .aonWcnt,
        .bdacDrnStat, .ctlFwStat, .dbgCoreCtrl, .dbgEngHalt, .evtRpt, .pwrReqStat, .pwrStat]) m) (h : Same m s0 s) (ht : abortPoint s r =
        some t) : Same m s0 t := by
  unfold abortPoint at ht
  split at ht
  · cases ht
  · split at ht
    · cases ht; exact abandon_same _ _ (Sub.trans (by decide) hp) h
    · cases ht; exact leaveEntry_same _ (Sub.trans (by decide) hp) (wf_same _ _ _ _ _ (Sub.bit hp (by decide)) (reqStatus_same _ (Sub.trans
        (by decide) hp) h))
    · cases ht

theorem closeAll_same {s : State}
    (hp : Sub (allow [.ctl, .evt, .diong, .sec, .ge, .hk, .marks] [.bdacDrnStat, .dbgCoreCtrl, .dbgEngHalt, .dbgStat, .evtRpt,
        .memBankCtrl]) m) (h : Same m s0 s) :
    Same m s0 (closeAll s) := by
  unfold closeAll
  repeat' first | (with_reducible assumption) | (with_reducible apply closeSessions_same)

theorem entryDone_same (k : Nat) {s : State} (r : PwrReq)
    (hp : Sub (allow [.ctl, .evt, .ge, .pwr, .hk, .marks] [.aonLastwake, .aonWcnt, .bdacDrnStat, .ctlFwStat, .dbgCoreCtrl, .dbgEngHalt,
        .evtRpt, .pwrReqStat, .pwrStat]) m) (h : Same m s0 s) :
    Same m s0 (entryDone k s r) := by
  unfold entryDone
  repeat' first
    | (with_reducible assumption) | (with_reducible exact Free.rfl) | (with_reducible refine Free.bit hp ?_; decide)
    | (with_reducible refine Sub.trans ?_ hp; decide) | (refine abortPoint_same (Sub.trans (by decide) hp) ?_ (by assumption))
    | (with_reducible apply settle_same) | (with_reducible apply reqStatus_same) | (with_reducible apply stepStart_same)
    | (with_reducible apply same_ite)
    | (with_reducible apply same_parts)
    | (simp only [same_mk_iff]) | split

theorem stepPathsOff_same {s : State} (target : Nat)
    (hp : Sub (allowAny [.objs, .objGen, .ctl, .evt, .tl, .fe, .cvt, .rx, .ge, .cal, .pwr, .hk, .marks]) m) (h : Same m s0 s) :
    Same m s0 (stepPathsOff s target) := by
  unfold stepPathsOff
  repeat' first
    | (with_reducible assumption) | (with_reducible exact Free.rfl) | (with_reducible refine Free.bit hp ?_; decide)
    | (with_reducible refine Sub.trans ?_ hp; decide) | (with_reducible apply stepStart_same) | (with_reducible apply fgAbort_same)
    | (with_reducible apply allPathsOff_same)
    | (with_reducible apply same_parts)
    | (simp only [same_mk_iff])

theorem islandClock_same {s : State} (i : Nat) (b : Bool)
    (hp : Sub (allow [.islands, .cvt] []) m) (h : Same m s0 s) :
    Same m s0 (islandClock s i b) := by
  unfold islandClock
  repeat' first | (with_reducible assumption) | (with_reducible apply islandSet_same)

theorem islandDown_same {s : State} (i : Nat)
    (hp : Sub (allow [.islands, .cvt, .mem] []) m) (h : Same m s0 s) :
    Same m s0 (islandDown s i) := by
  unfold islandDown
  repeat' first
    | (with_reducible assumption) | (with_reducible refine Sub.trans ?_ hp; decide) | (with_reducible apply dropParked_same)
    | (with_reducible apply islandSet_same)

theorem stepLinkIdle_same {s : State}
    (hp : Sub (allow [.stats, .evt, .lo, .fe, .lnk, .pwr, .marks] [.evtRpt, .lnkPortStat, .lnkPtpStat, .tlStatus]) m) (h : Same m s0 s) :
    Same m s0 (stepLinkIdle s) := by
  unfold stepLinkIdle
  repeat' first
    | (with_reducible assumption) | (with_reducible exact Free.rfl) | (with_reducible refine Free.bit hp ?_; decide)
    | (with_reducible refine Sub.trans ?_ hp; decide) | (with_reducible apply portLost_same) | (with_reducible apply synOff_same)
    | (with_reducible apply holdover_same) | (with_reducible refine same_foldl ?_ ?_; intro _ _ _)
    | (with_reducible apply same_parts)
    | (simp only [same_mk_iff])

theorem stepNap_same {s : State} (target : Nat)
    (hp : Sub (allow [.stats, .islands, .ctl, .evt, .sec, .cvt, .disp, .ge, .mem, .pwr, .hk, .svc, .marks] [.bdacDrnStat, .dbgCoreCtrl,
        .dbgEngHalt, .dbgStat, .evtRpt, .geDoorbell, .memBankCtrl, .pwrStat]) m) (h : Same m s0 s) :
    Same m s0 (stepNap s target) := by
  unfold stepNap
  repeat' first
    | (with_reducible assumption) | (with_reducible exact Free.rfl) | (with_reducible refine Free.bit hp ?_; decide)
    | (with_reducible refine Sub.trans ?_ hp; decide) | (with_reducible apply suspendDebug_same) | (with_reducible apply abortJobs_same)
    | (with_reducible apply State_setEng_same) | (with_reducible apply islandDown_same) | (with_reducible apply islandClock_same)
    | (with_reducible apply setLevel_same) | (with_reducible apply same_ite) | (with_reducible refine same_foldl ?_ ?_; intro _ _ _)
    | (with_reducible apply same_parts)
    | (simp only [same_mk_iff])

theorem storeConfig_same {s : State}
    (hp : Sub (allow [.fe, .nv] []) m) (h : Same m s0 s) :
    Same m s0 (storeConfig s) := by
  unfold storeConfig
  repeat' first
    | (with_reducible assumption) | (with_reducible exact Free.rfl) | (with_reducible refine Free.bit hp ?_; decide)
    | (with_reducible refine Sub.trans ?_ hp; decide) | (with_reducible apply State_setFe_same)
    | (with_reducible refine same_foldl ?_ ?_; intro _ _ _)
    | (with_reducible apply same_parts)
    | (simp only [same_mk_iff])

theorem stepListen_same {s : State}
    (hp : Sub (allow [.clk, .islands, .cvt, .mem, .pwr, .hk, .air] [.bdacChCode, .pwrStat]) m) (h : Same m s0 s) :
    Same m s0 (stepListen s) := by
  unfold stepListen
  repeat' first
    | (with_reducible assumption) | (with_reducible exact Free.rfl) | (with_reducible refine Free.bit hp ?_; decide)
    | (with_reducible refine Sub.trans ?_ hp; decide) | (with_reducible apply safeDue_same) | (with_reducible apply reachElapsed_same)
    | (with_reducible apply State_setBias_same) | (with_reducible apply setLevel_same) | (with_reducible apply islandDown_same)
    | (with_reducible refine same_foldl ?_ ?_; intro _ _ _)
    | (with_reducible apply same_parts)
    | (simp only [same_mk_iff])

theorem entryStep_same {s : State} (r : PwrReq)
    (hp : Sub (allowAny [.clk, .objs, .objGen, .stats, .islands, .ctl, .evt, .tl, .sec, .lo, .fe, .cvt, .rx, .disp, .ge, .cal, .lnk, .mem,
        .pwr, .hk, .svc, .nv, .marks, .air]) m) (h : Same m s0 s) :
    Same m s0 (entryStep s r) := by
  unfold entryStep
  repeat' first
    | (with_reducible assumption) | (with_reducible exact Free.rfl) | (with_reducible refine Free.bit hp ?_; decide)
    | (with_reducible refine Sub.trans ?_ hp; decide) | (refine abortPoint_same (Sub.trans (by decide) hp) ?_ (by assumption))
    | (with_reducible apply entryDone_same) | (with_reducible apply reachCount_same) | (with_reducible apply stepPathsOff_same)
    | (with_reducible apply islandClock_same) | (with_reducible apply setLevel_same) | (with_reducible apply islandDown_same)
    | (with_reducible apply stepLinkIdle_same) | (with_reducible apply stepNap_same) | (with_reducible apply raise_same)
    | (with_reducible apply storeConfig_same) | (with_reducible apply stepListen_same) | (with_reducible apply same_ite)
    | (with_reducible refine same_foldl ?_ ?_; intro _ _ _)
    | (with_reducible apply same_parts)
    | (simp only [same_mk_iff]) | split

theorem islandUp_same {s : State} (i : Nat)
    (hp : Sub (allow [.islands, .cvt] []) m) (h : Same m s0 s) :
    Same m s0 (islandUp s i) := by
  unfold islandUp
  repeat' first | (with_reducible assumption) | (with_reducible apply islandSet_same)

theorem synWakes_same {s : State} (n : Nat)
    (hp : Sub (allow [.stats, .evt, .lo, .fe, .rx, .marks] [.evtRpt]) m) (h : Same m s0 s) :
    Same m s0 (synWakes s n) := by
  unfold synWakes
  repeat' first
    | (with_reducible assumption) | (with_reducible refine Sub.trans ?_ hp; decide) | (with_reducible apply tuneWord_same)
    | (with_reducible apply applyForced_same) | (with_reducible apply trunkGood_same) | (with_reducible apply State_setSyn_same)
    | (with_reducible apply same_ite)

theorem linkWakes_same {s : State}
    (hp : Sub (allow [.stats, .evt, .lo, .fe, .rx, .pwr, .marks] [.evtRpt]) m) (h : Same m s0 s) :
    Same m s0 (linkWakes s) := by
  unfold linkWakes
  repeat' first
    | (with_reducible assumption) | (with_reducible exact Free.rfl) | (with_reducible refine Free.bit hp ?_; decide)
    | (with_reducible refine Sub.trans ?_ hp; decide) | (with_reducible apply synWakes_same)
    | (with_reducible refine same_foldl ?_ ?_; intro _ _ _)
    | (with_reducible apply same_parts)
    | (simp only [same_mk_iff])

theorem loadPool_same {s : State}
    (hp : Sub (allow [.ge] []) m) (h : Same m s0 s) :
    Same m s0 (loadPool s) := by
  unfold loadPool
  repeat' first
    | (with_reducible assumption) | (with_reducible apply State_setEng_same) | (with_reducible apply same_ite)
    | (with_reducible refine same_foldl ?_ ?_; intro _ _ _)

theorem reportRejected_same {s : State}
    (hp : Sub (allow [.evt, .pwr] [.evtRpt]) m) (h : Same m s0 s) :
    Same m s0 (reportRejected s) := by
  unfold reportRejected
  repeat' first
    | (with_reducible assumption) | (with_reducible exact Free.rfl) | (with_reducible refine Free.bit hp ?_; decide)
    | (with_reducible refine Sub.trans ?_ hp; decide) | (with_reducible apply raise_same)
    | (with_reducible apply same_parts)
    | (simp only [same_mk_iff]) | split

theorem napExit_same {s : State}
    (hp : Sub (allow [.stats, .islands, .ctl, .evt, .diong, .sec, .lo, .fe, .cvt, .rx, .ge, .pwr, .hk, .svc, .nv, .marks] [.bdacDrnStat,
        .dbgCoreCtrl, .dbgEngHalt, .dbgStat, .evtRpt, .memBankCtrl, .pwrStat]) m) (h : Same m s0 s) :
    Same m s0 (napExit s) := by
  unfold napExit
  repeat' first
    | (with_reducible assumption) | (with_reducible exact Free.rfl) | (with_reducible refine Free.bit hp ?_; decide)
    | (with_reducible refine Sub.trans ?_ hp; decide) | (with_reducible apply islandUp_same) | (with_reducible apply loadPool_same)
    | (with_reducible apply linkWakes_same) | (with_reducible apply islandClock_same) | (with_reducible apply reportRejected_same)
    | (with_reducible apply closeAll_same) | (with_reducible apply setLevel_same) | (with_reducible apply same_ite)
    | (with_reducible refine same_foldl ?_ ?_; intro _ _ _)
    | (with_reducible apply same_parts)
    | (simp only [same_mk_iff])

theorem queueReq_same {s : State} (r : PwrReq)
    (hp : Sub (allow [.pwr] [.pwrReqStat]) m) (h : Same m s0 s) :
    Same m s0 (queueReq s r) := by
  unfold queueReq
  repeat' first
    | (with_reducible assumption) | (with_reducible refine Sub.trans ?_ hp; decide) | (with_reducible apply setQueue_same)
    | (with_reducible apply reqStatus_same)

theorem powerRequest_same {s : State} (target : Nat) (back : Bool)
    (hp : Sub (allow [.ctl, .evt, .ge, .pwr, .hk, .marks] [.aonLastwake, .aonWcnt, .bdacDrnStat, .ctlFwStat, .dbgCoreCtrl, .dbgEngHalt,
        .evtRpt, .pwrReqStat, .pwrStat]) m) (h : Same m s0 s) :
    Same m s0 (powerRequest s target back) := by
  unfold powerRequest
  repeat' first
    | (with_reducible assumption) | (with_reducible exact Free.rfl) | (with_reducible refine Free.bit hp ?_; decide)
    | (with_reducible refine Sub.trans ?_ hp; decide) | (with_reducible apply queueReq_same) | (with_reducible apply startReq_same)
    | (with_reducible apply same_ite)
    | (with_reducible apply same_parts)
    | (simp only [same_mk_iff]) | split

theorem shutdownEnds_same {s : State}
    (hp : Sub (allow [.ctl, .evt, .ge, .pwr, .hk, .marks] [.aonLastwake, .aonWcnt, .bdacDrnStat, .ctlFwStat, .dbgCoreCtrl, .dbgEngHalt,
        .evtRpt, .pwrReqStat, .pwrStat, .thmStat]) m) (h : Same m s0 s) :
    Same m s0 (shutdownEnds s) := by
  unfold shutdownEnds
  repeat' first
    | (with_reducible assumption) | (with_reducible refine Sub.bit hp ?_; decide) | (with_reducible refine Sub.trans ?_ hp; decide)
    | (with_reducible apply wbit_same) | (with_reducible apply startQueued_same) | (with_reducible apply same_ite)

theorem storeCal_same {s : State}
    (hp : Sub (allow [.cal, .nv] []) m) (h : Same m s0 s) :
    Same m s0 (storeCal s) := by
  unfold storeCal
  repeat' first
    | (with_reducible assumption) | (with_reducible exact Free.rfl) | (with_reducible refine Free.bit hp ?_; decide)
    | (with_reducible apply same_parts)
    | (simp only [same_mk_iff])

theorem thermalShutdown_same {s : State} (hottest : Nat)
    (hp : Sub (allowAny [.clk, .objs, .objGen, .stats, .islands, .ctl, .evt, .tl, .sec, .lo, .fe, .cvt, .rx, .disp, .ge, .cal, .lnk, .mem,
        .pwr, .hk, .svc, .nv, .marks, .air]) m) (h : Same m s0 s) :
    Same m s0 (thermalShutdown s hottest) := by
  unfold thermalShutdown
  repeat' first
    | (with_reducible assumption) | (with_reducible exact Free.rfl) | (with_reducible refine Free.bit hp ?_; decide)
    | (with_reducible refine Sub.bit hp ?_; decide) | (with_reducible refine Sub.trans ?_ hp; decide) | (with_reducible apply raise_same)
    | (with_reducible apply wbit_same) | (with_reducible apply allDrainsFall_same) | (with_reducible apply reqStatus_same)
    | (with_reducible apply setQueue_same) | (with_reducible apply entryStep_same) | (with_reducible apply beginReq_same)
    | (with_reducible apply leaveEntry_same) | (with_reducible apply settle_same) | (with_reducible apply same_ite)
    | (with_reducible apply same_parts)
    | (simp only [same_mk_iff]) | split

theorem toDepth0_same {s : State} (target : Nat)
    (hp : Sub (allow [.islands, .tl, .fe, .cvt, .rx, .tx, .ge, .pwr, .hk, .marks] [.bdacDrnStat, .pwrStat]) m) (h : Same m s0 s) :
    Same m s0 (toDepth0 s target) := by
  unfold toDepth0
  repeat' first
    | (with_reducible assumption) | (with_reducible exact Free.rfl) | (with_reducible refine Free.bit hp ?_; decide)
    | (with_reducible refine Sub.trans ?_ hp; decide) | (with_reducible apply islandClock_same) | (with_reducible apply islandUp_same)
    | (with_reducible apply enterPathState_same) | (with_reducible apply setLevel_same) | (with_reducible apply drainRise_same)
    | (with_reducible apply startNext_same) | (with_reducible apply same_ite) | (with_reducible refine same_foldl ?_ ?_; intro _ _ _)
    | (with_reducible apply same_parts)
    | (simp only [same_mk_iff])

theorem wakeFires_same {s : State} (src : Nat)
    (hp : Sub (allow [.ctl, .evt, .ge, .pwr, .hk, .marks] [.aonLastwake, .aonWcnt, .bdacDrnStat, .ctlFwStat, .dbgCoreCtrl, .dbgEngHalt,
        .evtRpt, .pwrReqStat, .pwrStat]) m) (h : Same m s0 s) :
    Same m s0 (wakeFires s src) := by
  unfold wakeFires
  repeat' first
    | (with_reducible assumption) | (with_reducible exact Free.rfl) | (with_reducible refine Free.bit hp ?_; decide)
    | (with_reducible refine Sub.trans ?_ hp; decide) | (with_reducible apply countWake_same) | (with_reducible apply abandon_same)
    | (with_reducible apply exitTo_same) | (with_reducible apply recordWake_same) | (with_reducible apply same_ite)
    | (with_reducible apply same_parts)
    | (simp only [same_mk_iff]) | split

theorem wakeTransition_same {s : State} (target : Nat)
    (hp : Sub (allow [.clk, .islands, .ctl, .evt, .tl, .fe, .cvt, .rx, .tx, .ge, .pwr, .hk, .marks, .air] [.aonLastwake, .aonWcnt,
        .bdacDrnStat, .ctlFwStat, .dbgCoreCtrl, .dbgEngHalt, .evtRpt, .pwrReqStat, .pwrStat]) m) (h : Same m s0 s) :
    Same m s0 (wakeTransition s target) := by
  unfold wakeTransition
  repeat' first
    | (with_reducible assumption) | (with_reducible refine Sub.trans ?_ hp; decide) | (with_reducible apply reachElapsed_same)
    | (with_reducible apply reqStatus_same) | (with_reducible apply settle_same) | (with_reducible apply reachCount_same)
    | (with_reducible apply toDepth0_same) | (with_reducible apply same_ite) | split

end Sys2Proof.Machine
end

