-- ==== Sys2Proof/Laws/SameShared.lean ====
section
/-! SUPPORT. What `Same` passes through: transactions, rings, admission, boot, debug and the Diong endpoint. -/

namespace Sys2Proof.Machine

variable {m : Nat} {s0 : State}

/-! ## DigestOps -/

theorem recomputeDigests_same {s : State}
    (hp : Sub (allow [.freeCtr, .diong] []) m) (h : Same m s0 s) :
    Same m s0 (recomputeDigests s) := by
  unfold recomputeDigests
  repeat' first
    | (with_reducible assumption) | (with_reducible exact Free.rfl) | (with_reducible refine Free.bit hp ?_; decide)
    | (with_reducible refine Sub.trans ?_ hp; decide) | (with_reducible apply draw_same)
    | (with_reducible apply same_parts)
    | (simp only [same_mk_iff])

/-! ## MboxOps -/

theorem mbox_same {s : State} (c : Master) (len : Nat) {f : List Byte → State → State}
    (ha : ∀ b, Same m s0 (f b s)) (hp : Sub (allow [.evt, .out] [.evtRpt, .secMboxStat]) m) (h : Same m s0 s) :
    Same m s0 (mbox s c len f) := by
  unfold mbox
  repeat' first
    | (with_reducible assumption) | (with_reducible refine Sub.bit hp ?_; decide) | (with_reducible refine Sub.trans ?_ hp; decide)
    | (with_reducible apply emit_same) | (with_reducible apply wr_same) | (with_reducible apply firewall_same) | (with_reducible apply ha)
    | split

theorem mboxDone_same {s : State} (code : Nat) (b : List Byte)
    (hp : Sub (allow [] [.secMboxBuf, .secMboxStat]) m) (h : Same m s0 s) :
    Same m s0 (mboxDone s code b) := by
  unfold mboxDone
  repeat' first
    | (with_reducible assumption) | (with_reducible refine Sub.bit hp ?_; decide) | (with_reducible apply wr_same)
    | (with_reducible refine same_foldl ?_ ?_; intro _ _ _)

theorem mboxAttest_same (b : List Byte) {s : State}
    (hp : Sub (allow [.freeCtr, .sec] [.secMboxBuf, .secMboxStat]) m) (h : Same m s0 s) :
    Same m s0 (mboxAttest b s) := by
  unfold mboxAttest
  repeat' first
    | (with_reducible assumption) | (with_reducible refine Sub.bit hp ?_; decide) | (with_reducible refine Sub.trans ?_ hp; decide)
    | (with_reducible apply attest_same) | (with_reducible apply mboxDone_same) | (with_reducible apply wr_same)
    | (with_reducible apply same_ite)

theorem mboxCheckTag_same (t : Transport) (b : List Byte) {s : State}
    (hp : Sub (allow [] [.secMboxBuf, .secMboxStat]) m) (h : Same m s0 s) :
    Same m s0 (mboxCheckTag t b s) := by
  unfold mboxCheckTag
  repeat' first | (with_reducible assumption) | (with_reducible apply mboxDone_same)

theorem mboxKey_same (role : Role) (b : List Byte) {s : State}
    (hp : Sub (allow [.ctl, .evt, .diong, .sec, .ge, .hk, .nv, .marks] [.bdacDrnStat, .dbgCoreCtrl, .dbgEngHalt, .dbgStat, .evtRpt,
        .memBankCtrl, .secKeystat, .secMboxBuf, .secMboxStat]) m) (h : Same m s0 s) :
    Same m s0 (mboxKey role b s) := by
  unfold mboxKey
  repeat' first
    | (with_reducible assumption) | (with_reducible refine Sub.trans ?_ hp; decide) | (with_reducible apply keyEnvelope_same)
    | (with_reducible apply mboxDone_same)

theorem mboxMakeTag_same (t : Transport) (b : List Byte) {s : State}
    (hp : Sub (allow [] [.secMboxBuf, .secMboxStat]) m) (h : Same m s0 s) :
    Same m s0 (mboxMakeTag t b s) := by
  unfold mboxMakeTag
  repeat' first | (with_reducible assumption) | (with_reducible apply mboxDone_same) | split

theorem mboxVerify_same (b : List Byte) {s : State}
    (hp : Sub (allow [] [.secMboxBuf, .secMboxStat]) m) (h : Same m s0 s) :
    Same m s0 (mboxVerify b s) := by
  unfold mboxVerify
  repeat' first | (with_reducible assumption) | (with_reducible apply mboxDone_same)

theorem mboxToken_same (b : List Byte) {s : State}
    (hp : Sub (allow [.freeCtr, .nv] [.secMboxBuf, .secMboxStat]) m) (h : Same m s0 s) :
    Same m s0 (mboxToken b s) := by
  unfold mboxToken
  repeat' first
    | (with_reducible assumption) | (with_reducible refine Sub.bit hp ?_; decide) | (with_reducible refine Sub.trans ?_ hp; decide)
    | (with_reducible apply mboxDone_same) | (with_reducible apply lcTransition_same) | (with_reducible apply wr_same)
    | (with_reducible apply same_ite)

theorem mboxRoot_same (b : List Byte) {s : State}
    (hp : Sub (allow [.evt, .nv] [.evtRpt, .secMboxBuf, .secMboxStat, .secRootstat]) m) (h : Same m s0 s) :
    Same m s0 (mboxRoot b s) := by
  unfold mboxRoot
  repeat' first
    | (with_reducible assumption) | (with_reducible refine Sub.trans ?_ hp; decide) | (with_reducible apply rootRecord_same)
    | (with_reducible apply mboxDone_same)

theorem mboxRandom_same (b : List Byte) {s : State}
    (hp : Sub (allow [.freeCtr] [.secMboxBuf, .secMboxStat]) m) (h : Same m s0 s) :
    Same m s0 (mboxRandom b s) := by
  unfold mboxRandom
  repeat' first
    | (with_reducible assumption) | (with_reducible refine Sub.trans ?_ hp; decide) | (with_reducible apply drawBytes_same)
    | (with_reducible apply mboxDone_same)

theorem mboxOf_same (code : Nat) (b : List Byte) {s : State}
    (hp : Sub (allow [.freeCtr, .ctl, .evt, .diong, .sec, .ge, .hk, .nv, .marks] [.bdacDrnStat, .dbgCoreCtrl, .dbgEngHalt, .dbgStat,
        .evtRpt, .memBankCtrl, .secKeystat, .secMboxBuf, .secMboxStat, .secRootstat]) m) (h : Same m s0 s) :
    Same m s0 (mboxOf code b s) := by
  unfold mboxOf
  repeat' first
    | (with_reducible assumption) | (with_reducible refine Sub.bit hp ?_; decide) | (with_reducible refine Sub.trans ?_ hp; decide)
    | (with_reducible apply mboxVerify_same) | (with_reducible apply mboxCheckTag_same) | (with_reducible apply mboxMakeTag_same)
    | (with_reducible apply mboxKey_same) | (with_reducible apply mboxAttest_same) | (with_reducible apply mboxToken_same)
    | (with_reducible apply mboxRoot_same) | (with_reducible apply mboxRandom_same) | (with_reducible apply wr_same) | split

theorem mboxWrite_same {s : State} (x1 : Master) (v : Nat)
    (hp : Sub (allow [.freeCtr, .ctl, .evt, .out, .diong, .sec, .ge, .hk, .nv, .marks] [.bdacDrnStat, .dbgCoreCtrl, .dbgEngHalt, .dbgStat,
        .evtRpt, .memBankCtrl, .secKeystat, .secMboxBuf, .secMboxStat, .secRootstat]) m) (h : Same m s0 s) :
    Same m s0 (mboxWrite s x1 v) := by
  unfold mboxWrite
  repeat' first
    | (with_reducible assumption) | (with_reducible refine Sub.trans ?_ hp; decide) | (intro _) | (with_reducible apply mbox_same)
    | (with_reducible apply mboxOf_same) | (with_reducible apply same_ite)

/-! ## MoverOps -/

theorem ringCompletion_same {s : State} (r : Nat) (full : Bool)
    (hp : Sub (allow [.fresh, .evt] [.dmaRingStat, .evtRpt]) m) (h : Same m s0 s) :
    Same m s0 (ringCompletion s r full) := by
  unfold ringCompletion
  repeat' first
    | (with_reducible assumption) | (with_reducible refine Sub.bit hp ?_; decide) | (with_reducible refine Sub.trans ?_ hp; decide)
    | (with_reducible apply raise_same) | (with_reducible apply setFlag_same)

theorem settleRing_same {s : State} (r : Nat)
    (hp : Sub (allow [.fresh, .evt, .mem] [.dmaRingStat, .evtRpt]) m) (h : Same m s0 s) :
    Same m s0 (settleRing s r) := by
  unfold settleRing
  repeat' first
    | (with_reducible assumption) | (with_reducible exact Free.rfl) | (with_reducible refine Free.bit hp ?_; decide)
    | (with_reducible refine Sub.trans ?_ hp; decide) | (with_reducible apply sramStore_same) | (with_reducible apply ringCompletion_same)
    | (with_reducible apply same_ite) | (with_reducible refine same_foldl ?_ ?_; intro _ _ _)
    | (with_reducible apply same_parts)
    | (simp only [same_mk_iff])

theorem moverFallback_same {s : State}
    (hp : Sub (allow [.fresh, .evt, .mem] [.dmaRingStat, .evtRpt]) m) (h : Same m s0 s) :
    Same m s0 (moverFallback s) := by
  unfold moverFallback
  repeat' first
    | (with_reducible assumption) | (with_reducible exact Free.rfl) | (with_reducible refine Free.bit hp ?_; decide)
    | (with_reducible refine Sub.trans ?_ hp; decide) | (with_reducible apply settleRing_same) | (with_reducible apply raise_same)
    | (with_reducible refine same_foldl ?_ ?_; intro _ _ _)
    | (with_reducible apply same_parts)
    | (simp only [same_mk_iff]) | split

theorem openBatch_same {s : State} (r : Nat) (tl : Bool)
    (hp : Sub (allow [.mem] [.dmaRingStat]) m) (h : Same m s0 s) :
    Same m s0 (openBatch s r tl) := by
  unfold openBatch
  repeat' first
    | (with_reducible assumption) | (with_reducible exact Free.rfl) | (with_reducible refine Free.bit hp ?_; decide)
    | (with_reducible refine Sub.bit hp ?_; decide) | (with_reducible apply wf_same)
    | (with_reducible apply same_parts)
    | (simp only [same_mk_iff])

theorem passTurn_same {s : State} (r : Nat)
    (hp : Sub (allow [.mem] []) m) (h : Same m s0 s) :
    Same m s0 (passTurn s r) := by
  unfold passTurn
  repeat' first
    | (with_reducible assumption) | (with_reducible exact Free.rfl) | (with_reducible refine Free.bit hp ?_; decide)
    | (with_reducible apply same_parts)
    | (simp only [same_mk_iff])

theorem switchMover_same {x0 : State} {s1 : State}
    (hp : Sub (allow [.fresh, .evt, .mem] [.dmaRingStat, .evtRpt]) m) (h : Same m s0 s1) :
    Same m s0 (switchMover x0 s1) := by
  unfold switchMover
  repeat' first
    | (with_reducible assumption) | (with_reducible exact Free.rfl) | (with_reducible refine Free.bit hp ?_; decide)
    | (with_reducible apply settleRing_same) | (with_reducible apply same_ite)
    | (with_reducible apply same_parts)
    | (simp only [same_mk_iff]) | split

theorem startBatch_same {s : State} (r : Nat) (tl : Bool)
    (hp : Sub (allow [.fresh, .evt, .mem] [.dmaRingStat, .evtRpt]) m) (h : Same m s0 s) :
    Same m s0 (startBatch s r tl) := by
  unfold startBatch
  repeat' first
    | (with_reducible assumption) | (with_reducible exact Free.rfl) | (with_reducible refine Free.bit hp ?_; decide)
    | (with_reducible refine Sub.trans ?_ hp; decide) | (with_reducible apply openBatch_same) | (with_reducible apply switchMover_same)
    | (with_reducible apply same_ite)
    | (with_reducible apply same_parts)
    | (simp only [same_mk_iff])

/-! ## Shared -/

theorem armStep_same {s : State} (t : Nat)
    (hp : Sub (allow [.tl] [.tlCtrl]) m) (h : Same m s0 s) :
    Same m s0 (armStep s t) := by
  unfold armStep
  repeat' first
    | (with_reducible assumption) | (with_reducible exact Free.rfl) | (with_reducible refine Free.bit hp ?_; decide)
    | (with_reducible refine Sub.bit hp ?_; decide) | (with_reducible apply wbit_same) | (with_reducible apply same_ite)
    | (with_reducible apply same_parts)
    | (simp only [same_mk_iff])

theorem thmMirror_same {s : State}
    (hp : Sub (allow [.objs] []) m) (h : Same m s0 s) :
    Same m s0 (thmMirror s) := by
  unfold thmMirror
  repeat' first
    | (with_reducible assumption) | (with_reducible exact Free.rfl) | (with_reducible refine Free.bit hp ?_; decide)
    | (with_reducible apply same_parts)
    | (simp only [same_mk_iff])

theorem wrxCheck_same {s : State}
    (hp : Sub (allow [] [.wrxCfg]) m) (h : Same m s0 s) :
    Same m s0 (wrxCheck s) := by
  unfold wrxCheck
  repeat' first
    | (with_reducible assumption) | (with_reducible refine Sub.bit hp ?_; decide) | (with_reducible apply wbit_same)
    | (with_reducible apply same_ite)

theorem afterWrite_same {s : State} (tag : Nat) (id : RegId) (ix : List Nat) (old : Nat) (asked : optParam Bool false)
    (hp : Sub (allow [.objs, .fresh, .evt, .tl, .sec, .fe, .cvt, .rx, .mem, .hk, .marks] [.dmaRingStat, .evtRpt, .monSeq, .monShared,
        .thmCtrl, .thmPwmDuty, .tlCtrl, .wrxCfg]) m) (h : Same m s0 s) :
    Same m s0 (afterWrite s tag id ix old asked) := by
  unfold afterWrite
  repeat' first
    | (with_reducible assumption) | (with_reducible exact Free.rfl) | (with_reducible refine Free.bit hp ?_; decide)
    | (with_reducible refine Sub.bit hp ?_; decide) | (with_reducible refine Sub.trans ?_ hp; decide)
    | (with_reducible apply armStep_same) | (with_reducible apply askAgain_same) | (with_reducible apply allPathsOff_same)
    | (with_reducible apply requestSync_same) | (with_reducible apply dropParked_same) | (with_reducible apply moverFallback_same)
    | (with_reducible apply dutyWritten_same) | (with_reducible apply fanUpdate_same) | (with_reducible apply thmMirror_same)
    | (with_reducible apply wf_same) | (with_reducible apply wrxCheck_same) | (with_reducible apply spurEdge_same)
    | (with_reducible apply clockPath_same) | (with_reducible apply same_ite)
    | (with_reducible apply same_parts)
    | (simp only [same_mk_iff]) | split

theorem bankWrite_same {s : State} (tag : Nat) (p : Nat) (b : Nat) (i : Nat) (v : Nat)
    (hp : Sub (allow [.evt, .dpds] [.dpdWrej, .evtRpt]) m) (h : Same m s0 s) :
    Same m s0 (bankWrite s tag p b i v) := by
  unfold bankWrite
  repeat' first
    | (with_reducible assumption) | (with_reducible refine Sub.trans ?_ hp; decide) | (with_reducible apply State_setDpd_same)
    | (with_reducible apply bankReject_same) | (with_reducible apply same_ite)

theorem capRelease_same {s : State} (tag : Nat) (c : Nat) (value : Nat)
    (hp : Sub (allow [.clk, .stats, .evt, .cvt, .air] [.capStat, .evtRpt]) m) (h : Same m s0 s) :
    Same m s0 (capRelease s tag c value) := by
  unfold capRelease
  repeat' first
    | (with_reducible assumption) | (with_reducible refine Sub.trans ?_ hp; decide) | (with_reducible apply askWaiting_same)
    | (with_reducible apply releaseBuffer_same) | (with_reducible apply firewall_same) | (with_reducible apply same_ite)

theorem dbgRefuse_same {s : State} (tag : Nat)
    (hp : Sub (allow [.evt] [.dbgFails, .evtRpt]) m) (h : Same m s0 s) :
    Same m s0 (dbgRefuse s tag) := by
  unfold dbgRefuse
  repeat' first
    | (with_reducible assumption) | (with_reducible refine Sub.bit hp ?_; decide) | (with_reducible refine Sub.trans ?_ hp; decide)
    | (with_reducible apply firewall_same) | (with_reducible apply bump_same)

theorem dpdRequests_same {s : State} (bits : Nat)
    (hp : Sub (allow [.fresh, .disp] []) m) (h : Same m s0 s) :
    Same m s0 (dpdRequests s bits) := by
  unfold dpdRequests
  repeat' first
    | (with_reducible assumption) | (with_reducible refine Sub.trans ?_ hp; decide) | (with_reducible apply makePending_same)
    | (with_reducible apply askAgain_same) | (with_reducible apply same_ite) | (with_reducible refine same_foldl ?_ ?_; intro _ _ _)

theorem gate_same {s : State} (x1 : Master) (tag : Nat) (a : Nat) (write : Bool)
    (hp : Sub (allow [.addrFaultRec, .evt] [.evtRpt]) m) (h : Same m s0 s) :
    Same m s0 (gate s x1 tag a write).2 := by
  unfold gate
  repeat' first
    | (with_reducible assumption) | (with_reducible refine Sub.trans ?_ hp; decide) | (with_reducible apply addrFault_same)
    | (with_reducible apply firewall_same) | (with_reducible apply same_ite_snd) | split

theorem regRead_same {s : State} (x1 : Master) (id : RegId) (ix : List Nat)
    (hp : Sub (allow [.freeCtr, .sec, .ge] [.dbgChalId, .monData, .tlNowHi]) m) (h : Same m s0 s) :
    Same m s0 (regRead s x1 id ix).2 := by
  unfold regRead
  repeat' first
    | (with_reducible assumption) | (with_reducible refine Sub.bit hp ?_; decide) | (with_reducible refine Sub.trans ?_ hp; decide)
    | (with_reducible apply wr_same) | (with_reducible apply State_setEng_same) | (with_reducible apply wbit_same)
    | (with_reducible apply challengeRead_same) | (with_reducible apply same_ite_snd) | (simp only [same_mk_iff]) | split

theorem readWord_reg_same (x0 : Master) {s : State} (a : Nat)
    (hp : Sub (allow [.freeCtr, .sec, .ge] [.dbgChalId, .monData, .tlNowHi]) m) (h : Same m s0 s) :
    Same m s0 (readWord.reg x0 s a).2 := by
  unfold readWord.reg
  repeat' first
    | (with_reducible assumption) | (with_reducible apply regRead_same) | (with_reducible apply same_ite_snd) | (simp only [same_mk_iff])
    | split

theorem readWord_same {s : State} (x1 : Master) (tag : Nat) (a : Nat)
    (hp : Sub (allow [.freeCtr, .sec, .ge] [.dbgChalId, .monData, .tlNowHi]) m) (h : Same m s0 s) :
    Same m s0 (readWord s x1 tag a).2 := by
  unfold readWord
  repeat' first
    | (with_reducible assumption) | (with_reducible apply readWord_reg_same) | (with_reducible apply same_ite_snd)
    | (simp only [same_mk_iff]) | split

theorem readWords_same (x : Master) (tag k b : Nat) {s : State} (hp : Sub (allow [.freeCtr, .sec, .ge] [.dbgChalId, .monData, .tlNowHi]) m)
        (h : Same m s0 s) :
    Same m s0 (readWords x tag k b s).2 := by
  induction k generalizing b s with
  | zero => exact h
  | succ k ih => exact ih _ (readWord_same _ _ _ (Sub.trans (by decide) hp) h)

theorem fabRead_same {s : State} (x1 : Master) (tag : Nat) (a : Nat) (n : Nat) (ring : optParam (Option Nat) none) (port : optParam Nat 42)
    (hp : Sub (allow [.freeCtr, .addrFaultRec, .evt, .sec, .ge] [.dbgChalId, .evtRpt, .memFault, .monData, .tlNowHi]) m) (h : Same m s0 s) :
    Same m s0 (fabRead s x1 tag a n ring port).2.2 := by
  unfold fabRead
  repeat' first
    | (with_reducible assumption) | (with_reducible refine Sub.trans ?_ hp; decide) | (with_reducible apply gate_same)
    | (with_reducible apply sramRead_same) | (with_reducible apply drawBytes_same) | (with_reducible apply readWords_same)
    | (simp only [same_mk_iff]) | (with_reducible refine same_eq_snd (by assumption) ?_) | split

theorem synEnable_same {s : State} (n : Nat) (en : Bool)
    (hp : Sub (allow [.stats, .evt, .lo, .fe, .marks] [.evtRpt, .loSynCtrl]) m) (h : Same m s0 s) :
    Same m s0 (synEnable s n en) := by
  unfold synEnable
  repeat' first
    | (with_reducible assumption) | (with_reducible refine Sub.bit hp ?_; decide) | (with_reducible refine Sub.trans ?_ hp; decide)
    | (with_reducible apply wbit_same) | (with_reducible apply synOff_same) | (with_reducible apply tuneSyn_same)
    | (with_reducible apply same_ite)

theorem postWrite_same {s : State} (e : Nat) (value : Nat) (tag : Nat)
    (hp : Sub (allow [.evt, .ge] [.evtRpt]) m) (h : Same m s0 s) :
    Same m s0 (postWrite s e value tag) := by
  unfold postWrite
  repeat' first | (with_reducible assumption) | (with_reducible apply postJob_same)

theorem ringDoorbell_same {s : State} (e : Nat)
    (hp : Sub (allow [.fresh, .ge] []) m) (h : Same m s0 s) :
    Same m s0 (ringDoorbell s e) := by
  unfold ringDoorbell
  repeat' first
    | (with_reducible assumption) | (with_reducible refine Sub.trans ?_ hp; decide) | (with_reducible apply State_setEng_same)
    | (with_reducible apply askAgain_same)

theorem hrxArm_same {s : State} (value : Nat)
    (hp : Sub (allow [.fresh] [.calHrx, .calHrxStat]) m) (h : Same m s0 s) :
    Same m s0 (hrxArm s value) := by
  unfold hrxArm
  repeat' first
    | (with_reducible assumption) | (with_reducible refine Sub.bit hp ?_; decide) | (with_reducible refine Sub.trans ?_ hp; decide)
    | (with_reducible apply wf_same) | (with_reducible apply askAgain_same) | (with_reducible apply same_ite)

theorem lockWrite_same {s : State} (tag : Nat) (value : Nat)
    (hp : Sub (allow [.evt, .mem] [.evtRpt, .memFault]) m) (h : Same m s0 s) :
    Same m s0 (lockWrite s tag value) := by
  unfold lockWrite
  repeat' first
    | (with_reducible assumption) | (with_reducible exact Free.rfl) | (with_reducible refine Free.bit hp ?_; decide)
    | (with_reducible refine Sub.trans ?_ hp; decide) | (with_reducible apply grantSet_same) | (with_reducible apply raise_same)
    | (with_reducible apply memFault_same) | (with_reducible apply same_ite)
    | (with_reducible apply same_parts)
    | (simp only [same_mk_iff])

theorem trigRing_same {s : State} (r : Nat) (tl : Bool)
    (hp : Sub (allow [.fresh, .evt, .mem] [.dmaRingStat, .dmaTrigDrop, .evtRpt]) m) (h : Same m s0 s) :
    Same m s0 (trigRing s r tl) := by
  unfold trigRing
  repeat' first
    | (with_reducible assumption) | (with_reducible refine Sub.bit hp ?_; decide) | (with_reducible refine Sub.trans ?_ hp; decide)
    | (with_reducible apply startBatch_same) | (with_reducible apply wf_same) | (with_reducible apply raise_same)
    | (with_reducible apply setFlag_same) | (with_reducible apply bump_same) | (with_reducible apply same_ite) | (simp only [same_mk_iff])
    | split

theorem regAction_same {s : State} (x1 : Master) (tag : Nat) (id : RegId) (ix : List Nat) (v : Nat)
    (hp : Sub (allowAny [.clk, .freeCtr, .regsStaged, .stats, .fresh, .ctl, .evt, .out, .adm, .diong, .sec, .lo, .fe, .cvt, .rx, .bm,
        .dpds, .disp, .ge, .lnk, .mem, .pwr, .hk, .svc, .boot, .nv, .marks, .air]) m) (h : Same m s0 s) :
    Same m s0 (regAction s x1 tag id ix v) := by
  unfold regAction
  repeat' first
    | (with_reducible assumption) | (with_reducible refine Sub.trans ?_ hp; decide) | (with_reducible apply coefWrite_same)
    | (with_reducible apply requestMove_same) | (with_reducible apply writeFields_same) | (with_reducible apply syncWrite_same)
    | (with_reducible apply synEnable_same) | (with_reducible apply forceTune_same) | (with_reducible apply capRelease_same)
    | (with_reducible apply failPath_same) | (with_reducible apply healClear_same) | (with_reducible apply requestHo_same)
    | (with_reducible apply dpdRequests_same) | (with_reducible apply postWrite_same) | (with_reducible apply ringDoorbell_same)
    | (with_reducible apply retireEngine_same) | (with_reducible apply hrxArm_same) | (with_reducible apply lockWrite_same)
    | (with_reducible apply trigRing_same) | (with_reducible apply powerRequest_same) | (with_reducible apply strobeMask_same)
    | (with_reducible apply drainRequest_same) | (with_reducible apply faultClear_same) | (with_reducible apply codeWrite_same)
    | (with_reducible apply monTrigger_same) | (with_reducible apply clearSticky_same) | (with_reducible apply mboxWrite_same)
    | (with_reducible apply endDebug_same) | (with_reducible apply coreCtrl_same) | (with_reducible apply engineHalts_same)
    | (with_reducible apply hoRequest_same) | (with_reducible apply fwSignal_same) | (with_reducible apply bootGo_same)
    | (with_reducible apply same_ite) | (simp only [same_mk_iff]) | split

theorem regWrite_same {s : State} (x1 : Master) (tag : Nat) (id : RegId) (ix : List Nat) (v : Nat)
    (hp : Sub (allowAny [.clk, .freeCtr, .regsStaged, .objs, .stats, .fresh, .ctl, .evt, .out, .tl, .adm, .diong, .sec, .lo, .fe, .cvt,
        .rx, .bm, .dpds, .disp, .ge, .lnk, .mem, .pwr, .hk, .svc, .boot, .nv, .marks, .air]) m) (h : Same m s0 s) :
    Same m s0 (regWrite s x1 tag id ix v) := by
  unfold regWrite
  repeat' first
    | (with_reducible assumption) | (with_reducible refine Sub.trans ?_ hp; decide) | (with_reducible apply fwSignal_same)
    | (with_reducible apply regAction_same) | (with_reducible apply dbgRefuse_same) | (with_reducible apply firewall_same)
    | (with_reducible apply afterWrite_same) | (with_reducible apply writeFields_same) | (with_reducible apply same_ite) | split

theorem writeOne_same (x0 : Master) (tag : Nat) (a : Nat) (l : List Byte) {s : State}
    (hp : Sub (allowAny [.clk, .freeCtr, .regsStaged, .objs, .stats, .fresh, .ctl, .evt, .out, .tl, .adm, .diong, .sec, .lo, .fe, .cvt,
        .rx, .bm, .dpds, .disp, .ge, .lnk, .mem, .pwr, .hk, .svc, .boot, .nv, .marks, .air]) m) (h : Same m s0 s) :
    Same m s0 (writeOne x0 tag a l s).2 := by
  unfold writeOne
  repeat' first
    | (with_reducible assumption) | (with_reducible refine Sub.trans ?_ hp; decide) | (with_reducible apply regWrite_same)
    | (with_reducible apply State_setEng_same) | (with_reducible apply firewall_same) | (with_reducible apply bankWrite_same)
    | (with_reducible apply same_ite) | (with_reducible apply same_ite_snd) | (simp only [same_mk_iff]) | split

theorem writeBytes_same (x : Master) (tag k b : Nat) (l : List Byte) {s : State} (hp : Sub (allowAny [.clk, .freeCtr, .regsStaged, .objs,
        .stats, .fresh, .ctl, .evt, .out, .tl, .adm, .diong, .sec, .lo, .fe, .cvt, .rx, .bm, .dpds, .disp, .ge, .lnk, .mem, .pwr, .hk,
        .svc, .boot, .nv, .marks, .air]) m) (h : Same m s0 s) :
    Same m s0 (writeBytes x tag k b l s) := by
  induction k generalizing b l s with
  | zero => exact h
  | succ k ih =>
    unfold writeBytes
    split
    · exact h
    · exact ih _ _ (writeOne_same _ _ _ _ (Sub.trans (by decide) hp) h)

theorem fabWrite_same {s : State} (x1 : Master) (tag : Nat) (a : Nat) (b : List Byte) (ring : optParam (Option Nat) none)
    (hp : Sub (allowAny [.clk, .freeCtr, .regsStaged, .objs, .stats, .fresh, .addrFaultRec, .ctl, .evt, .out, .tl, .adm, .diong, .sec, .lo,
        .fe, .cvt, .rx, .bm, .dpds, .disp, .ge, .lnk, .mem, .pwr, .hk, .svc, .boot, .nv, .marks, .air]) m) (h : Same m s0 s) :
    Same m s0 (fabWrite s x1 tag a b ring).2 := by
  unfold fabWrite
  repeat' first
    | (with_reducible assumption) | (with_reducible refine Sub.trans ?_ hp; decide) | (with_reducible apply gate_same)
    | (with_reducible apply sramWriteBy_same) | (with_reducible apply nvCount_same) | (with_reducible apply writeBytes_same)
    | (with_reducible refine same_foldl ?_ ?_; intro _ _ _) | (simp only [same_mk_iff])
    | (with_reducible refine same_eq_snd (by assumption) ?_) | split

theorem regWriteBy_same {s : State} (x1 : Master) (tag : Nat) (a : Nat) (value : Nat)
    (hp : Sub (allowAny [.clk, .freeCtr, .regsStaged, .objs, .stats, .fresh, .addrFaultRec, .ctl, .evt, .out, .tl, .adm, .diong, .sec, .lo,
        .fe, .cvt, .rx, .bm, .dpds, .disp, .ge, .lnk, .mem, .pwr, .hk, .svc, .boot, .nv, .marks, .air]) m) (h : Same m s0 s) :
    Same m s0 (regWriteBy s x1 tag a value) := by
  unfold regWriteBy
  repeat' first
    | (with_reducible assumption) | (with_reducible refine Sub.trans ?_ hp; decide) | (with_reducible apply gate_same)
    | (with_reducible apply emit_same) | (with_reducible apply regWrite_same) | (with_reducible apply writeBytes_same)
    | (with_reducible refine same_eq_snd (by assumption) ?_) | split

/-! ## DmaOps -/

theorem advanceHead_same {s : State} (r : Nat)
    (hp : Sub (allow [] [.dmaRingStat]) m) (h : Same m s0 s) :
    Same m s0 (advanceHead s r) := by
  unfold advanceHead
  repeat' first | (with_reducible assumption) | (with_reducible refine Sub.bit hp ?_; decide) | (with_reducible apply wf_same)

theorem chainRing_same {s : State} (r : Nat) (d : Desc)
    (hp : Sub (allow [.fresh, .evt, .mem] [.dmaRingStat, .dmaTrigDrop, .evtRpt]) m) (h : Same m s0 s) :
    Same m s0 (chainRing s r d) := by
  unfold chainRing
  repeat' first
    | (with_reducible assumption) | (with_reducible refine Sub.trans ?_ hp; decide) | (with_reducible apply firewall_same)
    | (with_reducible apply trigRing_same) | (with_reducible apply same_ite) | split

theorem fetchDesc_same {s : State} (r : Nat)
    (hp : Sub (allow [.freeCtr, .addrFaultRec, .evt, .sec, .ge] [.dbgChalId, .evtRpt, .memFault, .monData, .tlNowHi]) m) (h : Same m s0 s) :
    Same m s0 (fetchDesc s r).2.2.2 := by
  unfold fetchDesc
  repeat' first | (with_reducible assumption) | (with_reducible apply fabRead_same)

theorem readSource_same {s : State} (r : Nat) (tag : Nat) (d : Desc)
    (hp : Sub (allow [.freeCtr, .addrFaultRec, .evt, .sec, .ge] [.dbgChalId, .evtRpt, .memFault, .monData, .tlNowHi]) m) (h : Same m s0 s) :
    Same m s0 (readSource s r tag d).2.2 := by
  unfold readSource
  repeat' first
    | (with_reducible assumption) | (with_reducible apply fabRead_same) | (with_reducible apply same_ite_trd)
    | (with_reducible refine same_foldl_trd ?_ ?_; intro _ _ _)

theorem writePieces_same {s : State} (r : Nat) (tag : Nat) (d : Desc) (data : List Byte) (p : List (Nat × Nat × Nat))
    (hp : Sub (allowAny [.clk, .freeCtr, .regsStaged, .objs, .stats, .fresh, .addrFaultRec, .ctl, .evt, .out, .tl, .adm, .diong, .sec, .lo,
        .fe, .cvt, .rx, .bm, .dpds, .disp, .ge, .lnk, .mem, .pwr, .hk, .svc, .boot, .nv, .marks, .air]) m) (h : Same m s0 s) :
    Same m s0 (writePieces s r tag d data p).2 := by
  unfold writePieces
  repeat' first
    | (with_reducible assumption) | (with_reducible apply fabWrite_same) | (with_reducible apply same_ite_snd)
    | (with_reducible refine same_foldl_snd ?_ ?_; intro _ _ _)

theorem descHalf_same {s : State} (r : Nat)
    (hp : Sub (allowAny [.clk, .freeCtr, .regsStaged, .objs, .stats, .fresh, .addrFaultRec, .ctl, .evt, .out, .tl, .adm, .diong, .sec, .lo,
        .fe, .cvt, .rx, .bm, .dpds, .disp, .ge, .lnk, .mem, .pwr, .hk, .svc, .boot, .nv, .marks, .air]) m) (h : Same m s0 s) :
    Same m s0 (descHalf s r) := by
  unfold descHalf
  repeat' first
    | (with_reducible assumption) | (with_reducible exact Free.rfl) | (with_reducible refine Free.bit hp ?_; decide)
    | (with_reducible refine Sub.trans ?_ hp; decide) | (with_reducible apply fetchDesc_same) | (with_reducible apply readSource_same)
    | (with_reducible apply writePieces_same) | (with_reducible apply ringCompletion_same) | (with_reducible apply same_ite)
    | (with_reducible apply same_parts)
    | (simp only [same_mk_iff])

theorem dropBatch_same {s : State} (r : Nat)
    (hp : Sub (allow [.mem] []) m) (h : Same m s0 s) :
    Same m s0 (dropBatch s r) := by
  unfold dropBatch
  repeat' first
    | (with_reducible assumption) | (with_reducible exact Free.rfl) | (with_reducible refine Free.bit hp ?_; decide)
    | (with_reducible apply same_parts)
    | (simp only [same_mk_iff])

theorem haltRing_same {s : State} (r : Nat) (code : Nat)
    (hp : Sub (allow [.evt, .mem] [.dmaRingStat, .evtRpt]) m) (h : Same m s0 s) :
    Same m s0 (haltRing s r code) := by
  unfold haltRing
  repeat' first
    | (with_reducible assumption) | (with_reducible refine Sub.bit hp ?_; decide) | (with_reducible refine Sub.trans ?_ hp; decide)
    | (with_reducible apply wf_same) | (with_reducible apply raise_same) | (with_reducible apply dropBatch_same)

theorem endBatch_same {s : State} (r : Nat)
    (hp : Sub (allow [.mem] [.dmaRingStat]) m) (h : Same m s0 s) :
    Same m s0 (endBatch s r) := by
  unfold endBatch
  repeat' first
    | (with_reducible assumption) | (with_reducible refine Sub.bit hp ?_; decide) | (with_reducible refine Sub.trans ?_ hp; decide)
    | (with_reducible apply openBatch_same) | (with_reducible apply wf_same) | (with_reducible apply dropBatch_same)
    | (with_reducible apply same_ite)

theorem writeBack_same {s : State} (r : Nat) (tag : Nat) (a : Nat) (code : Nat)
    (hp : Sub (allowAny [.clk, .freeCtr, .regsStaged, .objs, .stats, .fresh, .addrFaultRec, .ctl, .evt, .out, .tl, .adm, .diong, .sec, .lo,
        .fe, .cvt, .rx, .bm, .dpds, .disp, .ge, .lnk, .mem, .pwr, .hk, .svc, .boot, .nv, .marks, .air]) m) (h : Same m s0 s) :
    Same m s0 (writeBack s r tag a code) := by
  unfold writeBack
  repeat' first
    | (with_reducible assumption) | (with_reducible refine Sub.trans ?_ hp; decide) | (with_reducible apply fabRead_same)
    | (with_reducible apply fabWrite_same) | (with_reducible apply same_ite)

theorem descPerform_same {s : State} (r : Nat)
    (hp : Sub (allowAny [.clk, .freeCtr, .regsStaged, .objs, .stats, .fresh, .addrFaultRec, .ctl, .evt, .out, .tl, .adm, .diong, .sec, .lo,
        .fe, .cvt, .rx, .bm, .dpds, .disp, .ge, .lnk, .mem, .pwr, .hk, .svc, .boot, .nv, .marks, .air]) m) (h : Same m s0 s) :
    Same m s0 (descPerform s r) := by
  unfold descPerform
  repeat' first
    | (with_reducible assumption) | (with_reducible exact Free.rfl) | (with_reducible refine Free.bit hp ?_; decide)
    | (with_reducible refine Sub.trans ?_ hp; decide) | (with_reducible apply fetchDesc_same) | (with_reducible apply haltRing_same)
    | (with_reducible apply endBatch_same) | (with_reducible apply raise_same) | (with_reducible apply writeBack_same)
    | (with_reducible apply readSource_same) | (with_reducible apply writePieces_same) | (with_reducible apply ringCompletion_same)
    | (with_reducible apply advanceHead_same) | (with_reducible apply chainRing_same) | (with_reducible apply same_ite)
    | (with_reducible apply same_parts)
    | (simp only [same_mk_iff])

theorem nextRing_same {x0 : State} {s1 : State} (r : Nat)
    (hp : Sub (allow [.fresh, .evt, .mem] [.dmaRingStat, .evtRpt]) m) (h : Same m s0 s1) :
    Same m s0 (nextRing x0 s1 r) := by
  unfold nextRing
  repeat' first
    | (with_reducible assumption) | (with_reducible refine Sub.trans ?_ hp; decide) | (with_reducible apply switchMover_same)
    | (with_reducible apply passTurn_same) | (with_reducible apply same_ite)

theorem descRun_same {s : State} (r : Nat)
    (hp : Sub (allowAny [.clk, .freeCtr, .regsStaged, .objs, .stats, .fresh, .addrFaultRec, .ctl, .evt, .out, .tl, .adm, .diong, .sec, .lo,
        .fe, .cvt, .rx, .bm, .dpds, .disp, .ge, .lnk, .mem, .pwr, .hk, .svc, .boot, .nv, .marks, .air]) m) (h : Same m s0 s) :
    Same m s0 (descRun s r) := by
  unfold descRun
  repeat' first
    | (with_reducible assumption) | (with_reducible refine Sub.trans ?_ hp; decide) | (with_reducible apply nextRing_same)
    | (with_reducible apply descPerform_same) | (with_reducible apply same_ite)

theorem holdRing_same {s : State} (q : Nat)
    (hp : Sub (allowAny [.clk, .freeCtr, .regsStaged, .objs, .stats, .fresh, .addrFaultRec, .ctl, .evt, .out, .tl, .adm, .diong, .sec, .lo,
        .fe, .cvt, .rx, .bm, .dpds, .disp, .ge, .lnk, .mem, .pwr, .hk, .svc, .boot, .nv, .marks, .air]) m) (h : Same m s0 s) :
    Same m s0 (holdRing s q) := by
  unfold holdRing
  repeat' first
    | (with_reducible assumption) | (with_reducible refine Sub.trans ?_ hp; decide) | (with_reducible apply fetchDesc_same)
    | (with_reducible apply haltRing_same) | (with_reducible apply writeBack_same) | (with_reducible apply same_ite)
    | (simp only [same_mk_iff]) | split

theorem ringEnable_same {s : State} (r : Nat) (en : Bool)
    (hp : Sub (allow [.fresh, .evt, .mem] [.dmaRingStat, .evtRpt]) m) (h : Same m s0 s) :
    Same m s0 (ringEnable s r en) := by
  unfold ringEnable
  repeat' first
    | (with_reducible assumption) | (with_reducible refine Sub.bit hp ?_; decide) | (with_reducible refine Sub.trans ?_ hp; decide)
    | (with_reducible apply wf_same) | (with_reducible apply settleRing_same) | (with_reducible apply nextRing_same)
    | (with_reducible apply dropBatch_same) | (with_reducible apply same_ite)

/-! ## AdmOps -/

theorem abortStaged_same {s : State} (role : Role)
    (hp : Sub (allow [.regsStaged, .objsStaged] []) m) (h : Same m s0 s) :
    Same m s0 (abortStaged s role) := by
  unfold abortStaged
  repeat' first
    | (with_reducible assumption) | (with_reducible exact Free.rfl) | (with_reducible refine Free.bit hp ?_; decide)
    | (with_reducible apply same_parts)
    | (simp only [same_mk_iff])

theorem commitReg_same {s : State} (a : Nat) (x : Nat)
    (hp : Sub (allowAny []) m) (h : Same m s0 s) :
    Same m s0 (commitReg s a x) := by
  unfold commitReg
  repeat' first
    | (with_reducible assumption) | (with_reducible refine any_bit _ hp ?_; decide) | (with_reducible apply wr_same)
    | (simp only [same_mk_iff]) | split

theorem derivePps_same {v : State}
    (hp : Sub (allow [] [.lnkPps]) m) (h : Same m s0 v) :
    Same m s0 (derivePps v) := by
  unfold derivePps
  repeat' first | (with_reducible assumption) | (with_reducible refine Sub.bit hp ?_; decide) | (with_reducible apply wr_same)

theorem deriveEvents_same {v : State}
    (hp : Sub (allow [] [.tlEvt]) m) (h : Same m s0 v) :
    Same m s0 (deriveEvents v) := by
  unfold deriveEvents
  repeat' first
    | (with_reducible assumption) | (with_reducible refine Sub.bit hp ?_; decide) | (with_reducible apply wr_same)
    | (with_reducible refine same_foldl ?_ ?_; intro _ _ _)

theorem derivePattern_same {v : State}
    (hp : Sub (allow [] [.tlPat, .tlPatternCfg]) m) (h : Same m s0 v) :
    Same m s0 (derivePattern v) := by
  unfold derivePattern
  repeat' first
    | (with_reducible assumption) | (with_reducible refine Sub.bit hp ?_; decide) | (with_reducible apply wr_same)
    | (with_reducible refine same_foldl ?_ ?_; intro _ _ _)

theorem deriveBuffer_same {v : State} (b : Nat)
    (hp : Sub (allow [] [.capDesc]) m) (h : Same m s0 v) :
    Same m s0 (deriveBuffer v b) := by
  unfold deriveBuffer
  repeat' first
    | (with_reducible assumption) | (with_reducible refine Sub.bit hp ?_; decide) | (with_reducible apply wr_same)
    | (with_reducible refine same_foldl ?_ ?_; intro _ _ _)

theorem derivePresets_same {v : State} (n : Nat)
    (hp : Sub (allow [] [.loSynPre]) m) (h : Same m s0 v) :
    Same m s0 (derivePresets v n) := by
  unfold derivePresets
  repeat' first
    | (with_reducible assumption) | (with_reducible refine Sub.bit hp ?_; decide) | (with_reducible apply wr_same)
    | (with_reducible refine same_foldl ?_ ?_; intro _ _ _)

theorem deriveChannel_same {v : State} (n : Nat)
    (hp : Sub (allowAny []) m) (h : Same m s0 v) :
    Same m s0 (deriveChannel v n) := by
  unfold deriveChannel
  repeat' first
    | (with_reducible assumption) | (with_reducible refine Sub.bit hp ?_; decide) | (with_reducible apply wr_same)
    | (with_reducible apply wrFields_same) | (with_reducible refine same_foldl ?_ ?_; intro _ _ _)

theorem derivePrachBeams_same {v : State} (j : Nat)
    (hp : Sub (allow [] [.bfPrb]) m) (h : Same m s0 v) :
    Same m s0 (derivePrachBeams v j) := by
  unfold derivePrachBeams
  repeat' first
    | (with_reducible assumption) | (with_reducible refine Sub.bit hp ?_; decide) | (with_reducible apply wr_same)
    | (with_reducible refine same_foldl ?_ ?_; intro _ _ _)

theorem derivePrach_same {v : State} (j : Nat)
    (hp : Sub (allowAny []) m) (h : Same m s0 v) :
    Same m s0 (derivePrach v j) := by
  unfold derivePrach
  repeat' first
    | (with_reducible assumption) | (with_reducible refine Sub.bit hp ?_; decide) | (with_reducible apply wrFields_same)
    | (with_reducible apply wr_same) | (with_reducible refine same_foldl ?_ ?_; intro _ _ _)

theorem deriveGain_same {v : State} (p : Nat)
    (hp : Sub (allowAny []) m) (h : Same m s0 v) :
    Same m s0 (deriveGain v p) := by
  unfold deriveGain
  repeat' first | (with_reducible assumption) | (with_reducible apply wrFields_same)

theorem deriveCfr_same {v : State}
    (hp : Sub (allowAny []) m) (h : Same m s0 v) :
    Same m s0 (deriveCfr v) := by
  unfold deriveCfr
  repeat' first | (with_reducible assumption) | (with_reducible apply wrFields_same) | (with_reducible refine same_foldl ?_ ?_; intro _ _ _)

theorem deriveUlDefaults_same {v : State} (n : Nat)
    (hp : Sub (allow [] [.bfCcUldef]) m) (h : Same m s0 v) :
    Same m s0 (deriveUlDefaults v n) := by
  unfold deriveUlDefaults
  repeat' first
    | (with_reducible assumption) | (with_reducible refine Sub.bit hp ?_; decide) | (with_reducible apply wr_same)
    | (with_reducible refine same_foldl ?_ ?_; intro _ _ _)

theorem deriveTree_same {v : State}
    (hp : Sub (allow [] [.loTree]) m) (h : Same m s0 v) :
    Same m s0 (deriveTree v) := by
  unfold deriveTree
  repeat' first | (with_reducible assumption) | (with_reducible refine Sub.bit hp ?_; decide) | (with_reducible apply wr_same)

theorem derive_same {v : State} (staged : List Nat)
    (hp : Sub (allowAny []) m) (h : Same m s0 v) :
    Same m s0 (derive v staged) := by
  unfold derive
  repeat' first
    | (with_reducible assumption) | (with_reducible refine Sub.trans ?_ hp; decide) | (with_reducible apply derivePps_same)
    | (with_reducible apply deriveEvents_same) | (with_reducible apply derivePattern_same) | (with_reducible apply deriveBuffer_same)
    | (with_reducible apply derivePresets_same) | (with_reducible apply deriveChannel_same) | (with_reducible apply derivePrachBeams_same)
    | (with_reducible apply derivePrach_same) | (with_reducible apply deriveGain_same) | (with_reducible apply deriveCfr_same)
    | (with_reducible apply deriveUlDefaults_same) | (with_reducible apply deriveTree_same) | (with_reducible apply same_ite)
    | (with_reducible refine same_foldl ?_ ?_; intro _ _ _)

theorem overlay_same {s : State} (objs : Sparse ObjVal) (regs : Sparse RegVal)
    (hp : Sub (allowAny [.objs, .objGen]) m) (h : Same m s0 s) :
    Same m s0 (overlay s objs regs) := by
  unfold overlay
  repeat' first
    | (with_reducible assumption) | (with_reducible refine Sub.trans ?_ hp; decide) | (with_reducible apply commitReg_same)
    | (with_reducible apply derive_same) | (with_reducible apply State_setObj_same)
    | (with_reducible refine same_foldl ?_ ?_; intro _ _ _)

theorem fillPulses_same {v : State} {s : State}
    (hp : Sub (allow [.tx] []) m) (h : Same m s0 s) :
    Same m s0 (fillPulses v s) := by
  unfold fillPulses
  repeat' first
    | (with_reducible assumption) | (with_reducible exact Free.rfl) | (with_reducible refine Free.bit hp ?_; decide)
    | (with_reducible apply same_parts)
    | (simp only [same_mk_iff])

theorem shadowPulses_same {s : State} {v : State} (b : Nat)
    (hp : Sub (allow [.tx] []) m) (h : Same m s0 s) :
    Same m s0 (shadowPulses s v b) := by
  unfold shadowPulses
  repeat' first
    | (with_reducible assumption) | (with_reducible exact Free.rfl) | (with_reducible refine Free.bit hp ?_; decide)
    | (with_reducible apply fillPulses_same) | (with_reducible apply same_ite)
    | (with_reducible apply same_parts)
    | (simp only [same_mk_iff])

theorem reserveTrunks_same {s : State} {v : State}
    (hp : Sub (allow [.stats, .evt, .lo, .fe, .marks] [.evtRpt]) m) (h : Same m s0 s) :
    Same m s0 (reserveTrunks s v) := by
  unfold reserveTrunks
  repeat' first
    | (with_reducible assumption) | (with_reducible exact Free.rfl) | (with_reducible refine Free.bit hp ?_; decide)
    | (with_reducible apply commitTune_same) | (with_reducible apply same_ite)
    | (with_reducible apply same_parts)
    | (simp only [same_mk_iff])

theorem acceptCommit_same {s : State} (j : CommitJob) (b : Nat)
    (hp : Sub (allowAny [.regsStaged, .objs, .objsStaged, .objGen, .stats, .evt, .tl, .adm, .lo, .fe, .rx, .tx, .ge, .marks]) m) (h : Same
        m s0 s) :
    Same m s0 (acceptCommit s j b) := by
  unfold acceptCommit
  repeat' first
    | (with_reducible assumption) | (with_reducible exact Free.rfl) | (with_reducible refine Free.bit hp ?_; decide)
    | (with_reducible refine Sub.trans ?_ hp; decide) | (with_reducible apply shadowPulses_same)
    | (with_reducible apply reserveTrunks_same) | (with_reducible apply startRoll_same) | (with_reducible apply armStep_same)
    | (with_reducible apply same_ite)
    | (with_reducible apply same_parts)
    | (simp only [same_mk_iff]) | split

theorem recordResult_same {s : State} (role : Role) (r : AdmResult)
    (hp : Sub (allow [.adm] []) m) (h : Same m s0 s) :
    Same m s0 (recordResult s role r) := by
  unfold recordResult
  repeat' first
    | (with_reducible assumption) | (with_reducible exact Free.rfl) | (with_reducible refine Free.bit hp ?_; decide)
    | (with_reducible apply same_parts)
    | (simp only [same_mk_iff]) | split

theorem refuseCommit_same {s : State} (role : Role) (r : AdmResult)
    (hp : Sub (allow [.evt, .adm] [.evtRpt]) m) (h : Same m s0 s) :
    Same m s0 (refuseCommit s role r) := by
  unfold refuseCommit
  repeat' first
    | (with_reducible assumption) | (with_reducible refine Sub.trans ?_ hp; decide) | (with_reducible apply raise_same)
    | (with_reducible apply recordResult_same)

theorem admissionEnd_same {s : State} (j : CommitJob)
    (hp : Sub (allowAny [.regsStaged, .objs, .objsStaged, .objGen, .stats, .evt, .tl, .adm, .lo, .fe, .rx, .tx, .ge, .marks]) m) (h : Same
        m s0 s) :
    Same m s0 (admissionEnd s j).2.2 := by
  unfold admissionEnd
  repeat' first
    | (with_reducible assumption) | (with_reducible exact Free.rfl) | (with_reducible refine Free.bit hp ?_; decide)
    | (with_reducible refine Sub.trans ?_ hp; decide) | (with_reducible apply raise_same) | (with_reducible apply refuseCommit_same)
    | (with_reducible apply acceptCommit_same) | (with_reducible apply recordResult_same) | (with_reducible apply same_ite_trd)
    | (with_reducible refine same_foldl ?_ ?_; intro _ _ _)
    | (with_reducible apply same_parts)
    | (simp only [same_mk_iff])

theorem biasBoundary_same {s : State} {v : State} {t : State} (c : Nat)
    (hp : Sub (allow [.hk] [.bdacChCode]) m) (h : Same m s0 t) :
    Same m s0 (biasBoundary s v t c) := by
  unfold biasBoundary
  repeat' first
    | (with_reducible assumption) | (with_reducible refine Sub.trans ?_ hp; decide) | (with_reducible apply State_setBias_same)
    | (with_reducible apply safeCode_same) | (with_reducible apply same_ite)

theorem grantMasks_same {v : State}
    (hp : Sub (allow [] [.dmaRingGrant]) m) (h : Same m s0 v) :
    Same m s0 (grantMasks v) := by
  unfold grantMasks
  repeat' first
    | (with_reducible assumption) | (with_reducible refine Sub.bit hp ?_; decide) | (with_reducible apply wr_same)
    | (with_reducible refine same_foldl ?_ ?_; intro _ _ _)

theorem gainBoundary_same {s : State} {v : State} {t : State} (p : Nat)
    (hp : Sub (allow [.cvt, .rx] []) m) (h : Same m s0 t) :
    Same m s0 (gainBoundary s v t p) := by
  unfold gainBoundary
  repeat' first | (with_reducible assumption) | (with_reducible apply setAtt_same) | (with_reducible apply same_ite)

theorem dpdBoundary_same {s : State} {v : State} {t : State} (p : Nat)
    (hp : Sub (allow [.evt, .dpds, .disp, .marks] [.evtRpt]) m) (h : Same m s0 t) :
    Same m s0 (dpdBoundary s v t p) := by
  unfold dpdBoundary
  repeat' first
    | (with_reducible assumption) | (with_reducible refine Sub.trans ?_ hp; decide) | (with_reducible apply staleAndPending_same)
    | (with_reducible apply State_setDpd_same) | (with_reducible apply same_ite)

theorem serveFromBoundary_same {s : State}
    (hp : Sub (allow [.stats, .evt, .lo, .fe, .marks] [.evtRpt]) m) (h : Same m s0 s) :
    Same m s0 (serveFromBoundary s) := by
  unfold serveFromBoundary
  repeat' first
    | (with_reducible assumption) | (with_reducible exact Free.rfl) | (with_reducible refine Free.bit hp ?_; decide)
    | (with_reducible refine Sub.trans ?_ hp; decide) | (with_reducible apply raise_same) | (with_reducible apply markOff_same)
    | (with_reducible apply rxDrop_same) | (with_reducible apply txDrop_same) | (with_reducible apply same_ite)
    | (with_reducible refine same_foldl ?_ ?_; intro _ _ _)
    | (with_reducible apply same_parts)
    | (simp only [same_mk_iff]) | split

theorem ringBoundary_same {s : State} {v : State} (staged : List (Nat × Nat)) {t : State} (r : Nat)
    (hp : Sub (allow [.fresh, .evt, .mem] [.dmaRingCfg, .dmaRingStat, .evtRpt]) m) (h : Same m s0 t) :
    Same m s0 (ringBoundary s v staged t r) := by
  unfold ringBoundary
  repeat' first
    | (with_reducible assumption) | (with_reducible refine Sub.bit hp ?_; decide) | (with_reducible refine Sub.trans ?_ hp; decide)
    | (with_reducible apply wf_same) | (with_reducible apply ringEnable_same) | (with_reducible apply sramPoke_same)
    | (with_reducible apply same_ite)

theorem portBoundary_same {s : State} {v : State} {t : State} (n : Nat)
    (hp : Sub (allow [.evt, .lnk] [.evtRpt, .lnkPortStat]) m) (h : Same m s0 t) :
    Same m s0 (portBoundary s v t n) := by
  unfold portBoundary
  repeat' first | (with_reducible assumption) | (with_reducible apply portState_same) | (with_reducible apply same_ite)

theorem synceBoundary_same {s : State} {v : State} {t : State}
    (hp : Sub (allow [.lnk] [.lnkSynceStat]) m) (h : Same m s0 t) :
    Same m s0 (synceBoundary s v t) := by
  unfold synceBoundary
  repeat' first
    | (with_reducible assumption) | (with_reducible exact Free.rfl) | (with_reducible refine Free.bit hp ?_; decide)
    | (with_reducible refine Sub.bit hp ?_; decide) | (with_reducible apply wf_same) | (with_reducible apply same_ite)
    | (with_reducible apply same_parts)
    | (simp only [same_mk_iff])

theorem swapPulses_same {s : State} {v : State} {t : State}
    (hp : Sub (allow [.tx] []) m) (h : Same m s0 t) :
    Same m s0 (swapPulses s v t) := by
  unfold swapPulses
  repeat' first
    | (with_reducible assumption) | (with_reducible exact Free.rfl) | (with_reducible refine Free.bit hp ?_; decide)
    | (with_reducible apply fillPulses_same) | (with_reducible apply same_ite)
    | (with_reducible apply same_parts)
    | (simp only [same_mk_iff])

theorem placeReleases_same {t : State}
    (hp : Sub (allow [.ge] []) m) (h : Same m s0 t) :
    Same m s0 (placeReleases t) := by
  unfold placeReleases
  repeat' first
    | (with_reducible assumption) | (with_reducible apply State_setEng_same) | (with_reducible apply same_ite)
    | (with_reducible refine same_foldl ?_ ?_; intro _ _ _)

theorem raiseKernelMins_same {s : State} {v : State} {t : State}
    (hp : Sub (allow [.ge] []) m) (h : Same m s0 t) :
    Same m s0 (raiseKernelMins s v t) := by
  unfold raiseKernelMins
  repeat' first
    | (with_reducible assumption) | (with_reducible exact Free.rfl) | (with_reducible refine Free.bit hp ?_; decide)
    | (with_reducible apply same_ite) | (with_reducible refine same_foldl ?_ ?_; intro _ _ _)
    | (with_reducible apply same_parts)
    | (simp only [same_mk_iff])

theorem takeEffect_same {s : State} {v : State} (staged : List (Nat × Nat))
    (hp : Sub (allow [.freeCtr, .stats, .subs, .fresh, .evt, .tl, .diong, .lo, .fe, .cvt, .rx, .tx, .bm, .dpds, .disp, .ge, .lnk, .mem,
        .hk, .marks] [.bdacChCode, .capStat, .dmaRingCfg, .dmaRingStat, .evtRpt, .lnkLaneStat, .lnkPortStat, .lnkSynceStat]) m) (h : Same m
        s0 v) :
    Same m s0 (takeEffect s v staged) := by
  unfold takeEffect
  repeat' first
    | (with_reducible assumption) | (with_reducible exact Free.rfl) | (with_reducible refine Free.bit hp ?_; decide)
    | (with_reducible refine Sub.trans ?_ hp; decide) | (with_reducible apply gainBoundary_same) | (with_reducible apply dpdBoundary_same)
    | (with_reducible apply serveFromBoundary_same) | (with_reducible apply ringBoundary_same) | (with_reducible apply biasBoundary_same)
    | (with_reducible apply refreshLanes_same) | (with_reducible apply portBoundary_same) | (with_reducible apply synceBoundary_same)
    | (with_reducible apply restartWarm_same) | (with_reducible apply State_setLanes_same) | (with_reducible apply swapPulses_same)
    | (with_reducible apply State_setWset_same) | (with_reducible apply placeReleases_same) | (with_reducible apply raiseKernelMins_same)
    | (with_reducible apply requestSync_same) | (with_reducible apply abortVisit_same) | (with_reducible apply State_setOrx_same)
    | (with_reducible apply recomputeDigests_same) | (with_reducible apply clockAll_same) | (with_reducible apply enterPathState_same)
    | (with_reducible apply same_ite) | (with_reducible refine same_foldl ?_ ?_; intro _ _ _)
    | (with_reducible apply same_parts)
    | (simp only [same_mk_iff])

theorem commitBoundary_same {s : State} (j : CommitJob)
    (hp : Sub (allowAny [.clk, .freeCtr, .objs, .objGen, .stats, .subs, .fresh, .evt, .tl, .adm, .diong, .lo, .fe, .cvt, .rx, .tx, .bm,
        .dpds, .disp, .ge, .lnk, .mem, .hk, .marks, .air]) m) (h : Same m s0 s) :
    Same m s0 (commitBoundary s j) := by
  unfold commitBoundary
  repeat' first
    | (with_reducible assumption) | (with_reducible exact Free.rfl) | (with_reducible refine Free.bit hp ?_; decide)
    | (with_reducible refine Sub.trans ?_ hp; decide) | (with_reducible apply reachCount_same) | (with_reducible apply grantMasks_same)
    | (with_reducible apply overlay_same) | (with_reducible apply takeEffect_same) | (with_reducible apply raise_same)
    | (with_reducible apply same_parts)
    | (simp only [same_mk_iff])

theorem commitStart_same {s : State} (j : CommitJob)
    (hp : Sub (allowAny [.objs, .objGen, .evt, .adm]) m) (h : Same m s0 s) :
    Same m s0 (commitStart s j).2 := by
  unfold commitStart
  repeat' first
    | (with_reducible assumption) | (with_reducible exact Free.rfl) | (with_reducible refine Free.bit hp ?_; decide)
    | (with_reducible refine Sub.trans ?_ hp; decide) | (with_reducible apply refuseCommit_same)
    | (with_reducible apply recordResult_same) | (with_reducible apply same_ite_snd)
    | (with_reducible apply same_parts)
    | (simp only [same_mk_iff]) | split

theorem disableCarrier_same {s : State} (c : Nat)
    (hp : Sub (allowAny [.objs, .objGen]) m) (h : Same m s0 s) :
    Same m s0 (disableCarrier s c) := by
  unfold disableCarrier
  repeat' first
    | (with_reducible assumption) | (with_reducible refine Sub.trans ?_ hp; decide) | (with_reducible apply deriveChannel_same)
    | (with_reducible apply State_setObj_same)

theorem dropCarriers_same (k : Nat) {s : State} (hp : Sub (allowAny [.objs, .objGen]) m) (h : Same m s0 s) : Same m s0 (dropCarriers k s)
        := by
  induction k generalizing s with
  | zero => exact h
  | succ k ih =>
    unfold dropCarriers
    split
    · exact h
    · split
      · exact ih (disableCarrier_same _ (Sub.trans (by decide) hp) h)
      · exact h

theorem removalDone_same {s : State} {v : State}
    (hp : Sub (allow [.freeCtr, .stats, .subs, .fresh, .evt, .tl, .adm, .diong, .lo, .fe, .cvt, .rx, .tx, .bm, .dpds, .disp, .ge, .lnk,
        .mem, .hk, .marks] [.bdacChCode, .capStat, .dmaRingCfg, .dmaRingStat, .evtRpt, .lnkLaneStat, .lnkPortStat, .lnkSynceStat]) m) (h :
        Same m s0 v) :
    Same m s0 (removalDone s v) := by
  unfold removalDone
  repeat' first
    | (with_reducible assumption) | (with_reducible exact Free.rfl) | (with_reducible refine Free.bit hp ?_; decide)
    | (with_reducible refine Sub.trans ?_ hp; decide) | (with_reducible apply takeEffect_same)
    | (with_reducible apply same_parts)
    | (simp only [same_mk_iff])

theorem repeatAdmission_same {s : State}
    (hp : Sub (allow [.evt, .adm] [.evtRpt]) m) (h : Same m s0 s) :
    Same m s0 (repeatAdmission s) := by
  unfold repeatAdmission
  repeat' first
    | (with_reducible assumption) | (with_reducible exact Free.rfl) | (with_reducible refine Free.bit hp ?_; decide)
    | (with_reducible refine Sub.trans ?_ hp; decide) | (with_reducible apply raise_same) | (with_reducible apply same_ite)
    | (with_reducible apply same_parts)
    | (simp only [same_mk_iff])

/-! ## ObjWrite -/

theorem objApply_same {s : State} (index : Nat) (sub : Nat) (v : ObjVal)
    (hp : Sub (allowAny [.objs, .objGen, .hk]) m) (h : Same m s0 s) :
    Same m s0 (objApply s index sub v) := by
  unfold objApply
  repeat' first
    | (with_reducible assumption) | (with_reducible refine Sub.bit hp ?_; decide) | (with_reducible refine Sub.trans ?_ hp; decide)
    | (with_reducible apply State_setObj_same) | (with_reducible apply wf_same) | (with_reducible apply dutyWritten_same)
    | (with_reducible apply fanUpdate_same) | (with_reducible apply wbit_same) | (with_reducible apply wrxCheck_same)
    | (with_reducible apply same_ite) | split

theorem loadOne_same {s : State} (index : Nat) (sub : Nat) (v : ObjVal)
    (hp : Sub (allowAny [.objs, .objsStaged, .objGen, .adm, .hk]) m) (h : Same m s0 s) :
    Same m s0 (loadOne s index sub v) := by
  unfold loadOne
  repeat' first
    | (with_reducible assumption) | (with_reducible exact Free.rfl) | (with_reducible refine Free.bit hp ?_; decide)
    | (with_reducible refine Sub.trans ?_ hp; decide) | (with_reducible apply State_touch_same) | (with_reducible apply objApply_same)
    | (with_reducible apply same_ite)
    | (with_reducible apply same_parts)
    | (simp only [same_mk_iff]) | split

theorem loadConfig_same {s : State} (img : Sparse ObjVal)
    (hp : Sub (allowAny [.objs, .objsStaged, .objGen, .adm, .hk]) m) (h : Same m s0 s) :
    Same m s0 (loadConfig s img) := by
  unfold loadConfig
  repeat' first | (with_reducible assumption) | (with_reducible apply loadOne_same) | (with_reducible refine same_foldl ?_ ?_; intro _ _ _)

/-! ## BootOps -/

theorem bootCal_same {s : State} (x : BootIn)
    (hp : Sub (allowAny [.objs, .objGen, .evt, .fe, .bm, .cal]) m) (h : Same m s0 s) :
    Same m s0 (bootCal s x) := by
  unfold bootCal
  repeat' first
    | (with_reducible assumption) | (with_reducible refine Sub.trans ?_ hp; decide) | (with_reducible apply fgStatus_same)
    | (with_reducible apply fgApply_same) | (with_reducible apply failPath_same) | (with_reducible apply raise_same)
    | (with_reducible apply same_ite) | (with_reducible refine same_foldl ?_ ?_; intro _ _ _) | split

theorem bootCommit_same {s : State}
    (hp : Sub (allowAny [.clk, .freeCtr, .regsStaged, .objs, .objsStaged, .objGen, .stats, .subs, .fresh, .evt, .tl, .adm, .diong, .lo,
        .fe, .cvt, .rx, .tx, .bm, .dpds, .disp, .ge, .lnk, .mem, .hk, .marks, .air]) m) (h : Same m s0 s) :
    Same m s0 (bootCommit s).2 := by
  unfold bootCommit
  repeat' first
    | (with_reducible assumption) | (with_reducible refine Sub.trans ?_ hp; decide) | (with_reducible apply loadOne_same)
    | (with_reducible apply admissionEnd_same) | (with_reducible apply commitBoundary_same) | (with_reducible apply same_ite_snd)
    | (with_reducible refine same_foldl ?_ ?_; intro _ _ _) | split

theorem setPhase_same {s : State} (p : Nat)
    (hp : Sub (allow [] [.pwrBoot]) m) (h : Same m s0 s) :
    Same m s0 (setPhase s p) := by
  unfold setPhase
  repeat' first | (with_reducible assumption) | (with_reducible refine Sub.bit hp ?_; decide) | (with_reducible apply wf_same)

theorem leaveStep2_same {s : State}
    (hp : Sub (allow [.ctl, .boot] [.pwrBoot]) m) (h : Same m s0 s) :
    Same m s0 (leaveStep2 s) := by
  unfold leaveStep2
  repeat' first
    | (with_reducible assumption) | (with_reducible exact Free.rfl) | (with_reducible refine Free.bit hp ?_; decide)
    | (with_reducible refine Sub.trans ?_ hp; decide) | (with_reducible apply setPhase_same) | (with_reducible apply same_ite)
    | (with_reducible apply same_parts)
    | (simp only [same_mk_iff]) | split

theorem reloadSet_same {s : State} (p : Nat) (w : Sparse Nat)
    (hp : Sub (allow [.evt, .dpds, .marks] [.evtRpt]) m) (h : Same m s0 s) :
    Same m s0 (reloadSet s p w) := by
  unfold reloadSet
  repeat' first
    | (with_reducible assumption) | (with_reducible refine Sub.trans ?_ hp; decide) | (with_reducible apply setStale_same)
    | (with_reducible apply State_setDpd_same) | (with_reducible apply same_ite)

theorem reloadMaps_same {s : State}
    (hp : Sub (allowAny [.objs, .objGen, .subs, .evt, .fe, .cvt, .rx, .bm, .dpds, .cal, .hk, .marks]) m) (h : Same m s0 s) :
    Same m s0 (reloadMaps s) := by
  unfold reloadMaps
  repeat' first
    | (with_reducible assumption) | (with_reducible exact Free.rfl) | (with_reducible refine Free.bit hp ?_; decide)
    | (with_reducible refine Sub.bit hp ?_; decide) | (with_reducible refine Sub.trans ?_ hp; decide)
    | (with_reducible apply subDown_same) | (with_reducible apply State_setLanes_same) | (with_reducible apply wr_same)
    | (with_reducible apply setLaneState_same) | (with_reducible apply reloadSet_same) | (with_reducible apply State_setFe_same)
    | (with_reducible apply State_setObj_same) | (with_reducible apply safeCode_same) | (with_reducible apply same_ite)
    | (with_reducible refine same_foldl ?_ ?_; intro _ _ _)
    | (with_reducible apply same_parts)
    | (simp only [same_mk_iff])

theorem testEngine_same {s : State} (e : Nat)
    (hp : Sub (allow [.evt, .ge, .lnk, .svc, .nv] [.evtRpt]) m) (h : Same m s0 s) :
    Same m s0 (testEngine s e) := by
  unfold testEngine
  repeat' first
    | (with_reducible assumption) | (with_reducible exact Free.rfl) | (with_reducible refine Free.bit hp ?_; decide)
    | (with_reducible refine Sub.trans ?_ hp; decide) | (with_reducible apply spareUsed_same) | (with_reducible apply raise_same)
    | (with_reducible apply State_setEng_same) | (with_reducible apply same_ite)
    | (with_reducible apply same_parts)
    | (simp only [same_mk_iff])

theorem testTile_same {s : State} (t : Nat)
    (hp : Sub (allow [.subs, .evt, .adm, .tx, .bm, .lnk, .svc, .nv] [.evtRpt]) m) (h : Same m s0 s) :
    Same m s0 (testTile s t) := by
  unfold testTile
  repeat' first
    | (with_reducible assumption) | (with_reducible exact Free.rfl) | (with_reducible refine Free.bit hp ?_; decide)
    | (with_reducible apply tileFail_same) | (with_reducible apply same_ite)
    | (with_reducible apply same_parts)
    | (simp only [same_mk_iff])

theorem testLane_same {s : State} (x : Nat × Nat)
    (hp : Sub (allow [.subs, .evt, .fe, .rx, .bm, .lnk, .svc, .nv] [.evtRpt]) m) (h : Same m s0 s) :
    Same m s0 (testLane s x) := by
  unfold testLane
  repeat' first
    | (with_reducible assumption) | (with_reducible refine Sub.trans ?_ hp; decide) | (with_reducible apply retireLane_same)
    | (with_reducible apply State_setLanes_same) | (with_reducible apply failPath_same) | (with_reducible apply same_ite) | split

theorem testBank_same {s : State} (b : Nat)
    (hp : Sub (allow [.subs, .evt, .adm, .lnk, .mem, .svc, .nv] [.evtRpt, .memBankStat]) m) (h : Same m s0 s) :
    Same m s0 (testBank s b) := by
  unfold testBank
  repeat' first
    | (with_reducible assumption) | (with_reducible refine Sub.trans ?_ hp; decide) | (with_reducible apply saveBanks_same)
    | (with_reducible apply retireBank_same) | (with_reducible apply migrationEnd_same) | (with_reducible apply readmit_same)
    | (with_reducible apply raise_same) | (with_reducible apply same_ite) | split

theorem setCode_same {s : State} (c : Nat)
    (hp : Sub (allow [] [.pwrBoot]) m) (h : Same m s0 s) :
    Same m s0 (setCode s c) := by
  unfold setCode
  repeat' first | (with_reducible assumption) | (with_reducible refine Sub.bit hp ?_; decide) | (with_reducible apply wf_same)

theorem bootStep2_same {s : State} (x : BootIn)
    (hp : Sub (allowAny [.objs, .objGen, .subs, .ctl, .evt, .adm, .fe, .cvt, .rx, .tx, .bm, .dpds, .ge, .cal, .lnk, .mem, .hk, .svc, .boot,
        .nv, .marks]) m) (h : Same m s0 s) :
    Same m s0 (bootStep2 s x) := by
  unfold bootStep2
  repeat' first
    | (with_reducible assumption) | (with_reducible exact Free.rfl) | (with_reducible refine Free.bit hp ?_; decide)
    | (with_reducible refine Sub.bit hp ?_; decide) | (with_reducible refine Sub.trans ?_ hp; decide)
    | (with_reducible apply leaveStep2_same) | (with_reducible apply reloadMaps_same) | (with_reducible apply testEngine_same)
    | (with_reducible apply testTile_same) | (with_reducible apply testLane_same) | (with_reducible apply testBank_same)
    | (with_reducible apply wf_same) | (with_reducible apply setCode_same) | (with_reducible apply same_ite)
    | (with_reducible refine same_foldl ?_ ?_; intro _ _ _)
    | (with_reducible apply same_parts)
    | (simp only [same_mk_iff])

theorem rejectImages_same {s : State} (type : Nat) (l : List (List Byte))
    (hp : Sub (allow [.evt] [.evtRpt]) m) (h : Same m s0 s) :
    Same m s0 (rejectImages s type l) := by
  unfold rejectImages
  repeat' first
    | (with_reducible assumption) | (with_reducible apply raise_same) | (with_reducible apply same_ite)
    | (with_reducible refine same_foldl ?_ ?_; intro _ _ _)

theorem bootStep3_same {s : State}
    (hp : Sub (allow [.evt, .sec, .boot] [.evtRpt, .pwrBoot]) m) (h : Same m s0 s) :
    Same m s0 (bootStep3 s) := by
  unfold bootStep3
  repeat' first
    | (with_reducible assumption) | (with_reducible exact Free.rfl) | (with_reducible refine Free.bit hp ?_; decide)
    | (with_reducible refine Sub.trans ?_ hp; decide) | (with_reducible apply setCode_same) | (with_reducible apply rejectImages_same)
    | (with_reducible apply setPhase_same) | (with_reducible apply same_ite)
    | (with_reducible apply same_parts)
    | (simp only [same_mk_iff]) | split

theorem standbyStarts_same {s : State} (b : List Byte) (good : Bool)
    (hp : Sub (allow [.mem] [.ctlFwStat]) m) (h : Same m s0 s) :
    Same m s0 (standbyStarts s b good) := by
  unfold standbyStarts
  repeat' first
    | (with_reducible assumption) | (with_reducible refine Sub.trans ?_ hp; decide) | (with_reducible apply State_setStandby_same)
    | (with_reducible apply loadImage_same) | (with_reducible apply same_ite)

theorem bootStep4_same {s : State}
    (hp : Sub (allowAny [.objs, .objGen, .ctl, .evt, .ge, .mem, .boot, .marks]) m) (h : Same m s0 s) :
    Same m s0 (bootStep4 s) := by
  unfold bootStep4
  repeat' first
    | (with_reducible assumption) | (with_reducible exact Free.rfl) | (with_reducible refine Free.bit hp ?_; decide)
    | (with_reducible refine Sub.bit hp ?_; decide) | (with_reducible refine Sub.trans ?_ hp; decide)
    | (with_reducible apply rejectImages_same) | (with_reducible apply loadPool_same) | (with_reducible apply State_setObj_same)
    | (with_reducible apply wbit_same) | (with_reducible apply wf_same) | (with_reducible apply loadImage_same)
    | (with_reducible apply standbyStarts_same) | (with_reducible apply setPhase_same) | (with_reducible apply markOff_same)
    | (with_reducible apply raise_same) | (with_reducible apply setCode_same) | (with_reducible apply markOn_same)
    | (with_reducible apply same_ite) | (with_reducible refine same_foldl ?_ ?_; intro _ _ _)
    | (with_reducible apply same_parts)
    | (simp only [same_mk_iff]) | split

theorem bootStep5_same {s : State} (x : BootIn)
    (hp : Sub (allowAny [.clk, .freeCtr, .regsStaged, .objs, .objsStaged, .objGen, .stats, .islands, .subs, .fresh, .ctl, .evt, .tl, .adm,
        .diong, .lo, .fe, .cvt, .rx, .tx, .bm, .dpds, .disp, .ge, .cal, .lnk, .mem, .pwr, .hk, .boot, .nv, .marks, .air]) m) (h : Same m s0
        s) :
    Same m s0 (bootStep5 s x) := by
  unfold bootStep5
  repeat' first
    | (with_reducible assumption) | (with_reducible exact Free.rfl) | (with_reducible refine Free.bit hp ?_; decide)
    | (with_reducible refine Sub.trans ?_ hp; decide) | (with_reducible apply bootCommit_same) | (with_reducible apply bootCal_same)
    | (with_reducible apply islandClock_same) | (with_reducible apply islandDown_same) | (with_reducible apply reportRejected_same)
    | (with_reducible apply setLevel_same) | (with_reducible apply setPhase_same) | (with_reducible apply setCode_same)
    | (with_reducible apply raise_same) | (with_reducible apply settle_same) | (with_reducible apply same_ite)
    | (with_reducible refine same_foldl ?_ ?_; intro _ _ _)
    | (with_reducible apply same_parts)
    | (simp only [same_mk_iff]) | split

theorem bootStep_same {s : State} (x : BootIn)
    (hp : Sub (allowAny [.clk, .freeCtr, .regsStaged, .objs, .objsStaged, .objGen, .stats, .islands, .subs, .fresh, .ctl, .evt, .tl, .adm,
        .diong, .sec, .lo, .fe, .cvt, .rx, .tx, .bm, .dpds, .disp, .ge, .cal, .lnk, .mem, .pwr, .hk, .svc, .boot, .nv, .marks, .air]) m) (h
        : Same m s0 s) :
    Same m s0 (bootStep s x) := by
  unfold bootStep
  repeat' first
    | (with_reducible assumption) | (with_reducible refine Sub.trans ?_ hp; decide) | (with_reducible apply setPhase_same)
    | (with_reducible apply startTurn_same) | (with_reducible apply bootStep2_same) | (with_reducible apply bootStep3_same)
    | (with_reducible apply bootStep4_same) | (with_reducible apply bootStep5_same) | (with_reducible apply same_ite)
    | (with_reducible refine same_foldl ?_ ?_; intro _ _ _) | split

theorem secureRegs_same {s : State}
    (hp : Sub (allow [] [.dbgStat, .secKeystat, .secLc, .secRootstat]) m) (h : Same m s0 s) :
    Same m s0 (secureRegs s) := by
  unfold secureRegs
  repeat' first
    | (with_reducible assumption) | (with_reducible refine Sub.bit hp ?_; decide) | (with_reducible refine Sub.trans ?_ hp; decide)
    | (with_reducible apply wr_same) | (with_reducible apply wf_same) | (with_reducible apply keyStat_same)

theorem discard_same {s : State}
    (hp : Sub (allowAny [.clk, .freeCtr, .regsStaged, .objs, .objsStaged, .objGen, .stats, .islands, .subs, .fresh, .xing, .lost,
        .addrFaultRec, .ctl, .evt, .out, .tl, .adm, .diong, .straps, .sec, .lo, .fe, .cvt, .rx, .tx, .bm, .dpds, .disp, .ge, .cal, .lnk,
        .mem, .pwr, .hk, .svc, .boot, .nv, .marks, .air]) m) (h : Same m s0 s) :
    Same m s0 (discard s) := by
  unfold discard
  repeat' first
    | (with_reducible assumption) | (with_reducible exact Free.rfl) | (with_reducible refine Free.bit hp ?_; decide)
    | (with_reducible refine Sub.trans ?_ hp; decide) | (with_reducible apply secureRegs_same)
    | (with_reducible apply same_parts)
    | (simp only [same_mk_iff])

theorem coldStart_same {s : State}
    (hp : Sub (allowAny [.clk, .freeCtr, .regsStaged, .objs, .objsStaged, .objGen, .stats, .islands, .subs, .fresh, .xing, .lost,
        .addrFaultRec, .ctl, .evt, .out, .tl, .adm, .diong, .straps, .sec, .lo, .fe, .cvt, .rx, .tx, .bm, .dpds, .disp, .ge, .cal, .lnk,
        .mem, .pwr, .hk, .svc, .boot, .nv, .marks, .air]) m) (h : Same m s0 s) :
    Same m s0 (coldStart s) := by
  unfold coldStart
  repeat' first
    | (with_reducible assumption) | (with_reducible exact Free.rfl) | (with_reducible refine Free.bit hp ?_; decide)
    | (with_reducible refine Sub.bit hp ?_; decide) | (with_reducible refine Sub.trans ?_ hp; decide)
    | (with_reducible apply discard_same) | (with_reducible apply setPhase_same) | (with_reducible apply wr_same)
    | (with_reducible apply raise_same)
    | (with_reducible apply same_parts)
    | (simp only [same_mk_iff]) | split

theorem holdReset_same {s : State} (pwrgood : Bool) (nreset : Bool)
    (hp : Sub (allowAny [.clk, .freeCtr, .regsStaged, .objs, .objsStaged, .objGen, .stats, .islands, .subs, .fresh, .xing, .lost,
        .addrFaultRec, .ctl, .evt, .out, .tl, .adm, .diong, .straps, .sec, .lo, .fe, .cvt, .rx, .tx, .bm, .dpds, .disp, .ge, .cal, .lnk,
        .mem, .pwr, .hk, .svc, .boot, .nv, .marks, .air]) m) (h : Same m s0 s) :
    Same m s0 (holdReset s pwrgood nreset) := by
  unfold holdReset
  repeat' first
    | (with_reducible assumption) | (with_reducible exact Free.rfl) | (with_reducible refine Free.bit hp ?_; decide)
    | (with_reducible apply discard_same)
    | (with_reducible apply same_parts)
    | (simp only [same_mk_iff])

theorem loaderImage_same {s : State} (sub : Nat) (b : List Byte)
    (hp : Sub (allow [.boot] [.pwrBoot]) m) (h : Same m s0 s) :
    Same m s0 (loaderImage s sub b) := by
  unfold loaderImage
  repeat' first
    | (with_reducible assumption) | (with_reducible exact Free.rfl) | (with_reducible refine Free.bit hp ?_; decide)
    | (with_reducible refine Sub.trans ?_ hp; decide) | (with_reducible apply setPhase_same) | (with_reducible apply same_ite)
    | (with_reducible apply same_parts)
    | (simp only [same_mk_iff])

theorem warmStart_same {s : State} (t : Nat)
    (hp : Sub (allowAny [.clk, .freeCtr, .regsStaged, .objs, .objsStaged, .objGen, .stats, .islands, .subs, .fresh, .xing, .lost,
        .addrFaultRec, .ctl, .evt, .out, .tl, .adm, .diong, .straps, .sec, .lo, .fe, .cvt, .rx, .tx, .bm, .dpds, .disp, .ge, .cal, .lnk,
        .mem, .pwr, .hk, .svc, .boot, .nv, .marks, .air]) m) (h : Same m s0 s) :
    Same m s0 (warmStart s t) := by
  unfold warmStart
  repeat' first
    | (with_reducible assumption) | (with_reducible exact Free.rfl) | (with_reducible refine Free.bit hp ?_; decide)
    | (with_reducible refine Sub.bit hp ?_; decide) | (with_reducible refine Sub.trans ?_ hp; decide)
    | (with_reducible apply discard_same) | (with_reducible apply secureRegs_same) | (with_reducible apply wf_same)
    | (with_reducible apply setCode_same) | (with_reducible apply wbit_same) | (with_reducible apply setPhase_same)
    | (with_reducible apply same_parts)
    | (simp only [same_mk_iff])

/-! ## DebugOps -/

theorem debugAccess_same {s : State} (op : Nat) (size : Nat) (a : Nat) (data : Nat)
    (hp : Sub (allowAny [.clk, .freeCtr, .regsStaged, .objs, .stats, .fresh, .addrFaultRec, .ctl, .evt, .out, .tl, .adm, .diong, .sec, .lo,
        .fe, .cvt, .rx, .bm, .dpds, .disp, .ge, .lnk, .mem, .pwr, .hk, .svc, .boot, .nv, .marks, .air]) m) (h : Same m s0 s) :
    Same m s0 (debugAccess s op size a data).2.2 := by
  unfold debugAccess
  repeat' first
    | (with_reducible assumption) | (with_reducible refine Sub.bit hp ?_; decide) | (with_reducible refine Sub.trans ?_ hp; decide)
    | (with_reducible apply bump_same) | (with_reducible apply fabRead_same) | (with_reducible apply fabWrite_same)
    | (with_reducible apply same_ite_trd)

theorem tapSelect_same {s : State} (ir : Nat)
    (hp : Sub (allow [.sec, .hk] [.bdacDrnStat]) m) (h : Same m s0 s) :
    Same m s0 (tapSelect s ir) := by
  unfold tapSelect
  repeat' first
    | (with_reducible assumption) | (with_reducible exact Free.rfl) | (with_reducible refine Free.bit hp ?_; decide)
    | (with_reducible refine Sub.trans ?_ hp; decide) | (with_reducible apply allDrainsFall_same) | (with_reducible apply drainRise_same)
    | (with_reducible apply same_ite)
    | (with_reducible apply same_parts)
    | (simp only [same_mk_iff])

theorem tapBypass_same {s : State}
    (hp : Sub (allow [.out, .sec, .hk] [.bdacDrnStat, .dbgFails]) m) (h : Same m s0 s) :
    Same m s0 (tapBypass s) := by
  unfold tapBypass
  repeat' first
    | (with_reducible assumption) | (with_reducible refine Sub.bit hp ?_; decide) | (with_reducible refine Sub.trans ?_ hp; decide)
    | (with_reducible apply emit_same) | (with_reducible apply tapSelect_same) | (with_reducible apply bump_same)

theorem tunnelEntries_same (k : Nat) (b : List Byte) {s : State} (hp : Sub (allowAny [.clk, .freeCtr, .regsStaged, .objs, .stats, .fresh,
        .addrFaultRec, .ctl, .evt, .out, .tl, .adm, .diong, .sec, .lo, .fe, .cvt, .rx, .bm, .dpds, .disp, .ge, .lnk, .mem, .pwr, .hk, .svc,
        .boot, .nv, .marks, .air]) m) (h : Same m s0 s) : Same m s0 (tunnelEntries k b s).2 := by
  induction k generalizing b s with
  | zero => exact h
  | succ k ih => exact ih _ (debugAccess_same _ _ _ _ (Sub.trans (by decide) hp) h)

theorem tunnelList_same {s : State} (b : List Byte)
    (hp : Sub (allowAny [.clk, .freeCtr, .regsStaged, .objs, .stats, .fresh, .addrFaultRec, .ctl, .evt, .out, .tl, .adm, .diong, .sec, .lo,
        .fe, .cvt, .rx, .bm, .dpds, .disp, .ge, .lnk, .mem, .pwr, .hk, .svc, .boot, .nv, .marks, .air]) m) (h : Same m s0 s) :
    Same m s0 (tunnelList s b).2 := by
  unfold tunnelList
  repeat' first
    | (with_reducible assumption) | (with_reducible exact Free.rfl) | (with_reducible refine Free.bit hp ?_; decide)
    | (with_reducible apply tunnelEntries_same) | (with_reducible apply same_ite_snd)
    | (with_reducible apply same_parts)
    | (simp only [same_mk_iff])

/-! ## DiongOps -/

theorem authenticate_same {s : State} (d : DHdr) (op : Nat) (payload : List Byte)
    (hp : Sub (allow [.stats, .evt] [.evtRpt]) m) (h : Same m s0 s) :
    Same m s0 (authenticate s d op payload).2 := by
  unfold authenticate
  repeat' first
    | (with_reducible assumption) | (with_reducible refine Sub.trans ?_ hp; decide) | (with_reducible apply raise_same)
    | (with_reducible apply stat_same) | (with_reducible apply same_ite_snd) | (simp only [same_mk_iff]) | split

theorem dres_same (status : Nat) {s : State}
    (hp : Sub (allow [] []) m) (h : Same m s0 s) :
    Same m s0 (dres status s).st := by
  unfold dres
  repeat' first | (with_reducible assumption)

theorem genOf_same {s : State} (index : Nat) (sub : Nat)
    (hp : Sub (allow [.freeCtr] []) m) (h : Same m s0 s) :
    Same m s0 (genOf s index sub).2 := by
  unfold genOf
  repeat' first | (with_reducible assumption) | (with_reducible apply draw_same) | (with_reducible apply same_ite_snd)

theorem modSession_same {s : State} (t : Transport) (key : Nat) (id : Nat) (f : Session → Session)
    (hp : Sub (allow [.diong] []) m) (h : Same m s0 s) :
    Same m s0 (modSession s t key id f) := by
  unfold modSession
  repeat' first
    | (with_reducible assumption) | (with_reducible exact Free.rfl) | (with_reducible refine Free.bit hp ?_; decide)
    | (with_reducible apply same_parts)
    | (simp only [same_mk_iff])

theorem objRead_same {s : State} (role : Role) (r : ObjRow) (index : Nat) (sub : Nat)
    (hp : Sub (allow [.freeCtr, .sec, .ge] [.dbgChalId, .monData, .tlNowHi]) m) (h : Same m s0 s) :
    Same m s0 (objRead s role r index sub).2 := by
  unfold objRead
  repeat' first
    | (with_reducible assumption) | (with_reducible refine Sub.trans ?_ hp; decide) | (with_reducible apply regRead_same)
    | (with_reducible apply challengeRead_same) | (with_reducible apply same_ite_snd) | (simp only [same_mk_iff]) | split

theorem readAs_same {s : State} (role : Role) (t : Transport) (session : Nat) (index : Nat) (sub : Nat)
    (hp : Sub (allow [.freeCtr, .sec, .ge] [.dbgChalId, .monData, .tlNowHi]) m) (h : Same m s0 s) :
    Same m s0 (readAs s role t session index sub).2.2.2 := by
  unfold readAs
  repeat' first | (with_reducible assumption) | (with_reducible apply objRead_same) | (simp only [same_mk_iff]) | split

theorem opRead_same (t : Transport) (session : Nat) (index : Nat) (sub : Nat) (role : Role) {s : State}
    (hp : Sub (allow [.freeCtr, .sec, .ge] [.dbgChalId, .monData, .tlNowHi]) m) (h : Same m s0 s) :
    Same m s0 (opRead t session index sub role s).st := by
  unfold opRead
  repeat' first
    | (with_reducible assumption) | (with_reducible refine Sub.trans ?_ hp; decide) | (with_reducible apply readAs_same)
    | (with_reducible apply dres_same) | (simp only [same_mk_iff]) | (with_reducible refine same_eq_fth (by assumption) ?_) | split

theorem opReadBlock_same (t : Transport) (session : Nat) (index : Nat) (sub : Nat) (offset : Nat) (maxLen : Nat) (role : Role) {s : State}
    (hp : Sub (allow [.freeCtr, .sec, .ge] [.dbgChalId, .monData, .tlNowHi]) m) (h : Same m s0 s) :
    Same m s0 (opReadBlock t session index sub offset maxLen role s).st := by
  unfold opReadBlock
  repeat' first
    | (with_reducible assumption) | (with_reducible refine Sub.trans ?_ hp; decide) | (with_reducible apply readAs_same)
    | (with_reducible apply dres_same) | (with_reducible apply genOf_same) | (simp only [same_mk_iff])
    | (with_reducible refine same_eq_fth (by assumption) ?_) | split

theorem spiQueue_same {s : State} (notify : Bool) (f : List Byte)
    (hp : Sub (allow [.diong] []) m) (h : Same m s0 s) :
    Same m s0 (spiQueue s notify f) := by
  unfold spiQueue
  repeat' first
    | (with_reducible assumption) | (with_reducible exact Free.rfl) | (with_reducible refine Free.bit hp ?_; decide)
    | (with_reducible apply same_ite)
    | (with_reducible apply same_parts)
    | (simp only [same_mk_iff])

theorem sendFrame_same {s : State} (t : Transport) (notify : Bool) (f : List Byte)
    (hp : Sub (allow [.out, .diong] []) m) (h : Same m s0 s) :
    Same m s0 (sendFrame s t notify f) := by
  unfold sendFrame
  repeat' first
    | (with_reducible assumption) | (with_reducible refine Sub.trans ?_ hp; decide) | (with_reducible apply spiQueue_same)
    | (with_reducible apply emit_same) | split

theorem respond_same {s : State} (t : Transport) (session : Nat) (seq : Nat) (key : Nat) (material : List Byte) (op : Nat) (status : Nat)
        (payload : List Byte) (last : Bool)
    (hp : Sub (allow [.out, .diong] []) m) (h : Same m s0 s) :
    Same m s0 (respond s t session seq key material op status payload last) := by
  unfold respond
  repeat' first | (with_reducible assumption) | (with_reducible apply sendFrame_same)

theorem runRequest_same {s : State} (d : DHdr) (role : Role) (x : List Byte) (op : Nat) (payload : List Byte) {act : Role → State → DRes}
    (ha : ∀ r t, Same m s0 t → Same m s0 (act r t).st) (hp : Sub (allow [.out, .diong] []) m) (h : Same m s0 s) :
    Same m s0 (runRequest s d role x op payload act) := by
  unfold runRequest
  repeat' first
    | (with_reducible assumption) | (with_reducible refine Sub.trans ?_ hp; decide) | (with_reducible apply respond_same)
    | (with_reducible apply dres_same) | (with_reducible apply modSession_same) | (with_reducible apply same_ite)
    | (with_reducible apply ha) | split

theorem request_same {s : State} (d : DHdr) (op : Nat) (payload : List Byte) {act : Role → State → DRes}
    (ha : ∀ r t, Same m s0 t → Same m s0 (act r t).st) (hp : Sub (allow [.stats, .evt, .out, .diong] [.evtRpt]) m) (h : Same m s0 s) :
    Same m s0 (request s d op payload act) := by
  unfold request
  repeat' first
    | (with_reducible assumption) | (with_reducible exact Free.rfl) | (with_reducible refine Free.bit hp ?_; decide)
    | (with_reducible refine Sub.trans ?_ hp; decide) | (with_reducible apply respond_same) | (with_reducible apply modSession_same)
    | (with_reducible apply stat_same) | (with_reducible apply authenticate_same) | (with_reducible apply runRequest_same)
    | (with_reducible apply same_ite)
    | (with_reducible apply same_parts)
    | (simp only [same_mk_iff]) | (with_reducible refine same_eq_snd (by assumption) ?_) | split

end Sys2Proof.Machine
end

