-- ==== Sys2Proof/Laws/SameCommandsA.lean ====
section
/-! SUPPORT. What `Same` passes through: the commands, first part. -/

namespace Sys2Proof.Machine

variable {m : Nat} {s0 : State}

/-! ## CmdAdmission -/

theorem answerJob_same {s : State} (j : CommitJob) (r : AdmResult) (tick : Nat)
    (hp : Sub (allow [.out, .diong] []) m) (h : Same m s0 s) :
    Same m s0 (answerJob s j r tick) := by
  unfold answerJob
  repeat' first
    | (with_reducible assumption) | (with_reducible refine Sub.trans ?_ hp; decide) | (with_reducible apply modSession_same)
    | (with_reducible apply respond_same) | (simp only [same_mk_iff]) | split

theorem commitAct_same (d : DHdr) (boundary : Nat) (tick : Nat) (role : Role) {s : State}
    (hp : Sub (allowAny [.objs, .objGen, .evt, .out, .adm, .diong]) m) (h : Same m s0 s) :
    Same m s0 (commitAct d boundary tick role s).st := by
  unfold commitAct
  repeat' first
    | (with_reducible assumption) | (with_reducible exact Free.rfl) | (with_reducible refine Free.bit hp ?_; decide)
    | (with_reducible refine Sub.trans ?_ hp; decide) | (with_reducible apply dres_same) | (with_reducible apply commitStart_same)
    | (with_reducible apply answerJob_same) | (with_reducible apply refuseCommit_same)
    | (with_reducible apply same_parts)
    | (simp only [same_mk_iff]) | (with_reducible refine same_eq_snd (by assumption) ?_) | split

theorem execAbort_same (d : DHdr) {s : State}
    (hp : Sub (allow [.regsStaged, .objsStaged, .stats, .evt, .out, .diong] [.evtRpt]) m) (h : Same m s0 s) :
    OutSame m s0 (execAbort d s) := by
  unfold execAbort
  repeat' first
    | (with_reducible assumption) | (with_reducible refine Sub.trans ?_ hp; decide) | (intro _) | (with_reducible apply outSame_next)
    | (with_reducible apply request_same) | (with_reducible apply dres_same) | (with_reducible apply abortStaged_same)

theorem execAdmissionResult_same {s : State}
    (hp : Sub (allowAny [.regsStaged, .objs, .objsStaged, .objGen, .stats, .evt, .out, .tl, .adm, .diong, .lo, .fe, .rx, .tx, .ge, .marks])
        m) (h : Same m s0 s) :
    OutSame m s0 (execAdmissionResult s) := by
  unfold execAdmissionResult
  repeat' first
    | (with_reducible assumption) | (with_reducible refine Sub.trans ?_ hp; decide) | (with_reducible apply outSame_next)
    | (with_reducible apply admissionEnd_same) | (with_reducible apply answerJob_same) | (simp only [same_mk_iff]) | split

theorem execCapacityLossReadmission_same {s : State}
    (hp : Sub (allow [.evt, .adm] [.evtRpt]) m) (h : Same m s0 s) :
    OutSame m s0 (execCapacityLossReadmission s) := by
  unfold execCapacityLossReadmission
  repeat' first
    | (with_reducible assumption) | (with_reducible apply outSame_next) | (with_reducible apply repeatAdmission_same)
    | (with_reducible apply outSame_ite)

theorem execCarrierDropRemoval_same {s : State}
    (hp : Sub (allowAny [.clk, .freeCtr, .objs, .objGen, .stats, .subs, .fresh, .evt, .tl, .adm, .diong, .lo, .fe, .cvt, .rx, .tx, .bm,
        .dpds, .disp, .ge, .lnk, .mem, .hk, .marks, .air]) m) (h : Same m s0 s) :
    OutSame m s0 (execCarrierDropRemoval s) := by
  unfold execCarrierDropRemoval
  repeat' first
    | (with_reducible assumption) | (with_reducible exact Free.rfl) | (with_reducible refine Free.bit hp ?_; decide)
    | (with_reducible refine Sub.trans ?_ hp; decide) | (with_reducible apply outSame_next) | (with_reducible apply toFrame_same)
    | (with_reducible apply removalDone_same) | (with_reducible apply dropCarriers_same) | (with_reducible apply outSame_ite)
    | (with_reducible apply same_parts)
    | (simp only [same_mk_iff])

theorem execCommit_same (d : DHdr) (boundary : Nat) (tick : Nat) {s : State}
    (hp : Sub (allowAny [.objs, .objGen, .stats, .evt, .out, .adm, .diong]) m) (h : Same m s0 s) :
    OutSame m s0 (execCommit d boundary tick s) := by
  unfold execCommit
  repeat' first
    | (with_reducible assumption) | (with_reducible refine Sub.trans ?_ hp; decide) | (intro _) | (with_reducible apply outSame_next)
    | (with_reducible apply request_same) | (with_reducible apply commitAct_same)

theorem execCommitBoundary_same {s : State}
    (hp : Sub (allowAny [.clk, .freeCtr, .objs, .objGen, .stats, .subs, .fresh, .evt, .tl, .adm, .diong, .lo, .fe, .cvt, .rx, .tx, .bm,
        .dpds, .disp, .ge, .lnk, .mem, .hk, .marks, .air]) m) (h : Same m s0 s) :
    OutSame m s0 (execCommitBoundary s) := by
  unfold execCommitBoundary
  repeat' first | (with_reducible assumption) | (with_reducible apply outSame_next) | (with_reducible apply commitBoundary_same) | split

/-! ## DiongObj -/

theorem clearCounter_same {s : State} (index : Nat) (sub : Nat)
    (hp : Sub (allow [.stats] []) m) (h : Same m s0 s) :
    Same m s0 (clearCounter s index sub) := by
  unfold clearCounter
  repeat' first
    | (with_reducible assumption) | (with_reducible exact Free.rfl) | (with_reducible refine Free.bit hp ?_; decide)
    | (with_reducible apply same_parts)
    | (simp only [same_mk_iff])

theorem digestsDue_same {s : State} (r : ObjRow)
    (hp : Sub (allow [.diong] []) m) (h : Same m s0 s) :
    Same m s0 (digestsDue s r) := by
  unfold digestsDue
  repeat' first
    | (with_reducible assumption) | (with_reducible exact Free.rfl) | (with_reducible refine Free.bit hp ?_; decide)
    | (with_reducible apply same_ite)
    | (with_reducible apply same_parts)
    | (simp only [same_mk_iff])

theorem dropBlock_same {s : State} (index : Nat)
    (hp : Sub (allow [.evt] [.bfWrej, .evtRpt]) m) (h : Same m s0 s) :
    Same m s0 (dropBlock s index) := by
  unfold dropBlock
  repeat' first | (with_reducible assumption) | (with_reducible apply rejectBlock_same) | (with_reducible apply same_ite)

theorem refuseForeign_same {s : State} (role : Role) (index : Nat)
    (hp : Sub (allow [.evt] [.bfWrej, .evtRpt]) m) (h : Same m s0 s) :
    Same m s0 (refuseForeign s role index) := by
  unfold refuseForeign
  repeat' first
    | (with_reducible assumption) | (with_reducible refine Sub.trans ?_ hp; decide) | (with_reducible apply firewall_same)
    | (with_reducible apply dropBlock_same) | split

theorem stageObj_same {s : State} (role : Role) (index : Nat) (sub : Nat) (v : ObjVal)
    (hp : Sub (allow [.objsStaged, .adm] []) m) (h : Same m s0 s) :
    Same m s0 (stageObj s role index sub v) := by
  unfold stageObj
  repeat' first
    | (with_reducible assumption) | (with_reducible exact Free.rfl) | (with_reducible refine Free.bit hp ?_; decide)
    | (with_reducible refine Sub.trans ?_ hp; decide) | (with_reducible apply State_touch_same)
    | (with_reducible apply same_parts)
    | (simp only [same_mk_iff])

theorem keep_same {s : State} (index : Nat) (sub : Nat) (v : ObjVal)
    (hp : Sub (allow [.objs] []) m) (h : Same m s0 s) :
    Same m s0 (keep s index sub v) := by
  unfold keep
  repeat' first
    | (with_reducible assumption) | (with_reducible exact Free.rfl) | (with_reducible refine Free.bit hp ?_; decide)
    | (with_reducible apply same_parts)
    | (simp only [same_mk_iff])

theorem writeEnables_same {s : State} (d : Nat) (b : Nat) (bits : Nat)
    (hp : Sub (allow [] [.evtEn]) m) (h : Same m s0 s) :
    Same m s0 (writeEnables s d b bits) := by
  unfold writeEnables
  repeat' first | (with_reducible assumption) | (with_reducible refine Sub.bit hp ?_; decide) | (with_reducible apply wr_same)

theorem writeSet_same {s : State} (p : Nat) (b : List Byte)
    (hp : Sub (allow [.evt, .dpds, .marks] [.dpdWrej, .evtRpt]) m) (h : Same m s0 s) :
    Same m s0 (writeSet s p b).2 := by
  unfold writeSet
  repeat' first
    | (with_reducible assumption) | (with_reducible refine Sub.trans ?_ hp; decide) | (with_reducible apply State_setDpd_same)
    | (with_reducible apply bankReject_same) | (with_reducible apply requestHo_same) | (with_reducible apply hoCheckDone_same)
    | (with_reducible apply same_ite)

theorem writeBaseSet_same {s : State} (j : Nat) (b : List Byte)
    (hp : Sub (allow [.cal] []) m) (h : Same m s0 s) :
    Same m s0 (writeBaseSet s j b) := by
  unfold writeBaseSet
  repeat' first
    | (with_reducible assumption) | (with_reducible exact Free.rfl) | (with_reducible refine Free.bit hp ?_; decide)
    | (with_reducible apply same_parts)
    | (simp only [same_mk_iff])

theorem objAction_same {s : State} (role : Role) (t : Transport) (session : Nat) (index : Nat) (sub : Nat) (b : List Byte)
    (hp : Sub (allowAny [.clk, .freeCtr, .regsStaged, .objs, .objGen, .stats, .subs, .fresh, .lost, .addrFaultRec, .ctl, .evt, .out, .tl,
        .adm, .diong, .sec, .lo, .fe, .cvt, .rx, .bm, .dpds, .disp, .ge, .cal, .lnk, .mem, .pwr, .hk, .svc, .boot, .nv, .marks, .air]) m)
        (h : Same m s0 s) :
    OptSame m s0 (objAction s role t session index sub b) := by
  unfold objAction
  repeat' first
    | (with_reducible assumption) | (with_reducible exact Free.rfl) | (with_reducible refine Free.bit hp ?_; decide)
    | (with_reducible refine Sub.bit hp ?_; decide) | (with_reducible refine Sub.trans ?_ hp; decide)
    | (with_reducible apply optSame_some) | exact optSame_none | (with_reducible apply optSame_ite) | (with_reducible apply keep_same)
    | (with_reducible apply clearSticky_same) | (with_reducible apply writeEnables_same) | (with_reducible apply weightBlock_same)
    | (with_reducible apply writeSet_same) | (with_reducible apply writeBaseSet_same) | (with_reducible apply trigRing_same)
    | (with_reducible apply codeWrite_same) | (with_reducible apply monTrigger_same) | (with_reducible apply keyEnvelope_same)
    | (with_reducible apply forceTune_same) | (with_reducible apply spurEdges_same) | (with_reducible apply clockAll_same)
    | (with_reducible apply wf_same) | (with_reducible apply requestSync_same) | (with_reducible apply failPath_same)
    | (with_reducible apply healClear_same) | (with_reducible apply fgRequest_same) | (with_reducible apply setLaneState_same)
    | (with_reducible apply powerRequest_same) | (with_reducible apply strobeMask_same) | (with_reducible apply drainRequest_same)
    | (with_reducible apply faultClear_same) | (with_reducible apply lcTransition_same) | (with_reducible apply rootRecord_same)
    | (with_reducible apply attest_same) | (with_reducible apply debugResponse_same) | (with_reducible apply endDebug_same)
    | (with_reducible apply tunnelList_same) | (with_reducible apply raiseMinimums_same) | (with_reducible apply spareBankOut_same)
    | (with_reducible apply retireEngine_same) | (with_reducible apply standbyImage_same) | (with_reducible apply hoRequest_same)
    | (with_reducible apply same_ite) | (with_reducible refine same_foldl ?_ ?_; intro _ _ _)
    | (with_reducible apply same_parts)
    | (simp only [same_mk_iff]) | split

theorem writeGood_same {s : State} (role : Role) (t : Transport) (session : Nat) (r : ObjRow) (index : Nat) (sub : Nat) (b : List Byte)
    (hp : Sub (allowAny [.clk, .freeCtr, .regsStaged, .objs, .objsStaged, .objGen, .stats, .subs, .fresh, .lost, .addrFaultRec, .ctl, .evt,
        .out, .tl, .adm, .diong, .sec, .lo, .fe, .cvt, .rx, .bm, .dpds, .disp, .ge, .cal, .lnk, .mem, .pwr, .hk, .svc, .boot, .nv, .marks,
        .air]) m) (h : Same m s0 s) :
    Same m s0 (writeGood s role t session r index sub b).2 := by
  unfold writeGood
  repeat' first
    | (with_reducible assumption) | (with_reducible refine Sub.trans ?_ hp; decide)
    | (refine objAction_same _ _ _ _ _ _ (Sub.trans (by decide) hp) ?_ _ (by assumption)) | (with_reducible apply dropBlock_same)
    | (with_reducible apply stageObj_same) | (with_reducible apply digestsDue_same) | (with_reducible apply objApply_same)
    | (with_reducible apply same_ite_snd) | split

theorem writeAs_same {s : State} (role : Role) (t : Transport) (session : Nat) (index : Nat) (sub : Nat) (type : Nat) (b : List Byte)
    (hp : Sub (allowAny [.clk, .freeCtr, .regsStaged, .objs, .objsStaged, .objGen, .stats, .subs, .fresh, .lost, .addrFaultRec, .ctl, .evt,
        .out, .tl, .adm, .diong, .sec, .lo, .fe, .cvt, .rx, .bm, .dpds, .disp, .ge, .cal, .lnk, .mem, .pwr, .hk, .svc, .boot, .nv, .marks,
        .air]) m) (h : Same m s0 s) :
    Same m s0 (writeAs s role t session index sub type b).2 := by
  unfold writeAs
  repeat' first
    | (with_reducible assumption) | (with_reducible refine Sub.trans ?_ hp; decide) | (with_reducible apply refuseForeign_same)
    | (with_reducible apply clearCounter_same) | (with_reducible apply writeGood_same) | (with_reducible apply same_ite)
    | (with_reducible apply same_ite_snd) | split

theorem finishBlock_same {s : State} (role : Role) (t : Transport) (session : Nat) (index : Nat) (sub : Nat) (type : Nat) (b : List Byte)
    (hp : Sub (allowAny [.clk, .freeCtr, .regsStaged, .objs, .objsStaged, .objGen, .stats, .subs, .fresh, .lost, .addrFaultRec, .ctl, .evt,
        .out, .tl, .adm, .diong, .sec, .lo, .fe, .cvt, .rx, .bm, .dpds, .disp, .ge, .cal, .lnk, .mem, .pwr, .hk, .svc, .boot, .nv, .marks,
        .air]) m) (h : Same m s0 s) :
    Same m s0 (finishBlock s role t session index sub type b).st := by
  unfold finishBlock
  repeat' first
    | (with_reducible assumption) | (with_reducible refine Sub.trans ?_ hp; decide) | (with_reducible apply dres_same)
    | (with_reducible apply loaderImage_same) | (with_reducible apply writeAs_same) | (simp only [same_mk_iff]) | split

theorem managed_same (role : Role) {s : State} {f : DRes} (hf : Same m s0 f.st) (h : Same m s0 s) :
    Same m s0 (managed role s f).st := by
  unfold managed
  split
  · exact h
  · exact hf

theorem notify_same {s : State} (x : Session) (y : Subscription) (ty : Nat) (v : List Byte)
    (hp : Sub (allow [.out, .diong] []) m) (h : Same m s0 s) :
    Same m s0 (notify s x y ty v) := by
  unfold notify
  repeat' first
    | (with_reducible assumption) | (with_reducible refine Sub.trans ?_ hp; decide) | (with_reducible apply sendFrame_same)
    | (with_reducible apply modSession_same)

theorem notifyDue_same {s : State} (t : Transport) (key : Nat) (id : Nat) (index : Nat) (sub : Nat)
    (hp : Sub (allow [.clk, .freeCtr, .out, .diong, .sec, .ge, .air] [.dbgChalId, .monData, .tlNowHi]) m) (h : Same m s0 s) :
    Same m s0 (notifyDue s t key id index sub) := by
  unfold notifyDue
  repeat' first
    | (with_reducible assumption) | (with_reducible refine Sub.trans ?_ hp; decide) | (with_reducible apply reachElapsed_same)
    | (with_reducible apply readAs_same) | (with_reducible apply notify_same) | (with_reducible apply same_ite)
    | (simp only [same_mk_iff]) | (with_reducible refine same_eq_fth (by assumption) ?_) | split

theorem opDigest_same (scope : Nat) (role : Role) {s : State}
    (hp : Sub (allow [] []) m) (h : Same m s0 s) :
    Same m s0 (opDigest scope role s).st := by
  unfold opDigest
  repeat' first | (with_reducible assumption) | (with_reducible apply dres_same) | (simp only [same_mk_iff]) | split

theorem opRestore_same (mode : Nat) (role : Role) {s : State}
    (hp : Sub (allowAny [.objs, .objsStaged, .objGen, .adm, .hk]) m) (h : Same m s0 s) :
    Same m s0 (opRestore mode role s).st := by
  unfold opRestore
  repeat' first
    | (with_reducible assumption) | (with_reducible refine Sub.trans ?_ hp; decide) | (with_reducible apply managed_same)
    | (with_reducible apply dres_same) | (with_reducible apply loadConfig_same) | split

theorem opStore_same (selector : Nat) (nvOk : Bool) (role : Role) {s : State}
    (hp : Sub (allow [.evt, .fe, .cal, .nv] [.evtRpt]) m) (h : Same m s0 s) :
    Same m s0 (opStore selector nvOk role s).st := by
  unfold opStore
  repeat' first
    | (with_reducible assumption) | (with_reducible refine Sub.trans ?_ hp; decide) | (with_reducible apply managed_same)
    | (with_reducible apply storeConfig_same) | (with_reducible apply storeCal_same) | (with_reducible apply dres_same)
    | (with_reducible apply raise_same) | (with_reducible apply same_ite) | (simp only [same_mk_iff]) | split

theorem opSubscribe_same (d : DHdr) (index : Nat) (sub : Nat) (mode : Nat) (period : Nat) (role : Role) {s : State}
    (hp : Sub (allow [.freeCtr, .diong, .sec, .ge] [.dbgChalId, .monData, .tlNowHi]) m) (h : Same m s0 s) :
    Same m s0 (opSubscribe d index sub mode period role s).st := by
  unfold opSubscribe
  repeat' first
    | (with_reducible assumption) | (with_reducible refine Sub.trans ?_ hp; decide) | (with_reducible apply readAs_same)
    | (with_reducible apply dres_same) | (with_reducible apply modSession_same) | (simp only [same_mk_iff])
    | (with_reducible refine same_eq_fth (by assumption) ?_) | split

theorem opWrite_same (t : Transport) (session : Nat) (index : Nat) (sub : Nat) (type : Nat) (b : List Byte) (role : Role) {s : State}
    (hp : Sub (allowAny [.clk, .freeCtr, .regsStaged, .objs, .objsStaged, .objGen, .stats, .subs, .fresh, .lost, .addrFaultRec, .ctl, .evt,
        .out, .tl, .adm, .diong, .sec, .lo, .fe, .cvt, .rx, .bm, .dpds, .disp, .ge, .cal, .lnk, .mem, .pwr, .hk, .svc, .boot, .nv, .marks,
        .air]) m) (h : Same m s0 s) :
    Same m s0 (opWrite t session index sub type b role s).st := by
  unfold opWrite
  repeat' first
    | (with_reducible assumption) | (with_reducible refine Sub.trans ?_ hp; decide) | (with_reducible apply writeAs_same)
    | (with_reducible apply dres_same)

theorem opWriteBlock_same (d : DHdr) (index : Nat) (sub : Nat) (type : Nat) (offset : Nat) (total : Nat) (data : List Byte) (role : Role)
        {s : State}
    (hp : Sub (allowAny [.clk, .freeCtr, .regsStaged, .objs, .objsStaged, .objGen, .stats, .subs, .fresh, .lost, .addrFaultRec, .ctl, .evt,
        .out, .tl, .adm, .diong, .sec, .lo, .fe, .cvt, .rx, .bm, .dpds, .disp, .ge, .cal, .lnk, .mem, .pwr, .hk, .svc, .boot, .nv, .marks,
        .air]) m) (h : Same m s0 s) :
    Same m s0 (opWriteBlock d index sub type offset total data role s).st := by
  unfold opWriteBlock
  repeat' first
    | (with_reducible assumption) | (with_reducible refine Sub.trans ?_ hp; decide) | (with_reducible apply modSession_same)
    | (with_reducible apply dres_same) | (with_reducible apply finishBlock_same) | (with_reducible apply refuseForeign_same)
    | (with_reducible apply same_ite) | (simp only [same_mk_iff]) | split

/-! ## EventOps -/

theorem fireAt_same {x : Nat × Bool × State} (f : Firing) (clr : Option Nat) (d : Nat) (hp : Sub (allow [.fresh, .evt, .lnk] [.evtRpt,
        .evtStk]) m) (h : Same m s0 x.2.2) :
    Same m s0 (fireAt f clr x d).2.2 := by
  unfold fireAt
  repeat' first
    | (with_reducible assumption) | (with_reducible refine Sub.bit hp ?_; decide) | (with_reducible refine Sub.trans ?_ hp; decide)
    | (with_reducible apply coalesceAt_same) | (with_reducible apply State_setPort_same) | (with_reducible apply wf_same)
    | (with_reducible apply setFlag_same) | (with_reducible exact Free.rfl) | (with_reducible refine Free.bit hp ?_; decide) | split
    | (dsimp only)
    | (with_reducible apply same_parts)
    | (simp only [same_mk_iff])

theorem foldOne_same {s : State} (f : Fold)
    (hp : Sub (allowAny [.stats, .evt]) m) (h : Same m s0 s) :
    Same m s0 (foldOne s f) := by
  unfold foldOne
  repeat' first
    | (with_reducible assumption) | (with_reducible refine Sub.trans ?_ hp; decide) | (with_reducible refine any_bit _ hp ?_; decide)
    | (with_reducible apply stat_same) | (with_reducible apply wf_same) | (with_reducible apply same_ite)

theorem foldPaths_same {s : State}
    (hp : Sub (allowAny [.stats, .evt]) m) (h : Same m s0 s) :
    Same m s0 (foldPaths s) := by
  unfold foldPaths
  repeat' first | (with_reducible assumption) | (with_reducible apply foldOne_same) | (with_reducible refine same_foldl ?_ ?_; intro _ _ _)

theorem logFiring_same {x : Nat × Bool × State} (f : Firing) (hp : Sub (allow [.evt] [.evtRpt]) m) (h : Same m s0 x.2.2) : Same m s0
        (logFiring f x) := by
  obtain ⟨del, co, s⟩ := x
  unfold logFiring
  repeat' first
    | (with_reducible assumption) | (with_reducible exact Free.rfl) | (with_reducible refine Free.bit hp ?_; decide)
    | (with_reducible apply logWrite_same) | (with_reducible apply same_ite)
    | (with_reducible apply same_parts)
    | (simp only [same_mk_iff])

theorem present_same {s : State} (f : Firing) (clr : Option Nat) (hp : Sub (allow [.fresh, .evt, .lnk] [.evtRpt, .evtStk]) m) (h : Same m
        s0 s) : Same m s0 (present s f clr) := by
  unfold present
  refine logFiring_same f (Sub.trans (by decide) hp) (same_foldl_trd (fun t a ht => fireAt_same f clr a (Sub.trans (by decide) hp) ht) ?_)
  simp only [same_mk_iff]
  with_reducible apply same_parts
  all_goals first | (with_reducible exact Free.rfl) | (with_reducible refine Free.bit hp ?_; decide) | assumption

theorem presentNext_same {s : State} (src : Nat) (clr : Option Nat)
    (hp : Sub (allow [.fresh, .evt, .lnk] [.evtRpt, .evtStk]) m) (h : Same m s0 s) :
    Same m s0 (presentNext s src clr) := by
  unfold presentNext
  repeat' first | (with_reducible assumption) | (with_reducible apply present_same) | split

theorem tokenStart_same {before : State} {after : State}
    (hp : Sub (allowAny [.clk, .freeCtr, .regsStaged, .objs, .objsStaged, .objGen, .stats, .islands, .subs, .fresh, .xing, .lost,
        .addrFaultRec, .ctl, .evt, .out, .tl, .adm, .diong, .straps, .sec, .lo, .fe, .cvt, .rx, .tx, .bm, .dpds, .disp, .ge, .cal, .lnk,
        .mem, .pwr, .hk, .svc, .boot, .nv, .marks, .air]) m) (h : Same m s0 after) :
    Same m s0 (tokenStart before after) := by
  unfold tokenStart
  repeat' first | (with_reducible assumption) | (with_reducible apply coldStart_same) | (with_reducible apply same_ite)

/-! ## CmdArray -/

theorem dropTenures_same {s : State} (i : Nat)
    (hp : Sub (allow [.mem] []) m) (h : Same m s0 s) :
    Same m s0 (dropTenures s i) := by
  unfold dropTenures
  repeat' first
    | (with_reducible assumption) | (with_reducible exact Free.rfl) | (with_reducible refine Free.bit hp ?_; decide)
    | (with_reducible apply same_parts)
    | (simp only [same_mk_iff])

theorem execCrossingPulse_same (src : Nat) (dst : Nat) (burst : Nat) {s : State}
    (hp : Sub (allow [.islands, .xing, .lost, .cvt] []) m) (h : Same m s0 s) :
    OutSame m s0 (execCrossingPulse src dst burst s) := by
  unfold execCrossingPulse
  repeat' first
    | (with_reducible assumption) | (with_reducible exact Free.rfl) | (with_reducible refine Free.bit hp ?_; decide)
    | (with_reducible refine Sub.trans ?_ hp; decide) | (with_reducible apply outSame_next) | (with_reducible apply islandSet_same)
    | (with_reducible apply outSame_ite) | (with_reducible apply same_ite)
    | (with_reducible apply same_parts)
    | (simp only [same_mk_iff])

theorem execCrossingWakeRequest_same (dst : Nat) {s : State}
    (hp : Sub (allow [.islands, .cvt] []) m) (h : Same m s0 s) :
    OutSame m s0 (execCrossingWakeRequest dst s) := by
  unfold execCrossingWakeRequest
  repeat' first
    | (with_reducible assumption) | (with_reducible apply outSame_next) | (with_reducible apply islandSet_same)
    | (with_reducible apply outSame_ite)

theorem resetBlock_same {s : State} (i : Nat)
    (hp : Sub (allow [.stats, .subs, .ctl, .evt, .tl, .diong, .sec, .lo, .fe, .cvt, .rx, .bm, .disp, .ge, .lnk, .mem, .hk, .marks]
        [.bdacDrnStat, .dbgCoreCtrl, .dbgEngHalt, .dbgStat, .evtRpt, .geDoorbell, .lnkLaneStat, .memBankCtrl, .memBankStat]) m) (h : Same m
        s0 s) :
    Same m s0 (resetBlock s i) := by
  unfold resetBlock
  repeat' first
    | (with_reducible assumption) | (with_reducible exact Free.rfl) | (with_reducible refine Free.bit hp ?_; decide)
    | (with_reducible refine Sub.bit hp ?_; decide) | (with_reducible refine Sub.trans ?_ hp; decide)
    | (with_reducible apply pathOff_same) | (with_reducible apply State_setEng_same) | (with_reducible apply abortJobs_same)
    | (with_reducible apply allPathsOff_same) | (with_reducible apply setLaneState_same) | (with_reducible apply wr_same)
    | (with_reducible apply firmwareStops_same) | (with_reducible apply allDrainsFall_same) | (with_reducible apply endDebug_same)
    | (with_reducible apply same_ite) | (with_reducible refine same_foldl ?_ ?_; intro _ _ _)
    | (with_reducible apply same_parts)
    | (simp only [same_mk_iff]) | split

theorem resetIsland_same {s : State} (i : Nat)
    (hp : Sub (allowAny [.regsStaged, .stats, .subs, .ctl, .evt, .tl, .diong, .sec, .lo, .fe, .cvt, .rx, .bm, .disp, .ge, .lnk, .mem, .hk,
        .marks]) m) (h : Same m s0 s) :
    Same m s0 (resetIsland s i) := by
  unfold resetIsland
  repeat' first
    | (with_reducible assumption) | (with_reducible exact Free.rfl) | (with_reducible refine Free.bit hp ?_; decide)
    | (with_reducible refine Sub.trans ?_ hp; decide) | (with_reducible apply dropTenures_same) | (with_reducible apply resetBlock_same)
    | (with_reducible apply same_parts)
    | (simp only [same_mk_iff])

theorem execIslandResetCommand_same (island : Nat) (inFlight : List Nat) {s : State}
    (hp : Sub (allowAny [.regsStaged, .stats, .subs, .xing, .ctl, .evt, .out, .tl, .diong, .sec, .lo, .fe, .cvt, .rx, .bm, .disp, .ge,
        .lnk, .mem, .hk, .marks]) m) (h : Same m s0 s) :
    OutSame m s0 (execIslandResetCommand island inFlight s) := by
  unfold execIslandResetCommand
  repeat' first
    | (with_reducible assumption) | (with_reducible exact Free.rfl) | (with_reducible refine Free.bit hp ?_; decide)
    | (with_reducible refine Sub.bit hp ?_; decide) | (with_reducible refine Sub.trans ?_ hp; decide)
    | (with_reducible apply outSame_next) | (with_reducible apply dropParked_same) | (with_reducible apply wbit_same)
    | (with_reducible apply resetIsland_same) | (with_reducible apply emit_same) | (with_reducible apply outSame_ite)
    | (with_reducible apply same_ite) | (with_reducible refine same_foldl ?_ ?_; intro _ _ _)
    | (with_reducible apply same_parts)
    | (simp only [same_mk_iff])

theorem execLockstepFault_same (pair : Nat) {s : State}
    (hp : Sub (allow [.ctl, .evt, .marks] [.ctlFwStat, .evtRpt]) m) (h : Same m s0 s) :
    OutSame m s0 (execLockstepFault pair s) := by
  unfold execLockstepFault
  repeat' first
    | (with_reducible assumption) | (with_reducible apply outSame_next) | (with_reducible apply lockstepFault_same)
    | (with_reducible apply outSame_ite)

theorem execLostFlagClear_same (role : Role) (island : Nat) (bits : Nat) {s : State}
    (hp : Sub (allow [.lost] []) m) (h : Same m s0 s) :
    OutSame m s0 (execLostFlagClear role island bits s) := by
  unfold execLostFlagClear
  repeat' first
    | (with_reducible assumption) | (with_reducible exact Free.rfl) | (with_reducible refine Free.bit hp ?_; decide)
    | (with_reducible apply outSame_next) | (with_reducible apply outSame_ite)
    | (with_reducible apply same_parts)
    | (simp only [same_mk_iff]) | split

theorem execPairPromotion_same {s : State}
    (hp : Sub (allow [.clk, .ctl, .evt, .nv, .marks, .air] [.ctlFwSig, .ctlFwStat, .evtRpt, .secBoot]) m) (h : Same m s0 s) :
    OutSame m s0 (execPairPromotion s) := by
  unfold execPairPromotion
  repeat' first
    | (with_reducible assumption) | (with_reducible refine Sub.trans ?_ hp; decide) | (with_reducible apply outSame_next)
    | (with_reducible apply promote_same) | (with_reducible apply toSlot_same) | (with_reducible apply outSame_ite)

theorem execRegisterWrite_same (x0 : Master) (tag : Nat) (addr : Nat) (value : Nat) {s : State}
    (hp : Sub (allowAny [.clk, .freeCtr, .regsStaged, .objs, .objsStaged, .objGen, .stats, .islands, .subs, .fresh, .xing, .lost,
        .addrFaultRec, .ctl, .evt, .out, .tl, .adm, .diong, .straps, .sec, .lo, .fe, .cvt, .rx, .tx, .bm, .dpds, .disp, .ge, .cal, .lnk,
        .mem, .pwr, .hk, .svc, .boot, .nv, .marks, .air]) m) (h : Same m s0 s) :
    OutSame m s0 (execRegisterWrite x0 tag addr value s) := by
  unfold execRegisterWrite
  repeat' first
    | (with_reducible assumption) | (with_reducible refine Sub.trans ?_ hp; decide) | (with_reducible apply outSame_next)
    | (with_reducible apply tokenStart_same) | (with_reducible apply regWriteBy_same)

/-! ## CmdBeam -/

theorem execDlRunStart_same (cc : Nat) {s : State}
    (hp : Sub (allow [.clk, .stats, .evt, .tx, .bm, .lnk, .air] [.bfBeamErr, .bfNullVec, .bfSat, .evtRpt]) m) (h : Same m s0 s) :
    OutSame m s0 (execDlRunStart cc s) := by
  unfold execDlRunStart
  repeat' first
    | (with_reducible assumption) | (with_reducible refine Sub.trans ?_ hp; decide) | (with_reducible apply outSame_next)
    | (with_reducible apply toBoundary_same) | (with_reducible apply dlRun_same) | (with_reducible apply outSame_ite)
    | (simp only [same_mk_iff]) | split

theorem execErgDeclared_same (p : Nat) {s : State}
    (hp : Sub (allow [.evt, .bm, .lnk] [.evtRpt]) m) (h : Same m s0 s) :
    OutSame m s0 (execErgDeclared p s) := by
  unfold execErgDeclared
  repeat' first
    | (with_reducible assumption) | (with_reducible exact Free.rfl) | (with_reducible refine Free.bit hp ?_; decide)
    | (with_reducible refine Sub.trans ?_ hp; decide) | (with_reducible apply outSame_next) | (with_reducible apply arrayMargin_same)
    | (with_reducible apply raise_same) | (with_reducible apply outSame_ite)
    | (with_reducible apply same_parts)
    | (simp only [same_mk_iff])

theorem execErgPathOff_same (p : Nat) {s : State}
    (hp : Sub (allowAny [.clk, .objs, .objGen, .tl, .fe, .cvt, .rx, .bm, .cal, .marks, .air]) m) (h : Same m s0 s) :
    OutSame m s0 (execErgPathOff p s) := by
  unfold execErgPathOff
  repeat' first
    | (with_reducible assumption) | (with_reducible exact Free.rfl) | (with_reducible refine Free.bit hp ?_; decide)
    | (with_reducible refine Sub.trans ?_ hp; decide) | (with_reducible apply outSame_next) | (with_reducible apply reachElapsed_same)
    | (with_reducible apply reachCount_same) | (with_reducible apply fgPathOff_same) | (with_reducible apply pathOff_same)
    | (with_reducible apply outSame_ite) | (with_reducible apply same_ite)
    | (with_reducible apply same_parts)
    | (simp only [same_mk_iff])

theorem execErgPathRestored_same (p : Nat) {s : State}
    (hp : Sub (allow [.clk, .evt, .tl, .fe, .cvt, .rx, .tx, .bm, .dpds, .lnk, .marks, .air] [.evtRpt]) m) (h : Same m s0 s) :
    OutSame m s0 (execErgPathRestored p s) := by
  unfold execErgPathRestored
  repeat' first
    | (with_reducible assumption) | (with_reducible exact Free.rfl) | (with_reducible refine Free.bit hp ?_; decide)
    | (with_reducible refine Sub.trans ?_ hp; decide) | (with_reducible apply outSame_next) | (with_reducible apply reachElapsed_same)
    | (with_reducible apply reachCount_same) | (with_reducible apply dpdReturns_same) | (with_reducible apply State_setFe_same)
    | (with_reducible apply arrayMargin_same) | (with_reducible apply raise_same) | (with_reducible apply enterPathState_same)
    | (with_reducible apply outSame_ite) | (with_reducible apply same_ite)
    | (with_reducible apply same_parts)
    | (simp only [same_mk_iff])

theorem execErgResynthDone_same {s : State}
    (hp : Sub (allow [.clk, .evt, .bm, .mem, .air] [.evtRpt]) m) (h : Same m s0 s) :
    OutSame m s0 (execErgResynthDone s) := by
  unfold execErgResynthDone
  repeat' first
    | (with_reducible assumption) | (with_reducible refine Sub.trans ?_ hp; decide) | (with_reducible apply outSame_next)
    | (with_reducible apply resynthDone_same) | (with_reducible apply reachElapsed_same) | (with_reducible apply outSame_ite)

theorem execErgResynthStart_same {s : State}
    (hp : Sub (allow [.freeCtr, .evt, .bm, .ge] [.evtRpt]) m) (h : Same m s0 s) :
    OutSame m s0 (execErgResynthStart s) := by
  unfold execErgResynthStart
  repeat' first
    | (with_reducible assumption) | (with_reducible exact Free.rfl) | (with_reducible refine Free.bit hp ?_; decide)
    | (with_reducible refine Sub.trans ?_ hp; decide) | (with_reducible apply outSame_next) | (with_reducible apply ergPost_same)
    | (with_reducible apply outSame_ite)
    | (with_reducible apply same_parts)
    | (simp only [same_mk_iff])

theorem execHealClear_same (tag : Nat) (request : Bool) (value : Nat) {s : State}
    (hp : Sub (allow [.evt, .bm] [.evtRpt]) m) (h : Same m s0 s) :
    OutSame m s0 (execHealClear tag request value s) := by
  unfold execHealClear
  repeat' first
    | (with_reducible assumption) | (with_reducible refine Sub.trans ?_ hp; decide) | (with_reducible apply outSame_next)
    | (with_reducible apply healClear_same) | (with_reducible apply firewall_same) | (with_reducible apply outSame_ite)
    | (with_reducible apply same_ite)

theorem execHealDeclare_same (tag : Nat) (request : Bool) (value : Nat) {s : State}
    (hp : Sub (allow [.evt, .fe, .bm] [.evtRpt]) m) (h : Same m s0 s) :
    OutSame m s0 (execHealDeclare tag request value s) := by
  unfold execHealDeclare
  repeat' first
    | (with_reducible assumption) | (with_reducible refine Sub.trans ?_ hp; decide) | (with_reducible apply outSame_next)
    | (with_reducible apply failPath_same) | (with_reducible apply firewall_same) | (with_reducible apply outSame_ite)
    | (with_reducible apply same_ite)

theorem execPrachCombine_same (j : Nat) {s : State}
    (hp : Sub (allow [.clk, .stats, .evt, .lnk, .air] [.bfBeamErr, .bfNullVec, .bfSat, .evtRpt]) m) (h : Same m s0 s) :
    OutSame m s0 (execPrachCombine j s) := by
  unfold execPrachCombine
  repeat' first
    | (with_reducible assumption) | (with_reducible apply outSame_next) | (with_reducible apply prachCombine_same)
    | (with_reducible apply outSame_ite)

theorem execTileFail_same (t : Nat) {s : State}
    (hp : Sub (allow [.subs, .evt, .adm, .tx, .bm, .lnk, .svc, .nv] [.evtRpt]) m) (h : Same m s0 s) :
    OutSame m s0 (execTileFail t s) := by
  unfold execTileFail
  repeat' first
    | (with_reducible assumption) | (with_reducible apply outSame_next) | (with_reducible apply tileFail_same)
    | (with_reducible apply outSame_ite)

theorem execTileSpareTakeover_same {s : State}
    (hp : Sub (allow [.clk, .bm, .air] []) m) (h : Same m s0 s) :
    OutSame m s0 (execTileSpareTakeover s) := by
  unfold execTileSpareTakeover
  repeat' first
    | (with_reducible assumption) | (with_reducible exact Free.rfl) | (with_reducible refine Free.bit hp ?_; decide)
    | (with_reducible refine Sub.trans ?_ hp; decide) | (with_reducible apply outSame_next) | (with_reducible apply reachElapsed_same)
    | (with_reducible apply same_parts)
    | (simp only [same_mk_iff]) | split

theorem execTileStart_same (n : Nat) {s : State}
    (hp : Sub (allow [.clk, .evt, .tl, .bm, .air] [.evtRpt, .tlEvtDrop]) m) (h : Same m s0 s) :
    OutSame m s0 (execTileStart n s) := by
  unfold execTileStart
  repeat' first
    | (with_reducible assumption) | (with_reducible exact Free.rfl) | (with_reducible refine Free.bit hp ?_; decide)
    | (with_reducible refine Sub.trans ?_ hp; decide) | (intro _) | (with_reducible apply outSame_next)
    | (with_reducible apply fireEvent_same)
    | (with_reducible apply same_parts)
    | (simp only [same_mk_iff]) | split

theorem execUlRunStart_same (cc : Nat) {s : State}
    (hp : Sub (allow [.clk, .stats, .evt, .rx, .bm, .lnk, .air] [.bfBeamErr, .bfNullVec, .bfSat, .evtRpt]) m) (h : Same m s0 s) :
    OutSame m s0 (execUlRunStart cc s) := by
  unfold execUlRunStart
  repeat' first
    | (with_reducible assumption) | (with_reducible refine Sub.trans ?_ hp; decide) | (with_reducible apply outSame_next)
    | (with_reducible apply reachElapsed_same) | (with_reducible apply dropRe_same) | (with_reducible apply ulRun_same)
    | (with_reducible apply outSame_ite) | (simp only [same_mk_iff]) | split

theorem execWeightBlock_same (role : Role) (block : List Byte) {s : State}
    (hp : Sub (allow [.evt, .bm] [.bfWrej, .evtRpt]) m) (h : Same m s0 s) :
    OutSame m s0 (execWeightBlock role block s) := by
  unfold execWeightBlock
  repeat' first | (with_reducible assumption) | (with_reducible apply outSame_next) | (with_reducible apply weightBlock_same) | split

theorem execWeightHandover_same (n : Nat) {s : State}
    (hp : Sub (allow [.clk, .evt, .tl, .bm, .air] [.evtRpt, .tlEvtDrop]) m) (h : Same m s0 s) :
    OutSame m s0 (execWeightHandover n s) := by
  unfold execWeightHandover
  repeat' first
    | (with_reducible assumption) | (with_reducible refine Sub.trans ?_ hp; decide) | (intro _) | (with_reducible apply outSame_next)
    | (with_reducible apply fireEvent_same) | (with_reducible apply State_setWset_same)

theorem execWeightVectorLand_same (sameCycle : Bool) {s : State}
    (hp : Sub (allow [.evt, .bm, .mem] [.bfCcColl, .bfCcSplit, .evtRpt]) m) (h : Same m s0 s) :
    OutSame m s0 (execWeightVectorLand sameCycle s) := by
  unfold execWeightVectorLand
  repeat' first
    | (with_reducible assumption) | (with_reducible exact Free.rfl) | (with_reducible refine Free.bit hp ?_; decide)
    | (with_reducible apply outSame_next) | (with_reducible apply landVector_same)
    | (with_reducible apply same_parts)
    | (simp only [same_mk_iff]) | split

/-! ## CmdSecurity -/

theorem answer_same {x : Nat × State} (hp : Sub (allow [.out] []) m) (h : Same m s0 x.2) : Same m s0 (answer x) := emit_same _ (Sub.trans
        (by decide) hp) h

theorem debugD2_same {s : State} (tag : Nat) {f : State → State} (ha : Same m s0 (f s)) (hp : Sub (allow [.evt] [.dbgFails, .evtRpt]) m) (h
        : Same m s0 s) :
    Same m s0 (debugD2 s tag f) := by
  unfold debugD2
  repeat' first | (with_reducible assumption) | (with_reducible apply dbgRefuse_same) | split

theorem execAttestation_same (nonce : List Byte) {s : State}
    (hp : Sub (allow [.freeCtr, .out, .sec] []) m) (h : Same m s0 s) :
    OutSame m s0 (execAttestation nonce s) := by
  unfold execAttestation
  repeat' first
    | (with_reducible assumption) | (with_reducible refine Sub.trans ?_ hp; decide) | (with_reducible apply outSame_next)
    | (with_reducible apply attest_same) | (with_reducible apply emit_same) | (with_reducible apply outSame_ite)

theorem tapDo_same {s : State} (ok : Bool) {f : State → State} (ha : Same m s0 (f s)) (hp : Sub (allow [.stats, .evt, .out, .sec, .hk]
        [.bdacDrnStat, .dbgFails, .evtRpt]) m) (h : Same m s0 s) :
    Same m s0 (tapDo s ok f) := by
  unfold tapDo
  repeat' first
    | (with_reducible assumption) | (with_reducible refine Sub.trans ?_ hp; decide) | (with_reducible apply stat_same)
    | (with_reducible apply tapBypass_same) | split

theorem execBypass_same (ir : Nat) {s : State}
    (hp : Sub (allow [.stats, .evt, .out, .sec, .hk] [.bdacDrnStat, .dbgFails, .evtRpt]) m) (h : Same m s0 s) :
    OutSame m s0 (execBypass ir s) := by
  unfold execBypass
  repeat' first
    | (with_reducible assumption) | (with_reducible refine Sub.trans ?_ hp; decide) | (with_reducible apply outSame_next)
    | (with_reducible apply tapDo_same) | (with_reducible apply emit_same) | (with_reducible apply tapSelect_same) | (simp only [id_eq])
    | (with_reducible apply outSame_ite)

theorem execChallengeRead_same (role : Role) {s : State}
    (hp : Sub (allow [.freeCtr, .out, .sec] [.dbgChalId]) m) (h : Same m s0 s) :
    OutSame m s0 (execChallengeRead role s) := by
  unfold execChallengeRead
  repeat' first
    | (with_reducible assumption) | (with_reducible refine Sub.trans ?_ hp; decide) | (with_reducible apply outSame_next)
    | (with_reducible apply emit_same) | (with_reducible apply challengeRead_same) | (simp only [same_mk_iff]) | split

theorem execCheckDiongTag_same (x0 : Master) (t : Transport) (len : Nat) {s : State}
    (hp : Sub (allow [.evt, .out] [.evtRpt, .secMboxBuf, .secMboxStat]) m) (h : Same m s0 s) :
    OutSame m s0 (execCheckDiongTag x0 t len s) := by
  unfold execCheckDiongTag
  repeat' first
    | (with_reducible assumption) | (with_reducible refine Sub.trans ?_ hp; decide) | (intro _) | (with_reducible apply outSame_next)
    | (with_reducible apply mbox_same) | (with_reducible apply mboxCheckTag_same)

theorem execClamp_same {s : State}
    (hp : Sub (allow [.stats, .evt, .out, .sec, .hk] [.bdacDrnStat, .dbgFails, .evtRpt]) m) (h : Same m s0 s) :
    OutSame m s0 (execClamp s) := by
  unfold execClamp
  repeat' first
    | (with_reducible assumption) | (with_reducible refine Sub.trans ?_ hp; decide) | (with_reducible apply outSame_next)
    | (with_reducible apply tapDo_same) | (with_reducible apply emit_same) | (with_reducible apply tapSelect_same)

theorem execCoreHalt_same (tag : Nat) (value : Nat) {s : State}
    (hp : Sub (allow [.ctl, .evt, .marks] [.dbgCoreCtrl, .dbgFails, .evtRpt]) m) (h : Same m s0 s) :
    OutSame m s0 (execCoreHalt tag value s) := by
  unfold execCoreHalt
  repeat' first
    | (with_reducible assumption) | (with_reducible refine Sub.trans ?_ hp; decide) | (with_reducible apply outSame_next)
    | (with_reducible apply debugD2_same) | (with_reducible apply coreCtrl_same)

theorem execCoreStep_same (tag : Nat) (value : Nat) {s : State}
    (hp : Sub (allow [.ctl, .evt, .marks] [.dbgCoreCtrl, .dbgFails, .evtRpt]) m) (h : Same m s0 s) :
    OutSame m s0 (execCoreStep tag value s) := by
  unfold execCoreStep
  repeat' first
    | (with_reducible assumption) | (with_reducible refine Sub.trans ?_ hp; decide) | (with_reducible apply outSame_next)
    | (with_reducible apply debugD2_same) | (with_reducible apply coreCtrl_same)

theorem execDbgChal_same {s : State}
    (hp : Sub (allow [.freeCtr, .stats, .evt, .out, .sec, .hk] [.bdacDrnStat, .dbgChalId, .dbgFails, .evtRpt]) m) (h : Same m s0 s) :
    OutSame m s0 (execDbgChal s) := by
  unfold execDbgChal
  repeat' first
    | (with_reducible assumption) | (with_reducible refine Sub.trans ?_ hp; decide) | (with_reducible apply outSame_next)
    | (with_reducible apply tapDo_same) | (with_reducible apply challengeRead_same) | (with_reducible apply tapSelect_same)
    | (with_reducible apply emit_same)

theorem execDbgClose_same (tag : Nat) {s : State}
    (hp : Sub (allow [.ctl, .evt, .sec, .ge, .hk, .marks] [.bdacDrnStat, .dbgCoreCtrl, .dbgEngHalt, .dbgFails, .dbgStat, .evtRpt,
        .memBankCtrl]) m) (h : Same m s0 s) :
    OutSame m s0 (execDbgClose tag s) := by
  unfold execDbgClose
  repeat' first
    | (with_reducible assumption) | (with_reducible refine Sub.trans ?_ hp; decide) | (with_reducible apply outSame_next)
    | (with_reducible apply endDebug_same) | (with_reducible apply dbgRefuse_same) | (with_reducible apply same_ite)

theorem execDbgPort_same (addr : Nat) (op : Nat) (wide : Bool) (data : Nat) {s : State}
    (hp : Sub (allowAny [.clk, .freeCtr, .regsStaged, .objs, .stats, .fresh, .addrFaultRec, .ctl, .evt, .out, .tl, .adm, .diong, .sec, .lo,
        .fe, .cvt, .rx, .bm, .dpds, .disp, .ge, .lnk, .mem, .pwr, .hk, .svc, .boot, .nv, .marks, .air]) m) (h : Same m s0 s) :
    OutSame m s0 (execDbgPort addr op wide data s) := by
  unfold execDbgPort
  repeat' first
    | (with_reducible assumption) | (with_reducible exact Free.rfl) | (with_reducible refine Free.bit hp ?_; decide)
    | (with_reducible refine Sub.trans ?_ hp; decide) | (with_reducible apply outSame_next) | (with_reducible apply tapDo_same)
    | (with_reducible apply emit_same) | (with_reducible apply tapSelect_same) | (with_reducible apply debugAccess_same)
    | (with_reducible apply same_ite)
    | (with_reducible apply same_parts)
    | (simp only [same_mk_iff])

theorem execDbgResp_same (response : List Byte) {s : State}
    (hp : Sub (allow [.stats, .evt, .out, .sec, .hk] [.bdacDrnStat, .dbgFails, .dbgStat, .evtRpt]) m) (h : Same m s0 s) :
    OutSame m s0 (execDbgResp response s) := by
  unfold execDbgResp
  repeat' first
    | (with_reducible assumption) | (with_reducible refine Sub.trans ?_ hp; decide) | (with_reducible apply outSame_next)
    | (with_reducible apply tapDo_same) | (with_reducible apply debugResponse_same) | (with_reducible apply tapSelect_same)

theorem execDbgStatus_same {s : State}
    (hp : Sub (allow [.stats, .evt, .out, .sec, .hk] [.bdacDrnStat, .dbgFails, .evtRpt]) m) (h : Same m s0 s) :
    OutSame m s0 (execDbgStatus s) := by
  unfold execDbgStatus
  repeat' first
    | (with_reducible assumption) | (with_reducible refine Sub.trans ?_ hp; decide) | (with_reducible apply outSame_next)
    | (with_reducible apply tapDo_same) | (with_reducible apply emit_same) | (with_reducible apply tapSelect_same)

theorem execDebugChallengeExpiry_same {s : State}
    (hp : Sub (allow [.clk, .sec, .air] []) m) (h : Same m s0 s) :
    OutSame m s0 (execDebugChallengeExpiry s) := by
  unfold execDebugChallengeExpiry
  repeat' first
    | (with_reducible assumption) | (with_reducible exact Free.rfl) | (with_reducible refine Free.bit hp ?_; decide)
    | (with_reducible refine Sub.trans ?_ hp; decide) | (with_reducible apply outSame_next) | (with_reducible apply reachElapsed_same)
    | (with_reducible apply same_parts)
    | (simp only [same_mk_iff]) | split

theorem execDebugLockoutEnd_same {s : State}
    (hp : Sub (allow [.clk, .sec, .air] []) m) (h : Same m s0 s) :
    OutSame m s0 (execDebugLockoutEnd s) := by
  unfold execDebugLockoutEnd
  repeat' first
    | (with_reducible assumption) | (with_reducible exact Free.rfl) | (with_reducible refine Free.bit hp ?_; decide)
    | (with_reducible refine Sub.trans ?_ hp; decide) | (with_reducible apply outSame_next) | (with_reducible apply reachElapsed_same)
    | (with_reducible apply same_parts)
    | (simp only [same_mk_iff]) | split

theorem execDebugResponse_same (t : Transport) (session : Nat) (response : List Byte) {s : State}
    (hp : Sub (allow [.stats, .evt, .out, .sec] [.dbgStat, .evtRpt]) m) (h : Same m s0 s) :
    OutSame m s0 (execDebugResponse t session response s) := by
  unfold execDebugResponse
  repeat' first
    | (with_reducible assumption) | (with_reducible refine Sub.trans ?_ hp; decide) | (with_reducible apply outSame_next)
    | (with_reducible apply emit_same) | (with_reducible apply answer_same) | (with_reducible apply debugResponse_same)
    | (with_reducible apply outSame_ite) | split

theorem execDebugSessionExpiry_same {s : State}
    (hp : Sub (allow [.clk, .ctl, .evt, .sec, .ge, .hk, .marks, .air] [.bdacDrnStat, .dbgCoreCtrl, .dbgEngHalt, .dbgStat, .evtRpt,
        .memBankCtrl]) m) (h : Same m s0 s) :
    OutSame m s0 (execDebugSessionExpiry s) := by
  unfold execDebugSessionExpiry
  repeat' first
    | (with_reducible assumption) | (with_reducible refine Sub.trans ?_ hp; decide) | (with_reducible apply outSame_next)
    | (with_reducible apply endDebug_same) | (with_reducible apply reachElapsed_same) | split

theorem execDebugTunnel_same (t : Transport) (session : Nat) (list : List Byte) {s : State}
    (hp : Sub (allowAny [.clk, .freeCtr, .regsStaged, .objs, .stats, .fresh, .addrFaultRec, .ctl, .evt, .out, .tl, .adm, .diong, .sec, .lo,
        .fe, .cvt, .rx, .bm, .dpds, .disp, .ge, .lnk, .mem, .pwr, .hk, .svc, .boot, .nv, .marks, .air]) m) (h : Same m s0 s) :
    OutSame m s0 (execDebugTunnel t session list s) := by
  unfold execDebugTunnel
  repeat' first
    | (with_reducible assumption) | (with_reducible refine Sub.trans ?_ hp; decide) | (with_reducible apply outSame_next)
    | (with_reducible apply tunnelList_same) | (with_reducible apply emit_same) | (with_reducible apply outSame_ite)

theorem execEngineHalt_same (tag : Nat) (value : Nat) {s : State}
    (hp : Sub (allow [.stats, .evt, .disp, .ge] [.dbgEngHalt, .dbgFails, .evtRpt, .geDoorbell]) m) (h : Same m s0 s) :
    OutSame m s0 (execEngineHalt tag value s) := by
  unfold execEngineHalt
  repeat' first
    | (with_reducible assumption) | (with_reducible refine Sub.trans ?_ hp; decide) | (with_reducible apply outSame_next)
    | (with_reducible apply debugD2_same) | (with_reducible apply engineHalts_same)

theorem execExtest_same (cells : Nat) (capture : Nat) {s : State}
    (hp : Sub (allow [.stats, .evt, .out, .sec, .hk] [.bdacDrnStat, .dbgFails, .evtRpt]) m) (h : Same m s0 s) :
    OutSame m s0 (execExtest cells capture s) := by
  unfold execExtest
  repeat' first
    | (with_reducible assumption) | (with_reducible exact Free.rfl) | (with_reducible refine Free.bit hp ?_; decide)
    | (with_reducible refine Sub.trans ?_ hp; decide) | (with_reducible apply outSame_next) | (with_reducible apply tapDo_same)
    | (with_reducible apply tapSelect_same) | (with_reducible apply emit_same)
    | (with_reducible apply same_parts)
    | (simp only [same_mk_iff])

theorem execHighz_same {s : State}
    (hp : Sub (allow [.stats, .evt, .out, .sec, .hk] [.bdacDrnStat, .dbgFails, .evtRpt]) m) (h : Same m s0 s) :
    OutSame m s0 (execHighz s) := by
  unfold execHighz
  repeat' first
    | (with_reducible assumption) | (with_reducible refine Sub.trans ?_ hp; decide) | (with_reducible apply outSame_next)
    | (with_reducible apply tapDo_same) | (with_reducible apply emit_same) | (with_reducible apply tapSelect_same)

theorem execIdcode_same {s : State}
    (hp : Sub (allow [.stats, .evt, .out, .sec, .hk] [.bdacDrnStat, .dbgFails, .evtRpt]) m) (h : Same m s0 s) :
    OutSame m s0 (execIdcode s) := by
  unfold execIdcode
  repeat' first
    | (with_reducible assumption) | (with_reducible refine Sub.trans ?_ hp; decide) | (with_reducible apply outSame_next)
    | (with_reducible apply tapDo_same) | (with_reducible apply emit_same) | (with_reducible apply tapSelect_same)

theorem notTenant_same (role : Role) {s : State} {f : Nat × State} (hf : Same m s0 f.2) (h : Same m s0 s) :
    Same m s0 (notTenant role s f).2 := by
  unfold notTenant
  split
  · exact h
  · exact hf

theorem execKeyEnvelope_same (role : Role) (k : Nat) (envelope : List Byte) {s : State}
    (hp : Sub (allow [.ctl, .evt, .out, .diong, .sec, .ge, .hk, .nv, .marks] [.bdacDrnStat, .dbgCoreCtrl, .dbgEngHalt, .dbgStat, .evtRpt,
        .memBankCtrl, .secKeystat]) m) (h : Same m s0 s) :
    OutSame m s0 (execKeyEnvelope role k envelope s) := by
  unfold execKeyEnvelope
  repeat' first
    | (with_reducible assumption) | (with_reducible refine Sub.trans ?_ hp; decide) | (with_reducible apply outSame_next)
    | (with_reducible apply answer_same) | (with_reducible apply notTenant_same) | (with_reducible apply keyEnvelope_same)

theorem execLifecycleToken_same (x0 : Master) (len : Nat) {s : State}
    (hp : Sub (allowAny [.clk, .freeCtr, .regsStaged, .objs, .objsStaged, .objGen, .stats, .islands, .subs, .fresh, .xing, .lost,
        .addrFaultRec, .ctl, .evt, .out, .tl, .adm, .diong, .straps, .sec, .lo, .fe, .cvt, .rx, .tx, .bm, .dpds, .disp, .ge, .cal, .lnk,
        .mem, .pwr, .hk, .svc, .boot, .nv, .marks, .air]) m) (h : Same m s0 s) :
    OutSame m s0 (execLifecycleToken x0 len s) := by
  unfold execLifecycleToken
  repeat' first
    | (with_reducible assumption) | (with_reducible refine Sub.trans ?_ hp; decide) | (intro _) | (with_reducible apply outSame_next)
    | (with_reducible apply tokenStart_same) | (with_reducible apply mbox_same) | (with_reducible apply mboxToken_same)

theorem execMakeDiongTag_same (x0 : Master) (t : Transport) (len : Nat) {s : State}
    (hp : Sub (allow [.evt, .out] [.evtRpt, .secMboxBuf, .secMboxStat]) m) (h : Same m s0 s) :
    OutSame m s0 (execMakeDiongTag x0 t len s) := by
  unfold execMakeDiongTag
  repeat' first
    | (with_reducible assumption) | (with_reducible refine Sub.trans ?_ hp; decide) | (intro _) | (with_reducible apply outSame_next)
    | (with_reducible apply mbox_same) | (with_reducible apply mboxMakeTag_same)

theorem execMboxAttestation_same (x0 : Master) (len : Nat) {s : State}
    (hp : Sub (allow [.freeCtr, .evt, .out, .sec] [.evtRpt, .secMboxBuf, .secMboxStat]) m) (h : Same m s0 s) :
    OutSame m s0 (execMboxAttestation x0 len s) := by
  unfold execMboxAttestation
  repeat' first
    | (with_reducible assumption) | (with_reducible refine Sub.trans ?_ hp; decide) | (intro _) | (with_reducible apply outSame_next)
    | (with_reducible apply mbox_same) | (with_reducible apply mboxAttest_same)

theorem execMboxKeyEnvelope_same (x0 : Master) (role : Role) (len : Nat) {s : State}
    (hp : Sub (allow [.ctl, .evt, .out, .diong, .sec, .ge, .hk, .nv, .marks] [.bdacDrnStat, .dbgCoreCtrl, .dbgEngHalt, .dbgStat, .evtRpt,
        .memBankCtrl, .secKeystat, .secMboxBuf, .secMboxStat]) m) (h : Same m s0 s) :
    OutSame m s0 (execMboxKeyEnvelope x0 role len s) := by
  unfold execMboxKeyEnvelope
  repeat' first
    | (with_reducible assumption) | (with_reducible refine Sub.trans ?_ hp; decide) | (intro _) | (with_reducible apply outSame_next)
    | (with_reducible apply mbox_same) | (with_reducible apply mboxKey_same)

theorem execMboxRootRecord_same (x0 : Master) (len : Nat) {s : State}
    (hp : Sub (allow [.evt, .out, .nv] [.evtRpt, .secMboxBuf, .secMboxStat, .secRootstat]) m) (h : Same m s0 s) :
    OutSame m s0 (execMboxRootRecord x0 len s) := by
  unfold execMboxRootRecord
  repeat' first
    | (with_reducible assumption) | (with_reducible refine Sub.trans ?_ hp; decide) | (intro _) | (with_reducible apply outSame_next)
    | (with_reducible apply mbox_same) | (with_reducible apply mboxRoot_same)

theorem execOldCakTimeout_same (n : Nat) (down : Bool) {s : State}
    (hp : Sub (allow [.clk, .evt, .sec, .lnk, .air] [.evtRpt, .lnkPortStat]) m) (h : Same m s0 s) :
    OutSame m s0 (execOldCakTimeout n down s) := by
  unfold execOldCakTimeout
  repeat' first
    | (with_reducible assumption) | (with_reducible exact Free.rfl) | (with_reducible refine Free.bit hp ?_; decide)
    | (with_reducible refine Sub.trans ?_ hp; decide) | (with_reducible apply outSame_next) | (with_reducible apply reachElapsed_same)
    | (with_reducible apply portState_same) | (with_reducible apply outSame_ite) | (with_reducible apply same_ite)
    | (with_reducible apply same_parts)
    | (simp only [same_mk_iff])

theorem execRaiseMinimums_same (role : Role) {s : State}
    (hp : Sub (allow [.out, .nv] []) m) (h : Same m s0 s) :
    OutSame m s0 (execRaiseMinimums role s) := by
  unfold execRaiseMinimums
  repeat' first
    | (with_reducible assumption) | (with_reducible refine Sub.trans ?_ hp; decide) | (with_reducible apply outSame_next)
    | (with_reducible apply emit_same) | (with_reducible apply raiseMinimums_same) | (with_reducible apply outSame_ite)

theorem execRandomBytes_same (x0 : Master) (len : Nat) {s : State}
    (hp : Sub (allow [.freeCtr, .evt, .out] [.evtRpt, .secMboxBuf, .secMboxStat]) m) (h : Same m s0 s) :
    OutSame m s0 (execRandomBytes x0 len s) := by
  unfold execRandomBytes
  repeat' first
    | (with_reducible assumption) | (with_reducible refine Sub.trans ?_ hp; decide) | (intro _) | (with_reducible apply outSame_next)
    | (with_reducible apply mbox_same) | (with_reducible apply mboxRandom_same)

theorem execRootRecord_same (role : Role) (record : List Byte) {s : State}
    (hp : Sub (allow [.evt, .out, .nv] [.evtRpt, .secRootstat]) m) (h : Same m s0 s) :
    OutSame m s0 (execRootRecord role record s) := by
  unfold execRootRecord
  repeat' first
    | (with_reducible assumption) | (with_reducible refine Sub.trans ?_ hp; decide) | (with_reducible apply outSame_next)
    | (with_reducible apply answer_same) | (with_reducible apply rootRecord_same) | split

theorem execSamplePreload_same (cells : Nat) (capture : Nat) {s : State}
    (hp : Sub (allow [.stats, .evt, .out, .sec, .hk] [.bdacDrnStat, .dbgFails, .evtRpt]) m) (h : Same m s0 s) :
    OutSame m s0 (execSamplePreload cells capture s) := by
  unfold execSamplePreload
  repeat' first
    | (with_reducible assumption) | (with_reducible exact Free.rfl) | (with_reducible refine Free.bit hp ?_; decide)
    | (with_reducible refine Sub.trans ?_ hp; decide) | (with_reducible apply outSame_next) | (with_reducible apply tapDo_same)
    | (with_reducible apply tapSelect_same) | (with_reducible apply emit_same)
    | (with_reducible apply same_parts)
    | (simp only [same_mk_iff])

theorem execTapReset_same {s : State}
    (hp : Sub (allow [.stats, .evt, .out, .sec, .hk] [.bdacDrnStat, .dbgFails, .evtRpt]) m) (h : Same m s0 s) :
    OutSame m s0 (execTapReset s) := by
  unfold execTapReset
  repeat' first
    | (with_reducible assumption) | (with_reducible refine Sub.trans ?_ hp; decide) | (with_reducible apply outSame_next)
    | (with_reducible apply tapDo_same) | (with_reducible apply tapSelect_same)

theorem execTransitionToken_same (role : Role) (token : List Byte) {s : State}
    (hp : Sub (allowAny [.clk, .freeCtr, .regsStaged, .objs, .objsStaged, .objGen, .stats, .islands, .subs, .fresh, .xing, .lost,
        .addrFaultRec, .ctl, .evt, .out, .tl, .adm, .diong, .straps, .sec, .lo, .fe, .cvt, .rx, .tx, .bm, .dpds, .disp, .ge, .cal, .lnk,
        .mem, .pwr, .hk, .svc, .boot, .nv, .marks, .air]) m) (h : Same m s0 s) :
    OutSame m s0 (execTransitionToken role token s) := by
  unfold execTransitionToken
  repeat' first
    | (with_reducible assumption) | (with_reducible refine Sub.trans ?_ hp; decide) | (with_reducible apply outSame_next)
    | (with_reducible apply tokenStart_same) | (with_reducible apply answer_same) | (with_reducible apply notTenant_same)
    | (with_reducible apply lcTransition_same) | (with_reducible apply same_ite)

theorem execVerifyImage_same (x0 : Master) (len : Nat) {s : State}
    (hp : Sub (allow [.evt, .out] [.evtRpt, .secMboxBuf, .secMboxStat]) m) (h : Same m s0 s) :
    OutSame m s0 (execVerifyImage x0 len s) := by
  unfold execVerifyImage
  repeat' first
    | (with_reducible assumption) | (with_reducible refine Sub.trans ?_ hp; decide) | (intro _) | (with_reducible apply outSame_next)
    | (with_reducible apply mbox_same) | (with_reducible apply mboxVerify_same)

/-! ## CmdBoot -/

theorem execBootStep_same (x : BootIn) {s : State}
    (hp : Sub (allowAny [.clk, .freeCtr, .regsStaged, .objs, .objsStaged, .objGen, .stats, .islands, .subs, .fresh, .ctl, .evt, .tl, .adm,
        .diong, .sec, .lo, .fe, .cvt, .rx, .tx, .bm, .dpds, .disp, .ge, .cal, .lnk, .mem, .pwr, .hk, .svc, .boot, .nv, .marks, .air]) m) (h
        : Same m s0 s) :
    OutSame m s0 (execBootStep x s) := by
  unfold execBootStep
  repeat' first | (with_reducible assumption) | (with_reducible apply outSame_next) | (with_reducible apply bootStep_same)

theorem execColdStart_same (pin : Nat) {s : State}
    (hp : Sub (allowAny [.clk, .freeCtr, .regsStaged, .objs, .objsStaged, .objGen, .stats, .islands, .subs, .fresh, .xing, .lost,
        .addrFaultRec, .ctl, .evt, .out, .tl, .adm, .diong, .straps, .sec, .lo, .fe, .cvt, .rx, .tx, .bm, .dpds, .disp, .ge, .cal, .lnk,
        .mem, .pwr, .hk, .svc, .boot, .nv, .marks, .air]) m) (h : Same m s0 s) :
    OutSame m s0 (execColdStart pin s) := by
  unfold execColdStart
  repeat' first
    | (with_reducible assumption) | (with_reducible exact Free.rfl) | (with_reducible refine Free.bit hp ?_; decide)
    | (with_reducible apply outSame_next) | (with_reducible apply coldStart_same) | (with_reducible apply outSame_ite)
    | (with_reducible apply same_ite)
    | (with_reducible apply same_parts)
    | (simp only [same_mk_iff])

theorem execLoaderImage_same (sub : Nat) (image : List Byte) {s : State}
    (hp : Sub (allow [.out, .boot] [.pwrBoot]) m) (h : Same m s0 s) :
    OutSame m s0 (execLoaderImage sub image s) := by
  unfold execLoaderImage
  repeat' first
    | (with_reducible assumption) | (with_reducible refine Sub.trans ?_ hp; decide) | (with_reducible apply outSame_next)
    | (with_reducible apply emit_same) | (with_reducible apply loaderImage_same) | (with_reducible apply outSame_ite)

theorem execOsc32Qualified_same {s : State}
    (hp : Sub (allow [.boot] []) m) (h : Same m s0 s) :
    OutSame m s0 (execOsc32Qualified s) := by
  unfold execOsc32Qualified
  repeat' first
    | (with_reducible assumption) | (with_reducible exact Free.rfl) | (with_reducible refine Free.bit hp ?_; decide)
    | (with_reducible apply outSame_next)
    | (with_reducible apply same_parts)
    | (simp only [same_mk_iff]) | split

theorem execPwrBootGo_same (tag : Nat) (value : Nat) {s : State}
    (hp : Sub (allow [.evt, .boot] [.evtRpt, .pwrBoot]) m) (h : Same m s0 s) :
    OutSame m s0 (execPwrBootGo tag value s) := by
  unfold execPwrBootGo
  repeat' first
    | (with_reducible assumption) | (with_reducible refine Sub.trans ?_ hp; decide) | (with_reducible apply outSame_next)
    | (with_reducible apply bootGo_same) | (with_reducible apply firewall_same) | (with_reducible apply same_ite)

theorem execRefclkQualified_same {s : State}
    (hp : Sub (allow [.ctl, .boot] [.pwrBoot]) m) (h : Same m s0 s) :
    OutSame m s0 (execRefclkQualified s) := by
  unfold execRefclkQualified
  repeat' first
    | (with_reducible assumption) | (with_reducible exact Free.rfl) | (with_reducible refine Free.bit hp ?_; decide)
    | (with_reducible refine Sub.trans ?_ hp; decide) | (with_reducible apply outSame_next) | (with_reducible apply leaveStep2_same)
    | (with_reducible apply setCode_same) | (with_reducible apply outSame_ite)
    | (with_reducible apply same_parts)
    | (simp only [same_mk_iff])

theorem execResetAssert_same (pin : Nat) (ns : Nat) {s : State}
    (hp : Sub (allowAny [.clk, .freeCtr, .regsStaged, .objs, .objsStaged, .objGen, .stats, .islands, .subs, .fresh, .xing, .lost,
        .addrFaultRec, .ctl, .evt, .out, .tl, .adm, .diong, .straps, .sec, .lo, .fe, .cvt, .rx, .tx, .bm, .dpds, .disp, .ge, .cal, .lnk,
        .mem, .pwr, .hk, .svc, .boot, .nv, .marks, .air]) m) (h : Same m s0 s) :
    OutSame m s0 (execResetAssert pin ns s) := by
  unfold execResetAssert
  repeat' first
    | (with_reducible assumption) | (with_reducible refine Sub.trans ?_ hp; decide) | (with_reducible apply outSame_next)
    | (with_reducible apply holdReset_same) | (with_reducible apply draw_same) | (with_reducible apply outSame_ite)
    | (with_reducible apply same_ite)

/-! ## CmdCalibration -/

theorem execBaseNoteSave_same (j : Nat) {s : State}
    (hp : Sub (allow [.clk, .cal, .nv, .air] []) m) (h : Same m s0 s) :
    OutSame m s0 (execBaseNoteSave j s) := by
  unfold execBaseNoteSave
  repeat' first
    | (with_reducible assumption) | (with_reducible exact Free.rfl) | (with_reducible refine Free.bit hp ?_; decide)
    | (with_reducible refine Sub.trans ?_ hp; decide) | (with_reducible apply outSame_next) | (with_reducible apply reachElapsed_same)
    | (with_reducible apply outSame_ite) | (with_reducible apply same_ite)
    | (with_reducible apply same_parts)
    | (simp only [same_mk_iff])

theorem execBaseReevaluation_same {s : State}
    (hp : Sub (allowAny [.objs, .objGen, .cal, .hk]) m) (h : Same m s0 s) :
    OutSame m s0 (execBaseReevaluation s) := by
  unfold execBaseReevaluation
  repeat' first
    | (with_reducible assumption) | (with_reducible exact Free.rfl) | (with_reducible refine Free.bit hp ?_; decide)
    | (with_reducible refine Sub.trans ?_ hp; decide) | (with_reducible apply outSame_next) | (with_reducible apply State_setPobj_same)
    | (with_reducible apply retarget_same) | (with_reducible refine same_foldl ?_ ?_; intro _ _ _)
    | (with_reducible apply same_parts)
    | (simp only [same_mk_iff])

theorem execCalHrxArm_same (tag : Nat) (value : Nat) {s : State}
    (hp : Sub (allow [.fresh, .evt, .out] [.calHrx, .calHrxStat, .evtRpt]) m) (h : Same m s0 s) :
    OutSame m s0 (execCalHrxArm tag value s) := by
  unfold execCalHrxArm
  repeat' first
    | (with_reducible assumption) | (with_reducible refine Sub.trans ?_ hp; decide) | (with_reducible apply outSame_next)
    | (with_reducible apply tagged_same) | (with_reducible apply hrxArm_same)

theorem execCalItemStale_same (p : Nat) (item : Nat) {s : State}
    (hp : Sub (allow [.clk, .evt, .cal, .air] [.evtRpt]) m) (h : Same m s0 s) :
    OutSame m s0 (execCalItemStale p item s) := by
  unfold execCalItemStale
  repeat' first
    | (with_reducible assumption) | (with_reducible refine Sub.trans ?_ hp; decide) | (with_reducible apply outSame_next)
    | (with_reducible apply setStaleBit_same) | (with_reducible apply reachElapsed_same) | (with_reducible apply outSame_ite)

theorem execCalRampStep_same {s : State}
    (hp : Sub (allow [.clk, .cal, .air] []) m) (h : Same m s0 s) :
    OutSame m s0 (execCalRampStep s) := by
  unfold execCalRampStep
  repeat' first
    | (with_reducible assumption) | (with_reducible refine Sub.trans ?_ hp; decide) | (with_reducible apply outSame_next)
    | (with_reducible apply toSymbol_same) | (with_reducible apply State_setCal_same) | (with_reducible apply same_ite)
    | (with_reducible refine same_foldl ?_ ?_; intro _ _ _)

theorem execCalWindow_same (n : Nat) {s : State}
    (hp : Sub (allow [.clk, .evt, .tl, .cal, .air] [.evtRpt, .tlEvtDrop]) m) (h : Same m s0 s) :
    OutSame m s0 (execCalWindow n s) := by
  unfold execCalWindow
  repeat' first
    | (with_reducible assumption) | (with_reducible refine Sub.trans ?_ hp; decide) | (intro _) | (with_reducible apply outSame_next)
    | (with_reducible apply fireEvent_same) | (with_reducible apply State_setTop_same) | (with_reducible apply same_ite)
    | (with_reducible refine same_foldl ?_ ?_; intro _ _ _)

theorem execForegroundRequest_same (who : Option Role) (path : Nat) (item : Nat) (flags : Nat) {s : State}
    (hp : Sub (allowAny [.objs, .objGen, .evt, .fe, .bm, .cal]) m) (h : Same m s0 s) :
    OutSame m s0 (execForegroundRequest who path item flags s) := by
  unfold execForegroundRequest
  repeat' first
    | (with_reducible assumption) | (with_reducible apply outSame_next) | (with_reducible apply fgRequest_same)
    | (with_reducible apply outSame_ite) | split

theorem execForegroundRunEnd_same (p : Nat) (pass : Bool) (results : List (Nat × CalMeas)) {s : State}
    (hp : Sub (allowAny [.clk, .objs, .objGen, .evt, .tl, .fe, .cvt, .rx, .tx, .bm, .cal, .lnk, .marks, .air]) m) (h : Same m s0 s) :
    OutSame m s0 (execForegroundRunEnd p pass results s) := by
  unfold execForegroundRunEnd
  repeat' first
    | (with_reducible assumption) | (with_reducible exact Free.rfl) | (with_reducible refine Free.bit hp ?_; decide)
    | (with_reducible refine Sub.trans ?_ hp; decide) | (with_reducible apply outSame_next) | (with_reducible apply lastRun_same)
    | (with_reducible apply reachElapsed_same) | (with_reducible apply fgApply_same) | (with_reducible apply fgEnd_same)
    | (with_reducible apply windowReturn_same) | (with_reducible apply heartLimit_same) | (with_reducible apply failPath_same)
    | (with_reducible apply raise_same) | (with_reducible apply outSame_ite) | (with_reducible apply same_ite)
    | (with_reducible apply same_parts)
    | (simp only [same_mk_iff]) | split

theorem execForegroundWindowTimeout_same (p : Nat) {s : State}
    (hp : Sub (allowAny [.clk, .objs, .objGen, .evt, .cal, .air]) m) (h : Same m s0 s) :
    OutSame m s0 (execForegroundWindowTimeout p s) := by
  unfold execForegroundWindowTimeout
  repeat' first
    | (with_reducible assumption) | (with_reducible refine Sub.trans ?_ hp; decide) | (with_reducible apply outSame_next)
    | (with_reducible apply fgEnd_same) | (with_reducible apply reachElapsed_same) | split

theorem execHeartInjection_same {s : State}
    (hp : Sub (allowAny [.clk, .objs, .objGen, .fresh, .fe, .cvt, .rx, .air]) m) (h : Same m s0 s) :
    OutSame m s0 (execHeartInjection s) := by
  unfold execHeartInjection
  repeat' first
    | (with_reducible assumption) | (with_reducible refine Sub.bit hp ?_; decide) | (with_reducible refine Sub.trans ?_ hp; decide)
    | (with_reducible apply outSame_next) | (with_reducible apply reachCount_same) | (with_reducible apply wr_same)
    | (with_reducible apply wf_same) | (with_reducible apply takeAgain_same) | (with_reducible apply passTicks_same)
    | (with_reducible apply unstepPaths_same) | (with_reducible apply stepPaths_same) | (with_reducible apply State_setObj_same)
    | (with_reducible apply outSame_ite) | (with_reducible apply same_ite) | (simp only [same_mk_iff]) | split

theorem trimZero_same {s : State} (p : Nat) (i : Nat)
    (hp : Sub (allow [.cal] []) m) (h : Same m s0 s) :
    Same m s0 (trimZero s p i) := by
  unfold trimZero
  repeat' first | (with_reducible assumption) | (with_reducible apply State_setTop_same) | (with_reducible apply retarget_same)

theorem heartApply_same {s : State} (item : Nat) (r : HeartRes)
    (hp : Sub (allowAny [.objs, .objGen, .evt, .fe, .bm, .cal]) m) (h : Same m s0 s) :
    Same m s0 (heartApply s item r) := by
  unfold heartApply
  repeat' first
    | (with_reducible assumption) | (with_reducible refine Sub.trans ?_ hp; decide) | (with_reducible apply retarget_same)
    | (with_reducible apply learn_same) | (with_reducible apply State_setCal_same) | (with_reducible apply State_setPobj_same)
    | (with_reducible apply refreshed_same) | (with_reducible apply State_setObj_same) | (with_reducible apply trimZero_same)
    | (with_reducible apply heartLimit_same) | (with_reducible apply same_ite) | (with_reducible refine same_foldl ?_ ?_; intro _ _ _)

theorem execHeartRunComplete_same (item : Nat) (lowRank : Bool) (results : List HeartRes) {s : State}
    (hp : Sub (allowAny [.objs, .objGen, .evt, .fe, .bm, .cal]) m) (h : Same m s0 s) :
    OutSame m s0 (execHeartRunComplete item lowRank results s) := by
  unfold execHeartRunComplete
  repeat' first
    | (with_reducible assumption) | (with_reducible exact Free.rfl) | (with_reducible refine Free.bit hp ?_; decide)
    | (with_reducible refine Sub.trans ?_ hp; decide) | (with_reducible apply outSame_next) | (with_reducible apply State_setObj_same)
    | (with_reducible apply raise_same) | (with_reducible apply heartApply_same) | (with_reducible apply State_setTop_same)
    | (with_reducible apply outSame_ite) | (with_reducible apply same_ite) | (with_reducible refine same_foldl ?_ ?_; intro _ _ _)
    | (with_reducible apply same_parts)
    | (simp only [same_mk_iff])

theorem execHeartSnapshot_same {s : State}
    (hp : Sub (allow [.stats, .evt, .cvt, .cal] [.capStat, .evtRpt]) m) (h : Same m s0 s) :
    OutSame m s0 (execHeartSnapshot s) := by
  unfold execHeartSnapshot
  repeat' first
    | (with_reducible assumption) | (with_reducible exact Free.rfl) | (with_reducible refine Free.bit hp ?_; decide)
    | (with_reducible refine Sub.trans ?_ hp; decide) | (with_reducible apply outSame_next) | (with_reducible apply openCapture_same)
    | (with_reducible apply outSame_ite) | (with_reducible refine same_foldl ?_ ?_; intro _ _ _)
    | (with_reducible apply same_parts)
    | (simp only [same_mk_iff])

theorem execServiceWindowStart_same {s : State}
    (hp : Sub (allowAny [.clk, .objs, .objGen, .evt, .tl, .fe, .cvt, .rx, .bm, .cal, .lnk, .marks, .air]) m) (h : Same m s0 s) :
    OutSame m s0 (execServiceWindowStart s) := by
  unfold execServiceWindowStart
  repeat' first
    | (with_reducible assumption) | (with_reducible exact Free.rfl) | (with_reducible refine Free.bit hp ?_; decide)
    | (with_reducible refine Sub.trans ?_ hp; decide) | (with_reducible apply outSame_next) | (with_reducible apply reachCount_same)
    | (with_reducible apply fgPathOff_same) | (with_reducible apply arrayMargin_same) | (with_reducible apply pathOff_same)
    | (with_reducible apply outSame_ite) | (with_reducible refine same_foldl ?_ ?_; intro _ _ _)
    | (with_reducible apply same_parts)
    | (simp only [same_mk_iff])

theorem execTopNoteWindow_same (p : Nat) (meas : TopMeas) {s : State}
    (hp : Sub (allowAny [.clk, .objs, .objGen, .fresh, .evt, .cal, .air]) m) (h : Same m s0 s) :
    OutSame m s0 (execTopNoteWindow p meas s) := by
  unfold execTopNoteWindow
  repeat' first
    | (with_reducible assumption) | (with_reducible refine Sub.bit hp ?_; decide) | (with_reducible refine Sub.trans ?_ hp; decide)
    | (with_reducible apply outSame_next) | (with_reducible apply State_setTop_same) | (with_reducible apply skipWindow_same)
    | (with_reducible apply reachCount_same) | (with_reducible apply wf_same) | (with_reducible apply fgEnd_same)
    | (with_reducible apply lastRun_same) | (with_reducible apply topUpdate_same) | (with_reducible apply outSame_ite)
    | (with_reducible apply same_ite) | (simp only [same_mk_iff]) | split

theorem execTraceGate_same (edges : Nat) (steer : Int) (txo : Int) {s : State}
    (hp : Sub (allow [.evt, .cal] [.calXo, .calXoStat, .evtRpt]) m) (h : Same m s0 s) :
    OutSame m s0 (execTraceGate edges steer txo s) := by
  unfold execTraceGate
  repeat' first
    | (with_reducible assumption) | (with_reducible exact Free.rfl) | (with_reducible refine Free.bit hp ?_; decide)
    | (with_reducible refine Sub.bit hp ?_; decide) | (with_reducible refine Sub.trans ?_ hp; decide)
    | (with_reducible apply outSame_next) | (with_reducible apply wf_same) | (with_reducible apply wbit_same)
    | (with_reducible apply raise_same) | (with_reducible apply outSame_ite) | (with_reducible apply same_ite)
    | (with_reducible apply same_parts)
    | (simp only [same_mk_iff])

/-! ## CmdConverter -/

theorem execBestEffortVisit_same (r : Nat) (path : Nat) (n : Nat) {s : State}
    (hp : Sub (allow [.cvt] []) m) (h : Same m s0 s) :
    OutSame m s0 (execBestEffortVisit r path n s) := by
  unfold execBestEffortVisit
  repeat' first
    | (with_reducible assumption) | (with_reducible apply outSame_next) | (with_reducible apply startVisit_same)
    | (with_reducible apply outSame_ite)

theorem execCaptureDrainComplete_same (b : Nat) (xs : List Cplx) (zs : List Cplx) (ovr : Bool) {s : State}
    (hp : Sub (allow [.clk, .freeCtr, .stats, .addrFaultRec, .evt, .cvt, .disp, .ge, .mem, .air] [.capStat, .evtRpt]) m) (h : Same m s0 s) :
    OutSame m s0 (execCaptureDrainComplete b xs zs ovr s) := by
  unfold execCaptureDrainComplete
  repeat' first
    | (with_reducible assumption) | (with_reducible refine Sub.trans ?_ hp; decide) | (with_reducible apply outSame_next)
    | (with_reducible apply openVisits_same) | (with_reducible apply askWaiting_same) | (with_reducible apply postWaiting_same)
    | (with_reducible apply drainCapture_same) | (with_reducible apply reachElapsed_same) | (with_reducible apply outSame_ite)

theorem execCaptureOpen_same (n : Nat) {s : State}
    (hp : Sub (allow [.clk, .stats, .evt, .tl, .cvt, .air] [.capStat, .evtRpt, .tlEvtDrop]) m) (h : Same m s0 s) :
    OutSame m s0 (execCaptureOpen n s) := by
  unfold execCaptureOpen
  repeat' first
    | (with_reducible assumption) | (with_reducible refine Sub.trans ?_ hp; decide) | (intro _) | (with_reducible apply outSame_next)
    | (with_reducible apply fireEvent_same) | (with_reducible apply openVisits_same) | (with_reducible apply openCapture_same)
    | (with_reducible apply same_ite) | (with_reducible refine same_foldl ?_ ?_; intro _ _ _)

theorem execCaptureRelease_same (tag : Nat) (c : Nat) (value : Nat) {s : State}
    (hp : Sub (allow [.clk, .stats, .evt, .cvt, .air] [.capStat, .evtRpt]) m) (h : Same m s0 s) :
    OutSame m s0 (execCaptureRelease tag c value s) := by
  unfold execCaptureRelease
  repeat' first
    | (with_reducible assumption) | (with_reducible apply outSame_next) | (with_reducible apply capRelease_same)
    | (with_reducible apply outSame_ite)

theorem execDacDwellEnd_same (d : Nat) (trim : Nat) (dev : Int) (follows : Bool) {s : State}
    (hp : Sub (allow [.clk, .evt, .cvt, .lnk, .svc, .nv, .air] [.evtRpt]) m) (h : Same m s0 s) :
    OutSame m s0 (execDacDwellEnd d trim dev follows s) := by
  unfold execDacDwellEnd
  repeat' first
    | (with_reducible assumption) | (with_reducible refine Sub.trans ?_ hp; decide) | (with_reducible apply outSame_next)
    | (with_reducible apply reachElapsed_same) | (with_reducible apply dwellEnd_same) | (with_reducible apply outSame_ite)

theorem execDacDwellStart_same (d : Nat) {s : State}
    (hp : Sub (allow [.cvt] []) m) (h : Same m s0 s) :
    OutSame m s0 (execDacDwellStart d s) := by
  unfold execDacDwellStart
  repeat' first
    | (with_reducible assumption) | (with_reducible apply outSame_next) | (with_reducible apply State_setDac_same)
    | (with_reducible apply outSame_ite)

theorem execEmergencySwap_same (k : Nat) (slice : Nat) {s : State}
    (hp : Sub (allow [.stats, .evt, .adm, .fe, .cvt, .bm, .lnk, .svc, .nv, .marks] [.capStat, .evtRpt]) m) (h : Same m s0 s) :
    OutSame m s0 (execEmergencySwap k slice s) := by
  unfold execEmergencySwap
  repeat' first
    | (with_reducible assumption) | (with_reducible apply outSame_next) | (with_reducible apply emergencySwap_same)
    | (with_reducible apply outSame_ite)

theorem execOrxFailure_same (r : Nat) {s : State}
    (hp : Sub (allow [.evt, .adm, .cvt] [.evtRpt]) m) (h : Same m s0 s) :
    OutSame m s0 (execOrxFailure r s) := by
  unfold execOrxFailure
  repeat' first
    | (with_reducible assumption) | (with_reducible apply outSame_next) | (with_reducible apply orxFails_same)
    | (with_reducible apply outSame_ite)

theorem execOrxVisit_same (n : Nat) {s : State}
    (hp : Sub (allow [.clk, .stats, .evt, .tl, .cvt, .air] [.capStat, .evtRpt, .orxDrop, .tlEvtDrop]) m) (h : Same m s0 s) :
    OutSame m s0 (execOrxVisit n s) := by
  unfold execOrxVisit
  repeat' first
    | (with_reducible assumption) | (with_reducible refine Sub.trans ?_ hp; decide) | (intro _) | (with_reducible apply outSame_next)
    | (with_reducible apply fireEvent_same) | (with_reducible apply requestVisit_same) | (with_reducible apply same_ite)

theorem execOrxVisitEnd_same (r : Nat) {s : State}
    (hp : Sub (allow [.clk, .stats, .evt, .cvt, .air] [.capStat, .evtRpt]) m) (h : Same m s0 s) :
    OutSame m s0 (execOrxVisitEnd r s) := by
  unfold execOrxVisitEnd
  repeat' first
    | (with_reducible assumption) | (with_reducible refine Sub.trans ?_ hp; decide) | (with_reducible apply outSame_next)
    | (with_reducible apply openDue_same) | (with_reducible apply reachElapsed_same) | (with_reducible apply State_setOrx_same)
    | (with_reducible apply startVisit_same) | (with_reducible apply askWaiting_same) | (with_reducible apply outSame_ite)
    | (simp only [same_mk_iff]) | split

theorem publishSpur_same {s : State} (k : Nat) (spur : Int)
    (hp : Sub (allow [.evt, .cvt, .lnk, .marks] [.evtRpt]) m) (h : Same m s0 s) :
    Same m s0 (publishSpur s k spur) := by
  unfold publishSpur
  repeat' first
    | (with_reducible assumption) | (with_reducible refine Sub.trans ?_ hp; decide) | (with_reducible apply spurEdge_same)
    | (with_reducible apply State_setConv_same) | (with_reducible apply condOn_same) | (with_reducible apply condOff_same)
    | (with_reducible apply same_ite)

theorem timerEnd_same {s : State} (k : Nat) (next : Nat)
    (hp : Sub (allow [.clk, .cvt, .air] []) m) (h : Same m s0 s) :
    Same m s0 (timerEnd s k next) := by
  unfold timerEnd
  repeat' first
    | (with_reducible assumption) | (with_reducible refine Sub.trans ?_ hp; decide) | (with_reducible apply State_setConv_same)
    | (with_reducible apply reachElapsed_same)

theorem execRotationStepEnd_same (k : Nat) (est : SliceEst) {s : State}
    (hp : Sub (allow [.clk, .stats, .evt, .adm, .fe, .cvt, .bm, .lnk, .svc, .nv, .marks, .air] [.capStat, .evtRpt]) m) (h : Same m s0 s) :
    OutSame m s0 (execRotationStepEnd k est s) := by
  unfold execRotationStepEnd
  repeat' first
    | (with_reducible assumption) | (with_reducible refine Sub.trans ?_ hp; decide) | (with_reducible apply outSame_next)
    | (with_reducible apply publishSpur_same) | (with_reducible apply timerEnd_same) | (with_reducible apply State_setConv_same)
    | (with_reducible apply emergencySwap_same) | (with_reducible apply raise_same) | (with_reducible apply retireSpare_same)
    | (with_reducible apply outSame_ite) | (simp only [same_mk_iff]) | split

theorem toSwap_same {s : State} (k : Nat)
    (hp : Sub (allow [.clk, .stats, .evt, .cvt, .air] [.capStat, .evtRpt]) m) (h : Same m s0 s) :
    Same m s0 (toSwap s k) := by
  unfold toSwap
  repeat' first
    | (with_reducible assumption) | (with_reducible refine Sub.trans ?_ hp; decide) | (with_reducible apply openVisits_same)
    | (with_reducible apply toSymbol_same) | (with_reducible apply reachElapsed_same) | (with_reducible apply same_ite)
    | (simp only [same_mk_iff]) | split

theorem execSliceSwap_same (k : Nat) {s : State}
    (hp : Sub (allow [.clk, .stats, .evt, .cvt, .air] [.capStat, .evtRpt]) m) (h : Same m s0 s) :
    OutSame m s0 (execSliceSwap k s) := by
  unfold execSliceSwap
  repeat' first
    | (with_reducible assumption) | (with_reducible refine Sub.trans ?_ hp; decide) | (with_reducible apply outSame_next)
    | (with_reducible apply State_setConv_same) | (with_reducible apply toSwap_same) | (with_reducible apply outSame_ite)
    | (with_reducible apply same_ite) | (simp only [same_mk_iff]) | split

theorem execStuckSliceDetect_same (k : Nat) (slice : Nat) {s : State}
    (hp : Sub (allow [.evt, .adm, .fe, .cvt, .bm, .lnk, .svc, .nv, .marks] [.evtRpt]) m) (h : Same m s0 s) :
    OutSame m s0 (execStuckSliceDetect k slice s) := by
  unfold execStuckSliceDetect
  repeat' first
    | (with_reducible assumption) | (with_reducible refine Sub.trans ?_ hp; decide) | (with_reducible apply outSame_next)
    | (with_reducible apply retireSpare_same) | (with_reducible apply State_setConv_same) | (with_reducible apply convFails_same)
    | (with_reducible apply outSame_ite)

/-! ## CmdDictionary -/

theorem execArpRequest_same (senderMac : Nat) (senderIp : Nat) (targetIp : Nat) {s : State}
    (hp : Sub (allow [.out] []) m) (h : Same m s0 s) :
    OutSame m s0 (execArpRequest senderMac senderIp targetIp s) := by
  unfold execArpRequest
  repeat' first
    | (with_reducible assumption) | (with_reducible apply outSame_next) | (with_reducible apply emit_same)
    | (with_reducible apply outSame_ite)

theorem execBlockTransferTimeout_same (t : Transport) (key : Nat) (id : Nat) {s : State}
    (hp : Sub (allow [.clk, .diong, .air] []) m) (h : Same m s0 s) :
    OutSame m s0 (execBlockTransferTimeout t key id s) := by
  unfold execBlockTransferTimeout
  repeat' first
    | (with_reducible assumption) | (with_reducible refine Sub.trans ?_ hp; decide) | (with_reducible apply outSame_next)
    | (with_reducible apply modSession_same) | (with_reducible apply reachElapsed_same) | split

theorem execCounterFold_same {s : State}
    (hp : Sub (allowAny [.stats, .evt]) m) (h : Same m s0 s) :
    OutSame m s0 (execCounterFold s) := by
  unfold execCounterFold
  repeat' first
    | (with_reducible assumption) | (with_reducible apply outSame_next) | (with_reducible apply foldOne_same)
    | (with_reducible apply foldPaths_same) | (with_reducible refine same_foldl ?_ ?_; intro _ _ _)

theorem execDigest_same (d : DHdr) (scope : Nat) {s : State}
    (hp : Sub (allow [.stats, .evt, .out, .diong] [.evtRpt]) m) (h : Same m s0 s) :
    OutSame m s0 (execDigest d scope s) := by
  unfold execDigest
  repeat' first
    | (with_reducible assumption) | (with_reducible refine Sub.trans ?_ hp; decide) | (intro _) | (with_reducible apply outSame_next)
    | (with_reducible apply request_same) | (with_reducible apply opDigest_same)

theorem execEventCease_same (src : Nat) (inst : Nat) (aux : Nat) {s : State}
    (hp : Sub (allow [.evt, .lnk] []) m) (h : Same m s0 s) :
    OutSame m s0 (execEventCease src inst aux s) := by
  unfold execEventCease
  repeat' first | (with_reducible assumption) | (with_reducible apply outSame_next) | (with_reducible apply condOff_same)

theorem execEventFiringPresent_same (src : Nat) {s : State}
    (hp : Sub (allow [.fresh, .evt, .lnk] [.evtRpt, .evtStk]) m) (h : Same m s0 s) :
    OutSame m s0 (execEventFiringPresent src s) := by
  unfold execEventFiringPresent
  repeat' first | (with_reducible assumption) | (with_reducible apply outSame_next) | (with_reducible apply presentNext_same)

theorem execIcmpEchoRequest_same (srcMac : Nat) (srcIp : Nat) (dstIp : Nat) (ident : Nat) (seq : Nat) (fragment : Bool) (data : List Byte)
        {s : State}
    (hp : Sub (allow [.freeCtr, .out] []) m) (h : Same m s0 s) :
    OutSame m s0 (execIcmpEchoRequest srcMac srcIp dstIp ident seq fragment data s) := by
  unfold execIcmpEchoRequest
  repeat' first
    | (with_reducible assumption) | (with_reducible refine Sub.trans ?_ hp; decide) | (with_reducible apply outSame_next)
    | (with_reducible apply draw_same) | (with_reducible apply emit_same) | (with_reducible apply outSame_ite)

theorem execRead_same (d : DHdr) (index : Nat) (sub : Nat) {s : State}
    (hp : Sub (allow [.freeCtr, .stats, .evt, .out, .diong, .sec, .ge] [.dbgChalId, .evtRpt, .monData, .tlNowHi]) m) (h : Same m s0 s) :
    OutSame m s0 (execRead d index sub s) := by
  unfold execRead
  repeat' first
    | (with_reducible assumption) | (with_reducible refine Sub.trans ?_ hp; decide) | (intro _) | (with_reducible apply outSame_next)
    | (with_reducible apply request_same) | (with_reducible apply opRead_same)

theorem execReadBlock_same (d : DHdr) (index : Nat) (sub : Nat) (offset : Nat) (maxLen : Nat) {s : State}
    (hp : Sub (allow [.freeCtr, .stats, .evt, .out, .diong, .sec, .ge] [.dbgChalId, .evtRpt, .monData, .tlNowHi]) m) (h : Same m s0 s) :
    OutSame m s0 (execReadBlock d index sub offset maxLen s) := by
  unfold execReadBlock
  repeat' first
    | (with_reducible assumption) | (with_reducible refine Sub.trans ?_ hp; decide) | (intro _) | (with_reducible apply outSame_next)
    | (with_reducible apply request_same) | (with_reducible apply opReadBlock_same)

theorem execReadFrame_same {s : State}
    (hp : Sub (allow [.out, .diong] []) m) (h : Same m s0 s) :
    OutSame m s0 (execReadFrame s) := by
  unfold execReadFrame
  repeat' first
    | (with_reducible assumption) | (with_reducible exact Free.rfl) | (with_reducible refine Free.bit hp ?_; decide)
    | (with_reducible refine Sub.trans ?_ hp; decide) | (with_reducible apply outSame_next) | (with_reducible apply emit_same)
    | (with_reducible apply same_parts)
    | (simp only [same_mk_iff]) | split

theorem execReplicaRewrite_same (c : Nat) {s : State}
    (hp : Sub (allow [.clk, .diong, .rx, .air] []) m) (h : Same m s0 s) :
    OutSame m s0 (execReplicaRewrite c s) := by
  unfold execReplicaRewrite
  repeat' first
    | (with_reducible assumption) | (with_reducible exact Free.rfl) | (with_reducible refine Free.bit hp ?_; decide)
    | (with_reducible refine Sub.trans ?_ hp; decide) | (with_reducible apply outSame_next) | (with_reducible apply toSlot_same)
    | (with_reducible apply outSame_ite)
    | (with_reducible apply same_parts)
    | (simp only [same_mk_iff])

theorem execRestore_same (d : DHdr) (mode : Nat) {s : State}
    (hp : Sub (allowAny [.objs, .objsStaged, .objGen, .stats, .evt, .out, .adm, .diong, .hk]) m) (h : Same m s0 s) :
    OutSame m s0 (execRestore d mode s) := by
  unfold execRestore
  repeat' first
    | (with_reducible assumption) | (with_reducible refine Sub.trans ?_ hp; decide) | (intro _) | (with_reducible apply outSame_next)
    | (with_reducible apply request_same) | (with_reducible apply opRestore_same)

theorem execRwDigestRecompute_same {s : State}
    (hp : Sub (allow [.freeCtr, .diong] []) m) (h : Same m s0 s) :
    OutSame m s0 (execRwDigestRecompute s) := by
  unfold execRwDigestRecompute
  repeat' first
    | (with_reducible assumption) | (with_reducible apply outSame_next) | (with_reducible apply recomputeDigests_same)
    | (with_reducible apply outSame_ite)

theorem execSessionTimeout_same (t : Transport) (key : Nat) (id : Nat) {s : State}
    (hp : Sub (allow [.clk, .ctl, .evt, .diong, .sec, .ge, .hk, .marks, .air] [.bdacDrnStat, .dbgCoreCtrl, .dbgEngHalt, .dbgStat, .evtRpt,
        .memBankCtrl]) m) (h : Same m s0 s) :
    OutSame m s0 (execSessionTimeout t key id s) := by
  unfold execSessionTimeout
  repeat' first
    | (with_reducible assumption) | (with_reducible refine Sub.trans ?_ hp; decide) | (with_reducible apply outSame_next)
    | (with_reducible apply closeSessions_same) | (with_reducible apply reachElapsed_same) | split

theorem execSpiStatus_same {s : State}
    (hp : Sub (allow [.out, .diong] []) m) (h : Same m s0 s) :
    OutSame m s0 (execSpiStatus s) := by
  unfold execSpiStatus
  repeat' first
    | (with_reducible assumption) | (with_reducible exact Free.rfl) | (with_reducible refine Free.bit hp ?_; decide)
    | (with_reducible refine Sub.trans ?_ hp; decide) | (with_reducible apply outSame_next) | (with_reducible apply emit_same)
    | (with_reducible apply same_parts)
    | (simp only [same_mk_iff])

theorem execStatisticsCounterClear_same (role : Role) (index : Nat) (sub : Nat) {s : State}
    (hp : Sub (allow [.stats] []) m) (h : Same m s0 s) :
    OutSame m s0 (execStatisticsCounterClear role index sub s) := by
  unfold execStatisticsCounterClear
  repeat' first
    | (with_reducible assumption) | (with_reducible apply outSame_next) | (with_reducible apply clearCounter_same)
    | (with_reducible apply outSame_ite) | split

theorem execStickyFlagClear_same (d : Nat) (src : Nat) (same : Bool) {s : State}
    (hp : Sub (allow [.fresh, .evt, .lnk] [.evtRpt, .evtStk]) m) (h : Same m s0 s) :
    OutSame m s0 (execStickyFlagClear d src same s) := by
  unfold execStickyFlagClear
  repeat' first
    | (with_reducible assumption) | (with_reducible refine Sub.trans ?_ hp; decide) | (with_reducible apply outSame_next)
    | (with_reducible apply presentNext_same) | (with_reducible apply clearSticky_same) | (with_reducible apply outSame_ite)

theorem execStore_same (d : DHdr) (selector : Nat) (nvOk : Bool) {s : State}
    (hp : Sub (allow [.stats, .evt, .out, .diong, .fe, .cal, .nv] [.evtRpt]) m) (h : Same m s0 s) :
    OutSame m s0 (execStore d selector nvOk s) := by
  unfold execStore
  repeat' first
    | (with_reducible assumption) | (with_reducible refine Sub.trans ?_ hp; decide) | (intro _) | (with_reducible apply outSame_next)
    | (with_reducible apply request_same) | (with_reducible apply opStore_same)

theorem execSubscribe_same (d : DHdr) (index : Nat) (sub : Nat) (mode : Nat) (period : Nat) {s : State}
    (hp : Sub (allow [.freeCtr, .stats, .evt, .out, .diong, .sec, .ge] [.dbgChalId, .evtRpt, .monData, .tlNowHi]) m) (h : Same m s0 s) :
    OutSame m s0 (execSubscribe d index sub mode period s) := by
  unfold execSubscribe
  repeat' first
    | (with_reducible assumption) | (with_reducible refine Sub.trans ?_ hp; decide) | (intro _) | (with_reducible apply outSame_next)
    | (with_reducible apply request_same) | (with_reducible apply opSubscribe_same)

theorem execSubscriptionNotify_same (t : Transport) (key : Nat) (id : Nat) (index : Nat) (sub : Nat) {s : State}
    (hp : Sub (allow [.clk, .freeCtr, .out, .diong, .sec, .ge, .air] [.dbgChalId, .monData, .tlNowHi]) m) (h : Same m s0 s) :
    OutSame m s0 (execSubscriptionNotify t key id index sub s) := by
  unfold execSubscriptionNotify
  repeat' first | (with_reducible assumption) | (with_reducible apply outSame_next) | (with_reducible apply notifyDue_same)

theorem execWrite_same (d : DHdr) (index : Nat) (sub : Nat) (type : Nat) (value : List Byte) {s : State}
    (hp : Sub (allowAny [.clk, .freeCtr, .regsStaged, .objs, .objsStaged, .objGen, .stats, .islands, .subs, .fresh, .xing, .lost,
        .addrFaultRec, .ctl, .evt, .out, .tl, .adm, .diong, .straps, .sec, .lo, .fe, .cvt, .rx, .tx, .bm, .dpds, .disp, .ge, .cal, .lnk,
        .mem, .pwr, .hk, .svc, .boot, .nv, .marks, .air]) m) (h : Same m s0 s) :
    OutSame m s0 (execWrite d index sub type value s) := by
  unfold execWrite
  repeat' first
    | (with_reducible assumption) | (with_reducible refine Sub.trans ?_ hp; decide) | (intro _) | (with_reducible apply outSame_next)
    | (with_reducible apply tokenStart_same) | (with_reducible apply request_same) | (with_reducible apply opWrite_same)

theorem execWriteBlock_same (d : DHdr) (index : Nat) (sub : Nat) (type : Nat) (offset : Nat) (total : Nat) (data : List Byte) {s : State}
    (hp : Sub (allowAny [.clk, .freeCtr, .regsStaged, .objs, .objsStaged, .objGen, .stats, .islands, .subs, .fresh, .xing, .lost,
        .addrFaultRec, .ctl, .evt, .out, .tl, .adm, .diong, .straps, .sec, .lo, .fe, .cvt, .rx, .tx, .bm, .dpds, .disp, .ge, .cal, .lnk,
        .mem, .pwr, .hk, .svc, .boot, .nv, .marks, .air]) m) (h : Same m s0 s) :
    OutSame m s0 (execWriteBlock d index sub type offset total data s) := by
  unfold execWriteBlock
  repeat' first
    | (with_reducible assumption) | (with_reducible refine Sub.trans ?_ hp; decide) | (intro _) | (with_reducible apply outSame_next)
    | (with_reducible apply tokenStart_same) | (with_reducible apply request_same) | (with_reducible apply opWriteBlock_same)

theorem execWriteFrame_same (len : Nat) (frame : List Byte) {s : State}
    (hp : Sub (allow [.diong] []) m) (h : Same m s0 s) :
    OutSame m s0 (execWriteFrame len frame s) := by
  unfold execWriteFrame
  repeat' first
    | (with_reducible assumption) | (with_reducible exact Free.rfl) | (with_reducible refine Free.bit hp ?_; decide)
    | (with_reducible apply outSame_next) | (with_reducible apply outSame_ite)
    | (with_reducible apply same_parts)
    | (simp only [same_mk_iff])

end Sys2Proof.Machine
end

