-- ==== Sys2Proof/Laws/SameCommandsB.lean ====
section
/-! SUPPORT. What `Same` passes through: the commands, second part. -/

namespace Sys2Proof.Machine

variable {m : Nat} {s0 : State}

/-! ## CmdDpd -/

theorem execDpdBankWrite_same (tag : Nat) (addr : Nat) (value : Nat) {s : State}
    (hp : Sub (allow [.evt, .out, .dpds] [.dpdWrej, .evtRpt]) m) (h : Same m s0 s) :
    OutSame m s0 (execDpdBankWrite tag addr value s) := by
  unfold execDpdBankWrite
  repeat' first
    | (with_reducible assumption) | (with_reducible refine Sub.trans ?_ hp; decide) | (with_reducible apply outSame_next)
    | (with_reducible apply emit_same) | (with_reducible apply State_setDpd_same) | (with_reducible apply bankReject_same)
    | (with_reducible apply outSame_ite) | split

theorem execDpdDivergenceWindow_same (p : Nat) (z : List Cplx) (age : Nat) {s : State}
    (hp : Sub (allow [.stats, .evt, .cvt, .dpds, .disp] [.capStat, .evtRpt]) m) (h : Same m s0 s) :
    OutSame m s0 (execDpdDivergenceWindow p z age s) := by
  unfold execDpdDivergenceWindow
  repeat' first
    | (with_reducible assumption) | (with_reducible refine Sub.trans ?_ hp; decide) | (with_reducible apply outSame_next)
    | (with_reducible apply countWindow_same) | (with_reducible apply outSame_ite)

theorem execDpdFallback_same (p : Nat) {s : State}
    (hp : Sub (allow [.clk, .stats, .evt, .dpds, .air] [.evtRpt]) m) (h : Same m s0 s) :
    OutSame m s0 (execDpdFallback p s) := by
  unfold execDpdFallback
  repeat' first
    | (with_reducible assumption) | (with_reducible refine Sub.trans ?_ hp; decide) | (with_reducible apply outSame_next)
    | (with_reducible apply toSymbol_same) | (with_reducible apply State_setDpd_same) | (with_reducible apply raise_same)
    | (with_reducible apply statPath_same) | (with_reducible apply outSame_ite)

theorem execDpdFallbackCheckEnd_same (p : Nat) {s : State}
    (hp : Sub (allow [.evt, .dpds, .disp, .marks] [.evtRpt]) m) (h : Same m s0 s) :
    OutSame m s0 (execDpdFallbackCheckEnd p s) := by
  unfold execDpdFallbackCheckEnd
  repeat' first
    | (with_reducible assumption) | (with_reducible refine Sub.trans ?_ hp; decide) | (with_reducible apply outSame_next)
    | (with_reducible apply State_setDpd_same) | (with_reducible apply staleAndPending_same) | (with_reducible apply outSame_ite)
    | (with_reducible apply same_ite)

theorem execDpdHoCheckDone_same (p : Nat) {s : State}
    (hp : Sub (allow [.evt, .dpds, .marks] [.evtRpt]) m) (h : Same m s0 s) :
    OutSame m s0 (execDpdHoCheckDone p s) := by
  unfold execDpdHoCheckDone
  repeat' first
    | (with_reducible assumption) | (with_reducible apply outSame_next) | (with_reducible apply hoCheckDone_same)
    | (with_reducible apply outSame_ite)

theorem execDpdHoRequest_same (tag : Nat) (p : Nat) (value : Nat) {s : State}
    (hp : Sub (allow [.evt, .out, .dpds] [.evtRpt]) m) (h : Same m s0 s) :
    OutSame m s0 (execDpdHoRequest tag p value s) := by
  unfold execDpdHoRequest
  repeat' first
    | (with_reducible assumption) | (with_reducible refine Sub.trans ?_ hp; decide) | (with_reducible apply outSame_next)
    | (with_reducible apply tagged_same) | (with_reducible apply requestHo_same) | (with_reducible apply outSame_ite)
    | (with_reducible apply same_ite)

theorem execDpdIdentity_same (p : Nat) {s : State}
    (hp : Sub (allow [.clk, .stats, .evt, .dpds, .disp, .marks, .air] [.evtRpt]) m) (h : Same m s0 s) :
    OutSame m s0 (execDpdIdentity p s) := by
  unfold execDpdIdentity
  repeat' first
    | (with_reducible assumption) | (with_reducible refine Sub.trans ?_ hp; decide) | (with_reducible apply outSame_next)
    | (with_reducible apply toSymbol_same) | (with_reducible apply State_setDpd_same) | (with_reducible apply staleAndPending_same)
    | (with_reducible apply raise_same) | (with_reducible apply statPath_same) | (with_reducible apply outSame_ite)

theorem execDpdJobStart_same {s : State}
    (hp : Sub (allow [.clk, .freeCtr, .stats, .fresh, .evt, .cvt, .dpds, .disp, .ge, .marks, .air] [.capStat, .evtRpt]) m) (h : Same m s0
        s) :
    OutSame m s0 (execDpdJobStart s) := by
  unfold execDpdJobStart
  repeat' first
    | (with_reducible assumption) | (with_reducible exact Free.rfl) | (with_reducible refine Free.bit hp ?_; decide)
    | (with_reducible refine Sub.trans ?_ hp; decide) | (with_reducible apply outSame_next) | (with_reducible apply setStale_same)
    | (with_reducible apply endRound_same) | (with_reducible apply takeAgain_same) | (with_reducible apply jobRequestCapture_same)
    | (with_reducible apply dispatchPost_same) | (with_reducible apply outSame_ite) | (with_reducible apply same_ite)
    | (with_reducible apply same_parts)
    | (simp only [same_mk_iff]) | split

theorem execDpdMinRateVisit_same (p : Nat) {s : State}
    (hp : Sub (allow [.clk, .stats, .evt, .cvt, .air] [.capStat, .evtRpt, .orxDrop]) m) (h : Same m s0 s) :
    OutSame m s0 (execDpdMinRateVisit p s) := by
  unfold execDpdMinRateVisit
  repeat' first
    | (with_reducible assumption) | (with_reducible refine Sub.trans ?_ hp; decide) | (with_reducible apply outSame_next)
    | (with_reducible apply toBoundary_same) | (with_reducible apply requestVisit_same) | (with_reducible apply outSame_ite)

theorem execDpdProbationEnd_same (p : Nat) {s : State}
    (hp : Sub (allow [.clk, .evt, .dpds, .marks, .air] [.evtRpt]) m) (h : Same m s0 s) :
    OutSame m s0 (execDpdProbationEnd p s) := by
  unfold execDpdProbationEnd
  repeat' first
    | (with_reducible assumption) | (with_reducible refine Sub.trans ?_ hp; decide) | (with_reducible apply outSame_next)
    | (with_reducible apply reachCount_same) | (with_reducible apply State_setDpd_same) | (with_reducible apply setStale_same)
    | (with_reducible apply raise_same) | (with_reducible apply outSame_ite) | (with_reducible apply same_ite) | (simp only [same_mk_iff])
    | split

theorem execDpdRampStep_same (p : Nat) {s : State}
    (hp : Sub (allow [.clk, .dpds, .air] []) m) (h : Same m s0 s) :
    OutSame m s0 (execDpdRampStep p s) := by
  unfold execDpdRampStep
  repeat' first
    | (with_reducible assumption) | (with_reducible refine Sub.trans ?_ hp; decide) | (with_reducible apply outSame_next)
    | (with_reducible apply toBoundary_same) | (with_reducible apply State_setDpd_same) | (with_reducible apply outSame_ite)

theorem execDpdReq_same (tag : Nat) (bits : Nat) {s : State}
    (hp : Sub (allow [.fresh, .evt, .out, .disp] [.evtRpt]) m) (h : Same m s0 s) :
    OutSame m s0 (execDpdReq tag bits s) := by
  unfold execDpdReq
  repeat' first
    | (with_reducible assumption) | (with_reducible refine Sub.trans ?_ hp; decide) | (with_reducible apply outSame_next)
    | (with_reducible apply tagged_same) | (with_reducible apply dpdRequests_same)

theorem execDpdStaleAgeExpiry_same (p : Nat) {s : State}
    (hp : Sub (allow [.clk, .evt, .dpds, .marks, .air] [.evtRpt]) m) (h : Same m s0 s) :
    OutSame m s0 (execDpdStaleAgeExpiry p s) := by
  unfold execDpdStaleAgeExpiry
  repeat' first
    | (with_reducible assumption) | (with_reducible refine Sub.trans ?_ hp; decide) | (with_reducible apply outSame_next)
    | (with_reducible apply reachElapsed_same) | (with_reducible apply setStale_same) | (with_reducible apply outSame_ite)

theorem execDpdThermalUpdate_same (p : Nat) (x1 : Unit) (x2 : Unit) {s : State}
    (hp : Sub (allow [.clk, .evt, .dpds, .marks, .air] [.evtRpt]) m) (h : Same m s0 s) :
    OutSame m s0 (execDpdThermalUpdate p x1 x2 s) := by
  unfold execDpdThermalUpdate
  repeat' first
    | (with_reducible assumption) | (with_reducible refine Sub.trans ?_ hp; decide) | (with_reducible apply outSame_next)
    | (with_reducible apply toBoundary_same) | (with_reducible apply thermalUpdate_same) | (with_reducible apply outSame_ite)

/-! ## CmdGe -/

theorem endAtCycles_same {s : State} (e : Nat) (n : Nat) (code : Nat)
    (hp : Sub (allow [.stats, .evt, .disp, .ge] [.evtRpt, .geDoorbell]) m) (h : Same m s0 s) :
    Same m s0 (endAtCycles s e n code) := by
  unfold endAtCycles
  repeat' first
    | (with_reducible assumption) | (with_reducible refine Sub.trans ?_ hp; decide) | (with_reducible apply endJob_same)
    | (with_reducible apply State_setEng_same) | (simp only [same_mk_iff]) | split

theorem execAcca_same (g : GeC) {s : State}
    (hp : Sub (allow [.stats, .evt, .disp, .ge, .svc] [.evtRpt, .geDoorbell, .geEcc]) m) (h : Same m s0 s) :
    OutSame m s0 (execAcca g s) := by
  unfold execAcca
  repeat' first | (with_reducible assumption) | (with_reducible apply outSame_next) | (with_reducible apply slotOp_same)

theorem execAdd_same (g : GeC) {s : State}
    (hp : Sub (allow [.stats, .evt, .disp, .ge, .svc] [.evtRpt, .geDoorbell, .geEcc]) m) (h : Same m s0 s) :
    OutSame m s0 (execAdd g s) := by
  unfold execAdd
  repeat' first | (with_reducible assumption) | (with_reducible apply outSame_next) | (with_reducible apply geBin_same)

theorem execAddh_same (g : GeC) {s : State}
    (hp : Sub (allow [.stats, .evt, .disp, .ge, .svc] [.evtRpt, .geDoorbell, .geEcc]) m) (h : Same m s0 s) :
    OutSame m s0 (execAddh g s) := by
  unfold execAddh
  repeat' first | (with_reducible assumption) | (with_reducible apply outSame_next) | (with_reducible apply geBin_same)

theorem execAddi_same (g : GeA) {s : State}
    (hp : Sub (allow [.stats, .evt, .disp, .ge, .svc] [.evtRpt, .geDoorbell, .geEcc]) m) (h : Same m s0 s) :
    OutSame m s0 (execAddi g s) := by
  unfold execAddi
  repeat' first | (with_reducible assumption) | (with_reducible apply outSame_next) | (with_reducible apply geAdr_same)

theorem execAddm_same (g : GeA) {s : State}
    (hp : Sub (allow [.stats, .evt, .disp, .ge, .svc] [.evtRpt, .geDoorbell, .geEcc]) m) (h : Same m s0 s) :
    OutSame m s0 (execAddm g s) := by
  unfold execAddm
  repeat' first | (with_reducible assumption) | (with_reducible apply outSame_next) | (with_reducible apply geAdr_same)

theorem execAndOp_same (g : GeC) {s : State}
    (hp : Sub (allow [.stats, .evt, .disp, .ge, .svc] [.evtRpt, .geDoorbell, .geEcc]) m) (h : Same m s0 s) :
    OutSame m s0 (execAndOp g s) := by
  unfold execAndOp
  repeat' first | (with_reducible assumption) | (with_reducible apply outSame_next) | (with_reducible apply geInt_same)

theorem execAshr_same (g : GeC) {s : State}
    (hp : Sub (allow [.stats, .evt, .disp, .ge, .svc] [.evtRpt, .geDoorbell, .geEcc]) m) (h : Same m s0 s) :
    OutSame m s0 (execAshr g s) := by
  unfold execAshr
  repeat' first | (with_reducible assumption) | (with_reducible apply outSame_next) | (with_reducible apply slotOp_same)

theorem execBexp_same (g : GeC) {s : State}
    (hp : Sub (allow [.stats, .evt, .disp, .ge, .svc] [.evtRpt, .geDoorbell, .geEcc]) m) (h : Same m s0 s) :
    OutSame m s0 (execBexp g s) := by
  unfold execBexp
  repeat' first | (with_reducible assumption) | (with_reducible apply outSame_next) | (with_reducible apply slotOp_same)

theorem execBfly_same (g : GeC) {s : State}
    (hp : Sub (allow [.stats, .evt, .disp, .ge, .svc] [.evtRpt, .geDoorbell, .geEcc]) m) (h : Same m s0 s) :
    OutSame m s0 (execBfly g s) := by
  unfold execBfly
  repeat' first | (with_reducible assumption) | (with_reducible apply outSame_next) | (with_reducible apply slotOp_same)

theorem execBxadd_same (g : GeC) {s : State}
    (hp : Sub (allow [.stats, .evt, .disp, .ge, .svc] [.evtRpt, .geDoorbell, .geEcc]) m) (h : Same m s0 s) :
    OutSame m s0 (execBxadd g s) := by
  unfold execBxadd
  repeat' first | (with_reducible assumption) | (with_reducible apply outSame_next) | (with_reducible apply slotOp_same)

theorem execCall_same (g : GeK) {s : State}
    (hp : Sub (allow [.stats, .evt, .disp, .ge, .svc] [.evtRpt, .geDoorbell, .geEcc]) m) (h : Same m s0 s) :
    OutSame m s0 (execCall g s) := by
  unfold execCall
  repeat' first | (with_reducible assumption) | (with_reducible apply outSame_next) | (with_reducible apply slotOp_same)

theorem execCdot_same (g : GeC) {s : State}
    (hp : Sub (allow [.stats, .evt, .disp, .ge, .svc] [.evtRpt, .geDoorbell, .geEcc]) m) (h : Same m s0 s) :
    OutSame m s0 (execCdot g s) := by
  unfold execCdot
  repeat' first | (with_reducible assumption) | (with_reducible apply outSame_next) | (with_reducible apply slotOp_same)

theorem execClra_same (g : GeC) {s : State}
    (hp : Sub (allow [.stats, .evt, .disp, .ge, .svc] [.evtRpt, .geDoorbell, .geEcc]) m) (h : Same m s0 s) :
    OutSame m s0 (execClra g s) := by
  unfold execClra
  repeat' first | (with_reducible assumption) | (with_reducible apply outSame_next) | (with_reducible apply slotOp_same)

theorem execCmac4_same (g : GeC) {s : State}
    (hp : Sub (allow [.stats, .evt, .disp, .ge, .svc] [.evtRpt, .geDoorbell, .geEcc]) m) (h : Same m s0 s) :
    OutSame m s0 (execCmac4 g s) := by
  unfold execCmac4
  repeat' first | (with_reducible assumption) | (with_reducible apply outSame_next) | (with_reducible apply slotOp_same)

theorem execCmacb_same (g : GeC) {s : State}
    (hp : Sub (allow [.stats, .evt, .disp, .ge, .svc] [.evtRpt, .geDoorbell, .geEcc]) m) (h : Same m s0 s) :
    OutSame m s0 (execCmacb g s) := by
  unfold execCmacb
  repeat' first | (with_reducible assumption) | (with_reducible apply outSame_next) | (with_reducible apply slotOp_same)

theorem execCmul_same (g : GeC) {s : State}
    (hp : Sub (allow [.stats, .evt, .disp, .ge, .svc] [.evtRpt, .geDoorbell, .geEcc]) m) (h : Same m s0 s) :
    OutSame m s0 (execCmul g s) := by
  unfold execCmul
  repeat' first | (with_reducible assumption) | (with_reducible apply outSame_next) | (with_reducible apply geBin_same)

theorem execConj_same (g : GeC) {s : State}
    (hp : Sub (allow [.stats, .evt, .disp, .ge, .svc] [.evtRpt, .geDoorbell, .geEcc]) m) (h : Same m s0 s) :
    OutSame m s0 (execConj g s) := by
  unfold execConj
  repeat' first | (with_reducible assumption) | (with_reducible apply outSame_next) | (with_reducible apply geBin_same)

theorem execDi_same (g : GeK) {s : State}
    (hp : Sub (allow [.stats, .evt, .disp, .ge, .svc] [.evtRpt, .geDoorbell, .geEcc]) m) (h : Same m s0 s) :
    OutSame m s0 (execDi g s) := by
  unfold execDi
  repeat' first | (with_reducible assumption) | (with_reducible apply outSame_next) | (with_reducible apply slotOp_same)

theorem execDone_same (g : GeK) {s : State}
    (hp : Sub (allow [.stats, .evt, .disp, .ge, .svc] [.evtRpt, .geDoorbell, .geEcc]) m) (h : Same m s0 s) :
    OutSame m s0 (execDone g s) := by
  unfold execDone
  repeat' first | (with_reducible assumption) | (with_reducible apply outSame_next) | (with_reducible apply slotOp_same)

theorem execEi_same (g : GeK) {s : State}
    (hp : Sub (allow [.stats, .evt, .disp, .ge, .svc] [.evtRpt, .geDoorbell, .geEcc]) m) (h : Same m s0 s) :
    OutSame m s0 (execEi g s) := by
  unfold execEi
  repeat' first | (with_reducible assumption) | (with_reducible apply outSame_next) | (with_reducible apply slotOp_same)

theorem execEngineRollMove_same (e : Nat) {s : State}
    (hp : Sub (allow [.evt, .ge] [.evtRpt]) m) (h : Same m s0 s) :
    OutSame m s0 (execEngineRollMove e s) := by
  unfold execEngineRollMove
  repeat' first
    | (with_reducible assumption) | (with_reducible apply outSame_next) | (with_reducible apply rollMove_same)
    | (with_reducible apply outSame_ite) | split

theorem execExp_same (g : GeC) {s : State}
    (hp : Sub (allow [.stats, .evt, .disp, .ge, .svc] [.evtRpt, .geDoorbell, .geEcc]) m) (h : Same m s0 s) :
    OutSame m s0 (execExp g s) := by
  unfold execExp
  repeat' first | (with_reducible assumption) | (with_reducible apply outSame_next) | (with_reducible apply slotOp_same)

theorem execExpa_same (g : GeC) {s : State}
    (hp : Sub (allow [.stats, .evt, .disp, .ge, .svc] [.evtRpt, .geDoorbell, .geEcc]) m) (h : Same m s0 s) :
    OutSame m s0 (execExpa g s) := by
  unfold execExpa
  repeat' first | (with_reducible assumption) | (with_reducible apply outSame_next) | (with_reducible apply slotOp_same)

theorem execExtr_same (g : GeC) {s : State}
    (hp : Sub (allow [.stats, .evt, .disp, .ge, .svc] [.evtRpt, .geDoorbell, .geEcc]) m) (h : Same m s0 s) :
    OutSame m s0 (execExtr g s) := by
  unfold execExtr
  repeat' first | (with_reducible assumption) | (with_reducible apply outSame_next) | (with_reducible apply slotOp_same)

theorem execGeCplRead_same (e : Nat) {s : State}
    (hp : Sub (allow [.out, .ge] []) m) (h : Same m s0 s) :
    OutSame m s0 (execGeCplRead e s) := by
  unfold execGeCplRead
  repeat' first
    | (with_reducible assumption) | (with_reducible refine Sub.trans ?_ hp; decide) | (with_reducible apply outSame_next)
    | (with_reducible apply emit_same) | (with_reducible apply State_setEng_same) | (with_reducible apply outSame_ite)
    | (simp only [same_mk_iff]) | split

theorem execGeDoorbell_same (tag : Nat) (e : Nat) (value : Nat) {s : State}
    (hp : Sub (allow [.fresh, .evt, .out, .ge] [.evtRpt]) m) (h : Same m s0 s) :
    OutSame m s0 (execGeDoorbell tag e value s) := by
  unfold execGeDoorbell
  repeat' first
    | (with_reducible assumption) | (with_reducible refine Sub.trans ?_ hp; decide) | (with_reducible apply outSame_next)
    | (with_reducible apply tagged_same) | (with_reducible apply ringDoorbell_same) | (with_reducible apply outSame_ite)
    | (with_reducible apply same_ite)

theorem execGePost_same (tag : Nat) (e : Nat) (value : Nat) {s : State}
    (hp : Sub (allow [.evt, .out, .ge] [.evtRpt]) m) (h : Same m s0 s) :
    OutSame m s0 (execGePost tag e value s) := by
  unfold execGePost
  repeat' first
    | (with_reducible assumption) | (with_reducible refine Sub.trans ?_ hp; decide) | (with_reducible apply outSame_next)
    | (with_reducible apply emit_same) | (with_reducible apply postJob_same) | (with_reducible apply outSame_ite)
    | (with_reducible apply same_ite)

theorem execIadd_same (g : GeC) {s : State}
    (hp : Sub (allow [.stats, .evt, .disp, .ge, .svc] [.evtRpt, .geDoorbell, .geEcc]) m) (h : Same m s0 s) :
    OutSame m s0 (execIadd g s) := by
  unfold execIadd
  repeat' first | (with_reducible assumption) | (with_reducible apply outSame_next) | (with_reducible apply geInt_same)

theorem execIcmp_same (g : GeC) {s : State}
    (hp : Sub (allow [.stats, .evt, .disp, .ge, .svc] [.evtRpt, .geDoorbell, .geEcc]) m) (h : Same m s0 s) :
    OutSame m s0 (execIcmp g s) := by
  unfold execIcmp
  repeat' first | (with_reducible assumption) | (with_reducible apply outSame_next) | (with_reducible apply slotOp_same)

theorem execInterruptAccept_same (e : Nat) {s : State}
    (hp : Sub (allow [.stats, .fresh, .evt, .disp, .ge] [.evtRpt, .geDoorbell]) m) (h : Same m s0 s) :
    OutSame m s0 (execInterruptAccept e s) := by
  unfold execInterruptAccept
  repeat' first
    | (with_reducible assumption) | (with_reducible refine Sub.trans ?_ hp; decide) | (with_reducible apply outSame_next)
    | (with_reducible apply State_setEng_same) | (with_reducible apply endBundle_same) | (with_reducible apply takeAgain_same)
    | (with_reducible apply endJob_same) | (with_reducible apply outSame_ite) | (with_reducible apply same_ite)
    | (simp only [same_mk_iff]) | split

theorem execIshl_same (g : GeC) {s : State}
    (hp : Sub (allow [.stats, .evt, .disp, .ge, .svc] [.evtRpt, .geDoorbell, .geEcc]) m) (h : Same m s0 s) :
    OutSame m s0 (execIshl g s) := by
  unfold execIshl
  repeat' first | (with_reducible assumption) | (with_reducible apply outSame_next) | (with_reducible apply geInt_same)

theorem execIshr_same (g : GeC) {s : State}
    (hp : Sub (allow [.stats, .evt, .disp, .ge, .svc] [.evtRpt, .geDoorbell, .geEcc]) m) (h : Same m s0 s) :
    OutSame m s0 (execIshr g s) := by
  unfold execIshr
  repeat' first | (with_reducible assumption) | (with_reducible apply outSame_next) | (with_reducible apply geInt_same)

theorem execIsub_same (g : GeC) {s : State}
    (hp : Sub (allow [.stats, .evt, .disp, .ge, .svc] [.evtRpt, .geDoorbell, .geEcc]) m) (h : Same m s0 s) :
    OutSame m s0 (execIsub g s) := by
  unfold execIsub
  repeat' first | (with_reducible assumption) | (with_reducible apply outSame_next) | (with_reducible apply geInt_same)

theorem execJmp_same (g : GeK) {s : State}
    (hp : Sub (allow [.stats, .evt, .disp, .ge, .svc] [.evtRpt, .geDoorbell, .geEcc]) m) (h : Same m s0 s) :
    OutSame m s0 (execJmp g s) := by
  unfold execJmp
  repeat' first | (with_reducible assumption) | (with_reducible apply outSame_next) | (with_reducible apply geJump_same)

theorem execJn_same (g : GeK) {s : State}
    (hp : Sub (allow [.stats, .evt, .disp, .ge, .svc] [.evtRpt, .geDoorbell, .geEcc]) m) (h : Same m s0 s) :
    OutSame m s0 (execJn g s) := by
  unfold execJn
  repeat' first | (with_reducible assumption) | (with_reducible apply outSame_next) | (with_reducible apply geJump_same)

theorem execJnn_same (g : GeK) {s : State}
    (hp : Sub (allow [.stats, .evt, .disp, .ge, .svc] [.evtRpt, .geDoorbell, .geEcc]) m) (h : Same m s0 s) :
    OutSame m s0 (execJnn g s) := by
  unfold execJnn
  repeat' first | (with_reducible assumption) | (with_reducible apply outSame_next) | (with_reducible apply geJump_same)

theorem execJnz_same (g : GeK) {s : State}
    (hp : Sub (allow [.stats, .evt, .disp, .ge, .svc] [.evtRpt, .geDoorbell, .geEcc]) m) (h : Same m s0 s) :
    OutSame m s0 (execJnz g s) := by
  unfold execJnz
  repeat' first | (with_reducible assumption) | (with_reducible apply outSame_next) | (with_reducible apply geJump_same)

theorem execJobOverrun_same (e : Nat) {s : State}
    (hp : Sub (allow [.stats, .evt, .disp, .ge] [.evtRpt, .geDoorbell]) m) (h : Same m s0 s) :
    OutSame m s0 (execJobOverrun e s) := by
  unfold execJobOverrun
  repeat' first
    | (with_reducible assumption) | (with_reducible apply outSame_next) | (with_reducible apply endAtCycles_same)
    | (with_reducible apply outSame_ite) | split

theorem execJobStart_same (e : Nat) {s : State}
    (hp : Sub (allow [.ge] []) m) (h : Same m s0 s) :
    OutSame m s0 (execJobStart e s) := by
  unfold execJobStart
  repeat' first
    | (with_reducible assumption) | (with_reducible apply outSame_next) | (with_reducible apply startNext_same)
    | (with_reducible apply outSame_ite)

theorem execJz_same (g : GeK) {s : State}
    (hp : Sub (allow [.stats, .evt, .disp, .ge, .svc] [.evtRpt, .geDoorbell, .geEcc]) m) (h : Same m s0 s) :
    OutSame m s0 (execJz g s) := by
  unfold execJz
  repeat' first | (with_reducible assumption) | (with_reducible apply outSame_next) | (with_reducible apply geJump_same)

theorem execLdD_same (g : GeM) {s : State}
    (hp : Sub (allow [.stats, .evt, .disp, .ge, .svc] [.evtRpt, .geDoorbell, .geEcc]) m) (h : Same m s0 s) :
    OutSame m s0 (execLdD g s) := by
  unfold execLdD
  repeat' first | (with_reducible assumption) | (with_reducible apply outSame_next) | (with_reducible apply geMem_same)

theorem execLdH_same (g : GeM) {s : State}
    (hp : Sub (allow [.stats, .evt, .disp, .ge, .svc] [.evtRpt, .geDoorbell, .geEcc]) m) (h : Same m s0 s) :
    OutSame m s0 (execLdH g s) := by
  unfold execLdH
  repeat' first | (with_reducible assumption) | (with_reducible apply outSame_next) | (with_reducible apply geMem_same)

theorem execLdW_same (g : GeM) {s : State}
    (hp : Sub (allow [.stats, .evt, .disp, .ge, .svc] [.evtRpt, .geDoorbell, .geEcc]) m) (h : Same m s0 s) :
    OutSame m s0 (execLdW g s) := by
  unfold execLdW
  repeat' first | (with_reducible assumption) | (with_reducible apply outSame_next) | (with_reducible apply geMem_same)

theorem execLdi_same (g : GeK) (reg : Nat) {s : State}
    (hp : Sub (allow [.stats, .evt, .disp, .ge, .svc] [.evtRpt, .geDoorbell, .geEcc]) m) (h : Same m s0 s) :
    OutSame m s0 (execLdi g reg s) := by
  unfold execLdi
  repeat' first | (with_reducible assumption) | (with_reducible apply outSame_next) | (with_reducible apply slotOp_same)

theorem execLoop0_same (g : GeK) {s : State}
    (hp : Sub (allow [.stats, .evt, .disp, .ge, .svc] [.evtRpt, .geDoorbell, .geEcc]) m) (h : Same m s0 s) :
    OutSame m s0 (execLoop0 g s) := by
  unfold execLoop0
  repeat' first | (with_reducible assumption) | (with_reducible apply outSame_next) | (with_reducible apply geLoop_same)

theorem execLoop1_same (g : GeK) {s : State}
    (hp : Sub (allow [.stats, .evt, .disp, .ge, .svc] [.evtRpt, .geDoorbell, .geEcc]) m) (h : Same m s0 s) :
    OutSame m s0 (execLoop1 g s) := by
  unfold execLoop1
  repeat' first | (with_reducible assumption) | (with_reducible apply outSame_next) | (with_reducible apply geLoop_same)

theorem execLoopr0_same (g : GeK) {s : State}
    (hp : Sub (allow [.stats, .evt, .disp, .ge, .svc] [.evtRpt, .geDoorbell, .geEcc]) m) (h : Same m s0 s) :
    OutSame m s0 (execLoopr0 g s) := by
  unfold execLoopr0
  repeat' first | (with_reducible assumption) | (with_reducible apply outSame_next) | (with_reducible apply geLoop_same)

theorem execLoopr1_same (g : GeK) {s : State}
    (hp : Sub (allow [.stats, .evt, .disp, .ge, .svc] [.evtRpt, .geDoorbell, .geEcc]) m) (h : Same m s0 s) :
    OutSame m s0 (execLoopr1 g s) := by
  unfold execLoopr1
  repeat' first | (with_reducible assumption) | (with_reducible apply outSame_next) | (with_reducible apply geLoop_same)

theorem execMag2_same (g : GeC) {s : State}
    (hp : Sub (allow [.stats, .evt, .disp, .ge, .svc] [.evtRpt, .geDoorbell, .geEcc]) m) (h : Same m s0 s) :
    OutSame m s0 (execMag2 g s) := by
  unfold execMag2
  repeat' first | (with_reducible assumption) | (with_reducible apply outSame_next) | (with_reducible apply slotOp_same)

theorem execMfr_same (g : GeC) {s : State}
    (hp : Sub (allow [.stats, .evt, .disp, .ge, .svc] [.evtRpt, .geDoorbell, .geEcc]) m) (h : Same m s0 s) :
    OutSame m s0 (execMfr g s) := by
  unfold execMfr
  repeat' first | (with_reducible assumption) | (with_reducible apply outSame_next) | (with_reducible apply slotOp_same)

theorem execMov_same (g : GeC) {s : State}
    (hp : Sub (allow [.stats, .evt, .disp, .ge, .svc] [.evtRpt, .geDoorbell, .geEcc]) m) (h : Same m s0 s) :
    OutSame m s0 (execMov g s) := by
  unfold execMov
  repeat' first | (with_reducible assumption) | (with_reducible apply outSame_next) | (with_reducible apply geBin_same)

theorem execMova_same (g : GeC) {s : State}
    (hp : Sub (allow [.stats, .evt, .disp, .ge, .svc] [.evtRpt, .geDoorbell, .geEcc]) m) (h : Same m s0 s) :
    OutSame m s0 (execMova g s) := by
  unfold execMova
  repeat' first | (with_reducible assumption) | (with_reducible apply outSame_next) | (with_reducible apply slotOp_same)

theorem execMovb_same (g : GeA) {s : State}
    (hp : Sub (allow [.stats, .evt, .disp, .ge, .svc] [.evtRpt, .geDoorbell, .geEcc]) m) (h : Same m s0 s) :
    OutSame m s0 (execMovb g s) := by
  unfold execMovb
  repeat' first | (with_reducible assumption) | (with_reducible apply outSame_next) | (with_reducible apply geAdr_same)

theorem execMovl_same (g : GeA) {s : State}
    (hp : Sub (allow [.stats, .evt, .disp, .ge, .svc] [.evtRpt, .geDoorbell, .geEcc]) m) (h : Same m s0 s) :
    OutSame m s0 (execMovl g s) := by
  unfold execMovl
  repeat' first | (with_reducible assumption) | (with_reducible apply outSame_next) | (with_reducible apply geAdr_same)

theorem execMovm_same (g : GeA) {s : State}
    (hp : Sub (allow [.stats, .evt, .disp, .ge, .svc] [.evtRpt, .geDoorbell, .geEcc]) m) (h : Same m s0 s) :
    OutSame m s0 (execMovm g s) := by
  unfold execMovm
  repeat' first | (with_reducible assumption) | (with_reducible apply outSame_next) | (with_reducible apply geAdr_same)

theorem execMovp_same (g : GeA) {s : State}
    (hp : Sub (allow [.stats, .evt, .disp, .ge, .svc] [.evtRpt, .geDoorbell, .geEcc]) m) (h : Same m s0 s) :
    OutSame m s0 (execMovp g s) := by
  unfold execMovp
  repeat' first | (with_reducible assumption) | (with_reducible apply outSame_next) | (with_reducible apply geAdr_same)

theorem execMtr_same (g : GeC) {s : State}
    (hp : Sub (allow [.stats, .evt, .disp, .ge, .svc] [.evtRpt, .geDoorbell, .geEcc]) m) (h : Same m s0 s) :
    OutSame m s0 (execMtr g s) := by
  unfold execMtr
  repeat' first | (with_reducible assumption) | (with_reducible apply outSame_next) | (with_reducible apply slotOp_same)

theorem execNeg_same (g : GeC) {s : State}
    (hp : Sub (allow [.stats, .evt, .disp, .ge, .svc] [.evtRpt, .geDoorbell, .geEcc]) m) (h : Same m s0 s) :
    OutSame m s0 (execNeg g s) := by
  unfold execNeg
  repeat' first | (with_reducible assumption) | (with_reducible apply outSame_next) | (with_reducible apply geBin_same)

theorem execNop_same (g : GeC) {s : State}
    (hp : Sub (allow [.stats, .evt, .disp, .ge, .svc] [.evtRpt, .geDoorbell, .geEcc]) m) (h : Same m s0 s) :
    OutSame m s0 (execNop g s) := by
  unfold execNop
  repeat' first | (with_reducible assumption) | (with_reducible apply outSame_next) | (with_reducible apply slotOp_same)

theorem execNopc_same (g : GeK) {s : State}
    (hp : Sub (allow [.stats, .evt, .disp, .ge, .svc] [.evtRpt, .geDoorbell, .geEcc]) m) (h : Same m s0 s) :
    OutSame m s0 (execNopc g s) := by
  unfold execNopc
  repeat' first | (with_reducible assumption) | (with_reducible apply outSame_next) | (with_reducible apply geJump_same)

theorem execNorm_same (g : GeC) {s : State}
    (hp : Sub (allow [.stats, .evt, .disp, .ge, .svc] [.evtRpt, .geDoorbell, .geEcc]) m) (h : Same m s0 s) :
    OutSame m s0 (execNorm g s) := by
  unfold execNorm
  repeat' first | (with_reducible assumption) | (with_reducible apply outSame_next) | (with_reducible apply slotOp_same)

theorem execOrOp_same (g : GeC) {s : State}
    (hp : Sub (allow [.stats, .evt, .disp, .ge, .svc] [.evtRpt, .geDoorbell, .geEcc]) m) (h : Same m s0 s) :
    OutSame m s0 (execOrOp g s) := by
  unfold execOrOp
  repeat' first | (with_reducible assumption) | (with_reducible apply outSame_next) | (with_reducible apply geInt_same)

theorem execPreemptLate_same (e : Nat) {s : State}
    (hp : Sub (allow [.stats, .evt, .disp, .ge] [.evtRpt, .geDoorbell]) m) (h : Same m s0 s) :
    OutSame m s0 (execPreemptLate e s) := by
  unfold execPreemptLate
  repeat' first
    | (with_reducible assumption) | (with_reducible apply outSame_next) | (with_reducible apply endAtCycles_same)
    | (with_reducible apply outSame_ite) | split

theorem execReleaseEntryFire_same (e : Nat) (r : Nat) {s : State}
    (hp : Sub (allow [.clk, .freeCtr, .ge, .air] []) m) (h : Same m s0 s) :
    OutSame m s0 (execReleaseEntryFire e r s) := by
  unfold execReleaseEntryFire
  repeat' first
    | (with_reducible assumption) | (with_reducible refine Sub.trans ?_ hp; decide) | (with_reducible apply outSame_next)
    | (with_reducible apply toBoundary_same) | (with_reducible apply draw_same) | (with_reducible apply State_setEng_same)
    | (with_reducible apply preemptIf_same) | (with_reducible apply outSame_ite) | (with_reducible apply same_ite)
    | (simp only [same_mk_iff]) | split

theorem execRet_same (g : GeK) {s : State}
    (hp : Sub (allow [.stats, .evt, .disp, .ge, .svc] [.evtRpt, .geDoorbell, .geEcc]) m) (h : Same m s0 s) :
    OutSame m s0 (execRet g s) := by
  unfold execRet
  repeat' first | (with_reducible assumption) | (with_reducible apply outSame_next) | (with_reducible apply slotOp_same)

theorem execReti_same (g : GeK) {s : State}
    (hp : Sub (allow [.stats, .evt, .disp, .ge, .svc] [.evtRpt, .geDoorbell, .geEcc]) m) (h : Same m s0 s) :
    OutSame m s0 (execReti g s) := by
  unfold execReti
  repeat' first | (with_reducible assumption) | (with_reducible apply outSame_next) | (with_reducible apply slotOp_same)

theorem execSat_same (g : GeC) {s : State}
    (hp : Sub (allow [.stats, .evt, .disp, .ge, .svc] [.evtRpt, .geDoorbell, .geEcc]) m) (h : Same m s0 s) :
    OutSame m s0 (execSat g s) := by
  unfold execSat
  repeat' first | (with_reducible assumption) | (with_reducible apply outSame_next) | (with_reducible apply slotOp_same)

theorem execSetbs_same (g : GeC) {s : State}
    (hp : Sub (allow [.stats, .evt, .disp, .ge, .svc] [.evtRpt, .geDoorbell, .geEcc]) m) (h : Same m s0 s) :
    OutSame m s0 (execSetbs g s) := by
  unfold execSetbs
  repeat' first | (with_reducible assumption) | (with_reducible apply outSame_next) | (with_reducible apply slotOp_same)

theorem execSetm_same (g : GeA) {s : State}
    (hp : Sub (allow [.stats, .evt, .disp, .ge, .svc] [.evtRpt, .geDoorbell, .geEcc]) m) (h : Same m s0 s) :
    OutSame m s0 (execSetm g s) := by
  unfold execSetm
  repeat' first | (with_reducible assumption) | (with_reducible apply outSame_next) | (with_reducible apply geAdr_same)

theorem execShl_same (g : GeC) {s : State}
    (hp : Sub (allow [.stats, .evt, .disp, .ge, .svc] [.evtRpt, .geDoorbell, .geEcc]) m) (h : Same m s0 s) :
    OutSame m s0 (execShl g s) := by
  unfold execShl
  repeat' first | (with_reducible assumption) | (with_reducible apply outSame_next) | (with_reducible apply geBin_same)

theorem execShr_same (g : GeC) {s : State}
    (hp : Sub (allow [.stats, .evt, .disp, .ge, .svc] [.evtRpt, .geDoorbell, .geEcc]) m) (h : Same m s0 s) :
    OutSame m s0 (execShr g s) := by
  unfold execShr
  repeat' first | (with_reducible assumption) | (with_reducible apply outSame_next) | (with_reducible apply geBin_same)

theorem execStD_same (g : GeM) {s : State}
    (hp : Sub (allow [.stats, .evt, .disp, .ge, .svc] [.evtRpt, .geDoorbell, .geEcc]) m) (h : Same m s0 s) :
    OutSame m s0 (execStD g s) := by
  unfold execStD
  repeat' first | (with_reducible assumption) | (with_reducible apply outSame_next) | (with_reducible apply geMem_same)

theorem execStW_same (g : GeM) {s : State}
    (hp : Sub (allow [.stats, .evt, .disp, .ge, .svc] [.evtRpt, .geDoorbell, .geEcc]) m) (h : Same m s0 s) :
    OutSame m s0 (execStW g s) := by
  unfold execStW
  repeat' first | (with_reducible assumption) | (with_reducible apply outSame_next) | (with_reducible apply geMem_same)

theorem execSub_same (g : GeC) {s : State}
    (hp : Sub (allow [.stats, .evt, .disp, .ge, .svc] [.evtRpt, .geDoorbell, .geEcc]) m) (h : Same m s0 s) :
    OutSame m s0 (execSub g s) := by
  unfold execSub
  repeat' first | (with_reducible assumption) | (with_reducible apply outSame_next) | (with_reducible apply geBin_same)

theorem execSubh_same (g : GeC) {s : State}
    (hp : Sub (allow [.stats, .evt, .disp, .ge, .svc] [.evtRpt, .geDoorbell, .geEcc]) m) (h : Same m s0 s) :
    OutSame m s0 (execSubh g s) := by
  unfold execSubh
  repeat' first | (with_reducible assumption) | (with_reducible apply outSame_next) | (with_reducible apply geBin_same)

theorem execSwap_same (g : GeC) {s : State}
    (hp : Sub (allow [.stats, .evt, .disp, .ge, .svc] [.evtRpt, .geDoorbell, .geEcc]) m) (h : Same m s0 s) :
    OutSame m s0 (execSwap g s) := by
  unfold execSwap
  repeat' first | (with_reducible assumption) | (with_reducible apply outSame_next) | (with_reducible apply geBin_same)

theorem execTransferComplete_finish_same {s : State} (e : Nat) (st : Nat) (d : GeXfer)
    (hp : Sub (allow [.stats, .evt, .disp, .ge] [.evtRpt, .geDoorbell]) m) (h : Same m s0 s) :
    Same m s0 (execTransferComplete.finish s e st d) := by
  unfold execTransferComplete.finish
  repeat' first
    | (with_reducible assumption) | (with_reducible refine Sub.trans ?_ hp; decide) | (with_reducible apply endJob_same)
    | (with_reducible apply State_setEng_same) | (with_reducible apply same_ite)

theorem execTransferComplete_same (e : Nat) (q : Nat) {s : State}
    (hp : Sub (allowAny [.clk, .freeCtr, .regsStaged, .objs, .stats, .fresh, .addrFaultRec, .ctl, .evt, .out, .tl, .adm, .diong, .sec, .lo,
        .fe, .cvt, .rx, .bm, .dpds, .disp, .ge, .lnk, .mem, .pwr, .hk, .svc, .boot, .nv, .marks, .air]) m) (h : Same m s0 s) :
    OutSame m s0 (execTransferComplete e q s) := by
  unfold execTransferComplete
  repeat' first
    | (with_reducible assumption) | (with_reducible refine Sub.trans ?_ hp; decide) | (with_reducible apply outSame_next)
    | (with_reducible apply State_setEng_same) | (with_reducible apply fabWrite_same)
    | (with_reducible apply execTransferComplete_finish_same) | (with_reducible apply fabRead_same) | (with_reducible apply outSame_ite)
    | (with_reducible apply same_ite) | (simp only [same_mk_iff]) | split

theorem execXfer_same (g : GeK) {s : State}
    (hp : Sub (allow [.stats, .evt, .disp, .ge, .svc] [.evtRpt, .geDoorbell, .geEcc]) m) (h : Same m s0 s) :
    OutSame m s0 (execXfer g s) := by
  unfold execXfer
  repeat' first
    | (with_reducible assumption) | (with_reducible refine Sub.trans ?_ hp; decide) | (with_reducible apply outSame_next)
    | (with_reducible apply stallBundle_same) | (with_reducible apply slotOp_same) | (with_reducible apply outSame_ite)

theorem execXorOp_same (g : GeC) {s : State}
    (hp : Sub (allow [.stats, .evt, .disp, .ge, .svc] [.evtRpt, .geDoorbell, .geEcc]) m) (h : Same m s0 s) :
    OutSame m s0 (execXorOp g s) := by
  unfold execXorOp
  repeat' first | (with_reducible assumption) | (with_reducible apply outSame_next) | (with_reducible apply geInt_same)

theorem execXwait_same (g : GeK) {s : State}
    (hp : Sub (allow [.stats, .evt, .disp, .ge, .svc] [.evtRpt, .geDoorbell, .geEcc]) m) (h : Same m s0 s) :
    OutSame m s0 (execXwait g s) := by
  unfold execXwait
  repeat' first
    | (with_reducible assumption) | (with_reducible refine Sub.trans ?_ hp; decide) | (with_reducible apply outSame_next)
    | (with_reducible apply stallBundle_same) | (with_reducible apply slotOp_same) | (with_reducible apply outSame_ite)

theorem execYield_same (g : GeK) {s : State}
    (hp : Sub (allow [.stats, .evt, .disp, .ge, .svc] [.evtRpt, .geDoorbell, .geEcc]) m) (h : Same m s0 s) :
    OutSame m s0 (execYield g s) := by
  unfold execYield
  repeat' first | (with_reducible assumption) | (with_reducible apply outSame_next) | (with_reducible apply slotOp_same)

/-! ## CmdHk -/

theorem execAmplifierFault_same (a : Nat) (cause : Nat) {s : State}
    (hp : Sub (allow [.fresh, .evt, .fe, .bm, .hk] [.bdacChCode, .bdacDrnFault, .bdacDrnReq, .bdacDrnStat, .evtRpt]) m) (h : Same m s0 s) :
    OutSame m s0 (execAmplifierFault a cause s) := by
  unfold execAmplifierFault
  repeat' first
    | (with_reducible assumption) | (with_reducible apply outSame_next) | (with_reducible apply ampFault_same)
    | (with_reducible apply outSame_ite)

theorem hkWrite_same {s : State} (tag : Nat) (id : RegId) (ix : List Nat) (v : Nat)
    (hp : Sub (allowAny [.clk, .freeCtr, .regsStaged, .objs, .stats, .fresh, .ctl, .evt, .out, .tl, .adm, .diong, .sec, .lo, .fe, .cvt,
        .rx, .bm, .dpds, .disp, .ge, .lnk, .mem, .pwr, .hk, .svc, .boot, .nv, .marks, .air]) m) (h : Same m s0 s) :
    Same m s0 (hkWrite s tag id ix v) := by
  unfold hkWrite
  repeat' first
    | (with_reducible assumption) | (with_reducible refine Sub.trans ?_ hp; decide) | (with_reducible apply emit_same)
    | (with_reducible apply regWrite_same) | (with_reducible apply same_ite)

theorem execBdacCodeWrite_same (tag : Nat) (c : Nat) (value : Nat) {s : State}
    (hp : Sub (allowAny [.clk, .freeCtr, .regsStaged, .objs, .stats, .fresh, .ctl, .evt, .out, .tl, .adm, .diong, .sec, .lo, .fe, .cvt,
        .rx, .bm, .dpds, .disp, .ge, .lnk, .mem, .pwr, .hk, .svc, .boot, .nv, .marks, .air]) m) (h : Same m s0 s) :
    OutSame m s0 (execBdacCodeWrite tag c value s) := by
  unfold execBdacCodeWrite
  repeat' first
    | (with_reducible assumption) | (with_reducible apply outSame_next) | (with_reducible apply hkWrite_same)
    | (with_reducible apply outSame_ite)

theorem execBdacOutputStep_same (c : Nat) {s : State}
    (hp : Sub (allow [.clk, .hk, .air] [.bdacChCode, .bdacDrnStat]) m) (h : Same m s0 s) :
    OutSame m s0 (execBdacOutputStep c s) := by
  unfold execBdacOutputStep
  repeat' first
    | (with_reducible assumption) | (with_reducible apply outSame_next) | (with_reducible apply outputStep_same)
    | (with_reducible apply outSame_ite)

theorem execBdacShort_same (c : Nat) (on : Bool) {s : State}
    (hp : Sub (allowAny [.fresh, .evt, .hk]) m) (h : Same m s0 s) :
    OutSame m s0 (execBdacShort c on s) := by
  unfold execBdacShort
  repeat' first
    | (with_reducible assumption) | (with_reducible refine Sub.trans ?_ hp; decide) | (with_reducible refine any_bit _ hp ?_; decide)
    | (with_reducible apply outSame_next) | (with_reducible apply State_setBias_same) | (with_reducible apply raise_same)
    | (with_reducible apply setFlag_same) | (with_reducible apply outSame_ite) | (with_reducible apply same_ite)

theorem execBdacShortTimeout_same (c : Nat) {s : State}
    (hp : Sub (allow [.clk, .fresh, .evt, .fe, .bm, .hk, .air] [.bdacChCode, .bdacDrnFault, .bdacDrnReq, .bdacDrnStat, .evtRpt]) m) (h :
        Same m s0 s) :
    OutSame m s0 (execBdacShortTimeout c s) := by
  unfold execBdacShortTimeout
  repeat' first
    | (with_reducible assumption) | (with_reducible refine Sub.trans ?_ hp; decide) | (with_reducible apply outSame_next)
    | (with_reducible apply ampFault_same) | (with_reducible apply reachElapsed_same) | (with_reducible apply outSame_ite)

theorem execBdacStrobe_same (n : Nat) {s : State}
    (hp : Sub (allow [.clk, .evt, .tl, .hk, .air] [.bdacChCode, .bdacDrnStat, .evtRpt, .tlEvtDrop]) m) (h : Same m s0 s) :
    OutSame m s0 (execBdacStrobe n s) := by
  unfold execBdacStrobe
  repeat' first
    | (with_reducible assumption) | (with_reducible refine Sub.trans ?_ hp; decide) | (intro _) | (with_reducible apply outSame_next)
    | (with_reducible apply fireEvent_same) | (with_reducible apply strobeGroup_same)

theorem execBdacStrobeWrite_same (tag : Nat) (value : Nat) {s : State}
    (hp : Sub (allowAny [.clk, .freeCtr, .regsStaged, .objs, .stats, .fresh, .ctl, .evt, .out, .tl, .adm, .diong, .sec, .lo, .fe, .cvt,
        .rx, .bm, .dpds, .disp, .ge, .lnk, .mem, .pwr, .hk, .svc, .boot, .nv, .marks, .air]) m) (h : Same m s0 s) :
    OutSame m s0 (execBdacStrobeWrite tag value s) := by
  unfold execBdacStrobeWrite
  repeat' first | (with_reducible assumption) | (with_reducible apply outSame_next) | (with_reducible apply hkWrite_same)

theorem execBdacSuppliesGood_same {s : State}
    (hp : Sub (allow [.hk] [.bdacChCode, .bdacDrnStat, .bdacStat]) m) (h : Same m s0 s) :
    OutSame m s0 (execBdacSuppliesGood s) := by
  unfold execBdacSuppliesGood
  repeat' first
    | (with_reducible assumption) | (with_reducible refine Sub.bit hp ?_; decide) | (with_reducible refine Sub.trans ?_ hp; decide)
    | (with_reducible apply outSame_next) | (with_reducible apply wf_same) | (with_reducible apply drainRise_same)
    | (with_reducible apply safeCode_same) | (with_reducible apply outSame_ite) | (with_reducible apply same_ite)
    | (with_reducible refine same_foldl ?_ ?_; intro _ _ _)

theorem execBdacSupplyLow_same (which : Nat) {s : State}
    (hp : Sub (allow [.fresh, .evt, .fe, .bm, .hk] [.bdacChCode, .bdacDrnFault, .bdacDrnReq, .bdacDrnStat, .bdacStat, .evtRpt]) m) (h :
        Same m s0 s) :
    OutSame m s0 (execBdacSupplyLow which s) := by
  unfold execBdacSupplyLow
  repeat' first
    | (with_reducible assumption) | (with_reducible apply outSame_next) | (with_reducible apply supplyLow_same)
    | (with_reducible apply outSame_ite)

theorem execDrainFaultClear_same (tag : Nat) (value : Nat) {s : State}
    (hp : Sub (allowAny [.clk, .freeCtr, .regsStaged, .objs, .stats, .fresh, .ctl, .evt, .out, .tl, .adm, .diong, .sec, .lo, .fe, .cvt,
        .rx, .bm, .dpds, .disp, .ge, .lnk, .mem, .pwr, .hk, .svc, .boot, .nv, .marks, .air]) m) (h : Same m s0 s) :
    OutSame m s0 (execDrainFaultClear tag value s) := by
  unfold execDrainFaultClear
  repeat' first | (with_reducible assumption) | (with_reducible apply outSame_next) | (with_reducible apply hkWrite_same)

theorem execDrainReadbackMismatch_same (a : Nat) {s : State}
    (hp : Sub (allow [.fresh, .evt, .fe, .bm, .hk] [.bdacChCode, .bdacDrnFault, .bdacDrnReq, .bdacDrnStat, .evtRpt]) m) (h : Same m s0 s) :
    OutSame m s0 (execDrainReadbackMismatch a s) := by
  unfold execDrainReadbackMismatch
  repeat' first
    | (with_reducible assumption) | (with_reducible apply outSame_next) | (with_reducible apply ampFault_same)
    | (with_reducible apply outSame_ite)

theorem execDrainRequest_same (tag : Nat) (value : Nat) {s : State}
    (hp : Sub (allowAny [.clk, .freeCtr, .regsStaged, .objs, .stats, .fresh, .ctl, .evt, .out, .tl, .adm, .diong, .sec, .lo, .fe, .cvt,
        .rx, .bm, .dpds, .disp, .ge, .lnk, .mem, .pwr, .hk, .svc, .boot, .nv, .marks, .air]) m) (h : Same m s0 s) :
    OutSame m s0 (execDrainRequest tag value s) := by
  unfold execDrainRequest
  repeat' first | (with_reducible assumption) | (with_reducible apply outSame_next) | (with_reducible apply hkWrite_same)

theorem execFanWatchdogExpiry_same (n : Nat) {s : State}
    (hp : Sub (allow [.clk, .evt, .hk, .air] [.evtRpt, .thmPwmDuty]) m) (h : Same m s0 s) :
    OutSame m s0 (execFanWatchdogExpiry n s) := by
  unfold execFanWatchdogExpiry
  repeat' first
    | (with_reducible assumption) | (with_reducible refine Sub.trans ?_ hp; decide) | (with_reducible apply outSame_next)
    | (with_reducible apply fanWatchdog_same) | (with_reducible apply reachElapsed_same) | (with_reducible apply outSame_ite)

theorem execFaultSafeCode_same (a : Nat) {s : State}
    (hp : Sub (allow [.clk, .hk, .air] [.bdacChCode]) m) (h : Same m s0 s) :
    OutSame m s0 (execFaultSafeCode a s) := by
  unfold execFaultSafeCode
  repeat' first
    | (with_reducible assumption) | (with_reducible exact Free.rfl) | (with_reducible refine Free.bit hp ?_; decide)
    | (with_reducible refine Sub.trans ?_ hp; decide) | (with_reducible apply outSame_next) | (with_reducible apply reachElapsed_same)
    | (with_reducible apply safeCode_same) | (with_reducible apply outSame_ite) | (with_reducible refine same_foldl ?_ ?_; intro _ _ _)
    | (with_reducible apply same_parts)
    | (simp only [same_mk_iff])

theorem settleServed_same {s : State}
    (hp : Sub (allow [.fresh, .evt, .mem] [.dmaRingStat, .evtRpt]) m) (h : Same m s0 s) :
    Same m s0 (settleServed s) := by
  unfold settleServed
  repeat' first | (with_reducible assumption) | (with_reducible apply settleRing_same) | split

theorem roundPaths_same {s : State}
    (hp : Sub (allow [.hk] []) m) (h : Same m s0 s) :
    Same m s0 (roundPaths s) := by
  unfold roundPaths
  repeat' first
    | (with_reducible assumption) | (with_reducible exact Free.rfl) | (with_reducible refine Free.bit hp ?_; decide)
    | (with_reducible apply same_parts)
    | (simp only [same_mk_iff])

theorem roundShutdown_same {s : State}
    (hp : Sub (allowAny [.clk, .objs, .objGen, .stats, .islands, .ctl, .evt, .tl, .sec, .lo, .fe, .cvt, .rx, .disp, .ge, .cal, .lnk, .mem,
        .pwr, .hk, .svc, .nv, .marks, .air]) m) (h : Same m s0 s) :
    Same m s0 (roundShutdown s) := by
  unfold roundShutdown
  repeat' first
    | (with_reducible assumption) | (with_reducible exact Free.rfl) | (with_reducible refine Free.bit hp ?_; decide)
    | (with_reducible refine Sub.trans ?_ hp; decide) | (with_reducible apply thermalShutdown_same)
    | (with_reducible apply shutdownEnds_same) | (with_reducible apply same_ite)
    | (with_reducible apply same_parts)
    | (simp only [same_mk_iff])

theorem roundSensors_same {s : State} (readings : List Int) (stopped : List Nat)
    (hp : Sub (allow [.evt, .hk] [.evtRpt, .thmBroken0, .thmBroken1, .thmSens, .thmStat]) m) (h : Same m s0 s) :
    Same m s0 (roundSensors s readings stopped) := by
  unfold roundSensors
  repeat' first
    | (with_reducible assumption) | (with_reducible refine Sub.bit hp ?_; decide) | (with_reducible refine Sub.trans ?_ hp; decide)
    | (with_reducible apply senseOne_same) | (with_reducible apply throttle_same) | (with_reducible apply wf_same)
    | (with_reducible refine same_foldl ?_ ?_; intro _ _ _)

theorem roundMonitor_same {s : State} (x1 : Nat)
    (hp : Sub (allow [.fresh, .evt, .hk] [.evtRpt, .monLost, .monStat]) m) (h : Same m s0 s) :
    Same m s0 (roundMonitor s x1) := by
  unfold roundMonitor
  repeat' first
    | (with_reducible assumption) | (with_reducible refine Sub.trans ?_ hp; decide) | (with_reducible apply monTrigger_same)
    | (with_reducible apply State_setMon_same) | (with_reducible apply same_ite) | (simp only [same_mk_iff]) | split

theorem roundReplicas_same {s : State} (bad : List Nat)
    (hp : Sub (allow [.freeCtr, .stats, .evt, .diong] [.evtRpt]) m) (h : Same m s0 s) :
    Same m s0 (roundReplicas s bad) := by
  unfold roundReplicas
  repeat' first
    | (with_reducible assumption) | (with_reducible exact Free.rfl) | (with_reducible refine Free.bit hp ?_; decide)
    | (with_reducible refine Sub.trans ?_ hp; decide) | (with_reducible apply draw_same) | (with_reducible apply raise_same)
    | (with_reducible apply stat_same) | (with_reducible apply same_ite) | (with_reducible refine same_foldl ?_ ?_; intro _ _ _)
    | (with_reducible apply same_parts)
    | (simp only [same_mk_iff])

theorem execHousekeepingRound_same (readings : List Int) (stopped : List Nat) (shared : Option (Int × Int)) (vddCore : Nat) (replicas :
        List Nat) {s : State}
    (hp : Sub (allowAny [.clk, .freeCtr, .objs, .objGen, .stats, .islands, .fresh, .ctl, .evt, .tl, .diong, .sec, .lo, .fe, .cvt, .rx, .bm,
        .dpds, .disp, .ge, .cal, .lnk, .mem, .pwr, .hk, .svc, .nv, .marks, .air]) m) (h : Same m s0 s) :
    OutSame m s0 (execHousekeepingRound readings stopped shared vddCore replicas s) := by
  unfold execHousekeepingRound
  repeat' first
    | (with_reducible assumption) | (with_reducible exact Free.rfl) | (with_reducible refine Free.bit hp ?_; decide)
    | (with_reducible refine Sub.trans ?_ hp; decide) | (with_reducible apply outSame_next) | (with_reducible apply reachElapsed_same)
    | (with_reducible apply settleServed_same) | (with_reducible apply roundPaths_same) | (with_reducible apply roundShutdown_same)
    | (with_reducible apply roundSensors_same) | (with_reducible apply coreVoltage_same) | (with_reducible apply ampRound_same)
    | (with_reducible apply fanStall_same) | (with_reducible apply fanWatchdog_same) | (with_reducible apply fanUpdate_same)
    | (with_reducible apply roundMonitor_same) | (with_reducible apply sharedResults_same) | (with_reducible apply roundReplicas_same)
    | (with_reducible apply outSame_ite) | (with_reducible apply same_ite) | (with_reducible refine same_foldl ?_ ?_; intro _ _ _)
    | (with_reducible apply same_parts)
    | (simp only [same_mk_iff]) | split

theorem execLdacEdge_same {s : State}
    (hp : Sub (allow [.clk, .freeCtr, .hk, .air] [.bdacChCode, .bdacDrnStat]) m) (h : Same m s0 s) :
    OutSame m s0 (execLdacEdge s) := by
  unfold execLdacEdge
  repeat' first
    | (with_reducible assumption) | (with_reducible refine Sub.trans ?_ hp; decide) | (with_reducible apply outSame_next)
    | (with_reducible apply draw_same) | (with_reducible apply passTicks_same) | (with_reducible apply strobeMask_same)
    | (with_reducible apply outSame_ite)

theorem execMonDataRead_same (x0 : Nat) {s : State}
    (hp : Sub (allow [.freeCtr, .out, .sec, .ge] [.dbgChalId, .monData, .tlNowHi]) m) (h : Same m s0 s) :
    OutSame m s0 (execMonDataRead x0 s) := by
  unfold execMonDataRead
  repeat' first
    | (with_reducible assumption) | (with_reducible refine Sub.trans ?_ hp; decide) | (with_reducible apply outSame_next)
    | (with_reducible apply emit_same) | (with_reducible apply regRead_same) | (with_reducible apply outSame_ite)

theorem execMonEntryResult_same (x0 : Nat) (result : Int) (meanAbs : Nat) {s : State}
    (hp : Sub (allow [.clk, .fresh, .evt, .fe, .bm, .hk, .air] [.bdacChCode, .bdacDrnFault, .bdacDrnReq, .bdacDrnStat, .evtRpt, .monData,
        .monStat, .thmAmpCfg]) m) (h : Same m s0 s) :
    OutSame m s0 (execMonEntryResult x0 result meanAbs s) := by
  unfold execMonEntryResult
  repeat' first
    | (with_reducible assumption) | (with_reducible apply outSame_next) | (with_reducible apply monResult_same)
    | (with_reducible apply outSame_ite)

theorem execMonTrigger_same (tag : Nat) (x1 : Nat) {s : State}
    (hp : Sub (allowAny [.clk, .freeCtr, .regsStaged, .objs, .stats, .fresh, .ctl, .evt, .out, .tl, .adm, .diong, .sec, .lo, .fe, .cvt,
        .rx, .bm, .dpds, .disp, .ge, .lnk, .mem, .pwr, .hk, .svc, .boot, .nv, .marks, .air]) m) (h : Same m s0 s) :
    OutSame m s0 (execMonTrigger tag x1 s) := by
  unfold execMonTrigger
  repeat' first
    | (with_reducible assumption) | (with_reducible apply outSame_next) | (with_reducible apply hkWrite_same)
    | (with_reducible apply outSame_ite)

theorem execTachEdge_same (n : Nat) {s : State}
    (hp : Sub (allow [.freeCtr, .hk] [.thmTach]) m) (h : Same m s0 s) :
    OutSame m s0 (execTachEdge n s) := by
  unfold execTachEdge
  repeat' first
    | (with_reducible assumption) | (with_reducible refine Sub.bit hp ?_; decide) | (with_reducible refine Sub.trans ?_ hp; decide)
    | (with_reducible apply outSame_next) | (with_reducible apply State_setFan_same) | (with_reducible apply wf_same)
    | (with_reducible apply draw_same) | (with_reducible apply outSame_ite)

theorem execThermalCarrierDrop_same {s : State}
    (hp : Sub (allowAny [.clk, .freeCtr, .objs, .objGen, .stats, .subs, .fresh, .evt, .tl, .adm, .diong, .lo, .fe, .cvt, .rx, .tx, .bm,
        .dpds, .disp, .ge, .lnk, .mem, .hk, .marks, .air]) m) (h : Same m s0 s) :
    OutSame m s0 (execThermalCarrierDrop s) := by
  unfold execThermalCarrierDrop
  repeat' first
    | (with_reducible assumption) | (with_reducible exact Free.rfl) | (with_reducible refine Free.bit hp ?_; decide)
    | (with_reducible refine Sub.trans ?_ hp; decide) | (with_reducible apply outSame_next) | (with_reducible apply reachElapsed_same)
    | (with_reducible apply toFrame_same) | (with_reducible apply removalDone_same) | (with_reducible apply disableCarrier_same)
    | (with_reducible apply raise_same) | (with_reducible apply outSame_ite) | (with_reducible apply same_ite)
    | (with_reducible apply same_parts)
    | (simp only [same_mk_iff]) | split

theorem execThmFanStall_same (n : Nat) {s : State}
    (hp : Sub (allow [.clk, .fresh, .evt, .air] [.evtRpt, .thmTach]) m) (h : Same m s0 s) :
    OutSame m s0 (execThmFanStall n s) := by
  unfold execThmFanStall
  repeat' first
    | (with_reducible assumption) | (with_reducible refine Sub.trans ?_ hp; decide) | (with_reducible apply outSame_next)
    | (with_reducible apply fanStall_same) | (with_reducible apply reachElapsed_same) | (with_reducible apply outSame_ite)

theorem execVtargetUpdate_same (mv : Nat) {s : State}
    (hp : Sub (allow [.clk, .hk, .air] [.pwrAvs]) m) (h : Same m s0 s) :
    OutSame m s0 (execVtargetUpdate mv s) := by
  unfold execVtargetUpdate
  repeat' first
    | (with_reducible assumption) | (with_reducible exact Free.rfl) | (with_reducible refine Free.bit hp ?_; decide)
    | (with_reducible refine Sub.bit hp ?_; decide) | (with_reducible refine Sub.trans ?_ hp; decide)
    | (with_reducible apply outSame_next) | (with_reducible apply reachElapsed_same) | (with_reducible apply wf_same)
    | (with_reducible apply outSame_ite) | (with_reducible apply same_ite)
    | (with_reducible apply same_parts)
    | (simp only [same_mk_iff])

/-! ## CmdLink -/

theorem execCaptureStream_same (b : Nat) {s : State}
    (hp : Sub (allow [.clk, .freeCtr, .stats, .addrFaultRec, .evt, .out, .sec, .cvt, .ge, .lnk, .air] [.capStat, .dbgChalId, .evtRpt,
        .memFault, .monData, .tlNowHi]) m) (h : Same m s0 s) :
    OutSame m s0 (execCaptureStream b s) := by
  unfold execCaptureStream
  repeat' first
    | (with_reducible assumption) | (with_reducible exact Free.rfl) | (with_reducible refine Free.bit hp ?_; decide)
    | (with_reducible refine Sub.trans ?_ hp; decide) | (with_reducible apply outSame_next) | (with_reducible apply reachElapsed_same)
    | (with_reducible apply fabRead_same) | (with_reducible apply sendMessage_same) | (with_reducible apply State_setBuf_same)
    | (with_reducible apply releaseBuffer_same) | (with_reducible apply outSame_ite)
    | (with_reducible refine same_foldl ?_ ?_; intro _ _ _)
    | (with_reducible apply same_parts)
    | (simp only [same_mk_iff])

theorem onFrame_same {s : State} (f : LnkFrame) (ty : Nat) (policed : Bool) {act : State → State}
    (ha : ∀ t, Same m s0 t → Same m s0 (act t)) (hp : Sub (allow [.clk, .stats, .evt, .lnk, .air] [.evtRpt, .lnkPortDrop, .lnkPortLate]) m)
        (h : Same m s0 s) :
    Same m s0 (onFrame s f ty policed act) := by
  unfold onFrame
  repeat' first
    | (with_reducible assumption) | (with_reducible apply admitFrame_same) | (with_reducible apply ha)
    | (with_reducible refine same_eq_snd (by assumption) ?_) | split

theorem execDelayRequest_same (f : LnkFrame) {s : State}
    (hp : Sub (allow [.clk, .stats, .evt, .out, .lnk, .air] [.evtRpt, .lnkPortDrop, .lnkPortLate]) m) (h : Same m s0 s) :
    OutSame m s0 (execDelayRequest f s) := by
  unfold execDelayRequest
  repeat' first
    | (with_reducible assumption) | (with_reducible refine Sub.trans ?_ hp; decide) | (intro _) | (with_reducible apply outSame_next)
    | (with_reducible apply onFrame_same) | (with_reducible apply sendMessage_same) | (with_reducible apply same_ite)

theorem execDlWindowClose_same (cc : Nat) {s : State}
    (hp : Sub (allow [.clk, .stats, .evt, .air] [.evtRpt]) m) (h : Same m s0 s) :
    OutSame m s0 (execDlWindowClose cc s) := by
  unfold execDlWindowClose
  repeat' first
    | (with_reducible assumption) | (with_reducible refine Sub.trans ?_ hp; decide) | (with_reducible apply outSame_next)
    | (with_reducible apply toBoundary_same) | (with_reducible apply windowClose_same) | (with_reducible apply outSame_ite)
    | (with_reducible apply same_ite) | (simp only [same_mk_iff]) | split

theorem execEsmcReceive_same (ql : Nat) {s : State}
    (hp : Sub (allow [.evt, .lnk] [.evtRpt, .lnkSynceStat]) m) (h : Same m s0 s) :
    OutSame m s0 (execEsmcReceive ql s) := by
  unfold execEsmcReceive
  repeat' first
    | (with_reducible assumption) | (with_reducible exact Free.rfl) | (with_reducible refine Free.bit hp ?_; decide)
    | (with_reducible refine Sub.bit hp ?_; decide) | (with_reducible refine Sub.trans ?_ hp; decide)
    | (with_reducible apply outSame_next) | (with_reducible apply synceAgain_same) | (with_reducible apply raise_same)
    | (with_reducible apply wf_same) | (with_reducible apply outSame_ite) | (with_reducible apply same_ite)
    | (with_reducible apply same_parts)
    | (simp only [same_mk_iff])

theorem execEsmcSend_same (n : Nat) {s : State}
    (hp : Sub (allow [.clk, .out, .lnk, .air] []) m) (h : Same m s0 s) :
    OutSame m s0 (execEsmcSend n s) := by
  unfold execEsmcSend
  repeat' first
    | (with_reducible assumption) | (with_reducible refine Sub.trans ?_ hp; decide) | (with_reducible apply outSame_next)
    | (with_reducible apply reachElapsed_same) | (with_reducible apply emit_same) | (with_reducible apply State_setPort_same)
    | (with_reducible apply outSame_ite) | (with_reducible apply same_ite)

theorem execEventIndicationSend_same (n : Nat) {s : State}
    (hp : Sub (allow [.out, .lnk] []) m) (h : Same m s0 s) :
    OutSame m s0 (execEventIndicationSend n s) := by
  unfold execEventIndicationSend
  repeat' first
    | (with_reducible assumption) | (with_reducible refine Sub.trans ?_ hp; decide) | (with_reducible apply outSame_next)
    | (with_reducible apply sendEvent_same) | (with_reducible apply State_setPort_same) | (with_reducible apply outSame_ite)
    | (simp only [same_mk_iff]) | split

theorem execFollowUp_same (f : LnkFrame) {s : State}
    (hp : Sub (allow [.clk, .stats, .evt, .out, .lnk, .air] [.evtRpt, .lnkPortDrop, .lnkPortLate]) m) (h : Same m s0 s) :
    OutSame m s0 (execFollowUp f s) := by
  unfold execFollowUp
  repeat' first
    | (with_reducible assumption) | (with_reducible refine Sub.trans ?_ hp; decide) | (intro _) | (with_reducible apply outSame_next)
    | (with_reducible apply onFrame_same) | (with_reducible apply State_setPort_same) | (with_reducible apply sendMessage_same)
    | (simp only [same_mk_iff]) | split

theorem execGenericDataMessage_same (f : LnkFrame) {s : State}
    (hp : Sub (allow [.clk, .stats, .evt, .bm, .lnk, .air] [.bfWrej, .evtRpt, .lnkPortDrop, .lnkPortLate]) m) (h : Same m s0 s) :
    OutSame m s0 (execGenericDataMessage f s) := by
  unfold execGenericDataMessage
  repeat' first
    | (with_reducible assumption) | (with_reducible refine Sub.trans ?_ hp; decide) | (intro _) | (with_reducible apply outSame_next)
    | (with_reducible apply onFrame_same) | (with_reducible apply weightBlock_same) | (with_reducible apply dropMsg_same)
    | (with_reducible apply same_ite)

theorem execIndicationAck_same (f : LnkFrame) {s : State}
    (hp : Sub (allow [.clk, .stats, .evt, .lnk, .air] [.evtRpt, .lnkPortDrop, .lnkPortLate]) m) (h : Same m s0 s) :
    OutSame m s0 (execIndicationAck f s) := by
  unfold execIndicationAck
  repeat' first
    | (with_reducible assumption) | (with_reducible refine Sub.trans ?_ hp; decide) | (intro _) | (with_reducible apply outSame_next)
    | (with_reducible apply onFrame_same) | (with_reducible apply State_setPort_same) | (with_reducible apply same_ite)

theorem execIndicationResend_same (n : Nat) (id : Nat) {s : State}
    (hp : Sub (allow [.clk, .evt, .out, .lnk, .air] [.evtRpt]) m) (h : Same m s0 s) :
    OutSame m s0 (execIndicationResend n id s) := by
  unfold execIndicationResend
  repeat' first
    | (with_reducible assumption) | (with_reducible refine Sub.trans ?_ hp; decide) | (with_reducible apply outSame_next)
    | (with_reducible apply reachElapsed_same) | (with_reducible apply sendMessage_same) | (with_reducible apply State_setPort_same)
    | (with_reducible apply raise_same) | (with_reducible apply outSame_ite) | (simp only [same_mk_iff]) | split

theorem execIqDataMessage_same (f : LnkFrame) {s : State}
    (hp : Sub (allow [.clk, .stats, .evt, .lnk, .air] [.evtRpt, .lnkPortDrop, .lnkPortLate]) m) (h : Same m s0 s) :
    OutSame m s0 (execIqDataMessage f s) := by
  unfold execIqDataMessage
  repeat' first
    | (with_reducible assumption) | (with_reducible refine Sub.trans ?_ hp; decide) | (intro _) | (with_reducible apply outSame_next)
    | (with_reducible apply onFrame_same) | (with_reducible apply iqSection_same)

theorem execLaneReturnToSpare_same (role : Role) (lane : Nat) {s : State}
    (hp : Sub (allow [.subs, .nv] [.lnkLaneStat]) m) (h : Same m s0 s) :
    OutSame m s0 (execLaneReturnToSpare role lane s) := by
  unfold execLaneReturnToSpare
  repeat' first
    | (with_reducible assumption) | (with_reducible exact Free.rfl) | (with_reducible refine Free.bit hp ?_; decide)
    | (with_reducible refine Sub.trans ?_ hp; decide) | (with_reducible apply outSame_next) | (with_reducible apply setLaneState_same)
    | (with_reducible apply outSame_ite)
    | (with_reducible apply same_parts)
    | (simp only [same_mk_iff])

theorem execLinkLaneFailure_same (lane : Nat) {s : State}
    (hp : Sub (allow [.subs, .evt, .lnk, .nv] [.evtRpt, .lnkLaneStat, .lnkPortStat]) m) (h : Same m s0 s) :
    OutSame m s0 (execLinkLaneFailure lane s) := by
  unfold execLinkLaneFailure
  repeat' first
    | (with_reducible assumption) | (with_reducible apply outSame_next) | (with_reducible apply laneFails_same)
    | (with_reducible apply outSame_ite)

theorem execLinkLaneRxMove_same (n : Nat) {s : State}
    (hp : Sub (allow [.lnk] []) m) (h : Same m s0 s) :
    OutSame m s0 (execLinkLaneRxMove n s) := by
  unfold execLinkLaneRxMove
  repeat' first
    | (with_reducible assumption) | (with_reducible exact Free.rfl) | (with_reducible refine Free.bit hp ?_; decide)
    | (with_reducible apply outSame_next)
    | (with_reducible apply same_parts)
    | (simp only [same_mk_iff])

theorem execLinkLaneTxMove_same (n : Nat) {s : State}
    (hp : Sub (allow [.lnk] []) m) (h : Same m s0 s) :
    OutSame m s0 (execLinkLaneTxMove n s) := by
  unfold execLinkLaneTxMove
  repeat' first
    | (with_reducible assumption) | (with_reducible exact Free.rfl) | (with_reducible refine Free.bit hp ?_; decide)
    | (with_reducible apply outSame_next)
    | (with_reducible apply same_parts)
    | (simp only [same_mk_iff])

theorem execLinkRealignTimeout_same (n : Nat) {s : State}
    (hp : Sub (allow [.clk, .subs, .evt, .lnk, .svc, .nv, .air] [.evtRpt, .lnkLaneMap, .lnkLaneStat, .lnkPortStat]) m) (h : Same m s0 s) :
    OutSame m s0 (execLinkRealignTimeout n s) := by
  unfold execLinkRealignTimeout
  repeat' first
    | (with_reducible assumption) | (with_reducible refine Sub.trans ?_ hp; decide) | (with_reducible apply outSame_next)
    | (with_reducible apply reachElapsed_same) | (with_reducible apply portLost_same) | (with_reducible apply lastSpare_same)
    | (with_reducible apply laneMoved_same) | (simp only [same_mk_iff]) | split

theorem execLnkLaneSpared_same (n : Nat) (lost : Nat) {s : State}
    (hp : Sub (allow [.stats, .subs, .evt, .lnk, .svc, .nv] [.evtRpt, .lnkLaneMap, .lnkLaneStat, .lnkPortStat]) m) (h : Same m s0 s) :
    OutSame m s0 (execLnkLaneSpared n lost s) := by
  unfold execLnkLaneSpared
  repeat' first
    | (with_reducible assumption) | (with_reducible refine Sub.bit hp ?_; decide) | (with_reducible refine Sub.trans ?_ hp; decide)
    | (with_reducible apply outSame_next) | (with_reducible apply wbit_same) | (with_reducible apply laneMoved_same)
    | (with_reducible apply stat_same) | (with_reducible apply lastSpare_same) | (with_reducible apply raise_same)
    | (with_reducible apply same_ite) | (simp only [same_mk_iff]) | split

theorem execLnkPpsInLoss_same {s : State}
    (hp : Sub (allow [.clk, .evt, .lnk, .air] [.evtRpt, .lnkPtpStat, .tlStatus]) m) (h : Same m s0 s) :
    OutSame m s0 (execLnkPpsInLoss s) := by
  unfold execLnkPpsInLoss
  repeat' first
    | (with_reducible assumption) | (with_reducible exact Free.rfl) | (with_reducible refine Free.bit hp ?_; decide)
    | (with_reducible refine Sub.trans ?_ hp; decide) | (with_reducible apply outSame_next) | (with_reducible apply reachElapsed_same)
    | (with_reducible apply raise_same) | (with_reducible apply holdover_same) | (with_reducible apply outSame_ite)
    | (with_reducible apply same_ite)
    | (with_reducible apply same_parts)
    | (simp only [same_mk_iff])

theorem execPortStateChange_same (n : Nat) (aligned : Bool) (saValid : Bool) {s : State}
    (hp : Sub (allow [.evt, .lnk] [.evtRpt, .lnkPortStat]) m) (h : Same m s0 s) :
    OutSame m s0 (execPortStateChange n aligned saValid s) := by
  unfold execPortStateChange
  repeat' first
    | (with_reducible assumption) | (with_reducible apply outSame_next) | (with_reducible apply portState_same)
    | (with_reducible apply outSame_ite)

theorem execPpsInEdge_same (tick : Nat) {s : State}
    (hp : Sub (allowAny [.clk, .objs, .objGen, .evt, .tl, .rx, .lnk, .air]) m) (h : Same m s0 s) :
    OutSame m s0 (execPpsInEdge tick s) := by
  unfold execPpsInEdge
  repeat' first
    | (with_reducible assumption) | (with_reducible exact Free.rfl) | (with_reducible refine Free.bit hp ?_; decide)
    | (with_reducible refine Sub.bit hp ?_; decide) | (with_reducible refine Sub.trans ?_ hp; decide)
    | (with_reducible apply outSame_next) | (with_reducible apply reachCount_same) | (with_reducible apply wbit_same)
    | (with_reducible apply timeCorrection_same) | (with_reducible apply State_setObj_same) | (with_reducible apply outSame_ite)
    | (with_reducible apply same_parts)
    | (simp only [same_mk_iff]) | split

theorem execPpsOutEdge_same {s : State}
    (hp : Sub (allow [.clk, .out, .air] []) m) (h : Same m s0 s) :
    OutSame m s0 (execPpsOutEdge s) := by
  unfold execPpsOutEdge
  repeat' first
    | (with_reducible assumption) | (with_reducible refine Sub.trans ?_ hp; decide) | (with_reducible apply outSame_next)
    | (with_reducible apply toBoundary_same) | (with_reducible apply emit_same) | (with_reducible apply same_ite)

theorem execPtpHoldoverEntry_same {s : State}
    (hp : Sub (allow [.evt, .lnk] [.evtRpt, .lnkPtpStat, .tlStatus]) m) (h : Same m s0 s) :
    OutSame m s0 (execPtpHoldoverEntry s) := by
  unfold execPtpHoldoverEntry
  repeat' first | (with_reducible assumption) | (with_reducible apply outSame_next) | (with_reducible apply holdover_same)

theorem execPtpMasterChange_same (n : Nat) (clockClass : Nat) (identity : Nat) {s : State}
    (hp : Sub (allow [.evt, .lnk] [.evtRpt, .lnkPtpStat, .tlStatus]) m) (h : Same m s0 s) :
    OutSame m s0 (execPtpMasterChange n clockClass identity s) := by
  unfold execPtpMasterChange
  repeat' first
    | (with_reducible assumption) | (with_reducible exact Free.rfl) | (with_reducible refine Free.bit hp ?_; decide)
    | (with_reducible refine Sub.bit hp ?_; decide) | (with_reducible refine Sub.trans ?_ hp; decide)
    | (with_reducible apply outSame_next) | (with_reducible apply wf_same) | (with_reducible apply raise_same)
    | (with_reducible apply wbit_same) | (with_reducible apply outSame_ite) | (with_reducible apply same_ite)
    | (with_reducible apply same_parts)
    | (simp only [same_mk_iff])

theorem execPtpSyncInterval_same (quarterNs : Int) {s : State}
    (hp : Sub (allow [.evt, .lnk] [.evtRpt, .lnkPtpStat, .tlStatus]) m) (h : Same m s0 s) :
    OutSame m s0 (execPtpSyncInterval quarterNs s) := by
  unfold execPtpSyncInterval
  repeat' first
    | (with_reducible assumption) | (with_reducible exact Free.rfl) | (with_reducible refine Free.bit hp ?_; decide)
    | (with_reducible refine Sub.bit hp ?_; decide) | (with_reducible refine Sub.trans ?_ hp; decide)
    | (with_reducible apply outSame_next) | (with_reducible apply wf_same) | (with_reducible apply raise_same)
    | (with_reducible apply wbit_same) | (with_reducible apply ptpUnlock_same) | (with_reducible apply outSame_ite)
    | (with_reducible apply same_parts)
    | (simp only [same_mk_iff])

theorem execRealTimeControlMessage_same (f : LnkFrame) {s : State}
    (hp : Sub (allow [.clk, .stats, .evt, .lnk, .air] [.evtRpt, .lnkPortDrop, .lnkPortLate]) m) (h : Same m s0 s) :
    OutSame m s0 (execRealTimeControlMessage f s) := by
  unfold execRealTimeControlMessage
  repeat' first
    | (with_reducible assumption) | (with_reducible refine Sub.trans ?_ hp; decide) | (intro _) | (with_reducible apply outSame_next)
    | (with_reducible apply onFrame_same) | (with_reducible apply controlMessage_same)

theorem execRemoteRequest_same (f : LnkFrame) {s : State}
    (hp : Sub (allow [.clk, .stats, .evt, .out, .lnk, .air] [.evtRpt, .lnkPortDrop, .lnkPortLate]) m) (h : Same m s0 s) :
    OutSame m s0 (execRemoteRequest f s) := by
  unfold execRemoteRequest
  repeat' first
    | (with_reducible assumption) | (with_reducible refine Sub.trans ?_ hp; decide) | (intro _) | (with_reducible apply outSame_next)
    | (with_reducible apply onFrame_same) | (with_reducible apply sendMessage_same) | (with_reducible apply same_ite)

theorem execRequestWithFollowUp_same (f : LnkFrame) {s : State}
    (hp : Sub (allow [.clk, .stats, .evt, .lnk, .air] [.evtRpt, .lnkPortDrop, .lnkPortLate]) m) (h : Same m s0 s) :
    OutSame m s0 (execRequestWithFollowUp f s) := by
  unfold execRequestWithFollowUp
  repeat' first
    | (with_reducible assumption) | (with_reducible refine Sub.trans ?_ hp; decide) | (intro _) | (with_reducible apply outSame_next)
    | (with_reducible apply onFrame_same) | (with_reducible apply State_setPort_same) | (with_reducible apply same_ite)

theorem execSakInstall_same (n : Nat) (an : Nat) {s : State}
    (hp : Sub (allow [.evt, .sec, .lnk] [.evtRpt, .lnkPortStat]) m) (h : Same m s0 s) :
    OutSame m s0 (execSakInstall n an s) := by
  unfold execSakInstall
  repeat' first
    | (with_reducible assumption) | (with_reducible exact Free.rfl) | (with_reducible refine Free.bit hp ?_; decide)
    | (with_reducible refine Sub.bit hp ?_; decide) | (with_reducible refine Sub.trans ?_ hp; decide)
    | (with_reducible apply outSame_next) | (with_reducible apply State_setPort_same) | (with_reducible apply raise_same)
    | (with_reducible apply portState_same) | (with_reducible apply wf_same) | (with_reducible apply outSame_ite)
    | (with_reducible apply same_parts)
    | (simp only [same_mk_iff])

theorem execSynceResume_same {s : State}
    (hp : Sub (allow [.clk, .air] [.lnkSynceStat]) m) (h : Same m s0 s) :
    OutSame m s0 (execSynceResume s) := by
  unfold execSynceResume
  repeat' first
    | (with_reducible assumption) | (with_reducible refine Sub.bit hp ?_; decide) | (with_reducible refine Sub.trans ?_ hp; decide)
    | (with_reducible apply outSame_next) | (with_reducible apply wf_same) | (with_reducible apply reachElapsed_same)
    | (with_reducible apply outSame_ite)

theorem execSynceSquelch_same (cause : Nat) {s : State}
    (hp : Sub (allow [.clk, .evt, .lnk, .air] [.evtRpt, .lnkSynceStat]) m) (h : Same m s0 s) :
    OutSame m s0 (execSynceSquelch cause s) := by
  unfold execSynceSquelch
  repeat' first
    | (with_reducible assumption) | (with_reducible exact Free.rfl) | (with_reducible refine Free.bit hp ?_; decide)
    | (with_reducible refine Sub.bit hp ?_; decide) | (with_reducible refine Sub.trans ?_ hp; decide)
    | (with_reducible apply outSame_next) | (with_reducible apply reachElapsed_same) | (with_reducible apply wf_same)
    | (with_reducible apply raise_same) | (with_reducible apply outSame_ite) | (with_reducible apply same_ite)
    | (with_reducible apply same_parts)
    | (simp only [same_mk_iff])

theorem execSynchronisationRequest_same (f : LnkFrame) {s : State}
    (hp : Sub (allow [.clk, .stats, .evt, .out, .lnk, .air] [.evtRpt, .lnkPortDrop, .lnkPortLate]) m) (h : Same m s0 s) :
    OutSame m s0 (execSynchronisationRequest f s) := by
  unfold execSynchronisationRequest
  repeat' first
    | (with_reducible assumption) | (with_reducible refine Sub.trans ?_ hp; decide) | (intro _) | (with_reducible apply outSame_next)
    | (with_reducible apply onFrame_same) | (with_reducible apply sendSyncMsg_same) | (with_reducible apply sendEvent_same)
    | (with_reducible apply same_ite) | (with_reducible refine same_foldl ?_ ?_; intro _ _ _)

theorem execUlSectionSend_same (prach : Bool) (n : Nat) {s : State}
    (hp : Sub (allow [.stats, .evt, .out, .lnk] [.evtRpt]) m) (h : Same m s0 s) :
    OutSame m s0 (execUlSectionSend prach n s) := by
  unfold execUlSectionSend
  repeat' first
    | (with_reducible assumption) | (with_reducible apply outSame_next) | (with_reducible apply sendPrach_same)
    | (with_reducible apply sendUplink_same) | (with_reducible apply outSame_ite)

/-! ## CmdMemory -/

theorem execArbitrationPhase_same (a : Nat) (ports : List Nat) (beats : Nat) {s : State}
    (hp : Sub (allow [.mem] []) m) (h : Same m s0 s) :
    OutSame m s0 (execArbitrationPhase a ports beats s) := by
  unfold execArbitrationPhase
  repeat' first
    | (with_reducible assumption) | (with_reducible apply outSame_next) | (with_reducible apply arbPhase_same)
    | (with_reducible apply outSame_ite)

theorem execBankMigrationStart_same (b : Nat) {s : State}
    (hp : Sub (allow [.subs, .evt, .adm, .mem, .nv] [.evtRpt, .memBankStat]) m) (h : Same m s0 s) :
    OutSame m s0 (execBankMigrationStart b s) := by
  unfold execBankMigrationStart
  repeat' first
    | (with_reducible assumption) | (with_reducible apply outSame_next) | (with_reducible apply spareBankOut_same)
    | (with_reducible apply outSame_ite)

theorem execDmaDescriptor_same (r : Nat) {s : State}
    (hp : Sub (allowAny [.clk, .freeCtr, .regsStaged, .objs, .stats, .fresh, .addrFaultRec, .ctl, .evt, .out, .tl, .adm, .diong, .sec, .lo,
        .fe, .cvt, .rx, .bm, .dpds, .disp, .ge, .lnk, .mem, .pwr, .hk, .svc, .boot, .nv, .marks, .air]) m) (h : Same m s0 s) :
    OutSame m s0 (execDmaDescriptor r s) := by
  unfold execDmaDescriptor
  repeat' first
    | (with_reducible assumption) | (with_reducible apply outSame_next) | (with_reducible apply descRun_same)
    | (with_reducible apply outSame_ite)

theorem execDmaHalfCompletion_same (r : Nat) {s : State}
    (hp : Sub (allowAny [.clk, .freeCtr, .regsStaged, .objs, .stats, .fresh, .addrFaultRec, .ctl, .evt, .out, .tl, .adm, .diong, .sec, .lo,
        .fe, .cvt, .rx, .bm, .dpds, .disp, .ge, .lnk, .mem, .pwr, .hk, .svc, .boot, .nv, .marks, .air]) m) (h : Same m s0 s) :
    OutSame m s0 (execDmaHalfCompletion r s) := by
  unfold execDmaHalfCompletion
  repeat' first
    | (with_reducible assumption) | (with_reducible apply outSame_next) | (with_reducible apply descHalf_same)
    | (with_reducible apply outSame_ite)

theorem execDmaRingDisable_same (r : Nat) {s : State}
    (hp : Sub (allow [.fresh, .evt, .mem] [.dmaRingCfg, .dmaRingStat, .evtRpt]) m) (h : Same m s0 s) :
    OutSame m s0 (execDmaRingDisable r s) := by
  unfold execDmaRingDisable
  repeat' first
    | (with_reducible assumption) | (with_reducible refine Sub.bit hp ?_; decide) | (with_reducible refine Sub.trans ?_ hp; decide)
    | (with_reducible apply outSame_next) | (with_reducible apply ringEnable_same) | (with_reducible apply wbit_same)
    | (with_reducible apply outSame_ite)

theorem execDmaRingKick_same (tag : Nat) (r : Nat) (value : Nat) {s : State}
    (hp : Sub (allow [.fresh, .evt, .out, .mem] [.dmaRingStat, .dmaTrigDrop, .evtRpt]) m) (h : Same m s0 s) :
    OutSame m s0 (execDmaRingKick tag r value s) := by
  unfold execDmaRingKick
  repeat' first
    | (with_reducible assumption) | (with_reducible refine Sub.trans ?_ hp; decide) | (with_reducible apply outSame_next)
    | (with_reducible apply tagged_same) | (with_reducible apply trigRing_same) | (with_reducible apply outSame_ite)
    | (with_reducible apply same_ite)

theorem execDmaStart_same (n : Nat) {s : State}
    (hp : Sub (allow [.clk, .fresh, .evt, .tl, .mem, .air] [.dmaRingStat, .dmaTrigDrop, .evtRpt, .tlEvtDrop]) m) (h : Same m s0 s) :
    OutSame m s0 (execDmaStart n s) := by
  unfold execDmaStart
  repeat' first
    | (with_reducible assumption) | (with_reducible refine Sub.trans ?_ hp; decide) | (intro _) | (with_reducible apply outSame_next)
    | (with_reducible apply fireEvent_same) | (with_reducible apply trigRing_same) | (with_reducible apply same_ite)

theorem execMemBankSpared_same (b : Nat) {s : State}
    (hp : Sub (allow [.subs, .evt, .lnk, .mem, .svc, .nv] [.evtRpt, .memBankStat]) m) (h : Same m s0 s) :
    OutSame m s0 (execMemBankSpared b s) := by
  unfold execMemBankSpared
  repeat' first | (with_reducible assumption) | (with_reducible apply outSame_next) | (with_reducible apply migrationEnd_same) | split

theorem execMemHoldFault_hold_same {s : State} (a : Nat) (q : Nat)
    (hp : Sub (allowAny [.clk, .freeCtr, .regsStaged, .objs, .stats, .fresh, .addrFaultRec, .ctl, .evt, .out, .tl, .adm, .diong, .sec, .lo,
        .fe, .cvt, .rx, .bm, .dpds, .disp, .ge, .lnk, .mem, .pwr, .hk, .svc, .boot, .nv, .marks, .air]) m) (h : Same m s0 s) :
    Same m s0 (execMemHoldFault.hold s a q) := by
  unfold execMemHoldFault.hold
  repeat' first
    | (with_reducible assumption) | (with_reducible refine Sub.bit hp ?_; decide) | (with_reducible refine Sub.trans ?_ hp; decide)
    | (with_reducible apply raise_same) | (with_reducible apply memFault_same) | (with_reducible apply dropParked_same)
    | (with_reducible apply setFlag_same) | (with_reducible apply holdRing_same)

theorem execMemHoldFault_same (a : Nat) {s : State}
    (hp : Sub (allowAny [.clk, .freeCtr, .regsStaged, .objs, .stats, .fresh, .addrFaultRec, .ctl, .evt, .out, .tl, .adm, .diong, .sec, .lo,
        .fe, .cvt, .rx, .bm, .dpds, .disp, .ge, .lnk, .mem, .pwr, .hk, .svc, .boot, .nv, .marks, .air]) m) (h : Same m s0 s) :
    OutSame m s0 (execMemHoldFault a s) := by
  unfold execMemHoldFault
  repeat' first
    | (with_reducible assumption) | (with_reducible exact Free.rfl) | (with_reducible refine Free.bit hp ?_; decide)
    | (with_reducible refine Sub.trans ?_ hp; decide) | (with_reducible apply outSame_next) | (with_reducible apply reachElapsed_same)
    | (with_reducible apply execMemHoldFault_hold_same) | (with_reducible apply outSame_ite)
    | (with_reducible apply same_parts)
    | (simp only [same_mk_iff]) | split

theorem execMemLock_same (tag : Nat) (value : Nat) {s : State}
    (hp : Sub (allow [.evt, .out, .mem] [.evtRpt, .memFault]) m) (h : Same m s0 s) :
    OutSame m s0 (execMemLock tag value s) := by
  unfold execMemLock
  repeat' first
    | (with_reducible assumption) | (with_reducible exact Free.rfl) | (with_reducible refine Free.bit hp ?_; decide)
    | (with_reducible refine Sub.trans ?_ hp; decide) | (with_reducible apply outSame_next) | (with_reducible apply tagged_same)
    | (with_reducible apply grantSet_same) | (with_reducible apply raise_same) | (with_reducible apply memFault_same)
    | (with_reducible apply same_ite)
    | (with_reducible apply same_parts)
    | (simp only [same_mk_iff])

theorem execMemLockRelease_same (tag : Nat) (value : Nat) {s : State}
    (hp : Sub (allow [.evt, .out, .mem] [.evtRpt]) m) (h : Same m s0 s) :
    OutSame m s0 (execMemLockRelease tag value s) := by
  unfold execMemLockRelease
  repeat' first
    | (with_reducible assumption) | (with_reducible exact Free.rfl) | (with_reducible refine Free.bit hp ?_; decide)
    | (with_reducible refine Sub.trans ?_ hp; decide) | (with_reducible apply outSame_next) | (with_reducible apply tagged_same)
    | (with_reducible apply grantSet_same) | (with_reducible apply same_ite)
    | (with_reducible apply same_parts)
    | (simp only [same_mk_iff])

theorem execMemRowRepaired_same (b : Nat) (row : Nat) {s : State}
    (hp : Sub (allow [.evt, .lnk, .mem, .svc, .nv] [.evtRpt, .memBankStat]) m) (h : Same m s0 s) :
    OutSame m s0 (execMemRowRepaired b row s) := by
  unfold execMemRowRepaired
  repeat' first
    | (with_reducible assumption) | (with_reducible exact Free.rfl) | (with_reducible refine Free.bit hp ?_; decide)
    | (with_reducible refine Sub.bit hp ?_; decide) | (with_reducible refine Sub.trans ?_ hp; decide)
    | (with_reducible apply outSame_next) | (with_reducible apply wf_same) | (with_reducible apply spareUsed_same)
    | (with_reducible apply saveBanks_same) | (with_reducible apply raise_same) | (with_reducible apply outSame_ite)
    | (with_reducible apply same_parts)
    | (simp only [same_mk_iff])

theorem execScrubPass_same (ce : List Nat) (ue : List Nat) {s : State}
    (hp : Sub (allow [.clk, .evt, .mem, .air] [.evtRpt, .memBankCe, .memBankUe, .memFault]) m) (h : Same m s0 s) :
    OutSame m s0 (execScrubPass ce ue s) := by
  unfold execScrubPass
  repeat' first
    | (with_reducible assumption) | (with_reducible exact Free.rfl) | (with_reducible refine Free.bit hp ?_; decide)
    | (with_reducible refine Sub.trans ?_ hp; decide) | (with_reducible apply outSame_next) | (with_reducible apply reachElapsed_same)
    | (with_reducible apply eccFound_same) | (with_reducible apply poisonRead_same) | (with_reducible apply outSame_ite)
    | (with_reducible apply same_ite)
    | (with_reducible apply same_parts)
    | (simp only [same_mk_iff])

theorem execServiceBankSpare_same (role : Role) (b : Nat) {s : State}
    (hp : Sub (allow [.subs, .evt, .adm, .mem, .nv] [.evtRpt, .memBankStat]) m) (h : Same m s0 s) :
    OutSame m s0 (execServiceBankSpare role b s) := by
  unfold execServiceBankSpare
  repeat' first
    | (with_reducible assumption) | (with_reducible apply outSame_next) | (with_reducible apply spareBankOut_same)
    | (with_reducible apply outSame_ite)

theorem sramTenure_same {s : State} (port : Nat) (tag : Nat) (off : Nat) (len : Nat) (a : Nat) (n : Nat) (data : Option (List Byte)) (ce :
        List Nat) (ue : List Nat)
    (hp : Sub (allow [.evt, .out, .mem] [.evtRpt, .memBankCe, .memBankUe, .memFault]) m) (h : Same m s0 s) :
    Same m s0 (sramTenure s port tag off len a n data ce ue) := by
  unfold sramTenure
  repeat' first
    | (with_reducible assumption) | (with_reducible refine Sub.trans ?_ hp; decide) | (with_reducible apply arbPhase_same)
    | (with_reducible apply eccFound_same) | (with_reducible apply sramWriteBy_same) | (with_reducible apply emit_same)
    | (with_reducible apply arbEnd_same) | (with_reducible apply sramRead_same) | (simp only [same_mk_iff]) | split

theorem execSramAccess_same (port : Nat) (tag : Nat) (addr : Nat) (n : Nat) (data : Option (List Byte)) (ce : List Nat) (ue : List Nat) {s
        : State}
    (hp : Sub (allow [.addrFaultRec, .evt, .out, .mem] [.evtRpt, .memBankCe, .memBankUe, .memFault]) m) (h : Same m s0 s) :
    OutSame m s0 (execSramAccess port tag addr n data ce ue s) := by
  unfold execSramAccess
  repeat' first
    | (with_reducible assumption) | (with_reducible refine Sub.trans ?_ hp; decide) | (with_reducible apply outSame_next)
    | (with_reducible apply emit_same) | (with_reducible apply firewall_same) | (with_reducible apply sramTenure_same)
    | (with_reducible apply addrFault_same) | (with_reducible apply outSame_ite)

/-! ## CmdPower -/

theorem execDebugWakeWord_same (word : List Byte) {s : State}
    (hp : Sub (allow [.stats, .ctl, .evt, .ge, .pwr, .hk, .marks] [.aonLastwake, .aonWcnt, .bdacDrnStat, .ctlFwStat, .dbgCoreCtrl,
        .dbgEngHalt, .evtRpt, .pwrReqStat, .pwrStat]) m) (h : Same m s0 s) :
    OutSame m s0 (execDebugWakeWord word s) := by
  unfold execDebugWakeWord
  repeat' first
    | (with_reducible assumption) | (with_reducible exact Free.rfl) | (with_reducible refine Free.bit hp ?_; decide)
    | (with_reducible refine Sub.trans ?_ hp; decide) | (with_reducible apply outSame_next) | (with_reducible apply wakeFires_same)
    | (with_reducible apply stat_same) | (with_reducible apply outSame_ite)
    | (with_reducible apply same_parts)
    | (simp only [same_mk_iff])

theorem execLinkSignalDetect_same (lane : Nat) {s : State}
    (hp : Sub (allow [.clk, .ctl, .evt, .ge, .pwr, .hk, .marks, .air] [.aonLastwake, .aonWcnt, .bdacDrnStat, .ctlFwStat, .dbgCoreCtrl,
        .dbgEngHalt, .evtRpt, .pwrReqStat, .pwrStat]) m) (h : Same m s0 s) :
    OutSame m s0 (execLinkSignalDetect lane s) := by
  unfold execLinkSignalDetect
  repeat' first
    | (with_reducible assumption) | (with_reducible refine Sub.trans ?_ hp; decide) | (with_reducible apply outSame_next)
    | (with_reducible apply wakeFires_same) | (with_reducible apply reachElapsed_same) | (with_reducible apply outSame_ite)

theorem execPowerEntryStep_same {s : State}
    (hp : Sub (allowAny [.clk, .objs, .objGen, .stats, .islands, .ctl, .evt, .tl, .sec, .lo, .fe, .cvt, .rx, .disp, .ge, .cal, .lnk, .mem,
        .pwr, .hk, .svc, .nv, .marks, .air]) m) (h : Same m s0 s) :
    OutSame m s0 (execPowerEntryStep s) := by
  unfold execPowerEntryStep
  repeat' first | (with_reducible assumption) | (with_reducible apply outSame_next) | (with_reducible apply entryStep_same) | split

theorem execPowerExit_same {s : State}
    (hp : Sub (allow [.stats, .islands, .ctl, .evt, .diong, .sec, .lo, .fe, .cvt, .rx, .ge, .pwr, .hk, .svc, .nv, .marks] [.bdacDrnStat,
        .dbgCoreCtrl, .dbgEngHalt, .dbgStat, .evtRpt, .memBankCtrl, .pwrStat]) m) (h : Same m s0 s) :
    OutSame m s0 (execPowerExit s) := by
  unfold execPowerExit
  repeat' first
    | (with_reducible assumption) | (with_reducible apply outSame_next) | (with_reducible apply napExit_same)
    | (with_reducible apply outSame_ite)

theorem execPowerRequest_same (by_ : Option Role) (tag : Nat) (value : Nat) {s : State}
    (hp : Sub (allow [.ctl, .evt, .out, .ge, .pwr, .hk, .marks] [.aonLastwake, .aonWcnt, .bdacDrnStat, .ctlFwStat, .dbgCoreCtrl,
        .dbgEngHalt, .evtRpt, .pwrReqStat, .pwrStat]) m) (h : Same m s0 s) :
    OutSame m s0 (execPowerRequest by_ tag value s) := by
  unfold execPowerRequest
  repeat' first
    | (with_reducible assumption) | (with_reducible refine Sub.trans ?_ hp; decide) | (with_reducible apply outSame_next)
    | (with_reducible apply powerRequest_same) | (with_reducible apply tagged_same) | (with_reducible apply same_ite)
    | (simp only [same_mk_iff]) | split

theorem execRtcAlarm_same {s : State}
    (hp : Sub (allow [.clk, .ctl, .evt, .ge, .pwr, .hk, .marks, .air] [.aonAlarm, .aonLastwake, .aonWcnt, .bdacDrnStat, .ctlFwStat,
        .dbgCoreCtrl, .dbgEngHalt, .evtRpt, .pwrReqStat, .pwrStat]) m) (h : Same m s0 s) :
    OutSame m s0 (execRtcAlarm s) := by
  unfold execRtcAlarm
  repeat' first
    | (with_reducible assumption) | (with_reducible refine Sub.bit hp ?_; decide) | (with_reducible refine Sub.trans ?_ hp; decide)
    | (with_reducible apply outSame_next) | (with_reducible apply reachElapsed_same) | (with_reducible apply wakeFires_same)
    | (with_reducible apply wbit_same) | (with_reducible apply outSame_ite)

theorem execSectionGateOff_same (p : Nat) (rx : Bool) {s : State}
    (hp : Sub (allow [.clk, .cvt, .pwr, .air] []) m) (h : Same m s0 s) :
    OutSame m s0 (execSectionGateOff p rx s) := by
  unfold execSectionGateOff
  repeat' first
    | (with_reducible assumption) | (with_reducible exact Free.rfl) | (with_reducible refine Free.bit hp ?_; decide)
    | (with_reducible refine Sub.trans ?_ hp; decide) | (with_reducible apply outSame_next) | (with_reducible apply reachCount_same)
    | (with_reducible apply clockPath_same) | (with_reducible apply outSame_ite) | (with_reducible apply same_ite)
    | (with_reducible apply same_parts)
    | (simp only [same_mk_iff]) | split

theorem gateOn_same {s : State} (p : Nat) (rx : Bool)
    (hp : Sub (allow [.cvt, .pwr] []) m) (h : Same m s0 s) :
    Same m s0 (gateOn s p rx) := by
  unfold gateOn
  repeat' first
    | (with_reducible assumption) | (with_reducible exact Free.rfl) | (with_reducible refine Free.bit hp ?_; decide)
    | (with_reducible refine Sub.trans ?_ hp; decide) | (with_reducible apply clockPath_same) | (with_reducible apply State_setDac_same)
    | (with_reducible apply same_ite) | (with_reducible refine same_foldl ?_ ?_; intro _ _ _)
    | (with_reducible apply same_parts)
    | (simp only [same_mk_iff])

theorem execSectionGateOn_same (p : Nat) (rx : Bool) {s : State}
    (hp : Sub (allow [.clk, .cvt, .pwr, .air] []) m) (h : Same m s0 s) :
    OutSame m s0 (execSectionGateOn p rx s) := by
  unfold execSectionGateOn
  repeat' first
    | (with_reducible assumption) | (with_reducible refine Sub.trans ?_ hp; decide) | (with_reducible apply outSame_next)
    | (with_reducible apply gateOn_same) | (with_reducible apply reachCount_same) | (with_reducible apply outSame_ite) | split

theorem execSlotgateChange_same {s : State}
    (hp : Sub (allow [.clk, .ctl, .evt, .cvt, .ge, .pwr, .hk, .marks, .air] [.aonLastwake, .aonWcnt, .bdacDrnStat, .ctlFwStat,
        .dbgCoreCtrl, .dbgEngHalt, .evtRpt, .pwrReqStat, .pwrStat]) m) (h : Same m s0 s) :
    OutSame m s0 (execSlotgateChange s) := by
  unfold execSlotgateChange
  repeat' first
    | (with_reducible assumption) | (with_reducible refine Sub.trans ?_ hp; decide) | (with_reducible apply outSame_next)
    | (with_reducible apply reachCount_same) | (with_reducible apply gateOn_same) | (with_reducible apply settle_same)
    | (with_reducible apply reqStatus_same) | (with_reducible apply same_ite) | (with_reducible refine same_foldl ?_ ?_; intro _ _ _)
    | (simp only [same_mk_iff]) | split

theorem execT1sFrameWake_same (dst : Nat) (fcsOk : Bool) {s : State}
    (hp : Sub (allow [.ctl, .evt, .ge, .pwr, .hk, .marks] [.aonLastwake, .aonWcnt, .bdacDrnStat, .ctlFwStat, .dbgCoreCtrl, .dbgEngHalt,
        .evtRpt, .pwrReqStat, .pwrStat]) m) (h : Same m s0 s) :
    OutSame m s0 (execT1sFrameWake dst fcsOk s) := by
  unfold execT1sFrameWake
  repeat' first
    | (with_reducible assumption) | (with_reducible apply outSame_next) | (with_reducible apply wakeFires_same)
    | (with_reducible apply outSame_ite)

theorem execThermalAlarm_same (t : Int) {s : State}
    (hp : Sub (allow [.ctl, .evt, .ge, .pwr, .hk, .marks] [.aonLastwake, .aonWcnt, .bdacDrnStat, .ctlFwStat, .dbgCoreCtrl, .dbgEngHalt,
        .evtRpt, .pwrReqStat, .pwrStat]) m) (h : Same m s0 s) :
    OutSame m s0 (execThermalAlarm t s) := by
  unfold execThermalAlarm
  repeat' first
    | (with_reducible assumption) | (with_reducible apply outSame_next) | (with_reducible apply wakeFires_same)
    | (with_reducible apply outSame_ite)

theorem wrxState_same {s : State} (v : Nat)
    (hp : Sub (allow [] [.wrxStat]) m) (h : Same m s0 s) :
    Same m s0 (wrxState s v) := by
  unfold wrxState
  repeat' first | (with_reducible assumption) | (with_reducible refine Sub.bit hp ?_; decide) | (with_reducible apply wf_same)

theorem wrxIdle_same {s : State}
    (hp : Sub (allow [.pwr] [.wrxStat]) m) (h : Same m s0 s) :
    Same m s0 (wrxIdle s) := by
  unfold wrxIdle
  repeat' first
    | (with_reducible assumption) | (with_reducible exact Free.rfl) | (with_reducible refine Free.bit hp ?_; decide)
    | (with_reducible refine Sub.trans ?_ hp; decide) | (with_reducible apply wrxState_same) | (with_reducible apply same_ite)
    | (with_reducible apply same_parts)
    | (simp only [same_mk_iff])

theorem wrxReject_same {s : State} (kind : Nat)
    (hp : Sub (allow [.evt, .pwr] [.evtRpt, .wrxCnt]) m) (h : Same m s0 s) :
    Same m s0 (wrxReject s kind) := by
  unfold wrxReject
  repeat' first
    | (with_reducible assumption) | (with_reducible exact Free.rfl) | (with_reducible refine Free.bit hp ?_; decide)
    | (with_reducible refine Sub.bit hp ?_; decide) | (with_reducible refine Sub.trans ?_ hp; decide) | (with_reducible apply bump_same)
    | (with_reducible apply reportRejected_same) | (with_reducible apply same_ite)
    | (with_reducible apply same_parts)
    | (simp only [same_mk_iff])

theorem execWakeFrame_same (frame : List Byte) (rssi : Int) {s : State}
    (hp : Sub (allow [.ctl, .evt, .ge, .pwr, .hk, .nv, .marks] [.aonLastwake, .aonWcnt, .bdacDrnStat, .ctlFwStat, .dbgCoreCtrl,
        .dbgEngHalt, .evtRpt, .pwrReqStat, .pwrStat, .wrxCnt, .wrxLastcnt, .wrxStat]) m) (h : Same m s0 s) :
    OutSame m s0 (execWakeFrame frame rssi s) := by
  unfold execWakeFrame
  repeat' first
    | (with_reducible assumption) | (with_reducible exact Free.rfl) | (with_reducible refine Free.bit hp ?_; decide)
    | (with_reducible refine Sub.bit hp ?_; decide) | (with_reducible refine Sub.trans ?_ hp; decide)
    | (with_reducible apply outSame_next) | (with_reducible apply wf_same) | (with_reducible apply wrxIdle_same)
    | (with_reducible apply wrxReject_same) | (with_reducible apply wr_same) | (with_reducible apply bump_same)
    | (with_reducible apply wakeFires_same) | (with_reducible apply outSame_ite) | (with_reducible apply same_ite)
    | (with_reducible apply same_parts)
    | (simp only [same_mk_iff]) | split

theorem execWakePin_same (cycles : Nat) {s : State}
    (hp : Sub (allow [.clk, .ctl, .evt, .ge, .pwr, .hk, .marks, .air] [.aonLastwake, .aonWcnt, .bdacDrnStat, .ctlFwStat, .dbgCoreCtrl,
        .dbgEngHalt, .evtRpt, .pwrReqStat, .pwrStat]) m) (h : Same m s0 s) :
    OutSame m s0 (execWakePin cycles s) := by
  unfold execWakePin
  repeat' first
    | (with_reducible assumption) | (with_reducible refine Sub.trans ?_ hp; decide) | (with_reducible apply outSame_next)
    | (with_reducible apply wakeFires_same) | (with_reducible apply reachElapsed_same) | (with_reducible apply outSame_ite)

theorem execWakeToTransition_same {s : State}
    (hp : Sub (allow [.clk, .islands, .ctl, .evt, .tl, .fe, .cvt, .rx, .tx, .ge, .pwr, .hk, .marks, .air] [.aonLastwake, .aonWcnt,
        .bdacDrnStat, .ctlFwStat, .dbgCoreCtrl, .dbgEngHalt, .evtRpt, .pwrBoot, .pwrReqStat, .pwrStat]) m) (h : Same m s0 s) :
    OutSame m s0 (execWakeToTransition s) := by
  unfold execWakeToTransition
  repeat' first
    | (with_reducible assumption) | (with_reducible refine Sub.trans ?_ hp; decide) | (with_reducible apply outSame_next)
    | (with_reducible apply wakeTransition_same) | (with_reducible apply setPhase_same) | (with_reducible apply outSame_ite)
    | (with_reducible apply same_ite) | (simp only [same_mk_iff]) | split

theorem execWarmStart_same {s : State}
    (hp : Sub (allowAny [.clk, .freeCtr, .regsStaged, .objs, .objsStaged, .objGen, .stats, .islands, .subs, .fresh, .xing, .lost,
        .addrFaultRec, .ctl, .evt, .out, .tl, .adm, .diong, .straps, .sec, .lo, .fe, .cvt, .rx, .tx, .bm, .dpds, .disp, .ge, .cal, .lnk,
        .mem, .pwr, .hk, .svc, .boot, .nv, .marks, .air]) m) (h : Same m s0 s) :
    OutSame m s0 (execWarmStart s) := by
  unfold execWarmStart
  repeat' first
    | (with_reducible assumption) | (with_reducible apply outSame_next) | (with_reducible apply warmStart_same)
    | (with_reducible apply outSame_ite) | split

theorem execWrxSniff_same (hit : Bool) (envA : Int) (envB : Int) {s : State}
    (hp : Sub (allow [.clk, .pwr, .air] [.wrxStat]) m) (h : Same m s0 s) :
    OutSame m s0 (execWrxSniff hit envA envB s) := by
  unfold execWrxSniff
  repeat' first
    | (with_reducible assumption) | (with_reducible exact Free.rfl) | (with_reducible refine Free.bit hp ?_; decide)
    | (with_reducible refine Sub.bit hp ?_; decide) | (with_reducible refine Sub.trans ?_ hp; decide)
    | (with_reducible apply outSame_next) | (with_reducible apply wbit_same) | (with_reducible apply wrxState_same)
    | (with_reducible apply passTicks_same) | (with_reducible apply outSame_ite)
    | (with_reducible apply same_parts)
    | (simp only [same_mk_iff])

theorem execWrxSyncTimeout_same {s : State}
    (hp : Sub (allow [.clk, .evt, .pwr, .air] [.evtRpt, .wrxCnt, .wrxStat]) m) (h : Same m s0 s) :
    OutSame m s0 (execWrxSyncTimeout s) := by
  unfold execWrxSyncTimeout
  repeat' first
    | (with_reducible assumption) | (with_reducible refine Sub.trans ?_ hp; decide) | (with_reducible apply outSame_next)
    | (with_reducible apply wrxIdle_same) | (with_reducible apply wrxReject_same) | (with_reducible apply reachElapsed_same)
    | (with_reducible apply outSame_ite)

theorem execWrxTrim_same {s : State}
    (hp : Sub (allow [.clk, .pwr, .air] []) m) (h : Same m s0 s) :
    OutSame m s0 (execWrxTrim s) := by
  unfold execWrxTrim
  repeat' first
    | (with_reducible assumption) | (with_reducible exact Free.rfl) | (with_reducible refine Free.bit hp ?_; decide)
    | (with_reducible refine Sub.trans ?_ hp; decide) | (with_reducible apply outSame_next) | (with_reducible apply reachElapsed_same)
    | (with_reducible apply passTicks_same) | (with_reducible apply outSame_ite)
    | (with_reducible apply same_parts)
    | (simp only [same_mk_iff])

/-! ## SerialOps -/

theorem serialCode_same {s : State} (p : Nat) (code : Nat)
    (hp : Sub (allow [.stats, .evt, .fe] [.evtRpt]) m) (h : Same m s0 s) :
    Same m s0 (serialCode s p code) := by
  unfold serialCode
  repeat' first
    | (with_reducible assumption) | (with_reducible refine Sub.trans ?_ hp; decide) | (with_reducible apply State_setFe_same)
    | (with_reducible apply statPath_same) | (with_reducible apply same_ite)

theorem moduleFault_same {s : State} (p : Nat)
    (hp : Sub (allow [.fresh, .evt] [.evtRpt, .feStat]) m) (h : Same m s0 s) :
    Same m s0 (moduleFault s p) := by
  unfold moduleFault
  repeat' first
    | (with_reducible assumption) | (with_reducible refine Sub.bit hp ?_; decide) | (with_reducible refine Sub.trans ?_ hp; decide)
    | (with_reducible apply raise_same) | (with_reducible apply setFlag_same)

theorem deferRetries_same {s : State} (p : Nat)
    (hp : Sub (allow [.stats, .fresh, .evt, .fe] [.evtRpt, .feStat]) m) (h : Same m s0 s) :
    Same m s0 (deferRetries s p) := by
  unfold deferRetries
  repeat' first
    | (with_reducible assumption) | (with_reducible refine Sub.trans ?_ hp; decide) | (with_reducible apply State_setFe_same)
    | (with_reducible apply serialCode_same) | (with_reducible apply moduleFault_same) | (with_reducible apply same_ite)
    | (with_reducible refine same_foldl ?_ ?_; intro _ _ _)

theorem endTxn_same {s : State} (p : Nat) (code : Nat)
    (hp : Sub (allow [.stats, .fresh, .evt, .fe, .bm] [.evtRpt, .feStat]) m) (h : Same m s0 s) :
    Same m s0 (endTxn s p code) := by
  unfold endTxn
  repeat' first
    | (with_reducible assumption) | (with_reducible refine Sub.trans ?_ hp; decide) | (with_reducible apply State_setFe_same)
    | (with_reducible apply serialCode_same) | (with_reducible apply moduleFault_same) | (with_reducible apply failPath_same)
    | (with_reducible apply same_ite) | (simp only [same_mk_iff]) | split

/-! ## CmdRf -/

theorem execDividerResync_same {s : State}
    (hp : Sub (allow [.clk, .lo, .fe, .marks, .air] []) m) (h : Same m s0 s) :
    OutSame m s0 (execDividerResync s) := by
  unfold execDividerResync
  repeat' first
    | (with_reducible assumption) | (with_reducible exact Free.rfl) | (with_reducible refine Free.bit hp ?_; decide)
    | (with_reducible refine Sub.trans ?_ hp; decide) | (with_reducible apply outSame_next) | (with_reducible apply toSymbol_same)
    | (with_reducible apply markOff_same) | (with_reducible apply State_setFe_same) | (with_reducible apply outSame_ite)
    | (with_reducible refine same_foldl ?_ ?_; intro _ _ _)
    | (with_reducible apply same_parts)
    | (simp only [same_mk_iff])

theorem execFeSerial_same (n : Nat) {s : State}
    (hp : Sub (allow [.clk, .stats, .evt, .tl, .fe, .air] [.evtRpt, .tlEvtDrop]) m) (h : Same m s0 s) :
    OutSame m s0 (execFeSerial n s) := by
  unfold execFeSerial
  repeat' first
    | (with_reducible assumption) | (with_reducible refine Sub.trans ?_ hp; decide) | (intro _) | (with_reducible apply outSame_next)
    | (with_reducible apply fireEvent_same) | (with_reducible apply State_setFe_same) | (with_reducible apply serialCode_same)
    | (with_reducible apply same_ite) | (with_reducible refine same_foldl ?_ ?_; intro _ _ _)

theorem execForcedRetune_same (role : Role) (syn : Nat) (preset : Nat) (go : Nat) {s : State}
    (hp : Sub (allow [.stats, .evt, .lo, .fe, .marks] [.evtRpt]) m) (h : Same m s0 s) :
    OutSame m s0 (execForcedRetune role syn preset go s) := by
  unfold execForcedRetune
  repeat' first
    | (with_reducible assumption) | (with_reducible apply outSame_next) | (with_reducible apply forceTune_same)
    | (with_reducible apply outSame_ite)

theorem execHopComplete_same {s : State}
    (hp : Sub (allow [.clk, .lo, .rx, .air] []) m) (h : Same m s0 s) :
    OutSame m s0 (execHopComplete s) := by
  unfold execHopComplete
  repeat' first
    | (with_reducible assumption) | (with_reducible exact Free.rfl) | (with_reducible refine Free.bit hp ?_; decide)
    | (with_reducible refine Sub.trans ?_ hp; decide) | (with_reducible apply outSame_next) | (with_reducible apply reachElapsed_same)
    | (with_reducible apply txGood_same) | (with_reducible apply rxGood_same)
    | (with_reducible apply same_parts)
    | (simp only [same_mk_iff]) | split

theorem execHopDividerCheck_same (failed : List Nat) {s : State}
    (hp : Sub (allow [.clk, .lo, .marks, .air] []) m) (h : Same m s0 s) :
    OutSame m s0 (execHopDividerCheck failed s) := by
  unfold execHopDividerCheck
  repeat' first
    | (with_reducible assumption) | (with_reducible exact Free.rfl) | (with_reducible refine Free.bit hp ?_; decide)
    | (with_reducible refine Sub.trans ?_ hp; decide) | (with_reducible apply outSame_next) | (with_reducible apply reachElapsed_same)
    | (with_reducible apply markOn_same) | (with_reducible refine same_foldl ?_ ?_; intro _ _ _)
    | (with_reducible apply same_parts)
    | (simp only [same_mk_iff]) | split

theorem execHopResyncPulse_same {s : State}
    (hp : Sub (allow [.clk, .lo, .air] []) m) (h : Same m s0 s) :
    OutSame m s0 (execHopResyncPulse s) := by
  unfold execHopResyncPulse
  repeat' first
    | (with_reducible assumption) | (with_reducible exact Free.rfl) | (with_reducible refine Free.bit hp ?_; decide)
    | (with_reducible refine Sub.trans ?_ hp; decide) | (with_reducible apply outSame_next) | (with_reducible apply reachElapsed_same)
    | (with_reducible apply same_parts)
    | (simp only [same_mk_iff]) | split

theorem execLnaBypass_same (p : Nat) {s : State}
    (hp : Sub (allow [.clk, .fe, .rx, .air] []) m) (h : Same m s0 s) :
    OutSame m s0 (execLnaBypass p s) := by
  unfold execLnaBypass
  repeat' first
    | (with_reducible assumption) | (with_reducible apply outSame_next) | (with_reducible apply lnaChange_same)
    | (with_reducible apply outSame_ite)

theorem execLnaReturn_same (p : Nat) {s : State}
    (hp : Sub (allow [.clk, .fe, .rx, .air] []) m) (h : Same m s0 s) :
    OutSame m s0 (execLnaReturn p s) := by
  unfold execLnaReturn
  repeat' first
    | (with_reducible assumption) | (with_reducible apply outSame_next) | (with_reducible apply lnaChange_same)
    | (with_reducible apply outSame_ite)

theorem execLoHop_same (n : Nat) {s : State}
    (hp : Sub (allow [.clk, .stats, .evt, .tl, .lo, .fe, .marks, .air] [.evtRpt, .tlEvtDrop]) m) (h : Same m s0 s) :
    OutSame m s0 (execLoHop n s) := by
  unfold execLoHop
  repeat' first
    | (with_reducible assumption) | (with_reducible exact Free.rfl) | (with_reducible refine Free.bit hp ?_; decide)
    | (with_reducible refine Sub.trans ?_ hp; decide) | (intro _) | (with_reducible apply outSame_next)
    | (with_reducible apply fireEvent_same) | (with_reducible apply markOff_same) | (with_reducible apply trunkDrop_same)
    | (with_reducible apply raise_same) | (with_reducible apply same_ite) | (with_reducible refine same_foldl ?_ ?_; intro _ _ _)
    | (with_reducible apply same_parts)
    | (simp only [same_mk_iff])

theorem execLoSynDisable_same (n : Nat) {s : State}
    (hp : Sub (allow [.stats, .evt, .lo, .fe, .marks] [.evtRpt, .loSynCtrl]) m) (h : Same m s0 s) :
    OutSame m s0 (execLoSynDisable n s) := by
  unfold execLoSynDisable
  repeat' first
    | (with_reducible assumption) | (with_reducible refine Sub.bit hp ?_; decide) | (with_reducible refine Sub.trans ?_ hp; decide)
    | (with_reducible apply outSame_next) | (with_reducible apply synOff_same) | (with_reducible apply wbit_same)
    | (with_reducible apply outSame_ite)

theorem execLoSynEnable_same (n : Nat) {s : State}
    (hp : Sub (allow [.stats, .evt, .lo, .fe, .marks] [.evtRpt, .loSynCtrl]) m) (h : Same m s0 s) :
    OutSame m s0 (execLoSynEnable n s) := by
  unfold execLoSynEnable
  repeat' first
    | (with_reducible assumption) | (with_reducible refine Sub.bit hp ?_; decide) | (with_reducible refine Sub.trans ?_ hp; decide)
    | (with_reducible apply outSame_next) | (with_reducible apply wbit_same) | (with_reducible apply tuneSyn_same)
    | (with_reducible apply outSame_ite) | (with_reducible apply same_ite)

theorem execLoTune_same (n : Nat) {s : State}
    (hp : Sub (allow [.clk, .stats, .evt, .tl, .lo, .fe, .marks, .air] [.evtRpt, .tlEvtDrop]) m) (h : Same m s0 s) :
    OutSame m s0 (execLoTune n s) := by
  unfold execLoTune
  repeat' first
    | (with_reducible assumption) | (with_reducible refine Sub.trans ?_ hp; decide) | (intro _) | (with_reducible apply outSame_next)
    | (with_reducible apply fireEvent_same) | (with_reducible apply tuneSyn_same)

theorem execOverloadDeassert_same (p : Nat) {s : State}
    (hp : Sub (allow [.fe] []) m) (h : Same m s0 s) :
    OutSame m s0 (execOverloadDeassert p s) := by
  unfold execOverloadDeassert
  repeat' first
    | (with_reducible assumption) | (with_reducible apply outSame_next) | (with_reducible apply State_setFe_same)
    | (with_reducible apply outSame_ite)

theorem execRefclkLoss_same (edges : Nat) {s : State}
    (hp : Sub (allow [.stats, .evt, .lo, .fe, .marks] [.evtRpt]) m) (h : Same m s0 s) :
    OutSame m s0 (execRefclkLoss edges s) := by
  unfold execRefclkLoss
  repeat' first
    | (with_reducible assumption) | (with_reducible exact Free.rfl) | (with_reducible refine Free.bit hp ?_; decide)
    | (with_reducible apply outSame_next) | (with_reducible apply synHoldover_same) | (with_reducible apply outSame_ite)
    | (with_reducible refine same_foldl ?_ ?_; intro _ _ _)
    | (with_reducible apply same_parts)
    | (simp only [same_mk_iff])

theorem execRefclkRecovery_same (edges : List Nat) {s : State}
    (hp : Sub (allow [.lo] []) m) (h : Same m s0 s) :
    OutSame m s0 (execRefclkRecovery edges s) := by
  unfold execRefclkRecovery
  repeat' first
    | (with_reducible assumption) | (with_reducible exact Free.rfl) | (with_reducible refine Free.bit hp ?_; decide)
    | (with_reducible apply outSame_next) | (with_reducible apply State_setSyn_same) | (with_reducible apply outSame_ite)
    | (with_reducible apply same_ite) | (with_reducible refine same_foldl ?_ ?_; intro _ _ _)
    | (with_reducible apply same_parts)
    | (simp only [same_mk_iff])

theorem execResetPhaseEnd_same {s : State}
    (hp : Sub (allow [.clk, .fe, .cvt, .rx, .air] []) m) (h : Same m s0 s) :
    OutSame m s0 (execResetPhaseEnd s) := by
  unfold execResetPhaseEnd
  repeat' first
    | (with_reducible assumption) | (with_reducible refine Sub.trans ?_ hp; decide) | (with_reducible apply outSame_next)
    | (with_reducible apply startTurn_same) | (with_reducible apply State_setFe_same) | (with_reducible apply reachElapsed_same)
    | (with_reducible apply same_ite) | (with_reducible refine same_foldl ?_ ?_; intro _ _ _)

theorem execSerialTransaction_same (p : Nat) (febLow : Bool) {s : State}
    (hp : Sub (allow [.stats, .fresh, .evt, .fe, .bm] [.evtRpt, .feStat]) m) (h : Same m s0 s) :
    OutSame m s0 (execSerialTransaction p febLow s) := by
  unfold execSerialTransaction
  repeat' first
    | (with_reducible assumption) | (with_reducible refine Sub.trans ?_ hp; decide) | (with_reducible apply outSame_next)
    | (with_reducible apply State_setFe_same) | (with_reducible apply endTxn_same) | (with_reducible apply outSame_ite)
    | (with_reducible apply same_ite) | (simp only [same_mk_iff]) | split

theorem execSerialTransactionDone_same (p : Nat) (feb : List Bool) (rdata : List Byte) {s : State}
    (hp : Sub (allow [.clk, .stats, .fresh, .evt, .fe, .bm, .hk, .air] [.evtRpt, .feRdata, .feStat, .thmAmpCfg]) m) (h : Same m s0 s) :
    OutSame m s0 (execSerialTransactionDone p feb rdata s) := by
  unfold execSerialTransactionDone
  repeat' first
    | (with_reducible assumption) | (with_reducible refine Sub.bit hp ?_; decide) | (with_reducible refine Sub.trans ?_ hp; decide)
    | (with_reducible apply outSame_next) | (with_reducible apply reachElapsed_same) | (with_reducible apply State_setFe_same)
    | (with_reducible apply wr_same) | (with_reducible apply moduleTemp_same) | (with_reducible apply endTxn_same)
    | (with_reducible apply outSame_ite) | (with_reducible apply same_ite) | (simp only [same_mk_iff]) | split

theorem execStrapSample_same (fea : List Nat) (feb : List Nat) {s : State}
    (hp : Sub (allow [.clk, .evt, .straps, .air] [.evtRpt]) m) (h : Same m s0 s) :
    OutSame m s0 (execStrapSample fea feb s) := by
  unfold execStrapSample
  repeat' first
    | (with_reducible assumption) | (with_reducible exact Free.rfl) | (with_reducible refine Free.bit hp ?_; decide)
    | (with_reducible refine Sub.trans ?_ hp; decide) | (with_reducible apply outSame_next) | (with_reducible apply reachElapsed_same)
    | (with_reducible apply raise_same) | (with_reducible apply outSame_ite) | (with_reducible refine same_foldl ?_ ?_; intro _ _ _)
    | (with_reducible apply same_parts)
    | (simp only [same_mk_iff])

theorem execSynLockAchieved_same (n : Nat) {s : State}
    (hp : Sub (allow [.clk, .stats, .evt, .lo, .fe, .rx, .marks, .air] [.evtRpt]) m) (h : Same m s0 s) :
    OutSame m s0 (execSynLockAchieved n s) := by
  unfold execSynLockAchieved
  repeat' first
    | (with_reducible assumption) | (with_reducible refine Sub.trans ?_ hp; decide) | (with_reducible apply outSame_next)
    | (with_reducible apply reachElapsed_same) | (with_reducible apply State_setSyn_same) | (with_reducible apply applyForced_same)
    | (with_reducible apply trunkGood_same) | (with_reducible apply outSame_ite)

theorem execSynLockLoss_same (n : Nat) {s : State}
    (hp : Sub (allow [.stats, .evt, .lo, .fe, .marks] [.evtRpt, .loSynUnlocks]) m) (h : Same m s0 s) :
    OutSame m s0 (execSynLockLoss n s) := by
  unfold execSynLockLoss
  repeat' first
    | (with_reducible assumption) | (with_reducible refine Sub.bit hp ?_; decide) | (with_reducible refine Sub.trans ?_ hp; decide)
    | (with_reducible apply outSame_next) | (with_reducible apply State_setSyn_same) | (with_reducible apply raise_same)
    | (with_reducible apply bump_same) | (with_reducible apply trunkDrop_same) | (with_reducible apply outSame_ite)

theorem execSynSettleTimeout_same (n : Nat) {s : State}
    (hp : Sub (allow [.clk, .evt, .lo, .air] [.evtRpt]) m) (h : Same m s0 s) :
    OutSame m s0 (execSynSettleTimeout n s) := by
  unfold execSynSettleTimeout
  repeat' first
    | (with_reducible assumption) | (with_reducible refine Sub.trans ?_ hp; decide) | (with_reducible apply outSame_next)
    | (with_reducible apply reachElapsed_same) | (with_reducible apply raise_same) | (with_reducible apply State_setSyn_same)
    | (with_reducible apply outSame_ite)

theorem execTurnaroundStep_same (p : Nat) {s : State}
    (hp : Sub (allow [.clk, .fe, .cvt, .rx, .marks, .air] []) m) (h : Same m s0 s) :
    OutSame m s0 (execTurnaroundStep p s) := by
  unfold execTurnaroundStep
  repeat' first
    | (with_reducible assumption) | (with_reducible refine Sub.trans ?_ hp; decide) | (with_reducible apply outSame_next)
    | (with_reducible apply turnStep_same) | (with_reducible apply reachElapsed_same) | (with_reducible apply startExitTurn_same)
    | (with_reducible apply outSame_ite) | split

theorem execTxSymbolStart_same (p : Nat) (cc : Nat) {s : State}
    (hp : Sub (allow [.clk, .stats, .evt, .fe, .marks, .air] [.evtRpt]) m) (h : Same m s0 s) :
    OutSame m s0 (execTxSymbolStart p cc s) := by
  unfold execTxSymbolStart
  repeat' first
    | (with_reducible assumption) | (with_reducible refine Sub.trans ?_ hp; decide) | (with_reducible apply outSame_next)
    | (with_reducible apply resumeTx_same) | (with_reducible apply reachCount_same) | (with_reducible apply toBoundary_same)
    | (with_reducible apply blankSymbols_same) | (with_reducible apply outSame_ite) | (with_reducible apply same_ite)

theorem execVcoCalibrationDone_same (n : Nat) {s : State}
    (hp : Sub (allow [.lo] []) m) (h : Same m s0 s) :
    OutSame m s0 (execVcoCalibrationDone n s) := by
  unfold execVcoCalibrationDone
  repeat' first
    | (with_reducible assumption) | (with_reducible apply outSame_next) | (with_reducible apply State_setSyn_same)
    | (with_reducible apply outSame_ite)

/-! ## CmdRx -/

theorem execAgcRelease_same (p : Nat) {s : State}
    (hp : Sub (allow [.clk, .cvt, .rx, .air] []) m) (h : Same m s0 s) :
    OutSame m s0 (execAgcRelease p s) := by
  unfold execAgcRelease
  repeat' first
    | (with_reducible assumption) | (with_reducible refine Sub.trans ?_ hp; decide) | (with_reducible apply outSame_next)
    | (with_reducible apply toSymbol_same) | (with_reducible apply setAtt_same) | (with_reducible apply State_setRxg_same)
    | (with_reducible apply outSame_ite)

theorem execCoefficientRoll_same {s : State}
    (hp : Sub (allow [.clk, .subs, .evt, .fe, .rx, .bm, .lnk, .svc, .nv, .air] [.evtRpt]) m) (h : Same m s0 s) :
    OutSame m s0 (execCoefficientRoll s) := by
  unfold execCoefficientRoll
  repeat' first
    | (with_reducible assumption) | (with_reducible apply outSame_next) | (with_reducible apply coefficientRoll_same)
    | (with_reducible apply outSame_ite)

theorem execCoefficientWrite_same (tag : Nat) (addr : Nat) (value : Nat) {s : State}
    (hp : Sub (allow [.fresh, .evt, .out, .rx] [.evtRpt, .rxStat]) m) (h : Same m s0 s) :
    OutSame m s0 (execCoefficientWrite tag addr value s) := by
  unfold execCoefficientWrite
  repeat' first
    | (with_reducible assumption) | (with_reducible refine Sub.trans ?_ hp; decide) | (with_reducible apply outSame_next)
    | (with_reducible apply emit_same) | (with_reducible apply coefWrite_same) | (with_reducible apply same_ite) | split

theorem execFastPathEstimate_same (p : Nat) (xi : List Int) (xq : List Int) (ovr : Nat) (ovrNew : Nat) {s : State}
    (hp : Sub (allow [.clk, .evt, .fe, .cvt, .rx, .air] [.adcOvr, .evtRpt, .rxgCnt]) m) (h : Same m s0 s) :
    OutSame m s0 (execFastPathEstimate p xi xq ovr ovrNew s) := by
  unfold execFastPathEstimate
  repeat' first
    | (with_reducible assumption) | (with_reducible apply outSame_next) | (with_reducible apply fastEstimate_same)
    | (with_reducible apply outSame_ite)

theorem execLaneMoveRequest_same (tag : Nat) (c : Nat) (value : Nat) {s : State}
    (hp : Sub (allow [.evt, .out, .rx] [.evtRpt]) m) (h : Same m s0 s) :
    OutSame m s0 (execLaneMoveRequest tag c value s) := by
  unfold execLaneMoveRequest
  repeat' first
    | (with_reducible assumption) | (with_reducible refine Sub.trans ?_ hp; decide) | (with_reducible apply outSame_next)
    | (with_reducible apply tagged_same) | (with_reducible apply requestMove_same) | (with_reducible apply outSame_ite)
    | (with_reducible apply same_ite)

theorem execLaneSwitch_same (c : Nat) (differ : Bool) {s : State}
    (hp : Sub (allowAny [.clk, .objs, .objGen, .subs, .evt, .fe, .rx, .bm, .lnk, .svc, .nv, .marks, .air]) m) (h : Same m s0 s) :
    OutSame m s0 (execLaneSwitch c differ s) := by
  unfold execLaneSwitch
  repeat' first
    | (with_reducible assumption) | (with_reducible refine Sub.trans ?_ hp; decide) | (with_reducible apply outSame_next)
    | (with_reducible apply reachElapsed_same) | (with_reducible apply toBoundary_same) | (with_reducible apply laneSwitch_same)
    | (with_reducible apply outSame_ite)

theorem execLaneWarmStart_same (c : Nat) {s : State}
    (hp : Sub (allow [.clk, .rx, .air] []) m) (h : Same m s0 s) :
    OutSame m s0 (execLaneWarmStart c s) := by
  unfold execLaneWarmStart
  repeat' first
    | (with_reducible assumption) | (with_reducible refine Sub.trans ?_ hp; decide) | (with_reducible apply outSame_next)
    | (with_reducible apply toCommon_same) | (with_reducible apply State_setLanes_same) | (with_reducible apply outSame_ite)

theorem execLimiterLnaReturn_same (p : Nat) {s : State}
    (hp : Sub (allow [.clk, .fe, .rx, .air] []) m) (h : Same m s0 s) :
    OutSame m s0 (execLimiterLnaReturn p s) := by
  unfold execLimiterLnaReturn
  repeat' first
    | (with_reducible assumption) | (with_reducible refine Sub.trans ?_ hp; decide) | (with_reducible apply outSame_next)
    | (with_reducible apply toSymbol_same) | (with_reducible apply lnaChange_same) | (with_reducible apply State_setRxg_same)
    | (with_reducible apply outSame_ite)

theorem execOverloadAssert_same (p : Nat) {s : State}
    (hp : Sub (allow [.clk, .stats, .fresh, .evt, .fe, .rx, .air] [.evtRpt, .feStat, .rxgCnt]) m) (h : Same m s0 s) :
    OutSame m s0 (execOverloadAssert p s) := by
  unfold execOverloadAssert
  repeat' first
    | (with_reducible assumption) | (with_reducible refine Sub.bit hp ?_; decide) | (with_reducible refine Sub.trans ?_ hp; decide)
    | (with_reducible apply outSame_next) | (with_reducible apply State_setFe_same) | (with_reducible apply raise_same)
    | (with_reducible apply statPath_same) | (with_reducible apply setFlag_same) | (with_reducible apply limiterBypass_same)
    | (with_reducible apply outSame_ite) | (with_reducible apply same_ite)

theorem execPrachOccasion_same (p : Nat) (j : Nat) (occ : Nat) (x : List Cplx) (sat : Nat) {s : State}
    (hp : Sub (allow [.clk, .evt, .rx, .air] [.evtRpt, .rxSat]) m) (h : Same m s0 s) :
    OutSame m s0 (execPrachOccasion p j occ x sat s) := by
  unfold execPrachOccasion
  repeat' first
    | (with_reducible assumption) | (with_reducible exact Free.rfl) | (with_reducible refine Free.bit hp ?_; decide)
    | (with_reducible refine Sub.trans ?_ hp; decide) | (with_reducible apply outSame_next) | (with_reducible apply toBoundary_same)
    | (with_reducible apply passTicks_same) | (with_reducible apply rxSat_same) | (with_reducible apply outSame_ite)
    | (with_reducible apply same_parts)
    | (simp only [same_mk_iff])

theorem execRxFftWindowEnd_same (p : Nat) (cc : Nat) (xi : List Int) (xq : List Int) (sat : Nat) {s : State}
    (hp : Sub (allow [.clk, .stats, .evt, .rx, .air] [.evtRpt, .rxSat]) m) (h : Same m s0 s) :
    OutSame m s0 (execRxFftWindowEnd p cc xi xq sat s) := by
  unfold execRxFftWindowEnd
  repeat' first
    | (with_reducible assumption) | (with_reducible exact Free.rfl) | (with_reducible refine Free.bit hp ?_; decide)
    | (with_reducible refine Sub.trans ?_ hp; decide) | (with_reducible apply outSame_next) | (with_reducible apply toBoundary_same)
    | (with_reducible apply statPath_same) | (with_reducible apply rxSat_same) | (with_reducible apply outSame_ite)
    | (with_reducible apply same_ite)
    | (with_reducible apply same_parts)
    | (simp only [same_mk_iff])

theorem execSync_same (n : Nat) {s : State}
    (hp : Sub (allow [.clk, .evt, .tl, .rx, .air] [.evtRpt, .tlEvtDrop]) m) (h : Same m s0 s) :
    OutSame m s0 (execSync n s) := by
  unfold execSync
  repeat' first
    | (with_reducible assumption) | (with_reducible refine Sub.trans ?_ hp; decide) | (intro _) | (with_reducible apply outSame_next)
    | (with_reducible apply fireEvent_same) | (with_reducible apply requestSync_same)

theorem execSyncFillEnd_same (cc : Nat) {s : State}
    (hp : Sub (allow [.clk, .rx, .air] []) m) (h : Same m s0 s) :
    OutSame m s0 (execSyncFillEnd cc s) := by
  unfold execSyncFillEnd
  repeat' first
    | (with_reducible assumption) | (with_reducible exact Free.rfl) | (with_reducible refine Free.bit hp ?_; decide)
    | (with_reducible refine Sub.trans ?_ hp; decide) | (with_reducible apply outSame_next) | (with_reducible apply reachElapsed_same)
    | (with_reducible apply reachCount_same) | (with_reducible apply outSame_ite)
    | (with_reducible apply same_parts)
    | (simp only [same_mk_iff])

theorem execSyncNow_same (tag : Nat) {s : State}
    (hp : Sub (allow [.evt, .out, .rx] [.evtRpt, .tlSync]) m) (h : Same m s0 s) :
    OutSame m s0 (execSyncNow tag s) := by
  unfold execSyncNow
  repeat' first
    | (with_reducible assumption) | (with_reducible refine Sub.trans ?_ hp; decide) | (with_reducible apply outSame_next)
    | (with_reducible apply tagged_same) | (with_reducible apply syncWrite_same)

theorem execSyncPinEdge_same (tick : Nat) {s : State}
    (hp : Sub (allow [.rx] []) m) (h : Same m s0 s) :
    OutSame m s0 (execSyncPinEdge tick s) := by
  unfold execSyncPinEdge
  repeat' first
    | (with_reducible assumption) | (with_reducible apply outSame_next) | (with_reducible apply requestSync_same)
    | (with_reducible apply outSame_ite)

theorem execSyncRequestObject_same (role : Role) (tick : Nat) {s : State}
    (hp : Sub (allow [.rx] []) m) (h : Same m s0 s) :
    OutSame m s0 (execSyncRequestObject role tick s) := by
  unfold execSyncRequestObject
  repeat' first | (with_reducible assumption) | (with_reducible apply outSame_next) | (with_reducible apply requestSync_same) | split

theorem execSyncTakeEffect_same {s : State}
    (hp : Sub (allow [.clk, .evt, .rx, .marks, .air] [.evtRpt, .tlSync, .tlSyncLast]) m) (h : Same m s0 s) :
    OutSame m s0 (execSyncTakeEffect s) := by
  unfold execSyncTakeEffect
  repeat' first
    | (with_reducible assumption) | (with_reducible exact Free.rfl) | (with_reducible refine Free.bit hp ?_; decide)
    | (with_reducible refine Sub.bit hp ?_; decide) | (with_reducible refine Sub.trans ?_ hp; decide)
    | (with_reducible apply outSame_next) | (with_reducible apply reachCount_same) | (with_reducible apply markSpan_same)
    | (with_reducible apply wbit_same) | (with_reducible apply wr_same) | (with_reducible apply raise_same)
    | (with_reducible apply restartWarm_same) | (with_reducible refine same_foldl ?_ ?_; intro _ _ _)
    | (with_reducible apply same_parts)
    | (simp only [same_mk_iff]) | split

/-! ## CmdService -/

theorem execDmaMainRestored_same (marchOk : Bool) {s : State}
    (hp : Sub (allow [.evt, .mem] [.evtRpt]) m) (h : Same m s0 s) :
    OutSame m s0 (execDmaMainRestored marchOk s) := by
  unfold execDmaMainRestored
  repeat' first
    | (with_reducible assumption) | (with_reducible exact Free.rfl) | (with_reducible refine Free.bit hp ?_; decide)
    | (with_reducible refine Sub.trans ?_ hp; decide) | (with_reducible apply outSame_next) | (with_reducible apply raise_same)
    | (with_reducible apply outSame_ite)
    | (with_reducible apply same_parts)
    | (simp only [same_mk_iff])

theorem execEngineRetire_same (e : Nat) (tag : Nat) (ecc : Bool) {s : State}
    (hp : Sub (allow [.stats, .evt, .out, .adm, .disp, .ge, .lnk, .svc, .nv] [.evtRpt, .geDoorbell]) m) (h : Same m s0 s) :
    OutSame m s0 (execEngineRetire e tag ecc s) := by
  unfold execEngineRetire
  repeat' first
    | (with_reducible assumption) | (with_reducible exact Free.rfl) | (with_reducible refine Free.bit hp ?_; decide)
    | (with_reducible refine Sub.trans ?_ hp; decide) | (with_reducible apply outSame_next) | (with_reducible apply retireEngine_same)
    | (with_reducible apply tagged_same) | (with_reducible apply outSame_ite)
    | (with_reducible apply same_parts)
    | (simp only [same_mk_iff])

theorem execEngineSpareTakeover_same (e : Nat) {s : State}
    (hp : Sub (allow [.evt, .adm, .ge, .lnk, .svc, .nv] [.evtRpt]) m) (h : Same m s0 s) :
    OutSame m s0 (execEngineSpareTakeover e s) := by
  unfold execEngineSpareTakeover
  repeat' first | (with_reducible assumption) | (with_reducible apply outSame_next) | (with_reducible apply spareTakesOver_same) | split

theorem execFwAlive_same (pair : Nat) {s : State}
    (hp : Sub (allow [.ctl, .evt] [.ctlFwSig, .ctlFwStat, .evtRpt]) m) (h : Same m s0 s) :
    OutSame m s0 (execFwAlive pair s) := by
  unfold execFwAlive
  repeat' first
    | (with_reducible assumption) | (with_reducible apply outSame_next) | (with_reducible apply fwSignal_same)
    | (with_reducible apply outSame_ite)

theorem execFwHandoverDone_same {s : State}
    (hp : Sub (allow [.clk, .ctl, .evt, .air] [.ctlFwSig, .ctlFwStat, .evtRpt]) m) (h : Same m s0 s) :
    OutSame m s0 (execFwHandoverDone s) := by
  unfold execFwHandoverDone
  repeat' first
    | (with_reducible assumption) | (with_reducible refine Sub.bit hp ?_; decide) | (with_reducible refine Sub.trans ?_ hp; decide)
    | (with_reducible apply outSame_next) | (with_reducible apply reachElapsed_same) | (with_reducible apply State_setStandby_same)
    | (with_reducible apply State_setHoResult_same) | (with_reducible apply State_setHo_same) | (with_reducible apply wbit_same)
    | (with_reducible apply raise_same) | (with_reducible apply State_setPair_same) | (with_reducible apply outSame_ite)

theorem execFwReverted_same {s : State}
    (hp : Sub (allow [.clk, .ctl, .evt, .nv, .marks, .air] [.ctlFwSig, .ctlFwStat, .evtRpt, .secBoot]) m) (h : Same m s0 s) :
    OutSame m s0 (execFwReverted s) := by
  unfold execFwReverted
  repeat' first
    | (with_reducible assumption) | (with_reducible refine Sub.trans ?_ hp; decide) | (with_reducible apply outSame_next)
    | (with_reducible apply hoReverts_same) | (with_reducible apply toSlot_same) | (with_reducible apply reachElapsed_same)
    | (with_reducible apply outSame_ite)

theorem execFwSaved_same (pair : Nat) {s : State}
    (hp : Sub (allow [.ctl, .evt] [.ctlFwSig, .ctlFwStat, .evtRpt]) m) (h : Same m s0 s) :
    OutSame m s0 (execFwSaved pair s) := by
  unfold execFwSaved
  repeat' first
    | (with_reducible assumption) | (with_reducible apply outSame_next) | (with_reducible apply fwSignal_same)
    | (with_reducible apply outSame_ite)

theorem execFwStandbyReady_same (pair : Nat) {s : State}
    (hp : Sub (allow [.ctl, .evt] [.ctlFwSig, .ctlFwStat, .evtRpt]) m) (h : Same m s0 s) :
    OutSame m s0 (execFwStandbyReady pair s) := by
  unfold execFwStandbyReady
  repeat' first
    | (with_reducible assumption) | (with_reducible apply outSame_next) | (with_reducible apply fwSignal_same)
    | (with_reducible apply outSame_ite)

theorem execHandoverActivate_same {s : State}
    (hp : Sub (allow [.clk, .ctl, .evt, .svc, .marks, .air] [.ctlFwSig, .ctlFwStat, .evtRpt, .secBoot]) m) (h : Same m s0 s) :
    OutSame m s0 (execHandoverActivate s) := by
  unfold execHandoverActivate
  repeat' first
    | (with_reducible assumption) | (with_reducible exact Free.rfl) | (with_reducible refine Free.bit hp ?_; decide)
    | (with_reducible refine Sub.bit hp ?_; decide) | (with_reducible refine Sub.trans ?_ hp; decide)
    | (with_reducible apply outSame_next) | (with_reducible apply reachCount_same) | (with_reducible apply wbit_same)
    | (with_reducible apply exchange_same) | (with_reducible apply State_setPair_same) | (with_reducible apply State_setHo_same)
    | (with_reducible apply outSame_ite)
    | (with_reducible apply same_parts)
    | (simp only [same_mk_iff])

theorem execHandoverRequest_same (tag : Nat) (boundary : Nat) (tick : Nat) {s : State}
    (hp : Sub (allow [.evt, .out, .svc] [.ctlFwSig, .ctlFwStat, .evtRpt]) m) (h : Same m s0 s) :
    OutSame m s0 (execHandoverRequest tag boundary tick s) := by
  unfold execHandoverRequest
  repeat' first
    | (with_reducible assumption) | (with_reducible refine Sub.trans ?_ hp; decide) | (with_reducible apply outSame_next)
    | (with_reducible apply tagged_same) | (with_reducible apply hoRequest_same)

theorem execHandoverSaving_same {s : State}
    (hp : Sub (allow [.clk, .air] [.ctlFwStat]) m) (h : Same m s0 s) :
    OutSame m s0 (execHandoverSaving s) := by
  unfold execHandoverSaving
  repeat' first
    | (with_reducible assumption) | (with_reducible refine Sub.trans ?_ hp; decide) | (with_reducible apply outSame_next)
    | (with_reducible apply State_setHo_same) | (with_reducible apply reachCount_same) | (with_reducible apply outSame_ite)

theorem execLaneFault_same (c : Nat) (k : Nat) {s : State}
    (hp : Sub (allow [.subs, .evt, .fe, .rx, .bm, .lnk, .svc, .nv, .marks] [.evtRpt]) m) (h : Same m s0 s) :
    OutSame m s0 (execLaneFault c k s) := by
  unfold execLaneFault
  repeat' first
    | (with_reducible assumption) | (with_reducible apply outSame_next) | (with_reducible apply laneFault_same)
    | (with_reducible apply outSame_ite)

theorem execMainMoverParity_same {s : State}
    (hp : Sub (allow [.fresh, .evt, .mem, .svc] [.dmaRingStat, .evtRpt]) m) (h : Same m s0 s) :
    OutSame m s0 (execMainMoverParity s) := by
  unfold execMainMoverParity
  repeat' first
    | (with_reducible assumption) | (with_reducible exact Free.rfl) | (with_reducible refine Free.bit hp ?_; decide)
    | (with_reducible refine Sub.trans ?_ hp; decide) | (with_reducible apply outSame_next) | (with_reducible apply moverFallback_same)
    | (with_reducible apply outSame_ite)
    | (with_reducible apply same_parts)
    | (simp only [same_mk_iff])

theorem execNvWordWrite_same (kind : Nat) (tried : List Nat) (ok : Bool) {s : State}
    (hp : Sub (allow [.evt, .nv] [.evtRpt]) m) (h : Same m s0 s) :
    OutSame m s0 (execNvWordWrite kind tried ok s) := by
  unfold execNvWordWrite
  repeat' first
    | (with_reducible assumption) | (with_reducible exact Free.rfl) | (with_reducible refine Free.bit hp ?_; decide)
    | (with_reducible refine Sub.trans ?_ hp; decide) | (with_reducible apply outSame_next) | (with_reducible apply nvCount_same)
    | (with_reducible apply raise_same) | (with_reducible apply same_ite) | (with_reducible refine same_foldl ?_ ?_; intro _ _ _)
    | (with_reducible apply same_parts)
    | (simp only [same_mk_iff])

theorem execPoweredHour_same {s : State}
    (hp : Sub (allow [.clk, .evt, .lnk, .svc, .nv, .air] [.evtRpt]) m) (h : Same m s0 s) :
    OutSame m s0 (execPoweredHour s) := by
  unfold execPoweredHour
  repeat' first
    | (with_reducible assumption) | (with_reducible exact Free.rfl) | (with_reducible refine Free.bit hp ?_; decide)
    | (with_reducible refine Sub.trans ?_ hp; decide) | (with_reducible apply outSame_next) | (with_reducible apply reachElapsed_same)
    | (with_reducible apply checkForecast_same) | (with_reducible apply outSame_ite)
    | (with_reducible refine same_foldl ?_ ?_; intro _ _ _)
    | (with_reducible apply same_parts)
    | (simp only [same_mk_iff])

theorem execStandbyImageWrite_same (role : Role) (image : List Byte) {s : State}
    (hp : Sub (allow [.ctl, .evt, .out, .mem, .nv] [.ctlFwStat, .evtRpt]) m) (h : Same m s0 s) :
    OutSame m s0 (execStandbyImageWrite role image s) := by
  unfold execStandbyImageWrite
  repeat' first
    | (with_reducible assumption) | (with_reducible refine Sub.trans ?_ hp; decide) | (with_reducible apply outSame_next)
    | (with_reducible apply answer_same) | (with_reducible apply notTenant_same) | (with_reducible apply standbyImage_same)

/-! ## CmdTimeline -/

theorem countGuard_same {s : State} (p : Nat)
    (hp : Sub (allow [.fe] []) m) (h : Same m s0 s) :
    Same m s0 (countGuard s p) := by
  unfold countGuard
  repeat' first | (with_reducible assumption) | (with_reducible apply State_setFe_same)

theorem guardEndPath_same {s : State} (p : Nat)
    (hp : Sub (allow [.stats, .fresh, .evt, .fe, .cvt, .rx, .bm, .marks] [.evtRpt, .feStat, .tlGuardOvr]) m) (h : Same m s0 s) :
    Same m s0 (guardEndPath s p) := by
  unfold guardEndPath
  repeat' first
    | (with_reducible assumption) | (with_reducible refine Sub.bit hp ?_; decide) | (with_reducible refine Sub.trans ?_ hp; decide)
    | (with_reducible apply endTxn_same) | (with_reducible apply raise_same) | (with_reducible apply bump_same)
    | (with_reducible apply finishTurn_same) | (with_reducible apply startTurn_same) | (with_reducible apply deferRetries_same)
    | (with_reducible apply markSilent_same) | (with_reducible apply State_setFe_same) | (with_reducible apply same_ite)
    | (simp only [same_mk_iff]) | split

theorem guardCalDone_same {s : State}
    (hp : Sub (allow [.fresh, .cal] [.calSkip, .calStat]) m) (h : Same m s0 s) :
    Same m s0 (guardCalDone s) := by
  unfold guardCalDone
  repeat' first
    | (with_reducible assumption) | (with_reducible refine Sub.trans ?_ hp; decide) | (with_reducible apply skipWindow_same)
    | (with_reducible apply State_setTop_same) | (with_reducible apply same_ite) | (with_reducible refine same_foldl ?_ ?_; intro _ _ _)

theorem execGuardEnd_same {s : State}
    (hp : Sub (allow [.clk, .stats, .fresh, .evt, .fe, .cvt, .rx, .bm, .cal, .marks, .air] [.calSkip, .calStat, .evtRpt, .feStat,
        .tlGuardOvr]) m) (h : Same m s0 s) :
    OutSame m s0 (execGuardEnd s) := by
  unfold execGuardEnd
  repeat' first
    | (with_reducible assumption) | (with_reducible refine Sub.trans ?_ hp; decide) | (with_reducible apply outSame_next)
    | (with_reducible apply reachCount_same) | (with_reducible apply guardEndPath_same) | (with_reducible apply guardCalDone_same)
    | (with_reducible apply outSame_ite) | (with_reducible refine same_foldl ?_ ?_; intro _ _ _) | (simp only [same_mk_iff]) | split

theorem execPatternEntryBoundary_same {s : State}
    (hp : Sub (allow [.clk, .tl, .fe, .cvt, .rx, .tx, .marks, .air] []) m) (h : Same m s0 s) :
    OutSame m s0 (execPatternEntryBoundary s) := by
  unfold execPatternEntryBoundary
  repeat' first
    | (with_reducible assumption) | (with_reducible refine Sub.trans ?_ hp; decide) | (with_reducible apply outSame_next)
    | (with_reducible apply toBoundary_same) | (with_reducible apply enterPathState_same) | (with_reducible apply countGuard_same)
    | (with_reducible apply outSame_ite) | (with_reducible apply same_ite) | (with_reducible refine same_foldl ?_ ?_; intro _ _ _)

theorem execPtpCorrectionRequest_same (quarterNs : Int) {s : State}
    (hp : Sub (allow [.clk, .evt, .tl, .rx] [.evtRpt, .tlCtrl]) m) (h : Same m s0 s) :
    OutSame m s0 (execPtpCorrectionRequest quarterNs s) := by
  unfold execPtpCorrectionRequest
  repeat' first | (with_reducible assumption) | (with_reducible apply outSame_next) | (with_reducible apply timeCorrection_same)

theorem execTimelineStepApply_same {s : State}
    (hp : Sub (allow [.clk, .fresh, .tl, .rx, .air] [.tlCtrl]) m) (h : Same m s0 s) :
    OutSame m s0 (execTimelineStepApply s) := by
  unfold execTimelineStepApply
  repeat' first
    | (with_reducible assumption) | (with_reducible exact Free.rfl) | (with_reducible refine Free.bit hp ?_; decide)
    | (with_reducible refine Sub.bit hp ?_; decide) | (with_reducible refine Sub.trans ?_ hp; decide)
    | (with_reducible apply outSame_next) | (with_reducible apply reachCount_same) | (with_reducible apply takeAgain_same)
    | (with_reducible apply wbit_same) | (with_reducible apply stepCount_same) | (with_reducible apply requestSync_same)
    | (with_reducible apply outSame_ite)
    | (with_reducible apply same_parts)
    | (simp only [same_mk_iff]) | split

theorem execTlNowLoRead_same {s : State}
    (hp : Sub (allow [.out] [.tlNowHi]) m) (h : Same m s0 s) :
    OutSame m s0 (execTlNowLoRead s) := by
  unfold execTlNowLoRead
  repeat' first
    | (with_reducible assumption) | (with_reducible refine Sub.bit hp ?_; decide) | (with_reducible refine Sub.trans ?_ hp; decide)
    | (with_reducible apply outSame_next) | (with_reducible apply emit_same) | (with_reducible apply wr_same)

/-! ## CmdTx -/

theorem State_configAt_same {s : State} (c : Nat)
    (hp : Sub (allowAny [.objs, .objGen]) m) (h : Same m s0 s) :
    Same m s0 (State.configAt s c) := by
  unfold State.configAt
  repeat' first | (with_reducible assumption) | (with_reducible apply overlay_same) | (with_reducible apply same_ite) | split

theorem State_setAir_same {s : State} (p : Nat) (a : AirPath)
    (hp : Sub (allow [.air] []) m) (h : Same m s0 s) :
    Same m s0 (State.setAir s p a) := by
  unfold State.setAir
  repeat' first
    | (with_reducible assumption) | (with_reducible exact Free.rfl) | (with_reducible refine Free.bit hp ?_; decide)
    | (with_reducible apply same_parts)
    | (simp only [same_mk_iff])

theorem reportStream_same {s : State} (p : Nat)
    (hp : Sub (allow [.evt, .air] [.cfrMiss, .dpdClamp, .evtRpt, .txClip, .txSat]) m) (h : Same m s0 s) :
    Same m s0 (reportStream s p) := by
  unfold reportStream
  repeat' first
    | (with_reducible assumption) | (with_reducible refine Sub.bit hp ?_; decide) | (with_reducible refine Sub.trans ?_ hp; decide)
    | (with_reducible apply State_setAir_same) | (with_reducible apply bump_same) | (with_reducible apply raise_same)
    | (with_reducible apply same_ite) | (with_reducible refine same_foldl ?_ ?_; intro _ _ _)

theorem slotDone_same {s : State} (p : Nat) (len : Nat) (cal : List Cplx)
    (hp : Sub (allow [.evt, .tx, .air] [.cfrMiss, .dpdClamp, .evtRpt, .txClip, .txSat]) m) (h : Same m s0 s) :
    Same m s0 (slotDone s p len cal) := by
  unfold slotDone
  repeat' first
    | (with_reducible assumption) | (with_reducible exact Free.rfl) | (with_reducible refine Free.bit hp ?_; decide)
    | (with_reducible refine Sub.trans ?_ hp; decide) | (with_reducible apply reportStream_same) | (with_reducible apply raise_same)
    | (with_reducible apply State_setAir_same) | (with_reducible apply same_ite)
    | (with_reducible apply same_parts)
    | (simp only [same_mk_iff])

theorem execSlotBoundary_same (p : Nat) (x1 : Unit) (x2 : Unit) (x3 : Unit) (x4 : Unit) (x5 : Unit) (cal : List Cplx) {s : State}
    (hp : Sub (allow [.clk, .evt, .tx, .air] [.cfrMiss, .dpdClamp, .evtRpt, .txClip, .txSat]) m) (h : Same m s0 s) :
    OutSame m s0 (execSlotBoundary p x1 x2 x3 x4 x5 cal s) := by
  unfold execSlotBoundary
  repeat' first
    | (with_reducible assumption) | (with_reducible refine Sub.trans ?_ hp; decide) | (with_reducible apply outSame_next)
    | (with_reducible apply toSlot_same) | (with_reducible apply slotDone_same) | (with_reducible apply outSame_ite)

theorem queueSymbol_same {s : State} (p : Nat) (cc : Nat) (y : TxSym)
    (hp : Sub (allow [.tx, .air] []) m) (h : Same m s0 s) :
    Same m s0 (queueSymbol s p cc y) := by
  unfold queueSymbol
  repeat' first
    | (with_reducible assumption) | (with_reducible exact Free.rfl) | (with_reducible refine Free.bit hp ?_; decide)
    | (with_reducible apply same_parts)
    | (simp only [same_mk_iff])

theorem execTxSymbolRead_same (p : Nat) (cc : Nat) (late : List Nat) {s : State}
    (hp : Sub (allowAny [.clk, .objs, .objGen, .fresh, .evt, .tx, .air]) m) (h : Same m s0 s) :
    OutSame m s0 (execTxSymbolRead p cc late s) := by
  unfold execTxSymbolRead
  repeat' first
    | (with_reducible assumption) | (with_reducible exact Free.rfl) | (with_reducible refine Free.bit hp ?_; decide)
    | (with_reducible refine Sub.bit hp ?_; decide) | (with_reducible refine Sub.trans ?_ hp; decide)
    | (with_reducible apply outSame_next) | (with_reducible apply toBoundary_same) | (with_reducible apply queueSymbol_same)
    | (with_reducible apply raise_same) | (with_reducible apply setFlag_same) | (with_reducible apply bump_same)
    | (with_reducible apply wbit_same) | (with_reducible apply reportStream_same) | (with_reducible apply outSame_ite)
    | (with_reducible apply same_ite)
    | (with_reducible apply same_parts)
    | (simp only [same_mk_iff])

end Sys2Proof.Machine
end

