-- ==== Sys2Proof/Machine/Pins.lean ====
section
/-! DEFINITION. The balls of the package (R636 to R642) and the level that each output ball shows (R111, R496, R522, R545, R588). -/

namespace Sys2Proof.Machine

/-! ## The ball map (R636 to R642) -/

/-- A signal ball. -/
inductive Signal where
  | txout (p : Nat) | rxin (p : Nat) | obsin (p : Nat) | fea (p : Nat) | feb (p : Nat) | bdac (c : Nat) | drnEn (a : Nat)
  | laneTxP (l : Nat) | laneTxN (l : Nat) | laneRxP (l : Nat) | laneRxN (l : Nat)
  | amon (n : Nat) | caltx | calrx | wrxa | wrxb
  | refclkP | refclkN | xi | xo | osc32In | osc32Out | sync | synceOut | ppsIn | ppsOut | wake | ldacN | evtN (n : Nat) | evtmN
  | nreset | pwrgood | tck | tms | tdi | tdo | trstN | t1sP | t1sN
  | mspiCsN | mspiSck | mspiSdi | mspiSdo | qspiCsN | qspiSck | qspiIo (n : Nat) | pwm (n : Nat) | tach (n : Nat)
deriving DecidableEq, Repr

/-- A supply of R626. -/
inductive Supply where
  | vaon | vddCore | vddSram | vdda1v0 | vdda1v8 | vrf1v2 | vser0v9 | vser1v2 | vio1v8 | vneg | vpos
deriving DecidableEq, Repr

/-- What a ball carries. -/
inductive Ball where
  | signal (x : Signal)
  | supply (x : Supply)
  | vss
  | reserved
deriving DecidableEq, Repr

/-- A ball of a path cluster's band, by row from the edge of the package and column (R637); the clusters of the bottom band lie in reverse. -/
def bandBall (top : Bool) (row col : Nat) : Ball :=
  let slot := (col - 1) / 13
  let c := if top then slot else 7 - slot
  let x := (col - 1) % 13
  match (List.range 8).find? (fun k => 1 + k + k / 2 = x) with
  | some k =>
    let p := 8 * c + k
    (match row with
    | 1 => .signal (.txout p)
    | 3 => .signal (.rxin p)
    | 5 => .signal (.obsin p)
    | 7 => .signal (.fea p)
    | 8 => .signal (.feb p)
    | 9 => .signal (.bdac (2 * p))
    | 10 => .signal (.bdac (2 * p + 1))
    | 11 => .signal (.drnEn p)
    | _ => .vss)
  | none =>
    match row with
    | 7 | 8 => .supply .vrf1v2
    | 9 | 10 => .supply .vdda1v0
    | 11 => .supply .vdda1v8
    | _ => .vss

/-- A ball of the left edge (R638). -/
def leftBall (row col : Nat) : Ball :=
  if row < 13 ∨ 40 ≤ row then .vss
  else
    let l := (row - 13) / 3
    let third := decide ((row - 13) % 3 = 2)
    if col = 1 ∨ col = 4 then .supply (if third then .vser1v2 else .vser0v9)
    else match (row - 13) % 3, col with
      | 0, 2 => .signal (.laneTxP l)
      | 0, 3 => .signal (.laneTxN l)
      | 1, 5 => .signal (.laneRxP l)
      | 1, 6 => .signal (.laneRxN l)
      | _, _ => .vss

/-- The signals of column 50 from row M on. -/
def column50 : List Signal :=
  [.refclkP, .refclkN, .xi, .xo, .osc32In, .osc32Out, .sync, .synceOut, .ppsIn, .ppsOut, .wake, .ldacN, .evtN 0, .evtN 1, .evtN 2, .evtN 3,
   .evtmN, .nreset, .pwrgood, .tck, .tms, .tdi, .tdo, .trstN, .t1sP, .t1sN]
/-- The signals of column 48 from row M on. -/
def column48 : List Signal :=
  [.mspiCsN, .mspiSck, .mspiSdi, .mspiSdo, .qspiCsN, .qspiSck, .qspiIo 0, .qspiIo 1, .qspiIo 2, .qspiIo 3, .pwm 0, .pwm 1, .pwm 2, .pwm 3,
   .tach 0, .tach 1, .tach 2, .tach 3]

/-- The `n`th signal of a column, the rest of which is reserved. -/
def listBall (l : List Signal) (n : Nat) : Ball :=
  match l[n]? with
  | some x => .signal x
  | none => .reserved

/-- A ball of the right edge, `n` rows below row M (R639). -/
def rightBall (n col : Nat) : Ball :=
  match col with
  | 52 => if n < 24 then .signal (.amon n) else
    (match n with
    | 24 => .signal .caltx
    | 26 => .signal .calrx
    | 28 => .signal .wrxa
    | 29 => .signal .wrxb
    | _ => .reserved)
  | 50 => listBall column50 n
  | 49 => if n < 18 then .supply .vio1v8 else if n < 20 then .supply .vaon else if n < 24 then .supply .vneg else .vss
  | 48 => listBall column48 n
  | 47 => if n < 6 then .supply .vio1v8 else if n < 24 then .vss else if n < 28 then .supply .vpos else .reserved
  | _ => .vss

/-- A ball of the centre (R640). -/
def centreBall (row col : Nat) : Ball :=
  if (row + col) % 2 = 0 then .vss
  else .supply (if col ≤ 9 then .vrf1v2 else if col = 10 then .vdda1v0 else if col ≤ 12 then .vdda1v8 else if col ≤ 41 then .vddCore else .vddSram)

/-- What the ball at a row position and column, both 1 to 52, carries (R636). -/
def ballAt (row col : Nat) : Ball :=
  if row ≤ 11 then bandBall true row col
  else if 42 ≤ row then bandBall false (53 - row) col
  else if col ≤ 6 then leftBall row col
  else if 47 ≤ col then rightBall (row - 12) col
  else centreBall row col

/-- A signal that has boundary cells (R642). -/
def inBoundary : Signal → Bool
  | .fea _ | .feb _ | .drnEn _ | .pwm _ | .tach _ | .mspiCsN | .mspiSck | .mspiSdi | .mspiSdo | .qspiCsN | .qspiSck | .qspiIo _
  | .sync | .synceOut | .ppsIn | .ppsOut | .ldacN | .evtN _ | .evtmN => true
  | _ => false

/-- The signals of the boundary register in their order, the first nearest TDI (R642). -/
def boundarySignals : List Signal :=
  ((List.range 52).map (fun r => (List.range 52).filterMap (fun c =>
    match ballAt (r + 1) (c + 1) with
    | .signal x => if inBoundary x then some x else none
    | _ => none))).flatten

/-! ## Levels (R496, R522, R588) -/

/-- What an output ball shows. -/
inductive PinLevel where
  | low | high | z
  /-- driven by its function -/
  | active
  /-- a lane in electrical idle -/
  | idle
  /-- the code of a bias output -/
  | code (n : Nat)
  /-- the duty of a PWM output, in 1/1,023 -/
  | duty (n : Nat)
deriving DecidableEq, Repr

/-- The level of a front-end pin. -/
def Drive.level : Drive → PinLevel
  | .low => .low
  | .high => .high
  | .z => .z

/-- A sticky flag of destination `d` is set and enabled (R496). -/
def State.evtDriven (s : State) (d : Nat) : Bool :=
  (List.range 8).any (fun b => decide (Nat.land (rd s .evtStk [d, b]) (rd s .evtEn [d, b]) ≠ 0))

/-- An open-drain event pin (R496); in LISTEN and HIBERNATE it is high impedance (R522). -/
def State.evtLevel (s : State) (d : Nat) : PinLevel :=
  if s.pwr.down ∨ (d < 4 ∧ s.tenants ≤ d) then .z else if s.evtDriven d then .low else .z

/-- The level of a signal ball outside boundary scan (R111, R496, R522, R537, R545, R565). -/
def State.ownLevel (s : State) (x : Signal) : PinLevel :=
  match x with
  | .fea p => (s.pathFe p).fea.level
  | .feb p => (s.pathFe p).feb.level
  | .bdac c => if s.pwr.down ∨ (s.bias c).hiZ then .z else .code (s.biasOut c)
  | .drnEn a => if rbit s .bdacDrnStat [] a then .high else .low
  | .txout p => if s.pwr.depth = 0 ∧ s.pathState p = .tx then .active else .z
  | .caltx => if s.pwr.depth = 0 then .active else .z
  | .laneTxP l | .laneTxN l =>
    if s.pwr.down ∨ ¬ (laneState s l = 1 ∨ laneState s l = 2) then .z else if s.pwr.linkIdle then .idle else .active
  | .synceOut => if s.pwr.linkIdle ∨ s.pwr.down ∨ ¬ s.synceLocked then .low else .active
  | .ppsOut => if s.pwr.linkIdle ∨ s.pwr.down ∨ ¬ rbit s .lnkPps [] 0 then .low else .active
  | .pwm n => if s.pwr.down ∨ rf s .thmPwmCfg [n] 1 0 = 0 then .low else .duty (rf s .thmPwmDuty [n] 19 10)
  | .evtN n => s.evtLevel n
  | .evtmN => s.evtLevel 4
  | .t1sP | .t1sN | .mspiSdo => if s.pwr.down then .z else .active
  | .qspiCsN => if s.pwr.down then .high else .active
  | .tdo | .xo | .osc32Out | .qspiSck | .qspiIo _ => .active
  | _ => .z

/-- The cells of a signal: input, output and output enable, from the place of its first cell (R642). -/
def State.cellsOf (s : State) (x : Signal) : Option Nat :=
  if x ∈ boundarySignals then some (bitsOf s.sec.cells (3 * boundarySignals.idxOf x + 2) (3 * boundarySignals.idxOf x)) else none

/-- The level of a signal ball: its own, or in EXTEST and CLAMP its cells', and in HIGHZ none; DRN_EN stays low in all three (R588). -/
def State.pinLevel (s : State) (x : Signal) : PinLevel :=
  if ¬ s.scanInForce then s.ownLevel x
  else match x, s.cellsOf x with
    | .drnEn _, _ => .low
    | _, some c => if s.sec.tapIr = 0x04 ∨ ¬ bitOf c 2 then .z else if bitOf c 1 then .high else .low
    | _, none => s.ownLevel x

end Sys2Proof.Machine
end

