-- ==== Sys2Proof/WellFormed.lean ====
section
/-! DEFINITION. Which commands are well formed: every operand lies in the range the manual gives its field.  A command outside these
ranges cannot happen on the device; a bound is stated once, here, and statements cite it. -/

namespace Sys2Proof

/-- A role names a tenant that can exist (R474). -/
def Role.wf : Role → Bool
  | .tenant n => decide (n < 4)
  | .operator | .service => true

/-- A transport names a port that exists (R476). -/
def Transport.wf : Transport → Bool
  | .port n => decide (n < 4)
  | .t1s | .spi => true

/-- A fabric master exists (R33). -/
def Master.wf : Master → Bool
  | .pair b => decide (b < 2)
  | .engine e => decide (e < 18)
  | .tile t => decide (t < 9)
  | .lane c => decide (c < 8)
  | .sec | .dma | .debug | .link => true

/-- The fields of a Diong frame fit their places (R479, R480). -/
def DHdr.wf (d : DHdr) : Bool :=
  d.transport.wf && decide (d.ver < 16) && decide (d.session < 2 ^ 16) && decide (d.seq < 2 ^ 32) && decide (d.key < 2 ^ 8)
  && decide (d.pcId < 2 ^ 24) && decide (d.seqId < 2 ^ 32) && decide (d.tag.length = 16)

/-- The fields of a compute slot fit their places (R300). -/
def GeC.wf (g : GeC) : Bool := decide (g.e < 18) && decide (g.dst < 32) && decide (g.sa < 32) && decide (g.sb < 32) && decide (g.ecc < 3)

/-- The fields of a memory slot fit their places (R300). -/
def GeM.wf (g : GeM) : Bool := decide (g.e < 18) && decide (g.reg < 32) && decide (g.ptr < 8) && decide (g.am < 4) && decide (g.ecc < 3)

/-- The fields of an address slot fit their places (R300). -/
def GeA.wf (g : GeA) : Bool := decide (g.e < 18) && decide (g.t < 8) && decide (g.v < 32) && decide (g.ecc < 3)

/-- The fields of a control operation fit their places (R300). -/
def GeK.wf (g : GeK) : Bool := decide (g.e < 18) && decide (g.imm < 2 ^ 32) && decide (g.ecc < 3)

/-- A command is well formed: its operands lie in the ranges of their fields. -/
def Instr.wf : Instr → Bool
  | .registerWrite m tag addr value => decide (tag < 8) && decide (addr < 2 ^ 40) && decide (value < 2 ^ 128) && m.wf
  | .sramAccess port tag addr n data _ _ => decide (port < 46) && decide (tag < 8) && decide (addr < 2 ^ 40) && decide (0 < n ∧ n ≤ 1024) && (match data with | some l => decide (l.length = n) | none => true)
  | .arbitrationPhase a ports beats => decide (a < 96) && ports.all (· < 46) && decide (1 ≤ beats ∧ beats ≤ 16)
  | .crossingPulse src dst _ => decide (src < 36) && decide (dst < 36) && decide (src ≠ dst)
  | .crossingWakeRequest dst => decide (dst < 36)
  | .islandResetCommand island _ => decide (island < 36)
  | .lockstepFault pair => decide (pair < 2)
  | .pairPromotion => true
  | .lostFlagClear role island bits => role.wf && decide (island < 36) && decide (bits < 2 ^ 64)
  | .ptpCorrectionRequest _ => true
  | .timelineStepApply => true
  | .tlNowLoRead => true
  | .patternEntryBoundary => true
  | .turnaroundStep p => decide (p < 64)
  | .guardEnd => true
  | .bdacStrobe n => decide (n < 256)
  | .weightHandover n => decide (n < 256)
  | .tileStart n => decide (n < 256)
  | .captureOpen n => decide (n < 256)
  | .dmaStart n => decide (n < 256)
  | .sync n => decide (n < 256)
  | .loHop n => decide (n < 256)
  | .loTune n => decide (n < 256)
  | .feSerial n => decide (n < 256)
  | .orxVisit n => decide (n < 256)
  | .calWindow n => decide (n < 256)
  | .commit d boundary tick => d.wf && decide (boundary < 2 ^ 8) && decide (tick < 2 ^ 64)
  | .admissionResult => true
  | .commitBoundary => true
  | .abort d => d.wf
  | .capacityLossReadmission => true
  | .carrierDropRemoval => true
  | .loSynEnable n => decide (n < 4)
  | .loSynDisable n => decide (n < 4)
  | .vcoCalibrationDone n => decide (n < 4)
  | .synLockAchieved n => decide (n < 4)
  | .synSettleTimeout n => decide (n < 4)
  | .synLockLoss n => decide (n < 4)
  | .refclkLoss _ => true
  | .refclkRecovery edges => decide (8 ≤ edges.length)
  | .hopResyncPulse => true
  | .hopDividerCheck failed => failed.all (· < 64)
  | .hopComplete => true
  | .dividerResync => true
  | .txSymbolStart p cc => decide (p < 64) && decide (cc < 8)
  | .forcedRetune role syn preset go => role.wf && decide (syn < 4) && decide (preset < 16) && decide (go < 2)
  | .lnaBypass p => decide (p < 64)
  | .lnaReturn p => decide (p < 64)
  | .overloadAssert p => decide (p < 64)
  | .strapSample fea feb => decide (fea.length = 8) && decide (feb.length = 8)
  | .resetPhaseEnd => true
  | .serialTransaction p _ => decide (p < 64)
  | .serialTransactionDone p _ _ => decide (p < 64)
  | .rotationStepEnd k _ => decide (k < 138)
  | .sliceSwap k => decide (k < 138)
  | .stuckSliceDetect k slice => decide (k < 138) && decide (slice < 17)
  | .emergencySwap k slice => decide (k < 138) && decide (slice < 17)
  | .dacDwellStart d => decide (d < 128)
  | .dacDwellEnd d _ _ _ => decide (d < 128)
  | .orxVisitEnd r => decide (r < 4)
  | .bestEffortVisit r path _ => decide (r < 4) && decide (path < 64)
  | .orxFailure r => decide (r < 4)
  | .captureDrainComplete b _ _ _ => decide (b < 256)
  | .captureRelease tag c value => decide (tag < 8) && decide (c < 8) && decide (value < 2 ^ 32)
  | .syncPinEdge tick => decide (tick < 2 ^ 64)
  | .syncNow tag => decide (tag < 8)
  | .syncRequestObject role tick => role.wf && decide (tick < 2 ^ 64)
  | .syncTakeEffect => true
  | .syncFillEnd cc => decide (cc < 8)
  | .fastPathEstimate p _ _ _ _ => decide (p < 64)
  | .agcRelease p => decide (p < 64)
  | .limiterLnaReturn p => decide (p < 64)
  | .rxFftWindowEnd p cc _ _ _ => decide (p < 64) && decide (cc < 8)
  | .prachOccasion p j _ _ _ => decide (p < 64) && decide (j < 4)
  | .laneMoveRequest tag c value => decide (tag < 8) && decide (c < 8) && decide (value < 2 ^ 32)
  | .laneWarmStart c => decide (c < 8)
  | .laneSwitch c _ => decide (c < 8)
  | .coefficientRoll => true
  | .coefficientWrite tag addr value => decide (tag < 8) && decide (addr < 2 ^ 40) && decide (value < 2 ^ 32)
  | .txSymbolRead p cc _ => decide (p < 64) && decide (cc < 8)
  | .slotBoundary p _ _ _ _ _ _ => decide (p < 64)
  | .dlRunStart cc => decide (cc < 8)
  | .ulRunStart cc => decide (cc < 8)
  | .weightBlock role _ => role.wf
  | .weightVectorLand _ => true
  | .ergDeclared p => decide (p < 64)
  | .ergPathOff p => decide (p < 64)
  | .ergResynthStart => true
  | .ergResynthDone => true
  | .healDeclare tag _ value => decide (tag < 8) && decide (value < 2 ^ 32)
  | .healClear tag _ value => decide (tag < 8) && decide (value < 2 ^ 32)
  | .ergPathRestored p => decide (p < 64)
  | .tileFail t => decide (t < 9)
  | .tileSpareTakeover => true
  | .prachCombine j => decide (j < 4)
  | .dpdThermalUpdate p _ _ => decide (p < 64)
  | .dpdBankWrite tag addr value => decide (tag < 8) && decide (addr < 2 ^ 40) && decide (value < 2 ^ 32)
  | .dpdHoRequest tag p value => decide (tag < 8) && decide (p < 64) && decide (value < 2 ^ 32)
  | .dpdHoCheckDone p => decide (p < 64)
  | .dpdRampStep p => decide (p < 64)
  | .dpdDivergenceWindow p _ _ => decide (p < 64)
  | .dpdProbationEnd p => decide (p < 64)
  | .dpdFallback p => decide (p < 64)
  | .dpdIdentity p => decide (p < 64)
  | .dpdFallbackCheckEnd p => decide (p < 64)
  | .dpdReq tag bits => decide (tag < 8) && decide (bits < 2 ^ 64)
  | .dpdJobStart => true
  | .nop g => g.wf
  | .add g => g.wf
  | .sub g => g.wf
  | .addh g => g.wf
  | .subh g => g.wf
  | .neg g => g.wf
  | .conj g => g.wf
  | .swap g => g.wf
  | .shl g => g.wf
  | .shr g => g.wf
  | .mov g => g.wf
  | .cmul g => g.wf
  | .mag2 g => g.wf
  | .iadd g => g.wf
  | .isub g => g.wf
  | .andOp g => g.wf
  | .orOp g => g.wf
  | .xorOp g => g.wf
  | .ishl g => g.wf
  | .ishr g => g.wf
  | .icmp g => g.wf
  | .clra g => g.wf
  | .cmac4 g => g.wf
  | .cmacb g => g.wf
  | .cdot g => g.wf
  | .acca g => g.wf
  | .ashr g => g.wf
  | .mova g => g.wf
  | .extr g => g.wf
  | .sat g => g.wf
  | .norm g => g.wf
  | .expa g => g.wf
  | .exp g => g.wf
  | .bexp g => g.wf
  | .bxadd g => g.wf
  | .setbs g => g.wf
  | .bfly g => g.wf
  | .mfr g => g.wf
  | .mtr g => g.wf
  | .ldW g => g.wf
  | .stW g => g.wf
  | .ldD g => g.wf
  | .stD g => g.wf
  | .ldH g => g.wf
  | .addi g => g.wf
  | .addm g => g.wf
  | .movp g => g.wf
  | .movm g => g.wf
  | .movb g => g.wf
  | .movl g => g.wf
  | .setm g => g.wf
  | .nopc g => g.wf
  | .jmp g => g.wf
  | .jz g => g.wf
  | .jnz g => g.wf
  | .jn g => g.wf
  | .jnn g => g.wf
  | .call g => g.wf
  | .ret g => g.wf
  | .loop0 g => g.wf
  | .loop1 g => g.wf
  | .loopr0 g => g.wf
  | .loopr1 g => g.wf
  | .ei g => g.wf
  | .di g => g.wf
  | .reti g => g.wf
  | .xfer g => g.wf
  | .xwait g => g.wf
  | .done g => g.wf
  | .yield g => g.wf
  | .ldi g reg => g.wf && decide (reg < 32)
  | .transferComplete e q => decide (e < 18) && decide (q < 4)
  | .interruptAccept e => decide (e < 18)
  | .geDoorbell tag e value => decide (tag < 8) && decide (e < 18) && decide (value < 2 ^ 32)
  | .gePost tag e value => decide (tag < 8) && decide (e < 18) && decide (value < 2 ^ 128)
  | .releaseEntryFire e r => decide (e < 18) && decide (r < 8)
  | .jobStart e => decide (e < 18)
  | .preemptLate e => decide (e < 18)
  | .jobOverrun e => decide (e < 18)
  | .geCplRead e => decide (e < 18)
  | .engineRollMove e => decide (e < 18)
  | .baseReevaluation => true
  | .traceGate _ _ _ => true
  | .topNoteWindow p _ => decide (p < 64)
  | .calHrxArm tag value => decide (tag < 8) && decide (value < 2 ^ 64)
  | .heartInjection => true
  | .heartSnapshot => true
  | .heartRunComplete item _ _ => decide (item < 256)
  | .calRampStep => true
  | .calItemStale p _ => decide (p < 64)
  | .foregroundRequest who path item flags => (match who with | some r => r.wf | none => true) && decide (path < 64) && decide (item < 256) && decide (flags < 256)
  | .foregroundWindowTimeout p => decide (p < 64)
  | .serviceWindowStart => true
  | .foregroundRunEnd p _ _ => decide (p < 64)
  | .iqDataMessage f => decide (f.port < 4)
  | .dlWindowClose cc => decide (cc < 8)
  | .ulSectionSend prach n => decide (if prach then n < 4 else n < 8)
  | .realTimeControlMessage f => decide (f.port < 4)
  | .genericDataMessage f => decide (f.port < 4)
  | .captureStream b => decide (b < 128)
  | .delayRequest f => decide (f.port < 4)
  | .requestWithFollowUp f => decide (f.port < 4)
  | .followUp f => decide (f.port < 4)
  | .remoteRequest f => decide (f.port < 4)
  | .eventIndicationSend n => decide (n < 4)
  | .indicationAck f => decide (f.port < 4)
  | .indicationResend n id => decide (n < 4) && decide (id < 2 ^ 16)
  | .synchronisationRequest f => decide (f.port < 4)
  | .portStateChange n _ _ => decide (n < 4)
  | .sakInstall n _ => decide (n < 4)
  | .ptpSyncInterval _ => true
  | .ptpMasterChange n _ _ => decide (n < 4)
  | .ptpHoldoverEntry => true
  | .synceSquelch cause => decide (cause < 4)
  | .synceResume => true
  | .esmcSend n => decide (n < 4)
  | .esmcReceive ql => decide (ql < 16)
  | .ppsOutEdge => true
  | .ppsInEdge tick => decide (tick < 2 ^ 64)
  | .lnkPpsInLoss => true
  | .linkLaneFailure lane => decide (lane < 9)
  | .linkLaneTxMove n => decide (n < 4)
  | .linkLaneRxMove n => decide (n < 4)
  | .lnkLaneSpared n _ => decide (n < 4)
  | .linkRealignTimeout n => decide (n < 4)
  | .laneReturnToSpare role lane => role.wf && decide (lane < 9)
  | .scrubPass _ _ => true
  | .memRowRepaired b row => decide (b < 100) && decide (row < 512)
  | .bankMigrationStart b => decide (b < 100)
  | .memBankSpared b => decide (b < 100)
  | .serviceBankSpare role b => role.wf && decide (b < 100)
  | .memLock tag value => decide (tag < 8) && decide (value < 2 ^ 64)
  | .memLockRelease tag value => decide (tag < 8) && decide (value < 2 ^ 64)
  | .memHoldFault a => decide (a < 96)
  | .dmaRingKick tag r value => decide (tag < 8) && decide (r < 128) && decide (value < 2 ^ 32)
  | .dmaDescriptor r => decide (r < 128)
  | .dmaHalfCompletion r => decide (r < 128)
  | .dmaRingDisable r => decide (r < 128)
  | .mainMoverParity => true
  | .dmaMainRestored _ => true
  | .read d index subIx => d.wf && decide (index < 2 ^ 16) && decide (subIx < 2 ^ 8)
  | .write d index subIx type _ => d.wf && decide (index < 2 ^ 16) && decide (subIx < 2 ^ 8) && decide (type < 2 ^ 8)
  | .readBlock d index subIx offset maxLen => d.wf && decide (index < 2 ^ 16) && decide (subIx < 2 ^ 8) && decide (offset < 2 ^ 32) && decide (maxLen < 2 ^ 16)
  | .writeBlock d index subIx type offset total _ => d.wf && decide (index < 2 ^ 16) && decide (subIx < 2 ^ 8) && decide (type < 2 ^ 8) && decide (offset < 2 ^ 32) && decide (total < 2 ^ 32)
  | .store d selector _ => d.wf && decide (selector < 2 ^ 8)
  | .restore d mode => d.wf && decide (mode < 2 ^ 8)
  | .subscribe d index subIx mode period => d.wf && decide (index < 2 ^ 16) && decide (subIx < 2 ^ 8) && decide (mode < 2 ^ 8) && decide (period < 2 ^ 32)
  | .digest d scope => d.wf && decide (scope < 2 ^ 8)
  | .sessionTimeout t key id => t.wf && decide (key < 2 ^ 8) && decide (id < 2 ^ 16)
  | .blockTransferTimeout t key id => t.wf && decide (key < 2 ^ 8) && decide (id < 2 ^ 16)
  | .subscriptionNotify t key id index subIx => t.wf && decide (key < 2 ^ 8) && decide (id < 2 ^ 16) && decide (index < 2 ^ 16) && decide (subIx < 2 ^ 8)
  | .rwDigestRecompute => true
  | .replicaRewrite c => decide (c < 8)
  | .eventFiringPresent src => decide (src < 256)
  | .eventCease src inst aux => decide (src < 256) && decide (inst < 2 ^ 16) && decide (aux < 2 ^ 16)
  | .stickyFlagClear d src _ => decide (d < 5) && decide (src < 256)
  | .counterFold => true
  | .statisticsCounterClear role index subIx => role.wf && decide (index < 2 ^ 16) && decide (subIx < 2 ^ 8)
  | .writeFrame len _ => decide (len < 2 ^ 16)
  | .readFrame => true
  | .spiStatus => true
  | .powerRequest by_ tag value => (match by_ with | some r => r.wf | none => true) && decide (tag < 8) && decide (value < 2 ^ 32)
  | .powerEntryStep => true
  | .powerExit => true
  | .warmStart => true
  | .wakeToTransition => true
  | .slotgateChange => true
  | .sectionGateOff p _ => decide (p < 64)
  | .sectionGateOn p _ => decide (p < 64)
  | .wakePin _ => true
  | .rtcAlarm => true
  | .linkSignalDetect lane => decide (lane < 9)
  | .t1sFrameWake dst _ => decide (dst < 2 ^ 48)
  | .debugWakeWord _ => true
  | .thermalAlarm _ => true
  | .wrxSniff _ _ _ => true
  | .wrxSyncTimeout => true
  | .wakeFrame _ _ => true
  | .wrxTrim => true
  | .housekeepingRound readings _ _ _ replicas => decide (readings.length = 96) && replicas.all (· < 8)
  | .thermalCarrierDrop => true
  | .ldacEdge => true
  | .bdacStrobeWrite tag value => decide (tag < 8) && decide (value < 2 ^ 64)
  | .bdacCodeWrite tag c value => decide (tag < 8) && decide (c < 128) && decide (value < 2 ^ 16)
  | .bdacShort c _ => decide (c < 128)
  | .bdacShortTimeout c => decide (c < 128)
  | .bdacSupplyLow which => decide (which < 2)
  | .bdacSuppliesGood => true
  | .drainRequest tag value => decide (tag < 8) && decide (value < 2 ^ 64)
  | .amplifierFault a cause => decide (a < 64) && decide (cause < 5)
  | .faultSafeCode a => decide (a < 64)
  | .drainReadbackMismatch a => decide (a < 64)
  | .drainFaultClear tag value => decide (tag < 8) && decide (value < 2 ^ 64)
  | .monTrigger tag m => decide (tag < 8) && decide (m < 2)
  | .monEntryResult m _ _ => decide (m < 2)
  | .monDataRead m => decide (m < 2)
  | .fanWatchdogExpiry n => decide (n < 4)
  | .thmFanStall n => decide (n < 4)
  | .transitionToken role _ => role.wf
  | .keyEnvelope role k _ => role.wf && decide (k < 16)
  | .rootRecord role _ => role.wf
  | .attestation _ => true
  | .raiseMinimums role => role.wf
  | .verifyImage m len => m.wf && decide (len < 2 ^ 16)
  | .checkDiongTag m t len => m.wf && t.wf && decide (len < 2 ^ 16)
  | .makeDiongTag m t len => m.wf && t.wf && decide (len < 2 ^ 16)
  | .mboxKeyEnvelope m role len => m.wf && role.wf && decide (len < 2 ^ 16)
  | .mboxAttestation m len => m.wf && decide (len < 2 ^ 16)
  | .lifecycleToken m len => m.wf && decide (len < 2 ^ 16)
  | .mboxRootRecord m len => m.wf && decide (len < 2 ^ 16)
  | .randomBytes m len => m.wf && decide (len < 2 ^ 16)
  | .extest cells capture => decide (cells < 2 ^ 660) && decide (capture < 2 ^ 660)
  | .samplePreload cells capture => decide (cells < 2 ^ 660) && decide (capture < 2 ^ 660)
  | .idcode => true
  | .clamp => true
  | .highz => true
  | .dbgChal => true
  | .dbgResp _ => true
  | .dbgPort addr op _ data => decide (addr < 2 ^ 40) && decide (op < 4) && decide (data < 2 ^ 64)
  | .dbgStatus => true
  | .bypass ir => decide (ir < 2 ^ 8)
  | .challengeRead role => role.wf
  | .debugResponse t session _ => t.wf && decide (session < 2 ^ 16)
  | .debugTunnel t session _ => t.wf && decide (session < 2 ^ 16)
  | .dbgClose tag => decide (tag < 8)
  | .debugSessionExpiry => true
  | .coreHalt tag value => decide (tag < 8) && decide (value < 2 ^ 64)
  | .coreStep tag value => decide (tag < 8) && decide (value < 2 ^ 64)
  | .engineHalt tag value => decide (tag < 8) && decide (value < 2 ^ 64)
  | .laneFault c k => decide (c < 8) && decide (k < 9)
  | .engineRetire e tag _ => decide (tag < 8) && decide (e < 18)
  | .engineSpareTakeover e => decide (e < 18)
  | .standbyImageWrite role _ => role.wf
  | .fwStandbyReady pair => decide (pair < 2)
  | .handoverRequest tag boundary tick => decide (tag < 8) && decide (boundary < 4) && decide (tick < 2 ^ 64)
  | .handoverSaving => true
  | .fwSaved pair => decide (pair < 2)
  | .handoverActivate => true
  | .fwAlive pair => decide (pair < 2)
  | .fwHandoverDone => true
  | .fwReverted => true
  | .poweredHour => true
  | .nvWordWrite _ _ _ => true
  | .coldStart pin => decide (pin < 2)
  | .resetAssert pin _ => decide (pin < 2)
  | .osc32Qualified => true
  | .bootStep _ => true
  | .refclkQualified => true
  | .loaderImage subIx _ => decide (subIx < 2 ^ 8)
  | .pwrBootGo tag value => decide (tag < 8) && decide (value < 2 ^ 64)
  | .vtargetUpdate mv => decide (mv < 2 ^ 10)
  | .dpdMinRateVisit p => decide (p < 64)
  | .dpdStaleAgeExpiry p => decide (p < 64)
  | .bdacOutputStep c => decide (c < 128)
  | .tachEdge n => decide (n < 4)
  | .overloadDeassert p => decide (p < 64)
  | .oldCakTimeout n _ => decide (n < 4)
  | .arpRequest senderMac senderIp targetIp => decide (senderMac < 2 ^ 48) && decide (senderIp < 2 ^ 32) && decide (targetIp < 2 ^ 32)
  | .icmpEchoRequest srcMac srcIp dstIp ident seq _ _ => decide (srcMac < 2 ^ 48) && decide (srcIp < 2 ^ 32) && decide (dstIp < 2 ^ 32) && decide (ident < 2 ^ 16) && decide (seq < 2 ^ 16)
  | .tapReset => true
  | .debugChallengeExpiry => true
  | .debugLockoutEnd => true
  | .baseNoteSave j => decide (j < 8)

end Sys2Proof
end

