-- ==== Sys2Proof/Tests/Slice0.lean ====
section
/-! SUPPORT. Tests: ill-formed commands are refused, the manual's worked examples come out, and every statement's hypotheses are met. -/

open Sys2Proof Sys2Proof.Machine

namespace Sys2Proof.Tests

set_option maxRecDepth 50000
set_option linter.unusedVariables false
set_option Elab.async false

/-! ## States and operands -/

/-- The machine at reset. -/
def s0 : State := State.reset
/-- The timeline runs one entry of 10 ms in direction `dir`. -/
def sRun (dir : Nat) : State := wbit (wr s0 .tlPat [0] (4915200 + dir * 2 ^ 23)) .tlCtrl [] 0 true
/-- An event of a type in entry 4,095, at offset 1,000. -/
def sEvt (type target arg : Nat) : State :=
  wr (sRun 0) .tlEvt [4095] (1000 + 2 ^ 23 + type * 2 ^ 24 + target * 2 ^ 32 + arg * 2 ^ 40)
/-- The same in FDD. -/
def sFdd (type target arg : Nat) : State := wbit (sEvt type target arg) .tlPatternCfg [] 0 true
/-- Path 0's ADC rotates. -/
def sRot : State := State.setConv (k := 0) (x := { Conv.reset 0 with runs := some 7 }) { wbit s0 .adcCtrl [0, 0] 0 true with
                      cvt := { s0.cvt with sw := spPut InSwitch.reset s0.cvt.sw 0 ⟨.rxin, 0, 0⟩ } }
/-- Path 63 transmits. -/
def sTx : State := { s0 with tl := { s0.tl with path := spPut PathState.off s0.tl.path 63 .tx } }
/-- An estimate within every limit. -/
def est0 : SliceEst := ⟨0, 0, 0, 0, 0, 0, 0, -900, [], 0⟩
/-- A COMMIT of the operator at the next slot. -/
def job0 : CommitJob := ⟨.operator, .spi, 0, 1, 1, 0, 0, [], [], 0⟩
/-- Synthesiser `n` in a state. -/
def sSyn (n : Nat) (st : SynSt) : State := s0.setSyn n { Syn.reset with st := st }
/-- A hop to synthesiser 1 under way. -/
def sHop : State := { s0 with lo := { s0.lo with hop := some ⟨10, 1, 1⟩ } }
/-- Path 63 transmits carrier 7. -/
def sTx7 : State := sTx.setObj 0x2017 1 (.num 1)
/-- The same with the TX trunk locked. -/
def sTxOn : State := sTx7.setSyn 0 { Syn.reset with st := .locked }
/-- Path 63 in guard, with a list. -/
def sGuard : State := s0.setFe 63 { PathFe.reset with phase := .guard, lists := [1023] }
/-- Path 63 receives with a value of RXG_CTRL. -/
def sRxg (v : Nat) : State :=
  let s := { s0 with tl := { s0.tl with path := spPut PathState.off s0.tl.path 63 .rx } }
  wr s .rxgCtrl [7, 7] v
/-- PRACH extractor 3 on carrier 7. -/
def sPrach : State := (((sRun 1).setObj 0x4483 1 (.num 15)).setObj 0x4483 2 (.bytes [0, 0, 1, 0])).setObj 0x2017 1 (.num 2)
/-- An event that fires at the present tick. -/
def sNow (type target arg : Nat) : State := { sEvt type target arg with clk := { s0.clk with count := 1000 } }
/-- A downlink symbol of carrier 7 is armed. -/
def sArm : State :=
  { wbit (wf s0 .bfCcCfg [7] 47 32 0) .bfCcCfg [7] 0 true with
    objs := (s0.setObj 0x2017 1 (.num 1)).objs, bm := { s0.bm with arms := [⟨7, 0, 0, 0, 0, 1000⟩] } }
/-- An uplink symbol of carrier 7 is armed. -/
def sArmU : State :=
  { wbit s0 .bfCcCfg [7] 1 true with
    objs := (s0.setObj 0x2017 1 (.num 2)).objs, bm := { s0.bm with arms := [⟨7, 1, 0, 0, 0, 1000⟩] } }
/-- Path 63's predistortion unit. -/
def sDpd (x : Dpd) : State := s0.setDpd 63 x
/-- A job of firmware in slot 1. -/
def job1 : Job := ⟨1, 0, 7, 9, 1000, .firmware, 5, 0⟩
/-- A kernel of 64 bundles. -/
def ker1 : Kernel := ⟨0, 64, 1, 1, 0, 0, 8, 9, 10, 100, 0, 0, 0, 0, 0, 0xFF⟩
/-- Engine 17 runs a job. -/
def eng1 : Eng :=
  { Eng.reset with
    st := .running, job := some job1, kset := [(1, some ker1)], pc := 5, d := [(3, 0x7FFF8000), (5, 0x00038000), (4, 0x4000C000)],
    acc := [(1, ⟨0x123456789, -5⟩)], ctl := [(1, 0x10), (9, 8), (30, 0xA04)],
    flight := [⟨9, 3, .num 77, false, 3⟩, ⟨9, 94, .flags 8, false, 3⟩, ⟨9, 33, .acc ⟨5, 6⟩, true, 3⟩], issue := 8 }
/-- The device with that engine. -/
def sGe : State := s0.setEng 17 eng1
/-- The same, a store waiting in the bundle. -/
def sGeB : State := s0.setEng 17 { eng1 with bundle := { Bundle.empty with stores := [(1, 16, [1, 2, 3, 4])] } }
/-- A roll of kernels under way. -/
def sRoll (todo : List Nat) : State :=
  { s0.setEng 17 { eng1 with st := .idle, job := none } with ge := { (s0.setEng 17 { eng1 with st := .idle, job := none }).ge with roll := some ⟨5, todo, [], []⟩ } }
/-- Measurements of a window. -/
def meas0 : TopMeas := ⟨1, 2, 3, 4, 5, 300, 7, true, true, true⟩
/-- A top-note window in a guard. -/
def sTop : State :=
  { (sRun 2).setTop 63 { TopNote.reset with due := some (5, 1) } with
    lo := { s0.lo with syn := [(0, { Syn.reset with st := .locked })] } }
/-- The heart note is armed. -/
def sHeart (dir : Nat) : State := wf { sRun dir with lo := { s0.lo with syn := [(0, { Syn.reset with st := .locked })] }, ctl := { s0.ctl with fwRuns := true } } .calHrxStat [] 1 0 1
/-- A frame of message type `ty` on port 3. -/
def frm (ty : Nat) (body : List Byte) : LnkFrame :=
  ⟨3, 5, 64, true, true, true, 0xAEFE, beBytes 1 16 ++ beBytes 1 ty ++ beBytes 2 body.length ++ body⟩
/-- Port 3 is up; carrier 7 is tenant 3's. -/
def sLnk : State :=
  let s := (wbit s0 .lnkPortStat [3] 0 true).setObj 0x2017 2 (.num 3)
  { (s.setObj 0x2017 1 (.num 3)).setObj 0x2017 5 (.num 1) with straps := ⟨0, 255, 4⟩ }
/-- An uplink symbol of one stream waits. -/
def sUl (kind : Nat) : State :=
  { sLnk with lnk := { sLnk.lnk with ul := [(7, ⟨0, kind, [List.replicate 12 ⟨1, 2⟩], [[false]], [[5]], 0⟩)],
                                     prach := [(3, ⟨1, 3, [[⟨1, 1⟩]], [[false]], [], 0⟩)] } }
/-- An indication of tenant 3 unacknowledged. -/
def sInd (tries : Nat) : State := sLnk.setPort 3 { sLnk.port 3 with unacked := [⟨9, 1, 2, 3, false, 0, tries⟩], pending5 := [(9, 77)], queue := [(7, 8, 1, false)] }
/-- A lane move under way. -/
def sMove : State := { sLnk with lnk := { sLnk.lnk with moves := [⟨3, 7, 2, 8, 0, true, true⟩] } }
/-- Port 0 runs on the logical lane 7 alone, which is physical lane 7, with a spare. -/
def sLane : State :=
  setLaneState (setLaneState (wf (wf s0 .lnkLaneMap [] 31 28 7) .lnkPortCfg [0] 40 0 (1 + 7 * 8 + 2 ^ 40)) 7 1) 8 2
/-- The scrubber runs. -/
def sScrub : State := wbit s0 .memCtrl [] 0 true
/-- The 32 bytes of a descriptor that copies 16 bytes in bank 23, with both completions, the last of its batch. -/
def descBytes : List Byte :=
  leBytes 8 (sramBase + 23 * 0x80000 + 64 + 2 ^ 45 + 2 ^ 46 + 2 ^ 47 + 2 ^ 63) ++ leBytes 8 (sramBase + 23 * 0x80000 + 128) ++ leBytes 8 16 ++ leBytes 8 0
/-- Its fields. -/
def desc0 : Desc := descOf descBytes
/-- Ring 127 of the device is ACTIVE at that descriptor. -/
def sRing : State :=
  let s := wf (wr (wr s0 .dmaRingCfg [127] (1 + 4 * 2)) .dmaRingBase [127] (sramBase + 23 * 0x80000)) .dmaRingStat [127] 1 0 2
  sramPoke (sramPoke s (sramBase + 23 * 0x80000) descBytes) (sramBase + 23 * 0x80000 + 64) [1, 2, 3, 4, 5, 6, 7, 8, 9]
/-- Tenant 0's ring, whose descriptor lies where no partition of its own is. -/
def sRingBad : State := wf sRing .dmaRingCfg [127] 3 1 0
/-- A session of service over the SPI. -/
def ses0 : Session := ⟨.spi, 3, 7, 0x101, none, false, 0, none, [], 0⟩
/-- The device with a session. -/
def sSes (x : Session) : State := { s0 with diong := { s0.diong with sessions := [x] } }
/-- A frame of that session with a sequence number. -/
def hdr (seq : Nat) (last : Bool) : DHdr := ⟨.spi, 1, last, 7, seq, 3, 0, 0, List.replicate 16 0⟩
/-- A session of tenant 2 on port 2. -/
def ses2 : Session := ⟨.port 2, 0, 7, 0x101, none, false, 0, none, [], 0⟩
/-- The device with that session, the tenants' straps and tenant 2's key. -/
def sTen : State := { sSes ses2 with straps := ⟨0, 255, 4⟩, nv := { s0.nv with keys := [(5, 1, [7])] } }
/-- A frame of that session. -/
def hdr2 (op : Nat) (payload : List Byte) : DHdr :=
  ⟨.port 2, 1, false, 7, 0x102, 0, 7, 0x102, tagOf 0 [7] (frameBody_ 16 op 7 0x102 0 0 payload)⟩
/-- A subscription of object 0x1020 sub-index 4. -/
def sub0 : Subscription := ⟨0x1020, 4, 1, 10, 0, .num 0⟩
/-- A firing of source 130 at port 3. -/
def fir0 : Firing := ⟨130, 3, 0xFFFF, 5⟩
/-- Enables for it at every destination, the flag of destination 4 set. -/
def sFire : State :=
  let s := wr (wr (wr s0 .evtEn [3, 4] 0xFFFFFFFF) .evtEn [4, 4] 0xFFFFFFFF) .evtStk [4, 4] 4
  { s with straps := ⟨0, 255, 4⟩, evt := { s.evt with waiting := [fir0] } }
/-- A condition of source 74 with its flag set at tenant 3. -/
def sCease : State :=
  { wr s0 .evtStk [3, 2] (2 ^ 10) with evt := { s0.evt with cond := [(74, 1, 2), (36, 0, 0)] } }
/-- A settled power state, with a level. -/
def sPwr (st : Nat) : State := wf (wf s0 .pwrStat [] 2 0 st) .pwrStat [] 6 4 st
/-- A step of an entry runs. -/
def sEntry (k last : Nat) (r : PwrReq) : State :=
  { s0 with pwr := { s0.pwr with req := some r, step := k, last := last, accepted := 5 } }
/-- An exit runs from a level. -/
def sExit (l w : Nat) (idle : Bool) : State :=
  { sPwr l with pwr := { s0.pwr with exit := some w, linkIdle := idle, accepted := 5, lockSince := none } }
/-- Settled with wake source `src` enabled. -/
def sWake (st src : Nat) : State := wbit (sPwr st) .aonWakeEn [] src true
/-- SLOTGATE with a pattern of one uplink entry. -/
def sGate : State := { sRun 1 with regs := (wf (sRun 1) .pwrStat [] 2 0 1).regs }
/-- Channel 127: a GATE channel of amplifier 63 in group 5 with a slew, a pending code and SAFE and PINCH. -/
def sBias (slew : Nat) : State :=
  let s := wr (wr s0 .bdacChCfg [127] (5 + 8 + 63 * 32 + slew * 2 ^ 11 + 900 * 2 ^ 16 + 800 * 2 ^ 32)) .bdacChCode [127] (700 + 2 ^ 16 + 850 * 2 ^ 32)
  (wr s .bdacStat [] 3).setBias 127 { Bias.reset with hiZ := false }
/-- The same with its drain high. -/
def sDrain : State :=
  let s := wr (wr (sBias 0) .bdacDrnStat [] (2 ^ 63)) .bdacDrnReq [] (2 ^ 63)
  s.setBias 127 { Bias.reset with hiZ := false, lim := 6 }
/-- A fault of amplifier 63 latched. -/
def sFault : State := wr (sBias 0) .bdacDrnFault [] (2 ^ 63 + 1)
/-- Monitor 1 runs entry 15. -/
def sMon (e last : Nat) : State := wr (wr s0 .monCtrl [1] (1 + last * 2 ^ 16)) .monStat [1] (1 + e * 16)
/-- A fan output of role 1 with a duty. -/
def sFan : State := wr (wr s0 .thmPwmCfg [3] 1) .thmPwmDuty [3] (5 * 2 ^ 10)
/-- The debug level in force, with a session. -/
def sDbg (l : Nat) : State := { s0 with sec := { s0.sec with dbgLevel := l, session := some ⟨l, 1, 100, some (.spi, 7)⟩ } }
/-- A challenge stands. -/
def sChal : State := { s0 with sec := { s0.sec with chal := some (9, [1, 2, 3], 0) } }
/-- Every engine idle but a spare at 17. -/
def sPool : State :=
  ((List.range 17).foldl (fun s e => s.setEng e { Eng.reset with st := .idle }) s0).setEng 17 { Eng.reset with st := .spare }
/-- CTL_FW_STAT with a hand-over state and a standby state, pair 1 active with slot A. -/
def sHo (ho st : Nat) : State := { wr s0 .ctlFwStat [] (1 + st * 4 + ho * 32) with ctl := { s0.ctl with active := 1 } }
/-- A boot phase, pins high. -/
def sBoot (ph : Nat) : State := { setPhase s0 ph with boot := { s0.boot with pwrgood := true, nreset := true } }
/-- Nothing fails in a boot step. -/
def in0 (ref : Bool) : BootIn := ⟨[], [], [], [], ref, 750, []⟩
/-- OSC32 has qualified. -/
def sOsc : State := { s0 with boot := { s0.boot with rtcFrom := some 0 } }
/-- A write of two bytes of entry 1,023, and a read of eight. -/
def tx0 : Txn := ⟨1023, none, 100, 0x10, 0x55, [1, 2]⟩
/-- The read. -/
def rx0 : Txn := ⟨1023, none, 100, 0xF0, 0x55, []⟩
/-- Path 63 with a transaction on its bus. -/
def sBus (x : Txn) : State := sGuard.setFe 63 { sGuard.pathFe 63 with bus := some x }
/-- FEB in a bit time that goes well; none where its level does not matter. -/
def serLvl : SerBit → Option Bool
  | .drive b => some b
  | .ack _ => some false
  | _ => none
/-- Path 63 receives carrier 7. -/
def sFft : State :=
  (({ sRun 1 with tl := { (sRun 1).tl with path := spPut PathState.off s0.tl.path 63 .rx } } : State).setObj 0x2017 1 (.num 2)).setObj 0x2017 5 (.num 1)
/-- The timeline runs, and path 63 transmits. -/
def sRunTx : State := { sRun 0 with tl := { (sRun 0).tl with path := spPut PathState.off s0.tl.path 63 .tx } }
/-- Path 63 has transmitted for 5,000 ticks, every synthesiser locked. -/
def sWin : State := (List.range 4).foldl (fun s k => s.setSyn k { Syn.reset with st := .locked }) { sRunTx with clk := { s0.clk with count := 5000, elapsed := 5000 } }
/-- The same with nothing in flight. -/
def sGeF : State := s0.setEng 17 { eng1 with flight := [] }

/-- A Diong header whose fields fit. -/
def h0 : DHdr := hdr 0 true
/-- A compute slot's fields. -/
def c0 : GeC := ⟨17, 3, 4, 5, false, false, false, 0⟩
/-- A memory slot's fields. -/
def m0 : GeM := ⟨17, false, 2, 0, 1, false, 0⟩
/-- An address slot's fields. -/
def a0 : GeA := ⟨17, 1, 31, false, 0⟩
/-- A control slot's fields. -/
def k0 : GeK := ⟨17, 5, false, 0⟩
/-- Eight pin samples. -/
def d8 : List Nat := [0, 0, 0, 0, 0, 0, 0, 0]

/-! ## Well-formed commands -/


/-- Well-formed commands, one of each constructor. -/
theorem test_wf_accepts_a :
  ([.registerWrite .dma 0 0 0, .sramAccess 0 0 0 1 none [] [], .arbitrationPhase 0 [] 1, .crossingPulse 0 1 0,
   .crossingWakeRequest 0, .islandResetCommand 0 [], .lockstepFault 0, .pairPromotion, .lostFlagClear .operator 0 0,
   .ptpCorrectionRequest 0, .timelineStepApply, .tlNowLoRead, .patternEntryBoundary, .turnaroundStep 0, .guardEnd, .bdacStrobe 0,
   .weightHandover 0, .tileStart 0, .captureOpen 0, .dmaStart 0, .sync 0, .loHop 0, .loTune 0, .feSerial 0, .orxVisit 0,
   .calWindow 0, .commit h0 0 0, .admissionResult, .commitBoundary, .abort h0, .capacityLossReadmission, .carrierDropRemoval,
   .loSynEnable 0, .loSynDisable 0, .vcoCalibrationDone 0, .synLockAchieved 0, .synSettleTimeout 0, .synLockLoss 0,
   .refclkLoss 0, .refclkRecovery [1, 2, 3, 4, 5, 6, 7, 8]] : List Instr).all Instr.wf = true := by decide +kernel

/-- Well-formed commands, one of each constructor. -/
theorem test_wf_accepts_b :
  ([.hopResyncPulse, .hopDividerCheck [], .hopComplete, .dividerResync, .txSymbolStart 0 0, .forcedRetune .operator 0 0 0,
   .lnaBypass 0, .lnaReturn 0, .overloadAssert 0, .strapSample d8 d8, .resetPhaseEnd, .serialTransaction 0 false,
   .serialTransactionDone 0 [] [], .rotationStepEnd 0 est0, .sliceSwap 0, .stuckSliceDetect 0 0, .emergencySwap 0 0,
   .dacDwellStart 0, .dacDwellEnd 0 0 0 false, .orxVisitEnd 0, .bestEffortVisit 0 0 0, .orxFailure 0,
   .captureDrainComplete 0 [] [] false, .captureRelease 0 0 0, .syncPinEdge 0, .syncNow 0, .syncRequestObject .operator 0,
   .syncTakeEffect, .syncFillEnd 0, .fastPathEstimate 0 [] [] 0 0, .agcRelease 0, .limiterLnaReturn 0,
   .rxFftWindowEnd 0 0 [] [] 0, .prachOccasion 0 0 0 [] 0, .laneMoveRequest 0 0 0, .laneWarmStart 0, .laneSwitch 0 false,
   .coefficientRoll, .coefficientWrite 0 0 0, .txSymbolRead 0 0 []] : List Instr).all Instr.wf = true := by decide +kernel

/-- Well-formed commands, one of each constructor. -/
theorem test_wf_accepts_c :
  ([.slotBoundary 0 () () () () () [], .dlRunStart 0, .ulRunStart 0, .weightBlock .operator [], .weightVectorLand false,
   .ergDeclared 0, .ergPathOff 0, .ergResynthStart, .ergResynthDone, .healDeclare 0 false 0, .healClear 0 false 0,
   .ergPathRestored 0, .tileFail 0, .tileSpareTakeover, .prachCombine 0, .dpdThermalUpdate 0 () (), .dpdBankWrite 0 0 0,
   .dpdHoRequest 0 0 0, .dpdHoCheckDone 0, .dpdRampStep 0, .dpdDivergenceWindow 0 [] 0, .dpdProbationEnd 0, .dpdFallback 0,
   .dpdIdentity 0, .dpdFallbackCheckEnd 0, .dpdReq 0 0, .dpdJobStart, .nop c0, .add c0, .sub c0, .addh c0, .subh c0, .neg c0,
   .conj c0, .swap c0, .shl c0, .shr c0, .mov c0, .cmul c0, .mag2 c0] : List Instr).all Instr.wf = true := by decide +kernel

/-- Well-formed commands, one of each constructor. -/
theorem test_wf_accepts_d :
  ([.iadd c0, .isub c0, .andOp c0, .orOp c0, .xorOp c0, .ishl c0, .ishr c0, .icmp c0, .clra c0, .cmac4 c0, .cmacb c0, .cdot c0,
   .acca c0, .ashr c0, .mova c0, .extr c0, .sat c0, .norm c0, .expa c0, .exp c0, .bexp c0, .bxadd c0, .setbs c0, .bfly c0,
   .mfr c0, .mtr c0, .ldW m0, .stW m0, .ldD m0, .stD m0, .ldH m0, .addi a0, .addm a0, .movp a0, .movm a0, .movb a0, .movl a0,
   .setm a0, .nopc k0, .jmp k0] : List Instr).all Instr.wf = true := by decide +kernel

/-- Well-formed commands, one of each constructor. -/
theorem test_wf_accepts_e :
  ([.jz k0, .jnz k0, .jn k0, .jnn k0, .call k0, .ret k0, .loop0 k0, .loop1 k0, .loopr0 k0, .loopr1 k0, .ei k0, .di k0, .reti k0,
   .xfer k0, .xwait k0, .done k0, .yield k0, .ldi k0 0, .transferComplete 0 0, .interruptAccept 0, .geDoorbell 0 0 0,
   .gePost 0 0 0, .releaseEntryFire 0 0, .jobStart 0, .preemptLate 0, .jobOverrun 0, .geCplRead 0, .engineRollMove 0,
   .baseReevaluation, .traceGate 0 0 0, .topNoteWindow 0 meas0, .calHrxArm 0 0, .heartInjection, .heartSnapshot,
   .heartRunComplete 0 false [], .calRampStep, .calItemStale 0 0, .foregroundRequest none 0 0 0, .foregroundWindowTimeout 0,
   .serviceWindowStart] : List Instr).all Instr.wf = true := by decide +kernel

/-- Well-formed commands, one of each constructor. -/
theorem test_wf_accepts_f :
  ([.foregroundRunEnd 0 false [], .iqDataMessage (frm 0 []), .dlWindowClose 0, .ulSectionSend false 0,
   .realTimeControlMessage (frm 0 []), .genericDataMessage (frm 0 []), .captureStream 0, .delayRequest (frm 0 []),
   .requestWithFollowUp (frm 0 []), .followUp (frm 0 []), .remoteRequest (frm 0 []), .eventIndicationSend 0,
   .indicationAck (frm 0 []), .indicationResend 0 0, .synchronisationRequest (frm 0 []), .portStateChange 0 false false,
   .sakInstall 0 0, .ptpSyncInterval 0, .ptpMasterChange 0 0 0, .ptpHoldoverEntry, .synceSquelch 0, .synceResume, .esmcSend 0,
   .esmcReceive 0, .ppsOutEdge, .ppsInEdge 0, .lnkPpsInLoss, .linkLaneFailure 0, .linkLaneTxMove 0, .linkLaneRxMove 0,
   .lnkLaneSpared 0 0, .linkRealignTimeout 0, .laneReturnToSpare .operator 0, .scrubPass [] [], .memRowRepaired 0 0,
   .bankMigrationStart 0, .memBankSpared 0, .serviceBankSpare .operator 0, .memLock 0 0, .memLockRelease 0 0] : List Instr).all Instr.wf = true := by decide +kernel

/-- Well-formed commands, one of each constructor. -/
theorem test_wf_accepts_g :
  ([.memHoldFault 0, .dmaRingKick 0 0 0, .dmaDescriptor 0, .dmaHalfCompletion 0, .dmaRingDisable 0, .mainMoverParity,
   .dmaMainRestored false, .read h0 0 0, .write h0 0 0 0 [], .readBlock h0 0 0 0 0, .writeBlock h0 0 0 0 0 0 [],
   .store h0 0 false, .restore h0 0, .subscribe h0 0 0 0 0, .digest h0 0, .sessionTimeout .t1s 0 0,
   .blockTransferTimeout .t1s 0 0, .subscriptionNotify .t1s 0 0 0 0, .rwDigestRecompute, .replicaRewrite 0,
   .eventFiringPresent 0, .eventCease 0 0 0, .stickyFlagClear 0 0 false, .counterFold, .statisticsCounterClear .operator 0 0,
   .writeFrame 0 [], .readFrame, .spiStatus, .powerRequest none 0 0, .powerEntryStep, .powerExit, .warmStart, .wakeToTransition,
   .slotgateChange, .sectionGateOff 0 false, .sectionGateOn 0 false, .wakePin 0, .rtcAlarm, .linkSignalDetect 0,
   .t1sFrameWake 0 false] : List Instr).all Instr.wf = true := by decide +kernel

/-- Well-formed commands, one of each constructor. -/
theorem test_wf_accepts_h :
  ([.debugWakeWord [], .thermalAlarm 0, .wrxSniff false 0 0, .wrxSyncTimeout, .wakeFrame [] 0, .wrxTrim,
   .housekeepingRound (List.replicate 96 0) [] none 0 [], .thermalCarrierDrop, .ldacEdge, .bdacStrobeWrite 0 0,
   .bdacCodeWrite 0 0 0, .bdacShort 0 false, .bdacShortTimeout 0, .bdacSupplyLow 0, .bdacSuppliesGood, .drainRequest 0 0,
   .amplifierFault 0 0, .faultSafeCode 0, .drainReadbackMismatch 0, .drainFaultClear 0 0, .monTrigger 0 0, .monEntryResult 0 0 0,
   .monDataRead 0, .fanWatchdogExpiry 0, .thmFanStall 0, .transitionToken .operator [], .keyEnvelope .operator 0 [],
   .rootRecord .operator [], .attestation [], .raiseMinimums .operator, .verifyImage .dma 0, .checkDiongTag .dma .t1s 0,
   .makeDiongTag .dma .t1s 0, .mboxKeyEnvelope .dma .operator 0, .mboxAttestation .dma 0, .lifecycleToken .dma 0,
   .mboxRootRecord .dma 0, .randomBytes .dma 0, .extest 0 0, .samplePreload 0 0] : List Instr).all Instr.wf = true := by decide +kernel

/-- Well-formed commands, one of each constructor. -/
theorem test_wf_accepts_i :
  ([.idcode, .clamp, .highz, .dbgChal, .dbgResp [], .dbgPort 0 0 false 0, .dbgStatus, .bypass 0, .challengeRead .operator,
   .debugResponse .t1s 0 [], .debugTunnel .t1s 0 [], .dbgClose 0, .debugSessionExpiry, .coreHalt 0 0, .coreStep 0 0,
   .engineHalt 0 0, .laneFault 0 0, .engineRetire 0 0 false, .engineSpareTakeover 0, .standbyImageWrite .operator [],
   .fwStandbyReady 0, .handoverRequest 0 0 0, .handoverSaving, .fwSaved 0, .handoverActivate, .fwAlive 0, .fwHandoverDone,
   .fwReverted, .poweredHour, .nvWordWrite 0 [] false, .coldStart 0, .resetAssert 0 0, .osc32Qualified, .bootStep (in0 true),
   .refclkQualified, .loaderImage 0 [], .pwrBootGo 0 0, .vtargetUpdate 0, .dpdMinRateVisit 0, .dpdStaleAgeExpiry 0] : List Instr).all Instr.wf = true := by decide +kernel

/-- Well-formed commands, one of each constructor. -/
theorem test_wf_accepts_j :
  ([.bdacOutputStep 0, .tachEdge 0, .overloadDeassert 0, .oldCakTimeout 0 false, .arpRequest 0 0 0,
   .icmpEchoRequest 0 0 0 0 0 false [], .tapReset, .debugChallengeExpiry, .debugLockoutEnd, .baseNoteSave 0] : List Instr).all Instr.wf = true := by decide +kernel

/-- Ill-formed commands: each breaks one check of `Instr.wf` alone. -/
theorem test_wf_refuses_a :
  ([.registerWrite .dma 8 0 0, .registerWrite .dma 0 (2 ^ 40) 0, .registerWrite .dma 0 0 (2 ^ 128),
   .registerWrite (.pair 2) 0 0 0, .registerWrite (.engine 18) 0 0 0, .registerWrite (.tile 9) 0 0 0,
   .registerWrite (.lane 8) 0 0 0, .sramAccess 46 0 0 1 none [] [], .sramAccess 0 8 0 1 none [] [],
   .sramAccess 0 0 (2 ^ 40) 1 none [] [], .sramAccess 0 0 0 0 none [] [], .sramAccess 0 0 0 1025 none [] [],
   .sramAccess 0 0 0 1 (some []) [] [], .arbitrationPhase 96 [] 1, .arbitrationPhase 0 [46] 1, .arbitrationPhase 0 [] 0,
   .arbitrationPhase 0 [] 17, .crossingPulse 36 1 0, .crossingPulse 0 36 0, .crossingPulse 0 0 0, .crossingWakeRequest 36,
   .islandResetCommand 36 [], .lockstepFault 2, .lostFlagClear (.tenant 4) 0 0, .lostFlagClear .operator 36 0,
   .lostFlagClear .operator 0 (2 ^ 64), .turnaroundStep 64, .bdacStrobe 256, .weightHandover 256, .tileStart 256,
   .captureOpen 256, .dmaStart 256, .sync 256, .loHop 256, .loTune 256, .feSerial 256, .orxVisit 256, .calWindow 256,
   .commit { h0 with transport := .port 4 } 0 0, .commit { h0 with ver := 16 } 0 0] : List Instr).all (fun c => !c.wf) = true := by decide +kernel

/-- Ill-formed commands: each breaks one check of `Instr.wf` alone. -/
theorem test_wf_refuses_b :
  ([.commit { h0 with session := 2 ^ 16 } 0 0, .commit { h0 with seq := 2 ^ 32 } 0 0, .commit { h0 with key := 2 ^ 8 } 0 0,
   .commit { h0 with pcId := 2 ^ 24 } 0 0, .commit { h0 with seqId := 2 ^ 32 } 0 0, .commit { h0 with tag := [] } 0 0,
   .commit h0 (2 ^ 8) 0, .commit h0 0 (2 ^ 64), .abort { h0 with transport := .port 4 }, .loSynEnable 4, .loSynDisable 4,
   .vcoCalibrationDone 4, .synLockAchieved 4, .synSettleTimeout 4, .synLockLoss 4, .refclkRecovery [], .hopDividerCheck [64],
   .txSymbolStart 64 0, .txSymbolStart 0 8, .forcedRetune (.tenant 4) 0 0 0, .forcedRetune .operator 4 0 0,
   .forcedRetune .operator 0 16 0, .forcedRetune .operator 0 0 2, .lnaBypass 64, .lnaReturn 64, .overloadAssert 64,
   .strapSample [] d8, .strapSample d8 [], .serialTransaction 64 false, .serialTransactionDone 64 [] [],
   .rotationStepEnd 138 est0, .sliceSwap 138, .stuckSliceDetect 138 0, .stuckSliceDetect 0 17, .emergencySwap 138 0,
   .emergencySwap 0 17, .dacDwellStart 128, .dacDwellEnd 128 0 0 false, .orxVisitEnd 4, .bestEffortVisit 4 0 0] : List Instr).all (fun c => !c.wf) = true := by decide +kernel

/-- Ill-formed commands: each breaks one check of `Instr.wf` alone. -/
theorem test_wf_refuses_c :
  ([.bestEffortVisit 0 64 0, .orxFailure 4, .captureDrainComplete 256 [] [] false, .captureRelease 8 0 0, .captureRelease 0 8 0,
   .captureRelease 0 0 (2 ^ 32), .syncPinEdge (2 ^ 64), .syncNow 8, .syncRequestObject (.tenant 4) 0,
   .syncRequestObject .operator (2 ^ 64), .syncFillEnd 8, .fastPathEstimate 64 [] [] 0 0, .agcRelease 64, .limiterLnaReturn 64,
   .rxFftWindowEnd 64 0 [] [] 0, .rxFftWindowEnd 0 8 [] [] 0, .prachOccasion 64 0 0 [] 0, .prachOccasion 0 4 0 [] 0,
   .laneMoveRequest 8 0 0, .laneMoveRequest 0 8 0, .laneMoveRequest 0 0 (2 ^ 32), .laneWarmStart 8, .laneSwitch 8 false,
   .coefficientWrite 8 0 0, .coefficientWrite 0 (2 ^ 40) 0, .coefficientWrite 0 0 (2 ^ 32), .txSymbolRead 64 0 [],
   .txSymbolRead 0 8 [], .slotBoundary 64 () () () () () [], .dlRunStart 8, .ulRunStart 8, .weightBlock (.tenant 4) [],
   .ergDeclared 64, .ergPathOff 64, .healDeclare 8 false 0, .healDeclare 0 false (2 ^ 32), .healClear 8 false 0,
   .healClear 0 false (2 ^ 32), .ergPathRestored 64, .tileFail 9] : List Instr).all (fun c => !c.wf) = true := by decide +kernel

/-- Ill-formed commands: each breaks one check of `Instr.wf` alone. -/
theorem test_wf_refuses_d :
  ([.prachCombine 4, .dpdThermalUpdate 64 () (), .dpdBankWrite 8 0 0, .dpdBankWrite 0 (2 ^ 40) 0, .dpdBankWrite 0 0 (2 ^ 32),
   .dpdHoRequest 8 0 0, .dpdHoRequest 0 64 0, .dpdHoRequest 0 0 (2 ^ 32), .dpdHoCheckDone 64, .dpdRampStep 64,
   .dpdDivergenceWindow 64 [] 0, .dpdProbationEnd 64, .dpdFallback 64, .dpdIdentity 64, .dpdFallbackCheckEnd 64, .dpdReq 8 0,
   .dpdReq 0 (2 ^ 64), .nop { c0 with e := 18 }, .nop { c0 with dst := 32 }, .nop { c0 with sa := 32 },
   .nop { c0 with sb := 32 }, .nop { c0 with ecc := 3 }, .add { c0 with e := 18 }, .sub { c0 with e := 18 },
   .addh { c0 with e := 18 }, .subh { c0 with e := 18 }, .neg { c0 with e := 18 }, .conj { c0 with e := 18 },
   .swap { c0 with e := 18 }, .shl { c0 with e := 18 }, .shr { c0 with e := 18 }, .mov { c0 with e := 18 },
   .cmul { c0 with e := 18 }, .mag2 { c0 with e := 18 }, .iadd { c0 with e := 18 }, .isub { c0 with e := 18 },
   .andOp { c0 with e := 18 }, .orOp { c0 with e := 18 }, .xorOp { c0 with e := 18 }, .ishl { c0 with e := 18 }] : List Instr).all (fun c => !c.wf) = true := by decide +kernel

/-- Ill-formed commands: each breaks one check of `Instr.wf` alone. -/
theorem test_wf_refuses_e :
  ([.ishr { c0 with e := 18 }, .icmp { c0 with e := 18 }, .clra { c0 with e := 18 }, .cmac4 { c0 with e := 18 },
   .cmacb { c0 with e := 18 }, .cdot { c0 with e := 18 }, .acca { c0 with e := 18 }, .ashr { c0 with e := 18 },
   .mova { c0 with e := 18 }, .extr { c0 with e := 18 }, .sat { c0 with e := 18 }, .norm { c0 with e := 18 },
   .expa { c0 with e := 18 }, .exp { c0 with e := 18 }, .bexp { c0 with e := 18 }, .bxadd { c0 with e := 18 },
   .setbs { c0 with e := 18 }, .bfly { c0 with e := 18 }, .mfr { c0 with e := 18 }, .mtr { c0 with e := 18 },
   .ldW { m0 with e := 18 }, .ldW { m0 with reg := 32 }, .ldW { m0 with ptr := 8 }, .ldW { m0 with am := 4 },
   .ldW { m0 with ecc := 3 }, .stW { m0 with e := 18 }, .ldD { m0 with e := 18 }, .stD { m0 with e := 18 },
   .ldH { m0 with e := 18 }, .addi { a0 with e := 18 }, .addi { a0 with t := 8 }, .addi { a0 with v := 32 },
   .addi { a0 with ecc := 3 }, .addm { a0 with e := 18 }, .movp { a0 with e := 18 }, .movm { a0 with e := 18 },
   .movb { a0 with e := 18 }, .movl { a0 with e := 18 }, .setm { a0 with e := 18 }, .nopc { k0 with e := 18 }] : List Instr).all (fun c => !c.wf) = true := by decide +kernel

/-- Ill-formed commands: each breaks one check of `Instr.wf` alone. -/
theorem test_wf_refuses_f :
  ([.nopc { k0 with imm := 2 ^ 32 }, .nopc { k0 with ecc := 3 }, .jmp { k0 with e := 18 }, .jz { k0 with e := 18 },
   .jnz { k0 with e := 18 }, .jn { k0 with e := 18 }, .jnn { k0 with e := 18 }, .call { k0 with e := 18 },
   .ret { k0 with e := 18 }, .loop0 { k0 with e := 18 }, .loop1 { k0 with e := 18 }, .loopr0 { k0 with e := 18 },
   .loopr1 { k0 with e := 18 }, .ei { k0 with e := 18 }, .di { k0 with e := 18 }, .reti { k0 with e := 18 },
   .xfer { k0 with e := 18 }, .xwait { k0 with e := 18 }, .done { k0 with e := 18 }, .yield { k0 with e := 18 },
   .ldi { k0 with e := 18 } 0, .ldi k0 32, .transferComplete 18 0, .transferComplete 0 4, .interruptAccept 18, .geDoorbell 8 0 0,
   .geDoorbell 0 18 0, .geDoorbell 0 0 (2 ^ 32), .gePost 8 0 0, .gePost 0 18 0, .gePost 0 0 (2 ^ 128), .releaseEntryFire 18 0,
   .releaseEntryFire 0 8, .jobStart 18, .preemptLate 18, .jobOverrun 18, .geCplRead 18, .engineRollMove 18,
   .topNoteWindow 64 meas0, .calHrxArm 8 0] : List Instr).all (fun c => !c.wf) = true := by decide +kernel

/-- Ill-formed commands: each breaks one check of `Instr.wf` alone. -/
theorem test_wf_refuses_g :
  ([.calHrxArm 0 (2 ^ 64), .heartRunComplete 256 false [], .calItemStale 64 0, .foregroundRequest (some (.tenant 4)) 0 0 0,
   .foregroundRequest none 64 0 0, .foregroundRequest none 0 256 0, .foregroundRequest none 0 0 256, .foregroundWindowTimeout 64,
   .foregroundRunEnd 64 false [], .iqDataMessage { frm 0 [] with port := 4 }, .dlWindowClose 8, .ulSectionSend false 8,
   .ulSectionSend true 4, .realTimeControlMessage { frm 0 [] with port := 4 }, .genericDataMessage { frm 0 [] with port := 4 },
   .captureStream 128, .delayRequest { frm 0 [] with port := 4 }, .requestWithFollowUp { frm 0 [] with port := 4 },
   .followUp { frm 0 [] with port := 4 }, .remoteRequest { frm 0 [] with port := 4 }, .eventIndicationSend 4,
   .indicationAck { frm 0 [] with port := 4 }, .indicationResend 4 0, .indicationResend 0 (2 ^ 16),
   .synchronisationRequest { frm 0 [] with port := 4 }, .portStateChange 4 false false, .sakInstall 4 0, .ptpMasterChange 4 0 0,
   .synceSquelch 4, .esmcSend 4, .esmcReceive 16, .ppsInEdge (2 ^ 64), .linkLaneFailure 9, .linkLaneTxMove 4, .linkLaneRxMove 4,
   .lnkLaneSpared 4 0, .linkRealignTimeout 4, .laneReturnToSpare (.tenant 4) 0, .laneReturnToSpare .operator 9,
   .memRowRepaired 100 0] : List Instr).all (fun c => !c.wf) = true := by decide +kernel

/-- Ill-formed commands: each breaks one check of `Instr.wf` alone. -/
theorem test_wf_refuses_h :
  ([.memRowRepaired 0 512, .bankMigrationStart 100, .memBankSpared 100, .serviceBankSpare (.tenant 4) 0,
   .serviceBankSpare .operator 100, .memLock 8 0, .memLock 0 (2 ^ 64), .memLockRelease 8 0, .memLockRelease 0 (2 ^ 64),
   .memHoldFault 96, .dmaRingKick 8 0 0, .dmaRingKick 0 128 0, .dmaRingKick 0 0 (2 ^ 32), .dmaDescriptor 128,
   .dmaHalfCompletion 128, .dmaRingDisable 128, .read { h0 with transport := .port 4 } 0 0, .read h0 (2 ^ 16) 0,
   .read h0 0 (2 ^ 8), .write { h0 with transport := .port 4 } 0 0 0 [], .write h0 (2 ^ 16) 0 0 [], .write h0 0 (2 ^ 8) 0 [],
   .write h0 0 0 (2 ^ 8) [], .readBlock { h0 with transport := .port 4 } 0 0 0 0, .readBlock h0 (2 ^ 16) 0 0 0,
   .readBlock h0 0 (2 ^ 8) 0 0, .readBlock h0 0 0 (2 ^ 32) 0, .readBlock h0 0 0 0 (2 ^ 16),
   .writeBlock { h0 with transport := .port 4 } 0 0 0 0 0 [], .writeBlock h0 (2 ^ 16) 0 0 0 0 [],
   .writeBlock h0 0 (2 ^ 8) 0 0 0 [], .writeBlock h0 0 0 (2 ^ 8) 0 0 [], .writeBlock h0 0 0 0 (2 ^ 32) 0 [],
   .writeBlock h0 0 0 0 0 (2 ^ 32) [], .store { h0 with transport := .port 4 } 0 false, .store h0 (2 ^ 8) false,
   .restore { h0 with transport := .port 4 } 0, .restore h0 (2 ^ 8), .subscribe { h0 with transport := .port 4 } 0 0 0 0,
   .subscribe h0 (2 ^ 16) 0 0 0] : List Instr).all (fun c => !c.wf) = true := by decide +kernel

/-- Ill-formed commands: each breaks one check of `Instr.wf` alone. -/
theorem test_wf_refuses_i :
  ([.subscribe h0 0 (2 ^ 8) 0 0, .subscribe h0 0 0 (2 ^ 8) 0, .subscribe h0 0 0 0 (2 ^ 32),
   .digest { h0 with transport := .port 4 } 0, .digest h0 (2 ^ 8), .sessionTimeout (.port 4) 0 0, .sessionTimeout .t1s (2 ^ 8) 0,
   .sessionTimeout .t1s 0 (2 ^ 16), .blockTransferTimeout (.port 4) 0 0, .blockTransferTimeout .t1s (2 ^ 8) 0,
   .blockTransferTimeout .t1s 0 (2 ^ 16), .subscriptionNotify (.port 4) 0 0 0 0, .subscriptionNotify .t1s (2 ^ 8) 0 0 0,
   .subscriptionNotify .t1s 0 (2 ^ 16) 0 0, .subscriptionNotify .t1s 0 0 (2 ^ 16) 0, .subscriptionNotify .t1s 0 0 0 (2 ^ 8),
   .replicaRewrite 8, .eventFiringPresent 256, .eventCease 256 0 0, .eventCease 0 (2 ^ 16) 0, .eventCease 0 0 (2 ^ 16),
   .stickyFlagClear 5 0 false, .stickyFlagClear 0 256 false, .statisticsCounterClear (.tenant 4) 0 0,
   .statisticsCounterClear .operator (2 ^ 16) 0, .statisticsCounterClear .operator 0 (2 ^ 8), .writeFrame (2 ^ 16) [],
   .powerRequest (some (.tenant 4)) 0 0, .powerRequest none 8 0, .powerRequest none 0 (2 ^ 32), .sectionGateOff 64 false,
   .sectionGateOn 64 false, .linkSignalDetect 9, .t1sFrameWake (2 ^ 48) false, .housekeepingRound [] [] none 0 [],
   .housekeepingRound (List.replicate 96 0) [] none 0 [8], .bdacStrobeWrite 8 0, .bdacStrobeWrite 0 (2 ^ 64),
   .bdacCodeWrite 8 0 0, .bdacCodeWrite 0 128 0] : List Instr).all (fun c => !c.wf) = true := by decide +kernel

/-- Ill-formed commands: each breaks one check of `Instr.wf` alone. -/
theorem test_wf_refuses_j :
  ([.bdacCodeWrite 0 0 (2 ^ 16), .bdacShort 128 false, .bdacShortTimeout 128, .bdacSupplyLow 2, .drainRequest 8 0,
   .drainRequest 0 (2 ^ 64), .amplifierFault 64 0, .amplifierFault 0 5, .faultSafeCode 64, .drainReadbackMismatch 64,
   .drainFaultClear 8 0, .drainFaultClear 0 (2 ^ 64), .monTrigger 8 0, .monTrigger 0 2, .monEntryResult 2 0 0, .monDataRead 2,
   .fanWatchdogExpiry 4, .thmFanStall 4, .transitionToken (.tenant 4) [], .keyEnvelope (.tenant 4) 0 [],
   .keyEnvelope .operator 16 [], .rootRecord (.tenant 4) [], .raiseMinimums (.tenant 4), .verifyImage (.pair 2) 0,
   .verifyImage .dma (2 ^ 16), .checkDiongTag (.pair 2) .t1s 0, .checkDiongTag .dma (.port 4) 0,
   .checkDiongTag .dma .t1s (2 ^ 16), .makeDiongTag (.pair 2) .t1s 0, .makeDiongTag .dma (.port 4) 0,
   .makeDiongTag .dma .t1s (2 ^ 16), .mboxKeyEnvelope (.pair 2) .operator 0, .mboxKeyEnvelope .dma (.tenant 4) 0,
   .mboxKeyEnvelope .dma .operator (2 ^ 16), .mboxAttestation (.pair 2) 0, .mboxAttestation .dma (2 ^ 16),
   .lifecycleToken (.pair 2) 0, .lifecycleToken .dma (2 ^ 16), .mboxRootRecord (.pair 2) 0, .mboxRootRecord .dma (2 ^ 16)] : List Instr).all (fun c => !c.wf) = true := by decide +kernel

/-- Ill-formed commands: each breaks one check of `Instr.wf` alone. -/
theorem test_wf_refuses_k :
  ([.randomBytes (.pair 2) 0, .randomBytes .dma (2 ^ 16), .extest (2 ^ 660) 0, .extest 0 (2 ^ 660), .samplePreload (2 ^ 660) 0,
   .samplePreload 0 (2 ^ 660), .dbgPort (2 ^ 40) 0 false 0, .dbgPort 0 4 false 0, .dbgPort 0 0 false (2 ^ 64), .bypass (2 ^ 8),
   .challengeRead (.tenant 4), .debugResponse (.port 4) 0 [], .debugResponse .t1s (2 ^ 16) [], .debugTunnel (.port 4) 0 [],
   .debugTunnel .t1s (2 ^ 16) [], .dbgClose 8, .coreHalt 8 0, .coreHalt 0 (2 ^ 64), .coreStep 8 0, .coreStep 0 (2 ^ 64),
   .engineHalt 8 0, .engineHalt 0 (2 ^ 64), .laneFault 8 0, .laneFault 0 9, .engineRetire 0 8 false, .engineRetire 18 0 false,
   .engineSpareTakeover 18, .standbyImageWrite (.tenant 4) [], .fwStandbyReady 2, .handoverRequest 8 0 0, .handoverRequest 0 4 0,
   .handoverRequest 0 0 (2 ^ 64), .fwSaved 2, .fwAlive 2, .coldStart 2, .resetAssert 2 0, .loaderImage (2 ^ 8) [],
   .pwrBootGo 8 0, .pwrBootGo 0 (2 ^ 64), .vtargetUpdate (2 ^ 10)] : List Instr).all (fun c => !c.wf) = true := by decide +kernel

/-- Ill-formed commands: each breaks one check of `Instr.wf` alone. -/
theorem test_wf_refuses_l :
  ([.dpdMinRateVisit 64, .dpdStaleAgeExpiry 64, .bdacOutputStep 128, .tachEdge 4, .overloadDeassert 64, .oldCakTimeout 4 false,
   .arpRequest (2 ^ 48) 0 0, .arpRequest 0 (2 ^ 32) 0, .arpRequest 0 0 (2 ^ 32), .icmpEchoRequest (2 ^ 48) 0 0 0 0 false [],
   .icmpEchoRequest 0 (2 ^ 32) 0 0 0 false [], .icmpEchoRequest 0 0 (2 ^ 32) 0 0 false [],
   .icmpEchoRequest 0 0 0 (2 ^ 16) 0 false [], .icmpEchoRequest 0 0 0 0 (2 ^ 16) false [], .baseNoteSave 8] : List Instr).all (fun c => !c.wf) = true := by decide +kernel

/-! ## The manual's worked examples and tables -/

/-- The acceptance example of chapter 2: tenant 0's carrier 0, 100 MHz at 30 kHz, N = 273, 4 layers each way, 9-bit mantissas. -/
def sAccept : State :=
  let s := { s0 with straps := ⟨0, 255, 4⟩ }
  let s := ((((s.setObj 0x2010 1 (.num 3)).setObj 0x2010 2 (.num 0)).setObj 0x2010 4 (.num 100)).setObj 0x2010 5 (.num 273)).setObj 0x2010 6 (.num 1)
  let s := (s.setObj 0xB010 1 (.num 5500)).setObj 0xB011 1 (.num 450)
  let s := wr (wr (wr s .bfCcCfg [0] 0x667) .lnkCcDl [0] (273 + 2 * 512)) .lnkCcUl [0] (273 + 2 * 512)
  let s := wbit (wr (wr s .lnkCcWin [0] (122880 + 39321 * 2 ^ 32)) .memPart [0] (18 * 128)) .lnkPortCfg [0] 0 true
  (List.range 128).foldl (fun s r => wr s .dmaRingCfg [r] (if r < 32 then 7 * 512 else 4 * 2)) s

/-- BF_LAYER_BW: 400 of 12,800 MHz·layer. -/
theorem test_accept_layers : (chkLayers sAccept sAccept).map (fun c => (c.demand, c.cap)) = [(400, 12800), (400, 12800)] := by decide +kernel

/-- LINK_BW: 7,932 of 100,000 Mb/s each direction. -/
theorem test_accept_link : (chkLink sAccept).map (fun c => (c.demand, c.cap)) = [(7932, 100000), (7932, 100000)] := by decide +kernel

/-- SRAM_TENANT: 1,924,160 bytes, which are 4 banks of 18. -/
theorem test_accept_sram : (chkSram sAccept sAccept).head? = some ⟨0, 4, 18⟩ := by decide +kernel

/-- THERMAL: 38,600 of 104,444 mW. -/
theorem test_accept_thermal : chkThermal sAccept = [⟨0, 38600, 104444⟩] := by decide +kernel

/-- The power-share example of chapter 2: tenant 1's share of 30 % of 37.0 dBm, and two carriers of its own. -/
def sShare (dbm : Nat) : State :=
  let s := { s0 with straps := ⟨0, 255, 4⟩ }
  let s := ((s.setObj 0xA010 1 (.num 3700)).setObj 0x2012 1 (.num 1)).setObj 0x2012 2 (.num 1)
  let s := ((s.setObj 0x2013 1 (.num 1)).setObj 0x2013 2 (.num 1)).setObj 0x2102 1 (.num 3000)
  (s.setObj 0x2103 1 (.num dbm)).setPobj 0 0x29 3000

/-- 1,630,958 µW are refused against 1,503,561 at instance 1; with 27.0 dBm the demand is 1,501,188 µW. -/
theorem test_power_share :
    (chkPower (sShare 2800))[1]? = some ⟨1, 1630958, 1503561⟩ ∧ (chkPower (sShare 2700))[1]? = some ⟨1, 1501188, 1503561⟩ := by
  decide +kernel

/-- The example of chapter 5: D is 572 and 1,772 ADC samples. -/
theorem test_group_delay :
    groupDelay (95 + 31 * 256 + 11 * 2 ^ 16 + 5 * 2 ^ 20 + 2 * 2 ^ 24 + 2 * 2 ^ 28) 2 true = 572 ∧
    groupDelay (95 + 31 * 256 + 11 * 2 ^ 16 + 5 * 2 ^ 20 + 2 * 2 ^ 24 + 2 * 2 ^ 28) 4 true = 1772 := by decide +kernel

/-- The accord example of chapter 6: a mean of -13.80 dBFS against REF = -15.00 dBFS is scaled by 3,567 / 4,096. -/
theorem test_accord : limiterScale 44761009 1 (-1500) = 3567 := by decide +kernel

/-- The encoding example of chapter 7: 0x018C_D4CD is 1,229 - j1,843 with exponent 1. -/
theorem test_weight_word : vecOfWords [0x018CD4CD] = ⟨[⟨1229, -1843⟩], 1⟩ := by decide +kernel

/-- The steps of a ramp of 0.422° in chapter 10. -/
theorem test_ramp_steps : rampSteps 4 ⟨[], [422000], [], []⟩ = 4 := by decide +kernel

/-- The sensor example of chapter 15: neighbours at 80.90, 81.50, 82.00 and 83.10 °C have the median 81.75 °C. -/
theorem test_median : neighbours 21 = [13, 20, 22, 29] ∧ median [8090, 8150, 8200, 8310] = some 8175 := by decide +kernel

/-- The forecast example of chapter 17: 8,760 hours at H = 9,000, undefined at H = 15,860. -/
theorem test_forecast :
    ({ s0 with nv := { s0.nv with hours := 9000, uses := [(275, [7100])] } } : State).forecast 275 = some 8760 ∧
    ({ s0 with nv := { s0.nv with hours := 15860, uses := [(275, [7100])] } } : State).forecast 275 = none := by decide +kernel

/-- A shift that truncates rounds towards minus infinity (R310): the product -1 of 1 and -1 shifted right 15. -/
theorem test_cmul_truncates : cmul15 ⟨1, 0⟩ ⟨-1, 0⟩ = ⟨-1, 0⟩ := by decide +kernel

/-- The table gives no row bits: no word spells a command. -/
theorem test_no_word : Sys2Proof.decodeTableWord 32 0 = none := by decide +kernel

/-- R34: a write outside the windows records its tag and address and raises source 225. -/
theorem test_outside_windows :
    (regWriteBy s0 (.pair 0) 4 0xFF00000000 7).addrFaultRec = some (4, 0xFF00000000) ∧
    Fires (regWriteBy s0 (.pair 0) 4 0xFF00000000 7) 225 := by decide +kernel

/-- The index example of chapter 8: SCALE 60,607 and a magnitude of 0.5 read entry 34 with f = 38 / 64. -/
theorem test_lut_index : lutAt 60607 (fun i => ⟨1000 * i, 0⟩) 32768 = ⟨64 * 34000 + 38 * 1000, 0⟩ := by decide +kernel

/-- The guard example of chapter 3: with its idle bit a transaction of one data byte takes 1,200 ticks, of two 1,560. -/
theorem test_serial_length : txnTicks 1 + bitTicks = 1200 ∧ txnTicks 2 + bitTicks = 1560 := by decide +kernel


/-- The balls of paths 21 and 61 that R637 names, and the 220 signals of R642. -/
theorem test_ball_map :
    ballAt 1 35 = .signal (.txout 21) ∧ ballAt 7 35 = .signal (.fea 21) ∧ ballAt 11 35 = .signal (.drnEn 21) ∧
    ballAt 52 9 = .signal (.txout 61) ∧ boundarySignals.length = 220 := by decide +kernel

/-- In LISTEN an event pin floats and PPS_OUT is low (R522). -/
theorem test_pins_in_listen :
    ({ s0 with pwr := { s0.pwr with down := true } }).pinLevel .evtmN = .z ∧
    ({ s0 with pwr := { s0.pwr with down := true } }).pinLevel .ppsOut = .low := by decide +kernel

/-! ## The hypotheses of the statements are met -/

/-- A state with a command waiting and a byte of SRAM listed. -/
def sQ : State := { s0 with pending := [.clamp], mem := { s0.mem with data := [(5, 7)] } }

/-- The invariant holds of it. -/
theorem sQ_inv : sQ.Inv :=
  ⟨by decide +kernel, by decide +kernel, by decide +kernel, by decide +kernel, by decide +kernel, by decide +kernel, by decide +kernel,
   by decide +kernel, by intro p h; cases h⟩

/-- A step from a state of the invariant answers a next state. -/
theorem witness_step_keeps_invariant : ∃ (s t : State), s.Inv ∧ step s = .next t :=
  ⟨sQ, _, sQ_inv, (exec_clamp _).trans rfl⟩

/-- A state of the invariant. -/
theorem witness_commands_proceed : ∃ (_ : Instr) (s : State), s.Inv := ⟨.clamp, sQ, sQ_inv⟩

/-- A state with nothing waiting. -/
theorem witness_empty_queue_tick : ∃ s : State, s.pending = [] := ⟨s0, rfl⟩

/-- A command outside chapter 9 that answers a next state. -/
theorem witness_frames_of_the_block :
    ∃ c s t, chapterOf c ∈ [0, 1, 2, 3, 4, 5, 6, 7, 8, 10, 11, 12, 13, 14, 15, 16, 17, 18] ∧ exec c s = .next t :=
  ⟨.clamp, s0, _, by decide, (exec_clamp _).trans rfl⟩

/-- A command of chapter 9 that answers a next state. -/
theorem witness_frames_of_the_engines : ∃ c s t, chapterOf c ∈ [9] ∧ exec c s = .next t :=
  ⟨.add c0, sGe, _, by decide, (exec_add _ _).trans rfl⟩

/-- A slot operation, and another engine. -/
theorem witness_slot_operations_touch_one_engine :
    ∃ c s t e e', slotEngine c = some e ∧ exec c s = .next t ∧ e' ≠ e :=
  ⟨.add c0, sGe, _, 17, 16, rfl, (exec_add _ _).trans rfl, by decide⟩

/-- An address outside the windows: the first past the ROM, and the last of all. -/
theorem witness_address_outside_windows_faults : windowOf 0x40000 = none ∧ windowOf 0xFFFFFFFFFF = none := by decide +kernel

/-- Writes of the two registers from the device tag and the debug tag at D2, and from a tenant's and a reserved tag. -/
theorem witness_calibration_writes_need_the_device :
    (∃ (s : State) (m : Master) (tag : Nat) (w : Window), windowOf (regAddr .calCtrl []) = some w ∧ reaches m (regAddr .calCtrl []) true w = true ∧
      (s.island w.island).off = false ∧ s.tagDeviceOrD2 tag = true) ∧
    (∃ (s : State) (m : Master) (tag : Nat) (w : Window), windowOf (regAddr .calHrx []) = some w ∧ reaches m (regAddr .calHrx []) true w = true ∧
      (s.island w.island).off = false ∧ s.tagDeviceOrD2 tag = true) ∧
    (∃ (s : State) (m : Master) (tag : Nat) (w : Window) (id : RegId), (id = .calCtrl ∨ id = .calHrx) ∧ windowOf (regAddr id []) = some w ∧
      reaches m (regAddr id []) true w = true ∧ (s.island w.island).off = false ∧ s.tagDeviceOrD2 tag = false) :=
  ⟨⟨s0, .pair 0, 4, .lo, by decide +kernel⟩, ⟨sDbg 2, .debug, 5, .lo, by decide +kernel⟩, ⟨s0, .debug, 7, .lo, .calHrx, by decide +kernel⟩⟩

/-- Lane 8 of cluster 7 is the spare, idle, and in a move. -/
theorem witness_spare_lane_fault_retires_it :
    (∃ (s : State) (c k : Nat), c < 8 ∧ k < 9 ∧ (s.lanes c).spare = some k ∧ k ∉ (s.lanes c).retired ∧ positionOf s c k = none ∧ (s.lanes c).move = 0) ∧
    (∃ (s : State) (c k : Nat), c < 8 ∧ k < 9 ∧ (s.lanes c).spare = some k ∧ k ∉ (s.lanes c).retired ∧ positionOf s c k = none ∧ (s.lanes c).move ≠ 0) :=
  ⟨⟨s0, 7, 8, by decide +kernel⟩, ⟨s0.setLanes 7 { Lanes.reset with move := 2 }, 7, 8, by decide +kernel⟩⟩

/-- A store at the last byte of the SRAM, a load, and a descriptor that copies. -/
theorem witness_stores_leave_other_bytes :
    (∃ (s t : State) (addr : Nat) (b : List Byte), sramBase ≤ addr ∧ exec (.sramAccess 0 4 addr 0 (some b) [] []) s = .next t) ∧
    (∃ (s t : State) (addr n : Nat), exec (.sramAccess 0 4 addr n none [] []) s = .next t) ∧
    (∃ (s : State) (r b a : Nat) (d : Desc), RingCopies s r b a d ∧ d.full = true ∧ d.last = true ∧ rf s .dmaRingStat [r] 5 2 = 0) :=
  ⟨⟨s0, _, 0x102FFFFFF, [7], by decide, (exec_sramAccess ..).trans rfl⟩, ⟨s0, _, 0x100000000, 4, (exec_sramAccess ..).trans rfl⟩,
   ⟨sRing, 127, 23, sramBase + 23 * 0x80000, desc0, by decide +kernel⟩⟩

/-- The hypotheses of each clause of RegisterWriteByField. -/
theorem witness_register_write_by_field :
    (∃ (s : State) (m : Master) (tag a v : Nat) (id : RegId) (ix : List Nat), gate s m tag a true = (0, s) ∧ regDecode a = some (id, ix) ∧ blockMem a = false ∧ regTag s tag id = true ∧ plainReg id = true) ∧
    (∃ (s : State) (m : Master) (tag a v : Nat) (id : RegId) (ix : List Nat), gate s m tag a true = (0, s) ∧ regDecode a = some (id, ix) ∧ blockMem a = false ∧ regTag s tag id = false ∧ plainReg id = true) ∧
    (∃ (s : State) (m : Master) (tag a v : Nat) (w : Window), s.silenced m = false ∧ windowOf a = some w ∧ tag < 6 ∧ reaches m a true w = true ∧ (s.island w.island).off = true) ∧
    (∃ (s : State) (m : Master) (tag a v : Nat), s.silenced m = false ∧ windowOf a = none) :=
  ⟨⟨s0, .pair 0, 4, regAddr .bdacLdac [], 0x1234FF01, .bdacLdac, [], by decide +kernel⟩,
   ⟨s0, .pair 0, 3, regAddr .bdacLdac [], 0x1234FF01, .bdacLdac, [], by decide +kernel⟩,
   ⟨islandDown s0 33, .pair 0, 3, regAddr .bdacLdac [], 5, .hk, by decide +kernel⟩,
   ⟨s0, .pair 0, 4, 0xFF00000000, 7, by decide +kernel⟩⟩

/-- The hypotheses of each clause of ArrayCommandsComplete. -/
theorem witness_array_commands_complete :
    (∃ (s : State) (src dst burst : Nat), src < 36 ∧ dst < 36 ∧ src ≠ dst ∧ ¬ (s.island dst).off ∧ ¬ (s.island src).off) ∧
    (∃ (s : State) (dst : Nat), dst < 36 ∧ (s.island dst).power = true) ∧
    (∃ (s : State) (island : Nat) (inFlight : List Nat), island < 36) ∧
    (∃ (s : State) (pair : Nat), pair < 2) ∧
    (∃ (s : State), s.ctl.promoteDue = true ∧ s.ho ≠ 3 ∧ s.pairVerified (1 - s.ctl.active) = true ∧ s.pairStopped (1 - s.ctl.active) = false) ∧
    (∃ (s : State) (role : Role) (island bits : Nat), Manages role ∧ island < 36) :=
  ⟨⟨s0, 0, 35, 16, by decide +kernel⟩,
   ⟨s0, 35, by decide +kernel⟩,
   ⟨{ s0 with xing := [(35 * 64 + 2, ⟨1, 2⟩), (1 * 64 + 35, ⟨1, 1⟩), (3 * 64 + 4, ⟨1, 1⟩)] }, 35, [7, 2], by decide +kernel⟩,
   ⟨s0, 0, by decide +kernel⟩,
   ⟨{ s0 with ctl := { s0.ctl with promoteDue := true, verifiedB := true } }, by decide +kernel⟩,
   ⟨{ s0 with lost := [(35, 7)] }, .operator, 35, 5, by decide +kernel⟩⟩

/-- The hypotheses of each clause of TimelineCommandsComplete. -/
theorem witness_timeline_commands_complete :
    (∃ (s : State) (q : Int), s.ptpLocked = false ∧ 200 < Int.natAbs q ∧ s.anyCarrierActive = true) ∧
    (∃ (s : State) (q : Int), s.ptpLocked = false ∧ 200 < Int.natAbs q ∧ s.anyCarrierActive = false) ∧
    (∃ (s : State) (d : Int) (b : Nat), s.tl.pendStep = some d ∧ s.tl.stepArmed = some b ∧ s.ptpLocked = false ∧ eventDueBefore s (stepBoundary s b) = false) ∧
    (∃ (s : State), s.tlRuns = true) ∧
    (∃ (s : State) (e : Nat), s.tlRuns = true ∧ guardEnd s = some e) :=
  ⟨⟨s0.setObj 0x2010 1 (.num 1), 201, by decide +kernel⟩,
   ⟨s0, -201, by decide +kernel⟩,
   ⟨{ sRun 0 with tl := { s0.tl with pendStep := some (-25), stepArmed := some 5000000 } }, -25, 5000000, by decide +kernel⟩,
   ⟨sRun 0, by decide +kernel⟩,
   ⟨sRun 2, 0, by decide +kernel⟩⟩

/-- The hypotheses of each clause of AdmissionCommandsComplete. -/
theorem witness_admission_commands_complete :
    (∃ (s : State) (j : CommitJob), s.adm.running = some j) ∧
    (∃ (s : State) (j : CommitJob), s.adm.waiting = some j) ∧
    (∃ (s : State), s.adm.again = true) ∧
    (∃ (s : State), s.adm.dropDue = true) :=
  ⟨⟨{ s0 with adm := { s0.adm with running := some job0 } }, job0, by decide +kernel⟩,
   ⟨{ s0 with adm := { s0.adm with waiting := some job0 } }, job0, by decide +kernel⟩,
   ⟨{ s0 with adm := { s0.adm with again := true } }, by decide +kernel⟩,
   ⟨{ s0 with adm := { s0.adm with dropDue := true } }, by decide +kernel⟩⟩

/-- The hypotheses of each clause of SynthesiserCommandsComplete. -/
theorem witness_synthesiser_commands_complete :
    (∃ (s : State) (n : Nat), n < 4 ∧ (s.syn n).st = .off ∧ s.pwr.depth ≤ 1 ∧ s.lo.refLoss = false) ∧
    (∃ (s : State) (n : Nat), n < 4) ∧
    (∃ (s : State) (n : Nat), n < 4 ∧ (s.syn n).st = .calibrating) ∧
    (∃ (s : State) (n : Nat), n < 4 ∧ (s.syn n).st = .settling ∧ spGet none s.lo.forced n = none) ∧
    (∃ (s : State) (n : Nat), n < 4 ∧ (s.syn n).st = .settling ∧ (s.syn n).retried = false) ∧
    (∃ (s : State) (n : Nat), n < 4 ∧ (s.syn n).st = .settling ∧ (s.syn n).retried = true) ∧
    (∃ (s : State) (n : Nat), n < 4 ∧ (s.syn n).st = .locked) ∧
    (∃ (s : State) (edges : Nat), refWindowLost edges = true) ∧
    (∃ (s : State) (edges : List Nat), 8 ≤ edges.length ∧ (edges.drop (edges.length - 8)).all refWindowGood = true) ∧
    (∃ (s : State) (role : Role) (syn preset go : Nat), role = .operator ∧ go = 1 ∧ syn < 4 ∧ preset < 16 ∧ rf s .loSynPre [syn, preset] 47 0 ≠ 0 ∧ (s.syn syn).st = .locked ∧ s.lo.refLoss = false) ∧
    (∃ (s : State) (role : Role) (syn preset go : Nat), role = .operator ∧ go = 1 ∧ syn < 4 ∧ preset < 16 ∧ rf s .loSynPre [syn, preset] 47 0 ≠ 0 ∧ (s.syn syn).st ≠ .locked) ∧
    (∃ (s : State) (n : Nat) (e : EvtEntry), EventFires s n 8 e ∧ (s.island 9).off = false ∧ e.target < 4 ∧ ((s.syn e.target).st = .off ∨ (s.syn e.target).st = .locked) ∧ s.lo.refLoss = false) :=
  ⟨⟨s0, 3, by decide +kernel⟩,
   ⟨s0, 0, by decide +kernel⟩,
   ⟨sSyn 3 .calibrating, 3, by decide +kernel⟩,
   ⟨sSyn 3 .settling, 3, by decide +kernel⟩,
   ⟨sSyn 0 .settling, 0, by decide +kernel⟩,
   ⟨(s0.setSyn 2 { Syn.reset with st := .settling, retried := true }), 2, by decide +kernel⟩,
   ⟨sSyn 1 .locked, 1, by decide +kernel⟩,
   ⟨sSyn 1 .locked, 0, by decide +kernel⟩,
   ⟨{ sSyn 1 .holdover with lo := { (sSyn 1 .holdover).lo with refLoss := true } }, List.replicate 8 refEdges, by decide +kernel⟩,
   ⟨(wf s0 .loSynPre [3, 15] 47 0 5).setSyn 3 { Syn.reset with st := .locked }, .operator, 3, 15, 1, by decide +kernel⟩,
   ⟨wf s0 .loSynPre [3, 15] 47 0 5, .operator, 3, 15, 1, by decide +kernel⟩,
   ⟨sEvt 8 3 15, 4095, ⟨1000, true, 8, 3, 15⟩, by decide +kernel⟩⟩

/-- The hypotheses of each clause of HopCommandsComplete. -/
theorem witness_hop_commands_complete :
    (∃ (s : State) (n : Nat) (e : EvtEntry), EventFires s n 7 e ∧ (s.island 9).off = false ∧ s.fdd = false ∧ e.target < 4 ∧ e.target = synMate s.lo.txServe ∧ (s.syn e.target).st = .locked ∧ (s.syn e.target).preset = e.arg % 16) ∧
    (∃ (s : State) (h : Hop), s.lo.hop = some h) ∧
    (∃ (s : State) (h : Hop) (failed : List Nat), s.lo.hop = some h) ∧
    (∃ (s : State) (h : Hop), s.lo.hop = some h) ∧
    (∃ (s : State), s.lo.divFail ≠ []) ∧
    (∃ (s : State) (p cc : Nat), p < 64 ∧ cc < 8 ∧ s.dlOn cc = true ∧ s.pathState p = .tx ∧ s.txLocked p = true ∧ (s.pathFe p).blanked = false) ∧
    (∃ (s : State) (p cc : Nat), p < 64 ∧ cc < 8 ∧ s.dlOn cc = true ∧ s.pathState p = .tx ∧ s.txLocked p = false) :=
  ⟨⟨(sEvt 7 1 0).setSyn 1 { Syn.reset with st := .locked }, 4095, ⟨1000, true, 7, 1, 0⟩, by decide +kernel⟩,
   ⟨sHop, ⟨10, 1, 1⟩, by decide +kernel⟩,
   ⟨sHop, ⟨10, 1, 1⟩, [63, 64], by decide +kernel⟩,
   ⟨sHop, ⟨10, 1, 1⟩, by decide +kernel⟩,
   ⟨{ s0 with lo := { s0.lo with divFail := [63] } }, by decide +kernel⟩,
   ⟨sTxOn, 63, 7, by decide +kernel⟩,
   ⟨sTx7, 63, 7, by decide +kernel⟩⟩

/-- The hypotheses of each clause of PinCommandsComplete. -/
theorem witness_pin_commands_complete :
    (∃ (s : State) (p : Nat) (τ : Turn), p < 64 ∧ (s.pathFe p).turn = some τ ∧ τ.step < 40) ∧
    (∃ (s : State) (p : Nat) (τ : Turn), p < 64 ∧ (s.pathFe p).turn = some τ ∧ 40 ≤ τ.step ∧ τ.step < 60) ∧
    (∃ (s : State) (p : Nat) (τ : Turn), p < 64 ∧ (s.pathFe p).turn = some τ ∧ 60 ≤ τ.step ∧ τ.step < 80 ∧ τ.upto ≠ .off) ∧
    (∃ (s : State) (p : Nat), p < 64 ∧ s.fdd = false ∧ (s.pathFe p).turn = none ∧ (s.pathFe p).phase = .rx ∧ (s.pathFe p).lnaByp = false) ∧
    (∃ (s : State) (p : Nat), p < 64 ∧ s.fdd = false ∧ (s.pathFe p).turn = none ∧ (s.pathFe p).phase = .rx ∧ (s.pathFe p).lnaByp = true) ∧
    (∃ (s : State) (p : Nat), p < 64 ∧ (s.pathFe p).phase = .rx ∧ (s.pathFe p).turn = none ∧ (s.pathFe p).lnaByp = false ∧ (s.pathFe p).ovlFrom ≤ s.clk.elapsed ∧ (s.pathFe p).ovl = false ∧ s.fdd = false) ∧
    (∃ (s : State) (p : Nat), p < 64) ∧
    (∃ (s : State) (fea feb : List Nat), fea.length = 8 ∧ feb.length = 8 ∧ (s.pathFe 0).phase = .reset ∧ (s.pathFe 0).turn = none) :=
  ⟨⟨s0.setFe 63 { PathFe.reset with turn := some ⟨.tx, 0, 0⟩ }, 63, ⟨.tx, 0, 0⟩, by decide +kernel⟩,
   ⟨s0.setFe 63 { PathFe.reset with turn := some ⟨.tx, 0, 40⟩ }, 63, ⟨.tx, 0, 40⟩, by decide +kernel⟩,
   ⟨s0.setFe 63 { PathFe.reset with turn := some ⟨.guard, 0, 60⟩ }, 63, ⟨.guard, 0, 60⟩, by decide +kernel⟩,
   ⟨s0.setFe 63 { PathFe.reset with phase := .rx }, 63, by decide +kernel⟩,
   ⟨s0.setFe 63 { PathFe.reset with phase := .rx, lnaByp := true }, 63, by decide +kernel⟩,
   ⟨(s0.setFe 63 { PathFe.reset with phase := .rx }), 63, by decide +kernel⟩,
   ⟨s0.setFe 63 { PathFe.reset with ovl := true }, 63, by decide +kernel⟩,
   ⟨sOsc, List.replicate 8 3, List.replicate 8 0, by decide +kernel⟩⟩

/-- The hypotheses of each clause of SerialCommandsComplete. -/
theorem witness_serial_commands_complete :
    (∃ (s : State) (n : Nat) (e : EvtEntry), EventFires s n 9 e ∧ e.target < 64 ∧ (s.island (e.target / 8)).off = false ∧ rbit s .feCtrl [e.target / 8] 0 = true ∧ (s.pathFe e.target).lists.length < 4) ∧
    (∃ (s : State) (p : Nat) (x : Txn), p < 64 ∧ (s.pathFe p).phase = .guard ∧ (s.pathFe p).turn = none ∧ (s.pathFe p).bus = none ∧ nextTxn s p = some x) ∧
    (∃ (s : State) (p : Nat) (x : Txn), p < 64 ∧ (s.pathFe p).phase = .guard ∧ (s.pathFe p).turn = none ∧ (s.pathFe p).bus = none ∧ nextTxn s p = some x) ∧
    (∃ (s : State) (p : Nat) (feb : List Bool) (rdata : List Byte) (x : Txn), p < 64 ∧ (s.pathFe p).bus = some x ∧ (serialRun x.bits feb).1 ≠ 0) ∧
    (∃ (s : State) (p : Nat) (feb : List Bool) (rdata : List Byte) (x : Txn), p < 64 ∧ (s.pathFe p).bus = some x ∧ (serialRun x.bits feb).1 = 0 ∧ x.rd = false) ∧
    (∃ (s : State) (p : Nat) (feb : List Bool) (rdata : List Byte) (x : Txn), p < 64 ∧ (s.pathFe p).bus = some x ∧ (serialRun x.bits feb).1 = 0 ∧ x.rd = true) :=
  ⟨⟨wbit (sEvt 9 63 1023) .feCtrl [7] 0 true, 4095, ⟨1000, true, 9, 63, 1023⟩, by decide +kernel⟩,
   ⟨sGuard, 63, txnOf sGuard 63 1023 none, by decide +kernel⟩,
   ⟨sGuard, 63, txnOf sGuard 63 1023 none, by decide +kernel⟩,
   ⟨sBus tx0, 63, List.replicate 8 true ++ [true], [], tx0, by decide +kernel⟩,
   ⟨sBus tx0, 63, tx0.bits.map (fun b => decide (b = .drive true)), [], tx0, by decide +kernel⟩,
   ⟨sBus rx0, 63, rx0.bits.filterMap serLvl, [1, 2, 3, 4, 5, 6, 7, 8], rx0, by decide +kernel⟩⟩

/-- The hypotheses of each clause of ConverterCommandsComplete. -/
theorem witness_converter_commands_complete :
    (∃ (s : State) (k : Nat) (est : SliceEst) (sp t0 : Nat), rotates s k = true ∧ (s.conv k).runs = some t0 ∧ (s.conv k).swapDue = false ∧ (s.conv k).spare = some sp ∧ activeFaulty est = false ∧ spareFails est = false) ∧
    (∃ (s : State) (k : Nat) (est : SliceEst) (sp t0 : Nat), rotates s k = true ∧ (s.conv k).runs = some t0 ∧ (s.conv k).swapDue = false ∧ (s.conv k).spare = some sp ∧ estFails est = true ∧ (s.conv k).missed = false) ∧
    (∃ (s : State) (k : Nat) (est : SliceEst) (sp t0 : Nat), rotates s k = true ∧ (s.conv k).runs = some t0 ∧ (s.conv k).swapDue = false ∧ (s.conv k).spare = some sp ∧ estFails est = true ∧ (s.conv k).missed = true) ∧
    (∃ (s : State) (k : Nat) (est : SliceEst) (t0 : Nat), k < 138 ∧ (s.conv k).failed = false ∧ (s.conv k).runs = some t0 ∧ (s.conv k).spare = none) ∧
    (∃ (s : State) (k sp : Nat), (s.conv k).swapDue = true ∧ (s.conv k).spare = some sp ∧ (s.conv k).stuck ≠ none) ∧
    (∃ (s : State) (k sp : Nat), (s.conv k).swapDue = true ∧ (s.conv k).spare = some sp ∧ (s.conv k).stuck = none) ∧
    (∃ (s : State) (k slice : Nat), k < 138 ∧ converting s k = true ∧ (s.conv k).spare = some slice) ∧
    (∃ (s : State) (k slice sp : Nat), k < 138 ∧ converting s k = true ∧ (s.conv k).spare = some sp ∧ sp ≠ slice ∧ slice ∈ (s.conv k).pos) ∧
    (∃ (s : State) (k slice sp : Nat), k < 138 ∧ (s.conv k).failed = false ∧ (s.conv k).spare = some sp ∧ slice ∈ (s.conv k).pos) ∧
    (∃ (s : State) (k slice : Nat), k < 128 ∧ (s.conv k).failed = false ∧ (s.conv k).spare = none ∧ slice ∈ (s.conv k).pos) ∧
    (∃ (s : State) (d : Nat), d < 128 ∧ (s.dac d).check.isSome = true ∧ (s.dac d).dwelling = false ∧ s.pathState (d / 2) ≠ .off) ∧
    (∃ (s : State) (d trim : Nat) (dev : Int), d < 128 ∧ (s.dac d).dwelling = true ∧ (s.dac d).trimming = false ∧ s.pathState (d / 2) ≠ .off ∧ dev.natAbs ≤ 300) ∧
    (∃ (s : State) (d trim : Nat) (dev : Int) (follows : Bool), d < 128 ∧ (s.dac d).dwelling = true ∧ (s.dac d).trimming = false ∧ s.pathState (d / 2) ≠ .off ∧ ((300 < dev.natAbs ∨ follows = false))) :=
  ⟨⟨sRot, 0, est0, 8, 7, by decide +kernel⟩,
   ⟨sRot, 0, { est0 with noise := 300 }, 8, 7, by decide +kernel⟩,
   ⟨sRot.setConv 0 { Conv.reset 0 with missed := true, runs := some 7 }, 0, { est0 with noise := 300 }, 8, 7, by decide +kernel⟩,
   ⟨s0.setConv 137 { Conv.reset 137 with spare := none, runs := some 7 }, 137, { est0 with blind := [(3, 4)] }, 7, by decide +kernel⟩,
   ⟨s0.setConv 3 { Conv.reset 3 with swapDue := true, shadow := 7, stuck := some 2 }, 3, 8, by decide +kernel⟩,
   ⟨s0.setConv 3 { Conv.reset 3 with swapDue := true, shadow := 7 }, 3, 8, by decide +kernel⟩,
   ⟨sFdd 10 0 0, 135, 16, by decide +kernel⟩,
   ⟨sRot, 0, 7, 8, by decide +kernel⟩,
   ⟨s0, 127, 7, 8, by decide +kernel⟩,
   ⟨s0.setConv 127 { Conv.reset 127 with spare := none }, 127, 0, by decide +kernel⟩,
   ⟨sTx, 127, by decide +kernel⟩,
   ⟨sTx.setDac 127 { DacCells.reset with dwelling := true, at_ := 62 }, 127, 5, (-300), by decide +kernel⟩,
   ⟨sTx.setDac 126 { DacCells.reset with dwelling := true }, 126, 5, 301, true, by decide +kernel⟩⟩

/-- The hypotheses of each clause of CaptureCommandsComplete. -/
theorem witness_capture_commands_complete :
    (∃ (s : State) (n : Nat) (e : EvtEntry), EventFires s n 10 e ∧ s.fdd = true ∧ e.target < 4 ∧ (e.arg % 64) / 16 = e.target ∧ (s.island (2 * e.target)).off = false ∧ (s.orx e.target).failed = false ∧ (s.orx e.target).running = none) ∧
    (∃ (s : State) (r : Nat) (v : Visit), r < 4 ∧ (s.orx r).running = some v ∧ (s.orx r).waiting = none) ∧
    (∃ (s : State) (r : Nat) (v w : Visit), r < 4 ∧ (s.orx r).running = some v ∧ (s.orx r).waiting = some w) ∧
    (∃ (s : State) (r path n : Nat), r < 4 ∧ s.fdd = true ∧ path / 16 = r ∧ rbit s .orxCtrl [2 * r] 0 = true ∧ (s.orx r).running = none ∧ (s.orx r).waiting = none ∧ (s.orx r).failed = false ∧ path < 64 ∧ earlierWork s 2 = false ∧ n % 16 = 0 ∧ 16 ≤ n ∧ n ≤ 8192 ∧ captureBytes 0 true n ≤ 64 * rf s .capDesc [path / 8, 2 * path + spGet 0 s.cvt.pairNext path] 57 40) ∧
    (∃ (s : State) (r : Nat), r < 4 ∧ (s.orx r).failed = false) ∧
    (∃ (s : State) (n : Nat) (e : EvtEntry), EventFires s n 4 e ∧ e.target < 64 ∧ (s.island (e.target / 8)).off = false ∧ (s.buf (bitsOf e.arg 23 16)).st = .free ∧ spGet none s.cvt.staging e.target = none ∧ (∀ r < 4, (s.orx r).running.all (fun v => v.opened || decide (v.buffer ≠ bitsOf e.arg 23 16)) = true)) ∧
    (∃ (s : State) (n : Nat) (e : EvtEntry), EventFires s n 4 e ∧ e.target < 64 ∧ (s.island (e.target / 8)).off = false ∧ (s.buf (bitsOf e.arg 23 16)).st ≠ .free) ∧
    (∃ (s : State) (b : Nat) (xs zs : List Cplx) (ovr : Bool), b < 256 ∧ ((openVisits s).buf b).st = .filling ∧ olderCapture (openVisits s) b = false) ∧
    (∃ (s : State) (tag c value : Nat), c < 8 ∧ bitOf value 8 = true ∧ ((tag = 4 ∨ tag = rf s .capDesc [c, value % 256] 60 58)) ∧ (s.buf (value % 256)).st = .full) ∧
    (∃ (s : State) (tag c value : Nat), c < 8 ∧ bitOf value 8 = true ∧ tag ≠ 4 ∧ tag ≠ rf s .capDesc [c, value % 256] 60 58) :=
  ⟨⟨sFdd 10 3 (63 + 64 * 256), 4095, ⟨1000, true, 10, 3, 63 + 64 * 256⟩, by decide +kernel⟩,
   ⟨s0.setOrx 3 { Orx.reset with running := some ⟨48, 64, 0, false, 96, false, false⟩ }, 3, ⟨48, 64, 0, false, 96, false, false⟩, by decide +kernel⟩,
   ⟨s0.setOrx 0 { Orx.reset with running := some ⟨0, 64, 0, false, 0, false, false⟩, waiting := some ⟨5, 32, 0, false, 0, false, false⟩ }, 0, ⟨0, 64, 0, false, 0, false, false⟩, ⟨5, 32, 0, false, 0, false, false⟩, by decide +kernel⟩,
   ⟨wbit (wf (wbit s0 .tlPatternCfg [] 0 true) .capDesc [7, 126] 57 40 1024) .orxCtrl [6] 0 true, 3, 63, 112, by decide +kernel⟩,
   ⟨s0, 3, by decide +kernel⟩,
   ⟨sEvt 4 63 (100 + 127 * 65536), 4095, ⟨1000, true, 4, 63, 100 + 127 * 65536⟩, by decide +kernel⟩,
   ⟨(sEvt 4 0 100).setBuf 0 { CapBuf.reset with st := .full }, 4095, ⟨1000, true, 4, 0, 100⟩, by decide +kernel⟩,
   ⟨s0.setBuf 255 { CapBuf.reset with st := .filling, path := 63, staging := 63, n := 16 }, 255, [⟨1, 2⟩, ⟨3, 4⟩], [⟨5, 6⟩], true, by decide +kernel⟩,
   ⟨s0.setBuf 255 { CapBuf.reset with st := .full, path := 63 }, 4, 7, 511, by decide +kernel⟩,
   ⟨s0, 5, 0, 256, by decide +kernel⟩⟩

/-- The hypotheses of each clause of SyncCommandsComplete. -/
theorem witness_sync_commands_complete :
    (∃ (s : State) (n : Nat) (e : EvtEntry), EventFires s n 6 e ∧ (s.island 0).off = false) ∧
    (∃ (s : State) (tick : Nat), rbit s .tlSync [] 0 = true ∧ s.now ≤ tick + 1 ∧ tick ≤ s.now + 1) ∧
    (∃ (s : State) (tag : Nat), s.tagDeviceOrD2 tag = true ∧ s.regOff .tlSync [] = false) ∧
    (∃ (s : State) (tag : Nat), s.tagDeviceOrD2 tag = false ∧ s.regOff .tlSync [] = false) ∧
    (∃ (s : State) (tag : Nat), s.regOff .tlSync [] = true) ∧
    (∃ (s : State) (role : Role) (tick : Nat), Manages role) ∧
    (∃ (s : State) (ts : Nat) (rest : List Nat), s.rx.sync.pending = ts :: rest ∧ ts < 2 ^ 64) ∧
    (∃ (s : State) (cc : Nat), cc ∈ s.rx.sync.filling) :=
  ⟨⟨sEvt 6 255 0, 4095, ⟨1000, true, 6, 255, 0⟩, by decide +kernel⟩,
   ⟨{ wbit s0 .tlSync [] 0 true with clk := { s0.clk with count := 1000 } }, 999, by decide +kernel⟩,
   ⟨s0, 4, by decide +kernel⟩,
   ⟨s0, 3, by decide +kernel⟩,
   ⟨s0.setIsland 10 { Island.up with power := false }, 4, by decide +kernel⟩,
   ⟨s0, .operator, 257, by decide +kernel⟩,
   ⟨{ s0 with rx := { s0.rx with sync := ⟨[256, 512], [], 0, 0⟩ } }, 256, [512], by decide +kernel⟩,
   ⟨{ s0 with rx := { s0.rx with sync := ⟨[], [7], 100, 0⟩ } }, 7, by decide +kernel⟩⟩

/-- The hypotheses of each clause of ReceiveCommandsComplete. -/
theorem witness_receive_commands_complete :
    (∃ (s : State) (p : Nat) (xi xq : List Int) (ovr ovrNew : Nat), p < 64 ∧ s.receives p = false ∧ 64 ≤ (iqSamples xi xq).length ∧ ((s.rxg p).changed = 0 ∨ (s.rxg p).changed + 13 ≤ s.clk.elapsed)) ∧
    (∃ (s : State) (p : Nat) (xi xq : List Int) (ovr ovrNew : Nat), p < 64 ∧ s.receives p = true ∧ bitsOf (s.rxgCtrl p) 6 5 ≠ 0 ∧ bitOf (s.rxgCtrl p) 7 = false ∧ (s.rxg p).noAttack ≤ s.clk.elapsed ∧ 2 ≤ ovr ∧ 64 ≤ (iqSamples xi xq).length ∧ ((s.rxg p).changed = 0 ∨ (s.rxg p).changed + 13 ≤ s.clk.elapsed)) ∧
    (∃ (s : State) (p : Nat), p < 64 ∧ s.receives p = true ∧ bitsOf (s.rxgCtrl p) 6 5 = 2 ∧ (s.rxg p).below = true ∧ (s.rxg p).noRelease ≤ s.clk.elapsed ∧ bitsOf (s.rxgCtrl p) 4 0 < (s.rxg p).att) ∧
    (∃ (s : State) (p : Nat), p < 64 ∧ s.receives p = true ∧ (s.rxg p).below = false) ∧
    (∃ (s : State) (p : Nat), p < 64 ∧ s.receives p = false) ∧
    (∃ (s : State) (p : Nat), p < 64 ∧ s.receives p = false) ∧
    (∃ (s : State) (p : Nat), p < 64 ∧ s.receives p = true ∧ s.fdd = false ∧ (s.pathFe p).phase = .rx ∧ (s.pathFe p).turn = none ∧ (s.pathFe p).lnaByp = true ∧ (s.rxg p).quiet = true ∧ bitsOf (s.rxgCtrl p) 47 44 ≤ (s.rxg p).quietSyms + 1) ∧
    (∃ (s : State) (p : Nat), p < 64 ∧ s.receives p = true ∧ (s.rxg p).quiet = false ∧ 0 < bitsOf (s.rxgCtrl p) 47 44) ∧
    (∃ (s : State) (p cc : Nat) (xi xq : List Int) (sat : Nat), p < 64 ∧ s.ulOn cc = true ∧ s.laneWorks p = true ∧ (fftEnd s p cc).rxAt p ((fftEnd s p cc).now - s.windowShift p cc - 1) = true) ∧
    (∃ (s : State) (p j occ : Nat) (x : List Cplx) (sat : Nat), p < 64 ∧ j < 4 ∧ bitOf (s.prachWord p j) 0 = true ∧ occ ≤ bitsOf (s.prachWord p j) 15 12 ∧ s.ulOn (bitsOf (s.prachWord p j) 3 1) = true ∧ s.tlRuns = true ∧ s.receives p = true) ∧
    (∃ (s : State) (tag c value : Nat), c < 8 ∧ s.tagDeviceOrD2 tag = true ∧ bitOf value 4 = true ∧ (s.lanes c).move = 0 ∧ (s.lanes c).spare ≠ none ∧ s.regOff .laneMoveReq [c] = false ∧ s.rx.rolling = false ∧ (bitOf value 3 = true ∨ s.ctl.fwRuns = true)) ∧
    (∃ (s : State) (tag c value : Nat), c < 8 ∧ s.tagDeviceOrD2 tag = true ∧ bitOf value 4 = true ∧ (s.lanes c).move = 0 ∧ (s.lanes c).spare = none ∧ s.regOff .laneMoveReq [c] = false ∧ s.rx.rolling = false ∧ (bitOf value 3 = true ∨ s.ctl.fwRuns = true)) ∧
    (∃ (s : State) (tag c value : Nat), c < 8 ∧ s.tagDeviceOrD2 tag = true ∧ bitOf value 4 = true ∧ ((s.lanes c).move ≠ 0 ∨ s.rx.rolling = true) ∧ s.regOff .laneMoveReq [c] = false ∧ (bitOf value 3 = true ∨ s.ctl.fwRuns = true)) ∧
    (∃ (s : State) (c : Nat), c < 8 ∧ (s.lanes c).move = 1) ∧
    (∃ (s : State) (c sp : Nat), c < 8 ∧ (s.lanes c).move = 2 ∧ (s.lanes c).spare = some sp ∧ (s.lanes c).fault = false ∧ (s.lanes c).waiting = [] ∧ (c, (s.lanes c).pos) ∉ s.svc.faulty) ∧
    (∃ (s : State) (c sp : Nat), c < 8 ∧ (s.lanes c).move = 2 ∧ (s.lanes c).spare = some sp ∧ (s.lanes c).fault = false ∧ (s.lanes c).waiting = [] ∧ lanesAgree s c ((s.lanes c).map.getD (s.lanes c).pos 0) sp = true) ∧
    (∃ (s : State) (c sp : Nat), c < 8 ∧ (s.lanes c).move = 2 ∧ (s.lanes c).spare = some sp ∧ (s.lanes c).waiting = [] ∧ (c, (s.lanes c).pos) ∈ s.svc.faulty) ∧
    (∃ (s : State), s.rx.rollPre ≠ [] ∧ (∀ c < 8, (s.lanes c).move = 0)) ∧
    (∃ (s : State), s.rx.rollPre = [] ∧ s.rx.rollPost ≠ [] ∧ (∀ c < 8, (s.lanes c).move = 0)) ∧
    (∃ (s : State), s.rx.rollPre = [] ∧ s.rx.rollPost = [] ∧ s.rx.rollOf ≠ [] ∧ (∀ c < 8, (s.lanes c).move = 0)) ∧
    (∃ (s : State) (tag c k n i value addr : Nat), s.tagDeviceOrD2 tag = true ∧ regDecode addr = some (.coef, [c, k, n, i]) ∧ i < 176 ∧ (s.lanes c).spare = some k ∧ (s.lanes c).move ≠ 2 ∧ (s.island c).off = false) ∧
    (∃ (s : State) (tag c k n i value addr : Nat), s.tagDeviceOrD2 tag = true ∧ regDecode addr = some (.coef, [c, k, n, i]) ∧ (s.lanes c).spare ≠ some k ∧ (s.island c).off = false) :=
  ⟨⟨s0, 63, List.replicate 64 1, List.replicate 65 5, 300, 300, by decide +kernel⟩,
   ⟨sRxg 0x10020, 63, List.replicate 64 1, List.replicate 65 5, 2, 300, by decide +kernel⟩,
   ⟨(sRxg 0x40).setRxg 63 { s0.rxg 63 with att := 30, below := true }, 63, by decide +kernel⟩,
   ⟨(sRxg 0).setRxg 63 { s0.rxg 63 with below := false }, 63, by decide +kernel⟩,
   ⟨s0.setRxg 63 { s0.rxg 63 with below := false }, 63, by decide +kernel⟩,
   ⟨s0.setRxg 63 { s0.rxg 63 with quiet := false }, 63, by decide +kernel⟩,
   ⟨(sRxg 0).setFe 63 { PathFe.reset with phase := .rx, lnaByp := true }, 63, by decide +kernel⟩,
   ⟨(sRxg (2 ^ 44)).setRxg 63 { s0.rxg 63 with quiet := false }, 63, by decide +kernel⟩,
   ⟨sFft, 63, 7, [], [], 0, by decide +kernel⟩,
   ⟨wr { sPrach with tl := { sPrach.tl with path := [(63, .rx)] } } .prch [7, 7, 3] 15, 63, 3, 0, [⟨1, 2⟩], 1, by decide +kernel⟩,
   ⟨s0, 4, 7, 31, by decide +kernel⟩,
   ⟨s0.setLanes 7 { Lanes.reset with spare := none }, 4, 7, 24, by decide +kernel⟩,
   ⟨{ s0 with rx := { s0.rx with rolling := true } }, 4, 7, 24, by decide +kernel⟩,
   ⟨s0.setLanes 7 { Lanes.reset with move := 1 }, 7, by decide +kernel⟩,
   ⟨s0.setLanes 7 { Lanes.reset with move := 2, pos := 7 }, 7, 8, by decide +kernel⟩,
   ⟨s0.setLanes 7 { Lanes.reset with move := 2, pos := 7 }, 7, 8, by decide +kernel⟩,
   ⟨(s0.setLanes 7 { Lanes.reset with move := 2, pos := 7 }) |> (fun s => { s with svc := { s.svc with faulty := [(7, 7)] } }), 7, 8, by decide +kernel⟩,
   ⟨{ s0 with rx := { s0.rx with rollPre := [7], rolling := true } }, by decide +kernel⟩,
   ⟨{ s0 with rx := { s0.rx with rollPost := [7], rolling := true } }, by decide +kernel⟩,
   ⟨{ s0 with rx := { s0.rx with rollOf := [7], rolling := true } }, by decide +kernel⟩,
   ⟨s0, 4, 7, 8, 7, 175, 0xFFFFFFFF, (0x1000801000 + 7 * 16777216 + 8 * 65536 + 7 * 1024 + 175 * 4), by decide +kernel⟩,
   ⟨s0, 4, 7, 7, 7, 175, 0xFFFFFFFF, (0x1000801000 + 7 * 16777216 + 7 * 65536 + 7 * 1024 + 175 * 4), by decide +kernel⟩⟩

/-- The hypotheses of each clause of TransmitCommandsComplete. -/
theorem witness_transmit_commands_complete :
    (∃ (s : State) (p cc : Nat) (late : List Nat), p < 64 ∧ (txConfig s p cc).dlOn cc = true ∧ (txConfig s p cc).ccActive cc = true ∧ s.laneWorks p = true) ∧
    (∃ (s : State) (p cc : Nat) (late : List Nat), p < 64 ∧ (txConfig s p cc).dlOn cc = true ∧ (txConfig s p cc).ccActive cc = true ∧ s.laneWorks p = true ∧ 0 < (txConfig s p cc).ccN cc ∧ (0 ∈ late ∨ (spGet [] s.tx.buf (p * 8 + cc)).find? (fun x => x.tick = txAir s p cc) = none)) ∧
    (∃ (s : State) (p : Nat) (chans hist ahead past nbs : Unit) (cal : List Cplx), p < 64) :=
  ⟨⟨sTx7.setObj 0x2017 5 (.num 1), 63, 7, ([] : List Nat), by decide +kernel⟩,
   ⟨sTx7.setObj 0x2017 5 (.num 1), 63, 7, [0], by decide +kernel⟩,
   ⟨s0, 63, (), (), (), (), (), [], by decide +kernel⟩⟩

/-- The hypotheses of each clause of BeamCommandsComplete. -/
theorem witness_beam_commands_complete :
    (∃ (s : State) (n : Nat) (e : EvtEntry), EventFires s n 2 e ∧ (s.island 8).off = false) ∧
    (∃ (s : State) (n : Nat) (e : EvtEntry) (a b : Nat), EventFires s n 3 e ∧ (s.island 8).off = false ∧ nextOffset s.pattern s.frameOfs e.offset s.now = s.now ∧ spGet 0 s.clk.seen (3 * 16 * 65536 + n) ≠ s.clk.elapsed + 1 ∧ nextEntryOf s (if bitsOf e.target 3 3 = 1 ∧ s.fdd = false then 1 else 0) = some (a, b)) ∧
    (∃ (s : State) (cc : Nat) (arm : Arm), s.dlOn cc = true ∧ s.bfOn cc 0 = true ∧ (s.island 8).off = false ∧ nextSymbol s.frameOfs (s.ccMu cc) (s.ccEcp cc) (s.now + s.bfLead cc) = s.now + s.bfLead cc ∧ spGet 0 s.clk.seen (81 * 65536 + cc) ≠ s.clk.elapsed + 1 ∧ s.armFor cc 0 (s.now + s.bfLead cc) = some arm) ∧
    (∃ (s : State) (cc : Nat) (y : ReSym) (start : Nat) (arm : Arm), s.ulOn cc = true ∧ s.bfOn cc 1 = true ∧ (s.island 8).off = false ∧ oldestRe s cc = some y ∧ start = symStartOf s.frameOfs (s.ccMu cc) (s.ccEcp cc) (y.tick + s.ccWinOfs cc * 2 ^ s.ccHalfbands cc) ∧ s.armFor cc 1 start = some arm) ∧
    (∃ (s : State) (b : List Byte) (cc layer : Nat), cc = bitsOf (beAt b 0 1) 7 5 ∧ bitsOf (beAt b 0 1) 4 4 = 0 ∧ layer = bitsOf (beAt b 0 1) 3 0 ∧ bitsOf (beAt b 1 1) 7 7 = 0 ∧ 1 ≤ beAt b 4 1 ∧ beAt b 4 1 ≤ 32 ∧ b.length = 8 + 256 * beAt b 4 1 ∧ layer < s.bfLayers cc 0 ∧ beAt b 2 2 + beAt b 4 1 ≤ s.bfNg cc ∧ s.dlOn cc = true) ∧
    (∃ (s : State) (n : Nat) (b : List Byte), s.ccOwner (bitsOf (beAt b 0 1) 7 5) ≠ n) ∧
    (∃ (s : State) (v : Landing) (rest : List Landing) (same : Bool), s.bm.landing = v :: rest ∧ v.target = 1) ∧
    (∃ (s : State) (v : Landing) (rest : List Landing), s.bm.landing = v :: rest ∧ v.target = 0 ∧ v.words.length = 64 ∧ tileSpan s v.cc (s.setBase v.cc v.dir (1 - (s.wset v.cc v.dir).cur) + (v.layer * s.bfNg v.cc + v.index) * 256) 256 = true) :=
  ⟨⟨sEvt 2 15 0, 4095, ⟨1000, true, 2, 15, 0⟩, by decide +kernel⟩,
   ⟨sNow 3 7 0, 4095, ⟨1000, true, 3, 7, 0⟩, 4915200, 9830400, by decide +kernel⟩,
   ⟨sArm, 7, ⟨7, 0, 0, 0, 0, 1000⟩, by decide +kernel⟩,
   ⟨{ sArmU with rx := { sArmU.rx with re := [(511, [⟨100, 5, [⟨1, 2⟩], false⟩])] } }, 7, ⟨100, 5, [⟨1, 2⟩], false⟩, 0, ⟨7, 1, 0, 0, 0, 1000⟩, by decide +kernel⟩,
   ⟨((s0.setObj 0x2017 1 (.num 1)).setObj 0x2017 5 (.num 1)), 0xE0 :: 0 :: 0 :: 0 :: 1 :: List.replicate 259 0, 7, 0, by decide +kernel⟩,
   ⟨s0, 3, [], by decide +kernel⟩,
   ⟨{ s0 with bm := { s0.bm with landing := [⟨7, 0, 0, 1, 1023, List.replicate 64 0, 0, true⟩] } }, ⟨7, 0, 0, 1, 1023, List.replicate 64 0, 0, true⟩, [], true, by decide +kernel⟩,
   ⟨State.setObj { wr s0 .bfCcDlb [7] 0x0100000000 with bm := { s0.bm with landing := [⟨7, 0, 0, 0, 0, List.replicate 64 5, 0, true⟩] } } 0x2017 2 (.num 4), ⟨7, 0, 0, 0, 0, List.replicate 64 5, 0, true⟩, [], by decide +kernel⟩⟩

/-- The hypotheses of each clause of ArrayRepairCommandsComplete. -/
theorem witness_array_repair_commands_complete :
    (∃ (s : State) (p : Nat), p ∈ s.bm.declaring) ∧
    (∃ (s : State) (p : Nat), p < 64 ∧ 0 < spGet 0 s.bm.goingOff p) ∧
    (∃ (s : State), s.bm.heal.stage = 1) ∧
    (∃ (s : State), s.bm.heal.stage = 2) ∧
    (∃ (s : State) (p value : Nat), bitOf value 8 = true ∧ bitsOf value 7 6 = 1 ∧ p = value % 64 ∧ (s.pathFe p).failed = false) ∧
    (∃ (s : State) (p value : Nat), bitOf value 8 = true ∧ bitsOf value 7 6 = 2 ∧ p = value % 64 ∧ (p ∈ s.bm.held ∨ bitOf s.bm.mask p = true)) ∧
    (∃ (s : State) (p : Nat), p < 64 ∧ 1 < spGet 0 s.bm.clearing p) ∧
    (∃ (s : State) (k : Nat), k < 9 ∧ k ∉ s.bm.retired) ∧
    (∃ (s : State) (j at_ : Nat) (rest : List (Nat × Nat)) (sp : Nat), s.bm.dead = (j, at_) :: rest ∧ s.bm.spare = some sp) ∧
    (∃ (s : State) (j p : Nat), j < 4 ∧ (s.island 8).off = false ∧ p < 64 ∧ (spGet ReSym.none_ s.rx.prach (p * 4 + j)).tick ≠ 0 ∧ bitOf (s.prachCfg j) 10 = true) ∧
    (∃ (s : State) (j p : Nat), j < 4 ∧ (s.island 8).off = false ∧ p < 64 ∧ (spGet ReSym.none_ s.rx.prach (p * 4 + j)).tick ≠ 0 ∧ bitOf (s.prachCfg j) 10 = false) :=
  ⟨⟨{ s0 with bm := { s0.bm with declaring := [63] } }, 63, by decide +kernel⟩,
   ⟨{ s0 with bm := { s0.bm with goingOff := [(63, 1)] } }, 63, by decide +kernel⟩,
   ⟨{ s0 with bm := { s0.bm with heal := ⟨1, 0, false, [], 0⟩ } }, by decide +kernel⟩,
   ⟨{ s0 with bm := { s0.bm with heal := ⟨2, 0, false, [], 0⟩ } }, by decide +kernel⟩,
   ⟨s0, 63, 0x17F, by decide +kernel⟩,
   ⟨{ s0 with bm := { s0.bm with held := [63] } }, 63, 0x1BF, by decide +kernel⟩,
   ⟨{ s0 with bm := { s0.bm with clearing := [(63, 2)], held := [63], mask := 2 ^ 63 } }, 63, by decide +kernel⟩,
   ⟨s0, 7, by decide +kernel⟩,
   ⟨{ s0 with bm := { s0.bm with dead := [(7, 10)] } }, 7, 10, [], 8, by decide +kernel⟩,
   ⟨{ s0.setObj 0x4483 1 (.num (2 ^ 10)) with rx := { s0.rx with prach := [(63 * 4 + 3, ⟨5, 5, [⟨1, 1⟩], false⟩)] } }, 3, 63, by decide +kernel⟩,
   ⟨{ s0 with rx := { s0.rx with prach := [(63 * 4 + 3, ⟨5, 5, [⟨1, 1⟩], false⟩)] } }, 3, 63, by decide +kernel⟩⟩

/-- The hypotheses of each clause of PredistortionCommandsComplete. -/
theorem witness_predistortion_commands_complete :
    (∃ (s : State) (p : Nat) (msq mabs : Unit), p < 64 ∧ s.dpdHeld p = false) ∧
    (∃ (s : State) (tag addr value p b i : Nat), bankAddr addr = some (p, b, i) ∧ s.tagDeviceOrD2 tag = true ∧ (s.dpd p).writable b s.clk.elapsed = true ∧ (s.island (p / 8)).off = false ∧ s.dpdHeld p = false) ∧
    (∃ (s : State) (tag addr value p b i : Nat), bankAddr addr = some (p, b, i) ∧ ((s.dpd p).writable b s.clk.elapsed = false ∨ s.dpdHeld p = true) ∧ (s.island (p / 8)).off = false) ∧
    (∃ (s : State) (tag p value : Nat), p < 64 ∧ s.tagDeviceOrD2 tag = true ∧ bitOf value 0 = true ∧ (((s.dpd p).st = .identity ∨ (s.dpd p).st = .good)) ∧ (s.dpd p).checking = none ∧ (s.dpd p).due = .none_ ∧ s.dpdHeld p = false ∧ s.regOff .dpdHo [p / 8, p % 8] = false) ∧
    (∃ (s : State) (tag p value : Nat), p < 64 ∧ s.tagDeviceOrD2 tag = true ∧ bitOf value 0 = true ∧ s.regOff .dpdHo [p / 8, p % 8] = false ∧ (((s.dpd p).st ≠ .identity ∧ (s.dpd p).st ≠ .good) ∨ (s.dpd p).checking ≠ none ∨ (s.dpd p).due ≠ .none_ ∨ s.dpdHeld p = true)) ∧
    (∃ (s : State) (p : Nat), p < 64 ∧ (s.dpd p).checking ≠ none ∧ (((s.dpd p).st = .identity ∨ (s.dpd p).st = .good)) ∧ (s.dpd p).due = .none_ ∧ s.dpdHeld p = false ∧ boundFails (s.dpd p) (s.dpd p).shadow = false ∧ gainFails s p (s.dpd p) (s.dpd p).shadow = false) ∧
    (∃ (s : State) (p : Nat), p < 64 ∧ (s.dpd p).checking ≠ none ∧ (((s.dpd p).st = .identity ∨ (s.dpd p).st = .good)) ∧ (s.dpd p).due = .none_ ∧ s.dpdHeld p = false ∧ boundFails (s.dpd p) (s.dpd p).shadow = true) ∧
    (∃ (s : State) (p : Nat), p < 64 ∧ (s.dpd p).checking ≠ none ∧ (s.dpd p).due ≠ .none_ ∧ s.dpdHeld p = false) ∧
    (∃ (s : State) (p : Nat), p < 64 ∧ (s.dpd p).st = .ramp ∧ (s.dpd p).due = .none_ ∧ s.tlRuns = true ∧ s.pathState p ≠ .off ∧ (s.pathFe p).blanked = false) ∧
    (∃ (s : State) (p : Nat) (z : List Cplx) (age : Nat), p < 64 ∧ (p / 8, p % 8) ∉ s.svc.faulty ∧ s.dpdHeld p = false ∧ windowCounts s p age = true) ∧
    (∃ (s : State) (p n : Nat), p < 64 ∧ (s.dpd p).st = .probation ∧ (s.dpd p).due = .none_ ∧ s.tlRuns = true ∧ s.dpdHeld p = false ∧ (s.dpd p).backoff = false ∧ nthTxStart s p (rf s .dpdCtrl [p / 8, p % 8] 18 11) (s.dpd p).probAt = some n) ∧
    (∃ (s : State) (p n : Nat), p < 64 ∧ (s.dpd p).st = .probation ∧ (s.dpd p).due = .none_ ∧ s.tlRuns = true ∧ s.dpdHeld p = false ∧ (s.dpd p).backoff = true ∧ (s.dpd p).second = false ∧ nthTxStart s p (rf s .dpdCtrl [p / 8, p % 8] 18 11) (s.dpd p).probAt = some n) ∧
    (∃ (s : State) (p : Nat), p < 64 ∧ (s.dpd p).due = .fallback ∧ s.dpdHeld p = false) ∧
    (∃ (s : State) (p : Nat), p < 64 ∧ (s.dpd p).due = .identity ∧ s.dpdHeld p = false) ∧
    (∃ (s : State) (p : Nat), p < 64 ∧ (s.dpd p).st = .fallback ∧ (s.dpd p).due = .none_ ∧ rf s .dpdLim [p / 8, p % 8] 26 24 ≤ (s.dpd p).wins ∧ s.dpdHeld p = false) :=
  ⟨⟨s0, 63, (), (), by decide +kernel⟩,
   ⟨s0, 4, 0x1007A7C000 + 4 * 3151, 0x1FFFFFFFF, 63, 1, 3151, by decide +kernel⟩,
   ⟨s0, 4, 0x1007A78000, 5, 63, 0, 0, by decide +kernel⟩,
   ⟨s0, 4, 63, 1, by decide +kernel⟩,
   ⟨sDpd { Dpd.reset with st := .fallback }, 4, 63, 1, by decide +kernel⟩,
   ⟨sDpd { (Dpd.reset.setWord 1 0 1).setWord 1 16 0x2000 with checking := some 0 }, 63, by decide +kernel⟩,
   ⟨sDpd { Dpd.reset with checking := some 0 }, 63, by decide +kernel⟩,
   ⟨sDpd { Dpd.reset with checking := some 0, due := .identity, st := .good }, 63, by decide +kernel⟩,
   ⟨{ sRunTx with dpds := [(63, { Dpd.reset with st := .ramp, rampLen := 1 })] }, 63, by decide +kernel⟩,
   ⟨sWin, 63, ([] : List Cplx), 0, by decide +kernel⟩,
   ⟨{ sRunTx with dpds := [(63, { Dpd.reset with st := .probation, backoff := false })] }, 63, 983040, by decide +kernel⟩,
   ⟨{ sRunTx with dpds := [(63, { Dpd.reset with st := .probation, backoff := true })] }, 63, 983040, by decide +kernel⟩,
   ⟨sDpd { Dpd.reset with st := .ramp, bank := 1, due := .fallback }, 63, by decide +kernel⟩,
   ⟨sDpd { Dpd.reset with st := .good, due := .identity }, 63, by decide +kernel⟩,
   ⟨sDpd { Dpd.reset with st := .fallback, wins := 7 }, 63, by decide +kernel⟩⟩

/-- The hypotheses of each clause of DispatcherCommandsComplete. -/
theorem witness_dispatcher_commands_complete :
    (∃ (s : State) (tag bits : Nat), s.tagDeviceOrD2 tag = true ∧ s.regOff .dpdReq [] = false) ∧
    (∃ (s : State) (p : Nat), rbit s .dpdDispCtrl [] 0 = true ∧ s.ctl.fwRuns = true ∧ s.disp.jobs.length < max 1 (rf s .dpdDispCtrl [] 4 1) ∧ hottest s = some p ∧ earlierWork s 2 = false ∧ s.askedAgain .dpdReq [] p = false) ∧
    (∃ (s : State) (p : Nat), p < 64 ∧ s.fdd = true ∧ s.ctl.fwRuns = true ∧ 0 < s.onum (0x6100 + p) 7 ∧ (s.orx (p / 16)).failed = false ∧ (s.orx (p / 16)).running = none) ∧
    (∃ (s : State) (p : Nat), p < 64 ∧ 0 < spGet 0 s.disp.pending p) :=
  ⟨⟨s0, 4, 2 ^ 63, by decide +kernel⟩,
   ⟨{ wbit s0 .dpdDispCtrl [] 0 true with ctl := { s0.ctl with fwRuns := true }, disp := { s0.disp with pending := [(63, 1)] } }, 63, by decide +kernel⟩,
   ⟨((sFdd 0 0 0).setObj 0x613F 7 (.num 4)) |> (fun s => { s with ctl := { s.ctl with fwRuns := true } }), 63, by decide +kernel⟩,
   ⟨{ s0 with disp := { s0.disp with pending := [(63, 1)] } }, 63, by decide +kernel⟩⟩

/-- The hypotheses of each clause of ComplexArithmeticResults. -/
theorem witness_complex_arithmetic_results :
    (∃ (s : State) (g : GeC), GeReady s g.e 0 g.last g.ecc) ∧
    (∃ (s : State) (g : GeC), GeReady s g.e 0 g.last g.ecc) ∧
    (∃ (s : State) (g : GeC), GeReady s g.e 0 g.last g.ecc) ∧
    (∃ (s : State) (g : GeC), GeReady s g.e 0 g.last g.ecc) ∧
    (∃ (s : State) (g : GeC), GeReady s g.e 0 g.last g.ecc) ∧
    (∃ (s : State) (g : GeC), GeReady s g.e 0 g.last g.ecc) ∧
    (∃ (s : State) (g : GeC), GeReady s g.e 0 g.last g.ecc) ∧
    (∃ (s : State) (g : GeC), GeReady s g.e 0 g.last g.ecc) ∧
    (∃ (s : State) (g : GeC), GeReady s g.e 0 g.last g.ecc) ∧
    (∃ (s : State) (g : GeC), GeReady s g.e 0 g.last g.ecc) ∧
    (∃ (s : State) (g : GeC), GeReady s g.e 0 g.last g.ecc) ∧
    (∃ (s : State) (g : GeC), GeReady s g.e 0 g.last g.ecc) ∧
    (∃ (s : State) (g : GeC), GeReady s g.e 0 g.last g.ecc) ∧
    (∃ (s : State) (g : GeC), GeIssues s g.e 0 g.last g.ecc [(g.dst % 32, 1)] [] ∧ GeGoes s g.e) ∧
    (∃ (s : State) (g : GeC), GeIssues s g.e 0 g.last g.ecc [(g.dst % 32, 1)] [] ∧ GeGoes s g.e) ∧
    (∃ (s : State) (g : GeC), GeIssues s g.e 0 g.last g.ecc [(g.dst % 32, 1)] [] ∧ GeGoes s g.e) ∧
    (∃ (s : State) (g : GeC), GeIssues s g.e 0 g.last g.ecc [(g.dst % 32, 1)] [] ∧ GeGoes s g.e) ∧
    (∃ (s : State) (g : GeC), GeIssues s g.e 0 g.last g.ecc [(g.dst % 32, 1)] [] ∧ GeGoes s g.e) ∧
    (∃ (s : State) (g : GeC), GeIssues s g.e 0 g.last g.ecc [(g.dst % 32, 1)] [] ∧ GeGoes s g.e) ∧
    (∃ (s : State) (g : GeC), GeIssues s g.e 0 g.last g.ecc [(g.dst % 32, 1)] [] ∧ GeGoes s g.e) ∧
    (∃ (s : State) (g : GeC), GeIssues s g.e 0 g.last g.ecc [(g.dst % 32, 1)] [] ∧ GeGoes s g.e) ∧
    (∃ (s : State) (g : GeC), GeIssues s g.e 0 g.last g.ecc [(g.dst % 32, 1)] [] ∧ GeGoes s g.e) ∧
    (∃ (s : State) (g : GeC), GeIssues s g.e 0 g.last g.ecc [(g.dst % 32, 1)] [] ∧ GeGoes s g.e) ∧
    (∃ (s : State) (g : GeC), GeIssues s g.e 0 g.last g.ecc [(g.dst % 32, 2)] [] ∧ GeGoes s g.e) ∧
    (∃ (s : State) (g : GeC), GeIssues s g.e 0 g.last g.ecc [(g.dst % 32, 2)] [] ∧ GeGoes s g.e) :=
  ⟨⟨sGe, ⟨17, 31, 3, 5, true, true, false, 1⟩, by decide +kernel⟩,
   ⟨sGe, ⟨17, 31, 3, 5, true, true, false, 1⟩, by decide +kernel⟩,
   ⟨sGe, ⟨17, 31, 3, 5, true, true, false, 1⟩, by decide +kernel⟩,
   ⟨sGe, ⟨17, 31, 3, 5, true, true, false, 1⟩, by decide +kernel⟩,
   ⟨sGe, ⟨17, 31, 3, 5, true, true, false, 1⟩, by decide +kernel⟩,
   ⟨sGe, ⟨17, 31, 3, 5, true, true, false, 1⟩, by decide +kernel⟩,
   ⟨sGe, ⟨17, 31, 3, 5, true, true, false, 1⟩, by decide +kernel⟩,
   ⟨sGe, ⟨17, 31, 3, 5, true, true, false, 1⟩, by decide +kernel⟩,
   ⟨sGe, ⟨17, 31, 3, 5, true, true, false, 1⟩, by decide +kernel⟩,
   ⟨sGe, ⟨17, 31, 3, 5, true, true, false, 1⟩, by decide +kernel⟩,
   ⟨sGe, ⟨17, 31, 3, 5, true, true, false, 1⟩, by decide +kernel⟩,
   ⟨sGe, ⟨17, 31, 3, 5, true, true, false, 1⟩, by decide +kernel⟩,
   ⟨sGe, ⟨17, 31, 3, 5, true, true, false, 1⟩, by decide +kernel⟩,
   ⟨sGe, ⟨17, 31, 3, 5, true, true, true, 1⟩, by decide +kernel⟩,
   ⟨sGe, ⟨17, 31, 3, 5, true, true, true, 1⟩, by decide +kernel⟩,
   ⟨sGe, ⟨17, 31, 3, 5, true, true, true, 1⟩, by decide +kernel⟩,
   ⟨sGe, ⟨17, 31, 3, 5, true, true, true, 1⟩, by decide +kernel⟩,
   ⟨sGe, ⟨17, 31, 3, 5, true, true, true, 1⟩, by decide +kernel⟩,
   ⟨sGe, ⟨17, 31, 3, 5, true, true, true, 1⟩, by decide +kernel⟩,
   ⟨sGe, ⟨17, 31, 3, 5, true, true, true, 1⟩, by decide +kernel⟩,
   ⟨sGe, ⟨17, 31, 3, 5, true, true, true, 1⟩, by decide +kernel⟩,
   ⟨sGe, ⟨17, 31, 3, 5, true, true, true, 1⟩, by decide +kernel⟩,
   ⟨sGe, ⟨17, 31, 3, 5, true, true, true, 1⟩, by decide +kernel⟩,
   ⟨sGe, ⟨17, 31, 3, 5, true, true, true, 1⟩, by decide +kernel⟩,
   ⟨sGe, ⟨17, 31, 3, 5, true, true, true, 1⟩, by decide +kernel⟩⟩

/-- The hypotheses of each clause of IntegerAndControlRegisterResults. -/
theorem witness_integer_and_control_register_results :
    (∃ (s : State) (g : GeC), GeReady s g.e 0 g.last g.ecc) ∧
    (∃ (s : State) (g : GeC), GeReady s g.e 0 g.last g.ecc) ∧
    (∃ (s : State) (g : GeC), GeReady s g.e 0 g.last g.ecc) ∧
    (∃ (s : State) (g : GeC), GeReady s g.e 0 g.last g.ecc) ∧
    (∃ (s : State) (g : GeC), GeReady s g.e 0 g.last g.ecc) ∧
    (∃ (s : State) (g : GeC), GeReady s g.e 0 g.last g.ecc) ∧
    (∃ (s : State) (g : GeC), GeReady s g.e 0 g.last g.ecc) ∧
    (∃ (s : State) (g : GeC), GeReady s g.e 0 g.last g.ecc) ∧
    (∃ (s : State) (g : GeC), GeReady s g.e 0 g.last g.ecc) ∧
    (∃ (s : State) (g : GeC), GeReady s g.e 0 g.last g.ecc) ∧
    (∃ (s : State) (g : GeK) (r : Nat), GeReady s g.e 4 g.last g.ecc) ∧
    (∃ (s : State) (g : GeC), GeReady s g.e 0 g.last g.ecc) ∧
    (∃ (s : State) (g : GeC), GeReady s g.e 0 g.last g.ecc) ∧
    (∃ (s : State) (g : GeC), GeReady s g.e 0 g.last g.ecc) ∧
    (∃ (s : State) (g : GeC), GeReady s g.e 0 g.last g.ecc) ∧
    (∃ (s : State) (g : GeC), GeReady s g.e 0 g.last g.ecc) ∧
    (∃ (s : State) (g : GeC), GeIssues s g.e 0 g.last g.ecc [(g.dst % 32, 1)] [] ∧ GeGoes s g.e) ∧
    (∃ (s : State) (g : GeC), GeIssues s g.e 0 g.last g.ecc [(g.dst % 32, 1)] [] ∧ GeGoes s g.e) ∧
    (∃ (s : State) (g : GeC), GeIssues s g.e 0 g.last g.ecc [(g.dst % 32, 1)] [] ∧ GeGoes s g.e) ∧
    (∃ (s : State) (g : GeC), GeIssues s g.e 0 g.last g.ecc [(g.dst % 32, 1)] [] ∧ GeGoes s g.e) ∧
    (∃ (s : State) (g : GeC), GeIssues s g.e 0 g.last g.ecc [(g.dst % 32, 1)] [] ∧ GeGoes s g.e) ∧
    (∃ (s : State) (g : GeC), GeIssues s g.e 0 g.last g.ecc [(g.dst % 32, 1)] [] ∧ GeGoes s g.e) ∧
    (∃ (s : State) (g : GeC), GeIssues s g.e 0 g.last g.ecc [(g.dst % 32, 1)] [] ∧ GeGoes s g.e) ∧
    (∃ (s : State) (g : GeC), GeIssues s g.e 0 g.last g.ecc [(g.dst % 32, 1)] [] ∧ GeGoes s g.e) ∧
    (∃ (s : State) (g : GeC), GeIssues s g.e 0 g.last g.ecc [(g.dst % 32, 1)] [] ∧ GeGoes s g.e) ∧
    (∃ (s : State) (g : GeC), GeIssues s g.e 0 g.last g.ecc [(g.dst % 32, 2)] [] ∧ GeGoes s g.e) ∧
    (∃ (s : State) (g : GeK) (r : Nat), GeIssues s g.e 4 g.last g.ecc [(r % 32, 1)] [] ∧ GeGoes s g.e) ∧
    (∃ (s : State) (g : GeC), GeIssues s g.e 0 g.last g.ecc [] [] ∧ GeGoes s g.e) ∧
    (∃ (s : State) (g : GeC), GeIssues s g.e 0 g.last g.ecc [] [] ∧ GeGoes s g.e) ∧
    (∃ (s : State) (g : GeC), GeIssues s g.e 0 g.last g.ecc [(g.dst % 32, 1)] [] ∧ GeGoes s g.e) ∧
    (∃ (s : State) (g : GeC), GeIssues s g.e 0 g.last g.ecc [] [] ∧ GeGoes s g.e ∧ (s.eng g.e).flight = []) ∧
    (∃ (s : State) (g : GeC), GeIssues s g.e 0 g.last g.ecc [(64 + g.dst % 32, 1)] (if g.dst % 32 < 24 then [g.dst % 32] else []) ∧ GeGoes s g.e ∧ (s.eng g.e).bundle.stored = []) :=
  ⟨⟨sGe, ⟨17, 31, 3, 5, true, true, false, 1⟩, by decide +kernel⟩,
   ⟨sGe, ⟨17, 31, 3, 5, true, true, false, 1⟩, by decide +kernel⟩,
   ⟨sGe, ⟨17, 31, 3, 5, true, true, false, 1⟩, by decide +kernel⟩,
   ⟨sGe, ⟨17, 31, 3, 5, true, true, false, 1⟩, by decide +kernel⟩,
   ⟨sGe, ⟨17, 31, 3, 5, true, true, false, 1⟩, by decide +kernel⟩,
   ⟨sGe, ⟨17, 31, 3, 5, true, true, false, 1⟩, by decide +kernel⟩,
   ⟨sGe, ⟨17, 31, 3, 5, true, true, false, 1⟩, by decide +kernel⟩,
   ⟨sGe, ⟨17, 31, 3, 5, true, true, false, 1⟩, by decide +kernel⟩,
   ⟨sGe, ⟨17, 31, 3, 5, true, true, false, 1⟩, by decide +kernel⟩,
   ⟨sGe, ⟨17, 31, 3, 5, true, true, false, 1⟩, by decide +kernel⟩,
   ⟨sGe, ⟨17, 0x1FFFFFFFF, false, 0⟩, 31, by decide +kernel⟩,
   ⟨sGe, ⟨17, 31, 3, 5, true, true, false, 1⟩, by decide +kernel⟩,
   ⟨sGe, ⟨17, 31, 3, 5, true, true, false, 1⟩, by decide +kernel⟩,
   ⟨sGe, ⟨17, 31, 3, 5, true, true, false, 1⟩, by decide +kernel⟩,
   ⟨sGe, ⟨17, 31, 3, 5, true, true, false, 1⟩, by decide +kernel⟩,
   ⟨sGe, ⟨17, 31, 3, 5, true, true, false, 1⟩, by decide +kernel⟩,
   ⟨sGe, ⟨17, 31, 3, 5, true, true, true, 1⟩, by decide +kernel⟩,
   ⟨sGe, ⟨17, 31, 3, 5, true, true, true, 1⟩, by decide +kernel⟩,
   ⟨sGe, ⟨17, 31, 3, 5, true, true, true, 1⟩, by decide +kernel⟩,
   ⟨sGe, ⟨17, 31, 3, 5, true, true, true, 1⟩, by decide +kernel⟩,
   ⟨sGe, ⟨17, 31, 3, 5, true, true, true, 1⟩, by decide +kernel⟩,
   ⟨sGe, ⟨17, 31, 3, 5, true, true, true, 1⟩, by decide +kernel⟩,
   ⟨sGe, ⟨17, 31, 3, 5, true, true, true, 1⟩, by decide +kernel⟩,
   ⟨sGe, ⟨17, 31, 3, 5, true, true, true, 1⟩, by decide +kernel⟩,
   ⟨sGe, ⟨17, 31, 3, 5, true, true, true, 1⟩, by decide +kernel⟩,
   ⟨sGe, ⟨17, 31, 3, 5, true, true, true, 1⟩, by decide +kernel⟩,
   ⟨sGe, ⟨17, 0x1FFFFFFFF, true, 0⟩, 31, by decide +kernel⟩,
   ⟨sGe, ⟨17, 31, 3, 5, true, true, true, 1⟩, by decide +kernel⟩,
   ⟨sGe, ⟨17, 31, 3, 5, true, true, true, 1⟩, by decide +kernel⟩,
   ⟨sGe, ⟨17, 31, 3, 5, true, true, true, 1⟩, by decide +kernel⟩,
   ⟨sGeF, ⟨17, 31, 3, 5, true, true, true, 1⟩, by decide +kernel⟩,
   ⟨sGe, ⟨17, 7, 3, 5, true, true, true, 1⟩, by decide +kernel⟩⟩

/-- The hypotheses of each clause of AccumulatorResults. -/
theorem witness_accumulator_results :
    (∃ (s : State) (g : GeC), GeReady s g.e 0 g.last g.ecc) ∧
    (∃ (s : State) (g : GeC), GeReady s g.e 0 g.last g.ecc ∧ g.sa % 4 = 0 ∧ g.sb % 4 = 0) ∧
    (∃ (s : State) (g : GeC), GeReady s g.e 0 g.last g.ecc ∧ g.sb % 4 = 0) ∧
    (∃ (s : State) (g : GeC), GeReady s g.e 0 g.last g.ecc ∧ g.sa % 4 = 0 ∧ g.sb % 4 = 0) ∧
    (∃ (s : State) (g : GeC), GeReady s g.e 0 g.last g.ecc) ∧
    (∃ (s : State) (g : GeC), GeReady s g.e 0 g.last g.ecc) ∧
    (∃ (s : State) (g : GeC), GeReady s g.e 0 g.last g.ecc) ∧
    (∃ (s : State) (g : GeC), GeReady s g.e 0 g.last g.ecc) ∧
    (∃ (s : State) (g : GeC), GeReady s g.e 0 g.last g.ecc) ∧
    (∃ (s : State) (g : GeC), GeReady s g.e 0 g.last g.ecc) ∧
    (∃ (s : State) (g : GeC), GeReady s g.e 0 g.last g.ecc ∧ g.dst % 2 = 0 ∧ g.sa % 2 = 0) ∧
    (∃ (s : State) (g : GeC), GeIssues s g.e 0 g.last g.ecc [(32, 1), (33, 1), (34, 1), (35, 1)] [] ∧ GeGoes s g.e) ∧
    (∃ (s : State) (g : GeC), GeIssues s g.e 0 g.last g.ecc [(32, 2), (33, 2), (34, 2), (35, 2)] [] ∧ GeGoes s g.e ∧ g.sa % 4 = 0 ∧ g.sb % 4 = 0) ∧
    (∃ (s : State) (g : GeC), GeIssues s g.e 0 g.last g.ecc [(32, 2), (33, 2), (34, 2), (35, 2)] [] ∧ GeGoes s g.e ∧ g.sb % 4 = 0) ∧
    (∃ (s : State) (g : GeC), GeIssues s g.e 0 g.last g.ecc [(32 + g.dst % 4, 2)] [] ∧ GeGoes s g.e ∧ g.sa % 4 = 0 ∧ g.sb % 4 = 0) ∧
    (∃ (s : State) (g : GeC), GeIssues s g.e 0 g.last g.ecc [(32 + g.dst % 4, 2)] [] ∧ GeGoes s g.e) ∧
    (∃ (s : State) (g : GeC), GeIssues s g.e 0 g.last g.ecc [(32 + g.dst % 4, 2)] [] ∧ GeGoes s g.e) ∧
    (∃ (s : State) (g : GeC), GeIssues s g.e 0 g.last g.ecc [(32 + g.dst % 4, 2)] [] ∧ GeGoes s g.e) ∧
    (∃ (s : State) (g : GeC), GeIssues s g.e 0 g.last g.ecc [(g.dst % 32, 2)] [] ∧ GeGoes s g.e) ∧
    (∃ (s : State) (g : GeC), GeIssues s g.e 0 g.last g.ecc [(g.dst % 32, 2)] [] ∧ GeGoes s g.e) ∧
    (∃ (s : State) (g : GeC), GeIssues s g.e 0 g.last g.ecc [(g.dst % 32, 2)] [] ∧ GeGoes s g.e) ∧
    (∃ (s : State) (g : GeC), GeIssues s g.e 0 g.last g.ecc [(g.dst % 32, 2), ((g.dst + 1) % 32, 2)] [] ∧ GeGoes s g.e ∧ g.dst % 2 = 0 ∧ g.sa % 2 = 0) :=
  ⟨⟨sGe, ⟨17, 31, 3, 5, true, true, false, 1⟩, by decide +kernel⟩,
   ⟨sGe, ⟨17, 2, 4, 4, true, true, false, 1⟩, by decide +kernel⟩,
   ⟨sGe, ⟨17, 2, 4, 4, true, true, false, 1⟩, by decide +kernel⟩,
   ⟨sGe, ⟨17, 2, 4, 4, true, true, false, 1⟩, by decide +kernel⟩,
   ⟨sGe, ⟨17, 31, 3, 5, true, true, false, 1⟩, by decide +kernel⟩,
   ⟨sGe, ⟨17, 31, 3, 5, true, true, false, 1⟩, by decide +kernel⟩,
   ⟨sGe, ⟨17, 31, 3, 5, true, true, false, 1⟩, by decide +kernel⟩,
   ⟨sGe, ⟨17, 31, 3, 5, true, true, false, 1⟩, by decide +kernel⟩,
   ⟨sGe, ⟨17, 31, 3, 5, true, true, false, 1⟩, by decide +kernel⟩,
   ⟨sGe, ⟨17, 31, 3, 5, true, true, false, 1⟩, by decide +kernel⟩,
   ⟨sGe, ⟨17, 2, 4, 4, true, true, false, 1⟩, by decide +kernel⟩,
   ⟨sGe, ⟨17, 31, 3, 5, true, true, true, 1⟩, by decide +kernel⟩,
   ⟨sGe, ⟨17, 2, 4, 4, true, true, true, 1⟩, by decide +kernel⟩,
   ⟨sGe, ⟨17, 2, 4, 4, true, true, true, 1⟩, by decide +kernel⟩,
   ⟨sGe, ⟨17, 2, 4, 4, true, true, true, 1⟩, by decide +kernel⟩,
   ⟨sGe, ⟨17, 31, 3, 5, true, true, true, 1⟩, by decide +kernel⟩,
   ⟨sGe, ⟨17, 31, 3, 5, true, true, true, 1⟩, by decide +kernel⟩,
   ⟨sGe, ⟨17, 31, 3, 5, true, true, true, 1⟩, by decide +kernel⟩,
   ⟨sGe, ⟨17, 31, 3, 5, true, true, true, 1⟩, by decide +kernel⟩,
   ⟨sGe, ⟨17, 31, 3, 5, true, true, true, 1⟩, by decide +kernel⟩,
   ⟨sGe, ⟨17, 31, 3, 5, true, true, true, 1⟩, by decide +kernel⟩,
   ⟨sGe, ⟨17, 2, 4, 4, true, true, true, 1⟩, by decide +kernel⟩⟩

/-- The hypotheses of each clause of MemoryAndAddressSlotResults. -/
theorem witness_memory_and_address_slot_results :
    (∃ (s : State) (g : GeM), GeReady s g.e (if g.y then 2 else 1) g.last g.ecc ∧ ((g.am = 2 → g.ptr % 8 < 4)) ∧ (s.eng g.e).cr (g.ptr % 8) % 4 = 0) ∧
    (∃ (s : State) (g : GeM), GeReady s g.e (if g.y then 2 else 1) g.last g.ecc ∧ ((g.am = 2 → g.ptr % 8 < 4)) ∧ (s.eng g.e).cr (g.ptr % 8) % 2 = 0) ∧
    (∃ (s : State) (g : GeM), GeReady s g.e (if g.y then 2 else 1) g.last g.ecc ∧ g.reg % 2 = 0 ∧ ((g.am = 2 → g.ptr % 8 < 4)) ∧ (s.eng g.e).cr (g.ptr % 8) % 8 = 0) ∧
    (∃ (s : State) (g : GeM), GeReady s g.e (if g.y then 2 else 1) g.last g.ecc ∧ ((g.am = 2 → g.ptr % 8 < 4)) ∧ (s.eng g.e).cr (g.ptr % 8) % 4 = 0) ∧
    (∃ (s : State) (g : GeM), GeReady s g.e (if g.y then 2 else 1) g.last g.ecc ∧ g.reg % 2 = 0 ∧ ((g.am = 2 → g.ptr % 8 < 4)) ∧ (s.eng g.e).cr (g.ptr % 8) % 8 = 0) ∧
    (∃ (s : State) (g : GeA), GeReady s g.e 3 g.last g.ecc) ∧
    (∃ (s : State) (g : GeA), GeReady s g.e 3 g.last g.ecc) ∧
    (∃ (s : State) (g : GeA), GeReady s g.e 3 g.last g.ecc) ∧
    (∃ (s : State) (g : GeA), GeReady s g.e 3 g.last g.ecc) ∧
    (∃ (s : State) (g : GeA), GeReady s g.e 3 g.last g.ecc ∧ g.t % 8 < 4) ∧
    (∃ (s : State) (g : GeA), GeReady s g.e 3 g.last g.ecc ∧ g.t % 8 < 4) ∧
    (∃ (s : State) (g : GeA), GeReady s g.e 3 g.last g.ecc) ∧
    (∃ (s : State) (g : GeM), GeIssues s g.e (if g.y then 2 else 1) g.last g.ecc ([(g.reg % 32, 2)] ++ (if g.am % 4 = 0 then [] else [(64 + g.ptr % 8, 1)])) (if g.am % 4 = 0 then [] else [g.ptr % 8]) ∧ GeGoes s g.e ∧ ((g.am = 2 → g.ptr % 8 < 4)) ∧ (s.eng g.e).cr (g.ptr % 8) % 4 = 0) ∧
    (∃ (s : State) (g : GeM), GeIssues s g.e (if g.y then 2 else 1) g.last g.ecc ([(g.reg % 32, 2)] ++ (if g.am % 4 = 0 then [] else [(64 + g.ptr % 8, 1)])) (if g.am % 4 = 0 then [] else [g.ptr % 8]) ∧ GeGoes s g.e ∧ ((g.am = 2 → g.ptr % 8 < 4)) ∧ (s.eng g.e).cr (g.ptr % 8) % 2 = 0) ∧
    (∃ (s : State) (g : GeM), GeIssues s g.e (if g.y then 2 else 1) g.last g.ecc ([(g.reg % 32, 2), ((g.reg + 1) % 32, 2)] ++ (if g.am % 4 = 0 then [] else [(64 + g.ptr % 8, 1)])) (if g.am % 4 = 0 then [] else [g.ptr % 8]) ∧ GeGoes s g.e ∧ g.reg % 2 = 0 ∧ ((g.am = 2 → g.ptr % 8 < 4)) ∧ (s.eng g.e).cr (g.ptr % 8) % 8 = 0) ∧
    (∃ (s : State) (g : GeM), GeIssues s g.e (if g.y then 2 else 1) g.last g.ecc (if g.am % 4 = 0 then [] else [(64 + g.ptr % 8, 1)]) (if g.am % 4 = 0 then [] else [g.ptr % 8]) ∧ GeGoes s g.e ∧ ((g.am = 2 → g.ptr % 8 < 4)) ∧ (s.eng g.e).cr (g.ptr % 8) % 4 = 0 ∧ (s.eng g.e).bundle.stores = []) ∧
    (∃ (s : State) (g : GeM), GeIssues s g.e (if g.y then 2 else 1) g.last g.ecc (if g.am % 4 = 0 then [] else [(64 + g.ptr % 8, 1)]) (if g.am % 4 = 0 then [] else [g.ptr % 8]) ∧ GeGoes s g.e ∧ g.reg % 2 = 0 ∧ ((g.am = 2 → g.ptr % 8 < 4)) ∧ (s.eng g.e).cr (g.ptr % 8) % 8 = 0 ∧ (s.eng g.e).bundle.stores = []) ∧
    (∃ (s : State) (g : GeA), GeIssues s g.e 3 g.last g.ecc [(64 + g.t % 8, 1)] [g.t % 8] ∧ GeGoes s g.e) ∧
    (∃ (s : State) (g : GeA), GeIssues s g.e 3 g.last g.ecc [(64 + g.t % 8, 1)] [g.t % 8] ∧ GeGoes s g.e) ∧
    (∃ (s : State) (g : GeA), GeIssues s g.e 3 g.last g.ecc [(64 + g.t % 8, 1)] [g.t % 8] ∧ GeGoes s g.e) ∧
    (∃ (s : State) (g : GeA), GeIssues s g.e 3 g.last g.ecc [(64 + (8 + g.t % 8), 1)] [8 + g.t % 8] ∧ GeGoes s g.e) ∧
    (∃ (s : State) (g : GeA), GeIssues s g.e 3 g.last g.ecc [(64 + (16 + g.t % 4), 1)] [16 + g.t % 4] ∧ GeGoes s g.e ∧ g.t % 8 < 4) ∧
    (∃ (s : State) (g : GeA), GeIssues s g.e 3 g.last g.ecc [(64 + (20 + g.t % 4), 1)] [20 + g.t % 4] ∧ GeGoes s g.e ∧ g.t % 8 < 4) ∧
    (∃ (s : State) (g : GeA), GeIssues s g.e 3 g.last g.ecc [(64 + (8 + g.t % 8), 1)] [8 + g.t % 8] ∧ GeGoes s g.e) :=
  ⟨⟨sGe, ⟨17, true, 30, 1, 1, false, 0⟩, by decide +kernel⟩,
   ⟨sGe, ⟨17, true, 30, 1, 1, false, 0⟩, by decide +kernel⟩,
   ⟨sGe, ⟨17, true, 30, 1, 1, false, 0⟩, by decide +kernel⟩,
   ⟨sGe, ⟨17, true, 30, 1, 1, false, 0⟩, by decide +kernel⟩,
   ⟨sGe, ⟨17, true, 30, 1, 1, false, 0⟩, by decide +kernel⟩,
   ⟨sGe, ⟨17, 3, 17, false, 0⟩, by decide +kernel⟩,
   ⟨sGe, ⟨17, 3, 17, false, 0⟩, by decide +kernel⟩,
   ⟨sGe, ⟨17, 3, 17, false, 0⟩, by decide +kernel⟩,
   ⟨sGe, ⟨17, 3, 17, false, 0⟩, by decide +kernel⟩,
   ⟨sGe, ⟨17, 3, 17, false, 0⟩, by decide +kernel⟩,
   ⟨sGe, ⟨17, 3, 17, false, 0⟩, by decide +kernel⟩,
   ⟨sGe, ⟨17, 3, 17, false, 0⟩, by decide +kernel⟩,
   ⟨sGe, ⟨17, true, 30, 1, 1, true, 0⟩, by decide +kernel⟩,
   ⟨sGe, ⟨17, true, 30, 1, 1, true, 0⟩, by decide +kernel⟩,
   ⟨sGe, ⟨17, true, 30, 1, 1, true, 0⟩, by decide +kernel⟩,
   ⟨sGe, ⟨17, true, 30, 1, 1, true, 0⟩, by decide +kernel⟩,
   ⟨sGe, ⟨17, true, 30, 1, 1, true, 0⟩, by decide +kernel⟩,
   ⟨sGe, ⟨17, 3, 17, true, 0⟩, by decide +kernel⟩,
   ⟨sGe, ⟨17, 3, 17, true, 0⟩, by decide +kernel⟩,
   ⟨sGe, ⟨17, 3, 17, true, 0⟩, by decide +kernel⟩,
   ⟨sGe, ⟨17, 3, 17, true, 0⟩, by decide +kernel⟩,
   ⟨sGe, ⟨17, 3, 17, true, 0⟩, by decide +kernel⟩,
   ⟨sGe, ⟨17, 3, 17, true, 0⟩, by decide +kernel⟩,
   ⟨sGe, ⟨17, 3, 17, true, 0⟩, by decide +kernel⟩⟩

/-- The hypotheses of each clause of ControlSlotResults. -/
theorem witness_control_slot_results :
    (∃ (s : State) (g : GeK), GeReady s g.e 4 g.last g.ecc) ∧
    (∃ (s : State) (g : GeK), GeReady s g.e 4 g.last g.ecc) ∧
    (∃ (s : State) (g : GeK), GeReady s g.e 4 g.last g.ecc) ∧
    (∃ (s : State) (g : GeK), GeReady s g.e 4 g.last g.ecc) ∧
    (∃ (s : State) (g : GeK), GeReady s g.e 4 g.last g.ecc) ∧
    (∃ (s : State) (g : GeK), GeReady s g.e 4 g.last g.ecc) ∧
    (∃ (s : State) (g : GeK), GeReady s g.e 4 g.last g.ecc ∧ (s.eng g.e).rstack.length < 4) ∧
    (∃ (s : State) (g : GeK) (a : Nat) (rest : List Nat), GeReady s g.e 4 g.last g.ecc ∧ (s.eng g.e).rstack = a :: rest) ∧
    (∃ (s : State) (g : GeK) (le : Nat), GeReady s g.e 4 g.last g.ecc ∧ le = (s.eng g.e).pc + 1 + bitsOf g.imm 28 16 ∧ le < (s.eng g.e).codeSize ∧ (((s.eng g.e).cr 25 = 0 ∨ (s.eng g.e).cr 29 ≠ le))) ∧
    (∃ (s : State) (g : GeK) (le : Nat), GeReady s g.e 4 g.last g.ecc ∧ le = (s.eng g.e).pc + 1 + bitsOf g.imm 28 16 ∧ le < (s.eng g.e).codeSize ∧ (((s.eng g.e).cr 24 = 0 ∨ (s.eng g.e).cr 28 ≠ le))) ∧
    (∃ (s : State) (g : GeK) (le : Nat), GeReady s g.e 4 g.last g.ecc ∧ le = (s.eng g.e).pc + 1 + bitsOf g.imm 28 16 ∧ le < (s.eng g.e).codeSize ∧ (((s.eng g.e).cr 25 = 0 ∨ (s.eng g.e).cr 29 ≠ le))) ∧
    (∃ (s : State) (g : GeK) (le : Nat), GeReady s g.e 4 g.last g.ecc ∧ le = (s.eng g.e).pc + 1 + bitsOf g.imm 28 16 ∧ le < (s.eng g.e).codeSize ∧ (((s.eng g.e).cr 24 = 0 ∨ (s.eng g.e).cr 28 ≠ le))) ∧
    (∃ (s : State) (g : GeK), GeReady s g.e 4 g.last g.ecc) ∧
    (∃ (s : State) (g : GeK), GeReady s g.e 4 g.last g.ecc) ∧
    (∃ (s : State) (g : GeK), GeReady s g.e 4 g.last g.ecc) ∧
    (∃ (s : State) (g : GeK) (q : Nat) (d : GeXfer), GeReady s g.e 4 g.last g.ecc ∧ q = bitsOf g.imm 21 20 ∧ (spGet [] (s.eng g.e).xq q).length < 4 ∧ xferAt (s.eng g.e) (g.imm % 2 ^ 18) = some d) ∧
    (∃ (s : State) (g : GeK) (q : Nat), q = bitsOf g.imm 21 20 ∧ 4 ≤ (spGet [] (s.eng g.e).xq q).length ∧ (s.eng g.e).st = .running) ∧
    (∃ (s : State) (g : GeK), (List.range 4).any (fun q => bitOf g.imm q && decide (spGet [] (s.eng g.e).xq q ≠ [])) = true ∧ (s.eng g.e).st = .running) ∧
    (∃ (s : State) (g : GeK), GeReady s g.e 4 g.last g.ecc ∧ (List.range 4).any (fun q => bitOf g.imm q && decide (spGet [] (s.eng g.e).xq q ≠ [])) = false) ∧
    (∃ (s : State) (g : GeK) (j : Job), g.e < 18 ∧ (s.eng g.e).st = .running ∧ slotClash (s.eng g.e).bundle.slots 4 = false ∧ g.ecc ≠ 2 ∧ (s.eng g.e).job = some j ∧ dupWrites (s.eng g.e).bundle = false ∧ loopNext (s.eng g.e) = [] ∧ j.src = .firmware ∧ (s.eng g.e).cpl.length < 16) ∧
    (∃ (s : State) (g : GeK) (j : Job), g.e < 18 ∧ (s.eng g.e).st = .running ∧ slotClash (s.eng g.e).bundle.slots 4 = false ∧ g.ecc ≠ 2 ∧ (s.eng g.e).job = some j ∧ dupWrites (s.eng g.e).bundle = false ∧ loopNext (s.eng g.e) = [] ∧ (s.eng g.e).bundle.fin = none ∧ j.cls ≠ 0 ∧ (s.eng g.e).inPreempt = true ∧ g.imm % 2 ^ 13 < (s.eng g.e).codeSize) ∧
    (∃ (s : State) (g : GeC) (j : Job), g.e < 18 ∧ (s.eng g.e).st = .running ∧ slotClash (s.eng g.e).bundle.slots 0 = false ∧ g.last = true ∧ g.ecc ≠ 2 ∧ (s.eng g.e).job = some j ∧ dupWrites (s.eng g.e).bundle = false ∧ loopNext (s.eng g.e) = [] ∧ (s.eng g.e).bundle.fin = none ∧ (s.eng g.e).bundle.yieldTo = none ∧ (s.eng g.e).bundle.target = none ∧ (s.eng g.e).bundle.skip = none) ∧
    (∃ (s : State) (g : GeK), GeIssues s g.e 4 g.last g.ecc [] [] ∧ GeGoes s g.e) ∧
    (∃ (s : State) (g : GeK), GeIssues s g.e 4 g.last g.ecc [] [] ∧ g.imm % 2 ^ 13 < (s.eng g.e).codeSize) ∧
    (∃ (s : State) (g : GeK), GeIssues s g.e 4 g.last g.ecc [] [] ∧ bitOf ((s.eng g.e).cr 30) 0 = true ∧ g.imm % 2 ^ 13 < (s.eng g.e).codeSize) ∧
    (∃ (s : State) (g : GeK), GeIssues s g.e 4 g.last g.ecc [] [] ∧ GeGoes s g.e ∧ bitOf ((s.eng g.e).cr 30) 0 = false) ∧
    (∃ (s : State) (g : GeK), GeIssues s g.e 4 g.last g.ecc [] [] ∧ bitOf ((s.eng g.e).cr 30) 0 = false ∧ g.imm % 2 ^ 13 < (s.eng g.e).codeSize) ∧
    (∃ (s : State) (g : GeK), GeIssues s g.e 4 g.last g.ecc [] [] ∧ GeGoes s g.e ∧ bitOf ((s.eng g.e).cr 30) 0 = true) ∧
    (∃ (s : State) (g : GeK), GeIssues s g.e 4 g.last g.ecc [] [] ∧ bitOf ((s.eng g.e).cr 30) 1 = true ∧ g.imm % 2 ^ 13 < (s.eng g.e).codeSize) ∧
    (∃ (s : State) (g : GeK), GeIssues s g.e 4 g.last g.ecc [] [] ∧ GeGoes s g.e ∧ bitOf ((s.eng g.e).cr 30) 1 = false) ∧
    (∃ (s : State) (g : GeK), GeIssues s g.e 4 g.last g.ecc [] [] ∧ bitOf ((s.eng g.e).cr 30) 1 = false ∧ g.imm % 2 ^ 13 < (s.eng g.e).codeSize) ∧
    (∃ (s : State) (g : GeK), GeIssues s g.e 4 g.last g.ecc [] [] ∧ GeGoes s g.e ∧ bitOf ((s.eng g.e).cr 30) 1 = true) ∧
    (∃ (s : State) (g : GeK), GeIssues s g.e 4 g.last g.ecc [] [] ∧ (s.eng g.e).rstack.length < 4 ∧ g.imm % 2 ^ 13 < (s.eng g.e).codeSize) ∧
    (∃ (s : State) (g : GeK) (a : Nat) (rest : List Nat), GeIssues s g.e 4 g.last g.ecc [] [] ∧ (s.eng g.e).rstack = a :: rest ∧ a < (s.eng g.e).codeSize) ∧
    (∃ (s : State) (g : GeK) (le : Nat), GeIssues s g.e 4 g.last g.ecc [(90, 1), (92, 1), (88, 1)] [] ∧ GeGoes s g.e ∧ le = (s.eng g.e).pc + 1 + bitsOf g.imm 28 16 ∧ le < (s.eng g.e).codeSize ∧ g.imm % 2 ^ 16 ≠ 0 ∧ (((s.eng g.e).cr 25 = 0 ∨ (s.eng g.e).cr 29 ≠ le))) ∧
    (∃ (s : State) (g : GeK) (le : Nat), GeIssues s g.e 4 g.last g.ecc [(90, 1), (92, 1), (88, 1)] [] ∧ le = (s.eng g.e).pc + 1 + bitsOf g.imm 28 16 ∧ le < (s.eng g.e).codeSize ∧ g.imm % 2 ^ 16 = 0 ∧ (s.eng g.e).bundle.target = none) ∧
    (∃ (s : State) (g : GeK) (le : Nat), GeIssues s g.e 4 g.last g.ecc [(91, 1), (93, 1), (89, 1)] [] ∧ GeGoes s g.e ∧ le = (s.eng g.e).pc + 1 + bitsOf g.imm 28 16 ∧ le < (s.eng g.e).codeSize ∧ g.imm % 2 ^ 16 ≠ 0 ∧ (((s.eng g.e).cr 24 = 0 ∨ (s.eng g.e).cr 28 ≠ le))) ∧
    (∃ (s : State) (g : GeK) (le : Nat), GeIssues s g.e 4 g.last g.ecc [(91, 1), (93, 1), (89, 1)] [] ∧ le = (s.eng g.e).pc + 1 + bitsOf g.imm 28 16 ∧ le < (s.eng g.e).codeSize ∧ g.imm % 2 ^ 16 = 0 ∧ (s.eng g.e).bundle.target = none) ∧
    (∃ (s : State) (g : GeK) (le : Nat), GeIssues s g.e 4 g.last g.ecc [(90, 1), (92, 1), (88, 1)] [] ∧ GeGoes s g.e ∧ le = (s.eng g.e).pc + 1 + bitsOf g.imm 28 16 ∧ le < (s.eng g.e).codeSize ∧ (s.eng g.e).dr g.imm % 2 ^ 16 ≠ 0 ∧ (((s.eng g.e).cr 25 = 0 ∨ (s.eng g.e).cr 29 ≠ le))) ∧
    (∃ (s : State) (g : GeK) (le : Nat), GeIssues s g.e 4 g.last g.ecc [(90, 1), (92, 1), (88, 1)] [] ∧ le = (s.eng g.e).pc + 1 + bitsOf g.imm 28 16 ∧ le < (s.eng g.e).codeSize ∧ (s.eng g.e).dr g.imm % 2 ^ 16 = 0 ∧ (s.eng g.e).bundle.target = none) ∧
    (∃ (s : State) (g : GeK) (le : Nat), GeIssues s g.e 4 g.last g.ecc [(91, 1), (93, 1), (89, 1)] [] ∧ GeGoes s g.e ∧ le = (s.eng g.e).pc + 1 + bitsOf g.imm 28 16 ∧ le < (s.eng g.e).codeSize ∧ (s.eng g.e).dr g.imm % 2 ^ 16 ≠ 0 ∧ (((s.eng g.e).cr 24 = 0 ∨ (s.eng g.e).cr 28 ≠ le))) ∧
    (∃ (s : State) (g : GeK) (le : Nat), GeIssues s g.e 4 g.last g.ecc [(91, 1), (93, 1), (89, 1)] [] ∧ le = (s.eng g.e).pc + 1 + bitsOf g.imm 28 16 ∧ le < (s.eng g.e).codeSize ∧ (s.eng g.e).dr g.imm % 2 ^ 16 = 0 ∧ (s.eng g.e).bundle.target = none) ∧
    (∃ (s : State) (g : GeK), GeIssues s g.e 4 g.last g.ecc [] [] ∧ GeGoes s g.e) ∧
    (∃ (s : State) (g : GeK), GeIssues s g.e 4 g.last g.ecc [] [] ∧ GeGoes s g.e) ∧
    (∃ (s : State) (g : GeK), GeIssues s g.e 4 g.last g.ecc [] [] ∧ (s.eng g.e).ira < (s.eng g.e).codeSize) ∧
    (∃ (s : State) (g : GeK) (q : Nat) (d : GeXfer), GeIssues s g.e 4 g.last g.ecc [] [] ∧ GeGoes s g.e ∧ q = bitsOf g.imm 21 20 ∧ (spGet [] (s.eng g.e).xq q).length < 4 ∧ xferAt (s.eng g.e) (g.imm % 2 ^ 18) = some d) ∧
    (∃ (s : State) (g : GeK), GeIssues s g.e 4 g.last g.ecc [] [] ∧ GeGoes s g.e ∧ (List.range 4).any (fun q => bitOf g.imm q && decide (spGet [] (s.eng g.e).xq q ≠ [])) = false) :=
  ⟨⟨sGe, ⟨17, 5, false, 0⟩, by decide +kernel⟩,
   ⟨sGe, ⟨17, 5, false, 0⟩, by decide +kernel⟩,
   ⟨sGe, ⟨17, 5, false, 0⟩, by decide +kernel⟩,
   ⟨sGe, ⟨17, 5, false, 0⟩, by decide +kernel⟩,
   ⟨sGe, ⟨17, 5, false, 0⟩, by decide +kernel⟩,
   ⟨sGe, ⟨17, 5, false, 0⟩, by decide +kernel⟩,
   ⟨sGe, ⟨17, 5, false, 0⟩, by decide +kernel⟩,
   ⟨sGe.setEng 17 { sGe.eng 17 with rstack := [1, 2, 3, 4] }, ⟨17, 5, false, 0⟩, 1, [2, 3, 4], by decide +kernel⟩,
   ⟨sGe, ⟨17, 5 + 10 * 2 ^ 16, false, 0⟩, 16, by decide +kernel⟩,
   ⟨sGe, ⟨17, 5 + 10 * 2 ^ 16, false, 0⟩, 16, by decide +kernel⟩,
   ⟨sGe, ⟨17, 5 + 10 * 2 ^ 16, false, 0⟩, 16, by decide +kernel⟩,
   ⟨sGe, ⟨17, 5 + 10 * 2 ^ 16, false, 0⟩, 16, by decide +kernel⟩,
   ⟨sGe, ⟨17, 5, false, 0⟩, by decide +kernel⟩,
   ⟨sGe, ⟨17, 5, false, 0⟩, by decide +kernel⟩,
   ⟨sGe, ⟨17, 5, false, 0⟩, by decide +kernel⟩,
   ⟨sGe.setEng 17 ((sGe.eng 17).store 12 [8, 0, 0, 0]), ⟨17, 3 * 2 ^ 20, false, 0⟩, 3, ⟨0, false, false, 0, 8, false⟩, by decide +kernel⟩,
   ⟨sGe.setEng 17 { sGe.eng 17 with xq := [(3, List.replicate 4 ⟨0, false, false, 0, 8, false⟩)] }, ⟨17, 3 * 2 ^ 20, false, 0⟩, 3, by decide +kernel⟩,
   ⟨sGe.setEng 17 { sGe.eng 17 with xq := [(3, [⟨0, false, false, 0, 8, false⟩])] }, ⟨17, 8, false, 0⟩, by decide +kernel⟩,
   ⟨sGe, ⟨17, 5, false, 0⟩, by decide +kernel⟩,
   ⟨sGeB, ⟨17, 127, false, 1⟩, job1, by decide +kernel⟩,
   ⟨sGeB.setEng 17 { sGeB.eng 17 with inPreempt := true, job := some { job1 with cls := 2 } }, ⟨17, 63, false, 1⟩, { job1 with cls := 2 }, by decide +kernel⟩,
   ⟨sGeB, ⟨17, 0, 0, 0, false, false, true, 1⟩, job1, by decide +kernel⟩,
   ⟨sGe, ⟨17, 5, true, 0⟩, by decide +kernel⟩,
   ⟨sGe, ⟨17, 5, true, 0⟩, by decide +kernel⟩,
   ⟨sGe.setEng 17 (eng1.setCr 30 1), ⟨17, 5, true, 0⟩, by decide +kernel⟩,
   ⟨sGe.setEng 17 (eng1.setCr 30 0), ⟨17, 5, true, 0⟩, by decide +kernel⟩,
   ⟨sGe.setEng 17 (eng1.setCr 30 0), ⟨17, 5, true, 0⟩, by decide +kernel⟩,
   ⟨sGe.setEng 17 (eng1.setCr 30 1), ⟨17, 5, true, 0⟩, by decide +kernel⟩,
   ⟨sGe.setEng 17 (eng1.setCr 30 2), ⟨17, 5, true, 0⟩, by decide +kernel⟩,
   ⟨sGe.setEng 17 (eng1.setCr 30 0), ⟨17, 5, true, 0⟩, by decide +kernel⟩,
   ⟨sGe.setEng 17 (eng1.setCr 30 0), ⟨17, 5, true, 0⟩, by decide +kernel⟩,
   ⟨sGe.setEng 17 (eng1.setCr 30 2), ⟨17, 5, true, 0⟩, by decide +kernel⟩,
   ⟨sGe, ⟨17, 5, true, 0⟩, by decide +kernel⟩,
   ⟨sGe.setEng 17 { sGe.eng 17 with rstack := [1, 2, 3, 4] }, ⟨17, 5, true, 0⟩, 1, [2, 3, 4], by decide +kernel⟩,
   ⟨sGe, ⟨17, 5 + 10 * 2 ^ 16, true, 0⟩, 16, by decide +kernel⟩,
   ⟨sGe, ⟨17, 10 * 2 ^ 16, true, 0⟩, 16, by decide +kernel⟩,
   ⟨sGe, ⟨17, 5 + 10 * 2 ^ 16, true, 0⟩, 16, by decide +kernel⟩,
   ⟨sGe, ⟨17, 10 * 2 ^ 16, true, 0⟩, 16, by decide +kernel⟩,
   ⟨sGe, ⟨17, 5 + 10 * 2 ^ 16, true, 0⟩, 16, by decide +kernel⟩,
   ⟨sGe, ⟨17, 10 * 2 ^ 16, true, 0⟩, 16, by decide +kernel⟩,
   ⟨sGe, ⟨17, 5 + 10 * 2 ^ 16, true, 0⟩, 16, by decide +kernel⟩,
   ⟨sGe, ⟨17, 10 * 2 ^ 16, true, 0⟩, 16, by decide +kernel⟩,
   ⟨sGe, ⟨17, 5, true, 0⟩, by decide +kernel⟩,
   ⟨sGe, ⟨17, 5, true, 0⟩, by decide +kernel⟩,
   ⟨sGe, ⟨17, 5, true, 0⟩, by decide +kernel⟩,
   ⟨sGe.setEng 17 ((sGe.eng 17).store 12 [8, 0, 0, 0]), ⟨17, 3 * 2 ^ 20, true, 0⟩, 3, ⟨0, false, false, 0, 8, false⟩, by decide +kernel⟩,
   ⟨sGe, ⟨17, 5, true, 0⟩, by decide +kernel⟩⟩

/-- The hypotheses of each clause of KernelFaultsEndTheJob. -/
theorem witness_kernel_faults_end_the_job :
    (∃ (s : State) (g : GeC) (j : Job), GeReady s g.e 0 g.last g.ecc ∧ (s.eng g.e).job = some j ∧ g.sa % 4 ≠ 0) ∧
    (∃ (s : State) (g : GeC) (j : Job), GeReady s g.e 0 g.last g.ecc ∧ (s.eng g.e).job = some j ∧ g.sb % 4 ≠ 0) ∧
    (∃ (s : State) (g : GeC) (j : Job), GeReady s g.e 0 g.last g.ecc ∧ (s.eng g.e).job = some j ∧ g.sb % 4 ≠ 0) ∧
    (∃ (s : State) (g : GeC) (j : Job), GeReady s g.e 0 g.last g.ecc ∧ (s.eng g.e).job = some j ∧ g.dst % 2 = 1) ∧
    (∃ (s : State) (g : GeM) (j : Job), GeReady s g.e (if g.y then 2 else 1) g.last g.ecc ∧ (s.eng g.e).job = some j ∧ g.reg % 2 = 1) ∧
    (∃ (s : State) (g : GeM) (j : Job), GeReady s g.e (if g.y then 2 else 1) g.last g.ecc ∧ (s.eng g.e).job = some j ∧ g.reg % 2 = 1) ∧
    (∃ (s : State) (g : GeM) (j : Job), GeReady s g.e (if g.y then 2 else 1) g.last g.ecc ∧ (s.eng g.e).job = some j ∧ (s.eng g.e).cr (g.ptr % 8) % 4 ≠ 0) ∧
    (∃ (s : State) (g : GeM) (j : Job), GeReady s g.e (if g.y then 2 else 1) g.last g.ecc ∧ (s.eng g.e).job = some j ∧ (s.eng g.e).cr (g.ptr % 8) % 4 ≠ 0) ∧
    (∃ (s : State) (g : GeM) (j : Job), GeReady s g.e (if g.y then 2 else 1) g.last g.ecc ∧ (s.eng g.e).job = some j ∧ (s.eng g.e).cr (g.ptr % 8) % 2 ≠ 0) ∧
    (∃ (s : State) (g : GeA) (j : Job), GeReady s g.e 3 g.last g.ecc ∧ (s.eng g.e).job = some j ∧ 4 ≤ g.t % 8) ∧
    (∃ (s : State) (g : GeA) (j : Job), GeReady s g.e 3 g.last g.ecc ∧ (s.eng g.e).job = some j ∧ 4 ≤ g.t % 8) ∧
    (∃ (s : State) (g : GeK) (j : Job), GeReady s g.e 4 g.last g.ecc ∧ (s.eng g.e).job = some j ∧ 4 ≤ (s.eng g.e).rstack.length) ∧
    (∃ (s : State) (g : GeK) (j : Job), GeReady s g.e 4 g.last g.ecc ∧ (s.eng g.e).job = some j ∧ (s.eng g.e).rstack = []) ∧
    (∃ (s : State) (g : GeC) (j : Job), g.e < 18 ∧ (s.eng g.e).st = .running ∧ slotClash (s.eng g.e).bundle.slots 0 = false ∧ g.ecc = 2 ∧ (s.eng g.e).job = some j) :=
  ⟨⟨sGe, ⟨17, 1, 1, 1, true, true, false, 0⟩, job1, by decide +kernel⟩,
   ⟨sGe, ⟨17, 1, 1, 1, true, true, false, 0⟩, job1, by decide +kernel⟩,
   ⟨sGe, ⟨17, 1, 1, 1, true, true, false, 0⟩, job1, by decide +kernel⟩,
   ⟨sGe, ⟨17, 1, 1, 1, true, true, false, 0⟩, job1, by decide +kernel⟩,
   ⟨sGe, ⟨17, false, 31, 1, 1, false, 0⟩, job1, by decide +kernel⟩,
   ⟨sGe, ⟨17, false, 31, 1, 1, false, 0⟩, job1, by decide +kernel⟩,
   ⟨sGe.setEng 17 ((sGe.eng 17).setCr 2 17), ⟨17, false, 30, 2, 1, false, 0⟩, job1, by decide +kernel⟩,
   ⟨sGe.setEng 17 ((sGe.eng 17).setCr 2 17), ⟨17, false, 30, 2, 1, false, 0⟩, job1, by decide +kernel⟩,
   ⟨sGe.setEng 17 ((sGe.eng 17).setCr 2 17), ⟨17, false, 30, 2, 1, false, 0⟩, job1, by decide +kernel⟩,
   ⟨sGe, ⟨17, 7, 31, false, 0⟩, job1, by decide +kernel⟩,
   ⟨sGe, ⟨17, 7, 31, false, 0⟩, job1, by decide +kernel⟩,
   ⟨sGe.setEng 17 { sGe.eng 17 with rstack := [1, 2, 3, 4] }, ⟨17, 7, false, 0⟩, job1, by decide +kernel⟩,
   ⟨sGe, ⟨17, 7, false, 0⟩, job1, by decide +kernel⟩,
   ⟨sGe, ⟨17, 1, 1, 1, true, true, false, 2⟩, job1, by decide +kernel⟩⟩

/-- The hypotheses of each clause of EngineJobCommandsComplete. -/
theorem witness_engine_job_commands_complete :
    (∃ (s : State) (e q : Nat) (d : GeXfer) (rest : List GeXfer), e < 18 ∧ q < 4 ∧ spGet [] (s.eng e).xq q = d :: rest ∧ d.out = false ∧ (fabRead s (.engine e) 4 d.faddr d.len).1 = 0) ∧
    (∃ (s : State) (e : Nat) (j : Job) (k : Kernel), e < 18 ∧ (s.eng e).st = .running ∧ (s.eng e).bundle.slots = [] ∧ bitOf ((s.eng e).cr 30) 2 = true ∧ (List.range 2).any (fun n => decide ((s.eng e).cr (24 + n) ≠ 0) && decide ((s.eng e).cr (28 + n) = (s.eng e).pc)) = false ∧ bitOf (s.eng e).irq 0 = true ∧ bitOf ((s.eng e).cr 30) 9 = true ∧ (s.eng e).job = some j ∧ (s.eng e).kernel j.slot = some k ∧ k.hPreempt < k.code) ∧
    (∃ (s : State) (tag e value : Nat), e < 18 ∧ s.tagDeviceOrD2 tag = true ∧ bitOf value 0 = true ∧ s.regOff .geDoorbell [e] = false) ∧
    (∃ (s : State) (tag e value : Nat) (k : Kernel), e < 18 ∧ s.tagDeviceOrD2 tag = true ∧ s.regOff .gePost [e] = false ∧ (s.eng e).queue.length + (if slotHeld s e .firmware = true then 1 else 0) < 16 ∧ (((s.eng e).st = .idle ∨ (s.eng e).st = .running)) ∧ (s.eng e).kernel (bitsOf value 3 0) = some k ∧ bitsOf value 6 4 < 5 ∧ ((bitsOf value 6 4 = 0 ∨ s.pwr.depth = 0)) ∧ bitOf k.classes (bitsOf value 6 4) = true) ∧
    (∃ (s : State) (tag e value : Nat), e < 18 ∧ s.tagDeviceOrD2 tag = true ∧ s.regOff .gePost [e] = false ∧ 16 ≤ (s.eng e).queue.length + (if slotHeld s e .firmware = true then 1 else 0)) ∧
    (∃ (s : State) (e r : Nat) (rel : Release), e < 18 ∧ r < 8 ∧ (s.eng e).rels[r]? = some rel ∧ rel.period ≠ 0 ∧ s.ctl.fwRuns = true ∧ s.engInService e = true) ∧
    (∃ (s : State) (e r : Nat), s.ctl.fwRuns = false) ∧
    (∃ (s : State) (e : Nat) (j : Job), e < 18 ∧ (s.eng e).st = .idle ∧ s.rollHolds e = false ∧ edf ((s.eng e).ready ++ (s.eng e).queue.filter (fun j => j.cls = 0)) = some j) ∧
    (∃ (s : State) (e c : Nat) (j : Job), e < 18 ∧ (s.eng e).preemptAt = some c ∧ (s.eng e).job = some j) ∧
    (∃ (s : State) (e : Nat) (j : Job) (k : Kernel), e < 18 ∧ (s.eng e).job = some j ∧ (s.eng e).kernel j.slot = some k) ∧
    (∃ (s : State) (e w : Nat) (rest : List Nat), e < 18 ∧ s.regOff .geCpl [e] = false ∧ (s.eng e).cpl = w :: rest) ∧
    (∃ (s : State) (e : Nat), e < 18 ∧ s.regOff .geCpl [e] = false ∧ (s.eng e).cpl = []) ∧
    (∃ (s : State) (r : Roll) (e : Nat) (rest : List Nat), s.ge.roll = some r ∧ r.todo = e :: rest ∧ e ∉ rest ∧ rest ≠ [] ∧ (s.eng e).st = .idle) ∧
    (∃ (s : State) (r : Roll) (e : Nat), s.ge.roll = some r ∧ r.todo = [e] ∧ (s.eng e).st = .idle) :=
  ⟨⟨sGe.setEng 17 { sGe.eng 17 with xq := [(3, [⟨0x0100000000, false, true, 0, 8, false⟩])] }, 17, 3, ⟨0x0100000000, false, true, 0, 8, false⟩, [], by decide +kernel⟩,
   ⟨sGe.setEng 17 { sGe.eng 17 with irq := 1 }, 17, job1, ker1, by decide +kernel⟩,
   ⟨s0, 4, 17, 1, by decide +kernel⟩,
   ⟨sGe, 4, 17, 1 + 2 ^ 64, ker1, by decide +kernel⟩,
   ⟨s0.setEng 17 { eng1 with queue := List.replicate 16 job1 }, 4, 17, 0, by decide +kernel⟩,
   ⟨{ s0.setEng 17 { eng1 with rels := List.replicate 8 ⟨1, 2, 100, 5⟩ } with ctl := { s0.ctl with fwRuns := true } }, 17, 7, ⟨1, 2, 100, 5⟩, by decide +kernel⟩,
   ⟨s0, 17, 7, by decide +kernel⟩,
   ⟨s0.setEng 17 { eng1 with st := .idle, job := none, queue := [job1, { job1 with deadline := 50 }] }, 17, { job1 with deadline := 50 }, by decide +kernel⟩,
   ⟨s0.setEng 17 { eng1 with preemptAt := some 3 }, 17, 3, job1, by decide +kernel⟩,
   ⟨sGe, 17, job1, ker1, by decide +kernel⟩,
   ⟨s0.setEng 17 { eng1 with cpl := [5, 6] }, 17, 5, [6], by decide +kernel⟩,
   ⟨s0, 17, by decide +kernel⟩,
   ⟨sRoll [17, 3], ⟨5, [17, 3], [], []⟩, 17, [3], by decide +kernel⟩,
   ⟨sRoll [17], ⟨5, [17], [], []⟩, 17, by decide +kernel⟩⟩

/-- The hypotheses of each clause of CalibrationCommandsComplete. -/
theorem witness_calibration_commands_complete :
    (∃ (s : State) (n : Nat) (e : EvtEntry), EventFires s n 11 e ∧ e.target < 64 ∧ (s.island (e.target / 8)).off = false ∧ s.calRunning e.target = false) ∧
    (∃ (s : State) (edges : Nat) (steer txo : Int), s.ptpLocked = true) ∧
    (∃ (s : State) (edges : Nat) (steer txo : Int), s.ptpLocked = false ∧ s.cal.written.length < 2) ∧
    (∃ (s : State) (p : Nat) (meas : TopMeas) (d item : Nat), p < 64 ∧ (s.top p).due = some (d, item) ∧ guardNow s = none) ∧
    (∃ (s : State) (p : Nat) (meas : TopMeas) (d gs ge w : Nat), p < 64 ∧ (s.top p).due = some (d, 1) ∧ guardNow s = some (gs, ge) ∧ w = max (d - 1) (max (gs + 80) (s.now - (s.clk.elapsed - s.rx.goodFrom))) ∧ s.rxLocked p = true ∧ w + 738 ≤ ge - 80 ∧ (∀ r ∈ s.cal.fg, r.path ≠ p)) ∧
    (∃ (s : State) (tag value : Nat), s.tagDeviceOrD2 tag = true ∧ bitOf value 0 = true ∧ s.regOff .calHrx [] = false) ∧
    (∃ (s : State) (τ : Nat), rf s .calHrxStat [] 1 0 = 1 ∧ s.ctl.fwRuns = true ∧ s.tlRuns = true ∧ (s.syn s.lo.rxServe).st = .locked ∧ injectionStart s = some τ ∧ s.askedAgain .calHrx [] 0 = false) ∧
    (∃ (s : State), rf s .calHrxStat [] 1 0 = 1 ∧ s.ctl.fwRuns = true ∧ s.tlRuns = true ∧ (s.syn s.lo.rxServe).st = .locked ∧ injectionStart s = none ∧ (∀ x ∈ s.pattern, x.dir ≠ 2)) ∧
    (∃ (s : State), s.ctl.fwRuns = true ∧ rbit s .calCtrl [] 6 = true ∧ s.cal.snaps.length < 16) ∧
    (∃ (s : State) (results : List HeartRes), s.ctl.fwRuns = true ∧ s.cal.snaps.length = 16 ∧ 4 ≤ s.cal.snaps.dedup.length) ∧
    (∃ (s : State) (item : Nat) (r : HeartRes), s.ctl.fwRuns = true ∧ item ∈ [0x10, 0x12, 0x13, 0x15] ∧ ((item = 0x12 → 16 ≤ (s.top r.path).count)) ∧ r.path < 64 ∧ s.calRunning r.path = false ∧ s.onum 0x7000 1 ≠ 1) ∧
    (∃ (s : State) (p item : Nat), p < 64 ∧ item ∈ calItems ∧ 0 < (s.calItem p item).last) ∧
    (∃ (s : State) (j : Nat), j ∈ s.cal.dirty) :=
  ⟨⟨sEvt 11 63 0x110, 4095, ⟨1000, true, 11, 63, 0x110⟩, by decide +kernel⟩,
   ⟨wbit s0 .tlStatus [] 1 true, 245760001, 5, 1600, by decide +kernel⟩,
   ⟨s0, 245760001, 5, 1600, by decide +kernel⟩,
   ⟨s0.setTop 63 { TopNote.reset with due := some (5, 1) }, 63, meas0, 5, 1, by decide +kernel⟩,
   ⟨sTop, 63, meas0, 5, 0, 4915200, 80, by decide +kernel⟩,
   ⟨s0, 4, 0x7F, by decide +kernel⟩,
   ⟨sHeart 2, 128, by decide +kernel⟩,
   ⟨sHeart 0, by decide +kernel⟩,
   ⟨{ wbit s0 .calCtrl [] 6 true with ctl := { s0.ctl with fwRuns := true } }, by decide +kernel⟩,
   ⟨{ s0 with ctl := { s0.ctl with fwRuns := true }, cal := { s0.cal with snaps := [1, 2, 3, 4, 4, 4, 4, 4, 4, 4, 4, 4, 4, 4, 4, 4] } }, [], by decide +kernel⟩,
   ⟨{ s0 with ctl := { s0.ctl with fwRuns := true } }, 0x13, ⟨63, ⟨[5], [6], [], [7000000]⟩, 200, []⟩, by decide +kernel⟩,
   ⟨s0.setCal 63 0x15 { CalItem.reset with last := 1 }, 63, 0x15, by decide +kernel⟩,
   ⟨{ s0 with cal := { s0.cal with dirty := [3, 7] } }, 7, by decide +kernel⟩⟩

/-- The hypotheses of each clause of ForegroundCommandsComplete. -/
theorem witness_foreground_commands_complete :
    (∃ (s : State) (p item : Nat), p < 64 ∧ 0x30 ≤ item ∧ item ≤ 0x32 ∧ (∀ r ∈ s.cal.fg, r.path ≠ p) ∧ s.cal.fg.length < 8 ∧ s.pathState p ≠ .off) ∧
    (∃ (s : State) (p item : Nat), p < 64 ∧ 0x30 ≤ item ∧ item ≤ 0x32) ∧
    (∃ (s : State) (p : Nat) (r : FgReq), s.cal.fg.find? (fun r => r.path = p ∧ ¬ r.running ∧ ¬ r.force) = some r) ∧
    (∃ (s : State) (p : Nat), s.onum 0x7030 2 ≠ 0 ∧ p < 64 ∧ bitOf (s.onum 0x7030 3) p = true ∧ p ∉ s.bm.held ∧ (∀ r ∈ s.cal.fg, r.path ≠ p) ∧ nextSymbol s.frameOfs s.refMu s.refEcp (max s.now (s.onum 0x7030 1)) < s.onum 0x7030 1 + s.onum 0x7030 2 * msTicks) ∧
    (∃ (s : State) (p : Nat) (r : FgReq) (results : List (Nat × CalMeas)), s.cal.fg.find? (fun r => r.path = p ∧ r.running) = some r) ∧
    (∃ (s : State) (p : Nat) (r : FgReq) (results : List (Nat × CalMeas)), s.cal.fg.find? (fun r => r.path = p ∧ r.running) = some r ∧ r.force = true ∧ r.auto = true) ∧
    (∃ (s : State) (p : Nat) (r : FgReq) (results : List (Nat × CalMeas)), s.cal.fg.find? (fun r => r.path = p ∧ r.running) = some r ∧ r.item = 0x30 ∧ r.force = true ∧ r.auto = false) :=
  ⟨⟨{ s0 with tl := { s0.tl with path := [(63, .rx)] } }, 63, 0x32, by decide +kernel⟩,
   ⟨s0, 63, 0x30, by decide +kernel⟩,
   ⟨{ s0 with cal := { s0.cal with fg := [⟨63, 0x30, false, false, 0, false⟩] } }, 63, ⟨63, 0x30, false, false, 0, false⟩, by decide +kernel⟩,
   ⟨((s0.setObj 0x7030 1 (.num 0)).setObj 0x7030 2 (.num 5)).setObj 0x7030 3 (.num (2 ^ 63)), 63, by decide +kernel⟩,
   ⟨{ s0 with cal := { s0.cal with fg := [⟨63, 0x32, false, false, 0, true⟩] } }, 63, ⟨63, 0x32, false, false, 0, true⟩, [], by decide +kernel⟩,
   ⟨{ s0 with cal := { s0.cal with fg := [⟨63, 0x32, true, true, 0, true⟩] } }, 63, ⟨63, 0x32, true, true, 0, true⟩, [], by decide +kernel⟩,
   ⟨{ s0 with cal := { s0.cal with fg := [⟨63, 0x30, true, false, 0, true⟩] } }, 63, ⟨63, 0x30, true, false, 0, true⟩, [], by decide +kernel⟩⟩

/-- The hypotheses of each clause of LinkDataCommandsComplete. -/
theorem witness_link_data_commands_complete :
    (∃ (s : State) (f : LnkFrame) (b : List Byte) (h : SecHdr) (air : Nat), FrameOk s f 0 ∧ b = frameBody f ∧ h = secHdrOf (b.drop 4) ∧ h.tenant = f.port ∧ s.ccOwner h.cc = f.port ∧ 14 ≤ b.length ∧ sectionOk s b h (s.bfLayers h.cc 0) = true ∧ b.length = 14 + h.count * compBytes h.comp ∧ air = nearestAir s.frameOfs (s.ccMu h.cc) (s.ccEcp h.cc) h.frame h.slot h.symbol f.tick ∧ air ≤ f.tick + rf s .lnkCcWin [h.cc] 22 0 ∧ f.tick + rf s .lnkCcWin [h.cc] 54 32 ≤ air ∧ s.dlOn h.cc = true) ∧
    (∃ (s : State) (f : LnkFrame), FrameOk s f 0 ∧ (secHdrOf ((frameBody f).drop 4)).tenant ≠ f.port) ∧
    (∃ (s : State) (f : LnkFrame) (c : Nat), f.port < 4 ∧ s.portUp f.port = true ∧ frameCheck s f 0 = c ∧ c ≠ 0 ∧ c ≠ 16) ∧
    (∃ (s : State) (cc air i st : Nat) (e : PatEntry), cc < 8 ∧ s.dlOn cc = true ∧ air = s.now + rf s .lnkCcWin [cc] 54 32 ∧ nextSymbol s.frameOfs (s.ccMu cc) (s.ccEcp cc) air = air ∧ spGet 0 s.clk.seen (202 * 65536 + cc) ≠ s.clk.elapsed + 1 ∧ patFind s.pattern 0 0 (patPos s.pattern s.frameOfs air) = some (i, st, e) ∧ e.dir = 0 ∧ 0 < s.ccN cc ∧ (∀ x ∈ spGet [] s.lnk.dl cc, x.tick ≠ air)) ∧
    (∃ (s : State) (cc : Nat), cc < 8 ∧ (spGet UlSym.none_ s.lnk.ul cc).kind ≠ 0 ∧ s.portUp (s.ccOwner cc) = true) ∧
    (∃ (s : State) (cc : Nat), cc < 8 ∧ (spGet UlSym.none_ s.lnk.ul cc).kind ≠ 0 ∧ s.portUp (s.ccOwner cc) = false) ∧
    (∃ (s : State) (j : Nat), j < 4 ∧ (spGet UlSym.none_ s.lnk.prach j).kind ≠ 0) ∧
    (∃ (s : State) (f : LnkFrame) (b : List Byte) (h : SecHdr) (rtc air : Nat), FrameOk s f 2 ∧ FramePaid s f ∧ b = frameBody f ∧ b.length = 14 ∧ rtc = beAt b 0 2 ∧ h = secHdrOf (sliceBytes b 4 10) ∧ bitsOf rtc 15 14 = f.port ∧ s.ccOwner (bitsOf rtc 13 11) = f.port ∧ setBits (rtc % 2048) 8 8 0 = 0 ∧ beAt b 3 1 = 128 ∧ h.tenant = f.port ∧ h.kind = 0 ∧ h.cc = bitsOf rtc 13 11 ∧ 0 < h.count ∧ h.count ≤ 275 ∧ h.start + h.count ≤ s.ccN h.cc ∧ h.stream < s.bfLayers h.cc 1 ∧ symbolExists (s.ccMu h.cc) (s.ccEcp h.cc) h.slot h.symbol = true ∧ air = nearestAir s.frameOfs (s.ccMu h.cc) (s.ccEcp h.cc) h.frame h.slot h.symbol f.tick ∧ air ≤ f.tick + frameTicks ∧ s.ulOn h.cc = true ∧ f.tick + 4096 ≤ air + symLenAt s.frameOfs (s.ccMu h.cc) (s.ccEcp h.cc) air - s.ccWinOfs h.cc * 2 ^ s.ccHalfbands h.cc + 8192) ∧
    (∃ (s : State) (f : LnkFrame), FrameOk s f 2 ∧ (s.port f.port).tokens + (s.clk.elapsed + (f.tick - s.clk.count)) * 125000 < f.len * 491520) ∧
    (∃ (s : State) (f : LnkFrame) (b : List Byte) (cc : Nat), FrameOk s f 3 ∧ beAt (frameBody f) 0 1 = 2 ∧ b = (frameBody f).drop 8 ∧ cc = bitsOf (beAt b 0 1) 7 5 ∧ s.ccOwner cc = f.port ∧ bitsOf (beAt b 0 1) 4 4 = 0 ∧ bitsOf (beAt b 1 1) 7 7 = 0 ∧ 1 ≤ beAt b 4 1 ∧ beAt b 4 1 ≤ 32 ∧ b.length = 8 + 256 * beAt b 4 1 ∧ bitsOf (beAt b 0 1) 3 0 < s.bfLayers cc 0 ∧ beAt b 2 2 + beAt b 4 1 ≤ s.bfNg cc ∧ s.dlOn cc = true) ∧
    (∃ (s : State) (f : LnkFrame), FrameOk s f 3 ∧ beAt (frameBody f) 0 1 ≠ 1 ∧ beAt (frameBody f) 0 1 ≠ 2) ∧
    (∃ (s : State) (b : Nat), 128 ≤ b ∧ b < 256 ∧ (s.buf b).st = .full ∧ rf s .capDesc [(s.buf b).path / 8, b] 60 58 < 4 ∧ s.onum (0x9100 + b) 1 = 1 ∧ s.portUp (rf s .capDesc [(s.buf b).path / 8, b] 60 58) = true ∧ earlierWork s 3 = false ∧ streamTurn s (rf s .capDesc [(s.buf b).path / 8, b] 60 58) = some b ∧ s.onum (0x9040 + rf s .capDesc [(s.buf b).path / 8, b] 60 58) 1 ≠ 0) :=
  ⟨⟨wr sLnk .lnkCcWin [7] (9000 + 0 * 2 ^ 32), { frm 0 ([0xF8, 0, 1, 128] ++ [0xF8, 0, 0, 0x02, 0, 0, 0x40, 0, 0, 5] ++ List.replicate 25 0) with tick := 0 }, [0xF8, 0, 1, 128] ++ [0xF8, 0, 0, 0x02, 0, 0, 0x40, 0, 0, 5] ++ List.replicate 25 0, secHdrOf [0xF8, 0, 0, 0x02, 0, 0, 0x40, 0, 0, 5], nearestAir 0 0 false 0 0 0 0, by decide +kernel⟩,
   ⟨sLnk, frm 0 (List.replicate 20 0), by decide +kernel⟩,
   ⟨sLnk, { frm 0 [] with fcsOk := false }, 1, by decide +kernel⟩,
   ⟨wf { sRun 0 with objs := sLnk.objs } .lnkCcWin [7] 54 32 0, 7, 0, 0, 0, ⟨4915200, 0, false⟩, by decide +kernel⟩,
   ⟨sUl 1, 7, by decide +kernel⟩,
   ⟨{ sUl 1 with regs := [] }, 7, by decide +kernel⟩,
   ⟨sUl 1, 3, by decide +kernel⟩,
   ⟨wbit sLnk .bfCcCfg [7] 9 false, frm 2 ([0xF8, 0, 1, 128] ++ [0xF8, 0, 0, 0, 0, 0, 0x40, 0, 0, 5]), [0xF8, 0, 1, 128] ++ [0xF8, 0, 0, 0, 0, 0, 0x40, 0, 0, 5], secHdrOf [0xF8, 0, 0, 0, 0, 0, 0x40, 0, 0, 5], 0xF800, nearestAir 0 0 false 0 0 0 5, by decide +kernel⟩,
   ⟨sLnk.setPort 3 { Port.reset with tokens := 0 }, { frm 2 [] with len := 70 }, by decide +kernel⟩,
   ⟨sLnk, frm 3 ([2, 0, 0, 0, 0, 0, 0, 0] ++ (0xE0 :: 0 :: 0 :: 0 :: 1 :: List.replicate 259 0)), 0xE0 :: 0 :: 0 :: 0 :: 1 :: List.replicate 259 0, 7, by decide +kernel⟩,
   ⟨sLnk, frm 3 [0], by decide +kernel⟩,
   ⟨wf (((sLnk.setObj 0x91FF 1 (.num 1)).setObj 0x9043 1 (.num 100)).setBuf 255 { CapBuf.reset with st := .full, path := 63, n := 4096 }) .capDesc [7, 255] 60 58 3, 255, by decide +kernel⟩⟩

/-- The hypotheses of each clause of LinkMessageCommandsComplete. -/
theorem witness_link_message_commands_complete :
    (∃ (s : State) (f : LnkFrame), FrameOk s f 5 ∧ FramePaid s f ∧ beAt (frameBody f) 1 1 = 0) ∧
    (∃ (s : State) (f : LnkFrame), FrameOk s f 5 ∧ FramePaid s f ∧ beAt (frameBody f) 1 1 = 1) ∧
    (∃ (s : State) (f : LnkFrame) (x : Nat × Nat), FrameOk s f 5 ∧ FramePaid s f ∧ beAt (frameBody f) 1 1 = 5 ∧ (s.port f.port).pending5.find? (fun x => x.1 = beAt (frameBody f) 0 1) = some x) ∧
    (∃ (s : State) (f : LnkFrame), FrameOk s f 5 ∧ FramePaid s f ∧ ((beAt (frameBody f) 1 1 = 3 ∨ beAt (frameBody f) 1 1 = 4))) ∧
    (∃ (s : State) (n : Nat) (q : Nat × Nat × Nat × Bool) (rest : List (Nat × Nat × Nat × Bool)), n < 4 ∧ s.portUp n = true ∧ (s.port n).queue = q :: rest ∧ q.1 ≠ 132 ∧ q.1 ≠ 133) ∧
    (∃ (s : State) (f : LnkFrame), FrameOk s f 7 ∧ FramePaid s f ∧ beAt (frameBody f) 1 1 = 1) ∧
    (∃ (s : State) (n id : Nat) (x : Indication), n < 4 ∧ (s.port n).unacked.find? (fun x => x.id = id) = some x ∧ x.tries < 3) ∧
    (∃ (s : State) (n id : Nat) (x : Indication), n < 4 ∧ (s.port n).unacked.find? (fun x => x.id = id) = some x ∧ 3 ≤ x.tries) ∧
    (∃ (s : State) (f : LnkFrame), FrameOk s f 7 ∧ FramePaid s f ∧ beAt (frameBody f) 1 1 = 3 ∧ (∀ c ∈ s.evt.cond, (entitled s c.1 c.2.1 f.port && evtEnabled s c.1 f.port) = false)) :=
  ⟨⟨sLnk, frm 5 [9, 0], by decide +kernel⟩,
   ⟨sLnk, frm 5 [9, 1], by decide +kernel⟩,
   ⟨sInd 0, frm 5 [9, 5], (9, 77), by decide +kernel⟩,
   ⟨sLnk, frm 5 [9, 4], by decide +kernel⟩,
   ⟨sInd 0, 3, (7, 8, 1, false), [], by decide +kernel⟩,
   ⟨sInd 0, frm 7 [9, 1], by decide +kernel⟩,
   ⟨sInd 2, 3, 9, ⟨9, 1, 2, 3, false, 0, 2⟩, by decide +kernel⟩,
   ⟨sInd 3, 3, 9, ⟨9, 1, 2, 3, false, 0, 3⟩, by decide +kernel⟩,
   ⟨sLnk, frm 7 [9, 3], by decide +kernel⟩⟩

/-- The hypotheses of each clause of LinkTimingCommandsComplete. -/
theorem witness_link_timing_commands_complete :
    (∃ (s : State) (n : Nat) (aligned sa : Bool), n < 4 ∧ n < s.tenants) ∧
    (∃ (s : State) (n an : Nat), n < 4 ∧ an < 4 ∧ rbit s .lnkPortMsec [n] 0 = true ∧ s.hasCak n = true ∧ ((rbit s .lnkPortStat [n] 2 = false ∨ rf s .lnkPortStat [n] 4 3 ≠ an))) ∧
    (∃ (s : State) (q : Int), s.lnk.master ≠ none ∧ s.ptpLocked = false ∧ Int.natAbs q ≤ 200 ∧ 63 ≤ s.lnk.good) ∧
    (∃ (s : State) (q : Int), s.lnk.master ≠ none ∧ s.ptpLocked = true ∧ 800 < Int.natAbs q ∧ 15 ≤ s.lnk.bad) ∧
    (∃ (s : State) (n cls id : Nat), n < 4 ∧ rbit s .lnkPortCfg [n] 24 = true) ∧
    (∃ (s : State), rbit s .tlStatus [] 2 = false) ∧
    (∃ (s : State), rbit s .lnkSynceCfg [] 0 = true ∧ s.synceLocked = true) ∧
    (∃ (s : State), rbit s .lnkSynceCfg [] 0 = true ∧ s.synceLocked = true ∧ qlBad s = true) ∧
    (∃ (s : State), rbit s .lnkSynceCfg [] 0 = true ∧ s.synceLocked = false ∧ s.portUp (rf s .lnkSynceCfg [] 3 2) = true ∧ qlBad s = false) ∧
    (∃ (s : State) (n : Nat), n < 4 ∧ s.portUp n = true) ∧
    (∃ (s : State) (ql : Nat), rf s .lnkSynceStat [] 5 2 ≠ ql % 16) ∧
    (∃ (s : State), rbit s .lnkPps [] 0 = true ∧ s.pwr.linkIdle = false) ∧
    (∃ (s : State) (tick : Nat), rbit s .lnkPps [] 1 = false) ∧
    (∃ (s : State) (tick : Nat), rbit s .lnkPps [] 1 = true) ∧
    (∃ (s : State), 0 < s.lnk.ppsAt) ∧
    (∃ (s : State) (lane k n sp : Nat), lane < 9 ∧ (List.range 8).find? (fun k => physLane s k = lane) = some k ∧ laneState s lane = 1 ∧ (List.range 4).find? (fun n => k ∈ portLanes s n) = some n ∧ (List.range 9).find? (fun x => decide (laneState (setLaneState s lane 3) x = 2) && s.lnk.moves.all (fun m => decide (m.spare ≠ x))) = some sp ∧ rbit s .lnkPortCfg [n] 40 = true) ∧
    (∃ (s : State) (n : Nat) (m : LaneMove) (lost : Nat), s.lnk.moves.find? (fun m => m.port = n ∧ m.txDone ∧ m.rxDone) = some m ∧ m.logical < 8 ∧ m.spare < 9) ∧
    (∃ (s : State) (n : Nat) (m : LaneMove), s.lnk.moves.find? (fun m => m.port = n) = some m) ∧
    (∃ (s : State) (lane : Nat), lane < 9 ∧ laneState s lane = 3) :=
  ⟨⟨{ s0 with straps := ⟨0, 255, 4⟩ }, 3, true, true, by decide +kernel⟩,
   ⟨{ s0 with nv := { s0.nv with keys := [(10, 0, [1, 2])] } }, 3, 3, by decide +kernel⟩,
   ⟨{ s0 with lnk := { s0.lnk with master := some 5, good := 63 } }, (-200), by decide +kernel⟩,
   ⟨{ wbit s0 .tlStatus [] 1 true with lnk := { s0.lnk with master := some 5, bad := 15 } }, (-801), by decide +kernel⟩,
   ⟨wbit s0 .lnkPortCfg [3] 24 true, 3, 255, 77, by decide +kernel⟩,
   ⟨wbit s0 .tlStatus [] 1 true, by decide +kernel⟩,
   ⟨wf (wbit s0 .lnkSynceCfg [] 0 true) .lnkSynceStat [] 1 0 1, by decide +kernel⟩,
   ⟨wf (wf (wbit s0 .lnkSynceCfg [] 0 true) .lnkSynceStat [] 1 0 1) .lnkSynceStat [] 5 2 15, by decide +kernel⟩,
   ⟨wbit (wf (wbit s0 .lnkSynceCfg [] 0 true) .lnkSynceStat [] 1 0 2) .lnkPortStat [0] 0 true, by decide +kernel⟩,
   ⟨sLnk, 3, by decide +kernel⟩,
   ⟨s0, 31, by decide +kernel⟩,
   ⟨wbit s0 .lnkPps [] 0 true, by decide +kernel⟩,
   ⟨s0, 1000, by decide +kernel⟩,
   ⟨{ wbit s0 .lnkPps [] 1 true with lnk := { s0.lnk with tod := some 5 } }, 1000, by decide +kernel⟩,
   ⟨{ s0 with lnk := { s0.lnk with ppsAt := 1 } }, by decide +kernel⟩,
   ⟨sLane, 7, 7, 0, 8, by decide +kernel⟩,
   ⟨sMove, 3, ⟨3, 7, 2, 8, 0, true, true⟩, 5, by decide +kernel⟩,
   ⟨sMove, 3, ⟨3, 7, 2, 8, 0, true, true⟩, by decide +kernel⟩,
   ⟨setLaneState s0 8 3, 8, by decide +kernel⟩⟩

/-- The hypotheses of each clause of MemoryCommandsComplete. -/
theorem witness_memory_commands_complete :
    (∃ (s : State) (port tag addr n : Nat), port < 46 ∧ sramBase ≤ addr ∧ addr + n ≤ sramBase + sramSize ∧ 0 < n ∧ n ≤ 1024 ∧ (addr - sramBase + n - 1) / 0x80000 = bankOfOffset (addr - sramBase) ∧ tag < 5 ∧ s.sramAllowed (portMaster port) tag none (bankOfOffset (addr - sramBase)) = true ∧ portServed s port (bankOfOffset (addr - sramBase)) = true ∧ (s.island 12).off = false ∧ (s.physBank (bankOfOffset (addr - sramBase))).isSome = true) ∧
    (∃ (s : State) (port tag addr : Nat) (b : List Byte), port < 46 ∧ sramBase ≤ addr ∧ addr + b.length ≤ sramBase + sramSize ∧ 0 < b.length ∧ b.length ≤ 1024 ∧ (addr - sramBase + b.length - 1) / 0x80000 = bankOfOffset (addr - sramBase) ∧ s.sramAllowed (portMaster port) tag none (bankOfOffset (addr - sramBase)) = true ∧ portServed s port (bankOfOffset (addr - sramBase)) = true ∧ (s.island 12).off = false ∧ (s.physBank (bankOfOffset (addr - sramBase))).isSome = true) ∧
    (∃ (s : State) (port tag addr : Nat) (b : List Byte), port < 46 ∧ sramBase ≤ addr ∧ addr + b.length ≤ sramBase + sramSize ∧ 0 < b.length ∧ b.length ≤ 1024 ∧ (addr - sramBase + b.length - 1) / 0x80000 = bankOfOffset (addr - sramBase) ∧ s.sramAllowed (portMaster port) tag none (bankOfOffset (addr - sramBase)) = false) ∧
    (∃ (s : State) (a : Nat) (ports : List Nat) (beats w : Nat), a < 96 ∧ bankClosed s a = false ∧ arbPick s.portLevel (spGet Arb.reset s.mem.arb a).last (ports.filter (fun q => q < 46 ∧ ¬ s.portMasked q)) = some w) ∧
    (∃ (s : State) (w b : Nat), rbit s .memCtrl [] 0 = true ∧ (s.island 12).off = false ∧ 8 * w < sramSize ∧ s.physBank (bankOfOffset (8 * w)) = some b ∧ w ∉ s.mem.poison) ∧
    (∃ (s : State) (w b : Nat), rbit s .memCtrl [] 0 = true ∧ (s.island 12).off = false ∧ 8 * w < sramSize ∧ s.physBank (bankOfOffset (8 * w)) = some b) ∧
    (∃ (s : State) (b row : Nat), b < 100 ∧ row < 512 ∧ bankState s b = 0 ∧ rowNeeds s b row = true ∧ rf s .memBankStat [b] 12 9 < 8) ∧
    (∃ (s : State) (b n : Nat), b < 100 ∧ b ∈ s.mem.due ∧ bankState s b = 0 ∧ spareBank s = some n) ∧
    (∃ (s : State) (b n : Nat), s.mem.migr.find? (fun p => p.1 = b) = some (b, n) ∧ b < 100 ∧ n < 100 ∧ b ≠ n) ∧
    (∃ (s : State) (b n : Nat), b < 96 ∧ bankState s b = 0 ∧ spareBank s = some n) ∧
    (∃ (s : State) (b : Nat), b < 96 ∧ bankState s b = 0 ∧ spareBank s = none) ∧
    (∃ (s : State) (tag value : Nat), s.regOff .memLock [] = false ∧ s.tagDeviceOrD2 tag = true ∧ bitOf value 48 = true ∧ bitOf value 47 = false ∧ s.mem.lock = none ∧ lockOrdered none (lockOfWord value) = true ∧ setFree s (lockOfWord value) = true) ∧
    (∃ (s : State) (tag value : Nat), s.regOff .memLock [] = false ∧ s.tagDeviceOrD2 tag = true ∧ bitOf value 48 = true ∧ bitOf value 47 = false ∧ lockOrdered s.mem.lock (lockOfWord value) = false) ∧
    (∃ (s : State) (tag value : Nat), s.regOff .memLock [] = false ∧ s.tagDeviceOrD2 tag = true ∧ bitOf value 48 = true ∧ bitOf value 47 = true ∧ s.mem.lockWait = none) ∧
    (∃ (s : State) (a q : Nat), a < 96 ∧ q < 46 ∧ (spGet Arb.reset s.mem.arb a).busy = true ∧ (spGet Arb.reset s.mem.arb a).owner = some q) ∧
    (∃ (s : State) (l : LockSet), s.mem.lock = some l) :=
  ⟨⟨{ s0 with mem := { s0.mem with data := [(23 * 0x80000 + 5, 7)] } }, 45, 4, sramBase + 23 * 0x80000 + 5, 3, by decide +kernel⟩,
   ⟨s0, 45, 4, sramBase + 23 * 0x80000 + 5, [1, 2, 3], by decide +kernel⟩,
   ⟨s0, 0, 3, sramBase, [1, 2, 3], by decide +kernel⟩,
   ⟨s0, 95, [45], 20, 45, by decide +kernel⟩,
   ⟨sScrub, 1, 0, by decide +kernel⟩,
   ⟨sScrub, 1, 0, by decide +kernel⟩,
   ⟨{ s0 with mem := { s0.mem with poison := [0x5F0000 + 65535] } }, 95, 511, by decide +kernel⟩,
   ⟨{ s0 with mem := { s0.mem with due := [95] } }, 95, 96, by decide +kernel⟩,
   ⟨{ s0 with mem := { s0.mem with migr := [(5, 99)] } }, 5, 99, by decide +kernel⟩,
   ⟨s0, 95, 96, by decide +kernel⟩,
   ⟨{ s0 with regs := (List.range 4).foldl (fun s i => wf s .memBankStat [96 + i] 1 0 3) s0 |>.regs }, 95, by decide +kernel⟩,
   ⟨s0, 4, 2 ^ 48 + 2 ^ 46 + 95 * 2 ^ 36, by decide +kernel⟩,
   ⟨s0, 4, 2 ^ 48 + 2 ^ 46 + 96 * 2 ^ 36, by decide +kernel⟩,
   ⟨{ s0 with mem := { s0.mem with lock := some ⟨none, none, [5], 0⟩ } }, 4, 2 ^ 48 + 2 ^ 47, by decide +kernel⟩,
   ⟨{ s0 with mem := { s0.mem with arb := [(95, ⟨some 45, true, 3, 0, []⟩)] } }, 95, 45, by decide +kernel⟩,
   ⟨{ s0 with mem := { s0.mem with lock := some ⟨none, none, [5], 0⟩ } }, ⟨none, none, [5], 0⟩, by decide +kernel⟩⟩

/-- The hypotheses of each clause of RingCommandsComplete. -/
theorem witness_ring_commands_complete :
    (∃ (s : State) (n : Nat) (e : EvtEntry), EventFires s n 5 e ∧ (s.island 12).off = false ∧ e.target < 128 ∧ rbit s .dmaRingCfg [e.target] 6 = true ∧ ringSt s e.target = 1) ∧
    (∃ (s : State) (tag r value : Nat), s.regOff .dmaRingKick [r] = false ∧ s.tagDeviceOrD2 tag = true ∧ r < 128 ∧ bitOf value 0 = true ∧ ringSt s r = 1) ∧
    (∃ (s : State) (tag r value : Nat), s.regOff .dmaRingKick [r] = false ∧ s.tagDeviceOrD2 tag = true ∧ r < 128 ∧ bitOf value 0 = true ∧ ringSt s r = 0) ∧
    (∃ (s : State) (r b a : Nat) (d : Desc), RingCopies s r b a d ∧ d.full = true ∧ d.last = true ∧ rf s .dmaRingStat [r] 5 2 = 0) ∧
    (∃ (s : State) (r b a : Nat) (d : Desc), RingCopies s r b a d ∧ d.half = true ∧ d.len % 16 = 0) ∧
    (∃ (s : State) (r : Nat), r < 128 ∧ ringSt s r = 2 ∧ ringServed s r = true ∧ (fetchDesc s r).1 = 3) ∧
    (∃ (s : State) (r : Nat), r < 128) :=
  ⟨⟨wf (wbit (sEvt 5 127 0) .dmaRingCfg [127] 6 true) .dmaRingStat [127] 1 0 1, 4095, ⟨1000, true, 5, 127, 0⟩, by decide +kernel⟩,
   ⟨wf s0 .dmaRingStat [127] 1 0 1, 4, 127, 1, by decide +kernel⟩,
   ⟨s0, 4, 127, 1, by decide +kernel⟩,
   ⟨sRing, 127, 23, sramBase + 23 * 0x80000, desc0, by decide +kernel⟩,
   ⟨sRing, 127, 23, sramBase + 23 * 0x80000, desc0, by decide +kernel⟩,
   ⟨sRingBad, 127, by decide +kernel⟩,
   ⟨sRing, 127, by decide +kernel⟩⟩

/-- The hypotheses of each clause of DiongCommandsComplete. -/
theorem witness_diong_commands_complete :
    (∃ (s : State) (d : DHdr) (role : Role) (x : Session) (index sub : Nat), DiongAccepts s d 1 (objAddr index sub ++ [0]) role x ∧ (readAs (diongTaken s d) role d.transport d.session index sub).1 = 0 ∧ (readAs (diongTaken s d) role d.transport d.session index sub).2.2.1.length + 29 ≤ frameMax d.transport) ∧
    (∃ (s : State) (d : DHdr) (role : Role) (x : Session) (index sub : Nat), DiongAccepts s d 1 (objAddr index sub ++ [0]) role x ∧ objIndexDefined index = false) ∧
    (∃ (s : State) (d : DHdr) (role : Role) (index sub : Nat), DiongFrom s d 1 (objAddr index sub ++ [0]) role ∧ s.boot.loader = false ∧ s.session d.transport d.key d.session = none ∧ (s.diong.sessions.filter (fun x => x.transport = d.transport)).length < 16 ∧ objIndexDefined index = false) ∧
    (∃ (s : State) (d : DHdr) (role : Role) (x : Session) (index sub type : Nat) (value : List Byte) (r : ObjRow), DiongAccepts s d 2 (objAddr index sub ++ beBytes 1 type ++ value) role x ∧ writeGate (diongTaken s d) role index sub type value = .inr r ∧ isCounter index sub = false ∧ badRange (diongTaken s d) r index sub value = false ∧ r.acc role = .rws ∧ (index < 0xA100 ∨ 0xA180 ≤ index)) ∧
    (∃ (s : State) (d : DHdr) (role : Role) (x : Session) (index sub type : Nat) (value : List Byte) (e : Nat), DiongAccepts s d 2 (objAddr index sub ++ beBytes 1 type ++ value) role x ∧ writeGate (diongTaken s d) role index sub type value = .inl e) ∧
    (∃ (s : State) (d : DHdr) (role : Role) (x : Session) (index sub offset n : Nat), DiongAccepts s d 3 (objAddr index sub ++ [0] ++ beBytes 4 offset ++ beBytes 2 n) role x ∧ (readAs (diongTaken s d) role d.transport d.session index sub).1 = 0 ∧ (viewObj (readAs (diongTaken s d) role d.transport d.session index sub).2.2.2 index sub).isSome = false ∧ index ≠ 0xE000 ∧ offset + n ≤ (readAs (diongTaken s d) role d.transport d.session index sub).2.2.1.length ∧ n + 36 ≤ frameMax d.transport) ∧
    (∃ (s : State) (d : DHdr) (role : Role) (x : Session) (index sub type total : Nat) (data : List Byte) (r : ObjRow), DiongAccepts s d 4 (objAddr index sub ++ beBytes 1 type ++ beBytes 4 0 ++ beBytes 4 total ++ data) role x ∧ findObj index sub = .inr r ∧ r.acc role ≠ .none ∧ r.acc role ≠ .ro ∧ foreign (diongTaken s d) role index = false ∧ type = r.ty.code ∧ data.length ≤ total ∧ d.last = false) ∧
    (∃ (s : State) (d : DHdr) (role : Role) (x : Session) (index sub type offset total : Nat) (data : List Byte) (y : Transfer) (r : ObjRow), DiongAccepts s d 4 (objAddr index sub ++ beBytes 1 type ++ beBytes 4 offset ++ beBytes 4 total ++ data) role x ∧ x.transfer = some y ∧ 0 < offset ∧ y.index = index ∧ y.sub = sub ∧ y.ty = type ∧ y.total = total ∧ y.data.length = offset ∧ d.last = true ∧ offset + data.length = total ∧ writeGate (diongTaken s d) role index sub type (y.data ++ data) = .inr r ∧ isCounter index sub = false ∧ badRange (diongTaken s d) r index sub (y.data ++ data) = false ∧ r.acc role = .rws ∧ (index < 0xA100 ∨ 0xA180 ≤ index)) ∧
    (∃ (s : State) (d : DHdr) (role : Role) (x : Session) (boundary tick : Nat), DiongAccepts s d 5 (beBytes 1 boundary ++ List.replicate 7 0 ++ beBytes 8 tick) role x ∧ 3 < boundary) ∧
    (∃ (s : State) (d : DHdr) (n : Nat) (x : Session) (boundary tick : Nat), DiongAccepts s d 5 (beBytes 1 boundary ++ List.replicate 7 0 ++ beBytes 8 tick) (.tenant n) x ∧ boundary ≤ 3 ∧ s.adm.running = none ∧ scopeObjs (diongTaken s d) (.tenant n) = []) ∧
    (∃ (s : State) (d : DHdr) (role : Role) (x : Session) (boundary tick k : Nat), DiongAccepts s d 5 (beBytes 1 boundary ++ List.replicate 7 0 ++ beBytes 8 tick) role x ∧ boundary ≤ 3 ∧ s.adm.running = none ∧ s.adm.waiting = none ∧ ((Manages role ∨ scopeObjs (diongTaken s d) role ≠ [])) ∧ (((s.rx.rolling = false ∧ s.rx.rollPost = []) ∨ changedChannels (diongTaken s d) (commitImage (diongTaken s d) role) = [])) ∧ ((boundary ≠ 3 ∨ s.now + commitLead (diongTaken s d) (commitImage (diongTaken s d) role) ≤ tick)) ∧ boundaryKind (diongTaken s d) boundary tick = some k ∧ classFails (diongTaken s d) (commitImage (diongTaken s d) role) (scopeObjs (diongTaken s d) role) k = none) ∧
    (∃ (s : State) (d : DHdr) (role : Role) (x : Session), DiongAccepts s d 6 [] role x ∧ Manages role) ∧
    (∃ (s : State) (d : DHdr) (role : Role) (x : Session) (selector : Nat), DiongAccepts s d 7 (beBytes 1 selector) role x ∧ Manages role ∧ bitOf selector 1 = false) ∧
    (∃ (s : State) (d : DHdr) (role : Role) (x : Session) (selector : Nat), DiongAccepts s d 7 (beBytes 1 selector) role x ∧ Manages role) ∧
    (∃ (s : State) (d : DHdr) (role : Role) (x : Session) (mode : Nat), DiongAccepts s d 8 (beBytes 1 mode) role x ∧ Manages role ∧ (mode = 0 ∧ s.nv.stored = none ∨ mode = 1)) ∧
    (∃ (s : State) (d : DHdr) (role : Role) (x : Session) (index sub mode period : Nat), DiongAccepts s d 9 (objAddr index sub ++ beBytes 1 mode ++ beBytes 2 period) role x ∧ (readAs (diongTaken s d) role d.transport d.session index sub).1 = 0 ∧ 1 ≤ mode ∧ mode ≤ 2 ∧ 10 ≤ period ∧ period ≤ 60000 ∧ x.subs.length < 32) ∧
    (∃ (s : State) (d : DHdr) (role : Role) (x : Session) (scope : Nat), DiongAccepts s d 10 (beBytes 1 scope) role x ∧ Manages role ∧ scope < 5) :=
  ⟨⟨sSes ses0, hdr 0x102 false, .service, ses0, 0x1020, 4, by decide +kernel⟩,
   ⟨sSes ses0, hdr 0x102 false, .service, ses0, 0x1FFF, 4, by decide +kernel⟩,
   ⟨s0, hdr 0x102 false, .service, 0x1FFF, 4, by decide +kernel⟩,
   ⟨sSes ses0, hdr 0x102 false, .service, ses0, 0x2000, 1, 4, [0, 0, 0, 5], (⟨0x2000, 0, 1, 1, 1, .u32, .ro, .rws, .rws, .f, 0⟩ : ObjRow), by decide +kernel⟩,
   ⟨sSes ses0, hdr 0x102 false, .service, ses0, 0x2000, 1, 3, [0, 0, 0, 5], 4, by decide +kernel⟩,
   ⟨sSes ses0, hdr 0x102 false, .service, ses0, 0x2000, 1, 1, 2, by decide +kernel⟩,
   ⟨sSes ses0, hdr 0x102 false, .service, ses0, 0x2000, 1, 4, 4, [0, 0], (⟨0x2000, 0, 1, 1, 1, .u32, .ro, .rws, .rws, .f, 0⟩ : ObjRow), by decide +kernel⟩,
   ⟨sSes { ses0 with transfer := some ⟨0x2000, 1, 4, 4, [0, 0], 0⟩ }, hdr 0x102 true, .service, { ses0 with transfer := some ⟨0x2000, 1, 4, 4, [0, 0], 0⟩ }, 0x2000, 1, 4, 2, 4, [0, 5], ⟨0x2000, 1, 4, 4, [0, 0], 0⟩, (⟨0x2000, 0, 1, 1, 1, .u32, .ro, .rws, .rws, .f, 0⟩ : ObjRow), by decide +kernel⟩,
   ⟨sSes ses0, hdr 0x102 false, .service, ses0, 4, 0, by decide +kernel⟩,
   ⟨sTen, hdr2 5 (beBytes 1 1 ++ List.replicate 7 0 ++ beBytes 8 0), 2, ses2, 1, 0, by decide +kernel⟩,
   ⟨{ sSes ses0 with objsStaged := [(okey 0x2000 1, .num 5)] }, hdr 0x102 false, .service, ses0, 2, 0, 2, by decide +kernel⟩,
   ⟨{ sSes ses0 with objsStaged := [(okey 0x2000 1, .num 5)], regsStaged := [(77, 5)] }, hdr 0x102 false, .service, ses0, by decide +kernel⟩,
   ⟨sSes ses0, hdr 0x102 false, .service, ses0, 0, by decide +kernel⟩,
   ⟨sSes ses0, hdr 0x102 false, .service, ses0, 1, by decide +kernel⟩,
   ⟨sSes ses0, hdr 0x102 false, .service, ses0, 1, by decide +kernel⟩,
   ⟨sSes ses0, hdr 0x102 false, .service, ses0, 0x1020, 4, 2, 60000, by decide +kernel⟩,
   ⟨sSes ses0, hdr 0x102 false, .service, ses0, 4, by decide +kernel⟩⟩

/-- The hypotheses of each clause of DictionaryCommandsComplete. -/
theorem witness_dictionary_commands_complete :
    (∃ (s : State) (tr : Transport) (key id : Nat) (x : Session), s.session tr key id = some x) ∧
    (∃ (s : State) (tr : Transport) (key id : Nat) (x : Session) (y : Transfer), s.session tr key id = some x ∧ x.transfer = some y) ∧
    (∃ (s : State) (tr : Transport) (key id : Nat) (x : Session) (index sub : Nat) (y : Subscription) (role : Role), s.session tr key id = some x ∧ x.subs.find? (fun w => decide (w.index = index) && decide (w.sub = sub)) = some y ∧ roleOf s tr key = some role ∧ y.mode = 1 ∧ (readAs (reachElapsed s (y.lastSent + y.period * msTicks)) role tr id index sub).1 = 0) ∧
    (∃ (s : State) (e : Nat), s.diong.digestDue = some e) ∧
    (∃ (s : State) (c : Nat), c ∈ s.diong.mismatch) ∧
    (∃ (s : State) (src inst aux : Nat), (src, inst, aux) ∈ s.evt.cond ∧ s.evt.cond.any (fun c => c.1 = src && decide (c ≠ (src, inst, aux))) = false) ∧
    (∃ (s : State) (role : Role) (index sub : Nat) (r : ObjRow), isCounter index sub = true ∧ Manages role ∧ objRow index sub = some r ∧ findObj index sub = .inr r ∧ r.acc role ≠ .none) ∧
    (∃ (s : State) (frame : List Byte), s.diong.spiIn.length < 2) ∧
    (∃ (s : State) (len : Nat) (frame : List Byte), (2 ≤ s.diong.spiIn.length ∨ frame.length ≠ len)) ∧
    (∃ (s : State) (x : Bool × List Byte) (l : List (Bool × List Byte)), s.diong.spiOut = x :: l) ∧
    (∃ (s : State), s.diong.spiOut = []) ∧
    (∃ (s : State) (m ip : Nat), t1sRuns s = true) ∧
    (∃ (s : State) (m ip ident seq : Nat) (data : List Byte), t1sRuns s = true) :=
  ⟨⟨sSes ses0, .spi, 3, 7, ses0, by decide +kernel⟩,
   ⟨sSes { ses0 with transfer := some ⟨0x2000, 1, 3, 4, [0, 0], 0⟩ }, .spi, 3, 7, { ses0 with transfer := some ⟨0x2000, 1, 3, 4, [0, 0], 0⟩ }, ⟨0x2000, 1, 3, 4, [0, 0], 0⟩, by decide +kernel⟩,
   ⟨sSes { ses0 with subs := [sub0] }, .spi, 3, 7, { ses0 with subs := [sub0] }, 0x1020, 4, sub0, .service, by decide +kernel⟩,
   ⟨{ s0 with diong := { s0.diong with digestDue := some 5 } }, 5, by decide +kernel⟩,
   ⟨{ s0 with diong := { s0.diong with mismatch := [3], crc := [(8, 77)] } }, 3, by decide +kernel⟩,
   ⟨sCease, 74, 1, 2, by decide +kernel⟩,
   ⟨{ s0 with stats := [(okey 0xE101 1, 2 ^ 63 + 5)] }, .operator, 0xE101, 1, ((objRow 0xE101 1).getD (sub0Row 0)), by decide +kernel⟩,
   ⟨s0, [1, 2], by decide +kernel⟩,
   ⟨s0, 3, [1, 2], by decide +kernel⟩,
   ⟨{ s0 with diong := { s0.diong with spiOut := [(false, [1, 2])] } }, (false, [1, 2]), [], by decide +kernel⟩,
   ⟨s0, by decide +kernel⟩,
   ⟨s0, 5, 6, by decide +kernel⟩,
   ⟨s0, 5, 6, 7, 8, [9, 10], by decide +kernel⟩⟩

/-- The hypotheses of each clause of FiringsArePresented. -/
theorem witness_firings_are_presented :
    (∃ (s : State) (src : Nat) (f : Firing), src < 256 ∧ s.evt.waiting.find? (fun g => g.src = src) = some f ∧ s.evt.log.length < 1024) :=
  ⟨sFire, 130, fir0, by decide +kernel⟩

/-- The hypotheses of each clause of StickyFlagsClearOnWrite. -/
theorem witness_sticky_flags_clear_on_write :
    (∃ (s : State) (d src : Nat), d < 5 ∧ src < 256 ∧ evtSticky s src d = true ∧ bitOf (s.freshMask .evtStk [d, src / 32]) (src % 32) = false ∧ ((s.evt.shownAt ≠ s.clk.elapsed ∨ s.evt.counted = []))) ∧
    (∃ (s : State) (d src : Nat) (f : Firing), d < 5 ∧ src < 256 ∧ evtSticky s src d = true ∧ s.evt.waiting.find? (fun g => g.src = src) = some f ∧ entitled s src f.inst d = true ∧ evtEnabled s src d = true) :=
  ⟨⟨sFire, 4, 130, by decide +kernel⟩,
   ⟨sFire, 4, 130, fir0, by decide +kernel⟩⟩

/-- The hypotheses of each clause of RefusedRequestsPerformNothing. -/
theorem witness_refused_requests_perform_nothing :
    (∃ (s : State) (c : Instr) (d : DHdr) (op : Nat) (payload : List Byte) (role : Role) (x : Session) (o : Nat × Nat × List Byte), diongRequest c = some (d, op, payload) ∧ DiongFrom s d op payload role ∧ s.session d.transport d.key d.session = some x ∧ (d.seq + 2 ^ 32 - x.seq % 2 ^ 32) % 2 ^ 32 = 0 ∧ x.resp = some o) ∧
    (∃ (s : State) (c : Instr) (d : DHdr) (op : Nat) (payload : List Byte) (role : Role) (x : Session), diongRequest c = some (d, op, payload) ∧ DiongFrom s d op payload role ∧ s.session d.transport d.key d.session = some x ∧ 2 ^ 31 ≤ (d.seq + 2 ^ 32 - x.seq % 2 ^ 32) % 2 ^ 32 ∧ spGet 0 s.stats (okey 0x1050 2) < statMax) ∧
    (∃ (s : State) (c : Instr) (d : DHdr) (op : Nat) (payload : List Byte) (role : Role) (x : Session), diongRequest c = some (d, op, payload) ∧ DiongFrom s d op payload role ∧ s.session d.transport d.key d.session = some x ∧ x.busy = true ∧ 0 < (d.seq + 2 ^ 32 - x.seq % 2 ^ 32) % 2 ^ 32 ∧ (d.seq + 2 ^ 32 - x.seq % 2 ^ 32) % 2 ^ 32 < 2 ^ 31) ∧
    (∃ (s : State) (c : Instr) (d : DHdr) (op : Nat) (payload : List Byte), diongRequest c = some (d, op, payload) ∧ diongRuns s = true ∧ d.ver = 1 ∧ diongLink d = true ∧ (roleOf s d.transport d.key = none ∨ d.tag ≠ tagOf d.key ((keyMaterial s d.transport d.key).getD []) (frameBody_ (16 + 4 * b2n d.last) op d.session d.seq d.key 0 payload)) ∧ spGet 0 s.stats (okey 0x1050 1) < statMax) :=
  ⟨⟨sSes { ses0 with resp := some (2, 3, [1]) }, .write (hdr 0x101 false) 1 2 3 [4], hdr 0x101 false, 2, objAddr 1 2 ++ beBytes 1 3 ++ [4], .service, { ses0 with resp := some (2, 3, [1]) }, (2, 3, [1]), by decide +kernel⟩,
   ⟨sSes ses0, .read (hdr 0x100 false) 1 2, hdr 0x100 false, 1, objAddr 1 2 ++ [0], .service, ses0, by decide +kernel⟩,
   ⟨sSes { ses0 with busy := true }, .abort (hdr 0x102 false), hdr 0x102 false, 6, [], .service, { ses0 with busy := true }, by decide +kernel⟩,
   ⟨sSes ses0, .digest { hdr 0x102 false with tag := [1] } 4, { hdr 0x102 false with tag := [1] }, 10, beBytes 1 4, by decide +kernel⟩⟩

/-- The hypotheses of each clause of PowerCommandsComplete. -/
theorem witness_power_commands_complete :
    (∃ (s : State) (by_ : Option Role) (tag value : Nat), (by_ = some .operator ∨ by_ = some .service ∨ by_ = none ∧ s.regOff .pwrReq [] = false ∧ s.tagDeviceOrD2 tag = true) ∧ bitOf value 4 = true ∧ (bitsOf value 2 0 = 2 ∨ bitsOf value 2 0 = 3) ∧ s.pwr.req = none ∧ s.pwr.exit = none ∧ s.pwr.switch = none ∧ s.pwrState < 2 ∧ s.pwrLevel = s.pwrState ∧ s.pwr.wakeCycle ≠ s.rtcCycle + 1) ∧
    (∃ (s : State) (by_ : Option Role) (tag value : Nat), (by_ = some .operator ∨ by_ = some .service ∨ by_ = none ∧ s.regOff .pwrReq [] = false ∧ s.tagDeviceOrD2 tag = true) ∧ bitOf value 4 = true ∧ bitsOf value 2 0 = s.pwrState ∧ s.pwr.req = none ∧ s.pwr.exit = none ∧ s.pwr.switch = none ∧ s.pwrState ≤ 2) ∧
    (∃ (s : State) (tag value : Nat), s.regOff .pwrReq [] = false ∧ s.tagDeviceOrD2 tag = false) ∧
    (∃ (s : State) (r : PwrReq), s.pwr.req = some r ∧ s.pwr.step = 1 ∧ r.hot = false ∧ s.pwr.wake = none ∧ s.pwr.up = none) ∧
    (∃ (s : State) (r : PwrReq), s.pwr.req = some r ∧ s.pwr.step = 2 ∧ s.pwr.last = 2 ∧ r.target = 2 ∧ r.hot = false ∧ (∀ e < 18, (s.eng e).job = none) ∧ s.pwr.wake = none ∧ s.pwr.queue = none) ∧
    (∃ (s : State) (r : PwrReq), s.pwr.req = some r ∧ s.pwr.step = 4 ∧ s.pwr.last = 4 ∧ r.target = 3 ∧ r.hot = false ∧ s.pwr.wake = none ∧ s.pwr.queue = none) ∧
    (∃ (s : State) (w : Nat), s.pwr.exit = some w ∧ s.pwr.linkIdle = true ∧ s.pwrLevel = 3) ∧
    (∃ (s : State) (w : Nat), s.pwr.exit = some w ∧ 4 ≤ s.pwrLevel ∧ s.boot.warmTo = none) ∧
    (∃ (s : State) (w : Nat), s.pwr.exit = some w ∧ w < 2 ∧ s.pwrLevel = 2 ∧ s.pwr.linkIdle = false ∧ s.boot.warmTo = none ∧ s.pwr.lockSince = none ∧ s.pwr.wake = none ∧ s.pwr.queue = none) ∧
    (∃ (s : State) (w : Nat), s.pwr.switch = some w ∧ w < 2 ∧ s.pwr.wake = none ∧ s.pwr.queue = none) ∧
    (∃ (s : State) (p : Nat) (rx : Bool) (a b : Nat), p < 64 ∧ s.pwrState = 1 ∧ s.pwr.depth = 0 ∧ s.tlRuns = true ∧ spGet 0 s.pwr.gated (2 * p + b2n rx) = 0 ∧ (idleSpans s p rx).find? (fun x => s.now < x.2 - 2048) = some (a, b)) ∧
    (∃ (s : State) (p : Nat) (rx : Bool) (a b : Nat), p < 64 ∧ spGet 0 s.pwr.gated (2 * p + b2n rx) ≠ 0 ∧ (idleSpans s p rx).find? (fun x => s.now ≤ x.2) = some (a, b)) :=
  ⟨⟨s0, some .operator, 0, 16 + 8 + 3, by decide +kernel⟩,
   ⟨s0, none, 4, 16, by decide +kernel⟩,
   ⟨s0, 3, 18, by decide +kernel⟩,
   ⟨sEntry 1 2 ⟨2, false, 0, false⟩, ⟨2, false, 0, false⟩, by decide +kernel⟩,
   ⟨sEntry 2 2 ⟨2, false, 0, false⟩, ⟨2, false, 0, false⟩, by decide +kernel⟩,
   ⟨sEntry 4 4 ⟨3, true, 1, false⟩, ⟨3, true, 1, false⟩, by decide +kernel⟩,
   ⟨sExit 3 1 true, 1, by decide +kernel⟩,
   ⟨sExit 4 1 true, 1, by decide +kernel⟩,
   ⟨sExit 2 1 false, 1, by decide +kernel⟩,
   ⟨{ s0 with pwr := { s0.pwr with switch := some 1, accepted := 5 } }, 1, by decide +kernel⟩,
   ⟨sGate, 63, false, 0, 3 * 4915200, by decide +kernel⟩,
   ⟨{ sGate with pwr := { sGate.pwr with gated := [(126, 5)] } }, 63, false, 0, 3 * 4915200, by decide +kernel⟩⟩

/-- The hypotheses of each clause of WakeCommandsComplete. -/
theorem witness_wake_commands_complete :
    (∃ (s : State) (cycles : Nat), 3 ≤ cycles ∧ WakeSettled s 1) ∧
    (∃ (s : State) (cycles : Nat), cycles < 3) ∧
    (∃ (s : State), rbit s .aonAlarm [] 48 = true ∧ s.boot.rtcFrom.isSome = true ∧ s.rtc ≤ rf s .aonAlarm [] 47 0 ∧ WakeSettled s 2) ∧
    (∃ (s : State) (lane n : Nat), s.pwrLevel = 3 ∧ n < 4 ∧ rbit s .lnkPortCfg [n] 0 = true ∧ lane ∈ (portLanes s n).map (physLane s) ∧ WakeSettled s 4) ∧
    (∃ (s : State), s.pwrLevel = 3 ∧ WakeSettled s 5) ∧
    (∃ (s : State) (word key : List Byte), (s.island 34).off = true ∧ s.keySlot 12 = some key ∧ key ≠ [] ∧ word.length = 12 ∧ word.take 4 = key.take 4 ∧ (word.drop 8).take 4 = wakeTag (key.drop 4) word ∧ counterFresh s.pwr.dbgCount (beAt word 4 4) = true ∧ WakeSettled s 6) ∧
    (∃ (s : State) (word : List Byte), (s.island 34).off = true ∧ word.length ≠ 12 ∧ spGet 0 s.stats (okey 0xB111 6) < statMax) ∧
    (∃ (s : State) (c : Int), (c < toSigned 8 (rf s .aonThm [] 7 0) * 64 ∨ toSigned 8 (rf s .aonThm [] 15 8) * 64 < c) ∧ WakeSettled s 7) ∧
    (∃ (s : State) (a b : Int), s.wrxRuns = true ∧ rf s .wrxStat [] 1 0 ≤ 1) ∧
    (∃ (s : State) (a b : Int), s.wrxRuns = true ∧ rf s .wrxStat [] 1 0 ≤ 1) ∧
    (∃ (s : State) (hit : Bool) (a b : Int), s.wrxRuns = false) ∧
    (∃ (s : State), s.pwr.detect ≠ 0) ∧
    (∃ (s : State) (frame : List Byte) (rssi : Int) (key : List Byte), s.wrxRuns = true ∧ frame.length = 22 ∧ beAt frame 8 2 = 0x6B1E ∧ beAt frame 10 4 = rd s .wrxId [] ∧ s.keySlot 11 = some key ∧ sliceBytes frame 18 4 = wakeTag key (frame.drop 10) ∧ counterFresh (rd s .wrxLastcnt []) (beAt frame 14 4) = true ∧ WakeSettled s 3) ∧
    (∃ (s : State) (frame : List Byte) (rssi : Int), s.wrxRuns = true ∧ frame.length = 22 ∧ beAt frame 8 2 = 0x6B1E ∧ beAt frame 10 4 ≠ rd s .wrxId []) ∧
    (∃ (s : State), s.wrxRuns = true ∧ s.pwr.detect = 0) :=
  ⟨⟨sWake 3 1, 3, by decide +kernel⟩,
   ⟨s0, 2, by decide +kernel⟩,
   ⟨{ (wr (sWake 3 2) .aonAlarm [] (2 ^ 48 + 7)) with boot := { s0.boot with rtcFrom := some 0 } }, by decide +kernel⟩,
   ⟨wbit (sWake 3 4) .lnkPortCfg [1] 0 true, 0, 1, by decide +kernel⟩,
   ⟨sWake 3 5, by decide +kernel⟩,
   ⟨{ sWake 3 6 with islands := (islandDown s0 34).islands, nv := { s0.nv with keys := [(12, 1, [1, 2, 3, 4] ++ List.replicate 16 7)] } }, [1, 2, 3, 4, 0, 0, 0, 1] ++ wakeTag (List.replicate 16 7) [1, 2, 3, 4, 0, 0, 0, 1], [1, 2, 3, 4] ++ List.replicate 16 7, by decide +kernel⟩,
   ⟨{ sWake 3 6 with islands := (islandDown s0 34).islands }, [1], by decide +kernel⟩,
   ⟨wr (sWake 3 7) .aonThm [] (256 * 100), -1, by decide +kernel⟩,
   ⟨wbit (sPwr 3) .wrxCfg [] 0 true, 4, 5, by decide +kernel⟩,
   ⟨wbit (sPwr 3) .wrxCfg [] 0 true, 4, 5, by decide +kernel⟩,
   ⟨wf s0 .wrxStat [] 1 0 2, true, 4, 5, by decide +kernel⟩,
   ⟨{ wbit (sPwr 3) .wrxCfg [] 0 true with pwr := { s0.pwr with detect := 7 } }, by decide +kernel⟩,
   ⟨{ wr (wbit (sWake 3 3) .wrxCfg [] 0 true) .wrxId [] 0x01020304 with nv := { s0.nv with keys := [(11, 1, List.replicate 16 7)] } }, List.replicate 8 0 ++ [0x6B, 0x1E, 1, 2, 3, 4, 0, 0, 0, 1] ++ wakeTag (List.replicate 16 7) [1, 2, 3, 4, 0, 0, 0, 1], -5, List.replicate 16 7, by decide +kernel⟩,
   ⟨wbit (sPwr 3) .wrxCfg [] 0 true, List.replicate 8 0 ++ [0x6B, 0x1E, 1, 2, 3, 4, 0, 0, 0, 1, 0, 0, 0, 0], -5, by decide +kernel⟩,
   ⟨wbit (sPwr 3) .wrxCfg [] 0 true, by decide +kernel⟩⟩

/-- The hypotheses of each clause of BiasCommandsComplete. -/
theorem witness_bias_commands_complete :
    (∃ (s : State) (n : Nat) (e : EvtEntry), EventFires s n 1 e ∧ (s.island 33).off = false) ∧
    (∃ (s : State), rbit s .bdacLdac [] 0 = true ∧ (s.island 33).off = false) ∧
    (∃ (s : State) (tag value : Nat), s.tagDeviceOrD2 tag = true ∧ (s.island 33).off = false ∧ bitOf value 8 = true) ∧
    (∃ (s : State) (tag c value : Nat), c < 128 ∧ s.tagDeviceOrD2 tag = true ∧ (s.island 33).off = false) ∧
    (∃ (s : State) (tag c value : Nat), c < 128 ∧ s.tagDeviceOrD2 tag = false ∧ (s.island 33).off = false) ∧
    (∃ (s : State) (c : Nat), c < 128 ∧ rbit s (if c < 64 then .bdacSc0 else .bdacSc1) [] (c % 64) = false) ∧
    (∃ (s : State) (c : Nat), c < 128) ∧
    (∃ (s : State) (c : Nat), c < 128 ∧ (s.bias c).lim ≠ 0 ∧ s.biasRole c ≠ 0 ∧ rbit s .bdacDrnStat [] (s.biasAmp c) = true ∧ s.ampFaulted (s.biasAmp c) = false) ∧
    (∃ (s : State) (which : Nat), which < 2 ∧ rbit s .bdacStat [] which = true) ∧
    (∃ (s : State), (s.island 33).off = false) ∧
    (∃ (s : State) (c : Nat), c < 128 ∧ rbit s .bdacChCode [c] 17 = true ∧ 0 < rf s .bdacChCfg [c] 14 11 ∧ s.biasOut c < (s.bias c).target ∧ (s.bias c).target < 65536) ∧
    (∃ (s : State) (tag value : Nat), s.tagDeviceOrD2 tag = true ∧ (s.island 33).off = false) ∧
    (∃ (s : State) (a cause : Nat), a < 64 ∧ cause < 5 ∧ s.ampFaulted a = false) ∧
    (∃ (s : State) (a : Nat), spGet 0 s.hk.safeAt a ≠ 0) ∧
    (∃ (s : State) (a : Nat), a < 64 ∧ s.ampFaulted a = false) ∧
    (∃ (s : State) (tag a : Nat), a < 64 ∧ s.tagDeviceOrD2 tag = true ∧ (s.island 33).off = false ∧ s.ampFaulted a = true ∧ bitOf (s.freshMask .bdacDrnFault []) a = false ∧ faultCause s a = none) ∧
    (∃ (s : State) (tag a cause : Nat), a < 64 ∧ s.tagDeviceOrD2 tag = true ∧ (s.island 33).off = false ∧ s.ampFaulted a = true ∧ bitOf (s.freshMask .bdacDrnFault []) a = false ∧ rbit s .bdacDrnStat [] a = false ∧ faultCause s a = some cause) :=
  ⟨⟨{ sEvt 1 5 0 with regs := (wr (wr (sEvt 1 5 0) .bdacChCfg [127] (5 + 8 + 63 * 32 + 2 ^ 11)) .bdacChCode [127] (700 + 2 ^ 16)).regs }, 4095, ⟨1000, true, 1, 5, 0⟩, by decide +kernel⟩,
   ⟨wr (sBias 0) .bdacLdac [] (1 + 32 * 256), by decide +kernel⟩,
   ⟨sBias 1, 4, 256 + 32, by decide +kernel⟩,
   ⟨s0, 4, 127, 0x12345, by decide +kernel⟩,
   ⟨s0, 3, 127, 0x12345, by decide +kernel⟩,
   ⟨s0, 127, by decide +kernel⟩,
   ⟨s0, 127, by decide +kernel⟩,
   ⟨sDrain, 127, by decide +kernel⟩,
   ⟨sDrain, 0, by decide +kernel⟩,
   ⟨sDrain.setBias 127 Bias.reset, by decide +kernel⟩,
   ⟨(wbit (sBias 3) .bdacChCode [127] 17 true).setBias 127 { Bias.reset with target := 852 }, 127, by decide +kernel⟩,
   ⟨sBias 0, 4, 2 ^ 63 + 1, by decide +kernel⟩,
   ⟨s0, 63, 4, by decide +kernel⟩,
   ⟨{ sFault with hk := { sFault.hk with safeAt := [(63, 5)] } }, 63, by decide +kernel⟩,
   ⟨s0, 63, by decide +kernel⟩,
   ⟨sFault, 4, 63, by decide +kernel⟩,
   ⟨{ wr sFault .thmAmpCfg [63] 8 with hk := { sFault.hk with amp := [(63, { Amp.reset with hot := true })] } }, 4, 63, 4, by decide +kernel⟩⟩

/-- The hypotheses of each clause of MonitorCommandsComplete. -/
theorem witness_monitor_commands_complete :
    (∃ (s : State) (tag m : Nat), m < 2 ∧ s.tagDeviceOrD2 tag = true ∧ (s.island 33).off = false ∧ rbit s .monCtrl [m] 0 = true ∧ rbit s .monStat [m] 0 = false) ∧
    (∃ (s : State) (tag m : Nat), m < 2 ∧ s.tagDeviceOrD2 tag = true ∧ (s.island 33).off = false ∧ rbit s .monCtrl [m] 0 = true ∧ rbit s .monStat [m] 0 = true ∧ rbit s .monStat [m] 1 = false) ∧
    (∃ (s : State) (tag m : Nat), m < 2 ∧ s.tagDeviceOrD2 tag = true ∧ (s.island 33).off = false ∧ rbit s .monCtrl [m] 0 = true ∧ rbit s .monStat [m] 0 = true ∧ rbit s .monStat [m] 1 = true) ∧
    (∃ (s : State) (m : Nat) (r : Int) (x : Nat), m < 2 ∧ (s.island 33).off = false ∧ rbit s .monStat [m] 0 = true ∧ rbit s .monStat [m] 1 = false ∧ rf s .monCtrl [m] 3 1 = 0 ∧ rf s .monCtrl [m] 19 16 = rf s .monStat [m] 7 4 ∧ rbit s .monCtrl [m] 4 = false ∧ rbit s .monSeq [m, rf s .monStat [m] 7 4] 35 = false ∧ rf s .monSeq [m, rf s .monStat [m] 7 4] 11 6 ≠ 32 ∧ rf s .monSeq [m, rf s .monStat [m] 7 4] 28 27 = 0 ∧ rbit s .monLim [m, rf s .monStat [m] 7 4] 32 = false) ∧
    (∃ (s : State) (m : Nat) (r : Int) (x : Nat), m < 2 ∧ (s.island 33).off = false ∧ rbit s .monStat [m] 0 = true ∧ rf s .monCtrl [m] 19 16 > rf s .monStat [m] 7 4 ∧ rf s .monSeq [m, rf s .monStat [m] 7 4] 28 27 = 0 ∧ rbit s .monLim [m, rf s .monStat [m] 7 4] 32 = true ∧ rbit s .monLim [m, rf s .monStat [m] 7 4] 33 = true ∧ toSigned 16 (ofSigned 24 r >>> 8) < toSigned 16 (rd s .monLim [m, rf s .monStat [m] 7 4]) ∧ s.ampFaulted (rf s .monSeq [m, rf s .monStat [m] 7 4] 34 29) = false) ∧
    (∃ (s : State) (m : Nat), m < 2 ∧ (s.island 33).off = false) :=
  ⟨⟨wr s0 .monCtrl [1] 1, 4, 1, by decide +kernel⟩,
   ⟨sMon 0 0, 4, 1, by decide +kernel⟩,
   ⟨wbit (sMon 0 0) .monStat [1] 1 true, 4, 1, by decide +kernel⟩,
   ⟨wbit (sMon 15 15) .monData [1] 36 true, 1, -5, 7, by decide +kernel⟩,
   ⟨wr (wr (sMon 3 15) .monSeq [1, 3] (63 * 2 ^ 29)) .monLim [1, 3] (2 ^ 32 + 2 ^ 33 + 32767), 1, -5, 7, by decide +kernel⟩,
   ⟨wr s0 .monData [1] (2 ^ 36 + 77), 1, by decide +kernel⟩⟩

/-- The hypotheses of each clause of ThermalCommandsComplete. -/
theorem witness_thermal_commands_complete :
    (∃ (s : State) (r : List Int) (shared : Option (Int × Int)) (v : Nat) (l : List Nat), (s.island 33).off = false ∧ (∀ x < 64, rbit s .thmBroken0 [] x = false) ∧ (∀ x < 32, rbit s .thmBroken1 [] x = false) ∧ (∀ x < 96, -3520 ≤ r.getD x 0 ∧ r.getD x 0 ≤ 9600) ∧ (∀ x < 96, ∀ y < 96, r.getD x 0 ≤ r.getD y 0 + 512)) ∧
    (∃ (s : State) (r : List Int) (shared : Option (Int × Int)) (v : Nat) (l : List Nat), (s.island 33).off = true) ∧
    (∃ (s : State) (c : Nat), rf s .thmStat [] 17 16 = 3 ∧ rf s .thmCtrl [] 17 16 = 1 ∧ dropCandidate s = some c ∧ s.hk.dropAt = 0) ∧
    (∃ (s : State) (n : Nat), n < 4 ∧ (rf s .thmPwmCfg [n] 1 0 = 1 ∨ rf s .thmPwmCfg [n] 1 0 = 2) ∧ rbit s .thmPwmDuty [n] 21 = false) ∧
    (∃ (s : State) (n : Nat), n < 4 ∧ rf s .thmPwmCfg [n] 1 0 = 1 ∧ 1 ≤ rf s .thmPwmDuty [n] 19 10 ∧ rbit s .thmTach [n] 24 = false) ∧
    (∃ (s : State) (n : Nat), n < 4 ∧ (s.island 33).off = false ∧ (s.fan n).edge ≠ 0 ∧ (s.clk.elapsed + 1 - (s.fan n).edge) / 10 < 2 ^ 24) ∧
    (∃ (s : State) (mv : Nat), 650 ≤ mv ∧ mv ≤ 850 ∧ mv ≤ rf s .pwrAvs [] 9 0 + 10 ∧ rf s .pwrAvs [] 9 0 ≤ mv + 10 ∧ mv ≠ rf s .pwrAvs [] 9 0) :=
  ⟨⟨s0, List.replicate 95 (-3) ++ [400], none, 700, [], by decide +kernel⟩,
   ⟨islandDown s0 33, List.replicate 96 0, none, 700, [], by decide +kernel⟩,
   ⟨wr (wf (s0.setObj 0x2017 1 (.num 1)) .thmStat [] 17 16 3) .thmCtrl [] (2 ^ 16), 7, by decide +kernel⟩,
   ⟨sFan, 3, by decide +kernel⟩,
   ⟨sFan, 3, by decide +kernel⟩,
   ⟨s0.setFan 3 { Fan.reset with edge := 1 }, 3, by decide +kernel⟩,
   ⟨{ wf s0 .pwrAvs [] 9 0 750 with hk := { s0.hk with avsAt := 5 } }, 760, by decide +kernel⟩⟩

/-- The hypotheses of each clause of SecurityObjectCommandsComplete. -/
theorem witness_security_object_commands_complete :
    (∃ (s : State) (role : Role) (token : List Byte), Manages role ∧ token.length = 112) ∧
    (∃ (s : State) (role : Role) (k : Nat) (b : List Byte), Manages role ∧ k < 13) ∧
    (∃ (s : State) (role : Role) (record : List Byte), role ≠ .operator) ∧
    (∃ (s : State) (nonce : List Byte), nonce.length = 48) ∧
    (∃ (s : State) (nonce : List Byte), nonce.length ≠ 48) ∧
    (∃ (s : State) (role : Role), role ≠ .operator) :=
  ⟨⟨s0, .operator, List.replicate 112 0, by decide +kernel⟩,
   ⟨s0, .operator, 12, [1], by decide +kernel⟩,
   ⟨s0, .service, [1], by decide +kernel⟩,
   ⟨s0, List.replicate 48 7, by decide +kernel⟩,
   ⟨s0, [1], by decide +kernel⟩,
   ⟨s0, .tenant 1, by decide +kernel⟩⟩

/-- The hypotheses of each clause of MailboxCommandsComplete. -/
theorem witness_mailbox_commands_complete :
    (∃ (s : State) (p len : Nat), (s.island 32).off = false ∧ s.pairStopped p = false ∧ len ≤ 1024) ∧
    (∃ (s : State) (p : Nat) (tr : Transport) (len : Nat) (key : List Byte), (s.island 32).off = false ∧ s.pairStopped p = false ∧ len ≤ 1024 ∧ s.keySlot (sessionSlot tr (beAt ((mboxBytes s len).take (len - 16)) 8 1)) = some key) ∧
    (∃ (s : State) (p : Nat) (tr : Transport) (len : Nat) (key : List Byte), (s.island 32).off = false ∧ s.pairStopped p = false ∧ len ≤ 1024 ∧ s.keySlot (sessionSlot tr (beAt (mboxBytes s len) 8 1)) = some key) ∧
    (∃ (s : State) (p : Nat) (tr : Transport) (len : Nat), (s.island 32).off = false ∧ s.pairStopped p = false ∧ len ≤ 1024 ∧ s.keySlot (sessionSlot tr (beAt (mboxBytes s len) 8 1)) = none) ∧
    (∃ (s : State) (p : Nat) (role : Role) (len : Nat), (s.island 32).off = false ∧ s.pairStopped p = false ∧ len ≤ 1024) ∧
    (∃ (s : State) (p : Nat), (s.island 32).off = false ∧ s.pairStopped p = false) ∧
    (∃ (s : State) (p : Nat), (s.island 32).off = false ∧ s.pairStopped p = false) ∧
    (∃ (s : State) (p len : Nat), (s.island 32).off = false ∧ s.pairStopped p = false ∧ len ≤ 1024) ∧
    (∃ (s : State) (p len : Nat), (s.island 32).off = false ∧ s.pairStopped p = false ∧ len ≤ 1024) ∧
    (∃ (s : State) (p len : Nat), (s.island 32).off = false ∧ s.pairStopped p = false ∧ 1024 < len) ∧
    (∃ (s : State) (p len : Nat), s.pairStopped p = true) :=
  ⟨⟨s0, 1, 8, by decide +kernel⟩,
   ⟨{ wr s0 .secMboxBuf [1] 1 with nv := { s0.nv with keys := [(2, 1, [7])] } }, 1, .spi, 26, [7], by decide +kernel⟩,
   ⟨{ wr s0 .secMboxBuf [1] 1 with nv := { s0.nv with keys := [(2, 1, [7])] } }, 1, .spi, 24, [7], by decide +kernel⟩,
   ⟨s0, 1, .spi, 24, by decide +kernel⟩,
   ⟨s0, 1, .operator, 8, by decide +kernel⟩,
   ⟨s0, 1, by decide +kernel⟩,
   ⟨s0, 1, by decide +kernel⟩,
   ⟨s0, 1, 8, by decide +kernel⟩,
   ⟨s0, 1, 8, by decide +kernel⟩,
   ⟨s0, 1, 1025, by decide +kernel⟩,
   ⟨s0.setPair 1 true true, 1, 8, by decide +kernel⟩⟩

/-- The hypotheses of each clause of TapCommandsComplete. -/
theorem witness_tap_commands_complete :
    (∃ (s : State) (cells capture : Nat), tapRuns s = true ∧ 3 ≤ s.sec.dbgLevel ∧ allOff s = true) ∧
    (∃ (s : State) (cells capture : Nat), tapRuns s = true ∧ s.sec.dbgLevel < 3) ∧
    (∃ (s : State) (cells capture : Nat), tapRuns s = true) ∧
    (∃ (s : State), tapRuns s = true) ∧
    (∃ (s : State), tapRuns s = false ∧ spGet 0 s.stats (okey 0xB111 6) < statMax) ∧
    (∃ (s : State), tapRuns s = true ∧ 3 ≤ s.sec.dbgLevel ∧ allOff s = true) ∧
    (∃ (s : State), tapRuns s = true ∧ 3 ≤ s.sec.dbgLevel ∧ allOff s = true) ∧
    (∃ (s : State) (id : Nat) (c : List Byte), tapRuns s = true ∧ s.lockedOut = false ∧ s.challenge = some (id, c)) ∧
    (∃ (s : State), tapRuns s = true ∧ s.lockedOut = false ∧ s.challenge = none) ∧
    (∃ (s : State), tapRuns s = true ∧ s.lockedOut = true) ∧
    (∃ (s : State) (response : List Byte), tapRuns s = true ∧ response.length = 192) ∧
    (∃ (s : State) (addr : Nat) (wide : Bool) (data : Nat), tapRuns s = true ∧ 1 ≤ s.sec.dbgLevel) ∧
    (∃ (s : State) (addr : Nat) (wide : Bool) (data : Nat), tapRuns s = true ∧ s.sec.dbgLevel = 1) ∧
    (∃ (s : State) (addr op : Nat) (wide : Bool) (data : Nat), tapRuns s = true ∧ s.sec.dbgLevel = 0) ∧
    (∃ (s : State), tapRuns s = true) ∧
    (∃ (s : State), tapRuns s = true) ∧
    (∃ (s : State) (ir : Nat), tapRuns s = true ∧ ir ∉ [0x00, 0x01, 0x02, 0x03, 0x04, 0x10, 0x11, 0x12, 0x13, 0xFF]) ∧
    (∃ (s : State), tapRuns s = true) :=
  ⟨⟨wr (sDbg 3) .bdacDrnStat [] 77, 5, 6, by decide +kernel⟩,
   ⟨sDbg 2, 5, 6, by decide +kernel⟩,
   ⟨s0, 5, 6, by decide +kernel⟩,
   ⟨s0, by decide +kernel⟩,
   ⟨islandDown s0 34, by decide +kernel⟩,
   ⟨sDbg 3, by decide +kernel⟩,
   ⟨sDbg 3, by decide +kernel⟩,
   ⟨sChal, 9, [1, 2, 3], by decide +kernel⟩,
   ⟨s0, by decide +kernel⟩,
   ⟨{ s0 with sec := { s0.sec with lockout := some 5 } }, by decide +kernel⟩,
   ⟨sChal, List.replicate 192 0, by decide +kernel⟩,
   ⟨{ sDbg 1 with sec := { (sDbg 1).sec with portStatus := 2, portData := 77 } }, 5, false, 6, by decide +kernel⟩,
   ⟨sDbg 1, sramBase, true, 7, by decide +kernel⟩,
   ⟨s0, 5, 1, true, 6, by decide +kernel⟩,
   ⟨s0, by decide +kernel⟩,
   ⟨s0, by decide +kernel⟩,
   ⟨s0, 0x20, by decide +kernel⟩,
   ⟨{ s0 with sec := { s0.sec with tapIr := 3 } }, by decide +kernel⟩⟩

/-- The hypotheses of each clause of DebugCommandsComplete. -/
theorem witness_debug_commands_complete :
    (∃ (s : State) (role : Role) (id : Nat) (c : List Byte), Manages role ∧ s.lockedOut = false ∧ s.challenge = some (id, c)) ∧
    (∃ (s : State) (tr : Transport) (id : Nat) (b : List Byte), (tr = .spi ∨ tr = .t1s) ∧ s.diong.sessions.any (fun x => decide (x.transport = tr) && decide (x.id = id)) = true) ∧
    (∃ (s : State) (tr : Transport) (id : Nat) (l : List Byte), tunnelOpen s tr id = true ∧ l.length % 16 = 0 ∧ l ≠ [] ∧ l.length ≤ 256) ∧
    (∃ (s : State) (tr : Transport) (id : Nat) (l : List Byte), tunnelOpen s tr id = false) ∧
    (∃ (s : State) (tag : Nat) (x : DbgSession), (tag = 4 ∨ tag = 5) ∧ s.sec.session = some x) ∧
    (∃ (s : State) (tag : Nat), tag < 4) ∧
    (∃ (s : State) (x : DbgSession), s.sec.session = some x) ∧
    (∃ (s : State) (value : Nat), 2 ≤ s.sec.dbgLevel) ∧
    (∃ (s : State) (tag value : Nat), (tag ≠ 5 ∨ s.sec.dbgLevel < 2)) ∧
    (∃ (s : State) (value : Nat), 2 ≤ s.sec.dbgLevel) ∧
    (∃ (s : State) (e : Nat), e < 18 ∧ 2 ≤ s.sec.dbgLevel ∧ ((s.eng e).st = .idle ∨ (s.eng e).st = .spare) ∧ rbit s .dbgEngHalt [] e = false) ∧
    (∃ (s : State) (e : Nat), e < 18 ∧ 2 ≤ s.sec.dbgLevel ∧ (s.eng e).st = .halted ∧ rbit s .dbgEngHalt [] e = true) ∧
    (∃ (s : State) (n : Nat), n < 4 ∧ (spGet (0, []) s.sec.oldCak n).1 ≠ 0) ∧
    (∃ (s : State) (c : Nat × List Byte × Nat), s.sec.chal = some c) ∧
    (∃ (s : State) (e : Nat), s.sec.lockout = some e) :=
  ⟨⟨sChal, .operator, 9, [1, 2, 3], by decide +kernel⟩,
   ⟨sSes ses0, .spi, 7, [1], by decide +kernel⟩,
   ⟨sDbg 2, .spi, 7, List.replicate 32 1, by decide +kernel⟩,
   ⟨s0, .spi, 7, [1], by decide +kernel⟩,
   ⟨wr (sDbg 2) .dbgEngHalt [] 5, 4, ⟨2, 1, 100, some (.spi, 7)⟩, by decide +kernel⟩,
   ⟨s0, 3, by decide +kernel⟩,
   ⟨sDbg 2, ⟨2, 1, 100, some (.spi, 7)⟩, by decide +kernel⟩,
   ⟨{ sDbg 2 with ctl := { s0.ctl with fwRuns := true, active := 1 } }, 2, by decide +kernel⟩,
   ⟨s0, 5, 2, by decide +kernel⟩,
   ⟨sDbg 2, 15, by decide +kernel⟩,
   ⟨(sDbg 2).setEng 17 { Eng.reset with st := .spare }, 17, by decide +kernel⟩,
   ⟨(wr (sDbg 2) .dbgEngHalt [] (2 ^ 17)).setEng 17 { Eng.reset with st := .halted }, 17, by decide +kernel⟩,
   ⟨{ s0 with sec := { s0.sec with oldCak := [(3, 5, [1])] } }, 3, by decide +kernel⟩,
   ⟨sChal, (9, [1, 2, 3], 0), by decide +kernel⟩,
   ⟨{ s0 with sec := { s0.sec with lockout := some 5 } }, 5, by decide +kernel⟩⟩

/-- The hypotheses of each clause of SpareCommandsComplete. -/
theorem witness_spare_commands_complete :
    (∃ (s : State), s.mem.mainMover = 0) ∧
    (∃ (s : State), s.mem.mainMover = 1 ∧ rbit s .dmaCtrl [] 0 = false) ∧
    (∃ (s : State), s.mem.mainMover = 1) ∧
    (∃ (s : State), s.mem.mainMover = 1 ∧ rbit s .dmaCtrl [] 0 = true) ∧
    (∃ (s : State) (c k pos : Nat), c < 8 ∧ k < 9 ∧ k ∉ (s.lanes c).retired ∧ positionOf s c k = some pos ∧ (s.lanes c).spare = none) ∧
    (∃ (s : State) (c k pos sp : Nat), c < 8 ∧ k < 9 ∧ k ∉ (s.lanes c).retired ∧ positionOf s c k = some pos ∧ (s.lanes c).spare = some sp ∧ (s.lanes c).move ≠ 0 ∧ (s.lanes c).pos ≠ pos) ∧
    (∃ (s : State) (c k : Nat), c < 8 ∧ k < 9 ∧ k ∉ (s.lanes c).retired ∧ positionOf s c k = none ∧ (s.lanes c).spare = some k) ∧
    (∃ (s : State) (e tag sp : Nat), e < 18 ∧ s.regOff .geSvc [e] = false ∧ s.tagDeviceOrD2 tag = true ∧ s.ctl.fwRuns = true ∧ (s.eng e).st = .idle ∧ (s.eng e).queue = [] ∧ (s.eng e).ready = [] ∧ (s.eng e).yielded = none ∧ (s.eng e).job = none ∧ (List.range 18).find? (fun i => (s.eng i).st = .spare) = some sp) ∧
    (∃ (s : State) (e tag : Nat), s.regOff .geSvc [e] = false ∧ s.tagDeviceOrD2 tag = false) ∧
    (∃ (s : State) (e tag : Nat), e < 18 ∧ e ∈ s.svc.eccDue ∧ (s.eng e).st = .running ∧ (∀ i < 18, (s.eng i).st ≠ .spare)) ∧
    (∃ (s : State) (e : Nat) (by_ : Bool) (sp : Nat), s.svc.takeover.find? (fun x => x.1 = e) = some (e, by_) ∧ (List.range 18).find? (fun i => (s.eng i).st = .spare) = some sp ∧ e ≠ sp) ∧
    (∃ (s : State), s.pwr.depth ≤ 2) ∧
    (∃ (s : State) (kind w : Nat), w < nvWords ∧ w ∉ s.nv.badWords) ∧
    (∃ (s : State) (kind w v : Nat), w < nvWords ∧ v < nvWords ∧ w ≠ v ∧ w ∉ s.nv.badWords ∧ v ∉ s.nv.badWords) :=
  ⟨⟨{ s0 with svc := { s0.svc with moverAt := 5 } }, by decide +kernel⟩,
   ⟨{ s0 with mem := { s0.mem with mainMover := 1 } }, by decide +kernel⟩,
   ⟨{ s0 with mem := { s0.mem with mainMover := 1 } }, by decide +kernel⟩,
   ⟨wbit { s0 with mem := { s0.mem with mainMover := 1 } } .dmaCtrl [] 0 true, by decide +kernel⟩,
   ⟨s0.setLanes 7 { Lanes.reset with spare := none }, 7, 7, 7, by decide +kernel⟩,
   ⟨s0.setLanes 7 { Lanes.reset with move := 2, pos := 1 }, 7, 7, 7, 8, by decide +kernel⟩,
   ⟨s0.setLanes 7 { Lanes.reset with move := 2, pos := 1 }, 7, 8, by decide +kernel⟩,
   ⟨{ sPool with ctl := { s0.ctl with fwRuns := true } }, 5, 4, 17, by decide +kernel⟩,
   ⟨s0, 5, 3, by decide +kernel⟩,
   ⟨{ sGe with svc := { s0.svc with eccDue := [17] } }, 17, 4, by decide +kernel⟩,
   ⟨{ sPool.setEng 16 { Eng.reset with st := .retired } with svc := { s0.svc with takeover := [(16, false)] } }, 16, false, 17, by decide +kernel⟩,
   ⟨s0, by decide +kernel⟩,
   ⟨s0, 1, 524287, by decide +kernel⟩,
   ⟨s0, 1, 524287, 0, by decide +kernel⟩⟩

/-- The hypotheses of each clause of HandoverCommandsComplete. -/
theorem witness_handover_commands_complete :
    (∃ (s : State) (role : Role) (image : List Byte), Manages role ∧ s.ho = 0) ∧
    (∃ (s : State) (role : Role) (image : List Byte), Manages role ∧ s.ho ≠ 0) ∧
    (∃ (s : State) (p : Nat), s.ctl.active < 2 ∧ p = 1 - s.ctl.active ∧ s.standby = 2 ∧ s.pairStopped p = false) ∧
    (∃ (s : State) (p : Nat), p < 2 ∧ p = s.ctl.active ∧ s.pairStopped p = false) ∧
    (∃ (s : State) (tag b tick : Nat), s.regOff .ctlFwHo [] = false ∧ s.tagDeviceOrD2 tag = true ∧ (b = 1 ∨ b = 2) ∧ s.standby = 3 ∧ s.ho = 0 ∧ s.pwrBusy = false) ∧
    (∃ (s : State) (tag tick : Nat), s.regOff .ctlFwHo [] = false ∧ s.tagDeviceOrD2 tag = true ∧ s.standby = 3 ∧ s.ho = 0 ∧ tick < s.now + 983040) ∧
    (∃ (s : State) (tag b tick : Nat), s.regOff .ctlFwHo [] = false ∧ s.tagDeviceOrD2 tag = true ∧ 1 ≤ b ∧ b ≤ 3 ∧ s.standby ≠ 3) ∧
    (∃ (s : State), s.ho = 1) ∧
    (∃ (s : State) (p : Nat), p < 2 ∧ p = s.ctl.active ∧ s.ho = 2 ∧ s.pairStopped p = false) ∧
    (∃ (s : State) (p : Nat), p < 2 ∧ p ≠ s.ctl.active ∧ s.pairStopped p = false) ∧
    (∃ (s : State) (p : Nat), p < 2 ∧ s.pairStopped p = true) ∧
    (∃ (s : State), s.ho = 2 ∧ s.ctl.active < 2 ∧ s.pairVerified (1 - s.ctl.active) = true ∧ s.pairStopped (1 - s.ctl.active) = false) ∧
    (∃ (s : State) (p : Nat), p < 2 ∧ p = s.ctl.active ∧ s.ho = 3 ∧ s.pairStopped p = false ∧ s.clk.elapsed - s.svc.probAt + s.svc.probDone ≤ 49152000) ∧
    (∃ (s : State), s.ho = 3 ∧ rbit s .ctlFwSig [] 2 = true ∧ s.ctl.promoteDue = false ∧ s.svc.probPaused = false ∧ s.ctl.active < 2) ∧
    (∃ (s : State), s.ho = 3 ∧ (s.ctl.promoteDue = true ∨ rbit s .ctlFwSig [] 2 = false ∧ s.svc.probPaused = false) ∧ s.ctl.active < 2) :=
  ⟨⟨sHo 0 0, .operator, [1], by decide +kernel⟩,
   ⟨sHo 1 3, .operator, [1], by decide +kernel⟩,
   ⟨sHo 0 2, 0, by decide +kernel⟩,
   ⟨sHo 0 2, 1, by decide +kernel⟩,
   ⟨sHo 0 3, 4, 2, 0, by decide +kernel⟩,
   ⟨sHo 0 3, 4, 983039, by decide +kernel⟩,
   ⟨sHo 0 2, 4, 3, 0, by decide +kernel⟩,
   ⟨{ sHo 1 3 with svc := { s0.svc with tb := 5000000 } }, by decide +kernel⟩,
   ⟨sHo 2 3, 1, by decide +kernel⟩,
   ⟨sHo 2 3, 0, by decide +kernel⟩,
   ⟨(sHo 2 3).setPair 0 true true, 0, by decide +kernel⟩,
   ⟨({ sHo 2 3 with svc := { s0.svc with tb := 5000000 } }).setPair 0 false true, by decide +kernel⟩,
   ⟨sHo 3 3, 1, by decide +kernel⟩,
   ⟨wbit (sHo 3 3) .ctlFwSig [] 2 true, by decide +kernel⟩,
   ⟨sHo 3 3, by decide +kernel⟩⟩

/-- The hypotheses of each clause of BootCommandsComplete. -/
theorem witness_boot_commands_complete :
    (∃ (s : State), s.boot.nreset = false ∧ s.boot.pwrgood = true) ∧
    (∃ (s : State), s.boot.nreset = false ∧ s.boot.pwrgood = false) ∧
    (∃ (s : State) (pin ns : Nat), pin < 2 ∧ 1000 ≤ ns) ∧
    (∃ (s : State) (pin ns : Nat), ns < 100) ∧
    (∃ (s : State), s.boot.rtcFrom = none) ∧
    (∃ (s : State) (x : BootIn), s.bootPhase = 1) ∧
    (∃ (s : State) (x : BootIn), s.bootPhase = 2 ∧ s.boot.done2 = false ∧ x.refclk = false) ∧
    (∃ (s : State) (x : BootIn), s.bootPhase = 2 ∧ s.boot.done2 = false ∧ x.refclk = true ∧ s.straps.bootSource = 0) ∧
    (∃ (s : State) (x : BootIn), s.bootPhase = 3 ∧ s.nv.lc = 5) ∧
    (∃ (s : State) (x : BootIn), s.bootPhase = 3 ∧ s.nv.lc ≠ 5 ∧ s.boot.loader = false ∧ s.straps.bootSource = 0 ∧ spGet [] s.nv.flash 0 = [] ∧ spGet [] s.nv.flash 1 = []) ∧
    (∃ (s : State) (x : BootIn), s.bootPhase = 4 ∧ s.boot.loader = false ∧ s.straps.bootSource = 0 ∧ spGet [] s.nv.flash 2 = [] ∧ spGet [] s.nv.flash 3 = []) ∧
    (∃ (s : State) (x : BootIn), s.bootPhase = 5) ∧
    (∃ (s : State), s.bootPhase = 2 ∧ rf s .pwrBoot [] 7 4 = 1 ∧ s.straps.bootSource = 0) ∧
    (∃ (s : State) (sub : Nat) (image : List Byte), s.boot.loader = true ∧ (sub = 1 ∨ sub = 2)) ∧
    (∃ (s : State) (sub : Nat) (image : List Byte), s.boot.loader = false) ∧
    (∃ (s : State) (value : Nat), 2 ≤ s.sec.dbgLevel ∧ bitOf value 9 = true ∧ s.straps.bootSource = 3 ∧ s.bootPhase = 2) ∧
    (∃ (s : State) (tag value : Nat), (tag ≠ 5 ∨ s.sec.dbgLevel < 2)) :=
  ⟨⟨{ s0 with boot := { s0.boot with pwrgood := true }, nv := { s0.nv with lc := 3, wrxCount := 77 } }, by decide +kernel⟩,
   ⟨s0, by decide +kernel⟩,
   ⟨{ sDrain with boot := { s0.boot with pwrgood := true, nreset := true } }, 0, 1000, by decide +kernel⟩,
   ⟨s0, 0, 99, by decide +kernel⟩,
   ⟨s0, by decide +kernel⟩,
   ⟨sBoot 1, in0 true, by decide +kernel⟩,
   ⟨sBoot 2, in0 false, by decide +kernel⟩,
   ⟨sBoot 2, in0 true, by decide +kernel⟩,
   ⟨{ sBoot 3 with nv := { s0.nv with lc := 5 } }, in0 true, by decide +kernel⟩,
   ⟨sBoot 3, in0 true, by decide +kernel⟩,
   ⟨sBoot 4, in0 true, by decide +kernel⟩,
   ⟨sBoot 5, in0 true, by decide +kernel⟩,
   ⟨wf (sBoot 2) .pwrBoot [] 7 4 1, by decide +kernel⟩,
   ⟨{ sBoot 2 with boot := { (sBoot 2).boot with loader := true, done2 := true } }, 1, [1, 2], by decide +kernel⟩,
   ⟨s0, 1, [1], by decide +kernel⟩,
   ⟨{ sBoot 2 with sec := { s0.sec with dbgLevel := 2 }, straps := { s0.straps with bootSource := 3 } }, 2 ^ 9, by decide +kernel⟩,
   ⟨s0, 5, 2 ^ 9, by decide +kernel⟩⟩

end Sys2Proof.Tests
end

section
/-!
The shared input of the monitors, and with it the settlement of O10.  MON_SHARED is a register whose write does something beside
its fields: a code outside R549's table is refused at write, so INP keeps its value.
-/

namespace Sys2Proof.Machine

/-! ## REGISTER_WRITE past the gate -/

/-- Past the gate, REGISTER_WRITE writes the register its address decodes to and answers OK. -/
theorem exec_registerWrite_of_gate {s : State} {m : Master} {tag a v : Nat} {id : RegId} {ix : List Nat}
    (hg : gate s m tag a true = (0, s)) (hd : regDecode a = some (id, ix)) (hb : blockMem a = false) :
    exec (.registerWrite m tag a v) s = .next (tokenStart s (emit (regWrite s m tag id ix v) (.bus 0 []))) := by
  rw [exec_registerWrite, execRegisterWrite, regWriteBy, hg]
  simp only [hd, hb]

/-- A command that leaves the lifecycle state starts nothing anew. -/
theorem tokenStart_of_nv_eq {before after : State} (h : after.nv = before.nv) : tokenStart before after = after :=
  if_pos (by rw [h])

/-! ## MON_SHARED.INP -/

/-- Every RW field of MON_SHARED takes its bits of the value written. -/
theorem writeFields_monShared (s : State) (v : Nat) :
    writeFields s .monShared [] v = wr s .monShared []
      (setBits (setBits (setBits (rd s .monShared []) 5 0 (bitsOf v 5 0)) 15 6 (bitsOf v 15 6)) 31 16 (bitsOf v 31 16)) := rfl

/-- The fields' own effect on INP, before the input's code is checked. -/
theorem rf_writeFields_monShared_inp (s : State) (v : Nat) :
    rf (writeFields s .monShared [] v) .monShared [] 5 0 = bitsOf v 5 0 := by
  have hcut : ∀ w, bitsOf (w % 2 ^ 64) 5 0 = bitsOf w 5 0 := fun w => by simp only [bitsOf]; omega
  rw [writeFields_monShared, rf, rd_wr_same]
  calc bitsOf (_ % 2 ^ 64) 5 0
      = bitsOf (setBits (rd s .monShared []) 5 0 (bitsOf v 5 0)) 5 0 := by
        rw [hcut, bitsOf_setBits_other _ _ _ _ _ _ (by decide) (by decide) (by decide),
          bitsOf_setBits_other _ _ _ _ _ _ (by decide) (by decide) (by decide)]
    _ = bitsOf v 5 0 := by
        rw [bitsOf_setBits_same _ _ _ _ (by decide)]
        exact Nat.mod_mod _ _

/-- A write of MON_SHARED with an origin tag that may make it writes the fields, then checks the input's code. -/
theorem regWrite_monShared {s : State} (m : Master) {tag : Nat} (v : Nat) (ht : regTag s tag .monShared = true) :
    regWrite s m tag .monShared [] v =
      afterWrite (writeFields s .monShared [] v) tag .monShared [] (rd s .monShared []) (bitOf v 2) := by
  simp [regWrite, ht, freezeRefused, ownCommand]

/-- A write of MON_SHARED whose input is no code of R549 puts INP back to what it was. -/
theorem regWrite_monShared_refused {s : State} (m : Master) {tag v : Nat} (ht : regTag s tag .monShared = true)
    (hv : monInput (bitsOf v 5 0) = false) :
    regWrite s m tag .monShared [] v = wf (writeFields s .monShared [] v) .monShared [] 5 0 (rf s .monShared [] 5 0) := by
  rw [regWrite_monShared m v ht, afterWrite, rf_writeFields_monShared_inp, hv, if_neg Bool.false_ne_true, rf]

/-- R549: MON_SHARED.INP keeps its value where the code written is refused. -/
theorem rf_regWrite_monShared_inp_refused {s : State} (m : Master) {tag v : Nat} (ht : regTag s tag .monShared = true)
    (hv : monInput (bitsOf v 5 0) = false) :
    rf (regWrite s m tag .monShared [] v) .monShared [] 5 0 = rf s .monShared [] 5 0 := by
  rw [regWrite_monShared_refused m ht hv, rf_wf _ _ _ _ _ _ (by decide) (by decide)]
  exact Nat.mod_mod _ _

/-- REGISTER_WRITE of MON_SHARED with a refused input code completes, and INP keeps its value. -/
theorem exec_registerWrite_monShared_refused {s t : State} {m : Master} {tag a v : Nat}
    (hg : gate s m tag a true = (0, s)) (hd : regDecode a = some (.monShared, [])) (hb : blockMem a = false)
    (ht : regTag s tag .monShared = true) (hv : monInput (bitsOf v 5 0) = false)
    (hx : exec (.registerWrite m tag a v) s = .next t) : rf t .monShared [] 5 0 = rf s .monShared [] 5 0 := by
  have hnv : (emit (regWrite s m tag .monShared [] v) (.bus 0 [])).nv = s.nv := by
    rw [regWrite_monShared_refused m ht hv, writeFields_monShared]
    simp
  rw [exec_registerWrite_of_gate hg hd hb, tokenStart_of_nv_eq hnv] at hx
  cases hx
  exact rf_regWrite_monShared_inp_refused m ht hv

/-- Refutes O10: `plainReg` takes MON_SHARED for a register without an action of its own, but R549 refuses an input code outside its
table at write.  At reset a control core writes INP = 24, a code the table does not list, and INP stays at 33, although its access code is RW. -/
theorem not_registerWriteByField : ¬ Obligations.RegisterWriteByField := by
  unfold Obligations.RegisterWriteByField
  rintro ⟨hfields, -⟩
  have hg : gate State.reset (.pair 0) 4 0x1800002400 true = (0, State.reset) := by decide +kernel
  have hd : regDecode 0x1800002400 = some (.monShared, []) := by decide +kernel
  have hb : blockMem 0x1800002400 = false := by decide +kernel
  have ht : regTag State.reset 4 .monShared = true := by decide
  obtain ⟨t, hx, -, hrw, -⟩ := hfields State.reset (.pair 0) 4 0x1800002400 24 .monShared [] hg hd hb ht (by decide)
  have hwritten : rf t .monShared [] 5 0 = 24 := hrw (5, 0, .rw) (by decide) rfl
  have hkept : rf t .monShared [] 5 0 = 33 :=
    (exec_registerWrite_monShared_refused hg hd hb ht (by decide) hx).trans (by decide +kernel)
  omega

end Sys2Proof.Machine
end

section
/-!
Transactions outside the windows of R33, and with them the settlement of O9: the gate turns them away with the address fault, and
nothing past the gate happens.
-/

namespace Sys2Proof.Machine

variable {s : State} {m : Master} {tag a : Nat}

/-- R34: the gate answers a transaction outside the windows with the address fault. -/
theorem gate_of_windowOf_none (write : Bool) (hm : s.silenced m = false) (ha : windowOf a = none) :
    gate s m tag a write = (4, addrFault s tag a) := by
  rw [gate, hm, ha]
  rfl

/-- A register write outside the windows leaves the address fault and answers OK (assumption 96). -/
theorem regWriteBy_of_windowOf_none (v : Nat) (hm : s.silenced m = false) (ha : windowOf a = none) :
    regWriteBy s m tag a v = emit (addrFault s tag a) (.bus 0 []) := by
  rw [regWriteBy, gate_of_windowOf_none true hm ha]
  rfl

/-- REGISTER_WRITE outside the windows, likewise. -/
theorem exec_registerWrite_of_windowOf_none (v : Nat) (hm : s.silenced m = false) (ha : windowOf a = none) :
    exec (.registerWrite m tag a v) s = .next (emit (addrFault s tag a) (.bus 0 [])) := by
  have hnv : (emit (addrFault s tag a) (.bus 0 [])).nv = s.nv := raise_nv ..
  rw [exec_registerWrite, execRegisterWrite, regWriteBy_of_windowOf_none v hm ha, tokenStart_of_nv_eq hnv]

/-- A fabric write outside the windows stores nothing and answers with the address fault. -/
theorem fabWrite_of_windowOf_none (b : List Byte) (ring : Option Nat) (hm : s.silenced m = false) (ha : windowOf a = none) :
    fabWrite s m tag a b ring = (4, addrFault s tag a) := by
  rw [fabWrite, gate_of_windowOf_none true hm ha]
  rfl

/-- A fabric read outside the windows gives zeros and answers with the address fault. -/
theorem fabRead_of_windowOf_none (n : Nat) (ring : Option Nat) (port : Nat) (hm : s.silenced m = false) (ha : windowOf a = none) :
    fabRead s m tag a n ring port = (4, List.replicate n 0, addrFault s tag a) := by
  rw [fabRead, gate_of_windowOf_none false hm ha]
  rfl

/-- Settles O9: register writes, fabric writes and fabric reads all meet the gate, which leaves `addrFault` alone; that records the
access and raises event 225. -/
theorem addressOutsideWindowsFaults : Obligations.AddressOutsideWindowsFaults := by
  unfold Obligations.AddressOutsideWindowsFaults
  refine ⟨fun s m tag a v hm ha => ?registerWrite, fun s m tag a b ring hm ha => ?fabWrite,
    fun s m tag a n ring port hm ha => ?fabRead, fun s tag a x => ⟨?recorded, ?raised⟩⟩
  case registerWrite => exact exec_registerWrite_of_windowOf_none v hm ha
  case fabWrite => rw [fabWrite_of_windowOf_none b ring hm ha]; rfl
  case fabRead => rw [fabRead_of_windowOf_none n ring port hm ha]; exact ⟨rfl, rfl⟩
  case recorded => exact raise_addrFaultRec ..
  case raised => exact fires_raise ..

end Sys2Proof.Machine
end

section
/-!
Whether policy firmware runs after a promotion (R25), and with it the settlement of O12.  The pair promoted runs firmware unless debug
halts it: R26 applies while the active pair is halted (R597).  The clause of PAIR_PROMOTION leaves the halt out.
-/

namespace Sys2Proof.Machine

variable {s : State}

/-! ## What firmware's start and stop do to the control pairs -/

theorem markOn_ctl (k : Nat) : (markOn s k).ctl = s.ctl := by
  unfold markOn
  split <;> rfl

theorem markOff_ctl (k : Nat) : (markOff s k).ctl = s.ctl := by
  unfold markOff
  split <;> rfl

/-- A fold of operations that leave the pairs leaves the pairs. -/
theorem foldl_ctl {α : Type} {f : State → α → State} (hf : ∀ s x, (f s x).ctl = s.ctl) (l : List α) :
    (l.foldl f s).ctl = s.ctl := by
  induction l generalizing s with
  | nil => rfl
  | cons x l ih => rw [List.foldl_cons, ih, hf]

/-- R26: of the pairs' record only the two flags of firmware change when it stops. -/
theorem firmwareStops_ctl : (firmwareStops s).ctl = { s.ctl with fwRuns := false, governedStale := true } := by
  unfold firmwareStops
  dsimp only
  rw [foldl_ctl, markOn_ctl]
  intro s p
  split <;> split <;> simp only [raise_ctl]

/-- Firmware runs after `firmwareResumes` exactly where the active pair can run it. -/
theorem firmwareResumes_fwRuns : (firmwareResumes s).ctl.fwRuns = s.canRun := by
  unfold firmwareResumes
  split
  case isTrue h => rw [markOff_ctl, h]
  case isFalse h =>
    rw [Bool.not_eq_true] at h
    rw [h]
    split
    case isTrue => rw [firmwareStops_ctl]
    case isFalse hr => rw [markOn_ctl]; exact Bool.eq_false_of_not_eq_true hr

/-! ## The exchange of the pairs -/

/-- With pair `p` active, firmware can run where `p` is verified, not stopped, and not halted by debug. -/
theorem canRun_of_active (p : Nat) : State.canRun { s with ctl := { s.ctl with active := p } } =
    (s.pairVerified p && !s.pairStopped p && !rbit s .dbgCoreCtrl [] p) := by
  simp only [State.canRun, Bool.not_eq_true, Bool.decide_eq_false]
  rfl

/-- After an exchange firmware runs where the other pair can run it: the registers written tell the slot and the image, not the halts. -/
theorem exchange_fwRuns : (exchange s).ctl.fwRuns =
    (s.pairVerified (1 - s.ctl.active) && !s.pairStopped (1 - s.ctl.active) && !rbit s .dbgCoreCtrl [] (1 - s.ctl.active)) := by
  unfold exchange
  dsimp only
  rw [firmwareResumes_fwRuns, canRun_of_active]
  simp (disch := decide) only [rbit, rd_wf_other]
  rfl

/-- R25: firmware runs after a promotion of the other pair unless debug halts that pair. -/
theorem promote_fwRuns (hho : s.ho ≠ 3) (hv : s.pairVerified (1 - s.ctl.active) = true)
    (hs : s.pairStopped (1 - s.ctl.active) = false) :
    (promote s).ctl.fwRuns = !rbit s .dbgCoreCtrl [] (1 - s.ctl.active) := by
  have hv' : ({ s with ctl := { s.ctl with promoteDue := false } } : State).pairVerified (1 - s.ctl.active) = true := hv
  have hs' : ({ s with ctl := { s.ctl with promoteDue := false } } : State).pairStopped (1 - s.ctl.active) = false := hs
  unfold promote
  rw [if_neg hho]
  dsimp only
  rw [hv', hs', if_pos (by decide), exchange_fwRuns, hv', hs']
  rfl

/-- PAIR_PROMOTION of a verified standby pair that is not stopped: firmware runs at the slot boundary unless debug halts that pair. -/
theorem exec_pairPromotion_fwRuns {t : State} (hd : s.ctl.promoteDue = true) (hho : s.ho ≠ 3)
    (hv : s.pairVerified (1 - s.ctl.active) = true) (hs : s.pairStopped (1 - s.ctl.active) = false)
    (hx : exec .pairPromotion s = .next t) : t.ctl.fwRuns = !rbit s .dbgCoreCtrl [] (1 - s.ctl.active) := by
  rw [exec_pairPromotion, execPairPromotion, if_pos hd] at hx
  cases hx
  have hrd : ∀ id ix, rd (toSlot s 7 0) id ix = rd s id ix := rd_eq_of_regs rfl rfl
  have hho' : (toSlot s 7 0).ho ≠ 3 := by rwa [State.ho, rf, hrd]
  rw [promote_fwRuns hho' hv hs, rbit, hrd]
  rfl

/-! ## A standby pair that debug halts -/

/-- Pair A has stopped on a lockstep fault and its promotion is due; pair B holds a verified image, and debug at D2 halts it. -/
def standbyHalted : State :=
  wbit { State.reset with
    ctl := { State.reset.ctl with stoppedA := true, verifiedA := true, verifiedB := true, promoteDue := true },
    sec := { State.reset.sec with dbgLevel := 2 } } .dbgCoreCtrl [] 1 true

/-- Refutes O12: in `standbyHalted` every hypothesis of the PAIR_PROMOTION clause holds, and pair B becomes active, but as debug halts it
no policy firmware runs (R26, R597). -/
theorem not_arrayCommandsComplete : ¬ Obligations.ArrayCommandsComplete := by
  unfold Obligations.ArrayCommandsComplete
  rintro ⟨-, -, -, -, hpromotion, -⟩
  have hho : standbyHalted.ho ≠ 3 := by decide +kernel
  have hhalted : rbit standbyHalted .dbgCoreCtrl [] (1 - standbyHalted.ctl.active) = true := rbit_wbit _ _ _ 1 true (by decide)
  obtain ⟨t, hx, -, hruns, -⟩ := hpromotion standbyHalted rfl hho rfl rfl
  have hstands := exec_pairPromotion_fwRuns rfl hho rfl rfl hx
  rw [hhalted, hruns] at hstands
  exact absurd hstands (by decide)

end Sys2Proof.Machine
end

section
/-!
What an idle tick does to time, and with it the settlement of O2.  A service window that has ended gives its paths back at the next
symbol boundary (R380, assumption 174), and the idle tick in which it ends waits for that boundary: more than one tick passes.
-/

namespace Sys2Proof.Machine

variable {s : State}

/-! ## Engines that stand still -/

theorem engineTick_of_not_running {e : Nat} (h : (s.eng e).st ≠ .running) : engineTick s e = s := by
  unfold engineTick engineTick.go
  rw [if_neg (fun hr => h hr.1)]

theorem foldl_engineTick_of_not_running (h : ∀ e, (s.eng e).st ≠ .running) (l : List Nat) : l.foldl engineTick s = s := by
  induction l with
  | nil => rfl
  | cons e l ih => rw [List.foldl_cons, engineTick_of_not_running (h e), ih]

/-! ## The end of a service window -/

theorem windowDue_ge : (windowDue s).ge = s.ge := by
  unfold windowDue
  split
  · exact (same_foldl (fun t p h => windowReturn_same p (Nat.and_self _) h) (Same.refl _ s)).but.ge (by decide)
  · rfl

/-- An idle tick leaves the engines before they issue. -/
theorem idleTick_ge : (idleTick s).ge = s.ge := by
  unfold idleTick
  rw [windowDue_ge, (safeDue_same (Nat.and_self _) (Same.refl _ _)).but.ge (by decide),
    (grantSet_same (Nat.and_self _) (Same.refl _ _)).but.ge (by decide), passTicks_ge]

/-- While no engine runs an idle step is an idle tick. -/
theorem idleStep_of_no_engine_running (h : ∀ e, (s.eng e).st ≠ .running) : idleStep s = idleTick s := by
  unfold idleStep
  refine foldl_engineTick_of_not_running (fun e => ?_) _
  rw [State.eng, idleTick_ge]
  exact h e

/-- R380: with the timeline running a path returns at the next symbol boundary, and time passes to it. -/
theorem windowReturn_clk (p : Nat) (hr : s.tlRuns = true) :
    (windowReturn s p).clk = (reachCount s (nextSymbol s.frameOfs s.refMu s.refEcp s.now)).clk := by
  unfold windowReturn
  dsimp only
  rw [if_pos hr, (arrayMargin_same (Nat.and_self _) (Same.refl _ _)).but.clk (by decide),
    (enterPathState_same p (Nat.and_self _) (Same.refl _ _)).but.clk (by decide)]

/-- The end of a service window that holds one path without a request. -/
theorem windowDue_clk {p : Nat} (hw : s.cal.window = [p]) (hfg : s.cal.fg = [])
    (hend : s.onum 0x7030 1 + s.onum 0x7030 2 * msTicks ≤ s.now) (hr : s.tlRuns = true) :
    (windowDue s).clk = (reachCount s (nextSymbol s.frameOfs s.refMu s.refEcp s.now)).clk := by
  have hdue : s.cal.window ≠ [] ∧ s.onum 0x7030 1 + s.onum 0x7030 2 * msTicks ≤ s.now :=
    ⟨by rw [hw]; exact List.cons_ne_nil _ _, hend⟩
  have hback : s.cal.window.filter (fun p => s.cal.fg.all (fun r => decide (r.path ≠ p))) = [p] := by rw [hw, hfg]; rfl
  unfold windowDue
  rw [if_pos hdue, hback, List.foldl_cons, List.foldl_nil, windowReturn_clk p hr]

/-! ## A tick in which a window ends -/

/-- The timeline runs, no engine does, and a service window of 5 ms from tick 1 holds path 0; the next tick is the window's last, and a
symbol has just begun. -/
def windowEnding : State :=
  let s := wbit (wr State.reset .tlPat [0] 4915200) .tlCtrl [] 0 true
  let s1 := ((s.setObj 0x7030 1 (.num 1)).setObj 0x7030 2 (.num 5)).setObj 0x7030 3 (.num 1)
  { s1 with clk := { s1.clk with elapsed := 2457600, count := 2457600 }, cal := { s1.cal with window := [0] },
            bm := { s1.bm with held := [0], mask := 1 } }

/-- The same when its tick has passed and nothing else was due. -/
def windowEnded : State := safeDue (grantSet (passTicks windowEnding 1))

/-- The idle step ends at the next symbol boundary, 35,328 ticks on. -/
theorem idleStep_windowEnding_elapsed : (idleStep windowEnding).clk.elapsed = 2457600 + 35328 := by
  have hstill : ∀ e, (windowEnding.eng e).st ≠ .running := fun e => (by decide : (Eng.reset).st ≠ .running)
  have hclk := windowDue_clk (s := windowEnded) (p := 0) rfl rfl (by decide +kernel) (by decide +kernel)
  rw [idleStep_of_no_engine_running hstill]
  calc (idleTick windowEnding).clk.elapsed
      = (reachCount windowEnded (nextSymbol windowEnded.frameOfs windowEnded.refMu windowEnded.refEcp windowEnded.now)).clk.elapsed :=
        congrArg Clk.elapsed hclk
    _ = 2457600 + 35328 := by decide +kernel

/-- Refutes O2: in `windowEnding` nothing waits and no engine runs, but the service window ends in the next tick, and one step passes
35,328 ticks, to the symbol boundary at which path 0 returns. -/
theorem not_emptyQueueTick : ¬ Obligations.EmptyQueueTick := by
  unfold Obligations.EmptyQueueTick
  intro h
  obtain ⟨t, hstep, -, helapsed, -⟩ := h windowEnding rfl
  rw [step_nil (s := windowEnding) rfl] at hstep
  injection hstep with ht
  rw [← ht, idleStep_windowEnding_elapsed] at helapsed
  exact absurd helapsed (by decide)

end Sys2Proof.Machine
end

section
/-!
The commands of the timeline, and with them the settlement of O13: what an entry boundary gives every path, which serial buses a guard's
end frees, and the counter after a correction.
-/

namespace Sys2Proof.Machine

variable {s t u : State}

/-! ## Folds over the paths -/

section Folds

variable {α : Type} {I : State → Prop} {P : State → α → Prop} {f : State → α → State}

/-- Under an invariant of the steps, what each step establishes of its element, and no later step undoes, holds of every element. -/
theorem foldl_each (hI : ∀ u a, I u → I (f u a)) (hself : ∀ u a, I u → P (f u a) a)
    (hother : ∀ u a b, I u → P u b → P (f u a) b) {l : List α} (h : I s) : ∀ b ∈ l, P (l.foldl f s) b := by
  have hkeep (b : α) (l : List α) (u : State) (h : I u ∧ P u b) : I (l.foldl f u) ∧ P (l.foldl f u) b :=
    List.foldlRecOn (motive := fun u => I u ∧ P u b) l f h (fun u ⟨hi, hp⟩ a _ => ⟨hI u a hi, hother u a b hi hp⟩)
  induction l generalizing s with
  | nil => exact fun b hb => absurd hb List.not_mem_nil
  | cons a l ih =>
    intro b hb
    rcases List.mem_cons.1 hb with rfl | hb
    · exact (hkeep b l _ ⟨hI s b h, hself s b h⟩).2
    · exact ih (hI s a h) b hb

end Folds

/-! ## Time -/

/-- Time passes to a counter value unless it has passed. -/
theorem reachCount_count (n : Nat) : (reachCount s n).clk.count = max s.clk.count n := by
  rw [Nat.max_def]
  show s.clk.count + (n - s.clk.count) = _
  split <;> omega

theorem le_nextFrame (ofs n : Nat) : n ≤ nextFrame ofs n := by
  unfold nextFrame
  dsimp only
  split <;> omega

/-! ## Corrections of the counter -/

theorem requestSync_tl (n : Nat) : (requestSync s n).tl = s.tl := rfl

theorem requestSync_clk (n : Nat) : (requestSync s n).clk = s.clk := rfl

section Corrections

variable {q : Int} (hl : s.ptpLocked = false) (hq : 200 < q.natAbs)
include hl hq

/-- R38: with a carrier active a correction above 50 ns is held pending, and reported. -/
theorem timeCorrection_of_active (ha : s.anyCarrierActive = true) :
    timeCorrection s q = raise { s with tl := { s.tl with pendStep := some (ticksOfQuarterNs q) } } 4 NA NA := by
  have hstep : ¬ (s.ptpLocked = true ∨ q.natAbs ≤ 200) := by simp [hl, hq]
  rw [timeCorrection, if_neg hstep, if_pos ha]

/-- R38: with none active it is applied at once, and a SYNC follows (R174). -/
theorem timeCorrection_of_inactive (ha : s.anyCarrierActive = false) :
    (timeCorrection s q).tl = { s.tl with pendStep := none, stepArmed := none } ∧
    (timeCorrection s q).clk = (stepCount s (ticksOfQuarterNs q)).clk := by
  have hstep : ¬ (s.ptpLocked = true ∨ q.natAbs ≤ 200) := by simp [hl, hq]
  rw [timeCorrection, if_neg hstep, ha, if_neg Bool.false_ne_true]
  exact ⟨rfl, rfl⟩

end Corrections

/-- A step at any counter value leaves the timeline's record, whatever STEP_ARM then reads. -/
theorem steppedAt_tl (n : Nat) (d : Int) (again : Bool) :
    (takeAgain (wbit (stepCount (reachCount s n) d) .tlCtrl [] 2 again) .tlCtrl [] 2).tl = s.tl := rfl

theorem exec_ptpCorrectionRequest_next (q : Int) : exec (.ptpCorrectionRequest q) s = .next (timeCorrection s q) := by
  rw [exec_ptpCorrectionRequest, execPtpCorrectionRequest]

/-- TIMELINE_STEP_APPLY of an armed step that is due (R37 to R39). -/
theorem exec_timelineStepApply_due {d : Int} {b : Nat} (hp : s.tl.pendStep = some d) (ha : s.tl.stepArmed = some b)
    (hl : s.ptpLocked = false) (hd : eventDueBefore s (stepBoundary s b) = false) :
    ∃ t, exec .timelineStepApply s = .next t ∧ t.tl = { s.tl with pendStep := none, stepArmed := none } ∧
      t.clk = (stepCount (reachCount s (stepBoundary s b)) d).clk := by
  have hdue : ¬ (s.ptpLocked = true ∨ eventDueBefore s (stepBoundary s b) = true) := by simp [hl, hd]
  rw [exec_timelineStepApply, execTimelineStepApply, hp, ha]
  dsimp only
  rw [if_neg hdue]
  refine ⟨_, rfl, ?_, ?_⟩
  · exact congrArg (fun x : Tl => { x with pendStep := none, stepArmed := none }) (steppedAt_tl ..)
  · simp only [requestSync_clk, takeAgain, wbit_clk]

/-- The boundary of a step is not before now. -/
theorem reachCount_stepBoundary (b : Nat) : (reachCount s (stepBoundary s b)).clk.count = nextFrame s.frameOfs (max b s.now) := by
  rw [reachCount_count, stepBoundary]
  exact Nat.max_eq_right ((Nat.le_max_right b s.now).trans (le_nextFrame _ _))

/-! ## The state that an entry gives a path -/

/-- An object's value rests on the registers, the object store and the straps. -/
theorem obj_congr (hr : rd t = rd s) (ho : t.objs = s.objs) (hs : t.straps = s.straps) (i sb : Nat) :
    t.obj i sb = s.obj i sb := by
  have ht : t.tenants = s.tenants := congrArg Straps.tenants hs
  have hw : State.obj.winDefault t = State.obj.winDefault s := by
    funext cc
    rw [State.obj.winDefault, ho, State.obj.winDefault]
  unfold State.obj
  cases objBlock i sb with
  | some l => rw [hr]
  | none =>
    cases objHome i sb with
    | some x => simp only [rf, hr]
    | none => rw [ht, ho, hw]

/-- What a path's entry into its state may change is nothing that the states of paths rest on. -/
theorem pathTarget_of_same (h : Same (allow [.tl, .fe, .cvt, .rx, .tx, .marks] []) s t) (p : Nat) : pathTarget t p = pathTarget s p := by
  have b := h.but
  have hr : rd t = rd s := by
    funext id ix
    rw [rd, b.regs (by decide) _ (fun _ hid => absurd hid List.not_mem_nil), rd, State.tenants, State.tenants, b.straps (by decide)]
  have hobj := obj_congr hr (b.objs (by decide)) (b.straps (by decide))
  have hpat : t.pattern = s.pattern := by rw [State.pattern, rf, rf, hr]; rfl
  have hruns : t.tlRuns = s.tlRuns := by rw [State.tlRuns, rbit, hr, hpat, State.tlRuns, rbit]
  have hentry : t.entryNow = s.entryNow := by
    rw [State.entryNow, hpat, State.frameOfs, hr, State.now, b.clk (by decide)]
    rfl
  have hpobj : t.pobj p 1 = s.pobj p 1 := by rw [State.pobj, State.onum, hobj, State.pobj, State.onum]
  have hisland : t.island (p / 8) = s.island (p / 8) := by rw [State.island, b.islands (by decide), State.island]
  have hheld : t.pathHeldOff p = s.pathHeldOff p := by
    rw [State.pathHeldOff, b.bm (by decide), b.cal (by decide), b.pwr (by decide), State.pathHeldOff]
  have hwindow (st dur : Nat) : calTargets t st dur p = calTargets s st dur p := by rw [calTargets, hr, calTargets]
  have hcal : t.calRunning p = s.calRunning p := by rw [State.calRunning, b.cal (by decide), State.calRunning]
  rw [pathTarget, hruns, hentry, hpobj, hisland, hheld, hcal, pathTarget]
  simp only [hwindow]

theorem attApplies_tl (p : Nat) (ps : PathState) : (attApplies s p ps).tl = s.tl :=
  (attApplies_same p ps (Nat.and_self _) (Same.refl _ s)).but.tl (by decide)

theorem markSilent_tl (p : Nat) : (markSilent s p).tl = s.tl :=
  (markSilent_same p (Nat.and_self _) (Same.refl _ s)).but.tl (by decide)

theorem dwellsOff_tl (p : Nat) : (dwellsOff s p).tl = s.tl :=
  (dwellsOff_same p (Nat.and_self _) (Same.refl _ s)).but.tl (by decide)

theorem setInput_tl (p : Nat) (i : RxInput) : (setInput s p i).tl = s.tl :=
  (setInput_same p i (Nat.and_self _) (Same.refl _ s)).but.tl (by decide)

theorem startTurnAt_tl (p : Nat) (ph : PinPhase) (n : Nat) : (startTurnAt s p ph n).tl = s.tl :=
  (startTurnAt_same p ph n (Nat.and_self _) (Same.refl _ s)).but.tl (by decide)

theorem finishTurn_tl (p : Nat) : (finishTurn s p).tl = s.tl :=
  (finishTurn_same p (Nat.and_self _) (Same.refl _ s)).but.tl (by decide)

/-- R44: a path takes the state of the entry now running; whatever turnaround follows leaves the timeline's record. -/
theorem enterPathState_tl (p : Nat) :
    (enterPathState s p).tl = { s.tl with path := spPut PathState.off s.tl.path p (pathTarget s p) } := by
  unfold enterPathState startTurn
  dsimp only
  repeat' split
  all_goals simp only [setInput_tl, finishTurn_tl, startTurnAt_tl, markSilent_tl, dwellsOff_tl, attApplies_tl]

theorem pathState_enterPathState (p q : Nat) :
    (enterPathState s p).pathState q = if q = p then pathTarget s p else s.pathState q := by
  rw [State.pathState, enterPathState_tl]
  exact spGet_spPut ..

/-- One path's entry, counted where it is into a guard, changes nothing that the states of paths rest on. -/
theorem enterPathState_counted_same (g : Bool) (p : Nat) (h : Same (allow [.tl, .fe, .cvt, .rx, .tx, .marks] []) s u) :
    Same (allow [.tl, .fe, .cvt, .rx, .tx, .marks] []) s (enterPathState (if g then countGuard u p else u) p) :=
  enterPathState_same p (Nat.and_self _) (same_ite (countGuard_same p (by decide) h) h)

theorem pathState_enterPathState_counted (g : Bool) (p q : Nat) (h : Same (allow [.tl, .fe, .cvt, .rx, .tx, .marks] []) s u) :
    (enterPathState (if g then countGuard u p else u) p).pathState q = if q = p then pathTarget s p else u.pathState q := by
  have htarget := pathTarget_of_same (same_ite (c := g = true) (countGuard_same p (by decide) h) h) p
  have hstate : (if g then countGuard u p else u).pathState q = u.pathState q := by cases g <;> rfl
  rw [pathState_enterPathState, htarget, hstate]

/-- R44: once every path has entered, each is in the state that the entry now running gives it. -/
theorem pathState_foldl_enterPathState (g : Bool) (l : List Nat) :
    ∀ p ∈ l, (l.foldl (fun s p => enterPathState (if g then countGuard s p else s) p) s).pathState p =
      pathTarget (l.foldl (fun s p => enterPathState (if g then countGuard s p else s) p) s) p := by
  intro p hp
  have hsame := same_foldl (l := l) (fun u p h => enterPathState_counted_same g p h) (Same.refl _ s)
  rw [pathTarget_of_same hsame p]
  refine foldl_each (P := fun u p => u.pathState p = pathTarget s p) (fun u p h => enterPathState_counted_same g p h)
    (fun u p h => ?_) (fun u p q h hq => ?_) (Same.refl _ s) p hp
  · rw [pathState_enterPathState_counted g p p h, if_pos rfl]
  · rw [pathState_enterPathState_counted g p q h]
    split
    next hqp => rw [hqp]
    next => exact hq

/-! ## Serial buses at a guard's end -/

/-- A path whose serial bus is free keeps it free. -/
def BusesFree (s t : State) : Prop := ∀ q, (s.pathFe q).bus = none → (t.pathFe q).bus = none

theorem BusesFree.trans (h : BusesFree s t) (k : BusesFree t u) : BusesFree s u := fun q hq => k q (h q hq)

theorem BusesFree.of_fe (h : t.fe = s.fe) : BusesFree s t := fun q hq => by
  rw [State.pathFe, h]
  exact hq

/-- One front end changes, and its bus is not taken. -/
theorem BusesFree.of_put {p : Nat} {x : PathFe} (h : t.fe = spPut PathFe.reset s.fe p x)
    (hx : (s.pathFe p).bus = none → x.bus = none) : BusesFree s t := by
  intro q hq
  rw [State.pathFe, h, spGet_spPut]
  split
  next hqp => exact hx (hqp ▸ hq)
  next => exact hq

theorem BusesFree.setFe_of_fe {p : Nat} {x : PathFe} (h : t.fe = s.fe) (hx : (s.pathFe p).bus = none → x.bus = none) :
    BusesFree s (t.setFe p x) := .of_put (congrArg (fun m => spPut PathFe.reset m p x) h) hx

theorem BusesFree.setFe {p : Nat} {x : PathFe} (hx : (s.pathFe p).bus = none → x.bus = none) : BusesFree s (s.setFe p x) :=
  .of_put rfl hx

theorem BusesFree.foldl {α : Type} {f : State → α → State} (hf : ∀ u a, BusesFree u (f u a)) (l : List α) :
    BusesFree s (l.foldl f s) :=
  List.foldlRecOn l f (fun _ hq => hq) (fun u h a _ => h.trans (hf u a))

theorem markSilent_fe (p : Nat) : (markSilent s p).fe = s.fe :=
  (markSilent_same p (Nat.and_self _) (Same.refl _ s)).but.fe (by decide)

theorem markSilent_busesFree (p : Nat) : BusesFree s (markSilent s p) := .of_fe (markSilent_fe p)

/-- One front end changes, its bus not taken, and the time its path is silent is noted. -/
theorem BusesFree.setFe_silent {p : Nat} {x : PathFe} (hx : (s.pathFe p).bus = none → x.bus = none) :
    BusesFree s (markSilent (s.setFe p x) p) :=
  (BusesFree.setFe hx).trans (markSilent_busesFree p)

theorem setInput_fe (p : Nat) (i : RxInput) : (setInput s p i).fe = s.fe :=
  (setInput_same p i (Nat.and_self _) (Same.refl _ s)).but.fe (by decide)

theorem truncCapture_fe (p : Nat) : (truncCapture s p).fe = s.fe :=
  (truncCapture_same p (Nat.and_self _) (Same.refl _ s)).but.fe (by decide)

theorem statPath_fe (p item n : Nat) : (statPath s p item n).fe = s.fe :=
  (statPath_same p item n (Nat.and_self _) (Same.refl _ s)).but.fe (by decide)

theorem serialCode_busesFree (p code : Nat) : BusesFree s (serialCode s p code) := by
  refine .of_put (p := p) (x := { s.pathFe p with lastErr := code }) ?_ id
  unfold serialCode
  dsimp only
  split
  · rfl
  · rw [statPath_fe]
    rfl

theorem moduleFault_busesFree (p : Nat) : BusesFree s (moduleFault s p) := .of_fe (by rw [moduleFault, raise_fe, setFlag_fe])

theorem failPath_busesFree (p : Nat) : BusesFree s (failPath s p) := by
  unfold failPath
  dsimp only
  split
  · exact .of_put (p := p) rfl id
  · exact .of_fe rfl

/-- A transaction's end frees its bus and takes none (R118). -/
theorem endTxn_busesFree (p code : Nat) : BusesFree s (endTxn s p code) := by
  have hfault (c : Prop) [Decidable c] (u : State) : BusesFree u (if c then moduleFault u p else u) := by
    split
    · exact moduleFault_busesFree p
    · exact .of_fe rfl
  have hfail (c : Prop) [Decidable c] (u : State) : BusesFree u (if c then failPath u p else u) := by
    split
    · exact failPath_busesFree p
    · exact .of_fe rfl
  unfold endTxn
  dsimp only
  split
  · exact .of_fe rfl
  · refine .trans ?_ (hfail _ _)
    refine .trans ?_ (hfault _ _)
    refine .trans ?_ (serialCode_busesFree p code)
    exact .setFe (fun _ => rfl)

/-- R103: a turnaround starts with the path's bus free, FEA low. -/
theorem startTurn_fe (p : Nat) (ph : PinPhase) : (startTurn s p ph).fe = spPut PathFe.reset s.fe p
    { s.pathFe p with turn := some ⟨ph, s.clk.elapsed, 0⟩, fea := .low, bus := none, ovl := false } := by
  have htrunc (c : Prop) [Decidable c] : (if c then truncCapture s p else s).fe = s.fe := by
    split
    · exact truncCapture_fe p
    · rfl
  unfold startTurn startTurnAt
  cases ph <;> dsimp only <;> rw [setInput_fe, State.setFe, htrunc]

theorem startTurn_busesFree (p : Nat) (ph : PinPhase) : BusesFree s (startTurn s p ph) :=
  .of_put (startTurn_fe p ph) (fun _ => rfl)

theorem startTurn_bus (p : Nat) (ph : PinPhase) : ((startTurn s p ph).pathFe p).bus = none := by
  rw [State.pathFe, startTurn_fe, spGet_spPut_same]

/-- No step of a turnaround takes a bus (R103). -/
theorem turnStep_busesFree (p : Nat) : BusesFree s (turnStep s p) := by
  have hgain (c : Prop) [Decidable c] : (if c then gainChanged s p else s).fe = s.fe := by split <;> rfl
  unfold turnStep
  dsimp only
  split
  next => exact .of_fe rfl
  next τ _ =>
    split
    · exact .setFe id
    · split
      · split
        · exact .setFe_silent id
        · exact .setFe_silent id
      · split
        · cases τ.upto <;> dsimp only
          case rx => exact .setFe_of_fe (hgain _) id
          all_goals exact .setFe id
        · exact .setFe id

theorem finishTurn_busesFree (p : Nat) : BusesFree s (finishTurn s p) :=
  ((turnStep_busesFree p).trans (turnStep_busesFree p)).trans ((turnStep_busesFree p).trans (turnStep_busesFree p))

theorem deferRetries_busesFree (p : Nat) : BusesFree s (deferRetries s p) := by
  unfold deferRetries
  dsimp only
  split
  · refine .trans ?_ (.foldl (fun u _ => moduleFault_busesFree p) _)
    refine .trans ?_ (.foldl (fun u _ => serialCode_busesFree p 9) _)
    exact .setFe id
  · exact .of_fe rfl

/-- What a guard's end does to a path once its bus is free: retries are deferred, and a path whose synthesiser is not LOCKED is blanked. -/
def guardEndFree (s : State) (p : Nat) : State :=
  let s1 := deferRetries s p
  if ¬ s1.txLocked p then markSilent (s1.setFe p { s1.pathFe p with blanked := true }) p else s1

theorem guardEndFree_busesFree (p : Nat) : BusesFree s (guardEndFree s p) := by
  unfold guardEndFree
  dsimp only
  refine (deferRetries_busesFree p).trans ?_
  split
  · exact .setFe_silent id
  · exact .of_fe rfl

theorem guardEndPath_of_free {p : Nat} (h : (s.pathFe p).bus = none) : guardEndPath s p = guardEndFree s p := by
  rw [guardEndPath, h]
  rfl

/-- A transaction still on the bus is ended, and the pins take the next state's meaning in a turnaround (R51, R119). -/
theorem guardEndPath_of_busy {p : Nat} {x : Txn} (h : (s.pathFe p).bus = some x) :
    ∃ u ph, BusesFree s u ∧ guardEndPath s p = guardEndFree (finishTurn (startTurn u p ph) p) p := by
  refine ⟨raise (bump (endTxn s p 7) .tlGuardOvr []) 2 NA p, phaseOf (pathTarget (raise (bump (endTxn s p 7) .tlGuardOvr []) 2 NA p) p),
    (endTxn_busesFree p 7).trans (.of_fe ?_), ?_⟩
  · rw [raise_fe, bump_fe]
  · rw [guardEndPath, h]
    rfl

theorem guardEndPath_busesFree (p : Nat) : BusesFree s (guardEndPath s p) := by
  cases h : (s.pathFe p).bus with
  | none =>
    rw [guardEndPath_of_free h]
    exact guardEndFree_busesFree p
  | some x =>
    obtain ⟨u, ph, hu, e⟩ := guardEndPath_of_busy h
    rw [e]
    exact hu.trans ((startTurn_busesFree p ph).trans ((finishTurn_busesFree p).trans (guardEndFree_busesFree p)))

/-- R51: at a guard's end no transaction is left on the path's bus. -/
theorem guardEndPath_bus (p : Nat) : ((guardEndPath s p).pathFe p).bus = none := by
  cases h : (s.pathFe p).bus with
  | none => exact guardEndPath_busesFree p p h
  | some x =>
    obtain ⟨u, ph, -, e⟩ := guardEndPath_of_busy h
    rw [e]
    exact ((finishTurn_busesFree p).trans (guardEndFree_busesFree p)) p (startTurn_bus p ph)

theorem foldl_guardEndPath_bus (l : List Nat) : ∀ p ∈ l, ((l.foldl guardEndPath s).pathFe p).bus = none :=
  foldl_each (I := fun _ => True) (P := fun u p => (u.pathFe p).bus = none) (fun _ _ _ => trivial) (fun _ p _ => guardEndPath_bus p)
    (fun _ p q _ hq => guardEndPath_busesFree p q hq) trivial

theorem guardCalDone_fe : (guardCalDone s).fe = s.fe :=
  (guardCalDone_same (Nat.and_self _) (Same.refl _ s)).but.fe (by decide)

/-- A guard's end takes no time on any path. -/
theorem guardCalDone_foldl_guardEndPath_clk (l : List Nat) : (guardCalDone (l.foldl guardEndPath s)).clk = s.clk := by
  rw [(guardCalDone_same (Nat.and_self _) (Same.refl _ _)).but.clk (by decide)]
  exact (same_foldl (fun _ p h => guardEndPath_same p (Nat.and_self _) h) (Same.refl _ s)).but.clk (by decide)

/-! ## The obligation -/

/-- TL_NOW_LO_READ (R36): the low word goes out, the high word is latched. -/
theorem exec_tlNowLoRead_next : Completes .tlNowLoRead s fun t =>
    t.out = s.out ++ [.bus 0 (beBytes 4 (s.now % 2 ^ 32))] ∧ rd t .tlNowHi [] = s.now / 2 ^ 32 % 2 ^ 32 := by
  rw [Completes, exec_tlNowLoRead, execTlNowLoRead]
  refine ⟨_, rfl, rfl, ?_⟩
  exact (rd_eq_of_regs (s := wr s .tlNowHi [] (s.now / 2 ^ 32)) rfl rfl _ _).trans (rd_wr_same s .tlNowHi [] _)

/-- PATTERN_ENTRY_BOUNDARY (R44) while the timeline runs. -/
theorem exec_patternEntryBoundary_next (hr : s.tlRuns = true) :
    Completes .patternEntryBoundary s fun t => ∀ p < 64, t.pathState p = pathTarget t p := by
  rw [Completes, exec_patternEntryBoundary, execPatternEntryBoundary, if_pos hr]
  exact ⟨_, rfl, fun p hp => pathState_foldl_enterPathState _ _ p (List.mem_range.2 hp)⟩

/-- GUARD_END (R51) of the guard that runs, or that ends now. -/
theorem exec_guardEnd_next {e : Nat} (hr : s.tlRuns = true) (he : guardEnd s = some e) :
    Completes .guardEnd s fun t => t.clk.count = max s.clk.count e ∧ ∀ p < 64, (t.pathFe p).bus = none := by
  rw [Completes, exec_guardEnd, execGuardEnd, if_pos hr, he]
  refine ⟨_, rfl, ?_, fun p hp => ?_⟩
  · rw [guardCalDone_foldl_guardEndPath_clk, reachCount_count]
  · exact BusesFree.of_fe guardCalDone_fe p (foldl_guardEndPath_bus _ p (List.mem_range.2 hp))

/-- Settles O13: corrections by `timeCorrection` and the armed step, entry boundaries and guard ends by folds over the paths. -/
theorem timelineCommandsComplete : Obligations.TimelineCommandsComplete := by
  unfold Obligations.TimelineCommandsComplete
  refine ⟨fun s q hl hq ha => ?held, fun s q hl hq ha => ?applied, fun s d b hp ha hl hd => ?armed, fun s => exec_tlNowLoRead_next,
    fun s hr => exec_patternEntryBoundary_next hr, fun s e hr he => exec_guardEnd_next hr he⟩
  case held =>
    have hx := timeCorrection_of_active hl hq ha
    refine ⟨timeCorrection s q, exec_ptpCorrectionRequest_next q, ?_, ?_, ?_⟩
    · rw [hx, raise_tl]
    · rw [hx, raise_clk]
    · rw [hx]
      exact fires_raise ..
  case applied =>
    obtain ⟨htl, hclk⟩ := timeCorrection_of_inactive hl hq ha
    refine ⟨timeCorrection s q, exec_ptpCorrectionRequest_next q, ?_, ?_⟩
    · rw [htl]
    · rw [hclk, stepCount]
  case armed =>
    obtain ⟨t, hx, htl, hclk⟩ := exec_timelineStepApply_due hp ha hl hd
    refine ⟨t, hx, ?_, ?_, ?_⟩
    · rw [htl]
    · rw [htl]
    · rw [hclk, stepCount, reachCount_stepBoundary]

end Sys2Proof.Machine
end

section
/-!
Admission and its boundary, and with them the settlement of O14: the record that an end of admission leaves, the boundary of an accepted
commit, and the frame boundary at which carriers are removed.
-/

namespace Sys2Proof.Machine

variable {s v : State}

/-! ## Frame boundaries -/

theorem isFrame_nextFrame (ofs n : Nat) : isFrame ofs (nextFrame ofs n) = true := by
  unfold isFrame nextFrame framePos frameTicks
  dsimp only
  split
  case isTrue h => rw [h, decide_eq_true rfl]
  case isFalse h =>
    rw [decide_eq_true_eq]
    omega

/-- A happening falls on a boundary: what `f` gives after some counter value. -/
theorem toBoundary_count {f : Nat → Nat} (hf : ∀ n, n ≤ f n) (key inst : Nat) :
    ∃ n, (toBoundary s key inst f).clk.count = f n := by
  have hreach {n : Nat} (h : s.clk.count ≤ n) : (reachCount s n).clk.count = n := by rw [reachCount_count, Nat.max_eq_right h]
  unfold toBoundary
  dsimp only
  split
  · exact ⟨_, hreach ((Nat.le_succ _).trans (hf _))⟩
  · exact ⟨_, hreach (hf _)⟩

theorem isFrame_toFrame (key inst : Nat) : isFrame s.frameOfs (toFrame s key inst).clk.count = true := by
  obtain ⟨n, hn⟩ := toBoundary_count (s := s) (le_nextFrame s.frameOfs) key inst
  rw [toFrame, hn]
  exact isFrame_nextFrame _ _

/-! ## The end of admission -/

/-- A result recorded is the last, and neither starts nor ends a commit (R62). -/
theorem recordResult_adm (role : Role) (r : AdmResult) : ∃ per,
    (recordResult s role r).adm = { s.adm with last := r, perTenant := per } := by
  unfold recordResult
  cases role with
  | tenant n => exact ⟨_, rfl⟩
  | operator => exact ⟨_, rfl⟩
  | service => exact ⟨_, rfl⟩

theorem foldl_raise_adm (src inst : Nat) (l : List Nat) : (l.foldl (fun s i => raise s src inst i) s).adm = s.adm :=
  List.foldlRecOn (motive := fun u => u.adm = s.adm) l _ rfl (fun u h i _ => (raise_adm u src inst i).trans h)

/-- What an accepted commit starts before its boundary leaves the record of admission but for the commit itself. -/
theorem acceptCommit_adm (j : CommitJob) (b : Nat) :
    (acceptCommit s j b).adm = { s.adm with running := none, waiting := some { j with at_ := b } } := by
  have hkernels (c : Prop) [Decidable c] (u : State) (l : List (Nat × List Byte)) :
      (if c then startRoll u l else u).adm = u.adm := by
    split
    · exact (startRoll_same l (Nat.and_self _) (Same.refl _ u)).but.adm (by decide)
    · rfl
  have hrolls (c : Prop) [Decidable c] (u : State) (x : Rx) : (if c then u else { u with rx := x }).adm = u.adm := by split <;> rfl
  have hpulses (u w : State) : (shadowPulses (reserveTrunks u w) w b).adm = u.adm := by
    rw [(shadowPulses_same b (Nat.and_self _) (Same.refl _ _)).but.adm (by decide),
      (reserveTrunks_same (Nat.and_self _) (Same.refl _ _)).but.adm (by decide)]
  unfold acceptCommit
  dsimp only
  split
  · rw [hkernels, hrolls, hpulses]
  · rw [(armStep_same b (Nat.and_self _) (Same.refl _ _)).but.adm (by decide), hkernels, hrolls, hpulses]

/-- An end `e` of admission's run on `j`: admission runs no more, its result is the last recorded, and `j` waits for its boundary exactly
where it was accepted (R57, R62). -/
def AdmissionEnds (s : State) (j : CommitJob) (e : AdmResult × Nat × State) : Prop :=
  e.2.2.adm.running = none ∧ e.2.2.adm.last = e.1 ∧
    e.2.2.adm.waiting = if e.1.code = 0 then some { j with at_ := e.2.1 } else s.adm.waiting

theorem admissionEnds_refused {j : CommitJob} {r : AdmResult} (l : List Nat) (hr : r.code ≠ 0) :
    AdmissionEnds s j
      (r, 0, l.foldl (fun s i => raise s 100 NA i) (refuseCommit { s with adm := { s.adm with running := none } } j.role r)) := by
  obtain ⟨per, h⟩ := recordResult_adm (s := { s with adm := { s.adm with running := none } }) j.role r
  rw [AdmissionEnds, foldl_raise_adm, refuseCommit, raise_adm, h, if_neg hr]
  exact ⟨rfl, rfl, rfl⟩

theorem admissionEnds_accepted {j : CommitJob} {r : AdmResult} (b : Nat) (hr : r.code = 0) :
    AdmissionEnds s j (r, b, acceptCommit (recordResult s j.role r) j b) := by
  obtain ⟨per, h⟩ := recordResult_adm (s := s) j.role r
  rw [AdmissionEnds, acceptCommit_adm, h, if_pos hr]
  exact ⟨rfl, rfl, rfl⟩

/-- Admission ends refused by a check, refused for a boundary too near (R58), or accepted. -/
theorem admissionEnd_ends (j : CommitJob) : AdmissionEnds s j (admissionEnd s j) := by
  unfold admissionEnd
  dsimp only
  generalize jobResult s j = r
  split
  next hcode => exact admissionEnds_refused (r := { r with epoch := s.adm.epoch }) _ hcode
  next hcode =>
    split
    next => exact admissionEnds_refused _ (Nat.succ_ne_zero 15)
    next => exact admissionEnds_accepted (r := { r with epoch := s.adm.epoch + 1 }) _ (Decidable.not_not.1 hcode)

/-- ADMISSION_RESULT: the answer to the session leaves the record of admission as its end made it. -/
theorem exec_admissionResult_adm {j : CommitJob} (hj : s.adm.running = some j) :
    ∃ t, exec .admissionResult s = .next t ∧ t.adm = (admissionEnd s j).2.2.adm := by
  rw [exec_admissionResult, execAdmissionResult, hj]
  dsimp only
  generalize admissionEnd s j = e
  obtain ⟨r, tick, u⟩ := e
  exact ⟨_, rfl, (answerJob_same j r tick (Nat.and_self _) (Same.refl _ u)).but.adm (by decide)⟩

/-! ## The boundary -/

theorem takeEffect_adm (staged : List (Nat × Nat)) : (takeEffect s v staged).adm = v.adm :=
  (takeEffect_same staged (Nat.and_self _) (Same.refl _ v)).but.adm (by decide)

/-- A configuration takes effect in no time. -/
theorem takeEffect_clk (staged : List (Nat × Nat)) : (takeEffect s v staged).clk = v.clk :=
  (takeEffect_same staged (Nat.and_self _) (Same.refl _ v)).but.clk (by decide)

/-- The snapshot in force, with the grants of the rings. -/
theorem grantMasks_overlay_same (objs : Sparse ObjVal) (regs : Sparse RegVal) :
    Same (allowAny [.objs, .objGen]) s (grantMasks (overlay s objs regs)) :=
  grantMasks_same (by decide) (overlay_same objs regs (Nat.and_self _) (Same.refl _ s))

/-- R61: the boundary's tick is reached, the commit waits no more, and the epoch counts one. -/
theorem commitBoundary_adm (j : CommitJob) :
    (commitBoundary s j).adm = { s.adm with waiting := none, epoch := (s.adm.epoch + 1) % 2 ^ 64 } := by
  have h := (grantMasks_overlay_same (s := reachCount s j.at_) j.objs j.regs).butAny.adm (by decide)
  unfold commitBoundary
  dsimp only
  rw [raise_adm, takeEffect_adm, h, reachCount, passTicks_adm]

theorem commitBoundary_count (j : CommitJob) : (commitBoundary s j).clk.count = max s.clk.count j.at_ := by
  have h := (grantMasks_overlay_same (s := reachCount s j.at_) j.objs j.regs).butAny.clk (by decide)
  unfold commitBoundary
  dsimp only
  rw [raise_clk, takeEffect_clk, h, reachCount_count]

theorem commitBoundary_fires (j : CommitJob) : Fires (commitBoundary s j) 0 := by
  unfold commitBoundary
  dsimp only
  exact fires_raise ..

/-! ## Loss of capacity -/

theorem repeatAdmission_again : (repeatAdmission s).adm.again = false := by
  unfold repeatAdmission
  dsimp only
  split
  · rfl
  · rw [raise_adm]

/-- R82: when the committed configuration passes no more, a removal is due and the event is raised. -/
theorem repeatAdmission_of_failed
    (h : (admitResult { s with adm := { s.adm with again := false } } { s with adm := { s.adm with again := false } } []).code ≠ 0) :
    (repeatAdmission s).adm.dropDue = true ∧ Fires (repeatAdmission s) 5 := by
  unfold repeatAdmission
  dsimp only
  rw [if_neg h]
  exact ⟨by rw [raise_adm], fires_raise ..⟩

/-- Carriers are removed in no time. -/
theorem removalDone_dropCarriers_clk (n : Nat) : (removalDone s (dropCarriers n v)).clk = v.clk := by
  rw [removalDone]
  dsimp only
  rw [takeEffect_clk, (dropCarriers_same n (Nat.and_self _) (Same.refl _ v)).butAny.clk (by decide)]

/-- Of admission's record only the epoch changes as carriers are removed. -/
theorem removalDone_dropCarriers_adm (n : Nat) :
    (removalDone s (dropCarriers n v)).adm = { v.adm with epoch := (v.adm.epoch + 1) % 2 ^ 64 } := by
  rw [removalDone]
  dsimp only
  rw [takeEffect_adm, (dropCarriers_same n (Nat.and_self _) (Same.refl _ v)).butAny.adm (by decide)]

/-- CARRIER_DROP_REMOVAL (R82): at a frame boundary the removal is due no more, whether or not carriers are removed. -/
theorem exec_carrierDropRemoval_next (hd : s.adm.dropDue = true) :
    ∃ t, exec .carrierDropRemoval s = .next t ∧ t.adm.dropDue = false ∧ t.clk = (toFrame s 0x52 0).clk := by
  rw [exec_carrierDropRemoval, execCarrierDropRemoval, if_pos hd]
  dsimp only
  split
  · exact ⟨_, rfl, rfl, rfl⟩
  · refine ⟨_, rfl, ?_, ?_⟩
    · rw [removalDone_dropCarriers_adm]
    · rw [removalDone_dropCarriers_clk]

/-! ## The obligation -/

/-- Settles O14: each command's next state by the record of admission and the time it leaves. -/
theorem admissionCommandsComplete : Obligations.AdmissionCommandsComplete := by
  unfold Obligations.AdmissionCommandsComplete
  refine ⟨fun s j hj => ?result, fun s j hj => ?boundary, fun s ha => ?capacity, fun s hd => ?removal⟩
  case result =>
    obtain ⟨t, hx, hadm⟩ := exec_admissionResult_adm hj
    obtain ⟨hrunning, hlast, hwaiting⟩ := admissionEnd_ends (s := s) j
    refine ⟨t, hx, ?_, ?_, ?_⟩
    · rw [hadm, hrunning]
    · rw [hadm, hlast]
    · rw [hadm, hlast, hwaiting]
  case boundary =>
    refine ⟨commitBoundary s j, by rw [exec_commitBoundary, execCommitBoundary, hj], ?_, ?_, commitBoundary_count j,
      commitBoundary_fires j⟩
    · rw [commitBoundary_adm]
    · rw [commitBoundary_adm]
  case capacity =>
    exact ⟨repeatAdmission s, by rw [exec_capacityLossReadmission, execCapacityLossReadmission, if_pos ha], repeatAdmission_again,
      repeatAdmission_of_failed⟩
  case removal =>
    obtain ⟨t, hx, hdue, hclk⟩ := exec_carrierDropRemoval_next hd
    refine ⟨t, hx, hdue, ?_⟩
    rw [hclk]
    exact isFrame_toFrame _ _

end Sys2Proof.Machine
end

section
/-!
The commands of the synthesisers, and with them the settlement of O15: what a loss or a gain of lock leaves of the LO island, a tune, and
HOLDOVER on every synthesiser.
-/

namespace Sys2Proof.Machine

variable {s t : State}

/-! ## Registers and time -/

/-- A register outside those that an operation may change. -/
theorem SameBut.rd_eq {ps : List Part} {ids : List RegId} (h : SameBut ps ids s t) (hr : .regs ∉ ps) (hs : .straps ∉ ps) {id : RegId}
    {ix : List Nat} (ha : ∀ id' ∈ ids, ∀ ix', regAddr id' ix' ≠ regAddr id ix) : rd t id ix = rd s id ix := by
  rw [rd, h.regs hr _ ha, rd, State.tenants, State.tenants, h.straps hs]

/-- A register of a family whose span lies apart from those of the families that may change. -/
theorem SameBut.rd_eq_apart {ps : List Part} {ids : List RegId} (h : SameBut ps ids s t) (hr : .regs ∉ ps) (hs : .straps ∉ ps) {id : RegId}
    {ix : List Nat} (ha : ∀ id' ∈ ids, (regRow id').addr + regSpan id' < (regRow id).addr ∨
      (regRow id).addr + regSpan id < (regRow id').addr) : rd t id ix = rd s id ix :=
  h.rd_eq hr hs (fun id' hid ix' => regAddr_ne ix' ix (ha id' hid))

/-- Time passes to an elapsed tick unless it has passed. -/
theorem reachElapsed_elapsed (n : Nat) : (reachElapsed s n).clk.elapsed = max s.clk.elapsed n := by
  rw [Nat.max_def]
  show s.clk.elapsed + (n - s.clk.elapsed) = _
  split <;> omega

/-! ## The trunks lose and gain lock -/

theorem markSpan_lo (k a b : Nat) : (markSpan s k a b).lo = s.lo :=
  (markSpan_same k a b (Nat.and_self _) (Same.refl _ s)).but.lo (by decide)

theorem markSpan_clk (k a b : Nat) : (markSpan s k a b).clk = s.clk :=
  (markSpan_same k a b (Nat.and_self _) (Same.refl _ s)).but.clk (by decide)

theorem txLost_lo : ∃ a, (txLost s).lo = { s.lo with txLostAt := a } := by
  unfold txLost
  dsimp only
  split
  · exact ⟨s.lo.txLostAt, markSpan_lo ..⟩
  · exact ⟨s.clk.elapsed, by rw [markSpan_lo, markSpan_clk]⟩

theorem rxDrop_lo : ∃ a, (rxDrop s).lo = { s.lo with rxLostAt := a } := by
  unfold rxDrop
  dsimp only
  split
  · exact ⟨s.lo.rxLostAt, markSpan_lo ..⟩
  · exact ⟨s.clk.elapsed, by rw [markSpan_lo, markSpan_clk]⟩

theorem txDrop_lo : ∃ a, (txDrop s).lo = { s.lo with txLostAt := a } := by
  obtain ⟨a, ha⟩ := txLost_lo (s := s)
  have hblank := same_foldl (l := List.range 64) (f := fun s p =>
    if s.pathState p = .tx ∧ ¬ (s.pathFe p).blanked then
      blankSymbols s p ((List.range 8).filter (fun c => s.dlOn c && symbolOpen s p c)).length else s)
    (fun u p h => same_ite (blankSymbols_same p _ (Nat.and_self _) h) h) (Same.refl _ (txLost s))
  exact ⟨a, (hblank.but.lo (by decide)).trans ha⟩

/-- R97, R98: of the LO island a loss of lock leaves all but the ticks at which the trunks last lost it. -/
theorem trunkDrop_lo (n : Nat) : ∃ a b, (trunkDrop s n).lo = { s.lo with txLostAt := a, rxLostAt := b } := by
  have htx : ∃ a, (if n = s.lo.txServe then txDrop s else s).lo = { s.lo with txLostAt := a } := by
    split
    · exact txDrop_lo
    · exact ⟨s.lo.txLostAt, rfl⟩
  obtain ⟨a, ha⟩ := htx
  unfold trunkDrop
  dsimp only
  generalize (if n = s.lo.txServe then txDrop s else s) = u at ha ⊢
  split
  · obtain ⟨b, hb⟩ := rxDrop_lo (s := u)
    exact ⟨a, b, by rw [hb, ha]⟩
  · exact ⟨a, s.lo.rxLostAt, ha⟩

theorem trunkDrop_syn (n k : Nat) : (trunkDrop s n).syn k = s.syn k := by
  obtain ⟨a, b, h⟩ := trunkDrop_lo (s := s) n
  rw [State.syn, h, State.syn]

theorem trunkDrop_refLoss (n : Nat) : (trunkDrop s n).lo.refLoss = s.lo.refLoss := by
  obtain ⟨a, b, h⟩ := trunkDrop_lo (s := s) n
  rw [h]

/-- A gain of lock leaves of the LO island all but the tick since which the TX trunk has been LOCKED. -/
theorem trunkGood_lo (n : Nat) : ∃ a, (trunkGood s n).lo = { s.lo with txFrom := a } := by
  have htx : ∃ a, (if n = s.lo.txServe then txGood s else s).lo = { s.lo with txFrom := a } := by
    split
    · exact ⟨s.clk.elapsed, rfl⟩
    · exact ⟨s.lo.txFrom, rfl⟩
  unfold trunkGood
  dsimp only
  generalize (if n = s.lo.txServe then txGood s else s) = u at htx ⊢
  split
  · exact htx
  · exact htx

theorem trunkGood_syn (n k : Nat) : (trunkGood s n).syn k = s.syn k := by
  obtain ⟨a, h⟩ := trunkGood_lo (s := s) n
  rw [State.syn, h, State.syn]

theorem trunkGood_clk (n : Nat) : (trunkGood s n).clk = s.clk :=
  (trunkGood_same n (Nat.and_self _) (Same.refl _ s)).but.clk (by decide)

/-! ## What waits to be presented keeps waiting -/

theorem Fires.statPath {k : Nat} (h : Fires s k) (p item n : Nat) : Fires (statPath s p item n) k := by
  unfold Machine.statPath stat
  dsimp only
  split
  · exact h
  · split
    · apply Fires.raise
      exact h
    · exact h

theorem markSilent_evt (p : Nat) : (markSilent s p).evt = s.evt :=
  (markSilent_same p (Nat.and_self _) (Same.refl _ s)).but.evt (by decide)

theorem Fires.blankSymbols {k : Nat} (h : Fires s k) (p n : Nat) : Fires (blankSymbols s p n) k := by
  unfold Machine.blankSymbols
  dsimp only
  have hsilent (x : PathFe) : Fires (markSilent (s.setFe p x) p) k := h.of_evt (by rw [markSilent_evt, setFe_evt])
  split
  · exact hsilent _
  · split
    · exact (hsilent _).statPath ..
    · exact ((hsilent _).statPath ..).raise ..

theorem Fires.txDrop {k : Nat} (h : Fires s k) : Fires (txDrop s) k := by
  have hlost : Fires (txLost s) k := h.of_evt ((txLost_same (Nat.and_self _) (Same.refl _ s)).but.evt (by decide))
  unfold Machine.txDrop
  refine Fires.foldl (fun u p hu => ?_) hlost
  split
  · exact hu.blankSymbols ..
  · exact hu

theorem Fires.trunkDrop {k : Nat} (h : Fires s k) (n : Nat) : Fires (trunkDrop s n) k := by
  have htx : Fires (if n = s.lo.txServe then Machine.txDrop s else s) k := by
    split
    · exact h.txDrop
    · exact h
  unfold Machine.trunkDrop
  dsimp only
  generalize (if n = s.lo.txServe then Machine.txDrop s else s) = u at htx ⊢
  split
  · exact htx.of_evt ((rxDrop_same (Nat.and_self _) (Same.refl _ _)).but.evt (by decide))
  · exact htx

/-! ## Tunes -/

/-- R90: a synthesiser that is OFF or LOCKED goes to CALIBRATING, and stays there while REFCLK is good. -/
theorem tuneWord_syn {n : Nat} (preset w : Nat) (hn : n < 4) (hst : (s.syn n).st = .off ∨ (s.syn n).st = .locked)
    (href : s.lo.refLoss = false) : (tuneWord s n preset w).syn n =
      { s.syn n with st := .calibrating, preset := preset, word := w, retried := false, since := s.clk.elapsed } := by
  have hloss (c : Prop) [Decidable c] (u : State) : (if c then trunkDrop u n else u).lo.refLoss = u.lo.refLoss := by
    split
    · exact trunkDrop_refLoss n
    · rfl
  unfold tuneWord
  dsimp only
  rw [if_pos ⟨hn, hst⟩, hloss, if_neg (by rw [State.setSyn, href]; exact Bool.false_ne_true)]
  split
  · rw [trunkDrop_syn, syn_setSyn]
  · rw [syn_setSyn]

theorem tuneWord_st_preset {n : Nat} (preset w : Nat) (hn : n < 4) (hst : (s.syn n).st = .off ∨ (s.syn n).st = .locked)
    (href : s.lo.refLoss = false) :
    ((tuneWord s n preset w).syn n).st = .calibrating ∧ ((tuneWord s n preset w).syn n).preset = preset := by
  rw [tuneWord_syn preset w hn hst href]
  exact ⟨rfl, rfl⟩

theorem synOff_syn (n : Nat) :
    (synOff s n).syn n = { s.syn n with st := .off, fault := false, retried := false, since := s.clk.elapsed } := by
  unfold synOff
  dsimp only
  split
  · rw [trunkDrop_syn, syn_setSyn]
  · rw [syn_setSyn]

theorem applyForced_of_none {n : Nat} (h : spGet none s.lo.forced n = none) : applyForced s n = s := by
  rw [applyForced, h]

/-- An operator's request for a preset that is set retunes. -/
theorem exec_forcedRetune_of_set {role : Role} {n preset go : Nat} (hrole : role = .operator) (hgo : go = 1) (hn : n < 4) (hp : preset < 16)
    (hset : rf s .loSynPre [n, preset] 47 0 ≠ 0) : exec (.forcedRetune role n preset go) s = .next (forceTune s n preset) := by
  have hpreset : presetSet s n preset = true := by
    rw [presetSet, decide_eq_true hn, decide_eq_true hp, State.presetOf, decide_eq_true hset]
    rfl
  rw [exec_forcedRetune, execForcedRetune, if_pos ⟨hrole, hgo, hpreset⟩]

/-! ## REFCLK -/

/-- A fold whose steps change one element's value each, by a change that done twice is done once. -/
theorem foldl_pointwise {α β : Type} [DecidableEq α] {f : State → α → State} {g : State → α → β} {φ : β → β}
    (hf : ∀ u a k, g (f u a) k = if k = a then φ (g u k) else g u k) (hφ : ∀ x, φ (φ x) = φ x) (l : List α) (k : α) :
    g (l.foldl f s) k = if k ∈ l then φ (g s k) else g s k := by
  induction l generalizing s with
  | nil => rfl
  | cons a l ih =>
    rw [List.foldl_cons, ih, hf]
    by_cases hka : k = a
    · have hmem : k ∈ a :: l := hka ▸ List.mem_cons_self
      rw [if_pos hka, if_pos hmem, hφ, ite_self]
    · rw [if_neg hka]
      simp only [List.mem_cons, hka, false_or]

/-- What a loss of REFCLK makes of a synthesiser's state (R90). -/
def SynSt.refLost (st : SynSt) : SynSt := if st = .off then .off else .holdover

/-- What its recovery makes of it (R90). -/
def SynSt.refBack (st : SynSt) : SynSt := if st = .holdover then .settling else st

theorem SynSt.refLost_refLost (st : SynSt) : st.refLost.refLost = st.refLost := by cases st <;> rfl

theorem SynSt.refBack_refBack (st : SynSt) : st.refBack.refBack = st.refBack := by cases st <;> rfl

/-- The synthesiser named takes a state, with or without a loss of its trunks' lock. -/
theorem st_trunkDrop_setSyn (c : Prop) [Decidable c] {u : State} (n k : Nat) {x : Syn} (hlo : u.lo = (s.setSyn n x).lo) :
    ((if c then trunkDrop u n else u).syn k).st = if k = n then x.st else (s.syn k).st := by
  have hsyn : (if c then trunkDrop u n else u).syn k = (s.setSyn n x).syn k := by
    split
    · rw [trunkDrop_syn, State.syn, hlo, State.syn]
    · rw [State.syn, hlo, State.syn]
  rw [hsyn]
  split
  next h => rw [h, syn_setSyn]
  next h => exact congrArg Syn.st (syn_setSyn_other s x h)

theorem synHoldover_st (n k : Nat) : ((synHoldover s n).syn k).st = if k = n then (s.syn k).st.refLost else (s.syn k).st := by
  have hstill (h : (s.syn n).st.refLost = (s.syn n).st) : (s.syn k).st = if k = n then (s.syn k).st.refLost else (s.syn k).st := by
    split
    next hk => rw [hk, h]
    next => rfl
  unfold synHoldover
  dsimp only
  cases hst : (s.syn n).st with
  | off => exact hstill (by rw [hst]; rfl)
  | holdover => exact hstill (by rw [hst]; rfl)
  | calibrating | settling | locked =>
    rw [st_trunkDrop_setSyn _ n k (raise_lo ..)]
    refine if_ctx_congr Iff.rfl (fun hk => ?_) (fun _ => rfl)
    rw [hk, hst]
    rfl

theorem synHoldover_refLoss (n : Nat) : (synHoldover s n).lo.refLoss = s.lo.refLoss := by
  have hheld (c : Prop) [Decidable c] (x : Syn) :
      (if c then trunkDrop (raise (s.setSyn n x) 9 NA NA) n else raise (s.setSyn n x) 9 NA NA).lo.refLoss = s.lo.refLoss := by
    split
    · rw [trunkDrop_refLoss, raise_lo]
      rfl
    · rw [raise_lo]
      rfl
  unfold synHoldover
  dsimp only
  cases (s.syn n).st with
  | off | holdover => rfl
  | calibrating | settling | locked => exact hheld _ _

/-- REFCLK_LOSS (R90): every synthesiser that runs is in HOLDOVER. -/
theorem foldl_synHoldover (l : List Nat) : (l.foldl synHoldover s).lo.refLoss = s.lo.refLoss ∧
    ∀ k ∈ l, ((l.foldl synHoldover s).syn k).st = (s.syn k).st.refLost := by
  refine ⟨?_, fun k hk => ?_⟩
  · exact List.foldlRecOn (motive := fun (u : State) => u.lo.refLoss = s.lo.refLoss) l _ rfl
      (fun (u : State) h n _ => (synHoldover_refLoss n).trans h)
  · rw [foldl_pointwise (g := fun u k => (u.syn k).st) (fun u n k => synHoldover_st n k) SynSt.refLost_refLost, if_pos hk]

/-- A synthesiser's step at the recovery of REFCLK. -/
def resettle (s : State) (n : Nat) : State :=
  if (s.syn n).st = .holdover then s.setSyn n { s.syn n with st := .settling, retried := false, since := s.clk.elapsed } else s

theorem resettle_st (n k : Nat) : ((resettle s n).syn k).st = if k = n then (s.syn k).st.refBack else (s.syn k).st := by
  unfold resettle
  by_cases hk : k = n
  · rw [if_pos hk, hk, SynSt.refBack]
    split
    · rw [syn_setSyn]
    · rfl
  · rw [if_neg hk]
    split
    · rw [syn_setSyn_other _ _ hk]
    · rfl

theorem resettle_refLoss (n : Nat) : (resettle s n).lo.refLoss = s.lo.refLoss := by
  unfold resettle
  split
  · rfl
  · rfl

/-- REFCLK_RECOVERY (R90): every synthesiser in HOLDOVER is SETTLING. -/
theorem foldl_resettle (l : List Nat) : (l.foldl resettle s).lo.refLoss = s.lo.refLoss ∧
    ∀ k ∈ l, ((l.foldl resettle s).syn k).st = (s.syn k).st.refBack := by
  refine ⟨?_, fun k hk => ?_⟩
  · exact List.foldlRecOn (motive := fun (u : State) => u.lo.refLoss = s.lo.refLoss) l _ rfl (fun u h n _ => (resettle_refLoss n).trans h)
  · rw [foldl_pointwise (g := fun u k => (u.syn k).st) (fun u n k => resettle_st n k) SynSt.refBack_refBack, if_pos hk]

/-! ## Events of the timeline -/

/-- An event entry that fires acts in the state at its tick, when every island that it goes to is up (R48 to R50). -/
theorem fireEvent_of_fires {n type : Nat} {e : EvtEntry} {islands : EvtEntry → List Nat} {act : EvtEntry → State → State}
    (he : EventFires s n type e) (hup : ∀ i ∈ islands e, (s.island i).off = false) :
    fireEvent s n type islands act = act e (toBoundary s (type * 16) n (nextOffset s.pattern s.frameOfs e.offset)) := by
  obtain ⟨hrun, hdepth, hn, rfl, hvalid, htype, hofs, hheld⟩ := he
  have hruns : eventsRun s = true := by rw [eventsRun, hrun, hdepth]; rfl
  have hoff : (islands (evtOfWord (rd s .tlEvt [n]))).filter (fun i => ((toBoundary s (type * 16) n
      (nextOffset s.pattern s.frameOfs (evtOfWord (rd s .tlEvt [n])).offset)).island i).off) = [] :=
    List.filter_eq_nil_iff.2 (fun i hi => by rw [Bool.not_eq_true]; exact hup i hi)
  unfold fireEvent
  dsimp only
  rw [if_pos ⟨hruns, hn, hvalid, htype, hofs, by rw [hheld]; exact Bool.false_ne_true⟩, hoff]
  exact if_neg (fun ⟨hlen, hne⟩ => hne (List.length_eq_zero_iff.1 hlen.symm))

/-! ## The obligation -/

/-- Settles O15: the states of the synthesisers through `tuneWord`, `synOff` and the folds over the four of them; a loss of their trunks'
lock leaves those states alone. -/
theorem synthesiserCommandsComplete : Obligations.SynthesiserCommandsComplete := by
  unfold Obligations.SynthesiserCommandsComplete
  refine ⟨fun s n hn hst hdepth href => ?enable, fun s n hn => ?disable, fun s n hn hst => ?calibrated, fun s n hn hst hforced => ?locks,
    fun s n hn hst hretried => ?retries, fun s n hn hst hretried => ?fails, fun s n hn hst => ?unlocks, fun s edges hlost => ?refLost,
    fun s edges hlen hgood => ?refBack, fun s role n preset go hrole hgo hn hp hset hst href => ?retunes,
    fun s role n preset go hrole hgo hn hp hset hst => ?waits, fun s n e he hup hn hst href => ?tunes⟩
  case enable =>
    have hx : exec (.loSynEnable n) s =
        .next (tuneSyn (wbit s .loSynCtrl [n] 0 true) n ((wbit s .loSynCtrl [n] 0 true).syn n).preset) := by
      rw [exec_loSynEnable, execLoSynEnable, if_pos hn]
      exact congrArg _ (if_pos ⟨hst, hdepth⟩)
    refine ⟨_, hx, ?_, ?_⟩
    · rw [rbit, tuneSyn, (tuneWord_same _ _ _ (Nat.and_self _) (Same.refl _ _)).but.rd_eq_apart (by decide) (by decide) (by decide)]
      exact rbit_wbit _ _ _ _ _ (by decide)
    · exact (tuneWord_st_preset (s := wbit s .loSynCtrl [n] 0 true) _ _ hn (.inl hst) href).1
  case disable =>
    refine ⟨_, by rw [exec_loSynDisable, execLoSynDisable, if_pos hn], ?_, ?_, ?_⟩
    · rw [rbit, (synOff_same _ (Nat.and_self _) (Same.refl _ _)).but.rd_eq_apart (by decide) (by decide) (by decide)]
      exact rbit_wbit _ _ _ _ _ (by decide)
    · rw [synOff_syn]
    · rw [synOff_syn]
  case calibrated =>
    exact ⟨_, by rw [exec_vcoCalibrationDone, execVcoCalibrationDone, if_pos ⟨hn, hst⟩], syn_setSyn ..⟩
  case locks =>
    have hnone (since : Nat) (x : Syn) :
        spGet none (trunkGood ((reachElapsed s since).setSyn n x) n).lo.forced n = none := by
      obtain ⟨a, h⟩ := trunkGood_lo (s := (reachElapsed s since).setSyn n x) n
      rw [h]
      exact hforced
    refine ⟨_, by rw [exec_synLockAchieved, execSynLockAchieved, if_pos ⟨hn, hst⟩], ?_, ?_⟩
    all_goals rw [applyForced_of_none (hnone _ _)]
    · rw [trunkGood_syn, syn_setSyn]
    · rw [trunkGood_clk, setSyn_clk, reachElapsed_elapsed]
  case retries =>
    refine ⟨_, by rw [exec_synSettleTimeout, execSynSettleTimeout, if_pos ⟨hn, hst⟩, hretried, if_neg Bool.false_ne_true], ?_, ?_, ?_⟩
    · rw [syn_setSyn]
    · rw [syn_setSyn]
    · rw [setSyn_clk, reachElapsed_elapsed]
  case fails =>
    refine ⟨_, by rw [exec_synSettleTimeout, execSynSettleTimeout, if_pos ⟨hn, hst⟩, hretried, if_pos rfl], ?_, ?_, fires_raise ..⟩
    · rw [State.syn, raise_lo, ← State.syn, syn_setSyn]
    · rw [State.syn, raise_lo, ← State.syn, syn_setSyn]
  case unlocks =>
    refine ⟨_, by rw [exec_synLockLoss, execSynLockLoss, if_pos ⟨hn, hst⟩], ?_, ?_, (fires_raise ..).trunkDrop n⟩
    · rw [trunkDrop_syn, State.syn, raise_lo, bump_lo, ← State.syn, syn_setSyn]
    · rw [(trunkDrop_same _ (Nat.and_self _) (Same.refl _ _)).but.rd_eq_apart (by decide) (by decide) (by decide),
        (raise_same _ _ _ (Nat.and_self _) (Same.refl _ _)).but.rd_eq_apart (by decide) (by decide) (by decide),
        rd_bump _ _ _ _ (by decide)]
      rfl
  case refLost =>
    obtain ⟨hloss, hst⟩ := foldl_synHoldover (s := { s with lo := { s.lo with refLoss := true } }) (List.range 4)
    exact ⟨_, by rw [exec_refclkLoss, execRefclkLoss, if_pos hlost], hloss, fun n hn => hst n (List.mem_range.2 hn)⟩
  case refBack =>
    obtain ⟨hloss, hst⟩ := foldl_resettle (s := { s with lo := { s.lo with refLoss := false } }) (List.range 4)
    refine ⟨_, ?_, hloss, fun n hn => hst n (List.mem_range.2 hn)⟩
    rw [exec_refclkRecovery, execRefclkRecovery, if_pos ⟨hlen, hgood⟩]
    rfl
  case retunes =>
    refine ⟨_, exec_forcedRetune_of_set hrole hgo hn hp hset, ?_⟩
    rw [forceTune, retune, if_pos hst]
    exact tuneWord_st_preset _ _ hn (.inr hst) href
  case waits =>
    refine ⟨_, exec_forcedRetune_of_set hrole hgo hn hp hset, ?_⟩
    rw [forceTune, retune, if_neg hst]
    exact ⟨rfl, spGet_spPut_same none s.lo.forced n (some (preset, s.presetOf n preset))⟩
  case tunes =>
    have hislands : ∀ i ∈ [9], (s.island i).off = false := fun i hi => by rw [List.mem_singleton.1 hi, hup]
    refine ⟨_, by rw [exec_loTune, execLoTune, fireEvent_of_fires he hislands], ?_⟩
    exact tuneWord_st_preset _ _ hn hst href

end Sys2Proof.Machine
end

section
/-!
The start of a transmit symbol, and with it the settlement of O16.  A LOCKED trunk is not enough for a symbol to be transmitted: a symbol that
starts before the first reference boundary since lock is blanked (R96), also on a path that was not blanked before.
-/

namespace Sys2Proof.Machine

variable {s : State}

/-! ## Blanking -/

/-- A path whose symbols are blanked is blanked (R96). -/
theorem blankSymbols_blanked (p n : Nat) : ((blankSymbols s p n).pathFe p).blanked = true := by
  have hset (fea : Drive) : ((markSilent (s.setFe p { s.pathFe p with blanked := true, fea := fea }) p).pathFe p).blanked = true := by
    rw [State.pathFe, markSilent_fe, ← State.pathFe, pathFe_setFe]
  unfold blankSymbols
  dsimp only
  split
  · exact hset _
  · split
    · rw [State.pathFe, statPath_fe, ← State.pathFe, hset]
    · rw [State.pathFe, raise_fe, statPath_fe, ← State.pathFe, hset]

/-! ## A symbol before the reference boundary -/

/-- The state in which the next symbol of a carrier starts on a path. -/
def nextSymbolStart (s : State) (p cc : Nat) : State :=
  toBoundary s (symbolKey cc) p (nextSymbol s.frameOfs (s.ccMu cc) (s.ccEcp cc))

/-- R96: on a path that was not blanked, a symbol is blanked while the first reference boundary since lock lies ahead. -/
theorem exec_txSymbolStart_before_resume {p cc : Nat} (hp : p < 64) (hcc : cc < 8) (hdl : s.dlOn cc = true) (htx : s.pathState p = .tx)
    (hblank : (s.pathFe p).blanked = false) (hearly : (nextSymbolStart s p cc).now < (nextSymbolStart s p cc).resumeAt p) :
    exec (.txSymbolStart p cc) s = .next (blankSymbols (nextSymbolStart s p cc) p 1) := by
  rw [exec_txSymbolStart, execTxSymbolStart, if_pos ⟨hp, hcc, hdl, htx⟩]
  dsimp only
  rw [if_neg (c := (s.pathFe p).blanked = true ∧ _) (fun h => Bool.false_ne_true (hblank.symm.trans h.1))]
  exact if_neg (fun h => absurd h.2.2 (Nat.not_le.2 hearly))

/-- Path 0 is in TX, not blanked, and carrier 0 on, with numerology 1 where the reference has 0.  Synthesiser 0 has been LOCKED since tick 900; at
tick 1,000 the carrier's next symbol starts at 17,792, the next of the reference at 35,328. -/
def relocked : State :=
  let s := ((State.reset.setSyn 0 { Syn.reset with st := .locked }).setObj 0x2010 1 (.num 1)).setObj 0x2010 6 (.num 1)
  { s with clk := { s.clk with elapsed := 1000, count := 1000 }, lo := { s.lo with txFrom := 900 },
           tl := { s.tl with path := spPut PathState.off s.tl.path 0 .tx } }

/-- Refutes O16: in `relocked` the trunk is LOCKED and path 0 not blanked, but the carrier's next symbol starts before the first boundary of the
reference numerology since lock, and is blanked. -/
theorem not_hopCommandsComplete : ¬ Obligations.HopCommandsComplete := by
  unfold Obligations.HopCommandsComplete
  rintro ⟨-, -, -, -, -, hsymbol, -⟩
  have hdl : relocked.dlOn 0 = true := by decide +kernel
  have htx : relocked.pathState 0 = .tx := by decide +kernel
  have hearly : (nextSymbolStart relocked 0 0).now < (nextSymbolStart relocked 0 0).resumeAt 0 := by decide +kernel
  obtain ⟨t, hx, hblanked, -⟩ := hsymbol relocked 0 0 (by decide) (by decide) hdl htx (by decide +kernel) rfl
  rw [exec_txSymbolStart_before_resume (by decide) (by decide) hdl htx rfl hearly] at hx
  cases hx
  rw [blankSymbols_blanked] at hblanked
  cases hblanked

end Sys2Proof.Machine
end

section
/-!
The second step of a turnaround, and with it the settlement of O17.  A path blanked before the turnaround is so no more once a boundary of the
reference numerology has passed since lock: FEA then rises (R96, R103).
-/

namespace Sys2Proof.Machine

variable {s : State}

/-- TURNAROUND_STEP of a path in a turnaround: the next step, at its tick. -/
theorem exec_turnaroundStep_of_turn {p : Nat} {τ : Turn} (hp : p < 64) (ht : (s.pathFe p).turn = some τ) :
    exec (.turnaroundStep p) s = .next (turnStep (reachElapsed s (τ.start + turnDue τ)) p) := by
  rw [exec_turnaroundStep, execTurnaroundStep, if_pos hp, ht]

/-- R96, R103: FEA rises at 60 ticks where the trunk has been LOCKED since a boundary of the reference numerology, blanked or not before. -/
theorem turnStep_fea_of_resumed {p : Nat} {τ : Turn} (ht : (s.pathFe p).turn = some τ) (hfirst : 40 ≤ τ.step) (hlast : τ.step < 60)
    (hlock : s.txLocked p = true) (hresume : s.resumeAt p ≤ s.now) : ((turnStep s p).pathFe p).fea = .high := by
  have hlow : ¬ (τ.upto = .tx ∧ ((s.pathFe p).blanked = true ∧ s.now < s.resumeAt p ∨ ¬ s.txLocked p = true)) := by
    rintro ⟨-, ⟨-, hearly⟩ | hnot⟩
    · exact absurd hresume (Nat.not_le.2 hearly)
    · exact hnot hlock
  rw [turnStep, ht]
  dsimp only
  rw [if_neg (Nat.not_lt.2 hfirst), if_pos hlast, if_neg hlow, State.pathFe, markSilent_fe, ← State.pathFe, pathFe_setFe]

/-- Path 0, blanked, is 40 ticks into a turnaround to TX at tick 100,000; synthesiser 0 has been LOCKED since tick 0, over two boundaries of the
reference numerology. -/
def blankedTurning : State :=
  let s := (State.reset.setSyn 0 { Syn.reset with st := .locked }).setFe 0
    { PathFe.reset with turn := some ⟨.tx, 99960, 40⟩, blanked := true }
  { s with clk := { s.clk with elapsed := 100000, count := 100000 } }

/-- The same at the turnaround's tick 60. -/
def blankedRising : State := reachElapsed blankedTurning 100020

/-- Refutes O17: in `blankedTurning` the trunk has been LOCKED over boundaries of the reference numerology, and FEA rises at tick 60 of the
turnaround, though the path was blanked. -/
theorem not_pinCommandsComplete : ¬ Obligations.PinCommandsComplete := by
  unfold Obligations.PinCommandsComplete
  rintro ⟨-, hrise, -⟩
  have hturn : (blankedTurning.pathFe 0).turn = some ⟨.tx, 99960, 40⟩ := rfl
  have hblanked : (blankedTurning.pathFe 0).blanked = true := rfl
  have hhigh : ((turnStep blankedRising 0).pathFe 0).fea = .high :=
    turnStep_fea_of_resumed hturn (by decide) (by decide) (by decide +kernel) (by decide +kernel)
  obtain ⟨t, hx, -, -, hfea⟩ := hrise blankedTurning 0 ⟨.tx, 99960, 40⟩ (by decide) hturn (by decide) (by decide)
  rw [exec_turnaroundStep_of_turn (by decide) hturn] at hx
  cases hx
  rw [if_pos ⟨rfl, .inl hblanked⟩] at hfea
  exact absurd (hhigh.symm.trans hfea) (by decide)

end Sys2Proof.Machine
end

section
/-!
The guard serial bus, and with it the settlement of O18: what the end of a transaction leaves of a path's front end and of its read data, a list
queued, and a transaction that starts.
-/

namespace Sys2Proof.Machine

variable {s : State} {p code : Nat} {x : Txn}

/-! ## The end of a transaction -/

theorem serialCode_pathFe : (serialCode s p code).pathFe p = { s.pathFe p with lastErr := code } := by
  have hset : (s.setFe p { s.pathFe p with lastErr := code }).pathFe p = { s.pathFe p with lastErr := code } := pathFe_setFe ..
  unfold serialCode
  dsimp only
  split
  · exact hset
  · rw [State.pathFe, statPath_fe]
    exact hset

theorem moduleFault_fe : (moduleFault s p).fe = s.fe := by rw [moduleFault, raise_fe, setFlag_fe]

theorem failPath_pathFe : ∃ failed, (failPath s p).pathFe p = { s.pathFe p with failed := failed } := by
  unfold failPath
  dsimp only
  split
  · exact ⟨true, spGet_spPut_same ..⟩
  · exact ⟨(s.pathFe p).failed, rfl⟩

/-- A front end takes a code; a module fault, and the failure of its path, leave the rest of it (R118 to R120). -/
theorem pathFe_coded (c d : Prop) [Decidable c] [Decidable d] (y : PathFe) : ∃ failed,
    (if d then failPath (if c then moduleFault (serialCode (s.setFe p y) p code) p else serialCode (s.setFe p y) p code) p
      else if c then moduleFault (serialCode (s.setFe p y) p code) p else serialCode (s.setFe p y) p code).pathFe p =
      { y with lastErr := code, failed := failed } := by
  have hcode : (if c then moduleFault (serialCode (s.setFe p y) p code) p else serialCode (s.setFe p y) p code).pathFe p =
      { y with lastErr := code } := by
    have hserial : (serialCode (s.setFe p y) p code).pathFe p = { y with lastErr := code } := by rw [serialCode_pathFe, pathFe_setFe]
    split
    · rw [State.pathFe, moduleFault_fe]
      exact hserial
    · exact hserial
  split
  · obtain ⟨failed, hf⟩ := failPath_pathFe
      (s := if c then moduleFault (serialCode (s.setFe p y) p code) p else serialCode (s.setFe p y) p code) (p := p)
    exact ⟨failed, by rw [hf, hcode]⟩
  · exact ⟨y.failed, hcode⟩

/-- R118: a transaction's end frees the bus, records its code and leaves the pins. -/
theorem endTxn_pathFe (h : (s.pathFe p).bus = some x) :
    ((endTxn s p code).pathFe p).bus = none ∧ ((endTxn s p code).pathFe p).lastErr = code ∧
    ((endTxn s p code).pathFe p).fea = (s.pathFe p).fea ∧ ((endTxn s p code).pathFe p).feb = (s.pathFe p).feb := by
  have hend : ∃ lists retries safety failed, (endTxn s p code).pathFe p =
      { s.pathFe p with bus := none, lastErr := code, lists := lists, retries := retries, safety := safety, failed := failed } := by
    unfold endTxn
    dsimp only
    rw [h]
    exact (pathFe_coded _ _ _).elim (fun failed hf => ⟨_, _, _, failed, hf⟩)
  obtain ⟨lists, retries, safety, failed, hf⟩ := hend
  rw [hf]
  exact ⟨rfl, rfl, rfl, rfl⟩

theorem endTxn_clk : (endTxn s p code).clk = s.clk :=
  (endTxn_same p code (Nat.and_self _) (Same.refl _ s)).but.clk (by decide)

/-! ## Read data -/

/-- FE_RDATA and FE_STAT lie apart on every path: their offsets in a path's page differ. -/
theorem regAddr_feStat_ne_feRdata (ix ix' : List Nat) : regAddr .feStat ix ≠ regAddr .feRdata ix' := by
  have hpage (a : Nat) (jx : List Nat) : regAddrFrom a [(16777216, 8), (4096, 8)] jx % 4096 = a % 4096 := by
    rcases jx with _ | ⟨i, _ | ⟨j, _ | ⟨k, jx⟩⟩⟩
    all_goals simp only [regAddrFrom]
    all_goals omega
  intro h
  have hstat : regAddr .feStat ix % 4096 = 0 := hpage 0x1000300000 ix
  have hrdata : regAddr .feRdata ix' % 4096 = 0x10 := hpage 0x1000300010 ix'
  omega

theorem rd_endTxn_feRdata (ix : List Nat) : rd (endTxn s p code) .feRdata ix = rd s .feRdata ix := by
  refine (endTxn_same p code (Nat.and_self _) (Same.refl _ s)).but.rd_eq (by decide) (by decide) (fun id hid ix' => ?_)
  rcases List.mem_pair.1 hid with rfl | rfl
  · exact regAddr_ne _ _ (by decide)
  · exact regAddr_feStat_ne_feRdata ix' ix

theorem rd_moduleTemp_feRdata (v n : Nat) (ix : List Nat) : rd (moduleTemp s p v n) .feRdata ix = rd s .feRdata ix :=
  (moduleTemp_same p v n (Nat.and_self _) (Same.refl _ s)).but.rd_eq_apart (by decide) (by decide) (by decide)

theorem moduleTemp_pathFe (v n : Nat) : (moduleTemp s p v n).pathFe p = s.pathFe p := by
  rw [State.pathFe, (moduleTemp_same p v n (Nat.and_self _) (Same.refl _ s)).but.fe (by decide), State.pathFe]

/-! ## Transactions -/

/-- A transaction put on a path's bus (R121). -/
def busTaken (s : State) (p : Nat) (x : Txn) : State :=
  let fe := s.pathFe p
  s.setFe p { fe with bus := some x, listGuard := if x.retry.isNone then fe.guardNo else fe.listGuard }

theorem busTaken_bus : ((busTaken s p x).pathFe p).bus = some x := by rw [busTaken, pathFe_setFe]

/-- SERIAL_TRANSACTION (R119, R121) of a path in GUARD, its bus free and a transaction next. -/
theorem exec_serialTransaction_of_next {febLow : Bool} (hp : p < 64) (hphase : (s.pathFe p).phase = .guard)
    (hturn : (s.pathFe p).turn = none) (hbus : (s.pathFe p).bus = none) (hx : nextTxn s p = some x) :
    exec (.serialTransaction p febLow) s = .next (if febLow then endTxn (busTaken s p x) p 5 else busTaken s p x) := by
  rw [exec_serialTransaction, execSerialTransaction, if_pos ⟨hp, hphase, by rw [hturn]; rfl, by rw [hbus]; rfl⟩, hx]
  rfl

/-- The tick at which the transaction on a path's bus ends, STOP and all, and the pins as a STOP leaves them (R112, R118). -/
def serialStopped (s : State) (p : Nat) (x : Txn) (feb : List Bool) : State :=
  let s1 := reachElapsed s (x.start + ((serialRun x.bits feb).2 + 2) * bitTicks)
  s1.setFe p { s1.pathFe p with fea := .high, feb := .z }

theorem serialStopped_pathFe (feb : List Bool) :
    (serialStopped s p x feb).pathFe p = { s.pathFe p with fea := .high, feb := .z } := pathFe_setFe ..

/-- The state in which the data of a read stand in FE_RDATA, and in the thermal model where the entry is marked TEMP (R118, R122). -/
def serialRead (s : State) (p : Nat) (x : Txn) (feb : List Bool) (rdata : List Byte) : State :=
  let v := leNum (sliceBytes rdata 0 x.len)
  let t := wr (serialStopped s p x feb) .feRdata [p / 8, p % 8] v
  if bitOf (rd s .feList [p / 8, x.entry]) 20 then moduleTemp t p v x.len else t

theorem serialRead_bus (feb : List Bool) (rdata : List Byte) :
    ((serialRead s p x feb rdata).pathFe p).bus = (s.pathFe p).bus := by
  have hstopped (v : Nat) : ((wr (serialStopped s p x feb) .feRdata [p / 8, p % 8] v).pathFe p).bus = (s.pathFe p).bus := by
    rw [State.pathFe, wr_fe, ← State.pathFe, serialStopped_pathFe]
  unfold serialRead
  dsimp only
  split
  · rw [moduleTemp_pathFe, hstopped]
  · rw [hstopped]

theorem rd_serialRead (feb : List Bool) (rdata : List Byte) :
    rd (serialRead s p x feb rdata) .feRdata [p / 8, p % 8] = leNum (sliceBytes rdata 0 x.len) % 2 ^ 64 := by
  unfold serialRead
  dsimp only
  split
  · rw [rd_moduleTemp_feRdata, rd_wr_same]
    rfl
  · rw [rd_wr_same]
    rfl

section Done

variable {feb : List Bool} {rdata : List Byte} (hp : p < 64) (hbus : (s.pathFe p).bus = some x)
include hp hbus

/-- SERIAL_TRANSACTION_DONE of a write, or of a transaction that a code ends (R118). -/
theorem exec_serialTransactionDone_of_not_read (h : ¬ ((serialRun x.bits feb).1 = 0 ∧ x.rd = true)) :
    exec (.serialTransactionDone p feb rdata) s = .next (endTxn (serialStopped s p x feb) p (serialRun x.bits feb).1) := by
  rw [exec_serialTransactionDone, execSerialTransactionDone, if_pos hp, hbus]
  exact if_neg h

/-- SERIAL_TRANSACTION_DONE of a read that comes through: code 0, or that of a CHECK that fails (R118). -/
theorem exec_serialTransactionDone_of_read (h : (serialRun x.bits feb).1 = 0 ∧ x.rd = true) :
    ∃ code, exec (.serialTransactionDone p feb rdata) s = .next (endTxn (serialRead s p x feb rdata) p code) := by
  rw [exec_serialTransactionDone, execSerialTransactionDone, if_pos hp, hbus]
  exact ⟨_, if_pos h⟩

end Done

/-! ## Lists -/

/-- FE_SERIAL (R121): with SER_EN 1 and fewer than four lists queued, the list named goes to the end of the queue. -/
theorem exec_feSerial_of_fires {n : Nat} {e : EvtEntry} (he : EventFires s n 9 e) (htarget : e.target < 64)
    (hup : (s.island (e.target / 8)).off = false) (hen : rbit s .feCtrl [e.target / 8] 0 = true)
    (hlists : (s.pathFe e.target).lists.length < 4) :
    Completes (.feSerial n) s fun t => (t.pathFe e.target).lists = (s.pathFe e.target).lists ++ [e.arg % 1024] := by
  have hclusters : targetClusters e.target = [e.target / 8] := by
    rw [targetClusters, if_neg (by omega), if_pos htarget]
  have hpaths : targetPaths e.target = [e.target] := by
    rw [targetPaths, if_neg (by omega), if_pos htarget]
  have hislands : ∀ i ∈ targetClusters e.target, (s.island i).off = false := fun i hi => by
    rw [hclusters, List.mem_singleton] at hi
    rw [hi, hup]
  refine ⟨_, by rw [exec_feSerial, execFeSerial, fireEvent_of_fires he hislands], ?_⟩
  generalize hu : toBoundary s (9 * 16) n (nextOffset s.pattern s.frameOfs e.offset) = u
  have hoff : ¬ (u.island (e.target / 8)).off = true := by
    rw [Bool.not_eq_true, ← hu]
    exact hup
  have hqueues : rbit u .feCtrl [e.target / 8] 0 = true ∧ (u.pathFe e.target).lists.length < 4 := by
    rw [← hu]
    exact ⟨hen, hlists⟩
  have hfe : u.pathFe e.target = s.pathFe e.target := by
    rw [← hu]
    rfl
  dsimp only
  rw [hpaths, List.foldl_cons, List.foldl_nil, if_neg hoff, if_pos hqueues, pathFe_setFe, hfe]

/-! ## The obligation -/

/-- Settles O18: lists and transactions by their commands' equations, the ends of transactions by what `endTxn` leaves of the front end
and of FE_RDATA. -/
theorem serialCommandsComplete : Obligations.SerialCommandsComplete := by
  unfold Obligations.SerialCommandsComplete
  refine ⟨fun s n e he htarget hup hen hlists => exec_feSerial_of_fires he htarget hup hen hlists,
    fun s p x hp hphase hturn hbus hx => ?starts, fun s p x hp hphase hturn hbus hx => ?busLow,
    fun s p feb rdata x hp hbus hcode => ?coded, fun s p feb rdata x hp hbus hcode hrd => ?written,
    fun s p feb rdata x hp hbus hcode hrd => ?read⟩
  case starts => exact ⟨_, exec_serialTransaction_of_next hp hphase hturn hbus hx, busTaken_bus⟩
  case busLow =>
    obtain ⟨hfree, hlast, -, -⟩ := endTxn_pathFe (code := 5) (busTaken_bus (s := s) (p := p) (x := x))
    exact ⟨_, exec_serialTransaction_of_next hp hphase hturn hbus hx, hfree, hlast⟩
  case coded =>
    have hstopped : ((serialStopped s p x feb).pathFe p).bus = some x := by rw [serialStopped_pathFe, hbus]
    obtain ⟨hfree, hlast, hfea, hfeb⟩ := endTxn_pathFe (code := (serialRun x.bits feb).1) hstopped
    refine ⟨_, exec_serialTransactionDone_of_not_read hp hbus (fun h => hcode h.1), hfree, hlast, ?_, ?_, ?_⟩
    · rw [hfea, serialStopped_pathFe]
    · rw [hfeb, serialStopped_pathFe]
    · rw [endTxn_clk, serialStopped, setFe_clk, reachElapsed_elapsed, bitTicks]
  case written =>
    have hstopped : ((serialStopped s p x feb).pathFe p).bus = some x := by rw [serialStopped_pathFe, hbus]
    obtain ⟨hfree, hlast, -, -⟩ := endTxn_pathFe (code := (serialRun x.bits feb).1) hstopped
    refine ⟨_, exec_serialTransactionDone_of_not_read hp hbus (fun h => ?_), hfree, hlast.trans hcode⟩
    exact Bool.false_ne_true (hrd.symm.trans h.2)
  case read =>
    obtain ⟨code, hx⟩ := exec_serialTransactionDone_of_read (feb := feb) (rdata := rdata) hp hbus ⟨hcode, hrd⟩
    have hread : ((serialRead s p x feb rdata).pathFe p).bus = some x := by rw [serialRead_bus, hbus]
    obtain ⟨hfree, -, -, -⟩ := endTxn_pathFe (code := code) hread
    refine ⟨_, hx, hfree, ?_⟩
    rw [rd_endTxn_feRdata, rd_serialRead]

end Sys2Proof.Machine
end

section
/-!
The converters, and with them the settlement of O19: what the end of a rotation step, the retirement of a slice and a failure leave of a
converter, and the end of a DAC's dwell.
-/

namespace Sys2Proof.Machine

variable {s t : State} {k slice sp : Nat}

theorem mem_setIns {x y : Nat} {l : List Nat} : x ∈ setIns y l ↔ x = y ∨ x ∈ l := by
  induction l with
  | nil => exact List.mem_singleton.trans (or_iff_left List.not_mem_nil).symm
  | cons z l ih =>
    unfold setIns
    split
    case isTrue => exact List.mem_cons
    case isFalse =>
      split
      case isTrue h => rw [h, List.mem_cons, or_self_left]
      case isFalse => rw [List.mem_cons, ih, List.mem_cons, or_left_comm]

/-! ## What leaves the converters -/

theorem conv_of_cvt (h : t.cvt = s.cvt) : t.conv k = s.conv k := by rw [State.conv, h, State.conv]

@[simp] theorem raise_conv (a b c : Nat) : (raise s a b c).conv k = s.conv k := conv_of_cvt (raise_cvt ..)

@[simp] theorem markSpan_conv (j a b : Nat) : (markSpan s j a b).conv k = s.conv k :=
  conv_of_cvt ((markSpan_same j a b (Nat.and_self _) (Same.refl _ s)).but.cvt (by decide))

@[simp] theorem condOn_conv (a b c : Nat) : (condOn s a b c).conv k = s.conv k :=
  conv_of_cvt ((condOn_same a b c (Nat.and_self _) (Same.refl _ s)).but.cvt (by decide))

@[simp] theorem condOff_conv (a b c : Nat) : (condOff s a b c).conv k = s.conv k :=
  conv_of_cvt ((condOff_same a b c (Nat.and_self _) (Same.refl _ s)).but.cvt (by decide))

@[simp] theorem spurEdge_conv (j : Nat) : (spurEdge s j).conv k = s.conv k :=
  conv_of_cvt ((spurEdge_same j (Nat.and_self _) (Same.refl _ s)).but.cvt (by decide))

@[simp] theorem sliceRetired_conv (j : Nat) : (sliceRetired s j).conv k = s.conv k :=
  conv_of_cvt ((sliceRetired_same j (Nat.and_self _) (Same.refl _ s)).but.cvt (by decide))

@[simp] theorem failPath_conv (p : Nat) : (failPath s p).conv k = s.conv k :=
  conv_of_cvt ((failPath_same p (Nat.and_self _) (Same.refl _ s)).but.cvt (by decide))

@[simp] theorem statPath_conv (p item n : Nat) : (statPath s p item n).conv k = s.conv k :=
  conv_of_cvt ((statPath_same p item n (Nat.and_self _) (Same.refl _ s)).but.cvt (by decide))

theorem conv_setConv_other {j : Nat} (x : Conv) (h : k ≠ j) : (s.setConv j x).conv k = s.conv k := spGet_spPut_other _ _ _ _ h

/-- A capture that opens leaves the converters. -/
theorem openCapture_conv (p st b n src : Nat) : (openCapture s p st b n src).conv k = s.conv k := by
  unfold openCapture
  split
  · exact conv_of_cvt ((discardCapture_same p b (Nat.and_self _) (Same.refl _ s)).but.cvt (by decide))
  · rw [State.conv, wf_cvt]
    rfl

theorem openDue_conv (r : Nat) : (openDue s r).conv k = s.conv k := by
  unfold openDue
  dsimp only
  split
  · rfl
  · split
    · rfl
    · split
      · exact openCapture_conv ..
      · exact openCapture_conv ..

@[simp] theorem openVisits_conv : (openVisits s).conv k = s.conv k :=
  List.foldlRecOn (motive := fun (u : State) => u.conv k = s.conv k) _ openDue rfl (fun _ h r _ => (openDue_conv r).trans h)

/-! ## What waits to be presented keeps waiting -/

theorem Fires.of_waiting {n : Nat} (h : Fires s n) (e : t.evt.waiting = s.evt.waiting) : Fires t n := by
  unfold Fires
  rw [e]
  exact h

theorem Fires.ite {n : Nat} {c : Prop} [Decidable c] (hs : Fires s n) (ht : Fires t n) : Fires (if c then s else t) n := by
  split
  · exact hs
  · exact ht

theorem Fires.condOn {n : Nat} (h : Fires s n) (src inst aux : Nat) : Fires (condOn s src inst aux) n := by
  unfold Machine.condOn
  refine Fires.ite h (Fires.raise ?_ ..)
  exact h.of_waiting rfl

theorem cease_evt (src inst : Nat) : (cease s src inst).evt = s.evt :=
  List.foldlRecOn (motive := fun (u : State) => u.evt = s.evt) _ _ rfl (fun u h d _ => by
    split
    · exact h
    · exact h)

theorem Fires.condOff {n : Nat} (h : Fires s n) (src inst aux : Nat) : Fires (condOff s src inst aux) n := by
  unfold Machine.condOff
  refine Fires.ite (Fires.ite ?_ (Fires.of_evt ?_ (cease_evt ..))) h
  · exact h.of_waiting rfl
  · exact h.of_waiting rfl

theorem Fires.checkForecast {n : Nat} (h : Fires s n) (pool : Nat) : Fires (checkForecast s pool) n := by
  unfold Machine.checkForecast
  refine Fires.ite (Fires.condOn ?_ ..) (Fires.ite (Fires.foldl (fun _ _ hu => hu.condOff ..) ?_) h)
  · exact h.of_evt rfl
  · exact h.of_evt rfl

theorem Fires.spareUsed {n : Nat} (h : Fires s n) (kind i : Nat) : Fires (spareUsed s kind i) n := by
  have hused (u : List Nat) : Fires { s with nv := { s.nv with uses := spPut [] s.nv.uses (poolOf kind i) u } } n := h.of_evt rfl
  unfold Machine.spareUsed
  exact Fires.checkForecast (Fires.ite (((hused _).raise ..).raise ..) ((hused _).raise ..)) _

theorem Fires.setConv {n : Nat} (h : Fires s n) (j : Nat) (x : Conv) : Fires (s.setConv j x) n := h.of_evt (setConv_evt ..)

theorem Fires.clockConv {n : Nat} (h : Fires s n) (j : Nat) : Fires (clockConv s j) n :=
  h.of_evt ((clockConv_same j (Nat.and_self _) (Same.refl _ s)).but.evt (by decide))

theorem Fires.saveConv {n : Nat} (h : Fires s n) (j : Nat) : Fires (saveConv s j) n := h.of_evt rfl

theorem Fires.markSpan {n : Nat} (h : Fires s n) (j a b : Nat) : Fires (markSpan s j a b) n :=
  h.of_evt ((markSpan_same j a b (Nat.and_self _) (Same.refl _ s)).but.evt (by decide))

theorem Fires.spurEdge {n : Nat} (h : Fires s n) (j : Nat) : Fires (spurEdge s j) n :=
  h.of_evt ((spurEdge_same j (Nat.and_self _) (Same.refl _ s)).but.evt (by decide))

theorem Fires.failPath {n : Nat} (h : Fires s n) (p : Nat) : Fires (failPath s p) n :=
  h.of_evt ((failPath_same p (Nat.and_self _) (Same.refl _ s)).but.evt (by decide))

theorem Fires.sliceRetired {n : Nat} (h : Fires s n) (j : Nat) : Fires (sliceRetired s j) n := by
  unfold Machine.sliceRetired
  exact Fires.spareUsed (Fires.saveConv (h.raise ..) _) ..

/-- R139: a slice's retirement is reported. -/
theorem fires_sliceRetired (s : State) (j : Nat) : Fires (sliceRetired s j) 33 := by
  unfold sliceRetired
  exact Fires.spareUsed (Fires.saveConv (fires_raise ..) _) ..

theorem Fires.orxFails {n : Nat} (h : Fires s n) (r : Nat) : Fires (orxFails s r) n := by
  have hset (x : Orx) : Fires (s.setOrx r x) n := h.of_evt (setOrx_evt ..)
  unfold Machine.orxFails
  exact Fires.of_evt ((((hset _).clockConv _).clockConv _).raise ..) rfl

theorem Fires.openCapture {m : Nat} (h : Fires s m) (p st b n src : Nat) : Fires (openCapture s p st b n src) m := by
  unfold Machine.openCapture
  refine Fires.ite ((h.statPath ..).raise ..) (Fires.of_evt ?_ (wf_evt ..))
  exact h.of_evt rfl

theorem Fires.openDue {n : Nat} (h : Fires s n) (r : Nat) : Fires (openDue s r) n := by
  have hset (x : Orx) : Fires (s.setOrx r x) n := h.of_evt (setOrx_evt ..)
  unfold Machine.openDue
  split
  · exact h
  · exact Fires.ite h (Fires.ite (Fires.of_evt ((hset _).openCapture ..) (setBuf_evt ..)) ((hset _).openCapture ..))

theorem Fires.openVisits {n : Nat} (h : Fires s n) : Fires (openVisits s) n := Fires.foldl (fun _ r hu => hu.openDue r) h

/-! ## A converter but for its timer -/

/-- A converter's record without its timer (R128). -/
def Conv.untimed (c : Conv) : Conv := { c with left := 0, runs := none }

theorem Conv.eq_of_untimed {c d : Conv} (h : c.untimed = d.untimed) : ∃ left runs, c = { d with left := left, runs := runs } :=
  ⟨c.left, c.runs, congrArg (fun x : Conv => { x with left := c.left, runs := c.runs }) h⟩

/-- A timer set leaves every converter but for its timer. -/
theorem setConv_timer_untimed (j left : Nat) (runs : Option Nat) :
    ((s.setConv j { s.conv j with left := left, runs := runs }).conv k).untimed = (s.conv k).untimed := by
  by_cases hk : k = j
  · rw [hk, conv_setConv]
    rfl
  · rw [conv_setConv_other _ hk]

theorem clockConv_untimed (j : Nat) : ((clockConv s j).conv k).untimed = (s.conv k).untimed := by
  unfold clockConv
  dsimp only
  split
  · exact setConv_timer_untimed ..
  · exact setConv_timer_untimed ..
  · rfl

theorem orxFails_untimed (r : Nat) : ((orxFails s r).conv k).untimed = (s.conv k).untimed := by
  have hraise (u : State) : (readmit (raise u 39 NA NA)).conv k = u.conv k := raise_conv ..
  rw [orxFails, hraise, clockConv_untimed, clockConv_untimed]
  rfl

/-! ## Failure of a converter (R138) -/

theorem convFails_untimed : ((convFails s k slice).conv k).untimed =
    { s.conv k with failed := true, retired := setIns slice (s.conv k).retired, stuck := none, swapDue := false }.untimed := by
  have hset (u : State) (x : Conv) : ((saveConv (clockConv (u.setConv k x) k) k).conv k).untimed = x.untimed := by
    show ((clockConv (u.setConv k x) k).conv k).untimed = x.untimed
    rw [clockConv_untimed, conv_setConv]
  unfold convFails
  dsimp only
  split
  · rw [failPath_conv, raise_conv, hset]
  · split
    · rw [orxFails_untimed, hset]
    · rw [raise_conv, hset]

theorem Fires.convFails {n : Nat} (h : Fires s n) (j slice : Nat) : Fires (convFails s j slice) n := by
  have hsaved (c : Prop) [Decidable c] (i a b : Nat) (x : Conv) :
      Fires (Machine.saveConv (Machine.clockConv ((if c then Machine.markSpan s i a b else s).setConv j x) j) j) n :=
    ((Fires.ite (h.markSpan ..) h).setConv ..).clockConv _ |>.saveConv _
  unfold Machine.convFails
  exact Fires.ite (((hsaved ..).raise ..).failPath _) (Fires.ite ((hsaved ..).orxFails _) ((hsaved ..).raise ..))

/-- R138, R139: a path's converter that fails takes its path with it, and is reported. -/
theorem convFails_path (hk : k < 128) : ((convFails s k slice).pathFe (k / 2)).failed = true ∧ Fires (convFails s k slice) 39 := by
  have hfailed (u : State) {p : Nat} (hp : p < 64) : ((failPath u p).pathFe p).failed = true := by
    unfold failPath
    dsimp only
    split
    · exact congrArg PathFe.failed (spGet_spPut_same ..)
    next h => exact Decidable.of_not_not (fun hf => h ⟨hp, hf⟩)
  unfold convFails
  dsimp only
  rw [if_pos hk, convPath, if_pos hk]
  exact ⟨hfailed _ (by omega), (fires_raise ..).failPath _⟩

/-! ## Retirement of a spare (R132, R133) -/

/-- A spare retired, before a converter that awaited it fails. -/
def spareRetired (s : State) (k slice : Nat) : State :=
  let c := s.conv k
  let s1 := s.setConv k { c with spare := none, retired := setIns slice c.retired, held := true, missed := false, swapDue := false,
                                 left := blindTicks k, runs := none }
  spurEdge (raise (sliceRetired (clockConv s1 k) k) 35 NA (convPath k)) (k / 2)

theorem retireSpare_cases (s : State) (k slice : Nat) :
    retireSpare s k slice = spareRetired s k slice ∨ ∃ x, retireSpare s k slice = convFails (spareRetired s k slice) k x := by
  unfold retireSpare
  dsimp only
  split
  · exact .inr ⟨_, rfl⟩
  · exact .inl rfl

theorem spareRetired_untimed : ((spareRetired s k slice).conv k).untimed = { s.conv k with
    spare := none, retired := setIns slice (s.conv k).retired, held := true, missed := false, swapDue := false }.untimed := by
  rw [spareRetired, spurEdge_conv, raise_conv, sliceRetired_conv, clockConv_untimed, conv_setConv]
  rfl

/-- R132, R137: a converter whose spare is retired holds none. -/
theorem retireSpare_conv : ((retireSpare s k slice).conv k).spare = none ∧ slice ∈ ((retireSpare s k slice).conv k).retired := by
  obtain ⟨left, runs, hretired⟩ := Conv.eq_of_untimed (spareRetired_untimed (s := s) (k := k) (slice := slice))
  have hmem : slice ∈ setIns slice (s.conv k).retired := mem_setIns.2 (.inl rfl)
  rcases retireSpare_cases s k slice with h | ⟨x, h⟩
  · rw [h, hretired]
    exact ⟨rfl, hmem⟩
  · obtain ⟨_, _, hfailed⟩ := Conv.eq_of_untimed (convFails_untimed (s := spareRetired s k slice) (k := k) (slice := x))
    rw [h, hfailed, hretired]
    exact ⟨rfl, mem_setIns.2 (.inr hmem)⟩

theorem Fires.retireSpare_of {n : Nat} (h : Fires (spareRetired s k slice) n) : Fires (retireSpare s k slice) n := by
  rcases retireSpare_cases s k slice with e | ⟨x, e⟩
  · rw [e]
    exact h
  · rw [e]
    exact h.convFails ..

theorem Fires.retireSpare {n : Nat} (h : Fires s n) (k slice : Nat) : Fires (retireSpare s k slice) n := by
  refine Fires.retireSpare_of ?_
  unfold spareRetired
  dsimp only
  exact (Fires.raise (((h.setConv ..).clockConv _).sliceRetired _) ..).spurEdge _

/-- R132, R133: a spare's retirement, and the loss of the spare, are reported. -/
theorem fires_retireSpare (s : State) (k slice : Nat) : Fires (retireSpare s k slice) 33 ∧ Fires (retireSpare s k slice) 35 := by
  refine ⟨Fires.retireSpare_of ?_, Fires.retireSpare_of ?_⟩
  · unfold spareRetired
    dsimp only
    exact ((fires_sliceRetired ..).raise ..).spurEdge _
  · unfold spareRetired
    dsimp only
    exact (fires_raise ..).spurEdge _

/-! ## Emergency swaps (R134, R136) -/

/-- The spare at the faulty slice's position, and the slice retired. -/
def sliceReplaced (s : State) (k slice sp : Nat) : State :=
  let c := s.conv k
  let j := c.pos.findIdx (· = slice)
  let pos := c.pos.set j sp
  let s0 := if c.stuck.isSome then markSpan s (markKey 5 k) c.stuckFrom s.clk.elapsed else s
  let s1 := s0.setConv k { c with pos := pos, spare := none, retired := setIns slice c.retired, held := true,
                                  corr := recentre pos c.corr, shadow := (j + 1) % c.pos.length, missed := false, swapDue := false,
                                  stuck := none, left := blindTicks k, runs := none }
  raise (sliceRetired (spurEdge (clockConv s1 k) (k / 2)) k) 34 NA (convPath k)

/-- The capture open on a converter's path or ORX records the swap (R164). -/
def captureFlagged (s : State) (k : Nat) : State :=
  match convStaging k with
  | some st => (match spGet none s.cvt.staging st with
    | some b => if captureOpen s st then s.setBuf b { s.buf b with emerg := true } else s
    | none => s)
  | none => s

theorem captureFlagged_conv_evt : (captureFlagged s k).conv k = s.conv k ∧ (captureFlagged s k).evt = s.evt := by
  unfold captureFlagged
  split
  · split
    · split
      · exact ⟨rfl, rfl⟩
      · exact ⟨rfl, rfl⟩
    · exact ⟨rfl, rfl⟩
  · exact ⟨rfl, rfl⟩

theorem emergencySwap_of_spare (h : (s.conv k).spare = some sp) : emergencySwap s k slice =
    raise (captureFlagged (openVisits (if k < 128 then statPath (sliceReplaced s k slice sp) (k / 2) 0x1D else sliceReplaced s k slice sp)) k)
      35 NA (convPath k) := by
  unfold emergencySwap
  dsimp only
  rw [h]
  rfl

theorem emergencySwap_untimed (h : (s.conv k).spare = some sp) : ((emergencySwap s k slice).conv k).untimed = { s.conv k with
    pos := (s.conv k).pos.set ((s.conv k).pos.findIdx (· = slice)) sp, spare := none, retired := setIns slice (s.conv k).retired, held := true,
    corr := recentre ((s.conv k).pos.set ((s.conv k).pos.findIdx (· = slice)) sp) (s.conv k).corr,
    shadow := ((s.conv k).pos.findIdx (· = slice) + 1) % (s.conv k).pos.length, missed := false, swapDue := false, stuck := none }.untimed := by
  have hcount (u : State) : (if k < 128 then statPath u (k / 2) 0x1D else u).conv k = u.conv k := by
    split
    · exact statPath_conv ..
    · rfl
  rw [emergencySwap_of_spare h, raise_conv, captureFlagged_conv_evt.1, openVisits_conv, hcount, sliceReplaced, raise_conv, sliceRetired_conv,
    spurEdge_conv, clockConv_untimed, conv_setConv]
  rfl

theorem fires_sliceReplaced : Fires (sliceReplaced s k slice sp) 33 ∧ Fires (sliceReplaced s k slice sp) 34 := by
  unfold sliceReplaced
  dsimp only
  exact ⟨Fires.raise (fires_sliceRetired ..) .., fires_raise ..⟩

/-- R134, R139: an emergency swap, its slice's retirement and the loss of the spare are reported. -/
theorem fires_emergencySwap (h : (s.conv k).spare = some sp) :
    Fires (emergencySwap s k slice) 33 ∧ Fires (emergencySwap s k slice) 34 ∧ Fires (emergencySwap s k slice) 35 := by
  have hlast {n : Nat} (hn : Fires (sliceReplaced s k slice sp) n) : Fires (emergencySwap s k slice) n := by
    rw [emergencySwap_of_spare h]
    exact Fires.raise ((Fires.ite (hn.statPath ..) hn).openVisits.of_evt captureFlagged_conv_evt.2) ..
  refine ⟨hlast fires_sliceReplaced.1, hlast fires_sliceReplaced.2, ?_⟩
  rw [emergencySwap_of_spare h]
  exact fires_raise ..

theorem emergencySwap_of_no_spare (h : (s.conv k).spare = none) : emergencySwap s k slice = convFails s k slice := by
  unfold emergencySwap
  dsimp only
  rw [h]

/-! ## The end of a rotation step (R127, R137) -/

/-- A step or window that has ended, its spur estimate published. -/
def stepEnded (s : State) (k next : Nat) (spur : Int) : State := publishSpur (timerEnd s k next) k spur

section StepEnd

variable {t0 next : Nat} {spur : Int} {est : SliceEst} (hruns : (s.conv k).runs = some t0)
include hruns

theorem timerEnd_conv : (timerEnd s k next).conv k = { s.conv k with left := next, runs := some (t0 + (s.conv k).left) } := by
  rw [timerEnd, hruns]
  exact conv_setConv ..

theorem stepEnded_conv : (stepEnded s k next spur).conv k =
    { s.conv k with left := next, runs := some (t0 + (s.conv k).left), spur := spur } := by
  unfold stepEnded publishSpur
  dsimp only
  split
  · rw [condOn_conv, spurEdge_conv, conv_setConv, timerEnd_conv hruns]
  · rw [condOff_conv, spurEdge_conv, conv_setConv, timerEnd_conv hruns]

/-- R127: a step ends where its timer runs out. -/
theorem stepEnded_elapsed : (stepEnded s k next spur).clk.elapsed = max s.clk.elapsed (t0 + (s.conv k).left) := by
  rw [stepEnded, (publishSpur_same k spur (Nat.and_self _) (Same.refl _ _)).but.clk (by decide), timerEnd, hruns, setConv_clk,
    reachElapsed_elapsed]
  rfl

/-- The end of a window of blind tracking (R137). -/
theorem exec_rotationStepEnd_of_no_spare (hk : k < 138) (hfailed : (s.conv k).failed = false) (hspare : (s.conv k).spare = none) :
    exec (.rotationStepEnd k est) s = .next ((stepEnded s k (blindTicks k) est.spur).setConv k
      { (stepEnded s k (blindTicks k) est.spur).conv k with
        corr := blindTrack ((stepEnded s k (blindTicks k) est.spur).conv k) est.blind }) := by
  rw [exec_rotationStepEnd, execRotationStepEnd,
    if_pos ⟨hk, by rw [hfailed]; exact Bool.false_ne_true, by rw [hruns]; rfl, by rw [hspare]; rfl⟩]
  rfl

variable (hrot : rotates s k = true) (hdue : (s.conv k).swapDue = false) (hspare : (s.conv k).spare = some sp)
include hrot hdue hspare

/-- The end of a step whose active slice is not replaced (R125, R132): the spare passes, or fails for the first or the second time. -/
theorem exec_rotationStepEnd_of_spare (hact : ¬ (activeFaulty est = true ∧ ¬ estFails est = true)) :
    exec (.rotationStepEnd k est) s = .next (
      let s1 := stepEnded s k (stepTicks k) est.spur
      let c := s1.conv k
      if spareFails est then
        if c.missed then retireSpare (raise s1 32 NA (convPath k)) k sp else (raise s1 32 NA (convPath k)).setConv k { c with missed := true }
      else
        s1.setConv k { c with missed := false, swapDue := true, trim := spPut 0 c.trim c.shadow est.trim,
                              corr := spPut SliceCorr.zero c.corr sp ⟨est.offset, est.gain, est.delay, est.bw⟩ }) := by
  have hsp : ((publishSpur (timerEnd s k (stepTicks k)) k est.spur).conv k).spare = some sp :=
    (congrArg Conv.spare (stepEnded_conv hruns)).trans hspare
  rw [exec_rotationStepEnd, execRotationStepEnd, if_neg (by rw [hspare]; rintro ⟨-, -, -, h⟩; cases h),
    if_pos ⟨hrot, by rw [hruns]; rfl, by rw [hdue]; exact Bool.false_ne_true⟩]
  dsimp only
  rw [hsp]
  dsimp only
  rw [if_neg hact, ← stepEnded]
  rw [← stepEnded] at hsp
  split
  · split
    · rfl
    · rw [← hsp]
  · rw [← hsp]

end StepEnd

/-! ## Dwells of a DAC (R143, R144) -/

section Dwell

variable {d trim : Nat}

theorem reachElapsed_dac (n : Nat) : (reachElapsed s n).dac d = s.dac d := rfl

theorem dac_of_cvt (h : t.cvt = s.cvt) : t.dac d = s.dac d := by rw [State.dac, h, State.dac]

theorem dwellEnd_clk (good : Bool) : (dwellEnd s d trim good).clk = s.clk :=
  (dwellEnd_same d trim good (Nat.and_self _) (Same.refl _ s)).but.clk (by decide)

variable (htrim : (s.dac d).trimming = false)
include htrim

theorem dwellEnd_good_dac : (dwellEnd s d trim true).dac d = { s.dac d with
    dwelling := false, at_ := ((s.dac d).at_ + 1) % 63,
    trims := spPut 0 (s.dac d).trims (spGet (s.dac d).at_ (s.dac d).map (s.dac d).at_) (trim % 256) } := by
  unfold dwellEnd
  dsimp only
  rw [htrim, if_neg Bool.false_ne_true, if_pos rfl]
  exact dac_setDac ..

/-- R144: the check spare takes a failed cell's place, which is reported. -/
theorem dwellEnd_bad : ∃ x, (dwellEnd s d trim false).dac d = x ∧ x.dwelling = false ∧ x.check = (s.dac d).other ∧ x.other = none ∧
    x.map = spPut (s.dac d).at_ (s.dac d).map (s.dac d).at_ ((s.dac d).check.getD 0) ∧ Fires (dwellEnd s d trim false) 37 := by
  unfold dwellEnd
  dsimp only
  rw [htrim, if_neg Bool.false_ne_true, if_neg Bool.false_ne_true]
  have hused (u : State) : (spareUsed (raise u 37 NA (d / 2)) 1 d).dac d = u.dac d :=
    dac_of_cvt (((spareUsed_same 1 d (Nat.and_self _) (Same.refl _ _)).but.cvt (by decide)).trans (raise_cvt ..))
  split
  · refine ⟨_, (dac_of_cvt (raise_cvt ..)).trans ((hused _).trans (dac_setDac ..)), rfl, rfl, rfl, rfl, ?_⟩
    exact ((fires_raise ..).spareUsed ..).raise ..
  · exact ⟨_, (hused _).trans (dac_setDac ..), rfl, rfl, rfl, rfl, (fires_raise ..).spareUsed ..⟩

end Dwell

/-! ## The commands -/

section Commands

variable {d trim : Nat} {dev : Int} {follows : Bool}

/-- SLICE_SWAP while a stuck slice awaits its emergency swap cancels the scheduled one (R136). -/
theorem exec_sliceSwap_of_stuck (hdue : (s.conv k).swapDue = true) (hspare : (s.conv k).spare = some sp) (hstuck : (s.conv k).stuck ≠ none) :
    ∃ t, exec (.sliceSwap k) s = .next t ∧ t.conv k = { s.conv k with spare := some sp, swapDue := false } := by
  rw [exec_sliceSwap, execSliceSwap]
  dsimp only
  rw [hdue, hspare]
  dsimp only
  rw [if_pos (Option.isSome_iff_ne_none.2 hstuck)]
  exact ⟨_, rfl, conv_setConv ..⟩

/-- SLICE_SWAP takes the spare in at the position that it shadowed (R130, R131). -/
theorem exec_sliceSwap_of_due (hdue : (s.conv k).swapDue = true) (hspare : (s.conv k).spare = some sp) (hstuck : (s.conv k).stuck = none) :
    ∃ t, exec (.sliceSwap k) s = .next t ∧ t.conv k = { s.conv k with
      pos := (s.conv k).pos.set (s.conv k).shadow sp, spare := some ((s.conv k).pos.getD (s.conv k).shadow 0),
      corr := recentre ((s.conv k).pos.set (s.conv k).shadow sp) (s.conv k).corr, swapDue := false,
      shadow := ((s.conv k).shadow + 1) % (s.conv k).pos.length } := by
  rw [exec_sliceSwap, execSliceSwap]
  dsimp only
  rw [hdue, hspare]
  dsimp only
  rw [if_neg (by rw [hstuck]; exact Bool.false_ne_true)]
  exact ⟨_, rfl, conv_setConv ..⟩

/-- STUCK_SLICE_DETECT of the spare retires it (R133). -/
theorem exec_stuckSliceDetect_of_spare (hk : k < 138) (hconv : converting s k = true) (hspare : (s.conv k).spare = some slice) :
    exec (.stuckSliceDetect k slice) s = .next (retireSpare s k slice) := by
  rw [exec_stuckSliceDetect, execStuckSliceDetect]
  dsimp only
  rw [if_pos ⟨hk, hconv⟩, if_pos hspare]

/-- STUCK_SLICE_DETECT of an active slice has it await its emergency swap (R133, R135). -/
theorem exec_stuckSliceDetect_of_active (hk : k < 138) (hconv : converting s k = true) (hspare : (s.conv k).spare = some sp)
    (hne : sp ≠ slice) (hmem : slice ∈ (s.conv k).pos) : exec (.stuckSliceDetect k slice) s =
      .next (s.setConv k { s.conv k with stuck := some slice, stuckFrom := s.clk.elapsed - 1639 }) := by
  have hother : (s.conv k).spare ≠ some slice := fun h => hne (Option.some.inj (hspare.symm.trans h))
  have hheld : ¬ (s.conv k).spare.isNone = true := by rw [hspare]; exact Bool.false_ne_true
  rw [exec_stuckSliceDetect, execStuckSliceDetect]
  dsimp only
  rw [if_pos ⟨hk, hconv⟩, if_neg hother, if_pos hmem, if_neg hheld]

theorem exec_emergencySwap_of_active (hk : k < 138) (hmem : slice ∈ (s.conv k).pos) (hfailed : (s.conv k).failed = false) :
    exec (.emergencySwap k slice) s = .next (emergencySwap s k slice) := by
  rw [Machine.exec_emergencySwap, execEmergencySwap, if_pos ⟨hk, hmem, by rw [hfailed]; exact Bool.false_ne_true⟩]

theorem exec_dacDwellEnd_of_dwelling (hd : d < 128) (hdwell : (s.dac d).dwelling = true) (hpath : s.pathState (d / 2) ≠ .off) :
    exec (.dacDwellEnd d trim dev follows) s =
      .next (dwellEnd (reachElapsed s ((s.dac d).dwellAt + 4 * msTicks)) d trim (decide (dev.natAbs ≤ 300) && follows)) := by
  rw [exec_dacDwellEnd, execDacDwellEnd]
  dsimp only
  rw [if_pos ⟨hd, hdwell, hpath⟩]

end Commands

/-! ## The obligation -/

/-- Settles O19: the end of a rotation step through `stepEnded`, and what it, a stuck slice or an emergency swap then leaves through
`retireSpare`, `emergencySwap` and `convFails`, each told but for the converter's timer; a dwell through `dwellEnd`. -/
theorem converterCommandsComplete : Obligations.ConverterCommandsComplete := by
  unfold Obligations.ConverterCommandsComplete
  refine ⟨fun s k est sp t0 hrot hruns hdue hspare hact hpass => ?passes, fun s k est sp t0 hrot hruns hdue hspare hfail hmissed => ?failsOnce,
    fun s k est sp t0 hrot hruns hdue hspare hfail hmissed => ?failsTwice, fun s k est t0 hk hfailed hruns hspare => ?tracks,
    fun s k sp hdue hspare hstuck => ?cancels, fun s k sp hdue hspare hstuck => ?swaps, fun s k slice hk hconv hspare => ?stuckSpare,
    fun s k slice sp hk hconv hspare hne hmem => ?stuckActive, fun s k slice sp hk hfailed hspare hmem => ?replaces,
    fun s k slice hk hfailed hspare hmem => ?fails, fun s d hd hcheck hdwell hpath => ?dwells,
    fun s d trim dev hd hdwell htrim hpath hdev => ?trims, fun s d trim dev follows hd hdwell htrim hpath hbad => ?replacesCell⟩
  case passes =>
    refine ⟨_, exec_rotationStepEnd_of_spare hruns hrot hdue hspare (fun h => by rw [hact] at h; cases h.1), ?_⟩
    dsimp only
    rw [if_neg (by rw [hpass]; exact Bool.false_ne_true), conv_setConv, stepEnded_conv hruns]
    exact ⟨rfl, rfl, spGet_spPut_same .., stepEnded_elapsed hruns, rfl⟩
  case failsOnce =>
    have hsp : spareFails est = true := by rw [spareFails, hfail]; rfl
    refine ⟨_, exec_rotationStepEnd_of_spare hruns hrot hdue hspare (fun h => h.2 hfail), ?_⟩
    dsimp only
    rw [if_pos hsp, if_neg (by rw [stepEnded_conv hruns, hmissed]; exact Bool.false_ne_true), conv_setConv, stepEnded_conv hruns]
    exact ⟨rfl, rfl, rfl, rfl, (fires_raise ..).setConv ..⟩
  case failsTwice =>
    have hsp : spareFails est = true := by rw [spareFails, hfail]; rfl
    refine ⟨_, exec_rotationStepEnd_of_spare hruns hrot hdue hspare (fun h => h.2 hfail), ?_⟩
    dsimp only
    rw [if_pos hsp, if_pos (by rw [stepEnded_conv hruns, hmissed])]
    exact ⟨retireSpare_conv.1, retireSpare_conv.2, (fires_raise ..).retireSpare .., (fires_retireSpare ..).1⟩
  case tracks =>
    refine ⟨_, exec_rotationStepEnd_of_no_spare hruns hk hfailed hspare, ?_⟩
    dsimp only
    rw [conv_setConv, stepEnded_conv hruns]
    exact ⟨rfl, rfl, stepEnded_elapsed hruns⟩
  case cancels =>
    obtain ⟨t, hx, ht⟩ := exec_sliceSwap_of_stuck hdue hspare hstuck
    refine ⟨t, hx, ?_⟩
    dsimp only
    rw [ht]
    exact ⟨rfl, rfl, rfl⟩
  case swaps =>
    obtain ⟨t, hx, ht⟩ := exec_sliceSwap_of_due hdue hspare hstuck
    refine ⟨t, hx, ?_⟩
    dsimp only
    rw [ht]
    exact ⟨rfl, rfl, rfl, rfl, rfl⟩
  case stuckSpare =>
    exact ⟨_, exec_stuckSliceDetect_of_spare hk hconv hspare, retireSpare_conv.1, retireSpare_conv.2, (fires_retireSpare ..).2⟩
  case stuckActive =>
    refine ⟨_, exec_stuckSliceDetect_of_active hk hconv hspare hne hmem, ?_⟩
    dsimp only
    rw [conv_setConv]
    exact ⟨rfl, rfl⟩
  case replaces =>
    obtain ⟨left, runs, hswapped⟩ := Conv.eq_of_untimed (emergencySwap_untimed (slice := slice) hspare)
    refine ⟨_, exec_emergencySwap_of_active hk hmem hfailed, ?_⟩
    dsimp only
    rw [hswapped]
    exact ⟨rfl, rfl, rfl, mem_setIns.2 (.inl rfl), fires_emergencySwap hspare⟩
  case fails =>
    obtain ⟨left, runs, hconv⟩ := Conv.eq_of_untimed (convFails_untimed (s := s) (k := k) (slice := slice))
    refine ⟨_, exec_emergencySwap_of_active (by omega) hmem hfailed, ?_⟩
    dsimp only
    rw [emergencySwap_of_no_spare hspare, hconv]
    exact ⟨rfl, convFails_path hk⟩
  case dwells =>
    refine ⟨_, by rw [exec_dacDwellStart, execDacDwellStart, if_pos ⟨hd, hcheck, by rw [hdwell]; exact Bool.false_ne_true, hpath⟩], ?_⟩
    exact dac_setDac ..
  case trims =>
    have htrim' : ((reachElapsed s ((s.dac d).dwellAt + 4 * msTicks)).dac d).trimming = false := by rw [reachElapsed_dac, htrim]
    refine ⟨_, exec_dacDwellEnd_of_dwelling hd hdwell hpath, ?_⟩
    dsimp only
    rw [decide_eq_true hdev, Bool.true_and, dwellEnd_good_dac htrim', dwellEnd_clk, reachElapsed_elapsed, reachElapsed_dac]
    exact ⟨rfl, rfl, rfl, rfl⟩
  case replacesCell =>
    have htrim' : ((reachElapsed s ((s.dac d).dwellAt + 4 * msTicks)).dac d).trimming = false := by rw [reachElapsed_dac, htrim]
    have hgood : (decide (dev.natAbs ≤ 300) && follows) = false := by
      rcases hbad with hdev | hfollows
      · rw [decide_eq_false (Nat.not_le.2 hdev), Bool.false_and]
      · rw [hfollows, Bool.and_false]
    obtain ⟨x, hx, hdone, hcheck, hother, hmap, hfires⟩ := dwellEnd_bad (trim := trim) htrim'
    rw [reachElapsed_dac] at hcheck hmap
    refine ⟨_, exec_dacDwellEnd_of_dwelling hd hdwell hpath, ?_⟩
    dsimp only
    rw [hgood, hx]
    refine ⟨hdone, hcheck, hother, ?_, hfires⟩
    rw [hmap]
    exact spGet_spPut_same ..

end Sys2Proof.Machine
end

section
/-!
The end of a visit while an adaptation job waits, and with it the settlement of O20.  A job that waits asks for a best-effort visit as soon as its
receiver is free (R154, R294), so that ORX_VISIT_END leaves the receiver at work even where no visit waited for it.
-/

namespace Sys2Proof.Machine

variable {s : State} {r p : Nat} {v : Visit} {j : DpdJob}

/-! ## The end of a visit -/

/-- A capture that opens leaves the receivers. -/
theorem openCapture_orx (p st b n src : Nat) : (openCapture s p st b n src).orx r = s.orx r := by
  unfold openCapture
  split
  · rw [State.orx, (discardCapture_same p b (Nat.and_self _) (Same.refl _ s)).but.cvt (by decide), State.orx]
  · rw [State.orx, wf_cvt]
    rfl

/-- The beginning of a visit's capture leaves the visit that waits. -/
theorem openDue_waiting : ((openDue s r).orx r).waiting = (s.orx r).waiting := by
  have hopened (x : Visit) (p st b n src : Nat) :
      ((openCapture (s.setOrx r { s.orx r with running := some x }) p st b n src).orx r).waiting = (s.orx r).waiting := by
    rw [openCapture_orx, orx_setOrx]
  unfold openDue
  dsimp only
  split
  · rfl
  · split
    · rfl
    · split
      · exact hopened ..
      · exact hopened ..

/-- The state in which a visit has ended, its receiver free (R152). -/
def visitEnded (s : State) (r : Nat) (v : Visit) : State :=
  let s1 := openDue (reachElapsed s (v.start + 491 + ceilDiv v.n 10)) r
  s1.setOrx r { s1.orx r with running := none, waiting := none }

/-- ORX_VISIT_END where no visit waits: the dispatcher's jobs are asked at once (R294). -/
theorem exec_orxVisitEnd_of_running (hr : r < 4) (hrun : (s.orx r).running = some v) (hwait : (s.orx r).waiting = none) :
    exec (.orxVisitEnd r) s = .next (askWaiting (visitEnded s r v)) := by
  have hnone : ((openDue (reachElapsed s (v.start + 491 + ceilDiv v.n 10)) r).orx r).waiting = none := openDue_waiting.trans hwait
  rw [exec_orxVisitEnd, execOrxVisitEnd, if_pos hr, hrun]
  dsimp only
  rw [hnone]
  rfl

/-! ## A job that waits (R294) -/

/-- A job with no capture and both buffers of its path's pair FREE asks for one. -/
theorem askWaiting_of_job (hj : s.disp.jobs = [j]) (hbuf : j.buf = none) (hfirst : (s.buf (2 * j.path)).st = .free)
    (hsecond : (s.buf (2 * j.path + 1)).st = .free) : askWaiting s = jobRequestCapture s j.path := by
  have hcapture : jobCapture s j.path j.start = none := by
    unfold jobCapture
    dsimp only
    rw [hfirst, hsecond]
    rfl
  unfold askWaiting
  rw [hj, List.foldl_cons, List.foldl_nil]
  simp [hbuf, hcapture, hfirst, hsecond]

/-- In FDD a capture asked for is a best-effort visit, on a receiver that is free and in service. -/
theorem jobRequestCapture_orx (hfdd : s.fdd = true) (hen : rbit s .orxCtrl [2 * (p / 16)] 0 = true)
    (horx : (s.orx (p / 16)).running = none ∧ (s.orx (p / 16)).waiting = none ∧ (s.orx (p / 16)).failed = false) :
    ∃ v, ((jobRequestCapture s p).orx (p / 16)).running = some v := by
  obtain ⟨hrun, hwait, hfailed⟩ := horx
  have hfree : rbit s .orxCtrl [2 * (p / 16)] 0 = true ∧ (s.orx (p / 16)).running.isNone = true ∧
      (s.orx (p / 16)).waiting.isNone = true ∧ ¬ (s.orx (p / 16)).failed = true :=
    ⟨hen, by rw [hrun]; rfl, by rw [hwait]; rfl, by rw [hfailed]; exact Bool.false_ne_true⟩
  rw [jobRequestCapture, if_pos hfdd]
  dsimp only
  rw [if_pos hfree]
  exact ⟨_, congrArg Orx.running (orx_setOrx ..)⟩

/-! ## A job that waits for the receiver of a visit -/

/-- A visit of 64 samples of path 5, into buffer 10. -/
def visitPath5 : Visit := ⟨5, 64, 0, false, 10, false, false⟩

/-- In FDD, with best-effort visits enabled, receiver 0 visits path 5, and an adaptation job of path 0 waits for a capture. -/
def jobAwaits : State :=
  let s := (wbit (wbit State.reset .tlPatternCfg [] 0 true) .orxCtrl [0] 0 true).setOrx 0 { Orx.reset with running := some visitPath5 }
  { s with disp := { s.disp with jobs := [⟨0, 0, none⟩] } }

/-- Refutes O20: in `jobAwaits` no visit waits for receiver 0, but when its visit ends the job of path 0 takes it for a best-effort visit, so that a
visit runs. -/
theorem not_captureCommandsComplete : ¬ Obligations.CaptureCommandsComplete := by
  unfold Obligations.CaptureCommandsComplete
  rintro ⟨-, hend, -⟩
  have hask : askWaiting (visitEnded jobAwaits 0 visitPath5) = jobRequestCapture (visitEnded jobAwaits 0 visitPath5) 0 :=
    askWaiting_of_job (j := ⟨0, 0, none⟩) (by decide +kernel) rfl (by decide +kernel) (by decide +kernel)
  obtain ⟨v, hv⟩ := jobRequestCapture_orx (s := visitEnded jobAwaits 0 visitPath5) (p := 0) (by decide +kernel) (by decide +kernel)
    (by decide +kernel)
  obtain ⟨t, hx, hfree, -⟩ := hend jobAwaits 0 visitPath5 (by decide) rfl rfl
  rw [exec_orxVisitEnd_of_running (by decide) rfl rfl, hask] at hx
  cases hx
  cases hfree.symm.trans hv

end Sys2Proof.Machine
end

section
/-!
The commands of SYNC, and with them the settlement of O21: the grid step that a request waits for, and what a SYNC leaves when it takes
effect.
-/

namespace Sys2Proof.Machine

variable {s t : State} {tick ts : Nat} {rest : List Nat}

/-! ## Requests (R173) -/

/-- The first step of the 256-tick grid at or after a tick. -/
def gridStep (s : State) (tick : Nat) : Nat := tick + (256 - (tick + frameTicks - s.frameOfs % frameTicks) % 256) % 256

theorem le_gridStep : tick ≤ gridStep s tick := Nat.le_add_right ..

theorem gridStep_lt : gridStep s tick < tick + 256 := Nat.add_lt_add_left (Nat.mod_lt _ (by decide)) _

theorem gridStep_onGrid : (gridStep s tick + frameTicks - s.frameOfs % frameTicks) % 256 = 0 := by
  have hofs : s.frameOfs % frameTicks < frameTicks := Nat.mod_lt _ (by decide)
  unfold gridStep
  omega

/-- A tick off the grid has the step of the tick after it. -/
theorem gridStep_succ (h : gridStep s tick ≠ tick) : gridStep s (tick + 1) = gridStep s tick := by
  have hofs : s.frameOfs % frameTicks < frameTicks := Nat.mod_lt _ (by decide)
  unfold gridStep at *
  omega

theorem mem_pending_requestSync : ts ∈ (requestSync s tick).rx.sync.pending ↔ ts = gridStep s tick ∨ ts ∈ s.rx.sync.pending :=
  mem_setIns

theorem gridStep_requestSync (n : Nat) : gridStep (requestSync s n) tick = gridStep s tick := rfl

theorem syncPends_of_mem (h : gridStep t tick ∈ t.rx.sync.pending) : SyncPends t tick :=
  ⟨_, h, le_gridStep, gridStep_lt, gridStep_onGrid⟩

theorem syncPends_requestSync (s : State) (tick : Nat) : SyncPends (requestSync s tick) tick :=
  syncPends_of_mem (mem_pending_requestSync.2 (.inl rfl))

/-- The next step after a grid step at which a SYNC waits: that one waits all the same. -/
theorem syncPends_requestSync_succ (h : tick ∈ s.rx.sync.pending) : SyncPends (requestSync s (tick + 1)) tick := by
  refine syncPends_of_mem (mem_pending_requestSync.2 ?_)
  by_cases hstep : gridStep s tick = tick
  · exact .inr (by rw [gridStep_requestSync, hstep]; exact h)
  · exact .inl (gridStep_succ hstep).symm

theorem syncPends_syncWrite (s : State) : SyncPends (syncWrite s) s.now := by
  unfold syncWrite
  split
  next h => exact syncPends_requestSync_succ h
  next => exact syncPends_requestSync _ _

theorem rbit_syncWrite (s : State) : rbit (syncWrite s) .tlSync [] 1 = true := rbit_wbit s .tlSync [] 1 true (by decide)

/-! ## Writes of a register that is a command of its own (R21, R30) -/

section Tagged

variable {id : RegId} {ix : List Nat} {tag : Nat} {f : State → State}

theorem tagged_of_off (hoff : s.regOff id ix = true) : tagged s id ix tag f = emit s (.bus 1 []) := if_pos hoff

theorem tagged_of_may (hoff : s.regOff id ix = false) (htag : s.tagDeviceOrD2 tag = true) : tagged s id ix tag f = f s := by
  rw [tagged, if_neg (by rw [hoff]; exact Bool.false_ne_true), if_pos htag]

theorem tagged_of_may_not (hoff : s.regOff id ix = false) (htag : s.tagDeviceOrD2 tag = false) :
    tagged s id ix tag f = firewall s tag := by
  rw [tagged, if_neg (by rw [hoff]; exact Bool.false_ne_true), if_neg (by rw [htag]; exact Bool.false_ne_true)]

end Tagged

/-! ## Events whose islands are not all off (R48 to R50) -/

/-- The state in which an event acts that fires in `s`: a drop is counted for every island of its target that is off. -/
def firedDrops (s : State) (islands : List Nat) : State :=
  (islands.filter (fun i => (s.island i).off)).foldl (fun s _ => dropEvent s) s

/-- An event entry that fires acts at its tick, when some island that it goes to is up. -/
theorem fireEvent_of_some_up {n type : Nat} {e : EvtEntry} {islands : EvtEntry → List Nat} {act : EvtEntry → State → State} {i : Nat}
    (he : EventFires s n type e) (hi : i ∈ islands e) (hup : (s.island i).off = false) :
    fireEvent s n type islands act =
      act e (firedDrops (toBoundary s (type * 16) n (nextOffset s.pattern s.frameOfs e.offset)) (islands e)) := by
  obtain ⟨hrun, hdepth, hn, rfl, hvalid, htype, hofs, hheld⟩ := he
  have hruns : eventsRun s = true := by rw [eventsRun, hrun, hdepth]; rfl
  unfold fireEvent
  dsimp only
  rw [if_pos ⟨hruns, hn, hvalid, htype, hofs, by rw [hheld]; exact Bool.false_ne_true⟩]
  refine if_neg (fun ⟨hlen, _⟩ => ?_)
  have hoff := List.length_filter_eq_length_iff.1 hlen i hi
  exact Bool.false_ne_true (hup.symm.trans hoff)

/-! ## A SYNC takes effect (R172, R174, R175, R210) -/

/-- The receive and transmit channels at t_s: cleared, and filling. -/
def syncCleared (s : State) (ts : Nat) (rest : List Nat) : State :=
  let s1 := reachCount s ts
  let s2 := { s1 with rx := { s1.rx with sync := ⟨rest, List.range 8, s1.clk.elapsed, ts⟩ },
                      air := { s1.air with paths := s1.air.paths.map (fun a => (a.1, { a.2 with chans := [] })) } }
  (List.range 8).foldl (fun s cc => markSpan s (markKey 9 cc) s1.clk.elapsed
    (s1.clk.elapsed + (nextSymbol s1.frameOfs (s1.ccMu cc) (s1.ccEcp cc) (ts + 16384) - ts))) s2

/-- What TL_SYNC and TL_SYNC_LAST then tell, and a warm-up restarted. -/
def syncTold (s : State) (ts : Nat) (again : Bool) : State :=
  (List.range 8).foldl restartWarm (wbit (wr s .tlSyncLast [] ts) .tlSync [] 1 again)

theorem exec_syncTakeEffect_of_pending (h : s.rx.sync.pending = ts :: rest) :
    exec .syncTakeEffect s = .next (raise (syncTold (syncCleared s ts rest) ts (decide (rest ≠ []))) 43 NA NA) := by
  rw [exec_syncTakeEffect, execSyncTakeEffect, h]
  rfl

theorem syncCleared_sync_clk (s : State) (ts : Nat) (rest : List Nat) :
    (syncCleared s ts rest).rx.sync = ⟨rest, List.range 8, (reachCount s ts).clk.elapsed, ts⟩ ∧
      (syncCleared s ts rest).clk = (reachCount s ts).clk := by
  have hmarks {u : State} (f : State → Nat → State) (hf : ∀ v cc, Same (allow [.marks] []) u v → Same (allow [.marks] []) u (f v cc)) :
      ((List.range 8).foldl f u).rx = u.rx ∧ ((List.range 8).foldl f u).clk = u.clk := by
    have b := (same_foldl hf (Same.refl _ u) (l := List.range 8)).but
    exact ⟨b.rx (by decide), b.clk (by decide)⟩
  unfold syncCleared
  dsimp only
  obtain ⟨hrx, hclk⟩ := hmarks (u := _) _ (fun v cc h => markSpan_same _ _ _ (Nat.and_self _) h)
  rw [hrx, hclk]
  exact ⟨rfl, rfl⟩

theorem restartWarm_sync (s : State) (c : Nat) : (restartWarm s c).rx.sync = s.rx.sync := by
  unfold restartWarm
  split
  · rfl
  · rfl

theorem syncTold_sync (s : State) (ts : Nat) (again : Bool) : (syncTold s ts again).rx.sync = s.rx.sync := by
  unfold syncTold
  exact List.foldlRecOn (motive := fun (u : State) => u.rx.sync = s.rx.sync) _ restartWarm (congrArg Rx.sync (wbit_rx ..))
    (fun u h c _ => (restartWarm_sync u c).trans h)

theorem syncTold_same (s : State) (ts : Nat) (again : Bool) :
    Same (allow [.rx] []) (wbit (wr s .tlSyncLast [] ts) .tlSync [] 1 again) (syncTold s ts again) :=
  same_foldl (fun _ c h => restartWarm_same c (Nat.and_self _) h) (Same.refl _ _)

theorem rd_syncTold (s : State) (ts : Nat) (again : Bool) (id : RegId) :
    rd (syncTold s ts again) id [] = rd (wbit (wr s .tlSyncLast [] ts) .tlSync [] 1 again) id [] :=
  (syncTold_same s ts again).but.rd_eq (by decide) (by decide) (fun _ h => absurd h List.not_mem_nil)

theorem rd_syncTold_tlSyncLast (s : State) (again : Bool) (hts : ts < 2 ^ 64) : rd (syncTold s ts again) .tlSyncLast [] = ts := by
  rw [rd_syncTold, rd_wbit_other _ _ _ _ _ _ _ (regAddr_ne _ _ (by decide)), rd_wr_same]
  exact Nat.mod_eq_of_lt hts

theorem rbit_syncTold_tlSync (s : State) (ts : Nat) (again : Bool) : rbit (syncTold s ts again) .tlSync [] 1 = again := by
  rw [rbit, rd_syncTold]
  exact rbit_wbit _ _ _ _ _ (by decide)

/-- A register of which a firing counts nothing. -/
theorem rd_raise {id : RegId} {ix : List Nat} (h : (regRow .evtRpt).addr + regSpan .evtRpt < (regRow id).addr ∨
    (regRow id).addr + regSpan id < (regRow .evtRpt).addr) (a b c : Nat) : rd (raise s a b c) id ix = rd s id ix :=
  (raise_same a b c (Nat.and_self _) (Same.refl _ s)).but.rd_eq_apart (by decide) (by decide)
    (fun _ hid => by rw [List.mem_singleton.1 hid]; exact h)

/-! ## The obligation -/

/-- Settles O21: requests by the grid step that they insert, the SYNC's effect part by part, and the end of the fill by the ticks it passes. -/
theorem syncCommandsComplete : Obligations.SyncCommandsComplete := by
  unfold Obligations.SyncCommandsComplete
  refine ⟨fun s n e he hup => ?event, fun s tick hen hlo hhi => ?pin, fun s tag htag hon => ?now, fun s tag htag hon => ?refused,
    fun s tag hoff => ?off, fun s role tick hrole => ?object, fun s ts rest hpend hts => ?effect, fun s cc hcc => ?fill⟩
  case event =>
    exact ⟨_, by rw [exec_sync, execSync, fireEvent_of_some_up he (List.mem_range.2 (by decide : 0 < 8)) hup],
      syncPends_requestSync _ _⟩
  case pin =>
    have hnear : ¬ (tick + 1 < s.now ∨ s.now + 1 < tick) := by omega
    refine ⟨_, by rw [exec_syncPinEdge, execSyncPinEdge, if_pos hen, if_neg hnear], syncPends_requestSync s tick⟩
  case now =>
    exact ⟨_, by rw [exec_syncNow, execSyncNow, tagged_of_may hon htag], rbit_syncWrite s, syncPends_syncWrite s⟩
  case refused =>
    refine ⟨_, by rw [exec_syncNow, execSyncNow, tagged_of_may_not hon htag], ?_⟩
    exact ⟨by rw [firewall, raise_rx], fires_raise ..⟩
  case off =>
    refine ⟨_, by rw [exec_syncNow, execSyncNow, tagged_of_off hoff], ?_⟩
    exact ⟨rfl, rfl, rfl⟩
  case object =>
    refine ⟨requestSync s (max tick s.now), ?_, syncPends_requestSync s _⟩
    rcases hrole with rfl | rfl
    · rfl
    · rfl
  case effect =>
    obtain ⟨hsync, hclk⟩ := syncCleared_sync_clk s ts rest
    refine ⟨_, exec_syncTakeEffect_of_pending hpend, ?_, ?_, ?_, ?_, ?_, fires_raise ..⟩
    · rw [raise_rx, syncTold_sync, hsync]
    · rw [raise_rx, syncTold_sync, hsync]
    · rw [rd_raise (by decide), rd_syncTold_tlSyncLast _ _ hts]
    · rw [rbit, rd_raise (by decide)]
      exact rbit_syncTold_tlSync ..
    · rw [raise_clk, (syncTold_same _ _ _).but.clk (by decide), wbit_clk, wr_clk, hclk, reachCount_count]
  case fill =>
    refine ⟨_, by rw [exec_syncFillEnd, execSyncFillEnd, if_pos hcc], ?_, ?_⟩
    · exact fun h => of_decide_eq_true (List.mem_filter.1 h).2 rfl
    · refine Nat.le_trans ?_ (Nat.le_add_right _ _)
      rw [reachElapsed_elapsed]
      exact Nat.le_max_right ..

end Sys2Proof.Machine
end

section
/-!
Gain control and limiter of the receive paths (chapter 5): what a change of the attenuator or of the LNA leaves of a path's gain state, and
the estimates, releases and returns that make one.
-/

namespace Sys2Proof.Machine

variable {s t : State} {p : Nat}

/-! ## What leaves gain control -/

theorem rxg_of_rx (h : t.rx = s.rx) : t.rxg p = s.rxg p := by rw [State.rxg, h, State.rxg]

/-- Time does not go back on the way to a boundary. -/
theorem elapsed_le_toBoundary (s : State) (key inst : Nat) (f : Nat → Nat) : s.clk.elapsed ≤ (toBoundary s key inst f).clk.elapsed :=
  Nat.le_add_right ..

/-- R177, R181: a change of the input, the attenuator or the LNA notes itself and discards the fast path's window. -/
theorem gainChanged_rxg : ∃ changed was hist, (gainChanged s p).rxg p =
    { s.rxg p with changed := changed, was := was, high := false, hist := hist } := by
  rw [State.rxg, gainChanged]
  dsimp only
  rw [spGet_spMod_same]
  exact ⟨_, _, _, rfl⟩

/-- R177, R179: a change of the attenuator leaves of gain control what a change leaves, but for the attenuation. -/
theorem setAtt_rxg (att : Nat) : ∃ changed was hist, (setAtt s p att).rxg p =
    { s.rxg p with att := att, changed := changed, was := was, high := false, hist := hist } := by
  obtain ⟨changed, was, hist, hgain⟩ := gainChanged_rxg (s := s) (p := p)
  have hset : ((gainChanged s p).setRxg p { (gainChanged s p).rxg p with att := att }).rxg p =
      { s.rxg p with att := att, changed := changed, was := was, high := false, hist := hist } := by rw [rxg_setRxg, hgain]
  refine ⟨changed, was, hist, ?_⟩
  unfold setAtt
  dsimp only
  split
  · exact hset
  · exact hset

/-- R179: an attack raises the attenuation by ATK_STEP, up to 30 dB, and is reported. -/
theorem attack_att : ((attack s p).rxg p).att = min 30 ((s.rxg p).att + bitsOf (s.rxgCtrl p) 19 16) := by
  obtain ⟨changed, was, hist, hset⟩ := setAtt_rxg (s := s) (p := p) (min 30 ((s.rxg p).att + bitsOf (s.rxgCtrl p) 19 16))
  unfold attack
  dsimp only
  rw [rxg_of_rx (raise_rx ..), bumpField, rxg_of_rx (wf_rx ..), rxg_setRxg, hset]

theorem fires_attack (s : State) (p : Nat) : Fires (attack s p) 48 := fires_raise ..

/-- R184: the LNA of a path in RX goes back in circuit. -/
theorem lnaChange_return (hfdd : s.fdd = false) (hphase : (s.pathFe p).phase = .rx) (hturn : (s.pathFe p).turn = none)
    (hbyp : (s.pathFe p).lnaByp = true) : ((lnaChange s p false).pathFe p).lnaByp = false ∧
      ((lnaChange s p false).rxg p).quietSyms = (s.rxg p).quietSyms := by
  have hchanged (u : State) (hu : u.rx = s.rx) (x : PathFe) : (((gainChanged u p).setFe p x).rxg p).quietSyms = (s.rxg p).quietSyms := by
    obtain ⟨changed, was, hist, hgain⟩ := gainChanged_rxg (s := u) (p := p)
    rw [rxg_of_rx (setFe_rx ..), hgain, rxg_of_rx hu]
  have hfree : ¬ ((s.pathFe p).phase ≠ .rx ∨ (s.pathFe p).lnaByp = false) := by rw [hphase, hbyp]; decide
  unfold lnaChange
  dsimp only
  rw [if_neg (by rw [hfdd]; exact Bool.false_ne_true), if_neg (by rw [hturn]; exact Bool.false_ne_true), if_neg hfree,
    if_neg Bool.false_ne_true]
  cases (s.pathFe p).lnaAt with
  | none => exact ⟨congrArg PathFe.lnaByp (pathFe_setFe ..), hchanged s rfl _⟩
  | some at_ => exact ⟨congrArg PathFe.lnaByp (pathFe_setFe ..), hchanged (reachElapsed s (at_ + 40)) rfl _⟩

/-! ## The fast path (R176 to R179, R183) -/

section FastPath

variable {est ref : Int} {ovr ovrNew : Nat}

/-- The overrange count of a path and its gain control stand at different addresses. -/
theorem rxgCtrl_bump_adcOvr (s : State) (p n : Nat) : (bump s .adcOvr [p / 8, p % 8] n).rxgCtrl p = s.rxgCtrl p :=
  rd_wr_other _ _ _ _ _ _ (by
    show 0x1000400040 + 16777216 * (p / 8 % 8) + 4096 * (p % 8 % 8) ≠ 0x1000400038 + 16777216 * (p / 8 % 8) + 4096 * (p % 8 % 8)
    omega)

/-- An estimate counted and published, with what it says of the thresholds. -/
def estimated (s : State) (p : Nat) (est ref : Int) (ovr ovrNew : Nat) : State :=
  (bump s .adcOvr [p / 8, p % 8] ovrNew).setRxg p
    { s.rxg p with est := est, ovr := min 255 ovr, early := decide (s.clk.elapsed < (s.rxg p).changed + 48),
                   high := decide (2 * toSigned 8 (s.rxgCtrl p >>> 8) < est),
                   below := (s.rxg p).below && decide (est < 2 * toSigned 8 (s.rxgCtrl p >>> 20)),
                   quiet := (s.rxg p).quiet && decide (ref < 2 * toSigned 8 (s.rxgCtrl p >>> 36)) }

theorem estimated_rxgCtrl (s : State) (p : Nat) (est ref : Int) (ovr ovrNew : Nat) :
    (estimated s p est ref ovr ovrNew).rxgCtrl p = s.rxgCtrl p :=
  (rd_eq_of_regs (setRxg_regs ..) (setRxg_straps ..) _ _).trans (rxgCtrl_bump_adcOvr ..)

/-- R186: outside RX an estimate is published, and gain control and limiter hold their state. -/
theorem fastEstimate_of_not_receives (h : s.receives p = false) : fastEstimate s p est ref ovr ovrNew =
    (bump s .adcOvr [p / 8, p % 8] ovrNew).setRxg p { (estimated s p est ref ovr ovrNew).rxg p with
      high := (s.rxg p).high, below := (s.rxg p).below, quiet := (s.rxg p).quiet } :=
  if_pos (by rw [h]; exact Bool.false_ne_true)

/-- R179: with the limiter disabled, two overrange samples in a window make an attack. -/
theorem fastEstimate_of_overranges (hrx : s.receives p = true) (hmode : bitsOf (s.rxgCtrl p) 6 5 ≠ 0) (hlim : bitOf (s.rxgCtrl p) 7 = false)
    (hfree : (s.rxg p).noAttack ≤ s.clk.elapsed) (hovr : 2 ≤ ovr) :
    fastEstimate s p est ref ovr ovrNew = attack (estimated s p est ref ovr ovrNew) p := by
  unfold fastEstimate
  dsimp only
  rw [if_neg (by rw [hrx]; exact not_not_intro rfl), if_neg (by rintro ⟨-, -, h, -⟩; exact Bool.false_ne_true (hlim.symm.trans h)),
    if_pos ⟨hmode, hfree, .inr hovr⟩]
  rfl

variable {xi xq : List Int}

theorem length_lastN {α : Type} (n : Nat) (l : List α) (h : n ≤ l.length) : (lastN n l).length = n := by
  rw [lastN, List.length_drop, Nat.sub_sub_self h]

/-- FAST_PATH_ESTIMATE with 64 samples since the last change publishes their estimate (R176, R177). -/
theorem exec_fastPathEstimate_of_window (hp : p < 64) (hlen : 64 ≤ (iqSamples xi xq).length)
    (hfirst : (s.rxg p).changed = 0 ∨ (s.rxg p).changed + 13 ≤ s.clk.elapsed) :
    ∃ ref, exec (.fastPathEstimate p xi xq ovr ovrNew) s =
      .next (fastEstimate s p (coarsePower (lastN 64 (iqSamples xi xq))) ref ovr ovrNew) := by
  rw [exec_fastPathEstimate, execFastPathEstimate]
  exact ⟨_, if_pos ⟨hp, length_lastN _ _ hlen, hfirst⟩⟩

end FastPath

/-! ## Releases and returns (R180, R184) -/

/-- AGC_RELEASE when every estimate of the symbol was below REL_TH: 1 dB less. -/
theorem exec_agcRelease_of_below (hp : p < 64) (hrx : s.receives p = true) (hmode : bitsOf (s.rxgCtrl p) 6 5 = 2)
    (hbelow : (s.rxg p).below = true) (hfree : (s.rxg p).noRelease ≤ s.clk.elapsed) (hbase : bitsOf (s.rxgCtrl p) 4 0 < (s.rxg p).att) :
    exec (.agcRelease p) s =
      .next (setAtt ((toSymbol s 70 p).setRxg p { s.rxg p with below := true }) p ((s.rxg p).att - 1)) := by
  rw [exec_agcRelease, execAgcRelease, if_pos hp]
  exact if_pos ⟨hrx, hmode, hbelow, hfree.trans (elapsed_le_toBoundary ..), hbase⟩

/-- AGC_RELEASE otherwise: the next symbol's estimates are watched anew. -/
theorem exec_agcRelease_of_not_below (hp : p < 64) (h : ¬ (s.receives p = true ∧ (s.rxg p).below = true)) :
    exec (.agcRelease p) s = .next ((toSymbol s 70 p).setRxg p { s.rxg p with below := s.receives p || (s.rxg p).below }) := by
  rw [exec_agcRelease, execAgcRelease, if_pos hp]
  exact if_neg (fun ⟨hrx, _, hbelow, _⟩ => h ⟨hrx, hbelow⟩)

/-- The symbols in a row, with this one, in which every estimate was below LNA_RET. -/
def quietCount (s : State) (p : Nat) : Nat :=
  if ¬ s.receives p then (s.rxg p).quietSyms else if (s.rxg p).quiet then (s.rxg p).quietSyms + 1 else 0

/-- LIMITER_LNA_RETURN after LNA_HOLD such symbols, with the LNA bypassed. -/
theorem exec_limiterLnaReturn_of_held (hp : p < 64) (hrx : s.receives p = true) (hbyp : (s.pathFe p).lnaByp = true)
    (hheld : bitsOf (s.rxgCtrl p) 47 44 ≤ quietCount s p) : exec (.limiterLnaReturn p) s =
      .next (lnaChange ((toSymbol s 71 p).setRxg p { s.rxg p with quiet := true, quietSyms := 0 }) p false) := by
  rw [exec_limiterLnaReturn, execLimiterLnaReturn, if_pos hp]
  exact if_pos ⟨hrx, hbyp, hheld⟩

/-- LIMITER_LNA_RETURN before. -/
theorem exec_limiterLnaReturn_of_not_held (hp : p < 64)
    (h : ¬ (s.receives p = true ∧ bitsOf (s.rxgCtrl p) 47 44 ≤ quietCount s p)) : exec (.limiterLnaReturn p) s =
      .next ((toSymbol s 71 p).setRxg p { s.rxg p with quiet := s.receives p || (s.rxg p).quiet, quietSyms := quietCount s p }) := by
  rw [exec_limiterLnaReturn, execLimiterLnaReturn, if_pos hp]
  exact if_neg (fun ⟨hrx, _, hheld⟩ => h ⟨hrx, hheld⟩)

end Sys2Proof.Machine
end

section
/-!
FFT windows and PRACH occasions (chapter 5): the symbols and preambles that they deliver.
-/

namespace Sys2Proof.Machine

variable {s : State} {p : Nat}

theorem rxSat_rx_clk (p n : Nat) : (rxSat s p n).rx = s.rx ∧ (rxSat s p n).clk = s.clk := by
  have b := (rxSat_same p n (Nat.and_self _) (Same.refl _ s)).but
  exact ⟨b.rx (by decide), b.clk (by decide)⟩

theorem statPath_rx_clk (p item n : Nat) : (statPath s p item n).rx = s.rx ∧ (statPath s p item n).clk = s.clk := by
  have b := (statPath_same p item n (Nat.and_self _) (Same.refl _ s)).but
  exact ⟨b.rx (by decide), b.clk (by decide)⟩

theorem mem_lastN_append_singleton {α : Type} {n : Nat} (h : 0 < n) (l : List α) (x : α) : x ∈ lastN n (l ++ [x]) := by
  have hdrop : (l ++ [x]).length - n ≤ l.length := by rw [List.length_append, List.length_singleton]; omega
  rw [lastN, List.drop_append_of_le_length hdrop]
  exact List.mem_append_right _ List.mem_cons_self

/-- The receive chain with the symbol that an FFT window delivers (R177, R188, R190). -/
def fftRx (s : State) (p cc : Nat) (xi xq : List Int) (mirage : Bool) : Rx :=
  let u := fftEnd s p cc
  let w := s.windowShift p cc
  let res := rxRes u p cc (u.now - w + s.ccWinOfs cc * 2 ^ s.ccHalfbands cc - 32768 / 2 ^ s.ccMu cc) (fftSamples s p cc xi xq)
  { u.rx with re := spPut [] u.rx.re (p * 8 + cc)
                (lastN 16 (spGet [] u.rx.re (p * 8 + cc) ++ [⟨u.now - w, u.clk.elapsed, res.1, mirage⟩])),
              fine := spPut 0 u.rx.fine (p * 8 + cc) (finePower (fftSamples s p cc xi xq)),
              satAt := spPut 0 u.rx.satAt (p * 16 + cc) u.clk.elapsed }

/-- RX_FFT_WINDOW_END of a symbol that is received delivers it. -/
theorem exec_rxFftWindowEnd_of_received {cc : Nat} {xi xq : List Int} {sat : Nat} (hp : p < 64) (hul : s.ulOn cc = true)
    (hlane : s.laneWorks p = true) (hrx : (fftEnd s p cc).rxAt p ((fftEnd s p cc).now - s.windowShift p cc - 1) = true) :
    ∃ mirage, Completes (.rxFftWindowEnd p cc xi xq sat) s fun t =>
      t.rx = fftRx s p cc xi xq mirage ∧ t.clk = (fftEnd s p cc).clk := by
  have hdelivered (c : Prop) [Decidable c] (u : State) (m n k : Nat) :
      (rxSat (if c then statPath u p m n else u) p k).rx = u.rx ∧ (rxSat (if c then statPath u p m n else u) p k).clk = u.clk := by
    obtain ⟨hrx, hclk⟩ := rxSat_rx_clk (s := if c then statPath u p m n else u) p k
    rw [hrx, hclk]
    split
    · exact statPath_rx_clk p m n
    · exact ⟨rfl, rfl⟩
  unfold Completes
  rw [exec_rxFftWindowEnd, execRxFftWindowEnd, if_pos ⟨hp, hul, hlane⟩]
  exact ⟨_, _, if_pos hrx, hdelivered _ _ _ _ _⟩

/-- The receive chain with the preamble that an occasion delivers (R193, R194). -/
def prachRx (s : State) (p j occ : Nat) (x : List Cplx) (mirage : Bool) : Rx :=
  let u := prachEnd s p j occ
  { u.rx with prach := spPut ReSym.none_ u.rx.prach (p * 4 + j)
                ⟨(prachStart s p j occ).now, u.clk.elapsed, (prachReps u p j (prachChannel u p j x).1).1, mirage⟩,
              satAt := spPut 0 u.rx.satAt (p * 16 + 8 + j) u.clk.elapsed }

/-- PRACH_OCCASION on a path that receives delivers the preamble. -/
theorem exec_prachOccasion_of_received {j occ sat : Nat} {x : List Cplx} (hp : p < 64) (hj : j < 4) (hen : bitOf (s.prachWord p j) 0 = true)
    (hocc : occ ≤ bitsOf (s.prachWord p j) 15 12) (hul : s.ulOn (bitsOf (s.prachWord p j) 3 1) = true) (hrun : s.tlRuns = true)
    (hrx : s.receives p = true) :
    ∃ mirage, Completes (.prachOccasion p j occ x sat) s fun t =>
      t.rx = prachRx s p j occ x mirage ∧ t.clk = (prachEnd s p j occ).clk := by
  unfold Completes
  rw [exec_prachOccasion, execPrachOccasion]
  dsimp only
  rw [if_pos ⟨hp, hj, hen, hocc, hul, hrun⟩]
  exact ⟨_, _, if_pos hrx, rxSat_rx_clk _ _⟩

end Sys2Proof.Machine
end

section
/-!
The lanes of a cluster (chapter 5), and with them the settlement of O22: moves asked for, warmed up and switched, coefficient rolls, and writes
of coefficients.
-/

namespace Sys2Proof.Machine

variable {s t : State} {c sp : Nat}

theorem lanes_of_rx (h : t.rx = s.rx) : t.lanes c = s.lanes c := by rw [State.lanes, h, State.lanes]

/-- The rolls that are due, and whether one runs. -/
def State.rolls (s : State) : List Nat × List Nat × List Nat × Bool := (s.rx.rollPre, s.rx.rollPost, s.rx.rollOf, s.rx.rolling)

theorem rolls_of_rx (h : t.rx = s.rx) : t.rolls = s.rolls := by rw [State.rolls, h, State.rolls]

/-! ## Moves asked for (R197, R199) -/

section Request

variable {j : Nat} {fault : Bool} (hmay : fault = true ∨ s.ctl.fwRuns = true)
include hmay

theorem requestMove_of_busy (hbusy : (s.lanes c).move ≠ 0 ∨ s.rx.rolling = true) :
    requestMove s c j fault = s.setLanes c { s.lanes c with result := 4 } := by
  unfold requestMove
  dsimp only
  rw [if_neg (fun ⟨hf, hw⟩ => hmay.elim hf hw), if_pos hbusy]

variable (hidle : (s.lanes c).move = 0) (hroll : s.rx.rolling = false)
include hidle hroll

theorem requestMove_of_idle : requestMove s c j fault =
    if (s.lanes c).spare.isNone then raise (s.setLanes c { s.lanes c with pos := j, fault := fault, result := 3 }) 45 NA (8 * c + j)
    else s.setLanes c { s.lanes c with move := 1, pos := j, fault := fault, result := 0 } := by
  unfold requestMove
  dsimp only
  rw [if_neg (fun ⟨hf, hw⟩ => hmay.elim hf hw),
    if_neg (fun h => h.elim (fun h => h hidle) (fun h => Bool.false_ne_true (hroll.symm.trans h)))]

theorem requestMove_of_no_spare (hspare : (s.lanes c).spare = none) : requestMove s c j fault =
    raise (s.setLanes c { s.lanes c with pos := j, fault := fault, result := 3 }) 45 NA (8 * c + j) := by
  rw [requestMove_of_idle hmay hidle hroll, if_pos (Option.isNone_iff_eq_none.2 hspare)]

theorem requestMove_of_spare (hspare : (s.lanes c).spare ≠ none) : requestMove s c j fault =
    s.setLanes c { s.lanes c with move := 1, pos := j, fault := fault, result := 0 } := by
  rw [requestMove_of_idle hmay hidle hroll, if_neg (fun h => hspare (Option.isNone_iff_eq_none.1 h))]

end Request

/-- LANE_MOVE_REQUEST with GO, by a tag that may ask for it. -/
theorem exec_laneMoveRequest_of_go {tag value : Nat} (hc : c < 8) (htag : s.tagDeviceOrD2 tag = true) (hgo : bitOf value 4 = true)
    (hon : s.regOff .laneMoveReq [c] = false) :
    exec (.laneMoveRequest tag c value) s = .next (requestMove s c (value % 8) (bitOf value 3)) := by
  rw [exec_laneMoveRequest, execLaneMoveRequest, if_pos hc, tagged_of_may hon htag, if_pos hgo]

/-! ## Lanes retire (R195, R198, R600) -/

theorem spareUsed_rx (kind i : Nat) : (spareUsed s kind i).rx = s.rx :=
  (spareUsed_same kind i (Nat.and_self _) (Same.refl _ s)).but.rx (by decide)

/-- The forecast of a pool leaves the positions whose lanes are faulty. -/
theorem checkForecast_faulty (pool : Nat) : (checkForecast s pool).svc.faulty = s.svc.faulty := by
  have hcease (l : List (Nat × Nat × Nat)) (u : State) :
      (l.foldl (fun s c => condOff s c.1 c.2.1 c.2.2) u).svc = u.svc :=
    (same_foldl (fun _ x h => condOff_same x.1 x.2.1 x.2.2 (Nat.and_self _) h) (Same.refl _ u)).but.svc (by decide)
  unfold checkForecast
  dsimp only
  split_ifs
  · rw [(condOn_same _ _ _ (Nat.and_self _) (Same.refl _ _)).but.svc (by decide)]
  · rw [hcease]
  · rfl

theorem spareUsed_faulty (kind i : Nat) : (spareUsed s kind i).svc.faulty = s.svc.faulty := by
  unfold spareUsed
  dsimp only
  rw [checkForecast_faulty]
  split
  · rw [raise_svc, raise_svc]
  · rw [raise_svc]

/-- Lane `k` goes down for good. -/
def laneDown (s : State) (c k : Nat) : State :=
  let l := s.lanes c
  let s1 := s.setLanes c { l with spare := if l.spare = some k then none else l.spare, retired := setIns k l.retired }
  subDown { s1 with nv := { s1.nv with laneRetired := spPut [] s1.nv.laneRetired c (setIns k l.retired) } } (subLane c k)

theorem laneDown_evt (c k : Nat) : (laneDown s c k).evt = s.evt := rfl

theorem laneDown_svc (c k : Nat) : (laneDown s c k).svc = s.svc := rfl

theorem laneDown_rolls (c k : Nat) : (laneDown s c k).rolls = s.rolls := rfl

theorem laneDown_lanes (c k : Nat) : (laneDown s c k).lanes c = { s.lanes c with
    spare := if (s.lanes c).spare = some k then none else (s.lanes c).spare, retired := setIns k (s.lanes c).retired } :=
  lanes_setLanes s c _

theorem retireLane_eq (c k : Nat) : retireLane s c k = spareUsed (laneDown s c k) 2 c := rfl

theorem retireLane_lanes (k : Nat) : (retireLane s c k).lanes c = { s.lanes c with
    spare := if (s.lanes c).spare = some k then none else (s.lanes c).spare, retired := setIns k (s.lanes c).retired } := by
  rw [retireLane_eq, lanes_of_rx (spareUsed_rx ..), laneDown_lanes]

theorem retireLane_faulty (k : Nat) : (retireLane s c k).svc.faulty = s.svc.faulty := by
  rw [retireLane_eq, spareUsed_faulty, laneDown_svc]

theorem retireLane_rolls (c k : Nat) : (retireLane s c k).rolls = s.rolls := by
  rw [retireLane_eq, rolls_of_rx (spareUsed_rx ..), laneDown_rolls]

theorem Fires.retireLane {n : Nat} (h : Fires s n) (c k : Nat) : Fires (retireLane s c k) n := by
  rw [retireLane_eq]
  exact Fires.spareUsed (Fires.of_evt h (laneDown_evt c k)) 2 c

theorem Fires.requestMove {n : Nat} (h : Fires s n) (c j : Nat) (fault : Bool) : Fires (requestMove s c j fault) n := by
  have hset (x : Lanes) : Fires (s.setLanes c x) n := h.of_evt (setLanes_evt ..)
  unfold Machine.requestMove
  exact Fires.ite h (Fires.ite (hset _) (Fires.ite ((hset _).raise ..) (hset _)))

theorem Fires.nextFault {n : Nat} (h : Fires s n) (c : Nat) : Fires (nextFault s c) n := by
  unfold Machine.nextFault
  split
  · exact h
  next pos rest _ =>
    have hset : Fires (s.setLanes c { s.lanes c with waiting := rest }) n := h.of_evt (setLanes_evt ..)
    exact Fires.ite hset (Fires.ite ((hset.retireLane ..).failPath ..) (hset.requestMove ..))

/-- With no lane failed meanwhile no fault move follows. -/
theorem nextFault_of_none_waiting (h : (s.lanes c).waiting = []) : nextFault s c = s := by rw [nextFault, h]

/-! ## Switches (R197 steps 3 and 4, R198, R199, R601) -/

/-- The state in which a switch happens: a common boundary after warm-up. -/
def switchAt (s : State) (c : Nat) : State :=
  let s0 := reachElapsed s ((s.lanes c).warmAt + 49152)
  toBoundary s0 76 c (switchBoundary s0 c)

theorem exec_laneSwitch_of_warming (hc : c < 8) (hmove : (s.lanes c).move = 2) (differ : Bool) :
    exec (.laneSwitch c differ) s = .next (laneSwitch (switchAt s c) c differ) := by
  rw [exec_laneSwitch, execLaneSwitch, if_pos ⟨hc, hmove⟩]
  rfl

theorem laneSwitch_elapsed (differ : Bool) : (s.lanes c).warmAt + 49152 ≤ (laneSwitch (switchAt s c) c differ).clk.elapsed := by
  rw [(laneSwitch_same c differ (Nat.and_self _) (Same.refl _ _)).but.clk (by decide)]
  calc (s.lanes c).warmAt + 49152
      ≤ (reachElapsed s ((s.lanes c).warmAt + 49152)).clk.elapsed := by rw [reachElapsed_elapsed]; exact Nat.le_max_right ..
    _ ≤ (switchAt s c).clk.elapsed := elapsed_le_toBoundary ..

/-- The lanes of a cluster once the spare serves the position, and the old lane is SPARE. -/
def switchedLanes (l : Lanes) (sp : Nat) : Lanes :=
  { l with map := l.map.set l.pos sp, spare := some (l.map.getD l.pos 0), move := 0, result := 1 }

/-- The position's fault is over: its path sounds again. -/
def faultOver (s : State) (c pos : Nat) : State :=
  markOff { s with svc := { s.svc with faulty := s.svc.faulty.filter (· ≠ (c, pos)) } } (markKey 8 (8 * c + pos))

theorem faultOver_lanes (pos d : Nat) : (faultOver s c pos).lanes d = s.lanes d :=
  lanes_of_rx ((markOff_same _ (Nat.and_self _) (Same.refl _ _)).but.rx (by decide))

theorem not_mem_faultOver (pos : Nat) : (c, pos) ∉ (faultOver s c pos).svc.faulty := by
  rw [faultOver, (markOff_same _ (Nat.and_self _) (Same.refl _ _)).but.svc (by decide)]
  exact fun h => of_decide_eq_true (List.mem_filter.1 h).2 rfl

/-- R601: the spare serves a faulty position, and the old lane is RETIRED. -/
def faultSwitched (s : State) (c sp : Nat) : State :=
  raise (retireLane (faultOver (s.setLanes c (switchedLanes (s.lanes c) sp)) c (s.lanes c).pos) c
    ((s.lanes c).map.getD (s.lanes c).pos 0)) 44 NA (8 * c + (s.lanes c).pos)

theorem faultSwitched_lanes : (faultSwitched s c sp).lanes c = { switchedLanes (s.lanes c) sp with
    spare := none, retired := setIns ((s.lanes c).map.getD (s.lanes c).pos 0) (s.lanes c).retired } := by
  rw [faultSwitched, lanes_of_rx (raise_rx ..), retireLane_lanes, faultOver_lanes, lanes_setLanes, switchedLanes, if_pos rfl]

theorem not_mem_faultSwitched : (c, (s.lanes c).pos) ∉ (faultSwitched s c sp).svc.faulty := by
  rw [faultSwitched, raise_svc, retireLane_faulty]
  exact not_mem_faultOver _

theorem fires_faultSwitched : Fires (faultSwitched s c sp) 44 := by
  rw [faultSwitched]
  exact fires_raise ..

section Switch

variable (hspare : (s.lanes c).spare = some sp) (hwait : (s.lanes c).waiting = [])
include hspare hwait

/-- R197: the old lane of a sound position is SPARE. -/
theorem laneSwitch_of_sound (hsound : (c, (s.lanes c).pos) ∉ s.svc.faulty) : laneSwitch s c false =
    raise (s.setLanes c (switchedLanes (s.lanes c) sp)) 44 NA (8 * c + (s.lanes c).pos) := by
  unfold laneSwitch
  dsimp only
  rw [hspare]
  dsimp only
  rw [if_neg (fun h => Bool.false_ne_true h.2.1), if_neg hsound]
  exact nextFault_of_none_waiting (by rw [lanes_of_rx (raise_rx ..), lanes_setLanes]; exact hwait)

/-- R198: a planned move between lanes of equal coefficients whose outputs differ retires the spare. -/
theorem laneSwitch_of_mismatch (hplanned : (s.lanes c).fault = false)
    (hagree : lanesAgree s c ((s.lanes c).map.getD (s.lanes c).pos 0) sp = true) : laneSwitch s c true =
    raise (retireLane (s.setLanes c { s.lanes c with move := 0, result := 2 }) c sp) 45 NA (8 * c + (s.lanes c).pos) := by
  unfold laneSwitch
  dsimp only
  rw [hspare]
  dsimp only
  rw [if_pos ⟨by rw [hplanned]; exact Bool.false_ne_true, rfl, hagree⟩]
  exact nextFault_of_none_waiting (by rw [lanes_of_rx (raise_rx ..), retireLane_lanes, lanes_setLanes]; exact hwait)

theorem laneSwitch_of_faulty (hfaulty : (c, (s.lanes c).pos) ∈ s.svc.faulty) : laneSwitch s c false = faultSwitched s c sp := by
  unfold laneSwitch
  dsimp only
  rw [hspare]
  dsimp only
  rw [if_neg (fun h => Bool.false_ne_true h.2.1), if_pos hfaulty]
  exact nextFault_of_none_waiting (s := faultSwitched s c sp) (by rw [faultSwitched_lanes]; exact hwait)

end Switch

/-! ## Rolls (R200 to R203, R491) -/

theorem foldl_rolls {α : Type} {f : State → α → State} (hf : ∀ u a, (f u a).rolls = u.rolls) (l : List α) :
    (l.foldl f s).rolls = s.rolls :=
  List.foldlRecOn (motive := fun (u : State) => u.rolls = s.rolls) l f rfl (fun u h a _ => (hf u a).trans h)

theorem raise_setLanes_rolls (x : Lanes) (a b k : Nat) : (raise (s.setLanes c x) a b k).rolls = s.rolls := rolls_of_rx (s := s.setLanes c x) (raise_rx ..)

theorem rollChannel_rolls (lane ch : Nat) : (rollChannel s lane ch).rolls = s.rolls := by
  unfold rollChannel
  split
  · rfl
  · rfl

theorem loadSpare_rolls (chans : List Nat) (c : Nat) : (loadSpare s chans c).rolls = s.rolls := by
  unfold loadSpare
  split
  · exact foldl_rolls (fun u ch => rollChannel_rolls _ ch) chans
  · rfl

theorem laneRollSwitch_rolls (j c : Nat) : (laneRollSwitch s j c).rolls = s.rolls := by
  unfold laneRollSwitch
  dsimp only
  split
  · exact raise_setLanes_rolls ..
  · rfl

theorem laneRollMove_rolls (cs chans : List Nat) (j : Nat) : (laneRollMove cs chans s j).rolls = s.rolls :=
  (foldl_rolls (fun _ c => laneRollSwitch_rolls j c) cs).trans (foldl_rolls (fun _ c => loadSpare_rolls chans c) cs)

theorem rollMoveNone_rolls (c : Nat) : (rollClusters.rollMoveNone s c).rolls = s.rolls := by
  unfold rollClusters.rollMoveNone
  dsimp only
  split
  · exact raise_setLanes_rolls ..
  · rfl

/-- A roll of some clusters leaves what rolls are due. -/
theorem rollClusters_rolls (cs chans : List Nat) : (rollClusters cs chans s).rolls = s.rolls :=
  (foldl_rolls (fun _ c => loadSpare_rolls chans c) cs).trans
    ((foldl_rolls (fun _ j => laneRollMove_rolls cs chans j) (List.range 8)).trans (foldl_rolls (fun _ c => rollMoveNone_rolls c) cs))

theorem requestMove_rolls (c j : Nat) (fault : Bool) : (requestMove s c j fault).rolls = s.rolls := by
  unfold requestMove
  dsimp only
  split
  · rfl
  · split
    · rfl
    · split
      · exact raise_setLanes_rolls ..
      · rfl

/-- A fault move that follows leaves what rolls are due. -/
theorem nextFault_rolls (c : Nat) : (nextFault s c).rolls = s.rolls := by
  unfold nextFault
  split
  · rfl
  · dsimp only
    split
    · rfl
    · split
      · exact (rolls_of_rx ((failPath_same _ (Nat.and_self _) (Same.refl _ _)).but.rx (by decide))).trans (retireLane_rolls ..)
      · exact requestMove_rolls ..

/-- The channels of a commit that are rolled: those before its boundary first (R201). -/
def rollChannels (s : State) : List Nat := if decide (s.rx.rollPre ≠ []) then s.rx.rollPre else s.rx.rollPost

/-- The roll that happens: the channels of a commit in every cluster, or every channel in the clusters whose replica differed (R491). -/
def rolled (s : State) : State :=
  if decide (rollChannels s = []) then rollClusters s.rx.rollOf (List.range 16) s else rollClusters (List.range 8) (rollChannels s) s

theorem rolled_rolls : (rolled s).rolls = s.rolls := by
  unfold rolled
  split
  · exact rollClusters_rolls ..
  · exact rollClusters_rolls ..

/-- What stays due after it: the channels after the boundary, while those before it were rolled, and the clusters' own roll, unless it was
that. -/
def rollsLeft (s : State) : List Nat × List Nat :=
  (if decide (s.rx.rollPre ≠ []) then (rolled s).rx.rollPost else [],
    if decide (rollChannels s = []) then [] else (rolled s).rx.rollOf)

/-- The roll ends and is reported. -/
def rollReported (s : State) : State :=
  raise { rolled s with rx := { (rolled s).rx with
    rollPre := [], rollPost := (rollsLeft s).1, rollOf := (rollsLeft s).2,
    rolling := decide ((rollsLeft s).1 ≠ [] ∨ (rollsLeft s).2 ≠ []) } } 46 NA NA

theorem coefficientRoll_eq (s : State) : coefficientRoll s = (List.range 8).foldl nextFault (rollReported s) := rfl

theorem coefficientRoll_rolls : (coefficientRoll s).rolls = (rollReported s).rolls := by
  rw [coefficientRoll_eq, foldl_rolls (fun _ c => nextFault_rolls c)]

/-- A roll leaves due what it leaves, and one runs while any is. -/
theorem coefficientRoll_rx {post own : List Nat} (h : rollsLeft s = (post, own)) :
    (coefficientRoll s).rx.rollPre = [] ∧ (coefficientRoll s).rx.rollPost = post ∧ (coefficientRoll s).rx.rollOf = own ∧
      (coefficientRoll s).rx.rolling = decide (post ≠ [] ∨ own ≠ []) := by
  have hrolls : (coefficientRoll s).rolls = ([], post, own, decide (post ≠ [] ∨ own ≠ [])) := by
    rw [coefficientRoll_rolls, rollReported, rolls_of_rx (raise_rx ..), State.rolls, h]
  simpa only [State.rolls, Prod.mk.injEq] using hrolls

theorem rollsLeft_eq : rollsLeft s =
    (if s.rx.rollPre ≠ [] then s.rx.rollPost else [], if s.rx.rollPre = [] ∧ s.rx.rollPost = [] then [] else s.rx.rollOf) := by
  have hpost : (rolled s).rx.rollPost = s.rx.rollPost := congrArg (fun r => r.2.1) rolled_rolls
  have hof : (rolled s).rx.rollOf = s.rx.rollOf := congrArg (fun r => r.2.2.1) rolled_rolls
  rw [rollsLeft, hpost, hof, rollChannels]
  by_cases hpre : s.rx.rollPre = []
  · simp [hpre]
  · simp [hpre]

theorem fires_coefficientRoll (s : State) : Fires (coefficientRoll s) 46 := by
  rw [coefficientRoll_eq]
  exact Fires.foldl (fun _ c h => h.nextFault c) (fires_raise ..)

/-- COEFFICIENT_ROLL with a roll due and no cluster moving a lane. -/
theorem exec_coefficientRoll_of_due (hdue : s.rx.rollPre ≠ [] ∨ s.rx.rollPost ≠ [] ∨ s.rx.rollOf ≠ [])
    (hidle : ∀ c < 8, (s.lanes c).move = 0) : exec .coefficientRoll s = .next (coefficientRoll s) := by
  rw [exec_coefficientRoll, execCoefficientRoll]
  exact if_pos ⟨hdue, List.all_eq_true.2 (fun c hc => decide_eq_true (hidle c (List.mem_range.1 hc)))⟩

/-! ## Coefficients (R196, R204) -/

/-- A flag that hardware sets reads as set. -/
theorem rbit_setFlag (s : State) (id : RegId) (ix : List Nat) {b : Nat} (hb : b < (regRow id).width) :
    rbit (setFlag s id ix b) id ix b = true := by
  rw [rbit, setFlag, rd_eq_of_regs (noteBit_regs ..) (noteBit_straps ..)]
  exact rbit_wbit s id ix b true hb

section Coefficients

variable {tag k n i value : Nat} (htag : s.tagDeviceOrD2 tag = true)

/-- 176 coefficients of which one is written. -/
def coefPut (l : List Nat) (i value : Nat) : List Nat := (List.range 176).map (fun x => if x = i then value % 2 ^ 18 else l.getD x 0)

theorem getD_coefPut {l : List Nat} (hi : i < 176) : (coefPut l i value).getD i 0 = value % 2 ^ 18 := by
  rw [coefPut, List.getD_eq_getElem?_getD, List.getElem?_map, List.getElem?_range hi]
  exact if_pos rfl

/-- Coefficients that are all zero read as those of the reset contents. -/
theorem getD_ite_all_zero (l : List Nat) (i : Nat) : (if l.all (· = 0) then [] else l).getD i 0 = l.getD i 0 := by
  split
  next h =>
    rw [List.getD_nil, List.getD_eq_getElem?_getD]
    cases hx : l[i]? with
    | none => rfl
    | some x => exact (of_decide_eq_true (List.all_eq_true.1 h x (List.mem_of_getElem? hx))).symm
  next => rfl

include htag

theorem coefWrite_of_spare (hspare : (s.lanes c).spare = some k) (hmove : (s.lanes c).move ≠ 2) (hi : i < 176) :
    (spGet [] (coefWrite s tag c k n i value false).rx.coef ((c * 9 + k) * 8 + n)).getD i 0 = value % 2 ^ 18 ∧
      (coefWrite s tag c k n i value false).rx.txcoef = s.rx.txcoef := by
  rw [coefWrite, if_neg (not_not_intro htag), if_pos ⟨hspare, hmove⟩, if_neg Bool.false_ne_true]
  dsimp only
  rw [spGet_spPut_same]
  exact ⟨(getD_ite_all_zero (coefPut (spGet [] s.rx.coef ((c * 9 + k) * 8 + n)) i value) i).trans (getD_coefPut hi), rfl⟩

theorem coefWrite_of_not_spare (hspare : (s.lanes c).spare ≠ some k) :
    coefWrite s tag c k n i value false = raise (setFlag s .rxStat [c, k] 6) 47 NA NA := by
  rw [coefWrite, if_neg (not_not_intro htag), if_neg (fun h => hspare h.1)]
  exact if_neg Bool.false_ne_true

end Coefficients

/-- COEFFICIENT_WRITE of a receive channel while its cluster is on. -/
theorem exec_coefficientWrite_of_on {tag k n i value addr : Nat} (haddr : regDecode addr = some (.coef, [c, k, n, i]))
    (hon : (s.island c).off = false) : exec (.coefficientWrite tag addr value) s = .next (coefWrite s tag c k n i value false) := by
  rw [exec_coefficientWrite, execCoefficientWrite, haddr]
  exact congrArg _ (if_neg (by rw [hon]; exact Bool.false_ne_true))

/-! ## The obligation -/

/-- Settles O22: gain control by what a change of gain leaves, windows and preambles by the receive chain that holds them, lane moves by the
lanes of their cluster, and rolls by the rolls that stay due. -/
theorem receiveCommandsComplete : Obligations.ReceiveCommandsComplete := by
  unfold Obligations.ReceiveCommandsComplete
  refine ⟨fun s p xi xq ovr ovrNew hp hrx hlen hfirst => ?published,
    fun s p xi xq ovr ovrNew hp hrx hmode hlim hfree hovr hlen hfirst => ?attacks,
    fun s p hp hrx hmode hbelow hfree hbase => ?releases, fun s p hp hrx hbelow => ?holds, fun s p hp hrx => ?silent,
    fun s p hp hrx => ?limiterSilent, fun s p hp hrx hfdd hphase hturn hbyp hquiet hheld => ?returns,
    fun s p hp hrx hquiet hhold => ?loud, fun s p cc xi xq sat hp hul hlane hrx => ?window,
    fun s p j occ x sat hp hj hen hocc hul hrun hrx => ?preamble,
    fun s tag c value hc htag hgo hidle hspare hon hroll hmay => ?asks, fun s tag c value hc htag hgo hidle hspare hon hroll hmay => ?noSpare,
    fun s tag c value hc htag hgo hbusy hon hmay => ?busy, fun s c hc hmove => ?warms,
    fun s c sp hc hmove hspare hplanned hwait hsound => ?switches, fun s c sp hc hmove hspare hplanned hwait hagree => ?mismatch,
    fun s c sp hc hmove hspare hwait hfaulty => ?replaces, fun s hpre hidle => ?rollsPre, fun s hpre hpost hidle => ?rollsPost,
    fun s hpre hpost hown hidle => ?rollsOwn, fun s tag c k n i value addr htag haddr hi hspare hmove hon => ?writes,
    fun s tag c k n i value addr htag haddr hspare hon => ?rejects⟩
  case published =>
    obtain ⟨ref, hx⟩ := exec_fastPathEstimate_of_window (ovr := ovr) (ovrNew := ovrNew) hp hlen hfirst
    refine ⟨_, hx, ?_⟩
    dsimp only
    rw [fastEstimate_of_not_receives hrx, rxg_setRxg, estimated, rxg_setRxg]
    exact ⟨rfl, rfl, rfl, (rd_eq_of_regs (setRxg_regs ..) (setRxg_straps ..) _ _).trans (rd_bump _ _ _ _ (by decide))⟩
  case attacks =>
    obtain ⟨ref, hx⟩ := exec_fastPathEstimate_of_window (ovr := ovr) (ovrNew := ovrNew) hp hlen hfirst
    refine ⟨_, hx, ?_⟩
    dsimp only
    rw [fastEstimate_of_overranges hrx hmode hlim hfree hovr, attack_att, estimated_rxgCtrl, estimated, rxg_setRxg]
    exact ⟨rfl, fires_attack ..⟩
  case releases =>
    obtain ⟨changed, was, hist, hset⟩ := setAtt_rxg (s := (toSymbol s 70 p).setRxg p { s.rxg p with below := true }) (p := p)
      ((s.rxg p).att - 1)
    refine ⟨_, exec_agcRelease_of_below hp hrx hmode hbelow hfree hbase, ?_⟩
    dsimp only
    rw [hset, rxg_setRxg]
    exact ⟨rfl, rfl⟩
  case holds =>
    refine ⟨_, exec_agcRelease_of_not_below hp (fun h => Bool.false_ne_true (hbelow.symm.trans h.2)), ?_⟩
    dsimp only
    rw [rxg_setRxg, hrx]
    exact ⟨rfl, rfl⟩
  case silent =>
    refine ⟨_, exec_agcRelease_of_not_below hp (fun h => Bool.false_ne_true (hrx.symm.trans h.1)), ?_⟩
    dsimp only
    rw [rxg_setRxg, hrx]
    rfl
  case limiterSilent =>
    have hcount : quietCount s p = (s.rxg p).quietSyms := if_pos (by rw [hrx]; exact Bool.false_ne_true)
    refine ⟨_, exec_limiterLnaReturn_of_not_held hp (fun h => Bool.false_ne_true (hrx.symm.trans h.1)), ?_, rfl⟩
    rw [rxg_setRxg, hrx, hcount]
    rfl
  case returns =>
    have hcount : quietCount s p = (s.rxg p).quietSyms + 1 := by
      rw [quietCount, if_neg (not_not_intro hrx), if_pos hquiet]
    obtain ⟨hlna, hsyms⟩ := lnaChange_return (s := (toSymbol s 71 p).setRxg p { s.rxg p with quiet := true, quietSyms := 0 }) (p := p)
      hfdd hphase hturn hbyp
    refine ⟨_, exec_limiterLnaReturn_of_held hp hrx hbyp (hcount ▸ hheld), hlna, ?_⟩
    rw [hsyms, rxg_setRxg]
  case loud =>
    have hcount : quietCount s p = 0 := by
      rw [quietCount, if_neg (not_not_intro hrx), if_neg (by rw [hquiet]; exact Bool.false_ne_true)]
    refine ⟨_, exec_limiterLnaReturn_of_not_held hp (fun h => by omega), ?_⟩
    dsimp only
    rw [rxg_setRxg, hrx, hcount]
    exact ⟨rfl, rfl⟩
  case window =>
    obtain ⟨mirage, t, hx, htrx, hclk⟩ := exec_rxFftWindowEnd_of_received (xi := xi) (xq := xq) (sat := sat) hp hul hlane hrx
    refine ⟨t, hx, ?_⟩
    dsimp only
    rw [State.now, hclk, htrx, fftRx, spGet_spPut_same, spGet_spPut_same]
    exact ⟨⟨_, mem_lastN_append_singleton (by decide) _ _, rfl, rfl, rfl⟩, rfl, rfl⟩
  case preamble =>
    obtain ⟨mirage, t, hx, htrx, hclk⟩ := exec_prachOccasion_of_received (x := x) (sat := sat) hp hj hen hocc hul hrun hrx
    refine ⟨t, hx, ?_⟩
    dsimp only
    rw [htrx, prachRx, spGet_spPut_same]
    exact ⟨rfl, rfl, hclk⟩
  case asks =>
    refine ⟨_, exec_laneMoveRequest_of_go hc htag hgo hon, ?_⟩
    dsimp only
    rw [requestMove_of_spare hmay hidle hroll hspare, lanes_setLanes]
  case noSpare =>
    refine ⟨_, exec_laneMoveRequest_of_go hc htag hgo hon, ?_⟩
    dsimp only
    rw [requestMove_of_no_spare hmay hidle hroll hspare, lanes_of_rx (raise_rx ..), lanes_setLanes]
    exact ⟨hidle, rfl, fires_raise ..⟩
  case busy =>
    refine ⟨_, exec_laneMoveRequest_of_go hc htag hgo hon, ?_⟩
    dsimp only
    rw [requestMove_of_busy hmay hbusy, lanes_setLanes]
  case warms =>
    exact ⟨_, by rw [exec_laneWarmStart, execLaneWarmStart, if_pos ⟨hc, hmove⟩], lanes_setLanes ..⟩
  case switches =>
    have helapsed := laneSwitch_elapsed (s := s) (c := c) false
    refine ⟨_, exec_laneSwitch_of_warming hc hmove false, ?_⟩
    rw [laneSwitch_of_sound (s := switchAt s c) hspare hwait hsound] at helapsed ⊢
    dsimp only
    rw [lanes_of_rx (raise_rx ..), lanes_setLanes]
    exact ⟨rfl, rfl, rfl, rfl, helapsed, fires_raise ..⟩
  case mismatch =>
    refine ⟨_, exec_laneSwitch_of_warming hc hmove true, ?_⟩
    rw [laneSwitch_of_mismatch (s := switchAt s c) hspare hwait hplanned hagree]
    dsimp only
    rw [lanes_of_rx (raise_rx ..), retireLane_lanes, lanes_setLanes]
    exact ⟨rfl, if_pos hspare, mem_setIns.2 (.inl rfl), rfl, rfl, fires_raise ..⟩
  case replaces =>
    refine ⟨_, exec_laneSwitch_of_warming hc hmove false, ?_⟩
    rw [laneSwitch_of_faulty (s := switchAt s c) hspare hwait hfaulty]
    dsimp only
    rw [faultSwitched_lanes]
    exact ⟨rfl, rfl, mem_setIns.2 (.inl rfl), not_mem_faultSwitched, fires_faultSwitched⟩
  case rollsPre =>
    have hleft : rollsLeft s = (s.rx.rollPost, s.rx.rollOf) := by rw [rollsLeft_eq, if_pos hpre, if_neg (fun h => hpre h.1)]
    obtain ⟨hnone, hpost, -, hrolling⟩ := coefficientRoll_rx hleft
    exact ⟨_, exec_coefficientRoll_of_due (.inl hpre) hidle, hnone, hpost, hrolling, fires_coefficientRoll s⟩
  case rollsPost =>
    have hleft : rollsLeft s = ([], s.rx.rollOf) := by
      rw [rollsLeft_eq, if_neg (not_not_intro hpre), if_neg (fun h => hpost h.2)]
    obtain ⟨hnone, hdone, -, hrolling⟩ := coefficientRoll_rx hleft
    refine ⟨_, exec_coefficientRoll_of_due (.inr (.inl hpost)) hidle, hnone, hdone, ?_, fires_coefficientRoll s⟩
    rw [hrolling]
    exact decide_eq_decide.2 (or_iff_right (not_not_intro rfl))
  case rollsOwn =>
    have hleft : rollsLeft s = ([], []) := by rw [rollsLeft_eq, if_neg (not_not_intro hpre), if_pos ⟨hpre, hpost⟩]
    obtain ⟨-, -, hdone, hrolling⟩ := coefficientRoll_rx hleft
    exact ⟨_, exec_coefficientRoll_of_due (.inr (.inr hown)) hidle, hdone, hrolling, fires_coefficientRoll s⟩
  case writes =>
    exact ⟨_, exec_coefficientWrite_of_on haddr hon, coefWrite_of_spare htag hspare hmove hi⟩
  case rejects =>
    refine ⟨_, exec_coefficientWrite_of_on haddr hon, ?_⟩
    dsimp only
    rw [coefWrite_of_not_spare htag hspare, raise_rx, setFlag_rx, rbit, rd_raise (by decide)]
    exact ⟨rfl, rbit_setFlag s .rxStat [c, k] (by decide), fires_raise ..⟩

end Sys2Proof.Machine
end

section
/-!
The transmit streams (chapter 6): what a path's stream reports, and what a slot's end then leaves in the counters, the events, the DAC input
and the composite power, where the counters fit their registers.
-/

namespace Sys2Proof.Machine

variable {s t : State} {p cc : Nat}

/-! ## Registers that stand apart on every page -/

/-- Dimensions whose strides are whole pages leave the place within a page. -/
theorem regAddrFrom_mod_page {k : Nat} (ds : List (Nat × Nat)) (hds : ∀ d ∈ ds, k ∣ d.1) (a : Nat) (ix : List Nat) :
    regAddrFrom a ds ix % k = a % k := by
  induction ds generalizing a ix with
  | nil => cases ix <;> rfl
  | cons d ds ih =>
    cases ix with
    | nil => rfl
    | cons i ix =>
      obtain ⟨c, hc⟩ := hds d List.mem_cons_self
      rw [regAddrFrom, ih (fun e he => hds e (List.mem_cons_of_mem _ he)), hc, Nat.mul_assoc, Nat.add_mul_mod_self_left]

/-- Families of registers at different places within pages of 64 KiB. -/
abbrev PagesApart (id id' : RegId) : Prop :=
  (∀ d ∈ (regRow id).dims, 65536 ∣ d.1) ∧ (∀ d ∈ (regRow id').dims, 65536 ∣ d.1) ∧
    (regRow id).addr % 65536 ≠ (regRow id').addr % 65536

theorem rd_bump_apart {id id' : RegId} (h : PagesApart id' id) (ix ix' : List Nat) (k : Nat) :
    rd (bump s id ix k) id' ix' = rd s id' ix' := by
  obtain ⟨hdims', hdims, hplace⟩ := h
  refine rd_wr_other _ _ _ _ _ _ fun heq => hplace ?_
  calc (regRow id').addr % 65536 = regAddr id' ix' % 65536 := (regAddrFrom_mod_page _ hdims' _ _).symm
    _ = regAddr id ix % 65536 := by rw [heq]
    _ = (regRow id).addr % 65536 := regAddrFrom_mod_page _ hdims _ _

/-! ## What a path's stream reports (R208, R224, R226, R276) -/

/-- The stream of a path. -/
def State.stream (s : State) (p : Nat) : AirPath := spGet AirPath.none_ s.air.paths p

theorem stream_setAir (a : AirPath) : (s.setAir p a).stream p = a := spGet_spPut_same ..

theorem stream_of_air (h : t.air = s.air) : t.stream p = s.stream p := by rw [State.stream, h, State.stream]

/-- The lane of a path, as its registers are addressed. -/
def State.laneIx (s : State) (p : Nat) : List Nat := [p / 8, s.laneOf p]

/-- What the path's stream has counted, added to its counters and taken from the stream. -/
def streamCounted (s : State) (p : Nat) : State :=
  let a := s.stream p
  bump (bump (bump (bump (s.setAir p { a with tally := ⟨0, 0, 0, 0⟩ }) .txClip (s.laneIx p) a.tally.clipped) .txSat (s.laneIx p) a.tally.sat)
    .cfrMiss (s.laneIx p) a.tally.miss) .dpdClamp [p / 8, p % 8] a.tally.clamped

theorem streamCounted_evt (s : State) (p : Nat) : (streamCounted s p).evt = s.evt := by
  simp only [streamCounted, bump_evt]
  rfl

theorem streamCounted_stream : (streamCounted s p).stream p = { s.stream p with tally := ⟨0, 0, 0, 0⟩ } := by
  rw [State.stream, streamCounted]
  simp only [bump_air]
  exact stream_setAir _

/-- Event 53 for each of `n` peaks without a generator. -/
def missesTold (s : State) (p n : Nat) : State := (List.range n).foldl (fun s _ => raise s 53 NA p) s

theorem Fires.missesTold {k : Nat} (h : Fires s k) (p n : Nat) : Fires (missesTold s p n) k :=
  Fires.foldl (fun _ _ hf => hf.raise ..) h

theorem reportStream_of_silent (h : (s.stream p).tally = ⟨0, 0, 0, 0⟩) : reportStream s p = s := if_pos h

theorem reportStream_of_counts (h : (s.stream p).tally ≠ ⟨0, 0, 0, 0⟩) : reportStream s p =
    missesTold (if 0 < (s.stream p).tally.sat then raise (streamCounted s p) 54 NA p else streamCounted s p) p (s.stream p).tally.miss :=
  if_neg h

/-- Reporting the tally tells of it after the counts. -/
theorem reportStream_told (h : (s.stream p).tally ≠ ⟨0, 0, 0, 0⟩) :
    SameBut [.evt] [.evtRpt] (streamCounted s p) (reportStream s p) := by
  rw [reportStream_of_counts h]
  exact (same_foldl (fun _ _ h => raise_same 53 NA p (Nat.and_self _) h)
    (same_ite (raise_same 54 NA p (Nat.and_self _) (Same.refl _ _)) (Same.refl _ _))).but

/-- Of the path's stream the report takes the tally alone. -/
theorem reportStream_stream : (reportStream s p).stream p = { s.stream p with tally := ⟨0, 0, 0, 0⟩ } := by
  by_cases h : (s.stream p).tally = ⟨0, 0, 0, 0⟩
  case pos => rw [reportStream_of_silent h, ← h]
  case neg => exact (stream_of_air ((reportStream_told h).air (by decide))).trans streamCounted_stream

/-- The counters of a path hold no more than their 32 bits. -/
structure CountersFit (s : State) (p : Nat) : Prop where
  clamp : rd s .dpdClamp [p / 8, p % 8] ≤ 0xFFFFFFFF
  clip : rd s .txClip (s.laneIx p) ≤ 0xFFFFFFFF
  sat : rd s .txSat (s.laneIx p) ≤ 0xFFFFFFFF
  miss : rd s .cfrMiss (s.laneIx p) ≤ 0xFFFFFFFF

/-- The counters of a path after a stream's tally. -/
structure Counted (s t : State) (p : Nat) (n : AirTally) : Prop where
  clamp : rd t .dpdClamp [p / 8, p % 8] = min 0xFFFFFFFF (rd s .dpdClamp [p / 8, p % 8] + n.clamped)
  clip : rd t .txClip (s.laneIx p) = min 0xFFFFFFFF (rd s .txClip (s.laneIx p) + n.clipped)
  sat : rd t .txSat (s.laneIx p) = min 0xFFFFFFFF (rd s .txSat (s.laneIx p) + n.sat)
  miss : rd t .cfrMiss (s.laneIx p) = min 0xFFFFFFFF (rd s .cfrMiss (s.laneIx p) + n.miss)

theorem rd_setAir (a : AirPath) (id : RegId) (ix : List Nat) : rd (s.setAir p a) id ix = rd s id ix := rfl

theorem streamCounted_counted : Counted s (streamCounted s p) p (s.stream p).tally := by
  constructor
  all_goals
    unfold streamCounted
    simp (disch := decide) only [rd_bump, rd_bump_apart, rd_setAir]

/-- Nothing added to counters that fit. -/
theorem CountersFit.counted_none (h : CountersFit s p) : Counted s s p ⟨0, 0, 0, 0⟩ :=
  ⟨(Nat.min_eq_right h.clamp).symm, (Nat.min_eq_right h.clip).symm, (Nat.min_eq_right h.sat).symm, (Nat.min_eq_right h.miss).symm⟩

/-- Firings leave the counters as they were. -/
theorem Counted.of_told {u : State} {n : AirTally} {ps : List Part} (h : Counted s t p n) (htold : SameBut ps [.evtRpt] t u)
    (hr : .regs ∉ ps) (hs : .straps ∉ ps) : Counted s u p n :=
  ⟨(htold.rd_eq_apart hr hs (by decide)).trans h.clamp, (htold.rd_eq_apart hr hs (by decide)).trans h.clip,
    (htold.rd_eq_apart hr hs (by decide)).trans h.sat, (htold.rd_eq_apart hr hs (by decide)).trans h.miss⟩

theorem reportStream_counted (hfit : CountersFit s p) : Counted s (reportStream s p) p (s.stream p).tally := by
  by_cases h : (s.stream p).tally = ⟨0, 0, 0, 0⟩
  case pos => rw [reportStream_of_silent h, h]; exact hfit.counted_none
  case neg => exact streamCounted_counted.of_told (reportStream_told h) (by decide) (by decide)

/-- R208: saturations of the stream raise event 54. -/
theorem fires_reportStream_sat (h : 0 < (s.stream p).tally.sat) : Fires (reportStream s p) 54 := by
  have hcounts : (s.stream p).tally ≠ ⟨0, 0, 0, 0⟩ := fun h0 => by rw [h0] at h; exact Nat.lt_irrefl 0 h
  rw [reportStream_of_counts hcounts, if_pos h]
  exact (fires_raise ..).missesTold ..

/-- R224: a peak without a generator raises event 53. -/
theorem fires_reportStream_miss (h : 0 < (s.stream p).tally.miss) : Fires (reportStream s p) 53 := by
  have hcounts : (s.stream p).tally ≠ ⟨0, 0, 0, 0⟩ := fun h0 => by rw [h0] at h; exact Nat.lt_irrefl 0 h
  obtain ⟨n, hn⟩ := Nat.exists_eq_succ_of_ne_zero (Nat.ne_of_gt h)
  rw [reportStream_of_counts hcounts, hn, missesTold, List.range_succ, List.foldl_append]
  exact fires_raise ..

/-- What waits to be presented keeps waiting through a report. -/
theorem Fires.reportStream {k : Nat} (h : Fires s k) (p : Nat) : Fires (reportStream s p) k := by
  have hcounted : Fires (streamCounted s p) k := h.of_evt (streamCounted_evt s p)
  by_cases hs : (s.stream p).tally = ⟨0, 0, 0, 0⟩
  case pos => rwa [reportStream_of_silent hs]
  case neg =>
    rw [reportStream_of_counts hs]
    refine Fires.missesTold ?_ ..
    split
    · exact hcounted.raise ..
    · exact hcounted

/-! ## What a slot leaves (R215, R217, R227, R276) -/

variable {len : Nat} {cal : List Cplx}

theorem reportStream_same_but (s : State) (p : Nat) :
    SameBut [.evt, .air] [.cfrMiss, .dpdClamp, .evtRpt, .txClip, .txSat] s (reportStream s p) :=
  (reportStream_same p (Nat.and_self _) (Same.refl _ s)).but

/-- The registers of the timeline say when a path transmits: a report leaves them. -/
theorem reportStream_txTicks (at_ : Nat) : (reportStream s p).txTicks p at_ len = s.txTicks p at_ len := by
  have h := reportStream_same_but s p
  have hrd {id : RegId} (hid : id = .tlCtrl ∨ id = .tlPat ∨ id = .tlPatternCfg ∨ id = .tlFrameOfs) :
      rd (reportStream s p) id = rd s id := by
    rcases hid with rfl | rfl | rfl | rfl
    all_goals exact funext fun ix => h.rd_eq_apart (by decide) (by decide) (by decide)
  have hpattern : (reportStream s p).pattern = s.pattern := by
    unfold State.pattern rf
    rw [hrd (by decide), hrd (by decide)]
  have hruns : (reportStream s p).tlRuns = s.tlRuns := by rw [State.tlRuns, rbit, hrd (by decide), hpattern]; rfl
  have hofs : (reportStream s p).frameOfs = s.frameOfs := congrFun (hrd (by decide)) []
  have hpath : (reportStream s p).pathState p = s.pathState p := by rw [State.pathState, h.tl (by decide), State.pathState]
  unfold State.txTicks
  rw [hpattern, hruns, hofs, hpath]

/-- The power of full scale rests on the calibration, the objects and the attenuation in force. -/
theorem pFs_eq (hcal : t.cal = s.cal) (hobjs : t.objs = s.objs) (hstraps : t.straps = s.straps) (hatt : t.tx.att = s.tx.att) :
    t.pFs p = s.pFs p := by
  have hbytes : t.obytes 0x7020 1 = s.obytes 0x7020 1 := by
    show (spGet (objDefault t.straps.tenants 0x7020 1) t.objs (okey 0x7020 1)).toBytes = _
    rw [hobjs, hstraps]
    rfl
  have htset : tset t = tset s := funext fun j => by rw [tset, hbytes, tset]
  have htemp : tOf t = tOf s := funext fun q => by rw [tOf, htset, hcal, tOf]
  have hset : baseSet t = baseSet s := funext₃ fun j q i => by rw [baseSet, hcal, baseSet]
  have hbracket : bracket t = bracket s := funext₂ fun q i => by
    unfold bracket
    rw [htset, htemp, hset]
  have hnote : baseNote t = baseNote s := funext₂ fun q i => by
    unfold baseNote
    rw [hbracket, htset, htemp]
  rw [State.pFs, State.pFsAt, State.calItem, State.calItem, hcal, hatt, hnote]
  rfl

/-- Events 52 and 82 for more than 10⁻⁴ of a slot's TX samples clipped or clamped. -/
def fractionsTold (s : State) (p len : Nat) : State :=
  let ticks := s.txTicks p s.now len
  let clipTold := if 0 < (s.stream p).slotClip ∧ 10 * ticks < 10000 * (s.stream p).slotClip then raise s 52 NA p else s
  if 0 < (s.stream p).slotClamp ∧ 10 * ticks < 10000 * (s.stream p).slotClamp then raise clipTold 82 NA p else clipTold

theorem fractionsTold_same_but (s : State) (p len : Nat) : SameBut [.evt] [.evtRpt] s (fractionsTold s p len) := by
  have hclip := same_ite (c := 0 < (s.stream p).slotClip ∧ 10 * s.txTicks p s.now len < 10000 * (s.stream p).slotClip)
    (raise_same 52 NA p (Nat.and_self _) (Same.refl (allow [.evt] [.evtRpt]) s)) (Same.refl _ s)
  exact (same_ite (raise_same 82 NA p (Nat.and_self _) hclip) hclip).but

theorem Fires.fractionsTold {k : Nat} (h : Fires s k) (p len : Nat) : Fires (fractionsTold s p len) k := by
  have hclip (c : Prop) [Decidable c] : Fires (if c then Machine.raise s 52 NA p else s) k := by
    split
    · exact h.raise ..
    · exact h
  unfold Machine.fractionsTold
  dsimp only
  split
  · exact (hclip _).raise ..
  · exact hclip _

/-- R227: more than 10⁻⁴ of the slot's TX samples clipped. -/
theorem fires_fractionsTold_clip (h : 10 * s.txTicks p s.now len < 10000 * (s.stream p).slotClip) :
    Fires (fractionsTold s p len) 52 := by
  unfold fractionsTold
  dsimp only
  rw [if_pos (show 0 < (s.stream p).slotClip ∧ _ from ⟨by omega, h⟩)]
  split
  · exact (fires_raise ..).raise ..
  · exact fires_raise ..

/-- R276: more than 10⁻⁴ of the slot's TX samples clamped. -/
theorem fires_fractionsTold_clamp (h : 10 * s.txTicks p s.now len < 10000 * (s.stream p).slotClamp) :
    Fires (fractionsTold s p len) 82 := by
  unfold fractionsTold
  dsimp only
  rw [if_pos (show 0 < (s.stream p).slotClamp ∧ _ from ⟨by omega, h⟩)]
  exact fires_raise ..

/-- The DAC input of the slot that ends (R215). -/
def slotDac (s : State) (p len : Nat) (cal : List Cplx) : List Cplx :=
  if (s.stream p).dac = [] then (if s.pathState p = .cal then cal else []) else dacOf ((s.stream p).dac.take (10 * len)).reverse cal

/-- The slot's events are told, and its sums taken from the stream. -/
def slotTaken (s : State) (p len : Nat) (cal : List Cplx) : State :=
  let u := (fractionsTold s p len).setAir p { s.stream p with slotClip := 0, slotClamp := 0, energy := 0, dac := [] }
  { u with tx := { u.tx with dac := spPut [] u.tx.dac p (slotDac s p len cal) } }

/-- Beside the events, a slot's end changes the streams and the DAC inputs. -/
theorem slotTaken_eq (s : State) (p len : Nat) (cal : List Cplx) : ∃ a d, slotTaken s p len cal =
    { fractionsTold s p len with air := a, tx := { (fractionsTold s p len).tx with dac := d } } := ⟨_, _, rfl⟩

theorem slotTaken_regs : (slotTaken s p len cal).regs = (fractionsTold s p len).regs := by
  obtain ⟨a, d, h⟩ := slotTaken_eq s p len cal; rw [h]
theorem slotTaken_straps : (slotTaken s p len cal).straps = (fractionsTold s p len).straps := by
  obtain ⟨a, d, h⟩ := slotTaken_eq s p len cal; rw [h]
theorem slotTaken_evt : (slotTaken s p len cal).evt = (fractionsTold s p len).evt := by
  obtain ⟨a, d, h⟩ := slotTaken_eq s p len cal; rw [h]
theorem slotTaken_cal : (slotTaken s p len cal).cal = (fractionsTold s p len).cal := by
  obtain ⟨a, d, h⟩ := slotTaken_eq s p len cal; rw [h]
theorem slotTaken_objs : (slotTaken s p len cal).objs = (fractionsTold s p len).objs := by
  obtain ⟨a, d, h⟩ := slotTaken_eq s p len cal; rw [h]
theorem slotTaken_att : (slotTaken s p len cal).tx.att = (fractionsTold s p len).tx.att := by
  obtain ⟨a, d, h⟩ := slotTaken_eq s p len cal; rw [h]

/-- A slot is done: the stream's report, the slot's events, its DAC input and, after TX ticks, its composite power. -/
theorem slotDone_eq : slotDone s p len cal =
    let u := reportStream s p
    let v := slotTaken u p len cal
    if 0 < u.txTicks p u.now len then
      { v with tx := { v.tx with power := spPut (-32768) v.tx.power p
                                   (compositePower v p (u.stream p).energy (5 * u.txTicks p u.now len)) } }
    else v := rfl

theorem slotDone_dac (h : (s.stream p).dac ≠ []) :
    spGet [] (slotDone s p len cal).tx.dac p = dacOf ((s.stream p).dac.take (10 * len)).reverse cal := by
  have htaken : spGet [] (slotTaken (reportStream s p) p len cal).tx.dac p = dacOf ((s.stream p).dac.take (10 * len)).reverse cal := by
    rw [slotTaken, spGet_spPut_same, slotDac, reportStream_stream, if_neg h]
  rw [slotDone_eq]
  dsimp only
  split
  · exact htaken
  · exact htaken

/-- R217: the composite power of a slot with TX ticks. -/
theorem slotDone_power (h : 0 < s.txTicks p s.now len) : spGet (-32768) (slotDone s p len cal).tx.power p =
    compositePower s p (s.stream p).energy (5 * s.txTicks p s.now len) := by
  have hreport := reportStream_same_but s p
  have htold := fractionsTold_same_but (reportStream s p) p len
  have hfull : (slotTaken (reportStream s p) p len cal).pFs p = s.pFs p := pFs_eq
    (by rw [slotTaken_cal, htold.cal (by decide), hreport.cal (by decide)])
    (by rw [slotTaken_objs, htold.objs (by decide), hreport.objs (by decide)])
    (by rw [slotTaken_straps, htold.straps (by decide), hreport.straps (by decide)])
    (by rw [slotTaken_att, htold.tx (by decide), hreport.tx (by decide)])
  have hnow : (reportStream s p).now = s.now := congrArg Clk.count (hreport.clk (by decide))
  rw [slotDone_eq]
  dsimp only
  rw [hnow, reportStream_txTicks, if_pos h, spGet_spPut_same, compositePower, hfull, reportStream_stream, compositePower]

theorem slotDone_regs : (slotDone s p len cal).regs = (fractionsTold (reportStream s p) p len).regs := by
  rw [slotDone_eq]
  dsimp only
  rw [apply_ite State.regs, slotTaken_regs]
  exact ite_self _

theorem slotDone_straps : (slotDone s p len cal).straps = (fractionsTold (reportStream s p) p len).straps := by
  rw [slotDone_eq]
  dsimp only
  rw [apply_ite State.straps, slotTaken_straps]
  exact ite_self _

theorem slotDone_evt : (slotDone s p len cal).evt = (fractionsTold (reportStream s p) p len).evt := by
  rw [slotDone_eq]
  dsimp only
  rw [apply_ite State.evt, slotTaken_evt]
  exact ite_self _

/-- At a slot's end the counters take the stream's report. -/
theorem rd_slotDone (id : RegId) (ix : List Nat) (h : (regRow .evtRpt).addr + regSpan .evtRpt < (regRow id).addr ∨
    (regRow id).addr + regSpan id < (regRow .evtRpt).addr) : rd (slotDone s p len cal) id ix = rd (reportStream s p) id ix := by
  rw [rd_eq_of_regs slotDone_regs slotDone_straps]
  exact (fractionsTold_same_but ..).rd_eq_apart (by decide) (by decide) (fun _ hid => by rw [List.mem_singleton.1 hid]; exact h)

theorem slotDone_counted (hfit : CountersFit s p) : Counted s (slotDone s p len cal) p (s.stream p).tally := by
  have h := reportStream_counted hfit
  exact ⟨(rd_slotDone _ _ (by decide)).trans h.clamp, (rd_slotDone _ _ (by decide)).trans h.clip,
    (rd_slotDone _ _ (by decide)).trans h.sat, (rd_slotDone _ _ (by decide)).trans h.miss⟩

/-- What waits after the report and the slot's events waits after the slot's end. -/
theorem Fires.slotDone_of {k : Nat} (h : Fires (Machine.fractionsTold (Machine.reportStream s p) p len) k) : Fires (slotDone s p len cal) k :=
  h.of_evt slotDone_evt

/-- The events of a slot's end. -/
theorem fires_slotDone :
    (10 * s.txTicks p s.now len < 10000 * (s.stream p).slotClip → Fires (slotDone s p len cal) 52) ∧
    (10 * s.txTicks p s.now len < 10000 * (s.stream p).slotClamp → Fires (slotDone s p len cal) 82) ∧
    (0 < (s.stream p).tally.sat → Fires (slotDone s p len cal) 54) ∧
    (0 < (s.stream p).tally.miss → Fires (slotDone s p len cal) 53) := by
  have hnow : (reportStream s p).now = s.now := congrArg Clk.count ((reportStream_same_but s p).clk (by decide))
  refine ⟨fun h => ?clip, fun h => ?clamp, fun h => ?sat, fun h => ?miss⟩
  case clip => exact Fires.slotDone_of (fires_fractionsTold_clip (by rwa [reportStream_txTicks, hnow, reportStream_stream]))
  case clamp => exact Fires.slotDone_of (fires_fractionsTold_clamp (by rwa [reportStream_txTicks, hnow, reportStream_stream]))
  case sat => exact Fires.slotDone_of ((fires_reportStream_sat h).fractionsTold ..)
  case miss => exact Fires.slotDone_of ((fires_reportStream_miss h).fractionsTold ..)

theorem exec_slotBoundary_of_path (hp : p < 64) (chans hist ahead past nbs : Unit) :
    exec (.slotBoundary p chans hist ahead past nbs cal) s = .next (slotDone (toSlot s 80 p) p (slotLen s p) cal) := by
  rw [exec_slotBoundary]
  exact if_pos hp

/-- SLOT_BOUNDARY of a path whose counters fit their registers. -/
theorem slotLeaves_of_countersFit (hfit : CountersFit s p) : SlotLeaves s (slotDone (toSlot s 80 p) p (slotLen s p) cal) p cal := by
  have hfit' : CountersFit (toSlot s 80 p) p := ⟨hfit.clamp, hfit.clip, hfit.sat, hfit.miss⟩
  obtain ⟨hclamp, hclip, hsat, hmiss⟩ := slotDone_counted (len := slotLen s p) (cal := cal) hfit'
  exact ⟨⟨slotDone_dac, slotDone_power⟩, ⟨hclamp, hclip, hsat, hmiss⟩, fires_slotDone⟩

end Sys2Proof.Machine
end

section
/-!
The symbols of the transmit channels (chapter 6), and the settlement of O23.  A transmit counter is 32 bits wide, but a state may hold 128
bits for any register: where DPD_CLAMP holds more than its width, which no write makes (`rd_wr_same`), a path with nothing to count leaves it,
and the clause of SLOT_BOUNDARY fails.  The clauses of TX_SYMBOL_READ hold, and that of SLOT_BOUNDARY where the counters fit.
-/

namespace Sys2Proof.Machine

variable {s t : State} {p cc : Nat}

/-! ## What a symbol read leaves (R205 to R214, R218, R220) -/

/-- What the RE buffer of a channel holds for the symbol it reads, nothing where the symbol has not come. -/
def txFound (s : State) (p cc : Nat) : ReSym :=
  ((spGet [] s.tx.buf (p * 8 + cc)).find? (fun x => x.tick = txAir s p cc)).getD ReSym.none_

/-- The REs that the channel reads: late ones and those that are not there are zero (R211). -/
def txRes (s : State) (p cc : Nat) (late : List Nat) : List Cplx :=
  (List.range (12 * (txConfig s p cc).ccN cc)).map fun k =>
    if decide ((txFound s p cc).tick = txAir s p cc) = true ∧ k < (txFound s p cc).res.length ∧ k ∉ late then
      (txFound s p cc).res.getD k ⟨0, 0⟩ else ⟨0, 0⟩

/-- An RE is late, or is not there. -/
abbrev TxMisses (s : State) (p cc : Nat) (late : List Nat) : Prop :=
  (¬ decide ((txFound s p cc).tick = txAir s p cc) = true ∨ (txFound s p cc).mirage = true ∨
    (txFound s p cc).res.length < 12 * (txConfig s p cc).ccN cc ∨ late.any (· < 12 * (txConfig s p cc).ccN cc) = true) ∧
  0 < 12 * (txConfig s p cc).ccN cc

/-- The symbol that the channel reads, under the configuration it starts under (R212 to R214, R218, R220). -/
def txSymRead (s : State) (p cc : Nat) (late : List Nat) : TxSym :=
  let v := txConfig s p cc
  let ref := toSigned 16 (v.onum (0x2100 + cc) 2)
  let res := txRes s p cc late
  let scale := limiterScale (energySum res) (12 * v.ccN cc) ref
  ⟨txAir s p cc, (txRead s p cc).clk.elapsed + s.txLat p cc, res, scale, toSigned 16 (v.onum (0x2100 + cc) 1), ref,
    (txSymbol v p cc (txAir s p cc) scale res).1, (txSymbol v p cc (txAir s p cc) scale res).2.1⟩

/-- The symbol read joins its channel's queue, and the buffer keeps the symbols to come. -/
def txQueued (s : State) (p cc : Nat) (late : List Nat) : State :=
  let u := txRead s p cc
  queueSymbol { u with tx := { u.tx with buf := spPut [] u.tx.buf (p * 8 + cc)
                                           ((spGet [] u.tx.buf (p * 8 + cc)).filter (fun x => txAir s p cc < x.tick)) } }
    p cc (txSymRead s p cc late)

/-- A miss is counted, flagged and reported (R211). -/
def missTold (s : State) (lane : List Nat) (p cc : Nat) : State :=
  raise (setFlag (bump s .txMiss lane) .txStat lane (8 + cc)) 51 cc p

/-- A limited symbol is flagged, counted and reported (R218). -/
def limiterTold (s : State) (lane : List Nat) (p cc scale : Nat) : State :=
  let flagged := wbit s .txStat lane cc (decide (scale < 4096))
  if scale < 4096 then raise (bump flagged .txLimcnt lane) 50 cc p else flagged

/-- The symbol's saturations are counted and reported (R208). -/
def satTold (s : State) (lane : List Nat) (p sat : Nat) : State :=
  if 0 < sat then raise (bump s .txSat lane sat) 54 NA p else s

/-- What a symbol read makes known beside a miss. -/
def symbolTold (s : State) (lane : List Nat) (p cc scale sat : Nat) : State :=
  reportStream (satTold (limiterTold s lane p cc scale) lane p sat) p

/-- TX_SYMBOL_READ of a channel on air. -/
theorem exec_txSymbolRead_of_on (late : List Nat) (hp : p < 64) (hdl : (txConfig s p cc).dlOn cc = true)
    (hact : (txConfig s p cc).ccActive cc = true) (hlane : s.laneWorks p = true) :
    exec (.txSymbolRead p cc late) s = .next (symbolTold
      (if TxMisses s p cc late then missTold (txQueued s p cc late) (s.laneIx p) p cc else txQueued s p cc late)
      (s.laneIx p) p cc (txSymRead s p cc late).scale
      (txSymbol (txConfig s p cc) p cc (txAir s p cc) (txSymRead s p cc late).scale (txRes s p cc late)).2.2) := by
  rw [exec_txSymbolRead]
  exact if_pos ⟨hp, hdl, hact, hlane⟩

/-- From `s` to `t` counts, flags and events alone: symbols and time stay, and what waits to be presented keeps waiting. -/
structure Told (s t : State) : Prop where
  tx : t.tx = s.tx
  clk : t.clk = s.clk
  fires : ∀ k, Fires s k → Fires t k

theorem Told.refl (s : State) : Told s s := ⟨rfl, rfl, fun _ h => h⟩

theorem Told.trans {u : State} (h : Told s t) (h' : Told t u) : Told s u :=
  ⟨h'.tx.trans h.tx, h'.clk.trans h.clk, fun k hk => h'.fires k (h.fires k hk)⟩

theorem Told.raise (h : Told s t) (a b c : Nat) : Told s (raise t a b c) :=
  h.trans ⟨raise_tx .., raise_clk .., fun _ hk => hk.raise ..⟩

theorem Told.bump (h : Told s t) (id : RegId) (ix : List Nat) (n : Nat) : Told s (bump t id ix n) := h.trans ⟨rfl, rfl, fun _ hk => hk⟩

theorem Told.wbit (h : Told s t) (id : RegId) (ix : List Nat) (i : Nat) (b : Bool) : Told s (wbit t id ix i b) :=
  h.trans ⟨rfl, rfl, fun _ hk => hk⟩

theorem Told.setFlag (h : Told s t) (id : RegId) (ix : List Nat) (i : Nat) : Told s (setFlag t id ix i) :=
  h.trans ⟨rfl, rfl, fun _ hk => hk⟩

theorem Told.ite {u : State} {c : Prop} [Decidable c] (h : Told s t) (h' : Told s u) : Told s (if c then t else u) := by
  split
  · exact h
  · exact h'

theorem Told.report (h : Told s t) (p : Nat) : Told s (reportStream t p) :=
  have hreport := reportStream_same_but t p
  h.trans ⟨hreport.tx (by decide), hreport.clk (by decide), fun _ hk => hk.reportStream p⟩

theorem told_limiterTold (s : State) (lane : List Nat) (p cc scale : Nat) : Told s (limiterTold s lane p cc scale) :=
  have hflag := (Told.refl s).wbit .txStat lane cc (decide (scale < 4096))
  Told.ite ((hflag.bump ..).raise ..) hflag

theorem told_satTold (s : State) (lane : List Nat) (p sat : Nat) : Told s (satTold s lane p sat) :=
  Told.ite (((Told.refl s).bump ..).raise ..) (Told.refl s)

theorem told_missTold (s : State) (lane : List Nat) (p cc : Nat) : Told s (missTold s lane p cc) :=
  (((Told.refl s).bump ..).setFlag ..).raise ..

theorem told_symbolTold (s : State) (lane : List Nat) (p cc scale sat : Nat) : Told s (symbolTold s lane p cc scale sat) :=
  ((told_limiterTold ..).trans (told_satTold ..)).report p

/-! ## The symbol read -/

theorem mem_txQueued_sym (late : List Nat) : txSymRead s p cc late ∈ spGet [] (txQueued s p cc late).tx.sym (p * 8 + cc) := by
  unfold txQueued queueSymbol
  dsimp only
  rw [spGet_spPut_same]
  exact List.mem_append_right _ List.mem_cons_self

/-- The buffer keeps the symbols whose air starts are still to come. -/
theorem lt_tick_of_mem_txQueued_buf {late : List Nat} {x : ReSym} (h : x ∈ spGet [] (txQueued s p cc late).tx.buf (p * 8 + cc)) :
    txAir s p cc < x.tick := by
  unfold txQueued queueSymbol at h
  dsimp only at h
  rw [spGet_spPut_same] at h
  exact of_decide_eq_true (List.mem_filter.1 h).2

/-- What the buffer holds for the symbol has its air start, or is nothing. -/
theorem txFound_tick_or_nil : (txFound s p cc).tick = txAir s p cc ∨ (txFound s p cc).res = [] := by
  unfold txFound
  cases h : (spGet [] s.tx.buf (p * 8 + cc)).find? (fun x => x.tick = txAir s p cc) with
  | none => exact .inr rfl
  | some x =>
    have htick := List.find?_some h
    exact .inl (of_decide_eq_true htick)

theorem length_txRes (late : List Nat) : (txRes s p cc late).length = 12 * (txConfig s p cc).ccN cc := by
  rw [txRes, List.length_map, List.length_range]

/-- R211: an RE read is the buffer's, or zero where it is late. -/
theorem txRes_getD (late : List Nat) {k : Nat} (hk : k < 12 * (txConfig s p cc).ccN cc) :
    (txRes s p cc late).getD k ⟨0, 0⟩ = if k ∈ late then ⟨0, 0⟩ else (txFound s p cc).res.getD k ⟨0, 0⟩ := by
  have hread : (txRes s p cc late).getD k ⟨0, 0⟩ =
      if decide ((txFound s p cc).tick = txAir s p cc) = true ∧ k < (txFound s p cc).res.length ∧ k ∉ late then
        (txFound s p cc).res.getD k ⟨0, 0⟩ else ⟨0, 0⟩ := by
    rw [List.getD_eq_getElem _ _ (by rwa [length_txRes])]
    simp only [txRes, List.getElem_map, List.getElem_range]
  rw [hread]
  by_cases hlate : k ∈ late
  case pos => rw [if_neg (fun h => h.2.2 hlate), if_pos hlate]
  case neg =>
    rw [if_neg hlate]
    split
    case isTrue => rfl
    case isFalse hnot =>
      refine (List.getD_eq_default _ _ (Nat.le_of_not_lt fun hlt => hnot ⟨?_, hlt, hlate⟩)).symm
      rcases txFound_tick_or_nil (s := s) (p := p) (cc := cc) with htick | hnil
      · exact decide_eq_true htick
      · rw [hnil] at hlt
        exact absurd hlt (Nat.not_lt_zero k)

/-- With the first RE late or nothing in the buffer the channel misses an RE, and its first RE is zero. -/
theorem txMisses_of_first {late : List Nat} (hn : 0 < (txConfig s p cc).ccN cc)
    (h : 0 ∈ late ∨ (spGet [] s.tx.buf (p * 8 + cc)).find? (fun x => x.tick = txAir s p cc) = none) :
    TxMisses s p cc late ∧ (txRes s p cc late).getD 0 ⟨0, 0⟩ = ⟨0, 0⟩ := by
  have hpos : 0 < 12 * (txConfig s p cc).ccN cc := by omega
  rw [txRes_getD late hpos]
  rcases h with hlate | hnone
  · exact ⟨⟨.inr (.inr (.inr (List.any_eq_true.2 ⟨0, hlate, decide_eq_true hpos⟩))), hpos⟩, if_pos hlate⟩
  · have hnil : txFound s p cc = ReSym.none_ := by rw [txFound, hnone]; rfl
    refine ⟨⟨.inr (.inr (.inl (by rw [hnil]; exact hpos))), hpos⟩, ?_⟩
    rw [hnil]
    exact ite_self _

/-! ## The commands -/

/-- TX_SYMBOL_READ of a channel on air: the buffer keeps the symbols to come, and the symbol read joins the queue. -/
theorem completes_txSymbolRead (late : List Nat) (hp : p < 64) (hdl : (txConfig s p cc).dlOn cc = true)
    (hact : (txConfig s p cc).ccActive cc = true) (hlane : s.laneWorks p = true) :
    Completes (.txSymbolRead p cc late) s fun t =>
      t.clk = (txRead s p cc).clk ∧ (∀ x ∈ spGet [] t.tx.buf (p * 8 + cc), txAir s p cc < x.tick) ∧
      txSymRead s p cc late ∈ spGet [] t.tx.sym (p * 8 + cc) ∧ (TxMisses s p cc late → Fires t 51) := by
  have hmissed : Told (txQueued s p cc late)
      (if TxMisses s p cc late then missTold (txQueued s p cc late) (s.laneIx p) p cc else txQueued s p cc late) :=
    Told.ite (told_missTold ..) (Told.refl _)
  refine ⟨_, exec_txSymbolRead_of_on late hp hdl hact hlane, (hmissed.trans (told_symbolTold ..)).clk, ?buffer, ?queue, fun hmiss => ?miss⟩
  case buffer => rw [(hmissed.trans (told_symbolTold ..)).tx]; exact fun x hx => lt_tick_of_mem_txQueued_buf hx
  case queue => rw [(hmissed.trans (told_symbolTold ..)).tx]; exact mem_txQueued_sym late
  case miss => rw [if_pos hmiss]; exact (told_symbolTold ..).fires _ (fires_raise ..)

/-- What TX_SYMBOL_READ leaves: the symbols to come in the buffer, and in the queue the symbol read, with its late REs zero, limited, transformed
and windowed under the configuration it starts under (R211 to R214, R218, R220). -/
abbrev SymbolLeaves (s t : State) (p cc : Nat) (late : List Nat) : Prop :=
  t.clk = (txRead s p cc).clk ∧ (∀ x ∈ spGet [] t.tx.buf (p * 8 + cc), txAir s p cc < x.tick) ∧
  ∃ y ∈ spGet [] t.tx.sym (p * 8 + cc), y.tick = txAir s p cc ∧ y.at_ = t.clk.elapsed + s.txLat p cc ∧
    y.res.length = 12 * (txConfig s p cc).ccN cc ∧ y.pdec = toSigned 16 ((txConfig s p cc).onum (0x2100 + cc) 1) ∧
    y.ref = toSigned 16 ((txConfig s p cc).onum (0x2100 + cc) 2) ∧
    y.scale = limiterScale (energySum y.res) (12 * (txConfig s p cc).ccN cc) y.ref ∧
    y.wave = (txSymbol (txConfig s p cc) p cc y.tick y.scale y.res).1 ∧ y.post = (txSymbol (txConfig s p cc) p cc y.tick y.scale y.res).2.1 ∧
    (∀ k < 12 * (txConfig s p cc).ccN cc, y.res.getD k ⟨0, 0⟩ = if k ∈ late then ⟨0, 0⟩ else (txFound s p cc).res.getD k ⟨0, 0⟩)

/-- TX_SYMBOL_READ of a channel on air leaves the symbol read. -/
theorem completes_txSymbolRead_leaves (late : List Nat) (hp : p < 64) (hdl : (txConfig s p cc).dlOn cc = true)
    (hact : (txConfig s p cc).ccActive cc = true) (hlane : s.laneWorks p = true) :
    Completes (.txSymbolRead p cc late) s fun t => SymbolLeaves s t p cc late := by
  obtain ⟨t, hx, hclk, hbuf, hsym, -⟩ := completes_txSymbolRead late hp hdl hact hlane
  have hat : (txSymRead s p cc late).at_ = t.clk.elapsed + s.txLat p cc := by rw [hclk]; rfl
  exact ⟨t, hx, hclk, hbuf, _, hsym, rfl, hat, length_txRes late, rfl, rfl, rfl, rfl, rfl, fun k hk => txRes_getD late hk⟩

/-- TX_SYMBOL_READ where the first RE is late or nothing is in the buffer: the first RE is zero, and event 51 is raised. -/
theorem completes_txSymbolRead_of_first_missing {late : List Nat} (hp : p < 64) (hdl : (txConfig s p cc).dlOn cc = true)
    (hact : (txConfig s p cc).ccActive cc = true) (hlane : s.laneWorks p = true) (hn : 0 < (txConfig s p cc).ccN cc)
    (h : 0 ∈ late ∨ (spGet [] s.tx.buf (p * 8 + cc)).find? (fun x => x.tick = txAir s p cc) = none) :
    Completes (.txSymbolRead p cc late) s fun t =>
      (∃ y ∈ spGet [] t.tx.sym (p * 8 + cc), y.tick = txAir s p cc ∧ y.res.getD 0 ⟨0, 0⟩ = ⟨0, 0⟩) ∧ Fires t 51 := by
  obtain ⟨hmiss, hzero⟩ := txMisses_of_first hn h
  obtain ⟨t, hx, -, -, hsym, hfires⟩ := completes_txSymbolRead late hp hdl hact hlane
  exact ⟨t, hx, ⟨_, hsym, rfl, hzero⟩, hfires hmiss⟩

/-- SLOT_BOUNDARY of a path whose counters fit their registers. -/
theorem completes_slotBoundary (hp : p < 64) (hfit : CountersFit s p) (chans hist ahead past nbs : Unit) (cal : List Cplx) :
    Completes (.slotBoundary p chans hist ahead past nbs cal) s fun t => SlotLeaves s t p cal :=
  ⟨_, exec_slotBoundary_of_path hp chans hist ahead past nbs, slotLeaves_of_countersFit hfit⟩

/-- The counters fit at reset. -/
theorem countersFit_reset (p : Nat) : CountersFit State.reset p := ⟨Nat.zero_le _, Nat.zero_le _, Nat.zero_le _, Nat.zero_le _⟩

/-- The state at reset, but DPD_CLAMP of path 0 holds 2³², one more than its 32 bits take. -/
def clampBeyond : State := { State.reset with regs := [(regAddr .dpdClamp [0, 0], BitVec.ofNat 128 (2 ^ 32))] }

/-- The invariant of the block bounds no register's value. -/
theorem clampBeyond_inv : clampBeyond.Inv where
  memory := by decide
  regs := by decide
  staged := by decide
  islands := by decide
  log := Nat.zero_le _
  spiIn := Nat.zero_le _
  spiOut := Nat.zero_le _
  stats := by decide
  counts := fun _ h => absurd h List.not_mem_nil

/-- Refutes O23: in `clampBeyond` path 0 has no stream, so that SLOT_BOUNDARY has nothing to count and leaves DPD_CLAMP, but the clause asks for
no more than 0xFFFFFFFF.  No write leaves such a value, but neither the statement nor `State.Inv` bounds it; under the bound, `CountersFit`, the
clause holds (`completes_slotBoundary`), and those of TX_SYMBOL_READ hold as they stand (`completes_txSymbolRead_leaves`,
`completes_txSymbolRead_of_first_missing`). -/
theorem not_transmitCommandsComplete : ¬ Obligations.TransmitCommandsComplete := by
  unfold Obligations.TransmitCommandsComplete
  rintro ⟨-, -, hslot⟩
  have hsilent : ((toSlot clampBeyond 80 0).stream 0).tally = ⟨0, 0, 0, 0⟩ := by decide +kernel
  obtain ⟨t, hx, -, ⟨hclamp, -⟩, -⟩ := hslot clampBeyond 0 () () () () () [] (by decide)
  rw [exec_slotBoundary_of_path (by decide)] at hx
  cases hx
  rw [rd_slotDone _ _ (by decide), reportStream_of_silent hsilent] at hclamp
  have hheld : rd (toSlot clampBeyond 80 0) .dpdClamp [0 / 8, 0 % 8] = 2 ^ 32 := by decide +kernel
  omega

end Sys2Proof.Machine
end

section
/-!
The beam matrix: hand-over and arming on the timeline, the runs of a symbol, weight blocks and the vectors that land, and with them the
settlement of O24.
-/

namespace Sys2Proof.Machine

variable {s : State} {cc : Nat}

/-! ## Writes under one key after another -/

section Keyed

variable {α β : Type} [DecidableEq β] {d : β} {k : α → Nat} {F : α → β → β}

theorem spGet_foldl_spMod_of_not_mem {key : Nat} {l : List α} (h : key ∉ l.map k) (m : Sparse β) :
    spGet d (l.foldl (fun m a => spMod d m (k a) (F a)) m) key = spGet d m key :=
  List.foldlRecOn (motive := fun m' => spGet d m' key = spGet d m key) l _ rfl (fun m' hm a ha =>
    (spGet_spPut_other d d m' _ (fun e => h (by rw [e]; exact List.mem_map_of_mem ha))).trans hm)

/-- Changes under keys that differ each act on what their key held at first. -/
theorem spGet_foldl_spMod {l : List α} {a : α} (hl : (l.map k).Nodup) (ha : a ∈ l) (m : Sparse β) :
    spGet d (l.foldl (fun m a => spMod d m (k a) (F a)) m) (k a) = F a (spGet d m (k a)) := by
  induction l generalizing m with
  | nil => exact absurd ha List.not_mem_nil
  | cons b l ih =>
    obtain ⟨hb, hl'⟩ := List.nodup_cons.1 hl
    rw [List.foldl_cons]
    rcases List.mem_cons.1 ha with rfl | hmem
    · rw [spGet_foldl_spMod_of_not_mem hb, spGet_spMod_same]
    · have hne : k a ≠ k b := fun e => hb (by rw [← e]; exact List.mem_map_of_mem hmem)
      rw [ih hl' hmem, spMod, spGet_spPut_other _ _ _ _ hne]

end Keyed

/-- The keys of the 64 paths' records of a carrier differ. -/
theorem nodup_pathKeys (cc : Nat) : ((List.range 64).map (fun p => p * 8 + cc)).Nodup :=
  List.nodup_range.map (fun p q (h : p * 8 + cc = q * 8 + cc) => by omega)

/-! ## Boundaries that fall on the present tick -/

/-- Where no tick passes, the streams stand still. -/
theorem passTicks_zero (s : State) : passTicks s 0 = s := by
  have hair : airAfter s 0 = s.air := by
    unfold airAfter
    dsimp only
    rw [Nat.zero_min, if_pos rfl]
    exact ite_self _
  rw [passTicks, hair]
  rfl

/-- The state in which a happening named `name` has had the present tick. -/
def hadNow (s : State) (name : Nat) : State :=
  { s with clk := { s.clk with seen := spPut 0 s.clk.seen name (s.clk.elapsed + 1) } }

/-- A happening whose boundary is the present tick, and that has not had it, takes it now. -/
theorem toBoundary_of_now {key inst : Nat} {f : Nat → Nat} (hnow : f s.now = s.now)
    (hseen : spGet 0 s.clk.seen (key * 65536 + inst) ≠ s.clk.elapsed + 1) :
    toBoundary s key inst f = hadNow s (key * 65536 + inst) := by
  have hstill : reachCount s s.clk.count = s := by rw [reachCount, Nat.sub_self, passTicks_zero]
  rw [State.now] at hnow
  unfold toBoundary
  dsimp only
  rw [hnow, if_neg (fun h => hseen h.2), hstill]
  rfl

/-! ## Hand-over and arming (R243, R246) -/

/-- The entry searched for rests on the pattern alone, not on what has happened on the present tick. -/
theorem nextEntryOf_hadNow (name dir : Nat) : nextEntryOf (hadNow s name) dir = nextEntryOf s dir := by
  have hgo (p : List PatEntry) (fuel t : Nat) : nextEntryOf.go (hadNow s name) dir p fuel t = nextEntryOf.go s dir p fuel t := by
    induction fuel generalizing t with
    | zero => rfl
    | succ fuel ih =>
      simp only [nextEntryOf.go, ih]
      rfl
  exact hgo ..

/-- The arms after a TILE_START of entry `e` whose runs are for the timeline entry from `a` to `b`: arms long past are dropped. -/
def armed (s : State) (e : EvtEntry) (a b : Nat) : State :=
  { s with bm := { s.bm with arms := s.bm.arms.filter (fun x => s.now < x.upto + 65536) ++
      [⟨e.target % 8, bitsOf e.target 3 3, bitsOf e.arg 11 0, bitsOf e.arg 23 12, a, b⟩] } }

theorem exec_tileStart_of_now {n a b : Nat} {e : EvtEntry} (he : EventFires s n 3 e) (hup : (s.island 8).off = false)
    (hnow : nextOffset s.pattern s.frameOfs e.offset s.now = s.now) (hseen : spGet 0 s.clk.seen (3 * 16 * 65536 + n) ≠ s.clk.elapsed + 1)
    (hnext : nextEntryOf s (if bitsOf e.target 3 3 = 1 ∧ s.fdd = false then 1 else 0) = some (a, b)) :
    exec (.tileStart n) s = .next (armed (hadNow s (3 * 16 * 65536 + n)) e a b) := by
  have hnext' : nextEntryOf (hadNow s (3 * 16 * 65536 + n))
      (if bitsOf e.target 3 3 = 1 ∧ ¬ (hadNow s (3 * 16 * 65536 + n)).fdd = true then 1 else 0) = some (a, b) := by
    simp only [nextEntryOf_hadNow, Bool.not_eq_true]
    exact hnext
  rw [exec_tileStart, execTileStart, fireEvent_of_fires he (by simpa using hup), toBoundary_of_now hnow hseen]
  dsimp only
  rw [hnext']
  rfl

/-! ## What a run counts -/

theorem countRun_tx (s : State) (cc : Nat) (x : Sel) (sats : Nat) : (countRun s cc x sats).tx = s.tx :=
  (countRun_same cc x sats (Nat.and_self _) (Same.refl _ s)).but.tx (by decide)

theorem countRun_lnk (s : State) (cc : Nat) (x : Sel) (sats : Nat) : (countRun s cc x sats).lnk = s.lnk :=
  (countRun_same cc x sats (Nat.and_self _) (Same.refl _ s)).but.lnk (by decide)

/-! ## Downlink runs (R211, R233, R243, R244) -/

/-- What a run leaves in a buffer of two symbols: of the others the newest alone, and the symbol of the run. -/
def keepTwo (y : ReSym) (l : List ReSym) : List ReSym :=
  let old := l.filter (fun x => x.tick ≠ y.tick)
  old.drop (old.length - 1) ++ [y]

theorem length_keepTwo_le (y : ReSym) (l : List ReSym) : (keepTwo y l).length ≤ 2 := by
  rw [keepTwo, List.length_append, List.length_drop, List.length_singleton]
  omega

theorem mem_keepTwo (y : ReSym) (l : List ReSym) : y ∈ keepTwo y l := List.mem_append_right _ List.mem_cons_self

/-- A downlink run gives every path's buffer a symbol with the REs of the whole carrier. -/
theorem dlRun_buf (s : State) (cc air : Nat) (a : Arm) : ∃ (res : Nat → List Cplx) (missing : Bool),
    (∀ p, (res p).length = 12 * s.ccN cc) ∧
    (dlRun s cc air a).tx.buf = (List.range 64).foldl (fun b p =>
      spMod [] b (p * 8 + cc) (keepTwo ⟨air, s.clk.elapsed, res p, missing⟩)) s.tx.buf := by
  have hzip {γ : Type} (f : Nat → γ) : (List.range 64).zip ((List.range 64).map f) = (List.range 64).map (fun p => (p, f p)) := by
    have h := List.zip_map' (f := id) (g := f) (l := List.range 64)
    rwa [List.map_id] at h
  have htold (l : List DlSec) (u : State) : (l.foldl (fun s _ => raise (stat s (0x9200 + cc) 16) 135 cc NA) u).tx = u.tx :=
    (same_foldl (fun _ _ h => raise_same _ _ _ (by decide) (stat_same _ _ _ (Nat.and_self _) h)) (Same.refl _ u)).but.tx (by decide)
  unfold dlRun
  dsimp only
  rw [countRun_tx, htold, hzip, List.foldl_map]
  dsimp only
  refine ⟨_, _, fun p => ?_, rfl⟩
  rw [List.length_map, List.length_map, List.length_range]

theorem exec_dlRunStart_of_armed {arm : Arm} (hdl : s.dlOn cc = true) (hbf : s.bfOn cc 0 = true) (hup : (s.island 8).off = false)
    (hnow : nextSymbol s.frameOfs (s.ccMu cc) (s.ccEcp cc) (s.now + s.bfLead cc) = s.now + s.bfLead cc)
    (hseen : spGet 0 s.clk.seen (81 * 65536 + cc) ≠ s.clk.elapsed + 1) (harm : s.armFor cc 0 (s.now + s.bfLead cc) = some arm) :
    exec (.dlRunStart cc) s = .next (dlRun (hadNow s (81 * 65536 + cc)) cc (s.now + s.bfLead cc) arm) := by
  have hlead : nextSymbol s.frameOfs (s.ccMu cc) (s.ccEcp cc) (s.now + s.bfLead cc) - s.bfLead cc = s.now := by omega
  have harm' : (hadNow s (81 * 65536 + cc)).armFor cc 0 ((hadNow s (81 * 65536 + cc)).now + s.bfLead cc) = some arm := harm
  rw [exec_dlRunStart, execDlRunStart, if_pos ⟨hdl, hbf, by rw [hup]; exact Bool.false_ne_true⟩]
  dsimp only
  rw [toBoundary_of_now hlead hseen, harm']
  rfl

/-- DL_RUN_START of an armed symbol: every path's buffer holds at most two symbols, one of them the run's. -/
theorem completes_dlRunStart {arm : Arm} (hdl : s.dlOn cc = true) (hbf : s.bfOn cc 0 = true) (hup : (s.island 8).off = false)
    (hnow : nextSymbol s.frameOfs (s.ccMu cc) (s.ccEcp cc) (s.now + s.bfLead cc) = s.now + s.bfLead cc)
    (hseen : spGet 0 s.clk.seen (81 * 65536 + cc) ≠ s.clk.elapsed + 1) (harm : s.armFor cc 0 (s.now + s.bfLead cc) = some arm) :
    Completes (.dlRunStart cc) s fun t => ∀ p < 64, (spGet [] t.tx.buf (p * 8 + cc)).length ≤ 2 ∧
      ∃ y ∈ spGet [] t.tx.buf (p * 8 + cc), y.tick = s.now + s.bfLead cc ∧ y.res.length = 12 * s.ccN cc := by
  refine ⟨_, exec_dlRunStart_of_armed hdl hbf hup hnow hseen harm, fun p hp => ?_⟩
  obtain ⟨res, missing, hres, hbuf⟩ := dlRun_buf (hadNow s (81 * 65536 + cc)) cc (s.now + s.bfLead cc) arm
  rw [hbuf, spGet_foldl_spMod (nodup_pathKeys cc) (List.mem_range.2 hp)]
  exact ⟨length_keepTwo_le .., _, mem_keepTwo .., rfl, hres p⟩

/-! ## Uplink runs (R234, R237, R245) -/

/-- An uplink run leaves a stream per antenna where they pass through, or one per layer. -/
theorem ulRun_ul (s : State) (cc start tick : Nat) (a : Arm) :
    (spGet UlSym.none_ (ulRun s cc start tick a).lnk.ul cc).tick = start ∧
    (spGet UlSym.none_ (ulRun s cc start tick a).lnk.ul cc).streams.length = if s.bfExport cc = true then 64 else s.bfLayers cc 1 := by
  unfold ulRun
  dsimp only
  split
  case isTrue =>
    dsimp only
    rw [spGet_spPut_same]
    exact ⟨rfl, by rw [List.length_map, List.length_map, List.length_range]⟩
  case isFalse =>
    rw [countRun_lnk]
    dsimp only
    rw [spGet_spPut_same]
    exact ⟨rfl, by rw [List.length_map, List.length_map, List.length_range]⟩

theorem ulRun_clk (s : State) (cc start tick : Nat) (a : Arm) : (ulRun s cc start tick a).clk = s.clk :=
  (ulRun_same cc start tick a (Nat.and_self _) (Same.refl _ s)).but.clk (by decide)

theorem dropRe_clk (tick : Nat) : (dropRe s cc tick).clk = s.clk := by rw [dropRe]

theorem dropRe_re {tick p : Nat} (hp : p < 64) :
    spGet [] (dropRe s cc tick).rx.re (p * 8 + cc) = (spGet [] s.rx.re (p * 8 + cc)).filter (fun y => tick < y.tick) := by
  have h := spGet_foldl_spMod (d := []) (k := fun p => p * 8 + cc) (F := fun _ (l : List ReSym) => l.filter (fun y => tick < y.tick))
    (nodup_pathKeys cc) (List.mem_range.2 hp) s.rx.re
  unfold dropRe
  dsimp only
  exact h

theorem exec_ulRunStart_of_armed {y : ReSym} {start : Nat} {arm : Arm} (hul : s.ulOn cc = true) (hbf : s.bfOn cc 1 = true)
    (hup : (s.island 8).off = false) (hold : oldestRe s cc = some y)
    (hstart : start = symStartOf s.frameOfs (s.ccMu cc) (s.ccEcp cc) (y.tick + s.ccWinOfs cc * 2 ^ s.ccHalfbands cc))
    (harm : s.armFor cc 1 start = some arm) :
    exec (.ulRunStart cc) s = .next (dropRe (ulRun (reachElapsed s (y.at_ + 8192)) cc start y.tick arm) cc y.tick) := by
  have harm' : (reachElapsed s (y.at_ + 8192)).armFor cc 1 start = some arm := harm
  subst hstart
  rw [exec_ulRunStart, execUlRunStart, if_pos ⟨hul, hbf, by rw [hup]; exact Bool.false_ne_true⟩, hold]
  dsimp only
  rw [harm']

/-- UL_RUN_START of an armed symbol: its streams lie in the symbol buffer at the run's tick, and the antennas' REs of it are gone. -/
theorem completes_ulRunStart {y : ReSym} {start : Nat} {arm : Arm} (hul : s.ulOn cc = true) (hbf : s.bfOn cc 1 = true)
    (hup : (s.island 8).off = false) (hold : oldestRe s cc = some y)
    (hstart : start = symStartOf s.frameOfs (s.ccMu cc) (s.ccEcp cc) (y.tick + s.ccWinOfs cc * 2 ^ s.ccHalfbands cc))
    (harm : s.armFor cc 1 start = some arm) :
    Completes (.ulRunStart cc) s fun t =>
      (spGet UlSym.none_ t.lnk.ul cc).tick = start ∧
      (spGet UlSym.none_ t.lnk.ul cc).streams.length = (if s.bfExport cc = true then 64 else s.bfLayers cc 1) ∧
      t.clk.elapsed = max s.clk.elapsed (y.at_ + 8192) ∧ ∀ p < 64, ∀ x ∈ spGet [] t.rx.re (p * 8 + cc), x.tick ≠ y.tick := by
  obtain ⟨htick, hstreams⟩ := ulRun_ul (reachElapsed s (y.at_ + 8192)) cc start y.tick arm
  refine ⟨_, exec_ulRunStart_of_armed hul hbf hup hold hstart harm, htick, hstreams, ?time, fun p hp x hx => ?gone⟩
  case time => rw [dropRe_clk, ulRun_clk, reachElapsed_elapsed]
  case gone =>
    rw [dropRe_re hp] at hx
    exact Nat.ne_of_gt (of_decide_eq_true (List.mem_filter.1 hx).2)

/-! ## Weight blocks (R251, R252) -/

/-- R252: a block of another tenant's carrier is dropped whole, counted, reported and answered by the firewall. -/
theorem weightBlock_of_foreign {n : Nat} {b : List Byte} (hown : s.ccOwner (bitsOf (beAt b 0 1) 7 5) ≠ n) :
    weightBlock s (some n) b = rejectBlock s (bitsOf (beAt b 0 1) 7 5) true n := by
  unfold weightBlock
  dsimp only
  rw [if_pos (by rw [decide_eq_false hown]; exact Bool.false_ne_true)]
  rfl

theorem rejectBlock_foreign (s : State) (cc tag : Nat) :
    (rejectBlock s cc true tag).bm = s.bm ∧ Fires (rejectBlock s cc true tag) 68 ∧ Fires (rejectBlock s cc true tag) 224 :=
  ⟨(rejectBlock_same cc true tag (Nat.and_self _) (Same.refl _ s)).but.bm (by decide), (fires_raise ..).raise .., fires_raise ..⟩

/-- R251: the vectors of a good block for a downlink shadow set join those that wait to land. -/
theorem weightBlock_of_good {b : List Byte} (hdir : bitsOf (beAt b 0 1) 4 4 = 0) (htarget : bitsOf (beAt b 1 1) 7 7 = 0)
    (hmin : 1 ≤ beAt b 4 1) (hmax : beAt b 4 1 ≤ 32) (hlen : b.length = 8 + 256 * beAt b 4 1)
    (hlayer : bitsOf (beAt b 0 1) 3 0 < s.bfLayers (bitsOf (beAt b 0 1) 7 5) 0)
    (hgroups : beAt b 2 2 + beAt b 4 1 ≤ s.bfNg (bitsOf (beAt b 0 1) 7 5)) (hdl : s.dlOn (bitsOf (beAt b 0 1) 7 5) = true) :
    ∃ vs : List Landing, vs.length = beAt b 4 1 ∧
      weightBlock s none b = { s with bm := { s.bm with landing := s.bm.landing ++ vs, blocks := s.bm.blocks + 1 } } := by
  unfold weightBlock
  dsimp only
  rw [if_neg (by simp), if_neg (by simp [hdir, htarget, hmin, hmax, hlen, hlayer, hgroups, hdl])]
  exact ⟨_, by rw [List.length_map, List.length_range], rfl⟩

theorem exec_weightBlock_operator (b : List Byte) : exec (.weightBlock .operator b) s = .next (weightBlock s none b) := by
  rw [exec_weightBlock]
  rfl

/-! ## Vectors that land (R247 to R250, R253) -/

theorem storeVec_bm (cc a : Nat) (w : List Nat) : (storeVec s cc a w).bm = s.bm :=
  (storeVec_same cc a w (Nat.and_self _) (Same.refl _ s)).but.bm (by decide)

/-- A span that a tile may move lies in the SRAM, and the firewall lets it pass. -/
theorem tileSpan_spec {a n : Nat} (h : tileSpan s cc a n = true) : sramBase ≤ a ∧ tileRefused s cc a n = false := by
  simp only [tileSpan, Bool.and_eq_true, decide_eq_true_eq, Bool.not_eq_true] at h
  obtain ⟨⟨⟨⟨hbase, -⟩, -⟩, hpass⟩, -⟩ := h
  exact ⟨hbase, by simpa using hpass⟩

theorem storeVec_of_span {a : Nat} (w : List Nat) (h : tileSpan s cc a 256 = true) :
    storeVec s cc a w = sramStore s (a - sramBase) (vecBytes w) := by
  rw [storeVec, if_neg (by rw [(tileSpan_spec h).2]; exact Bool.false_ne_true), if_pos h]

/-- Bytes stored in the SRAM are read back. -/
theorem sramPeek_sramStore {a : Nat} (ha : sramBase ≤ a) (b : List Byte) : sramPeek (sramStore s (a - sramBase) b) a b.length = b := by
  refine List.ext_getElem (by rw [sramPeek, List.length_map, List.length_range]) (fun i hi hi' => ?_)
  have hkeys : ((b.zip (List.range b.length)).map (fun x => a - sramBase + x.2)).Nodup := by
    rw [← Function.comp_def (fun n => a - sramBase + n) Prod.snd, ← List.map_map, List.map_snd_zip (by rw [List.length_range])]
    exact List.nodup_range.map (fun _ _ h => Nat.add_left_cancel h)
  have hmem : (b[i], i) ∈ b.zip (List.range b.length) :=
    List.mem_iff_getElem.2 ⟨i, by simpa using hi', by simp⟩
  have hin : 0x0100000000 ≤ a + i := Nat.le_add_right_of_le ha
  have hofs : a + i - 0x0100000000 = a - sramBase + i := by
    have hbase : sramBase = 0x0100000000 := rfl
    omega
  simp only [sramPeek, List.getElem_map, List.getElem_range]
  rw [if_pos hin, hofs]
  exact spGet_foldl_spMod (k := fun x : Byte × Nat => a - sramBase + x.2) (F := fun x _ => x.1) hkeys hmem _

theorem length_vecBytes (w : List Nat) : (vecBytes w).length = 4 * w.length := by
  have hword : (List.length ∘ leBytes 4) = fun _ => 4 := by
    funext v
    rw [Function.comp_apply, leBytes, List.length_map, List.length_range]
  rw [vecBytes, List.length_flatten, List.map_map, hword, List.map_const', List.sum_replicate, Nat.mul_comm]
  rfl

/-- R253: a codebook vector's write generation rises with its landing. -/
theorem landVector_codebook {v : Landing} (h : v.target = 1) (collide : Bool) :
    (landVector s v collide).bm = { s.bm with gens := spMod 0 s.bm.gens (v.cc * 1024 + v.index) (fun g => (g + 1) % 2 ^ 16) } := by
  rw [landVector, if_pos h]
  dsimp only
  rw [storeVec_bm]

/-- The SRAM address at which a vector for the shadow set of its carrier and direction lands (R248). -/
def shadowAddr (s : State) (v : Landing) : Nat :=
  s.setBase v.cc v.dir (1 - (s.wset v.cc v.dir).cur) + (v.layer * s.bfNg v.cc + v.index) * 256

/-- A vector for a shadow set lands in the SRAM; a split block is counted and told (R249), and the set keeps its place. -/
theorem landVector_shadow {v : Landing} (h : v.target ≠ 1) : ∃ u block,
    SameBut [.evt] [.bfCcSplit, .evtRpt] (storeVec s v.cc (shadowAddr s v) v.words) u ∧
    landVector s v false = u.setWset v.cc v.dir { s.wset v.cc v.dir with block := block } := by
  rw [landVector, if_neg h]
  simp only [Bool.false_eq_true, if_false]
  refine ⟨_, _, Same.but (same_ite ?_ (Same.refl _ _)), rfl⟩
  exact raise_same _ _ _ (by decide) (bumpField_same _ _ _ _ _ (by decide) (Same.refl _ _))

/-- The vector that waits longest has been taken to land. -/
def landingTaken (s : State) (rest : List Landing) : State := { s with bm := { s.bm with landing := rest } }

theorem shadowAddr_landingTaken (rest : List Landing) (v : Landing) : shadowAddr (landingTaken s rest) v = shadowAddr s v := rfl

theorem tileSpan_landingTaken (rest : List Landing) (cc a n : Nat) : tileSpan (landingTaken s rest) cc a n = tileSpan s cc a n := rfl

theorem exec_weightVectorLand_of_waiting {v : Landing} {rest : List Landing} (h : s.bm.landing = v :: rest) (same : Bool) :
    ∃ collide, (same = false → collide = false) ∧
      exec (.weightVectorLand same) s = .next (landVector (landingTaken s rest) v collide) := by
  rw [exec_weightVectorLand, execWeightVectorLand, h]
  exact ⟨_, fun hs => by rw [hs]; exact Bool.false_and _, rfl⟩

/-- WEIGHT_VECTOR_LAND of a vector for a shadow set: it lies in the SRAM where its set does, and the current set stays. -/
theorem completes_weightVectorLand_shadow {v : Landing} {rest : List Landing} (hwait : s.bm.landing = v :: rest) (htarget : v.target ≠ 1)
    (hwords : v.words.length = 64) (hspan : tileSpan s v.cc (shadowAddr s v) 256 = true) :
    Completes (.weightVectorLand false) s fun t =>
      t.bm.landing = rest ∧ sramPeek t (shadowAddr s v) 256 = vecBytes v.words ∧ (t.wset v.cc v.dir).cur = (s.wset v.cc v.dir).cur := by
  obtain ⟨collide, hcollide, hx⟩ := exec_weightVectorLand_of_waiting hwait false
  obtain ⟨u, block, hu, hland⟩ := landVector_shadow (s := landingTaken s rest) htarget
  rw [hcollide rfl, hland] at hx
  rw [shadowAddr_landingTaken, storeVec_of_span v.words (by rw [tileSpan_landingTaken, hspan])] at hu
  refine ⟨_, hx, ?landing, ?bytes, ?current⟩
  case landing => exact congrArg Bm.landing (hu.bm (by decide))
  case bytes =>
    have hread := sramPeek_sramStore (s := landingTaken s rest) (tileSpan_spec hspan).1 (vecBytes v.words)
    rw [length_vecBytes, hwords] at hread
    rw [← hread, sramPeek, sramPeek, setWset_mem, hu.mem (by decide)]
  case current => rw [wset_setWset]; rfl

/-! ## The obligation -/

/-- Settles O24: hand-over and arming by the event that fires, runs by what they leave in the buffers of the paths and of the link, blocks by the
vectors they queue, and a vector that lands by the bytes then read. -/
theorem beamCommandsComplete : Obligations.BeamCommandsComplete := by
  unfold Obligations.BeamCommandsComplete
  refine ⟨fun s n e he hup => ?handover, fun s n e a b he hup hnow hseen hnext => ?start,
    fun s cc arm hdl hbf hup hnow hseen harm => completes_dlRunStart hdl hbf hup hnow hseen harm,
    fun s cc y start arm hul hbf hup hold hstart harm => completes_ulRunStart hul hbf hup hold hstart harm,
    fun s b cc layer hcc hdir hl htarget hmin hmax hlen hlayer hgroups hdl => ?good, fun s n b hown => ?foreign,
    fun s v rest same hwait htarget => ?codebook, fun s v rest hwait htarget hwords hspan => ?shadow⟩
  case handover =>
    refine ⟨_, by rw [exec_weightHandover, execWeightHandover, fireEvent_of_fires he (by simpa using hup)], ?_⟩
    exact wset_setWset ..
  case start =>
    exact ⟨_, exec_tileStart_of_now he hup hnow hseen hnext, List.mem_append_right _ List.mem_cons_self⟩
  case good =>
    subst hcc hl
    obtain ⟨vs, hvs, hblock⟩ := weightBlock_of_good hdir htarget hmin hmax hlen hlayer hgroups hdl
    refine ⟨_, by rw [exec_weightBlock_operator, hblock], ?_, rfl⟩
    rw [← hvs]
    exact List.length_append
  case foreign =>
    obtain ⟨hbm, htold, hrefused⟩ := rejectBlock_foreign s (bitsOf (beAt b 0 1) 7 5) n
    exact ⟨_, by rw [exec_weightBlock, execWeightBlock, weightBlock_of_foreign hown], by rw [hbm], htold, hrefused⟩
  case codebook =>
    obtain ⟨collide, -, hx⟩ := exec_weightVectorLand_of_waiting hwait same
    refine ⟨_, hx, ?_, ?_⟩
    · rw [landVector_codebook htarget]; rfl
    · rw [landVector_codebook htarget]
      dsimp only
      rw [spGet_spMod_same]
      rfl
  case shadow =>
    exact completes_weightVectorLand_shadow hwait (by rw [htarget]; exact Nat.zero_ne_one) hwords hspan

end Sys2Proof.Machine
end

section
/-!
The repair of the array: declarations and clears, paths that leave and return, resynthesis, tiles and their spare, and the PRACH combiner, and
with them the settlement of O25.
-/

namespace Sys2Proof.Machine

variable {s t : State} {p : Nat}

/-! ## Parts that the operations of the repair leave -/

theorem arrayMargin_bm (s : State) : (arrayMargin s).bm = s.bm :=
  (arrayMargin_same (Nat.and_self _) (Same.refl _ s)).but.bm (by decide)

theorem arrayMargin_fe (s : State) : (arrayMargin s).fe = s.fe :=
  (arrayMargin_same (Nat.and_self _) (Same.refl _ s)).but.fe (by decide)

theorem Fires.arrayMargin {n : Nat} (h : Fires s n) : Fires (arrayMargin s) n := by
  unfold Machine.arrayMargin
  exact Fires.ite (h.condOn ..) (h.condOff ..)

theorem enterPathState_bm (s : State) (p : Nat) : (enterPathState s p).bm = s.bm :=
  (enterPathState_same p (Nat.and_self _) (Same.refl _ s)).but.bm (by decide)

theorem dpdReturns_bm (s : State) (p : Nat) : (dpdReturns s p).bm = s.bm :=
  (dpdReturns_same p (Nat.and_self _) (Same.refl _ s)).but.bm (by decide)

theorem dpdReturns_fe (s : State) (p : Nat) : (dpdReturns s p).fe = s.fe :=
  (dpdReturns_same p (Nat.and_self _) (Same.refl _ s)).but.fe (by decide)

theorem ergPost_bm (s : State) : (ergPost s).bm = s.bm :=
  (ergPost_same (Nat.and_self _) (Same.refl _ s)).but.bm (by decide)

theorem pathOff_bm_clk (s : State) (p : Nat) : (pathOff s p).bm = s.bm ∧ (pathOff s p).clk = s.clk :=
  have b := (pathOff_same p (Nat.and_self _) (Same.refl _ s)).but
  ⟨b.bm (by decide), b.clk (by decide)⟩

theorem fgPathOff_tl_bm_clk (s : State) (p : Nat) :
    (fgPathOff s p).tl = s.tl ∧ (fgPathOff s p).bm = s.bm ∧ (fgPathOff s p).clk = s.clk :=
  have b := (fgPathOff_same p (Nat.and_self _) (Same.refl _ s)).butAny
  ⟨b.tl (by decide), b.bm (by decide), b.clk (by decide)⟩

/-! ## Declarations and clears (R257, R264, R267) -/

/-- A mask with the bit of an element written. -/
theorem bitOf_setBits_one (w i : Nat) : bitOf (setBits w i i 1) i = true := bitOf_setBits_same w i true

theorem bitOf_setBits_zero (w i : Nat) : bitOf (setBits w i i 0) i = false := bitOf_setBits_same w i false

/-- The beam matrix takes the declaration of a path (R257, R258). -/
def declared (s : State) (p : Nat) : State :=
  { s with bm := { s.bm with
      declaring := s.bm.declaring.filter (· ≠ p), mask := setBits s.bm.mask p p 1, goingOff := spPut 0 s.bm.goingOff p (s.clk.elapsed + 1),
      clearing := spPut 0 s.bm.clearing p 0, passed := spPut 0 s.bm.passed p 0, heal := ⟨1, s.clk.elapsed, s.bm.heal.late, [], 0⟩ } }

theorem exec_ergDeclared_of_declaring (h : p ∈ s.bm.declaring) :
    exec (.ergDeclared p) s = .next (arrayMargin (raise (declared s p) 71 NA p)) := by
  rw [exec_ergDeclared, execErgDeclared, if_pos h]
  rfl

theorem failPath_of_sound (hp : p < 64) (h : (s.pathFe p).failed = false) :
    ((failPath s p).pathFe p).failed = true ∧ p ∈ (failPath s p).bm.declaring := by
  have hfail : p < 64 ∧ ¬ (spGet PathFe.reset s.fe p).failed = true := ⟨hp, by rw [Bool.not_eq_true]; exact h⟩
  unfold failPath
  dsimp only
  rw [if_pos hfail, State.pathFe]
  refine ⟨by dsimp only; rw [spGet_spPut_same], ?_⟩
  split
  case isTrue hmem => exact hmem
  case isFalse => exact List.mem_append_right _ List.mem_cons_self

/-- HEAL_DECLARE and HEAL_CLEAR of the device tag act with an operator's request alone (R267). -/
theorem exec_healDeclare_device (value : Nat) :
    exec (.healDeclare 4 true value) s = .next (if bitOf value 8 ∧ bitsOf value 7 6 = 1 then failPath s (value % 64) else s) ∧
    exec (.healDeclare 4 false value) s = .next (firewall s 4) := by
  constructor
  · rw [exec_healDeclare, execHealDeclare, if_pos (.inl ⟨rfl, rfl⟩)]
  · rw [exec_healDeclare, execHealDeclare, if_neg (by simp)]

theorem exec_healClear_device (value : Nat) :
    exec (.healClear 4 true value) s = .next (if bitOf value 8 ∧ bitsOf value 7 6 = 2 then healClear s (value % 64) else s) ∧
    exec (.healClear 4 false value) s = .next (firewall s 4) := by
  constructor
  · rw [exec_healClear, execHealClear, if_pos (.inl ⟨rfl, rfl⟩)]
  · rw [exec_healClear, execHealClear, if_neg (by simp)]

/-- R264: a cleared path waits for its foreground calibration, or, where that has passed, for the boundary due from now on. -/
theorem healClear_clearing (h : p ∈ s.bm.held ∨ bitOf s.bm.mask p = true) : spGet 0 (healClear s p).bm.clearing p =
    if spGet 0 s.bm.passed p = 0 then 1 else max (spGet 0 s.bm.passed p) (s.clk.elapsed + 2 - 64) := by
  rw [healClear, if_pos h]
  exact spGet_spPut_same 0 s.bm.clearing p _

/-! ## Paths go OFF and return (R258, R264) -/

/-- The first symbol boundary of the reference numerology at or after an elapsed tick; with the timeline at a stand the tick itself. -/
def repairBoundary (s : State) (at_ : Nat) : State :=
  let s1 := reachElapsed s at_
  if s1.tlRuns then reachCount s1 (nextSymbol s1.frameOfs s1.refMu s1.refEcp s1.now) else s1

theorem repairBoundary_bm (at_ : Nat) : (repairBoundary s at_).bm = s.bm := by
  unfold repairBoundary
  dsimp only
  split
  · exact passTicks_bm ..
  · exact passTicks_bm ..

theorem le_repairBoundary (at_ : Nat) : at_ ≤ (repairBoundary s at_).clk.elapsed := by
  have hreach : at_ ≤ (reachElapsed s at_).clk.elapsed := by
    rw [reachElapsed_elapsed]
    exact Nat.le_max_right ..
  unfold repairBoundary
  dsimp only
  split
  · exact Nat.le_trans hreach (Nat.le_add_right ..)
  · exact hreach

/-- R44: a path OFF has that state, whatever turnaround follows. -/
theorem pathOff_tl (p : Nat) : (pathOff s p).tl = { s.tl with path := spPut PathState.off s.tl.path p .off } := by
  unfold pathOff startTurn
  dsimp only
  repeat' split
  all_goals simp only [startTurnAt_tl, markSilent_tl, dwellsOff_tl]

theorem pathState_fgPathOff_pathOff (p : Nat) : (fgPathOff (pathOff s p) p).pathState p = .off := by
  rw [State.pathState, (fgPathOff_tl_bm_clk ..).1, pathOff_tl]
  exact spGet_spPut_same PathState.off s.tl.path p .off

/-- A masked path is held OFF from now on. -/
def heldOff (s : State) (p : Nat) : State :=
  { s with bm := { s.bm with goingOff := spPut 0 s.bm.goingOff p 0, held := setIns p s.bm.held } }

theorem exec_ergPathOff_of_due (hp : p < 64) (h : 0 < spGet 0 s.bm.goingOff p) :
    exec (.ergPathOff p) s =
      .next (fgPathOff (pathOff (heldOff (repairBoundary s (spGet 0 s.bm.goingOff p - 1 + 64)) p) p) p) := by
  rw [exec_ergPathOff, execErgPathOff]
  exact if_pos ⟨hp, h⟩

/-- ERG_PATH_OFF: 64 ticks after its declaration or later, the path is OFF, and held there. -/
theorem completes_ergPathOff (hp : p < 64) (h : 0 < spGet 0 s.bm.goingOff p) :
    Completes (.ergPathOff p) s fun t =>
      t.pathState p = .off ∧ p ∈ t.bm.held ∧ spGet 0 t.bm.goingOff p = 0 ∧ spGet 0 s.bm.goingOff p + 63 ≤ t.clk.elapsed := by
  obtain ⟨-, hbm, hclk⟩ := fgPathOff_tl_bm_clk (pathOff (heldOff (repairBoundary s (spGet 0 s.bm.goingOff p - 1 + 64)) p) p) p
  obtain ⟨hbm', hclk'⟩ := pathOff_bm_clk (heldOff (repairBoundary s (spGet 0 s.bm.goingOff p - 1 + 64)) p) p
  refine ⟨_, exec_ergPathOff_of_due hp h, pathState_fgPathOff_pathOff p, ?_, ?_, ?_⟩
  · rw [hbm, hbm']
    exact mem_setIns.2 (.inl rfl)
  · rw [hbm, hbm']
    exact spGet_spPut_same 0 _ p 0
  · have hlate := le_repairBoundary (s := s) (spGet 0 s.bm.goingOff p - 1 + 64)
    rw [hclk, hclk']
    exact Nat.le_trans (by omega) hlate

/-! ## A turnaround leaves the declaration of its path -/

theorem pathFe_of_fe (h : t.fe = s.fe) (p : Nat) : t.pathFe p = s.pathFe p := by rw [State.pathFe, h, State.pathFe]

theorem pathFe_markSilent (p q : Nat) : (markSilent s p).pathFe q = s.pathFe q := pathFe_of_fe (markSilent_fe p) q

theorem pathFe_setInput (p q : Nat) (i : RxInput) : (setInput s p i).pathFe q = s.pathFe q := pathFe_of_fe (setInput_fe p i) q

theorem pathFe_dwellsOff (p q : Nat) : (dwellsOff s p).pathFe q = s.pathFe q :=
  pathFe_of_fe ((dwellsOff_same p (Nat.and_self _) (Same.refl _ s)).but.fe (by decide)) q

theorem pathFe_attApplies_entered (p q : Nat) (ps : PathState) (x : Tl) :
    State.pathFe { attApplies s p ps with tl := x } q = s.pathFe q :=
  pathFe_of_fe ((attApplies_same p ps (Nat.and_self _) (Same.refl _ s)).but.fe (by decide)) q

theorem failed_startTurnAt (p : Nat) (ph : PinPhase) (start : Nat) : ((startTurnAt s p ph start).pathFe p).failed = (s.pathFe p).failed := by
  unfold startTurnAt
  cases ph <;> dsimp only <;> rw [pathFe_setInput, pathFe_setFe]

theorem failed_turnStep (p : Nat) : ((turnStep s p).pathFe p).failed = (s.pathFe p).failed := by
  unfold turnStep
  dsimp only
  repeat' split
  all_goals simp only [pathFe_markSilent, pathFe_setFe]

theorem failed_finishTurn (p : Nat) : ((finishTurn s p).pathFe p).failed = (s.pathFe p).failed := by
  simp only [finishTurn, failed_turnStep]

/-- A path that enters the state of the entry now running keeps its front end's declaration. -/
theorem failed_enterPathState (p : Nat) : ((enterPathState s p).pathFe p).failed = (s.pathFe p).failed := by
  unfold enterPathState startTurn
  dsimp only
  repeat' split
  all_goals simp only [pathFe_setInput, failed_finishTurn, failed_startTurnAt, pathFe_markSilent, pathFe_dwellsOff, pathFe_attApplies_entered]

/-- A cleared path serves again: its mask bit clears, its declaration is over, and stage 1 runs with it (R264). -/
def unmasked (s : State) (p : Nat) : State :=
  let s1 : State := { s with bm := { s.bm with
      clearing := spPut 0 s.bm.clearing p 0, passed := spPut 0 s.bm.passed p 0, held := s.bm.held.filter (· ≠ p),
      mask := setBits s.bm.mask p p 0, heal := ⟨1, s.clk.elapsed, s.bm.heal.late, [], 0⟩ } }
  s1.setFe p { s1.pathFe p with failed := false, safety := [] }

theorem exec_ergPathRestored_of_due (hp : p < 64) (h : 1 < spGet 0 s.bm.clearing p) :
    exec (.ergPathRestored p) s = .next (arrayMargin (raise (enterPathState (dpdReturns
      (unmasked (repairBoundary s (spGet 0 s.bm.clearing p - 2 + 64)) p) p) p) 75 NA p)) := by
  rw [exec_ergPathRestored, execErgPathRestored]
  exact if_pos ⟨hp, h⟩

/-- ERG_PATH_RESTORED: the path is held no more and serves, with its declaration over. -/
theorem completes_ergPathRestored (hp : p < 64) (h : 1 < spGet 0 s.bm.clearing p) :
    Completes (.ergPathRestored p) s fun t =>
      p ∉ t.bm.held ∧ bitOf t.bm.mask p = false ∧ spGet 0 t.bm.clearing p = 0 ∧ t.bm.heal.stage = 1 ∧
      (t.pathFe p).failed = false ∧ Fires t 75 := by
  refine ⟨_, exec_ergPathRestored_of_due hp h, ?_⟩
  generalize repairBoundary s (spGet 0 s.bm.clearing p - 2 + 64) = u
  have hbm : (arrayMargin (raise (enterPathState (dpdReturns (unmasked u p) p) p) 75 NA p)).bm = (unmasked u p).bm := by
    rw [arrayMargin_bm, raise_bm, enterPathState_bm, dpdReturns_bm]
  rw [hbm]
  refine ⟨?held, bitOf_setBits_zero .., spGet_spPut_same 0 u.bm.clearing p 0, rfl, ?failed, (fires_raise ..).arrayMargin⟩
  case held => exact fun hmem => of_decide_eq_true (List.mem_filter.1 hmem).2 rfl
  case failed =>
    rw [pathFe_of_fe (arrayMargin_fe _), pathFe_of_fe (raise_fe ..), failed_enterPathState, pathFe_of_fe (dpdReturns_fe ..), unmasked,
      pathFe_setFe]

/-! ## Resynthesis (R260 to R262) -/

/-- Stage 2 over, its end is told, and its lateness where it is late (R261). -/
theorem resynthDone_shape (s : State) : ∃ (u : State) (late : Bool), u.bm.heal.stage = 0 ∧
    resynthDone s = if late then raise (raise u 72 NA NA) 73 NA NA else raise u 72 NA NA := by
  refine ⟨_, _, ?_, rfl⟩
  rfl

theorem resynthDone_ends (s : State) : (resynthDone s).bm.heal.stage = 0 ∧ Fires (resynthDone s) 72 := by
  obtain ⟨u, late, hstage, hdone⟩ := resynthDone_shape s
  rw [hdone]
  refine ⟨?_, Fires.ite ((fires_raise ..).raise ..) (fires_raise ..)⟩
  rw [apply_ite State.bm, raise_bm, raise_bm, ite_self, hstage]

/-! ## Tiles (R266, R605) -/

/-- The beam matrix as tile `k` fails: it is retired, and every position that it served is dead from now on. -/
def tileLost (s : State) (k : Nat) : State :=
  { s with bm := { s.bm with
      retired := setIns k s.bm.retired, spare := if decide (s.bm.spare = some k) then none else s.bm.spare,
      dead := ((List.range 8).filter (fun j => s.bm.map.getD j 9 = k)).foldl (fun d j => spPut 0 d j (s.clk.elapsed + 1)) s.bm.dead } }

/-- The loss of tile `k` is kept, its sub-domain goes down, and it is reported with the use of its pool. -/
def tileReported (s : State) (k : Nat) : State :=
  spareUsed (raise (subDown { s with nv := { s.nv with tileRetired := s.bm.retired } } (subTile k)) 70 NA NA) 3 k

/-- Between the two, runs in progress lose the groups of the failed tile; whether admission repeats, none of it alters the beam matrix. -/
theorem tileFail_shape (s : State) (k : Nat) : ∃ (zero : State → Nat → State) (c : Prop) (_ : Decidable c),
    (∀ u cc, (zero u cc).bm = u.bm) ∧
    tileFail s k = if c then readmit (tileReported ((List.range 8).foldl zero (tileLost s k)) k)
      else tileReported ((List.range 8).foldl zero (tileLost s k)) k := by
  refine ⟨_, _, _, fun u cc => ?_, rfl⟩
  dsimp only
  split_ifs <;> rfl

theorem tileReported_bm (s : State) (k : Nat) : (tileReported s k).bm = s.bm := by
  have hused (u : State) : (spareUsed u 3 k).bm = u.bm := (spareUsed_same 3 k (Nat.and_self _) (Same.refl _ u)).but.bm (by decide)
  rw [tileReported, hused, raise_bm]
  rfl

theorem fires_tileReported (s : State) (k : Nat) : Fires (tileReported s k) 70 := by
  rw [tileReported]
  exact (fires_raise ..).spareUsed ..

theorem tileFail_bm (s : State) (k : Nat) : (tileFail s k).bm = (tileLost s k).bm := by
  obtain ⟨zero, c, _, hzero, hfail⟩ := tileFail_shape s k
  have hreadmit (u : State) : (readmit u).bm = u.bm := rfl
  have hfold : ((List.range 8).foldl zero (tileLost s k)).bm = (tileLost s k).bm :=
    List.foldlRecOn (motive := fun (u : State) => u.bm = (tileLost s k).bm) _ _ rfl (fun u hu cc _ => (hzero u cc).trans hu)
  rw [hfail, apply_ite State.bm, hreadmit, ite_self, tileReported_bm, hfold]

theorem fires_tileFail (s : State) (k : Nat) : Fires (tileFail s k) 70 := by
  obtain ⟨zero, c, _, -, hfail⟩ := tileFail_shape s k
  have hreadmit (u : State) : (readmit u).evt = u.evt := rfl
  have htold := fires_tileReported ((List.range 8).foldl zero (tileLost s k)) k
  rw [hfail]
  exact Fires.ite (htold.of_evt (hreadmit _)) htold

/-- A position that the failed tile served is dead from now on. -/
theorem tileFail_dead {j k : Nat} (hj : j < 8) (h : s.bm.map.getD j 9 = k) : spGet 0 (tileFail s k).bm.dead j = s.clk.elapsed + 1 := by
  have hnodup : ((List.range 8).filter (fun j => s.bm.map.getD j 9 = k)).Nodup := List.nodup_range.filter _
  rw [tileFail_bm]
  exact spGet_foldl_spMod (k := fun j => j) (F := fun _ _ => s.clk.elapsed + 1) (by rwa [List.map_id'])
    (List.mem_filter.2 ⟨List.mem_range.2 hj, decide_eq_true h⟩) s.bm.dead

/-- TILE_FAIL of a tile in service. -/
theorem completes_tileFail {k : Nat} (hk : k < 9) (h : k ∉ s.bm.retired) :
    Completes (.tileFail k) s fun t =>
      k ∈ t.bm.retired ∧ Fires t 70 ∧ (s.bm.spare = some k → t.bm.spare = none) ∧
      ∀ j < 8, s.bm.map.getD j 9 = k → spGet 0 t.bm.dead j = s.clk.elapsed + 1 := by
  refine ⟨tileFail s k, by rw [exec_tileFail, execTileFail, if_pos ⟨hk, h⟩], ?_, fires_tileFail s k, fun hspare => ?_,
    fun j hj hmap => tileFail_dead hj hmap⟩
  · rw [tileFail_bm]
    exact mem_setIns.2 (.inl rfl)
  · rw [tileFail_bm]
    exact if_pos (decide_eq_true hspare)

/-- R266: 2,048 ticks after the failure the spare serves the position that waits longest. -/
theorem exec_tileSpareTakeover_of_spare {j at_ sp : Nat} {rest : List (Nat × Nat)} (hdead : s.bm.dead = (j, at_) :: rest)
    (hspare : s.bm.spare = some sp) :
    exec .tileSpareTakeover s = .next { reachElapsed s (at_ - 1 + 2048) with
      bm := { s.bm with map := s.bm.map.set j sp, spare := none, dead := rest } } := by
  rw [exec_tileSpareTakeover, execTileSpareTakeover, hdead, hspare]
  rfl

/-! ## The PRACH combiner (R265) -/

theorem foldl_max_ne_zero {l : List Nat} {x : Nat} (hx : x ∈ l) (h : x ≠ 0) : l.foldl max 0 ≠ 0 := by
  rw [List.foldl_eq_foldr]
  exact Nat.ne_of_gt (Nat.lt_of_lt_of_le (Nat.pos_of_ne_zero h) (List.le_max_of_le' 0 hx (Nat.le_refl x)))

/-- With an occasion at some antenna, there is a stream per antenna where they pass through, or one per codebook beam of the extractor's list. -/
theorem prachCombine_streams {j : Nat} (hp : p < 64) (h : (spGet ReSym.none_ s.rx.prach (p * 4 + j)).tick ≠ 0) :
    (spGet UlSym.none_ (prachCombine s j).lnk.prach j).streams.length = if bitOf (s.prachCfg j) 10 = true then 64 else
      ((List.range 16).filter (fun m => beAt (s.obytes (0x5910 + j) 1) (2 * m) 2 < 0x400)).length := by
  have htick : (((List.range 64).map (fun p => spGet ReSym.none_ s.rx.prach (p * 4 + j))).map (·.tick)).foldl max 0 ≠ 0 :=
    foldl_max_ne_zero (List.mem_map_of_mem (List.mem_map_of_mem (List.mem_range.2 hp))) h
  unfold prachCombine
  dsimp only
  rw [if_neg htick]
  split
  case isTrue =>
    dsimp only
    rw [spGet_spPut_same, List.length_map, List.length_map, List.length_range]
  case isFalse =>
    rw [countRun_lnk]
    dsimp only
    rw [spGet_spPut_same, List.length_map, List.length_map, List.length_map, List.filter_map, List.length_map]
    rfl

theorem exec_prachCombine_of_up {j : Nat} (hj : j < 4) (hup : (s.island 8).off = false) :
    exec (.prachCombine j) s = .next (prachCombine s j) := by
  rw [exec_prachCombine, execPrachCombine, if_pos ⟨hj, by rw [hup]; exact Bool.false_ne_true⟩]

/-! ## The obligation -/

/-- Settles O25: declarations and clears by the beam matrix they leave, paths by the boundary they wait for and the turnaround that follows,
tiles by the positions that fail with them, and the combiner by its streams. -/
theorem arrayRepairCommandsComplete : Obligations.ArrayRepairCommandsComplete := by
  unfold Obligations.ArrayRepairCommandsComplete
  refine ⟨fun s p hdecl => ?declared, fun s p hp hdue => completes_ergPathOff hp hdue, fun s hstage => ?start, fun s hstage => ?done,
    fun s p value hgo hop hpath hsound => ?declare, fun s p value hgo hop hpath hmasked => ?clear, fun s value => ?noDeclare,
    fun s value => ?noClear, fun s p hp hdue => completes_ergPathRestored hp hdue, fun s k hk hserves => completes_tileFail hk hserves,
    fun s j at_ rest sp hdead hspare => ?takeover, fun s j p hj hup hp htick hpass => ?antennas,
    fun s j p hj hup hp htick hbeams => ?beams⟩
  case declared =>
    refine ⟨_, exec_ergDeclared_of_declaring hdecl, ?_⟩
    dsimp only
    rw [arrayMargin_bm, raise_bm]
    exact ⟨fun hmem => of_decide_eq_true (List.mem_filter.1 hmem).2 rfl, bitOf_setBits_one .., rfl, rfl, (fires_raise ..).arrayMargin⟩
  case start =>
    refine ⟨_, by rw [exec_ergResynthStart, execErgResynthStart, if_pos hstage], ?_⟩
    dsimp only
    rw [ergPost_bm]
  case done =>
    exact ⟨_, by rw [exec_ergResynthDone, execErgResynthDone, if_pos hstage], resynthDone_ends _⟩
  case declare =>
    subst hpath
    exact ⟨_, by rw [(exec_healDeclare_device value).1, if_pos ⟨hgo, hop⟩], failPath_of_sound (Nat.mod_lt _ (by decide)) hsound⟩
  case clear =>
    subst hpath
    exact ⟨_, by rw [(exec_healClear_device value).1, if_pos ⟨hgo, hop⟩], healClear_clearing hmasked⟩
  case noDeclare => exact ⟨_, (exec_healDeclare_device value).2, raise_bm .., raise_fe .., fires_raise ..⟩
  case noClear => exact ⟨_, (exec_healClear_device value).2, raise_bm .., fires_raise ..⟩
  case takeover => exact ⟨_, exec_tileSpareTakeover_of_spare hdead hspare, rfl, rfl, rfl, reachElapsed_elapsed _⟩
  case antennas =>
    refine ⟨_, exec_prachCombine_of_up hj hup, ?_⟩
    dsimp only
    rw [prachCombine_streams hp htick, if_pos hpass]
  case beams =>
    refine ⟨_, exec_prachCombine_of_up hj hup, ?_⟩
    dsimp only
    rw [prachCombine_streams hp htick, if_neg (by rw [hbeams]; exact Bool.false_ne_true)]

end Sys2Proof.Machine
end

section
/-!
The predistortion of the array: what each of its operations leaves of a unit, bank writes, hand-over, ramps, probation, divergence and the
fall-backs, and with them the settlement of O26.
-/

namespace Sys2Proof.Machine

variable {s t : State} {p : Nat}

/-! ## Units -/

theorem dpd_of_dpds (h : t.dpds = s.dpds) (p : Nat) : t.dpd p = s.dpd p := by rw [State.dpd, h, State.dpd]

@[simp] theorem raise_dpd (a b c q : Nat) : (raise s a b c).dpd q = s.dpd q := dpd_of_dpds (raise_dpds ..) q

theorem statPath_dpd (p item n q : Nat) : (statPath s p item n).dpd q = s.dpd q :=
  dpd_of_dpds ((statPath_same p item n (Nat.and_self _) (Same.refl _ s)).but.dpds (by decide)) q

/-- A unit set with the bank and the ramps that it had reads back as it was set. -/
theorem dpd_setDpd_of_steady {x : Dpd} (hbank : x.bank = (s.dpd p).bank) (hramps : x.ramps = (s.dpd p).ramps) :
    (s.setDpd p x).dpd p = x := by
  refine (spGet_spPut_same ..).trans (if_pos ⟨?_, ?_⟩)
  · exact hbank.symm
  · exact hramps.symm

theorem Fires.setDpd {k : Nat} (h : Fires s k) (p : Nat) (x : Dpd) : Fires (s.setDpd p x) k := h.of_evt (setDpd_evt ..)

/-! ## Stale causes and pending paths (R292, R295) -/

/-- A stale cause set or cleared leaves the rest of the unit. -/
theorem setStale_dpd (cause : Nat) (b : Bool) :
    (setStale s p cause b).dpd p = { s.dpd p with stale := setBits (s.dpd p).stale cause cause (b2n b) } := by
  have hmark (u : State) (k : Nat) (c : Bool) : (markIf u k c).dpd p = u.dpd p :=
    dpd_of_dpds ((markIf_same k c (Nat.and_self _) (Same.refl _ u)).but.dpds (by decide)) p
  have hset (x : Dpd) (hbank : x.bank = (s.dpd p).bank) (hramps : x.ramps = (s.dpd p).ramps) : (s.setDpd p x).dpd p = x :=
    dpd_setDpd_of_steady hbank hramps
  unfold setStale
  dsimp only
  split
  · rw [raise_dpd, hmark]
    exact hset _ rfl rfl
  · rw [hmark]
    exact hset _ rfl rfl

theorem setStale_clk (cause : Nat) (b : Bool) : (setStale s p cause b).clk = s.clk :=
  (setStale_same p cause b (Nat.and_self _) (Same.refl _ s)).but.clk (by decide)

theorem setStale_disp (cause : Nat) (b : Bool) : (setStale s p cause b).disp = s.disp :=
  (setStale_same p cause b (Nat.and_self _) (Same.refl _ s)).but.disp (by decide)

theorem Fires.setStale {k : Nat} (h : Fires s k) (p cause : Nat) (b : Bool) : Fires (setStale s p cause b) k := by
  have hmark (x : Dpd) (i : Nat) (c : Bool) : Fires (markIf (s.setDpd p x) i c) k :=
    (h.setDpd p x).of_evt ((markIf_same i c (Nat.and_self _) (Same.refl _ _)).but.evt (by decide))
  unfold Machine.setStale
  exact Fires.ite ((hmark ..).raise ..) (hmark ..)

theorem makePending_dpd (p q : Nat) : (makePending s p).dpd q = s.dpd q :=
  dpd_of_dpds ((makePending_same p (Nat.and_self _) (Same.refl _ s)).but.dpds (by decide)) q

theorem Fires.makePending {k : Nat} (h : Fires s k) (p : Nat) : Fires (makePending s p) k :=
  h.of_evt ((makePending_same p (Nat.and_self _) (Same.refl _ s)).but.evt (by decide))

theorem pending_makePending (s : State) (p : Nat) : 0 < spGet 0 (makePending s p).disp.pending p := by
  unfold makePending
  split
  case isTrue =>
    dsimp only
    rw [spGet_spPut_same]
    exact Nat.succ_pos _
  case isFalse h => exact Nat.pos_of_ne_zero h

/-- A path made stale and pending: the cause is set, and the rest of its unit stays (R290, R292). -/
theorem staleAndPending_dpd (cause : Nat) :
    (staleAndPending s p cause).dpd p = { s.dpd p with stale := setBits (s.dpd p).stale cause cause 1 } := by
  rw [staleAndPending, makePending_dpd, setStale_dpd]
  rfl

theorem pending_staleAndPending (s : State) (p cause : Nat) : 0 < spGet 0 (staleAndPending s p cause).disp.pending p :=
  pending_makePending ..

theorem Fires.staleAndPending {k : Nat} (h : Fires s k) (p cause : Nat) : Fires (staleAndPending s p cause) k :=
  (h.setStale p cause true).makePending p

/-! ## Thermal updates (R274) -/

/-- An update sets the poles and Θ, the sum of T_MOD and both, and beside them at most a stale cause. -/
theorem thermalUpdate_dpd (s : State) (p msq mabs : Nat) : ∃ (n0 n1 : Int) (stale : Nat), (thermalUpdate s p msq mabs).dpd p =
    { s.dpd p with t0 := n0, t1 := n1, theta := (s.dpd p).tmod * 2 ^ 18 + n0 + n1, stale := stale } := by
  have hset (n0 n1 th : Int) : (s.setDpd p { s.dpd p with t0 := n0, t1 := n1, theta := th }).dpd p =
      { s.dpd p with t0 := n0, t1 := n1, theta := th } := dpd_setDpd_of_steady rfl rfl
  unfold thermalUpdate
  dsimp only
  split
  · split
    · exact ⟨_, _, (s.dpd p).stale, hset ..⟩
    · exact ⟨_, _, _, by rw [setStale_dpd, hset]⟩
  · exact ⟨_, _, _, by rw [setStale_dpd, hset]⟩

theorem thermalUpdate_clk (msq mabs : Nat) : (thermalUpdate s p msq mabs).clk = s.clk :=
  (thermalUpdate_same p msq mabs (Nat.and_self _) (Same.refl _ s)).but.clk (by decide)

theorem le_ceilDiv_mul {b : Nat} (hb : 0 < b) (n : Nat) : n ≤ ceilDiv n b * b := by
  have hlt : n + b - 1 < (n + b - 1) / b * b + b := by
    have := Nat.div_add_mod' (n + b - 1) b
    have := Nat.mod_lt (n + b - 1) hb
    omega
  rw [ceilDiv, if_neg (Nat.ne_of_gt hb)]
  omega

theorem completes_dpdThermalUpdate (hp : p < 64) (hfree : s.dpdHeld p = false) (msq mabs : Unit) :
    Completes (.dpdThermalUpdate p msq mabs) s fun t =>
      (t.dpd p).theta = (s.dpd p).tmod * 2 ^ 18 + (t.dpd p).t0 + (t.dpd p).t1 ∧ t.clk.count % 512 = 0 := by
  refine ⟨_, by rw [exec_dpdThermalUpdate, execDpdThermalUpdate, if_pos ⟨hp, ne_true_of_eq_false hfree⟩], ?_, ?_⟩
  · obtain ⟨n0, n1, stale, h⟩ := thermalUpdate_dpd (toBoundary s 94 p (fun t => ceilDiv t 512 * 512)) p _ _
    rw [h]
    rfl
  · obtain ⟨n, hn⟩ := toBoundary_count (s := s) (f := fun t => ceilDiv t 512 * 512) (le_ceilDiv_mul (by decide)) 94 p
    rw [thermalUpdate_clk, hn]
    exact Nat.mul_mod_left ..

/-! ## Bank writes (R278, R279) -/

theorem word_setWord (x : Dpd) (b i v : Nat) :
    (x.setWord b i v).word b i = if 4 ≤ i ∧ i < 16 then x.word b i else v % 2 ^ 32 := by
  unfold Dpd.setWord
  split
  · rfl
  · exact spGet_spPut_same ..

/-- A write of a word leaves the bank in force and the state. -/
theorem setWord_steady (x : Dpd) (b i v : Nat) : (x.setWord b i v).bank = x.bank ∧ (x.setWord b i v).ramps = x.ramps := by
  unfold Dpd.setWord
  split
  · exact ⟨rfl, rfl⟩
  · exact ⟨rfl, rfl⟩

theorem exec_dpdBankWrite_of_on {tag addr value b i : Nat} (haddr : bankAddr addr = some (p, b, i)) (hon : (s.island (p / 8)).off = false) :
    exec (.dpdBankWrite tag addr value) s = .next
      (if s.tagDeviceOrD2 tag ∧ (s.dpd p).writable b s.clk.elapsed ∧ ¬ s.dpdHeld p then s.setDpd p ((s.dpd p).setWord b i value)
       else bankReject s p tag) := by
  rw [exec_dpdBankWrite, execDpdBankWrite, haddr]
  dsimp only
  rw [if_neg (ne_true_of_eq_false hon), apply_ite Host.Outcome.next]

/-- A write that is not performed leaves the unit, is counted, and is reported (R279). -/
theorem bankReject_rejects (s : State) (p tag : Nat) : (bankReject s p tag).dpd p = s.dpd p ∧
    rd (bankReject s p tag) .dpdWrej [p / 8, p % 8] = min 0xFFFFFFFF (rd s .dpdWrej [p / 8, p % 8] + 1) ∧ Fires (bankReject s p tag) 83 := by
  have hapart : (regRow .evtRpt).addr + regSpan .evtRpt < (regRow .dpdWrej).addr ∨
      (regRow .dpdWrej).addr + regSpan .dpdWrej < (regRow .evtRpt).addr := by decide
  refine ⟨dpd_of_dpds ((bankReject_same p tag (Nat.and_self _) (Same.refl _ s)).but.dpds (by decide)) p, ?_, ?_⟩
  · unfold bankReject
    dsimp only
    split
    · rw [rd_raise hapart, rd_bump _ _ _ _ (by decide)]
    · rw [firewall, rd_raise hapart, rd_raise hapart, rd_bump _ _ _ _ (by decide)]
  · unfold bankReject
    exact Fires.ite (fires_raise ..) ((fires_raise ..).raise ..)

/-! ## Hand-over (R280, R281) -/

theorem refuseHo_dpd (s : State) (p result : Nat) : (refuseHo s p result).dpd p = { s.dpd p with result := result, checking := none } := by
  rw [refuseHo, raise_dpd]
  exact dpd_setDpd_of_steady rfl rfl

theorem fires_refuseHo (s : State) (p result : Nat) : Fires (refuseHo s p result) 76 := fires_raise ..

theorem exec_dpdHoRequest_of_go {tag value : Nat} (hp : p < 64) (htag : s.tagDeviceOrD2 tag = true) (hgo : bitOf value 0 = true)
    (hon : s.regOff .dpdHo [p / 8, p % 8] = false) : exec (.dpdHoRequest tag p value) s = .next (requestHo s p) := by
  rw [exec_dpdHoRequest, execDpdHoRequest, if_pos hp, tagged_of_may hon htag, if_pos hgo]

theorem exec_dpdHoCheckDone_of_checking (hp : p < 64) (hcheck : (s.dpd p).checking ≠ none) (hfree : s.dpdHeld p = false) :
    exec (.dpdHoCheckDone p) s = .next (hoCheckDone s p) := by
  rw [exec_dpdHoCheckDone, execDpdHoCheckDone, if_pos ⟨hp, Option.isSome_iff_ne_none.2 hcheck, ne_true_of_eq_false hfree⟩]

/-- A unit is ready for a hand-over in IDENTITY and GOOD, with no divergence to be processed. -/
theorem not_busy_iff {x : Dpd} : ¬ ((x.st ≠ .identity ∧ x.st ≠ .good) ∨ x.due ≠ .none_) ↔
    (x.st = .identity ∨ x.st = .good) ∧ x.due = .none_ := by
  tauto

/-- The unit when the set of its shadow has been accepted. -/
def accepted (s : State) (p : Nat) : Dpd :=
  let x := s.dpd p
  { x with st := .ramp, bank := x.shadow, oldIdent := x.ident, ident := false, rampStep := 0, rampLen := rf s .dpdCtrl [p / 8, p % 8] 10 3,
           second := false, result := 1, checking := none, locked := true, eref := histMean x.hist, overN := 0, probSum := 0, probN := 0 }

section Ready

variable (hst : (s.dpd p).st = .identity ∨ (s.dpd p).st = .good) (hdue : (s.dpd p).due = .none_)
include hst hdue

theorem requestHo_of_ready (hcheck : (s.dpd p).checking = none) (hfree : s.dpdHeld p = false) :
    requestHo s p = s.setDpd p { s.dpd p with checking := some s.clk.elapsed } := by
  refine if_neg ?_
  rintro (hbusy | hchecks | hdiverged | hheld)
  · exact not_busy_iff.2 ⟨hst, hdue⟩ (.inl hbusy)
  · exact Option.isSome_iff_ne_none.1 hchecks hcheck
  · exact hdiverged hdue
  · exact ne_true_of_eq_false hfree hheld

theorem hoCheckDone_of_sound (hbound : boundFails (s.dpd p) (s.dpd p).shadow = false)
    (hgain : gainFails s p (s.dpd p) (s.dpd p).shadow = false) : hoCheckDone s p = setStale (s.setDpd p (accepted s p)) p 1 false := by
  unfold hoCheckDone
  dsimp only
  rw [if_neg (not_busy_iff.2 ⟨hst, hdue⟩), if_neg (ne_true_of_eq_false hbound), if_neg (ne_true_of_eq_false hgain)]
  rfl

theorem hoCheckDone_of_bound (hbound : boundFails (s.dpd p) (s.dpd p).shadow = true) : hoCheckDone s p = refuseHo s p 3 := by
  unfold hoCheckDone
  dsimp only
  rw [if_neg (not_busy_iff.2 ⟨hst, hdue⟩), if_pos hbound]

end Ready

/-- A request in any other state, during a check or while the unit is held is refused (R280, R288, assumption 154). -/
theorem requestHo_of_busy (h : ((s.dpd p).st ≠ .identity ∧ (s.dpd p).st ≠ .good) ∨ (s.dpd p).checking ≠ none ∨
    (s.dpd p).due ≠ .none_ ∨ s.dpdHeld p = true) : requestHo s p = refuseHo s p 2 :=
  if_pos (by rwa [Option.isSome_iff_ne_none])

theorem hoCheckDone_of_due (hdue : (s.dpd p).due ≠ .none_) : hoCheckDone s p = refuseHo s p 2 := if_pos (.inr hdue)

/-! ## Ramps (R281, R283) -/

theorem completes_dpdRampStep (hp : p < 64) (hst : (s.dpd p).st = .ramp) (hdue : (s.dpd p).due = .none_) (hrun : s.tlRuns = true)
    (hpath : s.pathState p ≠ .off) (hair : (s.pathFe p).blanked = false) :
    Completes (.dpdRampStep p) s fun t =>
      (t.dpd p).rampStep = (s.dpd p).rampStep + 1 ∧
      (t.dpd p).st = (if (s.dpd p).rampLen ≤ (s.dpd p).rampStep + 1 then .probation else .ramp) := by
  have hdo : p < 64 ∧ ((s.dpd p).st = .ramp ∨ (s.dpd p).st = .backoffRamp) ∧ (s.dpd p).due = .none_ ∧ s.tlRuns = true ∧
      s.pathState p ≠ .off ∧ ¬ (s.pathFe p).blanked = true := ⟨hp, .inl hst, hdue, hrun, hpath, ne_true_of_eq_false hair⟩
  exact ⟨_, by rw [exec_dpdRampStep]; exact (if_pos hdo).trans (if_pos hst), dpd_setDpd_rampStep .., dpd_setDpd_st ..⟩

/-! ## Divergence windows (R284, R285) -/

/-- What the windows that counted have left in a unit. -/
def Dpd.windows (x : Dpd) : Int × List Int := (x.ew, x.hist)

theorem setDpd_windows (x : Dpd) : ((s.setDpd p x).dpd p).windows = x.windows := by
  rw [Dpd.windows, dpd_setDpd_ew, dpd_setDpd_hist, Dpd.windows]

/-- Divergence leaves the windows that led to it. -/
theorem divergence_windows : ((divergence s p).dpd p).windows = (s.dpd p).windows := by
  unfold divergence
  dsimp only
  split <;> exact setDpd_windows _

/-- A window that counts is published, and enters the last 64. -/
theorem countWindow_windows (ew : Int) : ((countWindow s p ew).dpd p).windows = (ew, (ew :: (s.dpd p).hist).take 64) := by
  have hpend (c : Prop) [Decidable c] (u : State) : ((if c then makePending u p else u).dpd p).windows = (u.dpd p).windows := by
    split
    · rw [makePending_dpd]
    · rfl
  have hdiv (c : Prop) [Decidable c] (u : State) : ((if c then divergence u p else u).dpd p).windows = (u.dpd p).windows := by
    split
    · exact divergence_windows
    · rfl
  exact (hdiv ..).trans ((hpend ..).trans (setDpd_windows _))

theorem exec_dpdDivergenceWindow_of_counts {age : Nat} (hp : p < 64) (hsound : (p / 8, p % 8) ∉ s.svc.faulty) (hfree : s.dpdHeld p = false)
    (hcounts : windowCounts s p age = true) (z : List Cplx) :
    exec (.dpdDivergenceWindow p z age) s = .next (countWindow s p (windowError s p z age)) := by
  rw [exec_dpdDivergenceWindow, execDpdDivergenceWindow, if_pos ⟨hp, hcounts, hsound, ne_true_of_eq_false hfree⟩]

/-! ## The end of probation (R282, R287) -/

/-- The unit whose set has passed probation. -/
def proven (x : Dpd) : Dpd :=
  { x with st := .good, locked := false, eref := if x.probN = 0 then x.eref else x.probSum / x.probN, second := false, backoff := false,
           overN := 0 }

/-- The state at the end `n` of a probation that leads to GOOD, its stale causes cleared. -/
def goodAt (s : State) (p n : Nat) : State :=
  let u := (reachCount s n).setDpd p (proven (s.dpd p))
  setStale (if scaleOff ((s.dpd p).scale (s.dpd p).bank) (cfrLevels u p).2 then u else setStale u p 2 false) p 4 false

/-- Stale causes set or cleared leave the state, the lock and the time. -/
theorem setStale_leaves (cause : Nat) (b : Bool) : ((setStale s p cause b).dpd p).st = (s.dpd p).st ∧
    ((setStale s p cause b).dpd p).locked = (s.dpd p).locked ∧ (setStale s p cause b).clk = s.clk := by
  rw [setStale_dpd]
  exact ⟨rfl, rfl, setStale_clk ..⟩

theorem ite_setStale_leaves (c : Prop) [Decidable c] (cause : Nat) (b : Bool) :
    ((if c then s else setStale s p cause b).dpd p).st = (s.dpd p).st ∧
    ((if c then s else setStale s p cause b).dpd p).locked = (s.dpd p).locked ∧ (if c then s else setStale s p cause b).clk = s.clk := by
  split
  · exact ⟨rfl, rfl, rfl⟩
  · exact setStale_leaves ..

theorem goodAt_leaves (s : State) (p n : Nat) :
    ((goodAt s p n).dpd p).st = .good ∧ ((goodAt s p n).dpd p).locked = false ∧ (goodAt s p n).clk = (reachCount s n).clk := by
  unfold goodAt
  obtain ⟨hst, hlocked, hclk⟩ := setStale_leaves (p := p) 4 false
  obtain ⟨hst', hlocked', hclk'⟩ := ite_setStale_leaves (s := (reachCount s n).setDpd p (proven (s.dpd p))) (p := p)
    (scaleOff ((s.dpd p).scale (s.dpd p).bank) (cfrLevels ((reachCount s n).setDpd p (proven (s.dpd p))) p).2 = true) 2 false
  exact ⟨(hst.trans hst').trans (dpd_setDpd_st ..), (hlocked.trans hlocked').trans (dpd_setDpd_locked ..), hclk.trans hclk'⟩

section Probation

variable {n : Nat} (hp : p < 64) (hst : (s.dpd p).st = .probation) (hdue : (s.dpd p).due = .none_) (hrun : s.tlRuns = true)
  (hfree : s.dpdHeld p = false) (hend : nthTxStart s p (rf s .dpdCtrl [p / 8, p % 8] 18 11) (s.dpd p).probAt = some n)
include hp hst hdue hrun hfree hend

theorem completes_dpdProbationEnd_good (hback : (s.dpd p).backoff = false) :
    Completes (.dpdProbationEnd p) s fun t =>
      (t.dpd p).st = .good ∧ (t.dpd p).locked = false ∧ t.clk.count = max s.clk.count n ∧ Fires t 77 := by
  obtain ⟨hgood, hunlocked, hclk⟩ := goodAt_leaves s p n
  have hexec : exec (.dpdProbationEnd p) s = .next
      (if (s.dpd p).second then raise (raise (goodAt s p n) 77 NA p) 80 NA p else raise (goodAt s p n) 77 NA p) := by
    rw [exec_dpdProbationEnd, execDpdProbationEnd]
    dsimp only
    rw [if_pos ⟨hp, hst, hdue, hrun, ne_true_of_eq_false hfree⟩, hend]
    dsimp only
    rw [if_neg (fun h => ne_true_of_eq_false hback h.1)]
    rfl
  refine ⟨_, hexec, ?_⟩
  dsimp only
  split
  · rw [raise_dpd, raise_dpd, raise_clk, raise_clk, hclk]
    exact ⟨hgood, hunlocked, reachCount_count n, (fires_raise ..).raise ..⟩
  · rw [raise_dpd, raise_clk, hclk]
    exact ⟨hgood, hunlocked, reachCount_count n, fires_raise ..⟩

theorem completes_dpdProbationEnd_backoff (hback : (s.dpd p).backoff = true) (hfirst : (s.dpd p).second = false) :
    Completes (.dpdProbationEnd p) s fun t =>
      (t.dpd p).st = .backoffRamp ∧ (t.dpd p).backoffStep = 0 ∧ (t.dpd p).rampLen = rf s .dpdCtrl [p / 8, p % 8] 10 3 := by
  have hexec : exec (.dpdProbationEnd p) s = .next ((reachCount s n).setDpd p { s.dpd p with
      st := .backoffRamp, backoffStep := 0, rampLen := rf s .dpdCtrl [p / 8, p % 8] 10 3 }) := by
    rw [exec_dpdProbationEnd, execDpdProbationEnd]
    dsimp only
    rw [if_pos ⟨hp, hst, hdue, hrun, ne_true_of_eq_false hfree⟩, hend]
    dsimp only
    rw [if_pos ⟨hback, ne_true_of_eq_false hfirst⟩]
    rfl
  exact ⟨_, hexec, dpd_setDpd_st .., dpd_setDpd_backoffStep .., dpd_setDpd_rampLen ..⟩

end Probation

/-! ## Fall-back and identity (R286, R287) -/

theorem completes_dpdFallback (hp : p < 64) (hdue : (s.dpd p).due = .fallback) (hfree : s.dpdHeld p = false) :
    Completes (.dpdFallback p) s fun t =>
      (t.dpd p).st = .fallback ∧ (t.dpd p).bank = 1 - (s.dpd p).bank ∧ (t.dpd p).locked = false ∧ (t.dpd p).result = 5 ∧
      (t.dpd p).due = .none_ ∧ Fires t 78 := by
  refine ⟨_, by rw [exec_dpdFallback, execDpdFallback, if_pos ⟨hp, hdue, ne_true_of_eq_false hfree⟩], ?_⟩
  dsimp only
  rw [raise_dpd, statPath_dpd]
  exact ⟨dpd_setDpd_st .., dpd_setDpd_bank .., dpd_setDpd_locked .., dpd_setDpd_result .., dpd_setDpd_due .., fires_raise ..⟩

theorem completes_dpdIdentity (hp : p < 64) (hdue : (s.dpd p).due = .identity) (hfree : s.dpdHeld p = false) :
    Completes (.dpdIdentity p) s fun t =>
      (t.dpd p).st = .identity ∧ (t.dpd p).ident = true ∧ (t.dpd p).backoff = true ∧ (t.dpd p).locked = false ∧
      bitOf (t.dpd p).stale 1 = true ∧ 0 < spGet 0 t.disp.pending p ∧ Fires t 79 := by
  refine ⟨_, by rw [exec_dpdIdentity, execDpdIdentity, if_pos ⟨hp, hdue, ne_true_of_eq_false hfree⟩], ?_⟩
  dsimp only
  rw [staleAndPending_dpd, raise_dpd, statPath_dpd]
  exact ⟨dpd_setDpd_st .., dpd_setDpd_ident .., dpd_setDpd_backoff .., dpd_setDpd_locked .., bitOf_setBits_one .., pending_staleAndPending ..,
    (fires_raise ..).staleAndPending ..⟩

theorem completes_dpdFallbackCheckEnd (hp : p < 64) (hst : (s.dpd p).st = .fallback) (hdue : (s.dpd p).due = .none_)
    (hwins : rf s .dpdLim [p / 8, p % 8] 26 24 ≤ (s.dpd p).wins) (hfree : s.dpdHeld p = false) :
    Completes (.dpdFallbackCheckEnd p) s fun t =>
      (t.dpd p).st = (if (s.dpd p).ident = true then .identity else .good) ∧ (t.dpd p).wins = 0 ∧
      ((s.dpd p).ident = true → bitOf (t.dpd p).stale 1 = true ∧ 0 < spGet 0 t.disp.pending p) := by
  refine ⟨_, by rw [exec_dpdFallbackCheckEnd, execDpdFallbackCheckEnd, if_pos ⟨hp, hst, hdue, hwins, ne_true_of_eq_false hfree⟩], ?_⟩
  dsimp only
  split
  · rw [staleAndPending_dpd]
    exact ⟨dpd_setDpd_st .., dpd_setDpd_wins .., fun _ => ⟨bitOf_setBits_one .., pending_staleAndPending ..⟩⟩
  next hset => exact ⟨dpd_setDpd_st .., dpd_setDpd_wins .., fun h => absurd h hset⟩

/-! ## The obligation -/

/-- Settles O26: each command by the operation that it performs under the clause's hypotheses, and what that operation leaves of the unit.
That a request during a check is refused and ends the check is assumption 154 of the log, as the model states it. -/
theorem predistortionCommandsComplete : Obligations.PredistortionCommandsComplete := by
  unfold Obligations.PredistortionCommandsComplete
  refine ⟨fun s p msq mabs hp hfree => completes_dpdThermalUpdate hp hfree msq mabs,
    fun s tag addr value p b i haddr htag hwritable hon hfree => ?write, fun s tag addr value p b i haddr hrefused hon => ?reject,
    fun s tag p value hp htag hgo hst hcheck hdue hfree hon => ?request, fun s tag p value hp htag hgo hon hbusy => ?busy,
    fun s p hp hcheck hst hdue hfree hbound hgain => ?accept, fun s p hp hcheck hst hdue hfree hbound => ?bound,
    fun s p hp hcheck hdue hfree => ?diverged,
    fun s p hp hst hdue hrun hpath hair => completes_dpdRampStep hp hst hdue hrun hpath hair,
    fun s p z age hp hsound hfree hcounts => ?window,
    fun s p n hp hst hdue hrun hfree hback hend => completes_dpdProbationEnd_good hp hst hdue hrun hfree hend hback,
    fun s p n hp hst hdue hrun hfree hback hfirst hend => completes_dpdProbationEnd_backoff hp hst hdue hrun hfree hend hback hfirst,
    fun s p hp hdue hfree => completes_dpdFallback hp hdue hfree, fun s p hp hdue hfree => completes_dpdIdentity hp hdue hfree,
    fun s p hp hst hdue hwins hfree => completes_dpdFallbackCheckEnd hp hst hdue hwins hfree⟩
  case write =>
    obtain ⟨hbank, hramps⟩ := setWord_steady (s.dpd p) b i value
    refine ⟨_, by rw [exec_dpdBankWrite_of_on haddr hon, if_pos ⟨htag, hwritable, ne_true_of_eq_false hfree⟩], ?_⟩
    dsimp only
    rw [dpd_setDpd_of_steady hbank hramps]
    exact word_setWord ..
  case reject =>
    have hnot : ¬ (s.tagDeviceOrD2 tag = true ∧ (s.dpd p).writable b s.clk.elapsed = true ∧ ¬ s.dpdHeld p = true) := by
      rintro ⟨-, hwritable, hfree⟩
      exact hrefused.elim (fun h => ne_true_of_eq_false h hwritable) hfree
    exact ⟨_, by rw [exec_dpdBankWrite_of_on haddr hon, if_neg hnot], bankReject_rejects s p tag⟩
  case request =>
    refine ⟨_, by rw [exec_dpdHoRequest_of_go hp htag hgo hon, requestHo_of_ready hst hdue hcheck hfree], ?_⟩
    exact dpd_setDpd_of_steady rfl rfl
  case busy =>
    refine ⟨_, by rw [exec_dpdHoRequest_of_go hp htag hgo hon, requestHo_of_busy hbusy], ?_⟩
    dsimp only
    rw [refuseHo_dpd]
    exact ⟨rfl, rfl, rfl, fires_refuseHo s p 2⟩
  case accept =>
    refine ⟨_, by rw [exec_dpdHoCheckDone_of_checking hp hcheck hfree, hoCheckDone_of_sound hst hdue hbound hgain], ?_⟩
    dsimp only
    rw [setStale_dpd]
    exact ⟨dpd_setDpd_st .., dpd_setDpd_bank .., dpd_setDpd_locked .., dpd_setDpd_result .., dpd_setDpd_rampLen ..⟩
  case bound =>
    refine ⟨_, by rw [exec_dpdHoCheckDone_of_checking hp hcheck hfree, hoCheckDone_of_bound hst hdue hbound], ?_⟩
    dsimp only
    rw [refuseHo_dpd]
    exact ⟨rfl, rfl, rfl, fires_refuseHo s p 3⟩
  case diverged =>
    refine ⟨_, by rw [exec_dpdHoCheckDone_of_checking hp hcheck hfree, hoCheckDone_of_due hdue], ?_⟩
    dsimp only
    rw [refuseHo_dpd]
    exact ⟨rfl, rfl, rfl, fires_refuseHo s p 2⟩
  case window =>
    exact ⟨_, exec_dpdDivergenceWindow_of_counts hp hsound hfree hcounts z, Prod.mk.inj (countWindow_windows _)⟩

end Sys2Proof.Machine
end

section
/-!
The dispatcher of predistortion: requests, jobs, visits at the minimum rate and the age of requests, and with them the settlement of O27.
-/

namespace Sys2Proof.Machine

variable {s : State} {p : Nat}

/-! ## Requests (R292) -/

/-- Another path that becomes pending leaves those that are. -/
theorem pending_makePending_of_pending (h : 0 < spGet 0 s.disp.pending p) (q : Nat) : 0 < spGet 0 (makePending s q).disp.pending p := by
  by_cases hpq : p = q
  · rw [hpq]
    exact pending_makePending s q
  · unfold makePending
    split
    · dsimp only
      rwa [spGet_spPut_other _ 0 _ _ hpq]
    · exact h

theorem askAgain_disp (id : RegId) (ix : List Nat) (i : Nat) (b : Bool) : (askAgain s id ix i b).disp = s.disp :=
  (askAgain_same id ix i b (Nat.and_self _) (Same.refl _ s)).but.disp (by decide)

/-- Every path whose bit is set is pending after the write. -/
theorem pending_dpdRequests {bits : Nat} (hp : p < 64) (hbit : bitOf bits p = true) :
    0 < spGet 0 (dpdRequests s bits).disp.pending p := by
  refine foldl_each (I := fun _ => True) (P := fun u q => bitOf bits q = true → 0 < spGet 0 u.disp.pending q) (fun _ _ _ => trivial)
    (fun u q _ hq => ?own) (fun u q r _ hr hbit => ?other) (l := List.range 64) trivial p (List.mem_range.2 hp) hbit
  case own =>
    rw [if_pos hq]
    exact pending_makePending ..
  case other =>
    split
    · exact pending_makePending_of_pending (by rw [askAgain_disp]; exact hr hbit) q
    · exact hr hbit

/-! ## Jobs (R293, R294) -/

/-- The state in which the dispatcher has started a job for a path, its capture not yet asked for nor its kernel posted. -/
def jobStarted (s : State) (p : Nat) : State :=
  let s1 := setStale { s with disp := { s.disp with
    pending := spPut 0 s.disp.pending p (if s.askedAgain .dpdReq [] p then s.clk.elapsed + 1 else 0),
    served := setIns p s.disp.served, last := p,
    jobs := s.disp.jobs ++ [⟨p, s.clk.elapsed, jobCapture s p (spGet 0 s.disp.pending p - 1)⟩] } } p 0 false
  endRound (takeAgain s1 .dpdReq [] p)

theorem exec_dpdJobStart_of_hottest (hen : rbit s .dpdDispCtrl [] 0 = true) (hfw : s.ctl.fwRuns = true)
    (hroom : s.disp.jobs.length < max 1 (rf s .dpdDispCtrl [] 4 1)) (hhot : hottest s = some p) (hfirst : earlierWork s 2 = false) :
    exec .dpdJobStart s = .next (if (jobCapture s p (spGet 0 s.disp.pending p - 1)).isNone then jobRequestCapture (jobStarted s p) p
      else dispatchPost (jobStarted s p) p) := by
  have hpend : s.disp.pending ≠ [] := fun h => by
    rw [hottest, h] at hhot
    cases hhot
  have hround (u : State) : (if (hottest s).isNone then u else s) = s := by
    rw [hhot]
    rfl
  rw [exec_dpdJobStart, execDpdJobStart]
  dsimp only
  rw [if_pos ⟨hen, hfw, hroom, hpend, ne_true_of_eq_false hfirst⟩, hround, hhot]
  rfl

/-- A round ends or goes on; what is pending, the last path and the jobs stay (R293). -/
theorem endRound_disp (s : State) : (endRound s).disp = s.disp ∨
    (endRound s).disp = { s.disp with served := [], round := !s.disp.round } := by
  unfold endRound
  split
  · refine .inr ?_
    cases s.disp.round <;> rfl
  · exact .inl rfl

/-- A path whose job starts is no longer pending, counts as served unless the round ends with it, and is the last to have been started. -/
theorem jobStarted_leaves (hasked : s.askedAgain .dpdReq [] p = false) :
    spGet 0 (jobStarted s p).disp.pending p = 0 ∧
    (p ∈ (jobStarted s p).disp.served ∨ ((jobStarted s p).disp.served = [] ∧ (jobStarted s p).disp.round = !s.disp.round)) ∧
    (jobStarted s p).disp.last = p ∧ ∃ j ∈ (jobStarted s p).disp.jobs, j.path = p := by
  have hdisp (u : State) : (takeAgain (setStale u p 0 false) .dpdReq [] p).disp = u.disp := setStale_disp ..
  have hnone : spGet 0 (spPut 0 s.disp.pending p (if s.askedAgain .dpdReq [] p then s.clk.elapsed + 1 else 0)) p = 0 := by
    rw [spGet_spPut_same, hasked]
    rfl
  rw [jobStarted]
  dsimp only
  rcases endRound_disp (takeAgain (setStale _ p 0 false) .dpdReq [] p) with h | h
  · rw [h, hdisp]
    exact ⟨hnone, .inl (mem_setIns.2 (.inl rfl)), rfl, _, List.mem_append_right _ List.mem_cons_self, rfl⟩
  · rw [h, hdisp]
    exact ⟨hnone, .inr ⟨rfl, rfl⟩, rfl, _, List.mem_append_right _ List.mem_cons_self, rfl⟩

/-- Asking for a capture and posting a kernel leave the dispatcher. -/
theorem jobRequestCapture_disp (s : State) (p : Nat) : (jobRequestCapture s p).disp = s.disp :=
  (jobRequestCapture_same p (Nat.and_self _) (Same.refl _ s)).but.disp (by decide)

theorem dispatchPost_disp (s : State) (p : Nat) : (dispatchPost s p).disp = s.disp :=
  (dispatchPost_same p (Nat.and_self _) (Same.refl _ s)).but.disp (by decide)

/-! ## Visits at the minimum rate (R291, R153) -/

/-- A visit that ranks as a timeline visit starts at once on a receiver that is free and in service. -/
theorem requestVisit_of_free {r : Nat} (hsound : (s.orx r).failed = false) (hrun : (s.orx r).running = none) (path n : Nat) (dpd : Bool) :
    requestVisit s r path n dpd = startVisit s r path n false := by
  rw [requestVisit, if_neg (ne_true_of_eq_false hsound), hrun]

theorem startVisit_running (r path n : Nat) (be : Bool) :
    ∃ v, ((startVisit s r path n be).orx r).running = some v ∧ v.path = path ∧ v.n = n ∧ v.bestEffort = be :=
  ⟨_, congrArg Orx.running (orx_setOrx ..), rfl, rfl, rfl⟩

/-! ## The obligation -/

/-- Settles O27: requests by the fold over the paths, a job's start by the dispatcher that it leaves, a visit by the receiver that is free for it,
and the age by the stale cause that it sets. -/
theorem dispatcherCommandsComplete : Obligations.DispatcherCommandsComplete := by
  unfold Obligations.DispatcherCommandsComplete
  refine ⟨fun s tag bits htag hon => ?requests, fun s p hen hfw hroom hhot hfirst hasked => ?job,
    fun s p hp hfdd hfw hrate hsound hrun => ?visit, fun s p hp hpend => ?age⟩
  case requests =>
    exact ⟨_, by rw [exec_dpdReq, execDpdReq, tagged_of_may hon htag], fun p hp hbit => pending_dpdRequests hp hbit⟩
  case job =>
    refine ⟨_, exec_dpdJobStart_of_hottest hen hfw hroom hhot hfirst, ?_⟩
    dsimp only
    split
    · rw [jobRequestCapture_disp]
      exact jobStarted_leaves hasked
    · rw [dispatchPost_disp]
      exact jobStarted_leaves hasked
  case visit =>
    refine ⟨_, by rw [exec_dpdMinRateVisit, execDpdMinRateVisit, if_pos ⟨hp, hfdd, hfw, hrate⟩], ?_⟩
    dsimp only
    rw [requestVisit_of_free (s := toBoundary s 358 p _) hsound hrun]
    exact startVisit_running ..
  case age =>
    refine ⟨_, by rw [exec_dpdStaleAgeExpiry, execDpdStaleAgeExpiry]; exact if_pos ⟨hp, hpend⟩, ?_⟩
    dsimp only
    rw [setStale_dpd, setStale_clk]
    exact ⟨bitOf_setBits_one .., reachElapsed_elapsed _⟩

end Sys2Proof.Machine
end

section
/-!
What the results of an engine's pipeline land in (R298, R306, R309): D registers, accumulators and registers of a code, and what the
drain of the pipeline leaves in each of them.
-/

namespace Sys2Proof.Machine

variable {x y : Eng} {f : Flight} {fs gs : List Flight}

/-! ## Registers of a code (R298) -/

theorem cr_setCr_same (x : Eng) (c v : Nat) : (x.setCr c v).cr c = crKeeps c v := spGet_spPut_same ..

theorem cr_setCr_other (x : Eng) {c c' : Nat} (h : c' ≠ c) (v : Nat) : (x.setCr c v).cr c' = x.cr c' := spGet_spPut_other _ _ _ _ h

theorem crKeeps_of_pointer {c : Nat} (h : c < 24) (v : Nat) : crKeeps c v = v % 2 ^ 18 := by
  rw [crKeeps, if_neg (by omega), if_neg (by omega), codeBits, if_pos h]

/-! ## One result -/

/-- The register a result lands in: D registers 0 to 31, accumulators from 32, registers of a code from 64. -/
def Flight.reg (f : Flight) : Nat :=
  match f.val with
  | .num _ => f.key
  | .acc _ => 32 + (f.key - 32)
  | .flags _ | .sw .. => 94
  | .be _ | .hr15 => 95

theorem dr_land_other {i : Nat} (h : f.reg ≠ i % 32) : (x.land f).dr i = x.dr i := by
  obtain ⟨due, key, val, mac, iss⟩ := f
  cases val with
  | num v =>
    simp only [Eng.land]
    split
    · exact spGet_spPut_other _ _ _ _ (Ne.symm h)
    · split <;> rfl
  | _ => rfl

theorem ac_land_other {k : Nat} (h : f.reg ≠ 32 + k % 4) : (x.land f).ac k = x.ac k := by
  obtain ⟨due, key, val, mac, iss⟩ := f
  cases val with
  | num v =>
    simp only [Eng.land]
    split
    · rfl
    · split <;> rfl
  | acc c => exact spGet_spPut_other _ _ _ _ fun hk => h (congrArg (32 + ·) hk.symm)
  | _ => rfl

theorem cr_land_other {c : Nat} (h : f.reg ≠ 64 + c) : (x.land f).cr c = x.cr c := by
  obtain ⟨due, key, val, mac, iss⟩ := f
  cases val with
  | num v =>
    simp only [Eng.land]
    split
    · rfl
    · split
      · exact cr_setCr_other _ (fun hc => h (by simp only [Flight.reg]; omega)) _
      · rfl
  | acc c => rfl
  | flags m => exact cr_setCr_other _ (fun hc => h (by simp only [Flight.reg]; omega)) _
  | sw hi lo v => exact cr_setCr_other _ (fun hc => h (by simp only [Flight.reg]; omega)) _
  | be v => exact cr_setCr_other _ (fun hc => h (by simp only [Flight.reg]; omega)) _
  | hr15 => exact cr_setCr_other _ (fun hc => h (by simp only [Flight.reg]; omega)) _

theorem dr_land_num {i v : Nat} (hkey : f.key = i % 32) (hval : f.val = .num v) : (x.land f).dr i = v % 2 ^ 32 := by
  rw [Eng.land, hval]
  simp only [hkey, Nat.mod_lt i (by decide : 32 > 0), if_true]
  exact spGet_spPut_same ..

theorem ac_land_acc {k : Nat} {c : Cplx} (hkey : f.key = 32 + k % 4) (hval : f.val = .acc c) : (x.land f).ac k = c := by
  rw [Eng.land, hval]
  simp only [hkey, Nat.add_sub_cancel_left]
  exact spGet_spPut_same ..

theorem cr_land_num {c v : Nat} (hkey : f.key = 64 + c) (hval : f.val = .num v) : (x.land f).cr c = crKeeps c v := by
  rw [Eng.land, hval]
  simp only [hkey, Nat.add_sub_cancel_left]
  rw [if_neg (by omega), if_pos (by omega)]
  exact cr_setCr_same ..

/-- Sticky flags that land are set, and the other bits of SW stay (R311). -/
theorem bitOf_cr_land_flags {m i : Nat} (hval : f.val = .flags m) (hi : i < 12) :
    bitOf ((x.land f).cr 30) i = (bitOf (x.cr 30) i || bitOf m i) := by
  rw [Eng.land, hval]
  simp only [cr_setCr_same, crKeeps, if_true]
  rw [bitOf_iff_testBit, bitOf_iff_testBit, bitOf_iff_testBit, Nat.testBit_mod_two_pow, Eng.sw]
  simp only [hi, decide_true, Bool.true_and]
  exact Nat.testBit_or ..

/-! ## Results one after another -/

/-- What every result of a list leaves as it was, the list does. -/
theorem foldl_land_read {α : Type} {r : Eng → α} (h : ∀ f ∈ fs, ∀ x : Eng, r (x.land f) = r x) : r (fs.foldl Eng.land x) = r x := by
  induction fs generalizing x with
  | nil => rfl
  | cons f fs ih => exact (ih fun g hg => h g (List.mem_cons_of_mem _ hg)).trans (h f List.mem_cons_self x)

/-- Where every result of a list that reaches a register leaves one value in it, and there is one, that value stands there. -/
theorem foldl_land_reads {α : Type} {r : Eng → α} {v : α} {P : Flight → Prop} (hset : ∀ f ∈ fs, P f → ∀ x : Eng, r (x.land f) = v)
    (hother : ∀ f ∈ fs, ¬ P f → ∀ x : Eng, r (x.land f) = r x) (hex : ∃ f ∈ fs, P f) : r (fs.foldl Eng.land x) = v := by
  induction fs generalizing x with
  | nil => obtain ⟨f, hf, -⟩ := hex; cases hf
  | cons f fs ih =>
    by_cases hlater : ∃ g ∈ fs, P g
    · exact ih (fun g hg => hset g (List.mem_cons_of_mem _ hg)) (fun g hg => hother g (List.mem_cons_of_mem _ hg)) hlater
    · have hlast : P f := by
        obtain ⟨g, hg, hPg⟩ := hex
        rcases List.mem_cons.1 hg with rfl | hg
        · exact hPg
        · exact absurd ⟨g, hg, hPg⟩ hlater
      rw [List.foldl_cons, foldl_land_read (r := r) fun g hg => hother g (List.mem_cons_of_mem _ hg) fun hPg => hlater ⟨g, hg, hPg⟩]
      exact hset f List.mem_cons_self hlast x

theorem dr_foldl_land_other {i : Nat} (h : ∀ f ∈ fs, f.reg ≠ i % 32) : (fs.foldl Eng.land x).dr i = x.dr i :=
  foldl_land_read (r := fun x => x.dr i) fun f hf _ => dr_land_other (h f hf)

theorem ac_foldl_land_other {k : Nat} (h : ∀ f ∈ fs, f.reg ≠ 32 + k % 4) : (fs.foldl Eng.land x).ac k = x.ac k :=
  foldl_land_read (r := fun x => x.ac k) fun f hf _ => ac_land_other (h f hf)

theorem cr_foldl_land_other {c : Nat} (h : ∀ f ∈ fs, f.reg ≠ 64 + c) : (fs.foldl Eng.land x).cr c = x.cr c :=
  foldl_land_read (r := fun x => x.cr c) fun f hf _ => cr_land_other (h f hf)

theorem ac_foldl_land {k : Nat} {c : Cplx} (h : ∀ f ∈ fs, f.reg = 32 + k % 4 → f.key = 32 + k % 4 ∧ f.val = .acc c)
    (hex : ∃ f ∈ fs, f.reg = 32 + k % 4) : (fs.foldl Eng.land x).ac k = c :=
  foldl_land_reads (r := fun x => x.ac k) (P := fun f => f.reg = 32 + k % 4)
    (fun f hf hreg _ => ac_land_acc (h f hf hreg).1 (h f hf hreg).2) (fun _ _ hreg _ => ac_land_other hreg) hex

/-! ## What landing leaves -/

/-- D registers, accumulators and registers of a code. -/
abbrev Registers : Type := Sparse Nat × Sparse Cplx × Sparse Nat

/-- The registers of an engine that results land in. -/
def Eng.regs (x : Eng) : Registers := (x.d, x.acc, x.ctl)

/-- An engine with other registers. -/
def Eng.withRegs (x : Eng) (r : Registers) : Eng := { x with d := r.1, acc := r.2.1, ctl := r.2.2 }

/-- A result changes registers alone, by what they hold. -/
theorem land_withRegs (x : Eng) (f : Flight) (r : Registers) :
    (x.withRegs r).land f = x.withRegs ((y.withRegs r).land f).regs := by
  obtain ⟨due, key, val, mac, iss⟩ := f
  cases val with
  | num v =>
    simp only [Eng.land]
    split
    · rfl
    · split <;> rfl
  | _ => rfl

theorem foldl_land_withRegs (x : Eng) (fs : List Flight) (r : Registers) :
    fs.foldl Eng.land (x.withRegs r) = x.withRegs (fs.foldl Eng.land (y.withRegs r)).regs := by
  induction fs generalizing r with
  | nil => rfl
  | cons f fs ih =>
    rw [List.foldl_cons, List.foldl_cons, land_withRegs (y := y), land_withRegs (x := y) (y := y), ih]
    rfl

theorem foldl_land_eq (x : Eng) (fs : List Flight) : fs.foldl Eng.land x = x.withRegs (fs.foldl Eng.land x).regs :=
  foldl_land_withRegs (y := x) x fs x.regs

/-- Engines whose registers agree have them agree once results have landed. -/
theorem regs_foldl_land (h : x.regs = y.regs) (fs : List Flight) : (fs.foldl Eng.land x).regs = (fs.foldl Eng.land y).regs := by
  have hy : y.withRegs x.regs = y := by rw [h]; rfl
  have hx := foldl_land_withRegs (y := y) x fs x.regs
  rw [hy] at hx
  exact (congrArg Eng.regs hx :)

theorem dr_of_regs (h : x.regs = y.regs) (i : Nat) : x.dr i = y.dr i := congrArg (fun r : Registers => spGet 0 r.1 (i % 32)) h

theorem ac_of_regs (h : x.regs = y.regs) (k : Nat) : x.ac k = y.ac k := congrArg (fun r : Registers => spGet ⟨0, 0⟩ r.2.1 (k % 4)) h

theorem cr_of_regs (h : x.regs = y.regs) (c : Nat) : x.cr c = y.cr c :=
  congrArg (fun r : Registers => spGet (if c = 31 then 15 else 0) r.2.2 c) h

/-- The drain of an engine whose registers are another's and whose pipeline holds more results (R318, R330). -/
theorem regs_drain_of_flight (h : x.regs = y.regs) (hf : x.flight = y.flight ++ fs) : x.drain.regs = (fs.foldl Eng.land y.drain).regs := by
  have hx : x.drain.regs = (x.flight.foldl Eng.land x).regs := rfl
  have hy : (y.flight.foldl Eng.land y).regs = y.drain.regs := rfl
  rw [hx, hf, List.foldl_append]
  exact regs_foldl_land ((regs_foldl_land h _).trans hy) _

end Sys2Proof.Machine
end

section
/-!
The end of a bundle (R300, R304, R306, R316): what an engine holds once a legal bundle that ends neither the job nor its turn has issued.
-/

namespace Sys2Proof.Machine

variable {s : State} {e : Nat} {x : Eng}

/-! ## The parts of an issue -/

/-- An engine after the stores of its bundle, slot X before slot Y (R304). -/
def Eng.stored (x : Eng) : Eng :=
  (x.bundle.stores.filter (fun t => t.1 = 1) ++ x.bundle.stores.filter (fun t => t.1 = 2)).foldl (fun x t => x.store t.2.1 t.2.2) x

theorem foldl_store_eq (l : List (Nat × Nat × List Byte)) (x : Eng) :
    l.foldl (fun x t => x.store t.2.1 t.2.2) x = { x with dmem := (l.foldl (fun x t => x.store t.2.1 t.2.2) x).dmem } := by
  induction l generalizing x with
  | nil => rfl
  | cons t l ih =>
    rw [List.foldl_cons, ih]
    rfl

/-- What stores leave in data memory is a matter of the stores and of what it held. -/
theorem dmem_foldl_store {x y : Eng} (h : x.dmem = y.dmem) (l : List (Nat × Nat × List Byte)) :
    (l.foldl (fun x t => x.store t.2.1 t.2.2) x).dmem = (l.foldl (fun x t => x.store t.2.1 t.2.2) y).dmem := by
  induction l generalizing x y with
  | nil => exact h
  | cons t l ih => exact ih (by simp only [Eng.store, h])

theorem stored_eq (x : Eng) : x.stored = { x with dmem := x.stored.dmem } := foldl_store_eq _ x

theorem bundleGoes_stored (x : Eng) : bundleGoes x.stored = bundleGoes x := by rw [stored_eq]; rfl

theorem loopBack_stored (x : Eng) : loopBack x.stored = loopBack x := by rw [stored_eq]; rfl

/-- Registers of a code written one after another, each by a value that may depend on what they hold, leave the rest of the engine. -/
theorem foldl_setCr_eq {α : Type} (c : α → Nat) (v : Eng → α → Nat) (l : List α) (x : Eng) :
    l.foldl (fun x a => x.setCr (c a) (v x a)) x = { x with ctl := (l.foldl (fun x a => x.setCr (c a) (v x a)) x).ctl } := by
  induction l generalizing x with
  | nil => rfl
  | cons a l ih =>
    rw [List.foldl_cons, ih]
    rfl

theorem cr_foldl_setCr_other {α : Type} {c : Nat} (v : Eng → α → Nat) (h : c ≠ 31) (l : List α) (x : Eng) :
    (l.foldl (fun x a => x.setCr 31 (v x a)) x).cr c = x.cr c := by
  induction l generalizing x with
  | nil => rfl
  | cons a l ih => rw [List.foldl_cons, ih, cr_setCr_other _ h]

/-- An engine as the counters of the loops that end at its bundle fall (R316). -/
def Eng.looped (x : Eng) : Eng := (loopNext x).foldl (fun x r => x.setCr (24 + r.1) r.2) x

/-- The cycles of a bundle (R304, R307). -/
def Eng.cost (x : Eng) : Nat := 1 + b2n (bankConflict x.bundle.words) + (if x.bundle.target.isSome then 2 else 0)

/-- The headroom that the words stored leave (R315). -/
def Eng.headroom (x : Eng) (words : List Nat) : Eng :=
  words.foldl (fun x w => x.setCr 31 (setBits x.bx 3 0 (min (bitsOf x.bx 3 0) (expWord w)))) x

/-- An engine that goes on after its bundle, the results that then land not yet written. -/
def Eng.advanced (x : Eng) (j : Job) : Eng :=
  { x.stored.looped with issue := x.stored.looped.issue + 1, bundle := Bundle.empty, pc := bundleGoes x.stored % 2 ^ 13,
                         cyc := x.stored.looped.cyc + x.stored.cost, job := some { j with cycles := j.cycles + x.stored.cost } }

/-- An engine whose bundle has issued (R306, R315). -/
def Eng.issued (x : Eng) (j : Job) : Eng :=
  if bitOf x.sw 6 then (x.advanced j).landDue.headroom x.bundle.stored else (x.advanced j).landDue

/-! ## What an issue leaves -/

/-- From `x` to `z` a bundle has issued: where the engine stands, what is in flight, and that the results due were the last writers of every
register but BX. -/
structure Issued (x z : Eng) : Prop where
  st : z.st = x.st
  issue : z.issue = x.issue + 1
  pc : z.pc = bundleGoes x % 2 ^ 13
  bundle : z.bundle = Bundle.empty
  dmem : z.dmem = x.stored.dmem
  flight : z.flight = x.flight.filter (fun f => x.issue + 1 < f.due)
  lands : ∃ w : Eng, (∀ i, z.dr i = ((x.flight.filter (fun f => f.due ≤ x.issue + 1)).foldl Eng.land w).dr i) ∧
    (∀ k, z.ac k = ((x.flight.filter (fun f => f.due ≤ x.issue + 1)).foldl Eng.land w).ac k) ∧
    ∀ c, c ≠ 31 → z.cr c = ((x.flight.filter (fun f => f.due ≤ x.issue + 1)).foldl Eng.land w).cr c

theorem looped_eq (x : Eng) : x.looped = { x with ctl := x.looped.ctl } :=
  foldl_setCr_eq (fun r : Nat × Nat => 24 + r.1) (fun _ r => r.2) _ x

theorem headroom_eq (words : List Nat) (x : Eng) : x.headroom words = { x with ctl := (x.headroom words).ctl } :=
  foldl_setCr_eq (fun _ => 31) (fun x w => setBits x.bx 3 0 (min (bitsOf x.bx 3 0) (expWord w))) _ x

theorem cr_headroom_other (words : List Nat) (x : Eng) {c : Nat} (h : c ≠ 31) : (x.headroom words).cr c = x.cr c :=
  cr_foldl_setCr_other (fun x w => setBits x.bx 3 0 (min (bitsOf x.bx 3 0) (expWord w))) h words x

/-- An engine that goes on after its bundle, part by part. -/
theorem advanced_eq (x : Eng) (j : Job) : ∃ c, x.advanced j =
    { x with dmem := x.stored.dmem, ctl := c, issue := x.issue + 1, bundle := Bundle.empty, pc := bundleGoes x % 2 ^ 13,
             cyc := x.cyc + x.cost, job := some { j with cycles := j.cycles + x.cost } } := by
  refine ⟨x.stored.looped.ctl, ?_⟩
  rw [Eng.advanced, looped_eq, bundleGoes_stored, stored_eq]
  rfl

theorem landDue_issued (x : Eng) (j : Job) : Issued x (x.advanced j).landDue := by
  obtain ⟨c, hadv⟩ := advanced_eq x j
  rw [hadv, Eng.landDue]
  dsimp only
  rw [foldl_land_eq]
  refine ⟨rfl, rfl, rfl, rfl, rfl, rfl, _, fun i => rfl, fun k => rfl, fun c _ => rfl⟩

theorem issued_issued (x : Eng) (j : Job) : Issued x (x.issued j) := by
  have h := landDue_issued x j
  rw [Eng.issued]
  split
  · rw [headroom_eq]
    obtain ⟨w, hd, ha, hc⟩ := h.lands
    refine ⟨h.st, h.issue, h.pc, h.bundle, h.dmem, h.flight, w, hd, ha, fun c hne => ?_⟩
    exact (cr_headroom_other x.bundle.stored _ hne).trans (hc c hne)
  · exact h

theorem codeSize_issued {j : Job} (hjob : x.job = some j) : (x.issued j).codeSize = x.codeSize := by
  have h : (x.issued j).codeSize = (x.advanced j).landDue.codeSize := by
    rw [Eng.issued]
    split
    · rw [headroom_eq]; rfl
    · rfl
  obtain ⟨c, hadv⟩ := advanced_eq x j
  rw [h, hadv, Eng.landDue]
  dsimp only
  rw [foldl_land_eq, Eng.codeSize, Eng.codeSize, hjob]
  rfl

/-! ## The end of a legal bundle -/

/-- A bundle that breaks no rule of R301, ends neither the job nor its turn, and goes to an address within CODE issues. -/
theorem endBundle_of_legal {j : Job} (hjob : (s.eng e).job = some j) (hdup : dupWrites (s.eng e).bundle = false)
    (hloop : ¬ ((s.eng e).bundle.slots.contains 4 = true ∧ loopNext (s.eng e) ≠ [])) (hfin : (s.eng e).bundle.fin = none)
    (hyield : (s.eng e).bundle.yieldTo = none)
    (hgoes : (s.eng e).bundle.target.isSome = true ∨ ((s.eng e).bundle.skip = none ∧ (loopBack (s.eng e)).isSome = true) →
      bundleGoes (s.eng e) < (s.eng e).codeSize) :
    endBundle s e = s.setEng e ((s.eng e).issued j) := by
  have hform : endBundle s e = if ((s.eng e).bundle.target.isSome || ((s.eng e).bundle.skip.isNone && (loopBack (s.eng e).stored).isSome)) &&
      decide (((s.eng e).issued j).codeSize ≤ bundleGoes (s.eng e).stored) then endJob (s.setEng e ((s.eng e).issued j)) e 0x82
      else s.setEng e ((s.eng e).issued j) := by
    rw [endBundle, hjob]
    dsimp only
    rw [hdup, if_neg Bool.false_ne_true, if_neg hloop, hfin, hyield]
    rfl
  rw [hform, loopBack_stored, bundleGoes_stored, codeSize_issued hjob, if_neg]
  rw [Bool.and_eq_true, Bool.or_eq_true, Bool.and_eq_true, Option.isNone_iff_eq_none, decide_eq_true_eq]
  exact fun h => absurd (hgoes h.1) (Nat.not_lt.2 h.2)

end Sys2Proof.Machine
end

section
/-!
The ends of jobs (R330, R332) and the operations of a slot (R300, R322): whether an operation joins the bundle begun, faults or issues it,
and that whatever it does leaves the other engines and the SRAM.
-/

namespace Sys2Proof.Machine

variable {s t u : State} {e : Nat} {j : Job}

/-! ## The ends of jobs -/

theorem eng_of_ge (h : t.ge = s.ge) (e : Nat) : t.eng e = s.eng e := by rw [State.eng, h, State.eng]

@[simp] theorem raise_eng (src inst aux e : Nat) : (raise s src inst aux).eng e = s.eng e := eng_of_ge (raise_ge ..) e

theorem stat_ge (index sub n : Nat) : (stat s index sub n).ge = s.ge :=
  (stat_same index sub n (Nat.and_self _) (Same.refl _ s)).but.ge (by decide)

/-- What waits to be presented keeps waiting as a counter counts. -/
theorem Fires.stat {k : Nat} (h : Fires s k) (index sub n : Nat) : Fires (stat s index sub n) k := by
  unfold Machine.stat
  refine .ite h (.ite ?_ (h.of_evt rfl))
  apply Fires.raise
  exact h

@[simp] theorem stat_eng (index sub n e : Nat) : (stat s index sub n).eng e = s.eng e := eng_of_ge (stat_ge ..) e

@[simp] theorem wbit_eng (id : RegId) (ix : List Nat) (i : Nat) (b : Bool) (e : Nat) : (wbit s id ix i b).eng e = s.eng e := rfl

/-- A completion record goes to the engine's own store, whose oldest it takes the place of when there are 16 (R330). -/
def fileCpl (s : State) (e w : Nat) : State :=
  if (s.eng e).cpl.length < 16 then s.setEng e { s.eng e with cpl := (s.eng e).cpl ++ [w] }
  else raise (s.setEng e { s.eng e with cpl := (s.eng e).cpl.drop 1 ++ [w] }) 99 e NA

/-- The record of a job of firmware or of a release entry is filed with the engine, and any other's delivery leaves engines and SRAM. -/
theorem deliverCpl_cases (s : State) (e : Nat) (j : Job) (result : Nat) (miss : Bool) :
    deliverCpl s e j result miss = fileCpl s e (cplWord j result miss s.now) ∨
    ((deliverCpl s e j result miss).ge = s.ge ∧ (deliverCpl s e j result miss).mem = s.mem) := by
  rw [deliverCpl]
  cases j.src with
  | firmware => exact .inl rfl
  | release => exact .inl rfl
  | dispatcher => exact .inr ⟨rfl, rfl⟩
  | erg => exact .inr ⟨rfl, rfl⟩

theorem deliverCpl_eng (s : State) (e : Nat) (j : Job) (result : Nat) (miss : Bool) :
    ∃ cpl, (deliverCpl s e j result miss).eng e = { s.eng e with cpl := cpl } := by
  rcases deliverCpl_cases s e j result miss with h | ⟨hge, -⟩
  · rw [h, fileCpl]
    split
    · exact ⟨_, eng_setEng ..⟩
    · exact ⟨_, (raise_eng ..).trans (eng_setEng ..)⟩
  · exact ⟨_, eng_of_ge hge e⟩

theorem jobEnded_eng (s : State) (e : Nat) (j : Job) (result : Nat) : ∃ cpl, (jobEnded s e j result).eng e = { s.eng e with cpl := cpl } := by
  obtain ⟨cpl, h⟩ := deliverCpl_eng s e j result (decide (j.cls = 0) && decide (j.deadline < s.now))
  refine ⟨cpl, ?_⟩
  rw [jobEnded, ← h]
  split <;> split <;> simp

/-- A job that ends with a fault raises the event of a fault (R332). -/
theorem fires_jobEnded {code : Nat} (h : 0x80 ≤ code) : Fires (jobEnded s e j code) 96 := by
  simp only [jobEnded, if_neg (Nat.not_lt.2 h)]
  split
  · exact ((fires_raise ..).stat ..).raise ..
  · exact fires_raise ..

/-- An engine whose job has ended, its completion record apart (R330). -/
def Eng.jobless (x : Eng) : Eng :=
  { x.drain.clearRegs with
    job := none, st := if x.st = .running then .idle else x.st,
    xq := (x.xq.map (fun q => (q.1, (q.2.take 1).map (fun d => { d with orphan := true })))).filter (fun q => q.2 ≠ []) }

theorem endJob_of_job (hjob : (s.eng e).job = some j) (result : Nat) :
    endJob s e result = wbit (jobEnded (s.setEng e (s.eng e).jobless) e j result) .geDoorbell [e] 0 false := by
  rw [endJob, hjob]
  rfl

theorem endJob_of_none (hjob : (s.eng e).job = none) (result : Nat) : endJob s e result = s := by
  rw [endJob, hjob]

theorem endJob_eng (hjob : (s.eng e).job = some j) (result : Nat) :
    ∃ cpl, (endJob s e result).eng e = { (s.eng e).jobless with cpl := cpl } := by
  obtain ⟨cpl, h⟩ := jobEnded_eng (s.setEng e (s.eng e).jobless) e j result
  refine ⟨cpl, ?_⟩
  rw [endJob_of_job hjob, wbit_eng, h, eng_setEng]

/-- A fault ends the job, and its event fires (R332). -/
theorem endJob_faults (hjob : (s.eng e).job = some j) {code : Nat} (h : 0x80 ≤ code) :
    ((endJob s e code).eng e).job = none ∧ Fires (endJob s e code) 96 := by
  obtain ⟨cpl, heng⟩ := endJob_eng hjob code
  rw [heng]
  refine ⟨rfl, ?_⟩
  rw [endJob_of_job hjob]
  exact (fires_jobEnded h).of_evt (wbit_evt ..)

/-! ## One operation of a slot -/

/-- The state in which a correctable error is counted (R322). -/
def eccCounted (s : State) (e ecc : Nat) : State := if ecc = 1 then bump s .geEcc [e] else s

theorem eccCounted_ge (s : State) (e ecc : Nat) : (eccCounted s e ecc).ge = s.ge := by
  rw [eccCounted]
  split <;> rfl

theorem eccCounted_eng (s : State) (e ecc e' : Nat) : (eccCounted s e ecc).eng e' = s.eng e' := eng_of_ge (eccCounted_ge ..) e'

/-- An engine whose bundle takes a slot. -/
def Eng.takes (x : Eng) (slot : Nat) : Eng := { x with bundle := { x.bundle with slots := x.bundle.slots ++ [slot] } }

section Joins

variable {slot ecc : Nat} {last : Bool} {act : Eng → Nat ⊕ Eng} {x : Eng} {code : Nat}
  (he : e < 18) (hrun : (s.eng e).st = .running) (hfree : slotClash (s.eng e).bundle.slots slot = false)

include he hrun hfree

/-- An operation that can join the bundle begun is judged on the engine as it stands. -/
theorem slotOp_of_free (hecc : ecc ≠ 2) : slotOp s e slot last ecc act =
    match act (s.eng e) with
    | .inl code => endJob (eccCounted s e ecc) e code
    | .inr x =>
      if last then endBundle ((eccCounted s e ecc).setEng e (x.takes slot)) e else (eccCounted s e ecc).setEng e (x.takes slot) := by
  rw [slotOp, if_pos ⟨hrun, he⟩, hfree]
  dsimp only [Bool.false_eq_true, if_false]
  rw [if_neg Bool.false_ne_true, if_pos hrun, if_neg hecc]
  change (match act ((eccCounted s e ecc).eng e) with | .inl _ => _ | .inr _ => _) = _
  rw [eccCounted_eng]
  rfl

theorem slotOp_of_fault (hecc : ecc ≠ 2) (hact : act (s.eng e) = .inl code) :
    slotOp s e slot last ecc act = endJob (eccCounted s e ecc) e code := by
  rw [slotOp_of_free he hrun hfree hecc, hact]

theorem slotOp_of_joins (hecc : ecc ≠ 2) (hact : act (s.eng e) = .inr x) (hlast : last = false) :
    slotOp s e slot last ecc act = (eccCounted s e ecc).setEng e (x.takes slot) := by
  rw [slotOp_of_free he hrun hfree hecc, hact, hlast]
  rfl

theorem slotOp_of_issues (hecc : ecc ≠ 2) (hact : act (s.eng e) = .inr x) (hlast : last = true) :
    slotOp s e slot last ecc act = endBundle ((eccCounted s e ecc).setEng e (x.takes slot)) e := by
  rw [slotOp_of_free he hrun hfree hecc, hact, hlast]
  rfl

theorem slotOp_of_uncorrectable (hecc : ecc = 2) : slotOp s e slot last ecc act = eccFault s e := by
  rw [slotOp, if_pos ⟨hrun, he⟩, hfree]
  dsimp only
  rw [if_neg Bool.false_ne_true, if_pos hrun, if_pos hecc, if_neg (by omega)]

end Joins

/-! ## The other engines and the SRAM -/

/-- From `s` to `t` nothing has changed of the engines but `e`, nor of the SRAM. -/
structure OneEngine (e : Nat) (s t : State) : Prop where
  mem : t.mem = s.mem
  others : ∀ e', e' ≠ e → t.eng e' = s.eng e'

theorem OneEngine.refl (e : Nat) (s : State) : OneEngine e s s := ⟨rfl, fun _ _ => rfl⟩

theorem OneEngine.trans (h : OneEngine e s t) (k : OneEngine e t u) : OneEngine e s u :=
  ⟨k.mem.trans h.mem, fun e' hne => (k.others e' hne).trans (h.others e' hne)⟩

theorem OneEngine.of_ge (hmem : t.mem = s.mem) (hge : t.ge = s.ge) : OneEngine e s t := ⟨hmem, fun e' _ => eng_of_ge hge e'⟩

theorem setEng_oneEngine (s : State) (e : Nat) (x : Eng) : OneEngine e s (s.setEng e x) := ⟨rfl, fun _ hne => eng_setEng_other s x hne⟩

theorem raise_oneEngine (s : State) (e src inst aux : Nat) : OneEngine e s (raise s src inst aux) := .of_ge (raise_mem ..) (raise_ge ..)

theorem stat_oneEngine (s : State) (e index sub n : Nat) : OneEngine e s (stat s index sub n) :=
  .of_ge ((stat_same index sub n (Nat.and_self _) (Same.refl _ s)).but.mem (by decide)) (stat_ge ..)

theorem eccCounted_oneEngine (s : State) (e ecc : Nat) : OneEngine e s (eccCounted s e ecc) := by
  rw [eccCounted]
  split
  · exact .of_ge rfl rfl
  · exact .refl ..

theorem OneEngine.ite {c : Prop} [Decidable c] (ht : OneEngine e s t) (hu : OneEngine e s u) : OneEngine e s (if c then t else u) := by
  split
  · exact ht
  · exact hu

theorem deliverCpl_oneEngine (s : State) (e : Nat) (j : Job) (result : Nat) (miss : Bool) : OneEngine e s (deliverCpl s e j result miss) := by
  rcases deliverCpl_cases s e j result miss with h | ⟨hge, hmem⟩
  · rw [h]
    exact .ite (setEng_oneEngine ..) ((setEng_oneEngine ..).trans (raise_oneEngine ..))
  · exact .of_ge hmem hge

theorem jobEnded_oneEngine (s : State) (e : Nat) (j : Job) (result : Nat) : OneEngine e s (jobEnded s e j result) := by
  have hcounted {v : State} (h : OneEngine e s v) (n : Nat) : OneEngine e s (stat v (0xD100 + e) n) := h.trans (stat_oneEngine ..)
  have hraised {v : State} (h : OneEngine e s v) (n : Nat) : OneEngine e s (raise v n e NA) := h.trans (raise_oneEngine ..)
  have hdone : OneEngine e s (if result < 0x80 then stat (deliverCpl s e j result (decide (j.cls = 0) && decide (j.deadline < s.now))) (0xD100 + e) 2
      else raise (stat (deliverCpl s e j result (decide (j.cls = 0) && decide (j.deadline < s.now))) (0xD100 + e) 3) 96 e NA) :=
    .ite (hcounted (deliverCpl_oneEngine ..) _) (hraised (hcounted (deliverCpl_oneEngine ..) _) _)
  exact .ite (hraised (hcounted hdone _) _) hdone

theorem endJob_oneEngine (s : State) (e result : Nat) : OneEngine e s (endJob s e result) := by
  cases hjob : (s.eng e).job with
  | none =>
    rw [endJob_of_none hjob]
    exact .refl ..
  | some j =>
    rw [endJob_of_job hjob]
    exact ((setEng_oneEngine ..).trans (jobEnded_oneEngine ..)).trans (.of_ge (wbit_mem ..) (wbit_ge ..))

theorem yieldJob_oneEngine (s : State) (e a : Nat) : OneEngine e s (yieldJob s e a) := by
  unfold yieldJob
  dsimp only
  split
  · exact .refl ..
  · exact .ite (endJob_oneEngine ..) (.ite (endJob_oneEngine ..) (setEng_oneEngine ..))

theorem endBundle_oneEngine (s : State) (e : Nat) : OneEngine e s (endBundle s e) := by
  unfold endBundle
  dsimp only
  split
  · exact .refl ..
  · refine .ite (endJob_oneEngine ..) (.ite (endJob_oneEngine ..) ?_)
    split
    · exact (setEng_oneEngine ..).trans (endJob_oneEngine ..)
    · exact (setEng_oneEngine ..).trans (yieldJob_oneEngine ..)
    · exact .ite ((setEng_oneEngine ..).trans (endJob_oneEngine ..)) (setEng_oneEngine ..)

theorem eccFault_oneEngine (s : State) (e : Nat) : OneEngine e s (eccFault s e) := by
  rw [eccFault]
  refine .trans ?_ (endJob_oneEngine ..)
  exact .of_ge rfl rfl

theorem stallBundle_oneEngine (s : State) (e : Nat) : OneEngine e s (stallBundle s e) := .ite (setEng_oneEngine ..) (.refl ..)

theorem slotOp_oneEngine (s : State) (e slot : Nat) (last : Bool) (ecc : Nat) (act : Eng → Nat ⊕ Eng) :
    OneEngine e s (slotOp s e slot last ecc act) := by
  unfold slotOp
  refine .ite ?_ (.refl ..)
  have hbegun : OneEngine e s (if slotClash (s.eng e).bundle.slots slot then endBundle s e else s) := .ite (endBundle_oneEngine ..) (.refl ..)
  generalize (if slotClash (s.eng e).bundle.slots slot then endBundle s e else s) = v at hbegun ⊢
  refine hbegun.trans (.ite ?_ (.refl ..))
  have hcounted := eccCounted_oneEngine v e ecc
  change OneEngine e v (if ecc = 2 then eccFault (eccCounted v e ecc) e else match act ((eccCounted v e ecc).eng e) with
    | .inl code => _ | .inr x => _)
  refine .ite (hcounted.trans (eccFault_oneEngine ..)) ?_
  split
  · exact hcounted.trans (endJob_oneEngine ..)
  · exact .ite ((hcounted.trans (setEng_oneEngine ..)).trans (endBundle_oneEngine ..)) (hcounted.trans (setEng_oneEngine ..))

/-! ## The obligation -/

/-- An operation of a slot is a slot operation of its engine, but for an XFER or XWAIT that waits (R319, R323). -/
theorem exec_slot {c : Instr} (h : slotEngine c = some e) : exec c s = .next (stallBundle s e) ∨
    ∃ slot last ecc act, exec c s = .next (slotOp s e slot last ecc act) := by
  cases c <;> cases h
  case xfer g =>
    rw [exec_xfer, execXfer]
    split
    · exact .inl rfl
    · exact .inr ⟨_, _, _, _, rfl⟩
  case xwait g =>
    rw [exec_xwait, execXwait]
    split
    · exact .inl rfl
    · exact .inr ⟨_, _, _, _, rfl⟩
  all_goals exact .inr ⟨_, _, _, _, rfl⟩

/-- Settles O8: every operation of a slot is a slot operation of its own engine or makes that engine wait. -/
theorem slotOperationsTouchOneEngine : Obligations.SlotOperationsTouchOneEngine := by
  unfold Obligations.SlotOperationsTouchOneEngine
  intro c s t e hslot hexec
  have hone : OneEngine e s t := by
    rcases exec_slot (s := s) hslot with h | ⟨slot, last, ecc, act, h⟩
    · cases h.symm.trans hexec
      exact stallBundle_oneEngine ..
    · cases h.symm.trans hexec
      exact slotOp_oneEngine ..
  exact ⟨hone.mem, hone.others⟩

end Sys2Proof.Machine
end

section
/-!
What an operation of a slot adds to its engine (R300, R304, R306): results in flight, and the registers, pointers, words and stores of its
bundle.  From it: what every register holds once all results are written, and what stands in the engine once the bundle has issued.
-/

namespace Sys2Proof.Machine

variable {s : State} {e slot ecc : Nat} {last : Bool} {act : Eng → Nat ⊕ Eng} {x : Eng} {a b : SlotWork}

/-! ## Work of a slot -/

/-- What an operation of a slot adds: results in flight, and what its bundle holds. -/
structure SlotWork where
  flight : List Flight := []
  writes : List (Nat × Nat) := []
  ptrs : List Nat := []
  words : List Nat := []
  stores : List (Nat × Nat × List Byte) := []
  stored : List Nat := []

/-- One work after another. -/
def SlotWork.and (a b : SlotWork) : SlotWork :=
  ⟨a.flight ++ b.flight, a.writes ++ b.writes, a.ptrs ++ b.ptrs, a.words ++ b.words, a.stores ++ b.stores, a.stored ++ b.stored⟩

/-- An engine with the work of an operation added. -/
def Eng.does (x : Eng) (a : SlotWork) : Eng :=
  { x with flight := x.flight ++ a.flight,
           bundle := { x.bundle with writes := x.bundle.writes ++ a.writes, ptrs := x.bundle.ptrs ++ a.ptrs, words := x.bundle.words ++ a.words,
                                     stores := x.bundle.stores ++ a.stores, stored := x.bundle.stored ++ a.stored } }

theorem does_does (x : Eng) (a b : SlotWork) : (x.does a).does b = x.does (a.and b) := by
  simp only [Eng.does, SlotWork.and, List.append_assoc]

theorem does_nothing (x : Eng) : x.does {} = x := by
  simp only [Eng.does, List.append_nil]

/-- A result of latency `l` to a register, on its way. -/
def Eng.result (x : Eng) (l key : Nat) (v : FVal) (mac : Bool := false) : Flight := ⟨x.issue + l, key, v, mac, x.issue⟩

/-- Sticky flags to be set with a result: none for an empty mask. -/
def Eng.flags (x : Eng) (l mask : Nat) : List Flight := if mask = 0 then [] else [x.result l 94 (.flags mask)]

theorem reg_of_mem_flags {l mask : Nat} {f : Flight} (h : f ∈ x.flags l mask) : f.reg = 94 := by
  rw [Eng.flags] at h
  split at h
  · cases h
  · rw [List.mem_singleton.1 h]
    rfl

theorem due_of_mem_flags {l mask : Nat} {f : Flight} (h : f ∈ x.flags l mask) : f.due = x.issue + l := by
  rw [Eng.flags] at h
  split at h
  · cases h
  · rw [List.mem_singleton.1 h]
    rfl

theorem send_eq (x : Eng) (l key : Nat) (v : FVal) (mac : Bool) :
    x.send l key v mac = x.does { flight := [x.result l key v mac], writes := [(key, l)] } := by
  simp only [Eng.does, List.append_nil]
  rfl

theorem flag_eq (x : Eng) (l mask : Nat) : x.flag l mask = x.does { flight := x.flags l mask } := by
  rw [Eng.flag, Eng.flags]
  split
  · exact (does_nothing x).symm
  · simp only [Eng.does, List.append_nil]
    rfl

/-- A complex result with its flag EOV (R311). -/
theorem sendC_eq (x : Eng) (l d : Nat) (c : Cplx) : x.sendC l d c =
    x.does { flight := x.result l (d % 32) (.num (wordOf c)) :: x.flags l (if fits16 c then 0 else 16), writes := [(d % 32, l)] } := by
  rw [Eng.sendC, flag_eq, send_eq, does_does]
  rfl

/-- An accumulator's result with its flag AOV (R311). -/
theorem sendA_eq (x : Eng) (l k : Nat) (c : Cplx) (mac : Bool) : x.sendA l k c mac =
    x.does { flight := x.result l (32 + k % 4) (.acc (acc40 c)) mac :: x.flags l (if acc40 c = c then 0 else 8), writes := [(32 + k % 4, l)] } := by
  rw [Eng.sendA, flag_eq, send_eq, does_does]
  rfl

/-! ## An operation that joins its bundle -/

/-- The registers once every result is written, after an operation that has joined its bundle. -/
theorem regs_drain_joined (h : GeReady s e slot last ecc) (hact : act (s.eng e) = .inr ((s.eng e).does a)) :
    ((slotOp s e slot last ecc act).eng e).drain.regs = (a.flight.foldl Eng.land (s.eng e).drain).regs := by
  obtain ⟨he, hrun, hfree, hlast, hecc⟩ := h
  rw [slotOp_of_joins he hrun hfree hecc hact hlast, eng_setEng]
  exact regs_drain_of_flight rfl rfl

theorem eng_joined (h : GeReady s e slot last ecc) (hact : act (s.eng e) = .inr x) : (slotOp s e slot last ecc act).eng e = x.takes slot := by
  obtain ⟨he, hrun, hfree, hlast, hecc⟩ := h
  rw [slotOp_of_joins he hrun hfree hecc hact hlast, eng_setEng]

/-- A number on its way to a D register, with nothing else that reaches one, is all that the D registers then show. -/
theorem geReg_joined (h : GeReady s e slot last ecc) (hact : act (s.eng e) = .inr ((s.eng e).does a)) {f : Flight} {fs : List Flight} {d v : Nat}
    (ha : a.flight = f :: fs) (hkey : f.key = d % 32) (hval : f.val = .num v) (hfs : ∀ g ∈ fs, 32 ≤ g.reg) :
    GeReg s (slotOp s e slot last ecc act) e d (v % 2 ^ 32) := by
  have hregs := regs_drain_joined h hact
  have hspare (i : Nat) : ∀ g ∈ fs, g.reg ≠ i % 32 := fun g hg => by have := hfs g hg; omega
  rw [ha, List.foldl_cons] at hregs
  refine ⟨?_, fun i hi hne => ?_⟩
  · rw [dr_of_regs hregs, dr_foldl_land_other (hspare d), dr_land_num hkey hval]
  · rw [dr_of_regs hregs, dr_foldl_land_other (hspare i), dr_land_other]
    rw [Flight.reg, hval, hkey]
    simp only
    omega

theorem send_joined (h : GeReady s e slot last ecc) {l d v : Nat} {mac : Bool}
    (hact : act (s.eng e) = .inr ((s.eng e).send l (d % 32) (.num v) mac)) : GeReg s (slotOp s e slot last ecc act) e d (v % 2 ^ 32) := by
  rw [send_eq] at hact
  exact geReg_joined h hact rfl rfl rfl fun g hg => nomatch hg

theorem send_joined_of_lt (h : GeReady s e slot last ecc) {l d v : Nat} {mac : Bool} (hv : v < 2 ^ 32)
    (hact : act (s.eng e) = .inr ((s.eng e).send l (d % 32) (.num v) mac)) : GeReg s (slotOp s e slot last ecc act) e d v := by
  have hreg := send_joined h hact
  rwa [Nat.mod_eq_of_lt hv] at hreg

/-- The same of an accumulator. -/
theorem geAcc_joined (h : GeReady s e slot last ecc) (hact : act (s.eng e) = .inr ((s.eng e).does a)) {f : Flight} {fs : List Flight} {k : Nat}
    {c : Cplx} (ha : a.flight = f :: fs) (hkey : f.key = 32 + k % 4) (hval : f.val = .acc c) (hfs : ∀ g ∈ fs, g.reg = 94) :
    GeAcc s (slotOp s e slot last ecc act) e k c := by
  have hregs := regs_drain_joined h hact
  have hspare (i : Nat) : ∀ g ∈ fs, g.reg ≠ 32 + i % 4 := fun g hg => by have := hfs g hg; omega
  rw [ha, List.foldl_cons] at hregs
  refine ⟨?_, fun i hi hne => ?_⟩
  · rw [ac_of_regs hregs, ac_foldl_land_other (hspare k), ac_land_acc hkey hval]
  · rw [ac_of_regs hregs, ac_foldl_land_other (hspare i), ac_land_other]
    rw [Flight.reg, hval, hkey]
    simp only
    omega

/-- The same of the register of a code. -/
theorem geCtl_joined (h : GeReady s e slot last ecc) (hact : act (s.eng e) = .inr ((s.eng e).does a)) {f : Flight} {c v : Nat}
    (ha : a.flight = [f]) (hkey : f.key = 64 + c) (hval : f.val = .num v) : GeCtl s (slotOp s e slot last ecc act) e c (crKeeps c v) := by
  have hregs := regs_drain_joined h hact
  rw [ha] at hregs
  refine ⟨?_, fun i hi hne => ?_⟩
  · rw [cr_of_regs hregs]
    exact cr_land_num hkey hval
  · rw [cr_of_regs hregs]
    refine cr_land_other ?_
    rw [Flight.reg, hval, hkey]
    simp only
    omega

/-! ## An operation that ends its bundle -/

theorem dmem_stored_takes (x : Eng) (slot : Nat) : (x.takes slot).stored.dmem = x.stored.dmem :=
  dmem_foldl_store (x := x.takes slot) (y := x) rfl _

/-- An operation that ends a legal bundle issues it with the work of all its slots. -/
theorem issued_of_does (h : GeIssues s e slot last ecc a.writes a.ptrs) (hgoes : GeGoes s e)
    (hact : act (s.eng e) = .inr ((s.eng e).does a)) : Issued ((s.eng e).does a) ((slotOp s e slot last ecc act).eng e) := by
  obtain ⟨⟨he, hrun, hjob, hfree, hlast, hecc⟩, hwrites, hptrs, ⟨hfin, hyield⟩, hloop⟩ := h
  obtain ⟨j, hj⟩ := Option.ne_none_iff_exists'.1 hjob
  rw [slotOp_of_issues he hrun hfree hecc hact hlast]
  have heng : ((eccCounted s e ecc).setEng e (((s.eng e).does a).takes slot)).eng e = ((s.eng e).does a).takes slot := eng_setEng ..
  have hdup : dupWrites (((s.eng e).does a).takes slot).bundle = false := by
    simp only [dupWrites, Eng.takes, Eng.does, hwrites, hptrs, not_true_eq_false, decide_false, Bool.or_false]
  have hlegal : ¬ ((((s.eng e).does a).takes slot).bundle.slots.contains 4 = true ∧ loopNext (((s.eng e).does a).takes slot) ≠ []) := by
    rintro ⟨h4, hne⟩
    refine hne (hloop ?_)
    rw [List.contains_iff_mem] at h4
    rcases List.mem_append.1 h4 with h4 | h4
    · exact .inr h4
    · exact .inl (List.mem_singleton.1 h4).symm
  rw [endBundle_of_legal (j := j) (by rw [heng]; exact hj) (by rw [heng]; exact hdup) (by rw [heng]; exact hlegal) (by rw [heng]; exact hfin)
    (by rw [heng]; exact hyield) (by rw [heng]; exact hgoes), eng_setEng, heng]
  have hissued := issued_issued (((s.eng e).does a).takes slot) j
  exact { hissued with dmem := hissued.dmem.trans (dmem_stored_takes ..) }

theorem geIssued_of_does (h : GeIssues s e slot last ecc a.writes a.ptrs) (hgoes : GeGoes s e)
    (hact : act (s.eng e) = .inr ((s.eng e).does a)) : GeIssued s (slotOp s e slot last ecc act) e (bundleGoes (s.eng e)) := by
  have hissued := issued_of_does h hgoes hact
  exact ⟨hissued.st.trans h.1.2.1, hissued.issue, hissued.pc, hissued.bundle⟩

/-- A result of latency 2 is in flight when its bundle has issued. -/
theorem geSent_of_does (h : GeIssues s e slot last ecc a.writes a.ptrs) (hgoes : GeGoes s e)
    (hact : act (s.eng e) = .inr ((s.eng e).does a)) {key : Nat} {v : FVal} {mac : Bool} (hf : (s.eng e).result 2 key v mac ∈ a.flight) :
    GeSent s (slotOp s e slot last ecc act) e 2 key v mac := by
  rw [GeSent, (issued_of_does h hgoes hact).flight]
  exact List.mem_filter.2 ⟨List.mem_append_right _ hf, decide_eq_true (Nat.lt_succ_self _)⟩

/-- Once a bundle has issued, the results that the operation makes in it with latency 1 were the last writers of every register but BX. -/
theorem reads_of_does (h : GeIssues s e slot last ecc a.writes a.ptrs) (hgoes : GeGoes s e)
    (hact : act (s.eng e) = .inr ((s.eng e).does a)) {fs : List Flight}
    (hfs : a.flight.filter (fun f => f.due ≤ (s.eng e).issue + 1) = fs) : ∃ w : Eng,
    (∀ i, ((slotOp s e slot last ecc act).eng e).dr i = (fs.foldl Eng.land w).dr i) ∧
    (∀ k, ((slotOp s e slot last ecc act).eng e).ac k = (fs.foldl Eng.land w).ac k) ∧
    ∀ c, c ≠ 31 → ((slotOp s e slot last ecc act).eng e).cr c = (fs.foldl Eng.land w).cr c := by
  obtain ⟨w, hreads⟩ := (issued_of_does h hgoes hact).lands
  have hsplit : ((s.eng e).does a).flight.filter (fun f => f.due ≤ ((s.eng e).does a).issue + 1) =
      (s.eng e).flight.filter (fun f => f.due ≤ (s.eng e).issue + 1) ++ fs := by
    rw [← hfs]
    exact List.filter_append ..
  rw [hsplit, List.foldl_append] at hreads
  exact ⟨_, hreads⟩

theorem send_sent {key : Nat} {v : FVal} {mac : Bool} (h : GeIssues s e slot last ecc [(key, 2)] []) (hgoes : GeGoes s e)
    (hact : act (s.eng e) = .inr ((s.eng e).send 2 key v mac)) :
    GeIssued s (slotOp s e slot last ecc act) e (bundleGoes (s.eng e)) ∧ GeSent s (slotOp s e slot last ecc act) e 2 key v mac := by
  rw [send_eq] at hact
  exact ⟨geIssued_of_does h hgoes hact, geSent_of_does h hgoes hact List.mem_cons_self⟩

end Sys2Proof.Machine
end

section
/-!
The complex operations of the compute slot (R306, R310 to R312), and with them the settlement of O28: one law for the operations of two
complex operands, by whether the operation joins its bundle or ends it.
-/

namespace Sys2Proof.Machine

variable {s : State} {g : GeC} {l : Nat} {f : Cplx → Cplx → Cplx}

/-! ## Ranges -/

theorem ofSigned_lt (bits : Nat) (v : Int) : ofSigned bits v < 2 ^ bits := by
  have hpos : (0 : Int) < (2 ^ bits : Nat) := by positivity
  have h0 := Int.emod_nonneg v (ne_of_gt hpos)
  have h1 := Int.emod_lt_of_pos v hpos
  rw [ofSigned]
  omega

theorem wordOf_lt (c : Cplx) : wordOf c < 2 ^ 32 := by
  have hre := ofSigned_lt 16 c.re
  have him := ofSigned_lt 16 c.im
  rw [wordOf]
  omega

/-- A part of a word in absolute value. -/
theorem natAbs_toSigned_le (v : Nat) : (toSigned 16 v).natAbs ≤ 2 ^ 15 := by
  have hlt : v % 2 ^ 16 < 2 ^ 16 := Nat.mod_lt _ (by decide)
  unfold toSigned
  dsimp only
  split <;> omega

theorem square_le_of_natAbs {a : Int} (h : a.natAbs ≤ 2 ^ 15) : a * a ≤ 2 ^ 30 := by
  have hsq := Nat.mul_le_mul h h
  rw [← Int.natAbs_mul_self]
  omega

/-- MAG2's result fits a register (R310). -/
theorem mag2_lt (w : Nat) : ((cOf w).re * (cOf w).re + (cOf w).im * (cOf w).im).toNat / 2 ^ 15 < 2 ^ 32 := by
  have hre : (cOf w).re * (cOf w).re ≤ 2 ^ 30 := square_le_of_natAbs (natAbs_toSigned_le _)
  have him : (cOf w).im * (cOf w).im ≤ 2 ^ 30 := square_le_of_natAbs (natAbs_toSigned_le _)
  omega

/-! ## The flag EOV (R311) -/

/-- EOV once a result and its flag have landed: set before, or as the result did not fit. -/
theorem bitOf_cr_foldl_flags (x y : Eng) (l : Nat) (fits : Bool) :
    bitOf (((x.flags l (if fits then 0 else 16)).foldl Eng.land y).cr 30) 4 = (bitOf (y.cr 30) 4 || !fits) := by
  cases fits with
  | true => exact (Bool.or_false _).symm
  | false => exact bitOf_cr_land_flags (f := x.result l 94 (.flags 16)) rfl (by decide)

/-! ## Operations of two complex operands -/

/-- An operation that sends a complex result and joins its bundle leaves the result and EOV. -/
theorem complex_joined {act : Eng → Nat ⊕ Eng} {c : Cplx} (h : GeReady s g.e 0 g.last g.ecc)
    (hact : act (s.eng g.e) = .inr ((s.eng g.e).sendC l g.dst c)) :
    GeReg s (slotOp s g.e 0 g.last g.ecc act) g.e g.dst (wordOf c) ∧
    bitOf (((slotOp s g.e 0 g.last g.ecc act).eng g.e).drain.cr 30) 4 = (bitOf ((s.eng g.e).drain.cr 30) 4 || !fits16 c) := by
  rw [sendC_eq] at hact
  constructor
  · have hreg := geReg_joined h hact rfl rfl rfl fun f hf => by rw [reg_of_mem_flags hf]; decide
    rwa [Nat.mod_eq_of_lt (wordOf_lt c)] at hreg
  · rw [cr_of_regs (regs_drain_joined h hact), List.foldl_cons, bitOf_cr_foldl_flags, cr_land_other]
    have := Nat.mod_lt g.dst (by decide : 32 > 0)
    simp only [Flight.reg, Eng.result]
    omega

/-- One that ends its bundle with latency 1 leaves both too. -/
theorem complex_issued {act : Eng → Nat ⊕ Eng} {c : Cplx} (h : GeIssues s g.e 0 g.last g.ecc [(g.dst % 32, 1)] []) (hgoes : GeGoes s g.e)
    (hact : act (s.eng g.e) = .inr ((s.eng g.e).sendC 1 g.dst c)) :
    GeIssued s (slotOp s g.e 0 g.last g.ecc act) g.e (bundleGoes (s.eng g.e)) ∧
    ((slotOp s g.e 0 g.last g.ecc act).eng g.e).dr g.dst = wordOf c ∧
    (fits16 c = false → bitOf (((slotOp s g.e 0 g.last g.ecc act).eng g.e).cr 30) 4 = true) := by
  rw [sendC_eq] at hact
  refine ⟨geIssued_of_does h hgoes hact, ?_⟩
  obtain ⟨w, hdr, -, hcr⟩ := reads_of_does h hgoes hact (fs := _ :: _) (List.filter_eq_self.2 fun f hf => by
    rcases List.mem_cons.1 hf with rfl | hf
    · exact decide_eq_true (Nat.le_refl _)
    · exact decide_eq_true (Nat.le_of_eq (due_of_mem_flags hf)))
  constructor
  · rw [hdr, List.foldl_cons, dr_foldl_land_other fun f hf => ?_, dr_land_num rfl rfl, Nat.mod_eq_of_lt (wordOf_lt c)]
    rw [reg_of_mem_flags hf]
    omega
  · intro hfits
    rw [hcr 30 (by decide), List.foldl_cons, bitOf_cr_foldl_flags, hfits]
    exact Bool.or_true _

/-- One that ends its bundle with latency 2 has the result in flight. -/
theorem complex_sent {act : Eng → Nat ⊕ Eng} {c : Cplx} {d : Nat} (h : GeIssues s g.e 0 g.last g.ecc [(d % 32, 2)] []) (hgoes : GeGoes s g.e)
    (hact : act (s.eng g.e) = .inr ((s.eng g.e).sendC 2 d c)) :
    GeIssued s (slotOp s g.e 0 g.last g.ecc act) g.e (bundleGoes (s.eng g.e)) ∧
    GeSent s (slotOp s g.e 0 g.last g.ecc act) g.e 2 (d % 32) (.num (wordOf c)) false := by
  rw [sendC_eq] at hact
  exact ⟨geIssued_of_does h hgoes hact, geSent_of_does h hgoes hact List.mem_cons_self⟩

section Binary

variable {c : Instr} {f : Cplx → Cplx → Cplx} {l : Nat}

theorem completes_geBin_joined (hexec : exec c s = .next (geBin g l f s)) (h : GeReady s g.e 0 g.last g.ecc) : Completes c s fun t =>
    GeReg s t g.e g.dst (wordOf (f (cOf ((s.eng g.e).dr g.sa)) (cOf ((s.eng g.e).dr g.sb)))) ∧
    bitOf ((t.eng g.e).drain.cr 30) 4 =
      (bitOf ((s.eng g.e).drain.cr 30) 4 || !fits16 (f (cOf ((s.eng g.e).dr g.sa)) (cOf ((s.eng g.e).dr g.sb)))) :=
  ⟨_, hexec, complex_joined h rfl⟩

theorem completes_geBin_issued (hexec : exec c s = .next (geBin g 1 f s)) (h : GeIssues s g.e 0 g.last g.ecc [(g.dst % 32, 1)] [])
    (hgoes : GeGoes s g.e) : Completes c s fun t => GeIssued s t g.e (bundleGoes (s.eng g.e)) ∧
      (t.eng g.e).dr g.dst = wordOf (f (cOf ((s.eng g.e).dr g.sa)) (cOf ((s.eng g.e).dr g.sb))) ∧
      (fits16 (f (cOf ((s.eng g.e).dr g.sa)) (cOf ((s.eng g.e).dr g.sb))) = false → bitOf ((t.eng g.e).cr 30) 4 = true) :=
  ⟨_, hexec, complex_issued h hgoes rfl⟩

theorem completes_geBin_sent (hexec : exec c s = .next (geBin g 2 f s)) (h : GeIssues s g.e 0 g.last g.ecc [(g.dst % 32, 2)] [])
    (hgoes : GeGoes s g.e) : Completes c s fun t => GeIssued s t g.e (bundleGoes (s.eng g.e)) ∧
      GeSent s t g.e 2 (g.dst % 32) (.num (wordOf (f (cOf ((s.eng g.e).dr g.sa)) (cOf ((s.eng g.e).dr g.sb))))) false :=
  ⟨_, hexec, complex_sent h hgoes rfl⟩

end Binary

/-! ## NOP and MAG2 -/

/-- NOP leaves all of the engine but its bundle (R306). -/
theorem nop_drain (h : GeReady s g.e 0 g.last g.ecc) :
    ((slotOp s g.e 0 g.last g.ecc (fun x => .inr x)).eng g.e).drain =
      { (s.eng g.e).drain with bundle := ((slotOp s g.e 0 g.last g.ecc (fun x => .inr x)).eng g.e).bundle } := by
  rw [eng_joined h rfl, Eng.drain, Eng.drain, foldl_land_eq, foldl_land_eq (s.eng g.e),
    regs_foldl_land (x := (s.eng g.e).takes 0) (y := s.eng g.e) rfl]
  rfl

theorem completes_mag2_joined (h : GeReady s g.e 0 g.last g.ecc) : Completes (.mag2 g) s fun t => GeReg s t g.e g.dst
    (((cOf ((s.eng g.e).dr g.sa)).re * (cOf ((s.eng g.e).dr g.sa)).re +
      (cOf ((s.eng g.e).dr g.sa)).im * (cOf ((s.eng g.e).dr g.sa)).im).toNat / 2 ^ 15) := by
  exact ⟨_, exec_mag2 .., send_joined_of_lt h (mag2_lt _) rfl⟩

theorem completes_mag2_sent (h : GeIssues s g.e 0 g.last g.ecc [(g.dst % 32, 2)] []) (hgoes : GeGoes s g.e) :
    Completes (.mag2 g) s fun t => GeIssued s t g.e (bundleGoes (s.eng g.e)) ∧ GeSent s t g.e 2 (g.dst % 32)
      (.num (((cOf ((s.eng g.e).dr g.sa)).re * (cOf ((s.eng g.e).dr g.sa)).re +
        (cOf ((s.eng g.e).dr g.sa)).im * (cOf ((s.eng g.e).dr g.sa)).im).toNat / 2 ^ 15)) false := by
  exact ⟨_, exec_mag2 .., send_sent h hgoes rfl⟩

/-! ## The obligation -/

/-- Settles O28: the operations of complex operands by one law for those that join their bundle and one for those that end it; NOP and MAG2
by the registers that a result reaches. -/
theorem complexArithmeticResults : Obligations.ComplexArithmeticResults := by
  unfold Obligations.ComplexArithmeticResults
  refine ⟨fun _ _ h => ⟨_, exec_nop .., nop_drain h⟩, ?_⟩
  -- the operations join their bundle
  refine ⟨fun _ _ => completes_geBin_joined (f := cadd) (exec_add ..), fun _ _ => completes_geBin_joined (f := csub) (exec_sub ..),
    fun _ _ => completes_geBin_joined (f := fun a b => cshr (cadd a b) 1) (exec_addh ..),
    fun _ _ => completes_geBin_joined (f := fun a b => cshr (csub a b) 1) (exec_subh ..),
    fun _ _ => completes_geBin_joined (f := fun a _ => ⟨-a.re, -a.im⟩) (exec_neg ..),
    fun _ _ => completes_geBin_joined (f := fun a _ => cconj a) (exec_conj ..),
    fun _ _ => completes_geBin_joined (f := fun a _ => ⟨a.im, a.re⟩) (exec_swap ..),
    fun _ g => completes_geBin_joined (f := fun a _ => ⟨a.re * 2 ^ (g.sb % 16), a.im * 2 ^ (g.sb % 16)⟩) (exec_shl ..),
    fun _ g => completes_geBin_joined (f := fun a _ => cshr a (g.sb % 32)) (exec_shr ..),
    fun _ _ => completes_geBin_joined (f := fun a _ => a) (exec_mov ..),
    fun _ g => completes_geBin_joined (f := fun a b => cmul15 a (cjOf g.cj b)) (exec_cmul ..), fun _ _ => completes_mag2_joined, ?_⟩
  -- they end it
  exact ⟨fun _ _ => completes_geBin_issued (f := cadd) (exec_add ..), fun _ _ => completes_geBin_issued (f := csub) (exec_sub ..),
    fun _ _ => completes_geBin_issued (f := fun a b => cshr (cadd a b) 1) (exec_addh ..),
    fun _ _ => completes_geBin_issued (f := fun a b => cshr (csub a b) 1) (exec_subh ..),
    fun _ _ => completes_geBin_issued (f := fun a _ => ⟨-a.re, -a.im⟩) (exec_neg ..),
    fun _ _ => completes_geBin_issued (f := fun a _ => cconj a) (exec_conj ..),
    fun _ _ => completes_geBin_issued (f := fun a _ => ⟨a.im, a.re⟩) (exec_swap ..),
    fun _ g => completes_geBin_issued (f := fun a _ => ⟨a.re * 2 ^ (g.sb % 16), a.im * 2 ^ (g.sb % 16)⟩) (exec_shl ..),
    fun _ g => completes_geBin_issued (f := fun a _ => cshr a (g.sb % 32)) (exec_shr ..),
    fun _ _ => completes_geBin_issued (f := fun a _ => a) (exec_mov ..),
    fun _ g => completes_geBin_sent (f := fun a b => cmul15 a (cjOf g.cj b)) (exec_cmul ..), fun _ _ => completes_mag2_sent⟩

end Sys2Proof.Machine
end

section
/-!
The faults of kernels (R301, R303, R307, R322, R332), and with them the settlement of O33: an operation that breaks a rule, or reads what
cannot be corrected, ends the job, and the event of a fault fires.
-/

namespace Sys2Proof.Machine

variable {c : Instr} {s : State} {e slot ecc : Nat} {last : Bool} {act : Eng → Nat ⊕ Eng} {j : Job}

/-! ## Faults of an operation -/

theorem completes_fault (hexec : exec c s = .next (slotOp s e slot last ecc act)) (h : GeReady s e slot last ecc)
    (hjob : (s.eng e).job = some j) {code : Nat} (hact : act (s.eng e) = .inl code) (hcode : 0x80 ≤ code) :
    Completes c s fun t => (t.eng e).job = none ∧ Fires t 96 := by
  obtain ⟨he, hrun, hfree, -, hecc⟩ := h
  refine ⟨_, hexec, ?_⟩
  rw [slotOp_of_fault he hrun hfree hecc hact]
  exact endJob_faults ((congrArg Eng.job (eccCounted_eng ..)).trans hjob) hcode

/-- What cannot be corrected ends the job with fault ECC, whatever the operation (R322). -/
theorem completes_uncorrectable (hexec : exec c s = .next (slotOp s e slot last ecc act)) (he : e < 18) (hrun : (s.eng e).st = .running)
    (hfree : slotClash (s.eng e).bundle.slots slot = false) (hecc : ecc = 2) (hjob : (s.eng e).job = some j) :
    Completes c s fun t => (t.eng e).job = none ∧ Fires t 96 := by
  refine ⟨_, hexec, ?_⟩
  rw [slotOp_of_uncorrectable he hrun hfree hecc, eccFault]
  apply endJob_faults (code := 0x87)
  · exact hjob
  · decide

/-- A memory access with an odd register of a pair, or to an address that is not aligned to its size, is a fault (R301, R303). -/
theorem completes_geMem_fault {g : GeM} {size : Nat} {pair : Bool} {act : Eng → Nat → Eng} (hexec : exec c s = .next (geMem g size pair s act))
    (h : GeReady s g.e (if g.y then 2 else 1) g.last g.ecc) (hjob : (s.eng g.e).job = some j)
    (hbad : (pair = true ∧ g.reg % 2 = 1) ∨ (s.eng g.e).cr (g.ptr % 8) % size ≠ 0) :
    Completes c s fun t => (t.eng g.e).job = none ∧ Fires t 96 := by
  by_cases hillegal : (pair = true ∧ g.reg % 2 = 1) ∨ (g.am = 2 ∧ 4 ≤ g.ptr % 8)
  · exact completes_fault hexec h hjob (if_pos hillegal) (by decide)
  · have haddr : (s.eng g.e).cr (g.ptr % 8) % size ≠ 0 := hbad.resolve_left fun hodd => hillegal (.inl hodd)
    exact completes_fault hexec h hjob ((if_neg hillegal).trans (if_pos haddr)) (by decide)

/-- MOVB and MOVL know no register past the fourth (R301). -/
theorem completes_geAdr_fault {g : GeA} {code : Nat} {ok : Bool} {v : Eng → Nat} (hexec : exec c s = .next (geAdr g s code ok v))
    (h : GeReady s g.e 3 g.last g.ecc) (hjob : (s.eng g.e).job = some j) (hbad : ok = false) :
    Completes c s fun t => (t.eng g.e).job = none ∧ Fires t 96 :=
  completes_fault hexec h hjob (if_neg (ne_true_of_eq_false hbad)) (by decide)

/-! ## The obligation -/

/-- Settles O33: each clause by the fault that the operation's own check gives. -/
theorem kernelFaultsEndTheJob : Obligations.KernelFaultsEndTheJob := by
  unfold Obligations.KernelFaultsEndTheJob
  refine ⟨fun s g j h hjob hbad => ?cmac4, fun s g j h hjob hbad => ?cmacb, fun s g j h hjob hbad => ?cdot, fun s g j h hjob hbad => ?bfly,
    fun s g j h hjob hbad => ?ldD, fun s g j h hjob hbad => ?stD, fun s g j h hjob hbad => ?ldW, fun s g j h hjob hbad => ?stW,
    fun s g j h hjob hbad => ?ldH, fun s g j h hjob hbad => ?movb, fun s g j h hjob hbad => ?movl, fun s g j h hjob hfull => ?call,
    fun s g j h hjob hempty => ?ret, fun s g j he hrun hfree hecc hjob => ?add⟩
  case cmac4 => exact completes_fault (exec_cmac4 ..) h hjob (if_pos (.inl hbad)) (by decide)
  case cmacb => exact completes_fault (exec_cmacb ..) h hjob (if_pos hbad) (by decide)
  case cdot => exact completes_fault (exec_cdot ..) h hjob (if_pos (.inr hbad)) (by decide)
  case bfly => exact completes_fault (exec_bfly ..) h hjob (if_pos (.inl hbad)) (by decide)
  case ldD => exact completes_geMem_fault (exec_ldD ..) h hjob (.inl ⟨rfl, hbad⟩)
  case stD => exact completes_geMem_fault (exec_stD ..) h hjob (.inl ⟨rfl, hbad⟩)
  case ldW => exact completes_geMem_fault (exec_ldW ..) h hjob (.inr hbad)
  case stW => exact completes_geMem_fault (exec_stW ..) h hjob (.inr hbad)
  case ldH => exact completes_geMem_fault (exec_ldH ..) h hjob (.inr hbad)
  case movb => exact completes_geAdr_fault (exec_movb ..) h hjob (decide_eq_false (Nat.not_lt.2 hbad))
  case movl => exact completes_geAdr_fault (exec_movl ..) h hjob (decide_eq_false (Nat.not_lt.2 hbad))
  case call => exact completes_fault (exec_call ..) h hjob (if_pos hfull) (by decide)
  case ret => exact completes_fault (exec_ret ..) h hjob (code := 0x84) (by rw [hempty]) (by decide)
  case add => exact completes_uncorrectable (exec_add ..) he hrun hfree hecc hjob

end Sys2Proof.Machine
end

section
/-!
The accumulators, what is taken from them, and the butterfly (R308, R310 to R314), and with them the settlement of O30.
-/

namespace Sys2Proof.Machine

variable {s : State} {g : GeC} {act : Eng → Nat ⊕ Eng} {x : Eng}

/-! ## One accumulator -/

theorem sendA_joined (h : GeReady s g.e 0 g.last g.ecc) {l k : Nat} {c : Cplx} {mac : Bool}
    (hact : act (s.eng g.e) = .inr ((s.eng g.e).sendA l k c mac)) : GeAcc s (slotOp s g.e 0 g.last g.ecc act) g.e k (acc40 c) := by
  rw [sendA_eq] at hact
  exact geAcc_joined h hact rfl rfl rfl fun f hf => reg_of_mem_flags hf

theorem sendA_sent {k : Nat} {c : Cplx} {mac : Bool} (h : GeIssues s g.e 0 g.last g.ecc [(32 + k % 4, 2)] []) (hgoes : GeGoes s g.e)
    (hact : act (s.eng g.e) = .inr ((s.eng g.e).sendA 2 k c mac)) :
    GeIssued s (slotOp s g.e 0 g.last g.ecc act) g.e (bundleGoes (s.eng g.e)) ∧
    GeSent s (slotOp s g.e 0 g.last g.ecc act) g.e 2 (32 + k % 4) (.acc (acc40 c)) mac := by
  rw [sendA_eq] at hact
  exact ⟨geIssued_of_does h hgoes hact, geSent_of_does h hgoes hact List.mem_cons_self⟩

/-! ## All four accumulators -/

/-- The results that reach all four accumulators, each with its flag. -/
def Eng.quad (x : Eng) (l : Nat) (v : Nat → Cplx) (mask : Nat → Nat) : List Flight :=
  [0, 1, 2, 3].flatMap fun j => x.result l (32 + j % 4) (.acc (v j)) true :: x.flags l (mask j)

theorem mem_quad {l j : Nat} {v : Nat → Cplx} {mask : Nat → Nat} (hj : j < 4) : x.result l (32 + j) (.acc (v j)) true ∈ x.quad l v mask := by
  have hmem : j ∈ [0, 1, 2, 3] := by simp only [List.mem_cons, List.not_mem_nil, or_false]; omega
  refine List.mem_flatMap.2 ⟨j, hmem, List.mem_cons.2 (.inl ?_)⟩
  rw [Nat.mod_eq_of_lt hj]

/-- Once they have landed, each accumulator holds its own. -/
theorem ac_foldl_quad {l k : Nat} (v : Nat → Cplx) (mask : Nat → Nat) (hk : k < 4) (w : Eng) :
    ((x.quad l v mask).foldl Eng.land w).ac k = v k := by
  refine ac_foldl_land (fun f hf hreg => ?_) ⟨_, mem_quad hk, ?_⟩
  · obtain ⟨j, hj, hf⟩ := List.mem_flatMap.1 hf
    rcases List.mem_cons.1 hf with rfl | hf
    · simp only [Flight.reg, Eng.result] at hreg
      have hlt : j < 4 := by simp only [List.mem_cons, List.not_mem_nil, or_false] at hj; omega
      obtain rfl : j = k := by omega
      exact ⟨rfl, rfl⟩
    · rw [reg_of_mem_flags hf] at hreg
      omega
  · simp only [Flight.reg, Eng.result]
    omega

theorem foldl_sendA_eq (x : Eng) (v : Nat → Cplx) : (List.range 4).foldl (fun y j => y.sendA 2 j (v j) true) x =
    x.does { flight := x.quad 2 (fun j => acc40 (v j)) (fun j => if acc40 (v j) = v j then 0 else 8),
             writes := [(32, 2), (33, 2), (34, 2), (35, 2)] } := by
  change (((x.sendA 2 0 (v 0) true).sendA 2 1 (v 1) true).sendA 2 2 (v 2) true).sendA 2 3 (v 3) true = _
  simp only [sendA_eq, does_does, Eng.quad, List.flatMap_cons, List.flatMap_nil, List.append_nil]
  simp only [SlotWork.and, List.append_assoc, List.cons_append]
  rfl

theorem foldl_clear_eq (x : Eng) : (List.range 4).foldl (fun x k => x.send 1 (32 + k) (.acc ⟨0, 0⟩) true) x =
    x.does { flight := x.quad 1 (fun _ => ⟨0, 0⟩) (fun _ => 0), writes := [(32, 1), (33, 1), (34, 1), (35, 1)] } := by
  change (((x.send 1 32 _ true).send 1 33 _ true).send 1 34 _ true).send 1 35 _ true = _
  simp only [send_eq, does_does]
  rfl

/-- Four MACs that join their bundle leave their sums in the accumulators (R308). -/
theorem quad_joined (h : GeReady s g.e 0 g.last g.ecc) {v : Nat → Cplx}
    (hact : act (s.eng g.e) = .inr ((List.range 4).foldl (fun y j => y.sendA 2 j (v j) true) (s.eng g.e))) :
    ∀ j < 4, ((slotOp s g.e 0 g.last g.ecc act).eng g.e).drain.ac j = acc40 (v j) := by
  rw [foldl_sendA_eq] at hact
  intro j hj
  rw [ac_of_regs (regs_drain_joined h hact)]
  dsimp only
  exact ac_foldl_quad (fun j => acc40 (v j)) _ hj _

theorem quad_sent (h : GeIssues s g.e 0 g.last g.ecc [(32, 2), (33, 2), (34, 2), (35, 2)] []) (hgoes : GeGoes s g.e) {v : Nat → Cplx}
    (hact : act (s.eng g.e) = .inr ((List.range 4).foldl (fun y j => y.sendA 2 j (v j) true) (s.eng g.e))) :
    GeIssued s (slotOp s g.e 0 g.last g.ecc act) g.e (bundleGoes (s.eng g.e)) ∧
    ∀ j < 4, GeSent s (slotOp s g.e 0 g.last g.ecc act) g.e 2 (32 + j) (.acc (acc40 (v j))) true := by
  rw [foldl_sendA_eq] at hact
  refine ⟨geIssued_of_does h hgoes hact, fun j hj => geSent_of_does h hgoes hact ?_⟩
  dsimp only
  exact mem_quad (v := fun j => acc40 (v j)) hj

/-- Cleared accumulators read 0 (R308). -/
theorem clear_joined (h : GeReady s g.e 0 g.last g.ecc)
    (hact : act (s.eng g.e) = .inr ((List.range 4).foldl (fun x k => x.send 1 (32 + k) (.acc ⟨0, 0⟩) true) (s.eng g.e))) :
    ∀ k < 4, ((slotOp s g.e 0 g.last g.ecc act).eng g.e).drain.ac k = ⟨0, 0⟩ := by
  rw [foldl_clear_eq] at hact
  intro k hk
  rw [ac_of_regs (regs_drain_joined h hact)]
  dsimp only
  exact ac_foldl_quad (fun _ => ⟨0, 0⟩) _ hk _

theorem due_of_mem_quad {l : Nat} {v : Nat → Cplx} {mask : Nat → Nat} {f : Flight} (h : f ∈ x.quad l v mask) : f.due = x.issue + l := by
  obtain ⟨j, -, hf⟩ := List.mem_flatMap.1 h
  rcases List.mem_cons.1 hf with rfl | hf
  · rfl
  · exact due_of_mem_flags hf

theorem clear_issued (h : GeIssues s g.e 0 g.last g.ecc [(32, 1), (33, 1), (34, 1), (35, 1)] []) (hgoes : GeGoes s g.e)
    (hact : act (s.eng g.e) = .inr ((List.range 4).foldl (fun x k => x.send 1 (32 + k) (.acc ⟨0, 0⟩) true) (s.eng g.e))) :
    GeIssued s (slotOp s g.e 0 g.last g.ecc act) g.e (bundleGoes (s.eng g.e)) ∧
    ∀ k < 4, ((slotOp s g.e 0 g.last g.ecc act).eng g.e).ac k = ⟨0, 0⟩ := by
  rw [foldl_clear_eq] at hact
  refine ⟨geIssued_of_does h hgoes hact, fun k hk => ?_⟩
  obtain ⟨w, -, hac, -⟩ := reads_of_does h hgoes hact (fs := (s.eng g.e).quad 1 (fun _ => ⟨0, 0⟩) fun _ => 0)
    (List.filter_eq_self.2 fun f hf => decide_eq_true (Nat.le_of_eq (due_of_mem_quad (v := fun _ => ⟨0, 0⟩) (mask := fun _ => 0) hf)))
  rw [hac k]
  exact ac_foldl_quad (fun _ => ⟨0, 0⟩) _ hk w

/-! ## A word with a flag, and the butterfly -/

/-- A complex word with a sticky flag of its own reaches its register (R310, R311). -/
theorem flagged_joined (h : GeReady s g.e 0 g.last g.ecc) {l m : Nat} {c : Cplx}
    (hact : act (s.eng g.e) = .inr (((s.eng g.e).send l (g.dst % 32) (.num (wordOf c))).flag l m)) :
    GeReg s (slotOp s g.e 0 g.last g.ecc act) g.e g.dst (wordOf c) := by
  rw [flag_eq, send_eq, does_does] at hact
  have hreg := geReg_joined h hact rfl rfl rfl fun f hf => by rw [reg_of_mem_flags hf]; decide
  rwa [Nat.mod_eq_of_lt (wordOf_lt c)] at hreg

theorem flagged_sent {m : Nat} {c : Cplx} (h : GeIssues s g.e 0 g.last g.ecc [(g.dst % 32, 2)] []) (hgoes : GeGoes s g.e)
    (hact : act (s.eng g.e) = .inr (((s.eng g.e).send 2 (g.dst % 32) (.num (wordOf c))).flag 2 m)) :
    GeIssued s (slotOp s g.e 0 g.last g.ecc act) g.e (bundleGoes (s.eng g.e)) ∧
    GeSent s (slotOp s g.e 0 g.last g.ecc act) g.e 2 (g.dst % 32) (.num (wordOf c)) false := by
  rw [flag_eq, send_eq, does_does] at hact
  exact ⟨geIssued_of_does h hgoes hact, geSent_of_does h hgoes hact List.mem_cons_self⟩

/-- The results of a butterfly: two complex words, each with its flag. -/
def Eng.pair (x : Eng) (d : Nat) (a b : Cplx) : SlotWork :=
  { flight := x.result 2 (d % 32) (.num (wordOf a)) :: (x.flags 2 (if fits16 a then 0 else 16) ++
      x.result 2 ((d + 1) % 32) (.num (wordOf b)) :: x.flags 2 (if fits16 b then 0 else 16)),
    writes := [(d % 32, 2), ((d + 1) % 32, 2)] }

theorem sendC_sendC_eq (x : Eng) (d : Nat) (a b : Cplx) : (x.sendC 2 d a).sendC 2 (d + 1) b = x.does (x.pair d a b) := by
  rw [sendC_eq, sendC_eq, does_does]
  rfl

/-- Of two words to different registers with their flags, each reaches its own. -/
theorem dr_foldl_pair (x w : Eng) (d : Nat) (a b : Cplx) :
    ((x.pair d a b).flight.foldl Eng.land w).dr d = wordOf a ∧ ((x.pair d a b).flight.foldl Eng.land w).dr (d + 1) = wordOf b := by
  have hflags (c : Cplx) (i : Nat) : ∀ f ∈ x.flags 2 (if fits16 c then 0 else 16), f.reg ≠ i % 32 := fun f hf => by
    rw [reg_of_mem_flags hf]
    omega
  simp only [Eng.pair, List.foldl_cons, List.foldl_append]
  constructor
  · rw [dr_foldl_land_other (hflags b d), dr_land_other, dr_foldl_land_other (hflags a d), dr_land_num rfl rfl, Nat.mod_eq_of_lt (wordOf_lt a)]
    simp only [Flight.reg, Eng.result]
    omega
  · rw [dr_foldl_land_other (hflags b (d + 1)), dr_land_num rfl rfl, Nat.mod_eq_of_lt (wordOf_lt b)]

theorem pair_joined (h : GeReady s g.e 0 g.last g.ecc) {a b : Cplx}
    (hact : act (s.eng g.e) = .inr (((s.eng g.e).sendC 2 g.dst a).sendC 2 (g.dst + 1) b)) :
    ((slotOp s g.e 0 g.last g.ecc act).eng g.e).drain.dr g.dst = wordOf a ∧
    ((slotOp s g.e 0 g.last g.ecc act).eng g.e).drain.dr (g.dst + 1) = wordOf b := by
  rw [sendC_sendC_eq] at hact
  have hregs := regs_drain_joined h hact
  rw [dr_of_regs hregs, dr_of_regs hregs]
  exact dr_foldl_pair _ _ _ a b

theorem pair_sent (h : GeIssues s g.e 0 g.last g.ecc [(g.dst % 32, 2), ((g.dst + 1) % 32, 2)] []) (hgoes : GeGoes s g.e) {a b : Cplx}
    (hact : act (s.eng g.e) = .inr (((s.eng g.e).sendC 2 g.dst a).sendC 2 (g.dst + 1) b)) :
    GeIssued s (slotOp s g.e 0 g.last g.ecc act) g.e (bundleGoes (s.eng g.e)) ∧
    GeSent s (slotOp s g.e 0 g.last g.ecc act) g.e 2 (g.dst % 32) (.num (wordOf a)) false ∧
    GeSent s (slotOp s g.e 0 g.last g.ecc act) g.e 2 ((g.dst + 1) % 32) (.num (wordOf b)) false := by
  rw [sendC_sendC_eq] at hact
  exact ⟨geIssued_of_does h hgoes hact, geSent_of_does h hgoes hact List.mem_cons_self,
    geSent_of_does h hgoes hact (List.mem_cons_of_mem _ (List.mem_append_right _ List.mem_cons_self))⟩

/-! ## The obligation -/

/-- The registers of a MAC of four are named by a multiple of 4, so that its check passes (R301). -/
theorem aligned_pair {a b : Nat} (ha : a % 4 = 0) (hb : b % 4 = 0) : ¬ (a % 4 ≠ 0 ∨ b % 4 ≠ 0) := fun h => h.elim (· ha) (· hb)

/-- Settles O30: each operation by the law of what it sends, for one that joins its bundle and for one that ends it. -/
theorem accumulatorResults : Obligations.AccumulatorResults := by
  unfold Obligations.AccumulatorResults
  constructorm* _ ∧ _
  -- the operations join their bundle
  · exact fun s g h => ⟨_, exec_clra .., clear_joined h rfl⟩
  · exact fun s g h ha hb => ⟨_, exec_cmac4 .., quad_joined (v := fun j => ngAdd g.ng ((s.eng g.e).macAcc j) (cmul
      (cOf ((s.eng g.e).dr (g.sa + j))) (cjOf g.cj (cOf ((s.eng g.e).dr (g.sb + j)))))) h (if_neg (aligned_pair ha hb))⟩
  · exact fun s g h hb => ⟨_, exec_cmacb .., quad_joined (v := fun j => ngAdd g.ng ((s.eng g.e).macAcc j) (cmul (cOf ((s.eng g.e).dr g.sa))
      (cjOf g.cj (cOf ((s.eng g.e).dr (g.sb + j)))))) h (if_neg (not_not.2 hb))⟩
  · exact fun s g h ha hb => ⟨_, exec_cdot .., sendA_joined h (if_neg (aligned_pair ha hb))⟩
  · exact fun s g h => ⟨_, exec_acca .., sendA_joined h rfl⟩
  · exact fun s g h => ⟨_, exec_ashr .., sendA_joined h rfl⟩
  · exact fun s g h => ⟨_, exec_mova .., sendA_joined h rfl⟩
  · exact fun s g h => ⟨_, exec_extr .., (complex_joined h rfl).1⟩
  · exact fun s g h => ⟨_, exec_sat .., flagged_joined h rfl⟩
  · exact fun s g h => ⟨_, exec_norm .., (complex_joined h rfl).1⟩
  · exact fun s g h hd ha => ⟨_, exec_bfly .., pair_joined h (if_neg (by omega))⟩
  -- they end it
  · exact fun s g h hgoes => ⟨_, exec_clra .., clear_issued h hgoes rfl⟩
  · exact fun s g h hgoes ha hb => ⟨_, exec_cmac4 .., quad_sent (v := fun j => ngAdd g.ng ((s.eng g.e).macAcc j) (cmul
      (cOf ((s.eng g.e).dr (g.sa + j))) (cjOf g.cj (cOf ((s.eng g.e).dr (g.sb + j)))))) h hgoes (if_neg (aligned_pair ha hb))⟩
  · exact fun s g h hgoes hb => ⟨_, exec_cmacb .., quad_sent (v := fun j => ngAdd g.ng ((s.eng g.e).macAcc j) (cmul
      (cOf ((s.eng g.e).dr g.sa)) (cjOf g.cj (cOf ((s.eng g.e).dr (g.sb + j)))))) h hgoes (if_neg (not_not.2 hb))⟩
  · exact fun s g h hgoes ha hb => ⟨_, exec_cdot .., sendA_sent h hgoes (if_neg (aligned_pair ha hb))⟩
  · exact fun s g h hgoes => ⟨_, exec_acca .., sendA_sent h hgoes rfl⟩
  · exact fun s g h hgoes => ⟨_, exec_ashr .., sendA_sent h hgoes rfl⟩
  · exact fun s g h hgoes => ⟨_, exec_mova .., sendA_sent h hgoes rfl⟩
  · exact fun s g h hgoes => ⟨_, exec_extr .., complex_sent h hgoes rfl⟩
  · exact fun s g h hgoes => ⟨_, exec_sat .., flagged_sent h hgoes rfl⟩
  · exact fun s g h hgoes => ⟨_, exec_norm .., complex_sent h hgoes rfl⟩
  · exact fun s g h hgoes hd ha => ⟨_, exec_bfly .., pair_sent h hgoes (if_neg (by omega))⟩

end Sys2Proof.Machine
end

section
/-!
The memory slots and the address slot (R302 to R304), and with them the settlement of O31: what a load, a store and an update of a pointer
leave, for an operation that joins its bundle and for one that ends it.
-/

namespace Sys2Proof.Machine

variable {s : State} {x y : Eng} {g : GeM} {size : Nat} {pair : Bool} {acts : Eng → Nat → Eng} {b : SlotWork}

/-! ## Data memory -/

theorem load_of_dmem (h : x.dmem = y.dmem) (a n : Nat) : x.load a n = y.load a n := by
  rw [Eng.load, Eng.load, h]

/-- Bytes stored stand at their addresses, which wrap round. -/
theorem spGet_dmem_store (x : Eng) (a : Nat) (l : List Byte) {i : Nat} (hi : i < l.length) (hl : l.length ≤ 2 ^ 18) :
    spGet 0 (x.store a l).dmem ((a + i) % 2 ^ 18) = l[i] := by
  induction l using List.reverseRecOn with
  | nil => exact absurd hi (Nat.not_lt_zero i)
  | append_singleton l c ih =>
    have hlen : (l ++ [c]).length = l.length + 1 := List.length_append
    rw [hlen] at hi hl
    have hput : (x.store a (l ++ [c])).dmem = spPut 0 (x.store a l).dmem ((a + l.length) % 2 ^ 18) c := by
      rw [Eng.store, hlen, List.range_succ, List.zip_append List.length_range.symm, List.foldl_append]
      rfl
    rw [hput]
    by_cases hlast : i = l.length
    · subst hlast
      rw [spGet_spPut_same, List.getElem_append_right (Nat.le_refl _)]
      simp only [Nat.sub_self, List.getElem_cons_zero]
    · have hlt : i < l.length := by omega
      rw [spGet_spPut_other _ _ _ _ (by omega), ih hlt (by omega), List.getElem_append_left hlt]

/-- A load within bytes just stored reads them. -/
theorem load_store (x : Eng) (a k n : Nat) {l : List Byte} (hk : k + n ≤ l.length) (hl : l.length ≤ 2 ^ 18) :
    (x.store a l).load (a + k) n = leNum ((l.drop k).take n) := by
  refine congrArg leNum (List.ext_getElem ?_ fun i h1 h2 => ?_)
  · simp only [List.length_map, List.length_range, List.length_take, List.length_drop]
    omega
  · simp only [List.length_map, List.length_range] at h1
    simp only [List.getElem_map, List.getElem_range, List.getElem_take, List.getElem_drop, Nat.add_assoc]
    exact spGet_dmem_store x a l (by omega) hl

theorem leNum_leBytes_word (v : Nat) : leNum (leBytes 4 v) = v % 2 ^ 32 := by
  simp only [leBytes, leNum, List.range, List.range.loop, List.map_cons, List.map_nil, List.foldr_cons, List.foldr_nil, BitVec.toNat_ofNat,
    Nat.shiftRight_eq_div_pow]
  omega

/-! ## Operations of a memory slot -/

/-- The update of a pointer, where an operation makes one (R302). -/
def Eng.moves (x : Eng) (p am : Nat) : SlotWork :=
  { flight := if am = 0 then [] else [x.result 1 (64 + p) (.num (postModify x p am))],
    writes := if am = 0 then [] else [(64 + p, 1)], ptrs := if am = 0 then [] else [p] }

/-- Loads from data memory, each a register and what it takes (R302). -/
def Eng.loads (x : Eng) (a : Nat) (l : List (Nat × Nat)) : SlotWork :=
  { flight := l.map (fun r => x.result 2 r.1 (.num r.2)), writes := l.map (fun r => (r.1, 2)), words := [a] }

/-- A store that waits for the end of its bundle (R304). -/
def storeWork (y : Bool) (a : Nat) (words : List Nat) : SlotWork :=
  { words := [a], stores := [(if y then 2 else 1, a, (words.map (leBytes 4)).flatten)], stored := words }

/-- An engine whose bundle accesses a word. -/
def Eng.wordAt (x : Eng) (a : Nat) : Eng := { x with bundle := { x.bundle with words := x.bundle.words ++ [a] } }

/-- What an operation of a memory slot does with its engine. -/
def memAct (g : GeM) (size : Nat) (pair : Bool) (acts : Eng → Nat → Eng) (x : Eng) : Nat ⊕ Eng :=
  let p := g.ptr % 8
  let a := x.cr p
  if (pair ∧ g.reg % 2 = 1) ∨ (g.am = 2 ∧ 4 ≤ p) then .inl 0x81
  else if a % size ≠ 0 then .inl 0x82
  else
    let x1 := acts (x.wordAt a) a
    .inr (if g.am % 4 = 0 then x1 else
      let x2 := x1.send 1 (64 + p) (.num (postModify x p (g.am % 4)))
      { x2 with bundle := { x2.bundle with ptrs := x2.bundle.ptrs ++ [p] } })

theorem geMem_eq (g : GeM) (size : Nat) (pair : Bool) (s : State) (acts : Eng → Nat → Eng) :
    geMem g size pair s acts = slotOp s g.e (if g.y then 2 else 1) g.last g.ecc (memAct g size pair acts) := rfl

/-- A memory operation in a legal form to an aligned address does its access, then moves its pointer. -/
theorem memAct_of_legal (hpair : pair = true → g.reg % 2 = 0) (hptr : g.am = 2 → g.ptr % 8 < 4) (haligned : x.cr (g.ptr % 8) % size = 0)
    (hacts : acts (x.wordAt (x.cr (g.ptr % 8))) (x.cr (g.ptr % 8)) = x.does b) :
    memAct g size pair acts x = .inr (x.does (b.and (x.moves (g.ptr % 8) (g.am % 4)))) := by
  have hform : ¬ ((pair = true ∧ g.reg % 2 = 1) ∨ (g.am = 2 ∧ 4 ≤ g.ptr % 8)) := by
    rintro (⟨hp, hodd⟩ | ⟨ham, h4⟩)
    · have := hpair hp; omega
    · have := hptr ham; omega
  rw [memAct]
  dsimp only
  rw [if_neg hform, if_neg (not_not.2 haligned), hacts, Eng.moves]
  split
  · simp only [SlotWork.and, List.append_nil]
  · rw [send_eq, does_does]
    simp only [Eng.does, SlotWork.and, List.append_assoc, List.append_nil]
    rfl

theorem mem_moves {p am : Nat} {f : Flight} (h : f ∈ (x.moves p am).flight) : f.reg = 64 + p ∧ f.due = x.issue + 1 := by
  rw [Eng.moves] at h
  dsimp only at h
  split at h
  · cases h
  · rw [List.mem_singleton.1 h]
    exact ⟨rfl, rfl⟩

theorem cr_foldl_moves (x w : Eng) {p am : Nat} (hp : p < 24) :
    ((x.moves p am).flight.foldl Eng.land w).cr p = if am = 0 then w.cr p else postModify x p am % 2 ^ 18 := by
  rw [Eng.moves]
  dsimp only
  split
  · rfl
  · rw [List.foldl_cons, List.foldl_nil, cr_land_num rfl rfl, crKeeps_of_pointer hp]

section Joined

variable (h : GeReady s g.e (if g.y then 2 else 1) g.last g.ecc)
  (hact : memAct g size pair acts (s.eng g.e) = .inr ((s.eng g.e).does (b.and ((s.eng g.e).moves (g.ptr % 8) (g.am % 4)))))

include h hact

/-- The pointer once every result is written (R302). -/
theorem geMem_joined_pointer (hb : ∀ f ∈ b.flight, f.reg < 32) : ((geMem g size pair s acts).eng g.e).drain.cr (g.ptr % 8) =
    (if g.am % 4 = 0 then (s.eng g.e).drain.cr (g.ptr % 8) else postModify (s.eng g.e) (g.ptr % 8) (g.am % 4) % 2 ^ 18) := by
  rw [geMem_eq, cr_of_regs (regs_drain_joined h hact)]
  dsimp only [SlotWork.and]
  rw [List.foldl_append, cr_foldl_moves _ _ (by omega), cr_foldl_land_other fun f hf => by have := hb f hf; omega]

/-- A store waits in the bundle, and data memory stays. -/
theorem geMem_joined_stores : ((geMem g size pair s acts).eng g.e).dmem = (s.eng g.e).dmem ∧
    ((geMem g size pair s acts).eng g.e).bundle.stores = (s.eng g.e).bundle.stores ++ b.stores := by
  rw [geMem_eq, eng_joined h hact]
  refine ⟨rfl, ?_⟩
  change _ ++ (b.stores ++ []) = _
  rw [List.append_nil]

end Joined

theorem geMem_joined_load (h : GeReady s g.e (if g.y then 2 else 1) g.last g.ecc) {a v : Nat}
    (hact : memAct g size pair acts (s.eng g.e) =
      .inr ((s.eng g.e).does (((s.eng g.e).loads a [(g.reg % 32, v)]).and ((s.eng g.e).moves (g.ptr % 8) (g.am % 4))))) :
    GeReg s (geMem g size pair s acts) g.e g.reg (v % 2 ^ 32) :=
  geReg_joined h hact rfl rfl rfl fun f hf => by rw [(mem_moves hf).1]; omega

theorem geMem_joined_load_pair (h : GeReady s g.e (if g.y then 2 else 1) g.last g.ecc) {a v w : Nat}
    (hact : memAct g size pair acts (s.eng g.e) =
      .inr ((s.eng g.e).does (((s.eng g.e).loads a [(g.reg % 32, v), ((g.reg + 1) % 32, w)]).and ((s.eng g.e).moves (g.ptr % 8) (g.am % 4))))) :
    ((geMem g size pair s acts).eng g.e).drain.dr g.reg = v % 2 ^ 32 ∧ ((geMem g size pair s acts).eng g.e).drain.dr (g.reg + 1) = w % 2 ^ 32 := by
  have hregs := regs_drain_joined h hact
  have hmoves (i : Nat) : ∀ f ∈ ((s.eng g.e).moves (g.ptr % 8) (g.am % 4)).flight, f.reg ≠ i % 32 := fun f hf => by
    rw [(mem_moves hf).1]
    omega
  rw [geMem_eq, dr_of_regs hregs, dr_of_regs hregs]
  simp only [SlotWork.and, Eng.loads, List.map_cons, List.map_nil, List.cons_append, List.nil_append, List.foldl_cons]
  constructor
  · rw [dr_foldl_land_other (hmoves g.reg), dr_land_other, dr_land_num rfl rfl]
    simp only [Flight.reg, Eng.result]
    omega
  · rw [dr_foldl_land_other (hmoves (g.reg + 1)), dr_land_num rfl rfl]

section Issued

variable (h : GeIssues s g.e (if g.y then 2 else 1) g.last g.ecc (b.and ((s.eng g.e).moves (g.ptr % 8) (g.am % 4))).writes
    (b.and ((s.eng g.e).moves (g.ptr % 8) (g.am % 4))).ptrs) (hgoes : GeGoes s g.e)
  (hact : memAct g size pair acts (s.eng g.e) = .inr ((s.eng g.e).does (b.and ((s.eng g.e).moves (g.ptr % 8) (g.am % 4)))))

include h hgoes hact

/-- A memory operation that ends its bundle, with the pointer it leaves. -/
theorem geMem_issued (hb : ∀ f ∈ b.flight, f.due = (s.eng g.e).issue + 2) :
    GeIssued s (geMem g size pair s acts) g.e (bundleGoes (s.eng g.e)) ∧ (g.am % 4 ≠ 0 →
      ((geMem g size pair s acts).eng g.e).cr (g.ptr % 8) = postModify (s.eng g.e) (g.ptr % 8) (g.am % 4) % 2 ^ 18) := by
  rw [geMem_eq]
  refine ⟨geIssued_of_does h hgoes hact, fun ham => ?_⟩
  have hdue : (b.and ((s.eng g.e).moves (g.ptr % 8) (g.am % 4))).flight.filter (fun f => f.due ≤ (s.eng g.e).issue + 1) =
      ((s.eng g.e).moves (g.ptr % 8) (g.am % 4)).flight := by
    dsimp only [SlotWork.and]
    rw [List.filter_append, List.filter_eq_nil_iff.2 fun f hf => by rw [hb f hf]; simp, List.nil_append]
    exact List.filter_eq_self.2 fun f hf => decide_eq_true (Nat.le_of_eq (mem_moves hf).2)
  obtain ⟨w, -, -, hcr⟩ := reads_of_does h hgoes hact hdue
  rw [hcr _ (by omega), cr_foldl_moves _ _ (by omega), if_neg ham]

/-- What is loaded is in flight as the bundle issues. -/
theorem geMem_sent {a : Nat} {l : List (Nat × Nat)} (hb : b = (s.eng g.e).loads a l) {r v : Nat} (hr : (r, v) ∈ l) :
    GeSent s (geMem g size pair s acts) g.e 2 r (.num v) false := by
  rw [geMem_eq]
  refine geSent_of_does h hgoes hact (List.mem_append_left _ ?_)
  rw [hb]
  exact List.mem_map.2 ⟨(r, v), hr, rfl⟩

/-- What is stored alone in its bundle stands in data memory as the bundle issues (R304). -/
theorem geMem_stored {a : Nat} {words : List Nat} (hb : b = storeWork g.y a words) (hnone : (s.eng g.e).bundle.stores = []) :
    ((geMem g size pair s acts).eng g.e).dmem = ((s.eng g.e).store a (words.map (leBytes 4)).flatten).dmem := by
  rw [geMem_eq, (issued_of_does h hgoes hact).dmem]
  subst hb
  have hstores : ((s.eng g.e).does ((storeWork g.y a words).and ((s.eng g.e).moves (g.ptr % 8) (g.am % 4)))).bundle.stores =
      [(if g.y then 2 else 1, a, (words.map (leBytes 4)).flatten)] := by
    change (s.eng g.e).bundle.stores ++ ([_] ++ []) = _
    rw [hnone]
    rfl
  rw [Eng.stored, hstores]
  cases g.y <;> rfl

end Issued

/-! ## Operations of the address slot -/

section Address

variable {g : GeA} {code : Nat} {ok : Bool} {v : Eng → Nat}

/-- An update of a register of a code. -/
def Eng.updates (x : Eng) (code v : Nat) : SlotWork :=
  { flight := [x.result 1 (64 + code) (.num v)], writes := [(64 + code, 1)], ptrs := [code] }

/-- What an operation of the address slot does with its engine. -/
def adrAct (code : Nat) (ok : Bool) (v : Eng → Nat) (x : Eng) : Nat ⊕ Eng :=
  if ok then
    let x1 := x.send 1 (64 + code) (.num (v x))
    .inr { x1 with bundle := { x1.bundle with ptrs := x1.bundle.ptrs ++ [code] } }
  else .inl 0x81

theorem geAdr_eq (g : GeA) (s : State) (code : Nat) (ok : Bool) (v : Eng → Nat) :
    geAdr g s code ok v = slotOp s g.e 3 g.last g.ecc (adrAct code ok v) := rfl

theorem adrAct_of_ok (hok : ok = true) (x : Eng) : adrAct code ok v x = .inr (x.does (x.updates code (v x))) := by
  rw [adrAct, if_pos hok, send_eq]
  simp only [Eng.does, Eng.updates, List.append_nil]

theorem geAdr_joined (h : GeReady s g.e 3 g.last g.ecc) (hok : ok = true) (hcode : code < 24) :
    GeCtl s (geAdr g s code ok v) g.e code (v (s.eng g.e) % 2 ^ 18) := by
  have hctl := geCtl_joined h (adrAct_of_ok (v := v) (code := code) hok _) rfl rfl rfl
  rwa [crKeeps_of_pointer hcode] at hctl

theorem geAdr_issued (h : GeIssues s g.e 3 g.last g.ecc [(64 + code, 1)] [code]) (hgoes : GeGoes s g.e) (hok : ok = true) (hcode : code < 24) :
    GeIssued s (geAdr g s code ok v) g.e (bundleGoes (s.eng g.e)) ∧ ((geAdr g s code ok v).eng g.e).cr code = v (s.eng g.e) % 2 ^ 18 := by
  have hact := adrAct_of_ok (v := v) (code := code) hok (s.eng g.e)
  obtain ⟨w, -, -, hcr⟩ := reads_of_does (a := (s.eng g.e).updates code (v (s.eng g.e))) h hgoes hact
    (fs := [(s.eng g.e).result 1 (64 + code) (.num (v (s.eng g.e)))])
    (List.filter_eq_self.2 fun f hf => by rw [List.mem_singleton.1 hf]; exact decide_eq_true (Nat.le_refl _))
  refine ⟨geIssued_of_does (a := (s.eng g.e).updates code (v (s.eng g.e))) h hgoes hact, ?_⟩
  rw [geAdr_eq, hcr code (by omega), List.foldl_cons, List.foldl_nil, cr_land_num rfl rfl, crKeeps_of_pointer hcode]

variable {c : Instr} {w : Nat} (hexec : exec c s = .next (geAdr g s code ok v)) (hv : v (s.eng g.e) % 2 ^ 18 = w)

include hexec hv

theorem completes_geAdr_joined (hok : ok = true) (hcode : code < 24) (h : GeReady s g.e 3 g.last g.ecc) :
    Completes c s fun t => GeCtl s t g.e code w := by
  subst hv
  exact ⟨_, hexec, geAdr_joined h hok hcode⟩

theorem completes_geAdr_issued (hok : ok = true) (hcode : code < 24) (h : GeIssues s g.e 3 g.last g.ecc [(64 + code, 1)] [code])
    (hgoes : GeGoes s g.e) : Completes c s fun t => GeIssued s t g.e (bundleGoes (s.eng g.e)) ∧ (t.eng g.e).cr code = w := by
  subst hv
  exact ⟨_, hexec, geAdr_issued h hgoes hok hcode⟩

end Address

/-! ## Each operation's access -/

/-- The access of LD.W and of LD.H (R302). -/
def accessLoad (r n : Nat) (x : Eng) (a : Nat) : Eng := x.send 2 r (.num (x.load a n))

/-- The access of LD.D (R302). -/
def accessLoads (r q : Nat) (x : Eng) (a : Nat) : Eng := (x.send 2 r (.num (x.load a 4))).send 2 q (.num (x.load (a + 4) 4))

/-- The access of ST.W and of ST.D: registers to words (R302, R304). -/
def accessStore (y : Bool) (rs : List Nat) (x : Eng) (a : Nat) : Eng := x.queueStore y a (rs.map x.dr)

theorem accessLoad_eq (x : Eng) (r n a : Nat) : accessLoad r n (x.wordAt a) a = x.does (x.loads a [(r, x.load a n)]) := by
  simp only [accessLoad, Eng.wordAt, send_eq, Eng.does, Eng.loads, List.map_cons, List.map_nil, List.append_nil]
  rfl

theorem accessLoads_eq (x : Eng) (r q a : Nat) :
    accessLoads r q (x.wordAt a) a = x.does (x.loads a [(r, x.load a 4), (q, x.load (a + 4) 4)]) := by
  simp only [accessLoads, Eng.wordAt, send_eq, Eng.does, Eng.loads, List.map_cons, List.map_nil, List.append_nil, List.append_assoc]
  rfl

theorem accessStore_eq (x : Eng) (y : Bool) (rs : List Nat) (a : Nat) : accessStore y rs (x.wordAt a) a = x.does (storeWork y a (rs.map x.dr)) := by
  simp only [accessStore, Eng.wordAt, Eng.queueStore, Eng.does, storeWork, List.append_nil]
  rfl

theorem due_of_mem_loads {a : Nat} {l : List (Nat × Nat)} {f : Flight} (h : f ∈ (x.loads a l).flight) : f.due = x.issue + 2 := by
  obtain ⟨r, -, rfl⟩ := List.mem_map.1 h
  rfl

/-! ## The clauses -/

section Clauses

variable {g : GeM} {c : Instr}

theorem completes_load_joined {size n : Nat} (hexec : exec c s = .next (geMem g size false s (accessLoad (g.reg % 32) n)))
    (h : GeReady s g.e (if g.y then 2 else 1) g.last g.ecc) (hptr : g.am = 2 → g.ptr % 8 < 4) (haligned : (s.eng g.e).cr (g.ptr % 8) % size = 0) :
    Completes c s fun t => GeReg s t g.e g.reg ((s.eng g.e).load ((s.eng g.e).cr (g.ptr % 8)) n % 2 ^ 32) ∧
      (t.eng g.e).drain.cr (g.ptr % 8) =
        (if g.am % 4 = 0 then (s.eng g.e).drain.cr (g.ptr % 8) else postModify (s.eng g.e) (g.ptr % 8) (g.am % 4) % 2 ^ 18) := by
  have hact := memAct_of_legal (pair := false) (size := size) (fun hp => nomatch hp) hptr haligned (accessLoad_eq (s.eng g.e) (g.reg % 32) n _)
  refine ⟨_, hexec, geMem_joined_load h hact, geMem_joined_pointer h hact fun f hf => ?_⟩
  rw [List.mem_singleton.1 hf]
  exact Nat.mod_lt _ (by decide)

theorem completes_load_issued {size n : Nat} (hexec : exec c s = .next (geMem g size false s (accessLoad (g.reg % 32) n)))
    (h : GeIssues s g.e (if g.y then 2 else 1) g.last g.ecc ([(g.reg % 32, 2)] ++ (if g.am % 4 = 0 then [] else [(64 + g.ptr % 8, 1)]))
      (if g.am % 4 = 0 then [] else [g.ptr % 8]))
    (hgoes : GeGoes s g.e) (hptr : g.am = 2 → g.ptr % 8 < 4) (haligned : (s.eng g.e).cr (g.ptr % 8) % size = 0) :
    Completes c s fun t => GeIssued s t g.e (bundleGoes (s.eng g.e)) ∧
      GeSent s t g.e 2 (g.reg % 32) (.num ((s.eng g.e).load ((s.eng g.e).cr (g.ptr % 8)) n)) false ∧
      (g.am % 4 ≠ 0 → (t.eng g.e).cr (g.ptr % 8) = postModify (s.eng g.e) (g.ptr % 8) (g.am % 4) % 2 ^ 18) := by
  have hact := memAct_of_legal (pair := false) (size := size) (fun hp => nomatch hp) hptr haligned (accessLoad_eq (s.eng g.e) (g.reg % 32) n _)
  obtain ⟨hissued, hpointer⟩ := geMem_issued h hgoes hact fun f hf => due_of_mem_loads hf
  exact ⟨_, hexec, hissued, geMem_sent h hgoes hact rfl List.mem_cons_self, hpointer⟩

theorem completes_ldD_joined (h : GeReady s g.e (if g.y then 2 else 1) g.last g.ecc) (heven : g.reg % 2 = 0) (hptr : g.am = 2 → g.ptr % 8 < 4)
    (haligned : (s.eng g.e).cr (g.ptr % 8) % 8 = 0) :
    Completes (.ldD g) s fun t => (t.eng g.e).drain.dr g.reg = (s.eng g.e).load ((s.eng g.e).cr (g.ptr % 8)) 4 % 2 ^ 32 ∧
      (t.eng g.e).drain.dr (g.reg + 1) = (s.eng g.e).load ((s.eng g.e).cr (g.ptr % 8) + 4) 4 % 2 ^ 32 ∧
      (t.eng g.e).drain.cr (g.ptr % 8) =
        (if g.am % 4 = 0 then (s.eng g.e).drain.cr (g.ptr % 8) else postModify (s.eng g.e) (g.ptr % 8) (g.am % 4) % 2 ^ 18) := by
  have hact := memAct_of_legal (pair := true) (fun _ => heven) hptr haligned (accessLoads_eq (s.eng g.e) (g.reg % 32) ((g.reg + 1) % 32) _)
  obtain ⟨hlow, hhigh⟩ := geMem_joined_load_pair h hact
  refine ⟨_, exec_ldD .., hlow, hhigh, geMem_joined_pointer h hact fun f hf => ?_⟩
  obtain ⟨r, hr, rfl⟩ := List.mem_map.1 hf
  have hlt : r.1 < 32 := by
    rcases List.mem_cons.1 hr with rfl | hr
    · exact Nat.mod_lt _ (by decide)
    · rw [List.mem_singleton.1 hr]
      exact Nat.mod_lt _ (by decide)
  exact hlt

theorem completes_ldD_issued (h : GeIssues s g.e (if g.y then 2 else 1) g.last g.ecc
      ([(g.reg % 32, 2), ((g.reg + 1) % 32, 2)] ++ (if g.am % 4 = 0 then [] else [(64 + g.ptr % 8, 1)])) (if g.am % 4 = 0 then [] else [g.ptr % 8]))
    (hgoes : GeGoes s g.e) (heven : g.reg % 2 = 0) (hptr : g.am = 2 → g.ptr % 8 < 4) (haligned : (s.eng g.e).cr (g.ptr % 8) % 8 = 0) :
    Completes (.ldD g) s fun t => GeIssued s t g.e (bundleGoes (s.eng g.e)) ∧
      GeSent s t g.e 2 (g.reg % 32) (.num ((s.eng g.e).load ((s.eng g.e).cr (g.ptr % 8)) 4)) false ∧
      GeSent s t g.e 2 ((g.reg + 1) % 32) (.num ((s.eng g.e).load ((s.eng g.e).cr (g.ptr % 8) + 4) 4)) false ∧
      (g.am % 4 ≠ 0 → (t.eng g.e).cr (g.ptr % 8) = postModify (s.eng g.e) (g.ptr % 8) (g.am % 4) % 2 ^ 18) := by
  have hact := memAct_of_legal (pair := true) (fun _ => heven) hptr haligned (accessLoads_eq (s.eng g.e) (g.reg % 32) ((g.reg + 1) % 32) _)
  obtain ⟨hissued, hpointer⟩ := geMem_issued h hgoes hact fun f hf => due_of_mem_loads hf
  exact ⟨_, exec_ldD .., hissued, geMem_sent h hgoes hact rfl List.mem_cons_self,
    geMem_sent h hgoes hact rfl (List.mem_cons_of_mem _ List.mem_cons_self), hpointer⟩

section Stores

variable {size : Nat} {pair : Bool} {rs : List Nat} (hexec : exec c s = .next (geMem g size pair s (accessStore g.y rs)))
  (hpair : pair = true → g.reg % 2 = 0) (hptr : g.am = 2 → g.ptr % 8 < 4) (haligned : (s.eng g.e).cr (g.ptr % 8) % size = 0)

include hexec hpair hptr haligned

theorem completes_store_joined (h : GeReady s g.e (if g.y then 2 else 1) g.last g.ecc) :
    Completes c s fun t => (t.eng g.e).dmem = (s.eng g.e).dmem ∧ (t.eng g.e).bundle.stores = (s.eng g.e).bundle.stores ++
        [((if g.y then 2 else 1), (s.eng g.e).cr (g.ptr % 8), ((rs.map (s.eng g.e).dr).map (leBytes 4)).flatten)] ∧
      (t.eng g.e).drain.cr (g.ptr % 8) =
        (if g.am % 4 = 0 then (s.eng g.e).drain.cr (g.ptr % 8) else postModify (s.eng g.e) (g.ptr % 8) (g.am % 4) % 2 ^ 18) := by
  have hact := memAct_of_legal (size := size) hpair hptr haligned (accessStore_eq (s.eng g.e) g.y rs _)
  obtain ⟨hdmem, hstores⟩ := geMem_joined_stores h hact
  exact ⟨_, hexec, hdmem, hstores, geMem_joined_pointer h hact fun f hf => nomatch hf⟩

theorem completes_store_issued (h : GeIssues s g.e (if g.y then 2 else 1) g.last g.ecc (if g.am % 4 = 0 then [] else [(64 + g.ptr % 8, 1)])
      (if g.am % 4 = 0 then [] else [g.ptr % 8])) (hgoes : GeGoes s g.e) (hnone : (s.eng g.e).bundle.stores = []) :
    Completes c s fun t => GeIssued s t g.e (bundleGoes (s.eng g.e)) ∧
      (t.eng g.e).dmem = ((s.eng g.e).store ((s.eng g.e).cr (g.ptr % 8)) ((rs.map (s.eng g.e).dr).map (leBytes 4)).flatten).dmem ∧
      (g.am % 4 ≠ 0 → (t.eng g.e).cr (g.ptr % 8) = postModify (s.eng g.e) (g.ptr % 8) (g.am % 4) % 2 ^ 18) := by
  have hact := memAct_of_legal (size := size) hpair hptr haligned (accessStore_eq (s.eng g.e) g.y rs _)
  obtain ⟨hissued, hpointer⟩ := geMem_issued h hgoes hact fun f hf => nomatch hf
  exact ⟨_, hexec, hissued, geMem_stored h hgoes hact rfl hnone, hpointer⟩

end Stores

end Clauses

/-! ## Words read back -/

theorem load_of_store_word {a v : Nat} (h : y.dmem = (x.store a ([v].map (leBytes 4)).flatten).dmem) : y.load a 4 = v % 2 ^ 32 := by
  have hlen : ([v].map (leBytes 4)).flatten.length = 4 := rfl
  have hload := load_store x a 0 4 (l := ([v].map (leBytes 4)).flatten) (by omega) (by omega)
  rw [Nat.add_zero] at hload
  exact (load_of_dmem h a 4).trans (hload.trans (leNum_leBytes_word v))

theorem load_of_store_words {a v w : Nat} (h : y.dmem = (x.store a ([v, w].map (leBytes 4)).flatten).dmem) :
    y.load a 4 = v % 2 ^ 32 ∧ y.load (a + 4) 4 = w % 2 ^ 32 := by
  have hlen : ([v, w].map (leBytes 4)).flatten.length = 8 := rfl
  constructor
  · have hload := load_store x a 0 4 (l := ([v, w].map (leBytes 4)).flatten) (by omega) (by omega)
    rw [Nat.add_zero] at hload
    exact (load_of_dmem h a 4).trans (hload.trans (leNum_leBytes_word v))
  · have hload := load_store x a 4 4 (l := ([v, w].map (leBytes 4)).flatten) (by omega) (by omega)
    exact (load_of_dmem h (a + 4) 4).trans (hload.trans (leNum_leBytes_word w))

/-! ## The obligation -/

/-- Settles O31: loads and stores by the law of a memory slot's access and pointer, the address slot by that of an update. -/
theorem memoryAndAddressSlotResults : Obligations.MemoryAndAddressSlotResults := by
  unfold Obligations.MemoryAndAddressSlotResults
  constructorm* _ ∧ _
  -- the operations join their bundle
  · exact fun s g h hptr ha => completes_load_joined (exec_ldW ..) h hptr ha
  · exact fun s g h hptr ha => completes_load_joined (exec_ldH ..) h hptr ha
  · exact fun s g h heven hptr ha => completes_ldD_joined h heven hptr ha
  · exact fun s g h hptr ha => completes_store_joined (rs := [g.reg]) (exec_stW ..) (fun hp => nomatch hp) hptr ha h
  · exact fun s g h heven hptr ha => completes_store_joined (rs := [g.reg, g.reg + 1]) (exec_stD ..) (fun _ => heven) hptr ha h
  · exact fun s g h => completes_geAdr_joined (v := fun x => x.cr (g.t % 8) + imm5 g.v) (exec_addi ..) rfl rfl (by omega) h
  · exact fun s g h => completes_geAdr_joined (v := fun x => x.cr (g.t % 8) + x.cr (8 + g.v % 8)) (exec_addm ..) rfl rfl (by omega) h
  · exact fun s g h => completes_geAdr_joined (v := fun x => x.dr g.v % 2 ^ 18) (exec_movp ..) (Nat.mod_mod ..) rfl (by omega) h
  · exact fun s g h => completes_geAdr_joined (v := fun x => x.dr g.v % 2 ^ 18) (exec_movm ..) (Nat.mod_mod ..) rfl (by omega) h
  · exact fun s g h hlt => completes_geAdr_joined (v := fun x => x.dr g.v % 2 ^ 18) (exec_movb ..) (Nat.mod_mod ..) (decide_eq_true hlt) (by omega) h
  · exact fun s g h hlt => completes_geAdr_joined (v := fun x => x.dr g.v % 2 ^ 18) (exec_movl ..) (Nat.mod_mod ..) (decide_eq_true hlt) (by omega) h
  · exact fun s g h => completes_geAdr_joined (v := fun _ => imm5 g.v) (exec_setm ..) rfl rfl (by omega) h
  -- they end it
  · exact fun s g h hgoes hptr ha => completes_load_issued (exec_ldW ..) h hgoes hptr ha
  · exact fun s g h hgoes hptr ha => completes_load_issued (exec_ldH ..) h hgoes hptr ha
  · exact fun s g h hgoes heven hptr ha => completes_ldD_issued h hgoes heven hptr ha
  · intro s g h hgoes hptr ha hnone
    obtain ⟨t, hexec, hissued, hdmem, hpointer⟩ :=
      completes_store_issued (rs := [g.reg]) (exec_stW ..) (fun hp => nomatch hp) hptr ha h hgoes hnone
    exact ⟨t, hexec, hissued, load_of_store_word hdmem, hpointer⟩
  · intro s g h hgoes heven hptr ha hnone
    obtain ⟨t, hexec, hissued, hdmem, hpointer⟩ :=
      completes_store_issued (rs := [g.reg, g.reg + 1]) (exec_stD ..) (fun _ => heven) hptr ha h hgoes hnone
    obtain ⟨hlow, hhigh⟩ := load_of_store_words hdmem
    exact ⟨t, hexec, hissued, hlow, hhigh, hpointer⟩
  · exact fun s g h hgoes => completes_geAdr_issued (v := fun x => x.cr (g.t % 8) + imm5 g.v) (exec_addi ..) rfl rfl (by omega) h hgoes
  · exact fun s g h hgoes => completes_geAdr_issued (v := fun x => x.cr (g.t % 8) + x.cr (8 + g.v % 8)) (exec_addm ..) rfl rfl (by omega) h hgoes
  · exact fun s g h hgoes => completes_geAdr_issued (v := fun x => x.dr g.v % 2 ^ 18) (exec_movp ..) (Nat.mod_mod ..) rfl (by omega) h hgoes
  · exact fun s g h hgoes => completes_geAdr_issued (v := fun x => x.dr g.v % 2 ^ 18) (exec_movm ..) (Nat.mod_mod ..) rfl (by omega) h hgoes
  · exact fun s g h hgoes hlt => completes_geAdr_issued (v := fun x => x.dr g.v % 2 ^ 18) (exec_movb ..) (Nat.mod_mod ..)
      (decide_eq_true hlt) (by omega) h hgoes
  · exact fun s g h hgoes hlt => completes_geAdr_issued (v := fun x => x.dr g.v % 2 ^ 18) (exec_movl ..) (Nat.mod_mod ..)
      (decide_eq_true hlt) (by omega) h hgoes
  · exact fun s g h hgoes => completes_geAdr_issued (v := fun _ => imm5 g.v) (exec_setm ..) rfl rfl (by omega) h hgoes

end Sys2Proof.Machine
end

section
/-!
Jobs, transfers, interrupts and rolls of kernels (R317 to R337), and with them the settlement of O34.
-/

namespace Sys2Proof.Machine

variable {s : State} {e : Nat} {x : Eng} {j : Job}

/-! ## Transfers (R323, R324) -/

/-- The end of a transfer answered OK leaves the queues of transfers. -/
theorem finish_xq (s : State) (e : Nat) (d : GeXfer) : ((execTransferComplete.finish s e 0 d).eng e).xq = (s.eng e).xq := by
  unfold execTransferComplete.finish
  split
  · rfl
  · rw [if_neg (not_not.2 rfl)]
    split
    · rw [eng_setEng]
    · rfl

/-- A transfer into data memory leaves its queue as it completes with OK. -/
theorem completes_transferComplete {q : Nat} {d : GeXfer} {rest : List GeXfer} (he : e < 18) (hq : q < 4)
    (hxq : spGet [] (s.eng e).xq q = d :: rest) (hin : d.out = false) (hok : (fabRead s (.engine e) 4 d.faddr d.len).1 = 0) :
    Completes (.transferComplete e q) s fun t => spGet [] (t.eng e).xq q = rest := by
  obtain ⟨⟨st, data, s1⟩, hread⟩ : ∃ p, fabRead s (.engine e) 4 d.faddr d.len = p := ⟨_, rfl⟩
  obtain rfl : st = 0 := by rw [hread] at hok; exact hok
  rw [Completes, exec_transferComplete, execTransferComplete, if_pos ⟨he, hq⟩, hxq]
  dsimp only
  rw [hin, if_neg Bool.false_ne_true, hread]
  dsimp only
  refine ⟨_, rfl, ?_⟩
  rw [finish_xq, if_pos rfl, eng_setEng, eng_setEng]
  exact spGet_spPut_same ..

/-! ## Interrupts (R317 to R319) -/

/-- An engine as it takes an interrupt on source `src`: its pipeline drained, and the handler at `h` to issue next. -/
def Eng.interrupted (x : Eng) (src h : Nat) : Eng :=
  { x.drain with ira := x.pc, pc := h % 2 ^ 13, irq := setBits x.drain.irq src src 0,
                 inPreempt := decide (src = 0) }.setCr 30 (setBits x.drain.sw 2 2 0)

theorem bitOf_mod {w i n : Nat} (h : i < n) : bitOf (w % 2 ^ n) i = bitOf w i := by
  rw [bitOf_iff_testBit, bitOf_iff_testBit, Nat.testBit_mod_two_pow, decide_eq_true h, Bool.true_and]

/-- PREEMPT's handler, once its interrupt is accepted. -/
theorem interrupted_preempt (x : Eng) (h : Nat) : (x.interrupted 0 h).ira = x.pc ∧ (x.interrupted 0 h).pc = h % 2 ^ 13 ∧
    (x.interrupted 0 h).inPreempt = true ∧ bitOf (x.interrupted 0 h).irq 0 = false ∧ bitOf ((x.interrupted 0 h).cr 30) 2 = false ∧
    (x.interrupted 0 h).flight = [] := by
  refine ⟨rfl, rfl, rfl, bitOf_setBits_zero .., ?_, rfl⟩
  rw [Eng.interrupted, cr_setCr_same, crKeeps, if_pos rfl, bitOf_mod (by decide), bitOf_setBits_zero]

/-- An engine at the boundary of a bundle, as an interrupt finds it: a bundle that waits abandoned (R319). -/
def Eng.atBoundary (x : Eng) : Eng := if x.bundle.waiting then x.abandon else x

/-- That leaves all but the bundle and the results of it. -/
theorem atBoundary_eq (x : Eng) : ∃ b f, x.atBoundary = { x with bundle := b, flight := f } := by
  rw [Eng.atBoundary]
  split
  · exact ⟨_, _, rfl⟩
  · exact ⟨_, _, rfl⟩

/-- PREEMPT is the first source served. -/
theorem find_preempt {x : Eng} (hirq : bitOf x.irq 0 = true) (him : bitOf (x.cr 30) 9 = true) :
    (List.range 3).find? (fun i => bitOf x.irq i && bitOf x.sw (9 + i)) = some 0 := by
  change List.find? _ (0 :: _) = _
  rw [List.find?_cons_of_pos]
  rw [hirq, Bool.true_and]
  exact him

/-- PREEMPT is accepted between bundles, while interrupts are enabled and outside the end of a loop. -/
theorem exec_interruptAccept_preempt {k : Kernel} (he : e < 18) (hrun : (s.eng e).st = .running) (hslots : (s.eng e).bundle.slots = [])
    (hie : bitOf ((s.eng e).cr 30) 2 = true)
    (hloop : (List.range 2).any (fun n => decide ((s.eng e).cr (24 + n) ≠ 0) && decide ((s.eng e).cr (28 + n) = (s.eng e).pc)) = false)
    (hirq : bitOf (s.eng e).irq 0 = true) (him : bitOf ((s.eng e).cr 30) 9 = true) (hjob : (s.eng e).job = some j)
    (hkernel : (s.eng e).kernel j.slot = some k) (hcode : k.hPreempt < k.code) :
    ∃ u : State, exec (.interruptAccept e) s = .next (u.setEng e ((s.eng e).atBoundary.interrupted 0 k.hPreempt)) := by
  rw [exec_interruptAccept, execInterruptAccept, if_pos ⟨he, hrun⟩, hslots]
  dsimp only
  rw [if_pos rfl]
  generalize hs1 : (if (s.eng e).bundle.waiting = true then s.setEng e (s.eng e).abandon else s) = s1
  have heng : s1.eng e = (s.eng e).atBoundary := by
    rw [← hs1, Eng.atBoundary]
    split
    · exact eng_setEng ..
    · rfl
  obtain ⟨b, f, hx⟩ := atBoundary_eq (s.eng e)
  have hfind := find_preempt (x := (s.eng e).atBoundary) (by rw [hx]; exact hirq) (by rw [hx]; exact him)
  have hgo : (s.eng e).atBoundary.st = .running ∧ bitOf (s.eng e).atBoundary.sw 2 = true ∧ ¬ (List.range 2).any (fun n =>
      decide ((s.eng e).atBoundary.cr (24 + n) ≠ 0) && decide ((s.eng e).atBoundary.cr (28 + n) = (s.eng e).atBoundary.pc)) = true := by
    rw [hx]
    exact ⟨hrun, hie, ne_true_of_eq_false hloop⟩
  have hk : (s.eng e).atBoundary.kernel j.slot = some k := by rw [hx]; exact hkernel
  have hj : (s.eng e).atBoundary.job = some j := by rw [hx]; exact hjob
  have hsize : ¬ (s.eng e).atBoundary.codeSize ≤ k.hPreempt := by
    rw [Eng.codeSize, hj]
    dsimp only
    rw [hk]
    exact Nat.not_le.2 hcode
  rw [heng, if_pos hgo, hfind, hj]
  dsimp only
  rw [hk]
  exact ⟨s1, congrArg Host.Outcome.next (if_neg hsize)⟩

/-! ## The bits that software rings and posts (R326, R337) -/

theorem ringDoorbell_irq (s : State) (e : Nat) : bitOf ((ringDoorbell s e).eng e).irq 2 = true := by
  rw [ringDoorbell, eng_setEng]
  exact bitOf_setBits_one ..

theorem preemptIf_eng (s : State) (e : Nat) : ∃ irq at_, (preemptIf s e).eng e = { s.eng e with irq := irq, preemptAt := at_ } := by
  unfold preemptIf
  dsimp only
  split
  · split
    · exact ⟨_, _, eng_setEng ..⟩
    · exact ⟨_, _, rfl⟩
  · exact ⟨_, _, rfl⟩

theorem preemptIf_now (s : State) (e : Nat) : (preemptIf s e).now = s.now := by
  unfold preemptIf
  dsimp only
  split
  · split <;> rfl
  · rfl

/-- A post of a job that none of the grounds of R326 refuses is queued. -/
theorem postJob_queues {tag : Nat} {k : Kernel} (htag : s.tagDeviceOrD2 tag = true)
    (hroom : (s.eng e).queue.length + b2n (slotHeld s e j.src) < 16) (hst : (s.eng e).st = .idle ∨ (s.eng e).st = .running)
    (hkernel : (s.eng e).kernel j.slot = some k) (hcls : j.cls < 5) (hdepth : j.cls = 0 ∨ s.pwr.depth = 0)
    (hclass : bitOf k.classes j.cls = true) :
    ((postJob s e j tag).eng e).queue = (s.eng e).queue ++ [j] ∧ ((postJob s e j tag).eng e).lastRefused = false := by
  have hserves : ¬ ((s.eng e).st = .spare ∨ (s.eng e).st = .retired ∨ (s.eng e).st = .loading ∨ (s.eng e).st = .off ∨ 5 ≤ j.cls ∨
      (j.cls ≠ 0 ∧ s.pwr.depth ≠ 0)) := by
    rcases hst with hst | hst <;> rw [hst] <;> simp only [reduceCtorEq, false_or] <;> omega
  rw [postJob]
  dsimp only
  rw [htag, if_neg (by decide), if_neg (Nat.not_le.2 hroom), if_neg hserves, hkernel]
  dsimp only
  rw [hclass, if_neg (by decide)]
  split
  · obtain ⟨irq, at_, heng⟩ := preemptIf_eng (s.setEng e { s.eng e with queue := (s.eng e).queue ++ [j], lastRefused := false }) e
    rw [heng, eng_setEng]
    exact ⟨rfl, rfl⟩
  · rw [eng_setEng]
    exact ⟨rfl, rfl⟩

/-- A post to a full queue is refused, and its event fires (R326). -/
theorem postJob_full {tag : Nat} (htag : s.tagDeviceOrD2 tag = true) (hfull : 16 ≤ (s.eng e).queue.length + b2n (slotHeld s e j.src)) :
    ((postJob s e j tag).eng e).queue = (s.eng e).queue ∧ ((postJob s e j tag).eng e).lastRefused = true ∧ Fires (postJob s e j tag) 98 := by
  rw [postJob]
  dsimp only
  rw [htag, if_neg (by decide), if_pos hfull, refusePost]
  dsimp only
  rw [if_pos rfl, raise_eng, eng_setEng]
  exact ⟨rfl, rfl, fires_raise ..⟩

/-! ## Releases (R327) -/

/-- Without firmware no release fires. -/
theorem exec_releaseEntryFire_of_stopped {r : Nat} (hfw : s.ctl.fwRuns = false) : exec (.releaseEntryFire e r) s = .next s := by
  rw [exec_releaseEntryFire, execReleaseEntryFire]
  split
  · split
    · exact if_pos (.inr (.inl (by rw [hfw]; decide)))
    · rfl
  · rfl

theorem completes_releaseEntryFire {r : Nat} {rel : Release} (he : e < 18) (hr : r < 8) (hrel : (s.eng e).rels[r]? = some rel)
    (hperiod : rel.period ≠ 0) (hfw : s.ctl.fwRuns = true) (hserves : s.engInService e = true) :
    Completes (.releaseEntryFire e r) s fun t =>
      ∃ j ∈ (t.eng e).ready, j.slot = rel.slot ∧ j.cls = 0 ∧ j.arg = rel.arg ∧ j.deadline = t.now + rel.period := by
  rw [Completes, exec_releaseEntryFire, execReleaseEntryFire, if_pos ⟨he, hr⟩, hrel]
  dsimp only
  rw [hfw, hserves, if_neg (by simp [hperiod])]
  refine ⟨_, rfl, ?_⟩
  split
  · rw [eng_setEng]
    exact ⟨_, List.mem_append_right _ List.mem_cons_self, rfl, rfl, rfl, rfl⟩
  · rw [preemptIf_now]
    generalize hs3 : State.setEng .. = s3
    obtain ⟨irq, at_, heng⟩ := preemptIf_eng s3 e
    rw [heng, ← hs3, eng_setEng]
    exact ⟨_, List.mem_append_right _ List.mem_cons_self, rfl, rfl, rfl, rfl⟩

/-! ## Starts of jobs (R298, R328) -/

/-- A job at its start has its registers, and runs. -/
theorem startJob_starts (x : Eng) (j : Job) (pc : Nat) : (x.startJob j pc).st = .running ∧ (x.startJob j pc).job = some j ∧
    (x.startJob j pc).dr 0 = j.arg % 2 ^ 32 ∧ (x.startJob j pc).dr 1 = j.id % 2 ^ 32 ∧ (x.startJob j pc).acc = [] ∧
    (x.startJob j pc).rstack = [] := by
  refine ⟨rfl, rfl, ?_, ?_, rfl, rfl⟩
  · exact (spGet_spPut_other 0 0 (spPut 0 [] 0 (j.arg % 2 ^ 32)) (j.id % 2 ^ 32) (by decide)).trans (spGet_spPut_same ..)
  · exact spGet_spPut_same ..

/-- An idle engine that no roll holds starts the class-0 job due first. -/
theorem startNext_of_edf (hidle : (s.eng e).st = .idle) (hholds : s.rollHolds e = false)
    (hedf : edf ((s.eng e).ready ++ (s.eng e).queue.filter (fun j => j.cls = 0)) = some j) :
    ∃ (x : Eng) (pc : Nat), startNext s e = s.setEng e (x.startJob j pc) := by
  rw [startNext]
  dsimp only
  rw [hidle, hholds, if_neg (by decide), hedf]
  dsimp only
  split
  · exact ⟨_, _, rfl⟩
  · exact ⟨_, _, rfl⟩

/-! ## Ends of jobs (R329, R331) -/

/-- A job that its cycles end is gone, its PREEMPT with it, and the event of a fault fires. -/
theorem endAtCycles_ends (hjob : (s.eng e).job = some j) (n : Nat) {code : Nat} (hcode : 0x80 ≤ code) :
    ((endAtCycles s e n code).eng e).job = none ∧ ((endAtCycles s e n code).eng e).preemptAt = none ∧ Fires (endAtCycles s e n code) 96 := by
  rw [endAtCycles]
  dsimp only
  rw [hjob]
  dsimp only
  generalize hx : Eng.mk .. = x
  have hxjob : ((s.setEng e x).eng e).job = some { j with cycles := j.cycles + (n - j.cycles) } := by
    rw [eng_setEng, ← hx]
  obtain ⟨hnone, hfires⟩ := endJob_faults hxjob hcode
  obtain ⟨cpl, heng⟩ := endJob_eng hxjob code
  exact ⟨hnone, by rw [heng]; rfl, hfires⟩

/-! ## Rolls of kernels (R335) -/

theorem queue_loadEngine (s : State) (ovr : Sparse (List Byte)) (x : Eng) : (loadEngine s ovr x).queue = x.queue := by
  unfold loadEngine
  refine List.foldlRecOn (motive := fun st : Eng × Nat × Nat => st.1.queue = x.queue) _ _ rfl fun st hst slot _ => ?_
  obtain ⟨y, base, pbase⟩ := st
  dsimp only
  split
  · exact hst
  · exact hst

theorem queue_keepPersist (x y : Eng) (changed : List Nat) : (keepPersist x y changed).queue = y.queue := by
  unfold keepPersist
  refine List.foldlRecOn (motive := fun z : Eng => z.queue = y.queue) _ _ rfl fun z hz slot _ => ?_
  split
  · split
    · exact hz
    · exact hz
  · exact hz

theorem rollLeft_eng (s : State) (r : Roll) (e : Nat) : (rollLeft s r).eng e = s.eng e := by
  rw [rollLeft]
  split
  · rw [raise_eng]
    rfl
  · rfl

/-- The move of an engine at the head of a roll leaves what its queue holds (R335). -/
theorem queue_rollMove (s : State) (r : Roll) (e : Nat) : ((rollMove s r e).eng e).queue = (s.eng e).queue := by
  rw [rollMove, rollLeft_eng, eng_setEng, queue_keepPersist, queue_loadEngine]

theorem exec_engineRollMove_of_head {r : Roll} {rest : List Nat} (hroll : s.ge.roll = some r) (htodo : r.todo = e :: rest)
    (hidle : (s.eng e).st = .idle) : exec (.engineRollMove e) s = .next (rollMove s r e) := by
  rw [exec_engineRollMove, execEngineRollMove, hroll]
  dsimp only
  rw [htodo]
  exact if_pos ⟨rfl, hidle⟩

theorem completes_engineRollMove {r : Roll} {rest : List Nat} (hroll : s.ge.roll = some r) (htodo : r.todo = e :: rest) (hfresh : e ∉ rest)
    (hrest : rest ≠ []) (hidle : (s.eng e).st = .idle) :
    Completes (.engineRollMove e) s fun t => t.ge.roll = some { r with todo := rest } ∧ (t.eng e).queue = (s.eng e).queue := by
  refine ⟨_, exec_engineRollMove_of_head hroll htodo hidle, ?_, queue_rollMove ..⟩
  have hfilter : r.todo.filter (· ≠ e) = rest := by
    rw [htodo, List.filter_cons_of_neg (by simp)]
    exact List.filter_eq_self.2 fun a ha => decide_eq_true fun hae => hfresh (hae ▸ ha)
  rw [rollMove, hfilter, rollLeft, if_neg hrest]

theorem completes_engineRollMove_last {r : Roll} (hroll : s.ge.roll = some r) (htodo : r.todo = [e]) (hidle : (s.eng e).st = .idle) :
    Completes (.engineRollMove e) s fun t => t.ge.roll = none ∧ (t.eng e).queue = (s.eng e).queue ∧ Fires t 101 := by
  have hfilter : r.todo.filter (· ≠ e) = [] := by
    rw [htodo, List.filter_cons_of_neg (by simp)]
    rfl
  have hmove : rollMove s r e = raise { s.setEng e (keepPersist (s.eng e) (loadEngine s r.images (s.eng e)) r.changed) with
      ge := { (s.setEng e (keepPersist (s.eng e) (loadEngine s r.images (s.eng e)) r.changed)).ge with roll := none } } 101 NA NA := by
    rw [rollMove, hfilter, rollLeft, if_pos rfl]
  refine ⟨_, exec_engineRollMove_of_head hroll htodo hidle, ?_, queue_rollMove .., ?_⟩
  · rw [hmove, raise_ge]
  · rw [hmove]
    exact fires_raise ..

/-! ## The obligation -/

/-- Settles O34: each command by what it does with the engine, its job, its queue or the roll. -/
theorem engineJobCommandsComplete : Obligations.EngineJobCommandsComplete := by
  unfold Obligations.EngineJobCommandsComplete
  refine ⟨fun s e q d rest he hq hxq hin hok => completes_transferComplete he hq hxq hin hok, ?interrupt, ?doorbell, ?post, ?postFull, ?release,
    fun s e r hfw => ⟨_, exec_releaseEntryFire_of_stopped hfw, rfl⟩, ?start, ?late, ?overrun, ?cplRead, ?cplNone,
    fun s r e rest hroll htodo hfresh hrest hidle => completes_engineRollMove hroll htodo hfresh hrest hidle,
    fun s r e hroll htodo hidle => completes_engineRollMove_last hroll htodo hidle⟩
  case interrupt =>
    intro s e j k he hrun hslots hie hloop hirq him hjob hkernel hcode
    obtain ⟨u, hexec⟩ := exec_interruptAccept_preempt he hrun hslots hie hloop hirq him hjob hkernel hcode
    obtain ⟨b, f, hx⟩ := atBoundary_eq (s.eng e)
    refine ⟨_, hexec, ?_⟩
    have htaken := interrupted_preempt (s.eng e).atBoundary k.hPreempt
    beta_reduce
    rw [eng_setEng]
    rwa [show (s.eng e).atBoundary.pc = (s.eng e).pc by rw [hx]] at htaken
  case doorbell =>
    intro s tag e value he htag hbit hoff
    refine ⟨_, ?_, ringDoorbell_irq s e⟩
    rw [exec_geDoorbell, execGeDoorbell, if_pos he, tagged_of_may hoff htag, if_pos hbit]
  case post =>
    intro s tag e value k he htag hoff hroom hst hkernel hcls hdepth hclass
    refine ⟨_, ?_, postJob_queues htag hroom hst hkernel hcls hdepth hclass⟩
    rw [exec_gePost, execGePost, if_pos he, if_neg (ne_true_of_eq_false hoff)]
  case postFull =>
    intro s tag e value he htag hoff hfull
    refine ⟨_, ?_, postJob_full (j := ⟨bitsOf value 3 0, bitsOf value 6 4, bitsOf value 23 8, bitsOf value 63 32, bitsOf value 127 64, .firmware,
      0, s.clk.elapsed⟩) htag hfull⟩
    rw [exec_gePost, execGePost, if_pos he, if_neg (ne_true_of_eq_false hoff)]
  case release => exact fun s e r rel he hr hrel hperiod hfw hserves => completes_releaseEntryFire he hr hrel hperiod hfw hserves
  case start =>
    intro s e j he hidle hholds hedf
    obtain ⟨x, pc, hstart⟩ := startNext_of_edf hidle hholds hedf
    refine ⟨s.setEng e (x.startJob j pc), ?_, ?_⟩
    · rw [exec_jobStart, execJobStart, if_pos he, hstart]
    · beta_reduce
      rw [eng_setEng]
      exact startJob_starts x j pc
  case late =>
    intro s e c j he hpreempt hjob
    refine ⟨_, ?_, endAtCycles_ends hjob (c + 2048) (by decide : 0x80 ≤ 0x86)⟩
    rw [exec_preemptLate, execPreemptLate, hpreempt]
    exact if_pos he
  case overrun =>
    intro s e j k he hjob hkernel
    obtain ⟨hnone, -, hfires⟩ := endAtCycles_ends hjob (2 * k.cyc) (by decide : 0x80 ≤ 0x85)
    refine ⟨_, ?_, hnone, hfires⟩
    rw [exec_jobOverrun, execJobOverrun, hjob]
    dsimp only
    rw [hkernel]
    exact if_pos he
  case cplRead =>
    intro s e w rest he hoff hcpl
    refine ⟨emit (s.setEng e { s.eng e with cpl := rest }) (.bus 0 (beBytes 16 w)), ?_, congrArg Eng.cpl (eng_setEng ..), rfl⟩
    rw [exec_geCplRead, execGeCplRead, if_pos he, if_neg (ne_true_of_eq_false hoff), hcpl]
  case cplNone =>
    intro s e he hoff hcpl
    refine ⟨emit s (.bus 0 (beBytes 16 0)), ?_, rfl⟩
    rw [exec_geCplRead, execGeCplRead, if_pos he, if_neg (ne_true_of_eq_false hoff), hcpl]

end Sys2Proof.Machine
end

section
/-!
Two operations that write SW in one bundle (R301), and with them the refutations of O29 and O32.  EI, DI, ICMP and SETBS all send a result of
latency 1 to SW, key 94, and the bundle keeps count of it; the clauses for an operation that ends its bundle leave this writer out.  A bundle
that holds EI and ends in ICMP, or the other way round, meets their hypotheses, and the job ends with fault ILLEGAL.
-/

namespace Sys2Proof.Machine

variable {s : State} {e slot ecc : Nat} {last : Bool} {act : Eng → Nat ⊕ Eng} {x : Eng} {j : Job}

/-! ## Two writers of one register -/

theorem endBundle_of_dup (hjob : (s.eng e).job = some j) (hdup : dupWrites (s.eng e).bundle = true) : endBundle s e = endJob s e 0x81 := by
  rw [endBundle, hjob]
  dsimp only
  rw [hdup, if_pos rfl]

/-- An operation that ends a bundle with two writers of one register ends the job, and the engine is idle (R301). -/
theorem st_of_dupWrites (he : e < 18) (hrun : (s.eng e).st = .running) (hfree : slotClash (s.eng e).bundle.slots slot = false)
    (hlast : last = true) (hecc : ecc ≠ 2) (hact : act (s.eng e) = .inr x) (hjob : x.job = some j) (hst : x.st = .running)
    (hdup : dupWrites (x.takes slot).bundle = true) : ((slotOp s e slot last ecc act).eng e).st = .idle := by
  have heng : ((eccCounted s e ecc).setEng e (x.takes slot)).eng e = x.takes slot := eng_setEng ..
  rw [slotOp_of_issues he hrun hfree hecc hact hlast, endBundle_of_dup (j := j) (by rw [heng]; exact hjob) (by rw [heng]; exact hdup)]
  obtain ⟨cpl, hended⟩ := endJob_eng (s := (eccCounted s e ecc).setEng e (x.takes slot)) (j := j) (by rw [heng]; exact hjob) 0x81
  rw [hended, heng]
  exact if_pos hst

/-! ## A bundle that has a writer of SW -/

/-- The device at reset, but engine 17 runs a job, and its bundle holds an operation in `slot` that writes SW with latency 1. -/
def swBegun (slot : Nat) : State :=
  State.reset.setEng 17
    { Eng.reset with
      st := .running, job := some ⟨1, 0, 7, 9, 1000, .firmware, 5, 0⟩, pc := 5,
      kset := [(1, some ⟨0, 64, 1, 1, 0, 0, 8, 9, 10, 100, 0, 0, 0, 0, 0, 0xFF⟩)],
      bundle := { Bundle.empty with slots := [slot], writes := [(94, 1)] } }

/-- ICMP, which ends its bundle. -/
def icmpLast : GeC := ⟨17, 0, 3, 5, false, false, true, 0⟩

/-- EI, which ends its bundle. -/
def eiLast : GeK := ⟨17, 0, true, 0⟩

theorem icmp_ends_job : ∃ t, exec (.icmp icmpLast) (swBegun 4) = .next t ∧ (t.eng 17).st = .idle :=
  ⟨_, exec_icmp .., st_of_dupWrites (by decide) (by decide +kernel) (by decide +kernel) rfl (by decide) rfl rfl (by decide +kernel)
    (by decide +kernel)⟩

theorem ei_ends_job : ∃ t, exec (.ei eiLast) (swBegun 0) = .next t ∧ (t.eng 17).st = .idle :=
  ⟨_, exec_ei .., st_of_dupWrites (by decide) (by decide +kernel) (by decide +kernel) rfl (by decide) rfl rfl (by decide +kernel)
    (by decide +kernel)⟩

/-- What ends the job does not complete as an issue. -/
theorem not_completes_of_idle {c : Instr} {pc : Nat} {P : State → Prop} (h : ∃ t, exec c s = .next t ∧ (t.eng e).st = .idle) :
    ¬ Completes c s fun t => GeIssued s t e pc ∧ P t := by
  rintro ⟨t, hexec, ⟨hst, -⟩, -⟩
  obtain ⟨u, hexec', hidle⟩ := h
  cases hexec.symm.trans hexec'
  rw [hst] at hidle
  cases hidle

/-! ## The obligations -/

/-- Refutes O29: a bundle that holds EI and ends in ICMP has two writers of SW with latency 1, and the job ends. -/
theorem not_integerAndControlRegisterResults : ¬ Obligations.IntegerAndControlRegisterResults := by
  unfold Obligations.IntegerAndControlRegisterResults
  rintro ⟨-, -, -, -, -, -, -, -, -, -, -, -, -, -, -, -, -, -, -, -, -, -, -, -, -, -, -, hicmp, -⟩
  exact not_completes_of_idle icmp_ends_job (hicmp (swBegun 4) icmpLast (by decide +kernel) (by decide +kernel))

/-- Refutes O32: a bundle that holds ICMP and ends in EI has two writers of SW with latency 1, and the job ends. -/
theorem not_controlSlotResults : ¬ Obligations.ControlSlotResults := by
  unfold Obligations.ControlSlotResults
  rintro ⟨-, -, -, -, -, -, -, -, -, -, -, -, -, -, -, -, -, -, -, -, -, -, -, -, -, -, -, -, -, -, -, -, -, -, -, -, -, -, -, -, -, -, hei, -⟩
  exact not_completes_of_idle ei_ends_job (hei (swBegun 0) eiLast (by decide +kernel) (by decide +kernel))

end Sys2Proof.Machine
end

section
/-!
Writes of CAL_CTRL and CAL_HRX (R382), and with them the settlement of O37: past the gate a write with the device tag, or the debug tag at D2
or above, acts by the register's access codes; every other tag is a firewall violation, at the gate or behind it.
-/

namespace Sys2Proof.Machine

-- One proof after another: proofs that wait side by side for the kernel's environment each take a thread's stack of the check's memory.
set_option Elab.async false

variable {s : State} {m : Master} {tag a : Nat} {w : Window} {write : Bool} {id : RegId}

/-! ## The gate -/

/-- R30 to R35: a transaction with an origin tag passes where its master reaches the window and the window's island is up. -/
theorem gate_of_reaches (hm : s.silenced m = false) (hw : windowOf a = some w) (htag : tag < 6) (hr : reaches m a write w = true)
    (hoff : (s.island w.island).off = false) : gate s m tag a write = (0, s) := by
  rw [gate, hm, hw]
  simp [Nat.not_le.2 htag, hr, hoff]

/-- R30: a transaction whose tag is no origin tag is a firewall violation. -/
theorem gate_of_no_tag (hm : s.silenced m = false) (hw : windowOf a = some w) (htag : 6 ≤ tag) :
    gate s m tag a write = (3, firewall s tag) := by
  rw [gate, hm, hw]
  simp [htag]

/-- The tags that may write a device register are origin tags. -/
theorem lt_of_tagDeviceOrD2 (h : s.tagDeviceOrD2 tag = true) : tag < 6 := by
  simp only [State.tagDeviceOrD2, Bool.or_eq_true, Bool.and_eq_true, decide_eq_true_eq] at h
  omega

/-! ## The two registers -/

/-- Every RW field of CAL_CTRL takes its bits of the value written. -/
theorem writeFields_calCtrl (v : Nat) : writeFields s .calCtrl [] v = wr s .calCtrl []
    (setBits (setBits (setBits (rd s .calCtrl []) 4 0 (bitsOf v 4 0)) 5 5 (bitsOf v 5 5)) 6 6 (bitsOf v 6 6)) := rfl

/-- A field inside a register's width is left by the cut to that width. -/
theorem bitsOf_mod_two_pow (x : Nat) {k hi lo : Nat} (hhi : hi < k) (hlo : lo ≤ hi) : bitsOf (x % 2 ^ k) hi lo = bitsOf x hi lo := by
  refine Nat.eq_of_testBit_eq fun i => ?_
  rw [testBit_bitsOf, testBit_bitsOf, Nat.testBit_mod_two_pow]
  by_cases hi' : i < hi - lo + 1
  · have hin : lo + i < k := by omega
    simp [hin]
  · simp [hi']

/-- A field that takes its bits of a value reads as those bits. -/
theorem bitsOf_setBits_bitsOf (x v : Nat) {hi lo : Nat} (hlo : lo ≤ hi) : bitsOf (setBits x hi lo (bitsOf v hi lo)) hi lo = bitsOf v hi lo := by
  rw [bitsOf_setBits_same _ _ _ _ hlo]
  exact Nat.mod_mod _ _

/-- Each field of CAL_CTRL reads back what was written to it. -/
theorem rf_writeFields_calCtrl (v : Nat) :
    ∀ f ∈ regFields .calCtrl, rf (writeFields s .calCtrl [] v) .calCtrl [] f.1 f.2.1 = bitsOf v f.1 f.2.1 := by
  have hfields : regFields .calCtrl = [(4, 0, .rw), (5, 5, .rw), (6, 6, .rw)] := rfl
  have hwidth : (regRow .calCtrl).width = 32 := rfl
  intro f hf
  rw [writeFields_calCtrl, rf, rd_wr_same, hwidth]
  rw [hfields, List.mem_cons, List.mem_cons, List.mem_singleton] at hf
  rcases hf with rfl | rfl | rfl
  · rw [bitsOf_mod_two_pow _ (by decide) (by decide), bitsOf_setBits_other _ _ _ _ _ _ (by decide) (by decide) (by decide),
      bitsOf_setBits_other _ _ _ _ _ _ (by decide) (by decide) (by decide), bitsOf_setBits_bitsOf _ _ (by decide)]
  · rw [bitsOf_mod_two_pow _ (by decide) (by decide), bitsOf_setBits_other _ _ _ _ _ _ (by decide) (by decide) (by decide),
      bitsOf_setBits_bitsOf _ _ (by decide)]
  · rw [bitsOf_mod_two_pow _ (by decide) (by decide), bitsOf_setBits_bitsOf _ _ (by decide)]

/-- ARM, MODE and STEP of an injection leave what the NV store holds. -/
theorem hrxArm_nv (v : Nat) : (hrxArm s v).nv = s.nv :=
  (hrxArm_same v (Nat.and_self _) (Same.refl _ s)).but.nv (by decide)

theorem regWrite_calCtrl (v : Nat) (ht : s.tagDeviceOrD2 tag = true) : regWrite s m tag .calCtrl [] v = writeFields s .calCtrl [] v := by
  simp [regWrite, regTag, ht, freezeRefused, ownCommand, afterWrite]

theorem regWrite_calHrx (v : Nat) (ht : s.tagDeviceOrD2 tag = true) : regWrite s m tag .calHrx [] v = hrxArm s v := by
  simp [regWrite, regTag, ht, freezeRefused, ownCommand, regAction]

/-- R382: a tag that may not write them is a firewall violation. -/
theorem regWrite_calibration_refused (hid : id = .calCtrl ∨ id = .calHrx) (v : Nat) (ht : s.tagDeviceOrD2 tag = false) :
    regWrite s m tag id [] v = firewall s tag := by
  rcases hid with rfl | rfl <;> simp [regWrite, regTag, ht]

/-- The addresses of the two registers decode to them. -/
theorem decode_calibration (hid : id = .calCtrl ∨ id = .calHrx) :
    regDecode (regAddr id []) = some (id, []) ∧ blockMem (regAddr id []) = false := by
  rcases hid with rfl | rfl
  · decide +kernel
  · decide +kernel

/-! ## The write -/

/-- REGISTER_WRITE of either by a master that reaches it, with an origin tag: what the register's write leaves, answered OK. -/
theorem exec_registerWrite_calibration (hid : id = .calCtrl ∨ id = .calHrx) (v : Nat) (hg : gate s m tag (regAddr id []) true = (0, s))
    (hnv : (regWrite s m tag id [] v).nv = s.nv) :
    exec (.registerWrite m tag (regAddr id []) v) s = .next (emit (regWrite s m tag id [] v) (.bus 0 [])) := by
  obtain ⟨hdecode, hblock⟩ := decode_calibration hid
  rw [exec_registerWrite_of_gate hg hdecode hblock]
  exact congrArg _ (tokenStart_of_nv_eq hnv)

/-- REGISTER_WRITE of either with another tag is a firewall violation, answered OK (log entry 96). -/
theorem exec_registerWrite_calibration_refused (hid : id = .calCtrl ∨ id = .calHrx) (v : Nat) (hm : s.silenced m = false)
    (hw : windowOf (regAddr id []) = some w) (hr : reaches m (regAddr id []) true w = true) (hoff : (s.island w.island).off = false)
    (ht : s.tagDeviceOrD2 tag = false) :
    exec (.registerWrite m tag (regAddr id []) v) s = .next (emit (firewall s tag) (.bus 0 [])) := by
  have hnv : (firewall s tag).nv = s.nv := raise_nv ..
  rcases Nat.lt_or_ge tag 6 with htag | htag
  · have hrefused := regWrite_calibration_refused (m := m) hid v ht
    rw [exec_registerWrite_calibration hid v (gate_of_reaches hm hw htag hr hoff) (by rw [hrefused, hnv]), hrefused]
  · rw [exec_registerWrite, execRegisterWrite, regWriteBy, gate_of_no_tag hm hw htag]
    exact congrArg _ (tokenStart_of_nv_eq hnv)

/-! ## The obligation -/

/-- Settles O37: past the gate by what the registers' writes leave, and by the firewall violation for every tag that may not write them. -/
theorem calibrationWritesNeedTheDevice : Obligations.CalibrationWritesNeedTheDevice := by
  unfold Obligations.CalibrationWritesNeedTheDevice
  refine ⟨fun s m tag v w hm hw hr hoff ht => ⟨?ctrl, rf_writeFields_calCtrl v⟩, fun s m tag v w hm hw hr hoff ht => ?hrx,
    fun s m tag v w id hid hm hw hr hoff ht => ⟨exec_registerWrite_calibration_refused hid v hm hw hr hoff ht, ?fires⟩⟩
  case ctrl =>
    have hperformed := regWrite_calCtrl (m := m) v ht
    rw [exec_registerWrite_calibration (.inl rfl) v (gate_of_reaches hm hw (lt_of_tagDeviceOrD2 ht) hr hoff) (by rw [hperformed]; rfl),
      hperformed]
  case hrx =>
    have hperformed := regWrite_calHrx (m := m) v ht
    rw [exec_registerWrite_calibration (.inr rfl) v (gate_of_reaches hm hw (lt_of_tagDeviceOrD2 ht) hr hoff)
      (by rw [hperformed, hrxArm_nv]), hperformed]
  case fires => exact (fires_raise ..).of_evt rfl

end Sys2Proof.Machine
end

section
/-!
Foreground calibration (R376 to R381), and with it the settlement of O36: what a request's submission and its end leave, what holds a path in a
service window, and what follows a run that passed or failed.
-/

namespace Sys2Proof.Machine

-- One proof after another: proofs that wait side by side for the kernel's environment each take a thread's stack of the check's memory.
set_option Elab.async false

variable {s t : State} {p : Nat}

/-! ## Submission (R376 to R379) -/

/-- A request's status is an object of its path. -/
theorem fgStatus_same_but (s : State) (p code : Nat) : SameBut [.regs, .objs, .objGen] [] s (fgStatus s p code) :=
  (fgStatus_same p code (Nat.and_self _) (Same.refl _ s)).butAny

theorem fgStatus_cal (code : Nat) : (fgStatus s p code).cal = s.cal := (fgStatus_same_but s p code).cal (by decide)

theorem pathState_fgStatus (code q : Nat) : (fgStatus s p code).pathState q = s.pathState q := by
  rw [State.pathState, (fgStatus_same_but s p code).tl (by decide), State.pathState]

/-- FOREGROUND_REQUEST from firmware, of an item that a request may name. -/
theorem exec_foregroundRequest_of_item {item : Nat} (hp : p < 64) (hlo : 0x30 ≤ item) (hhi : item ≤ 0x32) (flags : Nat) :
    exec (.foregroundRequest none p item flags) s = .next (fgRequest s none p item flags) :=
  if_pos ⟨hp, hlo, hhi⟩

/-- A request without flags, as the device holds it. -/
def fgWaiting (s : State) (p item : Nat) : State :=
  { s with cal := { s.cal with fg := s.cal.fg ++ [⟨p, item, false, false, s.clk.elapsed, false⟩] } }

/-- R376, R378: a request without flags, the first of a path that is not OFF, waits with those that the device holds. -/
theorem fgRequest_of_new (item : Nat) (hnew : ∀ r ∈ s.cal.fg, r.path ≠ p) (hroom : s.cal.fg.length < 8) (hon : s.pathState p ≠ .off) :
    fgRequest s none p item 0 = fgStatus (fgWaiting s p item) p 1 := by
  have hnone : s.cal.fg.find? (fun r => r.path = p) = none := List.find?_eq_none.2 fun r hr => by simpa using hnew r hr
  have hoff : (fgStatus (fgWaiting s p item) p 1).pathState p ≠ .off := by
    rw [pathState_fgStatus]
    exact hon
  have hflags : bitOf 0 0 = false ∧ bitOf 0 1 = false := by decide
  have hheld : ¬ 8 ≤ s.cal.fg.length := Nat.not_le.2 hroom
  unfold fgRequest
  rw [hnone, hflags.1, hflags.2]
  dsimp only
  rw [if_neg (by decide), if_neg hheld]
  exact if_neg (fun hruns => hoff hruns.2)

/-- R379: FORCE without a role that may set it is declined. -/
theorem fgRequest_forced_of_no_role (item : Nat) : fgRequest s none p item 1 =
    raise (if (s.cal.fg.find? (fun r => r.path = p)).isSome then s else fgStatus s p 9) 107 NA p := by
  unfold fgRequest
  exact if_pos (by decide)

/-! ## The end of a request (R381) -/

/-- The requests of other paths stay. -/
def fgLeft (s : State) (p : Nat) : State := { s with cal := { s.cal with fg := s.cal.fg.filter (fun r => r.path ≠ p) } }

/-- A request's end takes those of its path out. -/
theorem fgEnd_cal (code : Nat) : (fgEnd s p code).cal = (fgLeft s p).cal :=
  (raise_cal ..).trans (fgStatus_cal code)

theorem path_ne_of_mem_fgEnd {code : Nat} {r : FgReq} (h : r ∈ (fgEnd s p code).cal.fg) : r.path ≠ p := by
  rw [fgEnd_cal] at h
  exact of_decide_eq_true (List.mem_filter.1 h).2

theorem fgEnd_clk (code : Nat) : (fgEnd s p code).clk = s.clk :=
  (fgEnd_same p code (Nat.and_self _) (Same.refl _ s)).butAny.clk (by decide)

theorem fgEnd_bm (code : Nat) : (fgEnd s p code).bm = s.bm :=
  (fgEnd_same p code (Nat.and_self _) (Same.refl _ s)).butAny.bm (by decide)

theorem fires_fgEnd (s : State) (p code : Nat) : Fires (fgEnd s p code) (if 3 ≤ code ∧ code ≤ 5 then 106 else 107) := fires_raise ..

theorem exec_foregroundWindowTimeout_of_waiting {r : FgReq} (h : s.cal.fg.find? (fun r => r.path = p ∧ ¬ r.running ∧ ¬ r.force) = some r) :
    exec (.foregroundWindowTimeout p) s = .next (fgEnd (reachElapsed s (r.at_ + secTicks)) p 6) := by
  rw [exec_foregroundWindowTimeout, execForegroundWindowTimeout, h]

/-! ## Service windows (R380) -/

/-- A service window holds a path OFF and masked. -/
abbrev HeldByWindow (t : State) (p : Nat) : Prop :=
  t.pathState p = .off ∧ p ∈ t.cal.window ∧ p ∈ t.bm.held ∧ bitOf t.bm.mask p = true

/-- The window takes a path. -/
def windowTaken (s : State) (p : Nat) : State :=
  { s with
    cal := { s.cal with window := setIns p s.cal.window },
    bm := { s.bm with held := setIns p s.bm.held, mask := setBits s.bm.mask p p 1, heal := ⟨1, s.clk.elapsed, s.bm.heal.late, [], 0⟩ } }

/-- The path goes OFF, and its waiting request runs. -/
def windowEnters (s : State) (p : Nat) : State := fgPathOff (arrayMargin (pathOff (windowTaken s p) p)) p

/-- The request that runs leaves the window's paths. -/
theorem fgPathOff_window (p : Nat) : (fgPathOff s p).cal.window = s.cal.window := by
  have hrun : (fgRun s p).cal.window = s.cal.window := by rw [fgRun, fgStatus_cal]
  rw [fgPathOff]
  split
  · exact hrun
  · rfl

theorem windowEnters_leaves (p : Nat) : (windowEnters s p).tl = { s.tl with path := spPut PathState.off s.tl.path p .off } ∧
    (windowEnters s p).cal.window = setIns p s.cal.window ∧ (windowEnters s p).bm = (windowTaken s p).bm := by
  obtain ⟨htl, hbm, -⟩ := fgPathOff_tl_bm_clk (arrayMargin (pathOff (windowTaken s p) p)) p
  have bmargin := (arrayMargin_same (Nat.and_self _) (Same.refl _ (pathOff (windowTaken s p) p))).but
  have boff := (pathOff_same p (Nat.and_self _) (Same.refl _ (windowTaken s p))).but
  refine ⟨?_, ?_, ?_⟩
  · rw [windowEnters, htl, bmargin.tl (by decide), pathOff_tl]
    rfl
  · rw [windowEnters, fgPathOff_window, bmargin.cal (by decide), boff.cal (by decide)]
    rfl
  · rw [windowEnters, hbm, bmargin.bm (by decide), boff.bm (by decide)]

theorem heldByWindow_windowEnters (s : State) (p : Nat) : HeldByWindow (windowEnters s p) p := by
  obtain ⟨htl, hwindow, hbm⟩ := windowEnters_leaves (s := s) p
  refine ⟨?_, ?_, ?_, ?_⟩
  · rw [State.pathState, htl]
    exact spGet_spPut_same PathState.off s.tl.path p .off
  · rw [hwindow]
    exact mem_setIns.2 (.inl rfl)
  · rw [hbm]
    exact mem_setIns.2 (.inl rfl)
  · rw [hbm]
    exact bitOf_setBits_one ..

/-- A path that the window holds stays held as it takes others. -/
theorem HeldByWindow.windowEnters (h : HeldByWindow s p) (q : Nat) : HeldByWindow (windowEnters s q) p := by
  obtain ⟨hoff, hwin, hheld, hmask⟩ := h
  obtain ⟨htl, hwindow, hbm⟩ := windowEnters_leaves (s := s) q
  by_cases hpq : p = q
  · rw [hpq]
    exact heldByWindow_windowEnters s q
  · refine ⟨?_, ?_, ?_, ?_⟩
    · rw [State.pathState, htl]
      dsimp only
      rw [spGet_spPut_other _ _ _ _ hpq]
      exact hoff
    · rw [hwindow]
      exact mem_setIns.2 (.inr hwin)
    · rw [hbm]
      exact mem_setIns.2 (.inr hheld)
    · rw [hbm]
      exact (bitOf_setBits_other _ _ _ _ _ (Nat.le_refl q) (Nat.lt_or_gt_of_ne hpq)).trans hmask

theorem le_nextSymbol (ofs mu : Nat) (ecp : Bool) (n : Nat) : n ≤ nextSymbol ofs mu ecp n := by
  unfold nextSymbol
  dsimp only
  split
  · exact Nat.le_add_right ..
  · split
    · exact Nat.le_refl n
    · omega

/-- The state at the symbol boundary with which a service window begins. -/
def windowBegin (s : State) : State := reachCount s (nextSymbol s.frameOfs s.refMu s.refEcp (max s.now (s.onum 0x7030 1)))

/-- The paths that the window takes: those it names that are not held already. -/
def windowPaths (s : State) : List Nat := (List.range 64).filter (fun p => bitOf (s.onum 0x7030 3) p && decide (p ∉ s.bm.held))

/-- SERVICE_WINDOW_START of a window that is set and whose first boundary lies within it. -/
theorem exec_serviceWindowStart_of_within (hset : s.onum 0x7030 2 ≠ 0)
    (hwithin : nextSymbol s.frameOfs s.refMu s.refEcp (max s.now (s.onum 0x7030 1)) < s.onum 0x7030 1 + s.onum 0x7030 2 * msTicks) :
    exec .serviceWindowStart s = .next ((windowPaths (windowBegin s)).foldl windowEnters (windowBegin s)) := by
  have hbegin : (windowBegin s).now = nextSymbol s.frameOfs s.refMu s.refEcp (max s.now (s.onum 0x7030 1)) :=
    (reachCount_count _).trans (Nat.max_eq_right ((Nat.le_max_left s.now _).trans (le_nextSymbol ..)))
  rw [exec_serviceWindowStart, execServiceWindowStart, if_neg hset]
  exact if_pos (hbegin.trans_lt hwithin)

theorem heldByWindow_foldl_windowEnters (l : List Nat) : ∀ p ∈ l, HeldByWindow (l.foldl windowEnters s) p :=
  foldl_each (I := fun _ => True) (fun _ _ _ => trivial) (fun u p _ => heldByWindow_windowEnters u p)
    (fun _ q _ _ h => h.windowEnters q) trivial

/-! ## Runs that end (R379, R380) -/

variable {r : FgReq} {results : List (Nat × CalMeas)}

/-- The state in which a run ends, its result kept (R341). -/
def runOver (s : State) (r : FgReq) (result : Nat) : State := lastRun (reachElapsed s (r.at_ + fgTicks r.item)) r.item result

theorem lastRun_clk_bm (item result : Nat) : (lastRun s item result).clk = s.clk ∧ (lastRun s item result).bm = s.bm :=
  have b := (lastRun_same item result (Nat.and_self _) (Same.refl _ s)).butAny
  ⟨b.clk (by decide), b.bm (by decide)⟩

theorem runOver_elapsed (result : Nat) : (runOver s r result).clk.elapsed = max s.clk.elapsed (r.at_ + fgTicks r.item) := by
  rw [runOver, (lastRun_clk_bm ..).1, reachElapsed_elapsed]

theorem runOver_bm (result : Nat) : (runOver s r result).bm = s.bm := by
  rw [runOver, (lastRun_clk_bm ..).2]
  rfl

/-- A run that failed: the path does not return with the window's end (R380). -/
def runFailed (s : State) (r : FgReq) (p : Nat) : State :=
  let s1 := runOver s r 3
  fgEnd { s1 with cal := { s1.cal with window := s1.cal.window.filter (· ≠ p) } } p 5

/-- What a failed run of an item leads to (R375, R379). -/
def failureTold (s : State) (item p : Nat) : State :=
  if item = 0x30 then heartLimit s p 0x10 true else if item = 0x32 then failPath (raise s 39 NA p) p else s

theorem exec_foregroundRunEnd_of_failed (h : s.cal.fg.find? (fun r => r.path = p ∧ r.running) = some r) (results : List (Nat × CalMeas)) :
    exec (.foregroundRunEnd p false results) s = .next (failureTold (runFailed s r p) r.item p) := by
  rw [exec_foregroundRunEnd, execForegroundRunEnd, h]
  rfl

/-- From `s` to `t` the requests and time stay, and what waits to be presented keeps waiting. -/
structure RequestsStay (s t : State) : Prop where
  fg : t.cal.fg = s.cal.fg
  clk : t.clk = s.clk
  fires : ∀ k, Fires s k → Fires t k

theorem RequestsStay.refl (s : State) : RequestsStay s s := ⟨rfl, rfl, fun _ hk => hk⟩

/-- An event is raised, and the path fails. -/
theorem RequestsStay.failPath_raise (h : RequestsStay s t) (a b c p : Nat) : RequestsStay s (failPath (raise t a b c) p) := by
  have hfail := (failPath_same p (Nat.and_self _) (Same.refl _ (raise t a b c))).but
  refine ⟨?_, ?_, fun k hk => ((h.fires k hk).raise ..).failPath p⟩
  · rw [hfail.cal (by decide), raise_cal, h.fg]
  · rw [hfail.clk (by decide), raise_clk, h.clk]

theorem RequestsStay.ite {u : State} {c : Prop} [Decidable c] (h : RequestsStay s t) (h' : RequestsStay s u) :
    RequestsStay s (if c then t else u) := by
  split
  · exact h
  · exact h'

theorem requestsStay_heartLimit (i : Nat) (bad : Bool) : RequestsStay s (heartLimit s p i bad) := by
  have hcount (n : Nat) : RequestsStay s { s with cal := { s.cal with bad := spPut 0 s.cal.bad (p * 256 + i) n } } :=
    ⟨rfl, rfl, fun _ hk => hk⟩
  unfold heartLimit
  exact ((hcount _).failPath_raise ..).ite (hcount _)

theorem requestsStay_failureTold (item : Nat) : RequestsStay s (failureTold s item p) :=
  (requestsStay_heartLimit 0x10 true).ite (((RequestsStay.refl s).failPath_raise ..).ite (.refl s))

/-- The state in which a run has passed: a full calibration's values are in force (R376). -/
def runPassed (s : State) (r : FgReq) (p : Nat) (results : List (Nat × CalMeas)) : State :=
  if r.item = 0x30 then fgApply (runOver s r 0) p results else runOver s r 0

theorem fgApply_clk_bm (results : List (Nat × CalMeas)) : (fgApply s p results).clk = s.clk ∧ (fgApply s p results).bm = s.bm :=
  have b := (fgApply_same p results (Nat.and_self _) (Same.refl _ s)).but
  ⟨b.clk (by decide), b.bm (by decide)⟩

theorem runPassed_bm : (runPassed s r p results).bm = s.bm := by
  unfold runPassed
  split
  · rw [(fgApply_clk_bm results).2, runOver_bm]
  · exact runOver_bm 0

/-- A path is to be cleared, from an elapsed tick less 2 or, with 1, by its foreground calibration to come (R264). -/
def toClear (s : State) (p n : Nat) : State := { s with bm := { s.bm with clearing := spPut 0 s.bm.clearing p n } }

/-- A full calibration that passed is kept for a clear to come (R264). -/
def passKept (s : State) (p : Nat) : State := { s with bm := { s.bm with passed := spPut 0 s.bm.passed p (s.clk.elapsed + 2) } }

/-- R264: the pass of a request, as the beam matrix notes it. -/
def passNoted (s : State) (r : FgReq) (p : Nat) : State :=
  if r.item ≠ 0x30 then (if r.auto then toClear s p 1 else s)
  else if r.auto || decide (spGet 0 s.bm.clearing p = 1) then toClear s p (s.clk.elapsed + 2)
  else passKept s p

/-- FOREGROUND_RUN_END of a forced request that passed: no window held its path. -/
theorem exec_foregroundRunEnd_of_forced (h : s.cal.fg.find? (fun r => r.path = p ∧ r.running) = some r) (hforce : r.force = true)
    (results : List (Nat × CalMeas)) : exec (.foregroundRunEnd p true results) s =
      .next (fgEnd (passNoted (runPassed s r p results) r p) p (if r.auto then 3 else 4)) := by
  have hcode : (if r.force = true ∧ ¬ r.auto = true then 4 else 3) = if r.auto = true then 3 else 4 := by
    cases r.auto <;> simp [hforce]
  rw [exec_foregroundRunEnd, execForegroundRunEnd, h]
  dsimp only
  rw [if_pos rfl, if_neg (by simp [hforce]), hcode]
  rfl

theorem passNoted_clk : (passNoted s r p).clk = s.clk := by
  unfold passNoted
  split_ifs <;> rfl

theorem toClear_clearing (n : Nat) : spGet 0 (toClear s p n).bm.clearing p = n := spGet_spPut_same 0 s.bm.clearing p n

/-- With AUTO_CLEAR the path is to be cleared: at once after its full calibration, else by one to come (R264, R379; log entry 169). -/
theorem passNoted_clearing_of_auto (hauto : r.auto = true) :
    spGet 0 (passNoted s r p).bm.clearing p = if r.item = 0x30 then s.clk.elapsed + 2 else 1 := by
  unfold passNoted
  rw [hauto, Bool.true_or, if_pos rfl, if_pos rfl]
  by_cases hitem : r.item = 0x30
  · rw [if_neg (not_not_intro hitem), if_pos hitem, toClear_clearing]
  · rw [if_pos hitem, if_neg hitem, toClear_clearing]

/-- Without, a full calibration clears a path that waits for it, and is kept for a clear to come (R264). -/
theorem passNoted_of_no_auto (hitem : r.item = 0x30) (hauto : r.auto = false) :
    if spGet 0 s.bm.clearing p = 1 then spGet 0 (passNoted s r p).bm.clearing p = s.clk.elapsed + 2
    else spGet 0 (passNoted s r p).bm.passed p = s.clk.elapsed + 2 := by
  unfold passNoted
  rw [hauto, Bool.false_or, if_neg (not_not_intro hitem)]
  split
  next hclear => rw [if_pos (decide_eq_true hclear), toClear_clearing]
  next hkeep =>
    rw [if_neg (by simpa using hkeep)]
    exact spGet_spPut_same 0 s.bm.passed p (s.clk.elapsed + 2)

/-! ## The obligation -/

/-- Settles O36: requests by what they add to those held, a service window by the fold over the paths that it takes, and a run's end by what its
failure or its pass leaves. -/
theorem foregroundCommandsComplete : Obligations.ForegroundCommandsComplete := by
  unfold Obligations.ForegroundCommandsComplete
  refine ⟨fun s p item hp hlo hhi hnew hroom hon => ?taken, fun s p item hp hlo hhi => ?declined, fun s p r hwaits => ?timeout,
    fun s p hset hp hnamed hheld hnew hwithin => ?window, fun s p r results hruns => ?failed,
    fun s p r results hruns hforce hauto => ?cleared, fun s p r results hruns hitem hforce hauto => ?passed⟩
  case taken =>
    refine ⟨_, exec_foregroundRequest_of_item hp hlo hhi 0, ?_⟩
    dsimp only
    rw [fgRequest_of_new item hnew hroom hon, fgStatus_cal]
    rfl
  case declined =>
    refine ⟨_, exec_foregroundRequest_of_item hp hlo hhi 1, ?_⟩
    dsimp only
    rw [fgRequest_forced_of_no_role, raise_cal, apply_ite State.cal, fgStatus_cal, ite_self]
    exact ⟨rfl, fires_raise ..⟩
  case timeout =>
    refine ⟨_, exec_foregroundWindowTimeout_of_waiting hwaits, fun x hx => path_ne_of_mem_fgEnd hx, ?_, fires_fgEnd _ p 6⟩
    rw [fgEnd_clk, reachElapsed_elapsed]
  case window =>
    refine ⟨_, exec_serviceWindowStart_of_within hset hwithin, heldByWindow_foldl_windowEnters _ p ?_⟩
    have hmem : bitOf (s.onum 0x7030 3) p && decide (p ∉ s.bm.held) := by simp [hnamed, hheld]
    exact List.mem_filter.2 ⟨List.mem_range.2 hp, hmem⟩
  case failed =>
    have htold := requestsStay_failureTold (s := runFailed s r p) (p := p) r.item
    refine ⟨_, exec_foregroundRunEnd_of_failed hruns results, fun x hx => ?_, ?_, htold.fires _ (fires_fgEnd _ p 5)⟩
    · rw [htold.fg] at hx
      exact path_ne_of_mem_fgEnd hx
    · rw [htold.clk, runFailed, fgEnd_clk]
      exact runOver_elapsed 3
  case cleared =>
    refine ⟨_, exec_foregroundRunEnd_of_forced hruns hforce results, fun x hx => path_ne_of_mem_fgEnd hx, ?_, ?_⟩
    · rw [fgEnd_bm, fgEnd_clk, passNoted_clk]
      exact passNoted_clearing_of_auto hauto
    · rw [hauto]
      exact fires_fgEnd _ p 3
  case passed =>
    refine ⟨_, exec_foregroundRunEnd_of_forced hruns hforce results, fun x hx => path_ne_of_mem_fgEnd hx, ?_, ?_⟩
    · rw [hauto]
      exact fires_fgEnd _ p 4
    · rw [fgEnd_bm, fgEnd_clk, passNoted_clk, ← runPassed_bm (s := s) (r := r) (p := p) (results := results)]
      exact passNoted_of_no_auto hitem hauto

end Sys2Proof.Machine
end

section
/-!
The injection of the heart note (R358 to R360), and with it the settlement of O35.  When the injection starts, time has passed to its tick, and
ARM written again in that very tick keeps CAL_HRX_STAT at ARMED (R7).  The clause of HEART_INJECTION asks whether ARM was written again in the
tick at which the command came instead.
-/

namespace Sys2Proof.Machine

-- One proof after another: proofs that wait side by side for the kernel's environment each take a thread's stack of the check's memory.
set_option Elab.async false

variable {s : State} {τ : Nat}

/-! ## ARM written again in the tick of an action -/

/-- No flag of a tick to come is noted: what was asked again before now is not asked again later (R7). -/
theorem askedAgain_reachCount {id : RegId} {ix : List Nat} {i : Nat} (hpast : s.fresh.at_ ≤ s.clk.elapsed)
    (hasked : s.askedAgain id ix i = false) (n : Nat) : (reachCount s n).askedAgain id ix i = false := by
  unfold reachCount
  rcases Nat.eq_zero_or_pos (n - s.clk.count) with h | h
  · rw [h, passTicks_zero]
    exact hasked
  · have hlater : ¬ s.fresh.at_ = s.clk.elapsed + (n - s.clk.count) := by omega
    have hnone : (passTicks s (n - s.clk.count)).freshMask id ix = 0 := if_neg hlater
    rw [State.askedAgain, hnone]
    exact decide_eq_false (by simp)

/-! ## The injection -/

/-- The state in which an injection that excludes a path, or none, begins at counter value `τ` (R358). -/
def injecting (s : State) (τ : Nat) (excl : Bool) : State :=
  wf (wf (takeAgain (wr (reachCount s τ) .calHrxTick [] τ) .calHrx [] 0) .calHrxStat [] 1 0
    (if (reachCount s τ).askedAgain .calHrx [] 0 then 1 else 3)) .calHrxStat [] 2 2 (b2n excl)

/-- The state 356 ticks later: for item 0x15 the paths `ps` were in state STEP for the first 200 of them (R359). -/
def injected (s : State) (τ : Nat) (excl : Bool) (ps : List Nat) : State :=
  if rbit s .calHrx [] 1 then
    passTicks (unstepPaths (injecting s τ excl) (passTicks (stepPaths (injecting s τ excl) ps (rf s .calHrx [] 6 2)) 200) ps) 156
  else passTicks (injecting s τ excl) 356

/-- HEART_INJECTION, armed, with firmware, the timeline and the RX trunk's lock, in the guard that offers a start. -/
theorem exec_heartInjection_of_start (harmed : rf s .calHrxStat [] 1 0 = 1) (hfw : s.ctl.fwRuns = true) (hruns : s.tlRuns = true)
    (hlock : (s.syn s.lo.rxServe).st = .locked) (hstart : injectionStart s = some τ) :
    ∃ excl ps, exec .heartInjection s = .next (injected s τ excl ps) := by
  rw [exec_heartInjection, execHeartInjection, if_pos ⟨harmed, hfw, hruns, hlock⟩, hstart]
  exact ⟨_, _, rfl⟩

/-- The samples and the states of the paths leave what the unit shows. -/
theorem injected_same (excl : Bool) (ps : List Nat) :
    Same (allow [.clk, .air, .fe, .cvt, .rx] []) (injecting s τ excl) (injected s τ excl ps) := by
  unfold injected
  refine same_ite (passTicks_same 156 (by decide) (unstepPaths_same ps (by decide) (passTicks_same 200 (by decide)
    (stepPaths_same ps _ (by decide) (Same.refl _ _))))) (passTicks_same 356 (by decide) (Same.refl _ _))

theorem injected_count (excl : Bool) (ps : List Nat) : (injected s τ excl ps).clk.count = max s.clk.count τ + 356 := by
  have hstart : (injecting s τ excl).clk.count = max s.clk.count τ := reachCount_count τ
  have hunstep (r u : State) : (unstepPaths r u ps).clk = u.clk :=
    (unstepPaths_same ps (Nat.and_self _) (Same.refl _ u)).but.clk (by decide)
  have hstep (u : State) (step : Nat) : (stepPaths u ps step).clk = u.clk :=
    (stepPaths_same ps step (Nat.and_self _) (Same.refl _ u)).but.clk (by decide)
  unfold injected
  split
  · show (unstepPaths _ _ ps).clk.count + 156 = _
    rw [hunstep]
    show (stepPaths _ ps _).clk.count + 200 + 156 = _
    rw [hstep, hstart]
  · show (injecting s τ excl).clk.count + 356 = _
    rw [hstart]

/-- R7, R358: the unit shows the injection done, or armed once more where ARM was written again in the tick in which it starts. -/
theorem rf_injected_calHrxStat (excl : Bool) (ps : List Nat) : rf (injected s τ excl ps) .calHrxStat [] 1 0 =
    if (reachCount s τ).askedAgain .calHrx [] 0 then 1 else 3 := by
  rw [rf, (injected_same excl ps).but.rd_eq (by decide) (by decide) (fun _ hid => absurd hid List.not_mem_nil), ← rf, injecting,
    rf_wf_apart _ _ _ _ _ _ _ _ (by decide) (by decide) (by decide) (by decide), rf_wf _ _ _ _ _ _ (by decide) (by decide)]
  split <;> rfl

theorem rd_injected_calHrxTick (excl : Bool) (ps : List Nat) : rd (injected s τ excl ps) .calHrxTick [] = τ % 2 ^ 64 := by
  rw [(injected_same excl ps).but.rd_eq (by decide) (by decide) (fun _ hid => absurd hid List.not_mem_nil), injecting,
    rd_wf_other _ _ _ _ _ _ _ _ (by decide), rd_wf_other _ _ _ _ _ _ _ _ (by decide)]
  exact rd_wr_same (reachCount s τ) .calHrxTick [] τ

/-- HEART_INJECTION where no flag of a tick to come is noted: the clause of O35 under the bound that it leaves out. -/
theorem completes_heartInjection (harmed : rf s .calHrxStat [] 1 0 = 1) (hfw : s.ctl.fwRuns = true) (hruns : s.tlRuns = true)
    (hlock : (s.syn s.lo.rxServe).st = .locked) (hstart : injectionStart s = some τ) (hasked : s.askedAgain .calHrx [] 0 = false)
    (hpast : s.fresh.at_ ≤ s.clk.elapsed) : Completes .heartInjection s fun t =>
      rf t .calHrxStat [] 1 0 = 3 ∧ rd t .calHrxTick [] = τ % 2 ^ 64 ∧ t.clk.count = max s.clk.count τ + 356 := by
  obtain ⟨excl, ps, hx⟩ := exec_heartInjection_of_start harmed hfw hruns hlock hstart
  refine ⟨_, hx, ?_, rd_injected_calHrxTick excl ps, injected_count excl ps⟩
  rw [rf_injected_calHrxStat, askedAgain_reachCount hpast hasked, if_neg Bool.false_ne_true]

/-! ## ARM noted for the tick of the start -/

/-- One guard entry of 10 ms runs from tick 0, with firmware and the RX trunk's lock, and an injection is armed, which starts at tick 128; ARM
written again stands noted for elapsed tick 128. -/
def armedAhead : State :=
  let s := wf (wbit (wr State.reset .tlPat [0] (4915200 + 2 * 2 ^ 23)) .tlCtrl [] 0 true) .calHrxStat [] 1 0 1
  { s with lo := { s.lo with syn := [(0, { Syn.reset with st := .locked })] }, ctl := { s.ctl with fwRuns := true },
           fresh := ⟨128, [(regAddr .calHrx [], 0)]⟩ }

/-- The invariant of the block does not bound the tick of the notes. -/
theorem armedAhead_inv : armedAhead.Inv where
  memory := by decide
  regs := by decide +kernel
  staged := by decide
  islands := by decide
  log := Nat.zero_le _
  spiIn := Nat.zero_le _
  spiOut := Nat.zero_le _
  stats := by decide
  counts := fun _ h => absurd h List.not_mem_nil

/-- Refutes O35: in `armedAhead` ARM is not written again at tick 0, when HEART_INJECTION comes, but at tick 128, when the injection starts, so
that CAL_HRX_STAT stays ARMED, where the clause has it done.  No run notes a flag for a tick to come, but neither the statement nor `State.Inv`
says so; with the notes of the past alone the clause holds (`completes_heartInjection`). -/
theorem not_calibrationCommandsComplete : ¬ Obligations.CalibrationCommandsComplete := by
  unfold Obligations.CalibrationCommandsComplete
  rintro ⟨-, -, -, -, -, -, -, hinjection, -⟩
  have harmed : rf armedAhead .calHrxStat [] 1 0 = 1 := by decide +kernel
  have hruns : armedAhead.tlRuns = true := by decide +kernel
  have hstart : injectionStart armedAhead = some 128 := by decide +kernel
  have hasked : (reachCount armedAhead 128).askedAgain .calHrx [] 0 = true := by decide +kernel
  obtain ⟨t, hx, hdone, -⟩ := hinjection armedAhead 128 harmed rfl hruns rfl hstart rfl
  obtain ⟨excl, ps, hx'⟩ := exec_heartInjection_of_start harmed rfl hruns rfl hstart
  rw [hx'] at hx
  cases hx
  rw [rf_injected_calHrxStat, hasked, if_pos rfl] at hdone
  exact absurd hdone (by decide)

end Sys2Proof.Machine
end

section
/-!
Every command of the table passes on what the laws of its own operation give: the invariant with the queue, time, the draws and what was sent
(`Kept`), and what its frame leaves (`Same`).  From the first: the reset, the steps and the commands; from the second: the frames.
-/

namespace Sys2Proof.Machine

set_option Elab.async false

variable {s t : State}

/-! ## The invariant -/

/-- Every command keeps the invariant and the queue; time, the draws and what was sent only grow. -/
theorem exec_kept {n m : Nat} {q : List Instr} {o : List OutMsg} (h : Kept n m q o s) : ∀ c, OutKept n m q o (exec c s)
  | .registerWrite .. => exec_registerWrite_kept (h := h) ..
  | .sramAccess .. => exec_sramAccess_kept (h := h) ..
  | .arbitrationPhase .. => exec_arbitrationPhase_kept (h := h) ..
  | .crossingPulse .. => exec_crossingPulse_kept (h := h) ..
  | .crossingWakeRequest .. => exec_crossingWakeRequest_kept (h := h) ..
  | .islandResetCommand .. => exec_islandResetCommand_kept (h := h) ..
  | .lockstepFault .. => exec_lockstepFault_kept (h := h) ..
  | .pairPromotion => exec_pairPromotion_kept h
  | .lostFlagClear .. => exec_lostFlagClear_kept (h := h) ..
  | .ptpCorrectionRequest .. => exec_ptpCorrectionRequest_kept (h := h) ..
  | .timelineStepApply => exec_timelineStepApply_kept h
  | .tlNowLoRead => exec_tlNowLoRead_kept h
  | .patternEntryBoundary => exec_patternEntryBoundary_kept h
  | .turnaroundStep .. => exec_turnaroundStep_kept (h := h) ..
  | .guardEnd => exec_guardEnd_kept h
  | .bdacStrobe .. => exec_bdacStrobe_kept (h := h) ..
  | .weightHandover .. => exec_weightHandover_kept (h := h) ..
  | .tileStart .. => exec_tileStart_kept (h := h) ..
  | .captureOpen .. => exec_captureOpen_kept (h := h) ..
  | .dmaStart .. => exec_dmaStart_kept (h := h) ..
  | .sync .. => exec_sync_kept (h := h) ..
  | .loHop .. => exec_loHop_kept (h := h) ..
  | .loTune .. => exec_loTune_kept (h := h) ..
  | .feSerial .. => exec_feSerial_kept (h := h) ..
  | .orxVisit .. => exec_orxVisit_kept (h := h) ..
  | .calWindow .. => exec_calWindow_kept (h := h) ..
  | .commit .. => exec_commit_kept (h := h) ..
  | .admissionResult => exec_admissionResult_kept h
  | .commitBoundary => exec_commitBoundary_kept h
  | .abort .. => exec_abort_kept (h := h) ..
  | .capacityLossReadmission => exec_capacityLossReadmission_kept h
  | .carrierDropRemoval => exec_carrierDropRemoval_kept h
  | .loSynEnable .. => exec_loSynEnable_kept (h := h) ..
  | .loSynDisable .. => exec_loSynDisable_kept (h := h) ..
  | .vcoCalibrationDone .. => exec_vcoCalibrationDone_kept (h := h) ..
  | .synLockAchieved .. => exec_synLockAchieved_kept (h := h) ..
  | .synSettleTimeout .. => exec_synSettleTimeout_kept (h := h) ..
  | .synLockLoss .. => exec_synLockLoss_kept (h := h) ..
  | .refclkLoss .. => exec_refclkLoss_kept (h := h) ..
  | .refclkRecovery .. => exec_refclkRecovery_kept (h := h) ..
  | .hopResyncPulse => exec_hopResyncPulse_kept h
  | .hopDividerCheck .. => exec_hopDividerCheck_kept (h := h) ..
  | .hopComplete => exec_hopComplete_kept h
  | .dividerResync => exec_dividerResync_kept h
  | .txSymbolStart .. => exec_txSymbolStart_kept (h := h) ..
  | .forcedRetune .. => exec_forcedRetune_kept (h := h) ..
  | .lnaBypass .. => exec_lnaBypass_kept (h := h) ..
  | .lnaReturn .. => exec_lnaReturn_kept (h := h) ..
  | .overloadAssert .. => exec_overloadAssert_kept (h := h) ..
  | .strapSample .. => exec_strapSample_kept (h := h) ..
  | .resetPhaseEnd => exec_resetPhaseEnd_kept h
  | .serialTransaction .. => exec_serialTransaction_kept (h := h) ..
  | .serialTransactionDone .. => exec_serialTransactionDone_kept (h := h) ..
  | .rotationStepEnd .. => exec_rotationStepEnd_kept (h := h) ..
  | .sliceSwap .. => exec_sliceSwap_kept (h := h) ..
  | .stuckSliceDetect .. => exec_stuckSliceDetect_kept (h := h) ..
  | .emergencySwap .. => exec_emergencySwap_kept (h := h) ..
  | .dacDwellStart .. => exec_dacDwellStart_kept (h := h) ..
  | .dacDwellEnd .. => exec_dacDwellEnd_kept (h := h) ..
  | .orxVisitEnd .. => exec_orxVisitEnd_kept (h := h) ..
  | .bestEffortVisit .. => exec_bestEffortVisit_kept (h := h) ..
  | .orxFailure .. => exec_orxFailure_kept (h := h) ..
  | .captureDrainComplete .. => exec_captureDrainComplete_kept (h := h) ..
  | .captureRelease .. => exec_captureRelease_kept (h := h) ..
  | .syncPinEdge .. => exec_syncPinEdge_kept (h := h) ..
  | .syncNow .. => exec_syncNow_kept (h := h) ..
  | .syncRequestObject .. => exec_syncRequestObject_kept (h := h) ..
  | .syncTakeEffect => exec_syncTakeEffect_kept h
  | .syncFillEnd .. => exec_syncFillEnd_kept (h := h) ..
  | .fastPathEstimate .. => exec_fastPathEstimate_kept (h := h) ..
  | .agcRelease .. => exec_agcRelease_kept (h := h) ..
  | .limiterLnaReturn .. => exec_limiterLnaReturn_kept (h := h) ..
  | .rxFftWindowEnd .. => exec_rxFftWindowEnd_kept (h := h) ..
  | .prachOccasion .. => exec_prachOccasion_kept (h := h) ..
  | .laneMoveRequest .. => exec_laneMoveRequest_kept (h := h) ..
  | .laneWarmStart .. => exec_laneWarmStart_kept (h := h) ..
  | .laneSwitch .. => exec_laneSwitch_kept (h := h) ..
  | .coefficientRoll => exec_coefficientRoll_kept h
  | .coefficientWrite .. => exec_coefficientWrite_kept (h := h) ..
  | .txSymbolRead .. => exec_txSymbolRead_kept (h := h) ..
  | .slotBoundary .. => exec_slotBoundary_kept (h := h) ..
  | .dlRunStart .. => exec_dlRunStart_kept (h := h) ..
  | .ulRunStart .. => exec_ulRunStart_kept (h := h) ..
  | .weightBlock .. => exec_weightBlock_kept (h := h) ..
  | .weightVectorLand .. => exec_weightVectorLand_kept (h := h) ..
  | .ergDeclared .. => exec_ergDeclared_kept (h := h) ..
  | .ergPathOff .. => exec_ergPathOff_kept (h := h) ..
  | .ergResynthStart => exec_ergResynthStart_kept h
  | .ergResynthDone => exec_ergResynthDone_kept h
  | .healDeclare .. => exec_healDeclare_kept (h := h) ..
  | .healClear .. => exec_healClear_kept (h := h) ..
  | .ergPathRestored .. => exec_ergPathRestored_kept (h := h) ..
  | .tileFail .. => exec_tileFail_kept (h := h) ..
  | .tileSpareTakeover => exec_tileSpareTakeover_kept h
  | .prachCombine .. => exec_prachCombine_kept (h := h) ..
  | .dpdThermalUpdate .. => exec_dpdThermalUpdate_kept (h := h) ..
  | .dpdBankWrite .. => exec_dpdBankWrite_kept (h := h) ..
  | .dpdHoRequest .. => exec_dpdHoRequest_kept (h := h) ..
  | .dpdHoCheckDone .. => exec_dpdHoCheckDone_kept (h := h) ..
  | .dpdRampStep .. => exec_dpdRampStep_kept (h := h) ..
  | .dpdDivergenceWindow .. => exec_dpdDivergenceWindow_kept (h := h) ..
  | .dpdProbationEnd .. => exec_dpdProbationEnd_kept (h := h) ..
  | .dpdFallback .. => exec_dpdFallback_kept (h := h) ..
  | .dpdIdentity .. => exec_dpdIdentity_kept (h := h) ..
  | .dpdFallbackCheckEnd .. => exec_dpdFallbackCheckEnd_kept (h := h) ..
  | .dpdReq .. => exec_dpdReq_kept (h := h) ..
  | .dpdJobStart => exec_dpdJobStart_kept h
  | .nop .. => exec_nop_kept (h := h) ..
  | .add .. => exec_add_kept (h := h) ..
  | .sub .. => exec_sub_kept (h := h) ..
  | .addh .. => exec_addh_kept (h := h) ..
  | .subh .. => exec_subh_kept (h := h) ..
  | .neg .. => exec_neg_kept (h := h) ..
  | .conj .. => exec_conj_kept (h := h) ..
  | .swap .. => exec_swap_kept (h := h) ..
  | .shl .. => exec_shl_kept (h := h) ..
  | .shr .. => exec_shr_kept (h := h) ..
  | .mov .. => exec_mov_kept (h := h) ..
  | .cmul .. => exec_cmul_kept (h := h) ..
  | .mag2 .. => exec_mag2_kept (h := h) ..
  | .iadd .. => exec_iadd_kept (h := h) ..
  | .isub .. => exec_isub_kept (h := h) ..
  | .andOp .. => exec_andOp_kept (h := h) ..
  | .orOp .. => exec_orOp_kept (h := h) ..
  | .xorOp .. => exec_xorOp_kept (h := h) ..
  | .ishl .. => exec_ishl_kept (h := h) ..
  | .ishr .. => exec_ishr_kept (h := h) ..
  | .icmp .. => exec_icmp_kept (h := h) ..
  | .clra .. => exec_clra_kept (h := h) ..
  | .cmac4 .. => exec_cmac4_kept (h := h) ..
  | .cmacb .. => exec_cmacb_kept (h := h) ..
  | .cdot .. => exec_cdot_kept (h := h) ..
  | .acca .. => exec_acca_kept (h := h) ..
  | .ashr .. => exec_ashr_kept (h := h) ..
  | .mova .. => exec_mova_kept (h := h) ..
  | .extr .. => exec_extr_kept (h := h) ..
  | .sat .. => exec_sat_kept (h := h) ..
  | .norm .. => exec_norm_kept (h := h) ..
  | .expa .. => exec_expa_kept (h := h) ..
  | .exp .. => exec_exp_kept (h := h) ..
  | .bexp .. => exec_bexp_kept (h := h) ..
  | .bxadd .. => exec_bxadd_kept (h := h) ..
  | .setbs .. => exec_setbs_kept (h := h) ..
  | .bfly .. => exec_bfly_kept (h := h) ..
  | .mfr .. => exec_mfr_kept (h := h) ..
  | .mtr .. => exec_mtr_kept (h := h) ..
  | .ldW .. => exec_ldW_kept (h := h) ..
  | .stW .. => exec_stW_kept (h := h) ..
  | .ldD .. => exec_ldD_kept (h := h) ..
  | .stD .. => exec_stD_kept (h := h) ..
  | .ldH .. => exec_ldH_kept (h := h) ..
  | .addi .. => exec_addi_kept (h := h) ..
  | .addm .. => exec_addm_kept (h := h) ..
  | .movp .. => exec_movp_kept (h := h) ..
  | .movm .. => exec_movm_kept (h := h) ..
  | .movb .. => exec_movb_kept (h := h) ..
  | .movl .. => exec_movl_kept (h := h) ..
  | .setm .. => exec_setm_kept (h := h) ..
  | .nopc .. => exec_nopc_kept (h := h) ..
  | .jmp .. => exec_jmp_kept (h := h) ..
  | .jz .. => exec_jz_kept (h := h) ..
  | .jnz .. => exec_jnz_kept (h := h) ..
  | .jn .. => exec_jn_kept (h := h) ..
  | .jnn .. => exec_jnn_kept (h := h) ..
  | .call .. => exec_call_kept (h := h) ..
  | .ret .. => exec_ret_kept (h := h) ..
  | .loop0 .. => exec_loop0_kept (h := h) ..
  | .loop1 .. => exec_loop1_kept (h := h) ..
  | .loopr0 .. => exec_loopr0_kept (h := h) ..
  | .loopr1 .. => exec_loopr1_kept (h := h) ..
  | .ei .. => exec_ei_kept (h := h) ..
  | .di .. => exec_di_kept (h := h) ..
  | .reti .. => exec_reti_kept (h := h) ..
  | .xfer .. => exec_xfer_kept (h := h) ..
  | .xwait .. => exec_xwait_kept (h := h) ..
  | .done .. => exec_done_kept (h := h) ..
  | .yield .. => exec_yield_kept (h := h) ..
  | .ldi .. => exec_ldi_kept (h := h) ..
  | .transferComplete .. => exec_transferComplete_kept (h := h) ..
  | .interruptAccept .. => exec_interruptAccept_kept (h := h) ..
  | .geDoorbell .. => exec_geDoorbell_kept (h := h) ..
  | .gePost .. => exec_gePost_kept (h := h) ..
  | .releaseEntryFire .. => exec_releaseEntryFire_kept (h := h) ..
  | .jobStart .. => exec_jobStart_kept (h := h) ..
  | .preemptLate .. => exec_preemptLate_kept (h := h) ..
  | .jobOverrun .. => exec_jobOverrun_kept (h := h) ..
  | .geCplRead .. => exec_geCplRead_kept (h := h) ..
  | .engineRollMove .. => exec_engineRollMove_kept (h := h) ..
  | .baseReevaluation => exec_baseReevaluation_kept h
  | .traceGate .. => exec_traceGate_kept (h := h) ..
  | .topNoteWindow .. => exec_topNoteWindow_kept (h := h) ..
  | .calHrxArm .. => exec_calHrxArm_kept (h := h) ..
  | .heartInjection => exec_heartInjection_kept h
  | .heartSnapshot => exec_heartSnapshot_kept h
  | .heartRunComplete .. => exec_heartRunComplete_kept (h := h) ..
  | .calRampStep => exec_calRampStep_kept h
  | .calItemStale .. => exec_calItemStale_kept (h := h) ..
  | .foregroundRequest .. => exec_foregroundRequest_kept (h := h) ..
  | .foregroundWindowTimeout .. => exec_foregroundWindowTimeout_kept (h := h) ..
  | .serviceWindowStart => exec_serviceWindowStart_kept h
  | .foregroundRunEnd .. => exec_foregroundRunEnd_kept (h := h) ..
  | .iqDataMessage .. => exec_iqDataMessage_kept (h := h) ..
  | .dlWindowClose .. => exec_dlWindowClose_kept (h := h) ..
  | .ulSectionSend .. => exec_ulSectionSend_kept (h := h) ..
  | .realTimeControlMessage .. => exec_realTimeControlMessage_kept (h := h) ..
  | .genericDataMessage .. => exec_genericDataMessage_kept (h := h) ..
  | .captureStream .. => exec_captureStream_kept (h := h) ..
  | .delayRequest .. => exec_delayRequest_kept (h := h) ..
  | .requestWithFollowUp .. => exec_requestWithFollowUp_kept (h := h) ..
  | .followUp .. => exec_followUp_kept (h := h) ..
  | .remoteRequest .. => exec_remoteRequest_kept (h := h) ..
  | .eventIndicationSend .. => exec_eventIndicationSend_kept (h := h) ..
  | .indicationAck .. => exec_indicationAck_kept (h := h) ..
  | .indicationResend .. => exec_indicationResend_kept (h := h) ..
  | .synchronisationRequest .. => exec_synchronisationRequest_kept (h := h) ..
  | .portStateChange .. => exec_portStateChange_kept (h := h) ..
  | .sakInstall .. => exec_sakInstall_kept (h := h) ..
  | .ptpSyncInterval .. => exec_ptpSyncInterval_kept (h := h) ..
  | .ptpMasterChange .. => exec_ptpMasterChange_kept (h := h) ..
  | .ptpHoldoverEntry => exec_ptpHoldoverEntry_kept h
  | .synceSquelch .. => exec_synceSquelch_kept (h := h) ..
  | .synceResume => exec_synceResume_kept h
  | .esmcSend .. => exec_esmcSend_kept (h := h) ..
  | .esmcReceive .. => exec_esmcReceive_kept (h := h) ..
  | .ppsOutEdge => exec_ppsOutEdge_kept h
  | .ppsInEdge .. => exec_ppsInEdge_kept (h := h) ..
  | .lnkPpsInLoss => exec_lnkPpsInLoss_kept h
  | .linkLaneFailure .. => exec_linkLaneFailure_kept (h := h) ..
  | .linkLaneTxMove .. => exec_linkLaneTxMove_kept (h := h) ..
  | .linkLaneRxMove .. => exec_linkLaneRxMove_kept (h := h) ..
  | .lnkLaneSpared .. => exec_lnkLaneSpared_kept (h := h) ..
  | .linkRealignTimeout .. => exec_linkRealignTimeout_kept (h := h) ..
  | .laneReturnToSpare .. => exec_laneReturnToSpare_kept (h := h) ..
  | .scrubPass .. => exec_scrubPass_kept (h := h) ..
  | .memRowRepaired .. => exec_memRowRepaired_kept (h := h) ..
  | .bankMigrationStart .. => exec_bankMigrationStart_kept (h := h) ..
  | .memBankSpared .. => exec_memBankSpared_kept (h := h) ..
  | .serviceBankSpare .. => exec_serviceBankSpare_kept (h := h) ..
  | .memLock .. => exec_memLock_kept (h := h) ..
  | .memLockRelease .. => exec_memLockRelease_kept (h := h) ..
  | .memHoldFault .. => exec_memHoldFault_kept (h := h) ..
  | .dmaRingKick .. => exec_dmaRingKick_kept (h := h) ..
  | .dmaDescriptor .. => exec_dmaDescriptor_kept (h := h) ..
  | .dmaHalfCompletion .. => exec_dmaHalfCompletion_kept (h := h) ..
  | .dmaRingDisable .. => exec_dmaRingDisable_kept (h := h) ..
  | .mainMoverParity => exec_mainMoverParity_kept h
  | .dmaMainRestored .. => exec_dmaMainRestored_kept (h := h) ..
  | .read .. => exec_read_kept (h := h) ..
  | .write .. => exec_write_kept (h := h) ..
  | .readBlock .. => exec_readBlock_kept (h := h) ..
  | .writeBlock .. => exec_writeBlock_kept (h := h) ..
  | .store .. => exec_store_kept (h := h) ..
  | .restore .. => exec_restore_kept (h := h) ..
  | .subscribe .. => exec_subscribe_kept (h := h) ..
  | .digest .. => exec_digest_kept (h := h) ..
  | .sessionTimeout .. => exec_sessionTimeout_kept (h := h) ..
  | .blockTransferTimeout .. => exec_blockTransferTimeout_kept (h := h) ..
  | .subscriptionNotify .. => exec_subscriptionNotify_kept (h := h) ..
  | .rwDigestRecompute => exec_rwDigestRecompute_kept h
  | .replicaRewrite .. => exec_replicaRewrite_kept (h := h) ..
  | .eventFiringPresent .. => exec_eventFiringPresent_kept (h := h) ..
  | .eventCease .. => exec_eventCease_kept (h := h) ..
  | .stickyFlagClear .. => exec_stickyFlagClear_kept (h := h) ..
  | .counterFold => exec_counterFold_kept h
  | .statisticsCounterClear .. => exec_statisticsCounterClear_kept (h := h) ..
  | .writeFrame .. => exec_writeFrame_kept (h := h) ..
  | .readFrame => exec_readFrame_kept h
  | .spiStatus => exec_spiStatus_kept h
  | .powerRequest .. => exec_powerRequest_kept (h := h) ..
  | .powerEntryStep => exec_powerEntryStep_kept h
  | .powerExit => exec_powerExit_kept h
  | .warmStart => exec_warmStart_kept h
  | .wakeToTransition => exec_wakeToTransition_kept h
  | .slotgateChange => exec_slotgateChange_kept h
  | .sectionGateOff .. => exec_sectionGateOff_kept (h := h) ..
  | .sectionGateOn .. => exec_sectionGateOn_kept (h := h) ..
  | .wakePin .. => exec_wakePin_kept (h := h) ..
  | .rtcAlarm => exec_rtcAlarm_kept h
  | .linkSignalDetect .. => exec_linkSignalDetect_kept (h := h) ..
  | .t1sFrameWake .. => exec_t1sFrameWake_kept (h := h) ..
  | .debugWakeWord .. => exec_debugWakeWord_kept (h := h) ..
  | .thermalAlarm .. => exec_thermalAlarm_kept (h := h) ..
  | .wrxSniff .. => exec_wrxSniff_kept (h := h) ..
  | .wrxSyncTimeout => exec_wrxSyncTimeout_kept h
  | .wakeFrame .. => exec_wakeFrame_kept (h := h) ..
  | .wrxTrim => exec_wrxTrim_kept h
  | .housekeepingRound .. => exec_housekeepingRound_kept (h := h) ..
  | .thermalCarrierDrop => exec_thermalCarrierDrop_kept h
  | .ldacEdge => exec_ldacEdge_kept h
  | .bdacStrobeWrite .. => exec_bdacStrobeWrite_kept (h := h) ..
  | .bdacCodeWrite .. => exec_bdacCodeWrite_kept (h := h) ..
  | .bdacShort .. => exec_bdacShort_kept (h := h) ..
  | .bdacShortTimeout .. => exec_bdacShortTimeout_kept (h := h) ..
  | .bdacSupplyLow .. => exec_bdacSupplyLow_kept (h := h) ..
  | .bdacSuppliesGood => exec_bdacSuppliesGood_kept h
  | .drainRequest .. => exec_drainRequest_kept (h := h) ..
  | .amplifierFault .. => exec_amplifierFault_kept (h := h) ..
  | .faultSafeCode .. => exec_faultSafeCode_kept (h := h) ..
  | .drainReadbackMismatch .. => exec_drainReadbackMismatch_kept (h := h) ..
  | .drainFaultClear .. => exec_drainFaultClear_kept (h := h) ..
  | .monTrigger .. => exec_monTrigger_kept (h := h) ..
  | .monEntryResult .. => exec_monEntryResult_kept (h := h) ..
  | .monDataRead .. => exec_monDataRead_kept (h := h) ..
  | .fanWatchdogExpiry .. => exec_fanWatchdogExpiry_kept (h := h) ..
  | .thmFanStall .. => exec_thmFanStall_kept (h := h) ..
  | .transitionToken .. => exec_transitionToken_kept (h := h) ..
  | .keyEnvelope .. => exec_keyEnvelope_kept (h := h) ..
  | .rootRecord .. => exec_rootRecord_kept (h := h) ..
  | .attestation .. => exec_attestation_kept (h := h) ..
  | .raiseMinimums .. => exec_raiseMinimums_kept (h := h) ..
  | .verifyImage .. => exec_verifyImage_kept (h := h) ..
  | .checkDiongTag .. => exec_checkDiongTag_kept (h := h) ..
  | .makeDiongTag .. => exec_makeDiongTag_kept (h := h) ..
  | .mboxKeyEnvelope .. => exec_mboxKeyEnvelope_kept (h := h) ..
  | .mboxAttestation .. => exec_mboxAttestation_kept (h := h) ..
  | .lifecycleToken .. => exec_lifecycleToken_kept (h := h) ..
  | .mboxRootRecord .. => exec_mboxRootRecord_kept (h := h) ..
  | .randomBytes .. => exec_randomBytes_kept (h := h) ..
  | .extest .. => exec_extest_kept (h := h) ..
  | .samplePreload .. => exec_samplePreload_kept (h := h) ..
  | .idcode => exec_idcode_kept h
  | .clamp => exec_clamp_kept h
  | .highz => exec_highz_kept h
  | .dbgChal => exec_dbgChal_kept h
  | .dbgResp .. => exec_dbgResp_kept (h := h) ..
  | .dbgPort .. => exec_dbgPort_kept (h := h) ..
  | .dbgStatus => exec_dbgStatus_kept h
  | .bypass .. => exec_bypass_kept (h := h) ..
  | .challengeRead .. => exec_challengeRead_kept (h := h) ..
  | .debugResponse .. => exec_debugResponse_kept (h := h) ..
  | .debugTunnel .. => exec_debugTunnel_kept (h := h) ..
  | .dbgClose .. => exec_dbgClose_kept (h := h) ..
  | .debugSessionExpiry => exec_debugSessionExpiry_kept h
  | .coreHalt .. => exec_coreHalt_kept (h := h) ..
  | .coreStep .. => exec_coreStep_kept (h := h) ..
  | .engineHalt .. => exec_engineHalt_kept (h := h) ..
  | .laneFault .. => exec_laneFault_kept (h := h) ..
  | .engineRetire .. => exec_engineRetire_kept (h := h) ..
  | .engineSpareTakeover .. => exec_engineSpareTakeover_kept (h := h) ..
  | .standbyImageWrite .. => exec_standbyImageWrite_kept (h := h) ..
  | .fwStandbyReady .. => exec_fwStandbyReady_kept (h := h) ..
  | .handoverRequest .. => exec_handoverRequest_kept (h := h) ..
  | .handoverSaving => exec_handoverSaving_kept h
  | .fwSaved .. => exec_fwSaved_kept (h := h) ..
  | .handoverActivate => exec_handoverActivate_kept h
  | .fwAlive .. => exec_fwAlive_kept (h := h) ..
  | .fwHandoverDone => exec_fwHandoverDone_kept h
  | .fwReverted => exec_fwReverted_kept h
  | .poweredHour => exec_poweredHour_kept h
  | .nvWordWrite .. => exec_nvWordWrite_kept (h := h) ..
  | .coldStart .. => exec_coldStart_kept (h := h) ..
  | .resetAssert .. => exec_resetAssert_kept (h := h) ..
  | .osc32Qualified => exec_osc32Qualified_kept h
  | .bootStep .. => exec_bootStep_kept (h := h) ..
  | .refclkQualified => exec_refclkQualified_kept h
  | .loaderImage .. => exec_loaderImage_kept (h := h) ..
  | .pwrBootGo .. => exec_pwrBootGo_kept (h := h) ..
  | .vtargetUpdate .. => exec_vtargetUpdate_kept (h := h) ..
  | .dpdMinRateVisit .. => exec_dpdMinRateVisit_kept (h := h) ..
  | .dpdStaleAgeExpiry .. => exec_dpdStaleAgeExpiry_kept (h := h) ..
  | .bdacOutputStep .. => exec_bdacOutputStep_kept (h := h) ..
  | .tachEdge .. => exec_tachEdge_kept (h := h) ..
  | .overloadDeassert .. => exec_overloadDeassert_kept (h := h) ..
  | .oldCakTimeout .. => exec_oldCakTimeout_kept (h := h) ..
  | .arpRequest .. => exec_arpRequest_kept (h := h) ..
  | .icmpEchoRequest .. => exec_icmpEchoRequest_kept (h := h) ..
  | .tapReset => exec_tapReset_kept h
  | .debugChallengeExpiry => exec_debugChallengeExpiry_kept h
  | .debugLockoutEnd => exec_debugLockoutEnd_kept h
  | .baseNoteSave .. => exec_baseNoteSave_kept (h := h) ..

/-- A step keeps the invariant, with a command in front and on an empty queue. -/
theorem inv_of_step (hinv : s.Inv) (hstep : step s = .next t) : t.Inv := by
  cases hq : s.pending with
  | nil =>
    rw [← Host.Outcome.next.inj ((step_nil hq).symm.trans hstep)]
    exact (idleStep_kept (fun c _ h => exec_kept h c) (.refl hinv)).inv
  | cons c rest =>
    obtain ⟨u, hu, hkept⟩ := exec_kept (.refl (Inv_pending rest hinv)) c
    rw [← Host.Outcome.next.inj (hu.symm.trans ((step_of_cons hq).symm.trans hstep))]
    exact hkept.inv

/-- Settles O1: a step takes the front command off the queue and performs it. -/
theorem stepRunsFrontCommand : Obligations.StepRunsFrontCommand := by
  unfold Obligations.StepRunsFrontCommand
  exact step_cons

/-- Settles O3: at reset the stores are empty, and so are the queues, the log and the counters. -/
theorem resetKeepsInvariant : Obligations.ResetKeepsInvariant where
  memory := by decide
  regs := by decide
  staged := by decide
  islands := by decide
  log := Nat.zero_le _
  spiIn := Nat.zero_le _
  spiOut := Nat.zero_le _
  stats := by decide
  counts := fun _ h => absurd h List.not_mem_nil

/-- Settles O4: the commands keep the invariant, and so does an idle tick, whose engines issue commands. -/
theorem stepKeepsInvariant : Obligations.StepKeepsInvariant := by
  unfold Obligations.StepKeepsInvariant
  exact fun _ _ => inv_of_step

/-- Settles O5: what `Kept` says of the state before a command, as it stands. -/
theorem commandsProceed : Obligations.CommandsProceed := by
  unfold Obligations.CommandsProceed
  intro c s hinv
  obtain ⟨t, ht, hkept⟩ := exec_kept (.refl hinv) c
  exact ⟨t, ht, hkept.pending, hkept.elapsed, hkept.drawn, hkept.out, hkept.inv⟩

/-! ## Frames -/

/-- An outcome that changes no more than some parts and registers. -/
theorem OutSame.frame {ps : List Part} {ids : List RegId} {r : Out} (h : ∀ m, Sub (allow ps ids) m → OutSame m s r) (e : r = .next t) :
    SameBut ps ids s t := ((h _ (Nat.and_self _)).next e).but

/-- An outcome that may change any register, beside some parts. -/
theorem OutSame.frameAny {ps : List Part} {r : Out} (h : ∀ m, Sub (allowAny ps) m → OutSame m s r) (e : r = .next t) :
    SameBut (.regs :: ps) [] s t := ((h _ (Nat.and_self _)).next e).butAny

/-- Every command leaves what its frame does not name. -/
theorem exec_frame : ∀ c, exec c s = .next t → SameBut (frameOf c).1 (frameOf c).2 s t
  | .registerWrite .., h => OutSame.frameAny (fun _ hp => execRegisterWrite_same (hp := hp) (h := .refl _ s) ..) h
  | .sramAccess .., h => OutSame.frame (fun _ hp => execSramAccess_same (hp := hp) (h := .refl _ s) ..) h
  | .arbitrationPhase .., h => OutSame.frame (fun _ hp => execArbitrationPhase_same (hp := hp) (h := .refl _ s) ..) h
  | .crossingPulse .., h => OutSame.frame (fun _ hp => execCrossingPulse_same (hp := hp) (h := .refl _ s) ..) h
  | .crossingWakeRequest .., h => OutSame.frame (fun _ hp => execCrossingWakeRequest_same (hp := hp) (h := .refl _ s) ..) h
  | .islandResetCommand .., h => OutSame.frameAny (fun _ hp => execIslandResetCommand_same (hp := hp) (h := .refl _ s) ..) h
  | .lockstepFault .., h => OutSame.frame (fun _ hp => execLockstepFault_same (hp := hp) (h := .refl _ s) ..) h
  | .pairPromotion, h => OutSame.frame (fun _ hp => execPairPromotion_same (hp := hp) (h := .refl _ s) ..) h
  | .lostFlagClear .., h => OutSame.frame (fun _ hp => execLostFlagClear_same (hp := hp) (h := .refl _ s) ..) h
  | .ptpCorrectionRequest .., h => OutSame.frame (fun _ hp => execPtpCorrectionRequest_same (hp := hp) (h := .refl _ s) ..) h
  | .timelineStepApply, h => OutSame.frame (fun _ hp => execTimelineStepApply_same (hp := hp) (h := .refl _ s) ..) h
  | .tlNowLoRead, h => OutSame.frame (fun _ hp => execTlNowLoRead_same (hp := hp) (h := .refl _ s) ..) h
  | .patternEntryBoundary, h => OutSame.frame (fun _ hp => execPatternEntryBoundary_same (hp := hp) (h := .refl _ s) ..) h
  | .turnaroundStep .., h => OutSame.frame (fun _ hp => execTurnaroundStep_same (hp := hp) (h := .refl _ s) ..) h
  | .guardEnd, h => OutSame.frame (fun _ hp => execGuardEnd_same (hp := hp) (h := .refl _ s) ..) h
  | .bdacStrobe .., h => OutSame.frame (fun _ hp => execBdacStrobe_same (hp := hp) (h := .refl _ s) ..) h
  | .weightHandover .., h => OutSame.frame (fun _ hp => execWeightHandover_same (hp := hp) (h := .refl _ s) ..) h
  | .tileStart .., h => OutSame.frame (fun _ hp => execTileStart_same (hp := hp) (h := .refl _ s) ..) h
  | .captureOpen .., h => OutSame.frame (fun _ hp => execCaptureOpen_same (hp := hp) (h := .refl _ s) ..) h
  | .dmaStart .., h => OutSame.frame (fun _ hp => execDmaStart_same (hp := hp) (h := .refl _ s) ..) h
  | .sync .., h => OutSame.frame (fun _ hp => execSync_same (hp := hp) (h := .refl _ s) ..) h
  | .loHop .., h => OutSame.frame (fun _ hp => execLoHop_same (hp := hp) (h := .refl _ s) ..) h
  | .loTune .., h => OutSame.frame (fun _ hp => execLoTune_same (hp := hp) (h := .refl _ s) ..) h
  | .feSerial .., h => OutSame.frame (fun _ hp => execFeSerial_same (hp := hp) (h := .refl _ s) ..) h
  | .orxVisit .., h => OutSame.frame (fun _ hp => execOrxVisit_same (hp := hp) (h := .refl _ s) ..) h
  | .calWindow .., h => OutSame.frame (fun _ hp => execCalWindow_same (hp := hp) (h := .refl _ s) ..) h
  | .commit .., h => OutSame.frameAny (fun _ hp => execCommit_same (hp := hp) (h := .refl _ s) ..) h
  | .admissionResult, h => OutSame.frameAny (fun _ hp => execAdmissionResult_same (hp := hp) (h := .refl _ s) ..) h
  | .commitBoundary, h => OutSame.frameAny (fun _ hp => execCommitBoundary_same (hp := hp) (h := .refl _ s) ..) h
  | .abort .., h => OutSame.frame (fun _ hp => execAbort_same (hp := hp) (h := .refl _ s) ..) h
  | .capacityLossReadmission, h => OutSame.frame (fun _ hp => execCapacityLossReadmission_same (hp := hp) (h := .refl _ s) ..) h
  | .carrierDropRemoval, h => OutSame.frameAny (fun _ hp => execCarrierDropRemoval_same (hp := hp) (h := .refl _ s) ..) h
  | .loSynEnable .., h => OutSame.frame (fun _ hp => execLoSynEnable_same (hp := hp) (h := .refl _ s) ..) h
  | .loSynDisable .., h => OutSame.frame (fun _ hp => execLoSynDisable_same (hp := hp) (h := .refl _ s) ..) h
  | .vcoCalibrationDone .., h => OutSame.frame (fun _ hp => execVcoCalibrationDone_same (hp := hp) (h := .refl _ s) ..) h
  | .synLockAchieved .., h => OutSame.frame (fun _ hp => execSynLockAchieved_same (hp := hp) (h := .refl _ s) ..) h
  | .synSettleTimeout .., h => OutSame.frame (fun _ hp => execSynSettleTimeout_same (hp := hp) (h := .refl _ s) ..) h
  | .synLockLoss .., h => OutSame.frame (fun _ hp => execSynLockLoss_same (hp := hp) (h := .refl _ s) ..) h
  | .refclkLoss .., h => OutSame.frame (fun _ hp => execRefclkLoss_same (hp := hp) (h := .refl _ s) ..) h
  | .refclkRecovery .., h => OutSame.frame (fun _ hp => execRefclkRecovery_same (hp := hp) (h := .refl _ s) ..) h
  | .hopResyncPulse, h => OutSame.frame (fun _ hp => execHopResyncPulse_same (hp := hp) (h := .refl _ s) ..) h
  | .hopDividerCheck .., h => OutSame.frame (fun _ hp => execHopDividerCheck_same (hp := hp) (h := .refl _ s) ..) h
  | .hopComplete, h => OutSame.frame (fun _ hp => execHopComplete_same (hp := hp) (h := .refl _ s) ..) h
  | .dividerResync, h => OutSame.frame (fun _ hp => execDividerResync_same (hp := hp) (h := .refl _ s) ..) h
  | .txSymbolStart .., h => OutSame.frame (fun _ hp => execTxSymbolStart_same (hp := hp) (h := .refl _ s) ..) h
  | .forcedRetune .., h => OutSame.frame (fun _ hp => execForcedRetune_same (hp := hp) (h := .refl _ s) ..) h
  | .lnaBypass .., h => OutSame.frame (fun _ hp => execLnaBypass_same (hp := hp) (h := .refl _ s) ..) h
  | .lnaReturn .., h => OutSame.frame (fun _ hp => execLnaReturn_same (hp := hp) (h := .refl _ s) ..) h
  | .overloadAssert .., h => OutSame.frame (fun _ hp => execOverloadAssert_same (hp := hp) (h := .refl _ s) ..) h
  | .strapSample .., h => OutSame.frame (fun _ hp => execStrapSample_same (hp := hp) (h := .refl _ s) ..) h
  | .resetPhaseEnd, h => OutSame.frame (fun _ hp => execResetPhaseEnd_same (hp := hp) (h := .refl _ s) ..) h
  | .serialTransaction .., h => OutSame.frame (fun _ hp => execSerialTransaction_same (hp := hp) (h := .refl _ s) ..) h
  | .serialTransactionDone .., h => OutSame.frame (fun _ hp => execSerialTransactionDone_same (hp := hp) (h := .refl _ s) ..) h
  | .rotationStepEnd .., h => OutSame.frame (fun _ hp => execRotationStepEnd_same (hp := hp) (h := .refl _ s) ..) h
  | .sliceSwap .., h => OutSame.frame (fun _ hp => execSliceSwap_same (hp := hp) (h := .refl _ s) ..) h
  | .stuckSliceDetect .., h => OutSame.frame (fun _ hp => execStuckSliceDetect_same (hp := hp) (h := .refl _ s) ..) h
  | .emergencySwap .., h => OutSame.frame (fun _ hp => execEmergencySwap_same (hp := hp) (h := .refl _ s) ..) h
  | .dacDwellStart .., h => OutSame.frame (fun _ hp => execDacDwellStart_same (hp := hp) (h := .refl _ s) ..) h
  | .dacDwellEnd .., h => OutSame.frame (fun _ hp => execDacDwellEnd_same (hp := hp) (h := .refl _ s) ..) h
  | .orxVisitEnd .., h => OutSame.frame (fun _ hp => execOrxVisitEnd_same (hp := hp) (h := .refl _ s) ..) h
  | .bestEffortVisit .., h => OutSame.frame (fun _ hp => execBestEffortVisit_same (hp := hp) (h := .refl _ s) ..) h
  | .orxFailure .., h => OutSame.frame (fun _ hp => execOrxFailure_same (hp := hp) (h := .refl _ s) ..) h
  | .captureDrainComplete .., h => OutSame.frame (fun _ hp => execCaptureDrainComplete_same (hp := hp) (h := .refl _ s) ..) h
  | .captureRelease .., h => OutSame.frame (fun _ hp => execCaptureRelease_same (hp := hp) (h := .refl _ s) ..) h
  | .syncPinEdge .., h => OutSame.frame (fun _ hp => execSyncPinEdge_same (hp := hp) (h := .refl _ s) ..) h
  | .syncNow .., h => OutSame.frame (fun _ hp => execSyncNow_same (hp := hp) (h := .refl _ s) ..) h
  | .syncRequestObject .., h => OutSame.frame (fun _ hp => execSyncRequestObject_same (hp := hp) (h := .refl _ s) ..) h
  | .syncTakeEffect, h => OutSame.frame (fun _ hp => execSyncTakeEffect_same (hp := hp) (h := .refl _ s) ..) h
  | .syncFillEnd .., h => OutSame.frame (fun _ hp => execSyncFillEnd_same (hp := hp) (h := .refl _ s) ..) h
  | .fastPathEstimate .., h => OutSame.frame (fun _ hp => execFastPathEstimate_same (hp := hp) (h := .refl _ s) ..) h
  | .agcRelease .., h => OutSame.frame (fun _ hp => execAgcRelease_same (hp := hp) (h := .refl _ s) ..) h
  | .limiterLnaReturn .., h => OutSame.frame (fun _ hp => execLimiterLnaReturn_same (hp := hp) (h := .refl _ s) ..) h
  | .rxFftWindowEnd .., h => OutSame.frame (fun _ hp => execRxFftWindowEnd_same (hp := hp) (h := .refl _ s) ..) h
  | .prachOccasion .., h => OutSame.frame (fun _ hp => execPrachOccasion_same (hp := hp) (h := .refl _ s) ..) h
  | .laneMoveRequest .., h => OutSame.frame (fun _ hp => execLaneMoveRequest_same (hp := hp) (h := .refl _ s) ..) h
  | .laneWarmStart .., h => OutSame.frame (fun _ hp => execLaneWarmStart_same (hp := hp) (h := .refl _ s) ..) h
  | .laneSwitch .., h => OutSame.frameAny (fun _ hp => execLaneSwitch_same (hp := hp) (h := .refl _ s) ..) h
  | .coefficientRoll, h => OutSame.frame (fun _ hp => execCoefficientRoll_same (hp := hp) (h := .refl _ s) ..) h
  | .coefficientWrite .., h => OutSame.frame (fun _ hp => execCoefficientWrite_same (hp := hp) (h := .refl _ s) ..) h
  | .txSymbolRead .., h => OutSame.frameAny (fun _ hp => execTxSymbolRead_same (hp := hp) (h := .refl _ s) ..) h
  | .slotBoundary .., h => OutSame.frame (fun _ hp => execSlotBoundary_same (x1 := ()) (x2 := ()) (x3 := ()) (x4 := ()) (x5 := ()) (hp := hp) (h := .refl _ s) ..) h
  | .dlRunStart .., h => OutSame.frame (fun _ hp => execDlRunStart_same (hp := hp) (h := .refl _ s) ..) h
  | .ulRunStart .., h => OutSame.frame (fun _ hp => execUlRunStart_same (hp := hp) (h := .refl _ s) ..) h
  | .weightBlock .., h => OutSame.frame (fun _ hp => execWeightBlock_same (hp := hp) (h := .refl _ s) ..) h
  | .weightVectorLand .., h => OutSame.frame (fun _ hp => execWeightVectorLand_same (hp := hp) (h := .refl _ s) ..) h
  | .ergDeclared .., h => OutSame.frame (fun _ hp => execErgDeclared_same (hp := hp) (h := .refl _ s) ..) h
  | .ergPathOff .., h => OutSame.frameAny (fun _ hp => execErgPathOff_same (hp := hp) (h := .refl _ s) ..) h
  | .ergResynthStart, h => OutSame.frame (fun _ hp => execErgResynthStart_same (hp := hp) (h := .refl _ s) ..) h
  | .ergResynthDone, h => OutSame.frame (fun _ hp => execErgResynthDone_same (hp := hp) (h := .refl _ s) ..) h
  | .healDeclare .., h => OutSame.frame (fun _ hp => execHealDeclare_same (hp := hp) (h := .refl _ s) ..) h
  | .healClear .., h => OutSame.frame (fun _ hp => execHealClear_same (hp := hp) (h := .refl _ s) ..) h
  | .ergPathRestored .., h => OutSame.frame (fun _ hp => execErgPathRestored_same (hp := hp) (h := .refl _ s) ..) h
  | .tileFail .., h => OutSame.frame (fun _ hp => execTileFail_same (hp := hp) (h := .refl _ s) ..) h
  | .tileSpareTakeover, h => OutSame.frame (fun _ hp => execTileSpareTakeover_same (hp := hp) (h := .refl _ s) ..) h
  | .prachCombine .., h => OutSame.frame (fun _ hp => execPrachCombine_same (hp := hp) (h := .refl _ s) ..) h
  | .dpdThermalUpdate .., h => OutSame.frame (fun _ hp => execDpdThermalUpdate_same (x1 := ()) (x2 := ()) (hp := hp) (h := .refl _ s) ..) h
  | .dpdBankWrite .., h => OutSame.frame (fun _ hp => execDpdBankWrite_same (hp := hp) (h := .refl _ s) ..) h
  | .dpdHoRequest .., h => OutSame.frame (fun _ hp => execDpdHoRequest_same (hp := hp) (h := .refl _ s) ..) h
  | .dpdHoCheckDone .., h => OutSame.frame (fun _ hp => execDpdHoCheckDone_same (hp := hp) (h := .refl _ s) ..) h
  | .dpdRampStep .., h => OutSame.frame (fun _ hp => execDpdRampStep_same (hp := hp) (h := .refl _ s) ..) h
  | .dpdDivergenceWindow .., h => OutSame.frame (fun _ hp => execDpdDivergenceWindow_same (hp := hp) (h := .refl _ s) ..) h
  | .dpdProbationEnd .., h => OutSame.frame (fun _ hp => execDpdProbationEnd_same (hp := hp) (h := .refl _ s) ..) h
  | .dpdFallback .., h => OutSame.frame (fun _ hp => execDpdFallback_same (hp := hp) (h := .refl _ s) ..) h
  | .dpdIdentity .., h => OutSame.frame (fun _ hp => execDpdIdentity_same (hp := hp) (h := .refl _ s) ..) h
  | .dpdFallbackCheckEnd .., h => OutSame.frame (fun _ hp => execDpdFallbackCheckEnd_same (hp := hp) (h := .refl _ s) ..) h
  | .dpdReq .., h => OutSame.frame (fun _ hp => execDpdReq_same (hp := hp) (h := .refl _ s) ..) h
  | .dpdJobStart, h => OutSame.frame (fun _ hp => execDpdJobStart_same (hp := hp) (h := .refl _ s) ..) h
  | .nop .., h => OutSame.frame (fun _ hp => execNop_same (hp := hp) (h := .refl _ s) ..) h
  | .add .., h => OutSame.frame (fun _ hp => execAdd_same (hp := hp) (h := .refl _ s) ..) h
  | .sub .., h => OutSame.frame (fun _ hp => execSub_same (hp := hp) (h := .refl _ s) ..) h
  | .addh .., h => OutSame.frame (fun _ hp => execAddh_same (hp := hp) (h := .refl _ s) ..) h
  | .subh .., h => OutSame.frame (fun _ hp => execSubh_same (hp := hp) (h := .refl _ s) ..) h
  | .neg .., h => OutSame.frame (fun _ hp => execNeg_same (hp := hp) (h := .refl _ s) ..) h
  | .conj .., h => OutSame.frame (fun _ hp => execConj_same (hp := hp) (h := .refl _ s) ..) h
  | .swap .., h => OutSame.frame (fun _ hp => execSwap_same (hp := hp) (h := .refl _ s) ..) h
  | .shl .., h => OutSame.frame (fun _ hp => execShl_same (hp := hp) (h := .refl _ s) ..) h
  | .shr .., h => OutSame.frame (fun _ hp => execShr_same (hp := hp) (h := .refl _ s) ..) h
  | .mov .., h => OutSame.frame (fun _ hp => execMov_same (hp := hp) (h := .refl _ s) ..) h
  | .cmul .., h => OutSame.frame (fun _ hp => execCmul_same (hp := hp) (h := .refl _ s) ..) h
  | .mag2 .., h => OutSame.frame (fun _ hp => execMag2_same (hp := hp) (h := .refl _ s) ..) h
  | .iadd .., h => OutSame.frame (fun _ hp => execIadd_same (hp := hp) (h := .refl _ s) ..) h
  | .isub .., h => OutSame.frame (fun _ hp => execIsub_same (hp := hp) (h := .refl _ s) ..) h
  | .andOp .., h => OutSame.frame (fun _ hp => execAndOp_same (hp := hp) (h := .refl _ s) ..) h
  | .orOp .., h => OutSame.frame (fun _ hp => execOrOp_same (hp := hp) (h := .refl _ s) ..) h
  | .xorOp .., h => OutSame.frame (fun _ hp => execXorOp_same (hp := hp) (h := .refl _ s) ..) h
  | .ishl .., h => OutSame.frame (fun _ hp => execIshl_same (hp := hp) (h := .refl _ s) ..) h
  | .ishr .., h => OutSame.frame (fun _ hp => execIshr_same (hp := hp) (h := .refl _ s) ..) h
  | .icmp .., h => OutSame.frame (fun _ hp => execIcmp_same (hp := hp) (h := .refl _ s) ..) h
  | .clra .., h => OutSame.frame (fun _ hp => execClra_same (hp := hp) (h := .refl _ s) ..) h
  | .cmac4 .., h => OutSame.frame (fun _ hp => execCmac4_same (hp := hp) (h := .refl _ s) ..) h
  | .cmacb .., h => OutSame.frame (fun _ hp => execCmacb_same (hp := hp) (h := .refl _ s) ..) h
  | .cdot .., h => OutSame.frame (fun _ hp => execCdot_same (hp := hp) (h := .refl _ s) ..) h
  | .acca .., h => OutSame.frame (fun _ hp => execAcca_same (hp := hp) (h := .refl _ s) ..) h
  | .ashr .., h => OutSame.frame (fun _ hp => execAshr_same (hp := hp) (h := .refl _ s) ..) h
  | .mova .., h => OutSame.frame (fun _ hp => execMova_same (hp := hp) (h := .refl _ s) ..) h
  | .extr .., h => OutSame.frame (fun _ hp => execExtr_same (hp := hp) (h := .refl _ s) ..) h
  | .sat .., h => OutSame.frame (fun _ hp => execSat_same (hp := hp) (h := .refl _ s) ..) h
  | .norm .., h => OutSame.frame (fun _ hp => execNorm_same (hp := hp) (h := .refl _ s) ..) h
  | .expa .., h => OutSame.frame (fun _ hp => execExpa_same (hp := hp) (h := .refl _ s) ..) h
  | .exp .., h => OutSame.frame (fun _ hp => execExp_same (hp := hp) (h := .refl _ s) ..) h
  | .bexp .., h => OutSame.frame (fun _ hp => execBexp_same (hp := hp) (h := .refl _ s) ..) h
  | .bxadd .., h => OutSame.frame (fun _ hp => execBxadd_same (hp := hp) (h := .refl _ s) ..) h
  | .setbs .., h => OutSame.frame (fun _ hp => execSetbs_same (hp := hp) (h := .refl _ s) ..) h
  | .bfly .., h => OutSame.frame (fun _ hp => execBfly_same (hp := hp) (h := .refl _ s) ..) h
  | .mfr .., h => OutSame.frame (fun _ hp => execMfr_same (hp := hp) (h := .refl _ s) ..) h
  | .mtr .., h => OutSame.frame (fun _ hp => execMtr_same (hp := hp) (h := .refl _ s) ..) h
  | .ldW .., h => OutSame.frame (fun _ hp => execLdW_same (hp := hp) (h := .refl _ s) ..) h
  | .stW .., h => OutSame.frame (fun _ hp => execStW_same (hp := hp) (h := .refl _ s) ..) h
  | .ldD .., h => OutSame.frame (fun _ hp => execLdD_same (hp := hp) (h := .refl _ s) ..) h
  | .stD .., h => OutSame.frame (fun _ hp => execStD_same (hp := hp) (h := .refl _ s) ..) h
  | .ldH .., h => OutSame.frame (fun _ hp => execLdH_same (hp := hp) (h := .refl _ s) ..) h
  | .addi .., h => OutSame.frame (fun _ hp => execAddi_same (hp := hp) (h := .refl _ s) ..) h
  | .addm .., h => OutSame.frame (fun _ hp => execAddm_same (hp := hp) (h := .refl _ s) ..) h
  | .movp .., h => OutSame.frame (fun _ hp => execMovp_same (hp := hp) (h := .refl _ s) ..) h
  | .movm .., h => OutSame.frame (fun _ hp => execMovm_same (hp := hp) (h := .refl _ s) ..) h
  | .movb .., h => OutSame.frame (fun _ hp => execMovb_same (hp := hp) (h := .refl _ s) ..) h
  | .movl .., h => OutSame.frame (fun _ hp => execMovl_same (hp := hp) (h := .refl _ s) ..) h
  | .setm .., h => OutSame.frame (fun _ hp => execSetm_same (hp := hp) (h := .refl _ s) ..) h
  | .nopc .., h => OutSame.frame (fun _ hp => execNopc_same (hp := hp) (h := .refl _ s) ..) h
  | .jmp .., h => OutSame.frame (fun _ hp => execJmp_same (hp := hp) (h := .refl _ s) ..) h
  | .jz .., h => OutSame.frame (fun _ hp => execJz_same (hp := hp) (h := .refl _ s) ..) h
  | .jnz .., h => OutSame.frame (fun _ hp => execJnz_same (hp := hp) (h := .refl _ s) ..) h
  | .jn .., h => OutSame.frame (fun _ hp => execJn_same (hp := hp) (h := .refl _ s) ..) h
  | .jnn .., h => OutSame.frame (fun _ hp => execJnn_same (hp := hp) (h := .refl _ s) ..) h
  | .call .., h => OutSame.frame (fun _ hp => execCall_same (hp := hp) (h := .refl _ s) ..) h
  | .ret .., h => OutSame.frame (fun _ hp => execRet_same (hp := hp) (h := .refl _ s) ..) h
  | .loop0 .., h => OutSame.frame (fun _ hp => execLoop0_same (hp := hp) (h := .refl _ s) ..) h
  | .loop1 .., h => OutSame.frame (fun _ hp => execLoop1_same (hp := hp) (h := .refl _ s) ..) h
  | .loopr0 .., h => OutSame.frame (fun _ hp => execLoopr0_same (hp := hp) (h := .refl _ s) ..) h
  | .loopr1 .., h => OutSame.frame (fun _ hp => execLoopr1_same (hp := hp) (h := .refl _ s) ..) h
  | .ei .., h => OutSame.frame (fun _ hp => execEi_same (hp := hp) (h := .refl _ s) ..) h
  | .di .., h => OutSame.frame (fun _ hp => execDi_same (hp := hp) (h := .refl _ s) ..) h
  | .reti .., h => OutSame.frame (fun _ hp => execReti_same (hp := hp) (h := .refl _ s) ..) h
  | .xfer .., h => OutSame.frame (fun _ hp => execXfer_same (hp := hp) (h := .refl _ s) ..) h
  | .xwait .., h => OutSame.frame (fun _ hp => execXwait_same (hp := hp) (h := .refl _ s) ..) h
  | .done .., h => OutSame.frame (fun _ hp => execDone_same (hp := hp) (h := .refl _ s) ..) h
  | .yield .., h => OutSame.frame (fun _ hp => execYield_same (hp := hp) (h := .refl _ s) ..) h
  | .ldi .., h => OutSame.frame (fun _ hp => execLdi_same (hp := hp) (h := .refl _ s) ..) h
  | .transferComplete .., h => OutSame.frameAny (fun _ hp => execTransferComplete_same (hp := hp) (h := .refl _ s) ..) h
  | .interruptAccept .., h => OutSame.frame (fun _ hp => execInterruptAccept_same (hp := hp) (h := .refl _ s) ..) h
  | .geDoorbell .., h => OutSame.frame (fun _ hp => execGeDoorbell_same (hp := hp) (h := .refl _ s) ..) h
  | .gePost .., h => OutSame.frame (fun _ hp => execGePost_same (hp := hp) (h := .refl _ s) ..) h
  | .releaseEntryFire .., h => OutSame.frame (fun _ hp => execReleaseEntryFire_same (hp := hp) (h := .refl _ s) ..) h
  | .jobStart .., h => OutSame.frame (fun _ hp => execJobStart_same (hp := hp) (h := .refl _ s) ..) h
  | .preemptLate .., h => OutSame.frame (fun _ hp => execPreemptLate_same (hp := hp) (h := .refl _ s) ..) h
  | .jobOverrun .., h => OutSame.frame (fun _ hp => execJobOverrun_same (hp := hp) (h := .refl _ s) ..) h
  | .geCplRead .., h => OutSame.frame (fun _ hp => execGeCplRead_same (hp := hp) (h := .refl _ s) ..) h
  | .engineRollMove .., h => OutSame.frame (fun _ hp => execEngineRollMove_same (hp := hp) (h := .refl _ s) ..) h
  | .baseReevaluation, h => OutSame.frameAny (fun _ hp => execBaseReevaluation_same (hp := hp) (h := .refl _ s) ..) h
  | .traceGate .., h => OutSame.frame (fun _ hp => execTraceGate_same (hp := hp) (h := .refl _ s) ..) h
  | .topNoteWindow .., h => OutSame.frameAny (fun _ hp => execTopNoteWindow_same (hp := hp) (h := .refl _ s) ..) h
  | .calHrxArm .., h => OutSame.frame (fun _ hp => execCalHrxArm_same (hp := hp) (h := .refl _ s) ..) h
  | .heartInjection, h => OutSame.frameAny (fun _ hp => execHeartInjection_same (hp := hp) (h := .refl _ s) ..) h
  | .heartSnapshot, h => OutSame.frame (fun _ hp => execHeartSnapshot_same (hp := hp) (h := .refl _ s) ..) h
  | .heartRunComplete .., h => OutSame.frameAny (fun _ hp => execHeartRunComplete_same (hp := hp) (h := .refl _ s) ..) h
  | .calRampStep, h => OutSame.frame (fun _ hp => execCalRampStep_same (hp := hp) (h := .refl _ s) ..) h
  | .calItemStale .., h => OutSame.frame (fun _ hp => execCalItemStale_same (hp := hp) (h := .refl _ s) ..) h
  | .foregroundRequest .., h => OutSame.frameAny (fun _ hp => execForegroundRequest_same (hp := hp) (h := .refl _ s) ..) h
  | .foregroundWindowTimeout .., h => OutSame.frameAny (fun _ hp => execForegroundWindowTimeout_same (hp := hp) (h := .refl _ s) ..) h
  | .serviceWindowStart, h => OutSame.frameAny (fun _ hp => execServiceWindowStart_same (hp := hp) (h := .refl _ s) ..) h
  | .foregroundRunEnd .., h => OutSame.frameAny (fun _ hp => execForegroundRunEnd_same (hp := hp) (h := .refl _ s) ..) h
  | .iqDataMessage .., h => OutSame.frame (fun _ hp => execIqDataMessage_same (hp := hp) (h := .refl _ s) ..) h
  | .dlWindowClose .., h => OutSame.frame (fun _ hp => execDlWindowClose_same (hp := hp) (h := .refl _ s) ..) h
  | .ulSectionSend .., h => OutSame.frame (fun _ hp => execUlSectionSend_same (hp := hp) (h := .refl _ s) ..) h
  | .realTimeControlMessage .., h => OutSame.frame (fun _ hp => execRealTimeControlMessage_same (hp := hp) (h := .refl _ s) ..) h
  | .genericDataMessage .., h => OutSame.frame (fun _ hp => execGenericDataMessage_same (hp := hp) (h := .refl _ s) ..) h
  | .captureStream .., h => OutSame.frame (fun _ hp => execCaptureStream_same (hp := hp) (h := .refl _ s) ..) h
  | .delayRequest .., h => OutSame.frame (fun _ hp => execDelayRequest_same (hp := hp) (h := .refl _ s) ..) h
  | .requestWithFollowUp .., h => OutSame.frame (fun _ hp => execRequestWithFollowUp_same (hp := hp) (h := .refl _ s) ..) h
  | .followUp .., h => OutSame.frame (fun _ hp => execFollowUp_same (hp := hp) (h := .refl _ s) ..) h
  | .remoteRequest .., h => OutSame.frame (fun _ hp => execRemoteRequest_same (hp := hp) (h := .refl _ s) ..) h
  | .eventIndicationSend .., h => OutSame.frame (fun _ hp => execEventIndicationSend_same (hp := hp) (h := .refl _ s) ..) h
  | .indicationAck .., h => OutSame.frame (fun _ hp => execIndicationAck_same (hp := hp) (h := .refl _ s) ..) h
  | .indicationResend .., h => OutSame.frame (fun _ hp => execIndicationResend_same (hp := hp) (h := .refl _ s) ..) h
  | .synchronisationRequest .., h => OutSame.frame (fun _ hp => execSynchronisationRequest_same (hp := hp) (h := .refl _ s) ..) h
  | .portStateChange .., h => OutSame.frame (fun _ hp => execPortStateChange_same (hp := hp) (h := .refl _ s) ..) h
  | .sakInstall .., h => OutSame.frame (fun _ hp => execSakInstall_same (hp := hp) (h := .refl _ s) ..) h
  | .ptpSyncInterval .., h => OutSame.frame (fun _ hp => execPtpSyncInterval_same (hp := hp) (h := .refl _ s) ..) h
  | .ptpMasterChange .., h => OutSame.frame (fun _ hp => execPtpMasterChange_same (hp := hp) (h := .refl _ s) ..) h
  | .ptpHoldoverEntry, h => OutSame.frame (fun _ hp => execPtpHoldoverEntry_same (hp := hp) (h := .refl _ s) ..) h
  | .synceSquelch .., h => OutSame.frame (fun _ hp => execSynceSquelch_same (hp := hp) (h := .refl _ s) ..) h
  | .synceResume, h => OutSame.frame (fun _ hp => execSynceResume_same (hp := hp) (h := .refl _ s) ..) h
  | .esmcSend .., h => OutSame.frame (fun _ hp => execEsmcSend_same (hp := hp) (h := .refl _ s) ..) h
  | .esmcReceive .., h => OutSame.frame (fun _ hp => execEsmcReceive_same (hp := hp) (h := .refl _ s) ..) h
  | .ppsOutEdge, h => OutSame.frame (fun _ hp => execPpsOutEdge_same (hp := hp) (h := .refl _ s) ..) h
  | .ppsInEdge .., h => OutSame.frameAny (fun _ hp => execPpsInEdge_same (hp := hp) (h := .refl _ s) ..) h
  | .lnkPpsInLoss, h => OutSame.frame (fun _ hp => execLnkPpsInLoss_same (hp := hp) (h := .refl _ s) ..) h
  | .linkLaneFailure .., h => OutSame.frame (fun _ hp => execLinkLaneFailure_same (hp := hp) (h := .refl _ s) ..) h
  | .linkLaneTxMove .., h => OutSame.frame (fun _ hp => execLinkLaneTxMove_same (hp := hp) (h := .refl _ s) ..) h
  | .linkLaneRxMove .., h => OutSame.frame (fun _ hp => execLinkLaneRxMove_same (hp := hp) (h := .refl _ s) ..) h
  | .lnkLaneSpared .., h => OutSame.frame (fun _ hp => execLnkLaneSpared_same (hp := hp) (h := .refl _ s) ..) h
  | .linkRealignTimeout .., h => OutSame.frame (fun _ hp => execLinkRealignTimeout_same (hp := hp) (h := .refl _ s) ..) h
  | .laneReturnToSpare .., h => OutSame.frame (fun _ hp => execLaneReturnToSpare_same (hp := hp) (h := .refl _ s) ..) h
  | .scrubPass .., h => OutSame.frame (fun _ hp => execScrubPass_same (hp := hp) (h := .refl _ s) ..) h
  | .memRowRepaired .., h => OutSame.frame (fun _ hp => execMemRowRepaired_same (hp := hp) (h := .refl _ s) ..) h
  | .bankMigrationStart .., h => OutSame.frame (fun _ hp => execBankMigrationStart_same (hp := hp) (h := .refl _ s) ..) h
  | .memBankSpared .., h => OutSame.frame (fun _ hp => execMemBankSpared_same (hp := hp) (h := .refl _ s) ..) h
  | .serviceBankSpare .., h => OutSame.frame (fun _ hp => execServiceBankSpare_same (hp := hp) (h := .refl _ s) ..) h
  | .memLock .., h => OutSame.frame (fun _ hp => execMemLock_same (hp := hp) (h := .refl _ s) ..) h
  | .memLockRelease .., h => OutSame.frame (fun _ hp => execMemLockRelease_same (hp := hp) (h := .refl _ s) ..) h
  | .memHoldFault .., h => OutSame.frameAny (fun _ hp => execMemHoldFault_same (hp := hp) (h := .refl _ s) ..) h
  | .dmaRingKick .., h => OutSame.frame (fun _ hp => execDmaRingKick_same (hp := hp) (h := .refl _ s) ..) h
  | .dmaDescriptor .., h => OutSame.frameAny (fun _ hp => execDmaDescriptor_same (hp := hp) (h := .refl _ s) ..) h
  | .dmaHalfCompletion .., h => OutSame.frameAny (fun _ hp => execDmaHalfCompletion_same (hp := hp) (h := .refl _ s) ..) h
  | .dmaRingDisable .., h => OutSame.frame (fun _ hp => execDmaRingDisable_same (hp := hp) (h := .refl _ s) ..) h
  | .mainMoverParity, h => OutSame.frame (fun _ hp => execMainMoverParity_same (hp := hp) (h := .refl _ s) ..) h
  | .dmaMainRestored .., h => OutSame.frame (fun _ hp => execDmaMainRestored_same (hp := hp) (h := .refl _ s) ..) h
  | .read .., h => OutSame.frame (fun _ hp => execRead_same (hp := hp) (h := .refl _ s) ..) h
  | .write .., h => OutSame.frameAny (fun _ hp => execWrite_same (hp := hp) (h := .refl _ s) ..) h
  | .readBlock .., h => OutSame.frame (fun _ hp => execReadBlock_same (hp := hp) (h := .refl _ s) ..) h
  | .writeBlock .., h => OutSame.frameAny (fun _ hp => execWriteBlock_same (hp := hp) (h := .refl _ s) ..) h
  | .store .., h => OutSame.frame (fun _ hp => execStore_same (hp := hp) (h := .refl _ s) ..) h
  | .restore .., h => OutSame.frameAny (fun _ hp => execRestore_same (hp := hp) (h := .refl _ s) ..) h
  | .subscribe .., h => OutSame.frame (fun _ hp => execSubscribe_same (hp := hp) (h := .refl _ s) ..) h
  | .digest .., h => OutSame.frame (fun _ hp => execDigest_same (hp := hp) (h := .refl _ s) ..) h
  | .sessionTimeout .., h => OutSame.frame (fun _ hp => execSessionTimeout_same (hp := hp) (h := .refl _ s) ..) h
  | .blockTransferTimeout .., h => OutSame.frame (fun _ hp => execBlockTransferTimeout_same (hp := hp) (h := .refl _ s) ..) h
  | .subscriptionNotify .., h => OutSame.frame (fun _ hp => execSubscriptionNotify_same (hp := hp) (h := .refl _ s) ..) h
  | .rwDigestRecompute, h => OutSame.frame (fun _ hp => execRwDigestRecompute_same (hp := hp) (h := .refl _ s) ..) h
  | .replicaRewrite .., h => OutSame.frame (fun _ hp => execReplicaRewrite_same (hp := hp) (h := .refl _ s) ..) h
  | .eventFiringPresent .., h => OutSame.frame (fun _ hp => execEventFiringPresent_same (hp := hp) (h := .refl _ s) ..) h
  | .eventCease .., h => OutSame.frame (fun _ hp => execEventCease_same (hp := hp) (h := .refl _ s) ..) h
  | .stickyFlagClear .., h => OutSame.frame (fun _ hp => execStickyFlagClear_same (hp := hp) (h := .refl _ s) ..) h
  | .counterFold, h => OutSame.frameAny (fun _ hp => execCounterFold_same (hp := hp) (h := .refl _ s) ..) h
  | .statisticsCounterClear .., h => OutSame.frame (fun _ hp => execStatisticsCounterClear_same (hp := hp) (h := .refl _ s) ..) h
  | .writeFrame .., h => OutSame.frame (fun _ hp => execWriteFrame_same (hp := hp) (h := .refl _ s) ..) h
  | .readFrame, h => OutSame.frame (fun _ hp => execReadFrame_same (hp := hp) (h := .refl _ s) ..) h
  | .spiStatus, h => OutSame.frame (fun _ hp => execSpiStatus_same (hp := hp) (h := .refl _ s) ..) h
  | .powerRequest .., h => OutSame.frame (fun _ hp => execPowerRequest_same (hp := hp) (h := .refl _ s) ..) h
  | .powerEntryStep, h => OutSame.frameAny (fun _ hp => execPowerEntryStep_same (hp := hp) (h := .refl _ s) ..) h
  | .powerExit, h => OutSame.frame (fun _ hp => execPowerExit_same (hp := hp) (h := .refl _ s) ..) h
  | .warmStart, h => OutSame.frameAny (fun _ hp => execWarmStart_same (hp := hp) (h := .refl _ s) ..) h
  | .wakeToTransition, h => OutSame.frame (fun _ hp => execWakeToTransition_same (hp := hp) (h := .refl _ s) ..) h
  | .slotgateChange, h => OutSame.frame (fun _ hp => execSlotgateChange_same (hp := hp) (h := .refl _ s) ..) h
  | .sectionGateOff .., h => OutSame.frame (fun _ hp => execSectionGateOff_same (hp := hp) (h := .refl _ s) ..) h
  | .sectionGateOn .., h => OutSame.frame (fun _ hp => execSectionGateOn_same (hp := hp) (h := .refl _ s) ..) h
  | .wakePin .., h => OutSame.frame (fun _ hp => execWakePin_same (hp := hp) (h := .refl _ s) ..) h
  | .rtcAlarm, h => OutSame.frame (fun _ hp => execRtcAlarm_same (hp := hp) (h := .refl _ s) ..) h
  | .linkSignalDetect .., h => OutSame.frame (fun _ hp => execLinkSignalDetect_same (hp := hp) (h := .refl _ s) ..) h
  | .t1sFrameWake .., h => OutSame.frame (fun _ hp => execT1sFrameWake_same (hp := hp) (h := .refl _ s) ..) h
  | .debugWakeWord .., h => OutSame.frame (fun _ hp => execDebugWakeWord_same (hp := hp) (h := .refl _ s) ..) h
  | .thermalAlarm .., h => OutSame.frame (fun _ hp => execThermalAlarm_same (hp := hp) (h := .refl _ s) ..) h
  | .wrxSniff .., h => OutSame.frame (fun _ hp => execWrxSniff_same (hp := hp) (h := .refl _ s) ..) h
  | .wrxSyncTimeout, h => OutSame.frame (fun _ hp => execWrxSyncTimeout_same (hp := hp) (h := .refl _ s) ..) h
  | .wakeFrame .., h => OutSame.frame (fun _ hp => execWakeFrame_same (hp := hp) (h := .refl _ s) ..) h
  | .wrxTrim, h => OutSame.frame (fun _ hp => execWrxTrim_same (hp := hp) (h := .refl _ s) ..) h
  | .housekeepingRound .., h => OutSame.frameAny (fun _ hp => execHousekeepingRound_same (hp := hp) (h := .refl _ s) ..) h
  | .thermalCarrierDrop, h => OutSame.frameAny (fun _ hp => execThermalCarrierDrop_same (hp := hp) (h := .refl _ s) ..) h
  | .ldacEdge, h => OutSame.frame (fun _ hp => execLdacEdge_same (hp := hp) (h := .refl _ s) ..) h
  | .bdacStrobeWrite .., h => OutSame.frameAny (fun _ hp => execBdacStrobeWrite_same (hp := hp) (h := .refl _ s) ..) h
  | .bdacCodeWrite .., h => OutSame.frameAny (fun _ hp => execBdacCodeWrite_same (hp := hp) (h := .refl _ s) ..) h
  | .bdacShort .., h => OutSame.frameAny (fun _ hp => execBdacShort_same (hp := hp) (h := .refl _ s) ..) h
  | .bdacShortTimeout .., h => OutSame.frame (fun _ hp => execBdacShortTimeout_same (hp := hp) (h := .refl _ s) ..) h
  | .bdacSupplyLow .., h => OutSame.frame (fun _ hp => execBdacSupplyLow_same (hp := hp) (h := .refl _ s) ..) h
  | .bdacSuppliesGood, h => OutSame.frame (fun _ hp => execBdacSuppliesGood_same (hp := hp) (h := .refl _ s) ..) h
  | .drainRequest .., h => OutSame.frameAny (fun _ hp => execDrainRequest_same (hp := hp) (h := .refl _ s) ..) h
  | .amplifierFault .., h => OutSame.frame (fun _ hp => execAmplifierFault_same (hp := hp) (h := .refl _ s) ..) h
  | .faultSafeCode .., h => OutSame.frame (fun _ hp => execFaultSafeCode_same (hp := hp) (h := .refl _ s) ..) h
  | .drainReadbackMismatch .., h => OutSame.frame (fun _ hp => execDrainReadbackMismatch_same (hp := hp) (h := .refl _ s) ..) h
  | .drainFaultClear .., h => OutSame.frameAny (fun _ hp => execDrainFaultClear_same (hp := hp) (h := .refl _ s) ..) h
  | .monTrigger .., h => OutSame.frameAny (fun _ hp => execMonTrigger_same (hp := hp) (h := .refl _ s) ..) h
  | .monEntryResult .., h => OutSame.frame (fun _ hp => execMonEntryResult_same (hp := hp) (h := .refl _ s) ..) h
  | .monDataRead .., h => OutSame.frame (fun _ hp => execMonDataRead_same (hp := hp) (h := .refl _ s) ..) h
  | .fanWatchdogExpiry .., h => OutSame.frame (fun _ hp => execFanWatchdogExpiry_same (hp := hp) (h := .refl _ s) ..) h
  | .thmFanStall .., h => OutSame.frame (fun _ hp => execThmFanStall_same (hp := hp) (h := .refl _ s) ..) h
  | .transitionToken .., h => OutSame.frameAny (fun _ hp => execTransitionToken_same (hp := hp) (h := .refl _ s) ..) h
  | .keyEnvelope .., h => OutSame.frame (fun _ hp => execKeyEnvelope_same (hp := hp) (h := .refl _ s) ..) h
  | .rootRecord .., h => OutSame.frame (fun _ hp => execRootRecord_same (hp := hp) (h := .refl _ s) ..) h
  | .attestation .., h => OutSame.frame (fun _ hp => execAttestation_same (hp := hp) (h := .refl _ s) ..) h
  | .raiseMinimums .., h => OutSame.frame (fun _ hp => execRaiseMinimums_same (hp := hp) (h := .refl _ s) ..) h
  | .verifyImage .., h => OutSame.frame (fun _ hp => execVerifyImage_same (hp := hp) (h := .refl _ s) ..) h
  | .checkDiongTag .., h => OutSame.frame (fun _ hp => execCheckDiongTag_same (hp := hp) (h := .refl _ s) ..) h
  | .makeDiongTag .., h => OutSame.frame (fun _ hp => execMakeDiongTag_same (hp := hp) (h := .refl _ s) ..) h
  | .mboxKeyEnvelope .., h => OutSame.frame (fun _ hp => execMboxKeyEnvelope_same (hp := hp) (h := .refl _ s) ..) h
  | .mboxAttestation .., h => OutSame.frame (fun _ hp => execMboxAttestation_same (hp := hp) (h := .refl _ s) ..) h
  | .lifecycleToken .., h => OutSame.frameAny (fun _ hp => execLifecycleToken_same (hp := hp) (h := .refl _ s) ..) h
  | .mboxRootRecord .., h => OutSame.frame (fun _ hp => execMboxRootRecord_same (hp := hp) (h := .refl _ s) ..) h
  | .randomBytes .., h => OutSame.frame (fun _ hp => execRandomBytes_same (hp := hp) (h := .refl _ s) ..) h
  | .extest .., h => OutSame.frame (fun _ hp => execExtest_same (hp := hp) (h := .refl _ s) ..) h
  | .samplePreload .., h => OutSame.frame (fun _ hp => execSamplePreload_same (hp := hp) (h := .refl _ s) ..) h
  | .idcode, h => OutSame.frame (fun _ hp => execIdcode_same (hp := hp) (h := .refl _ s) ..) h
  | .clamp, h => OutSame.frame (fun _ hp => execClamp_same (hp := hp) (h := .refl _ s) ..) h
  | .highz, h => OutSame.frame (fun _ hp => execHighz_same (hp := hp) (h := .refl _ s) ..) h
  | .dbgChal, h => OutSame.frame (fun _ hp => execDbgChal_same (hp := hp) (h := .refl _ s) ..) h
  | .dbgResp .., h => OutSame.frame (fun _ hp => execDbgResp_same (hp := hp) (h := .refl _ s) ..) h
  | .dbgPort .., h => OutSame.frameAny (fun _ hp => execDbgPort_same (hp := hp) (h := .refl _ s) ..) h
  | .dbgStatus, h => OutSame.frame (fun _ hp => execDbgStatus_same (hp := hp) (h := .refl _ s) ..) h
  | .bypass .., h => OutSame.frame (fun _ hp => execBypass_same (hp := hp) (h := .refl _ s) ..) h
  | .challengeRead .., h => OutSame.frame (fun _ hp => execChallengeRead_same (hp := hp) (h := .refl _ s) ..) h
  | .debugResponse .., h => OutSame.frame (fun _ hp => execDebugResponse_same (hp := hp) (h := .refl _ s) ..) h
  | .debugTunnel .., h => OutSame.frameAny (fun _ hp => execDebugTunnel_same (hp := hp) (h := .refl _ s) ..) h
  | .dbgClose .., h => OutSame.frame (fun _ hp => execDbgClose_same (hp := hp) (h := .refl _ s) ..) h
  | .debugSessionExpiry, h => OutSame.frame (fun _ hp => execDebugSessionExpiry_same (hp := hp) (h := .refl _ s) ..) h
  | .coreHalt .., h => OutSame.frame (fun _ hp => execCoreHalt_same (hp := hp) (h := .refl _ s) ..) h
  | .coreStep .., h => OutSame.frame (fun _ hp => execCoreStep_same (hp := hp) (h := .refl _ s) ..) h
  | .engineHalt .., h => OutSame.frame (fun _ hp => execEngineHalt_same (hp := hp) (h := .refl _ s) ..) h
  | .laneFault .., h => OutSame.frame (fun _ hp => execLaneFault_same (hp := hp) (h := .refl _ s) ..) h
  | .engineRetire .., h => OutSame.frame (fun _ hp => execEngineRetire_same (hp := hp) (h := .refl _ s) ..) h
  | .engineSpareTakeover .., h => OutSame.frame (fun _ hp => execEngineSpareTakeover_same (hp := hp) (h := .refl _ s) ..) h
  | .standbyImageWrite .., h => OutSame.frame (fun _ hp => execStandbyImageWrite_same (hp := hp) (h := .refl _ s) ..) h
  | .fwStandbyReady .., h => OutSame.frame (fun _ hp => execFwStandbyReady_same (hp := hp) (h := .refl _ s) ..) h
  | .handoverRequest .., h => OutSame.frame (fun _ hp => execHandoverRequest_same (hp := hp) (h := .refl _ s) ..) h
  | .handoverSaving, h => OutSame.frame (fun _ hp => execHandoverSaving_same (hp := hp) (h := .refl _ s) ..) h
  | .fwSaved .., h => OutSame.frame (fun _ hp => execFwSaved_same (hp := hp) (h := .refl _ s) ..) h
  | .handoverActivate, h => OutSame.frame (fun _ hp => execHandoverActivate_same (hp := hp) (h := .refl _ s) ..) h
  | .fwAlive .., h => OutSame.frame (fun _ hp => execFwAlive_same (hp := hp) (h := .refl _ s) ..) h
  | .fwHandoverDone, h => OutSame.frame (fun _ hp => execFwHandoverDone_same (hp := hp) (h := .refl _ s) ..) h
  | .fwReverted, h => OutSame.frame (fun _ hp => execFwReverted_same (hp := hp) (h := .refl _ s) ..) h
  | .poweredHour, h => OutSame.frame (fun _ hp => execPoweredHour_same (hp := hp) (h := .refl _ s) ..) h
  | .nvWordWrite .., h => OutSame.frame (fun _ hp => execNvWordWrite_same (hp := hp) (h := .refl _ s) ..) h
  | .coldStart .., h => OutSame.frameAny (fun _ hp => execColdStart_same (hp := hp) (h := .refl _ s) ..) h
  | .resetAssert .., h => OutSame.frameAny (fun _ hp => execResetAssert_same (hp := hp) (h := .refl _ s) ..) h
  | .osc32Qualified, h => OutSame.frame (fun _ hp => execOsc32Qualified_same (hp := hp) (h := .refl _ s) ..) h
  | .bootStep .., h => OutSame.frameAny (fun _ hp => execBootStep_same (hp := hp) (h := .refl _ s) ..) h
  | .refclkQualified, h => OutSame.frame (fun _ hp => execRefclkQualified_same (hp := hp) (h := .refl _ s) ..) h
  | .loaderImage .., h => OutSame.frame (fun _ hp => execLoaderImage_same (hp := hp) (h := .refl _ s) ..) h
  | .pwrBootGo .., h => OutSame.frame (fun _ hp => execPwrBootGo_same (hp := hp) (h := .refl _ s) ..) h
  | .vtargetUpdate .., h => OutSame.frame (fun _ hp => execVtargetUpdate_same (hp := hp) (h := .refl _ s) ..) h
  | .dpdMinRateVisit .., h => OutSame.frame (fun _ hp => execDpdMinRateVisit_same (hp := hp) (h := .refl _ s) ..) h
  | .dpdStaleAgeExpiry .., h => OutSame.frame (fun _ hp => execDpdStaleAgeExpiry_same (hp := hp) (h := .refl _ s) ..) h
  | .bdacOutputStep .., h => OutSame.frame (fun _ hp => execBdacOutputStep_same (hp := hp) (h := .refl _ s) ..) h
  | .tachEdge .., h => OutSame.frame (fun _ hp => execTachEdge_same (hp := hp) (h := .refl _ s) ..) h
  | .overloadDeassert .., h => OutSame.frame (fun _ hp => execOverloadDeassert_same (hp := hp) (h := .refl _ s) ..) h
  | .oldCakTimeout .., h => OutSame.frame (fun _ hp => execOldCakTimeout_same (hp := hp) (h := .refl _ s) ..) h
  | .arpRequest .., h => OutSame.frame (fun _ hp => execArpRequest_same (hp := hp) (h := .refl _ s) ..) h
  | .icmpEchoRequest .., h => OutSame.frame (fun _ hp => execIcmpEchoRequest_same (hp := hp) (h := .refl _ s) ..) h
  | .tapReset, h => OutSame.frame (fun _ hp => execTapReset_same (hp := hp) (h := .refl _ s) ..) h
  | .debugChallengeExpiry, h => OutSame.frame (fun _ hp => execDebugChallengeExpiry_same (hp := hp) (h := .refl _ s) ..) h
  | .debugLockoutEnd, h => OutSame.frame (fun _ hp => execDebugLockoutEnd_same (hp := hp) (h := .refl _ s) ..) h
  | .baseNoteSave .., h => OutSame.frame (fun _ hp => execBaseNoteSave_same (hp := hp) (h := .refl _ s) ..) h

/-- Settles O6: the frames of the commands of the block are among those of all commands. -/
theorem framesOfTheBlock : Obligations.FramesOfTheBlock := by
  unfold Obligations.FramesOfTheBlock FramesOf
  exact fun c _ _ _ => exec_frame c

/-- Settles O7: so are the frames of the commands of the engines. -/
theorem framesOfTheEngines : Obligations.FramesOfTheEngines := by
  unfold Obligations.FramesOfTheEngines FramesOf
  exact fun c _ _ _ => exec_frame c

end Sys2Proof.Machine
end

section
/-!
Faults of spare lanes (R602), and what the commands of chapter 17 leave of the mover, the lanes, the engines and the NV store: the settlements of
O59 and O57.
-/

namespace Sys2Proof.Machine

set_option Elab.async false

variable {s t : State} {c k e sp : Nat}

/-! ## A spare lane's fault (R602) -/

/-- The fault of the spare is reported, and a move under way ends NO_SPARE. -/
def spareFaulted (s : State) (c : Nat) : State :=
  let s1 := raise s 250 c (if (s.lanes c).move = 0 then 8 else (s.lanes c).pos)
  if (s.lanes c).move = 0 then s1 else s1.setLanes c { s.lanes c with move := 0, result := 3 }

/-- The spare is retired, and the cluster has none. -/
def spareLaneGone (s : State) (c k : Nat) : State :=
  let t := retireLane (spareFaulted s c) c k
  t.setLanes c { t.lanes c with spare := none }

theorem exec_laneFault_of_spare (hc : c < 8) (hk : k < 9) (hspare : (s.lanes c).spare = some k) (hnot : k ∉ (s.lanes c).retired)
    (hpos : positionOf s c k = none) : exec (.laneFault c k) s = .next (nextFault (spareLaneGone s c k) c) := by
  rw [exec_laneFault, execLaneFault, if_pos ⟨hc, hk⟩, laneFault]
  dsimp only
  rw [if_neg hnot, hpos]
  dsimp only
  rw [if_pos hspare]
  rfl

theorem spareFaulted_lanes : (spareFaulted s c).lanes c =
    { s.lanes c with move := 0, result := if (s.lanes c).move = 0 then (s.lanes c).result else 3 } := by
  have hraised (a : Nat) : (raise s 250 c a).lanes c = s.lanes c := lanes_of_rx (raise_rx ..)
  unfold spareFaulted
  by_cases hmove : (s.lanes c).move = 0
  · simp only [if_pos hmove, hraised]
    rw [← hmove]
  · simp only [if_neg hmove, lanes_setLanes]

theorem spareFaulted_lanes_other {d : Nat} (h : d ≠ c) : (spareFaulted s c).lanes d = s.lanes d := by
  have hraised (a : Nat) : (raise s 250 c a).lanes d = s.lanes d := lanes_of_rx (raise_rx ..)
  unfold spareFaulted
  dsimp only
  split
  · rw [hraised]
  · rw [lanes_setLanes_other _ _ h, hraised]

theorem fires_spareFaulted : Fires (spareFaulted s c) 250 := Fires.ite (fires_raise ..) ((fires_raise ..).of_evt (setLanes_evt ..))

theorem retireLane_lanes_other {d : Nat} (h : d ≠ c) (k : Nat) : (retireLane s c k).lanes d = s.lanes d := by
  rw [retireLane_eq, lanes_of_rx (spareUsed_rx ..)]
  exact lanes_setLanes_other _ _ h

/-- The NV store lists the retired lanes of a cluster with the one that goes down (R600). -/
theorem retireLane_laneRetired (k : Nat) : spGet [] (retireLane s c k).nv.laneRetired c = setIns k (s.lanes c).retired := by
  have hused : (spareUsed (laneDown s c k) 2 c).nv.laneRetired = (laneDown s c k).nv.laneRetired := by
    unfold spareUsed
    dsimp only
    rw [(checkForecast_same _ (Nat.and_self _) (Same.refl _ _)).but.nv (by decide)]
    split
    · rw [raise_nv, raise_nv]
    · rw [raise_nv]
  rw [retireLane_eq, hused]
  exact spGet_spPut_same ..

theorem fires_spareLaneGone (k : Nat) : Fires (spareLaneGone s c k) 250 := by
  rw [spareLaneGone]
  exact (fires_spareFaulted.retireLane c k).of_evt (setLanes_evt ..)

/-- What a lane's fault that leaves the cluster without a spare leaves of its lanes. -/
structure LaneGone (s t : State) (c k : Nat) : Prop where
  retired : k ∈ (t.lanes c).retired
  nv : k ∈ spGet [] t.nv.laneRetired c
  spare : (t.lanes c).spare = none
  move : (t.lanes c).move = 0
  result : (t.lanes c).result = if (s.lanes c).move = 0 then (s.lanes c).result else 3
  map : (t.lanes c).map = (s.lanes c).map
  other : ∀ d, d ≠ c → t.lanes d = s.lanes d

theorem laneGone_spareLaneGone : LaneGone s (spareLaneGone s c k) c k where
  retired := by
    rw [spareLaneGone, lanes_setLanes, retireLane_lanes]
    exact mem_setIns.2 (.inl rfl)
  nv := by
    rw [spareLaneGone, setLanes_nv, retireLane_laneRetired]
    exact mem_setIns.2 (.inl rfl)
  spare := by rw [spareLaneGone, lanes_setLanes]
  move := by rw [spareLaneGone, lanes_setLanes, retireLane_lanes, spareFaulted_lanes]
  result := by rw [spareLaneGone, lanes_setLanes, retireLane_lanes, spareFaulted_lanes]
  map := by rw [spareLaneGone, lanes_setLanes, retireLane_lanes, spareFaulted_lanes]
  other d hd := by rw [spareLaneGone, lanes_setLanes_other _ _ hd, retireLane_lanes_other hd, spareFaulted_lanes_other hd]

/-- The positions that wait may be others. -/
theorem LaneGone.waiting (h : LaneGone s t c k) (l : List Nat) : LaneGone s (t.setLanes c { t.lanes c with waiting := l }) c k where
  retired := by rw [lanes_setLanes]; exact h.retired
  nv := by rw [setLanes_nv]; exact h.nv
  spare := by rw [lanes_setLanes]; exact h.spare
  move := by rw [lanes_setLanes]; exact h.move
  result := by rw [lanes_setLanes]; exact h.result
  map := by rw [lanes_setLanes]; exact h.map
  other d hd := by rw [lanes_setLanes_other _ _ hd, h.other d hd]

/-- One more lane of the cluster may retire. -/
theorem LaneGone.retireLane (h : LaneGone s t c k) (j : Nat) : LaneGone s (retireLane t c j) c k where
  retired := by rw [retireLane_lanes]; exact mem_setIns.2 (.inr h.retired)
  nv := by rw [retireLane_laneRetired]; exact mem_setIns.2 (.inr h.retired)
  spare := by
    rw [retireLane_lanes]
    dsimp only
    rw [h.spare, if_neg (by simp)]
  move := by rw [retireLane_lanes]; exact h.move
  result := by rw [retireLane_lanes]; exact h.result
  map := by rw [retireLane_lanes]; exact h.map
  other d hd := by rw [retireLane_lanes_other hd, h.other d hd]

/-- A path may fail. -/
theorem LaneGone.failPath (h : LaneGone s t c k) (p : Nat) : LaneGone s (failPath t p) c k := by
  have hf := (failPath_same p (Nat.and_self _) (Same.refl _ t)).but
  have hlanes (d : Nat) : (Machine.failPath t p).lanes d = t.lanes d := lanes_of_rx (hf.rx (by decide))
  have hnv := hf.nv (by decide)
  constructor <;> simp only [hlanes, hnv]
  exacts [h.retired, h.nv, h.spare, h.move, h.result, h.map, h.other]

/-- The fault move of a position that waits finds no spare: its own lane retires, and its path fails (R603). -/
theorem LaneGone.nextFault (h : LaneGone s t c k) : LaneGone s (nextFault t c) c k := by
  unfold Machine.nextFault
  split
  · exact h
  next pos rest _ =>
    dsimp only
    split
    · exact h
    · rw [if_pos (by rw [(h.waiting rest).spare]; rfl)]
      exact ((h.waiting rest).retireLane _).failPath _

/-- Settles O59: the spare's fault retires it and ends the move, and a fault move that waits retires its own lane. -/
theorem spareLaneFaultRetiresIt : Obligations.SpareLaneFaultRetiresIt := by
  unfold Obligations.SpareLaneFaultRetiresIt
  intro s c k hc hk hspare hnot hpos
  have h := (laneGone_spareLaneGone (s := s) (c := c) (k := k)).nextFault
  refine ⟨_, exec_laneFault_of_spare hc hk hspare hnot hpos, h.retired, h.nv, h.spare, fun hmove => ⟨h.move, ?_⟩, fun hmove => ?_, h.map, h.other⟩
  · rw [h.result, if_neg hmove]
  · rw [h.result, if_pos hmove]

/-! ## Lanes that serve a position (R600, R603) -/

section Position

variable {pos : Nat} (hc : c < 8) (hk : k < 9) (hnot : k ∉ (s.lanes c).retired) (hpos : positionOf s c k = some pos)
include hc hk hnot hpos

theorem exec_laneFault_of_no_spare (hspare : (s.lanes c).spare = none) :
    exec (.laneFault c k) s = .next (failPath (retireLane (raise s 250 c pos) c k) (8 * c + pos)) := by
  rw [exec_laneFault, execLaneFault, if_pos ⟨hc, hk⟩, laneFault]
  dsimp only
  rw [if_neg hnot, hpos]
  dsimp only
  rw [if_pos (Option.isNone_iff_eq_none.2 hspare)]

/-- The position's lane is faulty from now on. -/
def positionFaulty (s : State) (c pos : Nat) : State :=
  let s1 := raise s 250 c pos
  markOn { s1 with svc := { s1.svc with faulty := if (c, pos) ∈ s1.svc.faulty then s1.svc.faulty else s1.svc.faulty ++ [(c, pos)] } }
    (markKey 8 (8 * c + pos))

theorem exec_laneFault_of_moving (hspare : (s.lanes c).spare = some sp) (hmove : (s.lanes c).move ≠ 0) (hother : (s.lanes c).pos ≠ pos) :
    exec (.laneFault c k) s =
      .next ((positionFaulty s c pos).setLanes c { s.lanes c with waiting := (s.lanes c).waiting ++ [pos] }) := by
  rw [exec_laneFault, execLaneFault, if_pos ⟨hc, hk⟩, laneFault]
  dsimp only
  rw [if_neg hnot, hpos]
  dsimp only
  rw [if_neg (fun h => by rw [hspare] at h; cases h), if_neg (fun h => hmove h.1), if_neg (fun h => hother h.2)]
  rfl

end Position

theorem positionOf_lt {pos : Nat} (h : positionOf s c k = some pos) : pos < 8 := by
  rw [positionOf] at h
  exact List.mem_range.1 (List.mem_of_find?_eq_some h)

/-- After it fails, or has failed before, a path's flag stands. -/
theorem failPath_failed {p : Nat} (hp : p < 64) : ((failPath s p).pathFe p).failed = true := by
  by_cases h : (s.pathFe p).failed = true
  · rwa [failPath, if_neg (fun hn => hn.2 h)]
  · exact (failPath_of_sound hp (eq_false_of_ne_true h)).1

theorem mem_positionFaulty (pos : Nat) : (c, pos) ∈ (positionFaulty s c pos).svc.faulty := by
  rw [positionFaulty, (markOn_same _ (Nat.and_self _) (Same.refl _ _)).but.svc (by decide)]
  dsimp only
  split
  next h => exact h
  · exact List.mem_append_right _ (List.mem_singleton.2 rfl)

theorem fires_positionFaulty (pos : Nat) : Fires (positionFaulty s c pos) 250 :=
  (fires_raise (s := s) 250 c pos).of_evt ((markOn_same _ (Nat.and_self _) (Same.refl _ _)).but.evt (by decide))

/-! ## Engines retire, and spares take over (R606 to R608) -/

theorem foldl_jobEnded_oneEngine (l : List Job) (h : OneEngine e s t) :
    OneEngine e s (l.foldl (fun s j => jobEnded s e j 0x88) t) := by
  induction l generalizing t with
  | nil => exact h
  | cons j l ih => exact ih (h.trans (jobEnded_oneEngine ..))

theorem abortJobs_oneEngine (s : State) (e : Nat) : OneEngine e s (abortJobs s e) :=
  (foldl_jobEnded_oneEngine _ (endJob_oneEngine ..)).trans (setEng_oneEngine ..)

/-- The engine's jobs end, and it is RETIRED. -/
def engineGone (s : State) (e : Nat) : State :=
  let s3 := (abortJobs s e).setEng e { (abortJobs s e).eng e with st := .retired }
  { s3 with nv := { s3.nv with engRetired := setIns e s3.nv.engRetired } }

theorem engineGone_st : ((engineGone s e).eng e).st = .retired := congrArg Eng.st (eng_setEng ..)

theorem engineGone_svc : (engineGone s e).svc = s.svc := by
  rw [engineGone]
  dsimp only
  rw [setEng_svc, (abortJobs_same e (Nat.and_self _) (Same.refl _ s)).but.svc (by decide)]

theorem mem_engineGone_engRetired : e ∈ (engineGone s e).nv.engRetired := mem_setIns.2 (.inl rfl)

/-- The engines that are SPARE stay, and the one that retires is none of them. -/
theorem engineGone_spare (hnot : (s.eng e).st ≠ .spare) (i : Nat) : ((engineGone s e).eng i).st = .spare ↔ (s.eng i).st = .spare := by
  by_cases hi : i = e
  · rw [hi, engineGone_st]
    exact iff_of_false (by decide) hnot
  · have hother : (engineGone s e).eng i = s.eng i := (eng_setEng_other _ _ hi).trans ((abortJobs_oneEngine s e).others i hi)
    rw [hother]

/-- The spare that will take over is named (R606, R607). -/
def spareNamed (s : State) (e sp : Nat) (byCommand : Bool) : State :=
  { raise (engineGone s e) 251 e sp with
    svc := { (engineGone s e).svc with takeover := (engineGone s e).svc.takeover ++ [(e, byCommand)] } }

theorem spareNamed_leaves (byCommand : Bool) : ((spareNamed s e sp byCommand).eng e).st = .retired ∧
    e ∈ (spareNamed s e sp byCommand).nv.engRetired ∧ (spareNamed s e sp byCommand).svc.takeover = s.svc.takeover ++ [(e, byCommand)] ∧
      Fires (spareNamed s e sp byCommand) 251 := by
  have heng : (spareNamed s e sp byCommand).eng e = (engineGone s e).eng e := eng_of_ge (by simp only [spareNamed, raise_ge]) e
  have hnv : (spareNamed s e sp byCommand).nv = (engineGone s e).nv := by simp only [spareNamed, raise_nv]
  rw [heng, hnv]
  refine ⟨engineGone_st, mem_engineGone_engRetired, ?_, Fires.of_evt (fires_raise (s := engineGone s e) 251 e sp) (by simp only [spareNamed])⟩
  rw [spareNamed]
  dsimp only
  rw [engineGone_svc]

/-- With no spare left admission repeats (R82, R609). -/
def noneNamed (s : State) (e : Nat) : State := readmit (raise (engineGone s e) 251 e NA)

theorem noneNamed_leaves : ((noneNamed s e).eng e).st = .retired ∧ (noneNamed s e).svc = s.svc ∧ e ∈ (noneNamed s e).nv.engRetired ∧
    (noneNamed s e).adm.again = true ∧ Fires (noneNamed s e) 251 := by
  have heng : (noneNamed s e).eng e = (engineGone s e).eng e := eng_of_ge (by simp only [noneNamed, readmit, raise_ge]) e
  have hnv : (noneNamed s e).nv = (engineGone s e).nv := by simp only [noneNamed, readmit, raise_nv]
  have hsvc : (noneNamed s e).svc = (engineGone s e).svc := by simp only [noneNamed, readmit, raise_svc]
  rw [heng, hnv, hsvc]
  exact ⟨engineGone_st, engineGone_svc, mem_engineGone_engRetired, rfl, Fires.of_evt (fires_raise (s := engineGone s e) 251 e NA) (by simp only [noneNamed, readmit])⟩

/-- The spare that is named, if any is left (R606, R607, R609). -/
theorem retireEngine_eq {byCommand : Bool} (he : e < 18) (hst : (s.eng e).st = .idle ∨ (s.eng e).st = .running)
    (hmay : byCommand = true → s.ctl.fwRuns = true) : retireEngine s e byCommand =
      match (List.range 18).find? (fun i => (s.eng i).st = .spare) with
      | some sp => spareNamed s e sp byCommand
      | none => noneNamed s e := by
  have hne (x : EngSt) (h1 : x ≠ .idle) (h2 : x ≠ .running) : (s.eng e).st ≠ x :=
    fun h => hst.elim (fun h3 => h1 (h.symm.trans h3)) (fun h3 => h2 (h.symm.trans h3))
  have hfind : (List.range 18).find? (fun i => decide (((engineGone s e).eng i).st = .spare)) =
      (List.range 18).find? (fun i => decide ((s.eng i).st = .spare)) :=
    congrArg (fun p => List.find? p _) (funext fun i => decide_eq_decide.2 (engineGone_spare (hne .spare (by decide) (by decide)) i))
  unfold retireEngine
  dsimp only
  rw [if_pos ⟨he, hne .retired (by decide) (by decide), hmay⟩,
    if_neg (not_or.2 ⟨hne .spare (by decide) (by decide), fun h => hne .halted (by decide) (by decide) h.1⟩), ← hfind]
  rfl

/-- A spare's use leaves the take-overs that wait. -/
theorem spareUsed_takeover (kind i : Nat) : (spareUsed s kind i).svc.takeover = s.svc.takeover := by
  have hcease (l : List (Nat × Nat × Nat)) (u : State) :
      (l.foldl (fun s c => condOff s c.1 c.2.1 c.2.2) u).svc = u.svc :=
    (same_foldl (fun _ x h => condOff_same x.1 x.2.1 x.2.2 (Nat.and_self _) h) (Same.refl _ u)).but.svc (by decide)
  unfold spareUsed checkForecast
  dsimp only
  split_ifs <;> simp only [(condOn_same _ _ _ (Nat.and_self _) (Same.refl _ _)).but.svc (by decide), hcease, raise_svc]

/-- The lowest SPARE engine is IDLE in the place of the retired one, whose releases it has. -/
theorem spareTakesOver_of_spare {byCommand : Bool} (hsp : (List.range 18).find? (fun i => (s.eng i).st = .spare) = some sp) (hne : e ≠ sp) :
    ((spareTakesOver s e byCommand).eng sp).st = .idle ∧ ((spareTakesOver s e byCommand).eng sp).rels = (s.eng e).rels ∧
      ((spareTakesOver s e byCommand).eng e).rels = [] ∧ (spareTakesOver s e byCommand).engNumber sp = s.engNumber e ∧
      ∀ x ∈ (spareTakesOver s e byCommand).svc.takeover, x.1 ≠ e := by
  have hused (u : State) : (spareUsed u 7 sp).ge = u.ge := (spareUsed_same 7 sp (Nat.and_self _) (Same.refl _ u)).but.ge (by decide)
  have heng (u : State) (i : Nat) : (spareUsed u 7 sp).eng i = u.eng i := eng_of_ge (hused u) i
  have hnumber (u : State) (i : Nat) : (spareUsed u 7 sp).engNumber i = u.engNumber i := by
    rw [State.engNumber, hused, State.engNumber]
  unfold spareTakesOver
  rw [hsp]
  dsimp only
  simp only [heng, hnumber, spareUsed_takeover]
  have hge (u : State) (x : Sparse Nat) (y : Svc) (i : Nat) : State.eng { u with ge := { u.ge with number := x }, svc := y } i = u.eng i := rfl
  simp only [hge, eng_setEng, eng_setEng_other _ _ hne.symm]
  refine ⟨trivial, trivial, trivial, ?_, fun x hx => of_decide_eq_true (List.mem_filter.1 hx).2⟩
  rw [State.engNumber]
  dsimp only
  rw [spGet_spPut_same, if_neg (Nat.succ_ne_zero _), Nat.add_sub_cancel]

/-! ## The mover, hours and the NV store (R610, R611, R620, R623, R624) -/

/-- Forecasts leave the hours, and the tick of the last. -/
theorem foldl_checkForecast_leaves (l : List Nat) : (l.foldl checkForecast s).nv = s.nv ∧ (l.foldl checkForecast s).svc.hourAt = s.svc.hourAt := by
  refine ⟨(same_foldl (fun _ x h => checkForecast_same x (Nat.and_self _) h) (Same.refl _ s)).but.nv (by decide), ?_⟩
  have hcease (l : List (Nat × Nat × Nat)) (u : State) :
      (l.foldl (fun s c => condOff s c.1 c.2.1 c.2.2) u).svc = u.svc :=
    (same_foldl (fun _ x h => condOff_same x.1 x.2.1 x.2.2 (Nat.and_self _) h) (Same.refl _ u)).but.svc (by decide)
  have hone (u : State) (x : Nat) : (checkForecast u x).svc.hourAt = u.svc.hourAt := by
    unfold checkForecast
    dsimp only
    split_ifs <;> simp only [(condOn_same _ _ _ (Nat.and_self _) (Same.refl _ _)).but.svc (by decide), hcease]
  induction l generalizing s with
  | nil => rfl
  | cons x l ih => rw [List.foldl_cons, ih, hone]

theorem moverFallback_leaves : (moverFallback s).svc = s.svc ∧ (moverFallback s).clk = s.clk :=
  have h := (moverFallback_same (Nat.and_self _) (Same.refl _ s)).but
  ⟨h.svc (by decide), h.clk (by decide)⟩

theorem fires_moverFallback : Fires (moverFallback s) 175 := fires_raise ..

/-- The state after word writes of which the last passed its verify. -/
def wordsWritten (s : State) (kind : Nat) (l : List Nat) : State :=
  let s1 := l.foldl (fun s w => nvCount s w kind) s
  { s1 with nv := { s1.nv with badWords := l.dropLast.foldl (fun m w => setIns w m) s1.nv.badWords } }

theorem exec_nvWordWrite_of_good {l : List Nat} (hl : ∀ w ∈ l, w < nvWords ∧ w ∉ s.nv.badWords) (kind : Nat) :
    exec (.nvWordWrite kind l true) s = .next (if wearStep s.nvLife < wearStep (wordsWritten s kind l).nvLife then
      raise (wordsWritten s kind l) 245 (wordsWritten s kind l).nvLife NA else wordsWritten s kind l) := by
  have hgood : l.filter (fun w => w < nvWords ∧ w ∉ s.nv.badWords) = l := List.filter_eq_self.2 fun w hw => decide_eq_true (hl w hw)
  rw [exec_nvWordWrite, execNvWordWrite]
  dsimp only
  rw [hgood]
  rfl

theorem ite_raise_nv (c : Prop) [Decidable c] (n a b : Nat) : (if c then raise s n a b else s).nv = s.nv := by
  split
  · exact raise_nv ..
  · rfl

/-! ## The commands -/

theorem completes_mainMoverParity (hmain : s.mem.mainMover = 0) : Completes .mainMoverParity s fun t =>
    t.mem.mainMover = (if s.svc.moverAt ≠ 0 ∧ s.clk.elapsed + 1 < s.svc.moverAt + 86400 * secTicks then 2 else 1) ∧
      t.svc.moverAt = s.clk.elapsed + 1 ∧ Fires t 175 := by
  obtain ⟨hsvc, hclk⟩ := moverFallback_leaves (s := s)
  rw [Completes, exec_mainMoverParity, execMainMoverParity, if_pos hmain]
  refine ⟨_, rfl, ?_, ?_, (fires_moverFallback (s := s)).of_evt rfl⟩
  · simp only [Bool.and_eq_true, decide_eq_true_eq]
  · dsimp only
    rw [hclk]

theorem completes_engineRetire_of_spare {tag : Nat} (he : e < 18) (hoff : s.regOff .geSvc [e] = false) (htag : s.tagDeviceOrD2 tag = true)
    (hfw : s.ctl.fwRuns = true) (hst : (s.eng e).st = .idle) (hsp : (List.range 18).find? (fun i => (s.eng i).st = .spare) = some sp) :
    Completes (.engineRetire e tag false) s fun t =>
      (t.eng e).st = .retired ∧ e ∈ t.nv.engRetired ∧ t.svc.takeover = s.svc.takeover ++ [(e, true)] ∧ Fires t 251 := by
  have h := retireEngine_eq (byCommand := true) he (.inl hst) (fun _ => hfw)
  rw [hsp] at h
  rw [Completes, exec_engineRetire, execEngineRetire, if_neg Bool.false_ne_true, tagged_of_may hoff htag]
  exact ⟨_, congrArg _ h, spareNamed_leaves true⟩

/-- The retirement that a second ECC fault calls for is taken up. -/
def eccTaken (s : State) (e : Nat) : State := { s with svc := { s.svc with eccDue := s.svc.eccDue.filter (· ≠ e) } }

theorem completes_engineRetire_ecc {tag : Nat} (he : e < 18) (hdue : e ∈ s.svc.eccDue) (hst : (s.eng e).st = .running)
    (hno : ∀ i < 18, (s.eng i).st ≠ .spare) : Completes (.engineRetire e tag true) s fun t =>
      (t.eng e).st = .retired ∧ e ∉ t.svc.eccDue ∧ e ∈ t.nv.engRetired ∧ t.adm.again = true ∧ Fires t 251 := by
  have hnone : (List.range 18).find? (fun i => decide ((s.eng i).st = .spare)) = none :=
    List.find?_eq_none.2 fun i hi => by simpa using hno i (List.mem_range.1 hi)
  have hgone := retireEngine_eq (s := eccTaken s e) (byCommand := false) he (.inr hst) (fun h => absurd h Bool.false_ne_true)
  rw [show (List.range 18).find? (fun i => decide (((eccTaken s e).eng i).st = .spare)) = none from hnone] at hgone
  rw [Completes, exec_engineRetire, execEngineRetire, if_pos rfl, if_pos hdue]
  obtain ⟨hretired, hsvc, hnv, hagain, hfires⟩ := noneNamed_leaves (s := eccTaken s e) (e := e)
  refine ⟨_, congrArg _ hgone, hretired, ?_, hnv, hagain, hfires⟩
  dsimp only
  rw [hsvc]
  exact fun h => of_decide_eq_true (List.mem_filter.1 h).2 rfl

theorem completes_poweredHour (hdepth : s.pwr.depth ≤ 2) : Completes .poweredHour s fun t =>
    t.nv.hours = s.nv.hours + 1 ∧ t.svc.hourAt = max s.clk.elapsed (s.svc.hourAt + 3600 * secTicks) := by
  rw [Completes, exec_poweredHour, execPoweredHour, if_pos hdepth]
  refine ⟨_, rfl, ?_, ?_⟩
  · rw [(foldl_checkForecast_leaves _).1]
    exact congrArg (· + 1) (congrArg Nv.hours ((reachElapsed_same _ (Nat.and_self _) (Same.refl _ s)).but.nv (by decide)))
  · rw [(foldl_checkForecast_leaves _).2]
    exact reachElapsed_elapsed _

theorem b2n_decide (p : Prop) [Decidable p] : b2n (decide p) = if p then 1 else 0 := by
  unfold b2n
  simp only [decide_eq_true_eq]

theorem completes_nvWordWrite_one {kind w : Nat} (hw : w < nvWords) (hgood : w ∉ s.nv.badWords) : Completes (.nvWordWrite kind [w] true) s fun t =>
    t.nv.wTotal = s.nv.wTotal + 1 ∧ t.nv.wStore = s.nv.wStore + (if kind = 0 then 1 else 0) ∧
      t.nv.wLearn = s.nv.wLearn + (if kind = 1 then 1 else 0) ∧ t.nv.wOther = s.nv.wOther + (if 1 < kind then 1 else 0) ∧
      spGet 0 t.nv.words w = spGet 0 s.nv.words w + 1 ∧ t.nv.badWords = s.nv.badWords ∧ (wearStep s.nvLife < wearStep t.nvLife → Fires t 245) := by
  refine ⟨_, exec_nvWordWrite_of_good (fun x hx => by rw [List.mem_singleton.1 hx]; exact ⟨hw, hgood⟩) kind, ?_⟩
  dsimp only
  rw [ite_raise_nv]
  refine ⟨rfl, ?_, ?_, ?_, spGet_spMod_same 0 s.nv.words w (· + 1), rfl, fun hwear => ?_⟩
  · simp only [wordsWritten, List.foldl_cons, List.foldl_nil, nvCount, b2n_decide]
  · simp only [wordsWritten, List.foldl_cons, List.foldl_nil, nvCount, b2n_decide]
  · simp only [wordsWritten, List.foldl_cons, List.foldl_nil, nvCount, b2n_decide]
  · have hlife : (if wearStep s.nvLife < wearStep (wordsWritten s kind [w]).nvLife then
        raise (wordsWritten s kind [w]) 245 (wordsWritten s kind [w]).nvLife NA else wordsWritten s kind [w]).nvLife =
          (wordsWritten s kind [w]).nvLife := by
      rw [State.nvLife, State.nvHighest, ite_raise_nv, State.nvLife, State.nvHighest]
    rw [hlife] at hwear
    rw [if_pos hwear]
    exact fires_raise ..

theorem completes_nvWordWrite_two {kind w v : Nat} (hw : w < nvWords) (hv : v < nvWords) (hne : w ≠ v) (hgood : w ∉ s.nv.badWords)
    (hgood' : v ∉ s.nv.badWords) : Completes (.nvWordWrite kind [w, v] true) s fun t =>
      t.nv.wTotal = s.nv.wTotal + 2 ∧ w ∈ t.nv.badWords ∧ v ∉ t.nv.badWords ∧ spGet 0 t.nv.words v = spGet 0 s.nv.words v + 1 := by
  refine ⟨_, exec_nvWordWrite_of_good (l := [w, v]) (fun x hx => ?_) kind, ?_⟩
  · rcases List.mem_pair.1 hx with rfl | rfl
    · exact ⟨hw, hgood⟩
    · exact ⟨hv, hgood'⟩
  dsimp only
  rw [ite_raise_nv]
  refine ⟨rfl, mem_setIns.2 (.inl rfl), fun h => ?_, ?_⟩
  · exact (mem_setIns.1 h).elim (fun h => hne h.symm) hgood'
  · show spGet 0 (spMod 0 (spMod 0 s.nv.words w (· + 1)) v (· + 1)) v = _
    rw [spGet_spMod_same, spMod, spGet_spPut_other _ _ _ _ hne.symm]

/-! ## The obligation -/

/-- Settles O57: the mover and the NV store by what their commands write, lanes by the branches of a fault, engines by what retires or takes over. -/
theorem spareCommandsComplete : Obligations.SpareCommandsComplete := by
  unfold Obligations.SpareCommandsComplete
  refine ⟨fun s hmain => ?parity, fun s hmain hsplit => ?restored, fun s hmain => ?failed, fun s hmain hsplit => ?waits,
    fun s c k pos hc hk hnot hpos hspare => ?lane, fun s c k pos sp hc hk hnot hpos hspare hmove hother => ?moving,
    fun s c k hc hk hnot hpos hspare => ?spare, fun s e tag sp he hoff htag hfw hst hq hr hy hj hsp => ?retire,
    fun s e tag hoff htag => ?refused, fun s e tag he hdue hst hno => ?ecc, fun s e by_ sp hfind hsp hne => ?takeover,
    fun s hdepth => ?hour, fun s kind w hw hgood => ?word, fun s kind w v hw hv hne hgood hgood' => ?words⟩
  case parity => exact completes_mainMoverParity hmain
  case restored =>
    rw [Completes, exec_dmaMainRestored, execDmaMainRestored, if_neg (not_not_intro hmain), if_neg (not_not_intro rfl),
      if_neg (by rw [hsplit]; exact Bool.false_ne_true)]
    exact ⟨_, rfl, congrArg Mem.mainMover (raise_mem ..), fires_raise ..⟩
  case failed =>
    rw [Completes, exec_dmaMainRestored, execDmaMainRestored, if_neg (not_not_intro hmain), if_pos Bool.false_ne_true]
    exact ⟨_, rfl, rfl⟩
  case waits =>
    rw [Completes, exec_dmaMainRestored, execDmaMainRestored, if_neg (not_not_intro hmain), if_neg (not_not_intro rfl), if_pos hsplit]
    exact ⟨_, rfl, rfl⟩
  case lane =>
    refine ⟨_, exec_laneFault_of_no_spare hc hk hnot hpos hspare, ?_, failPath_failed ?_, ((fires_raise ..).retireLane ..).failPath _⟩
    · rw [lanes_of_rx ((failPath_same _ (Nat.and_self _) (Same.refl _ _)).but.rx (by decide)), retireLane_lanes]
      exact mem_setIns.2 (.inl rfl)
    · have := positionOf_lt hpos
      omega
  case moving =>
    refine ⟨_, exec_laneFault_of_moving hc hk hnot hpos hspare hmove hother, ?_, ?_, (fires_positionFaulty pos).of_evt (setLanes_evt ..)⟩
    · rw [setLanes_svc]
      exact mem_positionFaulty pos
    · rw [lanes_setLanes]
  case spare =>
    have h := (laneGone_spareLaneGone (s := s) (c := c) (k := k)).nextFault
    refine ⟨_, exec_laneFault_of_spare hc hk hspare hnot hpos, h.spare, h.move, h.retired, (fires_spareLaneGone k).nextFault c⟩
  case retire => exact completes_engineRetire_of_spare he hoff htag hfw hst hsp
  case refused =>
    rw [Completes, exec_engineRetire, execEngineRetire, if_neg Bool.false_ne_true, tagged_of_may_not hoff htag]
    exact ⟨_, rfl, raise_ge .., raise_nv .., fires_raise ..⟩
  case ecc => exact completes_engineRetire_ecc he hdue hst hno
  case takeover =>
    rw [Completes, exec_engineSpareTakeover, execEngineSpareTakeover, hfind]
    exact ⟨_, rfl, spareTakesOver_of_spare hsp hne⟩
  case hour => exact completes_poweredHour hdepth
  case word => exact completes_nvWordWrite_one hw hgood
  case words => exact completes_nvWordWrite_two hw hv hne hgood hgood'

end Sys2Proof.Machine
end

section
/-!
Slot boundaries of the reference numerology, and the hand-over of policy firmware (R613 to R617): the settlement of O58.
-/

namespace Sys2Proof.Machine

set_option Elab.async false

variable {s t : State} {p slot : Nat}

/-! ## Slot boundaries (R40, R41) -/

/-- Positions in parts of a frame add up. -/
theorem framePos_add_mod (ofs n d : Nat) {k : Nat} (hk : k ∣ frameTicks) : framePos ofs (n + d) % k = (framePos ofs n % k + d) % k := by
  unfold framePos
  rw [Nat.mod_mod_of_dvd _ hk, Nat.mod_mod_of_dvd _ hk, Nat.mod_add_mod]
  congr 1
  have : ofs % frameTicks < frameTicks := Nat.mod_lt _ (by decide)
  omega

/-- A position in half a subframe starts a slot. -/
def slotAt (mu : Nat) (ecp : Bool) (h : Nat) : Bool :=
  match symAt mu ecp h with
  | some k => k % symsPerSlot ecp = 0
  | none => false

theorem isSlot_eq (ofs : Nat) {mu : Nat} (hmu : mu ≠ 0) (ecp : Bool) (n : Nat) :
    isSlot ofs mu ecp n = slotAt mu ecp (framePos ofs n % halfTicks) := by
  rw [isSlot, if_neg hmu]
  rfl

theorem slotAt_zero (mu : Nat) (ecp : Bool) : slotAt mu ecp 0 = true := by cases ecp <;> simp [slotAt, symAt]

/-- Slots of an extended CP are 122,880 ticks long. -/
theorem slotAt_ecp (mu h : Nat) : slotAt mu true ((h + (ceilDiv h 122880 * 122880 - h)) % 245760) = true := by
  have hpos : (h + (ceilDiv h 122880 * 122880 - h)) % 245760 = 0 ∨ (h + (ceilDiv h 122880 * 122880 - h)) % 245760 = 122880 := by
    unfold ceilDiv
    rw [if_neg (by decide)]
    omega
  rcases hpos with h0 | h0
  · rw [h0, slotAt_zero]
  · rw [h0]
    simp [slotAt, symAt, symsPerSlot]

/-- Slots of a normal CP are 14 symbols long, the first of half a subframe 256 ticks longer. -/
theorem slotAt_normal {mu m : Nat} (hmu : mu = 1 ∧ m = 1 ∨ mu = 2 ∧ (m = 1 ∨ m = 2) ∨ mu = 3 ∧ (m = 1 ∨ m = 2 ∨ m = 3 ∨ m = 4)) :
    slotAt mu false ((256 + m * (14 * symTicks mu false)) % 245760) = true := by
  rcases hmu with ⟨rfl, rfl⟩ | ⟨rfl, rfl | rfl⟩ | ⟨rfl, rfl | rfl | rfl | rfl⟩ <;> simp [slotAt, symAt, symsPerSlot, symTicks]

/-- The slots of half a subframe that are left from a position. -/
theorem slotsLeft_cases {mu h : Nat} (hmu : mu = 1 ∨ mu = 2 ∨ mu = 3) (hh : h < 245760) :
    h ≤ 256 + max 1 (ceilDiv (h - 256) (14 * symTicks mu false)) * (14 * symTicks mu false) ∧
      (mu = 1 ∧ max 1 (ceilDiv (h - 256) (14 * symTicks mu false)) = 1 ∨
        mu = 2 ∧ (max 1 (ceilDiv (h - 256) (14 * symTicks mu false)) = 1 ∨ max 1 (ceilDiv (h - 256) (14 * symTicks mu false)) = 2) ∨
        mu = 3 ∧ (max 1 (ceilDiv (h - 256) (14 * symTicks mu false)) = 1 ∨ max 1 (ceilDiv (h - 256) (14 * symTicks mu false)) = 2 ∨
          max 1 (ceilDiv (h - 256) (14 * symTicks mu false)) = 3 ∨ max 1 (ceilDiv (h - 256) (14 * symTicks mu false)) = 4)) := by
  have hq (d k : Nat) (hd : 0 < d) (hk : h - 256 ≤ k * d) : h - 256 ≤ ceilDiv (h - 256) d * d ∧ ceilDiv (h - 256) d ≤ k := by
    refine ⟨le_ceilDiv_mul hd _, ?_⟩
    rw [ceilDiv, if_neg (by omega)]
    refine Nat.le_of_lt_succ ((Nat.div_lt_iff_lt_mul hd).2 ?_)
    rw [Nat.succ_mul]
    omega
  rcases hmu with rfl | rfl | rfl
  · have hs := hq 245504 1 (by decide) (by omega)
    rw [show 14 * symTicks 1 false = 245504 from rfl]
    generalize ceilDiv (h - 256) 245504 = q at *
    omega
  · have hs := hq 122752 2 (by decide) (by omega)
    rw [show 14 * symTicks 2 false = 122752 from rfl]
    generalize ceilDiv (h - 256) 122752 = q at *
    omega
  · have hs := hq 61376 4 (by decide) (by omega)
    rw [show 14 * symTicks 3 false = 61376 from rfl]
    generalize ceilDiv (h - 256) 61376 = q at *
    omega

/-- The first slot boundary at or after a tick is one. -/
theorem isSlot_nextSlot (ofs n : Nat) {mu : Nat} (hmu : mu < 4) (ecp : Bool) : isSlot ofs mu ecp (nextSlot ofs mu ecp n) = true := by
  by_cases h0 : mu = 0
  · subst h0
    rw [isSlot, if_pos rfl, nextSlot, if_pos rfl]
    dsimp only
    rw [framePos_add_mod _ _ _ ⟨10, rfl⟩, ceilDiv, if_neg (by decide), decide_eq_true_eq]
    omega
  rw [isSlot_eq _ h0, nextSlot, if_neg h0]
  dsimp only
  cases ecp with
  | true =>
    rw [if_pos rfl, framePos_add_mod _ _ _ ⟨20, rfl⟩]
    exact slotAt_ecp mu _
  | false =>
    rw [if_neg Bool.false_ne_true]
    split
    next hzero => rw [hzero, slotAt_zero]
    next hpos =>
      obtain ⟨hle, hm⟩ := slotsLeft_cases (mu := mu) (by omega) (Nat.mod_lt (framePos ofs n) (show 0 < 245760 by decide))
      rw [framePos_add_mod _ _ _ ⟨20, rfl⟩, show halfTicks = 245760 from rfl, Nat.add_sub_cancel' hle]
      exact slotAt_normal hm

theorem le_nextSlot (ofs mu : Nat) (ecp : Bool) (n : Nat) : n ≤ nextSlot ofs mu ecp n := by
  unfold nextSlot
  dsimp only
  split_ifs <;> omega

theorem isSlot_toSlot (key inst : Nat) : isSlot s.frameOfs s.refMu s.refEcp (toSlot s key inst).clk.count = true := by
  obtain ⟨n, hn⟩ := toBoundary_count (s := s) (le_nextSlot s.frameOfs s.refMu s.refEcp) key inst
  rw [toSlot, hn]
  exact isSlot_nextSlot _ _ (Nat.mod_lt _ (by decide)) _

/-! ## The fields of CTL_FW_STAT -/

/-- The fields of CTL_FW_STAT and CTL_FW_SIG that the hand-over's writes leave, and those they set. -/
theorem ho_setHo (v : Nat) : (s.setHo v).ho = v % 8 := rf_wf _ _ _ _ _ _ (by decide) (by decide)

theorem rf_setHo (v hi lo : Nat) (hlo : lo ≤ hi) (hw : hi < 32) (hap : hi < 5 ∨ 7 < lo) :
    rf (s.setHo v) .ctlFwStat [] hi lo = rf s .ctlFwStat [] hi lo := rf_wf_apart _ _ _ _ _ _ _ _ (by decide) hw hap hlo

theorem rf_setHoResult (v hi lo : Nat) (hlo : lo ≤ hi) (hw : hi < 32) (hap : hi < 8 ∨ 11 < lo) :
    rf (s.setHoResult v) .ctlFwStat [] hi lo = rf s .ctlFwStat [] hi lo := rf_wf_apart _ _ _ _ _ _ _ _ (by decide) hw hap hlo

theorem rf_setStandby (v hi lo : Nat) (hlo : lo ≤ hi) (hw : hi < 32) (hap : hi < 2 ∨ 4 < lo) :
    rf (s.setStandby v) .ctlFwStat [] hi lo = rf s .ctlFwStat [] hi lo := rf_wf_apart _ _ _ _ _ _ _ _ (by decide) hw hap hlo

theorem result_setHoResult (v : Nat) : rf (s.setHoResult v) .ctlFwStat [] 11 8 = v % 16 := rf_wf _ _ _ _ _ _ (by decide) (by decide)

theorem standby_setStandby (v : Nat) : (s.setStandby v).standby = v % 8 := rf_wf _ _ _ _ _ _ (by decide) (by decide)

/-- An operation that changes neither register leaves them. -/
theorem rf_of_same {ps : List Part} {ids : List RegId} (h : SameBut ps ids s t) (hr : .regs ∉ ps) (hs : .straps ∉ ps) {id : RegId} {ix : List Nat}
    (ha : ∀ id' ∈ ids, ∀ ix', regAddr id' ix' ≠ regAddr id ix) (hi lo : Nat) : rf t id ix hi lo = rf s id ix hi lo := by
  rw [rf, h.rd_eq hr hs ha, rf]

/-! ## The standby image (R582, R613) -/

theorem exec_standbyImageWrite_of_manages {role : Role} (hrole : Manages role) (image : List Byte) :
    exec (.standbyImageWrite role image) s = .next (answer (standbyImage s image)) := by
  rw [exec_standbyImageWrite, execStandbyImageWrite]
  rcases hrole with rfl | rfl <;> rfl

/-- An image that is accepted lies in the standby slot, and the standby pair boots it. -/
theorem standbyImage_of_accepted {image : List Byte} (hho : s.ho = 0) (hcheck : imageCheck s 2 image = 0x10)
    (hfits : imageFits (1 - s.activeSlot) image = true) : standbyImage s image =
      (0x10, ((loadImage (flashWrite s 4 (1 - s.activeSlot) image) image).setPair
        (1 - (loadImage (flashWrite s 4 (1 - s.activeSlot) image) image).ctl.active) false false).setStandby 2) := by
  unfold standbyImage
  dsimp only
  rw [if_neg (not_not_intro hho), if_neg (not_not_intro hcheck), if_neg (not_not_intro hfits)]

theorem setPair_nv (p : Nat) (a b : Bool) : (s.setPair p a b).nv = s.nv := by
  unfold State.setPair
  split <;> rfl

theorem loadImage_nv (b : List Byte) : (loadImage s b).nv = s.nv := (loadImage_same b (Nat.and_self _) (Same.refl _ s)).but.nv (by decide)

theorem flashWrite_flash (hslot : slot < 2) (b : List Byte) : spGet [] (flashWrite s 4 slot b).nv.flash (2 + slot) = b := by
  rw [flashWrite, if_neg (by decide), if_pos hslot]
  exact spGet_spPut_same ..

theorem emit_out (m : OutMsg) : (emit s m).out = s.out ++ [m] := rfl

/-- A result code is sent, and nothing else changes. -/
theorem answer_leaves (x : Nat × State) : (answer x).out = x.2.out ++ [.result x.1 []] ∧ (answer x).nv = x.2.nv ∧ (answer x).evt = x.2.evt ∧
    (answer x).standby = x.2.standby := ⟨rfl, rfl, rfl, rfl⟩

/-- The image, the pair and the slot of an accepted image are no message. -/
theorem standbyImage_out (image : List Byte) : (standbyImage s image).2.out = s.out :=
  (standbyImage_same image (Nat.and_self _) (Same.refl _ s)).but.out (by decide)

theorem completes_standbyImageWrite {role : Role} (hrole : Manages role) (hho : s.ho = 0) (image : List Byte) :
    Completes (.standbyImageWrite role image) s fun t =>
      (imageCheck s 2 image = 0x10 → imageFits (1 - s.activeSlot) image = true →
        t.standby = 2 ∧ spGet [] t.nv.flash (2 + (1 - s.activeSlot)) = image ∧ t.out = s.out ++ [.result 0x10 []]) ∧
      (imageCheck s 2 image = 0x10 → imageFits (1 - s.activeSlot) image = false → t.nv = s.nv ∧ t.out = s.out ++ [.result 0x13 []]) ∧
      (imageCheck s 2 image ≠ 0x10 → t.nv = s.nv ∧ t.out = s.out ++ [.result (imageCheck s 2 image) []] ∧ Fires t 234) := by
  refine ⟨_, exec_standbyImageWrite_of_manages hrole image, fun hcheck hfits => ?_, fun hcheck hfits => ?_, fun hcheck => ?_⟩
  · obtain ⟨hout, hnv, -, hstandby⟩ := answer_leaves (standbyImage s image)
    rw [hout, hnv, hstandby, standbyImage_out, standbyImage_of_accepted hho hcheck hfits]
    refine ⟨standby_setStandby 2, ?_, rfl⟩
    rw [State.setStandby, wf_nv, setPair_nv, loadImage_nv, flashWrite_flash (by omega)]
  · have heq : standbyImage s image = (0x13, s) := by
      unfold standbyImage
      dsimp only
      rw [if_neg (not_not_intro hho), if_neg (not_not_intro hcheck), if_pos (by rw [hfits]; exact Bool.false_ne_true)]
    rw [heq]
    exact ⟨rfl, rfl⟩
  · have heq : standbyImage s image = (imageCheck s 2 image, raise s 234 2 NA) := by
      unfold standbyImage
      dsimp only
      rw [if_neg (not_not_intro hho), if_pos hcheck]
    obtain ⟨hout, hnv, hevt, -⟩ := answer_leaves (standbyImage s image)
    rw [hout, hnv, standbyImage_out]
    rw [heq] at hevt ⊢
    exact ⟨raise_nv .., rfl, Fires.of_evt (fires_raise (s := s) 234 2 NA) hevt⟩

/-! ## Firmware's signals (R613, R615, R616, R625) -/

/-- A pair that runs writes one bit of CTL_FW_SIG. -/
theorem fwSignal_ready (hstop : s.pairStopped p = false) : fwSignal s (.pair p) 4 1 =
    if p = s.ctl.active then firewall (fwReady s p) 4 else fwReady s p := by
  simp [fwSignal, hstop, bitOf]

theorem fwSignal_saved (hstop : s.pairStopped p = false) : fwSignal s (.pair p) 4 2 =
    if p = s.ctl.active then fwSaved s p else firewall (fwSaved s p) 4 := by
  unfold fwSignal
  dsimp only
  rw [if_neg (by rw [hstop]; exact Bool.false_ne_true)]
  by_cases h : p = s.ctl.active <;> simp [bitOf, h]

theorem fwSignal_alive (hstop : s.pairStopped p = false) : fwSignal s (.pair p) 4 4 =
    if p = s.ctl.active then fwAlive s p else firewall (fwAlive s p) 4 := by
  unfold fwSignal
  dsimp only
  rw [if_neg (by rw [hstop]; exact Bool.false_ne_true)]
  by_cases h : p = s.ctl.active <;> simp [bitOf, h]

theorem pairStopped_setPair (a b : Bool) : (s.setPair p a b).pairStopped p = a ∧ (s.setPair p a b).pairVerified p = b := by
  unfold State.setPair State.pairStopped State.pairVerified
  by_cases h : p = 0 <;> simp [h]

theorem pairs_setPair_other {q : Nat} (hp : p < 2) (hq : q < 2) (hne : q ≠ p) (a b : Bool) :
    (s.setPair p a b).pairStopped q = s.pairStopped q ∧ (s.setPair p a b).pairVerified q = s.pairVerified q := by
  unfold State.setPair State.pairStopped State.pairVerified
  have hcase : p = 0 ∧ q = 1 ∨ p = 1 ∧ q = 0 := by omega
  rcases hcase with ⟨rfl, rfl⟩ | ⟨rfl, rfl⟩ <;> exact ⟨rfl, rfl⟩

theorem completes_fwStandbyReady (hactive : s.ctl.active < 2) (hp : p = 1 - s.ctl.active) (hstandby : s.standby = 2)
    (hstop : s.pairStopped p = false) :
    Completes (.fwStandbyReady p) s fun t => t.standby = 3 ∧ t.pairVerified p = true ∧ t.pairStopped p = false ∧ Fires t 246 := by
  have hready : fwReady s p = raise ((s.setStandby 3).setPair p false true) 246 (1 - s.activeSlot) NA := if_pos ⟨hp, hstandby⟩
  have hraised (u : State) (a : Nat) : (raise u 246 a NA).pairVerified p = u.pairVerified p ∧ (raise u 246 a NA).pairStopped p = u.pairStopped p := by
    simp only [State.pairVerified, State.pairStopped, raise_ctl, and_self]
  rw [Completes, exec_fwStandbyReady, execFwStandbyReady, if_pos (by omega), fwSignal_ready hstop, if_neg (by omega), hready]
  refine ⟨_, rfl, ?_, ?_, ?_, fires_raise ..⟩
  · rw [State.standby, rf, rd_raise (by decide)]
    have h : rd ((s.setStandby 3).setPair p false true) .ctlFwStat [] = rd (s.setStandby 3) .ctlFwStat [] := by
      unfold State.setPair
      split <;> rfl
    rw [h]
    exact standby_setStandby 3
  · rw [(hraised _ _).1, (pairStopped_setPair false true).2]
  · rw [(hraised _ _).2, (pairStopped_setPair false true).1]

/-- A write of a bit that R625 gives to the other pair is a firewall violation. -/
theorem completes_fwStandbyReady_refused (hp : p < 2) (hactive : p = s.ctl.active) (hstop : s.pairStopped p = false) :
    Completes (.fwStandbyReady p) s fun t => t.standby = s.standby ∧ Fires t 224 := by
  have hready : fwReady s p = s := if_neg (by omega)
  rw [Completes, exec_fwStandbyReady, execFwStandbyReady, if_pos hp, fwSignal_ready hstop, if_pos hactive, hready]
  refine ⟨_, rfl, ?_, fires_raise ..⟩
  rw [State.standby, rf, firewall, rd_raise (by decide)]
  rfl

theorem completes_fwSaved (hp : p < 2) (hactive : p = s.ctl.active) (hho : s.ho = 2) (hstop : s.pairStopped p = false) :
    Completes (.fwSaved p) s fun t => rbit t .ctlFwSig [] 1 = true := by
  have hsaved : Machine.fwSaved s p = wbit s .ctlFwSig [] 1 true := if_pos ⟨hactive, hho⟩
  rw [Completes, exec_fwSaved, execFwSaved, if_pos hp, fwSignal_saved hstop, if_pos hactive, hsaved]
  exact ⟨_, rfl, rbit_wbit _ _ _ _ _ (by decide)⟩

theorem completes_fwSaved_refused (hp : p < 2) (hactive : p ≠ s.ctl.active) (hstop : s.pairStopped p = false) :
    Completes (.fwSaved p) s fun t => rbit t .ctlFwSig [] 1 = rbit s .ctlFwSig [] 1 ∧ Fires t 224 := by
  have hsaved : Machine.fwSaved s p = s := if_neg (fun h => hactive h.1)
  rw [Completes, exec_fwSaved, execFwSaved, if_pos hp, fwSignal_saved hstop, if_neg hactive, hsaved]
  refine ⟨_, rfl, ?_, fires_raise ..⟩
  rw [rbit, firewall, rd_raise (by decide)]
  rfl

theorem completes_fwSaved_stopped (hp : p < 2) (hstop : s.pairStopped p = true) : Completes (.fwSaved p) s fun t => t = s := by
  rw [Completes, exec_fwSaved, execFwSaved, if_pos hp, fwSignal]
  dsimp only
  rw [if_pos hstop]
  exact ⟨_, rfl, rfl⟩

theorem completes_fwAlive (hp : p < 2) (hactive : p = s.ctl.active) (hho : s.ho = 3) (hstop : s.pairStopped p = false)
    (hwithin : s.clk.elapsed - s.svc.probAt + s.svc.probDone ≤ 49152000) : Completes (.fwAlive p) s fun t => rbit t .ctlFwSig [] 2 = true := by
  have halive : Machine.fwAlive s p = wbit s .ctlFwSig [] 2 true := if_pos ⟨hactive, hho, hwithin⟩
  rw [Completes, exec_fwAlive, execFwAlive, if_pos hp, fwSignal_alive hstop, if_pos hactive, halive]
  exact ⟨_, rfl, rbit_wbit _ _ _ _ _ (by decide)⟩

/-! ## Requests (R614) -/

section Request

variable {tag b tick : Nat} (hoff : s.regOff .ctlFwHo [] = false) (htag : s.tagDeviceOrD2 tag = true) (hb : b < 4)
include hoff htag hb

theorem exec_handoverRequest_of_may : exec (.handoverRequest tag b tick) s = .next (hoRequest s b tick) := by
  rw [exec_handoverRequest, execHandoverRequest, tagged_of_may hoff htag, Nat.mod_eq_of_lt hb]

theorem completes_handoverRequest_taken (hslot : b = 1 ∨ b = 2) (hready : s.standby = 3) (hho : s.ho = 0) (hbusy : s.pwrBusy = false) :
    Completes (.handoverRequest tag b tick) s fun t => t.ho = 1 ∧ rf t .ctlFwStat [] 11 8 = 0 ∧ rd t .ctlFwSig [] = 0 ∧
      t.svc.tb = if b = 1 then nextSlot s.frameOfs s.refMu s.refEcp (s.now + 983040) else nextFrame s.frameOfs (s.now + 983040) := by
  refine ⟨_, exec_handoverRequest_of_may hoff htag hb, ?_⟩
  unfold hoRequest
  dsimp only
  rw [if_neg (by omega), if_neg (not_not_intro hready), if_neg (not_not_intro hho), if_neg (by omega),
    if_neg (by rw [hbusy]; exact Bool.false_ne_true)]
  refine ⟨ho_setHo 1, ?_, ?_, ?_⟩
  · rw [rf_setHo _ _ _ (by decide) (by decide) (by decide), wbit, rf_wf_apart _ _ _ _ _ _ _ _ (by decide) (by decide) (by decide) (by decide)]
    exact result_setHoResult 0
  · rw [State.setHo, State.setHoResult, rd_wf_other _ _ _ _ _ _ _ _ (by decide), rd_wbit_other _ _ _ _ _ _ _ (by decide),
      rd_wf_other _ _ _ _ _ _ _ _ (by decide)]
    exact rd_wr_same _ _ _ 0
  · rw [State.setHo, wf_svc, wbit_svc, State.setHoResult, wf_svc, wr_svc]
    dsimp only
    rcases hslot with rfl | rfl
    · rw [if_pos (Eq.refl 1), if_pos (Eq.refl 1)]
    · rw [if_neg (by decide), if_pos (Eq.refl 2), if_neg (by decide)]

theorem completes_handoverRequest_early (h3 : b = 3) (hready : s.standby = 3) (hho : s.ho = 0) (htick : tick < s.now + 983040) :
    Completes (.handoverRequest tag b tick) s fun t => t.ho = 0 ∧ rf t .ctlFwStat [] 11 8 = 9 := by
  refine ⟨_, exec_handoverRequest_of_may hoff htag hb, ?_⟩
  unfold hoRequest
  dsimp only
  rw [if_neg (by omega), if_neg (not_not_intro hready), if_neg (not_not_intro hho), if_pos ⟨h3, htick⟩]
  exact ⟨(rf_setHoResult _ _ _ (by decide) (by decide) (by decide)).trans hho, result_setHoResult 9⟩

theorem completes_handoverRequest_unready (h1 : 1 ≤ b) (hready : s.standby ≠ 3) :
    Completes (.handoverRequest tag b tick) s fun t => t.ho = s.ho ∧ rf t .ctlFwStat [] 11 8 = 2 := by
  refine ⟨_, exec_handoverRequest_of_may hoff htag hb, ?_⟩
  unfold hoRequest
  rw [if_neg (by omega), if_pos hready]
  exact ⟨rf_setHoResult _ _ _ (by decide) (by decide) (by decide), result_setHoResult 2⟩

end Request

/-! ## The exchange at t_b, probation and its ends (R615 to R617) -/

/-- What the exchange leaves of the pairs and of the hand-over's fields, but for the active pair and slot. -/
structure Exchanged (s t : State) : Prop where
  active : t.ctl.active = 1 - s.ctl.active
  slot : t.activeSlot = 1 - s.activeSlot
  stopped : ∀ p, t.pairStopped p = s.pairStopped p
  verified : ∀ p, t.pairVerified p = s.pairVerified p
  fields : ∀ hi lo, lo ≤ hi → hi < 32 → 2 ≤ lo → rf t .ctlFwStat [] hi lo = rf s .ctlFwStat [] hi lo
  promoteDue : t.ctl.promoteDue = s.ctl.promoteDue

/-- Of the pairs' record the start of firmware changes the two flags of firmware alone. -/
theorem firmwareResumes_ctl : ∃ a b, (firmwareResumes s).ctl = { s.ctl with fwRuns := a, governedStale := b } := by
  unfold firmwareResumes
  split
  · exact ⟨_, _, markOff_ctl ..⟩
  · split
    · exact ⟨_, _, firmwareStops_ctl⟩
    · exact ⟨_, _, markOn_ctl ..⟩

/-- Another pair is active. -/
def withActive (s : State) (a : Nat) : State := { s with ctl := { s.ctl with active := a } }

theorem rd_withActive (a : Nat) (id : RegId) (ix : List Nat) : rd (withActive s a) id ix = rd s id ix := rfl

theorem ctl_withActive (a : Nat) : (withActive s a).ctl = { s.ctl with active := a } := rfl

/-- The registers as the other pair with the other slot is active. -/
def rolesShown (s : State) : State :=
  wf (wf (wf (wf s .secBoot [] 0 0 (1 - s.activeSlot)) .secBoot [] 31 16 (beAt (spGet [] s.nv.flash (2 + (1 - s.activeSlot))) 8 2))
    .ctlFwStat [] 1 1 (1 - s.activeSlot)) .ctlFwStat [] 0 0 (1 - s.ctl.active)

/-- The other pair with the other slot is active, before firmware starts there. -/
def rolesSwapped (s : State) : State := withActive (rolesShown s) (1 - s.ctl.active)

theorem exchange_eq : exchange s = firmwareResumes (rolesSwapped s) := rfl

theorem rf_rolesSwapped (hi lo : Nat) : rf (rolesSwapped s) .ctlFwStat [] hi lo = rf (rolesShown s) .ctlFwStat [] hi lo :=
  congrArg (bitsOf · hi lo) (rd_withActive ..)

theorem ctl_rolesSwapped : (rolesSwapped s).ctl = { s.ctl with active := 1 - s.ctl.active } := by
  rw [rolesSwapped, ctl_withActive, rolesShown, wf_ctl, wf_ctl, wf_ctl, wf_ctl]

theorem rf_exchange (hi lo : Nat) : rf (exchange s) .ctlFwStat [] hi lo = rf (rolesSwapped s) .ctlFwStat [] hi lo := by
  rw [exchange_eq]
  refine rf_of_same (firmwareResumes_same (Nat.and_self _) (Same.refl _ _)).but (by decide) (by decide) (fun id hid ix => ?_) hi lo
  rw [List.mem_singleton.1 hid]
  exact regAddr_ne _ _ (by decide)

theorem exchange_exchanged : Exchanged s (exchange s) := by
  obtain ⟨a, b, hctl⟩ := firmwareResumes_ctl (s := rolesSwapped s)
  rw [← exchange_eq, ctl_rolesSwapped] at hctl
  constructor
  case active => rw [hctl]
  case slot =>
    rw [State.activeSlot, rf_exchange, rf_rolesSwapped, rolesShown, rf_wf_apart _ _ _ _ _ _ _ _ (by decide) (by decide) (by decide) (by decide),
      rf_wf _ _ _ _ _ _ (by decide) (by decide)]
    exact Nat.mod_eq_of_lt (by omega)
  case stopped => intro p; rw [State.pairStopped, hctl, State.pairStopped]
  case verified => intro p; rw [State.pairVerified, hctl, State.pairVerified]
  case fields =>
    intro hi lo hlo hhi h2
    rw [rf_exchange, rf_rolesSwapped, rolesShown, rf_wf_apart _ _ _ _ _ _ _ _ (by decide) hhi (by omega) hlo,
      rf_wf_apart _ _ _ _ _ _ _ _ (by decide) hhi (by omega) hlo, rf, rd_wf_other _ _ _ _ _ _ _ _ (by decide),
      rd_wf_other _ _ _ _ _ _ _ _ (by decide), rf]
  case promoteDue => rw [hctl]

theorem exchange_clk : (exchange s).clk = s.clk := (exchange_same (Nat.and_self _) (Same.refl _ s)).but.clk (by decide)

/-- At t_b the old pair halts, and SAVED is used. -/
def handedOver (s : State) : State :=
  let s1 := reachCount s s.svc.tb
  let s2 := wbit s1 .ctlFwStat [] 12 (¬ rbit s1 .ctlFwSig [] 1)
  wbit (s2.setPair s.ctl.active true (s.pairVerified s.ctl.active)) .ctlFwSig [] 1 false

/-- Probation starts. -/
def inProbation (s : State) : State := { s.setHo 3 with svc := { s.svc with probAt := s.clk.elapsed, probDone := 0, probPaused := false } }

theorem exec_handoverActivate_of_saving (hho : s.ho = 2) : exec .handoverActivate s = .next (inProbation (exchange (handedOver s))) := by
  rw [exec_handoverActivate, execHandoverActivate, if_pos hho]
  rfl

theorem handedOver_active : (handedOver s).ctl.active = s.ctl.active := by
  rw [handedOver]
  rw [wbit_ctl, State.setPair]
  split <;> rfl

theorem rd_setPair (p : Nat) (a b : Bool) (id : RegId) (ix : List Nat) : rd (s.setPair p a b) id ix = rd s id ix := by
  unfold State.setPair
  split <;> rfl

theorem rd_reachCount (n : Nat) (id : RegId) (ix : List Nat) : rd (reachCount s n) id ix = rd s id ix := rd_eq_of_regs rfl rfl id ix

theorem rf_handedOver (hi lo : Nat) (hlo : lo ≤ hi) (hhi : hi < 12) : rf (handedOver s) .ctlFwStat [] hi lo = rf s .ctlFwStat [] hi lo := by
  rw [handedOver]
  rw [rf, rd_wbit_other _ _ _ _ _ _ _ (by decide), rd_setPair, ← rf, wbit,
    rf_wf_apart _ _ _ _ _ _ _ _ (by decide) (Nat.lt_trans hhi (by decide)) (by omega) hlo, rf, rd_reachCount, rf]

theorem rbit_handedOver : rbit (handedOver s) .ctlFwStat [] 12 = !rbit s .ctlFwSig [] 1 := by
  rw [handedOver]
  rw [rbit, rd_wbit_other _ _ _ _ _ _ _ (by decide), rd_setPair, ← rbit, rbit_wbit _ _ _ _ _ (by decide), rbit, rd_reachCount, ← rbit]
  cases rbit s .ctlFwSig [] 1 <;> rfl

theorem handedOver_pairs (hactive : s.ctl.active < 2) : (handedOver s).pairStopped s.ctl.active = true ∧
    (handedOver s).pairStopped (1 - s.ctl.active) = s.pairStopped (1 - s.ctl.active) ∧
    (handedOver s).pairVerified (1 - s.ctl.active) = s.pairVerified (1 - s.ctl.active) := by
  have hctl (u : State) (i : Nat) : (wbit u .ctlFwSig [] 1 false).pairStopped i = u.pairStopped i ∧
    (wbit u .ctlFwSig [] 1 false).pairVerified i = u.pairVerified i := ⟨rfl, rfl⟩
  rw [handedOver]
  rw [(hctl _ _).1, (hctl _ _).1, (hctl _ _).2]
  obtain ⟨hst, hver⟩ := pairs_setPair_other (s := wbit (reachCount s s.svc.tb) .ctlFwStat [] 12 (¬ rbit (reachCount s s.svc.tb) .ctlFwSig [] 1))
    hactive (show 1 - s.ctl.active < 2 by omega) (by omega) true (s.pairVerified s.ctl.active)
  exact ⟨(pairStopped_setPair _ _).1, hst, hver⟩

theorem handedOver_clk : (handedOver s).clk = (reachCount s s.svc.tb).clk := by
  rw [handedOver]
  rw [wbit_clk, State.setPair]
  split <;> rfl

/-- Probation's start leaves the pairs and the other fields. -/
theorem inProbation_leaves : (inProbation s).ctl = s.ctl ∧ (inProbation s).clk = s.clk ∧ (inProbation s).svc.probAt = s.clk.elapsed ∧
    (inProbation s).ho = 3 ∧ ∀ hi lo, lo ≤ hi → hi < 32 → hi < 5 ∨ 7 < lo → rf (inProbation s) .ctlFwStat [] hi lo = rf s .ctlFwStat [] hi lo :=
  ⟨rfl, rfl, rfl, ho_setHo (s := s) 3, fun hi lo hlo hhi hap => rf_setHo (s := s) 3 hi lo hlo hhi hap⟩

/-- A flag of a register as its field of one bit. -/
theorem rbit_eq_of_rf {u v : State} {id : RegId} {ix : List Nat} {i : Nat} (h : rf u id ix i i = rf v id ix i i) : rbit u id ix i = rbit v id ix i := by
  rw [rf, bitsOf_bit, rf, bitsOf_bit] at h
  unfold rbit
  revert h
  cases bitOf (rd u id ix) i <;> cases bitOf (rd v id ix) i <;> decide

theorem rd_handedOver_dbgCoreCtrl : rd (handedOver s) .dbgCoreCtrl [] = rd s .dbgCoreCtrl [] := by
  rw [handedOver]
  rw [rd_wbit_other _ _ _ _ _ _ _ (by decide), rd_setPair, rd_wbit_other _ _ _ _ _ _ _ (by decide), rd_reachCount]

theorem completes_handoverActivate (hho : s.ho = 2) (hactive : s.ctl.active < 2) (hver : s.pairVerified (1 - s.ctl.active) = true)
    (hrun : s.pairStopped (1 - s.ctl.active) = false) : Completes .handoverActivate s fun t =>
      t.ho = 3 ∧ t.ctl.active = 1 - s.ctl.active ∧ t.activeSlot = 1 - s.activeSlot ∧ t.pairStopped s.ctl.active = true ∧
      t.ctl.fwRuns = !rbit s .dbgCoreCtrl [] (1 - s.ctl.active) ∧
      t.clk.count = max s.now s.svc.tb ∧ t.svc.probAt = t.clk.elapsed ∧ rbit t .ctlFwStat [] 12 = !rbit s .ctlFwSig [] 1 := by
  obtain ⟨hctl, hclk, hprob, hho', hfield⟩ := inProbation_leaves (s := exchange (handedOver s))
  obtain ⟨hold, hstopped, hverified⟩ := handedOver_pairs hactive
  have hex := exchange_exchanged (s := handedOver s)
  have hfw := exchange_fwRuns (s := handedOver s)
  rw [handedOver_active, hstopped, hverified, hver, hrun, rbit, rd_handedOver_dbgCoreCtrl, ← rbit] at hfw
  refine ⟨_, exec_handoverActivate_of_saving hho, hho', ?_, ?_, ?_, ?_, ?_, ?_, ?_⟩
  · rw [hctl, hex.active, handedOver_active]
  · rw [State.activeSlot, hfield 1 1 (by decide) (by decide) (by decide)]
    refine hex.slot.trans (congrArg (1 - ·) ?_)
    exact rf_handedOver 1 1 (by decide) (by decide)
  · have h := hex.stopped s.ctl.active
    rw [hold] at h
    rw [State.pairStopped, hctl]
    exact h
  · rw [hctl, hfw]
    rfl
  · rw [hclk, exchange_clk, handedOver_clk, reachCount_count, State.now]
  · rw [hprob, hclk]
  · rw [← rbit_handedOver]
    exact rbit_eq_of_rf ((hfield 12 12 (by decide) (by decide) (by decide)).trans (hex.fields 12 12 (by decide) (by decide) (by decide)))

/-- The tick at which probation has lasted PROB_S seconds (R616). -/
def probationEnd (s : State) : Nat := s.svc.probAt + s.onum 0xD202 5 * secTicks - s.svc.probDone

/-- CTL_FW_STAT at the end of a hand-over: IDLE, with a result and the standby's state. -/
def hoEnded (s : State) (result standby : Nat) : State := ((s.setHo 0).setHoResult result).setStandby standby

theorem hoEnded_leaves (result standby : Nat) : (hoEnded s result standby).ctl = s.ctl ∧ (hoEnded s result standby).clk = s.clk ∧
    (hoEnded s result standby).nv = s.nv := ⟨rfl, rfl, rfl⟩

theorem ho_hoEnded (result standby : Nat) : (hoEnded s result standby).ho = 0 := by
  rw [State.ho, hoEnded, rf_setStandby _ _ _ (by decide) (by decide) (by decide), rf_setHoResult _ _ _ (by decide) (by decide) (by decide)]
  exact ho_setHo 0

theorem result_hoEnded (result standby : Nat) : rf (hoEnded s result standby) .ctlFwStat [] 11 8 = result % 16 := by
  rw [hoEnded, rf_setStandby _ _ _ (by decide) (by decide) (by decide)]
  exact result_setHoResult result

theorem standby_hoEnded (result standby : Nat) : (hoEnded s result standby).standby = standby % 8 := standby_setStandby standby

theorem activeSlot_hoEnded (result standby : Nat) : (hoEnded s result standby).activeSlot = s.activeSlot := by
  rw [State.activeSlot, hoEnded, rf_setStandby _ 1 1 (by decide) (by decide) (by decide), rf_setHoResult _ 1 1 (by decide) (by decide) (by decide),
    rf_setHo _ 1 1 (by decide) (by decide) (by decide), State.activeSlot]

/-- The fields of a hand-over that is done. -/
def doneShown (s : State) : State := hoEnded (wbit (reachElapsed s (probationEnd s)) .ctlFwSig [] 2 false) 1 2

/-- The end of probation with success. -/
def handoverDone (s : State) : State := (doneShown s).setPair (1 - (doneShown s).ctl.active) false false

theorem exec_fwHandoverDone_of_alive (hho : s.ho = 3) (halive : rbit s .ctlFwSig [] 2 = true) (hdue : s.ctl.promoteDue = false)
    (hpaused : s.svc.probPaused = false) : exec .fwHandoverDone s =
      .next (raise (handoverDone s) 247 (doneShown s).activeSlot (rf (doneShown s) .ctlFwStat [] 12 12)) := by
  rw [exec_fwHandoverDone, execFwHandoverDone, if_pos ⟨hho, halive, by rw [hdue]; exact Bool.false_ne_true,
    by rw [hpaused]; exact Bool.false_ne_true⟩]
  unfold handoverDone doneShown hoEnded probationEnd
  dsimp only

theorem doneShown_leaves : (doneShown s).ctl = s.ctl ∧ (doneShown s).clk = (reachElapsed s (probationEnd s)).clk := by
  rw [doneShown, (hoEnded_leaves 1 2).1, (hoEnded_leaves 1 2).2.1, wbit_ctl, wbit_clk]
  exact ⟨(reachElapsed_same _ (Nat.and_self _) (Same.refl _ s)).but.ctl (by decide), Eq.refl _⟩

theorem setPair_clk (p : Nat) (a b : Bool) : (s.setPair p a b).clk = s.clk := by
  unfold State.setPair
  split <;> rfl

theorem setPair_active (p : Nat) (a b : Bool) : (s.setPair p a b).ctl.active = s.ctl.active := by
  unfold State.setPair
  split <;> rfl

theorem completes_fwHandoverDone (hho : s.ho = 3) (halive : rbit s .ctlFwSig [] 2 = true) (hdue : s.ctl.promoteDue = false)
    (hpaused : s.svc.probPaused = false) : Completes .fwHandoverDone s fun t =>
      t.ho = 0 ∧ rf t .ctlFwStat [] 11 8 = 1 ∧ t.standby = 2 ∧ t.ctl.active = s.ctl.active ∧ t.pairStopped (1 - s.ctl.active) = false ∧
      t.clk.elapsed = max s.clk.elapsed (probationEnd s) ∧ Fires t 247 := by
  obtain ⟨hctl, hclk⟩ := doneShown_leaves (s := s)
  have hrd (a b : Nat) : rd (raise (handoverDone s) 247 a b) .ctlFwStat [] = rd (doneShown s) .ctlFwStat [] := by
    rw [rd_raise (by decide), handoverDone, rd_setPair]
  refine ⟨_, exec_fwHandoverDone_of_alive hho halive hdue hpaused, ?_, ?_, ?_, ?_, ?_, ?_, fires_raise ..⟩
  · rw [State.ho, rf, hrd]
    exact ho_hoEnded 1 2
  · rw [rf, hrd]
    exact result_hoEnded 1 2
  · rw [State.standby, rf, hrd]
    exact standby_hoEnded 1 2
  · rw [raise_ctl, handoverDone, setPair_active, hctl]
  · rw [State.pairStopped, raise_ctl, ← State.pairStopped, handoverDone, hctl]
    exact (pairStopped_setPair false false).1
  · rw [raise_clk, handoverDone, setPair_clk, hclk, reachElapsed_elapsed]

/-- The slot boundary at which a hand-over reverts. -/
def revertsAt (s : State) : State :=
  toSlot (if s.ctl.promoteDue = true then s else reachElapsed s (s.svc.probAt + 49152000 - s.svc.probDone)) 7 0

theorem exec_fwReverted_of_due (hho : s.ho = 3)
    (hwhy : s.ctl.promoteDue = true ∨ rbit s .ctlFwSig [] 2 = false ∧ s.svc.probPaused = false) :
    exec .fwReverted s = .next (hoReverts (revertsAt s)) := by
  rw [exec_fwReverted, execFwReverted, revertsAt]
  by_cases hdue : s.ctl.promoteDue = true
  · rw [if_pos ⟨hho, hdue⟩, if_pos hdue]
  · obtain ⟨halive, hpaused⟩ := hwhy.resolve_left hdue
    rw [if_neg (fun h => hdue h.2), if_pos ⟨hho, by rw [halive]; exact Bool.false_ne_true, by rw [hpaused]; exact Bool.false_ne_true⟩, if_neg hdue]

/-- Only time passes to that boundary. -/
theorem revertsAt_same : SameBut [.clk, .air] [] s (revertsAt s) := by
  refine (toSlot_same 7 0 (Nat.and_self _) ?_).but
  exact same_ite (Same.refl _ s) (reachElapsed_same _ (by decide) (Same.refl _ s))

theorem isSlot_revertsAt : isSlot s.frameOfs s.refMu s.refEcp (revertsAt s).clk.count = true := by
  have h := isSlot_toSlot (s := if s.ctl.promoteDue = true then s else reachElapsed s (s.svc.probAt + 49152000 - s.svc.probDone)) 7 0
  have hrd (id : RegId) (ix : List Nat) :
      rd (if s.ctl.promoteDue = true then s else reachElapsed s (s.svc.probAt + 49152000 - s.svc.probDone)) id ix = rd s id ix := by
    refine SameBut.rd_eq (ps := [.clk, .air]) (ids := []) ?_ (by decide) (by decide) (fun _ h => absurd h List.not_mem_nil)
    exact (same_ite (Same.refl _ s) (reachElapsed_same _ (Nat.and_self _) (Same.refl _ s))).but
  rw [State.frameOfs, State.refMu, State.refEcp, rf, rbit, hrd, hrd] at h
  exact h

/-- The pairs exchanged back, the new image's slot empty (R617). -/
def pairsReverted (s : State) : State :=
  let s2 := exchange ((s.setPair s.ctl.active true false).setPair (1 - s.ctl.active) false true)
  flashWrite { s2 with ctl := { s2.ctl with promoteDue := false } } 4 s.activeSlot []

theorem hoReverts_eq : hoReverts s =
    raise (hoEnded (wr (pairsReverted s) .ctlFwSig [] 0) 8 4) 249 (1 - s.activeSlot) NA := rfl

theorem pairsReverted_leaves (hactive : s.ctl.active < 2) : (pairsReverted s).ctl.active = 1 - s.ctl.active ∧
    (pairsReverted s).activeSlot = 1 - s.activeSlot ∧ (pairsReverted s).pairVerified s.ctl.active = false ∧
    spGet [] (pairsReverted s).nv.flash (2 + s.activeSlot) = [] ∧ (pairsReverted s).ctl.promoteDue = false ∧ (pairsReverted s).clk = s.clk := by
  have hex := exchange_exchanged (s := (s.setPair s.ctl.active true false).setPair (1 - s.ctl.active) false true)
  have hslot : s.activeSlot < 2 := Nat.mod_lt _ (by decide)
  have hrd (u : State) (id : RegId) (ix : List Nat) :
      rd (flashWrite { u with ctl := { u.ctl with promoteDue := false } } 4 s.activeSlot []) id ix = rd u id ix := by
    rw [flashWrite, if_neg (by decide), if_pos hslot]
    exact rd_eq_of_regs rfl rfl id ix
  have hctl (u : State) : (flashWrite { u with ctl := { u.ctl with promoteDue := false } } 4 s.activeSlot []).ctl =
      { u.ctl with promoteDue := false } := by rw [flashWrite, if_neg (by decide), if_pos hslot]
  refine ⟨?_, ?_, ?_, flashWrite_flash hslot [], ?_, ?_⟩
  · rw [pairsReverted, hctl]
    exact hex.active.trans (by rw [setPair_active, setPair_active])
  · have h := hex.slot
    rw [State.activeSlot, State.activeSlot, rf, rf, rd_setPair, rd_setPair] at h
    rw [State.activeSlot, rf, pairsReverted, hrd]
    exact h
  · have h := hex.verified s.ctl.active
    rw [(pairs_setPair_other (show 1 - s.ctl.active < 2 by omega) hactive (by omega) false true).2, (pairStopped_setPair true false).2] at h
    rw [State.pairVerified, pairsReverted, hctl]
    exact h
  · rw [pairsReverted, hctl]
  · rw [pairsReverted, (flashWrite_same _ _ _ (Nat.and_self _) (Same.refl _ _)).but.clk (by decide), exchange_clk, setPair_clk, setPair_clk]

theorem hoReverts_leaves (hactive : s.ctl.active < 2) : (hoReverts s).ho = 0 ∧ rf (hoReverts s) .ctlFwStat [] 11 8 = 8 ∧ (hoReverts s).standby = 4 ∧
    (hoReverts s).ctl.active = 1 - s.ctl.active ∧ (hoReverts s).activeSlot = 1 - s.activeSlot ∧ (hoReverts s).pairVerified s.ctl.active = false ∧
    spGet [] (hoReverts s).nv.flash (2 + s.activeSlot) = [] ∧ (hoReverts s).ctl.promoteDue = false ∧ (hoReverts s).clk = s.clk ∧
    Fires (hoReverts s) 249 := by
  obtain ⟨hact, hslot, hver, hflash, hdue, hclk⟩ := pairsReverted_leaves hactive
  obtain ⟨hctl, hclk', hnv⟩ := hoEnded_leaves (s := wr (pairsReverted s) .ctlFwSig [] 0) 8 4
  have hrd (hi lo : Nat) : rf (hoReverts s) .ctlFwStat [] hi lo = rf (hoEnded (wr (pairsReverted s) .ctlFwSig [] 0) 8 4) .ctlFwStat [] hi lo := by
    rw [hoReverts_eq, rf, rd_raise (by decide), rf]
  have hslot' : (wr (pairsReverted s) .ctlFwSig [] 0).activeSlot = (pairsReverted s).activeSlot := by
    rw [State.activeSlot, rf, rd_wr_other _ _ _ _ _ _ (by decide), State.activeSlot, rf]
  refine ⟨(hrd 7 5).trans (ho_hoEnded 8 4), (hrd 11 8).trans (result_hoEnded 8 4), (hrd 4 2).trans (standby_hoEnded 8 4), ?_,
    (hrd 1 1).trans ((activeSlot_hoEnded 8 4).trans (hslot'.trans hslot)), ?_, ?_, ?_, ?_, ?_⟩ <;> rw [hoReverts_eq]
  · rw [raise_ctl, hctl, wr_ctl, hact]
  · rw [State.pairVerified, raise_ctl, hctl, wr_ctl]
    exact hver
  · rw [raise_nv, hnv, wr_nv, hflash]
  · rw [raise_ctl, hctl, wr_ctl, hdue]
  · rw [raise_clk, hclk', wr_clk, hclk]
  · exact fires_raise ..

theorem completes_fwReverted (hho : s.ho = 3)
    (hwhy : s.ctl.promoteDue = true ∨ rbit s .ctlFwSig [] 2 = false ∧ s.svc.probPaused = false) (hactive : s.ctl.active < 2) :
    Completes .fwReverted s fun t =>
      t.ho = 0 ∧ rf t .ctlFwStat [] 11 8 = 8 ∧ t.standby = 4 ∧ t.ctl.active = 1 - s.ctl.active ∧ t.activeSlot = 1 - s.activeSlot ∧
      t.pairVerified s.ctl.active = false ∧ spGet [] t.nv.flash (2 + s.activeSlot) = [] ∧ t.ctl.promoteDue = false ∧
      isSlot s.frameOfs s.refMu s.refEcp t.clk.count = true ∧ Fires t 249 := by
  have hctl : (revertsAt s).ctl = s.ctl := revertsAt_same.ctl (by decide)
  have hslot : (revertsAt s).activeSlot = s.activeSlot :=
    rf_of_same revertsAt_same (by decide) (by decide) (fun _ h => absurd h List.not_mem_nil) 1 1
  have h := hoReverts_leaves (s := revertsAt s) (by rw [hctl]; exact hactive)
  rw [hctl, hslot] at h
  obtain ⟨h1, h2, h3, h4, h5, h6, h7, h8, h9, h10⟩ := h
  refine ⟨_, exec_fwReverted_of_due hho hwhy, h1, h2, h3, h4, h5, h6, h7, h8, ?_, h10⟩
  rw [h9]
  exact isSlot_revertsAt

/-! ## The obligation -/

/-- Settles O58: the standby image by its check, firmware's signals by who may write them, requests by their refusals, and the exchange at t_b and
the ends of probation by what they leave of the pairs and of CTL_FW_STAT. -/
theorem handoverCommandsComplete : Obligations.HandoverCommandsComplete := by
  unfold Obligations.HandoverCommandsComplete
  refine ⟨fun s role image hrole hho => completes_standbyImageWrite hrole hho image, fun s role image hrole hho => ?busy,
    fun s p hactive hp hst hstop => completes_fwStandbyReady hactive hp hst hstop,
    fun s p hp hactive hstop => completes_fwStandbyReady_refused hp hactive hstop,
    fun s tag b tick hoff htag hb hst hho hbusy => completes_handoverRequest_taken hoff htag (by omega) hb hst hho hbusy,
    fun s tag tick hoff htag hst hho htick => completes_handoverRequest_early hoff htag (by decide) rfl hst hho htick,
    fun s tag b tick hoff htag h1 h3 hst => completes_handoverRequest_unready hoff htag (by omega) h1 hst, fun s hho => ?saving,
    fun s p hp hactive hho hstop => completes_fwSaved hp hactive hho hstop, fun s p hp hactive hstop => completes_fwSaved_refused hp hactive hstop,
    fun s p hp hstop => completes_fwSaved_stopped hp hstop, fun s hho hactive hver hrun => completes_handoverActivate hho hactive hver hrun,
    fun s p hp hactive hho hstop hwithin => completes_fwAlive hp hactive hho hstop hwithin,
    fun s hho halive hdue hpaused _ => completes_fwHandoverDone hho halive hdue hpaused,
    fun s hho hwhy hactive => completes_fwReverted hho hwhy hactive⟩
  case busy =>
    refine ⟨_, exec_standbyImageWrite_of_manages hrole image, ?_⟩
    rw [standbyImage, if_pos hho]
    exact ⟨rfl, rfl⟩
  case saving =>
    rw [Completes, exec_handoverSaving, execHandoverSaving, if_pos hho]
    refine ⟨_, rfl, ho_setHo 2, ?_⟩
    rw [State.setHo, wf_clk, reachCount_count, State.now]

end Sys2Proof.Machine
end

section
/-!
The TAP (R586 to R594): what its instructions select, shift out and count, and the responses it takes. The settlement of O55.
-/

namespace Sys2Proof.Machine

set_option Elab.async false

variable {s t : State}

/-! ## The instruction register -/

theorem tapSelect_leaves (ir : Nat) : SameBut [.sec, .hk] [.bdacDrnStat] s (tapSelect s ir) :=
  (tapSelect_same ir (Nat.and_self _) (Same.refl _ s)).but

theorem drainRise_leaves : SameBut [.hk] [.bdacDrnStat] s (drainRise s) := (drainRise_same (Nat.and_self _) (Same.refl _ s)).but

/-- Of security an instruction selected changes the instruction register alone. -/
theorem tapSelect_sec (ir : Nat) : (tapSelect s ir).sec = { s.sec with tapIr := ir } := by
  unfold tapSelect
  dsimp only
  split
  · rfl
  · split
    · exact drainRise_leaves.sec (by decide)
    · rfl

/-- A register apart from BDAC_DRN_STAT stays as an instruction is selected. -/
theorem rd_tapSelect {id : RegId} {ix : List Nat} (h : (regRow .bdacDrnStat).addr + regSpan .bdacDrnStat < (regRow id).addr ∨
    (regRow id).addr + regSpan id < (regRow .bdacDrnStat).addr) (ir : Nat) : rd (tapSelect s ir) id ix = rd s id ix :=
  (tapSelect_leaves ir).rd_eq_apart (by decide) (by decide) (fun id' hid => by rw [List.mem_singleton.1 hid]; exact h)

/-- R588: every drain is low under an instruction of boundary scan. -/
theorem rd_bdacDrnStat_tapSelect {ir : Nat} (h : ir = 0x00 ∨ ir = 0x03 ∨ ir = 0x04) : rd (tapSelect s ir) .bdacDrnStat [] = 0 := by
  unfold tapSelect
  rw [if_pos (by simpa using h)]
  exact rd_wr_same ..

theorem tapSelect_out (ir : Nat) : (tapSelect s ir).out = s.out := (tapSelect_leaves ir).out (by decide)

theorem tapBypass_tapIr : (tapBypass s).sec.tapIr = 0xFF := congrArg Sec.tapIr (tapSelect_sec (s := bump s .dbgFails []) 0xFF)

theorem tapBypass_out : (tapBypass s).out = s.out ++ [.tap 1 0] := by
  rw [tapBypass, emit_out, tapSelect_out]
  rfl

/-- An instruction is performed while DBG is powered and it is permitted. -/
theorem tapDo_of_runs {f : State → State} (hr : tapRuns s = true) : tapDo s true f = f s := by simp [tapDo, hr]

theorem tapDo_of_refused {f : State → State} (hr : tapRuns s = true) : tapDo s false f = tapBypass s := by simp [tapDo, hr]

theorem scanAllowed_of (hd : 3 ≤ s.sec.dbgLevel) (ho : allOff s = true) : scanAllowed s = true := by simp [scanAllowed, hd, ho]

theorem scanAllowed_of_lt (hd : s.sec.dbgLevel < 3) : scanAllowed s = false := by simp [scanAllowed, Nat.not_le.2 hd]

/-! ## Challenges and responses (R589, R591) -/

theorem challenge_of_same (hc : t.sec.chal = s.sec.chal) (hk : t.clk = s.clk) : t.challenge = s.challenge := by
  unfold State.challenge
  rw [hc, hk]

theorem lockedOut_of_same (hl : t.sec.lockout = s.sec.lockout) (hk : t.clk = s.clk) : t.lockedOut = s.lockedOut := by
  unfold State.lockedOut
  rw [hl, hk]

theorem sigCheck_of_same (hn : t.nv = s.nv) (root : Nat) (m sig : List Byte) : sigCheck t root m sig = sigCheck s root m sig := by
  unfold sigCheck State.root
  rw [hn]

theorem consentComplete_of_same (hn : t.nv = s.nv) (hs : t.straps = s.straps) (b chal : List Byte) :
    consentComplete t b chal = consentComplete s b chal := by
  unfold consentComplete State.tenantActive State.tenants State.keySlot
  rw [hn, hs]

/-- The checks of a response look at the challenge, the lifecycle state, the roots, the tenants' keys and the power state. -/
theorem responseCheck_of_same (hc : t.sec.chal = s.sec.chal) (hk : t.clk = s.clk) (hn : t.nv = s.nv) (hs : t.straps = s.straps)
    (hp : t.pwr = s.pwr) (hl : rd t .secLc [] = rd s .secLc []) (path : Nat) (b : List Byte) :
    responseCheck t path b = responseCheck s path b := by
  unfold responseCheck State.deepEntry State.lc rf
  simp only [challenge_of_same hc hk, sigCheck_of_same hn, consentComplete_of_same hn hs, hp, hl]

theorem sigCheck_lt (root : Nat) (m sig : List Byte) : sigCheck s root m sig < 0x13 := by
  unfold sigCheck
  repeat' split
  all_goals decide

/-- The code of a response is a byte. -/
theorem responseCheck_lt (path : Nat) (b : List Byte) : responseCheck s path b < 256 := by
  unfold responseCheck
  split
  · decide
  next id chal _ =>
    have hsig : (if s.lc = 0 then 0 else sigCheck s (beAt b 10 1) (b.take 20 ++ chal) (sliceBytes b 20 96)) < 0x13 := by
      split
      · decide
      · exact sigCheck_lt ..
    dsimp only
    generalize (if s.lc = 0 then 0 else sigCheck s (beAt b 10 1) (b.take 20 ++ chal) (sliceBytes b 20 96)) = sig at hsig
    repeat' split
    all_goals omega

/-- R591: an accepted response names the challenge, and a level of the lifecycle state. -/
theorem responseCheck_accepted {path : Nat} {b : List Byte} (h : responseCheck s path b = 0x10) :
    (∃ c, s.challenge = some (beAt b 12 4, c)) ∧ beAt b 8 1 ≤ 3 := by
  unfold responseCheck at h
  split at h
  · exact absurd h (by decide)
  next id chal hc =>
    dsimp only at h
    split at h
    · exact absurd h (by decide)
    next hid =>
      split at h
      · exact absurd h (by decide)
      split at h
      · exact absurd h (by decide)
      next hl =>
        refine ⟨⟨chal, by rw [hc, Decidable.not_not.1 hid]⟩, ?_⟩
        have hl' : levelPermitted s.lc (beAt b 8 1) (beAt b 10 1) = true := by simpa using hl
        unfold levelPermitted at hl'
        simp only [Bool.and_eq_true, decide_eq_true_eq] at hl'
        exact hl'.1.2

/-- The session that an accepted response opens (R591). -/
def sessionOf (s : State) (path : Nat) (b : List Byte) (owner : Option (Transport × Nat)) : DbgSession :=
  ⟨beAt b 8 1, path, s.clk.elapsed + beAt b 16 2 * 60 * secTicks, owner⟩

/-- A response names the challenge that is current (R589). -/
def namesChallenge (s : State) (b : List Byte) : Bool :=
  match s.challenge with
  | some (id, _) => decide (beAt b 12 4 = id)
  | none => false

/-- The state in which a response's code stands in DBG_STAT, and the challenge it names is consumed. -/
def responseTaken (s : State) (path : Nat) (b : List Byte) : State :=
  wf (if namesChallenge s b then { s with sec := { s.sec with chal := none } } else s) .dbgStat [] 23 16 (responseCheck s path b)

/-- The session opened at its level. -/
def responseGranted (s : State) (x : DbgSession) : State :=
  raise (wbit (wf (wf { s with sec := { s.sec with session := some x, dbgLevel := x.level } } .dbgStat [] 1 0 x.level) .dbgStat [] 2 2 x.path)
    .dbgStat [] 3 false) 238 x.level x.path

theorem debugResponse_of_accepted_eq {path : Nat} {b : List Byte} (owner : Option (Transport × Nat)) (h : responseCheck s path b = 0x10) :
    debugResponse s path b owner =
      (0x10, responseGranted (responseTaken s path b) (sessionOf (responseTaken s path b) path b owner)) := by
  unfold debugResponse
  rw [if_pos h, h]
  unfold responseGranted responseTaken sessionOf
  rw [h]
  rfl

theorem responseTaken_sec_of_accepted {path : Nat} {b : List Byte} (h : responseCheck s path b = 0x10) :
    (responseTaken s path b).sec = { s.sec with chal := none } := by
  obtain ⟨⟨c, hc⟩, -⟩ := responseCheck_accepted h
  rw [responseTaken, wf_sec, if_pos (by simp [namesChallenge, hc])]

theorem responseTaken_sec (path : Nat) (b : List Byte) : ∃ c, (responseTaken s path b).sec = { s.sec with chal := c } := by
  rw [responseTaken, wf_sec]
  split
  · exact ⟨none, rfl⟩
  · exact ⟨s.sec.chal, rfl⟩

theorem responseTaken_clk (path : Nat) (b : List Byte) : (responseTaken s path b).clk = s.clk := by
  rw [responseTaken, wf_clk]
  split <;> rfl

theorem result_responseTaken (path : Nat) (b : List Byte) : rf (responseTaken s path b) .dbgStat [] 23 16 = responseCheck s path b := by
  rw [responseTaken, rf_wf _ _ _ _ _ _ (by decide) (by decide)]
  exact Nat.mod_eq_of_lt (responseCheck_lt path b)

theorem rf_responseGranted (x : DbgSession) {hi lo : Nat} (hlo : lo ≤ hi) (hhi : hi < 24) (h : 3 < lo) :
    rf (responseGranted s x) .dbgStat [] hi lo = rf s .dbgStat [] hi lo := by
  have hw : hi < (regRow .dbgStat).width := Nat.lt_of_lt_of_le hhi (by decide)
  have hraise (u : State) (a b c : Nat) : rf (raise u a b c) .dbgStat [] hi lo = rf u .dbgStat [] hi lo := by rw [rf, rf, rd_raise (by decide)]
  rw [responseGranted, hraise, wbit, rf_wf_apart _ _ _ _ _ _ _ _ (by decide) hw (by omega) hlo,
    rf_wf_apart _ _ _ _ _ _ _ _ (by decide) hw (by omega) hlo, rf_wf_apart _ _ _ _ _ _ _ _ (by decide) hw (by omega) hlo]
  rfl

theorem level_responseGranted (x : DbgSession) : rf (responseGranted s x) .dbgStat [] 1 0 = x.level % 4 := by
  have hraise (u : State) (a b c : Nat) : rf (raise u a b c) .dbgStat [] 1 0 = rf u .dbgStat [] 1 0 := by rw [rf, rf, rd_raise (by decide)]
  rw [responseGranted, hraise, wbit, rf_wf_apart _ _ _ _ _ _ _ _ (by decide) (by decide) (by decide) (by decide),
    rf_wf_apart _ _ _ _ _ _ _ _ (by decide) (by decide) (by decide) (by decide), rf_wf _ _ _ _ _ _ (by decide) (by decide)]
  rfl

theorem responseGranted_sec (x : DbgSession) : (responseGranted s x).sec = { s.sec with session := some x, dbgLevel := x.level } := by
  rw [responseGranted, raise_sec, wbit_sec, wf_sec, wf_sec]

/-- R589, R591: an accepted response consumes the challenge and opens a session at its level. -/
theorem debugResponse_of_accepted {path : Nat} {b : List Byte} (owner : Option (Transport × Nat)) (h : responseCheck s path b = 0x10) :
    (debugResponse s path b owner).2.sec =
        { s.sec with chal := none, session := some (sessionOf s path b owner), dbgLevel := beAt b 8 1 } ∧
      rf (debugResponse s path b owner).2 .dbgStat [] 23 16 = 0x10 ∧ rf (debugResponse s path b owner).2 .dbgStat [] 1 0 = beAt b 8 1 ∧
      Fires (debugResponse s path b owner).2 238 := by
  rw [debugResponse_of_accepted_eq owner h]
  dsimp only
  refine ⟨?_, ?_, ?_, fires_raise ..⟩
  · rw [responseGranted_sec, responseTaken_sec_of_accepted h, sessionOf, responseTaken_clk]
    rfl
  · rw [rf_responseGranted _ (by decide) (by decide) (by decide), result_responseTaken, h]
  · rw [level_responseGranted]
    exact Nat.mod_eq_of_lt (Nat.lt_succ_of_le (responseCheck_accepted h).2)

/-- R591: a failure is told and counted. -/
def responseRefused (s : State) (c path : Nat) : State :=
  let fails := s.clk.elapsed :: s.sec.fails.filter (fun t => s.clk.elapsed < t + 600 * secTicks)
  let s3 := stat (raise s 239 c path) 0xC050 6
  if 8 ≤ fails.length then { s3 with sec := { s3.sec with fails := [], lockout := some s.clk.elapsed, chal := none } }
  else { s3 with sec := { s3.sec with fails := fails } }

theorem debugResponse_of_failed_eq {path : Nat} {b : List Byte} (owner : Option (Transport × Nat)) (h : responseCheck s path b ≠ 0x10) :
    debugResponse s path b owner = (responseCheck s path b, responseRefused (responseTaken s path b) (responseCheck s path b) path) := by
  unfold debugResponse
  rw [if_neg h]
  rfl

/-- A failure leaves the session, the level and the instruction of the TAP. -/
theorem responseRefused_leaves (c path : Nat) :
    (responseRefused s c path).sec.session = s.sec.session ∧ (responseRefused s c path).sec.dbgLevel = s.sec.dbgLevel ∧
      (responseRefused s c path).sec.tapIr = s.sec.tapIr ∧
      rf (responseRefused s c path) .dbgStat [] 23 16 = rf s .dbgStat [] 23 16 ∧ Fires (responseRefused s c path) 239 := by
  have hstat : SameBut [.stats, .evt] [.evtRpt] s (stat (raise s 239 c path) 0xC050 6) :=
    (stat_same 0xC050 6 1 (Nat.and_self _) (raise_same 239 c path (by decide) (Same.refl _ s))).but
  have hsec := hstat.sec (by decide)
  have hrd : rd (stat (raise s 239 c path) 0xC050 6) .dbgStat [] = rd s .dbgStat [] :=
    hstat.rd_eq_apart (by decide) (by decide) (by decide)
  have hf := (fires_raise (s := s) 239 c path).stat 0xC050 6 1
  unfold responseRefused
  dsimp only
  generalize stat (raise s 239 c path) 0xC050 6 = u at hsec hrd hf
  split
  · exact ⟨by rw [← hsec], by rw [← hsec], by rw [← hsec], congrArg (bitsOf · 23 16) hrd, hf⟩
  · exact ⟨by rw [← hsec], by rw [← hsec], by rw [← hsec], congrArg (bitsOf · 23 16) hrd, hf⟩

/-- R591: a response that fails leaves the session, the level and the instruction of the TAP, and its code. -/
theorem debugResponse_of_failed {path : Nat} {b : List Byte} (owner : Option (Transport × Nat)) (h : responseCheck s path b ≠ 0x10) :
    (debugResponse s path b owner).2.sec.session = s.sec.session ∧ (debugResponse s path b owner).2.sec.dbgLevel = s.sec.dbgLevel ∧
      (debugResponse s path b owner).2.sec.tapIr = s.sec.tapIr ∧
      rf (debugResponse s path b owner).2 .dbgStat [] 23 16 = responseCheck s path b ∧ Fires (debugResponse s path b owner).2 239 := by
  rw [debugResponse_of_failed_eq owner h]
  obtain ⟨hsession, hlevel, hir, hstat, hf⟩ := responseRefused_leaves (s := responseTaken s path b) (responseCheck s path b) path
  obtain ⟨c, hc⟩ := responseTaken_sec (s := s) path b
  rw [hc] at hsession hlevel hir
  exact ⟨hsession, hlevel, hir, hstat.trans (result_responseTaken path b), hf⟩

/-- The code of a response is the result of its submission. -/
theorem debugResponse_fst (path : Nat) (b : List Byte) (owner : Option (Transport × Nat)) :
    (debugResponse s path b owner).1 = responseCheck s path b := by
  by_cases h : responseCheck s path b = 0x10
  · rw [debugResponse_of_accepted_eq owner h, h]
  · rw [debugResponse_of_failed_eq owner h]

/-- R589: the challenge that is read is the current one. -/
theorem challengeRead_of_some {c : Nat × List Byte} (hl : s.lockedOut = false) (hc : s.challenge = some c) : challengeRead s = (c, s) := by
  simp [challengeRead, hl, hc]

/-- R589: with none current a challenge of 48 bytes is issued. -/
theorem challengeRead_of_none (hl : s.lockedOut = false) (hc : s.challenge = none) :
    ((challengeRead s).2.sec.chal.map fun c => (c.1, c.2.1.length, c.2.2)) = some ((s.sec.chalNo + 1) % 2 ^ 32, 48, s.clk.elapsed) ∧
      (challengeRead s).2.out = s.out := by
  unfold challengeRead
  rw [if_neg (by simp [hl]), hc]
  exact ⟨by simp [drawBytes], rfl⟩

/-! ## The instructions -/

theorem completes_scan_refused {c : Instr} {f : State → State} (hx : exec c s = .next (tapDo s (scanAllowed s) f)) (hr : tapRuns s = true)
    (hd : s.sec.dbgLevel < 3) : exec c s = .next (tapBypass s) := by
  rw [hx, scanAllowed_of_lt hd, tapDo_of_refused hr]

theorem tapBypass_cells : (tapBypass s).sec.cells = s.sec.cells := by
  show (tapSelect (bump s .dbgFails []) 0xFF).sec.cells = s.sec.cells
  rw [tapSelect_sec, bump_sec]

/-- R587: an instruction that acts as BYPASS is counted. -/
theorem rd_dbgFails_tapBypass : rd (tapBypass s) .dbgFails [] = min 0xFFFFFFFF (rd s .dbgFails [] + 1) :=
  (rd_tapSelect (s := bump s .dbgFails []) (by decide) 0xFF).trans (rd_bump _ _ _ _ (by decide))

theorem tapBypass_mem : (tapBypass s).mem = s.mem := (tapBypass_same (Nat.and_self _) (Same.refl _ s)).but.mem (by decide)

/-- The boundary cells captured and preloaded under an instruction. -/
def scanned (s : State) (ir cells capture : Nat) : State :=
  emit { tapSelect s ir with sec := { (tapSelect s ir).sec with cells := cells % 2 ^ cellCount } }
    (.tap cellCount (capture % 2 ^ cellCount))

theorem completes_extest (cells capture : Nat) (hr : tapRuns s = true) (hd : 3 ≤ s.sec.dbgLevel) (ho : allOff s = true) :
    Completes (.extest cells capture) s fun t =>
      t.sec.tapIr = 0x00 ∧ t.sec.cells = cells % 2 ^ cellCount ∧ t.out = s.out ++ [.tap cellCount (capture % 2 ^ cellCount)] ∧
      rd t .bdacDrnStat [] = 0 := by
  refine ⟨scanned s 0x00 cells capture, by rw [exec_extest, execExtest, scanAllowed_of hd ho, tapDo_of_runs hr]; rfl, ?_, rfl, ?_, rd_bdacDrnStat_tapSelect (Or.inl rfl)⟩
  · exact congrArg Sec.tapIr (tapSelect_sec (s := s) 0x00)
  · rw [scanned, emit_out, tapSelect_out (s := s) 0x00]

theorem completes_samplePreload (cells capture : Nat) (hr : tapRuns s = true) :
    Completes (.samplePreload cells capture) s fun t =>
      t.sec.tapIr = 0x01 ∧ t.sec.cells = cells % 2 ^ cellCount ∧ t.out = s.out ++ [.tap cellCount (capture % 2 ^ cellCount)] := by
  refine ⟨scanned s 0x01 cells capture, by rw [exec_samplePreload, execSamplePreload, tapDo_of_runs hr]; rfl, ?_, rfl, ?_⟩
  · exact congrArg Sec.tapIr (tapSelect_sec (s := s) 0x01)
  · rw [scanned, emit_out, tapSelect_out (s := s) 0x01]

/-- An instruction selected and something shifted out. -/
theorem emit_tapSelect_leaves (ir : Nat) (m : OutMsg) :
    (emit (tapSelect s ir) m).sec = { s.sec with tapIr := ir } ∧ (emit (tapSelect s ir) m).out = s.out ++ [m] :=
  ⟨tapSelect_sec ir, by rw [emit_out, tapSelect_out]⟩

theorem completes_idcode_off (hr : tapRuns s = false) (hm : spGet 0 s.stats (okey 0xB111 6) < statMax) :
    Completes .idcode s fun t =>
      t.sec = s.sec ∧ t.out = s.out ∧ spGet 0 t.stats (okey 0xB111 6) = spGet 0 s.stats (okey 0xB111 6) + 1 := by
  have hb : bitOf (spGet 0 s.stats (okey 0xB111 6)) 63 = false := by
    unfold statMax at hm
    unfold bitOf
    generalize spGet 0 s.stats (okey 0xB111 6) = v at hm
    rw [Nat.shiftRight_eq_div_pow, Nat.div_eq_of_lt (Nat.lt_trans hm (by decide))]
    rfl
  refine ⟨stat s 0xB111 6, by rw [exec_idcode, execIdcode, tapDo, if_pos (by simp [hr])], ?_, ?_, ?_⟩
  · exact (stat_same 0xB111 6 1 (Nat.and_self _) (Same.refl _ s)).but.sec (by decide)
  · exact (stat_same 0xB111 6 1 (Nat.and_self _) (Same.refl _ s)).but.out (by decide)
  · rw [stat, if_neg (by rw [hb]; decide), if_neg (by omega)]
    dsimp only
    exact spGet_spPut_same (α := Nat) 0 s.stats (okey 0xB111 6) _

theorem completes_dbgChal {id : Nat} {c : List Byte} (hr : tapRuns s = true) (hl : s.lockedOut = false) (hc : s.challenge = some (id, c)) :
    Completes .dbgChal s fun t => t.sec.tapIr = 0x10 ∧ t.sec.chal = s.sec.chal ∧ t.out = s.out ++ [.tap 416 (id * 2 ^ 384 + beNum c)] := by
  have hsec := tapSelect_sec (s := s) 0x10
  have hclk : (tapSelect s 0x10).clk = s.clk := (tapSelect_leaves 0x10).clk (by decide)
  have hread : challengeRead (tapSelect s 0x10) = ((id, c), tapSelect s 0x10) :=
    challengeRead_of_some (by rw [lockedOut_of_same (by rw [hsec]) hclk, hl]) (by rw [challenge_of_same (by rw [hsec]) hclk, hc])
  refine ⟨emit (tapSelect s 0x10) (.tap 416 (id * 2 ^ 384 + beNum c)), ?_, ?_⟩
  · rw [exec_dbgChal, execDbgChal, tapDo_of_runs hr]
    dsimp only
    rw [hread]
  · obtain ⟨hs, ho⟩ := emit_tapSelect_leaves (s := s) 0x10 (.tap 416 (id * 2 ^ 384 + beNum c))
    exact ⟨by rw [hs], by rw [hs], ho⟩

theorem completes_dbgChal_none (hr : tapRuns s = true) (hl : s.lockedOut = false) (hc : s.challenge = none) :
    Completes .dbgChal s fun t =>
      (t.sec.chal.map fun c => (c.1, c.2.1.length, c.2.2)) = some ((s.sec.chalNo + 1) % 2 ^ 32, 48, s.clk.elapsed) ∧
      t.out.length = s.out.length + 1 := by
  have hsec := tapSelect_sec (s := s) 0x10
  have hclk : (tapSelect s 0x10).clk = s.clk := (tapSelect_leaves 0x10).clk (by decide)
  obtain ⟨hchal, hout⟩ := challengeRead_of_none (s := tapSelect s 0x10) (by rw [lockedOut_of_same (by rw [hsec]) hclk, hl])
    (by rw [challenge_of_same (by rw [hsec]) hclk, hc])
  rw [hsec, hclk] at hchal
  refine ⟨emit (challengeRead (tapSelect s 0x10)).2
    (.tap 416 ((challengeRead (tapSelect s 0x10)).1.1 * 2 ^ 384 + beNum (challengeRead (tapSelect s 0x10)).1.2)), ?_, hchal, ?_⟩
  · rw [exec_dbgChal, execDbgChal, tapDo_of_runs hr]
  rw [emit_out, hout, tapSelect_out, List.length_append, List.length_singleton]

theorem completes_dbgChal_locked (hr : tapRuns s = true) (hl : s.lockedOut = true) :
    Completes .dbgChal s fun t => t.sec.chal = s.sec.chal ∧ t.out = s.out ++ [.tap 416 0] := by
  have hsec := tapSelect_sec (s := s) 0x10
  have hclk : (tapSelect s 0x10).clk = s.clk := (tapSelect_leaves 0x10).clk (by decide)
  have hread : challengeRead (tapSelect s 0x10) = ((0, List.replicate 48 0), tapSelect s 0x10) := by
    rw [challengeRead, if_pos (by rw [lockedOut_of_same (by rw [hsec]) hclk, hl])]
  refine ⟨emit (tapSelect s 0x10) (.tap 416 0), ?_, ?_⟩
  · rw [exec_dbgChal, execDbgChal, tapDo_of_runs hr]
    dsimp only
    rw [hread]
    dsimp only
    rw [Nat.zero_mul, Nat.zero_add, (by decide : beNum (List.replicate 48 0) = 0)]
  · obtain ⟨hs, ho⟩ := emit_tapSelect_leaves (s := s) 0x10 (.tap 416 0)
    exact ⟨by rw [hs], ho⟩

theorem responseCheck_tapSelect (ir path : Nat) (b : List Byte) : responseCheck (tapSelect s ir) path b = responseCheck s path b :=
  have hl := tapSelect_leaves (s := s) ir
  responseCheck_of_same (by rw [tapSelect_sec]) (hl.clk (by decide)) (hl.nv (by decide)) (hl.straps (by decide)) (hl.pwr (by decide))
    (rd_tapSelect (by decide) ir) path b

theorem completes_dbgResp {response : List Byte} (hr : tapRuns s = true) (h192 : response.length = 192) :
    Completes (.dbgResp response) s fun t =>
      t.sec.tapIr = 0x11 ∧ rf t .dbgStat [] 23 16 = responseCheck s 0 response ∧
      (responseCheck s 0 response = 0x10 →
        t.sec.chal = none ∧ t.sec.dbgLevel = beAt response 8 1 ∧ rf t .dbgStat [] 1 0 = beAt response 8 1 ∧ Fires t 238 ∧
        t.sec.session = some ⟨beAt response 8 1, 0, s.clk.elapsed + beAt response 16 2 * 60 * secTicks, none⟩) ∧
      (responseCheck s 0 response ≠ 0x10 → t.sec.session = s.sec.session ∧ t.sec.dbgLevel = s.sec.dbgLevel ∧ Fires t 239) := by
  have hsec := tapSelect_sec (s := s) 0x11
  have hclk : (tapSelect s 0x11).clk = s.clk := (tapSelect_leaves 0x11).clk (by decide)
  have hcode := responseCheck_tapSelect (s := s) 0x11 0 response
  refine ⟨(debugResponse (tapSelect s 0x11) 0 response none).2, ?_, ?_⟩
  · rw [exec_dbgResp, execDbgResp, tapDo_of_runs hr, List.take_left' h192]
  by_cases h : responseCheck s 0 response = 0x10
  · obtain ⟨hs, hstat, hlevel, hf⟩ := debugResponse_of_accepted none (hcode.trans h)
    rw [hsec, sessionOf, hclk] at hs
    refine ⟨by rw [hs], hstat.trans h.symm, fun _ => ⟨by rw [hs], by rw [hs], hlevel, hf, by rw [hs]⟩, fun hne => absurd h hne⟩
  · obtain ⟨hsession, hlevel, hir, hstat, hf⟩ := debugResponse_of_failed none (hcode.symm ▸ h)
    rw [hsec] at hsession hlevel hir
    exact ⟨hir, hstat.trans hcode, fun h' => absurd h' h, fun _ => ⟨hsession, hlevel, hf⟩⟩

theorem completes_dbgPort_none (addr : Nat) (wide : Bool) (data : Nat) (hr : tapRuns s = true) (hd : 1 ≤ s.sec.dbgLevel) :
    Completes (.dbgPort addr 0 wide data) s fun t =>
      t.sec.tapIr = 0x12 ∧ t.out = s.out ++ [.tap 112 (s.sec.portStatus + s.sec.portData * 2 ^ 48)] ∧
      t.sec.portStatus = s.sec.portStatus ∧ t.sec.portData = s.sec.portData := by
  obtain ⟨hs, ho⟩ := emit_tapSelect_leaves (s := s) 0x12 (.tap 112 (s.sec.portStatus + s.sec.portData * 2 ^ 48))
  refine ⟨_, by rw [exec_dbgPort, execDbgPort, decide_eq_true hd, tapDo_of_runs hr]; rfl, by rw [hs], ho, by rw [hs], by rw [hs]⟩

/-- R586: at D1 a write through the port is refused and counted. -/
theorem completes_dbgPort_write_refused (addr : Nat) (wide : Bool) (data : Nat) (hr : tapRuns s = true) (hd : s.sec.dbgLevel = 1) :
    Completes (.dbgPort addr 2 wide data) s fun t =>
      t.sec.portStatus = 2 ∧ t.mem = s.mem ∧ rd t .dbgFails [] = min 0xFFFFFFFF (rd s .dbgFails [] + 1) := by
  obtain ⟨u, hu⟩ : ∃ u, emit (tapSelect s 0x12) (.tap 112 (s.sec.portStatus + s.sec.portData * 2 ^ 48)) = u := ⟨_, rfl⟩
  have hlevel : u.sec.dbgLevel = 1 := by rw [← hu, (emit_tapSelect_leaves 0x12 _).1, ← hd]
  have hmem : u.mem = s.mem := by rw [← hu]; exact (tapSelect_leaves 0x12).mem (by decide)
  have hrd : rd u .dbgFails [] = rd s .dbgFails [] := by rw [← hu]; exact rd_tapSelect (by decide) 0x12
  have haccess (size a x : Nat) : debugAccess u 2 size a x = (3, 0, bump u .dbgFails []) := by simp [debugAccess, hlevel]
  refine ⟨{ bump u .dbgFails [] with sec := { u.sec with portStatus := 2, portData := 0 } }, ?_, rfl, hmem, ?_⟩
  · rw [exec_dbgPort, execDbgPort, decide_eq_true (by omega), tapDo_of_runs hr]
    dsimp only
    rw [if_neg (by decide), hu, haccess]
    rfl
  · rw [← hrd]
    exact rd_bump u _ _ _ (by decide)

theorem completes_dbgPort_bypass (addr op : Nat) (wide : Bool) (data : Nat) (hr : tapRuns s = true) (hd : s.sec.dbgLevel = 0) :
    Completes (.dbgPort addr op wide data) s fun t => t.sec.tapIr = 0xFF ∧ t.mem = s.mem ∧ t.out = s.out ++ [.tap 1 0] :=
  ⟨tapBypass s, by rw [exec_dbgPort, execDbgPort, decide_eq_false (by omega), tapDo_of_refused hr], tapBypass_tapIr, tapBypass_mem,
    tapBypass_out⟩

theorem completes_bypass (hr : tapRuns s = true) :
    Completes (.bypass 0xFF) s fun t => t.sec.tapIr = 0xFF ∧ t.out = s.out ++ [.tap 1 0] ∧ rd t .dbgFails [] = rd s .dbgFails [] := by
  obtain ⟨hs, ho⟩ := emit_tapSelect_leaves (s := s) 0xFF (.tap 1 0)
  exact ⟨_, by rw [exec_bypass, execBypass, if_pos rfl, tapDo_of_runs hr], by rw [hs], ho, rd_tapSelect (by decide) 0xFF⟩

/-- R587: a code that is not listed is never permitted. -/
theorem tapPermitted_of_unlisted {ir : Nat} (h : ir ∉ [0x00, 0x01, 0x02, 0x03, 0x04, 0x10, 0x11, 0x12, 0x13, 0xFF]) :
    ir ≠ 0xFF ∧ tapPermitted s ir = false := by
  simp only [List.mem_cons, List.not_mem_nil, not_or] at h
  simp [tapPermitted, h]

theorem completes_bypass_unlisted {ir : Nat} (hr : tapRuns s = true)
    (h : ir ∉ [0x00, 0x01, 0x02, 0x03, 0x04, 0x10, 0x11, 0x12, 0x13, 0xFF]) :
    Completes (.bypass ir) s fun t =>
      t.sec.tapIr = 0xFF ∧ t.out = s.out ++ [.tap 1 0] ∧ rd t .dbgFails [] = min 0xFFFFFFFF (rd s .dbgFails [] + 1) := by
  obtain ⟨hff, hp⟩ := tapPermitted_of_unlisted (s := s) h
  exact ⟨tapBypass s, by rw [exec_bypass, execBypass, if_neg hff, if_neg (by simp [hp]), tapDo_of_refused hr], tapBypass_tapIr,
    tapBypass_out, rd_dbgFails_tapBypass⟩

/-- Settles O55: an instruction selected changes of security the instruction register alone; the rest is each instruction's own. -/
theorem tapCommandsComplete : Obligations.TapCommandsComplete := by
  unfold Obligations.TapCommandsComplete
  refine ⟨fun s cells capture hr hd ho => completes_extest cells capture hr hd ho, fun s cells capture hr hd => ?extestRefused,
    fun s cells capture hr => completes_samplePreload cells capture hr, fun s hr => ?idcode, fun s hr hm => completes_idcode_off hr hm,
    fun s hr hd ho => ?clamp, fun s hr hd ho => ?highz, fun s id c hr hl hc => completes_dbgChal hr hl hc,
    fun s hr hl hc => completes_dbgChal_none hr hl hc, fun s hr hl => completes_dbgChal_locked hr hl,
    fun s response hr h192 => completes_dbgResp hr h192, fun s addr wide data hr hd => completes_dbgPort_none addr wide data hr hd,
    fun s addr wide data hr hd => completes_dbgPort_write_refused addr wide data hr hd,
    fun s addr op wide data hr hd => completes_dbgPort_bypass addr op wide data hr hd, fun s hr => ?dbgStatus,
    fun s hr => completes_bypass hr, fun s ir hr h => completes_bypass_unlisted hr h, fun s hr => ?tapReset⟩
  case extestRefused =>
    exact ⟨_, completes_scan_refused (exec_extest cells capture s) hr hd, tapBypass_tapIr, tapBypass_cells, tapBypass_out,
      rd_dbgFails_tapBypass⟩
  case idcode =>
    obtain ⟨hs, ho⟩ := emit_tapSelect_leaves (s := s) 0x02 (.tap 32 idcode)
    exact ⟨_, by rw [exec_idcode, execIdcode, tapDo_of_runs hr], by rw [hs], ho⟩
  case clamp =>
    obtain ⟨hs, hout⟩ := emit_tapSelect_leaves (s := s) 0x03 (.tap 1 0)
    exact ⟨_, by rw [exec_clamp, execClamp, scanAllowed_of hd ho, tapDo_of_runs hr], by rw [hs], hout,
      rd_bdacDrnStat_tapSelect (Or.inr (Or.inl rfl))⟩
  case highz =>
    obtain ⟨hs, hout⟩ := emit_tapSelect_leaves (s := s) 0x04 (.tap 1 0)
    exact ⟨_, by rw [exec_highz, execHighz, scanAllowed_of hd ho, tapDo_of_runs hr], by rw [hs], hout,
      rd_bdacDrnStat_tapSelect (Or.inr (Or.inr rfl))⟩
  case dbgStatus =>
    obtain ⟨hs, ho⟩ := emit_tapSelect_leaves (s := s) 0x13 (.tap 32 (readReg s .dbgStat []))
    exact ⟨_, by rw [exec_dbgStatus, execDbgStatus, tapDo_of_runs hr], by rw [hs], ho⟩
  case tapReset =>
    exact ⟨_, by rw [exec_tapReset, execTapReset, tapDo_of_runs hr], by rw [tapSelect_sec], tapSelect_out 0x02⟩

end Sys2Proof.Machine
end

section
/-!
Debug sessions, halts and the end of an old key (R578, R586 to R598): the settlement of O56.
-/

namespace Sys2Proof.Machine

set_option Elab.async false

variable {s t : State}

/-- A fold over a list with one place where something happens: `P` holds until then, `Q` afterwards. -/
theorem foldl_reaches {α β : Type} {f : β → α → β} {P Q : β → Prop} {a : α} {l : List α} {s : β}
    (hp : ∀ u, ∀ i ∈ l, i ≠ a → P u → P (f u i)) (hq : ∀ u, ∀ i ∈ l, i ≠ a → Q u → Q (f u i)) (ha : ∀ u, P u → Q (f u a)) (hn : l.Nodup)
    (hm : a ∈ l) (h : P s) : Q (l.foldl f s) := by
  obtain ⟨l₁, l₂, rfl⟩ := List.append_of_mem hm
  have hne : ∀ i ∈ l₁ ++ l₂, i ≠ a := fun i hi he => (List.nodup_middle.1 hn).notMem (he ▸ hi)
  rw [List.foldl_append, List.foldl_cons]
  refine List.foldlRecOn l₂ f (ha _ ?_) fun u hu i hi =>
    hq u i (List.mem_append_right _ (List.mem_cons_of_mem _ hi)) (hne i (List.mem_append_right _ hi)) hu
  exact List.foldlRecOn l₁ f h fun u hu i hi => hp u i (List.mem_append_left _ hi) (hne i (List.mem_append_left _ hi)) hu

/-! ## Sessions end (R596) -/

theorem releaseScan_sec : ∃ ir, (releaseScan s).sec = { s.sec with tapIr := ir } := by
  unfold releaseScan
  split
  · exact ⟨0x02, drainRise_leaves.sec (by decide)⟩
  · exact ⟨s.sec.tapIr, rfl⟩

/-- A register that neither the interlock, the bank controls, DBG_STAT nor the events hold stays as a session ends, from the halts'
release on. -/
theorem rd_sessionLeaves {id : RegId} (h : id = .dbgEngHalt ∨ id = .dbgCoreCtrl) : rd (sessionLeaves s) id [] = rd (releaseHalts s) id [] := by
  have hscan (u : State) : rd (releaseScan u) id [] = rd u id [] :=
    ((releaseScan_same (Nat.and_self _) (Same.refl _ u)).but).rd_eq_apart (by decide) (by decide)
      (by rcases h with rfl | rfl <;> decide)
  have hfold (l : List Nat) (u : State) : rd (l.foldl (fun s b => wbit s .memBankCtrl [b] 0 false) u) id [] = rd u id [] := by
    refine List.foldlRecOn (motive := fun v : State => rd v id [] = rd u id []) l _ rfl fun v hv b _ => ?_
    rw [rd_wbit_other _ _ _ _ _ _ _ (regAddr_ne _ _ (by rcases h with rfl | rfl <;> decide)), hv]
  unfold sessionLeaves
  dsimp only
  rw [wf, rd_wr_other _ _ _ _ _ _ (regAddr_ne _ _ (by rcases h with rfl | rfl <;> decide)), hscan]
  exact hfold _ _

/-- R595: every halt is released. -/
theorem rd_releaseHalts {id : RegId} (h : id = .dbgEngHalt ∨ id = .dbgCoreCtrl) : rd (releaseHalts s) id [] = 0 := by
  have hres (u : State) : rd (firmwareResumes u) id [] = rd u id [] :=
    ((firmwareResumes_same (Nat.and_self _) (Same.refl _ u)).but).rd_eq_apart (by decide) (by decide)
      (by rcases h with rfl | rfl <;> decide)
  have hwr (u : State) : rd (wr (wr u .dbgEngHalt [] 0) .dbgCoreCtrl [] 0) id [] = 0 := by
    rcases h with rfl | rfl
    · rw [rd_wr_other _ _ _ _ _ _ (regAddr_ne _ _ (by decide)), rd_wr_same, Nat.zero_mod]
    · rw [rd_wr_same, Nat.zero_mod]
  unfold releaseHalts
  dsimp only
  split
  · rw [hres, hwr]
  · exact hwr _

theorem sessionLeaves_sec : (sessionLeaves s).sec.session = none ∧ (sessionLeaves s).sec.dbgLevel = 0 := by
  unfold sessionLeaves
  dsimp only
  rw [wf_sec]
  obtain ⟨ir, h⟩ := releaseScan_sec (s := { (releaseHalts s).sec.frozen.foldl (fun s b => wbit s .memBankCtrl [b] 0 false) (releaseHalts s) with
    sec := { ((releaseHalts s).sec.frozen.foldl (fun s b => wbit s .memBankCtrl [b] 0 false) (releaseHalts s)).sec with
      frozen := [], session := none, dbgLevel := 0 } })
  rw [h]
  exact ⟨rfl, rfl⟩

/-- What the end of a debug session leaves (R596). -/
theorem endDebug_leaves {x : DbgSession} (h : s.sec.session = some x) :
    (endDebug s).sec.session = none ∧ (endDebug s).sec.dbgLevel = 0 ∧ rf (endDebug s) .dbgStat [] 1 0 = 0 ∧
      rd (endDebug s) .dbgEngHalt [] = 0 ∧ rd (endDebug s) .dbgCoreCtrl [] = 0 ∧ Fires (endDebug s) 240 := by
  have he : endDebug s = raise (sessionLeaves s) 240 x.level NA := by rw [endDebug, h]
  have hrd {id : RegId} (hid : id = .dbgEngHalt ∨ id = .dbgCoreCtrl) : rd (endDebug s) id [] = 0 := by
    rw [he, rd_raise (by rcases hid with rfl | rfl <;> decide), rd_sessionLeaves hid, rd_releaseHalts hid]
  refine ⟨?_, ?_, ?_, hrd (Or.inl rfl), hrd (Or.inr rfl), he ▸ fires_raise ..⟩
  · rw [he, raise_sec, sessionLeaves_sec.1]
  · rw [he, raise_sec, sessionLeaves_sec.2]
  · rw [he, rf, rd_raise (by decide)]
    exact rf_wf _ _ _ _ _ _ (by decide) (by decide)

/-- A write that the debug window refuses is counted (R598). -/
theorem dbgRefuse_leaves (tag : Nat) :
    (dbgRefuse s tag).sec = s.sec ∧ rd (dbgRefuse s tag) .dbgFails [] = min 0xFFFFFFFF (rd s .dbgFails [] + 1) ∧
      rd (dbgRefuse s tag) .dbgCoreCtrl [] = rd s .dbgCoreCtrl [] ∧ Fires (dbgRefuse s tag) 224 := by
  refine ⟨?_, ?_, ?_, fires_raise ..⟩
  · rw [dbgRefuse, firewall, raise_sec, bump_sec]
  · rw [dbgRefuse, firewall, rd_raise (by decide), rd_bump _ _ _ _ (by decide)]
  · rw [dbgRefuse, firewall, rd_raise (by decide)]
    exact rd_wr_other _ _ _ _ _ _ (regAddr_ne _ _ (by decide))

theorem completes_debugSessionExpiry {x : DbgSession} (h : s.sec.session = some x) :
    Completes .debugSessionExpiry s fun t =>
      t.sec.session = none ∧ t.sec.dbgLevel = 0 ∧ t.clk.elapsed = max s.clk.elapsed x.expiry ∧ Fires t 240 := by
  have hs : (reachElapsed s x.expiry).sec.session = some x := by
    rw [(reachElapsed_same x.expiry (Nat.and_self _) (Same.refl _ s)).but.sec (by decide), h]
  obtain ⟨hsession, hlevel, -, -, -, hf⟩ := endDebug_leaves hs
  refine ⟨endDebug (reachElapsed s x.expiry), by rw [exec_debugSessionExpiry, execDebugSessionExpiry, h], hsession, hlevel, ?_, hf⟩
  rw [(endDebug_same (Nat.and_self _) (Same.refl _ (reachElapsed s x.expiry))).but.clk (by decide), reachElapsed_elapsed]

/-! ## Challenges, responses and the tunnel (R588 to R591) -/

theorem completes_debugResponse {tr : Transport} {id : Nat} {b : List Byte} (htr : tr = .spi ∨ tr = .t1s)
    (h : s.diong.sessions.any (fun x => decide (x.transport = tr) && decide (x.id = id)) = true) :
    Completes (.debugResponse tr id b) s fun t =>
      t.out = s.out ++ [.result (responseCheck s 1 b) []] ∧ rf t .dbgStat [] 23 16 = responseCheck s 1 b ∧
      (responseCheck s 1 b = 0x10 → t.sec.dbgLevel = beAt b 8 1 ∧ (t.sec.session.bind (·.owner)) = some (tr, id) ∧ Fires t 238) ∧
      (responseCheck s 1 b ≠ 0x10 → t.sec.session = s.sec.session ∧ Fires t 239) := by
  have hout : (answer (debugResponse s 1 b (some (tr, id)))).out = s.out ++ [.result (responseCheck s 1 b) []] := by
    rw [answer, emit_out, debugResponse_fst, (debugResponse_same 1 b (some (tr, id)) (Nat.and_self _) (Same.refl _ s)).but.out (by decide)]
  refine ⟨answer (debugResponse s 1 b (some (tr, id))), ?_, hout, ?_⟩
  · rw [exec_debugResponse]
    rcases htr with rfl | rfl
    · exact if_pos h
    · exact if_pos h
  by_cases hc : responseCheck s 1 b = 0x10
  · obtain ⟨hs, hstat, -, hf⟩ := debugResponse_of_accepted (some (tr, id)) hc
    exact ⟨hstat.trans hc.symm, fun _ => ⟨congrArg Sec.dbgLevel hs, congrArg (fun x : Sec => x.session.bind (·.owner)) hs, hf⟩,
      fun hne => absurd hc hne⟩
  · obtain ⟨hsession, -, -, hstat, hf⟩ := debugResponse_of_failed (some (tr, id)) hc
    exact ⟨hstat, fun h' => absurd h' hc, fun _ => ⟨hsession, hf⟩⟩

/-- R588: each entry of a list comes back in 16 bytes. -/
theorem length_tunnelEntries (n : Nat) (b : List Byte) : (tunnelEntries n b s).1.length = 16 * n := by
  induction n generalizing b s with
  | zero => rfl
  | succ n ih =>
    unfold tunnelEntries
    dsimp only
    rw [List.length_append, List.length_append, List.length_append, ih]
    simp [beBytes, sliceBytes]
    omega

theorem completes_debugTunnel {tr : Transport} {id : Nat} {l : List Byte} (ho : tunnelOpen s tr id = true) (h16 : l.length % 16 = 0)
    (hne : l ≠ []) (hlen : l.length ≤ 256) :
    Completes (.debugTunnel tr id l) s fun t => t.sec.tunnel.length = l.length ∧ t.out.getLast? = some (.result 0 t.sec.tunnel) := by
  have hl : tunnelList s l = (0, { (tunnelEntries (l.length / 16) l s).2 with
      sec := { (tunnelEntries (l.length / 16) l s).2.sec with tunnel := (tunnelEntries (l.length / 16) l s).1 } }) := by
    rw [tunnelList, if_neg (by simp [h16, hne, hlen])]
  refine ⟨emit (tunnelList s l).2 (.result 0 (tunnelEntries (l.length / 16) l s).1), ?_, ?_, ?_⟩
  · rw [exec_debugTunnel, execDebugTunnel, if_pos ho, hl]
    rfl
  · rw [hl]
    exact (length_tunnelEntries _ _).trans (by omega)
  · rw [emit_out, List.getLast?_concat, hl]
    rfl

/-! ## Halts (R26, R597, R598) -/

/-- HALT_A and HALT_B stand as they are written. -/
theorem rf_coreCtrl (v : Nat) : rf (coreCtrl s v) .dbgCoreCtrl [] 1 0 = v % 4 := by
  have hw : rf (wf s .dbgCoreCtrl [] 1 0 (v % 4)) .dbgCoreCtrl [] 1 0 = v % 4 :=
    (rf_wf _ _ _ _ _ _ (by decide) (by decide)).trans (Nat.mod_mod _ _)
  unfold coreCtrl
  dsimp only
  split
  · exact (congrArg (bitsOf · 1 0) ((firmwareStops_same (Nat.and_self _) (Same.refl _ _)).but.rd_eq_apart (by decide) (by decide)
      (by decide))).trans hw
  · split
    · exact (congrArg (bitsOf · 1 0) ((firmwareResumes_same (Nat.and_self _) (Same.refl _ _)).but.rd_eq_apart (by decide) (by decide)
        (by decide))).trans hw
    · exact hw

/-- R26, R597: the active pair halted, policy firmware runs no more. -/
theorem coreCtrl_of_halt {v : Nat} (hb : bitOf v s.ctl.active = true) (hr : rbit s .dbgCoreCtrl [] s.ctl.active = false)
    (hf : s.ctl.fwRuns = true) : (coreCtrl s v).ctl.fwRuns = false ∧ (coreCtrl s v).ctl.governedStale = true := by
  rw [coreCtrl, if_pos ⟨hb, by simp [hr], hf⟩, firmwareStops_ctl]
  exact ⟨rfl, rfl⟩

theorem debugD2_of_permitted {f : State → State} (h : 2 ≤ s.sec.dbgLevel) : debugD2 s 5 f = f s := if_pos ⟨rfl, h⟩

theorem bitOf_mod_four {v i : Nat} (h : i < 2) : bitOf (v % 4) i = bitOf v i := by
  have : i = 0 ∨ i = 1 := by omega
  unfold bitOf
  rcases this with rfl | rfl
  · simp [Nat.shiftRight_eq_div_pow]
  · simp [Nat.shiftRight_eq_div_pow]
    omega

theorem completes_coreHalt (value : Nat) (h : 2 ≤ s.sec.dbgLevel) :
    Completes (.coreHalt 5 value) s fun t =>
      rf t .dbgCoreCtrl [] 1 0 = value % 4 ∧ (bitOf value s.ctl.active = true → s.ctl.active < 2 → rbit s .dbgCoreCtrl [] s.ctl.active = false →
        s.ctl.fwRuns = true → t.ctl.fwRuns = false ∧ t.ctl.governedStale = true) := by
  refine ⟨coreCtrl s (value % 4), by rw [exec_coreHalt, execCoreHalt, debugD2_of_permitted h], ?_, fun hb ha hr hf => ?_⟩
  · rw [rf_coreCtrl, Nat.mod_mod]
  · exact coreCtrl_of_halt (by rw [bitOf_mod_four ha, hb]) hr hf

theorem completes_coreStep (value : Nat) (h : 2 ≤ s.sec.dbgLevel) :
    Completes (.coreStep 5 value) s fun t => rf t .dbgCoreCtrl [] 1 0 = rf s .dbgCoreCtrl [] 1 0 := by
  refine ⟨coreCtrl s (rf s .dbgCoreCtrl [] 1 0 + 4 * bitsOf value 3 2), by rw [exec_coreStep, execCoreStep, debugD2_of_permitted h], ?_⟩
  show rf (coreCtrl s _) .dbgCoreCtrl [] 1 0 = _
  rw [rf_coreCtrl]
  have : rf s .dbgCoreCtrl [] 1 0 < 4 := Nat.mod_lt _ (by decide)
  omega

/-- One engine of a write of DBG_ENG_HALT. -/
def haltStep (v : Nat) (s : State) (e : Nat) : State :=
  if bitOf v e = rbit s .dbgEngHalt [] e then s else wbit (engineHalt s e (bitOf v e)) .dbgEngHalt [] e (bitOf v e)

theorem engineHalts_eq (v : Nat) : engineHalts s v = (List.range 18).foldl (haltStep v) s := rfl

theorem rbit_wbit_apart {id : RegId} {ix : List Nat} {i j : Nat} (x : Bool) (hj : j < (regRow id).width) (h : j ≠ i) :
    rbit (wbit s id ix i x) id ix j = rbit s id ix j :=
  rbit_eq_of_rf (rf_wf_apart _ _ _ _ _ _ _ _ (Nat.le_refl _) hj (by omega) (Nat.le_refl _))

theorem resumeEngine_eng_other {e i : Nat} (h : e ≠ i) : (resumeEngine s i).eng e = s.eng e := by
  unfold resumeEngine
  dsimp only
  split
  · exact eng_setEng_other (s := s) _ h
  · rfl

theorem resumeEngine_rbit (i e : Nat) : rbit (resumeEngine s i) .dbgEngHalt [] e = rbit s .dbgEngHalt [] e := by
  unfold resumeEngine
  dsimp only
  split <;> rfl

/-- An engine whose bit is 0 goes on, and the others stay. -/
theorem haltStep_other {v e i : Nat} (he : e < 18) (h : i ≠ e) (hv : bitOf v i = false) :
    (haltStep v s i).eng e = s.eng e ∧ rbit (haltStep v s i) .dbgEngHalt [] e = rbit s .dbgEngHalt [] e := by
  unfold haltStep
  split
  · exact ⟨rfl, rfl⟩
  · rw [hv, rbit_wbit_apart _ (Nat.lt_of_lt_of_le he (by decide)) (Ne.symm h)]
    exact ⟨resumeEngine_eng_other (Ne.symm h), resumeEngine_rbit i e⟩

/-- What a write of DBG_ENG_HALT makes of an engine when every other one's bit is 0. -/
theorem engineHalts_at {v e : Nat} {Q : Eng → Bool → Prop} (he : e < 18) (hv : ∀ i, i ≠ e → bitOf v i = false)
    (hQ : ∀ u : State, u.eng e = s.eng e → rbit u .dbgEngHalt [] e = rbit s .dbgEngHalt [] e →
      Q ((haltStep v u e).eng e) (rbit (haltStep v u e) .dbgEngHalt [] e)) :
    Q ((engineHalts s v).eng e) (rbit (engineHalts s v) .dbgEngHalt [] e) := by
  rw [engineHalts_eq]
  refine foldl_reaches (P := fun u => u.eng e = s.eng e ∧ rbit u .dbgEngHalt [] e = rbit s .dbgEngHalt [] e)
    (Q := fun u => Q (u.eng e) (rbit u .dbgEngHalt [] e)) (a := e) ?_ ?_ (fun u hu => hQ u hu.1 hu.2) List.nodup_range
    (List.mem_range.2 he) ⟨rfl, rfl⟩
  · intro u i _ hi hu
    obtain ⟨h1, h2⟩ := haltStep_other (s := u) he hi (hv i hi)
    exact ⟨h1.trans hu.1, h2.trans hu.2⟩
  · intro u i _ hi hu
    obtain ⟨h1, h2⟩ := haltStep_other (s := u) he hi (hv i hi)
    rwa [h1, h2]

theorem bitOf_two_pow (e i : Nat) : bitOf (2 ^ e) i = decide (i = e) := by
  rw [bitOf, Nat.shiftRight_eq_div_pow, ← Nat.testBit_eq_decide_div_mod_eq, Nat.testBit_two_pow]
  simp [eq_comm]

theorem completes_engineHalt {e : Nat} (he : e < 18) (h : 2 ≤ s.sec.dbgLevel) (hst : (s.eng e).st = .idle ∨ (s.eng e).st = .spare)
    (hb : rbit s .dbgEngHalt [] e = false) :
    Completes (.engineHalt 5 (2 ^ e)) s fun t => (t.eng e).st = .halted ∧ rbit t .dbgEngHalt [] e = true := by
  refine ⟨engineHalts s (2 ^ e), by rw [exec_engineHalt, execEngineHalt, debugD2_of_permitted h], ?_⟩
  refine engineHalts_at (Q := fun x b => x.st = .halted ∧ b = true) he (fun i hi => by simp [bitOf_two_pow, hi]) fun u hu hr => ?_
  have hne : ¬ ((u.eng e).st = .running ∧ (u.eng e).bundle.slots ≠ []) := by rw [hu]; rcases hst with h' | h' <;> simp [h']
  rw [haltStep, hr, hb, bitOf_two_pow, if_neg (by simp), engineHalt, if_pos (by simp)]
  dsimp only
  rw [if_neg hne, if_pos (by rw [hu]; rcases hst with h' | h' <;> simp [h'])]
  refine ⟨?_, ?_⟩
  · show ((u.setEng e _).eng e).st = .halted
    rw [eng_setEng]
  · rw [rbit_wbit _ _ _ _ _ (Nat.lt_of_lt_of_le he (by decide))]
    simp

theorem completes_engineHalt_release {e : Nat} (he : e < 18) (h : 2 ≤ s.sec.dbgLevel) (hst : (s.eng e).st = .halted)
    (hb : rbit s .dbgEngHalt [] e = true) :
    Completes (.engineHalt 5 0) s fun t =>
      (t.eng e).st = (if (s.eng e).job.isSome then .running else if (s.eng e).wasSpare then .spare else .idle) ∧
      rbit t .dbgEngHalt [] e = false := by
  have hzero (i : Nat) : bitOf 0 i = false := by simp [bitOf]
  refine ⟨engineHalts s 0, by rw [exec_engineHalt, execEngineHalt, debugD2_of_permitted h], ?_⟩
  refine engineHalts_at (Q := fun x b => x.st = (if (s.eng e).job.isSome then .running else if (s.eng e).wasSpare then .spare else .idle) ∧
    b = false) he (fun i _ => hzero i) fun u hu hr => ?_
  rw [haltStep, hr, hb, hzero, if_neg (by simp), engineHalt, if_neg (by simp), resumeEngine]
  rw [if_pos (by rw [hu, hst])]
  refine ⟨?_, rbit_wbit _ _ _ _ _ (Nat.lt_of_lt_of_le he (by decide))⟩
  show ((u.setEng e _).eng e).st = _
  rw [eng_setEng, hu]

/-! ## Times that run out (R578, R589, R591) -/

theorem completes_oldCakTimeout {n : Nat} (hn : n < 4) (h : (spGet (0, []) s.sec.oldCak n).1 ≠ 0) :
    Completes (.oldCakTimeout n false) s fun t =>
      spGet (0, []) t.sec.oldCak n = (0, []) ∧
      t.clk.elapsed = max s.clk.elapsed ((spGet (0, []) s.sec.oldCak n).1 - 1 + 60 * secTicks) := by
  obtain ⟨d, hd⟩ : ∃ d, d = (spGet (0, []) s.sec.oldCak n).1 - 1 + 60 * secTicks := ⟨_, rfl⟩
  refine ⟨{ reachElapsed s d with sec := { (reachElapsed s d).sec with oldCak := spPut (0, []) (reachElapsed s d).sec.oldCak n (0, []) } },
    ?_, ?_, ?_⟩
  · rw [exec_oldCakTimeout, execOldCakTimeout]
    dsimp only
    rw [if_pos ⟨hn, h⟩, if_neg (by decide), ← hd]
  · dsimp only
    rw [spGet_spPut_same]
  · rw [← hd]
    exact reachElapsed_elapsed d

theorem completes_debugChallengeExpiry {c : Nat × List Byte × Nat} (h : s.sec.chal = some c) :
    Completes .debugChallengeExpiry s fun t => t.sec.chal = none ∧ t.clk.elapsed = max s.clk.elapsed (c.2.2 + 60 * secTicks) := by
  refine ⟨{ reachElapsed s (c.2.2 + 60 * secTicks) with sec := { (reachElapsed s (c.2.2 + 60 * secTicks)).sec with chal := none } },
    by rw [exec_debugChallengeExpiry, execDebugChallengeExpiry, h], ?_, reachElapsed_elapsed _⟩
  dsimp only

theorem completes_debugLockoutEnd {e : Nat} (h : s.sec.lockout = some e) :
    Completes .debugLockoutEnd s fun t => t.sec.lockout = none ∧ t.clk.elapsed = max s.clk.elapsed (e + 60 * secTicks) := by
  refine ⟨{ reachElapsed s (e + 60 * secTicks) with sec := { (reachElapsed s (e + 60 * secTicks)).sec with lockout := none } },
    by rw [exec_debugLockoutEnd, execDebugLockoutEnd, h], ?_, reachElapsed_elapsed _⟩
  dsimp only

/-! ## The obligation -/

/-- Settles O56: the end of a session releases what debug held; a write of the halts is one step for each engine. -/
theorem debugCommandsComplete : Obligations.DebugCommandsComplete := by
  unfold Obligations.DebugCommandsComplete
  refine ⟨fun s role id c hr hl hc => ?challenge, fun s n => ⟨_, rfl, rfl, rfl⟩, fun s tr id b htr h => completes_debugResponse htr h,
    fun s n id b => ⟨_, rfl, rfl, rfl⟩, fun s tr id l ho h16 hne hlen => completes_debugTunnel ho h16 hne hlen, fun s tr id l ho => ?closed,
    fun s tag x ht hx => ?close, fun s tag ht => ?refused, fun s x hx => completes_debugSessionExpiry hx,
    fun s value h => completes_coreHalt value h, fun s tag value h => ?haltRefused, fun s value h => completes_coreStep value h,
    fun s e he h hst hb => completes_engineHalt he h hst hb, fun s e he h hst hb => completes_engineHalt_release he h hst hb,
    fun s n hn h => completes_oldCakTimeout hn h, fun s c h => completes_debugChallengeExpiry h, fun s e h => completes_debugLockoutEnd h⟩
  case challenge =>
    refine ⟨emit s (.result 0 (beBytes 4 id ++ c)), ?_, rfl, rfl⟩
    have hread := challengeRead_of_some hl hc
    rw [exec_challengeRead]
    rcases hr with rfl | rfl
    · simp only [execChallengeRead, hread]
    · simp only [execChallengeRead, hread]
  case closed =>
    exact ⟨emit s (.result 3 []), by rw [exec_debugTunnel, execDebugTunnel, if_neg (by simp [ho])], rfl, rfl, rfl⟩
  case close =>
    exact ⟨endDebug s, by rw [exec_dbgClose, execDbgClose, if_pos ht], endDebug_leaves hx⟩
  case refused =>
    obtain ⟨hsec, hfails, -, hf⟩ := dbgRefuse_leaves (s := s) tag
    exact ⟨dbgRefuse s tag, by rw [exec_dbgClose, execDbgClose, if_neg (by omega)], by rw [hsec], hfails, hf⟩
  case haltRefused =>
    obtain ⟨-, -, hctrl, hf⟩ := dbgRefuse_leaves (s := s) tag
    exact ⟨dbgRefuse s tag, by rw [exec_coreHalt, execCoreHalt, debugD2, if_neg (by omega)], hctrl, hf⟩

end Sys2Proof.Machine
end

section
/-!
The security objects and the security mailbox (R475, R569 to R585, R598): the settlement of O53 and O54.
-/

namespace Sys2Proof.Machine

set_option Elab.async false

variable {s t : State}

/-! ## Bytes -/

theorem length_sliceBytes (l : List Byte) (o n : Nat) : (sliceBytes l o n).length = n := by simp [sliceBytes]

theorem length_beBytes (n v : Nat) : (beBytes n v).length = n := by simp [beBytes]

theorem length_leBytes (n v : Nat) : (leBytes n v).length = n := by simp [leBytes]

/-- Bytes taken within a list. -/
theorem sliceBytes_eq {l : List Byte} {o n : Nat} (h : o + n ≤ l.length) : sliceBytes l o n = (l.drop o).take n := by
  refine List.ext_getElem (by simp [sliceBytes]; omega) fun i h1 h2 => ?_
  simp only [sliceBytes, List.length_map, List.length_range] at h1
  simp [sliceBytes, List.getD, List.getElem?_eq_getElem (show o + i < l.length by omega)]

/-- Bytes taken from beyond a beginning of known length. -/
theorem sliceBytes_append_right {a b : List Byte} {o k n : Nat} (h : a.length = k) : sliceBytes (a ++ b) (k + o) n = sliceBytes b o n := by
  unfold sliceBytes
  refine List.map_congr_left fun i _ => ?_
  rw [List.getD_eq_getElem?_getD, List.getD_eq_getElem?_getD, List.getElem?_append_right (by omega)]
  congr 2
  omega

/-- Bytes taken at the front, all of them there. -/
theorem sliceBytes_append_left {a b : List Byte} {n : Nat} (h : a.length = n) : sliceBytes (a ++ b) 0 n = a := by
  rw [sliceBytes_eq (by simp; omega), List.drop_zero, List.take_left' h]

/-- A word of little-endian bytes read back. -/
theorem leBytes_leNum (l : List Byte) : leBytes l.length (leNum l) = l := by
  induction l with
  | nil => rfl
  | cons b l ih =>
    have hs : leBytes (l.length + 1) (leNum (b :: l)) = b :: leBytes l.length (leNum l) := by
      unfold leBytes
      rw [List.range_succ_eq_map, List.map_cons, List.map_map]
      have hb : leNum (b :: l) = leNum l * 256 + b.toNat := rfl
      have hlt : b.toNat < 256 := b.isLt
      congr 1
      · rw [hb]
        apply BitVec.eq_of_toNat_eq
        simp
        omega
      · refine List.map_congr_left fun i _ => ?_
        simp only [Function.comp_apply]
        rw [show 8 * (i + 1) = 8 + 8 * i by omega, Nat.shiftRight_add]
        congr 2
        rw [hb, Nat.shiftRight_eq_div_pow]
        omega
    rw [List.length_cons, hs, ih]

theorem leNum_lt (l : List Byte) : leNum l < 2 ^ (8 * l.length) := by
  induction l with
  | nil => exact Nat.one_pos
  | cons b l ih =>
    have hlt : b.toNat < 256 := b.isLt
    have hb : leNum (b :: l) = leNum l * 256 + b.toNat := rfl
    rw [hb, List.length_cons, show 8 * (l.length + 1) = 8 * l.length + 8 by omega, Nat.pow_add]
    omega

/-- A list cut into blocks of 8 bytes, the last filled up. -/
theorem take_flatten_blocks {b : List Byte} {f : Nat → List Byte} (hl : ∀ i, (f i).length = 8)
    (hf : ∀ i, (f i).take (b.length - 8 * i) = (b.drop (8 * i)).take 8) (n : Nat) :
    (((List.range n).map f).flatten).length = 8 * n ∧ (((List.range n).map f).flatten).take b.length = b.take (8 * n) := by
  induction n with
  | zero => simp
  | succ n ih =>
    obtain ⟨hlen, htake⟩ := ih
    rw [List.range_succ, List.map_append, List.flatten_append, List.length_append, List.take_append, hlen, htake]
    simp only [List.map_cons, List.map_nil, List.flatten_cons, List.flatten_nil, List.append_nil, hl, hf]
    exact ⟨by omega, by rw [show 8 * (n + 1) = 8 * n + 8 by omega, List.take_add]⟩

/-! ## The mailbox's buffer (R598) -/

/-- The words of the buffer are apart. -/
theorem regAddr_secMboxBuf_ne {i j : Nat} (hi : i < 128) (hj : j < 128) (h : i ≠ j) : regAddr .secMboxBuf [i] ≠ regAddr .secMboxBuf [j] := by
  show _ + 8 * (i % 128) ≠ _ + 8 * (j % 128)
  rw [Nat.mod_eq_of_lt hi, Nat.mod_eq_of_lt hj]
  omega

/-- Word `i` of the buffer as a result is put in: bytes beyond the result stay. -/
def mboxWord (b : List Byte) (old i : Nat) : List Byte :=
  sliceBytes b (8 * i) (min 8 (b.length - 8 * i)) ++ (leBytes 8 old).drop (sliceBytes b (8 * i) (min 8 (b.length - 8 * i))).length

theorem length_mboxWord (b : List Byte) (old i : Nat) : (mboxWord b old i).length = 8 := by
  simp only [mboxWord, List.length_append, List.length_drop, length_sliceBytes, length_leBytes]
  omega

theorem take_mboxWord (b : List Byte) (old i : Nat) : (mboxWord b old i).take (b.length - 8 * i) = (b.drop (8 * i)).take 8 := by
  have hdrop : (b.drop (8 * i)).length = b.length - 8 * i := List.length_drop
  by_cases h : b.length ≤ 8 * i
  · rw [Nat.sub_eq_zero_of_le h, List.take_zero, List.drop_eq_nil_of_le h, List.take_nil]
  have hslice : sliceBytes b (8 * i) (min 8 (b.length - 8 * i)) = (b.drop (8 * i)).take 8 := by
    rw [sliceBytes_eq (by omega), ← hdrop, ← List.take_take, List.take_length]
  have hlen : ((b.drop (8 * i)).take 8).length = min 8 (b.length - 8 * i) := by rw [List.length_take, hdrop]
  rw [mboxWord, hslice, List.take_append, hlen, List.take_of_length_le (by omega : ((b.drop (8 * i)).take 8).length ≤ b.length - 8 * i)]
  by_cases h8 : 8 ≤ b.length - 8 * i
  · rw [Nat.min_eq_left h8, List.drop_eq_nil_of_le (Nat.le_of_eq (length_leBytes 8 old)), List.take_nil, List.append_nil]
  · rw [Nat.min_eq_right (by omega), Nat.sub_self, List.take_zero, List.append_nil]

/-- A result put into the buffer. -/
def mboxFilled (s : State) (b : List Byte) : State :=
  (List.range (ceilDiv b.length 8)).foldl (fun s i => wr s .secMboxBuf [i] (leNum (mboxWord b (rd s .secMboxBuf [i]) i))) s

theorem mboxDone_eq (code : Nat) (b : List Byte) :
    mboxDone s code b = wr (mboxFilled s b) .secMboxStat [] (2 + code % 256 * 256 + b.length % 2048 * 65536) := rfl

theorem rd_mboxFilled {b : List Byte} {i : Nat} (hb : b.length ≤ 1024) (hi : i < ceilDiv b.length 8) :
    rd (mboxFilled s b) .secMboxBuf [i] = leNum (mboxWord b (rd s .secMboxBuf [i]) i) := by
  have hn : ceilDiv b.length 8 ≤ 128 := by unfold ceilDiv; rw [if_neg (by decide)]; omega
  have hne {j : Nat} (hj : j ∈ List.range (ceilDiv b.length 8)) (h : j ≠ i) : regAddr .secMboxBuf [i] ≠ regAddr .secMboxBuf [j] :=
    regAddr_secMboxBuf_ne (by omega) (Nat.lt_of_lt_of_le (List.mem_range.1 hj) hn) (Ne.symm h)
  refine foldl_reaches (P := fun u => rd u .secMboxBuf [i] = rd s .secMboxBuf [i])
    (Q := fun u => rd u .secMboxBuf [i] = leNum (mboxWord b (rd s .secMboxBuf [i]) i)) ?_ ?_ (fun u hu => ?_) List.nodup_range
    (List.mem_range.2 hi) rfl
  · intro u j hj hij hu
    rw [rd_wr_other _ _ _ _ _ _ (hne hj hij), hu]
  · intro u j hj hij hu
    rw [rd_wr_other _ _ _ _ _ _ (hne hj hij), hu]
  · rw [rd_wr_same, hu]
    exact Nat.mod_eq_of_lt (Nat.lt_of_lt_of_eq (leNum_lt _) (by rw [length_mboxWord]; rfl))

/-- R598: what the buffer holds reads back. -/
theorem mboxBytes_mboxDone (code : Nat) {b : List Byte} (hb : b.length ≤ 1024) : mboxBytes (mboxDone s code b) b.length = b := by
  have hw (i : Nat) (hi : i ∈ List.range (ceilDiv b.length 8)) :
      leBytes 8 (rd (mboxDone s code b) .secMboxBuf [i]) = mboxWord b (rd s .secMboxBuf [i]) i := by
    rw [mboxDone_eq, rd_wr_other _ _ _ _ _ _ (regAddr_ne _ _ (by decide)), rd_mboxFilled hb (List.mem_range.1 hi)]
    exact (congrArg (leBytes · _) (length_mboxWord b _ i).symm).trans (leBytes_leNum _)
  rw [mboxBytes, List.map_congr_left hw]
  rw [(take_flatten_blocks (fun i => length_mboxWord b (rd s .secMboxBuf [i]) i) (fun i => take_mboxWord b _ i) _).2]
  refine List.take_of_length_le ?_
  unfold ceilDiv
  rw [if_neg (by decide)]
  omega

/-- A mailbox operation ends with its result. -/
theorem mboxDone_done (code : Nat) {b : List Byte} (hb : b.length ≤ 1024) : MboxDone (mboxDone s code b) code b := by
  refine ⟨?_, mboxBytes_mboxDone code hb⟩
  rw [mboxDone_eq, rd_wr_same, Nat.mod_eq_of_lt (Nat.lt_of_le_of_lt hb (by decide : 1024 < 2048))]
  refine Nat.mod_eq_of_lt ?_
  have : code % 256 < 256 := Nat.mod_lt _ (by decide)
  show _ < 4294967296
  omega

theorem length_mboxBytes (len : Nat) : (mboxBytes s len).length = len := by
  have hl (n : Nat) : ((List.range n).map (fun i => leBytes 8 (rd s .secMboxBuf [i]))).flatten.length = 8 * n := by
    rw [List.length_flatten, List.map_map]
    simp [Function.comp_def, length_leBytes]
    omega
  rw [mboxBytes, List.length_take, hl]
  unfold ceilDiv
  rw [if_neg (by decide)]
  omega

theorem mboxDone_leaves (code : Nat) (b : List Byte) : SameBut [] [.secMboxBuf, .secMboxStat] s (mboxDone s code b) :=
  (mboxDone_same code b (Nat.and_self _) (Same.refl _ s)).but

/-- R24, R598: an operation that a control core that runs gives, of bytes that the buffer holds, is performed. -/
theorem mbox_of_pair {p len : Nat} {f : List Byte → State → State} (hi : (s.island 32).off = false) (hp : s.pairStopped p = false)
    (hl : len ≤ 1024) : mbox s (.pair p) len f = f (mboxBytes s len) s := by
  simp [mbox, hp, hi, Nat.not_lt.2 hl]

/-! ## Lifecycle (R569 to R572, R629) -/

/-- R572: an accepted transition writes the state it goes to. -/
theorem lcTransition_lc (to_ : Nat) : (lcTransition s to_).nv.lc = to_ := by
  unfold lcTransition
  dsimp only
  split
  · simp only [draw]
  · rfl
  · rfl
  · rfl
  · rfl
  · rfl

theorem lcTransition_leaves (to_ : Nat) : SameBut [.freeCtr, .nv] [] s (lcTransition s to_) :=
  (lcTransition_same to_ (Nat.and_self _) (Same.refl _ s)).but

theorem discard_nv : (discard s).nv = s.nv := by
  unfold discard secureRegs keyStat
  simp only [wr_nv, wf_nv]

theorem discard_sessions : (discard s).diong.sessions = [] := by
  unfold discard secureRegs keyStat
  simp only [wr_diong, wf_diong]
  rfl

/-- What a cold start leaves of the NV store and the sessions, and where the boot stands (R629). -/
theorem coldStart_leaves : (coldStart s).nv = s.nv ∧ (coldStart s).diong.sessions = [] ∧ (coldStart s).bootPhase = 1 := by
  have hphase (u : State) : (setPhase u 1).bootPhase = 1 := rf_wf _ _ _ _ _ _ (by decide) (by decide)
  unfold coldStart
  dsimp only
  split
  · refine ⟨?_, ?_, ?_⟩
    · rw [raise_nv, setPhase, wf_nv, wr_nv]
      exact discard_nv
    · rw [raise_diong, setPhase, wf_diong, wr_diong]
      exact discard_sessions (s := s)
    · rw [State.bootPhase, rf, rd_raise (by decide)]
      exact hphase _
  · refine ⟨?_, ?_, hphase _⟩
    · rw [setPhase, wf_nv, wr_nv]
      exact discard_nv
    · rw [setPhase, wf_diong, wr_diong]
      exact discard_sessions (s := s)

/-- R572: a lifecycle changed since it was read is reported. -/
theorem fires_coldStart (h : s.lc ≠ s.nv.lc) : Fires (coldStart s) 232 := by
  unfold coldStart
  rw [oldLifecycle, if_pos h]
  exact fires_raise ..

/-- R570: no transition leads back to its own state. -/
theorem lcListed_ne {a b : Nat} (h : lcListed a b = true) : a ≠ b := by
  rintro rfl
  unfold lcListed at h
  split at h
  all_goals simp_all

/-- R572: a token accepted is for another state than the one it leaves. -/
theorem tokenCheck_accepted {b : List Byte} (h : tokenCheck s b = 0x10) : s.lc ≠ beAt b 13 1 := by
  unfold tokenCheck at h
  dsimp only at h
  split at h
  · exact absurd h (by decide)
  next h1 =>
    split at h
    · exact absurd h (by decide)
    next h2 =>
      simp only [not_or, not_not] at h1 h2
      rw [← h1.2.2.1]
      exact lcListed_ne h2

/-- The lifecycle after a token (R572): accepted, the state it goes to, and a cold start when that is another than the NV store's. -/
theorem tokenStart_leaves {u : State} (h : t.nv.lc ≠ u.lc) (hlc : t.lc = u.lc) :
    (tokenStart s t).nv = t.nv ∧
      ((tokenStart s t).nv.lc ≠ s.nv.lc →
        (tokenStart s t).bootPhase = 1 ∧ (tokenStart s t).diong.sessions = [] ∧ Fires (tokenStart s t) 232) := by
  unfold tokenStart
  obtain ⟨hnv, hsessions, hphase⟩ := coldStart_leaves (s := t)
  split
  next he => exact ⟨rfl, fun hne => absurd he hne⟩
  · exact ⟨hnv, fun _ => ⟨hphase, hsessions, fires_coldStart (by rw [hlc]; exact Ne.symm h)⟩⟩

/-! ## The security objects (R572, R576, R580, R584, R585) -/

theorem notTenant_of_manages {role : Role} (h : Manages role) (f : Nat × State) : notTenant role s f = f := by
  rcases h with rfl | rfl <;> rfl

theorem completes_transitionToken {role : Role} {token : List Byte} (hr : Manages role) (h112 : token.length = 112) :
    Completes (.transitionToken role token) s fun t =>
      (tokenCheck s token = 0x10 → t.nv.lc = beAt token 13 1 ∧ (t.nv.lc ≠ s.nv.lc → t.bootPhase = 1 ∧ t.diong.sessions = [] ∧ Fires t 232)) ∧
      (tokenCheck s token ≠ 0x10 → t.nv = s.nv ∧ t.out = s.out ++ [.result (tokenCheck s token) []]) := by
  refine ⟨_, by rw [exec_transitionToken, execTransitionToken, notTenant_of_manages hr, if_neg (not_not.2 h112)], fun h => ?_, fun h => ?_⟩
  · rw [if_pos ⟨h112, h⟩]
    have hlc : (answer (tokenCheck s token, lcTransition s (beAt token 13 1))).nv.lc = beAt token 13 1 := lcTransition_lc _
    have hreg : (answer (tokenCheck s token, lcTransition s (beAt token 13 1))).lc = s.lc :=
      congrArg (bitsOf · 2 0) ((lcTransition_leaves _).rd_eq (by decide) (by decide) (by simp))
    obtain ⟨hnv, hstart⟩ := tokenStart_leaves (s := s) (u := s) (by rw [hlc]; exact Ne.symm (tokenCheck_accepted h)) hreg
    exact ⟨by rw [hnv, hlc], hstart⟩
  · rw [if_neg (fun hh => h hh.2)]
    have hkept : tokenStart s (answer (tokenCheck s token, s)) = answer (tokenCheck s token, s) := tokenStart_of_nv_eq rfl
    rw [hkept]
    exact ⟨rfl, rfl⟩

/-- A key put into a slot is the slot's (R577). -/
theorem find?_spInsert {α : Type} (k : Nat) (v : α) {m : Sparse α} (h : ∀ p ∈ m, p.1 ≠ k) :
    (spInsert k v m).find? (fun p => p.1 = k) = some (k, v) := by
  induction m with
  | nil => simp [spInsert]
  | cons x m ih =>
    obtain ⟨a, b⟩ := x
    have ha : a ≠ k := h (a, b) List.mem_cons_self
    unfold spInsert
    split
    · simp
    · rw [List.find?_cons_of_neg (by simpa using ha), ih fun p hp => h p (List.mem_cons_of_mem _ hp)]

/-- A state whose keys are those with one put into slot `k`. -/
theorem keySlot_of_inserted {k g : Nat} {m : List Byte} (h : t.nv.keys = spInsert k (g, m) (spErase s.nv.keys k)) :
    t.keySlot k = some m ∧ t.keyGen k = g := by
  have hf : t.nv.keys.find? (fun p => p.1 = k) = some (k, g, m) := by
    rw [h]
    exact find?_spInsert k (g, m) fun p hp => (mem_spErase.1 hp).2
  rw [State.keySlot, State.keyGen, hf]
  exact ⟨rfl, rfl⟩

/-! ### Firings that wait stay as a debug session ends (R596) -/

theorem Fires.markOn {n : Nat} (h : Fires s n) (k : Nat) : Fires (markOn s k) n :=
  h.of_evt ((markOn_same k (Nat.and_self _) (Same.refl _ s)).but.evt (by decide))

theorem Fires.firmwareStops {n : Nat} (h : Fires s n) : Fires (firmwareStops s) n := by
  have hflags : Fires { s with ctl := { s.ctl with fwRuns := false, governedStale := true } } n := h
  unfold Machine.firmwareStops
  dsimp only
  refine Fires.foldl (fun u p hu => ?_) (hflags.markOn _)
  split
  · split
    · exact (hu.raise ..).raise ..
    · exact hu.raise ..
  · split
    · exact hu.raise ..
    · exact hu

theorem Fires.firmwareResumes {n : Nat} (h : Fires s n) : Fires (firmwareResumes s) n := by
  have hflags : Fires { s with ctl := { s.ctl with fwRuns := true, governedStale := false } } n := h
  have hstale : Fires { s with ctl := { s.ctl with governedStale := true } } n := h
  unfold Machine.firmwareResumes
  split
  · exact hflags.of_evt ((markOff_same _ (Nat.and_self _) (Same.refl _ _)).but.evt (by decide))
  · split
    · exact h.firmwareStops
    · exact hstale.markOn _

theorem Fires.releaseHalts {n : Nat} (h : Fires s n) : Fires (releaseHalts s) n := by
  have hres : Fires ((List.range 18).foldl resumeEngine s) n :=
    Fires.foldl (fun u e hu => hu.of_evt ((resumeEngine_same e (Nat.and_self _) (Same.refl _ u)).but.evt (by decide))) h
  unfold Machine.releaseHalts
  dsimp only
  have hw := (hres.of_evt (wr_evt _ .dbgEngHalt [] 0)).of_evt (wr_evt _ .dbgCoreCtrl [] 0)
  split
  · exact hw.firmwareResumes
  · exact hw

theorem Fires.sessionLeaves {n : Nat} (h : Fires s n) : Fires (sessionLeaves s) n := by
  have hf : Fires ((Machine.releaseHalts s).sec.frozen.foldl (fun s b => wbit s .memBankCtrl [b] 0 false) (Machine.releaseHalts s)) n :=
    Fires.foldl (fun u b hu => hu.of_evt (wbit_evt ..)) h.releaseHalts
  unfold Machine.sessionLeaves
  dsimp only
  generalize (Machine.releaseHalts s).sec.frozen.foldl (fun s b => wbit s .memBankCtrl [b] 0 false) (Machine.releaseHalts s) = u at hf
  have hu : Fires { u with sec := { u.sec with frozen := [], session := none, dbgLevel := 0 } } n := hf
  exact (hu.of_evt ((releaseScan_same (Nat.and_self _) (Same.refl _ _)).but.evt (by decide))).of_evt (wf_evt ..)

theorem Fires.endDebug {n : Nat} (h : Fires s n) : Fires (endDebug s) n := by
  unfold Machine.endDebug
  split
  · exact h
  · exact h.sessionLeaves.raise ..

theorem endDebug_diong : (endDebug s).diong = s.diong := (endDebug_same (Nat.and_self _) (Same.refl _ s)).but.diong (by decide)

theorem endDebug_nv : (endDebug s).nv = s.nv := (endDebug_same (Nat.and_self _) (Same.refl _ s)).but.nv (by decide)

/-- Sessions that close are gone; keys and firings stay (R478, R577). -/
theorem closeSessions_leaves (p : Session → Bool) :
    (closeSessions s p).diong.sessions = s.diong.sessions.filter (fun x => ¬ p x) ∧ (closeSessions s p).nv = s.nv ∧
      ∀ n, Fires s n → Fires (closeSessions s p) n := by
  obtain ⟨u, hu⟩ : ∃ u, { s with diong := { s.diong with sessions := s.diong.sessions.filter (fun x => ¬ p x) } } = u := ⟨_, rfl⟩
  have hsessions : u.diong.sessions = s.diong.sessions.filter (fun x => ¬ p x) := by rw [← hu]
  have hnv : u.nv = s.nv := by rw [← hu]
  have hf (n : Nat) (h : Fires s n) : Fires u n := by rw [← hu]; exact h
  unfold closeSessions
  dsimp only
  rw [hu]
  split
  · split
    · split
      · exact ⟨by rw [endDebug_diong, hsessions], by rw [endDebug_nv, hnv], fun n h => (hf n h).endDebug⟩
      · exact ⟨hsessions, hnv, hf⟩
    · exact ⟨hsessions, hnv, hf⟩
  · exact ⟨hsessions, hnv, hf⟩

/-- The key of a plaintext put into slot `k`, the old CAK of a tenant's slot kept for a while (R577, R578). -/
def keyStored (s : State) (k : Nat) (pt : List Byte) : State :=
  raise (keyStat { s with
    nv := { s.nv with keys := spInsert k (beAt pt 0 4, pt.drop 4) (spErase s.nv.keys k) },
    sec := { s.sec with oldCak := match s.keySlot k with
      | some m => if 7 ≤ k ∧ k ≤ 10 then spPut (0, []) s.sec.oldCak (k - 7) (s.clk.elapsed + 1, m) else s.sec.oldCak
      | none => s.sec.oldCak } }) 235 k (beAt pt 0 4 % 2 ^ 16)

theorem keyStored_keys (k : Nat) (pt : List Byte) :
    (keyStored s k pt).nv.keys = spInsert k (beAt pt 0 4, pt.drop 4) (spErase s.nv.keys k) := by
  rw [keyStored, raise_nv, keyStat, wr_nv]

theorem keyEnvelope_of_accepted_eq {role : Role} {k : Nat} {b : List Byte} (h : (envelopeCheck s role k b).1 = 0x10) :
    keyEnvelope s role k b = (0x10, if k ≤ 6 then
      closeSessions (keyStored s k (envelopeCheck s role k b).2) (fun x => sessionSlot x.transport x.key = k)
      else keyStored s k (envelopeCheck s role k b).2) := by
  unfold keyEnvelope
  dsimp only
  rw [if_pos h, h]
  rfl

/-- R576 to R578: an envelope accepted puts its key into the slot and closes the sessions that used it. -/
theorem keyEnvelope_of_accepted {role : Role} {k : Nat} {b : List Byte} (h : (envelopeCheck s role k b).1 = 0x10) :
    (keyEnvelope s role k b).1 = 0x10 ∧
      (keyEnvelope s role k b).2.nv.keys =
        spInsert k (beAt (envelopeCheck s role k b).2 0 4, (envelopeCheck s role k b).2.drop 4) (spErase s.nv.keys k) ∧
      Fires (keyEnvelope s role k b).2 235 ∧
      ∀ x ∈ (keyEnvelope s role k b).2.diong.sessions, k ≤ 6 → sessionSlot x.transport x.key ≠ k := by
  have hkeys := keyStored_keys (s := s) k (envelopeCheck s role k b).2
  have hfires : Fires (keyStored s k (envelopeCheck s role k b).2) 235 := fires_raise ..
  rw [keyEnvelope_of_accepted_eq h]
  dsimp only
  split
  · obtain ⟨hsessions, hnv, hf⟩ :=
      closeSessions_leaves (s := keyStored s k (envelopeCheck s role k b).2) (fun x => sessionSlot x.transport x.key = k)
    refine ⟨rfl, by rw [hnv, hkeys], hf 235 hfires, fun x hx _ => ?_⟩
    rw [hsessions] at hx
    simpa using (List.mem_filter.1 hx).2
  next hk => exact ⟨rfl, hkeys, hfires, fun x _ hle => absurd hle hk⟩

/-- R576: an envelope refused is told. -/
theorem keyEnvelope_of_refused {role : Role} {k : Nat} {b : List Byte} (h : (envelopeCheck s role k b).1 ≠ 0x10) :
    keyEnvelope s role k b = ((envelopeCheck s role k b).1, raise s 236 k (envelopeCheck s role k b).1) := by
  unfold keyEnvelope
  dsimp only
  rw [if_neg h]

theorem completes_keyEnvelope {role : Role} {k : Nat} {b : List Byte} (hr : Manages role) :
    Completes (.keyEnvelope role k b) s fun t =>
      t.out.getLast? = some (.result (envelopeCheck s role k b).1 []) ∧
      ((envelopeCheck s role k b).1 = 0x10 →
        t.keySlot k = some ((envelopeCheck s role k b).2.drop 4) ∧ t.keyGen k = beAt (envelopeCheck s role k b).2 0 4 ∧ Fires t 235 ∧
        ∀ x ∈ t.diong.sessions, k ≤ 6 → sessionSlot x.transport x.key ≠ k) ∧
      ((envelopeCheck s role k b).1 ≠ 0x10 → t.nv.keys = s.nv.keys ∧ Fires t 236) := by
  have hx : exec (.keyEnvelope role k b) s = .next (answer (keyEnvelope s role k b)) := by
    rw [exec_keyEnvelope, execKeyEnvelope, notTenant_of_manages hr]
  by_cases h : (envelopeCheck s role k b).1 = 0x10
  · obtain ⟨hc, hkeys, hf, hsessions⟩ := keyEnvelope_of_accepted h
    obtain ⟨hslot, hgen⟩ := keySlot_of_inserted (t := answer (keyEnvelope s role k b)) hkeys
    exact ⟨_, hx, by rw [answer, emit_out, List.getLast?_concat, hc, h], fun _ => ⟨hslot, hgen, hf, hsessions⟩, fun hne => absurd h hne⟩
  · refine ⟨_, hx, ?_, fun h' => absurd h' h, fun _ => ?_⟩
    · rw [answer, emit_out, List.getLast?_concat, keyEnvelope_of_refused h]
    · rw [keyEnvelope_of_refused h]
      exact ⟨congrArg Nv.keys (raise_nv ..), fires_raise ..⟩

/-! ### Root records (R580) -/

/-- R580: a record accepted is of slot 1 or 2, and enrols or revokes. -/
theorem rootCheck_accepted {b : List Byte} (h : rootCheck s b = 0x10) :
    (beAt b 0 1 = 1 ∨ beAt b 0 1 = 2) ∧ (beAt b 1 1 = 1 ∨ beAt b 1 1 = 2) := by
  unfold rootCheck at h
  dsimp only at h
  split at h
  · exact absurd h (by decide)
  next h1 =>
    simp only [not_or] at h1
    refine ⟨by omega, ?_⟩
    split at h
    next hop => exact Or.inl hop
    · split at h
      next hop => exact Or.inr hop
      · exact absurd h (by decide)

theorem rootRecord_of_accepted {b : List Byte} (h : rootCheck s b = 0x10) :
    ((rootRecord s b).2.root (beAt b 0 1)).st = beAt b 1 1 ∧
      (beAt b 1 1 = 1 → ((rootRecord s b).2.root (beAt b 0 1)).key = sliceBytes b 12 97) ∧
      rf (rootRecord s b).2 .secRootstat [] (2 * beAt b 0 1 - 1) (2 * beAt b 0 1 - 2) = beAt b 1 1 ∧ Fires (rootRecord s b).2 237 := by
  obtain ⟨hslot, hst⟩ := rootCheck_accepted h
  unfold rootRecord
  dsimp only
  rw [if_pos h]
  dsimp only
  obtain ⟨u, hu⟩ : ∃ u, s.setRoot (beAt b 0 1) ⟨beAt b 1 1, if beAt b 1 1 = 1 then sliceBytes b 12 97 else []⟩ = u := ⟨_, rfl⟩
  rw [hu]
  have hroot : u.root (beAt b 0 1) = ⟨beAt b 1 1, if beAt b 1 1 = 1 then sliceBytes b 12 97 else []⟩ := by
    rw [← hu, State.root, State.setRoot, wf_nv]
    exact spGet_spPut_same (α := RootSlot) ⟨0, []⟩ s.nv.roots (beAt b 0 1) _
  have hr (a c : Nat) : (raise u 237 a c).root (beAt b 0 1) = u.root (beAt b 0 1) := by rw [State.root, raise_nv, State.root]
  rw [hr, hroot]
  refine ⟨rfl, fun h1 => if_pos h1, ?_, fires_raise ..⟩
  rw [rf, rd_raise (by decide), ← hu]
  have hlt : beAt b 1 1 % 2 ^ (2 * beAt b 0 1 - 1 - (2 * beAt b 0 1 - 2) + 1) = beAt b 1 1 := by
    rcases hslot with h0 | h0 <;> rcases hst with h1 | h1 <;> simp [h0, h1]
  exact (rf_wf _ _ _ _ _ _ (by omega) (by rcases hslot with h0 | h0 <;> rw [h0] <;> decide)).trans hlt

theorem rootRecord_fst (b : List Byte) : (rootRecord s b).1 = rootCheck s b := by
  unfold rootRecord
  dsimp only
  split <;> rfl

theorem rootRecord_of_refused {b : List Byte} (h : rootCheck s b ≠ 0x10) : rootRecord s b = (rootCheck s b, s) := by
  unfold rootRecord
  exact if_neg h

theorem rootRecord_out (b : List Byte) : (rootRecord s b).2.out = s.out :=
  (rootRecord_same b (Nat.and_self _) (Same.refl _ s)).but.out (by decide)

theorem completes_rootRecord (record : List Byte) :
    Completes (.rootRecord .operator record) s fun t =>
      t.out = s.out ++ [.result (rootCheck s record) []] ∧
      (rootCheck s record = 0x10 →
        (t.root (beAt record 0 1)).st = beAt record 1 1 ∧ (beAt record 1 1 = 1 → (t.root (beAt record 0 1)).key = sliceBytes record 12 97) ∧
        rf t .secRootstat [] (2 * beAt record 0 1 - 1) (2 * beAt record 0 1 - 2) = beAt record 1 1 ∧ Fires t 237) ∧
      (rootCheck s record ≠ 0x10 → t.nv = s.nv) := by
  refine ⟨answer (rootRecord s record), by rw [exec_rootRecord, execRootRecord, if_pos rfl], ?_, fun h => ?_, fun h => ?_⟩
  · rw [answer, emit_out, rootRecord_out, rootRecord_fst]
  · exact rootRecord_of_accepted h
  · rw [rootRecord_of_refused h]
    rfl

/-! ### Attestation (R585) -/

/-- A hash is as long as its words. -/
theorem length_sha384 (m : List Byte) : (sha384 m).length = 48 := by
  have hblock (h ws : List Nat) : (shaBlock sha384P h ws).length = 8 := by
    unfold shaBlock
    rw [List.length_map, List.length_range]
  have hwords : (shaWords sha384P m).length = 8 := by
    unfold shaWords
    exact List.foldlRecOn (motive := fun h : List Nat => h.length = 8) _ _ rfl fun h _ i _ => hblock _ _
  have hflat : (((shaWords sha384P m).map (beBytes 8)).flatten).length = 64 := by
    rw [List.length_flatten, List.map_map]
    simp [Function.comp_def, length_beBytes, hwords]
  rw [sha384, List.length_take, hflat]
  rfl

/-- Bytes taken that stand between a beginning and a rest. -/
theorem sliceBytes_between {a b c : List Byte} {k n : Nat} (ha : a.length = k) (hb : b.length = n) : sliceBytes (a ++ (b ++ c)) k n = b :=
  (sliceBytes_append_right (o := 0) ha).trans (sliceBytes_append_left hb)

theorem sliceBytes_whole {l : List Byte} {n : Nat} (h : l.length = n) : sliceBytes l 0 n = l := by
  rw [sliceBytes_eq (by omega), List.drop_zero, List.take_of_length_le (by omega)]

/-- What stands in a report behind the lifecycle, before the debug level (R585). -/
def reportVersions (s : State) : List Byte :=
  beBytes 2 s.sec.secVersion ++ (beBytes 2 (if s.ctl.fwRuns then rf s .secBoot [] 31 16 else 0) ++ beBytes 1 (rf s .secBoot [] 0 0))

/-- The hash of a root in a report (R585). -/
def reportRoot (s : State) (r : Nat) : List Byte := if (s.root r).st = 1 then sha384 (s.root r).key else List.replicate 48 0

theorem length_reportRoot (r : Nat) : (reportRoot s r).length = 48 := by
  unfold reportRoot
  split
  · exact length_sha384 _
  · exact List.length_replicate

/-- A report over a nonce, its digest of the configuration and its signature aside (R585). -/
theorem attest_report {nonce : List Byte} (h48 : nonce.length = 48) :
    ∃ rest, (attest s nonce).sec.report = serialBytes ++ (beBytes 1 s.lc ++ (beBytes 1 s.nv.reentry ++ (reportVersions s ++
      (beBytes 1 s.sec.dbgLevel ++ (nonce ++ (reportRoot s 1 ++ (reportRoot s 2 ++ (beBytes 8 s.adm.epoch ++ rest)))))))) := by
  unfold attest reportVersions reportRoot
  dsimp only
  simp only [List.append_assoc, sliceBytes_whole h48]
  exact ⟨_, rfl⟩

/-- Where the fields of a report stand (R585). -/
theorem attest_slices {nonce : List Byte} (h48 : nonce.length = 48) :
    sliceBytes (attest s nonce).sec.report 8 2 = beBytes 1 s.lc ++ beBytes 1 s.nv.reentry ∧
      sliceBytes (attest s nonce).sec.report 15 49 = beBytes 1 s.sec.dbgLevel ++ nonce ∧
      sliceBytes (attest s nonce).sec.report 16 48 = nonce ∧
      sliceBytes (attest s nonce).sec.report 160 8 = beBytes 8 s.adm.epoch := by
  have hserial : serialBytes.length = 8 := length_beBytes 8 _
  have hversions : (reportVersions s).length = 5 := by simp [reportVersions, length_beBytes]
  obtain ⟨rest, hrep⟩ := attest_report (s := s) h48
  obtain ⟨l, hl⟩ : ∃ l, (attest s nonce).sec.report = l := ⟨_, rfl⟩
  have h8 : l = serialBytes ++ ((beBytes 1 s.lc ++ beBytes 1 s.nv.reentry) ++ (reportVersions s ++ (beBytes 1 s.sec.dbgLevel ++ (nonce ++
      (reportRoot s 1 ++ (reportRoot s 2 ++ (beBytes 8 s.adm.epoch ++ rest))))))) := by
    rw [← hl, hrep]
    simp only [List.append_assoc]
  have h15 : l = (serialBytes ++ (beBytes 1 s.lc ++ (beBytes 1 s.nv.reentry ++ reportVersions s))) ++ ((beBytes 1 s.sec.dbgLevel ++ nonce) ++
      (reportRoot s 1 ++ (reportRoot s 2 ++ (beBytes 8 s.adm.epoch ++ rest)))) := by
    rw [h8]
    simp only [List.append_assoc]
  have h16 : l = (serialBytes ++ (beBytes 1 s.lc ++ (beBytes 1 s.nv.reentry ++ (reportVersions s ++ beBytes 1 s.sec.dbgLevel)))) ++ (nonce ++
      (reportRoot s 1 ++ (reportRoot s 2 ++ (beBytes 8 s.adm.epoch ++ rest)))) := by
    rw [h8]
    simp only [List.append_assoc]
  have h160 : l = (serialBytes ++ (beBytes 1 s.lc ++ (beBytes 1 s.nv.reentry ++ (reportVersions s ++ (beBytes 1 s.sec.dbgLevel ++ (nonce ++
      (reportRoot s 1 ++ reportRoot s 2))))))) ++ (beBytes 8 s.adm.epoch ++ rest) := by
    rw [h8]
    simp only [List.append_assoc]
  rw [hl]
  refine ⟨?_, ?_, ?_, ?_⟩
  · rw [h8]
    exact sliceBytes_between hserial (by simp [length_beBytes])
  · rw [h15]
    exact sliceBytes_between (by simp [length_beBytes, hserial, hversions]) (by simp [length_beBytes, h48])
  · rw [h16]
    exact sliceBytes_between (by simp [length_beBytes, hserial, hversions]) h48
  · rw [h160]
    exact sliceBytes_between (by simp [length_beBytes, hserial, hversions, h48, length_reportRoot]) (length_beBytes _ _)

theorem completes_attestation {nonce : List Byte} (h48 : nonce.length = 48) :
    Completes (.attestation nonce) s fun t =>
      t.out = s.out ++ [.result 0 t.sec.report] ∧ sliceBytes t.sec.report 8 2 = beBytes 1 s.lc ++ beBytes 1 s.nv.reentry ∧
      sliceBytes t.sec.report 15 49 = beBytes 1 s.sec.dbgLevel ++ nonce ∧ sliceBytes t.sec.report 160 8 = beBytes 8 s.adm.epoch := by
  obtain ⟨h8, h15, -, h160⟩ := attest_slices (s := s) h48
  refine ⟨emit (attest s nonce) (.result 0 (attest s nonce).sec.report), by rw [exec_attestation, execAttestation, if_pos h48], ?_, h8, h15, h160⟩
  rw [emit_out, (attest_same nonce (Nat.and_self _) (Same.refl _ s)).but.out (by decide)]
  rfl

/-- Settles O53: each object's check decides between what it writes and nothing. -/
theorem securityObjectCommandsComplete : Obligations.SecurityObjectCommandsComplete := by
  unfold Obligations.SecurityObjectCommandsComplete
  refine ⟨fun s role token hr h112 => completes_transitionToken hr h112, fun s n token => ?tenant, fun s role k b hr _ => completes_keyEnvelope hr,
    fun s record => completes_rootRecord record, fun s role record hr => ?rootRole, fun s nonce h48 => completes_attestation h48,
    fun s nonce h48 => ?attestLength, fun s => ?raised, fun s role hr => ?raiseRole⟩
  case tenant =>
    refine ⟨answer (3, s), ?_, rfl, rfl⟩
    have hkept : tokenStart s (answer (3, s)) = answer (3, s) := tokenStart_of_nv_eq rfl
    rw [exec_transitionToken, execTransitionToken]
    exact congrArg _ hkept
  case rootRole => exact ⟨answer (3, s), by rw [exec_rootRecord, execRootRecord, if_neg hr], rfl, rfl⟩
  case attestLength => exact ⟨emit s (.result 6 []), by rw [exec_attestation, execAttestation, if_neg h48], rfl, rfl⟩
  case raised => exact ⟨emit (raiseMinimums s) (.result 0 []), by rw [exec_raiseMinimums, execRaiseMinimums, if_pos rfl], rfl, rfl, rfl⟩
  case raiseRole => exact ⟨emit s (.result 3 []), by rw [exec_raiseMinimums, execRaiseMinimums, if_neg hr], rfl, rfl⟩

/-! ## The mailbox's operations (R475, R582, R598) -/

theorem completes_checkDiongTag {p len : Nat} {tr : Transport} {key : List Byte} (hi : (s.island 32).off = false) (hp : s.pairStopped p = false)
    (hl : len ≤ 1024) (hk : s.keySlot (sessionSlot tr (beAt ((mboxBytes s len).take (len - 16)) 8 1)) = some key) :
    Completes (.checkDiongTag (.pair p) tr len) s fun t =>
      MboxDone t (if tagOf (beAt ((mboxBytes s len).take (len - 16)) 8 1) key ((mboxBytes s len).take (len - 16)) = (mboxBytes s len).drop (len - 16)
        then 0x10 else 0x11) [] := by
  refine ⟨mboxDone s (if tagOf (beAt ((mboxBytes s len).take (len - 16)) 8 1) key ((mboxBytes s len).take (len - 16)) =
    (mboxBytes s len).drop (len - 16) then 0x10 else 0x11) [], ?_, mboxDone_done _ (by simp)⟩
  rw [exec_checkDiongTag, execCheckDiongTag, mbox_of_pair hi hp hl, mboxCheckTag, length_mboxBytes, mboxTag, hk]
  rfl

/-- R475: a tag is of at most 16 bytes. -/
theorem length_tagOf_le (key : Nat) (material b : List Byte) : (tagOf key material b).length ≤ 16 := by
  unfold tagOf
  split
  · rw [List.length_replicate]
  · exact List.length_take_le ..

theorem completes_makeDiongTag {p len : Nat} {tr : Transport} {key : List Byte} (hi : (s.island 32).off = false) (hp : s.pairStopped p = false)
    (hl : len ≤ 1024) (hk : s.keySlot (sessionSlot tr (beAt (mboxBytes s len) 8 1)) = some key) :
    Completes (.makeDiongTag (.pair p) tr len) s fun t => MboxDone t 0x10 (tagOf (beAt (mboxBytes s len) 8 1) key (mboxBytes s len)) := by
  refine ⟨mboxDone s 0x10 (tagOf (beAt (mboxBytes s len) 8 1) key (mboxBytes s len)), ?_,
    mboxDone_done _ (Nat.le_trans (length_tagOf_le ..) (by decide))⟩
  rw [exec_makeDiongTag, execMakeDiongTag, mbox_of_pair hi hp hl, mboxMakeTag, mboxTag, hk]
  rfl

theorem completes_makeDiongTag_none {p len : Nat} {tr : Transport} (hi : (s.island 32).off = false) (hp : s.pairStopped p = false)
    (hl : len ≤ 1024) (hk : s.keySlot (sessionSlot tr (beAt (mboxBytes s len) 8 1)) = none) :
    Completes (.makeDiongTag (.pair p) tr len) s fun t => MboxDone t 0x12 [] := by
  refine ⟨mboxDone s 0x12 [], ?_, mboxDone_done _ (by simp)⟩
  rw [exec_makeDiongTag, execMakeDiongTag, mbox_of_pair hi hp hl, mboxMakeTag, mboxTag, hk]
  rfl

theorem Fires.mboxDone {n : Nat} (h : Fires s n) (code : Nat) (b : List Byte) : Fires (mboxDone s code b) n :=
  h.of_evt ((mboxDone_leaves code b).evt (by decide))

theorem mboxDone_nv (code : Nat) (b : List Byte) : (mboxDone s code b).nv = s.nv := (mboxDone_leaves code b).nv (by decide)

theorem completes_mboxKeyEnvelope {p len : Nat} {role : Role} (hi : (s.island 32).off = false) (hp : s.pairStopped p = false)
    (hl : len ≤ 1024) :
    Completes (.mboxKeyEnvelope (.pair p) role len) s fun t =>
      MboxDone t (envelopeCheck s role (beAt (mboxBytes s len) 0 1) (mboxBytes s len)).1 [] ∧
      ((envelopeCheck s role (beAt (mboxBytes s len) 0 1) (mboxBytes s len)).1 ≠ 0x10 → t.nv.keys = s.nv.keys ∧ Fires t 236) ∧
      ((envelopeCheck s role (beAt (mboxBytes s len) 0 1) (mboxBytes s len)).1 = 0x10 →
        t.keySlot (beAt (mboxBytes s len) 0 1) = some ((envelopeCheck s role (beAt (mboxBytes s len) 0 1) (mboxBytes s len)).2.drop 4) ∧
        Fires t 235) := by
  have hx : exec (.mboxKeyEnvelope (.pair p) role len) s = .next (mboxDone (keyEnvelope s role (beAt (mboxBytes s len) 0 1) (mboxBytes s len)).2
      (keyEnvelope s role (beAt (mboxBytes s len) 0 1) (mboxBytes s len)).1 []) := by
    rw [exec_mboxKeyEnvelope, execMboxKeyEnvelope, mbox_of_pair hi hp hl]
    rfl
  by_cases h : (envelopeCheck s role (beAt (mboxBytes s len) 0 1) (mboxBytes s len)).1 = 0x10
  · obtain ⟨hc, hkeys, hf, -⟩ := keyEnvelope_of_accepted h
    refine ⟨_, hx, ?_, fun hne => absurd h hne, fun _ => ⟨?_, hf.mboxDone _ _⟩⟩
    · rw [hc, h]
      exact mboxDone_done _ (by simp)
    · exact (keySlot_of_inserted (s := s) ((congrArg Nv.keys (mboxDone_nv _ _)).trans hkeys)).1
  · rw [keyEnvelope_of_refused h] at hx
    refine ⟨_, hx, mboxDone_done _ (by simp), fun _ => ⟨?_, (fires_raise ..).mboxDone _ _⟩, fun h' => absurd h' h⟩
    rw [mboxDone_nv, raise_nv]

theorem completes_mboxAttestation {p : Nat} (hi : (s.island 32).off = false) (hp : s.pairStopped p = false) :
    Completes (.mboxAttestation (.pair p) 48) s fun t =>
      rf t .secMboxStat [] 15 0 = 2 + 0x10 * 256 ∧ sliceBytes t.sec.report 16 48 = mboxBytes s 48 := by
  have h48 : (mboxBytes s 48).length = 48 := length_mboxBytes 48
  obtain ⟨-, -, h16, -⟩ := attest_slices (s := s) h48
  refine ⟨mboxDone (attest s (mboxBytes s 48)) 0x10 (attest s (mboxBytes s 48)).sec.report, ?_, ?_, ?_⟩
  · rw [exec_mboxAttestation, execMboxAttestation, mbox_of_pair hi hp (by decide), mboxAttest, if_pos h48]
  · rw [rf, mboxDone_eq, rd_wr_same]
    generalize (attest s (mboxBytes s 48)).sec.report.length = n
    show (_ % 4294967296) >>> 0 % 65536 = _
    rw [Nat.shiftRight_zero]
    omega
  · rw [(mboxDone_leaves _ _).sec (by decide), h16]

theorem completes_lifecycleToken {p : Nat} (hi : (s.island 32).off = false) (hp : s.pairStopped p = false) :
    Completes (.lifecycleToken (.pair p) 112) s fun t =>
      (tokenCheck s (mboxBytes s 112) = 0x10 → t.nv.lc = beAt (mboxBytes s 112) 13 1) ∧
      (tokenCheck s (mboxBytes s 112) ≠ 0x10 → t.nv = s.nv ∧ MboxDone t (tokenCheck s (mboxBytes s 112)) []) := by
  have h112 : (mboxBytes s 112).length = 112 := length_mboxBytes 112
  have hx : exec (.lifecycleToken (.pair p) 112) s = .next (tokenStart s (mboxDone
      (if tokenCheck s (mboxBytes s 112) = 0x10 then lcTransition s (beAt (mboxBytes s 112) 13 1) else s)
      (tokenCheck s (mboxBytes s 112)) [])) := by
    rw [exec_lifecycleToken, execLifecycleToken, mbox_of_pair hi hp (by decide), mboxToken, if_pos h112]
  refine ⟨_, hx, fun h => ?_, fun h => ?_⟩
  · have hnv (u : State) : (tokenStart s u).nv = u.nv := by
      unfold tokenStart
      split
      · rfl
      · exact coldStart_leaves.1
    rw [hnv, mboxDone_nv, if_pos h, lcTransition_lc]
  · rw [if_neg h, tokenStart_of_nv_eq (mboxDone_nv _ _)]
    exact ⟨mboxDone_nv _ _, mboxDone_done _ (by simp)⟩

theorem completes_mboxRootRecord {p len : Nat} (hi : (s.island 32).off = false) (hp : s.pairStopped p = false) (hl : len ≤ 1024) :
    Completes (.mboxRootRecord (.pair p) len) s fun t =>
      MboxDone t (rootCheck s (mboxBytes s len)) [] ∧ (rootCheck s (mboxBytes s len) ≠ 0x10 → t.nv = s.nv) := by
  refine ⟨mboxDone (rootRecord s (mboxBytes s len)).2 (rootRecord s (mboxBytes s len)).1 [], ?_, ?_, fun h => ?_⟩
  · rw [exec_mboxRootRecord, execMboxRootRecord, mbox_of_pair hi hp hl]
    rfl
  · rw [rootRecord_fst]
    exact mboxDone_done _ (by simp)
  · rw [mboxDone_nv, rootRecord_of_refused h]

theorem completes_randomBytes {p len : Nat} (hi : (s.island 32).off = false) (hp : s.pairStopped p = false) (hl : len ≤ 1024) :
    Completes (.randomBytes (.pair p) len) s fun t => rd t .secMboxStat [] = 2 + 0x10 * 256 + len * 65536 ∧ t.nv = s.nv := by
  refine ⟨mboxDone (drawBytes s len).2 0x10 (drawBytes s len).1, ?_, ?_, mboxDone_nv _ _⟩
  · rw [exec_randomBytes, execRandomBytes, mbox_of_pair hi hp hl, mboxRandom, length_mboxBytes]
  · have hlen : (drawBytes s len).1.length = len := by simp [drawBytes]
    have h := (mboxDone_done (s := (drawBytes s len).2) 0x10 (b := (drawBytes s len).1) (by omega)).1
    rw [hlen] at h
    exact h

/-- Settles O54: an operation that is performed ends with its result in SEC_MBOX_STAT and SEC_MBOX_BUF. -/
theorem mailboxCommandsComplete : Obligations.MailboxCommandsComplete := by
  unfold Obligations.MailboxCommandsComplete
  refine ⟨fun s p len hi hp hl => ?verify, fun s p tr len key hi hp hl hk => completes_checkDiongTag hi hp hl hk,
    fun s p tr len key hi hp hl hk => completes_makeDiongTag hi hp hl hk, fun s p tr len hi hp hl hk => completes_makeDiongTag_none hi hp hl hk,
    fun s p role len hi hp hl => completes_mboxKeyEnvelope hi hp hl, fun s p hi hp => completes_mboxAttestation hi hp,
    fun s p hi hp => completes_lifecycleToken hi hp, fun s p len hi hp hl => completes_mboxRootRecord hi hp hl,
    fun s p len hi hp hl => completes_randomBytes hi hp hl, fun s p len hi hp hl => ?beyond, fun s p len hp => ?stopped, fun s len => ?debug⟩
  case verify =>
    refine ⟨mboxVerify (mboxBytes s len) s, ?_, mboxDone_done _ (by simp), mboxDone_nv _ _⟩
    rw [exec_verifyImage, execVerifyImage, mbox_of_pair hi hp hl]
  case beyond =>
    refine ⟨wr s .secMboxStat [] 3, ?_, rd_wr_same ..⟩
    rw [exec_randomBytes, execRandomBytes]
    simp [mbox, hi, hp, hl]
  case stopped =>
    refine ⟨s, ?_, rfl⟩
    rw [exec_randomBytes, execRandomBytes]
    simp [mbox, hp]
  case debug => exact ⟨firewall s 5, rfl, rd_raise (by decide) _ _ _, fires_raise ..⟩

end Sys2Proof.Machine
end

section
/-!
Firings at their destinations and the sticky flags (R492 to R497): the settlement of O45, and the refutation of O46.
-/

namespace Sys2Proof.Machine

set_option Elab.async false

variable {s t : State}

/-! ## A sticky flag written 1 with a firing in the same cycle -/

/-- A full log one entry short of the next overwrite report, and 17 firings of that report's own source, EVT_LOG_WRAP. -/
def overwriteWaiting : State :=
  wbit { State.reset with
    evt := { State.reset.evt with
      waiting := (List.range 17).map (fun i => ⟨229, i, 0, 0⟩)
      log := List.replicate 1024 ⟨0, 0, 0, 0, 0, 0⟩
      overwrites := 1023 } } .evtStk [4, 7] 5 true

theorem exec_stickyFlagClear_overwriteWaiting :
    exec (.stickyFlagClear 4 229 true) overwriteWaiting = .next (presentNext overwriteWaiting 229 (some 4)) := by
  rw [exec_stickyFlagClear, execStickyFlagClear, if_pos (by decide), if_pos (by decide +kernel)]

theorem rf_presentNext_overwriteWaiting : rf (presentNext overwriteWaiting 229 (some 4)) .evtRpt [4, 229] 7 0 = 2 := by decide +kernel

/-- Refutes O46: in a state with more than 16 firings of EVT_LOG_WRAP waiting and a full log, the entry of the firing that reaches the
flag is itself an overwrite to be reported; the report finds 16 waiting, and is counted at the flag just set, whose count becomes 2. -/
theorem not_stickyFlagsClearOnWrite : ¬ Obligations.StickyFlagsClearOnWrite := by
  unfold Obligations.StickyFlagsClearOnWrite
  rintro ⟨-, h⟩
  obtain ⟨t, hx, -, hcount, -⟩ := h overwriteWaiting 4 229 ⟨229, 0, 0, 0⟩ (by decide) (by decide) (by decide +kernel) (by decide +kernel)
    (by decide +kernel) (by decide +kernel)
  rw [← Host.Outcome.next.inj (exec_stickyFlagClear_overwriteWaiting.symm.trans hx), rf_presentNext_overwriteWaiting] at hcount
  exact absurd hcount (by decide)

/-! ## A firing at one destination (R493) -/

/-- The flags of a source at two destinations are apart. -/
theorem regAddr_evtStk_ne {d d' : Nat} (hd : d < 5) (hd' : d' < 5) (h : d ≠ d') (b b' : Nat) : regAddr .evtStk [d, b] ≠ regAddr .evtStk [d', b'] := by
  show _ + 256 * (d % 5) + 8 * (b % 8) ≠ _ + 256 * (d' % 5) + 8 * (b' % 8)
  omega

/-- The repeat counts of a source at two destinations are apart. -/
theorem regAddr_evtRpt_ne {d d' : Nat} (hd : d < 5) (hd' : d' < 5) (h : d ≠ d') (b b' : Nat) : regAddr .evtRpt [d, b] ≠ regAddr .evtRpt [d', b'] := by
  show _ + 1024 * (d % 5) + 4 * (b % 256) ≠ _ + 1024 * (d' % 5) + 4 * (b' % 256)
  omega

/-- The owner of a carrier lies in the object store. -/
theorem ccOwner_of_same (ho : t.objs = s.objs) (hs : t.straps = s.straps) (cc : Nat) : t.ccOwner cc = s.ccOwner cc := by
  unfold State.ccOwner
  split
  next h =>
    have hobj (u : State) : u.obj (0x2010 + cc) 2 = spGet (objDefault u.tenants (0x2010 + cc) 2) u.objs (okey (0x2010 + cc) 2) := by
      have hb : objBlock (0x2010 + cc) 2 = none := if_neg (by omega)
      have hh : objHome (0x2010 + cc) 2 = none := by interval_cases cc <;> decide
      rw [State.obj, hb, hh]
      exact if_neg (by omega)
    rw [State.onum, State.onum, hobj, hobj, ho, State.tenants, State.tenants, hs]
  · rfl

/-- Who is entitled to a firing: carriers' owners, rings' owners, and the tenants that the straps enable. -/
theorem entitled_of_same (ho : t.objs = s.objs) (hs : t.straps = s.straps) (hr : ∀ r, rd t .dmaRingCfg [r] = rd s .dmaRingCfg [r])
    (src inst d : Nat) : entitled t src inst d = entitled s src inst d := by
  unfold entitled State.ringOwner State.tenants rf
  simp only [ccOwner_of_same ho hs, hs, hr]

/-- A destination takes a firing: it is entitled, and its enable is 1. -/
def takes (s : State) (f : Firing) (d : Nat) : Bool := entitled s f.src f.inst d && evtEnabled s f.src d

/-- What destination `d` shows of a source: its sticky flag and its repeat count. -/
def shownAtDest (s : State) (src d : Nat) : Bool × Nat := (evtSticky s src d, rf s .evtRpt [d, src] 7 0)

/-- A destination whose flag is set counts a firing. -/
theorem fireAt_of_sticky {f : Firing} {d del : Nat} {co : Bool} (ht : takes s f d = true) (hs : evtSticky s f.src d = true) :
    fireAt f none (del, co, s) d = (del, true, { coalesceAt s f.src d with
      evt := { (coalesceAt s f.src d).evt with counted := (coalesceAt s f.src d).evt.counted ++ [(d, f)] } }) := by
  simp only [takes, Bool.and_eq_true] at ht
  unfold fireAt
  simp [ht, hs]

/-- The flag of a destination set by a firing, and its count 0. -/
def delivered (s : State) (src d : Nat) : State := wf (setFlag s .evtStk [d, src / 32] (src % 32)) .evtRpt [d, src] 7 0 0

/-- A destination whose flag is not set has the firing delivered. -/
theorem fireAt_of_delivered {f : Firing} {d del : Nat} {co : Bool} (ht : takes s f d = true) (hs : evtSticky s f.src d = false) :
    ∃ q, fireAt f none (del, co, s) d = (del + 2 ^ d, co, if d < 4 then (delivered s f.src d).setPort d q else delivered s f.src d) := by
  simp only [takes, Bool.and_eq_true] at ht
  unfold fireAt delivered
  simp only [ht, hs, b2n, and_self, not_true_eq_false, if_false, Bool.false_eq_true, false_and]
  exact ⟨_, rfl⟩

/-- A destination that takes no firing stays. -/
theorem fireAt_of_not_takes {f : Firing} {d del : Nat} {co : Bool} (ht : takes s f d = false) :
    fireAt f none (del, co, s) d = (del, co, s) := by
  have hn : ¬ (entitled s f.src f.inst d = true ∧ evtEnabled s f.src d = true) := by simpa [takes] using ht
  unfold fireAt
  exact if_pos hn

theorem shownAtDest_of_regs {src d : Nat} (hk : ∀ id ix, rd t id ix = rd s id ix) : shownAtDest t src d = shownAtDest s src d := by
  unfold shownAtDest evtSticky rbit rf
  rw [hk, hk]

theorem shownAtDest_delivered {src d : Nat} : shownAtDest (delivered s src d) src d = (true, 0) := by
  have hstk : rbit (delivered s src d) .evtStk [d, src / 32] (src % 32) = true := by
    rw [rbit, delivered, rd_wf_other _ _ _ _ _ _ _ _ (regAddr_ne _ _ (by decide))]
    exact rbit_wbit s .evtStk [d, src / 32] (src % 32) true (Nat.mod_lt _ (by decide))
  unfold shownAtDest evtSticky
  rw [hstk, delivered, rf_wf _ _ _ _ _ _ (by decide) (by decide)]
  rfl

theorem shownAtDest_delivered_other {src d d' : Nat} (hd : d < 5) (hd' : d' < 5) (h : d' ≠ d) :
    shownAtDest (delivered s src d) src d' = shownAtDest s src d' := by
  have hstk : rd (delivered s src d) .evtStk [d', src / 32] = rd s .evtStk [d', src / 32] := by
    rw [delivered, rd_wf_other _ _ _ _ _ _ _ _ (regAddr_ne _ _ (by decide))]
    exact rd_wbit_other s _ _ _ _ _ _ (regAddr_evtStk_ne hd' hd h _ _)
  have hrpt : rd (delivered s src d) .evtRpt [d', src] = rd s .evtRpt [d', src] := by
    rw [delivered, rd_wf_other _ _ _ _ _ _ _ _ (regAddr_evtRpt_ne hd' hd h _ _)]
    exact rd_wbit_other s _ _ _ _ _ _ (regAddr_ne _ _ (by decide))
  unfold shownAtDest evtSticky rbit rf
  rw [hstk, hrpt]

theorem shownAtDest_coalesceAt {src d : Nat} :
    shownAtDest (coalesceAt s src d) src d = (evtSticky s src d, min 255 (rf s .evtRpt [d, src] 7 0 + 1)) := by
  have hstk : rd (coalesceAt s src d) .evtStk [d, src / 32] = rd s .evtStk [d, src / 32] :=
    rd_wf_other _ _ _ _ _ _ _ _ (regAddr_ne _ _ (by decide))
  have hrpt : rf (coalesceAt s src d) .evtRpt [d, src] 7 0 = min 255 (rf s .evtRpt [d, src] 7 0 + 1) :=
    (rf_wf s .evtRpt [d, src] 7 0 _ (by decide) (by decide)).trans
      (Nat.mod_eq_of_lt (Nat.lt_of_le_of_lt (Nat.min_le_left _ _) (by decide)))
  unfold shownAtDest evtSticky rbit
  rw [hrpt, hstk]

theorem shownAtDest_coalesceAt_other {src d d' : Nat} (hd : d < 5) (hd' : d' < 5) (h : d' ≠ d) :
    shownAtDest (coalesceAt s src d) src d' = shownAtDest s src d' := by
  have hstk : rd (coalesceAt s src d) .evtStk [d', src / 32] = rd s .evtStk [d', src / 32] :=
    rd_wf_other _ _ _ _ _ _ _ _ (regAddr_ne _ _ (by decide))
  have hrpt : rd (coalesceAt s src d) .evtRpt [d', src] = rd s .evtRpt [d', src] :=
    rd_wf_other _ _ _ _ _ _ _ _ (regAddr_evtRpt_ne hd' hd h _ _)
  unfold shownAtDest evtSticky rbit rf
  rw [hstk, hrpt]

/-- What a destination shows after it takes a firing (R493). -/
def shownAfter (took : Bool) (x : Bool × Nat) : Bool × Nat := if took then (true, if x.1 then min 255 (x.2 + 1) else 0) else x

/-- A firing at one destination, by what it delivers there and what each destination then shows. -/
theorem fireAt_shows (f : Firing) (x : Nat × Bool × State) {d : Nat} (hd : d < 5) :
    (fireAt f none x d).1 = x.1 + (if takes x.2.2 f d && !evtSticky x.2.2 f.src d then 2 ^ d else 0) ∧
      shownAtDest (fireAt f none x d).2.2 f.src d = shownAfter (takes x.2.2 f d) (shownAtDest x.2.2 f.src d) ∧
      (∀ d' < 5, d' ≠ d → shownAtDest (fireAt f none x d).2.2 f.src d' = shownAtDest x.2.2 f.src d') ∧
      ∃ c, (fireAt f none x d).2.2.evt = { x.2.2.evt with counted := c } := by
  obtain ⟨del, co, u⟩ := x
  dsimp only
  cases ht : takes u f d
  · rw [fireAt_of_not_takes ht]
    exact ⟨rfl, rfl, fun _ _ _ => rfl, u.evt.counted, rfl⟩
  cases hs : evtSticky u f.src d
  · obtain ⟨q, hq⟩ := fireAt_of_delivered (del := del) (co := co) ht hs
    rw [hq]
    have hsame (e : Nat) : shownAtDest (if d < 4 then (delivered u f.src d).setPort d q else delivered u f.src d) f.src e =
        shownAtDest (delivered u f.src d) f.src e := by
      split
      · exact shownAtDest_of_regs fun _ _ => rfl
      · rfl
    refine ⟨rfl, ?_, fun d' hd' hne => ?_, u.evt.counted, ?_⟩
    · rw [hsame, shownAtDest_delivered, shownAfter, shownAtDest, hs]
      rfl
    · rw [hsame, shownAtDest_delivered_other hd hd' hne]
    · split <;> rfl
  · rw [fireAt_of_sticky ht hs]
    refine ⟨rfl, ?_, fun d' hd' hne => ?_, u.evt.counted ++ [(d, f)], rfl⟩
    · refine (shownAtDest_of_regs (s := coalesceAt u f.src d) fun _ _ => rfl).trans ?_
      rw [shownAtDest_coalesceAt, shownAfter, shownAtDest, hs]
      rfl
    · exact (shownAtDest_of_regs (s := coalesceAt u f.src d) fun _ _ => rfl).trans (shownAtDest_coalesceAt_other hd hd' hne)

/-- Who takes a firing does not change as it is presented. -/
theorem takes_fireAt (f : Firing) (x : Nat × Bool × State) (d e : Nat) : takes (fireAt f none x d).2.2 f e = takes x.2.2 f e := by
  have h : SameBut [.fresh, .evt, .lnk] [.evtRpt, .evtStk] x.2.2 (fireAt f none x d).2.2 :=
    (fireAt_same f none d (Nat.and_self _) (Same.refl _ x.2.2)).but
  have hrd (id : RegId) (ix : List Nat) (hid : id = .dmaRingCfg ∨ id = .evtEn) : rd (fireAt f none x d).2.2 id ix = rd x.2.2 id ix :=
    h.rd_eq_apart (by decide) (by decide) (by rcases hid with rfl | rfl <;> decide)
  unfold takes
  rw [entitled_of_same (h.objs (by decide)) (h.straps (by decide)) (fun r => hrd _ _ (Or.inl rfl)), evtEnabled, evtEnabled, rbit, rbit,
    hrd _ _ (Or.inr rfl)]

/-- What a firing delivers at destination `d`, as a bit of the log entry's DEST. -/
def deliveredBit (s : State) (f : Firing) (d : Nat) : Nat := if takes s f d && !evtSticky s f.src d then 2 ^ d else 0

theorem deliveredBit_of_shown {f : Firing} {d : Nat} (ht : takes t f d = takes s f d) (h : shownAtDest t f.src d = shownAtDest s f.src d) :
    deliveredBit t f d = deliveredBit s f d := by
  have hs : evtSticky t f.src d = evtSticky s f.src d := congrArg Prod.fst h
  unfold deliveredBit
  rw [ht, hs]

/-- A firing at some destinations, one after another. -/
theorem foldl_fireAt_shows (f : Firing) {l : List Nat} (hn : l.Nodup) (hl : ∀ d ∈ l, d < 5) (x : Nat × Bool × State) :
    (l.foldl (fireAt f none) x).1 = x.1 + (l.map (deliveredBit x.2.2 f)).sum ∧
      (∀ d < 5, shownAtDest (l.foldl (fireAt f none) x).2.2 f.src d =
        if d ∈ l then shownAfter (takes x.2.2 f d) (shownAtDest x.2.2 f.src d) else shownAtDest x.2.2 f.src d) ∧
      ∃ c, (l.foldl (fireAt f none) x).2.2.evt = { x.2.2.evt with counted := c } := by
  induction l generalizing x with
  | nil => exact ⟨rfl, fun _ _ => rfl, x.2.2.evt.counted, rfl⟩
  | cons a l ih =>
    obtain ⟨ha, hn'⟩ := List.nodup_cons.1 hn
    have ha5 : a < 5 := hl a List.mem_cons_self
    obtain ⟨hdel, hself, hother, c, hevt⟩ := fireAt_shows f x ha5
    obtain ⟨hdel', hshown, c', hevt'⟩ := ih hn' (fun d hd => hl d (List.mem_cons_of_mem _ hd)) (fireAt f none x a)
    rw [List.foldl_cons]
    refine ⟨?_, fun d hd => ?_, c', by rw [hevt', hevt]⟩
    · have hbits : l.map (deliveredBit (fireAt f none x a).2.2 f) = l.map (deliveredBit x.2.2 f) :=
        List.map_congr_left fun d hd => deliveredBit_of_shown (takes_fireAt f x a d)
          (hother d (hl d (List.mem_cons_of_mem _ hd)) fun he => ha (he ▸ hd))
      rw [hdel', hbits, hdel, List.map_cons, List.sum_cons, Nat.add_assoc]
      rfl
    · rw [hshown d hd, takes_fireAt]
      by_cases hda : d = a
      · subst hda
        rw [if_neg ha, if_pos List.mem_cons_self, hself]
      · rw [hother d hd hda]
        simp [hda]

/-! ## A firing presented (R492 to R497) -/

/-- The state in which the destinations see a firing: it waits no more. -/
def presented (s : State) (f : Firing) : State :=
  { s with evt := { s.evt with
      waiting := s.evt.waiting.erase f
      shown := setIns f.src (if s.evt.shownAt = s.clk.elapsed then s.evt.shown else [])
      shownAt := s.clk.elapsed
      counted := if s.evt.shownAt = s.clk.elapsed then s.evt.counted else [] } }

theorem present_eq (f : Firing) : present s f none = logFiring f (dests.foldl (fireAt f none) (0, false, presented s f)) := rfl

theorem takes_presented (f : Firing) (d : Nat) : takes (presented s f) f d = takes s f d := by
  unfold takes
  rw [entitled_of_same rfl rfl (fun _ => rfl)]
  rfl

/-- The log takes one more entry while it is not full (R497, R498). -/
theorem logWrite_evt {e : LogEntry} (h : s.evt.log.length < 1024) :
    (logWrite s e).evt = { s.evt with log := s.evt.log ++ [e], head := s.evt.head + 1 } := by
  unfold logWrite
  have hf : decide (1024 ≤ s.evt.log.length) = false := by simpa using h
  simp [hf, b2n]

/-- A firing logged where it was delivered. -/
theorem logFiring_leaves (f : Firing) (x : Nat × Bool × State) (h : x.2.2.evt.log.length < 1024) :
    (logFiring f x).evt.waiting = x.2.2.evt.waiting ∧ (∀ id ix, rd (logFiring f x) id ix = rd x.2.2 id ix) ∧
      (x.1 ≠ 0 → (logFiring f x).evt.head = x.2.2.evt.head + 1 ∧ ((logFiring f x).evt.log.getLastD ⟨0, 0, 0, 0, 0, 0⟩).dest = x.1) := by
  obtain ⟨del, co, u⟩ := x
  unfold logFiring
  dsimp only
  split
  · have hlog := logWrite_evt (s := u) (e := ⟨u.now - (u.clk.elapsed - f.tick), f.src, del, f.inst, f.aux, 0⟩) h
    refine ⟨by rw [hlog], fun id ix => ?_, fun _ => ⟨by rw [hlog], ?_⟩⟩
    · have hf : decide (1024 ≤ u.evt.log.length) = false := by simpa using h
      unfold logWrite
      simp only [hf, Bool.false_eq_true, false_and, if_false]
      exact rd_eq_of_regs rfl rfl id ix
    · rw [hlog]
      simp
  next hd =>
    split
    · exact ⟨rfl, fun id ix => rd_eq_of_regs rfl rfl id ix, fun h' => absurd (not_not.1 hd) h'⟩
    · exact ⟨rfl, fun _ _ => rfl, fun h' => absurd (not_not.1 hd) h'⟩

/-- The bits of a DEST (R497). -/
theorem bitOf_sum_dests (b : Nat → Bool) {d : Nat} (hd : d < 5) :
    bitOf (0 + (dests.map (fun e => if b e then 2 ^ e else 0)).sum) d = b d := by
  have h (b0 b1 b2 b3 b4 : Bool) : ∀ d < 5, bitOf ((if b0 then 1 else 0) + ((if b1 then 2 else 0) + ((if b2 then 4 else 0) +
      ((if b3 then 8 else 0) + (if b4 then 16 else 0))))) d = [b0, b1, b2, b3, b4].getD d false := by
    revert b0 b1 b2 b3 b4
    decide
  have hd' : d = 0 ∨ d = 1 ∨ d = 2 ∨ d = 3 ∨ d = 4 := by omega
  have hb : [b 0, b 1, b 2, b 3, b 4].getD d false = b d := by rcases hd' with rfl | rfl | rfl | rfl | rfl <;> rfl
  rw [← hb, ← h _ _ _ _ _ d hd]
  simp [dests]

/-- A sum of a DEST's bits is not 0 where one is delivered. -/
theorem sum_dests_ne_zero {b : Nat → Bool} {d : Nat} (hd : d < 5) (h : b d = true) :
    0 + (dests.map (fun e => if b e then 2 ^ e else 0)).sum ≠ 0 := by
  intro h0
  have := bitOf_sum_dests b hd
  rw [h0, h] at this
  exact absurd this (by simp [bitOf])

/-- Settles O45: the destinations see a firing one after another, each by its own flag and count, and the entry names those it reached. -/
theorem firingsArePresented : Obligations.FiringsArePresented := by
  unfold Obligations.FiringsArePresented
  intro s src f _ hfind hlog
  have hsrc : f.src = src := by simpa using List.find?_some hfind
  subst hsrc
  obtain ⟨hdel, hshown, c, hevt⟩ := foldl_fireAt_shows f (l := dests) (by decide) (by decide) (0, false, presented s f)
  obtain ⟨hwaiting, hrd, hentry⟩ := logFiring_leaves f (dests.foldl (fireAt f none) (0, false, presented s f)) (by rw [hevt]; exact hlog)
  have hat (d : Nat) (hd : d < 5) : shownAtDest (present s f none) f.src d = shownAfter (takes s f d) (shownAtDest s f.src d) := by
    have hmem : d ∈ dests := by simp [dests]; omega
    rw [present_eq, shownAtDest_of_regs hrd, hshown d hd, if_pos hmem, takes_presented]
    exact congrArg _ (shownAtDest_of_regs fun _ _ => rfl)
  have hbits : deliveredBit (presented s f) f = fun d => if (takes s f d && !evtSticky s f.src d) then 2 ^ d else 0 :=
    funext fun d => deliveredBit_of_shown (takes_presented f d) (shownAtDest_of_regs fun _ _ => rfl)
  refine ⟨present s f none, by rw [exec_eventFiringPresent, execEventFiringPresent, presentNext, hfind], ?_, fun d hd he hn => ?_,
    fun d hd hno => ?_, fun hex => ?_⟩
  · rw [present_eq, hwaiting, hevt]
    rfl
  · have h := hat d hd
    rw [takes, he, hn, shownAtDest, shownAtDest, shownAfter] at h
    exact Prod.mk.inj h
  · have h := hat d hd
    have ht : takes s f d = false := by rcases hno with h' | h' <;> simp [takes, h']
    rw [ht] at h
    exact Prod.mk.inj h
  · obtain ⟨d, hd, he, hn, hs⟩ := hex
    dsimp only at hdel
    rw [hbits] at hdel
    have hne := sum_dests_ne_zero (b := fun d => takes s f d && !evtSticky s f.src d) hd (by simp [takes, he, hn, hs])
    obtain ⟨hhead, hdest⟩ := hentry (by rw [hdel]; exact hne)
    rw [present_eq]
    refine ⟨by rw [hhead, hevt]; rfl, fun e hlt => ?_⟩
    rw [hdest, hdel]
    exact bitOf_sum_dests _ hlt

end Sys2Proof.Machine
end

section
/-!
Diong frames and sessions (R474 to R480, R503), and the requests that perform nothing: the settlement of O47.
-/

namespace Sys2Proof.Machine

set_option Elab.async false

variable {s t : State}

/-! ## Frames sent (R479, R503) -/

/-- The newest response of the SPI queue stays as the queue gives way. -/
theorem getLast?_spiQueue (f : List Byte) : (spiQueue s false f).diong.spiOut.getLast? = some (false, f) := by
  unfold spiQueue
  dsimp only
  split
  · exact List.getLast?_concat
  next h =>
    simp only [List.length_append, List.length_singleton] at h
    dsimp only
    split
    next ha =>
      have hq : (s.diong.spiOut ++ [(false, f)]).eraseP (·.1) = s.diong.spiOut.eraseP (·.1) ++ [(false, f)] := by
        obtain ⟨x, hx, hx1⟩ := List.any_eq_true.1 ha
        rcases List.mem_append.1 hx with hx | hx
        · exact List.eraseP_append_left hx1 _ hx
        · rw [List.mem_singleton.1 hx] at hx1
          exact absurd hx1 Bool.false_ne_true
      rw [hq, List.getLast?_concat]
    · rw [List.tail_append_of_ne_nil (by intro h0; rw [h0] at h; exact absurd h (by decide)), List.getLast?_concat]

/-- A response sent is the newest thing on its transport. -/
theorem diongSent_sendFrame (tr : Transport) (f : List Byte) : DiongSent (sendFrame s tr false f) tr f := by
  cases tr with
  | spi => exact getLast?_spiQueue f
  | port n => exact List.getLast?_concat
  | t1s => exact List.getLast?_concat

theorem sendFrame_sessions (tr : Transport) (notify : Bool) (f : List Byte) : (sendFrame s tr notify f).diong.sessions = s.diong.sessions := by
  unfold sendFrame
  split
  · unfold spiQueue
    dsimp only
    split <;> rfl
  · rfl

theorem respond_sessions (tr : Transport) (session seq key : Nat) (m : List Byte) (op status : Nat) (payload : List Byte) (last : Bool) :
    (respond s tr session seq key m op status payload last).diong.sessions = s.diong.sessions := sendFrame_sessions ..

theorem respond_leaves (tr : Transport) (session seq key : Nat) (m : List Byte) (op status : Nat) (payload : List Byte) (last : Bool) :
    SameBut [.out, .diong] [] s (respond s tr session seq key m op status payload last) :=
  (respond_same tr session seq key m op status payload last (Nat.and_self _) (Same.refl _ s)).but

/-- R478, R479: a response is a frame tagged with its session's key. -/
theorem diongSent_respond {u : State} (d : DHdr) (op status : Nat) (payload : List Byte) (last : Bool)
    (hk : keyMaterial u d.transport d.key = keyMaterial s d.transport d.key) :
    DiongSent (respond t d.transport d.session d.seq d.key ((keyMaterial u d.transport d.key).getD []) op status payload last) d.transport
      (diongResponse s d op status payload last) := by
  rw [hk]
  exact diongSent_sendFrame ..

/-! ## Sessions (R476) -/

/-- A session changed in what does not name it. -/
theorem session_modSession {tr : Transport} {key id : Nat} {f : Session → Session} (hf : ∀ x, (f x).is tr key id = x.is tr key id) :
    (modSession s tr key id f).session tr key id = (s.session tr key id).map f := by
  unfold State.session modSession
  dsimp only
  generalize s.diong.sessions = l
  induction l with
  | nil => rfl
  | cons x l ih =>
    rw [List.map_cons]
    by_cases hx : x.is tr key id = true
    · rw [if_pos hx, (List.find?_cons_of_pos (p := fun y : Session => y.is tr key id) hx : _ = some x)]
      exact List.find?_cons_of_pos (p := fun y : Session => y.is tr key id) (by rw [hf, hx])
    · rw [if_neg hx, List.find?_cons_of_neg (p := fun y : Session => y.is tr key id) hx,
        List.find?_cons_of_neg (p := fun y : Session => y.is tr key id) hx, ih]

theorem session_of_sessions (h : t.diong.sessions = s.diong.sessions) (tr : Transport) (key id : Nat) : t.session tr key id = s.session tr key id := by
  unfold State.session
  rw [h]

/-! ## Frames received (R474, R475, R479, R480) -/

theorem diongFreed_eq (d : DHdr) : ∃ q, diongFreed s d = { s with diong := { s.diong with spiIn := q } } := by
  unfold diongFreed
  split
  · exact ⟨_, rfl⟩
  · exact ⟨s.diong.spiIn, rfl⟩

/-- A frame's checks look at nothing that the buffer of the frame changes. -/
theorem diongFreed_from (d : DHdr) :
    diongRuns (diongFreed s d) = diongRuns s ∧ roleOf (diongFreed s d) d.transport d.key = roleOf s d.transport d.key ∧
      keyMaterial (diongFreed s d) d.transport d.key = keyMaterial s d.transport d.key ∧
      (diongFreed s d).session d.transport d.key d.session = s.session d.transport d.key d.session := by
  obtain ⟨q, hq⟩ := diongFreed_eq (s := s) d
  rw [hq]
  exact ⟨rfl, rfl, rfl, rfl⟩

/-- A frame that passes the checks is its role's (R474, R475). -/
theorem authenticate_of_from {d : DHdr} {op : Nat} {payload : List Byte} {role : Role} (h : DiongFrom s d op payload role) :
    authenticate (diongFreed s d) d op payload = (some role, diongFreed s d) := by
  obtain ⟨hruns, hver, hlink, hrole, hkey, htag⟩ := h
  obtain ⟨hruns', hrole', hkey', -⟩ := diongFreed_from (s := s) d
  obtain ⟨m, hm⟩ := Option.isSome_iff_exists.1 hkey
  have hl : ¬ (d.ver ≠ 1 ∨ ¬ diongLink d = true) := by simp [hver, hlink]
  unfold authenticate
  dsimp only
  rw [if_neg (by rw [hruns', hruns]; decide)]
  refine (if_neg hl).trans ?_
  rw [hrole', hkey', hrole, hm]
  dsimp only
  rw [htag, hm, hver]
  exact if_pos rfl

/-- A frame that fails its role, its key or its TAG is counted and told (R475). -/
theorem authenticate_of_bad {d : DHdr} {op : Nat} {payload : List Byte} (hruns : diongRuns s = true) (hver : d.ver = 1)
    (hlink : diongLink d = true)
    (h : roleOf s d.transport d.key = none ∨
      d.tag ≠ tagOf d.key ((keyMaterial s d.transport d.key).getD []) (frameBody_ (16 + 4 * b2n d.last) op d.session d.seq d.key 0 payload)) :
    authenticate (diongFreed s d) d op payload =
      (none, raise (stat (diongFreed s d) 0x1050 1) 227 (transportInst d.transport) NA) := by
  obtain ⟨hruns', hrole', hkey', -⟩ := diongFreed_from (s := s) d
  have hl : ¬ (d.ver ≠ 1 ∨ ¬ diongLink d = true) := by simp [hver, hlink]
  unfold authenticate
  dsimp only
  rw [if_neg (by rw [hruns', hruns]; decide)]
  refine (if_neg hl).trans ?_
  rw [hrole', hkey']
  rcases h with h | h
  · rw [h]
  · split
    next r m hr hm =>
      rw [hm] at h
      refine if_neg ?_
      rw [hver]
      exact h
    · rfl

/-- A frame has reached its session (R476). -/
def diongTouched (s : State) (d : DHdr) : State :=
  modSession (diongFreed s d) d.transport d.key d.session (fun x => { x with lastFrame := (diongFreed s d).clk.elapsed })

/-- How far a request's SEQ is ahead of its session's (R477). -/
def diongAhead (d : DHdr) (x : Session) : Nat := (d.seq + 2 ^ 32 - x.seq % 2 ^ 32) % 2 ^ 32

/-- A request of a session that exists (R477, R478). -/
theorem request_of_session {d : DHdr} {op : Nat} {payload : List Byte} {role : Role} {x : Session} (act : Role → State → DRes)
    (h : DiongFrom s d op payload role) (hx : s.session d.transport d.key d.session = some x) :
    request s d op payload act =
      (if diongAhead d x = 0 then
         (match x.resp with
         | some (o, st, p) => respond (diongTouched s d) d.transport d.session d.seq d.key
           ((keyMaterial (diongFreed s d) d.transport d.key).getD []) (o % 256) st p (decide (256 ≤ o))
         | none => diongTouched s d)
       else if diongAhead d x < 2 ^ 31 then
         (if x.busy then respond (diongTouched s d) d.transport d.session d.seq d.key
           ((keyMaterial (diongFreed s d) d.transport d.key).getD []) op 7 [] false
          else runRequest (diongTouched s d) d role ((keyMaterial (diongFreed s d) d.transport d.key).getD []) op payload act)
       else stat (diongTouched s d) 0x1050 2) := by
  have hauth := authenticate_of_from h
  have hsession : (diongFreed s d).session d.transport d.key d.session = some x := (diongFreed_from d).2.2.2.trans hx
  show (match authenticate (diongFreed s d) d op payload with | (none, s1) => s1 | (some role, s1) => _) = _
  rw [hauth]
  dsimp only
  rw [hsession]
  rfl

/-- What a frame that reaches its session changes: the buffer it came in, and the session's time. -/
theorem diongTouched_eq (d : DHdr) :
    ∃ q l, diongTouched s d = { s with diong := { s.diong with spiIn := q, sessions := l } } := by
  obtain ⟨q, hq⟩ := diongFreed_eq (s := s) d
  exact ⟨q, (diongTouched s d).diong.sessions, by rw [diongTouched, hq]; rfl⟩

theorem session_diongTouched {d : DHdr} {x : Session} (hx : s.session d.transport d.key d.session = some x) :
    (diongTouched s d).session d.transport d.key d.session = some { x with lastFrame := s.clk.elapsed } := by
  obtain ⟨q, hq⟩ := diongFreed_eq (s := s) d
  have hclk : (diongFreed s d).clk = s.clk := by rw [hq]
  rw [diongTouched]
  refine (session_modSession (f := fun x => { x with lastFrame := (diongFreed s d).clk.elapsed }) (fun _ => rfl)).trans ?_
  rw [(diongFreed_from d).2.2.2, hx, hclk]
  rfl

/-- A request is performed by the transport's frame alone; one that leaves the NV store is not followed by a cold start. -/
theorem exec_of_diongRequest {c : Instr} {d : DHdr} {op : Nat} {payload : List Byte} (hc : diongRequest c = some (d, op, payload)) :
    ∃ act, exec c s = .next (request s d op payload act) ∨ exec c s = .next (tokenStart s (request s d op payload act)) := by
  cases c <;> simp only [diongRequest, Option.some.injEq, Prod.mk.injEq, reduceCtorEq] at hc
  all_goals obtain ⟨rfl, rfl, rfl⟩ := hc
  case write => exact ⟨_, Or.inr rfl⟩
  case writeBlock => exact ⟨_, Or.inr rfl⟩
  all_goals exact ⟨_, Or.inl rfl⟩

/-- A request that leaves the NV store is performed, and no more. -/
theorem exec_of_diongRequest_nv {c : Instr} {d : DHdr} {op : Nat} {payload : List Byte} (hc : diongRequest c = some (d, op, payload))
    (h : ∀ act, (request s d op payload act).nv = s.nv) : ∃ act, exec c s = .next (request s d op payload act) := by
  obtain ⟨act, hx | hx⟩ := exec_of_diongRequest (s := s) hc
  · exact ⟨act, hx⟩
  · exact ⟨act, by rw [hx, tokenStart_of_nv_eq (h act)]⟩

/-! ## Requests that perform nothing (R475, R477, R478) -/

/-- A response changes what was sent and the transport's queue. -/
theorem respond_eq (tr : Transport) (session seq key : Nat) (m : List Byte) (op status : Nat) (payload : List Byte) (last : Bool) :
    ∃ o g, respond s tr session seq key m op status payload last = { s with out := o, diong := g } := by
  unfold respond sendFrame spiQueue
  dsimp only
  split
  · split
    · exact ⟨s.out, _, rfl⟩
    · exact ⟨s.out, _, rfl⟩
  · exact ⟨_, s.diong, rfl⟩

/-- A frame that reaches its session and is answered performs nothing. -/
theorem respond_diongTouched_eq (d : DHdr) (session seq key : Nat) (m : List Byte) (op status : Nat) (payload : List Byte) (last : Bool) :
    ∃ o g, respond (diongTouched s d) d.transport session seq key m op status payload last = { s with out := o, diong := g } := by
  obtain ⟨o, g, h⟩ := respond_eq (s := diongTouched s d) d.transport session seq key m op status payload last
  obtain ⟨q, l, hq⟩ := diongTouched_eq (s := s) d
  exact ⟨o, g, by rw [h, hq]⟩

theorem session_respond_diongTouched {d : DHdr} {x : Session} (hx : s.session d.transport d.key d.session = some x) (m : List Byte)
    (op status : Nat) (payload : List Byte) (last : Bool) :
    (respond (diongTouched s d) d.transport d.session d.seq d.key m op status payload last).session d.transport d.key d.session =
      some { x with lastFrame := s.clk.elapsed } := by
  rw [session_of_sessions (respond_sessions ..), session_diongTouched hx]

/-- A request answered without being performed (R477, R478). -/
theorem completes_answered {c : Instr} {d : DHdr} {op : Nat} {payload : List Byte} {x : Session} {op' status : Nat} {b : List Byte} {last : Bool}
    (hc : diongRequest c = some (d, op, payload)) (hx : s.session d.transport d.key d.session = some x)
    (h : ∀ act, request s d op payload act = respond (diongTouched s d) d.transport d.session d.seq d.key
      ((keyMaterial (diongFreed s d) d.transport d.key).getD []) op' status b last) :
    Completes c s fun t =>
      DiongSent t d.transport (diongResponse s d op' status b last) ∧
      t.session d.transport d.key d.session = some { x with lastFrame := s.clk.elapsed } ∧ DeviceSame s t ∧ t.evt = s.evt ∧ t.regs = s.regs := by
  obtain ⟨o, g, hresp⟩ := respond_diongTouched_eq (s := s) d d.session d.seq d.key
    ((keyMaterial (diongFreed s d) d.transport d.key).getD []) op' status b last
  obtain ⟨act, hexec⟩ := exec_of_diongRequest_nv (s := s) hc fun act => by rw [h act, hresp]
  rw [h act] at hexec
  refine ⟨_, hexec, diongSent_respond d op' status b last (diongFreed_from d).2.2.1, session_respond_diongTouched hx _ _ _ _ _, ?_⟩
  rw [hresp]
  exact ⟨⟨rfl, rfl, rfl, rfl, rfl, rfl⟩, rfl, rfl⟩

/-- A counter below its limit counts one (R499). -/
theorem stat_of_lt {index sub : Nat} (h : spGet 0 s.stats (okey index sub) < statMax) :
    stat s index sub = { s with stats := spPut 0 s.stats (okey index sub) (spGet 0 s.stats (okey index sub) + 1) } := by
  have hb : bitOf (spGet 0 s.stats (okey index sub)) 63 = false := by
    unfold statMax at h
    unfold bitOf
    generalize spGet 0 s.stats (okey index sub) = v at h
    rw [Nat.shiftRight_eq_div_pow, Nat.div_eq_of_lt (Nat.lt_trans h (by decide))]
    rfl
  rw [stat, if_neg (by rw [hb]; decide), if_neg (by omega)]

theorem completes_old {c : Instr} {d : DHdr} {op : Nat} {payload : List Byte} {role : Role} {x : Session}
    (hc : diongRequest c = some (d, op, payload)) (hf : DiongFrom s d op payload role)
    (hx : s.session d.transport d.key d.session = some x) (hold : 2 ^ 31 ≤ diongAhead d x) (hm : spGet 0 s.stats (okey 0x1050 2) < statMax) :
    Completes c s fun t =>
      t.out = s.out ∧ t.diong.spiOut = s.diong.spiOut ∧ spGet 0 t.stats (okey 0x1050 2) = spGet 0 s.stats (okey 0x1050 2) + 1 ∧
      t.session d.transport d.key d.session = some { x with lastFrame := s.clk.elapsed } ∧ DeviceSame s t ∧ t.evt = s.evt := by
  obtain ⟨q, l, hq⟩ := diongTouched_eq (s := s) d
  have hsession := session_diongTouched hx
  have hstat : stat (diongTouched s d) 0x1050 2 = { diongTouched s d with
      stats := spPut 0 (diongTouched s d).stats (okey 0x1050 2) (spGet 0 (diongTouched s d).stats (okey 0x1050 2) + 1) } :=
    stat_of_lt (by rw [hq]; exact hm)
  have hreq (act : Role → State → DRes) : request s d op payload act = stat (diongTouched s d) 0x1050 2 := by
    rw [request_of_session act hf hx, if_neg (by omega), if_neg (by omega)]
  obtain ⟨act, hexec⟩ := exec_of_diongRequest_nv (s := s) hc fun act => by rw [hreq act, hstat, hq]
  rw [hreq act, hstat] at hexec
  refine ⟨_, hexec, ?_, ?_, ?_, hsession, ?_, ?_⟩
  · rw [hq]
  · rw [hq]
  · rw [hq]
    exact spGet_spPut_same 0 s.stats (okey 0x1050 2) (spGet 0 s.stats (okey 0x1050 2) + 1)
  · rw [hq]
    exact ⟨rfl, rfl, rfl, rfl, rfl, rfl⟩
  · rw [hq]

theorem completes_unauthentic {c : Instr} {d : DHdr} {op : Nat} {payload : List Byte} (hc : diongRequest c = some (d, op, payload))
    (hruns : diongRuns s = true) (hver : d.ver = 1) (hlink : diongLink d = true)
    (hbad : roleOf s d.transport d.key = none ∨
      d.tag ≠ tagOf d.key ((keyMaterial s d.transport d.key).getD []) (frameBody_ (16 + 4 * b2n d.last) op d.session d.seq d.key 0 payload))
    (hm : spGet 0 s.stats (okey 0x1050 1) < statMax) :
    Completes c s fun t =>
      t.out = s.out ∧ t.diong.spiOut = s.diong.spiOut ∧ t.diong.sessions = s.diong.sessions ∧
      spGet 0 t.stats (okey 0x1050 1) = spGet 0 s.stats (okey 0x1050 1) + 1 ∧ Fires t 227 ∧ DeviceSame s t := by
  obtain ⟨q, hq⟩ := diongFreed_eq (s := s) d
  have hauth := authenticate_of_bad hruns hver hlink hbad
  have hstat : stat (diongFreed s d) 0x1050 1 = { diongFreed s d with
      stats := spPut 0 (diongFreed s d).stats (okey 0x1050 1) (spGet 0 (diongFreed s d).stats (okey 0x1050 1) + 1) } :=
    stat_of_lt (by rw [hq]; exact hm)
  have hreq (act : Role → State → DRes) :
      request s d op payload act = raise (stat (diongFreed s d) 0x1050 1) 227 (transportInst d.transport) NA := by
    show (match authenticate (diongFreed s d) d op payload with | (none, s1) => s1 | (some role, s1) => _) = _
    rw [hauth]
  obtain ⟨u, hu⟩ : ∃ u, stat (diongFreed s d) 0x1050 1 = u := ⟨_, rfl⟩
  have hleaves : u.out = s.out ∧ u.diong.spiOut = s.diong.spiOut ∧ u.diong.sessions = s.diong.sessions ∧
      spGet 0 u.stats (okey 0x1050 1) = spGet 0 s.stats (okey 0x1050 1) + 1 ∧ DeviceSame s u := by
    rw [← hu, hstat, hq]
    exact ⟨rfl, rfl, rfl, spGet_spPut_same 0 s.stats (okey 0x1050 1) (spGet 0 s.stats (okey 0x1050 1) + 1), rfl, rfl, rfl, rfl, rfl, rfl⟩
  obtain ⟨hout, hspi, hsessions, hcount, hobjs, hstaged, hregs, hnv, hadm, hmem⟩ := hleaves
  rw [hu] at hreq
  obtain ⟨act, hexec⟩ := exec_of_diongRequest_nv (s := s) hc fun act => by rw [hreq act, raise_nv, hnv]
  rw [hreq act] at hexec
  exact ⟨_, hexec, by rw [raise_out, hout], by rw [raise_diong, hspi], by rw [raise_diong, hsessions], by rw [raise_stats, hcount],
    fires_raise .., by rw [raise_objs, hobjs], by rw [raise_objsStaged, hstaged], by rw [raise_regsStaged, hregs], by rw [raise_nv, hnv],
    by rw [raise_adm, hadm], by rw [raise_mem, hmem]⟩

/-- Settles O47: a request whose SEQ is not new, or that meets one in progress, is answered at most; one that is not authentic is counted. -/
theorem refusedRequestsPerformNothing : Obligations.RefusedRequestsPerformNothing := by
  unfold Obligations.RefusedRequestsPerformNothing
  refine ⟨fun s c d op payload role x o hc hf hx h0 ho => ?repeated, fun s c d op payload role x hc hf hx hold hm => completes_old hc hf hx hold hm,
    fun s c d op payload role x hc hf hx hb h0 hlt => ?busy,
    fun s c d op payload hc hruns hver hlink hbad hm => completes_unauthentic hc hruns hver hlink hbad hm⟩
  case repeated =>
    obtain ⟨o1, o2, o3⟩ := o
    have h0' : diongAhead d x = 0 := h0
    refine completes_answered hc hx fun act => ?_
    rw [request_of_session act hf hx, if_pos h0', ho]
  case busy =>
    have hlt' : diongAhead d x < 2 ^ 31 := hlt
    have hne : diongAhead d x ≠ 0 := Nat.ne_of_gt h0
    obtain ⟨t, ht, hsent, hsession, hsame, hevt, -⟩ := completes_answered (op' := op) (status := 7) (b := []) (last := false) hc hx fun act => by
      rw [request_of_session act hf hx, if_neg hne, if_pos hlt', if_pos hb]
    exact ⟨t, ht, hsent, hsession, hsame, hevt⟩

end Sys2Proof.Machine
end

section
/-!
Diong requests that are performed, and what they answer (R53, R57, R481 to R490): the settlement of O43.
-/

namespace Sys2Proof.Machine

set_option Elab.async false

variable {s t : State} {d : DHdr} {op : Nat} {payload : List Byte} {role : Role} {x : Session}

/-! ## A request performed and answered (R477, R478) -/

theorem diongTaken_eq : ∃ q l, diongTaken s d = { s with diong := { s.diong with spiIn := q, sessions := l } } := by
  obtain ⟨q, hq⟩ := diongFreed_eq (s := s) d
  exact ⟨q, (diongTaken s d).diong.sessions, by rw [diongTaken, hq]; rfl⟩

/-- A session taken is at the request's SEQ and in progress. -/
def takenSession (s : State) (d : DHdr) (x : Session) : Session :=
  { x with seq := d.seq, resp := none, busy := true, lastFrame := s.clk.elapsed }

theorem session_diongTaken (hx : s.session d.transport d.key d.session = some x) :
    (diongTaken s d).session d.transport d.key d.session = some (takenSession s d x) := by
  rw [diongTaken]
  refine (session_modSession (f := fun x => { x with seq := d.seq, resp := none, busy := true, lastFrame := s.clk.elapsed })
    (fun _ => rfl)).trans ?_
  rw [(diongFreed_from d).2.2.2, hx]
  rfl

/-- A frame that reaches its session and opens a request there. -/
theorem modSession_diongTouched :
    modSession (diongTouched s d) d.transport d.key d.session (fun x => { x with seq := d.seq, resp := none, busy := true }) = diongTaken s d := by
  obtain ⟨q, hq⟩ := diongFreed_eq (s := s) d
  have hclk : (diongFreed s d).clk = s.clk := by rw [hq]
  have hsessions : ((diongFreed s d).diong.sessions.map (fun x => if x.is d.transport d.key d.session then
      { x with lastFrame := (diongFreed s d).clk.elapsed } else x)).map (fun x => if x.is d.transport d.key d.session then
      { x with seq := d.seq, resp := none, busy := true } else x) =
      (diongFreed s d).diong.sessions.map (fun x => if x.is d.transport d.key d.session then
      { x with seq := d.seq, resp := none, busy := true, lastFrame := s.clk.elapsed } else x) := by
    rw [List.map_map, hclk]
    refine List.map_congr_left fun y _ => ?_
    simp only [Function.comp_apply]
    by_cases h : y.is d.transport d.key d.session = true
    · have h' : ({ y with lastFrame := s.clk.elapsed } : Session).is d.transport d.key d.session = true := h
      rw [if_pos h, if_pos h', if_pos h]
    · rw [if_neg h, if_neg h, if_neg h]
  unfold diongTouched diongTaken modSession
  dsimp only
  rw [hsessions]

/-- The answer of a request sent and kept for a repetition (R478). -/
def answered (s : State) (d : DHdr) (op : Nat) (r : DRes) : State :=
  respond (modSession r.st d.transport d.key d.session (fun x =>
      { x with resp := some (op + 256 * b2n r.last, r.status, r.payload), busy := false }))
    d.transport d.session d.seq d.key ((keyMaterial (diongFreed s d) d.transport d.key).getD []) op r.status r.payload r.last

theorem answered_eq (r : DRes) : ∃ o g, answered s d op r = { r.st with out := o, diong := g } := by
  obtain ⟨o, g, h⟩ := respond_eq (s := modSession r.st d.transport d.key d.session (fun x =>
    { x with resp := some (op + 256 * b2n r.last, r.status, r.payload), busy := false })) d.transport d.session d.seq d.key
    ((keyMaterial (diongFreed s d) d.transport d.key).getD []) op r.status r.payload r.last
  exact ⟨o, g, h⟩

/-- What an answer leaves of its session. -/
theorem answered_answers {r : DRes} {y : Session} (h : r.st.session d.transport d.key d.session = some (takenSession s d y)) :
    DiongAnswers s (answered s d op r) d y op r.status r.payload r.last := by
  refine ⟨diongSent_respond d op r.status r.payload r.last (diongFreed_from d).2.2.1, ?_⟩
  rw [answered, session_of_sessions (respond_sessions ..)]
  refine (session_modSession (f := fun x => { x with resp := some (op + 256 * b2n r.last, r.status, r.payload), busy := false })
    (fun _ => rfl)).trans ?_
  rw [h]
  rfl

/-- A request that fits is performed, and answered unless its answer comes later. -/
theorem runRequest_of_fits {m : List Byte} (act : Role → State → DRes) (hload : s.boot.loader = false)
    (hfit : payload.length + 28 ≤ frameMax d.transport) :
    runRequest s d role m op payload act =
      (let r := act role (modSession s d.transport d.key d.session (fun x => { x with seq := d.seq, resp := none, busy := true }))
       if r.later then r.st else respond (modSession r.st d.transport d.key d.session (fun x =>
        { x with resp := some (op + 256 * b2n r.last, r.status, r.payload), busy := false }))
        d.transport d.session d.seq d.key m op r.status r.payload r.last) := by
  unfold runRequest
  simp only [hload, Bool.false_eq_true, false_and, if_false, if_neg (Nat.not_lt.2 hfit)]

/-- A request that fits is performed on the state in which its session is taken. -/
theorem request_of_accepts (act : Role → State → DRes) (h : DiongAccepts s d op payload role x) :
    request s d op payload act =
      (if (act role (diongTaken s d)).later then (act role (diongTaken s d)).st else answered s d op (act role (diongTaken s d))) := by
  obtain ⟨hfrom, hloader, hfits, hx, hbusy, h0, hlt⟩ := h
  have hlt' : diongAhead d x < 2 ^ 31 := hlt
  have hne : diongAhead d x ≠ 0 := Nat.ne_of_gt h0
  have hload' : (diongTouched s d).boot.loader = false := by
    obtain ⟨q', l', hq'⟩ := diongTouched_eq (s := s) d
    rw [hq', ← hloader]
  rw [request_of_session act hfrom hx, if_neg hne, if_pos hlt', if_neg (by rw [hbusy]; decide), runRequest_of_fits act hload' hfits,
    modSession_diongTouched]
  rfl

/-- A request answered at once. -/
theorem completes_request {c : Instr} {act : Role → State → DRes} {P : State → Prop} (h : DiongAccepts s d op payload role x)
    (hc : exec c s = .next (request s d op payload act)) (hl : (act role (diongTaken s d)).later = false)
    (hP : P (answered s d op (act role (diongTaken s d)))) : Completes c s P :=
  ⟨_, hc, by rw [request_of_accepts act h, hl, if_neg (by decide)]; exact hP⟩

/-- A request answered at once that leaves the NV store, where a change of the lifecycle would be followed by a cold start. -/
theorem completes_request_nv {c : Instr} {act : Role → State → DRes} {P : State → Prop} (h : DiongAccepts s d op payload role x)
    (hc : exec c s = .next (tokenStart s (request s d op payload act))) (hl : (act role (diongTaken s d)).later = false)
    (hnv : (act role (diongTaken s d)).st.nv = s.nv) (hP : P (answered s d op (act role (diongTaken s d)))) : Completes c s P := by
  have hreq : request s d op payload act = answered s d op (act role (diongTaken s d)) := by
    rw [request_of_accepts act h, hl, if_neg (by decide)]
  obtain ⟨o, g, ha⟩ := answered_eq (s := s) (d := d) (op := op) (act role (diongTaken s d))
  refine ⟨_, hc, ?_⟩
  rw [hreq, tokenStart_of_nv_eq (by rw [ha, ← hnv])]
  exact hP

/-! ## READ and READ_BLOCK (R481, R484) -/

theorem readAs_leaves (tr : Transport) (id index sub : Nat) :
    SameBut [.freeCtr, .sec, .ge] [.dbgChalId, .monData, .tlNowHi] s (readAs s role tr id index sub).2.2.2 :=
  (readAs_same role tr id index sub (Nat.and_self _) (Same.refl _ s)).but

theorem session_readAs (hx : s.session d.transport d.key d.session = some x) (tr : Transport) (id index sub : Nat) :
    (readAs (diongTaken s d) role tr id index sub).2.2.2.session d.transport d.key d.session = some (takenSession s d x) := by
  rw [session_of_sessions (congrArg Diong.sessions ((readAs_leaves tr id index sub).diong (by decide))), session_diongTaken hx]

theorem opRead_of_ok {tr : Transport} {id index sub : Nat} (h0 : (readAs s role tr id index sub).1 = 0)
    (hfit : (readAs s role tr id index sub).2.2.1.length + 29 ≤ frameMax tr) :
    opRead tr id index sub role s = ⟨0, beBytes 1 (readAs s role tr id index sub).2.1 ++ (readAs s role tr id index sub).2.2.1, false,
      (readAs s role tr id index sub).2.2.2, false⟩ := by
  unfold opRead
  generalize readAs s role tr id index sub = y at *
  obtain ⟨c, ty, b, u⟩ := y
  dsimp only at h0
  subst h0
  exact if_neg (Nat.not_lt.2 hfit)

theorem findObj_of_undefined {index : Nat} (h : objIndexDefined index = false) (sub : Nat) : findObj index sub = .inl 1 := by
  rw [findObj, if_pos (by simp [h])]

/-- An object of an index that is not defined is none (R481). -/
theorem opRead_of_undefined {index : Nat} (h : objIndexDefined index = false) (tr : Transport) (id sub : Nat) :
    opRead tr id index sub role s = dres 1 s := by
  have hr : readAs s role tr id index sub = (1, 0, [], s) := by rw [readAs, findObj_of_undefined h]
  rw [opRead, hr]
  rfl

theorem completes_read {index sub : Nat} (h : DiongAccepts s d 1 (objAddr index sub ++ [0]) role x)
    (h0 : (readAs (diongTaken s d) role d.transport d.session index sub).1 = 0)
    (hfit : (readAs (diongTaken s d) role d.transport d.session index sub).2.2.1.length + 29 ≤ frameMax d.transport) :
    Completes (.read d index sub) s fun t =>
      DiongAnswers s t d x 1 0 (beBytes 1 (readAs (diongTaken s d) role d.transport d.session index sub).2.1 ++
        (readAs (diongTaken s d) role d.transport d.session index sub).2.2.1) false := by
  have hr := opRead_of_ok h0 hfit
  refine completes_request (act := opRead d.transport d.session index sub) h rfl (by rw [hr]) ?_
  rw [hr]
  exact answered_answers (session_readAs h.2.2.2.1 _ _ _ _)

theorem completes_read_undefined {index sub : Nat} (h : DiongAccepts s d 1 (objAddr index sub ++ [0]) role x)
    (hi : objIndexDefined index = false) : Completes (.read d index sub) s fun t => DiongAnswers s t d x 1 1 [] false := by
  have hr := opRead_of_undefined (s := diongTaken s d) (role := role) hi d.transport d.session sub
  refine completes_request (act := opRead d.transport d.session index sub) h rfl (by rw [hr]; rfl) ?_
  rw [hr]
  exact answered_answers (session_diongTaken h.2.2.2.1)

theorem genOf_of_counted {index sub : Nat} (hi : index ≠ 0xE000) (hv : (viewObj s index sub).isSome = false) :
    genOf s index sub = (spGet 0 s.objGen (okey index sub) % 2 ^ 32, s) := by
  rw [genOf, if_neg (fun h => hi h.1), if_neg (by rw [hv]; decide)]

theorem opReadBlock_of_ok {tr : Transport} {id index sub offset n : Nat} (h0 : (readAs s role tr id index sub).1 = 0)
    (hv : (viewObj (readAs s role tr id index sub).2.2.2 index sub).isSome = false) (hi : index ≠ 0xE000)
    (hn : offset + n ≤ (readAs s role tr id index sub).2.2.1.length) (hfit : n + 36 ≤ frameMax tr) :
    opReadBlock tr id index sub offset n role s =
      ⟨0, beBytes 4 (readAs s role tr id index sub).2.2.1.length ++
          beBytes 4 (spGet 0 (readAs s role tr id index sub).2.2.2.objGen (okey index sub) % 2 ^ 32) ++
          sliceBytes (readAs s role tr id index sub).2.2.1 offset n,
        decide (offset + n = (readAs s role tr id index sub).2.2.1.length), (readAs s role tr id index sub).2.2.2, false⟩ := by
  unfold opReadBlock
  generalize readAs s role tr id index sub = y at *
  obtain ⟨c, ty, b, u⟩ := y
  dsimp only at h0 hv hn ⊢
  subst h0
  simp only
  have hmin : min (min n (frameMax tr - 36)) (b.length - offset) = n := by omega
  rw [if_neg (by omega), hmin, genOf_of_counted hi hv]

theorem completes_readBlock {index sub offset n : Nat}
    (h : DiongAccepts s d 3 (objAddr index sub ++ [0] ++ beBytes 4 offset ++ beBytes 2 n) role x)
    (h0 : (readAs (diongTaken s d) role d.transport d.session index sub).1 = 0)
    (hv : (viewObj (readAs (diongTaken s d) role d.transport d.session index sub).2.2.2 index sub).isSome = false) (hi : index ≠ 0xE000)
    (hn : offset + n ≤ (readAs (diongTaken s d) role d.transport d.session index sub).2.2.1.length) (hfit : n + 36 ≤ frameMax d.transport) :
    Completes (.readBlock d index sub offset n) s fun t =>
      DiongAnswers s t d x 3 0
        (beBytes 4 (readAs (diongTaken s d) role d.transport d.session index sub).2.2.1.length ++
          beBytes 4 (spGet 0 t.objGen (okey index sub) % 2 ^ 32) ++
          sliceBytes (readAs (diongTaken s d) role d.transport d.session index sub).2.2.1 offset n)
        (decide (offset + n = (readAs (diongTaken s d) role d.transport d.session index sub).2.2.1.length)) := by
  have hr := opReadBlock_of_ok h0 hv hi hn hfit
  refine completes_request (act := opReadBlock d.transport d.session index sub offset n) h rfl (by rw [hr]) ?_
  obtain ⟨o, g, ha⟩ := answered_eq (s := s) (d := d) (op := 3) (opReadBlock d.transport d.session index sub offset n role (diongTaken s d))
  have hgen : (answered s d 3 (opReadBlock d.transport d.session index sub offset n role (diongTaken s d))).objGen =
      (readAs (diongTaken s d) role d.transport d.session index sub).2.2.2.objGen := by rw [ha, hr]
  rw [hgen, hr]
  exact answered_answers (session_readAs h.2.2.2.1 _ _ _ _)

theorem le_frameMax (tr : Transport) : 32 ≤ frameMax tr := by cases tr <;> simp [frameMax]

/-- The state in which a request of an unknown session has opened it (R476). -/
def diongOpened (s : State) (d : DHdr) : State :=
  { diongFreed s d with diong := { (diongFreed s d).diong with
      sessions := (diongFreed s d).diong.sessions ++
        [⟨d.transport, d.key, d.session, d.seq, none, false, (diongFreed s d).clk.elapsed, none, [], 0⟩] } }

theorem session_diongOpened (hx : s.session d.transport d.key d.session = none) :
    (diongOpened s d).session d.transport d.key d.session =
      some ⟨d.transport, d.key, d.session, d.seq, none, false, s.clk.elapsed, none, [], 0⟩ := by
  obtain ⟨q, hq⟩ := diongFreed_eq (s := s) d
  have hnone : ((diongFreed s d).diong.sessions.find? fun y => y.is d.transport d.key d.session) = none :=
    ((diongFreed_from d).2.2.2).trans hx
  have hclk : (diongFreed s d).clk = s.clk := by rw [hq]
  rw [diongOpened, State.session, List.find?_append, hnone, hclk]
  exact List.find?_cons_of_pos (p := fun y : Session => y.is d.transport d.key d.session) (by simp [Session.is])

theorem request_of_new (act : Role → State → DRes) (h : DiongFrom s d op payload role) (hx : s.session d.transport d.key d.session = none)
    (hfew : (s.diong.sessions.filter (fun x => x.transport = d.transport)).length < 16) :
    request s d op payload act =
      runRequest (diongOpened s d) d role ((keyMaterial (diongFreed s d) d.transport d.key).getD []) op payload act := by
  have hauth := authenticate_of_from h
  have hnone : (diongFreed s d).session d.transport d.key d.session = none := (diongFreed_from d).2.2.2.trans hx
  have hsessions : (diongFreed s d).diong.sessions = s.diong.sessions := by
    unfold diongFreed
    split <;> rfl
  show (match authenticate (diongFreed s d) d op payload with | (none, s1) => s1 | (some role, s1) => _) = _
  rw [hauth]
  dsimp only
  rw [hnone]
  dsimp only
  rw [if_neg (by rw [hsessions]; exact Nat.not_le.2 hfew)]
  rfl

/-- R476: a request of an unknown session opens it. -/
theorem completes_read_opens {index sub : Nat} (hfrom : DiongFrom s d 1 (objAddr index sub ++ [0]) role) (hloader : s.boot.loader = false)
    (hx : s.session d.transport d.key d.session = none) (hfew : (s.diong.sessions.filter (fun x => x.transport = d.transport)).length < 16)
    (hi : objIndexDefined index = false) :
    Completes (.read d index sub) s fun t =>
      t.session d.transport d.key d.session =
        some ⟨d.transport, d.key, d.session, d.seq, some (1, 1, []), false, s.clk.elapsed, none, [], 0⟩ := by
  obtain ⟨u, hu⟩ : ∃ u, diongOpened s d = u := ⟨_, rfl⟩
  have hsession := session_diongOpened hx
  have hload : u.boot.loader = false := by
    obtain ⟨q, hq⟩ := diongFreed_eq (s := s) d
    rw [← hu, diongOpened, hq, ← hloader]
  have hfit : (objAddr index sub ++ [0]).length + 28 ≤ frameMax d.transport := by
    simpa [objAddr, length_beBytes] using le_frameMax d.transport
  refine ⟨runRequest (diongOpened s d) d role ((keyMaterial (diongFreed s d) d.transport d.key).getD []) 1 (objAddr index sub ++ [0])
    (opRead d.transport d.session index sub), ?_, ?_⟩
  · rw [← request_of_new _ hfrom hx hfew]
    rfl
  rw [hu] at hsession ⊢
  rw [runRequest_of_fits _ hload hfit, opRead_of_undefined hi]
  simp only [dres, Bool.false_eq_true, if_false]
  rw [session_of_sessions (respond_sessions ..)]
  refine (session_modSession (f := fun x => { x with resp := some (1 + 256 * b2n false, 1, []), busy := false }) (fun _ => rfl)).trans ?_
  refine (congrArg _ (session_modSession (s := u) (f := fun x => { x with seq := d.seq, resp := none, busy := true }) (fun _ => rfl))).trans ?_
  rw [hsession]
  rfl

/-! ## WRITE (R471, R472, R481) -/

theorem stageObj_of_plain {role : Role} {index : Nat} (h : index < 0xA100 ∨ 0xA180 ≤ index) (sub : Nat) (v : ObjVal) :
    stageObj s role index sub v =
      ({ s with objsStaged := spInsert (okey index sub) v (spErase s.objsStaged (okey index sub)) }).touch (okey index sub) := by
  unfold stageObj
  cases role with
  | tenant n =>
    dsimp only
    rw [if_neg (by omega)]
  | operator => rfl
  | service => rfl

theorem touch_eq (k : Nat) : ∃ a, s.touch k = { s with adm := a } := by
  unfold State.touch
  split
  · exact ⟨_, rfl⟩
  · exact ⟨s.adm, rfl⟩

theorem writeAs_of_staged {tr : Transport} {id index sub type : Nat} {b : List Byte} {r : ObjRow}
    (hg : writeGate s role index sub type b = .inr r) (hc : isCounter index sub = false) (hr : badRange s r index sub b = false)
    (ha : r.acc role = .rws) : writeAs s role tr id index sub type b = (0, stageObj s role index sub (objOfBytes r b)) := by
  rw [writeAs, hg]
  dsimp only
  rw [if_neg (by rw [hc]; decide), writeGood, if_neg (by rw [hr]; decide), if_pos ha]

/-- A value staged is the object's staged copy, and every other staged copy stays. -/
theorem mem_staged {k : Nat} {v : ObjVal} {m : Sparse ObjVal} :
    (k, v) ∈ spInsert k v (spErase m k) ∧ ∀ e ∈ m, e.1 ≠ k → e ∈ spInsert k v (spErase m k) := by
  refine ⟨mem_spInsert.2 (Or.inl rfl), fun e he hne => mem_spInsert.2 (Or.inr (mem_spErase.2 ⟨he, hne⟩))⟩

/-- What a staged write leaves (R472). -/
theorem stageObj_leaves {index : Nat} (h : index < 0xA100 ∨ 0xA180 ≤ index) (sub : Nat) (v : ObjVal) :
    (okey index sub, v) ∈ (stageObj s role index sub v).objsStaged ∧
      (∀ k ∈ s.objsStaged, k.1 ≠ okey index sub → k ∈ (stageObj s role index sub v).objsStaged) ∧
      (stageObj s role index sub v).objs = s.objs ∧ (stageObj s role index sub v).nv = s.nv ∧
      (stageObj s role index sub v).diong = s.diong := by
  obtain ⟨a, ha⟩ := touch_eq (s := { s with objsStaged := spInsert (okey index sub) v (spErase s.objsStaged (okey index sub)) }) (okey index sub)
  rw [stageObj_of_plain h, ha]
  exact ⟨mem_staged.1, mem_staged.2, rfl, rfl, rfl⟩

theorem diongTaken_leaves : (diongTaken s d).objs = s.objs ∧ (diongTaken s d).objsStaged = s.objsStaged ∧ (diongTaken s d).nv = s.nv ∧
    (diongTaken s d).regs = s.regs ∧ (diongTaken s d).adm = s.adm ∧ (diongTaken s d).straps = s.straps ∧ (diongTaken s d).clk = s.clk := by
  obtain ⟨q, l, hq⟩ := diongTaken_eq (s := s) (d := d)
  rw [hq]
  exact ⟨rfl, rfl, rfl, rfl, rfl, rfl, rfl⟩

theorem completes_write {index sub type : Nat} {value : List Byte} {r : ObjRow}
    (h : DiongAccepts s d 2 (objAddr index sub ++ beBytes 1 type ++ value) role x)
    (hg : writeGate (diongTaken s d) role index sub type value = .inr r) (hc : isCounter index sub = false)
    (hr : badRange (diongTaken s d) r index sub value = false) (ha : r.acc role = .rws) (hi : index < 0xA100 ∨ 0xA180 ≤ index) :
    Completes (.write d index sub type value) s fun t =>
      DiongAnswers s t d x 2 0 [] false ∧ t.objs = s.objs ∧
      (okey index sub, objOfBytes r value) ∈ t.objsStaged ∧ (∀ k ∈ s.objsStaged, k.1 ≠ okey index sub → k ∈ t.objsStaged) := by
  have hact : opWrite d.transport d.session index sub type value role (diongTaken s d) =
      dres 0 (stageObj (diongTaken s d) role index sub (objOfBytes r value)) := by rw [opWrite, writeAs_of_staged hg hc hr ha]
  obtain ⟨hmem, hothers, hobjs, hnv, hdiong⟩ := stageObj_leaves (s := diongTaken s d) (role := role) hi sub (objOfBytes r value)
  obtain ⟨hobjs', hstaged', hnv', -⟩ := diongTaken_leaves (s := s) (d := d)
  refine completes_request_nv (act := opWrite d.transport d.session index sub type value) h rfl (by rw [hact]; rfl)
    (by rw [hact]; exact hnv.trans hnv') ?_
  obtain ⟨o, g, hans⟩ := answered_eq (s := s) (d := d) (op := 2) (dres 0 (stageObj (diongTaken s d) role index sub (objOfBytes r value)))
  rw [hact]
  refine ⟨answered_answers ?_, ?_, ?_, ?_⟩
  · exact (session_of_sessions (congrArg Diong.sessions hdiong) _ _ _).trans (session_diongTaken h.2.2.2.1)
  · rw [hans]
    exact hobjs.trans hobjs'
  · rw [hans]
    exact hmem
  · rw [hans, ← hstaged']
    exact hothers

theorem refuseForeign_leaves (role : Role) (index : Nat) : SameBut [.evt] [.bfWrej, .evtRpt] s (refuseForeign s role index) :=
  (refuseForeign_same role index (Nat.and_self _) (Same.refl _ s)).but

theorem completes_write_refused {index sub type e : Nat} {value : List Byte}
    (h : DiongAccepts s d 2 (objAddr index sub ++ beBytes 1 type ++ value) role x)
    (hg : writeGate (diongTaken s d) role index sub type value = .inl e) :
    Completes (.write d index sub type value) s fun t =>
      DiongAnswers s t d x 2 e [] false ∧ t.objs = s.objs ∧ t.objsStaged = s.objsStaged := by
  obtain ⟨u, hu⟩ : ∃ u, (if e = 3 ∧ foreign (diongTaken s d) role index then refuseForeign (diongTaken s d) role index
    else diongTaken s d) = u := ⟨_, rfl⟩
  have hleaves : SameBut [.evt] [.bfWrej, .evtRpt] (diongTaken s d) u := by
    rw [← hu]
    exact (same_ite (refuseForeign_same role index (Nat.and_self _) (Same.refl _ _)) (Same.refl _ _)).but
  have hact : opWrite d.transport d.session index sub type value role (diongTaken s d) = dres e u := by
    rw [opWrite, writeAs, hg, ← hu]
  obtain ⟨hobjs', hstaged', hnv', -⟩ := diongTaken_leaves (s := s) (d := d)
  refine completes_request_nv (act := opWrite d.transport d.session index sub type value) h rfl (by rw [hact]; rfl)
    (by rw [hact]; exact (hleaves.nv (by decide)).trans hnv') ?_
  obtain ⟨o, g, hans⟩ := answered_eq (s := s) (d := d) (op := 2) (dres e u)
  rw [hact]
  refine ⟨answered_answers ?_, ?_, ?_⟩
  · exact (session_of_sessions (congrArg Diong.sessions (hleaves.diong (by decide))) _ _ _).trans (session_diongTaken h.2.2.2.1)
  · rw [hans]
    exact (hleaves.objs (by decide)).trans hobjs'
  · rw [hans]
    exact (hleaves.objsStaged (by decide)).trans hstaged'

/-! ## WRITE_BLOCK (R483) -/

theorem diongTaken_loader (h : s.boot.loader = false) : (diongTaken s d).boot.loader = false := by
  obtain ⟨q, l, hq⟩ := diongTaken_eq (s := s) (d := d)
  rw [hq, ← h]

theorem loaderObject_of_not (h : s.boot.loader = false) (index sub : Nat) : loaderObject s index sub = false := by simp [loaderObject, h]

/-- A session's transfer set. -/
def setTransfer (s : State) (d : DHdr) (y : Option Transfer) : State :=
  modSession s d.transport d.key d.session (fun z => { z with transfer := y })

theorem setTransfer_leaves (y : Option Transfer) : SameBut [.diong] [] s (setTransfer s d y) :=
  (modSession_same d.transport d.key d.session _ (Nat.and_self _) (Same.refl _ s)).but

theorem session_setTransfer_diongTaken (hx : s.session d.transport d.key d.session = some x) (y : Option Transfer) :
    (setTransfer (diongTaken s d) d y).session d.transport d.key d.session = some (takenSession s d { x with transfer := y }) := by
  refine (session_modSession (f := fun z => { z with transfer := y }) (fun _ => rfl)).trans ?_
  rw [session_diongTaken hx]
  rfl

theorem opWriteBlock_of_first {index sub type total : Nat} {data : List Byte} {r : ObjRow} (hload : s.boot.loader = false)
    (hr : findObj index sub = .inr r) (hn : r.acc role ≠ .none) (hro : r.acc role ≠ .ro) (hf : foreign s role index = false)
    (hty : type = r.ty.code) (hlen : data.length ≤ total) (hlast : d.last = false) :
    opWriteBlock d index sub type 0 total data role s = dres 0 (setTransfer s d (some ⟨index, sub, type, total, data, s.clk.elapsed⟩)) := by
  unfold opWriteBlock
  simp [loaderObject_of_not hload, hr, hn, hro, hf, hty, hlast, Nat.not_lt.2 hlen, setTransfer]

theorem completes_writeBlock_opens {index sub type total : Nat} {data : List Byte} {r : ObjRow}
    (h : DiongAccepts s d 4 (objAddr index sub ++ beBytes 1 type ++ beBytes 4 0 ++ beBytes 4 total ++ data) role x)
    (hr : findObj index sub = .inr r) (hn : r.acc role ≠ .none) (hro : r.acc role ≠ .ro) (hf : foreign (diongTaken s d) role index = false)
    (hty : type = r.ty.code) (hlen : data.length ≤ total) (hlast : d.last = false) :
    Completes (.writeBlock d index sub type 0 total data) s fun t =>
      DiongAnswers s t d { x with transfer := some ⟨index, sub, type, total, data, s.clk.elapsed⟩ } 4 0 [] false ∧ t.objs = s.objs ∧
      t.objsStaged = s.objsStaged := by
  obtain ⟨hobjs', hstaged', hnv', -, -, -, hclk'⟩ := diongTaken_leaves (s := s) (d := d)
  have hact := opWriteBlock_of_first (d := d) (diongTaken_loader (d := d) h.2.1) hr hn hro hf hty hlen hlast
  rw [hclk'] at hact
  have hl := setTransfer_leaves (s := diongTaken s d) (d := d) (some ⟨index, sub, type, total, data, s.clk.elapsed⟩)
  refine completes_request_nv (act := opWriteBlock d index sub type 0 total data) h rfl (by rw [hact]; rfl)
    (by rw [hact]; exact (hl.nv (by decide)).trans hnv') ?_
  rw [hact]
  obtain ⟨o, g, hans⟩ := answered_eq (s := s) (d := d) (op := 4)
    (dres 0 (setTransfer (diongTaken s d) d (some ⟨index, sub, type, total, data, s.clk.elapsed⟩)))
  refine ⟨answered_answers (session_setTransfer_diongTaken h.2.2.2.1 _), ?_, ?_⟩
  · rw [hans]
    exact hobjs'
  · rw [hans]
    exact hstaged'

/-- Who owns what an index names is told by the objects, the registers and the straps. -/
theorem indexOwner_of_same (hr : rd t = rd s) (ho : t.objs = s.objs) (hs : t.straps = s.straps) (i : Nat) :
    indexOwner t i = indexOwner s i := by
  unfold indexOwner State.ringOwner State.prachCfg State.onum rf
  simp only [ccOwner_of_same ho hs, obj_congr hr ho hs, hr]

/-- What a write meets does not depend on the sessions. -/
theorem writeGate_setTransfer (y : Option Transfer) (index sub type : Nat) (b : List Byte) :
    writeGate (setTransfer s d y) role index sub type b = writeGate s role index sub type b := by
  have hf : foreign (setTransfer s d y) role index = foreign s role index := by
    cases role with
    | tenant n =>
      have ho : indexOwner (setTransfer s d y) index = indexOwner s index :=
        indexOwner_of_same (s := s) (t := setTransfer s d y) rfl rfl rfl index
      rw [foreign, foreign, ho]
    | operator => rfl
    | service => rfl
  unfold writeGate
  cases findObj index sub with
  | inl e => rfl
  | inr r =>
    dsimp only
    rw [hf]

/-- The range of a value does not depend on the sessions. -/
theorem badRange_setTransfer (y : Option Transfer) (r : ObjRow) (index sub : Nat) (b : List Byte) :
    badRange (setTransfer s d y) r index sub b = badRange s r index sub b := by
  have hrd : rd (setTransfer s d y) = rd s := rfl
  unfold badRange State.biasRole rbit rf
  rw [hrd]

theorem opWriteBlock_of_last {index sub type offset total : Nat} {data : List Byte} {y : Transfer} (hload : s.boot.loader = false)
    (hs : (s.session d.transport d.key d.session).bind (·.transfer) = some y) (h0 : 0 < offset) (hi : y.index = index) (hsub : y.sub = sub)
    (hty : y.ty = type) (ht : y.total = total) (ho : y.data.length = offset) (hlast : d.last = true) (htot : offset + data.length = total) :
    opWriteBlock d index sub type offset total data role s =
      (let w := writeAs (setTransfer s d none) role d.transport d.session index sub type (y.data ++ data); dres w.1 w.2) := by
  have hload' : loaderObject (setTransfer s d none) index sub = false := loaderObject_of_not (s := setTransfer s d none) hload index sub
  have hlen : (y.data ++ data).length = total := by rw [List.length_append, ho, htot]
  unfold opWriteBlock
  dsimp only
  rw [if_neg (by omega), hs]
  dsimp only
  rw [if_pos ⟨hi, hsub, hty, ht, ho⟩, if_neg (by simp only [hlen]; omega), if_pos hlast, finishBlock]
  exact if_neg (by rw [← setTransfer, hload']; decide)

theorem completes_writeBlock_ends {index sub type offset total : Nat} {data : List Byte} {y : Transfer} {r : ObjRow}
    (h : DiongAccepts s d 4 (objAddr index sub ++ beBytes 1 type ++ beBytes 4 offset ++ beBytes 4 total ++ data) role x)
    (hy : x.transfer = some y) (h0 : 0 < offset) (hi : y.index = index) (hsub : y.sub = sub) (hty : y.ty = type) (ht : y.total = total)
    (ho : y.data.length = offset) (hlast : d.last = true) (htot : offset + data.length = total)
    (hg : writeGate (diongTaken s d) role index sub type (y.data ++ data) = .inr r) (hc : isCounter index sub = false)
    (hr : badRange (diongTaken s d) r index sub (y.data ++ data) = false) (ha : r.acc role = .rws) (hix : index < 0xA100 ∨ 0xA180 ≤ index) :
    Completes (.writeBlock d index sub type offset total data) s fun t =>
      DiongAnswers s t d { x with transfer := none } 4 0 [] false ∧ t.objs = s.objs ∧
      (okey index sub, objOfBytes r (y.data ++ data)) ∈ t.objsStaged := by
  obtain ⟨u, hu⟩ : ∃ u, setTransfer (diongTaken s d) d none = u := ⟨_, rfl⟩
  have hact : opWriteBlock d index sub type offset total data role (diongTaken s d) =
      dres 0 (stageObj u role index sub (objOfBytes r (y.data ++ data))) := by
    rw [opWriteBlock_of_last (diongTaken_loader (d := d) h.2.1) (by rw [session_diongTaken h.2.2.2.1]; exact hy) h0 hi hsub hty ht ho hlast htot]
    rw [← hu, writeAs_of_staged (by rw [writeGate_setTransfer, hg]) hc (by rw [badRange_setTransfer, hr]) ha]
  obtain ⟨hmem, -, hobjs, hnv, hdiong⟩ := stageObj_leaves (s := u) (role := role) hix sub (objOfBytes r (y.data ++ data))
  have hl : SameBut [.diong] [] (diongTaken s d) u := hu ▸ setTransfer_leaves none
  obtain ⟨hobjs', -, hnv', -⟩ := diongTaken_leaves (s := s) (d := d)
  refine completes_request_nv (act := opWriteBlock d index sub type offset total data) h rfl (by rw [hact]; rfl)
    (by rw [hact]; exact hnv.trans ((hl.nv (by decide)).trans hnv')) ?_
  rw [hact]
  obtain ⟨o, g, hans⟩ := answered_eq (s := s) (d := d) (op := 4) (dres 0 (stageObj u role index sub (objOfBytes r (y.data ++ data))))
  refine ⟨answered_answers ?_, ?_, ?_⟩
  · refine (session_of_sessions (congrArg Diong.sessions hdiong) _ _ _).trans ?_
    rw [← hu, session_setTransfer_diongTaken h.2.2.2.1]
  · rw [hans]
    exact hobjs.trans ((hl.objs (by decide)).trans hobjs')
  · rw [hans]
    exact hmem

/-! ## COMMIT and ABORT (R53, R57, R472, R485) -/

theorem completes_commit_boundary {boundary tick : Nat}
    (h : DiongAccepts s d 5 (beBytes 1 boundary ++ List.replicate 7 0 ++ beBytes 8 tick) role x) (hb : 3 < boundary) :
    Completes (.commit d boundary tick) s fun t => DiongAnswers s t d x 5 5 [] false ∧ t.adm = s.adm := by
  have hact : commitAct d boundary tick role (diongTaken s d) = dres 5 (diongTaken s d) := by rw [commitAct, if_pos hb]
  refine completes_request (act := commitAct d boundary tick) h rfl (by rw [hact]; rfl) ?_
  rw [hact]
  obtain ⟨o, g, hans⟩ := answered_eq (s := s) (d := d) (op := 5) (dres 5 (diongTaken s d))
  refine ⟨answered_answers (session_diongTaken h.2.2.2.1), ?_⟩
  rw [hans]
  exact (diongTaken_leaves (s := s) (d := d)).2.2.2.2.1

/-- A tenant with nothing staged is answered at once with nothing changed (R53). -/
theorem commitAct_of_empty {n boundary tick : Nat} (hb : boundary ≤ 3) (hr : s.adm.running = none) (hs : scopeObjs s (.tenant n) = []) :
    commitAct d boundary tick (.tenant n) s =
      ⟨0, commitPayload ⟨0, 0, 0, 0, 0, 0, s.adm.epoch⟩ s.now, false, recordResult s (.tenant n) ⟨0, 0, 0, 0, 0, 0, s.adm.epoch⟩, false⟩ := by
  have hstart (j : CommitJob) (hj : j.role = .tenant n) : commitStart s j =
      (some (⟨0, 0, 0, 0, 0, 0, s.adm.epoch⟩, s.now), recordResult s (.tenant n) ⟨0, 0, 0, 0, 0, 0, s.adm.epoch⟩) := by
    unfold commitStart
    rw [hj]
    dsimp only
    rw [hs]
    rfl
  unfold commitAct
  dsimp only
  rw [if_neg (by omega), hr]
  dsimp only
  rw [hstart _ rfl]
  rfl

theorem recordResult_leaves (n : Nat) (r : AdmResult) :
    (recordResult s (.tenant n) r).adm.epoch = s.adm.epoch ∧ (recordResult s (.tenant n) r).adm.running = s.adm.running := ⟨rfl, rfl⟩

theorem completes_commit_empty {n boundary tick : Nat}
    (h : DiongAccepts s d 5 (beBytes 1 boundary ++ List.replicate 7 0 ++ beBytes 8 tick) (.tenant n) x) (hb : boundary ≤ 3)
    (hr : s.adm.running = none) (hs : scopeObjs (diongTaken s d) (.tenant n) = []) :
    Completes (.commit d boundary tick) s fun t =>
      DiongAnswers s t d x 5 0 (List.replicate 32 0 ++ beBytes 8 s.adm.epoch ++ beBytes 8 s.now) false ∧ t.adm.epoch = s.adm.epoch ∧
      t.adm.running = none := by
  obtain ⟨-, -, -, -, hadm, -, hclk⟩ := diongTaken_leaves (s := s) (d := d)
  have hact := commitAct_of_empty (d := d) (tick := tick) hb (by rw [hadm, hr]) hs
  have hnow : (diongTaken s d).now = s.now := congrArg Clk.count hclk
  have hpay : commitPayload ⟨0, 0, 0, 0, 0, 0, s.adm.epoch⟩ s.now = List.replicate 32 0 ++ beBytes 8 s.adm.epoch ++ beBytes 8 s.now := by
    have hz : beBytes 1 0 ++ [0] ++ beBytes 2 0 ++ [0, 0, 0, 0] ++ beBytes 8 0 ++ beBytes 8 0 ++ beBytes 8 0 = List.replicate 32 0 := by decide
    rw [commitPayload, hz]
  rw [hnow, hadm, hpay] at hact
  have hrec : SameBut [.adm] [] (diongTaken s d) (recordResult (diongTaken s d) (.tenant n) ⟨0, 0, 0, 0, 0, 0, s.adm.epoch⟩) :=
    (recordResult_same _ _ (Nat.and_self _) (Same.refl _ _)).but
  refine completes_request (act := commitAct d boundary tick) h rfl (by rw [hact]) ?_
  rw [hact]
  obtain ⟨o, g, hans⟩ := answered_eq (s := s) (d := d) (op := 5) ⟨0, List.replicate 32 0 ++ beBytes 8 s.adm.epoch ++ beBytes 8 s.now, false,
    recordResult (diongTaken s d) (.tenant n) ⟨0, 0, 0, 0, 0, 0, s.adm.epoch⟩, false⟩
  refine ⟨answered_answers ?_, ?_, ?_⟩
  · exact (session_of_sessions (congrArg Diong.sessions (hrec.diong (by decide))) _ _ _).trans (session_diongTaken h.2.2.2.1)
  · rw [hans]
    exact (recordResult_leaves n _).1.trans (congrArg Adm.epoch hadm)
  · rw [hans, ← hr]
    exact (recordResult_leaves n _).2.trans (congrArg Adm.running hadm)

/-- The state in which a COMMIT has been put to admission, with the staged copies of its scope (R53). -/
def commitRunning (s : State) (d : DHdr) (boundary tick : Nat) (role : Role) : State :=
  { s with adm := { s.adm with
      touched := []
      running := some ⟨role, d.transport, d.session, d.seq, boundary, tick, s.now, scopeObjs s role, scopeRegs s role, 0⟩ } }

/-- A COMMIT that passes the checks of its receipt is put to admission, and answered later (R53, R57, R485). -/
theorem commitAct_of_started {boundary tick k : Nat} (hb : boundary ≤ 3) (hr : s.adm.running = none) (hw : s.adm.waiting = none)
    (hscope : Manages role ∨ scopeObjs s role ≠ [])
    (hroll : (s.rx.rolling = false ∧ s.rx.rollPost = []) ∨ changedChannels s (commitImage s role) = [])
    (hlead : boundary ≠ 3 ∨ s.now + commitLead s (commitImage s role) ≤ tick) (hkind : boundaryKind s boundary tick = some k)
    (hclass : classFails s (commitImage s role) (scopeObjs s role) k = none) :
    commitAct d boundary tick role s = ⟨0, [], false, commitRunning s d boundary tick role, true⟩ := by
  have hstart (j : CommitJob) (hrole : j.role = role) (hbound : j.boundary = boundary) (htick : j.tick = tick) : commitStart s j =
      (none, { s with adm := { s.adm with
        touched := [], running := some { j with receipt := s.now, objs := scopeObjs s role, regs := scopeRegs s role, at_ := 0 } } }) := by
    have hrolls : ¬ ((s.rx.rolling || decide (s.rx.rollPost ≠ [])) && decide (changedChannels s (commitImage s role) ≠ [])) = true := by
      rcases hroll with ⟨h1, h2⟩ | h1
      · simp [h1, h2]
      · simp [h1]
    have hlate : ¬ (boundary = 3 ∧ tick < s.now + commitLead s (commitImage s role)) := by
      rintro ⟨h1, h2⟩
      rcases hlead with h3 | h3
      · exact h3 h1
      · omega
    have himage : overlay s (scopeObjs s role) (scopeRegs s role) = commitImage s role := rfl
    unfold commitStart
    rw [hrole, hbound, htick]
    dsimp only
    rw [himage]
    refine (if_neg ?_).trans ?_
    · rcases hscope with (rfl | rfl) | hne
      · exact Bool.false_ne_true
      · exact Bool.false_ne_true
      · simp [hne]
    rw [if_neg (by rw [hr]; decide), if_neg (by rw [hw]; decide)]
    generalize commitImage s role = v at hrolls hlate hclass
    rw [if_neg hrolls, if_neg hlate, hkind]
    dsimp only
    rw [hclass]
  unfold commitAct
  dsimp only
  rw [if_neg (by omega), hr]
  dsimp only
  rw [hstart _ rfl rfl rfl]
  rfl

theorem completes_commit_started {boundary tick k : Nat}
    (h : DiongAccepts s d 5 (beBytes 1 boundary ++ List.replicate 7 0 ++ beBytes 8 tick) role x) (hb : boundary ≤ 3)
    (hr : s.adm.running = none) (hw : s.adm.waiting = none) (hscope : Manages role ∨ scopeObjs (diongTaken s d) role ≠ [])
    (hroll : (s.rx.rolling = false ∧ s.rx.rollPost = []) ∨ changedChannels (diongTaken s d) (commitImage (diongTaken s d) role) = [])
    (hlead : boundary ≠ 3 ∨ s.now + commitLead (diongTaken s d) (commitImage (diongTaken s d) role) ≤ tick)
    (hkind : boundaryKind (diongTaken s d) boundary tick = some k)
    (hclass : classFails (diongTaken s d) (commitImage (diongTaken s d) role) (scopeObjs (diongTaken s d) role) k = none) :
    Completes (.commit d boundary tick) s fun t =>
      t.adm.running = some ⟨role, d.transport, d.session, d.seq, boundary, tick, s.now, scopeObjs (diongTaken s d) role,
        scopeRegs (diongTaken s d) role, 0⟩ ∧ t.adm.touched = [] ∧ t.out = s.out ∧ t.objs = s.objs ∧ t.regs = s.regs ∧
      t.objsStaged = s.objsStaged := by
  obtain ⟨q, l, hq⟩ := diongTaken_eq (s := s) (d := d)
  have hnow : (diongTaken s d).now = s.now := by rw [hq]; rfl
  have hact := commitAct_of_started (s := diongTaken s d) (d := d) hb (by rw [hq, ← hr]) (by rw [hq, ← hw]) hscope
    (by have hrx : (diongTaken s d).rx = s.rx := by rw [hq]
        rw [hrx]; exact hroll) (by rw [hnow]; exact hlead) hkind hclass
  refine ⟨commitRunning (diongTaken s d) d boundary tick role, ?_, ?_, rfl, ?_, ?_, ?_, ?_⟩
  · show Host.Outcome.next (request s d 5 _ (commitAct d boundary tick)) = _
    rw [request_of_accepts _ h, hact]
    rfl
  · rw [commitRunning, hnow]
  · rw [commitRunning, hq]
  · rw [commitRunning, hq]
  · rw [commitRunning, hq]
  · rw [commitRunning, hq]

theorem completes_abort (h : DiongAccepts s d 6 [] role x) (hm : Manages role) :
    Completes (.abort d) s fun t => DiongAnswers s t d x 6 0 [] false ∧ t.objsStaged = [] ∧ t.regsStaged = [] := by
  have hnone {α : Type} (m : Sparse α) : unstage m m [] = [] := by
    unfold unstage
    refine List.filter_eq_nil_iff.2 fun e he => ?_
    have : m.any (fun y => decide (y.1 = e.1)) = true := List.any_eq_true.2 ⟨e, he, by simp⟩
    simp [this]
  have hscope : scopeObjs (diongTaken s d) role = (diongTaken s d).objsStaged ∧ scopeRegs (diongTaken s d) role = (diongTaken s d).regsStaged := by
    rcases hm with rfl | rfl
    · exact ⟨List.filter_eq_self.2 fun _ _ => rfl, rfl⟩
    · exact ⟨List.filter_eq_self.2 fun _ _ => rfl, rfl⟩
  refine completes_request (act := fun role s => dres 0 (abortStaged s role)) h rfl rfl ?_
  obtain ⟨o, g, hans⟩ := answered_eq (s := s) (d := d) (op := 6) (dres 0 (abortStaged (diongTaken s d) role))
  refine ⟨answered_answers (session_diongTaken h.2.2.2.1), ?_, ?_⟩
  · rw [hans]
    show unstage _ (scopeObjs (diongTaken s d) role) [] = []
    rw [hscope.1, hnone]
  · rw [hans]
    show unstage _ (scopeRegs (diongTaken s d) role) [] = []
    rw [hscope.2, hnone]

/-! ## STORE and RESTORE (R486) -/

theorem managed_of_manages (hm : Manages role) (u : State) (f : DRes) : managed role u f = f := by
  rcases hm with rfl | rfl <;> rfl

/-- The sub-index of a configuration object is a byte. -/
theorem configKeys_sub {k : Nat × Nat} (hk : k ∈ configKeys) : k.2 < 256 := by
  have hrows : ∀ r ∈ objRows, r.sub1 < 256 := by decide +kernel
  simp only [configKeys, List.mem_flatten, List.mem_map, List.mem_filter] at hk
  obtain ⟨l, ⟨r, ⟨hr, -⟩, rfl⟩, hl⟩ := hk
  simp only [List.mem_flatten, List.mem_map, List.mem_range] at hl
  obtain ⟨l', ⟨i, -, rfl⟩, hl'⟩ := hl
  simp only [List.mem_map, List.mem_range] at hl'
  obtain ⟨j, hj, rfl⟩ := hl'
  have := hrows r hr
  dsimp only
  omega

/-- Two objects of sub-indices that are bytes have two keys. -/
theorem okey_inj {i j a b : Nat} (ha : a < 256) (hb : b < 256) (h : okey i a = okey j b) : i = j ∧ a = b := by
  unfold okey at h
  omega

/-- An image of the configuration reads back each object's value (R486). -/
theorem spGet_configImage (v w : Nat × Nat → ObjVal) {l : List (Nat × Nat)} (hl : ∀ k ∈ l, k.2 < 256) (m : Sparse ObjVal) {k : Nat × Nat}
    (hk : k ∈ l) : spGet (v k) (l.foldl (fun m k => spPut (v k) m (okey k.1 k.2) (w k)) m) (okey k.1 k.2) = w k := by
  have hkeep {l' : List (Nat × Nat)} (hl' : ∀ k ∈ l', k.2 < 256) (hk2 : k.2 < 256) : ∀ m : Sparse ObjVal,
      spGet (v k) m (okey k.1 k.2) = w k → spGet (v k) (l'.foldl (fun m k => spPut (v k) m (okey k.1 k.2) (w k)) m) (okey k.1 k.2) = w k := by
    induction l' with
    | nil => exact fun m h => h
    | cons e l' ih =>
      intro m h
      refine ih (fun k hk => hl' k (List.mem_cons_of_mem _ hk)) _ ?_
      by_cases he : okey e.1 e.2 = okey k.1 k.2
      · obtain ⟨h1, h2⟩ := okey_inj (hl' e List.mem_cons_self) hk2 he
        rw [show e = k from Prod.ext h1 h2, spGet_spPut_same]
      · rw [spGet_spPut_other _ _ _ _ (Ne.symm he), h]
  induction l generalizing m with
  | nil => exact absurd hk List.not_mem_nil
  | cons e l ih =>
    rcases List.mem_cons.1 hk with rfl | hk'
    · exact hkeep (fun k hk => hl k (List.mem_cons_of_mem _ hk)) (hl _ List.mem_cons_self) _ (spGet_spPut_same ..)
    · exact ih (fun k hk => hl k (List.mem_cons_of_mem _ hk)) _ hk'

theorem dfltObj_of_straps (h : t.straps = s.straps) (i sb : Nat) : dfltObj t i sb = dfltObj s i sb := by
  unfold dfltObj State.tenants
  rw [h]

/-- The image of the values of some objects (R486). -/
def configImage (s : State) (l : List (Nat × Nat)) : Sparse ObjVal :=
  l.foldl (fun m k => spPut (dfltObj s k.1 k.2) m (okey k.1 k.2) (s.obj k.1 k.2)) []

theorem stored_storeConfig : (storeConfig s).nv.stored = some (configImage s configKeys) := by
  unfold storeConfig configImage
  dsimp only

/-- The configuration stored is each object's value (R486). -/
theorem storeConfig_stored {k : Nat × Nat} (hk : k ∈ configKeys) :
    spGet (dfltObj s k.1 k.2) ((storeConfig s).nv.stored.getD []) (okey k.1 k.2) = s.obj k.1 k.2 := by
  have hsub : ∀ k ∈ configKeys, k.2 < 256 := fun _ => configKeys_sub
  rw [stored_storeConfig, Option.getD_some]
  generalize configKeys = l at hk hsub
  exact spGet_configImage (fun k => dfltObj s k.1 k.2) (fun k => s.obj k.1 k.2) hsub [] hk

theorem completes_store {selector : Nat} (h : DiongAccepts s d 7 (beBytes 1 selector) role x) (hm : Manages role)
    (hcal : bitOf selector 1 = false) :
    Completes (.store d selector true) s fun t =>
      DiongAnswers s t d x 7 0 [] false ∧ t.nv.stored.isSome = (bitOf selector 0 || s.nv.stored.isSome) ∧ Fires t 231 ∧
      (bitOf selector 0 = true →
        ∀ k ∈ configKeys, spGet (dfltObj s k.1 k.2) (t.nv.stored.getD []) (okey k.1 k.2) = s.obj k.1 k.2) := by
  obtain ⟨hobjs, -, hnv, hregs, -, hstraps, -⟩ := diongTaken_leaves (s := s) (d := d)
  obtain ⟨u, hu⟩ : ∃ u, (if bitOf selector 0 then storeConfig (diongTaken s d) else diongTaken s d) = u := ⟨_, rfl⟩
  have hact : opStore selector true role (diongTaken s d) = dres 0 (raise u 231 0 NA) := by
    rw [opStore, managed_of_manages hm, if_pos rfl, ← hu]
    exact congrArg (fun v => dres 0 (raise v 231 0 NA)) (if_neg (by rw [hcal]; decide))
  have hdiong : u.diong = (diongTaken s d).diong := by
    rw [← hu]
    split
    · exact (storeConfig_same (Nat.and_self _) (Same.refl _ _)).but.diong (by decide)
    · rfl
  have hrd : rd (diongTaken s d) = rd s := by
    funext id ix
    exact rd_eq_of_regs hregs hstraps id ix
  refine completes_request (act := opStore selector true) h rfl (by rw [hact]; rfl) ?_
  rw [hact]
  obtain ⟨o, g, hans⟩ := answered_eq (s := s) (d := d) (op := 7) (dres 0 (raise u 231 0 NA))
  have hn : (answered s d 7 (dres 0 (raise u 231 0 NA))).nv = u.nv := by
    rw [hans]
    exact raise_nv ..
  refine ⟨answered_answers ?_, ?_, ?_, fun h0 k hk => ?_⟩
  · refine (session_of_sessions (congrArg Diong.sessions ?_) _ _ _).trans (session_diongTaken h.2.2.2.1)
    rw [← hdiong]
    exact raise_diong ..
  · rw [hn, ← hu]
    split
    next h0 => rw [h0, Bool.true_or, stored_storeConfig]; rfl
    next h0 => rw [Bool.eq_false_iff.2 h0, Bool.false_or, hnv]
  · exact (fires_raise (s := u) 231 0 NA).of_evt (by rw [hans]; rfl)
  · rw [hn, ← hu, if_pos h0, ← dfltObj_of_straps hstraps, storeConfig_stored hk, obj_congr hrd hobjs hstraps]

theorem completes_store_refused {selector : Nat} (h : DiongAccepts s d 7 (beBytes 1 selector) role x) (hm : Manages role) :
    Completes (.store d selector false) s fun t => DiongAnswers s t d x 7 0x0B [] false ∧ t.nv = s.nv ∧ Fires t 231 := by
  obtain ⟨-, -, hnv, -⟩ := diongTaken_leaves (s := s) (d := d)
  have hact : opStore selector false role (diongTaken s d) = dres 0x0B (raise (diongTaken s d) 231 0x0B NA) := by
    rw [opStore, managed_of_manages hm, if_neg (by decide)]
  refine completes_request (act := opStore selector false) h rfl (by rw [hact]; rfl) ?_
  rw [hact]
  obtain ⟨o, g, hans⟩ := answered_eq (s := s) (d := d) (op := 7) (dres 0x0B (raise (diongTaken s d) 231 0x0B NA))
  refine ⟨answered_answers ?_, ?_, ?_⟩
  · exact (session_of_sessions (congrArg Diong.sessions (raise_diong ..)) _ _ _).trans (session_diongTaken h.2.2.2.1)
  · rw [hans, ← hnv]
    exact raise_nv ..
  · exact (fires_raise (s := diongTaken s d) 231 0x0B NA).of_evt (by rw [hans]; rfl)

/-- An object with a staged copy. -/
def stagedRow (k : Nat × Nat) : Bool := (objRow k.1 k.2).any (fun r => r.accO = .rws || r.accS = .rws)

/-- A default loaded into an object with a staged copy is its staged copy (R486). -/
theorem loadOne_staged {k : Nat × Nat} (hk : stagedRow k = true) (v : ObjVal) : (okey k.1 k.2, v) ∈ (loadOne s k.1 k.2 v).objsStaged := by
  obtain ⟨r, hr, hacc⟩ := Option.any_eq_true _ _ |>.1 hk
  have hacc' : r.accO = .rws ∨ r.accS = .rws := by simpa using hacc
  obtain ⟨a, ha⟩ := touch_eq (s := { s with objsStaged := spInsert (okey k.1 k.2) v (spErase s.objsStaged (okey k.1 k.2)) }) (okey k.1 k.2)
  unfold loadOne
  rw [hr]
  dsimp only
  rw [if_pos hacc', ha]
  exact mem_staged.1

/-- A value loaded leaves the staged copies of other objects. -/
theorem loadOne_keeps {index sub : Nat} {v : ObjVal} {e : Nat × ObjVal} (he : e ∈ s.objsStaged) (hne : e.1 ≠ okey index sub) :
    e ∈ (loadOne s index sub v).objsStaged := by
  unfold loadOne
  split
  · split
    · obtain ⟨a, ha⟩ := touch_eq (s := { s with objsStaged := spInsert (okey index sub) v (spErase s.objsStaged (okey index sub)) }) (okey index sub)
      rw [ha]
      exact (mem_staged (v := v)).2 e he hne
    · split
      · rw [(objApply_same index sub v (Nat.and_self _) (Same.refl _ s)).butAny.objsStaged (by decide)]
        exact he
      · exact he
  · exact he

theorem loadOne_straps (index sub : Nat) (v : ObjVal) : (loadOne s index sub v).straps = s.straps :=
  (loadOne_same index sub v (Nat.and_self _) (Same.refl _ s)).butAny.straps (by decide)

/-- With an empty image every object with a staged copy has its default there (R486). -/
theorem loadConfig_staged {k : Nat × Nat} (hk : k ∈ configKeys) (hrow : stagedRow k = true) :
    (okey k.1 k.2, dfltObj s k.1 k.2) ∈ (loadConfig s []).objsStaged := by
  have hload {l : List (Nat × Nat)} (hl : ∀ e ∈ l, e.2 < 256) (u : State) (hu : u.straps = s.straps)
      (hmem : (okey k.1 k.2, dfltObj s k.1 k.2) ∈ u.objsStaged ∨ k ∈ l) :
      (okey k.1 k.2, dfltObj s k.1 k.2) ∈
        (l.foldl (fun s k => loadOne s k.1 k.2 (spGet (dfltObj s k.1 k.2) [] (okey k.1 k.2))) u).objsStaged := by
    induction l generalizing u with
    | nil => exact hmem.resolve_right List.not_mem_nil
    | cons e l ih =>
      have hdflt : spGet (dfltObj u e.1 e.2) [] (okey e.1 e.2) = dfltObj s e.1 e.2 := dfltObj_of_straps hu e.1 e.2
      refine ih (fun e he => hl e (List.mem_cons_of_mem _ he)) _ ((loadOne_straps ..).trans hu) ?_
      dsimp only
      rw [hdflt]
      by_cases he : e = k
      · subst he
        exact Or.inl (loadOne_staged hrow _)
      · rcases hmem with hmem | hmem
        · refine Or.inl (loadOne_keeps hmem fun hkey => he ?_)
          obtain ⟨h1, h2⟩ := okey_inj (configKeys_sub hk) (hl e List.mem_cons_self) hkey
          exact (Prod.ext h1 h2).symm
        · exact Or.inr ((List.mem_cons.1 hmem).resolve_left (Ne.symm he))
  exact hload (fun _ h => configKeys_sub h) s rfl (Or.inr hk)

theorem loadConfig_diong (img : Sparse ObjVal) : (loadConfig s img).diong = s.diong :=
  (loadConfig_same img (Nat.and_self _) (Same.refl _ s)).butAny.diong (by decide)

theorem opRestore_of_defaults {mode : Nat} (hm : Manages role) (hmode : mode = 0 ∧ s.nv.stored = none ∨ mode = 1) :
    opRestore mode role s = dres (if mode = 0 then 0x11 else 0) (loadConfig s []) := by
  unfold opRestore
  rw [managed_of_manages hm]
  generalize loadConfig = f
  rcases hmode with ⟨rfl, hs⟩ | rfl
  · rw [hs]
    rfl
  · cases s.nv.stored <;> rfl

/-- A request whose result keeps the sessions is answered, and leaves the staged copies of its result. -/
theorem answers_of_diong {status : Nat} {u : State} (hx : s.session d.transport d.key d.session = some x)
    (hdiong : u.diong = (diongTaken s d).diong) :
    DiongAnswers s (answered s d op (dres status u)) d x op status [] false ∧ (answered s d op (dres status u)).objsStaged = u.objsStaged := by
  obtain ⟨o, g, hans⟩ := answered_eq (s := s) (d := d) (op := op) (dres status u)
  exact ⟨answered_answers ((session_of_sessions (congrArg Diong.sessions hdiong) _ _ _).trans (session_diongTaken hx)), by rw [hans]; rfl⟩

theorem completes_restore {mode : Nat} (h : DiongAccepts s d 8 (beBytes 1 mode) role x) (hm : Manages role)
    (hmode : mode = 0 ∧ s.nv.stored = none ∨ mode = 1) :
    Completes (.restore d mode) s fun t =>
      DiongAnswers s t d x 8 (if mode = 0 then 0x11 else 0) [] false ∧
      ∀ k ∈ configKeys, (objRow k.1 k.2).any (fun r => r.accO = .rws || r.accS = .rws) = true →
        (okey k.1 k.2, dfltObj s k.1 k.2) ∈ t.objsStaged := by
  obtain ⟨-, -, hnv, -, -, hstraps, -⟩ := diongTaken_leaves (s := s) (d := d)
  have hact := opRestore_of_defaults (s := diongTaken s d) hm (by rw [hnv]; exact hmode)
  obtain ⟨hans, hobjs⟩ := answers_of_diong (op := 8) (status := if mode = 0 then 0x11 else 0) h.2.2.2.1 (loadConfig_diong (s := diongTaken s d) [])
  refine completes_request (act := opRestore mode) h rfl (by rw [hact]; rfl) ?_
  rw [hact]
  refine ⟨hans, fun k hk hrow => ?_⟩
  rw [hobjs, ← dfltObj_of_straps hstraps]
  exact loadConfig_staged hk hrow

/-! ## SUBSCRIBE and DIGEST (R487, R490) -/

/-- A session with its subscription to an object put last (R487). -/
def subscribed (y : Subscription) (x : Session) : Session :=
  { x with subs := x.subs.filter (fun z => ¬ (z.index = y.index ∧ z.sub = y.sub)) ++ [y] }

theorem opSubscribe_of_ok {index sub mode period : Nat} {y : Session} (h0 : (readAs s role d.transport d.session index sub).1 = 0) (h1 : 1 ≤ mode)
    (h2 : mode ≤ 2) (h10 : 10 ≤ period) (h60 : period ≤ 60000)
    (hy : (readAs s role d.transport d.session index sub).2.2.2.session d.transport d.key d.session = some y) (hfew : y.subs.length < 32) :
    opSubscribe d index sub mode period role s =
      dres 0 (modSession (readAs s role d.transport d.session index sub).2.2.2 d.transport d.key d.session (subscribed ⟨index, sub, mode, period,
        (readAs s role d.transport d.session index sub).2.2.2.clk.elapsed,
        .bytes (BitVec.ofNat 8 (readAs s role d.transport d.session index sub).2.1 :: (readAs s role d.transport d.session index sub).2.2.1)⟩)) := by
  have hlen : (y.subs.filter (fun z => decide ¬ (z.index = index ∧ z.sub = sub))).length < 32 :=
    Nat.lt_of_le_of_lt (List.length_filter_le ..) hfew
  unfold opSubscribe
  generalize readAs s role d.transport d.session index sub = v at *
  obtain ⟨c, ty, b, u⟩ := v
  dsimp only at h0 hy ⊢
  subst h0
  refine (if_neg (by omega)).trans ?_
  rw [hy, Option.map_some, Option.getD_some, if_neg (fun h => absurd h.2 (Nat.not_le.2 hlen))]
  simp only [if_neg (show mode ≠ 0 by omega)]
  rfl

theorem completes_subscribe {index sub mode period : Nat}
    (h : DiongAccepts s d 9 (objAddr index sub ++ beBytes 1 mode ++ beBytes 2 period) role x)
    (h0 : (readAs (diongTaken s d) role d.transport d.session index sub).1 = 0) (h1 : 1 ≤ mode) (h2 : mode ≤ 2) (h10 : 10 ≤ period)
    (h60 : period ≤ 60000) (hfew : x.subs.length < 32) :
    Completes (.subscribe d index sub mode period) s fun t =>
      DiongAnswers s t d { x with subs := x.subs.filter (fun y => ¬ (y.index = index ∧ y.sub = sub)) ++ [⟨index, sub, mode, period, s.clk.elapsed,
        .bytes (BitVec.ofNat 8 (readAs (diongTaken s d) role d.transport d.session index sub).2.1 ::
          (readAs (diongTaken s d) role d.transport d.session index sub).2.2.1)⟩] } 9 0 [] false := by
  have hses := session_readAs (role := role) h.2.2.2.1 d.transport d.session index sub
  have hclk : (readAs (diongTaken s d) role d.transport d.session index sub).2.2.2.clk = s.clk := by
    obtain ⟨q, l, hq⟩ := diongTaken_eq (s := s) (d := d)
    rw [(readAs_leaves d.transport d.session index sub).clk (by decide), hq]
  have hact := opSubscribe_of_ok h0 h1 h2 h10 h60 hses hfew
  refine completes_request (act := opSubscribe d index sub mode period) h rfl (by rw [hact]; rfl) ?_
  rw [hact, hclk]
  refine answered_answers ?_
  refine (session_modSession (f := subscribed _) (fun _ => rfl)).trans ?_
  rw [hses]
  rfl

theorem completes_digest {scope : Nat} (h : DiongAccepts s d 10 (beBytes 1 scope) role x) (hm : Manages role) (hs : scope < 5) :
    Completes (.digest d scope) s fun t =>
      DiongAnswers s t d x 10 0 (beBytes 8 s.adm.epoch ++ spGet (List.replicate 32 0) s.diong.digests scope) false := by
  obtain ⟨q, l, hq⟩ := diongTaken_eq (s := s) (d := d)
  have hdig : (diongTaken s d).diong.digests = s.diong.digests := by rw [hq]
  have hadm : (diongTaken s d).adm = s.adm := by rw [hq]
  have hact : opDigest scope role (diongTaken s d) =
      ⟨0, beBytes 8 s.adm.epoch ++ spGet (List.replicate 32 0) s.diong.digests scope, false, diongTaken s d, false⟩ := by
    unfold opDigest
    rcases hm with rfl | rfl <;> simp [hdig, hadm, hs, Nat.not_lt.2 (Nat.le_of_lt hs)]
  refine completes_request (act := opDigest scope) h rfl (by rw [hact]) ?_
  rw [hact]
  exact answered_answers (session_diongTaken h.2.2.2.1)

/-- Settles O43: a request that its session accepts is performed on the state in which the session is taken, and answered there. -/
theorem diongCommandsComplete : Obligations.DiongCommandsComplete :=
  ⟨fun _ _ _ _ _ _ => completes_read, fun _ _ _ _ _ _ => completes_read_undefined, fun _ _ _ _ _ => completes_read_opens,
    fun _ _ _ _ _ _ _ _ _ => completes_write, fun _ _ _ _ _ _ _ _ _ => completes_write_refused, fun _ _ _ _ _ _ _ _ => completes_readBlock,
    fun _ _ _ _ _ _ _ _ _ _ => completes_writeBlock_opens, fun _ _ _ _ _ _ _ _ _ _ _ _ => completes_writeBlock_ends,
    fun _ _ _ _ _ _ => completes_commit_boundary, fun _ _ _ _ _ _ => completes_commit_empty, fun _ _ _ _ _ _ _ => completes_commit_started,
    fun _ _ _ _ => completes_abort, fun _ _ _ _ _ => completes_store, fun _ _ _ _ _ => completes_store_refused,
    fun _ _ _ _ _ => completes_restore, fun _ _ _ _ _ _ _ _ => completes_subscribe, fun _ _ _ _ _ => completes_digest⟩

end Sys2Proof.Machine
end

section
/-!
Sessions that end, notifications, digests and replicas (R476 to R491), ceasing conditions (R496), counters (R499, R500), and the management
interfaces (R502, R503): the settlement of O44.
-/

namespace Sys2Proof.Machine

set_option Elab.async false

variable {s t : State} {tr : Transport} {key id : Nat} {x : Session}

/-! ## Sessions (R476, R483) -/

theorem session_reachElapsed (n : Nat) : (reachElapsed s n).session tr key id = s.session tr key id := rfl

theorem completes_sessionTimeout (hx : s.session tr key id = some x) :
    Completes (.sessionTimeout tr key id) s fun t =>
      t.session tr key id = none ∧ t.clk.elapsed = max s.clk.elapsed (x.lastFrame + 300 * secTicks) := by
  obtain ⟨u, hu⟩ : ∃ u, reachElapsed s (x.lastFrame + 300 * secTicks) = u := ⟨_, rfl⟩
  refine ⟨closeSessions u (fun y => y.is tr key id), ?_, ?_, ?_⟩
  · show execSessionTimeout tr key id s = _
    rw [execSessionTimeout, hx, ← hu]
  · unfold State.session
    rw [(closeSessions_leaves _).1]
    refine List.find?_eq_none.2 fun y hy => ?_
    simpa using (List.mem_filter.1 hy).2
  · rw [(closeSessions_same _ (Nat.and_self _) (Same.refl _ u)).but.clk (by decide), ← hu, reachElapsed_elapsed]

theorem completes_blockTransferTimeout {y : Transfer} (hx : s.session tr key id = some x) (hy : x.transfer = some y) :
    Completes (.blockTransferTimeout tr key id) s fun t =>
      t.session tr key id = some { x with transfer := none } ∧ t.clk.elapsed = max s.clk.elapsed (y.lastAt + 5 * secTicks) := by
  refine ⟨modSession (reachElapsed s (y.lastAt + 5 * secTicks)) tr key id (fun y => { y with transfer := none }), ?_, ?_, ?_⟩
  · show execBlockTransferTimeout tr key id s = _
    rw [execBlockTransferTimeout, hx, Option.bind_some, hy]
  · refine (session_modSession (f := fun y => { y with transfer := none }) (fun _ => rfl)).trans ?_
    rw [session_reachElapsed, hx]
    rfl
  · exact reachElapsed_elapsed _

/-! ## Notifications (R487) -/

theorem is_of_session (hx : s.session tr key id = some x) : x.transport = tr ∧ x.key = key ∧ x.id = id := by
  have h := List.find?_some hx
  simpa [Session.is, and_assoc] using h

/-- A session with one more notification sent, and its subscription at what was sent (R487). -/
def notified (y y' : Subscription) (z : Session) : Session :=
  { z with notifySeq := (z.notifySeq + 1) % 2 ^ 32, subs := z.subs.map (fun w => if w = y then y' else w) }

theorem notify_leaves {y : Subscription} {ty : Nat} {v : List Byte} (hx : s.session tr key id = some x) :
    ((notify s x y ty v).session tr key id).map (·.notifySeq) = some ((x.notifySeq + 1) % 2 ^ 32) ∧
      (tr ≠ .spi → (notify s x y ty v).out.length = s.out.length + 1) := by
  obtain ⟨rfl, rfl, rfl⟩ := is_of_session hx
  have hsent (f : List Byte) : (sendFrame s x.transport true f).diong.sessions = s.diong.sessions ∧
      (x.transport ≠ .spi → (sendFrame s x.transport true f).out.length = s.out.length + 1) := by
    unfold sendFrame
    split
    next h => exact ⟨by rw [spiQueue]; split <;> rfl, fun hne => absurd h hne⟩
    next => exact ⟨rfl, fun _ => by rw [emit_out, List.length_append]; rfl⟩
  unfold notify
  refine ⟨?_, (hsent _).2⟩
  dsimp only
  refine (congrArg (Option.map (·.notifySeq)) (session_modSession (f := notified y _) (fun _ => rfl))).trans ?_
  rw [session_of_sessions (hsent _).1, hx]
  rfl

theorem notifyDue_of_ok {index sub : Nat} {y : Subscription} {role : Role} (hx : s.session tr key id = some x)
    (hy : x.subs.find? (fun w => decide (w.index = index) && decide (w.sub = sub)) = some y) (hrole : roleOf s tr key = some role)
    (hmode : y.mode = 1) (h0 : (readAs (reachElapsed s (y.lastSent + y.period * msTicks)) role tr id index sub).1 = 0) :
    notifyDue s tr key id index sub =
      notify (readAs (reachElapsed s (y.lastSent + y.period * msTicks)) role tr id index sub).2.2.2 x y
        (readAs (reachElapsed s (y.lastSent + y.period * msTicks)) role tr id index sub).2.1
        (readAs (reachElapsed s (y.lastSent + y.period * msTicks)) role tr id index sub).2.2.1 := by
  unfold notifyDue
  rw [hx]
  dsimp only
  rw [hy, hrole]
  dsimp only
  generalize readAs (reachElapsed s (y.lastSent + y.period * msTicks)) role tr id index sub = w at *
  obtain ⟨c, ty, v, u⟩ := w
  dsimp only at h0
  subst h0
  exact if_pos (Or.inl hmode)

theorem reachElapsed_out (k : Nat) : (reachElapsed s k).out = s.out := (reachElapsed_same k (Nat.and_self _) (Same.refl _ s)).but.out (by decide)

theorem completes_subscriptionNotify {index sub : Nat} {y : Subscription} {role : Role} (hx : s.session tr key id = some x)
    (hy : x.subs.find? (fun w => decide (w.index = index) && decide (w.sub = sub)) = some y) (hrole : roleOf s tr key = some role)
    (hmode : y.mode = 1) (h0 : (readAs (reachElapsed s (y.lastSent + y.period * msTicks)) role tr id index sub).1 = 0) :
    Completes (.subscriptionNotify tr key id index sub) s fun t =>
      (t.session tr key id).map (·.notifySeq) = some ((x.notifySeq + 1) % 2 ^ 32) ∧
      (tr ≠ .spi → t.out.length = s.out.length + 1) ∧
      t.clk.elapsed = max s.clk.elapsed (y.lastSent + y.period * msTicks) := by
  have hdue := notifyDue_of_ok hx hy hrole hmode h0
  have hread := readAs_leaves (s := reachElapsed s (y.lastSent + y.period * msTicks)) (role := role) tr id index sub
  generalize readAs (reachElapsed s (y.lastSent + y.period * msTicks)) role tr id index sub = w at *
  obtain ⟨c, ty, v, u⟩ := w
  dsimp only at hdue hread
  have hxu : u.session tr key id = some x := by
    rw [session_of_sessions (congrArg Diong.sessions (hread.diong (by decide))), session_reachElapsed, hx]
  obtain ⟨hseq, hout⟩ := notify_leaves (y := y) (ty := ty) (v := v) hxu
  refine ⟨notify u x y ty v, congrArg Host.Outcome.next hdue, hseq, fun hne => ?_, ?_⟩
  · rw [hout hne, hread.out (by decide), reachElapsed_out]
  · rw [(notify_same x y ty v (Nat.and_self _) (Same.refl _ u)).but.clk (by decide), hread.clk (by decide), reachElapsed_elapsed]

/-! ## Digests and replicas (R490, R491) -/

theorem spGet_foldl_spPut {α : Type} [DecidableEq α] (d : α) (f : Nat → α) {l : List Nat} {k : Nat} (m : Sparse α) (h : k ∈ l ∨ spGet d m k = f k) :
    spGet d (l.foldl (fun m k => spPut d m k (f k)) m) k = f k := by
  induction l generalizing m with
  | nil => exact h.resolve_left List.not_mem_nil
  | cons e l ih =>
    refine ih _ ?_
    by_cases he : k = e
    · subst he
      exact Or.inr (spGet_spPut_same d m k (f k))
    · refine h.imp (fun h => (List.mem_cons.1 h).resolve_left he) fun h => ?_
      rw [spGet_spPut_other _ _ _ _ he, h]

theorem completes_rwDigestRecompute {e : Nat} (he : s.diong.digestDue = some e) :
    Completes .rwDigestRecompute s fun t => t.diong.digestDue = none ∧ ∀ k < 5, spGet [] t.diong.digests k = digestOf s k := by
  refine ⟨recomputeDigests s, ?_, rfl, fun k hk => ?_⟩
  · show execRwDigestRecompute s = _
    rw [execRwDigestRecompute, he, Option.isSome_some, if_pos rfl]
  · unfold recomputeDigests
    exact spGet_foldl_spPut [] (digestOf s) (s.diong.digests) (Or.inl (List.mem_range.2 hk))

theorem completes_replicaRewrite {c : Nat} (hc : c ∈ s.diong.mismatch) :
    Completes (.replicaRewrite c) s fun t =>
      c ∉ t.diong.mismatch ∧ c ∈ t.diong.rewritten ∧ spGet 0 t.diong.crc c = spGet 0 s.diong.crc 8 ∧
      isSlot s.frameOfs s.refMu s.refEcp t.clk.count = true := by
  refine ⟨_, if_pos hc, ?_, mem_setIns.2 (Or.inl rfl), ?_, isSlot_toSlot 0x49 c⟩
  · intro h
    simpa using (List.mem_filter.1 h).2
  · exact spGet_spPut_same 0 s.diong.crc c (spGet 0 s.diong.crc 8)

/-! ## Ceasing conditions (R496) -/

/-- One destination told that a source has ceased. -/
def ceaseAt (src inst : Nat) (s : State) (d : Nat) : State :=
  if evtSticky s src d then s.setPort d { s.port d with queue := (s.port d).queue ++ [(src, inst, rf s .evtRpt [d, src] 7 0, true)] } else s

theorem ceaseAt_leaves (src inst d : Nat) : (ceaseAt src inst s d).regs = s.regs ∧ (ceaseAt src inst s d).straps = s.straps ∧
    (ceaseAt src inst s d).evt = s.evt ∧ ∀ d', d' ≠ d → (ceaseAt src inst s d).port d' = s.port d' := by
  unfold ceaseAt
  split
  · exact ⟨rfl, rfl, rfl, fun d' h => spGet_spPut_other _ _ _ _ h⟩
  · exact ⟨rfl, rfl, rfl, fun _ _ => rfl⟩

theorem ceaseAt_queue {src d : Nat} (inst : Nat) (h : evtSticky s src d = true) :
    ((ceaseAt src inst s d).port d).queue = (s.port d).queue ++ [(src, inst, rf s .evtRpt [d, src] 7 0, true)] := by
  rw [ceaseAt, if_pos h]
  exact congrArg Port.queue (spGet_spPut_same ..)

/-- Each destination that holds the flag set is told (R496). -/
theorem cease_leaves (src inst : Nat) : (cease s src inst).evt = s.evt ∧ ∀ d < 4, evtSticky s src d = true →
    ((cease s src inst).port d).queue = (s.port d).queue ++ [(src, inst, rf s .evtRpt [d, src] 7 0, true)] := by
  have hfold : cease s src inst = [0, 1, 2, 3].foldl (ceaseAt src inst) s := rfl
  refine ⟨?_, fun d hd hstk => ?_⟩
  · rw [hfold]
    exact List.foldlRecOn (motive := fun u : State => u.evt = s.evt) _ _ rfl fun u hu i _ => (ceaseAt_leaves src inst i).2.2.1.trans hu
  · rw [hfold]
    refine (foldl_reaches (a := d) (l := [0, 1, 2, 3])
      (P := fun u : State => u.regs = s.regs ∧ u.straps = s.straps ∧ (u.port d).queue = (s.port d).queue)
      (Q := fun u : State => (u.port d).queue = (s.port d).queue ++ [(src, inst, rf s .evtRpt [d, src] 7 0, true)]) ?_ ?_ ?_ (by decide) ?_ ⟨rfl, rfl, rfl⟩)
    · rintro u i - hne ⟨hr, hs, hq⟩
      obtain ⟨hr', hs', -, hp⟩ := ceaseAt_leaves (s := u) src inst i
      exact ⟨hr'.trans hr, hs'.trans hs, by rw [hp d (Ne.symm hne), hq]⟩
    · rintro u i - hne hq
      rw [(ceaseAt_leaves (s := u) src inst i).2.2.2 d (Ne.symm hne), hq]
    · rintro u ⟨hr, hs, hq⟩
      have hrd (i : RegId) (ix : List Nat) : rd u i ix = rd s i ix := rd_eq_of_regs hr hs i ix
      have hstk' : evtSticky u src d = true := by
        rw [← hstk]
        exact congrArg (fun v => bitOf v _) (hrd ..)
      rw [ceaseAt_queue inst hstk', hq, show rf u .evtRpt [d, src] 7 0 = rf s .evtRpt [d, src] 7 0 from congrArg (fun v => bitsOf v 7 0) (hrd ..)]
    · have : d = 0 ∨ d = 1 ∨ d = 2 ∨ d = 3 := by omega
      simpa using this

theorem completes_eventCease {src inst aux : Nat} (hmem : (src, inst, aux) ∈ s.evt.cond)
    (hlast : s.evt.cond.any (fun c => c.1 = src && decide (c ≠ (src, inst, aux))) = false) :
    Completes (.eventCease src inst aux) s fun t =>
      t.evt.cond.any (fun c => c.1 = src) = false ∧
      ∀ d < 4, evtSticky s src d = true →
        (t.port d).queue = (s.port d).queue ++ [(src, inst, rf s .evtRpt [d, src] 7 0, true)] := by
  obtain ⟨u, hu⟩ : ∃ u, { s with evt := { s.evt with cond := s.evt.cond.filter (fun c => c ≠ (src, inst, aux)) } } = u := ⟨_, rfl⟩
  have hgone : u.evt.cond.any (fun c => c.1 = src) = false := by
    rw [← hu, List.any_filter]
    refine Eq.trans (congrArg (fun f => s.evt.cond.any f) ?_) hlast
    funext c
    exact Bool.and_comm ..
  obtain ⟨hevt, hqueue⟩ := cease_leaves (s := u) src inst
  refine ⟨cease u src inst, ?_, by rw [hevt, hgone], ?_⟩
  · refine congrArg Host.Outcome.next ((if_pos hmem).trans ((if_neg ?_).trans (congrArg (fun v => cease v src inst) hu)))
    rw [← hu] at hgone
    exact Bool.eq_false_iff.1 hgone
  · intro d hd hstk
    have hsame : u.regs = s.regs ∧ u.straps = s.straps ∧ u.port d = s.port d := by rw [← hu]; exact ⟨rfl, rfl, rfl⟩
    obtain ⟨hr, hs, hp⟩ := hsame
    have hrd (i : RegId) (ix : List Nat) : rd u i ix = rd s i ix := rd_eq_of_regs hr hs i ix
    rw [hqueue d hd ((congrArg (fun v => bitOf v _) (hrd ..)).trans hstk), hp,
      show rf u .evtRpt [d, src] 7 0 = rf s .evtRpt [d, src] 7 0 from congrArg (fun v => bitsOf v 7 0) (hrd ..)]

/-! ## Counters (R499, R500) -/

/-- A register that no event raises. -/
abbrev NoRepeatCount (id : RegId) : Prop :=
  (regRow .evtRpt).addr + regSpan .evtRpt < (regRow id).addr ∨ (regRow id).addr + regSpan id < (regRow .evtRpt).addr

theorem rd_stat {r : RegId} (h : NoRepeatCount r) (index sub n : Nat) (ix : List Nat) : rd (stat s index sub n) r ix = rd s r ix := by
  unfold stat
  dsimp only
  split
  · rfl
  · split
    · exact rd_raise h _ _ _
    · rfl

theorem spGet_stat_other {index sub k : Nat} (h : k ≠ okey index sub) (n : Nat) : spGet 0 (stat s index sub n).stats k = spGet 0 s.stats k := by
  unfold stat
  dsimp only
  split
  · rfl
  · split
    · rw [raise_stats]
      exact spGet_spPut_other (0 : Nat) 0 s.stats (statMax + 2 ^ 63) h
    · exact spGet_spPut_other (0 : Nat) 0 s.stats _ h

theorem spGet_stat_same {index sub n : Nat} (h63 : bitOf (spGet 0 s.stats (okey index sub)) 63 = false)
    (hmax : spGet 0 s.stats (okey index sub) + n ≤ statMax) :
    spGet 0 (stat s index sub n).stats (okey index sub) = spGet 0 s.stats (okey index sub) + n := by
  unfold stat
  dsimp only
  rw [if_neg (by rw [h63]; decide), if_neg (Nat.not_lt.2 hmax)]
  exact spGet_spPut_same (0 : Nat) s.stats _ (spGet 0 s.stats (okey index sub) + n)

theorem rd_foldOne_other {f : Fold} {r : RegId} {ix : List Nat} (hr : NoRepeatCount r)
    (h : regAddr r ix ≠ regAddr f.id f.ix) : rd (foldOne s f) r ix = rd s r ix := by
  unfold foldOne
  dsimp only
  split
  · rfl
  · rw [rd_stat hr, rd_wf_other _ _ _ _ _ _ _ _ h]

theorem spGet_foldOne_other {f : Fold} {k : Nat} (h : k ≠ okey f.index f.sub) : spGet 0 (foldOne s f).stats k = spGet 0 s.stats k := by
  unfold foldOne
  dsimp only
  split
  · rfl
  · rw [spGet_stat_other h]
    rfl

/-- A copy is 0 once it has been moved (R499). -/
theorem rf_foldOne_same {f : Fold} (hev : NoRepeatCount f.id) (hlo : f.lo ≤ f.hi) (hw : f.hi < (regRow f.id).width) :
    rf (foldOne s f) f.id f.ix f.hi f.lo = 0 := by
  unfold foldOne
  dsimp only
  split
  next h => exact h
  next => rw [rf, rd_stat hev, ← rf, rf_wf _ _ _ _ _ _ hlo hw, Nat.zero_mod]

/-- Two copies in one register or in two. -/
def foldApart (f g : Fold) : Bool :=
  decide (regAddr f.id f.ix ≠ regAddr g.id g.ix) || (decide (f.id = g.id) && decide (f.ix = g.ix) && (decide (f.hi < g.lo) || decide (g.hi < f.lo)))

theorem foldApart_symm {f g : Fold} (h : foldApart f g = true) : foldApart g f = true := by
  simp only [foldApart, Bool.or_eq_true, Bool.and_eq_true, decide_eq_true_eq] at h ⊢
  exact h.imp Ne.symm fun ⟨⟨hid, hix⟩, hbits⟩ => ⟨⟨hid.symm, hix.symm⟩, hbits.symm⟩

theorem foldCopies_apart : foldCopies.Pairwise (fun f g => foldApart f g = true) := by decide +kernel

theorem foldCopies_fit : ∀ f ∈ foldCopies, NoRepeatCount f.id ∧ f.lo ≤ f.hi ∧ f.hi < (regRow f.id).width := by decide +kernel

theorem foldCopies_nodup : foldCopies.Nodup := by
  refine foldCopies_apart.imp_of_mem fun {f g} hf _ h heq => ?_
  obtain ⟨-, hlo, -⟩ := foldCopies_fit f hf
  subst heq
  simp only [foldApart, Bool.or_eq_true, Bool.and_eq_true, decide_eq_true_eq, ne_eq, not_true_eq_false, false_or] at h
  omega

/-- Moving one copy leaves the others. -/
theorem rf_foldOne_apart {f g : Fold} (hf : NoRepeatCount f.id ∧ f.lo ≤ f.hi ∧ f.hi < (regRow f.id).width) (hg : g.lo ≤ g.hi)
    (h : foldApart f g = true) : rf (foldOne s g) f.id f.ix f.hi f.lo = rf s f.id f.ix f.hi f.lo := by
  obtain ⟨hev, hlo, hw⟩ := hf
  simp only [foldApart, Bool.or_eq_true, Bool.and_eq_true, decide_eq_true_eq] at h
  rcases h with h | ⟨⟨hid, hix⟩, h⟩
  · rw [rf, rd_foldOne_other hev h, ← rf]
  · unfold foldOne
    dsimp only
    split
    · rfl
    · rw [rf, rd_stat hev, ← rf, ← hid, ← hix]
      exact rf_wf_apart s f.id f.ix g.hi g.lo 0 f.hi f.lo hg hw h hlo

/-- Every copy is 0 at the end of the fold. -/
theorem rf_foldl_foldOne {f : Fold} (hf : f ∈ foldCopies) : rf (foldCopies.foldl foldOne s) f.id f.ix f.hi f.lo = 0 := by
  have hsymm : Std.Symm (fun f g => foldApart f g = true) := ⟨fun _ _ => foldApart_symm⟩
  have happart : ∀ g ∈ foldCopies, g ≠ f → foldApart f g = true := fun g hg hne => foldCopies_apart.forall hf hg (Ne.symm hne)
  obtain ⟨hev, hlo, hw⟩ := foldCopies_fit f hf
  refine foldl_reaches (P := fun _ => True) (Q := fun u : State => rf u f.id f.ix f.hi f.lo = 0) (fun _ _ _ _ h => h) ?_ ?_ foldCopies_nodup hf
    True.intro
  · intro u g hg hne h
    rw [rf_foldOne_apart ⟨hev, hlo, hw⟩ (foldCopies_fit g hg).2.1 (happart g hg hne), h]
  · exact fun u _ => rf_foldOne_same hev hlo hw

/-- The registers of a path's copies (R499). -/
def pathFoldIds : List RegId := [.adcOvr, .rxgCnt, .rxgCnt, .rxSat, .txLimcnt, .txMiss, .txClip, .cfrMiss, .txSat, .dpdClamp]

theorem pathCopies_spec {p : Nat} {g : Fold} (hg : g ∈ pathCopies s p) : g.id ∈ pathFoldIds ∧ g.index < 0x8000 + p * 0x40 + 0x40 ∧ g.sub = 1 := by
  have hall : ∀ g ∈ pathCopies s p, g.id ∈ pathFoldIds ∧ g.index < 0x8000 + p * 0x40 + 0x40 ∧ g.sub = 1 := by
    simp [pathCopies, pathFoldIds]
  exact hall g hg

/-- The single copies that the statement names. -/
def namedFolds : List Fold :=
  [⟨.tlGuardOvr, [], 31, 0, 0xE100, 1⟩, ⟨.tlEvtDrop, [], 31, 0, 0xE101, 1⟩, ⟨.bfSat, [], 31, 0, 0xE106, 1⟩, ⟨.dmaTrigDrop, [], 31, 0, 0xE10A, 1⟩,
    ⟨.dbgFails, [], 31, 0, 0xE10B, 1⟩]

theorem namedFolds_alone : ∀ f ∈ namedFolds, f ∈ foldCopies ∧ NoRepeatCount f.id ∧
    ∀ g ∈ foldCopies, g ≠ f → regAddr f.id f.ix ≠ regAddr g.id g.ix ∧ okey f.index f.sub ≠ okey g.index g.sub := by decide +kernel

theorem namedFolds_noPath : ∀ f ∈ namedFolds, 0x9000 ≤ f.index ∧ f.sub = 1 ∧ ∀ i ∈ pathFoldIds,
    (regRow f.id).addr + regSpan f.id < (regRow i).addr ∨ (regRow i).addr + regSpan i < (regRow f.id).addr := by decide +kernel

/-- A copy not yet moved: its register and its counter are as they were. -/
abbrev NotMoved (s u : State) (f : Fold) : Prop :=
  rd u f.id f.ix = rd s f.id f.ix ∧ spGet 0 u.stats (okey f.index f.sub) = spGet 0 s.stats (okey f.index f.sub)

theorem NotMoved.foldOne {f g : Fold} {u : State} (h : NotMoved s u f) (hev : NoRepeatCount f.id) (hreg : regAddr f.id f.ix ≠ regAddr g.id g.ix)
    (hkey : okey f.index f.sub ≠ okey g.index g.sub) : NotMoved s (foldOne u g) f :=
  ⟨by rw [rd_foldOne_other hev hreg, h.1], by rw [spGet_foldOne_other hkey, h.2]⟩

theorem foldPaths_notMoved {f : Fold} (hf : f ∈ namedFolds) : NotMoved s (foldPaths s) f := by
  obtain ⟨hindex, hsub, hids⟩ := namedFolds_noPath f hf
  obtain ⟨-, hev, -⟩ := namedFolds_alone f hf
  refine List.foldlRecOn (motive := fun u : State => NotMoved s u f) _ _ ⟨rfl, rfl⟩ fun u hu p hp => ?_
  refine List.foldlRecOn (motive := fun u : State => NotMoved s u f) _ _ hu fun v hv g hg => ?_
  obtain ⟨hid, hgi, hgs⟩ := pathCopies_spec hg
  have hp' := List.mem_range.1 hp
  refine hv.foldOne hev (regAddr_ne _ _ (hids g.id hid)) ?_
  unfold okey
  omega

theorem spGet_foldl_foldOne {f : Fold} (hf : f ∈ namedFolds) (h63 : bitOf (spGet 0 s.stats (okey f.index f.sub)) 63 = false)
    (hmax : spGet 0 s.stats (okey f.index f.sub) + rf s f.id f.ix f.hi f.lo ≤ statMax) :
    spGet 0 (foldCopies.foldl foldOne (foldPaths s)).stats (okey f.index f.sub) =
      spGet 0 s.stats (okey f.index f.sub) + rf s f.id f.ix f.hi f.lo := by
  obtain ⟨hmem, hev, halone⟩ := namedFolds_alone f hf
  refine foldl_reaches (P := fun u : State => NotMoved s u f)
    (Q := fun u : State => spGet 0 u.stats (okey f.index f.sub) = spGet 0 s.stats (okey f.index f.sub) + rf s f.id f.ix f.hi f.lo)
    ?_ ?_ ?_ foldCopies_nodup hmem (foldPaths_notMoved hf)
  · exact fun u g hg hne hu => hu.foldOne hev (halone g hg hne).1 (halone g hg hne).2
  · intro u g hg hne hu
    rw [spGet_foldOne_other (halone g hg hne).2, hu]
  · rintro u ⟨hrd, hstat⟩
    have hrf : rf u f.id f.ix f.hi f.lo = rf s f.id f.ix f.hi f.lo := congrArg (fun v => bitsOf v f.hi f.lo) hrd
    unfold foldOne
    dsimp only
    rw [hrf]
    split
    next h0 => rw [h0, hstat, Nat.add_zero]
    next h0 =>
      refine (spGet_stat_same ?_ ?_).trans (congrArg (· + _) hstat)
      · exact (congrArg (fun v => bitOf v 63) hstat).trans h63
      · exact Nat.le_trans (Nat.le_of_eq (congrArg (· + _) hstat)) hmax

theorem completes_counterFold : Completes .counterFold s fun t =>
      (∀ f ∈ foldCopies, rf t f.id f.ix f.hi f.lo = 0) ∧
      ∀ c ∈ [(RegId.tlGuardOvr, 0xE100), (.tlEvtDrop, 0xE101), (.bfSat, 0xE106), (.dmaTrigDrop, 0xE10A), (.dbgFails, 0xE10B)],
        bitOf (spGet 0 s.stats (okey c.2 1)) 63 = false → spGet 0 s.stats (okey c.2 1) + rf s c.1 [] 31 0 ≤ statMax →
        spGet 0 t.stats (okey c.2 1) = spGet 0 s.stats (okey c.2 1) + rf s c.1 [] 31 0 := by
  refine ⟨foldCopies.foldl foldOne (foldPaths s), rfl, fun f hf => rf_foldl_foldOne hf, fun c hc h63 hmax => ?_⟩
  have hnamed : ∀ c ∈ [(RegId.tlGuardOvr, 0xE100), (.tlEvtDrop, 0xE101), (.bfSat, 0xE106), (.dmaTrigDrop, 0xE10A), (.dbgFails, 0xE10B)],
      (⟨c.1, [], 31, 0, c.2, 1⟩ : Fold) ∈ namedFolds := by decide
  exact spGet_foldl_foldOne (f := ⟨c.1, [], 31, 0, c.2, 1⟩) (hnamed c hc) h63 hmax

theorem completes_statisticsCounterClear {role : Role} {index sub : Nat} {r : ObjRow} (hcounter : isCounter index sub = true) (hm : Manages role)
    (hrow : objRow index sub = some r) (hfind : findObj index sub = .inr r) (hacc : r.acc role ≠ .none) :
    Completes (.statisticsCounterClear role index sub) s fun t => t.stats = spPut 0 s.stats (okey index sub) 0 := by
  have hzero (n : Nat) : beNum (List.replicate n 0#8) = 0 := by
    induction n with
    | zero => rfl
    | succ n ih => exact ih
  have hgate : writeGate s role index sub r.ty.code (List.replicate r.ty.bytes 0) = .inr r := by
    unfold writeGate
    rw [hfind]
    rcases hm with rfl | rfl <;> simp [hcounter, hacc, hzero]
  refine ⟨clearCounter s index sub, ?_, rfl⟩
  show execStatisticsCounterClear role index sub s = _
  rw [execStatisticsCounterClear, hrow, Option.getD_some, hgate]
  exact if_pos hcounter

/-! ## The management interfaces (R502, R503) -/

theorem completes_writeFrame {frame : List Byte} (h : s.diong.spiIn.length < 2) :
    Completes (.writeFrame frame.length frame) s fun t => t.diong.spiIn = s.diong.spiIn ++ [frame] :=
  ⟨_, if_pos ⟨rfl, h⟩, rfl⟩

theorem completes_writeFrame_dropped {len : Nat} {frame : List Byte} (h : 2 ≤ s.diong.spiIn.length ∨ frame.length ≠ len) :
    Completes (.writeFrame len frame) s fun t => t = s :=
  ⟨s, if_neg (by omega), rfl⟩

theorem completes_readFrame {f : Bool × List Byte} {l : List (Bool × List Byte)} (h : s.diong.spiOut = f :: l) :
    Completes .readFrame s fun t => t.diong.spiOut = l ∧ t.out = s.out ++ [.spi (beBytes 2 f.2.length ++ f.2)] := by
  refine ⟨emit { s with diong := { s.diong with spiOut := l } } (.spi (beBytes 2 f.2.length ++ f.2)), ?_, rfl, rfl⟩
  show execReadFrame s = _
  rw [execReadFrame, h]

theorem completes_readFrame_empty (h : s.diong.spiOut = []) :
    Completes .readFrame s fun t => t.diong.spiOut = [] ∧ t.out = s.out ++ [.spi [0, 0]] := by
  refine ⟨emit s (.spi (beBytes 2 0)), ?_, h, rfl⟩
  show execReadFrame s = _
  rw [execReadFrame, h]

theorem completes_spiStatus : Completes .spiStatus s fun t =>
      t.diong.spiDropped = false ∧
      t.out = s.out ++ [.spi [BitVec.ofNat 8 ((if s.diong.spiOut = [] then 0 else 1) + (if s.diong.spiIn.length < 2 then 2 else 0) +
        if s.diong.spiDropped then 4 else 0)]] := by
  refine ⟨_, rfl, rfl, ?_⟩
  have hb : b2n (decide (s.diong.spiOut ≠ [])) + 2 * b2n (decide (s.diong.spiIn.length < 2)) + 4 * b2n s.diong.spiDropped =
      (if s.diong.spiOut = [] then 0 else 1) + (if s.diong.spiIn.length < 2 then 2 else 0) + if s.diong.spiDropped then 4 else 0 := by
    by_cases h1 : s.diong.spiOut = [] <;> by_cases h2 : s.diong.spiIn.length < 2 <;> cases h3 : s.diong.spiDropped <;> simp [b2n, h1, h2]
  rw [← hb]
  rfl

theorem t1sLast_emit (b : List Byte) : t1sLast (emit s (.t1s b)) = b := by
  rw [t1sLast, emit_out, List.getLast?_concat]

theorem sliceBytes_append_whole {a b : List Byte} {k n : Nat} (ha : a.length = k) (hb : b.length = n) : sliceBytes (a ++ b) k n = b :=
  (sliceBytes_append_right (o := 0) ha).trans (sliceBytes_whole hb)

/-- The Ethernet header of a reply. -/
def t1sHead (m type : Nat) : List Byte := beBytes 6 m ++ beBytes 6 Config.t1sMac ++ beBytes 2 type

theorem length_t1sHead (m type : Nat) : (t1sHead m type).length = 14 := by simp [t1sHead, length_beBytes]

theorem completes_arpRequest {m ip : Nat} (hruns : t1sRuns s = true) :
    Completes (.arpRequest m ip (ipv4 s)) s fun t =>
      t.out.length = s.out.length + 1 ∧ sliceBytes (t1sLast t) 0 14 = beBytes 6 m ++ beBytes 6 Config.t1sMac ++ [8, 6] ∧
      sliceBytes (t1sLast t) 20 22 = [0, 2] ++ beBytes 6 Config.t1sMac ++ beBytes 4 (ipv4 s) ++ beBytes 6 m ++ beBytes 4 ip := by
  have hframe : beBytes 6 m ++ execArpRequest.mac ++ beBytes 2 0x0806 ++ beBytes 2 1 ++ beBytes 2 0x0800 ++ beBytes 1 6 ++ beBytes 1 4 ++
      beBytes 2 2 ++ execArpRequest.mac ++ beBytes 4 (ipv4 s) ++ beBytes 6 m ++ beBytes 4 ip =
      (t1sHead m 0x0806 ++ (beBytes 2 1 ++ beBytes 2 0x0800 ++ beBytes 1 6 ++ beBytes 1 4)) ++
        (beBytes 2 2 ++ beBytes 6 Config.t1sMac ++ beBytes 4 (ipv4 s) ++ beBytes 6 m ++ beBytes 4 ip) := by
    simp only [t1sHead, List.append_assoc, execArpRequest.mac]
  refine ⟨_, if_pos ⟨hruns, rfl⟩, by rw [emit_out, List.length_append]; rfl, ?_, ?_⟩
  · rw [t1sLast_emit, hframe, List.append_assoc, sliceBytes_append_left (length_t1sHead m _)]
    rfl
  · rw [t1sLast_emit, hframe, sliceBytes_append_whole (by simp [length_beBytes, length_t1sHead]) (by simp [length_beBytes])]
    rfl

theorem completes_icmpEchoRequest {m ip ident seq : Nat} {data : List Byte} (hruns : t1sRuns s = true) :
    Completes (.icmpEchoRequest m ip (ipv4 s) ident seq false data) s fun t =>
      t.out.length = s.out.length + 1 ∧ sliceBytes (t1sLast t) 0 14 = beBytes 6 m ++ beBytes 6 Config.t1sMac ++ [8, 0] ∧
      sliceBytes (t1sLast t) 34 2 = [0, 0] ∧ (t1sLast t).drop 38 = beBytes 2 ident ++ beBytes 2 seq ++ data := by
  have hframe {h c : List Byte} (hh : h.length = 20) (hc : c.length = 2) :
      sliceBytes (beBytes 6 m ++ beBytes 6 Config.t1sMac ++ beBytes 2 0x0800 ++ h ++ ([0, 0] ++ c ++ beBytes 2 ident ++ beBytes 2 seq ++ data)) 0 14 =
          beBytes 6 m ++ beBytes 6 Config.t1sMac ++ [8, 0] ∧
        sliceBytes (beBytes 6 m ++ beBytes 6 Config.t1sMac ++ beBytes 2 0x0800 ++ h ++ ([0, 0] ++ c ++ beBytes 2 ident ++ beBytes 2 seq ++ data)) 34 2 =
          [0, 0] ∧
        (beBytes 6 m ++ beBytes 6 Config.t1sMac ++ beBytes 2 0x0800 ++ h ++ ([0, 0] ++ c ++ beBytes 2 ident ++ beBytes 2 seq ++ data)).drop 38 =
          beBytes 2 ident ++ beBytes 2 seq ++ data := by
    have happ : beBytes 6 m ++ beBytes 6 Config.t1sMac ++ beBytes 2 0x0800 ++ h ++ ([0, 0] ++ c ++ beBytes 2 ident ++ beBytes 2 seq ++ data) =
        (t1sHead m 0x0800 ++ h) ++ ([0, 0] ++ (c ++ (beBytes 2 ident ++ beBytes 2 seq ++ data))) := by
      simp only [t1sHead, List.append_assoc]
    have hlen : (t1sHead m 0x0800 ++ h).length = 34 := by rw [List.length_append, length_t1sHead, hh]
    refine ⟨?_, ?_, ?_⟩
    · rw [happ, List.append_assoc, sliceBytes_append_left (length_t1sHead m _)]
      rfl
    · rw [happ]
      exact sliceBytes_between hlen rfl
    · rw [happ, ← List.append_assoc, ← List.append_assoc]
      exact List.drop_left' (by rw [List.length_append, List.length_append, hlen, hc]; rfl)
  refine ⟨_, if_pos ⟨hruns, rfl, by decide⟩, by rw [emit_out, List.length_append]; rfl, ?_⟩
  rw [t1sLast_emit]
  exact hframe (by simp [length_beBytes]) (length_beBytes 2 _)

theorem completes_icmpEchoRequest_fragment {m ip dst ident seq : Nat} {data : List Byte} :
    Completes (.icmpEchoRequest m ip dst ident seq true data) s fun t => t = s :=
  ⟨s, if_neg (fun h => h.2.2 rfl), rfl⟩

/-- Settles O44: what the commands of the dictionary leave of sessions, notifications, digests, conditions, counters and interfaces. -/
theorem dictionaryCommandsComplete : Obligations.DictionaryCommandsComplete :=
  ⟨fun _ _ _ _ _ => completes_sessionTimeout, fun _ _ _ _ _ _ => completes_blockTransferTimeout,
    fun _ _ _ _ _ _ _ _ _ => completes_subscriptionNotify, fun _ _ => completes_rwDigestRecompute, fun _ _ => completes_replicaRewrite,
    fun _ _ _ _ => completes_eventCease, fun _ => completes_counterFold, fun _ _ _ _ _ => completes_statisticsCounterClear,
    fun _ _ => completes_writeFrame, fun _ _ _ => completes_writeFrame_dropped, fun _ _ _ => completes_readFrame,
    fun _ => completes_readFrame_empty, fun _ => completes_spiStatus, fun _ _ _ => completes_arpRequest,
    fun _ _ _ _ _ _ => completes_icmpEchoRequest, fun _ _ _ _ _ _ _ => completes_icmpEchoRequest_fragment⟩

end Sys2Proof.Machine
end

section
/-!
The power-state sequencer (R506 to R521): requests, the steps of an entry, exits, and the gating of sections. The settlement of O48.
-/

namespace Sys2Proof.Machine

set_option Elab.async false

variable {s t : State}

theorem reachCount_pwr (n : Nat) : (reachCount s n).pwr = s.pwr := (reachCount_same n (Nat.and_self _) (Same.refl _ s)).but.pwr (by decide)

/-! ## Fields of PWR_STAT and PWR_REQ_STAT -/

theorem rd_reqStatus {id : RegId} {ix : List Nat} (h : (regRow id).addr + regSpan id < (regRow .pwrReqStat).addr ∨
    (regRow .pwrReqStat).addr + regSpan .pwrReqStat < (regRow id).addr) (v : Nat) : rd (reqStatus s v) id ix = rd s id ix :=
  rd_wf_other _ _ _ _ _ _ _ _ (regAddr_ne _ _ h)

theorem status_reqStatus (v : Nat) : rf (reqStatus s v) .pwrReqStat [] 3 0 = v % 16 := rf_wf _ _ _ _ _ _ (by decide) (by decide)

theorem pwrLevel_setLevel (l : Nat) : (setLevel s l).pwrLevel = l % 8 := rf_wf _ _ _ _ _ _ (by decide) (by decide)

/-! ## Settling (R506, R515) -/

/-- The sequencer at rest. -/
def settledPwr (p : Pwr) : Pwr := { p with req := none, up := none, step := 0, exit := none, lockSince := none, switch := none }

/-- The state and level shown as the device settles, nothing in flight. -/
def settleShown (s : State) (new : Nat) : State :=
  { wbit (wf (setLevel s new) .pwrStat [] 2 0 new) .pwrStat [] 3 false with pwr := settledPwr s.pwr }

theorem settle_of_quiet (hw : s.pwr.wake = none) (hq : s.pwr.queue = none) (new : Nat) :
    settle s new = if new = s.pwrState then settleShown s new else raise (settleShown s new) 216 new s.pwrState := by
  have hrest {u : State} (hu : u.pwr = settledPwr s.pwr) : (match u.pwr.wake with
      | some src =>
        let s4 := { u with pwr := { u.pwr with wake := none } }
        if 2 ≤ new then exitTo (recordWake s4 src new false) s4.pwr.wakeTo else startQueued s4
      | none => startQueued u) = u := by
    have hwake : u.pwr.wake = none := by rw [hu, ← hw]; rfl
    have hqueue : u.pwr.queue = none := by rw [hu, ← hq]; rfl
    rw [hwake]
    dsimp only
    rw [startQueued, hqueue]
  unfold settle
  refine (hrest ?_).trans rfl
  dsimp only
  split
  · rfl
  · exact raise_pwr ..

/-- What settling leaves. -/
structure Settled (s t : State) (new : Nat) : Prop where
  pwr : t.pwr = settledPwr s.pwr
  state : t.pwrState = new
  level : t.pwrLevel = new
  moving : t.pwrMoving = false
  reqStat : rd t .pwrReqStat [] = rd s .pwrReqStat []
  fires : new ≠ s.pwrState → Fires t 216
  clk : t.clk = s.clk
  islands : t.islands = s.islands

theorem settleShown_stat {new : Nat} (hnew : new < 8) : (settleShown s new).pwrState = new ∧ (settleShown s new).pwrLevel = new ∧
    (settleShown s new).pwrMoving = false ∧ rd (settleShown s new) .pwrReqStat [] = rd s .pwrReqStat [] := by
  obtain ⟨u, hu⟩ : ∃ u, setLevel s new = u := ⟨_, rfl⟩
  have hlevel : u.pwrLevel = new := by rw [← hu, pwrLevel_setLevel, Nat.mod_eq_of_lt hnew]
  have hrd (id : RegId) (ix : List Nat) : rd (settleShown s new) id ix = rd (wbit (wf u .pwrStat [] 2 0 new) .pwrStat [] 3 false) id ix := by
    rw [← hu]
    exact rd_eq_of_regs rfl rfl id ix
  refine ⟨?_, ?_, ?_, ?_⟩
  · rw [State.pwrState, rf, hrd, ← rf, wbit, rf_wf_apart _ _ _ _ _ _ _ _ (by decide) (by decide) (by decide) (by decide),
      rf_wf _ _ _ _ _ _ (by decide) (by decide)]
    exact Nat.mod_eq_of_lt hnew
  · rw [State.pwrLevel, rf, hrd, ← rf, wbit, rf_wf_apart _ _ _ _ _ _ _ _ (by decide) (by decide) (by decide) (by decide),
      rf_wf_apart _ _ _ _ _ _ _ _ (by decide) (by decide) (by decide) (by decide)]
    exact hlevel
  · rw [State.pwrMoving, rbit, hrd, ← rbit, rbit_wbit _ _ _ _ _ (by decide)]
  · rw [hrd, rd_wbit_other _ _ _ _ _ _ _ (by decide), rd_wf_other _ _ _ _ _ _ _ _ (by decide), ← hu]
    exact rd_wf_other _ _ _ _ _ _ _ _ (by decide)

theorem settled_settle (hw : s.pwr.wake = none) (hq : s.pwr.queue = none) {new : Nat} (hnew : new < 8) : Settled s (settle s new) new := by
  obtain ⟨hstate, hlevel, hmoving, hreq⟩ := settleShown_stat (s := s) hnew
  rw [settle_of_quiet hw hq]
  split
  next heq => exact ⟨rfl, hstate, hlevel, hmoving, hreq, fun h => absurd heq h, rfl, rfl⟩
  next =>
    have hrd {id : RegId} (h : NoRepeatCount id) : rd (raise (settleShown s new) 216 new s.pwrState) id [] = rd (settleShown s new) id [] :=
      rd_raise h _ _ _
    refine ⟨raise_pwr .., ?_, ?_, ?_, (hrd (by decide)).trans hreq, fun _ => fires_raise .., raise_clk .., raise_islands ..⟩
    · rw [State.pwrState, rf, hrd (by decide)]
      exact hstate
    · rw [State.pwrLevel, rf, hrd (by decide)]
      exact hlevel
    · rw [State.pwrMoving, rbit, hrd (by decide)]
      exact hmoving

/-! ## Requests (R512, R513) -/

section
variable {by_ : Option Role} {tag value : Nat} {r : PwrReq}

/-- Who may make a power request (R512). -/
abbrev MayRequest (s : State) (by_ : Option Role) (tag : Nat) : Prop :=
  by_ = some .operator ∨ by_ = some .service ∨ by_ = none ∧ s.regOff .pwrReq [] = false ∧ s.tagDeviceOrD2 tag = true

theorem exec_powerRequest_of_may (hmay : MayRequest s by_ tag) (hgo : bitOf value 4 = true) :
    exec (.powerRequest by_ tag value) s = .next (powerRequest s (bitsOf value 2 0) (bitOf value 3)) := by
  show execPowerRequest by_ tag value s = _
  unfold execPowerRequest
  rcases hmay with rfl | rfl | ⟨rfl, hoff, htag⟩
  · exact congrArg Host.Outcome.next (if_pos hgo)
  · exact congrArg Host.Outcome.next (if_pos hgo)
  · exact congrArg Host.Outcome.next ((tagged_of_may hoff htag).trans (if_pos hgo))

theorem powerRequest_of_free {target : Nat} (ht : target ≤ 5) (hr : s.pwr.req = none) (he : s.pwr.exit = none) (hsw : s.pwr.switch = none)
    (hs : s.pwrState ≤ 2) (back : Bool) : powerRequest s target back = startReq s ⟨target, back, s.pwrState, false⟩ := by
  unfold powerRequest
  dsimp only
  rw [if_neg (by omega), hr]
  dsimp only
  rw [if_neg (by simp [he, hsw]), if_neg (by omega)]

/-- A downward request taken; `u` is the state in which a hand-over has been cancelled. -/
def requestTaken (s u : State) (r : PwrReq) : State :=
  { u with pwr := { u.pwr with req := some r, up := none, wake := none, exit := none, lockSince := none, last := lastStep r.target,
                               accepted := s.now, acceptedAt := s.clk.elapsed } }

/-- A downward request shown. -/
def requestShown (s u : State) (r : PwrReq) : State :=
  wf (reqStatus (wbit (requestTaken s u r) .pwrStat [] 3 true) 2) .pwrReqStat [] 6 4 r.target

theorem stepStart_one (target : Nat) : stepStart s 1 target = { s with pwr := { s.pwr with step := 1 } } := by
  unfold stepStart
  exact if_neg (by decide)

theorem beginReq_of_level (hlevel : s.pwrLevel < 2) (hhot : r.hot = false) :
    beginReq s r = { requestShown s (if s.ho = 1 ∨ s.ho = 2 then hoFails s 7 else s) r with
      pwr := { (requestShown s (if s.ho = 1 ∨ s.ho = 2 then hoFails s 7 else s) r).pwr with step := 1 } } := by
  rw [← stepStart_one r.target]
  unfold beginReq requestShown requestTaken
  generalize (if s.ho = 1 ∨ s.ho = 2 then hoFails s 7 else s) = u
  dsimp only
  rw [hhot, if_neg (by decide), firstStep, if_pos hlevel]

theorem requestShown_pwr {u : State} : (requestShown s u r).pwr = (requestTaken s u r).pwr := rfl

theorem requestShown_leaves {u : State} (hrd : rd u .pwrStat [] = rd s .pwrStat []) (hr : r.target < 8) :
    (requestShown s u r).pwrMoving = true ∧ (requestShown s u r).pwrState = s.pwrState ∧ rf (requestShown s u r) .pwrReqStat [] 3 0 = 2 ∧
      rf (requestShown s u r) .pwrReqStat [] 6 4 = r.target := by
  have hv : rd (requestTaken s u r) .pwrStat [] = rd s .pwrStat [] := hrd
  unfold requestShown
  generalize requestTaken s u r = v at *
  have hstat : rd (wf (reqStatus (wbit v .pwrStat [] 3 true) 2) .pwrReqStat [] 6 4 r.target) .pwrStat [] =
      rd (wbit v .pwrStat [] 3 true) .pwrStat [] := by
    rw [rd_wf_other _ _ _ _ _ _ _ _ (by decide), rd_reqStatus (by decide)]
  refine ⟨?_, ?_, ?_, ?_⟩
  · rw [State.pwrMoving, rbit, hstat, ← rbit, rbit_wbit _ _ _ _ _ (by decide)]
  · rw [State.pwrState, rf, hstat, ← rf, wbit, rf_wf_apart _ _ _ _ _ _ _ _ (by decide) (by decide) (by decide) (by decide), rf, hv]
    rfl
  · rw [rf_wf_apart _ _ _ _ _ _ _ _ (by decide) (by decide) (by decide) (by decide), status_reqStatus]
  · rw [rf_wf _ _ _ _ _ _ (by decide) (by decide)]
    exact Nat.mod_eq_of_lt hr

theorem startReq_of_down (hdown : r.target = 2 ∨ r.target = 3) (hs : s.pwrState < 2) (hwake : s.pwr.wakeCycle ≠ s.rtcCycle + 1) :
    startReq s r = beginReq s r := by
  have hdepth : depthOf s.pwrState < depthOf r.target := by
    unfold depthOf
    omega
  unfold startReq
  dsimp only
  rw [if_neg (by omega), if_neg (by omega), if_neg (by omega), if_pos hdepth, if_neg hwake]

theorem completes_powerRequest_down (hmay : MayRequest s by_ tag) (hgo : bitOf value 4 = true)
    (hdown : bitsOf value 2 0 = 2 ∨ bitsOf value 2 0 = 3) (hr : s.pwr.req = none) (he : s.pwr.exit = none) (hsw : s.pwr.switch = none)
    (hs : s.pwrState < 2) (hlevel : s.pwrLevel = s.pwrState) (hwake : s.pwr.wakeCycle ≠ s.rtcCycle + 1) :
    Completes (.powerRequest by_ tag value) s fun t =>
      t.pwr.req = some ⟨bitsOf value 2 0, bitOf value 3, s.pwrState, false⟩ ∧ t.pwr.step = 1 ∧ t.pwr.last = lastStep (bitsOf value 2 0) ∧
      t.pwrMoving = true ∧ t.pwrState = s.pwrState ∧ rf t .pwrReqStat [] 3 0 = 2 ∧ rf t .pwrReqStat [] 6 4 = bitsOf value 2 0 := by
  have hrd : rd (if s.ho = 1 ∨ s.ho = 2 then hoFails s 7 else s) .pwrStat [] = rd s .pwrStat [] := by
    split
    · exact (hoFails_same 7 (Nat.and_self _) (Same.refl _ s)).but.rd_eq_apart (by decide) (by decide) (by decide)
    · rfl
  refine ⟨_, exec_powerRequest_of_may hmay hgo, ?_⟩
  rw [powerRequest_of_free (by omega) hr he hsw (by omega), startReq_of_down hdown hs hwake, beginReq_of_level (by omega) rfl]
  generalize (if s.ho = 1 ∨ s.ho = 2 then hoFails s 7 else s) = u at *
  obtain ⟨hmoving, hstate, hstat, htarget⟩ := requestShown_leaves (r := ⟨bitsOf value 2 0, bitOf value 3, s.pwrState, false⟩) hrd
    (by rcases hdown with h | h <;> simp [h])
  have hpwr := requestShown_pwr (s := s) (u := u) (r := ⟨bitsOf value 2 0, bitOf value 3, s.pwrState, false⟩)
  generalize requestShown s u ⟨bitsOf value 2 0, bitOf value 3, s.pwrState, false⟩ = v at *
  dsimp only
  rw [hpwr]
  exact ⟨rfl, rfl, rfl, hmoving, hstate, hstat, htarget⟩

theorem completes_powerRequest_here (hmay : MayRequest s by_ tag) (hgo : bitOf value 4 = true) (hhere : bitsOf value 2 0 = s.pwrState)
    (hr : s.pwr.req = none) (he : s.pwr.exit = none) (hsw : s.pwr.switch = none) (hs : s.pwrState ≤ 2) :
    Completes (.powerRequest by_ tag value) s fun t =>
      rf t .pwrReqStat [] 3 0 = 7 ∧ t.pwrState = s.pwrState ∧ t.pwr = s.pwr ∧ Fires t 218 := by
  refine ⟨_, exec_powerRequest_of_may hmay hgo, ?_⟩
  rw [powerRequest_of_free (by omega) hr he hsw hs, startReq, if_pos hhere]
  unfold refuseReq
  refine ⟨?_, ?_, raise_pwr .., fires_raise ..⟩
  · rw [rf, rd_raise (by decide), ← rf, rf_wf_apart _ _ _ _ _ _ _ _ (by decide) (by decide) (by decide) (by decide), status_reqStatus]
  · rw [State.pwrState, rf, rd_raise (by decide), rd_wf_other _ _ _ _ _ _ _ _ (by decide), rd_reqStatus (by decide)]
    rfl

theorem completes_powerRequest_refused (hoff : s.regOff .pwrReq [] = false) (htag : s.tagDeviceOrD2 tag = false) :
    Completes (.powerRequest none tag value) s fun t => t.pwr = s.pwr ∧ Fires t 224 :=
  ⟨_, congrArg Host.Outcome.next (tagged_of_may_not hoff htag), raise_pwr .., fires_raise ..⟩

end

/-! ## Entry (R513) -/

theorem pathOff_path (p : Nat) : (pathOff s p).tl.path = spPut PathState.off s.tl.path p .off := by
  obtain ⟨u, hu⟩ : ∃ u, { s with tl := { s.tl with path := spPut PathState.off s.tl.path p .off } } = u := ⟨_, rfl⟩
  have hpath : u.tl.path = spPut PathState.off s.tl.path p .off := by rw [← hu]
  have hstep : SameBut [.marks, .cvt] [] u (markSilent (dwellsOff u p) p) :=
    (markSilent_same p (by decide) (dwellsOff_same p (by decide) (Same.refl _ u))).but
  have hturn (v : State) : (startTurn v p .off).tl = v.tl := (startTurn_same p .off (Nat.and_self _) (Same.refl _ v)).but.tl (by decide)
  have hif (b : Bool) (v : State) : (if b then v else startTurn v p .off).tl = v.tl := by
    cases b
    · exact hturn v
    · rfl
  unfold pathOff
  rw [hu, ← hpath]
  dsimp only
  rw [hif, hstep.tl (by decide)]

/-- Every path is off (R507). -/
theorem pathState_allPathsOff {p : Nat} (hp : p < 64) : (allPathsOff s).pathState p = .off := by
  have hmem : p ∈ List.range 64 := List.mem_range.2 hp
  refine foldl_reaches (P := fun _ => True) (Q := fun u : State => u.pathState p = .off) (fun _ _ _ _ h => h) ?_ ?_ List.nodup_range hmem True.intro
  · intro u q _ hne h
    rw [State.pathState, pathOff_path, spGet_spPut_other _ _ _ _ (Ne.symm hne)]
    exact h
  · intro u _
    rw [State.pathState, pathOff_path, spGet_spPut_same PathState.off u.tl.path p .off]

theorem stepStart_two_pwr (target : Nat) : ∃ a, (stepStart s 2 target).pwr = { s.pwr with step := 2, drnAt := a } := by
  obtain ⟨u, hu⟩ : ∃ u, allDrainsFall { s with pwr := { s.pwr with step := 2 } } = u := ⟨_, rfl⟩
  have hpwr : u.pwr = { s.pwr with step := 2 } := by
    rw [← hu]
    exact (allDrainsFall_same (Nat.and_self _) (Same.refl _ _)).but.pwr (by decide)
  refine ⟨u.clk.elapsed, ?_⟩
  unfold stepStart
  dsimp only
  rw [if_pos rfl, hu, hpwr]
  split
  · exact (releaseHalts_same (Nat.and_self _) (Same.refl _ _)).but.pwr (by decide)
  · rfl

/-- Step 1 done: every path is off (R507, R513). -/
theorem stepPathsOff_leaves (target : Nat) : (∃ a, (stepPathsOff s target).pwr = { s.pwr with depth := 1, step := 2, drnAt := a }) ∧
    (stepPathsOff s target).clk = s.clk ∧ ∀ p < 64, (stepPathsOff s target).pathState p = .off := by
  obtain ⟨u, hu⟩ : ∃ u, { s with pwr := { s.pwr with depth := 1 } } = u := ⟨_, rfl⟩
  have hupwr : u.pwr = { s.pwr with depth := 1 } := by rw [← hu]
  have hfg := (fgAbort_same (Nat.and_self _) (Same.refl _ (allPathsOff u))).butAny
  have hoff := (allPathsOff_same (Nat.and_self _) (Same.refl _ u)).but
  have hstart := (stepStart_same 2 target (Nat.and_self _) (Same.refl _ (fgAbort (allPathsOff u)))).but
  obtain ⟨a, ha⟩ := stepStart_two_pwr (s := fgAbort (allPathsOff u)) target
  unfold stepPathsOff
  rw [hu]
  refine ⟨⟨a, ?_⟩, ?_, fun p hp => ?_⟩
  · rw [ha, hfg.pwr (by decide), hoff.pwr (by decide), hupwr]
  · rw [hstart.clk (by decide), hfg.clk (by decide), hoff.clk (by decide), ← hu]
  · rw [State.pathState, hstart.tl (by decide), hfg.tl (by decide)]
    have hoff := pathState_allPathsOff (s := u) hp
    rw [State.pathState] at hoff
    exact hoff

theorem abortPoint_of_none {r : PwrReq} (hwake : s.pwr.wake = none) (hup : s.pwr.up = none) : abortPoint s r = none := by
  unfold abortPoint
  split
  · rfl
  · split
    next h => exact absurd (hwake.symm.trans h) (by simp)
    next h => exact absurd (hup.symm.trans h) (by simp)
    next => rfl

theorem exec_powerEntryStep_of_req {r : PwrReq} (hr : s.pwr.req = some r) : exec .powerEntryStep s = .next (entryStep s r) := by
  show execPowerEntryStep s = _
  rw [execPowerEntryStep, hr]

theorem entryStep_one {r : PwrReq} (hstep : s.pwr.step = 1) (hhot : r.hot = false)
    (habort : abortPoint (reachCount s (nextFrame s.frameOfs (s.pwr.accepted + 49152))) r = none) :
    entryStep s r = stepPathsOff (reachCount s (nextFrame s.frameOfs (s.pwr.accepted + 49152))) r.target := by
  unfold entryStep
  generalize storeConfig = f1
  generalize stepListen = f2
  generalize stepNap = f3
  generalize stepLinkIdle = f4
  generalize entryDone = f5
  generalize stepPathsOff = f6
  rw [hstep]
  dsimp only
  rw [hhot, if_neg (by decide), habort]
  rfl

theorem completes_powerEntryStep_one {r : PwrReq} (hr : s.pwr.req = some r) (hstep : s.pwr.step = 1) (hhot : r.hot = false)
    (hwake : s.pwr.wake = none) (hup : s.pwr.up = none) :
    Completes .powerEntryStep s fun t =>
      t.pwr.depth = 1 ∧ t.pwr.step = 2 ∧ t.clk.count = max s.now (nextFrame s.frameOfs (s.pwr.accepted + 49152)) ∧
      (∀ p < 64, t.pathState p = .off) ∧ t.pwr.req = some r := by
  obtain ⟨u, hu⟩ : ∃ u, reachCount s (nextFrame s.frameOfs (s.pwr.accepted + 49152)) = u := ⟨_, rfl⟩
  have hpwr : u.pwr = s.pwr := by rw [← hu, reachCount_pwr]
  have hcount : u.clk.count = max s.now (nextFrame s.frameOfs (s.pwr.accepted + 49152)) := by rw [← hu, reachCount_count, State.now]
  have hentry : entryStep s r = stepPathsOff u r.target := by
    rw [entryStep_one hstep hhot (by rw [hu]; exact abortPoint_of_none (by rw [hpwr, hwake]) (by rw [hpwr, hup])), hu]
  obtain ⟨⟨a, ha⟩, hclk, hpaths⟩ := stepPathsOff_leaves (s := u) r.target
  refine ⟨stepPathsOff u r.target, (exec_powerEntryStep_of_req hr).trans (congrArg Host.Outcome.next hentry), ?_⟩
  dsimp only
  rw [ha, hclk, hpwr]
  exact ⟨rfl, rfl, hcount, hpaths, hr⟩

/-! ## Islands (R22, R513, R519) -/

theorem island_islandSet (i : Nat) (x : Island) : (islandSet s i x).islands = (s.setIsland i x).islands :=
  List.foldlRecOn (motive := fun u : State => u.islands = (s.setIsland i x).islands) _ _ rfl fun u hu k _ =>
    ((clockConv_same k (Nat.and_self _) (Same.refl _ u)).but.islands (by decide)).trans hu

theorem islandSet_island {i j : Nat} (x : Island) : (islandSet s i x).island j = if j = i then x else s.island j := by
  unfold State.island
  rw [island_islandSet]
  split
  next h =>
    subst h
    exact island_setIsland ..
  next h => exact island_setIsland_other _ x h

theorem islandDown_island {i j : Nat} : (islandDown s i).island j = if j = i then ⟨false, true, false, true, false⟩ else s.island j := by
  unfold islandDown State.island
  rw [show (dropParked (islandSet s i ⟨false, true, false, true, false⟩) fun _ q => decide (portIsland q = i)).islands =
    (islandSet s i ⟨false, true, false, true, false⟩).islands from rfl]
  exact islandSet_island _

theorem off_islandClock (i j : Nat) (b : Bool) : ((islandClock s i b).island j).off = (s.island j).off := by
  unfold islandClock
  rw [islandSet_island]
  split
  next h => rw [h]; rfl
  next => rfl

/-- What one step of a fold brings about stays, if every step keeps it. -/
theorem foldl_brings {α β : Type} {f : β → α → β} {Q : β → Prop} {a : α} {l : List α} (hkeep : ∀ u i, Q u → Q (f u i)) (ha : ∀ u, Q (f u a))
    (hm : a ∈ l) (s : β) : Q (l.foldl f s) := by
  obtain ⟨l₁, l₂, rfl⟩ := List.append_of_mem hm
  rw [List.foldl_append, List.foldl_cons]
  exact List.foldlRecOn l₂ f (ha _) fun u hu i _ => hkeep u i hu

theorem off_foldl_islandDown {i : Nat} {l : List Nat} (h : i ∈ l) : ((l.foldl islandDown s).island i).off = true := by
  refine foldl_brings (Q := fun u : State => (u.island i).off = true) (fun u j hu => ?_) (fun u => ?_) h s
  · rw [islandDown_island]
    split
    · rfl
    · exact hu
  · rw [islandDown_island, if_pos rfl]
    rfl

theorem off_foldl_islandUp {i : Nat} {l : List Nat} (h : i ∈ l) : ((l.foldl islandUp s).island i).off = false := by
  refine foldl_brings (Q := fun u : State => (u.island i).off = false) (fun u j hu => ?_) (fun u => ?_) h s
  · rw [islandUp, islandSet_island]
    split
    · rfl
    · exact hu
  · rw [islandUp, islandSet_island, if_pos rfl]
    rfl

theorem off_foldl_islandClock (l : List Nat) (b : Bool) (i : Nat) : ((l.foldl (fun s j => islandClock s j b) s).island i).off = (s.island i).off :=
  List.foldlRecOn (motive := fun u : State => (u.island i).off = (s.island i).off) _ _ rfl fun _ hu j _ => (off_islandClock j i b).trans hu

/-! ## The last steps of an entry (R513) -/

theorem entryDone_last {r : PwrReq} {k : Nat} (hk : k = s.pwr.last) (hhot : r.hot = false) :
    entryDone k s r = settle (reqStatus { s with pwr := { s.pwr with wakeTo := if r.back then r.from_ else 2 } } 3) r.target := by
  unfold entryDone
  generalize settle = f
  rw [if_pos hk]
  dsimp only
  rw [hhot]
  rfl

/-- An entry that ends, nothing held back. -/
theorem settled_entryDone {r : PwrReq} {k : Nat} (hk : k = s.pwr.last) (hhot : r.hot = false) (hw : s.pwr.wake = none) (hq : s.pwr.queue = none)
    (ht : r.target < 8) : (entryDone k s r).pwr = settledPwr { s.pwr with wakeTo := if r.back then r.from_ else 2 } ∧
      (entryDone k s r).pwrState = r.target ∧ (entryDone k s r).pwrLevel = r.target ∧ (entryDone k s r).pwrMoving = false ∧
      rf (entryDone k s r) .pwrReqStat [] 3 0 = 3 ∧ (r.target ≠ s.pwrState → Fires (entryDone k s r) 216) ∧
      (entryDone k s r).islands = s.islands := by
  obtain ⟨u, hu⟩ : ∃ u, { s with pwr := { s.pwr with wakeTo := if r.back then r.from_ else 2 } } = u := ⟨_, rfl⟩
  have hpwr : (reqStatus u 3).pwr = { s.pwr with wakeTo := if r.back then r.from_ else 2 } := by
    rw [← hu]
    rfl
  have hstate : (reqStatus u 3).pwrState = s.pwrState := by
    rw [State.pwrState, rf, rd_reqStatus (by decide), ← hu]
    rfl
  have hisl : (reqStatus u 3).islands = s.islands := by
    rw [← hu]
    rfl
  have h := settled_settle (s := reqStatus u 3) (by rw [hpwr]; exact hw) (by rw [hpwr]; exact hq) ht
  rw [entryDone_last hk hhot, hu]
  refine ⟨by rw [h.pwr, hpwr], h.state, h.level, h.moving, ?_, fun hne => h.fires (by rw [hstate]; exact hne), h.islands.trans hisl⟩
  rw [rf, h.reqStat, ← rf, status_reqStatus]

theorem entryStep_two {r : PwrReq} (hstep : s.pwr.step = 2) (hjobs : ∀ e < 18, (s.eng e).job = none) :
    entryStep s r = entryDone 2 (setLevel (islandDown (engineIslands.foldl (fun s i => islandClock s i false) s) 8) 2) r := by
  have hany : ¬ (List.range 18).any (fun e => (s.eng e).job.isSome) = true := by
    intro h
    obtain ⟨e, he, hj⟩ := List.any_eq_true.1 h
    rw [hjobs e (List.mem_range.1 he)] at hj
    exact absurd hj (by decide)
  unfold entryStep
  generalize storeConfig = f1
  generalize stepListen = f2
  generalize stepNap = f3
  generalize stepLinkIdle = f4
  generalize entryDone = f5
  generalize stepPathsOff = f6
  rw [hstep]
  exact if_neg hany

theorem entryStep_four {r : PwrReq} (hstep : s.pwr.step = 4) : entryStep s r = entryDone 4 (stepNap s r.target) r := by
  unfold entryStep
  generalize storeConfig = f1
  generalize stepListen = f2
  generalize stepNap = f3
  generalize stepLinkIdle = f4
  generalize entryDone = f5
  generalize stepPathsOff = f6
  rw [hstep]
  rfl

theorem pwr_foldl_islandClock (l : List Nat) (b : Bool) : (l.foldl (fun s j => islandClock s j b) s).pwr = s.pwr :=
  List.foldlRecOn (motive := fun u : State => u.pwr = s.pwr) _ _ rfl fun u hu j _ =>
    ((islandClock_same j b (Nat.and_self _) (Same.refl _ u)).but.pwr (by decide)).trans hu

theorem rd_foldl_islandClock (l : List Nat) (b : Bool) (id : RegId) (ix : List Nat) :
    rd (l.foldl (fun s j => islandClock s j b) s) id ix = rd s id ix :=
  List.foldlRecOn (motive := fun u : State => rd u id ix = rd s id ix) _ _ rfl fun u hu j _ =>
    ((islandClock_same j b (Nat.and_self _) (Same.refl _ u)).but.rd_eq (by decide) (by decide) (fun _ h => absurd h List.not_mem_nil)).trans hu

/-- The device with the engines' clocks stopped and the beam matrix down (R513). -/
def beamsDown (s : State) : State := setLevel (islandDown (engineIslands.foldl (fun s i => islandClock s i false) s) 8) 2

theorem beamsDown_leaves : (beamsDown s).pwr = s.pwr ∧ (beamsDown s).pwrState = s.pwrState ∧ ((beamsDown s).island 8).off = true := by
  have hclk := pwr_foldl_islandClock (s := s) engineIslands false
  have hrd := rd_foldl_islandClock (s := s) engineIslands false .pwrStat []
  unfold beamsDown
  generalize engineIslands.foldl (fun s i => islandClock s i false) s = u at *
  have hdown := (islandDown_same 8 (Nat.and_self _) (Same.refl _ u)).but
  have hpwr := (hdown.pwr (by decide)).trans hclk
  have hstat := (hdown.rd_eq_apart (id := .pwrStat) (ix := []) (by decide) (by decide) (by decide)).trans hrd
  have hisland : (islandDown u 8).island 8 = ⟨false, true, false, true, false⟩ := islandDown_island.trans (if_pos rfl)
  generalize islandDown u 8 = v at *
  refine ⟨by rw [setLevel, wf_pwr, hpwr], ?_, ?_⟩
  · rw [State.pwrState, setLevel, rf_wf_apart _ _ _ _ _ _ _ _ (by decide) (by decide) (by decide) (by decide), rf, hstat]
    rfl
  · rw [State.island, setLevel, wf_islands, ← State.island, hisland]
    rfl

theorem completes_powerEntryStep_two {r : PwrReq} (hr : s.pwr.req = some r) (hstep : s.pwr.step = 2) (hlast : s.pwr.last = 2)
    (htarget : r.target = 2) (hhot : r.hot = false) (hjobs : ∀ e < 18, (s.eng e).job = none) (hw : s.pwr.wake = none) (hq : s.pwr.queue = none) :
    Completes .powerEntryStep s fun t =>
      t.pwrState = 2 ∧ t.pwrLevel = 2 ∧ t.pwrMoving = false ∧ t.pwr.req = none ∧ t.pwr.step = 0 ∧ (t.island 8).off = true ∧
      rf t .pwrReqStat [] 3 0 = 3 ∧ (s.pwrState ≠ 2 → Fires t 216) := by
  have hentry : entryStep s r = entryDone 2 (beamsDown s) r := entryStep_two hstep hjobs
  obtain ⟨hpwr, hbefore, hisland⟩ := beamsDown_leaves (s := s)
  generalize beamsDown s = z at *
  obtain ⟨hp, hstate, hlevel, hmoving, hreq, hfires, hislands⟩ := settled_entryDone (s := z) (r := r) (k := 2) (by rw [hpwr, hlast]) hhot
    (by rw [hpwr, hw]) (by rw [hpwr, hq]) (by rw [htarget]; decide)
  rw [htarget] at hstate hlevel hfires
  refine ⟨entryDone 2 z r, (exec_powerEntryStep_of_req hr).trans (congrArg Host.Outcome.next hentry), hstate, hlevel, hmoving, by rw [hp]; rfl,
    by rw [hp]; rfl, ?_, hreq, fun hne => hfires (by rw [hbefore]; exact Ne.symm hne)⟩
  rw [State.island, hislands]
  exact hisland

/-- Step 4 done (R513). -/
theorem stepNap_leaves (target : Nat) : (stepNap s target).pwr = { s.pwr with depth := 2 } ∧
    ∀ i ∈ [9, 13, 30, 32, 34], ((stepNap s target).island i).off = true := by
  have heng (u : State) : ((List.range 18).foldl (fun s e =>
      if (s.eng e).st = .retired then s else
      let s2 := abortJobs s e
      s2.setEng e { Eng.reset with st := .off, rels := (s2.eng e).rels, placed := (s2.eng e).placed }) u).pwr = u.pwr := by
    refine List.foldlRecOn (motive := fun v : State => v.pwr = u.pwr) _ _ rfl fun v hv e _ => ?_
    dsimp only
    split
    · exact hv
    · exact ((abortJobs_same e (Nat.and_self _) (Same.refl _ v)).but.pwr (by decide)).trans hv
  have hdown (l : List Nat) (u : State) : (l.foldl islandDown u).pwr = u.pwr :=
    List.foldlRecOn (motive := fun v : State => v.pwr = u.pwr) _ _ rfl fun v hv e _ =>
      ((islandDown_same e (Nat.and_self _) (Same.refl _ v)).but.pwr (by decide)).trans hv
  have hdebug := (suspendDebug_same target (Nat.and_self _) (Same.refl _ s)).but.pwr (by decide)
  unfold stepNap
  generalize suspendDebug s target = u1 at *
  dsimp only
  have heng := heng u1
  dsimp only at heng
  generalize List.foldl _ u1 (List.range 18) = u2 at *
  have hpwr := hdown (engineIslands ++ [9, 32, 34]) u2
  have hoff (i : Nat) (hi : i ∈ engineIslands ++ [9, 32, 34]) := off_foldl_islandDown (s := u2) hi
  generalize (engineIslands ++ [9, 32, 34]).foldl islandDown u2 = u3 at *
  have hclk := pwr_foldl_islandClock (s := u3) [12, 31, 0, 1, 2, 3, 4, 5, 6, 7] false
  have hclkOff := off_foldl_islandClock (s := u3) [12, 31, 0, 1, 2, 3, 4, 5, 6, 7] false
  generalize [12, 31, 0, 1, 2, 3, 4, 5, 6, 7].foldl (fun s i => islandClock s i false) u3 = u4 at *
  have hpwr4 : u4.pwr = s.pwr := by rw [hclk, hpwr, heng, hdebug]
  have hoff4 {i : Nat} (hi : i ∈ engineIslands ++ [9, 32, 34]) : (u4.island i).off = true := by rw [hclkOff, hoff i hi]
  have hend (u5 : State) (hp : u5.pwr = u4.pwr) (hi : u5.islands = u4.islands) :
      (setLevel { u5 with pwr := { u5.pwr with depth := 2 } } 3).pwr = { s.pwr with depth := 2 } ∧
        ∀ i ∈ [9, 13, 30, 32, 34], ((setLevel { u5 with pwr := { u5.pwr with depth := 2 } } 3).island i).off = true := by
    refine ⟨?_, fun i him => ?_⟩
    · rw [setLevel, wf_pwr, hp, hpwr4]
    · rw [State.island, setLevel, wf_islands]
      dsimp only
      rw [hi]
      exact hoff4 ((by decide : ∀ i ∈ [9, 13, 30, 32, 34], i ∈ engineIslands ++ [9, 32, 34]) i him)
  split
  · exact hend _ rfl rfl
  · exact hend _ rfl rfl

theorem completes_powerEntryStep_four {r : PwrReq} (hr : s.pwr.req = some r) (hstep : s.pwr.step = 4) (hlast : s.pwr.last = 4)
    (htarget : r.target = 3) (hhot : r.hot = false) (hw : s.pwr.wake = none) (hq : s.pwr.queue = none) :
    Completes .powerEntryStep s fun t =>
      t.pwrState = 3 ∧ t.pwrLevel = 3 ∧ t.pwr.depth = 2 ∧ t.pwrMoving = false ∧ t.pwr.wakeTo = (if r.back then r.from_ else 2) ∧
      ∀ i ∈ [9, 13, 30, 32, 34], (t.island i).off = true := by
  have hentry := entryStep_four (r := r) hstep
  obtain ⟨hpwr, hisland⟩ := stepNap_leaves (s := s) r.target
  generalize stepNap s r.target = z at *
  obtain ⟨hp, hstate, hlevel, hmoving, -, -, hislands⟩ := settled_entryDone (s := z) (r := r) (k := 4) (by rw [hpwr]; exact hlast.symm) hhot
    (by rw [hpwr]; exact hw) (by rw [hpwr]; exact hq) (by rw [htarget]; decide)
  rw [htarget] at hstate hlevel
  refine ⟨entryDone 4 z r, (exec_powerEntryStep_of_req hr).trans (congrArg Host.Outcome.next hentry), hstate, hlevel, by rw [hp, hpwr]; rfl, hmoving,
    by rw [hp]; rfl, fun i hi => ?_⟩
  rw [State.island, hislands]
  exact hisland i hi

/-! ## The exit from NAP (R519, R521) -/

theorem reportRejected_pwr : ∃ l, (reportRejected s).pwr = { s.pwr with rejected := l } := by
  unfold reportRejected
  split
  · exact ⟨[], raise_pwr ..⟩
  · exact ⟨s.pwr.rejected, rfl⟩

theorem linkWakes_pwr : (linkWakes s).pwr = { s.pwr with linkIdle := false } := by
  have h : ([0, 1, 2, 3].foldl synWakes s).pwr = s.pwr :=
    List.foldlRecOn (motive := fun v : State => v.pwr = s.pwr) _ _ rfl fun v hv n _ =>
      ((synWakes_same n (Nat.and_self _) (Same.refl _ v)).but.pwr (by decide)).trans hv
  unfold linkWakes
  dsimp only
  rw [h]

/-- The device back at DOZE, waiting for lock (R521). -/
def dozing (s : State) (count : Nat) : State :=
  { s with nv := { s.nv with wrxCount := count }, pwr := { s.pwr with depth := 1, lockSince := some s.clk.elapsed, accepted := s.now } }

theorem completes_powerExit {w : Nat} (hexit : s.pwr.exit = some w) (hidle : s.pwr.linkIdle = true) (hlevel : s.pwrLevel = 3) :
    Completes .powerExit s fun t =>
      t.pwrLevel = 2 ∧ t.pwr.depth = 1 ∧ t.pwr.linkIdle = false ∧ t.diong.sessions = [] ∧ t.pwr.exit = some w ∧
      t.pwr.lockSince = some t.clk.elapsed ∧ ∀ i ∈ [9, 12, 30, 31, 32, 34], (t.island i).off = false := by
  have hexec : exec .powerExit s = .next (napExit s) := if_pos ⟨by rw [hexit]; rfl, hidle, by omega⟩
  refine ⟨napExit s, hexec, ?_⟩
  clear hexec
  unfold napExit
  rw [if_pos hlevel]
  dsimp only
  have hup : ((engineIslands ++ [9, 32, 34, 12, 31, 0, 1, 2, 3, 4, 5, 6, 7]).foldl islandUp s).pwr = s.pwr :=
    List.foldlRecOn (motive := fun v : State => v.pwr = s.pwr) _ _ rfl fun v hv n _ =>
      ((islandUp_same n (Nat.and_self _) (Same.refl _ v)).but.pwr (by decide)).trans hv
  have hon : ∀ i ∈ [9, 12, 30, 31, 32, 34], (((engineIslands ++ [9, 32, 34, 12, 31, 0, 1, 2, 3, 4, 5, 6, 7]).foldl islandUp s).island i).off = false :=
    fun i hi => off_foldl_islandUp
      ((by decide : ∀ i ∈ [9, 12, 30, 31, 32, 34], i ∈ engineIslands ++ [9, 32, 34, 12, 31, 0, 1, 2, 3, 4, 5, 6, 7]) i hi)
  generalize (engineIslands ++ [9, 32, 34, 12, 31, 0, 1, 2, 3, 4, 5, 6, 7]).foldl islandUp s = u1 at *
  have hlink := linkWakes_pwr (s := u1)
  have hlinkOn := (linkWakes_same (Nat.and_self _) (Same.refl _ u1)).but.islands (by decide)
  generalize linkWakes u1 = u2 at *
  have hpool := (loadPool_same (Nat.and_self _) (Same.refl _ u2)).but
  have hpoolPwr := hpool.pwr (by decide)
  have hpoolIsl := hpool.islands (by decide)
  clear hpool
  generalize loadPool u2 = u3 at *
  have hclk := pwr_foldl_islandClock (s := u3) engineIslands false
  have hclkOff := off_foldl_islandClock (s := u3) engineIslands false
  generalize engineIslands.foldl (fun s i => islandClock s i false) u3 = u4 at *
  have hclose := (closeSessions_same (fun _ => true) (Nat.and_self _) (Same.refl _ u4)).but
  have hclosePwr := hclose.pwr (by decide)
  have hcloseIsl := hclose.islands (by decide)
  have hsessions : (closeSessions u4 (fun _ => true)).diong.sessions = [] := by
    rw [(closeSessions_leaves _).1]
    simp
  clear hclose
  rw [closeAll]
  generalize closeSessions u4 (fun _ => true) = u5 at *
  obtain ⟨l, hl⟩ := reportRejected_pwr (s := u5)
  have hrej := (reportRejected_same (Nat.and_self _) (Same.refl _ u5)).but
  have hrejIsl := hrej.islands (by decide)
  have hrejDiong := hrej.diong (by decide)
  clear hrej
  generalize reportRejected u5 = u6 at *
  have hexit6 : u6.pwr.exit = some w := by rw [hl, hclosePwr, hclk, hpoolPwr, hlink, hup]; exact hexit
  have hidle6 : u6.pwr.linkIdle = false := by rw [hl, hclosePwr, hclk, hpoolPwr, hlink]
  have hon6 : ∀ i ∈ [9, 12, 30, 31, 32, 34], (u6.island i).off = false := fun i hi => by
    rw [State.island, hrejIsl, hcloseIsl, ← State.island, hclkOff, State.island, hpoolIsl, hlinkOn]
    exact hon i hi
  have hend (u7 : State) (hp : u7.pwr = u6.pwr) (hi : u7.islands = u6.islands) (hd : u7.diong = u6.diong) (c : Nat) :
      ∀ t, t = setLevel (dozing u7 c) 2 → t.pwrLevel = 2 ∧ t.pwr.depth = 1 ∧ t.pwr.linkIdle = false ∧ t.diong.sessions = [] ∧ t.pwr.exit = some w ∧
      t.pwr.lockSince = some t.clk.elapsed ∧ ∀ i ∈ [9, 12, 30, 31, 32, 34], (t.island i).off = false := by
    rintro t rfl
    refine ⟨pwrLevel_setLevel 2, ?_, ?_, ?_, ?_, ?_, fun i him => ?_⟩
    · rw [setLevel, wf_pwr, dozing]
    · rw [setLevel, wf_pwr]
      exact (congrArg Pwr.linkIdle hp).trans hidle6
    · rw [setLevel, wf_diong]
      exact (congrArg Diong.sessions (hd.trans hrejDiong)).trans hsessions
    · rw [setLevel, wf_pwr]
      exact (congrArg Pwr.exit hp).trans hexit6
    · rw [setLevel, wf_pwr, wf_clk, dozing]
    · rw [State.island, setLevel, wf_islands, dozing]
      dsimp only
      rw [hi]
      exact hon6 i him
  split
  · exact hend { u6 with svc := { u6.svc with probPaused := false, probAt := u6.clk.elapsed } } rfl rfl rfl _ _ rfl
  · exact hend u6 rfl rfl rfl _ _ rfl

/-! ## The warm start (R520) -/

theorem spGet_filter {α : Type} (d : α) (p : Nat → Bool) {k : Nat} (hk : p k = true) (m : Sparse α) :
    spGet d (m.filter (fun x => p x.1)) k = spGet d m k := by
  induction m with
  | nil => rfl
  | cons e m ih =>
    obtain ⟨k', v⟩ := e
    by_cases he : k' = k
    · subst he
      simp [hk, spGet]
    · cases hp : p k' <;> simp [hp, spGet, he, ih]

/-- The device as a warm start takes it up, before its security registers are set (R520). -/
def warmed (s : State) (w : Nat) : State :=
  let d := discard s
  { d with
    fe := (List.range 64).foldl (fun m p => spPut PathFe.reset m p (safePins (spGet 0 s.nv.safe p))) [],
    regs := oasisRegs s, straps := s.straps, clk := ⟨s.clk.elapsed, s.clk.count, []⟩, pwr := { s.pwr with exit := some w },
    adm := { d.adm with epoch := s.adm.epoch },
    boot := { s.boot with startAt := s.clk.elapsed, warmTo := some w, loader := false, go := false, done2 := false, images := [] } }

theorem warmed_leaves (w : Nat) : (warmed s w).boot.warmTo = some w ∧ (warmed s w).straps = s.straps ∧ (warmed s w).nv = s.nv ∧
    (warmed s w).adm.epoch = s.adm.epoch ∧ (warmed s w).diong.sessions = [] ∧ rd (warmed s w) .aonLastwake [] = rd s .aonLastwake [] := by
  have hnv : (discard s).nv = s.nv := discard_nv
  have hsessions := discard_sessions (s := s)
  unfold warmed
  generalize discard s = u at *
  refine ⟨rfl, rfl, hnv, rfl, hsessions, ?_⟩
  unfold rd oasisRegs State.tenants
  dsimp only
  rw [spGet_filter _ (fun k => decide (0x1900000000 ≤ k ∧ k ≤ 0x1900FFFFFF)) (by decide)]

theorem warmStart_eq (w : Nat) : warmStart s w =
    setCode (wbit (setPhase (wf (secureRegs (warmed s w)) .dbgStat [] 5 3 (rf s .dbgStat [] 5 3)) 2) .pwrBoot [] 8 true) 0 := rfl

theorem completes_warmStart {w : Nat} (hexit : s.pwr.exit = some w) (hlevel : 4 ≤ s.pwrLevel) (hwarm : s.boot.warmTo = none) :
    Completes .warmStart s fun t =>
      t.boot.warmTo = some w ∧ t.bootPhase = 2 ∧ rbit t .pwrBoot [] 8 = true ∧ t.straps = s.straps ∧ t.nv = s.nv ∧
      t.adm.epoch = s.adm.epoch ∧ t.diong.sessions = [] ∧ rd t .aonLastwake [] = rd s .aonLastwake [] := by
  refine ⟨warmStart s w, ?_, ?_⟩
  · show execWarmStart s = _
    rw [execWarmStart, hexit]
    exact if_pos ⟨hlevel, by rw [hwarm]; rfl⟩
  rw [warmStart_eq]
  obtain ⟨hboot, hstraps, hnv, hepoch, hsessions, hwake⟩ := warmed_leaves (s := s) w
  generalize warmed s w = u at *
  have hsec := (secureRegs_same (Nat.and_self _) (Same.refl _ u)).but
  have hu : SameBut [] [.dbgStat, .secKeystat, .secLc, .secRootstat, .pwrBoot] u
      (setPhase (wf (secureRegs u) .dbgStat [] 5 3 (rf s .dbgStat [] 5 3)) 2) :=
    (setPhase_same 2 (by decide) (wf_same .dbgStat [] 5 3 _ (by decide) (secureRegs_same (by decide) (Same.refl _ u)))).but
  have hphase : (setPhase (wf (secureRegs u) .dbgStat [] 5 3 (rf s .dbgStat [] 5 3)) 2).bootPhase = 2 := rf_wf _ _ _ _ _ _ (by decide) (by decide)
  generalize setPhase (wf (secureRegs u) .dbgStat [] 5 3 (rf s .dbgStat [] 5 3)) 2 = v at *
  refine ⟨?_, ?_, ?_, ?_, ?_, ?_, ?_, ?_⟩
  · rw [setCode, wf_boot, wbit_boot, hu.boot (by decide), hboot]
  · rw [State.bootPhase, setCode, rf_wf_apart _ _ _ _ _ _ _ _ (by decide) (by decide) (by decide) (by decide), wbit,
      rf_wf_apart _ _ _ _ _ _ _ _ (by decide) (by decide) (by decide) (by decide)]
    exact hphase
  · rw [setCode, rbit_eq_of_rf (v := wbit v .pwrBoot [] 8 true)
      (rf_wf_apart _ _ _ _ _ _ _ _ (by decide) (by decide) (by decide) (by decide)), rbit_wbit _ _ _ _ _ (by decide)]
  · rw [setCode, wf_straps, wbit_straps, hu.straps (by decide), hstraps]
  · rw [setCode, wf_nv, wbit_nv, hu.nv (by decide), hnv]
  · rw [setCode, wf_adm, wbit_adm, hu.adm (by decide), hepoch]
  · rw [setCode, wf_diong, wbit_diong, hu.diong (by decide), hsessions]
  · rw [setCode, rd_wf_other _ _ _ _ _ _ _ _ (by decide), rd_wbit_other _ _ _ _ _ _ _ (by decide),
      hu.rd_eq_apart (by decide) (by decide) (by decide), hwake]

/-! ## The end of an exit and the change of RUN and SLOTGATE (R511, R521) -/

theorem toDepth0_leaves (w : Nat) : (toDepth0 s w).pwr = { s.pwr with depth := 0 } ∧ ((toDepth0 s w).island 8).off = false := by
  have hup := (islandUp_same 8 (Nat.and_self _) (Same.refl _ s)).but.pwr (by decide)
  have hon : ((islandUp s 8).island 8).off = false := by
    rw [islandUp, islandSet_island, if_pos rfl]
    rfl
  unfold toDepth0
  generalize islandUp s 8 = u1 at *
  have hclk := pwr_foldl_islandClock (s := u1) engineIslands true
  have hclkOff := off_foldl_islandClock (s := u1) engineIslands true 8
  generalize engineIslands.foldl (fun s i => islandClock s i true) u1 = u2 at *
  dsimp only
  obtain ⟨u3, hu3⟩ : ∃ u3, setLevel { u2 with pwr := { u2.pwr with depth := 0 } } w = u3 := ⟨_, rfl⟩
  have hpwr3 : u3.pwr = { s.pwr with depth := 0 } := by rw [← hu3, setLevel, wf_pwr, hclk, hup]
  have hon3 : (u3.island 8).off = false := by
    rw [← hu3, State.island, setLevel, wf_islands]
    exact hclkOff.trans hon
  rw [hu3]
  have hpaths (l : List Nat) (v : State) : (l.foldl enterPathState v).pwr = v.pwr ∧ (l.foldl enterPathState v).islands = v.islands :=
    List.foldlRecOn (motive := fun z : State => z.pwr = v.pwr ∧ z.islands = v.islands) _ _ ⟨rfl, rfl⟩ fun z hz p _ =>
      have h := (enterPathState_same p (Nat.and_self _) (Same.refl _ z)).but
      ⟨(h.pwr (by decide)).trans hz.1, (h.islands (by decide)).trans hz.2⟩
  obtain ⟨hp4, hi4⟩ := hpaths (List.range 64) u3
  generalize (List.range 64).foldl enterPathState u3 = u4 at *
  have heng (l : List Nat) (v : State) : (l.foldl (fun s e => if (s.eng e).st = .idle then startNext s e else s) v).pwr = v.pwr ∧
      (l.foldl (fun s e => if (s.eng e).st = .idle then startNext s e else s) v).islands = v.islands := by
    refine List.foldlRecOn (motive := fun z : State => z.pwr = v.pwr ∧ z.islands = v.islands) _ _ ⟨rfl, rfl⟩ fun z hz e _ => ?_
    have h := (startNext_same e (Nat.and_self _) (Same.refl _ z)).but
    split
    · exact ⟨(h.pwr (by decide)).trans hz.1, (h.islands (by decide)).trans hz.2⟩
    · exact hz
  obtain ⟨hp5, hi5⟩ := heng (List.range 18) u4
  generalize (List.range 18).foldl (fun s e => if (s.eng e).st = .idle then startNext s e else s) u4 = u5 at *
  have hdrain := (drainRise_same (Nat.and_self _) (Same.refl _ u5)).but
  refine ⟨by rw [hdrain.pwr (by decide), hp5, hp4, hpwr3], ?_⟩
  rw [State.island, hdrain.islands (by decide), hi5, hi4]
  exact hon3

/-- A device that has booted through a warm start goes on to its last phase. -/
def phaseDone (s : State) : State := if s.bootPhase = 6 then setPhase s 7 else s

theorem phaseDone_leaves : SameBut [] [.pwrBoot] s (phaseDone s) :=
  (same_ite (setPhase_same 7 (Nat.and_self _) (Same.refl _ s)) (Same.refl _ s)).but

theorem wakeTransition_of_ready {w : Nat} (hw : w < 2) (hlock : s.pwr.lockSince = none) :
    wakeTransition s w =
      settle (toDepth0 (reachCount (if rf s .pwrReqStat [] 3 0 = 2 then reqStatus s 3 else s)
        (nextFrame (if rf s .pwrReqStat [] 3 0 = 2 then reqStatus s 3 else s).frameOfs
          ((if rf s .pwrReqStat [] 3 0 = 2 then reqStatus s 3 else s).pwr.accepted + 49152))) w) w := by
  unfold wakeTransition
  generalize settle = f1
  generalize toDepth0 = f2
  rw [hlock]
  dsimp only
  rw [if_neg (by omega)]
  rfl

theorem completes_wakeToTransition {w : Nat} (hexit : s.pwr.exit = some w) (hw : w < 2) (hlevel : s.pwrLevel = 2) (hidle : s.pwr.linkIdle = false)
    (hwarm : s.boot.warmTo = none) (hlock : s.pwr.lockSince = none) (hwake : s.pwr.wake = none) (hqueue : s.pwr.queue = none) :
    Completes .wakeToTransition s fun t =>
      t.pwrState = w ∧ t.pwrLevel = w ∧ t.pwr.depth = 0 ∧ t.pwr.exit = none ∧ t.pwrMoving = false ∧ (t.island 8).off = false ∧
      t.clk.count = max s.now (nextFrame s.frameOfs (s.pwr.accepted + 49152)) := by
  have hexec : exec .wakeToTransition s = .next (phaseDone (wakeTransition s w)) := by
    show execWakeToTransition s = _
    unfold execWakeToTransition phaseDone
    generalize wakeTransition = f
    rw [hexit]
    exact if_pos ⟨hlevel, by rw [hidle]; decide, by rw [hwarm]; rfl⟩
  refine ⟨_, hexec, ?_⟩
  have hdone := phaseDone_leaves (s := wakeTransition s w)
  rw [wakeTransition_of_ready hw hlock] at hdone ⊢
  have hstat : SameBut [] [.pwrReqStat] s (if rf s .pwrReqStat [] 3 0 = 2 then reqStatus s 3 else s) :=
    (same_ite (reqStatus_same 3 (Nat.and_self _) (Same.refl _ s)) (Same.refl _ s)).but
  generalize (if rf s .pwrReqStat [] 3 0 = 2 then reqStatus s 3 else s) = u at *
  have hofs : u.frameOfs = s.frameOfs := hstat.rd_eq_apart (by decide) (by decide) (by decide)
  have hpwr := hstat.pwr (by decide)
  have hclk := hstat.clk (by decide)
  rw [hofs, hpwr] at hdone ⊢
  have hcount := reachCount_count (s := u) (nextFrame s.frameOfs (s.pwr.accepted + 49152))
  have hpwr2 := reachCount_pwr (s := u) (nextFrame s.frameOfs (s.pwr.accepted + 49152))
  generalize reachCount u (nextFrame s.frameOfs (s.pwr.accepted + 49152)) = v at *
  obtain ⟨hp, hon⟩ := toDepth0_leaves (s := v) w
  have hclk3 := (toDepth0_same w (Nat.and_self _) (Same.refl _ v)).but.clk (by decide)
  generalize toDepth0 v w = z at *
  have hset := settled_settle (s := z) (new := w) (by rw [hp, hpwr2, hpwr]; exact hwake) (by rw [hp, hpwr2, hpwr]; exact hqueue) (by omega)
  generalize settle z w = y at *
  have hreg : rd (phaseDone y) .pwrStat [] = rd y .pwrStat [] := hdone.rd_eq_apart (by decide) (by decide) (by decide)
  refine ⟨?_, ?_, ?_, ?_, ?_, ?_, ?_⟩
  · rw [State.pwrState, rf, hreg]
    exact hset.state
  · rw [State.pwrLevel, rf, hreg]
    exact hset.level
  · rw [hdone.pwr (by decide), hset.pwr, hp]
    rfl
  · rw [hdone.pwr (by decide), hset.pwr]
    rfl
  · rw [State.pwrMoving, rbit, hreg]
    exact hset.moving
  · rw [State.island, hdone.islands (by decide), hset.islands]
    exact hon
  · rw [hdone.clk (by decide), hset.clk, hclk3, hcount, hclk, State.now]

/-! ## Gating (R509 to R511) -/

theorem spGet_spErase_same {α : Type} [DecidableEq α] (d : α) (m : Sparse α) (k : Nat) : spGet d (spErase m k) k = d := by
  have h := spGet_spPut_same d m k d
  rwa [spPut, if_pos rfl] at h

theorem gateOn_leaves (p : Nat) (rx : Bool) : (∃ g, (gateOn s p rx).pwr = { s.pwr with gated := g }) ∧
    spGet 0 (gateOn s p rx).pwr.gated (2 * p + b2n rx) = 0 ∧ (gateOn s p rx).clk = s.clk := by
  refine and_assoc.1 ⟨?_, (gateOn_same p rx (Nat.and_self _) (Same.refl _ s)).but.clk (by decide)⟩
  have herased (u : State) (hu : u.pwr = { s.pwr with gated := spErase s.pwr.gated (2 * p + b2n rx) }) :
      (∃ g, u.pwr = { s.pwr with gated := g }) ∧ spGet 0 u.pwr.gated (2 * p + b2n rx) = 0 := by
    refine ⟨⟨_, hu⟩, ?_⟩
    rw [hu]
    exact spGet_spErase_same 0 s.pwr.gated _
  unfold gateOn
  dsimp only
  split
  next h => exact ⟨⟨s.pwr.gated, rfl⟩, h⟩
  next =>
    obtain ⟨u, hu⟩ : ∃ u, { s with pwr := { s.pwr with gated := spErase s.pwr.gated (2 * p + b2n rx) } } = u := ⟨_, rfl⟩
    have hpwr : u.pwr = { s.pwr with gated := spErase s.pwr.gated (2 * p + b2n rx) } := by rw [← hu]
    rw [hu]
    split
    · exact herased _ (((clockPath_same p (Nat.and_self _) (Same.refl _ u)).but.pwr (by decide)).trans hpwr)
    · exact herased _ hpwr

theorem gateOn_all : (∃ g, ((List.range 64).foldl (fun s p => gateOn (gateOn s p false) p true) s).pwr = { s.pwr with gated := g }) ∧
    ((List.range 64).foldl (fun s p => gateOn (gateOn s p false) p true) s).clk = s.clk := by
  refine List.foldlRecOn (motive := fun u : State => (∃ g, u.pwr = { s.pwr with gated := g }) ∧ u.clk = s.clk) _ _ ⟨⟨s.pwr.gated, rfl⟩, rfl⟩
    fun u hu p _ => ?_
  obtain ⟨⟨g, hg⟩, hclk⟩ := hu
  obtain ⟨⟨g1, h1⟩, -, hclk1⟩ := gateOn_leaves (s := u) p false
  obtain ⟨⟨g2, h2⟩, -, hclk2⟩ := gateOn_leaves (s := gateOn u p false) p true
  exact ⟨⟨g2, by rw [h2, h1, hg]⟩, by rw [hclk2, hclk1, hclk]⟩

theorem completes_slotgateChange {w : Nat} (hsw : s.pwr.switch = some w) (hw : w < 2) (hwake : s.pwr.wake = none) (hqueue : s.pwr.queue = none) :
    Completes .slotgateChange s fun t =>
      t.pwrState = w ∧ t.pwr.switch = none ∧ rf t .pwrReqStat [] 3 0 = 3 ∧
      t.clk.count = max s.now (nextFrame s.frameOfs (s.pwr.accepted + 49152)) := by
  have hexec : exec .slotgateChange s = .next (settle (reqStatus (if w = 0 then (List.range 64).foldl (fun s p => gateOn (gateOn s p false) p true)
      (reachCount s (nextFrame s.frameOfs (s.pwr.accepted + 49152))) else reachCount s (nextFrame s.frameOfs (s.pwr.accepted + 49152))) 3) w) := by
    show execSlotgateChange s = _
    unfold execSlotgateChange
    generalize settle = f
    rw [hsw]
  have hcount := reachCount_count (s := s) (nextFrame s.frameOfs (s.pwr.accepted + 49152))
  have hpwr := reachCount_pwr (s := s) (nextFrame s.frameOfs (s.pwr.accepted + 49152))
  generalize reachCount s (nextFrame s.frameOfs (s.pwr.accepted + 49152)) = u at *
  have hgates : (∃ g, (if w = 0 then (List.range 64).foldl (fun s p => gateOn (gateOn s p false) p true) u else u).pwr = { u.pwr with gated := g }) ∧
      (if w = 0 then (List.range 64).foldl (fun s p => gateOn (gateOn s p false) p true) u else u).clk = u.clk := by
    split
    · exact gateOn_all
    · exact ⟨⟨u.pwr.gated, rfl⟩, rfl⟩
  generalize (if w = 0 then (List.range 64).foldl (fun s p => gateOn (gateOn s p false) p true) u else u) = v at *
  obtain ⟨⟨g, hg⟩, hclk⟩ := hgates
  have hset := settled_settle (s := reqStatus v 3) (new := w) (by rw [reqStatus, wf_pwr, hg, hpwr]; exact hwake)
    (by rw [reqStatus, wf_pwr, hg, hpwr]; exact hqueue) (by omega)
  refine ⟨_, hexec, hset.state, by rw [hset.pwr]; rfl, ?_, ?_⟩
  · rw [rf, hset.reqStat, ← rf, status_reqStatus]
  · rw [hset.clk, reqStatus, wf_clk, hclk, hcount, State.now]

theorem completes_sectionGateOff {p a b : Nat} {rx : Bool} (hp : p < 64) (hstate : s.pwrState = 1) (hdepth : s.pwr.depth = 0)
    (hruns : s.tlRuns = true) (hgated : spGet 0 s.pwr.gated (2 * p + b2n rx) = 0)
    (hspan : (idleSpans s p rx).find? (fun x => s.now < x.2 - 2048) = some (a, b)) :
    Completes (.sectionGateOff p rx) s fun t =>
      spGet 0 t.pwr.gated (2 * p + b2n rx) = t.clk.elapsed + 1 ∧ t.clk.count = max s.now (a + 256) := by
  have hcount := reachCount_count (s := s) (a + 256)
  obtain ⟨u, hu⟩ : ∃ u, reachCount s (a + 256) = u := ⟨_, rfl⟩
  obtain ⟨v, hv⟩ : ∃ v, { u with pwr := { u.pwr with gated := spPut 0 u.pwr.gated (2 * p + b2n rx) (u.clk.elapsed + 1) } } = v := ⟨_, rfl⟩
  have hget : spGet 0 v.pwr.gated (2 * p + b2n rx) = v.clk.elapsed + 1 := by
    rw [← hv]
    exact spGet_spPut_same 0 u.pwr.gated (2 * p + b2n rx) (u.clk.elapsed + 1)
  have hclk : v.clk.count = max s.now (a + 256) := by
    rw [← hv, ← hu]
    exact hcount
  refine ⟨if rx then clockPath v p else v, ?_, ?_⟩
  · show execSectionGateOff p rx s = _
    rw [execSectionGateOff, if_pos ⟨hp, hstate, hdepth, hruns, hgated⟩, hspan, ← hv, ← hu]
  · split
    · have h := (clockPath_same p (Nat.and_self _) (Same.refl _ v)).but
      rw [h.pwr (by decide), h.clk (by decide)]
      exact ⟨hget, hclk⟩
    · exact ⟨hget, hclk⟩

theorem completes_sectionGateOn {p a b : Nat} {rx : Bool} (hp : p < 64) (hgated : spGet 0 s.pwr.gated (2 * p + b2n rx) ≠ 0)
    (hspan : (idleSpans s p rx).find? (fun x => s.now ≤ x.2) = some (a, b)) :
    Completes (.sectionGateOn p rx) s fun t =>
      spGet 0 t.pwr.gated (2 * p + b2n rx) = 0 ∧ t.clk.count = max s.now (b - 2048) := by
  have hcount := reachCount_count (s := s) (b - 2048)
  refine ⟨gateOn (reachCount s (b - 2048)) p rx, ?_, ?_⟩
  · show execSectionGateOn p rx s = _
    rw [execSectionGateOn, if_pos ⟨hp, hgated⟩, hspan]
  · generalize reachCount s (b - 2048) = u at *
    obtain ⟨-, hget, hclk⟩ := gateOn_leaves (s := u) p rx
    exact ⟨hget, by rw [hclk, hcount, State.now]⟩

/-- Settles O48: the sequencer's fields of PWR_STAT and PWR_REQ_STAT, its islands and its clock after each of its commands. -/
theorem powerCommandsComplete : Obligations.PowerCommandsComplete :=
  ⟨fun _ _ _ _ => completes_powerRequest_down, fun _ _ _ _ => completes_powerRequest_here, fun _ _ _ => completes_powerRequest_refused,
    fun _ _ => completes_powerEntryStep_one, fun _ _ => completes_powerEntryStep_two, fun _ _ => completes_powerEntryStep_four,
    fun _ _ => completes_powerExit, fun _ _ => completes_warmStart, fun _ _ => completes_wakeToTransition, fun _ _ => completes_slotgateChange,
    fun _ _ _ _ _ => completes_sectionGateOff, fun _ _ _ _ _ => completes_sectionGateOn⟩

end Sys2Proof.Machine
end

section
/-!
The wake sources and the wake receiver (R523 to R534): the settlement of O49.
-/

namespace Sys2Proof.Machine

set_option Elab.async false

variable {s t : State} {src : Nat}

/-! ## A wake taken (R519, R523, R529) -/

/-- A wake counted and recorded. -/
def wakeRecorded (s : State) (src : Nat) : State :=
  countWake (recordWake { s with pwr := { s.pwr with wakeCycle := s.rtcCycle + 1, wakeSrc := src } } src s.pwrState false) src

theorem wakeFires_of_settled (h : WakeSettled s src) : wakeFires s src = exitTo (wakeRecorded s src) s.pwr.wakeTo := by
  obtain ⟨hreq, hexit, hstate, henabled, havail⟩ := h
  unfold wakeFires wakeRecorded
  generalize abandon = f
  rw [if_neg (by simp [henabled])]
  dsimp only
  rw [hreq]
  dsimp only
  rw [hexit, if_neg (by decide), if_neg (by omega), if_pos havail]

/-- A register that a wake neither records, counts nor shows. -/
abbrev NoWake (id : RegId) : Prop := ∀ r ∈ [RegId.aonLastwake, .aonWcnt, .pwrStat],
  (regRow r).addr + regSpan r < (regRow id).addr ∨ (regRow id).addr + regSpan id < (regRow r).addr

/-- What a wake taken leaves. -/
structure WakeLeaves (s t : State) (src : Nat) : Prop where
  taken : WakeTaken s t src
  clk : t.clk = s.clk
  dbgCount : t.pwr.dbgCount = s.pwr.dbgCount
  regs : ∀ id ix, NoWake id → rd t id ix = rd s id ix

theorem bits_lastWake {src from_ rtc : Nat} (hsrc : src < 16) (hfrom : from_ < 8) :
    bitsOf ((src + from_ * 16 + b2n false * 128 + rtc * 256) % 2 ^ 64) 3 0 = src ∧
      bitsOf ((src + from_ * 16 + b2n false * 128 + rtc * 256) % 2 ^ 64) 6 4 = from_ ∧
      bitOf ((src + from_ * 16 + b2n false * 128 + rtc * 256) % 2 ^ 64) 7 = false := by
  refine ⟨?_, ?_, ?_⟩
  · rw [bitsOf_mod_two_pow _ (by decide) (by decide)]
    simp only [bitsOf, b2n]
    omega
  · rw [bitsOf_mod_two_pow _ (by decide) (by decide)]
    simp only [bitsOf, b2n]
    omega
  · have h : bitsOf (src + from_ * 16 + b2n false * 128 + rtc * 256) 7 7 = 0 := by
      simp only [bitsOf, b2n, Bool.false_eq_true, if_false]
      omega
    rw [bitOf_mod (by decide)]
    rw [bitsOf_bit] at h
    exact Bool.eq_false_iff.2 fun ht => by rw [ht] at h; exact absurd h (by decide)

/-- What the record and the count of a wake leave (R529). -/
theorem wakeRecorded_leaves : (wakeRecorded s src).pwr = { s.pwr with wakeCycle := s.rtcCycle + 1, wakeSrc := src } ∧
    (wakeRecorded s src).clk = s.clk ∧
    rd (wakeRecorded s src) .aonLastwake [] = (src + s.pwrState * 16 + b2n false * 128 + s.rtc * 256) % 2 ^ 64 ∧
    rd (wakeRecorded s src) .aonWcnt [src] = min 0xFFFFFFFF (rd s .aonWcnt [src] + 1) ∧
    rd (wakeRecorded s src) .pwrStat [] = rd s .pwrStat [] ∧ ∀ id ix, NoWake id → rd (wakeRecorded s src) id ix = rd s id ix := by
  obtain ⟨u, hu⟩ : ∃ u, { s with pwr := { s.pwr with wakeCycle := s.rtcCycle + 1, wakeSrc := src } } = u := ⟨_, rfl⟩
  have hrdu (id : RegId) (ix : List Nat) : rd u id ix = rd s id ix := by
    rw [← hu]
    exact rd_eq_of_regs rfl rfl id ix
  have hclku : u.clk = s.clk := by rw [← hu]
  have hbootu : u.boot = s.boot := by rw [← hu]
  have hrtc : u.rtc = s.rtc := by rw [State.rtc, State.rtc, hclku, hbootu]
  have hpwru : u.pwr = { s.pwr with wakeCycle := s.rtcCycle + 1, wakeSrc := src } := by rw [← hu]
  unfold wakeRecorded
  rw [hu]
  refine ⟨?_, ?_, ?_, ?_, ?_, fun id ix hid => ?_⟩
  · rw [countWake, bump_pwr, recordWake, wr_pwr, hpwru]
  · rw [countWake, bump_clk, recordWake, wr_clk, hclku]
  · rw [countWake, bump, rd_wr_other _ _ _ _ _ _ (regAddr_ne _ _ (by decide)), recordWake, rd_wr_same, hrtc]
    rfl
  · rw [countWake, rd_bump _ _ _ _ (by decide), recordWake, rd_wr_other _ _ _ _ _ _ (regAddr_ne _ _ (by decide)), hrdu]
  · rw [countWake, bump, rd_wr_other _ _ _ _ _ _ (regAddr_ne _ _ (by decide)), recordWake, rd_wr_other _ _ _ _ _ _ (regAddr_ne _ _ (by decide)), hrdu]
  · rw [countWake, bump, rd_wr_other _ _ _ _ _ _ (regAddr_ne _ _ ((hid .aonWcnt (by decide)).symm)), recordWake,
      rd_wr_other _ _ _ _ _ _ (regAddr_ne _ _ ((hid .aonLastwake (by decide)).symm)), hrdu]

/-- An exit begun, not yet shown (R519). -/
def exiting (s : State) (w : Nat) : State :=
  { s with pwr := { s.pwr with req := none, up := none, wake := none, step := 0, exit := some w, lockSince := none, accepted := s.now } }

theorem wakeFires_leaves (h : WakeSettled s src) (hsrc : src < 8) : WakeLeaves s (wakeFires s src) src := by
  have hstate : s.pwrState < 8 := by
    unfold State.pwrState rf bitsOf
    omega
  obtain ⟨hpwr, hclk, hlast, hcount, hstat, hregs⟩ := wakeRecorded_leaves (s := s) (src := src)
  obtain ⟨hsource, hfrom, habandoned⟩ := bits_lastWake (src := src) (from_ := s.pwrState) (rtc := s.rtc) (by omega) hstate
  rw [wakeFires_of_settled h]
  generalize wakeRecorded s src = v at *
  obtain ⟨z, hz⟩ : ∃ z, exiting v s.pwr.wakeTo = z := ⟨_, rfl⟩
  have hrdz (id : RegId) (ix : List Nat) : rd z id ix = rd v id ix := by
    rw [← hz]
    exact rd_eq_of_regs rfl rfl id ix
  rw [show exitTo v s.pwr.wakeTo = wbit (exiting v s.pwr.wakeTo) .pwrStat [] 3 true from rfl, hz]
  have hother (id : RegId) (ix : List Nat) (hid : (regRow id).addr + regSpan id < (regRow .pwrStat).addr ∨
      (regRow .pwrStat).addr + regSpan .pwrStat < (regRow id).addr) : rd (wbit z .pwrStat [] 3 true) id ix = rd v id ix :=
    (rd_wbit_other _ _ _ _ _ _ _ (regAddr_ne _ _ hid)).trans (hrdz id ix)
  refine ⟨⟨?_, ?_, ?_, ?_, ?_, ?_, ?_⟩, ?_, ?_, fun id ix hid => ?_⟩
  · rw [wbit_pwr, ← hz, exiting]
  · rw [State.pwrMoving, rbit_wbit _ _ _ _ _ (by decide)]
  · rw [State.pwrState, wbit, rf_wf_apart _ _ _ _ _ _ _ _ (by decide) (by decide) (by decide) (by decide), rf, hrdz, hstat]
    rfl
  · rw [rf, hother _ _ (by decide), hlast, hsource]
  · rw [rf, hother _ _ (by decide), hlast, hfrom]
  · rw [rbit, hother _ _ (by decide), hlast, habandoned]
  · rw [hother _ _ (by decide), hcount]
  · rw [wbit_clk, ← hz, exiting, hclk]
  · rw [wbit_pwr, ← hz, exiting]
    dsimp only
    rw [hpwr]
  · rw [hother _ _ ((hid .pwrStat (by decide)).symm), hregs id ix hid]

/-! ## The sources (R524 to R528) -/

/-- A state that keeps what a source is judged by. -/
theorem wakeSettled_of_same (hp : t.pwr.req = s.pwr.req ∧ t.pwr.exit = s.pwr.exit) (hstat : rd t .pwrStat [] = rd s .pwrStat [])
    (hen : rd t .aonWakeEn [] = rd s .aonWakeEn []) (h : WakeSettled s src) : WakeSettled t src := by
  obtain ⟨hreq, hexit, hstate, henabled, havail⟩ := h
  have hs : t.pwrState = s.pwrState := by rw [State.pwrState, rf, hstat]; rfl
  refine ⟨hp.1.trans hreq, hp.2.trans hexit, by rw [hs]; exact hstate, ?_, by rw [hs]; exact havail⟩
  rw [← henabled, wakeEnabled, rbit, hen]
  rfl

/-- A wake taken after some time, or after what a source does of its own. -/
theorem WakeLeaves.after {u : State} (h : WakeLeaves u t src) (hto : u.pwr.wakeTo = s.pwr.wakeTo) (hstat : rd u .pwrStat [] = rd s .pwrStat [])
    (hcount : rd u .aonWcnt [src] = rd s .aonWcnt [src]) : WakeTaken s t src := by
  obtain ⟨hexit, hmoving, hstate, hsource, hfrom, habandoned, hcnt⟩ := h.taken
  have hs : u.pwrState = s.pwrState := by rw [State.pwrState, rf, hstat]; rfl
  exact ⟨by rw [hexit, hto], hmoving, hstate.trans hs, hsource, hfrom.trans hs, habandoned, by rw [hcnt, hcount]⟩

theorem reachElapsed_pwr (n : Nat) : (reachElapsed s n).pwr = s.pwr := (reachElapsed_same n (Nat.and_self _) (Same.refl _ s)).but.pwr (by decide)

theorem rd_reachElapsed (n : Nat) (id : RegId) (ix : List Nat) : rd (reachElapsed s n) id ix = rd s id ix :=
  (reachElapsed_same n (Nat.and_self _) (Same.refl _ s)).but.rd_eq (by decide) (by decide) (fun _ h => absurd h List.not_mem_nil)

theorem wakeFires_later (h : WakeSettled s src) (hsrc : src < 8) (n : Nat) :
    WakeTaken s (wakeFires (reachElapsed s n) src) src ∧ (wakeFires (reachElapsed s n) src).clk.elapsed = max s.clk.elapsed n := by
  have hpwr := reachElapsed_pwr (s := s) n
  have hrd := rd_reachElapsed (s := s) n
  have helapsed := reachElapsed_elapsed (s := s) n
  generalize reachElapsed s n = u at *
  have hset := wakeFires_leaves (wakeSettled_of_same (t := u) (by rw [hpwr]; exact ⟨rfl, rfl⟩) (hrd ..) (hrd ..) h) hsrc
  exact ⟨hset.after (by rw [hpwr]) (hrd ..) (hrd ..), by rw [hset.clk, helapsed]⟩

theorem completes_wakePin {cycles : Nat} (hcycles : 3 ≤ cycles) (h : WakeSettled s 1) :
    Completes (.wakePin cycles) s fun t => WakeTaken s t 1 ∧ t.clk.elapsed = s.clk.elapsed + 3 * rtcTicks := by
  obtain ⟨htaken, helapsed⟩ := wakeFires_later h (by decide) (s.clk.elapsed + 3 * rtcTicks)
  exact ⟨_, if_pos hcycles, htaken, by rw [helapsed]; omega⟩

theorem completes_wakePin_short {cycles : Nat} (hcycles : cycles < 3) : Completes (.wakePin cycles) s fun t => t = s :=
  ⟨s, if_neg (by omega), rfl⟩

theorem completes_rtcAlarm (halarm : rbit s .aonAlarm [] 48 = true) (hrtc : s.boot.rtcFrom.isSome = true) (hle : s.rtc ≤ rf s .aonAlarm [] 47 0)
    (h : WakeSettled s 2) :
    Completes .rtcAlarm s fun t =>
      WakeTaken s t 2 ∧ rbit t .aonAlarm [] 48 = false ∧
      t.clk.elapsed = s.clk.elapsed + (rf s .aonAlarm [] 47 0 - s.rtc) * rtcTicks := by
  refine ⟨_, if_pos ⟨halarm, hrtc, hle⟩, ?_⟩
  have hpwr := reachElapsed_pwr (s := s) (s.clk.elapsed + (rf s .aonAlarm [] 47 0 - s.rtc) * rtcTicks)
  have hrd := rd_reachElapsed (s := s) (s.clk.elapsed + (rf s .aonAlarm [] 47 0 - s.rtc) * rtcTicks)
  have helapsed := reachElapsed_elapsed (s := s) (s.clk.elapsed + (rf s .aonAlarm [] 47 0 - s.rtc) * rtcTicks)
  generalize reachElapsed s (s.clk.elapsed + (rf s .aonAlarm [] 47 0 - s.rtc) * rtcTicks) = u at *
  have hoff := rbit_wbit u .aonAlarm [] 48 false (by decide)
  have hpwr' : (wbit u .aonAlarm [] 48 false).pwr = s.pwr := by rw [wbit_pwr, hpwr]
  have hclk' : (wbit u .aonAlarm [] 48 false).clk = u.clk := wbit_clk ..
  have hrd' (id : RegId) (ix : List Nat) (hid : (regRow id).addr + regSpan id < (regRow .aonAlarm).addr ∨
      (regRow .aonAlarm).addr + regSpan .aonAlarm < (regRow id).addr) : rd (wbit u .aonAlarm [] 48 false) id ix = rd s id ix :=
    (rd_wbit_other _ _ _ _ _ _ _ (regAddr_ne _ _ hid)).trans (hrd id ix)
  generalize wbit u .aonAlarm [] 48 false = v at *
  have hset := wakeFires_leaves (wakeSettled_of_same (t := v) (by rw [hpwr']; exact ⟨rfl, rfl⟩) (hrd' _ _ (by decide)) (hrd' _ _ (by decide)) h)
    (by decide)
  refine ⟨hset.after (by rw [hpwr']) (hrd' _ _ (by decide)) (hrd' _ _ (by decide)), ?_, ?_⟩
  · rw [← hoff, rbit, hset.regs _ _ (by decide)]
    rfl
  · rw [hset.clk, hclk', helapsed]
    omega

theorem completes_linkSignalDetect {lane n : Nat} (hlevel : s.pwrLevel = 3) (hn : n < 4) (hen : rbit s .lnkPortCfg [n] 0 = true)
    (hlane : lane ∈ (portLanes s n).map (physLane s)) (h : WakeSettled s 4) :
    Completes (.linkSignalDetect lane) s fun t => WakeTaken s t 4 := by
  refine ⟨_, if_pos ⟨hlevel, List.any_eq_true.2 ⟨n, List.mem_range.2 hn, ?_⟩⟩, (wakeFires_later h (by decide) (s.clk.elapsed + 4916)).1⟩
  rw [hen, Bool.true_and]
  exact List.any_eq_true.2 ⟨lane, hlane, decide_eq_true rfl⟩

theorem completes_t1sFrameWake (hlevel : s.pwrLevel = 3) (h : WakeSettled s 5) :
    Completes (.t1sFrameWake Config.t1sMac true) s fun t => WakeTaken s t 5 :=
  ⟨_, if_pos ⟨rfl, rfl, hlevel⟩, (wakeFires_leaves h (by decide)).taken⟩

theorem completes_debugWakeWord {word key : List Byte} (hoff : (s.island 34).off = true) (hkey : s.keySlot 12 = some key) (hne : key ≠ [])
    (hlen : word.length = 12) (hid : word.take 4 = key.take 4) (htag : (word.drop 8).take 4 = wakeTag (key.drop 4) word)
    (hfresh : counterFresh s.pwr.dbgCount (beAt word 4 4) = true) (h : WakeSettled s 6) :
    Completes (.debugWakeWord word) s fun t => WakeTaken s t 6 ∧ t.pwr.dbgCount = beAt word 4 4 := by
  obtain ⟨u, hu⟩ : ∃ u, { s with pwr := { s.pwr with dbgCount := beAt word 4 4 } } = u := ⟨_, rfl⟩
  have hexec : exec (.debugWakeWord word) s = .next (wakeFires u 6) := by
    show execDebugWakeWord word s = _
    unfold execDebugWakeWord
    rw [if_pos hoff, hkey]
    refine (if_pos ⟨hlen, hne, hid, htag, hfresh⟩).trans ?_
    rw [hu]
  have hrd (id : RegId) (ix : List Nat) : rd u id ix = rd s id ix := by
    rw [← hu]
    exact rd_eq_of_regs rfl rfl id ix
  have hpwr : u.pwr = { s.pwr with dbgCount := beAt word 4 4 } := by rw [← hu]
  have hset := wakeFires_leaves (wakeSettled_of_same (t := u) (by rw [hpwr]; exact ⟨rfl, rfl⟩) (hrd ..) (hrd ..) h) (by decide)
  exact ⟨_, hexec, hset.after (by rw [hpwr]) (hrd ..) (hrd ..), by rw [hset.dbgCount, hpwr]⟩

theorem completes_debugWakeWord_short {word : List Byte} (hoff : (s.island 34).off = true) (hlen : word.length ≠ 12)
    (hstat : spGet 0 s.stats (okey 0xB111 6) < statMax) :
    Completes (.debugWakeWord word) s fun t => t.pwr = s.pwr ∧ spGet 0 t.stats (okey 0xB111 6) = spGet 0 s.stats (okey 0xB111 6) + 1 := by
  have hexec : exec (.debugWakeWord word) s = .next (stat s 0xB111 6) := by
    show execDebugWakeWord word s = _
    unfold execDebugWakeWord
    rw [if_pos hoff]
    exact if_neg (fun h => hlen h.1)
  refine ⟨_, hexec, ?_⟩
  rw [stat_of_lt hstat]
  exact ⟨rfl, spGet_spPut_same (0 : Nat) s.stats (okey 0xB111 6) (spGet 0 s.stats (okey 0xB111 6) + 1)⟩

theorem completes_thermalAlarm {c : Int} (hc : c < toSigned 8 (rf s .aonThm [] 7 0) * 64 ∨ toSigned 8 (rf s .aonThm [] 15 8) * 64 < c)
    (h : WakeSettled s 7) : Completes (.thermalAlarm c) s fun t => WakeTaken s t 7 :=
  ⟨_, if_pos hc, (wakeFires_leaves h (by decide)).taken⟩

theorem passTicks_elapsed (n : Nat) : (passTicks s n).clk.elapsed = s.clk.elapsed + n := rfl

/-! ## The wake receiver (R531 to R534) -/

theorem state_wrxState (v : Nat) : rf (wrxState s v) .wrxStat [] 1 0 = v % 4 := rf_wf _ _ _ _ _ _ (by decide) (by decide)

theorem completes_wrxSniff_hit {a b : Int} (hruns : s.wrxRuns = true) (hstate : rf s .wrxStat [] 1 0 ≤ 1) :
    Completes (.wrxSniff true a b) s fun t =>
      rf t .wrxStat [] 1 0 = 2 ∧ (rbit t .wrxStat [] 2 = true ↔ a < b) ∧ t.pwr.detect = s.clk.elapsed + 1 := by
  obtain ⟨v, hv⟩ : ∃ v, wbit (wrxState s 2) .wrxStat [] 2 (decide (a < b)) = v := ⟨_, rfl⟩
  obtain ⟨w, hw⟩ : ∃ w, { v with pwr := { v.pwr with detect := s.clk.elapsed + 1 } } = w := ⟨_, rfl⟩
  have hrd : rd w .wrxStat [] = rd v .wrxStat [] := by
    rw [← hw]
    exact rd_eq_of_regs rfl rfl _ _
  refine ⟨w, ?_, ?_, ?_, by rw [← hw]⟩
  · show execWrxSniff true a b s = _
    rw [execWrxSniff, if_pos ⟨hruns, hstate⟩, if_pos rfl, hv]
    exact congrArg Host.Outcome.next hw
  · rw [rf, hrd, ← rf, ← hv, wbit, rf_wf_apart _ _ _ _ _ _ _ _ (by decide) (by decide) (by decide) (by decide), state_wrxState]
  · rw [rbit, hrd, ← rbit, ← hv, rbit_wbit _ _ _ _ _ (by decide), decide_eq_true_iff]

theorem completes_wrxSniff_miss {a b : Int} (hruns : s.wrxRuns = true) (hstate : rf s .wrxStat [] 1 0 ≤ 1) :
    Completes (.wrxSniff false a b) s fun t => rf t .wrxStat [] 1 0 = 1 ∧ t.clk.elapsed = s.clk.elapsed + 4 * msTicks := by
  refine ⟨passTicks (wrxState s 1) (4 * msTicks), ?_, ?_, ?_⟩
  · show execWrxSniff false a b s = _
    rw [execWrxSniff, if_pos ⟨hruns, hstate⟩, if_neg (by decide)]
  · have hrd := (passTicks_same (4 * msTicks) (Nat.and_self _) (Same.refl _ (wrxState s 1))).but.rd_eq_apart (id := .wrxStat) (ix := [])
      (by decide) (by decide) (by decide)
    rw [rf, hrd, ← rf, state_wrxState]
  · rw [passTicks_elapsed, wrxState, wf_clk]

theorem completes_wrxSniff_stopped {hit : Bool} {a b : Int} (hruns : s.wrxRuns = false) :
    Completes (.wrxSniff hit a b) s fun t => rf t .wrxStat [] 1 0 = 0 := by
  refine ⟨wrxState s 0, ?_, state_wrxState 0⟩
  show execWrxSniff hit a b s = _
  rw [execWrxSniff, hruns, if_neg (by simp), if_neg (by decide)]

/-- What the end of a frame leaves (R531, R533). -/
theorem wrxIdle_leaves : rf (wrxIdle s) .wrxStat [] 1 0 = 1 ∧ rf (wrxIdle s) .wrxStat [] 10 3 = rf s .wrxStat [] 10 3 ∧
    (∃ a b, (wrxIdle s).pwr = { s.pwr with detect := 0, trimDue := a, trimAt := b }) ∧ SameBut [.pwr] [.wrxStat] s (wrxIdle s) := by
  obtain ⟨u, hu⟩ : ∃ u, { s with pwr := { s.pwr with detect := 0 } } = u := ⟨_, rfl⟩
  have hrdu : rd u .wrxStat [] = rd s .wrxStat [] := by
    rw [← hu]
    exact rd_eq_of_regs rfl rfl _ _
  have hpwr : (wrxState u 1).pwr = { s.pwr with detect := 0 } := by rw [wrxState, wf_pwr, ← hu]
  have hstate := state_wrxState (s := u) 1
  have hrssi : rf (wrxState u 1) .wrxStat [] 10 3 = rf s .wrxStat [] 10 3 := by
    rw [wrxState, rf_wf_apart _ _ _ _ _ _ _ _ (by decide) (by decide) (by decide) (by decide), rf, hrdu]
    rfl
  refine and_assoc.1 (and_assoc.1 ⟨?_, (wrxIdle_same (Nat.and_self _) (Same.refl _ s)).but⟩)
  unfold wrxIdle
  rw [hu]
  generalize wrxState u 1 = v at *
  dsimp only
  split
  · obtain ⟨w, hw⟩ : ∃ w, { v with pwr := { v.pwr with trimDue := false, trimAt := v.clk.elapsed } } = w := ⟨_, rfl⟩
    have hrd : rd w .wrxStat [] = rd v .wrxStat [] := by
      rw [← hw]
      exact rd_eq_of_regs rfl rfl _ _
    refine ⟨⟨?_, ?_⟩, false, v.clk.elapsed, ?_⟩
    · rw [hw, rf, hrd]
      exact hstate
    · rw [hw, rf, hrd]
      exact hrssi
    · rw [hpwr]
  · exact ⟨⟨hstate, hrssi⟩, s.pwr.trimDue, s.pwr.trimAt, hpwr⟩

/-- What a rejection leaves (R532, R534). -/
theorem wrxReject_leaves {kind : Nat} : rd (wrxReject s kind) .wrxCnt [kind] = min 0xFFFFFFFF (rd s .wrxCnt [kind] + 1) ∧
    (∃ l, (wrxReject s kind).pwr = { s.pwr with rejected := l }) ∧ SameBut [.evt, .pwr] [.evtRpt, .wrxCnt] s (wrxReject s kind) := by
  have hcount := rd_bump s .wrxCnt [kind] 1 (by decide)
  refine and_assoc.1 ⟨?_, (wrxReject_same kind (Nat.and_self _) (Same.refl _ s)).but⟩
  unfold wrxReject
  have hpwr : (bump s .wrxCnt [kind]).pwr = s.pwr := bump_pwr ..
  generalize bump s .wrxCnt [kind] = v at *
  dsimp only
  obtain ⟨w, hw⟩ : ∃ w, { v with pwr := { v.pwr with rejected := setIns kind v.pwr.rejected } } = w := ⟨_, rfl⟩
  have hrd : rd w .wrxCnt [kind] = rd v .wrxCnt [kind] := by
    rw [← hw]
    exact rd_eq_of_regs rfl rfl _ _
  have hpwrw : w.pwr = { s.pwr with rejected := setIns kind s.pwr.rejected } := by rw [← hw, hpwr]
  rw [hw]
  split
  · obtain ⟨l, hl⟩ := reportRejected_pwr (s := w)
    refine ⟨?_, l, by rw [hl, hpwrw]⟩
    rw [(reportRejected_same (Nat.and_self _) (Same.refl _ w)).but.rd_eq_apart (by decide) (by decide) (by decide), hrd, hcount]
  · exact ⟨hrd.trans hcount, _, hpwrw⟩

theorem completes_wrxSyncTimeout (hdetect : s.pwr.detect ≠ 0) :
    Completes .wrxSyncTimeout s fun t =>
      rf t .wrxStat [] 1 0 = 1 ∧ t.pwr.detect = 0 ∧ rd t .wrxCnt [4] = min 0xFFFFFFFF (rd s .wrxCnt [4] + 1) ∧
      t.clk.elapsed = max s.clk.elapsed (s.pwr.detect - 1 + 12 * msTicks) := by
  refine ⟨_, if_pos hdetect, ?_⟩
  have hrd := rd_reachElapsed (s := s) (s.pwr.detect - 1 + 12 * msTicks) .wrxCnt [4]
  have helapsed := reachElapsed_elapsed (s := s) (s.pwr.detect - 1 + 12 * msTicks)
  generalize reachElapsed s (s.pwr.detect - 1 + 12 * msTicks) = u at *
  obtain ⟨hcount, -, hrej⟩ := wrxReject_leaves (s := u) (kind := 4)
  generalize wrxReject u 4 = v at *
  obtain ⟨hstate, -, ⟨a, b, hpwr⟩, hidle⟩ := wrxIdle_leaves (s := v)
  refine ⟨hstate, by rw [hpwr], ?_, ?_⟩
  · rw [hidle.rd_eq_apart (by decide) (by decide) (by decide), hcount, hrd]
  · rw [hidle.clk (by decide), hrej.clk (by decide), helapsed]

/-- The strength of a wake frame shown (R532). -/
def wakeHeard (s : State) (rssi : Int) : State := wf s .wrxStat [] 10 3 (ofSigned 8 rssi)

theorem rd_wakeHeard {id : RegId} {ix : List Nat} (rssi : Int) (h : (regRow id).addr + regSpan id < (regRow .wrxStat).addr ∨
    (regRow .wrxStat).addr + regSpan .wrxStat < (regRow id).addr) : rd (wakeHeard s rssi) id ix = rd s id ix :=
  rd_wf_other _ _ _ _ _ _ _ _ (regAddr_ne _ _ h)

/-- A wake frame taken: its counter is the last accepted one (R532). -/
def wakeCounted (s : State) (c : Nat) : State :=
  let s2 := wr (bump s .wrxCnt [0]) .wrxLastcnt [] c
  if s2.pwrLevel ≤ 2 then { s2 with nv := { s2.nv with wrxCount := c } } else s2

theorem wakeCounted_leaves {c : Nat} (hc : c < 2 ^ 32) : rd (wakeCounted s c) .wrxLastcnt [] = c ∧
    rd (wakeCounted s c) .wrxCnt [0] = min 0xFFFFFFFF (rd s .wrxCnt [0] + 1) ∧ (wakeCounted s c).pwr = s.pwr ∧
    ∀ id ix, (∀ r ∈ [RegId.wrxCnt, .wrxLastcnt], (regRow id).addr + regSpan id < (regRow r).addr ∨ (regRow r).addr + regSpan r < (regRow id).addr) →
      rd (wakeCounted s c) id ix = rd s id ix := by
  obtain ⟨v, hv⟩ : ∃ v, wr (bump s .wrxCnt [0]) .wrxLastcnt [] c = v := ⟨_, rfl⟩
  have hnv : (wakeCounted s c).regs = v.regs ∧ (wakeCounted s c).straps = v.straps ∧ (wakeCounted s c).pwr = v.pwr := by
    unfold wakeCounted
    rw [hv]
    dsimp only
    split
    · exact ⟨rfl, rfl, rfl⟩
    · exact ⟨rfl, rfl, rfl⟩
  obtain ⟨hregs, hstraps, hpwr⟩ := hnv
  have hrd (id : RegId) (ix : List Nat) : rd (wakeCounted s c) id ix = rd v id ix := rd_eq_of_regs hregs hstraps id ix
  refine ⟨?_, ?_, ?_, fun id ix hid => ?_⟩
  · rw [hrd, ← hv, rd_wr_same]
    exact Nat.mod_eq_of_lt hc
  · rw [hrd, ← hv, rd_wr_other _ _ _ _ _ _ (regAddr_ne _ _ (by decide)), rd_bump _ _ _ _ (by decide)]
  · rw [hpwr, ← hv, wr_pwr, bump_pwr]
  · rw [hrd, ← hv, rd_wr_other _ _ _ _ _ _ (regAddr_ne _ _ (hid _ (by decide))), bump,
      rd_wr_other _ _ _ _ _ _ (regAddr_ne _ _ (hid _ (by decide)))]

theorem beNum_lt (l : List Byte) : beNum l < 256 ^ l.length := by
  induction l using List.reverseRecOn with
  | nil => decide
  | append_singleton l b ih =>
    have hb : b.toNat < 256 := b.isLt
    have hnum : beNum (l ++ [b]) = beNum l * 256 + b.toNat := by rw [beNum, List.foldl_append]; rfl
    rw [hnum, List.length_append, List.length_singleton, Nat.pow_succ]
    omega

theorem beAt_lt (l : List Byte) (o n : Nat) : beAt l o n < 256 ^ n :=
  Nat.lt_of_lt_of_eq (beNum_lt _) (by rw [length_sliceBytes])

theorem keySlot_wakeHeard (rssi : Int) (n : Nat) : (wakeHeard s rssi).keySlot n = s.keySlot n := by
  unfold State.keySlot wakeHeard
  rw [wf_nv]

theorem completes_wakeFrame {frame : List Byte} {rssi : Int} {key : List Byte} (hruns : s.wrxRuns = true) (hlen : frame.length = 22)
    (hsync : beAt frame 8 2 = 0x6B1E) (hid : beAt frame 10 4 = rd s .wrxId []) (hkey : s.keySlot 11 = some key)
    (htag : sliceBytes frame 18 4 = wakeTag key (frame.drop 10)) (hfresh : counterFresh (rd s .wrxLastcnt []) (beAt frame 14 4) = true)
    (h : WakeSettled s 3) :
    Completes (.wakeFrame frame rssi) s fun t =>
      WakeTaken s t 3 ∧ rd t .wrxLastcnt [] = beAt frame 14 4 ∧ rd t .wrxCnt [0] = min 0xFFFFFFFF (rd s .wrxCnt [0] + 1) ∧
      rf t .wrxStat [] 10 3 = ofSigned 8 rssi := by
  have hexec : exec (.wakeFrame frame rssi) s = .next (wakeFires (wrxIdle (wakeCounted (wakeHeard s rssi) (beAt frame 14 4))) 3) := by
    show execWakeFrame frame rssi s = _
    unfold execWakeFrame
    rw [if_pos ⟨hruns, hlen, hsync⟩]
    have hid' : ¬ beAt frame 10 4 ≠ rd (wakeHeard s rssi) .wrxId [] := by
      rw [rd_wakeHeard rssi (by decide)]
      exact fun hne => hne hid
    have hkey' : (wakeHeard s rssi).keySlot 11 = some key := by rw [keySlot_wakeHeard, hkey]
    have hfresh' : ¬ ¬ counterFresh (rd (wakeHeard s rssi) .wrxLastcnt []) (beAt frame 14 4) = true := by
      rw [rd_wakeHeard rssi (by decide)]
      exact fun hn => hn hfresh
    unfold wakeCounted
    rw [show wf s .wrxStat [] 10 3 (ofSigned 8 rssi) = wakeHeard s rssi from rfl]
    generalize wakeHeard s rssi = u at *
    dsimp only
    rw [if_neg hid', hkey']
    exact (if_neg (fun hn => hn htag)).trans (if_neg hfresh')
  refine ⟨_, hexec, ?_⟩
  have hrssi : rf (wakeHeard s rssi) .wrxStat [] 10 3 = ofSigned 8 rssi :=
    (rf_wf _ _ _ _ _ _ (by decide) (by decide)).trans (Nat.mod_eq_of_lt (ofSigned_lt 8 rssi))
  have hheardPwr : (wakeHeard s rssi).pwr = s.pwr := wf_pwr ..
  have hheard (id : RegId) (ix : List Nat) := rd_wakeHeard (s := s) (id := id) (ix := ix) rssi
  generalize wakeHeard s rssi = u at *
  obtain ⟨hlast, hcount, hpwr, hregs⟩ := wakeCounted_leaves (s := u) (beAt_lt frame 14 4)
  generalize wakeCounted u (beAt frame 14 4) = v at *
  obtain ⟨-, hidleRssi, ⟨a, b, hidlePwr⟩, hidle⟩ := wrxIdle_leaves (s := v)
  generalize wrxIdle v = w at *
  have hwpwr : w.pwr = { s.pwr with detect := 0, trimDue := a, trimAt := b } := by rw [hidlePwr, hpwr, hheardPwr]
  have hrd (id : RegId) (ix : List Nat) (hid : ∀ r ∈ [RegId.wrxCnt, .wrxLastcnt, .wrxStat],
      (regRow id).addr + regSpan id < (regRow r).addr ∨ (regRow r).addr + regSpan r < (regRow id).addr) : rd w id ix = rd s id ix := by
    rw [hidle.rd_eq_apart (by decide) (by decide) (by simpa [or_comm] using hid .wrxStat (by decide)),
      hregs id ix (fun r hr => hid r (by simp only [List.mem_cons] at hr ⊢; tauto)), hheard id ix (hid .wrxStat (by decide))]
  have hset := wakeFires_leaves (wakeSettled_of_same (t := w) (by rw [hwpwr]; exact ⟨rfl, rfl⟩) (hrd _ _ (by decide)) (hrd _ _ (by decide)) h)
    (by decide)
  refine ⟨hset.after (by rw [hwpwr]) (hrd _ _ (by decide)) (hrd _ _ (by decide)), ?_, ?_, ?_⟩
  · rw [hset.regs _ _ (by decide), hidle.rd_eq_apart (by decide) (by decide) (by decide), hlast]
  · rw [hset.regs _ _ (by decide), hidle.rd_eq_apart (by decide) (by decide) (by decide), hcount, hheard _ _ (by decide)]
  · rw [rf, hset.regs _ _ (by decide), ← rf, hidleRssi, rf, hregs _ _ (by decide), ← rf, hrssi]

theorem completes_wakeFrame_foreign {frame : List Byte} {rssi : Int} (hruns : s.wrxRuns = true) (hlen : frame.length = 22)
    (hsync : beAt frame 8 2 = 0x6B1E) (hid : beAt frame 10 4 ≠ rd s .wrxId []) :
    Completes (.wakeFrame frame rssi) s fun t =>
      t.pwr.exit = s.pwr.exit ∧ rd t .wrxLastcnt [] = rd s .wrxLastcnt [] ∧ rd t .wrxCnt [3] = min 0xFFFFFFFF (rd s .wrxCnt [3] + 1) := by
  have hexec : exec (.wakeFrame frame rssi) s = .next (wrxIdle (wrxReject (wakeHeard s rssi) 3)) := by
    show execWakeFrame frame rssi s = _
    unfold execWakeFrame
    rw [if_pos ⟨hruns, hlen, hsync⟩]
    exact if_pos (by rw [show wf s .wrxStat [] 10 3 (ofSigned 8 rssi) = wakeHeard s rssi from rfl, rd_wakeHeard rssi (by decide)]; exact hid)
  refine ⟨_, hexec, ?_⟩
  have hheardPwr : (wakeHeard s rssi).pwr = s.pwr := wf_pwr ..
  have hheard (id : RegId) (ix : List Nat) := rd_wakeHeard (s := s) (id := id) (ix := ix) rssi
  generalize wakeHeard s rssi = u at *
  obtain ⟨hcount, ⟨l, hl⟩, hrej⟩ := wrxReject_leaves (s := u) (kind := 3)
  generalize wrxReject u 3 = v at *
  obtain ⟨-, -, ⟨a, b, hidlePwr⟩, hidle⟩ := wrxIdle_leaves (s := v)
  refine ⟨by rw [hidlePwr, hl, hheardPwr], ?_, ?_⟩
  · rw [hidle.rd_eq_apart (by decide) (by decide) (by decide), hrej.rd_eq_apart (by decide) (by decide) (by decide), hheard _ _ (by decide)]
  · rw [hidle.rd_eq_apart (by decide) (by decide) (by decide), hcount, hheard _ _ (by decide)]

theorem completes_wrxTrim (hruns : s.wrxRuns = true) (hdetect : s.pwr.detect = 0) :
    Completes .wrxTrim s fun t =>
      t.pwr.trimAt = max s.clk.elapsed (s.pwr.trimAt + 10 * secTicks) ∧ t.clk.elapsed = t.pwr.trimAt + msTicks := by
  obtain ⟨u, hu⟩ : ∃ u, reachElapsed s (s.pwr.trimAt + 10 * secTicks) = u := ⟨_, rfl⟩
  have hpwr : u.pwr = s.pwr := by rw [← hu, reachElapsed_pwr]
  have helapsed : u.clk.elapsed = max s.clk.elapsed (s.pwr.trimAt + 10 * secTicks) := by rw [← hu, reachElapsed_elapsed]
  obtain ⟨v, hv⟩ : ∃ v, { u with pwr := { u.pwr with trimAt := u.clk.elapsed } } = v := ⟨_, rfl⟩
  have hexec : exec .wrxTrim s = .next (passTicks v msTicks) := by
    show execWrxTrim s = _
    rw [execWrxTrim, if_pos hruns, hu]
    exact (if_neg (by rw [hpwr, hdetect]; decide)).trans (congrArg (fun z => Host.Outcome.next (passTicks z msTicks)) hv)
  refine ⟨_, hexec, ?_⟩
  dsimp only
  rw [passTicks_elapsed, (passTicks_same msTicks (Nat.and_self _) (Same.refl _ v)).but.pwr (by decide), ← hv]
  exact ⟨helapsed, rfl⟩

/-- Settles O49: each source that is enabled and available begins an exit, and the receiver shows what it hears. -/
theorem wakeCommandsComplete : Obligations.WakeCommandsComplete :=
  ⟨fun _ _ => completes_wakePin, fun _ _ => completes_wakePin_short, fun _ => completes_rtcAlarm, fun _ _ _ => completes_linkSignalDetect,
    fun _ => completes_t1sFrameWake, fun _ _ _ => completes_debugWakeWord, fun _ _ => completes_debugWakeWord_short,
    fun _ _ => completes_thermalAlarm, fun _ _ _ => completes_wrxSniff_hit, fun _ _ _ => completes_wrxSniff_miss,
    fun _ _ _ _ => completes_wrxSniff_stopped, fun _ => completes_wrxSyncTimeout, fun _ _ _ _ => completes_wakeFrame,
    fun _ _ _ => completes_wakeFrame_foreign, fun _ => completes_wrxTrim⟩

end Sys2Proof.Machine
end

section
/-!
The bias channels and the drain interlock (R540 to R547): the settlement of O50.
-/

namespace Sys2Proof.Machine

set_option Elab.async false

/-! ## A strobe by which a drain rises -/

/-- Amplifier 0 with its drain requested and low: its GATE channel 0, of group 0, stands short of pinch-off with a pending code beyond it, and
its AUX channel 1, of group 1, has been limiting its current since tick 0. -/
def drainAwaitsGate : State :=
  (((wr (wr (wr (wr (wr { State.reset with clk := ⟨100, 100, []⟩, pwr := { State.reset.pwr with depth := 0 } }
    .bdacChCfg [0] (8 + 1000 * 2 ^ 32)) .bdacChCfg [1] (1 + 16)) .bdacChCode [0] (2 ^ 16 + 2000)) .bdacStat [] 3) .bdacDrnReq [] 1).setBias 0
      { Bias.reset with hiZ := false }).setBias 1 { Bias.reset with hiZ := false, lim := 1 })

theorem lim_drainAwaitsGate : (drainAwaitsGate.bias 1).lim = 1 := by decide +kernel

theorem lim_hkWrite_drainAwaitsGate : ((hkWrite drainAwaitsGate 4 .bdacStrobe [] 257).bias 1).lim = 101 := by decide +kernel

/-- Refutes O50: a strobe of group 0 takes the GATE channel of amplifier 0 beyond pinch-off, its drain rises, and with it the time for which
its AUX channel, which the strobe does not hit, has limited starts again (R542, R544), so that channel's record changes. -/
theorem not_biasCommandsComplete : ¬ Obligations.BiasCommandsComplete := by
  unfold Obligations.BiasCommandsComplete
  rintro ⟨-, -, h, -⟩
  obtain ⟨t, hx, hstrobed⟩ := h drainAwaitsGate 4 257 (by decide +kernel) (by decide +kernel) (by decide)
  have hmiss : bitOf (257 % 256) (drainAwaitsGate.biasGroup 1) = false := by decide +kernel
  have hkept := hstrobed 1 (by decide)
  dsimp only [Strobed] at hkept
  rw [if_neg (fun hc => absurd hc.1 (by rw [hmiss]; decide))] at hkept
  have hlim := congrArg Bias.lim hkept.2
  rw [← Host.Outcome.next.inj hx] at hlim
  exact absurd (lim_hkWrite_drainAwaitsGate.symm.trans (hlim.trans lim_drainAwaitsGate)) (by decide)

end Sys2Proof.Machine
end

section
/-!
The SRAM (R431 to R451): the settlement of O41.
-/

namespace Sys2Proof.Machine

set_option Elab.async false

/-! ## A ring halted by the hold watchdog, whose descriptor lies at a release register -/

/-- Ring 0, of the device, runs on the main mover, whose port 20 has held bank 0 for 1 ms; the DONE_TICK of its descriptor, at address
0x1000700000, is the release register of cluster 0.  An adaptation job of path 0 waits for a buffer, and the timeline runs. -/
def holdReleasesBuffer : State :=
  wr (wr (wr (wr (wr { State.reset with
    clk := ⟨msTicks, 256, []⟩
    disp := { State.reset.disp with jobs := [⟨0, 0, none⟩] }
    mem := { State.reset.mem with arb := spPut Arb.reset State.reset.mem.arb 0 { Arb.reset with owner := some 20, busy := true } } }
    .dmaRingCfg [0] 8) .dmaRingStat [0] 2) .dmaRingBase [0] 0x10006FFFE4) .tlCtrl [] 1) .tlPat [0] 491520

/-- The state that the watchdog of bank 0 answers there. -/
def holdReleased : State := match execMemHoldFault 0 holdReleasesBuffer with
  | .next t => t
  | _ => holdReleasesBuffer

theorem elapsed_holdReleased : holdReleased.clk.elapsed = 526592 := by decide +kernel

theorem elapsed_holdReleasesBuffer :
    max holdReleasesBuffer.clk.elapsed ((spGet Arb.reset holdReleasesBuffer.mem.arb 0).since + msTicks) = 491520 := by decide +kernel

/-- Refutes O41: the write-back of the ring that the watchdog halts (R463) releases a capture buffer, and the capture that the waiting job opens
then (R294) waits for the next transmit symbol, so more than the millisecond of the tenure passes. -/
theorem not_memoryCommandsComplete : ¬ Obligations.MemoryCommandsComplete := by
  unfold Obligations.MemoryCommandsComplete
  rintro ⟨-, -, -, -, -, -, -, -, -, -, -, -, -, -, h, -⟩
  obtain ⟨t, hx, -, -, helapsed, -⟩ := h holdReleasesBuffer 0 20 (by decide) (by decide) (by decide +kernel) (by decide +kernel)
  have ht : holdReleased = t := by
    have hexec : execMemHoldFault 0 holdReleasesBuffer = .next t := hx
    unfold holdReleased
    rw [hexec]
  rw [← ht, elapsed_holdReleased, elapsed_holdReleasesBuffer] at helapsed
  exact absurd helapsed (by decide)

end Sys2Proof.Machine
end

section
/-!
The DMA rings (R453 to R467): the settlement of O42.
-/

namespace Sys2Proof.Machine

set_option Elab.async false

variable {s t u : State} {q r : Nat}

/-! ## One ring beside the others (R440, R464) -/

/-- The status words of the rings are apart. -/
theorem regAddr_dmaRingStat_ne (hq : q < 128) (hr : r < 128) (h : r ≠ q) : regAddr .dmaRingStat [r] ≠ regAddr .dmaRingStat [q] := by
  show _ + 64 * (r % 128) ≠ _ + 64 * (q % 128)
  rw [Nat.mod_eq_of_lt hq, Nat.mod_eq_of_lt hr]
  omega

theorem regAddr_dmaRingStat_mod (ix : List Nat) : regAddr .dmaRingStat ix % 64 = 16 := by
  cases ix with
  | nil => rfl
  | cons i ix =>
    show (0x1600004010 + 64 * (i % 128)) % 64 = 16
    omega

/-- The status words of the rings lie between their other registers. -/
theorem regAddr_dmaRingStat_ne_of_mod {id : RegId} {ix : List Nat} (h : regAddr id ix % 64 ≠ 16) (ix' : List Nat) :
    regAddr .dmaRingStat ix' ≠ regAddr id ix := fun e => h (e ▸ regAddr_dmaRingStat_mod ix')

theorem regAddr_dmaRingCfg_mod (r : Nat) : regAddr .dmaRingCfg [r] % 64 ≠ 16 := by
  show (0x1600004000 + 64 * (r % 128)) % 64 ≠ 16
  omega

/-- What ring `r` shows and has done stands. -/
structure RingStands (s t : State) (r : Nat) : Prop where
  stat : rd t .dmaRingStat [r] = rd s .dmaRingStat [r]
  batch : spGet Batch.none_ t.mem.batch r = spGet Batch.none_ s.mem.batch r

theorem RingStands.refl (s : State) (r : Nat) : RingStands s s r := ⟨rfl, rfl⟩

theorem RingStands.trans (h : RingStands s t r) (h' : RingStands t u r) : RingStands s u r := ⟨h'.stat.trans h.stat, h'.batch.trans h.batch⟩

theorem RingStands.ringSt (h : RingStands s t r) : ringSt t r = ringSt s r := congrArg (bitsOf · 1 0) h.stat

theorem rd_setFlag_other (id id' : RegId) (ix ix' : List Nat) (i : Nat) (h : regAddr id' ix' ≠ regAddr id ix) :
    rd (setFlag s id ix i) id' ix' = rd s id' ix' :=
  (rd_eq_of_regs (noteBit_regs ..) rfl _ _).trans (rd_wbit_other _ _ _ _ _ _ _ h)

theorem rd_ringCompletion (id : RegId) (ix : List Nat) (full : Bool) (h : NoRepeatCount id) :
    rd (ringCompletion s q full) id ix = rd (setFlag s .dmaRingStat [q] (if full then 8 else 7)) id ix := by
  unfold ringCompletion
  exact rd_raise h _ _ _

theorem ringCompletion_stands (hq : q < 128) (hr : r < 128) (h : r ≠ q) (full : Bool) : RingStands s (ringCompletion s q full) r where
  stat := (rd_ringCompletion _ _ _ (by decide)).trans (rd_setFlag_other _ _ _ _ _ (regAddr_dmaRingStat_ne hq hr h))
  batch := by
    unfold ringCompletion
    dsimp only
    rw [raise_mem, setFlag_mem]

theorem setBatch_stands (h : r ≠ q) (b : Batch) : RingStands s { s with mem := { s.mem with batch := spPut Batch.none_ s.mem.batch q b } } r :=
  ⟨rfl, spGet_spPut_other _ _ _ _ h⟩

/-- A state of the same registers, in which the other rings have done what they had. -/
structure RingMoves (s t : State) (q : Nat) : Prop where
  regs : t.regs = s.regs
  straps : t.straps = s.straps
  evt : t.evt = s.evt
  batch : ∀ r, r ≠ q → spGet Batch.none_ t.mem.batch r = spGet Batch.none_ s.mem.batch r

theorem RingMoves.refl (s : State) (q : Nat) : RingMoves s s q := ⟨rfl, rfl, rfl, fun _ _ => rfl⟩

theorem RingMoves.stands (h : RingMoves s t q) (hne : r ≠ q) : RingStands s t r := ⟨rd_eq_of_regs h.regs h.straps _ _, h.batch r hne⟩

/-- What the mover that served a ring has moved is put on record, and half of a descriptor reported (R461, R465). -/
theorem settleRing_moves (s : State) (q : Nat) :
    ∃ u, RingMoves s u q ∧ (settleRing s q = u ∨ settleRing s q = ringCompletion u q false) := by
  unfold settleRing
  dsimp only
  split
  · exact ⟨s, .refl s q, .inl rfl⟩
  · have hstored : ∀ (l : List (Nat × Nat × Nat)) (off : Nat × Nat × Nat → Nat) (b : Nat × Nat × Nat → List Byte),
        RingMoves s (l.foldl (fun s x => sramStore s (off x) (b x)) s) q := fun l off b =>
      List.foldlRecOn (motive := fun u => RingMoves s u q) l _ (.refl s q) (fun u hu x _ => ⟨hu.regs, hu.straps, hu.evt, hu.batch⟩)
    have hput : ∀ {u : State} (b : Batch), RingMoves s u q → RingMoves s { u with mem := { u.mem with batch := spPut Batch.none_ u.mem.batch q b } } q :=
      fun b hu => ⟨hu.regs, hu.straps, hu.evt, fun r hr => (spGet_spPut_other _ _ _ _ hr).trans (hu.batch r hr)⟩
    have htold : ∀ (c : Prop) [Decidable c] {u : State}, RingMoves s u q →
        ∃ v, RingMoves s v q ∧ ((if c then ringCompletion u q false else u) = v ∨ (if c then ringCompletion u q false else u) = ringCompletion v q false) := by
      intro c _ u hu
      by_cases hc : c
      · exact ⟨u, hu, .inr (if_pos hc)⟩
      · exact ⟨u, hu, .inl (if_neg hc)⟩
    exact htold _ (hput _ (hstored _ _ _))

theorem settleRing_stands (hq : q < 128) (hr : r < 128) (h : r ≠ q) : RingStands s (settleRing s q) r := by
  obtain ⟨u, hu, he | he⟩ := settleRing_moves s q
  · rw [he]
    exact hu.stands h
  · rw [he]
    exact (hu.stands h).trans (ringCompletion_stands hq hr h false)

theorem Fires.ringCompletion {n : Nat} (h : Fires s n) (r : Nat) (full : Bool) : Fires (ringCompletion s r full) n := by
  unfold Machine.ringCompletion
  exact Fires.raise (h.of_evt (setFlag_evt ..)) _ _ _

theorem Fires.settleRing {n : Nat} (h : Fires s n) (q : Nat) : Fires (settleRing s q) n := by
  obtain ⟨u, hu, he | he⟩ := settleRing_moves s q
  · rw [he]
    exact h.of_evt hu.evt
  · rw [he]
    exact (h.of_evt hu.evt).ringCompletion q false

/-- Of what ring `r` shows, only its flag of half a descriptor may be set. -/
theorem rf_settleRing (r : Nat) {hi lo : Nat} (hlo : 8 ≤ lo) (hle : lo ≤ hi) (hhi : hi < 32) :
    rf (settleRing s r) .dmaRingStat [r] hi lo = rf s .dmaRingStat [r] hi lo := by
  have hflag (u : State) : rf (ringCompletion u r false) .dmaRingStat [r] hi lo = rf u .dmaRingStat [r] hi lo :=
    (congrArg (bitsOf · hi lo) ((rd_ringCompletion _ _ _ (by decide)).trans (rd_eq_of_regs (noteBit_regs ..) rfl _ _))).trans
      (rf_wf_apart _ _ _ _ _ _ _ _ (Nat.le_refl _) hhi (by right; exact hlo) hle)
  obtain ⟨u, hu, he | he⟩ := settleRing_moves s r
  · rw [he]
    exact congrArg (bitsOf · hi lo) (rd_eq_of_regs hu.regs hu.straps _ _)
  · rw [he, hflag]
    exact congrArg (bitsOf · hi lo) (rd_eq_of_regs hu.regs hu.straps _ _)

/-- The ring whose turn it is runs on the main mover. -/
theorem onMain_of_turnAt {lv a : Nat} (h : turnAt s lv a = some q) : q < 128 ∧ onMain s q = true ∧ ringLevel s q = lv := by
  have hmem : q ∈ (List.range 128).filter (fun r => onMain s r && decide (ringLevel s r = lv)) := by
    unfold turnAt at h
    dsimp only at h
    split at h
    next r hfind => exact Option.some.inj h ▸ List.mem_of_find?_eq_some hfind
    next => exact List.mem_of_head? h
  obtain ⟨hq, hon⟩ := List.mem_filter.1 hmem
  obtain ⟨hmain, hlevel⟩ := (Bool.and_eq_true _ _).mp hon
  exact ⟨List.mem_range.1 hq, hmain, of_decide_eq_true hlevel⟩

theorem onMain_of_servedRing (h : servedRing s = some q) : q < 128 ∧ onMain s q = true := by
  obtain ⟨lv, -, hturn⟩ := List.exists_of_findSome?_eq_some h
  obtain ⟨hq, hmain, -⟩ := onMain_of_turnAt hturn
  exact ⟨hq, hmain⟩

theorem ringSt_of_onMain (h : onMain s q = true) : ringSt s q = 2 := by
  simp only [onMain, Bool.and_eq_true, decide_eq_true_eq] at h
  exact h.1.1

/-- A ring whose record is as it was but for the tick since which it is served. -/
structure RingTurns (s t : State) (r : Nat) : Prop where
  stat : rd t .dmaRingStat [r] = rd s .dmaRingStat [r]
  batch : spGet Batch.none_ t.mem.batch r =
    { spGet Batch.none_ s.mem.batch r with since := (spGet Batch.none_ t.mem.batch r).since }

theorem RingStands.turns (h : RingStands s t r) : RingTurns s t r := ⟨h.stat, by rw [h.batch]⟩

theorem RingTurns.ringSt (h : RingTurns s t r) : ringSt t r = ringSt s r := congrArg (bitsOf · 1 0) h.stat

/-- The state after the main mover has left the ring it served, where that still runs. -/
def moverLeaves (s t : State) : State := match servedRing s with
  | some q => if onMain t q then settleRing t q else t
  | none => t

theorem moverLeaves_stands (hr : r < 128) (hne : ∀ q, servedRing s = some q → onMain t q = true → r ≠ q) : RingStands t (moverLeaves s t) r := by
  unfold moverLeaves
  cases hs : servedRing s with
  | none => exact .refl t r
  | some q =>
    by_cases hon : onMain t q = true
    · simpa only [hon, if_true] using settleRing_stands (onMain_of_servedRing hs).1 hr (hne q hs hon)
    · simpa only [hon, Bool.false_eq_true, if_false] using RingStands.refl t r

theorem switchMover_eq (s t : State) : switchMover s t =
    if servedRing s = servedRing t then t
    else match servedRing t with
      | some r => { moverLeaves s t with mem := { (moverLeaves s t).mem with
          batch := spMod Batch.none_ (moverLeaves s t).mem.batch r (fun x => { x with since := (moverLeaves s t).clk.elapsed }) } }
      | none => moverLeaves s t := rfl

/-- The main mover goes on with another ring: a ring that it does not leave moves nothing. -/
theorem switchMover_turns (hr : r < 128) (hne : ∀ q, servedRing s = some q → onMain t q = true → r ≠ q) : RingTurns t (switchMover s t) r := by
  have hleft := moverLeaves_stands hr hne
  rw [switchMover_eq]
  generalize moverLeaves s t = u at *
  split
  · exact (RingStands.refl t r).turns
  · split
    next b _ =>
      refine ⟨hleft.stat, ?_⟩
      dsimp only
      by_cases hb : r = b
      · rw [hb, spGet_spMod_same, ← hb, hleft.batch]
      · rw [spMod, spGet_spPut_other _ _ _ _ hb, hleft.batch]
    · exact hleft.turns

/-! ## A batch starts (R455, R467) -/

/-- A ring whose batch opens, and whose level's turn it may be. -/
def batchOpened (s : State) (r : Nat) (tl : Bool) : State :=
  if decide ((turnAt s (ringLevel s r) 0).isNone) ∧ onMain (openBatch s r tl) r then
    { openBatch s r tl with mem := { (openBatch s r tl).mem with turn := spPut 0 (openBatch s r tl).mem.turn (ringLevel s r) r } }
  else openBatch s r tl

theorem batchOpened_stands (s : State) (r : Nat) (tl : Bool) : RingStands (openBatch s r tl) (batchOpened s r tl) r := by
  unfold batchOpened
  split
  · exact ⟨rfl, rfl⟩
  · exact .refl _ r

theorem ringSt_openBatch (s : State) (r : Nat) (tl : Bool) : ringSt (openBatch s r tl) r = 2 :=
  rf_wf s .dmaRingStat [r] 1 0 2 (by decide) (by decide)

theorem batch_openBatch (s : State) (r : Nat) (tl : Bool) :
    spGet Batch.none_ (openBatch s r tl).mem.batch r = { Batch.none_ with tl := tl, split := ! mainUp s } := by
  have hsplit : (decide ¬ mainUp s = true) = ! mainUp s := by cases mainUp s <;> rfl
  unfold openBatch
  dsimp only
  rw [spGet_spPut_same, hsplit]

/-- A trigger that finds its ring IDLE starts a batch. -/
theorem trigRing_of_idle (hr : r < 128) (hidle : ringSt s r = 1) (tl : Bool) :
    ringSt (trigRing s r tl) r = 2 ∧ BatchOpens s (trigRing s r tl) r tl := by
  have htrig : trigRing s r tl = switchMover s (batchOpened s r tl) := by
    unfold trigRing
    rw [hidle]
    rfl
  have hturns : RingTurns (batchOpened s r tl) (switchMover s (batchOpened s r tl)) r :=
    switchMover_turns hr (fun q hq _ hrq => by
      have hrun := ringSt_of_onMain (onMain_of_servedRing hq).2
      rw [← hrq, hidle] at hrun
      exact absurd hrun (by decide))
  have hopen := batchOpened_stands s r tl
  rw [htrig]
  refine ⟨hturns.ringSt.trans (hopen.ringSt.trans (ringSt_openBatch s r tl)), ?_⟩
  rw [BatchOpens, hturns.batch, hopen.batch, batch_openBatch]

theorem completes_dmaStart (n : Nat) {e : EvtEntry} (he : EventFires s n 5 e) (hup : (s.island 12).off = false) (hr : e.target < 128)
    (htl : rbit s .dmaRingCfg [e.target] 6 = true) (hidle : ringSt s e.target = 1) :
    Completes (.dmaStart n) s fun t => ringSt t e.target = 2 ∧ BatchOpens s t e.target true := by
  have hfire := fireEvent_of_fires (islands := fun _ => [12])
    (act := fun e s => if e.target < 128 ∧ rbit s .dmaRingCfg [e.target] 6 then trigRing s e.target true else s) he (by simpa using hup)
  have hnow := (toBoundary_same (5 * 16) n (nextOffset s.pattern s.frameOfs e.offset) (Nat.and_self _) (Same.refl _ s)).but
  obtain ⟨u, hu⟩ : ∃ u, toBoundary s (5 * 16) n (nextOffset s.pattern s.frameOfs e.offset) = u := ⟨_, rfl⟩
  rw [hu] at hfire hnow
  have hrd (id ix) : rd u id ix = rd s id ix := hnow.rd_eq (by decide) (by decide) (fun _ h => absurd h List.not_mem_nil)
  have hmem := hnow.mem (by decide)
  have hidle' : ringSt u e.target = 1 := (congrArg (bitsOf · 1 0) (hrd ..)).trans hidle
  have hmain : mainUp u = mainUp s := by rw [mainUp, mainUp, hmem, rbit, rbit, hrd]
  rw [if_pos ⟨hr, by rw [rbit, hrd]; exact htl⟩] at hfire
  obtain ⟨hst, hopens⟩ := trigRing_of_idle hr hidle' true
  exact ⟨trigRing u e.target true, congrArg Host.Outcome.next hfire, hst, by rw [BatchOpens, ← hmain]; exact hopens⟩

theorem exec_dmaRingKick_of_may {tag value : Nat} (hoff : s.regOff .dmaRingKick [r] = false) (htag : s.tagDeviceOrD2 tag = true) (hr : r < 128)
    (hgo : bitOf value 0 = true) : exec (.dmaRingKick tag r value) s = .next (trigRing s r false) := by
  show (if r < 128 then _ else _) = _
  rw [if_pos hr, tagged_of_may hoff htag, if_pos hgo]

theorem completes_dmaRingKick_of_off {tag value : Nat} (hoff : s.regOff .dmaRingKick [r] = false) (htag : s.tagDeviceOrD2 tag = true)
    (hr : r < 128) (hgo : bitOf value 0 = true) (hst : ringSt s r = 0) :
    Completes (.dmaRingKick tag r value) s fun t =>
      ringSt t r = 0 ∧ rd t .dmaTrigDrop [] = min 0xFFFFFFFF (rd s .dmaTrigDrop [] + 1) := by
  have htrig : trigRing s r false = bump s .dmaTrigDrop [] := by
    unfold trigRing
    rw [hst]
    rfl
  refine ⟨_, exec_dmaRingKick_of_may hoff htag hr hgo, ?_⟩
  rw [htrig]
  exact ⟨(congrArg (bitsOf · 1 0) (rd_wr_other _ _ _ _ _ _ (regAddr_ne _ _ (by decide)))).trans hst, rd_bump _ _ _ _ (by decide)⟩

/-! ## A ring disabled (R454, R462) -/

theorem Fires.switchMover {n : Nat} (h : Fires t n) (s : State) : Fires (switchMover s t) n := by
  have hleft : Fires (moverLeaves s t) n := by
    unfold moverLeaves
    split
    · split
      · exact h.settleRing _
      · exact h
    · exact h
  rw [switchMover_eq]
  split
  · exact h
  · split
    · exact hleft.of_evt rfl
    · exact hleft

theorem Fires.nextRing {n : Nat} (h : Fires t n) (s : State) (r : Nat) : Fires (nextRing s t r) n := by
  unfold Machine.nextRing
  dsimp only
  split
  · exact (h.of_evt (t := passTurn t r) rfl).switchMover s
  · exact h.switchMover s

theorem nextRing_turns {s0 : State} (hr : r < 128) (hst : ringSt s r ≠ 2) : RingTurns s (nextRing s0 s r) r := by
  have hpass : RingStands s (if onMain s0 r ∧ turnAt s0 (ringLevel s0 r) (spGet 0 s0.mem.turn (ringLevel s0 r)) = some r then passTurn s r else s) r := by
    split
    · exact ⟨rfl, rfl⟩
    · exact .refl s r
  unfold nextRing
  dsimp only
  generalize (if onMain s0 r ∧ turnAt s0 (ringLevel s0 r) (spGet 0 s0.mem.turn (ringLevel s0 r)) = some r then passTurn s r else s) = u at *
  have hsw : RingTurns u (switchMover s0 u) r := switchMover_turns hr (fun q _ hon hrq => by
    have hrun := ringSt_of_onMain hon
    rw [← hrq, hpass.ringSt] at hrun
    exact hst hrun)
  exact ⟨hsw.stat.trans hpass.stat, by rw [hsw.batch, hpass.batch]⟩

/-- The status word of a ring that is stopped: OFF, nothing pending, no status, HEAD unchanged. -/
def ringOff (s : State) (r : Nat) : State :=
  dropBatch (wf (wf (wf s .dmaRingStat [r] 1 0 0) .dmaRingStat [r] 5 2 0) .dmaRingStat [r] 11 9 0) r

theorem rd_dropBatch (id : RegId) (ix : List Nat) : rd (dropBatch s r) id ix = rd s id ix := rd_eq_of_regs rfl rfl _ _

/-- A field of a ring's status stands while another is written. -/
theorem rf_wf_dmaRingStat (s : State) (r v : Nat) {hi lo h l : Nat} (hl : lo ≤ hi) (hh : h < 32) (ha : h < lo ∨ hi < l) (hle : l ≤ h) :
    rf (wf s .dmaRingStat [r] hi lo v) .dmaRingStat [r] h l = rf s .dmaRingStat [r] h l :=
  rf_wf_apart _ _ _ _ _ _ _ _ hl hh ha hle

theorem ringOff_shows (s : State) (r : Nat) : ringSt (ringOff s r) r = 0 ∧ rf (ringOff s r) .dmaRingStat [r] 5 2 = 0 ∧
    rf (ringOff s r) .dmaRingStat [r] 23 12 = rf s .dmaRingStat [r] 23 12 := by
  have hdrop (hi lo : Nat) : rf (ringOff s r) .dmaRingStat [r] hi lo =
      rf (wf (wf (wf s .dmaRingStat [r] 1 0 0) .dmaRingStat [r] 5 2 0) .dmaRingStat [r] 11 9 0) .dmaRingStat [r] hi lo :=
    congrArg (bitsOf · hi lo) (rd_dropBatch ..)
  refine ⟨(hdrop 1 0).trans ?_, (hdrop 5 2).trans ?_, (hdrop 23 12).trans ?_⟩
  · rw [rf_wf_dmaRingStat _ _ _ (by decide) (by decide) (by decide) (by decide), rf_wf_dmaRingStat _ _ _ (by decide) (by decide) (by decide) (by decide)]
    exact rf_wf _ _ _ _ _ _ (by decide) (by decide)
  · rw [rf_wf_dmaRingStat _ _ _ (by decide) (by decide) (by decide) (by decide)]
    exact rf_wf _ _ _ _ _ _ (by decide) (by decide)
  · rw [rf_wf_dmaRingStat _ _ _ (by decide) (by decide) (by decide) (by decide), rf_wf_dmaRingStat _ _ _ (by decide) (by decide) (by decide) (by decide),
      rf_wf_dmaRingStat _ _ _ (by decide) (by decide) (by decide) (by decide)]

/-- The state in which what the mover has moved for a ring, where it serves it, is on record. -/
def ringSettled (s : State) (r : Nat) : State := if servedRing s = some r then settleRing s r else s

theorem ringSettled_same (s : State) (r : Nat) : SameBut [.fresh, .evt, .mem] [.dmaRingStat, .evtRpt] s (ringSettled s r) :=
  (same_ite (settleRing_same r (Nat.and_self _) (Same.refl _ s)) (Same.refl _ s)).but

theorem ringSettled_head (s : State) (r : Nat) : rf (ringSettled s r) .dmaRingStat [r] 23 12 = rf s .dmaRingStat [r] 23 12 := by
  unfold ringSettled
  split
  · exact rf_settleRing r (by decide) (by decide) (by decide)
  · rfl

theorem ringEnable_false (s : State) (r : Nat) : ringEnable s r false = nextRing (ringSettled s r) (ringOff (ringSettled s r) r) r := by
  unfold ringEnable
  rw [if_neg Bool.false_ne_true]
  rfl

/-- A word of a ring beside its status, which no report of the ring changes. -/
theorem rd_beside_status {id : RegId} {ix : List Nat} (h : SameBut [.fresh, .evt, .mem] [.dmaRingStat, .evtRpt] s t)
    (hmod : regAddr id ix % 64 ≠ 16) (hrpt : NoRepeatCount id) : rd t id ix = rd s id ix :=
  h.rd_eq (by decide) (by decide) (fun id' hid ix' => by
    rcases List.mem_pair.1 hid with rfl | rfl
    · exact regAddr_dmaRingStat_ne_of_mod hmod ix'
    · exact regAddr_ne _ _ hrpt)

/-- A ring that is stopped keeps its HEAD and its configuration. -/
theorem ringEnable_false_shows (hr : r < 128) : ringSt (ringEnable s r false) r = 0 ∧ rf (ringEnable s r false) .dmaRingStat [r] 5 2 = 0 ∧
    rf (ringEnable s r false) .dmaRingStat [r] 23 12 = rf s .dmaRingStat [r] 23 12 ∧
    rd (ringEnable s r false) .dmaRingCfg [r] = rd s .dmaRingCfg [r] := by
  have hhead := ringSettled_head s r
  have hset := rd_beside_status (ringSettled_same s r) (regAddr_dmaRingCfg_mod r) (by decide)
  rw [ringEnable_false]
  generalize ringSettled s r = v at *
  obtain ⟨hoff, hpend, hkept⟩ := ringOff_shows v r
  have hcfg : rd (ringOff v r) .dmaRingCfg [r] = rd v .dmaRingCfg [r] := by
    have hne := (regAddr_dmaRingStat_ne_of_mod (regAddr_dmaRingCfg_mod r) [r]).symm
    rw [ringOff, rd_dropBatch, rd_wf_other _ _ _ _ _ _ _ _ hne, rd_wf_other _ _ _ _ _ _ _ _ hne, rd_wf_other _ _ _ _ _ _ _ _ hne]
  generalize ringOff v r = w at *
  have hturns := nextRing_turns (s0 := v) hr (by rw [hoff]; decide)
  have hnext := rd_beside_status (nextRing_same (x0 := v) r (Nat.and_self _) (Same.refl _ w)).but (regAddr_dmaRingCfg_mod r) (by decide)
  have hst := hturns.stat
  generalize nextRing v w r = t at *
  refine ⟨hturns.ringSt.trans hoff, ?_, ?_, hnext.trans (hcfg.trans hset)⟩
  · rw [rf, hst]
    exact hpend
  · rw [rf, hst]
    exact hkept.trans hhead

theorem completes_dmaRingDisable (hr : r < 128) : Completes (.dmaRingDisable r) s fun t =>
    ringSt t r = 0 ∧ rbit t .dmaRingCfg [r] 0 = false ∧ rf t .dmaRingStat [r] 5 2 = 0 ∧
      rf t .dmaRingStat [r] 23 12 = rf s .dmaRingStat [r] 23 12 := by
  have hhead : rf (wbit s .dmaRingCfg [r] 0 false) .dmaRingStat [r] 23 12 = rf s .dmaRingStat [r] 23 12 :=
    congrArg (bitsOf · 23 12) (rd_wbit_other _ _ _ _ _ _ _ (regAddr_dmaRingStat_ne_of_mod (regAddr_dmaRingCfg_mod r) _))
  have hen := rbit_wbit s .dmaRingCfg [r] 0 false (by decide)
  have hexec : exec (.dmaRingDisable r) s = .next (ringEnable (wbit s .dmaRingCfg [r] 0 false) r false) := by
    rw [exec_dmaRingDisable, execDmaRingDisable, if_pos hr]
  rw [Completes, hexec]
  generalize wbit s .dmaRingCfg [r] 0 false = v at *
  obtain ⟨hoff, hpend, hkept, hcfg⟩ := ringEnable_false_shows (s := v) hr
  exact ⟨_, rfl, hoff, (congrArg (bitOf · 0) hcfg).trans hen, hpend, hkept.trans hhead⟩

end Sys2Proof.Machine
end

section
/-!
The descriptors of the DMA rings (R456 to R463): the settlement of O42.
-/

namespace Sys2Proof.Machine

set_option Elab.async false

variable {s t u : State} {q r b : Nat}

/-! ## Bytes of clean SRAM (R433) -/

/-- A byte of SRAM as it is stored. -/
def sramByte (s : State) (i : Nat) : Byte := spGet 0 s.mem.data i

theorem sramBytes_of_clean (h : s.mem.poison = []) (off n : Nat) : sramBytes s off n = (List.range n).map (fun i => sramByte s (off + i)) := by
  unfold sramBytes
  rw [h]
  exact List.map_congr_left (fun i _ => if_neg List.not_mem_nil)

theorem sramBytes_congr (hs : s.mem.poison = []) (ht : t.mem.poison = []) {a c n : Nat} (h : ∀ i < n, sramByte t (a + i) = sramByte s (c + i)) :
    sramBytes t a n = sramBytes s c n := by
  rw [sramBytes_of_clean hs, sramBytes_of_clean ht]
  exact List.map_congr_left (fun i hi => h i (List.mem_range.1 hi))

theorem length_sramBytes (s : State) (off n : Nat) : (sramBytes s off n).length = n := by rw [sramBytes, List.length_map, List.length_range]

/-- Bytes stored in clean SRAM. -/
structure Stores (s t : State) (off : Nat) (l : List Byte) : Prop where
  poison : t.mem.poison = []
  inside : ∀ i (h : i < l.length), sramByte t (off + i) = l[i]
  outside : ∀ x, x < off ∨ off + l.length ≤ x → sramByte t x = sramByte s x

theorem stores_nil (h : s.mem.poison = []) (off : Nat) : Stores s s off [] := ⟨h, fun _ h => absurd h (Nat.not_lt_zero _), fun _ _ => rfl⟩

/-- One span after another. -/
theorem Stores.append {off : Nat} {l k : List Byte} (h : Stores s t off l) (h' : Stores t u (off + l.length) k) : Stores s u off (l ++ k) where
  poison := h'.poison
  inside i hi := by
    rw [List.length_append] at hi
    by_cases hl : i < l.length
    · rw [List.getElem_append_left hl, h'.outside _ (.inl (by omega)), h.inside i hl]
    · rw [List.getElem_append_right (by omega), ← h'.inside (i - l.length) (by omega), Nat.add_assoc, Nat.add_sub_cancel' (by omega)]
  outside x hx := by
    rw [List.length_append] at hx
    rw [h'.outside x (by omega), h.outside x (by omega)]

theorem sramStore_mem_of_clean (h : s.mem.poison = []) (off : Nat) (l : List Byte) :
    (sramStore s off l).mem.data = (l.zip (List.range l.length)).foldl (fun d p => spPut 0 d (off + p.2) p.1) s.mem.data := by
  unfold sramStore poisonIn
  dsimp only
  rw [h]
  rfl

theorem sramStore_stores (h : s.mem.poison = []) (off : Nat) (l : List Byte) : Stores s (sramStore s off l) off l where
  poison := by
    unfold sramStore poisonIn
    dsimp only
    rw [h]
    rfl
  inside i hi := by
    have hkeys : ((l.zip (List.range l.length)).map (fun x => off + x.2)).Nodup := by
      rw [← Function.comp_def (fun n => off + n) Prod.snd, ← List.map_map, List.map_snd_zip (by rw [List.length_range])]
      exact List.nodup_range.map (fun _ _ h => Nat.add_left_cancel h)
    have hmem : (l[i], i) ∈ l.zip (List.range l.length) := List.mem_iff_getElem.2 ⟨i, by simpa using hi, by simp⟩
    rw [sramByte, sramStore_mem_of_clean h]
    exact spGet_foldl_spMod (k := fun x : Byte × Nat => off + x.2) (F := fun x _ => x.1) hkeys hmem _
  outside x hx := by
    rw [sramByte, sramStore_mem_of_clean h]
    refine spGet_foldl_spMod_of_not_mem (k := fun x : Byte × Nat => off + x.2) (F := fun x _ => x.1) (fun hin => ?_) _
    obtain ⟨p, hp, rfl⟩ := List.mem_map.1 hin
    have := List.mem_range.1 (List.of_mem_zip hp).2
    omega

theorem Stores.sramBytes_eq {off : Nat} {l : List Byte} (h : Stores s t off l) : sramBytes t off l.length = l := by
  rw [sramBytes_of_clean h.poison]
  exact List.ext_getElem (by rw [List.length_map, List.length_range]) (fun i hi hi' => by
    rw [List.getElem_map, List.getElem_range, h.inside i hi'])

/-! ## What a ring's mover leaves (R440, R453 to R464) -/

/-- A state in which, beside SRAM and events, only ring `r` has gone on. -/
structure RingSteps (s t : State) (r : Nat) : Prop where
  word : ∀ id ix, NoRepeatCount id → regAddr id ix ≠ regAddr .dmaRingStat [r] → rd t id ix = rd s id ix
  islands : t.islands = s.islands
  subs : t.subs = s.subs
  turn : t.mem.turn = s.mem.turn
  others : ∀ q < 128, q ≠ r → RingStands s t q

theorem RingSteps.refl (s : State) (r : Nat) : RingSteps s s r := ⟨fun _ _ _ _ => rfl, rfl, rfl, rfl, fun q' _ _ => .refl s q'⟩

theorem RingSteps.trans (h : RingSteps s t r) (h' : RingSteps t u r) : RingSteps s u r where
  word id ix hr hm := (h'.word id ix hr hm).trans (h.word id ix hr hm)
  islands := h'.islands.trans h.islands
  subs := h'.subs.trans h.subs
  turn := h'.turn.trans h.turn
  others q' hq hne := (h.others q' hq hne).trans (h'.others q' hq hne)

/-- The memory record alone changes. -/
theorem ringSteps_of_mem {x : Mem} (hturn : x.turn = s.mem.turn)
    (hbatch : ∀ k, k ≠ r → spGet Batch.none_ x.batch k = spGet Batch.none_ s.mem.batch k) : RingSteps s { s with mem := x } r :=
  ⟨fun _ _ _ _ => rd_eq_of_regs rfl rfl _ _, rfl, rfl, hturn, fun q' _ hne => ⟨rd_eq_of_regs rfl rfl _ _, hbatch q' hne⟩⟩

theorem ringSteps_sramStore (s : State) (r off : Nat) (l : List Byte) : RingSteps s (sramStore s off l) r := by
  unfold sramStore
  exact ringSteps_of_mem rfl (fun _ _ => rfl)

theorem ringSteps_setBatch (s : State) (r : Nat) (x : Batch) :
    RingSteps s { s with mem := { s.mem with batch := spPut Batch.none_ s.mem.batch r x } } r :=
  ringSteps_of_mem rfl (fun _ hne => spGet_spPut_other _ _ _ _ hne)

theorem ringSteps_wf (hr : r < 128) (hi lo v : Nat) : RingSteps s (wf s .dmaRingStat [r] hi lo v) r where
  word _ _ _ hne := rd_wf_other _ _ _ _ _ _ _ _ hne
  islands := rfl
  subs := rfl
  turn := rfl
  others _ hk hne := ⟨rd_wf_other _ _ _ _ _ _ _ _ (regAddr_dmaRingStat_ne hr hk hne), rfl⟩

theorem ringSteps_ringCompletion (s : State) (hr : r < 128) (full : Bool) : RingSteps s (ringCompletion s r full) r where
  word id ix hrpt hne := (rd_ringCompletion _ _ _ hrpt).trans (rd_setFlag_other _ _ _ _ _ hne)
  islands := (ringCompletion_same r full (Nat.and_self _) (Same.refl _ s)).but.islands (by decide)
  subs := (ringCompletion_same r full (Nat.and_self _) (Same.refl _ s)).but.subs (by decide)
  turn := congrArg Mem.turn ((ringCompletion_same r full (Nat.and_self _) (Same.refl _ s)).but.mem (by decide))
  others _ hk hne := ringCompletion_stands hr hk hne full

/-- A bank that the ring's owner may reach, in service. -/
structure RingReaches (s : State) (r b : Nat) : Prop where
  bank : b < 96
  island : (s.island 12).off = false
  served : (s.physBank b).isSome = true
  owner : s.ringOwner r < 5
  allowed : s.sramAllowed .dma (s.ringOwner r) (some r) b = true

/-- The families of the rings' registers beside their status. -/
theorem regAddr_ringWords_ne (i r : Nat) : regAddr .dmaRingCfg [i] ≠ regAddr .dmaRingStat [r] ∧ regAddr .dmaRingGrant [i] ≠ regAddr .dmaRingStat [r] ∧
    regAddr .dmaRingBase [i] ≠ regAddr .dmaRingStat [r] := by
  refine ⟨(regAddr_dmaRingStat_ne_of_mod ?_ _).symm, (regAddr_dmaRingStat_ne_of_mod ?_ _).symm, (regAddr_dmaRingStat_ne_of_mod ?_ _).symm⟩
  · show (0x1600004000 + 64 * (i % 128)) % 64 ≠ 16
    omega
  · show (0x1600004020 + 64 * (i % 128)) % 64 ≠ 16
    omega
  · show (0x1600004008 + 64 * (i % 128)) % 64 ≠ 16
    omega

theorem RingSteps.cfg (h : RingSteps s t r) (i : Nat) : rd t .dmaRingCfg [i] = rd s .dmaRingCfg [i] :=
  h.word _ _ (by decide) (regAddr_ringWords_ne i r).1

theorem RingSteps.ringOwner (h : RingSteps s t r) (i : Nat) : t.ringOwner i = s.ringOwner i := by
  rw [State.ringOwner, State.ringOwner, rf, rf, h.cfg]

theorem RingSteps.bankStat (h : RingSteps s t r) (i : Nat) : rd t .memBankStat [i] = rd s .memBankStat [i] :=
  h.word _ _ (by decide) (regAddr_ne _ _ (by decide))

theorem RingSteps.memPart (h : RingSteps s t r) (i : Nat) : rd t .memPart [i] = rd s .memPart [i] :=
  h.word _ _ (by decide) (regAddr_ne _ _ (by decide))

theorem RingSteps.physBank (h : RingSteps s t r) (a : Nat) : t.physBank a = s.physBank a := by
  simp only [State.physBank, bankServed, bankState, rf, h.bankStat, State.sub, h.subs]
  rfl

theorem RingSteps.partOf (h : RingSteps s t r) (a : Nat) : t.partOf a = s.partOf a := by
  simp only [State.partOf, rf, h.memPart]
  rfl

theorem RingSteps.reaches (h : RingSteps s t r) (hs : RingReaches s r b) : RingReaches t r b where
  bank := hs.bank
  island := by rw [State.island, h.islands]; exact hs.island
  served := by rw [h.physBank]; exact hs.served
  owner := by rw [h.ringOwner]; exact hs.owner
  allowed := by
    have hgrant : rd t .dmaRingGrant [r] = rd s .dmaRingGrant [r] := h.word _ _ (by decide) (regAddr_ringWords_ne r r).2.1
    have hallowed := hs.allowed
    unfold State.sramAllowed at hallowed ⊢
    rw [h.ringOwner, h.partOf]
    cases hp : s.partOf b with
    | none => rw [hp] at hallowed; exact hallowed
    | some n =>
      rw [hp] at hallowed
      dsimp only at hallowed ⊢
      rw [rbit, hgrant]
      exact hallowed

/-! ## Reads and writes of a bank by a ring (R30, R431) -/

theorem windowOf_of_inBank {a n : Nat} (hb : b < 96) (ha : InBank b a n) (hn : 0 < n) : windowOf a = some .sram := by
  obtain ⟨hlo, hhi⟩ := ha
  unfold sramBase at hlo hhi
  unfold windowOf
  rw [if_neg (by omega), if_pos (by omega)]

theorem banks_of_inBank {a n : Nat} {f : Nat → Bool} (ha : InBank b a n) (hf : f b = true) :
    ((List.range 96).filter (fun x => a - sramBase < (x + 1) * 0x80000 ∧ x * 0x80000 < a - sramBase + n)).all f = true := by
  obtain ⟨hlo, hhi⟩ := ha
  refine List.all_eq_true.2 (fun x hx => ?_)
  have hin := of_decide_eq_true (List.mem_filter.1 hx).2
  have hxb : x = b := by
    unfold sramBase at hlo hhi hin
    omega
  rw [hxb]
  exact hf

/-- A read that passes the gate to SRAM. -/
theorem fabRead_of_sram {m : Master} {tag a n : Nat} (hg : gate s m tag a false = (0, s)) (hw : windowOf a = some .sram) (ring : Option Nat)
    (port : Nat) :
    fabRead s m tag a n ring port = sramRead s m tag ring port (a - sramBase) n := by
  unfold fabRead
  rw [hg]
  split
  next s1 h =>
    cases h
    rw [hw]
  next c s1 hne h =>
    cases h
    exact absurd rfl hne

/-- A write that passes the gate to SRAM. -/
theorem fabWrite_of_sram {m : Master} {tag a : Nat} {l : List Byte} (hg : gate s m tag a true = (0, s)) (hw : windowOf a = some .sram) (ring : Option Nat) :
    fabWrite s m tag a l ring = sramWriteBy s m tag ring (a - sramBase) l := by
  unfold fabWrite
  rw [hg]
  split
  next s1 h =>
    cases h
    rw [hw]
  next c s1 hne h =>
    cases h
    exact absurd rfl hne

theorem RingReaches.gate (h : RingReaches s r b) {a n : Nat} (ha : InBank b a n) (hn : 0 < n) (write : Bool) :
    gate s .dma (s.ringOwner r) a write = (0, s) :=
  gate_of_reaches rfl (windowOf_of_inBank h.bank ha hn) (Nat.lt_succ_of_lt h.owner) rfl h.island

theorem RingReaches.noneLost (h : RingReaches s r b) {a n : Nat} (ha : InBank b a n) :
    ((List.range 96).filter (fun x => a - sramBase < (x + 1) * 0x80000 ∧ x * 0x80000 < a - sramBase + n)).any (fun x => (s.physBank x).isNone) =
      false := by
  have hall := banks_of_inBank (f := fun x => ! (s.physBank x).isNone) ha (by
    have hserved := h.served
    cases hp : s.physBank b with
    | none => rw [hp] at hserved; exact absurd hserved Bool.false_ne_true
    | some => rfl)
  rw [List.all_eq_true] at hall
  exact List.any_eq_false.2 (fun x hx hnone => by
    have := hall x hx
    rw [hnone] at this
    exact absurd this (by decide))

theorem poisonRead_of_clean (h : s.mem.poison = []) (off n tag port : Nat) : poisonRead s off n tag port = s := by
  rw [poisonRead, poisonIn, h]
  rfl

theorem RingReaches.sramRead (h : RingReaches s r b) (hclean : s.mem.poison = []) {a n : Nat} (ha : InBank b a n) :
    sramRead s .dma (s.ringOwner r) (some r) 20 (a - sramBase) n = (0, sramBytes s (a - sramBase) n, s) := by
  unfold Machine.sramRead
  dsimp only
  rw [banks_of_inBank ha h.allowed, h.noneLost ha, h.island, poisonRead_of_clean hclean, if_neg (by simp), if_neg (by simp),
    if_neg (fun hc => absurd h.owner (by omega))]

theorem RingReaches.fabRead (h : RingReaches s r b) (hclean : s.mem.poison = []) {a n : Nat} (ha : InBank b a n) (hn : 0 < n) :
    fabRead s .dma (s.ringOwner r) a n (some r) 20 = (0, sramBytes s (a - sramBase) n, s) := by
  rw [← h.sramRead hclean ha, fabRead_of_sram (h.gate ha hn false) (windowOf_of_inBank h.bank ha hn)]

theorem RingReaches.sramWriteBy (h : RingReaches s r b) {a : Nat} {l : List Byte} (ha : InBank b a l.length) :
    sramWriteBy s .dma (s.ringOwner r) (some r) (a - sramBase) l = (0, sramStore s (a - sramBase) l) := by
  unfold Machine.sramWriteBy
  dsimp only
  rw [banks_of_inBank ha h.allowed, h.noneLost ha, h.island, if_neg (by simp), if_neg (by simp)]

theorem RingReaches.fabWrite (h : RingReaches s r b) {a : Nat} {l : List Byte} (ha : InBank b a l.length) (hn : 0 < l.length) :
    fabWrite s .dma (s.ringOwner r) a l (some r) = (0, sramStore s (a - sramBase) l) := by
  rw [← h.sramWriteBy ha, fabWrite_of_sram (h.gate ha hn true) (windowOf_of_inBank h.bank ha hn)]

/-! ## The pieces of a plain descriptor (R459) -/

/-- The first `k` pieces of a descriptor without reshuffle. -/
def plainPieces (k : Nat) : List (Nat × Nat × Nat) := (List.range k).map (fun i => (8 * i, 8 * i, 8))

theorem plainPieces_succ (k : Nat) : plainPieces (k + 1) = plainPieces k ++ [(8 * k, 8 * k, 8)] := by
  rw [plainPieces, List.range_succ, List.map_append]
  rfl

/-- What the search for a span has met, and kept, after `k` pieces. -/
theorem foldl_plainPieces (k hi : Nat) :
    (plainPieces k).foldl (fun (a : Nat × List (Nat × Nat × Nat)) x => (a.1 + x.2.2, if 0 ≤ a.1 ∧ a.1 + x.2.2 ≤ hi then x :: a.2 else a.2)) (0, []) =
      (8 * k, (plainPieces (min k (hi / 8))).reverse) := by
  induction k with
  | zero => rw [Nat.zero_min]; rfl
  | succ k ih =>
    rw [plainPieces_succ, List.foldl_append, ih, List.foldl_cons, List.foldl_nil]
    by_cases hfits : 8 * k + 8 ≤ hi
    · rw [if_pos ⟨Nat.zero_le _, hfits⟩, Nat.min_eq_left (by omega : k ≤ hi / 8), Nat.min_eq_left (by omega : k + 1 ≤ hi / 8), plainPieces_succ,
        List.reverse_append]
      rfl
    · rw [if_neg (fun h => hfits h.2), Nat.min_eq_right (by omega : hi / 8 ≤ k), Nat.min_eq_right (by omega : hi / 8 ≤ k + 1)]
      rfl

theorem takeSpan_plainPieces (k hi : Nat) : takeSpan (plainPieces k) 0 hi = plainPieces (min k (hi / 8)) := by
  rw [takeSpan, foldl_plainPieces, List.reverse_reverse]

theorem sliceBytes_take_append {l : List Byte} {k : Nat} (h : 8 * k + 8 ≤ l.length) :
    l.take (8 * k) ++ sliceBytes l (8 * k) 8 = l.take (8 * (k + 1)) := by
  rw [sliceBytes_eq (by omega), show 8 * (k + 1) = 8 * k + 8 by omega, List.take_add]

/-- The pieces of a plain descriptor store the source bytes in their order. -/
theorem writePieces_plain (h : RingReaches s r b) (hclean : s.mem.poison = []) {d : Desc} (hdfix : d.dfix = false) (hdst : InBank b d.dst d.len)
    {l : List Byte} (hl : l.length = d.len) {k : Nat} (hk : 8 * k ≤ d.len) :
    ∃ t, writePieces s r (s.ringOwner r) d l (plainPieces k) = (0, t) ∧ Stores s t (d.dst - sramBase) (l.take (8 * k)) ∧
      RingSteps s t r ∧ RingStands s t r := by
  induction k with
  | zero => exact ⟨s, rfl, by rw [Nat.mul_zero, List.take_zero]; exact stores_nil hclean _, .refl s r, .refl s r⟩
  | succ k ih =>
    obtain ⟨t, hrun, hstores, hsteps, hstands⟩ := ih (by omega)
    have hslice : (sliceBytes l (8 * k) 8).length = 8 := length_sliceBytes ..
    have hspan : InBank b (d.dst + 8 * k) (sliceBytes l (8 * k) 8).length := by
      obtain ⟨hlo, hhi⟩ := hdst
      rw [hslice]
      exact ⟨by omega, by omega⟩
    have hofs : d.dst + 8 * k - sramBase = d.dst - sramBase + (l.take (8 * k)).length := by
      obtain ⟨hlo, -⟩ := hdst
      rw [List.length_take, Nat.min_eq_left (by omega)]
      omega
    have hwrite := (hsteps.reaches h).fabWrite hspan (by rw [hslice]; decide)
    rw [hsteps.ringOwner] at hwrite
    refine ⟨_, ?_, ?_, hsteps.trans (ringSteps_sramStore t r (d.dst + 8 * k - sramBase) (sliceBytes l (8 * k) 8)), hstands.trans ⟨rfl, rfl⟩⟩
    · unfold writePieces at hrun ⊢
      rw [plainPieces_succ, List.foldl_append, hrun, List.foldl_cons, List.foldl_nil]
      dsimp only
      rw [if_pos rfl, if_neg (by rw [hdfix]; exact Bool.false_ne_true), hwrite]
    · rw [hofs, ← sliceBytes_take_append (by omega)]
      exact hstores.append (sramStore_stores hstores.poison _ _)

/-! ## The write-back (R457) -/

theorem leNum_leBytes_eight {v : Nat} (h : v < 2 ^ 64) : leNum (leBytes 8 v) = v := by
  simp only [leBytes, leNum, List.range, List.range.loop, List.map_cons, List.map_nil, List.foldr_cons, List.foldr_nil, BitVec.toNat_ofNat,
    Nat.shiftRight_eq_div_pow]
  omega

/-- A descriptor whose first word is written back with OWN = 0, and whose last tells how it ended. -/
structure WritesBack (s t : State) (r off : Nat) : Prop where
  poison : t.mem.poison = []
  own : bitOf (leNum (sramBytes t off 8)) 63 = false
  outside : ∀ x, x < off ∨ off + 32 ≤ x → sramByte t x = sramByte s x
  steps : RingSteps s t r
  stands : RingStands s t r

theorem bitOf_of_lt {v i : Nat} (h : v < 2 ^ i) : bitOf v i = false := by
  rw [bitOf, Nat.shiftRight_eq_div_pow, Nat.div_eq_of_lt h]
  rfl

theorem writeBack_writes (h : RingReaches s r b) (hclean : s.mem.poison = []) {a : Nat} (ha : InBank b a 32) (code : Nat) :
    WritesBack s (writeBack s r (s.ringOwner r) a code) r (a - sramBase) := by
  obtain ⟨hlo, hhi⟩ := ha
  obtain ⟨w, hw⟩ : ∃ w, leBytes 8 (leNum (sramBytes s (a - sramBase) 8) % 2 ^ 63) = w := ⟨_, rfl⟩
  obtain ⟨e, he⟩ : ∃ e, leBytes 4 code ++ leBytes 4 (s.now % 2 ^ 32) = e := ⟨_, rfl⟩
  have hwlen : w.length = 8 := by rw [← hw, length_leBytes]
  have helen : e.length = 8 := by rw [← he, List.length_append, length_leBytes, length_leBytes]
  have hread := h.fabRead hclean (a := a) (n := 8) ⟨by omega, by omega⟩ (by decide)
  have hfirst := h.fabWrite (a := a) (l := w) ⟨by omega, by omega⟩ (by omega)
  have hsteps := ringSteps_sramStore s r (a - sramBase) w
  have hsecond := (hsteps.reaches h).fabWrite (a := a + 24) (l := e) ⟨by omega, by omega⟩ (by omega)
  rw [hsteps.ringOwner] at hsecond
  have hst := sramStore_stores hclean (a - sramBase) w
  have hst' := sramStore_stores hst.poison (a + 24 - sramBase) e
  have hback : writeBack s r (s.ringOwner r) a code = sramStore (sramStore s (a - sramBase) w) (a + 24 - sramBase) e := by
    unfold writeBack
    rw [hread]
    dsimp only
    rw [if_pos (rfl : 0 = 0), hw, he, hfirst]
    dsimp only
    rw [hsecond]
  rw [hback]
  refine ⟨hst'.poison, ?_, fun x hx => ?_, hsteps.trans (ringSteps_sramStore ..), ⟨rfl, rfl⟩⟩
  · have hbytes : sramBytes (sramStore (sramStore s (a - sramBase) w) (a + 24 - sramBase) e) (a - sramBase) 8 = w := by
      have hfirst8 := hst.sramBytes_eq
      rw [hwlen] at hfirst8
      exact (sramBytes_congr hst.poison hst'.poison (fun i hi => hst'.outside _ (by omega))).trans hfirst8
    rw [hbytes, ← hw, leNum_leBytes_eight (by omega)]
    exact bitOf_of_lt (by omega)
  · rw [hst'.outside x (by omega), hst.outside x (by omega)]

/-! ## A descriptor that a ring copies (R457 to R461) -/

/-- The fields of a plain descriptor. -/
theorem plain_of_ok {d : Desc} (hok : d.ok = true) (hrsh : d.rsh = 0) : 8 ≤ d.len ∧ d.len % 8 = 0 ∧ d.pieces = plainPieces (d.len / 8) := by
  simp only [Desc.ok, Bool.and_eq_true, decide_eq_true_eq] at hok
  obtain ⟨⟨⟨⟨⟨-, hmod⟩, hlen⟩, -⟩, -⟩, -⟩ := hok
  refine ⟨hlen, hmod, ?_⟩
  rw [Desc.pieces, hrsh]
  rfl

section Copies

variable {a : Nat} {d : Desc}

theorem RingCopies.reaches (h : RingCopies s r b a d) : RingReaches s r b := by
  obtain ⟨-, ⟨hb, hisland, hserved, -, howner, hallowed⟩, -⟩ := h
  exact ⟨hb, hisland, hserved, howner, hallowed⟩

theorem RingCopies.fetchDesc (h : RingCopies s r b a d) : fetchDesc s r = (0, a, d, s) := by
  have hreach := h.reaches
  obtain ⟨-, ⟨-, -, -, hclean, -, -⟩, ⟨ha, hbank, hd⟩, -⟩ := h
  unfold Machine.fetchDesc
  dsimp only
  rw [← ha, hreach.fabRead hclean hbank (by decide), hd]

theorem RingCopies.readSource (h : RingCopies s r b a d) :
    readSource s r (s.ringOwner r) d = (0, sramBytes s (d.src - sramBase) d.len, s) := by
  have hreach := h.reaches
  obtain ⟨-, ⟨-, -, -, hclean, -, -⟩, -, ⟨-, hok, hrsh, hsfix, -, -⟩, hsrc, -, -⟩ := h
  unfold Machine.readSource
  rw [if_neg (by rw [hsfix]; exact Bool.false_ne_true)]
  exact hreach.fabRead hclean hsrc (by have := (plain_of_ok hok hrsh).1; omega)

/-- The source bytes up to a limit arrive at the destination. -/
theorem RingCopies.writePieces (h : RingCopies s r b a d) {n : Nat} (hn : n ≤ d.len) (hmod : n % 8 = 0) :
    ∃ t, writePieces s r (s.ringOwner r) d (sramBytes s (d.src - sramBase) d.len) (takeSpan d.pieces 0 n) = (0, t) ∧
      Stores s t (d.dst - sramBase) ((sramBytes s (d.src - sramBase) d.len).take n) ∧ RingSteps s t r ∧ RingStands s t r := by
  have hreach := h.reaches
  obtain ⟨-, ⟨-, -, -, hclean, -, -⟩, -, ⟨-, hok, hrsh, -, hdfix, -⟩, -, hdst, -⟩ := h
  obtain ⟨-, hlen, hpieces⟩ := plain_of_ok hok hrsh
  rw [hpieces, takeSpan_plainPieces, Nat.min_eq_right (by omega)]
  have hrun := writePieces_plain hreach hclean hdfix hdst (length_sramBytes s (d.src - sramBase) d.len) (k := n / 8) (by omega)
  rw [show 8 * (n / 8) = n by omega] at hrun
  exact hrun

theorem RingCopies.batchLimit (h : RingCopies s r b a d) : batchLimit s r d = d.len := by
  obtain ⟨⟨-, -, -, htl, -, -, -⟩, -⟩ := h
  rw [Machine.batchLimit, if_neg (by rw [htl]; exact Bool.false_ne_true)]

end Copies

/-! ## The mover after a descriptor (R464) -/

theorem RingSteps.ringLevel_eq (h : RingSteps s t r) (q : Nat) : ringLevel t q = ringLevel s q := by
  unfold ringLevel
  rw [rbit, rf, h.cfg]
  rfl

theorem RingSteps.onMain_eq (h : RingSteps s t r) (hq : q < 128) (hne : q ≠ r) : onMain t q = onMain s q := by
  unfold onMain
  rw [rf, (h.others q hq hne).stat, rbit, h.cfg, (h.others q hq hne).batch]
  rfl

/-- The ring whose turn it is stays where the ring that has gone on is not the main mover's. -/
theorem RingSteps.servedRing_eq (h : RingSteps s t r) (hs : onMain s r = false) (ht : onMain t r = false) : servedRing t = servedRing s := by
  have hon (lv : Nat) : (List.range 128).filter (fun q => onMain t q && decide (ringLevel t q = lv)) =
      (List.range 128).filter (fun q => onMain s q && decide (ringLevel s q = lv)) := by
    refine List.filter_congr (fun q hq => ?_)
    rw [h.ringLevel_eq]
    by_cases hqr : q = r
    · rw [hqr, hs, ht]
    · rw [h.onMain_eq (List.mem_range.1 hq) hqr]
  have hturn (lv k : Nat) : turnAt t lv k = turnAt s lv k := by
    unfold turnAt
    dsimp only
    rw [hon]
  unfold servedRing
  rw [h.turn]
  simp only [hturn]

/-- The mover that goes on with another ring leaves SRAM as the descriptor left it. -/
theorem nextRing_mem (h : RingSteps s t r) (hserved : ringServed s r = true) (hst : ringSt t r ≠ 2) :
    (nextRing s t r).mem.data = t.mem.data ∧ (nextRing s t r).mem.poison = t.mem.poison := by
  have hoff : ∀ u, RingStands t u r → onMain u r = false := fun u hu => by
    rw [Bool.eq_false_iff]
    exact fun hon => hst (hu.ringSt.symm.trans (ringSt_of_onMain hon))
  unfold nextRing
  dsimp only
  by_cases hmain : onMain s r = true
  · have hturn : servedRing s = some r := by
      rw [ringServed, if_pos hmain] at hserved
      simp only [Bool.and_eq_true, decide_eq_true_eq] at hserved
      exact hserved.1.1
    have hkept : ∀ u, RingStands t u r → u.mem.data = t.mem.data → u.mem.poison = t.mem.poison →
        (switchMover s u).mem.data = t.mem.data ∧ (switchMover s u).mem.poison = t.mem.poison := by
      intro u hu hdata hpoison
      have hleaves : moverLeaves s u = u := by
        rw [moverLeaves, hturn]
        exact if_neg (by rw [hoff u hu]; exact Bool.false_ne_true)
      rw [switchMover_eq, hleaves]
      split
      · exact ⟨hdata, hpoison⟩
      · split
        · exact ⟨hdata, hpoison⟩
        · exact ⟨hdata, hpoison⟩
    split
    · exact hkept _ ⟨rfl, rfl⟩ rfl rfl
    · exact hkept t (.refl t r) rfl rfl
  · rw [if_neg (fun hc => hmain hc.1), switchMover_eq, if_pos (h.servedRing_eq (Bool.eq_false_iff.2 hmain) (hoff t (.refl t r))).symm]
    exact ⟨rfl, rfl⟩

/-! ## The descriptor performed -/

/-- The batch's record after a descriptor of it. -/
def batchAfter (s u : State) (r : Nat) (d : Desc) : Batch :=
  { Batch.none_ with tl := (spGet Batch.none_ s.mem.batch r).tl, moved := (spGet Batch.none_ s.mem.batch r).moved + d.len,
                     since := s.clk.elapsed, split := ¬ mainUp u }

/-- A descriptor's write-back, and its completion told. -/
def descTold (s : State) (r a : Nat) : State := ringCompletion (advanceHead (writeBack s r (s.ringOwner r) a 0) r) r true

/-- What follows the copy, to the state `u`, of a descriptor that ends its batch. -/
def descEnds (s u : State) (r a : Nat) (d : Desc) : State :=
  endBatch { descTold u r a with mem := { (descTold u r a).mem with
    batch := spPut Batch.none_ (descTold u r a).mem.batch r (batchAfter s (descTold u r a) r d) } } r

section Performed

variable {a : Nat} {d : Desc}

theorem RingCopies.descPerform (h : RingCopies s r b a d) (hfull : d.full = true) (hlast : d.last = true) :
    ∃ t u, Stores s t (d.dst - sramBase) (sramBytes s (d.src - sramBase) d.len) ∧ RingSteps s t r ∧ RingStands s t r ∧
      (u = t ∨ u = ringCompletion t r false) ∧ descPerform s r = descEnds s u r a d := by
  have hfetch := h.fetchDesc
  have hread := h.readSource
  have hlim := h.batchLimit
  obtain ⟨t, hwrite, hstores, hsteps, hstands⟩ := h.writePieces (Nat.le_refl _) (plain_of_ok h.2.2.2.1.2.1 h.2.2.2.1.2.2.1).2.1
  obtain ⟨⟨hr, -, -, -, hdone, hhalf, hheld⟩, ⟨-, -, -, hclean, -, -⟩, -, ⟨hown, hok, -, hsfix, -, hchain⟩, -, -, -⟩ := h
  rw [List.take_of_length_le (Nat.le_of_eq (length_sramBytes ..))] at hstores
  obtain ⟨u, hu⟩ : ∃ u, (if d.half = true ∧ ¬ (spGet Batch.none_ s.mem.batch r).halfDone = true ∧ d.len ≤ 2 * d.len then ringCompletion t r false else t) = u :=
    ⟨_, rfl⟩
  have hcode : (if decide (d.len < d.len) = true then 1 else if sourcePoisoned s d.src d.len = true then 2 else 0) = 0 := by
    have hpois : sourcePoisoned s d.src d.len = false := by
      rw [sourcePoisoned, poisonIn, hclean]
      exact Bool.and_false _
    rw [hpois, if_neg (by simp), if_neg Bool.false_ne_true]
  have hwithHeld (l : List Byte) : withHeld [] l = l := rfl
  have hcases : u = t ∨ u = ringCompletion t r false := by
    rw [← hu]
    split
    · exact .inr rfl
    · exact .inl rfl
  have howner : u.ringOwner r = s.ringOwner r := by
    rcases hcases with rfl | rfl
    · exact hsteps.ringOwner r
    · exact (hsteps.trans (ringSteps_ringCompletion t hr false)).ringOwner r
  refine ⟨t, u, hstores, hsteps, hstands, hcases, ?_⟩
  unfold Machine.descPerform descEnds descTold
  rw [hfetch]
  dsimp only
  rw [if_neg (by simp), if_neg (by simp [hown]), if_neg (by simp [hok]), hlim, hread, hheld, hdone]
  dsimp only
  rw [if_neg (by simp), hwithHeld, hwrite]
  dsimp only
  rw [if_neg (by simp), hsfix, if_neg Bool.false_ne_true, hcode, hu, ← howner, if_pos hfull, hlast, if_pos (by simp), chainRing, hchain]
  generalize ringCompletion (advanceHead (writeBack u r (u.ringOwner r) a 0) r) r true = v
  rfl

end Performed

theorem rf_ringCompletion (full : Bool) {hi lo : Nat} (hle : lo ≤ hi) (hhi : hi < 32) (hflag : hi < 7 ∨ 8 < lo) :
    rf (ringCompletion s r full) .dmaRingStat [r] hi lo = rf s .dmaRingStat [r] hi lo := by
  have hflags (i : Nat) (hi7 : i = 7 ∨ i = 8) : rf (setFlag s .dmaRingStat [r] i) .dmaRingStat [r] hi lo = rf s .dmaRingStat [r] hi lo :=
    (congrArg (bitsOf · hi lo) (rd_eq_of_regs (noteBit_regs ..) rfl _ _)).trans
      (rf_wf_apart _ _ _ _ _ _ _ _ (Nat.le_refl _) hhi (by omega) hle)
  refine (congrArg (bitsOf · hi lo) (rd_ringCompletion _ _ _ (by decide))).trans (hflags _ ?_)
  cases full
  · exact .inl rfl
  · exact .inr rfl

theorem rbit_ringCompletion (full : Bool) : rbit (ringCompletion s r full) .dmaRingStat [r] (if full then 8 else 7) = true := by
  have hflag (i : Nat) (hi : i < 32) : rbit (setFlag s .dmaRingStat [r] i) .dmaRingStat [r] i = true :=
    (congrArg (bitOf · i) (rd_eq_of_regs (noteBit_regs ..) rfl _ _)).trans (rbit_wbit s .dmaRingStat [r] i true hi)
  refine (congrArg (bitOf · _) (rd_ringCompletion _ _ _ (by decide))).trans (hflag _ ?_)
  cases full <;> decide

theorem ringCompletion_mem (full : Bool) : (ringCompletion s r full).mem = s.mem :=
  (ringCompletion_same r full (Nat.and_self _) (Same.refl _ s)).but.mem (by decide)

theorem rf_advanceHead {hi lo : Nat} (hle : lo ≤ hi) (hhi : hi < 12) : rf (advanceHead s r) .dmaRingStat [r] hi lo = rf s .dmaRingStat [r] hi lo :=
  rf_wf_dmaRingStat s r _ (by decide) (by omega) (by omega) hle

theorem rf_advanceHead_head : rf (advanceHead s r) .dmaRingStat [r] 23 12 =
    (rf s .dmaRingStat [r] 23 12 + 1) % (4 * 2 ^ rf s .dmaRingCfg [r] 12 9) % 4096 :=
  rf_wf s .dmaRingStat [r] 23 12 _ (by decide) (by decide)

/-- What the write-back and the completion of a descriptor leave. -/
structure DescTold (u v : State) (r off : Nat) : Prop where
  steps : RingSteps u v r
  poison : v.mem.poison = []
  own : bitOf (leNum (sramBytes v off 8)) 63 = false
  outside : ∀ x, x < off ∨ off + 32 ≤ x → sramByte v x = sramByte u x
  pending : rf v .dmaRingStat [r] 5 2 = rf u .dmaRingStat [r] 5 2
  full : rbit v .dmaRingStat [r] 8 = true
  head : rf v .dmaRingStat [r] 23 12 = (rf u .dmaRingStat [r] 23 12 + 1) % (4 * 2 ^ rf u .dmaRingCfg [r] 12 9) % 4096

theorem sramBytes_eq_of_mem (h : t.mem = s.mem) (off n : Nat) : sramBytes t off n = sramBytes s off n := by rw [sramBytes, sramBytes, h]

theorem descTold_tells (hreach : RingReaches u r b) (hclean : u.mem.poison = []) (hr : r < 128) {a : Nat} (ha : InBank b a 32) :
    DescTold u (descTold u r a) r (a - sramBase) := by
  have hback := writeBack_writes hreach hclean ha 0
  unfold descTold
  generalize writeBack u r (u.ringOwner r) a 0 = w at *
  have hmem : (ringCompletion (advanceHead w r) r true).mem = w.mem := ringCompletion_mem true
  have hstat (hi lo : Nat) : rf w .dmaRingStat [r] hi lo = rf u .dmaRingStat [r] hi lo := congrArg (bitsOf · hi lo) hback.stands.stat
  have hcfg : rf w .dmaRingCfg [r] 12 9 = rf u .dmaRingCfg [r] 12 9 := congrArg (bitsOf · 12 9) (hback.steps.cfg r)
  exact ⟨hback.steps.trans ((ringSteps_wf hr 23 12 _).trans (ringSteps_ringCompletion _ hr true)), by rw [hmem]; exact hback.poison,
    by rw [sramBytes_eq_of_mem hmem]; exact hback.own, fun x hx => by rw [sramByte, hmem]; exact hback.outside x hx,
    by rw [rf_ringCompletion true (by decide) (by decide) (by decide), rf_advanceHead (by decide) (by decide), hstat],
    rbit_ringCompletion true,
    by rw [rf_ringCompletion true (by decide) (by decide) (by decide), rf_advanceHead_head, hstat, hcfg]⟩

/-- A batch that ends with nothing pending leaves its ring IDLE. -/
theorem endBatch_of_none (h : rf s .dmaRingStat [r] 5 2 = 0) : endBatch s r = dropBatch (wf s .dmaRingStat [r] 1 0 1) r := by
  unfold endBatch
  dsimp only
  rw [h]
  exact if_neg (Nat.lt_irrefl 0)

theorem ringSteps_dropBatch (s : State) (r : Nat) : RingSteps s (dropBatch s r) r := ringSteps_setBatch s r Batch.none_

/-- A descriptor that ends its batch. -/
structure DescEnds (u v : State) (r off : Nat) : Prop extends DescTold u v r off where
  idle : ringSt v r = 1

theorem descEnds_ends (s : State) {d : Desc} (hreach : RingReaches u r b) (hclean : u.mem.poison = []) (hr : r < 128) {a : Nat} (ha : InBank b a 32)
    (hpend : rf u .dmaRingStat [r] 5 2 = 0) : DescEnds u (descEnds s u r a d) r (a - sramBase) := by
  have htold := descTold_tells hreach hclean hr ha
  unfold descEnds
  generalize batchAfter s (descTold u r a) r d = x
  generalize descTold u r a = v at *
  have hset := ringSteps_setBatch v r x
  have hstat : rd { v with mem := { v.mem with batch := spPut Batch.none_ v.mem.batch r x } } .dmaRingStat [r] = rd v .dmaRingStat [r] :=
    rd_eq_of_regs rfl rfl _ _
  have hdata : ({ v with mem := { v.mem with batch := spPut Batch.none_ v.mem.batch r x } } : State).mem.data = v.mem.data := rfl
  have hpois : ({ v with mem := { v.mem with batch := spPut Batch.none_ v.mem.batch r x } } : State).mem.poison = v.mem.poison := rfl
  generalize ({ v with mem := { v.mem with batch := spPut Batch.none_ v.mem.batch r x } } : State) = w at *
  have hrf (hi lo : Nat) : rf w .dmaRingStat [r] hi lo = rf v .dmaRingStat [r] hi lo := congrArg (bitsOf · hi lo) hstat
  rw [endBatch_of_none ((hrf 5 2).trans (htold.pending.trans hpend))]
  have hend (hi lo : Nat) (hle : lo ≤ hi) (hhi : hi < 32) (hlo : 1 < lo) :
      rf (dropBatch (wf w .dmaRingStat [r] 1 0 1) r) .dmaRingStat [r] hi lo = rf v .dmaRingStat [r] hi lo :=
    ((congrArg (bitsOf · hi lo) (rd_dropBatch ..)).trans (rf_wf_dmaRingStat w r 1 (by decide) hhi (.inr hlo) hle)).trans (hrf hi lo)
  have hbyte (x : Nat) : sramByte (dropBatch (wf w .dmaRingStat [r] 1 0 1) r) x = sramByte v x := congrArg (spGet 0 · x) hdata
  have hclean' : (dropBatch (wf w .dmaRingStat [r] 1 0 1) r).mem.poison = [] := hpois.trans htold.poison
  exact ⟨⟨htold.steps.trans (hset.trans ((ringSteps_wf hr 1 0 1).trans (ringSteps_dropBatch _ r))), hclean',
    by rw [sramBytes_congr htold.poison hclean' (fun i _ => hbyte _)]; exact htold.own,
    fun x hx => (hbyte x).trans (htold.outside x hx), (hend 5 2 (by decide) (by decide) (by decide)).trans htold.pending,
    (rbit_eq_of_rf (hend 8 8 (by decide) (by decide) (by decide))).trans htold.full,
    (hend 23 12 (by decide) (by decide) (by decide)).trans htold.head⟩,
    (congrArg (bitsOf · 1 0) (rd_dropBatch ..)).trans (rf_wf w .dmaRingStat [r] 1 0 1 (by decide) (by decide))⟩

/-! ## The commands (R457, R461, R463) -/

theorem completes_dmaDescriptor {a : Nat} {d : Desc} (h : RingCopies s r b a d) (hfull : d.full = true) (hlast : d.last = true)
    (hpend : rf s .dmaRingStat [r] 5 2 = 0) :
    Completes (.dmaDescriptor r) s fun t =>
      sramBytes t (d.dst - sramBase) d.len = sramBytes s (d.src - sramBase) d.len ∧ rbit t .dmaRingStat [r] 8 = true ∧
      rf t .dmaRingStat [r] 23 12 = (rf s .dmaRingStat [r] 23 12 + 1) % (4 * 2 ^ rf s .dmaRingCfg [r] 12 9) % 4096 ∧
      ringSt t r = 1 ∧ bitOf (leNum (sramBytes t (a - sramBase) 8)) 63 = false := by
  have hreach := h.reaches
  obtain ⟨v, u, hstores, hsteps, hstands, hcases, hperf⟩ := h.descPerform hfull hlast
  obtain ⟨⟨hr, hrun, hserved, -, -, -, -⟩, -, ⟨-, hbank, -⟩, -, -, hdst, hapart⟩ := h
  have htold : RingSteps s u r ∧ u.mem = v.mem ∧ ∀ hi lo, lo ≤ hi → hi < 32 → (hi < 7 ∨ 8 < lo) →
      rf u .dmaRingStat [r] hi lo = rf s .dmaRingStat [r] hi lo := by
    have hv (hi lo : Nat) : rf v .dmaRingStat [r] hi lo = rf s .dmaRingStat [r] hi lo := congrArg (bitsOf · hi lo) hstands.stat
    rcases hcases with rfl | rfl
    · exact ⟨hsteps, rfl, fun hi lo _ _ _ => hv hi lo⟩
    · exact ⟨hsteps.trans (ringSteps_ringCompletion v hr false), ringCompletion_mem false,
        fun hi lo hle hhi hf => (rf_ringCompletion false hle hhi hf).trans (hv hi lo)⟩
  obtain ⟨husteps, humem, hustat⟩ := htold
  have hends := descEnds_ends s (d := d) (husteps.reaches hreach) (by rw [humem]; exact hstores.poison) hr hbank
    ((hustat 5 2 (by decide) (by decide) (by decide)).trans hpend)
  have hexec : exec (.dmaDescriptor r) s = .next (nextRing s (descEnds s u r a d) r) := by
    rw [exec_dmaDescriptor, execDmaDescriptor, if_pos hr, descRun, if_pos ⟨hrun, hserved⟩, hperf]
  rw [Completes, hexec]
  generalize descEnds s u r a d = w at *
  have hquiet := nextRing_mem (husteps.trans hends.steps) hserved (by rw [hends.idle]; decide)
  have hturns := nextRing_turns (s0 := s) hr (by rw [hends.idle]; decide : ringSt w r ≠ 2)
  generalize nextRing s w r = t at *
  have hrf (hi lo : Nat) : rf t .dmaRingStat [r] hi lo = rf w .dmaRingStat [r] hi lo := congrArg (bitsOf · hi lo) hturns.stat
  have hclean : t.mem.poison = [] := hquiet.2.trans hends.poison
  have hbyte (x : Nat) : sramByte t x = sramByte w x := congrArg (spGet 0 · x) hquiet.1
  refine ⟨t, rfl, ?_, (rbit_eq_of_rf (hrf 8 8)).trans hends.full, (hrf 23 12).trans (hends.head.trans ?_), hturns.ringSt.trans hends.idle, ?_⟩
  · have hcopied := hstores.sramBytes_eq
    rw [length_sramBytes] at hcopied
    refine Eq.trans ?_ hcopied
    obtain ⟨hlo, -⟩ := hdst
    obtain ⟨hlo', -⟩ := hbank
    exact sramBytes_congr hstores.poison hclean (fun i hi => by
      rw [hbyte, hends.outside _ (by omega), sramByte, humem]
      rfl)
  · have hcfg : rf u .dmaRingCfg [r] 12 9 = rf s .dmaRingCfg [r] 12 9 := congrArg (bitsOf · 12 9) (husteps.cfg r)
    rw [hustat 23 12 (by decide) (by decide) (by decide), hcfg]
  · rw [sramBytes_congr hends.poison hclean (fun i _ => hbyte _)]
    exact hends.own

theorem take_sramBytes (s : State) (off : Nat) {k n : Nat} (h : k ≤ n) : (sramBytes s off n).take k = sramBytes s off k := by
  rw [sramBytes, ← List.map_take, List.take_range, Nat.min_eq_left h]
  rfl

/-- The state after half of a descriptor: the batch's record, and the completion of half of it. -/
def halfTold (s t : State) (r : Nat) (x : Batch) : State :=
  ringCompletion { t with mem := { t.mem with batch := spPut Batch.none_ t.mem.batch r x } } r false

/-- The batch's record after half of a descriptor. -/
def halfBatch (s : State) (r : Nat) (d : Desc) : Batch :=
  { spGet Batch.none_ s.mem.batch r with
    done := d.len / 2, halfDone := true, read := max (spGet Batch.none_ s.mem.batch r).read (ceilDiv (d.len / 2) 64) }

theorem descHalf_of_copies {a : Nat} {d : Desc} (h : RingCopies s r b a d) (hhalf : d.half = true) (hmod : d.len % 16 = 0) :
    ∃ t x, Stores s t (d.dst - sramBase) (sramBytes s (d.src - sramBase) (d.len / 2)) ∧ RingStands s t r ∧ x.done = d.len / 2 ∧
      descHalf s r = halfTold s t r x := by
  have hfetch := h.fetchDesc
  have hread := h.readSource
  have hlim := h.batchLimit
  obtain ⟨t, hwrite, hstores, -, hstands⟩ := h.writePieces (n := d.len / 2) (by omega) (by omega)
  obtain ⟨⟨-, hrun, hserved, -, hdone, hhalfDone, hheld⟩, -, -, ⟨hown, hok, -⟩, -, -, -⟩ := h
  rw [take_sramBytes _ _ (by omega)] at hstores
  have hwithHeld (l : List Byte) : withHeld [] l = l := rfl
  refine ⟨t, halfBatch s r d, hstores, hstands, rfl, ?_⟩
  unfold descHalf halfTold halfBatch
  rw [if_pos ⟨hrun, hserved⟩, hfetch]
  dsimp only
  rw [hlim, if_pos ⟨rfl, hown, hok, by rw [hhalfDone]; exact Bool.false_ne_true, by omega⟩, hread]
  dsimp only
  rw [if_pos rfl, hheld, hdone, hwithHeld, hwrite]
  dsimp only
  rw [if_pos rfl, if_pos hhalf, Nat.zero_max]

theorem completes_dmaHalfCompletion {a : Nat} {d : Desc} (h : RingCopies s r b a d) (hhalf : d.half = true) (hmod : d.len % 16 = 0) :
    Completes (.dmaHalfCompletion r) s fun t =>
      sramBytes t (d.dst - sramBase) (d.len / 2) = sramBytes s (d.src - sramBase) (d.len / 2) ∧ rbit t .dmaRingStat [r] 7 = true ∧
      (spGet Batch.none_ t.mem.batch r).done = d.len / 2 ∧ ringSt t r = 2 := by
  obtain ⟨v, x, hstores, hstands, hdone, hperf⟩ := descHalf_of_copies h hhalf hmod
  obtain ⟨⟨hr, hrun, -⟩, -⟩ := h
  have hexec : exec (.dmaHalfCompletion r) s = .next (halfTold s v r x) := by
    rw [exec_dmaHalfCompletion, execDmaHalfCompletion, if_pos hr, hperf]
  rw [Completes, hexec]
  unfold halfTold
  have hst : ringSt ({ v with mem := { v.mem with batch := spPut Batch.none_ v.mem.batch r x } } : State) r = 2 :=
    (congrArg (bitsOf · 1 0) (rd_eq_of_regs rfl rfl _ _)).trans (hstands.ringSt.trans hrun)
  have hbatch : spGet Batch.none_ ({ v with mem := { v.mem with batch := spPut Batch.none_ v.mem.batch r x } } : State).mem.batch r = x :=
    spGet_spPut_same _ _ _ _
  have hdata : ({ v with mem := { v.mem with batch := spPut Batch.none_ v.mem.batch r x } } : State).mem.data = v.mem.data := rfl
  have hpois : ({ v with mem := { v.mem with batch := spPut Batch.none_ v.mem.batch r x } } : State).mem.poison = v.mem.poison := rfl
  generalize ({ v with mem := { v.mem with batch := spPut Batch.none_ v.mem.batch r x } } : State) = w at *
  have hmem : (ringCompletion w r false).mem = w.mem := ringCompletion_mem false
  refine ⟨_, rfl, ?_, rbit_ringCompletion false, by rw [hmem, hbatch, hdone], ?_⟩
  · have hcopied := hstores.sramBytes_eq
    rw [length_sramBytes] at hcopied
    rw [sramBytes_eq_of_mem hmem, sramBytes_congr hstores.poison (hpois.trans hstores.poison) (fun i _ => congrArg (spGet 0 · _) hdata), hcopied]
  · exact (rf_ringCompletion false (by decide) (by decide) (by decide)).trans hst

theorem haltRing_shows (s : State) (r : Nat) {code : Nat} (hcode : code < 8) :
    ringSt (haltRing s r code) r = 3 ∧ rf (haltRing s r code) .dmaRingStat [r] 11 9 = code ∧ Fires (haltRing s r code) 172 := by
  have hrf (hi lo : Nat) : rf (haltRing s r code) .dmaRingStat [r] hi lo =
      rf (wf (wf (wf s .dmaRingStat [r] 1 0 3) .dmaRingStat [r] 5 2 0) .dmaRingStat [r] 11 9 code) .dmaRingStat [r] hi lo :=
    congrArg (bitsOf · hi lo) ((rd_raise (by decide) _ _ _).trans (rd_dropBatch ..))
  refine ⟨(hrf 1 0).trans ?_, (hrf 11 9).trans ?_, fires_raise ..⟩
  · rw [rf_wf_dmaRingStat _ _ _ (by decide) (by decide) (by decide) (by decide), rf_wf_dmaRingStat _ _ _ (by decide) (by decide) (by decide) (by decide)]
    exact rf_wf _ _ _ _ _ _ (by decide) (by decide)
  · rw [rf_wf _ _ _ _ _ _ (by decide) (by decide)]
    exact Nat.mod_eq_of_lt hcode

theorem completes_dmaDescriptor_refused (hr : r < 128) (hrun : ringSt s r = 2) (hserved : ringServed s r = true)
    (hfetch : (fetchDesc s r).1 = 3) :
    Completes (.dmaDescriptor r) s fun t => ringSt t r = 3 ∧ rf t .dmaRingStat [r] 11 9 = 3 ∧ Fires t 172 := by
  obtain ⟨⟨st, a, d, u⟩, hf⟩ : ∃ x, fetchDesc s r = x := ⟨_, rfl⟩
  obtain rfl : st = 3 := by rw [hf] at hfetch; exact hfetch
  have hexec : exec (.dmaDescriptor r) s = .next (nextRing s (haltRing u r 3) r) := by
    rw [exec_dmaDescriptor, execDmaDescriptor, if_pos hr, descRun, if_pos ⟨hrun, hserved⟩, descPerform, hf]
    dsimp only
    rw [if_pos (by decide)]
    rfl
  obtain ⟨hhalt, hcode, hfires⟩ := haltRing_shows u r (code := 3) (by decide)
  rw [Completes, hexec]
  generalize haltRing u r 3 = v at *
  have hturns := nextRing_turns (s0 := s) hr (by rw [hhalt]; decide : ringSt v r ≠ 2)
  exact ⟨_, rfl, hturns.ringSt.trans hhalt, (congrArg (bitsOf · 11 9) hturns.stat).trans hcode, hfires.nextRing s r⟩

/-- Settles O42: a batch opens from IDLE alone; a mover stores the bytes of a descriptor where it names, writes its OWN word back and moves HEAD
on; and the mover that then goes on with another ring leaves both as they are. -/
theorem ringCommandsComplete : Obligations.RingCommandsComplete := by
  unfold Obligations.RingCommandsComplete
  exact ⟨fun _ n _ he hup hr htl hidle => completes_dmaStart n he hup hr htl hidle,
    fun _ _ _ _ hoff htag hr hgo hidle => ⟨_, exec_dmaRingKick_of_may hoff htag hr hgo, trigRing_of_idle hr hidle false⟩,
    fun _ _ _ _ hoff htag hr hgo hst => completes_dmaRingKick_of_off hoff htag hr hgo hst,
    fun _ _ _ _ _ h hfull hlast hpend => completes_dmaDescriptor h hfull hlast hpend,
    fun _ _ _ _ _ h hhalf hmod => completes_dmaHalfCompletion h hhalf hmod,
    fun _ _ hr hrun hserved hfetch => completes_dmaDescriptor_refused hr hrun hserved hfetch,
    fun _ _ hr => completes_dmaRingDisable hr⟩

end Sys2Proof.Machine
end

section
/-!
The monitor converters (R549 to R557): the settlement of O51.
-/

namespace Sys2Proof.Machine

set_option Elab.async false

variable {s t u : State} {m a : Nat}

/-! ## An amplifier that faults (R546) -/

/-- The drain of an amplifier falls, its fault latches, and its request clears. -/
def drainFaulted (s : State) (a : Nat) : State := wbit (setFlag (drainFall s a) .bdacDrnFault [] a) .bdacDrnReq [] a false

theorem drainFaulted_shows (s : State) (ha : a < 64) : rbit (drainFaulted s a) .bdacDrnStat [] a = false ∧
    rbit (drainFaulted s a) .bdacDrnFault [] a = true ∧ rbit (drainFaulted s a) .bdacDrnReq [] a = false := by
  have hflag (id : RegId) : rd (setFlag (drainFall s a) .bdacDrnFault [] a) id [] = rd (wbit (drainFall s a) .bdacDrnFault [] a true) id [] :=
    rd_eq_of_regs (noteBit_regs ..) rfl _ _
  refine ⟨?_, ?_, rbit_wbit _ _ _ _ _ ha⟩
  · refine (congrArg (bitOf · a) ?_).trans (rbit_wbit s .bdacDrnStat [] a false ha)
    exact (rd_wbit_other _ _ _ _ _ _ _ (regAddr_ne _ _ (by decide))).trans ((hflag _).trans (rd_wbit_other _ _ _ _ _ _ _ (regAddr_ne _ _ (by decide))))
  · refine (congrArg (bitOf · a) ?_).trans (rbit_wbit (drainFall s a) .bdacDrnFault [] a true ha)
    exact (rd_wbit_other _ _ _ _ _ _ _ (regAddr_ne _ _ (by decide))).trans (hflag _)

/-- An amplifier that faults: the state in which that is told. -/
def faultNoted (s : State) (a : Nat) : State :=
  let u := drainFaulted ((s.ampChannels a).foldl strobeUndone s) a
  { u with hk := { u.hk with safeAt := spPut 0 u.hk.safeAt a (u.clk.elapsed + 1) } }

theorem ampFault_of_sound (h : s.ampFaulted a = false) (cause : Nat) :
    ampFault s a cause = failPath (raise (faultNoted s a) 193 a cause) a := by
  unfold ampFault
  rw [if_neg (by rw [h]; exact Bool.false_ne_true)]
  rfl

theorem rd_faultNoted (id : RegId) (ix : List Nat) :
    rd (faultNoted s a) id ix = rd (drainFaulted ((s.ampChannels a).foldl strobeUndone s) a) id ix := rd_eq_of_regs rfl rfl _ _

theorem strobeUndone_evt (c : Nat) : (strobeUndone s c).evt = s.evt := by
  unfold strobeUndone
  dsimp only
  split
  · rw [wr_evt]
    rfl
  · rfl

theorem faultNoted_evt : (faultNoted s a).evt = s.evt := by
  have hundone : ((s.ampChannels a).foldl strobeUndone s).evt = s.evt :=
    List.foldlRecOn (motive := fun u => u.evt = s.evt) (s.ampChannels a) strobeUndone rfl (fun _ h c _ => (strobeUndone_evt c).trans h)
  unfold faultNoted drainFaulted drainFall
  dsimp only
  rw [wbit_evt, setFlag_evt, wbit_evt, hundone]

theorem Fires.ampFault {n : Nat} (h : Fires s n) (a cause : Nat) : Fires (ampFault s a cause) n := by
  by_cases hf : s.ampFaulted a = true
  · unfold Machine.ampFault
    rwa [if_pos hf]
  · rw [ampFault_of_sound (Bool.eq_false_iff.2 hf)]
    exact (Fires.raise (h.of_evt faultNoted_evt) _ _ _).failPath a

/-- What an amplifier's fault leads to (R546). -/
theorem ampFaults_ampFault (ha : a < 64) (h : s.ampFaulted a = false) (cause : Nat) : AmpFaults (ampFault s a cause) a := by
  obtain ⟨hstat, hfault, hreq⟩ := drainFaulted_shows ((s.ampChannels a).foldl strobeUndone s) ha
  have hnoted (id : RegId) := rd_faultNoted (s := s) (a := a) id []
  rw [ampFault_of_sound h]
  generalize drainFaulted ((s.ampChannels a).foldl strobeUndone s) a = u at *
  generalize faultNoted s a = v at *
  have hfires : Fires (raise v 193 a cause) 193 := fires_raise ..
  have hrd (id : RegId) (hid : NoRepeatCount id) : rd (failPath (raise v 193 a cause) a) id [] = rd u id [] :=
    (((failPath_same a (Nat.and_self _) (Same.refl _ (raise v 193 a cause))).but).rd_eq (by decide) (by decide)
      (fun _ h => absurd h List.not_mem_nil)).trans ((rd_raise hid _ _ _).trans (hnoted id))
  exact ⟨(congrArg (bitOf · a) (hrd _ (by decide))).trans hstat, (congrArg (bitOf · a) (hrd _ (by decide))).trans hfault,
    (congrArg (bitOf · a) (hrd _ (by decide))).trans hreq, failPath_failed ha, hfires.failPath a⟩

/-! ## The registers of a converter -/

theorem ne_of_mod512 {x y : Nat} (h : x % 512 ≠ y % 512) : x ≠ y := fun e => h (congrArg (· % 512) e)

theorem regAddr_monCtrl_mod (ix : List Nat) : regAddr .monCtrl ix % 512 = 0x00 := by
  cases ix with
  | nil => rfl
  | cons i ix =>
    show (0x1800002000 + 512 * (i % 2)) % 512 = _
    omega

theorem regAddr_monStat_mod (ix : List Nat) : regAddr .monStat ix % 512 = 0x08 := by
  cases ix with
  | nil => rfl
  | cons i ix =>
    show (0x1800002008 + 512 * (i % 2)) % 512 = _
    omega

theorem regAddr_monData_mod (ix : List Nat) : regAddr .monData ix % 512 = 0x10 := by
  cases ix with
  | nil => rfl
  | cons i ix =>
    show (0x1800002010 + 512 * (i % 2)) % 512 = _
    omega

theorem regAddr_monLost_mod (ix : List Nat) : regAddr .monLost ix % 512 = 0x20 := by
  cases ix with
  | nil => rfl
  | cons i ix =>
    show (0x1800002020 + 512 * (i % 2)) % 512 = _
    omega

theorem regAddr_monLim_mod (m e : Nat) : 384 ≤ regAddr .monLim [m, e] % 512 := by
  show 384 ≤ (0x1800002180 + 512 * (m % 2) + 8 * (e % 16)) % 512
  omega

/-! ## Triggers (R553) -/

theorem exec_monTrigger_of_may {tag : Nat} (hm : m < 2) (htag : s.tagDeviceOrD2 tag = true) (hup : (s.island 33).off = false) :
    exec (.monTrigger tag m) s = .next (monTrigger s m) := by
  have hwrite : hkWrite s tag .monTrig [m] 1 = monTrigger s m := by
    have hmay : regTag s tag .monTrig = true := htag
    have hfree : freezeRefused s tag .monTrig [m] 1 = false := rfl
    have hown : ownCommand .monTrig = true := rfl
    unfold hkWrite regWrite
    rw [hup, if_neg Bool.false_ne_true, if_neg (by decide), if_neg (by decide), hmay, hfree, if_neg (by decide), hown, if_pos rfl]
    rfl
  show (if m < 2 then _ else _) = _
  rw [if_pos hm, hwrite]

/-- An entry of a sequence begins. -/
theorem monEntry_shows (s : State) (m : Nat) {e : Nat} (he : e < 16) : rbit (monEntry s m e) .monStat [m] 0 = true ∧
    rf (monEntry s m e) .monStat [m] 7 4 = e ∧ ((monEntry s m e).mon m).since = s.clk.elapsed ∧ (monEntry s m e).clk = s.clk := by
  have hrd : rd (monEntry s m e) .monStat [m] = rd (wf (wbit s .monStat [m] 0 true) .monStat [m] 7 4 e) .monStat [m] := rd_eq_of_regs rfl rfl _ _
  refine ⟨?_, ?_, ?_, rfl⟩
  · refine (congrArg (bitOf · 0) hrd).trans (Eq.trans ?_ (rbit_wbit s .monStat [m] 0 true (by decide)))
    exact rbit_eq_of_rf (rf_wf_apart _ _ _ _ _ _ _ _ (by decide) (by decide) (by decide) (by decide))
  · refine (congrArg (bitsOf · 7 4) hrd).trans ((rf_wf _ _ _ _ _ _ (by decide) (by decide)).trans ?_)
    exact Nat.mod_eq_of_lt he
  · have hmon : (monEntry s m e).mon m = { s.mon m with since := s.clk.elapsed } := spGet_spPut_same _ _ _ _
    rw [hmon]

theorem completes_monTrigger_of_idle {tag : Nat} (hm : m < 2) (htag : s.tagDeviceOrD2 tag = true) (hup : (s.island 33).off = false)
    (hen : rbit s .monCtrl [m] 0 = true) (hidle : rbit s .monStat [m] 0 = false) :
    Completes (.monTrigger tag m) s fun t =>
      rbit t .monStat [m] 0 = true ∧ rf t .monStat [m] 7 4 = 0 ∧ (t.mon m).since = s.clk.elapsed := by
  have htrig : monTrigger s m = monEntry s m 0 := by
    unfold monTrigger
    rw [if_neg (by simp [hen]), if_pos (by simp [hidle])]
  obtain ⟨hbusy, hentry, hsince, -⟩ := monEntry_shows s m (e := 0) (by decide)
  exact ⟨_, exec_monTrigger_of_may hm htag hup, by rw [htrig]; exact ⟨hbusy, hentry, hsince⟩⟩

theorem completes_monTrigger_of_busy {tag : Nat} (hm : m < 2) (htag : s.tagDeviceOrD2 tag = true) (hup : (s.island 33).off = false)
    (hen : rbit s .monCtrl [m] 0 = true) (hbusy : rbit s .monStat [m] 0 = true) (hheld : rbit s .monStat [m] 1 = false) :
    Completes (.monTrigger tag m) s fun t => rbit t .monStat [m] 1 = true ∧ rbit t .monStat [m] 0 = true := by
  have htrig : monTrigger s m = wbit s .monStat [m] 1 true := by
    unfold monTrigger
    rw [if_neg (by simp [hen]), if_neg (by simp [hbusy]), if_pos (by simp [hheld])]
  exact ⟨_, exec_monTrigger_of_may hm htag hup, by
    rw [htrig]
    exact ⟨rbit_wbit _ _ _ _ _ (by decide), (rbit_wbit_apart true (by decide) (by decide)).trans hbusy⟩⟩

theorem rd_setFlag_same (s : State) (id : RegId) (ix : List Nat) (i : Nat) : rd (setFlag s id ix i) id ix = rd (wbit s id ix i true) id ix :=
  rd_eq_of_regs (noteBit_regs ..) rfl _ _

theorem completes_monTrigger_of_held {tag : Nat} (hm : m < 2) (htag : s.tagDeviceOrD2 tag = true) (hup : (s.island 33).off = false)
    (hen : rbit s .monCtrl [m] 0 = true) (hbusy : rbit s .monStat [m] 0 = true) (hheld : rbit s .monStat [m] 1 = true) :
    Completes (.monTrigger tag m) s fun t =>
      rbit t .monStat [m] 3 = true ∧ rd t .monLost [m] = min 0xFFFFFFFF (rd s .monLost [m] + 1) ∧ Fires t 196 := by
  have htrig : monTrigger s m = raise (bump (setFlag s .monStat [m] 3) .monLost [m]) 196 m NA := by
    unfold monTrigger
    rw [if_neg (by simp [hen]), if_neg (by simp [hbusy]), if_neg (by simp [hheld])]
  have hne : regAddr .monLost [m] ≠ regAddr .monStat [m] := ne_of_mod512 (by rw [regAddr_monLost_mod, regAddr_monStat_mod]; decide)
  refine ⟨_, exec_monTrigger_of_may hm htag hup, ?_⟩
  rw [htrig]
  refine ⟨?_, ?_, fires_raise ..⟩
  · refine (congrArg (bitOf · 3) ?_).trans (rbit_wbit s .monStat [m] 3 true (by decide))
    exact (rd_raise (by decide) _ _ _).trans ((rd_wr_other _ _ _ _ _ _ hne.symm).trans (rd_setFlag_same ..))
  · refine (rd_raise (by decide) _ _ _).trans ((rd_bump _ _ _ _ (by decide)).trans ?_)
    rw [rd_setFlag_other _ _ _ _ _ hne]

/-! ## The data register (R552) -/

theorem rf_wbit_apart {id : RegId} {ix : List Nat} {i h l : Nat} (b : Bool) (hw : h < (regRow id).width) (ha : h < i ∨ i < l) (hle : l ≤ h) :
    rf (wbit s id ix i b) id ix h l = rf s id ix h l := by
  unfold wbit
  exact rf_wf_apart _ _ _ _ _ _ _ _ (Nat.le_refl _) hw ha hle

theorem regRead_monData (s : State) (x : Master) (ix : List Nat) : regRead s x .monData ix = (rd s .monData ix, wbit s .monData ix 36 false) := by
  unfold regRead
  generalize (wbit s .monData ix 36 false) = u
  rfl

theorem exec_monDataRead_of_up (hm : m < 2) (hup : (s.island 33).off = false) :
    exec (.monDataRead m) s = .next (emit (wbit s .monData [m] 36 false) (.bus 0 (leBytes 8 (rd s .monData [m])))) := by
  rw [exec_monDataRead]
  unfold execMonDataRead
  have hread := regRead_monData s (.pair 0) [m]
  rw [if_neg (by omega), hup, if_neg Bool.false_ne_true]
  generalize wbit s .monData [m] 36 false = u at *
  generalize rd s .monData [m] = v at *
  generalize regRead s (.pair 0) .monData [m] = p at *
  rw [hread]

theorem rbit_emit (s : State) (x : OutMsg) (id : RegId) (ix : List Nat) (i : Nat) : rbit (emit s x) id ix i = rbit s id ix i :=
  congrArg (bitOf · i) (rd_eq_of_regs rfl rfl _ _)

theorem rf_emit (s : State) (x : OutMsg) (id : RegId) (ix : List Nat) (hi lo : Nat) : rf (emit s x) id ix hi lo = rf s id ix hi lo :=
  congrArg (bitsOf · hi lo) (rd_eq_of_regs rfl rfl _ _)

theorem completes_monDataRead (hm : m < 2) (hup : (s.island 33).off = false) :
    Completes (.monDataRead m) s fun t =>
      t.out = s.out ++ [.bus 0 (leBytes 8 (rd s .monData [m]))] ∧ rbit t .monData [m] 36 = false ∧
      rf t .monData [m] 35 0 = rf s .monData [m] 35 0 := by
  refine ⟨_, exec_monDataRead_of_up hm hup, ?_, ?_, ?_⟩
  · rw [emit_out, wbit_out]
  · rw [rbit_emit]
    exact rbit_wbit s .monData [m] 36 false (by decide)
  · rw [rf_emit]
    exact rf_wbit_apart _ (by decide) (by decide) (by decide)

/-! ## Results (R550 to R554) -/

/-- The result of the entry in progress, in MONm_DATA where the entry asks for it. -/
def entryTaken (s : State) (m : Nat) (r : Int) : State :=
  let e := rf s .monStat [m] 7 4
  let w := rd s .monSeq [m, e]
  let s0 := reachElapsed s ((s.mon m).since + monTicks w)
  if bitOf w 35 then s0 else monDeliver s0 m e (ofSigned 24 r) (decide (bitsOf w 11 6 = 32))

/-- A raw result outside the window of its limits. -/
def limitsMissed (l : Nat) (raw : Int) : Bool := bitOf l 32 && (decide (raw < toSigned 16 l) || decide (toSigned 16 (l >>> 16) < raw))

/-- The converter with an entry's standing against its limits on record. -/
def entryNoted (s : State) (m e : Nat) (raw : Int) : State :=
  s.setMon m { s.mon m with out := if limitsMissed (rd s .monLim [m, e]) raw ∧ bitOf (rd s .monLim [m, e]) 33 then setIns e (s.mon m).out
                                   else (s.mon m).out.filter (· ≠ e) }

/-- An entry's raw result against its limits, and the fault of amplifier `a` that may follow. -/
def entryJudged (s : State) (m e a : Nat) (raw : Int) : State :=
  if limitsMissed (rd s .monLim [m, e]) raw then
    let r := raise (entryNoted s m e raw) 198 (e + 16 * m) a
    if bitOf (rd s .monLim [m, e]) 33 then ampFault r a 2 else r
  else entryNoted s m e raw

/-- The state in which a result has been consumed and judged. -/
def entryDealt (s : State) (m : Nat) (r x : Int) : State :=
  let e := rf s .monStat [m] 7 4
  let w := rd s .monSeq [m, e]
  let raw := toSigned 16 (ofSigned 24 r >>> 8)
  entryJudged (monConsumer (entryTaken s m r) w raw x) m e (bitsOf w 34 29) raw

theorem monResult_eq (r x : Int) (hbusy : rbit s .monStat [m] 0 = true) : monResult s m r x =
    if rf (entryDealt s m r x) .monCtrl [m] 19 16 ≤ rf s .monStat [m] 7 4 then monEnd (entryDealt s m r x) m
    else monEntry (entryDealt s m r x) m (rf s .monStat [m] 7 4 + 1) := by
  unfold monResult
  rw [if_pos hbusy]
  rfl

theorem exec_monEntryResult_of_up (r : Int) (x : Nat) (hm : m < 2) (hup : (s.island 33).off = false) :
    exec (.monEntryResult m r x) s = .next (monResult s m r x) := by
  show (if m < 2 ∧ ¬ _ then _ else _) = _
  rw [if_pos ⟨hm, by rw [hup]; exact Bool.false_ne_true⟩]

theorem monConsumer_of_none {w : Nat} (h : bitsOf w 28 27 = 0) (raw x : Int) : monConsumer s w raw x = s := by
  unfold monConsumer
  rw [h]
  rfl

/-- What a result may change before its consumer: time, events, and the converter's status and data. -/
theorem entryTaken_same (s : State) (m : Nat) (r : Int) :
    SameBut [.clk, .air, .fresh, .evt] [.evtRpt, .monData, .monStat] s (entryTaken s m r) := by
  have hreach := reachElapsed_same ((s.mon m).since + monTicks (rd s .monSeq [m, rf s .monStat [m] 7 4]))
    (m := allow [.clk, .air, .fresh, .evt] [.evtRpt, .monData, .monStat]) (by decide) (Same.refl _ s)
  unfold entryTaken
  exact (same_ite hreach (monDeliver_same _ _ _ _ (by decide) hreach)).but

theorem rd_entryTaken {id : RegId} {ix : List Nat} (hrpt : NoRepeatCount id) (hdata : ∀ ix', regAddr .monData ix' ≠ regAddr id ix)
    (hstat : ∀ ix', regAddr .monStat ix' ≠ regAddr id ix) (r : Int) : rd (entryTaken s m r) id ix = rd s id ix :=
  (entryTaken_same s m r).rd_eq (by decide) (by decide) (fun id' hid ix' => by
    simp only [List.mem_cons, List.not_mem_nil, or_false] at hid
    rcases hid with rfl | rfl | rfl
    · exact regAddr_ne _ _ hrpt
    · exact hdata ix'
    · exact hstat ix')

theorem rd_entryTaken_monCtrl (r : Int) : rd (entryTaken s m r) .monCtrl [m] = rd s .monCtrl [m] :=
  rd_entryTaken (by decide) (fun _ => ne_of_mod512 (by rw [regAddr_monData_mod, regAddr_monCtrl_mod]; decide))
    (fun _ => ne_of_mod512 (by rw [regAddr_monStat_mod, regAddr_monCtrl_mod]; decide)) r

theorem rd_entryTaken_monLim (e : Nat) (r : Int) : rd (entryTaken s m r) .monLim [m, e] = rd s .monLim [m, e] :=
  rd_entryTaken (by decide)
    (fun _ => ne_of_mod512 (by rw [regAddr_monData_mod]; exact Nat.ne_of_lt (Nat.lt_of_lt_of_le (by decide) (regAddr_monLim_mod m e))))
    (fun _ => ne_of_mod512 (by rw [regAddr_monStat_mod]; exact Nat.ne_of_lt (Nat.lt_of_lt_of_le (by decide) (regAddr_monLim_mod m e)))) r

theorem rd_entryNoted (e : Nat) (raw : Int) (id : RegId) (ix : List Nat) : rd (entryNoted s m e raw) id ix = rd s id ix :=
  rd_eq_of_regs rfl rfl _ _

/-- A result that was not read is lost, and that is told. -/
def lossTold (s : State) (m e : Nat) : State := if rbit s .monData [m] 36 then raise (setFlag s .monStat [m] 2) 195 m e else s

theorem rd_lossTold {id : RegId} {ix : List Nat} (e : Nat) (hrpt : NoRepeatCount id) (hne : regAddr id ix ≠ regAddr .monStat [m]) :
    rd (lossTold s m e) id ix = rd s id ix := by
  unfold lossTold
  split
  · exact (rd_raise hrpt _ _ _).trans (rd_setFlag_other _ _ _ _ _ hne)
  · rfl

theorem rbit_lossTold (e : Nat) {i : Nat} (hi : i < 32) (hne : i ≠ 2) : rbit (lossTold s m e) .monStat [m] i = rbit s .monStat [m] i := by
  unfold lossTold
  split
  · exact (congrArg (bitOf · i) ((rd_raise (by decide) _ _ _).trans (rd_setFlag_same ..))).trans (rbit_wbit_apart true hi hne)
  · rfl

theorem lossTold_tells (e : Nat) (h : rbit s .monData [m] 36 = true) : rbit (lossTold s m e) .monStat [m] 2 = true ∧ Fires (lossTold s m e) 195 := by
  unfold lossTold
  rw [if_pos h]
  exact ⟨(congrArg (bitOf · 2) ((rd_raise (by decide) _ _ _).trans (rd_setFlag_same ..))).trans (rbit_wbit _ _ _ _ true (by decide)), fires_raise ..⟩

/-- MONm_DATA of a differential input in the plain format. -/
def plainData (e v : Nat) : Nat := ofSigned 32 (toSigned 24 v) + e * 2 ^ 32 + 2 ^ 36

theorem monDeliver_plain {e : Nat} (v : Nat) (hplain : rbit s .monCtrl [m] 4 = false) :
    monDeliver s m e v false = wr (lossTold s m e) .monData [m] (plainData e v) := by
  have hmode : rbit (lossTold s m e) .monCtrl [m] 4 = false :=
    (congrArg (bitOf · 4) (rd_lossTold e (by decide) (ne_of_mod512 (by rw [regAddr_monCtrl_mod, regAddr_monStat_mod]; decide)))).trans hplain
  unfold monDeliver
  dsimp only
  rw [show (if rbit s .monData [m] 36 = true then raise (setFlag s .monStat [m] 2) 195 m e else s) = lossTold s m e from rfl, hmode,
    if_neg Bool.false_ne_true, if_neg Bool.false_ne_true]
  rfl

theorem plainData_lt {e : Nat} (he : e < 16) (v : Nat) : plainData e v < 2 ^ 64 := by
  have := ofSigned_lt 32 (toSigned 24 v)
  unfold plainData
  omega

theorem monDeliver_shows {e : Nat} (v : Nat) (hplain : rbit s .monCtrl [m] 4 = false) (he : e < 16) :
    rd (monDeliver s m e v false) .monData [m] = plainData e v ∧
    rbit (monDeliver s m e v false) .monStat [m] 1 = rbit s .monStat [m] 1 ∧
    (rbit s .monData [m] 36 = true → rbit (monDeliver s m e v false) .monStat [m] 2 = true ∧ Fires (monDeliver s m e v false) 195) := by
  rw [monDeliver_plain v hplain]
  have hne : regAddr .monStat [m] ≠ regAddr .monData [m] := ne_of_mod512 (by rw [regAddr_monStat_mod, regAddr_monData_mod]; decide)
  have hstat (i : Nat) : rbit (wr (lossTold s m e) .monData [m] (plainData e v)) .monStat [m] i = rbit (lossTold s m e) .monStat [m] i :=
    congrArg (bitOf · i) (rd_wr_other _ _ _ _ _ _ hne)
  refine ⟨(rd_wr_same ..).trans (Nat.mod_eq_of_lt (plainData_lt he v)), (hstat 1).trans (rbit_lossTold e (by decide) (by decide)), fun h => ?_⟩
  obtain ⟨hlost, hfires⟩ := lossTold_tells e h
  exact ⟨(hstat 2).trans hlost, hfires.of_evt (wr_evt ..)⟩

/-- A sequence that ends with no trigger held and not continuous leaves its converter idle. -/
theorem monEnd_of_none (hheld : rbit s .monStat [m] 1 = false) (honce : rf s .monCtrl [m] 3 1 ≠ 3) : monEnd s m = wbit s .monStat [m] 0 false := by
  unfold monEnd
  dsimp only
  rw [rbit_wbit_apart false (by decide) (by decide), hheld, if_neg Bool.false_ne_true, if_neg (fun h => honce ?_)]
  exact (congrArg (bitsOf · 3 1) (rd_wbit_other _ _ _ _ _ _ _
    (ne_of_mod512 (by rw [regAddr_monCtrl_mod, regAddr_monStat_mod]; decide)))).symm.trans h.1

theorem rf_entry_lt (s : State) (m : Nat) : rf s .monStat [m] 7 4 < 16 := Nat.mod_lt _ (by decide)

/-- What a result taken in the plain format shows. -/
structure PlainTaken (s t : State) (m e : Nat) (r : Int) : Prop where
  data : rd t .monData [m] = plainData e (ofSigned 24 r)
  held : rbit t .monStat [m] 1 = rbit s .monStat [m] 1
  lost : rbit s .monData [m] 36 = true → rbit t .monStat [m] 2 = true ∧ Fires t 195
  elapsed : t.clk.elapsed = max s.clk.elapsed ((s.mon m).since + monTicks (rd s .monSeq [m, e]))

theorem entryTaken_plain {e : Nat} (r : Int) (he : rf s .monStat [m] 7 4 = e) (hplain : rbit s .monCtrl [m] 4 = false)
    (hkeep : rbit s .monSeq [m, e] 35 = false) (hdiff : rf s .monSeq [m, e] 11 6 ≠ 32) : PlainTaken s (entryTaken s m r) m e r := by
  have hlt : e < 16 := he ▸ rf_entry_lt s m
  have htaken : entryTaken s m r = monDeliver (reachElapsed s ((s.mon m).since + monTicks (rd s .monSeq [m, e]))) m e (ofSigned 24 r) false := by
    unfold entryTaken
    dsimp only
    rw [he, show bitOf (rd s .monSeq [m, e]) 35 = false from hkeep, if_neg Bool.false_ne_true,
      decide_eq_false (show ¬ bitsOf (rd s .monSeq [m, e]) 11 6 = 32 from hdiff)]
  rw [htaken]
  have hrd (id ix) := rd_reachElapsed (s := s) ((s.mon m).since + monTicks (rd s .monSeq [m, e])) id ix
  have helapsed := reachElapsed_elapsed (s := s) ((s.mon m).since + monTicks (rd s .monSeq [m, e]))
  generalize reachElapsed s ((s.mon m).since + monTicks (rd s .monSeq [m, e])) = u at *
  obtain ⟨hdata, hheld, hlost⟩ := monDeliver_shows (s := u) (m := m) (ofSigned 24 r) ((congrArg (bitOf · 4) (hrd ..)).trans hplain) hlt
  have hclk : (monDeliver u m e (ofSigned 24 r) false).clk = u.clk :=
    (monDeliver_same m e (ofSigned 24 r) false (Nat.and_self _) (Same.refl _ u)).but.clk (by decide)
  exact ⟨hdata, hheld.trans (congrArg (bitOf · 1) (hrd ..)), fun h => hlost ((congrArg (bitOf · 36) (hrd ..)).trans h),
    (congrArg Clk.elapsed hclk).trans helapsed⟩

/-- A result whose entry has no consumer and no limits ends its sequence. -/
theorem monResult_of_last {e : Nat} (r x : Int) (hbusy : rbit s .monStat [m] 0 = true) (he : rf s .monStat [m] 7 4 = e)
    (hlast : rf s .monCtrl [m] 19 16 = e) (hkind : rf s .monSeq [m, e] 28 27 = 0) (hlim : rbit s .monLim [m, e] 32 = false) :
    monResult s m r x = monEnd (entryNoted (entryTaken s m r) m e (toSigned 16 (ofSigned 24 r >>> 8))) m := by
  have hdealt : entryDealt s m r x = entryNoted (entryTaken s m r) m e (toSigned 16 (ofSigned 24 r >>> 8)) := by
    have hnone : limitsMissed (rd (entryTaken s m r) .monLim [m, e]) (toSigned 16 (ofSigned 24 r >>> 8)) = false := by
      rw [rd_entryTaken_monLim, limitsMissed, show bitOf (rd s .monLim [m, e]) 32 = false from hlim, Bool.false_and]
    unfold entryDealt
    dsimp only
    rw [he, monConsumer_of_none hkind, entryJudged, hnone, if_neg Bool.false_ne_true]
  have hctrl : rf (entryNoted (entryTaken s m r) m e (toSigned 16 (ofSigned 24 r >>> 8))) .monCtrl [m] 19 16 = e :=
    (congrArg (bitsOf · 19 16) ((rd_entryNoted ..).trans (rd_entryTaken_monCtrl r))).trans hlast
  rw [monResult_eq r x hbusy, hdealt, hctrl, he, if_pos (Nat.le_refl e)]

theorem completes_monEntryResult_last (r : Int) (x : Nat) (hm : m < 2) (hup : (s.island 33).off = false) (hbusy : rbit s .monStat [m] 0 = true)
    (hheld : rbit s .monStat [m] 1 = false) (honce : rf s .monCtrl [m] 3 1 = 0) (hlast : rf s .monCtrl [m] 19 16 = rf s .monStat [m] 7 4)
    (hplain : rbit s .monCtrl [m] 4 = false) (hkeep : rbit s .monSeq [m, rf s .monStat [m] 7 4] 35 = false)
    (hdiff : rf s .monSeq [m, rf s .monStat [m] 7 4] 11 6 ≠ 32) (hkind : rf s .monSeq [m, rf s .monStat [m] 7 4] 28 27 = 0)
    (hlim : rbit s .monLim [m, rf s .monStat [m] 7 4] 32 = false) :
    Completes (.monEntryResult m r x) s fun t =>
      rd t .monData [m] = ofSigned 32 (toSigned 24 (ofSigned 24 r)) + rf s .monStat [m] 7 4 * 2 ^ 32 + 2 ^ 36 ∧
      rbit t .monStat [m] 0 = false ∧ (rbit s .monData [m] 36 = true → rbit t .monStat [m] 2 = true ∧ Fires t 195) ∧
      t.clk.elapsed = max s.clk.elapsed ((s.mon m).since + monTicks (rd s .monSeq [m, rf s .monStat [m] 7 4])) := by
  have hres := monResult_of_last r x hbusy rfl hlast hkind hlim
  have htaken := entryTaken_plain (s := s) (m := m) r rfl hplain hkeep hdiff
  have hctrl := rd_entryTaken_monCtrl (s := s) (m := m) r
  have hexec := exec_monEntryResult_of_up r x hm hup
  rw [hres] at hexec
  generalize rf s .monStat [m] 7 4 = e at *
  generalize entryTaken s m r = u at *
  have hnote (id ix) := rd_entryNoted (s := u) (m := m) e (toSigned 16 (ofSigned 24 r >>> 8)) id ix
  have hevt : (entryNoted u m e (toSigned 16 (ofSigned 24 r >>> 8))).evt = u.evt := rfl
  have hclk : (entryNoted u m e (toSigned 16 (ofSigned 24 r >>> 8))).clk = u.clk := rfl
  generalize entryNoted u m e (toSigned 16 (ofSigned 24 r >>> 8)) = v at *
  rw [monEnd_of_none ((congrArg (bitOf · 1) (hnote ..)).trans (htaken.held.trans hheld))
    (fun h => absurd ((congrArg (bitsOf · 3 1) ((hnote ..).trans hctrl)).symm.trans h) (by rw [show bitsOf (rd s .monCtrl [m]) 3 1 = 0 from honce]; decide))] at hexec
  have hne : regAddr .monData [m] ≠ regAddr .monStat [m] := ne_of_mod512 (by rw [regAddr_monData_mod, regAddr_monStat_mod]; decide)
  refine ⟨_, hexec, ((rd_wbit_other _ _ _ _ _ _ _ hne).trans (hnote ..)).trans htaken.data, rbit_wbit _ _ _ _ _ (by decide), fun h => ?_, ?_⟩
  · obtain ⟨hlost, hfires⟩ := htaken.lost h
    exact ⟨(rbit_wbit_apart false (by decide) (by decide)).trans ((congrArg (bitOf · 2) (hnote ..)).trans hlost),
      (hfires.of_evt hevt).of_evt (wbit_evt ..)⟩
  · rw [wbit_clk, hclk]
    exact htaken.elapsed

/-! ## A result outside its limits (R554) -/

theorem rd_monEntry_apart {id : RegId} (hid : (regRow id).addr + regSpan id < (regRow .monStat).addr) (e : Nat) :
    rd (monEntry s m e) id [] = rd s id [] := by
  have hne : regAddr id [] ≠ regAddr .monStat [m] := regAddr_ne _ _ (.inl hid)
  rw [monEntry, rd_eq_of_regs (setMon_regs ..) rfl, rd_wf_other _ _ _ _ _ _ _ _ hne, rd_wbit_other _ _ _ _ _ _ _ hne]

theorem monEntry_fe (e : Nat) : (monEntry s m e).fe = s.fe := by rw [monEntry, setMon_fe, wf_fe, wbit_fe]

theorem monEntry_evt (e : Nat) : (monEntry s m e).evt = s.evt := by rw [monEntry, setMon_evt, wf_evt, wbit_evt]

theorem ampFaults_monEntry (h : AmpFaults s a) (e : Nat) : AmpFaults (monEntry s m e) a := by
  obtain ⟨hstat, hfault, hreq, hfailed, hfires⟩ := h
  exact ⟨(congrArg (bitOf · a) (rd_monEntry_apart (by decide) e)).trans hstat, (congrArg (bitOf · a) (rd_monEntry_apart (by decide) e)).trans hfault,
    (congrArg (bitOf · a) (rd_monEntry_apart (by decide) e)).trans hreq, by rw [State.pathFe, monEntry_fe]; exact hfailed,
    hfires.of_evt (monEntry_evt e)⟩

/-- A result below its limit, of an entry that faults its amplifier. -/
theorem entryDealt_of_low {e : Nat} (r x : Int) (he : rf s .monStat [m] 7 4 = e) (hkind : rf s .monSeq [m, e] 28 27 = 0)
    (hlim : rbit s .monLim [m, e] 32 = true) (hact : rbit s .monLim [m, e] 33 = true)
    (hlow : toSigned 16 (ofSigned 24 r >>> 8) < toSigned 16 (rd s .monLim [m, e])) :
    entryDealt s m r x = ampFault (raise (entryNoted (entryTaken s m r) m e (toSigned 16 (ofSigned 24 r >>> 8))) 198 (e + 16 * m)
      (rf s .monSeq [m, e] 34 29)) (rf s .monSeq [m, e] 34 29) 2 := by
  have hmissed : limitsMissed (rd (entryTaken s m r) .monLim [m, e]) (toSigned 16 (ofSigned 24 r >>> 8)) = true := by
    rw [rd_entryTaken_monLim, limitsMissed, show bitOf (rd s .monLim [m, e]) 32 = true from hlim, decide_eq_true hlow]
    rfl
  unfold entryDealt
  dsimp only
  rw [he, monConsumer_of_none hkind, entryJudged, hmissed, if_pos rfl, rd_entryTaken_monLim,
    show bitOf (rd s .monLim [m, e]) 33 = true from hact, if_pos rfl]
  rfl

theorem completes_monEntryResult_low (r : Int) (x : Nat) (hm : m < 2) (hup : (s.island 33).off = false) (hbusy : rbit s .monStat [m] 0 = true)
    (hmore : rf s .monCtrl [m] 19 16 > rf s .monStat [m] 7 4) (hkind : rf s .monSeq [m, rf s .monStat [m] 7 4] 28 27 = 0)
    (hlim : rbit s .monLim [m, rf s .monStat [m] 7 4] 32 = true) (hact : rbit s .monLim [m, rf s .monStat [m] 7 4] 33 = true)
    (hlow : toSigned 16 (ofSigned 24 r >>> 8) < toSigned 16 (rd s .monLim [m, rf s .monStat [m] 7 4]))
    (hsound : s.ampFaulted (rf s .monSeq [m, rf s .monStat [m] 7 4] 34 29) = false) :
    Completes (.monEntryResult m r x) s fun t =>
      Fires t 198 ∧ AmpFaults t (rf s .monSeq [m, rf s .monStat [m] 7 4] 34 29) ∧ rf t .monStat [m] 7 4 = rf s .monStat [m] 7 4 + 1 := by
  have hdealt := entryDealt_of_low r x rfl hkind hlim hact hlow
  have hctrl := rd_entryTaken_monCtrl (s := s) (m := m) r
  have hfault : rd (entryTaken s m r) .bdacDrnFault [] = rd s .bdacDrnFault [] :=
    rd_entryTaken (by decide) (fun _ => regAddr_ne _ _ (by decide)) (fun _ => regAddr_ne _ _ (by decide)) r
  have ha : rf s .monSeq [m, rf s .monStat [m] 7 4] 34 29 < 64 := Nat.mod_lt _ (by decide)
  have hlast : rf s .monCtrl [m] 19 16 < 16 := Nat.mod_lt _ (by decide)
  have hexec := exec_monEntryResult_of_up r x hm hup
  rw [monResult_eq r x hbusy, hdealt] at hexec
  generalize rf s .monSeq [m, rf s .monStat [m] 7 4] 34 29 = a at *
  generalize rf s .monStat [m] 7 4 = e at *
  have hnote (id ix) := rd_entryNoted (s := entryTaken s m r) (m := m) e (toSigned 16 (ofSigned 24 r >>> 8)) id ix
  generalize entryNoted (entryTaken s m r) m e (toSigned 16 (ofSigned 24 r >>> 8)) = u at *
  have hfires : Fires (raise u 198 (e + 16 * m) a) 198 := fires_raise ..
  have hrd {id : RegId} (ix : List Nat) (h : NoRepeatCount id) : rd (raise u 198 (e + 16 * m) a) id ix = rd (entryTaken s m r) id ix :=
    (rd_raise h _ _ _).trans (hnote ..)
  generalize raise u 198 (e + 16 * m) a = v at *
  have hfaults := ampFaults_ampFault ha ((congrArg (bitOf · a) ((hrd _ (by decide)).trans hfault)).trans hsound) 2
  have hctrl' : rf (ampFault v a 2) .monCtrl [m] 19 16 = rf s .monCtrl [m] 19 16 := congrArg (bitsOf · 19 16)
    (((ampFault_same a 2 (Nat.and_self _) (Same.refl _ v)).but.rd_eq_apart (by decide) (by decide) (by decide)).trans ((hrd _ (by decide)).trans hctrl))
  have hfires' := hfires.ampFault a 2
  generalize ampFault v a 2 = w at *
  rw [hctrl', if_neg (by omega)] at hexec
  obtain ⟨-, hentry, -, -⟩ := monEntry_shows w m (e := e + 1) (by omega)
  exact ⟨_, hexec, hfires'.of_evt (monEntry_evt _), ampFaults_monEntry hfaults _, hentry⟩

/-- Settles O51: a trigger starts, is held or is lost by what MONm_STAT shows; a result goes to MONm_DATA and ends or goes on with its sequence,
and one outside its limits faults its amplifier. -/
theorem monitorCommandsComplete : Obligations.MonitorCommandsComplete := by
  unfold Obligations.MonitorCommandsComplete
  exact ⟨fun _ _ _ hm htag hup hen hidle => completes_monTrigger_of_idle hm htag hup hen hidle,
    fun _ _ _ hm htag hup hen hbusy hheld => completes_monTrigger_of_busy hm htag hup hen hbusy hheld,
    fun _ _ _ hm htag hup hen hbusy hheld => completes_monTrigger_of_held hm htag hup hen hbusy hheld,
    fun _ _ r x hm hup hbusy hheld honce hlast hplain hkeep hdiff hkind hlim =>
      completes_monEntryResult_last r x hm hup hbusy hheld honce hlast hplain hkeep hdiff hkind hlim,
    fun _ _ r x hm hup hbusy hmore hkind hlim hact hlow hsound =>
      completes_monEntryResult_low r x hm hup hbusy hmore hkind hlim hact hlow hsound,
    fun _ _ hm hup => completes_monDataRead hm hup⟩

end Sys2Proof.Machine
end

section
/-!
Ports, keys, time and lanes of the packet link (R413 to R426): the settlement of O40.
-/

namespace Sys2Proof.Machine

set_option Elab.async false

variable {s t : State} {n : Nat}

/-! ## The state of a port (R414) -/

/-- A port that is enabled and aligned, with a SA where MACsec asks for one. -/
def comesUp (s : State) (n : Nat) (aligned sa : Bool) : Bool := rbit s .lnkPortCfg [n] 0 && aligned && (sa || ¬ rbit s .lnkPortMsec [n] 0)

/-- LNK_PORTn_STAT with a port's state. -/
def portShown (s : State) (n : Nat) (aligned sa : Bool) : State :=
  wf s .lnkPortStat [n] 2 0 (b2n (comesUp s n aligned sa) + 2 * b2n aligned + 4 * b2n sa)

theorem synceAgain_eq (s : State) : ∃ a, synceAgain s = { s with lnk := { s.lnk with squelchAt := a } } := by
  unfold synceAgain
  split
  · exact ⟨s.lnk.squelchAt, rfl⟩
  · exact ⟨_, rfl⟩

/-- What a port's state leaves: LNK_PORTn_STAT as it shows it, a firing on a change, and of the link the start of a SYNCE_OUT squelch. -/
theorem portState_leaves (aligned sa : Bool) :
    (∀ id ix, NoRepeatCount id → rd (portState s n aligned sa) id ix = rd (portShown s n aligned sa) id ix) ∧
      (comesUp s n aligned sa ≠ s.portUp n → Fires (portState s n aligned sa) (if comesUp s n aligned sa then 128 else 129)) ∧
      (portState s n aligned sa).lnk.moves = s.lnk.moves := by
  obtain ⟨v, hv, hevt, hlnk, hrd⟩ : ∃ v : State, (if comesUp s n aligned sa ≠ s.portUp n ∧ rf (portShown s n aligned sa) .lnkSynceCfg [] 3 2 = n
      then synceAgain (portShown s n aligned sa) else portShown s n aligned sa) = v ∧ v.evt = s.evt ∧ v.lnk.moves = s.lnk.moves ∧
        ∀ id ix, rd v id ix = rd (portShown s n aligned sa) id ix := by
    obtain ⟨a, ha⟩ := synceAgain_eq (portShown s n aligned sa)
    refine ⟨_, rfl, ?_⟩
    split
    · rw [ha]
      exact ⟨rfl, rfl, fun id ix => rd_eq_of_regs rfl rfl id ix⟩
    · exact ⟨rfl, rfl, fun _ _ => rfl⟩
  have heq : portState s n aligned sa = if comesUp s n aligned sa = s.portUp n then v else raise v (if comesUp s n aligned sa then 128 else 129) n NA := by
    rw [← hv]
    rfl
  rw [heq]
  split
  · next h => exact ⟨fun id ix _ => hrd id ix, fun h' => absurd h h', hlnk⟩
  · exact ⟨fun id ix h => (rd_raise h _ _ _).trans (hrd id ix), fun _ => fires_raise .., (congrArg Lnk.moves (raise_lnk ..)).trans hlnk⟩

theorem portShown_code_lt (a b c : Bool) : b2n a + 2 * b2n b + 4 * b2n c < 8 := by revert a b c; decide

theorem portShown_bits (aligned sa : Bool) : rbit (portShown s n aligned sa) .lnkPortStat [n] 0 = comesUp s n aligned sa ∧
    rbit (portShown s n aligned sa) .lnkPortStat [n] 2 = sa := by
  have h : rf (portShown s n aligned sa) .lnkPortStat [n] 2 0 = b2n (comesUp s n aligned sa) + 2 * b2n aligned + 4 * b2n sa :=
    (rf_wf _ _ _ _ _ _ (by decide) (by decide)).trans (Nat.mod_eq_of_lt (portShown_code_lt ..))
  have hbit (i : Nat) (hi : i < 3) : rbit (portShown s n aligned sa) .lnkPortStat [n] i =
      (b2n (comesUp s n aligned sa) + 2 * b2n aligned + 4 * b2n sa).testBit i := by
    rw [← h, rf, testBit_bitsOf, Nat.zero_add, decide_eq_true (by omega), Bool.true_and]
    exact bitOf_iff_testBit ..
  rw [hbit 0 (by decide), hbit 2 (by decide)]
  clear h hbit
  generalize comesUp s n aligned sa = a
  revert a aligned sa
  decide

theorem portState_bits (aligned sa : Bool) : (portState s n aligned sa).portUp n = comesUp s n aligned sa ∧
    rbit (portState s n aligned sa) .lnkPortStat [n] 2 = sa := by
  have h := (portState_leaves (s := s) (n := n) aligned sa).1 .lnkPortStat [n] (by decide)
  obtain ⟨hup, hsa⟩ := portShown_bits (s := s) (n := n) aligned sa
  exact ⟨(congrArg (bitOf · 0) h).trans hup, (congrArg (bitOf · 2) h).trans hsa⟩

/-- LNK_PORTn_STAT above the fields of the port's state. -/
theorem rf_portState_high {hi lo : Nat} (hlo : 2 < lo) (hle : lo ≤ hi) (hw : hi < 32) (aligned sa : Bool) :
    rf (portState s n aligned sa) .lnkPortStat [n] hi lo = rf s .lnkPortStat [n] hi lo :=
  (congrArg (bitsOf · hi lo) ((portState_leaves aligned sa).1 .lnkPortStat [n] (by decide))).trans
    (rf_wf_apart _ _ _ _ _ _ _ _ (by decide) hw (.inr hlo) hle)

theorem completes_portStateChange (aligned sa : Bool) (hn : n < 4) (ht : n < s.tenants) :
    Completes (.portStateChange n aligned sa) s fun t =>
      t.portUp n = (rbit s .lnkPortCfg [n] 0 && aligned && (sa || !rbit s .lnkPortMsec [n] 0)) ∧
      (s.portUp n = false → t.portUp n = true → Fires t 128) ∧ (s.portUp n = true → t.portUp n = false → Fires t 129) := by
  have hexec : exec (.portStateChange n aligned sa) s = .next (portState s n aligned sa) := if_pos ⟨ht, hn⟩
  obtain ⟨hup, -⟩ := portState_bits (s := s) (n := n) aligned sa
  obtain ⟨-, hfires, -⟩ := portState_leaves (s := s) (n := n) aligned sa
  refine ⟨_, hexec, hup.trans (by simp [comesUp]), fun hdown h => ?_, fun hwas h => ?_⟩
  · rw [hup] at h
    rw [h, hdown, if_pos rfl] at hfires
    exact hfires (by decide)
  · rw [hup] at h
    rw [h, hwas, if_neg (by decide)] at hfires
    exact hfires (by decide)

/-! ## Keys (R413, R578) -/

theorem completes_sakInstall {an : Nat} (hn : n < 4) (han : an < 4) (hmsec : rbit s .lnkPortMsec [n] 0 = true) (hcak : s.hasCak n = true)
    (hnew : rbit s .lnkPortStat [n] 2 = false ∨ rf s .lnkPortStat [n] 4 3 ≠ an) :
    Completes (.sakInstall n an) s fun t =>
      rf t .lnkPortStat [n] 4 3 = an ∧ rbit t .lnkPortStat [n] 2 = true ∧ spGet (0, []) t.sec.oldCak n = (0, []) ∧ Fires t 139 := by
  obtain ⟨u, hu⟩ : ∃ u : State, u = { s.setPort n { s.port n with pn := 0, rekey := false } with
    sec := { s.sec with oldCak := spPut (0, []) s.sec.oldCak n (0, []) } } := ⟨_, rfl⟩
  have hcond : n < 4 ∧ an < 4 ∧ rbit s .lnkPortMsec [n] 0 ∧ s.hasCak n ∧ (¬ rbit s .lnkPortStat [n] 2 ∨ rf s .lnkPortStat [n] 4 3 ≠ an) :=
    ⟨hn, han, hmsec, hcak, hnew.imp_left fun h => by rw [h]; decide⟩
  have hexec : exec (.sakInstall n an) s = .next (raise (portState (wf u .lnkPortStat [n] 4 3 an) n (rbit u .lnkPortStat [n] 1) true) 139 n NA) := by
    rw [hu]
    exact if_pos hcond
  have hsec : (wf u .lnkPortStat [n] 4 3 an).sec.oldCak = spPut (0, []) s.sec.oldCak n (0, []) := by rw [wf_sec, hu]
  have han' : rf (wf u .lnkPortStat [n] 4 3 an) .lnkPortStat [n] 4 3 = an :=
    (rf_wf _ _ _ _ _ _ (by decide) (by decide)).trans (Nat.mod_eq_of_lt han)
  generalize rbit u .lnkPortStat [n] 1 = aligned at *
  generalize wf u .lnkPortStat [n] 4 3 an = v at *
  have hfield := rf_portState_high (s := v) (n := n) (hi := 4) (lo := 3) (by decide) (by decide) (by decide) aligned true
  obtain ⟨-, hsa⟩ := portState_bits (s := v) (n := n) aligned true
  have hkeep : (portState v n aligned true).sec = v.sec := (portState_same n aligned true (Nat.and_self _) (Same.refl _ v)).but.sec (by decide)
  generalize portState v n aligned true = w at *
  have hrd : rd (raise w 139 n NA) .lnkPortStat [n] = rd w .lnkPortStat [n] := rd_raise (by decide) _ _ _
  refine ⟨_, hexec, (congrArg (bitsOf · 4 3) hrd).trans (hfield.trans han'), (congrArg (bitOf · 2) hrd).trans hsa, ?_, fires_raise ..⟩
  rw [raise_sec, hkeep, hsec, spGet_spPut_same]

/-! ## PTP (R417, R418) -/

/-- What the end of LOCKED leaves (R417). -/
theorem ptpUnlock_leaves (k : Nat) : (ptpUnlock s k).ptpLocked = false ∧ rf (ptpUnlock s k) .lnkPtpStat [] 2 0 = k % 8 ∧
    (s.ptpLocked = true → Fires (ptpUnlock s k) 141) ∧ (ptpUnlock s k).lnk.master = s.lnk.master ∧ (ptpUnlock s k).lnk.ppsAt = s.lnk.ppsAt ∧
    (∀ src, Fires s src → Fires (ptpUnlock s k) src) := by
  have hstat : rf (wf s .lnkPtpStat [] 2 0 k) .lnkPtpStat [] 2 0 = k % 8 := rf_wf _ _ _ _ _ _ (by decide) (by decide)
  have htl : rd (wf s .lnkPtpStat [] 2 0 k) .tlStatus [] = rd s .tlStatus [] := rd_wf_other _ _ _ _ _ _ _ _ (regAddr_ne _ _ (by decide))
  have hlnk : (wf s .lnkPtpStat [] 2 0 k).lnk = s.lnk := wf_lnk ..
  have hevt : (wf s .lnkPtpStat [] 2 0 k).evt = s.evt := wf_evt ..
  unfold ptpUnlock
  dsimp only
  generalize wf s .lnkPtpStat [] 2 0 k = u at *
  split
  · obtain ⟨v, hv⟩ : ∃ v : State, v = { u with lnk := { u.lnk with good := 0, bad := 0 } } := ⟨_, rfl⟩
    rw [← hv]
    have hv' (id ix) : rd v id ix = rd u id ix := by rw [hv]; exact rd_eq_of_regs rfl rfl id ix
    have hstat' : rd (wbit v .tlStatus [] 1 false) .lnkPtpStat [] = rd u .lnkPtpStat [] :=
      (rd_wbit_other _ _ _ _ _ _ _ (regAddr_ne _ _ (by decide))).trans (hv' ..)
    have hlock : rbit (wbit v .tlStatus [] 1 false) .tlStatus [] 1 = false := rbit_wbit _ _ _ _ _ (by decide)
    have hlnk' : (wbit v .tlStatus [] 1 false).lnk = { s.lnk with good := 0, bad := 0 } := by rw [wbit_lnk, hv, hlnk]
    have hevt' : (wbit v .tlStatus [] 1 false).evt = s.evt := by rw [wbit_evt, hv, ← hevt]
    generalize wbit v .tlStatus [] 1 false = w at *
    refine ⟨(congrArg (bitOf · 1) (rd_raise (by decide) ..)).trans hlock, (congrArg (bitsOf · 2 0) ((rd_raise (by decide) ..).trans hstat')).trans hstat,
      fun _ => fires_raise .., ?_, ?_, fun src h => (h.of_evt hevt').raise ..⟩
    · rw [raise_lnk, hlnk']
    · rw [raise_lnk, hlnk']
  · next h =>
    have hunlocked : s.ptpLocked = false := by simpa using h
    exact ⟨(congrArg (bitOf · 1) htl).trans hunlocked, hstat, fun h' => absurd h' h, congrArg Lnk.master hlnk, congrArg Lnk.ppsAt hlnk,
      fun src h => h.of_evt hevt⟩

/-- What the start of a holdover leaves (R418). -/
theorem holdover_leaves (h : rbit s .tlStatus [] 2 = false) : rbit (holdover s) .tlStatus [] 2 = true ∧ (holdover s).ptpLocked = false ∧
    (holdover s).lnk.master = none ∧ rf (holdover s) .lnkPtpStat [] 2 0 = 3 ∧ Fires (holdover s) 6 := by
  have heq : holdover s = raise (wbit (ptpUnlock { s with lnk := { s.lnk with master := none } } 3) .tlStatus [] 2 true) 6 NA NA := if_neg (by rw [h]; decide)
  obtain ⟨hlock, hstat, -, hmaster, -, -⟩ := ptpUnlock_leaves (s := { s with lnk := { s.lnk with master := none } }) 3
  rw [heq]
  generalize ptpUnlock { s with lnk := { s.lnk with master := none } } 3 = u at *
  have hset : rbit (wbit u .tlStatus [] 2 true) .tlStatus [] 2 = true := rbit_wbit _ _ _ _ _ (by decide)
  have hlock' : rbit (wbit u .tlStatus [] 2 true) .tlStatus [] 1 = false := (rbit_wbit_apart true (by decide) (by decide)).trans hlock
  have hstat' : rd (wbit u .tlStatus [] 2 true) .lnkPtpStat [] = rd u .lnkPtpStat [] := rd_wbit_other _ _ _ _ _ _ _ (regAddr_ne _ _ (by decide))
  have hlnk : (wbit u .tlStatus [] 2 true).lnk = u.lnk := wbit_lnk ..
  generalize wbit u .tlStatus [] 2 true = v at *
  refine ⟨(congrArg (bitOf · 2) (rd_raise (by decide) ..)).trans hset, (congrArg (bitOf · 1) (rd_raise (by decide) ..)).trans hlock', ?_,
    (congrArg (bitsOf · 2 0) ((rd_raise (by decide) ..).trans hstat')).trans hstat, fires_raise ..⟩
  rw [raise_lnk, hlnk, hmaster]

theorem holdover_keeps : (holdover s).lnk.ppsAt = s.lnk.ppsAt ∧ (holdover s).clk = s.clk ∧ (∀ src, Fires s src → Fires (holdover s) src) := by
  have hclk : (holdover s).clk = s.clk := (holdover_same (Nat.and_self _) (Same.refl _ s)).but.clk (by decide)
  by_cases h : rbit s .tlStatus [] 2 = true
  · have heq : holdover s = s := if_pos h
    rw [heq]
    exact ⟨rfl, rfl, fun _ h => h⟩
  · have heq : holdover s = raise (wbit (ptpUnlock { s with lnk := { s.lnk with master := none } } 3) .tlStatus [] 2 true) 6 NA NA := if_neg h
    obtain ⟨-, -, -, -, hpps, hfires⟩ := ptpUnlock_leaves (s := { s with lnk := { s.lnk with master := none } }) 3
    refine ⟨?_, hclk, fun src hs => ?_⟩
    · rw [heq, raise_lnk, wbit_lnk, hpps]
    · rw [heq]
      exact ((hfires src hs).of_evt (wbit_evt ..)).raise ..

/-- An interval's offset shown, with the counts of good and bad intervals (R417). -/
def intervalNoted (s : State) (q : Int) (good bad : Nat) : State :=
  wf { s with lnk := { s.lnk with good := good, bad := bad } } .lnkPtpStat [] 63 32 (ofSigned 32 q)

theorem intervalNoted_ptpLocked (q : Int) (good bad : Nat) : (intervalNoted s q good bad).ptpLocked = s.ptpLocked :=
  congrArg (bitOf · 1) ((rd_wf_other _ _ _ _ _ _ _ _ (regAddr_ne _ _ (by decide))).trans (rd_eq_of_regs rfl rfl ..))

theorem completes_ptpSyncInterval_lock {q : Int} (hm : s.lnk.master ≠ none) (hl : s.ptpLocked = false) (hq : Int.natAbs q ≤ 200) (hg : 63 ≤ s.lnk.good) :
    Completes (.ptpSyncInterval q) s fun t => t.ptpLocked = true ∧ rf t .lnkPtpStat [] 2 0 = 2 ∧ Fires t 140 := by
  obtain ⟨u, hu⟩ : ∃ u, u = intervalNoted s q (min 64 (s.lnk.good + 1)) (min 16 (if 800 < q.natAbs then s.lnk.bad + 1 else 0)) := ⟨_, rfl⟩
  have hexec : exec (.ptpSyncInterval q) s = .next (raise (wbit (wf u .lnkPtpStat [] 2 0 2) .tlStatus [] 1 true) 140 NA NA) := by
    have hmaster : s.lnk.master.isNone = false := Option.isNone_eq_false_iff.2 (Option.isSome_iff_ne_none.2 hm)
    show execPtpSyncInterval q s = _
    unfold execPtpSyncInterval
    rw [hmaster, if_neg Bool.false_ne_true]
    dsimp only
    rw [if_pos hq, if_pos ⟨by rw [hl]; decide, by omega⟩, hu]
    rfl
  have hstat : rf (wf u .lnkPtpStat [] 2 0 2) .lnkPtpStat [] 2 0 = 2 := rf_wf _ _ _ _ _ _ (by decide) (by decide)
  generalize wf u .lnkPtpStat [] 2 0 2 = v at *
  have hstat' : rd (wbit v .tlStatus [] 1 true) .lnkPtpStat [] = rd v .lnkPtpStat [] := rd_wbit_other _ _ _ _ _ _ _ (regAddr_ne _ _ (by decide))
  have hlock : rbit (wbit v .tlStatus [] 1 true) .tlStatus [] 1 = true := rbit_wbit _ _ _ _ _ (by decide)
  generalize wbit v .tlStatus [] 1 true = w at *
  exact ⟨_, hexec, (congrArg (bitOf · 1) (rd_raise (by decide) ..)).trans hlock,
    (congrArg (bitsOf · 2 0) ((rd_raise (by decide) ..).trans hstat')).trans hstat, fires_raise ..⟩

theorem completes_ptpSyncInterval_unlock {q : Int} (hm : s.lnk.master ≠ none) (hl : s.ptpLocked = true) (hq : 800 < Int.natAbs q)
    (hb : 15 ≤ s.lnk.bad) :
    Completes (.ptpSyncInterval q) s fun t => t.ptpLocked = false ∧ rf t .lnkPtpStat [] 2 0 = 1 ∧ Fires t 141 := by
  have hexec : exec (.ptpSyncInterval q) s = .next (ptpUnlock (intervalNoted s q (min 64 0) (min 16 (s.lnk.bad + 1))) 1) := by
    have hmaster : s.lnk.master.isNone = false := Option.isNone_eq_false_iff.2 (Option.isSome_iff_ne_none.2 hm)
    show execPtpSyncInterval q s = _
    unfold execPtpSyncInterval
    rw [hmaster, if_neg Bool.false_ne_true]
    dsimp only
    rw [if_neg (show ¬ q.natAbs ≤ 200 by omega), if_neg (by omega), if_pos hq, if_pos ⟨hl, by omega⟩]
    rfl
  have hl' := (intervalNoted_ptpLocked q (min 64 0) (min 16 (s.lnk.bad + 1))).trans hl
  obtain ⟨hunlock, hstat, hfires, -, -, -⟩ := ptpUnlock_leaves (s := intervalNoted s q (min 64 0) (min 16 (s.lnk.bad + 1))) 1
  exact ⟨_, hexec, hunlock, hstat, hfires hl'⟩

/-- The port and clock class of the master shown, and ACQUIRING while PTP is not LOCKED. -/
def masterShown (s : State) (n cls : Nat) : State :=
  if s.ptpLocked then wf (wf s .lnkPtpStat [] 4 3 n) .lnkPtpStat [] 12 5 cls
  else wf (wf (wf s .lnkPtpStat [] 4 3 n) .lnkPtpStat [] 12 5 cls) .lnkPtpStat [] 2 0 1

theorem masterShown_shows (cls : Nat) (hn : n < 4) : rf (masterShown s n cls) .lnkPtpStat [] 4 3 = n ∧ rf (masterShown s n cls) .lnkPtpStat [] 12 5 = cls % 256 := by
  have hport : rf (wf (wf s .lnkPtpStat [] 4 3 n) .lnkPtpStat [] 12 5 cls) .lnkPtpStat [] 4 3 = n :=
    (rf_wf_apart _ _ _ _ _ _ _ _ (by decide) (by decide) (by decide) (by decide)).trans
      ((rf_wf _ _ _ _ _ _ (by decide) (by decide)).trans (Nat.mod_eq_of_lt hn))
  have hcls : rf (wf (wf s .lnkPtpStat [] 4 3 n) .lnkPtpStat [] 12 5 cls) .lnkPtpStat [] 12 5 = cls % 256 := rf_wf _ _ _ _ _ _ (by decide) (by decide)
  unfold masterShown
  generalize wf (wf s .lnkPtpStat [] 4 3 n) .lnkPtpStat [] 12 5 cls = u at *
  split
  · exact ⟨hport, hcls⟩
  · exact ⟨(rf_wf_apart _ _ _ _ _ _ _ _ (by decide) (by decide) (by decide) (by decide)).trans hport,
      (rf_wf_apart _ _ _ _ _ _ _ _ (by decide) (by decide) (by decide) (by decide)).trans hcls⟩

theorem completes_ptpMasterChange (cls id : Nat) (hn : n < 4) (hcfg : rbit s .lnkPortCfg [n] 24 = true) :
    Completes (.ptpMasterChange n cls id) s fun t =>
      t.lnk.master = some (id % 2 ^ 64) ∧ rbit t .tlStatus [] 2 = false ∧ rf t .lnkPtpStat [] 4 3 = n ∧
      rf t .lnkPtpStat [] 12 5 = cls % 256 ∧ Fires t 142 := by
  obtain ⟨u, hu⟩ : ∃ u : State, u = { masterShown s n cls with lnk := { (masterShown s n cls).lnk with master := some (id % 2 ^ 64) } } := ⟨_, rfl⟩
  have hexec : exec (.ptpMasterChange n cls id) s = .next (raise (wbit u .tlStatus [] 2 false) 142 NA NA) := by
    rw [hu]
    exact if_pos ⟨hn, hcfg⟩
  have hu' : rd u .lnkPtpStat [] = rd (masterShown s n cls) .lnkPtpStat [] := by rw [hu]; exact rd_eq_of_regs rfl rfl ..
  obtain ⟨hport, hcls⟩ := masterShown_shows (s := s) cls hn
  have hlnk : (wbit u .tlStatus [] 2 false).lnk.master = some (id % 2 ^ 64) := by rw [wbit_lnk, hu]
  have hstat : rd (wbit u .tlStatus [] 2 false) .lnkPtpStat [] = rd u .lnkPtpStat [] := rd_wbit_other _ _ _ _ _ _ _ (regAddr_ne _ _ (by decide))
  have hbit : rbit (wbit u .tlStatus [] 2 false) .tlStatus [] 2 = false := rbit_wbit _ _ _ _ _ (by decide)
  generalize wbit u .tlStatus [] 2 false = v at *
  have hrd : rd (raise v 142 NA NA) .lnkPtpStat [] = rd (masterShown s n cls) .lnkPtpStat [] := (rd_raise (by decide) ..).trans (hstat.trans hu')
  exact ⟨_, hexec, (congrArg Lnk.master (raise_lnk ..)).trans hlnk, (congrArg (bitOf · 2) (rd_raise (by decide) ..)).trans hbit,
    (congrArg (bitsOf · 4 3) hrd).trans hport, (congrArg (bitsOf · 12 5) hrd).trans hcls, fires_raise ..⟩

/-! ## SyncE (R420, R421) -/

/-- SYNCE_OUT squelched: LNK_SYNCE_STAT shows the state, and the time of the squelch is held. -/
theorem squelched_shows {k : Nat} (hk : k < 4) (u : State) : ∃ v, v = wf u .lnkSynceStat [] 1 0 k ∧
    rf (raise { v with lnk := { v.lnk with squelchAt := v.clk.elapsed } } 143 NA NA) .lnkSynceStat [] 1 0 = k ∧
    (raise { v with lnk := { v.lnk with squelchAt := v.clk.elapsed } } 143 NA NA).lnk.squelchAt =
      (raise { v with lnk := { v.lnk with squelchAt := v.clk.elapsed } } 143 NA NA).clk.elapsed ∧
    Fires (raise { v with lnk := { v.lnk with squelchAt := v.clk.elapsed } } 143 NA NA) 143 := by
  have h : rf (wf u .lnkSynceStat [] 1 0 k) .lnkSynceStat [] 1 0 = k := (rf_wf _ _ _ _ _ _ (by decide) (by decide)).trans (Nat.mod_eq_of_lt hk)
  refine ⟨_, rfl, ?_⟩
  generalize wf u .lnkSynceStat [] 1 0 k = v at *
  refine ⟨(congrArg (bitsOf · 1 0) ((rd_raise (by decide) ..).trans (rd_eq_of_regs rfl rfl ..))).trans h, ?_, fires_raise ..⟩
  rw [raise_lnk, raise_clk]

theorem completes_synceSquelch_cdr (hen : rbit s .lnkSynceCfg [] 0 = true) (hl : s.synceLocked = true) :
    Completes (.synceSquelch 0) s fun t => rf t .lnkSynceStat [] 1 0 = 2 ∧ t.lnk.squelchAt = t.clk.elapsed ∧ Fires t 143 := by
  obtain ⟨v, hv, hshow⟩ := squelched_shows (k := 2) (by decide) s
  have hexec : exec (.synceSquelch 0) s = .next (raise { v with lnk := { v.lnk with squelchAt := v.clk.elapsed } } 143 NA NA) := by
    rw [hv]
    exact if_pos ⟨hen, rfl, hl⟩
  exact ⟨_, hexec, hshow⟩

theorem completes_synceSquelch_ql (hen : rbit s .lnkSynceCfg [] 0 = true) (hl : s.synceLocked = true) (hq : qlBad s = true) :
    Completes (.synceSquelch 2) s fun t => rf t .lnkSynceStat [] 1 0 = 3 ∧ Fires t 143 := by
  obtain ⟨v, hv, hstat, -, hfires⟩ := squelched_shows (k := 3) (by decide) s
  have hexec : exec (.synceSquelch 2) s = .next (raise { v with lnk := { v.lnk with squelchAt := v.clk.elapsed } } 143 NA NA) := by
    rw [hv]
    exact if_pos ⟨hen, hq, hl⟩
  exact ⟨_, hexec, hstat, hfires⟩

theorem completes_synceResume (hen : rbit s .lnkSynceCfg [] 0 = true) (hl : s.synceLocked = false)
    (hup : s.portUp (rf s .lnkSynceCfg [] 3 2) = true) (hq : qlBad s = false) :
    Completes .synceResume s fun t => t.synceLocked = true ∧ t.clk.elapsed = max s.clk.elapsed (s.lnk.squelchAt + 10 * secTicks) := by
  have hexec : exec .synceResume s = .next (wf (reachElapsed s (s.lnk.squelchAt + 10 * secTicks)) .lnkSynceStat [] 1 0 1) :=
    if_pos ⟨hen, by rw [hl]; decide, hup, by rw [hq]; decide⟩
  have htime := reachElapsed_elapsed (s := s) (s.lnk.squelchAt + 10 * secTicks)
  generalize reachElapsed s (s.lnk.squelchAt + 10 * secTicks) = u at *
  refine ⟨_, hexec, ?_, (congrArg Clk.elapsed (wf_clk ..)).trans htime⟩
  unfold State.synceLocked
  rw [rf_wf _ _ _ _ _ _ (by decide) (by decide)]
  rfl

theorem completes_esmcSend (hn : n < 4) (hup : s.portUp n = true) : Completes (.esmcSend n) s fun t =>
    t.out = s.out ++ [.link n 16 (beBytes 1 (qlSent s))] ∧ (t.port n).esmcAt = t.clk.elapsed + 1 := by
  obtain ⟨u, hu, hout⟩ : ∃ u, u = (if (s.port n).esmcAt = 0 ∨ (s.port n).esmcQl ≠ qlSent s then s
      else reachElapsed s ((s.port n).esmcAt - 1 + secTicks)) ∧ u.out = s.out := by
    refine ⟨_, rfl, ?_⟩
    split
    · rfl
    · exact (reachElapsed_same _ (Nat.and_self _) (Same.refl _ s)).but.out (by decide)
  have hexec : exec (.esmcSend n) s = .next (emit (u.setPort n { u.port n with esmcAt := u.clk.elapsed + 1, esmcQl := qlSent s })
      (.link n 16 (beBytes 1 (qlSent s)))) := by
    rw [hu]
    exact if_pos ⟨hn, hup⟩
  refine ⟨_, hexec, congrArg (· ++ _) hout, ?_⟩
  show (spGet Port.reset (spPut Port.reset u.lnk.port n _) n).esmcAt = _
  rw [spGet_spPut_same]
  rfl

theorem completes_esmcReceive {ql : Nat} (hq : rf s .lnkSynceStat [] 5 2 ≠ ql % 16) : Completes (.esmcReceive ql) s fun t =>
    rf t .lnkSynceStat [] 5 2 = ql % 16 ∧ t.lnk.esmcRx = s.clk.elapsed + 1 ∧ Fires t 144 := by
  obtain ⟨a, ha⟩ := synceAgain_eq s
  have hexec : exec (.esmcReceive ql) s = .next (raise (wf { synceAgain s with lnk := { (synceAgain s).lnk with esmcRx := (synceAgain s).clk.elapsed + 1 } }
      .lnkSynceStat [] 5 2 (ql % 16)) 144 NA NA) := by
    show execEsmcReceive ql s = _
    unfold execEsmcReceive
    dsimp only
    rw [if_pos (show decide (s.lnk.esmcRx + 5 * secTicks ≤ s.clk.elapsed + 1) = true ∨ qlBad s = true ∨ rf s .lnkSynceStat [] 5 2 ≠ ql % 16 from
      .inr (.inr hq)), if_neg hq]
  rw [ha] at hexec
  obtain ⟨u, hu⟩ : ∃ u : State, u = { s with lnk := { s.lnk with squelchAt := a, esmcRx := s.clk.elapsed + 1 } } := ⟨_, rfl⟩
  have hexec' : exec (.esmcReceive ql) s = .next (raise (wf u .lnkSynceStat [] 5 2 (ql % 16)) 144 NA NA) := by rw [hu]; exact hexec
  have hstat : rf (wf u .lnkSynceStat [] 5 2 (ql % 16)) .lnkSynceStat [] 5 2 = ql % 16 :=
    (rf_wf _ _ _ _ _ _ (by decide) (by decide)).trans (Nat.mod_mod _ 16)
  have hlnk : (wf u .lnkSynceStat [] 5 2 (ql % 16)).lnk.esmcRx = s.clk.elapsed + 1 := by rw [wf_lnk, hu]
  generalize wf u .lnkSynceStat [] 5 2 (ql % 16) = v at *
  exact ⟨_, hexec', (congrArg (bitsOf · 5 2) (rd_raise (by decide) ..)).trans hstat, (congrArg Lnk.esmcRx (raise_lnk ..)).trans hlnk, fires_raise ..⟩

/-! ## Pulses (R422) -/

/-- A boundary a whole period: the count stands at one, and nothing else but the time and its marks moves. -/
theorem toBoundary_period_count (key inst : Nat) {p : Nat} (hp : 0 < p) :
    (toBoundary s key inst (fun t => ceilDiv t p * p)).clk.count % p = 0 := by
  have hreach (a : Nat) (h : s.clk.count ≤ ceilDiv a p * p) : (reachCount s (ceilDiv a p * p)).clk.count % p = 0 := by
    rw [reachCount_count, Nat.max_eq_right h, Nat.mul_mod_left]
  have hle (a : Nat) : a ≤ ceilDiv a p * p := by
    have h1 : (a + p - 1) % p < p := Nat.mod_lt _ hp
    have h2 := Nat.div_add_mod' (a + p - 1) p
    unfold ceilDiv
    rw [if_neg (by omega)]
    omega
  show (reachCount s _).clk.count % p = 0
  split
  · exact hreach _ (Nat.le_trans (Nat.le_succ _) (hle _))
  · exact hreach _ (hle _)

theorem toBoundary_pwr (key inst : Nat) (f : Nat → Nat) : (toBoundary s key inst f).pwr = s.pwr :=
  (toBoundary_same key inst f (Nat.and_self _) (Same.refl _ s)).but.pwr (by decide)

theorem toBoundary_out (key inst : Nat) (f : Nat → Nat) : (toBoundary s key inst f).out = s.out :=
  (toBoundary_same key inst f (Nat.and_self _) (Same.refl _ s)).but.out (by decide)

theorem rd_toBoundary (key inst : Nat) (f : Nat → Nat) (id : RegId) (ix : List Nat) : rd (toBoundary s key inst f) id ix = rd s id ix :=
  rd_eq_of_regs rfl rfl id ix

theorem completes_ppsOutEdge (hen : rbit s .lnkPps [] 0 = true) (hidle : s.pwr.linkIdle = false) : Completes .ppsOutEdge s fun t =>
    t.out = s.out ++ [.pulse 0 (rf s .lnkPps [] 17 2)] ∧ t.clk.count % secTicks = 0 := by
  obtain ⟨u, hu⟩ : ∃ u, u = toBoundary s 224 0 (fun t => ceilDiv t secTicks * secTicks) := ⟨_, rfl⟩
  have hexec : exec .ppsOutEdge s = .next (if rbit u .lnkPps [] 0 ∧ ¬ u.pwr.linkIdle then emit u (.pulse 0 (rf u .lnkPps [] 17 2)) else u) := by
    rw [hu]
    rfl
  have hrd : rd u .lnkPps [] = rd s .lnkPps [] := by rw [hu, rd_toBoundary]
  have hpwr : u.pwr = s.pwr := by rw [hu, toBoundary_pwr]
  have hout : u.out = s.out := by rw [hu, toBoundary_out]
  have hcount : u.clk.count % secTicks = 0 := by rw [hu]; exact toBoundary_period_count _ _ (by decide)
  rw [if_pos ⟨(congrArg (bitOf · 0) hrd).trans hen, by rw [hpwr, hidle]; decide⟩, show rf u .lnkPps [] 17 2 = rf s .lnkPps [] 17 2 from
    congrArg (bitsOf · 17 2) hrd] at hexec
  exact ⟨_, hexec, congrArg (· ++ _) hout, hcount⟩

/-- An edge taken: the counter has reached its tick, and its time is held. -/
def edgeTaken (s : State) (tick : Nat) : State :=
  { reachCount s tick with lnk := { (reachCount s tick).lnk with ppsAt := (reachCount s tick).clk.elapsed + 1 } }

theorem rd_edgeTaken (tick : Nat) (id : RegId) (ix : List Nat) : rd (edgeTaken s tick) id ix = rd s id ix := rd_eq_of_regs rfl rfl id ix

theorem completes_ppsInEdge_measure (tick : Nat) (hsrc : rbit s .lnkPps [] 1 = false) : Completes (.ppsInEdge tick) s fun t =>
    t.lnk.ppsAt = t.clk.elapsed + 1 ∧ t.clk.count = max s.clk.count tick := by
  have hexec : exec (.ppsInEdge tick) s = execPpsInEdge tick s := rfl
  unfold execPpsInEdge at hexec
  dsimp only at hexec
  change _ = (if rbit (edgeTaken s tick) .lnkPps [] 1 = true then _ else _) at hexec
  rw [if_neg (by rw [show rbit (edgeTaken s tick) .lnkPps [] 1 = rbit s .lnkPps [] 1 from congrArg (bitOf · 1) (rd_edgeTaken tick ..), hsrc]; decide)] at hexec
  exact ⟨_, hexec, rfl, reachCount_count tick⟩

theorem timeCorrection_lnk (q : Int) : (timeCorrection s q).lnk = s.lnk :=
  (timeCorrection_same q (Nat.and_self _) (Same.refl _ s)).but.lnk (by decide)

theorem rd_timeCorrection_tlStatus (q : Int) : rd (timeCorrection s q) .tlStatus [] = rd s .tlStatus [] :=
  (timeCorrection_same q (Nat.and_self _) (Same.refl _ s)).but.rd_eq_apart (by decide) (by decide) (by decide)

/-- The time corrected by a tick of SOURCE mode: to the time set, or by the offset `d` from the second. -/
def sourceCorrected (u : State) (d : Int) : State :=
  match u.lnk.tod with
  | some t => timeCorrection { u with lnk := { u.lnk with tod := none } } (((t : Int) - (u.now : Int)) * 100000 / 12288)
  | none => timeCorrection u (-d * 100000 / 12288)

theorem sourceCorrected_shows (u : State) (d : Int) : (sourceCorrected u d).lnk.tod = none ∧ rd (sourceCorrected u d) .tlStatus [] = rd u .tlStatus [] := by
  unfold sourceCorrected
  split
  · exact ⟨by rw [timeCorrection_lnk], (rd_timeCorrection_tlStatus _).trans (rd_eq_of_regs rfl rfl ..)⟩
  · next h => exact ⟨by rw [timeCorrection_lnk, h], rd_timeCorrection_tlStatus _⟩

theorem exec_ppsInEdge_source (tick : Nat) (hsrc : rbit s .lnkPps [] 1 = true) :
    ∃ d, exec (.ppsInEdge tick) s = .next (sourceCorrected (wbit (edgeTaken s tick) .tlStatus [] 2 false) d) := by
  have hexec : exec (.ppsInEdge tick) s = execPpsInEdge tick s := rfl
  unfold execPpsInEdge at hexec
  dsimp only at hexec
  change _ = (if rbit (edgeTaken s tick) .lnkPps [] 1 = true then _ else _) at hexec
  rw [if_pos (show rbit (edgeTaken s tick) .lnkPps [] 1 = true from (congrArg (bitOf · 1) (rd_edgeTaken tick ..)).trans hsrc)] at hexec
  refine ⟨if 2 * ((reachCount s tick).now % secTicks) < secTicks then (((reachCount s tick).now % secTicks : Nat) : Int)
    else (((reachCount s tick).now % secTicks : Nat) : Int) - secTicks, ?_⟩
  rw [hexec]
  unfold sourceCorrected edgeTaken
  split
  · next h =>
    simp only [h]
    rfl
  · next h => simp only [h]

theorem completes_ppsInEdge_source (tick : Nat) (hsrc : rbit s .lnkPps [] 1 = true) :
    Completes (.ppsInEdge tick) s fun t => rbit t .tlStatus [] 2 = false ∧ t.lnk.tod = none := by
  obtain ⟨d, hexec⟩ := exec_ppsInEdge_source (s := s) tick hsrc
  have hbit : rbit (wbit (edgeTaken s tick) .tlStatus [] 2 false) .tlStatus [] 2 = false := rbit_wbit _ _ _ _ _ (by decide)
  obtain ⟨htod, htl⟩ := sourceCorrected_shows (wbit (edgeTaken s tick) .tlStatus [] 2 false) d
  exact ⟨_, hexec, (congrArg (bitOf · 2) htl).trans hbit, htod⟩

theorem completes_lnkPpsInLoss (hpps : 0 < s.lnk.ppsAt) : Completes .lnkPpsInLoss s fun t =>
    t.lnk.ppsAt = 0 ∧ t.clk.elapsed = max s.clk.elapsed (s.lnk.ppsAt - 1 + 2 * secTicks) ∧ Fires t 146 := by
  have htime := reachElapsed_elapsed (s := s) (s.lnk.ppsAt - 1 + 2 * secTicks)
  have hexec : exec .lnkPpsInLoss s = execLnkPpsInLoss s := rfl
  unfold execLnkPpsInLoss at hexec
  rw [if_pos hpps] at hexec
  dsimp only at hexec
  generalize reachElapsed s (s.lnk.ppsAt - 1 + 2 * secTicks) = u at *
  obtain ⟨v, hv⟩ : ∃ v : State, { u with lnk := { u.lnk with ppsAt := 0 } } = v := ⟨_, rfl⟩
  rw [show ({ u with lnk := { u.lnk with ppsAt := 0 } } : State) = v from hv] at hexec
  have hlnk : (raise v 146 NA NA).lnk.ppsAt = 0 := by rw [raise_lnk, ← hv]
  have hclk : (raise v 146 NA NA).clk = u.clk := by rw [raise_clk, ← hv]
  have hfires : Fires (raise v 146 NA NA) 146 := fires_raise ..
  generalize raise v 146 NA NA = w at *
  obtain ⟨hpps', hclk', hfires'⟩ := holdover_keeps (s := w)
  refine ⟨_, hexec, ?_⟩
  split
  · exact ⟨hpps'.trans hlnk, by rw [hclk', hclk, htime], hfires' _ hfires⟩
  · exact ⟨hlnk, by rw [hclk, htime], hfires⟩

/-! ## Lanes (R423 to R426) -/

theorem rd_setLaneState (l v : Nat) (id : RegId) (ix : List Nat) :
    rd (setLaneState s l v) id ix = rd (wf s .lnkLaneStat [] (2 * l + 1) (2 * l) v) id ix := by
  unfold setLaneState
  dsimp only
  generalize wf s .lnkLaneStat [] (2 * l + 1) (2 * l) v = u
  split
  · exact rd_eq_of_regs rfl rfl id ix
  · exact rd_eq_of_regs rfl rfl id ix

theorem laneState_setLaneState {l v : Nat} (hl : l < 9) (hv : v < 4) : laneState (setLaneState s l v) l = v := by
  have hmod : v % 2 ^ (2 * l + 1 - 2 * l + 1) = v := Nat.mod_eq_of_lt (by rw [Nat.add_sub_cancel_left]; exact hv)
  exact (congrArg (bitsOf · (2 * l + 1) (2 * l)) (rd_setLaneState ..)).trans
    ((rf_wf _ _ _ _ _ _ (by omega) (show 2 * l + 1 < 32 by omega)).trans hmod)

theorem setLaneState_lnk (l v : Nat) : (setLaneState s l v).lnk = s.lnk := (setLaneState_same l v (Nat.and_self _) (Same.refl _ s)).but.lnk (by decide)

theorem setLaneState_clk (l v : Nat) : (setLaneState s l v).clk = s.clk := (setLaneState_same l v (Nat.and_self _) (Same.refl _ s)).but.clk (by decide)

theorem setLaneState_evt (l v : Nat) : (setLaneState s l v).evt = s.evt := (setLaneState_same l v (Nat.and_self _) (Same.refl _ s)).but.evt (by decide)

theorem rd_setLaneState_apart {id : RegId} (h : (regRow .lnkLaneStat).addr + regSpan .lnkLaneStat < (regRow id).addr ∨
    (regRow id).addr + regSpan id < (regRow .lnkLaneStat).addr) (l v : Nat) (ix : List Nat) : rd (setLaneState s l v) id ix = rd s id ix :=
  (rd_setLaneState ..).trans (rd_wf_other _ _ _ _ _ _ _ _ (regAddr_ne _ _ h.symm))

theorem completes_laneReturnToSpare {lane : Nat} (hlane : lane < 9) (hret : laneState s lane = 3) :
    Completes (.laneReturnToSpare .service lane) s fun t => laneState t lane = 2 := by
  have hexec : exec (.laneReturnToSpare .service lane) s =
      .next (setLaneState { s with nv := { s.nv with linkLanes := s.nv.linkLanes.filter (· ≠ lane) } } lane 2) := if_pos ⟨rfl, hlane, hret⟩
  exact ⟨_, hexec, laneState_setLaneState hlane (by decide)⟩

theorem completes_linkLaneTxMove (n : Nat) : Completes (.linkLaneTxMove n) s fun t => ∀ m ∈ t.lnk.moves, m.port = n → m.txDone = true := by
  refine ⟨_, rfl, fun m hm hport => ?_⟩
  obtain ⟨x, -, rfl⟩ := List.mem_map.1 hm
  by_cases h : x.port = n
  · rw [if_pos h]
  · rw [if_neg h] at hport
    exact absurd hport h

theorem completes_linkLaneRxMove (n : Nat) :
    Completes (.linkLaneRxMove n) s fun t => ∀ m ∈ t.lnk.moves, m.port = n → m.txDone = true → m.rxDone = true := by
  refine ⟨_, rfl, fun m hm hport htx => ?_⟩
  obtain ⟨x, -, rfl⟩ := List.mem_map.1 hm
  by_cases h : x.port = n ∧ x.txDone = true
  · rw [if_pos h]
  · rw [if_neg h] at hport htx
    exact absurd ⟨hport, htx⟩ h

theorem completes_linkLaneFailure {lane k sp : Nat} (hlane : lane < 9) (hk : (List.range 8).find? (fun k => physLane s k = lane) = some k)
    (hact : laneState s lane = 1) (hn : (List.range 4).find? (fun n => k ∈ portLanes s n) = some n)
    (hsp : (List.range 9).find? (fun x => decide (laneState (setLaneState s lane 3) x = 2) &&
      s.lnk.moves.all (fun m => decide (m.spare ≠ x))) = some sp) (hcfg : rbit s .lnkPortCfg [n] 40 = true) :
    Completes (.linkLaneFailure lane) s fun t =>
      laneState t lane = 3 ∧ t.lnk.moves = s.lnk.moves ++ [⟨n, k, lane, sp, s.clk.elapsed, false, false⟩] := by
  obtain ⟨u, hu⟩ : ∃ u : State, { setLaneState s lane 3 with
    nv := { (setLaneState s lane 3).nv with linkLanes := setIns lane (setLaneState s lane 3).nv.linkLanes } } = u := ⟨_, rfl⟩
  have hrd (id ix) : rd u id ix = rd (setLaneState s lane 3) id ix := by rw [← hu]; exact rd_eq_of_regs rfl rfl id ix
  have hlnk : u.lnk = s.lnk := by rw [← hu]; exact setLaneState_lnk ..
  have hstate (x : Nat) : laneState u x = laneState (setLaneState s lane 3) x := congrArg (bitsOf · (2 * x + 1) (2 * x)) (hrd ..)
  have hsp' : (List.range 9).find? (fun x => decide (laneState u x = 2) &&
      (setLaneState s lane 3).lnk.moves.all (fun m => decide (m.spare ≠ x))) = some sp := by
    simp only [hstate, setLaneState_lnk]
    exact hsp
  have hcfg' : rbit u .lnkPortCfg [n] 40 = true := (congrArg (bitOf · 40) ((hrd ..).trans (rd_setLaneState_apart (by decide) ..))).trans hcfg
  have hexec : exec (.linkLaneFailure lane) s = .next (laneFails s lane) := if_pos hlane
  have heq : laneFails s lane = { wbit u .lnkPortStat [n] 5 true with lnk :=
      { (wbit u .lnkPortStat [n] 5 true).lnk with moves := (wbit u .lnkPortStat [n] 5 true).lnk.moves ++ [⟨n, k, lane, sp, s.clk.elapsed, false, false⟩] } } := by
    unfold laneFails
    rw [hk, hact]
    split
    case h_2 h => exact absurd rfl (h k rfl)
    case h_1 k' h h1 =>
    cases h
    rw [hn]
    dsimp only
    rw [hu, hsp']
    dsimp only
    rw [if_pos hcfg']
  rw [heq] at hexec
  have hlane' : rd (wbit u .lnkPortStat [n] 5 true) .lnkLaneStat [] = rd u .lnkLaneStat [] := rd_wbit_other _ _ _ _ _ _ _ (regAddr_ne _ _ (by decide))
  have hlnk' : (wbit u .lnkPortStat [n] 5 true).lnk = s.lnk := (wbit_lnk ..).trans hlnk
  generalize wbit u .lnkPortStat [n] 5 true = v at *
  refine ⟨_, hexec, ?_, ?_⟩
  · exact (congrArg (bitsOf · (2 * lane + 1) (2 * lane)) ((rd_eq_of_regs rfl rfl ..).trans (hlane'.trans (hrd ..)))).trans
      (laneState_setLaneState hlane (by decide))
  · exact congrArg (fun l : Lnk => l.moves ++ [_]) hlnk'

theorem moves_ite {c : Prop} [Decidable c] {l : List LaneMove} (hs : s.lnk.moves = l) (ht : t.lnk.moves = l) :
    (if c then s else t).lnk.moves = l := by
  split
  · exact hs
  · exact ht

/-- The moves of the lanes through what a used spare reports (R626). -/
theorem cease_moves (src inst : Nat) : (cease s src inst).lnk.moves = s.lnk.moves :=
  List.foldlRecOn (motive := fun (u : State) => u.lnk.moves = s.lnk.moves) _ _ rfl (fun u h d _ => by
    split
    · exact h
    · exact h)

theorem condOff_moves (src inst aux : Nat) : (condOff s src inst aux).lnk.moves = s.lnk.moves := by
  unfold condOff
  exact moves_ite (moves_ite rfl (cease_moves ..)) rfl

theorem condOn_lnk (src inst aux : Nat) : (condOn s src inst aux).lnk = s.lnk := by
  unfold condOn
  split
  · rfl
  · exact raise_lnk ..

theorem checkForecast_moves (pool : Nat) : (checkForecast s pool).lnk.moves = s.lnk.moves := by
  unfold checkForecast
  exact moves_ite (congrArg Lnk.moves (condOn_lnk ..)) (moves_ite
    (List.foldlRecOn (motive := fun (u : State) => u.lnk.moves = s.lnk.moves) _ _ rfl (fun _ h _ _ => (condOff_moves ..).trans h)) rfl)

theorem spareUsed_moves (kind i : Nat) : (spareUsed s kind i).lnk.moves = s.lnk.moves := by
  unfold spareUsed
  dsimp only
  rw [checkForecast_moves]
  split
  · rw [raise_lnk, raise_lnk]
  · rw [raise_lnk]

/-- What the report of a used spare lane leaves (R426). -/
theorem lastSpare_leaves (n : Nat) : (lastSpare s n).lnk.moves = s.lnk.moves ∧ (lastSpare s n).clk = s.clk ∧
    (∀ id ix, NoRepeatCount id → rd (lastSpare s n) id ix = rd s id ix) ∧ (∀ src, Fires s src → Fires (lastSpare s n) src) := by
  have hsame := (lastSpare_same n (Nat.and_self _) (Same.refl _ s)).but
  refine ⟨?_, hsame.clk (by decide), fun id ix h => hsame.rd_eq_apart (by decide) (by decide) fun id' hid => by
    rw [List.mem_singleton.1 hid]
    exact h, fun src h => ?_⟩
  · unfold lastSpare
    dsimp only
    split
    · exact spareUsed_moves ..
    · rw [raise_lnk, spareUsed_moves]
  · unfold lastSpare
    exact Fires.ite (h.spareUsed ..) ((h.spareUsed ..).raise ..)

/-- What a lane that takes another's place leaves (R424). -/
theorem laneMoved_leaves {m : LaneMove} (hl : m.logical < 8) (hsp : m.spare < 9) : m ∉ (laneMoved s m).lnk.moves ∧
    physLane (laneMoved s m) m.logical = m.spare ∧ laneState (laneMoved s m) m.spare = 1 := by
  have hstate := laneState_setLaneState (s := s) (l := m.spare) (v := 1) hsp (by decide)
  unfold laneMoved
  dsimp only
  generalize setLaneState s m.spare 1 = u at *
  have hmod : m.spare % 2 ^ (4 * m.logical + 3 - 4 * m.logical + 1) = m.spare := Nat.mod_eq_of_lt (by rw [Nat.add_sub_cancel_left]; omega)
  have hmap : rf (wf u .lnkLaneMap [] (4 * m.logical + 3) (4 * m.logical) m.spare) .lnkLaneMap [] (4 * m.logical + 3) (4 * m.logical) = m.spare :=
    (rf_wf _ _ _ _ _ _ (by omega) (show 4 * m.logical + 3 < 64 by omega)).trans hmod
  have hstat : rd (wf u .lnkLaneMap [] (4 * m.logical + 3) (4 * m.logical) m.spare) .lnkLaneStat [] = rd u .lnkLaneStat [] :=
    rd_wf_other _ _ _ _ _ _ _ _ (regAddr_ne _ _ (by decide))
  generalize wf u .lnkLaneMap [] (4 * m.logical + 3) (4 * m.logical) m.spare = v at *
  refine ⟨fun h => ?_, (congrArg (bitsOf · (4 * m.logical + 3) (4 * m.logical)) (rd_eq_of_regs rfl rfl ..)).trans hmap,
    (congrArg (bitsOf · (2 * m.spare + 1) (2 * m.spare)) ((rd_eq_of_regs rfl rfl ..).trans hstat)).trans hstate⟩
  obtain ⟨-, hne⟩ := List.mem_filter.1 h
  exact absurd rfl (of_decide_eq_true hne)

theorem laneMoved_clk (m : LaneMove) : (laneMoved s m).clk = s.clk := by
  have h := setLaneState_clk (s := s) m.spare 1
  unfold laneMoved
  dsimp only
  generalize setLaneState s m.spare 1 = u at *
  exact (wf_clk ..).trans h

theorem completes_lnkLaneSpared {m : LaneMove} (lost : Nat) (hm : s.lnk.moves.find? (fun m => m.port = n ∧ m.txDone ∧ m.rxDone) = some m)
    (hl : m.logical < 8) (hsp : m.spare < 9) :
    Completes (.lnkLaneSpared n lost) s fun t =>
      m ∉ t.lnk.moves ∧ physLane t m.logical = m.spare ∧ laneState t m.spare = 1 ∧ rbit t .lnkPortStat [n] 5 = false ∧ Fires t 130 := by
  obtain ⟨hmoves, hmap, hstate⟩ := laneMoved_leaves (s := s) hl hsp
  have hexec : exec (.lnkLaneSpared n lost) s = .next (lastSpare (raise (if lost = 0 then wbit (laneMoved s m) .lnkPortStat [n] 5 false
      else stat (wbit (laneMoved s m) .lnkPortStat [n] 5 false) (0x9210 + n) 18 lost) 130 n NA) n) := by
    show execLnkLaneSpared n lost s = _
    unfold execLnkLaneSpared
    rw [hm]
  generalize laneMoved s m = u at *
  have hbit : rbit (wbit u .lnkPortStat [n] 5 false) .lnkPortStat [n] 5 = false := rbit_wbit _ _ _ _ _ (by decide)
  have hlnk : (wbit u .lnkPortStat [n] 5 false).lnk = u.lnk := wbit_lnk ..
  have hmap' : rd (wbit u .lnkPortStat [n] 5 false) .lnkLaneMap [] = rd u .lnkLaneMap [] := rd_wbit_other _ _ _ _ _ _ _ (regAddr_ne _ _ (by decide))
  have hstat' : rd (wbit u .lnkPortStat [n] 5 false) .lnkLaneStat [] = rd u .lnkLaneStat [] := rd_wbit_other _ _ _ _ _ _ _ (regAddr_ne _ _ (by decide))
  generalize wbit u .lnkPortStat [n] 5 false = v at *
  obtain ⟨w, hw, hwlnk, hwrd⟩ : ∃ w, (if lost = 0 then v else stat v (0x9210 + n) 18 lost) = w ∧ w.lnk = v.lnk ∧
      ∀ id ix, NoRepeatCount id → rd w id ix = rd v id ix := by
    refine ⟨_, rfl, ?_⟩
    split
    · exact ⟨rfl, fun _ _ _ => rfl⟩
    · exact ⟨(stat_same _ _ _ (Nat.and_self _) (Same.refl _ v)).but.lnk (by decide), fun id ix h => rd_stat h ..⟩
  rw [hw] at hexec
  obtain ⟨hmoves', -, hrd', hfires'⟩ := lastSpare_leaves (s := raise w 130 n NA) n
  have hrd (id ix) (h : NoRepeatCount id) : rd (lastSpare (raise w 130 n NA) n) id ix = rd v id ix :=
    (hrd' id ix h).trans ((rd_raise h ..).trans (hwrd id ix h))
  refine ⟨_, hexec, ?_, (congrArg (bitsOf · (4 * m.logical + 3) (4 * m.logical)) ((hrd _ _ (by decide)).trans hmap')).trans hmap,
    (congrArg (bitsOf · (2 * m.spare + 1) (2 * m.spare)) ((hrd _ _ (by decide)).trans hstat')).trans hstate,
    (congrArg (bitOf · 5) (hrd _ _ (by decide))).trans hbit, hfires' _ (fires_raise ..)⟩
  rw [hmoves', raise_lnk, hwlnk, hlnk]
  exact hmoves

theorem completes_linkRealignTimeout {m : LaneMove} (hm : s.lnk.moves.find? (fun m => m.port = n) = some m) :
    Completes (.linkRealignTimeout n) s fun t =>
      m ∉ t.lnk.moves ∧ t.portUp n = false ∧ t.clk.elapsed = max s.clk.elapsed (m.t0 + 24576) := by
  have hexec : exec (.linkRealignTimeout n) s = .next (portLost (lastSpare (laneMoved (reachElapsed s (m.t0 + 24576)) m) n) n) := by
    show execLinkRealignTimeout n s = _
    unfold execLinkRealignTimeout
    rw [hm]
  have htime := reachElapsed_elapsed (s := s) (m.t0 + 24576)
  generalize reachElapsed s (m.t0 + 24576) = u at *
  have hmoves : m ∉ (laneMoved u m).lnk.moves := fun h => absurd rfl (of_decide_eq_true (List.mem_filter.1 h).2)
  have hclk := laneMoved_clk (s := u) m
  generalize laneMoved u m = v at *
  obtain ⟨hmoves', hclk', -, -⟩ := lastSpare_leaves (s := v) n
  generalize lastSpare v n = w at *
  have hclk'' : (portLost w n).clk = w.clk := (portLost_same n (Nat.and_self _) (Same.refl _ w)).but.clk (by decide)
  have hlost : portLost w n = wbit (portState w n false (rbit w .lnkPortStat [n] 2)) .lnkPortStat [n] 5 false := rfl
  obtain ⟨hup, -⟩ := portState_bits (s := w) (n := n) false (rbit w .lnkPortStat [n] 2)
  obtain ⟨-, -, hpmoves⟩ := portState_leaves (s := w) (n := n) false (rbit w .lnkPortStat [n] 2)
  rw [hlost] at hclk'' hexec
  generalize portState w n false (rbit w .lnkPortStat [n] 2) = x at *
  refine ⟨_, hexec, ?_, ?_, ?_⟩
  · rw [wbit_lnk, hpmoves, hmoves']
    exact hmoves
  · have hdown : comesUp w n false (rbit w .lnkPortStat [n] 2) = false := by simp [comesUp]
    exact (rbit_wbit_apart false (by decide) (by decide)).trans (hup.trans hdown)
  · rw [hclk'', hclk', hclk, htime]

/-- Settles O40: a port's state, keys, the locks of PTP and SyncE and the lane map are each read back from the register or part that holds them. -/
theorem linkTimingCommandsComplete : Obligations.LinkTimingCommandsComplete := by
  unfold Obligations.LinkTimingCommandsComplete
  exact ⟨fun _ _ aligned sa hn ht => completes_portStateChange aligned sa hn ht,
    fun _ _ _ hn han hmsec hcak hnew => completes_sakInstall hn han hmsec hcak hnew,
    fun _ _ hm hl hq hg => completes_ptpSyncInterval_lock hm hl hq hg,
    fun _ _ hm hl hq hb => completes_ptpSyncInterval_unlock hm hl hq hb,
    fun _ _ cls id hn hcfg => completes_ptpMasterChange cls id hn hcfg,
    fun _ h => ⟨_, rfl, holdover_leaves h⟩,
    fun _ hen hl => completes_synceSquelch_cdr hen hl,
    fun _ hen hl hq => completes_synceSquelch_ql hen hl hq,
    fun _ hen hl hup hq => completes_synceResume hen hl hup hq,
    fun _ _ hn hup => completes_esmcSend hn hup,
    fun _ _ hq => completes_esmcReceive hq,
    fun _ hen hidle => completes_ppsOutEdge hen hidle,
    fun _ tick hsrc => completes_ppsInEdge_measure tick hsrc,
    fun _ tick hsrc => completes_ppsInEdge_source tick hsrc,
    fun _ hpps => completes_lnkPpsInLoss hpps,
    fun _ _ _ _ _ hlane hk hact hn hsp hcfg => completes_linkLaneFailure hlane hk hact hn hsp hcfg,
    fun _ n => completes_linkLaneTxMove n,
    fun _ n => completes_linkLaneRxMove n,
    fun _ _ _ lost hm hl hsp => completes_lnkLaneSpared lost hm hl hsp,
    fun _ _ _ hm => completes_linkRealignTimeout hm,
    fun _ _ hlane hret => completes_laneReturnToSpare hlane hret⟩

end Sys2Proof.Machine
end

section
/-!
Frames that arrive on a port (R396, R406), and the other messages of the link (R409, R410): the settlement of O39.
-/

namespace Sys2Proof.Machine

set_option Elab.async false

variable {s t u : State} {f : LnkFrame} {n ty : Nat}

/-! ## A frame that arrives -/

/-- A frame counted at the tick it arrives. -/
def arrived (s : State) (f : LnkFrame) : State := stat (reachCount s f.tick) (0x9210 + f.port) 20

/-- What arrivals and their policing leave of the state: the parts they do not reach, and every register but the repeat counts. -/
structure ArrivalKeeps (s t : State) (f : LnkFrame) : Prop where
  regs : ∀ id ix, NoRepeatCount id → rd t id ix = rd s id ix
  objs : t.objs = s.objs
  straps : t.straps = s.straps
  out : t.out = s.out
  bm : t.bm = s.bm
  cond : t.evt.cond = s.evt.cond
  count : t.clk.count = max s.clk.count f.tick
  elapsed : t.clk.elapsed = s.clk.elapsed + (f.tick - s.clk.count)
  fires : ∀ src, Fires s src → Fires t src

theorem raise_cond (src inst aux : Nat) : (raise s src inst aux).evt.cond = s.evt.cond := by
  unfold raise
  dsimp only
  split
  · exact List.foldlRecOn (motive := fun (u : State) => u.evt.cond = s.evt.cond) _ _ rfl (fun u h d _ => by
      split
      · exact h
      · exact h)
  · rfl

theorem stat_cond (index sub k : Nat) : (stat s index sub k).evt.cond = s.evt.cond := by
  unfold stat
  dsimp only
  split
  · rfl
  · split
    · rw [raise_cond]
    · rfl

theorem arrived_keeps (s : State) (f : LnkFrame) : ArrivalKeeps s (arrived s f) f := by
  have h := (stat_same (0x9210 + f.port) 20 1 (Nat.and_self _) (Same.refl _ (reachCount s f.tick))).but
  have hclk : (arrived s f).clk = (reachCount s f.tick).clk := h.clk (by decide)
  exact ⟨fun id ix hid => (rd_stat hid ..).trans (rd_reachCount ..), h.objs (by decide), h.straps (by decide), h.out (by decide), h.bm (by decide),
    stat_cond .., (congrArg Clk.count hclk).trans (reachCount_count ..), congrArg Clk.elapsed hclk,
    fun src hs => Fires.stat (s := reachCount s f.tick) (hs.of_evt rfl) ..⟩

theorem arrived_lnk : (arrived s f).lnk = s.lnk :=
  (stat_same (0x9210 + f.port) 20 1 (Nat.and_self _) (Same.refl _ (reachCount s f.tick))).but.lnk (by decide)

theorem frameCheck_congr (hm : rd t .lnkPortMsec [f.port] = rd s .lnkPortMsec [f.port]) (hc : rd t .lnkPortCfg [f.port] = rd s .lnkPortCfg [f.port]) :
    frameCheck t f ty = frameCheck s f ty := by
  unfold frameCheck exemptFrame rbit rf
  rw [hm, hc]

theorem frameCheck_arrived : frameCheck (arrived s f) f ty = frameCheck s f ty :=
  frameCheck_congr ((arrived_keeps s f).regs _ _ (by decide)) ((arrived_keeps s f).regs _ _ (by decide))

/-- A frame that passes the checks of its port is no longer than a port admits. -/
theorem len_lt_of_frameCheck (h : frameCheck s f ty = 0) : f.len < 2 ^ 14 := by
  unfold frameCheck at h
  dsimp only at h
  have hmax : rf s .lnkPortCfg [f.port] 39 26 < 2 ^ 14 := Nat.mod_lt _ (by decide)
  split at h
  · exact absurd h (by decide)
  · omega

/-- The tokens a port holds when a frame arrives (R406). -/
def tokensHeld (s : State) (f : LnkFrame) : Nat :=
  min (65536 * 491520) ((s.port f.port).tokens + ((arrived s f).clk.elapsed - (s.port f.port).tokAt) * 125000)

/-- The port's tokens counted at an arrival. -/
def tokensCounted (s : State) (f : LnkFrame) (tokens : Nat) : State :=
  (arrived s f).setPort f.port { s.port f.port with tokens := tokens, tokAt := (arrived s f).clk.elapsed }

/-- A frame paid for. -/
def paid (s : State) (f : LnkFrame) : State := tokensCounted s f (tokensHeld s f - f.len * 491520)

theorem tokensCounted_keeps (k : Nat) : ArrivalKeeps s (tokensCounted s f k) f := by
  have h := arrived_keeps s f
  exact ⟨fun id ix hid => (rd_eq_of_regs rfl rfl id ix).trans (h.regs id ix hid), h.objs, h.straps, h.out, h.bm, h.cond, h.count, h.elapsed,
    fun src hs => (h.fires src hs).of_evt rfl⟩

theorem tokensCounted_port (k : Nat) :
    (tokensCounted s f k).port f.port = { s.port f.port with tokens := k, tokAt := (arrived s f).clk.elapsed } :=
  spGet_spPut_same ..

theorem tokensCounted_dl (k : Nat) : (tokensCounted s f k).lnk.dl = s.lnk.dl := by
  show (arrived s f).lnk.dl = s.lnk.dl
  rw [arrived_lnk]

theorem tokensCounted_ulCtl (k : Nat) : (tokensCounted s f k).lnk.ulCtl = s.lnk.ulCtl := by
  show (arrived s f).lnk.ulCtl = s.lnk.ulCtl
  rw [arrived_lnk]

theorem police_arrived : police (arrived s f) f.port f.len =
    if f.len * 491520 ≤ tokensHeld s f then (true, paid s f) else (false, tokensCounted s f (tokensHeld s f)) := by
  have hport : (arrived s f).port f.port = s.port f.port := congrArg (fun l : Lnk => spGet Port.reset l.port f.port) arrived_lnk
  unfold police
  rw [hport]
  rfl

/-- A frame checked and not policed is handled as it arrives. -/
theorem onFrame_of_free (act : State → State) (hf : FrameOk s f ty) : onFrame s f ty false act = act (arrived s f) := by
  obtain ⟨hport, hup, hcheck⟩ := hf
  have hadmit : admitFrame s f ty false = (true, arrived s f) := by
    unfold admitFrame
    dsimp only
    rw [show frameCheck (stat (reachCount s f.tick) (0x9210 + f.port) 20) f ty = 0 from frameCheck_arrived.trans hcheck,
      if_neg (by decide), if_neg (by decide), if_neg (by decide)]
    rfl
  unfold onFrame
  rw [if_pos ⟨hport, hup⟩, hadmit]

/-- A frame checked and policed is paid for, or dropped with cause 10 (R406). -/
theorem onFrame_of_policed (act : State → State) (hf : FrameOk s f ty) : onFrame s f ty true act =
    if f.len * 491520 ≤ tokensHeld s f then act (paid s f) else dropMsg (tokensCounted s f (tokensHeld s f)) f.port 10 none := by
  obtain ⟨hport, hup, hcheck⟩ := hf
  have hadmit : admitFrame s f ty true =
      if f.len * 491520 ≤ tokensHeld s f then (true, paid s f) else (false, dropMsg (tokensCounted s f (tokensHeld s f)) f.port 10 none) := by
    unfold admitFrame
    dsimp only
    rw [show frameCheck (stat (reachCount s f.tick) (0x9210 + f.port) 20) f ty = 0 from frameCheck_arrived.trans hcheck,
      if_neg (by decide), if_neg (by decide), if_pos rfl,
      show police (stat (reachCount s f.tick) (0x9210 + f.port) 20) f.port f.len = _ from police_arrived]
    split
    · rfl
    · rfl
  unfold onFrame
  rw [if_pos ⟨hport, hup⟩, hadmit]
  by_cases h : f.len * 491520 ≤ tokensHeld s f
  · rw [if_pos h, if_pos h]
  · rw [if_neg h, if_neg h]

theorem onFrame_of_paid (act : State → State) (hf : FrameOk s f ty) (hp : FramePaid s f) : onFrame s f ty true act = act (paid s f) := by
  have hlen := len_lt_of_frameCheck hf.2.2
  have hheld : f.len * 491520 ≤ tokensHeld s f := by
    unfold FramePaid at hp
    unfold tokensHeld
    omega
  rw [onFrame_of_policed act hf, if_pos hheld]

/-! ## A message sent -/

/-- What the count of a packet number leaves of its port. -/
theorem countPn_leaves (n : Nat) : ∃ pn rekey, (countPn s n).port n = { s.port n with pn := pn, rekey := rekey } ∧ (countPn s n).out = s.out ∧
    (countPn s n).evt = s.evt ∧ (countPn s n).objs = s.objs ∧ (countPn s n).straps = s.straps ∧ (countPn s n).clk = s.clk ∧
    (∀ id ix, rd (countPn s n) id ix = rd s id ix) := by
  unfold countPn
  split
  · exact ⟨_, _, spGet_spPut_same .., rfl, rfl, rfl, rfl, rfl, fun id ix => rd_eq_of_regs rfl rfl id ix⟩
  · exact ⟨(s.port n).pn, (s.port n).rekey, rfl, rfl, rfl, rfl, rfl, rfl, fun _ _ => rfl⟩

/-- What a message sent leaves of its port and of the block. -/
theorem sendMessage_leaves (n kind : Nat) (b : List Byte) : ∃ pn rekey, (sendMessage s n kind b).port n = { s.port n with pn := pn, rekey := rekey } ∧
    (sendMessage s n kind b).out = s.out ++ [.link n kind (dataFrame s n kind b)] ∧ (sendMessage s n kind b).evt = s.evt ∧
    (sendMessage s n kind b).objs = s.objs ∧ (sendMessage s n kind b).straps = s.straps ∧ (sendMessage s n kind b).clk = s.clk ∧
    (∀ id ix, rd (sendMessage s n kind b) id ix = rd s id ix) := by
  obtain ⟨pn, rekey, hport, hout, hevt, hobjs, hstraps, hclk, hrd⟩ := countPn_leaves (s := s) n
  unfold sendMessage
  generalize countPn s n = v at *
  exact ⟨pn, rekey, hport, congrArg (· ++ _) hout, hevt, hobjs, hstraps, hclk, fun id ix => (rd_eq_of_regs rfl rfl id ix).trans (hrd id ix)⟩

theorem dataFrame_congr (hda : rd t .lnkPortDa [n] = rd s .lnkPortDa [n]) (hcfg : rd t .lnkPortCfg [n] = rd s .lnkPortCfg [n]) (kind : Nat)
    (b : List Byte) : dataFrame t n kind b = dataFrame s n kind b := by
  unfold dataFrame rf
  rw [hda, hcfg]

theorem ArrivalKeeps.dataFrame (h : ArrivalKeeps s t f) (n kind : Nat) (b : List Byte) : dataFrame t n kind b = dataFrame s n kind b :=
  dataFrame_congr (h.regs _ _ (by decide)) (h.regs _ _ (by decide)) kind b

theorem paid_port : (paid s f).port f.port =
    { s.port f.port with tokens := tokensHeld s f - f.len * 491520, tokAt := (arrived s f).clk.elapsed } :=
  tokensCounted_port _

theorem paid_keeps (s : State) (f : LnkFrame) : ArrivalKeeps s (paid s f) f := tokensCounted_keeps _

/-- A message sent as a paid frame arrives. -/
theorem sendMessage_paid_out (n kind : Nat) (b : List Byte) :
    (sendMessage (paid s f) n kind b).out = s.out ++ [.link n kind (dataFrame s n kind b)] := by
  obtain ⟨-, -, -, hout, -⟩ := sendMessage_leaves (s := paid s f) n kind b
  rw [hout, (paid_keeps s f).out, (paid_keeps s f).dataFrame]

/-! ## Delay measurement (R409) -/

theorem completes_delayRequest (hf : FrameOk s f 5) (hp : FramePaid s f) (hact : beAt (frameBody f) 1 1 = 0) :
    Completes (.delayRequest f) s fun t =>
      t.out = s.out ++ [.link f.port 5 (dataFrame s f.port 5 (delayBytes (beAt (frameBody f) 0 1) 2 f.tick))] := by
  have hexec : exec (.delayRequest f) s = .next (sendMessage (paid s f) f.port 5 (delayBytes (beAt (frameBody f) 0 1) 2 f.tick)) := by
    show execDelayRequest f s = _
    rw [execDelayRequest, onFrame_of_paid _ hf hp, if_pos hact]
  exact ⟨_, hexec, sendMessage_paid_out ..⟩

theorem completes_requestWithFollowUp (hf : FrameOk s f 5) (hp : FramePaid s f) (hact : beAt (frameBody f) 1 1 = 1) :
    Completes (.requestWithFollowUp f) s fun t =>
      (t.port f.port).pending5 = (s.port f.port).pending5 ++ [(beAt (frameBody f) 0 1, f.tick)] ∧ t.out = s.out := by
  have hport : ((paid s f).port f.port).pending5 = (s.port f.port).pending5 := by rw [paid_port]
  have hout := (paid_keeps s f).out
  have hexec : exec (.requestWithFollowUp f) s = .next ((paid s f).setPort f.port { (paid s f).port f.port with
      pending5 := ((paid s f).port f.port).pending5 ++ [(beAt (frameBody f) 0 1, f.tick)] }) := by
    show execRequestWithFollowUp f s = _
    rw [execRequestWithFollowUp, onFrame_of_paid _ hf hp, if_pos hact]
  generalize paid s f = u at *
  refine ⟨_, hexec, ?_, (setPort_out ..).trans hout⟩
  rw [port_setPort, hport]

/-- The measurements whose Responses wait, without those of `id`. -/
def responded (u : State) (n id : Nat) : State := u.setPort n { u.port n with pending5 := (u.port n).pending5.filter (fun y => y.1 ≠ id) }

theorem rd_responded (u : State) (n id : Nat) (r : RegId) (ix : List Nat) : rd (responded u n id) r ix = rd u r ix :=
  rd_eq_of_regs (setPort_regs ..) (setPort_straps ..) r ix

theorem responded_pending5 (u : State) (n id : Nat) :
    ((responded u n id).port n).pending5 = (u.port n).pending5.filter (fun y => y.1 ≠ id) := by rw [responded, port_setPort]

/-- A Follow_Up taken: the Response that waits for it is sent. -/
def followedUp (f : LnkFrame) (u : State) : State :=
  match beAt (frameBody f) 1 1, (u.port f.port).pending5.find? (fun x => x.1 = beAt (frameBody f) 0 1) with
  | 5, some x => sendMessage (responded u f.port (beAt (frameBody f) 0 1)) f.port 5 (delayBytes (beAt (frameBody f) 0 1) 2 x.2)
  | _, _ => u

theorem followedUp_of_held (u : State) {x : Nat × Nat} (hact : beAt (frameBody f) 1 1 = 5)
    (hx : (u.port f.port).pending5.find? (fun x => x.1 = beAt (frameBody f) 0 1) = some x) :
    followedUp f u = sendMessage (responded u f.port (beAt (frameBody f) 0 1)) f.port 5 (delayBytes (beAt (frameBody f) 0 1) 2 x.2) := by
  unfold followedUp
  rw [hact, hx]
  split
  case h_1 y h5 hy =>
    cases hy
    rfl
  case h_2 h => exact absurd rfl (h x rfl)

/-- What a Follow_Up taken leaves of what was sent and of what waits. -/
theorem followedUp_leaves (u : State) {x : Nat × Nat} (hact : beAt (frameBody f) 1 1 = 5)
    (hx : (u.port f.port).pending5.find? (fun x => x.1 = beAt (frameBody f) 0 1) = some x) :
    (followedUp f u).out = u.out ++ [.link f.port 5 (dataFrame u f.port 5 (delayBytes (beAt (frameBody f) 0 1) 2 x.2))] ∧
      ((followedUp f u).port f.port).pending5 = (u.port f.port).pending5.filter (fun y => y.1 ≠ beAt (frameBody f) 0 1) := by
  have hpending := responded_pending5 u f.port (beAt (frameBody f) 0 1)
  have hrd := rd_responded u f.port (beAt (frameBody f) 0 1)
  have hsent : (responded u f.port (beAt (frameBody f) 0 1)).out = u.out := by rw [responded, setPort_out]
  rw [followedUp_of_held u hact hx]
  generalize responded u f.port (beAt (frameBody f) 0 1) = v at *
  obtain ⟨pn, rekey, hmsg, hout, -⟩ := sendMessage_leaves (s := v) f.port 5 (delayBytes (beAt (frameBody f) 0 1) 2 x.2)
  rw [hout, hmsg, hsent, dataFrame_congr (hrd ..) (hrd ..)]
  exact ⟨rfl, hpending⟩

theorem completes_followUp {x : Nat × Nat} (hf : FrameOk s f 5) (hp : FramePaid s f) (hact : beAt (frameBody f) 1 1 = 5)
    (hx : (s.port f.port).pending5.find? (fun x => x.1 = beAt (frameBody f) 0 1) = some x) :
    Completes (.followUp f) s fun t =>
      t.out = s.out ++ [.link f.port 5 (dataFrame s f.port 5 (delayBytes (beAt (frameBody f) 0 1) 2 x.2))] ∧
      ∀ y ∈ (t.port f.port).pending5, y.1 ≠ beAt (frameBody f) 0 1 := by
  have hkeep := paid_keeps s f
  have hport : ((paid s f).port f.port).pending5 = (s.port f.port).pending5 := by rw [paid_port]
  have hexec : exec (.followUp f) s = .next (onFrame s f 5 true (followedUp f)) := rfl
  rw [onFrame_of_paid _ hf hp] at hexec
  generalize paid s f = u at *
  rw [← hport] at hx
  obtain ⟨hout, hpending⟩ := followedUp_leaves u hact hx
  refine ⟨_, hexec, ?_, fun y hy => ?_⟩
  · rw [hout, hkeep.out, hkeep.dataFrame]
  · rw [hpending] at hy
    exact of_decide_eq_true (List.mem_filter.1 hy).2

theorem completes_remoteRequest (hf : FrameOk s f 5) (hp : FramePaid s f) (hact : beAt (frameBody f) 1 1 = 3 ∨ beAt (frameBody f) 1 1 = 4) :
    Completes (.remoteRequest f) s fun t =>
      t.out = s.out ++ [.link f.port 5 (dataFrame s f.port 5 (delayBytes (beAt (frameBody f) 0 1) 0 t.now))] := by
  have hexec : exec (.remoteRequest f) s = .next (sendMessage (paid s f) f.port 5 (delayBytes (beAt (frameBody f) 0 1) 0 (paid s f).now)) := by
    show execRemoteRequest f s = _
    rw [execRemoteRequest, onFrame_of_paid _ hf hp, if_pos hact]
  have hout := sendMessage_paid_out (s := s) (f := f) f.port 5 (delayBytes (beAt (frameBody f) 0 1) 0 (paid s f).now)
  obtain ⟨-, -, -, -, -, -, -, hclk, -⟩ := sendMessage_leaves (s := paid s f) f.port 5 (delayBytes (beAt (frameBody f) 0 1) 0 (paid s f).now)
  refine ⟨_, hexec, ?_⟩
  beta_reduce
  rw [hout]
  unfold State.now
  rw [show (sendMessage (paid s f) f.port 5 (delayBytes (beAt (frameBody f) 0 1) 0 (paid s f).clk.count)).clk = (paid s f).clk from hclk]

/-! ## Indications (R410) -/

theorem completes_indicationAck (hf : FrameOk s f 7) (hp : FramePaid s f) (hact : beAt (frameBody f) 1 1 = 1) :
    Completes (.indicationAck f) s fun t =>
      (t.port f.port).unacked = (s.port f.port).unacked.filter (fun x => x.id ≠ beAt (frameBody f) 0 1) := by
  have hport : ((paid s f).port f.port).unacked = (s.port f.port).unacked := by rw [paid_port]
  have hexec : exec (.indicationAck f) s = .next ((paid s f).setPort f.port { (paid s f).port f.port with
      unacked := ((paid s f).port f.port).unacked.filter (fun x => x.id ≠ beAt (frameBody f) 0 1) }) := by
    show execIndicationAck f s = _
    rw [execIndicationAck, onFrame_of_paid _ hf hp, if_pos hact]
  generalize paid s f = u at *
  refine ⟨_, hexec, ?_⟩
  beta_reduce
  rw [port_setPort, hport]

/-- An indication sent (R410). -/
theorem sendIndication_leaves (n fault element info : Nat) (cease : Bool) :
    ((sendIndication s n fault element info cease).port n).queue = (s.port n).queue ∧
    ((sendIndication s n fault element info cease).port n).unacked =
      (s.port n).unacked ++ [⟨(s.port n).eventId, fault, element, info, cease, s.clk.elapsed, 0⟩] ∧
    (sendIndication s n fault element info cease).out = s.out ++
      [.link n 7 (dataFrame s n 7 (indicationBytes (s.port n).eventId 0 (s.port n).eventSeq element cease fault info))] := by
  obtain ⟨pn, rekey, hport, hout, -⟩ := sendMessage_leaves (s := s) n 7 (indicationBytes (s.port n).eventId 0 (s.port n).eventSeq element cease fault info)
  unfold sendIndication
  dsimp only
  generalize sendMessage s n 7 (indicationBytes (s.port n).eventId 0 (s.port n).eventSeq element cease fault info) = v at *
  refine ⟨?_, ?_, hout⟩
  · rw [port_setPort, hport]
  · rw [port_setPort]

/-- The queue of a port without its oldest entry. -/
def dequeued (s : State) (n : Nat) (rest : List (Nat × Nat × Nat × Bool)) : State := s.setPort n { s.port n with queue := rest }

theorem dequeued_port (n : Nat) (rest : List (Nat × Nat × Nat × Bool)) : (dequeued s n rest).port n = { s.port n with queue := rest } :=
  spGet_spPut_same ..

theorem completes_eventIndicationSend {q : Nat × Nat × Nat × Bool} {rest : List (Nat × Nat × Nat × Bool)} (hn : n < 4) (hup : s.portUp n = true)
    (hq : (s.port n).queue = q :: rest) (h132 : q.1 ≠ 132) (h133 : q.1 ≠ 133) :
    Completes (.eventIndicationSend n) s fun t =>
      (t.port n).queue = rest ∧ (t.port n).unacked = (s.port n).unacked ++
        [⟨(s.port n).eventId, 0x800 + q.1, q.2.1, q.2.2.1, q.2.2.2, s.clk.elapsed, 0⟩] ∧
      t.out = s.out ++ [.link n 7 (dataFrame s n 7 (indicationBytes (s.port n).eventId 0 (s.port n).eventSeq q.2.1 q.2.2.2 (0x800 + q.1) q.2.2.1))] := by
  obtain ⟨src, inst, rpt, cease⟩ := q
  have hexec : exec (.eventIndicationSend n) s = .next (sendEvent (dequeued s n rest) n (src, inst, rpt, cease)) := by
    show execEventIndicationSend n s = _
    unfold execEventIndicationSend
    rw [if_pos ⟨hn, hup⟩, hq]
    rfl
  have hsend : sendEvent (dequeued s n rest) n (src, inst, rpt, cease) = sendIndication (dequeued s n rest) n (0x800 + src) inst rpt cease := by
    unfold sendEvent
    dsimp only
    rw [if_neg h133, if_neg h132, ite_self]
  rw [hsend] at hexec
  obtain ⟨hqueue, hunacked, hout⟩ := sendIndication_leaves (s := dequeued s n rest) n (0x800 + src) inst rpt cease
  rw [dequeued_port] at hqueue hunacked hout
  refine ⟨_, hexec, hqueue, hunacked, hout.trans ?_⟩
  exact congrArg (fun b => s.out ++ [.link n 7 b]) (dataFrame_congr (rd_eq_of_regs rfl rfl ..) (rd_eq_of_regs rfl rfl ..) ..)

theorem reachElapsed_port (k n : Nat) : (reachElapsed s k).port n = s.port n := by
  rw [State.port, (reachElapsed_same k (Nat.and_self _) (Same.refl _ s)).but.lnk (by decide)]
  rfl

theorem completes_indicationResend {id : Nat} {x : Indication} (hn : n < 4) (hx : (s.port n).unacked.find? (fun x => x.id = id) = some x)
    (htries : x.tries < 3) :
    Completes (.indicationResend n id) s fun t =>
      t.out = s.out ++ [.link n 7 (dataFrame s n 7 (indicationBytes x.id 0 (s.port n).eventSeq x.element x.cease x.fault x.info))] ∧
      t.clk.elapsed = max s.clk.elapsed (x.sentAt + 100 * msTicks) ∧ (t.port n).unacked.length = (s.port n).unacked.length := by
  have htime := reachElapsed_elapsed (s := s) (x.sentAt + 100 * msTicks)
  have hport := reachElapsed_port (s := s) (x.sentAt + 100 * msTicks) n
  have hout := reachElapsed_out (s := s) (x.sentAt + 100 * msTicks)
  have hrd := rd_reachElapsed (s := s) (x.sentAt + 100 * msTicks)
  have hexec : exec (.indicationResend n id) s = execIndicationResend n id s := rfl
  unfold execIndicationResend at hexec
  rw [hx] at hexec
  dsimp only at hexec
  rw [if_pos hn, if_pos htries] at hexec
  generalize reachElapsed s (x.sentAt + 100 * msTicks) = u at *
  rw [hport] at hexec
  obtain ⟨-, -, -, hmsg, -, -, -, hclk, -⟩ := sendMessage_leaves (s := u) n 7 (indicationBytes x.id 0 (s.port n).eventSeq x.element x.cease x.fault x.info)
  generalize sendMessage u n 7 (indicationBytes x.id 0 (s.port n).eventSeq x.element x.cease x.fault x.info) = v at *
  refine ⟨_, hexec, ?_, ?_, ?_⟩
  · rw [← dataFrame_congr (hrd ..) (hrd ..), ← hout]
    exact hmsg
  · exact (congrArg Clk.elapsed hclk).trans htime
  · rw [port_setPort]
    exact List.length_map _

/-- An indication that no tenant acknowledged in time. -/
def ackTimedOut (u : State) (n : Nat) (x : Indication) : State := u.setPort n { u.port n with unacked := (u.port n).unacked.filter (fun y => y ≠ x) }

theorem ackTimedOut_out (u : State) (n : Nat) (x : Indication) : (ackTimedOut u n x).out = u.out := rfl

theorem exec_indicationResend_last {id : Nat} {x : Indication} (hn : n < 4) (hx : (s.port n).unacked.find? (fun x => x.id = id) = some x)
    (htries : ¬ x.tries < 3) :
    exec (.indicationResend n id) s = .next (raise (ackTimedOut (reachElapsed s (x.sentAt + 100 * msTicks)) n x) 145 n NA) := by
  show execIndicationResend n id s = _
  unfold execIndicationResend ackTimedOut
  rw [hx]
  exact (if_pos hn).trans (if_neg htries)

theorem completes_indicationResend_last {id : Nat} {x : Indication} (hn : n < 4) (hx : (s.port n).unacked.find? (fun x => x.id = id) = some x)
    (htries : 3 ≤ x.tries) : Completes (.indicationResend n id) s fun t => t.out = s.out ∧ x ∉ (t.port n).unacked ∧ Fires t 145 := by
  have hout : (ackTimedOut (reachElapsed s (x.sentAt + 100 * msTicks)) n x).out = s.out :=
    (ackTimedOut_out ..).trans (reachElapsed_out ..)
  have hport : x ∉ ((ackTimedOut (reachElapsed s (x.sentAt + 100 * msTicks)) n x).port n).unacked := by
    rw [ackTimedOut, port_setPort]
    exact fun h => absurd rfl (of_decide_eq_true (List.mem_filter.1 h).2)
  have hexec := exec_indicationResend_last hn hx (Nat.not_lt.2 htries)
  generalize ackTimedOut (reachElapsed s (x.sentAt + 100 * msTicks)) n x = u at *
  refine ⟨_, hexec, (raise_out ..).trans hout, ?_, fires_raise ..⟩
  rw [State.port, raise_lnk]
  exact hport

/-! ## The synchronisation of a tenant (R410) -/

/-- A synchronisation message sent. -/
theorem sendSyncMsg_leaves (n id kind : Nat) :
    ((sendSyncMsg s n id kind).port n).eventSeq = ((s.port n).eventSeq + 1) % 256 ∧
    (sendSyncMsg s n id kind).out = s.out ++
      [.link n 7 (dataFrame s n 7 (beBytes 1 id ++ beBytes 1 kind ++ beBytes 1 (s.port n).eventSeq ++ beBytes 1 0))] ∧
    (sendSyncMsg s n id kind).evt = s.evt ∧ (sendSyncMsg s n id kind).objs = s.objs ∧ (sendSyncMsg s n id kind).straps = s.straps ∧
    (∀ r ix, rd (sendSyncMsg s n id kind) r ix = rd s r ix) := by
  obtain ⟨pn, rekey, -, hout, hevt, hobjs, hstraps, -, hrd⟩ :=
    sendMessage_leaves (s := s) n 7 (beBytes 1 id ++ beBytes 1 kind ++ beBytes 1 (s.port n).eventSeq ++ beBytes 1 0)
  unfold sendSyncMsg
  dsimp only
  generalize sendMessage s n 7 (beBytes 1 id ++ beBytes 1 kind ++ beBytes 1 (s.port n).eventSeq ++ beBytes 1 0) = v at *
  refine ⟨?_, hout, hevt, hobjs, hstraps, fun r ix => (rd_eq_of_regs rfl rfl r ix).trans (hrd r ix)⟩
  rw [port_setPort]

/-- Whether a tenant is shown a condition, in a state that keeps what an entitlement and an enable rest on. -/
theorem showsCond_congr (ho : t.objs = s.objs) (hs : t.straps = s.straps) (hr : ∀ id ix, id = .dmaRingCfg ∨ id = .evtEn → rd t id ix = rd s id ix)
    (src inst d : Nat) : (entitled t src inst d && evtEnabled t src d) = (entitled s src inst d && evtEnabled s src d) := by
  rw [entitled_of_same ho hs (fun r => hr _ _ (.inl rfl)), evtEnabled, evtEnabled, rbit, rbit, hr _ _ (.inr rfl)]

theorem completes_synchronisationRequest (hf : FrameOk s f 7) (hp : FramePaid s f) (hact : beAt (frameBody f) 1 1 = 3)
    (hnone : ∀ c ∈ s.evt.cond, (entitled s c.1 c.2.1 f.port && evtEnabled s c.1 f.port) = false) :
    Completes (.synchronisationRequest f) s fun t => t.out = s.out ++
      [.link f.port 7 (dataFrame s f.port 7 (beBytes 1 (beAt (frameBody f) 0 1) ++ beBytes 1 4 ++ beBytes 1 (s.port f.port).eventSeq ++ beBytes 1 0)),
       .link f.port 7 (dataFrame s f.port 7 (beBytes 1 (beAt (frameBody f) 0 1) ++ beBytes 1 5 ++
         beBytes 1 (((s.port f.port).eventSeq + 1) % 256) ++ beBytes 1 0))] := by
  have hseq : ((paid s f).port f.port).eventSeq = (s.port f.port).eventSeq := by rw [paid_port]
  have hkeep := paid_keeps s f
  have hexec : exec (.synchronisationRequest f) s = .next (sendSyncMsg (((paid s f).evt.cond.filter (fun c =>
      entitled (paid s f) c.1 c.2.1 f.port && evtEnabled (paid s f) c.1 f.port)).foldl
        (fun s c => sendEvent s f.port (c.1, c.2.1, rf s .evtRpt [f.port, c.1] 7 0, false))
        (sendSyncMsg (paid s f) f.port (beAt (frameBody f) 0 1) 4)) f.port (beAt (frameBody f) 0 1) 5) := by
    show execSynchronisationRequest f s = _
    rw [execSynchronisationRequest, onFrame_of_paid _ hf hp, if_pos hact]
  have hempty : (paid s f).evt.cond.filter (fun c => entitled (paid s f) c.1 c.2.1 f.port && evtEnabled (paid s f) c.1 f.port) = [] := by
    rw [hkeep.cond, List.filter_eq_nil_iff]
    intro c hc
    rw [showsCond_congr hkeep.objs hkeep.straps (fun id ix h => hkeep.regs id ix (by rcases h with rfl | rfl <;> decide)), hnone c hc]
    exact Bool.false_ne_true
  rw [hempty] at hexec
  generalize paid s f = u at *
  obtain ⟨hseq1, hout1, -, -, -, hrd1⟩ := sendSyncMsg_leaves (s := u) f.port (beAt (frameBody f) 0 1) 4
  rw [List.foldl_nil] at hexec
  generalize sendSyncMsg u f.port (beAt (frameBody f) 0 1) 4 = v at *
  obtain ⟨-, hout2, -⟩ := sendSyncMsg_leaves (s := v) f.port (beAt (frameBody f) 0 1) 5
  refine ⟨_, hexec, ?_⟩
  beta_reduce
  rw [hout2, hout1, hseq1, hseq, dataFrame_congr (hrd1 ..) (hrd1 ..), hkeep.dataFrame, hkeep.dataFrame, hkeep.out, List.append_assoc,
    List.singleton_append]

/-- Settles O39: a message that arrives is checked and paid for, and what it asks for is sent or held in its port. -/
theorem linkMessageCommandsComplete : Obligations.LinkMessageCommandsComplete := by
  unfold Obligations.LinkMessageCommandsComplete
  exact ⟨fun _ _ hf hp hact => completes_delayRequest hf hp hact,
    fun _ _ hf hp hact => completes_requestWithFollowUp hf hp hact,
    fun _ _ _ hf hp hact hx => completes_followUp hf hp hact hx,
    fun _ _ hf hp hact => completes_remoteRequest hf hp hact,
    fun _ _ _ _ hn hup hq h132 h133 => completes_eventIndicationSend hn hup hq h132 h133,
    fun _ _ hf hp hact => completes_indicationAck hf hp hact,
    fun _ _ _ _ hn hx htries => completes_indicationResend hn hx htries,
    fun _ _ _ _ hn hx htries => completes_indicationResend_last hn hx htries,
    fun _ _ hf hp hact hnone => completes_synchronisationRequest hf hp hact hnone⟩

end Sys2Proof.Machine
end

section
/-!
The data messages of the link (R390 to R408): the settlement of O38.
-/

namespace Sys2Proof.Machine

set_option Elab.async false

variable {s t u : State} {f : LnkFrame} {n cc : Nat}

/-! ## What the checks of a message rest on -/

/-- A state that reads as another: the registers but for the repeat counts, the stored objects and the straps. -/
structure ReadsAs (s t : State) : Prop where
  regs : ∀ id ix, NoRepeatCount id → rd t id ix = rd s id ix
  objs : t.objs = s.objs
  straps : t.straps = s.straps

theorem ReadsAs.trans (h : ReadsAs s t) (h' : ReadsAs t u) : ReadsAs s u :=
  ⟨fun id ix hid => (h'.regs id ix hid).trans (h.regs id ix hid), h'.objs.trans h.objs, h'.straps.trans h.straps⟩

theorem ArrivalKeeps.readsAs (h : ArrivalKeeps s t f) : ReadsAs s t := ⟨h.regs, h.objs, h.straps⟩

/-- An object outside the registers is read from the store. -/
theorem ReadsAs.onum (h : ReadsAs s t) {i sb : Nat} (hb : objBlock i sb = none) (hh : objHome i sb = none) : t.onum i sb = s.onum i sb := by
  unfold State.onum State.obj State.obj.winDefault
  rw [hb, hh, h.objs, State.tenants, State.tenants, h.straps]

theorem objBlock_carrier (h : cc < 8) (sb : Nat) : objBlock (0x2010 + cc) sb = none ∧ objBlock (0x4400 + cc) sb = none :=
  ⟨if_neg (by omega), if_neg (by omega)⟩

theorem ReadsAs.carrier (h : ReadsAs s t) (hcc : cc < 8) {sb : Nat} (hh : objHome (0x2010 + cc) sb = none) :
    t.onum (0x2010 + cc) sb = s.onum (0x2010 + cc) sb :=
  h.onum (objBlock_carrier hcc sb).1 hh

theorem ReadsAs.ccOwner (h : ReadsAs s t) (cc : Nat) : t.ccOwner cc = s.ccOwner cc := ccOwner_of_same h.objs h.straps cc

theorem ReadsAs.ccMu (h : ReadsAs s t) (hcc : cc < 8) : t.ccMu cc = s.ccMu cc := by
  rw [State.ccMu, State.ccMu, h.carrier hcc (by interval_cases cc <;> decide)]

theorem ReadsAs.ccEcp (h : ReadsAs s t) (hcc : cc < 8) : t.ccEcp cc = s.ccEcp cc := by
  rw [State.ccEcp, State.ccEcp, h.carrier hcc (by interval_cases cc <;> decide)]

theorem ReadsAs.ccN (h : ReadsAs s t) (hcc : cc < 8) : t.ccN cc = s.ccN cc := by
  rw [State.ccN, State.ccN, h.carrier hcc (by interval_cases cc <;> decide)]

theorem ReadsAs.dlOn (h : ReadsAs s t) (hcc : cc < 8) : t.dlOn cc = s.dlOn cc := by
  rw [State.dlOn, State.dlOn, h.carrier hcc (by interval_cases cc <;> decide)]

theorem ReadsAs.ulOn (h : ReadsAs s t) (hcc : cc < 8) : t.ulOn cc = s.ulOn cc := by
  rw [State.ulOn, State.ulOn, h.carrier hcc (by interval_cases cc <;> decide)]

theorem ReadsAs.ccWinOfs (h : ReadsAs s t) (hcc : cc < 8) : t.ccWinOfs cc = s.ccWinOfs cc := by
  rw [State.ccWinOfs, State.ccWinOfs, h.onum (objBlock_carrier hcc 3).2 (by interval_cases cc <;> decide)]

theorem ReadsAs.ccHalfbands (h : ReadsAs s t) (hcc : cc < 8) : t.ccHalfbands cc = s.ccHalfbands cc := by
  rw [State.ccHalfbands, State.ccHalfbands, State.ccFftExp, State.ccFftExp, h.onum (objBlock_carrier hcc 1).2 (by interval_cases cc <;> decide),
    h.ccMu hcc]

theorem ReadsAs.bfLayers (h : ReadsAs s t) (cc d : Nat) : t.bfLayers cc d = s.bfLayers cc d := by
  unfold State.bfLayers rf
  rw [h.regs _ _ (by decide)]

theorem ReadsAs.bfNg (h : ReadsAs s t) (hcc : cc < 8) : t.bfNg cc = s.bfNg cc := by
  unfold State.bfNg State.bfG rf
  rw [h.ccN hcc, h.regs _ _ (by decide)]

theorem ReadsAs.frameOfs (h : ReadsAs s t) : t.frameOfs = s.frameOfs := h.regs _ _ (by decide)

theorem ReadsAs.sectionOk (h : ReadsAs s t) (b : List Byte) {x : SecHdr} (hcc : x.cc < 8) (layers : Nat) :
    sectionOk t b x layers = sectionOk s b x layers := by
  unfold Machine.sectionOk
  rw [h.ccMu hcc, h.ccEcp hcc, h.ccN hcc]

theorem secHdrOf_cc_lt (b : List Byte) : (secHdrOf b).cc < 8 := Nat.mod_lt _ (by decide)

/-! ## A message dropped (R396) -/

/-- What a message dropped leaves: the link's buffers, and the drop counted. -/
theorem dropMsg_leaves {cause : Nat} (h8 : cause ≠ 8) (h9 : cause ≠ 9) (n : Nat) : (dropMsg s n cause none).lnk = s.lnk ∧ (dropMsg s n cause none).bm = s.bm ∧
    rd (dropMsg s n cause none) .lnkPortDrop [n] = min 0xFFFFFFFF (rd s .lnkPortDrop [n] + 1) := by
  have hsame := (dropMsg_same n cause none (Nat.and_self _) (Same.refl _ s)).but
  refine ⟨hsame.lnk (by decide), hsame.bm (by decide), ?_⟩
  have hbump : rd (bump (stat s (0x9210 + n) cause) .lnkPortDrop [n]) .lnkPortDrop [n] = min 0xFFFFFFFF (rd s .lnkPortDrop [n] + 1) := by
    rw [rd_bump _ _ _ _ (by decide), rd_stat (by decide)]
  unfold dropMsg
  dsimp only
  generalize bump (stat s (0x9210 + n) cause) .lnkPortDrop [n] = v at *
  split
  · exact (rd_raise (by decide) ..).trans hbump
  · exact (rd_raise (by decide) ..).trans hbump
  · exact absurd rfl h8
  · exact absurd rfl h9
  · exact (rd_raise (by decide) ..).trans hbump
  · exact (rd_raise (by decide) ..).trans hbump
  · exact hbump

theorem fires_dropMsg_firewall (n : Nat) : Fires (dropMsg s n 6 none) 224 := fires_raise ..

theorem fires_dropMsg_policed (n : Nat) : Fires (dropMsg s n 10 none) 137 := fires_raise ..

/-- A frame that a check of its port refuses. -/
theorem onFrame_of_refused {ty c : Nat} {policed : Bool} (act : State → State) (hport : f.port < 4) (hup : s.portUp f.port = true)
    (hc : frameCheck s f ty = c) (h0 : c ≠ 0) (h16 : c ≠ 16) : onFrame s f ty policed act = dropMsg (arrived s f) f.port c none := by
  have hadmit : admitFrame s f ty policed = (false, dropMsg (arrived s f) f.port c none) := by
    unfold admitFrame
    dsimp only
    rw [show frameCheck (stat (reachCount s f.tick) (0x9210 + f.port) 20) f ty = c from frameCheck_arrived.trans hc, if_neg h16, if_pos h0]
    rfl
  unfold onFrame
  rw [if_pos ⟨hport, hup⟩, hadmit]

theorem frameCheck_le (s : State) (f : LnkFrame) (ty : Nat) : frameCheck s f ty ≤ 5 ∨ frameCheck s f ty = 16 := by
  unfold frameCheck
  dsimp only
  repeat' split
  all_goals omega

/-! ## Sections received (R391 to R398) -/

theorem completes_iqDataMessage_foreign (hf : FrameOk s f 0) (hten : (secHdrOf ((frameBody f).drop 4)).tenant ≠ f.port) :
    Completes (.iqDataMessage f) s fun t =>
      t.lnk.dl = s.lnk.dl ∧ rd t .lnkPortDrop [f.port] = min 0xFFFFFFFF (rd s .lnkPortDrop [f.port] + 1) ∧ Fires t 224 := by
  have hexec : exec (.iqDataMessage f) s = .next (dropMsg (arrived s f) f.port 6 none) := by
    show execIqDataMessage f s = _
    rw [execIqDataMessage, onFrame_of_free _ hf]
    exact congrArg Host.Outcome.next (if_pos (.inl hten))
  obtain ⟨hlnk, -, hdrop⟩ := dropMsg_leaves (s := arrived s f) (cause := 6) (by decide) (by decide) f.port
  refine ⟨_, hexec, by rw [hlnk, arrived_lnk], ?_, fires_dropMsg_firewall ..⟩
  rw [hdrop, (arrived_keeps s f).regs _ _ (by decide)]

theorem completes_iqDataMessage_refused {c : Nat} (hport : f.port < 4) (hup : s.portUp f.port = true) (hc : frameCheck s f 0 = c) (h0 : c ≠ 0)
    (h16 : c ≠ 16) : Completes (.iqDataMessage f) s fun t =>
      t.lnk.dl = s.lnk.dl ∧ rd t .lnkPortDrop [f.port] = min 0xFFFFFFFF (rd s .lnkPortDrop [f.port] + 1) := by
  have hle : c ≤ 5 := (hc ▸ frameCheck_le s f 0).resolve_right h16
  have hexec : exec (.iqDataMessage f) s = .next (dropMsg (arrived s f) f.port c none) := by
    show execIqDataMessage f s = _
    rw [execIqDataMessage, onFrame_of_refused _ hport hup hc h0 h16]
  obtain ⟨hlnk, -, hdrop⟩ := dropMsg_leaves (s := arrived s f) (cause := c) (by omega) (by omega) f.port
  refine ⟨_, hexec, by rw [hlnk, arrived_lnk], ?_⟩
  rw [hdrop, (arrived_keeps s f).regs _ _ (by decide)]

/-- What the sequence number of a message leaves (R390). -/
theorem rxSequence_leaves (n pc seq : Nat) : ReadsAs s (rxSequence s n pc seq) ∧ (rxSequence s n pc seq).lnk.ulCtl = s.lnk.ulCtl := by
  have hsame := (rxSequence_same n pc seq (Nat.and_self _) (Same.refl _ s)).but
  refine ⟨⟨fun id ix h => hsame.rd_eq_apart (by decide) (by decide) fun id' hid => by rw [List.mem_singleton.1 hid]; exact h,
    hsame.objs (by decide), hsame.straps (by decide)⟩, ?_⟩
  have hlnk : (if spGet 0 (s.port n).rxSeq pc ≠ 0 ∧ spGet 0 (s.port n).rxSeq pc % 256 ≠ seq % 256 then stat s (0x9210 + n) 19 else s).lnk = s.lnk := by
    split
    · exact (stat_same _ _ _ (Nat.and_self _) (Same.refl _ s)).but.lnk (by decide)
    · rfl
  unfold rxSequence
  dsimp only
  generalize (if spGet 0 (s.port n).rxSeq pc ≠ 0 ∧ spGet 0 (s.port n).rxSeq pc % 256 ≠ seq % 256 then stat s (0x9210 + n) 19 else s) = v at *
  unfold State.setPort
  dsimp only
  rw [hlnk]

theorem length_prbDecode (c : Nat) (b : List Byte) : (prbDecode c b).1.length = 12 := by
  unfold prbDecode
  dsimp only
  split
  · rw [List.length_map, List.length_range]
  · rw [List.length_map, List.length_range]

/-- The REs of a section, decoded block by block (R394). -/
def sectionRes (h : SecHdr) (b : List Byte) : List Cplx :=
  (((List.range h.count).map (fun i => prbDecode h.comp (sliceBytes b (14 + i * compBytes h.comp) (compBytes h.comp)))).map (·.1)).flatten

theorem length_sectionRes (h : SecHdr) (b : List Byte) : (sectionRes h b).length = 12 * h.count := by
  have hall : ∀ l ∈ ((List.range h.count).map (fun i => prbDecode h.comp (sliceBytes b (14 + i * compBytes h.comp) (compBytes h.comp)))).map (·.1),
      l.length = 12 := by
    intro l hl
    obtain ⟨p, hp, rfl⟩ := List.mem_map.1 hl
    obtain ⟨i, -, rfl⟩ := List.mem_map.1 hp
    exact length_prbDecode ..
  rw [sectionRes, List.length_flatten, List.map_congr_left (g := fun _ => 12) hall, List.map_const', List.sum_replicate, List.length_map, List.length_map,
    List.length_range, smul_eq_mul, Nat.mul_comm]

/-- The sections of a carrier with one more, that earlier ones of its symbol give way to (R398). -/
def sectionHeld (u : State) (cc : Nat) (x : DlSec) (count : Nat) : State :=
  let old := spGet [] u.lnk.dl cc
  let cut := ((old.filter (fun y => y.tick = x.tick)).map (fun y => trimSec y x.layer x.start count)).flatten
  { u with lnk := { u.lnk with dl := spPut [] u.lnk.dl cc (old.filter (fun y => y.tick ≠ x.tick) ++ cut ++ [x]) } }

theorem mem_sectionHeld (u : State) (cc : Nat) (x : DlSec) (count : Nat) : x ∈ spGet [] (sectionHeld u cc x count).lnk.dl cc := by
  unfold sectionHeld
  dsimp only
  rw [spGet_spPut_same]
  exact List.mem_append_right _ (List.mem_singleton.2 rfl)

/-- A section of the carrier's symbol joins its buffer (R398). -/
theorem iqSection_of_good {b : List Byte} {h : SecHdr} {air : Nat} (hb : b = frameBody f) (hh : h = secHdrOf (b.drop 4)) (hten : h.tenant = f.port)
    (hown : s.ccOwner h.cc = f.port) (hmin : 14 ≤ b.length) (hok : sectionOk s b h (s.bfLayers h.cc 0) = true)
    (hlen : b.length = 14 + h.count * compBytes h.comp) (hair : air = nearestAir s.frameOfs (s.ccMu h.cc) (s.ccEcp h.cc) h.frame h.slot h.symbol f.tick)
    (hopen : air ≤ f.tick + rf s .lnkCcWin [h.cc] 22 0) (hclose : f.tick + rf s .lnkCcWin [h.cc] 54 32 ≤ air) (hdl : s.dlOn h.cc = true) :
    ⟨air, h.stream, h.start, h.beam, h.wset, sectionRes h b⟩ ∈ spGet [] (iqSection s f).lnk.dl h.cc := by
  subst hb hh hair
  unfold iqSection
  dsimp only
  rw [if_neg (by simp [hten, hown]), if_neg (by simp [hok, hlen]), if_neg (by omega), if_neg (by omega), if_neg (by simp [hdl])]
  generalize secHdrOf ((frameBody f).drop 4) = h at *
  generalize nearestAir s.frameOfs (s.ccMu h.cc) (s.ccEcp h.cc) h.frame h.slot h.symbol f.tick = air at *
  generalize rxSequence s f.port (setBits (beAt (frameBody f) 0 2) 8 8 0) (beAt (frameBody f) 2 1) = u
  have hmem := mem_sectionHeld u h.cc ⟨air, h.stream, h.start, h.beam, h.wset, sectionRes h (frameBody f)⟩ h.count
  obtain ⟨v, hv⟩ : ∃ v, v = sectionHeld u h.cc ⟨air, h.stream, h.start, h.beam, h.wset, sectionRes h (frameBody f)⟩ h.count := ⟨_, rfl⟩
  have hstat (w : State) (i sb k : Nat) : (stat w i sb k).lnk = w.lnk := (stat_same i sb k (Nat.and_self _) (Same.refl _ w)).but.lnk (by decide)
  have hite (c : Prop) [Decidable c] (w x : State) (hw : w.lnk = v.lnk) (hx : x.lnk = v.lnk) : (if c then w else x).lnk = v.lnk := by
    split
    · exact hw
    · exact hx
  subst hv
  have hheld (l : Lnk) (e : l = (sectionHeld u h.cc ⟨air, h.stream, h.start, h.beam, h.wset, sectionRes h (frameBody f)⟩ h.count).lnk) :
      ⟨air, h.stream, h.start, h.beam, h.wset, sectionRes h (frameBody f)⟩ ∈ spGet [] l.dl h.cc := e ▸ hmem
  exact hheld _ (hite _ _ _ ((hstat ..).trans (hite _ _ _ rfl (hstat ..))) (hite _ _ _ rfl (hstat ..)))

theorem completes_iqDataMessage {b : List Byte} {h : SecHdr} {air : Nat} (hf : FrameOk s f 0) (hb : b = frameBody f) (hh : h = secHdrOf (b.drop 4))
    (hten : h.tenant = f.port) (hown : s.ccOwner h.cc = f.port) (hmin : 14 ≤ b.length) (hok : sectionOk s b h (s.bfLayers h.cc 0) = true)
    (hlen : b.length = 14 + h.count * compBytes h.comp) (hair : air = nearestAir s.frameOfs (s.ccMu h.cc) (s.ccEcp h.cc) h.frame h.slot h.symbol f.tick)
    (hopen : air ≤ f.tick + rf s .lnkCcWin [h.cc] 22 0) (hclose : f.tick + rf s .lnkCcWin [h.cc] 54 32 ≤ air) (hdl : s.dlOn h.cc = true) :
    Completes (.iqDataMessage f) s fun t =>
      ∃ x ∈ spGet [] t.lnk.dl h.cc, x.tick = air ∧ x.layer = h.stream ∧ x.start = h.start ∧ x.beam = h.beam ∧
        x.res.length = 12 * h.count := by
  have hexec : exec (.iqDataMessage f) s = .next (iqSection (arrived s f) f) := by
    show execIqDataMessage f s = _
    rw [execIqDataMessage, onFrame_of_free _ hf]
  have hr := (arrived_keeps s f).readsAs
  have hcc : h.cc < 8 := hh ▸ secHdrOf_cc_lt _
  have hwin (hi lo) : rf (arrived s f) .lnkCcWin [h.cc] hi lo = rf s .lnkCcWin [h.cc] hi lo := congrArg (bitsOf · hi lo) (hr.regs _ _ (by decide))
  refine ⟨_, hexec, _, iqSection_of_good hb hh hten ?_ hmin ?_ hlen ?_ ?_ ?_ ?_, rfl, rfl, rfl, rfl, length_sectionRes h b⟩
  · rw [hr.ccOwner, hown]
  · rw [hr.sectionOk b hcc, hr.bfLayers, hok]
  · rw [hr.frameOfs, hr.ccMu hcc, hr.ccEcp hcc, hair]
  · rw [hwin]
    exact hopen
  · rw [hwin]
    exact hclose
  · rw [hr.dlOn hcc, hdl]

/-! ## The close of a window (R395, R397) -/

theorem completes_dlWindowClose {air i st : Nat} {e : PatEntry} (hcc : cc < 8) (hdl : s.dlOn cc = true) (hair : air = s.now + rf s .lnkCcWin [cc] 54 32)
    (hsym : nextSymbol s.frameOfs (s.ccMu cc) (s.ccEcp cc) air = air) (hseen : spGet 0 s.clk.seen (202 * 65536 + cc) ≠ s.clk.elapsed + 1)
    (hpat : patFind s.pattern 0 0 (patPos s.pattern s.frameOfs air) = some (i, st, e)) (hdir : e.dir = 0) (hn : 0 < s.ccN cc)
    (hnone : ∀ x ∈ spGet [] s.lnk.dl cc, x.tick ≠ air) : Completes (.dlWindowClose cc) s fun t => Fires t 134 := by
  have hnow : toBoundary s 202 cc (fun t => nextSymbol s.frameOfs (s.ccMu cc) (s.ccEcp cc) (t + rf s .lnkCcWin [cc] 54 32) - rf s .lnkCcWin [cc] 54 32) =
      hadNow s (202 * 65536 + cc) := toBoundary_of_now (by rw [← hair, hsym, hair, Nat.add_sub_cancel]) hseen
  have hexec : exec (.dlWindowClose cc) s = .next (windowClose (hadNow s (202 * 65536 + cc)) cc air) := by
    show execDlWindowClose cc s = _
    unfold execDlWindowClose
    rw [if_pos ⟨hcc, hdl⟩]
    dsimp only
    rw [hnow, show (hadNow s (202 * 65536 + cc)).now + rf s .lnkCcWin [cc] 54 32 = air from hair.symm,
      show (hadNow s (202 * 65536 + cc)).pattern = s.pattern from rfl, show (hadNow s (202 * 65536 + cc)).frameOfs = s.frameOfs from rfl, hpat]
    exact congrArg Host.Outcome.next (if_pos hdir)
  have hreads : ReadsAs s (hadNow s (202 * 65536 + cc)) := ⟨fun id ix _ => rd_eq_of_regs rfl rfl id ix, rfl, rfl⟩
  have hsecs : (spGet [] (hadNow s (202 * 65536 + cc)).lnk.dl cc).filter (fun x => x.tick = air) = [] :=
    List.filter_eq_nil_iff.2 fun x hx h => hnone x hx (of_decide_eq_true h)
  have hlayers : 0 < s.bfLayers cc 0 := Nat.succ_pos _
  refine ⟨_, hexec, ?_⟩
  beta_reduce
  unfold windowClose
  dsimp only
  rw [hsecs, hreads.bfLayers, hreads.ccN hcc, List.map_congr_left (g := fun _ => s.ccN cc) fun l _ => show s.ccN cc - coveredPrbs [] l = s.ccN cc from Nat.sub_zero _, List.map_const', List.sum_replicate,
    List.length_range, smul_eq_mul, if_neg (Nat.mul_ne_zero (Nat.ne_of_gt hlayers) (Nat.ne_of_gt hn))]
  exact fires_raise ..

/-! ## Sections sent (R401 to R404) -/

/-- A step that sends one section of an uplink buffer. -/
structure SectionStep (s t : State) : Prop where
  out : t.out.length = s.out.length + 1
  ul : t.lnk.ul = s.lnk.ul
  prach : t.lnk.prach = s.lnk.prach

theorem countPn_lnk (n : Nat) : (countPn s n).lnk.ul = s.lnk.ul ∧ (countPn s n).lnk.prach = s.lnk.prach := by
  unfold countPn
  split
  · exact ⟨rfl, rfl⟩
  · exact ⟨rfl, rfl⟩

theorem sendMessage_step (n kind : Nat) (b : List Byte) : SectionStep s (sendMessage s n kind b) := by
  obtain ⟨-, -, -, hout, -⟩ := sendMessage_leaves (s := s) n kind b
  obtain ⟨hul, hprach⟩ := countPn_lnk (s := s) n
  exact ⟨by rw [hout, List.length_append, List.length_singleton], hul, hprach⟩

theorem sendSection_step (n : Nat) (h : SecHdr) (p : List Byte) : SectionStep s (sendSection s n h p) := by
  have hsteps (x : Port) (b : List Byte) : SectionStep s (sendMessage (s.setPort n x) n 0 b) := by
    obtain ⟨hout, hul, hprach⟩ := sendMessage_step (s := s.setPort n x) n 0 b
    exact ⟨by rw [hout, setPort_out], hul, hprach⟩
  exact hsteps _ _

/-- Sections sent one after another. -/
structure SectionsSent (k : Nat) (s t : State) : Prop where
  out : t.out.length = s.out.length + k
  ul : t.lnk.ul = s.lnk.ul
  prach : t.lnk.prach = s.lnk.prach

theorem SectionStep.sent (h : SectionStep s t) : SectionsSent 1 s t := ⟨h.out, h.ul, h.prach⟩

theorem SectionsSent.refl (s : State) : SectionsSent 0 s s := ⟨rfl, rfl, rfl⟩

theorem SectionsSent.trans {j k : Nat} (h : SectionsSent j s t) (h' : SectionsSent k t u) : SectionsSent (j + k) s u :=
  ⟨by rw [h'.out, h.out, Nat.add_assoc], h'.ul.trans h.ul, h'.prach.trans h.prach⟩

/-- A list of steps that each send as many sections. -/
theorem SectionsSent.foldl {α : Type} {g : State → α → State} {k : Nat} (hg : ∀ u a, SectionsSent k u (g u a)) {l : List α} {j : Nat}
    (hl : l.length = j) (s : State) : SectionsSent (j * k) s (l.foldl g s) := by
  induction l generalizing s j with
  | nil => rw [← hl, List.length_nil, Nat.zero_mul]; exact SectionsSent.refl s
  | cons a l ih =>
    rw [← hl, List.length_cons, Nat.succ_mul, Nat.add_comm]
    exact (hg s a).trans (ih rfl _)

/-- The link's buffer of a carrier's uplink symbol emptied. -/
def ulTaken (s : State) (cc : Nat) : State := { s with lnk := { s.lnk with ul := spPut UlSym.none_ s.lnk.ul cc UlSym.none_ } }

theorem ulTaken_ul (s : State) (cc : Nat) : spGet UlSym.none_ (ulTaken s cc).lnk.ul cc = UlSym.none_ :=
  spGet_spPut_same UlSym.none_ s.lnk.ul cc UlSym.none_

theorem sendUplink_of_down (hkind : (spGet UlSym.none_ s.lnk.ul cc).kind ≠ 0) (hdown : s.portUp (s.ccOwner cc) = false) :
    ∃ k, sendUplink s cc = stat (ulTaken s cc) (0x9200 + cc) 17 k := by
  unfold sendUplink ulTaken
  generalize symbolName s.frameOfs (s.ccMu cc) (s.ccEcp cc) (spGet UlSym.none_ s.lnk.ul cc).tick = x
  dsimp only
  exact ⟨_, (if_neg hkind).trans (if_pos (by rw [show State.portUp _ (s.ccOwner cc) = false from hdown]; decide))⟩

theorem sendUplink_of_up (hkind : (spGet UlSym.none_ s.lnk.ul cc).kind ≠ 0) (hup : s.portUp (s.ccOwner cc) = true) :
    SectionsSent ((spGet UlSym.none_ s.lnk.ul cc).streams.length * (prbRanges (s.ccN cc) (bitsOf (rd s .lnkCcUl [cc]) 8 0)).length)
      (ulTaken s cc) (sendUplink s cc) := by
  unfold sendUplink
  generalize symbolName s.frameOfs (s.ccMu cc) (s.ccEcp cc) (spGet UlSym.none_ s.lnk.ul cc).tick = x
  dsimp only
  rw [if_neg hkind, if_neg (by rw [show State.portUp s (s.ccOwner cc) = true from hup]; decide)]
  refine SectionsSent.foldl (fun u k => ?_) List.length_range (ulTaken s cc)
  rw [← Nat.mul_one (prbRanges (s.ccN cc) (bitsOf (rd s .lnkCcUl [cc]) 8 0)).length]
  exact SectionsSent.foldl (fun u r => (sendSection_step ..).sent) rfl u

theorem completes_ulSectionSend_up (hcc : cc < 8) (hkind : (spGet UlSym.none_ s.lnk.ul cc).kind ≠ 0) (hup : s.portUp (s.ccOwner cc) = true) :
    Completes (.ulSectionSend false cc) s fun t =>
      spGet UlSym.none_ t.lnk.ul cc = UlSym.none_ ∧
      t.out.length = s.out.length + (spGet UlSym.none_ s.lnk.ul cc).streams.length *
        (prbRanges (s.ccN cc) (bitsOf (rd s .lnkCcUl [cc]) 8 0)).length := by
  obtain ⟨hout, hul, -⟩ := sendUplink_of_up hkind hup
  exact ⟨_, if_pos hcc, by rw [hul, ulTaken_ul], hout⟩

theorem completes_ulSectionSend_down (hcc : cc < 8) (hkind : (spGet UlSym.none_ s.lnk.ul cc).kind ≠ 0) (hdown : s.portUp (s.ccOwner cc) = false) :
    Completes (.ulSectionSend false cc) s fun t => spGet UlSym.none_ t.lnk.ul cc = UlSym.none_ ∧ t.out = s.out := by
  obtain ⟨k, hk⟩ := sendUplink_of_down hkind hdown
  have hsame := (stat_same (0x9200 + cc) 17 k (Nat.and_self _) (Same.refl _ (ulTaken s cc))).but
  refine ⟨_, if_pos hcc, ?_, ?_⟩
  · rw [hk, hsame.lnk (by decide), ulTaken_ul]
  · rw [hk, hsame.out (by decide)]
    rfl

/-- The link's buffer of a PRACH occasion emptied. -/
def prachTaken (s : State) (j : Nat) : State := { s with lnk := { s.lnk with prach := spPut UlSym.none_ s.lnk.prach j UlSym.none_ } }

theorem sendPrach_prach {j : Nat} (hkind : (spGet UlSym.none_ s.lnk.prach j).kind ≠ 0) :
    (sendPrach s j).lnk.prach = spPut UlSym.none_ s.lnk.prach j UlSym.none_ := by
  unfold sendPrach
  generalize symbolName _ _ _ _ = x
  dsimp only
  rw [if_neg hkind]
  split
  · rw [(stat_same _ _ _ (Nat.and_self _) (Same.refl _ _)).but.lnk (by decide)]
  · refine List.foldlRecOn (motive := fun (u : State) => u.lnk.prach = spPut UlSym.none_ s.lnk.prach j UlSym.none_) _ _ rfl fun u hu k _ => ?_
    exact List.foldlRecOn (motive := fun (u : State) => u.lnk.prach = spPut UlSym.none_ s.lnk.prach j UlSym.none_) _ _ hu fun v hv r _ =>
      (sendSection_step ..).prach.trans hv

theorem completes_ulSectionSend_prach {j : Nat} (hj : j < 4) (hkind : (spGet UlSym.none_ s.lnk.prach j).kind ≠ 0) :
    Completes (.ulSectionSend true j) s fun t => spGet UlSym.none_ t.lnk.prach j = UlSym.none_ := by
  refine ⟨_, if_pos hj, ?_⟩
  beta_reduce
  rw [sendPrach_prach hkind, spGet_spPut_same]

/-! ## Control (R405) -/

/-- A control entry that keeps every check joins its carrier's (R405). -/
theorem controlEntry_of_good {rtc : Nat} {b : List Byte} {h : SecHdr} {air : Nat} (hh : h = secHdrOf b) (hten : h.tenant = f.port)
    (hown : s.ccOwner h.cc = f.port) (hkind : h.kind = 0) (hcc : h.cc = bitsOf rtc 13 11) (hcount : 0 < h.count) (hmax : h.count ≤ 275)
    (hfit : h.start + h.count ≤ s.ccN h.cc) (hlayer : h.stream < s.bfLayers h.cc 1)
    (hsym : symbolExists (s.ccMu h.cc) (s.ccEcp h.cc) h.slot h.symbol = true)
    (hair : air = nearestAir s.frameOfs (s.ccMu h.cc) (s.ccEcp h.cc) h.frame h.slot h.symbol f.tick) (hsoon : air ≤ f.tick + frameTicks)
    (hul : s.ulOn h.cc = true)
    (hlead : f.tick + 4096 ≤ air + symLenAt s.frameOfs (s.ccMu h.cc) (s.ccEcp h.cc) air - s.ccWinOfs h.cc * 2 ^ s.ccHalfbands h.cc + 8192) :
    controlEntry s f rtc b = { s with lnk := { s.lnk with
      ulCtl := spMod [] s.lnk.ulCtl h.cc (fun l => l ++ [⟨air, h.stream, h.start, h.count, h.beam⟩]) } } := by
  subst hh
  unfold controlEntry
  dsimp only
  rw [if_neg (by simp [hten, hown]), if_neg (by simp only [hsym, hkind, ← hcc, not_true_eq_false, or_false, false_or, ne_eq]; omega), ← hair, if_neg (by omega),
    if_neg (by simp [hul]), if_neg (by omega)]

theorem controlMessage_of_single {b : List Byte} (hb : b = frameBody f) (hlen : b.length = 14) (hport : bitsOf (beAt b 0 2) 15 14 = f.port)
    (hown : s.ccOwner (bitsOf (beAt b 0 2) 13 11) = f.port) (hpc : setBits (beAt b 0 2 % 2048) 8 8 0 = 0) (hseq : beAt b 3 1 = 128) :
    controlMessage s f = controlEntry (rxSequence s f.port (0x10000 + setBits (beAt b 0 2) 8 8 0) (beAt b 2 1)) f (beAt b 0 2) (sliceBytes b 4 10) := by
  subst hb
  unfold controlMessage
  dsimp only
  rw [if_neg (by simp [hport, hown]), if_neg (by omega), hlen]
  rfl

theorem completes_realTimeControlMessage {b : List Byte} {h : SecHdr} {rtc air : Nat} (hf : FrameOk s f 2) (hp : FramePaid s f) (hb : b = frameBody f)
    (hlen : b.length = 14) (hrtc : rtc = beAt b 0 2) (hh : h = secHdrOf (sliceBytes b 4 10)) (hport : bitsOf rtc 15 14 = f.port)
    (hown : s.ccOwner (bitsOf rtc 13 11) = f.port) (hpc : setBits (rtc % 2048) 8 8 0 = 0) (hseq : beAt b 3 1 = 128) (hten : h.tenant = f.port)
    (hkind : h.kind = 0) (hcc : h.cc = bitsOf rtc 13 11) (hcount : 0 < h.count) (hmax : h.count ≤ 275) (hfit : h.start + h.count ≤ s.ccN h.cc)
    (hlayer : h.stream < s.bfLayers h.cc 1) (hsym : symbolExists (s.ccMu h.cc) (s.ccEcp h.cc) h.slot h.symbol = true)
    (hair : air = nearestAir s.frameOfs (s.ccMu h.cc) (s.ccEcp h.cc) h.frame h.slot h.symbol f.tick) (hsoon : air ≤ f.tick + frameTicks)
    (hul : s.ulOn h.cc = true)
    (hlead : f.tick + 4096 ≤ air + symLenAt s.frameOfs (s.ccMu h.cc) (s.ccEcp h.cc) air - s.ccWinOfs h.cc * 2 ^ s.ccHalfbands h.cc + 8192) :
    Completes (.realTimeControlMessage f) s fun t =>
      spGet [] t.lnk.ulCtl h.cc = spGet [] s.lnk.ulCtl h.cc ++ [⟨air, h.stream, h.start, h.count, h.beam⟩] := by
  subst hrtc
  have hpaid := (paid_keeps s f).readsAs
  obtain ⟨hrx, hctl⟩ := rxSequence_leaves (s := paid s f) f.port (0x10000 + setBits (beAt b 0 2) 8 8 0) (beAt b 2 1)
  have hexec : exec (.realTimeControlMessage f) s = .next (controlMessage (paid s f) f) := by
    show execRealTimeControlMessage f s = _
    rw [execRealTimeControlMessage, onFrame_of_paid _ hf hp]
  rw [controlMessage_of_single hb hlen hport (by rw [hpaid.ccOwner, hown]) hpc hseq] at hexec
  have hkept : (paid s f).lnk.ulCtl = s.lnk.ulCtl := tokensCounted_ulCtl _
  have hr := hpaid.trans hrx
  generalize rxSequence (paid s f) f.port (0x10000 + setBits (beAt b 0 2) 8 8 0) (beAt b 2 1) = u at *
  have hlt : h.cc < 8 := hh ▸ secHdrOf_cc_lt _
  rw [controlEntry_of_good (air := air) hh hten (by rw [hr.ccOwner, hcc, hown]) hkind hcc hcount hmax (by rw [hr.ccN hlt]; exact hfit)
    (by rw [hr.bfLayers]; exact hlayer) (by rw [hr.ccMu hlt, hr.ccEcp hlt, hsym]) (by rw [hr.frameOfs, hr.ccMu hlt, hr.ccEcp hlt, hair]) hsoon
    (by rw [hr.ulOn hlt, hul]) (by rw [hr.frameOfs, hr.ccMu hlt, hr.ccEcp hlt, hr.ccWinOfs hlt, hr.ccHalfbands hlt]; exact hlead)] at hexec
  refine ⟨_, hexec, ?_⟩
  beta_reduce
  dsimp only
  rw [spMod, spGet_spPut_same, hctl, hkept]

theorem completes_realTimeControlMessage_unpaid (hf : FrameOk s f 2)
    (hpoor : (s.port f.port).tokens + (s.clk.elapsed + (f.tick - s.clk.count)) * 125000 < f.len * 491520) :
    Completes (.realTimeControlMessage f) s fun t =>
      t.lnk.ulCtl = s.lnk.ulCtl ∧ rd t .lnkPortDrop [f.port] = min 0xFFFFFFFF (rd s .lnkPortDrop [f.port] + 1) ∧ Fires t 137 := by
  have hheld : ¬ f.len * 491520 ≤ tokensHeld s f := by
    have helapsed := (arrived_keeps s f).elapsed
    unfold tokensHeld
    omega
  have hexec : exec (.realTimeControlMessage f) s = .next (dropMsg (tokensCounted s f (tokensHeld s f)) f.port 10 none) := by
    show execRealTimeControlMessage f s = _
    rw [execRealTimeControlMessage, onFrame_of_policed _ hf, if_neg hheld]
  obtain ⟨hlnk, -, hdrop⟩ := dropMsg_leaves (s := tokensCounted s f (tokensHeld s f)) (cause := 10) (by decide) (by decide) f.port
  refine ⟨_, hexec, by rw [hlnk, tokensCounted_ulCtl], ?_, fires_dropMsg_policed ..⟩
  rw [hdrop, (tokensCounted_keeps _).regs _ _ (by decide)]

/-! ## Generic data (R252, R407) -/

theorem weightBlock_of_owner {b : List Byte} {k : Nat} (hown : s.ccOwner (bitsOf (beAt b 0 1) 7 5) = k) : weightBlock s (some k) b = weightBlock s none b := by
  unfold weightBlock
  dsimp only
  rw [decide_eq_true hown]
  rfl

theorem completes_genericDataMessage_block {b : List Byte} (hf : FrameOk s f 3) (hservice : beAt (frameBody f) 0 1 = 2)
    (hb : b = (frameBody f).drop 8) (hcc : cc = bitsOf (beAt b 0 1) 7 5) (hown : s.ccOwner cc = f.port) (hdir : bitsOf (beAt b 0 1) 4 4 = 0)
    (htarget : bitsOf (beAt b 1 1) 7 7 = 0) (hmin : 1 ≤ beAt b 4 1) (hmax : beAt b 4 1 ≤ 32) (hlen : b.length = 8 + 256 * beAt b 4 1)
    (hlayer : bitsOf (beAt b 0 1) 3 0 < s.bfLayers cc 0) (hgroups : beAt b 2 2 + beAt b 4 1 ≤ s.bfNg cc) (hdl : s.dlOn cc = true) :
    Completes (.genericDataMessage f) s fun t => t.bm.landing.length = s.bm.landing.length + beAt b 4 1 := by
  have hr := (arrived_keeps s f).readsAs
  have hlt : cc < 8 := hcc ▸ Nat.mod_lt _ (by decide)
  have hexec : exec (.genericDataMessage f) s = .next (weightBlock (arrived s f) (some f.port) b) := by
    show execGenericDataMessage f s = _
    unfold execGenericDataMessage
    dsimp only
    rw [hservice, decide_eq_false (by decide), onFrame_of_free _ hf, if_pos rfl, hb]
  subst hcc
  rw [weightBlock_of_owner (by rw [hr.ccOwner, hown])] at hexec
  obtain ⟨vs, hvs, hblock⟩ := weightBlock_of_good (s := arrived s f) hdir htarget hmin hmax hlen (by rw [hr.bfLayers]; exact hlayer)
    (by rw [hr.bfNg hlt]; exact hgroups) (by rw [hr.dlOn hlt, hdl])
  rw [hblock] at hexec
  refine ⟨_, hexec, ?_⟩
  beta_reduce
  dsimp only
  rw [List.length_append, hvs, (arrived_keeps s f).bm]

theorem completes_genericDataMessage_reserved (hf : FrameOk s f 3) (h1 : beAt (frameBody f) 0 1 ≠ 1) (h2 : beAt (frameBody f) 0 1 ≠ 2) :
    Completes (.genericDataMessage f) s fun t =>
      t.bm = s.bm ∧ rd t .lnkPortDrop [f.port] = min 0xFFFFFFFF (rd s .lnkPortDrop [f.port] + 1) := by
  have hexec : exec (.genericDataMessage f) s = .next (dropMsg (arrived s f) f.port 5 none) := by
    show execGenericDataMessage f s = _
    unfold execGenericDataMessage
    dsimp only
    rw [decide_eq_false h1, onFrame_of_free _ hf, if_neg h2, if_neg h1]
  obtain ⟨-, hbm, hdrop⟩ := dropMsg_leaves (s := arrived s f) (cause := 5) (by decide) (by decide) f.port
  refine ⟨_, hexec, by rw [hbm, (arrived_keeps s f).bm], ?_⟩
  rw [hdrop, (arrived_keeps s f).regs _ _ (by decide)]

/-! ## A capture streamed (R408) -/

/-- Of the windows, the link's masters read the SRAM alone (R29). -/
theorem reaches_link {a : Nat} {w : Window} (h : reaches .link a false w = true) : w = .sram := by
  cases w
  case sram => rfl
  all_goals exact absurd h Bool.false_ne_true

theorem length_sramRead (m : Master) (tag : Nat) (ring : Option Nat) (port off n : Nat) : (sramRead s m tag ring port off n).2.1.length = n := by
  unfold sramRead
  dsimp only
  split
  · exact List.length_replicate
  · split
    · exact List.length_replicate
    · split
      · exact List.length_replicate
      · exact length_sramBytes ..

/-- A read that the gate lets a link's master make is one of the SRAM. -/
theorem windowOf_of_gate_link {tag a : Nat} (h : (gate s .link tag a false).1 = 0) : windowOf a = some .sram := by
  unfold gate at h
  rw [if_neg (by exact Bool.false_ne_true)] at h
  split at h
  · exact absurd h (Nat.succ_ne_zero 3)
  · next w hw =>
    split at h
    · exact absurd h (Nat.succ_ne_zero 2)
    · split at h
      · exact absurd h (Nat.succ_ne_zero 3)
      · next hr => rw [hw, reaches_link (a := a) (w := w) (by simpa using hr)]

/-- What a link's master reads is as long as it asked, refused or not. -/
theorem length_fabRead_link (tag a n : Nat) (port : Nat) : (fabRead s .link tag a n none port).2.1.length = n := by
  have hgate := windowOf_of_gate_link (s := s) (tag := tag) (a := a)
  unfold fabRead
  split
  · next s1 hx =>
    rw [hx] at hgate
    rw [hgate rfl]
    dsimp only
    rw [length_sramRead]
  · exact List.length_replicate

theorem buf_setBuf_other {b b' : Nat} (h : b ≠ b') (x : CapBuf) : (s.setBuf b' x).buf b = s.buf b :=
  spGet_spPut_other CapBuf.reset CapBuf.reset s.cvt.buf x h

/-- A buffer that is FULL takes no visit's capture (R153, R154). -/
theorem openCapture_buf_of_full {b : Nat} (hb : (s.buf b).st = .full) (p st b' k src : Nat) : (openCapture s p st b' k src).buf b = s.buf b := by
  unfold openCapture
  split
  · rw [State.buf, (discardCapture_same p b' (Nat.and_self _) (Same.refl _ s)).but.cvt (by decide)]
    rfl
  · next h =>
    have hne : b ≠ b' := fun he => h (.inl (by rw [← he, hb]; decide))
    dsimp only
    rw [State.buf, wf_cvt]
    unfold State.setBuf
    dsimp only
    rw [spGet_spPut_other CapBuf.reset CapBuf.reset _ _ hne, ← State.buf]

theorem openDue_buf_of_full {b : Nat} (hb : (s.buf b).st = .full) (r : Nat) : (openDue s r).buf b = s.buf b := by
  unfold openDue
  split
  · rfl
  · next v _ =>
    dsimp only
    split
    · rfl
    · have hopen := openCapture_buf_of_full (s := s.setOrx r { s.orx r with running := some { v with opened := true } }) (b := b) hb v.path (64 + r)
        v.buffer v.n 0
      generalize openCapture (s.setOrx r { s.orx r with running := some { v with opened := true } }) v.path (64 + r) v.buffer v.n 0 = u at *
      have hu : u.buf b = s.buf b := hopen
      split
      · next h =>
        have hne : b ≠ v.buffer := fun he => by
          obtain ⟨hst, -⟩ := h
          rw [← he, hu, hb] at hst
          exact absurd hst (by decide)
        exact (buf_setBuf_other hne _).trans hu
      · exact hu

theorem openVisits_buf_of_full {b : Nat} (hb : (s.buf b).st = .full) : (openVisits s).buf b = s.buf b :=
  List.foldlRecOn (motive := fun (u : State) => u.buf b = s.buf b) _ openDue rfl
    (fun _ h r _ => (openDue_buf_of_full (h ▸ hb) r).trans h)

theorem releaseBuffer_of_full {b : Nat} (hb : (s.buf b).st = .full) : ((releaseBuffer s b).buf b).st = .free := by
  have hkeep := openVisits_buf_of_full hb
  unfold releaseBuffer
  dsimp only
  generalize openVisits s = u at *
  rw [State.buf, wf_cvt, State.setBuf, spGet_spPut_same, hkeep, if_pos hb]

theorem releaseBuffer_out (b : Nat) : (releaseBuffer s b).out = s.out := (releaseBuffer_same b (Nat.and_self _) (Same.refl _ s)).but.out (by decide)

/-- The bytes of a capture's buffer that its stream carries (R164, R408). -/
def streamedBytes (x : CapBuf) : Nat := if x.notTx then 0 else captureBytes x.src (64 ≤ x.staging) x.n

/-- The messages of a stream: the status record and the buffer, in pieces of 8,192 bytes. -/
def streamSent (u : State) (n b no : Nat) (bytes : List Byte) : State :=
  (List.range (ceilDiv bytes.length 8192)).foldl (fun s i =>
    sendMessage s n 3 (beBytes 4 (3 * 2 ^ 24 + b * 2 ^ 16 + no) ++ beBytes 4 (8192 * i) ++ (bytes.drop (8192 * i)).take 8192)) u

theorem streamSent_out_length (u : State) (n b no : Nat) (bytes : List Byte) :
    (streamSent u n b no bytes).out.length = u.out.length + ceilDiv bytes.length 8192 := by
  have h := SectionsSent.foldl (g := fun s i =>
    sendMessage s n 3 (beBytes 4 (3 * 2 ^ 24 + b * 2 ^ 16 + no) ++ beBytes 4 (8192 * i) ++ (bytes.drop (8192 * i)).take 8192))
    (fun v i => (sendMessage_step (s := v) n 3 _).sent) (List.length_range (n := ceilDiv bytes.length 8192)) u
  rw [Nat.mul_one] at h
  exact h.out

/-- The end of a stream: the buffer waits no longer, and its place among the port's streams moves on. -/
def streamEnded (u : State) (b : Nat) (x : CapBuf) (capNo capLast capAt : Sparse Nat) : State :=
  releaseBuffer { u.setBuf b x with lnk := { (u.setBuf b x).lnk with capNo := capNo, capLast := capLast, capAt := capAt } } b

theorem streamEnded_shows {b : Nat} {x : CapBuf} (hx : x.st = .full) (u : State) (capNo capLast capAt : Sparse Nat) :
    ((streamEnded u b x capNo capLast capAt).buf b).st = .free ∧ (streamEnded u b x capNo capLast capAt).out = u.out := by
  refine ⟨releaseBuffer_of_full ?_, releaseBuffer_out b⟩
  show (spGet CapBuf.reset (spPut CapBuf.reset u.cvt.buf b x) b).st = .full
  rw [spGet_spPut_same, hx]

theorem exec_captureStream_of_turn {b n : Nat} (hlo : 128 ≤ b) (hhi : b < 256) (hfull : (s.buf b).st = .full)
    (hn : n = rf s .capDesc [(s.buf b).path / 8, b] 60 58) (hlt : n < 4) (hobj : s.onum (0x9100 + b) 1 = 1) (hup : s.portUp n = true)
    (hidle : earlierWork s 3 = false) (hturn : streamTurn s n = some b) (hrate : s.onum (0x9040 + n) 1 ≠ 0) :
    ∃ (u : State) (no : Nat) (rec body : List Byte) (x : CapBuf) (capNo capLast capAt : Sparse Nat), u.out = s.out ∧ rec.length = 16 ∧
      body.length = streamedBytes (s.buf b) ∧ x.st = .full ∧
      exec (.captureStream b) s = .next (streamEnded (streamSent u n b no (rec ++ body)) b x capNo capLast capAt) := by
  have hcond : 128 ≤ b ∧ b < 256 ∧ (s.buf b).st = .full ∧ n < 4 ∧ s.onum (0x9100 + b) 1 = 1 ∧ s.portUp n ∧ ¬ earlierWork s 3 ∧
      streamTurn s n = some b ∧ 0 < s.onum (0x9040 + n) 1 :=
    ⟨hlo, hhi, hfull, hlt, hobj, hup, by rw [hidle]; exact Bool.false_ne_true, hturn, Nat.pos_of_ne_zero hrate⟩
  rw [hn, rf] at hcond
  have hexec : exec (.captureStream b) s = execCaptureStream b s := rfl
  unfold execCaptureStream at hexec
  dsimp only at hexec
  rw [if_pos hcond, show bitsOf (rd s .capDesc [(s.buf b).path / 8, b]) 60 58 = n from hn.symm] at hexec
  have hout : (reachElapsed s (spGet 0 s.lnk.capAt n)).out = s.out := reachElapsed_out ..
  have hlen := length_fabRead_link (s := reachElapsed s (spGet 0 s.lnk.capAt n)) n (bitsOf (rd s .capDesc [(s.buf b).path / 8, b]) 39 0)
    (streamedBytes (s.buf b)) 19
  have hkeep : (fabRead (reachElapsed s (spGet 0 s.lnk.capAt n)) .link n (bitsOf (rd s .capDesc [(s.buf b).path / 8, b]) 39 0)
      (streamedBytes (s.buf b)) none 19).2.2.out = (reachElapsed s (spGet 0 s.lnk.capAt n)).out :=
    (fabRead_same _ _ _ _ _ _ (Nat.and_self _) (Same.refl _ _)).but.out (by decide)
  unfold streamedBytes at hlen hkeep
  generalize fabRead (reachElapsed s (spGet 0 s.lnk.capAt n)) .link n (bitsOf (rd s .capDesc [(s.buf b).path / 8, b]) 39 0)
    (if (s.buf b).notTx = true then 0 else captureBytes (s.buf b).src (decide (64 ≤ (s.buf b).staging)) (s.buf b).n) none 19 = w at *
  generalize reachElapsed s (spGet 0 s.lnk.capAt n) = r at *
  exact ⟨w.2.2, spGet 0 r.lnk.capNo b, beBytes 16 (rd r .capStat [(s.buf b).path / 8, b]), w.2.1,
    { s.buf b with waited := r.clk.elapsed - (s.buf b).fullAt }, _, _, _, hkeep.trans hout, length_beBytes .., hlen, hfull, hexec⟩

theorem completes_captureStream {b : Nat} (hlo : 128 ≤ b) (hhi : b < 256) (hfull : (s.buf b).st = .full)
    (hlt : rf s .capDesc [(s.buf b).path / 8, b] 60 58 < 4) (hobj : s.onum (0x9100 + b) 1 = 1)
    (hup : s.portUp (rf s .capDesc [(s.buf b).path / 8, b] 60 58) = true) (hidle : earlierWork s 3 = false)
    (hturn : streamTurn s (rf s .capDesc [(s.buf b).path / 8, b] 60 58) = some b)
    (hrate : s.onum (0x9040 + rf s .capDesc [(s.buf b).path / 8, b] 60 58) 1 ≠ 0) :
    Completes (.captureStream b) s fun t =>
      (t.buf b).st = .free ∧ t.out.length = s.out.length + ceilDiv (16 + if (s.buf b).notTx then 0 else
        captureBytes (s.buf b).src (decide (64 ≤ (s.buf b).staging)) (s.buf b).n) 8192 := by
  obtain ⟨u, no, rec, body, x, capNo, capLast, capAt, hout, hrec, hbody, hx, hexec⟩ :=
    exec_captureStream_of_turn hlo hhi hfull rfl hlt hobj hup hidle hturn hrate
  obtain ⟨hfree, hend⟩ := streamEnded_shows (b := b) hx (streamSent u (rf s .capDesc [(s.buf b).path / 8, b] 60 58) b no (rec ++ body)) capNo capLast capAt
  refine ⟨_, hexec, hfree, ?_⟩
  rw [hend, streamSent_out_length, hout, List.length_append, hrec, hbody]
  rfl

/-- Settles O38: a message that keeps every check joins the buffer it is for, one that fails a check is counted as dropped, and what is buffered to
send goes out section by section or piece by piece. -/
theorem linkDataCommandsComplete : Obligations.LinkDataCommandsComplete := by
  unfold Obligations.LinkDataCommandsComplete
  exact ⟨fun _ _ _ _ _ hf hb hh hten hown hmin hok hlen hair hopen hclose hdl =>
      completes_iqDataMessage hf hb hh hten hown hmin hok hlen hair hopen hclose hdl,
    fun _ _ hf hten => completes_iqDataMessage_foreign hf hten,
    fun _ _ _ hport hup hc h0 h16 => completes_iqDataMessage_refused hport hup hc h0 h16,
    fun _ _ _ _ _ _ hcc hdl hair hsym hseen hpat hdir hn hnone => completes_dlWindowClose hcc hdl hair hsym hseen hpat hdir hn hnone,
    fun _ _ hcc hkind hup => completes_ulSectionSend_up hcc hkind hup,
    fun _ _ hcc hkind hdown => completes_ulSectionSend_down hcc hkind hdown,
    fun _ _ hj hkind => completes_ulSectionSend_prach hj hkind,
    fun _ _ _ _ _ _ hf hp hb hlen hrtc hh hport hown hpc hseq hten hkind hcc hcount hmax hfit hlayer hsym hair hsoon hul hlead =>
      completes_realTimeControlMessage hf hp hb hlen hrtc hh hport hown hpc hseq hten hkind hcc hcount hmax hfit hlayer hsym hair hsoon hul hlead,
    fun _ _ hf hpoor => completes_realTimeControlMessage_unpaid hf hpoor,
    fun _ _ _ _ hf hservice hb hcc hown hdir htarget hmin hmax hlen hlayer hgroups hdl =>
      completes_genericDataMessage_block hf hservice hb hcc hown hdir htarget hmin hmax hlen hlayer hgroups hdl,
    fun _ _ hf h1 h2 => completes_genericDataMessage_reserved hf h1 h2,
    fun _ _ hlo hhi hfull hlt hobj hup hidle hturn hrate => completes_captureStream hlo hhi hfull hlt hobj hup hidle hturn hrate⟩

end Sys2Proof.Machine
end

section
/-!
The housekeeping round, throttling, fans and the core voltage (R536, R560 to R567, R627): the settlement of O52.
-/

namespace Sys2Proof.Machine

set_option Elab.async false

variable {s t u : State} {n : Nat}

/-! ## Fans (R565 to R567) -/

theorem fanUpdate_rf (s : State) (n : Nat) (hi lo : Nat) (hlo : 20 < lo) (hle : lo ≤ hi) (hw : hi < 32) :
    rf (fanUpdate s n) .thmPwmDuty [n] hi lo = rf s .thmPwmDuty [n] hi lo := by
  unfold fanUpdate
  dsimp only
  refine (rf_wf_apart _ _ _ _ _ _ _ _ (Nat.le_refl _) hw (.inr hlo) hle).trans ((rf_wf_apart _ _ _ _ _ _ _ _ (by decide) hw (.inr (by omega)) hle).trans ?_)
  split
  · exact congrArg (bitsOf · hi lo) (rd_eq_of_regs rfl rfl ..)
  · rfl

theorem completes_fanWatchdogExpiry (hn : n < 4) (hrole : rf s .thmPwmCfg [n] 1 0 = 1 ∨ rf s .thmPwmCfg [n] 1 0 = 2)
    (hsafe : rbit s .thmPwmDuty [n] 21 = false) : Completes (.fanWatchdogExpiry n) s fun t =>
      rbit t .thmPwmDuty [n] 21 = true ∧ Fires t 205 ∧
      t.clk.elapsed = max s.clk.elapsed ((s.fan n).wrote + max 1 (rf s .thmCtrl [] 31 24) * secTicks) := by
  have htime := reachElapsed_elapsed (s := s) ((s.fan n).wrote + max 1 (rf s .thmCtrl [] 31 24) * secTicks)
  have hrd := rd_reachElapsed (s := s) ((s.fan n).wrote + max 1 (rf s .thmCtrl [] 31 24) * secTicks)
  have hfan : (reachElapsed s ((s.fan n).wrote + max 1 (rf s .thmCtrl [] 31 24) * secTicks)).fan n = s.fan n :=
    congrArg (fun h : Hk => spGet Fan.reset h.fan n)
      ((reachElapsed_same ((s.fan n).wrote + max 1 (rf s .thmCtrl [] 31 24) * secTicks) (Nat.and_self _) (Same.refl _ s)).but.hk (by decide))
  have hexec : exec (.fanWatchdogExpiry n) s =
      .next (fanWatchdog (reachElapsed s ((s.fan n).wrote + max 1 (rf s .thmCtrl [] 31 24) * secTicks)) n) := if_pos ⟨hn, hrole⟩
  generalize hlim : (s.fan n).wrote + max 1 (rf s .thmCtrl [] 31 24) * secTicks = lim at *
  generalize reachElapsed s lim = u at *
  have hcfg : rf u .thmPwmCfg [n] 1 0 = rf s .thmPwmCfg [n] 1 0 := congrArg (bitsOf · 1 0) (hrd ..)
  have hctrl : rf u .thmCtrl [] 31 24 = rf s .thmCtrl [] 31 24 := congrArg (bitsOf · 31 24) (hrd ..)
  have hduty : rbit u .thmPwmDuty [n] 21 = false := (congrArg (bitOf · 21) (hrd ..)).trans hsafe
  have hdue : (u.fan n).wrote + max 1 (rf u .thmCtrl [] 31 24) * secTicks ≤ u.clk.elapsed := by
    rw [hfan, hctrl, hlim, htime]
    exact Nat.le_max_right ..
  have hdog : fanWatchdog u n = fanUpdate (raise (wbit u .thmPwmDuty [n] 21 true) 205 n NA) n :=
    if_pos ⟨by rw [hcfg]; exact hrole, by rw [hduty]; exact Bool.false_ne_true, hdue⟩
  have hclk : (fanWatchdog u n).clk = u.clk := (fanWatchdog_same n (Nat.and_self _) (Same.refl _ u)).but.clk (by decide)
  rw [hdog] at hexec hclk
  have hbit : rbit (wbit u .thmPwmDuty [n] 21 true) .thmPwmDuty [n] 21 = true := rbit_wbit _ _ _ _ _ (by decide)
  generalize wbit u .thmPwmDuty [n] 21 true = v at *
  have hbit' : rbit (raise v 205 n NA) .thmPwmDuty [n] 21 = true := (congrArg (bitOf · 21) (rd_raise (by decide) ..)).trans hbit
  have hfires : Fires (raise v 205 n NA) 205 := fires_raise ..
  generalize raise v 205 n NA = w at *
  exact ⟨_, hexec, (rbit_eq_of_rf (fanUpdate_rf w n 21 21 (by decide) (by decide) (by decide))).trans hbit',
    hfires.of_evt ((fanUpdate_same n (Nat.and_self _) (Same.refl _ w)).but.evt (by decide)), by rw [hclk, htime]⟩

theorem completes_thmFanStall (hn : n < 4) (hrole : rf s .thmPwmCfg [n] 1 0 = 1) (hduty : 1 ≤ rf s .thmPwmDuty [n] 19 10)
    (hsound : rbit s .thmTach [n] 24 = false) : Completes (.thmFanStall n) s fun t =>
      rbit t .thmTach [n] 24 = true ∧ Fires t 204 ∧ t.clk.elapsed = max s.clk.elapsed (stallAt s n) := by
  have htime := reachElapsed_elapsed (s := s) (stallAt s n)
  have hrd := rd_reachElapsed (s := s) (stallAt s n)
  have hstall : stallAt (reachElapsed s (stallAt s n)) n = stallAt s n := by
    unfold stallAt State.fan
    rw [(reachElapsed_same _ (Nat.and_self _) (Same.refl _ s)).but.hk (by decide)]
  have hexec : exec (.thmFanStall n) s = .next (fanStall (reachElapsed s (stallAt s n)) n) :=
    if_pos ⟨hn, hrole, hduty, by rw [hsound]; exact Bool.false_ne_true⟩
  generalize reachElapsed s (stallAt s n) = u at *
  have hshow : fanStall u n = raise (setFlag u .thmTach [n] 24) 204 n NA := if_pos ⟨(congrArg (bitsOf · 1 0) (hrd ..)).trans hrole,
    by rw [show rf u .thmPwmDuty [n] 19 10 = rf s .thmPwmDuty [n] 19 10 from congrArg (bitsOf · 19 10) (hrd ..)]; exact hduty,
    by rw [show rbit u .thmTach [n] 24 = rbit s .thmTach [n] 24 from congrArg (bitOf · 24) (hrd ..), hsound]; exact Bool.false_ne_true,
    by rw [hstall, htime]; exact Nat.le_max_right ..⟩
  have hclk : (fanStall u n).clk = u.clk := (fanStall_same n (Nat.and_self _) (Same.refl _ u)).but.clk (by decide)
  rw [hshow] at hexec hclk
  have hbit : rbit (setFlag u .thmTach [n] 24) .thmTach [n] 24 = true :=
    (congrArg (bitOf · 24) (rd_setFlag_same ..)).trans (rbit_wbit _ _ _ _ _ (by decide))
  generalize setFlag u .thmTach [n] 24 = v at *
  exact ⟨_, hexec, (congrArg (bitOf · 24) (rd_raise (by decide) ..)).trans hbit, fires_raise .., by rw [hclk, htime]⟩

theorem completes_tachEdge (hn : n < 4) (hup : (s.island 33).off = false) (hedge : (s.fan n).edge ≠ 0)
    (hfit : (s.clk.elapsed + 1 - (s.fan n).edge) / 10 < 2 ^ 24) : Completes (.tachEdge n) s fun t =>
      rf t .thmTach [n] 23 0 = (s.clk.elapsed + 1 - (s.fan n).edge) / 10 ∧ (t.fan n).edge = s.clk.elapsed + 1 := by
  have hexec : exec (.tachEdge n) s = .next (wf (s.setFan n { s.fan n with edge := s.clk.elapsed + 1 }) .thmTach [n] 23 0
      ((s.clk.elapsed + 1 - (s.fan n).edge) / 10)) :=
    (if_pos ⟨hn, by rw [hup]; exact Bool.false_ne_true⟩).trans ((if_neg hedge).trans (if_pos hfit))
  have hfan : (s.setFan n { s.fan n with edge := s.clk.elapsed + 1 }).fan n = { s.fan n with edge := s.clk.elapsed + 1 } := spGet_spPut_same ..
  generalize s.setFan n { s.fan n with edge := s.clk.elapsed + 1 } = u at *
  refine ⟨_, hexec, (rf_wf _ _ _ _ _ _ (by decide) (by decide)).trans (Nat.mod_eq_of_lt hfit), ?_⟩
  rw [State.fan, wf_hk, ← State.fan, hfan]

/-! ## The core voltage (R627) -/

theorem completes_vtargetUpdate {mv : Nat} (hmin : 650 ≤ mv) (hmax : mv ≤ 850) (hup : mv ≤ rf s .pwrAvs [] 9 0 + 10)
    (hdown : rf s .pwrAvs [] 9 0 ≤ mv + 10) (hne : mv ≠ rf s .pwrAvs [] 9 0) : Completes (.vtargetUpdate mv) s fun t =>
      rf t .pwrAvs [] 9 0 = mv ∧ (s.hk.avsAt ≠ 0 → s.hk.avsAt - 1 + 100 * msTicks ≤ t.clk.elapsed) := by
  obtain ⟨u, hu⟩ : ∃ u, u = if s.hk.avsAt = 0 then s else reachElapsed s (s.hk.avsAt - 1 + 100 * msTicks) := ⟨_, rfl⟩
  have hexec : exec (.vtargetUpdate mv) s = .next (wf { u with hk := { u.hk with avsAt := u.clk.elapsed + 1 } } .pwrAvs [] 9 0 mv) := by
    rw [hu]
    exact if_pos ⟨hmin, hmax, hup, hdown, hne⟩
  refine ⟨_, hexec, (rf_wf _ _ _ _ _ _ (by decide) (by decide)).trans (Nat.mod_eq_of_lt (by omega)), fun h => ?_⟩
  rw [wf_clk, hu, if_neg h]
  show _ ≤ (reachElapsed s _).clk.elapsed
  rw [reachElapsed_elapsed]
  exact Nat.le_max_right ..

/-! ## Carriers dropped (R563) -/

/-- The carrier to drop is one of the configured. -/
theorem dropCandidate_mem {c : Nat} (h : dropCandidate s = some c) : c ∈ s.cfgCarriers := by
  unfold dropCandidate at h
  have hall : ∀ d, (s.cfgCarriers.foldl (fun (b : Option Nat) c => match b with
      | none => some c
      | some d => if s.onum 0x2020 (d + 1) ≤ s.onum 0x2020 (c + 1) then some c else some d) none) = some d → d ∈ s.cfgCarriers := by
    refine List.foldlRecOn (motive := fun (b : Option Nat) => ∀ d, b = some d → d ∈ s.cfgCarriers) _ _ (fun d hd => nomatch hd) fun b hb c hc d hd => ?_
    split at hd
    · cases hd
      exact hc
    · split at hd
      · cases hd
        exact hc
      · cases hd
        exact hb _ rfl
  exact hall c h

theorem lt_of_mem_cfgCarriers {c : Nat} (h : c ∈ s.cfgCarriers) : c < 8 := List.mem_range.1 (List.mem_of_mem_filter h)

/-- A stored object reads what was set, whatever the registers hold. -/
theorem onum_of_stored {i sb k : Nat} (hb : objBlock i sb = none) (hh : objHome i sb = none) (h3 : sb ≠ 3)
    (ho : spGet (objDefault s.tenants i sb) s.objs (okey i sb) = .num k) : s.onum i sb = k := by
  unfold State.onum State.obj
  rw [hb, hh, ho]
  dsimp only
  rw [if_neg (fun h => h3 h.2.2.1)]
  rfl

theorem setObj_objs {i sb : Nat} (hb : objBlock i sb = none) (hh : objHome i sb = none) (v : ObjVal) :
    (s.setObj i sb v).objs = spPut (objDefault s.tenants i sb) s.objs (okey i sb) v ∧ (s.setObj i sb v).straps = s.straps ∧
      (s.setObj i sb v).adm = s.adm ∧ (s.setObj i sb v).clk = s.clk := by
  unfold State.setObj
  rw [hb, hh]
  exact ⟨rfl, rfl, rfl, rfl⟩

theorem completes_thermalCarrierDrop {c : Nat} (hlevel : rf s .thmStat [] 17 16 = 3) (hdrop : rf s .thmCtrl [] 17 16 = 1)
    (hc : dropCandidate s = some c) (hat : s.hk.dropAt = 0) : Completes .thermalCarrierDrop s fun t =>
      t.onum (0x2010 + c) 1 = 0 ∧ t.adm.epoch = (s.adm.epoch + 1) % 2 ^ 64 ∧ isFrame s.frameOfs t.clk.count = true ∧ Fires t 202 := by
  have hlt : c < 8 := lt_of_mem_cfgCarriers (dropCandidate_mem hc)
  have hhome : objHome (0x2010 + c) 1 = none := by interval_cases c <;> decide
  have hblock := (objBlock_carrier hlt 1).1
  have hframe := isFrame_toFrame (s := s) 0x53 0
  have hreach := (toFrame_same 0x53 0 (Nat.and_self _) (Same.refl _ s)).but
  have hadm : (toFrame s 0x53 0).adm = s.adm := hreach.adm (by decide)
  have hexec : exec .thermalCarrierDrop s = execThermalCarrierDrop s := rfl
  unfold execThermalCarrierDrop at hexec
  rw [if_pos ⟨hlevel, hdrop⟩, hc] at hexec
  dsimp only at hexec
  rw [if_pos hat] at hexec
  generalize toFrame s 0x53 0 = u at *
  obtain ⟨hobjs, hstraps, hsadm, hsclk⟩ := setObj_objs (s := u) hblock hhome (.num 0)
  have hdis : disableCarrier u c = deriveChannel (u.setObj (0x2010 + c) 1 (.num 0)) c := rfl
  have hder := (deriveChannel_same c (Nat.and_self _) (Same.refl _ (u.setObj (0x2010 + c) 1 (.num 0)))).butAny
  have hval : spGet (objDefault (disableCarrier u c).tenants (0x2010 + c) 1) (disableCarrier u c).objs (okey (0x2010 + c) 1) = .num 0 := by
    rw [hdis, hder.objs (by decide), hobjs, State.tenants, hder.straps (by decide), hstraps]
    exact spGet_spPut_same ..
  have hvadm : (disableCarrier u c).adm = s.adm := by rw [hdis, hder.adm (by decide), hsadm, hadm]
  have hvclk : (disableCarrier u c).clk = u.clk := by rw [hdis, hder.clk (by decide), hsclk]
  generalize disableCarrier u c = v at *
  have htake := (takeEffect_same (s := u) (v := v) [] (Nat.and_self _) (Same.refl _ v)).but
  have htobjs : (takeEffect u v []).objs = v.objs := htake.objs (by decide)
  have htstraps : (takeEffect u v []).straps = v.straps := htake.straps (by decide)
  have htadm := takeEffect_adm (s := u) (v := v) []
  have htclk := takeEffect_clk (s := u) (v := v) []
  unfold removalDone at hexec
  dsimp only at hexec
  generalize takeEffect u v [] = w at *
  obtain ⟨x, hx⟩ : ∃ x : State, { w with adm := { w.adm with epoch := (w.adm.epoch + 1) % 2 ^ 64 }, hk := { w.hk with dropAt := w.clk.elapsed + 1 } } = x :=
    ⟨_, rfl⟩
  have hexec' : exec .thermalCarrierDrop s = .next (raise x 202 c NA) := hexec.trans (by rw [← hx])
  have hxobjs : x.objs = v.objs := by rw [← hx]; exact htobjs
  have hxstraps : x.straps = v.straps := by rw [← hx]; exact htstraps
  have hxadm : x.adm.epoch = (s.adm.epoch + 1) % 2 ^ 64 := by rw [← hx]; show (w.adm.epoch + 1) % 2 ^ 64 = _; rw [htadm, hvadm]
  have hxclk : x.clk = u.clk := by rw [← hx]; exact htclk.trans hvclk
  refine ⟨_, hexec', onum_of_stored hblock hhome (by decide) ?_, ?_, ?_, fires_raise ..⟩
  · rw [raise_objs, State.tenants, raise_straps, hxobjs, hxstraps, ← State.tenants, hval]
  · rw [raise_adm, hxadm]
  · rw [raise_clk, hxclk]
    exact hframe

/-! ## What a round's later stages keep -/

/-- The round's number and time. -/
def hkClock (s : State) : Nat × Nat := (s.hk.rounds, s.hk.roundAt)

theorem hkClock_of_hk (h : t.hk = s.hk) : hkClock t = hkClock s := by rw [hkClock, hkClock, h]

/-- The registers that show the sensors, apart from a family. -/
abbrev NoSensor (id : RegId) : Prop := ∀ r ∈ [RegId.thmSens, .thmBroken0, .thmStat],
  (regRow id).addr + regSpan id < (regRow r).addr ∨ (regRow r).addr + regSpan r < (regRow id).addr

/-- What stands once the sensors are read: the round, the readings, and the die's temperature. -/
structure RoundKeeps (s t : State) : Prop where
  clock : hkClock t = hkClock s
  sens : ∀ x, rf t .thmSens [x] 15 0 = rf s .thmSens [x] 15 0
  broken : rd t .thmBroken0 [] = rd s .thmBroken0 []
  temp : rf t .thmStat [] 15 0 = rf s .thmStat [] 15 0

theorem RoundKeeps.refl (s : State) : RoundKeeps s s := ⟨rfl, fun _ => rfl, rfl, rfl⟩

theorem RoundKeeps.trans (h : RoundKeeps s t) (h' : RoundKeeps t u) : RoundKeeps s u :=
  ⟨h'.clock.trans h.clock, fun x => (h'.sens x).trans (h.sens x), h'.broken.trans h.broken, h'.temp.trans h.temp⟩

/-- By its frame, a step whose registers are not those of the sensors. -/
theorem RoundKeeps.of_but {ps : List Part} {ids : List RegId} (h : SameBut ps ids s t) (hr : .regs ∉ ps) (hs : .straps ∉ ps)
    (hids : ∀ id ∈ ids, NoSensor id) (hclock : hkClock t = hkClock s) : RoundKeeps s t :=
  ⟨hclock, fun x => congrArg (bitsOf · 15 0) (h.rd_eq_apart hr hs fun id hid => hids id hid .thmSens (by decide)),
    h.rd_eq_apart hr hs fun id hid => hids id hid .thmBroken0 (by decide),
    congrArg (bitsOf · 15 0) (h.rd_eq_apart hr hs fun id hid => hids id hid .thmStat (by decide))⟩

/-- A write of the die's status above its temperature. -/
theorem RoundKeeps.of_status {hi lo v : Nat} (hlo : 15 < lo) (hle : lo ≤ hi) : RoundKeeps s (wf s .thmStat [] hi lo v) :=
  ⟨rfl, fun x => congrArg (bitsOf · 15 0) (rd_wf_other _ _ _ _ _ _ _ _ (regAddr_ne _ _ (by decide))), rd_wf_other _ _ _ _ _ _ _ _ (regAddr_ne _ _ (by decide)),
    rf_wf_apart _ _ _ _ _ _ _ _ hle (by decide) (.inl hlo) (by decide)⟩

theorem RoundKeeps.of_hk (hr : t.regs = s.regs) (hs : t.straps = s.straps) (hclock : hkClock t = hkClock s) : RoundKeeps s t :=
  ⟨hclock, fun _ => congrArg (bitsOf · 15 0) (rd_eq_of_regs hr hs ..), rd_eq_of_regs hr hs .., congrArg (bitsOf · 15 0) (rd_eq_of_regs hr hs ..)⟩

theorem RoundKeeps.raise (h : RoundKeeps s t) (src inst aux : Nat) : RoundKeeps s (raise t src inst aux) :=
  h.trans (.of_but (raise_same src inst aux (Nat.and_self _) (Same.refl _ t)).but (by decide) (by decide) (by decide)
    (hkClock_of_hk (raise_hk ..)))

/-! ### The entry of a power state -/

theorem hkClock_of_parts (hr : t.hk.rounds = s.hk.rounds) (ha : t.hk.roundAt = s.hk.roundAt) : hkClock t = hkClock s := by
  rw [hkClock, hkClock, hr, ha]

theorem hkClock_stepStart (k target : Nat) : hkClock (stepStart s k target) = hkClock s := by
  unfold stepStart
  dsimp only
  split
  · split
    · rw [hkClock_of_hk ((releaseHalts_same (Nat.and_self _) (Same.refl _ _)).but.hk (by decide))]
      exact hkClock_of_parts rfl rfl
    · exact hkClock_of_parts rfl rfl
  · exact hkClock_of_parts rfl rfl

theorem hoFails_hk (result : Nat) : (hoFails s result).hk = s.hk := (hoFails_same result (Nat.and_self _) (Same.refl _ s)).but.hk (by decide)

theorem reqStatus_hk (v : Nat) : (reqStatus s v).hk = s.hk := wf_hk ..

theorem setQueue_hk (q : Option PwrReq) : (setQueue s q).hk = s.hk := (setQueue_same q (Nat.and_self _) (Same.refl _ s)).but.hk (by decide)

theorem beginReq_eq (r : PwrReq) : ∃ u, beginReq s r = stepStart u (firstStep s.pwrLevel) r.target ∧ u.hk = s.hk := by
  unfold beginReq
  refine ⟨_, rfl, ?_⟩
  have hho : (if s.ho = 1 ∨ s.ho = 2 then hoFails s 7 else s).hk = s.hk := by
    split
    · exact hoFails_hk ..
    · rfl
  generalize (if s.ho = 1 ∨ s.ho = 2 then hoFails s 7 else s) = v at *
  split
  · rw [wbit_hk, hho]
  · rw [wf_hk, reqStatus_hk, wbit_hk, hho]

theorem hkClock_beginReq (r : PwrReq) : hkClock (beginReq s r) = hkClock s := by
  obtain ⟨u, hu, hhk⟩ := beginReq_eq (s := s) r
  rw [hu, hkClock_stepStart, hkClock_of_hk hhk]

theorem exitTo_hk (target : Nat) : (exitTo s target).hk = s.hk := (exitTo_same target (Nat.and_self _) (Same.refl _ s)).but.hk (by decide)

theorem hkClock_startReq (r : PwrReq) : hkClock (startReq s r) = hkClock s := by
  have hrefuse (k : Nat) : (refuseReq s k r.target).hk = s.hk := (refuseReq_same k r.target (Nat.and_self _) (Same.refl _ s)).but.hk (by decide)
  unfold startReq
  dsimp only
  split
  · exact hkClock_of_hk (hrefuse _)
  split
  · exact hkClock_of_hk (hrefuse _)
  split
  · exact hkClock_of_hk (by rw [wf_hk, reqStatus_hk])
  split
  · split
    · exact hkClock_of_hk (by rw [raise_hk, recordWake, wr_hk, wf_hk, reqStatus_hk])
    · exact hkClock_beginReq r
  split
  · exact hkClock_of_hk (by rw [setQueue_hk, reqStatus_hk])
  · exact hkClock_of_hk (by rw [exitTo_hk, (countWake_same 8 (Nat.and_self _) (Same.refl _ _)).but.hk (by decide), recordWake, wr_hk, wf_hk, reqStatus_hk])

theorem hkClock_startQueued : hkClock (startQueued s) = hkClock s := by
  unfold startQueued
  split
  · split
    · rfl
    · rw [hkClock_startReq, hkClock_of_hk (setQueue_hk none)]
  · rfl

theorem hkClock_settle (new : Nat) : hkClock (settle s new) = hkClock s := by
  unfold settle
  dsimp only
  have hset : (wbit (wf (setLevel s new) .pwrStat [] 2 0 new) .pwrStat [] 3 false).hk = s.hk := by rw [wbit_hk, wf_hk, setLevel, wf_hk]
  generalize wbit (wf (setLevel s new) .pwrStat [] 2 0 new) .pwrStat [] 3 false = u at *
  obtain ⟨v, hv, hvhk⟩ : ∃ v, v = (if new = s.pwrState then
      ({ u with pwr := { u.pwr with req := none, up := none, step := 0, exit := none, lockSince := none, switch := none } } : State)
      else raise { u with pwr := { u.pwr with req := none, up := none, step := 0, exit := none, lockSince := none, switch := none } } 216 new s.pwrState) ∧
        v.hk = s.hk := by
    refine ⟨_, rfl, ?_⟩
    split
    · exact hset
    · exact (raise_hk ..).trans hset
  rw [← hv]
  split
  · split
    · rw [hkClock_of_hk (exitTo_hk _), recordWake, hkClock_of_hk (wr_hk ..)]
      exact hkClock_of_hk hvhk
    · rw [hkClock_startQueued]
      exact hkClock_of_hk hvhk
  · rw [hkClock_startQueued, hkClock_of_hk hvhk]

theorem hkClock_leaveEntry (target : Nat) : hkClock (leaveEntry s target) = hkClock s := by
  unfold leaveEntry
  split
  · dsimp only
    rw [hkClock_settle]
    refine hkClock_of_hk ?_
    show (if rf s .pwrReqStat [] 3 0 = 2 then reqStatus s 3 else s).hk = s.hk
    split
    · exact reqStatus_hk ..
    · rfl
  · exact hkClock_of_hk (exitTo_hk ..)

/-- An entry that a shutdown has begun ends or goes on after a step: it has no abort point (R564). -/
theorem hkClock_entryDone {r : PwrReq} (hhot : r.hot = true) (k : Nat) : hkClock (entryDone k s r) = hkClock s := by
  have hnone : abortPoint s r = none := by rw [abortPoint, if_pos hhot]
  unfold entryDone
  by_cases hk : k = s.pwr.last
  · rw [if_pos hk]
    dsimp only
    rw [hkClock_settle, hhot]
    exact hkClock_of_parts rfl rfl
  · rw [if_neg hk, hnone]
    exact hkClock_stepStart ..

end Sys2Proof.Machine
end

section
/-!
What a thermal shutdown leaves of a round's readings (R564), for O52.
-/

namespace Sys2Proof.Machine

set_option Elab.async false

variable {s t u : State} {n : Nat}

/-! ## Foreground runs that end -/

theorem objHome_of_large {i : Nat} (h : 0xE018 ≤ i) (sb : Nat) : objHome i sb = none := by
  unfold objHome
  rw [if_neg (by omega)]
  split
  case h_55 =>
    repeat rw [if_neg (by omega)]
  all_goals omega

/-- The registers in which a run's result could be written, of whatever path: none shows the sensors' state but a sensor's own. -/
def fgHomeOk : Option (RegId × List Nat × Nat × Nat) → Bool
  | none => true
  | some (id, _) => decide (id = .dmaRingCfg) || decide (id = .bdacChCfg) || decide (id = .thmAmpCfg) || decide (id = .thmSens)

theorem fgHomeOk_objHome (p : Nat) : fgHomeOk (objHome (0x8000 + p * 0x40 + 0x0F) 1) = true := by
  have hsmall : ∀ p < 512, fgHomeOk (objHome (0x8000 + p * 0x40 + 0x0F) 1) = true := by decide +kernel
  rcases Nat.lt_or_ge p 512 with h | h
  · exact hsmall p h
  · rw [objHome_of_large (i := 0x8000 + p * 0x40 + 0x0F) (by omega)]
    rfl

/-- A family apart from the sensors, all of whose registers may be written. -/
theorem RoundKeeps.of_wr {id : RegId} (hid : NoSensor id) (ix : List Nat) (v : Nat) : RoundKeeps s (wr s id ix v) :=
  ⟨rfl, fun _ => congrArg (bitsOf · 15 0) (rd_wr_other _ _ _ _ _ _ (regAddr_ne _ _ (hid .thmSens (by decide)).symm)),
    rd_wr_other _ _ _ _ _ _ (regAddr_ne _ _ (hid .thmBroken0 (by decide)).symm),
    congrArg (bitsOf · 15 0) (rd_wr_other _ _ _ _ _ _ (regAddr_ne _ _ (hid .thmStat (by decide)).symm))⟩

/-- A sensor's register written with what it holds shows the same reading. -/
theorem RoundKeeps.of_sensRewrite (ix : List Nat) : RoundKeeps s (wr s .thmSens ix (rd s .thmSens ix)) := by
  refine ⟨rfl, fun x => ?_, rd_wr_other _ _ _ _ _ _ (regAddr_ne _ _ (by decide)),
    congrArg (bitsOf · 15 0) (rd_wr_other _ _ _ _ _ _ (regAddr_ne _ _ (by decide)))⟩
  by_cases ha : regAddr .thmSens [x] = regAddr .thmSens ix
  · have heq (v : State) : rd v .thmSens [x] = rd v .thmSens ix := by
      unfold rd
      rw [ha]
      rfl
    rw [rf, rf, heq, heq, rd_wr_same]
    exact bitsOf_mod_two_pow _ (by decide) (by decide)
  · exact congrArg (bitsOf · 15 0) (rd_wr_other _ _ _ _ _ _ ha)

theorem RoundKeeps.of_fgStatus (p code : Nat) : RoundKeeps s (fgStatus s p code) := by
  have hhome := fgHomeOk_objHome p
  unfold fgStatus State.setPobj State.setObj
  rw [show objBlock (0x8000 + p * 0x40 + 0x0F) 1 = none from if_neg (by omega)]
  dsimp only
  generalize objHome (0x8000 + p * 0x40 + 0x0F) 1 = home at *
  have hgen (v : State) (h : v = { s with objGen := spMod 0 s.objGen (okey (0x8000 + p * 0x40 + 0x0F) 1) (fun g => (g + 1) % 2 ^ 32) }) :
      RoundKeeps s v ∧ ∀ ix, rd v .thmSens ix = rd s .thmSens ix := by
    rw [h]
    exact ⟨.of_hk rfl rfl rfl, fun _ => rfl⟩
  rcases home with _ | ⟨id, ix, hi, lo⟩
  · exact .of_hk rfl rfl rfl
  · rw [fgHomeOk, Bool.or_eq_true, Bool.or_eq_true, Bool.or_eq_true, decide_eq_true_iff, decide_eq_true_iff, decide_eq_true_iff, decide_eq_true_iff] at hhome
    obtain ⟨hv, hrd⟩ := hgen _ rfl
    refine hv.trans ?_
    generalize ({ s with objGen := _ } : State) = v at *
    dsimp only
    rcases hhome with ((rfl | rfl) | rfl) | rfl
    · exact .of_wr (by decide) ..
    · exact .of_wr (by decide) ..
    · exact .of_wr (by decide) ..
    · change RoundKeeps v (wr v .thmSens ix (rd s .thmSens ix))
      rw [← hrd]
      exact .of_sensRewrite ix

theorem RoundKeeps.of_fgEnd (p code : Nat) : RoundKeeps s (fgEnd s p code) :=
  ((RoundKeeps.of_hk rfl rfl rfl : RoundKeeps s { s with cal := { s.cal with fg := s.cal.fg.filter (fun r => r.path ≠ p) } }).trans
    (.of_fgStatus p code)).raise ..

theorem RoundKeeps.foldl {α : Type} {f : State → α → State} (l : List α) (hf : ∀ v x, RoundKeeps v (f v x)) (s : State) :
    RoundKeeps s (l.foldl f s) :=
  List.foldlRecOn (motive := fun v => RoundKeeps s v) l f (.refl s) fun v hv x _ => hv.trans (hf v x)

theorem RoundKeeps.of_fgAbort : RoundKeeps s (fgAbort s) := .foldl _ (fun _ _ => .of_fgEnd ..) s

/-! ## The steps of an entry -/

theorem RoundKeeps.of_stepStart (k target : Nat) : RoundKeeps s (stepStart s k target) :=
  .of_but (stepStart_same k target (Nat.and_self _) (Same.refl _ s)).but (by decide) (by decide) (by decide) (hkClock_stepStart ..)

theorem RoundKeeps.of_entryDone {r : PwrReq} (hhot : r.hot = true) (k : Nat) : RoundKeeps s (entryDone k s r) :=
  .of_but (entryDone_same k r (Nat.and_self _) (Same.refl _ s)).but (by decide) (by decide) (by decide) (hkClock_entryDone hhot k)

theorem RoundKeeps.of_stepPathsOff (target : Nat) : RoundKeeps s (stepPathsOff s target) := by
  have hoff : RoundKeeps s (allPathsOff { s with pwr := { s.pwr with depth := 1 } }) := by
    have hdepth : RoundKeeps s { s with pwr := { s.pwr with depth := 1 } } := .of_hk rfl rfl rfl
    generalize ({ s with pwr := { s.pwr with depth := 1 } } : State) = v at *
    have h := (allPathsOff_same (Nat.and_self _) (Same.refl _ v)).but
    exact hdepth.trans (.of_but h (by decide) (by decide) (by decide) (hkClock_of_hk (h.hk (by decide))))
  exact (hoff.trans .of_fgAbort).trans (.of_stepStart ..)

theorem RoundKeeps.of_beginReq (r : PwrReq) : RoundKeeps s (beginReq s r) :=
  .of_but (beginReq_same r (Nat.and_self _) (Same.refl _ s)).but (by decide) (by decide) (by decide) (hkClock_beginReq r)

theorem pwr_stepStart (k target : Nat) : (stepStart s k target).pwr.step = k := by
  unfold stepStart
  dsimp only
  split
  · split
    · rw [(releaseHalts_same (Nat.and_self _) (Same.refl _ _)).but.pwr (by decide)]
      rfl
    · rfl
  · rfl

theorem step_beginReq (r : PwrReq) : (beginReq s r).pwr.step = 1 ∨ (beginReq s r).pwr.step = 3 ∨ (beginReq s r).pwr.step = 5 ∨
    (beginReq s r).pwr.step = 7 := by
  obtain ⟨v, hv, -⟩ := beginReq_eq (s := s) r
  rw [hv, pwr_stepStart]
  unfold firstStep
  split
  · exact .inl rfl
  split
  · exact .inr (.inl rfl)
  split
  · exact .inr (.inr (.inl rfl))
  · exact .inr (.inr (.inr rfl))

theorem entryStep_hot {r : PwrReq} (hhot : r.hot = true) (h : s.pwr.step = 1) : entryStep s r = stepPathsOff s r.target := by
  have hnone : abortPoint s r = none := by rw [abortPoint, if_pos hhot]
  unfold entryStep
  simp only [h, if_pos hhot, hnone]

theorem entryStep_three {r : PwrReq} (h : s.pwr.step = 3) : entryStep s r = entryDone 3 (stepLinkIdle s) r := by
  unfold entryStep
  simp only [h]

theorem entryStep_five {r : PwrReq} (h : s.pwr.step = 5) :
    entryStep s r = entryDone 5 (if rbit s .pwrCfg [] 0 then raise (storeConfig s) 231 0 NA else s) r := by
  unfold entryStep
  simp only [h]

theorem entryStep_seven {r : PwrReq} (h : s.pwr.step = 7) :
    entryStep s r = entryDone 7 (setLevel { s with pwr := { s.pwr with depth := 4 } } 5) r := by
  unfold entryStep
  simp only [h]

/-- The first step of an entry that a shutdown begins (R564). -/
theorem RoundKeeps.of_entryStep {r : PwrReq} (hhot : r.hot = true)
    (hstep : s.pwr.step = 1 ∨ s.pwr.step = 3 ∨ s.pwr.step = 5 ∨ s.pwr.step = 7) : RoundKeeps s (entryStep s r) := by
  rcases hstep with h | h | h | h
  · rw [entryStep_hot hhot h]
    exact .of_stepPathsOff ..
  · rw [entryStep_three h]
    have hidle := (stepLinkIdle_same (Nat.and_self _) (Same.refl _ s)).but
    exact (RoundKeeps.of_but hidle (by decide) (by decide) (by decide) (hkClock_of_hk (hidle.hk (by decide)))).trans (.of_entryDone hhot 3)
  · rw [entryStep_five h]
    refine RoundKeeps.trans ?_ (.of_entryDone hhot 5)
    split
    · have hstore := (storeConfig_same (Nat.and_self _) (Same.refl _ s)).but
      exact (RoundKeeps.of_but hstore (by decide) (by decide) (by decide) (hkClock_of_hk (hstore.hk (by decide)))).raise ..
    · exact .refl s
  · rw [entryStep_seven h]
    have hdepth : RoundKeeps s { s with pwr := { s.pwr with depth := 4 } } := .of_hk rfl rfl rfl
    generalize ({ s with pwr := { s.pwr with depth := 4 } } : State) = v at *
    exact (hdepth.trans (.of_wr (by decide) ..)).trans (.of_entryDone hhot 7)

/-! ## The shutdown -/

theorem RoundKeeps.of_settle (new : Nat) : RoundKeeps s (settle s new) :=
  .of_but (settle_same new (Nat.and_self _) (Same.refl _ s)).but (by decide) (by decide) (by decide) (hkClock_settle new)

theorem RoundKeeps.of_leaveEntry (target : Nat) : RoundKeeps s (leaveEntry s target) :=
  .of_but (leaveEntry_same target (Nat.and_self _) (Same.refl _ s)).but (by decide) (by decide) (by decide) (hkClock_leaveEntry target)

theorem RoundKeeps.of_thermalShutdown (hottest : Nat) : RoundKeeps s (thermalShutdown s hottest) := by
  have hfall : RoundKeeps s (Machine.raise (wbit (allDrainsFall s) .thmStat [] 18 true) 203 hottest NA) :=
    ((RoundKeeps.of_wr (id := .bdacDrnStat) (by decide) [] 0).trans (.of_status (hi := 18) (lo := 18) (by decide) (by decide))).raise ..
  unfold thermalShutdown
  dsimp only
  generalize Machine.raise (wbit (allDrainsFall s) .thmStat [] 18 true) 203 hottest NA = v at *
  have hqueue : RoundKeeps v (if v.pwr.req.isSome ∨ v.pwr.queue.isSome ∨ v.pwr.switch.isSome then reqStatus (setQueue v none) 5 else v) := by
    split
    · have hq := (setQueue_same none (Nat.and_self _) (Same.refl _ v)).but
      exact (RoundKeeps.of_but hq (by decide) (by decide) (by decide) (hkClock_of_hk (setQueue_hk none))).trans (.of_wr (by decide) ..)
    · exact .refl v
  replace hqueue := hfall.trans hqueue
  generalize (if v.pwr.req.isSome ∨ v.pwr.queue.isSome ∨ v.pwr.switch.isSome then reqStatus (setQueue v none) 5 else v) = w at *
  have hpwr (p : Pwr) : RoundKeeps w { w with pwr := p } := .of_hk rfl rfl rfl
  refine hqueue.trans ?_
  split
  · refine RoundKeeps.trans ?_ (.of_entryStep rfl (step_beginReq _))
    exact (hpwr _).trans (.of_beginReq _)
  split
  · split
    · exact (hpwr _).trans (.of_leaveEntry 2)
    · exact (hpwr _).trans (.of_settle _)
  · split
    · exact hpwr _
    · exact hpwr _

theorem RoundKeeps.of_shutdownEnds : RoundKeeps s (shutdownEnds s) := by
  unfold shutdownEnds
  split
  · refine (RoundKeeps.of_status (hi := 18) (lo := 18) (v := 0) (by decide) (by decide)).trans ?_
    change RoundKeeps (wbit s .thmStat [] 18 false) _
    dsimp only
    split
    · exact .of_but (startQueued_same (Nat.and_self _) (Same.refl _ _)).but (by decide) (by decide) (by decide) hkClock_startQueued
    · exact .refl _
  · exact .refl s

theorem RoundKeeps.of_roundShutdown : RoundKeeps s (roundShutdown s) := by
  have hhk (b : Bool) : RoundKeeps s { s with hk := { s.hk with hot := b } } := .of_hk rfl rfl rfl
  unfold roundShutdown
  dsimp only
  split
  · exact (hhk _).trans (.of_thermalShutdown _)
  · exact (hhk _).trans .of_shutdownEnds

theorem RoundKeeps.of_throttle (d : Int) : RoundKeeps s (throttle s d) := by
  have hlevel (v : Nat) : RoundKeeps s (wf { s with hk := { s.hk with cool := 0 } } .thmStat [] 17 16 v) :=
    (RoundKeeps.of_hk rfl rfl rfl : RoundKeeps s { s with hk := { s.hk with cool := 0 } }).trans (.of_status (by decide) (by decide))
  unfold throttle
  extract_lets old thr up
  split
  · exact (hlevel _).raise ..
  split
  · split
    · exact (hlevel _).raise ..
    · exact .of_hk rfl rfl rfl
  · exact .of_hk rfl rfl rfl

theorem RoundKeeps.of_roundPaths : RoundKeeps s (roundPaths s) := by
  unfold roundPaths
  exact .of_hk rfl rfl (hkClock_of_parts rfl rfl)

end Sys2Proof.Machine
end

section
/-!
The later stages of a housekeeping round: amplifiers, core voltage, fans and monitors (R553 to R567, R627), for O52.
-/

namespace Sys2Proof.Machine

set_option Elab.async false

variable {s t u : State} {n : Nat}

/-! ## What moves neither the round's number nor its time -/

@[simp] theorem hkClock_wr (id : RegId) (ix : List Nat) (v : Nat) : hkClock (wr s id ix v) = hkClock s := rfl

@[simp] theorem hkClock_wf (id : RegId) (ix : List Nat) (hi lo v : Nat) : hkClock (wf s id ix hi lo v) = hkClock s := rfl

@[simp] theorem hkClock_wbit (id : RegId) (ix : List Nat) (i : Nat) (b : Bool) : hkClock (wbit s id ix i b) = hkClock s := rfl

@[simp] theorem hkClock_raise (src inst aux : Nat) : hkClock (raise s src inst aux) = hkClock s := hkClock_of_hk (raise_hk ..)

@[simp] theorem hkClock_setAmp (a : Nat) (x : Amp) : hkClock (s.setAmp a x) = hkClock s := rfl

@[simp] theorem hkClock_setDpd (p : Nat) (x : Dpd) : hkClock (s.setDpd p x) = hkClock s := rfl

@[simp] theorem hkClock_setFan (k : Nat) (x : Fan) : hkClock (s.setFan k x) = hkClock s := rfl

@[simp] theorem hkClock_setMon (m : Nat) (x : Mon) : hkClock (s.setMon m x) = hkClock s := rfl

@[simp] theorem hkClock_draw (b : Nat) : hkClock (draw s b).2 = hkClock s := rfl

@[simp] theorem hkClock_setBias (c : Nat) (x : Bias) : hkClock (s.setBias c x) = hkClock s := rfl

theorem hkClock_strobeUndone (c : Nat) : hkClock (strobeUndone s c) = hkClock s := by
  unfold strobeUndone
  dsimp only
  split
  · exact (hkClock_wr ..).trans (hkClock_setBias ..)
  · rfl

theorem hkClock_failPath (p : Nat) : hkClock (failPath s p) = hkClock s :=
  hkClock_of_hk ((failPath_same p (Nat.and_self _) (Same.refl _ s)).but.hk (by decide))

theorem hkClock_drainFall (a : Nat) : hkClock (drainFall s a) = hkClock s :=
  hkClock_of_hk ((drainFall_same a (Nat.and_self _) (Same.refl _ s)).but.hk (by decide))

theorem hkClock_setFlag (id : RegId) (ix : List Nat) (i : Nat) : hkClock (setFlag s id ix i) = hkClock s :=
  hkClock_of_hk (setFlag_hk ..)

theorem hkClock_foldl {α : Type} {f : State → α → State} (l : List α) (hf : ∀ v x, hkClock (f v x) = hkClock v) :
    hkClock (l.foldl f s) = hkClock s :=
  List.foldlRecOn (motive := fun v => hkClock v = hkClock s) l f rfl fun v hv x _ => (hf v x).trans hv

theorem hkClock_ampFault (a cause : Nat) : hkClock (ampFault s a cause) = hkClock s := by
  unfold ampFault
  split
  · rfl
  · extract_lets s0 s1 s2
    have h0 : hkClock s0 = hkClock s := hkClock_foldl _ fun v c => hkClock_strobeUndone c
    have h1 : hkClock s1 = hkClock s := (hkClock_wbit ..).trans ((hkClock_setFlag ..).trans ((hkClock_drainFall a).trans h0))
    exact (hkClock_failPath a).trans ((hkClock_raise ..).trans h1)

theorem hkClock_ampRound (a : Nat) : hkClock (ampRound s a) = hkClock s := by
  unfold ampRound
  extract_lets w src y s1 x stale s2 d s3 hot s4 r s5
  have h1 : hkClock s1 = hkClock s := by
    unfold s1
    split
    · exact hkClock_setAmp ..
    · rfl
  have h4 : hkClock s4 = hkClock s := (hkClock_setAmp ..).trans ((hkClock_setDpd ..).trans ((hkClock_wbit ..).trans h1))
  have h5 : hkClock s5 = hkClock s := by
    unfold s5
    split
    · split
      · exact (hkClock_ampFault ..).trans ((hkClock_raise ..).trans h4)
      · exact (hkClock_raise ..).trans h4
    · exact h4
  split
  · split
    · exact (hkClock_wf ..).trans ((hkClock_wf ..).trans ((hkClock_wf ..).trans h5))
    · exact (hkClock_wf ..).trans ((hkClock_wf ..).trans ((hkClock_wf ..).trans ((hkClock_draw 65536).trans ((hkClock_draw 65536).trans h5))))
  · exact h5

/-! ## The stages keep what the sensors showed -/

theorem RoundKeeps.of_ampRound (a : Nat) : RoundKeeps s (ampRound s a) :=
  .of_but (ampRound_same a (Nat.and_self _) (Same.refl _ s)).but (by decide) (by decide) (by decide) (hkClock_ampRound a)

theorem hkClock_avs (k : Nat) : hkClock { s with hk := { s.hk with avs := k } } = hkClock s := rfl

theorem rf_avs (k : Nat) (id : RegId) (ix : List Nat) (hi lo : Nat) : rf { s with hk := { s.hk with avs := k } } id ix hi lo = rf s id ix hi lo := rfl

theorem hkClock_coreVoltage (mv : Nat) : hkClock (coreVoltage s mv) = hkClock s := by
  unfold coreVoltage
  extract_lets s1 vt k h s2
  have h1 : hkClock s1 = hkClock s := hkClock_wf ..
  have h2 : hkClock s2 = hkClock s := (hkClock_avs k).trans h1
  split
  · split
    · exact (hkClock_raise ..).trans ((hkClock_wbit ..).trans h2)
    · exact h2
  · exact (hkClock_avs 0).trans h1

theorem RoundKeeps.of_coreVoltage (mv : Nat) : RoundKeeps s (coreVoltage s mv) :=
  .of_but (coreVoltage_same mv (Nat.and_self _) (Same.refl _ s)).but (by decide) (by decide) (by decide) (hkClock_coreVoltage mv)

theorem hkClock_fanUpdate (k : Nat) : hkClock (fanUpdate s k) = hkClock s := by
  unfold fanUpdate
  dsimp only
  refine (hkClock_wbit ..).trans ((hkClock_wf ..).trans ?_)
  split
  · exact hkClock_setFan ..
  · rfl

theorem hkClock_fanWatchdog (k : Nat) : hkClock (fanWatchdog s k) = hkClock s := by
  unfold fanWatchdog
  dsimp only
  split
  · exact (hkClock_fanUpdate k).trans ((hkClock_raise ..).trans (hkClock_wbit ..))
  · rfl

theorem hkClock_monTrigger (m : Nat) : hkClock (monTrigger s m) = hkClock s := by
  unfold monTrigger
  split
  · rfl
  split
  · exact (hkClock_setMon ..).trans ((hkClock_wf ..).trans (hkClock_wbit ..))
  split
  · exact hkClock_wbit ..
  · exact (hkClock_raise ..).trans ((hkClock_wr ..).trans (hkClock_setFlag ..))

theorem hkClock_roundMonitor (m : Nat) : hkClock (roundMonitor s m) = hkClock s := by
  unfold roundMonitor
  dsimp only
  split
  · exact hkClock_monTrigger m
  · split
    · exact hkClock_monTrigger m
    · rfl
  · split
    · exact (hkClock_monTrigger m).trans (hkClock_setMon ..)
    · rfl
  · rfl

/-- What stands once the core voltage is measured, too: the measurement. -/
structure VoltageKeeps (s t : State) : Prop extends RoundKeeps s t where
  avs : rd t .pwrAvs [] = rd s .pwrAvs []

theorem VoltageKeeps.refl (s : State) : VoltageKeeps s s := ⟨.refl s, rfl⟩

theorem VoltageKeeps.trans (h : VoltageKeeps s t) (h' : VoltageKeeps t u) : VoltageKeeps s u :=
  ⟨h.toRoundKeeps.trans h'.toRoundKeeps, h'.avs.trans h.avs⟩

/-- By its frame, a step whose registers are neither those of the sensors nor that of the core voltage. -/
theorem VoltageKeeps.of_but {ps : List Part} {ids : List RegId} (h : SameBut ps ids s t) (hr : .regs ∉ ps) (hs : .straps ∉ ps)
    (hids : ∀ id ∈ ids, NoSensor id ∧ ((regRow id).addr + regSpan id < (regRow .pwrAvs).addr ∨
      (regRow .pwrAvs).addr + regSpan .pwrAvs < (regRow id).addr)) (hclock : hkClock t = hkClock s) : VoltageKeeps s t :=
  ⟨.of_but h hr hs (fun id hid => (hids id hid).1) hclock, h.rd_eq_apart hr hs fun id hid => (hids id hid).2⟩

theorem VoltageKeeps.of_fans (k : Nat) : VoltageKeeps s (fanStall (fanWatchdog (fanUpdate s k) k) k) := by
  have hupdate : VoltageKeeps s (fanUpdate s k) :=
    .of_but (fanUpdate_same k (Nat.and_self _) (Same.refl _ s)).but (by decide) (by decide) (by decide) (hkClock_fanUpdate k)
  have hdog (v : State) : VoltageKeeps v (fanWatchdog v k) :=
    .of_but (fanWatchdog_same k (Nat.and_self _) (Same.refl _ v)).but (by decide) (by decide) (by decide) (hkClock_fanWatchdog k)
  have hstall (v : State) : VoltageKeeps v (fanStall v k) := by
    have h := (fanStall_same k (Nat.and_self _) (Same.refl _ v)).but
    exact .of_but h (by decide) (by decide) (by decide) (hkClock_of_hk (h.hk (by decide)))
  exact (hupdate.trans (hdog _)).trans (hstall _)

theorem VoltageKeeps.foldl {α : Type} {f : State → α → State} (l : List α) (hf : ∀ v x, VoltageKeeps v (f v x)) (s : State) :
    VoltageKeeps s (l.foldl f s) :=
  List.foldlRecOn (motive := fun v => VoltageKeeps s v) l f (.refl s) fun v hv x _ => hv.trans (hf v x)

theorem VoltageKeeps.of_roundMonitor (m : Nat) : VoltageKeeps s (roundMonitor s m) :=
  .of_but (roundMonitor_same m (Nat.and_self _) (Same.refl _ s)).but (by decide) (by decide) (by decide) (hkClock_roundMonitor m)

theorem VoltageKeeps.of_sharedResults (a b : Int) : VoltageKeeps s (sharedResults s a b) := by
  have h := (sharedResults_same a b (Nat.and_self _) (Same.refl _ s)).but
  exact .of_but h (by decide) (by decide) (by decide) (hkClock_of_hk (h.hk (by decide)))

theorem VoltageKeeps.of_roundReplicas (bad : List Nat) : VoltageKeeps s (roundReplicas s bad) := by
  have h := (roundReplicas_same bad (Nat.and_self _) (Same.refl _ s)).but
  exact .of_but h (by decide) (by decide) (by decide) (hkClock_of_hk (h.hk (by decide)))

theorem rf_coreVoltage (mv : Nat) : rf (coreVoltage s mv) .pwrAvs [] 25 16 = mv % 1024 := by
  have hwf : rf (wf s .pwrAvs [] 25 16 mv) .pwrAvs [] 25 16 = mv % 1024 := rf_wf _ _ _ _ _ _ (by decide) (by decide)
  unfold coreVoltage
  extract_lets s1 vt k h s2
  split
  · split
    · rw [rf, rd_raise (by decide), ← rf]
      exact (rf_wf_apart _ _ _ _ _ _ _ _ (by decide) (by decide) (.inr (by decide)) (by decide)).trans ((rf_avs ..).trans hwf)
    · exact (rf_avs ..).trans hwf
  · exact (rf_avs ..).trans hwf

end Sys2Proof.Machine
end

section
/-!
A housekeeping round with every sensor valid (R560, R658), and the settlement of O52.
-/

namespace Sys2Proof.Machine

set_option Elab.async false

variable {s t u : State} {n : Nat} {readings : List Int}

/-! ## The median of the neighbours -/

theorem mem_insInt {x y : Int} {l : List Int} (h : y ∈ insInt x l) : y = x ∨ y ∈ l := by
  induction l with
  | nil => exact .inl (List.mem_singleton.1 h)
  | cons z l ih =>
    rw [insInt] at h
    split at h
    · exact List.mem_cons.1 h
    · rcases List.mem_cons.1 h with rfl | h
      · exact .inr List.mem_cons_self
      · exact (ih h).imp_right (List.mem_cons_of_mem _)

theorem length_insInt (x : Int) (l : List Int) : (insInt x l).length = l.length + 1 := by
  induction l with
  | nil => rfl
  | cons z l ih =>
    rw [insInt]
    split
    · rfl
    · rw [List.length_cons, ih, List.length_cons]

theorem sorted_leaves (l a : List Int) : (∀ y ∈ l.foldl (fun a x => insInt x a) a, y ∈ a ∨ y ∈ l) ∧
    (l.foldl (fun a x => insInt x a) a).length = a.length + l.length := by
  induction l generalizing a with
  | nil => exact ⟨fun y hy => .inl hy, rfl⟩
  | cons x l ih =>
    obtain ⟨hmem, hlen⟩ := ih (insInt x a)
    refine ⟨fun y hy => ?_, ?_⟩
    · rcases hmem y hy with h | h
      · rcases mem_insInt h with rfl | h
        · exact .inr List.mem_cons_self
        · exact .inl h
      · exact .inr (List.mem_cons_of_mem _ h)
    · rw [List.foldl_cons, hlen, length_insInt, List.length_cons]
      omega

/-- The median lies between bounds of what it is taken of. -/
theorem median_bounds {l : List Int} {lo hi : Int} (hne : 0 < l.length) (hl : ∀ y ∈ l, lo ≤ y ∧ y ≤ hi) :
    lo ≤ (median l).getD 0 ∧ (median l).getD 0 ≤ hi := by
  obtain ⟨hmem, hlen⟩ := sorted_leaves l []
  rw [List.length_nil, Nat.zero_add] at hlen
  unfold median
  generalize l.foldl (fun a x => insInt x a) [] = a at *
  have ha (i : Nat) (hi' : i < a.length) : lo ≤ a[i] ∧ a[i] ≤ hi := hl _ ((hmem _ (List.getElem_mem hi')).resolve_left List.not_mem_nil)
  dsimp only
  rw [if_neg (by omega)]
  split
  · rw [List.getElem?_eq_getElem (by omega)]
    exact ha _ (by omega)
  · rw [Option.getD_some, List.getD_eq_getElem _ _ (by omega : a.length / 2 - 1 < a.length), List.getD_eq_getElem _ _ (by omega : a.length / 2 < a.length)]
    have h1 := ha (a.length / 2 - 1) (by omega)
    have h2 := ha (a.length / 2) (by omega)
    omega

theorem lt_of_mem_neighbours {x y : Nat} (hx : x < 96) (h : y ∈ neighbours x) : y < 96 := by
  have hall : ∀ x < 96, ∀ y ∈ neighbours x, y < 96 := by decide
  exact hall x hx y h

/-! ## A sensor that stays valid -/

/-- Readings that no sensor loses its validity by: in range, and none far from another. -/
structure Calm (readings : List Int) : Prop where
  range : ∀ x < 96, -3520 ≤ readings.getD x 0 ∧ readings.getD x 0 ≤ 9600
  near : ∀ x < 96, ∀ y < 96, readings.getD x 0 ≤ readings.getD y 0 + 512

theorem Calm.median (h : Calm readings) {x : Nat} (hx : x < 96) (p : Nat → Bool) (hne : 2 ≤ ((neighbours x).filter p).length) :
    (readings.getD x 0 - (median (((neighbours x).filter p).map (fun i => readings.getD i 0))).getD 0).natAbs ≤ 512 := by
  have hb := median_bounds (l := ((neighbours x).filter p).map (fun i => readings.getD i 0)) (lo := readings.getD x 0 - 512)
    (hi := readings.getD x 0 + 512) (by rw [List.length_map]; omega) fun y hy => by
      obtain ⟨i, hi, rfl⟩ := List.mem_map.1 hy
      have hlt := lt_of_mem_neighbours hx (List.mem_of_mem_filter hi)
      have h1 := h.near x hx i hlt
      have h2 := h.near i hlt x hx
      omega
  omega

/-- What a valid sensor leaves: its reading, and its flag clear. -/
theorem senseOne_of_valid (h : Calm readings) {x : Nat} (hx : x < 96) {valid : List Nat} (hv : x ∈ valid) : ∃ u,
    senseOne valid readings [] s x = (if x < 64 then wbit (wr u .thmSens [x] (ofSigned 16 (readings.getD x 0))) .thmBroken0 [] x false
      else wbit (wr u .thmSens [x] (ofSigned 16 (readings.getD x 0))) .thmBroken1 [] (x - 64) false) ∧
    u.regs = s.regs ∧ u.straps = s.straps ∧ hkClock u = hkClock s := by
  have hmed := h.median hx (fun x => decide (x ∈ valid))
  obtain ⟨hlow, hhigh⟩ := h.range x hx
  unfold senseOne
  extract_lets r nb med wasValid outside far near good nowValid hk s1 s2 s3
  have hwas : wasValid = true := decide_eq_true hv
  have hin : outside = false := by
    have hl : ¬ r < -55 * 64 := by unfold r; omega
    have hh : ¬ 150 * 64 < r := by unfold r; omega
    unfold outside
    rw [decide_eq_false List.not_mem_nil, decide_eq_false hl, decide_eq_false hh]
    rfl
  have hfar : far = false := by
    unfold far
    rcases Nat.lt_or_ge nb.length 2 with hl | hl
    · rw [decide_eq_false (by omega), Bool.false_and]
    · have hm : ¬ 512 < (r - med).natAbs := Nat.not_lt.2 (hmed hl)
      rw [decide_eq_false hm, Bool.and_false]
  have hnow : nowValid := by
    unfold nowValid
    rw [if_pos hwas, hin, hfar]
    exact Bool.false_ne_true
  refine ⟨s1, ?_, rfl, rfl, hkClock_of_parts rfl rfl⟩
  rw [if_neg (fun h => h.2 hnow), if_neg (fun h => h.1 hwas)]
  unfold s3 s2
  rw [if_pos hnow, decide_eq_false (not_not_intro hnow)]

theorem regAddr_thmSens_ne {x y : Nat} (hx : x < 96) (hy : y < 96) (h : x ≠ y) : regAddr .thmSens [x] ≠ regAddr .thmSens [y] := by
  show 0x1800003100 + 4 * (x % 96) ≠ 0x1800003100 + 4 * (y % 96)
  omega

/-- After the first sensors of a round: their readings, no flag set, the round's number and time as they were. -/
structure Sensed (readings : List Int) (k : Nat) (s t : State) : Prop where
  clock : hkClock t = hkClock s
  sens : ∀ x < k, rf t .thmSens [x] 15 0 = ofSigned 16 (readings.getD x 0)
  broken : ∀ x < 64, rbit t .thmBroken0 [] x = false

theorem Sensed.senseOne (h : Sensed readings n s t) (hcalm : Calm readings) (hn : n < 96) {valid : List Nat} (hv : n ∈ valid) :
    Sensed readings (n + 1) s (senseOne valid readings [] t n) := by
  obtain ⟨u, hu, hregs, hstraps, hclock⟩ := senseOne_of_valid (s := t) hcalm hn hv
  have hread (id : RegId) (ix : List Nat) : rd u id ix = rd t id ix := rd_eq_of_regs hregs hstraps ..
  have hsens : ∀ x < n + 1, rf (wr u .thmSens [n] (ofSigned 16 (readings.getD n 0))) .thmSens [x] 15 0 = ofSigned 16 (readings.getD x 0) := by
    intro x hx
    rcases Nat.lt_succ_iff_lt_or_eq.1 hx with hlt | rfl
    · rw [rf, rd_wr_other _ _ _ _ _ _ (regAddr_thmSens_ne (by omega) hn (by omega)), hread]
      exact h.sens x hlt
    · rw [rf, rd_wr_same, bitsOf_mod_two_pow _ (by decide) (by decide)]
      exact Nat.mod_eq_of_lt (ofSigned_lt ..)
  have hflag : ∀ x < 64, rbit (wr u .thmSens [n] (ofSigned 16 (readings.getD n 0))) .thmBroken0 [] x = false := fun x hx => by
    rw [rbit, rd_wr_other _ _ _ _ _ _ (regAddr_ne _ _ (by decide)), hread]
    exact h.broken x hx
  have hclk : hkClock (wr u .thmSens [n] (ofSigned 16 (readings.getD n 0))) = hkClock s := hclock.trans h.clock
  rw [hu]
  generalize wr u .thmSens [n] (ofSigned 16 (readings.getD n 0)) = v at *
  split
  · refine ⟨hclk, fun x hx => ?_, fun x hx => ?_⟩
    · rw [rf, rd_wbit_other _ _ _ _ _ _ _ (regAddr_ne _ _ (by decide))]
      exact hsens x hx
    · by_cases hxn : x = n
      · rw [hxn]
        exact rbit_wbit _ _ _ _ _ (show n < 64 by assumption)
      · rw [rbit_wbit_apart _ (show x < 64 from hx) hxn]
        exact hflag x hx
  · refine ⟨hclk, fun x hx => ?_, fun x hx => ?_⟩
    · rw [rf, rd_wbit_other _ _ _ _ _ _ _ (regAddr_ne _ _ (by decide))]
      exact hsens x hx
    · rw [rbit, rd_wbit_other _ _ _ _ _ _ _ (regAddr_ne _ _ (by decide))]
      exact hflag x hx

theorem sensed_foldl (hcalm : Calm readings) (hb : ∀ x < 64, rbit s .thmBroken0 [] x = false) {valid : List Nat} (hv : ∀ x < 96, x ∈ valid)
    {k : Nat} (hk : k ≤ 96) : Sensed readings k s ((List.range k).foldl (senseOne valid readings []) s) := by
  induction k with
  | zero => exact ⟨rfl, fun x hx => absurd hx (Nat.not_lt_zero x), hb⟩
  | succ k ih =>
    rw [List.range_succ, List.foldl_append]
    exact (ih (by omega)).senseOne hcalm (by omega) (hv k (by omega))

/-! ## The die's temperature -/

theorem toSigned_ofSigned_sensor {r : Int} (hl : -3520 ≤ r) (hh : r ≤ 9600) : toSigned 16 (ofSigned 16 r) = r := by
  have hcut : toSigned 16 (ofSigned 16 r) = if ofSigned 16 r % 65536 < 32768 then (ofSigned 16 r % 65536 : Int) else ofSigned 16 r % 65536 - 65536 := rfl
  have hval : (ofSigned 16 r : Int) = r % 65536 := Int.toNat_of_nonneg (Int.emod_nonneg _ (by decide))
  rw [hcut]
  split <;> omega

theorem Sensed.sensor (h : Sensed readings 96 s t) (hcalm : Calm readings) {x : Nat} (hx : x < 96) : t.sensor x = readings.getD x 0 := by
  obtain ⟨hl, hh⟩ := hcalm.range x hx
  rw [State.sensor, h.sens x hx, toSigned_ofSigned_sensor hl hh]

/-- The larger of what stands and a sensor's reading, with the sensor. -/
def hotter (s : State) (m : Int × Nat) (x : Nat) : Int × Nat := if m.1 < s.sensor x then (s.sensor x, x) else m

theorem dieTemp_eq : dieTemp s = (List.range 96).foldl (hotter s) (s.sensor 0, 0) := rfl

theorem dieTemp_bounds : (∃ x < 96, (dieTemp s).1 = s.sensor x) ∧ ∀ x < 96, s.sensor x ≤ (dieTemp s).1 := by
  have hall (k : Nat) (hk : k ≤ 96) : (∃ x < 96, ((List.range k).foldl (hotter s) (s.sensor 0, 0)).1 = s.sensor x) ∧
      ∀ x < k, s.sensor x ≤ ((List.range k).foldl (hotter s) (s.sensor 0, 0)).1 := by
    induction k with
    | zero => exact ⟨⟨0, by decide, rfl⟩, fun x hx => absurd hx (Nat.not_lt_zero x)⟩
    | succ k ih =>
      obtain ⟨⟨y, hy, hval⟩, hle⟩ := ih (by omega)
      rw [List.range_succ, List.foldl_append, List.foldl_cons, List.foldl_nil]
      generalize (List.range k).foldl (hotter s) (s.sensor 0, 0) = m at *
      unfold hotter
      split
      · refine ⟨⟨k, by omega, rfl⟩, fun x hx => ?_⟩
        rcases Nat.lt_succ_iff_lt_or_eq.1 hx with hlt | rfl
        · have := hle x hlt
          dsimp only
          omega
        · exact Int.le_refl _
      · refine ⟨⟨y, hy, hval⟩, fun x hx => ?_⟩
        rcases Nat.lt_succ_iff_lt_or_eq.1 hx with hlt | rfl
        · exact hle x hlt
        · omega
  rw [dieTemp_eq]
  exact hall 96 (Nat.le_refl _)

/-! ## A round's stages -/

/-- The round is one more, and at this time. -/
def nextRound (s : State) : State := { s with hk := { s.hk with roundAt := s.clk.elapsed, rounds := s.hk.rounds + 1 } }

theorem hkClock_nextRound : hkClock (nextRound s) = (s.hk.rounds + 1, s.clk.elapsed) := rfl

theorem rd_nextRound (id : RegId) (ix : List Nat) : rd (nextRound s) id ix = rd s id ix := rfl

/-- A round as it begins: at its time, under its number, with the ring on the main mover moved up to now. -/
def roundStart (s : State) : State := settleServed (nextRound (reachElapsed s (s.hk.roundAt + msTicks)))

theorem roundStart_clock : hkClock (roundStart s) = (s.hk.rounds + 1, max s.clk.elapsed (s.hk.roundAt + msTicks)) := by
  have htime := reachElapsed_elapsed (s := s) (s.hk.roundAt + msTicks)
  have hhk : (reachElapsed s (s.hk.roundAt + msTicks)).hk = s.hk :=
    (reachElapsed_same (s.hk.roundAt + msTicks) (Nat.and_self _) (Same.refl _ s)).but.hk (by decide)
  unfold roundStart
  generalize reachElapsed s (s.hk.roundAt + msTicks) = u at *
  rw [hkClock_of_hk ((settleServed_same (Nat.and_self _) (Same.refl _ (nextRound u))).but.hk (by decide)), hkClock_nextRound, hhk, htime]

theorem rd_roundStart {id : RegId} (hid : ∀ r ∈ [RegId.dmaRingStat, .evtRpt], (regRow r).addr + regSpan r < (regRow id).addr ∨
    (regRow id).addr + regSpan id < (regRow r).addr) (ix : List Nat) : rd (roundStart s) id ix = rd s id ix := by
  have hreach := (rd_nextRound (s := reachElapsed s (s.hk.roundAt + msTicks)) id ix).trans (rd_reachElapsed ..)
  unfold roundStart
  generalize nextRound (reachElapsed s (s.hk.roundAt + msTicks)) = u at *
  exact ((settleServed_same (Nat.and_self _) (Same.refl _ u)).but.rd_eq_apart (by decide) (by decide) hid).trans hreach

/-- The sensors and the temperature as a calm round leaves them. -/
structure Shown (readings : List Int) (s t : State) : Prop where
  clock : hkClock t = hkClock s
  sens : ∀ x < 96, t.sensor x = readings.getD x 0
  broken : ∀ x < 64, rbit t .thmBroken0 [] x = false
  reached : ∃ x < 96, toSigned 16 (rf t .thmStat [] 15 0) = readings.getD x 0
  bound : ∀ x < 96, readings.getD x 0 ≤ toSigned 16 (rf t .thmStat [] 15 0)

theorem Shown.keeps (h : Shown readings s t) (hk : RoundKeeps t u) : Shown readings s u := by
  refine ⟨hk.clock.trans h.clock, fun x hx => ?_, fun x hx => ?_, ?_, ?_⟩
  · rw [State.sensor, hk.sens]
    exact h.sens x hx
  · rw [rbit, hk.broken]
    exact h.broken x hx
  · rw [hk.temp]
    exact h.reached
  · rw [hk.temp]
    exact h.bound

theorem shown_roundSensors (hcalm : Calm readings) (h0 : ∀ x < 64, rbit s .thmBroken0 [] x = false) (h1 : ∀ x < 32, rbit s .thmBroken1 [] x = false) :
    Shown readings s (roundSensors s readings []) := by
  have hvalid : ∀ x < 96, x ∈ (List.range 96).filter (fun x => if x < 64 then ¬ rbit s .thmBroken0 [] x else ¬ rbit s .thmBroken1 [] (x - 64)) := by
    intro x hx
    refine List.mem_filter.2 ⟨List.mem_range.2 hx, ?_⟩
    split
    · rw [h0 x (by assumption)]
      rfl
    · rw [h1 (x - 64) (by omega)]
      rfl
  have hsensed := sensed_foldl (s := s) hcalm h0 hvalid (Nat.le_refl 96)
  unfold roundSensors
  dsimp only
  generalize (List.range 96).foldl (senseOne _ readings []) s = v at *
  obtain ⟨⟨y, hy, hdie⟩, hmost⟩ := dieTemp_bounds (s := v)
  obtain ⟨hl, hh⟩ := hcalm.range y hy
  rw [hsensed.sensor hcalm hy] at hdie
  rw [hdie] at hmost ⊢
  have htemp : rf (wf v .thmStat [] 15 0 (ofSigned 16 (readings.getD y 0))) .thmStat [] 15 0 = ofSigned 16 (readings.getD y 0) :=
    (rf_wf _ _ _ _ _ _ (by decide) (by decide)).trans (Nat.mod_eq_of_lt (ofSigned_lt ..))
  have hsens (x : Nat) : rf (wf v .thmStat [] 15 0 (ofSigned 16 (readings.getD y 0))) .thmSens [x] 15 0 = rf v .thmSens [x] 15 0 :=
    congrArg (bitsOf · 15 0) (rd_wf_other _ _ _ _ _ _ _ _ (regAddr_ne _ _ (by decide)))
  have hbroken : rd (wf v .thmStat [] 15 0 (ofSigned 16 (readings.getD y 0))) .thmBroken0 [] = rd v .thmBroken0 [] :=
    rd_wf_other _ _ _ _ _ _ _ _ (regAddr_ne _ _ (by decide))
  have hclock : hkClock (wf v .thmStat [] 15 0 (ofSigned 16 (readings.getD y 0))) = hkClock s := hsensed.clock
  have hback : toSigned 16 (ofSigned 16 (readings.getD y 0)) = readings.getD y 0 := toSigned_ofSigned_sensor hl hh
  generalize wf v .thmStat [] 15 0 (ofSigned 16 (readings.getD y 0)) = w at *
  have hshown : Shown readings s w := by
    refine ⟨hclock, fun x hx => ?_, fun x hx => ?_, ⟨y, hy, by rw [htemp, hback]⟩, fun x hx => ?_⟩
    · rw [State.sensor, hsens]
      exact hsensed.sensor hcalm hx
    · rw [rbit, hbroken]
      exact hsensed.broken x hx
    · rw [htemp, hback, ← hsensed.sensor hcalm hx]
      exact hmost x hx
  exact hshown.keeps ((RoundKeeps.of_status (by decide) (by decide)).trans (.of_throttle _))

/-- The results of the shared channel, when it was converted. -/
def roundShared (s : State) (shared : Option (Int × Int)) : State :=
  match shared with
  | some (a, b) => if s.hk.rounds % max 1 (rf s .monShared [] 15 6) = 0 then sharedResults s a b else s
  | none => s

/-- The fans of a round. -/
def roundFans (s : State) : State := (List.range 4).foldl (fun s n => fanStall (fanWatchdog (fanUpdate s n) n) n) s

/-- A round from its readings to the amplifiers. -/
def roundHeat (s : State) (readings : List Int) : State :=
  (List.range 64).foldl ampRound (roundPaths (roundShutdown (roundSensors (roundStart s) readings [])))

theorem exec_housekeepingRound_stages (hup : (s.island 33).off = false) (readings : List Int) (shared : Option (Int × Int)) (v : Nat)
    (l : List Nat) : exec (.housekeepingRound readings [] shared v l) s =
      .next (roundReplicas (roundShared (roundMonitor (roundMonitor (roundFans (coreVoltage (roundHeat s readings) v)) 0) 1) shared) l) :=
  if_neg (by rw [hup]; exact Bool.false_ne_true)

theorem VoltageKeeps.of_roundShared (shared : Option (Int × Int)) : VoltageKeeps s (roundShared s shared) := by
  unfold roundShared
  split
  · split
    · exact .of_sharedResults ..
    · exact .refl s
  · exact .refl s

theorem shown_roundHeat (hcalm : Calm readings) (h0 : ∀ x < 64, rbit s .thmBroken0 [] x = false) (h1 : ∀ x < 32, rbit s .thmBroken1 [] x = false) :
    Shown readings (roundStart s) (roundHeat s readings) := by
  have hsensors := shown_roundSensors (s := roundStart s) hcalm
    (fun x hx => by rw [rbit, rd_roundStart (by decide)]; exact h0 x hx) (fun x hx => by rw [rbit, rd_roundStart (by decide)]; exact h1 x hx)
  exact ((hsensors.keeps .of_roundShutdown).keeps .of_roundPaths).keeps (.foldl _ (fun _ _ => .of_ampRound _) _)

theorem completes_housekeepingRound (hup : (s.island 33).off = false) (h0 : ∀ x < 64, rbit s .thmBroken0 [] x = false)
    (h1 : ∀ x < 32, rbit s .thmBroken1 [] x = false) (hcalm : Calm readings) (shared : Option (Int × Int)) (v : Nat) (l : List Nat) :
    Completes (.housekeepingRound readings [] shared v l) s fun t =>
      t.hk.rounds = s.hk.rounds + 1 ∧ t.hk.roundAt = max s.clk.elapsed (s.hk.roundAt + msTicks) ∧
      (∀ x < 96, t.sensor x = readings.getD x 0) ∧ (∀ x < 64, rbit t .thmBroken0 [] x = false) ∧
      (∃ x < 96, toSigned 16 (rf t .thmStat [] 15 0) = readings.getD x 0) ∧
      (∀ x < 96, readings.getD x 0 ≤ toSigned 16 (rf t .thmStat [] 15 0)) ∧ rf t .pwrAvs [] 25 16 = v % 1024 := by
  have hheat := (shown_roundHeat (s := s) hcalm h0 h1).keeps (.of_coreVoltage v)
  have hvolt := rf_coreVoltage (s := roundHeat s readings) v
  have hexec := exec_housekeepingRound_stages hup readings shared v l
  have hclock := roundStart_clock (s := s)
  generalize roundStart s = s1 at *
  generalize coreVoltage (roundHeat s readings) v = u at *
  have hfans : VoltageKeeps u (roundFans u) := .foldl _ (fun _ k => .of_fans k) u
  have hrest := ((hfans.trans (.of_roundMonitor 0)).trans (.of_roundMonitor 1)).trans ((VoltageKeeps.of_roundShared shared).trans (.of_roundReplicas l))
  generalize roundReplicas (roundShared (roundMonitor (roundMonitor (roundFans u) 0) 1) shared) l = w at *
  obtain ⟨hclk, hsens, hbroken, hsome, hmost⟩ := hheat.keeps hrest.toRoundKeeps
  rw [hclock] at hclk
  exact ⟨w, hexec, congrArg Prod.fst hclk, congrArg Prod.snd hclk, hsens, hbroken, hsome, hmost,
    (congrArg (bitsOf · 25 16) hrest.avs).trans hvolt⟩

theorem completes_housekeepingRound_of_off (hoff : (s.island 33).off = true) (readings : List Int) (shared : Option (Int × Int)) (v : Nat)
    (l : List Nat) : Completes (.housekeepingRound readings [] shared v l) s fun t => t = s :=
  ⟨s, if_pos hoff, rfl⟩

/-- Settles O52: a calm round keeps every sensor valid, and its later stages write no register that shows them. -/
theorem thermalCommandsComplete : Obligations.ThermalCommandsComplete := by
  unfold Obligations.ThermalCommandsComplete
  exact ⟨fun _ _ shared v l hup h0 h1 hrange hnear => completes_housekeepingRound hup h0 h1 ⟨hrange, hnear⟩ shared v l,
    fun _ r shared v l hoff => completes_housekeepingRound_of_off hoff r shared v l,
    fun _ _ => completes_thermalCarrierDrop, fun _ _ => completes_fanWatchdogExpiry, fun _ _ => completes_thmFanStall,
    fun _ _ => completes_tachEdge, fun _ _ => completes_vtargetUpdate⟩

end Sys2Proof.Machine
end
